-- ==== Sys2Proof/Word.lean ====
section
/-! DEFINITION. Words and the plainest arithmetic on them: the 32-bit register word, the byte, two's complement
readings of a field of `w` bits (R10, R11), and saturation. -/

namespace Sys2Proof

/-- A byte of a memory. -/
abbrev Byte := BitVec 8
/-- A 32-bit register word (R11). -/
abbrev Word := BitVec 32
/-- Two register words read or written together (R17 to R20). -/
abbrev DWord := BitVec 64

/-- The field value `n` of `w` bits read as two's complement (R10). -/
def sx (w n : Nat) : Int :=
  if n % 2 ^ w < 2 ^ (w - 1) then (n % 2 ^ w : Nat) else ((n % 2 ^ w : Nat) : Int) - (2 ^ w : Nat)

/-- The `w`-bit two's complement pattern of `z`. -/
def ux (w : Nat) (z : Int) : Nat := (z % ((2 ^ w : Nat) : Int)).toNat

/-- `z` limited to `lo` to `hi`. -/
def clampI (lo hi z : Int) : Int := max lo (min hi z)

/-- `n` limited to `lo` to `hi`. -/
def clampN (lo hi n : Nat) : Nat := max lo (min hi n)

/-- A counter of `w` bits that saturates. -/
def satAdd (w a b : Nat) : Nat := min (2 ^ w - 1) (a + b)

/-- Bits `hi` down to `lo` of `n`. -/
def bitsOf (n hi lo : Nat) : Nat := n / 2 ^ lo % 2 ^ (hi + 1 - lo)

/-- Bit `b` of `n`. -/
def bitAt (n b : Nat) : Bool := n / 2 ^ b % 2 == 1

/-- A Boolean as a one-bit field. -/
def b2n (b : Bool) : Nat := if b then 1 else 0

/-- `n` with bit `b` set. -/
def setBit (n b : Nat) : Nat := n ||| 2 ^ b

/-- `n` with bit `b` clear. -/
def clearBit (n b : Nat) : Nat := if bitAt n b then n - 2 ^ b else n

/-- The number of ones in the low `k` bits of `n`. -/
def popcount (k n : Nat) : Nat := ((List.range k).filter fun b => bitAt n b).length

/-- Division rounded to the nearest integer, a half away from zero. -/
def roundDiv (a : Int) (b : Nat) : Int :=
  if a < 0 then -(((-a) * 2 + b) / (2 * b)) else (a * 2 + b) / (2 * b)

end Sys2Proof
end

