-- ==== Sys2Proof/Inputs.lean ====
section
/-! DEFINITION. The operand types of the commands: who asks, what an access carries, and what the analogue front ends,
the far ends and the other agents supply with an event. All of it is plain data. -/

namespace Sys2Proof

/-- Who sends a register access (R450, R480). -/
inductive Requester where
  | pcie | smbus | postmaster0 | postmaster1 | clerk (t : Fin 4) (k : Fin 2)
  deriving DecidableEq, Repr

/-- The requester code of DMA_VIOL_INFO.REQUESTER. A clerk has no code of its own; it shows as 2 (log entry 9). -/
def Requester.code : Requester → Nat
  | .pcie => 0 | .smbus => 1 | .postmaster0 => 2 | .postmaster1 => 3 | .clerk _ _ => 2

/-- A requester outside the device: PCIe or the SMBus target (R452). -/
def Requester.isExternal : Requester → Bool
  | .pcie | .smbus => true
  | _ => false

/-- A register access in the BAR0 stream (R476, R477). Addresses are offsets in BAR0. -/
inductive Access where
  | read4 (a : BitVec 27) | read8 (a : BitVec 27)
  | write4 (a : BitVec 27) (v : Word) | write8 (a : BitVec 27) (v : DWord)
  /-- any other length or alignment: the bytes written, or for a read their number -/
  | readN (a : BitVec 27) (n : Nat) | writeN (a : BitVec 27) (bytes : List Byte)
  deriving DecidableEq, Repr

/-- A DMA descriptor as fetched from host memory (R486). -/
structure DmaDescriptor where
  host  : DWord
  dev   : DWord
  len   : BitVec 24
  flags : Byte
  tag   : BitVec 16
  /-- bytes 22 to 31 -/
  rest  : List Byte
  deriving DecidableEq, Repr

/-- How a host completion for a DMA read ends (R487). -/
inductive HostCompletion where
  | ok | poisoned | unsupported | abort
  deriving DecidableEq, Repr

/-- How a two-wire transfer ends (R565, R566): with its data, unacknowledged, or with SDA found held low. -/
inductive TwEnd where
  | done | nack | stuck
  deriving DecidableEq, Repr

/-- A symbol that a mask test looks at (R331): its decided level and equalised value, its sample index and its time. -/
structure MaskSymbol where
  level : Fin 4
  z     : Byte
  index : Nat
  time  : Nat
  deriving DecidableEq, Repr

/-- What the data path delivers for a capture block that a tap closes (R306). -/
structure BlockIn where
  /-- samples of the block, and their bytes -/
  count : Nat
  data  : List Byte
  /-- samples not recorded before the first one, beyond those that a gate leaves out (R304) -/
  skip  : Nat
  /-- the segment that holds the first sample, counted from the one in progress as the lane last counted them (R307), and
  SEG_OFFSET -/
  seg   : Int
  segOff : BitVec 16
  /-- time of the first sample, used when the tap holds no reference for the block -/
  time  : DWord
  /-- time of the first sample of the block that begins next -/
  next  : DWord
  /-- symbols since the block before, recorded or not -/
  tested : List MaskSymbol
  deriving DecidableEq, Repr

/-- What a line receive lane's loops and detectors deliver for one tick (R97, R108, R116 to R118, R139). -/
structure RxTick where
  /-- noise variance of the symbols decided j or j + 1, for the eyes j = 0 to 2, 1/16 LSB^2 -/
  var0    : BitVec 16
  var1    : BitVec 16
  var2    : BitVec 16
  /-- frequency estimate at the tick, signed, 0.01 ppm -/
  freq    : BitVec 16
  /-- RMS phase-detector error, 1/1,024 UI -/
  jitter  : Byte
  /-- the mean phase-detector output lies within 1/16 UI -/
  phaseOk : Bool
  /-- noise variance, 1/16 LSB^2 -/
  var     : BitVec 16
  /-- ADC clips of the tick -/
  clips   : Nat
  /-- measured input amplitude, 2 mV steps -/
  amplitude : Byte
  /-- the VGA code found for the CTLE trial that goes live at this tick (R97) -/
  trialVga : BitVec 6
  /-- letters of grade 0 to 3 in VALID segments -/
  grades  : List Nat
  /-- the LMS gradients that the 48 taps, the 64 corrector entries and the 4 levels have accumulated, which the step size of
  the loop scales; a shorter list ends in 0 -/
  taps    : List Int
  nlc     : List Int
  levels  : List Int
  /-- loops the clerk finds diverging and freezes, bit order as FREEZE (R113) -/
  clerk   : BitVec 5
  /-- segments that ended in the tick, beside those of the frames that SPREAD_FRAME_RECEIVED has brought, and those of them
  that ended at or after a loss of lock within it -/
  segs    : Nat
  lossSegs : Nat
  /-- letters of the segment in progress that have left the chain at the tick (R125) -/
  segPos  : Nat
  /-- symbols that the checker compared while it was locked, and of those the ones with one and with two bits in error, by
  the grade of the letter (R139) -/
  chkSyms : Nat
  chkOne  : List Nat
  chkTwo  : List Nat
  deriving DecidableEq, Repr

/-- What the header of a valid boot image says (R557): its sequence number and version. -/
structure BootImage where
  seq     : Word
  version : BitVec 16
  deriving DecidableEq, Repr

/-- What a tick brings with it (R45, R46): the categories whose work is not ready, bit c for category c; what the receive
lanes 0 to 63 deliver; the clerks whose heartbeat is missing, bit 2t + k for clerk k of tile t (R28); the DAC clips of the
transmit lanes 0 to 63; and clock lock and SNR, 0.1 dB, of the host lanes 0 to 127. A list that is shorter stands for
lanes that deliver nothing. -/
structure TickIn where
  /-- the categories whose work is not ready, carried and new -/
  late   : Byte
  rx     : List RxTick
  silent : Byte
  clips  : List Nat
  host   : List (Bool × BitVec 10)
  /-- of categories 0 and 2: the work carried over is ready, and only the new work is not -/
  lateNew : Byte
  /-- pieces of work, as category and piece, that are ready although `late` or `lateNew` names their category. The pieces of
  a category are: 0 one (R38); 1 the calibration units; 2 and 6 the receive lanes; 3 and 5 the tiles; 4 the decisions (0) and
  the scheduled demands (1); 7 the targets -/
  ready  : List (Nat × Nat)
  deriving DecidableEq, Repr

/-- R46: piece `p` of category `c` is not ready. -/
def TickIn.over (i : TickIn) (c p : Nat) : Bool := i.late.getLsbD c && !i.ready.contains (c, p)
/-- R46: what is new of piece `p` of category `c` is not ready, and what is carried over is. -/
def TickIn.overNew (i : TickIn) (c p : Nat) : Bool :=
  (c == 0 || c == 2) && i.lateNew.getLsbD c && !i.ready.contains (c, p) && !i.over c p

end Sys2Proof
end

