-- ==== Sys2Proof/Syntax.lean ====
section
/-! DEFINITION. The commands of the block: one constructor for each row of spec/opcode_table.json, with the operands the
sender supplies. An event of the table carries, as plain data, what the front end or the other agent brings with it. -/

namespace Sys2Proof

/-- The commands. -/
inductive Instr where
  /-- COLLECTION_TICK (R42): A collection tick begins when POST_TIME reaches or passes a multiple of 2^(22+k), TIME_TICK_COUNT increments and all per-tick work prepared in the previous tick goes live. -/
  | collectionTick (i : TickIn)
  /-- TICK_PERIOD_CHANGE (R44): A new tick exponent k goes live at the first multiple of 2^28 POST_TIME units after the plan's acceptance tick. -/
  | tickPeriodChange (i : TickIn)
  /-- POSTING_REQUEST (R36): A write to TIME_POST_REQ is accepted with the next sequence number or refused with FULL or SCOPE. -/
  | postingRequest (scope : BitVec 3) (index : BitVec 6)
  /-- TIME_SET_ARM (R49): Writing TIME_SET_CTRL.ARM arms a POST_TIME load or is refused on a member or for non-zero low bits. -/
  | timeSetArm
  /-- TIME_SET_LOAD (R49): At the next multiple of 2^28 units an armed value loads bits [63:28] of POST_TIME, keeping fine phase. -/
  | timeSetLoad (i : TickIn)
  /-- CLERK_RESTART (R28): Four consecutive missing heartbeats make postmaster 0 restart the clerk, reset its target and raise CLERK_RESTART. -/
  | clerkRestart (t : Fin 4) (k : Fin 2)
  /-- POSTMASTER_RESTART (R29): A postmaster restarts without interrupting traffic, and its pigeonhole target is reset as at a hot reset. -/
  | postmasterRestart (k : Fin 2)
  /-- RING_SYNC_DRIVE (R51): The ring master drives a one-cycle RING_SYNC pulse at each multiple of 2^28 POST_TIME units. -/
  | ringSyncDrive
  /-- RING_MSG_SEND (R589): The master sends the 13-byte time message on RING_MSG 1.024 µs after each RING_SYNC edge. -/
  | ringMsgSend
  /-- RING_SYNC_RECEIVED (R52): A member time-stamps a RING_SYNC edge, measures its phase error and slews or leaves LOCKED as R53 lays down. -/
  | ringSyncReceived (stamp : DWord)
  /-- RING_TIME_MESSAGE (R589): A member receives a time message, validates it and, in ACQUIRE, steps POST_TIME or enters LOCKED. -/
  | ringTimeMessage (bytes : List Byte)
  /-- RING_HOLDOVER (R53): Four consecutive missing pulses move a LOCKED member to HOLDOVER. -/
  | ringHoldover
  /-- RING_CONFLICT (R55): A master that sees a RING_SYNC pulse it did not drive sets CONFLICT, stops driving and enters FREE. -/
  | ringConflict
  /-- PLAN_CHECK (R72): PLAN_CTRL action CHECK validates the plan buffer without making anything live. -/
  | planCheck
  /-- PLAN_LOAD (R72): PLAN_CTRL action LOAD validates the plan buffer and, if valid, accepts it. -/
  | planLoad
  /-- PLAN_LOAD_SLOT (R72): PLAN_CTRL action LOAD_SLOT validates a flash slot and, if valid, accepts it. -/
  | planLoadSlot (slot : Fin 4)
  /-- PLAN_PROGRAM (R72): PLAN_CTRL action PROGRAM validates the plan buffer and writes it to a flash slot. -/
  | planProgram (slot : Fin 4)
  /-- PLAN_MARK_CURRENT (R75): PLAN_CTRL action MARK_CURRENT marks a valid slot current in the slot directory. -/
  | planMarkCurrent (slot : Fin 4)
  /-- PLAN_ERASE (R72): PLAN_CTRL action ERASE erases a flash slot that is not current. -/
  | planErase (slot : Fin 4)
  /-- PLAN_VALIDATION_DONE (R78): Validation completes with code 0x00 and WAITING or with an error code and pigeonhole 961. -/
  | planValidationDone
  /-- PLAN_ACCEPT (R82): A validated plan is accepted at the first tick at least 2 µs later and all its changes go live as category-0 work. -/
  | planAccept (i : TickIn)
  /-- FLASH_ACTION_DONE (R81): A PROGRAM, ERASE or directory update in flash completes and raises pigeonhole 963. -/
  | flashActionDone
  /-- XTRIG_SAMPLE_DONE (R90): After 1 µs of sampling, a device drives its XTRIG line or logs a refusal if another member drives it. -/
  | xtrigSampleDone (j : Fin 2) (driven : Bool)
  /-- PLAN_BUFFER_WRITE (R71): A write into the plan buffer stores image bytes, or is a locked-region violation while an action runs. -/
  | planBufferWrite (who : Requester) (reqId : BitVec 16) (off : BitVec 20) (bytes : List Byte)
  /-- SIGNAL_DETECT_ASSERT (R96): Input amplitude at or above SD_THR for 8 µs asserts signal detect and moves WAIT_SIGNAL to GAIN. -/
  | signalDetectAssert (n : Fin 64) (amplitude : Byte)
  /-- SIGNAL_DETECT_DEASSERT (R96): Input below 75 % of SD_THR for 1 µs de-asserts signal detect, with an LOS event and return to WAIT_SIGNAL. -/
  | signalDetectDeassert (n : Fin 64) (amplitude : Byte)
  /-- CYCLE_SLIP (R118): A cycle slip or frequency beyond ±250 ppm moves a LOCKED lane to TIMING at once. -/
  | cycleSlip (n : Fin 64)
  /-- ACQ_FAIL (R119): ACQ_LIMIT × 4 ticks after acquisition began without lock return the lane to WAIT_SIGNAL with ACQ_FAIL. -/
  | acqFail (n : Fin 64)
  /-- REACQUIRE (R141): LRX_CMD.REACQUIRE requests a lane restart at the first tick at least 2 µs after the write. -/
  | reacquire (n : Fin 64)
  /-- LRX_CLEAR_STATS (R141): LRX_CMD.CLEAR_STATS clears the checker, segment and grade counters at once. -/
  | lrxClearStats (n : Fin 64)
  /-- HOLD_READBACK (R116): LRX_CMD.HOLD_READBACK stops updates of the live readback fields. -/
  | holdReadback (n : Fin 64)
  /-- RELEASE_READBACK (R116): LRX_CMD.RELEASE_READBACK resumes readback updates at the next tick. -/
  | releaseReadback (n : Fin 64)
  /-- SHADOW_REQUEST (R136): Writing REQUEST takes or releases the shadow sampler, or is refused with SHADOW_REFUSED. -/
  | shadowRequest (n : Fin 64) (take : Bool)
  /-- SHADOW_START (R136): Writing START from the holder begins a shadow sweep point. -/
  | shadowStart (n : Fin 64)
  /-- SHADOW_POINT_DONE (R135): A sweep point ends after 2^DWELL counted symbols, latching HITS and setting DONE. -/
  | shadowPointDone (n : Fin 64) (hits : Word)
  /-- CHECKER_CTRL_WRITE (R139): A write to LRX_CHK_CTRL that changes PATTERN or ENABLE clears the checker counters and restarts the search. -/
  | checkerCtrlWrite (n : Fin 64) (enable : Bool) (pattern : BitVec 3)
  /-- CHECKER_LOCK (R138): The pattern checker locks after 1,024 error-free symbols, setting CHK_LOCK and raising the checker pigeonhole. -/
  | checkerLock (n : Fin 64) (levels : List (Fin 4))
  /-- CHECKER_UNLOCK (R138): 128 or more bit errors within 2,048 symbols unlock the checker, increment RESYNCS and restart the search. -/
  | checkerUnlock (n : Fin 64) (errors : List (Fin 3))
  /-- LTX_CLEAR_STATS (R179): LTX_CMD.CLEAR_STATS clears frames, clips, slips and DROP_COUNT at once. -/
  | ltxClearStats (n : Fin 64)
  /-- SOURCE_SWITCH (R160): A transmit source change made live at a tick takes effect on the line at the group's next frame boundary. -/
  | sourceSwitch (n : Fin 64)
  /-- SQUELCH_IMMEDIATE (R167): An immediate squelch cause brings the DAC code to 0 within 64 symbols and enters SQUELCH. -/
  | squelchImmediate (n : Fin 64)
  /-- RAMP_START (R163): A ramped squelch entry or exit begins at the group's next frame boundary after the cause changes. -/
  | rampStart (n : Fin 64)
  /-- RAMP_DONE (R167): The ramp gain reaches full or zero, entering ON or SQUELCH and raising TX_STATE. -/
  | rampDone (n : Fin 64)
  /-- PATTERN_RESTART (R173): A change of PATTERN, INVERT or RAW restarts the pattern at the next frame boundary. -/
  | patternRestart (n : Fin 64)
  /-- LOOP_CLOCK_SWITCH (R174): When the timing lane of FAR_LOOP leaves LOCKED, the next LOCKED lane takes over at the next frame boundary. -/
  | loopClockSwitch (n : Fin 64)
  /-- LOOP_RECENTRE (R175): The far-end loop buffer recentres by repeating or dropping one frame, counting SLIPS and setting LOOP_SLIP. -/
  | loopRecentre (n : Fin 64)
  /-- TX_PLL_LOCK (R169): After an engine restart the transmit PLL locks within 20 µs and framing begins at the next tick. -/
  | txPllLock (e : Fin 8)
  /-- TRANSMIT_FRAME (R188): The group encoder sends one spread frame every segment period and counts it in LTX_FRAMES. -/
  | transmitFrame (n : Fin 64) (courier : List (List Byte))
  /-- ANCHOR_FOUND (R190): A lane's anchor syndrome at one offset in 3 of 8 frames fixes its anchor position. -/
  | anchorFound (n : Fin 64) (words : List (Bool × List Bool)) (start : Word)
  /-- SPREAD_FRAME_RECEIVED (R194): Each received spread frame is judged for verification, bad frames and counters, driving the group state machine. -/
  | spreadFrameReceived (g : Fin 64) (letters : List (List (Fin 16))) (time : DWord)
  /-- GROUP_LOCK_LOST (R194): Sixteen consecutive bad frames return a LOCKED group to HUNT with LOCK_LOST. -/
  | groupLockLost (g : Fin 64)
  /-- REJOIN_LIMIT (R195): A lane not rejoined within 256 frames of re-entering LOCKED sends the group to HUNT. -/
  | rejoinLimit (n : Fin 64)
  /-- SPREAD_RELOCK (R212): SPR_CMD.RELOCK sends the named groups to HUNT at the first tick at least 2 µs after the write. -/
  | spreadRelock (e : Fin 8) (groups : Byte)
  /-- SPR_CLEAR_STATS (R212): SPR_CMD.CLEAR_STATS clears every group and lane counter of the engine at once. -/
  | sprClearStats (e : Fin 8)
  /-- STREAM_LOCK (R196): The decoder gains alignment-marker lock on a stream's RS codewords and sets its STREAM_LOCK bit. -/
  | streamLock (n : Fin 64) (phase : BitVec 16)
  /-- STREAM_LOST (R196): A stream loses stream lock, setting STREAM_LOST without changing the group state. -/
  | streamLost (n : Fin 64)
  /-- RS_CODEWORD_DECODE (R200): An RS codeword is decoded through its usable passes once its last symbol has left the first inner pass. -/
  | rsCodewordDecode (n : Fin 64)
  /-- GRANT_COMPUTED (R223): The pool's grant computation for the next tick completes, updating requests, grants, ages and urgency. -/
  | grantComputed (t : Fin 4)
  /-- POOL_CLEAR_STATS (R234): POOL_CMD.CLEAR_STATS clears slot counts, maximum ages and group counts at once. -/
  | poolClearStats (t : Fin 4)
  /-- HOST_SIGNAL_DETECT (R247): A host lane detects signal and enters TRAINING or ADAPT. -/
  | hostSignalDetect (h : Fin 128)
  /-- HOST_SIGNAL_LOST (R247): A host lane in ADAPT or READY loses signal, returns to WAIT_SIGNAL and the port loses AM lock. -/
  | hostSignalLost (h : Fin 128)
  /-- TRAINING_REQUEST (R248): A partner's training request to taps or precoding is applied within 1 ms, clamped to the limits. -/
  | trainingRequest (h : Fin 128) (cm3 : BitVec 6) (cm2 : BitVec 6) (cm1 : BitVec 6) (cp1 : BitVec 6) (pre : Option Bool)
  /-- TRAINING_COMPLETE (R247): Both partners report receiver ready, the trained settings go live and the lane enters ADAPT. -/
  | trainingComplete (h : Fin 128) (preRx : Bool)
  /-- TRAINING_TIMEOUT (R247): Training reaching TIMEOUT returns the lane to WAIT_SIGNAL with TRAIN_FAIL. -/
  | trainingTimeout (h : Fin 128)
  /-- RETRAIN (R256): HOST_L_CMD.RETRAIN returns the host lane to WAIT_SIGNAL at the first tick at least 2 µs after the write. -/
  | retrain (h : Fin 128)
  /-- HOST_L_CLEAR_STATS (R256): HOST_L_CMD.CLEAR_STATS clears the host lane's counters at once. -/
  | hostLClearStats (h : Fin 128)
  /-- HOST_P_CLEAR_STATS (R256): HOST_P_CMD.CLEAR_STATS clears the port counters and histogram at once. -/
  | hostPClearStats (n : Fin 64)
  /-- HOST_RELOCK (R242): HOST_P_CMD.RELOCK ends AM lock at once and restarts alignment lock on every lane of the port. -/
  | hostRelock (n : Fin 64)
  /-- AM_LOCK_GAINED (R240): Every lane of the port locks to its alignment markers within deskew limits, setting AM_LOCK. -/
  | amLockGained (n : Fin 64) (a : BitVec 16) (b : BitVec 16) (skew : BitVec 16)
  /-- AM_LOCK_LOST (R242): The port loses alignment-marker lock as the Clause 119 or 91 state diagram lays down. -/
  | amLockLost (n : Fin 64) (lanes : BitVec 16) (skew : BitVec 16)
  /-- HOST_CODEWORD_RECEIVED (R243): A host RS codeword is decoded, counted and, if uncorrectable, handled under UNC_MARK. -/
  | hostCodewordReceived (n : Fin 64) (word : List (BitVec 10))
  /-- HOST_TX_SOURCE_SWITCH (R246): A change of host transmit source takes effect at the next host RS codeword boundary. -/
  | hostTxSourceSwitch (n : Fin 64)
  /-- NEAR_LOOP_RECENTRE (R250): The near-end loopback buffer recentres by repeating or dropping a codeword, setting LOOP_SLIP. -/
  | nearLoopRecentre (n : Fin 64)
  /-- CAPTURE_OUT_READY (R254): A capture-out lane reaches READY 20 µs after the acceptance tick that assigns it. -/
  | captureOutReady (h : Fin 128)
  /-- CAPTURE_OUT_POWER_DOWN (R254): A removed capture-out lane finishes its frame, sends idles for 1 µs and powers down. -/
  | captureOutPowerDown (h : Fin 128)
  /-- CAPTURE_OUT_FRAME (R318): A mode-3 tap sends a frame of one or two blocks on its next capture-out lane. -/
  | captureOutFrame (t : Fin 8)
  /-- BLOCK_PARTNER_TIMEOUT (R318): A block that has waited 16 µs for a partner is sent alone in a frame. -/
  | blockPartnerTimeout (t : Fin 8)
  /-- COURIER_SUBMIT (R269): A write to COUR_TX_SUBMIT accepts a message with a generation and quarantine, or refuses it with a status. -/
  | courierSubmit (n : Fin 64) (slot : BitVec 2) (rep : BitVec 2) (mode : BitVec 3) (id : BitVec 10) (len : BitVec 12)
  /-- QUARANTINE_EXPIRE (R270): An ID's 100 ms quarantine on a lane ends. -/
  | quarantineExpire (n : Fin 64) (id : BitVec 10)
  /-- QUARANTINE_ALL_END (R271): 100 ms after the lane's transmitter is first ready, the blanket quarantine after reset ends. -/
  | quarantineAllEnd (n : Fin 64)
  /-- COPY_START (R272): A ready transmitter starts the oldest eligible message copy at the next grid slot. -/
  | copyStart (n : Fin 64)
  /-- COPY_DONE (R273): A copy completes and the message rejoins the queue behind others if copies remain. -/
  | copyDone (n : Fin 64)
  /-- LIFETIME_EXPIRE (R274): A message's 50 ms lifetime ends, completing it as SENT or sending it to the dead-letter queue. -/
  | lifetimeExpire (n : Fin 64) (slot : Fin 4)
  /-- PREAMBLE_DETECT (R278): The detector finds a preamble, restarting, pre-empting or counting a collision per the receiver state. -/
  | preambleDetect (n : Fin 64) (m1 : BitVec 9) (m2 : BitVec 9) (pwr : Byte) (p0 : List (Int × Int)) (p1 : List (Int × Int))
  /-- HEADER_RECEIVED (R280): The header ends and is checked, moving the receiver to PAYLOAD or back to IDLE with a counted error. -/
  | headerReceived (n : Fin 64) (rx : List (List (Int × Int)))
  /-- PAYLOAD_RECEIVED (R280): The last payload symbol arrives and the CRC-32 is checked. -/
  | payloadReceived (n : Fin 64) (rx : List (List (Int × Int)))
  /-- COURIER_RX_RELEASE (R284): A write to COUR_RX_RELEASE frees the named receive slots. -/
  | courierRxRelease (n : Fin 64) (slots : BitVec 4)
  /-- DLQ_POP (R287): COUR_DLQ_CMD.POP removes the oldest dead-letter entry and frees its buffer. -/
  | dlqPop
  /-- KNOCK (R291): COUR_L_CMD.KNOCK queues one to four knock bursts, ignored while bursts are pending. -/
  | knock (n : Fin 64) (bursts : BitVec 2)
  /-- KNOCK_START (R291): Queued knock bursts start ahead of messages at the next message boundary once the transmitter is ready. -/
  | knockStart (n : Fin 64)
  /-- KNOCK_DROPPED (R291): Knock bursts not started within 50 ms are dropped and set KNOCK_DROPPED. -/
  | knockDropped (n : Fin 64)
  /-- KNOCK_WAKE (R293): The knock detector declares a knock and requests a wake of the sleeping receive domain. -/
  | knockWake (n : Fin 64) (w1 : BitVec 63) (w2 : BitVec 63)
  /-- KNOCK_SEEN (R294): An awake receiver in IDLE recognises a knock and sets KNOCK_SEEN. -/
  | knockSeen (n : Fin 64) (w1 : BitVec 63) (w2 : BitVec 63)
  /-- COUR_CLEAR_STATS (R298): COUR_L_CMD.CLEAR_STATS clears the lane's courier counters, SNRs and LQ at once. -/
  | courClearStats (n : Fin 64)
  /-- CAPTURE_ARM (R336): CAP_T_CMD.ARM latches the tap's settings and starts filling or streaming, waking domains, or is refused. -/
  | captureArm (t : Fin 8)
  /-- CAPTURE_STOP (R336): CAP_T_CMD.STOP ends the capture, closing the block in progress and writing END reason 2. -/
  | captureStop (t : Fin 8) (b : BlockIn)
  /-- CAPTURE_ABORT (R336): CAP_T_CMD.ABORT returns the tap to IDLE at once and releases its resources. -/
  | captureAbort (t : Fin 8)
  /-- CAP_CLEAR_STATS (R342): CAP_T_CMD.CLEAR_STATS clears the tap's counts, samples lost and violation count at once. -/
  | capClearStats (t : Fin 8)
  /-- BLOCK_WRITE (R306): A tap closes a 4,096-byte block with its records and header, advancing segment and tap states. -/
  | blockWrite (t : Fin 8) (b : BlockIn)
  /-- BLOCK_DRAIN (R317): A streaming tap's block leaves the buffer to its DMA queue or capture-out lanes in SEQ order. -/
  | blockDrain (t : Fin 8) (bad : Bool)
  /-- TRIGGER_ACCEPT (R328): A tap accepts a trigger outside its holdoff, interpolates k and FRAC and queues a postmark. -/
  | triggerAccept (t : Fin 8)
  /-- SOFTWARE_TRIGGER (R322): A write to CAP_SW_TRIG sends a SOFTWARE trigger to the named taps. -/
  | softwareTrigger (taps : Byte) (tag : BitVec 24)
  /-- TRIG_IN_EDGE (R326): An edge on a TRIG_IN pin is time-stamped by the TDC, or dropped if too close to the last one. -/
  | trigInEdge (p : Fin 4) (rising : Bool) (c : DWord) (f : Fin 6554)
  /-- XTRIG_EDGE (R330): A member time-stamps a rising XTRIG edge as a trigger source. -/
  | xtrigEdge (j : Fin 2) (c : DWord) (f : Fin 6554)
  /-- AUTO_TRIGGER (R327): With AUTO set, a tap forces a trigger after TIMEOUT ns without an accepted trigger. -/
  | autoTrigger (t : Fin 8)
  /-- SAMPLE_LOSS (R335): Samples lost to fabric, GDDR7 or buffer full are counted and recorded with a GAP record. -/
  | sampleLoss (t : Fin 8) (cause : Fin 3) (n : Nat) (time : DWord)
  /-- BIAS_TARGET_WRITE (R349): A driver write to BIAS_C_TARGET replaces TARGET at once, clamped to the limits. -/
  | biasTargetWrite (x : Fin 160) (v : BitVec 16)
  /-- BIAS_UPDATE_TRIGGER (R352): A tile timer firing or a tick gives a channel an update trigger at which LIVE moves toward TARGET. -/
  | biasUpdateTrigger (t : Fin 4)
  /-- DEGLITCH_RELEASE (R354): After the 150 ns deglitch hold the output takes the new code. -/
  | deglitchRelease (x : Fin 160)
  /-- SINE_STOP (R358): After EN goes to 0 the sine term stops when the accumulator reaches or wraps past 0. -/
  | sineStop (x : Fin 160)
  /-- FORCED_ZERO_END (R362): 20 µs after a channel restart the channel enters TRACK, or ZERO if a cause is latched. -/
  | forcedZeroEnd (x : Fin 160)
  /-- BIAS_OVERLOAD (R360): Voltage-mode load current beyond ±12 mA for 10 µs latches cause bit 1 and zeroes the channel. -/
  | biasOverload (x : Fin 160)
  /-- VBIAS_LOW (R360): VBIAS below 4.5 V latches cause bit 2 on every enabled channel. -/
  | vbiasLow
  /-- COMPLIANCE (R361): A current-mode channel out of compliance sets COMPLIANCE and keeps driving. -/
  | compliance (x : Fin 160) (out : Bool)
  /-- BIAS_RELEASE (R362): BIAS_C_CMD.RELEASE returns a ZERO channel to TRACK, or is refused while a cause holds. -/
  | biasRelease (x : Fin 160)
  /-- BIAS_CLEAR_STATS (R368): BIAS_C_CMD.CLEAR_STATS clears DROP_COUNT at once. -/
  | biasClearStats (x : Fin 160)
  /-- HK_START_CMD (R374): HK_CMD.START starts a housekeeping sequence, or is counted as missed. -/
  | hkStartCmd (t : Fin 4)
  /-- HK_START_PIN (R374): An enabled edge on HK_START starts a sequence. -/
  | hkStartPin (t : Fin 4) (rising : Bool)
  /-- HK_SYNC (R380): HK_CMD.SYNC resets every channel's filter history at the next sequence start. -/
  | hkSync (t : Fin 4)
  /-- HK_CLEAR_STATS (R388): HK_CMD.CLEAR_STATS clears HK_COUNTS at once. -/
  | hkClearStats (t : Fin 4)
  /-- CONVERTER_STARTUP_DONE (R373): After the 2.5 µs start-up delay the converter begins converting. -/
  | converterStartupDone (t : Fin 4)
  /-- CONVERSION_DONE (R373): A conversion ends, its result is discarded or filtered and the next conversion begins. -/
  | conversionDone (t : Fin 4) (input : Int)
  /-- CONVERTER_POWER_DOWN (R373): 0.5 µs without a request powers the converter down. -/
  | converterPowerDown (t : Fin 4)
  /-- CAL_RUN (R396): CAL_CMD.RUN sets HOST on the named unit, or is refused. -/
  | calRun (u : Byte)
  /-- CAL_RUN_CLASS (R396): CAL_CMD.RUN_CLASS sets HOST on every unit of a class, or is refused. -/
  | calRunClass (c : BitVec 3)
  /-- CAL_PERIODIC_DUE (R392): PERIOD seconds after a unit's last application make it due for PERIODIC. -/
  | calPeriodicDue (u : Fin 137)
  /-- CAL_RUN_COMPLETE (R395): A calibration measurement completes and its result is held for application or discarded as failed. -/
  | calRunComplete (u : Fin 137) (r : List Int)
  /-- NVM_STORE (R404): CAL_NVM_CMD.STORE starts an NVM store, or is refused for busy or temperature. -/
  | nvmStore (baseline : Bool)
  /-- NVM_STORE_DONE (R403): A store completes and the written slot becomes the slot in use. -/
  | nvmStoreDone
  /-- NVM_STORE_RETRY (R404): A refused automatic store is tried again after 60 s. -/
  | nvmStoreRetry
  /-- LEDGER_PERIOD_END (R407): A ledger period ends at a tick, forming fits, forecasts, alarms and re-plan decisions. -/
  | ledgerPeriodEnd
  /-- LEDGER_RECORD_WRITE (R416): Within 50 ms of a period end the ledger writes each lane's record to the history log. -/
  | ledgerRecordWrite
  /-- FAR_REPORT_WRITE (R411): A write to LEDG_L_FAR records the far-end SNRs and marks the report fresh. -/
  | farReportWrite (n : Fin 64) (snr0 : BitVec 10) (snr2 : BitVec 10) (worst : BitVec 10)
  /-- LEDGER_REBASE (R413): LEDG_L_CMD.REBASE takes a new envelope reference at the next tick. -/
  | ledgerRebase (n : Fin 64)
  /-- MEM_TRAINING_DONE (R437): Full training completes on every channel, setting CAPACITY and moving the memory to READY. -/
  | memTrainingDone (density : Fin 3)
  /-- MEM_TRAINING_RETRY (R436): A failed channel training is retried 1 ms later, entering FAILED after three retries. -/
  | memTrainingRetry (c : Fin 32)
  /-- DRIFT_TRACKING (R435): Every 1 ms a channel runs a 2 µs drift-tracking pass, starting a retrain if drift or retries exceed limits. -/
  | driftTracking (c : Fin 32) (drift : Bool) (ecc : Word)
  /-- MEM_RETRAIN (R435): MEM_CMD.RETRAIN starts a retrain of a controller's channels at the first tick at least 2 µs later. -/
  | memRetrain (m : Fin 8)
  /-- MEM_RETRAIN_DONE (R435): A 500 µs channel retrain ends, setting RETRAINED or, after retries, FAILED. -/
  | memRetrainDone (c : Fin 32) (ok : Bool)
  /-- MEM_REINIT (R436): MEM_CMD.REINIT runs full training of all controllers from FAILED. -/
  | memReinit
  /-- MEM_CLEAR_STATS (R443): MEM_CMD.CLEAR_STATS clears every controller counter and MEM_LOST at once. -/
  | memClearStats
  /-- MEM_TEMP_READ (R423): The once-per-second mode-register temperature read doubles refresh, stops writes or resumes them. -/
  | memTempRead (m : Fin 8) (t : Byte)
  /-- MEM_REQUEST_ISSUE (R430): A channel serves the next 256-byte request by rank or urgency, retrying CRC failures. -/
  | memRequestIssue (c : Fin 32) (retries : Fin 4) (fail : Bool)
  /-- VDDQ_LOSS (R437): Loss of VDDQ puts the memory in OFF with contents lost. -/
  | vddqLoss
  /-- BAR2_BASE_WRITE (R426): A write to MEM_BAR2_BASE moves the BAR2 window for every later BAR2 request. -/
  | bar2BaseWrite (base : BitVec 9)
  /-- BAR2_ACCESS (R426): A BAR2 request reaches GDDR7 at the window base, is held for a wake or is a violation. -/
  | bar2Access (off : Word) (write : Bool) (len : BitVec 13) (bytes : List Byte) (reqId : BitVec 16)
  /-- CLAIM (R456): A read of PH_T_CLAIM claims the highest eligible source and puts it in service, or returns 0. -/
  | claim (x : Fin 74) (req : Requester)
  /-- COMPLETE (R458): A write to PH_T_COMPLETE takes a source out of service, re-pending a high level source. -/
  | complete (x : Fin 74) (source : BitVec 10) (req : Requester)
  /-- PENDING_WRITE (R449): A write to PH_PENDING raises or clears pending bits, subject to same-cycle hardware sets. -/
  | pendingWrite (w : Fin 32) (v : Word) (hw : Word)
  /-- MASK_WRITE (R448): A write to PH_MASK replaces a word of mask bits, effective for decisions from the next cycle. -/
  | maskWrite (w : Fin 32) (v : Word)
  /-- TARGET_IDLE_WRITE (R465): A write to PH_T_IDLE declares a host target idle or busy, releasing a held message when idle. -/
  | targetIdleWrite (x : Fin 64) (idle : Bool)
  /-- PH_CLEAR_STATS (R471): PH_CMD.CLEAR_STATS clears every PH_T_COUNTS at once. -/
  | phClearStats
  /-- MODERATION_TIMEOUT (R464): τ elapses on a held message, releasing one message for the highest eligible source. -/
  | moderationTimeout (x : Fin 74)
  /-- BAR0_STALL_TIMEOUT (R478): A held request not served 40 µs after arrival ends as a violation of type 6. -/
  | bar0StallTimeout (bar2 : Bool)
  /-- VIOL_POP (R480): DMA_VIOL_CMD.POP removes the oldest violation-log entry. -/
  | violPop
  /-- QUEUE_ENABLE (R492): Writing ENABLE 1 to a DISABLED queue starts it RUNNING, or is ignored for a bad SIZE_EXP. -/
  | queueEnable (q : Fin 16) (e : BitVec 5)
  /-- QUEUE_DISABLE (R492): Writing ENABLE 0 to a RUNNING queue stops fetching and moves it to STOPPING. -/
  | queueDisable (q : Fin 16)
  /-- QUEUE_RESET (R491): DMA_Q_CMD.RESET abandons fetched descriptors, increments the epoch and disables the queue. -/
  | queueReset (q : Fin 16)
  /-- DMA_Q_CLEAR_STATS (R495): DMA_Q_CMD.CLEAR_STATS clears the queue's byte, descriptor and count statistics at once. -/
  | dmaQClearStats (q : Fin 16)
  /-- TAIL_WRITE (R485): A write to DMA_Q_TAIL offers new descriptors to the queue, or is ignored if out of range. -/
  | tailWrite (q : Fin 16) (tail : BitVec 16)
  /-- DESCRIPTOR_FETCH (R485): The queue fetches a descriptor and checks it before moving data. -/
  | descriptorFetch (q : Fin 16) (x : DmaDescriptor)
  /-- DESCRIPTOR_COMPLETE (R487): A descriptor finishes, its completion record is written, HEAD advances and errors stop the queue. -/
  | descriptorComplete (q : Fin 16) (bad : Bool)
  /-- READ_COMPLETION (R488): A host completion for a DMA read request arrives, or is discarded as late after a reset. -/
  | readCompletion (q : Fin 16) (old : Bool) (last : Bool) (r : HostCompletion) (data : List Byte)
  /-- COMPLETION_TIMEOUT (R487): A host read completion timeout ends the descriptor with STATUS 6 or counts a late request. -/
  | completionTimeout (q : Fin 16) (old : Bool)
  /-- PCIE_HOT_RESET (R493): A PCIe hot reset or link down resets configuration, disables every queue and resets host targets. -/
  | pcieHotReset (linkDown : Bool)
  /-- FLR (R493): A Function Level Reset acts as a hot reset for the function. -/
  | flr
  /-- LINK_UP (R494): The PCIe link reaches L0, setting LINK_UP and any rate or width change. -/
  | linkUp (speed : Fin 5) (width : Fin 4)
  /-- D3HOT_ENTRY (R482): The function enters D3hot: queues pause and messages set PBA and PME_Status. -/
  | d3hotEntry (pmeEn : Bool)
  /-- D0_RETURN (R482): The function returns to D0 and queues resume from PAUSED. -/
  | d0Return
  /-- BME_CHANGE (R481): Bus Master Enable changes, pausing queues and holding messages in the PBA or sending them. -/
  | bmeChange (on : Bool)
  /-- VECTOR_UNMASK (R481): Unmasking an MSI-X vector or the function sends a message held in the PBA. -/
  | vectorUnmask (v : Option (Fin 256))
  /-- L1_ENTRY (R483): ASPM puts the link in L1, making every host target idle and releasing held messages. -/
  | l1Entry
  /-- ENTRY_COMPLETE (R515): A sleep entry reaches its state after its abort points, setting ENTERED. -/
  | entryComplete (k : Fin 158) (point : Fin 6)
  /-- HORIZON_WRITE (R510): A write to PWR_D_HORIZON sets the horizon for the sleep group, a 0 being a wake request. -/
  | horizonWrite (k : Fin 158) (v : Word)
  /-- HORIZON_EXPIRE (R509): A domain's horizon expires and becomes 0, keeping the domain ON. -/
  | horizonExpire (k : Fin 158)
  /-- TIMER_WAKE (R509): The controller wakes a sleeping domain at its next known event less the wake time. -/
  | timerWake (k : Fin 158)
  /-- SD_WAKE (R518): Signal detect rising at a lane with SD_WAKE wakes its receive domain. -/
  | sdWake (n : Fin 64)
  /-- WAKE_COMPLETE (R520): A domain's wake completes: state reloaded, isolation released and blocks restarted, setting WOKE. -/
  | wakeComplete (k : Fin 158)
  /-- WAKE_ATTEMPT_FAIL (R522): A wake attempt times out on regulator, PLL, clocks or the DARK limit and removes power. -/
  | wakeAttemptFail (k : Fin 158) (pll : Bool)
  /-- WAKE_RETRY_START (R522): 1 ms after a failed attempt a new attempt begins, or the domain enters WAKE_FAILED after three retries. -/
  | wakeRetryStart (k : Fin 158)
  /-- WAKE_RETRY (R522): PWR_D_CMD.RETRY starts a fresh wake of a WAKE_FAILED domain and its failed ancestors. -/
  | wakeRetry (k : Fin 158)
  /-- PWR_CLEAR_STATS (R526): PWR_D_CMD.CLEAR_STATS clears PWR_D_COUNTS at once. -/
  | pwrClearStats (k : Fin 158)
  /-- REGULATOR_SETTLED (R501): During a level raise the regulator comes within 5 mV and the frequency switches. -/
  | regulatorSettled (t : Fin 4)
  /-- THM_READ (R528): THM_S_CMD.READ demands a reading of one site. -/
  | thmRead (x : Fin 40)
  /-- THM_READ_ALL (R528): THM_CMD.READ_ALL demands a reading of every site. -/
  | thmReadAll
  /-- READING_DONE (R532): A 24 µs site reading completes and is checked, passed to calibration and counted for steps. -/
  | readingDone (x : Fin 40) (raw : BitVec 16)
  /-- READING_TIMEOUT (R532): A reading not complete 100 µs after it began declares the site FAILED. -/
  | readingTimeout (x : Fin 40)
  /-- REINSTATE (R534): THM_S_CMD.REINSTATE checks a FAILED site at its next scheduled reading. -/
  | reinstate (x : Fin 40)
  /-- THM_CLEAR_STATS (R546): THM_CMD.CLEAR_STATS clears STEP_COUNT at once. -/
  | thmClearStats
  /-- THERMAL_TRIP (R541): A site above 120 °C for 2 µs trips shutdown, zeroing bias, squelching and removing switched power. -/
  | thermalTrip (x : Fin 40)
  /-- THERMAL_RESTART (R542): After 1 s and clear 95 °C comparators an automatic restart proceeds as a warm reset. -/
  | thermalRestart
  /-- THERMAL_RESTART_CMD (R543): THM_SD_CMD.RESTART starts a restart from HELD, or is refused while a comparator trips. -/
  | thermalRestartCmd (clear : Bool)
  /-- COLD_POWER_UP (R554): AUX_PG rising starts a cold power-up from cold defaults, NVM, flash plan and snapshot. -/
  | coldPowerUp (present : Byte) (straps : BitVec 2)
  /-- SYS_RST_FALL (R551): SYS_RST_L low for 1 µs begins a warm reset. -/
  | sysRstFall
  /-- WARM_RESET_CMD (R552): SYS_RESET_CMD with WARM and the key starts a warm reset that removes switched power and boots with restore. -/
  | warmResetCmd (req : Requester)
  /-- MAIN_PG_FALL (R551): MAIN_PG falling while AUX_PG stays high begins a warm reset. -/
  | mainPgFall
  /-- MAIN_PG_RISE (R558): MAIN_PG rising lets boot proceed and starts the 5 ms endpoint-ready delay. -/
  | mainPgRise
  /-- PERST (R551): PERST_L low is handled as a PCIe hot reset with link down. -/
  | perst
  /-- ENDPOINT_READY (R558): 5 ms after the later of MAIN_PG and PERST_L the endpoint is ready to train. -/
  | endpointReady
  /-- FIRMWARE_START (R557): The boot image read completes and the newer valid image runs, or BOOT_FAIL is entered. -/
  | firmwareStart (a : Option BootImage) (b : Option BootImage) (areas : Byte)
  /-- RESTORED_PLAN_ACCEPT (R553): After a warm reset the plan in area 0 is re-accepted at the first tick after firmware and memory are ready. -/
  | restoredPlanAccept (i : TickIn)
  /-- CARD_DOWN (R568): SYS_DOWN_L or SYS_RESET_CMD with DOWN withdraws the plan, puts GDDR7 in self refresh and drops DEV_READY. -/
  | cardDown
  /-- SNAPSHOT_SAVE (R559): SYS_SNAP_CMD.SAVE starts writing a snapshot, or is refused unless the plan is LIVE. -/
  | snapshotSave
  /-- SNAPSHOT_SAVE_DONE (R559): A snapshot save completes and raises hub source 11. -/
  | snapshotSaveDone
  /-- LS_INSERTED (R561): LS_PRESENT_L falling moves an ABSENT laser source to SETTLING. -/
  | lsInserted (e : Fin 8)
  /-- LS_REMOVED (R562): LS_PRESENT_L rising resets the source, latches zero causes, squelches and aborts two-wire transfers within 2 µs. -/
  | lsRemoved (e : Fin 8)
  /-- LS_SETTLED (R561): LS_PRESENT_L low throughout 10 ms moves SETTLING to INIT and releases reset. -/
  | lsSettled (e : Fin 8)
  /-- LS_POLL (R561): A module-state poll moves the laser source between INIT, READY and FAULT. -/
  | lsPoll (e : Fin 8) (m : BitVec 3)
  /-- LS_INIT_TIMEOUT (R561): INIT reaching TIMEOUT moves the laser source to FAULT. -/
  | lsInitTimeout (e : Fin 8)
  /-- LS_RETRY (R561): SYS_LS_CMD.RETRY moves a FAULT laser source to SETTLING. -/
  | lsRetry (e : Fin 8)
  /-- LS_INT (R564): LS_INT_L falling sets SYS_LS_EVENTS.INT. -/
  | lsInt (e : Fin 8) (low : Bool)
  /-- TW_TRANSFER_CMD (R566): A write to SYS_TW_CMD starts a two-wire transfer, or is refused busy or in OFF or ABSENT. -/
  | twTransferCmd (e : Fin 8) (addr : Byte) (len : BitVec 7) (write : Bool) (page : Byte) (bank : Byte)
  /-- TW_TRANSFER_DONE (R566): A two-wire transfer completes with its result and raises the engine source. -/
  | twTransferDone (e : Fin 8) (result : TwEnd) (data : List Byte)
  /-- TW_STRETCH_TIMEOUT (R565): Clock stretching beyond 10 ms ends the transfer with result STRETCH. -/
  | twStretchTimeout (e : Fin 8)
  /-- SMB_SET_ADDRESS (R567): SMBus command 0x10 sets the access address. -/
  | smbSetAddress (target : BitVec 7) (a : Word) (pecOk : Bool)
  /-- SMB_READ (R567): SMBus command 0x11 reads the word at the address with a status byte. -/
  | smbRead (target : BitVec 7)
  /-- SMB_WRITE (R567): SMBus command 0x12 writes the word at the address, dropped on PEC failure. -/
  | smbWrite (target : BitVec 7) (v : Word) (pecOk : Bool)
  /-- SMB_READ_INCREMENT (R567): SMBus command 0x13 reads the word and advances the address by 4. -/
  | smbReadIncrement (target : BitVec 7)
  /-- LOW_WORD_READ (R17): A 32-bit read of a 64-bit register's low word returns it and copies the high word into the read shadow. -/
  | lowWordRead (who : Requester) (reqId : BitVec 16) (a : BitVec 27)
  /-- HIGH_WORD_READ (R17): A 32-bit read of the high word returns the read shadow. -/
  | highWordRead (who : Requester) (reqId : BitVec 16) (a : BitVec 27)
  /-- WIDE_READ (R19): An aligned 8-byte read returns both words from one cycle and updates the read shadow. -/
  | wideRead (reqId : BitVec 16) (a : BitVec 27)
  /-- LOW_WORD_WRITE (R20): A 32-bit write to the low word of a 64-bit register is held in its write shadow. -/
  | lowWordWrite (who : Requester) (reqId : BitVec 16) (a : BitVec 27) (v : Word)
  /-- HIGH_WORD_WRITE (R20): A 32-bit write to the high word writes both halves using the held low word. -/
  | highWordWrite (who : Requester) (reqId : BitVec 16) (a : BitVec 27) (v : Word)
  /-- WIDE_WRITE (R20): An aligned 8-byte write writes both halves and loads the write shadow. -/
  | wideWrite (reqId : BitVec 16) (a : BitVec 27) (v : DWord)
  /-- REGISTER_WRITE (R13): A write to a register without its own row acts by its field access types, staging RWS values. -/
  | registerWrite (who : Requester) (reqId : BitVec 16) (a : BitVec 27) (bytes : List Byte) (hw : DWord)
  /-- VAUX_LOSS (R48): VAUX or AUX_PG is lost: POST_TIME, the restante store and every domain stop, a plan in validation is abandoned with 0xFF and pins take the no-VAUX column of R549. -/
  | vauxLoss
  /-- VBIAS_RECOVERED (R360): VBIAS rises above 4.7 V, setting BIAS_T_TIMER.VBIAS_OK so that RELEASE of cause bit 2 and BIAS calibration runs become possible. -/
  | vbiasRecovered
  /-- SYS_RST_RISE (R551): SYS_RST_L returns high and the warm reset begun at its falling edge completes and boots. -/
  | sysRstRise
  /-- PERST_RISE (R558): PERST_L goes high, ending the endpoint's reset and starting the 5 ms delay to endpoint ready. -/
  | perstRise
  /-- L1_EXIT (R465): The PCIe link leaves L1 for L0 at the host's instance, so host targets are no longer idle and moderation applies again. -/
  | l1Exit
  /-- CORE_WAIT_HALT (R465): A clerk or postmaster core halts in its wait instruction, making its pigeonhole target idle and releasing any held message within 1 µs. -/
  | coreWaitHalt (x : Fin 10)
  /-- REGISTER_READ (R478): A BAR0 or SMBus read of a register that is unmapped, in a sleeping domain or badly aligned is answered, held for a wake or ended as a violation. -/
  | registerRead (who : Requester) (reqId : BitVec 16) (a : BitVec 27) (n : BitVec 13)
  /-- KNOCK_BURSTS_END (R291): The last queued knock burst finishes, clearing KNOCK_PENDING and returning the transmitter from KNOCK to its message queue. -/
  | knockBurstsEnd (n : Fin 64)
  deriving DecidableEq, Repr

end Sys2Proof
end

