-- ==== Sys2Proof/Decode.lean ====
section
/-! DEFINITION. The command that a word spells by the bits of spec/opcode_table.json. No row of the table gives bits: the
commands of this block are register accesses, pin events and protocol events, and none has an encoding. -/

namespace Sys2Proof

/-- The command that a word of the table spells: none, since no row has bits (log entry 31). -/
def decodeTableWord (_nbits _w : Nat) : Option Instr := none

end Sys2Proof
end

