-- ==== Sys2Proof/Config.lean ====
section
/-! DEFINITION. What an implementation fixes and the values the spec leaves open. Each `opaque` constant has no body:
nothing can be proved about its value, so a claim that mentions it holds whatever the hardware does. -/

namespace Sys2Proof

/-- R47: in two of every five REFCLK cycles POST_TIME advances by 6,553 units and in the other three by 6,554. Which two
is not stated: one of the ten pairs (log entry 6). -/
opaque Config.shortCycles : Fin 10

/-- A free value that an instruction of the data path or a front end leaves open, by a number that names the place and
the count of free values drawn so far (log entry 2). -/
opaque Config.freeValue : Nat → Nat → Nat

/-- The byte at a GDDR7 address whose contents are undefined, by a number that names the loss and the address (log
entry 3). -/
opaque Config.lostByte : Nat → Nat → Byte

/-- How a reading that the spec gives with a resolution and no rounding is rounded, by a number that names the reading: 0
downwards, 1 to the nearest (log entry 10). 1: COUR_L_SNR (R288). 2: SPR_G_LAT.LATENCY (R207).
3: CAP_T_PERIOD (R324). 4: DMA_LINK_STATUS.USABLE (R474).
5: the readings of the margin ledger (R407). 6: a half in the FFE sum (R102). 7: the branch metric (R104). 8: a sample on
the midpoint of two levels (R103). 9: the step of an LMS loop (R109). 10: an eye SNR (R117). 11: the ramp's
scaling of a code (R163). 12: a trimmed sample (R98). 13: a courier sample (R259). 14: the TDC's
correction (R419). 15: a bias gain trim (R355). 16: a housekeeping code (R384). -/
opaque Config.rounding : Nat → Fin 2

/-- The level of symbol 0 to 65,534 of SSPRQ, which the spec leaves to IEEE 802.3 (R137, R170; log entry 69). -/
opaque Config.ssprq : Nat → Fin 4

/-- Message symbol `i` of codeword `c` of a fill stream in a lane mode: PCS idle blocks, or blocks with Local Fault, and
alignment markers, whose coding the spec leaves to IEEE 802.3 (R155, R244; log entry 69). -/
opaque Config.fillSymbol : Bool → Nat → Nat → Nat → Nat

/-- Message symbol `i` of an uncorrectable codeword with the error marking that IEEE 802.3 prescribes in a lane mode (R202,
R243; log entry 69). -/
opaque Config.markSymbol : Nat → List Nat → Nat → Nat

/-- R258, R259: 2^30 times the cosine of `k` 256ths of a turn, as the implementation rounds it (log entry 10). -/
opaque Config.cosine : Nat → Int

/-- R473: the Tsudric vendor ID and the part's serial number, which the spec does not give (log entry 78). -/
opaque Config.vendorId : BitVec 16
opaque Config.serialNumber : BitVec 64

/-- R402: the nominal bandgap code of tiles 0 to 3 and the hub, whose value the spec does not give (log entry 21). -/
opaque Config.bandgap : Nat → BitVec 16

/-- The ten ways to choose two of five cycles. -/
def Config.pairs : List (Nat × Nat) :=
  [(0, 1), (0, 2), (0, 3), (0, 4), (1, 2), (1, 3), (1, 4), (2, 3), (2, 4), (3, 4)]

/-- The POST_TIME units of cycle `p` (0 to 4) of a group of five (R47). -/
def Config.cycleUnits (p : Nat) : Nat :=
  let c := Config.pairs.getD Config.shortCycles.val (0, 1)
  if p = c.1 ∨ p = c.2 then 6553 else 6554

end Sys2Proof
end

