-- ==== Sys2Proof/Machine/Fields.lean ====
section
/-! DEFINITION. Every field of every register map of the spec, by its name REGISTER_FIELD (R12), with its width,
its reset value or cold default (R16), its access type (R13) and the block it lies in (R21). A field with a reset word
`plan` holds, before any plan has been accepted, the value given here (log entry 4). Names that begin `X_` are state of
the model's own that the rules imply (timers, counters of consecutive events); each has a comment. -/

namespace Sys2Proof.Machine

/-- A block of the register map: where a field's instances are counted. -/
inductive Blk where
  | hub | lrx | ltx | spr | sprG | sprL | pool | poolG | hostL | hostP | hostT | courL | courMap | courH | capM
  | capT | biasC | biasT | hk | hkC | calU | trim | ledgL | memC | phT | msix | dmaQ | pwrD | thmS | sysE
  deriving DecidableEq, Repr

/-- The access types of R13; `internal` is state that no register shows. -/
inductive Acc where
  | rw | ro | wo | w1c | rws | rwk | internal
  deriving DecidableEq, Repr

set_option maxHeartbeats 1000000 in
/-- The fields. -/
inductive F where
  | SYS_ID_PART | SYS_ID_STEPPING | SYS_ID_TILES | TIME_NOW_NOW | TIME_TICK_COUNT_COUNT | TIME_TICK_CFG_PERIOD_K
  | TIME_TICK_CFG_ROLE | TIME_TICK_CFG_POSITION | TIME_POST_STATUS_SEQ_ACCEPTED | TIME_POST_STATUS_SEQ_DONE
  | TIME_POST_ERR_FULL | TIME_POST_ERR_SCOPE | TIME_POST_ERR_CARRIED | TIME_POST_ERR_QUEUED | TIME_OVR_EVENTS_EVENT
  | TIME_OVR_EVENTS_CARRY | TIME_OVR_COUNT_COUNT | TIME_RING_STATUS_STATE | TIME_RING_STATUS_CONFLICT
  | TIME_RING_STATUS_PERIOD_MISMATCH | TIME_RING_STATUS_MISSED | TIME_RING_STATUS_PHASE_ERR | TIME_RING_DELAY_DELAY
  | TIME_SET_VALUE | TIME_SET_CTRL_ARMED | TIME_SET_CTRL_REFUSED | TIME_CLERK_STATUS_RESTARTED
  | TIME_CLERK_STATUS_COUNT | PLAN_STATUS_CODE | PLAN_STATUS_STATE | PLAN_STATUS_LAST_ACTION | PLAN_STATUS_REFUSED
  | PLAN_STATUS_FALLBACK | PLAN_ERR_OFFSET_OFFSET | PLAN_LIVE_SOURCE | PLAN_LIVE_SLOT | PLAN_LIVE_CURRENT
  | PLAN_LIVE_SLOT_VALID | PLAN_LIVE_ID_ID | PLAN_RESTARTED_ENGINES | PLAN_ACCEPT_TIME_TIME | PLAN_RES_LOG_RESOURCE
  | PLAN_RES_LOG_INDEX | PLAN_RES_LOG_REQUESTER | PLAN_RES_LOG_HOLDER | PLAN_RES_LOG_COUNT | PLAN_RES_TIME_TIME
  | LRX_CTRL_FREEZE | LRX_CTRL_ANALOG_LOOP | LRX_CTRL_NLC_EN | LRX_STATUS_STATE | LRX_STATUS_SIGNAL
  | LRX_STATUS_TIMING_LOCK | LRX_STATUS_EQ_CONV | LRX_STATUS_LOCKED | LRX_STATUS_LOOPED | LRX_STATUS_CLERK_FROZEN
  | LRX_STATUS_READBACK_HELD | LRX_STATUS_ACQ_COUNT | LRX_EVENTS_LOS | LRX_EVENTS_LOCK_LOST | LRX_EVENTS_LOCK_GAINED
  | LRX_EVENTS_ACQ_FAIL | LRX_EVENTS_BOUND_HIT | LRX_EVENTS_CLIP | LRX_EVENTS_DROPPED | LRX_EVENTS_LOOP_REFUSED
  | LRX_EVENTS_SHADOW_REFUSED | LRX_EVENTS_CHK_LOCK | LRX_EVENTS_CHK_LOSS | LRX_EVENTS_GRADE_REJECT
  | LRX_EVENTS_DROP_COUNT | LRX_TR_PHASE_OFFSET | LRX_TR_BW | LRX_TR_STATUS_FREQ | LRX_TR_STATUS_JITTER
  | LRX_TR_STATUS_SLIPS | LRX_FFE_CTRL_MU | LRX_FFE_CTRL_LOAD_SEED | LRX_FFE_CTRL_SEED_SRC | LRX_NLC_CTRL_MU
  | LRX_NLC_CTRL_LOAD_SEED | LRX_NLC_CTRL_BOUND | LRX_DET_ALPHA | LRX_DET_BETA | LRX_DET_LOAD_SEED
  | LRX_DET_LEVEL_BOUND | LRX_DET_MU | LRX_GRADE_MODE | LRX_GRADE_G1 | LRX_GRADE_G2 | LRX_GRADE_G3
  | LRX_LOCK_CFG_SNR_MIN | LRX_LOCK_CFG_HYST | LRX_LOCK_CFG_ACQ_LIMIT | LRX_LOCK_CFG_CLIP_LIMIT | LRX_SNR_EYE0
  | LRX_SNR_EYE1 | LRX_SNR_EYE2 | LRX_NOISE_VAR | LRX_NOISE_CLIPS | LRX_VALID_STATUS_LAST_CHANGE
  | LRX_VALID_STATUS_WINDOW | LRX_SHADOW_CTRL_REQUEST | LRX_SHADOW_CTRL_EYE | LRX_SHADOW_CTRL_PHASE
  | LRX_SHADOW_CTRL_THRESH | LRX_SHADOW_CTRL_DWELL | LRX_FE_CTLE | LRX_FE_VGA | LRX_FE_SEARCH | LRX_FE_SD_THR
  | LRX_FE_LIVE_CTLE | LRX_FE_LIVE_VGA | LRX_FE_LIVE_AMPLITUDE | LRX_DET_SEED_LEVEL0 | LRX_DET_SEED_LEVEL1
  | LRX_DET_SEED_LEVEL2 | LRX_DET_SEED_LEVEL3 | LRX_DET_LIVE_LEVEL0 | LRX_DET_LIVE_LEVEL1 | LRX_DET_LIVE_LEVEL2
  | LRX_DET_LIVE_LEVEL3 | LRX_GRADE_COUNT_COUNT | LRX_INVALID_SEG_COUNT | LRX_SEG_COUNT | LRX_SHADOW_STATUS_GRANTED
  | LRX_SHADOW_STATUS_BUSY | LRX_SHADOW_STATUS_DONE | LRX_SHADOW_STATUS_HOLDER | LRX_SHADOW_HITS_HITS
  | LRX_CHK_CTRL_ENABLE | LRX_CHK_CTRL_PATTERN | LRX_CHK_STATUS_LOCKED | LRX_CHK_STATUS_RESYNCS | LRX_CHK_BITS_COUNT
  | LRX_CHK_ERRS_COUNT | LRX_CHK_GRADE_ERR_COUNT | LRX_CHK_SKIPPED_COUNT | LRX_FFE_TAP_SEED | LRX_FFE_TAP_BOUND
  | LRX_FFE_TAP_LIVE | LRX_NLC_ENTRY_SEED | LRX_NLC_ENTRY_LIVE | LTX_CTRL_SOURCE | LTX_CTRL_FAR_LOOP
  | LTX_CTRL_SQUELCH | LTX_CTRL_PD_EN | LTX_CTRL_AUTO_SQ | LTX_CTRL_RAMP | LTX_STATUS_OUTPUT | LTX_STATUS_SOURCE
  | LTX_STATUS_FILL | LTX_STATUS_PLL_LOCK | LTX_STATUS_SQ_CAUSE | LTX_STATUS_LOOP_CLK_LANE
  | LTX_STATUS_LOOP_CLK_VALID | LTX_EVENTS_SQUELCHED | LTX_EVENTS_UNSQUELCHED | LTX_EVENTS_CLIP | LTX_EVENTS_DROPPED
  | LTX_EVENTS_SOURCE_REFUSED | LTX_EVENTS_LEVEL_REJECT | LTX_EVENTS_LOOP_SLIP | LTX_EVENTS_LOOP_CLK_SWITCH
  | LTX_EVENTS_DROP_COUNT | LTX_DRV_SWING | LTX_DRV_CLIP_LIMIT | LTX_LEVEL_LEVEL0 | LTX_LEVEL_LEVEL1
  | LTX_LEVEL_LEVEL2 | LTX_LEVEL_LEVEL3 | LTX_COUR_DEPTH | LTX_PAT_PATTERN | LTX_PAT_RAW | LTX_PAT_INVERT
  | LTX_PAT_INDEX | LTX_CLIPS_LAST | LTX_CLIPS_TOTAL | LTX_LOOP_STATUS_FILL_LEVEL | LTX_LOOP_STATUS_SLIPS
  | LTX_FRAMES_COUNT | LTX_FIR_COEF | LTX_FIR_LIVE | LTX_PD_ENTRY_VALUE | LTX_PD_ENTRY_LIVE | LTX_PAT_MEM_SYMBOLS
  | SPR_CFG_WIDTH | SPR_CFG_GROUPS | SPR_CFG_MODE | SPR_CTRL_UNC_MARK | SPR_CTRL_DOUBT | SPR_CTRL_ERASE_MAX
  | SPR_CTRL_SLEW | SPR_G_STATUS_STATE | SPR_G_STATUS_STREAM_LOCK | SPR_G_STATUS_ANCHOR | SPR_G_STATUS_ALLOW
  | SPR_G_STATUS_USABLE | SPR_G_LAT_LATENCY | SPR_G_LAT_TARGET | SPR_G_EVENTS_LOCK_GAINED | SPR_G_EVENTS_LOCK_LOST
  | SPR_G_EVENTS_UNC | SPR_G_EVENTS_ORDER_ERR | SPR_G_EVENTS_SKEW_ERR | SPR_G_EVENTS_LANE_REJOIN
  | SPR_G_EVENTS_SKIPPED | SPR_G_EVENTS_ERASE_CAPPED | SPR_G_EVENTS_STREAM_LOST | SPR_G_ALIGN_SKEW
  | SPR_G_ALIGN_ORDER_LANE | SPR_G_ALIGN_ORDER_FOUND | SPR_G_FRAMES_COUNT | SPR_G_FRAMES_INV_COUNT
  | SPR_G_UNC_FRAMES_COUNT | SPR_G_UNC_FRAMES_INV_COUNT | SPR_G_RS_CW_COUNT | SPR_G_RS_UNC_COUNT
  | SPR_G_RS_SYM_CORR_COUNT | SPR_G_PASSES_COUNT | SPR_G_INNER_DOUBT_COUNT | SPR_G_SKIPPED_COUNT
  | SPR_G_PASS_HIST_COUNT | SPR_L_CORR_BITS_COUNT | SPR_L_RS_CW_COUNT | SPR_L_RS_UNC_COUNT | SPR_L_PASSES_COUNT
  | SPR_L_ALIGN_DELAY | SPR_L_ALIGN_ANCHOR_MISS | POOL_POLICY0_URGENT | POOL_POLICY0_RESERVE | POOL_POLICY0_HOLD
  | POOL_POLICY0_FRAME_LIMIT | POOL_POLICY1_FLOOR | POOL_CTRL_DRIVER_CAP | POOL_STATUS_LEVEL
  | POOL_STATUS_CAP_THERMAL | POOL_STATUS_CAP_LIVE | POOL_STATUS_URGENT_COUNT | POOL_STATUS_OVERBOOKED
  | POOL_STATUS_POOL_ON | POOL_EVENTS_URGENT_ENTER | POOL_EVENTS_CAP_CHANGE | POOL_EVENTS_OVERBOOKED
  | POOL_EVENTS_RESERVE_EMPTY | POOL_EVENTS_FLOOR_CUT | POOL_EVENTS_MINMAX_REJECT | POOL_EVENTS_GRANT_CARRIED
  | POOL_SLOTS_COUNT | POOL_SCORE_THR_LOW | POOL_SCORE_THR_HIGH | POOL_CAPACITY_SLOTS | POOL_CHARGED_SLOTS
  | POOL_RESERVE_START_SLOTS | POOL_RESERVE_DRAWN_SLOTS | POOL_G_CTRL_MIN | POOL_G_CTRL_MAX | POOL_G_CTRL_FORCE_EN
  | POOL_G_CTRL_FORCE | POOL_G_REQ_REQUEST | POOL_G_REQ_POLICY | POOL_G_REQ_FLOOR | POOL_G_REQ_LEDGER_MIN
  | POOL_G_REQ_GRANT | POOL_G_REQ_URGENT | POOL_G_REQ_DENIED | POOL_G_REQ_SERVED | POOL_G_SCORE_SCORE
  | POOL_G_SCORE_F1 | POOL_G_CHARGE_CHARGE | POOL_G_AGE_AGE | POOL_G_AGE_MAX_AGE | POOL_G_COUNTS_DENIED
  | POOL_G_COUNTS_URGENT_ENTRIES | POOL_G_RESERVE_SLOTS | POOL_G_USED_SLOTS | HOST_L_CTRL_C2M | HOST_L_CTRL_TRAIN
  | HOST_L_CTRL_PRECODE_TX | HOST_L_CTRL_PRECODE_RX | HOST_L_CTRL_POL_TX | HOST_L_CTRL_POL_RX | HOST_L_STATUS_STATE
  | HOST_L_STATUS_SIGNAL | HOST_L_STATUS_CDR_LOCK | HOST_L_STATUS_ROLE | HOST_L_STATUS_PRECODE_TX_LIVE
  | HOST_L_STATUS_PRECODE_RX_LIVE | HOST_L_STATUS_SNR | HOST_L_EVENTS_LOS | HOST_L_EVENTS_TRAIN_OK
  | HOST_L_EVENTS_TRAIN_FAIL | HOST_L_EVENTS_READY_LOST | HOST_L_EVENTS_TRAIN_COUNT | HOST_L_TXEQ_LIMIT_CM3_MAX
  | HOST_L_TXEQ_LIMIT_CM2_MAX | HOST_L_TXEQ_LIMIT_CM1_MAX | HOST_L_TXEQ_LIMIT_CP1_MAX | HOST_L_TRAIN_TIMEOUT
  | HOST_L_TXEQ_CM3 | HOST_L_TXEQ_CM2 | HOST_L_TXEQ_CM1 | HOST_L_TXEQ_CP1 | HOST_L_TXEQ_SWING | HOST_L_TXEQ_LIVE_CM3
  | HOST_L_TXEQ_LIVE_CM2 | HOST_L_TXEQ_LIVE_CM1 | HOST_L_TXEQ_LIVE_CP1 | HOST_L_TXEQ_LIVE_SWING
  | HOST_P_CTRL_NEAR_LOOP | HOST_P_CTRL_UNC_MARK | HOST_P_CTRL_NODATA | HOST_P_STATUS_AM_LOCK | HOST_P_STATUS_TX_SRC
  | HOST_P_STATUS_SKEW | HOST_P_STATUS_LANES_LOCKED | HOST_P_EVENTS_LOCK_GAINED | HOST_P_EVENTS_LOCK_LOST
  | HOST_P_EVENTS_DESKEW_ERR | HOST_P_EVENTS_UNC | HOST_P_EVENTS_LOOP_SLIP | HOST_P_CW_COUNT | HOST_P_CW_CORR_COUNT
  | HOST_P_CW_UNC_COUNT | HOST_P_SYM_CORR_COUNT | HOST_P_HIST_COUNT | HOST_T_PENDING_LANES
  | HOST_T_PENDING_PORTS_PORTS | COUR_L_CTRL_TX_EN | COUR_L_CTRL_RX_EN | COUR_L_CTRL_KNOCK_EN | COUR_L_CTRL_TX_HOLD
  | COUR_L_STATUS_RX_STATE | COUR_L_STATUS_TX_STATE | COUR_L_STATUS_CANCEL | COUR_L_STATUS_DETECTOR_ARMED
  | COUR_L_STATUS_QUARANTINE_ALL | COUR_L_EVENTS_RX_MSG | COUR_L_EVENTS_TX_DONE | COUR_L_EVENTS_DEAD_LETTER
  | COUR_L_EVENTS_KNOCK_SEEN | COUR_L_EVENTS_KNOCK_WAKE | COUR_L_EVENTS_MAP_REJECT | COUR_L_EVENTS_DLQ_OVERFLOW
  | COUR_L_EVENTS_KNOCK_DROPPED | COUR_L_QUALITY_AGG_SNR | COUR_L_QUALITY_LQ | COUR_L_QUALITY_MEASURED
  | COUR_L_PWR_LAST_PRE | COUR_L_PWR_LAST_COLL | COUR_L_RX_DETECT_COUNT | COUR_L_RX_RESTART_COUNT
  | COUR_L_RX_HDR_ERR_COUNT | COUR_L_RX_FORMAT_ERR_COUNT | COUR_L_RX_CRC_ERR_COUNT | COUR_L_RX_OK_COUNT
  | COUR_L_RX_DUP_COUNT | COUR_L_RX_COLLISION_COUNT | COUR_L_RX_ABANDONED_COUNT | COUR_L_RX_LOOP_COUNT
  | COUR_L_TX_SENT_COUNT | COUR_L_TX_REQUEUED_COUNT | COUR_L_SNR_SNR | COUR_L_REC_CODES | COUR_TXMAP_A_CODES
  | COUR_TXMAP_B_CODES | COUR_RXMAP_A_CODES | COUR_RXMAP_B_CODES | COUR_CTRL_PREEMPT | COUR_CTRL_THRESH
  | COUR_CTRL_KNOCK_THR | COUR_DLQ_STATUS_COUNT | COUR_DLQ_STATUS_HEAD | COUR_DLQ_STATUS_OVERFLOWS
  | COUR_DLQ_DESC0_LANE | COUR_DLQ_DESC0_DIR | COUR_DLQ_DESC0_REASON | COUR_DLQ_DESC0_ID | COUR_DLQ_DESC0_GEN
  | COUR_DLQ_DESC0_MODE | COUR_DLQ_DESC1_LEN | COUR_DLQ_DESC1_BUF | COUR_DLQ_DESC2_TIME | COUR_TX_RESULT_STATUS
  | COUR_TX_RESULT_SLOT | COUR_TX_RESULT_GEN | COUR_TX_RESULT_QUAR_LEFT | COUR_TX_SLOTS_BUSY | COUR_TX_SLOTS_SENDING
  | COUR_TX_SLOTS_KNOCK_PENDING | COUR_TX_DONE_SENT | COUR_TX_DONE_DEAD | COUR_RX_STATUS_FULL | COUR_RX_STATUS_OLDEST
  | COUR_RX_DESC0_ID | COUR_RX_DESC0_GEN | COUR_RX_DESC0_LEN | COUR_RX_DESC0_MODE | COUR_RX_DESC0_LOOP
  | COUR_RX_DESC1_SNR | COUR_RX_DESC1_PWR | COUR_RX_DESC2_TIME | CAP_STATUS_ACTIVE | CAP_STATUS_STREAMING
  | CAP_STATUS_GDDR7_USED | CAP_STATUS_PCIE_USED | CAP_REGION_BASE | CAP_REGION_SIZE | CAP_TRIG_EVENTS_CLOSE
  | CAP_TRIG_EVENTS_CLOSE_COUNT | CAP_XTRIG_STATUS_MERGED | CAP_TRIGIN_CFG_EDGE | CAP_TRIGIN_CFG_DELAY
  | CAP_XTRIG_OUT_SRC | CAP_XTRIG_OUT_REFUSED | CAP_XTRIG_OUT_DRIVING | CAP_XTRIG_IN_DELAY_DELAY | CAP_MASK_W0_EN
  | CAP_MASK_W0_KIND | CAP_MASK_W0_LEVEL_EYE | CAP_MASK_W0_LO | CAP_MASK_W0_HI | CAP_MASK_W1_PH_LO
  | CAP_MASK_W1_PH_HI | CAP_T_CTRL_POINT | CAP_T_CTRL_MODE | CAP_T_CTRL_LANE | CAP_T_CTRL_AUTO | CAP_T_CTRL_GATE_EN
  | CAP_T_CTRL_SCOPE | CAP_T_CTRL_MASK_SEL | CAP_T_CTRL_MASK_EN | CAP_T_CTRL_MASK_STOP | CAP_T_TRIG_SEL_SRC
  | CAP_T_STATUS_STATE | CAP_T_STATUS_REFUSE | CAP_T_STATUS_END_REASON | CAP_T_STATUS_CLAMPED | CAP_T_STATUS_ARMS
  | CAP_T_SEG_SEGMENTS | CAP_T_SEG_SEG_DONE | CAP_T_HOLDOFF_HOLDOFF | CAP_T_HOLDOFF_GATE_ON | CAP_T_HOLDOFF_GATE_PER
  | CAP_T_AUTO_TIMEOUT | CAP_T_DRAIN_QUEUE | CAP_T_DRAIN_COUT | CAP_T_EVENTS_TRIGGERED | CAP_T_EVENTS_DONE
  | CAP_T_EVENTS_GAP | CAP_T_EVENTS_MASK_LIMIT | CAP_T_EVENTS_CLAMPED | CAP_T_EVENTS_REFUSED
  | CAP_T_COUNTS_TRIG_MISSED | CAP_T_COUNTS_RECORDS_LOST | CAP_T_TRIG_INFO_FRAC | CAP_T_TRIG_INFO_SOURCE
  | CAP_T_TRIG_INFO_FLAGS | CAP_T_PERIOD_P | CAP_T_SWEEP0_PH_START | CAP_T_SWEEP0_PH_STOP | CAP_T_SWEEP0_TH_START
  | CAP_T_SWEEP0_TH_STOP | CAP_T_SWEEP1_PH_STEP | CAP_T_SWEEP1_TH_STEP | CAP_T_SWEEP1_EYES | CAP_T_SWEEP1_DWELL
  | CAP_T_HIT_LIMIT_HITS | CAP_T_BUF_BASE_BLOCKS | CAP_T_BUF_SIZE_BLOCKS | CAP_T_PRE_BLOCKS | CAP_T_POST_BLOCKS
  | CAP_T_VIOL_LIMIT_COUNT | CAP_T_VIOL_COUNT_COUNT | CAP_T_SAMPLES_LOST_VALUE | CAP_T_BLOCKS_VALUE
  | CAP_T_TRIG_SAMPLE_VALUE | CAP_T_TRIG_TIME_VALUE | CAP_T_WRITE_PTR_BLOCK | CAP_T_READ_PTR_BLOCK
  | BIAS_C_CFG_ENABLE | BIAS_C_CFG_FUNCTION | BIAS_C_CFG_RANGE | BIAS_C_CFG_SHAPE | BIAS_C_CFG_TRIGGER
  | BIAS_C_CFG_ZERO_ON_LS | BIAS_C_CFG_STEP | BIAS_C_LIMIT_LO | BIAS_C_LIMIT_HI | BIAS_C_TARGET_TARGET
  | BIAS_C_LIVE_LIVE | BIAS_C_LIVE_OUTPUT | BIAS_C_SINE_EN | BIAS_C_SINE_RATE | BIAS_C_SINE_AMP | BIAS_C_SINE_INC_INC
  | BIAS_C_STATUS_STATE | BIAS_C_STATUS_SETTLED | BIAS_C_STATUS_SINE_ON | BIAS_C_STATUS_COMPLIANCE
  | BIAS_C_STATUS_ZERO_CAUSE | BIAS_C_EVENTS_ZEROED | BIAS_C_EVENTS_LIMIT_CLAMP | BIAS_C_EVENTS_COMPLIANCE
  | BIAS_C_EVENTS_SINE_REJECT | BIAS_C_EVENTS_DROPPED | BIAS_C_EVENTS_RELEASE_REFUSED | BIAS_C_EVENTS_DROP_COUNT
  | BIAS_T_TIMER_P | BIAS_T_TIMER_VBIAS_OK | BIAS_T_PENDING0_CHANNELS | BIAS_T_PENDING1_CHANNELS
  | BIAS_T_ZERO0_CHANNELS | BIAS_T_ZERO1_CHANNELS | HK_CTRL_TICK_EN | HK_CTRL_PIN_EN | HK_CTRL_PIN_EDGE
  | HK_CTRL_LOOP | HK_CTRL_DONE_IRQ | HK_CTRL_SEQ_LEN | HK_STATUS_STATE | HK_STATUS_BUSY | HK_STATUS_LAST_SRC
  | HK_STATUS_ENTRY | HK_STATUS_SEQ_COUNT | HK_EVENTS_SEQ_DONE | HK_EVENTS_START_MISSED | HK_EVENTS_SEQ_ABORT
  | HK_EVENTS_LIMIT | HK_SEQ_TIME_TIME | HK_COUNTS_DISCARDS | HK_COUNTS_STARTS_MISSED | HK_LIMIT_EV0_CHANNELS
  | HK_LIMIT_EV1_CHANNELS | HK_SEQ_CHANNEL | HK_SEQ_REPEAT | HK_CH_CFG_LEN | HK_CH_CFG_GAIN | HK_CH_CFG_SUB
  | HK_CH_CFG_QTY | HK_CH_RES_VALUE | HK_CH_RES_PRIMING | HK_CH_RES_TRANSITION | HK_CH_RES_STALE | HK_CH_RES_COUNT
  | HK_CH_RAW_CODE | HK_CH_RAW_DISCARD | HK_CH_RAW_LEN_PENDING | HK_CH_RAW_LEN_LIVE | HK_CH_RAW_FADE_LEFT
  | HK_CH_LIMIT_LO | HK_CH_LIMIT_EN | HK_CH_LIMIT_HI | CAL_CTRL_HOLD | CAL_STATUS_DUE | CAL_STATUS_RUNNING
  | CAL_STATUS_REFUSED | CAL_NVM_STATUS_SOURCE | CAL_NVM_STATUS_BUSY | CAL_NVM_STATUS_RETRY | CAL_NVM_STATUS_RESULT
  | CAL_NVM_STATUS_WRITES | CAL_NVM_SEQ_SEQ | CAL_DUE_UNITS | CAL_CLASS_ENABLES | CAL_CLASS_THRESH | CAL_CLASS_PERIOD
  | CAL_U_STATUS_STATE | CAL_U_STATUS_REASONS | CAL_U_STATUS_DIRTY | CAL_U_STATUS_LIMIT | CAL_U_STATUS_DROPPED
  | CAL_U_STATUS_SUBSTITUTE | CAL_U_COUNTS_RUNS | CAL_U_COUNTS_ABORTS | CAL_U_COUNTS_FAILS | CAL_U_TIME_TIME
  | CAL_U_TEMP_LAST | CAL_U_TEMP_SITE | LEDG_CFG_PERIOD_EXP | LEDG_CFG_WINDOW | LEDG_CFG_FORECAST_ALARM
  | LEDG_CTRL_PERIOD_IRQ | LEDG_PERIOD_COUNT_COUNT | LEDG_HIST_HEAD_HEAD | LEDG_L_CFG_ENABLES | LEDG_L_CFG_BIAS_CH
  | LEDG_L_CFG_HEATER_CH | LEDG_L_STATUS_VALID_RECS | LEDG_L_STATUS_FIT_VALID | LEDG_L_STATUS_FAR_FRESH
  | LEDG_L_STATUS_PAUSED | LEDG_L_STATUS_REFERENCED | LEDG_L_FAR_SNR0 | LEDG_L_FAR_SNR2 | LEDG_L_FAR_WORST
  | LEDG_L_DISP_LEVEL | LEDG_L_DISP_TX | LEDG_L_DISP_LEDGER_MIN | LEDG_L_CTRL_PAUSE | LEDG_L_ALARM_WORD
  | LEDG_L_ALARM_EV_RISEN | LEDG_L_FC_LOW | LEDG_L_FC_HIGH | LEDG_L_REC_BYTES | MEM_CFG_DENSITY | MEM_CFG_CAPACITY
  | MEM_BAR2_BASE_BASE | MEM_HOST_CAP_WRITE | MEM_ARB_URGENT | MEM_ARB_RANK0 | MEM_ARB_RANK1 | MEM_ARB_RANK2
  | MEM_ARB_RANK3 | MEM_ARB_RANK4 | MEM_EVENTS_UNCORR | MEM_EVENTS_RETRAINED | MEM_EVENTS_FAILED | MEM_EVENTS_HOT
  | MEM_EVENTS_HOT_STOP | MEM_EVENTS_REGION_ABSENT | MEM_LOST_LEDGER | MEM_STATUS_STATE | MEM_CH_READY_CHANNELS
  | MEM_C_STATUS_TRAINED | MEM_C_STATUS_PAUSED | MEM_C_STATUS_TEMP | MEM_C_STATUS_SELF_REFRESH
  | MEM_C_STATUS_WRITE_STOP | MEM_C_CRC_RETRY_COUNT | MEM_C_UNCORR_COUNT | MEM_C_RETRAINS_COUNT | MEM_C_ODECC_COUNT
  | MEM_C_URGENT_CLASS0 | MEM_C_URGENT_CLASS2 | MEM_C_URGENT_CLASS3 | MEM_C_URGENT_CLASS4 | MEM_C_BYTES_COUNT
  | PH_CFG_MODE | PH_CFG_TARGETS | PH_FAULT_LOG_TARGET | PH_FAULT_LOG_SOURCE | PH_FAULT_LOG_KIND | PH_FAULT_LOG_COUNT
  | PH_PENDING_PENDING | PH_MASK_MASK | PH_SRC_PRIORITY | PH_SRC_LEVEL | PH_SRC_TARGET | PH_SRC_OCCUR
  | PH_SRC_IN_SERVICE | PH_SRC_LINE | PH_T_CLAIM_SOURCE | PH_T_CLAIM_PRIORITY | PH_T_CLAIM_OCCUR | PH_T_CLAIM_LATE
  | PH_T_CFG_MOD_COUNT | PH_T_CFG_MOD_TIME | PH_T_IDLE_TARGET_IDLE | PH_T_STATUS_DEFINED | PH_T_STATUS_IDLE
  | PH_T_STATUS_HELD | PH_T_STATUS_ELIGIBLE | PH_T_STATUS_DEPTH | PH_T_STATUS_TOP | PH_T_EVENTS_STACK_ORDER
  | PH_T_EVENTS_BAD_COMPLETE | PH_T_EVENTS_LATE_DELIVERY | PH_T_COUNTS_MESSAGES | PH_T_COUNTS_SPURIOUS
  | DMA_LINK_STATUS_SPEED | DMA_LINK_STATUS_WIDTH | DMA_LINK_STATUS_L1 | DMA_LINK_STATUS_DSTATE | DMA_LINK_STATUS_BME
  | DMA_LINK_STATUS_USABLE | DMA_LINK_EVENTS_LINK_DOWN | DMA_LINK_EVENTS_LINK_UP | DMA_LINK_EVENTS_SPEED_CHANGE
  | DMA_LINK_EVENTS_WIDTH_CHANGE | DMA_LINK_EVENTS_HOT_RESET | DMA_LINK_EVENTS_FLR | DMA_LINK_EVENTS_D3HOT
  | DMA_VIOL_ADDR_ADDR | DMA_VIOL_INFO_REQ_ID | DMA_VIOL_INFO_REQUESTER | DMA_VIOL_INFO_BAR | DMA_VIOL_INFO_WRITE
  | DMA_VIOL_INFO_TYPE | DMA_VIOL_TIME_TIME | DMA_VIOL_STATUS_COUNT | DMA_VIOL_STATUS_OVERFLOWS
  | MSIX_ADDR_LO_ADDR_LO | MSIX_ADDR_HI_ADDR_HI | MSIX_DATA_DATA | MSIX_CTRL_MASK | DMA_ARB_URGENT
  | DMA_STATUS_RUNNING | DMA_STATUS_ERROR | DMA_Q_CTRL_ENABLE | DMA_Q_CTRL_SIZE_EXP | DMA_Q_STATUS_STATE
  | DMA_Q_STATUS_KIND | DMA_Q_STATUS_EPOCH | DMA_Q_STATUS_ERR_STATUS | DMA_Q_STATUS_PHASE | DMA_Q_STATUS_PAUSED
  | DMA_Q_EVENTS_DONE | DMA_Q_EVENTS_ERROR | DMA_Q_EVENTS_STARVED | DMA_Q_EVENTS_LATE | DMA_Q_EVENTS_CFG_IGNORED
  | DMA_Q_EVENTS_POISONED | DMA_Q_RING_ADDR | DMA_Q_CPL_ADDR | DMA_Q_TAIL_INDEX | DMA_Q_HEAD_INDEX
  | DMA_Q_BYTES_COUNT | DMA_Q_COUNTS_LATE | DMA_Q_COUNTS_POISONED | DMA_Q_DESC_DONE_COUNT | PWR_STATUS_ASLEEP
  | PWR_STATUS_ENTERING | PWR_STATUS_FAILED | PWR_T_LEVEL_REQ | PWR_T_LEVEL_LIVE | PWR_T_LEVEL_THERMAL
  | PWR_T_LEVEL_TARGET | PWR_T_LEVEL_CHANGING | PWR_T_LEVEL_VOLTAGE | PWR_ASLEEP_DOMAINS | PWR_FAILED_DOMAINS
  | PWR_RET_STATUS_VALID | PWR_D_CFG_PERMIT | PWR_D_CFG_SD_WAKE | PWR_D_CFG_CLASS | PWR_D_CFG_PARENT
  | PWR_D_HORIZON_HORIZON | PWR_D_STATUS_STATE | PWR_D_STATUS_GOAL | PWR_D_STATUS_POINT | PWR_D_STATUS_PARENT_FAILED
  | PWR_D_STATUS_HOLDOFF | PWR_D_STATUS_ATTEMPT | PWR_D_EVENTS_ENTERED | PWR_D_EVENTS_WOKE | PWR_D_EVENTS_REFUSED
  | PWR_D_EVENTS_ABORTED | PWR_D_EVENTS_WAKE_FAILED | PWR_D_EVENTS_RETRIED | PWR_D_COUNTS_ENTRIES
  | PWR_D_COUNTS_REFUSALS | PWR_D_COUNTS_ABORTS | PWR_D_LAST_BLOCK | PWR_D_LAST_ANSWER | PWR_D_LAST_DELAY
  | PWR_D_LAST_WAKE_SRC | PWR_D_LAST_FAIL | THM_CFG_HYST | THM_CFG_DWELL | THM_CFG_DEMAND_EXP | THM_CFG_FAST_EXP
  | THM_CFG_RATE | THM_STATUS_UNTRIMMED | THM_STATUS_ALARM_ANY | THM_STATUS_FAILED | THM_Z_STEP_STEP | THM_Z_STEP_CAP
  | THM_Z_STEP_LEVEL | THM_Z_STEP_SITE | THM_Z_STEP_STEP_COUNT | THM_SD_STATUS_STATE | THM_SD_STATUS_REFUSED
  | THM_SD_STATUS_SITE | THM_SD_STATUS_HOUR_COUNT | THM_SD_STATUS_TOTAL | THM_SD_TIME_TIME | THM_S_READING_VALUE
  | THM_S_READING_REPLACE | THM_S_STATUS_STATE | THM_S_STATUS_FAIL_CAUSE | THM_S_STATUS_STEP | THM_S_STATUS_RATE_HOLD
  | THM_S_STATUS_ENTRY_CNT | THM_S_STATUS_RELEASE_CNT | THM_S_STATUS_ALARM | THM_S_TIME_TIME | THM_S_EVENTS_STEP_UP
  | THM_S_EVENTS_STEP_DOWN | THM_S_EVENTS_RATE | THM_S_EVENTS_FAILED | THM_S_EVENTS_ALARM | SYS_RESET_CAUSE_CAUSE
  | SYS_RESET_CAUSE_RESTORED | SYS_RESET_CAUSE_WARM_COUNT | SYS_BOOT_STATUS_STAGE | SYS_BOOT_STATUS_IMAGE
  | SYS_BOOT_STATUS_SNAP_USED | SYS_BOOT_STATUS_DEV_READY | SYS_BOOT_STATUS_FW_VERSION | SYS_SNAP_STATUS_BUSY
  | SYS_SNAP_STATUS_RESULT | SYS_SNAP_STATUS_IN_USE | SYS_SNAP_STATUS_VALID | SYS_LS_CTRL_AUTO_HP
  | SYS_LS_CTRL_TIMEOUT | SYS_LS_CTRL_TW_SPEED | SYS_LS_STATUS_STATE | SYS_LS_STATUS_PRESENT | SYS_LS_STATUS_INT
  | SYS_LS_STATUS_RESET_OUT | SYS_LS_STATUS_LPMODE_OUT | SYS_LS_STATUS_MODSTATE | SYS_LS_STATUS_INSERTIONS
  | SYS_LS_EVENTS_STATE_CHANGE | SYS_LS_EVENTS_INSERTED | SYS_LS_EVENTS_REMOVED | SYS_LS_EVENTS_READY
  | SYS_LS_EVENTS_FAULT | SYS_LS_EVENTS_INT | SYS_TW_STATUS_BUSY | SYS_TW_STATUS_RESULT | SYS_TW_STATUS_TRANSFERS
  | SYS_TW_BUF_BYTES | CAL_TRIM_WORD
  /-- which of the five REFCLK cycles of R47 comes next, 0 to 4 -/
  | X_TIME_PHASE
  /-- POST_TIME of the next tick after a step of R54, 0 when it is the next multiple of the period -/
  | X_TICK_DUE
  /-- a tick exponent waiting for a multiple of 2^28 under R44, plus 1; 0 none -/
  | X_K_NEXT
  /-- POST_TIME of the acceptance that asked for X_K_NEXT -/
  | X_K_FROM
  /-- POST_TIME when TIME_SET_CTRL.ARM was accepted (R49) -/
  | X_SET_FROM
  /-- units still to be slewed under R54 -/
  | X_SLEW
  /-- 1 when the slew of R54 withholds units -/
  | X_SLEW_DOWN
  /-- consecutive heartbeats of clerk 2t + k that are missing, saturating at 7 (R28) -/
  | X_CLERK_SILENT
  /-- multiple of 2^28 (plus 1) of the latest pulse driven under R51; 0 none -/
  | X_RING_PULSED
  /-- elapsed time of the latest pulse driven under R51 -/
  | X_RING_PULSE_CLK
  /-- a pulse has been driven and its time message not yet sent -/
  | X_RING_MSG_DUE
  /-- time stamp less TIME_RING_DELAY of the latest RING_SYNC edge (R52) -/
  | X_RING_STAMP
  /-- the phase error of the latest edge is small under R53 -/
  | X_RING_SMALL
  /-- a pulse has been seen since the latest multiple of 2^28 -/
  | X_RING_SEEN
  /-- the latest pulse has had no valid time message yet -/
  | X_RING_MSG_OPEN
  /-- a step has been made on or since entering ACQUIRE (R53) -/
  | X_RING_STEPPED
  /-- held count of R463 -/
  | X_PH_HELD_COUNT
  /-- elapsed time at which the moderation time of a hold ends (R463) -/
  | X_PH_HOLD_END
  /-- whether the target was eligible when last looked at (R454) -/
  | X_PH_ELIG
  /-- flat mode: the selection of R462; 0 none -/
  | X_PH_SEL
  /-- elapsed time of the decision that latched the selection -/
  | X_PH_SEL_CLK
  /-- a mask write hit the selection within 96 ns of its decision (R462) -/
  | X_PH_SEL_LATE
  /-- the core of target 64 to 73 is halted in its wait instruction (R465) -/
  | X_PH_CORE_HALT
  /-- MSI-X Function Mask -/
  | X_PCIE_FUNC_MASK
  /-- PME_En of the power management capability -/
  | X_PCIE_PME_EN
  /-- PME_Status of the power management capability -/
  | X_PCIE_PME_STATUS
  /-- Max Read Request Size of Device Control, bytes -/
  | X_PCIE_MRRS
  /-- read requests of this epoch outstanding (R488) -/
  | X_DMA_OUT
  /-- read requests issued before a reset whose tags are still held (R491) -/
  | X_DMA_OLD
  /-- the queue waits for a wake of a memory domain (R490) -/
  | X_DMA_WAKE
  /-- the state a wake started from, codes of PWR_D_STATUS.STATE (R520) -/
  | X_PWR_FROM
  /-- a wake request that waits during entry, as its code of R518; 0 none (R516) -/
  | X_PWR_WANT
  /-- elapsed time at which the entry or the wake attempt in progress began -/
  | X_PWR_BEGAN
  /-- elapsed time at which a finite horizon expires (R510) -/
  | X_PWR_HOR_END
  /-- the attempt has failed and waits 1 ms before the next (R522) -/
  | X_PWR_HELD_OFF
  /-- elapsed time until which a pulse on the XTRIG line and its low time last (R329) -/
  | X_XTRIG_END
  /-- CTLE trials begun in the search of R97, 0 to 8 -/
  | X_LRX_TRIAL
  /-- worst-eye SNR of the best trial so far, plus 1; 0 none -/
  | X_LRX_BEST_SNR
  /-- CTLE code of the best trial so far -/
  | X_LRX_BEST_CTLE
  /-- VGA code of the best trial so far -/
  | X_LRX_BEST_VGA
  /-- ticks since the acquisition began (R119) -/
  | X_LRX_ACQ
  /-- consecutive ticks with the worst eye SNR at or above SNR_MIN, up to 2 (R117) -/
  | X_LRX_SNR_OK
  /-- consecutive ticks with the worst eye SNR below SNR_MIN - HYST, up to 4 (R118) -/
  | X_LRX_SNR_LOW
  /-- a REACQUIRE waits for its tick (R119) -/
  | X_LRX_REACQ
  /-- elapsed time of the REACQUIRE write -/
  | X_LRX_REACQ_CLK
  /-- the restante store holds values of a LOCKED lane (R120) -/
  | X_LRX_SAVED
  /-- lane mode in which they were saved -/
  | X_LRX_SAVED_MODE
  /-- taps live when the lane was last LOCKED -/
  | X_LRX_SAVED_TAP
  /-- corrector entries live when the lane was last LOCKED -/
  | X_LRX_SAVED_NLC
  /-- levels live when the lane was last LOCKED -/
  | X_LRX_SAVED_LEVEL
  /-- readback updates resume at the next tick (R116) -/
  | X_LRX_RELEASE
  /-- segments of the lane since its restart, never cleared by the driver -/
  | X_LRX_SEG_ABS
  /-- number of the last segment that an invalid window touches, plus 1 -/
  | X_LRX_WIN_LAST
  /-- noise variance in use for grading (R105, R110) -/
  | X_LRX_GRADE_VAR
  /-- EYE latched at START (R136) -/
  | X_LRX_SH_EYE
  /-- PHASE latched at START -/
  | X_LRX_SH_PHASE
  /-- THRESH latched at START -/
  | X_LRX_SH_THRESH
  /-- DWELL latched at START, others than 10 to 30 taken as 20 -/
  | X_LRX_SH_DWELL
  /-- loops whose seeds were loaded at this tick: bit 0 FFE, 1 corrector, 2 levels (R115) -/
  | X_LRX_LOADED
  /-- code of the longest change that went live at this tick (R126); 0 none -/
  | X_LRX_WCODE
  /-- its window in letters -/
  | X_LRX_WLEN
  /-- engine restart under R169: 0 none, 1 the transmit PLL relocks, 2 locked, 3 framing -/
  | X_LTX_START
  /-- the laser source is absent and has not been ready at a tick since (R162 bit 3) -/
  | X_LS_ABSENT
  /-- a pattern restart waits for the next frame boundary (R173) -/
  | X_LTX_PAT_RESTART
  /-- elapsed time at which the gap after the latest copy ends (R265) -/
  | X_COUR_GAP_END
  /-- knock bursts queued (R291) -/
  | X_COUR_BURSTS
  /-- elapsed time of the KNOCK command -/
  | X_COUR_KNOCK_CLK
  /-- the detector has declared a knock and waits for the next sleep (R293) -/
  | X_COUR_KNOCK_STOP
  /-- the transmitter has been ready since reset (R271) -/
  | X_COUR_READY
  /-- elapsed time at which it first was -/
  | X_COUR_READY_CLK
  /-- count of receive slots filled and freed -/
  | X_COUR_ORD
  /-- that count when a receive slot was last filled or freed -/
  | X_COUR_SLOT_ORD
  /-- preamble power of the reception in progress -/
  | X_COUR_RX_PWR
  /-- POST_TIME at which its preamble was found -/
  | X_COUR_RX_TIME
  /-- bits 31:0 of its header -/
  | X_COUR_RX_HEADER
  /-- the receive map it began with (R296) -/
  | X_COUR_RX_MAP
  /-- running mean squared error of a sub-carrier, in 2^-32, plus 1; 0 never measured (R288) -/
  | X_COUR_MSE
  /-- frame start of an anchored lane in symbols, on a scale common to the group, signed -/
  | X_SPR_START
  /-- frames since the lane re-entered LOCKED without its anchor, up to 256 (R195) -/
  | X_SPR_REJOIN
  /-- the anchor search starts again at the next tick (R194) -/
  | X_SPR_WAIT
  /-- frames verified in VERIFY (R194) -/
  | X_SPR_GOOD
  /-- consecutive bad frames in LOCKED, up to 16 (R194) -/
  | X_SPR_BAD
  /-- latest frame start at frame lock, to which deskew delays refer, signed -/
  | X_SPR_REF
  /-- a RELOCK waits for its tick (R212) -/
  | X_SPR_RELOCK
  /-- elapsed time of the RELOCK write -/
  | X_SPR_RELOCK_CLK
  /-- receive latency at X_SPR_LAT_CLK, in 2^-10 fs (R207) -/
  | X_SPR_LAT
  /-- elapsed time at which X_SPR_LAT held -/
  | X_SPR_LAT_CLK
  /-- an RS codeword that ends in the frame in progress is uncorrectable (R203) -/
  | X_SPR_UNC
  /-- an RS codeword that ends in it has a symbol from a frame with an invalid segment (R204) -/
  | X_SPR_UNC_INV
  /-- account of the group: slots left of its charge (R227) -/
  | X_POOL_ACCT
  /-- reserve slots the group has drawn for the frame in progress (R228) -/
  | X_POOL_FRAME
  /-- reserve slots the group has drawn in the tick in progress -/
  | X_POOL_DRAWN
  /-- slots the group has used in the tick in progress -/
  | X_POOL_USED
  /-- RS codewords of locked streams that failed pass 1 in the tick in progress -/
  | X_POOL_F1
  /-- RS codewords completed in the tick in progress -/
  | X_POOL_N
  /-- a codeword stayed failed after its last pass in the tick in progress -/
  | X_POOL_FAIL
  /-- X_POOL_F1 of the last complete tick -/
  | X_POOL_LAST_F1
  /-- X_POOL_N of the last complete tick -/
  | X_POOL_LAST_N
  /-- X_POOL_FAIL of the last complete tick -/
  | X_POOL_LAST_FAIL
  /-- consecutive complete ticks without such a failure, up to 256 -/
  | X_POOL_CLEAN
  /-- the tick in progress runs its full request with USABLE equal to ALLOW (R225) -/
  | X_POOL_FULL
  /-- X_POOL_FULL of the last complete tick -/
  | X_POOL_SERVED
  /-- charge of the grant computed for the next tick -/
  | X_POOL_NEXT_CHARGE
  /-- grants for the next tick have been computed -/
  | X_POOL_READY
  /-- capacity that they used -/
  | X_POOL_NEXT_C
  /-- the unallocated budget of that computation -/
  | X_POOL_NEXT_LEFT
  /-- the slots by which forced charges exceeded the budget -/
  | X_POOL_NEXT_OVER
  /-- the reserve account (R227) -/
  | X_POOL_RES
  /-- reserve slots drawn in the tick in progress -/
  | X_POOL_RES_DRAWN
  /-- the reserve has been found empty in the tick in progress (R229) -/
  | X_POOL_RES_EMPTY
  /-- performance level that the capacity of the next tick uses -/
  | X_POOL_NEXT_LEVEL
  /-- HOST_A of the lane in the live plan; 0xFF none (R67) -/
  | X_TOPO_A
  /-- HOST_B of the lane in the live plan; 0xFF none (R67) -/
  | X_TOPO_B
  /-- the line lane whose port the host lane serves, plus 1; 0 none -/
  | X_HOST_PORT
  /-- elapsed time at which training began (R247) -/
  | X_HOST_TRAIN_CLK
  /-- transmit precoding that the partner has asked for in training (R248) -/
  | X_HOST_PRE
  /-- consecutive ticks in ADAPT with the clock locked and the SNR high enough, up to 2 (R247) -/
  | X_HOST_OK
  /-- a RETRAIN waits for its tick (R256) -/
  | X_HOST_RETRAIN
  /-- elapsed time of the RETRAIN write -/
  | X_HOST_RETRAIN_CLK
  /-- elapsed time at which the capture-out role was assigned (R254) -/
  | X_COUT_CLK
  /-- the capture-out role has been removed and the lane runs out (R254) -/
  | X_COUT_END
  /-- HOST_UNC has been raised in the tick in progress (R255) -/
  | X_HOST_UNC_TICK
  /-- highest pass run on an RS codeword that ends in the frame in progress (R303) -/
  | X_SPR_F_PASS
  /-- RS codewords that end in it -/
  | X_SPR_F_END
  /-- those of them that failed pass 1 -/
  | X_SPR_F_FAIL1
  /-- those of them uncorrectable -/
  | X_SPR_F_UNC
  /-- a pass was skipped in it -/
  | X_SPR_F_SKIP
  /-- base of a GDDR7 region of the live plan, 64 MiB units: 0 postmaster, 1 ledger, 2 staging, 3 capture (R309) -/
  | X_REGION_BASE
  /-- size of the region -/
  | X_REGION_SIZE
  /-- the region is in use: within the capacity found (R421) -/
  | X_REGION_IN
  /-- the capture region takes its default SIZE (R309) -/
  | X_REGION_DEF
  /-- host lane of a capture-out record, 0xFF unused (R309) -/
  | X_COUT_LANE
  /-- destination address of a capture-out record, first byte lowest -/
  | X_COUT_DEST
  /-- source address of a capture-out record -/
  | X_COUT_SRC
  /-- EtherType of a capture-out record -/
  | X_COUT_TYPE
  /-- ring position that drives an XTRIG line, 0xFF none (R309) -/
  | X_XTRIG_DRIVER
  /-- index of the next sample -/
  | X_CAP_FIRST
  /-- SEQ of the next block -/
  | X_CAP_SEQ
  /-- segment in progress -/
  | X_CAP_SEG
  /-- blocks written in the segment -/
  | X_CAP_WRITTEN
  /-- the segment has its trigger -/
  | X_CAP_TRIG
  /-- SEQ of the trigger block -/
  | X_CAP_TRIG_SEQ
  /-- its offset in the buffer -/
  | X_CAP_TRIG_OFF
  /-- k of the trigger of the segment -/
  | X_CAP_DIR_SAMPLE
  /-- its time -/
  | X_CAP_DIR_TIME
  /-- its FRAC -/
  | X_CAP_DIR_FRAC
  /-- its source code -/
  | X_CAP_DIR_SRC
  /-- its postmark flags -/
  | X_CAP_DIR_FLAGS
  /-- sample of the first trigger accepted in the latest cycle that had one, plus 1; 0 none (R328) -/
  | X_CAP_LAST_K
  /-- elapsed time of that cycle -/
  | X_CAP_LAST_CLK
  /-- triggers accepted since the arm -/
  | X_CAP_TSEQ
  /-- elapsed time at which the auto timer started (R327) -/
  | X_CAP_AUTO_CLK
  /-- samples have been lost since the block before -/
  | X_CAP_GAP
  /-- the GAP pigeonhole has been raised in the tick in progress -/
  | X_CAP_GAP_TICK
  /-- POST_TIME has been stepped since the block before -/
  | X_CAP_STEP
  /-- the violation limit has been reached since the arm -/
  | X_CAP_MASKED
  /-- blocks that wait in the buffer in modes 2 and 3 -/
  | X_CAP_QUEUED
  /-- elapsed time at which the oldest block that waits for a partner left the buffer (R318) -/
  | X_CAP_WAIT_CLK
  /-- frames of the stream sent -/
  | X_CAP_FRAME_SEQ
  /-- capture-out record that takes the next frame -/
  | X_CAP_LANE
  /-- sweep: eye of the point in progress (R305) -/
  | X_CAP_EYE
  /-- sweep: PHASE of the point in progress, signed -/
  | X_CAP_PH
  /-- sweep: THRESH of the point in progress, signed -/
  | X_CAP_TH
  /-- time of the latest accepted edge on a TRIG_IN pin, plus 1; 0 none (R326) -/
  | X_TRIGIN_LAST
  /-- reason of an END block that waits for room in the buffer; 0 none -/
  | X_CAP_END_WAIT
  /-- STARVED has been set in the tick in progress (R489) -/
  | X_DMA_STARVED
  /-- MEM_ERR has been raised in the tick in progress (R442) -/
  | X_MEM_ERR_TICK
  /-- failed trainings of a channel in a row (R436) -/
  | X_MEM_TRY
  /-- elapsed time of the latest of them -/
  | X_MEM_TRY_CLK
  /-- the channel runs a full retrain (R435) -/
  | X_MEM_RT
  /-- elapsed time at which it started -/
  | X_MEM_RT_CLK
  /-- a RETRAIN waits for its tick (R435) -/
  | X_MEM_RT_REQ
  /-- elapsed time of the RETRAIN write -/
  | X_MEM_RT_REQ_CLK
  /-- elapsed time of the latest drift tracking of a channel (R435) -/
  | X_MEM_TRACK_CLK
  /-- CRC retries of a channel since its latest drift tracking -/
  | X_MEM_RETRIES
  /-- the device was above 85 C at the latest reading, and its refresh rate is doubled (R422) -/
  | X_MEM_HOT
  /-- rate code of the link when it was last up; 0 never -/
  | X_PCIE_SPEED
  /-- width of the link when it was last up; 0 never -/
  | X_PCIE_WIDTH
  /-- POST_TIME at which the tile timer fires next; 0 for the next multiple of its period (R352, R353) -/
  | X_BIAS_DUE
  /-- POST_TIME has been stepped or set, or the exponent changed, since the latest alignment (R353) -/
  | X_BIAS_REALIGN
  /-- elapsed time of the latest driver write to TARGET (R349) -/
  | X_BIAS_TCLK
  /-- the target in force before it -/
  | X_BIAS_TOLD
  /-- the deglitcher holds the output (R354) -/
  | X_BIAS_HOLD
  /-- the LIVE code that it holds -/
  | X_BIAS_HELD
  /-- elapsed time at which the hold began -/
  | X_BIAS_HOLD_CLK
  /-- sine generator: 0 off, 1 on, 2 to stop at the next zero crossing (R358) -/
  | X_BIAS_SINE
  /-- its accumulator at X_BIAS_ACC_CLK (R356) -/
  | X_BIAS_ACC
  /-- elapsed time of the generator sample at which the accumulator held X_BIAS_ACC -/
  | X_BIAS_ACC_CLK
  /-- elapsed time of the zero crossing at which the sine stops -/
  | X_BIAS_STOP_CLK
  /-- BIAS_C_SINE or BIAS_C_SINE_INC has been written since the latest update trigger -/
  | X_BIAS_NEW
  /-- elapsed time at which FORCED_ZERO began (R362) -/
  | X_BIAS_FZ_CLK
  /-- elapsed time up to which sine samples have been looked at for the clamp of R357 -/
  | X_BIAS_SEEN
  /-- elapsed time of the latest ledger move, plus 1; 0 none (R350) -/
  | X_BIAS_LEDG
  /-- a sequence is in progress (R372) -/
  | X_HK_RUN
  /-- a start waits for the end of a calibration run (R375) -/
  | X_HK_WAIT
  /-- a tick start waits for the domain to wake (R386) -/
  | X_HK_WAKE
  /-- the sequence in progress runs in a loop (R376) -/
  | X_HK_LOOP
  /-- entries of the sequence in progress, as latched at its start (R378) -/
  | X_HK_LEN
  /-- channel of an entry of the sequence in progress -/
  | X_HK_ENT_CH
  /-- kept conversions of the entry -/
  | X_HK_ENT_N
  /-- kept conversions left of the entry in progress -/
  | X_HK_LEFT
  /-- selection of the latest conversion (R371); 0xFFFF none -/
  | X_HK_SEL
  /-- the next conversion is discarded whatever its selection (R371) -/
  | X_HK_FORCE
  /-- the conversion in progress is to be discarded -/
  | X_HK_DISC
  /-- elapsed time at which the state began: the start-up delay, the conversion, or READY (R373) -/
  | X_HK_CLK
  /-- elapsed time of the latest accepted start, plus 1; 0 none (R374) -/
  | X_HK_START
  /-- a synchronising reset waits for the next sequence start (R380) -/
  | X_HK_SYNC
  /-- a calibration run waits for a conversion boundary (R373) -/
  | X_HK_CAL
  /-- length code that a cross-fade leaves (R381) -/
  | X_HK_OLD_LEN
  /-- length code that waits for the end of a cross-fade (R382) -/
  | X_HK_NEXT_LEN
  /-- the latest compared output lay outside the window (R385) -/
  | X_HK_OUT
  /-- who demanded the reading in progress: bit 0 schedule, 1 driver, 2 calibration or NVM store; 0 none (R528) -/
  | X_THM_DEM
  /-- who demanded a reading that waits for the tile-common domain to wake (R530) -/
  | X_THM_WAIT
  /-- elapsed time at which the reading in progress began -/
  | X_THM_CLK
  /-- elapsed time at which the latest reading completed, plus 1; 0 none -/
  | X_THM_READ
  /-- elapsed time of the latest replacement value since the site failed, plus 1; 0 none (R533) -/
  | X_THM_REPCLK
  /-- a replacement value of the latest scheduled demand waits for the neighbours -/
  | X_THM_REP
  /-- entry count for threshold Ej, j = 1 to 4 (R536) -/
  | X_THM_CNT
  /-- entry count for ALARM -/
  | X_THM_ACNT
  /-- release count of ALARM -/
  | X_THM_AREL
  /-- threshold step (R536) -/
  | X_THM_STEP
  /-- rate step (R537) -/
  | X_THM_RSTEP
  /-- consecutive scheduled readings within the rate limit -/
  | X_THM_RCNT
  /-- a REINSTATE waits for the next scheduled reading (R534) -/
  | X_THM_REINST
  /-- elapsed time at which the latest scheduled reading completed (R531) -/
  | X_THM_SETCLK
  /-- decisions of scheduled readings wait for their tick -/
  | X_THM_DIRTY
  /-- scheduled demands are carried over under R46 -/
  | X_THM_ISSUE
  /-- thresholds E1 to E4 and ALARM of the tile-zone record, then of the hub-zone record, 0.1 C (R544) -/
  | X_THM_TH
  /-- CAP of the action of steps 1 to 4 (R544) -/
  | X_THM_CAP
  /-- LEVEL of the action of steps 1 to 4 -/
  | X_THM_LEVEL
  /-- HYST in full: THM_CFG shows at most 255 -/
  | X_THM_HYST
  /-- POST_TIME of the latest three automatic restarts, latest first (R543) -/
  | X_THM_RESTART
  /-- elapsed time at which a site passed 120 C, 2 us before the latest trip (R541) -/
  | X_THM_SD_CLK
  /-- that restart has taken place -/
  | X_THM_RESTART_SET
  /-- elapsed time at which the run in progress began -/
  | X_CAL_RUN_CLK
  /-- the unit has its place and waits for the reading that it demanded (R394) -/
  | X_CAL_WAIT
  /-- elapsed time of the latest application, plus 1; 0 none (R392) -/
  | X_CAL_LASTAPP
  /-- PERIODIC has arisen since the latest application -/
  | X_CAL_PER
  /-- trims of the unit have gone live by a posting at this tick (R397) -/
  | X_CAL_POSTED
  /-- the reasons that the run in progress serves -/
  | X_CAL_WHY
  /-- the unit has applied a result since cold power-up (R403) -/
  | X_CAL_APPLIED
  /-- tile-local channel that the BIAS run measures, plus 1; 0 none (R383) -/
  | X_CAL_BIAS_CH
  /-- store in progress: 0 none, 1 waits for readings, 2 writes (R404) -/
  | X_NVM_PHASE
  /-- ADC_BASELINE of the store in progress -/
  | X_NVM_BASE
  /-- the store in progress is an automatic one -/
  | X_NVM_AUTO
  /-- elapsed time at which an automatic store was refused -/
  | X_NVM_RETRY_CLK
  /-- the store in progress waits for a reading of the site -/
  | X_NVM_PEND
  /-- sensor offset of the site in use, signed, 1/16 C (R401) -/
  | X_NVM_SENSOR
  /-- bandgap trim in use: tiles 0 to 3 and the hub -/
  | X_NVM_BANDGAP
  /-- LEVEL_ENV of the lane record (R417) -/
  | X_LG_LEVEL_ENV
  /-- TX_ENV of the lane record -/
  | X_LG_TX_ENV
  /-- EFFORT_MAX of the lane record -/
  | X_LG_EFFORT_MAX
  /-- BIAS_ENV of the lane record -/
  | X_LG_BIAS_ENV
  /-- HEATER_ENV of the lane record -/
  | X_LG_HEATER_ENV
  /-- BIAS_STEP of the lane record -/
  | X_LG_BIAS_STEP
  /-- HEATER_STEP of the lane record -/
  | X_LG_HEATER_STEP
  /-- FLOOR_SNR of the lane record -/
  | X_LG_FLOOR_SNR
  /-- FLOOR_BER of the lane record -/
  | X_LG_FLOOR_BER
  /-- HEAD_MIN of the lane record -/
  | X_LG_HEAD_MIN
  /-- RX_MIN of the lane record, signed -/
  | X_LG_RX_MIN
  /-- RESP of the lane record -/
  | X_LG_RESP
  /-- ticks of the period in progress -/
  | X_LG_TICKS
  /-- ticks of it at which the lane was LOCKED -/
  | X_LG_LOCK
  /-- sum of LRX_SNR of an eye over those ticks -/
  | X_LG_SNR
  /-- bits that the lane carried in the period while LOCKED -/
  | X_LG_BITS
  /-- corrected bits among them (R210) -/
  | X_LG_CORR
  /-- least headroom so far of BIAS_CH, HEATER_CH, plus 65,536; 0 none -/
  | X_LG_HEAD
  /-- sum of the photodiode outputs without a flag in the period, in units of the result LSB at GAIN 3 over 16 -/
  | X_LG_PD_SUM
  /-- their number -/
  | X_LG_PD_N
  /-- the clerk of the engine was restarted in the period (R408) -/
  | X_LG_PARTIAL
  /-- alarm bits 0 to 4 as they stand (R415) -/
  | X_LG_EXH
  /-- displacement of a level target, signed (R410) -/
  | X_LG_LV_DISP
  /-- displacement of an item of R411, signed: taps 0 to 8 but tap 2, then entries 0 to 63 -/
  | X_LG_TX_DISP
  /-- trial direction of the item: 0 up, 1 down -/
  | X_LG_TX_DIR
  /-- next item of the cyclic order -/
  | X_LG_TX_POS
  /-- item of the latest trial, plus 1; 0 none waits for its comparison -/
  | X_LG_TX_ITEM
  /-- worst far-end SNR of the period before that trial -/
  | X_LG_TX_WAS
  /-- displacement of BIAS_CH, HEATER_CH, codes, signed -/
  | X_LG_B_DISP
  /-- moves left in this period of BIAS_CH, HEATER_CH -/
  | X_LG_B_LEFT
  /-- their direction: 0 up, 1 down -/
  | X_LG_B_DIR
  /-- latest move, signed -/
  | X_LG_B_MOVE
  /-- elapsed time of the latest move, plus 1; 0 none -/
  | X_LG_B_CLK
  /-- received power of the period before, plus 32,768 as a signed value, plus 1; 0 none -/
  | X_LG_RXP
  /-- a change of the ledger minimum waits for its tick -/
  | X_LG_EFF_DUE
  /-- the minimum that the lane will request -/
  | X_LG_EFF_NEXT
  /-- consecutive periods with the group below a quarter of the threshold at one pass fewer, up to 16 -/
  | X_LG_EFF_LOW
  /-- the ADC unit of the lane has applied a result since the latest period end -/
  | X_LG_CAL_NEW
  /-- X_LG_CAL_SNR holds a worst-eye SNR -/
  | X_LG_CAL_HELD
  /-- worst-eye SNR of the first period after the latest application -/
  | X_LG_CAL_SNR
  /-- periods since that application, up to 16 -/
  | X_LG_CAL_AGE
  /-- a calibration request has been made since that application -/
  | X_LG_CAL_DONE
  /-- a REBASE waits for its tick (R413) -/
  | X_LG_REF_DUE
  /-- the latest record has not been written to the history region -/
  | X_LG_UNWRITTEN
  /-- levels that the ledger has moved at this tick -/
  | X_LG_MOVED
  /-- TIME_TICK_COUNT of the latest period end, plus 1; 0 none -/
  | X_LG_CLOSED
  /-- passes of the group in the period in progress -/
  | X_LG_PASSES
  /-- RS codewords of the group in it -/
  | X_LG_CW
  /-- elapsed time of the latest failed attempt (R522) -/
  | X_PWR_RETRY_CLK
  /-- the horizon counts down -/
  | X_PWR_HOR_SET
  /-- source 705 has been raised in the tick in progress (R514) -/
  | X_PWR_REF_TICK
  /-- level change: 0 none, 1 the regulator ramps down, 2 a raise waits for the regulator, 3 the frequency has switched (R501) -/
  | X_LVL_PHASE
  /-- level that a raise goes to -/
  | X_LVL_GOAL
  /-- regulator voltage at X_LVL_CLK, 5 mV units -/
  | X_LVL_V0
  /-- elapsed time at which the ramp in progress began -/
  | X_LVL_CLK
  /-- plan action in progress (R72); 15 the plan of a boot -/
  | X_PLAN_ACT
  /-- flash slot of the action -/
  | X_PLAN_SLOT
  /-- PLAN_STATUS.STATE before the action -/
  | X_PLAN_PREV
  /-- elapsed time at which validation completed (R82) -/
  | X_PLAN_CLK
  /-- IMAGE_CRC of the live plan -/
  | X_PLAN_CRC
  /-- a copy of the plan slot directory is valid (R74) -/
  | X_DIR_OK
  /-- its sequence number -/
  | X_DIR_SEQ
  /-- its current slot -/
  | X_DIR_CUR
  /-- its valid bits -/
  | X_DIR_VALID
  /-- the device samples an XTRIG line before it drives it (R90) -/
  | X_XTRIG_WAIT
  /-- elapsed time at which the sampling began -/
  | X_XTRIG_WAIT_CLK
  /-- the switched domains have no power: warm reset, thermal shutdown or supplies missing -/
  | X_SYS_OFF
  /-- AUX_PG is high -/
  | X_SYS_AUX
  /-- MAIN_PG is high -/
  | X_SYS_MAIN
  /-- SYS_RST_L is low -/
  | X_SYS_RST
  /-- PERST_L is low -/
  | X_SYS_PERST
  /-- elapsed time of the later rise of MAIN_PG and PERST_L (R558) -/
  | X_SYS_PG_CLK
  /-- the endpoint is ready to train -/
  | X_SYS_EP
  /-- the postmaster firmware runs (R557) -/
  | X_SYS_FW
  /-- the latest reset was a cold power-up -/
  | X_SYS_COLD
  /-- no plan has been accepted since the latest reset (R555) -/
  | X_SYS_FIRST
  /-- area 0 holds a plan that a warm reset re-accepts (R553) -/
  | X_SYS_KEEP
  /-- GDDR7 training results are held in area 6 (R434) -/
  | X_SYS_MEM
  /-- slot that a snapshot save writes -/
  | X_SNAP_SLOT
  /-- elapsed time at which SETTLING began, or INIT -/
  | X_LS_CLK
  /-- elapsed time of the latest module-state poll -/
  | X_LS_POLL
  /-- consecutive polls that ask for a change of state, up to 2 (R561) -/
  | X_LS_HITS
  /-- first byte address of the transfer in progress (R566) -/
  | X_TW_ADDR
  /-- its length less 1 -/
  | X_TW_LEN
  /-- it writes -/
  | X_TW_WRITE
  /-- page that the master last wrote, plus 1; 0 none -/
  | X_TW_PAGE
  /-- bank that the master last wrote, plus 1; 0 none -/
  | X_TW_BANK
  /-- page of the transfer -/
  | X_TW_NPAGE
  /-- bank of the transfer -/
  | X_TW_NBANK
  /-- elapsed time at which the transfer began -/
  | X_TW_CLK
  /-- access address of the SMBus target (R567) -/
  | X_SMB_ADDR
  /-- a query in rollback had stopped no block of the data path (R514) -/
  | X_PWR_LIVE
  /-- the engine has been made used and waits for its domains before its restart -/
  | X_ENG_WAIT
  /-- posted settings of PH_T_CFG wait for category 7 of a tick (R466) -/
  | X_PH_POST
  /-- a plan is live -/
  | X_PLAN_ON
  /-- SOURCE of the plan in area 0 (R77) -/
  | X_PLAN_SRC
  /-- its SLOT -/
  | X_PLAN_SRCSLOT
  /-- its PLAN_ID -/
  | X_PLAN_ID
  /-- number of the interrupted write that left the contents of a plan slot open, plus 1; 0 none -/
  | X_SLOT_LOST
  /-- MOD_COUNT that a posting has brought and category 7 has still to make live (R14, R466) -/
  | X_PH_NEW_COUNT
  /-- MOD_TIME that a posting has brought and category 7 has still to make live (R14, R466) -/
  | X_PH_NEW_TIME
  /-- plan slot that a boot loads once the memory is not in training, plus 1; 0 none (R76, R557) -/
  | X_BOOT_SLOT
  /-- postings at the front of the queue that an overrun has carried over (R46) -/
  | X_POST_CARRY
  /-- the waiting plan has been carried over by an overrun (R46, R82) -/
  | X_PLAN_CARRY
  /-- elapsed time from which signal detect is judged: a restart, a wake or a de-assertion (R96) -/
  | X_LRX_SD_CLK
  /-- phase offset at the posting whose move is in progress, signed (R101) -/
  | X_LRX_PO_FROM
  /-- elapsed time of that posting -/
  | X_LRX_PO_CLK
  /-- number of the first segment that began with the lane LOCKED (R124) -/
  | X_LRX_LOCK_SEG
  /-- number of the first segment that the invalid window touches (R125) -/
  | X_LRX_WIN_FIRST
  /-- symbols after the tick at which the first letter of its window leaves the chain (R125) -/
  | X_LRX_WOFF
  /-- the lane has left LOCKED since the last tick (R127) -/
  | X_LRX_LOST
  /-- invalid segments that have ended since the last tick -/
  | X_LRX_BAD_SEG
  /-- the checker has unlocked since the last tick (R139) -/
  | X_LRX_CHK_RAN
  /-- elapsed time at which the sweep point began -/
  | X_LRX_SH_CLK
  /-- frames received since frame lock -/
  | X_SPR_NO
  /-- number of the next frame whose counters are to be kept -/
  | X_SPR_FIN
  /-- place of the first RS codeword boundary of the stream, in stream bits since frame lock (R196) -/
  | X_SPR_PHASE
  /-- RS codewords of the stream that have been decoded since -/
  | X_SPR_CW
  /-- elapsed time of the latest RELOCK write that waits for its tick -/
  | X_SPR_RELOCK_LAST
  /-- elapsed time of the latest REACQUIRE write that waits for its tick -/
  | X_LRX_REACQ_LAST
  /-- bits of idle fill that the lane has sent (R155) -/
  | X_LTX_IDLE
  /-- bits of the first block of host codewords that the encoder has taken -/
  | X_LTX_POS
  /-- elapsed time at which the ramp in progress began (R163) -/
  | X_LTX_RAMP_CLK
  /-- the gain at which it began, in 1/4096 -/
  | X_LTX_RAMP_FROM
  /-- the symbols of a full ramp, 0 for a step -/
  | X_LTX_RAMP_N
  /-- elapsed time at which the running pattern began (R170, R173) -/
  | X_LTX_PAT_CLK
  /-- the latest levels that the source selector has passed on, newest last (R144) -/
  | X_LTX_TAIL
  /-- LTX_DRV.SWING as it is live in the output driver (R39) -/
  | X_LTX_SWING
  /-- clips of the frames sent since the latest tick (R146) -/
  | X_LTX_CLIPS
  /-- who holds far-end loopback: 1 the driver, 2 the plan (R89) -/
  | X_LTX_FAR_BY
  /-- who holds analogue loopback: 1 the driver, 2 the plan (R89) -/
  | X_LRX_LOOP_BY
  /-- letters of each grade in the last complete tick over the lanes of the group (R218) -/
  | X_POOL_LET
  /-- RESERVE that the latest grant computation used (R216, R232) -/
  | X_POOL_RSV
  /-- a grant computation is due in the tick in progress (R224) -/
  | X_POOL_DUE
  /-- the PCS or FEC lanes that the host lane carries, as far as they are locked (R237, R240) -/
  | X_HOST_LANES
  /-- elapsed time from which the markers of the port are sought (R242) -/
  | X_HOST_AM_CLK
  /-- elapsed time of the latest RETRAIN write that waits for its tick -/
  | X_HOST_RETRAIN_LAST
  /-- the best SNR of the training in progress, 0.1 dB (R248) -/
  | X_HOST_BEST
  /-- what times host transmit: 0 the host PLL, 1 + l line lane l of the engine, 9 HOST_A (R245, R250) -/
  | X_HOST_TSRC
  /-- the frequency at the latest change of that source, signed, 0.01 ppm -/
  | X_HOST_TFROM
  /-- elapsed time of that change -/
  | X_HOST_TCLK
  /-- the frequency of HOST_A while it times host transmit, signed, 0.01 ppm -/
  | X_HOST_AFREQ
  /-- the voltage from which the lane domains of the engine move, mV; 0 before the first mode (R504) -/
  | X_ENG_VOLT
  /-- elapsed time at which they began to move -/
  | X_ENG_VOLT_CLK
  /-- SMB_ADDR[1:0] as sampled when AUX_PG rose (R576) -/
  | X_SMB_STRAP
  /-- VALID flags of the segments that have ended, the latest in bit 0 (R124, R307) -/
  | X_LRX_FLAGS
  /-- what the trims add to OUTPUT at the DAC, signed, codes (R355) -/
  | X_BIAS_CORR
  /-- elapsed time of the latest RETRAIN write that waits for its tick -/
  | X_MEM_RT_REQ_LAST
  /-- bytes that a class of R428 has had since the latest tick -/
  | X_MEM_SHARE
  /-- elapsed time of that tick -/
  | X_MEM_SHARE_CLK
  /-- elapsed time of the latest temperature reading of the device, plus 1; 0 none (R420) -/
  | X_MEM_TEMP_CLK
  /-- Max Payload Size of Device Control, bytes (R474) -/
  | X_PCIE_MPS
  /-- Enable Relaxed Ordering of Device Control (R474) -/
  | X_PCIE_RO
  /-- queue that had the latest unit from the device to the host: capture queues, general queues (R490) -/
  | X_DMA_TURN
  /-- elapsed time at which the queue began to wait for a wake (R490) -/
  | X_DMA_WAIT_CLK
  /-- elapsed time of the latest wake request of a domain that was neither asleep nor entering, plus 1 (R517) -/
  | X_PWR_ASKED
  deriving DecidableEq, Repr

/-- The width of a field in bits. A 64-bit register is one field of 64 bits. -/
def F.width : F → Nat
  | .SYS_ID_PART | .TIME_POST_STATUS_SEQ_ACCEPTED | .TIME_POST_STATUS_SEQ_DONE | .TIME_RING_STATUS_PHASE_ERR
  | .TIME_RING_DELAY_DELAY | .TIME_CLERK_STATUS_COUNT | .LRX_STATUS_ACQ_COUNT | .LRX_TR_STATUS_FREQ | .LRX_NOISE_VAR
  | .LRX_NOISE_CLIPS | .LTX_PAT_INDEX | .LTX_CLIPS_LAST | .LTX_CLIPS_TOTAL | .SPR_G_LAT_LATENCY | .SPR_G_LAT_TARGET
  | .SPR_L_ALIGN_ANCHOR_MISS | .POOL_POLICY1_FLOOR | .POOL_SCORE_THR_LOW | .POOL_SCORE_THR_HIGH | .POOL_G_SCORE_SCORE
  | .POOL_G_SCORE_F1 | .POOL_G_AGE_AGE | .POOL_G_AGE_MAX_AGE | .POOL_G_COUNTS_DENIED | .POOL_G_COUNTS_URGENT_ENTRIES
  | .HOST_P_STATUS_LANES_LOCKED | .HOST_T_PENDING_PORTS_PORTS | .COUR_DLQ_STATUS_OVERFLOWS
  | .CAP_TRIG_EVENTS_CLOSE_COUNT | .CAP_XTRIG_STATUS_MERGED | .CAP_TRIGIN_CFG_DELAY | .CAP_XTRIG_IN_DELAY_DELAY
  | .CAP_T_STATUS_ARMS | .CAP_T_SEG_SEGMENTS | .CAP_T_SEG_SEG_DONE | .CAP_T_COUNTS_TRIG_MISSED
  | .CAP_T_COUNTS_RECORDS_LOST | .CAP_T_TRIG_INFO_FRAC | .BIAS_C_LIMIT_LO | .BIAS_C_LIMIT_HI | .BIAS_C_TARGET_TARGET
  | .BIAS_C_LIVE_LIVE | .BIAS_C_LIVE_OUTPUT | .HK_STATUS_SEQ_COUNT | .HK_COUNTS_DISCARDS | .HK_COUNTS_STARTS_MISSED
  | .HK_LIMIT_EV1_CHANNELS | .HK_CH_RES_VALUE | .CAL_NVM_STATUS_WRITES | .CAL_CLASS_PERIOD | .CAL_U_COUNTS_RUNS
  | .CAL_U_TEMP_LAST | .LEDG_CFG_FORECAST_ALARM | .LEDG_L_FC_LOW | .LEDG_L_FC_HIGH | .MEM_LOST_LEDGER
  | .PH_T_COUNTS_MESSAGES | .PH_T_COUNTS_SPURIOUS | .DMA_VIOL_INFO_REQ_ID | .DMA_VIOL_STATUS_OVERFLOWS
  | .DMA_STATUS_RUNNING | .DMA_STATUS_ERROR | .DMA_Q_TAIL_INDEX | .DMA_Q_HEAD_INDEX | .DMA_Q_COUNTS_LATE
  | .DMA_Q_COUNTS_POISONED | .PWR_D_COUNTS_ENTRIES | .THM_S_READING_VALUE | .THM_S_READING_REPLACE
  | .SYS_BOOT_STATUS_FW_VERSION | .SYS_LS_STATUS_INSERTIONS | .SYS_TW_STATUS_TRANSFERS | .X_LRX_ACQ
  | .X_LRX_GRADE_VAR | .X_POOL_FRAME | .X_SPR_F_UNC | .X_COUT_TYPE | .X_CAP_SEG | .X_CAP_DIR_FRAC | .X_CAP_TSEQ
  | .X_BIAS_TOLD | .X_BIAS_HELD | .X_HK_SEL | .X_THM_TH | .X_THM_HYST | .X_NVM_SENSOR | .X_NVM_BANDGAP
  | .X_LG_BIAS_ENV | .X_LG_HEATER_ENV | .X_LG_FLOOR_SNR | .X_LG_FLOOR_BER | .X_LG_HEAD_MIN | .X_LG_RX_MIN
  | .X_LG_RESP | .X_LG_CAL_SNR | .X_HOST_LANES | .X_HOST_AFREQ | .X_LRX_FLAGS => 16
  | .SYS_ID_STEPPING | .TIME_OVR_EVENTS_EVENT | .TIME_OVR_EVENTS_CARRY | .TIME_RING_STATUS_MISSED
  | .TIME_CLERK_STATUS_RESTARTED | .PLAN_STATUS_CODE | .PLAN_RESTARTED_ENGINES | .PLAN_RES_LOG_RESOURCE
  | .PLAN_RES_LOG_INDEX | .PLAN_RES_LOG_COUNT | .LRX_EVENTS_DROP_COUNT | .LRX_TR_PHASE_OFFSET | .LRX_TR_STATUS_JITTER
  | .LRX_TR_STATUS_SLIPS | .LRX_DET_LEVEL_BOUND | .LRX_GRADE_G1 | .LRX_GRADE_G2 | .LRX_GRADE_G3
  | .LRX_LOCK_CFG_SNR_MIN | .LRX_LOCK_CFG_ACQ_LIMIT | .LRX_LOCK_CFG_CLIP_LIMIT | .LRX_SHADOW_CTRL_PHASE
  | .LRX_SHADOW_CTRL_THRESH | .LRX_FE_SD_THR | .LRX_FE_LIVE_AMPLITUDE | .LRX_DET_SEED_LEVEL0 | .LRX_DET_SEED_LEVEL1
  | .LRX_DET_SEED_LEVEL2 | .LRX_DET_SEED_LEVEL3 | .LRX_DET_LIVE_LEVEL0 | .LRX_DET_LIVE_LEVEL1 | .LRX_DET_LIVE_LEVEL2
  | .LRX_DET_LIVE_LEVEL3 | .LRX_CHK_STATUS_RESYNCS | .LRX_NLC_ENTRY_SEED | .LRX_NLC_ENTRY_LIVE | .LTX_STATUS_SQ_CAUSE
  | .LTX_EVENTS_DROP_COUNT | .LTX_DRV_CLIP_LIMIT | .LTX_LEVEL_LEVEL0 | .LTX_LEVEL_LEVEL1 | .LTX_LEVEL_LEVEL2
  | .LTX_LEVEL_LEVEL3 | .LTX_LOOP_STATUS_SLIPS | .LTX_PD_ENTRY_VALUE | .LTX_PD_ENTRY_LIVE | .SPR_G_STATUS_STREAM_LOCK
  | .SPR_G_STATUS_ANCHOR | .POOL_POLICY0_HOLD | .POOL_POLICY0_FRAME_LIMIT | .HOST_L_EVENTS_TRAIN_COUNT
  | .HOST_P_STATUS_SKEW | .COUR_L_QUALITY_AGG_SNR | .COUR_L_PWR_LAST_PRE | .COUR_L_PWR_LAST_COLL | .COUR_CTRL_THRESH
  | .COUR_RX_DESC1_SNR | .COUR_RX_DESC1_PWR | .CAP_STATUS_ACTIVE | .CAP_STATUS_STREAMING | .CAP_MASK_W0_LO
  | .CAP_MASK_W0_HI | .CAP_MASK_W1_PH_LO | .CAP_MASK_W1_PH_HI | .CAP_T_DRAIN_QUEUE | .CAP_T_DRAIN_COUT
  | .CAP_T_TRIG_INFO_SOURCE | .CAP_T_TRIG_INFO_FLAGS | .CAP_T_SWEEP0_PH_START | .CAP_T_SWEEP0_PH_STOP
  | .CAP_T_SWEEP0_TH_START | .CAP_T_SWEEP0_TH_STOP | .BIAS_C_EVENTS_DROP_COUNT | .BIAS_T_PENDING1_CHANNELS
  | .BIAS_T_ZERO1_CHANNELS | .HK_CH_RES_COUNT | .CAL_STATUS_DUE | .CAL_STATUS_RUNNING | .CAL_CLASS_THRESH
  | .CAL_U_COUNTS_ABORTS | .CAL_U_COUNTS_FAILS | .LEDG_CFG_WINDOW | .LEDG_L_CFG_ENABLES | .LEDG_L_CFG_BIAS_CH
  | .LEDG_L_CFG_HEATER_CH | .LEDG_L_STATUS_VALID_RECS | .LEDG_L_DISP_LEVEL | .LEDG_L_DISP_TX | .MEM_ARB_URGENT
  | .MEM_C_STATUS_TEMP | .MEM_C_URGENT_CLASS0 | .MEM_C_URGENT_CLASS2 | .MEM_C_URGENT_CLASS3 | .MEM_C_URGENT_CLASS4
  | .PH_FAULT_LOG_COUNT | .PH_SRC_OCCUR | .PH_T_CLAIM_OCCUR | .PH_T_CFG_MOD_COUNT | .DMA_LINK_STATUS_USABLE
  | .DMA_ARB_URGENT | .DMA_Q_STATUS_ERR_STATUS | .PWR_STATUS_ASLEEP | .PWR_STATUS_ENTERING | .PWR_STATUS_FAILED
  | .PWR_T_LEVEL_VOLTAGE | .PWR_RET_STATUS_VALID | .PWR_D_CFG_PARENT | .PWR_D_COUNTS_REFUSALS | .PWR_D_COUNTS_ABORTS
  | .THM_CFG_HYST | .THM_CFG_RATE | .THM_Z_STEP_STEP_COUNT | .THM_SD_STATUS_TOTAL | .SYS_RESET_CAUSE_RESTORED
  | .SYS_RESET_CAUSE_WARM_COUNT | .SYS_LS_CTRL_TIMEOUT | .X_PH_HELD_COUNT | .X_LRX_SAVED_NLC | .X_LRX_SAVED_LEVEL
  | .X_LRX_SH_PHASE | .X_LRX_SH_THRESH | .X_COUR_RX_PWR | .X_TOPO_A | .X_TOPO_B | .X_SPR_F_END | .X_SPR_F_FAIL1
  | .X_COUT_LANE | .X_XTRIG_DRIVER | .X_CAP_DIR_SRC | .X_CAP_DIR_FLAGS | .X_CAP_PH | .X_CAP_TH | .X_MEM_RETRIES
  | .X_LG_LV_DISP | .X_LG_TX_DISP | .X_LVL_V0 | .X_TW_ADDR | .X_TW_NPAGE | .X_TW_NBANK | .X_PH_NEW_COUNT
  | .X_LRX_PO_FROM => 8
  | .SYS_ID_TILES | .PLAN_STATUS_LAST_ACTION | .PLAN_LIVE_SLOT_VALID | .PLAN_RES_LOG_REQUESTER | .PLAN_RES_LOG_HOLDER
  | .LRX_STATUS_STATE | .LRX_LOCK_CFG_HYST | .LRX_VALID_STATUS_LAST_CHANGE | .LRX_SHADOW_STATUS_HOLDER
  | .SPR_CFG_GROUPS | .SPR_CTRL_DOUBT | .POOL_POLICY0_RESERVE | .POOL_CTRL_DRIVER_CAP | .POOL_STATUS_CAP_THERMAL
  | .POOL_STATUS_CAP_LIVE | .COUR_DLQ_DESC0_REASON | .COUR_TX_RESULT_STATUS | .COUR_TX_SLOTS_BUSY
  | .COUR_TX_DONE_SENT | .COUR_TX_DONE_DEAD | .COUR_RX_STATUS_FULL | .CAP_TRIG_EVENTS_CLOSE | .CAP_T_STATUS_STATE
  | .CAP_T_STATUS_REFUSE | .CAP_T_STATUS_END_REASON | .BIAS_T_TIMER_P | .HK_CH_CFG_LEN | .HK_CH_RAW_LEN_LIVE
  | .CAL_NVM_STATUS_RESULT | .CAL_CLASS_ENABLES | .MEM_C_STATUS_TRAINED | .MEM_C_STATUS_PAUSED | .PH_SRC_PRIORITY
  | .PH_T_CLAIM_PRIORITY | .DMA_LINK_STATUS_WIDTH | .DMA_VIOL_INFO_TYPE | .DMA_Q_STATUS_EPOCH | .PWR_D_CFG_PERMIT
  | .PWR_D_CFG_CLASS | .PWR_D_STATUS_STATE | .PWR_D_LAST_BLOCK | .PWR_D_LAST_DELAY | .PWR_D_LAST_WAKE_SRC
  | .PWR_D_LAST_FAIL | .THM_CFG_DWELL | .THM_CFG_DEMAND_EXP | .THM_CFG_FAST_EXP | .THM_Z_STEP_CAP
  | .THM_S_STATUS_ENTRY_CNT | .THM_S_STATUS_RELEASE_CNT | .SYS_TW_STATUS_RESULT | .X_K_NEXT | .X_PWR_WANT
  | .X_LRX_TRIAL | .X_LRX_WCODE | .X_CAP_LANE | .X_CAP_END_WAIT | .X_PCIE_WIDTH | .X_HK_OLD_LEN | .X_HK_NEXT_LEN
  | .X_THM_CNT | .X_THM_ACNT | .X_THM_AREL | .X_THM_RCNT | .X_THM_CAP | .X_LG_MOVED | .X_PLAN_ACT | .X_DIR_VALID
  | .X_LTX_FAR_BY | .X_LRX_LOOP_BY | .X_POOL_RSV | .X_HOST_TSRC => 4
  | .TIME_NOW_NOW | .TIME_TICK_COUNT_COUNT | .TIME_SET_VALUE | .PLAN_ACCEPT_TIME_TIME | .PLAN_RES_TIME_TIME
  | .LRX_INVALID_SEG_COUNT | .LRX_SEG_COUNT | .LRX_CHK_BITS_COUNT | .LRX_CHK_ERRS_COUNT | .LTX_FRAMES_COUNT
  | .SPR_G_FRAMES_COUNT | .SPR_G_FRAMES_INV_COUNT | .SPR_G_UNC_FRAMES_COUNT | .SPR_G_UNC_FRAMES_INV_COUNT
  | .SPR_G_RS_CW_COUNT | .SPR_G_RS_UNC_COUNT | .SPR_G_RS_SYM_CORR_COUNT | .SPR_G_PASSES_COUNT
  | .SPR_G_INNER_DOUBT_COUNT | .SPR_G_SKIPPED_COUNT | .SPR_L_CORR_BITS_COUNT | .SPR_L_RS_CW_COUNT
  | .SPR_L_RS_UNC_COUNT | .SPR_L_PASSES_COUNT | .POOL_SLOTS_COUNT | .HOST_P_CW_COUNT | .HOST_P_CW_CORR_COUNT
  | .HOST_P_CW_UNC_COUNT | .HOST_P_SYM_CORR_COUNT | .COUR_DLQ_DESC2_TIME | .COUR_RX_DESC2_TIME | .CAP_T_PERIOD_P
  | .CAP_T_SAMPLES_LOST_VALUE | .CAP_T_BLOCKS_VALUE | .CAP_T_TRIG_SAMPLE_VALUE | .CAP_T_TRIG_TIME_VALUE
  | .HK_SEQ_TIME_TIME | .CAL_U_TIME_TIME | .LEDG_PERIOD_COUNT_COUNT | .MEM_C_BYTES_COUNT | .DMA_VIOL_ADDR_ADDR
  | .DMA_VIOL_TIME_TIME | .DMA_Q_RING_ADDR | .DMA_Q_CPL_ADDR | .DMA_Q_BYTES_COUNT | .THM_SD_TIME_TIME
  | .THM_S_TIME_TIME | .X_TICK_DUE | .X_K_FROM | .X_SET_FROM | .X_SLEW | .X_RING_PULSED | .X_RING_PULSE_CLK
  | .X_RING_STAMP | .X_PH_HOLD_END | .X_PH_SEL_CLK | .X_PWR_BEGAN | .X_PWR_HOR_END | .X_XTRIG_END | .X_LRX_REACQ_CLK
  | .X_LRX_SEG_ABS | .X_LRX_WIN_LAST | .X_COUR_GAP_END | .X_COUR_KNOCK_CLK | .X_COUR_READY_CLK | .X_COUR_RX_TIME
  | .X_SPR_RELOCK_CLK | .X_SPR_LAT_CLK | .X_HOST_TRAIN_CLK | .X_HOST_RETRAIN_CLK | .X_COUT_CLK | .X_CAP_FIRST
  | .X_CAP_DIR_SAMPLE | .X_CAP_DIR_TIME | .X_CAP_LAST_K | .X_CAP_LAST_CLK | .X_CAP_AUTO_CLK | .X_CAP_WAIT_CLK
  | .X_TRIGIN_LAST | .X_MEM_TRY_CLK | .X_MEM_RT_CLK | .X_MEM_RT_REQ_CLK | .X_MEM_TRACK_CLK | .X_BIAS_DUE
  | .X_BIAS_TCLK | .X_BIAS_HOLD_CLK | .X_BIAS_ACC_CLK | .X_BIAS_STOP_CLK | .X_BIAS_FZ_CLK | .X_BIAS_SEEN
  | .X_BIAS_LEDG | .X_HK_CLK | .X_HK_START | .X_THM_CLK | .X_THM_READ | .X_THM_REPCLK | .X_THM_SETCLK
  | .X_THM_RESTART | .X_THM_SD_CLK | .X_CAL_RUN_CLK | .X_CAL_LASTAPP | .X_NVM_RETRY_CLK | .X_LG_TICKS | .X_LG_LOCK
  | .X_LG_SNR | .X_LG_BITS | .X_LG_CORR | .X_LG_HEAD | .X_LG_PD_SUM | .X_LG_PD_N | .X_LG_B_CLK | .X_LG_CLOSED
  | .X_LG_PASSES | .X_LG_CW | .X_PWR_RETRY_CLK | .X_LVL_CLK | .X_PLAN_CLK | .X_XTRIG_WAIT_CLK | .X_SYS_PG_CLK
  | .X_LS_CLK | .X_LS_POLL | .X_TW_CLK | .X_LRX_SD_CLK | .X_LRX_PO_CLK | .X_LRX_LOCK_SEG | .X_LRX_WIN_FIRST
  | .X_LRX_BAD_SEG | .X_LRX_SH_CLK | .X_SPR_NO | .X_SPR_FIN | .X_SPR_PHASE | .X_SPR_CW | .X_SPR_RELOCK_LAST
  | .X_LRX_REACQ_LAST | .X_LTX_IDLE | .X_LTX_RAMP_CLK | .X_LTX_PAT_CLK | .X_HOST_AM_CLK | .X_HOST_RETRAIN_LAST
  | .X_HOST_TCLK | .X_ENG_VOLT_CLK | .X_MEM_RT_REQ_LAST | .X_MEM_SHARE | .X_MEM_SHARE_CLK | .X_MEM_TEMP_CLK
  | .X_DMA_WAIT_CLK | .X_PWR_ASKED => 64
  | .TIME_TICK_CFG_PERIOD_K | .PLAN_STATUS_STATE | .LRX_TR_BW | .LRX_FFE_CTRL_MU | .LRX_NLC_CTRL_MU | .LRX_DET_MU
  | .LRX_CHK_CTRL_PATTERN | .LTX_CTRL_AUTO_SQ | .LTX_STATUS_LOOP_CLK_LANE | .LTX_LOOP_STATUS_FILL_LEVEL
  | .SPR_G_STATUS_ALLOW | .SPR_G_STATUS_USABLE | .SPR_G_ALIGN_ORDER_LANE | .SPR_G_ALIGN_ORDER_FOUND
  | .POOL_G_CTRL_MIN | .POOL_G_CTRL_MAX | .POOL_G_CTRL_FORCE | .POOL_G_REQ_REQUEST | .POOL_G_REQ_POLICY
  | .POOL_G_REQ_FLOOR | .POOL_G_REQ_LEDGER_MIN | .POOL_G_REQ_GRANT | .HOST_L_STATUS_STATE | .HOST_P_STATUS_TX_SRC
  | .COUR_L_STATUS_RX_STATE | .COUR_L_STATUS_TX_STATE | .COUR_DLQ_DESC0_MODE | .COUR_TX_SLOTS_SENDING
  | .COUR_RX_DESC0_MODE | .CAP_T_CTRL_POINT | .CAP_T_SWEEP1_EYES | .HK_STATUS_STATE | .HK_STATUS_LAST_SRC
  | .LEDG_L_DISP_LEDGER_MIN | .MEM_ARB_RANK0 | .MEM_ARB_RANK1 | .MEM_ARB_RANK2 | .MEM_ARB_RANK3 | .MEM_ARB_RANK4
  | .MEM_STATUS_STATE | .DMA_LINK_STATUS_SPEED | .PWR_D_STATUS_GOAL | .PWR_D_STATUS_POINT | .THM_Z_STEP_STEP
  | .THM_S_STATUS_STEP | .SYS_RESET_CAUSE_CAUSE | .SYS_BOOT_STATUS_STAGE | .SYS_SNAP_STATUS_RESULT
  | .SYS_LS_STATUS_STATE | .SYS_LS_STATUS_MODSTATE | .X_TIME_PHASE | .X_CLERK_SILENT | .X_PWR_FROM | .X_LRX_SNR_LOW
  | .X_LRX_LOADED | .X_COUR_BURSTS | .X_SPR_F_PASS | .X_PCIE_SPEED | .X_HK_ENT_N | .X_HK_LEFT | .X_THM_DEM
  | .X_THM_WAIT | .X_THM_STEP | .X_THM_RSTEP | .X_LG_EFFORT_MAX | .X_LG_EFF_NEXT | .X_PLAN_PREV | .X_BOOT_SLOT => 3
  | .TIME_TICK_CFG_ROLE | .TIME_TICK_CFG_POSITION | .TIME_RING_STATUS_STATE | .PLAN_LIVE_SOURCE | .PLAN_LIVE_SLOT
  | .PLAN_LIVE_CURRENT | .LRX_FFE_CTRL_SEED_SRC | .LRX_SHADOW_CTRL_EYE | .LTX_CTRL_SOURCE | .LTX_CTRL_RAMP
  | .LTX_STATUS_OUTPUT | .LTX_STATUS_SOURCE | .LTX_COUR_DEPTH | .LTX_PAT_PATTERN | .SPR_CFG_WIDTH | .SPR_CFG_MODE
  | .SPR_CTRL_SLEW | .SPR_G_STATUS_STATE | .POOL_STATUS_LEVEL | .HOST_L_STATUS_ROLE | .HOST_P_CTRL_NODATA
  | .COUR_DLQ_DESC0_GEN | .COUR_TX_RESULT_SLOT | .COUR_TX_RESULT_GEN | .COUR_RX_STATUS_OLDEST | .COUR_RX_DESC0_GEN
  | .CAP_TRIGIN_CFG_EDGE | .CAP_MASK_W0_LEVEL_EYE | .CAP_T_CTRL_MODE | .CAP_T_CTRL_SCOPE | .CAP_T_CTRL_MASK_SEL
  | .BIAS_C_SINE_RATE | .BIAS_C_STATUS_STATE | .HK_SEQ_REPEAT | .HK_CH_CFG_GAIN | .CAL_NVM_STATUS_SOURCE
  | .CAL_U_STATUS_STATE | .MEM_CFG_DENSITY | .PH_FAULT_LOG_KIND | .DMA_LINK_STATUS_DSTATE | .DMA_VIOL_INFO_REQUESTER
  | .DMA_Q_STATUS_STATE | .PWR_T_LEVEL_REQ | .PWR_T_LEVEL_LIVE | .PWR_T_LEVEL_THERMAL | .PWR_T_LEVEL_TARGET
  | .PWR_D_STATUS_ATTEMPT | .PWR_D_LAST_ANSWER | .THM_Z_STEP_LEVEL | .THM_SD_STATUS_STATE | .THM_SD_STATUS_HOUR_COUNT
  | .THM_S_STATUS_STATE | .THM_S_STATUS_FAIL_CAUSE | .SYS_SNAP_STATUS_VALID | .SYS_LS_CTRL_TW_SPEED | .X_LRX_SNR_OK
  | .X_LRX_SAVED_MODE | .X_LRX_SH_EYE | .X_LTX_START | .X_SPR_GOOD | .X_POOL_NEXT_LEVEL | .X_HOST_OK | .X_CAP_EYE
  | .X_MEM_TRY | .X_BIAS_SINE | .X_THM_LEVEL | .X_NVM_PHASE | .X_LVL_PHASE | .X_LVL_GOAL | .X_PLAN_SLOT | .X_DIR_CUR
  | .X_LS_HITS | .X_PLAN_SRC | .X_PLAN_SRCSLOT | .X_LTX_TAIL | .X_SMB_STRAP => 2
  | .TIME_POST_ERR_QUEUED | .LRX_DET_ALPHA | .LRX_DET_BETA | .LRX_FE_VGA | .LRX_FE_LIVE_VGA | .LTX_DRV_SWING
  | .HOST_L_TXEQ_LIMIT_CM3_MAX | .HOST_L_TXEQ_LIMIT_CM2_MAX | .HOST_L_TXEQ_LIMIT_CM1_MAX | .HOST_L_TXEQ_LIMIT_CP1_MAX
  | .HOST_L_TXEQ_CM3 | .HOST_L_TXEQ_CM2 | .HOST_L_TXEQ_CM1 | .HOST_L_TXEQ_CP1 | .HOST_L_TXEQ_SWING
  | .HOST_L_TXEQ_LIVE_CM3 | .HOST_L_TXEQ_LIVE_CM2 | .HOST_L_TXEQ_LIVE_CM1 | .HOST_L_TXEQ_LIVE_CP1
  | .HOST_L_TXEQ_LIVE_SWING | .COUR_CTRL_KNOCK_THR | .COUR_DLQ_STATUS_HEAD | .COUR_DLQ_DESC0_LANE
  | .COUR_DLQ_DESC1_BUF | .CAP_STATUS_PCIE_USED | .CAP_T_CTRL_LANE | .CAP_T_SWEEP1_PH_STEP | .CAP_T_SWEEP1_TH_STEP
  | .HK_CTRL_SEQ_LEN | .HK_STATUS_ENTRY | .HK_SEQ_CHANNEL | .HK_CH_CFG_SUB | .CAL_U_STATUS_REASONS | .CAL_U_TEMP_SITE
  | .LEDG_L_ALARM_EV_RISEN | .THM_STATUS_FAILED | .THM_Z_STEP_SITE | .THM_SD_STATUS_SITE | .X_LRX_BEST_VGA
  | .X_HK_LEN | .X_HK_ENT_CH | .X_CAL_WHY | .X_CAL_BIAS_CH | .X_LG_LEVEL_ENV | .X_POST_CARRY | .X_LTX_SWING => 6
  | .TIME_OVR_COUNT_COUNT | .PLAN_LIVE_ID_ID | .LRX_GRADE_COUNT_COUNT | .LRX_SHADOW_HITS_HITS
  | .LRX_CHK_GRADE_ERR_COUNT | .LRX_CHK_SKIPPED_COUNT | .LTX_PAT_MEM_SYMBOLS | .SPR_G_PASS_HIST_COUNT
  | .HOST_P_HIST_COUNT | .HOST_T_PENDING_LANES | .COUR_L_RX_DETECT_COUNT | .COUR_L_RX_RESTART_COUNT
  | .COUR_L_RX_HDR_ERR_COUNT | .COUR_L_RX_FORMAT_ERR_COUNT | .COUR_L_RX_CRC_ERR_COUNT | .COUR_L_RX_OK_COUNT
  | .COUR_L_RX_DUP_COUNT | .COUR_L_RX_COLLISION_COUNT | .COUR_L_RX_ABANDONED_COUNT | .COUR_L_RX_LOOP_COUNT
  | .COUR_L_TX_SENT_COUNT | .COUR_L_TX_REQUEUED_COUNT | .COUR_L_SNR_SNR | .COUR_L_REC_CODES | .COUR_TXMAP_A_CODES
  | .COUR_TXMAP_B_CODES | .COUR_RXMAP_A_CODES | .COUR_RXMAP_B_CODES | .CAP_T_AUTO_TIMEOUT | .CAP_T_HIT_LIMIT_HITS
  | .CAP_T_VIOL_LIMIT_COUNT | .CAP_T_VIOL_COUNT_COUNT | .BIAS_C_SINE_INC_INC | .BIAS_T_PENDING0_CHANNELS
  | .BIAS_T_ZERO0_CHANNELS | .HK_LIMIT_EV0_CHANNELS | .CAL_NVM_SEQ_SEQ | .CAL_DUE_UNITS | .LEDG_HIST_HEAD_HEAD
  | .LEDG_L_ALARM_WORD | .LEDG_L_REC_BYTES | .MEM_CH_READY_CHANNELS | .MEM_C_CRC_RETRY_COUNT | .MEM_C_UNCORR_COUNT
  | .MEM_C_RETRAINS_COUNT | .MEM_C_ODECC_COUNT | .MSIX_ADDR_LO_ADDR_LO | .MSIX_ADDR_HI_ADDR_HI | .MSIX_DATA_DATA
  | .DMA_Q_DESC_DONE_COUNT | .PWR_ASLEEP_DOMAINS | .PWR_FAILED_DOMAINS | .PWR_D_HORIZON_HORIZON | .SYS_TW_BUF_BYTES
  | .CAL_TRIM_WORD | .X_COUR_ORD | .X_COUR_SLOT_ORD | .X_COUR_RX_HEADER | .X_COUR_RX_MAP | .X_SPR_START | .X_SPR_REF
  | .X_POOL_F1 | .X_POOL_N | .X_POOL_LAST_F1 | .X_POOL_LAST_N | .X_REGION_BASE | .X_REGION_SIZE | .X_CAP_SEQ
  | .X_CAP_WRITTEN | .X_CAP_TRIG_SEQ | .X_CAP_FRAME_SEQ | .X_BIAS_ACC | .X_LG_B_DISP | .X_LG_B_MOVE | .X_PLAN_CRC
  | .X_DIR_SEQ | .X_SMB_ADDR | .X_PLAN_ID | .X_SLOT_LOST | .X_LTX_CLIPS | .X_HOST_TFROM => 32
  | .PLAN_ERR_OFFSET_OFFSET | .X_BIAS_CORR => 20
  | .LRX_CTRL_FREEZE | .LRX_STATUS_CLERK_FROZEN | .LRX_SHADOW_CTRL_DWELL | .LRX_FE_CTLE | .LRX_FE_LIVE_CTLE
  | .SPR_CTRL_ERASE_MAX | .POOL_STATUS_URGENT_COUNT | .CAP_T_HOLDOFF_HOLDOFF | .CAP_T_HOLDOFF_GATE_ON
  | .CAP_T_HOLDOFF_GATE_PER | .CAP_T_SWEEP1_DWELL | .BIAS_C_STATUS_ZERO_CAUSE | .CAL_CTRL_HOLD | .LEDG_CFG_PERIOD_EXP
  | .PH_T_STATUS_DEPTH | .DMA_VIOL_STATUS_COUNT | .DMA_Q_CTRL_SIZE_EXP | .PWR_D_STATUS_HOLDOFF | .X_LRX_BEST_CTLE
  | .X_LRX_SH_DWELL | .X_SPR_BAD | .X_LG_EXH | .X_LG_B_LEFT | .X_LG_EFF_LOW | .X_LG_CAL_AGE | .X_DMA_TURN => 5
  | .LRX_NLC_CTRL_BOUND | .COUR_DLQ_STATUS_COUNT | .COUR_TX_RESULT_QUAR_LEFT | .PH_CFG_TARGETS | .PH_FAULT_LOG_TARGET
  | .PH_SRC_TARGET | .X_DMA_OUT | .X_DMA_OLD | .X_HOST_PORT | .X_LG_TX_ENV | .X_LG_BIAS_STEP | .X_LG_HEATER_STEP
  | .X_LG_TX_POS | .X_LG_TX_ITEM | .X_TW_LEN => 7
  | .LRX_SNR_EYE0 | .LRX_SNR_EYE1 | .LRX_SNR_EYE2 | .LRX_FFE_TAP_SEED | .LRX_FFE_TAP_LIVE | .LTX_FIR_COEF
  | .LTX_FIR_LIVE | .HOST_L_STATUS_SNR | .COUR_L_QUALITY_LQ | .COUR_DLQ_DESC0_ID | .COUR_RX_DESC0_ID
  | .CAP_STATUS_GDDR7_USED | .HK_CH_RAW_FADE_LEFT | .LEDG_L_FAR_SNR0 | .LEDG_L_FAR_SNR2 | .LEDG_L_FAR_WORST
  | .MEM_CFG_CAPACITY | .PH_FAULT_LOG_SOURCE | .PH_T_CLAIM_SOURCE | .PH_T_STATUS_TOP | .X_PH_SEL | .X_LRX_SAVED_TAP
  | .X_LG_TX_WAS | .X_HOST_BEST | .X_ENG_VOLT | .X_PCIE_MPS => 10
  | .LRX_VALID_STATUS_WINDOW | .BIAS_C_CFG_STEP | .X_PCIE_MRRS | .X_LRX_WLEN | .X_LTX_RAMP_FROM | .X_LTX_RAMP_N => 13
  | .LRX_FFE_TAP_BOUND | .SPR_G_ALIGN_SKEW | .SPR_L_ALIGN_DELAY | .CAP_REGION_BASE | .CAP_REGION_SIZE
  | .MEM_BAR2_BASE_BASE | .X_SPR_REJOIN | .X_POOL_CLEAN | .X_TW_PAGE | .X_TW_BANK => 9
  | .POOL_POLICY0_URGENT | .HOST_L_TRAIN_TIMEOUT | .COUR_DLQ_DESC1_LEN | .COUR_RX_DESC0_LEN | .HK_CH_RAW_CODE
  | .HK_CH_LIMIT_LO | .HK_CH_LIMIT_HI | .PH_T_CFG_MOD_TIME | .X_PH_NEW_TIME => 12
  | .POOL_CAPACITY_SLOTS | .POOL_CHARGED_SLOTS | .POOL_RESERVE_START_SLOTS | .POOL_RESERVE_DRAWN_SLOTS
  | .POOL_G_CHARGE_CHARGE | .POOL_G_RESERVE_SLOTS | .POOL_G_USED_SLOTS | .CAP_T_PRE_BLOCKS | .CAP_T_POST_BLOCKS
  | .X_POOL_ACCT | .X_POOL_DRAWN | .X_POOL_USED | .X_POOL_NEXT_CHARGE | .X_POOL_NEXT_C | .X_POOL_NEXT_LEFT
  | .X_POOL_NEXT_OVER | .X_POOL_RES | .X_POOL_RES_DRAWN | .X_CAP_TRIG_OFF | .X_CAP_QUEUED => 24
  | .COUR_L_QUALITY_MEASURED | .X_LRX_WOFF | .X_LTX_POS => 14
  | .CAP_XTRIG_OUT_SRC | .CAP_T_TRIG_SEL_SRC | .X_LG_RXP => 17
  | .CAP_T_BUF_BASE_BLOCKS | .CAP_T_BUF_SIZE_BLOCKS | .CAP_T_WRITE_PTR_BLOCK | .CAP_T_READ_PTR_BLOCK => 23
  | .BIAS_C_SINE_AMP => 15
  | .X_LRX_BEST_SNR => 11
  | .X_COUR_MSE | .X_POOL_LET => 40
  | .X_SPR_LAT => 42
  | .X_COUT_DEST | .X_COUT_SRC => 48
  | _ => 1

/-- The block a field lies in. -/
def F.blk : F → Blk
  | .SYS_ID_PART | .SYS_ID_STEPPING | .SYS_ID_TILES | .TIME_NOW_NOW | .TIME_TICK_COUNT_COUNT
  | .TIME_TICK_CFG_PERIOD_K | .TIME_TICK_CFG_ROLE | .TIME_TICK_CFG_POSITION | .TIME_POST_STATUS_SEQ_ACCEPTED
  | .TIME_POST_STATUS_SEQ_DONE | .TIME_POST_ERR_FULL | .TIME_POST_ERR_SCOPE | .TIME_POST_ERR_CARRIED
  | .TIME_POST_ERR_QUEUED | .TIME_OVR_EVENTS_EVENT | .TIME_OVR_EVENTS_CARRY | .TIME_OVR_COUNT_COUNT
  | .TIME_RING_STATUS_STATE | .TIME_RING_STATUS_CONFLICT | .TIME_RING_STATUS_PERIOD_MISMATCH
  | .TIME_RING_STATUS_MISSED | .TIME_RING_STATUS_PHASE_ERR | .TIME_RING_DELAY_DELAY | .TIME_SET_VALUE
  | .TIME_SET_CTRL_ARMED | .TIME_SET_CTRL_REFUSED | .TIME_CLERK_STATUS_RESTARTED | .TIME_CLERK_STATUS_COUNT
  | .PLAN_STATUS_CODE | .PLAN_STATUS_STATE | .PLAN_STATUS_LAST_ACTION | .PLAN_STATUS_REFUSED | .PLAN_STATUS_FALLBACK
  | .PLAN_ERR_OFFSET_OFFSET | .PLAN_LIVE_SOURCE | .PLAN_LIVE_SLOT | .PLAN_LIVE_CURRENT | .PLAN_LIVE_SLOT_VALID
  | .PLAN_LIVE_ID_ID | .PLAN_RESTARTED_ENGINES | .PLAN_ACCEPT_TIME_TIME | .PLAN_RES_LOG_RESOURCE
  | .PLAN_RES_LOG_INDEX | .PLAN_RES_LOG_REQUESTER | .PLAN_RES_LOG_HOLDER | .PLAN_RES_LOG_COUNT | .PLAN_RES_TIME_TIME
  | .COUR_CTRL_PREEMPT | .COUR_CTRL_THRESH | .COUR_CTRL_KNOCK_THR | .COUR_DLQ_STATUS_COUNT | .COUR_DLQ_STATUS_HEAD
  | .COUR_DLQ_STATUS_OVERFLOWS | .COUR_DLQ_DESC0_LANE | .COUR_DLQ_DESC0_DIR | .COUR_DLQ_DESC0_REASON
  | .COUR_DLQ_DESC0_ID | .COUR_DLQ_DESC0_GEN | .COUR_DLQ_DESC0_MODE | .COUR_DLQ_DESC1_LEN | .COUR_DLQ_DESC1_BUF
  | .COUR_DLQ_DESC2_TIME | .CAP_STATUS_ACTIVE | .CAP_STATUS_STREAMING | .CAP_STATUS_GDDR7_USED
  | .CAP_STATUS_PCIE_USED | .CAP_REGION_BASE | .CAP_REGION_SIZE | .CAP_TRIG_EVENTS_CLOSE
  | .CAP_TRIG_EVENTS_CLOSE_COUNT | .CAP_XTRIG_STATUS_MERGED | .CAP_TRIGIN_CFG_EDGE | .CAP_TRIGIN_CFG_DELAY
  | .CAP_XTRIG_OUT_SRC | .CAP_XTRIG_OUT_REFUSED | .CAP_XTRIG_OUT_DRIVING | .CAP_XTRIG_IN_DELAY_DELAY | .CAL_CTRL_HOLD
  | .CAL_STATUS_DUE | .CAL_STATUS_RUNNING | .CAL_STATUS_REFUSED | .CAL_NVM_STATUS_SOURCE | .CAL_NVM_STATUS_BUSY
  | .CAL_NVM_STATUS_RETRY | .CAL_NVM_STATUS_RESULT | .CAL_NVM_STATUS_WRITES | .CAL_NVM_SEQ_SEQ | .CAL_DUE_UNITS
  | .CAL_CLASS_ENABLES | .CAL_CLASS_THRESH | .CAL_CLASS_PERIOD | .LEDG_CFG_PERIOD_EXP | .LEDG_CFG_WINDOW
  | .LEDG_CFG_FORECAST_ALARM | .LEDG_CTRL_PERIOD_IRQ | .LEDG_PERIOD_COUNT_COUNT | .LEDG_HIST_HEAD_HEAD
  | .MEM_CFG_DENSITY | .MEM_CFG_CAPACITY | .MEM_BAR2_BASE_BASE | .MEM_HOST_CAP_WRITE | .MEM_ARB_URGENT
  | .MEM_ARB_RANK0 | .MEM_ARB_RANK1 | .MEM_ARB_RANK2 | .MEM_ARB_RANK3 | .MEM_ARB_RANK4 | .MEM_EVENTS_UNCORR
  | .MEM_EVENTS_RETRAINED | .MEM_EVENTS_FAILED | .MEM_EVENTS_HOT | .MEM_EVENTS_HOT_STOP | .MEM_EVENTS_REGION_ABSENT
  | .MEM_LOST_LEDGER | .MEM_STATUS_STATE | .MEM_CH_READY_CHANNELS | .PH_CFG_MODE | .PH_CFG_TARGETS
  | .PH_FAULT_LOG_TARGET | .PH_FAULT_LOG_SOURCE | .PH_FAULT_LOG_KIND | .PH_FAULT_LOG_COUNT | .PH_PENDING_PENDING
  | .PH_MASK_MASK | .PH_SRC_PRIORITY | .PH_SRC_LEVEL | .PH_SRC_TARGET | .PH_SRC_OCCUR | .PH_SRC_IN_SERVICE
  | .PH_SRC_LINE | .DMA_LINK_STATUS_SPEED | .DMA_LINK_STATUS_WIDTH | .DMA_LINK_STATUS_L1 | .DMA_LINK_STATUS_DSTATE
  | .DMA_LINK_STATUS_BME | .DMA_LINK_STATUS_USABLE | .DMA_LINK_EVENTS_LINK_DOWN | .DMA_LINK_EVENTS_LINK_UP
  | .DMA_LINK_EVENTS_SPEED_CHANGE | .DMA_LINK_EVENTS_WIDTH_CHANGE | .DMA_LINK_EVENTS_HOT_RESET | .DMA_LINK_EVENTS_FLR
  | .DMA_LINK_EVENTS_D3HOT | .DMA_VIOL_ADDR_ADDR | .DMA_VIOL_INFO_REQ_ID | .DMA_VIOL_INFO_REQUESTER
  | .DMA_VIOL_INFO_BAR | .DMA_VIOL_INFO_WRITE | .DMA_VIOL_INFO_TYPE | .DMA_VIOL_TIME_TIME | .DMA_VIOL_STATUS_COUNT
  | .DMA_VIOL_STATUS_OVERFLOWS | .DMA_ARB_URGENT | .DMA_STATUS_RUNNING | .DMA_STATUS_ERROR | .PWR_STATUS_ASLEEP
  | .PWR_STATUS_ENTERING | .PWR_STATUS_FAILED | .PWR_T_LEVEL_REQ | .PWR_T_LEVEL_LIVE | .PWR_T_LEVEL_THERMAL
  | .PWR_T_LEVEL_TARGET | .PWR_T_LEVEL_CHANGING | .PWR_T_LEVEL_VOLTAGE | .PWR_ASLEEP_DOMAINS | .PWR_FAILED_DOMAINS
  | .PWR_RET_STATUS_VALID | .THM_CFG_HYST | .THM_CFG_DWELL | .THM_CFG_DEMAND_EXP | .THM_CFG_FAST_EXP | .THM_CFG_RATE
  | .THM_STATUS_UNTRIMMED | .THM_STATUS_ALARM_ANY | .THM_STATUS_FAILED | .THM_Z_STEP_STEP | .THM_Z_STEP_CAP
  | .THM_Z_STEP_LEVEL | .THM_Z_STEP_SITE | .THM_Z_STEP_STEP_COUNT | .THM_SD_STATUS_STATE | .THM_SD_STATUS_REFUSED
  | .THM_SD_STATUS_SITE | .THM_SD_STATUS_HOUR_COUNT | .THM_SD_STATUS_TOTAL | .THM_SD_TIME_TIME
  | .SYS_RESET_CAUSE_CAUSE | .SYS_RESET_CAUSE_RESTORED | .SYS_RESET_CAUSE_WARM_COUNT | .SYS_BOOT_STATUS_STAGE
  | .SYS_BOOT_STATUS_IMAGE | .SYS_BOOT_STATUS_SNAP_USED | .SYS_BOOT_STATUS_DEV_READY | .SYS_BOOT_STATUS_FW_VERSION
  | .SYS_SNAP_STATUS_BUSY | .SYS_SNAP_STATUS_RESULT | .SYS_SNAP_STATUS_IN_USE | .SYS_SNAP_STATUS_VALID
  | .X_TIME_PHASE | .X_TICK_DUE | .X_K_NEXT | .X_K_FROM | .X_SET_FROM | .X_SLEW | .X_SLEW_DOWN | .X_CLERK_SILENT
  | .X_RING_PULSED | .X_RING_PULSE_CLK | .X_RING_MSG_DUE | .X_RING_STAMP | .X_RING_SMALL | .X_RING_SEEN
  | .X_RING_MSG_OPEN | .X_RING_STEPPED | .X_PCIE_FUNC_MASK | .X_PCIE_PME_EN | .X_PCIE_PME_STATUS | .X_PCIE_MRRS
  | .X_XTRIG_END | .X_REGION_BASE | .X_REGION_SIZE | .X_REGION_IN | .X_REGION_DEF | .X_COUT_LANE | .X_COUT_DEST
  | .X_COUT_SRC | .X_COUT_TYPE | .X_XTRIG_DRIVER | .X_TRIGIN_LAST | .X_MEM_ERR_TICK | .X_MEM_TRY | .X_MEM_TRY_CLK
  | .X_MEM_RT | .X_MEM_RT_CLK | .X_MEM_TRACK_CLK | .X_MEM_RETRIES | .X_PCIE_SPEED | .X_PCIE_WIDTH | .X_THM_SETCLK
  | .X_THM_DIRTY | .X_THM_ISSUE | .X_THM_TH | .X_THM_CAP | .X_THM_LEVEL | .X_THM_HYST | .X_THM_RESTART
  | .X_THM_SD_CLK | .X_THM_RESTART_SET | .X_NVM_PHASE | .X_NVM_BASE | .X_NVM_AUTO | .X_NVM_RETRY_CLK | .X_NVM_BANDGAP
  | .X_LG_CLOSED | .X_PWR_REF_TICK | .X_PLAN_ACT | .X_PLAN_SLOT | .X_PLAN_PREV | .X_PLAN_CLK | .X_PLAN_CRC
  | .X_DIR_OK | .X_DIR_SEQ | .X_DIR_CUR | .X_DIR_VALID | .X_XTRIG_WAIT | .X_XTRIG_WAIT_CLK | .X_SYS_OFF | .X_SYS_AUX
  | .X_SYS_MAIN | .X_SYS_RST | .X_SYS_PERST | .X_SYS_PG_CLK | .X_SYS_EP | .X_SYS_FW | .X_SYS_COLD | .X_SYS_FIRST
  | .X_SYS_KEEP | .X_SYS_MEM | .X_SNAP_SLOT | .X_SMB_ADDR | .X_PLAN_ON | .X_PLAN_SRC | .X_PLAN_SRCSLOT | .X_PLAN_ID
  | .X_SLOT_LOST | .X_BOOT_SLOT | .X_POST_CARRY | .X_PLAN_CARRY | .X_SMB_STRAP | .X_MEM_SHARE | .X_MEM_SHARE_CLK
  | .X_PCIE_MPS | .X_PCIE_RO | .X_DMA_TURN => .hub
  | .LRX_CTRL_FREEZE | .LRX_CTRL_ANALOG_LOOP | .LRX_CTRL_NLC_EN | .LRX_STATUS_STATE | .LRX_STATUS_SIGNAL
  | .LRX_STATUS_TIMING_LOCK | .LRX_STATUS_EQ_CONV | .LRX_STATUS_LOCKED | .LRX_STATUS_LOOPED
  | .LRX_STATUS_CLERK_FROZEN | .LRX_STATUS_READBACK_HELD | .LRX_STATUS_ACQ_COUNT | .LRX_EVENTS_LOS
  | .LRX_EVENTS_LOCK_LOST | .LRX_EVENTS_LOCK_GAINED | .LRX_EVENTS_ACQ_FAIL | .LRX_EVENTS_BOUND_HIT | .LRX_EVENTS_CLIP
  | .LRX_EVENTS_DROPPED | .LRX_EVENTS_LOOP_REFUSED | .LRX_EVENTS_SHADOW_REFUSED | .LRX_EVENTS_CHK_LOCK
  | .LRX_EVENTS_CHK_LOSS | .LRX_EVENTS_GRADE_REJECT | .LRX_EVENTS_DROP_COUNT | .LRX_TR_PHASE_OFFSET | .LRX_TR_BW
  | .LRX_TR_STATUS_FREQ | .LRX_TR_STATUS_JITTER | .LRX_TR_STATUS_SLIPS | .LRX_FFE_CTRL_MU | .LRX_FFE_CTRL_LOAD_SEED
  | .LRX_FFE_CTRL_SEED_SRC | .LRX_NLC_CTRL_MU | .LRX_NLC_CTRL_LOAD_SEED | .LRX_NLC_CTRL_BOUND | .LRX_DET_ALPHA
  | .LRX_DET_BETA | .LRX_DET_LOAD_SEED | .LRX_DET_LEVEL_BOUND | .LRX_DET_MU | .LRX_GRADE_MODE | .LRX_GRADE_G1
  | .LRX_GRADE_G2 | .LRX_GRADE_G3 | .LRX_LOCK_CFG_SNR_MIN | .LRX_LOCK_CFG_HYST | .LRX_LOCK_CFG_ACQ_LIMIT
  | .LRX_LOCK_CFG_CLIP_LIMIT | .LRX_SNR_EYE0 | .LRX_SNR_EYE1 | .LRX_SNR_EYE2 | .LRX_NOISE_VAR | .LRX_NOISE_CLIPS
  | .LRX_VALID_STATUS_LAST_CHANGE | .LRX_VALID_STATUS_WINDOW | .LRX_SHADOW_CTRL_REQUEST | .LRX_SHADOW_CTRL_EYE
  | .LRX_SHADOW_CTRL_PHASE | .LRX_SHADOW_CTRL_THRESH | .LRX_SHADOW_CTRL_DWELL | .LRX_FE_CTLE | .LRX_FE_VGA
  | .LRX_FE_SEARCH | .LRX_FE_SD_THR | .LRX_FE_LIVE_CTLE | .LRX_FE_LIVE_VGA | .LRX_FE_LIVE_AMPLITUDE
  | .LRX_DET_SEED_LEVEL0 | .LRX_DET_SEED_LEVEL1 | .LRX_DET_SEED_LEVEL2 | .LRX_DET_SEED_LEVEL3 | .LRX_DET_LIVE_LEVEL0
  | .LRX_DET_LIVE_LEVEL1 | .LRX_DET_LIVE_LEVEL2 | .LRX_DET_LIVE_LEVEL3 | .LRX_GRADE_COUNT_COUNT
  | .LRX_INVALID_SEG_COUNT | .LRX_SEG_COUNT | .LRX_SHADOW_STATUS_GRANTED | .LRX_SHADOW_STATUS_BUSY
  | .LRX_SHADOW_STATUS_DONE | .LRX_SHADOW_STATUS_HOLDER | .LRX_SHADOW_HITS_HITS | .LRX_CHK_CTRL_ENABLE
  | .LRX_CHK_CTRL_PATTERN | .LRX_CHK_STATUS_LOCKED | .LRX_CHK_STATUS_RESYNCS | .LRX_CHK_BITS_COUNT
  | .LRX_CHK_ERRS_COUNT | .LRX_CHK_GRADE_ERR_COUNT | .LRX_CHK_SKIPPED_COUNT | .LRX_FFE_TAP_SEED | .LRX_FFE_TAP_BOUND
  | .LRX_FFE_TAP_LIVE | .LRX_NLC_ENTRY_SEED | .LRX_NLC_ENTRY_LIVE | .X_LRX_TRIAL | .X_LRX_BEST_SNR | .X_LRX_BEST_CTLE
  | .X_LRX_BEST_VGA | .X_LRX_ACQ | .X_LRX_SNR_OK | .X_LRX_SNR_LOW | .X_LRX_REACQ | .X_LRX_REACQ_CLK | .X_LRX_SAVED
  | .X_LRX_SAVED_MODE | .X_LRX_SAVED_TAP | .X_LRX_SAVED_NLC | .X_LRX_SAVED_LEVEL | .X_LRX_RELEASE | .X_LRX_SEG_ABS
  | .X_LRX_WIN_LAST | .X_LRX_GRADE_VAR | .X_LRX_SH_EYE | .X_LRX_SH_PHASE | .X_LRX_SH_THRESH | .X_LRX_SH_DWELL
  | .X_LRX_LOADED | .X_LRX_WCODE | .X_LRX_WLEN | .X_TOPO_A | .X_TOPO_B | .X_LRX_SD_CLK | .X_LRX_PO_FROM
  | .X_LRX_PO_CLK | .X_LRX_LOCK_SEG | .X_LRX_WIN_FIRST | .X_LRX_WOFF | .X_LRX_LOST | .X_LRX_BAD_SEG | .X_LRX_CHK_RAN
  | .X_LRX_SH_CLK | .X_LRX_REACQ_LAST | .X_LRX_LOOP_BY | .X_LRX_FLAGS => .lrx
  | .LTX_CTRL_SOURCE | .LTX_CTRL_FAR_LOOP | .LTX_CTRL_SQUELCH | .LTX_CTRL_PD_EN | .LTX_CTRL_AUTO_SQ | .LTX_CTRL_RAMP
  | .LTX_STATUS_OUTPUT | .LTX_STATUS_SOURCE | .LTX_STATUS_FILL | .LTX_STATUS_PLL_LOCK | .LTX_STATUS_SQ_CAUSE
  | .LTX_STATUS_LOOP_CLK_LANE | .LTX_STATUS_LOOP_CLK_VALID | .LTX_EVENTS_SQUELCHED | .LTX_EVENTS_UNSQUELCHED
  | .LTX_EVENTS_CLIP | .LTX_EVENTS_DROPPED | .LTX_EVENTS_SOURCE_REFUSED | .LTX_EVENTS_LEVEL_REJECT
  | .LTX_EVENTS_LOOP_SLIP | .LTX_EVENTS_LOOP_CLK_SWITCH | .LTX_EVENTS_DROP_COUNT | .LTX_DRV_SWING
  | .LTX_DRV_CLIP_LIMIT | .LTX_LEVEL_LEVEL0 | .LTX_LEVEL_LEVEL1 | .LTX_LEVEL_LEVEL2 | .LTX_LEVEL_LEVEL3
  | .LTX_COUR_DEPTH | .LTX_PAT_PATTERN | .LTX_PAT_RAW | .LTX_PAT_INVERT | .LTX_PAT_INDEX | .LTX_CLIPS_LAST
  | .LTX_CLIPS_TOTAL | .LTX_LOOP_STATUS_FILL_LEVEL | .LTX_LOOP_STATUS_SLIPS | .LTX_FRAMES_COUNT | .LTX_FIR_COEF
  | .LTX_FIR_LIVE | .LTX_PD_ENTRY_VALUE | .LTX_PD_ENTRY_LIVE | .LTX_PAT_MEM_SYMBOLS | .X_LTX_PAT_RESTART
  | .X_LTX_IDLE | .X_LTX_POS | .X_LTX_RAMP_CLK | .X_LTX_RAMP_FROM | .X_LTX_RAMP_N | .X_LTX_PAT_CLK | .X_LTX_TAIL
  | .X_LTX_SWING | .X_LTX_CLIPS | .X_LTX_FAR_BY => .ltx
  | .SPR_CFG_WIDTH | .SPR_CFG_GROUPS | .SPR_CFG_MODE | .SPR_CTRL_UNC_MARK | .SPR_CTRL_DOUBT | .SPR_CTRL_ERASE_MAX
  | .SPR_CTRL_SLEW | .X_LTX_START | .X_ENG_WAIT | .X_ENG_VOLT | .X_ENG_VOLT_CLK => .spr
  | .SPR_G_STATUS_STATE | .SPR_G_STATUS_STREAM_LOCK | .SPR_G_STATUS_ANCHOR | .SPR_G_STATUS_ALLOW
  | .SPR_G_STATUS_USABLE | .SPR_G_LAT_LATENCY | .SPR_G_LAT_TARGET | .SPR_G_EVENTS_LOCK_GAINED
  | .SPR_G_EVENTS_LOCK_LOST | .SPR_G_EVENTS_UNC | .SPR_G_EVENTS_ORDER_ERR | .SPR_G_EVENTS_SKEW_ERR
  | .SPR_G_EVENTS_LANE_REJOIN | .SPR_G_EVENTS_SKIPPED | .SPR_G_EVENTS_ERASE_CAPPED | .SPR_G_EVENTS_STREAM_LOST
  | .SPR_G_ALIGN_SKEW | .SPR_G_ALIGN_ORDER_LANE | .SPR_G_ALIGN_ORDER_FOUND | .SPR_G_FRAMES_COUNT
  | .SPR_G_FRAMES_INV_COUNT | .SPR_G_UNC_FRAMES_COUNT | .SPR_G_UNC_FRAMES_INV_COUNT | .SPR_G_RS_CW_COUNT
  | .SPR_G_RS_UNC_COUNT | .SPR_G_RS_SYM_CORR_COUNT | .SPR_G_PASSES_COUNT | .SPR_G_INNER_DOUBT_COUNT
  | .SPR_G_SKIPPED_COUNT | .SPR_G_PASS_HIST_COUNT | .X_SPR_WAIT | .X_SPR_GOOD | .X_SPR_BAD | .X_SPR_REF
  | .X_SPR_RELOCK | .X_SPR_RELOCK_CLK | .X_SPR_LAT | .X_SPR_LAT_CLK | .X_SPR_UNC | .X_SPR_UNC_INV | .X_SPR_F_PASS
  | .X_SPR_F_END | .X_SPR_F_FAIL1 | .X_SPR_F_UNC | .X_SPR_F_SKIP | .X_LG_PASSES | .X_LG_CW | .X_SPR_NO | .X_SPR_FIN
  | .X_SPR_RELOCK_LAST => .sprG
  | .SPR_L_CORR_BITS_COUNT | .SPR_L_RS_CW_COUNT | .SPR_L_RS_UNC_COUNT | .SPR_L_PASSES_COUNT | .SPR_L_ALIGN_DELAY
  | .SPR_L_ALIGN_ANCHOR_MISS | .X_SPR_START | .X_SPR_REJOIN | .X_SPR_PHASE | .X_SPR_CW => .sprL
  | .POOL_POLICY0_URGENT | .POOL_POLICY0_RESERVE | .POOL_POLICY0_HOLD | .POOL_POLICY0_FRAME_LIMIT
  | .POOL_POLICY1_FLOOR | .POOL_CTRL_DRIVER_CAP | .POOL_STATUS_LEVEL | .POOL_STATUS_CAP_THERMAL
  | .POOL_STATUS_CAP_LIVE | .POOL_STATUS_URGENT_COUNT | .POOL_STATUS_OVERBOOKED | .POOL_STATUS_POOL_ON
  | .POOL_EVENTS_URGENT_ENTER | .POOL_EVENTS_CAP_CHANGE | .POOL_EVENTS_OVERBOOKED | .POOL_EVENTS_RESERVE_EMPTY
  | .POOL_EVENTS_FLOOR_CUT | .POOL_EVENTS_MINMAX_REJECT | .POOL_EVENTS_GRANT_CARRIED | .POOL_SLOTS_COUNT
  | .POOL_SCORE_THR_LOW | .POOL_SCORE_THR_HIGH | .POOL_CAPACITY_SLOTS | .POOL_CHARGED_SLOTS
  | .POOL_RESERVE_START_SLOTS | .POOL_RESERVE_DRAWN_SLOTS | .X_POOL_READY | .X_POOL_NEXT_C | .X_POOL_NEXT_LEFT
  | .X_POOL_NEXT_OVER | .X_POOL_RES | .X_POOL_RES_DRAWN | .X_POOL_RES_EMPTY | .X_POOL_NEXT_LEVEL | .X_LVL_PHASE
  | .X_LVL_GOAL | .X_LVL_V0 | .X_LVL_CLK | .X_POOL_RSV | .X_POOL_DUE => .pool
  | .POOL_G_CTRL_MIN | .POOL_G_CTRL_MAX | .POOL_G_CTRL_FORCE_EN | .POOL_G_CTRL_FORCE | .POOL_G_REQ_REQUEST
  | .POOL_G_REQ_POLICY | .POOL_G_REQ_FLOOR | .POOL_G_REQ_LEDGER_MIN | .POOL_G_REQ_GRANT | .POOL_G_REQ_URGENT
  | .POOL_G_REQ_DENIED | .POOL_G_REQ_SERVED | .POOL_G_SCORE_SCORE | .POOL_G_SCORE_F1 | .POOL_G_CHARGE_CHARGE
  | .POOL_G_AGE_AGE | .POOL_G_AGE_MAX_AGE | .POOL_G_COUNTS_DENIED | .POOL_G_COUNTS_URGENT_ENTRIES
  | .POOL_G_RESERVE_SLOTS | .POOL_G_USED_SLOTS | .X_POOL_ACCT | .X_POOL_FRAME | .X_POOL_DRAWN | .X_POOL_USED
  | .X_POOL_F1 | .X_POOL_N | .X_POOL_FAIL | .X_POOL_LAST_F1 | .X_POOL_LAST_N | .X_POOL_LAST_FAIL | .X_POOL_CLEAN
  | .X_POOL_FULL | .X_POOL_SERVED | .X_POOL_NEXT_CHARGE | .X_POOL_LET => .poolG
  | .HOST_L_CTRL_C2M | .HOST_L_CTRL_TRAIN | .HOST_L_CTRL_PRECODE_TX | .HOST_L_CTRL_PRECODE_RX | .HOST_L_CTRL_POL_TX
  | .HOST_L_CTRL_POL_RX | .HOST_L_STATUS_STATE | .HOST_L_STATUS_SIGNAL | .HOST_L_STATUS_CDR_LOCK
  | .HOST_L_STATUS_ROLE | .HOST_L_STATUS_PRECODE_TX_LIVE | .HOST_L_STATUS_PRECODE_RX_LIVE | .HOST_L_STATUS_SNR
  | .HOST_L_EVENTS_LOS | .HOST_L_EVENTS_TRAIN_OK | .HOST_L_EVENTS_TRAIN_FAIL | .HOST_L_EVENTS_READY_LOST
  | .HOST_L_EVENTS_TRAIN_COUNT | .HOST_L_TXEQ_LIMIT_CM3_MAX | .HOST_L_TXEQ_LIMIT_CM2_MAX | .HOST_L_TXEQ_LIMIT_CM1_MAX
  | .HOST_L_TXEQ_LIMIT_CP1_MAX | .HOST_L_TRAIN_TIMEOUT | .HOST_L_TXEQ_CM3 | .HOST_L_TXEQ_CM2 | .HOST_L_TXEQ_CM1
  | .HOST_L_TXEQ_CP1 | .HOST_L_TXEQ_SWING | .HOST_L_TXEQ_LIVE_CM3 | .HOST_L_TXEQ_LIVE_CM2 | .HOST_L_TXEQ_LIVE_CM1
  | .HOST_L_TXEQ_LIVE_CP1 | .HOST_L_TXEQ_LIVE_SWING | .X_HOST_PORT | .X_HOST_TRAIN_CLK | .X_HOST_PRE | .X_HOST_OK
  | .X_HOST_RETRAIN | .X_HOST_RETRAIN_CLK | .X_COUT_CLK | .X_COUT_END | .X_HOST_LANES | .X_HOST_RETRAIN_LAST
  | .X_HOST_BEST => .hostL
  | .HOST_P_CTRL_NEAR_LOOP | .HOST_P_CTRL_UNC_MARK | .HOST_P_CTRL_NODATA | .HOST_P_STATUS_AM_LOCK
  | .HOST_P_STATUS_TX_SRC | .HOST_P_STATUS_SKEW | .HOST_P_STATUS_LANES_LOCKED | .HOST_P_EVENTS_LOCK_GAINED
  | .HOST_P_EVENTS_LOCK_LOST | .HOST_P_EVENTS_DESKEW_ERR | .HOST_P_EVENTS_UNC | .HOST_P_EVENTS_LOOP_SLIP
  | .HOST_P_CW_COUNT | .HOST_P_CW_CORR_COUNT | .HOST_P_CW_UNC_COUNT | .HOST_P_SYM_CORR_COUNT | .HOST_P_HIST_COUNT
  | .X_HOST_AM_CLK | .X_HOST_TSRC | .X_HOST_TFROM | .X_HOST_TCLK | .X_HOST_AFREQ => .hostP
  | .HOST_T_PENDING_LANES | .HOST_T_PENDING_PORTS_PORTS | .X_HOST_UNC_TICK => .hostT
  | .COUR_L_CTRL_TX_EN | .COUR_L_CTRL_RX_EN | .COUR_L_CTRL_KNOCK_EN | .COUR_L_CTRL_TX_HOLD | .COUR_L_STATUS_RX_STATE
  | .COUR_L_STATUS_TX_STATE | .COUR_L_STATUS_CANCEL | .COUR_L_STATUS_DETECTOR_ARMED | .COUR_L_STATUS_QUARANTINE_ALL
  | .COUR_L_EVENTS_RX_MSG | .COUR_L_EVENTS_TX_DONE | .COUR_L_EVENTS_DEAD_LETTER | .COUR_L_EVENTS_KNOCK_SEEN
  | .COUR_L_EVENTS_KNOCK_WAKE | .COUR_L_EVENTS_MAP_REJECT | .COUR_L_EVENTS_DLQ_OVERFLOW
  | .COUR_L_EVENTS_KNOCK_DROPPED | .COUR_L_QUALITY_AGG_SNR | .COUR_L_QUALITY_LQ | .COUR_L_QUALITY_MEASURED
  | .COUR_L_PWR_LAST_PRE | .COUR_L_PWR_LAST_COLL | .COUR_L_RX_DETECT_COUNT | .COUR_L_RX_RESTART_COUNT
  | .COUR_L_RX_HDR_ERR_COUNT | .COUR_L_RX_FORMAT_ERR_COUNT | .COUR_L_RX_CRC_ERR_COUNT | .COUR_L_RX_OK_COUNT
  | .COUR_L_RX_DUP_COUNT | .COUR_L_RX_COLLISION_COUNT | .COUR_L_RX_ABANDONED_COUNT | .COUR_L_RX_LOOP_COUNT
  | .COUR_L_TX_SENT_COUNT | .COUR_L_TX_REQUEUED_COUNT | .COUR_L_SNR_SNR | .COUR_L_REC_CODES | .X_COUR_GAP_END
  | .X_COUR_BURSTS | .X_COUR_KNOCK_CLK | .X_COUR_KNOCK_STOP | .X_COUR_READY | .X_COUR_READY_CLK | .X_COUR_ORD
  | .X_COUR_SLOT_ORD | .X_COUR_RX_PWR | .X_COUR_RX_TIME | .X_COUR_RX_HEADER | .X_COUR_RX_MAP | .X_COUR_MSE => .courL
  | .COUR_TXMAP_A_CODES | .COUR_TXMAP_B_CODES | .COUR_RXMAP_A_CODES | .COUR_RXMAP_B_CODES => .courMap
  | .COUR_TX_RESULT_STATUS | .COUR_TX_RESULT_SLOT | .COUR_TX_RESULT_GEN | .COUR_TX_RESULT_QUAR_LEFT
  | .COUR_TX_SLOTS_BUSY | .COUR_TX_SLOTS_SENDING | .COUR_TX_SLOTS_KNOCK_PENDING | .COUR_TX_DONE_SENT
  | .COUR_TX_DONE_DEAD | .COUR_RX_STATUS_FULL | .COUR_RX_STATUS_OLDEST | .COUR_RX_DESC0_ID | .COUR_RX_DESC0_GEN
  | .COUR_RX_DESC0_LEN | .COUR_RX_DESC0_MODE | .COUR_RX_DESC0_LOOP | .COUR_RX_DESC1_SNR | .COUR_RX_DESC1_PWR
  | .COUR_RX_DESC2_TIME => .courH
  | .CAP_MASK_W0_EN | .CAP_MASK_W0_KIND | .CAP_MASK_W0_LEVEL_EYE | .CAP_MASK_W0_LO | .CAP_MASK_W0_HI
  | .CAP_MASK_W1_PH_LO | .CAP_MASK_W1_PH_HI => .capM
  | .CAP_T_CTRL_POINT | .CAP_T_CTRL_MODE | .CAP_T_CTRL_LANE | .CAP_T_CTRL_AUTO | .CAP_T_CTRL_GATE_EN
  | .CAP_T_CTRL_SCOPE | .CAP_T_CTRL_MASK_SEL | .CAP_T_CTRL_MASK_EN | .CAP_T_CTRL_MASK_STOP | .CAP_T_TRIG_SEL_SRC
  | .CAP_T_STATUS_STATE | .CAP_T_STATUS_REFUSE | .CAP_T_STATUS_END_REASON | .CAP_T_STATUS_CLAMPED
  | .CAP_T_STATUS_ARMS | .CAP_T_SEG_SEGMENTS | .CAP_T_SEG_SEG_DONE | .CAP_T_HOLDOFF_HOLDOFF | .CAP_T_HOLDOFF_GATE_ON
  | .CAP_T_HOLDOFF_GATE_PER | .CAP_T_AUTO_TIMEOUT | .CAP_T_DRAIN_QUEUE | .CAP_T_DRAIN_COUT | .CAP_T_EVENTS_TRIGGERED
  | .CAP_T_EVENTS_DONE | .CAP_T_EVENTS_GAP | .CAP_T_EVENTS_MASK_LIMIT | .CAP_T_EVENTS_CLAMPED | .CAP_T_EVENTS_REFUSED
  | .CAP_T_COUNTS_TRIG_MISSED | .CAP_T_COUNTS_RECORDS_LOST | .CAP_T_TRIG_INFO_FRAC | .CAP_T_TRIG_INFO_SOURCE
  | .CAP_T_TRIG_INFO_FLAGS | .CAP_T_PERIOD_P | .CAP_T_SWEEP0_PH_START | .CAP_T_SWEEP0_PH_STOP
  | .CAP_T_SWEEP0_TH_START | .CAP_T_SWEEP0_TH_STOP | .CAP_T_SWEEP1_PH_STEP | .CAP_T_SWEEP1_TH_STEP
  | .CAP_T_SWEEP1_EYES | .CAP_T_SWEEP1_DWELL | .CAP_T_HIT_LIMIT_HITS | .CAP_T_BUF_BASE_BLOCKS
  | .CAP_T_BUF_SIZE_BLOCKS | .CAP_T_PRE_BLOCKS | .CAP_T_POST_BLOCKS | .CAP_T_VIOL_LIMIT_COUNT
  | .CAP_T_VIOL_COUNT_COUNT | .CAP_T_SAMPLES_LOST_VALUE | .CAP_T_BLOCKS_VALUE | .CAP_T_TRIG_SAMPLE_VALUE
  | .CAP_T_TRIG_TIME_VALUE | .CAP_T_WRITE_PTR_BLOCK | .CAP_T_READ_PTR_BLOCK | .X_CAP_FIRST | .X_CAP_SEQ | .X_CAP_SEG
  | .X_CAP_WRITTEN | .X_CAP_TRIG | .X_CAP_TRIG_SEQ | .X_CAP_TRIG_OFF | .X_CAP_DIR_SAMPLE | .X_CAP_DIR_TIME
  | .X_CAP_DIR_FRAC | .X_CAP_DIR_SRC | .X_CAP_DIR_FLAGS | .X_CAP_LAST_K | .X_CAP_LAST_CLK | .X_CAP_TSEQ
  | .X_CAP_AUTO_CLK | .X_CAP_GAP | .X_CAP_GAP_TICK | .X_CAP_STEP | .X_CAP_MASKED | .X_CAP_QUEUED | .X_CAP_WAIT_CLK
  | .X_CAP_FRAME_SEQ | .X_CAP_LANE | .X_CAP_EYE | .X_CAP_PH | .X_CAP_TH | .X_CAP_END_WAIT => .capT
  | .BIAS_C_CFG_ENABLE | .BIAS_C_CFG_FUNCTION | .BIAS_C_CFG_RANGE | .BIAS_C_CFG_SHAPE | .BIAS_C_CFG_TRIGGER
  | .BIAS_C_CFG_ZERO_ON_LS | .BIAS_C_CFG_STEP | .BIAS_C_LIMIT_LO | .BIAS_C_LIMIT_HI | .BIAS_C_TARGET_TARGET
  | .BIAS_C_LIVE_LIVE | .BIAS_C_LIVE_OUTPUT | .BIAS_C_SINE_EN | .BIAS_C_SINE_RATE | .BIAS_C_SINE_AMP
  | .BIAS_C_SINE_INC_INC | .BIAS_C_STATUS_STATE | .BIAS_C_STATUS_SETTLED | .BIAS_C_STATUS_SINE_ON
  | .BIAS_C_STATUS_COMPLIANCE | .BIAS_C_STATUS_ZERO_CAUSE | .BIAS_C_EVENTS_ZEROED | .BIAS_C_EVENTS_LIMIT_CLAMP
  | .BIAS_C_EVENTS_COMPLIANCE | .BIAS_C_EVENTS_SINE_REJECT | .BIAS_C_EVENTS_DROPPED | .BIAS_C_EVENTS_RELEASE_REFUSED
  | .BIAS_C_EVENTS_DROP_COUNT | .X_BIAS_TCLK | .X_BIAS_TOLD | .X_BIAS_HOLD | .X_BIAS_HELD | .X_BIAS_HOLD_CLK
  | .X_BIAS_SINE | .X_BIAS_ACC | .X_BIAS_ACC_CLK | .X_BIAS_STOP_CLK | .X_BIAS_NEW | .X_BIAS_FZ_CLK | .X_BIAS_SEEN
  | .X_BIAS_LEDG | .X_BIAS_CORR => .biasC
  | .BIAS_T_TIMER_P | .BIAS_T_TIMER_VBIAS_OK | .BIAS_T_PENDING0_CHANNELS | .BIAS_T_PENDING1_CHANNELS
  | .BIAS_T_ZERO0_CHANNELS | .BIAS_T_ZERO1_CHANNELS | .X_BIAS_DUE | .X_BIAS_REALIGN | .X_CAL_BIAS_CH => .biasT
  | .HK_CTRL_TICK_EN | .HK_CTRL_PIN_EN | .HK_CTRL_PIN_EDGE | .HK_CTRL_LOOP | .HK_CTRL_DONE_IRQ | .HK_CTRL_SEQ_LEN
  | .HK_STATUS_STATE | .HK_STATUS_BUSY | .HK_STATUS_LAST_SRC | .HK_STATUS_ENTRY | .HK_STATUS_SEQ_COUNT
  | .HK_EVENTS_SEQ_DONE | .HK_EVENTS_START_MISSED | .HK_EVENTS_SEQ_ABORT | .HK_EVENTS_LIMIT | .HK_SEQ_TIME_TIME
  | .HK_COUNTS_DISCARDS | .HK_COUNTS_STARTS_MISSED | .HK_LIMIT_EV0_CHANNELS | .HK_LIMIT_EV1_CHANNELS
  | .HK_SEQ_CHANNEL | .HK_SEQ_REPEAT | .X_HK_RUN | .X_HK_WAIT | .X_HK_WAKE | .X_HK_LOOP | .X_HK_LEN | .X_HK_ENT_CH
  | .X_HK_ENT_N | .X_HK_LEFT | .X_HK_SEL | .X_HK_FORCE | .X_HK_DISC | .X_HK_CLK | .X_HK_START | .X_HK_SYNC
  | .X_HK_CAL => .hk
  | .HK_CH_CFG_LEN | .HK_CH_CFG_GAIN | .HK_CH_CFG_SUB | .HK_CH_CFG_QTY | .HK_CH_RES_VALUE | .HK_CH_RES_PRIMING
  | .HK_CH_RES_TRANSITION | .HK_CH_RES_STALE | .HK_CH_RES_COUNT | .HK_CH_RAW_CODE | .HK_CH_RAW_DISCARD
  | .HK_CH_RAW_LEN_PENDING | .HK_CH_RAW_LEN_LIVE | .HK_CH_RAW_FADE_LEFT | .HK_CH_LIMIT_LO | .HK_CH_LIMIT_EN
  | .HK_CH_LIMIT_HI | .X_HK_OLD_LEN | .X_HK_NEXT_LEN | .X_HK_OUT => .hkC
  | .CAL_U_STATUS_STATE | .CAL_U_STATUS_REASONS | .CAL_U_STATUS_DIRTY | .CAL_U_STATUS_LIMIT | .CAL_U_STATUS_DROPPED
  | .CAL_U_STATUS_SUBSTITUTE | .CAL_U_COUNTS_RUNS | .CAL_U_COUNTS_ABORTS | .CAL_U_COUNTS_FAILS | .CAL_U_TIME_TIME
  | .CAL_U_TEMP_LAST | .CAL_U_TEMP_SITE | .X_CAL_RUN_CLK | .X_CAL_WAIT | .X_CAL_LASTAPP | .X_CAL_PER | .X_CAL_POSTED
  | .X_CAL_WHY | .X_CAL_APPLIED => .calU
  | .LEDG_L_CFG_ENABLES | .LEDG_L_CFG_BIAS_CH | .LEDG_L_CFG_HEATER_CH | .LEDG_L_STATUS_VALID_RECS
  | .LEDG_L_STATUS_FIT_VALID | .LEDG_L_STATUS_FAR_FRESH | .LEDG_L_STATUS_PAUSED | .LEDG_L_STATUS_REFERENCED
  | .LEDG_L_FAR_SNR0 | .LEDG_L_FAR_SNR2 | .LEDG_L_FAR_WORST | .LEDG_L_DISP_LEVEL | .LEDG_L_DISP_TX
  | .LEDG_L_DISP_LEDGER_MIN | .LEDG_L_CTRL_PAUSE | .LEDG_L_ALARM_WORD | .LEDG_L_ALARM_EV_RISEN | .LEDG_L_FC_LOW
  | .LEDG_L_FC_HIGH | .LEDG_L_REC_BYTES | .X_LG_LEVEL_ENV | .X_LG_TX_ENV | .X_LG_EFFORT_MAX | .X_LG_BIAS_ENV
  | .X_LG_HEATER_ENV | .X_LG_BIAS_STEP | .X_LG_HEATER_STEP | .X_LG_FLOOR_SNR | .X_LG_FLOOR_BER | .X_LG_HEAD_MIN
  | .X_LG_RX_MIN | .X_LG_RESP | .X_LG_TICKS | .X_LG_LOCK | .X_LG_SNR | .X_LG_BITS | .X_LG_CORR | .X_LG_HEAD
  | .X_LG_PD_SUM | .X_LG_PD_N | .X_LG_PARTIAL | .X_LG_EXH | .X_LG_LV_DISP | .X_LG_TX_DISP | .X_LG_TX_DIR
  | .X_LG_TX_POS | .X_LG_TX_ITEM | .X_LG_TX_WAS | .X_LG_B_DISP | .X_LG_B_LEFT | .X_LG_B_DIR | .X_LG_B_MOVE
  | .X_LG_B_CLK | .X_LG_RXP | .X_LG_EFF_DUE | .X_LG_EFF_NEXT | .X_LG_EFF_LOW | .X_LG_CAL_NEW | .X_LG_CAL_HELD
  | .X_LG_CAL_SNR | .X_LG_CAL_AGE | .X_LG_CAL_DONE | .X_LG_REF_DUE | .X_LG_UNWRITTEN | .X_LG_MOVED => .ledgL
  | .MEM_C_STATUS_TRAINED | .MEM_C_STATUS_PAUSED | .MEM_C_STATUS_TEMP | .MEM_C_STATUS_SELF_REFRESH
  | .MEM_C_STATUS_WRITE_STOP | .MEM_C_CRC_RETRY_COUNT | .MEM_C_UNCORR_COUNT | .MEM_C_RETRAINS_COUNT
  | .MEM_C_ODECC_COUNT | .MEM_C_URGENT_CLASS0 | .MEM_C_URGENT_CLASS2 | .MEM_C_URGENT_CLASS3 | .MEM_C_URGENT_CLASS4
  | .MEM_C_BYTES_COUNT | .X_MEM_RT_REQ | .X_MEM_RT_REQ_CLK | .X_MEM_HOT | .X_MEM_RT_REQ_LAST | .X_MEM_TEMP_CLK => .memC
  | .PH_T_CLAIM_SOURCE | .PH_T_CLAIM_PRIORITY | .PH_T_CLAIM_OCCUR | .PH_T_CLAIM_LATE | .PH_T_CFG_MOD_COUNT
  | .PH_T_CFG_MOD_TIME | .PH_T_IDLE_TARGET_IDLE | .PH_T_STATUS_DEFINED | .PH_T_STATUS_IDLE | .PH_T_STATUS_HELD
  | .PH_T_STATUS_ELIGIBLE | .PH_T_STATUS_DEPTH | .PH_T_STATUS_TOP | .PH_T_EVENTS_STACK_ORDER
  | .PH_T_EVENTS_BAD_COMPLETE | .PH_T_EVENTS_LATE_DELIVERY | .PH_T_COUNTS_MESSAGES | .PH_T_COUNTS_SPURIOUS
  | .X_PH_HELD_COUNT | .X_PH_HOLD_END | .X_PH_ELIG | .X_PH_SEL | .X_PH_SEL_CLK | .X_PH_SEL_LATE | .X_PH_CORE_HALT
  | .X_PH_POST | .X_PH_NEW_COUNT | .X_PH_NEW_TIME => .phT
  | .MSIX_ADDR_LO_ADDR_LO | .MSIX_ADDR_HI_ADDR_HI | .MSIX_DATA_DATA | .MSIX_CTRL_MASK => .msix
  | .DMA_Q_CTRL_ENABLE | .DMA_Q_CTRL_SIZE_EXP | .DMA_Q_STATUS_STATE | .DMA_Q_STATUS_KIND | .DMA_Q_STATUS_EPOCH
  | .DMA_Q_STATUS_ERR_STATUS | .DMA_Q_STATUS_PHASE | .DMA_Q_STATUS_PAUSED | .DMA_Q_EVENTS_DONE | .DMA_Q_EVENTS_ERROR
  | .DMA_Q_EVENTS_STARVED | .DMA_Q_EVENTS_LATE | .DMA_Q_EVENTS_CFG_IGNORED | .DMA_Q_EVENTS_POISONED
  | .DMA_Q_RING_ADDR | .DMA_Q_CPL_ADDR | .DMA_Q_TAIL_INDEX | .DMA_Q_HEAD_INDEX | .DMA_Q_BYTES_COUNT
  | .DMA_Q_COUNTS_LATE | .DMA_Q_COUNTS_POISONED | .DMA_Q_DESC_DONE_COUNT | .X_DMA_OUT | .X_DMA_OLD | .X_DMA_WAKE
  | .X_DMA_STARVED | .X_DMA_WAIT_CLK => .dmaQ
  | .PWR_D_CFG_PERMIT | .PWR_D_CFG_SD_WAKE | .PWR_D_CFG_CLASS | .PWR_D_CFG_PARENT | .PWR_D_HORIZON_HORIZON
  | .PWR_D_STATUS_STATE | .PWR_D_STATUS_GOAL | .PWR_D_STATUS_POINT | .PWR_D_STATUS_PARENT_FAILED
  | .PWR_D_STATUS_HOLDOFF | .PWR_D_STATUS_ATTEMPT | .PWR_D_EVENTS_ENTERED | .PWR_D_EVENTS_WOKE
  | .PWR_D_EVENTS_REFUSED | .PWR_D_EVENTS_ABORTED | .PWR_D_EVENTS_WAKE_FAILED | .PWR_D_EVENTS_RETRIED
  | .PWR_D_COUNTS_ENTRIES | .PWR_D_COUNTS_REFUSALS | .PWR_D_COUNTS_ABORTS | .PWR_D_LAST_BLOCK | .PWR_D_LAST_ANSWER
  | .PWR_D_LAST_DELAY | .PWR_D_LAST_WAKE_SRC | .PWR_D_LAST_FAIL | .X_PWR_FROM | .X_PWR_WANT | .X_PWR_BEGAN
  | .X_PWR_HOR_END | .X_PWR_HELD_OFF | .X_PWR_RETRY_CLK | .X_PWR_HOR_SET | .X_PWR_LIVE | .X_PWR_ASKED => .pwrD
  | .THM_S_READING_VALUE | .THM_S_READING_REPLACE | .THM_S_STATUS_STATE | .THM_S_STATUS_FAIL_CAUSE
  | .THM_S_STATUS_STEP | .THM_S_STATUS_RATE_HOLD | .THM_S_STATUS_ENTRY_CNT | .THM_S_STATUS_RELEASE_CNT
  | .THM_S_STATUS_ALARM | .THM_S_TIME_TIME | .THM_S_EVENTS_STEP_UP | .THM_S_EVENTS_STEP_DOWN | .THM_S_EVENTS_RATE
  | .THM_S_EVENTS_FAILED | .THM_S_EVENTS_ALARM | .X_THM_DEM | .X_THM_WAIT | .X_THM_CLK | .X_THM_READ | .X_THM_REPCLK
  | .X_THM_REP | .X_THM_CNT | .X_THM_ACNT | .X_THM_AREL | .X_THM_STEP | .X_THM_RSTEP | .X_THM_RCNT | .X_THM_REINST
  | .X_NVM_PEND | .X_NVM_SENSOR => .thmS
  | .SYS_LS_CTRL_AUTO_HP | .SYS_LS_CTRL_TIMEOUT | .SYS_LS_CTRL_TW_SPEED | .SYS_LS_STATUS_STATE
  | .SYS_LS_STATUS_PRESENT | .SYS_LS_STATUS_INT | .SYS_LS_STATUS_RESET_OUT | .SYS_LS_STATUS_LPMODE_OUT
  | .SYS_LS_STATUS_MODSTATE | .SYS_LS_STATUS_INSERTIONS | .SYS_LS_EVENTS_STATE_CHANGE | .SYS_LS_EVENTS_INSERTED
  | .SYS_LS_EVENTS_REMOVED | .SYS_LS_EVENTS_READY | .SYS_LS_EVENTS_FAULT | .SYS_LS_EVENTS_INT | .SYS_TW_STATUS_BUSY
  | .SYS_TW_STATUS_RESULT | .SYS_TW_STATUS_TRANSFERS | .SYS_TW_BUF_BYTES | .X_LS_ABSENT | .X_LS_CLK | .X_LS_POLL
  | .X_LS_HITS | .X_TW_ADDR | .X_TW_LEN | .X_TW_WRITE | .X_TW_PAGE | .X_TW_BANK | .X_TW_NPAGE | .X_TW_NBANK
  | .X_TW_CLK => .sysE
  | .CAL_TRIM_WORD => .trim

/-- How many instances of a field one instance of its block holds. -/
def F.arr : F → Nat
  | .LRX_GRADE_COUNT_COUNT | .LRX_CHK_GRADE_ERR_COUNT | .COUR_RX_DESC0_ID | .COUR_RX_DESC0_GEN | .COUR_RX_DESC0_LEN
  | .COUR_RX_DESC0_MODE | .COUR_RX_DESC0_LOOP | .COUR_RX_DESC1_SNR | .COUR_RX_DESC1_PWR | .COUR_RX_DESC2_TIME
  | .CAP_TRIGIN_CFG_EDGE | .CAP_TRIGIN_CFG_DELAY | .PWR_T_LEVEL_REQ | .PWR_T_LEVEL_LIVE | .PWR_T_LEVEL_THERMAL
  | .PWR_T_LEVEL_TARGET | .PWR_T_LEVEL_CHANGING | .PWR_T_LEVEL_VOLTAGE | .X_LRX_SAVED_LEVEL | .X_COUR_SLOT_ORD
  | .X_REGION_BASE | .X_REGION_SIZE | .X_REGION_IN | .X_TRIGIN_LAST | .X_THM_CNT | .X_THM_CAP | .X_THM_LEVEL
  | .X_LG_LV_DISP | .X_SLOT_LOST | .X_POOL_LET => 4
  | .LRX_FFE_TAP_SEED | .LRX_FFE_TAP_BOUND | .LRX_FFE_TAP_LIVE | .HK_SEQ_CHANNEL | .HK_SEQ_REPEAT | .X_LRX_SAVED_TAP
  | .X_HK_ENT_CH | .X_HK_ENT_N => 48
  | .LRX_NLC_ENTRY_SEED | .LRX_NLC_ENTRY_LIVE | .LTX_PD_ENTRY_VALUE | .LTX_PD_ENTRY_LIVE | .CAL_TRIM_WORD
  | .X_LRX_SAVED_NLC => 64
  | .LTX_FIR_COEF | .LTX_FIR_LIVE => 9
  | .LTX_PAT_MEM_SYMBOLS => 256
  | .SPR_G_PASS_HIST_COUNT => 6
  | .POOL_SCORE_THR_LOW | .POOL_SCORE_THR_HIGH | .LEDG_L_FC_LOW | .LEDG_L_FC_HIGH | .X_THM_RESTART
  | .X_THM_RESTART_SET | .X_LG_SNR => 3
  | .HOST_P_HIST_COUNT | .CAP_MASK_W0_EN | .CAP_MASK_W0_KIND | .CAP_MASK_W0_LEVEL_EYE | .CAP_MASK_W0_LO
  | .CAP_MASK_W0_HI | .CAP_MASK_W1_PH_LO | .CAP_MASK_W1_PH_HI | .LEDG_L_REC_BYTES => 16
  | .COUR_L_SNR_SNR => 24
  | .COUR_L_REC_CODES | .COUR_TXMAP_A_CODES | .COUR_TXMAP_B_CODES | .COUR_RXMAP_A_CODES | .COUR_RXMAP_B_CODES
  | .X_COUR_RX_MAP => 12
  | .CAP_XTRIG_OUT_SRC | .CAP_XTRIG_OUT_REFUSED | .CAP_XTRIG_OUT_DRIVING | .CAP_XTRIG_IN_DELAY_DELAY | .X_XTRIG_END
  | .X_XTRIG_DRIVER | .X_LG_HEAD | .X_LG_B_DISP | .X_LG_B_LEFT | .X_LG_B_DIR | .X_LG_B_MOVE | .X_LG_B_CLK | .X_DIR_OK
  | .X_DIR_SEQ | .X_DIR_CUR | .X_DIR_VALID | .X_XTRIG_WAIT | .X_XTRIG_WAIT_CLK | .X_DMA_TURN => 2
  | .CAL_DUE_UNITS | .CAL_CLASS_ENABLES | .CAL_CLASS_THRESH | .CAL_CLASS_PERIOD | .PWR_ASLEEP_DOMAINS
  | .PWR_FAILED_DOMAINS | .THM_Z_STEP_STEP | .THM_Z_STEP_CAP | .THM_Z_STEP_LEVEL | .THM_Z_STEP_SITE
  | .THM_Z_STEP_STEP_COUNT | .X_NVM_BANDGAP | .X_MEM_SHARE => 5
  | .PH_PENDING_PENDING | .PH_MASK_MASK | .PH_SRC_PRIORITY | .PH_SRC_LEVEL | .PH_SRC_TARGET | .PH_SRC_OCCUR
  | .PH_SRC_IN_SERVICE | .PH_SRC_LINE => 1024
  | .SYS_TW_BUF_BYTES | .X_MEM_TRY | .X_MEM_TRY_CLK | .X_MEM_RT | .X_MEM_RT_CLK | .X_MEM_TRACK_CLK | .X_MEM_RETRIES => 32
  | .X_CLERK_SILENT | .X_COUT_LANE | .X_COUT_DEST | .X_COUT_SRC | .X_COUT_TYPE | .X_LTX_TAIL => 8
  | .X_COUR_MSE => 96
  | .X_THM_TH => 10
  | .X_LG_TX_DISP | .X_LG_TX_DIR => 72
  | _ => 1

/-- The access type of a field. -/
def F.acc : F → Acc
  | .TIME_POST_ERR_FULL | .TIME_POST_ERR_SCOPE | .TIME_POST_ERR_CARRIED | .TIME_OVR_EVENTS_EVENT
  | .TIME_CLERK_STATUS_RESTARTED | .PLAN_STATUS_REFUSED | .LRX_EVENTS_LOS | .LRX_EVENTS_LOCK_LOST
  | .LRX_EVENTS_LOCK_GAINED | .LRX_EVENTS_ACQ_FAIL | .LRX_EVENTS_BOUND_HIT | .LRX_EVENTS_CLIP | .LRX_EVENTS_DROPPED
  | .LRX_EVENTS_LOOP_REFUSED | .LRX_EVENTS_SHADOW_REFUSED | .LRX_EVENTS_CHK_LOCK | .LRX_EVENTS_CHK_LOSS
  | .LRX_EVENTS_GRADE_REJECT | .LTX_EVENTS_SQUELCHED | .LTX_EVENTS_UNSQUELCHED | .LTX_EVENTS_CLIP
  | .LTX_EVENTS_DROPPED | .LTX_EVENTS_SOURCE_REFUSED | .LTX_EVENTS_LEVEL_REJECT | .LTX_EVENTS_LOOP_SLIP
  | .LTX_EVENTS_LOOP_CLK_SWITCH | .SPR_G_EVENTS_LOCK_GAINED | .SPR_G_EVENTS_LOCK_LOST | .SPR_G_EVENTS_UNC
  | .SPR_G_EVENTS_ORDER_ERR | .SPR_G_EVENTS_SKEW_ERR | .SPR_G_EVENTS_LANE_REJOIN | .SPR_G_EVENTS_SKIPPED
  | .SPR_G_EVENTS_ERASE_CAPPED | .SPR_G_EVENTS_STREAM_LOST | .POOL_EVENTS_URGENT_ENTER | .POOL_EVENTS_CAP_CHANGE
  | .POOL_EVENTS_OVERBOOKED | .POOL_EVENTS_RESERVE_EMPTY | .POOL_EVENTS_FLOOR_CUT | .POOL_EVENTS_MINMAX_REJECT
  | .POOL_EVENTS_GRANT_CARRIED | .HOST_L_EVENTS_LOS | .HOST_L_EVENTS_TRAIN_OK | .HOST_L_EVENTS_TRAIN_FAIL
  | .HOST_L_EVENTS_READY_LOST | .HOST_P_EVENTS_LOCK_GAINED | .HOST_P_EVENTS_LOCK_LOST | .HOST_P_EVENTS_DESKEW_ERR
  | .HOST_P_EVENTS_UNC | .HOST_P_EVENTS_LOOP_SLIP | .COUR_L_EVENTS_RX_MSG | .COUR_L_EVENTS_TX_DONE
  | .COUR_L_EVENTS_DEAD_LETTER | .COUR_L_EVENTS_KNOCK_SEEN | .COUR_L_EVENTS_KNOCK_WAKE | .COUR_L_EVENTS_MAP_REJECT
  | .COUR_L_EVENTS_DLQ_OVERFLOW | .COUR_L_EVENTS_KNOCK_DROPPED | .COUR_TX_DONE_SENT | .COUR_TX_DONE_DEAD
  | .CAP_TRIG_EVENTS_CLOSE | .CAP_T_EVENTS_TRIGGERED | .CAP_T_EVENTS_DONE | .CAP_T_EVENTS_GAP
  | .CAP_T_EVENTS_MASK_LIMIT | .CAP_T_EVENTS_CLAMPED | .CAP_T_EVENTS_REFUSED | .BIAS_C_EVENTS_ZEROED
  | .BIAS_C_EVENTS_LIMIT_CLAMP | .BIAS_C_EVENTS_COMPLIANCE | .BIAS_C_EVENTS_SINE_REJECT | .BIAS_C_EVENTS_DROPPED
  | .BIAS_C_EVENTS_RELEASE_REFUSED | .HK_EVENTS_SEQ_DONE | .HK_EVENTS_START_MISSED | .HK_EVENTS_SEQ_ABORT
  | .HK_EVENTS_LIMIT | .HK_LIMIT_EV0_CHANNELS | .HK_LIMIT_EV1_CHANNELS | .CAL_STATUS_REFUSED | .CAL_U_STATUS_LIMIT
  | .CAL_U_STATUS_DROPPED | .LEDG_L_ALARM_EV_RISEN | .MEM_EVENTS_UNCORR | .MEM_EVENTS_RETRAINED | .MEM_EVENTS_FAILED
  | .MEM_EVENTS_HOT | .MEM_EVENTS_HOT_STOP | .MEM_EVENTS_REGION_ABSENT | .PH_T_EVENTS_STACK_ORDER
  | .PH_T_EVENTS_BAD_COMPLETE | .PH_T_EVENTS_LATE_DELIVERY | .DMA_LINK_EVENTS_LINK_DOWN | .DMA_LINK_EVENTS_LINK_UP
  | .DMA_LINK_EVENTS_SPEED_CHANGE | .DMA_LINK_EVENTS_WIDTH_CHANGE | .DMA_LINK_EVENTS_HOT_RESET | .DMA_LINK_EVENTS_FLR
  | .DMA_LINK_EVENTS_D3HOT | .DMA_Q_EVENTS_DONE | .DMA_Q_EVENTS_ERROR | .DMA_Q_EVENTS_STARVED | .DMA_Q_EVENTS_LATE
  | .DMA_Q_EVENTS_CFG_IGNORED | .DMA_Q_EVENTS_POISONED | .PWR_D_EVENTS_ENTERED | .PWR_D_EVENTS_WOKE
  | .PWR_D_EVENTS_REFUSED | .PWR_D_EVENTS_ABORTED | .PWR_D_EVENTS_WAKE_FAILED | .PWR_D_EVENTS_RETRIED
  | .THM_SD_STATUS_REFUSED | .THM_S_EVENTS_STEP_UP | .THM_S_EVENTS_STEP_DOWN | .THM_S_EVENTS_RATE
  | .THM_S_EVENTS_FAILED | .THM_S_EVENTS_ALARM | .SYS_LS_EVENTS_STATE_CHANGE | .SYS_LS_EVENTS_INSERTED
  | .SYS_LS_EVENTS_REMOVED | .SYS_LS_EVENTS_READY | .SYS_LS_EVENTS_FAULT | .SYS_LS_EVENTS_INT => .w1c
  | .TIME_OVR_COUNT_COUNT | .TIME_SET_VALUE | .PLAN_RES_LOG_COUNT | .LRX_SHADOW_CTRL_REQUEST | .LRX_SHADOW_CTRL_EYE
  | .LRX_SHADOW_CTRL_PHASE | .LRX_SHADOW_CTRL_THRESH | .LRX_SHADOW_CTRL_DWELL | .LRX_CHK_CTRL_ENABLE
  | .LRX_CHK_CTRL_PATTERN | .CAP_TRIG_EVENTS_CLOSE_COUNT | .CAP_XTRIG_STATUS_MERGED | .CAP_XTRIG_OUT_SRC
  | .CAP_MASK_W0_EN | .CAP_MASK_W0_KIND | .CAP_MASK_W0_LEVEL_EYE | .CAP_MASK_W0_LO | .CAP_MASK_W0_HI
  | .CAP_MASK_W1_PH_LO | .CAP_MASK_W1_PH_HI | .CAP_T_CTRL_POINT | .CAP_T_CTRL_MODE | .CAP_T_CTRL_LANE
  | .CAP_T_CTRL_AUTO | .CAP_T_CTRL_GATE_EN | .CAP_T_CTRL_SCOPE | .CAP_T_CTRL_MASK_SEL | .CAP_T_CTRL_MASK_EN
  | .CAP_T_CTRL_MASK_STOP | .CAP_T_TRIG_SEL_SRC | .CAP_T_SEG_SEGMENTS | .CAP_T_HOLDOFF_HOLDOFF
  | .CAP_T_HOLDOFF_GATE_ON | .CAP_T_HOLDOFF_GATE_PER | .CAP_T_AUTO_TIMEOUT | .CAP_T_DRAIN_QUEUE | .CAP_T_DRAIN_COUT
  | .CAP_T_SWEEP0_PH_START | .CAP_T_SWEEP0_PH_STOP | .CAP_T_SWEEP0_TH_START | .CAP_T_SWEEP0_TH_STOP
  | .CAP_T_SWEEP1_PH_STEP | .CAP_T_SWEEP1_TH_STEP | .CAP_T_SWEEP1_EYES | .CAP_T_SWEEP1_DWELL | .CAP_T_HIT_LIMIT_HITS
  | .CAP_T_BUF_BASE_BLOCKS | .CAP_T_BUF_SIZE_BLOCKS | .CAP_T_PRE_BLOCKS | .CAP_T_POST_BLOCKS
  | .CAP_T_VIOL_LIMIT_COUNT | .LEDG_L_FAR_SNR0 | .LEDG_L_FAR_SNR2 | .LEDG_L_FAR_WORST | .MEM_HOST_CAP_WRITE
  | .PH_FAULT_LOG_COUNT | .PH_PENDING_PENDING | .PH_MASK_MASK | .PH_T_IDLE_TARGET_IDLE | .MSIX_ADDR_LO_ADDR_LO
  | .MSIX_ADDR_HI_ADDR_HI | .MSIX_DATA_DATA | .MSIX_CTRL_MASK | .DMA_Q_CTRL_ENABLE | .DMA_Q_CTRL_SIZE_EXP
  | .DMA_Q_RING_ADDR | .DMA_Q_CPL_ADDR | .DMA_Q_TAIL_INDEX | .PWR_D_HORIZON_HORIZON | .SYS_TW_BUF_BYTES => .rw
  | .TIME_RING_DELAY_DELAY | .CAP_TRIGIN_CFG_EDGE | .CAP_TRIGIN_CFG_DELAY | .CAP_XTRIG_IN_DELAY_DELAY
  | .BIAS_C_TARGET_TARGET | .BIAS_C_SINE_EN | .BIAS_C_SINE_RATE | .BIAS_C_SINE_AMP | .BIAS_C_SINE_INC_INC
  | .CAL_CTRL_HOLD | .LEDG_CTRL_PERIOD_IRQ | .LEDG_L_CTRL_PAUSE | .MEM_BAR2_BASE_BASE | .MEM_ARB_URGENT
  | .MEM_ARB_RANK0 | .MEM_ARB_RANK1 | .MEM_ARB_RANK2 | .MEM_ARB_RANK3 | .MEM_ARB_RANK4 | .DMA_ARB_URGENT
  | .SYS_LS_CTRL_AUTO_HP | .SYS_LS_CTRL_TIMEOUT | .SYS_LS_CTRL_TW_SPEED => .rwk
  | .LRX_CTRL_FREEZE | .LRX_CTRL_ANALOG_LOOP | .LRX_CTRL_NLC_EN | .LRX_TR_PHASE_OFFSET | .LRX_TR_BW
  | .LRX_FFE_CTRL_MU | .LRX_FFE_CTRL_LOAD_SEED | .LRX_FFE_CTRL_SEED_SRC | .LRX_NLC_CTRL_MU | .LRX_NLC_CTRL_LOAD_SEED
  | .LRX_NLC_CTRL_BOUND | .LRX_DET_ALPHA | .LRX_DET_BETA | .LRX_DET_LOAD_SEED | .LRX_DET_LEVEL_BOUND | .LRX_DET_MU
  | .LRX_GRADE_MODE | .LRX_GRADE_G1 | .LRX_GRADE_G2 | .LRX_GRADE_G3 | .LRX_LOCK_CFG_SNR_MIN | .LRX_LOCK_CFG_HYST
  | .LRX_LOCK_CFG_ACQ_LIMIT | .LRX_LOCK_CFG_CLIP_LIMIT | .LRX_FE_CTLE | .LRX_FE_VGA | .LRX_FE_SEARCH | .LRX_FE_SD_THR
  | .LRX_DET_SEED_LEVEL0 | .LRX_DET_SEED_LEVEL1 | .LRX_DET_SEED_LEVEL2 | .LRX_DET_SEED_LEVEL3 | .LRX_FFE_TAP_SEED
  | .LRX_FFE_TAP_BOUND | .LRX_NLC_ENTRY_SEED | .LTX_CTRL_SOURCE | .LTX_CTRL_FAR_LOOP | .LTX_CTRL_SQUELCH
  | .LTX_CTRL_PD_EN | .LTX_CTRL_AUTO_SQ | .LTX_CTRL_RAMP | .LTX_DRV_SWING | .LTX_DRV_CLIP_LIMIT | .LTX_LEVEL_LEVEL0
  | .LTX_LEVEL_LEVEL1 | .LTX_LEVEL_LEVEL2 | .LTX_LEVEL_LEVEL3 | .LTX_COUR_DEPTH | .LTX_PAT_PATTERN | .LTX_PAT_RAW
  | .LTX_PAT_INVERT | .LTX_FIR_COEF | .LTX_PD_ENTRY_VALUE | .LTX_PAT_MEM_SYMBOLS | .SPR_CTRL_UNC_MARK
  | .SPR_CTRL_DOUBT | .SPR_CTRL_ERASE_MAX | .SPR_CTRL_SLEW | .POOL_POLICY0_URGENT | .POOL_POLICY0_RESERVE
  | .POOL_POLICY0_HOLD | .POOL_POLICY0_FRAME_LIMIT | .POOL_POLICY1_FLOOR | .POOL_CTRL_DRIVER_CAP
  | .POOL_SCORE_THR_LOW | .POOL_SCORE_THR_HIGH | .POOL_G_CTRL_MIN | .POOL_G_CTRL_MAX | .POOL_G_CTRL_FORCE_EN
  | .POOL_G_CTRL_FORCE | .HOST_L_CTRL_C2M | .HOST_L_CTRL_TRAIN | .HOST_L_CTRL_PRECODE_TX | .HOST_L_CTRL_PRECODE_RX
  | .HOST_L_CTRL_POL_TX | .HOST_L_CTRL_POL_RX | .HOST_L_TXEQ_LIMIT_CM3_MAX | .HOST_L_TXEQ_LIMIT_CM2_MAX
  | .HOST_L_TXEQ_LIMIT_CM1_MAX | .HOST_L_TXEQ_LIMIT_CP1_MAX | .HOST_L_TRAIN_TIMEOUT | .HOST_L_TXEQ_CM3
  | .HOST_L_TXEQ_CM2 | .HOST_L_TXEQ_CM1 | .HOST_L_TXEQ_CP1 | .HOST_L_TXEQ_SWING | .HOST_P_CTRL_NEAR_LOOP
  | .HOST_P_CTRL_UNC_MARK | .HOST_P_CTRL_NODATA | .COUR_L_CTRL_TX_EN | .COUR_L_CTRL_RX_EN | .COUR_L_CTRL_KNOCK_EN
  | .COUR_L_CTRL_TX_HOLD | .COUR_TXMAP_A_CODES | .COUR_TXMAP_B_CODES | .COUR_RXMAP_A_CODES | .COUR_RXMAP_B_CODES
  | .COUR_CTRL_PREEMPT | .COUR_CTRL_THRESH | .COUR_CTRL_KNOCK_THR | .HK_CTRL_TICK_EN | .HK_CTRL_PIN_EN
  | .HK_CTRL_PIN_EDGE | .HK_CTRL_LOOP | .HK_CTRL_DONE_IRQ | .HK_CTRL_SEQ_LEN | .HK_SEQ_CHANNEL | .HK_SEQ_REPEAT
  | .HK_CH_CFG_LEN | .HK_CH_CFG_GAIN | .HK_CH_CFG_SUB | .HK_CH_CFG_QTY | .HK_CH_LIMIT_LO | .HK_CH_LIMIT_EN
  | .HK_CH_LIMIT_HI | .PH_T_CFG_MOD_COUNT | .PH_T_CFG_MOD_TIME | .PWR_T_LEVEL_REQ | .CAL_TRIM_WORD => .rws
  | .X_TIME_PHASE | .X_TICK_DUE | .X_K_NEXT | .X_K_FROM | .X_SET_FROM | .X_SLEW | .X_SLEW_DOWN | .X_CLERK_SILENT
  | .X_RING_PULSED | .X_RING_PULSE_CLK | .X_RING_MSG_DUE | .X_RING_STAMP | .X_RING_SMALL | .X_RING_SEEN
  | .X_RING_MSG_OPEN | .X_RING_STEPPED | .X_PH_HELD_COUNT | .X_PH_HOLD_END | .X_PH_ELIG | .X_PH_SEL | .X_PH_SEL_CLK
  | .X_PH_SEL_LATE | .X_PH_CORE_HALT | .X_PCIE_FUNC_MASK | .X_PCIE_PME_EN | .X_PCIE_PME_STATUS | .X_PCIE_MRRS
  | .X_DMA_OUT | .X_DMA_OLD | .X_DMA_WAKE | .X_PWR_FROM | .X_PWR_WANT | .X_PWR_BEGAN | .X_PWR_HOR_END
  | .X_PWR_HELD_OFF | .X_XTRIG_END | .X_LRX_TRIAL | .X_LRX_BEST_SNR | .X_LRX_BEST_CTLE | .X_LRX_BEST_VGA | .X_LRX_ACQ
  | .X_LRX_SNR_OK | .X_LRX_SNR_LOW | .X_LRX_REACQ | .X_LRX_REACQ_CLK | .X_LRX_SAVED | .X_LRX_SAVED_MODE
  | .X_LRX_SAVED_TAP | .X_LRX_SAVED_NLC | .X_LRX_SAVED_LEVEL | .X_LRX_RELEASE | .X_LRX_SEG_ABS | .X_LRX_WIN_LAST
  | .X_LRX_GRADE_VAR | .X_LRX_SH_EYE | .X_LRX_SH_PHASE | .X_LRX_SH_THRESH | .X_LRX_SH_DWELL | .X_LRX_LOADED
  | .X_LRX_WCODE | .X_LRX_WLEN | .X_LTX_START | .X_LS_ABSENT | .X_LTX_PAT_RESTART | .X_COUR_GAP_END | .X_COUR_BURSTS
  | .X_COUR_KNOCK_CLK | .X_COUR_KNOCK_STOP | .X_COUR_READY | .X_COUR_READY_CLK | .X_COUR_ORD | .X_COUR_SLOT_ORD
  | .X_COUR_RX_PWR | .X_COUR_RX_TIME | .X_COUR_RX_HEADER | .X_COUR_RX_MAP | .X_COUR_MSE | .X_SPR_START
  | .X_SPR_REJOIN | .X_SPR_WAIT | .X_SPR_GOOD | .X_SPR_BAD | .X_SPR_REF | .X_SPR_RELOCK | .X_SPR_RELOCK_CLK
  | .X_SPR_LAT | .X_SPR_LAT_CLK | .X_SPR_UNC | .X_SPR_UNC_INV | .X_POOL_ACCT | .X_POOL_FRAME | .X_POOL_DRAWN
  | .X_POOL_USED | .X_POOL_F1 | .X_POOL_N | .X_POOL_FAIL | .X_POOL_LAST_F1 | .X_POOL_LAST_N | .X_POOL_LAST_FAIL
  | .X_POOL_CLEAN | .X_POOL_FULL | .X_POOL_SERVED | .X_POOL_NEXT_CHARGE | .X_POOL_READY | .X_POOL_NEXT_C
  | .X_POOL_NEXT_LEFT | .X_POOL_NEXT_OVER | .X_POOL_RES | .X_POOL_RES_DRAWN | .X_POOL_RES_EMPTY | .X_POOL_NEXT_LEVEL
  | .X_TOPO_A | .X_TOPO_B | .X_HOST_PORT | .X_HOST_TRAIN_CLK | .X_HOST_PRE | .X_HOST_OK | .X_HOST_RETRAIN
  | .X_HOST_RETRAIN_CLK | .X_COUT_CLK | .X_COUT_END | .X_HOST_UNC_TICK | .X_SPR_F_PASS | .X_SPR_F_END
  | .X_SPR_F_FAIL1 | .X_SPR_F_UNC | .X_SPR_F_SKIP | .X_REGION_BASE | .X_REGION_SIZE | .X_REGION_IN | .X_REGION_DEF
  | .X_COUT_LANE | .X_COUT_DEST | .X_COUT_SRC | .X_COUT_TYPE | .X_XTRIG_DRIVER | .X_CAP_FIRST | .X_CAP_SEQ
  | .X_CAP_SEG | .X_CAP_WRITTEN | .X_CAP_TRIG | .X_CAP_TRIG_SEQ | .X_CAP_TRIG_OFF | .X_CAP_DIR_SAMPLE
  | .X_CAP_DIR_TIME | .X_CAP_DIR_FRAC | .X_CAP_DIR_SRC | .X_CAP_DIR_FLAGS | .X_CAP_LAST_K | .X_CAP_LAST_CLK
  | .X_CAP_TSEQ | .X_CAP_AUTO_CLK | .X_CAP_GAP | .X_CAP_GAP_TICK | .X_CAP_STEP | .X_CAP_MASKED | .X_CAP_QUEUED
  | .X_CAP_WAIT_CLK | .X_CAP_FRAME_SEQ | .X_CAP_LANE | .X_CAP_EYE | .X_CAP_PH | .X_CAP_TH | .X_TRIGIN_LAST
  | .X_CAP_END_WAIT | .X_DMA_STARVED | .X_MEM_ERR_TICK | .X_MEM_TRY | .X_MEM_TRY_CLK | .X_MEM_RT | .X_MEM_RT_CLK
  | .X_MEM_RT_REQ | .X_MEM_RT_REQ_CLK | .X_MEM_TRACK_CLK | .X_MEM_RETRIES | .X_MEM_HOT | .X_PCIE_SPEED
  | .X_PCIE_WIDTH | .X_BIAS_DUE | .X_BIAS_REALIGN | .X_BIAS_TCLK | .X_BIAS_TOLD | .X_BIAS_HOLD | .X_BIAS_HELD
  | .X_BIAS_HOLD_CLK | .X_BIAS_SINE | .X_BIAS_ACC | .X_BIAS_ACC_CLK | .X_BIAS_STOP_CLK | .X_BIAS_NEW | .X_BIAS_FZ_CLK
  | .X_BIAS_SEEN | .X_BIAS_LEDG | .X_HK_RUN | .X_HK_WAIT | .X_HK_WAKE | .X_HK_LOOP | .X_HK_LEN | .X_HK_ENT_CH
  | .X_HK_ENT_N | .X_HK_LEFT | .X_HK_SEL | .X_HK_FORCE | .X_HK_DISC | .X_HK_CLK | .X_HK_START | .X_HK_SYNC
  | .X_HK_CAL | .X_HK_OLD_LEN | .X_HK_NEXT_LEN | .X_HK_OUT | .X_THM_DEM | .X_THM_WAIT | .X_THM_CLK | .X_THM_READ
  | .X_THM_REPCLK | .X_THM_REP | .X_THM_CNT | .X_THM_ACNT | .X_THM_AREL | .X_THM_STEP | .X_THM_RSTEP | .X_THM_RCNT
  | .X_THM_REINST | .X_THM_SETCLK | .X_THM_DIRTY | .X_THM_ISSUE | .X_THM_TH | .X_THM_CAP | .X_THM_LEVEL | .X_THM_HYST
  | .X_THM_RESTART | .X_THM_SD_CLK | .X_THM_RESTART_SET | .X_CAL_RUN_CLK | .X_CAL_WAIT | .X_CAL_LASTAPP | .X_CAL_PER
  | .X_CAL_POSTED | .X_CAL_WHY | .X_CAL_APPLIED | .X_CAL_BIAS_CH | .X_NVM_PHASE | .X_NVM_BASE | .X_NVM_AUTO
  | .X_NVM_RETRY_CLK | .X_NVM_PEND | .X_NVM_SENSOR | .X_NVM_BANDGAP | .X_LG_LEVEL_ENV | .X_LG_TX_ENV
  | .X_LG_EFFORT_MAX | .X_LG_BIAS_ENV | .X_LG_HEATER_ENV | .X_LG_BIAS_STEP | .X_LG_HEATER_STEP | .X_LG_FLOOR_SNR
  | .X_LG_FLOOR_BER | .X_LG_HEAD_MIN | .X_LG_RX_MIN | .X_LG_RESP | .X_LG_TICKS | .X_LG_LOCK | .X_LG_SNR | .X_LG_BITS
  | .X_LG_CORR | .X_LG_HEAD | .X_LG_PD_SUM | .X_LG_PD_N | .X_LG_PARTIAL | .X_LG_EXH | .X_LG_LV_DISP | .X_LG_TX_DISP
  | .X_LG_TX_DIR | .X_LG_TX_POS | .X_LG_TX_ITEM | .X_LG_TX_WAS | .X_LG_B_DISP | .X_LG_B_LEFT | .X_LG_B_DIR
  | .X_LG_B_MOVE | .X_LG_B_CLK | .X_LG_RXP | .X_LG_EFF_DUE | .X_LG_EFF_NEXT | .X_LG_EFF_LOW | .X_LG_CAL_NEW
  | .X_LG_CAL_HELD | .X_LG_CAL_SNR | .X_LG_CAL_AGE | .X_LG_CAL_DONE | .X_LG_REF_DUE | .X_LG_UNWRITTEN | .X_LG_MOVED
  | .X_LG_CLOSED | .X_LG_PASSES | .X_LG_CW | .X_PWR_RETRY_CLK | .X_PWR_HOR_SET | .X_PWR_REF_TICK | .X_LVL_PHASE
  | .X_LVL_GOAL | .X_LVL_V0 | .X_LVL_CLK | .X_PLAN_ACT | .X_PLAN_SLOT | .X_PLAN_PREV | .X_PLAN_CLK | .X_PLAN_CRC
  | .X_DIR_OK | .X_DIR_SEQ | .X_DIR_CUR | .X_DIR_VALID | .X_XTRIG_WAIT | .X_XTRIG_WAIT_CLK | .X_SYS_OFF | .X_SYS_AUX
  | .X_SYS_MAIN | .X_SYS_RST | .X_SYS_PERST | .X_SYS_PG_CLK | .X_SYS_EP | .X_SYS_FW | .X_SYS_COLD | .X_SYS_FIRST
  | .X_SYS_KEEP | .X_SYS_MEM | .X_SNAP_SLOT | .X_LS_CLK | .X_LS_POLL | .X_LS_HITS | .X_TW_ADDR | .X_TW_LEN
  | .X_TW_WRITE | .X_TW_PAGE | .X_TW_BANK | .X_TW_NPAGE | .X_TW_NBANK | .X_TW_CLK | .X_SMB_ADDR | .X_PWR_LIVE
  | .X_ENG_WAIT | .X_PH_POST | .X_PLAN_ON | .X_PLAN_SRC | .X_PLAN_SRCSLOT | .X_PLAN_ID | .X_SLOT_LOST
  | .X_PH_NEW_COUNT | .X_PH_NEW_TIME | .X_BOOT_SLOT | .X_POST_CARRY | .X_PLAN_CARRY | .X_LRX_SD_CLK | .X_LRX_PO_FROM
  | .X_LRX_PO_CLK | .X_LRX_LOCK_SEG | .X_LRX_WIN_FIRST | .X_LRX_WOFF | .X_LRX_LOST | .X_LRX_BAD_SEG | .X_LRX_CHK_RAN
  | .X_LRX_SH_CLK | .X_SPR_NO | .X_SPR_FIN | .X_SPR_PHASE | .X_SPR_CW | .X_SPR_RELOCK_LAST | .X_LRX_REACQ_LAST
  | .X_LTX_IDLE | .X_LTX_POS | .X_LTX_RAMP_CLK | .X_LTX_RAMP_FROM | .X_LTX_RAMP_N | .X_LTX_PAT_CLK | .X_LTX_TAIL
  | .X_LTX_SWING | .X_LTX_CLIPS | .X_LTX_FAR_BY | .X_LRX_LOOP_BY | .X_POOL_LET | .X_POOL_RSV | .X_POOL_DUE
  | .X_HOST_LANES | .X_HOST_AM_CLK | .X_HOST_RETRAIN_LAST | .X_HOST_BEST | .X_HOST_TSRC | .X_HOST_TFROM
  | .X_HOST_TCLK | .X_HOST_AFREQ | .X_ENG_VOLT | .X_ENG_VOLT_CLK | .X_SMB_STRAP | .X_LRX_FLAGS | .X_BIAS_CORR
  | .X_MEM_RT_REQ_LAST | .X_MEM_SHARE | .X_MEM_SHARE_CLK | .X_MEM_TEMP_CLK | .X_PCIE_MPS | .X_PCIE_RO | .X_DMA_TURN
  | .X_DMA_WAIT_CLK | .X_PWR_ASKED => .internal
  | _ => .ro

/-- R16: the reset word `kept`, for fields that the restante store holds through a warm reset. -/
def F.isKept : F → Bool
  | .TIME_NOW_NOW | .TIME_TICK_COUNT_COUNT | .TIME_RING_DELAY_DELAY | .PLAN_STATUS_FALLBACK | .PLAN_LIVE_SOURCE
  | .PLAN_LIVE_SLOT | .PLAN_LIVE_ID_ID | .PLAN_ACCEPT_TIME_TIME | .LRX_CTRL_FREEZE | .LRX_CTRL_NLC_EN
  | .LRX_STATUS_ACQ_COUNT | .LRX_TR_PHASE_OFFSET | .LRX_TR_BW | .LRX_FFE_CTRL_MU | .LRX_FFE_CTRL_SEED_SRC
  | .LRX_NLC_CTRL_MU | .LRX_NLC_CTRL_BOUND | .LRX_DET_ALPHA | .LRX_DET_BETA | .LRX_DET_LEVEL_BOUND | .LRX_DET_MU
  | .LRX_GRADE_MODE | .LRX_GRADE_G1 | .LRX_GRADE_G2 | .LRX_GRADE_G3 | .LRX_LOCK_CFG_SNR_MIN | .LRX_LOCK_CFG_HYST
  | .LRX_LOCK_CFG_ACQ_LIMIT | .LRX_LOCK_CFG_CLIP_LIMIT | .LRX_FE_CTLE | .LRX_FE_VGA | .LRX_FE_SEARCH | .LRX_FE_SD_THR
  | .LRX_FE_LIVE_CTLE | .LRX_FE_LIVE_VGA | .LRX_DET_SEED_LEVEL0 | .LRX_DET_SEED_LEVEL1 | .LRX_DET_SEED_LEVEL2
  | .LRX_DET_SEED_LEVEL3 | .LRX_DET_LIVE_LEVEL0 | .LRX_DET_LIVE_LEVEL1 | .LRX_DET_LIVE_LEVEL2 | .LRX_DET_LIVE_LEVEL3
  | .LRX_FFE_TAP_SEED | .LRX_FFE_TAP_BOUND | .LRX_NLC_ENTRY_SEED | .LTX_CTRL_SOURCE | .LTX_CTRL_SQUELCH
  | .LTX_CTRL_PD_EN | .LTX_CTRL_AUTO_SQ | .LTX_CTRL_RAMP | .LTX_DRV_SWING | .LTX_DRV_CLIP_LIMIT | .LTX_LEVEL_LEVEL0
  | .LTX_LEVEL_LEVEL1 | .LTX_LEVEL_LEVEL2 | .LTX_LEVEL_LEVEL3 | .LTX_PAT_PATTERN | .LTX_PAT_RAW | .LTX_PAT_INVERT
  | .LTX_FIR_COEF | .LTX_PD_ENTRY_VALUE | .LTX_PAT_MEM_SYMBOLS | .SPR_CTRL_UNC_MARK | .SPR_CTRL_DOUBT
  | .SPR_CTRL_ERASE_MAX | .SPR_CTRL_SLEW | .POOL_CTRL_DRIVER_CAP | .POOL_G_CTRL_FORCE_EN | .POOL_G_CTRL_FORCE
  | .HOST_L_CTRL_C2M | .HOST_L_CTRL_TRAIN | .HOST_L_CTRL_PRECODE_TX | .HOST_L_CTRL_PRECODE_RX | .HOST_L_CTRL_POL_TX
  | .HOST_L_CTRL_POL_RX | .HOST_L_TXEQ_LIMIT_CM3_MAX | .HOST_L_TXEQ_LIMIT_CM2_MAX | .HOST_L_TXEQ_LIMIT_CM1_MAX
  | .HOST_L_TXEQ_LIMIT_CP1_MAX | .HOST_L_TRAIN_TIMEOUT | .HOST_L_TXEQ_CM3 | .HOST_L_TXEQ_CM2 | .HOST_L_TXEQ_CM1
  | .HOST_L_TXEQ_CP1 | .HOST_L_TXEQ_SWING | .HOST_L_TXEQ_LIVE_CM3 | .HOST_L_TXEQ_LIVE_CM2 | .HOST_L_TXEQ_LIVE_CM1
  | .HOST_L_TXEQ_LIVE_CP1 | .HOST_L_TXEQ_LIVE_SWING | .HOST_P_CTRL_UNC_MARK | .HOST_P_CTRL_NODATA
  | .COUR_L_CTRL_TX_HOLD | .CAP_TRIGIN_CFG_EDGE | .CAP_TRIGIN_CFG_DELAY | .CAP_XTRIG_IN_DELAY_DELAY
  | .BIAS_C_TARGET_TARGET | .BIAS_C_SINE_EN | .BIAS_C_SINE_RATE | .BIAS_C_SINE_AMP | .BIAS_C_SINE_INC_INC
  | .BIAS_C_STATUS_ZERO_CAUSE | .HK_CTRL_TICK_EN | .HK_CTRL_PIN_EN | .HK_CTRL_PIN_EDGE | .HK_CTRL_LOOP
  | .HK_CTRL_DONE_IRQ | .HK_CTRL_SEQ_LEN | .HK_SEQ_CHANNEL | .HK_SEQ_REPEAT | .HK_CH_CFG_LEN | .HK_CH_CFG_GAIN
  | .HK_CH_CFG_SUB | .HK_CH_CFG_QTY | .HK_CH_LIMIT_LO | .HK_CH_LIMIT_EN | .HK_CH_LIMIT_HI | .CAL_CTRL_HOLD
  | .CAL_U_STATUS_SUBSTITUTE | .CAL_U_COUNTS_RUNS | .CAL_U_COUNTS_ABORTS | .CAL_U_COUNTS_FAILS | .CAL_U_TIME_TIME
  | .CAL_U_TEMP_LAST | .LEDG_CTRL_PERIOD_IRQ | .LEDG_PERIOD_COUNT_COUNT | .LEDG_HIST_HEAD_HEAD
  | .LEDG_L_STATUS_REFERENCED | .LEDG_L_DISP_LEVEL | .LEDG_L_DISP_TX | .LEDG_L_DISP_LEDGER_MIN | .LEDG_L_CTRL_PAUSE
  | .LEDG_L_ALARM_WORD | .LEDG_L_REC_BYTES | .MEM_BAR2_BASE_BASE | .MEM_ARB_URGENT | .MEM_ARB_RANK0 | .MEM_ARB_RANK1
  | .MEM_ARB_RANK2 | .MEM_ARB_RANK3 | .MEM_ARB_RANK4 | .PH_MASK_MASK | .PH_SRC_OCCUR | .DMA_ARB_URGENT
  | .DMA_Q_STATUS_EPOCH | .THM_STATUS_FAILED | .THM_S_STATUS_STATE | .THM_S_STATUS_FAIL_CAUSE | .SYS_LS_CTRL_AUTO_HP
  | .SYS_LS_CTRL_TIMEOUT | .SYS_LS_CTRL_TW_SPEED | .CAL_TRIM_WORD => true
  | _ => false

/-- R16: the reset word `plan`. -/
def F.isPlan : F → Bool
  | .TIME_TICK_CFG_PERIOD_K | .TIME_TICK_CFG_ROLE | .TIME_TICK_CFG_POSITION | .LRX_CTRL_ANALOG_LOOP
  | .LTX_CTRL_FAR_LOOP | .LTX_COUR_DEPTH | .SPR_CFG_WIDTH | .SPR_CFG_GROUPS | .SPR_CFG_MODE | .POOL_POLICY0_URGENT
  | .POOL_POLICY0_RESERVE | .POOL_POLICY0_HOLD | .POOL_POLICY0_FRAME_LIMIT | .POOL_POLICY1_FLOOR
  | .POOL_SCORE_THR_LOW | .POOL_SCORE_THR_HIGH | .POOL_G_CTRL_MIN | .POOL_G_CTRL_MAX | .HOST_L_STATUS_ROLE
  | .HOST_P_CTRL_NEAR_LOOP | .COUR_L_CTRL_TX_EN | .COUR_L_CTRL_RX_EN | .COUR_L_CTRL_KNOCK_EN | .COUR_TXMAP_A_CODES
  | .COUR_TXMAP_B_CODES | .COUR_RXMAP_A_CODES | .COUR_RXMAP_B_CODES | .COUR_CTRL_PREEMPT | .COUR_CTRL_THRESH
  | .COUR_CTRL_KNOCK_THR | .CAP_REGION_BASE | .CAP_REGION_SIZE | .CAP_T_DRAIN_QUEUE | .CAP_T_DRAIN_COUT
  | .BIAS_C_CFG_ENABLE | .BIAS_C_CFG_FUNCTION | .BIAS_C_CFG_RANGE | .BIAS_C_CFG_SHAPE | .BIAS_C_CFG_TRIGGER
  | .BIAS_C_CFG_ZERO_ON_LS | .BIAS_C_CFG_STEP | .BIAS_C_LIMIT_LO | .BIAS_C_LIMIT_HI | .BIAS_T_TIMER_P
  | .CAL_CLASS_ENABLES | .CAL_CLASS_THRESH | .CAL_CLASS_PERIOD | .LEDG_CFG_PERIOD_EXP | .LEDG_CFG_WINDOW
  | .LEDG_CFG_FORECAST_ALARM | .LEDG_L_CFG_ENABLES | .LEDG_L_CFG_BIAS_CH | .LEDG_L_CFG_HEATER_CH | .PH_CFG_MODE
  | .PH_CFG_TARGETS | .PH_SRC_PRIORITY | .PH_SRC_LEVEL | .PH_SRC_TARGET | .PH_T_CFG_MOD_COUNT | .PH_T_CFG_MOD_TIME
  | .PH_T_STATUS_DEFINED | .PWR_T_LEVEL_REQ | .PWR_D_CFG_PERMIT | .PWR_D_CFG_SD_WAKE | .PWR_D_HORIZON_HORIZON
  | .THM_CFG_HYST | .THM_CFG_DWELL | .THM_CFG_DEMAND_EXP | .THM_CFG_FAST_EXP | .THM_CFG_RATE => true
  | _ => false

/-- R496, R497: the class of power domain `d`. -/
def domClass (d : Nat) : Nat := 
  if d < 64 then 0 else if d < 128 then 1 else if d < 136 then 2 else if d < 140 then 3 else if d < 144 then 4
  else if d < 148 then 5 else if d < 151 then 6 else if d < 155 then 7 else if d = 155 then 8 else if d = 156 then 9
  else 10

/-- R496, R497: the parent of power domain `d`; 0xFF for none. -/
def domParent (d : Nat) : Nat := 
  if d < 64 then 128 + d / 8 else if d < 128 then 128 + (d - 64) / 8 else if d < 136 then 136 + (d - 128) / 2
  else if d < 140 then 255 else if d < 144 then 136 + (d - 140) else if d < 148 then 136 + (d - 144)
  else if d < 151 then 255 else 148

/-- R389: the sensor site of calibration unit `u`. -/
def calSite (u : Nat) : Nat := 
  if u < 128 then 8 * (u % 64 / 16) + u % 16 / 2 else if u < 132 then 8 * (u - 128) + 7
  else if u < 136 then 8 * (u - 132) + 7 else 32

/-- The reset value or cold default of instance `i` of a field, where it is the same for every instance. -/
def F.cold : F → Nat
  | .SYS_ID_PART => 20836
  | .SYS_ID_STEPPING | .LRX_CTRL_NLC_EN | .LRX_FFE_CTRL_SEED_SRC | .LRX_FE_SEARCH | .LTX_CTRL_PD_EN
  | .LTX_CTRL_AUTO_SQ | .SPR_CTRL_UNC_MARK | .POOL_G_CTRL_FORCE | .POOL_G_REQ_LEDGER_MIN | .HOST_L_CTRL_TRAIN
  | .HOST_P_CTRL_UNC_MARK | .COUR_L_STATUS_QUARANTINE_ALL | .CAP_T_SEG_SEGMENTS | .CAP_T_HIT_LIMIT_HITS
  | .HK_CH_RES_PRIMING | .MEM_ARB_RANK4 | .SYS_LS_CTRL_AUTO_HP | .SYS_LS_CTRL_TW_SPEED | .SYS_LS_STATUS_RESET_OUT
  | .SYS_LS_STATUS_LPMODE_OUT | .X_LS_ABSENT | .X_SYS_OFF | .X_SYS_AUX | .X_SYS_COLD | .X_SYS_FIRST | .X_PCIE_RO => 1
  | .SYS_ID_TILES | .LRX_NLC_CTRL_MU | .LRX_DET_MU | .LRX_LOCK_CFG_HYST | .CAP_T_SWEEP1_PH_STEP | .MEM_ARB_RANK0
  | .THM_CFG_FAST_EXP | .X_LG_BIAS_STEP | .X_LG_HEATER_STEP | .X_POOL_RSV => 4
  | .TIME_TICK_CFG_PERIOD_K | .LRX_TR_BW | .LTX_CTRL_RAMP | .LTX_STATUS_SQ_CAUSE | .LTX_COUR_DEPTH | .SPR_CTRL_DOUBT
  | .SPR_CTRL_SLEW | .CAP_T_SWEEP1_TH_STEP | .MEM_ARB_RANK2 => 2
  | .LRX_FFE_CTRL_MU | .CAL_NVM_STATUS_SOURCE | .MEM_ARB_RANK1 | .THM_CFG_DWELL | .X_LG_EFFORT_MAX => 3
  | .LRX_NLC_CTRL_BOUND | .HK_CTRL_SEQ_LEN => 48
  | .LRX_DET_ALPHA | .LRX_DET_LEVEL_BOUND | .LRX_LOCK_CFG_CLIP_LIMIT | .LRX_NOISE_VAR | .LTX_DRV_CLIP_LIMIT
  | .SPR_CTRL_ERASE_MAX | .HOST_L_TXEQ_LIMIT_CP1_MAX | .CAP_T_HOLDOFF_GATE_ON | .CAP_T_SWEEP1_DWELL | .MEM_ARB_URGENT
  | .X_LRX_GRADE_VAR | .X_LG_TX_ENV => 16
  | .LRX_GRADE_G1 | .POOL_CTRL_DRIVER_CAP | .POOL_STATUS_CAP_THERMAL | .POOL_STATUS_CAP_LIVE
  | .HOST_L_TXEQ_LIMIT_CM3_MAX | .THM_Z_STEP_CAP | .X_LG_LEVEL_ENV => 8
  | .LRX_GRADE_G2 | .HOST_L_TXEQ_LIMIT_CM1_MAX => 24
  | .LRX_GRADE_G3 | .LRX_LOCK_CFG_ACQ_LIMIT | .LEDG_CFG_WINDOW | .DMA_ARB_URGENT => 64
  | .LRX_LOCK_CFG_SNR_MIN => 70
  | .LRX_SHADOW_CTRL_DWELL | .LRX_FE_VGA | .LRX_FE_LIVE_VGA | .LEDG_CFG_PERIOD_EXP | .THM_CFG_RATE => 20
  | .LRX_FE_CTLE | .LRX_FE_LIVE_CTLE | .HOST_L_TXEQ_LIMIT_CM2_MAX => 12
  | .LRX_FE_SD_THR => 40
  | .LRX_DET_SEED_LEVEL0 | .LRX_DET_LIVE_LEVEL0 | .LTX_LEVEL_LEVEL0 | .PWR_T_LEVEL_VOLTAGE | .X_LVL_V0 => 160
  | .LRX_DET_SEED_LEVEL1 | .LRX_DET_LIVE_LEVEL1 | .LTX_LEVEL_LEVEL1 | .CAP_T_SWEEP0_TH_START => 224
  | .LRX_DET_SEED_LEVEL2 | .LRX_DET_LIVE_LEVEL2 | .LTX_DRV_SWING | .LTX_LEVEL_LEVEL2 | .CAP_T_SWEEP0_TH_STOP
  | .X_LTX_SWING => 32
  | .LRX_DET_SEED_LEVEL3 | .LRX_DET_LIVE_LEVEL3 | .LTX_LEVEL_LEVEL3 => 96
  | .LRX_FFE_TAP_BOUND => 511
  | .HOST_L_TRAIN_TIMEOUT => 500
  | .HOST_L_TXEQ_CM1 | .HOST_L_TXEQ_LIVE_CM1 => 58
  | .HOST_L_TXEQ_SWING | .HOST_L_TXEQ_LIVE_SWING | .CAL_CLASS_THRESH | .THM_CFG_HYST | .X_THM_HYST => 30
  | .CAP_T_HOLDOFF_HOLDOFF => 11
  | .CAP_T_HOLDOFF_GATE_PER => 19
  | .CAP_T_AUTO_TIMEOUT => 1000000
  | .CAP_T_DRAIN_QUEUE | .LEDG_L_CFG_BIAS_CH | .LEDG_L_CFG_HEATER_CH | .X_TOPO_A | .X_TOPO_B | .X_COUT_LANE
  | .X_XTRIG_DRIVER => 255
  | .CAP_T_SWEEP0_PH_START => 192
  | .CAP_T_SWEEP0_PH_STOP => 63
  | .CAP_T_SWEEP1_EYES => 7
  | .HK_CH_LIMIT_HI => 4095
  | .LEDG_CFG_FORECAST_ALARM => 720
  | .LEDG_L_FC_LOW | .LEDG_L_FC_HIGH | .X_HK_SEL => 65535
  | .PH_SRC_TARGET => 127
  | .THM_CFG_DEMAND_EXP => 6
  | .SYS_LS_CTRL_TIMEOUT => 50
  | .X_PCIE_MRRS => 512
  | .X_POOL_CLEAN | .X_LG_HEAD_MIN => 256
  | .X_LG_BIAS_ENV => 2048
  | .X_LG_HEATER_ENV => 8192
  | .X_LG_FLOOR_SNR => 80
  | .X_LG_FLOOR_BER => 215
  | .X_LG_RX_MIN => 64336
  | .X_LG_RESP => 800
  | .X_PCIE_MPS => 128
  | _ => 0

/-- The reset value or cold default of instance `i` of a field. -/
def F.reset (f : F) (i : Nat) : Nat :=
  match f with
  | .CAL_CLASS_ENABLES => if i = 4 then 15 else 7
  | .LRX_FFE_TAP_SEED => if i % 48 = 12 then 256 else 0
  | .LTX_FIR_COEF => if i % 9 = 2 then 256 else 0
  | .HK_SEQ_CHANNEL => i % 48
  | .HK_CH_CFG_SUB => if i % 48 < 24 then 0 else i % 48 - 24
  | .X_THM_TH => [920, 970, 1020, 1070, 1120].getD (i % 5) 0
  | .X_THM_CAP => [6, 4, 2, 1].getD i 0
  | .X_THM_LEVEL => i
  | .CAL_U_TEMP_SITE => calSite i
  | .DMA_Q_STATUS_KIND => if i < 8 then 0 else 1
  | .PWR_D_CFG_CLASS => domClass i
  | .PWR_D_CFG_PARENT => domParent i
  | .MSIX_CTRL_MASK => 1
  | .PH_MASK_MASK => if i = 0 then 0 else 1
  | f => f.cold

/-- The staged fields (R13). -/
def rwsFields : List F := [
  .LRX_CTRL_FREEZE, .LRX_CTRL_ANALOG_LOOP, .LRX_CTRL_NLC_EN, .LRX_TR_PHASE_OFFSET, .LRX_TR_BW, .LRX_FFE_CTRL_MU,
  .LRX_FFE_CTRL_LOAD_SEED, .LRX_FFE_CTRL_SEED_SRC, .LRX_NLC_CTRL_MU, .LRX_NLC_CTRL_LOAD_SEED, .LRX_NLC_CTRL_BOUND,
  .LRX_DET_ALPHA, .LRX_DET_BETA, .LRX_DET_LOAD_SEED, .LRX_DET_LEVEL_BOUND, .LRX_DET_MU, .LRX_GRADE_MODE,
  .LRX_GRADE_G1, .LRX_GRADE_G2, .LRX_GRADE_G3, .LRX_LOCK_CFG_SNR_MIN, .LRX_LOCK_CFG_HYST, .LRX_LOCK_CFG_ACQ_LIMIT,
  .LRX_LOCK_CFG_CLIP_LIMIT, .LRX_FE_CTLE, .LRX_FE_VGA, .LRX_FE_SEARCH, .LRX_FE_SD_THR, .LRX_DET_SEED_LEVEL0,
  .LRX_DET_SEED_LEVEL1, .LRX_DET_SEED_LEVEL2, .LRX_DET_SEED_LEVEL3, .LRX_FFE_TAP_SEED, .LRX_FFE_TAP_BOUND,
  .LRX_NLC_ENTRY_SEED, .LTX_CTRL_SOURCE, .LTX_CTRL_FAR_LOOP, .LTX_CTRL_SQUELCH, .LTX_CTRL_PD_EN, .LTX_CTRL_AUTO_SQ,
  .LTX_CTRL_RAMP, .LTX_DRV_SWING, .LTX_DRV_CLIP_LIMIT, .LTX_LEVEL_LEVEL0, .LTX_LEVEL_LEVEL1, .LTX_LEVEL_LEVEL2,
  .LTX_LEVEL_LEVEL3, .LTX_COUR_DEPTH, .LTX_PAT_PATTERN, .LTX_PAT_RAW, .LTX_PAT_INVERT, .LTX_FIR_COEF,
  .LTX_PD_ENTRY_VALUE, .LTX_PAT_MEM_SYMBOLS, .SPR_CTRL_UNC_MARK, .SPR_CTRL_DOUBT, .SPR_CTRL_ERASE_MAX,
  .SPR_CTRL_SLEW, .POOL_POLICY0_URGENT, .POOL_POLICY0_RESERVE, .POOL_POLICY0_HOLD, .POOL_POLICY0_FRAME_LIMIT,
  .POOL_POLICY1_FLOOR, .POOL_CTRL_DRIVER_CAP, .POOL_SCORE_THR_LOW, .POOL_SCORE_THR_HIGH, .POOL_G_CTRL_MIN,
  .POOL_G_CTRL_MAX, .POOL_G_CTRL_FORCE_EN, .POOL_G_CTRL_FORCE, .HOST_L_CTRL_C2M, .HOST_L_CTRL_TRAIN,
  .HOST_L_CTRL_PRECODE_TX, .HOST_L_CTRL_PRECODE_RX, .HOST_L_CTRL_POL_TX, .HOST_L_CTRL_POL_RX,
  .HOST_L_TXEQ_LIMIT_CM3_MAX, .HOST_L_TXEQ_LIMIT_CM2_MAX, .HOST_L_TXEQ_LIMIT_CM1_MAX, .HOST_L_TXEQ_LIMIT_CP1_MAX,
  .HOST_L_TRAIN_TIMEOUT, .HOST_L_TXEQ_CM3, .HOST_L_TXEQ_CM2, .HOST_L_TXEQ_CM1, .HOST_L_TXEQ_CP1, .HOST_L_TXEQ_SWING,
  .HOST_P_CTRL_NEAR_LOOP, .HOST_P_CTRL_UNC_MARK, .HOST_P_CTRL_NODATA, .COUR_L_CTRL_TX_EN, .COUR_L_CTRL_RX_EN,
  .COUR_L_CTRL_KNOCK_EN, .COUR_L_CTRL_TX_HOLD, .COUR_TXMAP_A_CODES, .COUR_TXMAP_B_CODES, .COUR_RXMAP_A_CODES,
  .COUR_RXMAP_B_CODES, .COUR_CTRL_PREEMPT, .COUR_CTRL_THRESH, .COUR_CTRL_KNOCK_THR, .HK_CTRL_TICK_EN,
  .HK_CTRL_PIN_EN, .HK_CTRL_PIN_EDGE, .HK_CTRL_LOOP, .HK_CTRL_DONE_IRQ, .HK_CTRL_SEQ_LEN, .HK_SEQ_CHANNEL,
  .HK_SEQ_REPEAT, .HK_CH_CFG_LEN, .HK_CH_CFG_GAIN, .HK_CH_CFG_SUB, .HK_CH_CFG_QTY, .HK_CH_LIMIT_LO, .HK_CH_LIMIT_EN,
  .HK_CH_LIMIT_HI, .PH_T_CFG_MOD_COUNT, .PH_T_CFG_MOD_TIME, .PWR_T_LEVEL_REQ, .CAL_TRIM_WORD]

end Sys2Proof.Machine
end

