-- ==== Sys2Proof/Machine/Store.lean ====
section
/-! DEFINITION. Sparse storage in one canonical form: the register store (field and instance to value) and byte
memories (address to byte). Both are lists with rising keys and no entry equal to what an unlisted key reads as. -/

namespace Sys2Proof.Machine

/-- One instance of a field: lane, engine, tile, queue, or a place in a table. -/
structure Key where
  f : F
  i : Nat
  deriving DecidableEq, Repr

/-- The order of keys in a store. -/
def Key.code (k : Key) : Nat := k.i * 2048 + k.f.ctorIdx

/-- Values of fields. A key that is not listed reads as its reset value. -/
abbrev Store := List (Key × Nat)

/-- The value of a key. -/
def Store.get : Store → Key → Nat
  | [], k => k.f.reset k.i
  | (k', v) :: s, k => if k = k' then v else Store.get s k

/-- Put `k` with value `v` at its place in the order. -/
def Store.insert : Store → Key → Nat → Store
  | [], k, v => [(k, v)]
  | (k', v') :: s, k, v =>
    if k = k' then (k, v) :: s
    else if k.code < k'.code then (k, v) :: (k', v') :: s
    else (k', v') :: Store.insert s k v

/-- Write a key: a value equal to the reset value is not listed. -/
def Store.set (s : Store) (k : Key) (v : Nat) : Store :=
  if v = k.f.reset k.i then s.filter (fun e => decide (e.1 ≠ k)) else s.insert k v

/-- The keys are strictly rising and no entry equals its reset value. -/
def Store.wf : Store → Bool
  | [] => true
  | [(k, v)] => decide (v ≠ k.f.reset k.i)
  | (k, v) :: (k', v') :: s =>
    decide (v ≠ k.f.reset k.i) && decide (k.code < k'.code) && Store.wf ((k', v') :: s)

/-- A byte memory: address and byte, addresses strictly rising, no byte 0 listed. An unlisted address reads 0
(log entry 3). -/
abbrev Mem := List Host.Cell

/-- The byte at an address. -/
def Mem.read : Mem → Nat → Byte
  | [], _ => 0
  | (a', b) :: m, a => if a = a' then b else Mem.read m a

/-- Put a byte at its place in the order. -/
def Mem.insert : Mem → Nat → Byte → Mem
  | [], a, b => [(a, b)]
  | (a', b') :: m, a, b =>
    if a = a' then (a, b) :: m
    else if a < a' then (a, b) :: (a', b') :: m
    else (a', b') :: Mem.insert m a b

/-- Write one byte: a byte 0 is not listed. -/
def Mem.write (m : Mem) (a : Nat) (b : Byte) : Mem :=
  if b = 0 then m.filter (fun e => decide (e.1 ≠ a)) else m.insert a b

/-- Write consecutive bytes from `a`. -/
def Mem.writeBytes : Mem → Nat → List Byte → Mem
  | m, _, [] => m
  | m, a, b :: bs => Mem.writeBytes (m.write a b) (a + 1) bs

/-- Read `n` consecutive bytes from `a`. -/
def Mem.readBytes (m : Mem) (a n : Nat) : List Byte := (List.range n).map fun i => m.read (a + i)

/-- The little-endian value of `n` bytes from `a` (R11). -/
def Mem.readLE (m : Mem) (a n : Nat) : Nat :=
  (List.range n).foldr (fun i acc => (m.read (a + i)).toNat + 256 * acc) 0

/-- The canonical form of a memory. -/
def Mem.wf : Mem → Bool
  | [] => true
  | [(_, b)] => decide (b ≠ 0)
  | (a, b) :: (a', b') :: m => decide (b ≠ 0) && decide (a < a') && Mem.wf ((a', b') :: m)

/-- `n` bytes of `v`, least significant first. -/
def leBytes (n v : Nat) : List Byte := (List.range n).map fun i => BitVec.ofNat 8 (v / 256 ^ i)

/-- The value of a list of bytes, least significant first. -/
def ofLE (bs : List Byte) : Nat := bs.foldr (fun b acc => b.toNat + 256 * acc) 0

end Sys2Proof.Machine
end

