-- ==== Sys2Proof/Machine/State.lean ====
section
/-! DEFINITION. The state of the block as plain data, the machine right after reset, and the reasons a step can stop. -/

namespace Sys2Proof.Machine

open Sys2Proof

/-- A posting accepted and not yet live (R36 to R38). -/
structure Posting where
  seq   : Nat
  scope : Nat
  index : Nat
  /-- elapsed time of acceptance -/
  at_   : Nat
  deriving DecidableEq, Repr

/-- A source in service on a target, with the priority it was claimed at (R456, R460). -/
structure Service where
  target : Nat
  source : Nat
  prio   : Nat
  deriving DecidableEq, Repr

/-- An entry of the violation log (R480). -/
structure Viol where
  addr   : Nat
  bar    : Nat
  write  : Bool
  who    : Requester
  reqId  : Nat
  type   : Nat
  time   : Nat
  deriving DecidableEq, Repr

/-- A message accepted for transmission and not yet done (R269 to R276). -/
structure CourMsg where
  lane : Nat
  slot : Nat
  id   : Nat
  gen  : Nat
  len  : Nat
  mode : Nat
  /-- copies still to send, the one on the line among them -/
  left : Nat
  /-- elapsed time of acceptance -/
  accepted : Nat
  /-- elapsed time from which the next copy may start -/
  eligible : Nat
  /-- elapsed time at which the latest copy started -/
  start  : Nat
  /-- complete copies that have left the lane -/
  copies : Nat
  sending : Bool
  /-- the transmit map that the copy on the line began with (R276) -/
  map : List Nat
  deriving DecidableEq, Repr

/-- An identifier of a lane with a generation and an elapsed time: a quarantine (R270) or a duplicate record (R282). -/
structure CourId where
  lane : Nat
  id   : Nat
  gen  : Nat
  at_  : Nat
  deriving DecidableEq, Repr

/-- An entry of the dead-letter queue (R285). -/
structure DeadLetter where
  lane   : Nat
  recv   : Bool
  reason : Nat
  id     : Nat
  gen    : Nat
  len    : Nat
  mode   : Nat
  buf    : Nat
  time   : Nat
  deriving DecidableEq, Repr

/-- A trigger event on its way to the taps (R322, R323). -/
structure TrigEvent where
  src  : Nat
  info : Nat
  time : Nat
  falling : Bool
  /-- elapsed time of the REFCLK cycle in which it reached the taps -/
  clk  : Nat
  /-- taps that have not taken it, one bit each -/
  taps : Nat
  deriving DecidableEq, Repr

/-- A reference pair of a tap: the index and the time of the first sample of a block it has begun (R324). -/
structure CapRef where
  tap   : Nat
  index : Nat
  time  : Nat
  deriving DecidableEq, Repr

/-- A block that a tap holds in its buffer: its SEQ, its offset in the buffer, its first sample and how many it holds (R306,
R313). -/
structure CapBlock where
  tap   : Nat
  seq   : Nat
  off   : Nat
  first : Nat
  count : Nat
  /-- a write of it has failed, so that its samples are lost (R440) -/
  lost  : Bool
  deriving DecidableEq, Repr

/-- A DMA descriptor fetched and not yet finished (R485 to R488). -/
structure Desc where
  queue  : Nat
  host   : Nat
  dev    : Nat
  len    : Nat
  flags  : Nat
  tag    : Nat
  /-- STATUS of its completion record as far as it is known; 0 while no error has been found -/
  status : Nat
  /-- bytes moved so far -/
  moved  : Nat
  /-- those of them that were poisoned and not written -/
  spoilt : Nat
  /-- read requests not yet issued, in bytes -/
  toAsk  : Nat
  /-- elapsed time from which its urgent age counts (R490) -/
  since  : Nat
  deriving DecidableEq, Repr

/-- A request in a queue of a GDDR7 channel (R430). A read of the BAR2 window is answered when it is issued. -/
structure MemReq where
  /-- class of R428 -/
  cls     : Nat
  write   : Bool
  addr    : Nat
  len     : Nat
  /-- bytes of a write -/
  data    : List Byte
  /-- elapsed time of arrival -/
  arrived : Nat
  /-- a request of the BAR2 window, with its offset in the BAR, its PCIe requester ID and the POST_TIME of its arrival -/
  bar2    : Bool
  off     : Nat
  reqId   : Nat
  time    : Nat
  /-- its queue has become urgent with it as the oldest request -/
  urgent  : Bool
  /-- a read whose result is used already: the read stays failed (R440) -/
  bad     : Bool
  /-- it has failed once and the firmware has asked again (R440) -/
  again   : Bool
  deriving DecidableEq, Repr

/-- What a held request asks for (R478): a BAR0 access, or an access of the BAR2 window with its offset in the BAR and the
GDDR7 address that the window base gave it (R426). -/
inductive HeldKind where
  | bar0 (a : Access)
  | bar2 (off addr : Nat) (write : Bool) (len : Nat) (bytes : List Byte)
  deriving DecidableEq, Repr

/-- A request held for a wake, or stalled behind one (R477, R478). -/
structure Held where
  kind  : HeldKind
  who   : Requester
  reqId : Nat
  /-- elapsed time and POST_TIME of arrival -/
  clk   : Nat
  time  : Nat
  deriving DecidableEq, Repr

/-- The history of a housekeeping channel: its kept results since its latest synchronising reset, latest first, at most
512 (R379). -/
structure HkHist where
  chan : Nat
  res  : List Nat
  deriving DecidableEq, Repr

/-- A range of GDDR7 addresses whose contents are undefined, with a number that names the loss. -/
structure LostRange where
  lo : Nat
  hi : Nat
  id : Nat
  deriving DecidableEq, Repr

/-- The held result of a calibration run (R395, R398). -/
structure CalRes where
  unit : Nat
  /-- word, lowest bit, width and value of each trim -/
  vals : List (Nat × Nat × Nat × Int)
  deriving DecidableEq, Repr

/-- A scheduled reading of a sensor site, kept for the rate of rise (R537). -/
structure ThmRead where
  site : Nat
  clk  : Nat
  val  : Int
  deriving DecidableEq, Repr

/-- A record of the margin ledger as the fits see it: lane, period number, VALID, and the metrics of codes 0 to 4 that are
not missing (R407 to R409). -/
structure LedgRec where
  lane  : Nat
  n     : Nat
  valid : Bool
  m     : List (Option Int)
  deriving DecidableEq, Repr

/-- A ledger move that waits for its tick: a level target (kind 0) or an item of R411 (kind 1), and its step. -/
structure LedgMove where
  lane : Nat
  kind : Nat
  idx  : Nat
  step : Int
  deriving DecidableEq, Repr

/-- A section of a sorting plan: TYPE and body (R64). -/
structure PlanSec where
  type : Nat
  body : List Byte
  deriving DecidableEq, Repr

/-- A posting recorded for domains that sleep: who asked for it (R89), and the staged values of their fields at the posting's
tick (R39). -/
structure RecPost where
  by_  : Nat
  vals : List (Key × Nat)
  deriving DecidableEq, Repr

/-- A host-saved snapshot in its flash slot (R559): the header, the fields with their staged or live values, and the live
calibration trims. -/
structure Snap where
  slot   : Nat
  seq    : Nat
  planId : Nat
  crc    : Nat
  reg    : List (Key × Nat)
  live   : List (Key × Nat)
  ledg   : List LedgRec
  deriving DecidableEq, Repr

/-- A spread frame of a LOCKED group that is being decoded (R197 to R204): its number since frame lock, the mask of its VALID
segments, its letters by lane, and of each codeword the latest decision and its margin. -/
structure RxFrame where
  group   : Nat
  no      : Nat
  time    : Nat
  valid   : Nat
  letters : List (List (Fin 16))
  words   : List (List Bool × Option Nat)
  deriving DecidableEq, Repr

/-- An RS codeword: one that has been decoded, whose symbols are pinned (R199), or one of the host that waits for the encoder
(R240). -/
structure RsWord where
  lane : Nat
  cw   : Nat
  syms : List Nat
  deriving DecidableEq, Repr

/-- A frame in the far-end loop buffer of a group, by stream (R174). -/
structure LoopFrame where
  group   : Nat
  streams : List (List Bool)
  deriving DecidableEq, Repr

/-- What the courier receiver of a lane knows of the channel (R279): twice the estimate of each sub-carrier from 16 on, as
complex numbers, and the common phase, a complex number of modulus 2^16. -/
structure CourChan where
  lane  : Nat
  est   : List (Int × Int)
  phase : Int × Int
  deriving DecidableEq, Repr

/-- What the block sends to the outside with a command: answers to reads, messages, pulses and line output. -/
inductive Out where
  /-- data of a read -/
  | readData (v : Nat)
  /-- data of a read, poisoned (R440) -/
  | poisoned (v : Nat)
  /-- Completer Abort for a read (R479) -/
  | completerAbort
  /-- Unsupported Request for a read (R482) -/
  | unsupported
  /-- the read is held for a wake (R478) -/
  | held
  /-- an MSI-X message on a vector -/
  | msix (v : Nat)
  /-- PM_PME (R482) -/
  | pmPme
  /-- an interrupt to a clerk or postmaster target (R451) -/
  | coreIrq (x : Nat)
  /-- a pulse on RING_SYNC (R51) -/
  | ringSync
  /-- bytes on RING_MSG (R589) -/
  | ringMsg (bytes : List Byte)
  /-- a pulse of 25.6 ns on an XTRIG line (R329) -/
  | xtrig (j : Nat)
  /-- a write request to host memory; its relaxed-ordering attribute (R474), and its data sent poisoned (R440) -/
  | hostWrite (addr : Nat) (bytes : List Byte) (relaxed poisoned : Bool)
  /-- a capture-out frame on host lane `h` (R253, R318) -/
  | captureFrame (h : Nat) (bytes : List Byte)
  /-- the answer to a training request of host lane `h`: at limit or not (R248) -/
  | trainAnswer (h : Nat) (atLimit : Bool)
  /-- bytes that the two-wire master of engine `e` writes from a byte address (R566) -/
  | twoWire (e addr : Nat) (bytes : List Byte)
  /-- a read request to host memory -/
  | hostRead (addr n : Nat)
  /-- the symbols that transmit lane `n` sends in a frame period, as levels (R188), and its differential output in 1/16384 mV
  (R147) for as many symbols, two behind -/
  | lineFrame (n : Nat) (levels : List Nat) (drive : List Int)
  /-- an RS codeword of the stream of lane `n` on its way to the lane's host lanes (R181, R202) -/
  | rsWord (n : Nat) (syms : List Nat)
  /-- the samples, at the courier rate, of a copy or a knock that the courier transmitter of lane `n` starts (R259) -/
  | courier (n : Nat) (samples : List Int)
  /-- a request of the receiver of host lane `h` to its partner in training (R248) -/
  | trainAsk (h : Nat)
  /-- the stream bits of a frame of a stream without stream lock, on their way to the lane's host lanes (R196) -/
  | streamBits (n : Nat) (bits : List Bool)
  deriving DecidableEq, Repr

/-- The device: everything but the queue of commands. -/
structure Dev where
  /-- every field of every register, staged value for the RWS fields, and the model's own timers -/
  reg     : Store
  /-- the live values of the fields that have one (R13, R32) -/
  live    : Store
  /-- elapsed time in POST_TIME units since cold power-up: it neither wraps nor steps (log entry 5) -/
  clk     : Nat
  /-- free values drawn so far: the model's own field, not the spec's (log entry 2) -/
  free    : Nat
  posts   : List Posting
  /-- adaptation updates of overrun ticks, oldest first (R46, R108) -/
  carryRx : List (Fin 64 × RxTick)
  /-- pending pigeonholes, rising -/
  pending : List Nat
  /-- sources in service, latest claim first: the stacks of R460 and the sets of R461 -/
  service : List Service
  /-- vectors whose PBA bit is set, rising (R481) -/
  pba     : List Nat
  /-- the violation log, oldest first (R480) -/
  viols   : List Viol
  /-- courier messages that wait or are being sent, in queue order -/
  msgs    : List CourMsg
  /-- identifiers in quarantine -/
  quar    : List CourId
  /-- the latest generation given to an identifier of a lane -/
  gens    : List CourId
  /-- messages delivered, for duplicate checking -/
  dupes   : List CourId
  /-- the dead-letter queue, oldest first -/
  dlq     : List DeadLetter
  /-- courier message memory, by offset from its base (R299) -/
  cmem    : Mem
  /-- GDDR7 contents by address (R424) -/
  gddr    : Mem
  /-- ranges of GDDR7 whose contents are undefined -/
  lost    : List LostRange
  /-- requests in the queues of the GDDR7 channels, oldest first -/
  mreqs   : List MemReq
  /-- trigger events that some tap has still to take, oldest first -/
  trigs   : List TrigEvent
  /-- records that wait for a block, by tap, oldest first (R321) -/
  recs    : List (Nat × List Byte)
  /-- reference pairs of the taps, latest first -/
  refs    : List CapRef
  /-- blocks that the taps hold, latest first -/
  blocks  : List CapBlock
  /-- EVENTS and SHADOW records that wait for a block, by tap, oldest first (R303, R305) -/
  samples : List (Nat × List Byte)
  /-- blocks of mode-3 taps that have left the buffer and wait for their frame, by tap, oldest first (R318) -/
  frames  : List (Nat × List Byte)
  /-- requests held in the BAR0 and BAR2 streams, oldest first -/
  held    : List Held
  /-- fetched descriptors of all queues, oldest first -/
  descs   : List Desc
  /-- histories of the housekeeping channels that have one -/
  hist    : List HkHist
  /-- results of calibration runs that wait for their application -/
  calres  : List CalRes
  /-- scheduled readings of the last 20 ms, latest first -/
  reads   : List ThmRead
  /-- records of the margin ledger, latest first, at most 255 for each lane -/
  ledg    : List LedgRec
  /-- ledger moves to lane fields that wait for their tick, oldest first -/
  moves   : List LedgMove
  /-- the on-die NVM by address (R401) -/
  nvm     : Mem
  /-- the boot flash by address, each byte complemented, so that an erased byte reads 0 here (R556) -/
  flash   : Mem
  /-- the plan buffer by offset (R71) -/
  planBuf : Mem
  /-- the sections of the live plan in decoded form: area 0 of the restante store (R77) -/
  plan    : List PlanSec
  /-- postings recorded for sleeping domains, oldest first -/
  posted  : List RecPost
  /-- valid snapshots in the boot flash -/
  snaps   : List Snap
  /-- frames that the spread decoders work on, oldest first -/
  rxFrames : List RxFrame
  /-- RS codewords that they have decoded and whose symbols later passes pin -/
  rsDone  : List RsWord
  /-- the far-end loop buffers, oldest frame first, and the frame that each group sent last from its buffer -/
  loops   : List LoopFrame
  looped_ : List LoopFrame
  /-- codewords of the host that wait for the encoders, oldest first -/
  lineIn  : List RsWord
  /-- the codewords in the loop buffers of host near-end loopback (R250) -/
  near    : List RsWord
  /-- the channel estimates of the courier receivers that have found a preamble (R279) -/
  chans   : List CourChan
  /-- read shadows and write shadows of the 64-bit registers that hold one (R17, R20); an unlisted one holds 0 -/
  rshad   : List (Key × Nat)
  wshad   : List (Key × Nat)
  /-- what the latest command sent to the outside -/
  out     : List Out
  deriving DecidableEq, Repr

/-- The state: the device and the commands that wait, first in first out. -/
structure State where
  dev     : Dev
  pending : List Instr
  deriving DecidableEq, Repr

/-- The reasons the block stops with a fault. There are none: nothing in the spec stops the block itself, and every
access the spec forbids is answered as R479 or the access's own rule says. Safe: no run is cut short. -/
inductive Fault where
  deriving DecidableEq, Repr

/-- The reasons a command has no meaning. -/
inductive Refusal where
  /-- Raised by an arm of `exec` whose command has no meaning yet. Safe. -/
  | notModelled (mnemonic : String)
  deriving DecidableEq, Repr

/-- The device right after reset: every field at the value or cold default of its register map. -/
def Dev.reset : Dev where
  reg := []
  live := []
  clk := 0
  free := 0
  posts := []
  carryRx := []
  pending := []
  service := []
  pba := []
  viols := []
  msgs := []
  quar := []
  gens := []
  dupes := []
  dlq := []
  cmem := []
  gddr := []
  lost := [⟨0, 2 ^ 35, 0⟩]
  mreqs := []
  trigs := []
  recs := []
  refs := []
  blocks := []
  samples := []
  frames := []
  held := []
  descs := []
  hist := []
  calres := []
  reads := []
  ledg := []
  moves := []
  nvm := []
  flash := []
  planBuf := []
  plan := []
  posted := []
  snaps := []
  rxFrames := []
  rsDone := []
  loops := []
  looped_ := []
  lineIn := []
  near := []
  chans := []
  rshad := []
  wshad := []
  out := []

/-- The machine right after reset. -/
def State.reset : State where
  dev := Dev.reset
  pending := []

end Sys2Proof.Machine
end

