-- ==== Sys2Proof/Machine/Ops.lean ====
section
/-! DEFINITION. The named operations over the register store, the live settings and time that the meanings share. -/

namespace Sys2Proof.Machine

open Sys2Proof

/-- A command that changes the device and leaves the queue alone. What an earlier command sent out is gone. -/
def State.run (s : State) (f : Dev → Dev) : Host.Outcome State Fault Refusal :=
  .next { s with dev := f { s.dev with out := [] } }

/-- The value a register shows of a field (the staged value of an RWS field). -/
def Dev.get (d : Dev) (f : F) (i : Nat) : Nat := d.reg.get ⟨f, i⟩
/-- Write a field. -/
def Dev.set (d : Dev) (f : F) (i v : Nat) : Dev := { d with reg := d.reg.set ⟨f, i⟩ v }
/-- The live value of a setting (R13). -/
def Dev.lget (d : Dev) (f : F) (i : Nat) : Nat := d.live.get ⟨f, i⟩
/-- Make a value live. -/
def Dev.lset (d : Dev) (f : F) (i v : Nat) : Dev := { d with live := d.live.set ⟨f, i⟩ v }
/-- Whether a one-bit field is 1. -/
def Dev.on (d : Dev) (f : F) (i : Nat) : Bool := d.get f i == 1
/-- Whether a live one-bit setting is 1. -/
def Dev.lon (d : Dev) (f : F) (i : Nat) : Bool := d.lget f i == 1
/-- Add to a counter that saturates at its width. -/
def Dev.addSat (d : Dev) (f : F) (i n : Nat) : Dev := d.set f i (satAdd f.width (d.get f i) n)
/-- Add to a counter that wraps at its width. -/
def Dev.addWrap (d : Dev) (f : F) (i n : Nat) : Dev := d.set f i ((d.get f i + n) % 2 ^ f.width)
/-- Set bits of a field of event bits. -/
def Dev.orBits (d : Dev) (f : F) (i m : Nat) : Dev := d.set f i (d.get f i ||| m)
/-- Write the same value to several fields. -/
def Dev.setAll (d : Dev) (fs : List F) (i v : Nat) : Dev := fs.foldl (fun d f => d.set f i v) d
/-- Write one value to a field in each of several instances. -/
def Dev.setEach (d : Dev) (f : F) (is : List Nat) (v : Nat) : Dev := is.foldl (fun d i => d.set f i v) d
/-- Do something for each of `0` to `n - 1`. -/
def Dev.each (n : Nat) (g : Nat → Dev → Dev) (d : Dev) : Dev := (List.range n).foldl (fun d i => g i d) d
/-- Do something for each element of a list. -/
def Dev.forList {α : Type} (l : List α) (g : α → Dev → Dev) (d : Dev) : Dev := l.foldl (fun d x => g x d) d
/-- Do something if a condition holds. -/
def Dev.when (b : Bool) (g : Dev → Dev) (d : Dev) : Dev := if b then g d else d
/-- Send something to the outside. -/
def Dev.send (d : Dev) (o : Out) : Dev := { d with out := d.out ++ [o] }
/-- Draw a free value for a place in the rules: nothing constrains it. -/
def Dev.draw (d : Dev) (place : Nat) : Nat := Config.freeValue place d.free
/-- Count one free value as drawn. -/
def Dev.drawn (d : Dev) : Dev := { d with free := d.free + 1 }

/-- A value that moves from `a` towards `b` by at most `k`. -/
def moveTowards (a b : Int) (k : Nat) : Int := if a ≤ b then min b (a + k) else max b (a - k)

/-- Insert into a rising list without repeats. -/
def insertNat : List Nat → Nat → List Nat
  | [], n => [n]
  | m :: l, n => if n = m then m :: l else if n < m then n :: m :: l else m :: insertNat l n

/-- Remove from a list. -/
def removeNat (l : List Nat) (n : Nat) : List Nat := l.filter fun m => decide (m ≠ n)

/-- R4: the engine of lane `n`. -/
def engineOf (n : Nat) : Nat := n / 8
/-- R4: the tile of lane `n`. -/
def tileOf (n : Nat) : Nat := n / 16
/-- The lanes of engine `e`. -/
def lanesOf (e : Nat) : List Nat := (List.range 8).map fun l => 8 * e + l

/-- The numbers below `n` for which `p` holds, one bit each. -/
def bitsWhere (n : Nat) (p : Nat → Bool) : Nat := ((List.range n).map fun i => if p i then 2 ^ i else 0).sum

/-! ## Time (R42, R44, R47, R49, R54) -/

/-- One microsecond in POST_TIME units (R47). -/
def us : Nat := 1024000
/-- One nanosecond in POST_TIME units. -/
def ns : Nat := 1024
/-- One millisecond in POST_TIME units. -/
def ms : Nat := 1024000000
/-- One second in POST_TIME units. -/
def sec : Nat := 1024000000000

/-- POST_TIME. -/
def Dev.now (d : Dev) : Nat := d.get .TIME_NOW_NOW 0

/-- The tick period in POST_TIME units (R41). -/
def Dev.period (d : Dev) : Nat := 2 ^ (22 + d.get .TIME_TICK_CFG_PERIOD_K 0)

/-- POST_TIME of the next tick boundary: the next multiple of the period (R42), or the boundary that a step placed (R54).
At the wrap of POST_TIME the boundary lies at 2^64. -/
def Dev.tickDue (d : Dev) : Nat :=
  if d.get .X_TICK_DUE 0 = 0 then (d.now / d.period + 1) * d.period else d.get .X_TICK_DUE 0

/-- The units of `j` REFCLK cycles from phase `p` (R47). -/
def cycleSpan (p : Nat) : Nat → Nat
  | 0 => 0
  | j + 1 => cycleSpan p j + Config.cycleUnits ((p + j) % 5)

/-- The fewest REFCLK cycles, at most `fuel`, that cover `r` units from phase `p`. -/
def cyclesFor (p r : Nat) : Nat → Nat → Nat
  | 0, j => j
  | fuel + 1, j => if r ≤ cycleSpan p j then j else cyclesFor p r fuel (j + 1)

/-- `u` units pass in `c` REFCLK cycles. -/
def Dev.pass (d : Dev) (u c : Nat) : Dev :=
  { ((d.set .TIME_NOW_NOW 0 ((d.now + u) % 2 ^ 64)).set .X_TIME_PHASE 0 ((d.get .X_TIME_PHASE 0 + c) % 5)) with
    clk := d.clk + u }

/-- The first REFCLK cycle at least `u` units away: its distance in units. -/
def Dev.spanTo (d : Dev) (u : Nat) : Nat :=
  32768 * (u / 32768) + cycleSpan (d.get .X_TIME_PHASE 0) (cyclesFor (d.get .X_TIME_PHASE 0) (u % 32768) 5 0)

/-- Run on to the first REFCLK cycle at least `u` units away, without slewing. -/
def Dev.runUnits (d : Dev) (u : Nat) : Dev :=
  d.pass (d.spanTo u) (5 * (u / 32768) + cyclesFor (d.get .X_TIME_PHASE 0) (u % 32768) 5 0)

/-- One REFCLK cycle, with the unit that a slew adds or withholds (R54). -/
def Dev.cycle (d : Dev) : Dev :=
  let u := Config.cycleUnits (d.get .X_TIME_PHASE 0)
  let d1 := d.pass u 1
  if d.get .X_SLEW 0 = 0 then d1
  else
    let n := if d.on .X_SLEW_DOWN 0 then d1.now + 2 ^ 64 - 1 else d1.now + 1
    (d1.set .TIME_NOW_NOW 0 (n % 2 ^ 64)).set .X_SLEW 0 (d.get .X_SLEW 0 - 1)

/-- Cycles during a slew, at most `fuel`, until `stop` holds. -/
def Dev.runSlew (stop : Dev → Bool) : Nat → Dev → Dev
  | 0, d => d
  | fuel + 1, d => if d.get .X_SLEW 0 = 0 || stop d then d else Dev.runSlew stop fuel d.cycle

/-- POST_TIME units since POST_TIME was `t`. -/
def Dev.since (d : Dev) (t : Nat) : Nat := (d.now + 2 ^ 64 - t) % 2 ^ 64

/-- POST_TIME units left to the next tick boundary. -/
def Dev.tickLeft (d : Dev) : Nat := d.tickDue - d.now

/-- Run on to the REFCLK cycle at which the next tick begins, slewing on the way. -/
def Dev.runToTick (d : Dev) : Dev :=
  let d1 := Dev.runSlew (fun e => decide (d.tickLeft ≤ e.since d.now)) (d.get .X_SLEW 0) d
  d1.runUnits (d.tickLeft - d1.since d.now)

/-- Run on to the REFCLK cycle at which elapsed time reaches `t`, slewing on the way. -/
def Dev.runClk (d : Dev) (t : Nat) : Dev :=
  let d1 := Dev.runSlew (fun e => decide (t ≤ e.clk)) (d.get .X_SLEW 0) d
  d1.runUnits (t - d1.clk)

/-- Something that happens when elapsed time `deadline` is reached: at once if it has passed, else after running on to
it, unless the next tick comes first; then the event is not due and nothing happens (log entry 5). -/
def Dev.onTime (deadline : Nat) (f : Dev → Dev) (d : Dev) : Dev :=
  if deadline ≤ d.clk then f d
  else
    let d1 := d.runClk deadline
    if d1.clk - d.clk < 2 * d.tickLeft ∧ d1.since d.now < d.tickLeft then f d1 else d

/-! ## Writes that take effect at the first tick at least 2 µs later -/

/-- A write that waits for its tick: `flag` says that one waits, `first` and `last` when the first and the latest of them
came. -/
def Dev.askWrite (d : Dev) (flag first last : F) (i : Nat) : Dev :=
  let d := if d.on flag i then d else (d.set flag i 1).set first i d.clk
  d.set last i d.clk

/-- Such a write is due at the tick that begins now. -/
def Dev.askDue (d : Dev) (flag first : F) (i : Nat) : Bool := d.on flag i && decide (d.get first i + 2 * us ≤ d.clk)

/-- The due writes are taken; a later one goes on waiting. -/
def Dev.askTake (d : Dev) (flag first last : F) (i : Nat) : Dev :=
  if d.get last i + 2 * us ≤ d.clk then d.set flag i 0 else d.set first i (d.get last i)

/-- Replace POST_TIME at once (a step of R54 or a load of R49). -/
def Dev.setNow (d : Dev) (v : Nat) : Dev := d.set .TIME_NOW_NOW 0 (v % 2 ^ 64)

/-- The first multiple of 2^28 after `t`. -/
def next28 (t : Nat) : Nat := (t / 2 ^ 28 + 1) * 2 ^ 28

end Sys2Proof.Machine
end

