-- ==== Sys2Proof/Machine/PowerBase.lean ====
section
/-! DEFINITION. Power domains: their numbers, sleep groups and wake requests (R496, R499, R511, R518). -/

namespace Sys2Proof.Machine

open Sys2Proof

/-! ## Domain numbers (R496) -/

/-- The receive domain of lane `n`. -/
def domRx (n : Nat) : Nat := n
/-- The transmit domain of lane `n`. -/
def domTx (n : Nat) : Nat := 64 + n
/-- The engine-common domain of engine `e`. -/
def domEngine (e : Nat) : Nat := 128 + e
/-- The tile-common domain of tile `t`. -/
def domTile (t : Nat) : Nat := 136 + t
/-- The pool and clerk domain of tile `t`. -/
def domPool (t : Nat) : Nat := 140 + t
/-- The housekeeping and bias domain of tile `t`. -/
def domHk (t : Nat) : Nat := 144 + t
/-- Memory domain `m`. -/
def domMem (m : Nat) : Nat := 151 + m
/-- The capture domain. -/
def domCapture : Nat := 155
/-- The courier domain. -/
def domCourier : Nat := 156
/-- The DMA domain. -/
def domDma : Nat := 157

/-- States of PWR_D_STATUS.STATE. -/
def pwON : Nat := 0
def pwHOLD : Nat := 1
def pwNAP : Nat := 2
def pwOFF : Nat := 3
def pwDARK : Nat := 4
def pwENTERING : Nat := 5
def pwWAKING : Nat := 6
def pwFAILED : Nat := 7
def pwROLLBACK : Nat := 8

/-- The state of a domain. -/
def Dev.dom (d : Dev) (k : Nat) : Nat := d.get .PWR_D_STATUS_STATE k
/-- The domain is ON, or its query rolls back without having stopped a block of the data path (R506, R514). -/
def Dev.domOn (d : Dev) (k : Nat) : Bool := d.dom k == pwON || d.on .X_PWR_LIVE k
/-- The domain sleeps: HOLD, NAP, OFF or DARK. -/
def Dev.domAsleep (d : Dev) (k : Nat) : Bool := decide (1 ≤ d.dom k ∧ d.dom k ≤ 4)

/-- R496: the states a class is capable of, as PERMIT bits: bit 0 HOLD, 1 NAP, 2 OFF, 3 DARK. -/
def capable (d : Nat) : Nat :=
  match domClass d with
  | 3 => 15
  | 6 => 0
  | 9 => 3
  | 10 => 3
  | _ => 7

/-- The parent of a domain. -/
def parentOf (d : Nat) : Option Nat := if domParent d = 255 then none else some (domParent d)

/-- The ancestors of a domain, the eldest last. -/
def ancestors (d : Nat) : List Nat :=
  match parentOf d with
  | none => []
  | some p =>
    match parentOf p with
    | none => [p]
    | some q => [p, q]

/-- The children of a domain. -/
def childrenOf (d : Nat) : List Nat := (List.range 158).filter fun c => decide (domParent c = d)

/-! ## Spread groups (R69, R511) -/

/-- The live spread width of an engine: 1, 2, 4 or 8. -/
def Dev.width (d : Dev) (e : Nat) : Nat := 2 ^ d.get .SPR_CFG_WIDTH e
/-- The lane mode of an engine: 0 unused, 1 L400, 2 L200, 3 L100. -/
def Dev.mode (d : Dev) (e : Nat) : Nat := d.get .SPR_CFG_MODE e
/-- The engine is used. -/
def Dev.used (d : Dev) (e : Nat) : Bool := d.mode e != 0
/-- The first lane of the spread group of lane `n`. -/
def Dev.groupBase (d : Dev) (n : Nat) : Nat := n - n % d.width (engineOf n)
/-- The lanes of the spread group of lane `n`. -/
def Dev.groupLanes (d : Dev) (n : Nat) : List Nat :=
  (List.range (d.width (engineOf n))).map fun j => d.groupBase n + j
/-- The device-wide index 8e + q of the group of lane `n`. -/
def Dev.groupOf (d : Dev) (n : Nat) : Nat := 8 * engineOf n + n % 8 / d.width (engineOf n)
/-- The lanes of group 8e + q. -/
def Dev.lanesOfGroup (d : Dev) (g : Nat) : List Nat :=
  (List.range (d.width (g / 8))).map fun j => 8 * (g / 8) + (g % 8) * d.width (g / 8) + j
/-- Group 8e + q exists at the live width. -/
def Dev.groupExists (d : Dev) (g : Nat) : Bool :=
  d.used (g / 8) && decide ((g % 8 + 1) * d.width (g / 8) ≤ 8)

/-- R511: the members of the sleep group of a domain, in ascending lane order. -/
def Dev.sleepGroup (d : Dev) (k : Nat) : List Nat :=
  if k < 64 then d.groupLanes k else if k < 128 then (d.groupLanes (k - 64)).map (64 + ·) else [k]

/-- An ancestor of the domain is in WAKE_FAILED. -/
def Dev.ancestorFailed (d : Dev) (k : Nat) : Bool := (ancestors k).any fun a => d.dom a == pwFAILED

/-- R499: a domain of an unused engine. -/
def Dev.domUnused (d : Dev) (k : Nat) : Bool :=
  (decide (k < 128) && !d.used (engineOf (k % 64))) || (decide (128 ≤ k ∧ k < 136) && !d.used (k - 128))

/-- R518, R520: a wake request reaches one domain. Domains of an unused engine stay OFF (R499). A sleeping domain starts to wake; one that is entering holds the
request for its next abort point (R516); any other state is left alone, but that it had a request at this moment (R517). -/
def Dev.wakeOne (d : Dev) (k code : Nat) : Dev :=
  if d.domUnused k then d
  else if d.domAsleep k && !d.ancestorFailed k then
    let d := (d.set .X_PWR_FROM k (d.dom k)).set .X_PWR_BEGAN k d.clk
    let d := ((d.set .PWR_D_LAST_WAKE_SRC k code).set .PWR_D_STATUS_ATTEMPT k 0).set .X_PWR_HELD_OFF k 0
    d.set .PWR_D_STATUS_STATE k pwWAKING
  else if d.dom k == pwENTERING then d.set .X_PWR_WANT k code
  else d.set .X_PWR_ASKED k (d.clk + 1)

/-- R499, R511, R518: a wake request for a domain: its ancestors first, the eldest first, with code 10; then every
member of its sleep group. -/
def Dev.wake (d : Dev) (k code : Nat) : Dev :=
  let d := Dev.forList (ancestors k).reverse (fun a d => d.wakeOne a 10) d
  Dev.forList (d.sleepGroup k) (fun m d => d.wakeOne m code) d

end Sys2Proof.Machine
end

