-- ==== Sys2Proof/Machine/Pigeonhole.lean ====
section
/-! DEFINITION. The pigeonhole controller (R444 to R471): raising a source, deciding and issuing a message, moderation,
claim and complete in stacked and flat mode; and the endpoint's side of a message (R481 to R483). -/

namespace Sys2Proof.Machine

open Sys2Proof

/-- The source is in service on some target (R456). -/
def Dev.inService (d : Dev) (s : Nat) : Bool := d.service.any fun v => decide (v.source = s)

/-- What is in service on a target, latest claim first (the stack of R460). -/
def Dev.stackOf (d : Dev) (x : Nat) : List Service := d.service.filter fun v => decide (v.target = x)

/-- Stacked mode (PH_CFG.MODE). -/
def Dev.stacked (d : Dev) : Bool := d.on .PH_CFG_MODE 0

/-- R453: every condition but the mask under which source `s` is eligible for target `x`. -/
def Dev.readyFor (d : Dev) (x s : Nat) : Bool :=
  d.pending.contains s && d.get .PH_SRC_TARGET s == x && d.on .PH_T_STATUS_DEFINED x && !d.inService s &&
    (!d.stacked || match d.stackOf x with
      | [] => true
      | v :: _ => decide (v.prio < d.get .PH_SRC_PRIORITY s))

/-- R453: source `s` is eligible for target `x`. -/
def Dev.eligible (d : Dev) (x s : Nat) : Bool := d.readyFor x s && !d.on .PH_MASK_MASK s

/-- R453: the highest eligible source of a target, the lower number on a tie. -/
def Dev.best (d : Dev) (x : Nat) : Option Nat :=
  d.pending.foldl (fun b s =>
    if d.eligible x s then
      match b with
      | none => some s
      | some s0 => if d.get .PH_SRC_PRIORITY s0 < d.get .PH_SRC_PRIORITY s then some s else some s0
    else b) none

/-- R465: a target is idle. -/
def Dev.targetIdle (d : Dev) (x : Nat) : Bool :=
  if x < 64 then d.on .PH_T_IDLE_TARGET_IDLE x || d.on .DMA_LINK_STATUS_L1 0 else d.on .X_PH_CORE_HALT x

/-- R463: the live moderation count, 0 taken as 1. -/
def Dev.modCount (d : Dev) (x : Nat) : Nat := max 1 (d.lget .PH_T_CFG_MOD_COUNT x)
/-- R463: the live moderation time in POST_TIME units; 0 taken as 1, above 2,048 as 2,048. -/
def Dev.modTime (d : Dev) (x : Nat) : Nat := clampN 1 2048 (d.lget .PH_T_CFG_MOD_TIME x) * 512000

/-- R481 to R483: send an MSI-X message, or set its PBA bit. In D3hot the endpoint leaves L1 and sends PM_PME when
PME_En is 1. -/
def Dev.sendMsix (d : Dev) (v : Nat) : Dev :=
  if d.get .DMA_LINK_STATUS_DSTATE 0 = 3 then
    let d := { (d.set .X_PCIE_PME_STATUS 0 1) with pba := insertNat d.pba v }
    if d.on .X_PCIE_PME_EN 0 then (d.set .DMA_LINK_STATUS_L1 0 0).send .pmPme else d
  else if !d.on .DMA_LINK_STATUS_BME 0 || d.on .X_PCIE_FUNC_MASK 0 || d.on .MSIX_CTRL_MASK v then
    { d with pba := insertNat d.pba v }
  else (d.set .DMA_LINK_STATUS_L1 0 0).send (.msix v)

/-- R481: send every message whose PBA bit is set and that nothing holds any longer. -/
def Dev.flushPba (d : Dev) : Dev := Dev.forList d.pba (fun v d => Dev.sendMsix { d with pba := removeNat d.pba v } v) d

/-- R451: issue a message to a target for its source `s`; a message to a core ends that core's wait. -/
def Dev.issueFor (d : Dev) (x s : Nat) : Dev :=
  let d := d.addSat .PH_T_COUNTS_MESSAGES x 1
  if x < 64 then d.sendMsix (4 * x + d.get .PH_SRC_PRIORITY s / 4)
  else (d.set .X_PH_CORE_HALT x 0).send (.coreIrq x)

/-- Issue one message for the highest source eligible now, if there is one. -/
def Dev.issue (d : Dev) (x : Nat) : Dev :=
  match d.best x with
  | none => d
  | some s => d.issueFor x s

/-- R464: end the hold of a target and issue one message. -/
def Dev.release (d : Dev) (x : Nat) : Dev :=
  if d.on .PH_T_STATUS_HELD x then
    ((d.set .PH_T_STATUS_HELD x 0).set .X_PH_HELD_COUNT x 0).issue x
  else d

/-- End the hold of a target and send nothing (R467, R468). -/
def Dev.dropHold (d : Dev) (x : Nat) : Dev := (d.set .PH_T_STATUS_HELD x 0).set .X_PH_HELD_COUNT x 0

/-- R454, R463: a message is decided for source `s`. In flat mode the decision latches the selection (R462). For a clerk
target the decision is a wake request for its pool and clerk domain (R518 code 5). -/
def Dev.decideMessage (d : Dev) (x s : Nat) : Dev :=
  let d := if 64 ≤ x ∧ x < 72 then d.wake (domPool ((x - 64) / 2)) 5 else d
  let d := if d.stacked then d else
    ((d.set .X_PH_SEL x s).set .X_PH_SEL_CLK x d.clk).set .X_PH_SEL_LATE x 0
  if d.targetIdle x || d.modCount x == 1 then
    if d.on .PH_T_STATUS_HELD x then d else d.issueFor x s
  else if d.on .PH_T_STATUS_HELD x then d
  else ((d.set .PH_T_STATUS_HELD x 1).set .X_PH_HELD_COUNT x 1).set .X_PH_HOLD_END x (d.clk + d.modTime x)

/-- R454: look at a target again; at a rising edge of its eligibility a message is decided. -/
def Dev.settle (d : Dev) (x : Nat) : Dev :=
  match d.best x with
  | none => d.set .X_PH_ELIG x 0
  | some s => if d.on .X_PH_ELIG x then d else (d.set .X_PH_ELIG x 1).decideMessage x s

/-- Look at every target again. -/
def Dev.settleAll (d : Dev) : Dev := Dev.each 74 (fun x d => d.settle x) d

/-- Look again at the target that a source is routed to. -/
def Dev.settleSource (d : Dev) (s : Nat) : Dev := d.settle (d.get .PH_SRC_TARGET s)

/-- R463: an occurrence of an unmasked source adds to the held count of its target, and at C the hold ends. -/
def Dev.countHeld (d : Dev) (s : Nat) : Dev :=
  let x := d.get .PH_SRC_TARGET s
  if d.on .PH_T_STATUS_HELD x && !d.on .PH_MASK_MASK s then
    let n := d.get .X_PH_HELD_COUNT x + 1
    if d.modCount x ≤ n then d.release x else d.set .X_PH_HELD_COUNT x n
  else d

/-- R446, R447: an occurrence of a source: it pends, its counter moves, and its target is looked at again. -/
def Dev.occur (d : Dev) (s : Nat) : Dev :=
  let d := { (d.addWrap .PH_SRC_OCCUR s 1) with pending := insertNat d.pending s }
  (d.countHeld s).settleSource s

/-- R446: a block raises a source that is no level of event bits: a pulse of one cycle. Source 0 is never raised. -/
def Dev.raise (d : Dev) (s : Nat) : Dev := if s = 0 then d else d.occur s

/-- Set a pending bit that is no occurrence. -/
def Dev.pend (d : Dev) (s : Nat) : Dev := { d with pending := insertNat d.pending s }

/-- R446: the line of a source that event bits drive takes a level. -/
def Dev.setLine (d : Dev) (s : Nat) (high : Bool) : Dev :=
  if high then
    if d.on .PH_SRC_LINE s then d else (d.set .PH_SRC_LINE s 1).occur s
  else d.set .PH_SRC_LINE s 0

/-- R449, R459: a level source whose line is high and which is not in service pends. -/
def Dev.repend (d : Dev) (s : Nat) : Dev :=
  if d.on .PH_SRC_LEVEL s && d.on .PH_SRC_LINE s && !d.inService s then d.pend s else d

/-- R456, R462: the source a claim of target `x` would return, and whether it is a late delivery. -/
def Dev.pick (d : Dev) (x : Nat) : Option Nat × Bool :=
  let sel := d.get .X_PH_SEL x
  if !d.stacked && sel != 0 then
    if d.eligible x sel then (some sel, false)
    else if d.readyFor x sel && d.on .X_PH_SEL_LATE x then (some sel, true)
    else (d.best x, false)
  else (d.best x, false)

/-- R456: the word that a claim of source `s` returns. -/
def Dev.claimWord (d : Dev) (s : Nat) (late : Bool) : Nat :=
  s + 2 ^ 12 * d.get .PH_SRC_PRIORITY s + 2 ^ 16 * d.get .PH_SRC_OCCUR s + 2 ^ 31 * b2n late

/-- R456, R460, R462: a read of PH_T_CLAIM. A read from PCIe or the SMBus target for targets 64 to 73 returns 0 and
claims nothing (R452), and so does one of a target the plan does not define (R471). -/
def Dev.claim (d : Dev) (x : Nat) (req : Requester) : Dev :=
  if !d.on .PH_T_STATUS_DEFINED x || (decide (64 ≤ x) && req.isExternal) then d.send (.readData 0)
  else
    let p := d.pick x
    let d := d.set .X_PH_SEL x 0
    match p.1 with
    | none => ((d.addSat .PH_T_COUNTS_SPURIOUS x 1).settle x).send (.readData 0)
    | some s =>
      let w := d.claimWord s p.2
      let d := if p.2 then d.set .PH_T_EVENTS_LATE_DELIVERY x 1 else d
      let d := { d with pending := removeNat d.pending s,
                        service := ⟨x, s, d.get .PH_SRC_PRIORITY s⟩ :: d.service }
      (d.settle x).send (.readData w)

/-- R460, R461, R470: a completion that the mode does not accept. -/
def Dev.completeFault (d : Dev) (x s kind : Nat) : Dev :=
  let d := if kind = 3 then d.set .PH_T_EVENTS_BAD_COMPLETE x 1 else d.set .PH_T_EVENTS_STACK_ORDER x 1
  let d := ((d.set .PH_FAULT_LOG_TARGET 0 x).set .PH_FAULT_LOG_SOURCE 0 s).set .PH_FAULT_LOG_KIND 0 kind
  (d.addSat .PH_FAULT_LOG_COUNT 0 1).raise 16

/-- R459: source `s` leaves service on target `x`; a level source with its line high pends again. -/
def Dev.finish (d : Dev) (x s : Nat) : Dev :=
  ({ d with service := d.service.filter fun v => !(decide (v.target = x) && decide (v.source = s)) }.repend s)

/-- R458 to R461: a write to PH_T_COMPLETE. -/
def Dev.complete (d : Dev) (x s : Nat) (req : Requester) : Dev :=
  if s = 0 || !d.on .PH_T_STATUS_DEFINED x || (decide (64 ≤ x) && req.isExternal) then d
  else if d.stacked then
    match d.stackOf x with
    | [] => d.completeFault x s 2
    | v :: _ => if v.source = s then ((d.finish x s).settle x).settleSource s else d.completeFault x s 1
  else if (d.stackOf x).any fun v => decide (v.source = s) then ((d.finish x s).settle x).settleSource s
  else d.completeFault x s 3

/-- R459, R467: a target's stack is emptied, its sources in service are treated as completed and its held message is
discarded with the selection that it was made for. What becomes eligible by that has its message decided, as after a
completion. -/
def Dev.resetTarget (d : Dev) (x : Nat) : Dev :=
  let ss := (d.stackOf x).map (·.source)
  let d := if d.on .PH_T_STATUS_HELD x then (d.dropHold x).set .X_PH_SEL x 0 else d
  let d := Dev.forList ss (fun s d => d.finish x s) d
  Dev.forList ss (fun s d => d.settleSource s) (d.settle x)

/-- R448, R449: a write of a pending word, with the bits that hardware sets in the same cycle. -/
def Dev.writePending (d : Dev) (w v hw : Nat) : Dev :=
  let d := Dev.each 32 (fun b d =>
    let s := 32 * w + b
    if s = 0 then d
    else if bitAt v b then d.pend s
    else ({ d with pending := removeNat d.pending s }.repend s)) d
  let d := Dev.each 32 (fun b d => if bitAt hw b then d.raise (32 * w + b) else d) d
  d.settleAll

/-- R448, R462: a write of a mask word. -/
def Dev.writeMask (d : Dev) (w v : Nat) : Dev :=
  let d0 := d
  let d := Dev.each 32 (fun b d => if 32 * w + b = 0 then d else d.set .PH_MASK_MASK (32 * w + b) (b2n (bitAt v b))) d
  let d := Dev.each 74 (fun x d =>
    let s := d.get .X_PH_SEL x
    if s != 0 && s / 32 == w then
      if !d.on .PH_MASK_MASK s then d.set .X_PH_SEL_LATE x 0
      else if !d0.on .PH_MASK_MASK s && decide (d.clk - d.get .X_PH_SEL_CLK x ≤ 96 * ns) then d.set .X_PH_SEL_LATE x 1
      else d
    else d) d
  d.settleAll

/-- R465, R464: host target `x` is declared idle or busy. -/
def Dev.writeIdle (d : Dev) (x : Nat) (idle : Bool) : Dev :=
  if d.on .PH_T_STATUS_DEFINED x then
    let d := d.set .PH_T_IDLE_TARGET_IDLE x (b2n idle)
    if idle then d.release x else d
  else d

/-- CLAIM (R456). -/
def execClaim (x : Fin 74) (req : Requester) (s : State) : Host.Outcome State Fault Refusal :=
  s.run fun d => d.claim x req

/-- COMPLETE (R458). -/
def execComplete (x : Fin 74) (source : BitVec 10) (req : Requester) (s : State) : Host.Outcome State Fault Refusal :=
  s.run fun d => d.complete x source.toNat req

/-- PENDING_WRITE (R448). -/
def execPendingWrite (w : Fin 32) (v hw : Word) (s : State) : Host.Outcome State Fault Refusal :=
  s.run fun d => d.writePending w v.toNat hw.toNat

/-- MASK_WRITE (R448). -/
def execMaskWrite (w : Fin 32) (v : Word) (s : State) : Host.Outcome State Fault Refusal :=
  s.run fun d => d.writeMask w v.toNat

/-- TARGET_IDLE_WRITE (R465). -/
def execTargetIdleWrite (x : Fin 64) (idle : Bool) (s : State) : Host.Outcome State Fault Refusal :=
  s.run fun d => d.writeIdle x idle

/-- PH_CLEAR_STATS (R471): every PH_T_COUNTS is cleared at once. -/
def execPhClearStats (s : State) : Host.Outcome State Fault Refusal :=
  s.run fun d => Dev.each 74 (fun x d => (d.set .PH_T_COUNTS_MESSAGES x 0).set .PH_T_COUNTS_SPURIOUS x 0) d

/-- MODERATION_TIMEOUT (R464): τ elapses on a held message. -/
def execModerationTimeout (x : Fin 74) (s : State) : Host.Outcome State Fault Refusal :=
  s.run fun d => if d.on .PH_T_STATUS_HELD x then d.onTime (d.get .X_PH_HOLD_END x) (fun d => d.release x) else d

/-- CORE_WAIT_HALT (R465): the core of target 64 + `x` halts in its wait instruction; a held message is released. -/
def execCoreWaitHalt (x : Fin 10) (s : State) : Host.Outcome State Fault Refusal :=
  s.run fun d => (d.set .X_PH_CORE_HALT (64 + x) 1).release (64 + x)

end Sys2Proof.Machine
end

