-- ==== Sys2Proof/Machine/Events.lean ====
section
/-! DEFINITION. Events that blocks share: a refused resource (R89), a trigger event (R322) with its XTRIG pulse (R329),
and the lines of the sources that event bits drive (R446). -/

namespace Sys2Proof.Machine

open Sys2Proof

/-- R89, R90: a refused request for a resource. -/
def Dev.refuse (d : Dev) (resource index requester holder : Nat) : Dev :=
  let d := (d.set .PLAN_RES_LOG_RESOURCE 0 resource).set .PLAN_RES_LOG_INDEX 0 index
  let d := (d.set .PLAN_RES_LOG_REQUESTER 0 requester).set .PLAN_RES_LOG_HOLDER 0 holder
  ((d.addSat .PLAN_RES_LOG_COUNT 0 1).set .PLAN_RES_TIME_TIME 0 d.now).raise 962

/-- States of CAP_T_STATUS.STATE (R336). -/
def ctIDLE : Nat := 0
def ctWAKING : Nat := 1
def ctFILLING : Nat := 2
def ctARMED : Nat := 3
def ctPOST : Nat := 4
def ctSTREAMING : Nat := 5
def ctDRAINING : Nat := 6
def ctDONE : Nat := 7

/-- The state of a tap. -/
def Dev.tapState (d : Dev) (t : Nat) : Nat := d.get .CAP_T_STATUS_STATE t
/-- A tap takes samples. -/
def Dev.tapRuns (d : Dev) (t : Nat) : Bool := decide (ctFILLING ≤ d.tapState t ∧ d.tapState t ≤ ctSTREAMING)
/-- A tap is active (R336). -/
def Dev.tapActive (d : Dev) (t : Nat) : Bool := d.tapState t != ctIDLE && d.tapState t != ctDONE

/-- R323: the scope filter of a tap for an internal event of the lanes `lanes`. -/
def Dev.inScope (d : Dev) (t src info : Nat) (lanes : List Nat) : Bool :=
  let l := d.lget .CAP_T_CTRL_LANE t
  match d.lget .CAP_T_CTRL_SCOPE t with
  | 0 => if src = 0xA then info % 8 == t else lanes.contains l
  | 1 => lanes.any fun n => engineOf n == engineOf l
  | 2 => lanes.any fun n => tileOf n == tileOf l
  | _ => true

/-- R322, R323: the taps of `mask` that a trigger event reaches, as bits. `lanes` is empty for an external source. -/
def Dev.tapsFor (d : Dev) (mask src info : Nat) (lanes : List Nat) : Nat :=
  ((List.range 8).map fun t =>
    if bitAt mask t && d.tapRuns t && bitAt (d.lget .CAP_T_TRIG_SEL_SRC t) src &&
      (lanes.isEmpty || d.inScope t src info lanes) then 2 ^ t else 0).sum

/-- A trigger event goes to the taps that it reaches. -/
def Dev.toTaps (d : Dev) (mask src info time : Nat) (falling : Bool) (lanes : List Nat) : Dev :=
  let m := d.tapsFor mask src info lanes
  if m = 0 then d else { d with trigs := d.trigs ++ [(⟨src, info, time, falling, d.clk, m⟩ : TrigEvent)] }

/-- R329: an event of source code `src` on the lines that select it: a pulse, or a merge if one is under way. -/
def Dev.xtrigEvent (d : Dev) (src : Nat) : Dev :=
  Dev.each 2 (fun j d =>
    if d.on .CAP_XTRIG_OUT_DRIVING j && bitAt (d.get .CAP_XTRIG_OUT_SRC j) src then
      if d.clk < d.get .X_XTRIG_END j then (d.addSat .CAP_XTRIG_STATUS_MERGED 0 1).raise 801
      else ((d.set .X_XTRIG_END j (d.clk + cycleSpan (d.get .X_TIME_PHASE 0) 9)).send (.xtrig j)).toTaps 255 (4 + j)
        (j + 256 * d.get .TIME_TICK_CFG_POSITION 0) (d.now + cycleSpan (d.get .X_TIME_PHASE 0) 1) false []
    else d) d

/-- R322, R323: an internal event that names lane `lane` goes to the taps and to the XTRIG lines. An uncorrectable frame
and a group's loss of lock name every lane of the group. -/
def Dev.trigger (d : Dev) (src lane info time : Nat) : Dev :=
  let lanes := if src = 8 ∨ (src = 9 ∧ info / 256 % 256 = 2) then d.groupLanes lane else [lane]
  (d.toTaps 255 src info time false lanes).xtrigEvent src

/-- R140: source `i` of receive lane `n`. -/
def Dev.raiseLane (d : Dev) (n i : Nat) : Dev := d.raise (64 + 8 * n + i)
/-- Source `i` of engine `e`. -/
def Dev.raiseEngine (d : Dev) (e i : Nat) : Dev := d.raise (576 + 8 * e + i)
/-- Source `i` of tile `t`. -/
def Dev.raiseTile (d : Dev) (t i : Nat) : Dev := d.raise (640 + 16 * t + i)

/-- Whether any of some one-bit fields is set. -/
def Dev.any (d : Dev) (fs : List F) (i : Nat) : Bool := fs.any fun f => d.get f i != 0

/-- The event bits of COUR_L_EVENTS. -/
def courEvents : List F := [.COUR_L_EVENTS_RX_MSG, .COUR_L_EVENTS_TX_DONE, .COUR_L_EVENTS_DEAD_LETTER,
  .COUR_L_EVENTS_KNOCK_SEEN, .COUR_L_EVENTS_KNOCK_WAKE, .COUR_L_EVENTS_MAP_REJECT, .COUR_L_EVENTS_DLQ_OVERFLOW,
  .COUR_L_EVENTS_KNOCK_DROPPED]
/-- The event bits of DMA_LINK_EVENTS. -/
def linkEvents : List F := [.DMA_LINK_EVENTS_LINK_DOWN, .DMA_LINK_EVENTS_LINK_UP, .DMA_LINK_EVENTS_SPEED_CHANGE,
  .DMA_LINK_EVENTS_WIDTH_CHANGE, .DMA_LINK_EVENTS_HOT_RESET, .DMA_LINK_EVENTS_FLR, .DMA_LINK_EVENTS_D3HOT]
/-- The event bits of SYS_LS_EVENTS. -/
def lsEvents : List F := [.SYS_LS_EVENTS_STATE_CHANGE, .SYS_LS_EVENTS_INSERTED, .SYS_LS_EVENTS_REMOVED,
  .SYS_LS_EVENTS_READY, .SYS_LS_EVENTS_FAULT, .SYS_LS_EVENTS_INT]
/-- The bits of BIAS_C_EVENTS that drive BIAS_EVENT (R367). -/
def biasEvents : List F := [.BIAS_C_EVENTS_LIMIT_CLAMP, .BIAS_C_EVENTS_COMPLIANCE, .BIAS_C_EVENTS_SINE_REJECT,
  .BIAS_C_EVENTS_DROPPED, .BIAS_C_EVENTS_RELEASE_REFUSED]
/-- The bits of HK_EVENTS that drive HK_EVENT (R387). -/
def hkEvents : List F := [.HK_EVENTS_START_MISSED, .HK_EVENTS_SEQ_ABORT, .HK_EVENTS_LIMIT]

/-- R297: the line of a courier source follows its event bits. -/
def Dev.syncCourier (d : Dev) (n : Nat) : Dev := d.setLine (832 + n) (d.any courEvents n)
/-- R494: the line of hub source 9 follows DMA_LINK_EVENTS. -/
def Dev.syncLink (d : Dev) : Dev := d.setLine 9 (d.any linkEvents 0)
/-- R494: the lines of a DMA queue follow its event bits. -/
def Dev.syncQueue (d : Dev) (q : Nat) : Dev :=
  let d := d.setLine (896 + 4 * q) (d.any [.DMA_Q_EVENTS_DONE] q)
  let d := d.setLine (896 + 4 * q + 1)
    (d.any [.DMA_Q_EVENTS_ERROR, .DMA_Q_EVENTS_POISONED, .DMA_Q_EVENTS_CFG_IGNORED] q)
  let d := d.setLine (896 + 4 * q + 2) (d.any [.DMA_Q_EVENTS_STARVED] q)
  d.setLine (896 + 4 * q + 3) (d.any [.DMA_Q_EVENTS_LATE] q)
/-- The line of a laser-source engine follows SYS_LS_EVENTS. -/
def Dev.syncLaser (d : Dev) (e : Nat) : Dev := d.setLine (576 + 8 * e + 3) (d.any lsEvents e)
/-- R367: the line of a tile's BIAS_EVENT follows the event bits of its channels. -/
def Dev.syncBias (d : Dev) (t : Nat) : Dev :=
  d.setLine (640 + 16 * t + 13) ((List.range 40).any fun c => d.any biasEvents (40 * t + c))
/-- R387: the line of a tile's HK_EVENT follows HK_EVENTS. -/
def Dev.syncHk (d : Dev) (t : Nat) : Dev := d.setLine (640 + 16 * t + 15) (d.any hkEvents t)

end Sys2Proof.Machine
end

