-- ==== Sys2Proof/Machine/Pattern.lean ====
section
/-! DEFINITION. Levels and decision bits (R7), the symbol rates of the line, and the test patterns that the generators send and
the checkers expect (R137, R138, R170 to R172). -/

namespace Sys2Proof.Machine

open Sys2Proof

/-! ## Levels (R7) -/

/-- R7: the decision bits of a level. -/
def gray : Nat → Nat
  | 0 => 0 | 1 => 1 | 2 => 3 | _ => 2

/-- R7: the level of the decision bits. -/
def ungray : Nat → Nat
  | 0 => 0 | 1 => 1 | 3 => 2 | _ => 3

/-- The decision bits of a level, the one that goes first first (R186). -/
def levelBits (a : Nat) : List Bool := [bitAt (gray a) 1, bitAt (gray a) 0]

/-! ## Symbol rates (R122, R181) -/

/-- How many times longer than at L400 a symbol is in a lane mode. -/
def modeScale : Nat → Nat
  | 1 => 1 | 2 => 2 | _ => 4

/-- The POST_TIME units of `k` line symbols, rounded up: 451.5625 Gb/s in two bits a symbol at L400. -/
def lineSpan (mode k : Nat) : Nat := (k * 32768 * modeScale mode + 7224) / 7225

/-- The whole line symbols in `u` POST_TIME units. -/
def lineSymbols (mode u : Nat) : Nat := u * 7225 / (32768 * modeScale mode)

/-! ## Patterns (R137, R170, R172) -/

/-- One step of a shift register of `w` bits whose new bit is the sum of the bits at `taps`; bit t - 1 came t steps ago. -/
def prbsNext (w : Nat) (taps : List Nat) (r : Nat) : Nat :=
  (2 * r + (taps.filter fun t => bitAt r (t - 1)).length % 2) % 2 ^ w

/-- The width and the taps of PRBS13 (pattern 0) and PRBS31 (PRESUMED, log entry 69). -/
def prbsOf : Nat → Nat × List Nat
  | 0 => (13, [1, 2, 12, 13])
  | _ => (31, [28, 31])

/-- R170: bit `n` of a sequence that starts from the all-ones state. -/
def prbsBit (p n : Nat) : Bool :=
  bitAt (Nat.iterate (prbsNext (prbsOf p).1 (prbsOf p).2) n (2 ^ (prbsOf p).1 - 1)) ((prbsOf p).1 - 1)

/-- R172: the level of symbol `s` of the user pattern. -/
def userLevel (words : List Nat) (s : Nat) : Nat := ungray (bitsOf (words.getD (s / 16) 0) (2 * (s % 16) + 1) (2 * (s % 16)))

/-- The symbols after which a pattern starts again; none for a PRBS, whose index reads 0 (R179). -/
def patternPeriod : Nat → Nat
  | 2 => 65535 | 3 => 4096 | _ => 1

/-- R170, R172: the level of symbol `i` of a pattern: 0 PRBS13Q, 1 PRBS31Q, 2 SSPRQ, 3 the user pattern. -/
def patternSymbol (p : Nat) (words : List Nat) (i : Nat) : Nat :=
  if p < 2 then ungray (2 * b2n (prbsBit p (2 * i)) + b2n (prbsBit p (2 * i + 1)))
  else if p = 2 then (Config.ssprq (i % 65535)).val
  else userLevel words (i % 4096)

/-! ## The checker's search (R138) -/

/-- Received bits after the first `w`, which seed the register, all follow it. -/
def prbsFollows (w : Nat) (taps : List Nat) (bits : List Bool) : Bool :=
  ((bits.drop w).foldl (fun (s : Nat × Bool) b =>
    let r := prbsNext w taps s.1
    (r, s.2 && bitAt r 0 == b)) ((bits.take w).foldl (fun r b => 2 * r + b2n b) 0, true)).2

/-- R138: the symbols that a search takes: those that seed a generator or align, and 1,024 without an error. -/
def searchLength : Nat → Nat
  | 0 => 7 + 1024 | 1 => 16 + 1024 | _ => 64 + 1024

/-- R138: the checker locks on the latest of the levels that it has received. -/
def checkerFinds (p : Nat) (words : List Nat) (levels : List Nat) : Bool :=
  let l := levels.drop (levels.length - searchLength p)
  l.length == searchLength p &&
    if p < 2 then
      let bits := (l.map levelBits).flatten
      prbsFollows (prbsOf p).1 (prbsOf p).2 (bits.drop (2 * (if p = 0 then 7 else 16) - (prbsOf p).1))
    else (List.range (patternPeriod p)).any fun a => l == (List.range l.length).map fun i => patternSymbol p words (a + i)

/-- R138: the checker unlocks: 128 or more bit errors in the latest 2,048 symbols. -/
def checkerFails (errors : List (Fin 3)) : Bool :=
  decide (128 ≤ ((errors.drop (errors.length - 2048)).map fun e => e.val).sum)

end Sys2Proof.Machine
end

