-- ==== Sys2Proof/Machine/Squelch.lean ====
section
/-! DEFINITION. The squelch causes of a transmit lane (R162) and the entry to SQUELCH (R167). -/

namespace Sys2Proof.Machine

open Sys2Proof

/-- States of LRX_STATUS.STATE (R119). -/
def rxOFF : Nat := 0
def rxWAIT : Nat := 1
def rxGAIN : Nat := 2
def rxTIMING : Nat := 3
def rxEQUALISE : Nat := 4
def rxLOCKED : Nat := 5
def rxASLEEP : Nat := 6

/-- The state of receive lane `n`. -/
def Dev.rx (d : Dev) (n : Nat) : Nat := d.get .LRX_STATUS_STATE n
/-- The receive lane is LOCKED. -/
def Dev.rxLocked (d : Dev) (n : Nat) : Bool := d.rx n == rxLOCKED
/-- States of LTX_STATUS.OUTPUT. -/
def txSQUELCH : Nat := 0
def txRAMP_UP : Nat := 1
def txON : Nat := 2
def txRAMP_DOWN : Nat := 3

/-- The output state of transmit lane `n`. -/
def Dev.tx (d : Dev) (n : Nat) : Nat := d.get .LTX_STATUS_OUTPUT n

/-- R162 bit 6: WAKE_FAILED of the lane's transmit domain or of one above it, thermal shutdown, or loss of VBIAS. -/
def Dev.txFault (d : Dev) (n : Nat) : Bool :=
  d.dom (domTx n) == pwFAILED || d.ancestorFailed (domTx n) || d.get .THM_SD_STATUS_STATE 0 != 0 ||
    !d.on .BIAS_T_TIMER_VBIAS_OK (tileOf n)

/-- R162: the squelch causes that hold on lane `n`, one bit each. An engine is unused also while no plan is live. -/
def Dev.causes (d : Dev) (n : Nat) : Nat :=
  let e := engineOf n
  let auto := d.lget .LTX_CTRL_AUTO_SQ n
  d.lget .LTX_CTRL_SQUELCH n
    + 2 * b2n (!d.used e || d.get .X_LTX_START e != 0)
    + 4 * b2n (d.lon .LRX_CTRL_ANALOG_LOOP n)
    + 8 * b2n (bitAt auto 0 && d.on .X_LS_ABSENT e)
    + 16 * b2n (bitAt auto 1 && !d.on .LRX_STATUS_LOCKED n)
    + 32 * b2n (bitAt auto 2 && !d.on .HOST_P_STATUS_AM_LOCK n)
    + 64 * b2n (d.txFault n)
    + 128 * b2n (!d.domOn (domTx n))

/-- R162: an immediate cause is among `c`. -/
def hasImmediate (c : Nat) : Bool := bitAt c 1 || bitAt c 2 || bitAt c 3 || bitAt c 6 || bitAt c 7
/-- R162: a ramped cause is among `c`. -/
def hasRamped (c : Nat) : Bool := bitAt c 0 || bitAt c 4 || bitAt c 5

/-- R163: the symbols of a full ramp. -/
def rampSymbols : Nat → Nat
  | 0 => 0 | 1 => 256 | 2 => 1024 | _ => 4096

/-- R163, R164: the ramp gain of lane `n` at elapsed time `t`, in 1/4096. -/
def Dev.gainAt (d : Dev) (n t : Nat) : Nat :=
  let k := d.get .X_LTX_RAMP_N n
  let p := if k = 0 then 4096 else lineSymbols (d.mode (engineOf n)) (t - d.get .X_LTX_RAMP_CLK n) * 4096 / k
  let o := d.tx n
  if o = txRAMP_UP then min 4096 (d.get .X_LTX_RAMP_FROM n + p)
  else if o = txRAMP_DOWN then d.get .X_LTX_RAMP_FROM n - p
  else if o = txON then 4096 else 0

/-- R163: a ramp of lane `n` begins, over the number of symbols that LTX_CTRL.RAMP sets. -/
def Dev.rampBegin (d : Dev) (n out : Nat) : Dev :=
  let d := ((d.set .X_LTX_RAMP_FROM n (d.gainAt n d.clk)).set .X_LTX_RAMP_CLK n d.clk).set .LTX_STATUS_OUTPUT n out
  d.set .X_LTX_RAMP_N n (rampSymbols (d.lget .LTX_CTRL_RAMP n))

/-- R164: an exit ramp is reversed at the gain that it has reached, at the same rate. -/
def Dev.rampReverse (d : Dev) (n : Nat) : Dev :=
  ((d.set .X_LTX_RAMP_FROM n (d.gainAt n d.clk)).set .X_LTX_RAMP_CLK n d.clk).set .LTX_STATUS_OUTPUT n txRAMP_DOWN

/-- The elapsed time at which the ramp of lane `n` ends. -/
def Dev.rampEnd (d : Dev) (n : Nat) : Nat :=
  let left := if d.tx n = txRAMP_UP then 4096 - d.get .X_LTX_RAMP_FROM n else d.get .X_LTX_RAMP_FROM n
  d.get .X_LTX_RAMP_CLK n + lineSpan (d.mode (engineOf n)) ((d.get .X_LTX_RAMP_N n * left + 4095) / 4096)

/-- R162, R164: SQ_CAUSE follows the causes; a ramped cause that appears during an exit ramp reverses it. -/
def Dev.syncTx (d : Dev) (n : Nat) : Dev :=
  let c := d.causes n
  let d := if d.tx n = txRAMP_UP ∧ hasRamped c then d.rampReverse n else d
  d.set .LTX_STATUS_SQ_CAUSE n c

end Sys2Proof.Machine
end

