-- ==== Sys2Proof/Machine/Bias.lean ====
section
/-! DEFINITION. Bias and heater outputs (R343 to R368): targets and limits, update triggers, shaping, the sine generator and
zero scale. -/

namespace Sys2Proof.Machine

open Sys2Proof

/-- R343: the place of device-wide channel `x` among its tile's 40. -/
def biasIx (x : Nat) : Nat :=
  if x < 128 then 40 * (x / 32) + x % 32 else 40 * ((x - 128) / 8) + 32 + (x - 128) % 8
/-- The tile of channel `i`. -/
def biasTile (i : Nat) : Nat := i / 40
/-- The engine whose laser source channel `i` belongs to (R360 bit 0). -/
def biasEngine (i : Nat) : Nat :=
  2 * (i / 40) + (if i % 40 < 32 then i % 40 / 16 else (i % 40 - 32) / 4)

/-- States of BIAS_C_STATUS.STATE (R362). -/
def bcDISABLED : Nat := 0
def bcFORCED : Nat := 1
def bcTRACK : Nat := 2
def bcZERO : Nat := 3

/-- The state of a channel. -/
def Dev.bc (d : Dev) (i : Nat) : Nat := d.get .BIAS_C_STATUS_STATE i
/-- The channel is enabled by the plan. -/
def Dev.biasOn (d : Dev) (i : Nat) : Bool := d.on .BIAS_C_CFG_ENABLE i
/-- LIMIT_LO and LIMIT_HI. -/
def Dev.biasLo (d : Dev) (i : Nat) : Nat := d.get .BIAS_C_LIMIT_LO i
def Dev.biasHi (d : Dev) (i : Nat) : Nat := d.get .BIAS_C_LIMIT_HI i

/-! ## The sine generator (R356 to R358) -/

/-- Units between generator samples at a RATE: 40 REFCLK cycles are 2^18 units. -/
def samplePeriod (rate : Nat) : Nat := 2 ^ (18 + rate)

/-- R356, R358: the tone of a pair lies from 10 kHz to the highest tone of its RATE: 250 kHz at RATE 0, an eighth of the
sample rate at the others. -/
def inBand (inc rate : Nat) : Bool :=
  decide (10000 * 2 ^ rate * 2 ^ 32 ≤ inc * 3906250) &&
    (if rate = 0 then decide (inc * 3906250 ≤ 250000 * 2 ^ 32) else decide (inc ≤ 2 ^ 29))

/-- Generator samples since the accumulator was noted. -/
def Dev.biasSamples (d : Dev) (i : Nat) : Nat :=
  (d.clk - d.get .X_BIAS_ACC_CLK i) / samplePeriod (d.lget .BIAS_C_SINE_RATE i)
/-- The accumulator without its wrap after `k` samples. -/
def Dev.biasAccAt (d : Dev) (i k : Nat) : Nat := d.get .X_BIAS_ACC i + d.lget .BIAS_C_SINE_INC_INC i * k

/-- The sine term is on: the generator runs and has not come to its last zero crossing. -/
def Dev.sineOn (d : Dev) (i : Nat) : Bool :=
  d.get .X_BIAS_SINE i == 1 || (d.get .X_BIAS_SINE i == 2 && decide (d.clk < d.get .X_BIAS_STOP_CLK i))

/-- R357: the sine term is being added. -/
def Dev.sineAdded (d : Dev) (i : Nat) : Bool :=
  d.sineOn i && d.bc i == bcTRACK &&
    decide (d.biasLo i ≤ d.get .BIAS_C_LIVE_LIVE i ∧ d.get .BIAS_C_LIVE_LIVE i ≤ d.biasHi i)

/-- The LIVE code as it stands at the DAC: the deglitcher holds the one before (R354). -/
def Dev.biasBase (d : Dev) (i : Nat) : Nat :=
  if d.on .X_BIAS_HOLD i && decide (d.clk < d.get .X_BIAS_HOLD_CLK i + 150 * ns) then d.get .X_BIAS_HELD i
  else d.get .BIAS_C_LIVE_LIVE i

/-- The code after the sine term of an accumulator value, before the clamp. -/
def Dev.biasRaw (d : Dev) (i acc : Nat) : Int := d.biasBase i + sineTerm (d.lget .BIAS_C_SINE_AMP i) (acc % 2 ^ 32)

/-- R357: OUTPUT. -/
def Dev.biasOutput (d : Dev) (i : Nat) : Nat :=
  if d.sineAdded i then
    (clampI (d.biasLo i) (d.biasHi i) (d.biasRaw i (d.biasAccAt i (d.biasSamples i)))).toNat
  else d.biasBase i

/-- R357: the samples since the latest look that the clamp changes set LIMIT_CLAMP. -/
def Dev.watchSine (i : Nat) (d : Dev) : Dev :=
  let p := samplePeriod (d.lget .BIAS_C_SINE_RATE i)
  let k0 := (max (d.get .X_BIAS_SEEN i) (d.get .X_BIAS_ACC_CLK i) - d.get .X_BIAS_ACC_CLK i) / p
  let bad := d.sineAdded i && (List.range (d.biasSamples i + 1 - k0)).any fun j =>
    let v := d.biasRaw i (d.biasAccAt i (k0 + j))
    decide (v < d.biasLo i ∨ d.biasHi i < v)
  let d := d.set .X_BIAS_SEEN i d.clk
  if bad then (d.set .BIAS_C_EVENTS_LIMIT_CLAMP i 1).syncBias (biasTile i) else d

/-- The accumulator is noted anew at the latest generator sample, so that other settings go on from it. -/
def Dev.noteAcc (d : Dev) (i : Nat) : Dev :=
  let k := d.biasSamples i
  (d.set .X_BIAS_ACC i (d.biasAccAt i k % 2 ^ 32)).set .X_BIAS_ACC_CLK i
    (d.get .X_BIAS_ACC_CLK i + k * samplePeriod (d.lget .BIAS_C_SINE_RATE i))

/-- R358: EN has gone to 0: the elapsed time of the first sample at which the accumulator reaches 0 or wraps past it. -/
def Dev.stopTime (d : Dev) (i : Nat) : Nat :=
  let inc := d.lget .BIAS_C_SINE_INC_INC i
  let n := d.biasAccAt i (d.biasSamples i) / 2 ^ 32 + 1
  let k := (n * 2 ^ 32 - d.get .X_BIAS_ACC i + inc - 1) / inc
  d.get .X_BIAS_ACC_CLK i + k * samplePeriod (d.lget .BIAS_C_SINE_RATE i)

/-- SINE_REJECT. -/
def Dev.sineReject (d : Dev) (i : Nat) : Dev := (d.set .BIAS_C_EVENTS_SINE_REJECT i 1).syncBias (biasTile i)

/-- R358: the sine settings at an update trigger in TRACK. The sine of a channel with EN 1 starts at the first trigger with
an in-band pair, also after a cause of R360 has stopped it (log entry 17). -/
def Dev.sineTrigger (d : Dev) (i : Nat) : Dev :=
  let inc := d.get .BIAS_C_SINE_INC_INC i
  let rate := d.get .BIAS_C_SINE_RATE i
  let fresh := d.on .X_BIAS_NEW i
  let ok := inBand inc rate
  let changed := decide (inc ≠ d.lget .BIAS_C_SINE_INC_INC i ∨ rate ≠ d.lget .BIAS_C_SINE_RATE i)
  let d := (Dev.watchSine i d).noteAcc i
  let d := (d.set .X_BIAS_NEW i 0).lset .BIAS_C_SINE_AMP i (d.get .BIAS_C_SINE_AMP i)
  let d := if ok then (d.lset .BIAS_C_SINE_INC_INC i inc).lset .BIAS_C_SINE_RATE i rate
    else if fresh && changed then d.sineReject i else d
  if d.on .BIAS_C_SINE_EN i then
    if d.sineOn i then d.set .X_BIAS_SINE i 1
    else if ok then ((d.set .X_BIAS_SINE i 1).set .X_BIAS_ACC i 0).set .X_BIAS_ACC_CLK i d.clk
    else if fresh then d.sineReject i
    else d
  else if d.get .X_BIAS_SINE i = 1 then
    if d.get .X_BIAS_ACC i = 0 then d.set .X_BIAS_SINE i 0
    else (d.set .X_BIAS_STOP_CLK i (d.stopTime i)).set .X_BIAS_SINE i 2
  else d

/-! ## Targets and triggers (R348 to R354) -/

/-- R348: a target within the limits; a disabled channel has none (R366). -/
def Dev.clampTarget (d : Dev) (i v : Nat) : Nat :=
  if v = 0 ∨ !d.biasOn i then v else clampN (d.biasLo i) (d.biasHi i) v

/-- R348: TARGET takes a value, clamped; a clamp sets LIMIT_CLAMP. -/
def Dev.putTarget (d : Dev) (i v : Nat) : Dev :=
  let c := d.clampTarget i v
  let d := d.set .BIAS_C_TARGET_TARGET i c
  if c = v then d else (d.set .BIAS_C_EVENTS_LIMIT_CLAMP i 1).syncBias (biasTile i)

/-- R349: the target that an update trigger uses: a driver write counts from two REFCLK cycles after its acceptance. -/
def Dev.targetInForce (d : Dev) (i : Nat) : Nat :=
  if d.get .X_BIAS_TCLK i ≠ 0 ∧ d.clk < d.get .X_BIAS_TCLK i + 13106 then d.get .X_BIAS_TOLD i
  else d.get .BIAS_C_TARGET_TARGET i

/-- R350: a ledger move of a signed step. -/
def Dev.ledgerMove (d : Dev) (i : Nat) (v : Int) : Dev :=
  let d := d.putTarget i (clampI 0 65535 (d.get .BIAS_C_TARGET_TARGET i + v)).toNat
  d.set .X_BIAS_LEDG i (d.clk + 1)

/-- R350, R412: the ledger moves of this REFCLK cycle to channel `i` are lost and do not count against their envelopes. -/
def Dev.ledgerUndo (d : Dev) (i : Nat) : Dev :=
  Dev.each 16 (fun l d =>
    let n := 16 * biasTile i + l
    Dev.each 2 (fun a d =>
      let ch := d.get (if a = 0 then .LEDG_L_CFG_BIAS_CH else .LEDG_L_CFG_HEATER_CH) n
      if ch = i % 40 ∧ d.get .X_LG_B_CLK (2 * n + a) = d.clk + 1 then
        d.set .X_LG_B_DISP (2 * n + a)
          (ux 32 (sx 32 (d.get .X_LG_B_DISP (2 * n + a)) - sx 32 (d.get .X_LG_B_MOVE (2 * n + a))))
      else d) d) d

/-- R354: LIVE after an update trigger. -/
def slewCode (live target step : Nat) : Nat :=
  if live ≤ target then live + min (target - live) step else live - min (live - target) step

/-- R355, R419: the live gain trim, 2^-16, and offset trim, codes, of a channel. -/
def Dev.biasGain (d : Dev) (i : Nat) : Int := sx 16 (d.lget .CAL_TRIM_WORD (64 * (132 + biasTile i) + i % 40))
def Dev.biasOffset (d : Dev) (i : Nat) : Int := sx 8 (d.lget .CAL_TRIM_WORD (64 * (132 + biasTile i) + i % 40) / 65536)

/-- R355: what the live trims call for beside LIVE; nothing at zero scale. -/
def Dev.trimGoal (d : Dev) (i : Nat) : Int :=
  let x := d.get .BIAS_C_LIVE_LIVE i * d.biasGain i
  if d.get .BIAS_C_LIVE_LIVE i = 0 then 0
  else (if (Config.rounding 15).val = 0 then x / 65536 else (x + 32768) / 65536) + d.biasOffset i

/-- R355: the trims are applied at an update trigger, through the shaping stage: by STEP at most with the slew limiter (DEDUCED,
log entry 76). LIVE and TARGET stay. -/
def Dev.applyTrims (d : Dev) (i : Nat) : Dev :=
  let now := sx 20 (d.get .X_BIAS_CORR i)
  let step : Int := d.get .BIAS_C_CFG_STEP i
  d.set .X_BIAS_CORR i (ux 20 (if d.on .BIAS_C_CFG_SHAPE i then d.trimGoal i else clampI (now - step) (now + step) (d.trimGoal i)))

/-- R344, R355: the code that the DAC converts: OUTPUT with the trims, and 0 at zero scale (R360). -/
def Dev.biasDac (d : Dev) (i : Nat) : Nat :=
  if d.biasOutput i = 0 then 0 else (clampI 0 65535 (d.biasOutput i + sx 20 (d.get .X_BIAS_CORR i))).toNat

/-- R344: full scale, in µV for a voltage output and in nA for a current output. -/
def fullScale (current range : Bool) : Nat :=
  if current then (if range then 24000000 else 6000000) else (if range then 3000000 else 1500000)

/-- R344: the output value in 1/65536 µV or nA: code/65536 of full scale. -/
def Dev.biasPin (d : Dev) (i : Nat) : Nat :=
  d.biasDac i * fullScale (d.on .BIAS_C_CFG_FUNCTION i) (d.on .BIAS_C_CFG_RANGE i)

/-- R352, R354, R355, R358: an update trigger of a channel. Only in TRACK, with the domain ON, does it move LIVE. -/
def Dev.updateTrigger (i : Nat) (d : Dev) : Dev :=
  if d.bc i = bcTRACK ∧ d.domOn (domHk (biasTile i)) then
    let d := d.sineTrigger i
    let live := d.get .BIAS_C_LIVE_LIVE i
    let tgt := d.targetInForce i
    if d.on .BIAS_C_CFG_SHAPE i then
      let d := d.set .BIAS_C_LIVE_LIVE i tgt
      if live / 4096 ≠ tgt / 4096 then
        (((d.set .X_BIAS_HOLD i 1).set .X_BIAS_HELD i live).set .X_BIAS_HOLD_CLK i d.clk).applyTrims i
      else d.applyTrims i
    else (d.set .BIAS_C_LIVE_LIVE i (slewCode live tgt (d.get .BIAS_C_CFG_STEP i))).applyTrims i
  else d

/-- The period of a tile timer. -/
def Dev.timerPeriod (d : Dev) (t : Nat) : Nat := 2 ^ (20 + d.get .BIAS_T_TIMER_P t)

/-- POST_TIME at which a tile timer fires next. -/
def Dev.timerDue (d : Dev) (t : Nat) : Nat :=
  if d.get .X_BIAS_DUE t = 0 then (d.now / d.timerPeriod t + 1) * d.timerPeriod t else d.get .X_BIAS_DUE t

/-- R353: after a step, a set or a change of p, the timer fires next at the first multiple of its period at least half a
period after the alignment. -/
def Dev.alignTimer (t : Nat) (d : Dev) : Dev :=
  if d.on .X_BIAS_REALIGN t then
    let p := d.timerPeriod t
    (d.set .X_BIAS_REALIGN t 0).set .X_BIAS_DUE t (((d.now + p / 2 + p - 1) / p * p) % 2 ^ 64)
  else d.set .X_BIAS_DUE t (d.timerDue t)

/-- R353: POST_TIME has moved by a step or set: each timer goes on by its own count until it is aligned. `v0` is POST_TIME
before. -/
def Dev.timersStepped (d : Dev) (v0 : Nat) : Dev :=
  Dev.each 4 (fun t d =>
    let due := if d.get .X_BIAS_DUE t = 0 then (v0 / d.timerPeriod t + 1) * d.timerPeriod t else d.get .X_BIAS_DUE t
    (d.set .X_BIAS_DUE t ((due + 2 ^ 64 - v0 + d.now) % 2 ^ 64)).set .X_BIAS_REALIGN t 1) d

/-- R45, R46, R353: category 5 of a tick in tile `t`. Under overrun nothing of it is done. -/
def Dev.biasTick (done : Bool) (t : Nat) (d : Dev) : Dev :=
  let d := Dev.each 40 (fun c d => Dev.watchSine (40 * t + c) d) d
  if done then
    Dev.each 40 (fun c d => if d.on .BIAS_C_CFG_TRIGGER (40 * t + c) then Dev.updateTrigger (40 * t + c) d else d)
      (Dev.alignTimer t d)
  else d

/-! ## Zero scale (R360 to R364) -/

/-- LIVE 0, the sine stopped, nothing held. -/
def Dev.zeroScale (d : Dev) (i : Nat) : Dev :=
  d.setAll [.BIAS_C_LIVE_LIVE, .X_BIAS_SINE, .X_BIAS_HOLD, .X_BIAS_ACC, .X_BIAS_CORR] i 0

/-- The channel enters ZERO. -/
def Dev.enterZero (d : Dev) (i : Nat) : Dev :=
  (((d.zeroScale i).set .BIAS_C_STATUS_STATE i bcZERO).set .BIAS_C_EVENTS_ZEROED i 1).raiseTile (biasTile i) 12

/-- R360, R362: a cause latches on an enabled channel. -/
def Dev.latchZero (b i : Nat) (d : Dev) : Dev :=
  if d.biasOn i && d.bc i != bcDISABLED then
    let d := d.orBits .BIAS_C_STATUS_ZERO_CAUSE i (2 ^ b)
    if d.bc i = bcTRACK then d.enterZero i else d
  else d

/-- A cause latches on every enabled channel for which `p` holds. -/
def Dev.latchZeros (d : Dev) (b : Nat) (p : Nat → Bool) : Dev :=
  Dev.each 160 (fun i d => if p i then Dev.latchZero b i d else d) d

/-- R360: which of the causes hold now. An overload cannot hold at zero scale. -/
def Dev.zeroHolds (d : Dev) (i : Nat) : Nat → Bool
  | 0 => !d.on .SYS_LS_STATUS_PRESENT (biasEngine i)
  | 2 => !d.on .BIAS_T_TIMER_VBIAS_OK (biasTile i)
  | 3 => d.get .THM_SD_STATUS_STATE 0 != 0
  | 4 => d.dom (domHk (biasTile i)) == pwFAILED || d.ancestorFailed (domHk (biasTile i))
  | _ => false

/-- R362: a channel restart. -/
def Dev.biasRestart (d : Dev) (i : Nat) : Dev :=
  let d := (d.zeroScale i).set .BIAS_C_STATUS_COMPLIANCE i 0
  (d.set .BIAS_C_STATUS_STATE i bcFORCED).set .X_BIAS_FZ_CLK i d.clk

/-- R362: the plan disables the channel, or no plan is live. -/
def Dev.biasOff (d : Dev) (i : Nat) (clear : Bool) : Dev :=
  let d := ((d.zeroScale i).set .BIAS_C_STATUS_COMPLIANCE i 0).set .BIAS_C_STATUS_STATE i bcDISABLED
  if clear then d.set .BIAS_C_STATUS_ZERO_CAUSE i 0 else d

/-- R365: whether the bias block of tile `t` refuses an entry to HOLD, or to a deeper state. A DISABLED channel drives nothing and
refuses nothing (DEDUCED, log entry 79). -/
def Dev.biasRefuses (d : Dev) (t : Nat) (hold : Bool) : Bool :=
  (List.range 40).any fun c =>
    let i := 40 * t + c
    if hold then
      d.bc i == bcFORCED || d.sineOn i ||
        (d.bc i != bcDISABLED && d.get .BIAS_C_LIVE_LIVE i != d.get .BIAS_C_TARGET_TARGET i)
    else d.biasOn i && d.get .BIAS_C_LIVE_LIVE i != 0

/-- VBIAS_OK follows VBIAS in every tile, and the transmit lanes follow it. -/
def Dev.setVbias (d : Dev) (ok : Bool) : Dev :=
  Dev.each 64 (fun n d => d.syncTx n) (d.setEach .BIAS_T_TIMER_VBIAS_OK (List.range 4) (b2n ok))

/-! ## Commands -/

/-- R348 to R350: a driver write of TARGET. -/
def Dev.biasWrite (d : Dev) (i v : Nat) : Dev :=
  let lost := d.get .X_BIAS_LEDG i == d.clk + 1
  let d := (d.set .X_BIAS_TOLD i (d.targetInForce i)).set .X_BIAS_TCLK i d.clk
  let d := d.putTarget i v
  if lost then
    let d := (d.set .BIAS_C_EVENTS_DROPPED i 1).addSat .BIAS_C_EVENTS_DROP_COUNT i 1
    ((d.set .X_BIAS_LEDG i 0).ledgerUndo i).syncBias (biasTile i)
  else d

/-- BIAS_TARGET_WRITE (R348 to R350): device-wide channel `x`. -/
def execBiasTargetWrite (x : Fin 160) (v : BitVec 16) (s : State) : Host.Outcome State Fault Refusal :=
  s.run fun d => d.biasWrite (biasIx x) v.toNat

/-- BIAS_UPDATE_TRIGGER (R352, R353): the timer of tile `t` fires, an update trigger of its timer channels. -/
def execBiasUpdateTrigger (t : Fin 4) (s : State) : Host.Outcome State Fault Refusal :=
  s.run fun d =>
    let due := d.timerDue t
    d.onTime (d.clk + (due - d.now)) fun d =>
      let p := d.timerPeriod t
      let d := d.set .X_BIAS_DUE t (due + p * ((d.now - due) / p + 1))
      Dev.each 40 (fun c d => if d.on .BIAS_C_CFG_TRIGGER (40 * t + c) then d else Dev.updateTrigger (40 * t + c) d) d

/-- DEGLITCH_RELEASE (R354). -/
def execDeglitchRelease (x : Fin 160) (s : State) : Host.Outcome State Fault Refusal :=
  s.run fun d =>
    let i := biasIx x
    if d.on .X_BIAS_HOLD i then d.onTime (d.get .X_BIAS_HOLD_CLK i + 150 * ns) fun d => d.set .X_BIAS_HOLD i 0 else d

/-- SINE_STOP (R358). -/
def execSineStop (x : Fin 160) (s : State) : Host.Outcome State Fault Refusal :=
  s.run fun d =>
    let i := biasIx x
    if d.get .X_BIAS_SINE i = 2 then
      d.onTime (d.get .X_BIAS_STOP_CLK i) fun d => (d.set .X_BIAS_SINE i 0).set .X_BIAS_ACC i 0
    else d

/-- R563: a channel with ZERO_ON_LS whose laser source is absent latches cause bit 0 when it leaves FORCED_ZERO. -/
def Dev.restartCause (d : Dev) (i : Nat) : Dev :=
  if d.on .BIAS_C_CFG_ZERO_ON_LS i && d.zeroHolds i 0 then d.orBits .BIAS_C_STATUS_ZERO_CAUSE i 1 else d

/-- R362: the channel leaves FORCED_ZERO, for TRACK, or for ZERO with a cause latched. -/
def Dev.leaveForced (i : Nat) (d : Dev) : Dev :=
  let d := d.restartCause i
  if d.get .BIAS_C_STATUS_ZERO_CAUSE i = 0 then d.set .BIAS_C_STATUS_STATE i bcTRACK else d.enterZero i

/-- FORCED_ZERO_END (R362, R563). -/
def execForcedZeroEnd (x : Fin 160) (s : State) : Host.Outcome State Fault Refusal :=
  s.run fun d =>
    let i := biasIx x
    if d.bc i = bcFORCED then d.onTime (d.get .X_BIAS_FZ_CLK i + 20 * us) (Dev.leaveForced i) else d

/-- BIAS_OVERLOAD (R360): the load current of a voltage-mode channel has been beyond its limit for 10 µs. -/
def execBiasOverload (x : Fin 160) (s : State) : Host.Outcome State Fault Refusal :=
  s.run fun d => if d.on .BIAS_C_CFG_FUNCTION (biasIx x) then d else Dev.latchZero 1 (biasIx x) d

/-- VBIAS_LOW (R360). -/
def execVbiasLow (s : State) : Host.Outcome State Fault Refusal :=
  s.run fun d => (d.latchZeros 2 fun _ => true).setVbias false

/-- VBIAS_RECOVERED (R360). -/
def execVbiasRecovered (s : State) : Host.Outcome State Fault Refusal :=
  s.run fun d => d.setVbias true

/-- COMPLIANCE (R361): a current-mode channel goes out of compliance, or comes back. -/
def execCompliance (x : Fin 160) (out : Bool) (s : State) : Host.Outcome State Fault Refusal :=
  s.run fun d =>
    let i := biasIx x
    if d.biasOn i && d.on .BIAS_C_CFG_FUNCTION i then
      let was := d.on .BIAS_C_STATUS_COMPLIANCE i
      let d := d.set .BIAS_C_STATUS_COMPLIANCE i (b2n out)
      if out && !was then (d.set .BIAS_C_EVENTS_COMPLIANCE i 1).syncBias (biasTile i) else d
    else d

/-- BIAS_RELEASE (R362). -/
def execBiasRelease (x : Fin 160) (s : State) : Host.Outcome State Fault Refusal :=
  s.run fun d =>
    let i := biasIx x
    if d.bc i = bcZERO then
      let m := d.get .BIAS_C_STATUS_ZERO_CAUSE i
      if (List.range 5).any fun b => bitAt m b && d.zeroHolds i b then
        (d.set .BIAS_C_EVENTS_RELEASE_REFUSED i 1).syncBias (biasTile i)
      else (d.set .BIAS_C_STATUS_ZERO_CAUSE i 0).set .BIAS_C_STATUS_STATE i bcTRACK
    else d

/-- BIAS_CLEAR_STATS (R368). -/
def execBiasClearStats (x : Fin 160) (s : State) : Host.Outcome State Fault Refusal :=
  s.run fun d => d.set .BIAS_C_EVENTS_DROP_COUNT (biasIx x) 0

end Sys2Proof.Machine
end

