-- ==== Sys2Proof/Machine/Crc.lean ====
section
/-! DEFINITION. The two cyclic redundancy checks of the spec: CRC-32 of the IEEE 802.3 frame check sequence (R65) and
the CRC-16 of R267 and R589. -/

namespace Sys2Proof.Machine

open Sys2Proof

/-- One bit of the CRC-32 register, least significant end first. -/
def crc32Bit (r : Word) : Word := if r.getLsbD 0 then (r >>> 1) ^^^ 0xEDB88320#32 else r >>> 1

/-- One byte into the CRC-32 register. -/
def crc32Byte (r : Word) (b : Byte) : Word :=
  crc32Bit (crc32Bit (crc32Bit (crc32Bit (crc32Bit (crc32Bit (crc32Bit (crc32Bit (r ^^^ b.setWidth 32))))))))

/-- R65: the CRC-32 of a list of bytes. -/
def crc32 (bs : List Byte) : Word := ~~~(bs.foldl crc32Byte 0xFFFFFFFF#32)

/-- One data bit into the CRC-16 register x^16 + x^12 + x^5 + 1. -/
def crc16Bit (r : BitVec 16) (b : Bool) : BitVec 16 :=
  if r.getMsbD 0 != b then (r <<< 1) ^^^ 0x1021#16 else r <<< 1

/-- R267: the CRC-16 of a list of bits, from 0xFFFF and with no final inversion. -/
def crc16 (bits : List Bool) : BitVec 16 := bits.foldl crc16Bit 0xFFFF#16

/-- The low `k` bits of `n`, bit 0 first. -/
def bitList (k n : Nat) : List Bool := (List.range k).map fun i => bitAt n i

/-- The bits of a list of bytes, each least significant bit first. -/
def bitsOfBytes (bs : List Byte) : List Bool := (bs.map fun b => bitList 8 b.toNat).flatten

/-- The CRC field whose bit `i` is CRC bit 15 - i (R267). -/
def crcField (c : BitVec 16) : Nat := c.reverse.toNat

end Sys2Proof.Machine
end

