-- ==== Sys2Proof/Machine/Courier.lean ====
section
/-! DEFINITION. The courier channel (R257 to R299): submission, quarantine, copies, reception, the dead-letter queue,
link quality and the knock. -/

namespace Sys2Proof.Machine

open Sys2Proof

/-- States of COUR_L_STATUS.RX_STATE (R280). -/
def crOFF : Nat := 0
def crIDLE : Nat := 1
def crHEADER : Nat := 2
def crPAYLOAD : Nat := 3
/-- TX_STATE codes that the transmitter holds; WAIT, IDLE and GAP follow from readiness and time (R298). -/
def ctSENDING : Nat := 2
def ctGAP : Nat := 3
def ctKNOCK : Nat := 4

/-- `k` courier symbols of 7.3728 µs in POST_TIME units, rounded up (R258). -/
def symbols (k : Nat) : Nat := (k * 37748736 + 4) / 5

/-- R272: what cuts a copy short when it stops holding. In analogue loopback the lane sends to itself while its balls present
squelch (R92 codes C and S). -/
def Dev.courLine (d : Dev) (n : Nat) : Bool :=
  (d.tx n == txON || (d.lon .LRX_CTRL_ANALOG_LOOP n && d.get .LTX_STATUS_SQ_CAUSE n == 4)) && d.get .LTX_STATUS_SOURCE n != 1 && d.lget .LTX_COUR_DEPTH n != 0
/-- R272: the transmitter is ready. -/
def Dev.courReady (d : Dev) (n : Nat) : Bool := d.courLine n && d.lon .COUR_L_CTRL_TX_EN n && !d.lon .COUR_L_CTRL_TX_HOLD n

/-! ## Maps and modes (R262 to R264) -/

/-- The bits of a constellation code. -/
def codeBits : Nat → Nat
  | 1 => 1 | 2 => 2 | 3 => 4 | 4 => 6 | _ => 0

/-- The eight codes of a map word, lowest sub-carrier first. -/
def wordCodes (w : Nat) : List Nat := (List.range 8).map fun c => w / 16 ^ c % 16
/-- The bits that a map carries in a symbol. -/
def mapBits (ws : List Nat) : Nat := ((ws.map fun w => ((wordCodes w).map codeBits).sum)).sum
/-- R263: a map holds a reserved code. -/
def mapReserved (ws : List Nat) : Bool := ws.any fun w => (wordCodes w).any fun c => decide (5 ≤ c)
/-- The live words of a map. -/
def Dev.mapLive (d : Dev) (f : F) (n : Nat) : List Nat := (List.range 12).map fun i => d.lget f (12 * n + i)
/-- The staged words of a map. -/
def Dev.mapStaged (d : Dev) (f : F) (n : Nat) : List Nat := (List.range 12).map fun i => d.get f (12 * n + i)

/-- R264: the bits per symbol of a mode, for mode 0 and 1 those of the map given; 0 for a reserved mode. -/
def modeBits (mode : Nat) (a b : List Nat) : Nat :=
  match mode with
  | 0 => mapBits a
  | 1 => mapBits b
  | 2 => 96
  | 3 => 48
  | 4 => 24
  | _ => 0

/-- R268: the payload symbols of a message of `len` bytes at `b` bits per symbol in a mode. -/
def payloadSymbols (mode b len : Nat) : Nat :=
  if mode = 4 then 2 * ((8 * len + 32 + 47) / 48) else (8 * len + 32 + (b - 1)) / b

/-! ## Message memory and the dead-letter queue (R285 to R287, R299) -/

/-- The offset of transmit slot `s` of lane `n`. -/
def txBuf (n s : Nat) : Nat := 0x800 * (8 * n + s)
/-- The offset of receive slot `s` of lane `n`. -/
def rxBuf (n s : Nat) : Nat := 0x800 * (8 * n + 4 + s)
/-- The offset of dead-letter buffer `b`. -/
def dlBuf (b : Nat) : Nat := 0x800 * (512 + b)

/-- R287: the descriptor shows the oldest dead letter; with the queue empty it keeps showing the last one. -/
def Dev.showDlq (d : Dev) : Dev :=
  let d := d.set .COUR_DLQ_STATUS_COUNT 0 d.dlq.length
  match d.dlq with
  | [] => d
  | e :: _ =>
    let d := (d.set .COUR_DLQ_STATUS_HEAD 0 e.buf).set .COUR_DLQ_DESC0_LANE 0 e.lane
    let d := (d.set .COUR_DLQ_DESC0_DIR 0 (b2n e.recv)).set .COUR_DLQ_DESC0_REASON 0 e.reason
    let d := (d.set .COUR_DLQ_DESC0_ID 0 e.id).set .COUR_DLQ_DESC0_GEN 0 e.gen
    let d := (d.set .COUR_DLQ_DESC0_MODE 0 e.mode).set .COUR_DLQ_DESC1_LEN 0 e.len
    (d.set .COUR_DLQ_DESC1_BUF 0 e.buf).set .COUR_DLQ_DESC2_TIME 0 e.time

/-- Dead-letter buffers that no entry uses. -/
def Dev.freeBufs (d : Dev) : List Nat := (List.range 64).filter fun b => !(d.dlq.any fun e => decide (e.buf = b))

/-- R285, R286: a message enters the dead-letter queue. The buffer it takes is one of the free ones, the spec does not
say which (log entry 11). -/
def Dev.deadLetter (d : Dev) (lane : Nat) (recv : Bool) (reason id gen len mode : Nat) (bytes : List Byte) : Dev :=
  if 64 ≤ d.dlq.length then
    ((d.addSat .COUR_DLQ_STATUS_OVERFLOWS 0 1).set .COUR_L_EVENTS_DLQ_OVERFLOW lane 1).syncCourier lane
  else
    let b := d.freeBufs.getD (d.draw 1 % d.freeBufs.length) 0
    let d := d.drawn
    let d := { d with dlq := d.dlq ++ [(⟨lane, recv, reason, id, gen, len, mode, b, d.now⟩ : DeadLetter)],
                      cmem := d.cmem.writeBytes (dlBuf b) bytes }
    (d.showDlq.set .COUR_L_EVENTS_DEAD_LETTER lane 1).syncCourier lane

/-! ## Transmitting (R269 to R277) -/

/-- R274: a message is done; its slot is free. -/
def Dev.msgDone (d : Dev) (m : CourMsg) (sent : Bool) : Dev :=
  let d := d.set .COUR_TX_SLOTS_BUSY m.lane (clearBit (d.get .COUR_TX_SLOTS_BUSY m.lane) m.slot)
  let d := d.orBits (if sent then .COUR_TX_DONE_SENT else .COUR_TX_DONE_DEAD) m.lane (2 ^ m.slot)
  (d.set .COUR_L_EVENTS_TX_DONE m.lane 1).syncCourier m.lane

/-- R274, R277: a message goes to the dead-letter queue. -/
def Dev.msgDead (d : Dev) (m : CourMsg) (reason : Nat) : Dev :=
  (d.deadLetter m.lane false reason m.id m.gen m.len m.mode (d.cmem.readBytes (txBuf m.lane m.slot) m.len)).msgDone m false

/-- R271: whether an ID of a lane is still in quarantine by its own record, and the time left. -/
def Dev.quarLeft (d : Dev) (n id : Nat) : Nat :=
  ((d.quar.filter fun q => decide (q.lane = n ∧ q.id = id)).map fun q => q.at_ + 100 * ms - d.clk).foldl max 0

/-- R271: the time left of the lane's blanket quarantine once its transmitter has been ready. -/
def Dev.quarAllLeft (d : Dev) (n : Nat) : Nat :=
  if d.on .COUR_L_STATUS_QUARANTINE_ALL n then d.get .X_COUR_READY_CLK n + 100 * ms - d.clk else 0

/-- R269 to R271: the outcome of a submission and the quarantine left in ms. Of several grounds for refusal the lowest
STATUS is given (log entry 12). -/
def Dev.submitCheck (d : Dev) (n slot mode id len : Nat) : Nat × Nat :=
  let blanket := d.on .COUR_L_STATUS_QUARANTINE_ALL n && !d.on .X_COUR_READY n
  let left := max (d.quarLeft n id) (d.quarAllLeft n)
  if bitAt (d.get .COUR_TX_SLOTS_BUSY n) slot then (1, 0)
  else if len = 0 ∨ 2048 < len then (2, 0)
  else if blanket then (3, 127)
  else if left ≠ 0 then (3, (left + ms - 1) / ms)
  else if modeBits mode (d.mapLive .COUR_TXMAP_A_CODES n) (d.mapLive .COUR_TXMAP_B_CODES n) = 0 then (4, 0)
  else if !d.lon .COUR_L_CTRL_TX_EN n || !d.used (engineOf n) then (5, 0)
  else (0, 0)

/-- R270: the generation that follows the last one given to an ID of a lane. -/
def Dev.nextGen (d : Dev) (n id : Nat) : Nat :=
  match d.gens.find? fun g => decide (g.lane = n ∧ g.id = id) with
  | none => 0
  | some g => (g.gen + 1) % 4

/-- R269, R270: a submission. -/
def Dev.submit (d : Dev) (n slot mode id len rep : Nat) : Dev :=
  let r := d.submitCheck n slot mode id len
  let d := (d.set .COUR_TX_RESULT_STATUS n r.1).set .COUR_TX_RESULT_SLOT n slot
  let d := (d.set .COUR_TX_RESULT_QUAR_LEFT n r.2).set .COUR_TX_RESULT_GEN n 0
  if r.1 = 0 then
    let g := d.nextGen n id
    let other := fun (q : CourId) => !decide (q.lane = n ∧ q.id = id)
    let d := { d with gens := ⟨n, id, g, d.clk⟩ :: d.gens.filter other,
                      quar := ⟨n, id, g, d.clk⟩ :: d.quar.filter other,
                      msgs := d.msgs ++ [(⟨n, slot, id, g, len, mode, rep + 1, d.clk, d.clk, 0, 0, false, []⟩ : CourMsg)] }
    ((d.set .COUR_TX_RESULT_GEN n g).orBits .COUR_TX_SLOTS_BUSY n (2 ^ slot)).wake (domTx n) 6
  else d

/-- The transmitter sends nothing and the gap has passed. -/
def Dev.courFree (d : Dev) (n : Nat) : Bool :=
  d.get .COUR_L_STATUS_TX_STATE n == 0 && decide (d.get .X_COUR_GAP_END n ≤ d.clk)

/-- R272 to R274: the oldest eligible message of a lane: the one that joined the queue, or joined it again, first. -/
def Dev.courNext (d : Dev) (n : Nat) : Option CourMsg :=
  (d.msgs.filter fun m => decide (m.lane = n ∧ m.eligible ≤ d.clk ∧ d.clk < m.accepted + 50 * ms)).foldl (fun b m =>
    match b with
    | none => some m
    | some x => if m.eligible < x.eligible then some m else b) none

/-- The message of a lane whose copy is on the line. -/
def Dev.courSending (d : Dev) (n : Nat) : Option CourMsg := d.msgs.find? fun m => decide (m.lane = n) && m.sending

/-- Every message but that of one slot of a lane. -/
def dropSlot (l : List CourMsg) (n slot : Nat) : List CourMsg := l.filter fun m => !decide (m.lane = n ∧ m.slot = slot)

/-- R272, R276: a copy starts. -/
def Dev.copyStart (d : Dev) (n : Nat) : Dev :=
  if d.courReady n && d.courFree n && !d.on .COUR_TX_SLOTS_KNOCK_PENDING n then
    match d.courNext n with
    | none => d
    | some m =>
      let map := d.mapLive (if m.mode = 1 then .COUR_TXMAP_B_CODES else .COUR_TXMAP_A_CODES) n
      let d := { d with msgs := { m with sending := true, start := d.clk, map := map } :: dropSlot d.msgs n m.slot }
      (d.set .COUR_TX_SLOTS_SENDING n (m.slot + 1)).set .COUR_L_STATUS_TX_STATE n ctSENDING
  else d

/-- R273, R274: a copy completes. -/
def Dev.copyDone (d : Dev) (n : Nat) : Dev :=
  match d.courSending n with
  | none => d
  | some m =>
    let d := ((d.addSat .COUR_L_TX_SENT_COUNT n 1).set .COUR_TX_SLOTS_SENDING n 0).set .COUR_L_STATUS_TX_STATE n 0
    let d := d.set .X_COUR_GAP_END n (d.clk + symbols 1)
    let rest := dropSlot d.msgs n m.slot
    if m.left ≤ 1 ∨ m.accepted + 50 * ms ≤ d.clk ∨ d.lget .COUR_L_CTRL_TX_EN n = 0 ∨ d.mode (engineOf n) = 0 then
      ({ d with msgs := rest }).msgDone m true
    else { d with msgs := rest ++ [{ m with left := m.left - 1, copies := m.copies + 1, sending := false,
                                            eligible := m.start + ms }] }

/-- R275: a copy cut short: its message returns to the head of the queue; past its lifetime it is done (R274). -/
def Dev.copyCut (d : Dev) (n : Nat) : Dev :=
  match d.courSending n with
  | none => d
  | some m =>
    let d := ((d.addSat .COUR_L_TX_REQUEUED_COUNT n 1).set .COUR_TX_SLOTS_SENDING n 0).set .COUR_L_STATUS_TX_STATE n 0
    let rest := dropSlot d.msgs n m.slot
    if m.accepted + 50 * ms ≤ d.clk then
      if m.copies = 0 then ({ d with msgs := rest } : Dev).msgDead m 1 else ({ d with msgs := rest } : Dev).msgDone m true
    else { d with msgs := { m with sending := false } :: rest }

/-- R277: every message of a lane that is not on the line goes to the dead-letter queue. -/
def Dev.removeQueued (d : Dev) (n : Nat) : Dev :=
  let out := d.msgs.filter fun m => decide (m.lane = n) && !m.sending
  let d := { d with msgs := d.msgs.filter fun m => !(decide (m.lane = n) && !m.sending) }
  Dev.forList out (fun m d => d.msgDead m 3) d

/-- The courier transmitter of a lane follows the lane: it notes that it is ready for the first time (R271), a copy whose
line has gone is cut short (R275), and with TX_EN 0 or the engine unused its queue empties (R277). -/
def Dev.syncCourTx (d : Dev) (n : Nat) : Dev :=
  let d := if d.courReady n && !d.on .X_COUR_READY n then
      (d.set .X_COUR_READY n 1).set .X_COUR_READY_CLK n d.clk else d
  let d := if d.courLine n then d else d.copyCut n
  if d.lon .COUR_L_CTRL_TX_EN n && d.used (engineOf n) then d else d.removeQueued n

/-- COURIER_SUBMIT (R269). -/
def execCourierSubmit (n : Fin 64) (slot rep : BitVec 2) (mode : BitVec 3) (id : BitVec 10) (len : BitVec 12)
    (s : State) : Host.Outcome State Fault Refusal :=
  s.run fun d => d.submit n slot.toNat mode.toNat id.toNat len.toNat rep.toNat

/-- QUARANTINE_EXPIRE (R270). -/
def execQuarantineExpire (n : Fin 64) (id : BitVec 10) (s : State) : Host.Outcome State Fault Refusal :=
  s.run fun d =>
    match d.quar.find? fun q => decide (q.lane = n.val ∧ q.id = id.toNat) with
    | none => d
    | some q => d.onTime (q.at_ + 100 * ms) fun d =>
        { d with quar := d.quar.filter fun q => !decide (q.lane = n.val ∧ q.id = id.toNat) }

/-- QUARANTINE_ALL_END (R271). -/
def execQuarantineAllEnd (n : Fin 64) (s : State) : Host.Outcome State Fault Refusal :=
  s.run fun d =>
    if d.on .X_COUR_READY n then
      d.onTime (d.get .X_COUR_READY_CLK n + 100 * ms) fun d => d.set .COUR_L_STATUS_QUARANTINE_ALL n 0
    else d

/-- R265, R268: the symbols of a copy: preamble, header and payload. -/
def copySymbols (m : CourMsg) : Nat := 4 + payloadSymbols m.mode (modeBits m.mode m.map m.map) m.len

/-- COPY_DONE (R273), once the copy's symbols have passed. -/
def execCopyDone (n : Fin 64) (s : State) : Host.Outcome State Fault Refusal :=
  s.run fun d =>
    match d.courSending n with
    | none => d
    | some m => d.onTime (m.start + symbols (copySymbols m)) fun d => d.copyDone n

/-- LIFETIME_EXPIRE (R274). A copy on the line is completed first; COPY_DONE then ends the message. -/
def execLifetimeExpire (n : Fin 64) (slot : Fin 4) (s : State) : Host.Outcome State Fault Refusal :=
  s.run fun d =>
    match d.msgs.find? fun m => decide (m.lane = n.val ∧ m.slot = slot.val) with
    | none => d
    | some m => d.onTime (m.accepted + 50 * ms) fun d =>
        if m.sending then d
        else
          let d := { d with msgs := dropSlot d.msgs n slot }
          if m.copies = 0 then d.msgDead m 1 else d.msgDone m true

/-! ## Receiving (R278 to R284) -/

/-- R280: the conditions under which the receiver of a lane runs. -/
def Dev.courRuns (d : Dev) (n : Nat) : Bool :=
  d.on .LRX_STATUS_TIMING_LOCK n && d.lon .COUR_L_CTRL_RX_EN n && d.domOn (domRx n)

/-- R280: the first and the last row: the receiver starts or stops as its conditions say. -/
def Dev.syncCourRx (d : Dev) (n : Nat) : Dev :=
  let st := d.get .COUR_L_STATUS_RX_STATE n
  if d.courRuns n then if st = crOFF then d.set .COUR_L_STATUS_RX_STATE n crIDLE else d
  else if st = crOFF then d
  else
    let d := if st = crIDLE then d else d.addSat .COUR_L_RX_ABANDONED_COUNT n 1
    d.set .COUR_L_STATUS_RX_STATE n crOFF

/-- R280: whether reception starts from a preamble of power `pwr` that is found now. -/
def Dev.preambleStarts (d : Dev) (n pwr : Nat) : Bool :=
  let st := d.get .COUR_L_STATUS_RX_STATE n
  st == crIDLE || st == crHEADER ||
    (st == crPAYLOAD && decide (d.get .X_COUR_RX_PWR n + 40 ≤ pwr) && d.lon .COUR_CTRL_PREEMPT 0)

/-- R280: reception starts from a preamble. -/
def Dev.beginRx (d : Dev) (n pwr : Nat) : Dev :=
  ((d.set .COUR_L_STATUS_RX_STATE n crHEADER).set .X_COUR_RX_PWR n pwr).set .X_COUR_RX_TIME n d.now

/-- R278, R280: a preamble is found. -/
def Dev.preamble (d : Dev) (n pwr : Nat) : Dev :=
  let st := d.get .COUR_L_STATUS_RX_STATE n
  if st = crOFF then d
  else
    let d := (d.addSat .COUR_L_RX_DETECT_COUNT n 1).set .COUR_L_PWR_LAST_PRE n pwr
    if st = crIDLE then d.beginRx n pwr
    else if st = crHEADER then (d.addSat .COUR_L_RX_RESTART_COUNT n 1).beginRx n pwr
    else if d.get .X_COUR_RX_PWR n + 40 ≤ pwr ∧ d.lon .COUR_CTRL_PREEMPT 0 then
      (d.addSat .COUR_L_RX_ABANDONED_COUNT n 1).beginRx n pwr
    else (d.addSat .COUR_L_RX_COLLISION_COUNT n 1).set .COUR_L_PWR_LAST_COLL n pwr

/-- R267: the header check sequence holds. -/
def hcrcValid (h : Nat) : Bool := crcField (crc16 (bitList 32 h)) == bitsOf h 47 32

/-- R280: the fields of a header with a valid check are usable. -/
def Dev.headerUsable (d : Dev) (n h : Nat) : Bool :=
  decide (1 ≤ bitsOf h 23 12 ∧ bitsOf h 23 12 ≤ 2048 ∧ bitsOf h 31 27 = 0) &&
    modeBits (bitsOf h 26 24) (d.mapLive .COUR_RXMAP_A_CODES n) (d.mapLive .COUR_RXMAP_B_CODES n) != 0

/-- R280, R296: the header ends. -/
def Dev.header (d : Dev) (n h : Nat) : Dev :=
  if d.get .COUR_L_STATUS_RX_STATE n = crHEADER then
    if !hcrcValid h then (d.addSat .COUR_L_RX_HDR_ERR_COUNT n 1).set .COUR_L_STATUS_RX_STATE n crIDLE
    else if !d.headerUsable n h then (d.addSat .COUR_L_RX_FORMAT_ERR_COUNT n 1).set .COUR_L_STATUS_RX_STATE n crIDLE
    else
      let ws := d.mapLive (if bitsOf h 26 24 = 1 then .COUR_RXMAP_B_CODES else .COUR_RXMAP_A_CODES) n
      let d := Dev.each 12 (fun i d => d.set .X_COUR_RX_MAP (12 * n + i) (ws.getD i 0)) d
      (d.set .X_COUR_RX_HEADER n (h % 2 ^ 32)).set .COUR_L_STATUS_RX_STATE n crPAYLOAD
  else d

/-! ### Link quality (R288, R289) -/

/-- R288: 10 log10 of the inverse of a mean squared error given in 2^-32, in 0.25 dB steps from 0 to 255. -/
def snrCode (mse : Nat) : Nat :=
  let x := (2 ^ 32) ^ 80
  let y := (max 1 mse) ^ 80
  ((List.range 256).filter fun c => decide (10 ^ (2 * c - (Config.rounding 1).val) * y ≤ x)).foldl max 0

/-- R289: the recommended constellation for an SNR in 0.25 dB steps; 0 was never measured. -/
def recommend (snr : Nat) : Nat :=
  if 96 ≤ snr then 4 else if 70 ≤ snr then 3 else if 44 ≤ snr then 2 else if 32 ≤ snr then 1 else 0

/-- The SNR of sub-carrier 16 + `c` of a lane. -/
def Dev.carrierSnr (d : Dev) (n c : Nat) : Nat := bitsOf (d.get .COUR_L_SNR_SNR (24 * n + c / 4)) (8 * (c % 4) + 7) (8 * (c % 4))

/-- R289: the recommended map and LQ follow the SNRs. -/
def Dev.recommendAll (d : Dev) (n : Nat) : Dev :=
  let codes := (List.range 96).map fun c => recommend (d.carrierSnr n c)
  let d := Dev.each 12 (fun i d => d.set .COUR_L_REC_CODES (12 * n + i)
    ((List.range 8).foldr (fun c acc => codes.getD (8 * i + c) 0 + 16 * acc) 0)) d
  d.set .COUR_L_QUALITY_LQ n (codes.map codeBits).sum

/-- The sub-carriers, counted from 16, that the payload of the reception in progress uses. -/
def Dev.usedCarriers (d : Dev) (n : Nat) : List Nat :=
  if bitsOf (d.get .X_COUR_RX_HEADER n) 26 24 ≤ 1 then
    (List.range 96).filter fun c => decide (codeBits (d.get .X_COUR_RX_MAP (12 * n + c / 8) / 16 ^ (c % 8) % 16) ≠ 0)
  else List.range 96

/-- R288: the new mean squared errors of a message, in 2^-32, one for each sub-carrier it used, enter the running
values. A sub-carrier measured for the first time takes the new value. -/
def Dev.measure (d : Dev) (n : Nat) (mse : List Nat) : Dev :=
  let cs := d.usedCarriers n
  let new := fun i => min (mse.getD i 0) (2 ^ 40 - 2)
  let d := Dev.forList (cs.zipIdx) (fun p d =>
    let old := d.get .X_COUR_MSE (96 * n + p.1)
    let v := if old = 0 then new p.2 else (7 * (old - 1) + new p.2) / 8
    let sh := 2 ^ (8 * (p.1 % 4))
    let w := d.get .COUR_L_SNR_SNR (24 * n + p.1 / 4)
    let w := w - (w / sh % 256) * sh + snrCode v * sh
    (d.set .X_COUR_MSE (96 * n + p.1) (v + 1)).set .COUR_L_SNR_SNR (24 * n + p.1 / 4) w) d
  let mean := (((List.range cs.length).map new).sum) / cs.length
  let d := (d.set .COUR_L_QUALITY_AGG_SNR n (snrCode mean)).addSat .COUR_L_QUALITY_MEASURED n 1
  d.recommendAll n

/-! ### Delivery (R282, R283) -/

/-- The one of some receive slots that was filled or freed the longest ago. -/
def Dev.oldestSlot (d : Dev) (n : Nat) (l : List Nat) : Option Nat :=
  l.foldl (fun b s => match b with
    | none => some s
    | some s0 => if d.get .X_COUR_SLOT_ORD (4 * n + s) < d.get .X_COUR_SLOT_ORD (4 * n + s0) then some s else some s0) none

/-- Receive slots of a lane that hold a message, or that hold none. -/
def Dev.rxSlots (d : Dev) (n : Nat) (full : Bool) : List Nat :=
  (List.range 4).filter fun s => bitAt (d.get .COUR_RX_STATUS_FULL n) s == full

/-- A receive slot is filled or freed. -/
def Dev.stampSlot (d : Dev) (n s : Nat) : Dev :=
  let d := d.set .X_COUR_ORD n ((d.get .X_COUR_ORD n + 1) % 2 ^ 32)
  d.set .X_COUR_SLOT_ORD (4 * n + s) (d.get .X_COUR_ORD n)

/-- OLDEST follows the slots. -/
def Dev.showOldest (d : Dev) (n : Nat) : Dev :=
  match d.oldestSlot n (d.rxSlots n true) with
  | none => d
  | some s => d.set .COUR_RX_STATUS_OLDEST n s

/-- R282, R283: a message with a valid CRC-32 is delivered. -/
def Dev.deliver (d : Dev) (n h : Nat) (bytes : List Byte) : Dev :=
  let id := bitsOf h 9 0
  let gen := bitsOf h 11 10
  let loop := d.lget .LRX_CTRL_ANALOG_LOOP n
  let d := if loop = 1 then d.addSat .COUR_L_RX_LOOP_COUNT n 1 else d
  if d.dupes.any fun q => decide (q.lane = n ∧ q.id = id ∧ q.gen = gen ∧ d.clk ≤ q.at_ + 100 * ms) then
    d.addSat .COUR_L_RX_DUP_COUNT n 1
  else
    let same := fun (q : CourId) => decide (q.lane = n ∧ q.id = id ∧ q.gen = gen)
    let d := { d with dupes := ⟨n, id, gen, d.clk⟩ :: d.dupes.filter fun q => !same q }
    let d := match d.oldestSlot n (d.rxSlots n false) with
      | none => d.deadLetter n true 2 id gen (bitsOf h 23 12) (bitsOf h 26 24) bytes
      | some s =>
        let d := { d with cmem := d.cmem.writeBytes (rxBuf n s) bytes }
        let d := ((d.orBits .COUR_RX_STATUS_FULL n (2 ^ s)).stampSlot n s).showOldest n
        let k := 4 * n + s
        let d := ((d.set .COUR_RX_DESC0_ID k id).set .COUR_RX_DESC0_GEN k gen).set .COUR_RX_DESC0_LEN k (bitsOf h 23 12)
        let d := (d.set .COUR_RX_DESC0_MODE k (bitsOf h 26 24)).set .COUR_RX_DESC0_LOOP k loop
        let d := (d.set .COUR_RX_DESC1_SNR k (d.get .COUR_L_QUALITY_AGG_SNR n)).set .COUR_RX_DESC1_PWR k
          (d.get .X_COUR_RX_PWR n)
        ((d.set .COUR_RX_DESC2_TIME k (d.get .X_COUR_RX_TIME n)).set .COUR_L_EVENTS_RX_MSG n 1).syncCourier n
    d.trigger 0xB n (n + 2 ^ 16 * (id + 2 ^ 10 * gen)) (d.get .X_COUR_RX_TIME n)

/-- R268, R280: the last payload symbol arrives, with the CRC-32 that followed the payload. -/
def Dev.payload (d : Dev) (n : Nat) (bytes : List Byte) (crc : Word) (mse : List Nat) : Dev :=
  if d.get .COUR_L_STATUS_RX_STATE n = crPAYLOAD then
    let h := d.get .X_COUR_RX_HEADER n
    let pay := (List.range (bitsOf h 23 12)).map fun i => bytes.getD i 0
    let d := (d.measure n mse).set .COUR_L_STATUS_RX_STATE n crIDLE
    if crc32 (leBytes 4 h ++ pay) = crc then (d.addSat .COUR_L_RX_OK_COUNT n 1).deliver n h pay
    else d.addSat .COUR_L_RX_CRC_ERR_COUNT n 1
  else d

/-- COURIER_RX_RELEASE (R284). -/
def execCourierRxRelease (n : Fin 64) (slots : BitVec 4) (s : State) : Host.Outcome State Fault Refusal :=
  s.run fun d =>
    let d := Dev.each 4 (fun s d =>
      if bitAt slots.toNat s && bitAt (d.get .COUR_RX_STATUS_FULL n) s then
        (d.set .COUR_RX_STATUS_FULL n (clearBit (d.get .COUR_RX_STATUS_FULL n) s)).stampSlot n s
      else d) d
    d.showOldest n

/-- DLQ_POP (R287). -/
def execDlqPop (s : State) : Host.Outcome State Fault Refusal :=
  s.run fun d =>
    match d.dlq with
    | [] => d
    | _ :: l => ({ d with dlq := l }).showDlq

/-! ## The knock (R290 to R294) -/

/-- KNOCK (R291). -/
def execKnock (n : Fin 64) (bursts : BitVec 2) (s : State) : Host.Outcome State Fault Refusal :=
  s.run fun d =>
    if d.on .COUR_TX_SLOTS_KNOCK_PENDING n then d
    else ((d.set .COUR_TX_SLOTS_KNOCK_PENDING n 1).set .X_COUR_BURSTS n (bursts.toNat + 1)).set .X_COUR_KNOCK_CLK n d.clk

/-- KNOCK_DROPPED (R291). -/
def execKnockDropped (n : Fin 64) (s : State) : Host.Outcome State Fault Refusal :=
  s.run fun d =>
    if d.on .COUR_TX_SLOTS_KNOCK_PENDING n && d.get .COUR_L_STATUS_TX_STATE n != ctKNOCK then
      d.onTime (d.get .X_COUR_KNOCK_CLK n + 50 * ms) fun d =>
        let d := (d.set .COUR_TX_SLOTS_KNOCK_PENDING n 0).set .X_COUR_BURSTS n 0
        (d.set .COUR_L_EVENTS_KNOCK_DROPPED n 1).syncCourier n
    else d

/-- KNOCK_BURSTS_END (R290, R291), once the bursts' symbols have passed. -/
def execKnockBurstsEnd (n : Fin 64) (s : State) : Host.Outcome State Fault Refusal :=
  s.run fun d =>
    if d.get .COUR_L_STATUS_TX_STATE n = ctKNOCK then
      d.onTime (d.get .X_COUR_KNOCK_CLK n + symbols (64 * d.get .X_COUR_BURSTS n)) fun d =>
        ((d.set .COUR_TX_SLOTS_KNOCK_PENDING n 0).set .X_COUR_BURSTS n 0).set .COUR_L_STATUS_TX_STATE n 0
    else d

/-- R292, R293: the knock detector of a lane runs. -/
def Dev.knockArmed (d : Dev) (n : Nat) : Bool :=
  d.lon .COUR_L_CTRL_KNOCK_EN n && d.used (engineOf n) && decide (1 ≤ d.dom (domRx n) ∧ d.dom (domRx n) ≤ 3) &&
    !d.on .X_COUR_KNOCK_STOP n

/-- R292: a window of the detector matches often enough on one of the two sub-carriers. -/
def Dev.knockMatch (d : Dev) (m1 m2 : Nat) : Bool := decide (d.lget .COUR_CTRL_KNOCK_THR 0 ≤ max m1 m2)

/-- The lane counters that COUR_L_CMD.CLEAR_STATS clears. -/
def courCounters : List F := [.COUR_L_RX_DETECT_COUNT, .COUR_L_RX_RESTART_COUNT, .COUR_L_RX_HDR_ERR_COUNT,
  .COUR_L_RX_FORMAT_ERR_COUNT, .COUR_L_RX_CRC_ERR_COUNT, .COUR_L_RX_OK_COUNT, .COUR_L_RX_DUP_COUNT,
  .COUR_L_RX_COLLISION_COUNT, .COUR_L_RX_ABANDONED_COUNT, .COUR_L_RX_LOOP_COUNT, .COUR_L_TX_SENT_COUNT,
  .COUR_L_TX_REQUEUED_COUNT, .COUR_L_QUALITY_AGG_SNR, .COUR_L_QUALITY_MEASURED]

/-- COUR_CLEAR_STATS (R298). -/
def execCourClearStats (n : Fin 64) (s : State) : Host.Outcome State Fault Refusal :=
  s.run fun d =>
    let d := d.setAll courCounters n 0
    let d := Dev.each 24 (fun i d => d.set .COUR_L_SNR_SNR (24 * n + i) 0) d
    let d := Dev.each 96 (fun i d => d.set .X_COUR_MSE (96 * n + i) 0) d
    d.recommendAll n

/-! ## Postings (R263, R298) -/

/-- The fields of the courier that a posting makes live by a rule of their own. -/
def courSpecial : List F := [.COUR_TXMAP_A_CODES, .COUR_TXMAP_B_CODES, .COUR_RXMAP_A_CODES, .COUR_RXMAP_B_CODES,
  .COUR_CTRL_THRESH, .COUR_CTRL_KNOCK_THR]

/-- R263: one map of a lane at a posting. -/
def Dev.postMap (d : Dev) (n : Nat) (f : F) : Dev :=
  if mapReserved (d.mapStaged f n) then (d.set .COUR_L_EVENTS_MAP_REJECT n 1).syncCourier n
  else Dev.each 12 (fun i d => d.lset f (12 * n + i) (d.get f (12 * n + i))) d

/-- The rules of a lane's courier at a posting. -/
def Dev.postCourLane (n : Nat) (d : Dev) : Dev :=
  let d := (d.postMap n .COUR_TXMAP_A_CODES).postMap n .COUR_TXMAP_B_CODES
  let d := (d.postMap n .COUR_RXMAP_A_CODES).postMap n .COUR_RXMAP_B_CODES
  (d.syncCourTx n).syncCourRx n

/-- The rules of COUR_CTRL at a posting. -/
def Dev.postCourHub (d : Dev) : Dev :=
  let t := d.get .COUR_CTRL_THRESH 0
  let k := d.get .COUR_CTRL_KNOCK_THR 0
  let d := if 16 ≤ t ∧ t ≤ 240 then d.lset .COUR_CTRL_THRESH 0 t else d
  if 50 ≤ k ∧ k ≤ 63 then d.lset .COUR_CTRL_KNOCK_THR 0 k else d

end Sys2Proof.Machine
end

