-- ==== Sys2Proof/Machine/SpreadBase.lean ====
section
/-! DEFINITION. The state machine of a spread group (R192 to R195) as far as receive lanes drive it, and its receive
latency (R206 to R208). Group 8e + q of the device is group q of engine e. -/

namespace Sys2Proof.Machine

open Sys2Proof

/-- States of SPR_G_STATUS.STATE (R194). -/
def sgOFF : Nat := 0
def sgHUNT : Nat := 1
def sgVERIFY : Nat := 2
def sgLOCKED : Nat := 3

/-- The state of a group. -/
def Dev.sg (d : Dev) (g : Nat) : Nat := d.get .SPR_G_STATUS_STATE g
/-- The group-local index of lane `n` (R180). -/
def Dev.local_ (d : Dev) (n : Nat) : Nat := n % d.width (engineOf n)
/-- Lane `n` is anchored. -/
def Dev.anchored (d : Dev) (n : Nat) : Bool := bitAt (d.get .SPR_G_STATUS_ANCHOR (d.groupOf n)) (d.local_ n)

/-! ## Latency -/

/-- 0.1 ns in the unit of X_SPR_LAT, 2^-10 fs. -/
def tenth : Nat := 102400000

/-- R206: the one-pass receive latency in 0.1 ns. -/
def onePass (mode width : Nat) : Nat :=
  match mode with
  | 1 => if width = 1 then 1639 else 1650
  | 2 => if width = 1 then 2797 else 2820
  | _ => if width = 1 then 5115 else 5160

/-- The one-pass latency of a group. -/
def Dev.onePassOf (d : Dev) (g : Nat) : Nat := onePass (d.mode (g / 8)) (d.width (g / 8))
/-- R31, R207: the target latency of a group at allowance `a`, in 0.1 ns. -/
def Dev.targetFor (d : Dev) (g a : Nat) : Nat := d.onePassOf g + 240 * (max 1 a - 1)

/-- R207: a latency that moves from `lat` towards `target` for `t` POST_TIME units at `rate` ppm. -/
def slewTo (lat target rate t : Nat) : Nat :=
  if lat ≤ target then min target (lat + rate * t) else max target (lat - rate * t)

/-- R207: the live slew rate of an engine, ppm. -/
def Dev.slewRate (d : Dev) (e : Nat) : Nat := 5 * 2 ^ d.lget .SPR_CTRL_SLEW e

/-- R207: the live latency of a group `t` POST_TIME units from now, in 2^-10 fs. -/
def Dev.latencyIn (d : Dev) (g t : Nat) : Nat :=
  slewTo (d.get .X_SPR_LAT g) (tenth * d.get .SPR_G_LAT_TARGET g) (d.slewRate (g / 8)) (d.clk + t - d.get .X_SPR_LAT_CLK g)

/-- R208: the passes that a latency allows. -/
def Dev.passesAt (d : Dev) (g lat : Nat) : Nat := 1 + (lat - tenth * d.onePassOf g) / (240 * tenth)

/-- R208: the usable passes of a group now. -/
def Dev.usable (d : Dev) (g : Nat) : Nat :=
  if d.sg g = sgLOCKED then min (d.get .SPR_G_STATUS_ALLOW g) (d.passesAt g (d.latencyIn g 0)) else 0

/-- R207: a slew goes on from where it stands: done before its target or its rate changes. -/
def Dev.rebase (g : Nat) (d : Dev) : Dev := (d.set .X_SPR_LAT g (d.latencyIn g 0)).set .X_SPR_LAT_CLK g d.clk

/-- R207: an allowance goes live. -/
def Dev.setAllow (d : Dev) (g a : Nat) : Dev :=
  ((d.rebase g).set .SPR_G_STATUS_ALLOW g a).set .SPR_G_LAT_TARGET g (d.targetFor g a)

/-! ## States -/

/-- The first lane of a group. -/
def Dev.firstLane (d : Dev) (g : Nat) : Nat := 8 * (g / 8) + (g % 8) * d.width (g / 8)

/-- R194, R211, R217, R225: a group leaves LOCKED, or has no lock to lose. -/
def Dev.dropLock (d : Dev) (g : Nat) : Dev :=
  if d.sg g = sgLOCKED then
    let d := (d.set .SPR_G_EVENTS_LOCK_LOST g 1).setAll
      [.SPR_G_STATUS_ALLOW, .SPR_G_STATUS_STREAM_LOCK, .SPR_G_LAT_LATENCY, .SPR_G_LAT_TARGET, .POOL_G_AGE_AGE, .POOL_G_REQ_GRANT,
       .X_POOL_FULL, .X_POOL_SERVED, .X_SPR_UNC, .X_SPR_UNC_INV, .X_SPR_BAD, .X_SPR_NO, .X_SPR_FIN, .X_SPR_F_PASS,
       .X_SPR_F_END, .X_SPR_F_FAIL1, .X_SPR_F_UNC, .X_SPR_F_SKIP, .X_POOL_FRAME, .X_POOL_ACCT, .POOL_G_CHARGE_CHARGE] g 0
    let d := { d with
      rxFrames := d.rxFrames.filter fun x => x.group != g
      rsDone := d.rsDone.filter fun x => d.groupOf x.lane != g }
    (d.raiseEngine (g / 8) 0).trigger 9 (d.firstLane g) (d.firstLane g + 512) d.now
  else d

/-- R194: a group enters HUNT from any state but OFF: the search starts again at the next tick. -/
def Dev.toHunt (d : Dev) (g : Nat) : Dev :=
  (((d.dropLock g).set .SPR_G_STATUS_STATE g sgHUNT).set .X_SPR_WAIT g 1).set .X_SPR_GOOD g 0

/-- The anchors of a group are cleared. -/
def Dev.clearAnchors (d : Dev) (g : Nat) : Dev := d.set .SPR_G_STATUS_ANCHOR g 0

/-! ## Host transmit timing (R245, R250) -/

/-- What times the host transmit lanes of the port of lane `n`: HOST_A in host near-end loopback, else the lowest-indexed LOCKED lane
of its group, else the host PLL; as X_HOST_TSRC. -/
def Dev.timeSource (d : Dev) (n : Nat) : Nat :=
  if d.get .HOST_P_STATUS_TX_SRC n = 4 then 9
  else match (d.lanesOfGroup (d.groupOf n)).find? fun m => d.on .LRX_STATUS_LOCKED m with
    | some m => m % 8 + 1
    | none => 0

/-- The frequency of the source that times a port, 0.01 ppm against REFCLK. -/
def Dev.sourceFreq (d : Dev) (n : Nat) : Int :=
  match d.get .X_HOST_TSRC n with
  | 0 => 0
  | 9 => sx 16 (d.get .X_HOST_AFREQ n)
  | l + 1 => sx 16 (d.get .LRX_TR_STATUS_FREQ (8 * engineOf n + l))

/-- R245: the frequency of host transmit: on a change of its source it moves by at most 1 ppm in a microsecond. -/
def Dev.hostFreq (d : Dev) (n : Nat) : Int :=
  moveTowards (sx 32 (d.get .X_HOST_TFROM n)) (d.sourceFreq n) (100 * (d.clk - d.get .X_HOST_TCLK n) / us)

/-- R207, R245: beside it, the phase slews while the latency of the group moves, 0.01 ppm. -/
def Dev.hostSlew (d : Dev) (n : Nat) : Int :=
  let g := d.groupOf n
  let lat := d.latencyIn g 0
  let goal := tenth * d.get .SPR_G_LAT_TARGET g
  if lat < goal then -(100 * d.slewRate (g / 8) : Nat) else if goal < lat then (100 * d.slewRate (g / 8) : Nat) else 0

/-- R245: the timing of a port follows its source. The frequency of HOST_A is that of the partner: a free value. -/
def Dev.followTiming (n : Nat) (d : Dev) : Dev :=
  let s := d.timeSource n
  if s = d.get .X_HOST_TSRC n then d
  else
    let d := ((d.set .X_HOST_TFROM n (ux 32 (d.hostFreq n))).set .X_HOST_TCLK n d.clk).set .X_HOST_TSRC n s
    if s = 9 then (d.set .X_HOST_AFREQ n (d.draw 21 % 2 ^ 16)).drawn else d

/-- The ports of a group. -/
def Dev.groupTiming (d : Dev) (n : Nat) : Dev := Dev.forList (d.lanesOfGroup (d.groupOf n)) Dev.followTiming d

/-- R194, R195: a lane of the group leaves receive LOCKED (its LOCKED bit is already 0). -/
def Dev.groupLaneLost (d : Dev) (n : Nat) : Dev :=
  let g := d.groupOf n
  let d := (d.set .SPR_G_STATUS_ANCHOR g (clearBit (d.get .SPR_G_STATUS_ANCHOR g) (d.local_ n))).set .X_SPR_REJOIN n 0
  if d.sg g = sgVERIFY then (d.set .SPR_G_STATUS_STATE g sgHUNT).set .X_SPR_GOOD g 0
  else if d.sg g = sgLOCKED ∧ !((d.groupLanes n).any fun m => d.on .LRX_STATUS_LOCKED m) then d.toHunt g
  else d

/-- R194: framing is possible on all lanes of a group: its engine is used and not restarting, and the engine-common domain and
every receive domain of the group are ON (DEDUCED, log entry 72). -/
def Dev.framingPossible (d : Dev) (g : Nat) : Bool :=
  d.groupExists g && !d.on .X_ENG_WAIT (g / 8) && d.domOn (domEngine (g / 8)) &&
    (d.lanesOfGroup g).all fun n => d.domOn (domRx n)

/-- R194: a group leaves OFF once framing is possible on all its lanes; the search starts at once. -/
def Dev.groupFollow (g : Nat) (d : Dev) : Dev :=
  if d.sg g = sgOFF && d.framingPossible g then ((d.toHunt g).clearAnchors g).set .X_SPR_WAIT g 0 else d

/-- R194: a group of an engine that restarts. -/
def Dev.groupRestart (d : Dev) (g : Nat) : Dev :=
  let d := d.set .X_SPR_RELOCK g 0
  if d.sg g = sgOFF then d.groupFollow g else (d.toHunt g).clearAnchors g

/-- R194: a group of an engine that is not used. -/
def Dev.groupOff (d : Dev) (g : Nat) : Dev :=
  ((((d.dropLock g).clearAnchors g).set .SPR_G_STATUS_STATE g sgOFF).set .X_SPR_WAIT g 0).set .X_SPR_RELOCK g 0

end Sys2Proof.Machine
end

