-- ==== Sys2Proof/Machine/Lrx.lean ====
section
/-! DEFINITION. Line receive lanes (R95 to R141): signal detect, acquisition and lock, adaptation, invalid windows,
the shadow sampler and the pattern checker. -/

namespace Sys2Proof.Machine

open Sys2Proof

/-- Line analogue loopback is live (R129). -/
def Dev.looped (d : Dev) (n : Nat) : Bool := d.lon .LRX_CTRL_ANALOG_LOOP n

/-- R122: symbols of a segment of lane `n`. -/
def Dev.segLen (d : Dev) (n : Nat) : Nat := 21760 / d.width (engineOf n)

/-! ## Values that adaptation moves: taps, corrector entries and level targets -/

/-- Live level `j` of lane `n`, as a field. -/
def levelF : Nat → F
  | 0 => .LRX_DET_LIVE_LEVEL0
  | 1 => .LRX_DET_LIVE_LEVEL1
  | 2 => .LRX_DET_LIVE_LEVEL2
  | _ => .LRX_DET_LIVE_LEVEL3
/-- Level seed `j`, as a field. -/
def seedF : Nat → F
  | 0 => .LRX_DET_SEED_LEVEL0
  | 1 => .LRX_DET_SEED_LEVEL1
  | 2 => .LRX_DET_SEED_LEVEL2
  | _ => .LRX_DET_SEED_LEVEL3

/-- Live FFE tap `i` (R102). -/
def Dev.tap (d : Dev) (n i : Nat) : Int := sx 10 (d.lget .LRX_FFE_TAP_LIVE (48 * n + i))
/-- Live corrector entry `j` (R103). -/
def Dev.nlc (d : Dev) (n j : Nat) : Int := sx 8 (d.lget .LRX_NLC_ENTRY_LIVE (64 * n + j))
/-- Live level target `j` (R104). -/
def Dev.level (d : Dev) (n j : Nat) : Int := sx 8 (d.lget (levelF j) n)

/-- R109: the bound of tap `i`. -/
def Dev.tapBound (d : Dev) (n i : Nat) : Int := d.lget .LRX_FFE_TAP_BOUND (48 * n + i)
/-- R109: a level's limits: its seed and the largest deviation from it, within 8 bits. -/
def Dev.levelClamp (d : Dev) (n j : Nat) (v : Int) : Int :=
  let s := sx 8 (d.lget (seedF j) n)
  let b : Int := d.lget .LRX_DET_LEVEL_BOUND n
  clampI (max (-128) (s - b)) (min 127 (s + b)) v

/-- R112: a bound clamped a value: the event and the lane's bound pigeonhole. -/
def Dev.boundHit (d : Dev) (n : Nat) : Dev := (d.set .LRX_EVENTS_BOUND_HIT n 1).raiseLane n 3

/-- Make tap `i` live, clamped to its bound; the Boolean says whether a clamp took place so far. -/
def Dev.putTap (n i : Nat) (v : Int) (p : Dev × Bool) : Dev × Bool :=
  let b := p.1.tapBound n i
  let c := clampI (-b) b v
  (p.1.lset .LRX_FFE_TAP_LIVE (48 * n + i) (ux 10 c), p.2 || decide (c ≠ v))

/-- Make corrector entry `j` live, clamped to its bound. -/
def Dev.putNlc (n j : Nat) (v : Int) (p : Dev × Bool) : Dev × Bool :=
  let b : Int := p.1.lget .LRX_NLC_CTRL_BOUND n
  let c := clampI (-b) b v
  (p.1.lset .LRX_NLC_ENTRY_LIVE (64 * n + j) (ux 8 c), p.2 || decide (c ≠ v))

/-- Make level `j` live, clamped to its bound. -/
def Dev.putLevel (n j : Nat) (v : Int) (p : Dev × Bool) : Dev × Bool :=
  let c := p.1.levelClamp n j v
  (p.1.lset (levelF j) n (ux 8 c), p.2 || decide (c ≠ v))

/-- Do a clamped change for each index, then report a clamp once (R111, R112). -/
def Dev.bounded (n count : Nat) (g : Nat → Dev × Bool → Dev × Bool) (d : Dev) : Dev :=
  let p := (List.range count).foldl (fun p i => g i p) (d, false)
  if p.2 then p.1.boundHit n else p.1

/-- R111: the FFE seeds become live. -/
def Dev.loadTaps (d : Dev) (n : Nat) : Dev :=
  Dev.bounded n 48 (fun i p => Dev.putTap n i (sx 10 (p.1.lget .LRX_FFE_TAP_SEED (48 * n + i))) p) d
/-- R111: the corrector seeds become live. -/
def Dev.loadNlc (d : Dev) (n : Nat) : Dev :=
  Dev.bounded n 64 (fun j p => Dev.putNlc n j (sx 8 (p.1.lget .LRX_NLC_ENTRY_SEED (64 * n + j))) p) d
/-- R111: the level seeds become live. -/
def Dev.loadLevels (d : Dev) (n : Nat) : Dev :=
  Dev.bounded n 4 (fun j p => Dev.putLevel n j (sx 8 (p.1.lget (seedF j) n)) p) d

/-- R112: live values past a bound that has narrowed are clamped to it. -/
def Dev.clampAll (d : Dev) (n : Nat) : Dev :=
  let d := Dev.bounded n 48 (fun i p => Dev.putTap n i (p.1.tap n i) p) d
  let d := Dev.bounded n 64 (fun j p => Dev.putNlc n j (p.1.nlc n j) p) d
  Dev.bounded n 4 (fun j p => Dev.putLevel n j (p.1.level n j) p) d

/-- R120: the values live while the lane is LOCKED are kept for SEED_SRC 1. -/
def Dev.saveAdapt (d : Dev) (n : Nat) : Dev :=
  let d := Dev.each 48 (fun i d => d.set .X_LRX_SAVED_TAP (48 * n + i) (d.lget .LRX_FFE_TAP_LIVE (48 * n + i))) d
  let d := Dev.each 64 (fun j d => d.set .X_LRX_SAVED_NLC (64 * n + j) (d.lget .LRX_NLC_ENTRY_LIVE (64 * n + j))) d
  let d := Dev.each 4 (fun j d => d.set .X_LRX_SAVED_LEVEL (4 * n + j) (d.lget (levelF j) n)) d
  (d.set .X_LRX_SAVED n 1).set .X_LRX_SAVED_MODE n (d.mode (engineOf n))

/-- R120: the starting values of the FFE, the corrector and the level targets under SEED_SRC. -/
def Dev.chooseSeeds (d : Dev) (n : Nat) : Dev :=
  let src := d.lget .LRX_FFE_CTRL_SEED_SRC n
  if src = 0 then ((d.loadTaps n).loadNlc n).loadLevels n
  else if src = 1 ∧ d.get .X_LRX_SAVED n = 1 ∧ d.get .X_LRX_SAVED_MODE n = d.mode (engineOf n) then
    let d := Dev.each 48 (fun i d => d.lset .LRX_FFE_TAP_LIVE (48 * n + i) (d.get .X_LRX_SAVED_TAP (48 * n + i))) d
    let d := Dev.each 64 (fun j d => d.lset .LRX_NLC_ENTRY_LIVE (64 * n + j) (d.get .X_LRX_SAVED_NLC (64 * n + j))) d
    Dev.each 4 (fun j d => d.lset (levelF j) n (d.get .X_LRX_SAVED_LEVEL (4 * n + j))) d
  else
    let d := Dev.each 48 (fun i d => d.lset .LRX_FFE_TAP_LIVE (48 * n + i) (if i = 12 then 256 else 0)) d
    let d := Dev.each 64 (fun j d => d.lset .LRX_NLC_ENTRY_LIVE (64 * n + j) 0) d
    Dev.each 4 (fun j d => d.lset (levelF j) n (ux 8 ((64 : Int) * j - 96))) d

/-! ## Invalid windows (R125, R126) -/

/-- R125: the symbol periods from the tick to the moment at which the first letter computed with a new setting leaves the
chain, by the change code. -/
def windowOffset : Nat → Nat
  | 4 => 6528
  | 5 => 3328
  | 6 => 2688
  | _ => 8128

/-- A change that opens a window goes live at this tick: the longest counts, the lower code on a tie. The window begins at the
first letter that any of the changes has touched (DEDUCED, log entry 70). -/
def Dev.noteWindow (d : Dev) (n code len : Nat) : Dev :=
  let l := d.get .X_LRX_WLEN n
  let o := windowOffset code
  let d := d.set .X_LRX_WOFF n (if l = 0 then o else min o (d.get .X_LRX_WOFF n))
  if l < len ∨ (l = len ∧ code < d.get .X_LRX_WCODE n) then (d.set .X_LRX_WCODE n code).set .X_LRX_WLEN n len else d

/-- R125, R126: a window that lasts until the lane is LOCKED again. It is longer than any other that opens at the same tick;
of two such the lower code counts. -/
def Dev.openWindow (d : Dev) (n code : Nat) : Dev :=
  if d.get .X_LRX_WLEN n = 8191 ∧ d.get .X_LRX_WCODE n ≤ code then d
  else ((d.set .LRX_VALID_STATUS_LAST_CHANGE n code).setAll [.LRX_VALID_STATUS_WINDOW, .X_LRX_WLEN] n 8191).set .X_LRX_WCODE n code

/-- R125, R126: the window of this tick opens; `pos` letters of the segment in progress have left the chain. A window that has
not passed yet is extended. -/
def Dev.closeWindows (d : Dev) (n pos : Nat) : Dev :=
  let w := d.get .X_LRX_WLEN n
  let d := if w = 0 ∨ w = 8191 then d
    else
      let now := d.get .X_LRX_SEG_ABS n
      let off := pos + d.get .X_LRX_WOFF n
      let first := now + off / d.segLen n
      let last := now + (off + w - 1) / d.segLen n + 1
      let open_ := now < d.get .X_LRX_WIN_LAST n
      let d := (d.set .LRX_VALID_STATUS_LAST_CHANGE n (d.get .X_LRX_WCODE n)).set .LRX_VALID_STATUS_WINDOW n w
      let d := d.set .X_LRX_WIN_FIRST n (if open_ then min first (d.get .X_LRX_WIN_FIRST n) else first)
      d.set .X_LRX_WIN_LAST n (if open_ then max last (d.get .X_LRX_WIN_LAST n) else last)
  d.setAll [.X_LRX_WLEN, .X_LRX_WCODE, .X_LRX_WOFF] n 0

/-- How many numbers from `a` to below `b` lie from `lo` to below `hi`. -/
def overlap (a b lo hi : Nat) : Nat := min b hi - max a lo

/-- R124: of the next `k` segments of a LOCKED lane, those that are not VALID: it was not LOCKED as they began, or a window
touches them. -/
def Dev.badSegs (d : Dev) (n k : Nat) : Nat :=
  let a := d.get .X_LRX_SEG_ABS n
  let l := d.get .X_LRX_LOCK_SEG n
  overlap a (a + k) 0 l + overlap a (a + k) (max l (d.get .X_LRX_WIN_FIRST n)) (d.get .X_LRX_WIN_LAST n)

/-- R124: segment number `x` of a LOCKED lane is not VALID. -/
def Dev.segBad (d : Dev) (n x : Nat) : Bool :=
  decide (x < d.get .X_LRX_LOCK_SEG n ∨ (d.get .X_LRX_WIN_FIRST n ≤ x ∧ x < d.get .X_LRX_WIN_LAST n))

/-- R124: the flags of the last of the next `k` segments of a LOCKED lane, the latest in bit 0. -/
def Dev.nextFlags (d : Dev) (n k : Nat) : Nat := bitsWhere (min k 16) fun i => !d.segBad n (d.get .X_LRX_SEG_ABS n + k - 1 - i)

/-- R124, R128: the VALID flag of the segment in progress. -/
def Dev.segValid (d : Dev) (n : Nat) : Bool := d.rxLocked n && d.badSegs n 1 == 0

/-- R307: the VALID flag of the segment `j` after the one in progress. -/
def Dev.segFlag (d : Dev) (n : Nat) (j : Int) : Bool :=
  if 0 ≤ j then d.rxLocked n && !d.segBad n (d.get .X_LRX_SEG_ABS n + j.toNat) else bitAt (d.get .X_LRX_FLAGS n) (-j - 1).toNat

/-- R122, R137: `k` segments end, `bad` of them invalid; `flags` are those of the last 16. The checker skips the letters of the
invalid ones and counts them. -/
def Dev.endSegs (d : Dev) (n k bad flags : Nat) : Dev :=
  let d := d.set .X_LRX_FLAGS n ((d.get .X_LRX_FLAGS n * 2 ^ min k 16 + flags) % 2 ^ 16)
  let d := (d.addWrap .LRX_SEG_COUNT n k).addWrap .LRX_INVALID_SEG_COUNT n bad
  let d := (d.addWrap .X_LRX_SEG_ABS n k).addSat .X_LRX_BAD_SEG n bad
  if d.on .LRX_CHK_CTRL_ENABLE n && decide (d.get .LRX_CHK_CTRL_PATTERN n ≤ 3) then
    d.addSat .LRX_CHK_SKIPPED_COUNT n (bad * d.segLen n)
  else d

/-- R122, R124, R127: the segments that have ended since the last tick. After a loss of lock the one in which it was detected
and all later ones are invalid. -/
def Dev.countSegs (d : Dev) (n segs lossSegs : Nat) : Dev :=
  if d.rxLocked n then d.endSegs n segs (d.badSegs n segs) (d.nextFlags n segs)
  else
    let before := if d.on .X_LRX_LOST n then segs - lossSegs else 0
    let d := d.endSegs n before (d.badSegs n before) (d.nextFlags n before)
    d.endSegs n (segs - before) (segs - before) 0

/-- R123: the segment in progress is cut short, and is invalid. -/
def Dev.cutSeg (d : Dev) (n : Nat) : Dev := d.endSegs n 1 1 0

/-! ## State transitions (R117 to R119) -/

/-- R119: an acquisition begins. -/
def Dev.beginAcq (d : Dev) (n : Nat) : Dev :=
  ((d.set .X_LRX_ACQ n 0).set .LRX_STATUS_CLERK_FROZEN n 0).setAll [.X_LRX_SNR_OK, .X_LRX_SNR_LOW] n 0

/-- R119: the lane enters GAIN. -/
def Dev.enterGain (d : Dev) (n : Nat) : Dev :=
  (((d.beginAcq n).set .LRX_STATUS_STATE n rxGAIN).set .X_LRX_TRIAL n 0).set .X_LRX_BEST_SNR n 0

/-- R119: the lane enters WAIT_SIGNAL and, with signal detect asserted or analogue loopback live, GAIN at once. -/
def Dev.enterWait (d : Dev) (n : Nat) : Dev :=
  let d := ((d.set .LRX_STATUS_STATE n rxWAIT).setAll [.LRX_STATUS_TIMING_LOCK, .LRX_STATUS_EQ_CONV] n 0).syncCourRx n
  if d.on .LRX_STATUS_SIGNAL n || d.looped n then d.enterGain n else d

/-- R118, R127, R140: the lane leaves LOCKED: its values are kept, and the LOCK_LOSS trigger is formed. -/
def Dev.leaveLocked (d : Dev) (n : Nat) : Dev :=
  if d.rxLocked n then
    let d := ((d.saveAdapt n).set .LRX_STATUS_LOCKED n 0).setAll [.LRX_EVENTS_LOCK_LOST, .X_LRX_LOST] n 1
    (((((d.openWindow n 8).raiseLane n 1).trigger 9 n (n + 256) d.now).groupLaneLost n).groupTiming n).syncTx n
  else d

/-- R85, R120: the lane's engine is about to restart: what was live in LOCKED is saved with the mode it was live in. -/
def Dev.laneDrop (d : Dev) (n : Nat) : Dev :=
  if d.rxLocked n then (d.leaveLocked n).set .LRX_STATUS_STATE n rxWAIT else d

/-- R96, R123: at a restart the count of segments and signal detect start again. -/
def Dev.startSegs (d : Dev) (n : Nat) : Dev :=
  (d.setAll [.X_LRX_SEG_ABS, .X_LRX_FLAGS, .X_LRX_LOCK_SEG, .X_LRX_WIN_FIRST, .X_LRX_WIN_LAST] n 0).set .X_LRX_SD_CLK n d.clk

/-- R119: lane restart. The seeds are chosen anew and signal detect starts again; in analogue loopback it reads as
asserted (R129). -/
def Dev.laneRestart (d : Dev) (n : Nat) : Dev :=
  if d.rx n = rxOFF then d
  else
    let d := ((d.leaveLocked n).openWindow n 1).addSat .LRX_STATUS_ACQ_COUNT n 1
    let d := (d.chooseSeeds n).set .LRX_STATUS_SIGNAL n (b2n (d.looped n))
    ((d.askTake .X_LRX_REACQ .X_LRX_REACQ_CLK .X_LRX_REACQ_LAST n).startSegs n).enterWait n

/-- R119, R125: the lane comes up from OFF. -/
def Dev.laneUp (d : Dev) (n : Nat) : Dev :=
  let d := ((d.openWindow n 1).chooseSeeds n).set .LRX_STATUS_SIGNAL n (b2n (d.looped n))
  (d.startSegs n).enterWait n

/-- R119: the engine is unused or the receive domain enters OFF. -/
def Dev.laneOff (d : Dev) (n : Nat) : Dev :=
  (((d.leaveLocked n).set .LRX_STATUS_STATE n rxOFF).setAll
    [.LRX_STATUS_SIGNAL, .LRX_STATUS_TIMING_LOCK, .LRX_STATUS_EQ_CONV] n 0).syncCourRx n

/-- R119: the receive domain enters HOLD or NAP. -/
def Dev.laneSleep (d : Dev) (n : Nat) : Dev :=
  if d.rx n = rxOFF then d
  else (((d.leaveLocked n).set .LRX_STATUS_STATE n rxASLEEP).setAll
    [.LRX_STATUS_TIMING_LOCK, .LRX_STATUS_EQ_CONV] n 0).syncCourRx n

/-- R96, R119: the receive domain wakes from HOLD or NAP: TIMING, with signal detect asserted. -/
def Dev.laneWake (d : Dev) (n : Nat) : Dev :=
  if d.rx n = rxASLEEP then
    let d := ((d.beginAcq n).set .LRX_STATUS_STATE n rxTIMING).set .LRX_STATUS_SIGNAL n 1
    (d.openWindow n 1).set .X_LRX_SD_CLK n d.clk
  else d

/-- R96, R119: the same for a lane that a restart has moved to WAIT_SIGNAL in its sleep. -/
def Dev.laneWakeWait (d : Dev) (n : Nat) : Dev :=
  (((d.openWindow n 1).set .LRX_STATUS_SIGNAL n 1).set .X_LRX_SD_CLK n d.clk).enterWait n

/-- `num / den` in 0.1 dB, 0 to 1,023: the largest `k` with 10^(k/100) at most the ratio, or the nearest one. -/
def tenthDb (num den : Nat) : Nat :=
  let r := (Config.rounding 10).val
  (List.range 10).foldl (fun k b =>
    let c := k + 2 ^ (9 - b)
    if 10 ^ (2 * c - r) * den ^ 200 ≤ num ^ 200 then c else k) 0

/-- R117: the SNR of eye `j`: half the distance of its levels, squared, over the noise variance in 1/16 LSB². -/
def Dev.eyeSnr (d : Dev) (n j var : Nat) : Nat :=
  tenthDb (4 * (d.level n (j + 1) - d.level n j).natAbs ^ 2) (max 1 var)

/-- R117: the worst of the three eye SNRs. -/
def Dev.worstEye (d : Dev) (n : Nat) : Nat :=
  min (d.get .LRX_SNR_EYE0 n) (min (d.get .LRX_SNR_EYE1 n) (d.get .LRX_SNR_EYE2 n))

/-- R97: the CTLE code of trial `i`, the first being 4 in analogue loopback (R129). -/
def trialCode (loop : Bool) (i : Nat) : Nat := if loop then 4 * ((i + 1) % 8) else 4 * i

/-- R97: CTLE and VGA codes go live, and LRX_FE_LIVE shows them. -/
def Dev.putFe (d : Dev) (n ctle vga : Nat) : Dev := (d.set .LRX_FE_LIVE_CTLE n ctle).set .LRX_FE_LIVE_VGA n vga

/-- R97: one tick in GAIN. -/
def Dev.gainStep (d : Dev) (n : Nat) (r : RxTick) : Dev :=
  if d.lon .LRX_FE_SEARCH n then
    let i := d.get .X_LRX_TRIAL n
    let d := if 0 < i ∧ d.get .X_LRX_BEST_SNR n < d.worstEye n + 1 then
        ((d.set .X_LRX_BEST_SNR n (d.worstEye n + 1)).set .X_LRX_BEST_CTLE n (d.get .LRX_FE_LIVE_CTLE n)).set
          .X_LRX_BEST_VGA n (d.get .LRX_FE_LIVE_VGA n)
      else d
    if i < 8 then (d.putFe n (trialCode (d.looped n) i) r.trialVga.toNat).set .X_LRX_TRIAL n (i + 1)
    else (d.putFe n (d.get .X_LRX_BEST_CTLE n) (d.get .X_LRX_BEST_VGA n)).set .LRX_STATUS_STATE n rxTIMING
  else (d.putFe n (d.lget .LRX_FE_CTLE n) (d.lget .LRX_FE_VGA n)).set .LRX_STATUS_STATE n rxTIMING

/-- R117: timing lock as judged at a tick: the frequency estimate moved by less than 1 ppm over the tick and the phase
detector's mean lies within 1/16 UI. -/
def Dev.timingLock (d : Dev) (n : Nat) (r : RxTick) : Bool :=
  r.phaseOk && decide ((sx 16 (d.get .LRX_TR_STATUS_FREQ n) - sx 16 r.freq.toNat).natAbs < 100)

/-- R117, R119: the lane enters LOCKED. The segment in progress is invalid (R124). -/
def Dev.enterLocked (d : Dev) (n : Nat) : Dev :=
  let d := ((d.set .LRX_STATUS_STATE n rxLOCKED).set .LRX_STATUS_LOCKED n 1).set .LRX_EVENTS_LOCK_GAINED n 1
  let d := (d.set .X_LRX_LOCK_SEG n (d.get .X_LRX_SEG_ABS n + 1)).set .X_LRX_SNR_LOW n 0
  (((d.raiseLane n 1).set .X_SPR_REJOIN n 0).groupTiming n).syncTx n

/-- R118: the SNR threshold for the loss of lock, 0.1 dB: HYST counts 0.25 dB, so both sides are taken in 0.05 dB. -/
def Dev.snrLow (d : Dev) (n : Nat) : Bool :=
  decide (2 * d.worstEye n + 5 * d.lget .LRX_LOCK_CFG_HYST n < 2 * d.lget .LRX_LOCK_CFG_SNR_MIN n)

/-- R117 to R119: one acquisition step of a lane at a tick. DESIGN CHOICE (log entry 67): EQ_CONV of a LOCKED lane is judged
from the tick alone, not from two consecutive ticks. -/
def Dev.acqStep (d : Dev) (n : Nat) (r : RxTick) : Dev :=
  let st := d.rx n
  let tl := d.timingLock n r
  let d := if 3 ≤ st ∧ st ≤ 5 then d.set .LRX_STATUS_TIMING_LOCK n (b2n tl) else d
  if st = rxGAIN then d.gainStep n r
  else if st = rxTIMING then if tl then d.set .LRX_STATUS_STATE n rxEQUALISE else d
  else if st = rxEQUALISE then
    let ok := if d.lget .LRX_LOCK_CFG_SNR_MIN n ≤ d.worstEye n then min 2 (d.get .X_LRX_SNR_OK n + 1) else 0
    let d := (d.set .X_LRX_SNR_OK n ok).set .LRX_STATUS_EQ_CONV n (b2n (ok == 2))
    if ok = 2 ∧ tl ∧ (d.on .LRX_STATUS_SIGNAL n ∨ d.looped n) then d.enterLocked n else d
  else if st = rxLOCKED then
    let low := if d.snrLow n then min 4 (d.get .X_LRX_SNR_LOW n + 1) else 0
    let d := (d.set .X_LRX_SNR_LOW n low).set .LRX_STATUS_EQ_CONV n
      (b2n (decide (d.lget .LRX_LOCK_CFG_SNR_MIN n ≤ d.worstEye n)))
    if low = 4 then ((d.leaveLocked n).beginAcq n).set .LRX_STATUS_STATE n rxEQUALISE else d
  else d

/-- R109: whether a loop is frozen, by the driver or by the clerk. -/
def Dev.frozen (d : Dev) (n loop : Nat) : Bool :=
  bitAt (d.lget .LRX_CTRL_FREEZE n) loop || bitAt (d.get .LRX_STATUS_CLERK_FROZEN n) loop

/-- R115: a change loses to another of the same tick. DESIGN CHOICE (log entry 68): an adaptation update that loses to a seed
load counts once for its loop, not once for each of its values. -/
def Dev.dropChange (d : Dev) (n : Nat) : Dev := (d.set .LRX_EVENTS_DROPPED n 1).addSat .LRX_EVENTS_DROP_COUNT n 1

/-- R109: the correction that a loop of step size 2^-(10 + `mu`) makes of an accumulated gradient. -/
def lmsStep (mu : Nat) (g : Int) : Int :=
  if (Config.rounding 9).val = 0 then g / 2 ^ (10 + mu) else roundDiv g (2 ^ (10 + mu))

/-- R108, R109: the corrections of a tick go live as one adaptation update. A level that the ledger has moved at this tick
keeps the ledger's value (R34, R115). -/
def Dev.adapt (d : Dev) (n : Nat) (r : RxTick) : Dev :=
  let st := d.rx n
  if 2 ≤ st ∧ st ≤ 5 then
    let lim := fun (a b : Int) (v : Int) => if st = rxLOCKED then clampI (-a) a v else clampI (-b) b v
    let loaded := fun (d : Dev) (b : Nat) => bitAt (d.get .X_LRX_LOADED n) b
    let go := fun (loop bit : Nat) (l : List Int) (g : Dev → Dev) (d : Dev) =>
      if d.frozen n loop then d
      else if loaded d bit then (if l.any (· ≠ 0) then d.dropChange n else d)
      else g d
    let d := go 1 0 r.taps (Dev.bounded n 48 fun i p => Dev.putTap n i (p.1.tap n i + lim 2 64 (lmsStep (p.1.lget .LRX_FFE_CTRL_MU n) (r.taps.getD i 0))) p) d
    let d := go 2 1 r.nlc (Dev.bounded n 64 fun j p => Dev.putNlc n j (p.1.nlc n j + lim 1 16 (lmsStep (p.1.lget .LRX_NLC_CTRL_MU n) (r.nlc.getD j 0))) p) d
    go 3 2 r.levels (Dev.bounded n 4 fun j p =>
      let g := lmsStep (p.1.lget .LRX_DET_MU n) (r.levels.getD j 0)
      if bitAt (p.1.get .X_LG_MOVED n) j then (if g = 0 then p else (p.1.dropChange n, p.2))
      else Dev.putLevel n j (p.1.level n j + lim 1 8 g) p) d
  else d

/-- R113: the clerk freezes diverging loops. -/
def Dev.clerkFreeze (d : Dev) (n m : Nat) : Dev :=
  let new := m &&& (31 - d.get .LRX_STATUS_CLERK_FROZEN n)
  if new = 0 then d else (d.set .LRX_STATUS_CLERK_FROZEN n (d.get .LRX_STATUS_CLERK_FROZEN n ||| m)).raiseLane n 3

/-- R116: the readback fields follow the live values unless they are held. -/
def Dev.readback (d : Dev) (n : Nat) : Dev :=
  let d := if d.on .X_LRX_RELEASE n then (d.set .LRX_STATUS_READBACK_HELD n 0).set .X_LRX_RELEASE n 0 else d
  if d.on .LRX_STATUS_READBACK_HELD n then d
  else
    let d := Dev.each 48 (fun i d => d.set .LRX_FFE_TAP_LIVE (48 * n + i) (d.lget .LRX_FFE_TAP_LIVE (48 * n + i))) d
    let d := Dev.each 64 (fun j d => d.set .LRX_NLC_ENTRY_LIVE (64 * n + j) (d.lget .LRX_NLC_ENTRY_LIVE (64 * n + j))) d
    Dev.each 4 (fun j d => d.set (levelF j) n (d.lget (levelF j) n)) d

/-- R139: what the checker counted in the tick while it was locked: two bits a symbol, the bits in error, and each symbol in
error once, by the grade of its letter. -/
def Dev.checkTick (d : Dev) (n : Nat) (r : RxTick) : Dev :=
  if d.on .LRX_CHK_STATUS_LOCKED n || d.on .X_LRX_CHK_RAN n then
    let d := (d.addSat .LRX_CHK_BITS_COUNT n (2 * r.chkSyms)).addSat .LRX_CHK_ERRS_COUNT n (r.chkOne.sum + 2 * r.chkTwo.sum)
    Dev.each 4 (fun g d => d.addSat .LRX_CHK_GRADE_ERR_COUNT (4 * n + g) (r.chkOne.getD g 0 + r.chkTwo.getD g 0)) d
  else d

/-- R97, R110, R140: the measurements of the tick beside those that `Dev.rxEnd` takes. -/
def Dev.rxMeasure (d : Dev) (n : Nat) (r : RxTick) : Dev :=
  let f := clampI (-20000) 20000 (sx 16 r.freq.toNat)
  let d := if d.frozen n 0 then d else d.set .LRX_TR_STATUS_FREQ n (ux 16 f)
  let d := ((d.set .LRX_TR_STATUS_JITTER n r.jitter.toNat).set .LRX_FE_LIVE_AMPLITUDE n r.amplitude.toNat)
  let d := (d.set .LRX_NOISE_VAR n (max 1 r.var.toNat)).set .LRX_NOISE_CLIPS n (min 65535 r.clips)
  let d := if d.frozen n 4 then d else d.set .X_LRX_GRADE_VAR n (max 1 r.var.toNat)
  if d.lget .LRX_LOCK_CFG_CLIP_LIMIT n * 1024 < r.clips then (d.set .LRX_EVENTS_CLIP n 1).raiseLane n 4 else d

/-- R116, R117, R122 to R127, R139: what a tick first counts and measures of a receive lane, with the settings that were live up
to the tick: its segments, its checker, the eyes and the letters by grade. The letters of invalid segments count as grade 0. -/
def Dev.rxEnd (n : Nat) (r : RxTick) (d : Dev) : Dev :=
  let d :=
    if d.domOn (domRx n) && d.rx n != rxOFF && d.rx n != rxASLEEP then
      let d := (d.countSegs n r.segs r.lossSegs).checkTick n r
      let d := ((d.set .LRX_SNR_EYE0 n (d.eyeSnr n 0 r.var0.toNat)).set .LRX_SNR_EYE1 n (d.eyeSnr n 1 r.var1.toNat)).set
        .LRX_SNR_EYE2 n (d.eyeSnr n 2 r.var2.toNat)
      Dev.each 4 (fun g d => d.set .LRX_GRADE_COUNT_COUNT (4 * n + g)
        ((r.grades.getD g 0 + (if g = 0 then d.get .X_LRX_BAD_SEG n * d.segLen n else 0)) % 2 ^ 32)) d
    else d
  d.setAll [.X_LRX_BAD_SEG, .X_LRX_LOST, .X_LRX_CHK_RAN, .X_LRX_WLEN, .X_LRX_WCODE, .X_LRX_WOFF] n 0

/-- R119, R141: a REACQUIRE goes live at this tick. DESIGN CHOICE (log entry 66): one that is written to an OFF lane waits until
the lane has left OFF. -/
def Dev.reacquires (d : Dev) (n : Nat) : Bool :=
  d.askDue .X_LRX_REACQ .X_LRX_REACQ_CLK n

/-- R108, R113: the updates that lane `n` has carried over go live, each with what the clerk froze at its tick. -/
def Dev.adaptCarried (d : Dev) (n : Fin 64) : Dev :=
  let old := d.carryRx.filter fun e => decide (e.1 = n)
  Dev.forList old (fun e d => (d.adapt n e.2).clerkFreeze n e.2.clerk.toNat)
    { d with carryRx := d.carryRx.filter fun e => decide (e.1 ≠ n) }

/-- What a tick does in receive lane `n`: `all` says that category 2 overran with all its work, `new` that only the new update
is not ready (R46), `cat6` that the telemetry snapshot overran. Updates carried over go live before the new one; with either
overrun the acquisition stands still (R108). -/
def Dev.rxTick (d : Dev) (all new cat6 : Bool) (n : Fin 64) (r : RxTick) : Dev :=
  let d := if d.reacquires n then d.laneRestart n else d
  let d := if 2 ≤ d.rx n ∧ d.rx n ≤ 4 then d.addSat .X_LRX_ACQ n 1 else d
  let d := if all then d else d.adaptCarried n
  let d := if all || new then { d with carryRx := d.carryRx ++ [(n, r)] }
    else ((d.adapt n r).clerkFreeze n r.clerk.toNat).acqStep n r
  let d := d.rxMeasure n r
  let d := if cat6 then d else d.readback n
  ((d.closeWindows n r.segPos).setAll [.X_LRX_LOADED, .X_LG_MOVED, .X_LRX_LOST] n 0).syncCourRx n

/-! ## Timing recovery (R99 to R101) -/

/-- R100: the jitter tracking bandwidth of a lane, kHz. -/
def trackingBandwidth (mode bw : Nat) : Nat := 2000 * 2 ^ bw / modeScale mode
/-- R100: the bandwidth of lane `n` now, kHz. -/
def Dev.bandwidth (d : Dev) (n : Nat) : Nat := trackingBandwidth (d.mode (engineOf n)) (d.lget .LRX_TR_BW n)

/-- R101: the live phase offset of lane `n` now, 1/128 UI: it moves by one step every 8 symbols since the posting. -/
def Dev.phaseOffset (d : Dev) (n : Nat) : Int :=
  moveTowards (sx 8 (d.get .X_LRX_PO_FROM n)) (sx 8 (d.lget .LRX_TR_PHASE_OFFSET n))
    (lineSymbols (d.mode (engineOf n)) (d.clk - d.get .X_LRX_PO_CLK n) / 8)
/-- R101: the phase at which lane `n` samples, 1/128 UI, for a recovered phase. -/
def Dev.samplingPhase (d : Dev) (n : Nat) (recovered : Int) : Int := recovered + d.phaseOffset n
/-- R134: the phase at which its shadow sampler samples. -/
def Dev.shadowPhase (d : Dev) (n : Nat) (recovered : Int) : Int := d.samplingPhase n recovered + sx 8 (d.get .X_LRX_SH_PHASE n)

/-! ## Postings (R96, R97, R100, R106, R110 to R113, R120, R125, R132, R133) -/

/-- The fields of a receive lane that a posting makes live by a rule of its own. -/
def lrxSpecial : List F := [.LRX_CTRL_ANALOG_LOOP, .LRX_FFE_CTRL_LOAD_SEED, .LRX_FFE_CTRL_SEED_SRC,
  .LRX_NLC_CTRL_LOAD_SEED, .LRX_DET_LOAD_SEED, .LRX_GRADE_MODE, .LRX_GRADE_G1, .LRX_GRADE_G2, .LRX_GRADE_G3, .LRX_TR_BW]

/-- The staged value of a field becomes live. -/
def Dev.post (d : Dev) (f : F) (i : Nat) : Dev := d.lset f i (d.get f i)

/-- R111: a posting with a LOAD_SEED bit at 1 loads the loop's seeds, opens its window and clears the staged bit. -/
def Dev.postLoad (d : Dev) (n : Nat) (f : F) (bit code len : Nat) (load : Dev → Dev) : Dev :=
  if d.on f n then
    let d := (load d).set f n 0
    (d.noteWindow n code len).set .X_LRX_LOADED n (d.get .X_LRX_LOADED n ||| 2 ^ bit)
  else d

/-- The rules of a receive lane's own at a posting; `d0` is the device before the posting's plain fields went live. -/
def Dev.postLrx (d0 : Dev) (n : Nat) (d : Dev) : Dev :=
  let d := if d.get .LRX_GRADE_G1 n ≤ d.get .LRX_GRADE_G2 n ∧ d.get .LRX_GRADE_G2 n ≤ d.get .LRX_GRADE_G3 n then
      (((d.post .LRX_GRADE_MODE n).post .LRX_GRADE_G1 n).post .LRX_GRADE_G2 n).post .LRX_GRADE_G3 n
    else d.set .LRX_EVENTS_GRADE_REJECT n 1
  let d := if d.get .LRX_TR_BW n ≤ 3 then d.post .LRX_TR_BW n else d
  let d := if d.get .LRX_FFE_CTRL_SEED_SRC n ≠ 3 then d.post .LRX_FFE_CTRL_SEED_SRC n else d
  let changed := fun (f : F) => decide (d0.lget f n ≠ d.lget f n)
  let d := if changed .LRX_FE_CTLE || changed .LRX_FE_VGA then
      let d := d.noteWindow n 2 4096
      if d.rx n = rxGAIN ∧ d.lon .LRX_FE_SEARCH n then d else d.putFe n (d.lget .LRX_FE_CTLE n) (d.lget .LRX_FE_VGA n)
    else d
  let from_ := d0.phaseOffset n
  let step := (from_ - sx 8 (d.lget .LRX_TR_PHASE_OFFSET n)).natAbs
  let d := if changed .LRX_TR_PHASE_OFFSET then
      ((d.set .X_LRX_PO_FROM n (ux 8 from_)).set .X_LRX_PO_CLK n d.clk).noteWindow n 3 (min 1080 (8 * step + 64))
    else d
  let d := if changed .LRX_CTRL_NLC_EN then d.noteWindow n 5 24 else d
  let d := if changed .LRX_DET_ALPHA || changed .LRX_DET_BETA then d.noteWindow n 6 32 else d
  let cleared := d0.lget .LRX_CTRL_FREEZE n &&& (31 - d.lget .LRX_CTRL_FREEZE n)
  let d := d.set .LRX_STATUS_CLERK_FROZEN n (d.get .LRX_STATUS_CLERK_FROZEN n &&& (31 - cleared))
  let d := d.postLoad n .LRX_FFE_CTRL_LOAD_SEED 0 4 64 (fun d => d.loadTaps n)
  let d := d.postLoad n .LRX_NLC_CTRL_LOAD_SEED 1 5 24 (fun d => d.loadNlc n)
  let d := d.postLoad n .LRX_DET_LOAD_SEED 2 6 32 (fun d => d.loadLevels n)
  d.clampAll n

/-- R132, R133: the analogue loopback requests of one spread group at a posting that covers the lanes `ls`. The request
of the lowest lane goes live in the whole group; a lane that asked for another value counts as dropped. `far` says that
far-end loopback is live in the group: then loopback is refused for every lane. `by_` is who asks (R89). -/
def Dev.postAnalog (d : Dev) (by_ : Nat) (group ls : List Nat) (far : Bool) : Dev :=
  let asks := ls.filter fun n => decide (d.get .LRX_CTRL_ANALOG_LOOP n ≠ d.lget .LRX_CTRL_ANALOG_LOOP n)
  match asks with
  | [] => d
  | n0 :: _ =>
    let v := d.get .LRX_CTRL_ANALOG_LOOP n0
    if v = 1 ∧ far then
      Dev.forList group (fun n d => (d.set .LRX_EVENTS_LOOP_REFUSED n 1).refuse 3 n by_ (d.get .X_LTX_FAR_BY n)) d
    else
      let d := Dev.forList asks (fun n d => if d.get .LRX_CTRL_ANALOG_LOOP n = v then d else d.dropChange n) d
      Dev.forList group (fun n d =>
        let d := ((d.set .LRX_CTRL_ANALOG_LOOP n v).lset .LRX_CTRL_ANALOG_LOOP n v).set .LRX_STATUS_LOOPED n v
        (d.set .X_LRX_LOOP_BY n (if v = 1 then by_ else 0)).laneRestart n) d

/-! ## Commands -/

/-- R96: the signal detect threshold of a lane, 2 mV steps: codes outside 20 to 100 are taken as the nearest limit. -/
def Dev.sdLevel (d : Dev) (n : Nat) : Nat := clampN 20 100 (d.lget .LRX_FE_SD_THR n)

/-- Signal detect of a lane is judged from its input: the lane is powered and its front end is not in loopback (R129). -/
def Dev.judgesSignal (d : Dev) (n : Nat) : Bool :=
  d.domOn (domRx n) && d.rx n != rxOFF && d.rx n != rxASLEEP && !d.looped n

/-- SIGNAL_DETECT_ASSERT (R96): over the last 8 µs the amplitude has not been below `amplitude`, 2 mV steps. -/
def execSignalDetectAssert (n : Fin 64) (amplitude : Byte) (s : State) : Host.Outcome State Fault Refusal :=
  s.run fun d =>
    if d.judgesSignal n && decide (d.sdLevel n ≤ amplitude.toNat) then
      d.onTime (d.get .X_LRX_SD_CLK n + 8 * us) fun d =>
        let d := d.set .LRX_STATUS_SIGNAL n 1
        if d.rx n = rxWAIT then d.enterGain n else d
    else d

/-- SIGNAL_DETECT_DEASSERT (R96, R118, R119): over the last 1 µs the amplitude has not been above `amplitude`. -/
def execSignalDetectDeassert (n : Fin 64) (amplitude : Byte) (s : State) : Host.Outcome State Fault Refusal :=
  s.run fun d =>
    if d.judgesSignal n && d.on .LRX_STATUS_SIGNAL n && decide (4 * amplitude.toNat < 3 * d.sdLevel n) then
      d.onTime (d.get .X_LRX_SD_CLK n + us) fun d =>
        let d := (((d.set .LRX_STATUS_SIGNAL n 0).set .LRX_EVENTS_LOS n 1).raiseLane n 0).set .X_LRX_SD_CLK n d.clk
        (d.leaveLocked n).enterWait n
    else d

/-- CYCLE_SLIP (R118): a slip, or a frequency estimate beyond 250 ppm. -/
def execCycleSlip (n : Fin 64) (s : State) : Host.Outcome State Fault Refusal :=
  s.run fun d =>
    let d := d.addSat .LRX_TR_STATUS_SLIPS n 1
    if d.rxLocked n then
      ((((d.leaveLocked n).beginAcq n).set .LRX_STATUS_STATE n rxTIMING).set .LRX_STATUS_TIMING_LOCK n 0).syncCourRx n
    else d

/-- ACQ_FAIL (R119): the acquisition limit is reached. -/
def execAcqFail (n : Fin 64) (s : State) : Host.Outcome State Fault Refusal :=
  s.run fun d =>
    if 2 ≤ d.rx n ∧ d.rx n ≤ 4 ∧ 4 * max 1 (d.lget .LRX_LOCK_CFG_ACQ_LIMIT n) ≤ d.get .X_LRX_ACQ n then
      (((d.set .LRX_EVENTS_ACQ_FAIL n 1).raiseLane n 2).chooseSeeds n).enterWait n
    else d

/-- REACQUIRE (R141): a lane restart at the first tick at least 2 µs after the write. -/
def execReacquire (n : Fin 64) (s : State) : Host.Outcome State Fault Refusal :=
  s.run fun d => d.askWrite .X_LRX_REACQ .X_LRX_REACQ_CLK .X_LRX_REACQ_LAST n

/-- R139: the counters of the checker are cleared. -/
def Dev.clearChecker (d : Dev) (n : Nat) : Dev :=
  let d := d.setAll [.LRX_CHK_BITS_COUNT, .LRX_CHK_ERRS_COUNT, .LRX_CHK_SKIPPED_COUNT, .LRX_CHK_STATUS_RESYNCS] n 0
  d.setEach .LRX_CHK_GRADE_ERR_COUNT [4 * n, 4 * n + 1, 4 * n + 2, 4 * n + 3] 0

/-- LRX_CLEAR_STATS (R141). -/
def execLrxClearStats (n : Fin 64) (s : State) : Host.Outcome State Fault Refusal :=
  s.run fun d =>
    let d := (d.clearChecker n).setAll
      [.LRX_INVALID_SEG_COUNT, .LRX_SEG_COUNT, .LRX_TR_STATUS_SLIPS, .LRX_EVENTS_DROP_COUNT] n 0
    d.setEach .LRX_GRADE_COUNT_COUNT [4 * n.val, 4 * n.val + 1, 4 * n.val + 2, 4 * n.val + 3] 0

/-- HOLD_READBACK (R116). -/
def execHoldReadback (n : Fin 64) (s : State) : Host.Outcome State Fault Refusal :=
  s.run fun d => (d.set .LRX_STATUS_READBACK_HELD n 1).set .X_LRX_RELEASE n 0

/-- RELEASE_READBACK (R116). -/
def execReleaseReadback (n : Fin 64) (s : State) : Host.Outcome State Fault Refusal :=
  s.run fun d => d.set .X_LRX_RELEASE n 1

/-- SHADOW_REQUEST (R136): the driver takes or releases the shadow sampler. Taking it wakes the lane (R92 code A). -/
def execShadowRequest (n : Fin 64) (take : Bool) (s : State) : Host.Outcome State Fault Refusal :=
  s.run fun d =>
    let h := d.get .LRX_SHADOW_STATUS_HOLDER n
    let d := d.set .LRX_SHADOW_CTRL_REQUEST n (b2n take)
    if take then
      if h = 0 ∨ h = 1 then ((d.set .LRX_SHADOW_STATUS_HOLDER n 1).set .LRX_SHADOW_STATUS_GRANTED n 1).wake (domRx n) 6
      else (d.set .LRX_EVENTS_SHADOW_REFUSED n 1).refuse 7 n 1 h
    else if h = 1 then
      ((d.set .LRX_SHADOW_STATUS_HOLDER n 0).set .LRX_SHADOW_STATUS_GRANTED n 0).set .LRX_SHADOW_STATUS_BUSY n 0
    else d

/-- R135, R136: a point of the shadow sampler begins. A DWELL outside 10 to 30 is taken as 20. -/
def Dev.shadowBegin (d : Dev) (n eye phase thresh dwell : Nat) : Dev :=
  let d := ((d.set .X_LRX_SH_EYE n eye).set .X_LRX_SH_PHASE n phase).set .X_LRX_SH_THRESH n thresh
  let d := (d.set .X_LRX_SH_DWELL n (if 10 ≤ dwell ∧ dwell ≤ 30 then dwell else 20)).set .X_LRX_SH_CLK n d.clk
  (d.set .LRX_SHADOW_STATUS_BUSY n 1).set .LRX_SHADOW_STATUS_DONE n 0

/-- R134, R135: the least time in which a point counts its 2^DWELL symbols, one in 64 being sampled. -/
def Dev.shadowSpan (d : Dev) (n : Nat) : Nat := lineSpan (d.mode (engineOf n)) (64 * 2 ^ d.get .X_LRX_SH_DWELL n)

/-- SHADOW_START (R136): a sweep point begins with the settings as they stand; ignored unless the driver holds the
sampler. -/
def execShadowStart (n : Fin 64) (s : State) : Host.Outcome State Fault Refusal :=
  s.run fun d =>
    if d.on .LRX_SHADOW_STATUS_GRANTED n then
      d.shadowBegin n (d.get .LRX_SHADOW_CTRL_EYE n) (d.get .LRX_SHADOW_CTRL_PHASE n) (d.get .LRX_SHADOW_CTRL_THRESH n)
        (d.get .LRX_SHADOW_CTRL_DWELL n)
    else d

/-- R138: a locked checker loses its lock. -/
def Dev.checkerLost (d : Dev) (n : Nat) : Dev :=
  if d.on .LRX_CHK_STATUS_LOCKED n then
    ((d.set .LRX_CHK_STATUS_LOCKED n 0).setAll [.LRX_EVENTS_CHK_LOSS, .X_LRX_CHK_RAN] n 1).raiseLane n 5
  else d

/-- The live words of the user pattern of lane `n` (R137, R172). -/
def Dev.patWords (d : Dev) (n : Nat) : List Nat := (List.range 256).map fun w => d.lget .LTX_PAT_MEM_SYMBOLS (256 * n + w)

/-- CHECKER_CTRL_WRITE (R138, R139): a change of PATTERN or ENABLE ends the lock, clears the counters and restarts the search.
Enabling the checker wakes the lane (R92 code A). -/
def execCheckerCtrlWrite (n : Fin 64) (enable : Bool) (pattern : BitVec 3) (s : State) :
    Host.Outcome State Fault Refusal :=
  s.run fun d =>
    if d.get .LRX_CHK_CTRL_ENABLE n = b2n enable ∧ d.get .LRX_CHK_CTRL_PATTERN n = pattern.toNat then d
    else
      let d := (d.set .LRX_CHK_CTRL_ENABLE n (b2n enable)).set .LRX_CHK_CTRL_PATTERN n pattern.toNat
      let d := (d.checkerLost n).clearChecker n
      d.when enable fun d => d.wake (domRx n) 6

/-- CHECKER_LOCK (R137, R138): the levels that the letters of VALID segments have decided, the latest last, let the search
end. A reserved pattern leaves the checker off. -/
def execCheckerLock (n : Fin 64) (levels : List (Fin 4)) (s : State) : Host.Outcome State Fault Refusal :=
  s.run fun d =>
    let p := d.get .LRX_CHK_CTRL_PATTERN n
    if d.on .LRX_CHK_CTRL_ENABLE n && decide (p ≤ 3) && !d.on .LRX_CHK_STATUS_LOCKED n &&
        checkerFinds p (d.patWords n) (levels.map fun a => a.val) then
      ((d.set .LRX_CHK_STATUS_LOCKED n 1).set .LRX_EVENTS_CHK_LOCK n 1).raiseLane n 5
    else d

/-- CHECKER_UNLOCK (R138): the bit errors of the symbols that a locked checker has compared, the latest last, are too many. -/
def execCheckerUnlock (n : Fin 64) (errors : List (Fin 3)) (s : State) : Host.Outcome State Fault Refusal :=
  s.run fun d =>
    if d.on .LRX_CHK_STATUS_LOCKED n && checkerFails errors then (d.checkerLost n).addSat .LRX_CHK_STATUS_RESYNCS n 1 else d

end Sys2Proof.Machine
end

