-- ==== Sys2Proof/Machine/Ltx.lean ====
section
/-! DEFINITION. Line transmit lanes (R142 to R179): sources, squelch and ramps, patterns, far-end loopback and the start
after an engine restart. -/

namespace Sys2Proof.Machine

open Sys2Proof

/-- R153, R154: the source that the live settings select. -/
def Dev.txSource (d : Dev) (n : Nat) : Nat :=
  if d.lon .LTX_CTRL_FAR_LOOP n then 3 else d.lget .LTX_CTRL_SOURCE n

/-- R167: code 0 on the line: SQUELCH is entered, with TX_STATE raised from ON. -/
def Dev.squelchNow (d : Dev) (n : Nat) : Dev :=
  let o := d.tx n
  if o = txSQUELCH then d
  else
    let d := (d.set .LTX_STATUS_OUTPUT n txSQUELCH).set .LTX_EVENTS_SQUELCHED n 1
    (if o = txON then d.raiseLane n 6 else d).syncCourTx n

/-- R167: the output reaches ON. -/
def Dev.reachOn (d : Dev) (n : Nat) : Dev :=
  ((((d.set .LTX_STATUS_OUTPUT n txON).set .LTX_EVENTS_UNSQUELCHED n 1).raiseLane n 6)).syncCourTx n

/-- R167: the gain of one lane reaches its end. -/
def Dev.rampDone (d : Dev) (n : Nat) : Dev :=
  if d.tx n = txRAMP_UP then d.reachOn n
  else if d.tx n = txRAMP_DOWN then
    ((d.set .LTX_STATUS_OUTPUT n txSQUELCH).set .LTX_EVENTS_SQUELCHED n 1).raiseLane n 6
  else d

/-- R163, R167: what a frame boundary starts in one lane. -/
def Dev.rampStart (n : Nat) (d : Dev) : Dev :=
  let d := d.syncTx n
  let c := d.get .LTX_STATUS_SQ_CAUSE n
  if d.tx n = txSQUELCH ∧ c = 0 then
    if d.lget .LTX_CTRL_RAMP n = 0 then d.reachOn n else d.rampBegin n txRAMP_UP
  else if d.tx n = txON ∧ hasRamped c ∧ !hasImmediate c then
    let d := (d.rampBegin n txRAMP_DOWN).syncCourTx n
    if d.get .X_LTX_RAMP_N n = 0 then d.rampDone n else d
  else d

/-! ## Far-end loopback (R174, R175) -/

/-- The frames in the loop buffer of a group, oldest first. -/
def Dev.loopOf (d : Dev) (g : Nat) : List LoopFrame := d.loops.filter fun x => x.group == g

/-- FILL_LEVEL of the lanes of a group that are in FAR_LOOP follows the buffer. -/
def Dev.showLoop (d : Dev) (g : Nat) : Dev :=
  Dev.forList (d.lanesOfGroup g) (fun n d =>
    if d.get .LTX_STATUS_SOURCE n = 3 then d.set .LTX_LOOP_STATUS_FILL_LEVEL n (d.loopOf g).length else d) d

/-- R174: the oldest frame leaves the buffer of a group to be sent. -/
def Dev.loopPop (d : Dev) (g : Nat) : Dev :=
  match d.loopOf g with
  | [] => d
  | x :: l =>
    let others := d.loops.filter fun y => y.group != g
    ({ d with loops := others ++ l, looped_ := x :: d.looped_.filter fun y => y.group != g }).showLoop g

/-- R175: a group's buffer begins centred, at two frames (DESIGN CHOICE, log entry 73: their contents are not stated). -/
def Dev.loopStart (d : Dev) (g : Nat) : Dev :=
  { d with loops := (d.loops.filter fun y => y.group != g) ++ [⟨g, []⟩, ⟨g, []⟩] }

/-- The lowest lane of the group of lane `n` that is LOCKED. -/
def Dev.timingLane (d : Dev) (n : Nat) : Option Nat := (d.groupLanes n).find? fun m => d.rxLocked m

/-- R174: a lane takes its timing from the lowest LOCKED lane of its group. -/
def Dev.takeTiming (n : Nat) (d : Dev) : Dev :=
  match d.timingLane n with
  | none => d.set .LTX_STATUS_LOOP_CLK_VALID n 0
  | some m =>
    let moved := d.get .LTX_STATUS_LOOP_CLK_LANE n ≠ m % 8
    let d := (d.set .LTX_STATUS_LOOP_CLK_LANE n (m % 8)).set .LTX_STATUS_LOOP_CLK_VALID n 1
    if moved then d.set .LTX_EVENTS_LOOP_CLK_SWITCH n 1 else d

/-- R174: the lane that times lane `n` is not LOCKED any more, or none times it. -/
def Dev.timingGone (d : Dev) (n : Nat) : Bool :=
  !d.on .LTX_STATUS_LOOP_CLK_VALID n || !d.rxLocked (8 * engineOf n + d.get .LTX_STATUS_LOOP_CLK_LANE n)

/-- R160, R170, R174: the live source takes effect on the line of one lane at a frame boundary. -/
def Dev.switchSource (n : Nat) (d : Dev) : Dev :=
  let new := d.txSource n
  let old := d.get .LTX_STATUS_SOURCE n
  if new = old then d
  else
    let d := d.set .LTX_STATUS_SOURCE n new
    let d := if new = 2 then (d.set .X_LTX_PAT_CLK n d.clk).set .X_LTX_PAT_RESTART n 0 else d
    let d := if new = 3 then
        let d := (if (d.loopOf (d.groupOf n)).isEmpty then d.loopStart (d.groupOf n) else d).showLoop (d.groupOf n)
        match d.timingLane n with
        | none => d.set .LTX_STATUS_LOOP_CLK_VALID n 0
        | some m => (d.set .LTX_STATUS_LOOP_CLK_LANE n (m % 8)).set .LTX_STATUS_LOOP_CLK_VALID n 1
      else if old = 3 then
        let d := { d with loops := d.loops.filter fun y => y.group != d.groupOf n }
        (d.set .LTX_STATUS_LOOP_CLK_VALID n 0).set .LTX_LOOP_STATUS_FILL_LEVEL n 0
      else if old = 0 then ({ d with lineIn := d.lineIn.filter fun x => x.lane != n }).set .X_LTX_POS n 0
      else d
    d.syncCourTx n

/-! ## Engine restart (R169) -/

/-- The encoders of an engine are framing. -/
def Dev.framing (d : Dev) (e : Nat) : Bool :=
  d.used e && (d.get .X_LTX_START e == 0 || d.get .X_LTX_START e == 3)

/-- R169 step 1: the transmit side of an engine restarts. -/
def Dev.restartTx (d : Dev) (e : Nat) : Dev :=
  let d := d.set .X_LTX_START e 1
  Dev.forList (lanesOf e) (fun n d =>
    let d := ((d.set .LTX_STATUS_PLL_LOCK n 0).set .LTX_FRAMES_COUNT n 0).squelchNow n
    (d.switchSource n).syncTx n) d

/-- R169 steps 3 and 4: a tick moves the start of an engine on. -/
def Dev.startTick (e : Nat) (d : Dev) : Dev :=
  if d.get .X_LTX_START e = 2 then d.set .X_LTX_START e 3
  else if d.get .X_LTX_START e = 3 then
    Dev.forList (lanesOf e) (fun n d => d.syncTx n) (d.set .X_LTX_START e 0)
  else d

/-! ## Ticks -/

/-- R146, R178: the clips of the tick that has ended: those of the frames sent by command, and the `other` ones. -/
def Dev.clipTick (n other : Nat) (d : Dev) : Dev :=
  let clips := other + d.get .X_LTX_CLIPS n
  let d := (d.set .X_LTX_CLIPS n 0).set .LTX_CLIPS_LAST n (min 65535 clips)
  if d.lget .LTX_DRV_CLIP_LIMIT n * 64 < clips then
    ((d.set .LTX_EVENTS_CLIP n 1).addSat .LTX_CLIPS_TOTAL n 1).raiseLane n 7
  else d

/-! ## Postings (R149, R150, R158, R159, R172, R173) -/

/-- The fields of a transmit lane that a posting makes live by a rule of its own. -/
def ltxSpecial : List F := [.LTX_CTRL_SOURCE, .LTX_CTRL_FAR_LOOP, .LTX_LEVEL_LEVEL0, .LTX_LEVEL_LEVEL1,
  .LTX_LEVEL_LEVEL2, .LTX_LEVEL_LEVEL3]

/-- R151: a change of a transmit lane that loses. -/
def Dev.dropTx (d : Dev) (n : Nat) : Dev := (d.set .LTX_EVENTS_DROPPED n 1).addSat .LTX_EVENTS_DROP_COUNT n 1

/-- R158, R159: a request that is refused in the lanes `ls`: resource 2 (source) or 3 (loop path), asked for by `by_` and held
by `holder` (codes of R89). -/
def Dev.refuseTx (d : Dev) (res by_ holder : Nat) (ls : List Nat) : Dev :=
  Dev.forList ls (fun n d => ((d.set .LTX_EVENTS_SOURCE_REFUSED n 1).refuse res n by_ holder).raiseLane n 7) d

/-- R150: the level map of a posting. -/
def Dev.postLevels (d : Dev) (n : Nat) : Dev :=
  let t := fun f => sx 8 (d.get f n)
  if t .LTX_LEVEL_LEVEL0 < t .LTX_LEVEL_LEVEL1 ∧ t .LTX_LEVEL_LEVEL1 < t .LTX_LEVEL_LEVEL2 ∧
      t .LTX_LEVEL_LEVEL2 < t .LTX_LEVEL_LEVEL3 then
    (((d.post .LTX_LEVEL_LEVEL0 n).post .LTX_LEVEL_LEVEL1 n).post .LTX_LEVEL_LEVEL2 n).post .LTX_LEVEL_LEVEL3 n
  else (d.set .LTX_EVENTS_LEVEL_REJECT n 1).raiseLane n 7

/-- The live taps and entries show in their readback fields; the output driver takes the swing (R39). -/
def Dev.showTx (d : Dev) (n : Nat) : Dev :=
  let d := Dev.each 9 (fun i d => d.set .LTX_FIR_LIVE (9 * n + i) (d.lget .LTX_FIR_COEF (9 * n + i))) d
  let d := Dev.each 64 (fun j d => d.set .LTX_PD_ENTRY_LIVE (64 * n + j) (d.lget .LTX_PD_ENTRY_VALUE (64 * n + j))) d
  d.set .X_LTX_SWING n (d.lget .LTX_DRV_SWING n)

/-- The rules of a transmit lane's own at a posting; `d0` is the device before the posting's plain fields went live. -/
def Dev.postLtx (d0 : Dev) (n : Nat) (d : Dev) : Dev :=
  let d := (d.postLevels n).showTx n
  let changed := fun (f : F) => decide (d0.lget f n ≠ d.lget f n)
  let d := if changed .LTX_PAT_PATTERN || changed .LTX_PAT_INVERT || changed .LTX_PAT_RAW then
      d.set .X_LTX_PAT_RESTART n 1 else d
  (d.syncTx n).syncCourTx n

/-- R158: the lanes among `ls` whose staged value of `f` differs from the live one, and the value that the lowest of them
asks for. -/
def Dev.asking (d : Dev) (f : F) (ls : List Nat) : List Nat := ls.filter fun n => decide (d.get f n ≠ d.lget f n)

/-- R159: FAR_LOOP that the lanes `asks` of a group request, refused where a lane of the group is looped back, idle or in PATTERN,
or asks for such a source: for the resource answered. -/
def Dev.farRefused (d : Dev) (group srcAsks : List Nat) : Option Nat :=
  if group.any fun n => d.looped n then some 3
  else if (group.any fun n => d.lget .LTX_CTRL_SOURCE n == 1 || d.lget .LTX_CTRL_SOURCE n == 2) ||
      srcAsks.any fun n => d.get .LTX_CTRL_SOURCE n != 0 then some 2
  else none

/-- R158, R159: the FAR_LOOP requests of the lanes `ls` of a group: the lowest lane's goes live in all, or is refused in all. -/
def Dev.postFar (d : Dev) (by_ : Nat) (group ls srcAsks : List Nat) : Dev :=
  let asks := d.asking .LTX_CTRL_FAR_LOOP ls
  match asks with
  | [] => d
  | n0 :: _ =>
    let v := d.get .LTX_CTRL_FAR_LOOP n0
    let d := Dev.forList asks (fun n d => if d.get .LTX_CTRL_FAR_LOOP n = v then d else d.dropTx n) d
    match (if v = 1 then d.farRefused group srcAsks else none) with
    | some r => d.refuseTx r by_ (if r = 3 then d.get .X_LRX_LOOP_BY n0 else 1) group
    | none => Dev.forList group (fun n d =>
        ((d.set .LTX_CTRL_FAR_LOOP n v).lset .LTX_CTRL_FAR_LOOP n v).set .X_LTX_FAR_BY n (if v = 1 then by_ else 0)) d

/-- R158, R159: the SOURCE requests of the lanes `asks` of a group. Where one goes to or from PATTERN, the lowest lane's request
wins over different ones; a change to or from PATTERN covers the group. None leaves LIVE while FAR_LOOP is live. -/
def Dev.postSource (d : Dev) (by_ : Nat) (group asks : List Nat) : Dev :=
  match asks with
  | [] => d
  | n0 :: _ =>
    let pattern := fun n => d.get .LTX_CTRL_SOURCE n == 2 || d.lget .LTX_CTRL_SOURCE n == 2
    let v := d.get .LTX_CTRL_SOURCE n0
    let lost := asks.filter fun n => asks.any pattern && d.get .LTX_CTRL_SOURCE n != v
    let won := asks.filter fun n => !lost.contains n
    let won := if won.any pattern then group else won
    let d := Dev.forList lost (fun n d => d.dropTx n) d
    let new := won.map fun n => (n, if pattern n0 then v else d.get .LTX_CTRL_SOURCE n)
    let held := new.filter fun p => d.lget .LTX_CTRL_SOURCE p.1 == 0 && p.2 != 0 && d.lon .LTX_CTRL_FAR_LOOP p.1
    let d := d.refuseTx 2 by_ (d.get .X_LTX_FAR_BY n0) (held.map (·.1))
    Dev.forList (new.filter fun p => !held.contains p) (fun p d =>
      (d.set .LTX_CTRL_SOURCE p.1 p.2).lset .LTX_CTRL_SOURCE p.1 p.2) d

/-- R155, R156, R174: lane `n` sends idle fill in place of its source: it is in IDLE, or in LIVE without alignment-marker lock, or
in FAR_LOOP with no lane of its group LOCKED, without frame lock or with nothing in the buffer. -/
def Dev.sendsIdle (d : Dev) (n : Nat) : Bool :=
  match d.get .LTX_STATUS_SOURCE n with
  | 0 => !d.on .HOST_P_STATUS_AM_LOCK n
  | 1 => true
  | 3 => (d.timingLane n).isNone || d.sg (d.groupOf n) != sgLOCKED || (d.loopOf (d.groupOf n)).isEmpty
  | _ => false

/-! ## Commands -/

/-- LTX_CLEAR_STATS (R179). -/
def execLtxClearStats (n : Fin 64) (s : State) : Host.Outcome State Fault Refusal :=
  s.run fun d =>
    d.setAll [.LTX_FRAMES_COUNT, .LTX_CLIPS_TOTAL, .LTX_LOOP_STATUS_SLIPS, .LTX_EVENTS_DROP_COUNT] n 0

/-- SOURCE_SWITCH (R160): a frame boundary of the group of lane `n`. -/
def execSourceSwitch (n : Fin 64) (s : State) : Host.Outcome State Fault Refusal :=
  s.run fun d => Dev.forList (d.groupLanes n) Dev.switchSource d

/-- SQUELCH_IMMEDIATE (R167): lane `n` enters SQUELCH if an immediate cause holds. -/
def execSquelchImmediate (n : Fin 64) (s : State) : Host.Outcome State Fault Refusal :=
  s.run fun d =>
    let d := d.syncTx n
    if hasImmediate (d.get .LTX_STATUS_SQ_CAUSE n) then d.squelchNow n else d

/-- RAMP_START (R163): a frame boundary of the group of lane `n`. -/
def execRampStart (n : Fin 64) (s : State) : Host.Outcome State Fault Refusal :=
  s.run fun d => Dev.forList (d.groupLanes n) Dev.rampStart d

/-- RAMP_DONE (R163, R167): the ramp of lane `n` has run its symbols. -/
def execRampDone (n : Fin 64) (s : State) : Host.Outcome State Fault Refusal :=
  s.run fun d =>
    if d.tx n = txRAMP_UP ∨ d.tx n = txRAMP_DOWN then d.onTime (d.rampEnd n) fun d => d.rampDone n else d

/-- PATTERN_RESTART (R173): a frame boundary of the group of lane `n`. -/
def execPatternRestart (n : Fin 64) (s : State) : Host.Outcome State Fault Refusal :=
  s.run fun d => Dev.forList (d.groupLanes n) (fun m d =>
    if d.on .X_LTX_PAT_RESTART m then (d.set .X_LTX_PAT_CLK m d.clk).set .X_LTX_PAT_RESTART m 0 else d) d

/-- LOOP_CLOCK_SWITCH (R174): a frame boundary of the group of lane `n` after its timing lane left LOCKED. -/
def execLoopClockSwitch (n : Fin 64) (s : State) : Host.Outcome State Fault Refusal :=
  s.run fun d => Dev.forList (d.groupLanes n) (fun m d =>
    if d.get .LTX_STATUS_SOURCE m = 3 ∧ d.timingGone m then d.takeTiming m else d) d

/-- LOOP_RECENTRE (R175): the buffer of the group of lane `n` holds fewer than one frame or all four: the frame sent last is
repeated, or the oldest is dropped (DESIGN CHOICE, log entry 73: which one). -/
def execLoopRecentre (n : Fin 64) (s : State) : Host.Outcome State Fault Refusal :=
  s.run fun d =>
    let g := d.groupOf n
    let l := d.loopOf g
    let lanes := (d.groupLanes n).filter fun m => d.get .LTX_STATUS_SOURCE m == 3
    if !lanes.isEmpty && (l.length == 0 || l.length == 4) then
      let others := d.loops.filter fun y => y.group != g
      let again : LoopFrame := ((d.looped_.find? fun y => y.group == g).getD ⟨g, []⟩)
      let d := ({ d with loops := others ++ (if l.isEmpty then [again] else l.drop 1) }).showLoop g
      Dev.forList lanes (fun m d =>
        ((d.addSat .LTX_LOOP_STATUS_SLIPS m 1).set .LTX_EVENTS_LOOP_SLIP m 1).raiseLane m 7) d
    else d

/-- TX_PLL_LOCK (R169 step 2). -/
def execTxPllLock (e : Fin 8) (s : State) : Host.Outcome State Fault Refusal :=
  s.run fun d =>
    if d.get .X_LTX_START e = 1 then
      Dev.forList (lanesOf e) (fun n d => d.set .LTX_STATUS_PLL_LOCK n 1) (d.set .X_LTX_START e 2)
    else d

end Sys2Proof.Machine
end

