-- ==== Sys2Proof/Machine/Laser.lean ====
section
/-! DEFINITION. Laser sources and the two-wire masters (R561 to R566). -/

namespace Sys2Proof.Machine

open Sys2Proof

/-- States of SYS_LS_STATUS.STATE (R561). -/
def lsOFF : Nat := 0
def lsABSENT : Nat := 1
def lsSETTLING : Nat := 2
def lsINIT : Nat := 3
def lsREADY : Nat := 4
def lsFAULT : Nat := 5

/-- The state of the laser source of engine `e`. -/
def Dev.ls (d : Dev) (e : Nat) : Nat := d.get .SYS_LS_STATUS_STATE e

/-- R561: the state changes; `ev` are the events that come with it. -/
def Dev.lsEnter (d : Dev) (e st : Nat) (ev : List F) : Dev :=
  let d := if d.ls e = st then d else (d.set .SYS_LS_STATUS_STATE e st).set .SYS_LS_EVENTS_STATE_CHANGE e 1
  (d.setAll ev e 1).syncLaser e

/-- LS_RESET_L low and LS_LPMODE high. -/
def Dev.lsHold (d : Dev) (e : Nat) : Dev := d.setAll [.SYS_LS_STATUS_RESET_OUT, .SYS_LS_STATUS_LPMODE_OUT] e 1

/-- R162 bit 3: the laser source is not ready any more. -/
def Dev.lsLost (d : Dev) (e : Nat) : Dev :=
  Dev.forList (lanesOf e) (fun n d => d.syncTx n) (d.set .X_LS_ABSENT e 1)

/-- R561: SETTLING begins. -/
def Dev.lsSettle (d : Dev) (e : Nat) (ev : List F) : Dev := (d.set .X_LS_CLK e d.clk).lsEnter e lsSETTLING ev

/-- R561: an acceptance with engine `e` used. -/
def Dev.lsAccept (d : Dev) (e : Nat) : Dev :=
  if d.ls e = lsOFF then
    if d.on .SYS_LS_STATUS_PRESENT e then d.lsSettle e [] else d.lsEnter e lsABSENT []
  else d

/-- R561: engine `e` is unused, or no plan is live. -/
def Dev.lsOff (d : Dev) (e : Nat) : Dev := ((d.lsHold e).lsEnter e lsOFF []).lsLost e

/-- R566: a transfer ends with a result. -/
def Dev.twEnd (d : Dev) (e result : Nat) : Dev :=
  let d := (d.set .SYS_TW_STATUS_BUSY e 0).set .SYS_TW_STATUS_RESULT e result
  (d.addSat .SYS_TW_STATUS_TRANSFERS e 1).raiseEngine e 4

/-- R561, R562: LS_PRESENT_L of engine `e` rises. A transfer that it aborts does not count as completed. -/
def Dev.lsRemove (d : Dev) (e : Nat) : Dev :=
  let st := d.ls e
  let d := d.set .SYS_LS_STATUS_PRESENT e 0
  let d := if st = lsOFF ∨ st = lsABSENT then (d.set .SYS_LS_EVENTS_REMOVED e 1).syncLaser e
    else ((d.lsHold e).lsEnter e lsABSENT [.SYS_LS_EVENTS_REMOVED]).lsLost e
  let d := d.latchZeros 0 fun i => biasEngine i == e && d.on .BIAS_C_CFG_ZERO_ON_LS i
  if d.on .SYS_TW_STATUS_BUSY e then (d.set .SYS_TW_STATUS_BUSY e 0).set .SYS_TW_STATUS_RESULT e 5 else d

/-- R561: FAULT is reached. -/
def Dev.lsFail (d : Dev) (e : Nat) : Dev := (d.lsHold e).lsEnter e lsFAULT [.SYS_LS_EVENTS_FAULT]

/-- R561: INIT begins. -/
def Dev.lsInit (d : Dev) (e : Nat) : Dev :=
  (((d.set .X_LS_CLK e d.clk).set .X_LS_POLL e d.clk).set .X_LS_HITS e 0).lsEnter e lsINIT []

/-- R561: a poll reads module state `m`. -/
def Dev.lsPoll (d : Dev) (e m : Nat) : Dev :=
  let d := (d.set .SYS_LS_STATUS_MODSTATE e m).set .X_LS_POLL e d.clk
  if d.ls e = lsINIT then
    if m = 5 then d.lsFail e
    else if m = 3 ∧ !d.on .SYS_LS_STATUS_LPMODE_OUT e then
      if d.get .X_LS_HITS e = 1 then (d.set .X_LS_HITS e 0).lsEnter e lsREADY [.SYS_LS_EVENTS_READY]
      else d.set .X_LS_HITS e 1
    else d.set .X_LS_HITS e 0
  else if m = 3 then d.set .X_LS_HITS e 0
  else if d.get .X_LS_HITS e = 1 then (d.lsInit e).lsLost e
  else d.set .X_LS_HITS e 1

/-- R162: at a tick the cause of a laser source that is READY ends. -/
def Dev.lsTick (e : Nat) (d : Dev) : Dev :=
  if d.ls e = lsREADY ∧ d.on .X_LS_ABSENT e then
    Dev.forList (lanesOf e) (fun n d => d.syncTx n) (d.set .X_LS_ABSENT e 0)
  else d

/-- The bytes of SYS_TW_BUF. -/
def Dev.twBytes (d : Dev) (e n : Nat) : List Byte :=
  ((List.range 32).map fun i => leBytes 4 (d.get .SYS_TW_BUF_BYTES (32 * e + i))).flatten.take n

/-- Put bytes into SYS_TW_BUF from its start; the bytes behind them stay. -/
def Dev.putTw (d : Dev) (e : Nat) (bs : List Byte) : Dev :=
  let all := bs.take 128 ++ (d.twBytes e 128).drop bs.length
  Dev.each 32 (fun i d => d.set .SYS_TW_BUF_BYTES (32 * e + i) (ofLE ((all.drop (4 * i)).take 4))) d

/-- R565: the time of one bit at the rate of TW_SPEED: 100 kHz, 400 kHz or 1 MHz. -/
def Dev.twBit (d : Dev) (e : Nat) : Nat :=
  match d.get .SYS_LS_CTRL_TW_SPEED e with
  | 0 => 10 * us
  | 1 => 5 * us / 2
  | _ => us

/-- R565, R566: how long the transfer held takes on the two wires: nine bits a byte, with the address bytes, and the writes of bank
and page before it (DEDUCED from the rate; log entry 80). -/
def Dev.twTime (d : Dev) (e : Nat) : Nat :=
  let sel := fun (f g : F) => if 128 ≤ d.get .X_TW_ADDR e ∧ d.get f e ≠ d.get g e + 1 then 3 else 0
  let n := d.get .X_TW_LEN e + 1 + (if d.on .X_TW_WRITE e then 2 else 3) + sel .X_TW_BANK .X_TW_NBANK + sel .X_TW_PAGE .X_TW_NPAGE
  9 * n * d.twBit e

/-- R566: what the master writes of bank and page before a transfer to byte 128 or above. -/
def Dev.twSelect (d : Dev) (e page bank : Nat) : Dev :=
  let d := if d.get .X_TW_BANK e = bank + 1 then d else d.send (.twoWire e 126 [BitVec.ofNat 8 bank])
  if d.get .X_TW_PAGE e = page + 1 then d else d.send (.twoWire e 127 [BitVec.ofNat 8 page])

/-- R565, R566: a driver transfer is asked for. -/
def Dev.twStart (d : Dev) (e addr len : Nat) (write : Bool) (page bank : Nat) : Dev :=
  if d.on .SYS_TW_STATUS_BUSY e then d.set .SYS_TW_STATUS_RESULT e 6
  else if d.ls e = lsOFF ∨ d.ls e = lsABSENT then d.set .SYS_TW_STATUS_RESULT e 7
  else
    let d := ((d.set .SYS_TW_STATUS_BUSY e 1).set .X_TW_ADDR e addr).set .X_TW_LEN e len
    let d := (((d.set .X_TW_WRITE e (b2n write)).set .X_TW_NPAGE e page).set .X_TW_NBANK e bank).set .X_TW_CLK e d.clk
    let d := if 128 ≤ addr then d.twSelect e page bank else d
    if write then d.send (.twoWire e addr (d.twBytes e (len + 1))) else d

/-- LS_INSERTED (R561): LS_PRESENT_L of engine `e` falls. -/
def execLsInserted (e : Fin 8) (s : State) : Host.Outcome State Fault Refusal :=
  s.run fun d =>
    let d := d.set .SYS_LS_STATUS_PRESENT e 1
    if d.ls e = lsABSENT then (d.addSat .SYS_LS_STATUS_INSERTIONS e 1).lsSettle e [.SYS_LS_EVENTS_INSERTED]
    else (d.set .SYS_LS_EVENTS_INSERTED e 1).syncLaser e

/-- LS_REMOVED (R562): LS_PRESENT_L of engine `e` rises. -/
def execLsRemoved (e : Fin 8) (s : State) : Host.Outcome State Fault Refusal := s.run fun d => d.lsRemove e

/-- LS_SETTLED (R561): LS_PRESENT_L has been low throughout 10 ms. -/
def execLsSettled (e : Fin 8) (s : State) : Host.Outcome State Fault Refusal :=
  s.run fun d =>
    if d.ls e = lsSETTLING ∧ d.on .SYS_LS_STATUS_PRESENT e then
      d.onTime (d.get .X_LS_CLK e + 10 * ms) fun d =>
        let d := d.set .SYS_LS_STATUS_RESET_OUT e 0
        (if d.on .SYS_LS_CTRL_AUTO_HP e then d.set .SYS_LS_STATUS_LPMODE_OUT e 0 else d).lsInit e
    else d

/-- LS_POLL (R561): a module-state poll reads `m`: every 10 ms in INIT, every 100 ms in READY, between driver transfers. -/
def execLsPoll (e : Fin 8) (m : BitVec 3) (s : State) : Host.Outcome State Fault Refusal :=
  s.run fun d =>
    if (d.ls e = lsINIT ∨ d.ls e = lsREADY) ∧ !d.on .SYS_TW_STATUS_BUSY e then
      d.onTime (d.get .X_LS_POLL e + (if d.ls e = lsINIT then 10 * ms else 100 * ms)) fun d => d.lsPoll e m.toNat
    else d

/-- LS_INIT_TIMEOUT (R561): INIT has lasted TIMEOUT. -/
def execLsInitTimeout (e : Fin 8) (s : State) : Host.Outcome State Fault Refusal :=
  s.run fun d =>
    if d.ls e = lsINIT then
      d.onTime (d.get .X_LS_CLK e + max 1 (d.get .SYS_LS_CTRL_TIMEOUT e) * 100 * ms) fun d => d.lsFail e
    else d

/-- LS_RETRY (R561): SYS_LS_CMD.RETRY. -/
def execLsRetry (e : Fin 8) (s : State) : Host.Outcome State Fault Refusal :=
  s.run fun d => if d.ls e = lsFAULT ∧ d.on .SYS_LS_STATUS_PRESENT e then d.lsSettle e [] else d

/-- LS_INT (R564): LS_INT_L of engine `e` falls, or rises. -/
def execLsInt (e : Fin 8) (low : Bool) (s : State) : Host.Outcome State Fault Refusal :=
  s.run fun d =>
    let d := d.set .SYS_LS_STATUS_INT e (b2n low)
    if low then (d.set .SYS_LS_EVENTS_INT e 1).syncLaser e else d

/-- TW_TRANSFER_CMD (R566): a write to SYS_TW_CMD. `len` is the number of bytes less 1. -/
def execTwTransferCmd (e : Fin 8) (addr : Byte) (len : BitVec 7) (write : Bool) (page bank : Byte) (s : State) :
    Host.Outcome State Fault Refusal :=
  s.run fun d => d.twStart e addr.toNat len.toNat write page.toNat bank.toNat

/-- TW_TRANSFER_DONE (R565, R566): the transfer ends; `data` are the bytes that it read. -/
def execTwTransferDone (e : Fin 8) (result : TwEnd) (data : List Byte) (s : State) : Host.Outcome State Fault Refusal :=
  s.run fun d =>
    if d.on .SYS_TW_STATUS_BUSY e then
      match result with
      | .stuck => d.twEnd e 4
      | .nack => d.twEnd e 2
      | .done => d.onTime (d.get .X_TW_CLK e + d.twTime e) fun d =>
        let d := if 128 ≤ d.get .X_TW_ADDR e then
            (d.set .X_TW_PAGE e (d.get .X_TW_NPAGE e + 1)).set .X_TW_BANK e (d.get .X_TW_NBANK e + 1) else d
        (if d.on .X_TW_WRITE e then d else d.putTw e (data.take (d.get .X_TW_LEN e + 1))).twEnd e 1
    else d

/-- TW_STRETCH_TIMEOUT (R565): the laser source has stretched the clock for more than 10 ms. -/
def execTwStretchTimeout (e : Fin 8) (s : State) : Host.Outcome State Fault Refusal :=
  s.run fun d =>
    if d.on .SYS_TW_STATUS_BUSY e then d.onTime (d.get .X_TW_CLK e + 10 * ms) fun d => d.twEnd e 3 else d

end Sys2Proof.Machine
end

