-- ==== Sys2Proof/Machine/PlanCheck.lean ====
section
/-! DEFINITION. Validation of a sorting plan image (R62 to R70, R78, R79) with the section tables of R231, R295, R309, R366,
R406, R417, R469, R524 and R544. An image is read through a function from byte offset to byte value. -/

namespace Sys2Proof.Machine

open Sys2Proof

/-- A section found by the walk: its TYPE, the offset of its section header and its BODY_LEN. -/
structure Sect where
  type : Nat
  off  : Nat
  len  : Nat
  deriving DecidableEq, Repr

/-- An error: the byte offset and the code. -/
abbrev PlanErr := Nat × Nat

/-- 16 and 32 bits of an image, little-endian. -/
def rd16 (rd : Nat → Nat) (o : Nat) : Nat := rd o + 256 * rd (o + 1)
def rd32 (rd : Nat → Nat) (o : Nat) : Nat := rd16 rd o + 65536 * rd16 rd (o + 2)

/-- The bytes `a` to `a + n - 1` of an image. -/
def rdBytes (rd : Nat → Nat) (a n : Nat) : List Byte := (List.range n).map fun i => BitVec.ofNat 8 (rd (a + i))

/-- An error where a condition holds. -/
def errIf (b : Bool) (off code : Nat) : List PlanErr := if b then [(off, code)] else []
/-- An error where one of the bytes `a` to `a + n - 1`, one reserved field, is not 0. -/
def errBytes (rd : Nat → Nat) (a n code : Nat) : List PlanErr := errIf ((List.range n).any fun i => rd (a + i) != 0) a code

/-- R78: the first error: the lowest offset, and there the lowest code. -/
def firstErr (l : List PlanErr) : Option PlanErr :=
  l.foldl (fun b e => match b with
    | none => some e
    | some x => if e.1 < x.1 ∨ (e.1 = x.1 ∧ e.2 < x.2) then some e else some x) none

/-! ## Header and section walk (R63, R64, R66) -/

/-- Step 1 of R78. -/
def checkHeader (rd : Nat → Nat) : Option PlanErr :=
  let len := rd32 rd 8
  (errIf (rd32 rd 0 != 0x4C505354) 0 0x01 ++ errIf (rd16 rd 4 != 1) 4 0x02 ++
    errIf (decide (len < 64 ∨ 2 ^ 20 < len ∨ len % 4 ≠ 0)) 8 0x03 ++ errIf (rd16 rd 0x10 != 0x5164) 0x10 0x04 ++
    errIf (decide (rd16 rd 0x12 < 1 ∨ 11 < rd16 rd 0x12)) 0x12 0x0C ++ errBytes rd 6 2 0x0F ++ errBytes rd 0x1C 4 0x0F ++
    errBytes rd 0x30 16 0x0F ++
    errIf ((crc32 (rdBytes rd 0x10 (min len (2 ^ 20) - 0x10))).toNat != rd32 rd 0x0C) 0x0C 0x05).head?

/-- The checks of one section header at offset `o`, of an image of length `len`, after a section of type `last`. -/
def checkSect (rd : Nat → Nat) (len o last : Nat) : Option PlanErr :=
  let t := rd16 rd o
  let n := rd32 rd (o + 4)
  (errIf (decide (len < o + 16)) o 0x0E ++ errIf (decide (t < 1 ∨ 11 < t)) o 0x08 ++ errIf (decide (t ≤ last)) o 0x09 ++
    errIf (rd (o + 2) != 1) (o + 2) 0x0D ++ errBytes rd (o + 3) 1 0x0F ++ errBytes rd (o + 12) 4 0x0F ++
    errIf (n % 4 != 0) (o + 4) 0x07 ++ errIf (decide (len < o + 16 + n)) (o + 4) 0x06 ++
    errIf (n ≤ 2 ^ 20 ∧ (crc32 (rdBytes rd (o + 16) (min n (2 ^ 20)))).toNat != rd32 rd (o + 8)) (o + 8) 0x0B).head?

/-- Step 2 of R78: the walk from offset `o`; at most `fuel` sections, each of a higher type than `last`. -/
def walk (rd : Nat → Nat) (len : Nat) : Nat → Nat → Nat → Except PlanErr (List Sect)
  | 0, _, _ => .ok []
  | fuel + 1, o, last =>
    if o = len then .ok []
    else match checkSect rd len o last with
      | some e => .error e
      | none =>
        match walk rd len fuel (o + 16 + rd32 rd (o + 4)) (rd16 rd o) with
        | .ok l => .ok (⟨rd16 rd o, o, rd32 rd (o + 4)⟩ :: l)
        | .error e => .error e

/-- The section of a type. -/
def sectOf (ss : List Sect) (t : Nat) : Option Sect := ss.find? fun x => x.type == t

/-! ## TOPOLOGY (R67, R68, step 3) -/

/-- What the checks after the walk read of TOPOLOGY and SPREAD: image, and the offset of the TOPOLOGY body. -/
structure Topo where
  mode  : List Nat
  width : List Nat
  deriving DecidableEq, Repr

/-- The mode and the spread width of an engine. -/
def Topo.modeOf (t : Topo) (e : Nat) : Nat := t.mode.getD e 0
def Topo.widthOf (t : Topo) (e : Nat) : Nat := 2 ^ min 3 (t.width.getD e 3)
/-- The engine is used. -/
def Topo.used (t : Topo) (e : Nat) : Bool := t.modeOf e != 0

/-- The TOPOLOGY and SPREAD sections of an image. -/
def topoOf (rd : Nat → Nat) (ss : List Sect) : Topo where
  mode := (List.range 8).map fun e =>
    match sectOf ss 1 with
    | some x => rd (x.off + 16 + 8 * e)
    | none => 0
  width := (List.range 8).map fun e =>
    match sectOf ss 2 with
    | some x => rd (x.off + 16 + e)
    | none => 3

/-- The offset of the record of lane `n` in a TOPOLOGY body at `b`. -/
def laneRec (b n : Nat) : Nat := b + 64 + 4 * n

/-- The host lanes that the record of a lane names. -/
def hostsOf (rd : Nat → Nat) (t : Topo) (b n : Nat) : List Nat :=
  if t.used (engineOf n) then
    ([rd (laneRec b n)] ++ if t.modeOf (engineOf n) = 1 then [rd (laneRec b n + 1)] else []).filter fun h => decide (h < 128)
  else []

/-- The errors of the record of one lane. DESIGN CHOICE (log entry 62): 0x43 is shown at HOST_B, and a lane of an unused engine
maps no host lane, so that 0x41 and 0x42 are not judged there; a number above 127 has 0x45 there too. -/
def checkLane (rd : Nat → Nat) (t : Topo) (b n : Nat) : List PlanErr :=
  let o := laneRec b n
  let m := t.modeOf (engineOf n)
  let a := rd o
  let h := rd (o + 1)
  let l := rd (o + 2)
  let taken := fun (x : Nat) => decide (x < 128) && (List.range n).any fun k => (hostsOf rd t b k).contains x
  let away := fun (x : Nat) => decide (x < 128) && x / 32 != tileOf n
  (if m = 0 then errIf (decide (127 < a ∧ a ≠ 255)) o 0x45 ++ errIf (decide (127 < h ∧ h ≠ 255)) (o + 1) 0x45 ++
      errIf (a != 255) o 0x46 ++ errIf (h != 255) (o + 1) 0x46 ++ errIf (l != 0) (o + 2) 0x46
    else errIf (away a) o 0x41 ++ errIf (taken a) o 0x42 ++ errIf (a == 255) o 0x44 ++
      errIf (decide (127 < a ∧ a ≠ 255)) o 0x45 ++ errIf (away h) (o + 1) 0x41 ++ errIf (taken h) (o + 1) 0x42 ++
      if m = 1 then errIf (a / 2 != h / 2 || a == h) (o + 1) 0x43 ++ errIf (decide (127 < h ∧ h ≠ 255)) (o + 1) 0x45
        else errIf (h != 255) (o + 1) 0x44) ++
    errIf (decide (8 ≤ l)) (o + 2) 0x47 ++ errIf (rd (o + 3) != 0) (o + 3) 0x47

/-- Step 3 of R78. -/
def checkTopology (rd : Nat → Nat) (t : Topo) (x : Sect) : Option PlanErr :=
  if x.len ≠ 320 then some (x.off + 4, 0x48)
  else
    let b := x.off + 16
    firstErr (((List.range 8).map fun e =>
        errIf (decide (3 < rd (b + 8 * e))) (b + 8 * e) 0x40 ++ errBytes rd (b + 8 * e + 1) 7 0x47).flatten ++
      ((List.range 64).map fun n => checkLane rd t b n).flatten)

/-! ## Resources (R88, step 4) -/

/-- Unordered pairs `(i, j)` with `i < j < n`. -/
def pairsBelow (n : Nat) : List (Nat × Nat) := ((List.range n).map fun j => (List.range j).map fun i => (i, j)).flatten

/-- The conflicts of the CAPTURE section at body offset `b`; `cap` is the installed capacity in 64 MiB units, where it is
known. -/
def captureConflicts (rd : Nat → Nat) (cap : Option Nat) (taken : Nat → Bool) (b : Nat) : List PlanErr :=
  let base := fun r => rd32 rd (b + 16 * r)
  let size := fun r => rd32 rd (b + 16 * r + 4)
  let meets := fun i j => decide (0 < size i ∧ 0 < size j ∧ base i < base j + size j ∧ base j < base i + size i)
  ((List.range 8).map fun i => errIf (taken (rd (b + 64 + 16 * i))) (b + 64 + 16 * i) 0x80).flatten ++
    ((pairsBelow 4).map fun p => errIf (meets p.1 p.2) (b + 16 * p.2) 0x82).flatten ++
    (match cap with
      | some c => ((List.range 4).map fun r =>
          errIf (decide (0 < size r ∧ c < base r + size r)) (b + 16 * r + 4) 0x83).flatten
      | none => []) ++
    ((pairsBelow 8).map fun p => errIf (decide (rd (b + 196 + 4 * p.1) ≤ 7) && rd (b + 196 + 4 * p.1) == rd (b + 196 + 4 * p.2))
      (b + 196 + 4 * p.2) 0x89).flatten

/-- The target identifiers of a PIGEONHOLE section, as far as its body goes. -/
def targetIds (rd : Nat → Nat) (x : Sect) : List Nat :=
  ((List.range (min 74 (rd (x.off + 17)))).filter fun i => decide (2052 + 8 * i + 8 ≤ x.len)).map fun i =>
    rd (x.off + 16 + 2052 + 8 * i)

/-- The conflicts of the PIGEONHOLE section. -/
def pigeonholeConflicts (rd : Nat → Nat) (x : Sect) : List PlanErr :=
  let b := x.off + 16
  let n := rd (b + 1)
  let ids := targetIds rd x
  errIf (bitAt (rd b) 0 && decide (16 < n)) (b + 1) 0x84 ++ errIf (decide (74 < n)) (b + 1) 0x85 ++
    ((List.range 1024).map fun s =>
      let t := rd (b + 5 + 2 * s) % 128
      errIf (t != 127 && !ids.contains t) (b + 5 + 2 * s) 0x85).flatten

/-- The first lane of the spread group of a lane. -/
def Topo.first (t : Topo) (n : Nat) : Nat := n - n % t.widthOf (engineOf n)

/-- The conflicts of 0x87 and 0x88 within TOPOLOGY. -/
def loopConflicts (rd : Nat → Nat) (t : Topo) (b : Nat) : List PlanErr :=
  ((List.range 64).map fun n =>
    let l := rd (laneRec b n + 2)
    errIf (bitAt l 1 && bitAt l 2) (laneRec b n + 2) 0x87 ++
      errIf (t.used (engineOf n) && l / 2 % 4 != rd (laneRec b (t.first n) + 2) / 2 % 4) (laneRec b n + 2) 0x88).flatten

/-- The conflicts of 0x88 within POWER: the records of the members of a sleep group differ (R511). -/
def powerConflicts (rd : Nat → Nat) (t : Topo) (b : Nat) : List PlanErr :=
  ((List.range 128).map fun k =>
    let n := k % 64
    let o := b + 8 + 8 * k
    let f := b + 8 + 8 * (k - n + t.first n)
    if t.used (engineOf n) then
      errIf (rd32 rd o != rd32 rd f) o 0x88 ++ errIf (rd32 rd (o + 4) != rd32 rd (f + 4)) (o + 4) 0x88
    else []).flatten

/-- Step 4 of R78: the lowest code, and of its conflicts the one whose later field lies lowest. -/
def checkResources (rd : Nat → Nat) (cap : Option Nat) (t : Topo) (ss : List Sect) : Option PlanErr :=
  let tb := ((sectOf ss 1).map fun x => x.off + 16).getD 0
  let taken := fun h => decide (h < 128) && (List.range 64).any fun n => (hostsOf rd t tb n).contains h
  let l := loopConflicts rd t tb ++
    (match sectOf ss 4 with
      | some x => if 228 ≤ x.len then captureConflicts rd cap taken (x.off + 16) else []
      | none => []) ++
    (match sectOf ss 5 with
      | some x => if 2052 ≤ x.len then pigeonholeConflicts rd x else []
      | none => []) ++
    (match sectOf ss 6 with
      | some x => if 1272 ≤ x.len then powerConflicts rd t (x.off + 16) else []
      | none => [])
  (firstErr (l.map fun e => (e.2, e.1))).map fun e => (e.2, e.1)

/-! ## Sections (step 5) -/

/-- SPREAD (R69, R231). -/
def checkSpread (rd : Nat → Nat) (t : Topo) (b : Nat) : List PlanErr :=
  ((List.range 8).map fun e =>
    errIf (t.used e && decide (3 < rd (b + e))) (b + e) 0xC0 ++
    errIf (decide (rd (b + 8 + e) < 1 ∨ 6 < rd (b + 8 + e))) (b + 8 + e) 0xC0 ++
    errIf (decide (rd (b + 16 + e) < max 1 (rd (b + 8 + e)) ∨ 6 < rd (b + 16 + e))) (b + 16 + e) 0xC0).flatten ++
  errIf (decide (rd16 rd (b + 24) < 1 ∨ 4095 < rd16 rd (b + 24))) (b + 24) 0xC0 ++ errIf (decide (8 < rd (b + 26))) (b + 26) 0xC0 ++
  errIf (rd (b + 27) == 0) (b + 27) 0xC0 ++ errBytes rd (b + 31) 1 0xC3 ++
  ((List.range 4).map fun i =>
    errIf (decide (rd16 rd (b + 34 + 2 * i) < rd16 rd (b + 32 + 2 * i))) (b + 34 + 2 * i) 0xC0).flatten ++ errBytes rd (b + 42) 6 0xC3

/-- COURIER (R295). -/
def checkCourier (rd : Nat → Nat) (t : Topo) (b : Nat) : List PlanErr :=
  errIf (decide (2 ≤ rd b)) b 0xC7 ++ errIf (decide (rd (b + 1) < 16 ∨ 240 < rd (b + 1))) (b + 1) 0xC4 ++
  errIf (decide (rd (b + 2) < 50 ∨ 63 < rd (b + 2))) (b + 2) 0xC4 ++ errBytes rd (b + 3) 1 0xC7 ++
  ((List.range 64).map fun n =>
    let o := b + 4 + 196 * n
    errIf (decide (3 < rd o)) o 0xC4 ++ errIf (decide (8 ≤ rd (o + 1))) (o + 1) 0xC7 ++
    errIf (!t.used (engineOf n) && rd (o + 1) % 8 != 0) (o + 1) 0x46 ++ errBytes rd (o + 2) 2 0xC7 ++
    ((List.range 4).map fun m =>
      errIf ((List.range 48).any fun i => decide (4 < rd (o + 4 + 48 * m + i) % 16 ∨ 4 < rd (o + 4 + 48 * m + i) / 16))
        (o + 4 + 48 * m) 0xC4).flatten).flatten

/-- CAPTURE (R309, R310). -/
def checkCapture (rd : Nat → Nat) (b : Nat) : List PlanErr :=
  let lane := fun i => rd (b + 64 + 16 * i)
  ((List.range 4).map fun r =>
    errIf (r != 3 && rd32 rd (b + 16 * r + 4) == 0) (b + 16 * r + 4) 0xC8 ++ errBytes rd (b + 16 * r + 8) 8 0xCB).flatten ++
  ((List.range 8).map fun i =>
    errIf (decide (127 < lane i ∧ lane i ≠ 255)) (b + 64 + 16 * i) 0xC8 ++ errBytes rd (b + 65 + 16 * i) 1 0xCB).flatten ++
  ((List.range 2).map fun j => errIf (decide (3 < rd (b + 192 + j) ∧ rd (b + 192 + j) ≠ 255)) (b + 192 + j) 0xC8).flatten ++
  errBytes rd (b + 194) 2 0xCB ++
  ((List.range 8).map fun t =>
    let o := b + 196 + 4 * t
    let named := (List.range 8).filter fun i => bitAt (rd (o + 1)) i
    errIf (decide (7 < rd o ∧ rd o ≠ 255)) o 0xC8 ++
    errIf (named.any fun i => lane i == 255 || named.any fun j => lane i / 32 != lane j / 32) (o + 1) 0xC9 ++
    errBytes rd (o + 2) 2 0xCB).flatten

/-- PIGEONHOLE (R469). -/
def checkPigeonhole (rd : Nat → Nat) (t : Topo) (x : Sect) : List PlanErr :=
  let b := x.off + 16
  let ids := targetIds rd x
  errIf (decide (2 ≤ rd b)) b 0xCF ++ errBytes rd (b + 2) 2 0xCF ++
  ((List.range 1024).map fun s =>
    let o := b + 4 + 2 * s
    let w := rd16 rd o
    errIf (s == 0 && w != 0x7F00) o 0xCC ++ errIf (w / 32 % 8 != 0) o 0xCF ++
    errIf (decide (74 ≤ w / 256 % 128 ∧ w / 256 % 128 ≤ 126)) (o + 1) 0xCC ++ errIf (decide (2 ^ 15 ≤ w)) (o + 1) 0xCF).flatten ++
  ((List.range (min 74 (rd (b + 1)))).map fun i =>
    let o := b + 2052 + 8 * i
    let id := rd o
    errIf (decide (73 < id) || (ids.take i).contains id) o 0xCC ++
    errIf (decide (64 ≤ id ∧ id < 72) && !t.used (id - 64)) o 0xCD ++ errIf (rd (o + 1) == 0) (o + 1) 0xCC ++
    errIf (decide (rd16 rd (o + 2) < 1 ∨ 2048 < rd16 rd (o + 2))) (o + 2) 0xCC ++ errBytes rd (o + 4) 4 0xCF).flatten

/-- A domain belongs to an unused engine. -/
def Topo.unusedDom (t : Topo) (k : Nat) : Bool :=
  (decide (k < 128) && !t.used (engineOf (k % 64))) || (decide (128 ≤ k ∧ k < 136) && !t.used (k - 128))

/-- POWER (R524). -/
def checkPower (rd : Nat → Nat) (t : Topo) (b : Nat) : List PlanErr :=
  ((List.range 4).map fun i => errIf (decide (3 < rd (b + i))) (b + i) 0xD0).flatten ++ errBytes rd (b + 4) 4 0xD3 ++
  ((List.range 158).map fun k =>
    let o := b + 8 + 8 * k
    errIf (rd o % 16 &&& (15 - capable k) != 0 || (bitAt (rd o) 4 && decide (64 ≤ k))) o 0xD0 ++
    errIf (t.unusedDom k && (List.range 8).any fun i => rd (o + i) != 0) o 0xD1 ++
    errIf (decide (32 ≤ rd o)) o 0xD3 ++ errBytes rd (o + 1) 3 0xD3).flatten

/-- THERMAL (R544). -/
def checkThermal (rd : Nat → Nat) (b : Nat) : List PlanErr :=
  let cap := fun i => rd (b + 6 + i) % 16
  let lvl := fun i => rd (b + 6 + i) / 16 % 4
  errIf (decide (rd16 rd b < 5 ∨ 100 < rd16 rd b)) b 0xD4 ++ errIf (decide (rd (b + 2) < 1 ∨ 15 < rd (b + 2))) (b + 2) 0xD4 ++
  errIf (decide (14 < rd (b + 3))) (b + 3) 0xD4 ++ errIf (decide (rd (b + 3) < rd (b + 4))) (b + 4) 0xD4 ++
  errIf (rd (b + 5) == 0) (b + 5) 0xD4 ++
  ((List.range 4).map fun i =>
    errIf (decide (cap i < 1 ∨ 8 < cap i) || (i != 0 && decide (cap (i - 1) < cap i ∨ lvl i < lvl (i - 1)))) (b + 6 + i) 0xD4 ++
    errIf (decide (64 ≤ rd (b + 6 + i))) (b + 6 + i) 0xD7).flatten ++ errBytes rd (b + 10) 2 0xD7 ++
  ((List.range 2).map fun z =>
    let o := b + 12 + 12 * z
    let v := fun j => sx 16 (rd16 rd (o + 2 * j))
    ((List.range 5).map fun j =>
      errIf (decide (v j < 500 ∨ 1150 < v j) || (j != 0 && decide (v j ≤ v (j - 1)))) (o + 2 * j) 0xD4).flatten ++
    errBytes rd (o + 10) 2 0xD7).flatten

/-- BIAS (R366). Channel records are in device-wide order (R343). -/
def checkBias (rd : Nat → Nat) (t : Topo) (b : Nat) : List PlanErr :=
  ((List.range 4).map fun i => errIf (decide (15 < rd (b + i))) (b + i) 0xD8).flatten ++ errBytes rd (b + 4) 4 0xDB ++
  ((List.range 160).map fun x =>
    let o := b + 8 + 8 * x
    let on := bitAt (rd o) 0
    errIf (on && decide (rd16 rd (o + 2) < 1 ∨ 4096 < rd16 rd (o + 2))) (o + 2) 0xD8 ++
    errIf (on && rd16 rd (o + 4) == 0) (o + 4) 0xD8 ++
    errIf (on && decide (rd16 rd (o + 6) < rd16 rd (o + 4))) (o + 6) 0xD8 ++
    errIf (on && !t.used (biasEngine (biasIx x))) o 0xD9 ++ errIf (decide (64 ≤ rd o)) o 0xDB ++
    errBytes rd (o + 1) 1 0xDB).flatten

/-- The BIAS section of an image enables tile-local channel `c` of tile `t`. -/
def biasPlanned (rd : Nat → Nat) (ss : List Sect) (t c : Nat) : Bool :=
  match sectOf ss 8 with
  | some x => (List.range 160).any fun k => biasIx k == 40 * t + c && bitAt (rd (x.off + 16 + 8 + 8 * k)) 0
  | none => false

/-- LEDGER (R417). -/
def checkLedger (rd : Nat → Nat) (t : Topo) (ss : List Sect) (b : Nat) : List PlanErr :=
  errIf (decide (rd b < 16 ∨ 24 < rd b)) b 0xDC ++ errIf (decide (rd (b + 1) < 16)) (b + 1) 0xDC ++
  errIf (rd16 rd (b + 2) == 65535) (b + 2) 0xDC ++ errBytes rd (b + 4) 4 0xDF ++
  ((List.range 64).map fun n =>
    let o := b + 8 + 24 * n
    let chan := fun (bit j : Nat) =>
      errIf (decide (39 < rd (o + j) ∧ rd (o + j) ≠ 255)) (o + j) 0xDC ++
      errIf (bitAt (rd o) bit && (rd (o + j) == 255 || !biasPlanned rd ss (tileOf n) (rd (o + j)))) (o + j) 0xDD
    errIf (bitAt (rd o) 0 && !t.used (engineOf n)) o 0xDD ++ chan 3 1 ++ chan 4 2 ++
    errIf (decide (32 < rd (o + 3))) (o + 3) 0xDC ++ errIf (decide (64 < rd (o + 4))) (o + 4) 0xDC ++
    errIf (decide (rd (o + 5) < 1 ∨ 6 < rd (o + 5))) (o + 5) 0xDC ++
    errIf (decide (rd (o + 10) < 1 ∨ 64 < rd (o + 10))) (o + 10) 0xDC ++
    errIf (decide (rd (o + 11) < 1 ∨ 64 < rd (o + 11))) (o + 11) 0xDC ++ errIf (rd16 rd (o + 20) == 0) (o + 20) 0xDC ++
    errBytes rd (o + 22) 2 0xDF).flatten

/-- CAL (R406). -/
def checkCal (rd : Nat → Nat) (b : Nat) : List PlanErr :=
  ((List.range 5).map fun c =>
    let o := b + 8 * c
    errIf (bitAt (rd o) 3 && c != 4) o 0xE0 ++ errIf (decide (16 ≤ rd o)) o 0xE3 ++
    errIf (decide (rd (o + 1) < 5)) (o + 1) 0xE0 ++ errBytes rd (o + 4) 4 0xE3).flatten

/-- TIMEBASE (R70). -/
def checkTimebase (rd : Nat → Nat) (b : Nat) : List PlanErr :=
  errIf (decide (6 < rd b)) b 0xE4 ++ errIf (decide (2 < rd (b + 1))) (b + 1) 0xE4 ++
    errIf (decide (3 < rd (b + 2))) (b + 2) 0xE4 ++ errBytes rd (b + 3) 5 0xE7

/-- BODY_LEN of a section type; for PIGEONHOLE as its N gives it. -/
def bodyLen (rd : Nat → Nat) (x : Sect) : Nat :=
  match x.type with
  | 2 => 48
  | 3 => 12548
  | 4 => 228
  | 5 => 2052 + 8 * rd (x.off + 17)
  | 6 => 1272
  | 7 => 36
  | 8 => 1288
  | 9 => 1544
  | 10 => 40
  | _ => 8

/-- Step 5 of R78 in one section: BODY_LEN, then the fields. -/
def checkBody (rd : Nat → Nat) (t : Topo) (ss : List Sect) (x : Sect) : Option PlanErr :=
  if x.type = 1 then none
  else if x.len ≠ bodyLen rd x then some (x.off + 4, 0xC2 + 4 * (x.type - 2))
  else
    let b := x.off + 16
    firstErr (match x.type with
      | 2 => checkSpread rd t b
      | 3 => checkCourier rd t b
      | 4 => checkCapture rd b
      | 5 => checkPigeonhole rd t x
      | 6 => checkPower rd t b
      | 7 => checkThermal rd b
      | 8 => checkBias rd t b
      | 9 => checkLedger rd t ss b
      | 10 => checkCal rd b
      | _ => checkTimebase rd b)

/-- R78: validation of an image: the first error, or the sections found. `cap` is the installed capacity in 64 MiB units,
where it is known. -/
def validate (rd : Nat → Nat) (cap : Option Nat) : Except PlanErr (List Sect) :=
  match checkHeader rd with
  | some e => .error e
  | none =>
    match walk rd (rd32 rd 8) 12 64 0 with
    | .error e => .error e
    | .ok ss =>
      let t := topoOf rd ss
      let later := errIf (ss.length != rd16 rd 0x12) 0x12 0x0C ++
        errIf ((sectOf ss 1).isNone || (sectOf ss 11).isNone) 0x12 0x0A
      let steps := [later.head?, ((sectOf ss 1).map fun x => checkTopology rd t x).getD none, checkResources rd cap t ss] ++
        ss.map fun x => checkBody rd t ss x
      match steps.findSome? id with
      | some e => .error e
      | none => .ok ss

end Sys2Proof.Machine
end

