-- ==== Sys2Proof/Machine/Housekeeping.lean ====
section
/-! DEFINITION. Housekeeping converters and filters (R369 to R388): sequences, conversions, moving averages, limits. -/

namespace Sys2Proof.Machine

open Sys2Proof

/-- States of HK_STATUS.STATE (R373). -/
def hkDOWN : Nat := 0
def hkSTARTING : Nat := 1
def hkCONVERTING : Nat := 2
def hkREADY : Nat := 3
def hkCAL : Nat := 4

/-- The state of the converter of tile `t`. -/
def Dev.hk (d : Dev) (t : Nat) : Nat := d.get .HK_STATUS_STATE t

/-! ## Filters (R379 to R382) -/

/-- R379: the length of a code. -/
def filterLen : Nat → Nat
  | 0 => 1 | 1 => 2 | 2 => 3 | 3 => 4 | 4 => 5 | 5 => 6 | 6 => 8 | 7 => 10 | 8 => 12 | 9 => 16 | 10 => 24 | 11 => 32
  | 12 => 64 | 13 => 128 | 14 => 256 | _ => 512

/-- The history of channel `i` = 48t + c. -/
def Dev.history (d : Dev) (i : Nat) : List Nat :=
  match d.hist.find? fun h => h.chan == i with
  | some h => h.res
  | none => []

/-- Replace the history of a channel. -/
def Dev.setHistory (d : Dev) (i : Nat) (l : List Nat) : Dev :=
  let rest := d.hist.filter fun h => h.chan != i
  { d with hist := if l.isEmpty then rest else (⟨i, l⟩ : HkHist) :: rest }

/-- R379: the filter output for a length code over a history. -/
def average (code : Nat) (h : List Nat) : Nat :=
  let n := min (filterLen code) h.length
  16 * (h.take n).sum / n

/-- R380: a synchronising reset of a channel. A waiting length becomes live at once (R382). -/
def Dev.syncReset (i : Nat) (d : Dev) : Dev :=
  let d := d.setHistory i []
  let d := if d.on .HK_CH_RAW_LEN_PENDING i then
      (d.set .HK_CH_RAW_LEN_LIVE i (d.get .X_HK_NEXT_LEN i)).set .HK_CH_RAW_LEN_PENDING i 0 else d
  (d.setAll [.HK_CH_RAW_FADE_LEFT, .HK_CH_RES_VALUE, .HK_CH_RES_TRANSITION, .X_HK_OUT] i 0).set .HK_CH_RES_PRIMING i 1

/-- The channel still primes: fewer than L results since its reset. -/
def Dev.priming (d : Dev) (i : Nat) : Bool :=
  decide ((d.history i).length < filterLen (d.get .HK_CH_RAW_LEN_LIVE i))

/-- R381: a length takes effect: with a cross-fade, or at once while the channel primes. -/
def Dev.takeLen (d : Dev) (i code : Nat) : Dev :=
  if d.priming i then d.set .HK_CH_RAW_LEN_LIVE i code
  else
    let d := (d.set .X_HK_OLD_LEN i (d.get .HK_CH_RAW_LEN_LIVE i)).set .HK_CH_RAW_LEN_LIVE i code
    d.set .HK_CH_RAW_FADE_LEFT i (filterLen code)

/-- R381, R382: a length goes live at a posting. -/
def Dev.postLen (d : Dev) (i code : Nat) : Dev :=
  if d.get .HK_CH_RAW_FADE_LEFT i ≠ 0 then
    if code = d.get .HK_CH_RAW_LEN_LIVE i then d.set .HK_CH_RAW_LEN_PENDING i 0
    else (d.set .HK_CH_RAW_LEN_PENDING i 1).set .X_HK_NEXT_LEN i code
  else if code = d.get .HK_CH_RAW_LEN_LIVE i then d
  else d.takeLen i code

/-- R385: an output is compared with the window. -/
def Dev.compareLimit (d : Dev) (i : Nat) : Dev :=
  if d.lon .HK_CH_LIMIT_EN i && !d.on .HK_CH_RES_PRIMING i then
    let v := d.get .HK_CH_RES_VALUE i / 16
    let out := decide (v < d.lget .HK_CH_LIMIT_LO i ∨ d.lget .HK_CH_LIMIT_HI i < v)
    let was := d.on .X_HK_OUT i
    let d := d.set .X_HK_OUT i (b2n out)
    if out && !was then
      let t := i / 48
      let c := i % 48
      let d := if c < 32 then d.orBits .HK_LIMIT_EV0_CHANNELS t (2 ^ c) else d.orBits .HK_LIMIT_EV1_CHANNELS t (2 ^ (c - 32))
      (d.set .HK_EVENTS_LIMIT t 1).syncHk t
    else d
  else d

/-- R407: an output of a photodiode channel without a flag counts for the received power of its lane. The GAIN codes
differ by factors of 4 (R370). -/
def Dev.notePower (d : Dev) (i v : Nat) : Dev :=
  if i % 48 < 16 && !d.on .HK_CH_RES_PRIMING i && !d.on .HK_CH_RES_TRANSITION i && !d.on .HK_CH_RES_STALE i then
    let n := 16 * (i / 48) + i % 48
    (d.addSat .X_LG_PD_SUM n (v * 4 ^ (3 - d.lget .HK_CH_CFG_GAIN i))).addSat .X_LG_PD_N n 1
  else d

/-- R379, R381: a kept result enters the history of its channel and makes an output. -/
def Dev.output (d : Dev) (i code : Nat) : Dev :=
  let h := (code :: d.history i).take 512
  let d := d.setHistory i h
  let len := d.get .HK_CH_RAW_LEN_LIVE i
  let left := d.get .HK_CH_RAW_FADE_LEFT i
  let n := filterLen len
  let v := if left = 0 then average len h
    else ((left - 1) * average (d.get .X_HK_OLD_LEN i) h + (n - (left - 1)) * average len h) / n
  let d := ((d.set .HK_CH_RES_VALUE i v).set .HK_CH_RES_PRIMING i (b2n (d.priming i))).set .HK_CH_RES_STALE i 0
  let d := (d.set .HK_CH_RES_TRANSITION i (b2n (left != 0))).addWrap .HK_CH_RES_COUNT i 1
  let d := d.notePower i v
  let d := d.set .HK_CH_RAW_FADE_LEFT i (left - 1)
  let d := if left = 1 ∧ d.on .HK_CH_RAW_LEN_PENDING i then
      (d.set .HK_CH_RAW_LEN_PENDING i 0).takeLen i (d.get .X_HK_NEXT_LEN i) else d
  d.compareLimit i

/-! ## Sequences and conversions (R371 to R377) -/

/-- R371, R378: the selection of channel `c` as live now. -/
def Dev.selection (d : Dev) (t c : Nat) : Nat :=
  let i := 48 * t + c
  if c < 16 then c + 64 * d.lget .HK_CH_CFG_GAIN i
  else if 24 ≤ c ∧ c < 32 then c + 64 * min 39 (d.lget .HK_CH_CFG_SUB i) + 4096 * d.lget .HK_CH_CFG_QTY i
  else c

/-- The channel of the entry in progress. -/
def Dev.entryChan (d : Dev) (t : Nat) : Nat := d.get .X_HK_ENT_CH (48 * t + d.get .HK_STATUS_ENTRY t)

/-- A conversion of the entry in progress begins at elapsed time `at_`. -/
def Dev.beginConversion (d : Dev) (t at_ : Nat) : Dev :=
  let sel := d.selection t (d.entryChan t)
  let disc := decide (sel ≠ d.get .X_HK_SEL t) || d.on .X_HK_FORCE t
  let d := ((d.set .X_HK_SEL t sel).set .X_HK_DISC t (b2n disc)).set .X_HK_FORCE t 0
  (d.set .HK_STATUS_STATE t hkCONVERTING).set .X_HK_CLK t at_

/-- The sequence in progress asks for its next conversion. -/
def Dev.hkRequest (d : Dev) (t : Nat) : Dev :=
  if d.hk t = hkDOWN then (d.set .HK_STATUS_STATE t hkSTARTING).set .X_HK_CLK t d.clk
  else if d.hk t = hkREADY then d.beginConversion t d.clk
  else d

/-- An entry of the sequence in progress begins. -/
def Dev.beginEntry (d : Dev) (t e : Nat) : Dev :=
  (d.set .HK_STATUS_ENTRY t e).set .X_HK_LEFT t (d.get .X_HK_ENT_N (48 * t + e))

/-- R374, R376, R378, R380: a sequence starts with the live entries. -/
def Dev.beginSequence (d : Dev) (t : Nat) : Dev :=
  let d := if d.on .X_HK_SYNC t then Dev.each 48 (fun c d => Dev.syncReset (48 * t + c) d) (d.set .X_HK_SYNC t 0) else d
  let d := Dev.each 48 (fun e d =>
    (d.set .X_HK_ENT_CH (48 * t + e) (min 47 (d.lget .HK_SEQ_CHANNEL (48 * t + e)))).set .X_HK_ENT_N (48 * t + e)
      (d.lget .HK_SEQ_REPEAT (48 * t + e) + 1)) d
  let d := (d.set .X_HK_LEN t (clampN 1 48 (d.lget .HK_CTRL_SEQ_LEN t))).set .X_HK_LOOP t (d.lget .HK_CTRL_LOOP t)
  let d := ((d.set .X_HK_RUN t 1).set .X_HK_WAIT t 0).set .HK_STATUS_BUSY t 1
  (d.set .HK_SEQ_TIME_TIME t d.now).beginEntry t 0

/-- R375: a start is lost. -/
def Dev.startMissed (d : Dev) (t : Nat) : Dev :=
  ((d.addSat .HK_COUNTS_STARTS_MISSED t 1).set .HK_EVENTS_START_MISSED t 1).syncHk t

/-- R374 to R376, R386: a start from the sources `src` (bit 0 software, 1 pin, 2 tick). -/
def Dev.hkStart (d : Dev) (t src : Nat) : Dev :=
  if !d.domOn (domHk t) then
    if bitAt src 2 then d.set .X_HK_WAKE t 1 else d
  else if d.get .X_HK_START t = d.clk + 1 then d.set .HK_STATUS_LAST_SRC t (d.get .HK_STATUS_LAST_SRC t ||| src)
  else if d.on .X_HK_RUN t then (if d.on .X_HK_LOOP t then d else d.startMissed t)
  else if d.on .X_HK_WAIT t then d.startMissed t
  else
    let d := (d.set .HK_STATUS_LAST_SRC t src).set .X_HK_START t (d.clk + 1)
    if d.hk t = hkCAL then (d.set .X_HK_WAIT t 1).set .HK_STATUS_BUSY t 1
    else (d.beginSequence t).hkRequest t

/-- R376, R377: a sequence completes; a loop begins again. -/
def Dev.endSequence (d : Dev) (t : Nat) : Dev :=
  let d := (d.set .HK_EVENTS_SEQ_DONE t 1).addWrap .HK_STATUS_SEQ_COUNT t 1
  let d := if d.lon .HK_CTRL_DONE_IRQ t then d.raiseTile t 14 else d
  if d.on .X_HK_LOOP t && d.lon .HK_CTRL_LOOP t then d.beginSequence t
  else d.setAll [.X_HK_RUN, .X_HK_LOOP, .HK_STATUS_BUSY] t 0

/-- R370: the input range of channel `c` of tile `t` as selected now: currents in pA, voltages in nV, the temperature of channel 45
in m°C. -/
def Dev.hkRange (d : Dev) (t c : Nat) : Int × Int :=
  let i := 48 * t + c
  let x := 40 * t + min 39 (d.lget .HK_CH_CFG_SUB i)
  let current := d.on .BIAS_C_CFG_FUNCTION x
  if c < 16 then (0, 2000000000 / 4 ^ d.lget .HK_CH_CFG_GAIN i)
  else if 24 ≤ c ∧ c < 32 then
    if !d.lon .HK_CH_CFG_QTY i then (0, 1000 * fullScale current (d.on .BIAS_C_CFG_RANGE x))
    else if current then (0, 5000000000) else (-12000000000, 12000000000)
  else if c = 41 ∨ c = 42 then (0, 3000000000)
  else if c = 44 then (0, 6000000000)
  else if c = 45 then (-40000, 216000)
  else (0, 1500000000)

/-- R369: the code of an input: input over full scale times 4,096, rounded down and saturated. -/
def Dev.hkCode (d : Dev) (t : Nat) (input : Int) : Nat :=
  let r := d.hkRange t (d.entryChan t)
  (clampI 0 4095 ((input - r.1) * 4096 / (r.2 - r.1))).toNat

/-- R384, R419: a code with the live trims of the converter: offset in 1/16 code, gain in 2^-16 (DEDUCED, log entry 76: both
added). -/
def Dev.hkTrimmed (d : Dev) (t code : Nat) : Nat :=
  let w := d.lget .CAL_TRIM_WORD (64 * (128 + t))
  let x : Int := 65536 * code + code * sx 16 (w / 65536) + 4096 * sx 16 w
  (clampI 0 4095 (if (Config.rounding 16).val = 0 then x / 65536 else (x + 32768) / 65536)).toNat

/-- R383: a bias-output gain run measures the bias channel that readback slot `i` of tile `t` reads. -/
def Dev.slotHeld (d : Dev) (t i : Nat) : Bool :=
  decide (24 ≤ i % 48 ∧ i % 48 < 32) && d.get .X_CAL_BIAS_CH t == min 39 (d.lget .HK_CH_CFG_SUB i) + 1

/-- R371, R377, R383: the result of the conversion in progress is processed; the trims apply as it enters the history. -/
def Dev.result (d : Dev) (t code : Nat) : Dev :=
  let i := 48 * t + d.entryChan t
  let disc := d.on .X_HK_DISC t
  let d := (d.set .HK_CH_RAW_CODE i code).set .HK_CH_RAW_DISCARD i (b2n disc)
  if disc then d.addSat .HK_COUNTS_DISCARDS t 1
  else
    let d := if d.slotHeld t i then d else d.output i (d.hkTrimmed t code)
    let left := d.get .X_HK_LEFT t - 1
    let d := d.set .X_HK_LEFT t left
    if left ≠ 0 then d
    else if d.get .HK_STATUS_ENTRY t + 1 < d.get .X_HK_LEN t then d.beginEntry t (d.get .HK_STATUS_ENTRY t + 1)
    else d.endSequence t

/-- R373, R383: the calibration run that waits for the converter begins at a boundary between conversions. -/
def Dev.hkCalBegin (d : Dev) (t : Nat) : Dev :=
  let d := Dev.each 48 (fun c d => d.set .HK_CH_RES_STALE (48 * t + c) 1)
    ((d.set .X_HK_CAL t 0).set .X_CAL_RUN_CLK (128 + t) d.clk)
  d.set .HK_STATUS_STATE t hkCAL

/-- A calibration run of the converter is due: at once if no conversion is in progress. A run powers the converter up. -/
def Dev.hkCalDue (d : Dev) (t : Nat) : Dev :=
  if d.hk t = hkCONVERTING ∨ d.hk t = hkSTARTING then d.set .X_HK_CAL t 1 else d.hkCalBegin t

/-- R371, R373, R375: the calibration run of the converter ends; what waits goes on. -/
def Dev.hkCalEnd (d : Dev) (t : Nat) : Dev :=
  if d.hk t = hkCAL then
    let d := ((d.set .HK_STATUS_STATE t hkREADY).set .X_HK_CLK t d.clk).set .X_HK_FORCE t 1
    let d := if d.on .X_HK_WAIT t then d.beginSequence t else d
    if d.on .X_HK_RUN t then d.hkRequest t else d
  else d.set .X_HK_CAL t 0

/-- R383: the readback slots of the bias channel being measured in tile `t` are STALE. -/
def Dev.slotsStale (d : Dev) (t : Nat) : Dev :=
  Dev.each 8 (fun j d => if d.slotHeld t (48 * t + 24 + j) then d.set .HK_CH_RES_STALE (48 * t + 24 + j) 1 else d) d

/-- R373: the domain leaves ON. -/
def Dev.hkSleep (d : Dev) (t : Nat) : Dev :=
  let d := if d.on .X_HK_RUN t then (d.set .HK_EVENTS_SEQ_ABORT t 1).syncHk t else d
  d.setAll [.HK_STATUS_STATE, .X_HK_RUN, .X_HK_LOOP, .X_HK_WAIT, .X_HK_CAL, .HK_STATUS_BUSY] t 0

/-- R371, R380, R386: the domain is ON again, from a state that kept its contents or not. -/
def Dev.hkWake (d : Dev) (t : Nat) (kept : Bool) : Dev :=
  let d := if kept then d
    else Dev.each 48 (fun c d => Dev.syncReset (48 * t + c) d) (d.set .X_HK_FORCE t 1)
  if d.on .X_HK_WAKE t then (d.set .X_HK_WAKE t 0).hkStart t 4 else d

/-- R374: the tick start. -/
def Dev.hkTick (t : Nat) (d : Dev) : Dev := if d.lon .HK_CTRL_TICK_EN t then d.hkStart t 4 else d

/-- R378, R380, R382: a posting in tile `t`; `d0` is the device before it. -/
def Dev.postHk (d0 : Dev) (t : Nat) (d : Dev) : Dev :=
  Dev.each 48 (fun c d =>
    let i := 48 * t + c
    let d := if d0.selection t c = d.selection t c then d else Dev.syncReset i d
    let d := if d.slotHeld t i && !d0.slotHeld t i then d.set .HK_CH_RES_STALE i 1 else d
    if d0.lget .HK_CH_CFG_LEN i = d.lget .HK_CH_CFG_LEN i then d else d.postLen i (d.lget .HK_CH_CFG_LEN i)) d

/-- R386: whether the housekeeping half of tile `t` refuses an entry to HOLD, or to a deeper state. -/
def Dev.hkRefuses (d : Dev) (t : Nat) (hold : Bool) : Bool :=
  d.on .X_HK_RUN t || d.on .X_HK_WAIT t || d.lon .HK_CTRL_LOOP t || (!hold && d.lon .HK_CTRL_PIN_EN t)

/-! ## Commands -/

/-- HK_START_CMD (R374). -/
def execHkStartCmd (t : Fin 4) (s : State) : Host.Outcome State Fault Refusal :=
  s.run fun d => d.hkStart t 1

/-- HK_START_PIN (R374): a rising or falling edge on HK_START of tile `t`. -/
def execHkStartPin (t : Fin 4) (rising : Bool) (s : State) : Host.Outcome State Fault Refusal :=
  s.run fun d =>
    if d.lon .HK_CTRL_PIN_EN t && (d.lon .HK_CTRL_PIN_EDGE t != rising) then d.hkStart t 2 else d

/-- HK_SYNC (R380). -/
def execHkSync (t : Fin 4) (s : State) : Host.Outcome State Fault Refusal :=
  s.run fun d => d.set .X_HK_SYNC t 1

/-- HK_CLEAR_STATS (R388). -/
def execHkClearStats (t : Fin 4) (s : State) : Host.Outcome State Fault Refusal :=
  s.run fun d => d.setAll [.HK_COUNTS_DISCARDS, .HK_COUNTS_STARTS_MISSED] t 0

/-- CONVERTER_STARTUP_DONE (R373). -/
def execConverterStartupDone (t : Fin 4) (s : State) : Host.Outcome State Fault Refusal :=
  s.run fun d =>
    if d.hk t = hkSTARTING then
      d.onTime (d.get .X_HK_CLK t + 2500 * ns) fun d =>
        let end_ := d.get .X_HK_CLK t + 2500 * ns
        if d.on .X_HK_CAL t then d.hkCalBegin t else d.beginConversion t end_
    else d

/-- CONVERSION_DONE (R369, R370, R373, R377): the conversion in progress has ended with `input` at the channel, in the unit of
`hkRange`. Its result is processed 0.1 µs after its end. -/
def execConversionDone (t : Fin 4) (input : Int) (s : State) : Host.Outcome State Fault Refusal :=
  s.run fun d =>
    if d.hk t = hkCONVERTING then
      d.onTime (d.get .X_HK_CLK t + 1100 * ns) fun d =>
        let end_ := d.get .X_HK_CLK t + us
        let d := (d.result t (d.hkCode t input)).set .X_HK_CLK t end_
        if d.on .X_HK_CAL t then d.hkCalBegin t
        else if d.on .X_HK_RUN t then d.beginConversion t end_
        else d.set .HK_STATUS_STATE t hkREADY
    else d

/-- CONVERTER_POWER_DOWN (R373). -/
def execConverterPowerDown (t : Fin 4) (s : State) : Host.Outcome State Fault Refusal :=
  s.run fun d =>
    if d.hk t = hkREADY then d.onTime (d.get .X_HK_CLK t + 500 * ns) fun d => d.set .HK_STATUS_STATE t hkDOWN else d

end Sys2Proof.Machine
end

