-- ==== Sys2Proof/Machine/ThermBase.lean ====
section
/-! DEFINITION. Sensor sites as the blocks that ask for their readings see them: rings and neighbours (R527), demands
(R528, R530) and the value that stands for a site (R533). -/

namespace Sys2Proof.Machine

open Sys2Proof

/-- Who demands a reading (R528), as the bits of X_THM_DEM. -/
def byTick : Nat := 1
def byDriver : Nat := 2
def byCal : Nat := 4

/-- The site is FAILED. -/
def Dev.siteFailed (d : Dev) (s : Nat) : Bool := d.get .THM_S_STATUS_STATE s == 1
/-- R530: the site is UNAVAILABLE: its tile-common domain is in WAKE_FAILED. -/
def Dev.siteGone (d : Dev) (s : Nat) : Bool := decide (s < 32) && d.dom (domTile (s / 8)) == pwFAILED
/-- The front end of the site has power. -/
def Dev.siteUp (d : Dev) (s : Nat) : Bool := decide (32 ≤ s) || d.domOn (domTile (s / 8))

/-- R527, R533: the nearest site of the ring in one direction that is not FAILED. -/
def Dev.nearest (d : Dev) (s : Nat) (down : Bool) : Option Nat :=
  ((List.range 7).map fun j => 8 * (s / 8) + (if down then s + 7 - j else s + 1 + j) % 8).find? fun q => !d.siteFailed q

/-- The neighbours of a site. -/
def Dev.neighbours (d : Dev) (s : Nat) : List Nat :=
  match d.nearest s true, d.nearest s false with
  | some a, some b => if a = b then [a] else [a, b]
  | _, _ => []

/-- The value that stands for a site, and when it was taken: the latest reading, or the replacement of a FAILED site
(R533). -/
def Dev.siteValue (d : Dev) (s : Nat) : Option (Int × Nat) :=
  let c := d.get (if d.siteFailed s then .X_THM_REPCLK else .X_THM_READ) s
  if c = 0 then none
  else some (sx 16 (d.get (if d.siteFailed s then .THM_S_READING_REPLACE else .THM_S_READING_VALUE) s), c - 1)

/-- A value of the site younger than `age`. -/
def Dev.recent (d : Dev) (s age : Nat) : Option Int :=
  match d.siteValue s with
  | some (v, c) => if d.clk - c < age then some v else none
  | none => none

/-- R528, R530: a demand for a reading. It joins a reading in progress (log entry 19); a tile site whose tile-common
domain is not ON wakes it first. -/
def Dev.demand (d : Dev) (src s : Nat) : Dev :=
  if d.siteGone s then d
  else if !d.siteUp s then
    (d.set .X_THM_WAIT s (d.get .X_THM_WAIT s ||| src)).wake (domTile (s / 8)) 6
  else if d.get .X_THM_DEM s = 0 then (d.set .X_THM_DEM s src).set .X_THM_CLK s d.clk
  else d.set .X_THM_DEM s (d.get .X_THM_DEM s ||| src)

/-- R530: the tile-common domain of tile `t` is ON: the readings that waited begin. -/
def Dev.thmWoken (t : Nat) (d : Dev) : Dev :=
  Dev.each 8 (fun j d =>
    let s := 8 * t + j
    let src := d.get .X_THM_WAIT s
    if src = 0 then d else (d.set .X_THM_WAIT s 0).demand src s) d

/-- R530: the tile-common domain of tile `t` is in WAKE_FAILED: its sites take no readings. -/
def Dev.thmGone (t : Nat) (d : Dev) : Dev :=
  Dev.each 8 (fun j d => d.setAll [.X_THM_WAIT, .X_THM_DEM] (8 * t + j) 0) d

end Sys2Proof.Machine
end

