-- ==== Sys2Proof/Machine/Calibration.lean ====
section
/-! DEFINITION. Calibration units and the NVM (R389 to R406): reasons, runs, applications, trims and stores. -/

namespace Sys2Proof.Machine

open Sys2Proof

/-! ## Units (R389 to R395) -/

/-- R389: the class of unit `u`. -/
def calClass (u : Nat) : Nat :=
  if u < 64 then 0 else if u < 128 then 1 else if u < 132 then 2 else if u < 136 then 3 else 4
/-- The units of a class. -/
def calUnits (c : Nat) : List Nat := (List.range 137).filter fun u => calClass u == c

/-- States of CAL_U_STATUS.STATE (R395). -/
def cuIDLE : Nat := 0
def cuDUE : Nat := 1
def cuRUNNING : Nat := 2
def cuAPPLYING : Nat := 3

/-- The state of a unit. -/
def Dev.cal (d : Dev) (u : Nat) : Nat := d.get .CAL_U_STATUS_STATE u
/-- The unit belongs to an engine that is not used. -/
def Dev.calUnused (d : Dev) (u : Nat) : Bool := decide (u < 128) && !d.used (u % 64 / 8)
/-- Bit `b` of the class record of unit `u`: 0 TEMP_EN, 1 INITIAL_EN, 2 LEDGER_EN, 3 AUTO_STORE (R406). -/
def Dev.calEnabled (d : Dev) (u b : Nat) : Bool := bitAt (d.get .CAL_CLASS_ENABLES (calClass u)) b

/-- R392, R395: reason `b` arises for a unit. -/
def Dev.calReason (b u : Nat) (d : Dev) : Dev :=
  if d.calUnused u then d
  else
    let d := d.orBits .CAL_U_STATUS_REASONS u (2 ^ b)
    if d.cal u = cuIDLE then d.set .CAL_U_STATUS_STATE u cuDUE else d

/-- The unit leaves a run or its application: IDLE, or DUE if a reason is set. -/
def Dev.calRest (d : Dev) (u : Nat) : Dev :=
  d.set .CAL_U_STATUS_STATE u (if d.get .CAL_U_STATUS_REASONS u = 0 then cuIDLE else cuDUE)

/-- R389: the start conditions of a unit. -/
def Dev.calReady (d : Dev) (u : Nat) : Bool :=
  match calClass u with
  | 0 => d.domOn (domRx u) && d.on .LRX_STATUS_TIMING_LOCK u
  | 1 => d.domOn (domTx (u - 64)) && d.on .LTX_STATUS_PLL_LOCK (u - 64)
  | 2 => d.domOn (domHk (u - 128))
  | 3 => d.domOn (domHk (u - 132)) && d.on .BIAS_T_TIMER_VBIAS_OK (u - 132)
  | _ => true

/-- The unit holds a place of R390: it runs, applies, or waits for its reading. -/
def Dev.calBusy (d : Dev) (u : Nat) : Bool := decide (cuRUNNING ≤ d.cal u) || d.on .X_CAL_WAIT u

/-- R390: the place of unit `u` is free. The sequencer of an engine serves its ADC and DAC units; every other unit has a
place of its own (log entry 20). -/
def Dev.calFree (d : Dev) (u : Nat) : Bool :=
  if u < 128 then (lanesOf (u % 64 / 8)).all fun n => !d.calBusy n && !d.calBusy (64 + n) else !d.calBusy u

/-- The enabled bias channels of tile `t`. -/
def Dev.biasEnabled (d : Dev) (t : Nat) : List Nat := (List.range 40).filter fun c => d.biasOn (40 * t + c)

/-- R419: the trims of a unit: word, lowest bit and width of each. -/
def Dev.trimSlots (d : Dev) (u : Nat) : List (Nat × Nat × Nat) :=
  match calClass u with
  | 0 => ((List.range 64).map fun j => [(j, 0, 8), (j, 8, 8), (j, 16, 8)]).flatten
  | 1 => (List.range 32).map fun k => (k / 4, 8 * (k % 4), 8)
  | 2 => [(0, 0, 16), (0, 16, 16)]
  | 3 => ((d.biasEnabled (u - 132)).map fun c => [(c, 0, 16), (c, 16, 8)]).flatten
  | _ => (List.range 64).map fun k => (k / 2, 16 * (k % 2), 16)

/-- `w` with the `n` bits from `lo` replaced by `v`. -/
def putBits (w lo n v : Nat) : Nat := w - w / 2 ^ lo % 2 ^ n * 2 ^ lo + v % 2 ^ n * 2 ^ lo

/-- R389: the length of a run of unit `u`. -/
def Dev.runLength (d : Dev) (u : Nat) : Nat :=
  match calClass u with
  | 0 => 4 * 2 ^ (d.mode (u / 8) - 1) * ms
  | 1 => 2 * ms
  | 2 => 32 * us
  | 3 => 250 * us * (d.biasEnabled (u - 132)).length
  | _ => 20 * ms

/-- R383, R389: the BIAS run of tile `t` measures the enabled channels in order, 250 µs each: the readback slots of the
channel being measured are STALE. -/
def Dev.biasCalStep (t : Nat) (d : Dev) : Dev :=
  let k := (d.clk - d.get .X_CAL_RUN_CLK (132 + t)) / (250 * us)
  let now := if d.cal (132 + t) = cuRUNNING then (match (d.biasEnabled t)[k]? with | some c => c + 1 | none => 0) else 0
  let was := d.get .X_CAL_BIAS_CH t
  if now = was then d
  else (d.set .X_CAL_BIAS_CH t now).slotsStale t

/-- What a run holds up goes on when it ends. -/
def Dev.calRelease (d : Dev) (u : Nat) : Dev :=
  match calClass u with
  | 2 => d.hkCalEnd (u - 128)
  | 3 => Dev.biasCalStep (u - 132) d
  | _ => d

/-- R393 to R395: the run of a unit begins at temperature `v`. -/
def Dev.calBegin (d : Dev) (u : Nat) (v : Int) : Dev :=
  let d := ((d.set .X_CAL_WAIT u 0).set .CAL_U_TEMP_LAST u (ux 16 v)).set .CAL_U_STATUS_SUBSTITUTE u
    (b2n (d.siteFailed (calSite u)))
  let d := (d.set .CAL_U_STATUS_STATE u cuRUNNING).set .X_CAL_RUN_CLK u d.clk
  match calClass u with
  | 2 => d.hkCalDue (u - 128)
  | 3 => Dev.biasCalStep (u - 132) d
  | _ => d

/-- R394: a due unit takes its place at a tick. -/
def Dev.calStart (d : Dev) (u : Nat) : Dev :=
  let d := (d.set .X_CAL_WHY u (d.get .CAL_U_STATUS_REASONS u)).set .CAL_U_STATUS_REASONS u 0
  match d.recent (calSite u) ms with
  | some v => d.calBegin u v
  | none => (d.set .X_CAL_WAIT u 1).demand byCal (calSite u)

/-- R395: a run is abandoned, or a unit that waits for its reading gives up its place. -/
def Dev.calAbort (d : Dev) (u : Nat) : Dev :=
  let d0 := d
  let d := (d.orBits .CAL_U_STATUS_REASONS u (d.get .X_CAL_WHY u)).set .X_CAL_WAIT u 0
  let d := d.set .CAL_U_STATUS_STATE u cuDUE
  if d0.cal u = cuRUNNING then ((d.addSat .CAL_U_COUNTS_ABORTS u 1).raise 965).calRelease u else d

/-- R395: a unit whose start condition is lost. -/
def Dev.calWatch (d : Dev) : Dev :=
  Dev.each 137 (fun u d =>
    if (d.cal u == cuRUNNING || d.on .X_CAL_WAIT u) && !d.calReady u then d.calAbort u else d) d

/-- R390: the order of the reasons, highest first: HOST, LEDGER, MODE, TEMP, INITIAL, PERIODIC. -/
def reasonOrder : List Nat := [2, 3, 4, 1, 0, 5]
/-- The highest reason of a unit. -/
def Dev.topReason (d : Dev) (u : Nat) : Option Nat :=
  reasonOrder.find? fun b => bitAt (d.get .CAL_U_STATUS_REASONS u) b

/-- R390, R394: the due units that can start, in order. -/
def Dev.calStarts (d : Dev) : Dev :=
  Dev.forList reasonOrder (fun b d => Dev.each 137 (fun u d =>
    if d.cal u = cuDUE ∧ d.topReason u = some b ∧ d.calReady u ∧ d.calFree u ∧
        !bitAt (d.get .CAL_CTRL_HOLD 0) (calClass u) then d.calStart u else d) d) d

/-- R393: a reading of site `s`, or its replacement, is passed to the units on the site: it begins the run of a unit that
waits for it, and is compared with LAST of the others. -/
def Dev.calReading (s : Nat) (v : Int) (d : Dev) : Dev :=
  Dev.each 137 (fun u d =>
    if calSite u ≠ s then d
    else if d.on .X_CAL_WAIT u then d.calBegin u v
    else if d.calEnabled u 0 &&
        decide ((d.get .CAL_CLASS_THRESH (calClass u) : Int) * 16 < (v - sx 16 (d.get .CAL_U_TEMP_LAST u)).natAbs * 10) then
      Dev.calReason 1 u d
    else d) d

/-! ## The NVM (R401 to R405) -/

/-- Addresses of slot A, slot B and the factory slot, by the code of CAL_NVM_STATUS.SOURCE. -/
def nvmSlot (k : Nat) : Nat := [0x4000, 0x8000, 0].getD k 0

/-- R401, R402: the record at an address is valid. -/
def Dev.nvmValid (d : Dev) (k : Nat) : Bool :=
  let a := nvmSlot k
  d.nvm.readLE a 4 == 0x4E565164 && d.nvm.readLE (a + 4) 2 == 1 && d.nvm.readLE (a + 12) 4 == 12512 &&
    d.nvm.readLE (a + 16) 4 == (crc32 (d.nvm.readBytes (a + 32) 12512)).toNat

/-- SEQ of the record of a slot; the defaults have none. -/
def Dev.nvmSeq (d : Dev) (k : Nat) : Nat := if k = 3 then 0 else d.nvm.readLE (nvmSlot k + 8) 4
/-- WRITES of the record of a slot. -/
def Dev.nvmWrites (d : Dev) (k : Nat) : Nat := if k = 3 then 0 else d.nvm.readLE (nvmSlot k + 28) 4

/-- R402: sequence number `x` is newer than `y`. -/
def newer (x y : Nat) : Bool := decide (1 ≤ (x + 2 ^ 32 - y) % 2 ^ 32 ∧ (x + 2 ^ 32 - y) % 2 ^ 32 < 2 ^ 31)

/-- R402: the record to use at a boot, as SOURCE shows it. -/
def Dev.nvmChoice (d : Dev) : Nat :=
  match d.nvmValid 0, d.nvmValid 1 with
  | true, true => if newer (d.nvmSeq 1) (d.nvmSeq 0) then 1 else 0
  | true, false => 0
  | false, true => 1
  | false, false => if d.nvmValid 2 then 2 else 3

/-- The record in use. -/
def Dev.nvmUse (d : Dev) : Nat := d.get .CAL_NVM_STATUS_SOURCE 0

/-- A byte of the record in use (R419). The built-in defaults are zero trims and nominal bandgap codes; they have no
header, so its bytes are free values (log entry 21). -/
def Dev.nvmByte (d : Dev) (o : Nat) : Byte :=
  if d.nvmUse < 3 then d.nvm.read (nvmSlot d.nvmUse + o)
  else if o < 32 then BitVec.ofNat 8 (Config.freeValue 7 o)
  else if 0x30F0 ≤ o ∧ o < 0x30FA then
    BitVec.ofNat 8 ((Config.bandgap ((o - 0x30F0) / 2)).toNat / 256 ^ (o % 2))
  else 0

/-- R402: the record chosen at a boot is taken into use. -/
def Dev.nvmLoad (d : Dev) : Dev :=
  let k := d.nvmChoice
  let d := (d.set .CAL_NVM_STATUS_SOURCE 0 k).set .CAL_NVM_SEQ_SEQ 0 (d.nvmSeq k)
  let d := d.set .CAL_NVM_STATUS_WRITES 0 (min 65535 (d.nvmWrites k))
  let le := fun (d : Dev) (o : Nat) => (d.nvmByte o).toNat + 256 * (d.nvmByte (o + 1)).toNat
  let d := Dev.each 40 (fun s d => d.set .X_NVM_SENSOR s (le d (0x30A0 + 2 * s))) d
  let d := Dev.each 5 (fun z d => d.set .X_NVM_BANDGAP z (le d (0x30F0 + 2 * z))) d
  if 2 ≤ k then d.raise 966 else d

/-- Write a trim word, staged and live. -/
def Dev.putTrim (d : Dev) (u j v : Nat) : Dev :=
  (d.set .CAL_TRIM_WORD (64 * u + j) v).lset .CAL_TRIM_WORD (64 * u + j) v

/-- R400: the trims of a unit at a cold power-up. -/
def Dev.coldTrims (u : Nat) (d : Dev) : Dev :=
  Dev.each 64 (fun j d =>
    d.putTrim u j (match calClass u with
      | 0 => ofLE ((List.range 3).map fun b => d.nvmByte (0x20 + 192 * u + 3 * j + b))
      | 4 => if j < 32 then ofLE ((List.range 4).map fun b => d.nvmByte (0x3020 + 4 * j + b)) else 0
      | _ => 0)) d

/-- R403: the body of the record that a store writes. -/
def Dev.nvmBody (d : Dev) (base : Bool) : List Byte :=
  let adc := ((List.range 64).map fun n =>
    if base && d.on .X_CAL_APPLIED n then
      ((List.range 64).map fun j => leBytes 3 (d.lget .CAL_TRIM_WORD (64 * n + j))).flatten
    else (List.range 192).map fun b => d.nvmByte (0x20 + 192 * n + b)).flatten
  let tdc := ((List.range 32).map fun j => leBytes 4 (d.lget .CAL_TRIM_WORD (64 * 136 + j))).flatten
  let sensor := ((List.range 40).map fun s => leBytes 2 (d.get .X_NVM_SENSOR s)).flatten
  let gap := ((List.range 5).map fun z => leBytes 2 (d.get .X_NVM_BANDGAP z)).flatten
  adc ++ tdc ++ sensor ++ gap ++ List.replicate 6 0

/-- R403: the slot that a store writes: the one of A and B not in use; A when neither is (log entry 22). -/
def Dev.nvmTarget (d : Dev) : Nat := if d.nvmUse = 0 then 1 else 0
/-- SEQ and WRITES of the new record. -/
def Dev.nvmNextSeq (d : Dev) : Nat := if d.nvmUse < 2 then (d.nvmSeq d.nvmUse + 1) % 2 ^ 32 else 1
def Dev.nvmNextWrites (d : Dev) : Nat := if d.nvmUse < 2 then (d.nvmWrites d.nvmUse + 1) % 2 ^ 32 else 1

/-- R403: the new record is in its slot. -/
def Dev.nvmWrite (d : Dev) : Dev :=
  let body := d.nvmBody (d.on .X_NVM_BASE 0)
  let head := leBytes 4 0x4E565164 ++ leBytes 2 1 ++ leBytes 2 0 ++ leBytes 4 d.nvmNextSeq ++ leBytes 4 12512 ++
    leBytes 4 (crc32 body).toNat ++ leBytes 8 d.now ++ leBytes 4 d.nvmNextWrites
  { d with nvm := d.nvm.writeBytes (nvmSlot d.nvmTarget) (head ++ body) }

/-- R404: a store ends with a result; a refused automatic store waits for its retry. -/
def Dev.nvmResult (d : Dev) (r : Nat) (auto : Bool) : Dev :=
  let d := (d.set .CAL_NVM_STATUS_RESULT 0 r).raise 966
  if auto && (r == 2 || r == 3) then (d.set .CAL_NVM_STATUS_RETRY 0 1).set .X_NVM_RETRY_CLK 0 d.clk else d

/-- The store in progress ends. -/
def Dev.nvmStop (d : Dev) (r : Nat) : Dev :=
  let auto := d.on .X_NVM_AUTO 0
  let d := d.setAll [.CAL_NVM_STATUS_BUSY, .X_NVM_PHASE, .X_NVM_AUTO] 0 0
  (d.setEach .X_NVM_PEND (List.range 40) 0).nvmResult r auto

/-- R404: a temperature lies outside 0 to 100 °C. -/
def nvmBad (v : Int) : Bool := decide (v < 0 ∨ 1600 < v)

/-- R404: a store is asked for. Readings older than 1 s are demanded first; an UNAVAILABLE site has none and is left out
(log entry 23). -/
def Dev.nvmStart (d : Dev) (base auto : Bool) : Dev :=
  if d.on .CAL_NVM_STATUS_BUSY 0 then d.nvmResult 2 auto
  else if (List.range 40).any fun s => !d.siteGone s && (match d.recent s sec with | some v => nvmBad v | none => false) then
    d.nvmResult 3 auto
  else
    let d := ((d.set .CAL_NVM_STATUS_BUSY 0 1).set .X_NVM_BASE 0 (b2n base)).set .X_NVM_AUTO 0 (b2n auto)
    let d := d.set .CAL_NVM_STATUS_RETRY 0 0
    let old := (List.range 40).filter fun s => !d.siteGone s && (d.recent s sec).isNone
    let d := Dev.forList old (fun s d => (d.set .X_NVM_PEND s 1).demand byCal s) d
    d.set .X_NVM_PHASE 0 (if old.isEmpty then 2 else 1)

/-- R404: a reading of a site, or its replacement, that arrives during a store. -/
def Dev.nvmReading (s : Nat) (v : Int) (d : Dev) : Dev :=
  if d.get .X_NVM_PHASE 0 = 0 then d
  else if nvmBad v then d.nvmStop (if d.get .X_NVM_PHASE 0 = 1 then 3 else 4)
  else
    let d := d.set .X_NVM_PEND s 0
    if d.get .X_NVM_PHASE 0 = 1 ∧ (List.range 40).all fun q => !d.on .X_NVM_PEND q then d.set .X_NVM_PHASE 0 2 else d

/-- R405: a reset, shutdown or loss of power during a store: the slot being written is left invalid, or valid with the new
record; which of the two is a free value. -/
def Dev.nvmInterrupt (d : Dev) : Dev :=
  if d.get .X_NVM_PHASE 0 = 2 then
    let k := d.nvmTarget
    let d := if d.draw 8 % 2 = 0 then { d with nvm := d.nvm.writeBytes (nvmSlot k) [0, 0, 0, 0] } else d.nvmWrite
    (d.setAll [.CAL_NVM_STATUS_BUSY, .X_NVM_PHASE, .X_NVM_AUTO] 0 0).drawn
  else d.setAll [.CAL_NVM_STATUS_BUSY, .X_NVM_PHASE, .X_NVM_AUTO] 0 0

/-! ## Results and applications (R391, R395 to R399) -/

/-- R391: a result lies beyond its field by more than a quarter of the field's range. -/
def trimFails (w : Nat) (v : Int) : Bool :=
  decide (v < -(2 ^ (w - 1) : Int) - 2 ^ (w - 2) ∨ (2 ^ (w - 1) : Int) - 1 + 2 ^ (w - 2) < v)
/-- A result limited to its field. -/
def trimClamp (w : Nat) (v : Int) : Int := clampI (-(2 ^ (w - 1) : Int)) ((2 ^ (w - 1) : Int) - 1) v

/-- R391, R395: the measurement of a running unit completes with the trims `r`, in the order of `trimSlots`. -/
def Dev.calResult (d : Dev) (u : Nat) (r : List Int) : Dev :=
  let l := d.trimSlots u
  let vs := (List.range l.length).map fun i => (l.getD i (0, 0, 8), r.getD i 0)
  let d := d.calRelease u
  if vs.any fun p => trimFails p.1.2.2 p.2 then ((d.addSat .CAL_U_COUNTS_FAILS u 1).raise 965).calRest u
  else
    let d := if vs.any fun p => decide (trimClamp p.1.2.2 p.2 ≠ p.2) then d.set .CAL_U_STATUS_LIMIT u 1 else d
    let res : CalRes := ⟨u, vs.map fun p => (p.1.1, p.1.2.1, p.1.2.2, trimClamp p.1.2.2 p.2)⟩
    { (d.set .CAL_U_STATUS_STATE u cuAPPLYING) with calres := res :: d.calres.filter fun x => x.unit != u }

/-- R397, R398: one trim goes towards its new value: a DAC trim by at most 32 units at a tick. A unit with driver writes
pending takes it into the live value only. -/
def Dev.moveTrim (u : Nat) (x : Nat × Nat × Nat × Int) (d : Dev) : Dev :=
  let k := 64 * u + x.1
  let live := d.lget .CAL_TRIM_WORD k
  let now := sx x.2.2.1 (live / 2 ^ x.2.1)
  let v := if calClass u = 1 then clampI (now - 32) (now + 32) x.2.2.2 else x.2.2.2
  let d := d.lset .CAL_TRIM_WORD k (putBits live x.2.1 x.2.2.1 (ux x.2.2.1 v))
  if d.on .CAL_U_STATUS_DIRTY u then d
  else d.set .CAL_TRIM_WORD k (putBits (d.get .CAL_TRIM_WORD k) x.2.1 x.2.2.1 (ux x.2.2.1 v))

/-- The live value of one trim is its new value. -/
def Dev.trimReached (d : Dev) (u : Nat) (x : Nat × Nat × Nat × Int) : Bool :=
  decide (sx x.2.2.1 (d.lget .CAL_TRIM_WORD (64 * u + x.1) / 2 ^ x.2.1) = x.2.2.2)

/-- R395: an application is complete. -/
def Dev.calDone (d : Dev) (u : Nat) : Dev :=
  let d := (d.addSat .CAL_U_COUNTS_RUNS u 1).set .CAL_U_TIME_TIME u d.now
  let d := ((d.set .X_CAL_LASTAPP u (d.clk + 1)).set .X_CAL_PER u 0).set .X_CAL_APPLIED u 1
  let d := if u < 64 then (d.noteWindow u 7 256).set .X_LG_CAL_NEW u 1 else d
  let d := ((d.raise 964).calRest u)
  let d := { d with calres := d.calres.filter fun x => x.unit != u }
  if u = 136 ∧ d.calEnabled u 3 then d.nvmStart false true else d

/-- R395, R397, R398: category-1 work for one unit at a tick. -/
def Dev.calApply (u : Nat) (d : Dev) : Dev :=
  if d.cal u = cuAPPLYING then
    if d.on .X_CAL_POSTED u then
      let d := (d.set .CAL_U_STATUS_DROPPED u 1).calRest u
      { d with calres := d.calres.filter fun x => x.unit != u }
    else
      match d.calres.find? fun x => x.unit == u with
      | none => d.calRest u
      | some r =>
        let d := Dev.forList r.vals (Dev.moveTrim u) d
        if r.vals.all fun x => d.trimReached u x then d.calDone u else d
  else d

/-- R394, R395: what a tick does in the calibration units; `late` names the units whose application overruns. -/
def Dev.calTick (late : Nat → Bool) (d : Dev) : Dev :=
  let d := Dev.each 137 (fun u d => if late u then d else Dev.calApply u d) d
  let d := d.setEach .X_CAL_POSTED (List.range 137) 0
  (Dev.each 4 Dev.biasCalStep d.calWatch).calStarts

/-- R397, R399: the trims of a unit go live by a posting. -/
def Dev.postTrim (u : Nat) (d : Dev) : Dev :=
  if d.on .CAL_U_STATUS_DIRTY u then
    let d := Dev.each 64 (fun j d => d.lset .CAL_TRIM_WORD (64 * u + j) (d.get .CAL_TRIM_WORD (64 * u + j))) d
    let d := (d.set .CAL_U_STATUS_DIRTY u 0).set .X_CAL_POSTED u 1
    if u < 64 then d.noteWindow u 7 256 else d
  else d

/-! ## What other blocks change (R392, R395, R400, R406) -/

/-- The engine becomes unused: its units are IDLE. -/
def Dev.calEngineOff (e : Nat) (d : Dev) : Dev :=
  Dev.forList (lanesOf e ++ (lanesOf e).map (64 + ·)) (fun u d =>
    { (d.setAll [.CAL_U_STATUS_STATE, .CAL_U_STATUS_REASONS, .X_CAL_WAIT] u 0) with
      calres := d.calres.filter fun x => x.unit != u }) d

/-- The engine leaves unused. -/
def Dev.calEngineOn (e : Nat) (d : Dev) : Dev :=
  Dev.forList (lanesOf e ++ (lanesOf e).map (64 + ·)) (fun u d => if d.calEnabled u 1 then Dev.calReason 0 u d else d) d

/-- The engine restarts, with another lane mode or not. -/
def Dev.calEngineRestart (e : Nat) (mode : Bool) (d : Dev) : Dev :=
  Dev.forList (lanesOf e ++ (lanesOf e).map (64 + ·)) (fun u d =>
    let d := if d.cal u = cuRUNNING ∨ d.on .X_CAL_WAIT u then d.calAbort u else d
    if mode then Dev.calReason 4 u d else d) d

/-- The plan record of a class changes. -/
def Dev.calClassChanged (c : Nat) (d : Dev) : Dev :=
  Dev.forList (calUnits c) (fun u d => if d.cal u = cuRUNNING then d.calAbort u else d) d

/-- R400: after a reset every unit starts in IDLE. -/
def Dev.calReset (d : Dev) : Dev :=
  { (Dev.each 137 (fun u d => d.setAll [.CAL_U_STATUS_STATE, .CAL_U_STATUS_REASONS, .X_CAL_WAIT, .X_CAL_POSTED] u 0)
      (d.setEach .X_CAL_BIAS_CH (List.range 4) 0)) with calres := [] }

/-- R392, R400: at a cold power-up the trims start from R400 and every unit with INITIAL_EN is due. -/
def Dev.calCold (d : Dev) : Dev :=
  Dev.each 137 (fun u d =>
    let d := Dev.coldTrims u d
    if d.calEnabled u 1 then Dev.calReason 0 u d else d) d

/-! ## Commands -/

/-- CAL_RUN (R396): RUN with UNIT `u`. -/
def execCalRun (u : Byte) (s : State) : Host.Outcome State Fault Refusal :=
  s.run fun d =>
    if 136 < u.toNat ∨ d.calUnused u.toNat then d.set .CAL_STATUS_REFUSED 0 1 else Dev.calReason 2 u.toNat d

/-- CAL_RUN_CLASS (R396): RUN_CLASS with CLASS `c`. -/
def execCalRunClass (c : BitVec 3) (s : State) : Host.Outcome State Fault Refusal :=
  s.run fun d =>
    if 4 < c.toNat ∨ (calUnits c.toNat).any d.calUnused then d.set .CAL_STATUS_REFUSED 0 1
    else Dev.forList (calUnits c.toNat) (Dev.calReason 2) d

/-- CAL_PERIODIC_DUE (R392): PERIOD seconds have passed since the latest application of unit `u`. -/
def execCalPeriodicDue (u : Fin 137) (s : State) : Host.Outcome State Fault Refusal :=
  s.run fun d =>
    let p := d.get .CAL_CLASS_PERIOD (calClass u)
    if p = 0 ∨ d.get .X_CAL_LASTAPP u = 0 ∨ d.on .X_CAL_PER u then d
    else d.onTime (d.get .X_CAL_LASTAPP u - 1 + p * sec) fun d => Dev.calReason 5 u (d.set .X_CAL_PER u 1)

/-- CAL_RUN_COMPLETE (R395): the measurement of unit `u` gives the trims `r`. -/
def execCalRunComplete (u : Fin 137) (r : List Int) (s : State) : Host.Outcome State Fault Refusal :=
  s.run fun d =>
    if d.cal u = cuRUNNING ∧ (calClass u ≠ 2 ∨ d.hk (u - 128) = hkCAL) then
      d.onTime (d.get .X_CAL_RUN_CLK u + d.runLength u) fun d =>
        if d.calReady u then d.calResult u r else d.calAbort u
    else d

/-- NVM_STORE (R404). -/
def execNvmStore (baseline : Bool) (s : State) : Host.Outcome State Fault Refusal :=
  s.run fun d => d.nvmStart baseline false

/-- NVM_STORE_DONE (R403): the written slot becomes the slot in use. -/
def execNvmStoreDone (s : State) : Host.Outcome State Fault Refusal :=
  s.run fun d =>
    if d.get .X_NVM_PHASE 0 = 2 then
      let k := d.nvmTarget
      let seq := d.nvmNextSeq
      let d := d.nvmWrite
      let d := (d.set .CAL_NVM_STATUS_SOURCE 0 k).set .CAL_NVM_SEQ_SEQ 0 seq
      (d.set .CAL_NVM_STATUS_WRITES 0 (min 65535 (d.nvmWrites k))).nvmStop 1
    else d

/-- NVM_STORE_RETRY (R404): 60 s after a refusal the automatic store is tried again. -/
def execNvmStoreRetry (s : State) : Host.Outcome State Fault Refusal :=
  s.run fun d =>
    if d.on .CAL_NVM_STATUS_RETRY 0 then
      d.onTime (d.get .X_NVM_RETRY_CLK 0 + 60 * sec) fun d => (d.set .CAL_NVM_STATUS_RETRY 0 0).nvmStart false true
    else d

end Sys2Proof.Machine
end

