-- ==== Sys2Proof/Machine/LedgerFit.lean ====
section
/-! DEFINITION. The arithmetic of the margin ledger on exact numbers: logarithms (R407) and the straight-line fit with its
forecast (R409). -/

namespace Sys2Proof.Machine

open Sys2Proof

/-- The largest `m` with 10^m at most `q`, for `q` of 1 or more. -/
def log10Floor : Nat → Nat → Nat
  | 0, _ => 0
  | fuel + 1, q => if q < 10 then 0 else 1 + log10Floor fuel (q / 10)

/-- `n` log10(`num` / `den`), rounded downwards, for positive `num` and `den`. -/
def logFloor (n num den : Nat) : Int :=
  if den ≤ num then
    let q := num ^ n / den ^ n
    (log10Floor q.log2 q : Int)
  else
    let q := den ^ n / num ^ n
    let m := log10Floor q.log2 q
    if 10 ^ m * num ^ n = den ^ n then -(m : Int) else -((m : Int) + 1)

/-- `n` log10(`num` / `den`) with the rounding of a ledger reading (log entry 10). -/
def logRound (n num den : Nat) : Int :=
  if Config.rounding 5 = 0 then logFloor n num den else (logFloor (2 * n) num den + 1) / 2

/-- `a` / `n` with the rounding of a ledger reading. -/
def meanRound (a n : Nat) : Nat := if Config.rounding 5 = 0 then a / n else (2 * a + n) / (2 * n)

/-- The square root of `a` / `n`, at most 511, with the rounding of a ledger reading. -/
def rootRound (a n : Nat) : Nat :=
  let r := fun (x : Nat) => ((List.range 1024).filter fun k => decide (k * k * n ≤ x)).foldl max 0
  if Config.rounding 5 = 0 then r a else (r (4 * a) + 1) / 2

/-- R409: the hours until a metric reaches its floor, from the points (period, value) of its VALID records, at period
`xl`. `units` is the period in POST_TIME units. Every quantity is exact: with n points, D = n Sxx - Sx^2 and
A = n Sxy - Sx Sy, the slope is A / D and the value now is (Sy D + A (n xl - Sx)) / (n D). -/
def fitHours (pts : List (Nat × Int)) (xl : Nat) (floor : Int) (units : Nat) : Option Nat :=
  if pts.length < 8 then none
  else
    let n : Int := pts.length
    let sx : Int := (pts.map fun p => (p.1 : Int)).sum
    let sy : Int := (pts.map fun p => p.2).sum
    let sxx : Int := (pts.map fun p => (p.1 : Int) * p.1).sum
    let sxy : Int := (pts.map fun p => (p.1 : Int) * p.2).sum
    let dd := n * sxx - sx * sx
    let a := n * sxy - sx * sy
    let num := sy * dd + a * (n * xl - sx) - floor * n * dd
    if num ≤ 0 then some 0
    else if 0 ≤ a then none
    else some (min 65534 ((num * units) / (n * (-a) * 1024 * 10 ^ 9 * 3600)).toNat)

/-- R409: the forecast and the lowest metric that gives it; 65,535 and 15 when no metric gives a value. -/
def forecast (hours : List (Option Nat)) : Nat × Nat :=
  (List.range 5).foldl (fun b m =>
    match hours.getD m none with
    | some h => if h < b.1 then (h, m) else b
    | none => b) (65535, 15)

end Sys2Proof.Machine
end

