-- ==== Sys2Proof/Machine/MemBase.lean ====
section
/-! DEFINITION. GDDR7 memory as the blocks that use it see it: its states, its channels' queues, its contents and the
regions of the live plan (R309, R421, R424, R425, R430). -/

namespace Sys2Proof.Machine

open Sys2Proof

/-- States of MEM_STATUS.STATE (R437). -/
def meOFF : Nat := 0
def meTRAINING : Nat := 1
def meREADY : Nat := 2
def meREFRESH : Nat := 3
def meFAILED : Nat := 4

/-- The state of the memory. -/
def Dev.memState (d : Dev) : Nat := d.get .MEM_STATUS_STATE 0
/-- The installed capacity in bytes; 0 while it is unknown (R421). -/
def Dev.memBytes (d : Dev) : Nat := d.get .MEM_CFG_CAPACITY 0 * 2 ^ 26
/-- The memory is trained: READY or SELF_REFRESH. -/
def Dev.memTrained (d : Dev) : Bool := d.memState == meREADY || d.memState == meREFRESH
/-- R424: the channel of an address. -/
def channelOf (a : Nat) : Nat := a / 256 % 32

/-! ## Contents -/

/-- The byte that a channel's device holds at an address: a defined byte, or a free value where the contents are
undefined. -/
def Dev.cell (d : Dev) (a : Nat) : Byte :=
  match d.lost.find? fun r => decide (r.lo ≤ a ∧ a < r.hi) with
  | some r => Config.lostByte r.id a
  | none => d.gddr.read a

/-- The byte of an address as a request that arrives now will find it: R427 puts every earlier write to the unit first. -/
def Dev.cellNow (d : Dev) (a : Nat) : Byte :=
  d.mreqs.foldl (fun b r =>
    if r.write && decide (r.addr ≤ a ∧ a < r.addr + r.data.length) then r.data.getD (a - r.addr) 0 else b) (d.cell a)

/-- `n` bytes from an address as a request that arrives now will find them. -/
def Dev.bytesNow (d : Dev) (a n : Nat) : List Byte := (List.range n).map fun i => d.cellNow (a + i)

/-- An undefined range without the bytes `lo` to `hi - 1`. -/
def LostRange.cut (lo hi : Nat) (r : LostRange) : List LostRange :=
  if r.hi ≤ lo ∨ hi ≤ r.lo then [r]
  else
    (if r.lo < lo then [{ r with hi := lo }] else []) ++ (if hi < r.hi then [{ r with lo := hi }] else [])

/-- The contents of a range are written. -/
def Dev.putCells (d : Dev) (a : Nat) (bs : List Byte) : Dev :=
  { d with gddr := d.gddr.writeBytes a bs, lost := (d.lost.map (LostRange.cut a (a + bs.length))).flatten }

/-- The contents of a range become undefined. -/
def Dev.loseCells (d : Dev) (lo hi : Nat) : Dev :=
  { d with
    gddr := d.gddr.filter fun c => decide (c.1 < lo ∨ hi ≤ c.1)
    lost := ⟨lo, hi, d.free⟩ :: (d.lost.map (LostRange.cut lo hi)).flatten
    free := d.free + 1 }

/-! ## Requests (R430) -/

/-- A range of bytes cut at the 256-byte units of R424, at most `fuel` pieces: address and length of each. -/
def unitsOf : Nat → Nat → Nat → List (Nat × Nat)
  | 0, _, _ => []
  | fuel + 1, a, n =>
    if n = 0 then []
    else
      let k := min n (256 - a % 256)
      (a, k) :: unitsOf fuel (a + k) (n - k)

/-- A write of class `cls` arrives at the channels. -/
def Dev.memWrite (d : Dev) (cls a : Nat) (bs : List Byte) : Dev :=
  let rs := (unitsOf (bs.length + 1) a bs.length).map fun u =>
    ({ cls := cls, write := true, addr := u.1, len := u.2, data := (bs.drop (u.1 - a)).take u.2, arrived := d.clk,
       bar2 := false, off := 0, reqId := 0, time := 0, urgent := false, bad := false, again := false } : MemReq)
  { d with mreqs := d.mreqs ++ rs }

/-- A read of class `cls`, other than one of the BAR2 window, arrives at the channels. `bad` says that its first piece stays
failed. -/
def Dev.memRead (d : Dev) (cls a n : Nat) (bad : Bool) : Dev :=
  let rs := (unitsOf (n + 1) a n).map fun u =>
    ({ cls := cls, write := false, addr := u.1, len := u.2, data := [], arrived := d.clk, bar2 := false, off := 0,
       reqId := 0, time := 0, urgent := false, bad := bad && u.1 == a, again := false } : MemReq)
  { d with mreqs := d.mreqs ++ rs }

/-- An access of the BAR2 window arrives at the channels (R426): offset `off` in the BAR, address `a`. -/
def Dev.memBar2 (d : Dev) (off a len reqId clk time : Nat) (write : Bool) (bs : List Byte) : Dev :=
  let rs := (unitsOf (len + 1) a len).map fun u =>
    ({ cls := 2, write := write, addr := u.1, len := u.2, data := (bs.drop (u.1 - a)).take u.2, arrived := clk,
       bar2 := true, off := off + (u.1 - a), reqId := reqId, time := time, urgent := false, bad := false,
       again := false } : MemReq)
  { d with mreqs := d.mreqs ++ rs }

/-! ## Regions (R309, R421, R425) -/

/-- Base and end of a region in bytes. -/
def Dev.regionLo (d : Dev) (r : Nat) : Nat := d.get .X_REGION_BASE r * 2 ^ 26
def Dev.regionHi (d : Dev) (r : Nat) : Nat := (d.get .X_REGION_BASE r + d.get .X_REGION_SIZE r) * 2 ^ 26
/-- The region is in use. -/
def Dev.regionIn (d : Dev) (r : Nat) : Bool := d.on .X_REGION_IN r

/-- The region in use that an address lies in. -/
def Dev.regionAt (d : Dev) (a : Nat) : Option Nat :=
  (List.range 4).find? fun r => d.regionIn r && decide (d.regionLo r ≤ a ∧ a < d.regionHi r)

/-- CAP_REGION shows the capture region. -/
def Dev.showRegion (d : Dev) : Dev :=
  (d.set .CAP_REGION_BASE 0 (d.get .X_REGION_BASE 3 % 512)).set .CAP_REGION_SIZE 0
    (if d.regionIn 3 then d.get .X_REGION_SIZE 3 % 512 else 0)

/-- R421: one region is judged against the capacity found. The default capture region is formed from it (R309). -/
def Dev.judgeRegion (r : Nat) (d : Dev) : Dev :=
  let cap := d.get .MEM_CFG_CAPACITY 0
  let d := if r = 3 ∧ d.on .X_REGION_DEF 0 then d.set .X_REGION_SIZE 3 (cap - d.get .X_REGION_BASE 3) else d
  let n := d.get .X_REGION_SIZE r
  if n = 0 then d.set .X_REGION_IN r 0
  else if d.get .X_REGION_BASE r + n ≤ cap then d.set .X_REGION_IN r 1
  else (d.set .X_REGION_IN r 0).set .MEM_EVENTS_REGION_ABSENT 0 1

/-- Every region counts as absent (R421, R436). -/
def Dev.dropRegions (d : Dev) : Dev :=
  (Dev.each 4 (fun r d => d.set .X_REGION_IN r 0) d).showRegion

/-- R421: the regions of the live plan come into use as the state of the memory allows. -/
def Dev.formRegions (d : Dev) : Dev :=
  if d.memTrained then (Dev.each 4 Dev.judgeRegion d).showRegion else d.dropRegions

/-- R425: what BAR2, or a DMA queue, may do at an address: 0 permitted, 1 unmapped, 2 locked. -/
def Dev.hostAccess (d : Dev) (a : Nat) (write : Bool) : Nat :=
  if d.memBytes ≤ a then 1
  else match d.regionAt a with
    | some 0 => 2
    | some 1 => if write then 2 else 0
    | some 3 => if write && !d.on .MEM_HOST_CAP_WRITE 0 then 2 else 0
    | _ => 0

/-- R423: the writes of a channel are stopped. -/
def Dev.writeStopped (d : Dev) (c : Nat) : Bool := d.on .MEM_C_STATUS_WRITE_STOP (c / 4)

end Sys2Proof.Machine
end

