-- ==== Sys2Proof/Machine/Ledger.lean ====
section
/-! DEFINITION. The margin ledger (R407 to R418): measurements, records, forecasts, re-plans within envelopes and alarms. -/

namespace Sys2Proof.Machine

open Sys2Proof

/-- Bit `b` of byte 0 of the lane record: 0 ENABLE, 1 LEVEL_EN, 2 TX_EN, 3 BIAS_EN, 4 HEATER_EN, 5 EFFORT_EN, 6 CAL_REQ_EN,
7 BIAS_SENSE (R417). -/
def Dev.lgBit (d : Dev) (n b : Nat) : Bool := bitAt (d.get .LEDG_L_CFG_ENABLES n) b
/-- The ledger runs for the lane. -/
def Dev.lgOn (d : Dev) (n : Nat) : Bool := d.lgBit n 0
/-- The ledger may move: not paused, and a reference is held (R412, R413). -/
def Dev.lgMay (d : Dev) (n : Nat) : Bool :=
  d.lgOn n && !d.on .LEDG_L_CTRL_PAUSE n && d.on .LEDG_L_STATUS_REFERENCED n
/-- Action `a` (alarm bit of R414) is enabled and has not stopped. -/
def Dev.lgAct (d : Dev) (n a : Nat) : Bool := d.lgBit n (a + 1) && !bitAt (d.get .X_LG_EXH n) a
/-- R412: an action stops and its alarm bit is set. -/
def Dev.lgStop (d : Dev) (n a : Nat) : Dev := d.orBits .X_LG_EXH n (2 ^ a)

/-- BIAS_CH (a = 0) or HEATER_CH (a = 1) of a lane, as the index of its channel. -/
def Dev.lgChan (d : Dev) (n a : Nat) : Option Nat :=
  let c := d.get (if a = 0 then .LEDG_L_CFG_BIAS_CH else .LEDG_L_CFG_HEATER_CH) n
  if c < 40 then some (40 * tileOf n + c) else none

/-! ## Measurements (R407) -/

/-- What the clerks gather of one lane at a tick. -/
def Dev.lgGather (n : Nat) (d : Dev) : Dev :=
  if d.lgOn n then
    let d := d.addSat .X_LG_TICKS n 1
    let d :=
      if d.rxLocked n then
        let d := d.addSat .X_LG_LOCK n 1
        let d := (d.addSat .X_LG_SNR (3 * n) (d.get .LRX_SNR_EYE0 n)).addSat .X_LG_SNR (3 * n + 1) (d.get .LRX_SNR_EYE1 n)
        d.addSat .X_LG_SNR (3 * n + 2) (d.get .LRX_SNR_EYE2 n)
      else d
    Dev.each 2 (fun a d =>
      match d.lgChan n a with
      | none => d
      | some i =>
        let o : Int := d.biasOutput i
        let h := (min (o - d.biasLo i) (d.biasHi i - o) + 65536).toNat
        let was := d.get .X_LG_HEAD (2 * n + a)
        d.set .X_LG_HEAD (2 * n + a) (if was = 0 then h else min was h)) d
  else d

/-- The mean SNR of an eye over the period. -/
def Dev.lgEye (d : Dev) (n k : Nat) : Option Int :=
  if d.get .X_LG_LOCK n = 0 then none else some (meanRound (d.get .X_LG_SNR (3 * n + k)) (d.get .X_LG_LOCK n))

/-- The worst of the three. -/
def Dev.lgWorst (d : Dev) (n : Nat) : Option Int :=
  match d.lgEye n 0, d.lgEye n 1, d.lgEye n 2 with
  | some a, some b, some c => some (min a (min b c))
  | _, _, _ => none

/-- The BER metric. The logarithm of a BER of 0 is a free value. -/
def Dev.lgBer (d : Dev) (n : Nat) : Option Int :=
  let bits := d.get .X_LG_BITS n
  let corr := d.get .X_LG_CORR n
  if bits = 0 ∨ d.get .X_LG_LOCK n = 0 then none
  else if corr = 0 then some (Config.freeValue 6 (64 * d.free + n) % 32768 : Nat)
  else some (logRound 100 bits corr)

/-- Average passes of the lane's group. -/
def Dev.lgPasses (d : Dev) (n : Nat) : Option Int :=
  let g := d.groupOf n
  if d.get .X_LG_CW g = 0 then none else some (meanRound (256 * d.get .X_LG_PASSES g) (d.get .X_LG_CW g))

/-- Equaliser tap energy. With tap 12 or every other tap at 0 the logarithm is a free value. -/
def Dev.lgEnergy (d : Dev) (n : Nat) : Int :=
  let main := (d.tap n 12).natAbs
  let rest := ((List.range 48).map fun i => if i = 12 then 0 else (d.tap n i).natAbs ^ 2).sum
  if main = 0 ∨ rest = 0 then sx 16 (Config.freeValue 9 (64 * d.free + n)) else logRound 100 rest (main ^ 2)

/-- ADC skew drift: RMS of the live skew trims less the NVM baseline. -/
def Dev.lgDrift (d : Dev) (n : Nat) : Int :=
  let q := ((List.range 64).map fun j =>
    (sx 8 (d.lget .CAL_TRIM_WORD (64 * n + j) / 65536) - sx 8 (d.nvmByte (0x22 + 192 * n + 3 * j)).toNat).natAbs ^ 2).sum
  rootRound q 64

/-- Headroom of BIAS_CH (a = 0) or HEATER_CH (a = 1). -/
def Dev.lgHead (d : Dev) (n a : Nat) : Option Int :=
  match d.lgChan n a with
  | none => none
  | some _ => if d.get .X_LG_HEAD (2 * n + a) = 0 then none else some ((d.get .X_LG_HEAD (2 * n + a) : Int) - 65536)

/-- Received optical power: the mean photodiode current over RESP. The full scale of GAIN 3 is 31.25 µA. The logarithm of a
power of 0 is a free value. -/
def Dev.lgPower (d : Dev) (n : Nat) : Option Int :=
  let sum := d.get .X_LG_PD_SUM n
  let k := d.get .X_LG_PD_N n
  if k = 0 then none
  else if sum = 0 ∨ d.get .X_LG_RESP n = 0 then some (sx 16 (Config.freeValue 5 (64 * d.free + n)))
  else some (logRound 1000 (3125 * sum) (100 * 65536 * k * d.get .X_LG_RESP n))

/-- The five metrics with a floor, in the order of their codes. -/
def Dev.lgMetrics (d : Dev) (n : Nat) : List (Option Int) :=
  [d.lgWorst n, d.lgBer n, d.lgHead n 0, d.lgHead n 1, d.lgPower n]
/-- The floor of a metric. -/
def Dev.lgFloor (d : Dev) (n m : Nat) : Int :=
  match m with
  | 0 => d.get .X_LG_FLOOR_SNR n
  | 1 => d.get .X_LG_FLOOR_BER n
  | 2 | 3 => d.get .X_LG_HEAD_MIN n
  | _ => sx 16 (d.get .X_LG_RX_MIN n)

/-- R408: the record of the period is VALID. -/
def Dev.lgValid (d : Dev) (n : Nat) : Bool :=
  decide (d.get .X_LG_TICKS n ≤ 2 * d.get .X_LG_LOCK n ∧ 0 < d.get .X_LG_LOCK n) && !d.on .X_LG_PARTIAL n

/-! ## Moves at ticks (R410 to R413) -/

/-- The largest magnitude of some displacements. -/
def Dev.lgLargest (d : Dev) (f : F) (n k : Nat) : Nat :=
  ((List.range k).map fun j => (sx 8 (d.get f (k * n + j))).natAbs).foldl max 0
/-- LEDG_L_DISP shows the displacements. -/
def Dev.lgShow (d : Dev) (n : Nat) : Dev :=
  (d.set .LEDG_L_DISP_LEVEL n (d.lgLargest .X_LG_LV_DISP n 4)).set .LEDG_L_DISP_TX n (d.lgLargest .X_LG_TX_DISP n 72)

/-- R413, R415: the reference is taken: every displacement is 0 and the alarm bits 0 to 4 end. -/
def Dev.lgReference (d : Dev) (n : Nat) : Dev :=
  let d := d.setEach .X_LG_LV_DISP ((List.range 4).map (4 * n + ·)) 0
  let d := d.setEach .X_LG_TX_DISP ((List.range 72).map (72 * n + ·)) 0
  let d := d.setEach .X_LG_B_DISP [2 * n, 2 * n + 1] 0
  (((d.set .X_LG_EXH n 0).set .X_LG_REF_DUE n 0).set .LEDG_L_STATUS_REFERENCED n 1).lgShow n

/-- R413: at a tick the reference is taken if it is due. -/
def Dev.lgRefTick (n : Nat) (d : Dev) : Dev :=
  if d.on .X_LG_REF_DUE n || (d.lgOn n && !d.on .LEDG_L_STATUS_REFERENCED n && d.rxLocked n) then d.lgReference n else d

/-- R411: the item of an index of the cyclic order: a tap, or an entry of the pre-distortion table. -/
def txItem (n k : Nat) : F × Nat :=
  if k < 8 then (.LTX_FIR_COEF, 9 * n + (if k < 2 then k else k + 1)) else (.LTX_PD_ENTRY_VALUE, 64 * n + (k - 8))

/-- R410, R115: a level target moves. It loses to a seed load of the same tick. -/
def Dev.lgLevel (d : Dev) (m : LedgMove) : Dev :=
  let n := m.lane
  if bitAt (d.get .X_LRX_LOADED n) 2 then d.dropChange n
  else
    let was := d.level n m.idx
    let d := Dev.bounded n 1 (fun _ p => Dev.putLevel n m.idx (was + m.step) p) d
    let k := 4 * n + m.idx
    let d := d.set .X_LG_LV_DISP k (ux 8 (sx 8 (d.get .X_LG_LV_DISP k) + (d.level n m.idx - was)))
    (d.orBits .X_LG_MOVED n (2 ^ m.idx)).lgShow n

/-- R411, R151: an item moves. It loses to a posting that makes the item live at this tick, and to the plan: `beaten` names the
settings that they make live. -/
def Dev.lgItem (beaten : Key → Bool) (d : Dev) (m : LedgMove) : Dev :=
  let n := m.lane
  let x := txItem n m.idx
  if beaten ⟨x.1, x.2⟩ then d.dropTx n
  else
    let w := x.1.width
    let was := sx w (d.lget x.1 x.2)
    let v := trimClamp w (was + m.step)
    let k := 72 * n + m.idx
    let d := (d.lset x.1 x.2 (ux w v)).set .X_LG_TX_DISP k (ux 8 (sx 8 (d.get .X_LG_TX_DISP k) + (v - was)))
    (d.showTx n).lgShow n

/-- R114, R410, R412: the category-2 moves of lane `n` at a tick: one level, and the items. -/
def Dev.lgMoves (beaten : Key → Bool) (n : Nat) (d : Dev) : Dev :=
  let mine := d.moves.filter fun m => m.lane == n
  let rest := d.moves.filter fun m => m.lane != n
  if !d.lgMay n then { d with moves := rest }
  else
    let lv := mine.filter fun m => m.kind == 0
    let tx := mine.filter fun m => m.kind == 1
    let d := { d with moves := rest ++ lv.drop 1 }
    let d := Dev.forList (lv.take 1) (fun m d => d.lgLevel m) d
    Dev.forList tx (fun m d => Dev.lgItem beaten d m) d

/-- STEP and envelope of BIAS_CH or HEATER_CH. -/
def Dev.lgStep (d : Dev) (n a : Nat) : Int := d.get (if a = 0 then .X_LG_BIAS_STEP else .X_LG_HEATER_STEP) n
def Dev.lgEnv (d : Dev) (n a : Nat) : Int := d.get (if a = 0 then .X_LG_BIAS_ENV else .X_LG_HEATER_ENV) n

/-- R410, R412: the category-5 move of BIAS_CH or HEATER_CH at a tick. -/
def Dev.lgBiasMove (n a : Nat) (d : Dev) : Dev :=
  let k := 2 * n + a
  let left := d.get .X_LG_B_LEFT k
  if left = 0 then d
  else
    let d := d.set .X_LG_B_LEFT k (left - 1)
    match d.lgChan n a with
    | none => d
    | some i =>
      if d.lgMay n && d.lgAct n (2 + a) then
        let v := if d.on .X_LG_B_DIR k then -d.lgStep n a else d.lgStep n a
        let disp := sx 32 (d.get .X_LG_B_DISP k)
        if d.lgEnv n a < (disp + v).natAbs then (d.lgStop n (2 + a)).set .X_LG_B_LEFT k 0
        else
          let was : Int := d.get .BIAS_C_TARGET_TARGET i
          let d := d.ledgerMove i v
          let dv := (d.get .BIAS_C_TARGET_TARGET i : Int) - was
          ((d.set .X_LG_B_DISP k (ux 32 (disp + dv))).set .X_LG_B_MOVE k (ux 32 dv)).set .X_LG_B_CLK k (d.clk + 1)
      else d

/-- R220, R410: the ledger minimum of a group is the largest of its lanes' values, at least 1. -/
def Dev.lgGroupMin (d : Dev) (g : Nat) : Nat :=
  ((d.lanesOfGroup g).map fun n => d.get .LEDG_L_DISP_LEDGER_MIN n).foldl max 1

/-- R410, R412: category-3 moves at a tick: the minimum efforts of the lanes of tiles whose grants are not `late`. -/
def Dev.lgEffort (late : Nat → Bool) (d : Dev) : Dev :=
  let d := Dev.each 64 (fun n d =>
    if d.on .X_LG_EFF_DUE n && !late (tileOf n) then
      let d := d.set .X_LG_EFF_DUE n 0
      if d.lgMay n then d.set .LEDG_L_DISP_LEDGER_MIN n (d.get .X_LG_EFF_NEXT n) else d
    else d) d
  Dev.each 64 (fun g d => if d.groupExists g then d.set .POOL_G_REQ_LEDGER_MIN g (d.lgGroupMin g) else d) d

/-! ## Decisions at a period end (R410, R411) -/

/-- Queue a move. -/
def Dev.lgQueue (d : Dev) (n kind idx : Nat) (step : Int) : Dev :=
  { d with moves := d.moves ++ [(⟨n, kind, idx, step⟩ : LedgMove)] }

/-- Level widening: the levels that bound an eye more than 1.0 dB below the mean of the three. -/
def Dev.lgWiden (d : Dev) (n : Nat) : Dev :=
  match d.lgEye n 0, d.lgEye n 1, d.lgEye n 2 with
  | some a, some b, some c =>
    Dev.each 3 (fun e d =>
      if d.lgAct n 0 ∧ 3 * [a, b, c].getD e 0 + 30 < a + b + c then
        let ok := fun (j : Nat) (s : Int) => decide ((sx 8 (d.get .X_LG_LV_DISP (4 * n + j)) + s).natAbs ≤ d.get .X_LG_LEVEL_ENV n)
        if ok e (-1) && ok (e + 1) 1 then (d.lgQueue n 0 e (-1)).lgQueue n 0 (e + 1) 1 else d.lgStop n 0
      else d) d
  | _, _, _ => d

/-- Transmit retune: the latest trial is judged by the fresh report, and the next item moves. -/
def Dev.lgRetune (d : Dev) (n : Nat) : Dev :=
  if d.lgAct n 1 && d.on .LEDG_L_STATUS_FAR_FRESH n then
    let now := d.get .LEDG_L_FAR_WORST n
    let last := d.get .X_LG_TX_ITEM n
    let dir := fun (d : Dev) (k : Nat) => if d.on .X_LG_TX_DIR (72 * n + k) then (-1 : Int) else 1
    let d :=
      if last ≠ 0 ∧ now + 1 ≤ d.get .X_LG_TX_WAS n then
        let k := last - 1
        (d.lgQueue n 1 k (-(dir d k))).set .X_LG_TX_DIR (72 * n + k) (1 - d.get .X_LG_TX_DIR (72 * n + k))
      else d
    let k := d.get .X_LG_TX_POS n
    let s := dir d k
    if d.get .X_LG_TX_ENV n < (sx 8 (d.get .X_LG_TX_DISP (72 * n + k)) + s).natAbs then
      (d.set .X_LG_TX_ITEM n 0).lgStop n 1
    else
      let d := (d.lgQueue n 1 k s).set .X_LG_TX_POS n ((k + 1) % 72)
      (d.set .X_LG_TX_ITEM n (k + 1)).set .X_LG_TX_WAS n now
  else d

/-- Bias re-centre and heater re-centre: the moves of the next 16 ticks. -/
def Dev.lgCentre (d : Dev) (n : Nat) : Dev :=
  let bal : Int := (d.get .LEDG_L_FAR_SNR2 n : Int) - d.get .LEDG_L_FAR_SNR0 n
  let start := fun (d : Dev) (a : Nat) =>
    let v := if d.on .X_LG_B_DIR (2 * n + a) then -d.lgStep n a else d.lgStep n a
    if d.lgEnv n a < (sx 32 (d.get .X_LG_B_DISP (2 * n + a)) + v).natAbs then d.lgStop n (2 + a)
    else d.set .X_LG_B_LEFT (2 * n + a) 16
  let d :=
    if d.lgAct n 2 && d.on .LEDG_L_STATUS_FAR_FRESH n && decide (5 ≤ bal.natAbs) && (d.lgChan n 0).isSome then
      start (d.set .X_LG_B_DIR (2 * n) (b2n (decide (0 < bal) != d.lgBit n 7))) 0
    else d
  if d.lgAct n 3 && (d.lgChan n 1).isSome then
    let fell := match d.lgPower n with
      | some p => decide (d.get .X_LG_RXP n ≠ 0) && decide (p + 10 < (d.get .X_LG_RXP n : Int) - 1 - 32768)
      | none => false
    start (if fell then d.set .X_LG_B_DIR (2 * n + 1) (1 - d.get .X_LG_B_DIR (2 * n + 1)) else d) 1
  else d

/-- R205: the pre-FEC BER threshold of `p` usable passes, in 10^-4. -/
def berThreshold (p : Nat) : Nat := [48, 66, 76, 83, 87, 90].getD (p - 1) 90

/-- Minimum effort. -/
def Dev.lgAsk (d : Dev) (n : Nat) : Dev :=
  let g := d.groupOf n
  let m := d.lgGroupMin g
  let own := max 1 (d.get .LEDG_L_DISP_LEDGER_MIN n)
  let bits := ((d.lanesOfGroup g).map fun l => d.get .X_LG_BITS l).sum
  let corr := ((d.lanesOfGroup g).map fun l => d.get .X_LG_CORR l).sum
  let low := decide (0 < bits ∧ 2 ≤ m ∧ corr * 40000 < berThreshold (m - 1) * bits)
  let d := d.set .X_LG_EFF_LOW n (if low then min 16 (d.get .X_LG_EFF_LOW n + 1) else 0)
  if !d.lgAct n 4 then d
  else if 0 < bits ∧ berThreshold m * bits < corr * 20000 then
    if d.get .X_LG_EFFORT_MAX n < m + 1 then d.lgStop n 4 else (d.set .X_LG_EFF_DUE n 1).set .X_LG_EFF_NEXT n (m + 1)
  else if d.get .X_LG_EFF_LOW n = 16 ∧ own = m then
    ((d.set .X_LG_EFF_DUE n 1).set .X_LG_EFF_NEXT n (own - 1)).set .X_LG_EFF_LOW n 0
  else d

/-- Calibration request: the age of the latest application of the lane's ADC unit and the SNR after it. -/
def Dev.lgCal (d : Dev) (n : Nat) : Dev :=
  match d.lgWorst n with
  | none => d
  | some w =>
    if d.on .X_LG_CAL_NEW n then
      ((d.setAll [.X_LG_CAL_NEW, .X_LG_CAL_AGE, .X_LG_CAL_DONE] n 0).set .X_LG_CAL_HELD n 1).set .X_LG_CAL_SNR n
        (w.toNat % 65536)
    else
      let d := d.set .X_LG_CAL_AGE n (min 16 (d.get .X_LG_CAL_AGE n + 1))
      if d.lgMay n && d.lgBit n 6 && d.on .X_LG_CAL_HELD n && !d.on .X_LG_CAL_DONE n &&
          decide (d.get .X_LG_CAL_AGE n = 16 ∧ w + 5 ≤ d.get .X_LG_CAL_SNR n) && d.calEnabled n 2 then
        Dev.calReason 3 n (d.set .X_LG_CAL_DONE n 1)
      else d

/-- The decisions of a lane at a period end. With PAUSE at 1 the ledger only measures. -/
def Dev.lgDecide (d : Dev) (n : Nat) : Dev :=
  let d := if d.lgMay n then (((d.lgWiden n).lgRetune n).lgCentre n).lgAsk n else d
  d.lgCal n

/-! ## Records, forecasts and alarms (R407 to R409, R414 to R416) -/

/-- The VALID records of lane `n` among its last WINDOW records, latest first. -/
def Dev.lgWindow (d : Dev) (n : Nat) : List LedgRec :=
  ((d.ledg.filter fun r => r.lane == n).take (d.get .LEDG_CFG_WINDOW 0)).filter fun r => r.valid

/-- The period in POST_TIME units. -/
def Dev.lgUnits (d : Dev) : Nat := d.period * 2 ^ d.get .LEDG_CFG_PERIOD_EXP 0

/-- R409: the hours of every metric of a lane. -/
def Dev.lgHours (d : Dev) (n : Nat) : List (Option Nat) :=
  (List.range 5).map fun m =>
    let pts := (d.lgWindow n).filterMap fun r => (r.m.getD m none).map fun v => (r.n, v)
    fitHours pts (d.get .LEDG_PERIOD_COUNT_COUNT 0) (d.lgFloor n m) d.lgUnits

/-- R414: the alarm word, and what its rising bits raise. -/
def Dev.lgAlarm (d : Dev) (n : Nat) (fc : Nat × Nat) : Dev :=
  let low := d.get .X_LG_EXH n + (if fc.1 < d.get .LEDG_CFG_FORECAST_ALARM 0 then 32 else 0)
  let w := low + 256 * fc.2 + 65536 * fc.1
  let rise := low &&& (63 - d.get .LEDG_L_ALARM_WORD n % 64)
  let d := d.set .LEDG_L_ALARM_WORD n w
  if rise = 0 then d
  else ((d.orBits .LEDG_L_ALARM_EV_RISEN n rise).raise (968 + engineOf n)).trigger 12 n (n + 2 ^ 32 * w) d.now

/-- A metric in the 16 bits of the record: 0x8000 when it is missing. -/
def lgField (v : Option Int) : List Byte :=
  leBytes 2 (match v with | none => 0x8000 | some z => ux 16 z)

/-- R416: the record of a lane. -/
def Dev.lgRecord (d : Dev) (n : Nat) (time : Nat) (valid fresh : Bool) (ticks : Nat) (eyes : List (Option Int))
    (ms : List (Option Int)) (passes : Option Int) (energy drift : Int) : List Byte :=
  let miss := ms.any (·.isNone) || passes.isNone
  let flags := b2n valid + 2 * d.get .X_LG_PARTIAL n + 4 * b2n miss + 8 * b2n fresh
  leBytes 8 time ++ leBytes 4 (d.get .LEDG_PERIOD_COUNT_COUNT 0) ++ leBytes 1 n ++ leBytes 1 flags ++ leBytes 2 ticks ++
    (eyes.map lgField).flatten ++ lgField (ms.getD 1 none) ++ lgField passes ++ lgField (some energy) ++
    lgField (some drift) ++ lgField (ms.getD 2 none) ++ lgField (ms.getD 3 none) ++ lgField (ms.getD 4 none) ++
    leBytes 4 (d.get .LEDG_L_ALARM_WORD n) ++ leBytes 1 (d.get .LEDG_L_DISP_LEVEL n) ++
    leBytes 1 (d.get .LEDG_L_DISP_TX n) ++ leBytes 1 (d.get .LEDG_L_DISP_LEDGER_MIN n) ++ leBytes 1 0 ++
    leBytes 2 (d.get .X_LG_B_DISP (2 * n)) ++ leBytes 2 (d.get .X_LG_B_DISP (2 * n + 1)) ++ leBytes 16 0

/-- The measurements of a lane start anew. -/
def Dev.lgClear (d : Dev) (n : Nat) : Dev :=
  let d := d.setAll [.X_LG_TICKS, .X_LG_LOCK, .X_LG_BITS, .X_LG_CORR, .X_LG_PD_SUM, .X_LG_PD_N, .X_LG_PARTIAL,
    .LEDG_L_STATUS_FAR_FRESH] n 0
  (d.setEach .X_LG_SNR [3 * n, 3 * n + 1, 3 * n + 2] 0).setEach .X_LG_HEAD [2 * n, 2 * n + 1] 0

/-- R433: a record that could not be written is dropped. -/
def Dev.lgLose (d : Dev) (n : Nat) : Dev :=
  if d.on .X_LG_UNWRITTEN n then (d.set .X_LG_UNWRITTEN n 0).addSat .MEM_LOST_LEDGER 0 1 else d

/-- R407 to R416: a period ends for one lane. LEDG_PERIOD_COUNT counts the period already. -/
def Dev.lgClose (n : Nat) (d : Dev) : Dev :=
  if d.lgOn n then
    let d := d.lgLose n
    let ms := d.lgMetrics n
    let eyes := [d.lgEye n 0, d.lgEye n 1, d.lgEye n 2]
    let passes := d.lgPasses n
    let energy := d.lgEnergy n
    let drift := d.lgDrift n
    let valid := d.lgValid n
    let fresh := d.on .LEDG_L_STATUS_FAR_FRESH n
    let ticks := min 65535 (65536 * d.get .X_LG_LOCK n / max 1 (d.get .X_LG_TICKS n))
    let mine : List LedgRec := ⟨n, d.get .LEDG_PERIOD_COUNT_COUNT 0, valid, ms⟩ :: d.ledg.filter fun r => r.lane == n
    let others : List LedgRec := d.ledg.filter fun r => r.lane != n
    let d := { d with ledg := mine.take 255 ++ others }
    let k := (d.lgWindow n).length
    let d := (d.set .LEDG_L_STATUS_VALID_RECS n k).set .LEDG_L_STATUS_FIT_VALID n (b2n (decide (8 ≤ k)))
    let hs := d.lgHours n
    let h := fun (m : Nat) => (hs.getD m none).getD 65535
    let d := ((d.set .LEDG_L_FC_LOW (3 * n) (h 0)).set .LEDG_L_FC_HIGH (3 * n) (h 1)).set .LEDG_L_FC_LOW (3 * n + 1) (h 2)
    let d := (d.set .LEDG_L_FC_HIGH (3 * n + 1) (h 3)).set .LEDG_L_FC_LOW (3 * n + 2) (h 4)
    let d := (d.lgDecide n).lgAlarm n (forecast hs)
    let d := d.set .X_LG_RXP n (match ms.getD 4 none with | none => 0 | some p => (p + 32769).toNat % 2 ^ 17)
    let rec_ := d.lgRecord n d.now valid fresh ticks eyes ms passes energy drift
    let d := Dev.each 16 (fun i d => d.set .LEDG_L_REC_BYTES (16 * n + i) (ofLE ((rec_.drop (4 * i)).take 4))) d
    (d.set .X_LG_UNWRITTEN n 1).lgClear n
  else d

/-- R417, R412, R415: a LEDGER re-plan has changed the envelopes of lane `n`; `d0` is the device before it. A wider envelope
ends its alarm bit, a narrower one below the displacement sets it. -/
def Dev.lgReplan (d0 : Dev) (n : Nat) (d : Dev) : Dev :=
  let disp : Nat → Nat := fun a =>
    match a with
    | 0 => d.lgLargest .X_LG_LV_DISP n 4
    | 1 => d.lgLargest .X_LG_TX_DISP n 72
    | 2 => (sx 32 (d.get .X_LG_B_DISP (2 * n))).natAbs
    | 3 => (sx 32 (d.get .X_LG_B_DISP (2 * n + 1))).natAbs
    | _ => d.get .LEDG_L_DISP_LEDGER_MIN n
  let env : List F := [.X_LG_LEVEL_ENV, .X_LG_TX_ENV, .X_LG_BIAS_ENV, .X_LG_HEATER_ENV, .X_LG_EFFORT_MAX]
  Dev.each 5 (fun a d =>
    let f := env.getD a .X_LG_LEVEL_ENV
    if d0.get f n < d.get f n then d.set .X_LG_EXH n (clearBit (d.get .X_LG_EXH n) a)
    else if d.get f n < d0.get f n ∧ d.get f n < disp a then d.lgStop n a
    else d) d

/-! ## Commands -/

/-- LEDGER_PERIOD_END (R407): a tick at which TIME_TICK_COUNT is a multiple of 2^PERIOD_EXP. -/
def execLedgerPeriodEnd (s : State) : Host.Outcome State Fault Refusal :=
  s.run fun d =>
    let c := d.get .TIME_TICK_COUNT_COUNT 0
    if c ≠ 0 ∧ c % 2 ^ d.get .LEDG_CFG_PERIOD_EXP 0 = 0 ∧ d.get .X_LG_CLOSED 0 ≠ c + 1 then
      let d := (d.set .X_LG_CLOSED 0 (c + 1)).addWrap .LEDG_PERIOD_COUNT_COUNT 0 1
      let d := (Dev.each 64 Dev.lgClose d).drawn
      let d := Dev.each 64 (fun g d => d.setAll [.X_LG_PASSES, .X_LG_CW] g 0) d
      if d.on .LEDG_CTRL_PERIOD_IRQ 0 then d.raise 967 else d
    else d

/-- LEDGER_RECORD_WRITE (R416, R433): the records of the latest period are written to the history region; they are dropped
while the memory is FAILED or the region absent, and wait while the memory cannot take them. -/
def execLedgerRecordWrite (s : State) : Host.Outcome State Fault Refusal :=
  s.run fun d =>
    Dev.each 64 (fun n d =>
      if d.on .X_LG_UNWRITTEN n then
        if d.memState = meREADY ∧ d.regionIn 1 then
          let size := d.get .X_REGION_SIZE 1 * 2 ^ 20
          let h := d.get .LEDG_HIST_HEAD_HEAD 0
          let bytes := ((List.range 16).map fun i => leBytes 4 (d.get .LEDG_L_REC_BYTES (16 * n + i))).flatten
          ((d.memWrite 4 (d.regionLo 1 + 64 * (h % size)) bytes).set .LEDG_HIST_HEAD_HEAD 0 ((h + 1) % size)).set
            .X_LG_UNWRITTEN n 0
        else if d.memState = meFAILED ∨ (d.memTrained ∧ !d.regionIn 1) then d.lgLose n
        else d
      else d) d

/-- FAR_REPORT_WRITE (R411): a write of LEDG_L_FAR. -/
def execFarReportWrite (n : Fin 64) (snr0 snr2 worst : BitVec 10) (s : State) : Host.Outcome State Fault Refusal :=
  s.run fun d =>
    let d := (d.set .LEDG_L_FAR_SNR0 n snr0.toNat).set .LEDG_L_FAR_SNR2 n snr2.toNat
    (d.set .LEDG_L_FAR_WORST n worst.toNat).set .LEDG_L_STATUS_FAR_FRESH n 1

/-- LEDGER_REBASE (R413): the reference is taken at the next tick. -/
def execLedgerRebase (n : Fin 64) (s : State) : Host.Outcome State Fault Refusal :=
  s.run fun d => d.set .X_LG_REF_DUE n 1

end Sys2Proof.Machine
end

