-- ==== Sys2Proof/Machine/Rs.lean ====
section
/-! DEFINITION. The outer code RS(544,514) over GF(2^10) (R199), with the field x^10 + x^3 + 1 and the generator whose roots are
the powers 0 to 29 of x, as IEEE 802.3 has them (PRESUMED, log entry 71). A codeword lists its 544 symbols in the order in which
they are sent, the coefficient of the highest power first. -/

namespace Sys2Proof.Machine

open Sys2Proof

/-! ## The field -/

/-- The product with x. -/
def gfDouble (a : Nat) : Nat := if bitAt a 9 then (2 * a) ^^^ 0x409 else 2 * a

/-- The product of two elements. -/
def gfMul (a b : Nat) : Nat :=
  (List.range 10).foldl (fun r i => if bitAt b (9 - i) then gfDouble r ^^^ a else gfDouble r) 0

/-- A power of an element. -/
def gfPow (a : Nat) : Nat → Nat
  | 0 => 1
  | k + 1 => gfMul a (gfPow a k)

/-- The inverse of an element other than 0. -/
def gfInv (a : Nat) : Nat :=
  let a2 := gfMul a a
  let a4 := gfMul a2 a2
  let a8 := gfMul a4 a4
  let a16 := gfMul a8 a8
  let a32 := gfMul a16 a16
  let a64 := gfMul a32 a32
  let a128 := gfMul a64 a64
  let a256 := gfMul a128 a128
  let a512 := gfMul a256 a256
  gfMul a2 (gfMul a4 (gfMul a8 (gfMul a16 (gfMul a32 (gfMul a64 (gfMul a128 (gfMul a256 a512)))))))

/-- The power of x with exponent `k`, 0 to 1,022. -/
def gfExp (k : Nat) : Nat := Nat.iterate gfDouble (k % 1023) 1

/-! ## Polynomials, the constant term first -/

/-- The value of a polynomial. -/
def polyEval (p : List Nat) (x : Nat) : Nat := p.foldr (fun c v => gfMul v x ^^^ c) 0
/-- The sum of two polynomials. -/
def polyAdd : List Nat → List Nat → List Nat
  | [], q => q
  | p, [] => p
  | a :: p, b :: q => (a ^^^ b) :: polyAdd p q
/-- A polynomial times an element. -/
def polyScale (a : Nat) (p : List Nat) : List Nat := p.map (gfMul a)
/-- The product of two polynomials. -/
def polyMul : List Nat → List Nat → List Nat
  | [], _ => []
  | a :: p, q => polyAdd (polyScale a q) (0 :: polyMul p q)
/-- The formal derivative. -/
def polyDeriv (p : List Nat) : List Nat :=
  ((List.range p.length).map fun i => if i % 2 = 1 then p.getD i 0 else 0).drop 1

/-! ## Encoder and decoder -/

/-- The generator polynomial. -/
def rsGenerator : List Nat := (List.range 30).foldl (fun g j => polyMul g [gfExp j, 1]) [1]

/-- One message symbol into the check register, the highest power first. -/
def rsShift (g reg : List Nat) (m : Nat) : List Nat :=
  let f := m ^^^ reg.headD 0
  List.zipWith (fun r c => r ^^^ gfMul f c) (reg.drop 1 ++ [0]) g

/-- The codeword of a message of 514 symbols. -/
def rsEncode (m : List Nat) : List Nat :=
  m ++ m.foldl (rsShift (rsGenerator.take 30).reverse) (List.replicate 30 0)

/-- The syndromes of a word. -/
def rsSyndromes (c : List Nat) : List Nat := (List.range 30).map fun j => polyEval c.reverse (gfExp j)

/-- The location of symbol `i`. -/
def rsLoc (i : Nat) : Nat := gfExp (543 - i)

/-- The state of the locator search: the locator, the auxiliary polynomial and the length. -/
structure RsSearch where
  loc : List Nat
  aux : List Nat
  len : Nat
  deriving DecidableEq, Repr

/-- One step of the search for the locator of errors and `f` erasures. -/
def rsStep (s : List Nat) (f : Nat) (q : RsSearch) (r : Nat) : RsSearch :=
  let delta := (List.range (r + 1)).foldl (fun v i => v ^^^ gfMul (q.loc.getD i 0) (s.getD (r - i) 0)) 0
  if delta = 0 then { q with aux := 0 :: q.aux }
  else
    let new := polyAdd q.loc (0 :: polyScale delta q.aux)
    if 2 * q.len ≤ r + f then ⟨new, polyScale (gfInv delta) q.loc, r + 1 + f - q.len⟩
    else ⟨new, 0 :: q.aux, q.len⟩

/-- R199: the decoder: the codeword within `e` errors and `f` erasures with 2e + f ≤ 30, if there is one. `erased` are the
erased places, without repeats. -/
def rsDecode (c : List Nat) (erased : List Nat) : Option (List Nat) :=
  let s := rsSyndromes c
  if s.all (· == 0) then some c
  else
    let f := erased.length
    let gamma := erased.foldl (fun g i => polyMul g [1, rsLoc i]) [1]
    let q := (List.range (30 - f)).foldl (fun q k => rsStep s f q (f + k)) (⟨gamma, gamma, f⟩ : RsSearch)
    let omega := (polyMul s q.loc).take 30
    let deriv := polyDeriv q.loc
    let fixed := (List.range 544).map fun i =>
      let x := rsLoc i
      let y := gfInv x
      if polyEval q.loc y = 0 then c.getD i 0 ^^^ gfMul x (gfMul (polyEval omega y) (gfInv (polyEval deriv y))) else c.getD i 0
    let wrong := ((List.range 544).filter fun i => fixed.getD i 0 != c.getD i 0 && !erased.contains i).length
    if decide (2 * wrong + f ≤ 30) && (rsSyndromes fixed).all (· == 0) then some fixed else none

end Sys2Proof.Machine
end

