-- ==== Sys2Proof/Machine/SpreadCode.lean ====
section
/-! DEFINITION. The codes of the spread: the inner code and its soft decoder (R182, R183, R197, R198), the layout of a frame
(R184 to R187), and the place of the RS codewords in a stream (R238, R239). -/

namespace Sys2Proof.Machine

open Sys2Proof

/-! ## The inner code (R182, R183) -/

/-- R182: the columns of the data bits: the values 3 to 136 with at least two bits set. -/
def dataColumns : List Nat := (List.range 137).filter fun v => decide (2 ≤ popcount 8 v)

/-- R182: the column of bit `i` of an inner codeword. -/
def column (i : Nat) : Nat := if i < 128 then dataColumns.getD i 0 else 2 ^ (i - 128)

/-- R182: the syndrome of a word. -/
def syndrome (c : List Bool) : Nat := (List.range 136).foldl (fun s i => if c.getD i false then s ^^^ column i else s) 0

/-- R183: the codeword with marker `m` for 128 data bits. -/
def innerEncode (m : Nat) (data : List Bool) : List Bool :=
  let s := (List.range 128).foldl (fun s i => if data.getD i false then s ^^^ column i else s) m
  ((List.range 128).map fun i => data.getD i false) ++ bitList 8 s

/-! ## The frame (R184 to R187) -/

/-- R184: codeword `m` at width `w` is an anchor, of the lane answered. -/
def anchorOf (w m : Nat) : Option Nat := if m % (320 / w) = 0 then some (m / (320 / w)) else none

/-- R183: the marker of codeword `m` of a frame at width `w`: 0, or that of the anchor of its lane. -/
def codewordMarker (w m : Nat) : Nat := (anchorOf w m).elim 0 fun g => 0xC0 + g

/-- R185: how many anchors have an index below `m`. -/
def anchorsBelow (w m : Nat) : Nat := ((List.range w).filter fun g => decide (320 * g / w < m)).length

/-- R185: where bit `i` of codeword `m` lies: its group-local lane and lane bit. -/
def lanePlace (w m i : Nat) : Nat × Nat :=
  match anchorOf w m with
  | some g => (g, (m - g) * (136 / w) + i)
  | none =>
    let g := i % w
    (g, (m - anchorsBelow w m) * (136 / w) + (if 320 * g / w < m then 136 else 0) + i / w)

/-- R186: the symbol of a lane bit, and its letter bit. -/
def letterPlace (b : Nat) : Nat × Nat := (b / 2, 3 - b % 2)

/-- R187: the stream of data bit `i`, and its place in that stream's share of the codeword. -/
def streamPlace (w i : Nat) : Nat × Nat := (i / (128 / w), i % (128 / w))

/-! ## The soft decoder (R197, R198) -/

/-- R197: the classes of a received bit. -/
inductive BitClass where
  | erased | g0 | g1 | g2 | g3 | pinned
  deriving DecidableEq, Repr

/-- R197: what it costs to flip a bit; a pinned bit is never flipped. -/
def BitClass.cost : BitClass → Nat
  | .erased => 0 | .g0 => 1 | .g1 => 2 | .g2 => 4 | .g3 => 8 | .pinned => 0

/-- R197: the class of a letter's grade; letters of an invalid segment count as grade 0. -/
def classOfGrade (valid : Bool) (g : Nat) : BitClass :=
  if !valid then .g0 else match g with
  | 0 => .g0 | 1 => .g1 | 2 => .g2 | _ => .g3

/-- Insert bit `i` behind the bits whose cost is not above its own. -/
def insertCost (cl : List BitClass) (i : Nat) : List Nat → List Nat
  | [] => [i]
  | j :: l => if (cl.getD i .g3).cost < (cl.getD j .g3).cost then i :: j :: l else j :: insertCost cl i l

/-- R198: the `t` unpinned bits with the lowest cost, the lower index first on a tie. -/
def testBits (cl : List BitClass) (t : Nat) : List Nat :=
  (((List.range 136).filter fun i => cl.getD i .g3 != .pinned).foldl (fun l i => insertCost cl i l) []).take t

/-- A word with one bit turned. -/
def flipBit (y : List Bool) (i : Nat) : List Bool := y.set i (!y.getD i false)

/-- R198: the candidate of one test pattern. -/
def innerCandidate (marker : Nat) (r : List Bool) (cl : List BitClass) (us : List Nat) (t : Nat) : Option (List Bool) :=
  let y := (List.range us.length).foldl (fun y b => if bitAt t b then flipBit y (us.getD b 0) else y) r
  let s := syndrome y ^^^ marker
  if s = 0 then some y
  else
    match (List.range 136).find? fun j => column j == s with
    | none => none
    | some j => if cl.getD j .g3 == .pinned then none else some (flipBit y j)

/-- R198: the cost of a candidate. -/
def flipCost (r y : List Bool) (cl : List BitClass) : Nat :=
  ((List.range 136).map fun i => if y.getD i false != r.getD i false then (cl.getD i .g3).cost else 0).sum

/-- R198: one candidate against the best so far and the second cost. -/
def innerBetter (b : Option (List Bool × Nat) × Nat) (y : List Bool) (cost : Nat) : Option (List Bool × Nat) × Nat :=
  match b.1 with
  | none => (some (y, cost), b.2)
  | some (y0, c0) =>
    if cost < c0 then (some (y, cost), if y0 != y then c0 else b.2)
    else if y != y0 && decide (cost < b.2) then (b.1, cost) else b

/-- R198: one pass of the inner decoder with test size `t`: the word it returns and its margin, none where it found no
candidate. -/
def innerPass (marker : Nat) (r : List Bool) (cl : List BitClass) (t : Nat) : List Bool × Option Nat :=
  let us := testBits cl t
  let b := (List.range (2 ^ us.length)).foldl (fun b k =>
    match innerCandidate marker r cl us k with
    | none => b
    | some y => innerBetter b y (flipCost r y cl)) (none, 4095)
  match b.1 with
  | none => (r, none)
  | some (y, c) => (y, some (b.2 - c))

/-- R198: a codeword is doubtful: its margin lies below DOUBT, or there was no candidate. -/
def isDoubtful (doubt : Nat) (margin : Option Nat) : Bool := margin.elim true fun m => decide (m < doubt)

/-- R198: the test size of pass `k`. -/
def testSize (k : Nat) : Nat := min (3 + k) 8


/-! ## Frames of letters and of levels (R184 to R187) -/

/-- R184: the bits of a stream that a frame carries. -/
def streamBitsPer (w : Nat) : Nat := 40960 / w

/-- R185, R186: the letter of a frame that carries bit `i` of codeword `m`, and the bit of the letter. -/
def letterOf (w m i : Nat) (letters : List (List (Fin 16))) : Nat × Nat :=
  let p := lanePlace w m i
  let q := letterPlace p.2
  (((letters.getD p.1 []).getD q.1 0).val, q.2)

/-- R185, R186: the received bits of codeword `m` of a frame, whose letters are listed by lane. -/
def wordBits (w m : Nat) (letters : List (List (Fin 16))) : List Bool :=
  (List.range 136).map fun i => bitAt (letterOf w m i letters).1 (letterOf w m i letters).2

/-- R197, R204: the classes of these bits; `valid` is the mask of the lanes whose segment is VALID. -/
def wordClasses (w m valid : Nat) (letters : List (List (Fin 16))) : List BitClass :=
  (List.range 136).map fun i => classOfGrade (bitAt valid (lanePlace w m i).1) ((letterOf w m i letters).1 % 4)

/-- R187: the share of stream `s` in the words of a frame, in stream order. -/
def streamOf (w s : Nat) (words : List (List Bool)) : List Bool :=
  (words.map fun x => (x.drop (s * (128 / w))).take (128 / w)).flatten

/-- R183, R187, R189: the codewords of a frame that carries the bits of its streams. -/
def frameWords (w : Nat) (streams : List (List Bool)) : List (List Bool) :=
  (List.range 320).map fun m =>
    innerEncode (codewordMarker w m) ((List.range w).map fun s =>
      (List.range (128 / w)).map fun j => (streams.getD s []).getD (m * (128 / w) + j) false).flatten

/-- R185: the bits that lane `g` carries of a frame. -/
def laneBits (w g : Nat) (words : List (List Bool)) : List Bool :=
  ((List.range 320).map fun m =>
    let x := words.getD m []
    match anchorOf w m with
    | some h => if h = g then x else []
    | none => (List.range (136 / w)).map fun j => x.getD (g + j * w) false).flatten

/-- R143, R186: the levels of pairs of bits. -/
def levelsOf : List Bool → List Nat
  | a :: b :: l => ungray (2 * b2n a + b2n b) :: levelsOf l
  | _ => []

/-! ## RS codewords in a stream (R187, R239) -/

/-- R239: the symbols after which the pattern of codewords in a stream repeats: two interleaved codewords at L400. -/
def rsBlock (mode : Nat) : Nat := if mode = 1 then 1088 else 544

/-- R239: the place in a stream, in symbols from the first codeword boundary, of symbol `i` of codeword `c`. At L400 the two
codewords of a block alternate, and the one that goes first changes every 16 symbols (PRESUMED, log entry 71). -/
def rsPlace (mode c i : Nat) : Nat :=
  if mode = 1 then 1088 * (c / 2) + 16 * (i / 8) + 2 * (i % 8) + (i / 8 + c) % 2 else 544 * c + i

/-- R239: the codeword and its symbol at a place in a stream. -/
def rsFind (mode p : Nat) : Nat × Nat :=
  if mode = 1 then
    let q := p % 1088
    (2 * (p / 1088) + (q / 16 + q) % 2, 8 * (q / 16) + q % 16 / 2)
  else (p / 544, p % 544)

/-- R201: codeword number `k` of a stream in the order of the last symbols: at L400 the second of a block ends first. -/
def rsNth (mode k : Nat) : Nat := if mode = 1 then 2 * (k / 2) + (1 - k % 2) else k

/-- Bits to a 10-bit symbol, bit 0 first (R239). -/
def symbolOf (bits : List Bool) : Nat := (bits.foldr (fun b n => 2 * n + b2n b) 0)

/-! ## The host side (R237 to R239) -/

/-- R237: the PCS or FEC lanes of a port, and those of one host lane. -/
def pcsLanes : Nat → Nat
  | 1 => 16 | 2 => 8 | _ => 4
/-- The PCS or FEC lanes that one host lane carries. -/
def pcsPerHost (mode : Nat) : Nat := if mode = 3 then 4 else 8

/-- R238, R239: bit `b` of symbol `p` of a port's stream on its way to the host: 0 for HOST_A or 1 for HOST_B, and the place of
the bit there. The FEC encoder gives the symbols to the PCS lanes in turn, and the lanes of a host lane are multiplexed bit by
bit (PRESUMED, log entry 71). -/
def hostPlace (mode p b : Nat) : Nat × Nat :=
  let lane := p % pcsLanes mode
  let k := pcsPerHost mode
  (lane / k, k * (10 * (p / pcsLanes mode) + b) + lane % k)

/-- R240: the symbol of a port's stream, and its bit, that bit `j` of host lane `h` carries once the lanes are deskewed and
reordered; at L400 this joins the two halves. -/
def hostFind (mode h j : Nat) : Nat × Nat :=
  let k := pcsPerHost mode
  let q := j / k
  (pcsLanes mode * (q / 10) + k * h + j % k, q % 10)

/-! ## Fill and marking (R155, R202, R243, R244) -/

/-- R155, R244: codeword `c` of idle fill, or with `fault` of the blocks that carry Local Fault. -/
def fillWord (fault : Bool) (mode c : Nat) : List Nat :=
  rsEncode ((List.range 514).map fun i => Config.fillSymbol fault mode c i % 1024)

/-- R155: bit `p` of a stream of idle fill. -/
def idleBit (mode p : Nat) : Bool :=
  let q := rsFind mode (p / 10)
  bitAt ((fillWord false mode q.1).getD q.2 0) (p % 10)

/-- R202, R243: an uncorrectable codeword as it is marked: the blocks of its message get errored synchronisation headers, and
the check symbols are encoded again. -/
def markWord (mode : Nat) (word : List Nat) : List Nat :=
  rsEncode ((List.range 514).map fun i => Config.markSymbol mode (word.take 514) i % 1024)

end Sys2Proof.Machine
end

