-- ==== Sys2Proof/Machine/DataPath.lean ====
section
/-! DEFINITION. The arithmetic of the data path, as functions of what flows through it: the samples, the equaliser, the corrector
and the sequence detector of a receive lane (R98, R101 to R105), the shadow sampler (R134, R135), the stages of the transmit
chain (R144 to R147, R152, R171) and the courier's symbols (R262, R264, R266 to R268, R290). Single samples come with no
command: what they deliver over a tick does (log entry 32). -/

namespace Sys2Proof.Machine

open Sys2Proof

/-- A value held to eight signed bits. -/
def sat8 (z : Int) : Int := clampI (-128) 127 z

/-! ## The receive chain (R102 to R105) -/

/-- The nearest integer to `a / 2^k`; a half goes where the implementation sends it (log entry 10). -/
def roundShift (place k : Nat) (a : Int) : Int :=
  if (Config.rounding place).val = 0 then -((-a + 2 ^ (k - 1)) / 2 ^ k) else (a + 2 ^ (k - 1)) / 2 ^ k

/-- R98: the sub-converter that samples symbol `k`. -/
def subConverter (k : Nat) : Nat := k % 64

/-- R98: a sample at code -128 or +127 counts as a clip. -/
def adcClips (x : Int) : Bool := decide (x ≤ -128 ∨ 127 ≤ x)

/-- R98, R391, R419: the sample of symbol `k` on lane `n` after the live trims of its sub-converter: gain in 2^-10, offset in 1/16
LSB (DEDUCED, log entry 76: the gain first, both added). -/
def Dev.trimmed (d : Dev) (n k : Nat) (raw : Int) : Int :=
  let w := d.lget .CAL_TRIM_WORD (64 * n + subConverter k)
  sat8 (roundShift 12 14 (16 * raw * (1024 + sx 8 (w / 256)) + 1024 * sx 8 w))

/-- R98, R101, R419: the phase at which it samples, in 1/4,096 UI: the sampling phase and the trim's skew. -/
def Dev.symbolPhase (d : Dev) (n k : Nat) (recovered : Int) : Int :=
  32 * d.samplingPhase n recovered + sx 8 (d.lget .CAL_TRIM_WORD (64 * n + subConverter k) / 65536)

/-- R102: the equalised sample. `taps` are the live taps; `x j` is the trimmed sample `j` symbols earlier, so tap `i` weighs
`x (i - 12)`. -/
def ffe (taps : List Int) (x : Int → Int) : Int :=
  sat8 (roundShift 6 8 ((List.range 48).map fun i => taps.getD i 0 * x ((i : Int) - 12)).sum)

/-- R103: the tentative level of a sample: how many midpoints of the live levels lie below it. `t` is the sample less the
tails of the two levels before it, in 1/64 LSB. -/
def slice (levels : List Int) (t : Int) : Nat :=
  ((List.range 3).filter fun i =>
    let m := 64 * (levels.getD i 0 + levels.getD (i + 1) 0)
    decide (m < 2 * t) || (decide (m = 2 * t) && (Config.rounding 8).val == 1)).length

/-- R103: a sample less α·L(p1) + β·L(p2), in 1/64 LSB. -/
def lessTail (levels : List Int) (alpha beta p1 p2 : Nat) (y : Int) : Int :=
  64 * y - alpha * levels.getD p1 0 - beta * levels.getD p2 0

/-- R103: the corrected sample; `prev`, `cur`, `next` are the tentative levels. -/
def correct (on : Bool) (table : List Int) (prev cur next : Nat) (y : Int) : Int :=
  if on then sat8 (y - table.getD (16 * prev + 4 * cur + next) 0) else y

/-- The state of the sequence detector: for each level of the previous symbol the path metric and the survivor's levels,
newest first. -/
structure Path where
  metric : Nat
  levels : List Nat
  deriving DecidableEq, Repr

/-- R104: the metric of a branch into level `a` from a path. -/
def branch (levels : List Int) (alpha beta : Nat) (z : Int) (p : Path) (a : Nat) : Nat :=
  let e := lessTail levels alpha beta (p.levels.getD 0 0) (p.levels.getD 1 0) z - 64 * levels.getD a 0
  let q := (e * e).toNat
  if (Config.rounding 7).val = 0 then q / 4096 else (q + 2048) / 4096

/-- R104: the best path into level `a`; the first of equal ones (log entry 10). -/
def extend (levels : List Int) (alpha beta : Nat) (z : Int) (ps : List Path) (a : Nat) : Path :=
  let cand := ps.map fun p => (⟨min 65535 (p.metric + branch levels alpha beta z p a), a :: p.levels.take 24⟩ : Path)
  cand.foldl (fun b p => if p.metric < b.metric then p else b) (cand.getD 0 ⟨0, []⟩)

/-- R104: one symbol of the detector: the smallest metric is subtracted from all. -/
def detect (levels : List Int) (alpha beta : Nat) (z : Int) (ps : List Path) : List Path :=
  let new := (List.range 4).map fun a => extend levels alpha beta z ps a
  let least := (new.map (·.metric)).foldl min 65535
  new.map fun p => { p with metric := p.metric - least }

/-- R105: the margin of the decision for a symbol: `ms` are the path metrics and `ds` the survivors' levels for it. -/
def margin (ms ds : List Nat) (best : Nat) : Nat :=
  ((List.range 4).filter fun s => ds.getD s 0 != ds.getD best 0).foldl (fun m s => min m (ms.getD s 0 - ms.getD best 0)) 4095

/-- R105: the first state of least metric. -/
def bestState (ms : List Nat) : Nat :=
  (List.range 4).foldl (fun b s => if ms.getD s 0 < ms.getD b 0 then s else b) 0

/-- R105: the grade of a margin: `fixed` is GRADE.MODE, `var` the noise variance in 1/16 LSB². -/
def grade (fixed : Bool) (var delta g1 g2 g3 : Nat) : Nat :=
  let dn := if fixed then delta / 16 else 8 * delta * 16 / var
  if dn < g1 then 0 else if dn < g2 then 1 else if dn < g3 then 2 else 3

/-- R105: the letter of a symbol. -/
def letter (fixed : Bool) (var g1 g2 g3 : Nat) (ms ds : List Nat) : Nat :=
  let b := bestState ms
  4 * gray (ds.getD b 0) + grade fixed var (margin ms ds b) g1 g2 g3

/-- The live taps, corrector entries and levels of a receive lane. -/
def Dev.liveTaps (d : Dev) (n : Nat) : List Int := (List.range 48).map fun i => sx 10 (d.lget .LRX_FFE_TAP_LIVE (48 * n + i))
def Dev.liveNlc (d : Dev) (n : Nat) : List Int := (List.range 64).map fun j => sx 8 (d.lget .LRX_NLC_ENTRY_LIVE (64 * n + j))
def Dev.liveLevels (d : Dev) (n : Nat) : List Int := (List.range 4).map fun j => sx 8 (d.lget (levelF j) n)

/-- R102, R103: the equalised and corrected sample of lane `n`: `x j` is the trimmed sample `j` symbols earlier. -/
def Dev.equalised (d : Dev) (n : Nat) (x : Int → Int) (prev cur next : Nat) : Int :=
  correct (d.lon .LRX_CTRL_NLC_EN n) (d.liveNlc n) prev cur next (ffe (d.liveTaps n) x)

/-- R134: the shadow sampler takes one symbol in 64; its sample passes through a copy of the live FFE and corrector. `x` are the
main samples but for the one that the shadow slice replaces, at `s`. -/
def shadowTakes (first k : Nat) : Bool := k % 64 == first % 64
def Dev.shadowSample (d : Dev) (n : Nat) (x : Int → Int) (s : Int) (prev cur next : Nat) : Int :=
  d.equalised n (fun j => if j = 0 then s else x j) prev cur next

/-- R134, R135: a shadow sample counts when the main decision is EYE or EYE + 1, and is then a hit when it lies on the other
side of the threshold from its level. Twice the distances are compared; a sample on the threshold is no hit. -/
def shadowHit (levels : List Int) (eye : Nat) (thresh z : Int) (decided : Nat) : Option Bool :=
  if decided = eye ∨ decided = eye + 1 then
    let t := levels.getD eye 0 + levels.getD (eye + 1) 0 + 2 * thresh
    let l := 2 * levels.getD decided 0
    some (decide ((l < t ∧ t < 2 * z) ∨ (t < l ∧ 2 * z < t)))
  else none

/-! ## The transmit chain (R144 to R147, R171, R172) -/

/-- R144: pre-emphasis, with halves away from zero; `u j` is the mapped level `j` symbols earlier. RAW bypasses it
(R171). -/
def preEmphasis (taps : List Int) (u : Int → Int) : Int :=
  roundDiv ((List.range 9).map fun i => taps.getD i 0 * u ((i : Int) - 2)).sum 256

/-- R145: pattern pre-distortion. -/
def preDistort (on : Bool) (table : List Int) (prev cur next : Nat) (w : Int) : Int :=
  if on then w + table.getD (16 * prev + 4 * cur + next) 0 else w

/-- R146: the DAC code, and whether saturation changed it. -/
def dacCode (p q : Int) : Int × Bool := (sat8 (p + q), decide (sat8 (p + q) ≠ p + q))

/-- R146: the peak of the courier's waveform at a depth. -/
def courierPeak : Nat → Nat
  | 0 => 0 | 1 => 4 | 2 => 8 | _ => 16

/-- R147, R152: the differential output in 1/16384 mV, for the swing code and a linearity trim in 1/64 LSB. -/
def dacOutput (swing : Nat) (x trim : Int) : Int := (64 * x + 32 + trim) * (500 + 10 * swing)

/-- R171: the level sent for pattern level `a`. -/
def patternLevel (invert : Bool) (a : Nat) : Nat := if invert then 3 - a else a

/-! ## The courier's symbols (R262, R264, R266 to R268, R290) -/

/-- R262: the level of one axis for its Gray bits, first bit first, before the scale. -/
def axisLevel : List Bool → Int
  | [a] => if a then -1 else 1
  | [a, b] => (if a then -1 else 1) * (if b then 1 else 3)
  | [a, b, c] => (if a then -1 else 1) * (if b then (if c then 3 else 1) else (if c then 5 else 7))
  | _ => 0

/-- Every second bit of a group, from the first. -/
def everyOther : List Bool → List Bool
  | a :: _ :: l => a :: everyOther l
  | l => l

/-- R262: the in-phase and quadrature levels of a sub-carrier for its group of bits. -/
def carrierPoint (bits : List Bool) : Int × Int :=
  match bits with
  | [b] => (axisLevel [b], 0)
  | _ => (axisLevel (everyOther bits), axisLevel (everyOther (bits.drop 1)))

/-- The bits that the sub-carriers of a map take from a stream, in ascending order (R264). -/
def loadBits : List Nat → List Bool → List (List Bool)
  | [], _ => []
  | c :: cs, bits => bits.take (codeBits c) :: loadBits cs (bits.drop (codeBits c))

/-- R264: the sub-carriers of pair `p` in a robust mode. -/
def pairCarriers (mode p : Nat) : List Nat :=
  match mode with
  | 2 => [16 + p, 64 + p]
  | 3 | 4 => [16 + p, 40 + p, 64 + p, 88 + p]
  | _ => []

/-- `n` output bits of a shift register of `w` bits whose new bit is the sum of bits `w - 1` and `t - 1`; the bit shifted
out is the output. -/
def prbs (w t : Nat) : Nat → Nat → List Bool
  | 0, _ => []
  | n + 1, r =>
    let b := bitAt r (w - 1) != bitAt r (t - 1)
    bitAt r (w - 1) :: prbs w t n ((2 * r + b2n b) % 2 ^ w)

/-- R266: the preamble values of sub-carriers 16 to 111. -/
def preamble : List Int := (prbs 9 5 96 0x1FF).map fun b => if b then -1 else 1

/-- R267: the first 32 header bits. -/
def headerFields (id gen len mode : Nat) : Nat :=
  id % 2 ^ 10 + gen % 4 * 2 ^ 10 + len % 2 ^ 12 * 2 ^ 12 + mode % 8 * 2 ^ 24

/-- R267: the header. -/
def courierHeader (id gen len mode : Nat) : Nat :=
  let h := headerFields id gen len mode
  h + crcField (crc16 (bitList 32 h)) * 2 ^ 32

/-- R268: the payload stream before padding. -/
def payloadStream (header : Nat) (bytes : List Byte) : List Bool :=
  bitsOfBytes (bytes ++ leBytes 4 (crc32 (leBytes 4 (header % 2 ^ 32) ++ bytes)).toNat)

/-- R290: the values of a knock burst's two sub-carriers in symbols 0 to 63. -/
def knockValues : List Int :=
  ((prbs 6 5 63 0x3F).foldl (fun l b => l ++ [l.getLastD 1 * (if b then -1 else 1)]) [1])

end Sys2Proof.Machine
end

