-- ==== Sys2Proof/Machine/TxChain.lean ====
section
/-! DEFINITION. The transmit chain (R142 to R147, R161, R163, R171) over the live settings of a lane: the level map,
pre-emphasis, pre-distortion, courier injection, saturation, ramp gain and the output driver, in that order, and what the chain
does with the symbols of a spread frame. -/

namespace Sys2Proof.Machine

open Sys2Proof

/-- R142: T(a), the DAC level of level `a` on lane `n`. -/
def Dev.levelMap (d : Dev) (n a : Nat) : Int :=
  sx 8 (d.lget (match a with
    | 0 => .LTX_LEVEL_LEVEL0 | 1 => .LTX_LEVEL_LEVEL1 | 2 => .LTX_LEVEL_LEVEL2 | _ => .LTX_LEVEL_LEVEL3) n)

/-- R171: the running pattern bypasses pre-emphasis and pre-distortion. -/
def Dev.rawPattern (d : Dev) (n : Nat) : Bool := d.get .LTX_STATUS_SOURCE n == 2 && d.lon .LTX_PAT_RAW n

/-- R171: the level that the source selector passes on for level `a` of its source. -/
def Dev.sourceLevel (d : Dev) (n a : Nat) : Nat :=
  if d.get .LTX_STATUS_SOURCE n = 2 then patternLevel (d.lon .LTX_PAT_INVERT n) a else a

/-- R142 to R145, R171: p of a symbol; `a j` is the level `j` symbols earlier. -/
def Dev.preCourier (d : Dev) (n : Nat) (a : Int → Nat) : Int :=
  let u := fun j => d.levelMap n (a j)
  if d.rawPattern n then u 0
  else
    preDistort (d.lon .LTX_CTRL_PD_EN n) ((List.range 64).map fun j => sx 8 (d.lget .LTX_PD_ENTRY_VALUE (64 * n + j)))
      (a 1) (a 0) (a (-1)) (preEmphasis ((List.range 9).map fun i => sx 10 (d.lget .LTX_FIR_COEF (9 * n + i))) u)

/-- R146, R153, R161: what the courier modem adds on lane `n` for its resampled waveform `q`: limited to the peak of the depth,
and nothing in IDLE or in SQUELCH outside analogue loopback. -/
def Dev.courierAdds (d : Dev) (n : Nat) (q : Int) : Int :=
  let p : Int := courierPeak (d.lget .LTX_COUR_DEPTH n)
  if d.get .LTX_STATUS_SOURCE n = 1 ∨ (d.tx n = txSQUELCH ∧ !d.lon .LRX_CTRL_ANALOG_LOOP n) then 0 else clampI (-p) p q

/-- R146: the code after saturation, and whether it counts as a clip. -/
def Dev.chainCode (d : Dev) (n : Nat) (a : Int → Nat) (q : Int) : Int × Bool := dacCode (d.preCourier n a) (d.courierAdds n q)

/-- R161, R163: the ramp gain scales the code, which is 0 in SQUELCH; the implementation rounds (log entry 10). -/
def Dev.rampCode (d : Dev) (n t : Nat) (x : Int) : Int := roundShift 11 12 (x * d.gainAt n t)

/-- R152, R419: the live linearity trim of the segment of eight codes that a DAC code lies in, 1/64 LSB. -/
def Dev.dacTrim (d : Dev) (n : Nat) (x : Int) : Int :=
  let s := ((x + 128) / 8).toNat
  sx 8 (d.lget .CAL_TRIM_WORD (64 * (64 + n) + s / 4) / 256 ^ (s % 4))

/-- R147, R152, R161, R166: the differential output in 1/16384 mV for a DAC code: no swing in SQUELCH, or without power in the
driver. -/
def Dev.driverOut (d : Dev) (n : Nat) (x : Int) : Int :=
  if d.tx n = txSQUELCH ∨ !d.domOn (domEngine (engineOf n)) then 0 else dacOutput (d.get .X_LTX_SWING n) x (d.dacTrim n x)

/-! ## A run of symbols -/

/-- The latest eight levels that the source selector of lane `n` has passed on: the chain looks two symbols ahead and six back
(R144). -/
def Dev.txTail (d : Dev) (n : Nat) : List Nat := (List.range 8).map fun i => d.get .X_LTX_TAIL (8 * n + i)

/-- The levels `ls` enter the chain of lane `n` at the time of the command, beside the courier's waveform `q`: the codes that
leave saturation and the ramp for as many symbols, two symbols behind, and the clips among them. -/
def Dev.chainRun (d : Dev) (n : Nat) (ls : List Nat) (q : List Int) : List Int × Nat :=
  let s := d.txTail n ++ ls
  let codes := (List.range ls.length).map fun (k : Nat) => d.chainCode n (fun j => s.getD ((k : Int) + 6 - j).toNat 0) (q.getD k 0)
  let mode := d.mode (engineOf n)
  ((List.range ls.length).map fun k => d.rampCode n (d.clk + lineSpan mode k) ((codes.map (·.1)).getD k 0),
    (codes.filter (·.2)).length)

/-- R142, R146: lane `n` sends the levels `ls` of its source, which lie in a spread frame or in a pattern. -/
def Dev.sendLevels (d : Dev) (n : Nat) (ls : List Nat) (q : List Int) : Dev :=
  let ls := ls.map fun a => d.sourceLevel n a
  let r := d.chainRun n ls q
  let s := (d.txTail n ++ ls).drop ls.length
  let e := d.addSat .X_LTX_CLIPS n r.2
  let e := Dev.each 8 (fun i e => e.set .X_LTX_TAIL (8 * n + i) (s.getD i 0)) e
  if d.tx n = txSQUELCH then e else e.send (.lineFrame n ls (r.1.map fun x => d.driverOut n x))

/-! ## Patterns (R170, R172, R179) -/

/-- The symbols that the pattern of lane `n` has run since it began. -/
def Dev.patternRan (d : Dev) (n : Nat) : Nat := lineSymbols (d.mode (engineOf n)) (d.clk - d.get .X_LTX_PAT_CLK n)

/-- R179: LTX_PAT.INDEX. -/
def Dev.patternIndex (d : Dev) (n : Nat) : Nat :=
  if d.get .LTX_STATUS_SOURCE n = 2 then d.patternRan n % patternPeriod (d.lget .LTX_PAT_PATTERN n) else 0

/-- R170, R172: the next `k` levels of the pattern of lane `n`. -/
def Dev.patternRun (d : Dev) (n k : Nat) : List Nat :=
  let words := (List.range 256).map fun w => d.lget .LTX_PAT_MEM_SYMBOLS (256 * n + w)
  (List.range k).map fun i => patternSymbol (d.lget .LTX_PAT_PATTERN n) words (d.patternRan n + i)

end Sys2Proof.Machine
end

