-- ==== Sys2Proof/Machine/Spread.lean ====
section
/-! DEFINITION. The spread decoder and encoder (R180 to R212): anchors, frame lock, RS codewords and their passes, and the
transmit frame. -/

namespace Sys2Proof.Machine

open Sys2Proof

/-- R131, R244: the decoded stream of lane `n` goes to its host lanes while they send DATA. -/
def Dev.toHost (d : Dev) (n : Nat) (o : Out) : Dev := if d.get .HOST_P_STATUS_TX_SRC n = 0 then d.send o else d

/-! ## Frame lock (R190 to R195) -/

/-- The anchored lanes of a group. -/
def Dev.anchoredLanes (d : Dev) (g : Nat) : List Nat := (d.lanesOfGroup g).filter fun n => d.anchored n
/-- The frame start of a lane in symbols. -/
def Dev.frameStart (d : Dev) (n : Nat) : Int := sx 32 (d.get .X_SPR_START n)
/-- The latest frame start of some lanes. -/
def Dev.latestStart (d : Dev) (l : List Nat) : Int := ((l.map d.frameStart).max?).getD 0
/-- R192: the skew of the anchored lanes. -/
def Dev.skew (d : Dev) (g : Nat) : Nat :=
  let l := d.anchoredLanes g
  (d.latestStart l - ((l.map d.frameStart).min?).getD 0).toNat

/-- The deskew delay of a lane follows its frame start. -/
def Dev.setDelay (g n : Nat) (d : Dev) : Dev :=
  d.set .SPR_L_ALIGN_DELAY n (clampI 0 256 (sx 32 (d.get .X_SPR_REF g) - d.frameStart n)).toNat

/-- R191: another lane's marker is found. -/
def Dev.orderError (d : Dev) (g own found : Nat) : Dev :=
  let d := (d.set .SPR_G_ALIGN_ORDER_FOUND g found).set .SPR_G_ALIGN_ORDER_LANE g own
  (d.set .SPR_G_EVENTS_ORDER_ERR g 1).raiseEngine (g / 8) 2

/-- A lane takes its anchor position. -/
def Dev.takeAnchor (d : Dev) (n : Nat) (start : Int) : Dev :=
  let g := d.groupOf n
  (d.set .SPR_G_STATUS_ANCHOR g (d.get .SPR_G_STATUS_ANCHOR g ||| 2 ^ d.local_ n)).set .X_SPR_START n (ux 32 start)

/-- R192: the frame start of a lane, resolved to the candidate nearest the other lanes: whole frames are added to `start` until
it lies within half a frame of the first lane that has anchored. -/
def Dev.resolveStart (d : Dev) (n : Nat) (start : Int) : Int :=
  let f : Int := d.segLen n
  match d.anchoredLanes (d.groupOf n) with
  | [] => start
  | m :: _ => start + f * ((2 * (d.frameStart m - start) + f) / (2 * f))

/-- R192, R194: the anchors of a group in HUNT are judged. -/
def Dev.judgeAnchors (d : Dev) (g : Nat) : Dev :=
  let d := d.set .SPR_G_ALIGN_SKEW g (min 511 (d.skew g))
  if 256 < d.skew g then
    let d := ((d.set .SPR_G_EVENTS_SKEW_ERR g 1).clearAnchors g).set .X_SPR_WAIT g 1
    d.raiseEngine (g / 8) 2
  else if (d.lanesOfGroup g).all fun n => d.anchored n then
    let d := d.set .X_SPR_REF g (ux 32 (d.latestStart (d.lanesOfGroup g)))
    let d := Dev.forList (d.lanesOfGroup g) (fun n d => (d.setDelay g n).cutSeg n) d
    (d.set .SPR_G_STATUS_STATE g sgVERIFY).set .X_SPR_GOOD g 0
  else d

/-- R190, R204: the words at one offset of a lane in eight consecutive frame periods, those in VALID segments marked, pass the
anchor test for the marker of group-local lane `h`. -/
def anchorPasses (words : List (Bool × List Bool)) (h : Nat) : Bool :=
  decide (3 ≤ ((words.take 8).filter fun x => x.1 && syndrome x.2 == 0xC0 + h).length)

/-- R190, R191: the lane of a group of width `w` whose marker the words carry, the lane's own `g` first. -/
def anchorMarker (w g : Nat) (words : List (Bool × List Bool)) : Option Nat :=
  (g :: List.range w).find? fun h => anchorPasses words h

/-- R190, R191, R194, R195: a lane's anchor test is passed for the marker of group-local lane `h`. While its group is LOCKED a
lane searches within 128 symbols of its former frame start. -/
def Dev.anchorFound (d : Dev) (n h : Nat) (start : Int) : Dev :=
  let g := d.groupOf n
  if d.rxLocked n && d.groupExists g && !d.anchored n then
    if d.sg g = sgHUNT ∧ !d.on .X_SPR_WAIT g then
      if h ≠ d.local_ n then d.orderError g (d.local_ n) h
      else (d.takeAnchor n (d.resolveStart n start)).judgeAnchors g
    else
      let at_ := d.resolveStart n start
      if d.sg g = sgLOCKED ∧ (at_ - d.frameStart n).natAbs ≤ 128 then
        if h ≠ d.local_ n then d.orderError g (d.local_ n) h
        else
          let d := ((d.takeAnchor n at_).setDelay g n).cutSeg n
          (d.set .X_SPR_REJOIN n 0).set .SPR_G_EVENTS_LANE_REJOIN g 1
      else d
  else d

/-- R194, R217: two frames verify the group: it enters LOCKED with allowance 1 and its latency at the target. -/
def Dev.enterGroupLock (d : Dev) (g : Nat) : Dev :=
  let d := ((d.set .SPR_G_STATUS_STATE g sgLOCKED).set .SPR_G_EVENTS_LOCK_GAINED g 1).set .X_SPR_BAD g 0
  let d := (d.set .SPR_G_STATUS_ALLOW g 1).set .SPR_G_LAT_TARGET g (d.targetFor g 1)
  let d := (d.set .X_SPR_LAT g (tenth * d.targetFor g 1)).set .X_SPR_LAT_CLK g d.clk
  d.raiseEngine (g / 8) 0

/-- R193, R204: every segment of a frame of the group is VALID. -/
def Dev.allValid (d : Dev) (g valid : Nat) : Bool := decide (valid % 2 ^ d.width (g / 8) = 2 ^ d.width (g / 8) - 1)

/-- R303: the decoder event record of a frame, for every EVENTS tap of a lane of the group. -/
def Dev.eventRecord (d : Dev) (g valid doubt corr : Nat) : Dev :=
  let b5 := d.get .X_SPR_F_PASS g + 8 * d.get .SPR_G_STATUS_ALLOW g + 64 * d.get .X_SPR_UNC g + 128 * d.get .X_SPR_F_SKIP g
  let bytes := leBytes 4 (d.get .SPR_G_FRAMES_COUNT g) ++ leBytes 1 valid ++ leBytes 1 b5 ++
    leBytes 1 (d.get .X_SPR_F_END g) ++ leBytes 1 (d.get .X_SPR_F_FAIL1 g) ++ leBytes 2 (d.get .X_SPR_F_UNC g) ++
    leBytes 2 doubt ++ leBytes 2 corr ++ leBytes 2 0
  let taps := (List.range 8).filter fun t => d.tapRuns t && d.lget .CAP_T_CTRL_POINT t == 3 &&
    d.groupOf (d.lget .CAP_T_CTRL_LANE t) == g
  { d with samples := d.samples ++ taps.map fun t => (t, bytes) }

/-- R203, R204, R210: the counters of a frame that has been decoded, its uncorrectable codewords, and what the ledger takes
from it for LOCKED lanes (R407). -/
def Dev.countFrame (d : Dev) (g valid : Nat) (corr : List Nat) (doubt : Nat) (time : Nat) : Dev :=
  let d := (d.addWrap .SPR_G_FRAMES_COUNT g 1).addWrap .SPR_G_INNER_DOUBT_COUNT g doubt
  let d := if d.allValid g valid then d else d.addWrap .SPR_G_FRAMES_INV_COUNT g 1
  let d :=
    if d.on .X_SPR_UNC g then
      let d := d.addWrap (if d.on .X_SPR_UNC_INV g then .SPR_G_UNC_FRAMES_INV_COUNT else .SPR_G_UNC_FRAMES_COUNT) g 1
      let info := g / 8 + 256 * (g % 8) + 2 ^ 32 * (d.get .SPR_G_FRAMES_COUNT g % 2 ^ 32)
      ((d.set .SPR_G_EVENTS_UNC g 1).raiseEngine (g / 8) 1).trigger 8 (d.firstLane g) info time
    else Dev.forList (d.lanesOfGroup g) (fun n d => d.addWrap .SPR_L_CORR_BITS_COUNT n (corr.getD (d.local_ n) 0)) d
  let good := !d.on .X_SPR_UNC g
  let d := Dev.forList (d.lanesOfGroup g) (fun n d =>
    if d.rxLocked n then
      (d.addSat .X_LG_BITS n (43520 / d.width (g / 8))).addSat .X_LG_CORR n (if good then corr.getD (d.local_ n) 0 else 0)
    else d) d
  let d := d.eventRecord g valid doubt corr.sum
  d.setAll [.X_SPR_UNC, .X_SPR_UNC_INV, .X_POOL_FRAME, .X_SPR_F_PASS, .X_SPR_F_END, .X_SPR_F_FAIL1, .X_SPR_F_UNC,
    .X_SPR_F_SKIP] g 0

/-- R193, R195, R204: what a frame of a LOCKED group says of its lanes: `good` normal codewords have syndrome 0, and the anchors
of the lanes in `miss` fail theirs. -/
def Dev.judgeFrame (d : Dev) (g good valid miss : Nat) : Dev :=
  let d := if !d.allValid g valid then d else d.set .X_SPR_BAD g (if good < 32 then min 16 (d.get .X_SPR_BAD g + 1) else 0)
  Dev.forList (d.lanesOfGroup g) (fun n d =>
    let d := if bitAt valid (d.local_ n) && bitAt miss (d.local_ n) then d.addSat .SPR_L_ALIGN_ANCHOR_MISS n 1 else d
    if d.rxLocked n && !d.anchored n then d.set .X_SPR_REJOIN n (min 256 (d.get .X_SPR_REJOIN n + 1)) else d) d

/-! ## The place of the RS codewords (R187, R196, R200) -/

/-- The stream of lane `n` has stream lock. -/
def Dev.streamLocked (d : Dev) (n : Nat) : Bool := bitAt (d.get .SPR_G_STATUS_STREAM_LOCK (d.groupOf n)) (d.local_ n)

/-- Where bit `b` of symbol `i` of codeword `c` of the stream of lane `n` lies: frame, inner codeword and data bit. -/
def Dev.rsBitAt (d : Dev) (n c i b : Nat) : Nat × Nat × Nat :=
  let w := d.width (engineOf n)
  let p := d.get .X_SPR_PHASE n + 10 * rsPlace (d.mode (engineOf n)) c i + b
  let q := p % streamBitsPer w
  (p / streamBitsPer w, q / (128 / w), d.local_ n * (128 / w) + q % (128 / w))

/-- The RS codeword, symbol and bit that data bit `i` of inner codeword `m` of frame `f` belongs to: none before the first
boundary of its stream. -/
def Dev.rsOfBit (d : Dev) (n f m i : Nat) : Option (Nat × Nat × Nat) :=
  let w := d.width (engineOf n)
  let p := f * streamBitsPer w + m * (128 / w) + i % (128 / w)
  let o := p - d.get .X_SPR_PHASE n
  if p < d.get .X_SPR_PHASE n then none
  else
    let q := rsFind (d.mode (engineOf n)) (o / 10)
    some (q.1, q.2, o % 10)

/-- The RS codeword that the stream of lane `n` is to decode next. -/
def Dev.rsNow (d : Dev) (n : Nat) : Nat := rsNth (d.mode (engineOf n)) (d.get .X_SPR_CW n)

/-- The stream bits, since frame lock, up to the end of that codeword's last symbol. -/
def Dev.rsEnd (d : Dev) (n : Nat) : Nat := d.get .X_SPR_PHASE n + 10 * (rsPlace (d.mode (engineOf n)) (d.rsNow n) 543 + 1)

/-- The streams of a group with stream lock. -/
def Dev.lockedStreams (d : Dev) (g : Nat) : List Nat := (d.lanesOfGroup g).filter fun n => d.streamLocked n

/-- R201: the stream of a group whose next codeword has the earliest last symbol, the lower lane first on a tie. -/
def Dev.rsFirst (d : Dev) (g : Nat) : Option Nat :=
  match d.lockedStreams g with
  | [] => none
  | n :: l => some (l.foldl (fun b m => if d.rsEnd m < d.rsEnd b then m else b) n)

/-- The frame of a group with number `f`. -/
def Dev.frameOf (d : Dev) (g f : Nat) : Option RxFrame := d.rxFrames.find? fun x => x.group == g && x.no == f

/-! ## Frames decoded (R196, R202 to R204, R210) -/

/-- R210: the bits that a lane carried in a frame and whose latest decision differs from the received one. -/
def correctedBits (w lane : Nat) (x : RxFrame) : Nat :=
  ((List.range 320).map fun m =>
    let r := wordBits w m x.letters
    let y := (x.words.getD m ([], none)).1
    ((List.range 136).filter fun i => (lanePlace w m i).1 == lane && r.getD i false != y.getD i false).length).sum

/-- R174: the decoded frames of a group in FAR_LOOP go into its buffer, which holds four. -/
def Dev.loopPush (d : Dev) (g : Nat) (streams : List (List Bool)) : Dev :=
  if (d.lanesOfGroup g).any fun n => d.get .LTX_STATUS_SOURCE n == 3 then
    (if (d.loopOf g).length < 4 then { d with loops := d.loops ++ [(⟨g, streams⟩ : LoopFrame)] } else d).showLoop g
  else d

/-- A frame is done: it is counted, goes to the loop buffer, and the streams without stream lock are delivered as the first
pass left them. -/
def Dev.frameDone (d : Dev) (x : RxFrame) : Dev :=
  let g := x.group
  let w := d.width (g / 8)
  let words := x.words.map (·.1)
  let doubt := (x.words.filter fun y => isDoubtful (d.lget .SPR_CTRL_DOUBT (g / 8)) y.2).length
  let d := d.countFrame g x.valid ((List.range w).map fun l => correctedBits w l x) doubt x.time
  let d := d.loopPush g ((List.range w).map fun s => streamOf w s words)
  Dev.forList (d.lanesOfGroup g) (fun n d =>
    if d.streamLocked n then d else d.toHost n (.streamBits n (streamOf w (d.local_ n) words))) d

/-- Frames and pinned codewords that no later decode of the group needs are dropped. -/
def Dev.dropFrames (d : Dev) (g : Nat) : Dev :=
  let w := d.width (g / 8)
  let fin := d.get .X_SPR_FIN g
  let from_ := fun n => d.get .X_SPR_PHASE n +
    10 * rsBlock (d.mode (g / 8)) * (d.rsNow n / (if d.mode (g / 8) = 1 then 2 else 1))
  let need := (d.lockedStreams g).foldl (fun f n => min f (from_ n / streamBitsPer w)) fin
  { d with
    rxFrames := d.rxFrames.filter fun x => x.group != g || decide (need ≤ x.no)
    rsDone := d.rsDone.filter fun x => d.groupOf x.lane != g ||
      decide (need * streamBitsPer w ≤ d.get .X_SPR_PHASE x.lane + 10 * (rsPlace (d.mode (g / 8)) x.cw 543 + 1)) }

/-- The frames of a group in which no RS codeword is left to decode are done, at most `fuel` of them. -/
def Dev.finishFrames (g : Nat) : Nat → Dev → Dev
  | 0, d => d
  | fuel + 1, d =>
    let f := d.get .X_SPR_FIN g
    match d.frameOf g f with
    | none => d
    | some x =>
      if (d.lockedStreams g).any fun n => decide (d.rsEnd n ≤ (f + 1) * streamBitsPer (d.width (g / 8))) then d
      else Dev.finishFrames g fuel (((d.frameDone x).set .X_SPR_FIN g (f + 1)).dropFrames g)

/-- R193, R194, R197, R198, R204: a frame of a group is received: `letters` are its letters by lane. The first pass runs on every
codeword. -/
def Dev.frameReceived (d : Dev) (g : Nat) (letters : List (List (Fin 16))) (time : Nat) : Dev :=
  let w := d.width (g / 8)
  let valid := bitsWhere w fun l => d.segValid (d.firstLane g + l)
  let bits := (List.range 320).map fun m => wordBits w m letters
  let good := ((List.range 320).filter fun m => (anchorOf w m).isNone && syndrome (bits.getD m []) == 0).length
  let miss := bitsWhere w fun l => syndrome (bits.getD (320 * l / w) []) != 0xC0 + l
  let ended := fun (d : Dev) => Dev.forList (d.lanesOfGroup g) (fun n d => d.endSegs n 1 (b2n (!bitAt valid (d.local_ n))) (b2n (bitAt valid (d.local_ n)))) d
  if d.sg g = sgVERIFY then
    let d := ended d
    if good < 32 then (d.toHunt g).clearAnchors g
    else if d.get .X_SPR_GOOD g = 0 then d.set .X_SPR_GOOD g 1
    else d.enterGroupLock g
  else if d.sg g = sgLOCKED then
    let words := (List.range 320).map fun m =>
      innerPass (codewordMarker w m) (bits.getD m []) (wordClasses w m valid letters) (testSize 1)
    let x : RxFrame := ⟨g, d.get .X_SPR_NO g, time, valid, letters, words⟩
    let d := ({ ended d with rxFrames := d.rxFrames ++ [x] }).addWrap .X_SPR_NO g 1
    Dev.finishFrames g d.rxFrames.length (d.judgeFrame g good valid miss)
  else d

/-! ## Passes (R198 to R203, R227 to R229) -/

/-- R228, R229: one slot for a group from its account, else from the reserve; `none` if it is not served. -/
def Dev.slot (d : Dev) (g : Nat) : Option Dev :=
  let t := g / 16
  let served := fun (d : Dev) => (d.addWrap .POOL_SLOTS_COUNT t 1).addSat .X_POOL_USED g 1
  if 0 < d.get .X_POOL_ACCT g then some (served (d.set .X_POOL_ACCT g (d.get .X_POOL_ACCT g - 1)))
  else if 0 < d.get .X_POOL_RES t ∧ d.get .X_POOL_FRAME g < d.lget .POOL_POLICY0_FRAME_LIMIT t then
    let d := (d.set .X_POOL_RES t (d.get .X_POOL_RES t - 1)).addSat .X_POOL_FRAME g 1
    some (served ((d.addSat .X_POOL_DRAWN g 1).addSat .X_POOL_RES_DRAWN t 1))
  else none

/-- R201, R229: a pass is skipped. -/
def Dev.skipPass (d : Dev) (g : Nat) : Dev :=
  let t := g / 16
  let d := ((d.addWrap .SPR_G_SKIPPED_COUNT g 1).set .SPR_G_EVENTS_SKIPPED g 1).set .X_SPR_F_SKIP g 1
  if d.get .X_POOL_RES t = 0 ∧ !d.on .X_POOL_RES_EMPTY t then
    ((d.set .X_POOL_RES_EMPTY t 1).set .POOL_EVENTS_RESERVE_EMPTY t 1).raiseTile t 11
  else d

/-- The latest decisions of the inner codewords that one RS codeword has had passes of its own on, by frame and word (R200). -/
abbrev OwnWords := List ((Nat × Nat) × (List Bool × Option Nat))

/-- The decision of word `m` of frame `f` that counts for the codeword. -/
def Dev.ownWord (d : Dev) (g : Nat) (own : OwnWords) (a : Nat × Nat) : List Bool × Option Nat :=
  (own.lookup a).getD (((d.frameOf g a.1).map fun x => x.words.getD a.2 ([], none)).getD ([], none))

/-- The inner codewords that carry a symbol of codeword `c` of the stream of lane `n`. -/
def Dev.carriers (d : Dev) (n c : Nat) : List (Nat × Nat) :=
  ((List.range 544).map fun i => [d.rsBitAt n c i 0, d.rsBitAt n c i 9].map fun p => (p.1, p.2.1)).flatten.eraseDups

/-- The symbols of the codeword as the inner passes have left them. -/
def Dev.rsSymbols (d : Dev) (n c : Nat) (own : OwnWords) : List Nat :=
  (List.range 544).map fun i => symbolOf ((List.range 10).map fun b =>
    let p := d.rsBitAt n c i b
    (d.ownWord (d.groupOf n) own (p.1, p.2.1)).1.getD p.2.2 false)

/-- Put a symbol behind those with a margin not above its own. -/
def insertMargin (x : Nat × Nat) : List (Nat × Nat) → List (Nat × Nat)
  | [] => [x]
  | y :: l => if x.1 < y.1 then x :: y :: l else y :: insertMargin x l

/-- R200: the symbols of the codeword that doubtful inner codewords carry, lowest margin first; no candidate counts as margin 0
(log entry 71). -/
def Dev.doubtSymbols (d : Dev) (n c : Nat) (own : OwnWords) : List Nat :=
  let doubt := d.lget .SPR_CTRL_DOUBT (engineOf n)
  let marks := (List.range 544).filterMap fun i =>
    let ms := [d.rsBitAt n c i 0, d.rsBitAt n c i 9].map fun p => (d.ownWord (d.groupOf n) own (p.1, p.2.1)).2
    ((ms.filter (isDoubtful doubt)).map fun m => (m.getD 0)).min?.map fun m => (m, i)
  (marks.foldl (fun l x => insertMargin x l) []).map (·.2)

/-- R200, R212: ERASE_MAX, with 31 taken as 30. -/
def Dev.eraseMax (d : Dev) (e : Nat) : Nat := min 30 (d.lget .SPR_CTRL_ERASE_MAX e)

/-- R197, R199: the bits of an inner codeword for a pass of codeword `c` of lane `n` with erased symbols `er`, and their
classes: bits of RS codewords already corrected have their corrected values and are pinned. -/
def Dev.passWord (d : Dev) (n c : Nat) (er : List Nat) (x : RxFrame) (m : Nat) : List Bool × List BitClass :=
  let w := d.width (engineOf n)
  let r := wordBits w m x.letters
  let cl := wordClasses w m x.valid x.letters
  let bits := (List.range 136).map fun i =>
    let lane := d.firstLane x.group + i / (128 / w)
    let plain := (r.getD i false, cl.getD i .g0)
    if 128 ≤ i ∨ !d.streamLocked lane then plain
    else match d.rsOfBit lane x.no m i with
      | none => plain
      | some (k, s, b) =>
        match d.rsDone.find? fun y => y.lane == lane && y.cw == k with
        | some y => (bitAt (y.syms.getD s 0) b, .pinned)
        | none => if lane = n ∧ k = c ∧ er.contains s then (plain.1, .erased) else plain
  (bits.map (·.1), bits.map (·.2))

/-- R200: pass `k` on the inner codewords of the codeword. -/
def Dev.innerPasses (d : Dev) (n c k : Nat) (er : List Nat) (own : OwnWords) : OwnWords :=
  let w := d.width (engineOf n)
  ((d.carriers n c).map fun a =>
    match d.frameOf (d.groupOf n) a.1 with
    | none => (a, d.ownWord (d.groupOf n) own a)
    | some x =>
      let p := d.passWord n c er x a.2
      (a, innerPass (codewordMarker w a.2) p.1 p.2 (testSize k)))

/-- The decoding of an RS codeword so far: the decisions that count for it, the passes it has received, its symbols once it has
decoded, and whether an erasure set was cut. -/
structure RsTry where
  own    : OwnWords
  passes : Nat
  answer : Option (List Nat)
  capped : Bool
  deriving DecidableEq, Repr

/-- R200, R201: the passes after the first, at most `fuel` of them, while the codeword fails and the pool serves it. -/
def Dev.morePasses (n c : Nat) : Nat → RsTry → Dev → Dev × RsTry
  | 0, q, d => (d, q)
  | fuel + 1, q, d =>
    if q.answer.isSome then (d, q)
    else match d.slot (d.groupOf n) with
      | none => (d.skipPass (d.groupOf n), q)
      | some d =>
        let all := d.doubtSymbols n c q.own
        let er := all.take (d.eraseMax (engineOf n))
        let own := d.innerPasses n c (q.passes + 1) er q.own
        Dev.morePasses n c fuel ⟨own, q.passes + 1, rsDecode (d.rsSymbols n c own) er, q.capped || decide (er.length < all.length)⟩ d

/-- The decisions of the codeword's own passes, and its symbols if it has decoded, stand in the frames from now on. -/
def Dev.storeWords (d : Dev) (n c : Nat) (q : RsTry) : Dev :=
  { d with rxFrames := d.rxFrames.map fun x =>
      if x.group != d.groupOf n then x
      else { x with words := (List.range 320).map fun m =>
        let y := (q.own.lookup (x.no, m)).getD (x.words.getD m ([], none))
        match q.answer with
        | none => y
        | some syms => ((List.range 136).map fun i =>
            if i / (128 / d.width (engineOf n)) = d.local_ n ∧ i < 128 then
              match d.rsOfBit n x.no m i with
              | some (k, s, b) => if k = c then bitAt (syms.getD s 0) b else y.1.getD i false
              | none => y.1.getD i false
            else y.1.getD i false, y.2) } }

/-- R202, R203, R210: what the counters take of an RS codeword that has completed. -/
def Dev.countWord (d : Dev) (n : Nat) (first inv : Bool) (corr : Nat) (q : RsTry) : Dev :=
  let g := d.groupOf n
  let k := q.passes
  let failed := b2n (!first)
  let d := (d.addWrap .SPR_G_RS_CW_COUNT g 1).addWrap .SPR_L_RS_CW_COUNT n 1
  let d := (d.addWrap .SPR_G_PASSES_COUNT g k).addWrap .SPR_L_PASSES_COUNT n k
  let d := (d.addSat .X_LG_CW g 1).addSat .X_LG_PASSES g k
  let d := (d.addSat .X_POOL_N g 1).addSat .X_POOL_F1 g failed
  let d := (d.addSat .X_SPR_F_END g 1).addSat .X_SPR_F_FAIL1 g failed
  let d := (d.set .X_SPR_F_PASS g (max k (d.get .X_SPR_F_PASS g))).addSat .X_SPR_F_UNC g (b2n q.answer.isNone)
  let d := if q.capped then d.set .SPR_G_EVENTS_ERASE_CAPPED g 1 else d
  let d := if inv then d.set .X_SPR_UNC_INV g 1 else d
  if q.answer.isSome then
    (d.addSat .SPR_G_PASS_HIST_COUNT (6 * g + (k - 1)) 1).addWrap .SPR_G_RS_SYM_CORR_COUNT g corr
  else
    let d := (d.addWrap .SPR_G_RS_UNC_COUNT g 1).addWrap .SPR_L_RS_UNC_COUNT n 1
    (d.set .X_SPR_UNC g 1).set .X_POOL_FAIL g 1

/-- R196, R199 to R203: the next RS codeword of the stream of lane `n` is decoded, if its last symbol has been received and no
codeword of the group with an earlier last symbol waits. -/
def Dev.rsCodeword (d : Dev) (n : Nat) : Dev :=
  let g := d.groupOf n
  let w := d.width (engineOf n)
  if d.sg g = sgLOCKED ∧ d.rsFirst g = some n ∧ d.rsEnd n ≤ d.get .X_SPR_NO g * streamBitsPer w then
    let c := d.rsNow n
    let ans := rsDecode (d.rsSymbols n c []) []
    let p := Dev.morePasses n c (d.usable g - 1) ⟨[], 1, ans, false⟩ d
    let q := p.2
    let d := p.1
    let last := d.rsSymbols n c q.own
    let corr := (q.answer.map fun s => ((List.range 544).filter fun i => s.getD i 0 != last.getD i 0).length).getD 0
    let inv := (d.carriers n c).any fun a => ((d.frameOf g a.1).map fun x => !d.allValid g x.valid).getD false
    let d := (d.storeWords n c q).countWord n ans.isSome inv corr q
    let out := match q.answer with
      | some s => s
      | none => if d.lon .SPR_CTRL_UNC_MARK (engineOf n) then markWord (d.mode (engineOf n)) last else last
    let d := (match q.answer with
      | some s => { d with rsDone := d.rsDone ++ [(⟨n, c, s⟩ : RsWord)] }
      | none => d).toHost n (.rsWord n out)
    Dev.finishFrames g d.rxFrames.length (d.addWrap .X_SPR_CW n 1)
  else d

/-! ## Ticks and postings -/

/-- R194, R212: what a tick does in a group. -/
def Dev.groupTick (g : Nat) (d : Dev) : Dev :=
  let d := (d.set .X_SPR_WAIT g 0).groupFollow g
  if d.askDue .X_SPR_RELOCK .X_SPR_RELOCK_CLK g then
    let d := d.askTake .X_SPR_RELOCK .X_SPR_RELOCK_CLK .X_SPR_RELOCK_LAST g
    if d.sg g = sgOFF then d else (d.toHunt g).clearAnchors g
  else d

/-- R209: the groups of engine `e` at a posting: their latency goes on from where the old rate brought it. -/
def Dev.postSpread (d0 : Dev) (e : Nat) (d : Dev) : Dev :=
  Dev.each 8 (fun q d => (d.set .X_SPR_LAT (8 * e + q) (d0.latencyIn (8 * e + q) 0)).set .X_SPR_LAT_CLK (8 * e + q) d.clk) d

/-! ## Commands -/

/-- Bit `k` of what the host has sent for the encoder of lane `n`, counted from where the encoder stands; what no codeword has
brought is a free value. -/
def Dev.hostBit (d : Dev) (n k : Nat) : Bool :=
  let p := d.get .X_LTX_POS n + k
  let q := rsFind (d.mode (engineOf n)) (p / 10)
  match (d.lineIn.filter fun x => x.lane == n)[q.1]? with
  | some x => bitAt (x.syms.getD q.2 0) (p % 10)
  | none => bitAt (d.draw 20) (40960 * n + k)

/-- The encoder of lane `n` has taken `k` bits: whole blocks of codewords that it has used up are dropped. -/
def Dev.tookBits (d : Dev) (n k : Nat) : Dev :=
  let per := if d.mode (engineOf n) = 1 then 2 else 1
  let size := 5440 * per
  let p := d.get .X_LTX_POS n + k
  let gone := per * (p / size)
  let mine := (d.lineIn.filter fun x => x.lane == n).drop gone
  ({ d with lineIn := (d.lineIn.filter fun x : RsWord => x.lane != n) ++ mine }).set .X_LTX_POS n (p % size)

/-- R155, R157, R189: the stream bits that lane `n` gives to a frame. -/
def Dev.streamShare (d : Dev) (n : Nat) : List Bool :=
  let k := streamBitsPer (d.width (engineOf n))
  if d.sendsIdle n then (List.range k).map fun j => idleBit (d.mode (engineOf n)) (d.get .X_LTX_IDLE n + j)
  else if d.get .LTX_STATUS_SOURCE n = 3 then (((d.loopOf (d.groupOf n)).head?.map fun x => x.streams).getD []).getD (d.local_ n) []
  else (List.range k).map fun j => d.hostBit n j

/-- R187, R188: lane `n` has given its share, and counts the frame. -/
def Dev.frameSent (n : Nat) (d : Dev) : Dev :=
  let k := streamBitsPer (d.width (engineOf n))
  let d := d.addWrap .LTX_FRAMES_COUNT n 1
  if d.sendsIdle n then d.addWrap .X_LTX_IDLE n k
  else if d.get .LTX_STATUS_SOURCE n = 3 then d
  else (d.tookBits n k).drawn

/-- TRANSMIT_FRAME (R188): the encoder of the group of lane `n` sends a frame of what the sources of its lanes give it. A lane
in PATTERN sends its pattern for as long and counts no frame, and a squelched one sends nothing. `courier` is what the courier
modem of each lane of the group has for the symbols, resampled and before the limit of R146. -/
def execTransmitFrame (n : Fin 64) (courier : List (List Byte)) (s : State) : Host.Outcome State Fault Refusal :=
  s.run fun d =>
    if d.framing (engineOf n) then
      let g := d.groupOf n
      let w := d.width (engineOf n)
      let lanes := (d.groupLanes n).filter fun m => d.get .LTX_STATUS_SOURCE m != 2
      let words := frameWords w ((d.groupLanes n).map fun m => d.streamShare m)
      let looping := lanes.any fun m => d.get .LTX_STATUS_SOURCE m == 3 && !d.sendsIdle m
      let d := Dev.forList lanes Dev.frameSent d
      let d := if looping then d.loopPop g else d
      Dev.forList (d.groupLanes n) (fun m d =>
        let q := (courier.getD (d.local_ m) []).map fun x => x.toInt
        let ls := if d.get .LTX_STATUS_SOURCE m = 2 then d.patternRun m (d.segLen m) else levelsOf (laneBits w (d.local_ m) words)
        d.sendLevels m ls q) d
    else d

/-- ANCHOR_FOUND (R190): the words that lane `n` has received at one offset, with frame start `start`, in eight consecutive
frame periods; each is marked if its segment was VALID. -/
def execAnchorFound (n : Fin 64) (words : List (Bool × List Bool)) (start : Word) (s : State) :
    Host.Outcome State Fault Refusal :=
  s.run fun d =>
    match anchorMarker (d.width (engineOf n)) (d.local_ n) words with
    | none => d
    | some h => d.anchorFound n h (sx 32 start.toNat)

/-- SPREAD_FRAME_RECEIVED (R194): the letters of a frame, by lane of the group, and the time of the frame. -/
def execSpreadFrameReceived (g : Fin 64) (letters : List (List (Fin 16))) (time : DWord) (s : State) :
    Host.Outcome State Fault Refusal :=
  s.run fun d => d.frameReceived g letters time.toNat

/-- GROUP_LOCK_LOST (R194). -/
def execGroupLockLost (g : Fin 64) (s : State) : Host.Outcome State Fault Refusal :=
  s.run fun d =>
    if d.sg g = sgLOCKED ∧ 16 ≤ d.get .X_SPR_BAD g then (d.toHunt g).clearAnchors g else d

/-- REJOIN_LIMIT (R195). -/
def execRejoinLimit (n : Fin 64) (s : State) : Host.Outcome State Fault Refusal :=
  s.run fun d =>
    let g := d.groupOf n
    if d.sg g = sgLOCKED ∧ d.rxLocked n ∧ !d.anchored n ∧ 256 ≤ d.get .X_SPR_REJOIN n then d.toHunt g else d

/-- SPREAD_RELOCK (R212). -/
def execSpreadRelock (e : Fin 8) (groups : Byte) (s : State) : Host.Outcome State Fault Refusal :=
  s.run fun d => Dev.each 8 (fun q d =>
    if bitAt groups.toNat q && d.groupExists (8 * e + q) then
      d.askWrite .X_SPR_RELOCK .X_SPR_RELOCK_CLK .X_SPR_RELOCK_LAST (8 * e + q)
    else d) d

/-- The group counters that SPR_CMD.CLEAR_STATS clears. -/
def groupCounters : List F := [.SPR_G_FRAMES_COUNT, .SPR_G_FRAMES_INV_COUNT, .SPR_G_UNC_FRAMES_COUNT,
  .SPR_G_UNC_FRAMES_INV_COUNT, .SPR_G_RS_CW_COUNT, .SPR_G_RS_UNC_COUNT, .SPR_G_RS_SYM_CORR_COUNT, .SPR_G_PASSES_COUNT,
  .SPR_G_INNER_DOUBT_COUNT, .SPR_G_SKIPPED_COUNT]
/-- The lane counters that it clears. -/
def laneCounters : List F := [.SPR_L_CORR_BITS_COUNT, .SPR_L_RS_CW_COUNT, .SPR_L_RS_UNC_COUNT, .SPR_L_PASSES_COUNT,
  .SPR_L_ALIGN_ANCHOR_MISS]

/-- SPR_CLEAR_STATS (R212). -/
def execSprClearStats (e : Fin 8) (s : State) : Host.Outcome State Fault Refusal :=
  s.run fun d => Dev.each 8 (fun q d =>
    let g := 8 * e.val + q
    let d := (d.setAll groupCounters g 0).setAll laneCounters g 0
    Dev.each 6 (fun k d => d.set .SPR_G_PASS_HIST_COUNT (6 * g + k) 0) d) d

/-- STREAM_LOCK (R196): the alignment-marker lock procedure has found an RS codeword boundary of the stream of lane `n`, `phase`
stream bits after the latest frame. -/
def execStreamLock (n : Fin 64) (phase : BitVec 16) (s : State) : Host.Outcome State Fault Refusal :=
  s.run fun d =>
    let g := d.groupOf n
    if d.sg g = sgLOCKED ∧ !d.streamLocked n then
      let d := d.set .SPR_G_STATUS_STREAM_LOCK g (d.get .SPR_G_STATUS_STREAM_LOCK g ||| 2 ^ d.local_ n)
      (d.set .X_SPR_PHASE n (d.get .X_SPR_NO g * streamBitsPer (d.width (engineOf n)) + phase.toNat)).set .X_SPR_CW n 0
    else d

/-- STREAM_LOST (R196). -/
def execStreamLost (n : Fin 64) (s : State) : Host.Outcome State Fault Refusal :=
  s.run fun d =>
    let g := d.groupOf n
    if d.streamLocked n then
      let d := (d.set .SPR_G_STATUS_STREAM_LOCK g (clearBit (d.get .SPR_G_STATUS_STREAM_LOCK g) (d.local_ n))).set
        .SPR_G_EVENTS_STREAM_LOST g 1
      let d := { d with rsDone := d.rsDone.filter fun x => x.lane != n.val }
      Dev.finishFrames g d.rxFrames.length d
    else d

/-- RS_CODEWORD_DECODE (R200): the next RS codeword of the stream of lane `n`. -/
def execRsCodewordDecode (n : Fin 64) (s : State) : Host.Outcome State Fault Refusal :=
  s.run fun d => d.rsCodeword n

end Sys2Proof.Machine
end

