-- ==== Sys2Proof/Machine/Pool.lean ====
section
/-! DEFINITION. The decoder pool (R213 to R234): capacity, requests, charges, grants, age and the reserve. Group 8e + q of
the device is group j = 8k + q of its tile. -/

namespace Sys2Proof.Machine

open Sys2Proof

/-- The groups of a tile, in the order of j. -/
def Dev.tileGroups (d : Dev) (t : Nat) : List Nat :=
  ((List.range 16).map fun j => 16 * t + j).filter fun g => d.groupExists g
/-- The LOCKED groups of a tile (R217). -/
def Dev.poolGroups (d : Dev) (t : Nat) : List Nat := (d.tileGroups t).filter fun g => d.sg g == sgLOCKED
/-- R230: the pool of a tile is in state ON; while it is being entered, woken or rolled back it serves nothing. -/
def Dev.poolOn (d : Dev) (t : Nat) : Bool := d.dom (domPool t) == pwON

/-! ## Capacity (R213 to R216) -/

/-- R213: slots per REFCLK cycle at a level. -/
def slotsAt (level : Nat) : Nat := 16 - 4 * min 3 level
/-- R214: the driver's cap: 0 and 9 to 15 taken as 8. -/
def capOf (v : Nat) : Nat := if 1 ≤ v ∧ v ≤ 8 then v else 8

/-- R36: a queued posting is due at the next tick. -/
def Dev.due (d : Dev) (p : Posting) : Bool := decide (p.at_ + 2 * us + d.now ≤ d.clk + d.tickDue)
/-- R35: a queued posting due at the next tick covers the tile-common registers of tile `t`, or with `hub` hub registers
that scope 6 covers too. -/
def Dev.postDue (d : Dev) (t : Nat) (hub : Bool) : Bool :=
  d.posts.any fun p => d.due p && decide (p.scope = 0 ∨ (p.scope = 1 ∧ p.index = t) ∨ (hub = true ∧ p.scope = 6))

/-- R214: the live cap. -/
def Dev.capLive (d : Dev) (t : Nat) : Nat :=
  min (d.get .POOL_STATUS_CAP_THERMAL t) (capOf (d.lget .POOL_CTRL_DRIVER_CAP t))
/-- R215: the level that the capacity of the tick that has begun uses. -/
def Dev.levelNow (d : Dev) (t : Nat) : Nat :=
  max (d.get .PWR_T_LEVEL_LIVE t) (max (d.get .PWR_T_LEVEL_TARGET t) (d.lget .PWR_T_LEVEL_REQ t))
/-- R215: the level that the capacity of the next tick uses; a plan due then asks for `plan`. -/
def Dev.levelNext (d : Dev) (t plan : Nat) : Nat :=
  max (max (d.levelNow t) plan) (if d.postDue t true then d.get .PWR_T_LEVEL_REQ t else 0)
/-- R215: the cap that it uses; a plan due then sets the thermal cap `plan`. -/
def Dev.capNext (d : Dev) (t plan : Nat) : Nat :=
  let live := min (d.capLive t) plan
  if d.postDue t false then min live (capOf (d.get .POOL_CTRL_DRIVER_CAP t)) else live
/-- R44: the exponent of the tick period that begins at POST_TIME `due`. -/
def Dev.tickK (d : Dev) (due : Nat) : Nat :=
  if d.get .X_K_NEXT 0 ≠ 0 ∧ next28 (d.get .X_K_FROM 0) ≤ due then d.get .X_K_NEXT 0 - 1
  else d.get .TIME_TICK_CFG_PERIOD_K 0
/-- R213: the capacity of the tick that begins at POST_TIME `due`, at a level and a cap. -/
def Dev.capacity (d : Dev) (level cap due : Nat) : Nat := slotsAt level * (640 * 2 ^ d.tickK due) * cap / 8
/-- R216, R232: the reserve of a capacity, with RESERVE as the latest grant computation found it. -/
def Dev.reserveOf (d : Dev) (t c : Nat) : Nat := c * d.get .X_POOL_RSV t / 32

/-! ## Requests and charges (R218 to R221) -/

/-- R223: a code of MIN, MAX or FORCE: 0 taken as 1, 7 as 6. -/
def code6 (v : Nat) : Nat := clampN 1 6 v

/-- R218: the letters of a grade in the last complete tick over the lanes of a group. -/
def Dev.letters (d : Dev) (g j : Nat) : Nat := d.get .X_POOL_LET (4 * g + j)

/-- R218: the score of a group. With no letter in the tick the spec gives none: a free value. -/
def Dev.score (d : Dev) (g : Nat) : Nat :=
  let n := d.letters g 0 + d.letters g 1 + d.letters g 2 + d.letters g 3
  if n = 0 then d.draw 2 % 2 ^ 16
  else min 65535 (16384 * (4 * d.letters g 0 + d.letters g 1) / n)

/-- R231: the score thresholds S2 to S6 of a tile, live. -/
def thresholds (t : Nat) (get : F → Nat → Nat) : List Nat :=
  [get .POOL_SCORE_THR_LOW (3 * t), get .POOL_SCORE_THR_HIGH (3 * t), get .POOL_SCORE_THR_LOW (3 * t + 1),
   get .POOL_SCORE_THR_HIGH (3 * t + 1), get .POOL_SCORE_THR_LOW (3 * t + 2)]

/-- R219: the policy allowance for a score. -/
def Dev.policyAllow (d : Dev) (t s : Nat) : Nat := 1 + ((thresholds t d.lget).filter fun x => decide (x ≤ s)).length

/-- R219, R220: the effective floor. -/
def Dev.poolFloor (d : Dev) (g : Nat) : Nat :=
  clampN 1 (code6 (d.lget .POOL_G_CTRL_MAX g)) (max (code6 (d.lget .POOL_G_CTRL_MIN g)) (d.get .POOL_G_REQ_LEDGER_MIN g))

/-- R219: the request of a group with a given policy allowance. -/
def Dev.request (d : Dev) (g policy : Nat) : Nat :=
  let allow := d.get .SPR_G_STATUS_ALLOW g
  let req := max (d.poolFloor g) policy
  let req := if d.on .X_POOL_LAST_FAIL g && d.usable g == allow && decide (allow < 6) then max req (allow + 1) else req
  let req := if req < allow then
      (if max 1 (d.lget .POOL_POLICY0_HOLD (g / 16)) ≤ d.get .X_POOL_CLEAN g then allow - 1 else allow) else req
  min req (code6 (d.lget .POOL_G_CTRL_MAX g))

/-- R208, R221: the passes usable at the end of the next tick at allowance `a`: in its last unit, so a pass that becomes usable
with the tick after it does not count. -/
def Dev.predicted (d : Dev) (g a : Nat) : Nat :=
  let lat := slewTo (d.latencyIn g (d.tickDue - d.now)) (tenth * d.targetFor g a) (d.slewRate (g / 8))
    (2 ^ (22 + d.tickK d.tickDue) - 1)
  min a (d.passesAt g lat)

/-- R221: the charge of an allowance. -/
def Dev.charge (d : Dev) (g a : Nat) : Nat :=
  let f1 := d.get .X_POOL_LAST_F1 g
  (min a (d.predicted g a) - 1) * min (f1 + f1 / 4 + d.lget .POOL_POLICY1_FLOOR (g / 16)) (d.get .X_POOL_LAST_N g)

/-- R223: the largest allowance at most `a` that a test accepts, at least 1. -/
def largest (p : Nat → Bool) : Nat → Nat
  | 0 => 1
  | 1 => 1
  | a + 1 => if p (a + 1) then a + 1 else largest p a

/-! ## Ranking and grants (R222 to R226) -/

/-- R222: a group is urgent by its age. -/
def Dev.urgent (d : Dev) (g : Nat) : Bool := decide (max 1 (d.lget .POOL_POLICY0_URGENT (g / 16)) ≤ d.get .POOL_G_AGE_AGE g)

/-- R222: group `a` ranks before group `b`; a tie goes to the lower index. -/
def Dev.ranksBefore (d : Dev) (a b : Nat) : Bool :=
  if d.urgent a != d.urgent b then d.urgent a
  else
    let ka := if d.urgent a then d.get .POOL_G_AGE_AGE a else d.get .POOL_G_SCORE_SCORE a
    let kb := if d.urgent b then d.get .POOL_G_AGE_AGE b else d.get .POOL_G_SCORE_SCORE b
    decide (kb < ka ∨ (ka = kb ∧ a < b))

/-- Put a group at its rank. -/
def Dev.insertRank (d : Dev) (g : Nat) : List Nat → List Nat
  | [] => [g]
  | h :: l => if d.ranksBefore g h then g :: h :: l else h :: d.insertRank g l

/-- R222: groups in rank order. -/
def Dev.ranked (d : Dev) (l : List Nat) : List Nat := l.foldr (fun g acc => d.insertRank g acc) []

/-- The grants made so far and the budget left. -/
structure Grants where
  left : Int
  list : List (Nat × Nat)
  cut  : Bool
  deriving DecidableEq, Repr

/-- The grant of a group. -/
def Grants.of (s : Grants) (g : Nat) : Nat := ((s.list.find? fun p => decide (p.1 = g)).map (·.2)).getD 0

/-- R223: the grants of a tile at budget `b`. -/
def Dev.grants (d : Dev) (t b : Nat) : Grants × Int :=
  let all := d.poolGroups t
  let forced := all.filter fun g => d.lon .POOL_G_CTRL_FORCE_EN g
  let rest := d.ranked (all.filter fun g => !d.lon .POOL_G_CTRL_FORCE_EN g)
  let s0 : Grants := forced.foldl (fun s g =>
    let a := code6 (d.lget .POOL_G_CTRL_FORCE g)
    { s with left := s.left - d.charge g a, list := (g, a) :: s.list }) ⟨b, [], false⟩
  let s1 := rest.foldl (fun s g =>
    let a := largest (fun a => decide ((d.charge g a : Int) ≤ max s.left 0)) (d.poolFloor g)
    { left := s.left - d.charge g a, list := (g, a) :: s.list, cut := s.cut || decide (a < d.poolFloor g) }) s0
  let s2 := rest.foldl (fun s g =>
    let have_ := s.of g
    let a := max have_ (largest (fun a => decide ((d.charge g a : Int) - d.charge g have_ ≤ max s.left 0))
      (d.get .POOL_G_REQ_REQUEST g))
    { s with left := s.left - (d.charge g a - d.charge g have_), list := (g, a) :: s.list }) s1
  (s2, s0.left)

/-- R225: the age of a group after a grant computation. -/
def Dev.ageGroup (g : Nat) (forced denied : Bool) (d : Dev) : Dev :=
  let served := d.on .X_POOL_SERVED g
  let age := if served then 0 else d.get .POOL_G_AGE_AGE g
  let age := if denied && !forced then min 65535 (age + 1) else age
  let d := ((d.set .POOL_G_REQ_SERVED g (b2n served)).set .POOL_G_REQ_DENIED g (b2n (denied && !forced))).set
    .POOL_G_AGE_AGE g age
  let d := if denied && !forced then d.addSat .POOL_G_COUNTS_DENIED g 1 else d
  d.set .POOL_G_AGE_MAX_AGE g (max (d.get .POOL_G_AGE_MAX_AGE g) age)

/-- R218, R219: the score of a group, LOCKED or not, and its policy allowance. -/
def Dev.scoreGroup (g : Nat) (d : Dev) : Dev :=
  let s := d.score g
  let d := if d.letters g 0 + d.letters g 1 + d.letters g 2 + d.letters g 3 = 0 then d.drawn else d
  let d := (d.set .POOL_G_SCORE_SCORE g s).set .POOL_G_SCORE_F1 g (min 65535 (d.get .X_POOL_LAST_F1 g))
  d.set .POOL_G_REQ_POLICY g (d.policyAllow (g / 16) s)

/-- R219, R220: the request of a group. -/
def Dev.requestGroup (g : Nat) (d : Dev) : Dev :=
  d.set .POOL_G_REQ_REQUEST g
    (if d.lon .POOL_G_CTRL_FORCE_EN g then code6 (d.lget .POOL_G_CTRL_FORCE g) else d.request g (d.get .POOL_G_REQ_POLICY g))

/-- R226: a group becomes urgent at a grant. -/
def Dev.urgeGroup (t g : Nat) (d : Dev) : Dev :=
  let u := d.urgent g
  let d := if u && !d.on .POOL_G_REQ_URGENT g then
      ((d.addSat .POOL_G_COUNTS_URGENT_ENTRIES g 1).set .POOL_EVENTS_URGENT_ENTER t 1).raiseTile t 8
    else d
  d.set .POOL_G_REQ_URGENT g (b2n u)

/-- R223 to R226: the grant computation of a tile for the next tick, at a level and a cap. -/
def Dev.computeGrants (d : Dev) (t level cap : Nat) : Dev :=
  if d.poolOn t then
    let gs := d.poolGroups t
    let d := d.set .X_POOL_RSV t (min 8 (d.lget .POOL_POLICY0_RESERVE t))
    let d := Dev.forList (d.tileGroups t) (fun g d =>
      let d := d.scoreGroup g
      if gs.contains g then d.requestGroup g
      else d.setAll [.POOL_G_REQ_REQUEST, .POOL_G_REQ_GRANT, .POOL_G_REQ_URGENT, .POOL_G_REQ_DENIED,
        .POOL_G_REQ_SERVED] g 0) d
    let d := Dev.forList gs (fun g d => d.urgeGroup t g) d
    let c := d.capacity level cap d.tickDue
    let r := d.grants t (c - d.reserveOf t c)
    let booked := decide (r.2 < 0)
    let d0 := d
    let d := Dev.forList gs (fun g d =>
      let a := r.1.of g
      let forced := d.lon .POOL_G_CTRL_FORCE_EN g
      ((d.set .POOL_G_REQ_GRANT g a).set .X_POOL_NEXT_CHARGE g (d0.charge g a)).ageGroup g forced
        (decide (a < d0.get .POOL_G_REQ_REQUEST g))) d
    let d := if r.1.cut then d.set .POOL_EVENTS_FLOOR_CUT t 1 else d
    let d := d.set .POOL_STATUS_OVERBOOKED t (b2n booked)
    let d := if booked then (d.set .POOL_EVENTS_OVERBOOKED t 1).raiseTile t 10 else d
    let d := d.set .POOL_STATUS_URGENT_COUNT t (gs.filter fun g => d0.urgent g).length
    let d := (d.set .X_POOL_NEXT_C t c).set .X_POOL_NEXT_LEFT t r.1.left.toNat
    let d := (d.set .X_POOL_NEXT_OVER t (-r.1.left).toNat).set .X_POOL_NEXT_LEVEL t level
    d.set .X_POOL_READY t 1
  else d

/-! ## The tick boundary (R224, R227) -/

/-- The statistics of the ended tick are latched. -/
def Dev.latchGroup (g : Nat) (d : Dev) : Dev :=
  let d := (d.set .X_POOL_LAST_F1 g (d.get .X_POOL_F1 g)).set .X_POOL_LAST_N g (d.get .X_POOL_N g)
  let d := d.set .X_POOL_CLEAN g (if d.on .X_POOL_FAIL g then 0 else min 256 (d.get .X_POOL_CLEAN g + 1))
  let d := (d.set .X_POOL_LAST_FAIL g (d.get .X_POOL_FAIL g)).set .X_POOL_SERVED g (d.get .X_POOL_FULL g)
  let d := (d.set .POOL_G_RESERVE_SLOTS g (d.get .X_POOL_DRAWN g)).set .POOL_G_USED_SLOTS g (d.get .X_POOL_USED g)
  let d := Dev.each 4 (fun j d => d.set .X_POOL_LET (4 * g + j)
    ((d.lanesOfGroup g).map fun n => d.get .LRX_GRADE_COUNT_COUNT (4 * n + j)).sum) d
  d.setAll [.X_POOL_F1, .X_POOL_N, .X_POOL_FAIL, .X_POOL_DRAWN, .X_POOL_USED] g 0

/-- The account of a group is set; R225: whether the tick runs its full request, its allowance the `granted` one, with USABLE
equal to ALLOW. -/
def Dev.openAccount (g charge : Nat) (granted : Bool) (d : Dev) : Dev :=
  let d := (d.set .POOL_G_CHARGE_CHARGE g charge).set .X_POOL_ACCT g charge
  d.set .X_POOL_FULL g (b2n (granted && d.usable g == d.get .SPR_G_STATUS_ALLOW g && !d.on .POOL_G_REQ_DENIED g &&
    d.get .POOL_G_REQ_GRANT g != 0))

/-- R224: the grants of a tile that are due at this tick have not been computed. -/
def Dev.grantsLate (d : Dev) (t : Nat) : Bool := d.on .X_POOL_DUE t && !d.on .X_POOL_READY t && d.poolOn t

/-- R224, R227, R230: what a tick does in the pool of a tile. The grants that have been computed go live; where they are due and not
ready, the live allowances stay. -/
def Dev.poolTick (t : Nat) (d : Dev) : Dev :=
  let d := Dev.forList (d.tileGroups t) (fun g d => d.latchGroup g) d
  let d := (d.set .POOL_RESERVE_DRAWN_SLOTS t (d.get .X_POOL_RES_DRAWN t)).setAll [.X_POOL_RES_DRAWN, .X_POOL_RES_EMPTY] t 0
  let on := d.poolOn t
  let go := d.on .X_POOL_READY t && on
  let d := if d.grantsLate t then d.set .POOL_EVENTS_GRANT_CARRIED t 1 else d
  let d := if go then d else (d.set .X_POOL_NEXT_LEVEL t (d.levelNow t)).set .X_POOL_NEXT_C t
    (d.capacity (d.levelNow t) (d.capLive t) d.now)
  let d := Dev.forList (d.poolGroups t) (fun g d =>
    if go && d.get .POOL_G_REQ_GRANT g != 0 then
      (d.setAllow g (d.get .POOL_G_REQ_GRANT g)).openAccount g (d.get .X_POOL_NEXT_CHARGE g) true
    else
      let d := if on then d else d.setAllow g 1
      d.openAccount g (if on then d.charge g (d.get .SPR_G_STATUS_ALLOW g) else 0) on) d
  let c := d.get .X_POOL_NEXT_C t
  let r := d.reserveOf t c
  let res := if on then (if go then r + d.get .X_POOL_NEXT_LEFT t - d.get .X_POOL_NEXT_OVER t else r) else 0
  let before := d.get .POOL_CAPACITY_SLOTS t
  let d := if c = before ∨ before = 0 then d else (d.set .POOL_EVENTS_CAP_CHANGE t 1).raiseTile t 9
  let d := (d.set .POOL_CAPACITY_SLOTS t c).set .POOL_CHARGED_SLOTS t
    (((d.poolGroups t).map fun g => d.get .POOL_G_CHARGE_CHARGE g).sum)
  let d := (d.set .POOL_RESERVE_START_SLOTS t res).set .X_POOL_RES t res
  let d := d.set .POOL_STATUS_LEVEL t (d.get .X_POOL_NEXT_LEVEL t)
  (d.set .X_POOL_READY t 0).set .X_POOL_DUE t (b2n (on && !(d.poolGroups t).isEmpty))

/-! ## Postings (R220, R234) -/

/-- The fields of a pool that a posting makes live by a rule of their own. -/
def poolSpecial : List F := [.POOL_G_CTRL_MIN, .POOL_G_CTRL_MAX, .POOL_G_CTRL_FORCE_EN, .POOL_G_CTRL_FORCE,
  .POOL_SCORE_THR_LOW, .POOL_SCORE_THR_HIGH]

/-- A list of numbers does not decrease. -/
def nonDecreasing : List Nat → Bool
  | a :: b :: l => decide (a ≤ b) && nonDecreasing (b :: l)
  | _ => true

/-- R220: the group registers of a pool at a posting. -/
def Dev.postPoolGroup (g : Nat) (d : Dev) : Dev :=
  if code6 (d.get .POOL_G_CTRL_MIN g) ≤ code6 (d.get .POOL_G_CTRL_MAX g) then
    Dev.forList [.POOL_G_CTRL_MIN, .POOL_G_CTRL_MAX, .POOL_G_CTRL_FORCE_EN, .POOL_G_CTRL_FORCE] (fun f d => d.post f g) d
  else d.set .POOL_EVENTS_MINMAX_REJECT (g / 16) 1

/-- R234: the score thresholds of a pool at a posting. -/
def Dev.postPoolTile (t : Nat) (d : Dev) : Dev :=
  if nonDecreasing (thresholds t d.get) then
    Dev.each 3 (fun i d => (d.post .POOL_SCORE_THR_LOW (3 * t + i)).post .POOL_SCORE_THR_HIGH (3 * t + i)) d
  else d.set .POOL_EVENTS_MINMAX_REJECT t 1

/-! ## Commands -/

/-- POOL_CLEAR_STATS (R234): POOL_SLOTS, MAX_AGE and POOL_G_COUNTS. -/
def execPoolClearStats (t : Fin 4) (s : State) : Host.Outcome State Fault Refusal :=
  s.run fun d => Dev.each 16 (fun j d =>
    d.setAll [.POOL_G_AGE_MAX_AGE, .POOL_G_COUNTS_DENIED, .POOL_G_COUNTS_URGENT_ENTRIES] (16 * t + j) 0)
    (d.set .POOL_SLOTS_COUNT t 0)

end Sys2Proof.Machine
end

