-- ==== Sys2Proof/Machine/HostLane.lean ====
section
/-! DEFINITION. Host electrical lanes and ports (R235 to R256): lane states and training, alignment-marker lock, host
codewords, the host transmit source, near-end loopback and capture-out lanes. -/

namespace Sys2Proof.Machine

open Sys2Proof

/-- States of HOST_L_STATUS.STATE (R247). -/
def hlOFF : Nat := 0
def hlWAIT : Nat := 1
def hlTRAINING : Nat := 2
def hlADAPT : Nat := 3
def hlREADY : Nat := 4
/-- Roles of HOST_L_STATUS.ROLE. -/
def roleIdle : Nat := 0
def rolePort : Nat := 1
def roleCapture : Nat := 2

/-- The state of host lane `h`. -/
def Dev.hl (d : Dev) (h : Nat) : Nat := d.get .HOST_L_STATUS_STATE h
/-- The line lane whose port host lane `h` serves. -/
def Dev.portOf (d : Dev) (h : Nat) : Option Nat :=
  if d.get .X_HOST_PORT h = 0 then none else some (d.get .X_HOST_PORT h - 1)
/-- The host lanes of the port of lane `n`. -/
def Dev.hostLanes (d : Dev) (n : Nat) : List Nat :=
  ([d.get .X_TOPO_A n, d.get .X_TOPO_B n]).filter fun h => decide (h < 128) && (d.get .X_HOST_PORT h == n + 1)

/-! ## Ports (R240 to R246) -/

/-- R242: a port loses alignment-marker lock. -/
def Dev.amLost (d : Dev) (n : Nat) : Dev :=
  if d.on .HOST_P_STATUS_AM_LOCK n then
    (((d.set .HOST_P_STATUS_AM_LOCK n 0).set .HOST_P_EVENTS_LOCK_LOST n 1).raiseTile (tileOf n) 5).syncTx n
  else d

/-- R240: LANES_LOCKED is what the host lanes of a port carry of locked lanes. -/
def Dev.showLanes (d : Dev) (n : Nat) : Dev :=
  d.set .HOST_P_STATUS_LANES_LOCKED n (((d.hostLanes n).map fun h => d.get .X_HOST_LANES h).foldl (· ||| ·) 0)

/-- R241, R242: alignment lock starts again on every lane of a port. -/
def Dev.seekMarkers (d : Dev) (n : Nat) : Dev :=
  ((d.setEach .X_HOST_LANES (d.hostLanes n) 0).set .HOST_P_STATUS_LANES_LOCKED n 0).set .X_HOST_AM_CLK n d.clk

/-- R241: a skew beyond 180 ns. -/
def Dev.deskewError (d : Dev) (n : Nat) : Dev :=
  (((d.amLost n).seekMarkers n).set .HOST_P_EVENTS_DESKEW_ERR n 1).raiseTile (tileOf n) 5

/-- R242: two marker periods. -/
def markerPeriods (mode : Nat) : Nat := if mode = 3 then 2 * (20972 * us / 100) else 2 * (10486 * us / 100)

/-- R237: the PCS or FEC lanes of a port, as bits. -/
def portLanes (mode : Nat) : Nat :=
  match mode with
  | 1 => 0xFFFF | 2 => 0xFF | 3 => 0xF | _ => 0

/-- R237, R240: the lanes that a host lane carries lock: `a` on HOST_A, `b` on HOST_B. -/
def Dev.lockLanes (d : Dev) (n a b : Nat) : Dev :=
  let all := portLanes (d.mode (engineOf n))
  (Dev.forList ((d.hostLanes n).zip [a, b]) (fun x d => d.orBits .X_HOST_LANES x.1 (x.2 &&& all)) d).showLanes n

/-- R240: lanes of the port are locked, `a` on HOST_A and `b` on HOST_B, with the skew in ns; the port is in lock when all are and
the skew is within its limit. -/
def Dev.amGained (d : Dev) (n a b skew : Nat) : Dev :=
  if (d.hostLanes n).isEmpty || !((d.hostLanes n).all fun h => d.hl h == hlREADY) then d
  else
    let d := (d.lockLanes n a b).set .HOST_P_STATUS_SKEW n (min 255 skew)
    if d.get .HOST_P_STATUS_LANES_LOCKED n ≠ portLanes (d.mode (engineOf n)) then d
    else if 180 < skew then d.deskewError n
    else if d.on .HOST_P_STATUS_AM_LOCK n then d
    else ((((d.set .HOST_P_STATUS_AM_LOCK n 1).set .HOST_P_EVENTS_LOCK_GAINED n 1).raiseTile (tileOf n) 5).syncTx n)

/-- R244: the source that the host transmit lanes of a port should send. -/
def Dev.hostSource (d : Dev) (n : Nat) : Nat :=
  if d.lon .HOST_P_CTRL_NEAR_LOOP n then 4
  else if d.sg (d.groupOf n) = sgLOCKED then 0
  else match d.lget .HOST_P_CTRL_NODATA n with
    | 1 => 2
    | 2 => 3
    | _ => 1

/-! ## What a host transmit lane drives (R235, R236, R256) -/

/-- R256: the live transmit taps c(-3), c(-2), c(-1), c(0) and c(1) in 1/64 of full swing: c(0) is full swing less the sum of the
magnitudes of the others. -/
def Dev.hostTaps (d : Dev) (h : Nat) : List Int :=
  let c := fun f => sx 6 (d.get f h)
  let m3 := c .HOST_L_TXEQ_LIVE_CM3
  let m2 := c .HOST_L_TXEQ_LIVE_CM2
  let m1 := c .HOST_L_TXEQ_LIVE_CM1
  let p1 := c .HOST_L_TXEQ_LIVE_CP1
  [m3, m2, m1, 64 - ((m3.natAbs + m2.natAbs + m1.natAbs + p1.natAbs : Nat) : Int), p1]

/-- R235: the precoder 1/(1+D) mod 4: the level sent for level `a` after the level `prev` sent before it. -/
def precode (prev a : Nat) : Nat := (a + 4 - prev % 4) % 4

/-- R235: what a receiver takes for two successive levels of a precoded stream. -/
def deprecode (prev p : Nat) : Nat := (p + prev) % 4

/-- R236, R256: the differential output of host lane `h` in 1/384 mV: `a j` is the level `j` symbols earlier. Polarity inverts it;
in OFF and in SQUELCH (R244) there is no swing. -/
def Dev.hostDrive (d : Dev) (h : Nat) (a : Int → Nat) : Int :=
  let y := ((List.range 5).map fun i => (d.hostTaps h).getD i 0 * (2 * (a ((i : Int) - 3) : Int) - 3)).sum
  let quiet := d.hl h == hlOFF || ((d.portOf h).map fun n => d.get .HOST_P_STATUS_TX_SRC n == 3).getD false
  if quiet then 0
  else (if d.lon .HOST_L_CTRL_POL_TX h then -y else y) * (600 + 10 * d.get .HOST_L_TXEQ_LIVE_SWING h)

/-! ## Host lanes (R247 to R249) -/

/-- A host lane leaves READY. -/
def Dev.leaveReady (d : Dev) (h : Nat) : Dev :=
  if d.hl h = hlREADY then (d.set .HOST_L_EVENTS_READY_LOST h 1).raiseTile (h / 32) 4 else d

/-- R240, R247: a host lane receives nothing any more: its lanes are not locked, and the port that it serves loses its lock. -/
def Dev.portLost (d : Dev) (h : Nat) : Dev :=
  match d.portOf h with
  | none => d
  | some n => ((d.set .X_HOST_LANES h 0).amLost n).showLanes n

/-- R247: a host lane enters WAIT_SIGNAL. -/
def Dev.hostWait (d : Dev) (h : Nat) : Dev :=
  (((d.portLost h).leaveReady h).set .HOST_L_STATUS_STATE h hlWAIT).setAll [.HOST_L_STATUS_CDR_LOCK, .X_HOST_OK] h 0

/-- R242, R247: a host lane reaches READY; the markers of its port are sought from then on. -/
def Dev.hostReady (d : Dev) (h : Nat) : Dev :=
  let d := (d.set .HOST_L_STATUS_STATE h hlREADY).raiseTile (h / 32) 4
  match d.portOf h with
  | none => d
  | some n => d.set .X_HOST_AM_CLK n d.clk

/-- R247: a host lane that serves a port starts. -/
def Dev.hostUp (h : Nat) (d : Dev) : Dev :=
  if d.get .HOST_L_STATUS_ROLE h = rolePort ∧ d.hl h = hlOFF then d.hostWait h else d

/-- R247, R506: a host lane is OFF. -/
def Dev.hostDown (h : Nat) (d : Dev) : Dev :=
  let d := (d.portLost h).leaveReady h
  d.setAll [.HOST_L_STATUS_STATE, .HOST_L_STATUS_SIGNAL, .HOST_L_STATUS_CDR_LOCK, .X_HOST_OK, .X_HOST_RETRAIN] h 0

/-- R247: signal detect; it acts in WAIT_SIGNAL. -/
def Dev.hostSignal (d : Dev) (h : Nat) : Dev :=
  if d.get .HOST_L_STATUS_ROLE h = rolePort ∧ d.hl h ≠ hlOFF then
    let d := d.set .HOST_L_STATUS_SIGNAL h 1
    if d.hl h ≠ hlWAIT then d
    else if !d.lon .HOST_L_CTRL_C2M h && d.lon .HOST_L_CTRL_TRAIN h then
      let d := (d.set .HOST_L_STATUS_STATE h hlTRAINING).addSat .HOST_L_EVENTS_TRAIN_COUNT h 1
      ((d.set .X_HOST_BEST h 0).set .X_HOST_TRAIN_CLK h d.clk).set .X_HOST_PRE h (d.get .HOST_L_STATUS_PRECODE_TX_LIVE h)
    else
      let d := d.set .HOST_L_STATUS_PRECODE_TX_LIVE h (d.lget .HOST_L_CTRL_PRECODE_TX h)
      (d.set .HOST_L_STATUS_PRECODE_RX_LIVE h (d.lget .HOST_L_CTRL_PRECODE_RX h)).set .HOST_L_STATUS_STATE h hlADAPT
  else d

/-- R247: signal detect is lost. -/
def Dev.hostLos (d : Dev) (h : Nat) : Dev :=
  let st := d.hl h
  let d := d.set .HOST_L_STATUS_SIGNAL h 0
  if st = hlADAPT ∨ st = hlREADY then
    (d.set .HOST_L_EVENTS_LOS h 1).hostWait h
  else d

/-- R248: a tap request, limited to a magnitude. -/
def limitTap (v : BitVec 6) (limit : Nat) : Int := clampI (-limit) limit (sx 6 v.toNat)

/-- R248: the partner's request for transmit taps and precoding. -/
def Dev.trainRequest (d : Dev) (h : Nat) (cm3 cm2 cm1 cp1 : BitVec 6) (pre : Option Bool) : Dev :=
  if d.hl h = hlTRAINING then
    let go := fun (v : BitVec 6) (limit live : F) (p : Dev × Bool) =>
      let c := limitTap v (p.1.lget limit h)
      (p.1.set live h (ux 6 c), p.2 || decide (c ≠ sx 6 v.toNat))
    let p := go cp1 .HOST_L_TXEQ_LIMIT_CP1_MAX .HOST_L_TXEQ_LIVE_CP1
      (go cm1 .HOST_L_TXEQ_LIMIT_CM1_MAX .HOST_L_TXEQ_LIVE_CM1
        (go cm2 .HOST_L_TXEQ_LIMIT_CM2_MAX .HOST_L_TXEQ_LIVE_CM2
          (go cm3 .HOST_L_TXEQ_LIMIT_CM3_MAX .HOST_L_TXEQ_LIVE_CM3 (d, false))))
    let d := p.1.send (.trainAnswer h p.2)
    match pre with
    | none => d
    | some b => d.set .X_HOST_PRE h (b2n b)
  else d

/-- R247: training ends: the trained precoding is live and stands in HOST_L_CTRL. -/
def Dev.trainDone (d : Dev) (h : Nat) (preRx : Bool) : Dev :=
  if d.hl h = hlTRAINING then
    let t := d.get .X_HOST_PRE h
    let d := ((d.set .HOST_L_CTRL_PRECODE_TX h t).lset .HOST_L_CTRL_PRECODE_TX h t).set .HOST_L_STATUS_PRECODE_TX_LIVE h t
    let r := b2n preRx
    let d := ((d.set .HOST_L_CTRL_PRECODE_RX h r).lset .HOST_L_CTRL_PRECODE_RX h r).set .HOST_L_STATUS_PRECODE_RX_LIVE h r
    ((d.set .HOST_L_STATUS_STATE h hlADAPT).set .HOST_L_EVENTS_TRAIN_OK h 1).set .X_HOST_OK h 0
  else d

/-! ## Ticks and postings -/

/-- R235, R247, R248, R256: what a tick does in a host lane: its measurements, a RETRAIN that is due, ADAPT to READY, and in
training a request to the partner while the SNR improves (log entry 75: judged at ticks). -/
def Dev.hostTick (h : Nat) (cdr : Bool) (snr : Nat) (d : Dev) : Dev :=
  let d := if d.askDue .X_HOST_RETRAIN .X_HOST_RETRAIN_CLK h then
      let d := d.askTake .X_HOST_RETRAIN .X_HOST_RETRAIN_CLK .X_HOST_RETRAIN_LAST h
      if d.hl h = hlOFF ∨ d.get .HOST_L_STATUS_ROLE h ≠ rolePort then d else d.hostWait h
    else d
  if d.hl h = hlOFF ∨ d.get .HOST_L_STATUS_ROLE h ≠ rolePort then d
  else
    let d := (d.set .HOST_L_STATUS_CDR_LOCK h (b2n cdr)).set .HOST_L_STATUS_SNR h snr
    if d.hl h = hlADAPT then
      let ok := if cdr ∧ 120 ≤ snr then min 2 (d.get .X_HOST_OK h + 1) else 0
      let d := d.set .X_HOST_OK h ok
      if ok = 2 then d.hostReady h else d
    else if d.hl h = hlTRAINING ∧ d.get .X_HOST_BEST h < snr then (d.set .X_HOST_BEST h snr).send (.trainAsk h)
    else d

/-- R249: the rules of a host lane's own at a posting. -/
def Dev.postHost (h : Nat) (d : Dev) : Dev :=
  if d.hl h = hlTRAINING then d
  else
    let d := (d.set .HOST_L_TXEQ_LIVE_CM3 h (d.lget .HOST_L_TXEQ_CM3 h)).set .HOST_L_TXEQ_LIVE_CM2 h
      (d.lget .HOST_L_TXEQ_CM2 h)
    let d := (d.set .HOST_L_TXEQ_LIVE_CM1 h (d.lget .HOST_L_TXEQ_CM1 h)).set .HOST_L_TXEQ_LIVE_CP1 h
      (d.lget .HOST_L_TXEQ_CP1 h)
    let d := d.set .HOST_L_TXEQ_LIVE_SWING h (d.lget .HOST_L_TXEQ_SWING h)
    if d.hl h = hlADAPT ∨ d.hl h = hlREADY then
      (d.set .HOST_L_STATUS_PRECODE_TX_LIVE h (d.lget .HOST_L_CTRL_PRECODE_TX h)).set .HOST_L_STATUS_PRECODE_RX_LIVE h
        (d.lget .HOST_L_CTRL_PRECODE_RX h)
    else d

/-! ## Commands -/

/-- HOST_SIGNAL_DETECT (R247). -/
def execHostSignalDetect (h : Fin 128) (s : State) : Host.Outcome State Fault Refusal :=
  s.run fun d => d.hostSignal h

/-- HOST_SIGNAL_LOST (R247). -/
def execHostSignalLost (h : Fin 128) (s : State) : Host.Outcome State Fault Refusal :=
  s.run fun d => d.hostLos h

/-- TRAINING_REQUEST (R248). -/
def execTrainingRequest (h : Fin 128) (cm3 cm2 cm1 cp1 : BitVec 6) (pre : Option Bool) (s : State) :
    Host.Outcome State Fault Refusal :=
  s.run fun d => d.trainRequest h cm3 cm2 cm1 cp1 pre

/-- TRAINING_COMPLETE (R247). -/
def execTrainingComplete (h : Fin 128) (preRx : Bool) (s : State) : Host.Outcome State Fault Refusal :=
  s.run fun d => d.trainDone h preRx

/-- TRAINING_TIMEOUT (R247). -/
def execTrainingTimeout (h : Fin 128) (s : State) : Host.Outcome State Fault Refusal :=
  s.run fun d =>
    if d.hl h = hlTRAINING then
      d.onTime (d.get .X_HOST_TRAIN_CLK h + max 1 (d.lget .HOST_L_TRAIN_TIMEOUT h) * ms) fun d =>
        ((d.set .HOST_L_EVENTS_TRAIN_FAIL h 1).raiseTile (h / 32) 4).hostWait h
    else d

/-- RETRAIN (R256). -/
def execRetrain (h : Fin 128) (s : State) : Host.Outcome State Fault Refusal :=
  s.run fun d => d.askWrite .X_HOST_RETRAIN .X_HOST_RETRAIN_CLK .X_HOST_RETRAIN_LAST h

/-- HOST_L_CLEAR_STATS (R256). -/
def execHostLClearStats (h : Fin 128) (s : State) : Host.Outcome State Fault Refusal :=
  s.run fun d => d.set .HOST_L_EVENTS_TRAIN_COUNT h 0

/-- HOST_P_CLEAR_STATS (R256). -/
def execHostPClearStats (n : Fin 64) (s : State) : Host.Outcome State Fault Refusal :=
  s.run fun d => Dev.each 16 (fun e d => d.set .HOST_P_HIST_COUNT (16 * n + e) 0)
    (d.setAll [.HOST_P_CW_COUNT, .HOST_P_CW_CORR_COUNT, .HOST_P_CW_UNC_COUNT, .HOST_P_SYM_CORR_COUNT] n 0)

/-- HOST_RELOCK (R242). -/
def execHostRelock (n : Fin 64) (s : State) : Host.Outcome State Fault Refusal :=
  s.run fun d => (d.amLost n).seekMarkers n

/-- AM_LOCK_GAINED (R240, R242): the lanes that have locked, `a` on HOST_A and `b` on HOST_B, with the skew in ns, two marker periods
after READY or a relock at the earliest. -/
def execAmLockGained (n : Fin 64) (a b skew : BitVec 16) (s : State) : Host.Outcome State Fault Refusal :=
  s.run fun d => d.onTime (d.get .X_HOST_AM_CLK n + markerPeriods (d.mode (engineOf n))) fun d =>
    d.amGained n a.toNat b.toNat skew.toNat

/-- AM_LOCK_LOST (R241, R242), with the lanes still locked and the skew in ns. -/
def execAmLockLost (n : Fin 64) (lanes skew : BitVec 16) (s : State) : Host.Outcome State Fault Refusal :=
  s.run fun d =>
    if d.on .HOST_P_STATUS_AM_LOCK n then
      let d := d.set .HOST_P_STATUS_SKEW n (min 255 skew.toNat)
      if 180 < skew.toNat then d.deskewError n
      else
        let d := Dev.forList (d.hostLanes n) (fun h d => d.set .X_HOST_LANES h (d.get .X_HOST_LANES h &&& lanes.toNat)) d
        (d.amLost n).showLanes n
    else d

/-- R243: a codeword as it goes on: corrected, marked, or as received. -/
def Dev.hostWord (d : Dev) (n : Nat) (word : List Nat) : List Nat :=
  match rsDecode word [] with
  | some s => s
  | none => if d.lon .HOST_P_CTRL_UNC_MARK n then markWord (d.mode (engineOf n)) word else word

/-- R243: the counts of a codeword. -/
def Dev.countHostWord (d : Dev) (n : Nat) (word : List Nat) : Dev :=
  let d := d.addWrap .HOST_P_CW_COUNT n 1
  match rsDecode word [] with
  | some s =>
    let e := ((List.range 544).filter fun i => s.getD i 0 != word.getD i 0).length
    let d := d.addSat .HOST_P_HIST_COUNT (16 * n + e) 1
    if e = 0 then d else (d.addWrap .HOST_P_CW_CORR_COUNT n 1).addWrap .HOST_P_SYM_CORR_COUNT n e
  | none =>
    let d := (d.addWrap .HOST_P_CW_UNC_COUNT n 1).set .HOST_P_EVENTS_UNC n 1
    if d.on .X_HOST_UNC_TICK (tileOf n) then d
    else (d.set .X_HOST_UNC_TICK (tileOf n) 1).raiseTile (tileOf n) 6

/-- R250: the codewords in the loop buffer of a port, oldest first. -/
def Dev.nearOf (d : Dev) (n : Nat) : List RsWord := d.near.filter fun x => x.lane == n

/-- R250: a codeword enters the loop buffer of a port, which holds two; the oldest goes to the host transmit lanes. -/
def Dev.nearPush (d : Dev) (n : Nat) (w : RsWord) : Dev :=
  let l := d.nearOf n ++ [w]
  let others := d.near.filter fun x : RsWord => x.lane != n
  if l.length ≤ 2 then { d with near := others ++ l }
  else ({ d with near := others ++ l.drop 1 } : Dev).send (.rsWord n ((l.head?.map fun x => x.syms).getD []))

/-- HOST_CODEWORD_RECEIVED (R243, R250, R251): the 544 symbols of a codeword, as the port's stream has them (R239). It goes to the
line, and in near-end loopback to the host as well. -/
def execHostCodewordReceived (n : Fin 64) (word : List (BitVec 10)) (s : State) : Host.Outcome State Fault Refusal :=
  s.run fun d =>
    if d.on .HOST_P_STATUS_AM_LOCK n then
      let w := (List.range 544).map fun i => ((word[i]?).map fun x => x.toNat).getD 0
      let x : RsWord := ⟨n, 0, d.hostWord n w⟩
      let d := d.countHostWord n w
      let d := if d.get .LTX_STATUS_SOURCE n = 0 then { d with lineIn := d.lineIn ++ [x] } else d
      if d.get .HOST_P_STATUS_TX_SRC n = 4 then d.nearPush n x else d
    else d

/-- HOST_TX_SOURCE_SWITCH (R245, R246): a codeword boundary: the source that the cause asks for is live, and times the lanes. -/
def execHostTxSourceSwitch (n : Fin 64) (s : State) : Host.Outcome State Fault Refusal :=
  s.run fun d =>
    let d := d.set .HOST_P_STATUS_TX_SRC n (d.hostSource n)
    let d := if d.get .HOST_P_STATUS_TX_SRC n = 4 then d else { d with near := d.near.filter fun x => x.lane != n.val }
    Dev.followTiming n d

/-- NEAR_LOOP_RECENTRE (R250): the loop buffer of a port recentres: with fewer than two codewords its oldest is repeated, else it is
dropped (DESIGN CHOICE, log entry 73: which one). -/
def execNearLoopRecentre (n : Fin 64) (s : State) : Host.Outcome State Fault Refusal :=
  s.run fun d =>
    if d.get .HOST_P_STATUS_TX_SRC n = 4 then
      let l := d.nearOf n
      let others := d.near.filter fun x : RsWord => x.lane != n.val
      { d with near := others ++ (if l.length < 2 then l.take 1 ++ l else l.drop 1) }.set .HOST_P_EVENTS_LOOP_SLIP n 1
    else d

/-- CAPTURE_OUT_READY (R254). -/
def execCaptureOutReady (h : Fin 128) (s : State) : Host.Outcome State Fault Refusal :=
  s.run fun d =>
    if d.get .HOST_L_STATUS_ROLE h = roleCapture ∧ d.hl h ≠ hlREADY then
      d.onTime (d.get .X_COUT_CLK h + 20 * us) fun d => d.hostReady h
    else d

/-- CAPTURE_OUT_POWER_DOWN (R254): idles have gone out for 1 µs at least since the lane was removed. -/
def execCaptureOutPowerDown (h : Fin 128) (s : State) : Host.Outcome State Fault Refusal :=
  s.run fun d =>
    if d.on .X_COUT_END h then
      d.onTime (d.get .X_COUT_CLK h + us) fun d => ((d.leaveReady h).set .HOST_L_STATUS_STATE h hlOFF).set .X_COUT_END h 0
    else d

end Sys2Proof.Machine
end

