-- ==== Sys2Proof/Machine/Capture.lean ====
section
/-! DEFINITION. Capture and trigger (R300 to R342): arming, blocks, segments and their directory, streams, postmarks,
trigger sources, mask tests and bandwidth. -/

namespace Sys2Proof.Machine

open Sys2Proof

/-! ## Settings of a tap, as latched at its arm (R312) -/

/-- The settings of a tap. -/
def tapSettings : List F := [.CAP_T_CTRL_POINT, .CAP_T_CTRL_MODE, .CAP_T_CTRL_LANE, .CAP_T_CTRL_AUTO,
  .CAP_T_CTRL_GATE_EN, .CAP_T_CTRL_SCOPE, .CAP_T_CTRL_MASK_SEL, .CAP_T_CTRL_MASK_EN, .CAP_T_CTRL_MASK_STOP,
  .CAP_T_TRIG_SEL_SRC, .CAP_T_BUF_BASE_BLOCKS, .CAP_T_BUF_SIZE_BLOCKS, .CAP_T_PRE_BLOCKS, .CAP_T_POST_BLOCKS,
  .CAP_T_SEG_SEGMENTS, .CAP_T_HOLDOFF_HOLDOFF, .CAP_T_HOLDOFF_GATE_ON, .CAP_T_HOLDOFF_GATE_PER, .CAP_T_AUTO_TIMEOUT,
  .CAP_T_DRAIN_QUEUE, .CAP_T_DRAIN_COUT, .CAP_T_VIOL_LIMIT_COUNT, .CAP_T_SWEEP0_PH_START, .CAP_T_SWEEP0_PH_STOP,
  .CAP_T_SWEEP0_TH_START, .CAP_T_SWEEP0_TH_STOP, .CAP_T_SWEEP1_PH_STEP, .CAP_T_SWEEP1_TH_STEP, .CAP_T_SWEEP1_EYES,
  .CAP_T_SWEEP1_DWELL, .CAP_T_HIT_LIMIT_HITS]

/-- Latch the settings of tap `t`. -/
def Dev.latchTap (d : Dev) (t : Nat) : Dev := Dev.forList tapSettings (fun f d => d.lset f t (d.get f t)) d

/-- The tap point. -/
def Dev.tapPoint (d : Dev) (t : Nat) : Nat := d.lget .CAP_T_CTRL_POINT t
/-- The tapped lane. -/
def Dev.tapLane (d : Dev) (t : Nat) : Nat := d.lget .CAP_T_CTRL_LANE t
/-- The mode of R312. -/
def Dev.tapMode (d : Dev) (t : Nat) : Nat := d.lget .CAP_T_CTRL_MODE t
/-- The tap streams (modes 2 and 3). -/
def Dev.tapStreams (d : Dev) (t : Nat) : Bool := decide (2 ≤ d.tapMode t)
/-- The buffer in blocks. -/
def Dev.tapSize (d : Dev) (t : Nat) : Nat := d.lget .CAP_T_BUF_SIZE_BLOCKS t
/-- SEGMENTS, with 0 taken as 1; mode 0 has one segment. -/
def Dev.tapSegs (d : Dev) (t : Nat) : Nat := if d.tapMode t = 0 then 1 else max 1 (d.lget .CAP_T_SEG_SEGMENTS t)
/-- R313: A, the blocks of a segment. -/
def Dev.tapArea (d : Dev) (t : Nat) : Nat := d.lget .CAP_T_PRE_BLOCKS t + d.lget .CAP_T_POST_BLOCKS t + 1
/-- R313: D, the blocks of the directory of `s` segments. -/
def dirBlocks (s : Nat) : Nat := (s + 127) / 128

/-- R319: the gate, as exponents of its run and its period, if the tap is gated. -/
def Dev.tapGate (d : Dev) (t : Nat) : Option (Nat × Nat) :=
  if d.tapStreams t && d.lon .CAP_T_CTRL_GATE_EN t then
    let on := d.lget .CAP_T_HOLDOFF_GATE_ON t
    some (on, max on (d.lget .CAP_T_HOLDOFF_GATE_PER t))
  else none

/-- R319: sample `i` is recorded. -/
def Dev.recorded (d : Dev) (t i : Nat) : Bool :=
  match d.tapGate t with
  | none => true
  | some (on, per) => decide (i % 2 ^ per < 2 ^ on)

/-- Half-bytes of one sample of a point (R300). -/
def sampleHalves : Nat → Nat
  | 2 => 1
  | 3 => 32
  | 4 => 4
  | 5 => 32
  | _ => 2

/-- The bytes that `n` samples of a point fill. -/
def bytesFor (point n : Nat) : Nat := (n * sampleHalves point + 1) / 2

/-- The samples that fit in a block with `r` records (R306). -/
def samplesFit (point r : Nat) : Nat := (4064 - 32 * r) * 2 / sampleHalves point

/-! ## Bandwidth (R333, R334), exactly, in units of 1/(127 · 2^40) byte per second -/

/-- One byte per second. -/
def bwUnit : Nat := 127 * 2 ^ 40

/-- Sample rate times 2^6 of a point in a lane mode and at a spread width, in samples per second. -/
def rate64 (point mode width : Nat) : Nat :=
  let m := 2 ^ (3 - mode)
  match point with
  | 3 => width * 166015625 * m
  | 4 => 2500000000
  | _ => 225781250000 * 16 * m

/-- The allowance factor of a point, in 32nds. -/
def allowFactor : Nat → Nat
  | 3 => 96
  | 4 => 64
  | _ => 33

/-- R333: the allowance of a tap with given settings. -/
def allowance (point mode width : Nat) (gate : Option (Nat × Nat)) : Nat :=
  if point = 5 then 100000000 * bwUnit
  else match gate with
    | none => rate64 point mode width * allowFactor point * sampleHalves point * 2 ^ 35
    | some (on, per) =>
      let n := samplesFit point 0
      (2 ^ on + n - 1) / n * rate64 point mode width * allowFactor point * 127 * 2 ^ (41 - per)

/-- R333: the allowance of a tap. -/
def Dev.tapAllowance (d : Dev) (t : Nat) : Nat :=
  allowance (d.tapPoint t) (d.mode (engineOf (d.tapLane t))) (d.width (engineOf (d.tapLane t))) (d.tapGate t)

/-- The sum over the active taps and tap `t` of the allowances that `g` picks. -/
def Dev.bwSum (d : Dev) (t : Nat) (g : Nat → Nat) : Nat :=
  (((List.range 8).filter fun u => d.tapActive u || u == t).map g).sum
/-- R334: the GDDR7 sum. -/
def Dev.gddrSum (d : Dev) (t : Nat) : Nat :=
  d.bwSum t fun u => if d.tapStreams u then 2 * d.tapAllowance u else d.tapAllowance u
/-- R334: the PCIe sum. -/
def Dev.pcieSum (d : Dev) (t : Nat) : Nat := d.bwSum t fun u => if d.tapMode u = 2 then d.tapAllowance u else 0

/-- The capture-out records that a tap names. -/
def Dev.tapCout (d : Dev) (t : Nat) : List Nat := (List.range 8).filter fun i => bitAt (d.lget .CAP_T_DRAIN_COUT t) i

/-- R334: the arm of tap `t`, with its settings latched, is within the three limits. -/
def Dev.bwAdmits (d : Dev) (t : Nat) : Bool :=
  decide (d.gddrSum t ≤ 960000000000 * bwUnit) &&
  (d.tapMode t != 2 || decide (d.pcieSum t ≤ 26000000000 * bwUnit)) &&
  (d.tapMode t != 3 || decide (d.tapAllowance t * 8246 ≤ 25000000000 * (d.tapCout t).length * 8192 * bwUnit))

/-- GB/s rounded up. -/
def gbps (v : Nat) : Nat := (v + 1000000000 * bwUnit - 1) / (1000000000 * bwUnit)

/-! ## Releases and ends (R336, R337, R340) -/

/-- R340: a SHADOW tap releases its sampler; the point in progress is abandoned. -/
def Dev.releaseSampler (d : Dev) (t : Nat) : Dev :=
  let n := d.tapLane t
  if d.tapPoint t = 5 ∧ d.get .LRX_SHADOW_STATUS_HOLDER n = 5 then
    (d.set .LRX_SHADOW_STATUS_HOLDER n 0).set .LRX_SHADOW_STATUS_BUSY n 0
  else d

/-- R340: the descriptors of a tap's queue end with STATUS 9: those partly filled, or every one of them. -/
def Dev.endDescs (d : Dev) (t : Nat) (all : Bool) : Dev :=
  if d.tapMode t = 2 then
    { d with descs := d.descs.map fun x =>
        if x.queue = d.lget .CAP_T_DRAIN_QUEUE t ∧ x.status = 0 ∧ (all ∨ 0 < x.moved) then { x with status := 9 } else x }
  else d

/-- The tap reaches DONE. -/
def Dev.tapDone (d : Dev) (t : Nat) : Dev :=
  let d := (d.endDescs t false).releaseSampler t
  ((d.set .CAP_T_STATUS_STATE t ctDONE).set .CAP_T_EVENTS_DONE t 1).raise (768 + 4 * t)

/-- What the tap still holds of triggers, records, samples and blocks is dropped. -/
def Dev.clearTap (d : Dev) (t : Nat) : Dev :=
  { d with
    trigs := (d.trigs.map fun e => { e with taps := clearBit e.taps t }).filter fun e => e.taps != 0
    recs := d.recs.filter fun e => e.1 != t
    refs := d.refs.filter fun e => e.tap != t
    blocks := d.blocks.filter fun e => e.tap != t
    samples := d.samples.filter fun e => e.1 != t
    frames := d.frames.filter fun e => e.1 != t }

/-! ## Records (R308, R320, R321) -/

/-- R321: a record joins those that wait for a block. During a gap at most 16 wait, GAP records aside. -/
def Dev.addRecord (d : Dev) (t : Nat) (bs : List Byte) : Dev :=
  let n := (d.recs.filter fun e => e.1 == t && e.2.headD 0 != 2).length
  if d.on .X_CAP_GAP t && decide (16 ≤ n) then d.addSat .CAP_T_COUNTS_RECORDS_LOST t 1
  else { d with recs := d.recs ++ [(t, bs)] }

/-- R308: a GAP record. -/
def gapRecord (cause first lost time : Nat) : List Byte :=
  leBytes 1 2 ++ leBytes 1 cause ++ leBytes 6 0 ++ leBytes 8 first ++ leBytes 8 lost ++ leBytes 8 time
/-- R308: a MASK record. -/
def maskRecord (t count index time : Nat) : List Byte :=
  leBytes 1 3 ++ leBytes 1 t ++ leBytes 2 0 ++ leBytes 4 count ++ leBytes 8 index ++ leBytes 8 time ++ leBytes 8 0
/-- R308: an END record. -/
def endRecord (reason last time : Nat) : List Byte :=
  leBytes 1 4 ++ leBytes 1 reason ++ leBytes 6 0 ++ leBytes 8 last ++ leBytes 8 time ++ leBytes 8 0
/-- R320: a postmark. -/
def postmark (src flags t frac tseq k time info : Nat) : List Byte :=
  leBytes 1 1 ++ leBytes 1 src ++ leBytes 1 flags ++ leBytes 1 t ++ leBytes 2 frac ++ leBytes 2 tseq ++ leBytes 8 k ++
    leBytes 8 time ++ leBytes 8 info

/-! ## Blocks (R306, R313, R315, R317) -/

/-- GDDR7 address of block `off` of a tap's buffer (R311). -/
def Dev.blockAddr (d : Dev) (t off : Nat) : Nat := d.regionLo 3 + (d.lget .CAP_T_BUF_BASE_BLOCKS t + off) * 4096

/-- Offset in the buffer of the next block of a tap. -/
def Dev.nextOff (d : Dev) (t : Nat) : Nat :=
  if d.tapStreams t then d.get .CAP_T_WRITE_PTR_BLOCK t
  else d.get .X_CAP_SEG t * d.tapArea t + d.get .X_CAP_WRITTEN t % d.tapArea t

/-- R307, R306: bytes 0x1E and 0x1F of a header: lane, lane mode, width code and ring position. -/
def Dev.laneWord (d : Dev) (n : Nat) : Nat :=
  n + 64 * d.mode (engineOf n) + 256 * d.get .SPR_CFG_WIDTH (engineOf n) + 1024 * (d.get .TIME_TICK_CFG_POSITION 0 % 4)

/-- R306: a block header. -/
def Dev.blockHeader (d : Dev) (t recs first time bytes segOff valid flags : Nat) : List Byte :=
  leBytes 2 0x4B42 ++ leBytes 1 (t + 16 * d.tapPoint t) ++ leBytes 1 recs ++ leBytes 4 (d.get .X_CAP_SEQ t) ++
    leBytes 8 first ++ leBytes 8 time ++ leBytes 2 bytes ++ leBytes 2 segOff ++ leBytes 1 valid ++ leBytes 1 flags ++
    leBytes 2 (d.laneWord (d.tapLane t))

/-- The samples of points 3 and 5 wait as records of 16 bytes; those of the others come with the command. -/
def Dev.waiting (d : Dev) (t : Nat) : List (List Byte) := (d.samples.filter fun e => e.1 == t).map (·.2)

/-- Drop the first `n` waiting samples of a tap. -/
def dropSamples (t : Nat) : Nat → List (Nat × List Byte) → List (Nat × List Byte)
  | 0, l => l
  | _, [] => []
  | n + 1, e :: l => if e.1 = t then dropSamples t n l else e :: dropSamples t (n + 1) l

/-- Drop the first `n` waiting records of a tap. -/
def Dev.dropRecs (d : Dev) (t n : Nat) : Dev := { d with recs := dropSamples t n d.recs }

/-- R324: the time of sample `i` of a tap if the tap holds a reference for it. -/
def Dev.refTime (d : Dev) (t i : Nat) : Option Nat :=
  (d.refs.find? fun r => decide (r.tap = t ∧ r.index = i)).map (·.time)

/-- R324: the references of a tap, latest first. -/
def Dev.refsOf (d : Dev) (t : Nat) : List CapRef := d.refs.filter fun r => r.tap == t

/-- R324: the period over the references held, in 2^-16 of a POST_TIME unit; unchanged while fewer than two are held. -/
def Dev.setPeriod (d : Dev) (t : Nat) : Dev :=
  let l := d.refsOf t
  match l.head?, l.getLast? with
  | some a, some b =>
    if b.index < a.index then
      let n := a.index - b.index
      let v := (a.time - b.time) * 65536
      d.set .CAP_T_PERIOD_P t ((if Config.rounding 3 = 0 then v / n else (2 * v + n) / (2 * n)) % 2 ^ 64)
    else d
  | _, _ => d

/-- R324: a block begins with sample `i` at time `time`: a reference. Those of the last 16 blocks stay. -/
def Dev.addRef (d : Dev) (t i time : Nat) : Dev :=
  let mine : List CapRef := ((⟨t, i, time⟩ : CapRef) :: (d.refsOf t).filter (fun r : CapRef => r.index != i)).take 17
  let rest := d.refs.filter fun r => r.tap != t
  Dev.setPeriod { d with refs := mine ++ rest } t

/-- What a tap puts into the block it closes: first sample, number of samples, their bytes, and whether the block closed
before it was full. -/
structure Fill where
  first : Nat
  count : Nat
  data  : List Byte
  short : Bool
  deriving DecidableEq, Repr

/-- R306, R319: the samples of a block with `r` records. A gate cuts it at the end of a run. -/
def Dev.fill (d : Dev) (t r : Nat) (b : BlockIn) : Fill :=
  let point := d.tapPoint t
  let queued := d.waiting t
  let from_ := d.get .X_CAP_FIRST t
  let i := from_ + (if point = 3 ∨ point = 5 then 0 else b.skip)
  let start := match d.tapGate t with
    | none => i
    | some (on, per) => if i % 2 ^ per < 2 ^ on then i else (i / 2 ^ per + 1) * 2 ^ per
  let first := if point = 3 ∨ point = 5 then min start (from_ + queued.length) else start
  let room := samplesFit point r
  let run := match d.tapGate t with
    | none => room
    | some (on, per) => 2 ^ on - first % 2 ^ per
  let skipped := if point = 3 ∨ point = 5 then first - from_ else 0
  let given := if point = 3 ∨ point = 5 then queued.length - skipped else b.count
  let count := min given (min room run)
  let data := if point = 3 ∨ point = 5 then ((queued.drop skipped).take count).flatten else b.data
  ⟨first, count, (data ++ List.replicate (bytesFor point count) 0).take (bytesFor point count),
    decide (count < room) || ((d.tapGate t).isSome && decide (count = run))⟩

/-- R307: which segment, counted from the one that holds the first sample of a block, the sample `x` after it lies in. -/
def segmentAt (len off : Nat) (x : Int) : Int := if off = 0 then x / len else (x - off) / len + 1

/-- R306, R307: VALID_MAP of a block of `count` samples on lane `n`. -/
def Dev.validMap (d : Dev) (n : Nat) (b : BlockIn) (count : Nat) : Nat :=
  bitsWhere 8 fun i => decide ((i : Int) ≤ segmentAt (d.segLen n) b.segOff.toNat ((count - 1 : Nat) : Int)) && d.segFlag n (b.seg + i)

/-- R315: the directory entry of the segment in progress. -/
def Dev.directory (d : Dev) (t : Nat) (frozen postShort : Bool) : Dev :=
  let s := d.get .X_CAP_SEG t
  let a := d.tapArea t
  let w := d.get .X_CAP_WRITTEN t
  let oldest := s * a + (if w ≤ a then 0 else w % a)
  let has := d.on .X_CAP_TRIG t
  let flags := d.get .X_CAP_DIR_FLAGS t % 64
  let flags := (if postShort then flags ||| 32 else flags) + 64 * d.get .CAP_T_STATUS_CLAMPED t + 128 * b2n frozen
  let flags := if has then flags else flags / 64 * 64
  let bytes := leBytes 4 oldest ++ leBytes 4 (if has then d.get .X_CAP_TRIG_OFF t else 0xFFFFFFFF) ++
    leBytes 8 (if has then d.get .X_CAP_DIR_SAMPLE t else 0) ++ leBytes 8 (if has then d.get .X_CAP_DIR_TIME t else 0) ++
    leBytes 2 (if has then d.get .X_CAP_DIR_FRAC t else 0) ++ leBytes 1 (if has then d.get .X_CAP_DIR_SRC t else 0xFF) ++
    leBytes 1 flags ++ leBytes 4 (min w a)
  d.memWrite 0 (d.blockAddr t (d.tapSize t - dirBlocks (d.tapSegs t)) + 32 * s) bytes

/-- R313, R316: a segment begins. -/
def Dev.beginSegment (d : Dev) (t : Nat) : Dev :=
  let d := d.setAll [.X_CAP_WRITTEN, .X_CAP_TRIG, .X_CAP_DIR_FLAGS] t 0
  let d := d.set .CAP_T_WRITE_PTR_BLOCK t (d.nextOff t)
  if d.lget .CAP_T_PRE_BLOCKS t = 0 then (d.set .CAP_T_STATUS_STATE t ctARMED).set .X_CAP_AUTO_CLK t d.clk
  else d.set .CAP_T_STATUS_STATE t ctFILLING

/-- Write a block: header, at most 127 records, samples; the header is written last (R306). `reason` is that of an END
record, and `last` marks the last block of a segment or stream. -/
def Dev.putBlock (d : Dev) (t : Nat) (b : BlockIn) (reason : Option Nat) (last : Bool) : Dev :=
  let all := (d.recs.filter fun e => e.1 == t).map (·.2)
  let rs := all.take (if reason.isSome then 126 else 127)
  let n := rs.length + (if reason.isSome then 1 else 0)
  let p := d.fill t n b
  let lastIx := if 0 < p.count then p.first + p.count - 1 else d.get .X_CAP_FIRST t - 1
  let rs := match reason with
    | some r => rs ++ [endRecord r lastIx d.now]
    | none => rs
  let flags := d.get .X_CAP_GAP t + 2 * b2n last + 4 * b2n p.short + 8 * d.get .X_CAP_STEP t
  let time := (d.refTime t p.first).getD b.time.toNat
  let low := d.tapPoint t ≤ 2
  let seg := if low then (if p.count < b.segOff.toNat then p.count else b.segOff.toNat) else 0
  let head := d.blockHeader t n p.first time p.data.length seg (if low then d.validMap (d.tapLane t) b p.count else 0) flags
  let body := (rs.flatten ++ p.data ++ List.replicate 4064 0).take 4064
  let off := d.nextOff t
  let a := d.blockAddr t off
  let d := (d.dropRecs t (if reason.isSome then all.length else rs.length)).addSat .CAP_T_COUNTS_RECORDS_LOST t
    (if reason.isSome then all.length - 126 else 0)
  let gone := if d.tapPoint t = 3 ∨ d.tapPoint t = 5 then p.first - d.get .X_CAP_FIRST t + p.count else 0
  let d := { d with
    samples := dropSamples t gone d.samples
    blocks := ⟨t, d.get .X_CAP_SEQ t, off, p.first, p.count, false⟩ ::
      d.blocks.filter fun x => !(x.tap == t && x.off == off) }
  let d := ((d.memWrite 0 (a + 256) (body.drop 224)).memWrite 0 a (head ++ body.take 224))
  let d := (d.addRef t p.first time).set .X_CAP_FIRST t (p.first + p.count)
  let d := if reason.isSome then d else d.addRef t (p.first + p.count) b.next.toNat
  let d := (d.setAll [.X_CAP_GAP, .X_CAP_STEP] t 0).addWrap .X_CAP_SEQ t 1
  let d := (d.addWrap .CAP_T_BLOCKS_VALUE t 1).addWrap .X_CAP_WRITTEN t 1
  if d.tapStreams t then
    (d.set .CAP_T_WRITE_PTR_BLOCK t ((off + 1) % max 1 (d.tapSize t))).set .X_CAP_QUEUED t (d.get .X_CAP_QUEUED t + 1)
  else d.set .CAP_T_WRITE_PTR_BLOCK t (d.nextOff t)

/-- R308, R335: tap `t` has lost `n` samples from sample `first` on. -/
def Dev.gap (d : Dev) (t cause first n time : Nat) : Dev :=
  let d := (d.addRecord t (gapRecord cause first n time)).set .X_CAP_GAP t 1
  let d := (d.addWrap .CAP_T_SAMPLES_LOST_VALUE t n).set .CAP_T_EVENTS_GAP t 1
  if d.on .X_CAP_GAP_TICK t then d else (d.set .X_CAP_GAP_TICK t 1).raise (770 + 4 * t)

/-- R335: `n` samples of a tap are lost from the next sample on. -/
def Dev.loseSamples (d : Dev) (t cause n time : Nat) : Dev :=
  if n = 0 then d
  else
    let d := { d with samples := if d.tapPoint t = 3 ∨ d.tapPoint t = 5 then dropSamples t n d.samples else d.samples }
    (d.set .X_CAP_FIRST t (d.get .X_CAP_FIRST t + n)).gap t cause (d.get .X_CAP_FIRST t) n time

/-- R440: a write of a capture at address `a` has failed: the samples of the block that holds it are lost as cause 2, once. -/
def Dev.loseWritten (d : Dev) (a : Nat) : Dev :=
  match d.blocks.find? fun x => !x.lost && decide (d.blockAddr x.tap x.off ≤ a ∧ a < d.blockAddr x.tap x.off + 4096) with
  | none => d
  | some x =>
    let d := { d with blocks := d.blocks.map fun y => if y = x then { x with lost := true } else y }
    d.gap x.tap 2 x.first x.count ((d.refTime x.tap x.first).getD d.now)

/-- The buffer of a streaming tap has no room (R335 cause 3). -/
def Dev.bufferFull (d : Dev) (t : Nat) : Bool := d.tapStreams t && decide (d.tapSize t ≤ d.get .X_CAP_QUEUED t)

/-- The samples that a closing block would have held are lost for want of room. -/
def Dev.loseBlock (d : Dev) (t : Nat) (b : BlockIn) : Dev := d.loseSamples t 3 (d.fill t 0 b).count b.time.toNat

/-- R336, R337: the capture of a running tap ends: the block in progress is closed with an END record; a segment gets
its directory entry; a stream drains, unless `cut`. -/
def Dev.endCapture (d : Dev) (t reason : Nat) (frozen cut : Bool) (b : BlockIn) : Dev :=
  let st := d.tapState t
  let d := d.set .CAP_T_STATUS_END_REASON t reason
  if d.tapStreams t then
    if cut then d.tapDone t
    else if d.bufferFull t then
      ((d.loseBlock t b).set .X_CAP_END_WAIT t reason).set .CAP_T_STATUS_STATE t ctDRAINING
    else (d.putBlock t b (some reason) true).set .CAP_T_STATUS_STATE t ctDRAINING
  else ((d.putBlock t b (some reason) true).directory t frozen (st == ctPOST)).tapDone t

/-- A block with no samples. -/
def emptyBlock : BlockIn := ⟨0, [], 0, 0, 0, 0, 0, []⟩

/-- The block in progress of a tap whose end no data path accompanies: what it holds is free (log entry 27). -/
def Dev.freeBlock (d : Dev) : BlockIn :=
  ⟨d.draw 12, leBytes 4064 (d.draw 13), 0, sx 8 (d.draw 14), BitVec.ofNat 16 (d.draw 15),
    BitVec.ofNat 64 (d.draw 16), BitVec.ofNat 64 (d.draw 17), []⟩

/-- R336, R337: a cause of reasons 4 to 7 for tap `t`. A capture ended by reason 7 leaves the buffer undefined, and
neither reason 5 nor 7 leaves a drain. -/
def Dev.endByCause (d : Dev) (t reason : Nat) : Dev :=
  let cut := decide (reason = 5 ∨ reason = 7)
  if d.tapRuns t then
    if reason = 7 then
      let lo := d.blockAddr t 0
      ((d.loseCells lo (lo + 4096 * d.tapSize t)).set .CAP_T_STATUS_END_REASON t 7).tapDone t
    else d.drawn.endCapture t reason false cut d.freeBlock
  else if d.tapState t = ctWAKING then (d.set .CAP_T_STATUS_END_REASON t reason).tapDone t
  else if d.tapState t = ctDRAINING ∧ cut then (d.set .CAP_T_STATUS_END_REASON t reason).tapDone t
  else d

/-- Every active tap for which `p` holds ends. -/
def Dev.endTaps (d : Dev) (p : Nat → Bool) (reason : Nat) : Dev :=
  Dev.each 8 (fun t d => if d.tapActive t && p t then d.endByCause t reason else d) d

/-! ## Triggers (R322 to R328) -/

/-- R324: sample and fraction of a trigger at time `time`; free values while the tap holds no reference or no period. -/
def Dev.interpolate (d : Dev) (t time : Nat) : Nat × Nat :=
  let l := d.refsOf t
  let p := d.get .CAP_T_PERIOD_P t
  match ((l.find? fun r => decide (r.time ≤ time)).orElse fun _ => l.getLast?) with
  | none => (d.draw 3 % 2 ^ 64, d.draw 4 % 65536)
  | some r =>
    if p = 0 then (d.draw 3 % 2 ^ 64, d.draw 4 % 65536)
    else
      let x : Int := ((time : Int) - r.time) * 65536
      let q := x / p
      let k : Int := r.index + q
      if k < 0 then (0, 0) else (k.toNat, ((x - q * p) * 65536 / p).toNat)

/-- R328: the holdoff exponent of a tap. -/
def Dev.holdoff (d : Dev) (t : Nat) : Nat :=
  max (if d.tapPoint t ≤ 2 then 11 else if d.tapPoint t = 4 then 4 else 0) (d.lget .CAP_T_HOLDOFF_HOLDOFF t)

/-- R313: the block of the segment or buffer that holds sample `k`: its SEQ and offset, and whether it is held. -/
def Dev.triggerBlock (d : Dev) (t k : Nat) : Nat × Nat × Bool :=
  let here := (d.get .X_CAP_SEQ t, d.nextOff t)
  if d.get .X_CAP_FIRST t ≤ k then (here.1, here.2, true)
  else
    let start := d.get .X_CAP_SEQ t - d.get .X_CAP_WRITTEN t
    match d.blocks.find? fun x => decide (x.tap = t ∧ start ≤ x.seq ∧ x.first ≤ k) with
    | some x => (x.seq, x.off, true)
    | none => (here.1, here.2, false)

/-- R313, R336: an accepted trigger ends FILLING or ARMED. -/
def Dev.enterPost (d : Dev) (t seq off k time frac src flags : Nat) : Dev :=
  let d := ((d.set .X_CAP_TRIG t 1).set .X_CAP_TRIG_SEQ t seq).set .X_CAP_TRIG_OFF t off
  let d := ((d.set .X_CAP_DIR_SAMPLE t k).set .X_CAP_DIR_TIME t time).set .X_CAP_DIR_FRAC t frac
  let d := (d.set .X_CAP_DIR_SRC t src).set .X_CAP_DIR_FLAGS t flags
  ((d.set .CAP_T_STATUS_STATE t ctPOST).set .CAP_T_EVENTS_TRIGGERED t 1).raise (769 + 4 * t)

/-- R320, R324, R328: tap `t` is offered a trigger that arrived in the cycle at elapsed time `clk`. -/
def Dev.offer (d : Dev) (t src info time clk : Nat) (falling : Bool) : Dev :=
  if !d.tapRuns t then d
  else
    let p := d.interpolate t time
    let d := d.drawn
    let k := p.1
    let last := d.get .X_CAP_LAST_K t
    let same := decide (last ≠ 0 ∧ d.get .X_CAP_LAST_CLK t = clk)
    if !same && decide (last ≠ 0 ∧ k < last - 1 + 2 ^ d.holdoff t) then d.addSat .CAP_T_COUNTS_TRIG_MISSED t 1
    else
      let b := d.triggerBlock t k
      let filling := d.tapState t == ctFILLING
      let arming := filling || d.tapState t == ctARMED
      let flags := b2n (src == 0x11) + 2 * b2n arming + 4 * b2n filling + 8 * b2n same + 16 * b2n falling +
        64 * b2n (!d.recorded t k) + 128 * b2n (!b.2.2)
      let d := if same then d else (d.set .X_CAP_LAST_K t (k + 1)).set .X_CAP_LAST_CLK t clk
      let d := (d.addWrap .X_CAP_TSEQ t 1).set .X_CAP_AUTO_CLK t d.clk
      let d := d.addRecord t (postmark src flags t p.2 (d.get .X_CAP_TSEQ t) k time info)
      let d := (d.set .CAP_T_TRIG_SAMPLE_VALUE t k).set .CAP_T_TRIG_TIME_VALUE t time
      let d := ((d.set .CAP_T_TRIG_INFO_FRAC t p.2).set .CAP_T_TRIG_INFO_SOURCE t src).set .CAP_T_TRIG_INFO_FLAGS t flags
      if arming then d.enterPost t b.1 b.2.1 k time p.2 src flags else d

/-- The events of the cycle of the oldest one that waits for tap `t`; the lowest source code comes first (R328). -/
def Dev.nextTrigger (d : Dev) (t : Nat) : Option TrigEvent :=
  match d.trigs.find? fun e => bitAt e.taps t with
  | none => none
  | some e0 =>
    (d.trigs.filter fun e => bitAt e.taps t && e.clk == e0.clk).foldl
      (fun b e => match b with
        | none => some e
        | some x => if e.src < x.src then some e else some x) none

/-- Tap `t` has taken an event. -/
def takeEvent (t : Nat) (ev : TrigEvent) : List TrigEvent → List TrigEvent
  | [] => []
  | e :: l =>
    if e = ev then
      let m := clearBit e.taps t
      if m = 0 then l else { e with taps := m } :: l
    else e :: takeEvent t ev l

/-- Tap `t` takes the next event that waits for it. -/
def Dev.takeTrigger (t : Nat) (d : Dev) : Dev :=
  match d.nextTrigger t with
  | none => d
  | some e => { d with trigs := takeEvent t e d.trigs }.offer t e.src e.info e.time e.clk e.falling

/-! ## Mask tests (R331, R332) -/

/-- Region `r` of mask `m` is in use with kind `kind` and names level or eye `n`. -/
def Dev.maskRegion (d : Dev) (m kind n r : Nat) : Bool :=
  d.on .CAP_MASK_W0_EN (16 * m + r) && d.get .CAP_MASK_W0_KIND (16 * m + r) == kind &&
    d.get .CAP_MASK_W0_LEVEL_EYE (16 * m + r) == n

/-- R331: a symbol violates an AMPLITUDE region. -/
def Dev.symbolViolates (d : Dev) (t : Nat) (y : MaskSymbol) : Bool :=
  let m := d.lget .CAP_T_CTRL_MASK_SEL t
  let z := y.z.toInt - d.level (d.tapLane t) y.level
  (List.range 16).any fun r => d.maskRegion m 0 y.level r &&
    decide (sx 8 (d.get .CAP_MASK_W0_LO (16 * m + r)) ≤ z ∧ z ≤ sx 8 (d.get .CAP_MASK_W0_HI (16 * m + r)))

/-- R331: a sweep point violates a CONTOUR region. -/
def Dev.pointViolates (d : Dev) (t eye : Nat) (ph th : Int) (hits : Nat) : Bool :=
  let m := d.lget .CAP_T_CTRL_MASK_SEL t
  decide (d.lget .CAP_T_HIT_LIMIT_HITS t ≤ hits) && (List.range 16).any fun r => d.maskRegion m 1 eye r &&
    decide (sx 8 (d.get .CAP_MASK_W1_PH_LO (16 * m + r)) ≤ ph ∧ ph ≤ sx 8 (d.get .CAP_MASK_W1_PH_HI (16 * m + r)) ∧
      sx 8 (d.get .CAP_MASK_W0_LO (16 * m + r)) ≤ th ∧ th ≤ sx 8 (d.get .CAP_MASK_W0_HI (16 * m + r)))

/-- R332: the violation limit is reached, once per arm. The second component asks for a freeze. -/
def Dev.maskLimit (d : Dev) (t index time : Nat) : Dev × Bool :=
  let n := d.get .CAP_T_VIOL_COUNT_COUNT t
  let d := (d.set .X_CAP_MASKED t 1).addRecord t (maskRecord t n index time)
  let d := (d.set .CAP_T_EVENTS_MASK_LIMIT t 1).raise (771 + 4 * t)
  (d.trigger 0xA (d.tapLane t) (t + 2 ^ 32 * n) time, d.lon .CAP_T_CTRL_MASK_STOP t)

/-- R332: one violation at sample `index`. -/
def Dev.violation (t index time : Nat) (p : Dev × Bool) : Dev × Bool :=
  let d := p.1.addSat .CAP_T_VIOL_COUNT_COUNT t 1
  let lim := d.lget .CAP_T_VIOL_LIMIT_COUNT t
  if lim ≠ 0 ∧ lim ≤ d.get .CAP_T_VIOL_COUNT_COUNT t ∧ !d.on .X_CAP_MASKED t then
    let q := d.maskLimit t index time
    (q.1, p.2 || q.2)
  else (d, p.2)

/-- R332: a freeze: postmarks of triggers of the same cycle are still written; the block in progress is closed. -/
def Dev.freeze (d : Dev) (t : Nat) (b : BlockIn) : Dev :=
  let n := (d.trigs.filter fun e => bitAt e.taps t && e.clk == d.clk).length
  let st := d.tapState t
  let d := if d.tapStreams t then d else d.set .CAP_T_STATUS_STATE t ctPOST
  let d := Dev.each n (fun _ d => d.takeTrigger t) d
  let d := if d.tapStreams t then d else d.set .CAP_T_STATUS_STATE t st
  d.endCapture t 3 true false b

/-- R331: the symbol that came with a block lies in a VALID segment. -/
def Dev.symbolValid (d : Dev) (t : Nat) (b : BlockIn) (y : MaskSymbol) : Bool :=
  let n := d.tapLane t
  d.segFlag n (b.seg + segmentAt (d.segLen n) b.segOff.toNat ((y.index : Int) - (d.fill t 0 b).first))

/-- R331: the amplitude tests of the symbols that came with a block. -/
def Dev.maskTest (d : Dev) (t : Nat) (b : BlockIn) : Dev × Bool :=
  if d.tapPoint t = 1 ∧ d.lon .CAP_T_CTRL_MASK_EN t then
    (b.tested.filter (d.symbolValid t b)).foldl
      (fun p y => if p.1.symbolViolates t y then Dev.violation t y.index y.time p else p) (d, false)
  else (d, false)

/-! ## Closing a block -/

/-- R313, R336: after a block of mode 0 or 1: FILLING to ARMED, or the end of the segment. -/
def Dev.afterBlock (d : Dev) (t : Nat) (ends final : Bool) : Dev :=
  if ends then
    let d := (d.directory t false false).set .CAP_T_SEG_SEG_DONE t (d.get .CAP_T_SEG_SEG_DONE t + 1)
    if final then (d.set .CAP_T_STATUS_END_REASON t 1).tapDone t
    else (d.set .X_CAP_SEG t (d.get .X_CAP_SEG t + 1)).beginSegment t
  else if d.tapState t = ctFILLING ∧ d.lget .CAP_T_PRE_BLOCKS t ≤ d.get .X_CAP_WRITTEN t then
    (d.set .CAP_T_STATUS_STATE t ctARMED).set .X_CAP_AUTO_CLK t d.clk
  else d

/-- BLOCK_WRITE: a running tap closes a block. -/
def Dev.blockWrite (d : Dev) (t : Nat) (b : BlockIn) : Dev :=
  if !d.tapRuns t then d
  else
    let p := d.maskTest t b
    let d := p.1
    if p.2 then d.freeze t b
    else if d.tapStreams t then
      if d.bufferFull t then d.loseBlock t b else d.putBlock t b none false
    else
      let ends := d.tapState t == ctPOST &&
        decide (d.get .X_CAP_TRIG_SEQ t + d.lget .CAP_T_POST_BLOCKS t ≤ d.get .X_CAP_SEQ t)
      let final := ends && decide (d.tapSegs t ≤ d.get .X_CAP_SEG t + 1)
      (d.putBlock t b (if final then some 1 else none) ends).afterBlock t ends final

/-! ## Sweeps (R305) -/

/-- A step of R305 with 0 taken as 1. -/
def stepOf (n : Nat) : Int := (max 1 n : Nat)
/-- The eyes of a sweep, with 0 taken as all three. -/
def Dev.sweepEyes (d : Dev) (t : Nat) : List Nat :=
  let m := d.lget .CAP_T_SWEEP1_EYES t
  (List.range 3).filter fun e => m == 0 || bitAt m e

/-- A sweep point of tap `t` begins. -/
def Dev.startPoint (d : Dev) (t : Nat) : Dev :=
  let n := d.tapLane t
  d.shadowBegin n (d.get .X_CAP_EYE t) (d.get .X_CAP_PH t) (d.get .X_CAP_TH t) (d.lget .CAP_T_SWEEP1_DWELL t)

/-- The first point of the sweep of tap `t` for eye `e`. -/
def Dev.sweepFrom (d : Dev) (t e : Nat) : Dev :=
  ((d.set .X_CAP_EYE t e).set .X_CAP_PH t (d.lget .CAP_T_SWEEP0_PH_START t)).set .X_CAP_TH t
    (d.lget .CAP_T_SWEEP0_TH_START t)

/-- R305: the point after the one that has completed. -/
def Dev.sweepNext (d : Dev) (t : Nat) : Dev :=
  let th := sx 8 (d.get .X_CAP_TH t) + stepOf (d.lget .CAP_T_SWEEP1_TH_STEP t)
  let ph := sx 8 (d.get .X_CAP_PH t) + stepOf (d.lget .CAP_T_SWEEP1_PH_STEP t)
  if th ≤ sx 8 (d.lget .CAP_T_SWEEP0_TH_STOP t) then d.set .X_CAP_TH t (ux 8 th)
  else if ph ≤ sx 8 (d.lget .CAP_T_SWEEP0_PH_STOP t) then
    (d.set .X_CAP_PH t (ux 8 ph)).set .X_CAP_TH t (d.lget .CAP_T_SWEEP0_TH_START t)
  else
    let es := d.sweepEyes t
    d.sweepFrom t ((es.find? fun e => decide (d.get .X_CAP_EYE t < e)).getD (es.headD 0))

/-- R305, R331: a sweep point of tap `t` completes with `hits`. -/
def Dev.sweepPoint (d : Dev) (t hits : Nat) : Dev :=
  let eye := d.get .X_CAP_EYE t
  let ix := d.get .X_CAP_FIRST t + (d.waiting t).length
  let bytes := leBytes 4 hits ++ leBytes 1 (d.get .X_CAP_PH t) ++ leBytes 1 (d.get .X_CAP_TH t) ++ leBytes 1 eye ++
    leBytes 1 (d.get .X_LRX_SH_DWELL (d.tapLane t)) ++ leBytes 8 d.now
  let bad := d.lon .CAP_T_CTRL_MASK_EN t &&
    d.pointViolates t eye (sx 8 (d.get .X_CAP_PH t)) (sx 8 (d.get .X_CAP_TH t)) hits
  let d := { d with samples := d.samples ++ [(t, bytes)] }
  let p := if bad then Dev.violation t ix d.now (d, false) else (d, false)
  if p.2 then p.1.freeze t emptyBlock else (p.1.sweepNext t).startPoint t

/-! ## Arming (R305, R311, R314, R317, R318, R334, R336) -/

/-- The domains that a tap needs awake. -/
def Dev.tapDomains (d : Dev) (t : Nat) : List Nat :=
  [domRx (d.tapLane t), domCapture, domMem 0, domMem 1, domMem 2, domMem 3]

/-- The tap starts to take samples. -/
def Dev.startTap (d : Dev) (t : Nat) : Dev :=
  let d := if d.tapStreams t then (d.set .CAP_T_STATUS_STATE t ctSTREAMING).set .X_CAP_AUTO_CLK t d.clk
    else d.beginSegment t
  if d.tapPoint t = 5 then (d.sweepFrom t ((d.sweepEyes t).headD 0)).startPoint t else d

/-- R336: taps in WAKING whose domains are all ON start. -/
def Dev.tapsWoken (d : Dev) : Dev :=
  Dev.each 8 (fun t d =>
    if d.tapState t == ctWAKING && (d.tapDomains t).all fun k => d.domOn k then d.startTap t else d) d

/-- R311: the buffer lies in the capture region, apart from those of the other active taps. -/
def Dev.bufferOk (d : Dev) (t : Nat) : Bool :=
  let lo := d.get .CAP_T_BUF_BASE_BLOCKS t
  let hi := lo + d.get .CAP_T_BUF_SIZE_BLOCKS t
  let segs := if d.get .CAP_T_CTRL_MODE t = 0 then 1 else max 1 (d.get .CAP_T_SEG_SEGMENTS t)
  let need := if 2 ≤ d.get .CAP_T_CTRL_MODE t then 16 else dirBlocks segs + 1
  decide (hi ≤ d.get .X_REGION_SIZE 3 * 16384 ∧ lo + need ≤ hi) &&
  (List.range 8).all fun u => !d.tapActive u || u == t ||
    decide (hi ≤ d.lget .CAP_T_BUF_BASE_BLOCKS u ∨ d.lget .CAP_T_BUF_BASE_BLOCKS u + d.tapSize u ≤ lo)

/-- R318: capture-out record `i` serves another active stream. -/
def Dev.coutHeld (d : Dev) (t i : Nat) : Bool :=
  (List.range 8).any fun u => u != t && d.tapActive u && d.tapMode u == 3 && bitAt (d.lget .CAP_T_DRAIN_COUT u) i

/-- The capture-out records that tap `t` asks for. -/
def Dev.coutAsked (d : Dev) (t : Nat) : List Nat := (List.range 8).filter fun i => bitAt (d.get .CAP_T_DRAIN_COUT t) i

/-- R318: the capture-out lanes that tap `t` names are assigned, in its tile and free. -/
def Dev.coutOk (d : Dev) (t : Nat) : Bool :=
  d.get .CAP_T_DRAIN_COUT t != 0 && (d.coutAsked t).all fun i =>
    d.get .X_COUT_LANE i != 255 && d.get .X_COUT_LANE i / 32 == tileOf (d.get .CAP_T_CTRL_LANE t) && !d.coutHeld t i

/-- The tap that holds the DMA capture queue of tap `t`. -/
def Dev.queueHeld (d : Dev) (t : Nat) : Bool :=
  (List.range 8).any fun u => u != t && d.tapActive u && d.tapMode u == 2 &&
    d.lget .CAP_T_DRAIN_QUEUE u == d.get .CAP_T_DRAIN_QUEUE t

/-- R336: the refusal code of an arm of tap `t`, 0 for none. The spec gives no order among the causes (log entry 13). -/
def Dev.armRefusal (d : Dev) (t : Nat) : Nat :=
  let point := d.get .CAP_T_CTRL_POINT t
  let mode := d.get .CAP_T_CTRL_MODE t
  let n := d.get .CAP_T_CTRL_LANE t
  if d.tapActive t then 1
  else if 6 ≤ point ∨ !d.used (engineOf n) then 2
  else if !d.regionIn 3 then 8
  else if !d.bufferOk t then 3
  else if mode = 3 ∧ !d.coutOk t then 5
  else if mode = 2 ∧ (7 < d.get .CAP_T_DRAIN_QUEUE t ∨ d.queueHeld t) then 6
  else if point = 5 ∧ d.get .LRX_SHADOW_STATUS_HOLDER n ≠ 0 then 7
  else if !(d.latchTap t).bwAdmits t then 4
  else 0

/-- R89: the refusals of an arm that concern a resource of R88 are logged. -/
def Dev.logRefusal (d : Dev) (t code : Nat) : Dev :=
  match code with
  | 4 => d.refuse 5 t 1 0
  | 5 =>
    match (d.coutAsked t).find? fun i => d.coutHeld t i with
    | some i => d.refuse 6 (d.get .X_COUT_LANE i) 1 5
    | none => d
  | 6 => if d.queueHeld t then d.refuse 9 (d.get .CAP_T_DRAIN_QUEUE t) 1 5 else d
  | 7 => d.refuse 7 (d.get .CAP_T_CTRL_LANE t) 1 (d.get .LRX_SHADOW_STATUS_HOLDER (d.get .CAP_T_CTRL_LANE t))
  | _ => d

/-- R314: PRE, POST and SEGMENTS clamped to a buffer of `n` blocks: POST first, then PRE, then SEGMENTS. -/
def clampTap (n pre post segs : Nat) : Nat × Nat × Nat :=
  let most := (n - dirBlocks segs) / segs
  if pre + post + 1 ≤ most then (pre, post, segs)
  else if 1 ≤ most then
    if pre + 1 ≤ most then (pre, most - 1 - pre, segs) else (most - 1, 0, segs)
  else (0, 0, 128 * n / 129)

/-- R314: the lengths are clamped and written back. -/
def Dev.clampLengths (d : Dev) (t : Nat) : Dev :=
  let pre := d.lget .CAP_T_PRE_BLOCKS t
  let post := d.lget .CAP_T_POST_BLOCKS t
  let segs := d.tapSegs t
  let c := clampTap (d.tapSize t) pre post segs
  if d.tapStreams t ∨ c = (pre, post, segs) then d.set .CAP_T_STATUS_CLAMPED t 0
  else
    let d := (d.set .CAP_T_PRE_BLOCKS t c.1).lset .CAP_T_PRE_BLOCKS t c.1
    let d := (d.set .CAP_T_POST_BLOCKS t c.2.1).lset .CAP_T_POST_BLOCKS t c.2.1
    let d := if c.2.2 = segs then d
      else (d.set .CAP_T_SEG_SEGMENTS t c.2.2).lset .CAP_T_SEG_SEGMENTS t c.2.2
    (d.set .CAP_T_STATUS_CLAMPED t 1).set .CAP_T_EVENTS_CLAMPED t 1

/-- The counters and the running state of a tap that an arm clears. -/
def armCleared : List F := [.CAP_T_COUNTS_TRIG_MISSED, .CAP_T_COUNTS_RECORDS_LOST, .CAP_T_SAMPLES_LOST_VALUE,
  .CAP_T_VIOL_COUNT_COUNT, .CAP_T_BLOCKS_VALUE, .CAP_T_SEG_SEG_DONE, .CAP_T_WRITE_PTR_BLOCK, .CAP_T_READ_PTR_BLOCK,
  .CAP_T_PERIOD_P, .X_CAP_FIRST, .X_CAP_SEQ, .X_CAP_SEG, .X_CAP_WRITTEN, .X_CAP_TRIG, .X_CAP_LAST_K, .X_CAP_TSEQ,
  .X_CAP_GAP, .X_CAP_STEP, .X_CAP_MASKED, .X_CAP_QUEUED, .X_CAP_FRAME_SEQ, .X_CAP_LANE, .X_CAP_END_WAIT]

/-- R336: an accepted arm. -/
def Dev.acceptArm (d : Dev) (t : Nat) : Dev :=
  let d := (((d.clearTap t).latchTap t).setAll armCleared t 0).addWrap .CAP_T_STATUS_ARMS t 1
  let d := d.clampLengths t
  let d := if d.tapPoint t = 5 then d.set .LRX_SHADOW_STATUS_HOLDER (d.tapLane t) 5 else d
  if (d.tapDomains t).all fun k => d.domOn k then d.startTap t
  else Dev.forList (d.tapDomains t) (fun k d => if d.domOn k then d else d.wake k 6)
    (d.set .CAP_T_STATUS_STATE t ctWAKING)

/-! ## Streams (R317, R318, R489) -/

/-- A block has left the buffer: READ_PTR moves, and an END block that waited for room follows. -/
def Dev.blockLeft (d : Dev) (t : Nat) : Dev :=
  let r := d.get .CAP_T_READ_PTR_BLOCK t
  let d := { d with blocks := d.blocks.filter fun x => !(x.tap == t && x.off == r) }
  let d := (d.set .CAP_T_READ_PTR_BLOCK t ((r + 1) % max 1 (d.tapSize t))).set .X_CAP_QUEUED t (d.get .X_CAP_QUEUED t - 1)
  let w := d.get .X_CAP_END_WAIT t
  if w = 0 then d else (d.putBlock t emptyBlock (some w) true).set .X_CAP_END_WAIT t 0

/-- R336: a drained stream is DONE. -/
def Dev.checkDrained (d : Dev) (t : Nat) : Dev :=
  if d.tapState t = ctDRAINING ∧ d.get .X_CAP_QUEUED t = 0 ∧ !(d.frames.any fun e => e.1 == t) then d.tapDone t else d

/-- The bytes of the oldest block in the buffer; a read that stays failed delivers it with MAGIC 0 (R440). -/
def Dev.drainBytes (d : Dev) (t : Nat) (bad : Bool) : List Byte :=
  let bs := d.bytesNow (d.blockAddr t (d.get .CAP_T_READ_PTR_BLOCK t)) 4096
  if bad then leBytes 2 0 ++ bs.drop 2 else bs

/-- R318: mode 3: a block goes to the frame in progress. -/
def Dev.drainFrame (d : Dev) (t : Nat) (bad : Bool) : Dev :=
  let bs := d.drainBytes t bad
  let d := d.memRead 1 (d.blockAddr t (d.get .CAP_T_READ_PTR_BLOCK t)) 4096 bad
  let d := if d.frames.any fun e => e.1 == t then d else d.set .X_CAP_WAIT_CLK t d.clk
  { d with frames := d.frames ++ [(t, bs)] }.blockLeft t

/-- The most significant byte first. -/
def beBytes (n v : Nat) : List Byte := (leBytes n v).reverse

/-- R253, R318: a capture-out frame from its destination address to its frame check sequence. -/
def Dev.frameBytes (d : Dev) (t i : Nat) (blocks : List (List Byte)) : List Byte :=
  let pos := d.get .TIME_TICK_CFG_POSITION 0 % 4
  let head := leBytes 2 1 ++ leBytes 1 (t + 16 * pos) ++ leBytes 1 blocks.length ++
    leBytes 4 (d.get .X_CAP_FRAME_SEQ t) ++ leBytes 4 (d.get .CAP_T_STATUS_ARMS t) ++ leBytes 4 0
  let f := leBytes 6 (d.get .X_COUT_DEST i) ++ leBytes 6 (d.get .X_COUT_SRC i) ++ beBytes 2 (d.get .X_COUT_TYPE i) ++
    head ++ blocks.flatten
  f ++ leBytes 4 (crc32 f).toNat

/-- R318: the capture-out records of a tap in the order in which they take frames, from record `i` on. -/
def Dev.coutFrom (d : Dev) (t i : Nat) : Nat :=
  ((List.range 8).map fun j => (i + j) % 8).find? (fun j => bitAt (d.lget .CAP_T_DRAIN_COUT t) j) |>.getD 0

/-- R318: the tap sends a frame of its `n` oldest waiting blocks on its next lane, once the lane is READY (R254). -/
def Dev.sendFrame (d : Dev) (t n : Nat) : Dev :=
  let i := d.coutFrom t (d.get .X_CAP_LANE t)
  let h := d.get .X_COUT_LANE i
  let bs := ((d.frames.filter fun e => e.1 == t).map (·.2)).take n
  if d.hl h ≠ hlREADY ∨ bs.isEmpty then d
  else
    let d := d.send (.captureFrame h (d.frameBytes t i bs))
    let d := { d with frames := dropSamples t bs.length d.frames }
    let d := ((d.set .X_CAP_LANE t (i + 1)).addWrap .X_CAP_FRAME_SEQ t 1).set .X_CAP_WAIT_CLK t d.clk
    d.checkDrained t

/-! ## Commands -/

/-- CAPTURE_ARM (R336). -/
def execCaptureArm (t : Fin 8) (s : State) : Host.Outcome State Fault Refusal :=
  s.run fun d =>
    let c := d.armRefusal t
    if c = 0 then d.acceptArm t
    else ((d.logRefusal t c).set .CAP_T_STATUS_REFUSE t c).set .CAP_T_EVENTS_REFUSED t 1 |>.raise 802

/-- CAPTURE_STOP (R336, R339). `b` is the block in progress. -/
def execCaptureStop (t : Fin 8) (b : BlockIn) (s : State) : Host.Outcome State Fault Refusal :=
  s.run fun d =>
    if d.tapRuns t then d.endCapture t 2 false false b
    else if d.tapState t = ctWAKING then (d.set .CAP_T_STATUS_END_REASON t 2).tapDone t
    else d

/-- CAPTURE_ABORT (R336, R340). -/
def execCaptureAbort (t : Fin 8) (s : State) : Host.Outcome State Fault Refusal :=
  s.run fun d =>
    if d.tapState t = ctIDLE then d
    else
      let d := if d.tapActive t then (d.endDescs t true).releaseSampler t else d
      ((d.clearTap t).setAll [.X_CAP_QUEUED, .X_CAP_END_WAIT] t 0).set .CAP_T_STATUS_STATE t ctIDLE

/-- CAP_CLEAR_STATS (R342). -/
def execCapClearStats (t : Fin 8) (s : State) : Host.Outcome State Fault Refusal :=
  s.run fun d => d.setAll [.CAP_T_COUNTS_TRIG_MISSED, .CAP_T_COUNTS_RECORDS_LOST, .CAP_T_SAMPLES_LOST_VALUE,
    .CAP_T_VIOL_COUNT_COUNT] t 0

/-- BLOCK_WRITE (R306). -/
def execBlockWrite (t : Fin 8) (b : BlockIn) (s : State) : Host.Outcome State Fault Refusal :=
  s.run fun d => d.blockWrite t b

/-- TRIGGER_ACCEPT (R328): tap `t` takes the next trigger that waits for it. -/
def execTriggerAccept (t : Fin 8) (s : State) : Host.Outcome State Fault Refusal :=
  s.run fun d => d.takeTrigger t

/-- SOFTWARE_TRIGGER (R322): a write to CAP_SW_TRIG. -/
def execSoftwareTrigger (taps : Byte) (tag : BitVec 24) (s : State) : Host.Outcome State Fault Refusal :=
  s.run fun d => (d.toTaps taps.toNat 0x10 tag.toNat d.now false []).xtrigEvent 0x10

/-- R325, R419: entry `i` of the live TDC trims, POST_TIME units, and the fine count it stands at. -/
def Dev.tdcEntry (d : Dev) (i : Nat) : Int := sx 16 (d.lget .CAL_TRIM_WORD (64 * 136 + i / 2) / 65536 ^ (i % 2))
def tdcCount (i : Nat) : Nat := i * 6554 / 64

/-- R325, R419: the correction at fine count `f`, linear between entries; above the last entry that one holds (DESIGN CHOICE, log
entry 76). -/
def Dev.tdcTrim (d : Dev) (f : Nat) : Int :=
  let i := ((List.range 64).filter fun i => decide (tdcCount i ≤ f)).length - 1
  if i = 63 then d.tdcEntry 63
  else
    let span := tdcCount (i + 1) - tdcCount i
    let x := (d.tdcEntry (i + 1) - d.tdcEntry i) * ((f - tdcCount i : Nat) : Int)
    d.tdcEntry i + (if (Config.rounding 14).val = 0 then x / span else (2 * x + span) / (2 * span))

/-- R325: the time of an edge at fine count `f` of the cycle that starts at `c`. -/
def Dev.edgeTime (d : Dev) (c f : Nat) : Nat := ((c : Int) + f + d.tdcTrim f).toNat

/-- TRIG_IN_EDGE (R322, R325, R326): an edge on pin `p` in the cycle that starts at POST_TIME `c`, at fine count `f`. -/
def execTrigInEdge (p : Fin 4) (rising : Bool) (c : DWord) (f : Fin 6554) (s : State) :
    Host.Outcome State Fault Refusal :=
  s.run fun d =>
    let e := d.get .CAP_TRIGIN_CFG_EDGE p
    let tm := d.edgeTime c.toNat f
    if (if rising then e % 2 = 1 else 2 ≤ e) then
      if d.get .X_TRIGIN_LAST p ≠ 0 ∧ tm * 10 < (d.get .X_TRIGIN_LAST p - 1) * 10 + 131072 then
        let d := d.addSat .CAP_TRIG_EVENTS_CLOSE_COUNT 0 1
        (d.orBits .CAP_TRIG_EVENTS_CLOSE 0 (2 ^ p.val)).raise 800
      else
        let at_ : Int := (tm : Int) - sx 16 (d.get .CAP_TRIGIN_CFG_DELAY p)
        let d := d.set .X_TRIGIN_LAST p (tm + 1)
        (d.toTaps 255 p.val p.val (at_.toNat) (!rising) []).xtrigEvent p.val
    else d

/-- XTRIG_EDGE (R322, R330): a rising edge on line `j` that another member drives. -/
def execXtrigEdge (j : Fin 2) (c : DWord) (f : Fin 6554) (s : State) : Host.Outcome State Fault Refusal :=
  s.run fun d =>
    if d.on .CAP_XTRIG_OUT_DRIVING j then d
    else d.toTaps 255 (4 + j.val) (j.val + 256 * d.get .X_XTRIG_DRIVER j)
      (d.edgeTime c.toNat f - d.get .CAP_XTRIG_IN_DELAY_DELAY j) false []

/-- AUTO_TRIGGER (R327). -/
def execAutoTrigger (t : Fin 8) (s : State) : Host.Outcome State Fault Refusal :=
  s.run fun d =>
    if d.lon .CAP_T_CTRL_AUTO t && (d.tapState t == ctARMED || d.tapState t == ctSTREAMING) then
      d.onTime (d.get .X_CAP_AUTO_CLK t + max 1000 (d.lget .CAP_T_AUTO_TIMEOUT t) * ns) fun d =>
        d.offer t 0x11 0 d.now d.clk false
    else d

/-- SAMPLE_LOSS (R335): `n` samples are lost for cause 1, 2 or 3; a tap in modes 0 and 1 never takes cause 3. -/
def execSampleLoss (t : Fin 8) (cause : Fin 3) (n : Nat) (time : DWord) (s : State) : Host.Outcome State Fault Refusal :=
  s.run fun d =>
    if d.tapRuns t && (d.tapStreams t || cause.val != 2) then d.loseSamples t (cause.val + 1) n time.toNat else d

/-- SHADOW_POINT_DONE (R135, R305): lane `n`'s sampler has counted its 2^DWELL symbols, of which `hits` were hits; it takes one
symbol in 64, so the point lasts `Dev.shadowSpan` at least. -/
def execShadowPointDone (n : Fin 64) (hits : Word) (s : State) : Host.Outcome State Fault Refusal :=
  s.run fun d =>
    if d.on .LRX_SHADOW_STATUS_BUSY n then
      d.onTime (d.get .X_LRX_SH_CLK n + d.shadowSpan n) fun d =>
        let h := min hits.toNat (2 ^ d.get .X_LRX_SH_DWELL n)
        let d := ((d.set .LRX_SHADOW_HITS_HITS n h).set .LRX_SHADOW_STATUS_BUSY n 0).set .LRX_SHADOW_STATUS_DONE n 1
        match (List.range 8).find? fun t => d.tapRuns t && d.tapPoint t == 5 && d.tapLane t == n with
        | some t => d.sweepPoint t h
        | none => d
    else d

/-- CAPTURE_OUT_FRAME (R318): two blocks, or a single one at the end of the stream. -/
def execCaptureOutFrame (t : Fin 8) (s : State) : Host.Outcome State Fault Refusal :=
  s.run fun d =>
    let n := (d.frames.filter fun e => e.1 == t.val).length
    if 2 ≤ n ∨ (n = 1 ∧ d.tapState t = ctDRAINING ∧ d.get .X_CAP_QUEUED t = 0) then d.sendFrame t 2 else d

/-- BLOCK_PARTNER_TIMEOUT (R318). -/
def execBlockPartnerTimeout (t : Fin 8) (s : State) : Host.Outcome State Fault Refusal :=
  s.run fun d =>
    if (d.frames.filter fun e => e.1 == t.val).length = 1 then
      d.onTime (d.get .X_CAP_WAIT_CLK t + 16 * us) fun d => d.sendFrame t 1
    else d

end Sys2Proof.Machine
end

