-- ==== Sys2Proof/Machine/Dma.lean ====
section
/-! DEFINITION. The PCIe endpoint and the DMA queues (R472 to R495): the violation log, the states of the link and the
function, descriptors and their completion records. -/

namespace Sys2Proof.Machine

open Sys2Proof

/-! ## Violations (R479, R480) -/

/-- The DMA_VIOL registers show the oldest entry of the log. -/
def Dev.showViol (d : Dev) : Dev :=
  let d := d.set .DMA_VIOL_STATUS_COUNT 0 d.viols.length
  match d.viols with
  | [] => d.setAll [.DMA_VIOL_ADDR_ADDR, .DMA_VIOL_INFO_REQ_ID, .DMA_VIOL_INFO_REQUESTER, .DMA_VIOL_INFO_BAR,
      .DMA_VIOL_INFO_WRITE, .DMA_VIOL_INFO_TYPE, .DMA_VIOL_TIME_TIME] 0 0
  | v :: _ =>
    let d := ((d.set .DMA_VIOL_ADDR_ADDR 0 v.addr).set .DMA_VIOL_INFO_REQ_ID 0 v.reqId).set .DMA_VIOL_INFO_REQUESTER 0
      v.who.code
    let d := ((d.set .DMA_VIOL_INFO_BAR 0 v.bar).set .DMA_VIOL_INFO_WRITE 0 (b2n v.write)).set .DMA_VIOL_INFO_TYPE 0 v.type
    d.set .DMA_VIOL_TIME_TIME 0 v.time

/-- A violation is recorded: the requester ID is 0 for a requester other than PCIe. -/
def Dev.logViol (d : Dev) (addr bar : Nat) (write : Bool) (who : Requester) (reqId type time : Nat) : Dev :=
  let d :=
    if d.viols.length < 16 then
      let v : Viol := ⟨addr, bar, write, who, if who = .pcie then reqId else 0, type, time⟩
      Dev.showViol { d with viols := d.viols ++ [v] }
    else d.addSat .DMA_VIOL_STATUS_OVERFLOWS 0 1
  d.raise 8

/-- R479: a violation of a request: a read gets Completer Abort, a write is dropped. -/
def Dev.violate (d : Dev) (addr bar : Nat) (write : Bool) (who : Requester) (reqId type time : Nat) : Dev :=
  let d := d.logViol addr bar write who reqId type time
  if write then d else d.send .completerAbort

/-! ## Queues (R484 to R492) -/

/-- States of DMA_Q_STATUS.STATE. -/
def dqDISABLED : Nat := 0
def dqRUNNING : Nat := 1
def dqSTOPPING : Nat := 2
def dqERROR : Nat := 3

/-- The state of a queue. -/
def Dev.dq (d : Dev) (q : Nat) : Nat := d.get .DMA_Q_STATUS_STATE q
/-- The queue runs or stops. -/
def Dev.dqLive (d : Dev) (q : Nat) : Bool := d.dq q == dqRUNNING || d.dq q == dqSTOPPING
/-- The function may issue requests. -/
def Dev.busOk (d : Dev) : Bool := d.on .DMA_LINK_STATUS_BME 0 && d.get .DMA_LINK_STATUS_DSTATE 0 == 0

/-- R482, R490, R492: PAUSED follows Bus Master Enable, the function's state and a wait for a wake. -/
def Dev.syncPaused (q : Nat) (d : Dev) : Dev :=
  d.set .DMA_Q_STATUS_PAUSED q (b2n (d.dqLive q && (!d.busOk || d.on .X_DMA_WAKE q)))
/-- The same for every queue. -/
def Dev.syncPausedAll (d : Dev) : Dev := Dev.each 16 Dev.syncPaused d

/-- The ring size of a queue. -/
def Dev.ring (d : Dev) (q : Nat) : Nat := 2 ^ d.get .DMA_Q_CTRL_SIZE_EXP q
/-- The descriptors of a queue that have been fetched, in ring order. -/
def Dev.fetched (d : Dev) (q : Nat) : List Desc := d.descs.filter fun x => x.queue == q
/-- R485: the index that the queue fetches next. -/
def Dev.fetchIndex (d : Dev) (q : Nat) : Nat := (d.get .DMA_Q_HEAD_INDEX q + (d.fetched q).length) % d.ring q

/-- Bit 0 of FLAGS: 1 for device to host. -/
def Desc.toHost (x : Desc) : Bool := bitAt x.flags 0
/-- The bytes that its record reports. -/
def Desc.bytes (x : Desc) : Nat := if 1 ≤ x.status ∧ x.status ≤ 4 then 0 else x.moved - x.spoilt

/-- Replace a descriptor. -/
def replaceDesc (x y : Desc) : List Desc → List Desc
  | [] => []
  | z :: l => if z = x then y :: l else z :: replaceDesc x y l
/-- Remove a descriptor. -/
def removeDesc (x : Desc) : List Desc → List Desc
  | [] => []
  | z :: l => if z = x then l else z :: removeDesc x l

/-- R425: every byte of a range may be read, or written, by a queue. Regions lie at 64 MiB boundaries. -/
def Dev.rangeOk (d : Dev) (a n : Nat) (write : Bool) : Bool :=
  (List.range (n / 2 ^ 26 + 2)).all fun i =>
    let x := if i = 0 then a else (a / 2 ^ 26 + i) * 2 ^ 26
    decide (a + n ≤ x) || d.hostAccess x write == 0

/-- R487: the status that the checks before any data give a descriptor; 0 if it passes. -/
def Dev.checkDesc (d : Dev) (q : Nat) (x : DmaDescriptor) : Nat :=
  let n := x.len.toNat
  let f := x.flags.toNat
  if n = 0 then 1
  else if q < 8 ∧ (n % 4096 ≠ 0 ∨ !bitAt f 0 ∨ x.dev.toNat ≠ 0) then 2
  else if 8 ≤ q ∧ !d.rangeOk x.dev.toNat n (!bitAt f 0) then 3
  else if 4 ≤ f ∨ 4096 ≤ x.tag.toNat ∨ x.rest.any fun b => b != 0 then 4
  else if 8 ≤ q ∧ d.memState = meFAILED then 8
  else 0

/-- The memory domains that a range of addresses touches (R424): domain m holds devices 2m and 2m + 1. -/
def memDomainsOf (a n : Nat) : List Nat :=
  (List.range 4).filter fun m => (unitsOf 34 a n).any fun u => channelOf u.1 / 8 == m

/-- R490: the memory domains of a descriptor that are not ON. -/
def Dev.descSleeps (d : Dev) (x : Desc) : List Nat :=
  if x.queue < 8 ∨ x.status ≠ 0 then [] else (memDomainsOf x.dev x.len).filter fun m => !d.domOn (domMem m)

/-- R490: a wait for a wake has ended; it does not count towards the urgent age. -/
def Dev.waited (d : Dev) (q : Nat) : Dev :=
  let w := d.clk - d.get .X_DMA_WAIT_CLK q
  { d with descs := d.descs.map fun x => if x.queue = q then { x with since := x.since + w } else x }

/-- R490: the queue waits for the memory domains of its descriptor, or goes on. -/
def Dev.awaitMem (q : Nat) (d : Dev) : Dev :=
  let ms := match (d.fetched q).head? with
    | some x => d.descSleeps x
    | none => []
  let d := Dev.forList ms (fun m d => d.wake (domMem m) 6) d
  let was := d.on .X_DMA_WAKE q
  let d := d.set .X_DMA_WAKE q (b2n (!ms.isEmpty))
  Dev.syncPaused q (if was && ms.isEmpty then d.waited q
    else if !was && !ms.isEmpty then d.set .X_DMA_WAIT_CLK q d.clk
    else d)

/-- R488: one read request of the descriptor in progress of queue `q`, within the limits (log entry 14). -/
def Dev.ask (q : Nat) (d : Dev) : Dev :=
  match (d.fetched q).head? with
  | none => d
  | some x =>
    let total := ((List.range 16).map fun p => d.get .X_DMA_OUT p + d.get .X_DMA_OLD p).sum
    if 8 ≤ q ∧ d.dqLive q ∧ !d.on .DMA_Q_STATUS_PAUSED q ∧ !x.toHost ∧ (x.status = 0 ∨ x.status = 7) ∧ 0 < x.toAsk ∧
        d.get .X_DMA_OUT q < 64 ∧ total < 256 then
      let n := min (min 4096 (d.get .X_PCIE_MRRS 0)) x.toAsk
      let d := { d with descs := replaceDesc x { x with toAsk := x.toAsk - n } d.descs }
      (d.set .X_DMA_OUT q (d.get .X_DMA_OUT q + 1)).send (.hostRead (x.host + (x.len - x.toAsk)) n)
    else d

/-- R488, R490: the general queues issue what they may, one request each in turn. -/
def Dev.askAll (d : Dev) : Dev :=
  Dev.each 64 (fun _ d => Dev.each 8 (fun q d => Dev.ask (8 + q) d) d) d

/-- R491: a queue is reset. -/
def Dev.resetQueue (q : Nat) (d : Dev) : Dev :=
  let d := { d with descs := d.descs.filter fun x => x.queue != q }
  let d := (d.set .DMA_Q_STATUS_EPOCH q ((d.get .DMA_Q_STATUS_EPOCH q + 1) % 16)).set .X_DMA_OLD q
    (d.get .X_DMA_OLD q + d.get .X_DMA_OUT q)
  let d := (d.setAll [.X_DMA_OUT, .X_DMA_WAKE, .DMA_Q_HEAD_INDEX, .DMA_Q_TAIL_INDEX, .DMA_Q_STATUS_STATE,
    .DMA_Q_STATUS_PAUSED] q 0)
  d.set .DMA_Q_STATUS_PHASE q 1

/-- R492: a hot reset, link down or FLR: as RESET, and CTRL and the ring addresses are cleared. -/
def Dev.hotResetQueue (q : Nat) (d : Dev) : Dev :=
  (Dev.resetQueue q d).setAll [.DMA_Q_CTRL_ENABLE, .DMA_Q_CTRL_SIZE_EXP, .DMA_Q_RING_ADDR, .DMA_Q_CPL_ADDR] q 0

/-- R492: a write is ignored. -/
def Dev.cfgIgnored (d : Dev) (q : Nat) : Dev := (d.set .DMA_Q_EVENTS_CFG_IGNORED q 1).syncQueue q

/-- R491: a read request of an earlier epoch is done with. -/
def Dev.lateRead (d : Dev) (q : Nat) : Dev :=
  if d.get .X_DMA_OLD q = 0 then d
  else
    let d := (d.set .X_DMA_OLD q (d.get .X_DMA_OLD q - 1)).addSat .DMA_Q_COUNTS_LATE q 1
    ((d.set .DMA_Q_EVENTS_LATE q 1).syncQueue q).askAll

/-- R487: the statuses after which a queue stops. -/
def errorStatus (s : Nat) : Bool := s != 0 && s != 7 && s != 9

/-- R487: a completion record. -/
def Dev.record (d : Dev) (q : Nat) (x : Desc) : List Byte :=
  leBytes 2 (x.tag % 4096 + 4096 * d.get .DMA_Q_STATUS_EPOCH q) ++ leBytes 1 x.status ++
    leBytes 1 (d.get .DMA_Q_STATUS_PHASE q) ++ leBytes 3 x.bytes ++ leBytes 1 0 ++ leBytes 8 d.now

/-- R485, R487, R492: the record of the oldest descriptor is written and HEAD advances. -/
def Dev.finishDesc (d : Dev) (q : Nat) (x : Desc) : Dev :=
  let i := d.get .DMA_Q_HEAD_INDEX q
  let d := d.send (.hostWrite (d.get .DMA_Q_CPL_ADDR q + 16 * i) (d.record q x) false false)
  let d := { d with descs := removeDesc x d.descs }
  let j := (i + 1) % d.ring q
  let d := (d.set .DMA_Q_HEAD_INDEX q j).addSat .DMA_Q_DESC_DONE_COUNT q 1
  let d := if j = 0 then d.set .DMA_Q_STATUS_PHASE q (1 - d.get .DMA_Q_STATUS_PHASE q) else d
  let d := if bitAt x.flags 1 then d.set .DMA_Q_EVENTS_DONE q 1 else d
  let d := if x.status = 7 then (d.set .DMA_Q_EVENTS_POISONED q 1).addSat .DMA_Q_COUNTS_POISONED q 1 else d
  let d :=
    if errorStatus x.status then
      ((d.set .DMA_Q_STATUS_STATE q dqERROR).set .DMA_Q_STATUS_ERR_STATUS q x.status).set .DMA_Q_EVENTS_ERROR q 1
    else if d.dq q = dqSTOPPING then
      { d.set .DMA_Q_STATUS_STATE q dqDISABLED with descs := d.descs.filter fun y => y.queue != q }
    else d
  ((Dev.awaitMem q d).syncQueue q).askAll

/-- R487: all of a descriptor's data has reached GDDR7, if that is where it goes. -/
def Dev.dataLanded (d : Dev) (x : Desc) : Bool :=
  x.toHost || !d.mreqs.any fun r => r.write && r.cls == 2 && !r.bar2 && decide (x.dev ≤ r.addr ∧ r.addr < x.dev + x.len)

/-- R474, R488: data for the host leaves in write requests no larger than the Max Payload Size. -/
def Dev.hostData (d : Dev) (a : Nat) (bs : List Byte) (bad : Bool) : Dev :=
  let n := max 1 (d.get .X_PCIE_MPS 0)
  Dev.each ((bs.length + n - 1) / n)
    (fun i d => d.send (.hostWrite (a + n * i) ((bs.drop (n * i)).take n) (d.on .X_PCIE_RO 0) bad)) d

/-- R487, R488: a host completion for a read request of the descriptor in progress. -/
def Dev.readDone (d : Dev) (q : Nat) (last : Bool) (r : HostCompletion) (data : List Byte) : Dev :=
  let d := if last then d.set .X_DMA_OUT q (d.get .X_DMA_OUT q - 1) else d
  match (d.fetched q).head? with
  | none => d.askAll
  | some x =>
    let bs := data.take (x.len - x.moved)
    if q < 8 ∨ x.toHost ∨ !(x.status == 0 || x.status == 7) then d.askAll
    else match r with
      | .ok =>
        let d := (d.memWrite 2 (x.dev + x.moved) bs).addWrap .DMA_Q_BYTES_COUNT q bs.length
        { d with descs := replaceDesc x { x with moved := x.moved + bs.length } d.descs }.askAll
      | .poisoned =>
        let y := { x with moved := x.moved + bs.length, spoilt := x.spoilt + bs.length, status := 7 }
        { d with descs := replaceDesc x y d.descs }.askAll
      | .unsupported | .abort => { d with descs := replaceDesc x { x with status := 5 } d.descs }.askAll

/-! ## Link and function (R472 to R474, R481 to R483, R493) -/

/-- The usable DMA rate of a link in 0.1 GB/s, before it saturates at 25.5. -/
def usable (speed width : Nat) : Nat :=
  let r := match speed with
    | 5 => 260
    | 4 => 130
    | 3 => 65
    | 2 => 33
    | 1 => 16
    | _ => 0
  if Config.rounding 4 = 0 then r * width / 8 else (r * width + 4) / 8

/-- R481, R493: the MSI-X table and the PBA return to their reset values. -/
def Dev.resetMsix (d : Dev) : Dev :=
  let d := Dev.each 256 (fun v d =>
    (d.setAll [.MSIX_ADDR_LO_ADDR_LO, .MSIX_ADDR_HI_ADDR_HI, .MSIX_DATA_DATA] v 0).set .MSIX_CTRL_MASK v 1) d
  { d with pba := [] }

/-- R467: the host targets after a hot reset: nothing in service, nothing held, TARGET_IDLE 0. -/
def Dev.resetHostTargets (d : Dev) : Dev :=
  Dev.each 64 (fun x d => (d.resetTarget x).set .PH_T_IDLE_TARGET_IDLE x 0) d

/-- R492, R493: what a hot reset, a link down and an FLR share. -/
def Dev.functionReset (d : Dev) : Dev :=
  let d := d.setAll [.DMA_LINK_STATUS_BME, .DMA_LINK_STATUS_DSTATE, .DMA_LINK_STATUS_L1, .X_PCIE_FUNC_MASK,
    .X_PCIE_PME_EN, .X_PCIE_PME_STATUS] 0 0
  (((Dev.each 16 Dev.hotResetQueue d).resetMsix).resetHostTargets).syncLink

/-! ## Commands -/

/-- VIOL_POP (R480). -/
def execViolPop (s : State) : Host.Outcome State Fault Refusal :=
  s.run fun d => Dev.showViol { d with viols := d.viols.drop 1 }

/-- QUEUE_ENABLE (R492): ENABLE written 1 with SIZE_EXP `e`. -/
def execQueueEnable (q : Fin 16) (e : BitVec 5) (s : State) : Host.Outcome State Fault Refusal :=
  s.run fun d =>
    if d.dq q = dqDISABLED ∧ 4 ≤ e.toNat ∧ e.toNat ≤ 16 then
      let d := (d.set .DMA_Q_CTRL_ENABLE q 1).set .DMA_Q_CTRL_SIZE_EXP q e.toNat
      let d := (d.setAll [.DMA_Q_HEAD_INDEX, .DMA_Q_TAIL_INDEX] q 0).set .DMA_Q_STATUS_PHASE q 1
      Dev.syncPaused q (d.set .DMA_Q_STATUS_STATE q dqRUNNING)
    else d.cfgIgnored q

/-- QUEUE_DISABLE (R492): ENABLE written 0. -/
def execQueueDisable (q : Fin 16) (s : State) : Host.Outcome State Fault Refusal :=
  s.run fun d =>
    let d := d.set .DMA_Q_CTRL_ENABLE q 0
    if d.dq q = dqRUNNING then
      Dev.syncPaused q (d.set .DMA_Q_STATUS_STATE q (if (d.fetched q).isEmpty then dqDISABLED else dqSTOPPING))
    else d

/-- QUEUE_RESET (R491). -/
def execQueueReset (q : Fin 16) (s : State) : Host.Outcome State Fault Refusal :=
  s.run fun d => Dev.resetQueue q d

/-- DMA_Q_CLEAR_STATS (R495). -/
def execDmaQClearStats (q : Fin 16) (s : State) : Host.Outcome State Fault Refusal :=
  s.run fun d => d.setAll [.DMA_Q_BYTES_COUNT, .DMA_Q_DESC_DONE_COUNT, .DMA_Q_COUNTS_LATE, .DMA_Q_COUNTS_POISONED] q 0

/-- TAIL_WRITE (R485, R492). -/
def execTailWrite (q : Fin 16) (i : BitVec 16) (s : State) : Host.Outcome State Fault Refusal :=
  s.run fun d => if i.toNat < d.ring q then d.set .DMA_Q_TAIL_INDEX q i.toNat else d.cfgIgnored q

/-- DESCRIPTOR_FETCH (R485, R487, R490). -/
def execDescriptorFetch (q : Fin 16) (x : DmaDescriptor) (s : State) : Host.Outcome State Fault Refusal :=
  s.run fun d =>
    if d.dq q = dqRUNNING ∧ !d.on .DMA_Q_STATUS_PAUSED q ∧ d.fetchIndex q ≠ d.get .DMA_Q_TAIL_INDEX q then
      let y : Desc := ⟨q, x.host.toNat, x.dev.toNat, x.len.toNat, x.flags.toNat, x.tag.toNat, d.checkDesc q x, 0, 0,
        if 8 ≤ q.val ∧ !bitAt x.flags.toNat 0 then x.len.toNat else 0, d.clk⟩
      (Dev.awaitMem q { d with descs := d.descs ++ [y] }).askAll
    else d

/-- READ_COMPLETION (R488, R491): `old` says that the request was issued before a reset of the queue. -/
def execReadCompletion (q : Fin 16) (old last : Bool) (r : HostCompletion) (data : List Byte) (s : State) :
    Host.Outcome State Fault Refusal :=
  s.run fun d =>
    if old then (if last then d.lateRead q else d)
    else if d.get .X_DMA_OUT q = 0 then d
    else d.readDone q last r data

/-- COMPLETION_TIMEOUT (R487, R491). -/
def execCompletionTimeout (q : Fin 16) (old : Bool) (s : State) : Host.Outcome State Fault Refusal :=
  s.run fun d =>
    if old then d.lateRead q
    else if d.get .X_DMA_OUT q = 0 then d
    else
      let d := d.set .X_DMA_OUT q (d.get .X_DMA_OUT q - 1)
      match (d.fetched q).head? with
      | some x =>
        if x.toHost ∨ !(x.status == 0 || x.status == 7) then d
        else { d with descs := replaceDesc x { x with status := 6 } d.descs }
      | none => d

/-- PCIE_HOT_RESET (R493): a hot reset, or the link going down. -/
def execPcieHotReset (linkDown : Bool) (s : State) : Host.Outcome State Fault Refusal :=
  s.run fun d =>
    let d :=
      if linkDown then
        (d.set .DMA_LINK_EVENTS_LINK_DOWN 0 1).setAll [.DMA_LINK_STATUS_SPEED, .DMA_LINK_STATUS_WIDTH,
          .DMA_LINK_STATUS_USABLE] 0 0
      else d.set .DMA_LINK_EVENTS_HOT_RESET 0 1
    d.functionReset

/-- FLR (R493). -/
def execFlr (s : State) : Host.Outcome State Fault Refusal :=
  s.run fun d => (d.set .DMA_LINK_EVENTS_FLR 0 1).functionReset

/-- LINK_UP (R472, R494): the link reaches L0 at rate code `speed` + 1 and width 2^`width`. A change is judged against the
rate and width last in force (log entry 15). -/
def execLinkUp (speed : Fin 5) (width : Fin 4) (s : State) : Host.Outcome State Fault Refusal :=
  s.run fun d =>
    let sp := speed.val + 1
    let w := 2 ^ width.val
    let d := d.set .DMA_LINK_EVENTS_LINK_UP 0 1
    let d := if d.get .X_PCIE_SPEED 0 ≠ 0 ∧ d.get .X_PCIE_SPEED 0 ≠ sp then d.set .DMA_LINK_EVENTS_SPEED_CHANGE 0 1 else d
    let d := if d.get .X_PCIE_WIDTH 0 ≠ 0 ∧ d.get .X_PCIE_WIDTH 0 ≠ w then d.set .DMA_LINK_EVENTS_WIDTH_CHANGE 0 1 else d
    let d := (d.set .X_PCIE_SPEED 0 sp).set .X_PCIE_WIDTH 0 w
    let d := (d.set .DMA_LINK_STATUS_SPEED 0 sp).set .DMA_LINK_STATUS_WIDTH 0 w
    ((d.set .DMA_LINK_STATUS_USABLE 0 (min 255 (usable sp w))).set .DMA_LINK_STATUS_L1 0 0).syncLink

/-- D3HOT_ENTRY (R482). -/
def execD3hotEntry (pmeEn : Bool) (s : State) : Host.Outcome State Fault Refusal :=
  s.run fun d =>
    let d := (d.set .DMA_LINK_STATUS_DSTATE 0 3).set .X_PCIE_PME_EN 0 (b2n pmeEn)
    (d.set .DMA_LINK_EVENTS_D3HOT 0 1).syncLink.syncPausedAll

/-- D0_RETURN (R482). -/
def execD0Return (s : State) : Host.Outcome State Fault Refusal :=
  s.run fun d => ((d.set .DMA_LINK_STATUS_DSTATE 0 0).syncPausedAll.flushPba).askAll

/-- BME_CHANGE (R481, R492). -/
def execBmeChange (on : Bool) (s : State) : Host.Outcome State Fault Refusal :=
  s.run fun d =>
    let d := (d.set .DMA_LINK_STATUS_BME 0 (b2n on)).syncPausedAll
    if on then d.flushPba.askAll else d

/-- VECTOR_UNMASK (R481): a vector, or with none the function. -/
def execVectorUnmask (v : Option (Fin 256)) (s : State) : Host.Outcome State Fault Refusal :=
  s.run fun d =>
    (match v with
      | some v => d.set .MSIX_CTRL_MASK v 0
      | none => d.set .X_PCIE_FUNC_MASK 0 0).flushPba

/-- L1_ENTRY (R465, R483): every host target becomes idle, and every held message is released; the first that is sent brings the
link back to L0. -/
def execL1Entry (s : State) : Host.Outcome State Fault Refusal :=
  s.run fun d => Dev.each 64 (fun x d => d.release x) (d.set .DMA_LINK_STATUS_L1 0 1)

/-- L1_EXIT (R465). -/
def execL1Exit (s : State) : Host.Outcome State Fault Refusal :=
  s.run fun d => d.set .DMA_LINK_STATUS_L1 0 0

end Sys2Proof.Machine
end

