-- ==== Sys2Proof/Machine/DmaMove.lean ====
section
/-! DEFINITION. Data from GDDR7 to the host (R317, R488 to R490): the blocks of capture streams, the descriptors of general queues,
and the arbitration of both in units of 4 KiB. -/

namespace Sys2Proof.Machine

open Sys2Proof

/-- R489: the descriptor that takes the next block of a capture queue. -/
def Dev.openDesc (d : Dev) (q : Nat) : Option Desc :=
  match d.descs.find? fun x => decide (x.queue = q) with
  | some x => if x.status = 0 ∧ x.moved + 4096 ≤ x.len then some x else none
  | none => none

/-- R489: the queue holds no descriptor for a ready block. -/
def Dev.starved (d : Dev) (q : Nat) : Dev :=
  if d.on .X_DMA_STARVED q || (d.descs.any fun x => x.queue == q) then d
  else ((d.set .X_DMA_STARVED q 1).set .DMA_Q_EVENTS_STARVED q 1).syncQueue q

/-- `n` more bytes of a descriptor have moved. -/
def moveDesc (x : Desc) (n : Nat) (l : List Desc) : List Desc :=
  match l with
  | [] => []
  | y :: l => if y = x then { y with moved := y.moved + n } :: l else y :: moveDesc x n l

/-- R489: the oldest block of tap `t` goes to the host with descriptor `x` of capture queue `q`. -/
def Dev.blockToHost (d : Dev) (t q : Nat) (bad : Bool) (x : Desc) : Dev :=
  let bs := d.drainBytes t bad
  let d := (d.memRead 1 (d.blockAddr t (d.get .CAP_T_READ_PTR_BLOCK t)) 4096 bad).hostData (x.host + x.moved) bs false
  let d := { d with descs := moveDesc x 4096 d.descs }.addWrap .DMA_Q_BYTES_COUNT q 4096
  (d.blockLeft t).checkDrained t

/-- The queue issues requests. -/
def Dev.queueGoes (d : Dev) (q : Nat) : Bool := d.dqLive q && !d.on .DMA_Q_STATUS_PAUSED q

/-- Tap `t` streams to the host and holds a block. -/
def Dev.blockWaits (d : Dev) (t : Nat) : Bool :=
  d.tapMode t == 2 && (d.tapState t == ctSTREAMING || d.tapState t == ctDRAINING) && decide (0 < d.get .X_CAP_QUEUED t)

/-- R490: the tap whose block capture queue `q`, RUNNING, has ready for its descriptor. -/
def Dev.captureReady (d : Dev) (q : Nat) : Option Nat :=
  if d.dq q = dqRUNNING ∧ !d.on .DMA_Q_STATUS_PAUSED q ∧ (d.openDesc q).isSome then
    (List.range 8).find? fun t => d.blockWaits t && d.lget .CAP_T_DRAIN_QUEUE t == q
  else none

/-- R488: the descriptor of general queue `q` that moves data to the host. -/
def Dev.generalReady (d : Dev) (q : Nat) : Option Desc :=
  match (d.fetched q).head? with
  | some x =>
    if d.queueGoes q ∧ x.toHost ∧ (x.status = 0 ∨ x.status = 7) ∧ x.moved < x.len then some x else none
  | none => none

/-- R490: general queue `q` is urgent. -/
def Dev.generalUrgent (d : Dev) (q : Nat) : Bool :=
  (d.generalReady q).any fun x => decide (x.since + max 1 (d.get .DMA_ARB_URGENT 0) * us ≤ d.clk)

/-- R490: round-robin: the first of the queues `lo` to `lo + 7` after the one that had the latest turn for which `p` holds. -/
def Dev.nextTurn (d : Dev) (kind lo : Nat) (p : Nat → Bool) : Option Nat :=
  ((List.range 8).map fun i => lo + (d.get .X_DMA_TURN kind + 1 + i) % 8).find? p

/-- R488, R490: general queue `q` moves one unit of its descriptor `x`, and its age restarts. `bad` says that the read of the
descriptor's last unit stays failed (R440): the data goes to the host poisoned. -/
def Dev.moveUnit (d : Dev) (q : Nat) (bad : Bool) (x : Desc) : Dev :=
  let n := min 4096 (x.len - x.moved)
  let bad := bad && x.moved + n == x.len
  let a := x.dev + x.moved
  let d := (d.hostData (x.host + x.moved) (d.bytesNow a n) bad).memRead 2 a n bad
  let y := { x with moved := x.moved + n, status := if bad then 7 else x.status, since := d.clk }
  { d with descs := replaceDesc x y d.descs }.addWrap .DMA_Q_BYTES_COUNT q n

/-- R490: one unit goes to the host: of an urgent general queue, else of a capture queue, else of a general queue. `badQ` and `badT`
are the queue and the tap whose reads stay failed. -/
def Dev.unitTurn (d : Dev) (badQ badT : Option Nat) : Dev :=
  let general := fun (q : Nat) =>
    match d.generalReady q with
    | some x => (d.set .X_DMA_TURN 1 (q - 8)).moveUnit q (badQ == some q) x
    | none => d
  match d.nextTurn 1 8 d.generalUrgent with
  | some q => general q
  | none =>
    match d.nextTurn 0 0 fun q => (d.captureReady q).isSome with
    | some q =>
      match d.captureReady q, d.openDesc q with
      | some t, some x => (d.set .X_DMA_TURN 0 q).blockToHost t q (badT == some t) x
      | _, _ => d
    | none =>
      match d.nextTurn 1 8 fun q => (d.generalReady q).isSome with
      | some q => general q
      | none => d

/-- Units go to the host while `p` holds, at most `fuel`. -/
def Dev.unitTurns (badQ badT : Option Nat) (p : Dev → Bool) : Nat → Dev → Dev
  | 0, d => d
  | fuel + 1, d => if p d then Dev.unitTurns badQ badT p fuel (d.unitTurn badQ badT) else d

/-- The most units that can go before one command ends: 8 descriptors of 16 MiB and the blocks of 8 buffers. -/
def maxUnits : Nat := 2 ^ 26

/-- The oldest descriptor of a queue finishes, if it can: data to the host goes first, with the units that its turn waits for. -/
def Dev.completeDesc (d : Dev) (q : Nat) (bad : Bool) : Dev :=
  if !d.queueGoes q then d
  else
    let d :=
      if q < 8 then d
      else Dev.unitTurns (if bad then some q else none) none (fun d => (d.generalReady q).isSome) maxUnits d
    match (d.fetched q).head? with
    | none => d
    | some x =>
      if errorStatus x.status || x.status == 9 then d.finishDesc q x
      else if x.moved = x.len ∧ d.dataLanded x then d.finishDesc q x
      else d

/-- R489, R490: mode 2: the oldest block of tap `t` goes to the host, after the units that come before it. -/
def Dev.drainDma (d : Dev) (t : Nat) (bad : Bool) : Dev :=
  let q := d.lget .CAP_T_DRAIN_QUEUE t
  if d.dq q ≠ dqRUNNING ∨ d.on .DMA_Q_STATUS_PAUSED q then d
  else if (d.openDesc q).isNone then d.starved q
  else
    let k := d.get .X_CAP_QUEUED t
    Dev.unitTurns none (if bad then some t else none)
      (fun d => decide (d.get .X_CAP_QUEUED t = k) && d.captureReady q == some t) maxUnits d

/-! ## Commands -/

/-- BLOCK_DRAIN (R317, R489). `bad` says that the read of the block stays failed (R440). -/
def execBlockDrain (t : Fin 8) (bad : Bool) (s : State) : Host.Outcome State Fault Refusal :=
  s.run fun d =>
    if (d.tapState t = ctSTREAMING ∨ d.tapState t = ctDRAINING) ∧ 0 < d.get .X_CAP_QUEUED t then
      if d.tapMode t = 2 then d.drainDma t bad else d.drainFrame t bad
    else d

/-- DESCRIPTOR_COMPLETE (R487). `bad` says that a GDDR7 read of the descriptor stays failed (R440). -/
def execDescriptorComplete (q : Fin 16) (bad : Bool) (s : State) : Host.Outcome State Fault Refusal :=
  s.run fun d => d.completeDesc q bad

end Sys2Proof.Machine
end

