-- ==== Sys2Proof/Machine/Memory.lean ====
section
/-! DEFINITION. GDDR7 memory (R420 to R443): training, retraining, arbitration, errors and the BAR2 window. -/

namespace Sys2Proof.Machine

open Sys2Proof

/-! ## States (R434 to R438) -/

/-- R438, R568: memory domain `m` is ON and its devices are out of self refresh. -/
def Dev.memAwake (d : Dev) (m : Nat) : Bool := d.domOn (domMem m) && !d.on .MEM_C_STATUS_SELF_REFRESH (2 * m)

/-- Channels trained and in service: those of a domain that is ON (R438). -/
def Dev.memSync (d : Dev) : Dev :=
  let ready := ((List.range 32).map fun c =>
    if d.memTrained && bitAt (d.get .MEM_C_STATUS_TRAINED (c / 4)) (c % 4) && d.memAwake (c / 8) then 2 ^ c else 0).sum
  let d := d.set .MEM_CH_READY_CHANNELS 0 ready
  if d.memTrained then
    d.set .MEM_STATUS_STATE 0 (if (List.range 4).any d.memAwake then meREADY else meREFRESH)
  else d

/-- R438: memory domain `m` places its two devices in self refresh, or takes them out of it. -/
def Dev.memRefresh (d : Dev) (m : Nat) (on : Bool) : Dev :=
  (d.set .MEM_C_STATUS_SELF_REFRESH (2 * m) (b2n on)).set .MEM_C_STATUS_SELF_REFRESH (2 * m + 1) (b2n on)

/-- R421, R436, R437: GDDR7 is lost. Regions are absent, active taps end with reason 7, waiting BAR2 requests are
violations of type 7, other requests are gone, and general descriptors fail with STATUS 8. -/
def Dev.memoryLost (d : Dev) : Dev :=
  let rs := d.mreqs.filter fun r => r.bar2
  let d := { d with mreqs := [] }
  let d := Dev.forList rs (fun r d => d.violate r.off 1 r.write .pcie r.reqId 7 r.time) d
  let d := d.dropRegions.endTaps (fun _ => true) 7
  Dev.memSync { d with descs := d.descs.map fun x : Desc =>
      if 8 ≤ x.queue ∧ (x.status = 0 ∨ x.status = 7) then { x with status := 8 } else x }

/-- R76: the slot that a boot has kept waiting is validated. -/
def Dev.bootGo (d : Dev) : Dev :=
  let d := (d.set .X_PLAN_SLOT 0 (d.get .X_BOOT_SLOT 0 - 1)).set .X_PLAN_ACT 0 15
  (d.setAll [.X_BOOT_SLOT, .X_PLAN_PREV] 0 0).set .PLAN_STATUS_STATE 0 2

/-- R553, R558: training has ended: the plan of a boot that waited for it is validated, and 2 µs run to the acceptance of
the plan of area 0. -/
def Dev.planMem (d : Dev) : Dev :=
  if d.memState = meTRAINING then d
  else if d.get .X_BOOT_SLOT 0 ≠ 0 ∧ d.get .PLAN_STATUS_STATE 0 = 0 then d.bootGo
  else if d.get .X_PLAN_ACT 0 = 14 then d.set .X_PLAN_CLK 0 d.clk
  else d

/-- R436: the memory enters FAILED. -/
def Dev.memFail (d : Dev) : Dev :=
  let d := ((d.set .MEM_STATUS_STATE 0 meFAILED).setEach .X_MEM_RT (List.range 32) 0).memoryLost
  ((d.set .MEM_EVENTS_FAILED 0 1).raise 26).planMem

/-- Full training of every channel begins. -/
def Dev.memTrain (d : Dev) : Dev :=
  let d := (d.set .MEM_STATUS_STATE 0 meTRAINING).setEach .X_MEM_TRY (List.range 32) 0
  (d.setEach .MEM_C_STATUS_TRAINED (List.range 8) 0).memSync

/-- R435: channel `c` begins a full retrain. -/
def Dev.startRetrain (c : Nat) (d : Dev) : Dev :=
  if d.memState = meREADY ∧ bitAt (d.get .MEM_CH_READY_CHANNELS 0) c ∧ !d.on .X_MEM_RT c then
    (((d.set .X_MEM_RT c 1).set .X_MEM_RT_CLK c d.clk).set .X_MEM_TRY c 0).raise 25
  else d

/-- R435: what a tick does: a RETRAIN written at least 2 µs ago starts. -/
def Dev.memTick (d : Dev) : Dev :=
  let d := ((d.set .X_MEM_ERR_TICK 0 0).setEach .X_MEM_SHARE (List.range 5) 0).set .X_MEM_SHARE_CLK 0 d.clk
  Dev.each 8 (fun m d =>
    if d.askDue .X_MEM_RT_REQ .X_MEM_RT_REQ_CLK m then
      Dev.each 4 (fun i d => Dev.startRetrain (4 * m + i) d) (d.askTake .X_MEM_RT_REQ .X_MEM_RT_REQ_CLK .X_MEM_RT_REQ_LAST m)
    else d) d

/-- R435: the channel takes no requests: drift tracking or a retrain. -/
def Dev.channelPaused (d : Dev) (c : Nat) : Bool :=
  d.on .X_MEM_RT c ||
    (d.get .X_MEM_TRACK_CLK c != 0 && decide (d.clk < d.get .X_MEM_TRACK_CLK c + 2 * us))

/-! ## Arbitration (R427, R430, R431) -/

/-- The requests of channel `c` that may be issued: each the first that waits for its unit (R427), and no write to a
controller that has stopped writing (R423). -/
def issuable (c : Nat) (stopped : Bool) : List Nat → List MemReq → List MemReq
  | _, [] => []
  | seen, r :: l =>
    if channelOf r.addr ≠ c then issuable c stopped seen l
    else if seen.contains (r.addr / 256) then issuable c stopped seen l
    else if stopped && r.write then issuable c stopped (r.addr / 256 :: seen) l
    else r :: issuable c stopped (r.addr / 256 :: seen) l

/-- The head of each class's queue of channel `c`. -/
def Dev.heads (d : Dev) (c : Nat) : List MemReq :=
  let l := issuable c (d.writeStopped c) [] d.mreqs
  (List.range 5).filterMap fun k => l.find? fun r => r.cls == k

/-- Replace a request. -/
def replaceReq (x y : MemReq) : List MemReq → List MemReq
  | [] => []
  | z :: l => if z = x then y :: l else z :: replaceReq x y l
/-- Remove a request. -/
def removeReq (x : MemReq) : List MemReq → List MemReq
  | [] => []
  | z :: l => if z = x then l else z :: removeReq x l

/-- The counter of a class in MEM_C_URGENT. -/
def urgentF : Nat → F
  | 2 => .MEM_C_URGENT_CLASS2
  | 3 => .MEM_C_URGENT_CLASS3
  | 4 => .MEM_C_URGENT_CLASS4
  | _ => .MEM_C_URGENT_CLASS0

/-- The oldest request of the queue of class `k` of channel `c`. -/
def Dev.oldest (d : Dev) (c k : Nat) : Option MemReq :=
  d.mreqs.find? fun r => decide (channelOf r.addr = c ∧ r.cls = k)
/-- R431: the age of a queue, in steps of 64 ns. -/
def Dev.queueAge (d : Dev) (c k : Nat) : Nat :=
  match d.oldest c k with
  | some r => (d.clk - r.arrived) / 65536
  | none => 0
/-- The queue is urgent. -/
def Dev.queueUrgent (d : Dev) (c k : Nat) : Bool := (d.oldest c k).any fun r => r.urgent

/-- R431: queues whose age has reached URGENT become urgent. -/
def Dev.markUrgent (d : Dev) (c : Nat) : Dev :=
  Dev.each 5 (fun k d =>
    match d.oldest c k with
    | none => d
    | some r =>
      if !r.urgent && decide (max 1 (d.get .MEM_ARB_URGENT 0) ≤ d.queueAge c k) then
        { d with mreqs := replaceReq r { r with urgent := true } d.mreqs }.addSat (urgentF k) (c / 4) 1
      else d) d

/-- R428: the share of a class, GB/s. The reads of class 1 lie within that of class 0. -/
def classShare (k : Nat) : Nat := [960, 960, 60, 16, 4].getD k 0

/-- R429: a class has exceeded its share since the latest tick (DESIGN CHOICE of the time over which it is measured, log
entry 45). -/
def Dev.overShare (d : Dev) (k : Nat) : Bool :=
  let used := if k ≤ 1 then d.get .X_MEM_SHARE 0 + d.get .X_MEM_SHARE 1 else d.get .X_MEM_SHARE k
  decide (classShare k * (d.clk - d.get .X_MEM_SHARE_CLK 0) < 1024 * used)

/-- The rank of a class. -/
def Dev.rank (d : Dev) : Nat → Nat
  | 0 => d.get .MEM_ARB_RANK0 0
  | 1 => d.get .MEM_ARB_RANK1 0
  | 2 => d.get .MEM_ARB_RANK2 0
  | 3 => d.get .MEM_ARB_RANK3 0
  | _ => d.get .MEM_ARB_RANK4 0

/-- R429 to R431: at channel `c` class `j` is served before class `k`, where `j` < `k`: an urgent queue first, the oldest of
them; then a class within its share before one that exceeds its own; then by rank. -/
def Dev.outranks (d : Dev) (c j k : Nat) : Bool :=
  if d.queueUrgent c j || d.queueUrgent c k then
    d.queueUrgent c j && (!d.queueUrgent c k || decide (d.queueAge c k ≤ d.queueAge c j))
  else if d.overShare j != d.overShare k then d.overShare k
  else decide (d.rank j ≤ d.rank k)

/-- The request that channel `c` serves next. -/
def Dev.nextReq (d : Dev) (c : Nat) : Option MemReq :=
  (d.heads c).foldl (fun b r => match b with
    | none => some r
    | some x => if d.outranks c x.cls r.cls then some x else some r) none

/-- R440, R442: an access stays failed. -/
def Dev.uncorr (d : Dev) (m : Nat) : Dev :=
  let d := (d.addSat .MEM_C_UNCORR_COUNT m 1).set .MEM_EVENTS_UNCORR 0 1
  if d.on .X_MEM_ERR_TICK 0 then d else (d.set .X_MEM_ERR_TICK 0 1).raise 24

/-- R440: what becomes of a request that has failed: a capture write is lost, a read of the BAR2 window completes poisoned, and the
firmware asks once again for an access of a postmaster or the ledger. What was to be written is undefined. -/
def Dev.failReq (d : Dev) (r : MemReq) (bytes : List Byte) : Dev :=
  let d := if r.write then d.loseCells r.addr (r.addr + r.len) else d
  if r.write && r.cls == 0 then d.loseWritten r.addr
  else if r.bar2 && !r.write then d.send (.poisoned (ofLE bytes))
  else if 3 ≤ r.cls && !r.again then
    { d with mreqs := d.mreqs ++ [{ r with arrived := d.clk, urgent := false, again := true }] }
  else d

/-- R430, R440: channel `c` serves a request with a number of CRC retries. A read whose result is used already fails or not as
that result says. -/
def Dev.serveReq (d : Dev) (c retries : Nat) (fail : Bool) (r : MemReq) : Dev :=
  let used := !r.write && !r.bar2 && decide (r.cls ≤ 2)
  let fail := if used then r.bad else fail
  let retries := if fail then 3 else retries
  let d := { d with mreqs := removeReq r d.mreqs }.addWrap .X_MEM_SHARE r.cls r.len
  let d := (d.addSat .MEM_C_CRC_RETRY_COUNT (c / 4) retries).addSat .X_MEM_RETRIES c retries
  let d := d.addWrap .MEM_C_BYTES_COUNT (c / 4) r.len
  let bytes := (List.range r.len).map fun i => d.cell (r.addr + i)
  if fail then (d.uncorr (c / 4)).failReq r bytes
  else if r.write then d.putCells r.addr r.data
  else if r.bar2 then d.send (.readData (ofLE bytes))
  else d

/-! ## The BAR2 window (R425, R426, R439, R478, R479) -/

/-- R478: how a domain takes an access: 0 at once, 1 held for a wake, else the type of violation. -/
def Dev.gate (d : Dev) (k : Nat) : Nat :=
  if d.dom k = pwON then 0
  else if d.dom k = pwOFF ∨ d.dom k = pwDARK then 4
  else if d.dom k = pwFAILED then 5
  else 1

/-- A BAR2 access is served, held or ended. The second component says that it is held. -/
def Dev.bar2Try (d : Dev) (off a : Nat) (write : Bool) (len : Nat) (bs : List Byte) (reqId clk time : Nat) : Dev × Bool :=
  let units := unitsOf (len + 1) a len
  let gates := (memDomainsOf a len).map fun m => (m, d.gate (domMem m))
  let bad := fun (t : Nat) (d : Dev) => (d.violate off 1 write .pcie reqId t time, false)
  if d.memState = meFAILED then bad 7 d
  else if d.memBytes < a + len ∨ d.memBytes = 0 then bad 2 d
  else if !d.memTrained then bad 7 d
  else if units.any fun u => d.hostAccess u.1 write == 2 then bad 3 d
  else if gates.any fun g => g.2 == 5 then bad 5 d
  else
    let d := Dev.forList gates (fun g d => if g.2 = 0 then d else d.wake (domMem g.1) 3) d
    if gates.any fun g => g.2 == 4 then bad 4 d
    else if gates.any fun g => g.2 == 1 then (d, true)
    else (d.memBar2 off a len reqId clk time write bs, false)

/-- A BAR2 request of the stream is held: a later one waits behind it (R477). -/
def Held.isBar2 (h : Held) : Bool :=
  match h.kind with
  | .bar0 _ => false
  | .bar2 .. => true

/-- R557, R558: the function answers memory requests: the hub core has power, and the firmware runs or could not start. -/
def Dev.pcieUp (d : Dev) : Bool :=
  !d.on .X_SYS_OFF 0 && (d.on .X_SYS_FW 0 || d.get .SYS_BOOT_STATUS_STAGE 0 == 5)

/-- BAR2_ACCESS: a request arrives. -/
def Dev.bar2Arrive (d : Dev) (off : Nat) (write : Bool) (len : Nat) (bs : List Byte) (reqId : Nat) : Dev :=
  let a := d.get .MEM_BAR2_BASE_BASE 0 * 2 ^ 26 + off
  let h : Held := ⟨.bar2 off a write len bs, .pcie, reqId, d.clk, d.now⟩
  if d.get .DMA_LINK_STATUS_DSTATE 0 = 3 || !d.pcieUp then (if write then d else d.send .unsupported)
  else if d.held.any Held.isBar2 then { d with held := d.held ++ [h] }.send .held
  else
    let p := d.bar2Try off a write len bs reqId d.clk d.now
    if p.2 then { p.1 with held := p.1.held ++ [h] }.send .held else p.1

/-- The requests of the BAR2 stream that a wake releases are served in order, at most `fuel`. -/
def Dev.serveBar2 : Nat → Dev → Dev
  | 0, d => d
  | fuel + 1, d =>
    match d.held.find? Held.isBar2 with
    | some h =>
      match h.kind with
      | .bar2 off a write len bs =>
        let p := d.bar2Try off a write len bs h.reqId h.clk h.time
        if p.2 then p.1 else Dev.serveBar2 fuel { p.1 with held := p.1.held.erase h }
      | .bar0 _ => d
    | none => d

/-! ## Commands -/

/-- MEM_TRAINING_DONE (R421, R437): every channel has trained, and the devices have density code `density` + 1. -/
def execMemTrainingDone (density : Fin 3) (s : State) : Host.Outcome State Fault Refusal :=
  s.run fun d =>
    if d.memState = meTRAINING then
      let d := (d.set .MEM_CFG_DENSITY 0 (density.val + 1)).set .MEM_CFG_CAPACITY 0 (256 + 128 * density.val)
      let d := ((d.setEach .MEM_C_STATUS_TRAINED (List.range 8) 15).setEach .X_MEM_TRY (List.range 32) 0).set .X_SYS_MEM 0 1
      ((d.set .MEM_STATUS_STATE 0 meREADY).memSync.formRegions).planMem
    else d

/-- MEM_TRAINING_RETRY (R436): the training of channel `c` has failed. -/
def execMemTrainingRetry (c : Fin 32) (s : State) : Host.Outcome State Fault Refusal :=
  s.run fun d =>
    if d.memState = meTRAINING then
      let n := d.get .X_MEM_TRY c
      d.onTime (if n = 0 then d.clk else d.get .X_MEM_TRY_CLK c + ms) fun d =>
        if n < 3 then (d.set .X_MEM_TRY c (n + 1)).set .X_MEM_TRY_CLK c d.clk else d.memFail
    else d

/-- DRIFT_TRACKING (R435, R441): channel `c` runs its pass; `drift` says that it exceeds 1/8 UI, and `ecc` is the increase
of the device's on-die ECC error count. No other channel of the device is in its pass then. -/
def execDriftTracking (c : Fin 32) (drift : Bool) (ecc : Word) (s : State) : Host.Outcome State Fault Refusal :=
  s.run fun d =>
    if d.memState = meREADY ∧ bitAt (d.get .MEM_CH_READY_CHANNELS 0) c ∧ !d.on .X_MEM_RT c then
      let others := ((List.range 4).map fun i => if 4 * (c.val / 4) + i = c.val then 0 else
        (if d.get .X_MEM_TRACK_CLK (4 * (c / 4) + i) = 0 then 0 else d.get .X_MEM_TRACK_CLK (4 * (c / 4) + i) + 2 * us)).foldl max 0
      d.onTime (max (d.get .X_MEM_TRACK_CLK c + ms) others) fun d =>
        let many := decide (16 ≤ d.get .X_MEM_RETRIES c)
        let d := (d.set .X_MEM_TRACK_CLK c d.clk).addSat .MEM_C_ODECC_COUNT (c / 4) ecc.toNat
        let d := d.set .X_MEM_RETRIES c 0
        if drift || many then Dev.startRetrain c d else d
    else d

/-- MEM_RETRAIN (R435): MEM_CMD.RETRAIN names controller `m`. -/
def execMemRetrain (m : Fin 8) (s : State) : Host.Outcome State Fault Refusal :=
  s.run fun d => d.askWrite .X_MEM_RT_REQ .X_MEM_RT_REQ_CLK .X_MEM_RT_REQ_LAST m

/-- MEM_RETRAIN_DONE (R435, R437): a retrain of channel `c` ends; one that fails is retried 1 ms later, three times. -/
def execMemRetrainDone (c : Fin 32) (ok : Bool) (s : State) : Host.Outcome State Fault Refusal :=
  s.run fun d =>
    if d.on .X_MEM_RT c then
      d.onTime (d.get .X_MEM_RT_CLK c + 500 * us) fun d =>
        if ok then
          let d := (d.set .X_MEM_RT c 0).addSat .MEM_C_RETRAINS_COUNT (c / 4) 1
          (d.set .MEM_EVENTS_RETRAINED 0 1).raise 25
        else if d.get .X_MEM_TRY c < 3 then
          (d.set .X_MEM_TRY c (d.get .X_MEM_TRY c + 1)).set .X_MEM_RT_CLK c (d.clk + ms)
        else (d.raise 25).memFail
    else d

/-- MEM_REINIT (R436). -/
def execMemReinit (s : State) : Host.Outcome State Fault Refusal :=
  s.run fun d => if d.memState = meFAILED then d.memTrain else d

/-- MEM_CLEAR_STATS (R443). -/
def execMemClearStats (s : State) : Host.Outcome State Fault Refusal :=
  s.run fun d => Dev.each 8 (fun m d => d.setAll [.MEM_C_CRC_RETRY_COUNT, .MEM_C_UNCORR_COUNT, .MEM_C_RETRAINS_COUNT,
    .MEM_C_ODECC_COUNT, .MEM_C_URGENT_CLASS0, .MEM_C_URGENT_CLASS2, .MEM_C_URGENT_CLASS3, .MEM_C_URGENT_CLASS4,
    .MEM_C_BYTES_COUNT] m 0) (d.set .MEM_LOST_LEDGER 0 0)

/-- MEM_TEMP_READ (R420, R422, R423): the read of every second: the device of controller `m` reports `t` °C. -/
def execMemTempRead (m : Fin 8) (t : Byte) (s : State) : Host.Outcome State Fault Refusal :=
  s.run fun d => d.onTime (if d.get .X_MEM_TEMP_CLK m = 0 then d.clk else d.get .X_MEM_TEMP_CLK m - 1 + 1000 * ms) fun d =>
    let d := d.set .X_MEM_TEMP_CLK m (d.clk + 1)
    let hot := decide (85 < t.toNat)
    let d := d.set .MEM_C_STATUS_TEMP m t.toNat
    let d := if hot && !d.on .X_MEM_HOT m then (d.set .MEM_EVENTS_HOT 0 1).raise 27 else d
    let d := d.set .X_MEM_HOT m (b2n hot)
    if 105 < t.toNat ∧ !d.on .MEM_C_STATUS_WRITE_STOP m then
      ((d.set .MEM_C_STATUS_WRITE_STOP m 1).set .MEM_EVENTS_HOT_STOP 0 1).raise 27
    else if t.toNat ≤ 100 ∧ d.on .MEM_C_STATUS_WRITE_STOP m then (d.set .MEM_C_STATUS_WRITE_STOP m 0).raise 27
    else d

/-- MEM_REQUEST_ISSUE (R430, R431, R440): channel `c` serves its next request after `retries` CRC retries; `fail` says that
the third retry failed too. -/
def execMemRequestIssue (c : Fin 32) (retries : Fin 4) (fail : Bool) (s : State) : Host.Outcome State Fault Refusal :=
  s.run fun d =>
    if d.memState = meREADY ∧ bitAt (d.get .MEM_CH_READY_CHANNELS 0) c ∧ !d.channelPaused c then
      let d := d.markUrgent c
      match d.nextReq c with
      | some r => d.serveReq c retries (fail && retries.val == 3) r
      | none => d
    else d

/-- VDDQ_LOSS (R437). -/
def execVddqLoss (s : State) : Host.Outcome State Fault Refusal :=
  s.run fun d =>
    let d := ((d.setAll [.MEM_STATUS_STATE, .MEM_CFG_CAPACITY, .MEM_CFG_DENSITY] 0 0).setEach .X_MEM_RT (List.range 32) 0)
    ((d.setEach .MEM_C_STATUS_TRAINED (List.range 8) 0).memoryLost).loseCells 0 (2 ^ 35)

/-- BAR2_BASE_WRITE (R426). -/
def execBar2BaseWrite (base : BitVec 9) (s : State) : Host.Outcome State Fault Refusal :=
  s.run fun d => d.set .MEM_BAR2_BASE_BASE 0 base.toNat

/-- BAR2_ACCESS (R426, R478): a request at offset `off`; a read asks for `len` bytes, a write carries `bytes`. -/
def execBar2Access (off : Word) (write : Bool) (len : BitVec 13) (bytes : List Byte) (reqId : BitVec 16) (s : State) :
    Host.Outcome State Fault Refusal :=
  s.run fun d => d.bar2Arrive off.toNat write (if write then bytes.length else len.toNat) bytes reqId.toNat

end Sys2Proof.Machine
end

