-- ==== Sys2Proof/Machine/Posting.lean ====
section
/-! DEFINITION. What a posting covers, the domains that a staged field waits for, and staged values going live (R35, R39,
R40). -/

namespace Sys2Proof.Machine

open Sys2Proof

/-- The instance of its block that a key lies in. -/
def Key.inst (k : Key) : Nat := k.i / k.f.arr

/-- A staged field. -/
def Key.staged (k : Key) : Bool := k.f.acc == .rws

/-- A lane lies in the scope of a posting, in its receive block or its transmit block. -/
def Posting.lane (p : Posting) (n : Nat) (block : Nat) : Bool :=
  match p.scope with
  | 0 => true
  | 1 => tileOf n == p.index
  | 2 => engineOf n == p.index
  | 3 => n == p.index && block != 1
  | 4 => n == p.index && block != 0
  | 5 => n == p.index
  | _ => false

/-- The scope covers engine `e`, or tile `t`. -/
def Posting.engine (p : Posting) (e : Nat) : Bool :=
  p.scope == 0 || (p.scope == 1 && e / 2 == p.index) || (p.scope == 2 && e == p.index)
def Posting.tile (p : Posting) (t : Nat) : Bool := p.scope == 0 || (p.scope == 1 && t == p.index)

/-- R35, R298, R399, R466, R526: whether a posting covers a staged field. -/
def Dev.covers (d : Dev) (p : Posting) (k : Key) : Bool :=
  k.staged &&
  let b := k.inst
  match k.f.blk with
  | .lrx => p.lane b 0
  | .ltx => p.lane b 1
  | .spr => p.engine b
  | .pool | .hk => p.tile b
  | .poolG => p.tile (b / 16)
  | .hkC => p.tile (b / 48)
  | .hostL => p.tile (b / 32) ||
      match d.portOf b with
      | some n => p.lane n 2
      | none => false
  | .hostP => p.lane b 2
  | .courL | .courMap => p.engine (engineOf b)
  | .trim =>
    match calClass b with
    | 0 => p.lane b 0
    | 1 => p.lane (b - 64) 1
    | 2 => p.tile (b - 128)
    | 3 => p.tile (b - 132)
    | _ => p.scope == 0 || p.scope == 6
  | .hub => p.scope == 0 || p.scope == 6 || (k.f == .PWR_T_LEVEL_REQ && p.tile k.i)
  | .phT => p.scope == 0 || p.scope == 6
  | _ => false

/-- R39: the domain of the block that a staged field sets (log entry 24). LTX_DRV.SWING also sets the output driver, in the
engine-common domain: there it is the field X_LTX_SWING. -/
def Dev.domsOf (d : Dev) (k : Key) : List Nat :=
  let b := k.inst
  match k.f.blk with
  | .lrx => [domRx b]
  | .ltx => if k.f = .X_LTX_SWING then [domEngine (engineOf b)] else [domTx b]
  | .spr => [domEngine b]
  | .pool => [domPool b]
  | .poolG => [domPool (b / 16)]
  | .hk => [domHk b]
  | .hkC => [domHk (b / 48)]
  | .hostL =>
    match d.portOf b with
    | some n => if k.f = .HOST_L_CTRL_PRECODE_RX ∨ k.f = .HOST_L_CTRL_POL_RX then [domTx n] else [domRx n]
    | none => [domTile (b / 32)]
  | .hostP => if k.f = .HOST_P_CTRL_UNC_MARK then [domTx b] else [domRx b]
  | .courL =>
    if k.f = .COUR_L_CTRL_RX_EN then [domRx b]
    else if k.f = .COUR_L_CTRL_KNOCK_EN then [domEngine (engineOf b)] else [domTx b]
  | .courMap => if k.f = .COUR_RXMAP_A_CODES ∨ k.f = .COUR_RXMAP_B_CODES then [domRx b] else [domTx b]
  | .trim =>
    match calClass b with
    | 0 => [domRx b]
    | 1 => [domTx (b - 64)]
    | 2 => [domHk (b - 128)]
    | 3 => [domHk (b - 132)]
    | _ => []
  | .hub => if k.f = .PWR_T_LEVEL_REQ then [] else [domCourier]
  | _ => []

/-- The blocks that a staged field sets are ON. -/
def Dev.keyReady (d : Dev) (k : Key) : Bool := (d.domsOf k).all fun m => d.domOn m

/-- The fields that a posting makes live by a rule of their own. -/
def ownRule : List F := lrxSpecial ++ ltxSpecial ++ poolSpecial ++ courSpecial ++ [.CAL_TRIM_WORD, .PH_T_CFG_MOD_COUNT,
  .PH_T_CFG_MOD_TIME]

/-- The staged fields whose staged or live value is listed: any other holds one value in both. -/
def Dev.stagedKeys (d : Dev) : List Key :=
  ((d.reg ++ d.live).map fun e : Key × Nat => e.1).filter fun k => k.staged

/-- How many instances a block has. -/
def blkCount : Blk → Nat
  | .hub => 1
  | .spr | .sysE | .memC | .capT => 8
  | .pool | .hostT | .biasT | .hk | .capM => 4
  | .hostL => 128
  | .biasC => 160
  | .hkC => 192
  | .calU | .trim => 137
  | .phT => 74
  | .msix => 256
  | .dmaQ => 16
  | .pwrD => 158
  | .thmS => 40
  | _ => 64

/-- Every key of the fields with a rule of their own. -/
def ruleKeys : List Key :=
  (ownRule.map fun f => (List.range (blkCount f.blk * f.arr)).map fun i => (⟨f, i⟩ : Key)).flatten

/-- Keys that stand for the rules of blocks whose plain fields also have one. -/
def markers : List Key :=
  ((List.range 128).map fun h => [(⟨.HOST_L_TXEQ_CM3, h⟩ : Key), ⟨.HOST_L_CTRL_POL_RX, h⟩]).flatten ++
    ((List.range 8).map fun e => (⟨.SPR_CTRL_SLEW, e⟩ : Key)) ++ (List.range 4).map fun t => (⟨.HK_CTRL_LOOP, t⟩ : Key)

/-- The staged values of the plain fields that `c` picks go live. -/
def Dev.postPlain (d : Dev) (c : Key → Bool) : Dev :=
  Dev.forList ((d.stagedKeys).filter fun k => c k && !ownRule.contains k.f) (fun k d => d.post k.f k.i) d

/-- The spread groups of the device, by their first lanes. -/
def Dev.firstLanes (d : Dev) : List Nat := (List.range 64).filter fun n => d.groupBase n == n

/-- R133, R158, R159: the loopback and source requests that `c` picks, asked for by `by_`. FAR_LOOP counts as held where it stays
live (log entry 25). -/
def Dev.postLoops (d : Dev) (by_ : Nat) (c : Key → Bool) : Dev :=
  Dev.forList d.firstLanes (fun n0 d =>
    let g := d.groupLanes n0
    let fars := g.filter fun n => c ⟨.LTX_CTRL_FAR_LOOP, n⟩
    let clears := (d.asking .LTX_CTRL_FAR_LOOP fars).head?.any fun n => !d.on .LTX_CTRL_FAR_LOOP n
    let far := !clears && g.any fun n => d.lon .LTX_CTRL_FAR_LOOP n
    let d := d.postAnalog by_ g (g.filter fun n => c ⟨.LRX_CTRL_ANALOG_LOOP, n⟩) far
    let srcs := (d.asking .LTX_CTRL_SOURCE (g.filter fun n => c ⟨.LTX_CTRL_SOURCE, n⟩)).filter fun n =>
      d.get .LTX_CTRL_SOURCE n != 3
    (d.postFar by_ g fars srcs).postSource by_ g srcs) d

/-- The staged values of the fields that `c` picks go live, each by its rule. -/
def Dev.goLive (d0 : Dev) (by_ : Nat) (c : Key → Bool) : Dev :=
  let d := (d0.postPlain c).postLoops by_ c
  let d := Dev.each 64 (fun n d =>
    let d := if c ⟨.LRX_GRADE_MODE, n⟩ then d0.postLrx n d else d
    let d := if c ⟨.LTX_LEVEL_LEVEL0, n⟩ then d0.postLtx n d else d.syncTx n
    if c ⟨.COUR_TXMAP_A_CODES, 12 * n⟩ || c ⟨.COUR_RXMAP_A_CODES, 12 * n⟩ then d.postCourLane n
    else (d.syncCourTx n).syncCourRx n) d
  let d := Dev.each 8 (fun e d => if c ⟨.SPR_CTRL_SLEW, e⟩ then d0.postSpread e d else d) d
  let d := Dev.each 64 (fun g d => if c ⟨.POOL_G_CTRL_MIN, g⟩ then d.postPoolGroup g else d) d
  let d := Dev.each 4 (fun t d =>
    let d := if c ⟨.POOL_SCORE_THR_LOW, 3 * t⟩ then d.postPoolTile t else d
    if c ⟨.HK_CTRL_LOOP, t⟩ then d0.postHk t d else d) d
  let d := Dev.each 128 (fun h d => if c ⟨.HOST_L_TXEQ_CM3, h⟩ || c ⟨.HOST_L_CTRL_POL_RX, h⟩ then d.postHost h else d) d
  let d := Dev.each 137 (fun u d => if c ⟨.CAL_TRIM_WORD, 64 * u⟩ then d.postTrim u else d) d
  if c ⟨.COUR_CTRL_THRESH, 0⟩ then d.postCourHub else d

/-- R92 code A: the lanes on which the fields that `c` picks would make a loopback or the pattern generator live. -/
def Dev.wantsAwake (d : Dev) (c : Key → Bool) (n : Nat) : Bool :=
  (c ⟨.LRX_CTRL_ANALOG_LOOP, n⟩ && d.on .LRX_CTRL_ANALOG_LOOP n) ||
  (c ⟨.LTX_CTRL_FAR_LOOP, n⟩ && (d.on .LTX_CTRL_FAR_LOOP n || d.get .LTX_CTRL_SOURCE n == 2)) ||
  (c ⟨.HOST_P_CTRL_NEAR_LOOP, n⟩ && d.on .HOST_P_CTRL_NEAR_LOOP n)

/-- The loopback, source and squelch requests of a lane. -/
def laneRequests : List F :=
  [.LRX_CTRL_ANALOG_LOOP, .LTX_CTRL_FAR_LOOP, .LTX_CTRL_SOURCE, .LTX_CTRL_SQUELCH, .HOST_P_CTRL_NEAR_LOOP]

/-- R92 code U, R165: on a lane of an unused engine a loopback or a source other than LIVE is refused, and a squelch changes
nothing (log entry 74: nobody holds what is refused there). -/
def Dev.refuseUnused (d : Dev) (by_ : Nat) (c : Key → Bool) : Dev :=
  Dev.each 64 (fun n d =>
    if d.used (engineOf n) then d
    else
      let asks := fun (f : F) => c ⟨f, n⟩ && d.get f n != 0
      let d := if asks .LRX_CTRL_ANALOG_LOOP then (d.set .LRX_EVENTS_LOOP_REFUSED n 1).refuse 3 n by_ 0 else d
      let d := if asks .LTX_CTRL_FAR_LOOP then d.refuseTx 3 by_ 0 [n] else d
      if asks .LTX_CTRL_SOURCE && d.get .LTX_CTRL_SOURCE n != 3 then d.refuseTx 2 by_ 0 [n] else d) d

/-- R39: LTX_DRV.SWING of a posting reaches the output driver while the engine-common domain is ON; the lanes answered wait for
it. -/
def Dev.postSwing (d : Dev) (c : Key → Bool) : Dev × List Nat :=
  let ls := (List.range 64).filter fun n => c ⟨.LTX_DRV_SWING, n⟩
  let on := ls.filter fun n => d.domOn (domEngine (engineOf n))
  (Dev.forList on (fun n d => d.set .X_LTX_SWING n (d.get .LTX_DRV_SWING n)) d, ls.filter fun n => !on.contains n)

/-- R39: the staged values that `c` picks go live where their blocks are ON; the others are recorded. A feature that they
make live on a sleeping lane wakes it (R92 code A). `by_` is who asks (R89). -/
def Dev.applyPosting (d : Dev) (by_ : Nat) (c : Key → Bool) : Dev :=
  let d := d.refuseUnused by_ c
  let c := fun (k : Key) => c k && (d.used (engineOf k.inst) || !laneRequests.contains k.f)
  let old := (d.posted.map fun p : RecPost => p.vals.map (·.1)).flatten
  let vals := ((d.stagedKeys ++ old ++ ruleKeys ++ markers).filter fun k => c k && !d.keyReady k).map fun k => (k, d.get k.f k.i)
  let s := (d.goLive by_ fun k => c k && d.keyReady k).postSwing c
  let vals := vals ++ s.2.map fun n => ((⟨.X_LTX_SWING, n⟩ : Key), d.get .LTX_DRV_SWING n)
  let d1 := if vals.isEmpty then s.1 else { s.1 with posted := s.1.posted ++ [(⟨by_, vals⟩ : RecPost)] }
  Dev.each 64 (fun n d1 => if d.wantsAwake c n then (d1.wake (domRx n) 6).wake (domTx n) 6 else d1) d1

/-- R39: one recorded posting: the values whose blocks are all ON go live as they were recorded, and what the driver has
staged since stands again. -/
def Dev.applyRecord (d : Dev) (p : RecPost) : Dev :=
  let now := p.vals.filter fun e => d.keyReady e.1
  let later := p.vals.filter fun e => !d.keyReady e.1
  let since := (now.filter fun e => e.1.staged && decide (d.get e.1.f e.1.i ≠ e.2)).map fun e => (e.1, d.get e.1.f e.1.i)
  let d := Dev.forList now (fun e d => d.set e.1.f e.1.i e.2) d
  let d := d.goLive p.by_ fun k => now.any fun e => decide (e.1 = k)
  let d := Dev.forList since (fun e d => d.set e.1.f e.1.i e.2) d
  if later.isEmpty then d else { d with posted := d.posted ++ [(⟨p.by_, later⟩ : RecPost)] }

/-- R39: the recorded postings are applied as far as their blocks are ON, oldest first. -/
def Dev.applyRecords (d : Dev) : Dev := Dev.forList d.posted (fun p d => d.applyRecord p) { d with posted := [] }

/-- R40: what was recorded for the staged fields that `c` picks does not go live any more. -/
def Dev.dropRecords (d : Dev) (c : Key → Bool) : Dev :=
  { d with posted := (d.posted.map fun p : RecPost => (⟨p.by_, p.vals.filter fun e => !c e.1⟩ : RecPost)).filter fun p =>
      !p.vals.isEmpty }

/-- R40: the live value of a staged field takes the staged one, whatever its rule. -/
def Dev.takeStaged (d : Dev) (c : Key → Bool) : Dev :=
  Dev.forList ((d.stagedKeys).filter c) (fun k d => d.post k.f k.i) d

end Sys2Proof.Machine
end

