-- ==== Sys2Proof/Machine/Thermal.lean ====
section
/-! DEFINITION. Thermal supervision (R529 to R539): scheduled demands, checks and replacements, steps, the rate of rise, and
what goes live at a tick. Shutdown and restart (R540 to R543) stand in Bringup. -/

namespace Sys2Proof.Machine

open Sys2Proof

/-! ## Thresholds (R535, R536) -/

/-- Sensor offsets of 0 are in use (R535). -/
def Dev.untrimmed (d : Dev) : Bool := d.get .CAL_NVM_STATUS_SOURCE 0 == 3

/-- Threshold `j` (0 to 3 for E1 to E4, 4 for ALARM) of the zone of site `s`, in 1/160 °C. -/
def Dev.thmTh (d : Dev) (s j : Nat) : Int :=
  16 * (sx 16 (d.get .X_THM_TH ((if s < 32 then 0 else 5) + j)) - (if d.untrimmed then 80 else 0))
/-- HYST in 1/160 °C. -/
def Dev.thmHyst (d : Dev) : Int := 16 * (d.get .X_THM_HYST 0 : Int)
/-- DWELL. -/
def Dev.dwell (d : Dev) : Nat := d.get .THM_CFG_DWELL 0

/-- R537: the step that a site demands: the larger of its threshold step and its rate step; an UNAVAILABLE site demands
none (R530). -/
def Dev.siteStep (d : Dev) (s : Nat) : Nat :=
  if d.siteGone s then 0 else max (d.get .X_THM_STEP s) (d.get .X_THM_RSTEP s)

/-- THM_S_STATUS shows the step and the counts, and the events their change; `old` is the step before. -/
def Dev.showSite (d : Dev) (s old : Nat) : Dev :=
  let now := max (d.get .X_THM_STEP s) (d.get .X_THM_RSTEP s)
  let cnt := ((List.range 4).map fun j => d.get .X_THM_CNT (4 * s + j)).foldl max 0
  let d := ((d.set .THM_S_STATUS_STEP s now).set .THM_S_STATUS_ENTRY_CNT s cnt).set .THM_S_STATUS_RATE_HOLD s
    (b2n (d.get .X_THM_RSTEP s != 0))
  if old < now then d.set .THM_S_EVENTS_STEP_UP s 1
  else if now < old then d.set .THM_S_EVENTS_STEP_DOWN s 1 else d

/-- R536: a scheduled reading, or a replacement, of `v` 1/16 °C counts for the steps of a site. -/
def Dev.countEntry (d : Dev) (s : Nat) (v : Int) : Dev :=
  let step := d.get .X_THM_STEP s
  let d := Dev.each 4 (fun j d =>
    d.set .X_THM_CNT (4 * s + j) (if d.thmTh s j ≤ v * 10 then min 15 (d.get .X_THM_CNT (4 * s + j) + 1) else 0)) d
  match (List.range 4).reverse.find? fun j => decide (step < j + 1 ∧ d.dwell ≤ d.get .X_THM_CNT (4 * s + j)) with
  | some j => (d.set .X_THM_STEP s (j + 1)).set .THM_S_STATUS_RELEASE_CNT s 0
  | none =>
    if step = 0 then d
    else if v * 10 < d.thmTh s (step - 1) - d.thmHyst then
      let c := d.get .THM_S_STATUS_RELEASE_CNT s + 1
      if d.dwell ≤ c then (d.set .X_THM_STEP s (step - 1)).set .THM_S_STATUS_RELEASE_CNT s 0
      else d.set .THM_S_STATUS_RELEASE_CNT s c
    else d.set .THM_S_STATUS_RELEASE_CNT s 0

/-- R536: ALARM works as an entry threshold without an action. -/
def Dev.countAlarm (d : Dev) (s : Nat) (v : Int) : Dev :=
  let th := d.thmTh s 4
  let d := d.set .X_THM_ACNT s (if th ≤ v * 10 then min 15 (d.get .X_THM_ACNT s + 1) else 0)
  if d.on .THM_S_STATUS_ALARM s then
    if v * 10 < th - d.thmHyst then
      let c := d.get .X_THM_AREL s + 1
      if d.dwell ≤ c then (d.set .THM_S_STATUS_ALARM s 0).set .X_THM_AREL s 0 else d.set .X_THM_AREL s c
    else d.set .X_THM_AREL s 0
  else if d.dwell ≤ d.get .X_THM_ACNT s then
    (((d.set .THM_S_STATUS_ALARM s 1).set .X_THM_AREL s 0).set .THM_S_EVENTS_ALARM s 1).raise 737
  else d

/-- R537: the rate of rise of a site against the latest scheduled reading 1 to 20 ms older. -/
def Dev.countRate (d : Dev) (s : Nat) (v : Int) : Dev :=
  let ref := d.reads.find? fun r => r.site == s && decide (r.clk + ms ≤ d.clk ∧ d.clk ≤ r.clk + 20 * ms)
  let d := { d with reads := (⟨s, d.clk, v⟩ : ThmRead) :: d.reads.filter fun r => decide (d.clk ≤ r.clk + 20 * ms) }
  match ref with
  | none => d
  | some r =>
    if 16 * (d.get .THM_CFG_RATE 0 : Int) * (d.clk - r.clk : Nat) < (v - r.val) * 100 * ms then
      let d := (d.set .X_THM_RSTEP s (min 4 (d.get .X_THM_STEP s + 1))).set .X_THM_RCNT s 0
      (d.set .THM_S_EVENTS_RATE s 1).raise 738
    else if d.get .X_THM_RSTEP s = 0 then d
    else
      let c := d.get .X_THM_RCNT s + 1
      if d.dwell ≤ c then (d.set .X_THM_RSTEP s 0).set .X_THM_RCNT s 0 else d.set .X_THM_RCNT s c

/-- R531: a scheduled reading, or a replacement, has its effect on a site. -/
def Dev.countReading (d : Dev) (s : Nat) (v : Int) (rate : Bool) : Dev :=
  let old := max (d.get .X_THM_STEP s) (d.get .X_THM_RSTEP s)
  let d := (d.countEntry s v).countAlarm s v
  let d := if rate then d.countRate s v else d
  ((d.showSite s old).set .X_THM_SETCLK 0 d.clk).set .X_THM_DIRTY 0 1

/-! ## Failed sites (R532 to R534) -/

/-- R532: the cause for which a value fails the check of a site: 1 range, 3 neighbours, 0 none. -/
def Dev.siteCheck (d : Dev) (s : Nat) (v : Int) : Nat :=
  if v < -640 ∨ 2400 < v then 1
  else
    let ns := d.neighbours s
    let fresh := ns.all fun q => d.get .X_THM_READ q != 0 && decide (d.clk + 1 - d.get .X_THM_READ q ≤ 2 * ms)
    if !ns.isEmpty && fresh && ns.all (fun q => decide (192 < (v - sx 16 (d.get .THM_S_READING_VALUE q)).natAbs)) then 3
    else 0

/-- R532, R533: the site is declared FAILED. It keeps its step; its counters start again. -/
def Dev.siteFail (d : Dev) (s cause : Nat) : Dev :=
  let step := max (d.get .X_THM_STEP s) (d.get .X_THM_RSTEP s)
  let d := (d.set .THM_S_STATUS_STATE s 1).set .THM_S_STATUS_FAIL_CAUSE s cause
  let d := d.setEach .X_THM_CNT ((List.range 4).map (4 * s + ·)) 0
  let d := d.setAll [.X_THM_ACNT, .X_THM_AREL, .X_THM_RSTEP, .X_THM_RCNT, .X_THM_REPCLK, .X_THM_REINST,
    .THM_S_STATUS_RELEASE_CNT, .THM_S_READING_REPLACE] s 0
  let d := (d.set .X_THM_STEP s step).showSite s step
  let d := { d with reads := d.reads.filter fun r => r.site != s }
  (d.set .THM_S_EVENTS_FAILED s 1).raise 739

/-- R533: a FAILED site takes its replacement value once the scheduled readings of its neighbours are complete: the higher
of them plus 6.0 °C, or 105.0 °C with none. -/
def Dev.takeReplacement (s : Nat) (d : Dev) : Dev :=
  if d.on .X_THM_REP s && d.siteFailed s && !d.siteGone s && !(d.on .X_THM_REINST s && bitAt (d.get .X_THM_DEM s) 0) then
    let ns := d.neighbours s
    if ns.any fun q => bitAt (d.get .X_THM_DEM q) 0 || bitAt (d.get .X_THM_WAIT q) 0 then d
    else
      let vs := (ns.filter fun q => d.get .X_THM_READ q != 0).map fun q => sx 16 (d.get .THM_S_READING_VALUE q)
      let v : Int := match vs with
        | [] => 1680
        | x :: l => l.foldl max x + 96
      let d := ((d.set .X_THM_REP s 0).set .THM_S_READING_REPLACE s (ux 16 v)).set .X_THM_REPCLK s (d.clk + 1)
      Dev.nvmReading s v (Dev.calReading s v (d.countReading s v false))
  else d

/-- The FAILED sites that can take their replacement now do so. -/
def Dev.takeReplacements (d : Dev) : Dev := Dev.each 40 Dev.takeReplacement d

/-- R534: a FAILED site returns to NORMAL with its step kept. -/
def Dev.siteMend (d : Dev) (s : Nat) : Dev :=
  d.setAll [.THM_S_STATUS_STATE, .THM_S_STATUS_FAIL_CAUSE, .THM_S_READING_REPLACE, .X_THM_REPCLK, .X_THM_REINST,
    .X_THM_REP] s 0

/-- R528 to R534: a reading of site `s` completes with sensor result `raw`. -/
def Dev.reading (d : Dev) (s : Nat) (raw : Int) : Dev :=
  let v := raw + sx 16 (d.get .X_NVM_SENSOR s)
  let sched := bitAt (d.get .X_THM_DEM s) 0
  let cause := d.siteCheck s v
  let d := ((d.set .X_THM_DEM s 0).set .THM_S_READING_VALUE s (ux 16 v)).set .THM_S_TIME_TIME s d.now
  let d := d.set .X_THM_READ s (d.clk + 1)
  if d.siteFailed s then
    if d.on .X_THM_REINST s && sched then
      if cause = 0 then
        let d := d.siteMend s
        Dev.nvmReading s v (Dev.calReading s v (d.countReading s v true))
      else d.set .X_THM_REINST s 0
    else
      match d.siteValue s with
      | some (r, _) => if (List.range 137).any fun u => calSite u == s && d.on .X_CAL_WAIT u then Dev.calReading s r d else d
      | none => d
  else if cause = 0 then
    let d := if sched then d.countReading s v true else d
    Dev.nvmReading s v (Dev.calReading s v d)
  else d.siteFail s cause

/-! ## Zones and ticks (R529, R531, R538) -/

/-- R538: the step of a zone (0 to 3 the tiles, 4 the hub zone), and the lowest site that demands it; site 0 at step 0. -/
def Dev.zoneStep (d : Dev) (z : Nat) : Nat × Nat :=
  let sites := (if z < 4 then (List.range 8).map (8 * z + ·) else []) ++ (List.range 8).map (32 + ·)
  sites.foldl (fun b s => if b.1 < d.siteStep s then (d.siteStep s, s) else b) (0, 0)

/-- R538: the step of a zone goes live. -/
def Dev.zoneLive (z : Nat) (d : Dev) : Dev :=
  let p := d.zoneStep z
  let cap := if p.1 = 0 then 8 else d.get .X_THM_CAP (p.1 - 1)
  let level := if p.1 = 0 then 0 else d.get .X_THM_LEVEL (p.1 - 1)
  let was := d.get .THM_Z_STEP_STEP z
  let d := ((d.set .THM_Z_STEP_STEP z p.1).set .THM_Z_STEP_CAP z cap).set .THM_Z_STEP_LEVEL z level
  let d := d.set .THM_Z_STEP_SITE z p.2
  let d := if z < 4 then (d.set .POOL_STATUS_CAP_THERMAL z cap).set .PWR_T_LEVEL_THERMAL z level else d
  if was = p.1 then d
  else
    let d := d.addSat .THM_Z_STEP_STEP_COUNT z 1
    if z < 4 then d.raise 736 else d

/-- R531: the decisions of the latest set of scheduled readings are due at this tick. -/
def Dev.thmDue (d : Dev) : Bool :=
  d.on .X_THM_DIRTY 0 && decide (d.get .X_THM_SETCLK 0 + 2 * us ≤ d.clk) &&
    (List.range 40).all fun s => !bitAt (d.get .X_THM_DEM s) 0 && !bitAt (d.get .X_THM_WAIT s) 0

/-- R529: scheduled demands fall at this tick. -/
def Dev.thmScheduled (d : Dev) : Bool :=
  let e := if (List.range 4).any fun t => d.get .THM_Z_STEP_STEP t != 0 then d.get .THM_CFG_FAST_EXP 0
    else d.get .THM_CFG_DEMAND_EXP 0
  d.get .TIME_TICK_COUNT_COUNT 0 % 2 ^ e == 0

/-- R529, R533: the scheduled demands are issued. -/
def Dev.thmIssue (d : Dev) : Dev :=
  let d := Dev.each 40 (fun s d =>
    let d := d.demand byTick s
    if d.siteFailed s then d.set .X_THM_REP s 1 else d) d
  d.takeReplacements

/-- R529, R531: category 4 of a tick; `steps` and `demands` say that the decisions and the scheduled demands have not overrun.
Decisions go live first, then the demands of the schedule they leave are issued. -/
def Dev.thmTick (steps demands : Bool) (d : Dev) : Dev :=
  let d := if steps && d.thmDue then (Dev.each 5 Dev.zoneLive d).set .X_THM_DIRTY 0 0 else d
  if !(d.thmScheduled || d.on .X_THM_ISSUE 0) then d
  else if demands then d.thmIssue.set .X_THM_ISSUE 0 0
  else d.set .X_THM_ISSUE 0 1

/-- R539: a THERMAL change keeps the steps, with the actions of the new plan, and restarts every entry and release
count. -/
def Dev.thmReplan (d : Dev) : Dev :=
  let d := Dev.each 5 (fun z d =>
    let step := d.get .THM_Z_STEP_STEP z
    let cap := if step = 0 then 8 else d.get .X_THM_CAP (step - 1)
    let level := if step = 0 then 0 else d.get .X_THM_LEVEL (step - 1)
    let d := (d.set .THM_Z_STEP_CAP z cap).set .THM_Z_STEP_LEVEL z level
    if z < 4 then (d.set .POOL_STATUS_CAP_THERMAL z cap).set .PWR_T_LEVEL_THERMAL z level else d) d
  Dev.each 40 (fun s d =>
    let d := d.setEach .X_THM_CNT ((List.range 4).map (4 * s + ·)) 0
    d.setAll [.X_THM_ACNT, .X_THM_AREL, .THM_S_STATUS_RELEASE_CNT, .THM_S_STATUS_ENTRY_CNT] s 0) d

/-! ## Commands -/

/-- THM_READ (R528). -/
def execThmRead (x : Fin 40) (s : State) : Host.Outcome State Fault Refusal :=
  s.run fun d => d.demand byDriver x

/-- THM_READ_ALL (R528). -/
def execThmReadAll (s : State) : Host.Outcome State Fault Refusal :=
  s.run fun d => Dev.each 40 (fun x d => d.demand byDriver x) d

/-- R532: the reading of site `s` has not completed in time. -/
def Dev.readingLate (s : Nat) (d : Dev) : Dev :=
  let sched := bitAt (d.get .X_THM_DEM s) 0
  let d := d.set .X_THM_DEM s 0
  if d.siteFailed s then (if sched then d.set .X_THM_REINST s 0 else d) else d.siteFail s 2

/-- READING_DONE (R532): the reading in progress of site `x` completes 24 µs after it began, with sensor result `raw`; one that
comes more than 100 µs after is too late. -/
def execReadingDone (x : Fin 40) (raw : BitVec 16) (s : State) : Host.Outcome State Fault Refusal :=
  s.run fun d =>
    if d.get .X_THM_DEM x = 0 then d
    else d.onTime (d.get .X_THM_CLK x + 24 * us) fun d =>
      (if d.get .X_THM_CLK x + 100 * us < d.clk then Dev.readingLate x d else d.reading x raw.toInt).takeReplacements

/-- READING_TIMEOUT (R532): a reading has not completed 100 µs after it began. -/
def execReadingTimeout (x : Fin 40) (s : State) : Host.Outcome State Fault Refusal :=
  s.run fun d =>
    if d.get .X_THM_DEM x = 0 then d
    else d.onTime (d.get .X_THM_CLK x + 100 * us) fun d => (Dev.readingLate x d).takeReplacements

/-- REINSTATE (R534). -/
def execReinstate (x : Fin 40) (s : State) : Host.Outcome State Fault Refusal :=
  s.run fun d => if d.siteFailed x then d.set .X_THM_REINST x 1 else d

/-- THM_CLEAR_STATS (R546). -/
def execThmClearStats (s : State) : Host.Outcome State Fault Refusal :=
  s.run fun d => d.setEach .THM_Z_STEP_STEP_COUNT (List.range 5) 0

end Sys2Proof.Machine
end

