-- ==== Sys2Proof/Machine/Power.lean ====
section
/-! DEFINITION. Power domains and states (R496 to R526): performance levels, the choice of a sleep state, the entry
handshake, entry, wakes and wake failure. -/

namespace Sys2Proof.Machine

open Sys2Proof

/-! ## Performance levels (R500 to R502) -/

/-- R60, R500: typical power of a tile's pool at a level, W: `p` is the average number of passes per codeword, `f` the tile's
codeword rate relative to 16 lanes at L400. -/
def poolPower (l : Nat) (p f : Rat) : Rat :=
  let a : Rat := [1, 85 / 100, 72 / 100, 61 / 100].getD l 0
  let m : Rat := [1, 88 / 100, 77 / 100, 66 / 100].getD l 0
  a + 5 * m * p * f

/-- Regulator voltage of a level, 5 mV units. -/
def levelVolt (l : Nat) : Nat := 160 - 10 * min 3 l

/-- The voltage that the regulator of tile `t` is at or on its way to. -/
def Dev.voltGoal (d : Dev) (t : Nat) : Nat :=
  levelVolt (if 2 ≤ d.get .X_LVL_PHASE t then d.get .X_LVL_GOAL t else d.get .PWR_T_LEVEL_LIVE t)

/-- R501: the regulator ramps at 10 mV/µs: its voltage now, 5 mV units. -/
def Dev.voltage (d : Dev) (t : Nat) : Nat :=
  let v0 := d.get .X_LVL_V0 t
  let g := d.voltGoal t
  let moved := 2 * (d.clk - d.get .X_LVL_CLK t) / us
  if d.get .X_LVL_PHASE t = 0 then g else if v0 ≤ g then min g (v0 + moved) else max g (v0 - moved)

/-- A change of level ends. -/
def Dev.levelDone (d : Dev) (t : Nat) : Dev := (d.set .PWR_T_LEVEL_CHANGING t 0).raise 706

/-- The regulator starts to ramp from where it stands: a lowering (phase 1) or a raise (phase 2) to level `g`. -/
def Dev.rampLevel (d : Dev) (t phase g : Nat) : Dev :=
  let v := d.voltage t
  let d := (d.set .X_LVL_V0 t v).set .X_LVL_CLK t d.clk
  let d := (d.set .X_LVL_PHASE t phase).set .X_LVL_GOAL t g
  (d.set .PWR_T_LEVEL_CHANGING t 1).when (phase == 1) fun d => d.set .PWR_T_LEVEL_LIVE t g

/-- R500: the target level: the slower of the driver's and the thermal supervisor's. -/
def Dev.levelTarget (d : Dev) (t : Nat) : Nat := max (d.lget .PWR_T_LEVEL_REQ t) (d.get .PWR_T_LEVEL_THERMAL t)

/-- R214, R501, R502: what a tick does to the level of tile `t` before the thermal steps of that tick go live: changes end,
and a lowering takes effect or a raise is redirected. -/
def Dev.levelLower (t thm : Nat) (d : Dev) : Dev :=
  let g := max (d.lget .PWR_T_LEVEL_REQ t) (min thm (d.get .PWR_T_LEVEL_THERMAL t))
  let d := d.set .PWR_T_LEVEL_TARGET t g
  if d.domOn (domPool t) then
    let d := if d.get .X_LVL_PHASE t = 1 ∧ d.voltage t = d.voltGoal t then (d.set .X_LVL_PHASE t 0).levelDone t
      else if d.get .X_LVL_PHASE t = 3 then (d.set .PWR_T_LEVEL_LIVE t (d.get .X_LVL_GOAL t)).levelDone t else d
    let live := d.get .PWR_T_LEVEL_LIVE t
    if live < g ∨ (d.get .X_LVL_PHASE t = 2 ∧ live ≤ g) then d.rampLevel t 1 g
    else if d.get .X_LVL_PHASE t = 2 ∧ d.get .X_LVL_GOAL t < g then d.rampLevel t 2 g
    else d
  else d

/-- R214, R501, R502: what the tick does after them: a raise begins, unless a change completed at this tick. -/
def Dev.levelRaise (t : Nat) (d : Dev) : Dev :=
  let g := d.levelTarget t
  let d := d.set .PWR_T_LEVEL_TARGET t g
  let live := d.get .PWR_T_LEVEL_LIVE t
  if !d.domOn (domPool t) then d
  else if d.get .X_LVL_PHASE t = 3 then d.set .X_LVL_PHASE t 0
  else if d.get .X_LVL_PHASE t = 0 ∧ g < live then d.rampLevel t 2 g
  else if d.get .X_LVL_PHASE t = 2 ∧ d.get .X_LVL_GOAL t < g ∧ g < live then d.rampLevel t 2 g
  else d

/-- R502: the level that the domain reaches during its wake. -/
def Dev.levelWoken (t : Nat) (d : Dev) : Dev :=
  let g := d.levelTarget t
  let ends := d.on .PWR_T_LEVEL_CHANGING t || d.get .PWR_T_LEVEL_LIVE t != g
  let d := ((d.set .PWR_T_LEVEL_TARGET t g).set .PWR_T_LEVEL_LIVE t g).set .X_LVL_PHASE t 0
  if ends then d.levelDone t else d

/-! ## Choosing a state (R507 to R511) -/

/-- R505: entry cost and wake time of a state. -/
def entryCost : Nat → Nat
  | 1 => 2560000
  | 2 => 10 * us
  | 3 => 20 * us
  | _ => 100 * us
def wakeTime : Nat → Nat
  | 1 => us
  | 2 => 30 * us
  | 3 => 400 * us
  | _ => 8 * ms

/-- Elapsed time of the tick `j` ticks after the next one. -/
def Dev.tickAt (d : Dev) (j : Nat) : Nat := d.clk + (d.tickDue - d.now) + j * d.period

/-- Elapsed time of the next tick whose count is a multiple of `m`. -/
def Dev.tickMultiple (d : Dev) (m : Nat) : Nat :=
  d.tickAt (m - 1 - d.get .TIME_TICK_COUNT_COUNT 0 % m)

/-- R510: the horizon as it stands: µs remaining, 0xFFFF_FFFF if indefinite. -/
def Dev.horizon (d : Dev) (k : Nat) : Nat :=
  if d.on .X_PWR_HOR_SET k then (d.get .X_PWR_HOR_END k - d.clk + us - 1) / us else d.get .PWR_D_HORIZON_HORIZON k

/-- R508: the known events of a domain, in elapsed time. -/
def Dev.knownEvents (d : Dev) (k : Nat) : List Nat :=
  let hor := if d.on .X_PWR_HOR_SET k then [d.get .X_PWR_HOR_END k] else []
  let more := match domClass k with
    | 3 =>
      let e := if (List.range 4).any fun t => d.get .THM_Z_STEP_STEP t != 0 then d.get .THM_CFG_FAST_EXP 0
        else d.get .THM_CFG_DEMAND_EXP 0
      [d.tickMultiple (2 ^ e)]
    | 4 =>
      if (List.range 16).any fun l => d.lgOn (16 * (k - 140) + l) then [d.tickMultiple (2 ^ d.get .LEDG_CFG_PERIOD_EXP 0)]
      else []
    | 5 =>
      let t := k - 144
      if d.lon .HK_CTRL_TICK_EN t || (List.range 40).any fun c =>
          d.bc (40 * t + c) == bcTRACK && d.on .BIAS_C_CFG_TRIGGER (40 * t + c) then [d.tickAt 0]
      else []
    | _ => []
  hor ++ more

/-- The earliest known event of a sleep group. -/
def Dev.groupEvent (d : Dev) (g : List Nat) : Option Nat := ((g.map fun k => d.knownEvents k).flatten).min?

/-- R507, R511: the states that every member permits. -/
def Dev.permitted (d : Dev) (g : List Nat) (s : Nat) : Bool := g.all fun k => bitAt (d.get .PWR_D_CFG_PERMIT k) (s - 1)

/-- R507, R517: the group is evaluated; a wake request at this very moment keeps it ON. -/
def Dev.evaluable (d : Dev) (g : List Nat) : Bool :=
  g.all fun k => d.dom k == pwON && d.get .PWR_D_CFG_PERMIT k != 0 && d.get .X_PWR_WANT k == 0 &&
    d.get .X_PWR_ASKED k != d.clk + 1 &&
    d.get .PWR_D_STATUS_HOLDOFF k == 0 && d.horizon k != 0

/-- R507: the state chosen; 0 none. -/
def Dev.choose (d : Dev) (g : List Nat) : Nat :=
  let fits := fun s => match d.groupEvent g with
    | none => true
    | some e => decide (d.clk + entryCost s + wakeTime s ≤ e)
  ([4, 3, 2, 1].find? fun s => d.permitted g s && fits s).getD 0

/-! ## The entry handshake (R512 to R514) -/

/-- R512: the number of blocks in the stop order of a domain for a state. -/
def blocksOf (k s : Nat) : Nat :=
  match domClass k with
  | 0 => 8
  | 1 => 5
  | 2 => 4
  | 3 => if s = 4 then 5 else 4
  | 4 => 3
  | 5 => 2
  | 7 => 2
  | _ => 1

/-- R499: how deep a domain sleeps; a failed one counts as OFF. -/
def Dev.depth (d : Dev) (k : Nat) : Nat :=
  if d.domAsleep k then d.dom k else if d.dom k = pwFAILED then 3 else 0

/-- A calibration unit is in RUNNING or APPLYING. -/
def Dev.calHolds (d : Dev) (u : Nat) : Bool := decide (cuRUNNING ≤ d.cal u)

/-- The answer REFUSE; 0 is AGREE and 1 to 15 are DELAY. -/
def ansREFUSE : Nat := 16

/-- REFUSE if a condition holds. -/
def refuseIf (b : Bool) : Nat := if b then ansREFUSE else 0

/-- R254: an active tap drains to a capture-out lane of tile `t`. -/
def Dev.tileDrains (d : Dev) (t : Nat) : Bool :=
  (List.range 8).any fun x => d.tapActive x && ((d.tapCout x).any fun i => d.get .X_COUT_LANE i / 32 == t)

/-- R513: the answer of block `i` of domain `k` to an entry to state `s`, apart from what the children answer. -/
def Dev.blockAnswer (d : Dev) (k s i : Nat) : Nat :=
  match domClass k with
  | 0 =>
    match i with
    | 0 => if crHEADER ≤ d.get .COUR_L_STATUS_RX_STATE k then 4 else 0
    | 1 => refuseIf ((List.range 8).any fun t => d.tapActive t && d.tapLane t == k)
    | 2 => refuseIf (d.get .LRX_SHADOW_STATUS_HOLDER k != 0)
    | 3 => refuseIf (d.on .LRX_CHK_CTRL_ENABLE k)
    | 5 => refuseIf (d.calHolds k || d.lon .LTX_CTRL_FAR_LOOP k)
    | 6 => refuseIf (d.looped k)
    | 7 => refuseIf (d.lon .HOST_P_CTRL_NEAR_LOOP k)
    | _ => 0
  | 1 =>
    let n := k - 64
    match i with
    | 0 => refuseIf ((d.msgs.any fun m => decide (m.lane = n)) || d.get .X_COUR_BURSTS n != 0)
    | 1 => refuseIf (d.lget .LTX_CTRL_SOURCE n == 2 || d.lon .LTX_CTRL_FAR_LOOP n)
    | 3 => refuseIf (d.calHolds (64 + n) || d.looped n)
    | 4 => refuseIf (d.lon .HOST_P_CTRL_NEAR_LOOP n)
    | _ => 0
  | 2 =>
    if i = 0 then
      refuseIf ((lanesOf (k - 128)).any fun n => d.lon .COUR_L_CTRL_KNOCK_EN n || d.on .PWR_D_CFG_SD_WAKE (domRx n))
    else 0
  | 3 => if i = 0 then refuseIf (d.tileDrains (k - 136)) else 0
  | 4 =>
    if i = 2 then
      refuseIf ((d.poolGroups (k - 140)).any fun g => decide (1 < d.get .SPR_G_STATUS_ALLOW g ∨ 1 < d.poolFloor g))
    else 0
  | 5 =>
    let t := k - 144
    if i = 0 then refuseIf (d.hkRefuses t (s == 1) || d.calHolds (128 + t))
    else refuseIf (d.biasRefuses t (s == 1) || d.calHolds (132 + t))
  | 7 =>
    let c := 2 * (k - 151) + i
    if (List.range 8).any (fun t => d.tapActive t) || (d.descs.any fun x => decide (8 ≤ x.queue)) ||
        (d.mreqs.any fun r => r.bar2) || (d.held.any fun h => h.isBar2) then ansREFUSE
    else if (List.range 4).any fun j =>
        d.get .X_MEM_TRACK_CLK (4 * c + j) != 0 && decide (d.clk < d.get .X_MEM_TRACK_CLK (4 * c + j) + 2 * us) then 1
    else 0
  | 8 => refuseIf ((List.range 8).any fun t => d.tapActive t)
  | 9 => refuseIf (!d.msgs.isEmpty)
  | 10 => refuseIf ((List.range 16).any fun q => d.dq q == dqRUNNING && d.get .DMA_Q_HEAD_INDEX q != d.get .DMA_Q_TAIL_INDEX q)
  | _ => 0

/-- R513: the first block answers for the children of the domain: every one is at least as deep, and OFF for DARK. -/
def Dev.answer (d : Dev) (k s i : Nat) : Nat :=
  if i = 0 && (childrenOf k).any fun c => decide (d.depth c < min 3 s) then ansREFUSE else d.blockAnswer k s i

/-- The first answer other than AGREE of a domain: block and answer. -/
def Dev.firstAnswer (d : Dev) (k s : Nat) : Option (Nat × Nat) :=
  ((List.range (blocksOf k s)).map fun i => (i, d.answer k s i)).find? fun p => p.2 != 0

/-- The first answer other than AGREE of a sleep group, with the place of the member and the member. -/
def Dev.groupAnswer (d : Dev) (s : Nat) : Nat → List Nat → Option (Nat × Nat × Nat × Nat)
  | _, [] => none
  | j, k :: l =>
    match d.firstAnswer k s with
    | some (i, a) => some (j, k, i, a)
    | none => d.groupAnswer s (j + 1) l

/-- R506: whether a domain whose blocks below `i` have stopped has stopped a block of the data path. -/
def pathStopped (k i : Nat) : Bool :=
  match domClass k with
  | 0 => decide (6 ≤ i)
  | 1 => decide (2 ≤ i)
  | _ => decide (1 ≤ i) && domClass k != 2 && domClass k != 4

/-- R506: the transmit output, the courier and the host lanes of a lane follow its domains. -/
def Dev.laneFollow (d : Dev) (n : Nat) : Dev :=
  let d := ((d.syncTx n).syncCourTx n).syncCourRx n
  Dev.forList (d.hostLanes n) (fun h d =>
    if d.domOn (domRx n) && d.domOn (domTx n) then Dev.hostUp h d else Dev.hostDown h d) d

/-- What follows a domain that becomes ON or stops being ON. -/
def Dev.follow (d : Dev) (k : Nat) : Dev :=
  match domClass k with
  | 0 => Dev.groupFollow (d.groupOf k) (d.laneFollow k)
  | 1 => d.laneFollow (k - 64)
  | 7 => d.memSync
  | _ => d

/-- R514: the query of a sleep group ends with an answer other than AGREE. -/
def Dev.rollBack (d : Dev) (g : List Nat) (j k i a : Nat) : Dev :=
  let d := (d.set .PWR_D_LAST_BLOCK k i).set .PWR_D_LAST_ANSWER k (if a = ansREFUSE then 1 else 2)
  let d := if a = ansREFUSE then d else d.set .PWR_D_LAST_DELAY k a
  let d := Dev.forList g (fun m d =>
    ((d.set .PWR_D_STATUS_HOLDOFF m a).set .PWR_D_EVENTS_REFUSED m 1).addSat .PWR_D_COUNTS_REFUSALS m 1) d
  let d := if d.on .X_PWR_REF_TICK 0 then d else (d.set .X_PWR_REF_TICK 0 1).raise 705
  if j = 0 ∧ i = 0 then d
  else
    let stop := fun m => if m = k then i else if (g.take j).contains m then 9 else 0
    let d := Dev.forList g (fun m d =>
      let d := d.set .PWR_D_STATUS_STATE m pwROLLBACK
      let d := d.set .X_PWR_LIVE m (b2n (!pathStopped m (stop m)))
      if domClass m = 0 ∧ 6 ≤ stop m then d.laneSleep m else d) d
    Dev.forList g (fun m d => d.follow m) d

/-- R514, R516: a rollback or an unwind is complete. -/
def Dev.rolledBack (d : Dev) (k : Nat) : Dev :=
  let d := (d.set .PWR_D_STATUS_STATE k pwON).set .X_PWR_LIVE k 0
  let d := if domClass k = 0 then d.laneWake k else d
  (d.follow k).applyRecords

/-- R507, R514, R515: a sleep group is evaluated at a tick. -/
def Dev.evaluate (d : Dev) (g : List Nat) : Dev :=
  if d.evaluable g then
    let s := d.choose g
    let d := d.setEach .PWR_D_STATUS_GOAL g s
    if s = 0 then d
    else match d.groupAnswer s 0 g with
      | some (j, k, i, a) => d.rollBack g j k i a
      | none =>
        let d := Dev.forList g (fun m d =>
          ((d.set .PWR_D_STATUS_STATE m pwENTERING).set .PWR_D_STATUS_POINT m 0).set .X_PWR_BEGAN m d.clk) d
        Dev.forList g (fun m d => d.follow m) d
  else d

/-- The sleep groups of the device, by their first members. -/
def Dev.sleepGroups (d : Dev) : List (List Nat) :=
  ((List.range 158).filter fun k => domClass k != 6 && (d.sleepGroup k).head? == some k).map fun k => d.sleepGroup k

/-- What a tick does first: rollbacks and unwinds have ended (R514, R516). -/
def Dev.powerBegin (d : Dev) : Dev :=
  Dev.each 158 (fun k d => if d.dom k = pwROLLBACK then d.rolledBack k else d) (d.set .X_PWR_REF_TICK 0 0)

/-- R507: what a tick does last: hold-offs count down, and every group is evaluated. -/
def Dev.powerTick (d : Dev) : Dev :=
  let d := Dev.each 158 (fun k d =>
    let h := d.get .PWR_D_STATUS_HOLDOFF k
    if h = 0 then d else d.set .PWR_D_STATUS_HOLDOFF k (h - 1)) d
  Dev.forList d.sleepGroups (fun g d => d.evaluate g) d

/-! ## Entry (R515, R516) -/

/-- R498, R505: the blocks of a domain as it reaches a sleep state. -/
def Dev.sleepBlocks (d : Dev) (k s : Nat) : Dev :=
  match domClass k with
  | 0 => if s = 1 ∨ s = 2 then d.laneSleep k else d.laneOff k
  | 2 => if s = 1 then d else d.setEach .LTX_STATUS_PLL_LOCK (lanesOf (k - 128)) 0
  | 5 => d.hkSleep (k - 144)
  | 7 => d.memSync
  | _ => d

/-- R515: one member has completed its entry to state `s`. -/
def Dev.entered (d : Dev) (k s : Nat) : Dev :=
  let d := (d.set .PWR_D_STATUS_STATE k s).set .PWR_D_EVENTS_ENTERED k 1
  (d.addSat .PWR_D_COUNTS_ENTRIES k 1).sleepBlocks k s

/-- R516: a wake request that came during entry leads to a wake at once. -/
def Dev.wakeWanted (d : Dev) (g : List Nat) : Dev :=
  match g.find? fun k => d.get .X_PWR_WANT k != 0 with
  | some k =>
    let code := d.get .X_PWR_WANT k
    (d.setEach .X_PWR_WANT g 0).wake k code
  | none => d

/-- R516: entry unwinds. -/
def Dev.unwind (d : Dev) (g : List Nat) : Dev :=
  Dev.forList g (fun k d =>
    let w := d.get .X_PWR_WANT k
    let d := if w = 0 then d else (d.set .PWR_D_LAST_WAKE_SRC k w).set .X_PWR_WANT k 0
    let d := (d.set .PWR_D_STATUS_STATE k pwROLLBACK).addSat .PWR_D_COUNTS_ABORTS k 1
    let d := d.set .PWR_D_EVENTS_ABORTED k 1
    if domClass k = 7 then d.memRefresh (k - 151) false else d) d

/-- R511, R515, R516: every member of a group passes an abort point, or completes its entry (`point` 5). -/
def Dev.passPoint (d : Dev) (g : List Nat) (s point : Nat) : Dev :=
  let d := if point ≤ 4 then d.setEach .PWR_D_STATUS_POINT g point else d
  let d := if point = 2 then
      Dev.forList g (fun k d => if domClass k = 7 then d.memRefresh (k - 151) true else d) d else d
  if (s = 1 ∧ point = 2) ∨ point = 5 then (Dev.forList g (fun k d => d.entered k s) d).wakeWanted g
  else if g.any fun k => d.get .X_PWR_WANT k != 0 then d.unwind g
  else d

/-- ENTRY_COMPLETE (R515): the sleep group of domain `k` passes `point`: an abort point 1 to 4, or 5 with power removed. A
rollback or an unwind of the group is complete. -/
def Dev.entryPoint (d : Dev) (k point : Nat) : Dev :=
  let g := d.sleepGroup k
  if d.dom k = pwROLLBACK then Dev.forList g (fun m d => if d.dom m = pwROLLBACK then d.rolledBack m else d) d
  else if g.all (fun m => d.dom m == pwENTERING) && point == d.get .PWR_D_STATUS_POINT k + 1 then
    d.passPoint g (d.get .PWR_D_STATUS_GOAL k) point
  else d

/-! ## Wakes (R518 to R520) -/

/-- R520: the blocks of a domain restart. -/
def Dev.wakeBlocks (d : Dev) (k src : Nat) : Dev :=
  match domClass k with
  | 0 => if d.rx k = rxOFF then d.laneUp k else if d.rx k = rxWAIT then d.laneWakeWait k else d.laneWake k
  | 2 => if src = 1 then d else d.setEach .LTX_STATUS_PLL_LOCK (lanesOf (k - 128)) 1
  | 3 => Dev.thmWoken (k - 136) d
  | 4 => Dev.levelWoken (k - 140) d
  | 5 => d.hkWake (k - 144) (decide (src ≤ 2))
  | 7 => d.memRefresh (k - 151) false
  | _ => d

/-- R519: what a wake does to the horizon and the hold-off. -/
def Dev.afterWake (d : Dev) (k code : Nat) : Dev :=
  if code = 1 ∨ code = 2 ∨ code = 5 then (d.set .PWR_D_HORIZON_HORIZON k 0).set .X_PWR_HOR_SET k 0
  else if code = 3 then d.set .PWR_D_STATUS_HOLDOFF k 16
  else d

/-- R39, R519, R520, R522: domain `k` is ON, and the attempts of its children begin. -/
def Dev.wokenOn (d : Dev) (k : Nat) : Dev :=
  let d := Dev.forList (childrenOf k) (fun c d => if d.dom c = pwWAKING then d.set .X_PWR_BEGAN c d.clk else d) d
  ((d.set .PWR_D_STATUS_STATE k pwON).set .PWR_D_EVENTS_WOKE k 1).afterWake k (d.get .PWR_D_LAST_WAKE_SRC k)

/-- R39, R520: what goes on in a domain that is ON again after state `src`: its blocks restart, recorded postings go live, and
what waited for it continues. -/
def Dev.wokenRest (d : Dev) (k src : Nat) : Dev :=
  let d := (d.wakeBlocks k src).applyRecords.follow k
  (Dev.each 16 Dev.awaitMem d).tapsWoken.askAll

/-- R39, R519, R520: the wake of domain `k` ends. -/
def Dev.woken (d : Dev) (k : Nat) : Dev := (d.wokenOn k).wokenRest k (d.get .X_PWR_FROM k)

/-- WAKE_COMPLETE (R520). A domain wakes after its ancestors (R499). -/
def Dev.wakeComplete (d : Dev) (k : Nat) : Dev :=
  if d.dom k = pwWAKING ∧ !d.on .X_PWR_HELD_OFF k ∧ (ancestors k).all fun a => d.domOn a then d.woken k else d

/-! ## Wake failure (R522) -/

/-- PARENT_FAILED follows the ancestors of every domain. -/
def Dev.syncParents (d : Dev) : Dev :=
  Dev.each 158 (fun k d => d.set .PWR_D_STATUS_PARENT_FAILED k (b2n (d.ancestorFailed k))) d

/-- The domain is in WAKE_FAILED, or is handled so because an ancestor is. -/
def Dev.domDead (d : Dev) (k : Nat) : Bool := d.dom k == pwFAILED || d.ancestorFailed k

/-- R522: what WAKE_FAILED of domain `k`, its own or an ancestor's, does to the blocks in it. -/
def Dev.failBlocks (d : Dev) (k : Nat) : Dev :=
  let lanes := fun n => d.endTaps (fun t => d.tapLane t == n) 7
  match domClass k with
  | 0 => ((lanes k).laneOff k).laneFollow k
  | 1 => d.laneFollow (k - 64)
  | 3 => Dev.thmGone (k - 136) d
  | 5 => d.latchZeros 4 fun i => biasTile i == k - 144
  | 7 => d.memFail
  | 8 => d.endTaps (fun _ => true) 7
  | _ => d

/-- R522: a domain enters WAKE_FAILED. What it held is gone, so a retry starts from OFF, or from DARK. -/
def Dev.enterFailed (d : Dev) (k : Nat) : Dev :=
  let d := ((d.set .PWR_D_STATUS_STATE k pwFAILED).set .PWR_D_EVENTS_WAKE_FAILED k 1).raise 704
  let d := if d.get .X_PWR_FROM k = 4 then d else d.set .X_PWR_FROM k 3
  d.setAll [.X_PWR_HELD_OFF, .X_PWR_WANT] k 0

/-- R511, R522: the wake of a member of group `g` has failed for good. -/
def Dev.wakeFailed (d : Dev) (g : List Nat) : Dev :=
  let d := Dev.forList g (fun k d => d.enterFailed k) d
  let below := (List.range 158).filter fun k => d.ancestorFailed k && (ancestors k).any fun a => g.contains a
  let d := Dev.forList below (fun k d =>
    if d.dom k = pwWAKING then
      ((d.set .PWR_D_STATUS_STATE k (d.get .X_PWR_FROM k)).set .PWR_D_LAST_FAIL k 3).set .X_PWR_HELD_OFF k 0
    else d) d.syncParents
  Dev.forList (g ++ below) (fun k d => d.failBlocks k) d

/-- R522: the domain has a PLL: engine-common and tile-common. -/
def hasPll (k : Nat) : Bool := domClass k == 2 || domClass k == 3

/-- R522: how long an attempt lasts at least: the clocks of a HOLD domain, the regulator, or a PLL, whose timeout runs from a step
that follows the regulator's. -/
def attemptLimit (src : Nat) (pll : Bool) : Nat := if src = 1 then 10 * us else if pll then 2 * ms else 200 * us

/-- R522: an attempt of domain `k`, whose ancestors are ON, fails: power is removed for 1 ms, or the wake has failed for good. -/
def Dev.attemptEnds (k : Nat) (late : Bool) (d : Dev) : Dev :=
  let d := ((d.set .X_PWR_HELD_OFF k 1).set .X_PWR_RETRY_CLK k d.clk).set .PWR_D_LAST_FAIL k (if late then 2 else 1)
  if d.get .PWR_D_STATUS_ATTEMPT k = 3 then d.wakeFailed (d.sleepGroup k) else d

/-- WAKE_ATTEMPT_FAIL (R522): an attempt ends at its regulator timeout, or with `pll` at a PLL timeout or the 8 ms of DARK; that of a
HOLD domain ends when its clocks do not run in time. -/
def Dev.attemptFail (d : Dev) (k : Nat) (pll : Bool) : Dev :=
  let src := d.get .X_PWR_FROM k
  if d.dom k = pwWAKING ∧ !d.on .X_PWR_HELD_OFF k ∧ (ancestors k).all (fun a => d.domOn a) ∧ (src = 1 ∨ !pll ∨ hasPll k) then
    d.onTime (d.get .X_PWR_BEGAN k + attemptLimit src pll) (Dev.attemptEnds k (pll || src == 1))
  else d

/-- R522: a fresh wake of a failed domain; a sleeping one starts as usual. -/
def Dev.retryOne (d : Dev) (k code : Nat) : Dev :=
  if d.dom k = pwFAILED then
    let d := ((d.set .PWR_D_STATUS_STATE k pwWAKING).set .X_PWR_BEGAN k d.clk).set .PWR_D_LAST_WAKE_SRC k code
    (d.setAll [.PWR_D_STATUS_ATTEMPT, .X_PWR_HELD_OFF] k 0).syncParents
  else d.wakeOne k code

/-- WAKE_RETRY (R522): PWR_D_CMD.RETRY, ignored outside WAKE_FAILED. -/
def Dev.retryWake (d : Dev) (k : Nat) : Dev :=
  if d.domDead k then
    let d := Dev.forList (ancestors k).reverse (fun a d => d.retryOne a (if d.dom a = pwFAILED then 9 else 10)) d
    let d := Dev.forList (d.sleepGroup k) (fun m d => d.retryOne m 9) d
    Dev.each 64 (fun n d => d.syncTx n) d
  else d

/-! ## The POWER section (R517, R524) -/

/-- R518: after a POWER change, each domain whose present state is no longer permitted wakes, with code 7. -/
def Dev.powerReplan (d : Dev) : Dev :=
  Dev.each 158 (fun k d =>
    let s := if d.dom k = pwENTERING then d.get .PWR_D_STATUS_GOAL k else d.dom k
    if (d.domAsleep k || d.dom k == pwENTERING) && !bitAt (d.get .PWR_D_CFG_PERMIT k) (s - 1) then d.wake k 7 else d) d

/-- R510, R511: a horizon is written for every member of the group of domain `k`. -/
def Dev.putHorizon (k v : Nat) (d : Dev) : Dev :=
  Dev.forList (d.sleepGroup k) (fun m d =>
    let finite := v ≠ 0 ∧ v ≠ 0xFFFFFFFF
    ((d.set .PWR_D_HORIZON_HORIZON m v).set .X_PWR_HOR_SET m (b2n (decide finite))).set .X_PWR_HOR_END m
      (if finite then d.clk + v * us else 0)) d

/-! ## Commands -/

/-- HORIZON_WRITE (R510): a horizon of `v` µs for domain `k`. -/
def execHorizonWrite (k : Fin 158) (v : Word) (s : State) : Host.Outcome State Fault Refusal :=
  s.run fun d =>
    let d := Dev.putHorizon k v.toNat d
    if v = 0 then d.wake k 8 else d

/-- HORIZON_EXPIRE (R509): the horizon of domain `k` expires and becomes 0. -/
def execHorizonExpire (k : Fin 158) (s : State) : Host.Outcome State Fault Refusal :=
  s.run fun d =>
    if d.on .X_PWR_HOR_SET k then d.onTime (d.get .X_PWR_HOR_END k) fun d => Dev.putHorizon k 0 d else d

/-- TIMER_WAKE (R509): the next known event of the group of domain `k`, less the wake time of its state, is reached. -/
def execTimerWake (k : Fin 158) (s : State) : Host.Outcome State Fault Refusal :=
  s.run fun d =>
    if d.domAsleep k then
      match d.groupEvent (d.sleepGroup k) with
      | some e => d.onTime (e - wakeTime (d.dom k)) fun d => d.wake k 4
      | none => d
    else d

/-- SD_WAKE (R518): the link-activity detector of lane `n`, armed, sees signal detect rise. -/
def execSdWake (n : Fin 64) (s : State) : Host.Outcome State Fault Refusal :=
  s.run fun d =>
    if d.on .PWR_D_CFG_SD_WAKE (domRx n) && d.domOn (domEngine (engineOf n)) then d.wake (domRx n) 1 else d

/-- WAKE_RETRY_START (R522): 1 ms after a failed attempt the next one begins. -/
def execWakeRetryStart (k : Fin 158) (s : State) : Host.Outcome State Fault Refusal :=
  s.run fun d =>
    if d.dom k = pwWAKING ∧ d.on .X_PWR_HELD_OFF k then
      d.onTime (d.get .X_PWR_RETRY_CLK k + ms) fun d =>
        let d := ((d.set .X_PWR_HELD_OFF k 0).set .X_PWR_BEGAN k d.clk).addSat .PWR_D_STATUS_ATTEMPT k 1
        d.set .PWR_D_EVENTS_RETRIED k 1
    else d

/-- WAKE_RETRY (R522): PWR_D_CMD.RETRY of domain `k`. -/
def execWakeRetry (k : Fin 158) (s : State) : Host.Outcome State Fault Refusal :=
  s.run fun d => d.retryWake k

/-- PWR_CLEAR_STATS (R526). -/
def execPwrClearStats (k : Fin 158) (s : State) : Host.Outcome State Fault Refusal :=
  s.run fun d => d.setAll [.PWR_D_COUNTS_ENTRIES, .PWR_D_COUNTS_REFUSALS, .PWR_D_COUNTS_ABORTS] k 0

/-- REGULATOR_SETTLED (R501): the regulator of tile `t` reports: in a raise it is within 5 mV of the new voltage, and the
frequency switches; a lowering has reached its voltage, and the change is complete. -/
def execRegulatorSettled (t : Fin 4) (s : State) : Host.Outcome State Fault Refusal :=
  s.run fun d =>
    let v0 := d.get .X_LVL_V0 t
    let g := d.voltGoal t
    let far := (v0 - g) + (g - v0)
    if d.get .X_LVL_PHASE t = 1 then
      d.onTime (d.get .X_LVL_CLK t + far * us / 2) fun d => (d.set .X_LVL_PHASE t 0).levelDone t
    else if d.get .X_LVL_PHASE t = 2 then
      d.onTime (d.get .X_LVL_CLK t + (far - 1) * us / 2) fun d => d.set .X_LVL_PHASE t 3
    else d

end Sys2Proof.Machine
end

