-- ==== Sys2Proof/Machine/Timebase.lean ====
section
/-! DEFINITION. The time base (R27 to R29, R35 to R57, R589): postings, the tick period, setting POST_TIME, the ring, and
the clerks and postmasters. -/

namespace Sys2Proof.Machine

open Sys2Proof

/-! ## Postings (R35 to R38) -/

/-- R37: the scope is reserved, or its index out of range. -/
def scopeBad (scope index : Nat) : Bool :=
  scope == 7 || (scope == 1 && decide (3 < index)) || (scope == 2 && decide (7 < index))

/-- QUEUED follows the queue. -/
def Dev.showQueued (d : Dev) : Dev := d.set .TIME_POST_ERR_QUEUED 0 d.posts.length

/-- R36, R37: a posting request. DESIGN CHOICE (log entry 58): a request that is out of scope and also finds the queue full
sets both error bits. -/
def Dev.requestPosting (d : Dev) (scope index : Nat) : Dev :=
  let bad := scopeBad scope index
  let full := decide (32 ≤ d.posts.length)
  if bad || full then
    (d.when bad fun d => d.set .TIME_POST_ERR_SCOPE 0 1).when full fun d => d.set .TIME_POST_ERR_FULL 0 1
  else
    let seq := (d.get .TIME_POST_STATUS_SEQ_ACCEPTED 0 + 1) % 2 ^ 16
    let d := d.set .TIME_POST_STATUS_SEQ_ACCEPTED 0 seq
    Dev.showQueued { d with posts := d.posts ++ [(⟨seq, scope, index, d.clk⟩ : Posting)] }

/-- R36: the postings that take effect at the tick that begins now. -/
def Dev.postsDue (d : Dev) : List Posting := d.posts.filter fun p => decide (p.at_ + 2 * us ≤ d.clk)

/-- R14, R466: a posting's tick has begun: the settings of PH_T_CFG as staged now are those that category 7 makes live. -/
def Dev.targetsPosted (d : Dev) : Dev :=
  let d := Dev.each 74 (fun x d =>
    (d.set .X_PH_NEW_COUNT x (d.get .PH_T_CFG_MOD_COUNT x)).set .X_PH_NEW_TIME x (d.get .PH_T_CFG_MOD_TIME x)) d
  d.setEach .X_PH_POST (List.range 74) 1

/-- R38, R46: the postings `ps`, at the front of the queue, go live together. DESIGN CHOICE (log entry 59): postings that an
overrun of category 0 has carried over make live the contents as staged at the tick at which they go live. -/
def Dev.postLive (d : Dev) (ps : List Posting) : Dev :=
  match ps.getLast? with
  | none => d
  | some last =>
    let d := { d with posts := d.posts.drop ps.length }
    let d := (d.applyPosting 1 fun k => ps.any fun p => d.covers p k).set .TIME_POST_STATUS_SEQ_DONE 0 last.seq
    (if ps.any fun p => p.scope == 0 || p.scope == 6 then d.targetsPosted else d).showQueued

/-- R38, R46: the postings due at a tick go live together; under overrun they carry over together. -/
def Dev.postTick (done : Bool) (d : Dev) : Dev :=
  if d.postsDue.isEmpty then d
  else if done then d.postLive d.postsDue
  else d.set .TIME_POST_ERR_CARRIED 0 1

/-- R466: posted settings of PH_T_CFG of one target go live; a changed setting releases what is held. -/
def Dev.postTarget (x : Nat) (d : Dev) : Dev :=
  let c := d.get .X_PH_NEW_COUNT x
  let t := d.get .X_PH_NEW_TIME x
  let changed := c != d.lget .PH_T_CFG_MOD_COUNT x || t != d.lget .PH_T_CFG_MOD_TIME x
  let d := d.set .X_PH_POST x 0
  if changed then
    let d := (d.lset .PH_T_CFG_MOD_COUNT x c).lset .PH_T_CFG_MOD_TIME x t
    if d.on .PH_T_STATUS_HELD x then d.release x else d
  else d

/-- R466: category 7 of a tick; `late` names the targets whose work is not ready. -/
def Dev.targetTick (late : Nat → Bool) (d : Dev) : Dev :=
  Dev.each 74 (fun x d => if d.on .X_PH_POST x && !late x then d.postTarget x else d) d

/-! ## Jumps of POST_TIME (R49, R54, R306, R353) -/

/-- POST_TIME takes value `v` at once: the tile timers go on until they are aligned, active taps record the step and drop
their reference pairs, a change of k and an armed load wait for the next multiple of 2^28, and each multiple that POST_TIME
reaches from now on has its pulse (R51). -/
def Dev.jumpTime (d : Dev) (v : Nat) : Dev :=
  let v0 := d.now
  let d := (d.setNow v).timersStepped v0
  let d := if d.get .X_K_NEXT 0 = 0 then d else d.set .X_K_FROM 0 d.now
  let d := (if d.on .TIME_SET_CTRL_ARMED 0 then d.set .X_SET_FROM 0 d.now else d).set .X_RING_PULSED 0 0
  Dev.each 8 (fun t d =>
    if d.tapActive t then { d with refs := d.refs.filter fun r => r.tap != t }.set .X_CAP_STEP t 1 else d) d

/-! ## The ring (R50 to R56) -/

/-- States of TIME_RING_STATUS.STATE. -/
def riFREE : Nat := 0
def riACQUIRE : Nat := 1
def riLOCKED : Nat := 2
def riHOLDOVER : Nat := 3

/-- The ring state. -/
def Dev.ringState (d : Dev) : Nat := d.get .TIME_RING_STATUS_STATE 0
/-- The live ring role: 0 standalone, 1 master, 2 member. -/
def Dev.role (d : Dev) : Nat := d.get .TIME_TICK_CFG_ROLE 0

/-- R53: the ring state changes. -/
def Dev.toRing (d : Dev) (st : Nat) : Dev :=
  if d.ringState = st then d
  else
    let d := d.set .TIME_RING_STATUS_STATE 0 st
    if d.on .X_SYS_OFF 0 then d else d.raise 5

/-- R52: the phase error of an edge with time stamp `a`, less TIME_RING_DELAY: what remains of it at the nearest multiple
of 2^28. -/
def phaseError (a : Nat) : Int :=
  let r : Nat := a % 2 ^ 28
  if r < 2 ^ 27 then (r : Int) else (r : Int) - 2 ^ 28

/-- R53, R54: a small error of a LOCKED or HOLDOVER member is slewed out. -/
def Dev.slewOut (d : Dev) (e : Int) : Dev := (d.set .X_SLEW 0 e.natAbs).set .X_SLEW_DOWN 0 (b2n (decide (0 < e)))

/-- R52, R53: a member sees a RING_SYNC edge. -/
def Dev.ringEdge (d : Dev) (stamp : Nat) : Dev :=
  let a := (stamp + 2 ^ 64 - d.get .TIME_RING_DELAY_DELAY 0) % 2 ^ 64
  let e := phaseError a
  let small := decide (e.natAbs ≤ 2 * ns)
  let d := (d.set .X_RING_STAMP 0 a).set .X_RING_SMALL 0 (b2n small)
  let d := (d.setAll [.X_RING_SEEN, .X_RING_MSG_OPEN] 0 1).set .TIME_RING_STATUS_MISSED 0 0
  let d := d.set .TIME_RING_STATUS_PHASE_ERR 0 (ux 16 (clampI (-32767) 32767 e))
  if d.ringState = riLOCKED ∨ d.ringState = riHOLDOVER then
    if small then (d.slewOut e).toRing riLOCKED else (d.set .X_RING_STEPPED 0 0).toRing riACQUIRE
  else d

/-- R53, R54: POST_TIME steps to the master's value at the pulse plus what has elapsed since. -/
def Dev.ringStep (d : Dev) (master : Nat) : Dev :=
  let v := (master + d.now + 2 ^ 64 - d.get .X_RING_STAMP 0) % 2 ^ 64
  let d := ((d.jumpTime v).set .X_RING_STEPPED 0 1).set .X_SLEW 0 0
  d.set .X_TICK_DUE 0 ((v + d.period / 2 + d.period - 1) / d.period * d.period)

/-- R589: a valid time message. -/
def messageValid (bytes : List Byte) : Bool :=
  bytes.length == 13 && bytes.getD 0 0 == 0x5A#8 &&
    ofLE (bytes.drop 11) == crcField (crc16 (bitsOfBytes ((bytes.drop 1).take 10)))

/-- R53, R56: a valid time message after a pulse. -/
def Dev.ringMessage (d : Dev) (bytes : List Byte) : Dev :=
  let differs := ofLE ((bytes.drop 9).take 1) != d.get .TIME_TICK_CFG_PERIOD_K 0
  let was := d.on .TIME_RING_STATUS_PERIOD_MISMATCH 0
  let d := d.set .TIME_RING_STATUS_PERIOD_MISMATCH 0 (b2n differs)
  let d := if differs && !was then d.raise 5 else d
  if d.ringState = riACQUIRE then
    if d.on .X_RING_STEPPED 0 && d.on .X_RING_SMALL 0 then d.toRing riLOCKED
    else d.ringStep (ofLE ((bytes.drop 1).take 8))
  else d

/-- R53, R55: a plan with ring role `role` is accepted; `was` is the role before it. -/
def Dev.ringReplan (d : Dev) (was role : Nat) : Dev :=
  let d := d.set .TIME_RING_STATUS_CONFLICT 0 0
  if role = 2 ∧ (was ≠ 2 ∨ d.ringState = riFREE) then
    (d.setAll [.X_RING_STEPPED, .X_RING_SEEN, .X_RING_MSG_OPEN, .TIME_RING_STATUS_MISSED] 0 0).toRing riACQUIRE
  else if role ≠ was then (d.set .X_RING_MSG_DUE 0 0).toRing riFREE
  else d

/-- R53: at a multiple of 2^28 a member counts a pulse that has not come since the one before. DESIGN CHOICE (log entry 60):
a pulse is missing when the member's own POST_TIME reaches a multiple of 2^28 with no edge since the previous one. -/
def Dev.ringTick (d : Dev) : Dev :=
  if d.now % 2 ^ 28 < 6554 then
    let d := if d.role = 2 ∧ d.ringState ≠ riFREE ∧ !d.on .X_RING_SEEN 0 then d.addSat .TIME_RING_STATUS_MISSED 0 1 else d
    d.set .X_RING_SEEN 0 0
  else d

/-- How far POST_TIME has passed the first multiple of 2^28 after `t`; none before it (R44, R49). -/
def Dev.past28 (d : Dev) (t : Nat) : Option Nat :=
  let gone := (d.now + 2 ^ 64 - t) % 2 ^ 64
  if next28 t - t ≤ gone then some (gone - (next28 t - t)) else none

/-- R44: a new exponent goes live at this tick: it is the first that begins at a multiple of 2^28 since the acceptance. -/
def Dev.periodDue (d : Dev) : Bool := d.get .X_K_NEXT 0 != 0 && (d.past28 (d.get .X_K_FROM 0)).isSome

/-- R44: the new exponent goes live. -/
def Dev.periodTake (d : Dev) : Dev := (d.set .TIME_TICK_CFG_PERIOD_K 0 (d.get .X_K_NEXT 0 - 1)).set .X_K_NEXT 0 0

/-- R49: POST_TIME has reached the first multiple of 2^28 since the arm. -/
def Dev.loadDue (d : Dev) : Bool := d.on .TIME_SET_CTRL_ARMED 0 && (d.past28 (d.get .X_SET_FROM 0)).isSome

/-- R49: bits 63:28 of POST_TIME take those of the value; bits 27:0 keep counting. DESIGN CHOICE (log entry 61): the value is
TIME_SET_VALUE as it stands at the load, and a refused ARM leaves an armed load in place. -/
def Dev.loadTake (d : Dev) : Dev :=
  let past := (d.past28 (d.get .X_SET_FROM 0)).getD 0
  (d.jumpTime ((d.get .TIME_SET_VALUE 0 / 2 ^ 28 * 2 ^ 28 + past) % 2 ^ 64)).set .TIME_SET_CTRL_ARMED 0 0

/-! ## Clerks (R28) -/

/-- R28, R521: the heartbeats of a tick; `m` names the clerks whose heartbeat is missing. A clerk whose domain is not ON
is not counted. -/
def Dev.heartbeats (d : Dev) (m : Nat) : Dev :=
  Dev.each 8 (fun c d =>
    if !d.domOn (domPool (c / 2)) then d
    else if bitAt m c then d.addSat .X_CLERK_SILENT c 1 else d.set .X_CLERK_SILENT c 0) d

/-! ## Commands -/

/-- POSTING_REQUEST (R36): a write to TIME_POST_REQ. -/
def execPostingRequest (scope : BitVec 3) (index : BitVec 6) (s : State) : Host.Outcome State Fault Refusal :=
  s.run fun d => d.requestPosting scope.toNat index.toNat

/-- TIME_SET_ARM (R49): TIME_SET_CTRL.ARM. -/
def execTimeSetArm (s : State) : Host.Outcome State Fault Refusal :=
  s.run fun d =>
    if d.role = 2 ∨ d.get .TIME_SET_VALUE 0 % 2 ^ 28 ≠ 0 then d.set .TIME_SET_CTRL_REFUSED 0 1
    else ((d.set .TIME_SET_CTRL_REFUSED 0 0).set .TIME_SET_CTRL_ARMED 0 1).set .X_SET_FROM 0 d.now

/-- RING_SYNC_DRIVE (R51): the master's pulse in the cycle in which POST_TIME reaches a multiple of 2^28. -/
def execRingSyncDrive (s : State) : Host.Outcome State Fault Refusal :=
  s.run fun d =>
    let m := d.now / 2 ^ 28
    if d.role = 1 ∧ !d.on .TIME_RING_STATUS_CONFLICT 0 ∧ d.now % 2 ^ 28 < 6554 ∧ d.get .X_RING_PULSED 0 ≠ m + 1 then
      let d := (d.set .X_RING_PULSED 0 (m + 1)).set .X_RING_PULSE_CLK 0 d.clk
      (d.set .X_RING_MSG_DUE 0 1).send .ringSync
    else d

/-- The body of the time message of a pulse at POST_TIME `t`. -/
def timeMessage (t k position : Nat) : List Byte :=
  let body := leBytes 8 t ++ [BitVec.ofNat 8 k, BitVec.ofNat 8 position]
  0x5A#8 :: body ++ leBytes 2 (crcField (crc16 (bitsOfBytes body)))

/-- RING_MSG_SEND (R51, R589): 1.024 µs after the pulse. -/
def execRingMsgSend (s : State) : Host.Outcome State Fault Refusal :=
  s.run fun d =>
    if d.on .X_RING_MSG_DUE 0 then
      d.onTime (d.get .X_RING_PULSE_CLK 0 + 1048576) fun d =>
        let t := (d.now + 2 ^ 64 - (d.clk - d.get .X_RING_PULSE_CLK 0)) % 2 ^ 64
        (d.set .X_RING_MSG_DUE 0 0).send
          (.ringMsg (timeMessage t (d.get .TIME_TICK_CFG_PERIOD_K 0) (d.get .TIME_TICK_CFG_POSITION 0)))
    else d

/-- RING_SYNC_RECEIVED (R52, R53): a member that samples RING_SYNC sees an edge with time stamp `stamp`. -/
def execRingSyncReceived (stamp : DWord) (s : State) : Host.Outcome State Fault Refusal :=
  s.run fun d => if d.role = 2 ∧ d.ringState ≠ riFREE then d.ringEdge stamp.toNat else d

/-- RING_TIME_MESSAGE (R589): the bytes that follow a pulse; any but a valid message change nothing. -/
def execRingTimeMessage (bytes : List Byte) (s : State) : Host.Outcome State Fault Refusal :=
  s.run fun d =>
    if d.role = 2 ∧ d.ringState ≠ riFREE ∧ d.on .X_RING_MSG_OPEN 0 then
      let d := d.set .X_RING_MSG_OPEN 0 0
      if messageValid bytes then d.ringMessage bytes else d
    else d

/-- RING_HOLDOVER (R53): four consecutive pulses are missing. -/
def execRingHoldover (s : State) : Host.Outcome State Fault Refusal :=
  s.run fun d =>
    if d.ringState = riLOCKED ∧ 4 ≤ d.get .TIME_RING_STATUS_MISSED 0 then d.toRing riHOLDOVER else d

/-- RING_CONFLICT (R55): a master sees a pulse that it did not drive. -/
def execRingConflict (s : State) : Host.Outcome State Fault Refusal :=
  s.run fun d =>
    if d.role = 1 ∧ !d.on .TIME_RING_STATUS_CONFLICT 0 then
      ((d.set .TIME_RING_STATUS_CONFLICT 0 1).setAll [.X_RING_MSG_DUE, .TIME_RING_STATUS_STATE] 0 0).raise 5
    else d

/-- CLERK_RESTART (R28): postmaster 0 restarts clerk `k` of tile `t` after four missing heartbeats. -/
def execClerkRestart (t : Fin 4) (k : Fin 2) (s : State) : Host.Outcome State Fault Refusal :=
  s.run fun d =>
    let c := 2 * t.val + k.val
    if 4 ≤ d.get .X_CLERK_SILENT c then
      let d := ((d.set .X_CLERK_SILENT c 0).orBits .TIME_CLERK_STATUS_RESTARTED 0 (2 ^ c)).addSat .TIME_CLERK_STATUS_COUNT 0 1
      ((d.setEach .X_LG_PARTIAL (lanesOf c) 1).raiseTile t 0).resetTarget (64 + c)
    else d

/-- POSTMASTER_RESTART (R29, R467): postmaster `k` restarts. -/
def execPostmasterRestart (k : Fin 2) (s : State) : Host.Outcome State Fault Refusal :=
  s.run fun d => d.resetTarget (72 + k)

end Sys2Proof.Machine
end

