-- ==== Sys2Proof/Machine/Plan.lean ====
section
/-! DEFINITION. The sorting plan: defaults of absent sections, acceptance and re-plans (R40, R66, R76, R82 to R87), with what
each section makes live (R231, R295, R309, R366, R406, R417, R469, R524, R544). -/

namespace Sys2Proof.Machine

open Sys2Proof

/-! ## Section bodies -/

/-- Bytes of some numbers. -/
def bytesOf (l : List Nat) : List Byte := l.map fun n => BitVec.ofNat 8 n
/-- Byte `i`, and 16 and 32 bits from byte `i`, of a body. -/
def u8 (b : List Byte) (i : Nat) : Nat := (b.getD i 0).toNat
def u16 (b : List Byte) (i : Nat) : Nat := ofLE ((b.drop i).take 2)
def u32 (b : List Byte) (i : Nat) : Nat := ofLE ((b.drop i).take 4)
/-- Record `k` of `n` bytes after a head of `h` bytes. -/
def recordOf (b : List Byte) (h n k : Nat) : List Byte := (b.drop (h + n * k)).take n

/-- R231: SPREAD when it is absent. -/
def spreadDefault : List Byte :=
  bytesOf (List.replicate 8 3 ++ List.replicate 8 1 ++ List.replicate 8 6) ++ leBytes 2 64 ++ bytesOf [4, 16] ++ leBytes 2 16 ++
    bytesOf [40, 0] ++ ([64, 256, 1024, 4096, 16384].map fun x => leBytes 2 x).flatten ++ List.replicate 6 0
/-- R295: COURIER when it is absent. -/
def courierDefault (used : Nat → Bool) : List Byte :=
  bytesOf [1, 64, 58, 0] ++ ((List.range 64).map fun n =>
    bytesOf [2, if used (engineOf n) then 7 else 0, 0, 0] ++ List.replicate 48 0x22#8 ++ List.replicate 48 0 ++
      List.replicate 48 0x22#8 ++ List.replicate 48 0).flatten
/-- R309: CAPTURE when it is absent. SIZE 0xFFFFFFFF stands for the rest of the installed capacity. -/
def captureDefault : List Byte :=
  ([(0, 4), (4, 16), (20, 16), (36, 0xFFFFFFFF)].map fun r => leBytes 4 r.1 ++ leBytes 4 r.2 ++ List.replicate 8 0).flatten ++
    (List.replicate 8 (bytesOf (255 :: List.replicate 13 0) ++ leBytes 2 0x88B5)).flatten ++ bytesOf [255, 255, 0, 0] ++
    (List.replicate 8 (bytesOf [255, 0, 0, 0])).flatten
/-- R469: PIGEONHOLE when it is absent. -/
def pigeonholeDefault : List Byte :=
  bytesOf [1, 1, 0, 0] ++ leBytes 2 0x7F00 ++ (List.replicate 1023 (leBytes 2 8)).flatten ++ bytesOf [0, 1] ++ leBytes 2 1 ++
    List.replicate 4 0
/-- R544: THERMAL when it is absent. -/
def thermalDefault : List Byte :=
  leBytes 2 30 ++ bytesOf [3, 6, 4, 20, 0x06, 0x14, 0x22, 0x31, 0, 0] ++
    (List.replicate 2 (([920, 970, 1020, 1070, 1120].map fun x => leBytes 2 x).flatten ++ List.replicate 2 0)).flatten
/-- R417: LEDGER when it is absent. -/
def ledgerDefault (used : Nat → Bool) : List Byte :=
  bytesOf [20, 64] ++ leBytes 2 720 ++ List.replicate 4 0 ++ ((List.range 64).map fun n =>
    bytesOf [if used (engineOf n) then 0x63 else 0, 255, 255, 8, 16, 3] ++ leBytes 2 2048 ++ leBytes 2 8192 ++ bytesOf [4, 4] ++
      ([80, 215, 256, 64336, 800, 0].map fun x => leBytes 2 x).flatten).flatten
/-- R406: CAL when it is absent. -/
def calDefault : List Byte := ((List.range 5).map fun c => bytesOf [if c = 4 then 15 else 7, 30, 0, 0, 0, 0, 0, 0]).flatten

/-- R66: the defaults of an absent section, by its type. -/
def defaultBody (used : Nat → Bool) : Nat → List Byte
  | 2 => spreadDefault
  | 3 => courierDefault used
  | 4 => captureDefault
  | 5 => pigeonholeDefault
  | 6 => List.replicate 1272 0
  | 7 => thermalDefault
  | 8 => List.replicate 1288 0
  | 9 => ledgerDefault used
  | 10 => calDefault
  | _ => []

/-- The body of a section as a plan gives it. -/
def givenBody (ss : List PlanSec) (t : Nat) : Option (List Byte) := (ss.find? fun x => x.type == t).map (·.body)
/-- Lane mode of engine `e` in a plan; 0 without one. -/
def planMode (ss : List PlanSec) (e : Nat) : Nat := u8 ((givenBody ss 1).getD []) (8 * e)
/-- The engine is used. -/
def planUsed (ss : List PlanSec) (e : Nat) : Bool := planMode ss e != 0
/-- The body of a section, its defaults if it is absent. -/
def sectionBody (ss : List PlanSec) (t : Nat) : List Byte := (givenBody ss t).getD (defaultBody (planUsed ss) t)
/-- Spread width code of an engine. -/
def planWidth (ss : List PlanSec) (e : Nat) : Nat := if planUsed ss e then min 3 (u8 (sectionBody ss 2) e) else 0
/-- HOST_A, HOST_B and LOOP of a lane. -/
def planLane (ss : List PlanSec) (n j : Nat) : Nat :=
  if planUsed ss (engineOf n) then u8 ((givenBody ss 1).getD []) (64 + 4 * n + j) else if j < 2 then 255 else 0

/-- R83: a section differs from the one of another plan. A section that is absent in both is unchanged. -/
def sectionChanged (old new : List PlanSec) (t : Nat) : Bool :=
  match givenBody old t, givenBody new t with
  | none, none => false
  | _, _ => sectionBody old t != sectionBody new t

/-! ## Engines (R40, R85, R169) -/

/-- R35, R40: the staged registers of an engine: its own, those of its lanes and ports, and those of the host lanes that
serve it. -/
def Dev.engineKey (d : Dev) (e : Nat) (k : Key) : Bool :=
  k.staged &&
  match k.f.blk with
  | .lrx | .ltx | .hostP | .courL | .courMap => engineOf k.inst == e
  | .spr => k.inst == e
  | .hostL =>
    match d.portOf k.inst with
    | some n => engineOf n == e
    | none => false
  | _ => false

/-- R231: MIN and MAX of the groups of an engine, staged and live. -/
def Dev.putMinMax (d : Dev) (ss : List PlanSec) (e : Nat) : Dev :=
  let b := sectionBody ss 2
  Dev.each 8 (fun q d =>
    let g := 8 * e + q
    let d := (d.set .POOL_G_CTRL_MIN g (u8 b (8 + e))).lset .POOL_G_CTRL_MIN g (u8 b (8 + e))
    (d.set .POOL_G_CTRL_MAX g (u8 b (16 + e))).lset .POOL_G_CTRL_MAX g (u8 b (16 + e))) d

/-- R295: the staged COURIER settings of a lane. -/
def Dev.stageCourier (d : Dev) (b : List Byte) (n : Nat) : Dev :=
  let r := recordOf b 4 196 n
  let d := (d.set .LTX_COUR_DEPTH n (u8 r 0)).set .COUR_L_CTRL_TX_EN n (u8 r 1 % 2)
  let d := (d.set .COUR_L_CTRL_RX_EN n (u8 r 1 / 2 % 2)).set .COUR_L_CTRL_KNOCK_EN n (u8 r 1 / 4 % 2)
  Dev.each 12 (fun i d =>
    let d := (d.set .COUR_TXMAP_A_CODES (12 * n + i) (u32 r (4 + 4 * i))).set .COUR_TXMAP_B_CODES (12 * n + i) (u32 r (52 + 4 * i))
    (d.set .COUR_RXMAP_A_CODES (12 * n + i) (u32 r (100 + 4 * i))).set .COUR_RXMAP_B_CODES (12 * n + i) (u32 r (148 + 4 * i))) d

/-- The fields that COURIER sets in a lane. -/
def courierFields : List F := [.LTX_COUR_DEPTH, .COUR_L_CTRL_TX_EN, .COUR_L_CTRL_RX_EN, .COUR_L_CTRL_KNOCK_EN, .COUR_TXMAP_A_CODES,
  .COUR_TXMAP_B_CODES, .COUR_RXMAP_A_CODES, .COUR_RXMAP_B_CODES]

/-- R67: the staged loopbacks of a lane. -/
def Dev.stageLoops (d : Dev) (ss : List PlanSec) (n : Nat) : Dev :=
  let l := planLane ss n 2
  ((d.set .HOST_P_CTRL_NEAR_LOOP n (l % 2)).set .LTX_CTRL_FAR_LOOP n (l / 2 % 2)).set .LRX_CTRL_ANALOG_LOOP n (l / 4 % 2)

/-- R554: a snapshot was restored at this cold power-up. -/
def Dev.snapBack (d : Dev) : Bool := d.on .X_SYS_COLD 0 && d.on .SYS_BOOT_STATUS_SNAP_USED 0
/-- R553: area 7 was restored at the reset before this first acceptance. -/
def Dev.powerBack (d : Dev) : Bool :=
  d.on .X_SYS_FIRST 0 && !d.on .X_SYS_COLD 0 && bitAt (d.get .SYS_RESET_CAUSE_RESTORED 0) 7
/-- R555: at the first acceptance after a reset, whether the settings with reset "kept" have been restored, and whether those
with reset "plan" have. -/
def Dev.keptBack (d : Dev) : Bool :=
  d.on .X_SYS_FIRST 0 && (d.snapBack || bitAt (d.get .SYS_RESET_CAUSE_RESTORED 0) 1 ||
    bitAt (d.get .SYS_RESET_CAUSE_RESTORED 0) 2)
def Dev.stagedBack (d : Dev) : Bool :=
  d.on .X_SYS_FIRST 0 && (d.snapBack || bitAt (d.get .SYS_RESET_CAUSE_RESTORED 0) 1)

/-- The loopbacks of a lane as the plan has set them. -/
def Dev.showLoops (d : Dev) (n : Nat) : Dev :=
  let a := d.lget .LRX_CTRL_ANALOG_LOOP n
  ((d.set .LRX_STATUS_LOOPED n a).set .X_LRX_LOOP_BY n (2 * a)).set .X_LTX_FAR_BY n (2 * d.lget .LTX_CTRL_FAR_LOOP n)

/-- R40, R121, R555: the staged registers of an engine that restarts take their plan values or cold defaults, and the live
values follow. -/
def Dev.engineSettings (d : Dev) (ss : List PlanSec) (e : Nat) : Dev :=
  let c := d.engineKey e
  let d := if d.keptBack then d
    else { d with reg := d.reg.filter fun x => !(c x.1 && x.1.f.isKept) }
  let d := if d.stagedBack then d
    else
      let d := { (d.dropRecords fun k => c k || (k.f == .X_LTX_SWING && engineOf k.i == e)) with reg := d.reg.filter fun x => !(c x.1 && !x.1.f.isKept) }
      let d := Dev.forList (lanesOf e) (fun n d => (d.stageCourier (sectionBody ss 3) n).stageLoops ss n) d
      d.putMinMax ss e
  let d := d.takeStaged c
  let d := Dev.each 8 (fun q d => (d.post .POOL_G_CTRL_MIN (8 * e + q)).post .POOL_G_CTRL_MAX (8 * e + q)) d
  Dev.forList (lanesOf e) (fun n d => (d.showTx n).showLoops n) d

/-- R119, R169, R194: an engine restarts. A lane that is OFF starts once its receive domain has power. -/
def Dev.startEngine (d : Dev) (e : Nat) : Dev :=
  let d := d.set .X_ENG_WAIT e 0
  let d := Dev.forList (lanesOf e) (fun n d =>
    if d.rx n ≠ rxOFF then d.laneRestart n else if d.domOn (domRx n) then d.laneUp n else d) d
  let d := Dev.each 8 (fun q d => if d.groupExists (8 * e + q) then d.groupRestart (8 * e + q) else d.groupOff (8 * e + q)) d
  Dev.forList (lanesOf e) (fun n d => d.laneFollow n) (d.restartTx e)

/-- R85, R169: an engine that is to restart does so now if its engine-common domain is ON, else at the first tick after it is. -/
def Dev.restartEngine (d : Dev) (e : Nat) : Dev :=
  if d.domOn (domEngine e) then d.startEngine e
  else
    Dev.forList (lanesOf e) (fun n d => d.laneFollow n) ((d.set .X_ENG_WAIT e 1).set .X_LTX_START e 1)

/-- R169: what a tick does for an engine that waits for its domains. -/
def Dev.engineTick (e : Nat) (d : Dev) : Dev :=
  if d.on .X_ENG_WAIT e && d.domOn (domEngine e) then d.startEngine e else d

/-- The power domains of an engine. -/
def engineDomains (e : Nat) : List Nat := domEngine e :: ((lanesOf e).map domRx ++ (lanesOf e).map domTx)

/-- R499: the domains of an unused engine are OFF. -/
def Dev.domainsOff (d : Dev) (e : Nat) : Dev :=
  Dev.forList (engineDomains e) (fun k d =>
    (d.set .PWR_D_STATUS_STATE k pwOFF).setAll [.X_PWR_WANT, .X_PWR_LIVE, .X_PWR_HELD_OFF, .PWR_D_STATUS_HOLDOFF] k 0) d

/-- R76, R92 code U: an engine becomes unused. Its widths are still those of the plan before. -/
def Dev.stopEngine (d : Dev) (e : Nat) : Dev :=
  let d := Dev.each 8 (fun q d => d.groupOff (8 * e + q)) d
  let d := Dev.forList (lanesOf e) (fun n d => d.laneOff n) d
  let d := ((d.setAll [.SPR_CFG_MODE, .SPR_CFG_WIDTH, .SPR_CFG_GROUPS, .X_LTX_START, .X_ENG_WAIT] e 0).calEngineOff e).domainsOff e
  let d := d.syncParents
  let d := Dev.forList (lanesOf e) (fun n d =>
    ((((d.set .LTX_STATUS_PLL_LOCK n 0).squelchNow n).syncTx n).syncCourTx n).syncCourRx n) d
  d.lsOff e

/-! ## TIMEBASE and TOPOLOGY -/

/-- R44, R50, R53: TIMEBASE. -/
def Dev.putTimebase (d : Dev) (b : List Byte) : Dev :=
  let was := d.role
  let k := u8 b 0
  let d := if k = d.get .TIME_TICK_CFG_PERIOD_K 0 then d.set .X_K_NEXT 0 0 else (d.set .X_K_NEXT 0 (k + 1)).set .X_K_FROM 0 d.now
  let d := (d.set .TIME_TICK_CFG_ROLE 0 (u8 b 1)).set .TIME_TICK_CFG_POSITION 0 (u8 b 2)
  d.ringReplan was (u8 b 1)

/-- R85: an engine is touched by a new plan. -/
def Dev.touched (d : Dev) (ss : List PlanSec) (e : Nat) : Bool :=
  d.mode e != planMode ss e || d.get .SPR_CFG_WIDTH e != planWidth ss e ||
    (lanesOf e).any fun n => d.get .X_TOPO_A n != planLane ss n 0 || d.get .X_TOPO_B n != planLane ss n 1

/-- The host lanes that a plan gives to a lane. -/
def planHosts (ss : List PlanSec) (n : Nat) : List Nat := [planLane ss n 0, planLane ss n 1].filter fun h => decide (h < 128)

/-- The line lane that a plan gives a host lane to. -/
def planPort (ss : List PlanSec) (h : Nat) : Option Nat := (List.range 64).find? fun n => (planHosts ss n).contains h

/-- The host lanes of the capture-out records of a CAPTURE body. -/
def coutLanes (b : List Byte) : List Nat := ((List.range 8).map fun i => u8 b (64 + 16 * i)).filter fun h => decide (h < 128)

/-- R92 code H, R254: host lane `h` leaves its old role and takes the one of the new plan. -/
def Dev.putRole (ss : List PlanSec) (h : Nat) (d : Dev) : Dev :=
  let was := d.get .HOST_L_STATUS_ROLE h
  let port := planPort ss h
  let out := (coutLanes (sectionBody ss 4)).contains h
  let role := if port.isSome then rolePort else if out then roleCapture else roleIdle
  let owner := match port with | some n => n + 1 | none => 0
  if was = role ∧ d.get .X_HOST_PORT h = owner then d
  else
    let d := if was = roleCapture ∧ role = roleIdle then (d.set .X_COUT_END h 1).set .X_COUT_CLK h d.clk else (d.hostDown h).set .X_COUT_END h 0
    let d := (d.set .HOST_L_STATUS_ROLE h role).set .X_HOST_PORT h owner
    if role = roleCapture then d.set .X_COUT_CLK h d.clk else d

/-- The lane records of a plan. -/
def Dev.putTopology (d : Dev) (ss : List PlanSec) : Dev :=
  Dev.each 64 (fun n d => (d.set .X_TOPO_A n (planLane ss n 0)).set .X_TOPO_B n (planLane ss n 1)) d

/-- R504: the voltage of the lane domains of an engine at a lane mode, mV; 0 for an unused engine. -/
def laneVolt : Nat → Nat
  | 1 => 780 | 2 => 720 | 3 => 680 | _ => 0

/-- R504: the voltage of the lane domains of engine `e`; while it moves after a restart that changed the mode, at most 10 µs, no
value is stated. -/
def Dev.laneVoltage (d : Dev) (e : Nat) : Option Nat :=
  if d.get .X_ENG_VOLT e = laneVolt (d.mode e) ∨ d.get .X_ENG_VOLT_CLK e + 10 * us ≤ d.clk then some (laneVolt (d.mode e))
  else none

/-- Mode and widths of an engine that is used. What its lanes saved in another mode is of no more use (R120). -/
def Dev.putEngine (d : Dev) (ss : List PlanSec) (e : Nat) : Dev :=
  let w := planWidth ss e
  let d := Dev.forList (lanesOf e) (fun n d =>
    if d.get .X_LRX_SAVED_MODE n = planMode ss e then d else d.set .X_LRX_SAVED n 0) d
  let d := if d.mode e = planMode ss e then d
    else (d.set .X_ENG_VOLT e (laneVolt (d.mode e))).set .X_ENG_VOLT_CLK e d.clk
  ((d.set .SPR_CFG_MODE e (planMode ss e)).set .SPR_CFG_WIDTH e w).set .SPR_CFG_GROUPS e (8 / 2 ^ w)

/-- R337: the taps of the lanes of a touched engine end. -/
def Dev.endEngineTaps (d : Dev) (ss : List PlanSec) (e : Nat) : Dev :=
  d.endTaps (fun t => engineOf (d.tapLane t) == e) (if planUsed ss e then 4 else 6)

/-- R84, R85, R87: TOPOLOGY and the widths. At the first acceptance after a reset every used engine restarts. DESIGN CHOICE (log
entry 65): an engine that becomes unused does not restart, so PLAN_RESTARTED does not show it. -/
def Dev.putEngines (d : Dev) (ss : List PlanSec) : Dev :=
  let go := (List.range 8).filter fun e => d.touched ss e || (planUsed ss e && (!d.on .X_PLAN_ON 0 || d.on .X_SYS_FIRST 0))
  let was := (List.range 8).map d.mode
  let d := Dev.forList go (fun e d => d.endEngineTaps ss e) d
  let off := (List.range 8).filter fun e => !planUsed ss e && (go.contains e || d.on .X_SYS_FIRST 0)
  let d := Dev.forList off (fun e d => d.stopEngine e) d
  let on := go.filter fun e => planUsed ss e
  let d := Dev.forList on (fun e d => Dev.forList (lanesOf e) (fun n d => d.laneDrop n) d) d
  let d := Dev.forList on (fun e d => Dev.each 8 (fun q d => d.groupOff (8 * e + q)) d) d
  let d := d.putTopology ss
  let d := Dev.forList on (fun e d => d.putEngine ss e) d
  let d := Dev.each 128 (Dev.putRole ss) d
  let d := Dev.forList on (fun e d => Dev.forList (((lanesOf e).map fun n => planHosts ss n).flatten) Dev.hostDown d) d
  let d := Dev.forList on (fun e d => d.engineSettings ss e) d
  let d := Dev.forList on (fun e d =>
    if was.getD e 0 = 0 then
      let d := if d.on .X_SYS_FIRST 0 && !d.on .X_SYS_COLD 0 then d else Dev.calEngineOn e d
      Dev.forList (engineDomains e) (fun k d => d.wake k 7) d
    else Dev.calEngineRestart e (was.getD e 0 != planMode ss e) d) d
  let d := Dev.forList on (fun e d => (d.restartEngine e).lsAccept e) d
  d.set .PLAN_RESTARTED_ENGINES 0 ((on.map fun e => 2 ^ e).sum)

/-- R85: a change of LOOP alone goes live as a posting to the lanes concerned. -/
def Dev.putLoops (d : Dev) (old new : List PlanSec) (restarted : Nat) : Dev :=
  let ns := (List.range 64).filter fun n =>
    !bitAt restarted (engineOf n) && planUsed new (engineOf n) && planLane old n 2 != planLane new n 2
  let d := Dev.forList ns (fun n d => d.stageLoops new n) d
  if ns.isEmpty then d
  else d.applyPosting 2 fun k =>
    ns.contains k.inst && (k.f == .LRX_CTRL_ANALOG_LOOP || k.f == .LTX_CTRL_FAR_LOOP || k.f == .HOST_P_CTRL_NEAR_LOOP)

/-! ## The other sections -/

/-- A staged field of a hitless section: its live value, and its staged value unless that has been restored (R553). -/
def Dev.putBoth (d : Dev) (f : F) (i v : Nat) : Dev := (if d.stagedBack then d else d.set f i v).lset f i v

/-- R231, R553: a register of the effort policy: its live value, and its staged value unless that has been restored after a warm
reset. -/
def Dev.putPolicy (d : Dev) (f : F) (i v : Nat) : Dev :=
  (if d.stagedBack && !d.snapBack then d else d.set f i v).lset f i v

/-- R231: the effort policy. -/
def Dev.putSpread (d : Dev) (ss : List PlanSec) : Dev :=
  let b := sectionBody ss 2
  let d := Dev.each 4 (fun t d =>
    let d := ((d.putPolicy .POOL_POLICY0_URGENT t (u16 b 24)).putPolicy .POOL_POLICY0_RESERVE t (u8 b 26)).putPolicy .POOL_POLICY0_HOLD t
      (u8 b 27)
    let d := (d.putPolicy .POOL_POLICY1_FLOOR t (u16 b 28)).putPolicy .POOL_POLICY0_FRAME_LIMIT t (u8 b 30)
    let d := (d.putPolicy .POOL_SCORE_THR_LOW (3 * t) (u16 b 32)).putPolicy .POOL_SCORE_THR_HIGH (3 * t) (u16 b 34)
    let d := (d.putPolicy .POOL_SCORE_THR_LOW (3 * t + 1) (u16 b 36)).putPolicy .POOL_SCORE_THR_HIGH (3 * t + 1) (u16 b 38)
    d.putPolicy .POOL_SCORE_THR_LOW (3 * t + 2) (u16 b 40)) d
  if d.stagedBack && !d.snapBack then d else Dev.each 8 (fun e d => d.putMinMax ss e) d

/-- R295: COURIER, for the lanes of `ns`. -/
def Dev.putCourier (d : Dev) (b : List Byte) (ns : List Nat) : Dev :=
  let d := ((d.putBoth .COUR_CTRL_PREEMPT 0 (u8 b 0 % 2)).putBoth .COUR_CTRL_THRESH 0 (u8 b 1)).putBoth .COUR_CTRL_KNOCK_THR 0 (u8 b 2)
  Dev.forList ns (fun n d =>
    let d := d.stageCourier b n
    let d := d.takeStaged fun k => k.inst == n && courierFields.contains k.f
    (d.syncCourTx n).syncCourRx n) d

/-- R86: whether a CAPTURE change removes the buffer, the queue or a capture-out lane of an active tap. `old` is the body
before it. -/
def Dev.tapCut (d : Dev) (old b : List Byte) (t : Nat) : Bool :=
  let r := recordOf b 196 4 t
  let room := if u32 b 52 = 0xFFFFFFFF then d.get .MEM_CFG_CAPACITY 0 - u32 b 48 else u32 b 52
  u32 old 48 != u32 b 48 ||
    decide (room * 16384 < d.lget .CAP_T_BUF_BASE_BLOCKS t + d.tapSize t) ||
    (d.tapMode t == 2 && u8 r 0 != d.lget .CAP_T_DRAIN_QUEUE t && u8 (recordOf old 196 4 t) 0 != u8 r 0) ||
    (d.tapMode t == 3 && (d.tapCout t).any fun i => u8 b (64 + 16 * i) != d.get .X_COUT_LANE i)

/-- R309: CAPTURE; `old` is the body before it. -/
def Dev.putCapture (d : Dev) (old b : List Byte) : Dev :=
  let d := d.endTaps (d.tapCut old b) 5
  let deft := u32 b 52 = 0xFFFFFFFF
  let d := Dev.each 4 (fun r d =>
    (d.set .X_REGION_BASE r (u32 b (16 * r))).set .X_REGION_SIZE r (if r = 3 ∧ deft then 0 else u32 b (16 * r + 4))) d
  let d := (d.set .X_REGION_DEF 0 (b2n (decide deft))).formRegions
  let d := Dev.each 8 (fun i d =>
    let r := recordOf b 64 16 i
    let d := (d.set .X_COUT_LANE i (u8 r 0)).set .X_COUT_DEST i (ofLE ((r.drop 2).take 6))
    (d.set .X_COUT_SRC i (ofLE ((r.drop 8).take 6))).set .X_COUT_TYPE i (u16 r 14)) d
  let d := Dev.each 2 (fun j d => d.set .X_XTRIG_DRIVER j (u8 b (192 + j))) d
  Dev.each 8 (fun t d =>
    (d.set .CAP_T_DRAIN_QUEUE t (u8 b (196 + 4 * t))).set .CAP_T_DRAIN_COUT t (u8 b (197 + 4 * t))) d

/-- R90: this device samples the XTRIG lines that it is to drive and does not drive yet; it stops driving any other. -/
def Dev.putXtrig (j : Nat) (d : Dev) : Dev :=
  let d := d.set .CAP_XTRIG_OUT_REFUSED j 0
  if d.get .X_XTRIG_DRIVER j = d.get .TIME_TICK_CFG_POSITION 0 then
    if d.on .CAP_XTRIG_OUT_DRIVING j then d else (d.set .X_XTRIG_WAIT j 1).set .X_XTRIG_WAIT_CLK j d.clk
  else (d.set .CAP_XTRIG_OUT_DRIVING j 0).set .X_XTRIG_WAIT j 0

/-- The targets that a PIGEONHOLE body defines: number, MOD_COUNT and MOD_TIME. -/
def planTargets (b : List Byte) : List (Nat × Nat × Nat) :=
  (List.range (u8 b 1)).map fun i => (u8 b (2052 + 8 * i), u8 b (2053 + 8 * i), u16 b (2054 + 8 * i))

/-- R86: a change of mode: everything in service counts as completed. -/
def Dev.finishAll (d : Dev) : Dev := Dev.forList d.service (fun v d => d.finish v.target v.source) d

/-- R469: a source's route. -/
def Dev.putSource (b : List Byte) (s : Nat) (d : Dev) : Dev :=
  let w := u16 b (4 + 2 * s)
  let was := d.get .PH_SRC_LEVEL s
  let d := ((d.set .PH_SRC_PRIORITY s (w % 16)).set .PH_SRC_LEVEL s (w / 16 % 2)).set .PH_SRC_TARGET s (w / 256 % 128)
  if was = 0 ∧ w / 16 % 2 = 1 then d.repend s else d

/-- R466, R468: the moderation of a target. -/
def Dev.putModeration (m : Nat × Nat × Nat) (d : Dev) : Dev :=
  let x := m.1
  let changed := d.lget .PH_T_CFG_MOD_COUNT x ≠ m.2.1 ∨ d.lget .PH_T_CFG_MOD_TIME x ≠ m.2.2
  let d := ((d.putBoth .PH_T_CFG_MOD_COUNT x m.2.1).putBoth .PH_T_CFG_MOD_TIME x m.2.2).set .PH_T_STATUS_DEFINED x 1
  let d := d.set .X_PH_POST x 0
  if changed ∧ d.on .PH_T_STATUS_HELD x then d.release x else d

/-- R86, R468, R469: PIGEONHOLE. -/
def Dev.putPigeonhole (d : Dev) (b : List Byte) : Dev :=
  let flip := d.get .PH_CFG_MODE 0 ≠ u8 b 0 % 2
  let ts := planTargets b
  let d := if flip then d.finishAll else d
  let d := Dev.each 74 (fun x d =>
    if d.on .PH_T_STATUS_DEFINED x && !(ts.any fun m => m.1 == x) then (d.resetTarget x).set .PH_T_STATUS_DEFINED x 0 else d) d
  let d := (d.set .PH_CFG_MODE 0 (u8 b 0 % 2)).set .PH_CFG_TARGETS 0 (u8 b 1)
  let d := Dev.each 1024 (Dev.putSource b) d
  let d := Dev.forList ts Dev.putModeration d
  let d := if flip then Dev.each 74 (fun x d => if d.on .PH_T_STATUS_HELD x then d.release x else d) d else d
  d.settleAll

/-- R510: a horizon of one domain takes its plan value. -/
def Dev.planHorizon (d : Dev) (k v : Nat) : Dev :=
  let finite := decide (v ≠ 0 ∧ v ≠ 0xFFFFFFFF)
  ((d.set .PWR_D_HORIZON_HORIZON k v).set .X_PWR_HOR_SET k (b2n finite)).set .X_PWR_HOR_END k
    (if finite then d.clk + v * us else 0)

/-- R524: POWER. The levels and horizons of area 7 stand at the first acceptance after a warm reset (R553). -/
def Dev.putPower (d : Dev) (b : List Byte) : Dev :=
  let back := d.powerBack
  let d := Dev.each 4 (fun t d =>
    if back then (if d.stagedBack then d else d.set .PWR_T_LEVEL_REQ t (u8 b t)) else d.putBoth .PWR_T_LEVEL_REQ t (u8 b t)) d
  let d := Dev.each 158 (fun k d =>
    let r := recordOf b 8 8 k
    let d := (d.set .PWR_D_CFG_PERMIT k (u8 r 0 % 16)).set .PWR_D_CFG_SD_WAKE k (u8 r 0 / 16 % 2)
    if back then d else d.planHorizon k (u32 r 4)) d
  d.powerReplan

/-- R544: THERMAL. -/
def Dev.putThermal (d : Dev) (b : List Byte) : Dev :=
  let d := ((d.set .X_THM_HYST 0 (u16 b 0)).set .THM_CFG_HYST 0 (min 255 (u16 b 0))).set .THM_CFG_DWELL 0 (u8 b 2)
  let d := ((d.set .THM_CFG_DEMAND_EXP 0 (u8 b 3)).set .THM_CFG_FAST_EXP 0 (u8 b 4)).set .THM_CFG_RATE 0 (u8 b 5)
  let d := Dev.each 4 (fun j d =>
    (d.set .X_THM_CAP j (u8 b (6 + j) % 16)).set .X_THM_LEVEL j (u8 b (6 + j) / 16 % 4)) d
  let d := Dev.each 10 (fun i d => d.set .X_THM_TH i (u16 b (12 + 12 * (i / 5) + 2 * (i % 5)))) d
  d.thmReplan

/-- R362, R366: one channel of BIAS, in device-wide order. -/
def Dev.putChannel (b : List Byte) (x : Nat) (d : Dev) : Dev :=
  let i := biasIx x
  let r := recordOf b 8 8 x
  let f := u8 r 0
  let on := f % 2 = 1
  let new := d.get .BIAS_C_CFG_FUNCTION i ≠ f / 2 % 2 ∨ d.get .BIAS_C_CFG_RANGE i ≠ f / 4 % 2 ∨ !d.biasOn i ∨ d.bc i = bcDISABLED
  let was := d.biasOn i
  let d := ((d.set .BIAS_C_CFG_ENABLE i (f % 2)).set .BIAS_C_CFG_FUNCTION i (f / 2 % 2)).set .BIAS_C_CFG_RANGE i (f / 4 % 2)
  let d := ((d.set .BIAS_C_CFG_SHAPE i (f / 8 % 2)).set .BIAS_C_CFG_TRIGGER i (f / 16 % 2)).set .BIAS_C_CFG_ZERO_ON_LS i (f / 32 % 2)
  let d := (d.set .BIAS_C_CFG_STEP i (u16 r 2)).set .BIAS_C_LIMIT_LO i (u16 r 4)
  let d := d.set .BIAS_C_LIMIT_HI i (u16 r 6)
  if on then
    let d := d.putTarget i (d.get .BIAS_C_TARGET_TARGET i)
    if new then d.biasRestart i else d
  else if was then d.biasOff i true else d

/-- R353, R366: BIAS. A timer whose exponent changes is aligned anew. -/
def Dev.putBias (d : Dev) (b : List Byte) : Dev :=
  let d := Dev.each 4 (fun t d =>
    if d.get .BIAS_T_TIMER_P t = u8 b t then d
    else ((d.set .X_BIAS_DUE t (d.timerDue t)).set .BIAS_T_TIMER_P t (u8 b t)).set .X_BIAS_REALIGN t 1) d
  Dev.each 160 (Dev.putChannel b) d

/-- R413, R417: the ledger record of a lane. A lane whose ledger is enabled anew takes a new reference. -/
def Dev.putLedgerLane (b : List Byte) (n : Nat) (d : Dev) : Dev :=
  let r := recordOf b 8 24 n
  let begins := u8 r 0 % 2 = 1 ∧ !d.lgOn n ∧ !d.on .X_SYS_FIRST 0
  let d := ((d.set .LEDG_L_CFG_ENABLES n (u8 r 0)).set .LEDG_L_CFG_BIAS_CH n (u8 r 1)).set .LEDG_L_CFG_HEATER_CH n (u8 r 2)
  let d := ((d.set .X_LG_LEVEL_ENV n (u8 r 3)).set .X_LG_TX_ENV n (u8 r 4)).set .X_LG_EFFORT_MAX n (u8 r 5)
  let d := (d.set .X_LG_BIAS_ENV n (u16 r 6)).set .X_LG_HEATER_ENV n (u16 r 8)
  let d := (d.set .X_LG_BIAS_STEP n (u8 r 10)).set .X_LG_HEATER_STEP n (u8 r 11)
  let d := ((d.set .X_LG_FLOOR_SNR n (u16 r 12)).set .X_LG_FLOOR_BER n (u16 r 14)).set .X_LG_HEAD_MIN n (u16 r 16)
  let d := (d.set .X_LG_RX_MIN n (u16 r 18)).set .X_LG_RESP n (u16 r 20)
  if begins then (d.set .LEDG_L_STATUS_REFERENCED n 0).lgClear n else d

/-- R417: LEDGER. The record of a lane follows its engine where the section is absent. -/
def Dev.putLedger (d : Dev) (b : List Byte) (changed : Bool) : Dev :=
  let d0 := d
  let d := ((d.set .LEDG_CFG_PERIOD_EXP 0 (u8 b 0)).set .LEDG_CFG_WINDOW 0 (u8 b 1)).set .LEDG_CFG_FORECAST_ALARM 0 (u16 b 2)
  let d := Dev.each 64 (Dev.putLedgerLane b) d
  if changed && d.on .X_PLAN_ON 0 then Dev.each 64 (fun n d => Dev.lgReplan d0 n d) d else d

/-- R406: CAL. -/
def Dev.putCal (d : Dev) (b : List Byte) : Dev :=
  Dev.each 5 (fun c d =>
    let r := recordOf b 0 8 c
    let same := d.get .CAL_CLASS_ENABLES c = u8 r 0 ∧ d.get .CAL_CLASS_THRESH c = u8 r 1 ∧ d.get .CAL_CLASS_PERIOD c = u16 r 2
    let d := ((d.set .CAL_CLASS_ENABLES c (u8 r 0)).set .CAL_CLASS_THRESH c (u8 r 1)).set .CAL_CLASS_PERIOD c (u16 r 2)
    if same then d else d.calClassChanged c) d

/-! ## Acceptance (R82 to R87) -/

/-- The live plan's sections; none while no plan is live. -/
def Dev.livePlan (d : Dev) : List PlanSec := if d.on .X_PLAN_ON 0 then d.plan else []

/-- R83: section `t` of a new plan takes effect. With no plan live, or at the first acceptance after a reset, each does. -/
def Dev.takesEffect (d : Dev) (ss : List PlanSec) (t : Nat) : Bool :=
  !d.on .X_PLAN_ON 0 || d.on .X_SYS_FIRST 0 || sectionChanged d.plan ss t

/-- The sections of a plan go live. -/
def Dev.putSections (d0 : Dev) (ss : List PlanSec) : Dev :=
  let old := d0.livePlan
  let go := d0.takesEffect ss
  let body := sectionBody ss
  let d := if go 11 then d0.putTimebase (body 11) else d0
  let d := if go 4 then d.putCapture (sectionBody old 4) (body 4) else d
  let d := d.putEngines ss
  let d := d.putLoops old ss (d.get .PLAN_RESTARTED_ENGINES 0)
  let d := if go 2 then d.putSpread ss else d
  let d := if go 3 then
      d.putCourier (body 3) ((List.range 64).filter fun n => !bitAt (d.get .PLAN_RESTARTED_ENGINES 0) (engineOf n)) else d
  let d := Dev.each 2 Dev.putXtrig d
  let d := if go 5 then d.putPigeonhole (body 5) else d
  let d := if go 6 then d.putPower (body 6) else d
  let d := if go 7 then d.putThermal (body 7) else d
  let d := if go 8 then d.putBias (body 8) else d
  let d := d.putLedger (body 9) (go 9)
  if go 10 then d.putCal (body 10) else d

/-- R82, R87, R558: a plan is accepted: image identifier and CRC, and where it came from. -/
def Dev.acceptPlan (d : Dev) (ss : List PlanSec) (id crc src slot : Nat) (fallback : Bool) : Dev :=
  let d := (d.putSections ss).setAll [.X_PLAN_ON] 0 1
  let d := { d with plan := ss }
  let d := (d.setAll [.PLAN_LIVE_SOURCE, .X_PLAN_SRC] 0 src).setAll [.PLAN_LIVE_SLOT, .X_PLAN_SRCSLOT] 0 slot
  let d := ((d.setAll [.PLAN_LIVE_ID_ID, .X_PLAN_ID] 0 id).set .X_PLAN_CRC 0 crc).set .PLAN_STATUS_FALLBACK 0 (b2n fallback)
  let d := ((d.set .PLAN_STATUS_STATE 0 1).set .PLAN_ACCEPT_TIME_TIME 0 d.now).setAll [.X_PLAN_ACT, .X_SYS_FIRST, .X_BOOT_SLOT] 0 0
  let d := ((d.set .SYS_BOOT_STATUS_STAGE 0 3).setAll [.SYS_BOOT_STATUS_DEV_READY, .X_SYS_KEEP] 0 1)
  d.raise 960

/-! ## No plan live (R76) -/

/-- R76: no plan is live: every engine is unused, host lanes are powered down, bias outputs are DISABLED, laser sources are OFF
and POWER takes its defaults. -/
def Dev.noPlan (d : Dev) : Dev :=
  let d := ((d.set .X_PLAN_ON 0 0).set .PLAN_STATUS_STATE 0 0).setAll [.PLAN_LIVE_SOURCE, .PLAN_LIVE_SLOT, .PLAN_LIVE_ID_ID] 0 0
  let d := d.endTaps (fun _ => true) 6
  let d := Dev.each 8 (fun e d => d.stopEngine e) d
  let d := Dev.each 128 (fun h d =>
    (d.hostDown h).setAll [.HOST_L_STATUS_ROLE, .X_HOST_PORT, .X_COUT_END] h 0) d
  let d := Dev.each 64 (fun n d => (d.setAll [.X_TOPO_A, .X_TOPO_B] n 255).set .LEDG_L_CFG_ENABLES n 0) d
  let d := Dev.each 160 (fun i d => (d.biasOff i false).set .BIAS_C_CFG_ENABLE i 0) d
  d.putPower (List.replicate 1272 0)

end Sys2Proof.Machine
end

