-- ==== Sys2Proof/Machine/PlanCtl.lean ====
section
/-! DEFINITION. Plan actions, the plan slots of the boot flash and their directory (R71 to R76, R80, R82, R86, R90). -/

namespace Sys2Proof.Machine

open Sys2Proof

/-! ## Boot flash (R74, R556) -/

/-- A byte of the boot flash. -/
def Dev.flashByte (d : Dev) (a : Nat) : Nat := 255 - (d.flash.read a).toNat
/-- Write bytes to the boot flash. -/
def Dev.putFlash (d : Dev) (a : Nat) (bs : List Nat) : Dev :=
  { d with flash := d.flash.writeBytes a (bytesOf (bs.map fun b => 255 - b)) }
/-- Erase `n` bytes of the boot flash. -/
def Dev.eraseFlash (d : Dev) (a n : Nat) : Dev := { d with flash := d.flash.filter fun c => !decide (a ≤ c.1 ∧ c.1 < a + n) }

/-- Flash address of plan slot `s`. -/
def slotBase (s : Nat) : Nat := 0x800000 + s * 0x100000
/-- A byte of a plan slot. A write or an erasure that was cut leaves free values. -/
def Dev.slotByte (d : Dev) (s o : Nat) : Nat :=
  if d.get .X_SLOT_LOST s = 0 then d.flashByte (slotBase s + o)
  else Config.freeValue 10 (d.get .X_SLOT_LOST s * 2 ^ 20 + o) % 256

/-- R74: the directory copy in use: the valid one with the newer sequence number. DESIGN CHOICE (log entry 63): sequence numbers
are compared as numbers, also across their wrap at 2^32. -/
def Dev.dirCopy (d : Dev) : Option Nat :=
  match d.on .X_DIR_OK 0, d.on .X_DIR_OK 1 with
  | false, false => none
  | true, false => some 0
  | false, true => some 1
  | true, true => some (if d.get .X_DIR_SEQ 0 < d.get .X_DIR_SEQ 1 then 1 else 0)
/-- The slot marked current, and the valid bits. -/
def Dev.dirCurrent (d : Dev) : Option Nat := d.dirCopy.map fun c => d.get .X_DIR_CUR c
def Dev.dirValid (d : Dev) : Nat := ((d.dirCopy.map fun c => d.get .X_DIR_VALID c)).getD 0
/-- PLAN_LIVE.CURRENT and SLOT_VALID show the directory. -/
def Dev.showDir (d : Dev) : Dev :=
  (d.set .PLAN_LIVE_CURRENT 0 (d.dirCurrent.getD 0)).set .PLAN_LIVE_SLOT_VALID 0 d.dirValid
/-- R74: a directory update rewrites the other copy, with the next sequence number. -/
def Dev.dirWrite (d : Dev) (cur valid : Nat) : Dev :=
  let seq := ((d.dirCopy.map fun c => d.get .X_DIR_SEQ c + 1)).getD 0 % 2 ^ 32
  let c := match d.dirCopy with | some c => 1 - c | none => 0
  let d := ((d.set .X_DIR_OK c 1).set .X_DIR_SEQ c seq).set .X_DIR_CUR c cur
  (d.set .X_DIR_VALID c valid).showDir

/-! ## Actions (R72, R73, R75) -/

/-- States of PLAN_STATUS.STATE. -/
def psNO_PLAN : Nat := 0
def psLIVE : Nat := 1
def psVALIDATING : Nat := 2
def psWAITING : Nat := 3
def psFLASH : Nat := 4

/-- The state of the plan logic. -/
def Dev.ps (d : Dev) : Nat := d.get .PLAN_STATUS_STATE 0
/-- VALIDATING, WAITING or FLASH: actions are refused and the plan buffer is locked. -/
def Dev.planBusy (d : Dev) : Bool := decide (psVALIDATING ≤ d.ps ∧ d.ps ≤ psFLASH)

/-- R73, R75: an action is refused. -/
def Dev.planRefuses (d : Dev) (act slot : Nat) : Bool :=
  d.planBusy || decide (act < 1 ∨ 6 < act) || d.get .SYS_BOOT_STATUS_STAGE 0 == 5 ||
    (decide (act = 4 ∨ act = 6) && d.dirCurrent == some slot) || (act == 5 && !bitAt d.dirValid slot)

/-- R72, R73: a write to PLAN_CTRL. -/
def Dev.planAction (d : Dev) (act slot : Nat) : Dev :=
  if d.planRefuses act slot then d.set .PLAN_STATUS_REFUSED 0 1
  else
    let d := ((d.set .X_PLAN_PREV 0 d.ps).set .X_PLAN_ACT 0 act).set .X_PLAN_SLOT 0 slot
    (d.set .PLAN_STATUS_LAST_ACTION 0 act).set .PLAN_STATUS_STATE 0 (if 5 ≤ act then psFLASH else psVALIDATING)

/-- The image that the action in progress validates: the plan buffer, or a slot for LOAD_SLOT and at a boot. -/
def Dev.planImage (d : Dev) (o : Nat) : Nat :=
  if d.get .X_PLAN_ACT 0 = 3 ∨ d.get .X_PLAN_ACT 0 = 15 then d.slotByte (d.get .X_PLAN_SLOT 0) o else (d.planBuf.read o).toNat

/-- R421: the installed capacity while it counts for validation. -/
def Dev.planCapacity (d : Dev) : Option Nat := if d.memTrained then some (d.get .MEM_CFG_CAPACITY 0) else none

/-- Validation of the image of the action in progress. -/
def Dev.planValidate (d : Dev) : Except PlanErr (List Sect) := validate d.planImage d.planCapacity

/-- CODE and PLAN_ERR_OFFSET. -/
def Dev.planCode (d : Dev) (code off : Nat) : Dev := (d.set .PLAN_STATUS_CODE 0 code).set .PLAN_ERR_OFFSET_OFFSET 0 off

/-- The action in progress ends. A boot that waited for the memory goes on then (R76). -/
def Dev.planEnd (d : Dev) : Dev := ((d.set .PLAN_STATUS_STATE 0 (d.get .X_PLAN_PREV 0)).set .X_PLAN_ACT 0 0).planMem

/-! ## The plan of a boot (R76) -/

/-- R76: the slots in the order in which a boot tries them. -/
def Dev.bootSlots (d : Dev) : List Nat :=
  match d.dirCurrent with
  | none => []
  | some c => c :: (([1, 2, 3].map fun i => (c + i) % 4).filter fun s => bitAt d.dirValid s)

/-- The first of some slots is validated, once the memory is not in training; with none left no plan is live. -/
def Dev.bootTry (d : Dev) (l : List Nat) : Dev :=
  match l with
  | [] => (d.setAll [.X_PLAN_ACT, .X_BOOT_SLOT] 0 0).noPlan
  | s :: _ => ((d.set .X_BOOT_SLOT 0 (s + 1)).set .PLAN_STATUS_STATE 0 psNO_PLAN).planMem

/-- R76: the slot of this try has failed. -/
def Dev.bootNext (d : Dev) : Dev :=
  d.bootTry ((d.bootSlots.dropWhile fun s => s != d.get .X_PLAN_SLOT 0).drop 1)

/-- R78, R80, R87: validation completes. DESIGN CHOICE (log entry 64): a CHECK or PROGRAM that ends with an error raises 961
and not 963. -/
def Dev.planValidated (d : Dev) : Dev :=
  let act := d.get .X_PLAN_ACT 0
  match d.planValidate with
  | .error e =>
    let d := (d.planCode e.2 e.1).raise 961
    if act = 15 then d.bootNext else d.planEnd
  | .ok _ =>
    if act = 4 then d.set .PLAN_STATUS_STATE 0 psFLASH
    else
      let d := d.planCode 0 0
      if act = 1 then d.planEnd.raise 963 else (d.set .PLAN_STATUS_STATE 0 psWAITING).set .X_PLAN_CLK 0 d.clk

/-- R74, R80: PROGRAM, MARK_CURRENT or ERASE completes. DESIGN CHOICE (log entry 63): the first directory that is written on a
flash without a valid copy marks slot 0 current, unless the action is MARK_CURRENT. -/
def Dev.planFlashed (d : Dev) : Dev :=
  let act := d.get .X_PLAN_ACT 0
  let s := d.get .X_PLAN_SLOT 0
  let cur := d.dirCurrent.getD 0
  let d := if act = 4 then
      let n := rd32 d.planImage 8
      ((((d.eraseFlash (slotBase s) 0x100000).putFlash (slotBase s) ((List.range n).map d.planImage)).set .X_SLOT_LOST s 0).dirWrite cur
        (setBit d.dirValid s))
    else if act = 6 then
      ((d.eraseFlash (slotBase s) 0x100000).set .X_SLOT_LOST s 0).dirWrite cur (clearBit d.dirValid s)
    else d.dirWrite s d.dirValid
  ((d.planCode 0 0).planEnd).raise 963

/-! ## Acceptance (R82, R553) -/

/-- R82, R553: a plan is accepted at a tick that begins now. The plan of area 0 also waits for the memory. -/
def Dev.planDue (d : Dev) : Bool :=
  d.ps == psWAITING && decide (d.get .X_PLAN_CLK 0 + 2 * us ≤ d.clk) &&
    (d.get .X_PLAN_ACT 0 != 14 ||
      (d.memState != meTRAINING && (List.range 4).all fun m => d.dom (domMem m) != pwWAKING))

/-- R82: the sections of the image of the action in progress, which has been validated, as PlanSec. The capacity of the memory
may have become known since; it is not judged again. -/
def Dev.planSections (d : Dev) : List PlanSec :=
  match validate d.planImage none with
  | .error _ => []
  | .ok ss => ss.map fun x => ⟨x.type, rdBytes d.planImage (x.off + 16) x.len⟩

/-- R554, R560: whether the snapshot in use belongs to the plan that is accepted. -/
def Dev.snapFits (d : Dev) (id crc : Nat) : Bool :=
  d.snaps.any fun x => x.slot == d.get .SYS_SNAP_STATUS_IN_USE 0 && x.planId == id && x.crc == crc

/-- R82, R553: the waiting plan is accepted. -/
def Dev.planTake (d : Dev) : Dev :=
  match d.get .X_PLAN_ACT 0 with
  | 14 =>
    d.acceptPlan d.plan (d.get .X_PLAN_ID 0) (d.get .X_PLAN_CRC 0) (d.get .X_PLAN_SRC 0) (d.get .X_PLAN_SRCSLOT 0)
      (d.on .PLAN_STATUS_FALLBACK 0)
  | 2 => d.acceptPlan d.planSections (rd32 d.planImage 0x14) (rd32 d.planImage 0x0C) 2 0 false
  | _ =>
    let s := d.get .X_PLAN_SLOT 0
    d.acceptPlan d.planSections (rd32 d.planImage 0x14) (rd32 d.planImage 0x0C) 1 s (d.dirCurrent != some s)

/-! ## Abandonment (R86, R79 code 0xFF) -/

/-- R86: a reset, a shutdown or a loss of power during a plan action. A slot that was being written or erased keeps no stated
contents. -/
def Dev.planAbandon (d : Dev) : Dev :=
  let act := d.get .X_PLAN_ACT 0
  let busy := d.ps == psVALIDATING || d.ps == psWAITING
  let d := if d.ps = psFLASH ∧ (act = 4 ∨ act = 6) then
      (d.set .X_SLOT_LOST (d.get .X_PLAN_SLOT 0) (d.free + 1)).drawn else d
  (if busy then d.planCode 0xFF 0 else d).setAll [.X_PLAN_ACT, .X_BOOT_SLOT] 0 0

/-- R568: the live plan is withdrawn. A CHECK, a PROGRAM or a save in progress finishes; a LOAD does not. -/
def Dev.planWithdraw (d : Dev) : Dev :=
  let st := d.ps
  let act := d.get .X_PLAN_ACT 0
  if st = psFLASH ∨ (st = psVALIDATING ∧ (act = 1 ∨ act = 4)) then
    (d.noPlan.set .PLAN_STATUS_STATE 0 st).setAll [.X_PLAN_PREV, .X_BOOT_SLOT] 0 0
  else d.planAbandon.noPlan

/-! ## Commands -/

/-- PLAN_CHECK (R72). -/
def execPlanCheck (s : State) : Host.Outcome State Fault Refusal := s.run fun d => d.planAction 1 0
/-- PLAN_LOAD (R72). -/
def execPlanLoad (s : State) : Host.Outcome State Fault Refusal := s.run fun d => d.planAction 2 0
/-- PLAN_LOAD_SLOT (R72). -/
def execPlanLoadSlot (slot : Fin 4) (s : State) : Host.Outcome State Fault Refusal := s.run fun d => d.planAction 3 slot
/-- PLAN_PROGRAM (R72, R75). -/
def execPlanProgram (slot : Fin 4) (s : State) : Host.Outcome State Fault Refusal := s.run fun d => d.planAction 4 slot
/-- PLAN_MARK_CURRENT (R75). -/
def execPlanMarkCurrent (slot : Fin 4) (s : State) : Host.Outcome State Fault Refusal := s.run fun d => d.planAction 5 slot
/-- PLAN_ERASE (R72, R75). -/
def execPlanErase (slot : Fin 4) (s : State) : Host.Outcome State Fault Refusal := s.run fun d => d.planAction 6 slot

/-- PLAN_VALIDATION_DONE (R78). -/
def execPlanValidationDone (s : State) : Host.Outcome State Fault Refusal :=
  s.run fun d => if d.ps = psVALIDATING then d.planValidated else d

/-- FLASH_ACTION_DONE (R80, R81). -/
def execFlashActionDone (s : State) : Host.Outcome State Fault Refusal :=
  s.run fun d => if d.ps = psFLASH ∧ 4 ≤ d.get .X_PLAN_ACT 0 ∧ d.get .X_PLAN_ACT 0 ≤ 6 then d.planFlashed else d

/-- XTRIG_SAMPLE_DONE (R90): 1 µs of sampling XTRIG line `j` ends; `driven` says that another member drives it. -/
def execXtrigSampleDone (j : Fin 2) (driven : Bool) (s : State) : Host.Outcome State Fault Refusal :=
  s.run fun d =>
    if d.on .X_XTRIG_WAIT j then
      d.onTime (d.get .X_XTRIG_WAIT_CLK j + us) fun d =>
        let d := d.set .X_XTRIG_WAIT j 0
        if driven then (d.set .CAP_XTRIG_OUT_REFUSED j 1).refuse 10 j 2 8 else d.set .CAP_XTRIG_OUT_DRIVING j 1
    else d

end Sys2Proof.Machine
end

