-- ==== Sys2Proof/Machine/Bringup.lean ====
section
/-! DEFINITION. Bring-up (R547 to R570): supplies, resets, what the restante store carries over them (R523, R553), boot, the
host-saved snapshot, thermal shutdown and restart (R540 to R543), and the card-removal stop. -/

namespace Sys2Proof.Machine

open Sys2Proof

/-! ## What survives the loss of the switched domains (R497, R523, R552, R553) -/

/-- The auxiliary domain: the time base and the ring port, the shutdown comparators, the reset and boot registers and the
access address of the SMBus target. -/
def auxFields : List F := [.TIME_NOW_NOW, .TIME_TICK_COUNT_COUNT, .TIME_TICK_CFG_PERIOD_K, .TIME_TICK_CFG_ROLE,
  .TIME_TICK_CFG_POSITION, .TIME_RING_STATUS_STATE, .TIME_RING_STATUS_CONFLICT, .TIME_RING_STATUS_PERIOD_MISMATCH,
  .TIME_RING_STATUS_MISSED, .TIME_RING_STATUS_PHASE_ERR, .TIME_SET_VALUE, .TIME_SET_CTRL_ARMED, .TIME_SET_CTRL_REFUSED,
  .X_TIME_PHASE, .X_TICK_DUE, .X_K_NEXT, .X_K_FROM, .X_SET_FROM, .X_SLEW, .X_SLEW_DOWN, .X_RING_PULSED, .X_RING_PULSE_CLK,
  .X_RING_MSG_DUE, .X_RING_STAMP, .X_RING_SMALL, .X_RING_SEEN, .X_RING_MSG_OPEN, .X_RING_STEPPED, .THM_SD_STATUS_STATE,
  .THM_SD_STATUS_REFUSED, .THM_SD_STATUS_SITE, .THM_SD_STATUS_TOTAL, .THM_SD_TIME_TIME, .X_THM_SD_CLK, .X_THM_RESTART,
  .X_THM_RESTART_SET, .TIME_CLERK_STATUS_COUNT, .SYS_RESET_CAUSE_CAUSE, .SYS_RESET_CAUSE_RESTORED, .SYS_RESET_CAUSE_WARM_COUNT,
  .SYS_BOOT_STATUS_SNAP_USED, .SYS_SNAP_STATUS_RESULT, .SYS_SNAP_STATUS_IN_USE, .SYS_SNAP_STATUS_VALID, .X_SYS_AUX,
  .X_SYS_MAIN, .X_SYS_RST, .X_SYS_PERST, .X_SYS_PG_CLK, .X_SMB_ADDR, .X_SMB_STRAP]

/-- What the boot flash holds beside the images: the plan slot directory, and slots with open contents. -/
def flashFields : List F := [.X_DIR_OK, .X_DIR_SEQ, .X_DIR_CUR, .X_DIR_VALID, .X_SLOT_LOST]

/-- Area 0: what goes with the live plan (R77). -/
def planFields : List F := [.X_PLAN_CRC, .X_PLAN_SRC, .X_PLAN_SRCSLOT, .X_PLAN_ID, .PLAN_STATUS_FALLBACK, .X_SYS_KEEP]
/-- Area 3 (R120). -/
def adaptFields : List F := [.X_LRX_SAVED, .X_LRX_SAVED_MODE, .X_LRX_SAVED_TAP, .X_LRX_SAVED_NLC, .X_LRX_SAVED_LEVEL]
/-- Area 4, beside the trims (R400). -/
def calFields : List F := [.CAL_U_COUNTS_RUNS, .CAL_U_COUNTS_ABORTS, .CAL_U_COUNTS_FAILS, .CAL_U_TIME_TIME, .CAL_U_TEMP_LAST,
  .X_CAL_LASTAPP, .X_CAL_APPLIED]
/-- Area 5: what the ledger summary leaves out: the period in progress (R416). -/
def ledgerOut : List F := [.X_LG_TICKS, .X_LG_LOCK, .X_LG_SNR, .X_LG_BITS, .X_LG_CORR, .X_LG_HEAD, .X_LG_PD_SUM, .X_LG_PD_N,
  .X_LG_PARTIAL, .X_LG_PASSES, .X_LG_CW, .X_LG_MOVED, .X_LG_REF_DUE, .X_LG_UNWRITTEN, .LEDG_L_FAR_SNR0, .LEDG_L_FAR_SNR2,
  .LEDG_L_FAR_WORST]
/-- Area 5: a field of the ledger summary. -/
def F.inLedger (f : F) : Bool :=
  (f.blk == .ledgL && !ledgerOut.contains f) || f == .LEDG_PERIOD_COUNT_COUNT || f == .LEDG_HIST_HEAD_HEAD || f == .X_LG_CLOSED
/-- Area 6: what the training results stand for (R434). -/
def memFields : List F := [.X_SYS_MEM, .MEM_CFG_DENSITY, .MEM_CFG_CAPACITY, .MEM_C_STATUS_TRAINED]
/-- Area 7: permits, horizons, levels, states and hold-offs. -/
def powerFields : List F := [.PWR_D_CFG_PERMIT, .PWR_D_CFG_SD_WAKE, .PWR_D_HORIZON_HORIZON, .X_PWR_HOR_SET, .X_PWR_HOR_END,
  .PWR_D_STATUS_STATE, .PWR_D_STATUS_HOLDOFF, .PWR_T_LEVEL_LIVE]

/-- A field keeps its value while the switched domains have no power. -/
def F.survives (f : F) : Bool :=
  f.isKept || f.acc == .rws || f.blk == .sysE || f.inLedger || f == .DMA_Q_STATUS_EPOCH || f == .PH_SRC_OCCUR ||
    (auxFields ++ flashFields ++ planFields ++ adaptFields ++ calFields ++ memFields ++ powerFields).contains f

/-- R560: a save is cut short: the slot that it wrote is lost, the older one stays in use. -/
def Dev.snapAbandon (d : Dev) : Dev :=
  if d.on .SYS_SNAP_STATUS_BUSY 0 then
    let k := d.get .X_SNAP_SLOT 0
    let d := { d with snaps := d.snaps.filter fun x => x.slot != k }
    (d.set .SYS_SNAP_STATUS_RESULT 0 4).set .SYS_SNAP_STATUS_VALID 0 (clearBit (d.get .SYS_SNAP_STATUS_VALID 0) k)
  else d

/-- R438, R552: the memory without power: trained devices wait in self refresh, a failed memory stays failed (log entry
26), any other starts anew. -/
def Dev.memHold (d : Dev) (state : Nat) : Dev :=
  if state = meREADY ∨ state = meREFRESH then
    (d.set .MEM_STATUS_STATE 0 meREFRESH).setEach .MEM_C_STATUS_SELF_REFRESH (List.range 8) 1
  else if state = meFAILED then d.set .MEM_STATUS_STATE 0 meFAILED
  else (d.setAll [.MEM_STATUS_STATE, .MEM_CFG_DENSITY, .MEM_CFG_CAPACITY] 0 0).setEach .MEM_C_STATUS_TRAINED (List.range 8) 0

/-- R498: entries, wakes and rollbacks in progress end with the power: those domains come back ON. -/
def Dev.settleDomains (d : Dev) : Dev :=
  Dev.each 158 (fun k d =>
    if pwENTERING ≤ d.dom k ∧ d.dom k ≠ pwFAILED then d.set .PWR_D_STATUS_STATE k pwON else d) d

/-- R541, R552: every switched domain loses power. With `refresh` the GDDR7 devices are placed in self refresh first; without
it their contents are lost. A LOCKED lane's values stay for SEED_SRC 1 (R120). -/
def Dev.powerOff (d : Dev) (refresh : Bool) : Dev :=
  let busy := d.ps == psVALIDATING || d.ps == psWAITING
  let cold := d.on .X_SYS_COLD 0 && !d.on .X_SYS_FW 0
  let d := Dev.each 8 (fun e d => d.lsOff e) d.planAbandon.nvmInterrupt.snapAbandon
  let d := Dev.each 64 (fun n d => if d.rxLocked n then d.saveAdapt n else d) d
  let d := if refresh then d else d.loseCells 0 (2 ^ 35)
  let e : Dev := { Dev.reset with
    reg := d.reg.filter fun x => x.1.f.survives
    live := d.live.filter fun x => x.1.f.isKept || x.1.f == .PWR_T_LEVEL_REQ
    clk := d.clk, free := d.free, gddr := d.gddr, lost := d.lost, ledg := d.ledg, nvm := d.nvm, flash := d.flash
    plan := d.plan, posted := d.posted, snaps := d.snaps, out := d.out }
  let e := (e.memHold (if refresh then d.memState else meOFF)).settleDomains
  let e := Dev.each 8 (fun i e => e.set .PH_SRC_LINE (576 + 8 * i + 3) (b2n (e.any lsEvents i))) e
  let e := e.set .X_SYS_COLD 0 (b2n cold)
  if busy then e.planCode 0xFF 0 else e

/-! ## Warm resets (R551, R552) -/

/-- A warm reset begins with its cause. -/
def Dev.warmBegin (d : Dev) (cause : Nat) : Dev :=
  let d := if d.on .X_SYS_OFF 0 then d else d.powerOff true
  (d.set .SYS_RESET_CAUSE_CAUSE 0 cause).addSat .SYS_RESET_CAUSE_WARM_COUNT 0 1

/-- R542, R551, R558: the hub core has power again once nothing holds it off: STAGE reaches BOOT. A warm reset raises source
10, and a thermal restart source 740. -/
def Dev.powerUp (d : Dev) : Dev :=
  if d.on .X_SYS_OFF 0 && d.on .X_SYS_AUX 0 && d.on .X_SYS_MAIN 0 && !d.on .X_SYS_RST 0 && d.get .THM_SD_STATUS_STATE 0 == 0 then
    let d := (d.set .X_SYS_OFF 0 0).set .SYS_BOOT_STATUS_STAGE 0 1
    let d := if d.on .X_SYS_PERST 0 then d else d.set .X_SYS_PG_CLK 0 d.clk
    let cause := d.get .SYS_RESET_CAUSE_CAUSE 0
    let d := if cause = 0 then d else d.raise 10
    if cause = 5 then d.raise 740 else d
  else d

/-! ## Boot (R553 to R558) -/

/-- Forget the values that `c` picks. -/
def Dev.forget (d : Dev) (c : F → Bool) : Dev :=
  { d with reg := d.reg.filter fun x => !c x.1.f, live := d.live.filter fun x => !c x.1.f }

/-- R48, R552: POST_TIME and the tick counter have the reset word "kept" and run on in the auxiliary domain; no area holds
them. -/
def F.runsOn (f : F) : Bool := f == .TIME_NOW_NOW || f == .TIME_TICK_COUNT_COUNT

/-- R553: areas 1 and 2 as far as they are valid. A staged value whose area is lost takes the live one. -/
def Dev.restoreSettings (d : Dev) (ok : Nat) : Dev :=
  let d := if bitAt ok 2 then d
    else { d with reg := d.reg.filter fun x => x.1.f.runsOn || !(x.1.f.isKept && x.1.f.acc != .rws)
                  live := d.live.filter fun x => !(x.1.f.isKept && x.1.f != .CAL_TRIM_WORD) }
  if bitAt ok 1 then d
  else
    let d := { d with reg := d.reg.filter (fun x => !x.1.staged), posted := [] }
    Dev.forList (d.live.filter fun x => x.1.staged && x.1.f.isKept) (fun x d => d.set x.1.f x.1.i x.2) d

/-- R553: areas 0, 3, 5 and 7 as far as they are valid. -/
def Dev.restoreRest (d : Dev) (ok : Nat) : Dev :=
  let d := if bitAt ok 0 then d else { d.forget (fun f => planFields.contains f) with plan := [] }
  let d := if bitAt ok 3 then d else d.forget fun f => adaptFields.contains f
  let d := if bitAt ok 5 then d else { d.forget (fun f => f.inLedger) with ledg := [] }
  if bitAt ok 7 then d else d.forget fun f => powerFields.contains f || f == .PWR_T_LEVEL_REQ

/-- R434, R437, R553: GDDR7 at a boot: the devices that a reset has left in self refresh are checked as their domains wake, or
full training runs. -/
def Dev.memBoot (d : Dev) (ok : Bool) : Dev :=
  if d.memState = meFAILED then d
  else if d.memState = meREFRESH ∧ ok then
    Dev.each 4 (fun m d =>
      let k := domMem m
      if d.dom k = pwON then ((d.set .PWR_D_STATUS_STATE k pwWAKING).set .X_PWR_FROM k pwOFF).set .X_PWR_BEGAN k d.clk else d) d
  else
    let d := if d.memState = meREFRESH then d.loseCells 0 (2 ^ 35) else d
    let d := (d.setAll [.X_SYS_MEM, .LEDG_HIST_HEAD_HEAD, .MEM_CFG_DENSITY, .MEM_CFG_CAPACITY] 0 0)
    (Dev.each 4 (fun m d => if d.dom (domMem m) = pwON then d.memRefresh m false else d) d).memTrain

/-- R559, R560: SYS_SNAP_STATUS shows the valid snapshots, and the newer one as in use. -/
def Dev.showSnaps (d : Dev) : Dev :=
  let v := ((List.range 2).map fun i => if d.snaps.any (fun x => x.slot == i) then 2 ^ i else 0).sum
  let use := match d.snaps with
    | [] => 0
    | x :: l => (l.foldl (fun (a b : Snap) => if newer b.seq a.seq then b else a) x).slot
  (d.set .SYS_SNAP_STATUS_VALID 0 v).set .SYS_SNAP_STATUS_IN_USE 0 use

/-- R76, R553: the plan of the boot. A driver action in progress keeps its place, and no plan of the boot starts. -/
def Dev.planBoot (d : Dev) : Dev :=
  if d.planBusy then d
  else if d.on .X_SYS_KEEP 0 then
    ((d.set .X_PLAN_ACT 0 14).set .PLAN_STATUS_STATE 0 psWAITING).set .X_PLAN_CLK 0 d.clk
  else d.bootTry d.bootSlots

/-- R557: the image that runs: the valid one with the newer sequence number, false for A. Image A runs when both have the same
number, and the order of two numbers is that of R402 (DESIGN CHOICE, log entry 80). -/
def bootChoice : Option BootImage → Option BootImage → Option (Bool × BootImage)
  | some a, some b => some (if newer b.seq.toNat a.seq.toNat then (true, b) else (false, a))
  | some a, none => some (false, a)
  | none, some b => some (true, b)
  | none, none => none

/-- R556, R557: the firmware of an image runs. -/
def Dev.firmwareOn (d : Dev) (image : Bool) (version : Nat) : Dev :=
  let d := ((d.set .SYS_BOOT_STATUS_IMAGE 0 (b2n image)).set .SYS_BOOT_STATUS_FW_VERSION 0 version).set .X_SYS_FW 0 1
  d.set .SYS_BOOT_STATUS_STAGE 0 2

/-- R553 to R558: what the firmware restores and starts. `areas` are the areas of the restante store that pass their CRC-32. -/
def Dev.firmwareRest (d : Dev) (areas : Nat) : Dev :=
  let d :=
    if d.on .X_SYS_COLD 0 then
      (((d.set .SYS_RESET_CAUSE_RESTORED 0 0).nvmLoad).calCold).memBoot false
    else
      let ok := areas % 256
      let ok := if d.on .X_SYS_KEEP 0 then ok else clearBit ok 0
      let ok := if d.on .X_SYS_MEM 0 then ok else clearBit ok 6
      let d := (((d.restoreSettings ok).restoreRest ok).nvmLoad).calReset
      let d := if bitAt ok 4 then d else (d.forget fun f => calFields.contains f).calCold
      (d.memBoot (bitAt ok 6)).set .SYS_RESET_CAUSE_RESTORED 0 ok
  ((d.showSnaps).showDir).planBoot

/-! ## Acceptance at a tick (R82, R553, R554, R568) -/

/-- R559: a field that a snapshot carries. -/
def F.inSnap (f : F) : Bool :=
  (f.acc == .rws || f.acc == .rwk || (f.isKept && f.acc == .rw) || f.inLedger) && f != .BIAS_C_TARGET_TARGET &&
    f.blk != .phT && f != .PH_MASK_MASK

/-- R559: the snapshot of the device as it stands. -/
def Dev.snapshot (d : Dev) (slot seq : Nat) : Snap :=
  ⟨slot, seq, d.get .X_PLAN_ID 0, d.get .X_PLAN_CRC 0, d.reg.filter fun x => x.1.f.inSnap,
    d.live.filter fun x => x.1.f == .CAL_TRIM_WORD, d.ledg⟩

/-- R554, R555: the contents of a snapshot take the place of the cold defaults. -/
def Dev.snapLoad (d : Dev) (x : Snap) : Dev :=
  let d := { d with reg := d.reg.filter fun e => !e.1.f.inSnap
                    live := d.live.filter fun e => e.1.f != .CAL_TRIM_WORD
                    ledg := x.ledg }
  let d := Dev.forList x.reg (fun e d => d.set e.1.f e.1.i e.2) d
  let d := Dev.forList (x.reg.filter fun e => e.1.staged && e.1.f.isKept && e.1.f != .CAL_TRIM_WORD)
    (fun e d => d.lset e.1.f e.1.i e.2) d
  (Dev.forList x.live (fun e d => d.lset e.1.f e.1.i e.2) d).set .SYS_BOOT_STATUS_SNAP_USED 0 1

/-- R560: the snapshot in use, at the acceptance of the plan of a cold power-up that it belongs to. -/
def Dev.snapDue (d : Dev) : Option Snap :=
  if d.on .X_SYS_COLD 0 && d.on .X_SYS_FIRST 0 && d.get .X_PLAN_ACT 0 == 15 &&
      d.snapFits (rd32 d.planImage 0x14) (rd32 d.planImage 0x0C) then
    d.snaps.find? fun x => x.slot == d.get .SYS_SNAP_STATUS_IN_USE 0
  else none

/-- R82: the waiting plan is accepted. After a stop GDDR7 leaves self refresh (R568). -/
def Dev.accept (d : Dev) : Dev :=
  let d := match d.snapDue with
    | some x => d.snapLoad x
    | none => d
  let d := if d.get .SYS_BOOT_STATUS_STAGE 0 = 4 then
      (Dev.each 4 (fun m d => if d.dom (domMem m) = pwON then d.memRefresh m false else d) d).memSync
    else d
  d.planTake

/-! ## Thermal shutdown (R540 to R543) -/

/-- Automatic restarts that have begun within the last 3,600 s. -/
def Dev.hourCount (d : Dev) : Nat :=
  ((List.range 3).filter fun j =>
    d.on .X_THM_RESTART_SET j && decide ((d.now + 2 ^ 64 - d.get .X_THM_RESTART j) % 2 ^ 64 < 3600 * sec)).length

/-- R541, R543: a trip at site `x`. -/
def Dev.trip (d : Dev) (x : Nat) : Dev :=
  let st := if d.hourCount = 3 then 2 else 1
  let d := d.latchZeros 3 fun _ => true
  let d := if d.on .X_SYS_OFF 0 then (d.memHold meOFF).loseCells 0 (2 ^ 35) else d.powerOff false
  let d := (d.set .THM_SD_STATUS_STATE 0 st).set .THM_SD_STATUS_SITE 0 x
  ((d.set .THM_SD_TIME_TIME 0 d.now).set .X_THM_SD_CLK 0 (d.clk - 2 * us)).addSat .THM_SD_STATUS_TOTAL 0 1

/-- R542, R543: a restart after a shutdown. -/
def Dev.thermalRestart (d : Dev) (auto : Bool) : Dev :=
  let d := if auto then
      let d := Dev.each 2 (fun j d =>
        (d.set .X_THM_RESTART (2 - j) (d.get .X_THM_RESTART (1 - j))).set .X_THM_RESTART_SET (2 - j)
          (d.get .X_THM_RESTART_SET (1 - j))) d
      (d.set .X_THM_RESTART 0 d.now).set .X_THM_RESTART_SET 0 1
    else d
  ((d.set .THM_SD_STATUS_STATE 0 0).warmBegin 5).powerUp

/-! ## Loss of power, and the stop (R554, R568) -/

/-- What outlasts the auxiliary supply: the flash, the NVM and the free values drawn. -/
def Dev.blank (d : Dev) : Dev :=
  { Dev.reset with
    reg := d.reg.filter fun x => flashFields.contains x.1.f
    free := d.free + 1, lost := [⟨0, 2 ^ 35, d.free⟩], nvm := d.nvm, flash := d.flash, snaps := d.snaps, out := d.out }

/-- R568: the card-removal stop. -/
def Dev.cardDown (d : Dev) : Dev :=
  let d := d.planWithdraw
  let d := if d.memTrained then (Dev.each 4 (fun m d => d.memRefresh m true) d).memSync else d
  (d.set .SYS_BOOT_STATUS_DEV_READY 0 0).set .SYS_BOOT_STATUS_STAGE 0 4

/-! ## Commands -/

/-- COLD_POWER_UP (R48, R554): AUX_PG rises. Bit e of `present` says that LS_PRESENT_L of engine e is low; `straps` is
SMB_ADDR[1:0], sampled once (R576). -/
def execColdPowerUp (present : Byte) (straps : BitVec 2) (s : State) : Host.Outcome State Fault Refusal :=
  s.run fun d => Dev.each 8 (fun e d => d.set .SYS_LS_STATUS_PRESENT e (b2n (bitAt present.toNat e)))
    (d.blank.showSnaps.set .X_SMB_STRAP 0 straps.toNat)

/-- VAUX_LOSS (R48): VAUX or AUX_PG is lost. -/
def execVauxLoss (s : State) : Host.Outcome State Fault Refusal :=
  s.run fun d =>
    let busy := d.ps == psVALIDATING || d.ps == psWAITING
    let d := (d.planAbandon.nvmInterrupt.snapAbandon).blank.set .X_SYS_AUX 0 0
    if busy then d.planCode 0xFF 0 else d

/-- SYS_RST_FALL (R551): SYS_RST_L has been low for 1 µs. -/
def execSysRstFall (s : State) : Host.Outcome State Fault Refusal :=
  s.run fun d => if d.on .X_SYS_AUX 0 && !d.on .X_SYS_RST 0 then (d.set .X_SYS_RST 0 1).warmBegin 1 else d

/-- SYS_RST_RISE (R551). -/
def execSysRstRise (s : State) : Host.Outcome State Fault Refusal :=
  s.run fun d => if d.on .X_SYS_RST 0 then (d.set .X_SYS_RST 0 0).powerUp else d

/-- WARM_RESET_CMD (R551, R552): SYS_RESET_CMD with WARM and the key, from `req`. -/
def execWarmResetCmd (req : Requester) (s : State) : Host.Outcome State Fault Refusal :=
  s.run fun d => if d.on .X_SYS_AUX 0 then (d.warmBegin (if req = .smbus then 3 else 2)).powerUp else d

/-- MAIN_PG_FALL (R551). -/
def execMainPgFall (s : State) : Host.Outcome State Fault Refusal :=
  s.run fun d =>
    if d.on .X_SYS_MAIN 0 then
      let d := d.set .X_SYS_MAIN 0 0
      if d.on .X_SYS_AUX 0 then d.warmBegin 4 else d
    else d

/-- MAIN_PG_RISE (R558). -/
def execMainPgRise (s : State) : Host.Outcome State Fault Refusal :=
  s.run fun d => if d.on .X_SYS_AUX 0 then (d.set .X_SYS_MAIN 0 1).powerUp else d

/-- PERST (R493, R551): PERST_L falls. -/
def execPerst (s : State) : Host.Outcome State Fault Refusal :=
  s.run fun d =>
    let d := (d.set .X_SYS_PERST 0 1).set .X_SYS_EP 0 0
    if d.on .X_SYS_OFF 0 then d
    else
      let d := d.set .DMA_LINK_EVENTS_LINK_DOWN 0 1
      (d.setAll [.DMA_LINK_STATUS_SPEED, .DMA_LINK_STATUS_WIDTH, .DMA_LINK_STATUS_USABLE] 0 0).functionReset

/-- PERST_RISE (R558). -/
def execPerstRise (s : State) : Host.Outcome State Fault Refusal :=
  s.run fun d => if d.on .X_SYS_PERST 0 then (d.set .X_SYS_PERST 0 0).set .X_SYS_PG_CLK 0 d.clk else d

/-- ENDPOINT_READY (R558): 5 ms after the later of MAIN_PG and PERST_L. -/
def execEndpointReady (s : State) : Host.Outcome State Fault Refusal :=
  s.run fun d =>
    if d.on .X_SYS_OFF 0 || d.on .X_SYS_PERST 0 || d.on .X_SYS_EP 0 then d
    else d.onTime (d.get .X_SYS_PG_CLK 0 + 5 * ms) fun d => d.set .X_SYS_EP 0 1

/-- FIRMWARE_START (R553, R557): the read of the boot images A and B ends; `a` and `b` are the headers of the valid ones; `areas`
are the areas of the restante store that pass their CRC-32. -/
def execFirmwareStart (a b : Option BootImage) (areas : Byte) (s : State) : Host.Outcome State Fault Refusal :=
  s.run fun d =>
    if d.on .X_SYS_OFF 0 || d.get .SYS_BOOT_STATUS_STAGE 0 != 1 then d
    else match bootChoice a b with
      | none => d.set .SYS_BOOT_STATUS_STAGE 0 5
      | some (i, x) => (d.firmwareOn i x.version.toNat).firmwareRest areas.toNat

/-- CARD_DOWN (R568). -/
def execCardDown (s : State) : Host.Outcome State Fault Refusal :=
  s.run fun d => if d.on .X_SYS_OFF 0 || !d.on .X_SYS_FW 0 then d else d.cardDown

/-- SNAPSHOT_SAVE (R559, R560). -/
def execSnapshotSave (s : State) : Host.Outcome State Fault Refusal :=
  s.run fun d =>
    if d.on .SYS_SNAP_STATUS_BUSY 0 then (d.set .SYS_SNAP_STATUS_RESULT 0 3).raise 11
    else if d.ps ≠ psLIVE then (d.set .SYS_SNAP_STATUS_RESULT 0 2).raise 11
    else
      let k := if d.snaps.isEmpty then 0 else 1 - d.get .SYS_SNAP_STATUS_IN_USE 0
      let d := ((d.set .SYS_SNAP_STATUS_BUSY 0 1).set .X_SNAP_SLOT 0 k).set .X_PLAN_PREV 0 psLIVE
      d.set .PLAN_STATUS_STATE 0 psFLASH

/-- SNAPSHOT_SAVE_DONE (R559). -/
def execSnapshotSaveDone (s : State) : Host.Outcome State Fault Refusal :=
  s.run fun d =>
    if d.on .SYS_SNAP_STATUS_BUSY 0 then
      let k := d.get .X_SNAP_SLOT 0
      let seq := match d.snaps.find? fun x => x.slot == d.get .SYS_SNAP_STATUS_IN_USE 0 with
        | some x => (x.seq + 1) % 2 ^ 32
        | none => 0
      let x := d.snapshot k seq
      let d := { d with snaps := x :: (d.snaps.filter fun y => y.slot != k) }.showSnaps
      ((d.set .SYS_SNAP_STATUS_BUSY 0 0).set .SYS_SNAP_STATUS_RESULT 0 1).planEnd.raise 11
    else d

/-- THERMAL_TRIP (R541): site `x` has been above 120 °C for 2 µs. -/
def execThermalTrip (x : Fin 40) (s : State) : Host.Outcome State Fault Refusal :=
  s.run fun d => if d.on .X_SYS_AUX 0 && d.get .THM_SD_STATUS_STATE 0 == 0 then d.trip x else d

/-- THERMAL_RESTART (R542): every 95 °C comparator reads clear and 1 s has passed since t0. -/
def execThermalRestart (s : State) : Host.Outcome State Fault Refusal :=
  s.run fun d =>
    if d.get .THM_SD_STATUS_STATE 0 = 1 then d.onTime (d.get .X_THM_SD_CLK 0 + sec) fun d => d.thermalRestart true else d

/-- R543: THM_SD_CMD.RESTART; `clear` says that every 95 °C comparator reads clear. -/
def Dev.restartCmd (d : Dev) (clear : Bool) : Dev :=
  if d.get .THM_SD_STATUS_STATE 0 = 2 then
    if clear then d.thermalRestart false else d.set .THM_SD_STATUS_REFUSED 0 1
  else d

/-- THERMAL_RESTART_CMD (R543). -/
def execThermalRestartCmd (clear : Bool) (s : State) : Host.Outcome State Fault Refusal :=
  s.run fun d => d.restartCmd clear

end Sys2Proof.Machine
end

