-- ==== Sys2Proof/Machine/Regs.lean ====
section
/-! DEFINITION. The register maps: every register with its block, its place in the block, and where its fields lie in the
word (R21, R22, and the register section of each chapter). A register array is one entry. -/

namespace Sys2Proof.Machine

/-- The registers. -/
inductive Reg where
  | SYS_ID | TIME_NOW | TIME_TICK_COUNT | TIME_TICK_CFG | TIME_POST_REQ | TIME_POST_STATUS | TIME_POST_ERR
  | TIME_OVR_EVENTS | TIME_OVR_COUNT | TIME_RING_STATUS | TIME_RING_DELAY | TIME_SET | TIME_SET_CTRL
  | TIME_CLERK_STATUS | PLAN_CTRL | PLAN_STATUS | PLAN_ERR_OFFSET | PLAN_LIVE | PLAN_LIVE_ID | PLAN_RESTARTED
  | PLAN_ACCEPT_TIME | PLAN_RES_LOG | PLAN_RES_TIME | LRX_CTRL | LRX_CMD | LRX_STATUS | LRX_EVENTS | LRX_TR
  | LRX_TR_STATUS | LRX_FFE_CTRL | LRX_NLC_CTRL | LRX_DET | LRX_GRADE | LRX_LOCK_CFG | LRX_SNR | LRX_NOISE
  | LRX_VALID_STATUS | LRX_SHADOW_CTRL | LRX_FE | LRX_FE_LIVE | LRX_DET_SEED | LRX_DET_LIVE | LRX_GRADE_COUNT
  | LRX_INVALID_SEG | LRX_SEG | LRX_SHADOW_STATUS | LRX_SHADOW_HITS | LRX_CHK_CTRL | LRX_CHK_STATUS | LRX_CHK_BITS
  | LRX_CHK_ERRS | LRX_CHK_GRADE_ERR | LRX_CHK_SKIPPED | LRX_FFE_TAP | LRX_NLC_ENTRY | LTX_CTRL | LTX_CMD
  | LTX_STATUS | LTX_EVENTS | LTX_DRV | LTX_LEVEL | LTX_COUR | LTX_PAT | LTX_CLIPS | LTX_LOOP_STATUS | LTX_FRAMES
  | LTX_FIR | LTX_PD_ENTRY | LTX_PAT_MEM | SPR_CFG | SPR_CTRL | SPR_CMD | SPR_G_STATUS | SPR_G_LAT | SPR_G_EVENTS
  | SPR_G_ALIGN | SPR_G_FRAMES | SPR_G_FRAMES_INV | SPR_G_UNC_FRAMES | SPR_G_UNC_FRAMES_INV | SPR_G_RS_CW
  | SPR_G_RS_UNC | SPR_G_RS_SYM_CORR | SPR_G_PASSES | SPR_G_INNER_DOUBT | SPR_G_SKIPPED | SPR_G_PASS_HIST
  | SPR_L_CORR_BITS | SPR_L_RS_CW | SPR_L_RS_UNC | SPR_L_PASSES | SPR_L_ALIGN | POOL_POLICY0 | POOL_POLICY1
  | POOL_CTRL | POOL_CMD | POOL_STATUS | POOL_EVENTS | POOL_SLOTS | POOL_SCORE_THR | POOL_CAPACITY | POOL_CHARGED
  | POOL_RESERVE_START | POOL_RESERVE_DRAWN | POOL_G_CTRL | POOL_G_REQ | POOL_G_SCORE | POOL_G_CHARGE | POOL_G_AGE
  | POOL_G_COUNTS | POOL_G_RESERVE | POOL_G_USED | HOST_L_CTRL | HOST_L_CMD | HOST_L_STATUS | HOST_L_EVENTS
  | HOST_L_TXEQ_LIMIT | HOST_L_TRAIN | HOST_L_TXEQ | HOST_L_TXEQ_LIVE | HOST_P_CTRL | HOST_P_CMD | HOST_P_STATUS
  | HOST_P_EVENTS | HOST_P_CW | HOST_P_CW_CORR | HOST_P_CW_UNC | HOST_P_SYM_CORR | HOST_P_HIST | HOST_T_PENDING
  | HOST_T_PENDING_PORTS | COUR_L_CTRL | COUR_L_CMD | COUR_L_STATUS | COUR_L_EVENTS | COUR_L_QUALITY | COUR_L_PWR
  | COUR_L_RX_DETECT | COUR_L_RX_RESTART | COUR_L_RX_HDR_ERR | COUR_L_RX_FORMAT_ERR | COUR_L_RX_CRC_ERR
  | COUR_L_RX_OK | COUR_L_RX_DUP | COUR_L_RX_COLLISION | COUR_L_RX_ABANDONED | COUR_L_RX_LOOP | COUR_L_TX_SENT
  | COUR_L_TX_REQUEUED | COUR_L_SNR | COUR_L_REC | COUR_TXMAP_A | COUR_TXMAP_B | COUR_RXMAP_A | COUR_RXMAP_B
  | COUR_CTRL | COUR_DLQ_STATUS | COUR_DLQ_CMD | COUR_DLQ_DESC0 | COUR_DLQ_DESC1 | COUR_DLQ_DESC2 | COUR_TX_SUBMIT
  | COUR_TX_RESULT | COUR_TX_SLOTS | COUR_TX_DONE | COUR_RX_STATUS | COUR_RX_RELEASE | COUR_RX_DESC0 | COUR_RX_DESC1
  | COUR_RX_DESC2 | CAP_SW_TRIG | CAP_STATUS | CAP_REGION | CAP_TRIG_EVENTS | CAP_XTRIG_STATUS | CAP_TRIGIN_CFG
  | CAP_XTRIG_OUT | CAP_XTRIG_IN_DELAY | CAP_MASK_W0 | CAP_MASK_W1 | CAP_T_CTRL | CAP_T_TRIG_SEL | CAP_T_CMD
  | CAP_T_STATUS | CAP_T_SEG | CAP_T_HOLDOFF | CAP_T_AUTO | CAP_T_DRAIN | CAP_T_EVENTS | CAP_T_COUNTS
  | CAP_T_TRIG_INFO | CAP_T_PERIOD | CAP_T_SWEEP0 | CAP_T_SWEEP1 | CAP_T_HIT_LIMIT | CAP_T_BUF_BASE | CAP_T_BUF_SIZE
  | CAP_T_PRE | CAP_T_POST | CAP_T_VIOL_LIMIT | CAP_T_VIOL_COUNT | CAP_T_SAMPLES_LOST | CAP_T_BLOCKS
  | CAP_T_TRIG_SAMPLE | CAP_T_TRIG_TIME | CAP_T_WRITE_PTR | CAP_T_READ_PTR | BIAS_C_CFG | BIAS_C_LIMIT
  | BIAS_C_TARGET | BIAS_C_LIVE | BIAS_C_SINE | BIAS_C_SINE_INC | BIAS_C_CMD | BIAS_C_STATUS | BIAS_C_EVENTS
  | BIAS_T_TIMER | BIAS_T_PENDING0 | BIAS_T_PENDING1 | BIAS_T_ZERO0 | BIAS_T_ZERO1 | HK_CTRL | HK_CMD | HK_STATUS
  | HK_EVENTS | HK_SEQ_TIME | HK_COUNTS | HK_LIMIT_EV0 | HK_LIMIT_EV1 | HK_SEQ | HK_CH_CFG | HK_CH_RES | HK_CH_RAW
  | HK_CH_LIMIT | CAL_CTRL | CAL_CMD | CAL_STATUS | CAL_NVM_CMD | CAL_NVM_STATUS | CAL_NVM_SEQ | CAL_DUE | CAL_CLASS
  | CAL_U_STATUS | CAL_U_COUNTS | CAL_U_TIME | CAL_U_TEMP | LEDG_CFG | LEDG_CTRL | LEDG_PERIOD_COUNT | LEDG_HIST_HEAD
  | LEDG_L_CFG | LEDG_L_STATUS | LEDG_L_FAR | LEDG_L_DISP | LEDG_L_CTRL | LEDG_L_CMD | LEDG_L_ALARM | LEDG_L_ALARM_EV
  | LEDG_L_FC | LEDG_L_REC | MEM_CFG | MEM_BAR2_BASE | MEM_HOST | MEM_ARB | MEM_CMD | MEM_EVENTS | MEM_LOST
  | MEM_STATUS | MEM_CH_READY | MEM_C_STATUS | MEM_C_CRC_RETRY | MEM_C_UNCORR | MEM_C_RETRAINS | MEM_C_ODECC
  | MEM_C_URGENT | MEM_C_BYTES | PH_CFG | PH_CMD | PH_FAULT_LOG | PH_PENDING | PH_MASK | PH_SRC | PH_T_CLAIM
  | PH_T_COMPLETE | PH_T_CFG | PH_T_IDLE | PH_T_STATUS | PH_T_EVENTS | PH_T_COUNTS | DMA_LINK_STATUS
  | DMA_LINK_EVENTS | DMA_VIOL_ADDR | DMA_VIOL_INFO | DMA_VIOL_TIME | DMA_VIOL_STATUS | DMA_VIOL_CMD | MSIX_ADDR_LO
  | MSIX_ADDR_HI | MSIX_DATA | MSIX_CTRL | DMA_ARB | DMA_STATUS | DMA_Q_CTRL | DMA_Q_CMD | DMA_Q_STATUS
  | DMA_Q_EVENTS | DMA_Q_RING | DMA_Q_CPL | DMA_Q_TAIL | DMA_Q_HEAD | DMA_Q_BYTES | DMA_Q_COUNTS | DMA_Q_DESC_DONE
  | PWR_STATUS | PWR_T_LEVEL | PWR_ASLEEP | PWR_FAILED | PWR_RET_STATUS | PWR_D_CFG | PWR_D_HORIZON | PWR_D_CMD
  | PWR_D_STATUS | PWR_D_EVENTS | PWR_D_COUNTS | PWR_D_LAST | THM_CFG | THM_STATUS | THM_CMD | THM_Z_STEP
  | THM_SD_STATUS | THM_SD_TIME | THM_SD_CMD | THM_S_READING | THM_S_STATUS | THM_S_TIME | THM_S_CMD | THM_S_EVENTS
  | SYS_RESET_CAUSE | SYS_RESET_CMD | SYS_BOOT_STATUS | SYS_SNAP_CMD | SYS_SNAP_STATUS | SYS_LS_CTRL | SYS_LS_CMD
  | SYS_LS_STATUS | SYS_LS_EVENTS | SYS_TW_CMD | SYS_TW_STATUS | SYS_TW_BUF | CAL_TRIM
  deriving DecidableEq, Repr

/-- A field of a register: bit position, and of its instances one in `per`, at `idx`. -/
structure Fld where
  f   : F
  lsb : Nat
  per : Nat
  idx : Nat
  deriving DecidableEq, Repr

/-- The entry of a register: its block, its offset there, how many there are and how far apart, whether it is a 64-bit
register, and its fields. Words of PH_PENDING and PH_MASK hold one bit for each of 32 sources and have no field list. -/
structure RegRow where
  blk    : Blk
  off    : Nat
  n      : Nat
  stride : Nat
  wide   : Bool
  fields : List Fld
  deriving DecidableEq, Repr

/-- Kind of window (0 hub, 1 tile, 2 engine), offset of the first instance in it, distance between instances, and instances
in one window. -/
def Blk.geom : Blk → Nat × Nat × Nat × Nat
  | .hub => (0, 0x0, 0x1000000, 1)
  | .lrx => (2, 0x0, 0x10000, 8)
  | .ltx => (2, 0x8000, 0x10000, 8)
  | .spr => (2, 0x100000, 0x80000, 1)
  | .sprG => (2, 0x101100, 0x80, 8)
  | .sprL => (2, 0x101800, 0x40, 8)
  | .pool => (1, 0x20000, 0x100, 1)
  | .poolG => (1, 0x20100, 0x20, 16)
  | .hostL => (1, 0x40000, 0x400, 32)
  | .hostP => (1, 0x50000, 0x200, 16)
  | .hostT => (1, 0x48000, 0x100, 1)
  | .courL => (2, 0x102000, 0x100, 8)
  | .courMap => (2, 0x103000, 0x100, 8)
  | .courH => (0, 0x14000, 0x100, 64)
  | .capM => (0, 0x20400, 0x100, 4)
  | .capT => (0, 0x21000, 0x100, 8)
  | .biasC => (1, 0x60000, 0x40, 40)
  | .biasT => (1, 0x60000, 0x1000, 1)
  | .hk => (1, 0x70000, 0x100, 1)
  | .hkC => (1, 0x70100, 0x10, 48)
  | .calU => (0, 0x31000, 0x20, 137)
  | .trim => (0, 0x33000, 0x100, 137)
  | .ledgL => (0, 0x41000, 0x80, 64)
  | .memC => (0, 0x51000, 0x100, 8)
  | .phT => (0, 0x62000, 0x40, 74)
  | .msix => (0, 0x71000, 0x10, 256)
  | .dmaQ => (0, 0x81000, 0x100, 16)
  | .pwrD => (0, 0x91000, 0x20, 158)
  | .thmS => (0, 0xa1000, 0x20, 40)
  | .sysE => (0, 0xb1000, 0x100, 8)

/-- The entry of a register. -/
def Reg.row : Reg → RegRow
  | .SYS_ID => ⟨.hub, 0x0, 1, 4, false, [⟨.SYS_ID_PART, 0, 1, 0⟩, ⟨.SYS_ID_STEPPING, 16, 1, 0⟩,
      ⟨.SYS_ID_TILES, 24, 1, 0⟩]⟩
  | .TIME_NOW => ⟨.hub, 0x1000, 1, 8, true, [⟨.TIME_NOW_NOW, 0, 1, 0⟩]⟩
  | .TIME_TICK_COUNT => ⟨.hub, 0x1008, 1, 8, true, [⟨.TIME_TICK_COUNT_COUNT, 0, 1, 0⟩]⟩
  | .TIME_TICK_CFG => ⟨.hub, 0x1010, 1, 4, false, [⟨.TIME_TICK_CFG_PERIOD_K, 0, 1, 0⟩,
      ⟨.TIME_TICK_CFG_ROLE, 4, 1, 0⟩, ⟨.TIME_TICK_CFG_POSITION, 8, 1, 0⟩]⟩
  | .TIME_POST_REQ => ⟨.hub, 0x1014, 1, 4, false, []⟩
  | .TIME_POST_STATUS => ⟨.hub, 0x1018, 1, 4, false, [⟨.TIME_POST_STATUS_SEQ_ACCEPTED, 0, 1, 0⟩,
      ⟨.TIME_POST_STATUS_SEQ_DONE, 16, 1, 0⟩]⟩
  | .TIME_POST_ERR => ⟨.hub, 0x101c, 1, 4, false, [⟨.TIME_POST_ERR_FULL, 0, 1, 0⟩, ⟨.TIME_POST_ERR_SCOPE, 1, 1, 0⟩,
      ⟨.TIME_POST_ERR_CARRIED, 2, 1, 0⟩, ⟨.TIME_POST_ERR_QUEUED, 8, 1, 0⟩]⟩
  | .TIME_OVR_EVENTS => ⟨.hub, 0x1020, 1, 4, false, [⟨.TIME_OVR_EVENTS_EVENT, 0, 1, 0⟩,
      ⟨.TIME_OVR_EVENTS_CARRY, 16, 1, 0⟩]⟩
  | .TIME_OVR_COUNT => ⟨.hub, 0x1024, 1, 4, false, [⟨.TIME_OVR_COUNT_COUNT, 0, 1, 0⟩]⟩
  | .TIME_RING_STATUS => ⟨.hub, 0x1028, 1, 4, false, [⟨.TIME_RING_STATUS_STATE, 0, 1, 0⟩,
      ⟨.TIME_RING_STATUS_CONFLICT, 4, 1, 0⟩, ⟨.TIME_RING_STATUS_PERIOD_MISMATCH, 5, 1, 0⟩,
      ⟨.TIME_RING_STATUS_MISSED, 8, 1, 0⟩, ⟨.TIME_RING_STATUS_PHASE_ERR, 16, 1, 0⟩]⟩
  | .TIME_RING_DELAY => ⟨.hub, 0x102c, 1, 4, false, [⟨.TIME_RING_DELAY_DELAY, 0, 1, 0⟩]⟩
  | .TIME_SET => ⟨.hub, 0x1030, 1, 8, true, [⟨.TIME_SET_VALUE, 0, 1, 0⟩]⟩
  | .TIME_SET_CTRL => ⟨.hub, 0x1038, 1, 4, false, [⟨.TIME_SET_CTRL_ARMED, 1, 1, 0⟩, ⟨.TIME_SET_CTRL_REFUSED, 2, 1, 0⟩]⟩
  | .TIME_CLERK_STATUS => ⟨.hub, 0x103c, 1, 4, false, [⟨.TIME_CLERK_STATUS_RESTARTED, 0, 1, 0⟩,
      ⟨.TIME_CLERK_STATUS_COUNT, 16, 1, 0⟩]⟩
  | .PLAN_CTRL => ⟨.hub, 0x2000, 1, 4, false, []⟩
  | .PLAN_STATUS => ⟨.hub, 0x2004, 1, 4, false, [⟨.PLAN_STATUS_CODE, 0, 1, 0⟩, ⟨.PLAN_STATUS_STATE, 8, 1, 0⟩,
      ⟨.PLAN_STATUS_LAST_ACTION, 12, 1, 0⟩, ⟨.PLAN_STATUS_REFUSED, 16, 1, 0⟩, ⟨.PLAN_STATUS_FALLBACK, 17, 1, 0⟩]⟩
  | .PLAN_ERR_OFFSET => ⟨.hub, 0x2008, 1, 4, false, [⟨.PLAN_ERR_OFFSET_OFFSET, 0, 1, 0⟩]⟩
  | .PLAN_LIVE => ⟨.hub, 0x200c, 1, 4, false, [⟨.PLAN_LIVE_SOURCE, 0, 1, 0⟩, ⟨.PLAN_LIVE_SLOT, 2, 1, 0⟩,
      ⟨.PLAN_LIVE_CURRENT, 4, 1, 0⟩, ⟨.PLAN_LIVE_SLOT_VALID, 8, 1, 0⟩]⟩
  | .PLAN_LIVE_ID => ⟨.hub, 0x2010, 1, 4, false, [⟨.PLAN_LIVE_ID_ID, 0, 1, 0⟩]⟩
  | .PLAN_RESTARTED => ⟨.hub, 0x2014, 1, 4, false, [⟨.PLAN_RESTARTED_ENGINES, 0, 1, 0⟩]⟩
  | .PLAN_ACCEPT_TIME => ⟨.hub, 0x2018, 1, 8, true, [⟨.PLAN_ACCEPT_TIME_TIME, 0, 1, 0⟩]⟩
  | .PLAN_RES_LOG => ⟨.hub, 0x2020, 1, 4, false, [⟨.PLAN_RES_LOG_RESOURCE, 0, 1, 0⟩, ⟨.PLAN_RES_LOG_INDEX, 8, 1, 0⟩,
      ⟨.PLAN_RES_LOG_REQUESTER, 16, 1, 0⟩, ⟨.PLAN_RES_LOG_HOLDER, 20, 1, 0⟩, ⟨.PLAN_RES_LOG_COUNT, 24, 1, 0⟩]⟩
  | .PLAN_RES_TIME => ⟨.hub, 0x2024, 1, 8, true, [⟨.PLAN_RES_TIME_TIME, 0, 1, 0⟩]⟩
  | .LRX_CTRL => ⟨.lrx, 0x0, 1, 4, false, [⟨.LRX_CTRL_FREEZE, 0, 1, 0⟩, ⟨.LRX_CTRL_ANALOG_LOOP, 8, 1, 0⟩,
      ⟨.LRX_CTRL_NLC_EN, 9, 1, 0⟩]⟩
  | .LRX_CMD => ⟨.lrx, 0x4, 1, 4, false, []⟩
  | .LRX_STATUS => ⟨.lrx, 0x8, 1, 4, false, [⟨.LRX_STATUS_STATE, 0, 1, 0⟩, ⟨.LRX_STATUS_SIGNAL, 4, 1, 0⟩,
      ⟨.LRX_STATUS_TIMING_LOCK, 5, 1, 0⟩, ⟨.LRX_STATUS_EQ_CONV, 6, 1, 0⟩, ⟨.LRX_STATUS_LOCKED, 7, 1, 0⟩,
      ⟨.LRX_STATUS_LOOPED, 8, 1, 0⟩, ⟨.LRX_STATUS_CLERK_FROZEN, 9, 1, 0⟩, ⟨.LRX_STATUS_READBACK_HELD, 15, 1, 0⟩,
      ⟨.LRX_STATUS_ACQ_COUNT, 16, 1, 0⟩]⟩
  | .LRX_EVENTS => ⟨.lrx, 0xc, 1, 4, false, [⟨.LRX_EVENTS_LOS, 0, 1, 0⟩, ⟨.LRX_EVENTS_LOCK_LOST, 1, 1, 0⟩,
      ⟨.LRX_EVENTS_LOCK_GAINED, 2, 1, 0⟩, ⟨.LRX_EVENTS_ACQ_FAIL, 3, 1, 0⟩, ⟨.LRX_EVENTS_BOUND_HIT, 4, 1, 0⟩,
      ⟨.LRX_EVENTS_CLIP, 5, 1, 0⟩, ⟨.LRX_EVENTS_DROPPED, 6, 1, 0⟩, ⟨.LRX_EVENTS_LOOP_REFUSED, 7, 1, 0⟩,
      ⟨.LRX_EVENTS_SHADOW_REFUSED, 8, 1, 0⟩, ⟨.LRX_EVENTS_CHK_LOCK, 9, 1, 0⟩, ⟨.LRX_EVENTS_CHK_LOSS, 10, 1, 0⟩,
      ⟨.LRX_EVENTS_GRADE_REJECT, 11, 1, 0⟩, ⟨.LRX_EVENTS_DROP_COUNT, 16, 1, 0⟩]⟩
  | .LRX_TR => ⟨.lrx, 0x18, 1, 4, false, [⟨.LRX_TR_PHASE_OFFSET, 0, 1, 0⟩, ⟨.LRX_TR_BW, 8, 1, 0⟩]⟩
  | .LRX_TR_STATUS => ⟨.lrx, 0x1c, 1, 4, false, [⟨.LRX_TR_STATUS_FREQ, 0, 1, 0⟩, ⟨.LRX_TR_STATUS_JITTER, 16, 1, 0⟩,
      ⟨.LRX_TR_STATUS_SLIPS, 24, 1, 0⟩]⟩
  | .LRX_FFE_CTRL => ⟨.lrx, 0x20, 1, 4, false, [⟨.LRX_FFE_CTRL_MU, 0, 1, 0⟩, ⟨.LRX_FFE_CTRL_LOAD_SEED, 3, 1, 0⟩,
      ⟨.LRX_FFE_CTRL_SEED_SRC, 4, 1, 0⟩]⟩
  | .LRX_NLC_CTRL => ⟨.lrx, 0x24, 1, 4, false, [⟨.LRX_NLC_CTRL_MU, 0, 1, 0⟩, ⟨.LRX_NLC_CTRL_LOAD_SEED, 3, 1, 0⟩,
      ⟨.LRX_NLC_CTRL_BOUND, 4, 1, 0⟩]⟩
  | .LRX_DET => ⟨.lrx, 0x28, 1, 4, false, [⟨.LRX_DET_ALPHA, 0, 1, 0⟩, ⟨.LRX_DET_BETA, 8, 1, 0⟩,
      ⟨.LRX_DET_LOAD_SEED, 14, 1, 0⟩, ⟨.LRX_DET_LEVEL_BOUND, 16, 1, 0⟩, ⟨.LRX_DET_MU, 24, 1, 0⟩]⟩
  | .LRX_GRADE => ⟨.lrx, 0x34, 1, 4, false, [⟨.LRX_GRADE_MODE, 0, 1, 0⟩, ⟨.LRX_GRADE_G1, 8, 1, 0⟩,
      ⟨.LRX_GRADE_G2, 16, 1, 0⟩, ⟨.LRX_GRADE_G3, 24, 1, 0⟩]⟩
  | .LRX_LOCK_CFG => ⟨.lrx, 0x38, 1, 4, false, [⟨.LRX_LOCK_CFG_SNR_MIN, 0, 1, 0⟩, ⟨.LRX_LOCK_CFG_HYST, 8, 1, 0⟩,
      ⟨.LRX_LOCK_CFG_ACQ_LIMIT, 16, 1, 0⟩, ⟨.LRX_LOCK_CFG_CLIP_LIMIT, 24, 1, 0⟩]⟩
  | .LRX_SNR => ⟨.lrx, 0x50, 1, 4, false, [⟨.LRX_SNR_EYE0, 0, 1, 0⟩, ⟨.LRX_SNR_EYE1, 10, 1, 0⟩,
      ⟨.LRX_SNR_EYE2, 20, 1, 0⟩]⟩
  | .LRX_NOISE => ⟨.lrx, 0x54, 1, 4, false, [⟨.LRX_NOISE_VAR, 0, 1, 0⟩, ⟨.LRX_NOISE_CLIPS, 16, 1, 0⟩]⟩
  | .LRX_VALID_STATUS => ⟨.lrx, 0x58, 1, 4, false, [⟨.LRX_VALID_STATUS_LAST_CHANGE, 0, 1, 0⟩,
      ⟨.LRX_VALID_STATUS_WINDOW, 4, 1, 0⟩]⟩
  | .LRX_SHADOW_CTRL => ⟨.lrx, 0x80, 1, 4, false, [⟨.LRX_SHADOW_CTRL_REQUEST, 0, 1, 0⟩,
      ⟨.LRX_SHADOW_CTRL_EYE, 2, 1, 0⟩, ⟨.LRX_SHADOW_CTRL_PHASE, 8, 1, 0⟩, ⟨.LRX_SHADOW_CTRL_THRESH, 16, 1, 0⟩,
      ⟨.LRX_SHADOW_CTRL_DWELL, 24, 1, 0⟩]⟩
  | .LRX_FE => ⟨.lrx, 0x10, 1, 4, false, [⟨.LRX_FE_CTLE, 0, 1, 0⟩, ⟨.LRX_FE_VGA, 8, 1, 0⟩,
      ⟨.LRX_FE_SEARCH, 14, 1, 0⟩, ⟨.LRX_FE_SD_THR, 16, 1, 0⟩]⟩
  | .LRX_FE_LIVE => ⟨.lrx, 0x14, 1, 4, false, [⟨.LRX_FE_LIVE_CTLE, 0, 1, 0⟩, ⟨.LRX_FE_LIVE_VGA, 8, 1, 0⟩,
      ⟨.LRX_FE_LIVE_AMPLITUDE, 16, 1, 0⟩]⟩
  | .LRX_DET_SEED => ⟨.lrx, 0x2c, 1, 4, false, [⟨.LRX_DET_SEED_LEVEL0, 0, 1, 0⟩, ⟨.LRX_DET_SEED_LEVEL1, 8, 1, 0⟩,
      ⟨.LRX_DET_SEED_LEVEL2, 16, 1, 0⟩, ⟨.LRX_DET_SEED_LEVEL3, 24, 1, 0⟩]⟩
  | .LRX_DET_LIVE => ⟨.lrx, 0x30, 1, 4, false, [⟨.LRX_DET_LIVE_LEVEL0, 0, 1, 0⟩, ⟨.LRX_DET_LIVE_LEVEL1, 8, 1, 0⟩,
      ⟨.LRX_DET_LIVE_LEVEL2, 16, 1, 0⟩, ⟨.LRX_DET_LIVE_LEVEL3, 24, 1, 0⟩]⟩
  | .LRX_GRADE_COUNT => ⟨.lrx, 0x40, 4, 4, false, [⟨.LRX_GRADE_COUNT_COUNT, 0, 1, 0⟩]⟩
  | .LRX_INVALID_SEG => ⟨.lrx, 0x60, 1, 8, true, [⟨.LRX_INVALID_SEG_COUNT, 0, 1, 0⟩]⟩
  | .LRX_SEG => ⟨.lrx, 0x68, 1, 8, true, [⟨.LRX_SEG_COUNT, 0, 1, 0⟩]⟩
  | .LRX_SHADOW_STATUS => ⟨.lrx, 0x84, 1, 4, false, [⟨.LRX_SHADOW_STATUS_GRANTED, 0, 1, 0⟩,
      ⟨.LRX_SHADOW_STATUS_BUSY, 1, 1, 0⟩, ⟨.LRX_SHADOW_STATUS_DONE, 2, 1, 0⟩, ⟨.LRX_SHADOW_STATUS_HOLDER, 4, 1, 0⟩]⟩
  | .LRX_SHADOW_HITS => ⟨.lrx, 0x88, 1, 4, false, [⟨.LRX_SHADOW_HITS_HITS, 0, 1, 0⟩]⟩
  | .LRX_CHK_CTRL => ⟨.lrx, 0xa0, 1, 4, false, [⟨.LRX_CHK_CTRL_ENABLE, 0, 1, 0⟩, ⟨.LRX_CHK_CTRL_PATTERN, 1, 1, 0⟩]⟩
  | .LRX_CHK_STATUS => ⟨.lrx, 0xa4, 1, 4, false, [⟨.LRX_CHK_STATUS_LOCKED, 0, 1, 0⟩,
      ⟨.LRX_CHK_STATUS_RESYNCS, 8, 1, 0⟩]⟩
  | .LRX_CHK_BITS => ⟨.lrx, 0xa8, 1, 8, true, [⟨.LRX_CHK_BITS_COUNT, 0, 1, 0⟩]⟩
  | .LRX_CHK_ERRS => ⟨.lrx, 0xb0, 1, 8, true, [⟨.LRX_CHK_ERRS_COUNT, 0, 1, 0⟩]⟩
  | .LRX_CHK_GRADE_ERR => ⟨.lrx, 0xc0, 4, 4, false, [⟨.LRX_CHK_GRADE_ERR_COUNT, 0, 1, 0⟩]⟩
  | .LRX_CHK_SKIPPED => ⟨.lrx, 0xd0, 1, 4, false, [⟨.LRX_CHK_SKIPPED_COUNT, 0, 1, 0⟩]⟩
  | .LRX_FFE_TAP => ⟨.lrx, 0x100, 48, 4, false, [⟨.LRX_FFE_TAP_SEED, 0, 1, 0⟩, ⟨.LRX_FFE_TAP_BOUND, 10, 1, 0⟩,
      ⟨.LRX_FFE_TAP_LIVE, 20, 1, 0⟩]⟩
  | .LRX_NLC_ENTRY => ⟨.lrx, 0x200, 64, 4, false, [⟨.LRX_NLC_ENTRY_SEED, 0, 1, 0⟩, ⟨.LRX_NLC_ENTRY_LIVE, 16, 1, 0⟩]⟩
  | .LTX_CTRL => ⟨.ltx, 0x0, 1, 4, false, [⟨.LTX_CTRL_SOURCE, 0, 1, 0⟩, ⟨.LTX_CTRL_FAR_LOOP, 2, 1, 0⟩,
      ⟨.LTX_CTRL_SQUELCH, 3, 1, 0⟩, ⟨.LTX_CTRL_PD_EN, 4, 1, 0⟩, ⟨.LTX_CTRL_AUTO_SQ, 5, 1, 0⟩,
      ⟨.LTX_CTRL_RAMP, 8, 1, 0⟩]⟩
  | .LTX_CMD => ⟨.ltx, 0x4, 1, 4, false, []⟩
  | .LTX_STATUS => ⟨.ltx, 0x8, 1, 4, false, [⟨.LTX_STATUS_OUTPUT, 0, 1, 0⟩, ⟨.LTX_STATUS_SOURCE, 2, 1, 0⟩,
      ⟨.LTX_STATUS_FILL, 4, 1, 0⟩, ⟨.LTX_STATUS_PLL_LOCK, 5, 1, 0⟩, ⟨.LTX_STATUS_SQ_CAUSE, 8, 1, 0⟩,
      ⟨.LTX_STATUS_LOOP_CLK_LANE, 16, 1, 0⟩, ⟨.LTX_STATUS_LOOP_CLK_VALID, 19, 1, 0⟩]⟩
  | .LTX_EVENTS => ⟨.ltx, 0xc, 1, 4, false, [⟨.LTX_EVENTS_SQUELCHED, 0, 1, 0⟩, ⟨.LTX_EVENTS_UNSQUELCHED, 1, 1, 0⟩,
      ⟨.LTX_EVENTS_CLIP, 2, 1, 0⟩, ⟨.LTX_EVENTS_DROPPED, 3, 1, 0⟩, ⟨.LTX_EVENTS_SOURCE_REFUSED, 4, 1, 0⟩,
      ⟨.LTX_EVENTS_LEVEL_REJECT, 5, 1, 0⟩, ⟨.LTX_EVENTS_LOOP_SLIP, 6, 1, 0⟩, ⟨.LTX_EVENTS_LOOP_CLK_SWITCH, 7, 1, 0⟩,
      ⟨.LTX_EVENTS_DROP_COUNT, 16, 1, 0⟩]⟩
  | .LTX_DRV => ⟨.ltx, 0x10, 1, 4, false, [⟨.LTX_DRV_SWING, 0, 1, 0⟩, ⟨.LTX_DRV_CLIP_LIMIT, 24, 1, 0⟩]⟩
  | .LTX_LEVEL => ⟨.ltx, 0x14, 1, 4, false, [⟨.LTX_LEVEL_LEVEL0, 0, 1, 0⟩, ⟨.LTX_LEVEL_LEVEL1, 8, 1, 0⟩,
      ⟨.LTX_LEVEL_LEVEL2, 16, 1, 0⟩, ⟨.LTX_LEVEL_LEVEL3, 24, 1, 0⟩]⟩
  | .LTX_COUR => ⟨.ltx, 0x18, 1, 4, false, [⟨.LTX_COUR_DEPTH, 0, 1, 0⟩]⟩
  | .LTX_PAT => ⟨.ltx, 0x1c, 1, 4, false, [⟨.LTX_PAT_PATTERN, 0, 1, 0⟩, ⟨.LTX_PAT_RAW, 2, 1, 0⟩,
      ⟨.LTX_PAT_INVERT, 3, 1, 0⟩, ⟨.LTX_PAT_INDEX, 16, 1, 0⟩]⟩
  | .LTX_CLIPS => ⟨.ltx, 0x30, 1, 4, false, [⟨.LTX_CLIPS_LAST, 0, 1, 0⟩, ⟨.LTX_CLIPS_TOTAL, 16, 1, 0⟩]⟩
  | .LTX_LOOP_STATUS => ⟨.ltx, 0x34, 1, 4, false, [⟨.LTX_LOOP_STATUS_FILL_LEVEL, 0, 1, 0⟩,
      ⟨.LTX_LOOP_STATUS_SLIPS, 8, 1, 0⟩]⟩
  | .LTX_FRAMES => ⟨.ltx, 0x38, 1, 8, true, [⟨.LTX_FRAMES_COUNT, 0, 1, 0⟩]⟩
  | .LTX_FIR => ⟨.ltx, 0x40, 9, 4, false, [⟨.LTX_FIR_COEF, 0, 1, 0⟩, ⟨.LTX_FIR_LIVE, 20, 1, 0⟩]⟩
  | .LTX_PD_ENTRY => ⟨.ltx, 0x100, 64, 4, false, [⟨.LTX_PD_ENTRY_VALUE, 0, 1, 0⟩, ⟨.LTX_PD_ENTRY_LIVE, 16, 1, 0⟩]⟩
  | .LTX_PAT_MEM => ⟨.ltx, 0x400, 256, 4, false, [⟨.LTX_PAT_MEM_SYMBOLS, 0, 1, 0⟩]⟩
  | .SPR_CFG => ⟨.spr, 0x1000, 1, 4, false, [⟨.SPR_CFG_WIDTH, 0, 1, 0⟩, ⟨.SPR_CFG_GROUPS, 4, 1, 0⟩,
      ⟨.SPR_CFG_MODE, 8, 1, 0⟩]⟩
  | .SPR_CTRL => ⟨.spr, 0x1004, 1, 4, false, [⟨.SPR_CTRL_UNC_MARK, 0, 1, 0⟩, ⟨.SPR_CTRL_DOUBT, 4, 1, 0⟩,
      ⟨.SPR_CTRL_ERASE_MAX, 8, 1, 0⟩, ⟨.SPR_CTRL_SLEW, 14, 1, 0⟩]⟩
  | .SPR_CMD => ⟨.spr, 0x1008, 1, 4, false, []⟩
  | .SPR_G_STATUS => ⟨.sprG, 0x0, 1, 4, false, [⟨.SPR_G_STATUS_STATE, 0, 1, 0⟩, ⟨.SPR_G_STATUS_STREAM_LOCK, 8, 1, 0⟩,
      ⟨.SPR_G_STATUS_ANCHOR, 16, 1, 0⟩, ⟨.SPR_G_STATUS_ALLOW, 24, 1, 0⟩, ⟨.SPR_G_STATUS_USABLE, 28, 1, 0⟩]⟩
  | .SPR_G_LAT => ⟨.sprG, 0x4, 1, 4, false, [⟨.SPR_G_LAT_LATENCY, 0, 1, 0⟩, ⟨.SPR_G_LAT_TARGET, 16, 1, 0⟩]⟩
  | .SPR_G_EVENTS => ⟨.sprG, 0x8, 1, 4, false, [⟨.SPR_G_EVENTS_LOCK_GAINED, 0, 1, 0⟩,
      ⟨.SPR_G_EVENTS_LOCK_LOST, 1, 1, 0⟩, ⟨.SPR_G_EVENTS_UNC, 2, 1, 0⟩, ⟨.SPR_G_EVENTS_ORDER_ERR, 3, 1, 0⟩,
      ⟨.SPR_G_EVENTS_SKEW_ERR, 4, 1, 0⟩, ⟨.SPR_G_EVENTS_LANE_REJOIN, 5, 1, 0⟩, ⟨.SPR_G_EVENTS_SKIPPED, 6, 1, 0⟩,
      ⟨.SPR_G_EVENTS_ERASE_CAPPED, 7, 1, 0⟩, ⟨.SPR_G_EVENTS_STREAM_LOST, 8, 1, 0⟩]⟩
  | .SPR_G_ALIGN => ⟨.sprG, 0xc, 1, 4, false, [⟨.SPR_G_ALIGN_SKEW, 0, 1, 0⟩, ⟨.SPR_G_ALIGN_ORDER_LANE, 12, 1, 0⟩,
      ⟨.SPR_G_ALIGN_ORDER_FOUND, 16, 1, 0⟩]⟩
  | .SPR_G_FRAMES => ⟨.sprG, 0x10, 1, 8, true, [⟨.SPR_G_FRAMES_COUNT, 0, 1, 0⟩]⟩
  | .SPR_G_FRAMES_INV => ⟨.sprG, 0x18, 1, 8, true, [⟨.SPR_G_FRAMES_INV_COUNT, 0, 1, 0⟩]⟩
  | .SPR_G_UNC_FRAMES => ⟨.sprG, 0x20, 1, 8, true, [⟨.SPR_G_UNC_FRAMES_COUNT, 0, 1, 0⟩]⟩
  | .SPR_G_UNC_FRAMES_INV => ⟨.sprG, 0x28, 1, 8, true, [⟨.SPR_G_UNC_FRAMES_INV_COUNT, 0, 1, 0⟩]⟩
  | .SPR_G_RS_CW => ⟨.sprG, 0x30, 1, 8, true, [⟨.SPR_G_RS_CW_COUNT, 0, 1, 0⟩]⟩
  | .SPR_G_RS_UNC => ⟨.sprG, 0x38, 1, 8, true, [⟨.SPR_G_RS_UNC_COUNT, 0, 1, 0⟩]⟩
  | .SPR_G_RS_SYM_CORR => ⟨.sprG, 0x40, 1, 8, true, [⟨.SPR_G_RS_SYM_CORR_COUNT, 0, 1, 0⟩]⟩
  | .SPR_G_PASSES => ⟨.sprG, 0x48, 1, 8, true, [⟨.SPR_G_PASSES_COUNT, 0, 1, 0⟩]⟩
  | .SPR_G_INNER_DOUBT => ⟨.sprG, 0x50, 1, 8, true, [⟨.SPR_G_INNER_DOUBT_COUNT, 0, 1, 0⟩]⟩
  | .SPR_G_SKIPPED => ⟨.sprG, 0x58, 1, 8, true, [⟨.SPR_G_SKIPPED_COUNT, 0, 1, 0⟩]⟩
  | .SPR_G_PASS_HIST => ⟨.sprG, 0x60, 6, 4, false, [⟨.SPR_G_PASS_HIST_COUNT, 0, 1, 0⟩]⟩
  | .SPR_L_CORR_BITS => ⟨.sprL, 0x0, 1, 8, true, [⟨.SPR_L_CORR_BITS_COUNT, 0, 1, 0⟩]⟩
  | .SPR_L_RS_CW => ⟨.sprL, 0x8, 1, 8, true, [⟨.SPR_L_RS_CW_COUNT, 0, 1, 0⟩]⟩
  | .SPR_L_RS_UNC => ⟨.sprL, 0x10, 1, 8, true, [⟨.SPR_L_RS_UNC_COUNT, 0, 1, 0⟩]⟩
  | .SPR_L_PASSES => ⟨.sprL, 0x18, 1, 8, true, [⟨.SPR_L_PASSES_COUNT, 0, 1, 0⟩]⟩
  | .SPR_L_ALIGN => ⟨.sprL, 0x20, 1, 4, false, [⟨.SPR_L_ALIGN_DELAY, 0, 1, 0⟩, ⟨.SPR_L_ALIGN_ANCHOR_MISS, 16, 1, 0⟩]⟩
  | .POOL_POLICY0 => ⟨.pool, 0x0, 1, 4, false, [⟨.POOL_POLICY0_URGENT, 0, 1, 0⟩, ⟨.POOL_POLICY0_RESERVE, 12, 1, 0⟩,
      ⟨.POOL_POLICY0_HOLD, 16, 1, 0⟩, ⟨.POOL_POLICY0_FRAME_LIMIT, 24, 1, 0⟩]⟩
  | .POOL_POLICY1 => ⟨.pool, 0x4, 1, 4, false, [⟨.POOL_POLICY1_FLOOR, 0, 1, 0⟩]⟩
  | .POOL_CTRL => ⟨.pool, 0x14, 1, 4, false, [⟨.POOL_CTRL_DRIVER_CAP, 0, 1, 0⟩]⟩
  | .POOL_CMD => ⟨.pool, 0x18, 1, 4, false, []⟩
  | .POOL_STATUS => ⟨.pool, 0x20, 1, 4, false, [⟨.POOL_STATUS_LEVEL, 0, 1, 0⟩, ⟨.POOL_STATUS_CAP_THERMAL, 4, 1, 0⟩,
      ⟨.POOL_STATUS_CAP_LIVE, 8, 1, 0⟩, ⟨.POOL_STATUS_URGENT_COUNT, 16, 1, 0⟩, ⟨.POOL_STATUS_OVERBOOKED, 21, 1, 0⟩,
      ⟨.POOL_STATUS_POOL_ON, 22, 1, 0⟩]⟩
  | .POOL_EVENTS => ⟨.pool, 0x34, 1, 4, false, [⟨.POOL_EVENTS_URGENT_ENTER, 0, 1, 0⟩,
      ⟨.POOL_EVENTS_CAP_CHANGE, 1, 1, 0⟩, ⟨.POOL_EVENTS_OVERBOOKED, 2, 1, 0⟩, ⟨.POOL_EVENTS_RESERVE_EMPTY, 3, 1, 0⟩,
      ⟨.POOL_EVENTS_FLOOR_CUT, 4, 1, 0⟩, ⟨.POOL_EVENTS_MINMAX_REJECT, 5, 1, 0⟩, ⟨.POOL_EVENTS_GRANT_CARRIED, 6, 1, 0⟩]⟩
  | .POOL_SLOTS => ⟨.pool, 0x38, 1, 8, true, [⟨.POOL_SLOTS_COUNT, 0, 1, 0⟩]⟩
  | .POOL_SCORE_THR => ⟨.pool, 0x8, 3, 4, false, [⟨.POOL_SCORE_THR_LOW, 0, 1, 0⟩, ⟨.POOL_SCORE_THR_HIGH, 16, 1, 0⟩]⟩
  | .POOL_CAPACITY => ⟨.pool, 0x24, 1, 4, false, [⟨.POOL_CAPACITY_SLOTS, 0, 1, 0⟩]⟩
  | .POOL_CHARGED => ⟨.pool, 0x28, 1, 4, false, [⟨.POOL_CHARGED_SLOTS, 0, 1, 0⟩]⟩
  | .POOL_RESERVE_START => ⟨.pool, 0x2c, 1, 4, false, [⟨.POOL_RESERVE_START_SLOTS, 0, 1, 0⟩]⟩
  | .POOL_RESERVE_DRAWN => ⟨.pool, 0x30, 1, 4, false, [⟨.POOL_RESERVE_DRAWN_SLOTS, 0, 1, 0⟩]⟩
  | .POOL_G_CTRL => ⟨.poolG, 0x0, 1, 4, false, [⟨.POOL_G_CTRL_MIN, 0, 1, 0⟩, ⟨.POOL_G_CTRL_MAX, 4, 1, 0⟩,
      ⟨.POOL_G_CTRL_FORCE_EN, 8, 1, 0⟩, ⟨.POOL_G_CTRL_FORCE, 9, 1, 0⟩]⟩
  | .POOL_G_REQ => ⟨.poolG, 0x4, 1, 4, false, [⟨.POOL_G_REQ_REQUEST, 0, 1, 0⟩, ⟨.POOL_G_REQ_POLICY, 4, 1, 0⟩,
      ⟨.POOL_G_REQ_FLOOR, 8, 1, 0⟩, ⟨.POOL_G_REQ_LEDGER_MIN, 12, 1, 0⟩, ⟨.POOL_G_REQ_GRANT, 16, 1, 0⟩,
      ⟨.POOL_G_REQ_URGENT, 20, 1, 0⟩, ⟨.POOL_G_REQ_DENIED, 21, 1, 0⟩, ⟨.POOL_G_REQ_SERVED, 22, 1, 0⟩]⟩
  | .POOL_G_SCORE => ⟨.poolG, 0x8, 1, 4, false, [⟨.POOL_G_SCORE_SCORE, 0, 1, 0⟩, ⟨.POOL_G_SCORE_F1, 16, 1, 0⟩]⟩
  | .POOL_G_CHARGE => ⟨.poolG, 0xc, 1, 4, false, [⟨.POOL_G_CHARGE_CHARGE, 0, 1, 0⟩]⟩
  | .POOL_G_AGE => ⟨.poolG, 0x10, 1, 4, false, [⟨.POOL_G_AGE_AGE, 0, 1, 0⟩, ⟨.POOL_G_AGE_MAX_AGE, 16, 1, 0⟩]⟩
  | .POOL_G_COUNTS => ⟨.poolG, 0x14, 1, 4, false, [⟨.POOL_G_COUNTS_DENIED, 0, 1, 0⟩,
      ⟨.POOL_G_COUNTS_URGENT_ENTRIES, 16, 1, 0⟩]⟩
  | .POOL_G_RESERVE => ⟨.poolG, 0x18, 1, 4, false, [⟨.POOL_G_RESERVE_SLOTS, 0, 1, 0⟩]⟩
  | .POOL_G_USED => ⟨.poolG, 0x1c, 1, 4, false, [⟨.POOL_G_USED_SLOTS, 0, 1, 0⟩]⟩
  | .HOST_L_CTRL => ⟨.hostL, 0x0, 1, 4, false, [⟨.HOST_L_CTRL_C2M, 0, 1, 0⟩, ⟨.HOST_L_CTRL_TRAIN, 1, 1, 0⟩,
      ⟨.HOST_L_CTRL_PRECODE_TX, 2, 1, 0⟩, ⟨.HOST_L_CTRL_PRECODE_RX, 3, 1, 0⟩, ⟨.HOST_L_CTRL_POL_TX, 4, 1, 0⟩,
      ⟨.HOST_L_CTRL_POL_RX, 5, 1, 0⟩]⟩
  | .HOST_L_CMD => ⟨.hostL, 0x4, 1, 4, false, []⟩
  | .HOST_L_STATUS => ⟨.hostL, 0x8, 1, 4, false, [⟨.HOST_L_STATUS_STATE, 0, 1, 0⟩, ⟨.HOST_L_STATUS_SIGNAL, 3, 1, 0⟩,
      ⟨.HOST_L_STATUS_CDR_LOCK, 4, 1, 0⟩, ⟨.HOST_L_STATUS_ROLE, 5, 1, 0⟩, ⟨.HOST_L_STATUS_PRECODE_TX_LIVE, 7, 1, 0⟩,
      ⟨.HOST_L_STATUS_PRECODE_RX_LIVE, 8, 1, 0⟩, ⟨.HOST_L_STATUS_SNR, 16, 1, 0⟩]⟩
  | .HOST_L_EVENTS => ⟨.hostL, 0xc, 1, 4, false, [⟨.HOST_L_EVENTS_LOS, 0, 1, 0⟩, ⟨.HOST_L_EVENTS_TRAIN_OK, 1, 1, 0⟩,
      ⟨.HOST_L_EVENTS_TRAIN_FAIL, 2, 1, 0⟩, ⟨.HOST_L_EVENTS_READY_LOST, 3, 1, 0⟩,
      ⟨.HOST_L_EVENTS_TRAIN_COUNT, 16, 1, 0⟩]⟩
  | .HOST_L_TXEQ_LIMIT => ⟨.hostL, 0x18, 1, 4, false, [⟨.HOST_L_TXEQ_LIMIT_CM3_MAX, 0, 1, 0⟩,
      ⟨.HOST_L_TXEQ_LIMIT_CM2_MAX, 6, 1, 0⟩, ⟨.HOST_L_TXEQ_LIMIT_CM1_MAX, 12, 1, 0⟩,
      ⟨.HOST_L_TXEQ_LIMIT_CP1_MAX, 18, 1, 0⟩]⟩
  | .HOST_L_TRAIN => ⟨.hostL, 0x1c, 1, 4, false, [⟨.HOST_L_TRAIN_TIMEOUT, 0, 1, 0⟩]⟩
  | .HOST_L_TXEQ => ⟨.hostL, 0x10, 1, 4, false, [⟨.HOST_L_TXEQ_CM3, 0, 1, 0⟩, ⟨.HOST_L_TXEQ_CM2, 6, 1, 0⟩,
      ⟨.HOST_L_TXEQ_CM1, 12, 1, 0⟩, ⟨.HOST_L_TXEQ_CP1, 18, 1, 0⟩, ⟨.HOST_L_TXEQ_SWING, 24, 1, 0⟩]⟩
  | .HOST_L_TXEQ_LIVE => ⟨.hostL, 0x14, 1, 4, false, [⟨.HOST_L_TXEQ_LIVE_CM3, 0, 1, 0⟩,
      ⟨.HOST_L_TXEQ_LIVE_CM2, 6, 1, 0⟩, ⟨.HOST_L_TXEQ_LIVE_CM1, 12, 1, 0⟩, ⟨.HOST_L_TXEQ_LIVE_CP1, 18, 1, 0⟩,
      ⟨.HOST_L_TXEQ_LIVE_SWING, 24, 1, 0⟩]⟩
  | .HOST_P_CTRL => ⟨.hostP, 0x0, 1, 4, false, [⟨.HOST_P_CTRL_NEAR_LOOP, 0, 1, 0⟩, ⟨.HOST_P_CTRL_UNC_MARK, 1, 1, 0⟩,
      ⟨.HOST_P_CTRL_NODATA, 2, 1, 0⟩]⟩
  | .HOST_P_CMD => ⟨.hostP, 0x4, 1, 4, false, []⟩
  | .HOST_P_STATUS => ⟨.hostP, 0x8, 1, 4, false, [⟨.HOST_P_STATUS_AM_LOCK, 0, 1, 0⟩,
      ⟨.HOST_P_STATUS_TX_SRC, 1, 1, 0⟩, ⟨.HOST_P_STATUS_SKEW, 8, 1, 0⟩, ⟨.HOST_P_STATUS_LANES_LOCKED, 16, 1, 0⟩]⟩
  | .HOST_P_EVENTS => ⟨.hostP, 0xc, 1, 4, false, [⟨.HOST_P_EVENTS_LOCK_GAINED, 0, 1, 0⟩,
      ⟨.HOST_P_EVENTS_LOCK_LOST, 1, 1, 0⟩, ⟨.HOST_P_EVENTS_DESKEW_ERR, 2, 1, 0⟩, ⟨.HOST_P_EVENTS_UNC, 3, 1, 0⟩,
      ⟨.HOST_P_EVENTS_LOOP_SLIP, 4, 1, 0⟩]⟩
  | .HOST_P_CW => ⟨.hostP, 0x10, 1, 8, true, [⟨.HOST_P_CW_COUNT, 0, 1, 0⟩]⟩
  | .HOST_P_CW_CORR => ⟨.hostP, 0x18, 1, 8, true, [⟨.HOST_P_CW_CORR_COUNT, 0, 1, 0⟩]⟩
  | .HOST_P_CW_UNC => ⟨.hostP, 0x20, 1, 8, true, [⟨.HOST_P_CW_UNC_COUNT, 0, 1, 0⟩]⟩
  | .HOST_P_SYM_CORR => ⟨.hostP, 0x28, 1, 8, true, [⟨.HOST_P_SYM_CORR_COUNT, 0, 1, 0⟩]⟩
  | .HOST_P_HIST => ⟨.hostP, 0x40, 16, 4, false, [⟨.HOST_P_HIST_COUNT, 0, 1, 0⟩]⟩
  | .HOST_T_PENDING => ⟨.hostT, 0x0, 1, 4, false, [⟨.HOST_T_PENDING_LANES, 0, 1, 0⟩]⟩
  | .HOST_T_PENDING_PORTS => ⟨.hostT, 0x4, 1, 4, false, [⟨.HOST_T_PENDING_PORTS_PORTS, 0, 1, 0⟩]⟩
  | .COUR_L_CTRL => ⟨.courL, 0x0, 1, 4, false, [⟨.COUR_L_CTRL_TX_EN, 0, 1, 0⟩, ⟨.COUR_L_CTRL_RX_EN, 1, 1, 0⟩,
      ⟨.COUR_L_CTRL_KNOCK_EN, 2, 1, 0⟩, ⟨.COUR_L_CTRL_TX_HOLD, 3, 1, 0⟩]⟩
  | .COUR_L_CMD => ⟨.courL, 0x4, 1, 4, false, []⟩
  | .COUR_L_STATUS => ⟨.courL, 0x8, 1, 4, false, [⟨.COUR_L_STATUS_RX_STATE, 0, 1, 0⟩,
      ⟨.COUR_L_STATUS_TX_STATE, 4, 1, 0⟩, ⟨.COUR_L_STATUS_CANCEL, 7, 1, 0⟩, ⟨.COUR_L_STATUS_DETECTOR_ARMED, 8, 1, 0⟩,
      ⟨.COUR_L_STATUS_QUARANTINE_ALL, 9, 1, 0⟩]⟩
  | .COUR_L_EVENTS => ⟨.courL, 0xc, 1, 4, false, [⟨.COUR_L_EVENTS_RX_MSG, 0, 1, 0⟩,
      ⟨.COUR_L_EVENTS_TX_DONE, 1, 1, 0⟩, ⟨.COUR_L_EVENTS_DEAD_LETTER, 2, 1, 0⟩, ⟨.COUR_L_EVENTS_KNOCK_SEEN, 3, 1, 0⟩,
      ⟨.COUR_L_EVENTS_KNOCK_WAKE, 4, 1, 0⟩, ⟨.COUR_L_EVENTS_MAP_REJECT, 5, 1, 0⟩,
      ⟨.COUR_L_EVENTS_DLQ_OVERFLOW, 6, 1, 0⟩, ⟨.COUR_L_EVENTS_KNOCK_DROPPED, 7, 1, 0⟩]⟩
  | .COUR_L_QUALITY => ⟨.courL, 0x10, 1, 4, false, [⟨.COUR_L_QUALITY_AGG_SNR, 0, 1, 0⟩,
      ⟨.COUR_L_QUALITY_LQ, 8, 1, 0⟩, ⟨.COUR_L_QUALITY_MEASURED, 18, 1, 0⟩]⟩
  | .COUR_L_PWR => ⟨.courL, 0x14, 1, 4, false, [⟨.COUR_L_PWR_LAST_PRE, 0, 1, 0⟩, ⟨.COUR_L_PWR_LAST_COLL, 8, 1, 0⟩]⟩
  | .COUR_L_RX_DETECT => ⟨.courL, 0x20, 1, 4, false, [⟨.COUR_L_RX_DETECT_COUNT, 0, 1, 0⟩]⟩
  | .COUR_L_RX_RESTART => ⟨.courL, 0x24, 1, 4, false, [⟨.COUR_L_RX_RESTART_COUNT, 0, 1, 0⟩]⟩
  | .COUR_L_RX_HDR_ERR => ⟨.courL, 0x28, 1, 4, false, [⟨.COUR_L_RX_HDR_ERR_COUNT, 0, 1, 0⟩]⟩
  | .COUR_L_RX_FORMAT_ERR => ⟨.courL, 0x2c, 1, 4, false, [⟨.COUR_L_RX_FORMAT_ERR_COUNT, 0, 1, 0⟩]⟩
  | .COUR_L_RX_CRC_ERR => ⟨.courL, 0x30, 1, 4, false, [⟨.COUR_L_RX_CRC_ERR_COUNT, 0, 1, 0⟩]⟩
  | .COUR_L_RX_OK => ⟨.courL, 0x34, 1, 4, false, [⟨.COUR_L_RX_OK_COUNT, 0, 1, 0⟩]⟩
  | .COUR_L_RX_DUP => ⟨.courL, 0x38, 1, 4, false, [⟨.COUR_L_RX_DUP_COUNT, 0, 1, 0⟩]⟩
  | .COUR_L_RX_COLLISION => ⟨.courL, 0x3c, 1, 4, false, [⟨.COUR_L_RX_COLLISION_COUNT, 0, 1, 0⟩]⟩
  | .COUR_L_RX_ABANDONED => ⟨.courL, 0x40, 1, 4, false, [⟨.COUR_L_RX_ABANDONED_COUNT, 0, 1, 0⟩]⟩
  | .COUR_L_RX_LOOP => ⟨.courL, 0x44, 1, 4, false, [⟨.COUR_L_RX_LOOP_COUNT, 0, 1, 0⟩]⟩
  | .COUR_L_TX_SENT => ⟨.courL, 0x48, 1, 4, false, [⟨.COUR_L_TX_SENT_COUNT, 0, 1, 0⟩]⟩
  | .COUR_L_TX_REQUEUED => ⟨.courL, 0x4c, 1, 4, false, [⟨.COUR_L_TX_REQUEUED_COUNT, 0, 1, 0⟩]⟩
  | .COUR_L_SNR => ⟨.courL, 0x60, 24, 4, false, [⟨.COUR_L_SNR_SNR, 0, 1, 0⟩]⟩
  | .COUR_L_REC => ⟨.courL, 0xc0, 12, 4, false, [⟨.COUR_L_REC_CODES, 0, 1, 0⟩]⟩
  | .COUR_TXMAP_A => ⟨.courMap, 0x0, 12, 4, false, [⟨.COUR_TXMAP_A_CODES, 0, 1, 0⟩]⟩
  | .COUR_TXMAP_B => ⟨.courMap, 0x30, 12, 4, false, [⟨.COUR_TXMAP_B_CODES, 0, 1, 0⟩]⟩
  | .COUR_RXMAP_A => ⟨.courMap, 0x60, 12, 4, false, [⟨.COUR_RXMAP_A_CODES, 0, 1, 0⟩]⟩
  | .COUR_RXMAP_B => ⟨.courMap, 0x90, 12, 4, false, [⟨.COUR_RXMAP_B_CODES, 0, 1, 0⟩]⟩
  | .COUR_CTRL => ⟨.hub, 0x10000, 1, 4, false, [⟨.COUR_CTRL_PREEMPT, 0, 1, 0⟩, ⟨.COUR_CTRL_THRESH, 8, 1, 0⟩,
      ⟨.COUR_CTRL_KNOCK_THR, 16, 1, 0⟩]⟩
  | .COUR_DLQ_STATUS => ⟨.hub, 0x10004, 1, 4, false, [⟨.COUR_DLQ_STATUS_COUNT, 0, 1, 0⟩,
      ⟨.COUR_DLQ_STATUS_HEAD, 8, 1, 0⟩, ⟨.COUR_DLQ_STATUS_OVERFLOWS, 16, 1, 0⟩]⟩
  | .COUR_DLQ_CMD => ⟨.hub, 0x10008, 1, 4, false, []⟩
  | .COUR_DLQ_DESC0 => ⟨.hub, 0x10010, 1, 4, false, [⟨.COUR_DLQ_DESC0_LANE, 0, 1, 0⟩, ⟨.COUR_DLQ_DESC0_DIR, 6, 1, 0⟩,
      ⟨.COUR_DLQ_DESC0_REASON, 8, 1, 0⟩, ⟨.COUR_DLQ_DESC0_ID, 12, 1, 0⟩, ⟨.COUR_DLQ_DESC0_GEN, 22, 1, 0⟩,
      ⟨.COUR_DLQ_DESC0_MODE, 24, 1, 0⟩]⟩
  | .COUR_DLQ_DESC1 => ⟨.hub, 0x10014, 1, 4, false, [⟨.COUR_DLQ_DESC1_LEN, 0, 1, 0⟩, ⟨.COUR_DLQ_DESC1_BUF, 16, 1, 0⟩]⟩
  | .COUR_DLQ_DESC2 => ⟨.hub, 0x10018, 1, 8, true, [⟨.COUR_DLQ_DESC2_TIME, 0, 1, 0⟩]⟩
  | .COUR_TX_SUBMIT => ⟨.courH, 0x0, 1, 4, false, []⟩
  | .COUR_TX_RESULT => ⟨.courH, 0x4, 1, 4, false, [⟨.COUR_TX_RESULT_STATUS, 0, 1, 0⟩,
      ⟨.COUR_TX_RESULT_SLOT, 4, 1, 0⟩, ⟨.COUR_TX_RESULT_GEN, 6, 1, 0⟩, ⟨.COUR_TX_RESULT_QUAR_LEFT, 16, 1, 0⟩]⟩
  | .COUR_TX_SLOTS => ⟨.courH, 0x8, 1, 4, false, [⟨.COUR_TX_SLOTS_BUSY, 0, 1, 0⟩, ⟨.COUR_TX_SLOTS_SENDING, 4, 1, 0⟩,
      ⟨.COUR_TX_SLOTS_KNOCK_PENDING, 7, 1, 0⟩]⟩
  | .COUR_TX_DONE => ⟨.courH, 0xc, 1, 4, false, [⟨.COUR_TX_DONE_SENT, 0, 1, 0⟩, ⟨.COUR_TX_DONE_DEAD, 4, 1, 0⟩]⟩
  | .COUR_RX_STATUS => ⟨.courH, 0x10, 1, 4, false, [⟨.COUR_RX_STATUS_FULL, 0, 1, 0⟩, ⟨.COUR_RX_STATUS_OLDEST, 4, 1, 0⟩]⟩
  | .COUR_RX_RELEASE => ⟨.courH, 0x14, 1, 4, false, []⟩
  | .COUR_RX_DESC0 => ⟨.courH, 0x40, 4, 16, false, [⟨.COUR_RX_DESC0_ID, 0, 1, 0⟩, ⟨.COUR_RX_DESC0_GEN, 10, 1, 0⟩,
      ⟨.COUR_RX_DESC0_LEN, 12, 1, 0⟩, ⟨.COUR_RX_DESC0_MODE, 24, 1, 0⟩, ⟨.COUR_RX_DESC0_LOOP, 27, 1, 0⟩]⟩
  | .COUR_RX_DESC1 => ⟨.courH, 0x44, 4, 16, false, [⟨.COUR_RX_DESC1_SNR, 0, 1, 0⟩, ⟨.COUR_RX_DESC1_PWR, 8, 1, 0⟩]⟩
  | .COUR_RX_DESC2 => ⟨.courH, 0x48, 4, 16, true, [⟨.COUR_RX_DESC2_TIME, 0, 1, 0⟩]⟩
  | .CAP_SW_TRIG => ⟨.hub, 0x20000, 1, 4, false, []⟩
  | .CAP_STATUS => ⟨.hub, 0x20004, 1, 4, false, [⟨.CAP_STATUS_ACTIVE, 0, 1, 0⟩, ⟨.CAP_STATUS_STREAMING, 8, 1, 0⟩,
      ⟨.CAP_STATUS_GDDR7_USED, 16, 1, 0⟩, ⟨.CAP_STATUS_PCIE_USED, 26, 1, 0⟩]⟩
  | .CAP_REGION => ⟨.hub, 0x20008, 1, 4, false, [⟨.CAP_REGION_BASE, 0, 1, 0⟩, ⟨.CAP_REGION_SIZE, 16, 1, 0⟩]⟩
  | .CAP_TRIG_EVENTS => ⟨.hub, 0x20020, 1, 4, false, [⟨.CAP_TRIG_EVENTS_CLOSE, 0, 1, 0⟩,
      ⟨.CAP_TRIG_EVENTS_CLOSE_COUNT, 16, 1, 0⟩]⟩
  | .CAP_XTRIG_STATUS => ⟨.hub, 0x20034, 1, 4, false, [⟨.CAP_XTRIG_STATUS_MERGED, 0, 1, 0⟩]⟩
  | .CAP_TRIGIN_CFG => ⟨.hub, 0x20010, 4, 4, false, [⟨.CAP_TRIGIN_CFG_EDGE, 0, 1, 0⟩,
      ⟨.CAP_TRIGIN_CFG_DELAY, 16, 1, 0⟩]⟩
  | .CAP_XTRIG_OUT => ⟨.hub, 0x20024, 2, 4, false, [⟨.CAP_XTRIG_OUT_SRC, 0, 1, 0⟩,
      ⟨.CAP_XTRIG_OUT_REFUSED, 30, 1, 0⟩, ⟨.CAP_XTRIG_OUT_DRIVING, 31, 1, 0⟩]⟩
  | .CAP_XTRIG_IN_DELAY => ⟨.hub, 0x2002c, 2, 4, false, [⟨.CAP_XTRIG_IN_DELAY_DELAY, 0, 1, 0⟩]⟩
  | .CAP_MASK_W0 => ⟨.capM, 0x0, 16, 8, false, [⟨.CAP_MASK_W0_EN, 0, 1, 0⟩, ⟨.CAP_MASK_W0_KIND, 1, 1, 0⟩,
      ⟨.CAP_MASK_W0_LEVEL_EYE, 2, 1, 0⟩, ⟨.CAP_MASK_W0_LO, 8, 1, 0⟩, ⟨.CAP_MASK_W0_HI, 16, 1, 0⟩]⟩
  | .CAP_MASK_W1 => ⟨.capM, 0x4, 16, 8, false, [⟨.CAP_MASK_W1_PH_LO, 0, 1, 0⟩, ⟨.CAP_MASK_W1_PH_HI, 8, 1, 0⟩]⟩
  | .CAP_T_CTRL => ⟨.capT, 0x0, 1, 4, false, [⟨.CAP_T_CTRL_POINT, 0, 1, 0⟩, ⟨.CAP_T_CTRL_MODE, 4, 1, 0⟩,
      ⟨.CAP_T_CTRL_LANE, 8, 1, 0⟩, ⟨.CAP_T_CTRL_AUTO, 14, 1, 0⟩, ⟨.CAP_T_CTRL_GATE_EN, 15, 1, 0⟩,
      ⟨.CAP_T_CTRL_SCOPE, 16, 1, 0⟩, ⟨.CAP_T_CTRL_MASK_SEL, 18, 1, 0⟩, ⟨.CAP_T_CTRL_MASK_EN, 20, 1, 0⟩,
      ⟨.CAP_T_CTRL_MASK_STOP, 21, 1, 0⟩]⟩
  | .CAP_T_TRIG_SEL => ⟨.capT, 0x4, 1, 4, false, [⟨.CAP_T_TRIG_SEL_SRC, 0, 1, 0⟩]⟩
  | .CAP_T_CMD => ⟨.capT, 0x8, 1, 4, false, []⟩
  | .CAP_T_STATUS => ⟨.capT, 0xc, 1, 4, false, [⟨.CAP_T_STATUS_STATE, 0, 1, 0⟩, ⟨.CAP_T_STATUS_REFUSE, 4, 1, 0⟩,
      ⟨.CAP_T_STATUS_END_REASON, 8, 1, 0⟩, ⟨.CAP_T_STATUS_CLAMPED, 12, 1, 0⟩, ⟨.CAP_T_STATUS_ARMS, 16, 1, 0⟩]⟩
  | .CAP_T_SEG => ⟨.capT, 0x20, 1, 4, false, [⟨.CAP_T_SEG_SEGMENTS, 0, 1, 0⟩, ⟨.CAP_T_SEG_SEG_DONE, 16, 1, 0⟩]⟩
  | .CAP_T_HOLDOFF => ⟨.capT, 0x24, 1, 4, false, [⟨.CAP_T_HOLDOFF_HOLDOFF, 0, 1, 0⟩,
      ⟨.CAP_T_HOLDOFF_GATE_ON, 8, 1, 0⟩, ⟨.CAP_T_HOLDOFF_GATE_PER, 16, 1, 0⟩]⟩
  | .CAP_T_AUTO => ⟨.capT, 0x28, 1, 4, false, [⟨.CAP_T_AUTO_TIMEOUT, 0, 1, 0⟩]⟩
  | .CAP_T_DRAIN => ⟨.capT, 0x2c, 1, 4, false, [⟨.CAP_T_DRAIN_QUEUE, 0, 1, 0⟩, ⟨.CAP_T_DRAIN_COUT, 8, 1, 0⟩]⟩
  | .CAP_T_EVENTS => ⟨.capT, 0x38, 1, 4, false, [⟨.CAP_T_EVENTS_TRIGGERED, 0, 1, 0⟩, ⟨.CAP_T_EVENTS_DONE, 1, 1, 0⟩,
      ⟨.CAP_T_EVENTS_GAP, 2, 1, 0⟩, ⟨.CAP_T_EVENTS_MASK_LIMIT, 3, 1, 0⟩, ⟨.CAP_T_EVENTS_CLAMPED, 4, 1, 0⟩,
      ⟨.CAP_T_EVENTS_REFUSED, 5, 1, 0⟩]⟩
  | .CAP_T_COUNTS => ⟨.capT, 0x3c, 1, 4, false, [⟨.CAP_T_COUNTS_TRIG_MISSED, 0, 1, 0⟩,
      ⟨.CAP_T_COUNTS_RECORDS_LOST, 16, 1, 0⟩]⟩
  | .CAP_T_TRIG_INFO => ⟨.capT, 0x60, 1, 4, false, [⟨.CAP_T_TRIG_INFO_FRAC, 0, 1, 0⟩,
      ⟨.CAP_T_TRIG_INFO_SOURCE, 16, 1, 0⟩, ⟨.CAP_T_TRIG_INFO_FLAGS, 24, 1, 0⟩]⟩
  | .CAP_T_PERIOD => ⟨.capT, 0x80, 1, 8, true, [⟨.CAP_T_PERIOD_P, 0, 1, 0⟩]⟩
  | .CAP_T_SWEEP0 => ⟨.capT, 0x70, 1, 4, false, [⟨.CAP_T_SWEEP0_PH_START, 0, 1, 0⟩, ⟨.CAP_T_SWEEP0_PH_STOP, 8, 1, 0⟩,
      ⟨.CAP_T_SWEEP0_TH_START, 16, 1, 0⟩, ⟨.CAP_T_SWEEP0_TH_STOP, 24, 1, 0⟩]⟩
  | .CAP_T_SWEEP1 => ⟨.capT, 0x74, 1, 4, false, [⟨.CAP_T_SWEEP1_PH_STEP, 0, 1, 0⟩, ⟨.CAP_T_SWEEP1_TH_STEP, 8, 1, 0⟩,
      ⟨.CAP_T_SWEEP1_EYES, 16, 1, 0⟩, ⟨.CAP_T_SWEEP1_DWELL, 24, 1, 0⟩]⟩
  | .CAP_T_HIT_LIMIT => ⟨.capT, 0x78, 1, 4, false, [⟨.CAP_T_HIT_LIMIT_HITS, 0, 1, 0⟩]⟩
  | .CAP_T_BUF_BASE => ⟨.capT, 0x10, 1, 4, false, [⟨.CAP_T_BUF_BASE_BLOCKS, 0, 1, 0⟩]⟩
  | .CAP_T_BUF_SIZE => ⟨.capT, 0x14, 1, 4, false, [⟨.CAP_T_BUF_SIZE_BLOCKS, 0, 1, 0⟩]⟩
  | .CAP_T_PRE => ⟨.capT, 0x18, 1, 4, false, [⟨.CAP_T_PRE_BLOCKS, 0, 1, 0⟩]⟩
  | .CAP_T_POST => ⟨.capT, 0x1c, 1, 4, false, [⟨.CAP_T_POST_BLOCKS, 0, 1, 0⟩]⟩
  | .CAP_T_VIOL_LIMIT => ⟨.capT, 0x30, 1, 4, false, [⟨.CAP_T_VIOL_LIMIT_COUNT, 0, 1, 0⟩]⟩
  | .CAP_T_VIOL_COUNT => ⟨.capT, 0x34, 1, 4, false, [⟨.CAP_T_VIOL_COUNT_COUNT, 0, 1, 0⟩]⟩
  | .CAP_T_SAMPLES_LOST => ⟨.capT, 0x40, 1, 8, true, [⟨.CAP_T_SAMPLES_LOST_VALUE, 0, 1, 0⟩]⟩
  | .CAP_T_BLOCKS => ⟨.capT, 0x48, 1, 8, true, [⟨.CAP_T_BLOCKS_VALUE, 0, 1, 0⟩]⟩
  | .CAP_T_TRIG_SAMPLE => ⟨.capT, 0x50, 1, 8, true, [⟨.CAP_T_TRIG_SAMPLE_VALUE, 0, 1, 0⟩]⟩
  | .CAP_T_TRIG_TIME => ⟨.capT, 0x58, 1, 8, true, [⟨.CAP_T_TRIG_TIME_VALUE, 0, 1, 0⟩]⟩
  | .CAP_T_WRITE_PTR => ⟨.capT, 0x68, 1, 4, false, [⟨.CAP_T_WRITE_PTR_BLOCK, 0, 1, 0⟩]⟩
  | .CAP_T_READ_PTR => ⟨.capT, 0x6c, 1, 4, false, [⟨.CAP_T_READ_PTR_BLOCK, 0, 1, 0⟩]⟩
  | .BIAS_C_CFG => ⟨.biasC, 0x0, 1, 4, false, [⟨.BIAS_C_CFG_ENABLE, 0, 1, 0⟩, ⟨.BIAS_C_CFG_FUNCTION, 1, 1, 0⟩,
      ⟨.BIAS_C_CFG_RANGE, 2, 1, 0⟩, ⟨.BIAS_C_CFG_SHAPE, 3, 1, 0⟩, ⟨.BIAS_C_CFG_TRIGGER, 4, 1, 0⟩,
      ⟨.BIAS_C_CFG_ZERO_ON_LS, 5, 1, 0⟩, ⟨.BIAS_C_CFG_STEP, 16, 1, 0⟩]⟩
  | .BIAS_C_LIMIT => ⟨.biasC, 0x4, 1, 4, false, [⟨.BIAS_C_LIMIT_LO, 0, 1, 0⟩, ⟨.BIAS_C_LIMIT_HI, 16, 1, 0⟩]⟩
  | .BIAS_C_TARGET => ⟨.biasC, 0x8, 1, 4, false, [⟨.BIAS_C_TARGET_TARGET, 0, 1, 0⟩]⟩
  | .BIAS_C_LIVE => ⟨.biasC, 0xc, 1, 4, false, [⟨.BIAS_C_LIVE_LIVE, 0, 1, 0⟩, ⟨.BIAS_C_LIVE_OUTPUT, 16, 1, 0⟩]⟩
  | .BIAS_C_SINE => ⟨.biasC, 0x10, 1, 4, false, [⟨.BIAS_C_SINE_EN, 0, 1, 0⟩, ⟨.BIAS_C_SINE_RATE, 1, 1, 0⟩,
      ⟨.BIAS_C_SINE_AMP, 16, 1, 0⟩]⟩
  | .BIAS_C_SINE_INC => ⟨.biasC, 0x14, 1, 4, false, [⟨.BIAS_C_SINE_INC_INC, 0, 1, 0⟩]⟩
  | .BIAS_C_CMD => ⟨.biasC, 0x18, 1, 4, false, []⟩
  | .BIAS_C_STATUS => ⟨.biasC, 0x1c, 1, 4, false, [⟨.BIAS_C_STATUS_STATE, 0, 1, 0⟩,
      ⟨.BIAS_C_STATUS_SETTLED, 2, 1, 0⟩, ⟨.BIAS_C_STATUS_SINE_ON, 3, 1, 0⟩, ⟨.BIAS_C_STATUS_COMPLIANCE, 4, 1, 0⟩,
      ⟨.BIAS_C_STATUS_ZERO_CAUSE, 8, 1, 0⟩]⟩
  | .BIAS_C_EVENTS => ⟨.biasC, 0x20, 1, 4, false, [⟨.BIAS_C_EVENTS_ZEROED, 0, 1, 0⟩,
      ⟨.BIAS_C_EVENTS_LIMIT_CLAMP, 1, 1, 0⟩, ⟨.BIAS_C_EVENTS_COMPLIANCE, 2, 1, 0⟩,
      ⟨.BIAS_C_EVENTS_SINE_REJECT, 3, 1, 0⟩, ⟨.BIAS_C_EVENTS_DROPPED, 4, 1, 0⟩,
      ⟨.BIAS_C_EVENTS_RELEASE_REFUSED, 5, 1, 0⟩, ⟨.BIAS_C_EVENTS_DROP_COUNT, 16, 1, 0⟩]⟩
  | .BIAS_T_TIMER => ⟨.biasT, 0xc00, 1, 4, false, [⟨.BIAS_T_TIMER_P, 0, 1, 0⟩, ⟨.BIAS_T_TIMER_VBIAS_OK, 8, 1, 0⟩]⟩
  | .BIAS_T_PENDING0 => ⟨.biasT, 0xc04, 1, 4, false, [⟨.BIAS_T_PENDING0_CHANNELS, 0, 1, 0⟩]⟩
  | .BIAS_T_PENDING1 => ⟨.biasT, 0xc08, 1, 4, false, [⟨.BIAS_T_PENDING1_CHANNELS, 0, 1, 0⟩]⟩
  | .BIAS_T_ZERO0 => ⟨.biasT, 0xc0c, 1, 4, false, [⟨.BIAS_T_ZERO0_CHANNELS, 0, 1, 0⟩]⟩
  | .BIAS_T_ZERO1 => ⟨.biasT, 0xc10, 1, 4, false, [⟨.BIAS_T_ZERO1_CHANNELS, 0, 1, 0⟩]⟩
  | .HK_CTRL => ⟨.hk, 0x0, 1, 4, false, [⟨.HK_CTRL_TICK_EN, 0, 1, 0⟩, ⟨.HK_CTRL_PIN_EN, 1, 1, 0⟩,
      ⟨.HK_CTRL_PIN_EDGE, 2, 1, 0⟩, ⟨.HK_CTRL_LOOP, 3, 1, 0⟩, ⟨.HK_CTRL_DONE_IRQ, 4, 1, 0⟩,
      ⟨.HK_CTRL_SEQ_LEN, 8, 1, 0⟩]⟩
  | .HK_CMD => ⟨.hk, 0x4, 1, 4, false, []⟩
  | .HK_STATUS => ⟨.hk, 0x8, 1, 4, false, [⟨.HK_STATUS_STATE, 0, 1, 0⟩, ⟨.HK_STATUS_BUSY, 3, 1, 0⟩,
      ⟨.HK_STATUS_LAST_SRC, 4, 1, 0⟩, ⟨.HK_STATUS_ENTRY, 8, 1, 0⟩, ⟨.HK_STATUS_SEQ_COUNT, 16, 1, 0⟩]⟩
  | .HK_EVENTS => ⟨.hk, 0xc, 1, 4, false, [⟨.HK_EVENTS_SEQ_DONE, 0, 1, 0⟩, ⟨.HK_EVENTS_START_MISSED, 1, 1, 0⟩,
      ⟨.HK_EVENTS_SEQ_ABORT, 2, 1, 0⟩, ⟨.HK_EVENTS_LIMIT, 3, 1, 0⟩]⟩
  | .HK_SEQ_TIME => ⟨.hk, 0x10, 1, 8, true, [⟨.HK_SEQ_TIME_TIME, 0, 1, 0⟩]⟩
  | .HK_COUNTS => ⟨.hk, 0x18, 1, 4, false, [⟨.HK_COUNTS_DISCARDS, 0, 1, 0⟩, ⟨.HK_COUNTS_STARTS_MISSED, 16, 1, 0⟩]⟩
  | .HK_LIMIT_EV0 => ⟨.hk, 0x20, 1, 4, false, [⟨.HK_LIMIT_EV0_CHANNELS, 0, 1, 0⟩]⟩
  | .HK_LIMIT_EV1 => ⟨.hk, 0x24, 1, 4, false, [⟨.HK_LIMIT_EV1_CHANNELS, 0, 1, 0⟩]⟩
  | .HK_SEQ => ⟨.hk, 0x40, 12, 4, false, [⟨.HK_SEQ_CHANNEL, 0, 4, 0⟩, ⟨.HK_SEQ_REPEAT, 6, 4, 0⟩,
      ⟨.HK_SEQ_CHANNEL, 8, 4, 1⟩, ⟨.HK_SEQ_REPEAT, 14, 4, 1⟩, ⟨.HK_SEQ_CHANNEL, 16, 4, 2⟩,
      ⟨.HK_SEQ_REPEAT, 22, 4, 2⟩, ⟨.HK_SEQ_CHANNEL, 24, 4, 3⟩, ⟨.HK_SEQ_REPEAT, 30, 4, 3⟩]⟩
  | .HK_CH_CFG => ⟨.hkC, 0x0, 1, 4, false, [⟨.HK_CH_CFG_LEN, 0, 1, 0⟩, ⟨.HK_CH_CFG_GAIN, 4, 1, 0⟩,
      ⟨.HK_CH_CFG_SUB, 8, 1, 0⟩, ⟨.HK_CH_CFG_QTY, 14, 1, 0⟩]⟩
  | .HK_CH_RES => ⟨.hkC, 0x4, 1, 4, false, [⟨.HK_CH_RES_VALUE, 0, 1, 0⟩, ⟨.HK_CH_RES_PRIMING, 16, 1, 0⟩,
      ⟨.HK_CH_RES_TRANSITION, 17, 1, 0⟩, ⟨.HK_CH_RES_STALE, 18, 1, 0⟩, ⟨.HK_CH_RES_COUNT, 24, 1, 0⟩]⟩
  | .HK_CH_RAW => ⟨.hkC, 0x8, 1, 4, false, [⟨.HK_CH_RAW_CODE, 0, 1, 0⟩, ⟨.HK_CH_RAW_DISCARD, 12, 1, 0⟩,
      ⟨.HK_CH_RAW_LEN_PENDING, 13, 1, 0⟩, ⟨.HK_CH_RAW_LEN_LIVE, 16, 1, 0⟩, ⟨.HK_CH_RAW_FADE_LEFT, 20, 1, 0⟩]⟩
  | .HK_CH_LIMIT => ⟨.hkC, 0xc, 1, 4, false, [⟨.HK_CH_LIMIT_LO, 0, 1, 0⟩, ⟨.HK_CH_LIMIT_EN, 15, 1, 0⟩,
      ⟨.HK_CH_LIMIT_HI, 16, 1, 0⟩]⟩
  | .CAL_CTRL => ⟨.hub, 0x30000, 1, 4, false, [⟨.CAL_CTRL_HOLD, 0, 1, 0⟩]⟩
  | .CAL_CMD => ⟨.hub, 0x30004, 1, 4, false, []⟩
  | .CAL_STATUS => ⟨.hub, 0x30008, 1, 4, false, [⟨.CAL_STATUS_DUE, 0, 1, 0⟩, ⟨.CAL_STATUS_RUNNING, 8, 1, 0⟩,
      ⟨.CAL_STATUS_REFUSED, 16, 1, 0⟩]⟩
  | .CAL_NVM_CMD => ⟨.hub, 0x30080, 1, 4, false, []⟩
  | .CAL_NVM_STATUS => ⟨.hub, 0x30084, 1, 4, false, [⟨.CAL_NVM_STATUS_SOURCE, 0, 1, 0⟩,
      ⟨.CAL_NVM_STATUS_BUSY, 2, 1, 0⟩, ⟨.CAL_NVM_STATUS_RETRY, 3, 1, 0⟩, ⟨.CAL_NVM_STATUS_RESULT, 4, 1, 0⟩,
      ⟨.CAL_NVM_STATUS_WRITES, 16, 1, 0⟩]⟩
  | .CAL_NVM_SEQ => ⟨.hub, 0x30088, 1, 4, false, [⟨.CAL_NVM_SEQ_SEQ, 0, 1, 0⟩]⟩
  | .CAL_DUE => ⟨.hub, 0x30010, 5, 4, false, [⟨.CAL_DUE_UNITS, 0, 1, 0⟩]⟩
  | .CAL_CLASS => ⟨.hub, 0x30040, 5, 4, false, [⟨.CAL_CLASS_ENABLES, 0, 1, 0⟩, ⟨.CAL_CLASS_THRESH, 8, 1, 0⟩,
      ⟨.CAL_CLASS_PERIOD, 16, 1, 0⟩]⟩
  | .CAL_U_STATUS => ⟨.calU, 0x0, 1, 4, false, [⟨.CAL_U_STATUS_STATE, 0, 1, 0⟩, ⟨.CAL_U_STATUS_REASONS, 2, 1, 0⟩,
      ⟨.CAL_U_STATUS_DIRTY, 8, 1, 0⟩, ⟨.CAL_U_STATUS_LIMIT, 9, 1, 0⟩, ⟨.CAL_U_STATUS_DROPPED, 10, 1, 0⟩,
      ⟨.CAL_U_STATUS_SUBSTITUTE, 11, 1, 0⟩]⟩
  | .CAL_U_COUNTS => ⟨.calU, 0x4, 1, 4, false, [⟨.CAL_U_COUNTS_RUNS, 0, 1, 0⟩, ⟨.CAL_U_COUNTS_ABORTS, 16, 1, 0⟩,
      ⟨.CAL_U_COUNTS_FAILS, 24, 1, 0⟩]⟩
  | .CAL_U_TIME => ⟨.calU, 0x8, 1, 8, true, [⟨.CAL_U_TIME_TIME, 0, 1, 0⟩]⟩
  | .CAL_U_TEMP => ⟨.calU, 0x10, 1, 4, false, [⟨.CAL_U_TEMP_LAST, 0, 1, 0⟩, ⟨.CAL_U_TEMP_SITE, 16, 1, 0⟩]⟩
  | .LEDG_CFG => ⟨.hub, 0x40000, 1, 4, false, [⟨.LEDG_CFG_PERIOD_EXP, 0, 1, 0⟩, ⟨.LEDG_CFG_WINDOW, 8, 1, 0⟩,
      ⟨.LEDG_CFG_FORECAST_ALARM, 16, 1, 0⟩]⟩
  | .LEDG_CTRL => ⟨.hub, 0x40004, 1, 4, false, [⟨.LEDG_CTRL_PERIOD_IRQ, 0, 1, 0⟩]⟩
  | .LEDG_PERIOD_COUNT => ⟨.hub, 0x40008, 1, 8, true, [⟨.LEDG_PERIOD_COUNT_COUNT, 0, 1, 0⟩]⟩
  | .LEDG_HIST_HEAD => ⟨.hub, 0x40010, 1, 4, false, [⟨.LEDG_HIST_HEAD_HEAD, 0, 1, 0⟩]⟩
  | .LEDG_L_CFG => ⟨.ledgL, 0x0, 1, 4, false, [⟨.LEDG_L_CFG_ENABLES, 0, 1, 0⟩, ⟨.LEDG_L_CFG_BIAS_CH, 8, 1, 0⟩,
      ⟨.LEDG_L_CFG_HEATER_CH, 16, 1, 0⟩]⟩
  | .LEDG_L_STATUS => ⟨.ledgL, 0xc, 1, 4, false, [⟨.LEDG_L_STATUS_VALID_RECS, 0, 1, 0⟩,
      ⟨.LEDG_L_STATUS_FIT_VALID, 8, 1, 0⟩, ⟨.LEDG_L_STATUS_FAR_FRESH, 9, 1, 0⟩, ⟨.LEDG_L_STATUS_PAUSED, 10, 1, 0⟩,
      ⟨.LEDG_L_STATUS_REFERENCED, 11, 1, 0⟩]⟩
  | .LEDG_L_FAR => ⟨.ledgL, 0x18, 1, 4, false, [⟨.LEDG_L_FAR_SNR0, 0, 1, 0⟩, ⟨.LEDG_L_FAR_SNR2, 10, 1, 0⟩,
      ⟨.LEDG_L_FAR_WORST, 20, 1, 0⟩]⟩
  | .LEDG_L_DISP => ⟨.ledgL, 0x1c, 1, 4, false, [⟨.LEDG_L_DISP_LEVEL, 0, 1, 0⟩, ⟨.LEDG_L_DISP_TX, 8, 1, 0⟩,
      ⟨.LEDG_L_DISP_LEDGER_MIN, 16, 1, 0⟩]⟩
  | .LEDG_L_CTRL => ⟨.ledgL, 0x4, 1, 4, false, [⟨.LEDG_L_CTRL_PAUSE, 0, 1, 0⟩]⟩
  | .LEDG_L_CMD => ⟨.ledgL, 0x8, 1, 4, false, []⟩
  | .LEDG_L_ALARM => ⟨.ledgL, 0x10, 1, 4, false, [⟨.LEDG_L_ALARM_WORD, 0, 1, 0⟩]⟩
  | .LEDG_L_ALARM_EV => ⟨.ledgL, 0x14, 1, 4, false, [⟨.LEDG_L_ALARM_EV_RISEN, 0, 1, 0⟩]⟩
  | .LEDG_L_FC => ⟨.ledgL, 0x20, 3, 4, false, [⟨.LEDG_L_FC_LOW, 0, 1, 0⟩, ⟨.LEDG_L_FC_HIGH, 16, 1, 0⟩]⟩
  | .LEDG_L_REC => ⟨.ledgL, 0x40, 16, 4, false, [⟨.LEDG_L_REC_BYTES, 0, 1, 0⟩]⟩
  | .MEM_CFG => ⟨.hub, 0x50000, 1, 4, false, [⟨.MEM_CFG_DENSITY, 0, 1, 0⟩, ⟨.MEM_CFG_CAPACITY, 8, 1, 0⟩]⟩
  | .MEM_BAR2_BASE => ⟨.hub, 0x50010, 1, 4, false, [⟨.MEM_BAR2_BASE_BASE, 0, 1, 0⟩]⟩
  | .MEM_HOST => ⟨.hub, 0x50014, 1, 4, false, [⟨.MEM_HOST_CAP_WRITE, 0, 1, 0⟩]⟩
  | .MEM_ARB => ⟨.hub, 0x50018, 1, 4, false, [⟨.MEM_ARB_URGENT, 0, 1, 0⟩, ⟨.MEM_ARB_RANK0, 8, 1, 0⟩,
      ⟨.MEM_ARB_RANK1, 11, 1, 0⟩, ⟨.MEM_ARB_RANK2, 14, 1, 0⟩, ⟨.MEM_ARB_RANK3, 17, 1, 0⟩, ⟨.MEM_ARB_RANK4, 20, 1, 0⟩]⟩
  | .MEM_CMD => ⟨.hub, 0x5001c, 1, 4, false, []⟩
  | .MEM_EVENTS => ⟨.hub, 0x50020, 1, 4, false, [⟨.MEM_EVENTS_UNCORR, 0, 1, 0⟩, ⟨.MEM_EVENTS_RETRAINED, 1, 1, 0⟩,
      ⟨.MEM_EVENTS_FAILED, 2, 1, 0⟩, ⟨.MEM_EVENTS_HOT, 3, 1, 0⟩, ⟨.MEM_EVENTS_HOT_STOP, 4, 1, 0⟩,
      ⟨.MEM_EVENTS_REGION_ABSENT, 5, 1, 0⟩]⟩
  | .MEM_LOST => ⟨.hub, 0x50024, 1, 4, false, [⟨.MEM_LOST_LEDGER, 0, 1, 0⟩]⟩
  | .MEM_STATUS => ⟨.hub, 0x50004, 1, 4, false, [⟨.MEM_STATUS_STATE, 0, 1, 0⟩]⟩
  | .MEM_CH_READY => ⟨.hub, 0x50008, 1, 4, false, [⟨.MEM_CH_READY_CHANNELS, 0, 1, 0⟩]⟩
  | .MEM_C_STATUS => ⟨.memC, 0x0, 1, 4, false, [⟨.MEM_C_STATUS_TRAINED, 0, 1, 0⟩, ⟨.MEM_C_STATUS_PAUSED, 4, 1, 0⟩,
      ⟨.MEM_C_STATUS_TEMP, 8, 1, 0⟩, ⟨.MEM_C_STATUS_SELF_REFRESH, 16, 1, 0⟩, ⟨.MEM_C_STATUS_WRITE_STOP, 17, 1, 0⟩]⟩
  | .MEM_C_CRC_RETRY => ⟨.memC, 0x4, 1, 4, false, [⟨.MEM_C_CRC_RETRY_COUNT, 0, 1, 0⟩]⟩
  | .MEM_C_UNCORR => ⟨.memC, 0x8, 1, 4, false, [⟨.MEM_C_UNCORR_COUNT, 0, 1, 0⟩]⟩
  | .MEM_C_RETRAINS => ⟨.memC, 0xc, 1, 4, false, [⟨.MEM_C_RETRAINS_COUNT, 0, 1, 0⟩]⟩
  | .MEM_C_ODECC => ⟨.memC, 0x10, 1, 4, false, [⟨.MEM_C_ODECC_COUNT, 0, 1, 0⟩]⟩
  | .MEM_C_URGENT => ⟨.memC, 0x14, 1, 4, false, [⟨.MEM_C_URGENT_CLASS0, 0, 1, 0⟩, ⟨.MEM_C_URGENT_CLASS2, 8, 1, 0⟩,
      ⟨.MEM_C_URGENT_CLASS3, 16, 1, 0⟩, ⟨.MEM_C_URGENT_CLASS4, 24, 1, 0⟩]⟩
  | .MEM_C_BYTES => ⟨.memC, 0x18, 1, 8, true, [⟨.MEM_C_BYTES_COUNT, 0, 1, 0⟩]⟩
  | .PH_CFG => ⟨.hub, 0x60000, 1, 4, false, [⟨.PH_CFG_MODE, 0, 1, 0⟩, ⟨.PH_CFG_TARGETS, 8, 1, 0⟩]⟩
  | .PH_CMD => ⟨.hub, 0x60004, 1, 4, false, []⟩
  | .PH_FAULT_LOG => ⟨.hub, 0x60008, 1, 4, false, [⟨.PH_FAULT_LOG_TARGET, 0, 1, 0⟩, ⟨.PH_FAULT_LOG_SOURCE, 8, 1, 0⟩,
      ⟨.PH_FAULT_LOG_KIND, 18, 1, 0⟩, ⟨.PH_FAULT_LOG_COUNT, 24, 1, 0⟩]⟩
  | .PH_PENDING => ⟨.hub, 0x60100, 32, 4, false, []⟩
  | .PH_MASK => ⟨.hub, 0x60180, 32, 4, false, []⟩
  | .PH_SRC => ⟨.hub, 0x61000, 1024, 4, false, [⟨.PH_SRC_PRIORITY, 0, 1, 0⟩, ⟨.PH_SRC_LEVEL, 4, 1, 0⟩,
      ⟨.PH_SRC_TARGET, 8, 1, 0⟩, ⟨.PH_SRC_OCCUR, 16, 1, 0⟩, ⟨.PH_SRC_IN_SERVICE, 24, 1, 0⟩, ⟨.PH_SRC_LINE, 25, 1, 0⟩]⟩
  | .PH_T_CLAIM => ⟨.phT, 0x0, 1, 4, false, [⟨.PH_T_CLAIM_SOURCE, 0, 1, 0⟩, ⟨.PH_T_CLAIM_PRIORITY, 12, 1, 0⟩,
      ⟨.PH_T_CLAIM_OCCUR, 16, 1, 0⟩, ⟨.PH_T_CLAIM_LATE, 31, 1, 0⟩]⟩
  | .PH_T_COMPLETE => ⟨.phT, 0x4, 1, 4, false, []⟩
  | .PH_T_CFG => ⟨.phT, 0x8, 1, 4, false, [⟨.PH_T_CFG_MOD_COUNT, 0, 1, 0⟩, ⟨.PH_T_CFG_MOD_TIME, 8, 1, 0⟩]⟩
  | .PH_T_IDLE => ⟨.phT, 0xc, 1, 4, false, [⟨.PH_T_IDLE_TARGET_IDLE, 0, 1, 0⟩]⟩
  | .PH_T_STATUS => ⟨.phT, 0x10, 1, 4, false, [⟨.PH_T_STATUS_DEFINED, 0, 1, 0⟩, ⟨.PH_T_STATUS_IDLE, 1, 1, 0⟩,
      ⟨.PH_T_STATUS_HELD, 2, 1, 0⟩, ⟨.PH_T_STATUS_ELIGIBLE, 3, 1, 0⟩, ⟨.PH_T_STATUS_DEPTH, 4, 1, 0⟩,
      ⟨.PH_T_STATUS_TOP, 16, 1, 0⟩]⟩
  | .PH_T_EVENTS => ⟨.phT, 0x14, 1, 4, false, [⟨.PH_T_EVENTS_STACK_ORDER, 0, 1, 0⟩,
      ⟨.PH_T_EVENTS_BAD_COMPLETE, 1, 1, 0⟩, ⟨.PH_T_EVENTS_LATE_DELIVERY, 2, 1, 0⟩]⟩
  | .PH_T_COUNTS => ⟨.phT, 0x18, 1, 4, false, [⟨.PH_T_COUNTS_MESSAGES, 0, 1, 0⟩, ⟨.PH_T_COUNTS_SPURIOUS, 16, 1, 0⟩]⟩
  | .DMA_LINK_STATUS => ⟨.hub, 0x70000, 1, 4, false, [⟨.DMA_LINK_STATUS_SPEED, 0, 1, 0⟩,
      ⟨.DMA_LINK_STATUS_WIDTH, 3, 1, 0⟩, ⟨.DMA_LINK_STATUS_L1, 7, 1, 0⟩, ⟨.DMA_LINK_STATUS_DSTATE, 8, 1, 0⟩,
      ⟨.DMA_LINK_STATUS_BME, 10, 1, 0⟩, ⟨.DMA_LINK_STATUS_USABLE, 16, 1, 0⟩]⟩
  | .DMA_LINK_EVENTS => ⟨.hub, 0x70004, 1, 4, false, [⟨.DMA_LINK_EVENTS_LINK_DOWN, 0, 1, 0⟩,
      ⟨.DMA_LINK_EVENTS_LINK_UP, 1, 1, 0⟩, ⟨.DMA_LINK_EVENTS_SPEED_CHANGE, 2, 1, 0⟩,
      ⟨.DMA_LINK_EVENTS_WIDTH_CHANGE, 3, 1, 0⟩, ⟨.DMA_LINK_EVENTS_HOT_RESET, 4, 1, 0⟩,
      ⟨.DMA_LINK_EVENTS_FLR, 5, 1, 0⟩, ⟨.DMA_LINK_EVENTS_D3HOT, 6, 1, 0⟩]⟩
  | .DMA_VIOL_ADDR => ⟨.hub, 0x70010, 1, 8, true, [⟨.DMA_VIOL_ADDR_ADDR, 0, 1, 0⟩]⟩
  | .DMA_VIOL_INFO => ⟨.hub, 0x70018, 1, 4, false, [⟨.DMA_VIOL_INFO_REQ_ID, 0, 1, 0⟩,
      ⟨.DMA_VIOL_INFO_REQUESTER, 16, 1, 0⟩, ⟨.DMA_VIOL_INFO_BAR, 18, 1, 0⟩, ⟨.DMA_VIOL_INFO_WRITE, 19, 1, 0⟩,
      ⟨.DMA_VIOL_INFO_TYPE, 20, 1, 0⟩]⟩
  | .DMA_VIOL_TIME => ⟨.hub, 0x70020, 1, 8, true, [⟨.DMA_VIOL_TIME_TIME, 0, 1, 0⟩]⟩
  | .DMA_VIOL_STATUS => ⟨.hub, 0x70008, 1, 4, false, [⟨.DMA_VIOL_STATUS_COUNT, 0, 1, 0⟩,
      ⟨.DMA_VIOL_STATUS_OVERFLOWS, 16, 1, 0⟩]⟩
  | .DMA_VIOL_CMD => ⟨.hub, 0x7000c, 1, 4, false, []⟩
  | .MSIX_ADDR_LO => ⟨.msix, 0x0, 1, 4, false, [⟨.MSIX_ADDR_LO_ADDR_LO, 0, 1, 0⟩]⟩
  | .MSIX_ADDR_HI => ⟨.msix, 0x4, 1, 4, false, [⟨.MSIX_ADDR_HI_ADDR_HI, 0, 1, 0⟩]⟩
  | .MSIX_DATA => ⟨.msix, 0x8, 1, 4, false, [⟨.MSIX_DATA_DATA, 0, 1, 0⟩]⟩
  | .MSIX_CTRL => ⟨.msix, 0xc, 1, 4, false, [⟨.MSIX_CTRL_MASK, 0, 1, 0⟩]⟩
  | .DMA_ARB => ⟨.hub, 0x80000, 1, 4, false, [⟨.DMA_ARB_URGENT, 0, 1, 0⟩]⟩
  | .DMA_STATUS => ⟨.hub, 0x80004, 1, 4, false, [⟨.DMA_STATUS_RUNNING, 0, 1, 0⟩, ⟨.DMA_STATUS_ERROR, 16, 1, 0⟩]⟩
  | .DMA_Q_CTRL => ⟨.dmaQ, 0x0, 1, 4, false, [⟨.DMA_Q_CTRL_ENABLE, 0, 1, 0⟩, ⟨.DMA_Q_CTRL_SIZE_EXP, 1, 1, 0⟩]⟩
  | .DMA_Q_CMD => ⟨.dmaQ, 0x4, 1, 4, false, []⟩
  | .DMA_Q_STATUS => ⟨.dmaQ, 0x8, 1, 4, false, [⟨.DMA_Q_STATUS_STATE, 0, 1, 0⟩, ⟨.DMA_Q_STATUS_KIND, 2, 1, 0⟩,
      ⟨.DMA_Q_STATUS_EPOCH, 4, 1, 0⟩, ⟨.DMA_Q_STATUS_ERR_STATUS, 8, 1, 0⟩, ⟨.DMA_Q_STATUS_PHASE, 16, 1, 0⟩,
      ⟨.DMA_Q_STATUS_PAUSED, 17, 1, 0⟩]⟩
  | .DMA_Q_EVENTS => ⟨.dmaQ, 0xc, 1, 4, false, [⟨.DMA_Q_EVENTS_DONE, 0, 1, 0⟩, ⟨.DMA_Q_EVENTS_ERROR, 1, 1, 0⟩,
      ⟨.DMA_Q_EVENTS_STARVED, 2, 1, 0⟩, ⟨.DMA_Q_EVENTS_LATE, 3, 1, 0⟩, ⟨.DMA_Q_EVENTS_CFG_IGNORED, 4, 1, 0⟩,
      ⟨.DMA_Q_EVENTS_POISONED, 5, 1, 0⟩]⟩
  | .DMA_Q_RING => ⟨.dmaQ, 0x10, 1, 8, true, [⟨.DMA_Q_RING_ADDR, 0, 1, 0⟩]⟩
  | .DMA_Q_CPL => ⟨.dmaQ, 0x18, 1, 8, true, [⟨.DMA_Q_CPL_ADDR, 0, 1, 0⟩]⟩
  | .DMA_Q_TAIL => ⟨.dmaQ, 0x20, 1, 4, false, [⟨.DMA_Q_TAIL_INDEX, 0, 1, 0⟩]⟩
  | .DMA_Q_HEAD => ⟨.dmaQ, 0x24, 1, 4, false, [⟨.DMA_Q_HEAD_INDEX, 0, 1, 0⟩]⟩
  | .DMA_Q_BYTES => ⟨.dmaQ, 0x28, 1, 8, true, [⟨.DMA_Q_BYTES_COUNT, 0, 1, 0⟩]⟩
  | .DMA_Q_COUNTS => ⟨.dmaQ, 0x30, 1, 4, false, [⟨.DMA_Q_COUNTS_LATE, 0, 1, 0⟩, ⟨.DMA_Q_COUNTS_POISONED, 16, 1, 0⟩]⟩
  | .DMA_Q_DESC_DONE => ⟨.dmaQ, 0x34, 1, 4, false, [⟨.DMA_Q_DESC_DONE_COUNT, 0, 1, 0⟩]⟩
  | .PWR_STATUS => ⟨.hub, 0x90000, 1, 4, false, [⟨.PWR_STATUS_ASLEEP, 0, 1, 0⟩, ⟨.PWR_STATUS_ENTERING, 8, 1, 0⟩,
      ⟨.PWR_STATUS_FAILED, 16, 1, 0⟩]⟩
  | .PWR_T_LEVEL => ⟨.hub, 0x90010, 4, 4, false, [⟨.PWR_T_LEVEL_REQ, 0, 1, 0⟩, ⟨.PWR_T_LEVEL_LIVE, 4, 1, 0⟩,
      ⟨.PWR_T_LEVEL_THERMAL, 8, 1, 0⟩, ⟨.PWR_T_LEVEL_TARGET, 12, 1, 0⟩, ⟨.PWR_T_LEVEL_CHANGING, 16, 1, 0⟩,
      ⟨.PWR_T_LEVEL_VOLTAGE, 24, 1, 0⟩]⟩
  | .PWR_ASLEEP => ⟨.hub, 0x90040, 5, 4, false, [⟨.PWR_ASLEEP_DOMAINS, 0, 1, 0⟩]⟩
  | .PWR_FAILED => ⟨.hub, 0x90060, 5, 4, false, [⟨.PWR_FAILED_DOMAINS, 0, 1, 0⟩]⟩
  | .PWR_RET_STATUS => ⟨.hub, 0x90080, 1, 4, false, [⟨.PWR_RET_STATUS_VALID, 0, 1, 0⟩]⟩
  | .PWR_D_CFG => ⟨.pwrD, 0x0, 1, 4, false, [⟨.PWR_D_CFG_PERMIT, 0, 1, 0⟩, ⟨.PWR_D_CFG_SD_WAKE, 4, 1, 0⟩,
      ⟨.PWR_D_CFG_CLASS, 8, 1, 0⟩, ⟨.PWR_D_CFG_PARENT, 16, 1, 0⟩]⟩
  | .PWR_D_HORIZON => ⟨.pwrD, 0x4, 1, 4, false, [⟨.PWR_D_HORIZON_HORIZON, 0, 1, 0⟩]⟩
  | .PWR_D_CMD => ⟨.pwrD, 0x8, 1, 4, false, []⟩
  | .PWR_D_STATUS => ⟨.pwrD, 0xc, 1, 4, false, [⟨.PWR_D_STATUS_STATE, 0, 1, 0⟩, ⟨.PWR_D_STATUS_GOAL, 4, 1, 0⟩,
      ⟨.PWR_D_STATUS_POINT, 8, 1, 0⟩, ⟨.PWR_D_STATUS_PARENT_FAILED, 11, 1, 0⟩, ⟨.PWR_D_STATUS_HOLDOFF, 12, 1, 0⟩,
      ⟨.PWR_D_STATUS_ATTEMPT, 17, 1, 0⟩]⟩
  | .PWR_D_EVENTS => ⟨.pwrD, 0x10, 1, 4, false, [⟨.PWR_D_EVENTS_ENTERED, 0, 1, 0⟩, ⟨.PWR_D_EVENTS_WOKE, 1, 1, 0⟩,
      ⟨.PWR_D_EVENTS_REFUSED, 2, 1, 0⟩, ⟨.PWR_D_EVENTS_ABORTED, 3, 1, 0⟩, ⟨.PWR_D_EVENTS_WAKE_FAILED, 4, 1, 0⟩,
      ⟨.PWR_D_EVENTS_RETRIED, 5, 1, 0⟩]⟩
  | .PWR_D_COUNTS => ⟨.pwrD, 0x14, 1, 4, false, [⟨.PWR_D_COUNTS_ENTRIES, 0, 1, 0⟩,
      ⟨.PWR_D_COUNTS_REFUSALS, 16, 1, 0⟩, ⟨.PWR_D_COUNTS_ABORTS, 24, 1, 0⟩]⟩
  | .PWR_D_LAST => ⟨.pwrD, 0x18, 1, 4, false, [⟨.PWR_D_LAST_BLOCK, 0, 1, 0⟩, ⟨.PWR_D_LAST_ANSWER, 4, 1, 0⟩,
      ⟨.PWR_D_LAST_DELAY, 8, 1, 0⟩, ⟨.PWR_D_LAST_WAKE_SRC, 12, 1, 0⟩, ⟨.PWR_D_LAST_FAIL, 16, 1, 0⟩]⟩
  | .THM_CFG => ⟨.hub, 0xa0000, 1, 4, false, [⟨.THM_CFG_HYST, 0, 1, 0⟩, ⟨.THM_CFG_DWELL, 8, 1, 0⟩,
      ⟨.THM_CFG_DEMAND_EXP, 12, 1, 0⟩, ⟨.THM_CFG_FAST_EXP, 16, 1, 0⟩, ⟨.THM_CFG_RATE, 20, 1, 0⟩]⟩
  | .THM_STATUS => ⟨.hub, 0xa0004, 1, 4, false, [⟨.THM_STATUS_UNTRIMMED, 0, 1, 0⟩, ⟨.THM_STATUS_ALARM_ANY, 1, 1, 0⟩,
      ⟨.THM_STATUS_FAILED, 8, 1, 0⟩]⟩
  | .THM_CMD => ⟨.hub, 0xa0008, 1, 4, false, []⟩
  | .THM_Z_STEP => ⟨.hub, 0xa0010, 5, 4, false, [⟨.THM_Z_STEP_STEP, 0, 1, 0⟩, ⟨.THM_Z_STEP_CAP, 4, 1, 0⟩,
      ⟨.THM_Z_STEP_LEVEL, 8, 1, 0⟩, ⟨.THM_Z_STEP_SITE, 16, 1, 0⟩, ⟨.THM_Z_STEP_STEP_COUNT, 24, 1, 0⟩]⟩
  | .THM_SD_STATUS => ⟨.hub, 0xa0f00, 1, 4, false, [⟨.THM_SD_STATUS_STATE, 0, 1, 0⟩,
      ⟨.THM_SD_STATUS_REFUSED, 2, 1, 0⟩, ⟨.THM_SD_STATUS_SITE, 8, 1, 0⟩, ⟨.THM_SD_STATUS_HOUR_COUNT, 16, 1, 0⟩,
      ⟨.THM_SD_STATUS_TOTAL, 24, 1, 0⟩]⟩
  | .THM_SD_TIME => ⟨.hub, 0xa0f04, 1, 8, true, [⟨.THM_SD_TIME_TIME, 0, 1, 0⟩]⟩
  | .THM_SD_CMD => ⟨.hub, 0xa0f0c, 1, 4, false, []⟩
  | .THM_S_READING => ⟨.thmS, 0x0, 1, 4, false, [⟨.THM_S_READING_VALUE, 0, 1, 0⟩, ⟨.THM_S_READING_REPLACE, 16, 1, 0⟩]⟩
  | .THM_S_STATUS => ⟨.thmS, 0x4, 1, 4, false, [⟨.THM_S_STATUS_STATE, 0, 1, 0⟩, ⟨.THM_S_STATUS_FAIL_CAUSE, 2, 1, 0⟩,
      ⟨.THM_S_STATUS_STEP, 4, 1, 0⟩, ⟨.THM_S_STATUS_RATE_HOLD, 7, 1, 0⟩, ⟨.THM_S_STATUS_ENTRY_CNT, 8, 1, 0⟩,
      ⟨.THM_S_STATUS_RELEASE_CNT, 12, 1, 0⟩, ⟨.THM_S_STATUS_ALARM, 16, 1, 0⟩]⟩
  | .THM_S_TIME => ⟨.thmS, 0x8, 1, 8, true, [⟨.THM_S_TIME_TIME, 0, 1, 0⟩]⟩
  | .THM_S_CMD => ⟨.thmS, 0x10, 1, 4, false, []⟩
  | .THM_S_EVENTS => ⟨.thmS, 0x14, 1, 4, false, [⟨.THM_S_EVENTS_STEP_UP, 0, 1, 0⟩,
      ⟨.THM_S_EVENTS_STEP_DOWN, 1, 1, 0⟩, ⟨.THM_S_EVENTS_RATE, 2, 1, 0⟩, ⟨.THM_S_EVENTS_FAILED, 3, 1, 0⟩,
      ⟨.THM_S_EVENTS_ALARM, 4, 1, 0⟩]⟩
  | .SYS_RESET_CAUSE => ⟨.hub, 0xb0000, 1, 4, false, [⟨.SYS_RESET_CAUSE_CAUSE, 0, 1, 0⟩,
      ⟨.SYS_RESET_CAUSE_RESTORED, 8, 1, 0⟩, ⟨.SYS_RESET_CAUSE_WARM_COUNT, 16, 1, 0⟩]⟩
  | .SYS_RESET_CMD => ⟨.hub, 0xb0004, 1, 4, false, []⟩
  | .SYS_BOOT_STATUS => ⟨.hub, 0xb0008, 1, 4, false, [⟨.SYS_BOOT_STATUS_STAGE, 0, 1, 0⟩,
      ⟨.SYS_BOOT_STATUS_IMAGE, 3, 1, 0⟩, ⟨.SYS_BOOT_STATUS_SNAP_USED, 4, 1, 0⟩,
      ⟨.SYS_BOOT_STATUS_DEV_READY, 5, 1, 0⟩, ⟨.SYS_BOOT_STATUS_FW_VERSION, 8, 1, 0⟩]⟩
  | .SYS_SNAP_CMD => ⟨.hub, 0xb000c, 1, 4, false, []⟩
  | .SYS_SNAP_STATUS => ⟨.hub, 0xb0010, 1, 4, false, [⟨.SYS_SNAP_STATUS_BUSY, 0, 1, 0⟩,
      ⟨.SYS_SNAP_STATUS_RESULT, 1, 1, 0⟩, ⟨.SYS_SNAP_STATUS_IN_USE, 4, 1, 0⟩, ⟨.SYS_SNAP_STATUS_VALID, 5, 1, 0⟩]⟩
  | .SYS_LS_CTRL => ⟨.sysE, 0x0, 1, 4, false, [⟨.SYS_LS_CTRL_AUTO_HP, 0, 1, 0⟩, ⟨.SYS_LS_CTRL_TIMEOUT, 4, 1, 0⟩,
      ⟨.SYS_LS_CTRL_TW_SPEED, 12, 1, 0⟩]⟩
  | .SYS_LS_CMD => ⟨.sysE, 0x4, 1, 4, false, []⟩
  | .SYS_LS_STATUS => ⟨.sysE, 0x8, 1, 4, false, [⟨.SYS_LS_STATUS_STATE, 0, 1, 0⟩, ⟨.SYS_LS_STATUS_PRESENT, 3, 1, 0⟩,
      ⟨.SYS_LS_STATUS_INT, 4, 1, 0⟩, ⟨.SYS_LS_STATUS_RESET_OUT, 5, 1, 0⟩, ⟨.SYS_LS_STATUS_LPMODE_OUT, 6, 1, 0⟩,
      ⟨.SYS_LS_STATUS_MODSTATE, 8, 1, 0⟩, ⟨.SYS_LS_STATUS_INSERTIONS, 16, 1, 0⟩]⟩
  | .SYS_LS_EVENTS => ⟨.sysE, 0xc, 1, 4, false, [⟨.SYS_LS_EVENTS_STATE_CHANGE, 0, 1, 0⟩,
      ⟨.SYS_LS_EVENTS_INSERTED, 1, 1, 0⟩, ⟨.SYS_LS_EVENTS_REMOVED, 2, 1, 0⟩, ⟨.SYS_LS_EVENTS_READY, 3, 1, 0⟩,
      ⟨.SYS_LS_EVENTS_FAULT, 4, 1, 0⟩, ⟨.SYS_LS_EVENTS_INT, 5, 1, 0⟩]⟩
  | .SYS_TW_CMD => ⟨.sysE, 0x10, 1, 4, false, []⟩
  | .SYS_TW_STATUS => ⟨.sysE, 0x14, 1, 4, false, [⟨.SYS_TW_STATUS_BUSY, 0, 1, 0⟩, ⟨.SYS_TW_STATUS_RESULT, 1, 1, 0⟩,
      ⟨.SYS_TW_STATUS_TRANSFERS, 16, 1, 0⟩]⟩
  | .SYS_TW_BUF => ⟨.sysE, 0x80, 32, 4, false, [⟨.SYS_TW_BUF_BYTES, 0, 1, 0⟩]⟩
  | .CAL_TRIM => ⟨.trim, 0x0, 64, 4, false, [⟨.CAL_TRIM_WORD, 0, 1, 0⟩]⟩

/-- Registers of the hub windows, part 0. -/
def hubRegs0 : List Reg := [
  .SYS_ID, .TIME_NOW, .TIME_TICK_COUNT, .TIME_TICK_CFG, .TIME_POST_REQ, .TIME_POST_STATUS, .TIME_POST_ERR,
  .TIME_OVR_EVENTS, .TIME_OVR_COUNT, .TIME_RING_STATUS, .TIME_RING_DELAY, .TIME_SET, .TIME_SET_CTRL,
  .TIME_CLERK_STATUS, .PLAN_CTRL, .PLAN_STATUS, .PLAN_ERR_OFFSET, .PLAN_LIVE, .PLAN_LIVE_ID, .PLAN_RESTARTED,
  .PLAN_ACCEPT_TIME, .PLAN_RES_LOG, .PLAN_RES_TIME, .COUR_CTRL, .COUR_DLQ_STATUS, .COUR_DLQ_CMD, .COUR_DLQ_DESC0,
  .COUR_DLQ_DESC1, .COUR_DLQ_DESC2, .COUR_TX_SUBMIT, .COUR_TX_RESULT, .COUR_TX_SLOTS, .COUR_TX_DONE, .COUR_RX_STATUS,
  .COUR_RX_RELEASE, .COUR_RX_DESC0, .COUR_RX_DESC1, .COUR_RX_DESC2, .CAP_SW_TRIG, .CAP_STATUS]

/-- Registers of the hub windows, part 1. -/
def hubRegs1 : List Reg := [
  .CAP_REGION, .CAP_TRIG_EVENTS, .CAP_XTRIG_STATUS, .CAP_TRIGIN_CFG, .CAP_XTRIG_OUT, .CAP_XTRIG_IN_DELAY,
  .CAP_MASK_W0, .CAP_MASK_W1, .CAP_T_CTRL, .CAP_T_TRIG_SEL, .CAP_T_CMD, .CAP_T_STATUS, .CAP_T_SEG, .CAP_T_HOLDOFF,
  .CAP_T_AUTO, .CAP_T_DRAIN, .CAP_T_EVENTS, .CAP_T_COUNTS, .CAP_T_TRIG_INFO, .CAP_T_PERIOD, .CAP_T_SWEEP0,
  .CAP_T_SWEEP1, .CAP_T_HIT_LIMIT, .CAP_T_BUF_BASE, .CAP_T_BUF_SIZE, .CAP_T_PRE, .CAP_T_POST, .CAP_T_VIOL_LIMIT,
  .CAP_T_VIOL_COUNT, .CAP_T_SAMPLES_LOST, .CAP_T_BLOCKS, .CAP_T_TRIG_SAMPLE, .CAP_T_TRIG_TIME, .CAP_T_WRITE_PTR,
  .CAP_T_READ_PTR, .CAL_CTRL, .CAL_CMD, .CAL_STATUS, .CAL_NVM_CMD, .CAL_NVM_STATUS]

/-- Registers of the hub windows, part 2. -/
def hubRegs2 : List Reg := [
  .CAL_NVM_SEQ, .CAL_DUE, .CAL_CLASS, .CAL_U_STATUS, .CAL_U_COUNTS, .CAL_U_TIME, .CAL_U_TEMP, .LEDG_CFG, .LEDG_CTRL,
  .LEDG_PERIOD_COUNT, .LEDG_HIST_HEAD, .LEDG_L_CFG, .LEDG_L_STATUS, .LEDG_L_FAR, .LEDG_L_DISP, .LEDG_L_CTRL,
  .LEDG_L_CMD, .LEDG_L_ALARM, .LEDG_L_ALARM_EV, .LEDG_L_FC, .LEDG_L_REC, .MEM_CFG, .MEM_BAR2_BASE, .MEM_HOST,
  .MEM_ARB, .MEM_CMD, .MEM_EVENTS, .MEM_LOST, .MEM_STATUS, .MEM_CH_READY, .MEM_C_STATUS, .MEM_C_CRC_RETRY,
  .MEM_C_UNCORR, .MEM_C_RETRAINS, .MEM_C_ODECC, .MEM_C_URGENT, .MEM_C_BYTES, .PH_CFG, .PH_CMD, .PH_FAULT_LOG]

/-- Registers of the hub windows, part 3. -/
def hubRegs3 : List Reg := [
  .PH_PENDING, .PH_MASK, .PH_SRC, .PH_T_CLAIM, .PH_T_COMPLETE, .PH_T_CFG, .PH_T_IDLE, .PH_T_STATUS, .PH_T_EVENTS,
  .PH_T_COUNTS, .DMA_LINK_STATUS, .DMA_LINK_EVENTS, .DMA_VIOL_ADDR, .DMA_VIOL_INFO, .DMA_VIOL_TIME, .DMA_VIOL_STATUS,
  .DMA_VIOL_CMD, .MSIX_ADDR_LO, .MSIX_ADDR_HI, .MSIX_DATA, .MSIX_CTRL, .DMA_ARB, .DMA_STATUS, .DMA_Q_CTRL,
  .DMA_Q_CMD, .DMA_Q_STATUS, .DMA_Q_EVENTS, .DMA_Q_RING, .DMA_Q_CPL, .DMA_Q_TAIL, .DMA_Q_HEAD, .DMA_Q_BYTES,
  .DMA_Q_COUNTS, .DMA_Q_DESC_DONE, .PWR_STATUS, .PWR_T_LEVEL, .PWR_ASLEEP, .PWR_FAILED, .PWR_RET_STATUS, .PWR_D_CFG]

/-- Registers of the hub windows, part 4. -/
def hubRegs4 : List Reg := [
  .PWR_D_HORIZON, .PWR_D_CMD, .PWR_D_STATUS, .PWR_D_EVENTS, .PWR_D_COUNTS, .PWR_D_LAST, .THM_CFG, .THM_STATUS,
  .THM_CMD, .THM_Z_STEP, .THM_SD_STATUS, .THM_SD_TIME, .THM_SD_CMD, .THM_S_READING, .THM_S_STATUS, .THM_S_TIME,
  .THM_S_CMD, .THM_S_EVENTS, .SYS_RESET_CAUSE, .SYS_RESET_CMD, .SYS_BOOT_STATUS, .SYS_SNAP_CMD, .SYS_SNAP_STATUS,
  .SYS_LS_CTRL, .SYS_LS_CMD, .SYS_LS_STATUS, .SYS_LS_EVENTS, .SYS_TW_CMD, .SYS_TW_STATUS, .SYS_TW_BUF, .CAL_TRIM]

/-- Registers of the hub windows. -/
def hubRegs : List Reg := hubRegs0 ++ hubRegs1 ++ hubRegs2 ++ hubRegs3 ++ hubRegs4

/-- Registers of the tile windows, part 0. -/
def tileRegs0 : List Reg := [
  .POOL_POLICY0, .POOL_POLICY1, .POOL_CTRL, .POOL_CMD, .POOL_STATUS, .POOL_EVENTS, .POOL_SLOTS, .POOL_SCORE_THR,
  .POOL_CAPACITY, .POOL_CHARGED, .POOL_RESERVE_START, .POOL_RESERVE_DRAWN, .POOL_G_CTRL, .POOL_G_REQ, .POOL_G_SCORE,
  .POOL_G_CHARGE, .POOL_G_AGE, .POOL_G_COUNTS, .POOL_G_RESERVE, .POOL_G_USED, .HOST_L_CTRL, .HOST_L_CMD,
  .HOST_L_STATUS, .HOST_L_EVENTS, .HOST_L_TXEQ_LIMIT, .HOST_L_TRAIN, .HOST_L_TXEQ, .HOST_L_TXEQ_LIVE, .HOST_P_CTRL,
  .HOST_P_CMD, .HOST_P_STATUS, .HOST_P_EVENTS, .HOST_P_CW, .HOST_P_CW_CORR, .HOST_P_CW_UNC, .HOST_P_SYM_CORR,
  .HOST_P_HIST, .HOST_T_PENDING, .HOST_T_PENDING_PORTS, .BIAS_C_CFG]

/-- Registers of the tile windows, part 1. -/
def tileRegs1 : List Reg := [
  .BIAS_C_LIMIT, .BIAS_C_TARGET, .BIAS_C_LIVE, .BIAS_C_SINE, .BIAS_C_SINE_INC, .BIAS_C_CMD, .BIAS_C_STATUS,
  .BIAS_C_EVENTS, .BIAS_T_TIMER, .BIAS_T_PENDING0, .BIAS_T_PENDING1, .BIAS_T_ZERO0, .BIAS_T_ZERO1, .HK_CTRL, .HK_CMD,
  .HK_STATUS, .HK_EVENTS, .HK_SEQ_TIME, .HK_COUNTS, .HK_LIMIT_EV0, .HK_LIMIT_EV1, .HK_SEQ, .HK_CH_CFG, .HK_CH_RES,
  .HK_CH_RAW, .HK_CH_LIMIT]

/-- Registers of the tile windows. -/
def tileRegs : List Reg := tileRegs0 ++ tileRegs1

/-- Registers of the engine windows, part 0. -/
def engineRegs0 : List Reg := [
  .LRX_CTRL, .LRX_CMD, .LRX_STATUS, .LRX_EVENTS, .LRX_TR, .LRX_TR_STATUS, .LRX_FFE_CTRL, .LRX_NLC_CTRL, .LRX_DET,
  .LRX_GRADE, .LRX_LOCK_CFG, .LRX_SNR, .LRX_NOISE, .LRX_VALID_STATUS, .LRX_SHADOW_CTRL, .LRX_FE, .LRX_FE_LIVE,
  .LRX_DET_SEED, .LRX_DET_LIVE, .LRX_GRADE_COUNT, .LRX_INVALID_SEG, .LRX_SEG, .LRX_SHADOW_STATUS, .LRX_SHADOW_HITS,
  .LRX_CHK_CTRL, .LRX_CHK_STATUS, .LRX_CHK_BITS, .LRX_CHK_ERRS, .LRX_CHK_GRADE_ERR, .LRX_CHK_SKIPPED, .LRX_FFE_TAP,
  .LRX_NLC_ENTRY, .LTX_CTRL, .LTX_CMD, .LTX_STATUS, .LTX_EVENTS, .LTX_DRV, .LTX_LEVEL, .LTX_COUR, .LTX_PAT]

/-- Registers of the engine windows, part 1. -/
def engineRegs1 : List Reg := [
  .LTX_CLIPS, .LTX_LOOP_STATUS, .LTX_FRAMES, .LTX_FIR, .LTX_PD_ENTRY, .LTX_PAT_MEM, .SPR_CFG, .SPR_CTRL, .SPR_CMD,
  .SPR_G_STATUS, .SPR_G_LAT, .SPR_G_EVENTS, .SPR_G_ALIGN, .SPR_G_FRAMES, .SPR_G_FRAMES_INV, .SPR_G_UNC_FRAMES,
  .SPR_G_UNC_FRAMES_INV, .SPR_G_RS_CW, .SPR_G_RS_UNC, .SPR_G_RS_SYM_CORR, .SPR_G_PASSES, .SPR_G_INNER_DOUBT,
  .SPR_G_SKIPPED, .SPR_G_PASS_HIST, .SPR_L_CORR_BITS, .SPR_L_RS_CW, .SPR_L_RS_UNC, .SPR_L_PASSES, .SPR_L_ALIGN,
  .COUR_L_CTRL, .COUR_L_CMD, .COUR_L_STATUS, .COUR_L_EVENTS, .COUR_L_QUALITY, .COUR_L_PWR, .COUR_L_RX_DETECT,
  .COUR_L_RX_RESTART, .COUR_L_RX_HDR_ERR, .COUR_L_RX_FORMAT_ERR, .COUR_L_RX_CRC_ERR]

/-- Registers of the engine windows, part 2. -/
def engineRegs2 : List Reg := [
  .COUR_L_RX_OK, .COUR_L_RX_DUP, .COUR_L_RX_COLLISION, .COUR_L_RX_ABANDONED, .COUR_L_RX_LOOP, .COUR_L_TX_SENT,
  .COUR_L_TX_REQUEUED, .COUR_L_SNR, .COUR_L_REC, .COUR_TXMAP_A, .COUR_TXMAP_B, .COUR_RXMAP_A, .COUR_RXMAP_B]

/-- Registers of the engine windows. -/
def engineRegs : List Reg := engineRegs0 ++ engineRegs1 ++ engineRegs2

end Sys2Proof.Machine
end

