-- ==== Sys2Proof/Machine/Show.lean ====
section
/-! DEFINITION. What a register shows: the fields that follow from the rest of the state are brought up to date before a
read, and the word is put together (R13, R15 and the register section of each chapter). -/

namespace Sys2Proof.Machine

open Sys2Proof

/-- How many numbers below `n` have `p`. -/
def countWhere (n : Nat) (p : Nat → Bool) : Nat := ((List.range n).filter p).length

/-- R156, R174: the encoder of lane `n` sends idle fill in LIVE or FAR_LOOP; with AUTO_SQ bit 2 the output is squelched instead. -/
def Dev.fillShown (d : Dev) (n : Nat) : Bool :=
  let s := d.get .LTX_STATUS_SOURCE n
  d.framing (engineOf n) && d.sendsIdle n && s != 1 && !(s == 0 && bitAt (d.lget .LTX_CTRL_AUTO_SQ n) 2)

/-- R207: SPR_G_LAT.LATENCY. -/
def Dev.latencyShown (d : Dev) (g : Nat) : Nat :=
  if d.sg g = sgLOCKED then
    let v := d.latencyIn g 0
    if Config.rounding 2 = 0 then v / tenth else (2 * v + tenth) / (2 * tenth)
  else 0

/-- R272, R298: COUR_L_STATUS.TX_STATE. -/
def Dev.courTxShown (d : Dev) (n : Nat) : Nat :=
  if d.get .COUR_L_STATUS_TX_STATE n ≠ 0 then d.get .COUR_L_STATUS_TX_STATE n
  else if !d.courReady n then 0
  else if d.clk < d.get .X_COUR_GAP_END n then ctGAP
  else 1

/-- The event bits of BIAS_C_EVENTS. -/
def biasAllEvents : List F := .BIAS_C_EVENTS_ZEROED :: biasEvents
/-- The event bits of HOST_L_EVENTS and of HOST_P_EVENTS. -/
def hostLaneEvents : List F :=
  [.HOST_L_EVENTS_LOS, .HOST_L_EVENTS_TRAIN_OK, .HOST_L_EVENTS_TRAIN_FAIL, .HOST_L_EVENTS_READY_LOST]
def hostPortEvents : List F := [.HOST_P_EVENTS_LOCK_GAINED, .HOST_P_EVENTS_LOCK_LOST, .HOST_P_EVENTS_DESKEW_ERR,
  .HOST_P_EVENTS_UNC, .HOST_P_EVENTS_LOOP_SLIP]

/-- R523: PWR_RET_STATUS.VALID: area 0 holds a plan, area 6 training results; nothing before the first boot has run. -/
def Dev.retValid (d : Dev) : Nat :=
  if d.on .X_SYS_FW 0 || !d.on .X_SYS_COLD 0 then 0xBE + d.get .X_SYS_KEEP 0 + 64 * d.get .X_SYS_MEM 0 else 0

/-- The device with the fields of instance `j` of register `r` in block `i` brought up to date. -/
def Dev.view (r : Reg) (i j : Nat) (d : Dev) : Dev :=
  match r with
  | .LTX_STATUS => d.set .LTX_STATUS_FILL i (b2n (d.fillShown i))
  | .LTX_PAT => d.set .LTX_PAT_INDEX i (d.patternIndex i)
  | .SPR_G_STATUS => d.set .SPR_G_STATUS_USABLE i (d.usable i)
  | .SPR_G_LAT => d.set .SPR_G_LAT_LATENCY i (d.latencyShown i)
  | .POOL_STATUS => (d.set .POOL_STATUS_POOL_ON i (b2n (d.poolOn i))).set .POOL_STATUS_CAP_LIVE i (d.capLive i)
  | .POOL_G_REQ => d.set .POOL_G_REQ_FLOOR i (d.poolFloor i)
  | .HOST_T_PENDING => d.set .HOST_T_PENDING_LANES i (bitsWhere 32 fun b => d.any hostLaneEvents (32 * i + b))
  | .HOST_T_PENDING_PORTS => d.set .HOST_T_PENDING_PORTS_PORTS i (bitsWhere 16 fun b => d.any hostPortEvents (16 * i + b))
  | .COUR_L_STATUS =>
    let e := (d.set .COUR_L_STATUS_CANCEL i (b2n (d.courRuns i && d.rxLocked i)))
    (e.set .COUR_L_STATUS_DETECTOR_ARMED i (b2n (d.knockArmed i))).set .COUR_L_STATUS_TX_STATE i (d.courTxShown i)
  | .CAP_STATUS =>
    let e := (d.set .CAP_STATUS_ACTIVE 0 (bitsWhere 8 d.tapActive)).set .CAP_STATUS_STREAMING 0
      (bitsWhere 8 fun t => d.tapActive t && d.tapStreams t)
    (e.set .CAP_STATUS_GDDR7_USED 0 (gbps (d.gddrSum 8) % 1024)).set .CAP_STATUS_PCIE_USED 0 (gbps (d.pcieSum 8) % 64)
  | .BIAS_C_LIVE => d.set .BIAS_C_LIVE_OUTPUT i (d.biasOutput i)
  | .BIAS_C_STATUS =>
    (d.set .BIAS_C_STATUS_SETTLED i (b2n (d.get .BIAS_C_LIVE_LIVE i == d.get .BIAS_C_TARGET_TARGET i))).set
      .BIAS_C_STATUS_SINE_ON i (b2n (d.sineAdded i))
  | .BIAS_T_PENDING0 => d.set .BIAS_T_PENDING0_CHANNELS i (bitsWhere 32 fun c => d.any biasAllEvents (40 * i + c))
  | .BIAS_T_PENDING1 => d.set .BIAS_T_PENDING1_CHANNELS i (bitsWhere 8 fun c => d.any biasAllEvents (40 * i + 32 + c))
  | .BIAS_T_ZERO0 => d.set .BIAS_T_ZERO0_CHANNELS i (bitsWhere 32 fun c => d.bc (40 * i + c) != bcTRACK)
  | .BIAS_T_ZERO1 => d.set .BIAS_T_ZERO1_CHANNELS i (bitsWhere 8 fun c => d.bc (40 * i + 32 + c) != bcTRACK)
  | .CAL_STATUS =>
    (d.set .CAL_STATUS_DUE 0 (countWhere 137 fun u => d.cal u == cuDUE)).set .CAL_STATUS_RUNNING 0
      (countWhere 137 fun u => d.cal u == cuRUNNING || d.cal u == cuAPPLYING)
  | .CAL_DUE => d.set .CAL_DUE_UNITS j (bitsWhere 32 fun b => decide (32 * j + b < 137) && d.cal (32 * j + b) == cuDUE)
  | .LEDG_L_STATUS => d.set .LEDG_L_STATUS_PAUSED i (d.get .LEDG_L_CTRL_PAUSE i)
  | .MEM_C_STATUS => d.set .MEM_C_STATUS_PAUSED i (bitsWhere 4 fun c => d.channelPaused (4 * i + c))
  | .PH_SRC => d.set .PH_SRC_IN_SERVICE j (b2n (d.inService j))
  | .PH_T_STATUS =>
    let e := (d.set .PH_T_STATUS_IDLE i (b2n (d.targetIdle i))).set .PH_T_STATUS_ELIGIBLE i (b2n (d.best i).isSome)
    if d.stacked then
      (e.set .PH_T_STATUS_DEPTH i (d.stackOf i).length).set .PH_T_STATUS_TOP i
        (match (d.stackOf i).head? with | some v => v.source | none => 0)
    else (e.set .PH_T_STATUS_DEPTH i 0).set .PH_T_STATUS_TOP i (d.get .X_PH_SEL i)
  | .DMA_STATUS =>
    (d.set .DMA_STATUS_RUNNING 0 (bitsWhere 16 fun q => d.dq q == dqRUNNING)).set .DMA_STATUS_ERROR 0
      (bitsWhere 16 fun q => d.dq q == dqERROR)
  | .PWR_STATUS =>
    let e := d.set .PWR_STATUS_ASLEEP 0 (countWhere 158 fun k => d.dom k != pwON && d.dom k != pwFAILED)
    (e.set .PWR_STATUS_ENTERING 0 (countWhere 158 fun k => d.dom k == pwENTERING || d.dom k == pwROLLBACK)).set
      .PWR_STATUS_FAILED 0 (countWhere 158 fun k => d.dom k == pwFAILED)
  | .PWR_T_LEVEL => d.set .PWR_T_LEVEL_VOLTAGE j (d.voltage j)
  | .PWR_ASLEEP => d.set .PWR_ASLEEP_DOMAINS j (bitsWhere 32 fun b => decide (32 * j + b < 158) && d.dom (32 * j + b) != pwON)
  | .PWR_FAILED => d.set .PWR_FAILED_DOMAINS j (bitsWhere 32 fun b => d.dom (32 * j + b) == pwFAILED)
  | .PWR_RET_STATUS => d.set .PWR_RET_STATUS_VALID 0 d.retValid
  | .THM_STATUS =>
    let e := (d.set .THM_STATUS_UNTRIMMED 0 (b2n d.untrimmed)).set .THM_STATUS_ALARM_ANY 0
      (b2n ((List.range 40).any fun s => d.on .THM_S_STATUS_ALARM s))
    e.set .THM_STATUS_FAILED 0 (countWhere 40 d.siteFailed)
  | .THM_SD_STATUS => d.set .THM_SD_STATUS_HOUR_COUNT 0 d.hourCount
  | _ => d

/-- R212, R234, R256, R471: the registers of a group, host lane, port or target that does not exist or is not in use. -/
def Dev.regAbsent (d : Dev) (r : Reg) (i : Nat) : Bool :=
  match r.row.blk with
  | .sprG | .poolG => !d.groupExists i
  | .hostL => d.get .HOST_L_STATUS_ROLE i == roleIdle
  | .hostP => !d.used (engineOf i)
  | .phT => !d.on .PH_T_STATUS_DEFINED i
  | _ => false

/-- The place of field `x` in a word of instance `j` of register `r` in block `i`. -/
def fieldKey (r : Reg) (x : Fld) (i j : Nat) : Key := ⟨x.f, (r.row.n * i + j) * x.per + x.idx⟩

/-- R234: HIGH is reserved in POOL_SCORE_THR2. -/
def Key.reserved (k : Key) : Bool := k.f == .POOL_SCORE_THR_HIGH && k.i % 3 == 2

/-- The value of a register: a word, or both words of a 64-bit register. PWR_D_HORIZON shows what is left of a horizon
(R510), and UNAVAILABLE sites show as such (R530). -/
def Dev.regValue (d : Dev) (r : Reg) (i j : Nat) : Nat :=
  if d.regAbsent r i then 0
  else match r with
    | .PH_PENDING => bitsWhere 32 fun b => d.pending.contains (32 * j + b)
    | .PH_MASK => bitsWhere 32 fun b => d.on .PH_MASK_MASK (32 * j + b)
    | .PWR_D_HORIZON => d.horizon i
    | _ =>
      let w := (r.row.fields.map fun x => 2 ^ x.lsb * d.reg.get (fieldKey r x i j)).sum
      if r = .THM_S_STATUS ∧ d.siteGone i then w / 4 * 4 + 2 else w

end Sys2Proof.Machine
end

