-- ==== Sys2Proof/Machine/RegWrite.lean ====
section
/-! DEFINITION. What a register write does (R13, R15, R20): each field by its access type, and the registers whose write is
a command or has a rule of its own. -/

namespace Sys2Proof.Machine

open Sys2Proof

/-- A command given by a register write: the command's own meaning, behind what has been sent so far. -/
def Dev.via (d : Dev) (f : State → Host.Outcome State Fault Refusal) : Dev :=
  match f ⟨d, []⟩ with
  | .next s => { s.dev with out := d.out ++ s.dev.out }
  | _ => d

/-- Commands that bit `b` of a written word gives. -/
def Dev.bitCmd (d : Dev) (v b : Nat) (f : State → Host.Outcome State Fault Refusal) : Dev := if bitAt v b then d.via f else d

/-- R13: the fields of a word take what is written, by their access types. -/
def Dev.writeFields (r : Reg) (i j v : Nat) (d : Dev) : Dev :=
  Dev.forList r.row.fields (fun x d =>
    let k := fieldKey r x i j
    let n := if k.reserved then 0 else v / 2 ^ x.lsb % 2 ^ k.f.width
    match k.f.acc with
    | .rw | .rwk | .rws => d.set k.f k.i n
    | .w1c => d.set k.f k.i (d.get k.f k.i - (d.get k.f k.i &&& n))
    | _ => d) d

/-- R343: the device-wide number of the channel at place `i`. -/
def biasNo (i : Nat) : Nat := if i % 40 < 32 then 32 * (i / 40) + i % 40 else 128 + 8 * (i / 40) + (i % 40 - 32)

/-- R419: the bits of trim word `j` of unit `u` that are not reserved. -/
def trimMask (u j : Nat) : Nat :=
  match calClass u with
  | 0 => 0xFFFFFF
  | 1 => if j < 8 then 0xFFFFFFFF else 0
  | 2 => if j = 0 then 0xFFFFFFFF else 0
  | 3 => if j < 40 then 0xFFFFFF else 0
  | _ => if j < 32 then 0xFFFFFFFF else 0

/-- R492: a write of DMA_Q_CTRL. -/
def Dev.writeQueueCtrl (d : Dev) (q v : Nat) : Dev :=
  if bitAt v 0 then
    if d.dq q = dqDISABLED then d.via (execQueueEnable (Fin.ofNat 16 q) (BitVec.ofNat 5 (v / 2))) else d.cfgIgnored q
  else
    let d := d.via (execQueueDisable (Fin.ofNat 16 q))
    if d.dq q = dqDISABLED then d.set .DMA_Q_CTRL_SIZE_EXP q (v / 2 % 32) else d

/-- The lines and interrupts that follow the event bits of register `r` in block `i`. -/
def Dev.syncEvents (r : Reg) (i : Nat) (d : Dev) : Dev :=
  match r with
  | .COUR_L_EVENTS => d.syncCourier i
  | .BIAS_C_EVENTS => d.syncBias (biasTile i)
  | .HK_EVENTS => d.syncHk i
  | .DMA_LINK_EVENTS => d.syncLink
  | .DMA_Q_EVENTS => d.syncQueue i
  | .SYS_LS_EVENTS => d.syncLaser i
  | _ => d

/-- R13: the event bits `hw` of a word that the hardware sets in the cycle of a write: they stay set whatever the write
clears. -/
def Dev.hwSet (r : Reg) (i j hw : Nat) (d : Dev) : Dev :=
  if r = .PH_PENDING then Dev.each 32 (fun b d => if bitAt hw b then d.raise (32 * j + b) else d) d
  else
    Dev.syncEvents r i (Dev.forList r.row.fields (fun x d =>
      let k := fieldKey r x i j
      if k.f.acc = .w1c then d.orBits k.f k.i (hw / 2 ^ x.lsb % 2 ^ k.f.width) else d) d)

/-- A write of one word `v` to instance `j` of register `r` in block `i`, by `who`. -/
def Dev.writeReg (who : Requester) (r : Reg) (i j v : Nat) (d : Dev) : Dev :=
  let plain := d.writeFields r i j v
  match r with
  | .TIME_POST_REQ => d.via (execPostingRequest (BitVec.ofNat 3 v) (BitVec.ofNat 6 (v / 256)))
  | .TIME_SET_CTRL => d.bitCmd v 0 execTimeSetArm
  | .PLAN_CTRL => d.planAction (v % 16) (v / 16 % 4)
  | .LRX_CMD =>
    let n := Fin.ofNat 64 i
    (((d.bitCmd v 0 (execReacquire n)).bitCmd v 1 (execLrxClearStats n)).bitCmd v 2 (execHoldReadback n)).bitCmd v 3
      (execReleaseReadback n)
  | .LRX_SHADOW_CTRL =>
    let d := d.writeFields r i j (v - v % 2 + d.get .LRX_SHADOW_CTRL_REQUEST i)
    (d.via (execShadowRequest (Fin.ofNat 64 i) (bitAt v 0))).bitCmd v 1 (execShadowStart (Fin.ofNat 64 i))
  | .LRX_CHK_CTRL => d.via (execCheckerCtrlWrite (Fin.ofNat 64 i) (bitAt v 0) (BitVec.ofNat 3 (v / 2)))
  | .LTX_CMD => d.bitCmd v 0 (execLtxClearStats (Fin.ofNat 64 i))
  | .SPR_CMD =>
    let d := d.bitCmd v 0 (execSprClearStats (Fin.ofNat 8 i))
    if v / 256 % 256 = 0 then d else d.via (execSpreadRelock (Fin.ofNat 8 i) (BitVec.ofNat 8 (v / 256)))
  | .POOL_CMD => d.bitCmd v 0 (execPoolClearStats (Fin.ofNat 4 i))
  | .HOST_L_CMD => (d.bitCmd v 0 (execRetrain (Fin.ofNat 128 i))).bitCmd v 1 (execHostLClearStats (Fin.ofNat 128 i))
  | .HOST_P_CMD => (d.bitCmd v 0 (execHostPClearStats (Fin.ofNat 64 i))).bitCmd v 1 (execHostRelock (Fin.ofNat 64 i))
  | .COUR_L_CMD =>
    (d.bitCmd v 0 (execKnock (Fin.ofNat 64 i) (BitVec.ofNat 2 (v / 2)))).bitCmd v 3 (execCourClearStats (Fin.ofNat 64 i))
  | .COUR_L_EVENTS | .BIAS_C_EVENTS | .HK_EVENTS | .DMA_LINK_EVENTS | .DMA_Q_EVENTS | .SYS_LS_EVENTS => Dev.syncEvents r i plain
  | .COUR_DLQ_CMD => d.bitCmd v 0 execDlqPop
  | .COUR_TX_SUBMIT =>
    d.via (execCourierSubmit (Fin.ofNat 64 i) (BitVec.ofNat 2 v) (BitVec.ofNat 2 (v / 2 ^ 27)) (BitVec.ofNat 3 (v / 4))
      (BitVec.ofNat 10 (v / 32)) (BitVec.ofNat 12 (v / 2 ^ 15)))
  | .COUR_RX_RELEASE => d.via (execCourierRxRelease (Fin.ofNat 64 i) (BitVec.ofNat 4 v))
  | .CAP_SW_TRIG => d.via (execSoftwareTrigger (BitVec.ofNat 8 v) (BitVec.ofNat 24 (v / 256)))
  | .CAP_T_CMD =>
    let t := Fin.ofNat 8 i
    let d := d.bitCmd v 0 (execCaptureArm t)
    let d := if bitAt v 1 then d.drawn.via (execCaptureStop t d.freeBlock) else d
    (d.bitCmd v 2 (execCaptureAbort t)).bitCmd v 3 (execCapClearStats t)
  | .BIAS_C_TARGET => d.biasWrite i (v % 65536)
  | .BIAS_C_SINE | .BIAS_C_SINE_INC => plain.set .X_BIAS_NEW i 1
  | .BIAS_C_CMD =>
    let x := Fin.ofNat 160 (biasNo i)
    (d.bitCmd v 0 (execBiasRelease x)).bitCmd v 1 (execBiasClearStats x)
  | .HK_CMD =>
    let t := Fin.ofNat 4 i
    ((d.bitCmd v 1 (execHkSync t)).bitCmd v 0 (execHkStartCmd t)).bitCmd v 2 (execHkClearStats t)
  | .CAL_CMD => (d.bitCmd v 8 (execCalRun (BitVec.ofNat 8 v))).bitCmd v 9 (execCalRunClass (BitVec.ofNat 3 (v / 1024)))
  | .CAL_NVM_CMD => d.bitCmd v 0 (execNvmStore (bitAt v 1))
  | .CAL_TRIM => (d.set .CAL_TRIM_WORD (64 * i + j) (v &&& trimMask i j)).set .CAL_U_STATUS_DIRTY i 1
  | .LEDG_L_CMD => d.bitCmd v 0 (execLedgerRebase (Fin.ofNat 64 i))
  | .LEDG_L_FAR =>
    d.via (execFarReportWrite (Fin.ofNat 64 i) (BitVec.ofNat 10 v) (BitVec.ofNat 10 (v / 1024))
      (BitVec.ofNat 10 (v / 2 ^ 20)))
  | .MEM_CMD =>
    let d := Dev.each 8 (fun m d => d.bitCmd v m (execMemRetrain (Fin.ofNat 8 m))) d
    (d.bitCmd v 8 execMemReinit).bitCmd v 9 execMemClearStats
  | .PH_CMD => d.bitCmd v 0 execPhClearStats
  | .PH_PENDING => d.writePending j v 0
  | .PH_MASK => d.writeMask j v
  | .PH_T_COMPLETE => d.complete i (v % 1024) who
  | .PH_T_IDLE => if i < 64 then d.writeIdle i (bitAt v 0) else d
  | .DMA_VIOL_CMD => d.bitCmd v 0 execViolPop
  | .MSIX_ADDR_LO => d.set .MSIX_ADDR_LO_ADDR_LO i (v / 4 * 4)
  | .MSIX_CTRL => (d.set .MSIX_CTRL_MASK i (v % 2)).flushPba
  | .DMA_Q_CTRL => d.writeQueueCtrl i v
  | .DMA_Q_CMD => (d.bitCmd v 0 (execQueueReset (Fin.ofNat 16 i))).bitCmd v 1 (execDmaQClearStats (Fin.ofNat 16 i))
  | .DMA_Q_TAIL => d.via (execTailWrite (Fin.ofNat 16 i) (BitVec.ofNat 16 v))
  | .PWR_D_HORIZON => d.via (execHorizonWrite (Fin.ofNat 158 i) (BitVec.ofNat 32 v))
  | .PWR_D_CMD => (d.bitCmd v 0 (execWakeRetry (Fin.ofNat 158 i))).bitCmd v 1 (execPwrClearStats (Fin.ofNat 158 i))
  | .THM_CMD => (d.bitCmd v 0 execThmReadAll).bitCmd v 1 execThmClearStats
  | .THM_SD_CMD => if bitAt v 0 then d.drawn.restartCmd (d.draw 11 % 2 == 1) else d
  | .THM_S_CMD => (d.bitCmd v 0 (execThmRead (Fin.ofNat 40 i))).bitCmd v 1 (execReinstate (Fin.ofNat 40 i))
  | .SYS_RESET_CMD =>
    if v % 256 ≠ 0xA5 then d
    else if bitAt v 8 then d.via (execWarmResetCmd who)
    else d.bitCmd v 9 execCardDown
  | .SYS_SNAP_CMD => d.bitCmd v 0 execSnapshotSave
  | .SYS_LS_CMD => d.bitCmd v 0 (execLsRetry (Fin.ofNat 8 i))
  | .SYS_TW_CMD => d.twStart i (v % 256) (v / 256 % 128) (bitAt v 15) (v / 65536 % 256) (v / 2 ^ 24 % 256)
  | _ => plain

/-- A write of both words of a 64-bit register. The ring addresses of a queue are written only in DISABLED (R492). -/
def Dev.writeWide (r : Reg) (i j v : Nat) (d : Dev) : Dev :=
  match r with
  | .DMA_Q_RING => if d.dq i = dqDISABLED then d.set .DMA_Q_RING_ADDR i (v / 64 * 64) else d.cfgIgnored i
  | .DMA_Q_CPL => if d.dq i = dqDISABLED then d.set .DMA_Q_CPL_ADDR i (v / 64 * 64) else d.cfgIgnored i
  | _ => d.writeFields r i j v

end Sys2Proof.Machine
end

