-- ==== Sys2Proof/Machine/Access.lean ====
section
/-! DEFINITION. The BAR0 stream (R11, R17 to R22, R71, R299, R450, R476 to R479, R498) and the SMBus target (R567). -/

namespace Sys2Proof.Machine

open Sys2Proof

/-! ## Addresses -/

/-- The window of an address: kind (0 hub, 1 tile, 2 engine), number of the tile or engine, and offset (R21, R22). -/
def windowOf (a : Nat) : Option (Nat × Nat × Nat) :=
  if a < 0x1000000 then some (0, 0, a)
  else if 0x5000000 ≤ a then none
  else
    let t := a / 0x1000000 - 1
    let o := a % 0x1000000
    if o < 0x400000 then some (1, t, o)
    else if o < 0x800000 then some (2, 2 * t + (o - 0x400000) / 0x200000, (o - 0x400000) % 0x200000)
    else none

/-- The instance of register `r` that offset `o` of window `w` names: block, instance, and whether it is the high word of a
64-bit register. -/
def Reg.hit (r : Reg) (w o : Nat) : Option (Nat × Nat × Bool) :=
  let x := r.row
  let g := x.blk.geom
  let q := (o - g.2.1) / g.2.2.1
  let l := (o - g.2.1) % g.2.2.1
  if o < g.2.1 ∨ g.2.2.2 ≤ q ∨ l < x.off ∨ x.n ≤ (l - x.off) / x.stride then none
  else if (l - x.off) % x.stride = 0 then some (w * g.2.2.2 + q, (l - x.off) / x.stride, false)
  else if x.wide ∧ (l - x.off) % x.stride = 4 then some (w * g.2.2.2 + q, (l - x.off) / x.stride, true)
  else none

/-- The register at an address. -/
def regAt (a : Nat) : Option (Reg × Nat × Nat × Bool) :=
  match windowOf a with
  | none => none
  | some (kind, w, o) =>
    (if kind = 0 then hubRegs else if kind = 1 then tileRegs else engineRegs).findSome? fun r =>
      (r.hit w o).map fun h => (r, h.1, h.2.1, h.2.2)

/-- The plan buffer (R71). -/
def inPlanBuf (a : Nat) : Bool := decide (0x800000 ≤ a ∧ a < 0x900000)
/-- Message memory (R299). -/
def inMessages (a : Nat) : Bool := decide (0x400000 ≤ a ∧ a < 0x520000)
/-- The NVM record in use (R419). -/
def inNvm (a : Nat) : Bool := decide (0x3C000 ≤ a ∧ a < 0x40000)
/-- The pending-bit array (R495). -/
def inPba (a : Nat) : Bool := decide (0x72000 ≤ a ∧ a < 0x72020)

/-- Any length, alignment and byte enables are accepted (R476). -/
def inBytes (a : Nat) : Bool := inPlanBuf a || inMessages a

/-- R21: the address is mapped. -/
def mapped (a : Nat) : Bool := inBytes a || inNvm a || inPba a || (regAt a).isSome

/-- R498: the domain of an address; none for the auxiliary domain. -/
def domainAt (a : Nat) : Option Nat :=
  if a < 4 ∨ (0xA0F00 ≤ a ∧ a < 0xA0F10) ∨ (0xB0000 ≤ a ∧ a < 0xB1800) then none
  else if inMessages a then some domCourier
  else if 0x1000000 ≤ a ∧ a < 0x5000000 then some (domTile (a / 0x1000000 - 1))
  else some 148

/-! ## Requests -/

/-- The address of an access. -/
def accAddr : Access → Nat
  | .read4 a | .read8 a | .write4 a _ | .write8 a _ | .readN a _ | .writeN a _ => a.toNat
/-- Its length. -/
def accLen : Access → Nat
  | .read4 _ | .write4 _ _ => 4
  | .read8 _ | .write8 _ _ => 8
  | .readN _ n => n
  | .writeN _ bs => bs.length
/-- It writes. -/
def accWrite : Access → Bool
  | .write4 .. | .write8 .. | .writeN .. => true
  | _ => false
/-- What it writes. -/
def accBytes : Access → List Byte
  | .write4 _ v => leBytes 4 v.toNat
  | .write8 _ v => leBytes 8 v.toNat
  | .writeN _ bs => bs
  | _ => []
/-- R476: size and alignment are accepted. -/
def accSized (x : Access) : Bool :=
  inBytes (accAddr x) || match x with
    | .read4 _ | .write4 _ _ => accAddr x % 4 == 0
    | .read8 _ | .write8 _ _ => accAddr x % 8 == 0
    | _ => false

/-- The answer to a read: the SMBus target adds status 0 in byte 4 (R567). -/
def Dev.reply (d : Dev) (v : Nat) : Dev := d.send (.readData v)

/-- R479, R567: a violation. The SMBus target answers status 1, with a word that the spec leaves open, or for a domain
without power status 2, which is not logged (log entry 28). -/
def Dev.accFail (d : Dev) (who : Requester) (reqId a : Nat) (write : Bool) (type time : Nat) : Dev :=
  if who = .smbus then
    if type = 4 ∨ type = 5 then (if write then d else d.reply (0xFFFFFFFF + 2 ^ 33))
    else
      let d := d.logViol a 0 write who 0 type time
      if write then d else (d.reply (d.draw 19 % 2 ^ 32 + 2 ^ 32)).drawn
  else d.violate a 0 write who reqId type time

/-- The word that a claim has sent, taken back from what is sent. -/
def Dev.takeBack (d : Dev) : Dev × Nat :=
  match d.out.getLast? with
  | some (.readData v) => ({ d with out := d.out.dropLast }, v)
  | _ => (d, 0)

/-- R17: the value of a 64-bit register is read through its low word: the high word goes to the read shadow. -/
def Dev.shadowHigh (d : Dev) (k : Key) (v : Nat) : Dev := { d with rshad := Store.set d.rshad k (v / 2 ^ 32) }

/-- The key of the shadows of a 64-bit register. -/
def wideKey (r : Reg) (i j : Nat) : Key :=
  match r.row.fields with
  | x :: _ => fieldKey r x i j
  | [] => ⟨.TIME_NOW_NOW, 0⟩

/-- A read of the word at a mapped, aligned address. -/
def Dev.readWord (d : Dev) (who : Requester) (a : Nat) : Dev × Nat :=
  if inPlanBuf a then (d, d.planBuf.readLE (a - 0x800000) 4)
  else if inMessages a then (d, d.cmem.readLE (a - 0x400000) 4)
  else if inNvm a then (d, ofLE ((List.range 4).map fun b => d.nvmByte (a - 0x3C000 + b)))
  else if inPba a then (d, bitsWhere 32 fun b => d.pba.contains (8 * (a - 0x72000) + b))
  else match regAt a with
    | none => (d, 0)
    | some (r, i, j, high) =>
      if r = .PH_T_CLAIM then (d.claim i who).takeBack
      else
        let d := Dev.view r i j d
        let v := d.regValue r i j
        if !r.row.wide then (d, v)
        else if high then (d, Store.get d.rshad (wideKey r i j))
        else (d.shadowHigh (wideKey r i j) v, v % 2 ^ 32)

/-- R471, R212, R234: a write to the registers of a group or target that does not exist is ignored. -/
def Dev.writeIgnored (d : Dev) (r : Reg) (i : Nat) : Bool :=
  (r.row.blk == .sprG || r.row.blk == .poolG || r.row.blk == .phT) && d.regAbsent r i

/-- A register takes writes to both of its words (R20). -/
def Reg.wideWritable (r : Reg) : Bool := r.row.wide && r.row.fields.any fun x => x.f.acc == .rw

/-- A write of the word at a mapped, aligned address. -/
def Dev.writeWord (d : Dev) (who : Requester) (a v : Nat) : Dev :=
  match regAt a with
  | none => d
  | some (r, i, j, high) =>
    if d.writeIgnored r i then d
    else if !r.row.wide then Dev.writeReg who r i j v d
    else if !r.wideWritable then d
    else if high then Dev.writeWide r i j (Store.get d.wshad (wideKey r i j) + 2 ^ 32 * v) d
    else { d with wshad := Store.set d.wshad (wideKey r i j) v }

/-- R71, R299: the locked regions that `n` bytes from `a` touch. -/
def Dev.lockedAt (d : Dev) (a n : Nat) : Bool :=
  if inPlanBuf a then d.planBusy
  else
    let o := a - 0x400000
    (List.range ((o % 0x800 + n + 0x7FF) / 0x800)).any fun x =>
      let b := o / 0x800 + x
      decide (b < 512 ∧ b % 8 < 4) && bitAt (d.get .COUR_TX_SLOTS_BUSY (b / 8)) (b % 8)

/-- Bytes written to the plan buffer, or to the transmit slots of message memory; bytes beyond them are dropped. -/
def Dev.storeBytes (d : Dev) (a : Nat) (bs : List Byte) : Dev :=
  if inPlanBuf a then
    let o := a - 0x800000
    { d with planBuf := d.planBuf.writeBytes o (bs.take (0x100000 - o)) }
  else
    let o := a - 0x400000
    { d with cmem := ((List.range bs.length).zip bs).foldl (fun m x =>
        let b := (o + x.1) / 0x800
        if b < 512 ∧ b % 8 < 4 then m.write (o + x.1) x.2 else m) d.cmem }

/-- An access to plan buffer or message memory in a domain that serves it. -/
def Dev.serveBytes (d : Dev) (who : Requester) (reqId time : Nat) (x : Access) : Dev :=
  let a := accAddr x
  if d.lockedAt a (accLen x) then d.accFail who reqId a (accWrite x) 3 time
  else if accWrite x then d.storeBytes a (accBytes x)
  else d.reply (if inPlanBuf a then d.planBuf.readLE (a - 0x800000) (accLen x) else d.cmem.readLE (a - 0x400000) (accLen x))

/-- R476: an 8-byte access elsewhere than on a 64-bit register: two 4-byte accesses, the lower address first. -/
def Dev.servePair (d : Dev) (who : Requester) (reqId time a : Nat) (v : Option Nat) : Dev :=
  match v with
  | some v =>
    let d := if mapped a then d.writeWord who a (v % 2 ^ 32) else d.logViol a 0 true who reqId 1 time
    if mapped (a + 4) then d.writeWord who (a + 4) (v / 2 ^ 32) else d.logViol (a + 4) 0 true who reqId 1 time
  | none =>
    let lo := if mapped a then d.readWord who a else (d.logViol a 0 false who reqId 1 time, 0)
    let hi := if mapped (a + 4) then lo.1.readWord who (a + 4) else (lo.1.logViol (a + 4) 0 false who reqId 1 time, 0)
    if mapped a && mapped (a + 4) then hi.1.reply (lo.2 + 2 ^ 32 * hi.2) else hi.1.send .completerAbort

/-- The 64-bit register whose low word lies at an address. -/
def wideAt (a : Nat) : Option (Reg × Nat × Nat) :=
  match regAt a with
  | some (r, i, j, false) => if r.row.wide then some (r, i, j) else none
  | _ => none

/-- R19: an 8-byte read of a 64-bit register. -/
def Dev.readWide (d : Dev) (r : Reg) (i j : Nat) : Dev :=
  let d := Dev.view r i j d
  let v := d.regValue r i j
  (d.shadowHigh (wideKey r i j) v).reply v

/-- R20: an 8-byte write of a 64-bit register. -/
def Dev.writeBoth (d : Dev) (r : Reg) (i j v : Nat) : Dev :=
  if !r.wideWritable then d
  else Dev.writeWide r i j v { d with wshad := Store.set d.wshad (wideKey r i j) (v % 2 ^ 32) }

/-- An access in a domain that serves it. -/
def Dev.serve (d : Dev) (who : Requester) (reqId time : Nat) (x : Access) : Dev :=
  let a := accAddr x
  if inBytes a then d.serveBytes who reqId time x
  else match x with
    | .read4 _ => let p := d.readWord who a; p.1.reply p.2
    | .write4 _ v => d.writeWord who a v.toNat
    | .read8 _ =>
      match wideAt a with
      | some (r, i, j) => d.readWide r i j
      | none => d.servePair who reqId time a none
    | .write8 _ v =>
      match wideAt a with
      | some (r, i, j) => d.writeBoth r i j v.toNat
      | none => d.servePair who reqId time a (some v.toNat)
    | _ => d

/-- R478, R479: an access is served, held or ended. The second component says that it is held. Size and alignment are
judged before the map, the map before the domain, and the domain before a lock (log entry 29). -/
def Dev.bar0Try (d : Dev) (who : Requester) (reqId time : Nat) (x : Access) : Dev × Bool :=
  let a := accAddr x
  let bad := fun (t : Nat) (d : Dev) => (d.accFail who reqId a (accWrite x) t time, false)
  if !accSized x then bad 8 d
  else if !mapped a && !(accLen x == 8 && mapped (a + 4)) then bad 1 d
  else match domainAt a with
    | none => (d.serve who reqId time x, false)
    | some k =>
      let g := d.gate k
      if g = 0 then (d.serve who reqId time x, false)
      else if g = 5 then bad 5 d
      else
        let d := d.wake k 3
        if g = 4 then bad 4 d else (d, true)

/-- R482, R557, R558, R567: what answers a request while the block of its address cannot: the function in D3hot or without
its hub, and the SMBus target before the hub core is booted. -/
def Dev.notUp (d : Dev) (who : Requester) (x : Access) : Option Dev :=
  match who with
  | .pcie =>
    if d.get .DMA_LINK_STATUS_DSTATE 0 = 3 || !d.pcieUp then some (if accWrite x then d else d.send .unsupported) else none
  | .smbus =>
    if !d.pcieUp && (domainAt (accAddr x)).isSome then some (if accWrite x then d else d.reply (0xFFFFFFFF + 2 ^ 33)) else none
  | _ => if d.pcieUp then none else some d

/-- R450, R477: a request of the BAR0 stream arrives; behind a held one it waits. -/
def Dev.bar0 (d : Dev) (who : Requester) (reqId : Nat) (x : Access) : Dev :=
  if !d.on .X_SYS_AUX 0 then d
  else match d.notUp who x with
    | some d => d
    | none =>
      let h : Held := ⟨.bar0 x, who, reqId, d.clk, d.now⟩
      if d.held.any fun h => !h.isBar2 then { d with held := d.held ++ [h] }.send .held
      else
        let p := d.bar0Try who reqId d.now x
        if p.2 then { p.1 with held := p.1.held ++ [h] }.send .held else p.1

/-- The requests of the BAR0 stream that a wake releases are served in order, at most `fuel`. -/
def Dev.serveBar0 : Nat → Dev → Dev
  | 0, d => d
  | fuel + 1, d =>
    match d.held.find? fun h => !h.isBar2 with
    | some h =>
      match h.kind with
      | .bar0 x =>
        let p := d.bar0Try h.who h.reqId h.time x
        if p.2 then p.1 else Dev.serveBar0 fuel { p.1 with held := p.1.held.erase h }
      | .bar2 .. => d
    | none => d

/-- Held requests of both streams are looked at again. -/
def Dev.serveHeld (d : Dev) : Dev :=
  let d := Dev.serveBar0 d.held.length d
  Dev.serveBar2 d.held.length d

/-- R478: the oldest request that the BAR0 stream holds has waited for 40 µs. -/
def Dev.stallBar0 (d : Dev) : Dev :=
  match d.held.find? fun h => !h.isBar2 with
  | some h =>
    d.onTime (h.clk + 40 * us) fun d =>
      match h.kind with
      | .bar0 x =>
        ({ d with held := d.held.erase h }.accFail h.who h.reqId (accAddr x) (accWrite x) 6 h.time).serveHeld
      | .bar2 .. => d
  | none => d

/-- R423, R478: the oldest request that the BAR2 stream holds has waited for 40 µs, or a BAR2 write to a controller that has
stopped writing. -/
def Dev.stallBar2 (d : Dev) : Dev :=
  match d.held.find? Held.isBar2 with
  | some h =>
    d.onTime (h.clk + 40 * us) fun d =>
      match h.kind with
      | .bar2 off _ write _ _ =>
        ({ d with held := d.held.erase h }.violate off 1 write .pcie h.reqId 6 h.time).serveHeld
      | .bar0 _ => d
  | none =>
    match d.mreqs.find? fun r => r.bar2 && r.write && d.writeStopped (channelOf r.addr) with
    | some r =>
      d.onTime (r.arrived + 40 * us) fun d =>
        { d with mreqs := d.mreqs.filter fun q =>
            !(q.bar2 && q.write && q.arrived == r.arrived && q.time == r.time && d.writeStopped (channelOf q.addr)) }.violate
          r.off 1 true .pcie r.reqId 6 r.time
    | none => d

/-! ## Commands -/

/-- LOW_WORD_READ (R17): a 32-bit read of the low word of a 64-bit register. -/
def execLowWordRead (who : Requester) (reqId : BitVec 16) (a : BitVec 27) (s : State) : Host.Outcome State Fault Refusal :=
  s.run fun d => if (wideAt a.toNat).isSome then d.bar0 who reqId.toNat (.read4 a) else d

/-- The address is that of the high word of a 64-bit register. -/
def isHigh (a : Nat) : Bool :=
  match regAt a with
  | some (_, _, _, high) => high
  | none => false

/-- HIGH_WORD_READ (R17): a 32-bit read of the high word. -/
def execHighWordRead (who : Requester) (reqId : BitVec 16) (a : BitVec 27) (s : State) : Host.Outcome State Fault Refusal :=
  s.run fun d => if isHigh a.toNat then d.bar0 who reqId.toNat (.read4 a) else d

/-- WIDE_READ (R19): an 8-byte PCIe read of a 64-bit register. -/
def execWideRead (reqId : BitVec 16) (a : BitVec 27) (s : State) : Host.Outcome State Fault Refusal :=
  s.run fun d => if (wideAt a.toNat).isSome then d.bar0 .pcie reqId.toNat (.read8 a) else d

/-- LOW_WORD_WRITE (R20): a 32-bit write of the low word of a 64-bit register. -/
def execLowWordWrite (who : Requester) (reqId : BitVec 16) (a : BitVec 27) (v : Word) (s : State) :
    Host.Outcome State Fault Refusal :=
  s.run fun d => if (wideAt a.toNat).isSome then d.bar0 who reqId.toNat (.write4 a v) else d

/-- HIGH_WORD_WRITE (R20): a 32-bit write of the high word. -/
def execHighWordWrite (who : Requester) (reqId : BitVec 16) (a : BitVec 27) (v : Word) (s : State) :
    Host.Outcome State Fault Refusal :=
  s.run fun d => if isHigh a.toNat then d.bar0 who reqId.toNat (.write4 a v) else d

/-- WIDE_WRITE (R20): an 8-byte PCIe write of a 64-bit register. -/
def execWideWrite (reqId : BitVec 16) (a : BitVec 27) (v : DWord) (s : State) : Host.Outcome State Fault Refusal :=
  s.run fun d => if (wideAt a.toNat).isSome then d.bar0 .pcie reqId.toNat (.write8 a v) else d

/-- REGISTER_READ (R476 to R479): a read of `n` bytes at `a`. -/
def execRegisterRead (who : Requester) (reqId : BitVec 16) (a : BitVec 27) (n : BitVec 13) (s : State) :
    Host.Outcome State Fault Refusal :=
  s.run fun d => d.bar0 who reqId.toNat (if n = 4 then .read4 a else if n = 8 then .read8 a else .readN a n.toNat)

/-- R13: the hardware sets the event bits `hw` of the word at `a`, and of the word after it. -/
def Dev.hwEvents (a hw : Nat) (d : Dev) : Dev :=
  let one := fun a v (d : Dev) =>
    match regAt a with
    | some (r, i, j, _) => Dev.hwSet r i j v d
    | none => d
  let d := if hw % 2 ^ 32 = 0 then d else one a (hw % 2 ^ 32) d
  if hw / 2 ^ 32 = 0 then d else one (a + 4) (hw / 2 ^ 32) d

/-- REGISTER_WRITE (R13, R476 to R479): a write of `bytes` at `a`; `hw` are the event bits there that the hardware sets in the
same cycle. -/
def execRegisterWrite (who : Requester) (reqId : BitVec 16) (a : BitVec 27) (bytes : List Byte) (hw : DWord) (s : State) :
    Host.Outcome State Fault Refusal :=
  s.run fun d => Dev.hwEvents a.toNat hw.toNat (d.bar0 who reqId.toNat
    (if bytes.length = 4 then .write4 a (BitVec.ofNat 32 (ofLE bytes))
     else if bytes.length = 8 then .write8 a (BitVec.ofNat 64 (ofLE bytes)) else .writeN a bytes))

/-- PLAN_BUFFER_WRITE (R71): bytes written from offset `off` of the plan buffer. -/
def execPlanBufferWrite (who : Requester) (reqId : BitVec 16) (off : BitVec 20) (bytes : List Byte) (s : State) :
    Host.Outcome State Fault Refusal :=
  s.run fun d => d.bar0 who reqId.toNat (.writeN (BitVec.ofNat 27 (0x800000 + off.toNat)) bytes)

/-- BAR0_STALL_TIMEOUT (R423, R478): the oldest held request of the BAR0 stream, or with `bar2` of the BAR2 stream. -/
def execBar0StallTimeout (bar2 : Bool) (s : State) : Host.Outcome State Fault Refusal :=
  s.run fun d => if bar2 then d.stallBar2 else d.stallBar0

/-- R567: an access at the SMBus target's address. BAR0 ends at 128 MiB; a higher address is unmapped. -/
def Dev.smb (d : Dev) (v : Option Nat) : Dev :=
  let a := d.get .X_SMB_ADDR 0
  if a < 2 ^ 27 then
    d.bar0 .smbus 0 (match v with
      | some v => .write4 (BitVec.ofNat 27 a) (BitVec.ofNat 32 v)
      | none => .read4 (BitVec.ofNat 27 a))
  else if !d.on .X_SYS_AUX 0 then d
  else if !d.pcieUp then (if v.isSome then d else d.reply (0xFFFFFFFF + 2 ^ 33))
  else d.accFail .smbus 0 a v.isSome (if a % 4 = 0 then 1 else 8) d.now

/-- R567, R576: the 7-bit address of the SMBus target, from the straps sampled when AUX_PG rose. -/
def Dev.smbTarget (d : Dev) : Nat := 0x68 + d.get .X_SMB_STRAP 0

/-- A transaction to `target`: the part answers at its own address while the auxiliary domain has power. -/
def Dev.smbFor (d : Dev) (target : BitVec 7) (f : Dev → Dev) : Dev :=
  if target.toNat = d.smbTarget && d.on .X_SYS_AUX 0 then f d else d

/-- SMB_SET_ADDRESS (R567): command 0x10. -/
def execSmbSetAddress (target : BitVec 7) (a : Word) (pecOk : Bool) (s : State) : Host.Outcome State Fault Refusal :=
  s.run fun d => d.smbFor target fun d => if pecOk then d.set .X_SMB_ADDR 0 a.toNat else d

/-- SMB_READ (R567): command 0x11. -/
def execSmbRead (target : BitVec 7) (s : State) : Host.Outcome State Fault Refusal :=
  s.run fun d => d.smbFor target fun d => d.smb none

/-- SMB_WRITE (R567): command 0x12; a write whose PEC fails is dropped. -/
def execSmbWrite (target : BitVec 7) (v : Word) (pecOk : Bool) (s : State) : Host.Outcome State Fault Refusal :=
  s.run fun d => d.smbFor target fun d => if pecOk then d.smb (some v.toNat) else d

/-- SMB_READ_INCREMENT (R567): command 0x13. -/
def execSmbReadIncrement (target : BitVec 7) (s : State) : Host.Outcome State Fault Refusal :=
  s.run fun d => d.smbFor target fun d => (d.smb none).set .X_SMB_ADDR 0 ((d.get .X_SMB_ADDR 0 + 4) % 2 ^ 32)

/-- ENTRY_COMPLETE (R514 to R516): the sleep group of domain `k` passes abort point `point`, with 5 for the end of the entry. -/
def execEntryComplete (k : Fin 158) (point : Fin 6) (s : State) : Host.Outcome State Fault Refusal :=
  s.run fun d => (d.entryPoint k point).serveHeld

/-- R434, R553: after a wake of a memory domain a plan of the boot that has waited for it goes on. -/
def Dev.afterMem (d : Dev) (k : Nat) : Dev := if 151 ≤ k ∧ k < 155 then d.planMem else d

/-- WAKE_COMPLETE (R520). -/
def execWakeComplete (k : Fin 158) (s : State) : Host.Outcome State Fault Refusal :=
  s.run fun d => ((d.wakeComplete k).afterMem k).serveHeld

/-- WAKE_ATTEMPT_FAIL (R522): an attempt ends at its PLL timeout with `pll`, else at its regulator timeout. -/
def execWakeAttemptFail (k : Fin 158) (pll : Bool) (s : State) : Host.Outcome State Fault Refusal :=
  s.run fun d => (d.attemptFail k pll).serveHeld

end Sys2Proof.Machine
end

