-- ==== Sys2Proof/Machine/CourierModem.lean ====
section
/-! DEFINITION. The courier modem (R258, R259, R262 to R268, R278 to R280, R288, R290 to R294): the waveform of what a lane sends,
and the receiver from the 256-point transform of each symbol to bits and errors. Complex numbers are pairs of integers; a point of
unit power has modulus 2^16. -/

namespace Sys2Proof.Machine

open Sys2Proof

/-- A complex number. -/
abbrev Pt := Int × Int

def cadd (a b : Pt) : Pt := (a.1 + b.1, a.2 + b.2)
def csub (a b : Pt) : Pt := (a.1 - b.1, a.2 - b.2)
/-- The product of `a` and the conjugate of `b`. -/
def cdot (a b : Pt) : Pt := (a.1 * b.1 + a.2 * b.2, a.2 * b.1 - a.1 * b.2)
def cmul (a b : Pt) : Pt := (a.1 * b.1 - a.2 * b.2, a.1 * b.2 + a.2 * b.1)
/-- The square of the modulus. -/
def cpow (a : Pt) : Int := a.1 * a.1 + a.2 * a.2
def cscale (k : Int) (a : Pt) : Pt := (k * a.1, k * a.2)
def cdiv (a : Pt) (k : Int) : Pt := (a.1 / k, a.2 / k)
def csum (l : List Pt) : Pt := l.foldl cadd (0, 0)

/-! ## What is sent (R258, R259, R264 to R268, R290) -/

/-- R262: the square of the scale's inverse. -/
def scaleSquare : Nat → Nat
  | 2 => 2 | 3 => 10 | 4 => 42 | _ => 1

/-- A courier symbol: for each sub-carrier from 16 to 111 its constellation code and its levels before the scale. -/
abbrev CourSymbol := List (Nat × Pt)

/-- R266: P0 and P1. -/
def preambleSymbol : CourSymbol := preamble.map fun v => (1, (v, 0))

/-- R264: a symbol in a loaded mode for its share of the stream. -/
def loadedSymbol (codes : List Nat) (bits : List Bool) : CourSymbol :=
  codes.zip ((loadBits codes bits).map carrierPoint)

/-- R264: which pair a sub-carrier, counted from 16, carries in a robust mode. -/
def pairOf (mode c : Nat) : Nat := if mode = 2 then c % 48 else c % 24

/-- R264: a symbol in a robust mode for its share of the stream. -/
def robustSymbol (mode : Nat) (bits : List Bool) : CourSymbol :=
  (List.range 96).map fun c => (2, carrierPoint [bits.getD (2 * pairOf mode c) false, bits.getD (2 * pairOf mode c + 1) false])

/-- A stream in shares of `b` bits, the last one padded with zeros (R268). -/
def shares (b : Nat) (bits : List Bool) : List (List Bool) :=
  (List.range ((bits.length + (b - 1)) / b)).map fun i => (List.range b).map fun j => bits.getD (b * i + j) false

/-- R264: the constellation codes of a map, from sub-carrier 16. -/
def mapCodes (ws : List Nat) : List Nat := (ws.map wordCodes).flatten

/-- R264: the symbols that carry a stream in a mode. -/
def streamSymbols (mode : Nat) (ws : List Nat) (bits : List Bool) : List CourSymbol :=
  if mode ≤ 1 then (shares (mapBits ws) bits).map (loadedSymbol (mapCodes ws))
  else if mode = 4 then ((shares 48 bits).map fun s => [robustSymbol 4 s, robustSymbol 4 s]).flatten
  else (shares (modeBits mode [] []) bits).map (robustSymbol mode)

/-- R265 to R268: the symbols of a copy of a message. -/
def messageSymbols (mode id gen : Nat) (ws : List Nat) (bytes : List Byte) : List CourSymbol :=
  let h := courierHeader id gen bytes.length mode
  [preambleSymbol, preambleSymbol] ++ streamSymbols 4 [] (bitList 48 h) ++ streamSymbols mode ws (payloadStream h bytes)

/-- R259: the amplitude of the scaled constellation's unit, 2^-30 LSB: with all 96 sub-carriers at unit power the RMS is the peak
over 3.5. -/
def courierAmp (peak code : Nat) : Nat := Nat.sqrt (2 ^ 60 * (4 * peak ^ 2) / (49 * 48 * scaleSquare code))

/-- R258, R259: sample `t` of the 256 of a symbol, limited to the peak. The implementation rounds the cosine and the sample (log
entry 10). -/
def courierSample (amp : Nat → Nat) (peak : Nat) (sym : CourSymbol) (t : Nat) : Int :=
  clampI (-(peak : Int)) peak (roundShift 13 60 ((sym.zipIdx.map fun p =>
    (amp p.1.1 : Int) * (p.1.2.1 * Config.cosine ((16 + p.2) * t % 256) -
      p.1.2.2 * Config.cosine (((16 + p.2) * t + 192) % 256))).sum))

/-- R258: the 288 samples of a symbol, its last 32 in front. -/
def symbolWave (amp : Nat → Nat) (peak : Nat) (sym : CourSymbol) : List Int :=
  (List.range 288).map fun t => courierSample amp peak sym ((t + 224) % 256)

/-- R259: the samples of symbols that follow one another on the grid, at a depth. -/
def courierWave (depth : Nat) (syms : List CourSymbol) : List Int :=
  (syms.map (symbolWave (courierAmp (courierPeak depth)) (courierPeak depth))).flatten

/-- R290: symbol `j` of a knock burst: sub-carriers 24 and 88 alone. -/
def knockSymbol (v : Int) : CourSymbol :=
  (List.range 96).map fun c => if c = 8 ∨ c = 72 then (1, (v, 0)) else (0, (0, 0))

/-- R290, R291: the samples of `k` bursts, each tone at half of the peak. -/
def knockWave (depth k : Nat) : List Int :=
  (List.replicate k ((knockValues.map fun v =>
    symbolWave (fun _ => 2 ^ 29 * courierPeak depth) (courierPeak depth) (knockSymbol v)).flatten)).flatten

/-- COPY_START (R272): the modem begins to send the copy on the line. -/
def execCopyStart (n : Fin 64) (s : State) : Host.Outcome State Fault Refusal :=
  s.run fun d =>
    let e := d.copyStart n
    match d.courSending n, e.courSending n with
    | none, some m =>
      e.send (.courier n (courierWave (d.lget .LTX_COUR_DEPTH n) (messageSymbols m.mode m.id m.gen m.map
        (d.cmem.readBytes (txBuf n m.slot) m.len))))
    | _, _ => e

/-- KNOCK_START (R291). -/
def execKnockStart (n : Fin 64) (s : State) : Host.Outcome State Fault Refusal :=
  s.run fun d =>
    if d.on .COUR_TX_SLOTS_KNOCK_PENDING n && d.courReady n && d.courFree n then
      ((d.set .COUR_L_STATUS_TX_STATE n ctKNOCK).set .X_COUR_KNOCK_CLK n d.clk).send
        (.courier n (knockWave (d.lget .LTX_COUR_DEPTH n) (d.get .X_COUR_BURSTS n)))
    else d

/-! ## What is received (R279, R288) -/

/-- R279: twice the channel estimate: the sum of P0 and P1 over what each sub-carrier carries in them. -/
def channelEstimate (p0 p1 : List Pt) : List Pt :=
  preamble.zipIdx.map fun p => cscale p.1 (cadd (p0.getD p.2 (0, 0)) (p1.getD p.2 (0, 0)))

/-- R279: a symbol equalised and turned back by the common phase, in 2^-16. -/
def equaliseSymbol (est : List Pt) (phase : Pt) (rx : List Pt) : List Pt :=
  est.zipIdx.map fun p =>
    cdiv (cdot (cdiv (cscale (2 ^ 17) (cdot (rx.getD p.2 (0, 0)) p.1)) (max 1 (cpow p.1))) phase) (2 ^ 16)

/-- The constellation's unit of a code, in 2^-16. -/
def pointUnit (code : Nat) : Nat := Nat.sqrt (2 ^ 32 / scaleSquare code)

/-- The odd level between `-m` and `m` that lies nearest to `x`, in units of `u`. -/
def nearestLevel (m u x : Int) : Int := clampI (-m) m (2 * (x / (2 * u)) + 1)

/-- R262: the levels of the point of a constellation that lies nearest to a point. -/
def nearestPoint (code : Nat) (z : Pt) : Pt :=
  let u : Int := pointUnit code
  match code with
  | 1 => (nearestLevel 1 u z.1, 0)
  | 2 => (nearestLevel 1 u z.1, nearestLevel 1 u z.2)
  | 3 => (nearestLevel 3 u z.1, nearestLevel 3 u z.2)
  | 4 => (nearestLevel 7 u z.1, nearestLevel 7 u z.2)
  | _ => (0, 0)

/-- R262: the bits of one axis for a level, first bit first. -/
def axisBits (k : Nat) (x : Int) : List Bool :=
  (((List.range (2 ^ k)).map (bitList k)).find? fun bs => axisLevel bs == x).getD (List.replicate k false)

/-- R262: the bits of a point. -/
def pointBits (code : Nat) (a : Pt) : List Bool :=
  if code = 1 then axisBits 1 a.1
  else
    let k := codeBits code / 2
    (((axisBits k a.1).zip (axisBits k a.2)).map fun p => [p.1, p.2]).flatten

/-- The points decided for a group of equalised symbols that carries one share of the stream, by sub-carrier, with the code of
each; and the share. In a robust mode the copies of a pair are combined in the ratio of their power (R264). -/
def decideGroup (mode : Nat) (ws : List Nat) (est : List Pt) (zs : List (List Pt)) : List (Nat × Pt) × List Bool :=
  if mode ≤ 1 then
    let ps := (mapCodes ws).zipIdx.map fun p => (p.1, nearestPoint p.1 ((zs.headD []).getD p.2 (0, 0)))
    (ps, (ps.map fun p => pointBits p.1 p.2).flatten)
  else
    let pair := fun q => nearestPoint 2 (csum (zs.map fun z => csum (((List.range 96).filter fun c => pairOf mode c == q).map
      fun c => cscale (cpow (est.getD c (0, 0))) (z.getD c (0, 0)))))
    let pts := (List.range (if mode = 2 then 48 else 24)).map pair
    ((List.range 96).map fun c => (2, pts.getD (pairOf mode c) (0, 0)), (pts.map (pointBits 2)).flatten)

/-- The decided points of a group in 2^-16. -/
def decidedPoints (ps : List (Nat × Pt)) : List Pt := ps.map fun p => cscale (pointUnit p.1) p.2

/-- R279: the common phase, tracked by the angle between a symbol's points and their decisions (log entry 77). -/
def trackPhase (phase : Pt) (zs as : List Pt) : Pt :=
  let c := csum (List.zipWith cdot zs as)
  let r : Int := Nat.sqrt (cpow c).natAbs
  if r = 0 then phase else cdiv (cmul phase c) r

/-- What the receiver has made of the symbols so far: the common phase, the bits, and for each symbol the squared errors of its
sub-carriers in 2^-32 (R279, R288). -/
structure Demod where
  phase : Pt
  bits  : List Bool
  errs  : List (List Nat)
  deriving DecidableEq, Repr

/-- R279: a group of symbols that carries one share of the stream: decided with the phase so far, the phase tracked, then decided
and measured. -/
def Demod.group (mode : Nat) (ws : List Nat) (est : List Pt) (x : Demod) (rx : List (List Pt)) : Demod :=
  let zs := rx.map (equaliseSymbol est x.phase)
  let as := decidedPoints (decideGroup mode ws est zs).1
  let phase := zs.foldl (fun ph z => trackPhase ph z as) x.phase
  let zs := rx.map (equaliseSymbol est phase)
  let r := decideGroup mode ws est zs
  let as := decidedPoints r.1
  ⟨phase, x.bits ++ r.2, x.errs ++ zs.map fun z => List.zipWith (fun p a => (cpow (csub p a)).toNat) z as⟩

/-- The symbols of a stream in groups of `k`. -/
def symbolGroups (k : Nat) (rx : List (List Pt)) : List (List (List Pt)) :=
  (List.range ((rx.length + (k - 1)) / k)).map fun i => (rx.drop (k * i)).take k

/-- R279: the symbols of a stream in a mode. -/
def demodulate (mode : Nat) (ws : List Nat) (c : CourChan) (rx : List (List Pt)) : Demod :=
  (symbolGroups (if mode = 4 then 2 else 1) rx).foldl (Demod.group mode ws c.est) ⟨c.phase, [], []⟩

/-- R279: the error of each symbol, the mean of the squared errors of the sub-carriers. -/
def Demod.evm (x : Demod) : List Nat := x.errs.map fun l => l.sum / l.length

/-- R288: the mean over the symbols of the squared errors on each of some sub-carriers. -/
def Demod.mse (x : Demod) (cs : List Nat) : List Nat :=
  cs.map fun c => ((x.errs.map fun l => l.getD c 0).sum) / x.errs.length

/-- What the courier receiver of a lane knows of the channel. -/
def Dev.chan (d : Dev) (n : Nat) : CourChan := (d.chans.find? fun c => c.lane == n).getD ⟨n, [], (2 ^ 16, 0)⟩

/-- It learns anew. -/
def Dev.setChan (d : Dev) (c : CourChan) : Dev := { d with chans := c :: d.chans.filter fun x => x.lane != c.lane }

/-- R267: the header that symbols H0 and H1 carry. -/
def Dev.headerDemod (d : Dev) (n : Nat) (rx : List (List Pt)) : Demod := demodulate 4 [] (d.chan n) (rx.take 2)
def Dev.headerBits (d : Dev) (n : Nat) (rx : List (List Pt)) : Nat := symbolOf ((d.headerDemod n rx).bits.take 48)

/-- The map of the reception in progress. -/
def Dev.rxMap (d : Dev) (n : Nat) : List Nat := (List.range 12).map fun i => d.get .X_COUR_RX_MAP (12 * n + i)

/-- R268, R279: the payload symbols of the reception in progress. -/
def Dev.payloadDemod (d : Dev) (n : Nat) (rx : List (List Pt)) : Demod :=
  let h := d.get .X_COUR_RX_HEADER n
  let mode := bitsOf h 26 24
  let ws := d.rxMap n
  demodulate mode ws (d.chan n) (rx.take (payloadSymbols mode (modeBits mode ws ws) (bitsOf h 23 12)))

/-- R268: the payload bytes and the CRC-32 in a stream. -/
def streamBytes (len : Nat) (bits : List Bool) : List Byte × Word :=
  let at_ := fun i => BitVec.ofNat 8 (symbolOf ((bits.drop (8 * i)).take 8))
  ((List.range len).map at_, BitVec.ofNat 32 (symbolOf ((bits.drop (8 * len)).take 32)))

/-- R278: the 256 samples of P0 without its prefix, at the deepest injection. -/
def preambleBody : List Int := (List.range 256).map fun t => courierSample (courierAmp 16) 16 preambleSymbol t

/-- R278: the metric M of the 256 samples from an offset on, in 1/256. -/
def preambleMetric (r : List Int) : Nat :=
  let dot := fun (a b : List Int) => ((List.zipWith (· * ·) a b).sum).natAbs
  256 * dot r preambleBody ^ 2 / (dot r r * dot preambleBody preambleBody)

/-- R278: a power re 1 LSB² in 0.25 dB steps. -/
def powerCode (x : Nat) : Nat := ((List.range 256).filter fun c => decide (10 ^ c ≤ x ^ 40)).foldl max 0

/-- R278: the metric has reached the threshold at both peaks. -/
def Dev.metricReached (d : Dev) (m1 m2 : Nat) : Bool := decide (d.lget .COUR_CTRL_THRESH 0 ≤ min m1 m2)

/-- PREAMBLE_DETECT (R278, R279), with the metric at the two peaks in 1/256, the power of the preamble, and the transforms of P0 and
P1 on sub-carriers 16 to 111. -/
def execPreambleDetect (n : Fin 64) (m1 m2 : BitVec 9) (pwr : Byte) (p0 p1 : List (Int × Int)) (s : State) :
    Host.Outcome State Fault Refusal :=
  s.run fun d =>
    if d.metricReached m1.toNat m2.toNat then
      let e := d.preamble n pwr.toNat
      if d.preambleStarts n pwr.toNat then e.setChan ⟨n, channelEstimate p0 p1, (2 ^ 16, 0)⟩ else e
    else d

/-- HEADER_RECEIVED (R279, R280), with the transforms of H0 and H1. -/
def execHeaderReceived (n : Fin 64) (rx : List (List (Int × Int))) (s : State) : Host.Outcome State Fault Refusal :=
  s.run fun d =>
    let r := d.headerDemod n rx
    let e := d.header n (d.headerBits n rx)
    if d.get .COUR_L_STATUS_RX_STATE n = crHEADER then e.setChan ⟨n, (d.chan n).est, r.phase⟩ else e

/-- PAYLOAD_RECEIVED (R279, R280, R288), with the transforms of the payload symbols. -/
def execPayloadReceived (n : Fin 64) (rx : List (List (Int × Int))) (s : State) : Host.Outcome State Fault Refusal :=
  s.run fun d =>
    let r := d.payloadDemod n rx
    let p := streamBytes (bitsOf (d.get .X_COUR_RX_HEADER n) 23 12) r.bits
    d.payload n p.1 p.2 (r.mse (d.usedCarriers n))

/-! ## The knock (R292 to R294) -/

/-- R290, R292: how many of the 63 differential decisions of a window, the first in bit 0, match those of a knock. -/
def knockMatches (w : Nat) : Nat :=
  ((List.range 63).filter fun j => bitAt w j == decide (knockValues.getD (j + 1) 0 ≠ knockValues.getD j 0)).length

/-- KNOCK_WAKE (R293), with the decisions on the two sub-carriers in the window. -/
def execKnockWake (n : Fin 64) (w1 w2 : BitVec 63) (s : State) : Host.Outcome State Fault Refusal :=
  s.run fun d =>
    if d.knockArmed n && d.knockMatch (knockMatches w1.toNat) (knockMatches w2.toNat) then
      (((d.set .X_COUR_KNOCK_STOP n 1).set .COUR_L_EVENTS_KNOCK_WAKE n 1).syncCourier n).wake (domRx n) 2
    else d

/-- KNOCK_SEEN (R294), with the decisions on the two sub-carriers in the window. -/
def execKnockSeen (n : Fin 64) (w1 w2 : BitVec 63) (s : State) : Host.Outcome State Fault Refusal :=
  s.run fun d =>
    if d.get .COUR_L_STATUS_RX_STATE n = crIDLE ∧ d.knockMatch (knockMatches w1.toNat) (knockMatches w2.toNat) then
      (d.set .COUR_L_EVENTS_KNOCK_SEEN n 1).syncCourier n
    else d

end Sys2Proof.Machine
end

