-- ==== Sys2Proof/Machine/PcieConfig.lean ====
section
/-! DEFINITION. What the PCIe function reports of itself (R472, R473, R475, R558): its identity and the configuration words that
hold it. A configuration request is no row of the table; these are the answers to one (log entry 78). -/

namespace Sys2Proof.Machine

open Sys2Proof

/-- R473: the identity that the function reports. -/
structure PcieIdentity where
  vendor    : BitVec 16
  device    : BitVec 16
  classCode : BitVec 24
  /-- of the Device Serial Number capability -/
  serial    : DWord
  deriving DecidableEq, Repr

def pcieIdentity : PcieIdentity := ⟨Config.vendorId, 0x5164, 0x028000, Config.serialNumber⟩

/-- R475: the size of a memory BAR, by the number of its first register. -/
def barSize : Nat → Option Nat
  | 0 => some (2 ^ 27)
  | 2 => some (2 ^ 32)
  | _ => none

/-- An answer to a configuration read. -/
inductive ConfigAnswer where
  /-- Configuration Request Retry Status (R558) -/
  | retry
  | word (w : Word)
  deriving DecidableEq, Repr

/-- The words of the header that the spec fixes, by byte offset (the offsets are PRESUMED, those of PCI): vendor and device ID,
class code, BAR4, BAR5 and the expansion ROM BAR (R473, R475), and the interrupt pin (R472). Any other is left free. -/
def headerWord (other : Nat) : Nat → Nat
  | 0x00 => pcieIdentity.vendor.toNat + 2 ^ 16 * pcieIdentity.device.toNat
  | 0x08 => other % 2 ^ 8 + 2 ^ 8 * pcieIdentity.classCode.toNat
  | 0x20 => 0
  | 0x24 => 0
  | 0x30 => 0
  | 0x3C => other % 2 ^ 8 + other / 2 ^ 16 % 2 ^ 16 * 2 ^ 16
  | _ => other

/-- R558, R473: the answer to a configuration read of the header at byte offset `off`: a retry until the firmware runs. -/
def Dev.configRead (d : Dev) (off : Nat) : ConfigAnswer :=
  if d.pcieUp then .word (BitVec.ofNat 32 (headerWord (d.draw 22 / 2 ^ (8 * off) % 2 ^ 32) off)) else .retry

/-- R473: the Device Serial Number that the function reports, lower word first. -/
def serialWords : List Word :=
  [BitVec.ofNat 32 pcieIdentity.serial.toNat, BitVec.ofNat 32 (pcieIdentity.serial.toNat / 2 ^ 32)]

end Sys2Proof.Machine
end

