-- ==== Sys2Proof/Machine/PoolGrant.lean ====
section
/-! DEFINITION. The grant computation of a tile (R215, R223), which counts on nothing that the plan due at the next tick takes
away. -/

namespace Sys2Proof.Machine

open Sys2Proof

/-- R82, R215: the sections of the waiting plan, if it is due at the next tick. -/
def Dev.planNext (d : Dev) : Option (List PlanSec) :=
  if ({ d with clk := d.clk + d.tickLeft } : Dev).planDue then
    some (if d.get .X_PLAN_ACT 0 = 14 then d.plan else d.planSections)
  else none

/-- R215: the level that the plan due at the next tick asks for in tile `t`, and the thermal cap that it sets there. -/
def Dev.planAhead (d : Dev) (t : Nat) : Nat × Nat :=
  match d.planNext with
  | none => (0, 8)
  | some ss =>
    let step := d.get .THM_Z_STEP_STEP t
    (if d.takesEffect ss 6 && !d.powerBack then u8 (sectionBody ss 6) t else 0,
      if d.takesEffect ss 7 && step != 0 then u8 (sectionBody ss 7) (5 + step) % 16 else 8)

/-- GRANT_COMPUTED (R223). -/
def execGrantComputed (t : Fin 4) (s : State) : Host.Outcome State Fault Refusal :=
  s.run fun d =>
    let p := d.planAhead t
    d.computeGrants t (d.levelNext t p.1) (d.capNext t p.2)

end Sys2Proof.Machine
end

