-- ==== Sys2Proof/Machine/Tick.lean ====
section
/-! DEFINITION. The collection tick (R32 to R34, R41 to R46): what goes live at a tick, in the order of the categories of
R45, and what an overrun leaves undone; with it the commands that name what a tick does (R44, R49, R82, R553). -/

namespace Sys2Proof.Machine

open Sys2Proof

/-- A lane that no signal reaches: what a receive lane without an entry in `TickIn.rx` delivers. -/
def RxTick.quiet : RxTick :=
  { var0 := 0, var1 := 0, var2 := 0, freq := 0, jitter := 0, phaseOk := false, var := 0, clips := 0, amplitude := 0,
    trialVga := 0, grades := [], taps := [], nlc := [], levels := [], clerk := 0, segs := 0, lossSegs := 0, segPos := 0,
    chkSyms := 0, chkOne := [], chkTwo := [] }

/-- R38, R82: postings or a plan are due at this tick that were not due before. -/
def Dev.newPosts (d : Dev) : Bool :=
  decide (d.get .X_POST_CARRY 0 < d.postsDue.length) || (d.planDue && !d.on .X_PLAN_CARRY 0)

/-- R46: the pieces of category `c` that have work at this tick: new work, or work carried over. Adaptation, timer alignment and
telemetry have work at every tick; grants are judged by whether they have been computed (R224). -/
def Dev.work (d : Dev) (c : Nat) : List Nat :=
  match c with
  | 0 => if d.postsDue.isEmpty && !d.planDue then [] else [0]
  | 1 => (List.range 137).filter fun u => d.cal u == cuAPPLYING
  | 3 => (List.range 4).filter fun t => (List.range 16).any fun l => d.on .X_LG_EFF_DUE (16 * t + l)
  | 4 => (if d.thmDue then [0] else []) ++ if d.thmScheduled || d.on .X_THM_ISSUE 0 then [1] else []
  | 5 => List.range 4
  | 7 =>
    if d.postsDue.any fun p => p.scope == 0 || p.scope == 6 then List.range 74
    else (List.range 74).filter fun x => d.on .X_PH_POST x
  | _ => List.range 64

/-- R46, R224: whether category `c` overruns at this tick: a piece of it that has work is not ready. -/
def Dev.overruns (d : Dev) (i : TickIn) (c : Nat) : Bool :=
  (c == 3 && (List.range 4).any fun t => d.grantsLate t) || (d.work c).any fun p => i.over c p || (i.overNew c p && (c != 0 || d.newPosts))

/-- R46: the categories in `late` overrun; with none, nothing is carried any more. -/
def Dev.overrun (d : Dev) (late : Nat) : Dev :=
  let d := d.set .TIME_OVR_EVENTS_CARRY 0 late
  if late = 0 then d
  else ((d.orBits .TIME_OVR_EVENTS_EVENT 0 late).addSat .TIME_OVR_COUNT_COUNT 0 1).raise 4

/-- The start of a tick (R42 to R44, R49): POST_TIME has reached it. -/
def Dev.tickStart (d : Dev) : Dev :=
  let d := (d.addWrap .TIME_TICK_COUNT_COUNT 0 1).set .X_TICK_DUE 0 0
  let d := if d.periodDue then d.periodTake else d
  if d.loadDue then d.loadTake else d

/-- R34: a driver posting that has made a setting of a lane live loses to the plan section that changes it at the same tick;
the lane's block counts it. `d0` is the device before the postings, `d1` after them, `d` with the plan accepted. -/
def Dev.countLost (d0 d1 d : Dev) : Dev :=
  let lost := ((d0.live ++ d1.live).map fun e : Key × Nat => e.1).eraseDups.filter fun k =>
    k.staged && d0.live.get k != d1.live.get k && d1.live.get k != d.live.get k
  Dev.forList lost (fun k d =>
    match k.f.blk with
    | .lrx => d.dropChange k.inst
    | .ltx => d.dropTx k.inst
    | _ => d) d

/-- R34, R82: the plan that is due is accepted after the postings of the tick, so its value stands; `d0` is the device before
them. -/
def Dev.acceptOver (d0 d : Dev) : Dev := Dev.countLost d0 d d.accept

/-- R34, R38, R46, R82: category 0 of a tick: postings and a plan go live, or carry over, or only what had been carried over
goes live. -/
def Dev.tickPosts (i : TickIn) (d : Dev) : Dev :=
  let plan := d.planDue
  let d0 := d
  let d :=
    if i.over 0 0 then
      ((d.postTick false).set .X_POST_CARRY 0 d.postsDue.length).set .X_PLAN_CARRY 0 (b2n plan)
    else if i.overNew 0 0 then
      let old := d.postsDue.take (d.get .X_POST_CARRY 0)
      let new := d.postsDue.length - old.length
      let had := plan && d.on .X_PLAN_CARRY 0
      let d := d.postLive old
      let d := if had then d0.acceptOver d else d
      let d := if new = 0 then d else d.set .TIME_POST_ERR_CARRIED 0 1
      (d.set .X_POST_CARRY 0 new).set .X_PLAN_CARRY 0 (b2n (plan && !had))
    else
      let d := d.postTick true
      (if plan then d0.acceptOver d else d).setAll [.X_POST_CARRY, .X_PLAN_CARRY] 0 0
  Dev.each 8 Dev.engineTick d

/-- R34, R115, R151: what beats a ledger move or an adaptation update of a setting at this tick: a driver posting that makes
the setting live, be it with the value that it has, or a change by the plan; `d0` is the device before the postings. -/
def Dev.beaten (i : TickIn) (d0 d : Dev) (k : Key) : Bool :=
  (!i.over 0 0 && d0.keyReady k &&
    (if i.overNew 0 0 then d0.postsDue.take (d0.get .X_POST_CARRY 0) else d0.postsDue).any fun p => d0.covers p k) ||
  d0.live.get k != d.live.get k

/-- A receive lane runs: its domain is ON and it is neither off nor asleep. -/
def Dev.rxRuns (d : Dev) (n : Nat) : Bool := d.domOn (domRx n) && d.rx n != rxOFF && d.rx n != rxASLEEP

/-- Category 2 and the measurements of receive lane `n`; `beaten` names the settings that a posting or the plan has made live
at this tick. A lane that does not run drops what it had carried over. -/
def Dev.tickLane (i : TickIn) (beaten : Key → Bool) (n : Fin 64) (d : Dev) : Dev :=
  let all := i.over 2 n.val
  let cat6 := i.over 6 n.val
  let d := if all || i.overNew 2 n.val then d else Dev.lgMoves beaten n.val (Dev.lgRefTick n.val d)
  let d := if d.reacquires n && d.rx n == rxASLEEP then d.laneRestart n else d
  if d.rxRuns n.val then d.rxTick all (i.overNew 2 n.val) cat6 n (i.rx.getD n.val RxTick.quiet)
  else
    let d := { d with carryRx := d.carryRx.filter fun e => decide (e.1 ≠ n) }
    let d := if cat6 || !d.domOn (domRx n.val) then d else d.readback n.val
    (d.closeWindows n.val 0).setAll [.X_LRX_LOADED, .X_LG_MOVED, .X_LRX_LOST] n.val 0

/-- Categories 3 to 7 of a tick, in their order; `thm` gives the levels that the thermal supervisor had demanded before the
tick. -/
def Dev.tickGrants (i : TickIn) (thm : Nat → Nat) (d : Dev) : Dev :=
  let d := Dev.lgEffort (fun t => i.over 3 t) d
  let d := Dev.each 4 (fun t d => d.poolTick t) d
  let d := Dev.each 4 (fun t d => d.levelLower t (thm t)) d
  let d := Dev.each 4 Dev.levelRaise (Dev.thmTick (!i.over 4 0) (!i.over 4 1) d)
  let d := Dev.each 4 (fun t d => Dev.biasTick (!i.over 5 t) t d) d
  let d := Dev.each 64 (fun n d => if i.over 5 (tileOf n) then d else Dev.lgBiasMove n 1 (Dev.lgBiasMove n 0 d)) d
  Dev.targetTick (fun x => i.over 7 x) (Dev.each 64 Dev.lgGather d)

/-- What the blocks count and retry at a tick, beside the eight categories. -/
def Dev.tickBlocks (i : TickIn) (d : Dev) : Dev :=
  let d := Dev.each 8 Dev.startTick d
  let d := Dev.each 64 (fun n d => d.clipTick n (i.clips.getD n 0)) d
  let d := Dev.each 64 Dev.groupTick d
  let d := Dev.each 128 (fun h d => d.hostTick h (i.host.getD h (false, 0)).1 (i.host.getD h (false, 0)).2.toNat) d
  let d := Dev.each 4 Dev.hkTick d.memTick
  let d := (d.setEach .X_CAP_GAP_TICK (List.range 8) 0).setEach .X_HOST_UNC_TICK (List.range 4) 0
  let d := Dev.each 8 Dev.lsTick (d.setEach .X_DMA_STARVED (List.range 16) 0)
  Dev.each 64 (fun n d => d.syncTx n) d.powerTick

/-- The start of a tick's work: rollbacks end, the heartbeats and the ring count, and what the receive lanes have delivered
since the last tick is counted, before anything goes live (R28, R53, R122, R514). -/
def Dev.tickOpen (i : TickIn) (d : Dev) : Dev :=
  Dev.each 64 (fun n d => d.rxEnd n (i.rx.getD n RxTick.quiet)) (d.powerBegin.heartbeats i.silent.toNat).ringTick

/-- R46: the categories that overrun at a tick, one bit each. Carried work that does not go live at a tick overruns again at
that tick, so these are also the categories with work carried over. -/
def Dev.tickLate (i : TickIn) (d : Dev) : Nat := bitsWhere 8 fun c => d.overruns i c

/-- R45: the categories after the postings, in their order, and what the blocks count; `d0` is the device before the
postings. -/
def Dev.tickRest (i : TickIn) (d0 d : Dev) : Dev :=
  let beaten := Dev.beaten i d0 d
  let d := Dev.calTick (fun u => i.over 1 u) d
  let d := Dev.forList (List.finRange 64) (Dev.tickLane i beaten) d
  ((d.tickGrants i fun t => d0.get .PWR_T_LEVEL_THERMAL t).tickBlocks i).serveHeld

/-- What a tick that has begun does. With the hub off only the time base and the ring port run (R497; log entry 54). -/
def Dev.tickServe (i : TickIn) (d : Dev) : Dev :=
  if d.on .X_SYS_OFF 0 then d.ringTick
  else
    let d := d.tickOpen i
    let d0 := d.overrun (d.tickLate i)
    Dev.tickRest i d0 (d0.tickPosts i)

/-- COLLECTION_TICK: time runs on to the next tick, and the tick does its work. -/
def Dev.tick (i : TickIn) (d : Dev) : Dev := d.runToTick.tickStart.tickServe i

/-- The device at the start of the next tick, for what will be due there. -/
def Dev.nextTick (d : Dev) : Dev := d.runToTick

/-- COLLECTION_TICK (R42 to R46). -/
def execCollectionTick (i : TickIn) (s : State) : Host.Outcome State Fault Refusal :=
  s.run fun d => if d.on .X_SYS_AUX 0 then d.tick i else d

/-- TICK_PERIOD_CHANGE (R44): the tick at which a new exponent goes live, if the next tick is that one. -/
def execTickPeriodChange (i : TickIn) (s : State) : Host.Outcome State Fault Refusal :=
  s.run fun d => if d.on .X_SYS_AUX 0 && d.nextTick.periodDue then d.tick i else d

/-- TIME_SET_LOAD (R49): the tick at which POST_TIME takes the armed value, if the next tick is that one. -/
def execTimeSetLoad (i : TickIn) (s : State) : Host.Outcome State Fault Refusal :=
  s.run fun d => if d.on .X_SYS_AUX 0 && d.nextTick.loadDue then d.tick i else d

/-- PLAN_ACCEPT (R82): the tick at which the waiting plan is accepted, if the next tick is that one. -/
def execPlanAccept (i : TickIn) (s : State) : Host.Outcome State Fault Refusal :=
  s.run fun d =>
    if d.on .X_SYS_AUX 0 && d.get .X_PLAN_ACT 0 != 14 && d.nextTick.planDue then d.tick i else d

/-- RESTORED_PLAN_ACCEPT (R553): the tick at which the plan of area 0 is accepted again after a warm reset, if the next
tick is that one. -/
def execRestoredPlanAccept (i : TickIn) (s : State) : Host.Outcome State Fault Refusal :=
  s.run fun d =>
    if d.on .X_SYS_AUX 0 && d.get .X_PLAN_ACT 0 == 14 && d.nextTick.planDue then d.tick i else d

end Sys2Proof.Machine
end

