-- ==== Sys2Proof/Machine/Dispatch.lean ====
section
/-! DEFINITION. One arm for each command: the meaning that acts on everything but the queue. -/

namespace Sys2Proof.Machine

open Sys2Proof

/-- The effect of a command. -/
def exec (i : Instr) (s : State) : Host.Outcome State Fault Refusal :=
  match i with
  | .collectionTick x => Sys2Proof.Machine.execCollectionTick x s
  | .tickPeriodChange x => Sys2Proof.Machine.execTickPeriodChange x s
  | .postingRequest scope index => Sys2Proof.Machine.execPostingRequest scope index s
  | .timeSetArm => Sys2Proof.Machine.execTimeSetArm s
  | .timeSetLoad x => Sys2Proof.Machine.execTimeSetLoad x s
  | .clerkRestart t k => Sys2Proof.Machine.execClerkRestart t k s
  | .postmasterRestart k => Sys2Proof.Machine.execPostmasterRestart k s
  | .ringSyncDrive => Sys2Proof.Machine.execRingSyncDrive s
  | .ringMsgSend => Sys2Proof.Machine.execRingMsgSend s
  | .ringSyncReceived stamp => Sys2Proof.Machine.execRingSyncReceived stamp s
  | .ringTimeMessage bytes => Sys2Proof.Machine.execRingTimeMessage bytes s
  | .ringHoldover => Sys2Proof.Machine.execRingHoldover s
  | .ringConflict => Sys2Proof.Machine.execRingConflict s
  | .planCheck => Sys2Proof.Machine.execPlanCheck s
  | .planLoad => Sys2Proof.Machine.execPlanLoad s
  | .planLoadSlot slot => Sys2Proof.Machine.execPlanLoadSlot slot s
  | .planProgram slot => Sys2Proof.Machine.execPlanProgram slot s
  | .planMarkCurrent slot => Sys2Proof.Machine.execPlanMarkCurrent slot s
  | .planErase slot => Sys2Proof.Machine.execPlanErase slot s
  | .planValidationDone => Sys2Proof.Machine.execPlanValidationDone s
  | .planAccept x => Sys2Proof.Machine.execPlanAccept x s
  | .flashActionDone => Sys2Proof.Machine.execFlashActionDone s
  | .xtrigSampleDone j driven => Sys2Proof.Machine.execXtrigSampleDone j driven s
  | .planBufferWrite who reqId off bytes => Sys2Proof.Machine.execPlanBufferWrite who reqId off bytes s
  | .signalDetectAssert n amplitude => Sys2Proof.Machine.execSignalDetectAssert n amplitude s
  | .signalDetectDeassert n amplitude => Sys2Proof.Machine.execSignalDetectDeassert n amplitude s
  | .cycleSlip n => Sys2Proof.Machine.execCycleSlip n s
  | .acqFail n => Sys2Proof.Machine.execAcqFail n s
  | .reacquire n => Sys2Proof.Machine.execReacquire n s
  | .lrxClearStats n => Sys2Proof.Machine.execLrxClearStats n s
  | .holdReadback n => Sys2Proof.Machine.execHoldReadback n s
  | .releaseReadback n => Sys2Proof.Machine.execReleaseReadback n s
  | .shadowRequest n take => Sys2Proof.Machine.execShadowRequest n take s
  | .shadowStart n => Sys2Proof.Machine.execShadowStart n s
  | .shadowPointDone n hits => Sys2Proof.Machine.execShadowPointDone n hits s
  | .checkerCtrlWrite n enable pattern => Sys2Proof.Machine.execCheckerCtrlWrite n enable pattern s
  | .checkerLock n levels => Sys2Proof.Machine.execCheckerLock n levels s
  | .checkerUnlock n errors => Sys2Proof.Machine.execCheckerUnlock n errors s
  | .ltxClearStats n => Sys2Proof.Machine.execLtxClearStats n s
  | .sourceSwitch n => Sys2Proof.Machine.execSourceSwitch n s
  | .squelchImmediate n => Sys2Proof.Machine.execSquelchImmediate n s
  | .rampStart n => Sys2Proof.Machine.execRampStart n s
  | .rampDone n => Sys2Proof.Machine.execRampDone n s
  | .patternRestart n => Sys2Proof.Machine.execPatternRestart n s
  | .loopClockSwitch n => Sys2Proof.Machine.execLoopClockSwitch n s
  | .loopRecentre n => Sys2Proof.Machine.execLoopRecentre n s
  | .txPllLock e => Sys2Proof.Machine.execTxPllLock e s
  | .transmitFrame n courier => Sys2Proof.Machine.execTransmitFrame n courier s
  | .anchorFound n words start => Sys2Proof.Machine.execAnchorFound n words start s
  | .spreadFrameReceived g letters time => Sys2Proof.Machine.execSpreadFrameReceived g letters time s
  | .groupLockLost g => Sys2Proof.Machine.execGroupLockLost g s
  | .rejoinLimit n => Sys2Proof.Machine.execRejoinLimit n s
  | .spreadRelock e groups => Sys2Proof.Machine.execSpreadRelock e groups s
  | .sprClearStats e => Sys2Proof.Machine.execSprClearStats e s
  | .streamLock n phase => Sys2Proof.Machine.execStreamLock n phase s
  | .streamLost n => Sys2Proof.Machine.execStreamLost n s
  | .rsCodewordDecode n => Sys2Proof.Machine.execRsCodewordDecode n s
  | .grantComputed t => Sys2Proof.Machine.execGrantComputed t s
  | .poolClearStats t => Sys2Proof.Machine.execPoolClearStats t s
  | .hostSignalDetect h => Sys2Proof.Machine.execHostSignalDetect h s
  | .hostSignalLost h => Sys2Proof.Machine.execHostSignalLost h s
  | .trainingRequest h cm3 cm2 cm1 cp1 pre => Sys2Proof.Machine.execTrainingRequest h cm3 cm2 cm1 cp1 pre s
  | .trainingComplete h preRx => Sys2Proof.Machine.execTrainingComplete h preRx s
  | .trainingTimeout h => Sys2Proof.Machine.execTrainingTimeout h s
  | .retrain h => Sys2Proof.Machine.execRetrain h s
  | .hostLClearStats h => Sys2Proof.Machine.execHostLClearStats h s
  | .hostPClearStats n => Sys2Proof.Machine.execHostPClearStats n s
  | .hostRelock n => Sys2Proof.Machine.execHostRelock n s
  | .amLockGained n a b skew => Sys2Proof.Machine.execAmLockGained n a b skew s
  | .amLockLost n lanes skew => Sys2Proof.Machine.execAmLockLost n lanes skew s
  | .hostCodewordReceived n word => Sys2Proof.Machine.execHostCodewordReceived n word s
  | .hostTxSourceSwitch n => Sys2Proof.Machine.execHostTxSourceSwitch n s
  | .nearLoopRecentre n => Sys2Proof.Machine.execNearLoopRecentre n s
  | .captureOutReady h => Sys2Proof.Machine.execCaptureOutReady h s
  | .captureOutPowerDown h => Sys2Proof.Machine.execCaptureOutPowerDown h s
  | .captureOutFrame t => Sys2Proof.Machine.execCaptureOutFrame t s
  | .blockPartnerTimeout t => Sys2Proof.Machine.execBlockPartnerTimeout t s
  | .courierSubmit n slot rep mode id len => Sys2Proof.Machine.execCourierSubmit n slot rep mode id len s
  | .quarantineExpire n id => Sys2Proof.Machine.execQuarantineExpire n id s
  | .quarantineAllEnd n => Sys2Proof.Machine.execQuarantineAllEnd n s
  | .copyStart n => Sys2Proof.Machine.execCopyStart n s
  | .copyDone n => Sys2Proof.Machine.execCopyDone n s
  | .lifetimeExpire n slot => Sys2Proof.Machine.execLifetimeExpire n slot s
  | .preambleDetect n m1 m2 pwr p0 p1 => Sys2Proof.Machine.execPreambleDetect n m1 m2 pwr p0 p1 s
  | .headerReceived n rx => Sys2Proof.Machine.execHeaderReceived n rx s
  | .payloadReceived n rx => Sys2Proof.Machine.execPayloadReceived n rx s
  | .courierRxRelease n slots => Sys2Proof.Machine.execCourierRxRelease n slots s
  | .dlqPop => Sys2Proof.Machine.execDlqPop s
  | .knock n bursts => Sys2Proof.Machine.execKnock n bursts s
  | .knockStart n => Sys2Proof.Machine.execKnockStart n s
  | .knockDropped n => Sys2Proof.Machine.execKnockDropped n s
  | .knockWake n w1 w2 => Sys2Proof.Machine.execKnockWake n w1 w2 s
  | .knockSeen n w1 w2 => Sys2Proof.Machine.execKnockSeen n w1 w2 s
  | .courClearStats n => Sys2Proof.Machine.execCourClearStats n s
  | .captureArm t => Sys2Proof.Machine.execCaptureArm t s
  | .captureStop t b => Sys2Proof.Machine.execCaptureStop t b s
  | .captureAbort t => Sys2Proof.Machine.execCaptureAbort t s
  | .capClearStats t => Sys2Proof.Machine.execCapClearStats t s
  | .blockWrite t b => Sys2Proof.Machine.execBlockWrite t b s
  | .blockDrain t bad => Sys2Proof.Machine.execBlockDrain t bad s
  | .triggerAccept t => Sys2Proof.Machine.execTriggerAccept t s
  | .softwareTrigger taps tag => Sys2Proof.Machine.execSoftwareTrigger taps tag s
  | .trigInEdge p rising c f => Sys2Proof.Machine.execTrigInEdge p rising c f s
  | .xtrigEdge j c f => Sys2Proof.Machine.execXtrigEdge j c f s
  | .autoTrigger t => Sys2Proof.Machine.execAutoTrigger t s
  | .sampleLoss t cause n time => Sys2Proof.Machine.execSampleLoss t cause n time s
  | .biasTargetWrite x v => Sys2Proof.Machine.execBiasTargetWrite x v s
  | .biasUpdateTrigger t => Sys2Proof.Machine.execBiasUpdateTrigger t s
  | .deglitchRelease x => Sys2Proof.Machine.execDeglitchRelease x s
  | .sineStop x => Sys2Proof.Machine.execSineStop x s
  | .forcedZeroEnd x => Sys2Proof.Machine.execForcedZeroEnd x s
  | .biasOverload x => Sys2Proof.Machine.execBiasOverload x s
  | .vbiasLow => Sys2Proof.Machine.execVbiasLow s
  | .compliance x out => Sys2Proof.Machine.execCompliance x out s
  | .biasRelease x => Sys2Proof.Machine.execBiasRelease x s
  | .biasClearStats x => Sys2Proof.Machine.execBiasClearStats x s
  | .hkStartCmd t => Sys2Proof.Machine.execHkStartCmd t s
  | .hkStartPin t rising => Sys2Proof.Machine.execHkStartPin t rising s
  | .hkSync t => Sys2Proof.Machine.execHkSync t s
  | .hkClearStats t => Sys2Proof.Machine.execHkClearStats t s
  | .converterStartupDone t => Sys2Proof.Machine.execConverterStartupDone t s
  | .conversionDone t input => Sys2Proof.Machine.execConversionDone t input s
  | .converterPowerDown t => Sys2Proof.Machine.execConverterPowerDown t s
  | .calRun u => Sys2Proof.Machine.execCalRun u s
  | .calRunClass c => Sys2Proof.Machine.execCalRunClass c s
  | .calPeriodicDue u => Sys2Proof.Machine.execCalPeriodicDue u s
  | .calRunComplete u r => Sys2Proof.Machine.execCalRunComplete u r s
  | .nvmStore baseline => Sys2Proof.Machine.execNvmStore baseline s
  | .nvmStoreDone => Sys2Proof.Machine.execNvmStoreDone s
  | .nvmStoreRetry => Sys2Proof.Machine.execNvmStoreRetry s
  | .ledgerPeriodEnd => Sys2Proof.Machine.execLedgerPeriodEnd s
  | .ledgerRecordWrite => Sys2Proof.Machine.execLedgerRecordWrite s
  | .farReportWrite n snr0 snr2 worst => Sys2Proof.Machine.execFarReportWrite n snr0 snr2 worst s
  | .ledgerRebase n => Sys2Proof.Machine.execLedgerRebase n s
  | .memTrainingDone density => Sys2Proof.Machine.execMemTrainingDone density s
  | .memTrainingRetry c => Sys2Proof.Machine.execMemTrainingRetry c s
  | .driftTracking c drift ecc => Sys2Proof.Machine.execDriftTracking c drift ecc s
  | .memRetrain m => Sys2Proof.Machine.execMemRetrain m s
  | .memRetrainDone c ok => Sys2Proof.Machine.execMemRetrainDone c ok s
  | .memReinit => Sys2Proof.Machine.execMemReinit s
  | .memClearStats => Sys2Proof.Machine.execMemClearStats s
  | .memTempRead m t => Sys2Proof.Machine.execMemTempRead m t s
  | .memRequestIssue c retries fail => Sys2Proof.Machine.execMemRequestIssue c retries fail s
  | .vddqLoss => Sys2Proof.Machine.execVddqLoss s
  | .bar2BaseWrite base => Sys2Proof.Machine.execBar2BaseWrite base s
  | .bar2Access off write len bytes reqId => Sys2Proof.Machine.execBar2Access off write len bytes reqId s
  | .claim x req => Sys2Proof.Machine.execClaim x req s
  | .complete x source req => Sys2Proof.Machine.execComplete x source req s
  | .pendingWrite w v hw => Sys2Proof.Machine.execPendingWrite w v hw s
  | .maskWrite w v => Sys2Proof.Machine.execMaskWrite w v s
  | .targetIdleWrite x idle => Sys2Proof.Machine.execTargetIdleWrite x idle s
  | .phClearStats => Sys2Proof.Machine.execPhClearStats s
  | .moderationTimeout x => Sys2Proof.Machine.execModerationTimeout x s
  | .bar0StallTimeout bar2 => Sys2Proof.Machine.execBar0StallTimeout bar2 s
  | .violPop => Sys2Proof.Machine.execViolPop s
  | .queueEnable q e => Sys2Proof.Machine.execQueueEnable q e s
  | .queueDisable q => Sys2Proof.Machine.execQueueDisable q s
  | .queueReset q => Sys2Proof.Machine.execQueueReset q s
  | .dmaQClearStats q => Sys2Proof.Machine.execDmaQClearStats q s
  | .tailWrite q tail => Sys2Proof.Machine.execTailWrite q tail s
  | .descriptorFetch q x => Sys2Proof.Machine.execDescriptorFetch q x s
  | .descriptorComplete q bad => Sys2Proof.Machine.execDescriptorComplete q bad s
  | .readCompletion q old last r data => Sys2Proof.Machine.execReadCompletion q old last r data s
  | .completionTimeout q old => Sys2Proof.Machine.execCompletionTimeout q old s
  | .pcieHotReset linkDown => Sys2Proof.Machine.execPcieHotReset linkDown s
  | .flr => Sys2Proof.Machine.execFlr s
  | .linkUp speed width => Sys2Proof.Machine.execLinkUp speed width s
  | .d3hotEntry pmeEn => Sys2Proof.Machine.execD3hotEntry pmeEn s
  | .d0Return => Sys2Proof.Machine.execD0Return s
  | .bmeChange on => Sys2Proof.Machine.execBmeChange on s
  | .vectorUnmask v => Sys2Proof.Machine.execVectorUnmask v s
  | .l1Entry => Sys2Proof.Machine.execL1Entry s
  | .entryComplete k point => Sys2Proof.Machine.execEntryComplete k point s
  | .horizonWrite k v => Sys2Proof.Machine.execHorizonWrite k v s
  | .horizonExpire k => Sys2Proof.Machine.execHorizonExpire k s
  | .timerWake k => Sys2Proof.Machine.execTimerWake k s
  | .sdWake n => Sys2Proof.Machine.execSdWake n s
  | .wakeComplete k => Sys2Proof.Machine.execWakeComplete k s
  | .wakeAttemptFail k pll => Sys2Proof.Machine.execWakeAttemptFail k pll s
  | .wakeRetryStart k => Sys2Proof.Machine.execWakeRetryStart k s
  | .wakeRetry k => Sys2Proof.Machine.execWakeRetry k s
  | .pwrClearStats k => Sys2Proof.Machine.execPwrClearStats k s
  | .regulatorSettled t => Sys2Proof.Machine.execRegulatorSettled t s
  | .thmRead x => Sys2Proof.Machine.execThmRead x s
  | .thmReadAll => Sys2Proof.Machine.execThmReadAll s
  | .readingDone x raw => Sys2Proof.Machine.execReadingDone x raw s
  | .readingTimeout x => Sys2Proof.Machine.execReadingTimeout x s
  | .reinstate x => Sys2Proof.Machine.execReinstate x s
  | .thmClearStats => Sys2Proof.Machine.execThmClearStats s
  | .thermalTrip x => Sys2Proof.Machine.execThermalTrip x s
  | .thermalRestart => Sys2Proof.Machine.execThermalRestart s
  | .thermalRestartCmd clear => Sys2Proof.Machine.execThermalRestartCmd clear s
  | .coldPowerUp present straps => Sys2Proof.Machine.execColdPowerUp present straps s
  | .sysRstFall => Sys2Proof.Machine.execSysRstFall s
  | .warmResetCmd req => Sys2Proof.Machine.execWarmResetCmd req s
  | .mainPgFall => Sys2Proof.Machine.execMainPgFall s
  | .mainPgRise => Sys2Proof.Machine.execMainPgRise s
  | .perst => Sys2Proof.Machine.execPerst s
  | .endpointReady => Sys2Proof.Machine.execEndpointReady s
  | .firmwareStart a b areas => Sys2Proof.Machine.execFirmwareStart a b areas s
  | .restoredPlanAccept x => Sys2Proof.Machine.execRestoredPlanAccept x s
  | .cardDown => Sys2Proof.Machine.execCardDown s
  | .snapshotSave => Sys2Proof.Machine.execSnapshotSave s
  | .snapshotSaveDone => Sys2Proof.Machine.execSnapshotSaveDone s
  | .lsInserted e => Sys2Proof.Machine.execLsInserted e s
  | .lsRemoved e => Sys2Proof.Machine.execLsRemoved e s
  | .lsSettled e => Sys2Proof.Machine.execLsSettled e s
  | .lsPoll e m => Sys2Proof.Machine.execLsPoll e m s
  | .lsInitTimeout e => Sys2Proof.Machine.execLsInitTimeout e s
  | .lsRetry e => Sys2Proof.Machine.execLsRetry e s
  | .lsInt e low => Sys2Proof.Machine.execLsInt e low s
  | .twTransferCmd e addr len write page bank => Sys2Proof.Machine.execTwTransferCmd e addr len write page bank s
  | .twTransferDone e result data => Sys2Proof.Machine.execTwTransferDone e result data s
  | .twStretchTimeout e => Sys2Proof.Machine.execTwStretchTimeout e s
  | .smbSetAddress target a pecOk => Sys2Proof.Machine.execSmbSetAddress target a pecOk s
  | .smbRead target => Sys2Proof.Machine.execSmbRead target s
  | .smbWrite target v pecOk => Sys2Proof.Machine.execSmbWrite target v pecOk s
  | .smbReadIncrement target => Sys2Proof.Machine.execSmbReadIncrement target s
  | .lowWordRead who reqId a => Sys2Proof.Machine.execLowWordRead who reqId a s
  | .highWordRead who reqId a => Sys2Proof.Machine.execHighWordRead who reqId a s
  | .wideRead reqId a => Sys2Proof.Machine.execWideRead reqId a s
  | .lowWordWrite who reqId a v => Sys2Proof.Machine.execLowWordWrite who reqId a v s
  | .highWordWrite who reqId a v => Sys2Proof.Machine.execHighWordWrite who reqId a v s
  | .wideWrite reqId a v => Sys2Proof.Machine.execWideWrite reqId a v s
  | .registerWrite who reqId a bytes hw => Sys2Proof.Machine.execRegisterWrite who reqId a bytes hw s
  | .vauxLoss => Sys2Proof.Machine.execVauxLoss s
  | .vbiasRecovered => Sys2Proof.Machine.execVbiasRecovered s
  | .sysRstRise => Sys2Proof.Machine.execSysRstRise s
  | .perstRise => Sys2Proof.Machine.execPerstRise s
  | .l1Exit => Sys2Proof.Machine.execL1Exit s
  | .coreWaitHalt x => Sys2Proof.Machine.execCoreWaitHalt x s
  | .registerRead who reqId a n => Sys2Proof.Machine.execRegisterRead who reqId a n s
  | .knockBurstsEnd n => Sys2Proof.Machine.execKnockBurstsEnd n s

end Sys2Proof.Machine
end

