-- ==== Sys2Proof/WellFormed.lean ====
section
/-! DEFINITION. What the outside can put into a command (log entry 56): list lengths and addresses that an operand of its
type may exceed, and that nothing outside the block would send. -/

namespace Sys2Proof

/-- A list has `lo` to `hi` entries. -/
def lenIn {α : Type} (lo hi : Nat) (l : List α) : Bool := decide (lo ≤ l.length ∧ l.length ≤ hi)

/-- What one receive lane delivers over a tick: four grades, 48 taps, 64 corrector entries and 4 levels at most, and no more
segments lost than ended (R97, R104, R124). -/
def RxTick.wf (r : RxTick) : Bool :=
  lenIn 0 4 r.grades && lenIn 0 48 r.taps && lenIn 0 64 r.nlc && lenIn 0 4 r.levels && lenIn 0 4 r.chkOne && lenIn 0 4 r.chkTwo &&
    decide (r.lossSegs ≤ r.segs)

/-- What comes with a tick: 64 line lanes, 128 host lanes (R3, R6). -/
def TickIn.wf (i : TickIn) : Bool :=
  lenIn 0 64 i.rx && lenIn 0 64 i.clips && lenIn 0 128 i.host && i.rx.all RxTick.wf

/-- What a tap delivers for a block: at most 4,064 bytes of samples (R306). -/
def BlockIn.wf (b : BlockIn) : Bool := lenIn 0 4064 b.data

/-- A command that the outside can send. -/
def Instr.wf : Instr → Bool
  | .collectionTick i => i.wf
  | .tickPeriodChange i => i.wf
  | .postingRequest _ _ => true
  | .timeSetArm => true
  | .timeSetLoad i => i.wf
  | .clerkRestart _ _ => true
  | .postmasterRestart _ => true
  | .ringSyncDrive => true
  | .ringMsgSend => true
  | .ringSyncReceived _ => true
  | .ringTimeMessage _ => true
  | .ringHoldover => true
  | .ringConflict => true
  | .planCheck => true
  | .planLoad => true
  | .planLoadSlot _ => true
  | .planProgram _ => true
  | .planMarkCurrent _ => true
  | .planErase _ => true
  | .planValidationDone => true
  | .planAccept i => i.wf
  | .flashActionDone => true
  | .xtrigSampleDone _ _ => true
  | .planBufferWrite _ _ _ bytes => lenIn 1 4096 bytes
  | .signalDetectAssert _ _ => true
  | .signalDetectDeassert _ _ => true
  | .cycleSlip _ => true
  | .acqFail _ => true
  | .reacquire _ => true
  | .lrxClearStats _ => true
  | .holdReadback _ => true
  | .releaseReadback _ => true
  | .shadowRequest _ _ => true
  | .shadowStart _ => true
  | .shadowPointDone _ _ => true
  | .checkerCtrlWrite _ _ _ => true
  | .checkerLock _ levels => lenIn 0 65536 levels
  | .checkerUnlock _ errors => lenIn 0 65536 errors
  | .ltxClearStats _ => true
  | .sourceSwitch _ => true
  | .squelchImmediate _ => true
  | .rampStart _ => true
  | .rampDone _ => true
  | .patternRestart _ => true
  | .loopClockSwitch _ => true
  | .loopRecentre _ => true
  | .txPllLock _ => true
  | .transmitFrame _ courier => lenIn 0 8 courier && courier.all (lenIn 0 21760)
  | .anchorFound _ words _ => lenIn 0 8 words
  | .spreadFrameReceived _ letters _ => lenIn 0 8 letters && letters.all (lenIn 0 21760)
  | .groupLockLost _ => true
  | .rejoinLimit _ => true
  | .spreadRelock _ _ => true
  | .sprClearStats _ => true
  | .streamLock _ _ => true
  | .streamLost _ => true
  | .rsCodewordDecode _ => true
  | .grantComputed _ => true
  | .poolClearStats _ => true
  | .hostSignalDetect _ => true
  | .hostSignalLost _ => true
  | .trainingRequest _ _ _ _ _ _ => true
  | .trainingComplete _ _ => true
  | .trainingTimeout _ => true
  | .retrain _ => true
  | .hostLClearStats _ => true
  | .hostPClearStats _ => true
  | .hostRelock _ => true
  | .amLockGained _ _ _ _ => true
  | .amLockLost _ _ _ => true
  | .hostCodewordReceived _ word => lenIn 0 544 word
  | .hostTxSourceSwitch _ => true
  | .nearLoopRecentre _ => true
  | .captureOutReady _ => true
  | .captureOutPowerDown _ => true
  | .captureOutFrame _ => true
  | .blockPartnerTimeout _ => true
  | .courierSubmit _ _ _ _ _ _ => true
  | .quarantineExpire _ _ => true
  | .quarantineAllEnd _ => true
  | .copyStart _ => true
  | .copyDone _ => true
  | .lifetimeExpire _ _ => true
  | .preambleDetect _ m1 m2 _ p0 p1 => decide (m1.toNat ≤ 256 ∧ m2.toNat ≤ 256) && lenIn 0 96 p0 && lenIn 0 96 p1
  | .headerReceived _ rx => lenIn 0 2 rx && rx.all (lenIn 0 96)
  | .payloadReceived _ rx => lenIn 0 16416 rx && rx.all (lenIn 0 96)
  | .courierRxRelease _ _ => true
  | .dlqPop => true
  | .knock _ _ => true
  | .knockStart _ => true
  | .knockDropped _ => true
  | .knockWake _ _ _ => true
  | .knockSeen _ _ _ => true
  | .courClearStats _ => true
  | .captureArm _ => true
  | .captureStop _ b => b.wf
  | .captureAbort _ => true
  | .capClearStats _ => true
  | .blockWrite _ b => b.wf
  | .blockDrain _ _ => true
  | .triggerAccept _ => true
  | .softwareTrigger _ _ => true
  | .trigInEdge _ _ _ _ => true
  | .xtrigEdge _ _ _ => true
  | .autoTrigger _ => true
  | .sampleLoss _ _ _ _ => true
  | .biasTargetWrite _ _ => true
  | .biasUpdateTrigger _ => true
  | .deglitchRelease _ => true
  | .sineStop _ => true
  | .forcedZeroEnd _ => true
  | .biasOverload _ => true
  | .vbiasLow => true
  | .compliance _ _ => true
  | .biasRelease _ => true
  | .biasClearStats _ => true
  | .hkStartCmd _ => true
  | .hkStartPin _ _ => true
  | .hkSync _ => true
  | .hkClearStats _ => true
  | .converterStartupDone _ => true
  | .conversionDone _ _ => true
  | .converterPowerDown _ => true
  | .calRun _ => true
  | .calRunClass _ => true
  | .calPeriodicDue _ => true
  | .calRunComplete _ r => lenIn 0 256 r
  | .nvmStore _ => true
  | .nvmStoreDone => true
  | .nvmStoreRetry => true
  | .ledgerPeriodEnd => true
  | .ledgerRecordWrite => true
  | .farReportWrite _ _ _ _ => true
  | .ledgerRebase _ => true
  | .memTrainingDone _ => true
  | .memTrainingRetry _ => true
  | .driftTracking _ _ _ => true
  | .memRetrain _ => true
  | .memRetrainDone _ _ => true
  | .memReinit => true
  | .memClearStats => true
  | .memTempRead _ _ => true
  | .memRequestIssue _ _ _ => true
  | .vddqLoss => true
  | .bar2BaseWrite _ => true
  | .bar2Access _ write len bytes _ => if write then decide (bytes.length = len.toNat) && lenIn 1 4096 bytes else decide (bytes = [] ∧ 0 < len.toNat ∧ len.toNat ≤ 4096)
  | .claim _ _ => true
  | .complete _ _ _ => true
  | .pendingWrite _ _ _ => true
  | .maskWrite _ _ => true
  | .targetIdleWrite _ _ => true
  | .phClearStats => true
  | .moderationTimeout _ => true
  | .bar0StallTimeout _ => true
  | .violPop => true
  | .queueEnable _ _ => true
  | .queueDisable _ => true
  | .queueReset _ => true
  | .dmaQClearStats _ => true
  | .tailWrite _ _ => true
  | .descriptorFetch _ _ => true
  | .descriptorComplete _ _ => true
  | .readCompletion _ _ _ _ data => lenIn 0 4096 data
  | .completionTimeout _ _ => true
  | .pcieHotReset _ => true
  | .flr => true
  | .linkUp _ _ => true
  | .d3hotEntry _ => true
  | .d0Return => true
  | .bmeChange _ => true
  | .vectorUnmask _ => true
  | .l1Entry => true
  | .entryComplete _ _ => true
  | .horizonWrite _ _ => true
  | .horizonExpire _ => true
  | .timerWake _ => true
  | .sdWake _ => true
  | .wakeComplete _ => true
  | .wakeAttemptFail _ _ => true
  | .wakeRetryStart _ => true
  | .wakeRetry _ => true
  | .pwrClearStats _ => true
  | .regulatorSettled _ => true
  | .thmRead _ => true
  | .thmReadAll => true
  | .readingDone _ _ => true
  | .readingTimeout _ => true
  | .reinstate _ => true
  | .thmClearStats => true
  | .thermalTrip _ => true
  | .thermalRestart => true
  | .thermalRestartCmd _ => true
  | .coldPowerUp _ _ => true
  | .sysRstFall => true
  | .warmResetCmd _ => true
  | .mainPgFall => true
  | .mainPgRise => true
  | .perst => true
  | .endpointReady => true
  | .firmwareStart _ _ _ => true
  | .restoredPlanAccept i => i.wf
  | .cardDown => true
  | .snapshotSave => true
  | .snapshotSaveDone => true
  | .lsInserted _ => true
  | .lsRemoved _ => true
  | .lsSettled _ => true
  | .lsPoll _ _ => true
  | .lsInitTimeout _ => true
  | .lsRetry _ => true
  | .lsInt _ _ => true
  | .twTransferCmd _ _ _ _ _ _ => true
  | .twTransferDone _ _ data => lenIn 0 128 data
  | .twStretchTimeout _ => true
  | .smbSetAddress _ _ _ => true
  | .smbRead _ => true
  | .smbWrite _ _ _ => true
  | .smbReadIncrement _ => true
  | .lowWordRead _ _ a => decide (a.toNat % 8 = 0)
  | .highWordRead _ _ a => decide (a.toNat % 8 = 4)
  | .wideRead _ a => decide (a.toNat % 8 = 0)
  | .lowWordWrite _ _ a _ => decide (a.toNat % 8 = 0)
  | .highWordWrite _ _ a _ => decide (a.toNat % 8 = 4)
  | .wideWrite _ a _ => decide (a.toNat % 8 = 0)
  | .registerWrite _ _ _ bytes _ => lenIn 1 4096 bytes
  | .vauxLoss => true
  | .vbiasRecovered => true
  | .sysRstRise => true
  | .perstRise => true
  | .l1Exit => true
  | .coreWaitHalt _ => true
  | .registerRead _ _ _ n => decide (0 < n.toNat ∧ n.toNat ≤ 4096)
  | .knockBurstsEnd _ => true

end Sys2Proof
end

