-- ==== Sys2Proof/Safety.lean ====
section
/-! DEFINITION. What statements say of a state and of a command: the canonical form of the stores and memories, frames, and
that a command completes. -/

namespace Sys2Proof.Machine

open Sys2Proof

/-- Every store and every byte memory of the device is in its canonical form, and the sets of pending sources and of PBA bits
are listed rising. -/
def Dev.Canonical (d : Dev) : Prop :=
  d.reg.wf = true ∧ d.live.wf = true ∧ d.cmem.wf = true ∧ d.gddr.wf = true ∧ d.nvm.wf = true ∧ d.flash.wf = true ∧
    d.planBuf.wf = true ∧ d.pending.Pairwise (· < ·) ∧ d.pba.Pairwise (· < ·)

/-- The register fields that a message, or the wake of a clerk's domain, may change: the state of the target, the endpoint's
PME status and L1, and the state of a power domain that starts to wake (R451, R454, R463, R481 to R483, R518). -/
def settleFields : List F := [.PH_T_COUNTS_MESSAGES, .PH_T_STATUS_HELD, .X_PH_HELD_COUNT,
  .X_PH_HOLD_END, .X_PH_ELIG, .X_PH_SEL, .X_PH_SEL_CLK, .X_PH_SEL_LATE, .X_PH_CORE_HALT, .X_PCIE_PME_STATUS,
  .DMA_LINK_STATUS_L1, .X_PWR_FROM, .X_PWR_BEGAN, .PWR_D_LAST_WAKE_SRC, .PWR_D_STATUS_ATTEMPT, .X_PWR_HELD_OFF,
  .PWR_D_STATUS_STATE, .X_PWR_WANT, .X_PWR_ASKED]

/-- The register fields that raising a source may change: its occurrence counter and line, and what a message may change
(R446). -/
def signalFields : List F := [.PH_SRC_OCCUR, .PH_SRC_LINE] ++ settleFields

/-- `e` is `d` but for the register fields that `p` picks: every other register field, every live value, the time, the
queues, the logs and every byte of every memory are those of `d`. What the command sends out is not compared. -/
def Dev.Only (p : F → Nat → Prop) (d e : Dev) : Prop :=
  e = { d with reg := e.reg, out := e.out } ∧ ∀ f i, ¬ p f i → e.get f i = d.get f i

/-- As `Only`, but sources may be raised as well: the signal fields, the pending sources and the PBA may change. -/
def Dev.OnlyRaising (p : F → Nat → Prop) (d e : Dev) : Prop :=
  e = { d with reg := e.reg, pending := e.pending, pba := e.pba, out := e.out } ∧
    ∀ f i, ¬ p f i → f ∉ signalFields → e.get f i = d.get f i

/-- As `Only`, with the fields of a list in one instance. -/
def Dev.OnlyAt (fs : List F) (i : Nat) (d e : Dev) : Prop := Dev.Only (fun f j => j = i ∧ f ∈ fs) d e

/-- As `OnlyRaising`, with the fields of a list in one instance. -/
def Dev.OnlyRaisingAt (fs : List F) (i : Nat) (d e : Dev) : Prop := Dev.OnlyRaising (fun f j => j = i ∧ f ∈ fs) d e

/-- R446: source `src` has been raised once, and no other: it pends and its occurrence counter has moved by one. -/
def Dev.Raised (src : Nat) (d e : Dev) : Prop :=
  e.pending = insertNat d.pending src ∧
    e.get .PH_SRC_OCCUR src = (d.get .PH_SRC_OCCUR src + 1) % 2 ^ F.PH_SRC_OCCUR.width

/-- The device as a command finds it: what an earlier command sent out is gone. -/
def State.found (s : State) : Dev := { s.dev with out := [] }

/-- The command `i` at state `s` completes: exec answers a next state, the commands that wait are those of `s`, and the
device of the next state meets `P`. -/
def Completes (i : Instr) (s : State) (P : Dev → Prop) : Prop :=
  ∃ t, exec i s = .next t ∧ t.pending = s.pending ∧ P t.dev

/-- The access `x` of `who` is served as it arrives: the block has power, the function answers, nothing waits ahead of it in
the BAR0 stream, its size and alignment are accepted, its address is mapped and the domain of the address serves it. -/
def Dev.Serves (d : Dev) (who : Requester) (x : Access) : Prop :=
  d.get .X_SYS_AUX 0 = 1 ∧ d.notUp who x = none ∧ (∀ h ∈ d.held, h.isBar2 = true) ∧ accSized x = true ∧
    mapped (accAddr x) = true ∧ ∀ k, domainAt (accAddr x) = some k → d.gate k = 0

/-- Address `a` is that of register `r`: instance `j` in block `i`, and with `high` its high word. -/
def RegisterAt (a : Nat) (r : Reg) (i j : Nat) (high : Bool) : Prop :=
  inBytes a = false ∧ inNvm a = false ∧ inPba a = false ∧ regAt a = some (r, i, j, high)

/-- What a field of an access type holds after `n` has been written over `old` in a cycle in which the hardware sets the event
bits `hw` (R13). -/
def Acc.after (acc : Acc) (old n hw : Nat) : Nat :=
  match acc with
  | .rw | .rwk | .rws => n
  | .w1c => (old - (old &&& n)) ||| hw
  | _ => old

/-- R13: the fields of a register have taken the value `v`, each by its access type, with the event bits `hw` set in the same
cycle, and no other field has changed. -/
def Dev.FieldsWritten (r : Reg) (i j v hw : Nat) (d e : Dev) : Prop :=
  (∀ x ∈ r.row.fields, Store.get e.reg (fieldKey r x i j) =
    x.f.acc.after (Store.get d.reg (fieldKey r x i j)) (v / 2 ^ x.lsb % 2 ^ x.f.width) (hw / 2 ^ x.lsb % 2 ^ x.f.width)) ∧
  Dev.Only (fun f k => ∃ x ∈ r.row.fields, fieldKey r x i j = ⟨f, k⟩) d e

/-- Registers whose write does no more than R13 says, from most of the blocks. -/
def plainRegs : List Reg := [.LRX_CTRL, .LRX_TR, .LTX_CTRL, .LTX_DRV, .SPR_CTRL, .POOL_CTRL, .HOST_L_CTRL, .COUR_L_CTRL,
  .CAP_T_CTRL, .CAP_T_SEG, .HK_CTRL, .LRX_EVENTS, .LTX_EVENTS, .SPR_G_EVENTS]

end Sys2Proof.Machine
end

