-- ==== Sys2Proof/Certificates/Slice0/Obligations.lean ====
section
/-! DEFINITION. What the model claims of the block, for the provers: one proposition for each claim, by family of commands.
A clause `Completes c s P` says that the command answers a next state whose device meets P. -/

open Sys2Proof Sys2Proof.Machine

/-! ## The queue of commands and reset -/

/-- A step takes the command at the front of the queue and runs it with the queue's rest. Log entry 30 (the model's choice):
with no command waiting the block idles. No command of the block faults or is refused: every command at every state
completes, and leaves the commands that wait. The device of the next state is what the statement of the command's family
says. -/
def Obligations.StepRunsFront : Prop :=
  (∀ (c : Instr) (cs : List Instr) (s : State), s.pending = c :: cs → step s = exec c { s with pending := cs }) ∧
  (∀ s : State, s.pending = [] → step s = .next s) ∧
  (∀ (c : Instr) (s : State), Completes c s fun _ => True)

/-- At reset every store and memory is in canonical form and no command waits. R43, R48, R78, R336, R454: what cold reset
leaves. POST_TIME is 0 and k is 2; no plan is live; every tap is IDLE; nothing pends, nothing is in service and no posting
waits. Where the rules leave a point open it states the model's choice (log entry 7). -/
def Obligations.ResetCanonical : Prop :=
  (State.reset.dev.Canonical ∧ State.reset.pending = []) ∧
  (State.reset.dev.get .TIME_NOW_NOW 0 = 0 ∧ State.reset.dev.get .TIME_TICK_CFG_PERIOD_K 0 = 2 ∧
   State.reset.dev.get .TIME_TICK_COUNT_COUNT 0 = 0 ∧ State.reset.dev.get .PLAN_STATUS_STATE 0 = 0 ∧
   (∀ t, State.reset.dev.tapState t = ctIDLE) ∧ State.reset.dev.pending = [] ∧ State.reset.dev.service = [] ∧
   State.reset.dev.posts = [])

/-- Every step keeps the canonical form of every store and memory. -/
def Obligations.StepKeepsCanonical : Prop :=
  ∀ s t : State, s.dev.Canonical → step s = .next t → t.dev.Canonical

/-! ## Time base -/

/-- R47: POST_TIME holds 64 bits. From any of the five phases, five REFCLK cycles advance it by exactly 32,768 units, three of
the five by 6,554 and the other two by 6,553. Without a slew one REFCLK cycle advances it by the units of its phase, modulo
2^64, moves the phase on and changes nothing else, TIME_TICK_COUNT with it. No tick boundary that no step placed lies past
2^64, so where POST_TIME wraps a boundary falls. -/
def Obligations.FiveCyclesAdvance : Prop :=
  F.TIME_NOW_NOW.width = 64 ∧ (∀ p < 5, cycleSpan p 5 = 32768) ∧
  ((List.range 5).filter fun p => decide (Config.cycleUnits p = 6554)).length = 3 ∧
  ((List.range 5).filter fun p => decide (Config.cycleUnits p = 6553)).length = 2 ∧
  (∀ d : Dev, d.get .X_SLEW 0 = 0 →
    d.cycle.now = (d.now + Config.cycleUnits (d.get .X_TIME_PHASE 0)) % 2 ^ 64 ∧
    d.cycle.get .X_TIME_PHASE 0 = (d.get .X_TIME_PHASE 0 + 1) % 5 ∧
    Dev.OnlyAt [.TIME_NOW_NOW, .X_TIME_PHASE] 0 { d with clk := d.cycle.clk } d.cycle) ∧
  ∀ d : Dev, d.get .X_TICK_DUE 0 = 0 → d.get .TIME_TICK_CFG_PERIOD_K 0 ≤ 7 → d.now < 2 ^ 64 →
    d.now < d.tickDue ∧ d.tickDue ≤ 2 ^ 64 ∧ 2 ^ 64 % d.period = 0

/-- R42, R45, R46: COLLECTION_TICK with VAUX present. The tick counter goes up by one at the boundary; with the hub off only the
ring port's count of pulses follows, and else the work of the tick in the order of its categories. R42: without a slew and
short of the wrap, running to the tick ends at the first REFCLK cycle at or past the tick's boundary; elapsed time and
POST_TIME move together, and nothing but POST_TIME and its phase changes. R44, R49: the ticks at which a new exponent and an
armed POST_TIME take effect. TICK_PERIOD_CHANGE makes the exponent live and TIME_SET_LOAD loads bits 63:28 of POST_TIME,
while bits 27:0 keep counting; then the tick's work follows. R46: an overrun counts once, sets the event bit of every
category that overran, shows them as carried and raises source 4; a tick without one shows nothing carried and changes
nothing else. Where the rules leave a point open it states the model's choice (log entries 53, 54 and 61). -/
def Obligations.CollectionTickRuns : Prop :=
  (∀ (i : TickIn) (s : State), s.dev.get .X_SYS_AUX 0 = 1 →
     Completes (.collectionTick i) s fun e => ∃ d1 : Dev, d1 = s.found.runToTick.tickStart ∧
       d1.get .TIME_TICK_COUNT_COUNT 0 = (s.dev.get .TIME_TICK_COUNT_COUNT 0 + 1) % 2 ^ F.TIME_TICK_COUNT_COUNT.width ∧
       d1.get .X_SYS_OFF 0 = s.dev.get .X_SYS_OFF 0 ∧
       (s.dev.get .X_SYS_OFF 0 = 1 → e = d1.ringTick) ∧
       (s.dev.get .X_SYS_OFF 0 ≠ 1 → ∃ late, late = (d1.tickOpen i).tickLate i ∧
         (∀ c < 8, bitAt late c = (d1.tickOpen i).overruns i c) ∧
         ∃ d0, d0 = (d1.tickOpen i).overrun late ∧ d0.get .TIME_OVR_EVENTS_CARRY 0 = late ∧
         e = Dev.tickRest i d0 (d0.tickPosts i))) ∧
  (∀ d : Dev, d.get .X_SLEW 0 = 0 → d.get .X_TIME_PHASE 0 < 5 → d.now ≤ d.tickDue → d.tickDue < 2 ^ 64 - 2 ^ 16 →
     d.tickDue ≤ d.runToTick.now ∧ d.runToTick.now < d.tickDue + 6554 ∧
     d.runToTick.now - d.now = d.runToTick.clk - d.clk ∧ d.clk ≤ d.runToTick.clk ∧
     Dev.OnlyAt [.TIME_NOW_NOW, .X_TIME_PHASE] 0 { d with clk := d.runToTick.clk } d.runToTick) ∧
  (∀ (i : TickIn) (s : State), s.dev.get .X_SYS_AUX 0 = 1 →
     (s.found.runToTick.periodDue = true → Completes (.tickPeriodChange i) s fun e => ∃ d1 : Dev,
       d1 = s.found.runToTick.tickStart ∧ d1.get .TIME_TICK_CFG_PERIOD_K 0 = s.dev.get .X_K_NEXT 0 - 1 ∧
       d1.get .X_K_NEXT 0 = 0 ∧ e = d1.tickServe i) ∧
     (s.found.runToTick.loadDue = true → Completes (.timeSetLoad i) s fun e => ∃ d1 : Dev,
       d1 = s.found.runToTick.tickStart ∧ d1.get .TIME_SET_CTRL_ARMED 0 = 0 ∧ e = d1.tickServe i ∧
       ∃ past, s.found.runToTick.past28 (s.dev.get .X_SET_FROM 0) = some past ∧
         d1.now = (s.dev.get .TIME_SET_VALUE 0 / 2 ^ 28 * 2 ^ 28 + past) % 2 ^ 64)) ∧
  (∀ (d : Dev) (late : Nat),
     (late ≠ 0 → (d.overrun late).get .TIME_OVR_EVENTS_CARRY 0 = late ∧
       (d.overrun late).get .TIME_OVR_EVENTS_EVENT 0 = d.get .TIME_OVR_EVENTS_EVENT 0 ||| late ∧
       (d.overrun late).get .TIME_OVR_COUNT_COUNT 0 = satAdd F.TIME_OVR_COUNT_COUNT.width (d.get .TIME_OVR_COUNT_COUNT 0) 1 ∧
       Dev.Raised 4 d (d.overrun late) ∧
       Dev.OnlyRaisingAt [.TIME_OVR_EVENTS_CARRY, .TIME_OVR_EVENTS_EVENT, .TIME_OVR_COUNT_COUNT] 0 d (d.overrun late)) ∧
     (late = 0 → d.overrun late = d.set .TIME_OVR_EVENTS_CARRY 0 0))

/-- R49: TIME_SET_CTRL.ARM arms the load of a value that is a multiple of 2^28 on a device that is no ring member, and refuses
any other. R28, R29, R467: a restart of a clerk or a postmaster empties its target's stack and drops its held message. The
restart of a clerk follows four missing heartbeats; it is recorded, counted and raised as source 0 of the tile. Where the
rules leave a point open it states the model's choice (log entry 61). -/
def Obligations.TimeSetArmChecks : Prop :=
  (∀ s : State,
     (s.dev.role ≠ 2 ∧ s.dev.get .TIME_SET_VALUE 0 % 2 ^ 28 = 0 → Completes .timeSetArm s fun e =>
       e.get .TIME_SET_CTRL_REFUSED 0 = 0 ∧ e.get .TIME_SET_CTRL_ARMED 0 = 1 ∧ e.get .X_SET_FROM 0 = s.dev.now ∧
       Dev.OnlyAt [.TIME_SET_CTRL_REFUSED, .TIME_SET_CTRL_ARMED, .X_SET_FROM] 0 s.dev e) ∧
     (s.dev.role = 2 ∨ s.dev.get .TIME_SET_VALUE 0 % 2 ^ 28 ≠ 0 → Completes .timeSetArm s fun e =>
       e.get .TIME_SET_CTRL_REFUSED 0 = 1 ∧ Dev.OnlyAt [.TIME_SET_CTRL_REFUSED] 0 s.dev e)) ∧
  (∀ s : State,
     (∀ (t : Fin 4) (k : Fin 2), 4 ≤ s.dev.get .X_CLERK_SILENT (2 * t.val + k.val) →
       Completes (.clerkRestart t k) s fun e => ∃ c, c = 2 * t.val + k.val ∧
         e.get .X_CLERK_SILENT c = 0 ∧ e.get .TIME_CLERK_STATUS_RESTARTED 0 = s.dev.get .TIME_CLERK_STATUS_RESTARTED 0 ||| 2 ^ c ∧
         e.get .TIME_CLERK_STATUS_COUNT 0 = satAdd F.TIME_CLERK_STATUS_COUNT.width (s.dev.get .TIME_CLERK_STATUS_COUNT 0) 1 ∧
         640 + 16 * t.val ∈ e.pending ∧ e.stackOf (64 + c) = [] ∧ e.get .PH_T_STATUS_HELD (64 + c) = 0 ∧
         (∀ n ∈ lanesOf c, e.get .X_LG_PARTIAL n = 1) ∧ e.live = s.dev.live) ∧
     (∀ k : Fin 2, Completes (.postmasterRestart k) s fun e =>
       e.stackOf (72 + k.val) = [] ∧ e.get .PH_T_STATUS_HELD (72 + k.val) = 0 ∧
       (∀ v ∈ s.dev.service, v.target ≠ 72 + k.val → v ∈ e.service) ∧ e.live = s.dev.live))

/-- R36, R38: a posting request that nothing refuses takes the next sequence number and joins the end of the queue. R32, R36,
R38, R46: the postings accepted at least 2 µs before a tick go live at it together. Every staged field with no rule of its
own that one of them covers, and whose blocks are ON, takes its staged value as its live one, and one that none covers keeps
its live value; SEQ_DONE shows the latest of them. Under overrun they stay queued and CARRIED is set. Where the rules leave
a point open it states the model's choice (log entries 53 and 59). -/
def Obligations.PostingAccepted : Prop :=
  (∀ (scope : BitVec 3) (index : BitVec 6) (s : State), s.dev.posts.length < 32 → scope.toNat ≠ 7 →
     ¬ (scope.toNat = 1 ∧ 3 < index.toNat) → ¬ (scope.toNat = 2 ∧ 7 < index.toNat) →
     Completes (.postingRequest scope index) s fun e => ∃ seq, seq = (s.dev.get .TIME_POST_STATUS_SEQ_ACCEPTED 0 + 1) % 2 ^ 16 ∧
       e.posts = s.dev.posts ++ [⟨seq, scope.toNat, index.toNat, s.dev.clk⟩] ∧
       e.get .TIME_POST_STATUS_SEQ_ACCEPTED 0 = seq ∧ e.get .TIME_POST_ERR_QUEUED 0 = s.dev.posts.length + 1 ∧
       Dev.OnlyAt [.TIME_POST_STATUS_SEQ_ACCEPTED, .TIME_POST_ERR_QUEUED] 0 { s.dev with posts := e.posts } e) ∧
  (∀ (d : Dev) (last : Posting), d.postsDue.getLast? = some last →
     (d.postTick true).posts = d.posts.drop d.postsDue.length ∧ (d.postTick true).get .TIME_POST_STATUS_SEQ_DONE 0 = last.seq ∧
     (d.postTick true).get .TIME_POST_ERR_QUEUED 0 = (d.postTick true).posts.length ∧
     (∀ (f : F) (i : Nat), f.acc = .rws → f ∉ ownRule → d.keyReady ⟨f, i⟩ = true →
       ((∃ p ∈ d.postsDue, d.covers p ⟨f, i⟩ = true) → (d.postTick true).lget f i = d.get f i) ∧
       ((∀ p ∈ d.postsDue, d.covers p ⟨f, i⟩ = false) → (d.postTick true).lget f i = d.lget f i)) ∧
     (d.postTick false).get .TIME_POST_ERR_CARRIED 0 = 1 ∧ Dev.OnlyAt [.TIME_POST_ERR_CARRIED] 0 d (d.postTick false))

/-- R37: the hub queues up to 32 postings. A request that finds the queue full sets FULL and one with SCOPE 7 or an INDEX out of
range for its scope sets SCOPE, and it takes no sequence number and changes nothing else; a request that neither refuses
joins the queue. Where the rules leave a point open it states the model's choice (log entry 58). -/
def Obligations.PostingRefused : Prop :=
  ∀ (scope : BitVec 3) (index : BitVec 6) (s : State),
    let bad := scope.toNat = 7 ∨ (scope.toNat = 1 ∧ 3 < index.toNat) ∨ (scope.toNat = 2 ∧ 7 < index.toNat)
    (s.dev.posts.length ≤ 32 → Completes (.postingRequest scope index) s fun e => e.posts.length ≤ 32) ∧
    (s.dev.posts.length < 32 → ¬ bad → Completes (.postingRequest scope index) s fun e =>
      e.posts.length = s.dev.posts.length + 1) ∧
    (32 ≤ s.dev.posts.length → ¬ bad → Completes (.postingRequest scope index) s fun e =>
      e.get .TIME_POST_ERR_FULL 0 = 1 ∧ Dev.OnlyAt [.TIME_POST_ERR_FULL] 0 s.dev e) ∧
    (32 ≤ s.dev.posts.length → bad → Completes (.postingRequest scope index) s fun e => e.get .TIME_POST_ERR_FULL 0 = 1 ∧
      e.get .TIME_POST_ERR_SCOPE 0 = 1 ∧ Dev.OnlyAt [.TIME_POST_ERR_FULL, .TIME_POST_ERR_SCOPE] 0 s.dev e) ∧
    (s.dev.posts.length < 32 → bad → Completes (.postingRequest scope index) s fun e =>
      e.get .TIME_POST_ERR_SCOPE 0 = 1 ∧ Dev.OnlyAt [.TIME_POST_ERR_SCOPE] 0 s.dev e)

/-- R51, R589: a master drives one pulse at each multiple of 2^28, and sends the time of that pulse with its k and its position;
before 1.024 µs have passed the message waits. R52 to R54, R56, R589: with the hub on, a member measures the phase error of
every pulse; a small one is slewed out, a large one sends it back to ACQUIRE. A valid time message compares k, and after a
step and a small error it ends ACQUIRE; an invalid one changes nothing. R53, R55: a locked member that has missed four
pulses goes to HOLDOVER; a master that sees a pulse it did not drive shows the conflict and enters FREE. Both raise source 5
where the hub is on. Where the rules leave a point open it states the model's choice (log entries 51, 54 and 60). -/
def Obligations.RingMasterDrives : Prop :=
  (∀ s : State,
     (s.dev.role = 1 → s.dev.get .TIME_RING_STATUS_CONFLICT 0 ≠ 1 → s.dev.now % 2 ^ 28 < 6554 →
       s.dev.get .X_RING_PULSED 0 ≠ s.dev.now / 2 ^ 28 + 1 →
       Completes .ringSyncDrive s fun e => e.out = [.ringSync] ∧ e.get .X_RING_PULSED 0 = s.dev.now / 2 ^ 28 + 1 ∧
         e.get .X_RING_PULSE_CLK 0 = s.dev.clk ∧ e.get .X_RING_MSG_DUE 0 = 1 ∧
         Dev.OnlyAt [.X_RING_PULSED, .X_RING_PULSE_CLK, .X_RING_MSG_DUE] 0 s.dev e) ∧
     (s.dev.get .X_RING_MSG_DUE 0 = 1 → s.dev.get .X_RING_PULSE_CLK 0 + 1048576 ≤ s.dev.clk →
       Completes .ringMsgSend s fun e =>
         e.out = [.ringMsg (timeMessage ((s.dev.now + 2 ^ 64 - (s.dev.clk - s.dev.get .X_RING_PULSE_CLK 0)) % 2 ^ 64)
           (s.dev.get .TIME_TICK_CFG_PERIOD_K 0) (s.dev.get .TIME_TICK_CFG_POSITION 0))] ∧
         e.get .X_RING_MSG_DUE 0 = 0 ∧ Dev.OnlyAt [.X_RING_MSG_DUE] 0 s.dev e)) ∧
  (∀ s : State, s.dev.role = 2 → s.dev.ringState ≠ riFREE → s.dev.get .X_SYS_OFF 0 ≠ 1 →
     (∀ stamp : DWord, Completes (.ringSyncReceived stamp) s fun e => ∃ err,
       err = phaseError ((stamp.toNat + 2 ^ 64 - s.dev.get .TIME_RING_DELAY_DELAY 0) % 2 ^ 64) ∧
       e.get .TIME_RING_STATUS_PHASE_ERR 0 = ux 16 (clampI (-32767) 32767 err) ∧
       e.get .TIME_RING_STATUS_MISSED 0 = 0 ∧
       (s.dev.ringState = riLOCKED → err.natAbs ≤ 2048 → e.ringState = riLOCKED ∧ e.get .X_SLEW 0 = err.natAbs) ∧
       (s.dev.ringState = riLOCKED → 2048 < err.natAbs → e.ringState = riACQUIRE ∧ Dev.Raised 5 s.dev e) ∧
       (s.dev.ringState = riHOLDOVER → 2048 < err.natAbs → e.ringState = riACQUIRE ∧ Dev.Raised 5 s.dev e) ∧
       (s.dev.ringState = riACQUIRE → e.ringState = riACQUIRE ∧ e.pending = s.dev.pending)) ∧
     (∀ bytes : List Byte, s.dev.get .X_RING_MSG_OPEN 0 = 1 →
       (messageValid bytes = true → s.dev.ringState = riACQUIRE → s.dev.get .X_RING_STEPPED 0 = 1 →
         s.dev.get .X_RING_SMALL 0 = 1 → Completes (.ringTimeMessage bytes) s fun e =>
           e.ringState = riLOCKED ∧ 5 ∈ e.pending ∧ e.get .X_RING_MSG_OPEN 0 = 0 ∧
           e.get .TIME_RING_STATUS_PERIOD_MISMATCH 0 =
             b2n (ofLE ((bytes.drop 9).take 1) != s.dev.get .TIME_TICK_CFG_PERIOD_K 0)) ∧
       (messageValid bytes = false → Completes (.ringTimeMessage bytes) s fun e =>
         e.get .X_RING_MSG_OPEN 0 = 0 ∧ Dev.OnlyAt [.X_RING_MSG_OPEN] 0 s.dev e))) ∧
  (∀ s : State, s.dev.get .X_SYS_OFF 0 ≠ 1 →
     (s.dev.ringState = riLOCKED → 4 ≤ s.dev.get .TIME_RING_STATUS_MISSED 0 →
       Completes .ringHoldover s fun e => e.ringState = riHOLDOVER ∧ Dev.Raised 5 s.dev e ∧
         Dev.OnlyRaisingAt [.TIME_RING_STATUS_STATE] 0 s.dev e) ∧
     (s.dev.role = 1 → s.dev.get .TIME_RING_STATUS_CONFLICT 0 ≠ 1 →
       Completes .ringConflict s fun e => e.get .TIME_RING_STATUS_CONFLICT 0 = 1 ∧ e.ringState = riFREE ∧
         e.get .X_RING_MSG_DUE 0 = 0 ∧ Dev.Raised 5 s.dev e ∧
         Dev.OnlyRaisingAt [.TIME_RING_STATUS_CONFLICT, .X_RING_MSG_DUE, .TIME_RING_STATUS_STATE] 0 s.dev e))

/-! ## Sorting plans -/

/-- R72, R73: a plan action that nothing refuses is recorded and begins: CHECK, LOAD, LOAD_SLOT and PROGRAM with validation,
MARK_CURRENT and ERASE with the flash. R73, R75: while an action is in progress every action is refused, and so are PROGRAM
and ERASE of the current slot and MARK_CURRENT of a slot that is not valid. A refused action sets REFUSED and changes
nothing else. -/
def Obligations.PlanActionTaken : Prop :=
  (∀ s : State, s.dev.ps < psVALIDATING → s.dev.get .SYS_BOOT_STATUS_STAGE 0 ≠ 5 →
     let P := fun (act slot state : Nat) (e : Dev) => e.ps = state ∧ e.get .X_PLAN_ACT 0 = act ∧ e.get .X_PLAN_SLOT 0 = slot ∧
       e.get .PLAN_STATUS_LAST_ACTION 0 = act ∧ e.get .X_PLAN_PREV 0 = s.dev.ps ∧
       Dev.OnlyAt [.X_PLAN_PREV, .X_PLAN_ACT, .X_PLAN_SLOT, .PLAN_STATUS_LAST_ACTION, .PLAN_STATUS_STATE] 0 s.dev e
     Completes .planCheck s (P 1 0 psVALIDATING) ∧ Completes .planLoad s (P 2 0 psVALIDATING) ∧
     ∀ slot : Fin 4, Completes (.planLoadSlot slot) s (P 3 slot psVALIDATING) ∧
       (s.dev.dirCurrent ≠ some slot.val → Completes (.planProgram slot) s (P 4 slot psVALIDATING)) ∧
       (bitAt s.dev.dirValid slot = true → Completes (.planMarkCurrent slot) s (P 5 slot psFLASH)) ∧
       (s.dev.dirCurrent ≠ some slot.val → Completes (.planErase slot) s (P 6 slot psFLASH))) ∧
  (∀ (s : State) (slot : Fin 4),
     let P := fun e : Dev => e.get .PLAN_STATUS_REFUSED 0 = 1 ∧ Dev.OnlyAt [.PLAN_STATUS_REFUSED] 0 s.dev e
     (psVALIDATING ≤ s.dev.ps ∧ s.dev.ps ≤ psFLASH → Completes .planCheck s P ∧ Completes .planLoad s P ∧
       Completes (.planLoadSlot slot) s P ∧ Completes (.planProgram slot) s P ∧ Completes (.planMarkCurrent slot) s P ∧
       Completes (.planErase slot) s P) ∧
     (s.dev.dirCurrent = some slot.val → Completes (.planProgram slot) s P ∧ Completes (.planErase slot) s P) ∧
     (bitAt s.dev.dirValid slot = false → Completes (.planMarkCurrent slot) s P))

/-- R78, R80, R82: the end of validation. A refused image gives its code and offset and raises source 961; a CHECK raises 963; a
LOAD or LOAD_SLOT waits for its tick and a PROGRAM goes on to the flash. R74, R80: PROGRAM, MARK_CURRENT and ERASE end. The
slot holds the image of the plan buffer, or is erased; the directory in use is the copy that was not, with the slot valid,
current or not valid; source 963 is raised. R90: 1 µs of sampling an XTRIG line ends: the line is driven, or another member
holds it and the request is refused and logged under source 962. Where the rules leave a point open it states the model's
choice (log entries 63 and 64). -/
def Obligations.PlanValidationEnds : Prop :=
  (∀ s : State, s.dev.ps = psVALIDATING → s.dev.get .X_BOOT_SLOT 0 = 0 →
     (∀ off code, s.dev.planValidate = .error (off, code) → s.dev.get .X_PLAN_ACT 0 ≠ 15 →
       Completes .planValidationDone s fun e => e.ps = s.dev.get .X_PLAN_PREV 0 ∧ e.get .X_PLAN_ACT 0 = 0 ∧
         e.get .PLAN_STATUS_CODE 0 = code ∧ e.get .PLAN_ERR_OFFSET_OFFSET 0 = off ∧ Dev.Raised 961 s.dev e) ∧
     (∀ ss, s.dev.planValidate = .ok ss →
       (s.dev.get .X_PLAN_ACT 0 = 1 → Completes .planValidationDone s fun e => e.ps = s.dev.get .X_PLAN_PREV 0 ∧
         e.get .PLAN_STATUS_CODE 0 = 0 ∧ Dev.Raised 963 s.dev e) ∧
       (s.dev.get .X_PLAN_ACT 0 = 2 ∨ s.dev.get .X_PLAN_ACT 0 = 3 → Completes .planValidationDone s fun e =>
         e.ps = psWAITING ∧ e.get .X_PLAN_CLK 0 = s.dev.clk ∧ e.get .PLAN_STATUS_CODE 0 = 0 ∧ e.pending = s.dev.pending) ∧
       (s.dev.get .X_PLAN_ACT 0 = 4 → Completes .planValidationDone s fun e =>
         e.ps = psFLASH ∧ Dev.OnlyAt [.PLAN_STATUS_STATE] 0 s.dev e))) ∧
  (∀ s : State, s.dev.ps = psFLASH → s.dev.get .X_BOOT_SLOT 0 = 0 → (∀ c, s.dev.get .X_DIR_SEQ c < 2 ^ 32 - 1) → s.dev.get .X_PLAN_SLOT 0 < 4 →
     (s.dev.get .X_PLAN_ACT 0 = 4 → rd32 s.dev.planImage 8 ≤ 0x100000 → Completes .flashActionDone s fun e =>
       e.ps = s.dev.get .X_PLAN_PREV 0 ∧ 963 ∈ e.pending ∧ e.dirValid = setBit s.dev.dirValid (s.dev.get .X_PLAN_SLOT 0) ∧
       ∀ o, o < rd32 s.dev.planImage 8 → e.slotByte (s.dev.get .X_PLAN_SLOT 0) o = (s.dev.planBuf.read o).toNat) ∧
     (s.dev.get .X_PLAN_ACT 0 = 5 → Completes .flashActionDone s fun e =>
       e.ps = s.dev.get .X_PLAN_PREV 0 ∧ 963 ∈ e.pending ∧ e.dirCurrent = some (s.dev.get .X_PLAN_SLOT 0) ∧
       e.get .PLAN_LIVE_CURRENT 0 = s.dev.get .X_PLAN_SLOT 0 ∧ e.flash = s.dev.flash) ∧
     (s.dev.get .X_PLAN_ACT 0 = 6 → Completes .flashActionDone s fun e =>
       e.ps = s.dev.get .X_PLAN_PREV 0 ∧ 963 ∈ e.pending ∧ e.dirValid = clearBit s.dev.dirValid (s.dev.get .X_PLAN_SLOT 0) ∧
       ∀ o, o < 0x100000 → e.slotByte (s.dev.get .X_PLAN_SLOT 0) o = 255)) ∧
  (∀ (s : State) (j : Fin 2), s.dev.get .X_XTRIG_WAIT j = 1 → s.dev.get .X_XTRIG_WAIT_CLK j + us ≤ s.dev.clk →
     (Completes (.xtrigSampleDone j false) s fun e => e.get .CAP_XTRIG_OUT_DRIVING j = 1 ∧ e.get .X_XTRIG_WAIT j = 0 ∧
       Dev.OnlyAt [.CAP_XTRIG_OUT_DRIVING, .X_XTRIG_WAIT] j s.dev e) ∧
     (Completes (.xtrigSampleDone j true) s fun e => e.get .CAP_XTRIG_OUT_REFUSED j = 1 ∧ e.get .X_XTRIG_WAIT j = 0 ∧
       e.get .CAP_XTRIG_OUT_DRIVING j = s.dev.get .CAP_XTRIG_OUT_DRIVING j ∧ e.get .PLAN_RES_LOG_RESOURCE 0 = 10 ∧
       e.get .PLAN_RES_LOG_INDEX 0 = j ∧ e.get .PLAN_RES_LOG_HOLDER 0 = 8 ∧ e.get .PLAN_RES_TIME_TIME 0 = s.dev.now ∧
       Dev.Raised 962 s.dev e))

/-- R82, R84, R553: a plan that has waited for 2 µs goes live at the next tick, after the postings and before the other
categories: the state is LIVE, the acceptance time is that of the tick, and source 960 pends. Where the rules leave a point
open it states the model's choice (log entry 39). -/
def Obligations.PlanAcceptedAtTick : Prop :=
  ∀ (i : TickIn) (s : State), s.dev.get .X_SYS_AUX 0 = 1 → s.dev.get .X_SYS_OFF 0 ≠ 1 → s.dev.ps = psWAITING →
    s.dev.get .X_PLAN_CLK 0 + 2 * us ≤ s.dev.clk → i.over 0 0 = false → i.overNew 0 0 = false → (∀ k, s.dev.dom k ≠ pwROLLBACK) →
    let P := fun e : Dev => ∃ b : Dev, b = s.found.runToTick.tickStart.tickOpen i ∧
      ∃ d0, d0 = b.overrun (b.tickLate i) ∧ ∃ d1, d1 = d0.acceptOver (d0.postTick true) ∧ d1.ps = psLIVE ∧
      d1.get .X_PLAN_ON 0 = 1 ∧ d1.get .X_PLAN_ACT 0 = 0 ∧ d1.get .PLAN_ACCEPT_TIME_TIME 0 = d1.now ∧ 960 ∈ d1.pending ∧
      d1.get .SYS_BOOT_STATUS_STAGE 0 = 3 ∧ d1.get .SYS_BOOT_STATUS_DEV_READY 0 = 1 ∧
      e = Dev.tickRest i d0 (d0.tickPosts i) ∧
      d0.tickPosts i = Dev.each 8 Dev.engineTick (d1.setAll [.X_POST_CARRY, .X_PLAN_CARRY] 0 0)
    (s.dev.get .X_PLAN_ACT 0 ≠ 14 → Completes (.planAccept i) s P) ∧
    (s.dev.get .X_PLAN_ACT 0 = 14 → s.dev.memState ≠ meTRAINING → (∀ m < 4, s.dev.dom (domMem m) = pwON) →
      Completes (.restoredPlanAccept i) s P)

/-! ## Register accesses -/

/-- R17, R19: reads of a 64-bit register. The low word takes the high word into the read shadow, a read of the high word returns
the shadow, and an 8-byte read returns both. R20: writes of a 64-bit register. A write of the low word only fills the write
shadow; a write of the high word writes both, with the shadow as the low word; an 8-byte write writes both. A write of a
register that takes none is dropped. -/
def Obligations.WideRegisterReads : Prop :=
  (∀ (s : State) (who : Requester) (reqId : BitVec 16) (a : BitVec 27) (r : Reg) (i j : Nat), r.row.wide = true →
     (RegisterAt a.toNat r i j false → s.dev.Serves who (.read4 a) → Completes (.lowWordRead who reqId a) s fun e =>
       e.out = [.readData ((Dev.view r i j s.found).regValue r i j % 2 ^ 32)] ∧
       Store.get e.rshad (wideKey r i j) = (Dev.view r i j s.found).regValue r i j / 2 ^ 32) ∧
     (RegisterAt a.toNat r i j true → s.dev.Serves who (.read4 a) → Completes (.highWordRead who reqId a) s fun e =>
       e.out = [.readData (Store.get s.dev.rshad (wideKey r i j))] ∧ e.rshad = s.dev.rshad) ∧
     (RegisterAt a.toNat r i j false → s.dev.Serves .pcie (.read8 a) → Completes (.wideRead reqId a) s fun e =>
       e.out = [.readData ((Dev.view r i j s.found).regValue r i j)] ∧
       Store.get e.rshad (wideKey r i j) = (Dev.view r i j s.found).regValue r i j / 2 ^ 32)) ∧
  (∀ (s : State) (who : Requester) (reqId : BitVec 16) (a : BitVec 27) (v : Word) (w : DWord) (r : Reg) (i j : Nat),
     r.row.wide = true → s.dev.writeIgnored r i = false → r ≠ .DMA_Q_RING → r ≠ .DMA_Q_CPL →
     (RegisterAt a.toNat r i j false → s.dev.Serves who (.write4 a v) → r.wideWritable = true →
       Completes (.lowWordWrite who reqId a v) s fun e =>
         e = { s.found with wshad := Store.set s.dev.wshad (wideKey r i j) v.toNat }) ∧
     (RegisterAt a.toNat r i j true → s.dev.Serves who (.write4 a v) → r.wideWritable = true →
       Completes (.highWordWrite who reqId a v) s fun e =>
         Dev.FieldsWritten r i j (Store.get s.dev.wshad (wideKey r i j) + 2 ^ 32 * v.toNat) 0 s.dev e) ∧
     (RegisterAt a.toNat r i j false → s.dev.Serves .pcie (.write8 a w) → r.wideWritable = true →
       Completes (.wideWrite reqId a w) s fun e => Store.get e.wshad (wideKey r i j) = w.toNat % 2 ^ 32 ∧
         Dev.FieldsWritten r i j w.toNat 0 { s.dev with wshad := e.wshad } e) ∧
     (RegisterAt a.toNat r i j false → s.dev.Serves who (.write4 a v) → r.wideWritable = false →
       Completes (.lowWordWrite who reqId a v) s fun e => e = s.found))

/-- R13, R71, R476: a 4-byte read returns the register's value, a 4-byte write of a register without a rule of its own writes
its fields by their access types, where the event bits that the hardware sets in the same cycle stay set, and
PLAN_BUFFER_WRITE stores its bytes in the plan buffer. -/
def Obligations.Bar0Serves : Prop :=
  ∀ (s : State) (who : Requester) (reqId : BitVec 16) (a : BitVec 27),
    (∀ r i j, RegisterAt a.toNat r i j false → r.row.wide = false → r ≠ .PH_T_CLAIM → s.dev.Serves who (.read4 a) →
      Completes (.registerRead who reqId a 4) s fun e =>
        e.out = [.readData ((Dev.view r i j s.found).regValue r i j)]) ∧
    (∀ r i j (bytes : List Byte) (hw : DWord), r ∈ plainRegs → RegisterAt a.toNat r i j false → bytes.length = 4 →
      hw.toNat < 2 ^ 32 → s.dev.writeIgnored r i = false → s.dev.Serves who (.write4 a (BitVec.ofNat 32 (ofLE bytes))) →
      Completes (.registerWrite who reqId a bytes hw) s fun e =>
        Dev.FieldsWritten r i j (ofLE bytes % 2 ^ 32) hw.toNat s.dev e ∧ e.out = []) ∧
    (∀ (off : BitVec 20) (bytes : List Byte), s.dev.planBusy = false →
      s.dev.Serves who (.writeN (BitVec.ofNat 27 (0x800000 + off.toNat)) bytes) →
      Completes (.planBufferWrite who reqId off bytes) s fun e => e = { s.found with planBuf := e.planBuf } ∧
        ∀ o, e.planBuf.read o = if off.toNat ≤ o ∧ o < off.toNat + bytes.length ∧ o < 0x100000
          then bytes.getD (o - off.toNat) 0 else s.dev.planBuf.read o)

/-- R71, R299, R479, R480: a PCIe access to an address that is not mapped, or to a plan buffer that is locked, is a violation:
it is logged with its type and time, source 8 is raised, a read gets Completer Abort and a write is dropped. R423, R478,
R479: 40 µs after it arrived a held request ends as a violation of type 6. R480: VIOL_POP drops the oldest entry of the
violation log; the registers show the next, or 0. Where the rules leave a point open it states the model's choice (log
entries 29 and 34). -/
def Obligations.Bar0Violates : Prop :=
  (∀ (s : State) (reqId : BitVec 16) (a : BitVec 27), s.dev.get .X_SYS_AUX 0 = 1 → s.dev.pcieUp = true →
     s.dev.get .DMA_LINK_STATUS_DSTATE 0 ≠ 3 → (∀ h ∈ s.dev.held, h.isBar2 = true) → s.dev.viols.length < 16 →
     (a.toNat % 4 = 0 → mapped a.toNat = false → Completes (.registerRead .pcie reqId a 4) s fun e =>
       e.viols = s.dev.viols ++ [⟨a.toNat, 0, false, .pcie, reqId.toNat, 1, s.dev.now⟩] ∧
       Out.completerAbort ∈ e.out ∧ Dev.Raised 8 s.dev e) ∧
     (∀ bytes : List Byte, bytes.length = 4 → a.toNat % 4 = 0 → mapped a.toNat = false →
       Completes (.registerWrite .pcie reqId a bytes 0) s fun e =>
         e.viols = s.dev.viols ++ [⟨a.toNat, 0, true, .pcie, reqId.toNat, 1, s.dev.now⟩] ∧ Dev.Raised 8 s.dev e ∧
         ∀ r ∈ plainRegs, ∀ x ∈ r.row.fields, ∀ i, e.get x.f i = s.dev.get x.f i) ∧
     (∀ (off : BitVec 20) (bytes : List Byte), s.dev.planBusy = true → s.dev.dom 148 = pwON →
       Completes (.planBufferWrite .pcie reqId off bytes) s fun e => e.planBuf = s.dev.planBuf ∧
         e.viols = s.dev.viols ++ [⟨0x800000 + off.toNat, 0, true, .pcie, reqId.toNat, 3, s.dev.now⟩] ∧
         Dev.Raised 8 s.dev e)) ∧
  (∀ (s : State) (h : Held), s.dev.held = [h] → h.clk + 40 * us ≤ s.dev.clk → s.dev.viols.length < 16 → h.who = .pcie →
     (∀ x, h.kind = .bar0 x → Completes (.bar0StallTimeout false) s fun e => e.held = [] ∧
       e.viols = s.dev.viols ++ [⟨accAddr x, 0, accWrite x, .pcie, h.reqId, 6, h.time⟩] ∧ Dev.Raised 8 s.dev e ∧
       (accWrite x = false → Out.completerAbort ∈ e.out)) ∧
     (∀ off a w n bs, h.kind = .bar2 off a w n bs → Completes (.bar0StallTimeout true) s fun e => e.held = [] ∧
       e.viols = s.dev.viols ++ [⟨off, 1, w, .pcie, h.reqId, 6, h.time⟩] ∧ Dev.Raised 8 s.dev e ∧
       (w = false → Out.completerAbort ∈ e.out))) ∧
  (∀ s : State, Completes .violPop s fun e => e.viols = s.dev.viols.drop 1 ∧
     e.get .DMA_VIOL_STATUS_COUNT 0 = e.viols.length ∧
     (∀ v rest, e.viols = v :: rest → e.get .DMA_VIOL_ADDR_ADDR 0 = v.addr ∧ e.get .DMA_VIOL_INFO_TYPE 0 = v.type ∧
       e.get .DMA_VIOL_INFO_REQ_ID 0 = v.reqId ∧ e.get .DMA_VIOL_INFO_WRITE 0 = b2n v.write ∧
       e.get .DMA_VIOL_INFO_BAR 0 = v.bar ∧ e.get .DMA_VIOL_TIME_TIME 0 = v.time) ∧
     (e.viols = [] → e.get .DMA_VIOL_ADDR_ADDR 0 = 0 ∧ e.get .DMA_VIOL_INFO_TYPE 0 = 0 ∧ e.get .DMA_VIOL_TIME_TIME 0 = 0) ∧
     Dev.OnlyAt [.DMA_VIOL_STATUS_COUNT, .DMA_VIOL_ADDR_ADDR, .DMA_VIOL_INFO_REQ_ID, .DMA_VIOL_INFO_REQUESTER,
       .DMA_VIOL_INFO_BAR, .DMA_VIOL_INFO_WRITE, .DMA_VIOL_INFO_TYPE, .DMA_VIOL_TIME_TIME] 0 { s.dev with viols := e.viols } e)

/-- R567, R576: the SMBus target. A transaction to another address than the part's changes nothing. At its own, SET_ADDRESS
takes the address, READ and READ_INCREMENT return the register there, the latter moving on by 4, WRITE writes it, and a
command whose PEC fails changes nothing. Where the rules leave a point open it states the model's choice (log entry 28). -/
def Obligations.SmbusTarget : Prop :=
  ∀ (s : State) (v : Word) (t : BitVec 7), s.dev.get .X_SYS_AUX 0 = 1 →
    (t.toNat ≠ 0x68 + s.dev.get .X_SMB_STRAP 0 → ∀ ok, Completes (.smbSetAddress t v ok) s (· = s.found) ∧
      Completes (.smbRead t) s (· = s.found) ∧ Completes (.smbWrite t v ok) s (· = s.found) ∧
      Completes (.smbReadIncrement t) s (· = s.found)) ∧
    (t.toNat = 0x68 + s.dev.get .X_SMB_STRAP 0 →
    (Completes (.smbSetAddress t v true) s fun e => e.get .X_SMB_ADDR 0 = v.toNat ∧ Dev.OnlyAt [.X_SMB_ADDR] 0 s.dev e) ∧
    (Completes (.smbSetAddress t v false) s fun e => e = s.found) ∧ (Completes (.smbWrite t v false) s fun e => e = s.found) ∧
    ∀ a r i j, s.dev.get .X_SMB_ADDR 0 = a → a < 2 ^ 27 → RegisterAt a r i j false → r.row.wide = false →
      (r ≠ .PH_T_CLAIM → s.dev.Serves .smbus (.read4 (BitVec.ofNat 27 a)) →
        (Completes (.smbRead t) s fun e => e.out = [.readData ((Dev.view r i j s.found).regValue r i j)] ∧
          e.get .X_SMB_ADDR 0 = a) ∧
        Completes (.smbReadIncrement t) s fun e => e.out = [.readData ((Dev.view r i j s.found).regValue r i j)] ∧
          e.get .X_SMB_ADDR 0 = (a + 4) % 2 ^ 32) ∧
      (r ∈ plainRegs → s.dev.writeIgnored r i = false → s.dev.Serves .smbus (.write4 (BitVec.ofNat 27 a) v) →
        Completes (.smbWrite t v true) s fun e => Dev.FieldsWritten r i j v.toNat 0 s.dev e))

/-! ## Pigeonholes -/

/-- R453: a source is eligible for its target exactly when it pends, is unmasked, names this target, the target is defined, it
is not in service, and in stacked mode its priority exceeds the running one. The source that `best` picks is eligible, no
eligible source has a higher priority (15 is the highest), and of those with the same priority it has the lowest number;
with none picked, none is eligible. -/
def Obligations.BestIsHighest : Prop :=
  ∀ (d : Dev) (x : Nat), d.pending.Pairwise (· < ·) →
    (∀ src, d.best x = some src → d.eligible x src = true ∧ ∀ t, d.eligible x t = true →
      d.get .PH_SRC_PRIORITY t < d.get .PH_SRC_PRIORITY src ∨
        (d.get .PH_SRC_PRIORITY t = d.get .PH_SRC_PRIORITY src ∧ src ≤ t)) ∧
    (d.best x = none → ∀ t, d.eligible x t = false) ∧ 2 ^ F.PH_SRC_PRIORITY.width - 1 = 15 ∧
    ∀ t, d.eligible x t = true ↔
      t ∈ d.pending ∧ d.get .PH_MASK_MASK t ≠ 1 ∧ d.get .PH_SRC_TARGET t = x ∧ d.get .PH_T_STATUS_DEFINED x = 1 ∧
      (∀ v ∈ d.service, v.source ≠ t) ∧
      (d.get .PH_CFG_MODE 0 = 1 → ∀ v rest, d.stackOf x = v :: rest → v.prio < d.get .PH_SRC_PRIORITY t)

/-- R452, R456, R458: a claim returns the highest eligible source with its priority and occurrences and puts it in service; with
none eligible it returns 0 and counts as spurious; a claim of a core's target from outside claims nothing. R459 to R461: in
stacked mode a completion of the source claimed last takes it out of service, and a level source whose line is still high
pends again; any other completion changes nothing but the fault log and raises source 16, and so does one in flat mode of a
source that is not in service on the target. -/
def Obligations.ClaimTakesBest : Prop :=
  (∀ (x : Fin 74) (req : Requester) (s : State), s.dev.get .PH_T_STATUS_DEFINED x = 1 →
     ((64 ≤ x.val → req.isExternal = false) → (s.dev.stacked = true ∨ s.dev.get .X_PH_SEL x = 0) →
       (∀ src, s.dev.best x = some src → Completes (.claim x req) s fun e =>
         e.out.getLast? = some (.readData (src + 2 ^ 12 * s.dev.get .PH_SRC_PRIORITY src + 2 ^ 16 * s.dev.get .PH_SRC_OCCUR src)) ∧
         src ∉ e.pending ∧ (∀ t, t ≠ src → (t ∈ e.pending ↔ t ∈ s.dev.pending)) ∧
         e.service = ⟨x, src, s.dev.get .PH_SRC_PRIORITY src⟩ :: s.dev.service) ∧
       (s.dev.best x = none → Completes (.claim x req) s fun e => e.out = [.readData 0] ∧
         e.pending = s.dev.pending ∧ e.service = s.dev.service ∧
         e.get .PH_T_COUNTS_SPURIOUS x = satAdd F.PH_T_COUNTS_SPURIOUS.width (s.dev.get .PH_T_COUNTS_SPURIOUS x) 1)) ∧
     (64 ≤ x.val → req.isExternal = true → Completes (.claim x req) s fun e => e = s.found.send (.readData 0))) ∧
  (∀ (x : Fin 74) (n : BitVec 10) (req : Requester) (s : State), s.dev.get .PH_T_STATUS_DEFINED x = 1 → n.toNat ≠ 0 →
     (64 ≤ x.val → req.isExternal = false) →
     (∀ v rest, s.dev.stackOf x = v :: rest → v.source = n.toNat ∨ (s.dev.stacked = false ∧ ∃ w ∈ rest, w.source = n.toNat) →
       Completes (.complete x n req) s fun e =>
         e.service = s.dev.service.filter (fun v => !(decide (v.target = x.val) && decide (v.source = n.toNat))) ∧
         (∀ t, t ∈ s.dev.pending → t ∈ e.pending) ∧
         (s.dev.get .PH_SRC_LEVEL n.toNat = 1 → s.dev.get .PH_SRC_LINE n.toNat = 1 → e.inService n.toNat = false →
           n.toNat ∈ e.pending)) ∧
     (s.dev.stacked = true → (∀ v rest, s.dev.stackOf x = v :: rest → v.source ≠ n.toNat) →
       Completes (.complete x n req) s fun e => e.get .PH_T_EVENTS_STACK_ORDER x = 1 ∧ e.get .PH_FAULT_LOG_TARGET 0 = x ∧
         e.get .PH_FAULT_LOG_SOURCE 0 = n.toNat ∧ Dev.Raised 16 s.dev e ∧ e.service = s.dev.service) ∧
     (s.dev.stacked = false → (∀ v ∈ s.dev.stackOf x, v.source ≠ n.toNat) →
       Completes (.complete x n req) s fun e => e.get .PH_T_EVENTS_BAD_COMPLETE x = 1 ∧ e.get .PH_FAULT_LOG_KIND 0 = 3 ∧
         Dev.Raised 16 s.dev e ∧ e.service = s.dev.service))

/-- R448, R449: a write of a pending word sets the bits written 1 and clears those written 0, but a level source with its line
high stays, and a bit that hardware sets in the same cycle stays set. A write of a mask word sets its 32 mask bits and no
others. -/
def Obligations.PendingAndMaskWrites : Prop :=
  ∀ (w : Fin 32) (v hw : Word) (s : State),
    (Completes (.pendingWrite w v hw) s fun e =>
      (∀ b < 32, 32 * w.val + b ≠ 0 → bitAt v.toNat b = true ∨ bitAt hw.toNat b = true → 32 * w.val + b ∈ e.pending) ∧
      (∀ b < 32, bitAt v.toNat b = false → bitAt hw.toNat b = false →
        ¬ (s.dev.get .PH_SRC_LEVEL (32 * w.val + b) = 1 ∧ s.dev.get .PH_SRC_LINE (32 * w.val + b) = 1) →
        32 * w.val + b ≠ 0 → 32 * w.val + b ∉ e.pending) ∧
      ∀ t, t / 32 ≠ w.val → (t ∈ e.pending ↔ t ∈ s.dev.pending)) ∧
    Completes (.maskWrite w v) s fun e => e.pending = s.dev.pending ∧
      (∀ b < 32, 32 * w.val + b ≠ 0 → e.get .PH_MASK_MASK (32 * w.val + b) = b2n (bitAt v.toNat b)) ∧
      ∀ t, t / 32 ≠ w.val → e.get .PH_MASK_MASK t = s.dev.get .PH_MASK_MASK t

/-- R463 to R465: a held message is released when its time is up, when its target is declared idle and when its core halts: the
hold ends and, if a source is eligible, one message is counted; a message to a core ends its halt. R471: PH_CMD.CLEAR_STATS
clears the counts of every target and nothing else. -/
def Obligations.HeldMessageReleased : Prop :=
  (∀ s : State,
     (∀ x : Fin 74, s.dev.get .PH_T_STATUS_HELD x = 1 → s.dev.get .X_PH_HOLD_END x ≤ s.dev.clk →
       Completes (.moderationTimeout x) s fun e => e.get .PH_T_STATUS_HELD x = 0 ∧ e.get .X_PH_HELD_COUNT x = 0 ∧
         e.pending = s.dev.pending ∧
         (s.dev.best x ≠ none → e.get .PH_T_COUNTS_MESSAGES x =
           satAdd F.PH_T_COUNTS_MESSAGES.width (s.dev.get .PH_T_COUNTS_MESSAGES x) 1) ∧
         (s.dev.best x = none → e.get .PH_T_COUNTS_MESSAGES x = s.dev.get .PH_T_COUNTS_MESSAGES x ∧ e.out = [])) ∧
     (∀ (x : Fin 64) (idle : Bool), s.dev.get .PH_T_STATUS_DEFINED x = 1 →
       Completes (.targetIdleWrite x idle) s fun e => e.get .PH_T_IDLE_TARGET_IDLE x = b2n idle ∧
         (idle = true → s.dev.get .PH_T_STATUS_HELD x = 1 → e.get .PH_T_STATUS_HELD x = 0) ∧
         (idle = false → Dev.OnlyAt [.PH_T_IDLE_TARGET_IDLE] x s.dev e)) ∧
     (∀ x : Fin 10, s.dev.get .PH_T_STATUS_HELD (64 + x.val) ≠ 1 → Completes (.coreWaitHalt x) s fun e =>
       e.get .X_PH_CORE_HALT (64 + x.val) = 1 ∧ Dev.OnlyAt [.X_PH_CORE_HALT] (64 + x.val) s.dev e) ∧
     (∀ (x : Fin 10) (src : Nat), s.dev.get .PH_T_STATUS_HELD (64 + x.val) = 1 → s.dev.best (64 + x.val) = some src →
       Completes (.coreWaitHalt x) s fun e => e.get .X_PH_CORE_HALT (64 + x.val) = 0 ∧ e.out = [.coreIrq (64 + x.val)])) ∧
  (∀ s : State, Completes .phClearStats s fun e =>
     (∀ x < 74, e.get .PH_T_COUNTS_MESSAGES x = 0 ∧ e.get .PH_T_COUNTS_SPURIOUS x = 0) ∧
     Dev.Only (fun f x => x < 74 ∧ f ∈ [F.PH_T_COUNTS_MESSAGES, F.PH_T_COUNTS_SPURIOUS]) s.dev e)

/-! ## The endpoint and DMA -/

/-- R485, R491, R492, R495: the states of a DMA queue. ENABLE of a disabled queue with a legal size starts it at index 0 and
phase 1, and one with another size is ignored; a write of 0 stops it, at once when it holds nothing; RESET empties it and
opens the next epoch; TAIL takes an index below the ring size; CLEAR_STATS clears its counts. Where the rules leave a point
open it states the model's choice (log entry 35). -/
def Obligations.DmaQueueControl : Prop :=
  ∀ (q : Fin 16) (s : State),
    (∀ z : BitVec 5, s.dev.dq q = dqDISABLED → 4 ≤ z.toNat → z.toNat ≤ 16 → Completes (.queueEnable q z) s fun e =>
      e.dq q = dqRUNNING ∧ e.get .DMA_Q_CTRL_ENABLE q = 1 ∧ e.ring q = 2 ^ z.toNat ∧ e.get .DMA_Q_HEAD_INDEX q = 0 ∧
      e.get .DMA_Q_TAIL_INDEX q = 0 ∧ e.get .DMA_Q_STATUS_PHASE q = 1 ∧
      Dev.OnlyAt [.DMA_Q_CTRL_ENABLE, .DMA_Q_CTRL_SIZE_EXP, .DMA_Q_HEAD_INDEX, .DMA_Q_TAIL_INDEX, .DMA_Q_STATUS_PHASE,
        .DMA_Q_STATUS_STATE, .DMA_Q_STATUS_PAUSED] q s.dev e) ∧
    (∀ z : BitVec 5, z.toNat < 4 ∨ 16 < z.toNat → Completes (.queueEnable q z) s fun e =>
      e.get .DMA_Q_EVENTS_CFG_IGNORED q = 1 ∧ e.dq q = s.dev.dq q ∧ Dev.OnlyRaisingAt [.DMA_Q_EVENTS_CFG_IGNORED] q s.dev e) ∧
    (s.dev.dq q = dqRUNNING → Completes (.queueDisable q) s fun e => e.get .DMA_Q_CTRL_ENABLE q = 0 ∧
      e.dq q = (if (s.dev.fetched q).isEmpty then dqDISABLED else dqSTOPPING) ∧
      Dev.OnlyAt [.DMA_Q_CTRL_ENABLE, .DMA_Q_STATUS_STATE, .DMA_Q_STATUS_PAUSED] q s.dev e) ∧
    (Completes (.queueReset q) s fun e => e.dq q = dqDISABLED ∧ e.fetched q = [] ∧ e.get .DMA_Q_HEAD_INDEX q = 0 ∧
      e.get .DMA_Q_STATUS_EPOCH q = (s.dev.get .DMA_Q_STATUS_EPOCH q + 1) % 16 ∧ e.get .DMA_Q_STATUS_PHASE q = 1 ∧
      e.get .X_DMA_OLD q = s.dev.get .X_DMA_OLD q + s.dev.get .X_DMA_OUT q ∧
      ∀ y ∈ s.dev.descs, y.queue ≠ q.val → y ∈ e.descs) ∧
    (∀ t : BitVec 16, (t.toNat < s.dev.ring q → Completes (.tailWrite q t) s fun e =>
        e.get .DMA_Q_TAIL_INDEX q = t.toNat ∧ Dev.OnlyAt [.DMA_Q_TAIL_INDEX] q s.dev e) ∧
      (s.dev.ring q ≤ t.toNat → Completes (.tailWrite q t) s fun e => e.get .DMA_Q_EVENTS_CFG_IGNORED q = 1 ∧
        Dev.OnlyRaisingAt [.DMA_Q_EVENTS_CFG_IGNORED] q s.dev e)) ∧
    Completes (.dmaQClearStats q) s fun e => e.get .DMA_Q_BYTES_COUNT q = 0 ∧ e.get .DMA_Q_DESC_DONE_COUNT q = 0 ∧
      e.get .DMA_Q_COUNTS_LATE q = 0 ∧ e.get .DMA_Q_COUNTS_POISONED q = 0 ∧
      Dev.OnlyAt [.DMA_Q_BYTES_COUNT, .DMA_Q_DESC_DONE_COUNT, .DMA_Q_COUNTS_LATE, .DMA_Q_COUNTS_POISONED] q s.dev e

/-- R474, R485 to R488: a descriptor is fetched with the status that the checks give it. The oldest descriptor ends with a
completion record at the head of the ring, and HEAD advances; an error stops the queue in ERROR, and a transfer to the host
writes its data first, in units of 4 KiB whose writes are no larger than the Max Payload Size. R487, R488, R491: completions
of host reads. Data moves the descriptor on; an error completion and a timeout fix its status; a completion of an earlier
epoch counts as late and moves nothing. Where the rules leave a point open it states the model's choice (log entries 14, 46
and 78). -/
def Obligations.DescriptorRuns : Prop :=
  (∀ (q : Fin 16) (s : State),
     (∀ x : DmaDescriptor, s.dev.dq q = dqRUNNING → s.dev.get .DMA_Q_STATUS_PAUSED q ≠ 1 →
       s.dev.fetchIndex q ≠ s.dev.get .DMA_Q_TAIL_INDEX q → Completes (.descriptorFetch q x) s fun e =>
         (e.fetched q).length = (s.dev.fetched q).length + 1 ∧ ∃ y, (e.fetched q).getLast? = some y ∧
         y.host = x.host.toNat ∧ y.dev = x.dev.toNat ∧ y.len = x.len.toNat ∧ y.tag = x.tag.toNat ∧
         y.status = s.dev.checkDesc q x ∧ y.moved = 0) ∧
     (∀ x rest bad, s.dev.dqLive q = true → s.dev.get .DMA_Q_STATUS_PAUSED q ≠ 1 → s.dev.fetched q = x :: rest →
       errorStatus x.status = true → Completes (.descriptorComplete q bad) s fun e => e.dq q = dqERROR ∧
         e.get .DMA_Q_STATUS_ERR_STATUS q = x.status ∧
         e.get .DMA_Q_HEAD_INDEX q = (s.dev.get .DMA_Q_HEAD_INDEX q + 1) % s.dev.ring q ∧
         e.get .DMA_Q_EVENTS_ERROR q = 1 ∧
         Out.hostWrite (s.dev.get .DMA_Q_CPL_ADDR q + 16 * s.dev.get .DMA_Q_HEAD_INDEX q) (s.dev.record q x) false false ∈ e.out) ∧
     (∀ x rest mps, s.dev.dqLive q = true → s.dev.get .DMA_Q_STATUS_PAUSED q ≠ 1 → s.dev.fetched q = x :: rest →
       8 ≤ q.val → x.status = 0 → x.toHost = true → x.moved < x.len → x.len < 2 ^ 24 →
       (∀ p < 8, s.dev.captureReady p = none) → (∀ p < 16, 8 ≤ p → p ≠ q.val → s.dev.generalReady p = none) →
       mps = s.dev.get .X_PCIE_MPS 0 → 0 < mps → Completes (.descriptorComplete q false) s fun e =>
         e.get .DMA_Q_HEAD_INDEX q = (s.dev.get .DMA_Q_HEAD_INDEX q + 1) % s.dev.ring q ∧
         (∀ u i o, o = x.moved + 4096 * u + mps * i → mps * i < 4096 → o < x.len → Out.hostWrite (x.host + o)
           (s.dev.bytesNow (x.dev + o) (min mps (min (4096 - mps * i) (x.len - o)))) (s.dev.on .X_PCIE_RO 0) false ∈ e.out) ∧
         Out.hostWrite (s.dev.get .DMA_Q_CPL_ADDR q + 16 * s.dev.get .DMA_Q_HEAD_INDEX q)
           (s.dev.record q { x with moved := x.len }) false false ∈ e.out)) ∧
  (∀ (q : Fin 16) (s : State) (data : List Byte) (x : Desc) (rest : List Desc),
     (s.dev.get .X_DMA_OUT q ≠ 0 → s.dev.fetched q = x :: rest → 8 ≤ q.val → x.toHost = false → x.status = 0 →
       (∀ last, Completes (.readCompletion q false last .ok data) s fun e => ∃ y, (e.fetched q).head? = some y ∧
         y.moved = x.moved + min data.length (x.len - x.moved) ∧ y.status = 0 ∧ y.tag = x.tag) ∧
       (∀ last, Completes (.readCompletion q false last .abort data) s fun e => ∃ y, (e.fetched q).head? = some y ∧
         y.status = 5 ∧ y.moved = x.moved) ∧
       (∀ last, Completes (.readCompletion q false last .poisoned data) s fun e => ∃ y, (e.fetched q).head? = some y ∧
         y.status = 7) ∧
       Completes (.completionTimeout q false) s fun e => e.get .X_DMA_OUT q = s.dev.get .X_DMA_OUT q - 1 ∧
         ∃ y, (e.fetched q).head? = some y ∧ y.status = 6 ∧ y.moved = x.moved) ∧
     (s.dev.get .X_DMA_OLD q ≠ 0 → ∀ r, Completes (.readCompletion q true true r data) s fun e =>
       e.get .X_DMA_OLD q = s.dev.get .X_DMA_OLD q - 1 ∧ e.get .DMA_Q_EVENTS_LATE q = 1 ∧
       e.get .DMA_Q_COUNTS_LATE q = satAdd F.DMA_Q_COUNTS_LATE.width (s.dev.get .DMA_Q_COUNTS_LATE q) 1))

/-- R467, R492 to R494: a hot reset, a link that goes down and an FLR. Every queue is reset with its control and ring addresses,
the MSI-X vectors are masked, Bus Master Enable is 0 and nothing is in service on a host target; the event is shown and
drives source 9. -/
def Obligations.FunctionResets : Prop :=
  ∀ s : State,
    let P := fun (ev : F) (e : Dev) => e.get ev 0 = 1 ∧ e.get .PH_SRC_LINE 9 = 1 ∧ e.get .DMA_LINK_STATUS_BME 0 = 0 ∧
      e.get .DMA_LINK_STATUS_DSTATE 0 = 0 ∧
      (∀ q < 16, e.dq q = dqDISABLED ∧ e.get .DMA_Q_CTRL_ENABLE q = 0 ∧ e.get .DMA_Q_RING_ADDR q = 0 ∧ e.fetched q = []) ∧
      (∀ v < 256, e.get .MSIX_CTRL_MASK v = 1) ∧ (∀ x < 64, e.stackOf x = [] ∧ e.get .PH_T_IDLE_TARGET_IDLE x = 0)
    Completes (.pcieHotReset false) s (P .DMA_LINK_EVENTS_HOT_RESET) ∧
    (Completes (.pcieHotReset true) s fun e => P .DMA_LINK_EVENTS_LINK_DOWN e ∧ e.get .DMA_LINK_STATUS_SPEED 0 = 0 ∧
      e.get .DMA_LINK_STATUS_WIDTH 0 = 0) ∧
    Completes .flr s fun e => P .DMA_LINK_EVENTS_FLR e ∧ e.get .DMA_LINK_STATUS_SPEED 0 = s.dev.get .DMA_LINK_STATUS_SPEED 0

/-- R472, R482, R483, R494: the link and the function's state. LINK_UP shows the rate and the width and drives source 9; D3hot
pauses every live queue; in L1 every held message is released; L1_EXIT ends it. R481, R482: messages that waited are sent on
the return to D0, when Bus Master Enable is set and when the vector or the function is unmasked, and then their PBA bit is
clear; without Bus Master Enable every live queue is paused. Where the rules leave a point open it states the model's choice
(log entry 15). -/
def Obligations.LinkStates : Prop :=
  (∀ s : State,
     (∀ (sp : Fin 5) (w : Fin 4), Completes (.linkUp sp w) s fun e => e.get .DMA_LINK_STATUS_SPEED 0 = sp.val + 1 ∧
       e.get .DMA_LINK_STATUS_WIDTH 0 = 2 ^ w.val ∧ e.get .DMA_LINK_EVENTS_LINK_UP 0 = 1 ∧ e.get .PH_SRC_LINE 9 = 1) ∧
     (∀ pme, Completes (.d3hotEntry pme) s fun e => e.get .DMA_LINK_STATUS_DSTATE 0 = 3 ∧ e.get .X_PCIE_PME_EN 0 = b2n pme ∧
       e.get .DMA_LINK_EVENTS_D3HOT 0 = 1 ∧ e.get .PH_SRC_LINE 9 = 1 ∧
       ∀ q < 16, e.get .DMA_Q_STATUS_PAUSED q = b2n (s.dev.dqLive q)) ∧
     (Completes .l1Entry s fun e => (∀ x < 64, e.get .PH_T_STATUS_HELD x ≠ 1) ∧
       ((∀ x < 64, s.dev.get .PH_T_STATUS_HELD x ≠ 1) → e.get .DMA_LINK_STATUS_L1 0 = 1)) ∧
     Completes .l1Exit s fun e => e.get .DMA_LINK_STATUS_L1 0 = 0 ∧ Dev.OnlyAt [.DMA_LINK_STATUS_L1] 0 s.dev e) ∧
  (∀ (s : State) (v : Fin 256), s.dev.pba.Pairwise (· < ·) → v.val ∈ s.dev.pba →
     (s.dev.get .DMA_LINK_STATUS_BME 0 = 1 → s.dev.get .X_PCIE_FUNC_MASK 0 ≠ 1 → s.dev.get .MSIX_CTRL_MASK v ≠ 1 →
       Completes .d0Return s fun e => e.get .DMA_LINK_STATUS_DSTATE 0 = 0 ∧ Out.msix v ∈ e.out ∧ v.val ∉ e.pba) ∧
     (s.dev.get .DMA_LINK_STATUS_DSTATE 0 ≠ 3 → s.dev.get .X_PCIE_FUNC_MASK 0 ≠ 1 → s.dev.get .MSIX_CTRL_MASK v ≠ 1 →
       Completes (.bmeChange true) s fun e => e.get .DMA_LINK_STATUS_BME 0 = 1 ∧ Out.msix v ∈ e.out ∧ v.val ∉ e.pba) ∧
     (s.dev.get .DMA_LINK_STATUS_BME 0 = 1 → s.dev.get .DMA_LINK_STATUS_DSTATE 0 ≠ 3 → s.dev.get .X_PCIE_FUNC_MASK 0 ≠ 1 →
       Completes (.vectorUnmask (some v)) s fun e => e.get .MSIX_CTRL_MASK v = 0 ∧ Out.msix v ∈ e.out ∧ v.val ∉ e.pba) ∧
     (s.dev.get .DMA_LINK_STATUS_BME 0 = 1 → s.dev.get .DMA_LINK_STATUS_DSTATE 0 ≠ 3 → s.dev.get .MSIX_CTRL_MASK v ≠ 1 →
       Completes (.vectorUnmask none) s fun e => e.get .X_PCIE_FUNC_MASK 0 = 0 ∧ Out.msix v ∈ e.out ∧ v.val ∉ e.pba) ∧
     Completes (.bmeChange false) s fun e => e.get .DMA_LINK_STATUS_BME 0 = 0 ∧ e.pba = s.dev.pba ∧
       ∀ q < 16, e.get .DMA_Q_STATUS_PAUSED q = b2n (s.dev.dqLive q))

/-! ## GDDR7 memory -/

/-- R421, R434, R436, R437: training. When every channel has trained, the capacity follows the density, every channel is trained
and the memory is READY where a domain is awake; a channel that fails is retried and at its fourth failure the memory is
FAILED; REINIT trains a failed memory again; a loss of VDDQ leaves it OFF with no capacity and every byte open. -/
def Obligations.MemoryTrains : Prop :=
  ∀ s : State,
    (∀ z : Fin 3, s.dev.memState = meTRAINING → s.dev.memAwake 0 = true → Completes (.memTrainingDone z) s fun e =>
      e.memState = meREADY ∧ e.get .MEM_CFG_DENSITY 0 = z.val + 1 ∧ e.get .MEM_CFG_CAPACITY 0 = 256 + 128 * z.val ∧
      (∀ m < 8, e.get .MEM_C_STATUS_TRAINED m = 15) ∧ e.get .X_SYS_MEM 0 = 1 ∧
      ∀ r < 3, 0 < s.dev.get .X_REGION_SIZE r → s.dev.get .X_REGION_BASE r + s.dev.get .X_REGION_SIZE r ≤ 256 →
        e.regionIn r = true) ∧
    (∀ c : Fin 32, s.dev.memState = meTRAINING → s.dev.get .X_MEM_TRY c = 0 → Completes (.memTrainingRetry c) s fun e =>
      e.get .X_MEM_TRY c = 1 ∧ e.get .X_MEM_TRY_CLK c = s.dev.clk ∧ Dev.OnlyAt [.X_MEM_TRY, .X_MEM_TRY_CLK] c s.dev e) ∧
    (∀ c : Fin 32, s.dev.memState = meTRAINING → s.dev.get .X_MEM_TRY c = 3 → s.dev.get .X_MEM_TRY_CLK c + ms ≤ s.dev.clk →
      s.dev.mreqs = [] → (∀ t, s.dev.tapActive t = false) → Completes (.memTrainingRetry c) s fun e =>
        e.memState = meFAILED ∧ e.get .MEM_EVENTS_FAILED 0 = 1 ∧ 26 ∈ e.pending ∧ e.get .MEM_CH_READY_CHANNELS 0 = 0) ∧
    (s.dev.memState = meFAILED → Completes .memReinit s fun e => e.memState = meTRAINING ∧
      (∀ c < 32, e.get .X_MEM_TRY c = 0) ∧ (∀ m < 8, e.get .MEM_C_STATUS_TRAINED m = 0) ∧ e.get .MEM_CH_READY_CHANNELS 0 = 0) ∧
    (s.dev.mreqs = [] → (∀ t, s.dev.tapActive t = false) → Completes .vddqLoss s fun e => e.memState = meOFF ∧
      e.memBytes = 0 ∧ (∀ m < 8, e.get .MEM_C_STATUS_TRAINED m = 0) ∧
      ∃ id, ∀ a < 2 ^ 35, e.cell a = Config.lostByte id a)

/-- R435, R441: drift tracking and retraining of a channel. A pass every 1 ms, with no other channel of the device in its own,
adds the ECC errors found and clears the retry count; a large drift starts a retrain; a retrain that ends well is counted,
one that fails is tried again 1 ms later. R420, R422, R423, R443: the temperature is read once a second; one above 105 °C
stops the writes of a controller and one of 100 °C or less lets them go on, each with source 27; one above 85 °C that was
not hot before is an event; CLEAR_STATS clears the counts of every controller. Where the rules leave a point open it states
the model's choice (log entry 45). -/
def Obligations.ChannelsRetrain : Prop :=
  (∀ s : State,
     (∀ (c : Fin 32) (drift : Bool) (ecc : Word), s.dev.memState = meREADY →
       bitAt (s.dev.get .MEM_CH_READY_CHANNELS 0) c = true → s.dev.get .X_MEM_RT c ≠ 1 →
       s.dev.get .X_MEM_TRACK_CLK c + ms ≤ s.dev.clk →
       (∀ x < 32, x / 4 = c.val / 4 → x ≠ c.val → s.dev.get .X_MEM_TRACK_CLK x = 0 ∨ s.dev.get .X_MEM_TRACK_CLK x + 2 * us ≤ s.dev.clk) →
       Completes (.driftTracking c drift ecc) s fun e =>
         e.get .X_MEM_TRACK_CLK c = s.dev.clk ∧ e.get .X_MEM_RETRIES c = 0 ∧
         e.get .MEM_C_ODECC_COUNT (c.val / 4) =
           satAdd F.MEM_C_ODECC_COUNT.width (s.dev.get .MEM_C_ODECC_COUNT (c.val / 4)) ecc.toNat ∧
         (drift = true → e.get .X_MEM_RT c = 1 ∧ Dev.Raised 25 s.dev e) ∧
         (drift = false → s.dev.get .X_MEM_RETRIES c < 16 → e.get .X_MEM_RT c = s.dev.get .X_MEM_RT c ∧
           e.pending = s.dev.pending)) ∧
     (∀ m : Fin 8, Completes (.memRetrain m) s fun e => e.get .X_MEM_RT_REQ m = 1 ∧
       e.get .X_MEM_RT_REQ_LAST m = s.dev.clk ∧ (s.dev.get .X_MEM_RT_REQ m ≠ 1 → e.get .X_MEM_RT_REQ_CLK m = s.dev.clk) ∧
       Dev.OnlyAt [.X_MEM_RT_REQ, .X_MEM_RT_REQ_CLK, .X_MEM_RT_REQ_LAST] m s.dev e) ∧
     (∀ c : Fin 32, s.dev.get .X_MEM_RT c = 1 → s.dev.get .X_MEM_RT_CLK c + 500 * us ≤ s.dev.clk →
       (Completes (.memRetrainDone c true) s fun e => e.get .X_MEM_RT c = 0 ∧ e.get .MEM_EVENTS_RETRAINED 0 = 1 ∧
         e.get .MEM_C_RETRAINS_COUNT (c.val / 4) =
           satAdd F.MEM_C_RETRAINS_COUNT.width (s.dev.get .MEM_C_RETRAINS_COUNT (c.val / 4)) 1 ∧ Dev.Raised 25 s.dev e) ∧
       (s.dev.get .X_MEM_TRY c < 3 → Completes (.memRetrainDone c false) s fun e => e.get .X_MEM_RT c = 1 ∧
         e.get .X_MEM_TRY c = s.dev.get .X_MEM_TRY c + 1 ∧ e.get .X_MEM_RT_CLK c = s.dev.clk + ms ∧
         Dev.OnlyAt [.X_MEM_TRY, .X_MEM_RT_CLK] c s.dev e))) ∧
  (∀ s : State,
     (∀ (m : Fin 8) (t : Byte), s.dev.get .X_MEM_TEMP_CLK m = 0 ∨ s.dev.get .X_MEM_TEMP_CLK m + 1000 * ms ≤ s.dev.clk + 1 →
       Completes (.memTempRead m t) s fun e => e.get .X_MEM_TEMP_CLK m = s.dev.clk + 1 ∧ e.get .MEM_C_STATUS_TEMP m = t.toNat ∧
       e.get .X_MEM_HOT m = b2n (decide (85 < t.toNat)) ∧
       (105 < t.toNat → e.writeStopped (4 * m.val) = true) ∧ (t.toNat ≤ 100 → e.writeStopped (4 * m.val) = false) ∧
       (100 < t.toNat → t.toNat ≤ 105 → e.writeStopped (4 * m.val) = s.dev.writeStopped (4 * m.val)) ∧
       (105 < t.toNat → s.dev.writeStopped (4 * m.val) = false → 27 ∈ e.pending ∧ e.get .MEM_EVENTS_HOT_STOP 0 = 1) ∧
       (85 < t.toNat → s.dev.get .X_MEM_HOT m ≠ 1 → 27 ∈ e.pending ∧ e.get .MEM_EVENTS_HOT 0 = 1)) ∧
     Completes .memClearStats s fun e => e.get .MEM_LOST_LEDGER 0 = 0 ∧ ∀ m < 8, e.get .MEM_C_CRC_RETRY_COUNT m = 0 ∧
       e.get .MEM_C_UNCORR_COUNT m = 0 ∧ e.get .MEM_C_RETRAINS_COUNT m = 0 ∧ e.get .MEM_C_ODECC_COUNT m = 0 ∧
       e.get .MEM_C_BYTES_COUNT m = 0)

/-- R426, R430, R440: a BAR2 request within one 256-byte unit of memory that the host may use joins its channel's queue with the
address that the window base gives it. A channel with one request waiting serves it: a write stores its bytes, and a BAR2
read returns what is stored. Where the rules leave a point open it states the model's choice (log entry 45). -/
def Obligations.MemoryServes : Prop :=
  ∀ s : State,
    (∀ base : BitVec 9, Completes (.bar2BaseWrite base) s fun e => e.get .MEM_BAR2_BASE_BASE 0 = base.toNat ∧
      Dev.OnlyAt [.MEM_BAR2_BASE_BASE] 0 s.dev e) ∧
    (∀ (off : Word) (write : Bool) (len : BitVec 13) (bytes : List Byte) (reqId : BitVec 16) (a n : Nat),
      a = s.dev.get .MEM_BAR2_BASE_BASE 0 * 2 ^ 26 + off.toNat → n = (if write then bytes.length else len.toNat) →
      0 < n → n ≤ 256 - a % 256 → s.dev.get .DMA_LINK_STATUS_DSTATE 0 ≠ 3 → s.dev.pcieUp = true →
      s.dev.held.any Held.isBar2 = false → s.dev.memTrained = true → a + n ≤ s.dev.memBytes →
      s.dev.hostAccess a write ≠ 2 → (∀ m, s.dev.gate (domMem m) = 0) →
      Completes (.bar2Access off write len bytes reqId) s fun e => e = { s.found with mreqs := s.dev.mreqs ++
        [⟨2, write, a, n, bytes.take n, s.dev.clk, true, off.toNat, reqId.toNat, s.dev.now, false, false, false⟩] }) ∧
    (∀ (c : Fin 32) (r : MemReq), s.dev.memState = meREADY → bitAt (s.dev.get .MEM_CH_READY_CHANNELS 0) c = true →
      s.dev.channelPaused c = false → s.dev.mreqs = [r] → channelOf r.addr = c → r.cls < 5 →
      (r.write = true → s.dev.writeStopped c = false) → r.bad = false → Completes (.memRequestIssue c 0 false) s fun e =>
        e.mreqs = [] ∧
        (r.write = true → ∀ i < r.data.length, e.cell (r.addr + i) = r.data.getD i 0) ∧
        (r.write = false → e.gddr = s.dev.gddr ∧ e.lost = s.dev.lost) ∧
        (r.write = false → r.bar2 = true →
          e.out = [.readData (ofLE ((List.range r.len).map fun i => s.dev.cell (r.addr + i)))]))

/-! ## Power domains -/

/-- R510, R518, R519: a horizon of 0 wakes the group, another one is recorded with its end; an expired horizon becomes 0. R509,
R511, R518: wakes. A known event less the wake time, and signal detect at an armed detector, wake every sleeping member of
the group, with their codes. -/
def Obligations.Horizons : Prop :=
  (∀ (k : Fin 158) (s : State),
     (∀ v : Word, v.toNat ≠ 0 → v.toNat ≠ 0xFFFFFFFF → Completes (.horizonWrite k v) s fun e => ∀ m ∈ s.dev.sleepGroup k,
       e.get .PWR_D_HORIZON_HORIZON m = v.toNat ∧ e.get .X_PWR_HOR_SET m = 1 ∧
       e.get .X_PWR_HOR_END m = s.dev.clk + v.toNat * us ∧ e.horizon m = v.toNat) ∧
     (s.dev.domUnused k = false → s.dev.domAsleep k = true → s.dev.ancestorFailed k = false → s.dev.sleepGroup k = [k.val] →
       Completes (.horizonWrite k 0) s fun e => e.get .PWR_D_HORIZON_HORIZON k = 0 ∧ e.dom k = pwWAKING ∧
         e.get .PWR_D_LAST_WAKE_SRC k = 8) ∧
     (s.dev.get .X_PWR_HOR_SET k = 1 → s.dev.get .X_PWR_HOR_END k ≤ s.dev.clk → Completes (.horizonExpire k) s fun e =>
       ∀ m ∈ s.dev.sleepGroup k, e.get .PWR_D_HORIZON_HORIZON m = 0 ∧ e.get .X_PWR_HOR_SET m = 0)) ∧
  (∀ s : State,
     (∀ (k : Fin 158) (ev : Nat), s.dev.domAsleep k = true → s.dev.domUnused k = false → s.dev.ancestorFailed k = false →
       s.dev.groupEvent (s.dev.sleepGroup k) = some ev → ev - wakeTime (s.dev.dom k) ≤ s.dev.clk →
       s.dev.sleepGroup k = [k.val] → Completes (.timerWake k) s fun e => e.dom k = pwWAKING ∧
         e.get .PWR_D_LAST_WAKE_SRC k = 4 ∧ e.get .X_PWR_FROM k = s.dev.dom k ∧ e.get .X_PWR_BEGAN k = s.dev.clk) ∧
     (∀ n : Fin 64, s.dev.get .PWR_D_CFG_SD_WAKE n = 1 → s.dev.dom (domEngine (engineOf n)) = pwON →
       s.dev.mode (engineOf n) ≠ 0 → s.dev.dom (domTile (tileOf n)) = pwON → s.dev.width (engineOf n) = 1 →
       s.dev.domAsleep n = true → Completes (.sdWake n) s fun e => e.dom n = pwWAKING ∧ e.get .PWR_D_LAST_WAKE_SRC n = 1 ∧
         e.get .PWR_D_STATUS_ATTEMPT n = 0))

/-- R519, R520: a wake ends: the domain is ON, the event is shown, and a wake that named work clears the horizon or sets the
hold-off; then its blocks restart, recorded postings go live and held requests are served. The attempts of its waking
children begin now. R522: wake attempts. An attempt, whose ancestors are ON, fails at its deadline: 10 µs for a HOLD domain,
200 µs for a regulator, 2 ms where a PLL does not lock. It is held off; 1 ms later the next one begins; after the fourth the
domain is in WAKE_FAILED, from which only RETRY wakes it again. Where the rules leave a point open it states the model's
choice (log entry 49). -/
def Obligations.WakeCompletes : Prop :=
  (∀ (k : Fin 158) (s : State), s.dev.dom k = pwWAKING → s.dev.get .X_PWR_HELD_OFF k ≠ 1 →
     (∀ a ∈ ancestors k, s.dev.domOn a = true) → Completes (.wakeComplete k) s fun e => ∃ d1 : Dev,
       d1 = s.found.wokenOn k ∧ d1.dom k = pwON ∧ d1.get .PWR_D_EVENTS_WOKE k = 1 ∧
       (s.dev.get .PWR_D_LAST_WAKE_SRC k = 3 → d1.get .PWR_D_STATUS_HOLDOFF k = 16) ∧
       (s.dev.get .PWR_D_LAST_WAKE_SRC k = 1 → d1.get .PWR_D_HORIZON_HORIZON k = 0 ∧ d1.get .X_PWR_HOR_SET k = 0) ∧
       (∀ c ∈ childrenOf k, s.dev.dom c = pwWAKING → d1.get .X_PWR_BEGAN c = s.dev.clk) ∧
       Dev.Only (fun f j => (j = k.val ∧ f ∈ [F.PWR_D_STATUS_STATE, .PWR_D_EVENTS_WOKE, .PWR_D_STATUS_HOLDOFF,
         .PWR_D_HORIZON_HORIZON, .X_PWR_HOR_SET]) ∨ (f = .X_PWR_BEGAN ∧ j ∈ childrenOf k)) s.dev d1 ∧
       e = ((d1.wokenRest k (s.dev.get .X_PWR_FROM k)).afterMem k).serveHeld) ∧
  (∀ (k : Fin 158) (s : State),
     let Due := fun pll : Bool => s.dev.dom k = pwWAKING ∧ s.dev.get .X_PWR_HELD_OFF k ≠ 1 ∧
       (∀ a ∈ ancestors k, s.dev.domOn a = true) ∧ (s.dev.get .X_PWR_FROM k = 1 ∨ pll = false ∨ hasPll k = true) ∧
       s.dev.get .X_PWR_BEGAN k + attemptLimit (s.dev.get .X_PWR_FROM k) pll ≤ s.dev.clk
     attemptLimit 1 false = 10 * us ∧ attemptLimit 1 true = 10 * us ∧ attemptLimit 2 false = 200 * us ∧
     attemptLimit 3 false = 200 * us ∧ attemptLimit 3 true = 2 * ms ∧ attemptLimit 4 true = 2 * ms ∧
     (∀ pll, Due pll → s.dev.get .PWR_D_STATUS_ATTEMPT k ≠ 3 → s.dev.held = [] →
       Completes (.wakeAttemptFail k pll) s fun e => e.get .X_PWR_HELD_OFF k = 1 ∧ e.get .X_PWR_RETRY_CLK k = s.dev.clk ∧
         e.get .PWR_D_LAST_FAIL k = (if pll = true ∨ s.dev.get .X_PWR_FROM k = 1 then 2 else 1) ∧
         Dev.OnlyAt [.X_PWR_HELD_OFF, .X_PWR_RETRY_CLK, .PWR_D_LAST_FAIL] k s.dev e) ∧
     (s.dev.dom k = pwWAKING → s.dev.get .X_PWR_HELD_OFF k = 1 → s.dev.get .X_PWR_RETRY_CLK k + ms ≤ s.dev.clk →
       Completes (.wakeRetryStart k) s fun e => e.get .X_PWR_HELD_OFF k = 0 ∧ e.get .X_PWR_BEGAN k = s.dev.clk ∧
         e.get .PWR_D_STATUS_ATTEMPT k = satAdd F.PWR_D_STATUS_ATTEMPT.width (s.dev.get .PWR_D_STATUS_ATTEMPT k) 1 ∧
         e.get .PWR_D_EVENTS_RETRIED k = 1 ∧
         Dev.OnlyAt [.X_PWR_HELD_OFF, .X_PWR_BEGAN, .PWR_D_STATUS_ATTEMPT, .PWR_D_EVENTS_RETRIED] k s.dev e) ∧
     (∀ pll, Due pll → s.dev.get .PWR_D_STATUS_ATTEMPT k = 3 → s.dev.held = [] → domClass k = 10 → Completes (.wakeAttemptFail k pll) s fun e => e.dom k = pwFAILED ∧
         e.get .PWR_D_EVENTS_WAKE_FAILED k = 1 ∧ 704 ∈ e.pending) ∧
     (s.dev.dom k = pwFAILED → domClass k = 10 → s.dev.ancestorFailed k = false → Completes (.wakeRetry k) s fun e =>
       e.dom k = pwWAKING ∧ e.get .PWR_D_STATUS_ATTEMPT k = 0 ∧ e.get .PWR_D_LAST_WAKE_SRC k = 9))

/-- R515, R516: a group that is entering passes its abort points in order, and at its last the domain sleeps and counts the
entry; a wake request that came before then unwinds the entry. Where the rules leave a point open it states the model's
choice (log entry 49). -/
def Obligations.EntryPoints : Prop :=
  ∀ (k : Fin 158) (s : State), domClass k = 10 → s.dev.dom k = pwENTERING → s.dev.held = [] →
    (∀ p : Fin 6, p.val = s.dev.get .PWR_D_STATUS_POINT k + 1 → p.val < 5 →
      ¬ (s.dev.get .PWR_D_STATUS_GOAL k = 1 ∧ p.val = 2) → s.dev.get .X_PWR_WANT k = 0 →
      Completes (.entryComplete k p) s fun e => e.get .PWR_D_STATUS_POINT k = p ∧
        Dev.OnlyAt [.PWR_D_STATUS_POINT] k s.dev e) ∧
    (s.dev.get .PWR_D_STATUS_POINT k = 4 → s.dev.get .X_PWR_WANT k = 0 → Completes (.entryComplete k 5) s fun e =>
      e.dom k = s.dev.get .PWR_D_STATUS_GOAL k ∧ e.get .PWR_D_EVENTS_ENTERED k = 1 ∧
      e.get .PWR_D_COUNTS_ENTRIES k = satAdd F.PWR_D_COUNTS_ENTRIES.width (s.dev.get .PWR_D_COUNTS_ENTRIES k) 1) ∧
    (∀ p : Fin 6, p.val = s.dev.get .PWR_D_STATUS_POINT k + 1 → p.val < 5 →
      ¬ (s.dev.get .PWR_D_STATUS_GOAL k = 1 ∧ p.val = 2) → s.dev.get .X_PWR_WANT k ≠ 0 →
      Completes (.entryComplete k p) s fun e => e.dom k = pwROLLBACK ∧ e.get .PWR_D_EVENTS_ABORTED k = 1 ∧
        e.get .PWR_D_LAST_WAKE_SRC k = s.dev.get .X_PWR_WANT k)

/-- R501, R526: a lowering of a level ends when the regulator reaches its voltage, with source 706; in a raise the frequency
switches at the next tick. CLEAR_STATS clears the counts of a domain. R534, R546: REINSTATE of a failed site arms its next
scheduled reading and is ignored at any other; CLEAR_STATS clears the step counts. Where the rules leave a point open it
states the model's choice (log entry 50). -/
def Obligations.LevelsAndCounts : Prop :=
  (∀ s : State,
     (∀ t : Fin 4, s.dev.get .X_LVL_PHASE t = 1 → s.dev.get .X_LVL_V0 t = s.dev.voltGoal t →
       s.dev.get .X_LVL_CLK t ≤ s.dev.clk → Completes (.regulatorSettled t) s fun e => e.get .X_LVL_PHASE t = 0 ∧
         e.get .PWR_T_LEVEL_CHANGING t = 0 ∧ Dev.Raised 706 s.dev e) ∧
     (∀ t : Fin 4, s.dev.get .X_LVL_PHASE t = 2 → s.dev.get .X_LVL_CLK t + 100 * us ≤ s.dev.clk →
       s.dev.get .X_LVL_V0 t ≤ 160 → Completes (.regulatorSettled t) s fun e => e.get .X_LVL_PHASE t = 3 ∧
         Dev.OnlyAt [.X_LVL_PHASE] t s.dev e) ∧
     (∀ k : Fin 158, Completes (.pwrClearStats k) s fun e => e.get .PWR_D_COUNTS_ENTRIES k = 0 ∧
       e.get .PWR_D_COUNTS_REFUSALS k = 0 ∧ e.get .PWR_D_COUNTS_ABORTS k = 0 ∧
       Dev.OnlyAt [.PWR_D_COUNTS_ENTRIES, .PWR_D_COUNTS_REFUSALS, .PWR_D_COUNTS_ABORTS] k s.dev e)) ∧
  (∀ s : State,
     (∀ x : Fin 40, s.dev.siteFailed x = true → Completes (.reinstate x) s fun e => e.get .X_THM_REINST x = 1 ∧
       Dev.OnlyAt [.X_THM_REINST] x s.dev e) ∧
     (∀ x : Fin 40, s.dev.siteFailed x = false → Completes (.reinstate x) s fun e => e = s.found) ∧
     Completes .thmClearStats s fun e => (∀ z < 5, e.get .THM_Z_STEP_STEP_COUNT z = 0) ∧
       Dev.Only (fun f z => z < 5 ∧ f = .THM_Z_STEP_STEP_COUNT) s.dev e)

/-! ## Thermal supervision -/

/-- R528: a reading that the driver asks for begins at a site with power that has none in progress, and joins one that has.
R528, R532: a reading ends after 24 µs with the sensor's value corrected by its offset; a value outside -40 °C to 150 °C,
and a reading that does not end within 100 µs, make the site FAILED with their causes and raise source 739. Where the rules
leave a point open it states the model's choice (log entry 19). -/
def Obligations.ReadingsDemanded : Prop :=
  (∀ s : State,
     (∀ x : Fin 40, s.dev.siteGone x = false → s.dev.siteUp x = true → s.dev.get .X_THM_DEM x = 0 →
       Completes (.thmRead x) s fun e => e.get .X_THM_DEM x = 2 ∧ e.get .X_THM_CLK x = s.dev.clk ∧
         Dev.OnlyAt [.X_THM_DEM, .X_THM_CLK] x s.dev e) ∧
     (∀ x : Fin 40, s.dev.siteGone x = false → s.dev.siteUp x = true → s.dev.get .X_THM_DEM x ≠ 0 →
       Completes (.thmRead x) s fun e => e.get .X_THM_DEM x = s.dev.get .X_THM_DEM x ||| 2 ∧
         Dev.OnlyAt [.X_THM_DEM] x s.dev e) ∧
     ((∀ x < 40, s.dev.siteGone x = false ∧ s.dev.siteUp x = true) → Completes .thmReadAll s fun e =>
       ∀ x < 40, e.get .X_THM_DEM x = s.dev.get .X_THM_DEM x ||| 2)) ∧
  (∀ (x : Fin 40) (s : State), s.dev.get .X_THM_DEM x ≠ 0 → s.dev.siteFailed x = false →
     (∀ raw : BitVec 16, s.dev.get .X_THM_CLK x + 24 * us ≤ s.dev.clk → s.dev.clk ≤ s.dev.get .X_THM_CLK x + 100 * us →
       let v := raw.toInt + sx 16 (s.dev.get .X_NVM_SENSOR x)
       (s.dev.siteCheck x v = 0 → bitAt (s.dev.get .X_THM_DEM x) 0 = false → Completes (.readingDone x raw) s fun e =>
         e.get .THM_S_READING_VALUE x = ux 16 v ∧ e.get .THM_S_TIME_TIME x = s.dev.now ∧ e.get .X_THM_READ x = s.dev.clk + 1 ∧
         e.get .X_THM_STEP x = s.dev.get .X_THM_STEP x) ∧
       (v < -640 ∨ 2400 < v → Completes (.readingDone x raw) s fun e => e.get .THM_S_READING_VALUE x = ux 16 v ∧
         e.siteFailed x = true ∧ e.get .THM_S_STATUS_FAIL_CAUSE x = 1 ∧ 739 ∈ e.pending)) ∧
     (s.dev.get .X_THM_CLK x + 100 * us ≤ s.dev.clk → Completes (.readingTimeout x) s fun e => e.siteFailed x = true ∧
       e.get .THM_S_STATUS_FAIL_CAUSE x = 2 ∧ e.get .THM_S_EVENTS_FAILED x = 1 ∧ 739 ∈ e.pending))

/-- R536: a scheduled reading at or above an entry threshold DWELL times in a row raises the step of a site to that threshold's;
below the release threshold DWELL times in a row it falls by one. Where the rules leave a point open it states the model's
choice (log entry 47). -/
def Obligations.StepsFollowReadings : Prop :=
  ∀ (d : Dev) (x : Nat) (v : Int) (j : Nat), x < 40 → j < 4 →
    (d.get .X_THM_STEP x ≤ j → d.dwell ≤ d.get .X_THM_CNT (4 * x + j) + 1 → d.dwell ≤ 15 → d.thmTh x j ≤ v * 10 →
      (∀ i < 4, j < i → v * 10 < d.thmTh x i ∧ 0 < d.dwell) → (d.countEntry x v).get .X_THM_STEP x = j + 1) ∧
    (d.get .X_THM_STEP x = j + 1 → (∀ i < 4, v * 10 < d.thmTh x i) → 0 < d.dwell → v * 10 < d.thmTh x j - d.thmHyst →
      d.dwell ≤ d.get .THM_S_STATUS_RELEASE_CNT x + 1 →
      (d.countEntry x v).get .X_THM_STEP x = j ∧ (d.countEntry x v).get .THM_S_STATUS_RELEASE_CNT x = 0)

/-! ## Laser sources and two-wire masters -/

/-- R561, R562, R564: the states of a laser source. Insertion settles, 10 ms later INIT begins out of reset, two polls in a row
that read READY make it READY, a poll that reads 5 and a timeout make it FAULT, RETRY settles again, removal puts it in
reset as ABSENT and aborts a transfer, and the interrupt line is shown. R565, R566: two-wire transfers. A command to an idle
master of a present source starts a transfer and sends its bytes; one to a busy master or an absent source only gets its
result; the transfer ends, after its time at the rate of TW_SPEED or with an error before, with its result, its count and
source 4 of the engine, and a read fills the buffer. Where the rules leave a point open it states the model's choice (log
entries 52 and 80). -/
def Obligations.LaserStates : Prop :=
  (∀ (e : Fin 8) (s : State),
     (s.dev.ls e = lsABSENT → Completes (.lsInserted e) s fun d => d.ls e = lsSETTLING ∧
       d.get .SYS_LS_STATUS_PRESENT e = 1 ∧ d.get .X_LS_CLK e = s.dev.clk ∧ d.get .SYS_LS_EVENTS_INSERTED e = 1 ∧
       d.get .SYS_LS_STATUS_INSERTIONS e = satAdd F.SYS_LS_STATUS_INSERTIONS.width (s.dev.get .SYS_LS_STATUS_INSERTIONS e) 1 ∧
       d.get .PH_SRC_LINE (576 + 8 * e.val + 3) = 1) ∧
     (s.dev.ls e = lsSETTLING → s.dev.get .SYS_LS_STATUS_PRESENT e = 1 → s.dev.get .X_LS_CLK e + 10 * ms ≤ s.dev.clk →
       Completes (.lsSettled e) s fun d => d.ls e = lsINIT ∧ d.get .SYS_LS_STATUS_RESET_OUT e = 0 ∧
         (s.dev.get .SYS_LS_CTRL_AUTO_HP e = 1 → d.get .SYS_LS_STATUS_LPMODE_OUT e = 0) ∧ d.get .X_LS_CLK e = s.dev.clk) ∧
     (s.dev.ls e = lsINIT → s.dev.get .SYS_TW_STATUS_BUSY e ≠ 1 → s.dev.get .X_LS_POLL e + 10 * ms ≤ s.dev.clk →
       (Completes (.lsPoll e 5) s fun d => d.ls e = lsFAULT ∧ d.get .SYS_LS_STATUS_RESET_OUT e = 1) ∧
       (s.dev.get .SYS_LS_STATUS_LPMODE_OUT e ≠ 1 → s.dev.get .X_LS_HITS e = 1 → Completes (.lsPoll e 3) s fun d =>
         d.ls e = lsREADY ∧ d.get .SYS_LS_EVENTS_READY e = 1 ∧ d.get .SYS_LS_STATUS_MODSTATE e = 3) ∧
       (s.dev.get .SYS_LS_STATUS_LPMODE_OUT e ≠ 1 → s.dev.get .X_LS_HITS e = 0 → Completes (.lsPoll e 3) s fun d =>
         d.ls e = lsINIT ∧ d.get .X_LS_HITS e = 1)) ∧
     (s.dev.ls e = lsINIT → s.dev.get .X_LS_CLK e + max 1 (s.dev.get .SYS_LS_CTRL_TIMEOUT e) * 100 * ms ≤ s.dev.clk →
       Completes (.lsInitTimeout e) s fun d => d.ls e = lsFAULT ∧ d.get .SYS_LS_EVENTS_FAULT e = 1 ∧
         d.get .SYS_LS_STATUS_RESET_OUT e = 1 ∧ d.get .SYS_LS_STATUS_LPMODE_OUT e = 1) ∧
     (s.dev.ls e = lsFAULT → s.dev.get .SYS_LS_STATUS_PRESENT e = 1 → Completes (.lsRetry e) s fun d => d.ls e = lsSETTLING ∧
       d.get .X_LS_CLK e = s.dev.clk) ∧
     (s.dev.ls e = lsREADY → Completes (.lsRemoved e) s fun d => d.ls e = lsABSENT ∧ d.get .SYS_LS_STATUS_PRESENT e = 0 ∧
       d.get .SYS_LS_EVENTS_REMOVED e = 1 ∧ (s.dev.get .SYS_TW_STATUS_BUSY e = 1 → d.get .SYS_TW_STATUS_BUSY e = 0 ∧
         d.get .SYS_TW_STATUS_RESULT e = 5)) ∧
     (Completes (.lsInt e true) s fun d => d.get .SYS_LS_STATUS_INT e = 1 ∧ d.get .SYS_LS_EVENTS_INT e = 1 ∧
       d.get .PH_SRC_LINE (576 + 8 * e.val + 3) = 1) ∧
     Completes (.lsInt e false) s fun d => d.get .SYS_LS_STATUS_INT e = 0 ∧ Dev.OnlyAt [.SYS_LS_STATUS_INT] e s.dev d) ∧
  (∀ (e : Fin 8) (s : State),
     (∀ (addr : Byte) (len : BitVec 7) (w : Bool) (page bank : Byte),
       (s.dev.get .SYS_TW_STATUS_BUSY e ≠ 1 → s.dev.ls e ≠ lsOFF → s.dev.ls e ≠ lsABSENT →
         Completes (.twTransferCmd e addr len w page bank) s fun d => d.get .SYS_TW_STATUS_BUSY e = 1 ∧
           d.get .X_TW_ADDR e = addr.toNat ∧ d.get .X_TW_CLK e = s.dev.clk ∧ d.get .X_TW_WRITE e = b2n w ∧
           (addr.toNat < 128 → d.out = if w then [.twoWire e addr.toNat (s.dev.twBytes e (len.toNat + 1))] else [])) ∧
       (s.dev.get .SYS_TW_STATUS_BUSY e = 1 → Completes (.twTransferCmd e addr len w page bank) s fun d =>
         d.get .SYS_TW_STATUS_RESULT e = 6 ∧ Dev.OnlyAt [.SYS_TW_STATUS_RESULT] e s.dev d) ∧
       (s.dev.get .SYS_TW_STATUS_BUSY e ≠ 1 → s.dev.ls e = lsOFF ∨ s.dev.ls e = lsABSENT →
         Completes (.twTransferCmd e addr len w page bank) s fun d => d.get .SYS_TW_STATUS_RESULT e = 7 ∧
           Dev.OnlyAt [.SYS_TW_STATUS_RESULT] e s.dev d)) ∧
     (s.dev.get .SYS_TW_STATUS_BUSY e = 1 →
       let P := fun (result : Nat) (d : Dev) => d.get .SYS_TW_STATUS_BUSY e = 0 ∧ d.get .SYS_TW_STATUS_RESULT e = result ∧
         d.get .SYS_TW_STATUS_TRANSFERS e =
           satAdd F.SYS_TW_STATUS_TRANSFERS.width (s.dev.get .SYS_TW_STATUS_TRANSFERS e) 1 ∧
         Dev.Raised (576 + 8 * e.val + 4) s.dev d
       (∀ data, Completes (.twTransferDone e .nack data) s (P 2) ∧ Completes (.twTransferDone e .stuck data) s (P 4) ∧
         (s.dev.get .X_TW_CLK e + s.dev.twTime e ≤ s.dev.clk → Completes (.twTransferDone e .done data) s fun d => P 1 d ∧
           (s.dev.get .X_TW_WRITE e ≠ 1 → data.length ≤ s.dev.get .X_TW_LEN e + 1 → data.length ≤ 128 →
             d.twBytes e data.length = data))) ∧
       (s.dev.get .X_TW_CLK e + 10 * ms ≤ s.dev.clk → Completes (.twStretchTimeout e) s (P 3))))

/-! ## Bring-up -/

/-- R48, R74, R554, R576: a cold power-up and a loss of the auxiliary supply leave the boot flash and the snapshots, and every
register but the slot directory at its reset value, apart from what shows the laser sources and the snapshots and the SMBus
address straps; POST_TIME and the queues start again. R48, R551, R552: a warm reset. Its cause and count are recorded,
POST_TIME goes on, GDDR7 keeps its contents, nothing pends, and the hub core is off until what holds it off has gone. R542,
R551, R558: the hub core gets power again once every supply is good, no reset is low and no shutdown stands: STAGE is BOOT,
and after a warm reset source 10 pends. PERST_L and the endpoint's 5 ms are followed. Where the rules leave a point open it
states the model's choice (log entries 7 and 36). -/
def Obligations.ColdPowerUpResets : Prop :=
  (∀ s : State,
     (∀ (present : Byte) (straps : BitVec 2), Completes (.coldPowerUp present straps) s fun e =>
       e.get .X_SMB_STRAP 0 = straps.toNat ∧ e.flash = s.dev.flash ∧ e.nvm = s.dev.nvm ∧
       e.snaps = s.dev.snaps ∧ e.pending = [] ∧ e.posts = [] ∧ e.clk = 0 ∧ e.live = [] ∧ e.msgs = [] ∧
       (∀ x < 8, e.get .SYS_LS_STATUS_PRESENT x = b2n (bitAt present.toNat x)) ∧
       ∀ f i, f ∉ flashFields → f ∉ [F.SYS_LS_STATUS_PRESENT, .SYS_SNAP_STATUS_VALID, .SYS_SNAP_STATUS_IN_USE, .X_SMB_STRAP] →
         e.get f i = f.reset i) ∧
     Completes .vauxLoss s fun e => e.get .X_SYS_AUX 0 = 0 ∧ e.flash = s.dev.flash ∧ e.pending = [] ∧ e.posts = [] ∧
       e.clk = 0 ∧ e.get .TIME_NOW_NOW 0 = 0 ∧ ∃ id, ∀ a < 2 ^ 35, e.cell a = Config.lostByte id a) ∧
  (∀ s : State, s.dev.get .X_SYS_AUX 0 = 1 → s.dev.get .X_SYS_OFF 0 ≠ 1 →
     let P := fun (cause : Nat) (e : Dev) => e.get .SYS_RESET_CAUSE_CAUSE 0 = cause ∧ e.now = s.dev.now ∧ e.clk = s.dev.clk ∧
       e.get .SYS_RESET_CAUSE_WARM_COUNT 0 =
         satAdd F.SYS_RESET_CAUSE_WARM_COUNT.width (s.dev.get .SYS_RESET_CAUSE_WARM_COUNT 0) 1 ∧
       e.gddr = s.dev.gddr ∧ e.plan = s.dev.plan ∧ e.posts = [] ∧ e.service = []
     (s.dev.get .X_SYS_RST 0 ≠ 1 → Completes .sysRstFall s fun e => P 1 e ∧ e.get .X_SYS_OFF 0 = 1 ∧ e.get .X_SYS_RST 0 = 1 ∧
       e.pending = []) ∧
     (s.dev.get .X_SYS_MAIN 0 = 1 → Completes .mainPgFall s fun e => P 4 e ∧ e.get .X_SYS_OFF 0 = 1 ∧ e.get .X_SYS_MAIN 0 = 0 ∧
       e.pending = []) ∧
     (∀ req, s.dev.get .X_SYS_MAIN 0 = 1 → s.dev.get .X_SYS_RST 0 ≠ 1 → s.dev.get .THM_SD_STATUS_STATE 0 = 0 →
       Completes (.warmResetCmd req) s fun e => P (if req = .smbus then 3 else 2) e ∧ e.get .X_SYS_OFF 0 = 0 ∧
         e.get .SYS_BOOT_STATUS_STAGE 0 = 1 ∧ e.pending = [10])) ∧
  (∀ s : State,
     (s.dev.get .X_SYS_OFF 0 = 1 → s.dev.get .X_SYS_AUX 0 = 1 → s.dev.get .THM_SD_STATUS_STATE 0 = 0 →
       (s.dev.get .X_SYS_MAIN 0 = 1 → s.dev.get .X_SYS_RST 0 = 1 → s.dev.get .SYS_RESET_CAUSE_CAUSE 0 = 1 →
         Completes .sysRstRise s fun e => e.get .X_SYS_OFF 0 = 0 ∧ e.get .X_SYS_RST 0 = 0 ∧
           e.get .SYS_BOOT_STATUS_STAGE 0 = 1 ∧ Dev.Raised 10 s.dev e) ∧
       (s.dev.get .X_SYS_RST 0 ≠ 1 → s.dev.get .SYS_RESET_CAUSE_CAUSE 0 = 0 →
         Completes .mainPgRise s fun e => e.get .X_SYS_OFF 0 = 0 ∧ e.get .X_SYS_MAIN 0 = 1 ∧
           e.get .SYS_BOOT_STATUS_STAGE 0 = 1 ∧ e.pending = s.dev.pending)) ∧
     (s.dev.get .X_SYS_PERST 0 = 1 → Completes .perstRise s fun e => e.get .X_SYS_PERST 0 = 0 ∧
       e.get .X_SYS_PG_CLK 0 = s.dev.clk ∧ Dev.OnlyAt [.X_SYS_PERST, .X_SYS_PG_CLK] 0 s.dev e) ∧
     (s.dev.get .X_SYS_OFF 0 ≠ 1 → s.dev.get .X_SYS_PERST 0 ≠ 1 → s.dev.get .X_SYS_EP 0 ≠ 1 →
       s.dev.get .X_SYS_PG_CLK 0 + 5 * ms ≤ s.dev.clk → Completes .endpointReady s fun e => e.get .X_SYS_EP 0 = 1 ∧
         Dev.OnlyAt [.X_SYS_EP] 0 s.dev e) ∧
     (s.dev.get .X_SYS_OFF 0 ≠ 1 → Completes .perst s fun e => e.get .X_SYS_PERST 0 = 1 ∧ e.get .X_SYS_EP 0 = 0 ∧
       e.get .DMA_LINK_EVENTS_LINK_DOWN 0 = 1 ∧ e.get .DMA_LINK_STATUS_BME 0 = 0 ∧ ∀ q < 16, e.dq q = dqDISABLED))

/-- R553, R556, R557, R568: the firmware starts from the valid image with the newer sequence number, or the boot ends in FAILED
without one; the card-removal stop withdraws the plan and places trained memory in self refresh. R559, R560: a save is
refused while one runs or no plan is live, else it begins; when it ends the snapshot of the plan stands in its slot, and
source 11 pends. Where the rules leave a point open it states the model's choice (log entries 36, 37 and 80). -/
def Obligations.BootAndStop : Prop :=
  (∀ s : State, s.dev.get .X_SYS_OFF 0 ≠ 1 →
     (∀ areas : Byte, s.dev.get .SYS_BOOT_STATUS_STAGE 0 = 1 →
       (Completes (.firmwareStart none none areas) s fun e => e.get .SYS_BOOT_STATUS_STAGE 0 = 5 ∧
         Dev.OnlyAt [.SYS_BOOT_STATUS_STAGE] 0 s.dev e) ∧
       ∀ (a b : Option BootImage) (x : BootImage) (image : Bool),
         (a = some x ∧ image = false ∧ ∀ y, b = some y → newer y.seq.toNat x.seq.toNat = false) ∨
           (b = some x ∧ image = true ∧ ∀ y, a = some y → newer x.seq.toNat y.seq.toNat = true) →
         Completes (.firmwareStart a b areas) s fun e => ∃ d1 : Dev, d1 = s.found.firmwareOn image x.version.toNat ∧ d1.get .SYS_BOOT_STATUS_STAGE 0 = 2 ∧ d1.get .X_SYS_FW 0 = 1 ∧ d1.get .SYS_BOOT_STATUS_IMAGE 0 = b2n image ∧
         d1.get .SYS_BOOT_STATUS_FW_VERSION 0 = x.version.toNat ∧
         Dev.OnlyAt [.SYS_BOOT_STATUS_STAGE, .X_SYS_FW, .SYS_BOOT_STATUS_IMAGE, .SYS_BOOT_STATUS_FW_VERSION] 0 s.dev d1 ∧
         e = d1.firmwareRest areas.toNat) ∧
     (s.dev.get .X_SYS_FW 0 = 1 → Completes .cardDown s fun e => e.get .SYS_BOOT_STATUS_STAGE 0 = 4 ∧
       e.get .SYS_BOOT_STATUS_DEV_READY 0 = 0 ∧ (s.found.planWithdraw.memTrained = true → e.memState = meREFRESH ∧
         ∀ m < 8, e.get .MEM_C_STATUS_SELF_REFRESH m = 1))) ∧
  (∀ s : State,
     (s.dev.get .SYS_SNAP_STATUS_BUSY 0 = 1 → Completes .snapshotSave s fun e => e.get .SYS_SNAP_STATUS_RESULT 0 = 3 ∧
       Dev.Raised 11 s.dev e ∧ Dev.OnlyRaisingAt [.SYS_SNAP_STATUS_RESULT] 0 s.dev e) ∧
     (s.dev.get .SYS_SNAP_STATUS_BUSY 0 ≠ 1 → s.dev.ps ≠ psLIVE → Completes .snapshotSave s fun e =>
       e.get .SYS_SNAP_STATUS_RESULT 0 = 2 ∧ Dev.Raised 11 s.dev e) ∧
     (s.dev.get .SYS_SNAP_STATUS_BUSY 0 ≠ 1 → s.dev.ps = psLIVE → Completes .snapshotSave s fun e =>
       e.get .SYS_SNAP_STATUS_BUSY 0 = 1 ∧ e.ps = psFLASH ∧ e.get .X_PLAN_PREV 0 = psLIVE ∧
       Dev.OnlyAt [.SYS_SNAP_STATUS_BUSY, .X_SNAP_SLOT, .X_PLAN_PREV, .PLAN_STATUS_STATE] 0 s.dev e) ∧
     (s.dev.get .SYS_SNAP_STATUS_BUSY 0 = 1 → Completes .snapshotSaveDone s fun e => e.get .SYS_SNAP_STATUS_BUSY 0 = 0 ∧
       e.get .SYS_SNAP_STATUS_RESULT 0 = 1 ∧ e.ps = s.dev.get .X_PLAN_PREV 0 ∧ Dev.Raised 11 s.dev e ∧
       ∃ x rest, e.snaps = x :: rest ∧ x.slot = s.dev.get .X_SNAP_SLOT 0 ∧ x.planId = s.dev.get .X_PLAN_ID 0 ∧
         x.crc = s.dev.get .X_PLAN_CRC 0 ∧ x.ledg = s.dev.ledg ∧ ∀ y ∈ rest, y.slot ≠ x.slot))

/-- R541 to R543: thermal shutdown. A trip shows its site and time and turns the hub off, locked out after three restarts within
the hour; a restart after 1 s, or by command from lockout once the comparators read clear, is a warm reset with cause 5 and
source 740. Where the rules leave a point open it states the model's choice (log entry 47). -/
def Obligations.ThermalShutdown : Prop :=
  ∀ s : State, s.dev.get .X_SYS_AUX 0 = 1 →
    (∀ x : Fin 40, s.dev.get .THM_SD_STATUS_STATE 0 = 0 → Completes (.thermalTrip x) s fun e =>
      e.get .THM_SD_STATUS_STATE 0 = (if s.dev.hourCount = 3 then 2 else 1) ∧ e.get .THM_SD_STATUS_SITE 0 = x ∧
      e.get .THM_SD_TIME_TIME 0 = s.dev.now ∧ e.get .X_SYS_OFF 0 = 1 ∧
      e.get .THM_SD_STATUS_TOTAL 0 = satAdd F.THM_SD_STATUS_TOTAL.width (s.dev.get .THM_SD_STATUS_TOTAL 0) 1) ∧
    (s.dev.get .X_SYS_OFF 0 = 1 → s.dev.get .X_SYS_MAIN 0 = 1 → s.dev.get .X_SYS_RST 0 ≠ 1 →
      let P := fun e : Dev => e.get .THM_SD_STATUS_STATE 0 = 0 ∧ e.get .X_SYS_OFF 0 = 0 ∧ e.get .SYS_BOOT_STATUS_STAGE 0 = 1 ∧
        e.get .SYS_RESET_CAUSE_CAUSE 0 = 5 ∧ 10 ∈ e.pending ∧ 740 ∈ e.pending
      (s.dev.get .THM_SD_STATUS_STATE 0 = 1 → s.dev.get .X_THM_SD_CLK 0 + sec ≤ s.dev.clk →
        Completes .thermalRestart s fun e => P e ∧ e.get .X_THM_RESTART 0 = s.dev.now ∧ e.get .X_THM_RESTART_SET 0 = 1) ∧
      (s.dev.get .THM_SD_STATUS_STATE 0 = 2 → Completes (.thermalRestartCmd true) s P)) ∧
    (s.dev.get .THM_SD_STATUS_STATE 0 = 2 → Completes (.thermalRestartCmd false) s fun e =>
      e.get .THM_SD_STATUS_REFUSED 0 = 1 ∧ Dev.OnlyAt [.THM_SD_STATUS_REFUSED] 0 s.dev e)

/-! ## Receive lanes -/

/-- R96, R118, R119: signal detect, a cycle slip and the acquisition limit move a lane. An input that stays at or above the
threshold, taken within 20 to 100, for 8 µs starts acquisition from WAIT_SIGNAL, and a lower one does nothing; an input
below 75 % of it for 1 µs and a slip take a LOCKED lane out of lock and send it to WAIT_SIGNAL and to TIMING; at the limit
the lane starts over with signal detect asserted. R116, R141: what the driver asks of a lane: a restart noted for a later
tick, its counters cleared, its readback held and released. Where the rules leave a point open it states the model's choice
(log entry 41). -/
def Obligations.LaneStateEvents : Prop :=
  (∀ (n : Fin 64) (amp : Byte) (s : State),
     let th := clampN 20 100 (s.dev.lget .LRX_FE_SD_THR n)
     (s.dev.rx n = rxWAIT → s.dev.looped n = false → s.dev.domOn (domRx n) = true → th ≤ amp.toNat →
       s.dev.get .X_LRX_SD_CLK n + 8 * us ≤ s.dev.clk → Completes (.signalDetectAssert n amp) s fun e => e.rx n = rxGAIN ∧
       e.get .LRX_STATUS_SIGNAL n = 1 ∧ e.get .X_LRX_ACQ n = 0 ∧
       Dev.OnlyAt [.LRX_STATUS_SIGNAL, .LRX_STATUS_STATE, .LRX_STATUS_CLERK_FROZEN, .X_LRX_ACQ, .X_LRX_SNR_OK, .X_LRX_SNR_LOW,
         .X_LRX_TRIAL, .X_LRX_BEST_SNR] n s.dev e) ∧
     (amp.toNat < th → Completes (.signalDetectAssert n amp) s (· = s.found)) ∧
     (3 * th ≤ 4 * amp.toNat → Completes (.signalDetectDeassert n amp) s (· = s.found)) ∧
     (1 ≤ s.dev.rx n → s.dev.rx n ≤ 5 → s.dev.looped n = false → s.dev.domOn (domRx n) = true → 4 * amp.toNat < 3 * th →
       s.dev.get .X_LRX_SD_CLK n + us ≤ s.dev.clk → s.dev.get .LRX_STATUS_SIGNAL n = 1 → s.dev.get .X_LRX_WLEN n ≠ 8191 →
       Completes (.signalDetectDeassert n amp) s fun e => e.rx n = rxWAIT ∧ e.get .LRX_STATUS_SIGNAL n = 0 ∧
         e.get .LRX_EVENTS_LOS n = 1 ∧ e.get .LRX_STATUS_TIMING_LOCK n = 0 ∧ 64 + 8 * n.val ∈ e.pending ∧
         (s.dev.rx n = rxLOCKED → e.get .LRX_STATUS_LOCKED n = 0 ∧ e.get .LRX_EVENTS_LOCK_LOST n = 1 ∧
           e.get .LRX_VALID_STATUS_LAST_CHANGE n = 8 ∧ 64 + 8 * n.val + 1 ∈ e.pending)) ∧
     (s.dev.rx n = rxLOCKED → Completes (.cycleSlip n) s fun e => e.rx n = rxTIMING ∧ e.get .LRX_STATUS_LOCKED n = 0 ∧
       e.get .LRX_EVENTS_LOCK_LOST n = 1 ∧
       e.get .LRX_TR_STATUS_SLIPS n = satAdd F.LRX_TR_STATUS_SLIPS.width (s.dev.get .LRX_TR_STATUS_SLIPS n) 1) ∧
     (s.dev.rx n ≠ rxLOCKED → Completes (.cycleSlip n) s fun e => Dev.OnlyAt [.LRX_TR_STATUS_SLIPS] n s.dev e ∧
       e.get .LRX_TR_STATUS_SLIPS n = satAdd F.LRX_TR_STATUS_SLIPS.width (s.dev.get .LRX_TR_STATUS_SLIPS n) 1) ∧
     (2 ≤ s.dev.rx n → s.dev.rx n ≤ 4 → 4 * max 1 (s.dev.lget .LRX_LOCK_CFG_ACQ_LIMIT n) ≤ s.dev.get .X_LRX_ACQ n →
       Completes (.acqFail n) s fun e => e.get .LRX_EVENTS_ACQ_FAIL n = 1 ∧ 64 + 8 * n.val + 2 ∈ e.pending ∧
         (s.dev.get .LRX_STATUS_SIGNAL n = 1 → e.rx n = rxGAIN ∧ e.get .X_LRX_ACQ n = 0) ∧
         (s.dev.get .LRX_STATUS_SIGNAL n = 0 → s.dev.looped n = false → e.rx n = rxWAIT) ∧
         (s.dev.lget .LRX_FFE_CTRL_SEED_SRC n = 2 → ∀ i < 48,
           e.lget .LRX_FFE_TAP_LIVE (48 * n + i) = if i = 12 then 256 else 0))) ∧
  (∀ (n : Fin 64) (s : State),
     (Completes (.reacquire n) s fun e => e.get .X_LRX_REACQ n = 1 ∧ e.get .X_LRX_REACQ_LAST n = s.dev.clk ∧
       (s.dev.get .X_LRX_REACQ n ≠ 1 → e.get .X_LRX_REACQ_CLK n = s.dev.clk) ∧
       Dev.OnlyAt [.X_LRX_REACQ, .X_LRX_REACQ_CLK, .X_LRX_REACQ_LAST] n s.dev e) ∧
     (Completes (.holdReadback n) s fun e => e.get .LRX_STATUS_READBACK_HELD n = 1 ∧ e.get .X_LRX_RELEASE n = 0 ∧
       Dev.OnlyAt [.LRX_STATUS_READBACK_HELD, .X_LRX_RELEASE] n s.dev e) ∧
     (Completes (.releaseReadback n) s fun e => e.get .X_LRX_RELEASE n = 1 ∧ Dev.OnlyAt [.X_LRX_RELEASE] n s.dev e) ∧
     Completes (.lrxClearStats n) s fun e =>
       let fs := [F.LRX_CHK_BITS_COUNT, .LRX_CHK_ERRS_COUNT, .LRX_CHK_SKIPPED_COUNT, .LRX_CHK_STATUS_RESYNCS,
         .LRX_INVALID_SEG_COUNT, .LRX_SEG_COUNT, .LRX_TR_STATUS_SLIPS, .LRX_EVENTS_DROP_COUNT]
       let gs := [F.LRX_CHK_GRADE_ERR_COUNT, .LRX_GRADE_COUNT_COUNT]
       (∀ f ∈ fs, e.get f n = 0) ∧ (∀ f ∈ gs, ∀ g < 4, e.get f (4 * n + g) = 0) ∧
         Dev.Only (fun f i => (f ∈ fs ∧ i = n) ∨ (f ∈ gs ∧ ∃ g < 4, i = 4 * n + g)) s.dev e)

/-- R89, R134 to R136: the shadow sampler of a lane: the driver takes it while it is free, is refused while another holds it,
and frees it; a sweep point starts with a dwell of 10 to 30, and ends, once its 2^DWELL symbols have passed with one in 64
sampled, with its hits, of which there are no more than symbols. R137 to R139: the pattern checker: a new pattern or enable
clears its counters and its lock, a write that changes neither does nothing. The search ends on the pattern itself, from any
of its symbols on, and then the enabled checker locks; 128 bit errors in 2,048 symbols end the lock, and fewer do not. Both
raise source 5 of the lane. Where the rules leave a point open it states the model's choice (log entry 41). -/
def Obligations.ShadowSampler : Prop :=
  (∀ (n : Fin 64) (s : State),
     let h := s.dev.get .LRX_SHADOW_STATUS_HOLDER n
     (h ≤ 1 → Completes (.shadowRequest n true) s fun e => e.get .LRX_SHADOW_STATUS_HOLDER n = 1 ∧
       e.get .LRX_SHADOW_STATUS_GRANTED n = 1 ∧ e.get .LRX_SHADOW_CTRL_REQUEST n = 1) ∧
     (1 < h → Completes (.shadowRequest n true) s fun e => e.get .LRX_SHADOW_STATUS_HOLDER n = h ∧
       e.get .LRX_EVENTS_SHADOW_REFUSED n = 1 ∧ e.get .PLAN_RES_LOG_RESOURCE 0 = 7 ∧ e.get .PLAN_RES_LOG_INDEX 0 = n ∧
       e.get .PLAN_RES_LOG_HOLDER 0 = h ∧ Dev.Raised 962 s.dev e) ∧
     (h = 1 → Completes (.shadowRequest n false) s fun e => e.get .LRX_SHADOW_STATUS_HOLDER n = 0 ∧
       e.get .LRX_SHADOW_STATUS_GRANTED n = 0 ∧ Dev.OnlyAt [.LRX_SHADOW_CTRL_REQUEST, .LRX_SHADOW_STATUS_HOLDER,
         .LRX_SHADOW_STATUS_GRANTED, .LRX_SHADOW_STATUS_BUSY] n s.dev e) ∧
     (s.dev.get .LRX_SHADOW_STATUS_GRANTED n = 1 → Completes (.shadowStart n) s fun e =>
       e.get .LRX_SHADOW_STATUS_BUSY n = 1 ∧ e.get .LRX_SHADOW_STATUS_DONE n = 0 ∧
       e.get .X_LRX_SH_PHASE n = s.dev.get .LRX_SHADOW_CTRL_PHASE n ∧ 10 ≤ e.get .X_LRX_SH_DWELL n ∧
       e.get .X_LRX_SH_DWELL n ≤ 30 ∧ e.get .X_LRX_SH_CLK n = s.dev.clk ∧ Dev.OnlyAt [.X_LRX_SH_EYE, .X_LRX_SH_PHASE,
         .X_LRX_SH_THRESH, .X_LRX_SH_DWELL, .X_LRX_SH_CLK, .LRX_SHADOW_STATUS_BUSY, .LRX_SHADOW_STATUS_DONE] n s.dev e) ∧
     (∀ hits : Word, s.dev.get .LRX_SHADOW_STATUS_BUSY n = 1 → (∀ t < 8, s.dev.tapRuns t = false) →
       s.dev.get .X_LRX_SH_CLK n + s.dev.shadowSpan n ≤ s.dev.clk → Completes (.shadowPointDone n hits) s fun e =>
         e.get .LRX_SHADOW_HITS_HITS n = min hits.toNat (2 ^ s.dev.get .X_LRX_SH_DWELL n) ∧
         e.get .LRX_SHADOW_STATUS_BUSY n = 0 ∧ e.get .LRX_SHADOW_STATUS_DONE n = 1 ∧
         Dev.OnlyAt [.LRX_SHADOW_HITS_HITS, .LRX_SHADOW_STATUS_BUSY, .LRX_SHADOW_STATUS_DONE] n s.dev e)) ∧
  (∀ (n : Fin 64) (s : State),
     (∀ (on : Bool) (p : BitVec 3), s.dev.get .LRX_CHK_CTRL_ENABLE n ≠ b2n on ∨ s.dev.get .LRX_CHK_CTRL_PATTERN n ≠ p.toNat →
       Completes (.checkerCtrlWrite n on p) s fun e => e.get .LRX_CHK_CTRL_ENABLE n = b2n on ∧
         e.get .LRX_CHK_CTRL_PATTERN n = p.toNat ∧ e.get .LRX_CHK_STATUS_LOCKED n = 0 ∧ e.get .LRX_CHK_BITS_COUNT n = 0 ∧
         e.get .LRX_CHK_ERRS_COUNT n = 0 ∧ (∀ g < 4, e.get .LRX_CHK_GRADE_ERR_COUNT (4 * n + g) = 0) ∧
         (s.dev.get .LRX_CHK_STATUS_LOCKED n = 1 → e.get .LRX_EVENTS_CHK_LOSS n = 1 ∧ 64 + 8 * n.val + 5 ∈ e.pending)) ∧
     (∀ (on : Bool) (p : BitVec 3), s.dev.get .LRX_CHK_CTRL_ENABLE n = b2n on → s.dev.get .LRX_CHK_CTRL_PATTERN n = p.toNat →
       Completes (.checkerCtrlWrite n on p) s fun e => e = s.found) ∧
     (∀ (p a : Nat) (words : List Nat), p ≤ 3 →
       checkerFinds p words ((List.range (searchLength p)).map fun i => patternSymbol p words (a + i)) = true) ∧
     (∀ levels : List (Fin 4), s.dev.get .LRX_CHK_CTRL_ENABLE n = 1 → s.dev.get .LRX_CHK_CTRL_PATTERN n ≤ 3 →
       s.dev.get .LRX_CHK_STATUS_LOCKED n ≠ 1 →
       checkerFinds (s.dev.get .LRX_CHK_CTRL_PATTERN n) (s.dev.patWords n) (levels.map fun a => a.val) = true →
       Completes (.checkerLock n levels) s fun e => e.get .LRX_CHK_STATUS_LOCKED n = 1 ∧ e.get .LRX_EVENTS_CHK_LOCK n = 1 ∧
         Dev.Raised (64 + 8 * n.val + 5) s.dev e ∧ Dev.OnlyRaisingAt [.LRX_CHK_STATUS_LOCKED, .LRX_EVENTS_CHK_LOCK] n s.dev e) ∧
     (∀ errors : List (Fin 3), errors.length = 2048 → (errors.map fun x => x.val).sum < 128 →
       Completes (.checkerUnlock n errors) s (· = s.found)) ∧
     (∀ errors : List (Fin 3), errors.length = 2048 → 128 ≤ (errors.map fun x => x.val).sum →
       s.dev.get .LRX_CHK_STATUS_LOCKED n = 1 → Completes (.checkerUnlock n errors) s fun e => e.get .LRX_CHK_STATUS_LOCKED n = 0 ∧
       e.get .LRX_CHK_STATUS_RESYNCS n = satAdd F.LRX_CHK_STATUS_RESYNCS.width (s.dev.get .LRX_CHK_STATUS_RESYNCS n) 1 ∧
       e.get .LRX_EVENTS_CHK_LOSS n = 1 ∧ Dev.Raised (64 + 8 * n.val + 5) s.dev e ∧
       Dev.OnlyRaisingAt [.LRX_CHK_STATUS_LOCKED, .LRX_CHK_STATUS_RESYNCS, .LRX_EVENTS_CHK_LOSS, .X_LRX_CHK_RAN] n s.dev e))

/-! ## Transmit lanes -/

/-- R160, R170, R173 to R175: at a frame boundary every lane of the group takes the source its live settings select, restarts
its pattern where a restart waits, and takes its timing from the lowest LOCKED lane where its own is gone; a loopback buffer
with no frame or four is recentred for every lane of the group in FAR_LOOP, with a slip counted. R162, R163, R167, R169,
R179: an immediate cause squelches a lane at once; at a frame boundary a lane without a cause begins its ramp up, or is ON
at once with RAMP 0, and a lane that is ON with a ramped cause alone ramps down, or squelches at once with RAMP 0. A ramp
runs its gain from its start to its end over its symbols, and then ends in its state; the PLLs of a starting engine lock.
Where the rules leave a point open it states the model's choice (log entry 73). -/
def Obligations.TransmitSources : Prop :=
  (∀ (n : Fin 64) (s : State),
     (Completes (.sourceSwitch n) s fun e => ∀ m ∈ s.dev.groupLanes n, e.get .LTX_STATUS_SOURCE m = s.dev.txSource m ∧
       (s.dev.txSource m = 2 → s.dev.get .LTX_STATUS_SOURCE m ≠ 2 → e.get .X_LTX_PAT_CLK m = s.dev.clk ∧ e.patternIndex m = 0)) ∧
     (Completes (.patternRestart n) s fun e =>
       (∀ m ∈ s.dev.groupLanes n, s.dev.get .X_LTX_PAT_RESTART m = 1 →
         e.get .X_LTX_PAT_CLK m = s.dev.clk ∧ e.patternIndex m = 0 ∧ e.get .X_LTX_PAT_RESTART m = 0) ∧
       Dev.Only (fun f m => m ∈ s.dev.groupLanes n ∧ (f = .X_LTX_PAT_CLK ∨ f = .X_LTX_PAT_RESTART)) s.dev e) ∧
     (Completes (.loopClockSwitch n) s fun e =>
       (∀ m ∈ s.dev.groupLanes n, s.dev.get .LTX_STATUS_SOURCE m = 3 → s.dev.timingGone m = true →
         match s.dev.timingLane m with
         | none => e.get .LTX_STATUS_LOOP_CLK_VALID m = 0
         | some k => e.get .LTX_STATUS_LOOP_CLK_VALID m = 1 ∧ e.get .LTX_STATUS_LOOP_CLK_LANE m = k % 8 ∧
             (s.dev.get .LTX_STATUS_LOOP_CLK_LANE m ≠ k % 8 → e.get .LTX_EVENTS_LOOP_CLK_SWITCH m = 1)) ∧
       Dev.Only (fun f m => m ∈ s.dev.groupLanes n ∧ f ∈ [F.LTX_STATUS_LOOP_CLK_VALID, .LTX_STATUS_LOOP_CLK_LANE,
         .LTX_EVENTS_LOOP_CLK_SWITCH]) s.dev e) ∧
     let g := s.dev.groupOf n
     let loops := s.dev.loopOf g
     s.dev.get .SPR_CFG_WIDTH (engineOf n) ≤ 3 → (∃ m ∈ s.dev.groupLanes n, s.dev.get .LTX_STATUS_SOURCE m = 3) →
       loops.length = 0 ∨ loops.length = 4 → Completes (.loopRecentre n) s fun e =>
         (loops.length = 4 → e.loopOf g = loops.drop 1) ∧ (loops = [] → (e.loopOf g).length = 1) ∧
         (∀ h, h ≠ g → e.loopOf h = s.dev.loopOf h) ∧
         (∀ m ∈ s.dev.groupLanes n, s.dev.get .LTX_STATUS_SOURCE m = 3 →
           e.get .LTX_LOOP_STATUS_FILL_LEVEL m = (e.loopOf g).length ∧
           e.get .LTX_LOOP_STATUS_SLIPS m = satAdd F.LTX_LOOP_STATUS_SLIPS.width (s.dev.get .LTX_LOOP_STATUS_SLIPS m) 1 ∧
           e.get .LTX_EVENTS_LOOP_SLIP m = 1 ∧ 64 + 8 * m + 7 ∈ e.pending) ∧
         Dev.OnlyRaising (fun f m => m ∈ s.dev.groupLanes n ∧ f ∈ [F.LTX_LOOP_STATUS_FILL_LEVEL, .LTX_LOOP_STATUS_SLIPS,
           .LTX_EVENTS_LOOP_SLIP]) { s.dev with loops := e.loops } e) ∧
  (∀ (n : Fin 64) (s : State),
     (Completes (.squelchImmediate n) s fun e => e.get .LTX_STATUS_SQ_CAUSE n = s.dev.causes n ∧
       (hasImmediate (s.dev.causes n) = true → e.tx n = txSQUELCH ∧ (s.dev.tx n = txON → e.get .LTX_EVENTS_SQUELCHED n = 1 ∧
         64 + 8 * n.val + 6 ∈ e.pending)) ∧
       (hasImmediate (s.dev.causes n) = false → Dev.OnlyAt [.LTX_STATUS_OUTPUT, .LTX_STATUS_SQ_CAUSE, .X_LTX_RAMP_FROM,
         .X_LTX_RAMP_CLK] n s.dev e)) ∧
     (Completes (.rampStart n) s fun e => ∀ m ∈ s.dev.groupLanes n,
       (s.dev.tx m = txSQUELCH → s.dev.causes m = 0 →
         (s.dev.lget .LTX_CTRL_RAMP m = 0 → e.tx m = txON) ∧
         (s.dev.lget .LTX_CTRL_RAMP m ≠ 0 → e.tx m = txRAMP_UP ∧ e.gainAt m s.dev.clk = 0 ∧ e.gainAt m (e.rampEnd m) = 4096)) ∧
       (s.dev.tx m = txON → hasRamped (s.dev.causes m) = true → hasImmediate (s.dev.causes m) = false →
         (s.dev.lget .LTX_CTRL_RAMP m = 0 → e.tx m = txSQUELCH) ∧
         (s.dev.lget .LTX_CTRL_RAMP m ≠ 0 → e.tx m = txRAMP_DOWN ∧ e.gainAt m s.dev.clk = 4096 ∧
           e.gainAt m (e.rampEnd m) = 0))) ∧
     (s.dev.tx n = txRAMP_UP → s.dev.rampEnd n ≤ s.dev.clk → Completes (.rampDone n) s fun e => e.tx n = txON ∧ e.get .LTX_EVENTS_UNSQUELCHED n = 1 ∧
       64 + 8 * n.val + 6 ∈ e.pending) ∧
     (s.dev.tx n = txRAMP_DOWN → s.dev.rampEnd n ≤ s.dev.clk → Completes (.rampDone n) s fun e => e.tx n = txSQUELCH ∧ e.get .LTX_EVENTS_SQUELCHED n = 1 ∧
       Dev.Raised (64 + 8 * n.val + 6) s.dev e ∧ Dev.OnlyRaisingAt [.LTX_STATUS_OUTPUT, .LTX_EVENTS_SQUELCHED] n s.dev e) ∧
     (∀ e : Fin 8, s.dev.get .X_LTX_START e = 1 → Completes (.txPllLock e) s fun d => d.get .X_LTX_START e = 2 ∧
       (∀ m ∈ lanesOf e, d.get .LTX_STATUS_PLL_LOCK m = 1) ∧
       Dev.Only (fun f i => (f = .X_LTX_START ∧ i = e) ∨ (f = .LTX_STATUS_PLL_LOCK ∧ i ∈ lanesOf e)) s.dev d) ∧
     Completes (.ltxClearStats n) s fun e =>
       let fs := [F.LTX_FRAMES_COUNT, .LTX_CLIPS_TOTAL, .LTX_LOOP_STATUS_SLIPS, .LTX_EVENTS_DROP_COUNT]
       (∀ f ∈ fs, e.get f n = 0) ∧ Dev.OnlyAt fs n s.dev e)

/-! ## Spread groups -/

/-- R190 to R192, R194, R195: the words of a lane at one offset in eight frame periods. They pass the test of a lane's marker if
three of those in VALID segments have it as their syndrome, the lane's own marker first; with no marker passed nothing
happens. A start is resolved by whole frames to within half a frame of the first anchored lane. In HUNT the marker of
another lane is an order error; the lane's own anchors it, and the last lane of the group sends the group to VERIFY, or with
too much skew clears the anchors. In LOCKED a lane within 128 symbols of its place joins again. R193 to R195, R203, R204,
R210, R217: frames received. In VERIFY a frame in which fewer than 32 normal codewords have syndrome 0 sends the group back
to HUNT, a good one counts, and the second makes it LOCKED with allowance 1. In LOCKED each frame takes the next number; one
with every lane VALID and fewer than 32 such codewords is bad; with no stream locked and none waiting it is counted at once,
with the bits its first pass has corrected. 16 bad ones, or a lane away for 256, end the lock. Where the rules leave a point
open it states the model's choice (log entries 32 and 72). -/
def Obligations.AnchorsFound : Prop :=
  (∀ (n : Fin 64) (words : List (Bool × List Bool)) (start : Word) (s : State),
     let g := s.dev.groupOf n
     let w := s.dev.width (engineOf n)
     let own := s.dev.local_ n
     let passes := fun h => 3 ≤ ((words.take 8).filter fun x => x.1 && syndrome x.2 == 0xC0 + h).length
     let first := sx 32 start.toNat
     let at_ := s.dev.resolveStart n first
     let d1 := s.found.takeAnchor n at_
     (s.dev.anchoredLanes g = [] → at_ = first) ∧
     (s.dev.get .SPR_CFG_WIDTH (engineOf n) ≤ 3 → ∀ m l, s.dev.anchoredLanes g = m :: l →
       (∃ k : Int, at_ = first + s.dev.segLen n * k) ∧ 2 * (at_ - s.dev.frameStart m).natAbs ≤ s.dev.segLen n) ∧
     ((∀ h, h = own ∨ h < w → ¬ passes h) → Completes (.anchorFound n words start) s fun e => e = s.found) ∧
     (s.dev.rxLocked n = true → s.dev.groupExists g = true → s.dev.anchored n = false →
       (s.dev.sg g = sgHUNT → s.dev.get .X_SPR_WAIT g ≠ 1 →
         (∀ h < w, passes h → ¬ passes own → (∀ k < h, ¬ passes k) → Completes (.anchorFound n words start) s fun e =>
           e.get .SPR_G_ALIGN_ORDER_FOUND g = h ∧ e.get .SPR_G_ALIGN_ORDER_LANE g = own ∧
           e.get .SPR_G_EVENTS_ORDER_ERR g = 1 ∧ Dev.Raised (576 + 8 * (g / 8) + 2) s.dev e ∧
           Dev.OnlyRaisingAt [.SPR_G_ALIGN_ORDER_FOUND, .SPR_G_ALIGN_ORDER_LANE, .SPR_G_EVENTS_ORDER_ERR] g s.dev e) ∧
         (passes own → d1.skew g ≤ 256 → (∃ m ∈ d1.lanesOfGroup g, d1.anchored m = false) →
           Completes (.anchorFound n words start) s fun e => e.sg g = sgHUNT ∧
             e.get .SPR_G_STATUS_ANCHOR g = s.dev.get .SPR_G_STATUS_ANCHOR g ||| 2 ^ own ∧
             e.get .X_SPR_START n = ux 32 at_ ∧ e.get .SPR_G_ALIGN_SKEW g = d1.skew g) ∧
         (passes own → d1.skew g ≤ 256 → (∀ m ∈ d1.lanesOfGroup g, d1.anchored m = true) →
           Completes (.anchorFound n words start) s fun e => e.sg g = sgVERIFY ∧ e.get .X_SPR_GOOD g = 0 ∧
             e.get .X_SPR_REF g = ux 32 (d1.latestStart (d1.lanesOfGroup g))) ∧
         (passes own → 256 < d1.skew g → Completes (.anchorFound n words start) s fun e => e.sg g = sgHUNT ∧
           e.get .SPR_G_EVENTS_SKEW_ERR g = 1 ∧ e.get .SPR_G_STATUS_ANCHOR g = 0 ∧
           e.get .SPR_G_ALIGN_SKEW g = min 511 (d1.skew g) ∧ Dev.Raised (576 + 8 * (g / 8) + 2) s.dev e)) ∧
       (s.dev.sg g = sgLOCKED → passes own → (at_ - s.dev.frameStart n).natAbs ≤ 128 →
         Completes (.anchorFound n words start) s fun e => e.sg g = sgLOCKED ∧
           e.get .SPR_G_STATUS_ANCHOR g = s.dev.get .SPR_G_STATUS_ANCHOR g ||| 2 ^ own ∧
           e.get .SPR_G_EVENTS_LANE_REJOIN g = 1 ∧ e.get .X_SPR_REJOIN n = 0))) ∧
  (∀ (g : Fin 64) (letters : List (List (Fin 16))) (time : DWord) (s : State),
     let w := s.dev.width (g / 8)
     let lanes := s.dev.lanesOfGroup g
     let good := ((List.range 320).filter fun m => anchorOf w m == none && syndrome (wordBits w m letters) == 0).length
     let missed := fun l => syndrome (wordBits w (320 * l / w) letters) ≠ 0xC0 + l
     (s.dev.sg g = sgVERIFY →
       (good < 32 → Completes (.spreadFrameReceived g letters time) s fun e => e.sg g = sgHUNT ∧
         e.get .SPR_G_STATUS_ANCHOR g = 0) ∧
       (32 ≤ good → s.dev.get .X_SPR_GOOD g = 0 → Completes (.spreadFrameReceived g letters time) s
         fun e => e.sg g = sgVERIFY ∧ e.get .X_SPR_GOOD g = 1 ∧ Dev.Only (fun f i => (f = .X_SPR_GOOD ∧ i = g) ∨
           (i ∈ lanes ∧ f ∈ [.X_LRX_FLAGS, .LRX_SEG_COUNT, .LRX_INVALID_SEG_COUNT, .X_LRX_SEG_ABS, .X_LRX_BAD_SEG,
             .LRX_CHK_SKIPPED_COUNT])) s.dev e) ∧
       (32 ≤ good → s.dev.get .X_SPR_GOOD g ≠ 0 → Completes (.spreadFrameReceived g letters time) s
         fun e => e.sg g = sgLOCKED ∧ e.get .SPR_G_STATUS_ALLOW g = 1 ∧ e.get .SPR_G_EVENTS_LOCK_GAINED g = 1 ∧
           e.get .SPR_G_LAT_TARGET g = s.dev.targetFor g 1 ∧ Dev.Raised (576 + 8 * (g.val / 8)) s.dev e)) ∧
     (s.dev.sg g = sgLOCKED → Completes (.spreadFrameReceived g letters time) s fun e =>
       e.get .X_SPR_NO g = (s.dev.get .X_SPR_NO g + 1) % 2 ^ F.X_SPR_NO.width ∧
       (∀ n ∈ lanes, e.get .LRX_SEG_COUNT n = (s.dev.get .LRX_SEG_COUNT n + 1) % 2 ^ F.LRX_SEG_COUNT.width) ∧
       ((∀ n ∈ lanes, s.dev.segValid n = true) →
         e.get .X_SPR_BAD g = if good < 32 then min 16 (s.dev.get .X_SPR_BAD g + 1) else 0) ∧
       (s.dev.get .SPR_CFG_WIDTH (g / 8) ≤ 3 → (g.val % 8 + 1) * w ≤ 8 → ∀ n ∈ lanes,
         (s.dev.segValid n = true → missed (s.dev.local_ n) → e.get .SPR_L_ALIGN_ANCHOR_MISS n =
           satAdd F.SPR_L_ALIGN_ANCHOR_MISS.width (s.dev.get .SPR_L_ALIGN_ANCHOR_MISS n) 1) ∧
         (s.dev.rxLocked n = true → s.dev.anchored n = false →
           e.get .X_SPR_REJOIN n = min 256 (s.dev.get .X_SPR_REJOIN n + 1))) ∧
       (s.dev.lockedStreams g = [] → s.dev.get .X_SPR_FIN g = s.dev.get .X_SPR_NO g → (∀ x ∈ s.dev.rxFrames, x.group ≠ g) →
         e.get .SPR_G_FRAMES_COUNT g = (s.dev.get .SPR_G_FRAMES_COUNT g + 1) % 2 ^ F.SPR_G_FRAMES_COUNT.width ∧
         (s.dev.get .X_SPR_UNC g = 1 → e.get .SPR_G_EVENTS_UNC g = 1 ∧ 576 + 8 * (g.val / 8) + 1 ∈ e.pending) ∧
         (s.dev.get .X_SPR_UNC g ≠ 1 → ∃ x : RxFrame, x.letters = letters ∧ x.words = ((List.range 320).map fun m =>
             innerPass (codewordMarker w m) (wordBits w m letters) (wordClasses w m x.valid letters) 4) ∧
           (∀ l < w, bitAt x.valid l = s.dev.segValid (s.dev.firstLane g + l)) ∧
           ∀ n ∈ lanes, e.get .SPR_L_CORR_BITS_COUNT n = (s.dev.get .SPR_L_CORR_BITS_COUNT n +
             correctedBits w (s.dev.local_ n) x) % 2 ^ F.SPR_L_CORR_BITS_COUNT.width))) ∧
     (s.dev.sg g = sgLOCKED → 16 ≤ s.dev.get .X_SPR_BAD g → Completes (.groupLockLost g) s fun e => e.sg g = sgHUNT ∧
       e.get .SPR_G_EVENTS_LOCK_LOST g = 1 ∧ e.get .SPR_G_STATUS_ALLOW g = 0 ∧ e.get .SPR_G_STATUS_ANCHOR g = 0 ∧
       576 + 8 * (g.val / 8) ∈ e.pending ∧ (∀ x ∈ e.rxFrames, x.group ≠ g)) ∧
     (∀ n : Fin 64, s.dev.sg (s.dev.groupOf n) = sgLOCKED → s.dev.rxLocked n = true → s.dev.anchored n = false →
       256 ≤ s.dev.get .X_SPR_REJOIN n → Completes (.rejoinLimit n) s fun e => e.sg (s.dev.groupOf n) = sgHUNT ∧
         e.get .SPR_G_EVENTS_LOCK_LOST (s.dev.groupOf n) = 1))

/-- R157, R187 to R189, R196, R212: a frame sent carries, on every lane that is not in PATTERN, the lane's levels of the
codewords of what the group's sources give, and counts there; a squelched lane drives nothing. A stream is locked from a
boundary that its phase gives, and lost; groups asked to relock note it; the counters are cleared. R199 to R203: an RS
codeword of a locked stream whose last symbol has come, the earliest of its group, is counted and takes between one and the
usable number of passes. One that decodes, with the first pass if that finds a codeword, enters the histogram at its last
pass; else it is uncorrectable. The host gets the codeword, marked if UNC_MARK is set and it is uncorrectable. What the
outer decoder answers is a codeword within the bound of errors and erasures. Where the rules leave a point open it states
the model's choice (log entries 32, 69 and 71). -/
def Obligations.SpreadCommands : Prop :=
  (∀ s : State,
     (∀ (n : Fin 64) (courier : List (List Byte)), s.dev.framing (engineOf n) = true → s.dev.get .SPR_CFG_WIDTH (engineOf n) ≤ 3 →
       Completes (.transmitFrame n courier) s fun e =>
         let w := s.dev.width (engineOf n)
         let lanes := s.dev.groupLanes n
         (∀ m ∈ lanes, e.get .LTX_FRAMES_COUNT m = if s.dev.get .LTX_STATUS_SOURCE m = 2 then
           s.dev.get .LTX_FRAMES_COUNT m else (s.dev.get .LTX_FRAMES_COUNT m + 1) % 2 ^ F.LTX_FRAMES_COUNT.width) ∧
         (∀ m ∈ lanes, s.dev.tx m ≠ txSQUELCH → ∃ ls os, Out.lineFrame m ls os ∈ e.out ∧ ls.length = 21760 / w ∧
           os.length = 21760 / w ∧ (s.dev.get .LTX_STATUS_SOURCE m ≠ 2 →
             ls = levelsOf (laneBits w (s.dev.local_ m) (frameWords w (lanes.map fun k => s.dev.streamShare k))))) ∧
         (∀ m ∈ lanes, s.dev.tx m = txSQUELCH → ∀ ls os, Out.lineFrame m ls os ∉ e.out) ∧
         Dev.Only (fun f i => (i ∈ lanes ∧ f ∈ [.LTX_FRAMES_COUNT, .X_LTX_IDLE, .X_LTX_POS, .X_LTX_CLIPS,
             .LTX_LOOP_STATUS_FILL_LEVEL]) ∨ (f = .X_LTX_TAIL ∧ ∃ m ∈ lanes, ∃ j < 8, i = 8 * m + j))
           { s.dev with loops := e.loops, looped_ := e.looped_, lineIn := e.lineIn, free := e.free } e) ∧
     (∀ (n : Fin 64) (phase : BitVec 16), let g := s.dev.groupOf n
       s.dev.sg g = sgLOCKED → s.dev.streamLocked n = false → Completes (.streamLock n phase) s fun e =>
         e.get .SPR_G_STATUS_STREAM_LOCK g = s.dev.get .SPR_G_STATUS_STREAM_LOCK g ||| 2 ^ s.dev.local_ n ∧
         e.get .X_SPR_PHASE n = s.dev.get .X_SPR_NO g * (40960 / s.dev.width (engineOf n)) + phase.toNat ∧
         e.get .X_SPR_CW n = 0 ∧ Dev.Only (fun f i => (f = .SPR_G_STATUS_STREAM_LOCK ∧ i = g) ∨
           ((f = .X_SPR_PHASE ∨ f = .X_SPR_CW) ∧ i = n)) s.dev e) ∧
     (∀ n : Fin 64, let g := s.dev.groupOf n
       s.dev.streamLocked n = true → (∀ x ∈ s.dev.rxFrames, x.group ≠ g) → Completes (.streamLost n) s fun e =>
         e.streamLocked n = false ∧ e.get .SPR_G_EVENTS_STREAM_LOST g = 1 ∧
         e.rsDone = (s.dev.rsDone.filter fun x => x.lane != n.val) ∧
         Dev.OnlyAt [.SPR_G_STATUS_STREAM_LOCK, .SPR_G_EVENTS_STREAM_LOST] g { s.dev with rsDone := e.rsDone } e) ∧
     (∀ (e : Fin 8) (groups : Byte), Completes (.spreadRelock e groups) s fun d =>
       (∀ q < 8, bitAt groups.toNat q = true → s.dev.groupExists (8 * e + q) = true →
         d.get .X_SPR_RELOCK (8 * e + q) = 1 ∧ d.get .X_SPR_RELOCK_LAST (8 * e + q) = s.dev.clk ∧
         d.get .X_SPR_RELOCK_CLK (8 * e + q) =
           if s.dev.get .X_SPR_RELOCK (8 * e + q) = 1 then s.dev.get .X_SPR_RELOCK_CLK (8 * e + q) else s.dev.clk) ∧
       Dev.Only (fun f g => (f = .X_SPR_RELOCK ∨ f = .X_SPR_RELOCK_CLK ∨ f = .X_SPR_RELOCK_LAST) ∧ ∃ q < 8, g = 8 * e + q ∧
         bitAt groups.toNat q = true ∧ s.dev.groupExists g = true) s.dev d) ∧
     ∀ e : Fin 8, Completes (.sprClearStats e) s fun d =>
       (∀ q < 8, (∀ f ∈ groupCounters ++ laneCounters, d.get f (8 * e + q) = 0) ∧
         ∀ k < 6, d.get .SPR_G_PASS_HIST_COUNT (6 * (8 * e + q) + k) = 0) ∧
       Dev.Only (fun f i => (f ∈ groupCounters ++ laneCounters ∧ ∃ q < 8, i = 8 * e + q) ∨
         (f = .SPR_G_PASS_HIST_COUNT ∧ ∃ q < 8, ∃ k < 6, i = 6 * (8 * e + q) + k)) s.dev d) ∧
  ((∀ (word erased syms : List Nat), erased.length ≤ 30 → rsDecode word erased = some syms →
     (∀ x ∈ rsSyndromes syms, x = 0) ∧
     2 * ((List.range 544).filter fun i => syms.getD i 0 != word.getD i 0 && !erased.contains i).length + erased.length ≤ 30) ∧
   ∀ (n : Fin 64) (s : State),
     let g := s.dev.groupOf n
     let syms := s.dev.rsSymbols n (s.dev.rsNow n) []
     s.dev.sg g = sgLOCKED → s.dev.rsFirst g = some n.val →
     s.dev.rsEnd n ≤ s.dev.get .X_SPR_NO g * (40960 / s.dev.width (engineOf n)) →
     Completes (.rsCodewordDecode n) s fun e =>
       e.get .SPR_G_RS_CW_COUNT g = (s.dev.get .SPR_G_RS_CW_COUNT g + 1) % 2 ^ F.SPR_G_RS_CW_COUNT.width ∧
       e.get .X_SPR_CW n = (s.dev.get .X_SPR_CW n + 1) % 2 ^ F.X_SPR_CW.width ∧
       ∃ (k : Nat) (answer : Option (List Nat)) (last : List Nat), 1 ≤ k ∧ k ≤ max 1 (s.dev.usable g) ∧
         (∀ c, rsDecode syms [] = some c → k = 1 ∧ answer = some c) ∧
         (s.dev.usable g ≤ 1 → last = syms ∧ answer = rsDecode syms []) ∧
         e.get .SPR_G_PASSES_COUNT g = (s.dev.get .SPR_G_PASSES_COUNT g + k) % 2 ^ F.SPR_G_PASSES_COUNT.width ∧
         (answer ≠ none → e.get .SPR_G_PASS_HIST_COUNT (6 * g + (k - 1)) =
           satAdd F.SPR_G_PASS_HIST_COUNT.width (s.dev.get .SPR_G_PASS_HIST_COUNT (6 * g + (k - 1))) 1 ∧
           e.get .SPR_G_RS_UNC_COUNT g = s.dev.get .SPR_G_RS_UNC_COUNT g) ∧
         (answer = none → e.get .SPR_G_RS_UNC_COUNT g = (s.dev.get .SPR_G_RS_UNC_COUNT g + 1) % 2 ^ F.SPR_G_RS_UNC_COUNT.width ∧
           e.get .X_POOL_FAIL g = 1 ∧ (e.get .X_SPR_UNC g = 1 ∨ e.get .SPR_G_EVENTS_UNC g = 1)) ∧
         (s.dev.get .HOST_P_STATUS_TX_SRC n = 0 → Out.rsWord n (answer.getD
           (if s.dev.lget .SPR_CTRL_UNC_MARK (engineOf n) = 1 then markWord (s.dev.mode (engineOf n)) last else last)) ∈ e.out))

/-- R221, R223, R234: a grant computation of a pool in ON: groups that are not LOCKED are granted nothing, a forced group its
forced value, and the grants are ready for the tick. CLEAR_STATS clears the pool's counters. -/
def Obligations.PoolCommands : Prop :=
  ∀ (t : Fin 4) (s : State),
    (s.dev.poolOn t = true → Completes (.grantComputed t) s fun e => e.get .X_POOL_READY t = 1 ∧
      (∀ g ∈ s.dev.tileGroups t, s.dev.sg g ≠ sgLOCKED → e.get .POOL_G_REQ_GRANT g = 0 ∧ e.get .POOL_G_REQ_REQUEST g = 0) ∧
      (∀ g ∈ s.dev.poolGroups t, s.dev.lon .POOL_G_CTRL_FORCE_EN g = true →
        e.get .POOL_G_REQ_GRANT g = code6 (s.dev.lget .POOL_G_CTRL_FORCE g)) ∧
      ∀ g ∈ s.dev.poolGroups t, s.dev.lon .POOL_G_CTRL_FORCE_EN g = false →
        e.get .POOL_G_REQ_GRANT g ≤ max (e.get .POOL_G_REQ_REQUEST g) (s.dev.poolFloor g)) ∧
    (s.dev.poolOn t = false → Completes (.grantComputed t) s fun e => e = s.found) ∧
    Completes (.poolClearStats t) s fun e =>
      let fs := [F.POOL_G_AGE_MAX_AGE, .POOL_G_COUNTS_DENIED, .POOL_G_COUNTS_URGENT_ENTRIES]
      e.get .POOL_SLOTS_COUNT t = 0 ∧ (∀ f ∈ fs, ∀ j < 16, e.get f (16 * t + j) = 0) ∧
        Dev.Only (fun f i => (f = .POOL_SLOTS_COUNT ∧ i = t) ∨ (f ∈ fs ∧ ∃ j < 16, i = 16 * t + j)) s.dev e

/-! ## Host lanes and ports -/

/-- R242, R247, R248, R254, R256: the states of a host lane: signal detect in WAIT_SIGNAL starts training or adaptation, its
loss from ADAPT or READY ends it and the lock of the lanes it carries, training ends or times out, a restart is noted for a
later tick, and a capture-out lane is READY 20 µs after its start and OFF 1 µs after its end. R248: a training request in
TRAINING sets each transmit tap to the value asked for within its live limit, and is answered at limit if any was cut. Where
the rules leave a point open it states the model's choice (log entry 75). -/
def Obligations.HostLaneStates : Prop :=
  (∀ (h : Fin 128) (s : State),
     (s.dev.get .HOST_L_STATUS_ROLE h = rolePort → s.dev.hl h = hlWAIT → Completes (.hostSignalDetect h) s fun e =>
       e.get .HOST_L_STATUS_SIGNAL h = 1 ∧
       (s.dev.lon .HOST_L_CTRL_C2M h = false ∧ s.dev.lon .HOST_L_CTRL_TRAIN h = true → e.hl h = hlTRAINING ∧
         e.get .X_HOST_TRAIN_CLK h = s.dev.clk ∧
         e.get .HOST_L_EVENTS_TRAIN_COUNT h = satAdd F.HOST_L_EVENTS_TRAIN_COUNT.width (s.dev.get .HOST_L_EVENTS_TRAIN_COUNT h) 1) ∧
       (s.dev.lon .HOST_L_CTRL_C2M h = true ∨ s.dev.lon .HOST_L_CTRL_TRAIN h = false → e.hl h = hlADAPT ∧
         e.get .HOST_L_STATUS_PRECODE_TX_LIVE h = s.dev.lget .HOST_L_CTRL_PRECODE_TX h ∧
         e.get .HOST_L_STATUS_PRECODE_RX_LIVE h = s.dev.lget .HOST_L_CTRL_PRECODE_RX h)) ∧
     (s.dev.get .HOST_L_STATUS_ROLE h ≠ rolePort ∨ s.dev.hl h = hlOFF → Completes (.hostSignalDetect h) s fun e => e = s.found) ∧
     (s.dev.hl h = hlADAPT ∨ s.dev.hl h = hlREADY → Completes (.hostSignalLost h) s fun e => e.hl h = hlWAIT ∧
       e.get .HOST_L_STATUS_SIGNAL h = 0 ∧ e.get .HOST_L_EVENTS_LOS h = 1 ∧ e.get .HOST_L_STATUS_CDR_LOCK h = 0 ∧
       (s.dev.hl h = hlREADY → e.get .HOST_L_EVENTS_READY_LOST h = 1 ∧ 640 + 16 * (h.val / 32) + 4 ∈ e.pending) ∧
       ∀ n, s.dev.portOf h = some n → e.get .HOST_P_STATUS_AM_LOCK n ≠ 1 ∧ e.get .X_HOST_LANES h = 0) ∧
     (∀ preRx : Bool, s.dev.hl h = hlTRAINING → Completes (.trainingComplete h preRx) s fun e => e.hl h = hlADAPT ∧
       e.get .HOST_L_EVENTS_TRAIN_OK h = 1 ∧ e.lget .HOST_L_CTRL_PRECODE_RX h = b2n preRx ∧
       e.lget .HOST_L_CTRL_PRECODE_TX h = s.dev.get .X_HOST_PRE h ∧ e.get .HOST_L_CTRL_PRECODE_TX h = s.dev.get .X_HOST_PRE h) ∧
     (s.dev.hl h = hlTRAINING → s.dev.get .X_HOST_TRAIN_CLK h + max 1 (s.dev.lget .HOST_L_TRAIN_TIMEOUT h) * ms ≤ s.dev.clk →
       Completes (.trainingTimeout h) s fun e => e.hl h = hlWAIT ∧ e.get .HOST_L_EVENTS_TRAIN_FAIL h = 1 ∧
         640 + 16 * (h.val / 32) + 4 ∈ e.pending) ∧
     (Completes (.retrain h) s fun e => e.get .X_HOST_RETRAIN h = 1 ∧ e.get .X_HOST_RETRAIN_LAST h = s.dev.clk ∧
       (s.dev.get .X_HOST_RETRAIN h ≠ 1 → e.get .X_HOST_RETRAIN_CLK h = s.dev.clk) ∧
       (s.dev.get .X_HOST_RETRAIN h = 1 → e.get .X_HOST_RETRAIN_CLK h = s.dev.get .X_HOST_RETRAIN_CLK h) ∧
       Dev.OnlyAt [.X_HOST_RETRAIN, .X_HOST_RETRAIN_CLK, .X_HOST_RETRAIN_LAST] h s.dev e) ∧
     (Completes (.hostLClearStats h) s fun e => e.get .HOST_L_EVENTS_TRAIN_COUNT h = 0 ∧
       Dev.OnlyAt [.HOST_L_EVENTS_TRAIN_COUNT] h s.dev e) ∧
     (s.dev.get .HOST_L_STATUS_ROLE h = roleCapture → s.dev.hl h ≠ hlREADY → s.dev.get .X_COUT_CLK h + 20 * us ≤ s.dev.clk →
       Completes (.captureOutReady h) s fun e => e.hl h = hlREADY ∧ Dev.Raised (640 + 16 * (h.val / 32) + 4) s.dev e ∧
         Dev.OnlyRaising (fun f i => (f = .HOST_L_STATUS_STATE ∧ i = h) ∨ (f = .X_HOST_AM_CLK ∧ s.dev.portOf h = some i)) s.dev e) ∧
     (s.dev.get .X_COUT_END h = 1 → s.dev.get .X_COUT_CLK h + us ≤ s.dev.clk → Completes (.captureOutPowerDown h) s fun e =>
       e.hl h = hlOFF ∧ e.get .X_COUT_END h = 0)) ∧
  (∀ (h : Fin 128) (cm3 cm2 cm1 cp1 : BitVec 6) (pre : Option Bool) (s : State), s.dev.hl h = hlTRAINING →
     let tap := fun (v : BitVec 6) (f : F) => limitTap v (s.dev.lget f h)
     let cut := fun (v : BitVec 6) (f : F) => decide (tap v f ≠ sx 6 v.toNat)
     Completes (.trainingRequest h cm3 cm2 cm1 cp1 pre) s fun e =>
       e.get .HOST_L_TXEQ_LIVE_CM3 h = ux 6 (tap cm3 .HOST_L_TXEQ_LIMIT_CM3_MAX) ∧
       e.get .HOST_L_TXEQ_LIVE_CM2 h = ux 6 (tap cm2 .HOST_L_TXEQ_LIMIT_CM2_MAX) ∧
       e.get .HOST_L_TXEQ_LIVE_CM1 h = ux 6 (tap cm1 .HOST_L_TXEQ_LIMIT_CM1_MAX) ∧
       e.get .HOST_L_TXEQ_LIVE_CP1 h = ux 6 (tap cp1 .HOST_L_TXEQ_LIMIT_CP1_MAX) ∧
       e.out = [.trainAnswer h (cut cm3 .HOST_L_TXEQ_LIMIT_CM3_MAX || cut cm2 .HOST_L_TXEQ_LIMIT_CM2_MAX ||
         cut cm1 .HOST_L_TXEQ_LIMIT_CM1_MAX || cut cp1 .HOST_L_TXEQ_LIMIT_CP1_MAX)] ∧
       (∀ b, pre = some b → e.get .X_HOST_PRE h = b2n b) ∧
       Dev.OnlyAt [.HOST_L_TXEQ_LIVE_CM3, .HOST_L_TXEQ_LIVE_CM2, .HOST_L_TXEQ_LIVE_CM1, .HOST_L_TXEQ_LIVE_CP1, .X_HOST_PRE] h
         s.dev e)

/-- R240 to R246, R250, R256: alignment-marker lock of a port is gained two marker periods after READY once every lane is locked
with a skew within 180 ns, and lost; each codeword of a locked port is decoded and counted, and goes on, corrected, marked
or as received, to the line and in near-end loopback to the host; the transmit source follows the group and its settings at
a boundary. Where the rules leave a point open it states the model's choice (log entries 69, 71, 73 and 75). -/
def Obligations.HostPorts : Prop :=
  ∀ (n : Fin 64) (s : State),
    let all := portLanes (s.dev.mode (engineOf n))
    (∀ a b skew : BitVec 16, s.dev.hostLanes n ≠ [] → (∀ h ∈ s.dev.hostLanes n, s.dev.hl h = hlREADY) →
      s.dev.get .X_HOST_AM_CLK n + markerPeriods (s.dev.mode (engineOf n)) ≤ s.dev.clk →
      let d1 := s.found.lockLanes n a.toNat b.toNat
      let locked := d1.get .HOST_P_STATUS_LANES_LOCKED n
      (∀ ha hb, s.dev.hostLanes n = [ha, hb] → ha ≠ hb → d1.get .X_HOST_LANES ha = s.dev.get .X_HOST_LANES ha ||| (a.toNat &&& all) ∧
        d1.get .X_HOST_LANES hb = s.dev.get .X_HOST_LANES hb ||| (b.toNat &&& all) ∧
        locked = d1.get .X_HOST_LANES ha ||| d1.get .X_HOST_LANES hb) ∧
      (∀ h, s.dev.hostLanes n = [h] → locked = s.dev.get .X_HOST_LANES h ||| (a.toNat &&& all)) ∧
      (locked ≠ all → Completes (.amLockGained n a b skew) s fun e =>
        e.get .HOST_P_STATUS_LANES_LOCKED n = locked ∧ e.get .HOST_P_STATUS_AM_LOCK n = s.dev.get .HOST_P_STATUS_AM_LOCK n) ∧
      (locked = all → skew.toNat ≤ 180 → s.dev.get .HOST_P_STATUS_AM_LOCK n ≠ 1 → Completes (.amLockGained n a b skew) s fun e =>
        e.get .HOST_P_STATUS_AM_LOCK n = 1 ∧ e.get .HOST_P_STATUS_SKEW n = skew.toNat ∧
        e.get .HOST_P_STATUS_LANES_LOCKED n = all ∧ e.get .HOST_P_EVENTS_LOCK_GAINED n = 1 ∧
        Dev.Raised (640 + 16 * tileOf n + 5) s.dev e) ∧
      (locked = all → 180 < skew.toNat → Completes (.amLockGained n a b skew) s fun e => e.get .HOST_P_STATUS_AM_LOCK n ≠ 1 ∧
        e.get .HOST_P_STATUS_LANES_LOCKED n = 0 ∧ e.get .HOST_P_EVENTS_DESKEW_ERR n = 1 ∧ 640 + 16 * tileOf n + 5 ∈ e.pending)) ∧
    (∀ lanes skew : BitVec 16, s.dev.get .HOST_P_STATUS_AM_LOCK n = 1 →
      (skew.toNat ≤ 180 → Completes (.amLockLost n lanes skew) s fun e => e.get .HOST_P_STATUS_AM_LOCK n = 0 ∧
        (∀ h ∈ s.dev.hostLanes n, e.get .X_HOST_LANES h = s.dev.get .X_HOST_LANES h &&& lanes.toNat) ∧
        e.get .HOST_P_STATUS_LANES_LOCKED n = ((s.dev.hostLanes n).map fun h => e.get .X_HOST_LANES h).foldl (· ||| ·) 0 ∧
        e.get .HOST_P_EVENTS_LOCK_LOST n = 1 ∧ Dev.Raised (640 + 16 * tileOf n + 5) s.dev e) ∧
      (180 < skew.toNat → Completes (.amLockLost n lanes skew) s fun e => e.get .HOST_P_STATUS_AM_LOCK n = 0 ∧
        e.get .HOST_P_STATUS_LANES_LOCKED n = 0 ∧ e.get .HOST_P_EVENTS_DESKEW_ERR n = 1)) ∧
    (s.dev.get .HOST_P_STATUS_AM_LOCK n = 1 → Completes (.hostRelock n) s fun e => e.get .HOST_P_STATUS_AM_LOCK n = 0 ∧
      e.get .HOST_P_STATUS_LANES_LOCKED n = 0 ∧ e.get .HOST_P_EVENTS_LOCK_LOST n = 1 ∧ e.get .X_HOST_AM_CLK n = s.dev.clk ∧
      Dev.Raised (640 + 16 * tileOf n + 5) s.dev e) ∧
    (s.dev.get .HOST_P_STATUS_AM_LOCK n ≠ 1 → Completes (.hostRelock n) s fun e => e.get .HOST_P_STATUS_LANES_LOCKED n = 0 ∧
      (∀ h ∈ s.dev.hostLanes n, e.get .X_HOST_LANES h = 0) ∧ e.get .X_HOST_AM_CLK n = s.dev.clk ∧
      Dev.Only (fun f i => (i = n ∧ (f = .HOST_P_STATUS_LANES_LOCKED ∨ f = .X_HOST_AM_CLK)) ∨
        (f = .X_HOST_LANES ∧ i ∈ s.dev.hostLanes n)) s.dev e) ∧
    (∀ word : List (BitVec 10), s.dev.get .HOST_P_STATUS_AM_LOCK n = 1 →
      let w := (List.range 544).map fun i => ((word[i]?).map fun x => x.toNat).getD 0
      let onward := match rsDecode w [] with
        | some c => c
        | none => if s.dev.lget .HOST_P_CTRL_UNC_MARK n = 1 then markWord (s.dev.mode (engineOf n)) w else w
      Completes (.hostCodewordReceived n word) s fun e =>
        e.get .HOST_P_CW_COUNT n = (s.dev.get .HOST_P_CW_COUNT n + 1) % 2 ^ F.HOST_P_CW_COUNT.width ∧
        (∀ c, rsDecode w [] = some c → ∃ k ≤ 15, k = ((List.range 544).filter fun i => c.getD i 0 != w.getD i 0).length ∧
          e.get .HOST_P_HIST_COUNT (16 * n + k) = satAdd F.HOST_P_HIST_COUNT.width (s.dev.get .HOST_P_HIST_COUNT (16 * n + k)) 1 ∧
          (k ≠ 0 → e.get .HOST_P_SYM_CORR_COUNT n =
            (s.dev.get .HOST_P_SYM_CORR_COUNT n + k) % 2 ^ F.HOST_P_SYM_CORR_COUNT.width)) ∧
        (rsDecode w [] = none → e.get .HOST_P_EVENTS_UNC n = 1 ∧
          e.get .HOST_P_CW_UNC_COUNT n = (s.dev.get .HOST_P_CW_UNC_COUNT n + 1) % 2 ^ F.HOST_P_CW_UNC_COUNT.width ∧
          (s.dev.get .X_HOST_UNC_TICK (tileOf n) ≠ 1 → Dev.Raised (640 + 16 * tileOf n + 6) s.dev e)) ∧
        e.lineIn = (if s.dev.get .LTX_STATUS_SOURCE n = 0 then s.dev.lineIn ++ [(⟨n, 0, onward⟩ : RsWord)] else s.dev.lineIn) ∧
        (s.dev.get .HOST_P_STATUS_TX_SRC n = 4 →
          ((s.dev.nearOf n).length < 2 → e.nearOf n = s.dev.nearOf n ++ [⟨n, 0, onward⟩]) ∧
          ∀ x l, s.dev.nearOf n = x :: l → l.length = 1 → e.nearOf n = l ++ [⟨n, 0, onward⟩] ∧ .rsWord n x.syms ∈ e.out)) ∧
    (Completes (.hostTxSourceSwitch n) s fun e => e.get .HOST_P_STATUS_TX_SRC n = s.dev.hostSource n ∧
      e.get .X_HOST_TSRC n = e.timeSource n ∧ (s.dev.hostSource n ≠ 4 → e.nearOf n = []) ∧
      Dev.OnlyAt [.HOST_P_STATUS_TX_SRC, .X_HOST_TFROM, .X_HOST_TCLK, .X_HOST_TSRC, .X_HOST_AFREQ] n
        { s.dev with near := e.near, free := e.free } e) ∧
    (s.dev.get .HOST_P_STATUS_TX_SRC n = 4 → Completes (.nearLoopRecentre n) s fun e => e.get .HOST_P_EVENTS_LOOP_SLIP n = 1 ∧
      (∀ x, s.dev.nearOf n = [x] → e.nearOf n = [x, x]) ∧ (∀ x l, s.dev.nearOf n = x :: l → l ≠ [] → e.nearOf n = l) ∧
      Dev.OnlyAt [.HOST_P_EVENTS_LOOP_SLIP] n { s.dev with near := e.near } e) ∧
    Completes (.hostPClearStats n) s fun e =>
      let fs := [F.HOST_P_CW_COUNT, .HOST_P_CW_CORR_COUNT, .HOST_P_CW_UNC_COUNT, .HOST_P_SYM_CORR_COUNT]
      (∀ f ∈ fs, e.get f n = 0) ∧ (∀ k < 16, e.get .HOST_P_HIST_COUNT (16 * n + k) = 0) ∧
        Dev.Only (fun f i => (f ∈ fs ∧ i = n) ∨ (f = .HOST_P_HIST_COUNT ∧ ∃ k < 16, i = 16 * n + k)) s.dev e

/-! ## The courier -/

/-- R269 to R271: a submission shows its outcome; an accepted one is queued with the next generation of its ID and its slot is
busy, a busy slot, a length out of range and an ID in quarantine are refused with statuses 1, 2 and 3, and a refusal changes
the result alone. Quarantines end after 100 ms. Where the rules leave a point open it states the model's choice (log entry
12). -/
def Obligations.CourierSubmission : Prop :=
  ∀ (n : Fin 64) (s : State),
    (∀ (slot rep : BitVec 2) (mode : BitVec 3) (id : BitVec 10) (len : BitVec 12),
      let r := s.dev.submitCheck n slot.toNat mode.toNat id.toNat len.toNat
      (r.1 = 0 → Completes (.courierSubmit n slot rep mode id len) s fun e => e.get .COUR_TX_RESULT_STATUS n = 0 ∧
        e.get .COUR_TX_RESULT_GEN n = s.dev.nextGen n id.toNat ∧
        e.get .COUR_TX_SLOTS_BUSY n = s.dev.get .COUR_TX_SLOTS_BUSY n ||| 2 ^ slot.toNat ∧
        e.msgs = s.dev.msgs ++ [⟨n, slot.toNat, id.toNat, s.dev.nextGen n id.toNat, len.toNat, mode.toNat, rep.toNat + 1,
          s.dev.clk, s.dev.clk, 0, 0, false, []⟩] ∧ 0 < e.quarLeft n id.toNat) ∧
      (r.1 ≠ 0 → Completes (.courierSubmit n slot rep mode id len) s fun e => e.get .COUR_TX_RESULT_STATUS n = r.1 ∧
        e.get .COUR_TX_RESULT_QUAR_LEFT n = r.2 ∧ Dev.OnlyAt [.COUR_TX_RESULT_STATUS, .COUR_TX_RESULT_SLOT,
          .COUR_TX_RESULT_QUAR_LEFT, .COUR_TX_RESULT_GEN] n s.dev e) ∧
      (bitAt (s.dev.get .COUR_TX_SLOTS_BUSY n) slot.toNat = true → r.1 = 1) ∧
      (bitAt (s.dev.get .COUR_TX_SLOTS_BUSY n) slot.toNat = false →
        (len.toNat = 0 ∨ 2048 < len.toNat → r.1 = 2) ∧
        (1 ≤ len.toNat → len.toNat ≤ 2048 →
          (∃ q ∈ s.dev.quar, q.lane = n ∧ q.id = id.toNat ∧ s.dev.clk < q.at_ + 100 * ms) → r.1 = 3))) ∧
    (∀ id : BitVec 10, (∃ q ∈ s.dev.quar, q.lane = n ∧ q.id = id.toNat) →
      (∀ q ∈ s.dev.quar, q.lane = n → q.id = id.toNat → q.at_ + 100 * ms ≤ s.dev.clk) →
      Completes (.quarantineExpire n id) s fun e =>
        e = { s.found with quar := s.dev.quar.filter fun q => !decide (q.lane = n.val ∧ q.id = id.toNat) }) ∧
    (s.dev.get .X_COUR_READY n = 1 → s.dev.get .X_COUR_READY_CLK n + 100 * ms ≤ s.dev.clk →
      Completes (.quarantineAllEnd n) s fun e => e.get .COUR_L_STATUS_QUARANTINE_ALL n = 0 ∧
        Dev.OnlyAt [.COUR_L_STATUS_QUARANTINE_ALL] n s.dev e)

/-- R259, R264 to R268, R272 to R274, R285 to R287: copies and ends of messages. A ready, free transmitter sends the oldest
eligible message as its symbols' samples; the last copy frees the slot, an earlier one sends the message to the end of the
queue; a message that has left no copy within its lifetime goes to a free buffer of the dead-letter queue, or with the queue
full is lost and counted; a pop takes the oldest entry. Where the rules leave a point open it states the model's choice (log
entries 11, 43 and 77). -/
def Obligations.CourierCopies : Prop :=
  ∀ (n : Fin 64) (m : CourMsg) (s : State),
    (s.dev.courReady n = true → s.dev.courFree n = true → s.dev.get .COUR_TX_SLOTS_KNOCK_PENDING n ≠ 1 →
      s.dev.courNext n = some m → Completes (.copyStart n) s fun e => e.get .COUR_TX_SLOTS_SENDING n = m.slot + 1 ∧
        e.get .COUR_L_STATUS_TX_STATE n = ctSENDING ∧
        let map := s.dev.mapLive (if m.mode = 1 then .COUR_TXMAP_B_CODES else .COUR_TXMAP_A_CODES) n
        e.msgs = ({ m with sending := true, start := s.dev.clk, map := map } : CourMsg) :: dropSlot s.dev.msgs n m.slot ∧
        (s.dev.courSending n = none → m.lane = n → .courier n (courierWave (s.dev.lget .LTX_COUR_DEPTH n)
          (messageSymbols m.mode m.id m.gen map (s.dev.cmem.readBytes (txBuf n m.slot) m.len))) ∈ e.out)) ∧
    (s.dev.courSending n = some m → m.start + symbols (copySymbols m) ≤ s.dev.clk →
      Completes (.copyDone n) s fun e => e.get .COUR_TX_SLOTS_SENDING n = 0 ∧
      e.get .COUR_L_STATUS_TX_STATE n = 0 ∧ e.get .X_COUR_GAP_END n = s.dev.clk + symbols 1 ∧
      e.get .COUR_L_TX_SENT_COUNT n = satAdd F.COUR_L_TX_SENT_COUNT.width (s.dev.get .COUR_L_TX_SENT_COUNT n) 1 ∧
      (m.left ≤ 1 → e.msgs = dropSlot s.dev.msgs n m.slot ∧ bitAt (e.get .COUR_TX_SLOTS_BUSY n) m.slot = false ∧
        e.get .COUR_TX_DONE_SENT n = s.dev.get .COUR_TX_DONE_SENT n ||| 2 ^ m.slot ∧ e.get .COUR_L_EVENTS_TX_DONE n = 1) ∧
      (1 < m.left → s.dev.clk < m.accepted + 50 * ms → s.dev.lget .COUR_L_CTRL_TX_EN n ≠ 0 → s.dev.mode (engineOf n) ≠ 0 →
        e.msgs = dropSlot s.dev.msgs n m.slot ++ [{ m with left := m.left - 1, copies := m.copies + 1, sending := false,
                                                                          eligible := m.start + ms }])) ∧
    (∀ slot : Fin 4, (s.dev.msgs.find? fun x => decide (x.lane = n.val ∧ x.slot = slot.val)) = some m →
      m.accepted + 50 * ms ≤ s.dev.clk → m.sending = false → m.copies = 0 → Completes (.lifetimeExpire n slot) s fun e =>
        e.msgs = dropSlot s.dev.msgs n slot ∧ bitAt (e.get .COUR_TX_SLOTS_BUSY n) slot = false ∧
        (s.dev.dlq.length < 64 → ∃ b < 64, (∀ x ∈ s.dev.dlq, x.buf ≠ b) ∧
          e.dlq = s.dev.dlq ++ [⟨n, false, 1, m.id, m.gen, m.len, m.mode, b, s.dev.now⟩]) ∧
        (64 ≤ s.dev.dlq.length → e.dlq = s.dev.dlq ∧ e.get .COUR_L_EVENTS_DLQ_OVERFLOW n = 1 ∧
          e.get .COUR_DLQ_STATUS_OVERFLOWS 0 =
            satAdd F.COUR_DLQ_STATUS_OVERFLOWS.width (s.dev.get .COUR_DLQ_STATUS_OVERFLOWS 0) 1)) ∧
    (∀ x l, s.dev.dlq = x :: l → Completes .dlqPop s fun e => e.dlq = l ∧ e.get .COUR_DLQ_STATUS_COUNT 0 = l.length ∧
      ∀ y l', l = y :: l' → e.get .COUR_DLQ_STATUS_HEAD 0 = y.buf ∧ e.get .COUR_DLQ_DESC0_ID 0 = y.id)

/-- R262, R278 to R280, R282 to R284: reception. Every point of a constellation is decided as itself and gives its bits. A
preamble whose metric reaches the threshold at both peaks starts one in IDLE, restarts it in HEADER and preempts or collides
in PAYLOAD; a header is checked, then its fields; a payload with a wrong CRC is counted and dropped, one with the right CRC
and no duplicate fills a free slot and its memory; a release frees slots. Where the rules leave a point open it states the
model's choice (log entry 77). -/
def Obligations.CourierReception : Prop :=
  ∀ (n : Fin 64) (s : State),
    let st := s.dev.get .COUR_L_STATUS_RX_STATE n
    let up := fun (f : F) => satAdd f.width (s.dev.get f n) 1
    (∀ code ∈ [1, 2, 3, 4], ∀ bits : List Bool, bits.length = codeBits code → pointBits code (carrierPoint bits) = bits ∧
      nearestPoint code (cscale (pointUnit code) (carrierPoint bits)) = carrierPoint bits) ∧
    (∀ (m1 m2 : BitVec 9) (pwr : Byte) (p0 p1 : List (Int × Int)),
      (min m1.toNat m2.toNat < s.dev.lget .COUR_CTRL_THRESH 0 ∨ st = crOFF →
        Completes (.preambleDetect n m1 m2 pwr p0 p1) s fun e => e = s.found) ∧
      (s.dev.lget .COUR_CTRL_THRESH 0 ≤ min m1.toNat m2.toNat → st ≠ crOFF →
        Completes (.preambleDetect n m1 m2 pwr p0 p1) s fun e => e.get .COUR_L_RX_DETECT_COUNT n = up .COUR_L_RX_DETECT_COUNT ∧
        e.get .COUR_L_PWR_LAST_PRE n = pwr.toNat ∧
        (st = crIDLE ∨ st = crHEADER → e.get .COUR_L_STATUS_RX_STATE n = crHEADER ∧ e.get .X_COUR_RX_TIME n = s.dev.now ∧
          e.chan n = ⟨n, channelEstimate p0 p1, (2 ^ 16, 0)⟩) ∧
        (st = crHEADER → e.get .COUR_L_RX_RESTART_COUNT n = up .COUR_L_RX_RESTART_COUNT) ∧
        (st = crPAYLOAD → s.dev.get .X_COUR_RX_PWR n + 40 ≤ pwr.toNat → s.dev.lget .COUR_CTRL_PREEMPT 0 = 1 →
          e.get .COUR_L_STATUS_RX_STATE n = crHEADER ∧ e.get .COUR_L_RX_ABANDONED_COUNT n = up .COUR_L_RX_ABANDONED_COUNT) ∧
        (st = crPAYLOAD → pwr.toNat < s.dev.get .X_COUR_RX_PWR n + 40 →
          e.get .COUR_L_STATUS_RX_STATE n = crPAYLOAD ∧ e.get .COUR_L_RX_COLLISION_COUNT n = up .COUR_L_RX_COLLISION_COUNT))) ∧
    (∀ rx : List (List (Int × Int)), st = crHEADER →
      let h := s.dev.headerBits n rx
      (hcrcValid h = false → Completes (.headerReceived n rx) s fun e => e.get .COUR_L_STATUS_RX_STATE n = crIDLE ∧
        e.get .COUR_L_RX_HDR_ERR_COUNT n = up .COUR_L_RX_HDR_ERR_COUNT ∧
        Dev.OnlyAt [.COUR_L_STATUS_RX_STATE, .COUR_L_RX_HDR_ERR_COUNT] n { s.dev with chans := e.chans } e) ∧
      (hcrcValid h = true → s.dev.headerUsable n h = false → Completes (.headerReceived n rx) s fun e =>
        e.get .COUR_L_STATUS_RX_STATE n = crIDLE ∧ e.get .COUR_L_RX_FORMAT_ERR_COUNT n = up .COUR_L_RX_FORMAT_ERR_COUNT ∧
        Dev.OnlyAt [.COUR_L_STATUS_RX_STATE, .COUR_L_RX_FORMAT_ERR_COUNT] n { s.dev with chans := e.chans } e) ∧
      (hcrcValid h = true → s.dev.headerUsable n h = true → Completes (.headerReceived n rx) s fun e =>
        e.get .COUR_L_STATUS_RX_STATE n = crPAYLOAD ∧ e.get .X_COUR_RX_HEADER n = h % 2 ^ 32)) ∧
    (∀ rx : List (List (Int × Int)), st = crPAYLOAD →
      let h := s.dev.get .X_COUR_RX_HEADER n
      let p := streamBytes (bitsOf h 23 12) (s.dev.payloadDemod n rx).bits
      let pay := p.1
      let crc := p.2
      (crc32 (leBytes 4 h ++ pay) ≠ crc → Completes (.payloadReceived n rx) s fun e =>
        e.get .COUR_L_STATUS_RX_STATE n = crIDLE ∧ e.get .COUR_L_RX_CRC_ERR_COUNT n = up .COUR_L_RX_CRC_ERR_COUNT) ∧
      (crc32 (leBytes 4 h ++ pay) = crc → Completes (.payloadReceived n rx) s fun e =>
        e.get .COUR_L_STATUS_RX_STATE n = crIDLE ∧ e.get .COUR_L_RX_OK_COUNT n = up .COUR_L_RX_OK_COUNT ∧
        (s.dev.cmem.wf = true → s.dev.rxSlots n false ≠ [] → (∀ q ∈ s.dev.dupes, q.lane ≠ n ∨ q.id ≠ bitsOf h 9 0) →
          e.get .COUR_L_EVENTS_RX_MSG n = 1 ∧ ∃ k ∈ s.dev.rxSlots n false,
            e.get .COUR_RX_STATUS_FULL n = s.dev.get .COUR_RX_STATUS_FULL n ||| 2 ^ k ∧
            e.get .COUR_RX_DESC0_ID (4 * n + k) = bitsOf h 9 0 ∧ e.get .COUR_RX_DESC0_LEN (4 * n + k) = bitsOf h 23 12 ∧
            e.cmem.readBytes (rxBuf n k) (bitsOf h 23 12) = pay))) ∧
    ∀ slots : BitVec 4, Completes (.courierRxRelease n slots) s fun e => ∀ k < 4,
      bitAt (e.get .COUR_RX_STATUS_FULL n) k = (bitAt (s.dev.get .COUR_RX_STATUS_FULL n) k && !bitAt slots.toNat k)

/-- R290 to R294, R298: a knock waits, starts on a ready line, ends with its bursts and is dropped after 50 ms; the detector of
a sleeping lane wakes it once, and that of an idle one reports the knock; both drive the lane's source. CLEAR_STATS clears
the counters, the SNRs and what they recommend. -/
def Obligations.KnockAndStats : Prop :=
  ∀ (n : Fin 64) (s : State),
    (∀ b : BitVec 2, s.dev.get .COUR_TX_SLOTS_KNOCK_PENDING n ≠ 1 → Completes (.knock n b) s fun e =>
      e.get .COUR_TX_SLOTS_KNOCK_PENDING n = 1 ∧ e.get .X_COUR_BURSTS n = b.toNat + 1 ∧ e.get .X_COUR_KNOCK_CLK n = s.dev.clk ∧
      Dev.OnlyAt [.COUR_TX_SLOTS_KNOCK_PENDING, .X_COUR_BURSTS, .X_COUR_KNOCK_CLK] n s.dev e) ∧
    (∀ b : BitVec 2, s.dev.get .COUR_TX_SLOTS_KNOCK_PENDING n = 1 → Completes (.knock n b) s fun e => e = s.found) ∧
    (s.dev.get .COUR_TX_SLOTS_KNOCK_PENDING n = 1 → s.dev.courReady n = true → s.dev.courFree n = true →
      Completes (.knockStart n) s fun e => e.get .COUR_L_STATUS_TX_STATE n = ctKNOCK ∧
        .courier n (knockWave (s.dev.lget .LTX_COUR_DEPTH n) (s.dev.get .X_COUR_BURSTS n)) ∈ e.out ∧
        e.get .X_COUR_KNOCK_CLK n = s.dev.clk ∧ Dev.OnlyAt [.COUR_L_STATUS_TX_STATE, .X_COUR_KNOCK_CLK] n s.dev e) ∧
    (s.dev.get .COUR_L_STATUS_TX_STATE n = ctKNOCK →
      s.dev.get .X_COUR_KNOCK_CLK n + symbols (64 * s.dev.get .X_COUR_BURSTS n) ≤ s.dev.clk →
      Completes (.knockBurstsEnd n) s fun e =>
      e.get .COUR_TX_SLOTS_KNOCK_PENDING n = 0 ∧ e.get .COUR_L_STATUS_TX_STATE n = 0 ∧
      Dev.OnlyAt [.COUR_TX_SLOTS_KNOCK_PENDING, .X_COUR_BURSTS, .COUR_L_STATUS_TX_STATE] n s.dev e) ∧
    (s.dev.get .COUR_TX_SLOTS_KNOCK_PENDING n = 1 → s.dev.get .COUR_L_STATUS_TX_STATE n ≠ ctKNOCK →
      s.dev.get .X_COUR_KNOCK_CLK n + 50 * ms ≤ s.dev.clk → Completes (.knockDropped n) s fun e =>
        e.get .COUR_TX_SLOTS_KNOCK_PENDING n = 0 ∧ e.get .COUR_L_EVENTS_KNOCK_DROPPED n = 1 ∧
        e.get .PH_SRC_LINE (832 + n) = 1 ∧ Dev.OnlyRaisingAt [.COUR_TX_SLOTS_KNOCK_PENDING, .X_COUR_BURSTS,
          .COUR_L_EVENTS_KNOCK_DROPPED] n s.dev e) ∧
    (∀ w1 w2 : BitVec 63, s.dev.knockMatch (knockMatches w1.toNat) (knockMatches w2.toNat) = true →
      (s.dev.knockArmed n = true → Completes (.knockWake n w1 w2) s fun e => e.get .X_COUR_KNOCK_STOP n = 1 ∧
        e.get .COUR_L_EVENTS_KNOCK_WAKE n = 1 ∧ e.get .PH_SRC_LINE (832 + n) = 1 ∧
        Dev.OnlyRaisingAt [.X_COUR_KNOCK_STOP, .COUR_L_EVENTS_KNOCK_WAKE] n s.dev e) ∧
      (s.dev.get .COUR_L_STATUS_RX_STATE n = crIDLE → Completes (.knockSeen n w1 w2) s fun e =>
        e.get .COUR_L_EVENTS_KNOCK_SEEN n = 1 ∧ e.get .PH_SRC_LINE (832 + n) = 1 ∧
        Dev.OnlyRaisingAt [.COUR_L_EVENTS_KNOCK_SEEN] n s.dev e)) ∧
    Completes (.courClearStats n) s fun e => (∀ f ∈ courCounters, e.get f n = 0) ∧
      (∀ i < 24, e.get .COUR_L_SNR_SNR (24 * n + i) = 0) ∧ (∀ i < 12, e.get .COUR_L_REC_CODES (12 * n + i) = 0) ∧
      e.get .COUR_L_QUALITY_LQ n = 0

/-! ## Capture and triggers -/

/-- R336, R339, R340, R342: a tap is armed, stopped and aborted. A refused arm shows its code and changes no state of the tap;
an accepted one latches the settings, counts, and runs or waits for its domains; STOP drains a stream and ends any other
capture with reason 2; ABORT makes the tap IDLE at once. Where the rules leave a point open it states the model's choice
(log entry 13). -/
def Obligations.CaptureArms : Prop :=
  ∀ (t : Fin 8) (s : State),
    (s.dev.armRefusal t ≠ 0 → Completes (.captureArm t) s fun e => e.get .CAP_T_STATUS_REFUSE t = s.dev.armRefusal t ∧
      e.get .CAP_T_EVENTS_REFUSED t = 1 ∧ e.tapState t = s.dev.tapState t ∧ 802 ∈ e.pending) ∧
    (s.dev.armRefusal t = 0 → Completes (.captureArm t) s fun e =>
      e.get .CAP_T_STATUS_ARMS t = (s.dev.get .CAP_T_STATUS_ARMS t + 1) % 2 ^ F.CAP_T_STATUS_ARMS.width ∧
      e.get .CAP_T_BLOCKS_VALUE t = 0 ∧ e.tapPoint t = s.dev.get .CAP_T_CTRL_POINT t ∧
      e.tapLane t = s.dev.get .CAP_T_CTRL_LANE t ∧ e.tapMode t = s.dev.get .CAP_T_CTRL_MODE t ∧
      ((∀ k ∈ (s.dev.latchTap t).tapDomains t, s.dev.domOn k = true) → e.tapRuns t = true) ∧
      ((∃ k ∈ (s.dev.latchTap t).tapDomains t, s.dev.domOn k = false) → e.tapState t = ctWAKING)) ∧
    (∀ b : BlockIn, (s.dev.tapRuns t = true → Completes (.captureStop t b) s fun e => e.get .CAP_T_STATUS_END_REASON t = 2 ∧
        (s.dev.tapStreams t = true → e.tapState t = ctDRAINING) ∧
        (s.dev.tapStreams t = false → e.tapState t = ctDONE ∧ e.get .CAP_T_EVENTS_DONE t = 1 ∧ 768 + 4 * t.val ∈ e.pending)) ∧
      (s.dev.tapState t = ctWAKING → Completes (.captureStop t b) s fun e => e.get .CAP_T_STATUS_END_REASON t = 2 ∧
        e.tapState t = ctDONE ∧ Dev.Raised (768 + 4 * t.val) s.dev e)) ∧
    (s.dev.tapState t ≠ ctIDLE → Completes (.captureAbort t) s fun e => e.tapState t = ctIDLE ∧
      e.get .X_CAP_QUEUED t = 0 ∧ (∀ x ∈ e.frames, x.1 ≠ t) ∧ (∀ x ∈ e.recs, x.1 ≠ t) ∧
      (∀ x ∈ s.dev.frames, x.1 ≠ t → x ∈ e.frames)) ∧
    Completes (.capClearStats t) s fun e =>
      let fs := [F.CAP_T_COUNTS_TRIG_MISSED, .CAP_T_COUNTS_RECORDS_LOST, .CAP_T_SAMPLES_LOST_VALUE, .CAP_T_VIOL_COUNT_COUNT]
      (∀ f ∈ fs, e.get f t = 0) ∧ Dev.OnlyAt fs t s.dev e

/-- R306, R313, R317, R318, R335, R488, R489: blocks of a running tap without a mask test. A closed block takes the next
sequence number; a stream without room loses it; a block drains in writes within the Max Payload Size to the host
descriptor, or to the frame, which goes out with two blocks, or with one after 16 µs; lost samples move the index on. Where
the rules leave a point open it states the model's choice (log entry 44). -/
def Obligations.CaptureBlocks : Prop :=
  ∀ (t : Fin 8) (s : State),
    (∀ b : BlockIn, s.dev.tapRuns t = true → s.dev.lon .CAP_T_CTRL_MASK_EN t = false →
      (s.dev.bufferFull t = false → ¬ (s.dev.tapStreams t = false ∧ s.dev.tapState t = ctPOST) →
        Completes (.blockWrite t b) s fun e => e.get .X_CAP_SEQ t = (s.dev.get .X_CAP_SEQ t + 1) % 2 ^ F.X_CAP_SEQ.width ∧
          e.get .CAP_T_BLOCKS_VALUE t = (s.dev.get .CAP_T_BLOCKS_VALUE t + 1) % 2 ^ F.CAP_T_BLOCKS_VALUE.width ∧
          (s.dev.tapStreams t = true → e.get .X_CAP_QUEUED t = s.dev.get .X_CAP_QUEUED t + 1 ∧
            e.get .CAP_T_WRITE_PTR_BLOCK t = (s.dev.get .CAP_T_WRITE_PTR_BLOCK t + 1) % max 1 (s.dev.tapSize t)) ∧
          (s.dev.tapStreams t = false → s.dev.tapState t = ctFILLING → e.tapState t =
            if s.dev.lget .CAP_T_PRE_BLOCKS t ≤ e.get .X_CAP_WRITTEN t then ctARMED else ctFILLING)) ∧
      (s.dev.bufferFull t = true → (s.dev.fill t 0 b).count ≠ 0 → Completes (.blockWrite t b) s fun e =>
        e.get .CAP_T_EVENTS_GAP t = 1 ∧ e.get .X_CAP_SEQ t = s.dev.get .X_CAP_SEQ t ∧
        e.get .X_CAP_FIRST t = s.dev.get .X_CAP_FIRST t + (s.dev.fill t 0 b).count)) ∧
    (∀ bad : Bool, s.dev.tapState t = ctSTREAMING ∨ s.dev.tapState t = ctDRAINING → 0 < s.dev.get .X_CAP_QUEUED t →
      s.dev.get .X_CAP_END_WAIT t = 0 →
      let q := s.dev.lget .CAP_T_DRAIN_QUEUE t
      (s.dev.tapMode t ≠ 2 → Completes (.blockDrain t bad) s fun e => e.get .X_CAP_QUEUED t = s.dev.get .X_CAP_QUEUED t - 1 ∧
        e.frames = s.dev.frames ++ [(t.val, s.dev.drainBytes t bad)]) ∧
      (∀ x mps, s.dev.tapMode t = 2 → s.dev.captureReady q = some t.val → s.dev.openDesc q = some x → q < 8 →
        (∀ p < 8, p ≠ q → s.dev.captureReady p = none) → (∀ p < 16, 8 ≤ p → s.dev.generalReady p = none) →
        mps = s.dev.get .X_PCIE_MPS 0 → 0 < mps → Completes (.blockDrain t bad) s fun e =>
          e.get .X_CAP_QUEUED t = s.dev.get .X_CAP_QUEUED t - 1 ∧
          ∀ i, mps * i < 4096 → .hostWrite (x.host + x.moved + mps * i) (((s.dev.drainBytes t bad).drop (mps * i)).take mps)
            (s.dev.on .X_PCIE_RO 0) false ∈ e.out)) ∧
    (∀ (cause : Fin 3) (k : Nat) (time : DWord), s.dev.tapRuns t = true → s.dev.tapStreams t = true ∨ cause.val ≠ 2 → k ≠ 0 →
      Completes (.sampleLoss t cause k time) s fun e => e.get .X_CAP_FIRST t = s.dev.get .X_CAP_FIRST t + k ∧
        e.get .X_CAP_GAP t = 1 ∧ e.get .CAP_T_EVENTS_GAP t = 1 ∧ e.get .CAP_T_SAMPLES_LOST_VALUE t =
          (s.dev.get .CAP_T_SAMPLES_LOST_VALUE t + k) % 2 ^ F.CAP_T_SAMPLES_LOST_VALUE.width) ∧
    (let mine := (s.dev.frames.filter fun e => e.1 == t.val).map (·.2)
     let i := s.dev.coutFrom t (s.dev.get .X_CAP_LANE t)
     let h := s.dev.get .X_COUT_LANE i
     s.dev.hl h = hlREADY →
      (2 ≤ mine.length → Completes (.captureOutFrame t) s fun e =>
        .captureFrame h (s.dev.frameBytes t i (mine.take 2)) ∈ e.out ∧
        e.get .X_CAP_FRAME_SEQ t = (s.dev.get .X_CAP_FRAME_SEQ t + 1) % 2 ^ F.X_CAP_FRAME_SEQ.width) ∧
      (mine.length = 1 → s.dev.get .X_CAP_WAIT_CLK t + 16 * us ≤ s.dev.clk → Completes (.blockPartnerTimeout t) s fun e =>
        .captureFrame h (s.dev.frameBytes t i mine) ∈ e.out ∧ ∀ x ∈ e.frames, x.1 ≠ t))

/-- R322, R325, R326, R330: trigger events wait for every tap they reach. A software trigger does, with the time of its cycle; a
selected edge of a TRIG_IN pin does, that does not follow another within 128 ns, and an edge of a line that another member
drives, each at the time that the TDC gives it less its delay. What an XTRIG line that the block drives takes from the event
reaches the taps behind it as source 4 or 5. A close edge is counted and raises source 800. R313, R320, R327, R328: a tap
takes the next trigger that waits for it. With no earlier one of the arm it is accepted: its time and source are shown and a
tap that is FILLING or ARMED enters POST and raises its source; within the holdoff of an earlier one it is only counted.
Without a trigger in the time of AUTO_TIMEOUT an ARMED tap with AUTO takes one of source 0x11. Where the rules leave a point
open it states the model's choice (log entries 44 and 76). -/
def Obligations.TriggersReachTaps : Prop :=
  (∀ s : State,
     let quiet := ∀ j < 2, s.dev.get .CAP_XTRIG_OUT_DRIVING j ≠ 1
     let reached := fun (mask src info time : Nat) (falling : Bool) =>
       let m := s.dev.tapsFor mask src info []
       if m = 0 then s.dev.trigs else s.dev.trigs ++ [(⟨src, info, time, falling, s.dev.clk, m⟩ : TrigEvent)]
     let waits := fun (trigs : List TrigEvent) (fs : List F) (p : Nat) (e : Dev) =>
       (∃ more, e.trigs = trigs ++ more ∧ (quiet → more = []) ∧ ∀ v ∈ more, v.src = 4 ∨ v.src = 5) ∧
       Dev.OnlyRaising (fun f i => (f ∈ fs ∧ i = p) ∨ (f = .X_XTRIG_END ∧ i < 2) ∨ (f = .CAP_XTRIG_STATUS_MERGED ∧ i = 0))
         { s.dev with trigs := e.trigs } e ∧
       (quiet → Dev.OnlyAt fs p { s.dev with trigs := e.trigs } e)
     (∀ c f : Nat, (∀ i, s.dev.tdcEntry i = 0) → s.dev.edgeTime c f = c + f) ∧
     (∀ (taps : Byte) (tag : BitVec 24), Completes (.softwareTrigger taps tag) s
       (waits (reached taps.toNat 0x10 tag.toNat s.dev.now false) [] 0)) ∧
     (∀ (j : Fin 2) (c : DWord) (f : Fin 6554),
       (s.dev.get .CAP_XTRIG_OUT_DRIVING j = 1 → Completes (.xtrigEdge j c f) s fun e => e = s.found) ∧
       (s.dev.get .CAP_XTRIG_OUT_DRIVING j ≠ 1 → Completes (.xtrigEdge j c f) s fun e =>
         let l := reached 255 (4 + j.val) (j.val + 256 * s.dev.get .X_XTRIG_DRIVER j)
           (s.dev.edgeTime c.toNat f - s.dev.get .CAP_XTRIG_IN_DELAY_DELAY j) false
         e = { s.found with trigs := l })) ∧
     ∀ (p : Fin 4) (rising : Bool) (c : DWord) (f : Fin 6554),
       let picked := if rising then s.dev.get .CAP_TRIGIN_CFG_EDGE p % 2 = 1 else 2 ≤ s.dev.get .CAP_TRIGIN_CFG_EDGE p
       let last := s.dev.get .X_TRIGIN_LAST p
       let time := s.dev.edgeTime c.toNat f
       (¬ picked → Completes (.trigInEdge p rising c f) s fun e => e = s.found) ∧
       (picked → last = 0 ∨ (last - 1) * 10 + 131072 ≤ time * 10 → Completes (.trigInEdge p rising c f) s fun e =>
         e.get .X_TRIGIN_LAST p = time + 1 ∧ waits (reached 255 p.val p.val
           ((time : Int) - sx 16 (s.dev.get .CAP_TRIGIN_CFG_DELAY p)).toNat (!rising)) [.X_TRIGIN_LAST] p e) ∧
       (picked → last ≠ 0 → time * 10 < (last - 1) * 10 + 131072 → Completes (.trigInEdge p rising c f) s fun e =>
         e.trigs = s.dev.trigs ∧ e.get .X_TRIGIN_LAST p = last ∧ Dev.Raised 800 s.dev e ∧
         e.get .CAP_TRIG_EVENTS_CLOSE 0 = s.dev.get .CAP_TRIG_EVENTS_CLOSE 0 ||| 2 ^ p.val ∧ e.get .CAP_TRIG_EVENTS_CLOSE_COUNT 0 =
           satAdd F.CAP_TRIG_EVENTS_CLOSE_COUNT.width (s.dev.get .CAP_TRIG_EVENTS_CLOSE_COUNT 0) 1 ∧
         Dev.OnlyRaisingAt [.CAP_TRIG_EVENTS_CLOSE, .CAP_TRIG_EVENTS_CLOSE_COUNT] 0 s.dev e)) ∧
  (∀ (t : Fin 8) (s : State),
     (∀ ev, s.dev.nextTrigger t = some ev → s.dev.tapRuns t = true →
       (s.dev.get .X_CAP_LAST_K t = 0 → Completes (.triggerAccept t) s fun e => e.get .CAP_T_TRIG_TIME_VALUE t = ev.time ∧
         e.get .CAP_T_TRIG_INFO_SOURCE t = ev.src ∧
         e.get .X_CAP_TSEQ t = (s.dev.get .X_CAP_TSEQ t + 1) % 2 ^ F.X_CAP_TSEQ.width ∧
         (s.dev.tapState t = ctFILLING ∨ s.dev.tapState t = ctARMED → e.tapState t = ctPOST ∧
           e.get .CAP_T_EVENTS_TRIGGERED t = 1 ∧ Dev.Raised (769 + 4 * t.val) s.dev e) ∧
         (s.dev.tapState t = ctPOST ∨ s.dev.tapState t = ctSTREAMING → e.tapState t = s.dev.tapState t)) ∧
       (s.dev.get .X_CAP_LAST_K t ≠ 0 → s.dev.get .X_CAP_LAST_CLK t ≠ ev.clk →
         (s.dev.interpolate t ev.time).1 < s.dev.get .X_CAP_LAST_K t - 1 + 2 ^ s.dev.holdoff t →
         Completes (.triggerAccept t) s fun e => e.tapState t = s.dev.tapState t ∧ e.get .CAP_T_COUNTS_TRIG_MISSED t =
           satAdd F.CAP_T_COUNTS_TRIG_MISSED.width (s.dev.get .CAP_T_COUNTS_TRIG_MISSED t) 1)) ∧
     (s.dev.lon .CAP_T_CTRL_AUTO t = true → s.dev.tapState t = ctARMED → s.dev.get .X_CAP_LAST_K t = 0 →
       s.dev.get .X_CAP_AUTO_CLK t + max 1000 (s.dev.lget .CAP_T_AUTO_TIMEOUT t) * ns ≤ s.dev.clk →
       Completes (.autoTrigger t) s fun e => e.tapState t = ctPOST ∧ e.get .CAP_T_TRIG_INFO_SOURCE t = 0x11 ∧
         e.get .CAP_T_TRIG_TIME_VALUE t = s.dev.now))

/-! ## Bias outputs -/

/-- R348 to R355, R368: a driver write sets the target of a channel within its limits, and takes it back from a ledger move of
the same cycle; an update trigger of a tile timer moves LIVE of its TRACK channels by their step, or at once with SHAPE, and
of no other; the trigger moves the correction by the trims beside LIVE, none without trims; a held code is let go after 150
ns. Where the rules leave a point open it states the model's choice (log entry 76). -/
def Obligations.BiasTargets : Prop :=
  ∀ s : State,
    (∀ (x : Fin 160) (v : BitVec 16), let i := biasIx x
      (s.dev.get .X_BIAS_LEDG i ≠ s.dev.clk + 1 → s.dev.clampTarget i v.toNat = v.toNat → Completes (.biasTargetWrite x v) s
        fun e => e.get .BIAS_C_TARGET_TARGET i = v.toNat ∧ e.get .X_BIAS_TCLK i = s.dev.clk ∧
          Dev.OnlyAt [.BIAS_C_TARGET_TARGET, .X_BIAS_TCLK, .X_BIAS_TOLD] i s.dev e) ∧
      (s.dev.get .X_BIAS_LEDG i ≠ s.dev.clk + 1 → s.dev.clampTarget i v.toNat ≠ v.toNat → Completes (.biasTargetWrite x v) s
        fun e => e.get .BIAS_C_TARGET_TARGET i = s.dev.clampTarget i v.toNat ∧ e.get .BIAS_C_EVENTS_LIMIT_CLAMP i = 1 ∧
          Dev.OnlyRaisingAt [.BIAS_C_TARGET_TARGET, .X_BIAS_TCLK, .X_BIAS_TOLD, .BIAS_C_EVENTS_LIMIT_CLAMP] i s.dev e) ∧
      (s.dev.get .X_BIAS_LEDG i = s.dev.clk + 1 → Completes (.biasTargetWrite x v) s fun e =>
        e.get .BIAS_C_TARGET_TARGET i = s.dev.clampTarget i v.toNat ∧ e.get .BIAS_C_EVENTS_DROPPED i = 1 ∧
        e.get .BIAS_C_EVENTS_DROP_COUNT i =
          satAdd F.BIAS_C_EVENTS_DROP_COUNT.width (s.dev.get .BIAS_C_EVENTS_DROP_COUNT i) 1)) ∧
    (∀ t : Fin 4, s.dev.timerDue t ≤ s.dev.now → Completes (.biasUpdateTrigger t) s fun e => ∀ c < 40,
      let i := 40 * t.val + c
      e.get .BIAS_C_LIVE_LIVE i =
        if s.dev.get .BIAS_C_CFG_TRIGGER i = 1 ∨ s.dev.bc i ≠ bcTRACK ∨ s.dev.domOn (domHk t) = false then
          s.dev.get .BIAS_C_LIVE_LIVE i
        else if s.dev.get .BIAS_C_CFG_SHAPE i = 1 then s.dev.targetInForce i
        else slewCode (s.dev.get .BIAS_C_LIVE_LIVE i) (s.dev.targetInForce i) (s.dev.get .BIAS_C_CFG_STEP i)) ∧
    (∀ t : Fin 4, s.dev.timerDue t ≤ s.dev.now → Completes (.biasUpdateTrigger t) s fun e => ∀ c < 40,
      let i := 40 * t.val + c
      let now := sx 20 (s.dev.get .X_BIAS_CORR i)
      let step : Int := s.dev.get .BIAS_C_CFG_STEP i
      s.dev.get .BIAS_C_CFG_TRIGGER i ≠ 1 → s.dev.bc i = bcTRACK → s.dev.domOn (domHk t) = true →
        e.get .X_BIAS_CORR i = ux 20 (if s.dev.get .BIAS_C_CFG_SHAPE i = 1 then e.trimGoal i
          else clampI (now - step) (now + step) (e.trimGoal i))) ∧
    (∀ (d : Dev) (i : Nat), d.biasGain i = 0 → d.biasOffset i = 0 → d.trimGoal i = 0) ∧
    ∀ x : Fin 160, let i := biasIx x
      (s.dev.get .X_BIAS_HOLD i = 1 → s.dev.get .X_BIAS_HOLD_CLK i + 150 * ns ≤ s.dev.clk →
        Completes (.deglitchRelease x) s fun e => e.get .X_BIAS_HOLD i = 0 ∧ Dev.OnlyAt [.X_BIAS_HOLD] i s.dev e) ∧
      (s.dev.get .X_BIAS_SINE i = 2 → s.dev.get .X_BIAS_STOP_CLK i ≤ s.dev.clk → Completes (.sineStop x) s fun e =>
        e.get .X_BIAS_SINE i = 0 ∧ e.get .X_BIAS_ACC i = 0 ∧ Dev.OnlyAt [.X_BIAS_SINE, .X_BIAS_ACC] i s.dev e) ∧
      Completes (.biasClearStats x) s fun e => e.get .BIAS_C_EVENTS_DROP_COUNT i = 0 ∧
        Dev.OnlyAt [.BIAS_C_EVENTS_DROP_COUNT] i s.dev e

/-- R360 to R362, R563: zero scale. Forced zero ends in TRACK, or in ZERO with a cause latched, that of an absent laser source
among them; an overload of a voltage channel and low VBIAS latch their cause and send a channel in TRACK to ZERO with LIVE
0; a release returns to TRACK unless a latched cause still holds; compliance is shown on current channels. Where the rules
leave a point open it states the model's choice (log entry 17). -/
def Obligations.BiasZeroScale : Prop :=
  ∀ s : State,
    (∀ x : Fin 160, let i := biasIx x
      (s.dev.bc i = bcFORCED → s.dev.get .X_BIAS_FZ_CLK i + 20 * us ≤ s.dev.clk →
        let cause := s.dev.get .BIAS_C_STATUS_ZERO_CAUSE i ||| (if s.dev.get .BIAS_C_CFG_ZERO_ON_LS i = 1 ∧
          s.dev.get .SYS_LS_STATUS_PRESENT (biasEngine i) ≠ 1 then 1 else 0)
        (cause = 0 → Completes (.forcedZeroEnd x) s fun e => e.bc i = bcTRACK ∧
          Dev.OnlyAt [.BIAS_C_STATUS_STATE] i s.dev e) ∧
        (cause ≠ 0 → Completes (.forcedZeroEnd x) s fun e => e.bc i = bcZERO ∧ e.get .BIAS_C_STATUS_ZERO_CAUSE i = cause ∧
          e.get .BIAS_C_LIVE_LIVE i = 0 ∧ e.get .BIAS_C_EVENTS_ZEROED i = 1 ∧
          Dev.Raised (640 + 16 * biasTile i + 12) s.dev e)) ∧
      (s.dev.get .BIAS_C_CFG_FUNCTION i ≠ 1 → s.dev.biasOn i = true → s.dev.bc i = bcTRACK →
        Completes (.biasOverload x) s fun e => e.bc i = bcZERO ∧ e.get .BIAS_C_LIVE_LIVE i = 0 ∧
          e.get .BIAS_C_STATUS_ZERO_CAUSE i = s.dev.get .BIAS_C_STATUS_ZERO_CAUSE i ||| 2 ∧
          Dev.Raised (640 + 16 * biasTile i + 12) s.dev e ∧
          Dev.OnlyRaisingAt [.BIAS_C_STATUS_ZERO_CAUSE, .BIAS_C_LIVE_LIVE, .X_BIAS_SINE, .X_BIAS_HOLD, .X_BIAS_ACC,
            .X_BIAS_CORR, .BIAS_C_STATUS_STATE, .BIAS_C_EVENTS_ZEROED] i s.dev e) ∧
      (s.dev.get .BIAS_C_CFG_FUNCTION i = 1 → Completes (.biasOverload x) s fun e => e = s.found) ∧
      (∀ out : Bool, s.dev.biasOn i = true → s.dev.get .BIAS_C_CFG_FUNCTION i = 1 → Completes (.compliance x out) s fun e =>
        e.get .BIAS_C_STATUS_COMPLIANCE i = b2n out ∧ (out = true → s.dev.get .BIAS_C_STATUS_COMPLIANCE i ≠ 1 →
          e.get .BIAS_C_EVENTS_COMPLIANCE i = 1 ∧ e.get .PH_SRC_LINE (640 + 16 * biasTile i + 13) = 1)) ∧
      (s.dev.bc i = bcZERO →
        ((∀ b < 5, bitAt (s.dev.get .BIAS_C_STATUS_ZERO_CAUSE i) b = true → s.dev.zeroHolds i b = false) →
          Completes (.biasRelease x) s fun e => e.bc i = bcTRACK ∧ e.get .BIAS_C_STATUS_ZERO_CAUSE i = 0 ∧
            Dev.OnlyAt [.BIAS_C_STATUS_STATE, .BIAS_C_STATUS_ZERO_CAUSE] i s.dev e) ∧
        ((∃ b < 5, bitAt (s.dev.get .BIAS_C_STATUS_ZERO_CAUSE i) b = true ∧ s.dev.zeroHolds i b = true) →
          Completes (.biasRelease x) s fun e => e.bc i = bcZERO ∧ e.get .BIAS_C_EVENTS_RELEASE_REFUSED i = 1 ∧
            Dev.OnlyRaisingAt [.BIAS_C_EVENTS_RELEASE_REFUSED] i s.dev e))) ∧
    (Completes .vbiasLow s fun e => (∀ t < 4, e.get .BIAS_T_TIMER_VBIAS_OK t = 0) ∧
      ∀ i < 160, s.dev.biasOn i = true → s.dev.bc i ≠ bcDISABLED →
        e.get .BIAS_C_STATUS_ZERO_CAUSE i = s.dev.get .BIAS_C_STATUS_ZERO_CAUSE i ||| 4 ∧
        (s.dev.bc i = bcTRACK → e.bc i = bcZERO ∧ e.get .BIAS_C_LIVE_LIVE i = 0)) ∧
    Completes .vbiasRecovered s fun e => (∀ t < 4, e.get .BIAS_T_TIMER_VBIAS_OK t = 1) ∧ ∀ i < 160, e.bc i = s.dev.bc i

/-! ## Housekeeping -/

/-- R369 to R377, R380, R384, R388: a start of a sequence by command or by a selected edge of its pin powers a converter up or
begins its first conversion, joins a start of the same cycle, does nothing to a loop, and is lost while another sequence
runs. A converter starts up, converts its input, gives its result with the live trims, and powers down; a SYNC waits for the
next sequence. Where the rules leave a point open it states the model's choice (log entries 18 and 76). -/
def Obligations.ConverterSequences : Prop :=
  ∀ (t : Fin 4) (s : State),
    let idle := s.dev.get .X_HK_RUN t ≠ 1 ∧ s.dev.get .X_HK_WAIT t ≠ 1
    let alone := s.dev.domOn (domHk t) = true ∧ s.dev.get .X_HK_START t ≠ s.dev.clk + 1
    let begun := fun (src : Nat) (e : Dev) => e.get .HK_STATUS_LAST_SRC t = src ∧ e.get .HK_STATUS_BUSY t = 1 ∧
      e.get .X_HK_RUN t = 1 ∧ e.get .HK_STATUS_ENTRY t = 0 ∧ e.get .HK_SEQ_TIME_TIME t = s.dev.now ∧
      (s.dev.hk t = hkDOWN → e.hk t = hkSTARTING) ∧ (s.dev.hk t = hkREADY → e.hk t = hkCONVERTING)
    let waits := fun (e : Dev) => e.get .X_HK_WAIT t = 1 ∧ e.get .HK_STATUS_BUSY t = 1 ∧ e.hk t = hkCAL
    let missed := fun (e : Dev) => e.get .HK_EVENTS_START_MISSED t = 1 ∧
      e.get .HK_COUNTS_STARTS_MISSED t = satAdd F.HK_COUNTS_STARTS_MISSED.width (s.dev.get .HK_COUNTS_STARTS_MISSED t) 1 ∧
      Dev.OnlyRaisingAt [.HK_EVENTS_START_MISSED, .HK_COUNTS_STARTS_MISSED] t s.dev e
    let joins := fun (src : Nat) (e : Dev) => e.get .HK_STATUS_LAST_SRC t = s.dev.get .HK_STATUS_LAST_SRC t ||| src ∧
      Dev.OnlyAt [.HK_STATUS_LAST_SRC] t s.dev e
    (alone → idle → s.dev.hk t ≠ hkCAL → Completes (.hkStartCmd t) s (begun 1)) ∧
    (alone → idle → s.dev.hk t = hkCAL → Completes (.hkStartCmd t) s waits) ∧
    (alone → s.dev.get .X_HK_RUN t = 1 → s.dev.get .X_HK_LOOP t ≠ 1 → Completes (.hkStartCmd t) s missed) ∧
    (alone → s.dev.get .X_HK_RUN t = 1 → s.dev.get .X_HK_LOOP t = 1 → Completes (.hkStartCmd t) s fun e => e = s.found) ∧
    (s.dev.domOn (domHk t) = true → s.dev.get .X_HK_START t = s.dev.clk + 1 → Completes (.hkStartCmd t) s (joins 1)) ∧
    (s.dev.domOn (domHk t) = false → Completes (.hkStartCmd t) s fun e => e = s.found) ∧
    (∀ rising, s.dev.lon .HK_CTRL_PIN_EN t = true → s.dev.lon .HK_CTRL_PIN_EDGE t = !rising →
      (alone → idle → s.dev.hk t ≠ hkCAL → Completes (.hkStartPin t rising) s (begun 2)) ∧
      (alone → idle → s.dev.hk t = hkCAL → Completes (.hkStartPin t rising) s waits) ∧
      (alone → s.dev.get .X_HK_RUN t = 1 → s.dev.get .X_HK_LOOP t ≠ 1 → Completes (.hkStartPin t rising) s missed) ∧
      (alone → s.dev.get .X_HK_RUN t = 1 → s.dev.get .X_HK_LOOP t = 1 → Completes (.hkStartPin t rising) s fun e =>
        e = s.found) ∧
      (s.dev.domOn (domHk t) = true → s.dev.get .X_HK_START t = s.dev.clk + 1 →
        Completes (.hkStartPin t rising) s (joins 2)) ∧
      (s.dev.domOn (domHk t) = false → Completes (.hkStartPin t rising) s fun e => e = s.found)) ∧
    (∀ rising, s.dev.lon .HK_CTRL_PIN_EN t = false ∨ s.dev.lon .HK_CTRL_PIN_EDGE t = rising →
      Completes (.hkStartPin t rising) s fun e => e = s.found) ∧
    (Completes (.hkSync t) s fun e => e.get .X_HK_SYNC t = 1 ∧ Dev.OnlyAt [.X_HK_SYNC] t s.dev e) ∧
    (Completes (.hkClearStats t) s fun e => e.get .HK_COUNTS_DISCARDS t = 0 ∧ e.get .HK_COUNTS_STARTS_MISSED t = 0 ∧
      Dev.OnlyAt [.HK_COUNTS_DISCARDS, .HK_COUNTS_STARTS_MISSED] t s.dev e) ∧
    (s.dev.hk t = hkSTARTING → s.dev.get .X_HK_CLK t + 2500 * ns ≤ s.dev.clk → s.dev.get .X_HK_CAL t ≠ 1 →
      Completes (.converterStartupDone t) s fun e => e.hk t = hkCONVERTING ∧
        e.get .X_HK_CLK t = s.dev.get .X_HK_CLK t + 2500 * ns) ∧
    (∀ input : Int, let i := 48 * t.val + s.dev.entryChan t
      let range := s.dev.hkRange t (s.dev.entryChan t)
      let code := (clampI 0 4095 ((input - range.1) * 4096 / (range.2 - range.1))).toNat
      s.dev.hk t = hkCONVERTING → s.dev.get .X_HK_CLK t + 1100 * ns ≤ s.dev.clk → s.dev.get .X_HK_CAL t ≠ 1 →
      s.dev.get .X_HK_RUN t = 1 → s.dev.get .X_HK_LOOP t ≠ 1 → Completes (.conversionDone t input) s fun e =>
        e.get .HK_CH_RAW_CODE i = code ∧
        (s.dev.get .X_HK_DISC t = 1 → e.hk t = hkCONVERTING ∧
          e.get .HK_COUNTS_DISCARDS t = satAdd F.HK_COUNTS_DISCARDS.width (s.dev.get .HK_COUNTS_DISCARDS t) 1) ∧
        (s.dev.get .X_HK_DISC t ≠ 1 → s.dev.slotHeld t i = false → s.dev.get .HK_CH_RAW_FADE_LEFT i = 0 →
          e.get .HK_CH_RES_VALUE i = average (s.dev.get .HK_CH_RAW_LEN_LIVE i) ((s.dev.hkTrimmed t code :: s.dev.history i).take 512) ∧
          e.get .HK_CH_RES_COUNT i = (s.dev.get .HK_CH_RES_COUNT i + 1) % 2 ^ F.HK_CH_RES_COUNT.width ∧
          (2 ≤ s.dev.get .X_HK_LEFT t → e.hk t = hkCONVERTING ∧ e.get .HK_STATUS_ENTRY t = s.dev.get .HK_STATUS_ENTRY t) ∧
          (s.dev.get .X_HK_LEFT t ≤ 1 → s.dev.get .HK_STATUS_ENTRY t + 1 < s.dev.get .X_HK_LEN t → e.hk t = hkCONVERTING ∧
            e.get .HK_STATUS_ENTRY t = s.dev.get .HK_STATUS_ENTRY t + 1) ∧
          (s.dev.get .X_HK_LEFT t ≤ 1 → s.dev.get .X_HK_LEN t ≤ s.dev.get .HK_STATUS_ENTRY t + 1 → e.hk t = hkREADY ∧
            e.get .HK_STATUS_BUSY t = 0 ∧ e.get .HK_EVENTS_SEQ_DONE t = 1))) ∧
    (s.dev.hk t = hkREADY → s.dev.get .X_HK_CLK t + 500 * ns ≤ s.dev.clk → Completes (.converterPowerDown t) s fun e =>
      e.hk t = hkDOWN ∧ Dev.OnlyAt [.HK_STATUS_STATE] t s.dev e)

/-! ## Calibration, the NVM and the ledger -/

/-- R391, R392, R395, R396: runs asked for by unit and by class, and due by time, add their reason and make an IDLE unit DUE, or
are refused; a run that completes applies its trims, or counts a failure and leaves them; one that has lost its start
condition is abandoned and due again. Where the rules leave a point open it states the model's choice (log entries 20 and
55). -/
def Obligations.CalibrationRuns : Prop :=
  ∀ s : State,
    let due := fun (u b : Nat) (e : Dev) => e.get .CAL_U_STATUS_REASONS u = s.dev.get .CAL_U_STATUS_REASONS u ||| b ∧
      e.cal u = if s.dev.cal u = cuIDLE then cuDUE else s.dev.cal u
    (∀ u : Byte, u.toNat ≤ 136 → s.dev.calUnused u.toNat = false → Completes (.calRun u) s fun e => due u.toNat 4 e ∧
      Dev.OnlyAt [.CAL_U_STATUS_REASONS, .CAL_U_STATUS_STATE] u.toNat s.dev e) ∧
    (∀ u : Byte, 136 < u.toNat ∨ s.dev.calUnused u.toNat = true → Completes (.calRun u) s fun e =>
      e.get .CAL_STATUS_REFUSED 0 = 1 ∧ Dev.OnlyAt [.CAL_STATUS_REFUSED] 0 s.dev e) ∧
    (∀ c : BitVec 3, c.toNat ≤ 4 → (∀ u ∈ calUnits c.toNat, s.dev.calUnused u = false) → Completes (.calRunClass c) s fun e =>
      (∀ u ∈ calUnits c.toNat, due u 4 e) ∧ Dev.Only (fun f u => u ∈ calUnits c.toNat ∧
        (f = .CAL_U_STATUS_REASONS ∨ f = .CAL_U_STATUS_STATE)) s.dev e) ∧
    (∀ c : BitVec 3, 4 < c.toNat ∨ (∃ u ∈ calUnits c.toNat, s.dev.calUnused u = true) → Completes (.calRunClass c) s fun e =>
      e.get .CAL_STATUS_REFUSED 0 = 1 ∧ Dev.OnlyAt [.CAL_STATUS_REFUSED] 0 s.dev e) ∧
    ∀ u : Fin 137,
      (let p := s.dev.get .CAL_CLASS_PERIOD (calClass u)
       p ≠ 0 → s.dev.get .X_CAL_LASTAPP u ≠ 0 → s.dev.get .X_CAL_PER u ≠ 1 → s.dev.calUnused u = false →
        s.dev.get .X_CAL_LASTAPP u - 1 + p * sec ≤ s.dev.clk → Completes (.calPeriodicDue u) s fun e => due u 32 e ∧
          Dev.OnlyAt [.CAL_U_STATUS_REASONS, .CAL_U_STATUS_STATE, .X_CAL_PER] u s.dev e) ∧
      ∀ r : List Int, s.dev.cal u = cuRUNNING → (calClass u = 2 → s.dev.hk (u - 128) = hkCAL) →
        s.dev.get .X_CAL_RUN_CLK u + s.dev.runLength u ≤ s.dev.clk →
        let l := s.dev.trimSlots u
        (s.dev.calReady u = true → (∀ i < l.length, trimFails (l.getD i (0, 0, 8)).2.2 (r.getD i 0) = false) →
          Completes (.calRunComplete u r) s fun e => e.cal u = cuAPPLYING ∧ ∃ x ∈ e.calres, x.unit = u ∧
            x.vals.length = l.length) ∧
        (s.dev.calReady u = true → (∃ i < l.length, trimFails (l.getD i (0, 0, 8)).2.2 (r.getD i 0) = true) →
          Completes (.calRunComplete u r) s fun e => e.cal u ≠ cuAPPLYING ∧ 965 ∈ e.pending ∧
            e.get .CAL_U_COUNTS_FAILS u = satAdd F.CAL_U_COUNTS_FAILS.width (s.dev.get .CAL_U_COUNTS_FAILS u) 1 ∧
            e.calres = s.dev.calres) ∧
        (s.dev.calReady u = false → Completes (.calRunComplete u r) s fun e => e.cal u = cuDUE ∧ 965 ∈ e.pending ∧
          e.get .CAL_U_COUNTS_ABORTS u = satAdd F.CAL_U_COUNTS_ABORTS.width (s.dev.get .CAL_U_COUNTS_ABORTS u) 1)

/-- R401 to R404: stores. One asked for while another is busy, or at a site out of range, is refused with its result; else it
begins, and writes at once when every reading is fresh. A store that is done leaves a valid record with the next sequence
number in the slot not in use, which becomes the slot in use. A refused automatic store is tried again after 60 s. Where the
rules leave a point open it states the model's choice (log entries 22 and 23). -/
def Obligations.NvmStores : Prop :=
  ∀ s : State,
    let fresh := ∀ x < 40, s.dev.siteGone x = false → ∃ v, s.dev.recent x sec = some v ∧ nvmBad v = false
    (∀ b : Bool,
      (s.dev.get .CAL_NVM_STATUS_BUSY 0 = 1 → Completes (.nvmStore b) s fun e => e.get .CAL_NVM_STATUS_RESULT 0 = 2 ∧
        Dev.Raised 966 s.dev e ∧ Dev.OnlyRaisingAt [.CAL_NVM_STATUS_RESULT] 0 s.dev e) ∧
      (s.dev.get .CAL_NVM_STATUS_BUSY 0 ≠ 1 →
        (∃ x < 40, s.dev.siteGone x = false ∧ ∃ v, s.dev.recent x sec = some v ∧ nvmBad v = true) →
        Completes (.nvmStore b) s fun e => e.get .CAL_NVM_STATUS_RESULT 0 = 3 ∧ Dev.Raised 966 s.dev e ∧
          Dev.OnlyRaisingAt [.CAL_NVM_STATUS_RESULT] 0 s.dev e) ∧
      (s.dev.get .CAL_NVM_STATUS_BUSY 0 ≠ 1 → fresh → Completes (.nvmStore b) s fun e =>
        e.get .CAL_NVM_STATUS_BUSY 0 = 1 ∧ e.get .X_NVM_PHASE 0 = 2 ∧ e.get .X_NVM_BASE 0 = b2n b ∧
        Dev.OnlyAt [.CAL_NVM_STATUS_BUSY, .X_NVM_PHASE, .X_NVM_BASE, .X_NVM_AUTO, .CAL_NVM_STATUS_RETRY] 0 s.dev e)) ∧
    (s.dev.get .X_NVM_PHASE 0 = 2 → Completes .nvmStoreDone s fun e =>
      e.get .CAL_NVM_STATUS_SOURCE 0 = s.dev.nvmTarget ∧ e.get .CAL_NVM_SEQ_SEQ 0 = s.dev.nvmNextSeq ∧
      e.get .CAL_NVM_STATUS_BUSY 0 = 0 ∧ e.get .CAL_NVM_STATUS_RESULT 0 = 1 ∧ Dev.Raised 966 s.dev e ∧
      (s.dev.nvm.wf = true → e.nvmValid s.dev.nvmTarget = true ∧ e.nvmSeq s.dev.nvmTarget = s.dev.nvmNextSeq)) ∧
    (s.dev.get .CAL_NVM_STATUS_RETRY 0 = 1 → s.dev.get .X_NVM_RETRY_CLK 0 + 60 * sec ≤ s.dev.clk →
      (s.dev.get .CAL_NVM_STATUS_BUSY 0 = 1 → Completes .nvmStoreRetry s fun e => e.get .CAL_NVM_STATUS_RESULT 0 = 2 ∧
        e.get .CAL_NVM_STATUS_RETRY 0 = 1 ∧ e.get .X_NVM_RETRY_CLK 0 = s.dev.clk) ∧
      (s.dev.get .CAL_NVM_STATUS_BUSY 0 ≠ 1 → fresh → Completes .nvmStoreRetry s fun e =>
        e.get .CAL_NVM_STATUS_BUSY 0 = 1 ∧ e.get .CAL_NVM_STATUS_RETRY 0 = 0 ∧ e.get .X_NVM_AUTO 0 = 1))

/-- R407, R411, R413, R416, R433: a period ends at a tick count that is a multiple of its length, once, and leaves a record to
write for every lane with a ledger; records are written while the memory is READY and dropped while it is FAILED; a far
report is noted as fresh, and a rebase waits for the tick. Where the rules leave a point open it states the model's choice
(log entry 48). -/
def Obligations.LedgerCommands : Prop :=
  ∀ s : State,
    (let c := s.dev.get .TIME_TICK_COUNT_COUNT 0
     (c ≠ 0 → c % 2 ^ s.dev.get .LEDG_CFG_PERIOD_EXP 0 = 0 → s.dev.get .X_LG_CLOSED 0 ≠ c + 1 →
      Completes .ledgerPeriodEnd s fun e =>
        e.get .LEDG_PERIOD_COUNT_COUNT 0 =
          (s.dev.get .LEDG_PERIOD_COUNT_COUNT 0 + 1) % 2 ^ F.LEDG_PERIOD_COUNT_COUNT.width ∧
        e.get .X_LG_CLOSED 0 = c + 1 ∧ (s.dev.get .LEDG_CTRL_PERIOD_IRQ 0 = 1 → 967 ∈ e.pending) ∧
        ∀ n < 64, s.dev.lgOn n = true → e.get .X_LG_UNWRITTEN n = 1 ∧ e.get .X_LG_TICKS n = 0 ∧
          e.get .LEDG_L_STATUS_FAR_FRESH n = 0) ∧
     (s.dev.get .X_LG_CLOSED 0 = c + 1 → Completes .ledgerPeriodEnd s fun e => e = s.found)) ∧
    (s.dev.memState = meREADY → s.dev.regionIn 1 = true → Completes .ledgerRecordWrite s fun e =>
      ∀ n < 64, e.get .X_LG_UNWRITTEN n ≠ 1) ∧
    (∀ n < 64, s.dev.memState = meREADY → s.dev.regionIn 1 = true → s.dev.get .X_LG_UNWRITTEN n = 1 →
      (∀ m < 64, m ≠ n → s.dev.get .X_LG_UNWRITTEN m ≠ 1) → Completes .ledgerRecordWrite s fun e =>
        e.get .LEDG_HIST_HEAD_HEAD 0 = (s.dev.get .LEDG_HIST_HEAD_HEAD 0 + 1) % (s.dev.get .X_REGION_SIZE 1 * 2 ^ 20) ∧
        s.dev.mreqs.length < e.mreqs.length) ∧
    (s.dev.memState = meFAILED → Completes .ledgerRecordWrite s fun e => e.mreqs = s.dev.mreqs ∧
      ∀ n < 64, e.get .X_LG_UNWRITTEN n ≠ 1) ∧
    ∀ n : Fin 64,
      (∀ a b w : BitVec 10, Completes (.farReportWrite n a b w) s fun e => e.get .LEDG_L_FAR_SNR0 n = a.toNat ∧
        e.get .LEDG_L_FAR_SNR2 n = b.toNat ∧ e.get .LEDG_L_FAR_WORST n = w.toNat ∧ e.get .LEDG_L_STATUS_FAR_FRESH n = 1 ∧
        Dev.OnlyAt [.LEDG_L_FAR_SNR0, .LEDG_L_FAR_SNR2, .LEDG_L_FAR_WORST, .LEDG_L_STATUS_FAR_FRESH] n s.dev e) ∧
      Completes (.ledgerRebase n) s fun e => e.get .X_LG_REF_DUE n = 1 ∧ Dev.OnlyAt [.X_LG_REF_DUE] n s.dev e

/-! ## The data path -/

/-- R183: the syndrome of an encoded inner codeword is its marker, its data bits are those given, and check bit j is bit j of
the exclusive or of the columns of the data bits that are 1 and the marker. A codeword of a frame carries marker 0, and the
anchor of group-local lane g carries 0xC0 + g. -/
def Obligations.SyndromeIsMarker : Prop :=
  (∀ (m : Byte) (data : List Bool), data.length = 128 →
    syndrome (innerEncode m.toNat data) = m.toNat ∧ (innerEncode m.toNat data).length = 136 ∧
    (innerEncode m.toNat data).take 128 = data ∧ ∀ j < 8, (innerEncode m.toNat data).getD (128 + j) false =
      bitAt ((List.range 128).foldl (fun v i => if data.getD i false then v ^^^ column i else v) 0 ^^^ m.toNat) j) ∧
  ∀ w k, (∀ g, anchorOf w k = some g → codewordMarker w k = 0xC0 + g) ∧ (anchorOf w k = none → codewordMarker w k = 0)

/-- R184, R185: at every width the 320 codewords of a frame fill the lanes: two bits never share a place, every place lies in a
lane of the group and in its 43520 / w lane bits, and so each place is filled once. R183 to R187: a frame loses nothing. The
codewords that are read back from letters which carry the lane bits of some codewords are those codewords, and the streams
of the codewords that a frame makes of streams are those streams. R187, R237 to R239: the places of the RS codewords: every
symbol of every codeword has one place in a stream and every place one symbol, and every bit of a port's symbols is found on
its host lane. Where the rules leave a point open it states the model's choice (log entry 71). -/
def Obligations.FramePlacesDistinct : Prop :=
  (∀ w ∈ [1, 2, 4, 8],
     (∀ m < 320, ∀ i < 136, (lanePlace w m i).1 < w ∧ (lanePlace w m i).2 < 43520 / w) ∧
     (∀ m < 320, ∀ i < 136, ∀ m' < 320, ∀ i' < 136, lanePlace w m i = lanePlace w m' i' → m = m' ∧ i = i') ∧
     ∀ g < w, ∀ b < 43520 / w, ∃ m < 320, ∃ i < 136, lanePlace w m i = (g, b)) ∧
  (∀ w ∈ [1, 2, 4, 8],
     (∀ (words : List (List Bool)) (letters : List (List (Fin 16))), words.length = 320 → (∀ x ∈ words, x.length = 136) →
       (∀ g < w, ∀ b < 43520 / w,
         bitAt ((letters.getD g []).getD (b / 2) 0).val (3 - b % 2) = (laneBits w g words).getD b false) →
       ∀ m < 320, wordBits w m letters = words.getD m []) ∧
     ∀ streams : List (List Bool), (∀ k < w, (streams.getD k []).length = 40960 / w) →
       ∀ k < w, streamOf w k (frameWords w streams) = streams.getD k []) ∧
  (∀ mode ∈ [1, 2, 3],
     (∀ c, ∀ i < 544, rsFind mode (rsPlace mode c i) = (c, i)) ∧
     (∀ p, rsPlace mode (rsFind mode p).1 (rsFind mode p).2 = p) ∧
     ∀ p, ∀ b < 10, (hostPlace mode p b).1 < 2 ∧ hostFind mode (hostPlace mode p b).1 (hostPlace mode p b).2 = (p, b))
end

