-- ==== Sys2Proof/Laws/Store.lean ====
section
/-! SUPPORT. Reads after writes of the register store. -/

namespace Sys2Proof.Machine
theorem Store.get_insert_same (s : Store) (k : Key) (v : Nat) : (s.insert k v).get k = v := by
  induction s with
  | nil => simp [Store.insert, Store.get]
  | cons e s ih =>
    obtain ⟨k', v'⟩ := e
    unfold Store.insert
    split
    · simp [Store.get]
    · split
      · simp [Store.get]
      · rename_i h _; simp [Store.get, h, ih]
theorem Store.get_insert_other (s : Store) {k k' : Key} (v : Nat) (h : k' ≠ k) :
    (s.insert k v).get k' = s.get k' := by
  induction s with
  | nil => simp [Store.insert, Store.get, h]
  | cons e s ih =>
    obtain ⟨k1, v1⟩ := e
    unfold Store.insert
    split
    · rename_i h1; subst h1; simp [Store.get, h]
    · split
      · simp [Store.get, h]
      · simp [Store.get, ih]
theorem Store.get_filter_same (s : Store) (k : Key) :
    Store.get (s.filter (fun e => decide (e.1 ≠ k))) k = k.f.reset k.i := by
  induction s with
  | nil => simp [Store.get]
  | cons e s ih =>
    obtain ⟨k1, v1⟩ := e
    by_cases h : k1 = k
    · subst h; simpa using ih
    · have h2 : k ≠ k1 := fun x => h x.symm
      simp only [List.filter_cons, decide_not, h, decide_false, Bool.not_false, if_true, Store.get, h2, if_false]
      simpa using ih
theorem Store.get_filter_other (s : Store) {k k' : Key} (h : k' ≠ k) :
    Store.get (s.filter (fun e => decide (e.1 ≠ k))) k' = s.get k' := by
  induction s with
  | nil => simp [Store.get]
  | cons e s ih =>
    obtain ⟨k1, v1⟩ := e
    by_cases h1 : k1 = k
    · subst h1; simp only [List.filter_cons, ne_eq, not_true_eq_false, decide_false, Bool.false_eq_true, if_false, Store.get, h, ih]
    · simp only [List.filter_cons, ne_eq, h1, not_false_eq_true, decide_true, if_true, Store.get, ih]
@[simp] theorem Store.get_set_same (s : Store) (k : Key) (v : Nat) : (s.set k v).get k = v := by
  unfold Store.set
  split
  · rename_i h; rw [Store.get_filter_same, h]
  · exact Store.get_insert_same s k v
@[simp] theorem Store.get_set_other (s : Store) {k k' : Key} (v : Nat) (h : k' ≠ k) : (s.set k v).get k' = s.get k' := by
  unfold Store.set
  split
  · exact Store.get_filter_other s h
  · exact Store.get_insert_other s v h
end Sys2Proof.Machine
end

