-- ==== Sys2Proof/Laws/Canonical.lean ====
section
/-! SUPPORT. Every write of a store, of a byte memory and of a rising list keeps its canonical form, and what a memory reads
after a write. -/

namespace Sys2Proof.Machine

/-! ## The order of keys -/

set_option maxRecDepth 20000 in
theorem F.ctorIdx_lt (f : F) : f.ctorIdx < 2048 := by cases f <;> decide
theorem F.ctorIdx_inj {f g : F} (h : f.ctorIdx = g.ctorIdx) : f = g := by
  rw [← F.ofNat_ctorIdx f, ← F.ofNat_ctorIdx g, h]
/-- Keys of equal code are equal, so the order of keys is total. -/
theorem Key.code_inj {k k' : Key} (h : k.code = k'.code) : k = k' := by
  obtain ⟨f, i⟩ := k
  obtain ⟨g, j⟩ := k'
  have hf := F.ctorIdx_lt f
  have hg := F.ctorIdx_lt g
  simp only [Key.code] at h
  obtain rfl : i = j := by omega
  rw [F.ctorIdx_inj (show f.ctorIdx = g.ctorIdx by omega)]

/-! ## The register store -/

/-- The canonical form: keys rising, and no entry at its reset value. -/
theorem Store.wf_iff (s : Store) : s.wf = true ↔
    s.Pairwise (fun a b => a.1.code < b.1.code) ∧ ∀ e ∈ s, e.2 ≠ e.1.f.reset e.1.i := by
  induction s with
  | nil => simp [Store.wf]
  | cons a s ih =>
    cases s with
    | nil => simp [Store.wf]
    | cons b s =>
      simp only [Store.wf, Bool.and_eq_true, decide_eq_true_eq, ih, List.pairwise_cons, List.forall_mem_cons]
      constructor
      · rintro ⟨⟨ha, hab⟩, ⟨hb, hs⟩, hn⟩
        exact ⟨⟨⟨hab, fun x hx => hab.trans (hb x hx)⟩, hb, hs⟩, ha, hn⟩
      · rintro ⟨⟨⟨hab, -⟩, hb, hs⟩, ha, hn⟩
        exact ⟨⟨ha, hab⟩, ⟨hb, hs⟩, hn⟩
theorem Store.wf_filter {s : Store} (p : Key × Nat → Bool) (h : s.wf = true) : Store.wf (s.filter p) = true := by
  rw [Store.wf_iff] at *
  exact ⟨h.1.filter _, fun e he => h.2 e (List.mem_of_mem_filter he)⟩
theorem Store.mem_insert {s : Store} {k : Key} {v : Nat} {e : Key × Nat} (h : e ∈ s.insert k v) : e = (k, v) ∨ e ∈ s := by
  induction s with
  | nil => simpa [Store.insert] using h
  | cons a s ih =>
    obtain ⟨k', v'⟩ := a
    unfold Store.insert at h
    split at h
    · simp only [List.mem_cons] at h ⊢; tauto
    · split at h
      · simpa only [List.mem_cons] using h
      · simp only [List.mem_cons] at h ⊢
        rcases h with h | h
        · exact .inr (.inl h)
        · rcases ih h with h | h <;> tauto
theorem Store.wf_insert {s : Store} {k : Key} {v : Nat} (h : s.wf = true) (hv : v ≠ k.f.reset k.i) :
    Store.wf (s.insert k v) = true := by
  rw [Store.wf_iff] at *
  refine ⟨?_, fun e he => (Store.mem_insert he).elim (fun h1 => h1 ▸ hv) (h.2 e)⟩
  obtain ⟨h, -⟩ := h
  induction s with
  | nil => simp [Store.insert]
  | cons a s ih =>
    obtain ⟨k', v'⟩ := a
    rw [List.pairwise_cons] at h
    unfold Store.insert
    split
    · rename_i hk; subst hk; exact List.pairwise_cons.2 h
    · split
      · rename_i hk
        refine List.pairwise_cons.2 ⟨fun b hb => ?_, List.pairwise_cons.2 h⟩
        rcases List.mem_cons.1 hb with rfl | hb
        · exact hk
        · exact hk.trans (h.1 b hb)
      · rename_i hne hk
        refine List.pairwise_cons.2 ⟨fun b hb => ?_, ih h.2⟩
        rcases Store.mem_insert hb with rfl | hb
        · have : k'.code ≠ k.code := fun x => hne (Key.code_inj x).symm
          show k'.code < k.code
          omega
        · exact h.1 b hb
/-- A write of a store keeps its canonical form. -/
theorem Store.wf_set {s : Store} (k : Key) (v : Nat) (h : s.wf = true) : (s.set k v).wf = true := by
  unfold Store.set
  split
  · exact Store.wf_filter _ h
  · exact Store.wf_insert h ‹_›

/-! ## Byte memories -/

/-- The canonical form: addresses rising, and no byte 0 listed. -/
theorem Mem.wf_iff (m : Mem) : m.wf = true ↔ m.Pairwise (fun a b => a.1 < b.1) ∧ ∀ c ∈ m, c.2 ≠ 0 := by
  induction m with
  | nil => simp [Mem.wf]
  | cons a s ih =>
    cases s with
    | nil => simp [Mem.wf]
    | cons b s =>
      simp only [Mem.wf, Bool.and_eq_true, decide_eq_true_eq, ih, List.pairwise_cons, List.forall_mem_cons]
      constructor
      · rintro ⟨⟨ha, hab⟩, ⟨hb, hs⟩, hn⟩
        exact ⟨⟨⟨hab, fun x hx => hab.trans (hb x hx)⟩, hb, hs⟩, ha, hn⟩
      · rintro ⟨⟨⟨hab, -⟩, hb, hs⟩, ha, hn⟩
        exact ⟨⟨ha, hab⟩, ⟨hb, hs⟩, hn⟩
theorem Mem.wf_filter {m : Mem} (p : Host.Cell → Bool) (h : m.wf = true) : Mem.wf (m.filter p) = true := by
  rw [Mem.wf_iff] at *
  exact ⟨h.1.filter _, fun c hc => h.2 c (List.mem_of_mem_filter hc)⟩
theorem Mem.mem_insert {m : Mem} {a : Nat} {b : Byte} {c : Host.Cell} (h : c ∈ m.insert a b) : c = (a, b) ∨ c ∈ m := by
  induction m with
  | nil => simpa [Mem.insert] using h
  | cons x m ih =>
    obtain ⟨a', b'⟩ := x
    unfold Mem.insert at h
    split at h
    · simp only [List.mem_cons] at h ⊢; tauto
    · split at h
      · simpa only [List.mem_cons] using h
      · simp only [List.mem_cons] at h ⊢
        rcases h with h | h
        · exact .inr (.inl h)
        · rcases ih h with h | h <;> tauto
theorem Mem.wf_insert {m : Mem} {a : Nat} {b : Byte} (h : m.wf = true) (hb : b ≠ 0) : Mem.wf (m.insert a b) = true := by
  rw [Mem.wf_iff] at *
  refine ⟨?_, fun c hc => (Mem.mem_insert hc).elim (fun h1 => h1 ▸ hb) (h.2 c)⟩
  obtain ⟨h, -⟩ := h
  induction m with
  | nil => simp [Mem.insert]
  | cons x m ih =>
    obtain ⟨a', b'⟩ := x
    rw [List.pairwise_cons] at h
    unfold Mem.insert
    split
    · rename_i ha; subst ha; exact List.pairwise_cons.2 h
    · split
      · rename_i ha
        refine List.pairwise_cons.2 ⟨fun c hc => ?_, List.pairwise_cons.2 h⟩
        rcases List.mem_cons.1 hc with rfl | hc
        · exact ha
        · exact ha.trans (h.1 c hc)
      · refine List.pairwise_cons.2 ⟨fun c hc => ?_, ih h.2⟩
        rcases Mem.mem_insert hc with rfl | hc
        · show a' < a; omega
        · exact h.1 c hc
/-- A write of a byte keeps the canonical form. -/
theorem Mem.wf_write {m : Mem} (a : Nat) (b : Byte) (h : m.wf = true) : (m.write a b).wf = true := by
  unfold Mem.write
  split
  · exact Mem.wf_filter _ h
  · exact Mem.wf_insert h ‹_›
theorem Mem.wf_writeBytes {m : Mem} (a : Nat) (bs : List Byte) (h : m.wf = true) : (m.writeBytes a bs).wf = true := by
  induction bs generalizing m a with
  | nil => exact h
  | cons b bs ih => exact ih (a + 1) (Mem.wf_write a b h)

theorem Mem.read_filter (m : Mem) (a x : Nat) :
    Mem.read (m.filter fun e => decide (e.1 ≠ a)) x = if x = a then 0 else m.read x := by
  induction m with
  | nil => simp [Mem.read]
  | cons c m ih =>
    obtain ⟨a', b'⟩ := c
    by_cases h : a' = a
    · subst h
      simp only [List.filter_cons, ne_eq, not_true_eq_false, decide_false, Bool.false_eq_true, if_false, Mem.read]
      rw [ih]; split <;> simp_all
    · simp only [List.filter_cons, ne_eq, h, not_false_eq_true, decide_true, if_true, Mem.read]
      rw [ih]; split <;> simp_all
theorem Mem.read_insert (m : Mem) (a x : Nat) (b : Byte) : (m.insert a b).read x = if x = a then b else m.read x := by
  induction m with
  | nil => simp [Mem.insert, Mem.read]
  | cons c m ih =>
    obtain ⟨a', b'⟩ := c
    unfold Mem.insert
    split
    · rename_i h; subst h; simp only [Mem.read]; split <;> rfl
    · split
      · rfl
      · rename_i h _; simp only [Mem.read, ih]; by_cases hx : x = a <;> simp_all
/-- What a memory reads after a write of one byte: that byte there, and every other byte as before. -/
@[simp] theorem Mem.read_write (m : Mem) (a x : Nat) (b : Byte) : (m.write a b).read x = if x = a then b else m.read x := by
  unfold Mem.write
  split
  · rename_i h; subst h; exact Mem.read_filter m a x
  · exact Mem.read_insert m a x b
/-- What a memory reads after a write of bytes. -/
theorem Mem.read_writeBytes (m : Mem) (a x : Nat) (bs : List Byte) :
    (m.writeBytes a bs).read x = if a ≤ x ∧ x < a + bs.length then bs.getD (x - a) 0 else m.read x := by
  induction bs generalizing m a with
  | nil => simp only [Mem.writeBytes, List.length_nil]; rw [if_neg (by omega)]
  | cons b bs ih =>
    simp only [Mem.writeBytes, ih, Mem.read_write, List.length_cons]
    by_cases h : x = a
    · subst h; rw [if_neg (by omega), if_pos rfl, if_pos (by omega)]; simp
    · by_cases h1 : a + 1 ≤ x ∧ x < a + 1 + bs.length
      · rw [if_pos h1, if_pos (by omega)]
        obtain ⟨n, hn⟩ : ∃ n, x - a = n + 1 := ⟨x - a - 1, by omega⟩
        rw [hn, List.getD_cons_succ, show x - (a + 1) = n by omega]
      · rw [if_neg h1, if_neg h, if_neg (by omega)]

/-! ## Rising lists -/

theorem mem_insertNat (l : List Nat) (n m : Nat) : m ∈ insertNat l n ↔ m = n ∨ m ∈ l := by
  induction l with
  | nil => simp [insertNat]
  | cons a l ih =>
    unfold insertNat
    split
    · rename_i h; subst h; simp
    · split
      · simp
      · simp only [List.mem_cons, ih]; tauto
theorem insertNat_rising {l : List Nat} (n : Nat) (h : l.Pairwise (· < ·)) : (insertNat l n).Pairwise (· < ·) := by
  induction l with
  | nil => simp [insertNat]
  | cons a l ih =>
    rw [List.pairwise_cons] at h
    unfold insertNat
    split
    · exact List.pairwise_cons.2 h
    · split
      · rename_i hn
        refine List.pairwise_cons.2 ⟨fun b hb => ?_, List.pairwise_cons.2 h⟩
        rcases List.mem_cons.1 hb with rfl | hb
        · exact hn
        · exact hn.trans (h.1 b hb)
      · refine List.pairwise_cons.2 ⟨fun b hb => ?_, ih h.2⟩
        rcases (mem_insertNat _ _ _).1 hb with rfl | hb
        · omega
        · exact h.1 b hb
@[simp] theorem mem_removeNat (l : List Nat) (n m : Nat) : m ∈ removeNat l n ↔ m ∈ l ∧ m ≠ n := by simp [removeNat]
theorem removeNat_rising {l : List Nat} (n : Nat) (h : l.Pairwise (· < ·)) : (removeNat l n).Pairwise (· < ·) := h.filter _

end Sys2Proof.Machine
end

