-- ==== Sys2Proof/Laws/State.lean ====
section
/-! SUPPORT. What each update of the device leaves alone: one lemma for each field and update, true by rfl, and the reads
after the field writes of Ops. -/

namespace Sys2Proof.Machine

/-! ## set -/

@[simp] theorem Dev.set_live (d : Dev) (f : F) (i v : Nat) : (d.set f i v).live = d.live := rfl
@[simp] theorem Dev.set_clk (d : Dev) (f : F) (i v : Nat) : (d.set f i v).clk = d.clk := rfl
@[simp] theorem Dev.set_free (d : Dev) (f : F) (i v : Nat) : (d.set f i v).free = d.free := rfl
@[simp] theorem Dev.set_posts (d : Dev) (f : F) (i v : Nat) : (d.set f i v).posts = d.posts := rfl
@[simp] theorem Dev.set_carryRx (d : Dev) (f : F) (i v : Nat) : (d.set f i v).carryRx = d.carryRx := rfl
@[simp] theorem Dev.set_pending (d : Dev) (f : F) (i v : Nat) : (d.set f i v).pending = d.pending := rfl
@[simp] theorem Dev.set_service (d : Dev) (f : F) (i v : Nat) : (d.set f i v).service = d.service := rfl
@[simp] theorem Dev.set_pba (d : Dev) (f : F) (i v : Nat) : (d.set f i v).pba = d.pba := rfl
@[simp] theorem Dev.set_viols (d : Dev) (f : F) (i v : Nat) : (d.set f i v).viols = d.viols := rfl
@[simp] theorem Dev.set_msgs (d : Dev) (f : F) (i v : Nat) : (d.set f i v).msgs = d.msgs := rfl
@[simp] theorem Dev.set_quar (d : Dev) (f : F) (i v : Nat) : (d.set f i v).quar = d.quar := rfl
@[simp] theorem Dev.set_gens (d : Dev) (f : F) (i v : Nat) : (d.set f i v).gens = d.gens := rfl
@[simp] theorem Dev.set_dupes (d : Dev) (f : F) (i v : Nat) : (d.set f i v).dupes = d.dupes := rfl
@[simp] theorem Dev.set_dlq (d : Dev) (f : F) (i v : Nat) : (d.set f i v).dlq = d.dlq := rfl
@[simp] theorem Dev.set_cmem (d : Dev) (f : F) (i v : Nat) : (d.set f i v).cmem = d.cmem := rfl
@[simp] theorem Dev.set_gddr (d : Dev) (f : F) (i v : Nat) : (d.set f i v).gddr = d.gddr := rfl
@[simp] theorem Dev.set_lost (d : Dev) (f : F) (i v : Nat) : (d.set f i v).lost = d.lost := rfl
@[simp] theorem Dev.set_mreqs (d : Dev) (f : F) (i v : Nat) : (d.set f i v).mreqs = d.mreqs := rfl
@[simp] theorem Dev.set_trigs (d : Dev) (f : F) (i v : Nat) : (d.set f i v).trigs = d.trigs := rfl
@[simp] theorem Dev.set_recs (d : Dev) (f : F) (i v : Nat) : (d.set f i v).recs = d.recs := rfl
@[simp] theorem Dev.set_refs (d : Dev) (f : F) (i v : Nat) : (d.set f i v).refs = d.refs := rfl
@[simp] theorem Dev.set_blocks (d : Dev) (f : F) (i v : Nat) : (d.set f i v).blocks = d.blocks := rfl
@[simp] theorem Dev.set_samples (d : Dev) (f : F) (i v : Nat) : (d.set f i v).samples = d.samples := rfl
@[simp] theorem Dev.set_frames (d : Dev) (f : F) (i v : Nat) : (d.set f i v).frames = d.frames := rfl
@[simp] theorem Dev.set_held (d : Dev) (f : F) (i v : Nat) : (d.set f i v).held = d.held := rfl
@[simp] theorem Dev.set_descs (d : Dev) (f : F) (i v : Nat) : (d.set f i v).descs = d.descs := rfl
@[simp] theorem Dev.set_hist (d : Dev) (f : F) (i v : Nat) : (d.set f i v).hist = d.hist := rfl
@[simp] theorem Dev.set_calres (d : Dev) (f : F) (i v : Nat) : (d.set f i v).calres = d.calres := rfl
@[simp] theorem Dev.set_reads (d : Dev) (f : F) (i v : Nat) : (d.set f i v).reads = d.reads := rfl
@[simp] theorem Dev.set_ledg (d : Dev) (f : F) (i v : Nat) : (d.set f i v).ledg = d.ledg := rfl
@[simp] theorem Dev.set_moves (d : Dev) (f : F) (i v : Nat) : (d.set f i v).moves = d.moves := rfl
@[simp] theorem Dev.set_nvm (d : Dev) (f : F) (i v : Nat) : (d.set f i v).nvm = d.nvm := rfl
@[simp] theorem Dev.set_flash (d : Dev) (f : F) (i v : Nat) : (d.set f i v).flash = d.flash := rfl
@[simp] theorem Dev.set_planBuf (d : Dev) (f : F) (i v : Nat) : (d.set f i v).planBuf = d.planBuf := rfl
@[simp] theorem Dev.set_plan (d : Dev) (f : F) (i v : Nat) : (d.set f i v).plan = d.plan := rfl
@[simp] theorem Dev.set_posted (d : Dev) (f : F) (i v : Nat) : (d.set f i v).posted = d.posted := rfl
@[simp] theorem Dev.set_snaps (d : Dev) (f : F) (i v : Nat) : (d.set f i v).snaps = d.snaps := rfl
@[simp] theorem Dev.set_rxFrames (d : Dev) (f : F) (i v : Nat) : (d.set f i v).rxFrames = d.rxFrames := rfl
@[simp] theorem Dev.set_rsDone (d : Dev) (f : F) (i v : Nat) : (d.set f i v).rsDone = d.rsDone := rfl
@[simp] theorem Dev.set_loops (d : Dev) (f : F) (i v : Nat) : (d.set f i v).loops = d.loops := rfl
@[simp] theorem Dev.set_looped_ (d : Dev) (f : F) (i v : Nat) : (d.set f i v).looped_ = d.looped_ := rfl
@[simp] theorem Dev.set_lineIn (d : Dev) (f : F) (i v : Nat) : (d.set f i v).lineIn = d.lineIn := rfl
@[simp] theorem Dev.set_near (d : Dev) (f : F) (i v : Nat) : (d.set f i v).near = d.near := rfl
@[simp] theorem Dev.set_chans (d : Dev) (f : F) (i v : Nat) : (d.set f i v).chans = d.chans := rfl
@[simp] theorem Dev.set_rshad (d : Dev) (f : F) (i v : Nat) : (d.set f i v).rshad = d.rshad := rfl
@[simp] theorem Dev.set_wshad (d : Dev) (f : F) (i v : Nat) : (d.set f i v).wshad = d.wshad := rfl
@[simp] theorem Dev.set_out (d : Dev) (f : F) (i v : Nat) : (d.set f i v).out = d.out := rfl

/-! ## lset -/

@[simp] theorem Dev.lset_reg (d : Dev) (f : F) (i v : Nat) : (d.lset f i v).reg = d.reg := rfl
@[simp] theorem Dev.lset_clk (d : Dev) (f : F) (i v : Nat) : (d.lset f i v).clk = d.clk := rfl
@[simp] theorem Dev.lset_free (d : Dev) (f : F) (i v : Nat) : (d.lset f i v).free = d.free := rfl
@[simp] theorem Dev.lset_posts (d : Dev) (f : F) (i v : Nat) : (d.lset f i v).posts = d.posts := rfl
@[simp] theorem Dev.lset_carryRx (d : Dev) (f : F) (i v : Nat) : (d.lset f i v).carryRx = d.carryRx := rfl
@[simp] theorem Dev.lset_pending (d : Dev) (f : F) (i v : Nat) : (d.lset f i v).pending = d.pending := rfl
@[simp] theorem Dev.lset_service (d : Dev) (f : F) (i v : Nat) : (d.lset f i v).service = d.service := rfl
@[simp] theorem Dev.lset_pba (d : Dev) (f : F) (i v : Nat) : (d.lset f i v).pba = d.pba := rfl
@[simp] theorem Dev.lset_viols (d : Dev) (f : F) (i v : Nat) : (d.lset f i v).viols = d.viols := rfl
@[simp] theorem Dev.lset_msgs (d : Dev) (f : F) (i v : Nat) : (d.lset f i v).msgs = d.msgs := rfl
@[simp] theorem Dev.lset_quar (d : Dev) (f : F) (i v : Nat) : (d.lset f i v).quar = d.quar := rfl
@[simp] theorem Dev.lset_gens (d : Dev) (f : F) (i v : Nat) : (d.lset f i v).gens = d.gens := rfl
@[simp] theorem Dev.lset_dupes (d : Dev) (f : F) (i v : Nat) : (d.lset f i v).dupes = d.dupes := rfl
@[simp] theorem Dev.lset_dlq (d : Dev) (f : F) (i v : Nat) : (d.lset f i v).dlq = d.dlq := rfl
@[simp] theorem Dev.lset_cmem (d : Dev) (f : F) (i v : Nat) : (d.lset f i v).cmem = d.cmem := rfl
@[simp] theorem Dev.lset_gddr (d : Dev) (f : F) (i v : Nat) : (d.lset f i v).gddr = d.gddr := rfl
@[simp] theorem Dev.lset_lost (d : Dev) (f : F) (i v : Nat) : (d.lset f i v).lost = d.lost := rfl
@[simp] theorem Dev.lset_mreqs (d : Dev) (f : F) (i v : Nat) : (d.lset f i v).mreqs = d.mreqs := rfl
@[simp] theorem Dev.lset_trigs (d : Dev) (f : F) (i v : Nat) : (d.lset f i v).trigs = d.trigs := rfl
@[simp] theorem Dev.lset_recs (d : Dev) (f : F) (i v : Nat) : (d.lset f i v).recs = d.recs := rfl
@[simp] theorem Dev.lset_refs (d : Dev) (f : F) (i v : Nat) : (d.lset f i v).refs = d.refs := rfl
@[simp] theorem Dev.lset_blocks (d : Dev) (f : F) (i v : Nat) : (d.lset f i v).blocks = d.blocks := rfl
@[simp] theorem Dev.lset_samples (d : Dev) (f : F) (i v : Nat) : (d.lset f i v).samples = d.samples := rfl
@[simp] theorem Dev.lset_frames (d : Dev) (f : F) (i v : Nat) : (d.lset f i v).frames = d.frames := rfl
@[simp] theorem Dev.lset_held (d : Dev) (f : F) (i v : Nat) : (d.lset f i v).held = d.held := rfl
@[simp] theorem Dev.lset_descs (d : Dev) (f : F) (i v : Nat) : (d.lset f i v).descs = d.descs := rfl
@[simp] theorem Dev.lset_hist (d : Dev) (f : F) (i v : Nat) : (d.lset f i v).hist = d.hist := rfl
@[simp] theorem Dev.lset_calres (d : Dev) (f : F) (i v : Nat) : (d.lset f i v).calres = d.calres := rfl
@[simp] theorem Dev.lset_reads (d : Dev) (f : F) (i v : Nat) : (d.lset f i v).reads = d.reads := rfl
@[simp] theorem Dev.lset_ledg (d : Dev) (f : F) (i v : Nat) : (d.lset f i v).ledg = d.ledg := rfl
@[simp] theorem Dev.lset_moves (d : Dev) (f : F) (i v : Nat) : (d.lset f i v).moves = d.moves := rfl
@[simp] theorem Dev.lset_nvm (d : Dev) (f : F) (i v : Nat) : (d.lset f i v).nvm = d.nvm := rfl
@[simp] theorem Dev.lset_flash (d : Dev) (f : F) (i v : Nat) : (d.lset f i v).flash = d.flash := rfl
@[simp] theorem Dev.lset_planBuf (d : Dev) (f : F) (i v : Nat) : (d.lset f i v).planBuf = d.planBuf := rfl
@[simp] theorem Dev.lset_plan (d : Dev) (f : F) (i v : Nat) : (d.lset f i v).plan = d.plan := rfl
@[simp] theorem Dev.lset_posted (d : Dev) (f : F) (i v : Nat) : (d.lset f i v).posted = d.posted := rfl
@[simp] theorem Dev.lset_snaps (d : Dev) (f : F) (i v : Nat) : (d.lset f i v).snaps = d.snaps := rfl
@[simp] theorem Dev.lset_rxFrames (d : Dev) (f : F) (i v : Nat) : (d.lset f i v).rxFrames = d.rxFrames := rfl
@[simp] theorem Dev.lset_rsDone (d : Dev) (f : F) (i v : Nat) : (d.lset f i v).rsDone = d.rsDone := rfl
@[simp] theorem Dev.lset_loops (d : Dev) (f : F) (i v : Nat) : (d.lset f i v).loops = d.loops := rfl
@[simp] theorem Dev.lset_looped_ (d : Dev) (f : F) (i v : Nat) : (d.lset f i v).looped_ = d.looped_ := rfl
@[simp] theorem Dev.lset_lineIn (d : Dev) (f : F) (i v : Nat) : (d.lset f i v).lineIn = d.lineIn := rfl
@[simp] theorem Dev.lset_near (d : Dev) (f : F) (i v : Nat) : (d.lset f i v).near = d.near := rfl
@[simp] theorem Dev.lset_chans (d : Dev) (f : F) (i v : Nat) : (d.lset f i v).chans = d.chans := rfl
@[simp] theorem Dev.lset_rshad (d : Dev) (f : F) (i v : Nat) : (d.lset f i v).rshad = d.rshad := rfl
@[simp] theorem Dev.lset_wshad (d : Dev) (f : F) (i v : Nat) : (d.lset f i v).wshad = d.wshad := rfl
@[simp] theorem Dev.lset_out (d : Dev) (f : F) (i v : Nat) : (d.lset f i v).out = d.out := rfl

/-! ## send -/

@[simp] theorem Dev.send_reg (d : Dev) (o : Out) : (d.send o).reg = d.reg := rfl
@[simp] theorem Dev.send_live (d : Dev) (o : Out) : (d.send o).live = d.live := rfl
@[simp] theorem Dev.send_clk (d : Dev) (o : Out) : (d.send o).clk = d.clk := rfl
@[simp] theorem Dev.send_free (d : Dev) (o : Out) : (d.send o).free = d.free := rfl
@[simp] theorem Dev.send_posts (d : Dev) (o : Out) : (d.send o).posts = d.posts := rfl
@[simp] theorem Dev.send_carryRx (d : Dev) (o : Out) : (d.send o).carryRx = d.carryRx := rfl
@[simp] theorem Dev.send_pending (d : Dev) (o : Out) : (d.send o).pending = d.pending := rfl
@[simp] theorem Dev.send_service (d : Dev) (o : Out) : (d.send o).service = d.service := rfl
@[simp] theorem Dev.send_pba (d : Dev) (o : Out) : (d.send o).pba = d.pba := rfl
@[simp] theorem Dev.send_viols (d : Dev) (o : Out) : (d.send o).viols = d.viols := rfl
@[simp] theorem Dev.send_msgs (d : Dev) (o : Out) : (d.send o).msgs = d.msgs := rfl
@[simp] theorem Dev.send_quar (d : Dev) (o : Out) : (d.send o).quar = d.quar := rfl
@[simp] theorem Dev.send_gens (d : Dev) (o : Out) : (d.send o).gens = d.gens := rfl
@[simp] theorem Dev.send_dupes (d : Dev) (o : Out) : (d.send o).dupes = d.dupes := rfl
@[simp] theorem Dev.send_dlq (d : Dev) (o : Out) : (d.send o).dlq = d.dlq := rfl
@[simp] theorem Dev.send_cmem (d : Dev) (o : Out) : (d.send o).cmem = d.cmem := rfl
@[simp] theorem Dev.send_gddr (d : Dev) (o : Out) : (d.send o).gddr = d.gddr := rfl
@[simp] theorem Dev.send_lost (d : Dev) (o : Out) : (d.send o).lost = d.lost := rfl
@[simp] theorem Dev.send_mreqs (d : Dev) (o : Out) : (d.send o).mreqs = d.mreqs := rfl
@[simp] theorem Dev.send_trigs (d : Dev) (o : Out) : (d.send o).trigs = d.trigs := rfl
@[simp] theorem Dev.send_recs (d : Dev) (o : Out) : (d.send o).recs = d.recs := rfl
@[simp] theorem Dev.send_refs (d : Dev) (o : Out) : (d.send o).refs = d.refs := rfl
@[simp] theorem Dev.send_blocks (d : Dev) (o : Out) : (d.send o).blocks = d.blocks := rfl
@[simp] theorem Dev.send_samples (d : Dev) (o : Out) : (d.send o).samples = d.samples := rfl
@[simp] theorem Dev.send_frames (d : Dev) (o : Out) : (d.send o).frames = d.frames := rfl
@[simp] theorem Dev.send_held (d : Dev) (o : Out) : (d.send o).held = d.held := rfl
@[simp] theorem Dev.send_descs (d : Dev) (o : Out) : (d.send o).descs = d.descs := rfl
@[simp] theorem Dev.send_hist (d : Dev) (o : Out) : (d.send o).hist = d.hist := rfl
@[simp] theorem Dev.send_calres (d : Dev) (o : Out) : (d.send o).calres = d.calres := rfl
@[simp] theorem Dev.send_reads (d : Dev) (o : Out) : (d.send o).reads = d.reads := rfl
@[simp] theorem Dev.send_ledg (d : Dev) (o : Out) : (d.send o).ledg = d.ledg := rfl
@[simp] theorem Dev.send_moves (d : Dev) (o : Out) : (d.send o).moves = d.moves := rfl
@[simp] theorem Dev.send_nvm (d : Dev) (o : Out) : (d.send o).nvm = d.nvm := rfl
@[simp] theorem Dev.send_flash (d : Dev) (o : Out) : (d.send o).flash = d.flash := rfl
@[simp] theorem Dev.send_planBuf (d : Dev) (o : Out) : (d.send o).planBuf = d.planBuf := rfl
@[simp] theorem Dev.send_plan (d : Dev) (o : Out) : (d.send o).plan = d.plan := rfl
@[simp] theorem Dev.send_posted (d : Dev) (o : Out) : (d.send o).posted = d.posted := rfl
@[simp] theorem Dev.send_snaps (d : Dev) (o : Out) : (d.send o).snaps = d.snaps := rfl
@[simp] theorem Dev.send_rxFrames (d : Dev) (o : Out) : (d.send o).rxFrames = d.rxFrames := rfl
@[simp] theorem Dev.send_rsDone (d : Dev) (o : Out) : (d.send o).rsDone = d.rsDone := rfl
@[simp] theorem Dev.send_loops (d : Dev) (o : Out) : (d.send o).loops = d.loops := rfl
@[simp] theorem Dev.send_looped_ (d : Dev) (o : Out) : (d.send o).looped_ = d.looped_ := rfl
@[simp] theorem Dev.send_lineIn (d : Dev) (o : Out) : (d.send o).lineIn = d.lineIn := rfl
@[simp] theorem Dev.send_near (d : Dev) (o : Out) : (d.send o).near = d.near := rfl
@[simp] theorem Dev.send_chans (d : Dev) (o : Out) : (d.send o).chans = d.chans := rfl
@[simp] theorem Dev.send_rshad (d : Dev) (o : Out) : (d.send o).rshad = d.rshad := rfl
@[simp] theorem Dev.send_wshad (d : Dev) (o : Out) : (d.send o).wshad = d.wshad := rfl

/-! ## drawn -/

@[simp] theorem Dev.drawn_reg (d : Dev) : (d.drawn).reg = d.reg := rfl
@[simp] theorem Dev.drawn_live (d : Dev) : (d.drawn).live = d.live := rfl
@[simp] theorem Dev.drawn_clk (d : Dev) : (d.drawn).clk = d.clk := rfl
@[simp] theorem Dev.drawn_posts (d : Dev) : (d.drawn).posts = d.posts := rfl
@[simp] theorem Dev.drawn_carryRx (d : Dev) : (d.drawn).carryRx = d.carryRx := rfl
@[simp] theorem Dev.drawn_pending (d : Dev) : (d.drawn).pending = d.pending := rfl
@[simp] theorem Dev.drawn_service (d : Dev) : (d.drawn).service = d.service := rfl
@[simp] theorem Dev.drawn_pba (d : Dev) : (d.drawn).pba = d.pba := rfl
@[simp] theorem Dev.drawn_viols (d : Dev) : (d.drawn).viols = d.viols := rfl
@[simp] theorem Dev.drawn_msgs (d : Dev) : (d.drawn).msgs = d.msgs := rfl
@[simp] theorem Dev.drawn_quar (d : Dev) : (d.drawn).quar = d.quar := rfl
@[simp] theorem Dev.drawn_gens (d : Dev) : (d.drawn).gens = d.gens := rfl
@[simp] theorem Dev.drawn_dupes (d : Dev) : (d.drawn).dupes = d.dupes := rfl
@[simp] theorem Dev.drawn_dlq (d : Dev) : (d.drawn).dlq = d.dlq := rfl
@[simp] theorem Dev.drawn_cmem (d : Dev) : (d.drawn).cmem = d.cmem := rfl
@[simp] theorem Dev.drawn_gddr (d : Dev) : (d.drawn).gddr = d.gddr := rfl
@[simp] theorem Dev.drawn_lost (d : Dev) : (d.drawn).lost = d.lost := rfl
@[simp] theorem Dev.drawn_mreqs (d : Dev) : (d.drawn).mreqs = d.mreqs := rfl
@[simp] theorem Dev.drawn_trigs (d : Dev) : (d.drawn).trigs = d.trigs := rfl
@[simp] theorem Dev.drawn_recs (d : Dev) : (d.drawn).recs = d.recs := rfl
@[simp] theorem Dev.drawn_refs (d : Dev) : (d.drawn).refs = d.refs := rfl
@[simp] theorem Dev.drawn_blocks (d : Dev) : (d.drawn).blocks = d.blocks := rfl
@[simp] theorem Dev.drawn_samples (d : Dev) : (d.drawn).samples = d.samples := rfl
@[simp] theorem Dev.drawn_frames (d : Dev) : (d.drawn).frames = d.frames := rfl
@[simp] theorem Dev.drawn_held (d : Dev) : (d.drawn).held = d.held := rfl
@[simp] theorem Dev.drawn_descs (d : Dev) : (d.drawn).descs = d.descs := rfl
@[simp] theorem Dev.drawn_hist (d : Dev) : (d.drawn).hist = d.hist := rfl
@[simp] theorem Dev.drawn_calres (d : Dev) : (d.drawn).calres = d.calres := rfl
@[simp] theorem Dev.drawn_reads (d : Dev) : (d.drawn).reads = d.reads := rfl
@[simp] theorem Dev.drawn_ledg (d : Dev) : (d.drawn).ledg = d.ledg := rfl
@[simp] theorem Dev.drawn_moves (d : Dev) : (d.drawn).moves = d.moves := rfl
@[simp] theorem Dev.drawn_nvm (d : Dev) : (d.drawn).nvm = d.nvm := rfl
@[simp] theorem Dev.drawn_flash (d : Dev) : (d.drawn).flash = d.flash := rfl
@[simp] theorem Dev.drawn_planBuf (d : Dev) : (d.drawn).planBuf = d.planBuf := rfl
@[simp] theorem Dev.drawn_plan (d : Dev) : (d.drawn).plan = d.plan := rfl
@[simp] theorem Dev.drawn_posted (d : Dev) : (d.drawn).posted = d.posted := rfl
@[simp] theorem Dev.drawn_snaps (d : Dev) : (d.drawn).snaps = d.snaps := rfl
@[simp] theorem Dev.drawn_rxFrames (d : Dev) : (d.drawn).rxFrames = d.rxFrames := rfl
@[simp] theorem Dev.drawn_rsDone (d : Dev) : (d.drawn).rsDone = d.rsDone := rfl
@[simp] theorem Dev.drawn_loops (d : Dev) : (d.drawn).loops = d.loops := rfl
@[simp] theorem Dev.drawn_looped_ (d : Dev) : (d.drawn).looped_ = d.looped_ := rfl
@[simp] theorem Dev.drawn_lineIn (d : Dev) : (d.drawn).lineIn = d.lineIn := rfl
@[simp] theorem Dev.drawn_near (d : Dev) : (d.drawn).near = d.near := rfl
@[simp] theorem Dev.drawn_chans (d : Dev) : (d.drawn).chans = d.chans := rfl
@[simp] theorem Dev.drawn_rshad (d : Dev) : (d.drawn).rshad = d.rshad := rfl
@[simp] theorem Dev.drawn_wshad (d : Dev) : (d.drawn).wshad = d.wshad := rfl
@[simp] theorem Dev.drawn_out (d : Dev) : (d.drawn).out = d.out := rfl

/-! ## Reads -/

@[simp] theorem Dev.get_set_same (d : Dev) (f : F) (i v : Nat) : (d.set f i v).get f i = v := Store.get_set_same _ _ _
theorem Dev.get_set_other (d : Dev) (f g : F) (i j v : Nat) (h : (⟨g, j⟩ : Key) ≠ ⟨f, i⟩) :
    (d.set f i v).get g j = d.get g j := Store.get_set_other _ _ h
@[simp] theorem Dev.get_set_field (d : Dev) {f g : F} (i j v : Nat) (h : g ≠ f) : (d.set f i v).get g j = d.get g j :=
  Store.get_set_other _ _ (fun e => h (Key.mk.inj e).1)
@[simp] theorem Dev.get_set_inst (d : Dev) (f : F) {i j : Nat} (v : Nat) (h : j ≠ i) : (d.set f i v).get f j = d.get f j :=
  Store.get_set_other _ _ (fun e => h (Key.mk.inj e).2)
@[simp] theorem Dev.get_lset (d : Dev) (f g : F) (i j v : Nat) : (d.lset f i v).get g j = d.get g j := rfl
@[simp] theorem Dev.lget_set (d : Dev) (f g : F) (i j v : Nat) : (d.set f i v).lget g j = d.lget g j := rfl
@[simp] theorem Dev.lget_lset_same (d : Dev) (f : F) (i v : Nat) : (d.lset f i v).lget f i = v := Store.get_set_same _ _ _
@[simp] theorem Dev.lget_lset_field (d : Dev) {f g : F} (i j v : Nat) (h : g ≠ f) : (d.lset f i v).lget g j = d.lget g j :=
  Store.get_set_other _ _ (fun e => h (Key.mk.inj e).1)
@[simp] theorem Dev.get_send (d : Dev) (o : Out) (g : F) (j : Nat) : (d.send o).get g j = d.get g j := rfl
@[simp] theorem Dev.lget_send (d : Dev) (o : Out) (g : F) (j : Nat) : (d.send o).lget g j = d.lget g j := rfl
theorem Dev.on_def (d : Dev) (f : F) (i : Nat) : d.on f i = (d.get f i == 1) := rfl

/-- `run` always answers a next state: the queue's rest stands and the device is what the meaning makes of it. -/
theorem State.run_eq (s : State) (f : Dev → Dev) :
    s.run f = .next { dev := f { s.dev with out := [] }, pending := s.pending } := rfl

end Sys2Proof.Machine
end

