-- ==== Sys2Proof/Laws/Raise.lean ====
section
/-! SUPPORT. What raising a source does, once for every later proof: its number pends, its occurrence counter moves by one,
and what follows (deciding and issuing messages, waking a clerk's domain) changes signal fields, the PBA and the output
alone. `Only` and `OnlyRaising` compose, and every field write is one. -/

namespace Sys2Proof.Machine

open Sys2Proof

/-! ## Messages and wakes -/

/-- `e` is `d` but for the settle fields, the PBA and the output. -/
def Dev.Settling (d e : Dev) : Prop :=
  e = { d with reg := e.reg, pba := e.pba, out := e.out } ∧ ∀ f i, f ∉ settleFields → e.get f i = d.get f i

theorem Dev.Settling.refl (d : Dev) : Dev.Settling d d := ⟨rfl, fun _ _ _ => rfl⟩

theorem Dev.Settling.trans {a b c : Dev} (h1 : Dev.Settling a b) (h2 : Dev.Settling b c) : Dev.Settling a c := by
  obtain ⟨e1, g1⟩ := h1
  obtain ⟨e2, g2⟩ := h2
  refine ⟨?_, fun f i hs => (g2 f i hs).trans (g1 f i hs)⟩
  rw [e2, e1]

theorem Dev.Settling.sig {d e : Dev} {f : F} {i : Nat} (v : Nat) (h : Dev.Settling d e)
    (hf : f ∈ settleFields := by decide) : Dev.Settling d (e.set f i v) := by
  refine h.trans ⟨rfl, fun g j hs => Dev.get_set_field e i j v ?_⟩
  rintro rfl
  exact hs hf

theorem Dev.Settling.pba (d : Dev) (l : List Nat) : Dev.Settling d { d with pba := l } := ⟨rfl, fun _ _ _ => rfl⟩
theorem Dev.Settling.send (d : Dev) (o : Out) : Dev.Settling d (d.send o) := ⟨rfl, fun _ _ _ => rfl⟩

theorem Dev.Settling.foldl {α : Type} (g : Dev → α → Dev) (h : ∀ d x, Dev.Settling d (g d x)) (l : List α) :
    ∀ d, Dev.Settling d (l.foldl g d) := by
  induction l with
  | nil => exact fun d => .refl d
  | cons x l ih => exact fun d => (h d x).trans (ih (g d x))

theorem wakeOne_only (d : Dev) (k c : Nat) : Dev.Settling d (d.wakeOne k c) := by
  unfold Dev.wakeOne
  split
  · exact .refl d
  · split
    · exact (((((Dev.Settling.refl d).sig _).sig _).sig _).sig _).sig _ |>.sig _
    · split
      · exact (Dev.Settling.refl d).sig _
      · exact (Dev.Settling.refl d).sig _

theorem wake_only (d : Dev) (k c : Nat) : Dev.Settling d (d.wake k c) := by
  unfold Dev.wake Dev.forList
  exact (Dev.Settling.foldl _ (fun d x => wakeOne_only d x 10) _ d).trans
    (Dev.Settling.foldl _ (fun d x => wakeOne_only d x c) _ _)

theorem sendMsix_only (d : Dev) (v : Nat) : Dev.Settling d (d.sendMsix v) := by
  unfold Dev.sendMsix
  split
  · have h : Dev.Settling d { (d.set .X_PCIE_PME_STATUS 0 1) with pba := insertNat d.pba v } :=
      ((Dev.Settling.refl d).sig (f := .X_PCIE_PME_STATUS) (i := 0) 1).trans (.pba _ _)
    dsimp only
    split
    · exact (h.sig (f := .DMA_LINK_STATUS_L1) (i := 0) 0).trans (.send _ _)
    · exact h
  · split
    · exact .pba d _
    · exact ((Dev.Settling.refl d).sig _).trans (.send _ _)

theorem issueFor_only (d : Dev) (x s : Nat) : Dev.Settling d (d.issueFor x s) := by
  unfold Dev.issueFor Dev.addSat
  dsimp only
  split
  · exact ((Dev.Settling.refl d).sig (f := .PH_T_COUNTS_MESSAGES) (i := x) _).trans (sendMsix_only _ _)
  · exact (((Dev.Settling.refl d).sig (f := .PH_T_COUNTS_MESSAGES) (i := x) _).sig (f := .X_PH_CORE_HALT) (i := x) 0).trans
      (.send _ _)

theorem issue_only (d : Dev) (x : Nat) : Dev.Settling d (d.issue x) := by
  unfold Dev.issue
  split
  · exact .refl d
  · exact issueFor_only d x _

theorem release_only (d : Dev) (x : Nat) : Dev.Settling d (d.release x) := by
  unfold Dev.release
  split
  · exact (((Dev.Settling.refl d).sig (f := .PH_T_STATUS_HELD) (i := x) 0).sig (f := .X_PH_HELD_COUNT) (i := x) 0).trans
      (issue_only _ x)
  · exact .refl d

theorem decideMessage_only (d : Dev) (x s : Nat) : Dev.Settling d (d.decideMessage x s) := by
  unfold Dev.decideMessage
  dsimp only
  have h1 : Dev.Settling d (if 64 ≤ x ∧ x < 72 then d.wake (domPool ((x - 64) / 2)) 5 else d) := by
    split
    · exact wake_only d _ _
    · exact .refl d
  generalize (if 64 ≤ x ∧ x < 72 then d.wake (domPool ((x - 64) / 2)) 5 else d) = e at h1
  have h2 : Dev.Settling d (if e.stacked = true then e else
      ((e.set .X_PH_SEL x s).set .X_PH_SEL_CLK x e.clk).set .X_PH_SEL_LATE x 0) := by
    split
    · exact h1
    · exact ((h1.sig _).sig _).sig _
  generalize (if e.stacked = true then e else
      ((e.set .X_PH_SEL x s).set .X_PH_SEL_CLK x e.clk).set .X_PH_SEL_LATE x 0) = e2 at h2
  split
  · split
    · exact h2
    · exact h2.trans (issueFor_only _ x s)
  · split
    · exact h2
    · exact ((h2.sig _).sig _).sig _

theorem settle_only (d : Dev) (x : Nat) : Dev.Settling d (d.settle x) := by
  unfold Dev.settle
  split
  · exact (Dev.Settling.refl d).sig _
  · split
    · exact .refl d
    · exact ((Dev.Settling.refl d).sig _).trans (decideMessage_only _ x _)

theorem countHeld_only (d : Dev) (s : Nat) : Dev.Settling d (d.countHeld s) := by
  unfold Dev.countHeld
  dsimp only
  split
  · split
    · exact release_only d _
    · exact (Dev.Settling.refl d).sig _
  · exact .refl d

/-! ## Frames -/

theorem Dev.Only.refl (p : F → Nat → Prop) (d : Dev) : Dev.Only p d d := ⟨rfl, fun _ _ _ => rfl⟩

theorem Dev.Only.trans {p : F → Nat → Prop} {a b c : Dev} (h1 : Dev.Only p a b) (h2 : Dev.Only p b c) : Dev.Only p a c := by
  obtain ⟨e1, g1⟩ := h1
  obtain ⟨e2, g2⟩ := h2
  refine ⟨?_, fun f i hp => (g2 f i hp).trans (g1 f i hp)⟩
  rw [e2, e1]

theorem Dev.Only.set {p : F → Nat → Prop} {d e : Dev} {f : F} {i : Nat} (v : Nat) (h : Dev.Only p d e) (hp : p f i) :
    Dev.Only p d (e.set f i v) := by
  refine h.trans ⟨rfl, fun g j hq => Dev.get_set_other e f g i j v ?_⟩
  intro x
  obtain ⟨rfl, rfl⟩ := Key.mk.inj x
  exact hq hp

theorem Dev.Only.send {p : F → Nat → Prop} {d e : Dev} (o : Out) (h : Dev.Only p d e) : Dev.Only p d (e.send o) :=
  h.trans ⟨rfl, fun _ _ _ => rfl⟩
theorem Dev.Only.out {p : F → Nat → Prop} (d : Dev) (o : List Out) : Dev.Only p d { d with out := o } :=
  ⟨rfl, fun _ _ _ => rfl⟩

theorem Dev.Only.foldl {α : Type} {p : F → Nat → Prop} (g : Dev → α → Dev) (l : List α)
    (h : ∀ d x, x ∈ l → Dev.Only p d (g d x)) : ∀ d, Dev.Only p d (l.foldl g d) := by
  induction l with
  | nil => exact fun d => .refl p d
  | cons x l ih => exact fun d => (h d x (.head l)).trans (ih (fun d y hy => h d y (.tail x hy)) (g d x))

theorem Dev.Only.raising {p : F → Nat → Prop} {d e : Dev} (h : Dev.Only p d e) : Dev.OnlyRaising p d e := by
  refine ⟨?_, fun f i hp _ => h.2 f i hp⟩
  rw [h.1]

theorem Dev.Settling.raising {d e : Dev} (p : F → Nat → Prop) (h : Dev.Settling d e) : Dev.OnlyRaising p d e := by
  refine ⟨?_, fun f i _ hs => h.2 f i (fun x => hs (List.mem_append_right _ x))⟩
  rw [h.1]

theorem Dev.OnlyRaising.refl (p : F → Nat → Prop) (d : Dev) : Dev.OnlyRaising p d d := ⟨rfl, fun _ _ _ _ => rfl⟩

theorem Dev.OnlyRaising.trans {p : F → Nat → Prop} {a b c : Dev} (h1 : Dev.OnlyRaising p a b) (h2 : Dev.OnlyRaising p b c) :
    Dev.OnlyRaising p a c := by
  obtain ⟨e1, g1⟩ := h1
  obtain ⟨e2, g2⟩ := h2
  refine ⟨?_, fun f i hp hs => (g2 f i hp hs).trans (g1 f i hp hs)⟩
  rw [e2, e1]

theorem Dev.OnlyRaising.mono {p q : F → Nat → Prop} {a b : Dev} (h : Dev.OnlyRaising p a b) (hpq : ∀ f i, p f i → q f i) :
    Dev.OnlyRaising q a b := ⟨h.1, fun f i hq hs => h.2 f i (fun hp => hq (hpq f i hp)) hs⟩

theorem Dev.OnlyRaising.set {p : F → Nat → Prop} (d : Dev) {f : F} {i : Nat} (v : Nat) (h : p f i ∨ f ∈ signalFields) :
    Dev.OnlyRaising p d (d.set f i v) := by
  refine ⟨rfl, fun g j hp hs => Dev.get_set_other d f g i j v ?_⟩
  intro e
  obtain ⟨rfl, rfl⟩ := Key.mk.inj e
  exact h.elim hp hs

theorem Dev.OnlyRaising.pend {p : F → Nat → Prop} (d : Dev) (l : List Nat) : Dev.OnlyRaising p d { d with pending := l } :=
  ⟨rfl, fun _ _ _ _ => rfl⟩
theorem Dev.OnlyRaising.pba {p : F → Nat → Prop} (d : Dev) (l : List Nat) : Dev.OnlyRaising p d { d with pba := l } :=
  ⟨rfl, fun _ _ _ _ => rfl⟩
theorem Dev.OnlyRaising.send {p : F → Nat → Prop} (d : Dev) (o : Out) : Dev.OnlyRaising p d (d.send o) :=
  ⟨rfl, fun _ _ _ _ => rfl⟩

theorem Dev.OnlyRaising.foldl {α : Type} {p : F → Nat → Prop} (g : Dev → α → Dev)
    (h : ∀ d x, Dev.OnlyRaising p d (g d x)) (l : List α) : ∀ d, Dev.OnlyRaising p d (l.foldl g d) := by
  induction l with
  | nil => exact fun d => .refl p d
  | cons x l ih => exact fun d => (h d x).trans (ih (g d x))

theorem Dev.OnlyRaising.sig {p : F → Nat → Prop} {d e : Dev} {f : F} {i : Nat} (v : Nat) (h : Dev.OnlyRaising p d e)
    (hf : f ∈ signalFields := by decide) : Dev.OnlyRaising p d (e.set f i v) := h.trans (.set e v (.inr hf))

theorem occur_only (p : F → Nat → Prop) (d : Dev) (s : Nat) : Dev.OnlyRaising p d (d.occur s) := by
  unfold Dev.occur Dev.settleSource Dev.addWrap
  dsimp only
  exact ((((Dev.OnlyRaising.refl p d).sig (f := .PH_SRC_OCCUR) (i := s) _).trans (.pend _ _)).trans
    ((countHeld_only _ s).raising p)).trans ((settle_only _ _).raising p)

/-- R446: raising a source changes what `OnlyRaising` allows and nothing else. -/
theorem raise_only (p : F → Nat → Prop) (d : Dev) (s : Nat) : Dev.OnlyRaising p d (d.raise s) := by
  unfold Dev.raise
  split
  · exact .refl p d
  · exact occur_only p d s

theorem setLine_only (p : F → Nat → Prop) (d : Dev) (s : Nat) (b : Bool) : Dev.OnlyRaising p d (d.setLine s b) := by
  unfold Dev.setLine
  split
  · split
    · exact .refl p d
    · exact ((Dev.OnlyRaising.refl p d).sig _).trans (occur_only p _ s)
  · exact (Dev.OnlyRaising.refl p d).sig _

/-- A register field that raising does not touch reads as before it. -/
theorem raise_get (d : Dev) (s : Nat) (f : F) (i : Nat) (h : f ∉ signalFields) : (d.raise s).get f i = d.get f i :=
  (raise_only (fun _ _ => False) d s).2 f i (fun x => x) h

theorem setLine_get (d : Dev) (s : Nat) (b : Bool) (f : F) (i : Nat) (h : f ∉ signalFields) :
    (d.setLine s b).get f i = d.get f i := (setLine_only (fun _ _ => False) d s b).2 f i (fun x => x) h

theorem wake_get (d : Dev) (k c : Nat) (f : F) (i : Nat) (h : f ∉ signalFields) : (d.wake k c).get f i = d.get f i :=
  ((wake_only d k c).raising (fun _ _ => False)).2 f i (fun x => x) h

/-! ## Raising -/

theorem occur_raised (d : Dev) (s : Nat) : Dev.Raised s d (d.occur s) := by
  have h := (countHeld_only { (d.addWrap .PH_SRC_OCCUR s 1) with pending := insertNat d.pending s } s).trans
    (settle_only _ (Dev.get (Dev.countHeld { (d.addWrap .PH_SRC_OCCUR s 1) with pending := insertNat d.pending s } s)
      .PH_SRC_TARGET s))
  refine ⟨?_, ?_⟩
  · exact congrArg Dev.pending h.1
  · exact (h.2 .PH_SRC_OCCUR s (by decide)).trans (Dev.get_set_same d .PH_SRC_OCCUR s _)

/-- R446: a source but 0 that is raised pends and its occurrence counter moves by one. -/
theorem raise_raised (d : Dev) {s : Nat} (h : s ≠ 0) : Dev.Raised s d (d.raise s) := by
  unfold Dev.raise
  rw [if_neg h]
  exact occur_raised d s

theorem setLine_high (d : Dev) {s : Nat} (h : d.get .PH_SRC_LINE s ≠ 1) : Dev.Raised s d (d.setLine s true) := by
  unfold Dev.setLine Dev.on
  rw [if_pos rfl, if_neg (by simpa using h)]
  have r := occur_raised (d.set .PH_SRC_LINE s 1) s
  exact ⟨r.1, r.2.trans (by rw [Dev.get_set_field _ _ _ _ (by decide)])⟩

/-! ## What is not a register field -/

theorem Dev.OnlyRaising.parts {p : F → Nat → Prop} {d e : Dev} (h : Dev.OnlyRaising p d e) :
    e = { d with reg := e.reg, pending := e.pending, pba := e.pba, out := e.out } := h.1

@[simp] theorem raise_live (d : Dev) (s : Nat) : (d.raise s).live = d.live := by
  rw [(raise_only (fun _ _ => False) d s).1]
@[simp] theorem raise_clk (d : Dev) (s : Nat) : (d.raise s).clk = d.clk := by
  rw [(raise_only (fun _ _ => False) d s).1]
@[simp] theorem raise_lget (d : Dev) (s : Nat) (f : F) (i : Nat) : (d.raise s).lget f i = d.lget f i := by
  unfold Dev.lget; rw [raise_live]
@[simp] theorem setLine_live (d : Dev) (s : Nat) (b : Bool) : (d.setLine s b).live = d.live := by
  rw [(setLine_only (fun _ _ => False) d s b).1]
@[simp] theorem wake_live (d : Dev) (k c : Nat) : (d.wake k c).live = d.live := by
  rw [(wake_only d k c).1]

end Sys2Proof.Machine
end

