-- ==== Sys2Proof/Laws/Completes.lean ====
section
/-! SUPPORT. Completion: a meaning that is a change of the device completes, and what the device that it finds holds. -/

namespace Sys2Proof.Machine

open Sys2Proof

/-- A command whose meaning is `s.run f` completes with the device `f s.found`. -/
theorem Completes.run {i : Instr} {s : State} {P : Dev → Prop} (f : Dev → Dev) (h : exec i s = s.run f) (hp : P (f s.found)) :
    Completes i s P := ⟨_, h, rfl, hp⟩

theorem Completes.mono {i : Instr} {s : State} {P Q : Dev → Prop} (h : Completes i s P) (hpq : ∀ e, P e → Q e) :
    Completes i s Q := h.elim fun t ht => ⟨t, ht.1, ht.2.1, hpq _ ht.2.2⟩

@[simp] theorem State.found_reg (s : State) : s.found.reg = s.dev.reg := rfl
@[simp] theorem State.found_live (s : State) : s.found.live = s.dev.live := rfl
@[simp] theorem State.found_clk (s : State) : s.found.clk = s.dev.clk := rfl
@[simp] theorem State.found_free (s : State) : s.found.free = s.dev.free := rfl
@[simp] theorem State.found_posts (s : State) : s.found.posts = s.dev.posts := rfl
@[simp] theorem State.found_carryRx (s : State) : s.found.carryRx = s.dev.carryRx := rfl
@[simp] theorem State.found_pending (s : State) : s.found.pending = s.dev.pending := rfl
@[simp] theorem State.found_service (s : State) : s.found.service = s.dev.service := rfl
@[simp] theorem State.found_pba (s : State) : s.found.pba = s.dev.pba := rfl
@[simp] theorem State.found_viols (s : State) : s.found.viols = s.dev.viols := rfl
@[simp] theorem State.found_msgs (s : State) : s.found.msgs = s.dev.msgs := rfl
@[simp] theorem State.found_quar (s : State) : s.found.quar = s.dev.quar := rfl
@[simp] theorem State.found_gens (s : State) : s.found.gens = s.dev.gens := rfl
@[simp] theorem State.found_dupes (s : State) : s.found.dupes = s.dev.dupes := rfl
@[simp] theorem State.found_dlq (s : State) : s.found.dlq = s.dev.dlq := rfl
@[simp] theorem State.found_cmem (s : State) : s.found.cmem = s.dev.cmem := rfl
@[simp] theorem State.found_gddr (s : State) : s.found.gddr = s.dev.gddr := rfl
@[simp] theorem State.found_lost (s : State) : s.found.lost = s.dev.lost := rfl
@[simp] theorem State.found_mreqs (s : State) : s.found.mreqs = s.dev.mreqs := rfl
@[simp] theorem State.found_trigs (s : State) : s.found.trigs = s.dev.trigs := rfl
@[simp] theorem State.found_recs (s : State) : s.found.recs = s.dev.recs := rfl
@[simp] theorem State.found_refs (s : State) : s.found.refs = s.dev.refs := rfl
@[simp] theorem State.found_blocks (s : State) : s.found.blocks = s.dev.blocks := rfl
@[simp] theorem State.found_samples (s : State) : s.found.samples = s.dev.samples := rfl
@[simp] theorem State.found_frames (s : State) : s.found.frames = s.dev.frames := rfl
@[simp] theorem State.found_held (s : State) : s.found.held = s.dev.held := rfl
@[simp] theorem State.found_descs (s : State) : s.found.descs = s.dev.descs := rfl
@[simp] theorem State.found_hist (s : State) : s.found.hist = s.dev.hist := rfl
@[simp] theorem State.found_calres (s : State) : s.found.calres = s.dev.calres := rfl
@[simp] theorem State.found_reads (s : State) : s.found.reads = s.dev.reads := rfl
@[simp] theorem State.found_ledg (s : State) : s.found.ledg = s.dev.ledg := rfl
@[simp] theorem State.found_moves (s : State) : s.found.moves = s.dev.moves := rfl
@[simp] theorem State.found_nvm (s : State) : s.found.nvm = s.dev.nvm := rfl
@[simp] theorem State.found_flash (s : State) : s.found.flash = s.dev.flash := rfl
@[simp] theorem State.found_planBuf (s : State) : s.found.planBuf = s.dev.planBuf := rfl
@[simp] theorem State.found_plan (s : State) : s.found.plan = s.dev.plan := rfl
@[simp] theorem State.found_posted (s : State) : s.found.posted = s.dev.posted := rfl
@[simp] theorem State.found_snaps (s : State) : s.found.snaps = s.dev.snaps := rfl
@[simp] theorem State.found_rxFrames (s : State) : s.found.rxFrames = s.dev.rxFrames := rfl
@[simp] theorem State.found_rsDone (s : State) : s.found.rsDone = s.dev.rsDone := rfl
@[simp] theorem State.found_loops (s : State) : s.found.loops = s.dev.loops := rfl
@[simp] theorem State.found_looped_ (s : State) : s.found.looped_ = s.dev.looped_ := rfl
@[simp] theorem State.found_lineIn (s : State) : s.found.lineIn = s.dev.lineIn := rfl
@[simp] theorem State.found_near (s : State) : s.found.near = s.dev.near := rfl
@[simp] theorem State.found_chans (s : State) : s.found.chans = s.dev.chans := rfl
@[simp] theorem State.found_rshad (s : State) : s.found.rshad = s.dev.rshad := rfl
@[simp] theorem State.found_wshad (s : State) : s.found.wshad = s.dev.wshad := rfl
@[simp] theorem State.found_out (s : State) : s.found.out = [] := rfl
@[simp] theorem State.found_get (s : State) (f : F) (i : Nat) : s.found.get f i = s.dev.get f i := rfl
@[simp] theorem State.found_lget (s : State) (f : F) (i : Nat) : s.found.lget f i = s.dev.lget f i := rfl
@[simp] theorem State.found_on (s : State) (f : F) (i : Nat) : s.found.on f i = s.dev.on f i := rfl
@[simp] theorem State.found_lon (s : State) (f : F) (i : Nat) : s.found.lon f i = s.dev.lon f i := rfl

/-- A frame from the device that a command finds is one from the device of the state. -/
theorem Dev.Only.ofFound {p : F → Nat → Prop} {s : State} {e : Dev} (h : Dev.Only p s.found e) : Dev.Only p s.dev e :=
  (Dev.Only.out s.dev []).trans h
theorem Dev.OnlyRaising.ofFound {p : F → Nat → Prop} {s : State} {e : Dev} (h : Dev.OnlyRaising p s.found e) :
    Dev.OnlyRaising p s.dev e := (Dev.Only.out s.dev []).raising.trans h
theorem Dev.Raised.ofFound {s : State} {e : Dev} {n : Nat} (h : Dev.Raised n s.found e) : Dev.Raised n s.dev e := h

/-! ## Frames of a chain of updates -/

theorem Dev.OnlyRaising.put {p : F → Nat → Prop} {d e : Dev} {f : F} {i : Nat} (v : Nat) (h : Dev.OnlyRaising p d e)
    (hp : p f i) : Dev.OnlyRaising p d (e.set f i v) := h.trans (Dev.OnlyRaising.set e v (.inl hp))
theorem Dev.OnlyRaising.raise {p : F → Nat → Prop} {d e : Dev} (s : Nat) (h : Dev.OnlyRaising p d e) :
    Dev.OnlyRaising p d (e.raise s) := h.trans (raise_only p e s)
theorem Dev.OnlyRaising.setLine {p : F → Nat → Prop} {d e : Dev} (s : Nat) (b : Bool) (h : Dev.OnlyRaising p d e) :
    Dev.OnlyRaising p d (e.setLine s b) := h.trans (setLine_only p e s b)
theorem Dev.OnlyRaising.wake {p : F → Nat → Prop} {d e : Dev} (k c : Nat) (h : Dev.OnlyRaising p d e) :
    Dev.OnlyRaising p d (e.wake k c) := h.trans ((wake_only e k c).raising p)

/-- A source raised after writes that leave the pending sources and its counter alone. -/
theorem Dev.Raised.after {d e : Dev} {s : Nat} (h1 : e.pending = d.pending) (h2 : e.get .PH_SRC_OCCUR s = d.get .PH_SRC_OCCUR s)
    (hs : s ≠ 0) : Dev.Raised s d (e.raise s) :=
  ⟨(raise_raised e hs).1.trans (by rw [h1]), (raise_raised e hs).2.trans (by rw [h2])⟩

end Sys2Proof.Machine
end

