-- ==== Sys2Proof/Tests/Slice0.lean ====
section
/-! SUPPORT. Tests: commands that `Instr.wf` refuses, worked examples of the manual, and for every statement of
Obligations.lean a witness of the hypotheses of each of its clauses. -/

namespace Sys2Proof.Tests

open Sys2Proof Sys2Proof.Machine

set_option maxRecDepth 20000
set_option linter.unusedVariables false

/-! ## States and small facts that the tests use -/

/-- The device at reset with some fields set. -/
def devWith (l : List (F × Nat × Nat)) : Dev := l.foldl (fun d x => d.set x.1 x.2.1 x.2.2) Dev.reset

/-- The same with some live values set as well. -/
def devLive (l m : List (F × Nat × Nat)) : Dev := m.foldl (fun d x => d.lset x.1 x.2.1 x.2.2) (devWith l)

theorem domains_served {d : Dev} {o : Option Nat} (h : (o.all fun k => d.gate k == 0) = true) : ∀ k, o = some k → d.gate k = 0 := by
  rintro k rfl; simpa using h

theorem no_head {α : Type} {l : List α} {P : α → List α → Prop} (h : l = []) : ∀ x r, l = x :: r → P x r := by
  rintro x r e; rw [h] at e; cases e

theorem devWith_get (l : List (F × Nat × Nat)) (f : F) (i : Nat) (h : (l.all fun x => decide (x.1 ≠ f)) = true) :
    (devWith l).get f i = Dev.reset.get f i := by
  have key : ∀ (l : List (F × Nat × Nat)) (d : Dev), (l.all fun x => decide (x.1 ≠ f)) = true →
      (l.foldl (fun d x => d.set x.1 x.2.1 x.2.2) d).get f i = d.get f i := by
    intro l
    induction l with
    | nil => intro d _; rfl
    | cons x l ih =>
      intro d h
      simp only [List.all_cons, Bool.and_eq_true, decide_eq_true_eq] at h
      rw [List.foldl_cons, ih _ h.2, Dev.get_set_field _ _ _ _ (Ne.symm h.1)]
  exact key l _ h

theorem dirSeq_small (l : List (F × Nat × Nat)) (m : Mem) (h : (l.all fun x => decide (x.1 ≠ F.X_DIR_SEQ)) = true) (c : Nat) :
    ({ devWith l with planBuf := m } : Dev).get .X_DIR_SEQ c < 2 ^ 32 - 1 := by
  show (devWith l).get .X_DIR_SEQ c < _
  rw [devWith_get l _ c h]
  exact (by decide : 0 < 2 ^ 32 - 1)

theorem no_rollback (l : List (F × Nat × Nat)) (t : Nat) (h : (l.all fun x => decide (x.1 ≠ F.PWR_D_STATUS_STATE)) = true) (k : Nat) :
    ({ devWith l with clk := t } : Dev).dom k ≠ pwROLLBACK := by
  show (devWith l).get .PWR_D_STATUS_STATE k ≠ _
  rw [devWith_get l _ k h]
  exact (by decide : 0 ≠ pwROLLBACK)

/-! ## A smallest plan (R63 to R70): every engine unused, tick exponent 0, standalone. The three checksums were worked out with the
IEEE 802.3 frame check sequence of a library outside this package (R65). -/

/-- A section header (R64). -/
def secHead (type len crc : Nat) : List Byte := leBytes 2 type ++ [1, 0] ++ leBytes 4 len ++ leBytes 4 crc ++ leBytes 4 0

def planMin : Mem :=
  Mem.writeBytes [] 0 (leBytes 4 0x4C505354 ++ leBytes 2 1 ++ leBytes 2 0 ++ leBytes 4 424 ++ leBytes 4 0xdb60c6e1 ++ leBytes 2 0x5164 ++
    leBytes 2 2 ++ leBytes 4 7 ++ List.replicate 40 0 ++ secHead 1 320 0x4bd0afb7 ++ List.replicate 64 0 ++
    (List.replicate 64 [0xFF#8, 0xFF#8, 0#8, 0#8]).flatten ++ secHead 11 8 0x6522df69 ++ List.replicate 8 0)

def planMinRead (o : Nat) : Nat := (planMin.read o).toNat

set_option maxRecDepth 1000000 in
theorem test_smallest_plan_is_valid : validate planMinRead none = .ok [⟨1, 64, 320⟩, ⟨11, 400, 8⟩] := by decide +kernel

theorem planMin_valid {d : Dev} (h1 : d.planImage = planMinRead) (h2 : d.planCapacity = none) :
    d.planValidate = .ok [⟨1, 64, 320⟩, ⟨11, 400, 8⟩] := by
  unfold Dev.planValidate; rw [h1, h2]; exact test_smallest_plan_is_valid

/-! ## Commands that `Instr.wf` refuses, one for each check -/

/-- A tick's delivery of one lane with nothing in it. -/
def rx0 : RxTick := RxTick.quiet

/-- A tick that brings nothing. -/
def quietTick : TickIn := ⟨0, [], 0, [], [], 0, []⟩

theorem test_wf_lane_lists :
    [{ rx0 with grades := List.replicate 5 0 }, { rx0 with taps := List.replicate 49 0 }, { rx0 with nlc := List.replicate 65 0 },
      { rx0 with levels := List.replicate 5 0 }, { rx0 with chkOne := List.replicate 5 0 },
      { rx0 with chkTwo := List.replicate 5 0 }, ({ rx0 with segs := 1, lossSegs := 2 } : RxTick)].map
      (fun r => (Instr.collectionTick { quietTick with rx := [r] }).wf) = List.replicate 7 false := by decide

theorem test_wf_tick_lists :
    ((Instr.collectionTick { quietTick with rx := List.replicate 65 rx0 }).wf,
      (Instr.tickPeriodChange { quietTick with clips := List.replicate 65 0 }).wf,
      (Instr.timeSetLoad { quietTick with host := List.replicate 129 (false, 0) }).wf) = (false, false, false) := by decide

theorem test_wf_blocks_and_frames :
    ((Instr.blockWrite 0 { emptyBlock with data := List.replicate 4065 0 }).wf, (Instr.spreadFrameReceived 0 (List.replicate 9 []) 0).wf,
      (Instr.transmitFrame 0 (List.replicate 9 [])).wf, (Instr.anchorFound 0 (List.replicate 9 (true, [])) 0).wf,
      (Instr.hostCodewordReceived 0 (List.replicate 545 0)).wf, (Instr.calRunComplete 0 (List.replicate 257 0)).wf) =
        (false, false, false, false, false, false) := by decide

theorem test_wf_courier :
    ((Instr.preambleDetect 0 257 0 0 [] []).wf, (Instr.headerReceived 0 [[], [], []]).wf,
      (Instr.payloadReceived 0 [List.replicate 97 (0, 0)]).wf) = (false, false, false) := by decide

theorem test_wf_transfers :
    ((Instr.planBufferWrite .pcie 0 0 []).wf, (Instr.bar2Access 0 true 2 [0] 0).wf, (Instr.bar2Access 0 true 0 [] 0).wf, (Instr.bar2Access 0 false 1 [0] 0).wf,
      (Instr.bar2Access 0 false 0 [] 0).wf) = (false, false, false, false, false) := by decide

theorem test_wf_register_reads :
    ((Instr.lowWordRead .pcie 0 4).wf, (Instr.highWordRead .pcie 0 0).wf, (Instr.wideRead 0 4).wf, (Instr.registerRead .pcie 0 0 0).wf) =
      (false, false, false, false) := by decide

theorem test_wf_register_writes :
    ((Instr.lowWordWrite .pcie 0 4 0).wf, (Instr.highWordWrite .pcie 0 0 0).wf, (Instr.wideWrite 0 4 0).wf,
      (Instr.registerWrite .pcie 0 0 [] 0).wf) = (false, false, false, false) := by decide

/-! ## Worked examples of the manual -/

/-- 00_scope.md: the transmit block of lane 37 begins at 0x0345_8000. 07: its port and host lane 74. 10: channel 11 of tile 2. -/
theorem test_addresses :
    [regAt 0x3458000, regAt 0x3050A00, regAt 0x3042800, regAt 0x30602C0] =
      [some (.LTX_CTRL, 37, 0, false), some (.HOST_P_CTRL, 37, 0, false), some (.HOST_L_CTRL, 74, 0, false),
        some (.BIAS_C_CFG, 91, 0, false)] := by decide

/-- 03_line_receive.md: metrics 100, 160, 230 and 410 with a noise variance of 640 give the letter 0xE. -/
theorem test_letter : letter false 640 0 24 64 [100, 160, 230, 410] [2, 2, 1, 1] = 0xE := by decide

/-- 05_spread_fec.md: bit 100 of codeword 41 at width 8 is lane bit 675 of lane 4, letter bit 2 of frame symbol 337. -/
theorem test_frame_place : lanePlace 8 41 100 = (4, 675) ∧ letterPlace 675 = (337, 2) := by decide

/-- 05_spread_fec.md: at 20 ppm a latency of 165 ns grows by 24 ns in 1.2 ms, on its way to the 213 ns of allowance 3. -/
theorem test_slew :
    slewTo (1650 * tenth) (2130 * tenth) 20 (1200 * us) = 1890 * tenth ∧
      (devWith [(.SPR_CFG_MODE, 4, 1), (.SPR_CFG_WIDTH, 4, 3)]).targetFor 32 3 = 2130 := by decide

/-- 06_decoder_pool.md: a group with 2,400 first-pass failures is charged 9,048 at allowance 4. -/
theorem test_charge :
    (devLive [(.SPR_CFG_MODE, 4, 1), (.SPR_CFG_WIDTH, 4, 2), (.X_POOL_LAST_F1, 32, 2400), (.X_POOL_LAST_N, 32, 5120), (.X_SPR_LAT, 32, 10 ^ 13)]
      [(.POOL_POLICY1_FLOOR, 2, 16)]).charge 32 4 = 9048 := by decide

/-- 08_courier.md: the map of 64-QAM on 16 to 39, 16-QAM on 40 to 87 and QPSK on 88 to 103 carries 368 bits. -/
theorem test_map_bits : mapBits (List.replicate 3 0x44444444 ++ List.replicate 6 0x33333333 ++ [0x22222222, 0x22222222, 0]) = 368 := by
  decide

/-- 09_capture.md: the postmark of a trigger at 1,010,000 shows sample 83,484 with FRAC 58,447. -/
theorem test_postmark :
    ({ devWith [(.CAP_T_PERIOD_P, 2, 297230)] with refs := [⟨2, 81280, 1000000⟩] } : Dev).interpolate 2 1010000 = (83484, 58447) := by
  decide

/-- 12_calibration_ledger.md: of 507 h for metric 1 and 1,043 h for metric 4 the forecast is 507 h, of metric 1. -/
theorem test_forecast : forecast [none, some 507, none, none, some 1043] = (507, 1) := by decide


/-! ## Frames, codewords and courier symbols of the witnesses -/

/-- Words at one offset of a lane that pass the test of the marker of lane `h` (R190). -/
def anchorWords (h : Nat) : List (Bool × List Bool) := List.replicate 3 (true, innerEncode (0xC0 + h) [])

/-- The letters of a frame of one lane whose levels are all 1: no codeword has syndrome 0. -/
def oneLetters : List (List (Fin 16)) := [List.replicate 21760 4]

theorem zero_words (w m : Nat) : syndrome (wordBits w m []) = 0 := by
  have h : wordBits w m [] = (List.range 136).map fun _ => false := by simp [wordBits, letterOf, bitAt]
  rw [h]; decide

theorem zero_frame_good : 32 ≤ ((List.range 320).filter fun m => anchorOf 1 m == none && syndrome (wordBits 1 m []) == 0).length := by
  simp only [zero_words]; decide

theorem one_words (m : Nat) (h1 : 0 < m) (h2 : m < 320) : wordBits 1 m oneLetters = (List.range 136).map fun i => i % 2 == 1 := by
  have ha : anchorOf 1 m = none := by
    have : m % (320 / 1) ≠ 0 := by omega
    rw [anchorOf, if_neg this]
  have hb : anchorsBelow 1 m = 1 := by simp [anchorsBelow, List.range_succ, h1]
  unfold wordBits
  refine List.map_congr_left fun i hi => ?_
  have hi := List.mem_range.mp hi
  have hp : lanePlace 1 m i = (0, (m - 1) * 136 + 136 + i) := by
    simp only [lanePlace, ha, hb, Nat.mod_one, Nat.mul_zero, if_pos h1, Nat.div_one]
  have hl : letterOf 1 m i oneLetters = (4, 3 - i % 2) := by
    have hd : ((m - 1) * 136 + 136 + i) / 2 < 21760 := by omega
    have hm : ((m - 1) * 136 + 136 + i) % 2 = i % 2 := by omega
    simp only [letterOf, hp, letterPlace, oneLetters, List.getD_cons_zero, hm]
    rw [List.getD_eq_getElem _ _ (by rw [List.length_replicate]; exact hd), List.getElem_replicate]
    rfl
  rw [hl]
  rcases (by omega : i % 2 = 0 ∨ i % 2 = 1) with h | h <;> simp [h, bitAt]

theorem one_frame_bad : ((List.range 320).filter fun m => anchorOf 1 m == none && syndrome (wordBits 1 m oneLetters) == 0).length < 32 := by
  have h : ((List.range 320).filter fun m => anchorOf 1 m == none && syndrome (wordBits 1 m oneLetters) == 0) = [] := by
    rw [List.filter_eq_nil_iff]
    intro m hm
    have hm := List.mem_range.mp hm
    by_cases h0 : m = 0
    · subst h0; decide
    · rw [one_words m (by omega) hm]
      have : syndrome ((List.range 136).map fun i => i % 2 == 1) ≠ 0 := by decide
      simp [this]
  rw [h]; decide

theorem gfMul_zero (b : Nat) : gfMul 0 b = 0 := by
  have h : ∀ (l : List Nat), l.foldl (fun r i => if bitAt b (9 - i) then gfDouble r ^^^ 0 else gfDouble r) 0 = 0 := by
    intro l
    induction l with
    | nil => rfl
    | cons i l ih => rw [List.foldl_cons]; have : gfDouble 0 = 0 := by decide
                     simpa [this] using ih
  exact h _

theorem polyEval_zero (x : Nat) : ∀ n, polyEval (List.replicate n 0) x = 0
  | 0 => rfl
  | n + 1 => by
    have h := polyEval_zero x n
    unfold polyEval at h ⊢
    rw [List.replicate_succ, List.foldr_cons, h, gfMul_zero]; rfl

theorem rsSyndromes_zero : rsSyndromes (List.replicate 544 0) = (List.range 30).map fun _ => 0 := by
  simp only [rsSyndromes, List.reverse_replicate, polyEval_zero]

theorem rsDecode_zero (erased : List Nat) : rsDecode (List.replicate 544 0) erased = some (List.replicate 544 0) := by
  unfold rsDecode; rw [rsSyndromes_zero, if_pos (by decide)]

theorem rsSymbols_none (d : Dev) (h : d.rxFrames = []) (n c : Nat) : d.rsSymbols n c [] = List.replicate 544 0 := by
  have h1 : ∀ a, d.ownWord (d.groupOf n) [] a = ([], none) := by simp [Dev.ownWord, Dev.frameOf, h]
  have h2 : symbolOf (List.replicate 10 false) = 0 := by decide
  unfold Dev.rsSymbols
  simp only [h1, List.getD_nil, List.map_const', List.length_range, h2]

/-- What a receiver takes of a courier symbol that comes through a flat channel. -/
def pointsOf (x : CourSymbol) : List Pt := x.map fun p => cscale (pointUnit p.1) p.2

/-- A flat channel as the receiver of lane 63 estimates it. -/
def flatChan : CourChan := ⟨63, channelEstimate (pointsOf preambleSymbol) (pointsOf preambleSymbol), (2 ^ 16, 0)⟩

/-- The two symbols of a header. -/
def headerRx (h : Nat) : List (List Pt) := (streamSymbols 4 [] (bitList 48 h)).map pointsOf

/-- The symbols of a payload in mode 4. -/
def payloadRx (h : Nat) (bytes : List Byte) : List (List Pt) := (streamSymbols 4 [] (payloadStream h bytes)).map pointsOf

/-- The codewords of a frame of zeros. -/
def zeroWords : List (List Bool) := List.replicate 320 (List.replicate 136 false)

theorem all_false_get {l : List Bool} (h : ∀ x ∈ l, x = false) (b : Nat) : l.getD b false = false := by
  rw [List.getD_eq_getElem?_getD]
  cases e : l[b]? with
  | none => rfl
  | some x => exact h x (List.mem_of_getElem? e)

theorem zeroWords_get (m j : Nat) : (zeroWords.getD m []).getD j false = false := by
  refine all_false_get (fun x hx => ?_) j
  rw [List.getD_eq_getElem?_getD] at hx
  cases e : zeroWords[m]? with
  | none => rw [e] at hx; cases hx
  | some y =>
    rw [e] at hx
    have hy : y = List.replicate 136 false := List.eq_of_mem_replicate (List.mem_of_getElem? e)
    subst hy; exact List.eq_of_mem_replicate hx

theorem zeroWords_lane (w g b : Nat) : (laneBits w g zeroWords).getD b false = false := by
  refine all_false_get (fun x hx => ?_) b
  unfold laneBits at hx
  rw [List.mem_flatten] at hx
  obtain ⟨l, hl, hx⟩ := hx
  obtain ⟨m, -, rfl⟩ := List.mem_map.mp hl
  dsimp only at hx
  split at hx
  · split at hx
    · obtain ⟨j, hj, rfl⟩ := List.getElem_of_mem hx
      have h := zeroWords_get m j
      rw [List.getD_eq_getElem _ _ hj] at h; exact h
    · cases hx
  · obtain ⟨j, -, rfl⟩ := List.mem_map.mp hx
    exact zeroWords_get m _


/-! ## Witnesses: for every statement, states and operands that meet the hypotheses of each of its clauses -/

theorem witness_StepRunsFront :
    (∃ (c : Instr) (cs : List Instr) (s : State), s.pending = c :: cs) ∧
    (∃ (s : State), s.pending = []) :=
  ⟨⟨.violPop, [.violPop], ⟨Dev.reset, [.violPop, .violPop]⟩, by decide⟩,
    ⟨⟨Dev.reset, []⟩, by decide⟩⟩

theorem witness_StepKeepsCanonical :
    ∃ (s : State) (t : State), s.dev.Canonical ∧ step s = Host.Outcome.next t :=
  ⟨⟨Dev.reset, [.violPop]⟩, _, by unfold Dev.Canonical; decide, rfl⟩

theorem witness_FiveCyclesAdvance :
    (∃ (p : ℕ), p < 5) ∧
    (∃ (d : Dev), d.get F.X_SLEW 0 = 0) ∧
    (∃ (d : Dev), d.get F.X_TICK_DUE 0 = 0 ∧ d.get F.TIME_TICK_CFG_PERIOD_K 0 ≤ 7 ∧ d.now < 2 ^ 64) :=
  ⟨⟨0, by decide⟩,
    ⟨devWith [(.X_SLEW, 0, 0)], by decide⟩,
    ⟨devWith [(.X_TICK_DUE, 0, 0)], by decide, by decide, by decide⟩⟩

theorem witness_CollectionTickRuns :
    (∃ (i : TickIn) (s : State), s.dev.get F.X_SYS_AUX 0 = 1 ∧ s.dev.get F.X_SYS_OFF 0 = 1) ∧
    (∃ (i : TickIn) (s : State), s.dev.get F.X_SYS_AUX 0 = 1 ∧ s.dev.get F.X_SYS_OFF 0 ≠ 1) ∧
    (∃ (d : Dev), d.get F.X_SLEW 0 = 0 ∧ d.get F.X_TIME_PHASE 0 < 5 ∧ d.now ≤ d.tickDue ∧ d.tickDue < 2 ^ 64 - 2 ^ 16) ∧
    (∃ (i : TickIn) (s : State), s.dev.get F.X_SYS_AUX 0 = 1 ∧ s.found.runToTick.periodDue = true) ∧
    (∃ (i : TickIn) (s : State), s.dev.get F.X_SYS_AUX 0 = 1 ∧ s.found.runToTick.loadDue = true) ∧
    (∃ (d : Dev) (late : ℕ), late ≠ 0) ∧
    (∃ (d : Dev) (late : ℕ), late = 0) :=
  ⟨⟨quietTick, ⟨devWith [(.X_SYS_AUX, 0, 1), (.X_SYS_OFF, 0, 1)], []⟩, by decide, by decide⟩,
    ⟨quietTick, ⟨devWith [(.X_SYS_AUX, 0, 1), (.X_SYS_OFF, 0, 0)], []⟩, by decide, by decide⟩,
    ⟨devWith [(.X_SLEW, 0, 0)], by decide, by decide, by decide, by decide⟩,
    ⟨quietTick, ⟨devWith [(.X_SYS_AUX, 0, 1), (.TIME_NOW_NOW, 0, 2 ^ 28), (.X_TICK_DUE, 0, 2 ^ 28), (.X_K_NEXT, 0, 7)], []⟩, by decide,
      by decide⟩,
    ⟨quietTick, ⟨devWith [(.X_SYS_AUX, 0, 1), (.TIME_NOW_NOW, 0, 2 ^ 28), (.X_TICK_DUE, 0, 2 ^ 28), (.TIME_SET_CTRL_ARMED, 0, 1)], []⟩,
      by decide, by decide⟩,
    ⟨Dev.reset, 255, by decide⟩,
    ⟨Dev.reset, 0, by decide⟩⟩

theorem witness_TimeSetArmChecks :
    (∃ (s : State), s.dev.role ≠ 2 ∧ s.dev.get F.TIME_SET_VALUE 0 % 2 ^ 28 = 0) ∧
    (∃ (s : State), s.dev.role = 2 ∨ s.dev.get F.TIME_SET_VALUE 0 % 2 ^ 28 ≠ 0) ∧
    (∃ (s : State) (t : Fin 4) (k : Fin 2), 4 ≤ s.dev.get F.X_CLERK_SILENT (2 * ↑t + ↑k)) ∧
    (∃ (s : State) (k : Fin 2) (v : Service), v ∈ s.dev.service) :=
  ⟨⟨⟨Dev.reset, []⟩, by decide⟩,
    ⟨⟨devWith [(.TIME_TICK_CFG_ROLE, 0, 2)], []⟩, by decide⟩,
    ⟨⟨devWith [(.X_CLERK_SILENT, (2 * 3 + 1), 4)], []⟩, 3, 1, by decide⟩,
    ⟨⟨{ Dev.reset with service := [⟨71, 1, 0⟩] }, []⟩, 1, ⟨71, 1, 0⟩, by decide⟩⟩

theorem witness_PostingAccepted :
    (∃ (scope : BitVec 3) (index : BitVec 6) (s : State), s.dev.posts.length < 32 ∧ scope.toNat ≠ 7 ∧ ¬(scope.toNat = 1 ∧
      3 < index.toNat) ∧ ¬(scope.toNat = 2 ∧ 7 < index.toNat)) ∧
    (∃ (d : Dev) (last : Posting), d.postsDue.getLast? = some last ∧ ∃ (f : F) (i : ℕ), f.acc = Acc.rws ∧ f ∉ ownRule ∧
      d.keyReady { f := f, i := i } = true ∧ ∃ p ∈ d.postsDue, d.covers p { f := f, i := i } = true) ∧
    (∃ (d : Dev) (last : Posting), d.postsDue.getLast? = some last ∧ ∃ (f : F) (i : ℕ), f.acc = Acc.rws ∧ f ∉ ownRule ∧
      d.keyReady { f := f, i := i } = true ∧ ∀ p ∈ d.postsDue, d.covers p { f := f, i := i } = false) :=
  ⟨⟨0, 0, ⟨Dev.reset, []⟩, by decide, by decide, by decide, by decide⟩,
    ⟨{ Dev.reset with clk := 2 * us, posts := [⟨0, 0, 0, 0⟩] }, ⟨0, 0, 0, 0⟩, by decide, .LRX_LOCK_CFG_SNR_MIN, 63, by decide, by decide,
      by decide, by decide⟩,
    ⟨{ Dev.reset with clk := 2 * us, posts := [⟨0, 1, 3, 0⟩] }, ⟨0, 1, 3, 0⟩, by decide, .LRX_LOCK_CFG_SNR_MIN, 0, by decide, by decide,
      by decide, by decide⟩⟩

theorem witness_PostingRefused :
    (∃ (scope : BitVec 3) (index : BitVec 6) (s : State), s.dev.posts.length ≤ 32) ∧
    (∃ (scope : BitVec 3) (index : BitVec 6) (s : State), s.dev.posts.length < 32 ∧ ¬(scope.toNat = 7 ∨ scope.toNat = 1 ∧ 3 < index.toNat ∨
      scope.toNat = 2 ∧ 7 < index.toNat)) ∧
    (∃ (scope : BitVec 3) (index : BitVec 6) (s : State), 32 ≤ s.dev.posts.length ∧ ¬(scope.toNat = 7 ∨ scope.toNat = 1 ∧ 3 < index.toNat ∨
      scope.toNat = 2 ∧ 7 < index.toNat)) ∧
    (∃ (scope : BitVec 3) (index : BitVec 6) (s : State), 32 ≤ s.dev.posts.length ∧ (scope.toNat = 7 ∨ scope.toNat = 1 ∧ 3 < index.toNat ∨
      scope.toNat = 2 ∧ 7 < index.toNat)) ∧
    (∃ (scope : BitVec 3) (index : BitVec 6) (s : State), s.dev.posts.length < 32 ∧ (scope.toNat = 7 ∨ scope.toNat = 1 ∧ 3 < index.toNat ∨
      scope.toNat = 2 ∧ 7 < index.toNat)) :=
  ⟨⟨0, 0, ⟨{ Dev.reset with posts := List.replicate 32 ⟨0, 0, 0, 0⟩ }, []⟩, by decide⟩,
    ⟨2, 7, ⟨{ Dev.reset with posts := List.replicate 31 ⟨0, 0, 0, 0⟩ }, []⟩, by decide, by decide⟩,
    ⟨1, 3, ⟨{ Dev.reset with posts := List.replicate 32 ⟨0, 0, 0, 0⟩ }, []⟩, by decide, by decide⟩,
    ⟨1, 4, ⟨{ Dev.reset with posts := List.replicate 32 ⟨0, 0, 0, 0⟩ }, []⟩, by decide, by decide⟩,
    ⟨2, 8, ⟨{ Dev.reset with posts := List.replicate 31 ⟨0, 0, 0, 0⟩ }, []⟩, by decide, by decide⟩⟩

theorem witness_RingMasterDrives :
    (∃ (s : State), s.dev.role = 1 ∧ s.dev.get F.TIME_RING_STATUS_CONFLICT 0 ≠ 1 ∧ s.dev.now % 2 ^ 28 < 6554 ∧
      s.dev.get F.X_RING_PULSED 0 ≠ s.dev.now / 2 ^ 28 + 1) ∧
    (∃ (s : State), s.dev.get F.X_RING_MSG_DUE 0 = 1 ∧ s.dev.get F.X_RING_PULSE_CLK 0 + 1048576 ≤ s.dev.clk) ∧
    (∃ (s : State), s.dev.role = 2 ∧ s.dev.ringState ≠ riFREE ∧ s.dev.get F.X_SYS_OFF 0 ≠ 1 ∧ ∃ (stamp : DWord),
      s.dev.ringState = riLOCKED ∧
      (phaseError ((BitVec.toNat stamp + 2 ^ 64 - s.dev.get F.TIME_RING_DELAY_DELAY 0) % 2 ^ 64)).natAbs ≤ 2048) ∧
    (∃ (s : State), s.dev.role = 2 ∧ s.dev.ringState ≠ riFREE ∧ s.dev.get F.X_SYS_OFF 0 ≠ 1 ∧ ∃ (stamp : DWord),
      s.dev.ringState = riLOCKED ∧
      2048 < (phaseError ((BitVec.toNat stamp + 2 ^ 64 - s.dev.get F.TIME_RING_DELAY_DELAY 0) % 2 ^ 64)).natAbs) ∧
    (∃ (s : State), s.dev.role = 2 ∧ s.dev.ringState ≠ riFREE ∧ s.dev.get F.X_SYS_OFF 0 ≠ 1 ∧ ∃ (stamp : DWord),
      s.dev.ringState = riHOLDOVER ∧
      2048 < (phaseError ((BitVec.toNat stamp + 2 ^ 64 - s.dev.get F.TIME_RING_DELAY_DELAY 0) % 2 ^ 64)).natAbs) ∧
    (∃ (s : State), s.dev.role = 2 ∧ s.dev.ringState ≠ riFREE ∧ s.dev.get F.X_SYS_OFF 0 ≠ 1 ∧ ∃ (stamp : DWord),
      s.dev.ringState = riACQUIRE) ∧
    (∃ (s : State), s.dev.role = 2 ∧ s.dev.ringState ≠ riFREE ∧ s.dev.get F.X_SYS_OFF 0 ≠ 1 ∧ ∃ (bytes : List Byte),
      s.dev.get F.X_RING_MSG_OPEN 0 = 1 ∧ messageValid bytes = true ∧ s.dev.ringState = riACQUIRE ∧ s.dev.get F.X_RING_STEPPED 0 = 1 ∧
      s.dev.get F.X_RING_SMALL 0 = 1) ∧
    (∃ (s : State), s.dev.role = 2 ∧ s.dev.ringState ≠ riFREE ∧ s.dev.get F.X_SYS_OFF 0 ≠ 1 ∧ ∃ (bytes : List Byte),
      s.dev.get F.X_RING_MSG_OPEN 0 = 1 ∧ messageValid bytes = false) ∧
    (∃ (s : State), s.dev.get F.X_SYS_OFF 0 ≠ 1 ∧ s.dev.ringState = riLOCKED ∧ 4 ≤ s.dev.get F.TIME_RING_STATUS_MISSED 0) ∧
    (∃ (s : State), s.dev.get F.X_SYS_OFF 0 ≠ 1 ∧ s.dev.role = 1 ∧ s.dev.get F.TIME_RING_STATUS_CONFLICT 0 ≠ 1) :=
  ⟨⟨⟨devWith [(.TIME_TICK_CFG_ROLE, 0, 1)], []⟩, by decide, by decide, by decide, by decide⟩,
    ⟨⟨{ devWith [(.X_RING_MSG_DUE, 0, 1)] with clk := 10 ^ 15 }, []⟩, by decide, by decide⟩,
    ⟨⟨devWith [(.TIME_TICK_CFG_ROLE, 0, 2), (.X_SYS_OFF, 0, 0), (.TIME_RING_STATUS_STATE, 0, riLOCKED)], []⟩, by decide, by decide,
      by decide, 0, by decide, by decide⟩,
    ⟨⟨devWith [(.TIME_TICK_CFG_ROLE, 0, 2), (.X_SYS_OFF, 0, 0), (.TIME_RING_STATUS_STATE, 0, riLOCKED)], []⟩, by decide, by decide,
      by decide, 2049, by decide, by decide⟩,
    ⟨⟨devWith [(.TIME_TICK_CFG_ROLE, 0, 2), (.X_SYS_OFF, 0, 0), (.TIME_RING_STATUS_STATE, 0, riHOLDOVER)], []⟩, by decide, by decide,
      by decide, 2049, by decide, by decide⟩,
    ⟨⟨devWith [(.TIME_TICK_CFG_ROLE, 0, 2), (.X_SYS_OFF, 0, 0), (.TIME_RING_STATUS_STATE, 0, riACQUIRE)], []⟩, by decide, by decide,
      by decide, 0, by decide⟩,
    ⟨⟨devWith [(.TIME_TICK_CFG_ROLE, 0, 2), (.X_SYS_OFF, 0, 0), (.X_RING_MSG_OPEN, 0, 1), (.TIME_RING_STATUS_STATE, 0, riACQUIRE), (.X_RING_STEPPED, 0, 1), (.X_RING_SMALL, 0, 1)],
      []⟩, by decide, by decide, by decide,
      0x5A#8 :: List.replicate 10 0 ++ leBytes 2 (crcField (crc16 (bitsOfBytes (List.replicate 10 0)))), by decide, by decide, by decide,
      by decide, by decide⟩,
    ⟨⟨devWith [(.TIME_TICK_CFG_ROLE, 0, 2), (.X_SYS_OFF, 0, 0), (.X_RING_MSG_OPEN, 0, 1), (.TIME_RING_STATUS_STATE, 0, riACQUIRE)], []⟩,
      by decide, by decide, by decide, [], by decide, by decide⟩,
    ⟨⟨devWith [(.X_SYS_OFF, 0, 0), (.TIME_RING_STATUS_STATE, 0, riLOCKED), (.TIME_RING_STATUS_MISSED, 0, 4)], []⟩, by decide, by decide,
      by decide⟩,
    ⟨⟨devWith [(.X_SYS_OFF, 0, 0), (.TIME_TICK_CFG_ROLE, 0, 1)], []⟩, by decide, by decide, by decide⟩⟩

theorem witness_PlanActionTaken :
    (∃ (s : State), s.dev.ps < psVALIDATING ∧ s.dev.get F.SYS_BOOT_STATUS_STAGE 0 ≠ 5 ∧ ∃ (slot : Fin 4), s.dev.dirCurrent ≠ some ↑slot) ∧
    (∃ (s : State), s.dev.ps < psVALIDATING ∧ s.dev.get F.SYS_BOOT_STATUS_STAGE 0 ≠ 5 ∧ ∃ (slot : Fin 4),
      bitAt s.dev.dirValid ↑slot = true) ∧
    (∃ (s : State) (slot : Fin 4), psVALIDATING ≤ s.dev.ps ∧ s.dev.ps ≤ psFLASH) ∧
    (∃ (s : State) (slot : Fin 4), s.dev.dirCurrent = some ↑slot) ∧
    (∃ (s : State) (slot : Fin 4), bitAt s.dev.dirValid ↑slot = false) :=
  ⟨⟨⟨Dev.reset, []⟩, by decide, by decide, 3, by decide⟩,
    ⟨⟨devWith [(.X_DIR_OK, 1, 1), (.X_DIR_VALID, 1, 8)], []⟩, by decide, by decide, 3, by decide⟩,
    ⟨⟨devWith [(.PLAN_STATUS_STATE, 0, psFLASH)], []⟩, 3, by decide⟩,
    ⟨⟨devWith [(.X_DIR_OK, 1, 1), (.X_DIR_CUR, 1, 3)], []⟩, 3, by decide⟩,
    ⟨⟨Dev.reset, []⟩, 3, by decide⟩⟩

theorem witness_PlanValidationEnds :
    (∃ (s : State), s.dev.ps = psVALIDATING ∧ s.dev.get F.X_BOOT_SLOT 0 = 0 ∧ ∃ (off : ℕ) (code : ℕ),
      s.dev.planValidate = Except.error (off, code) ∧ s.dev.get F.X_PLAN_ACT 0 ≠ 15) ∧
    (∃ (s : State), s.dev.ps = psVALIDATING ∧ s.dev.get F.X_BOOT_SLOT 0 = 0 ∧ ∃ (ss : List Sect), s.dev.planValidate = Except.ok ss ∧
      s.dev.get F.X_PLAN_ACT 0 = 1) ∧
    (∃ (s : State), s.dev.ps = psVALIDATING ∧ s.dev.get F.X_BOOT_SLOT 0 = 0 ∧ ∃ (ss : List Sect), s.dev.planValidate = Except.ok ss ∧
      (s.dev.get F.X_PLAN_ACT 0 = 2 ∨ s.dev.get F.X_PLAN_ACT 0 = 3)) ∧
    (∃ (s : State), s.dev.ps = psVALIDATING ∧ s.dev.get F.X_BOOT_SLOT 0 = 0 ∧ ∃ (ss : List Sect), s.dev.planValidate = Except.ok ss ∧
      s.dev.get F.X_PLAN_ACT 0 = 4) ∧
    (∃ (s : State), s.dev.ps = psFLASH ∧ s.dev.get F.X_BOOT_SLOT 0 = 0 ∧ (∀ (c : ℕ), s.dev.get F.X_DIR_SEQ c < 2 ^ 32 - 1) ∧
      s.dev.get F.X_PLAN_SLOT 0 < 4 ∧ s.dev.get F.X_PLAN_ACT 0 = 4 ∧ rd32 s.dev.planImage 8 ≤ 1048576 ∧ ∃ (o : ℕ),
      o < rd32 s.dev.planImage 8) ∧
    (∃ (s : State), s.dev.ps = psFLASH ∧ s.dev.get F.X_BOOT_SLOT 0 = 0 ∧ (∀ (c : ℕ), s.dev.get F.X_DIR_SEQ c < 2 ^ 32 - 1) ∧
      s.dev.get F.X_PLAN_SLOT 0 < 4 ∧ s.dev.get F.X_PLAN_ACT 0 = 5) ∧
    (∃ (s : State), s.dev.ps = psFLASH ∧ s.dev.get F.X_BOOT_SLOT 0 = 0 ∧ (∀ (c : ℕ), s.dev.get F.X_DIR_SEQ c < 2 ^ 32 - 1) ∧
      s.dev.get F.X_PLAN_SLOT 0 < 4 ∧ s.dev.get F.X_PLAN_ACT 0 = 6) ∧
    (∃ (s : State) (j : Fin 2), s.dev.get F.X_XTRIG_WAIT ↑j = 1 ∧ s.dev.get F.X_XTRIG_WAIT_CLK ↑j + us ≤ s.dev.clk) :=
  ⟨⟨⟨devWith [(.PLAN_STATUS_STATE, 0, psVALIDATING), (.X_PLAN_ACT, 0, 1)], []⟩, by decide, by decide, 0, 1, by decide, by decide⟩,
    ⟨⟨{ devWith [(.PLAN_STATUS_STATE, 0, psVALIDATING), (.X_PLAN_ACT, 0, 1)] with planBuf := planMin }, []⟩, by decide, by decide,
      [⟨1, 64, 320⟩, ⟨11, 400, 8⟩], planMin_valid (funext fun _ => rfl) rfl, by decide⟩,
    ⟨⟨{ devWith [(.PLAN_STATUS_STATE, 0, psVALIDATING), (.X_PLAN_ACT, 0, 2)] with planBuf := planMin }, []⟩, by decide, by decide,
      [⟨1, 64, 320⟩, ⟨11, 400, 8⟩], planMin_valid (funext fun _ => rfl) rfl, by decide⟩,
    ⟨⟨{ devWith [(.PLAN_STATUS_STATE, 0, psVALIDATING), (.X_PLAN_ACT, 0, 4)] with planBuf := planMin }, []⟩, by decide, by decide,
      [⟨1, 64, 320⟩, ⟨11, 400, 8⟩], planMin_valid (funext fun _ => rfl) rfl, by decide⟩,
    ⟨⟨{ devWith [(.PLAN_STATUS_STATE, 0, psFLASH), (.X_PLAN_ACT, 0, 4), (.X_PLAN_SLOT, 0, 3)] with planBuf := planMin }, []⟩, by decide,
      by decide, dirSeq_small [(.PLAN_STATUS_STATE, 0, psFLASH), (.X_PLAN_ACT, 0, 4), (.X_PLAN_SLOT, 0, 3)] planMin (by decide), by decide,
      by decide, by decide, 423, by decide⟩,
    ⟨⟨{ devWith [(.PLAN_STATUS_STATE, 0, psFLASH), (.X_PLAN_ACT, 0, 5), (.X_PLAN_SLOT, 0, 3)] with planBuf := [] }, []⟩, by decide,
      by decide, dirSeq_small [(.PLAN_STATUS_STATE, 0, psFLASH), (.X_PLAN_ACT, 0, 5), (.X_PLAN_SLOT, 0, 3)] [] (by decide), by decide,
      by decide⟩,
    ⟨⟨{ devWith [(.PLAN_STATUS_STATE, 0, psFLASH), (.X_PLAN_ACT, 0, 6), (.X_PLAN_SLOT, 0, 3)] with planBuf := [] }, []⟩, by decide,
      by decide, dirSeq_small [(.PLAN_STATUS_STATE, 0, psFLASH), (.X_PLAN_ACT, 0, 6), (.X_PLAN_SLOT, 0, 3)] [] (by decide), by decide,
      by decide⟩,
    ⟨⟨{ devWith [(.X_XTRIG_WAIT, 1, 1)] with clk := 10 ^ 15 }, []⟩, 1, by decide, by decide⟩⟩

theorem witness_PlanAcceptedAtTick :
    (∃ (i : TickIn) (s : State), s.dev.get F.X_SYS_AUX 0 = 1 ∧ s.dev.get F.X_SYS_OFF 0 ≠ 1 ∧ s.dev.ps = psWAITING ∧
      s.dev.get F.X_PLAN_CLK 0 + 2 * us ≤ s.dev.clk ∧ i.over 0 0 = false ∧ i.overNew 0 0 = false ∧ (∀ (k : ℕ), s.dev.dom k ≠ pwROLLBACK) ∧
      s.dev.get F.X_PLAN_ACT 0 ≠ 14) ∧
    (∃ (i : TickIn) (s : State), s.dev.get F.X_SYS_AUX 0 = 1 ∧ s.dev.get F.X_SYS_OFF 0 ≠ 1 ∧ s.dev.ps = psWAITING ∧
      s.dev.get F.X_PLAN_CLK 0 + 2 * us ≤ s.dev.clk ∧ i.over 0 0 = false ∧ i.overNew 0 0 = false ∧ (∀ (k : ℕ), s.dev.dom k ≠ pwROLLBACK) ∧
      s.dev.get F.X_PLAN_ACT 0 = 14 ∧ s.dev.memState ≠ meTRAINING ∧ ∀ m < 4, s.dev.dom (domMem m) = pwON) :=
  ⟨⟨quietTick,
      ⟨{ devWith [(.X_SYS_AUX, 0, 1), (.X_SYS_OFF, 0, 0), (.PLAN_STATUS_STATE, 0, psWAITING), (.X_PLAN_ACT, 0, 13)] with clk := 2 * us },
      []⟩, by decide, by decide, by decide, by decide, by decide, by decide,
      no_rollback [(.X_SYS_AUX, 0, 1), (.X_SYS_OFF, 0, 0), (.PLAN_STATUS_STATE, 0, psWAITING), (.X_PLAN_ACT, 0, 13)] (2 * us) (by decide),
      by decide⟩,
    ⟨quietTick,
      ⟨{ devWith [(.X_SYS_AUX, 0, 1), (.X_SYS_OFF, 0, 0), (.PLAN_STATUS_STATE, 0, psWAITING), (.X_PLAN_ACT, 0, 14)] with clk := 2 * us },
      []⟩, by decide, by decide, by decide, by decide, by decide, by decide,
      no_rollback [(.X_SYS_AUX, 0, 1), (.X_SYS_OFF, 0, 0), (.PLAN_STATUS_STATE, 0, psWAITING), (.X_PLAN_ACT, 0, 14)] (2 * us) (by decide),
      by decide, by decide, by decide⟩⟩

theorem witness_WideRegisterReads :
    (∃ (s : State) (who : Requester) (reqId : BitVec 16) (a : BitVec 27) (r : Reg) (i : ℕ) (j : ℕ), r.row.wide = true ∧
      RegisterAt a.toNat r i j false ∧ s.dev.Serves who (Access.read4 a)) ∧
    (∃ (s : State) (who : Requester) (reqId : BitVec 16) (a : BitVec 27) (r : Reg) (i : ℕ) (j : ℕ), r.row.wide = true ∧
      RegisterAt a.toNat r i j true ∧ s.dev.Serves who (Access.read4 a)) ∧
    (∃ (s : State) (who : Requester) (reqId : BitVec 16) (a : BitVec 27) (r : Reg) (i : ℕ) (j : ℕ), r.row.wide = true ∧
      RegisterAt a.toNat r i j false ∧ s.dev.Serves Requester.pcie (Access.read8 a)) ∧
    (∃ (s : State) (who : Requester) (reqId : BitVec 16) (a : BitVec 27) (v : Word) (w : DWord) (r : Reg) (i : ℕ) (j : ℕ),
      r.row.wide = true ∧ s.dev.writeIgnored r i = false ∧ r ≠ Reg.DMA_Q_RING ∧ r ≠ Reg.DMA_Q_CPL ∧ RegisterAt a.toNat r i j false ∧
      s.dev.Serves who (Access.write4 a v) ∧ r.wideWritable = true) ∧
    (∃ (s : State) (who : Requester) (reqId : BitVec 16) (a : BitVec 27) (v : Word) (w : DWord) (r : Reg) (i : ℕ) (j : ℕ),
      r.row.wide = true ∧ s.dev.writeIgnored r i = false ∧ r ≠ Reg.DMA_Q_RING ∧ r ≠ Reg.DMA_Q_CPL ∧ RegisterAt a.toNat r i j true ∧
      s.dev.Serves who (Access.write4 a v) ∧ r.wideWritable = true) ∧
    (∃ (s : State) (who : Requester) (reqId : BitVec 16) (a : BitVec 27) (v : Word) (w : DWord) (r : Reg) (i : ℕ) (j : ℕ),
      r.row.wide = true ∧ s.dev.writeIgnored r i = false ∧ r ≠ Reg.DMA_Q_RING ∧ r ≠ Reg.DMA_Q_CPL ∧ RegisterAt a.toNat r i j false ∧
      s.dev.Serves Requester.pcie (Access.write8 a w) ∧ r.wideWritable = true) ∧
    (∃ (s : State) (who : Requester) (reqId : BitVec 16) (a : BitVec 27) (v : Word) (w : DWord) (r : Reg) (i : ℕ) (j : ℕ),
      r.row.wide = true ∧ s.dev.writeIgnored r i = false ∧ r ≠ Reg.DMA_Q_RING ∧ r ≠ Reg.DMA_Q_CPL ∧ RegisterAt a.toNat r i j false ∧
      s.dev.Serves who (Access.write4 a v) ∧ r.wideWritable = false) :=
  ⟨⟨⟨devWith [(.X_SYS_AUX, 0, 1), (.X_SYS_OFF, 0, 0), (.X_SYS_FW, 0, 1)], []⟩, .pcie, 0, 65560, .COUR_DLQ_DESC2, 0, 0, by decide,
      by unfold RegisterAt; decide, ⟨by decide, by decide, by decide, by decide, by decide, domains_served (by decide)⟩⟩,
    ⟨⟨devWith [(.X_SYS_AUX, 0, 1), (.X_SYS_OFF, 0, 0), (.X_SYS_FW, 0, 1)], []⟩, .pcie, 0, 528668, .DMA_Q_CPL, 1, 0, by decide,
      by unfold RegisterAt; decide, ⟨by decide, by decide, by decide, by decide, by decide, domains_served (by decide)⟩⟩,
    ⟨⟨devWith [(.X_SYS_AUX, 0, 1), (.X_SYS_OFF, 0, 0), (.X_SYS_FW, 0, 1)], []⟩, .pcie, 0, 65560, .COUR_DLQ_DESC2, 0, 0, by decide,
      by unfold RegisterAt; decide, ⟨by decide, by decide, by decide, by decide, by decide, domains_served (by decide)⟩⟩,
    ⟨⟨devWith [(.X_SYS_AUX, 0, 1), (.X_SYS_OFF, 0, 0), (.X_SYS_FW, 0, 1)], []⟩, .pcie, 0, 4144, 0, 0, .TIME_SET, 0, 0, by decide,
      by decide, by decide, by decide, by unfold RegisterAt; decide, ⟨by decide, by decide, by decide, by decide, by decide,
      domains_served (by decide)⟩, by decide⟩,
    ⟨⟨devWith [(.X_SYS_AUX, 0, 1), (.X_SYS_OFF, 0, 0), (.X_SYS_FW, 0, 1)], []⟩, .pcie, 0, 4148, 0, 0, .TIME_SET, 0, 0, by decide,
      by decide, by decide, by decide, by unfold RegisterAt; decide, ⟨by decide, by decide, by decide, by decide, by decide,
      domains_served (by decide)⟩, by decide⟩,
    ⟨⟨devWith [(.X_SYS_AUX, 0, 1), (.X_SYS_OFF, 0, 0), (.X_SYS_FW, 0, 1)], []⟩, .pcie, 0, 4144, 0, 0, .TIME_SET, 0, 0, by decide,
      by decide, by decide, by decide, by unfold RegisterAt; decide, ⟨by decide, by decide, by decide, by decide, by decide,
      domains_served (by decide)⟩, by decide⟩,
    ⟨⟨devWith [(.X_SYS_AUX, 0, 1), (.X_SYS_OFF, 0, 0), (.X_SYS_FW, 0, 1)], []⟩, .pcie, 0, 65560, 0, 0, .COUR_DLQ_DESC2, 0, 0, by decide,
      by decide, by decide, by decide, by unfold RegisterAt; decide, ⟨by decide, by decide, by decide, by decide, by decide,
      domains_served (by decide)⟩, by decide⟩⟩

theorem witness_Bar0Serves :
    (∃ (s : State) (who : Requester) (reqId : BitVec 16) (a : BitVec 27) (r : Reg) (i : ℕ) (j : ℕ), RegisterAt a.toNat r i j false ∧
      r.row.wide = false ∧ r ≠ Reg.PH_T_CLAIM ∧ s.dev.Serves who (Access.read4 a)) ∧
    (∃ (s : State) (who : Requester) (reqId : BitVec 16) (a : BitVec 27) (r : Reg) (i : ℕ) (j : ℕ) (bytes : List Byte) (hw : DWord),
      r ∈ plainRegs ∧ RegisterAt a.toNat r i j false ∧ bytes.length = 4 ∧ BitVec.toNat hw < 2 ^ 32 ∧ s.dev.writeIgnored r i = false ∧
      s.dev.Serves who (Access.write4 a (BitVec.ofNat 32 (ofLE bytes)))) ∧
    (∃ (s : State) (who : Requester) (reqId : BitVec 16) (a : BitVec 27) (off : BitVec 20) (bytes : List Byte), s.dev.planBusy = false ∧
      s.dev.Serves who (Access.writeN (BitVec.ofNat 27 (8388608 + off.toNat)) bytes)) :=
  ⟨⟨⟨devWith [(.X_SYS_AUX, 0, 1), (.X_SYS_OFF, 0, 0), (.X_SYS_FW, 0, 1)], []⟩, .pcie, 0, 20971544, .LRX_TR, 0, 0,
      by unfold RegisterAt; decide, by decide, by decide, ⟨by decide, by decide, by decide, by decide, by decide,
      domains_served (by decide)⟩⟩,
    ⟨⟨devWith [(.X_SYS_AUX, 0, 1), (.X_SYS_OFF, 0, 0), (.X_SYS_FW, 0, 1)], []⟩, .pcie, 0, 20971520, .LRX_CTRL, 0, 0, [1, 2, 3, 4], 0,
      by decide, by unfold RegisterAt; decide, by decide, by decide, by decide, ⟨by decide, by decide, by decide, by decide, by decide,
      domains_served (by decide)⟩⟩,
    ⟨⟨devWith [(.X_SYS_AUX, 0, 1), (.X_SYS_OFF, 0, 0), (.X_SYS_FW, 0, 1)], []⟩, .pcie, 0, 0, 1048575, [255], by decide, ⟨by decide,
      by decide, by decide, by decide, by decide, domains_served (by decide)⟩⟩⟩

theorem witness_Bar0Violates :
    (∃ (s : State) (reqId : BitVec 16) (a : BitVec 27), s.dev.get F.X_SYS_AUX 0 = 1 ∧ s.dev.pcieUp = true ∧
      s.dev.get F.DMA_LINK_STATUS_DSTATE 0 ≠ 3 ∧ (∀ h ∈ s.dev.held, h.isBar2 = true) ∧ s.dev.viols.length < 16 ∧ a.toNat % 4 = 0 ∧
      mapped a.toNat = false) ∧
    (∃ (s : State) (reqId : BitVec 16) (a : BitVec 27), s.dev.get F.X_SYS_AUX 0 = 1 ∧ s.dev.pcieUp = true ∧
      s.dev.get F.DMA_LINK_STATUS_DSTATE 0 ≠ 3 ∧ (∀ h ∈ s.dev.held, h.isBar2 = true) ∧ s.dev.viols.length < 16 ∧ ∃ (bytes : List Byte),
      bytes.length = 4 ∧ a.toNat % 4 = 0 ∧ mapped a.toNat = false) ∧
    (∃ (s : State) (reqId : BitVec 16) (a : BitVec 27), s.dev.get F.X_SYS_AUX 0 = 1 ∧ s.dev.pcieUp = true ∧
      s.dev.get F.DMA_LINK_STATUS_DSTATE 0 ≠ 3 ∧ (∀ h ∈ s.dev.held, h.isBar2 = true) ∧ s.dev.viols.length < 16 ∧
      ∃ (off : BitVec 20) (bytes : List Byte), s.dev.planBusy = true ∧ s.dev.dom 148 = pwON) ∧
    (∃ (s : State) (h : Held), s.dev.held = [h] ∧ h.clk + 40 * us ≤ s.dev.clk ∧ s.dev.viols.length < 16 ∧ h.who = Requester.pcie ∧
      ∃ (x : Access), h.kind = HeldKind.bar0 x) ∧
    (∃ (s : State) (h : Held), s.dev.held = [h] ∧ h.clk + 40 * us ≤ s.dev.clk ∧ s.dev.viols.length < 16 ∧ h.who = Requester.pcie ∧
      ∃ (off : ℕ) (a : ℕ) (w : Bool) (n : ℕ) (bs : List Byte), h.kind = HeldKind.bar2 off a w n bs) :=
  ⟨⟨⟨devWith [(.X_SYS_AUX, 0, 1), (.X_SYS_OFF, 0, 0), (.X_SYS_FW, 0, 1)], []⟩, 0, 0x7FFFFFC, by decide, by decide, by decide, by decide,
      by decide, by decide, by decide⟩,
    ⟨⟨devWith [(.X_SYS_AUX, 0, 1), (.X_SYS_OFF, 0, 0), (.X_SYS_FW, 0, 1)], []⟩, 0, 0x7FFFFFC, by decide, by decide, by decide, by decide,
      by decide, [0, 0, 0, 0], by decide, by decide, by decide⟩,
    ⟨⟨devWith [(.X_SYS_AUX, 0, 1), (.X_SYS_OFF, 0, 0), (.X_SYS_FW, 0, 1), (.PWR_D_STATUS_STATE, 148, pwON), (.PLAN_STATUS_STATE, 0, psFLASH)],
      []⟩, 0, 0, by decide, by decide, by decide, by decide, by decide, 0, [], by decide, by decide⟩,
    ⟨⟨{ Dev.reset with clk := 40 * us, held := [⟨.bar0 (.read4 0), .pcie, 0, 0, 0⟩] }, []⟩, ⟨.bar0 (.read4 0), .pcie, 0, 0, 0⟩, by decide,
      by decide, by decide, by decide, .read4 0, by decide⟩,
    ⟨⟨{ Dev.reset with clk := 40 * us, held := [⟨.bar2 0 0 false 4 [], .pcie, 0, 0, 0⟩] }, []⟩, ⟨.bar2 0 0 false 4 [], .pcie, 0, 0, 0⟩,
      by decide, by decide, by decide, by decide, 0, 0, false, 4, [], by decide⟩⟩

theorem witness_SmbusTarget :
    (∃ (s : State) (v : Word) (t : BitVec 7), s.dev.get F.X_SYS_AUX 0 = 1 ∧ t.toNat ≠ 104 + s.dev.get F.X_SMB_STRAP 0) ∧
    (∃ (s : State) (v : Word) (t : BitVec 7), s.dev.get F.X_SYS_AUX 0 = 1 ∧ t.toNat = 104 + s.dev.get F.X_SMB_STRAP 0 ∧
      ∃ (a : ℕ) (r : Reg) (i : ℕ) (j : ℕ), s.dev.get F.X_SMB_ADDR 0 = a ∧ a < 2 ^ 27 ∧ RegisterAt a r i j false ∧ r.row.wide = false ∧
      r ≠ Reg.PH_T_CLAIM ∧ s.dev.Serves Requester.smbus (Access.read4 (BitVec.ofNat 27 a))) ∧
    (∃ (s : State) (v : Word) (t : BitVec 7), s.dev.get F.X_SYS_AUX 0 = 1 ∧ t.toNat = 104 + s.dev.get F.X_SMB_STRAP 0 ∧
      ∃ (a : ℕ) (r : Reg) (i : ℕ) (j : ℕ), s.dev.get F.X_SMB_ADDR 0 = a ∧ a < 2 ^ 27 ∧ RegisterAt a r i j false ∧ r.row.wide = false ∧
      r ∈ plainRegs ∧ s.dev.writeIgnored r i = false ∧ s.dev.Serves Requester.smbus (Access.write4 (BitVec.ofNat 27 a) v)) :=
  ⟨⟨⟨devWith [(.X_SYS_AUX, 0, 1)], []⟩, 0, 0, by decide, by decide⟩,
    ⟨⟨devWith [(.X_SYS_AUX, 0, 1), (.X_SYS_OFF, 0, 0), (.X_SYS_FW, 0, 1), (.X_SMB_ADDR, 0, 20971544)], []⟩, 0, 0x68, by decide, by decide,
      20971544, .LRX_TR, 0, 0, by decide, by decide, by unfold RegisterAt; decide, by decide, by decide, ⟨by decide, by decide, by decide,
      by decide, by decide, domains_served (by decide)⟩⟩,
    ⟨⟨devWith [(.X_SYS_AUX, 0, 1), (.X_SYS_OFF, 0, 0), (.X_SYS_FW, 0, 1), (.X_SMB_ADDR, 0, 20971520)], []⟩, 0, 0x68, by decide, by decide,
      20971520, .LRX_CTRL, 0, 0, by decide, by decide, by unfold RegisterAt; decide, by decide, by decide, by decide, ⟨by decide,
      by decide, by decide, by decide, by decide, domains_served (by decide)⟩⟩⟩

theorem witness_BestIsHighest :
    (∃ (d : Dev) (x : ℕ), List.Pairwise (fun x1 x2 ↦ x1 < x2) d.pending ∧ ∃ (src : ℕ), d.best x = some src ∧ ∃ (t : ℕ),
      d.eligible x t = true) ∧
    (∃ (d : Dev) (x : ℕ), List.Pairwise (fun x1 x2 ↦ x1 < x2) d.pending ∧ d.best x = none) :=
  ⟨⟨{ devWith [(.PH_MASK_MASK, 1, 0), (.PH_SRC_TARGET, 1, 73), (.PH_T_STATUS_DEFINED, 73, 1)] with pending := [1] }, 73, by decide, 1,
      by decide, 1, by decide⟩,
    ⟨Dev.reset, 0, by decide, by decide⟩⟩

theorem witness_ClaimTakesBest :
    (∃ (x : Fin 74) (req : Requester) (s : State), s.dev.get F.PH_T_STATUS_DEFINED ↑x = 1 ∧ (64 ≤ ↑x → req.isExternal = false) ∧
      (s.dev.stacked = true ∨ s.dev.get F.X_PH_SEL ↑x = 0) ∧ ∃ (src : ℕ), s.dev.best ↑x = some src) ∧
    (∃ (x : Fin 74) (req : Requester) (s : State), s.dev.get F.PH_T_STATUS_DEFINED ↑x = 1 ∧ (64 ≤ ↑x → req.isExternal = false) ∧
      (s.dev.stacked = true ∨ s.dev.get F.X_PH_SEL ↑x = 0) ∧ s.dev.best ↑x = none) ∧
    (∃ (x : Fin 74) (req : Requester) (s : State), s.dev.get F.PH_T_STATUS_DEFINED ↑x = 1 ∧ 64 ≤ ↑x ∧ req.isExternal = true) ∧
    (∃ (x : Fin 74) (n : BitVec 10) (req : Requester) (s : State), s.dev.get F.PH_T_STATUS_DEFINED ↑x = 1 ∧ n.toNat ≠ 0 ∧ (64 ≤ ↑x →
      req.isExternal = false) ∧ ∃ (v : Service) (rest : List Service), s.dev.stackOf ↑x = v :: rest ∧ (v.source = n.toNat ∨
      s.dev.stacked = false ∧ ∃ w ∈ rest, w.source = n.toNat) ∧ ∃ (t : ℕ), t ∈ s.dev.pending) ∧
    (∃ (x : Fin 74) (n : BitVec 10) (req : Requester) (s : State), s.dev.get F.PH_T_STATUS_DEFINED ↑x = 1 ∧ n.toNat ≠ 0 ∧ (64 ≤ ↑x →
      req.isExternal = false) ∧ ∃ (v : Service) (rest : List Service), s.dev.stackOf ↑x = v :: rest ∧ (v.source = n.toNat ∨
      s.dev.stacked = false ∧ ∃ w ∈ rest, w.source = n.toNat) ∧ s.dev.get F.PH_SRC_LEVEL n.toNat = 1 ∧ s.dev.get F.PH_SRC_LINE n.toNat = 1) ∧
    (∃ (x : Fin 74) (n : BitVec 10) (req : Requester) (s : State), s.dev.get F.PH_T_STATUS_DEFINED ↑x = 1 ∧ n.toNat ≠ 0 ∧ (64 ≤ ↑x →
      req.isExternal = false) ∧ s.dev.stacked = true ∧ ∀ (v : Service) (rest : List Service), s.dev.stackOf ↑x = v :: rest →
      v.source ≠ n.toNat) ∧
    (∃ (x : Fin 74) (n : BitVec 10) (req : Requester) (s : State), s.dev.get F.PH_T_STATUS_DEFINED ↑x = 1 ∧ n.toNat ≠ 0 ∧ (64 ≤ ↑x →
      req.isExternal = false) ∧ s.dev.stacked = false ∧ ∀ v ∈ s.dev.stackOf ↑x, v.source ≠ n.toNat) :=
  ⟨⟨73, .clerk 3 1,
      ⟨{ devWith [(.PH_T_STATUS_DEFINED, 73, 1), (.PH_CFG_MODE, 0, 1), (.PH_MASK_MASK, 959, 0), (.PH_SRC_TARGET, 959, 73), (.PH_SRC_PRIORITY, 959, 15)] with pending := [959] },
      []⟩, by decide, by decide, by decide, 959, by decide⟩,
    ⟨73, .clerk 3 1, ⟨devWith [(.PH_T_STATUS_DEFINED, 73, 1)], []⟩, by decide, by decide, by decide, by decide⟩,
    ⟨64, .pcie, ⟨devWith [(.PH_T_STATUS_DEFINED, 64, 1)], []⟩, by decide, by decide, by decide⟩,
    ⟨63, 1023, .pcie, ⟨{ devWith [(.PH_T_STATUS_DEFINED, 63, 1)] with service := [⟨63, 1023, 15⟩], pending := [5] }, []⟩, by decide,
      by decide, by decide, ⟨63, 1023, 15⟩, [], by decide, by decide, 5, by decide⟩,
    ⟨63, 1023, .pcie,
      ⟨{ devWith [(.PH_T_STATUS_DEFINED, 63, 1), (.PH_SRC_LEVEL, 1023, 1), (.PH_SRC_LINE, 1023, 1)] with service := [⟨63, 1023, 15⟩] },
      []⟩, by decide, by decide, by decide, ⟨63, 1023, 15⟩, [], by decide, by decide, by decide, by decide⟩,
    ⟨63, 1, .pcie, ⟨devWith [(.PH_T_STATUS_DEFINED, 63, 1), (.PH_CFG_MODE, 0, 1)], []⟩, by decide, by decide, by decide, by decide,
      no_head (by decide)⟩,
    ⟨63, 1, .pcie, ⟨devWith [(.PH_T_STATUS_DEFINED, 63, 1)], []⟩, by decide, by decide, by decide, by decide, by decide⟩⟩

theorem witness_PendingAndMaskWrites :
    ∃ (w : Fin 32) (v : Word) (hw : Word) (s : State) (b : ℕ), ¬(s.dev.get F.PH_SRC_LEVEL (32 * ↑w + b) = 1 ∧
      s.dev.get F.PH_SRC_LINE (32 * ↑w + b) = 1) :=
  ⟨31, 0, 0, ⟨Dev.reset, []⟩, 0, by decide⟩

theorem witness_HeldMessageReleased :
    (∃ (s : State) (x : Fin 74), s.dev.get F.PH_T_STATUS_HELD ↑x = 1 ∧ s.dev.get F.X_PH_HOLD_END ↑x ≤ s.dev.clk ∧ s.dev.best ↑x ≠ none) ∧
    (∃ (s : State) (x : Fin 74), s.dev.get F.PH_T_STATUS_HELD ↑x = 1 ∧ s.dev.get F.X_PH_HOLD_END ↑x ≤ s.dev.clk ∧ s.dev.best ↑x = none) ∧
    (∃ (s : State) (x : Fin 64) (idle : Bool), s.dev.get F.PH_T_STATUS_DEFINED ↑x = 1 ∧ s.dev.get F.PH_T_STATUS_HELD ↑x = 1) ∧
    (∃ (s : State) (x : Fin 10), s.dev.get F.PH_T_STATUS_HELD (64 + ↑x) ≠ 1) ∧
    (∃ (s : State) (x : Fin 10) (src : ℕ), s.dev.get F.PH_T_STATUS_HELD (64 + ↑x) = 1 ∧ s.dev.best (64 + ↑x) = some src) :=
  ⟨⟨⟨{ devWith [(.PH_MASK_MASK, 1023, 0), (.PH_SRC_TARGET, 1023, 73), (.PH_T_STATUS_DEFINED, 73, 1), (.PH_T_STATUS_HELD, 73, 1)] with pending := [1023] },
      []⟩, 73, by decide, by decide, by decide⟩,
    ⟨⟨{ devWith [(.PH_T_STATUS_HELD, 73, 1)] with clk := 10 ^ 15 }, []⟩, 73, by decide, by decide, by decide⟩,
    ⟨⟨devWith [(.PH_T_STATUS_DEFINED, 63, 1), (.PH_T_STATUS_HELD, 63, 1)], []⟩, 63, false, by decide, by decide⟩,
    ⟨⟨Dev.reset, []⟩, 9, by decide⟩,
    ⟨⟨{ devWith [(.PH_MASK_MASK, 1023, 0), (.PH_SRC_TARGET, 1023, 73), (.PH_T_STATUS_DEFINED, 73, 1), (.PH_T_STATUS_HELD, 73, 1)] with pending := [1023] },
      []⟩, 9, 1023, by decide, by decide⟩⟩

theorem witness_DmaQueueControl :
    (∃ (q : Fin 16) (s : State) (z : BitVec 5), s.dev.dq ↑q = dqDISABLED ∧ 4 ≤ z.toNat ∧ z.toNat ≤ 16) ∧
    (∃ (q : Fin 16) (s : State) (z : BitVec 5), z.toNat < 4 ∨ 16 < z.toNat) ∧
    (∃ (q : Fin 16) (s : State), s.dev.dq ↑q = dqRUNNING) ∧
    (∃ (q : Fin 16) (s : State) (y : Desc), y ∈ s.dev.descs) ∧
    (∃ (q : Fin 16) (s : State) (t : BitVec 16), t.toNat < s.dev.ring ↑q) ∧
    (∃ (q : Fin 16) (s : State) (t : BitVec 16), s.dev.ring ↑q ≤ t.toNat) :=
  ⟨⟨15, ⟨devWith [(.DMA_Q_STATUS_STATE, 15, dqDISABLED)], []⟩, 16, by decide, by decide, by decide⟩,
    ⟨15, ⟨Dev.reset, []⟩, 0, by decide⟩,
    ⟨15, ⟨devWith [(.DMA_Q_STATUS_STATE, 15, dqRUNNING)], []⟩, by decide⟩,
    ⟨15, ⟨{ Dev.reset with descs := [⟨15, 0, 0, 64, 0, 0, 0, 0, 0, 0, 0⟩] }, []⟩, ⟨15, 0, 0, 64, 0, 0, 0, 0, 0, 0, 0⟩, by decide⟩,
    ⟨15, ⟨devWith [(.DMA_Q_CTRL_SIZE_EXP, 15, 4)], []⟩, 15, by decide⟩,
    ⟨15, ⟨devWith [(.DMA_Q_CTRL_SIZE_EXP, 15, 4)], []⟩, 16, by decide⟩⟩

theorem witness_DescriptorRuns :
    (∃ (q : Fin 16) (s : State) (x : DmaDescriptor), s.dev.dq ↑q = dqRUNNING ∧ s.dev.get F.DMA_Q_STATUS_PAUSED ↑q ≠ 1 ∧
      s.dev.fetchIndex ↑q ≠ s.dev.get F.DMA_Q_TAIL_INDEX ↑q) ∧
    (∃ (q : Fin 16) (s : State) (x : Desc) (rest : List Desc) (bad : Bool), s.dev.dqLive ↑q = true ∧
      s.dev.get F.DMA_Q_STATUS_PAUSED ↑q ≠ 1 ∧ s.dev.fetched ↑q = x :: rest ∧ errorStatus x.status = true) ∧
    (∃ (q : Fin 16) (s : State) (x : Desc) (rest : List Desc) (mps : ℕ), s.dev.dqLive ↑q = true ∧ s.dev.get F.DMA_Q_STATUS_PAUSED ↑q ≠ 1 ∧
      s.dev.fetched ↑q = x :: rest ∧ 8 ≤ ↑q ∧ x.status = 0 ∧ x.toHost = true ∧ x.moved < x.len ∧ x.len < 2 ^ 24 ∧ (∀ p < 8,
      s.dev.captureReady p = none) ∧ (∀ p < 16, 8 ≤ p → p ≠ ↑q → s.dev.generalReady p = none) ∧ mps = s.dev.get F.X_PCIE_MPS 0 ∧ 0 < mps) ∧
    (∃ (q : Fin 16) (s : State) (data : List Byte) (x : Desc) (rest : List Desc), s.dev.get F.X_DMA_OUT ↑q ≠ 0 ∧
      s.dev.fetched ↑q = x :: rest ∧ 8 ≤ ↑q ∧ x.toHost = false ∧ x.status = 0) ∧
    (∃ (q : Fin 16) (s : State) (data : List Byte) (x : Desc) (rest : List Desc), s.dev.get F.X_DMA_OLD ↑q ≠ 0) :=
  ⟨⟨15, ⟨devWith [(.DMA_Q_STATUS_STATE, 15, dqRUNNING), (.DMA_Q_CTRL_SIZE_EXP, 15, 16), (.DMA_Q_TAIL_INDEX, 15, 1)], []⟩, ⟨0, 0, 0, 0, 0,
      []⟩, by decide, by decide, by decide⟩,
    ⟨15, ⟨{ devWith [(.DMA_Q_STATUS_STATE, 15, dqRUNNING)] with descs := [⟨15, 0, 0, 64, 0, 0, 1, 0, 0, 0, 0⟩] }, []⟩, ⟨15, 0, 0, 64, 0, 0,
      1, 0, 0, 0, 0⟩, [], false, by decide, by decide, by decide, by decide⟩,
    ⟨15, ⟨{ devWith [(.DMA_Q_STATUS_STATE, 15, dqSTOPPING)] with descs := [⟨15, 0, 0, 64, 1, 0, 0, 0, 0, 0, 0⟩] }, []⟩, ⟨15, 0, 0, 64, 1,
      0, 0, 0, 0, 0, 0⟩, [], 128, by decide, by decide, by decide, by decide, by decide, by decide, by decide, by decide, by decide,
      by decide, by decide, by decide⟩,
    ⟨15, ⟨{ devWith [(.X_DMA_OUT, 15, 1)] with descs := [⟨15, 0, 0, 64, 0, 0, 0, 0, 0, 0, 0⟩] }, []⟩, [], ⟨15, 0, 0, 64, 0, 0, 0, 0, 0, 0,
      0⟩, [], by decide, by decide, by decide, by decide, by decide⟩,
    ⟨15, ⟨{ devWith [(.X_DMA_OLD, 15, 1)] with descs := [⟨15, 0, 0, 64, 0, 0, 0, 0, 0, 0, 0⟩] }, []⟩, [], ⟨15, 0, 0, 64, 0, 0, 0, 0, 0, 0,
      0⟩, [], by decide⟩⟩

theorem witness_LinkStates :
    (∃ (s : State), ∀ x < 64, s.dev.get F.PH_T_STATUS_HELD x ≠ 1) ∧
    (∃ (s : State) (v : Fin 256), List.Pairwise (fun x1 x2 ↦ x1 < x2) s.dev.pba ∧ ↑v ∈ s.dev.pba ∧ s.dev.get F.DMA_LINK_STATUS_BME 0 = 1 ∧
      s.dev.get F.X_PCIE_FUNC_MASK 0 ≠ 1 ∧ s.dev.get F.MSIX_CTRL_MASK ↑v ≠ 1) ∧
    (∃ (s : State) (v : Fin 256), List.Pairwise (fun x1 x2 ↦ x1 < x2) s.dev.pba ∧ ↑v ∈ s.dev.pba ∧
      s.dev.get F.DMA_LINK_STATUS_DSTATE 0 ≠ 3 ∧ s.dev.get F.X_PCIE_FUNC_MASK 0 ≠ 1 ∧ s.dev.get F.MSIX_CTRL_MASK ↑v ≠ 1) ∧
    (∃ (s : State) (v : Fin 256), List.Pairwise (fun x1 x2 ↦ x1 < x2) s.dev.pba ∧ ↑v ∈ s.dev.pba ∧ s.dev.get F.DMA_LINK_STATUS_BME 0 = 1 ∧
      s.dev.get F.DMA_LINK_STATUS_DSTATE 0 ≠ 3 ∧ s.dev.get F.X_PCIE_FUNC_MASK 0 ≠ 1) ∧
    (∃ (s : State) (v : Fin 256), List.Pairwise (fun x1 x2 ↦ x1 < x2) s.dev.pba ∧ ↑v ∈ s.dev.pba ∧ s.dev.get F.DMA_LINK_STATUS_BME 0 = 1 ∧
      s.dev.get F.DMA_LINK_STATUS_DSTATE 0 ≠ 3 ∧ s.dev.get F.MSIX_CTRL_MASK ↑v ≠ 1) :=
  ⟨⟨⟨Dev.reset, []⟩, by decide⟩,
    ⟨⟨{ devWith [(.DMA_LINK_STATUS_BME, 0, 1), (.MSIX_CTRL_MASK, 255, 0)] with pba := [0, 255] }, []⟩, 255, by decide, by decide,
      by decide, by decide, by decide⟩,
    ⟨⟨{ devWith [(.MSIX_CTRL_MASK, 255, 0)] with pba := [0, 255] }, []⟩, 255, by decide, by decide, by decide, by decide, by decide⟩,
    ⟨⟨{ devWith [(.DMA_LINK_STATUS_BME, 0, 1)] with pba := [0, 255] }, []⟩, 255, by decide, by decide, by decide, by decide, by decide⟩,
    ⟨⟨{ devWith [(.DMA_LINK_STATUS_BME, 0, 1), (.MSIX_CTRL_MASK, 255, 0)] with pba := [0, 255] }, []⟩, 255, by decide, by decide,
      by decide, by decide, by decide⟩⟩

theorem witness_MemoryTrains :
    (∃ (s : State) (z : Fin 3), s.dev.memState = meTRAINING ∧ s.dev.memAwake 0 = true ∧ ∃ (r : ℕ), 0 < s.dev.get F.X_REGION_SIZE r ∧
      s.dev.get F.X_REGION_BASE r + s.dev.get F.X_REGION_SIZE r ≤ 256) ∧
    (∃ (s : State) (c : Fin 32), s.dev.memState = meTRAINING ∧ s.dev.get F.X_MEM_TRY ↑c = 0) ∧
    (∃ (s : State) (c : Fin 32), s.dev.memState = meTRAINING ∧ s.dev.get F.X_MEM_TRY ↑c = 3 ∧
      s.dev.get F.X_MEM_TRY_CLK ↑c + ms ≤ s.dev.clk ∧ s.dev.mreqs = [] ∧ ∀ (t : ℕ), s.dev.tapActive t = false) ∧
    (∃ (s : State), s.dev.memState = meFAILED) ∧
    (∃ (s : State), s.dev.mreqs = [] ∧ ∀ (t : ℕ), s.dev.tapActive t = false) :=
  ⟨⟨⟨devWith [(.MEM_STATUS_STATE, 0, meTRAINING), (.X_REGION_SIZE, 0, 1)], []⟩, 2, by decide, by decide, 0, by decide, by decide⟩,
    ⟨⟨devWith [(.MEM_STATUS_STATE, 0, meTRAINING), (.X_MEM_TRY, 31, 0)], []⟩, 31, by decide, by decide⟩,
    ⟨⟨{ devWith [(.MEM_STATUS_STATE, 0, meTRAINING), (.X_MEM_TRY, 31, 3)] with clk := 10 ^ 15 }, []⟩, 31, by decide, by decide, by decide,
      by decide,
      by intro t; change Dev.tapActive (devWith [(.MEM_STATUS_STATE, 0, meTRAINING), (.X_MEM_TRY, 31, 3)]) t = false; simp [devWith, Dev.tapActive, Dev.tapState]; intro h; exact absurd rfl h⟩,
    ⟨⟨devWith [(.MEM_STATUS_STATE, 0, meFAILED)], []⟩, by decide⟩,
    ⟨⟨Dev.reset, []⟩, by decide, fun _ => rfl⟩⟩

theorem witness_ChannelsRetrain :
    (∃ (s : State) (c : Fin 32) (drift : Bool) (ecc : Word), s.dev.memState = meREADY ∧
      bitAt (s.dev.get F.MEM_CH_READY_CHANNELS 0) ↑c = true ∧ s.dev.get F.X_MEM_RT ↑c ≠ 1 ∧
      s.dev.get F.X_MEM_TRACK_CLK ↑c + ms ≤ s.dev.clk ∧ (∀ x < (32 : ℕ), x / 4 = ↑c / 4 → x ≠ ↑c → s.dev.get F.X_MEM_TRACK_CLK x = 0 ∨
      s.dev.get F.X_MEM_TRACK_CLK x + 2 * us ≤ s.dev.clk) ∧ s.dev.get F.X_MEM_RETRIES ↑c < 16) ∧
    (∃ (s : State) (m : Fin 8), s.dev.get F.X_MEM_RT_REQ ↑m ≠ 1) ∧
    (∃ (s : State) (c : Fin 32), s.dev.get F.X_MEM_RT ↑c = 1 ∧ s.dev.get F.X_MEM_RT_CLK ↑c + 500 * us ≤ s.dev.clk ∧
      s.dev.get F.X_MEM_TRY ↑c < 3) ∧
    (∃ (s : State) (m : Fin 8) (t : Byte), (s.dev.get F.X_MEM_TEMP_CLK ↑m = 0 ∨
      s.dev.get F.X_MEM_TEMP_CLK ↑m + 1000 * ms ≤ s.dev.clk + 1) ∧ s.dev.writeStopped (4 * ↑m) = false) ∧
    (∃ (s : State) (m : Fin 8) (t : Byte), (s.dev.get F.X_MEM_TEMP_CLK ↑m = 0 ∨
      s.dev.get F.X_MEM_TEMP_CLK ↑m + 1000 * ms ≤ s.dev.clk + 1) ∧ s.dev.get F.X_MEM_HOT ↑m ≠ 1) :=
  ⟨⟨⟨{ devWith [(.MEM_STATUS_STATE, 0, meREADY), (.MEM_CH_READY_CHANNELS, 0, 2 ^ 31), (.X_MEM_TRACK_CLK, 30, 1)] with clk := 10 ^ 15 },
      []⟩, 31, false, 0, by decide, by decide, by decide, by decide, by decide, by decide⟩,
    ⟨⟨Dev.reset, []⟩, 7, by decide⟩,
    ⟨⟨{ devWith [(.X_MEM_RT, 31, 1)] with clk := 10 ^ 15 }, []⟩, 31, by decide, by decide, by decide⟩,
    ⟨⟨devWith [(.X_MEM_TEMP_CLK, 7, 0)], []⟩, 7, 0, by decide, by decide⟩,
    ⟨⟨devWith [(.X_MEM_TEMP_CLK, 7, 0)], []⟩, 7, 0, by decide, by decide⟩⟩

theorem witness_MemoryServes :
    (∃ (s : State) (off : Word) (write : Bool) (len : BitVec 13) (bytes : List Byte) (reqId : BitVec 16) (a : ℕ) (n : ℕ),
      a = s.dev.get F.MEM_BAR2_BASE_BASE 0 * 2 ^ 26 + BitVec.toNat off ∧ (n = if write = true then bytes.length else len.toNat) ∧ 0 < n ∧
      n ≤ 256 - a % 256 ∧ s.dev.get F.DMA_LINK_STATUS_DSTATE 0 ≠ 3 ∧ s.dev.pcieUp = true ∧ s.dev.held.any Held.isBar2 = false ∧
      s.dev.memTrained = true ∧ a + n ≤ s.dev.memBytes ∧ s.dev.hostAccess a write ≠ 2 ∧ ∀ (m : ℕ), s.dev.gate (domMem m) = 0) ∧
    (∃ (s : State) (c : Fin 32) (r : MemReq), s.dev.memState = meREADY ∧ bitAt (s.dev.get F.MEM_CH_READY_CHANNELS 0) ↑c = true ∧
      s.dev.channelPaused ↑c = false ∧ s.dev.mreqs = [r] ∧ channelOf r.addr = ↑c ∧ r.cls < 5 ∧ (r.write = true →
      s.dev.writeStopped ↑c = false) ∧ r.bad = false) :=
  ⟨⟨⟨devWith [(.MEM_CFG_CAPACITY, 0, 1), (.MEM_STATUS_STATE, 0, meREADY), (.X_SYS_OFF, 0, 0), (.X_SYS_FW, 0, 1)], []⟩, 255, false, 1, [],
      0, 255, 1, by decide, by decide, by decide, by decide, by decide, by decide, by decide, by decide, by decide, by decide,
      fun _ => rfl⟩,
    ⟨⟨{ devWith [(.MEM_STATUS_STATE, 0, meREADY), (.MEM_CH_READY_CHANNELS, 0, 2 ^ 31)] with mreqs := [⟨4, true, 31 * 256, 32, [], 0, false, 0, 0, 0, 0, false, false⟩] },
      []⟩, 31, ⟨4, true, 31 * 256, 32, [], 0, false, 0, 0, 0, 0, false, false⟩, by decide, by decide, by decide, by decide, by decide,
      by decide, by decide, by decide⟩⟩

theorem witness_Horizons :
    (∃ (k : Fin 158) (s : State) (v : Word), BitVec.toNat v ≠ 0 ∧ BitVec.toNat v ≠ 4294967295 ∧ ∃ (m : ℕ), m ∈ s.dev.sleepGroup ↑k) ∧
    (∃ (k : Fin 158) (s : State), s.dev.domUnused ↑k = false ∧ s.dev.domAsleep ↑k = true ∧ s.dev.ancestorFailed ↑k = false ∧
      s.dev.sleepGroup ↑k = [↑k]) ∧
    (∃ (k : Fin 158) (s : State), s.dev.get F.X_PWR_HOR_SET ↑k = 1 ∧ s.dev.get F.X_PWR_HOR_END ↑k ≤ s.dev.clk ∧ ∃ (m : ℕ),
      m ∈ s.dev.sleepGroup ↑k) ∧
    (∃ (s : State) (k : Fin 158) (ev : ℕ), s.dev.domAsleep ↑k = true ∧ s.dev.domUnused ↑k = false ∧ s.dev.ancestorFailed ↑k = false ∧
      s.dev.groupEvent (s.dev.sleepGroup ↑k) = some ev ∧ ev - wakeTime (s.dev.dom ↑k) ≤ s.dev.clk ∧ s.dev.sleepGroup ↑k = [↑k]) ∧
    (∃ (s : State) (n : Fin 64), s.dev.get F.PWR_D_CFG_SD_WAKE ↑n = 1 ∧ s.dev.dom (domEngine (engineOf ↑n)) = pwON ∧
      s.dev.mode (engineOf ↑n) ≠ 0 ∧ s.dev.dom (domTile (tileOf ↑n)) = pwON ∧ s.dev.width (engineOf ↑n) = 1 ∧ s.dev.domAsleep ↑n = true) :=
  ⟨⟨157, ⟨Dev.reset, []⟩, 1, by decide, by decide, 157, by decide⟩,
    ⟨157, ⟨devWith [(.PWR_D_STATUS_STATE, 157, pwOFF)], []⟩, by decide, by decide, by decide, by decide⟩,
    ⟨157, ⟨{ devWith [(.X_PWR_HOR_SET, 157, 1)] with clk := 10 ^ 15 }, []⟩, by decide, by decide, 157, by decide⟩,
    ⟨⟨{ devWith [(.PWR_D_STATUS_STATE, 157, pwOFF), (.X_PWR_HOR_SET, 157, 1), (.X_PWR_HOR_END, 157, 1000)] with clk := 1000 }, []⟩, 157,
      1000, by decide, by decide, by decide, by decide, by decide, by decide⟩,
    ⟨⟨devWith [(.SPR_CFG_MODE, 7, 1), (.PWR_D_CFG_SD_WAKE, 63, 1), (.PWR_D_STATUS_STATE, 63, 1)], []⟩, 63, by decide, by decide, by decide,
      by decide, by decide, by decide⟩⟩

theorem witness_WakeCompletes :
    (∃ (k : Fin 158) (s : State), s.dev.dom ↑k = pwWAKING ∧ s.dev.get F.X_PWR_HELD_OFF ↑k ≠ 1 ∧ (∀ a ∈ ancestors ↑k,
      s.dev.domOn a = true) ∧ s.dev.get F.PWR_D_LAST_WAKE_SRC ↑k = 3) ∧
    (∃ (k : Fin 158) (s : State), s.dev.dom ↑k = pwWAKING ∧ s.dev.get F.X_PWR_HELD_OFF ↑k ≠ 1 ∧ (∀ a ∈ ancestors ↑k,
      s.dev.domOn a = true) ∧ s.dev.get F.PWR_D_LAST_WAKE_SRC ↑k = 1) ∧
    (∃ (k : Fin 158) (s : State), s.dev.dom ↑k = pwWAKING ∧ s.dev.get F.X_PWR_HELD_OFF ↑k ≠ 1 ∧ (∀ a ∈ ancestors ↑k,
      s.dev.domOn a = true) ∧ ∃ (c : ℕ), s.dev.dom c = pwWAKING) ∧
    (∃ (k : Fin 158) (s : State) (pll : Bool), (fun pll ↦ s.dev.dom ↑k = pwWAKING ∧ s.dev.get F.X_PWR_HELD_OFF ↑k ≠ 1 ∧
      (∀ a ∈ ancestors ↑k, s.dev.domOn a = true) ∧ (s.dev.get F.X_PWR_FROM ↑k = 1 ∨ pll = false ∨ hasPll ↑k = true) ∧
      s.dev.get F.X_PWR_BEGAN ↑k + attemptLimit (s.dev.get F.X_PWR_FROM ↑k) pll ≤ s.dev.clk) pll ∧
      s.dev.get F.PWR_D_STATUS_ATTEMPT ↑k ≠ 3 ∧ s.dev.held = []) ∧
    (∃ (k : Fin 158) (s : State), s.dev.dom ↑k = pwWAKING ∧ s.dev.get F.X_PWR_HELD_OFF ↑k = 1 ∧
      s.dev.get F.X_PWR_RETRY_CLK ↑k + ms ≤ s.dev.clk) ∧
    (∃ (k : Fin 158) (s : State) (pll : Bool), (fun pll ↦ s.dev.dom ↑k = pwWAKING ∧ s.dev.get F.X_PWR_HELD_OFF ↑k ≠ 1 ∧
      (∀ a ∈ ancestors ↑k, s.dev.domOn a = true) ∧ (s.dev.get F.X_PWR_FROM ↑k = 1 ∨ pll = false ∨ hasPll ↑k = true) ∧
      s.dev.get F.X_PWR_BEGAN ↑k + attemptLimit (s.dev.get F.X_PWR_FROM ↑k) pll ≤ s.dev.clk) pll ∧
      s.dev.get F.PWR_D_STATUS_ATTEMPT ↑k = 3 ∧ s.dev.held = [] ∧ domClass ↑k = 10) ∧
    (∃ (k : Fin 158) (s : State), s.dev.dom ↑k = pwFAILED ∧ domClass ↑k = 10 ∧ s.dev.ancestorFailed ↑k = false) :=
  ⟨⟨157, ⟨devWith [(.PWR_D_STATUS_STATE, 157, pwWAKING), (.PWR_D_LAST_WAKE_SRC, 157, 3)], []⟩, by decide, by decide, by decide, by decide⟩,
    ⟨157, ⟨devWith [(.PWR_D_STATUS_STATE, 157, pwWAKING), (.PWR_D_LAST_WAKE_SRC, 157, 1)], []⟩, by decide, by decide, by decide, by decide⟩,
    ⟨157, ⟨devWith [(.PWR_D_STATUS_STATE, 157, pwWAKING), (.PWR_D_STATUS_STATE, 0, pwWAKING)], []⟩, by decide, by decide, by decide, 0,
      by decide⟩,
    ⟨63, ⟨{ devWith [(.PWR_D_STATUS_STATE, 63, pwWAKING), (.PWR_D_STATUS_ATTEMPT, 63, 2)] with clk := 10 ^ 12 }, []⟩, false, by decide,
      by decide, by decide⟩,
    ⟨157, ⟨{ devWith [(.PWR_D_STATUS_STATE, 157, pwWAKING), (.X_PWR_HELD_OFF, 157, 1)] with clk := 10 ^ 15 }, []⟩, by decide, by decide,
      by decide⟩,
    ⟨157, ⟨{ devWith [(.PWR_D_STATUS_STATE, 157, pwWAKING), (.PWR_D_STATUS_ATTEMPT, 157, 3)] with clk := 10 ^ 12 }, []⟩, false, by decide,
      by decide, by decide, by decide⟩,
    ⟨157, ⟨devWith [(.PWR_D_STATUS_STATE, 157, pwFAILED)], []⟩, by decide, by decide, by decide⟩⟩

theorem witness_EntryPoints :
    (∃ (k : Fin 158) (s : State), domClass ↑k = 10 ∧ s.dev.dom ↑k = pwENTERING ∧ s.dev.held = [] ∧ ∃ (p : Fin 6),
      ↑p = s.dev.get F.PWR_D_STATUS_POINT ↑k + 1 ∧ ↑p < 5 ∧ ¬(s.dev.get F.PWR_D_STATUS_GOAL ↑k = 1 ∧ ↑p = 2) ∧
      s.dev.get F.X_PWR_WANT ↑k = 0) ∧
    (∃ (k : Fin 158) (s : State), domClass ↑k = 10 ∧ s.dev.dom ↑k = pwENTERING ∧ s.dev.held = [] ∧ s.dev.get F.PWR_D_STATUS_POINT ↑k = 4 ∧
      s.dev.get F.X_PWR_WANT ↑k = 0) ∧
    (∃ (k : Fin 158) (s : State), domClass ↑k = 10 ∧ s.dev.dom ↑k = pwENTERING ∧ s.dev.held = [] ∧ ∃ (p : Fin 6),
      ↑p = s.dev.get F.PWR_D_STATUS_POINT ↑k + 1 ∧ ↑p < 5 ∧ ¬(s.dev.get F.PWR_D_STATUS_GOAL ↑k = 1 ∧ ↑p = 2) ∧
      s.dev.get F.X_PWR_WANT ↑k ≠ 0) :=
  ⟨⟨157, ⟨devWith [(.PWR_D_STATUS_STATE, 157, pwENTERING), (.PWR_D_STATUS_POINT, 157, 3), (.X_PWR_WANT, 157, 0)], []⟩, by decide,
      by decide, by decide, 4, by decide, by decide, by decide, by decide⟩,
    ⟨157, ⟨devWith [(.PWR_D_STATUS_STATE, 157, pwENTERING), (.PWR_D_STATUS_POINT, 157, 4), (.X_PWR_WANT, 157, 0)], []⟩, by decide,
      by decide, by decide, by decide, by decide⟩,
    ⟨157, ⟨devWith [(.PWR_D_STATUS_STATE, 157, pwENTERING), (.PWR_D_STATUS_POINT, 157, 3), (.X_PWR_WANT, 157, 1)], []⟩, by decide,
      by decide, by decide, 4, by decide, by decide, by decide, by decide⟩⟩

theorem witness_LevelsAndCounts :
    (∃ (s : State) (t : Fin 4), s.dev.get F.X_LVL_PHASE ↑t = 1 ∧ s.dev.get F.X_LVL_V0 ↑t = s.dev.voltGoal ↑t ∧
      s.dev.get F.X_LVL_CLK ↑t ≤ s.dev.clk) ∧
    (∃ (s : State) (t : Fin 4), s.dev.get F.X_LVL_PHASE ↑t = 2 ∧ s.dev.get F.X_LVL_CLK ↑t + 100 * us ≤ s.dev.clk ∧
      s.dev.get F.X_LVL_V0 ↑t ≤ 160) ∧
    (∃ (s : State) (x : Fin 40), s.dev.siteFailed ↑x = true) ∧
    (∃ (s : State) (x : Fin 40), s.dev.siteFailed ↑x = false) :=
  ⟨⟨⟨devWith [(.X_LVL_PHASE, 3, 1), (.X_LVL_V0, 3, levelVolt 0)], []⟩, 3, by decide, by decide, by decide⟩,
    ⟨⟨{ devWith [(.X_LVL_PHASE, 3, 2)] with clk := 10 ^ 15 }, []⟩, 3, by decide, by decide, by decide⟩,
    ⟨⟨devWith [(.THM_S_STATUS_STATE, 39, 1)], []⟩, 39, by decide⟩,
    ⟨⟨Dev.reset, []⟩, 39, by decide⟩⟩

theorem witness_ReadingsDemanded :
    (∃ (s : State) (x : Fin 40), s.dev.siteGone ↑x = false ∧ s.dev.siteUp ↑x = true ∧ s.dev.get F.X_THM_DEM ↑x = 0) ∧
    (∃ (s : State) (x : Fin 40), s.dev.siteGone ↑x = false ∧ s.dev.siteUp ↑x = true ∧ s.dev.get F.X_THM_DEM ↑x ≠ 0) ∧
    (∃ (s : State), ∀ x < 40, s.dev.siteGone x = false ∧ s.dev.siteUp x = true) ∧
    (∃ (x : Fin 40) (s : State), s.dev.get F.X_THM_DEM ↑x ≠ 0 ∧ s.dev.siteFailed ↑x = false ∧ ∃ (raw : BitVec 16),
      s.dev.get F.X_THM_CLK ↑x + 24 * us ≤ s.dev.clk ∧ s.dev.clk ≤ s.dev.get F.X_THM_CLK ↑x + 100 * us ∧
      s.dev.siteCheck (↑x) (raw.toInt + sx 16 (s.dev.get F.X_NVM_SENSOR ↑x)) = 0 ∧ bitAt (s.dev.get F.X_THM_DEM ↑x) 0 = false) ∧
    (∃ (x : Fin 40) (s : State), s.dev.get F.X_THM_DEM ↑x ≠ 0 ∧ s.dev.siteFailed ↑x = false ∧ ∃ (raw : BitVec 16),
      s.dev.get F.X_THM_CLK ↑x + 24 * us ≤ s.dev.clk ∧ s.dev.clk ≤ s.dev.get F.X_THM_CLK ↑x + 100 * us ∧
      (raw.toInt + sx 16 (s.dev.get F.X_NVM_SENSOR ↑x) < -640 ∨ 2400 < raw.toInt + sx 16 (s.dev.get F.X_NVM_SENSOR ↑x))) ∧
    (∃ (x : Fin 40) (s : State), s.dev.get F.X_THM_DEM ↑x ≠ 0 ∧ s.dev.siteFailed ↑x = false ∧
      s.dev.get F.X_THM_CLK ↑x + 100 * us ≤ s.dev.clk) :=
  ⟨⟨⟨devWith [(.X_THM_DEM, 39, 0)], []⟩, 39, by decide, by decide, by decide⟩,
    ⟨⟨devWith [(.X_THM_DEM, 39, 1)], []⟩, 39, by decide, by decide, by decide⟩,
    ⟨⟨Dev.reset, []⟩, by decide⟩,
    ⟨39, ⟨{ devWith [(.X_THM_DEM, 39, 2)] with clk := 24 * us }, []⟩, by decide, by decide, 0, by decide, by decide, by decide, by decide⟩,
    ⟨39, ⟨{ devWith [(.X_THM_DEM, 39, 1)] with clk := 100 * us }, []⟩, by decide, by decide, 2401, by decide, by decide, by decide⟩,
    ⟨39, ⟨{ devWith [(.X_THM_DEM, 39, 1)] with clk := 10 ^ 15 }, []⟩, by decide, by decide, by decide⟩⟩

theorem witness_StepsFollowReadings :
    (∃ (d : Dev) (x : ℕ) (v : ℤ) (j : ℕ), x < 40 ∧ j < 4 ∧ d.get F.X_THM_STEP x ≤ j ∧ d.dwell ≤ d.get F.X_THM_CNT (4 * x + j) + 1 ∧
      d.dwell ≤ 15 ∧ d.thmTh x j ≤ v * 10 ∧ ∀ i < 4, j < i → v * 10 < d.thmTh x i ∧ 0 < d.dwell) ∧
    (∃ (d : Dev) (x : ℕ) (v : ℤ) (j : ℕ), x < 40 ∧ j < 4 ∧ d.get F.X_THM_STEP x = j + 1 ∧ (∀ i < 4, v * 10 < d.thmTh x i) ∧ 0 < d.dwell ∧
      v * 10 < d.thmTh x j - d.thmHyst ∧ d.dwell ≤ d.get F.THM_S_STATUS_RELEASE_CNT x + 1) :=
  ⟨⟨devWith [(.X_THM_CNT, 159, 14), (.THM_CFG_DWELL, 0, 15)], 39, 4000, 3, by decide, by decide, by decide, by decide, by decide,
      by decide, by decide⟩,
    ⟨devWith [(.X_THM_STEP, 39, 4), (.THM_S_STATUS_RELEASE_CNT, 39, 14), (.THM_CFG_DWELL, 0, 15)], 39, -640, 3, by decide, by decide,
      by decide, by decide, by decide, by decide, by decide⟩⟩

theorem witness_LaserStates :
    (∃ (e : Fin 8) (s : State), s.dev.ls ↑e = lsABSENT) ∧
    (∃ (e : Fin 8) (s : State), s.dev.ls ↑e = lsSETTLING ∧ s.dev.get F.SYS_LS_STATUS_PRESENT ↑e = 1 ∧
      s.dev.get F.X_LS_CLK ↑e + 10 * ms ≤ s.dev.clk ∧ s.dev.get F.SYS_LS_CTRL_AUTO_HP ↑e = 1) ∧
    (∃ (e : Fin 8) (s : State), s.dev.ls ↑e = lsINIT ∧ s.dev.get F.SYS_TW_STATUS_BUSY ↑e ≠ 1 ∧
      s.dev.get F.X_LS_POLL ↑e + 10 * ms ≤ s.dev.clk ∧ s.dev.get F.SYS_LS_STATUS_LPMODE_OUT ↑e ≠ 1 ∧ s.dev.get F.X_LS_HITS ↑e = 1) ∧
    (∃ (e : Fin 8) (s : State), s.dev.ls ↑e = lsINIT ∧ s.dev.get F.SYS_TW_STATUS_BUSY ↑e ≠ 1 ∧
      s.dev.get F.X_LS_POLL ↑e + 10 * ms ≤ s.dev.clk ∧ s.dev.get F.SYS_LS_STATUS_LPMODE_OUT ↑e ≠ 1 ∧ s.dev.get F.X_LS_HITS ↑e = 0) ∧
    (∃ (e : Fin 8) (s : State), s.dev.ls ↑e = lsINIT ∧
      s.dev.get F.X_LS_CLK ↑e + max 1 (s.dev.get F.SYS_LS_CTRL_TIMEOUT ↑e) * 100 * ms ≤ s.dev.clk) ∧
    (∃ (e : Fin 8) (s : State), s.dev.ls ↑e = lsFAULT ∧ s.dev.get F.SYS_LS_STATUS_PRESENT ↑e = 1) ∧
    (∃ (e : Fin 8) (s : State), s.dev.ls ↑e = lsREADY ∧ s.dev.get F.SYS_TW_STATUS_BUSY ↑e = 1) ∧
    (∃ (e : Fin 8) (s : State) (addr : Byte) (len : BitVec 7) (w : Bool) (page : Byte) (bank : Byte),
      s.dev.get F.SYS_TW_STATUS_BUSY ↑e ≠ 1 ∧ s.dev.ls ↑e ≠ lsOFF ∧ s.dev.ls ↑e ≠ lsABSENT) ∧
    (∃ (e : Fin 8) (s : State) (addr : Byte) (len : BitVec 7) (w : Bool) (page : Byte) (bank : Byte),
      s.dev.get F.SYS_TW_STATUS_BUSY ↑e = 1) ∧
    (∃ (e : Fin 8) (s : State) (addr : Byte) (len : BitVec 7) (w : Bool) (page : Byte) (bank : Byte),
      s.dev.get F.SYS_TW_STATUS_BUSY ↑e ≠ 1 ∧ (s.dev.ls ↑e = lsOFF ∨ s.dev.ls ↑e = lsABSENT)) ∧
    (∃ (e : Fin 8) (s : State), s.dev.get F.SYS_TW_STATUS_BUSY ↑e = 1 ∧ ∃ (data : List Byte),
      s.dev.get F.X_TW_CLK ↑e + s.dev.twTime ↑e ≤ s.dev.clk ∧ s.dev.get F.X_TW_WRITE ↑e ≠ 1 ∧ data.length ≤ s.dev.get F.X_TW_LEN ↑e + 1) ∧
    (∃ (e : Fin 8) (s : State), s.dev.get F.SYS_TW_STATUS_BUSY ↑e = 1 ∧ s.dev.get F.X_TW_CLK ↑e + 10 * ms ≤ s.dev.clk) :=
  ⟨⟨7, ⟨devWith [(.SYS_LS_STATUS_STATE, 7, lsABSENT)], []⟩, by decide⟩,
    ⟨7,
      ⟨{ devWith [(.SYS_LS_STATUS_STATE, 7, lsSETTLING), (.SYS_LS_STATUS_PRESENT, 7, 1), (.SYS_LS_CTRL_AUTO_HP, 7, 1)] with clk := 10 ^ 15 },
      []⟩, by decide, by decide, by decide, by decide⟩,
    ⟨7, ⟨{ devWith [(.SYS_LS_STATUS_STATE, 7, lsINIT), (.X_LS_HITS, 7, 1), (.SYS_LS_STATUS_LPMODE_OUT, 7, 0)] with clk := 10 ^ 15 }, []⟩,
      by decide, by decide, by decide, by decide, by decide⟩,
    ⟨7, ⟨{ devWith [(.SYS_LS_STATUS_STATE, 7, lsINIT), (.X_LS_HITS, 7, 0), (.SYS_LS_STATUS_LPMODE_OUT, 7, 0)] with clk := 10 ^ 15 }, []⟩,
      by decide, by decide, by decide, by decide, by decide⟩,
    ⟨7, ⟨{ devWith [(.SYS_LS_STATUS_STATE, 7, lsINIT)] with clk := 10 ^ 15 }, []⟩, by decide, by decide⟩,
    ⟨7, ⟨devWith [(.SYS_LS_STATUS_STATE, 7, lsFAULT), (.SYS_LS_STATUS_PRESENT, 7, 1)], []⟩, by decide, by decide⟩,
    ⟨7, ⟨devWith [(.SYS_LS_STATUS_STATE, 7, lsREADY), (.SYS_TW_STATUS_BUSY, 7, 1)], []⟩, by decide, by decide⟩,
    ⟨7, ⟨devWith [(.SYS_LS_STATUS_STATE, 7, lsREADY)], []⟩, 0, 0, false, 0, 0, by decide, by decide, by decide⟩,
    ⟨7, ⟨devWith [(.SYS_TW_STATUS_BUSY, 7, 1)], []⟩, 0, 0, false, 0, 0, by decide⟩,
    ⟨7, ⟨devWith [(.SYS_LS_STATUS_STATE, 7, lsOFF)], []⟩, 0, 0, false, 0, 0, by decide, by decide⟩,
    ⟨7, ⟨{ devWith [(.SYS_TW_STATUS_BUSY, 7, 1)] with clk := 10 ^ 15 }, []⟩, by decide, [], by decide, by decide, by decide⟩,
    ⟨7, ⟨{ devWith [(.SYS_TW_STATUS_BUSY, 7, 1)] with clk := 10 ^ 15 }, []⟩, by decide, by decide⟩⟩

theorem witness_ColdPowerUpResets :
    (∃ (s : State), s.dev.get F.X_SYS_AUX 0 = 1 ∧ s.dev.get F.X_SYS_OFF 0 ≠ 1 ∧ s.dev.get F.X_SYS_RST 0 ≠ 1) ∧
    (∃ (s : State), s.dev.get F.X_SYS_AUX 0 = 1 ∧ s.dev.get F.X_SYS_OFF 0 ≠ 1 ∧ s.dev.get F.X_SYS_MAIN 0 = 1) ∧
    (∃ (s : State), s.dev.get F.X_SYS_AUX 0 = 1 ∧ s.dev.get F.X_SYS_OFF 0 ≠ 1 ∧ ∃ (req : Requester), s.dev.get F.X_SYS_MAIN 0 = 1 ∧
      s.dev.get F.X_SYS_RST 0 ≠ 1 ∧ s.dev.get F.THM_SD_STATUS_STATE 0 = 0) ∧
    (∃ (s : State), s.dev.get F.X_SYS_OFF 0 = 1 ∧ s.dev.get F.X_SYS_AUX 0 = 1 ∧ s.dev.get F.THM_SD_STATUS_STATE 0 = 0 ∧
      s.dev.get F.X_SYS_MAIN 0 = 1 ∧ s.dev.get F.X_SYS_RST 0 = 1 ∧ s.dev.get F.SYS_RESET_CAUSE_CAUSE 0 = 1) ∧
    (∃ (s : State), s.dev.get F.X_SYS_OFF 0 = 1 ∧ s.dev.get F.X_SYS_AUX 0 = 1 ∧ s.dev.get F.THM_SD_STATUS_STATE 0 = 0 ∧
      s.dev.get F.X_SYS_RST 0 ≠ 1 ∧ s.dev.get F.SYS_RESET_CAUSE_CAUSE 0 = 0) ∧
    (∃ (s : State), s.dev.get F.X_SYS_PERST 0 = 1) ∧
    (∃ (s : State), s.dev.get F.X_SYS_OFF 0 ≠ 1 ∧ s.dev.get F.X_SYS_PERST 0 ≠ 1 ∧ s.dev.get F.X_SYS_EP 0 ≠ 1 ∧
      s.dev.get F.X_SYS_PG_CLK 0 + 5 * ms ≤ s.dev.clk) ∧
    (∃ (s : State), s.dev.get F.X_SYS_OFF 0 ≠ 1) :=
  ⟨⟨⟨devWith [(.X_SYS_AUX, 0, 1), (.X_SYS_OFF, 0, 0)], []⟩, by decide, by decide, by decide⟩,
    ⟨⟨devWith [(.X_SYS_AUX, 0, 1), (.X_SYS_MAIN, 0, 1), (.X_SYS_OFF, 0, 0)], []⟩, by decide, by decide, by decide⟩,
    ⟨⟨devWith [(.X_SYS_AUX, 0, 1), (.X_SYS_MAIN, 0, 1), (.THM_SD_STATUS_STATE, 0, 0), (.X_SYS_OFF, 0, 0)], []⟩, by decide, by decide,
      .pcie, by decide, by decide, by decide⟩,
    ⟨⟨devWith [(.X_SYS_OFF, 0, 1), (.X_SYS_AUX, 0, 1), (.THM_SD_STATUS_STATE, 0, 0), (.X_SYS_MAIN, 0, 1), (.X_SYS_RST, 0, 1), (.SYS_RESET_CAUSE_CAUSE, 0, 1)],
      []⟩, by decide, by decide, by decide, by decide, by decide, by decide⟩,
    ⟨⟨devWith [(.X_SYS_OFF, 0, 1), (.X_SYS_AUX, 0, 1), (.THM_SD_STATUS_STATE, 0, 0), (.SYS_RESET_CAUSE_CAUSE, 0, 0)], []⟩, by decide,
      by decide, by decide, by decide, by decide⟩,
    ⟨⟨devWith [(.X_SYS_PERST, 0, 1)], []⟩, by decide⟩,
    ⟨⟨{ devWith [(.X_SYS_OFF, 0, 0)] with clk := 10 ^ 15 }, []⟩, by decide, by decide, by decide, by decide⟩,
    ⟨⟨devWith [(.X_SYS_OFF, 0, 0)], []⟩, by decide⟩⟩

theorem witness_BootAndStop :
    (∃ (s : State), s.dev.get F.X_SYS_OFF 0 ≠ 1 ∧ ∃ (areas : Byte), s.dev.get F.SYS_BOOT_STATUS_STAGE 0 = 1 ∧
      ∃ (a : Option BootImage) (b : Option BootImage) (x : BootImage) (image : Bool), (a = some x ∧ image = false ∧ ∀ (y : BootImage),
      b = some y → newer (BitVec.toNat y.seq) (BitVec.toNat x.seq) = false) ∨ b = some x ∧ image = true ∧ ∀ (y : BootImage), a = some y →
      newer (BitVec.toNat x.seq) (BitVec.toNat y.seq) = true) ∧
    (∃ (s : State), s.dev.get F.X_SYS_OFF 0 ≠ 1 ∧ s.dev.get F.X_SYS_FW 0 = 1) ∧
    (∃ (s : State), s.dev.get F.SYS_SNAP_STATUS_BUSY 0 = 1) ∧
    (∃ (s : State), s.dev.get F.SYS_SNAP_STATUS_BUSY 0 ≠ 1 ∧ s.dev.ps ≠ psLIVE) ∧
    (∃ (s : State), s.dev.get F.SYS_SNAP_STATUS_BUSY 0 ≠ 1 ∧ s.dev.ps = psLIVE) :=
  ⟨⟨⟨devWith [(.X_SYS_OFF, 0, 0), (.SYS_BOOT_STATUS_STAGE, 0, 1)], []⟩, by decide, 0, by decide, (some ⟨7, 2⟩), (some ⟨7, 3⟩), ⟨7, 2⟩,
      false, .inl ⟨rfl, rfl, by rintro y ⟨⟩; decide⟩⟩,
    ⟨⟨devWith [(.X_SYS_OFF, 0, 0), (.X_SYS_FW, 0, 1)], []⟩, by decide, by decide⟩,
    ⟨⟨devWith [(.SYS_SNAP_STATUS_BUSY, 0, 1)], []⟩, by decide⟩,
    ⟨⟨Dev.reset, []⟩, by decide, by decide⟩,
    ⟨⟨devWith [(.PLAN_STATUS_STATE, 0, psLIVE)], []⟩, by decide, by decide⟩⟩

theorem witness_ThermalShutdown :
    (∃ (s : State), s.dev.get F.X_SYS_AUX 0 = 1 ∧ ∃ (x : Fin 40), s.dev.get F.THM_SD_STATUS_STATE 0 = 0) ∧
    (∃ (s : State), s.dev.get F.X_SYS_AUX 0 = 1 ∧ s.dev.get F.X_SYS_OFF 0 = 1 ∧ s.dev.get F.X_SYS_MAIN 0 = 1 ∧
      s.dev.get F.X_SYS_RST 0 ≠ 1 ∧ s.dev.get F.THM_SD_STATUS_STATE 0 = 1 ∧ s.dev.get F.X_THM_SD_CLK 0 + sec ≤ s.dev.clk) ∧
    (∃ (s : State), s.dev.get F.X_SYS_AUX 0 = 1 ∧ s.dev.get F.X_SYS_OFF 0 = 1 ∧ s.dev.get F.X_SYS_MAIN 0 = 1 ∧
      s.dev.get F.X_SYS_RST 0 ≠ 1 ∧ s.dev.get F.THM_SD_STATUS_STATE 0 = 2) ∧
    (∃ (s : State), s.dev.get F.X_SYS_AUX 0 = 1 ∧ s.dev.get F.THM_SD_STATUS_STATE 0 = 2) :=
  ⟨⟨⟨devWith [(.X_SYS_AUX, 0, 1), (.THM_SD_STATUS_STATE, 0, 0)], []⟩, by decide, 39, by decide⟩,
    ⟨⟨{ devWith [(.X_SYS_AUX, 0, 1), (.X_SYS_OFF, 0, 1), (.X_SYS_MAIN, 0, 1), (.THM_SD_STATUS_STATE, 0, 1)] with clk := 10 ^ 15 }, []⟩,
      by decide, by decide, by decide, by decide, by decide, by decide⟩,
    ⟨⟨devWith [(.X_SYS_AUX, 0, 1), (.X_SYS_OFF, 0, 1), (.X_SYS_MAIN, 0, 1), (.THM_SD_STATUS_STATE, 0, 2)], []⟩, by decide, by decide,
      by decide, by decide, by decide⟩,
    ⟨⟨devWith [(.X_SYS_AUX, 0, 1), (.THM_SD_STATUS_STATE, 0, 2)], []⟩, by decide, by decide⟩⟩

theorem witness_LaneStateEvents :
    (∃ (n : Fin 64) (amp : Byte) (s : State), s.dev.rx ↑n = rxWAIT ∧ s.dev.looped ↑n = false ∧ s.dev.domOn (domRx ↑n) = true ∧
      clampN 20 100 (s.dev.lget F.LRX_FE_SD_THR ↑n) ≤ BitVec.toNat amp ∧ s.dev.get F.X_LRX_SD_CLK ↑n + 8 * us ≤ s.dev.clk) ∧
    (∃ (n : Fin 64) (amp : Byte) (s : State), BitVec.toNat amp < clampN 20 100 (s.dev.lget F.LRX_FE_SD_THR ↑n)) ∧
    (∃ (n : Fin 64) (amp : Byte) (s : State), 3 * clampN 20 100 (s.dev.lget F.LRX_FE_SD_THR ↑n) ≤ 4 * BitVec.toNat amp) ∧
    (∃ (n : Fin 64) (amp : Byte) (s : State), 1 ≤ s.dev.rx ↑n ∧ s.dev.rx ↑n ≤ 5 ∧ s.dev.looped ↑n = false ∧ s.dev.domOn (domRx ↑n) = true ∧
      4 * BitVec.toNat amp < 3 * clampN 20 100 (s.dev.lget F.LRX_FE_SD_THR ↑n) ∧ s.dev.get F.X_LRX_SD_CLK ↑n + us ≤ s.dev.clk ∧
      s.dev.get F.LRX_STATUS_SIGNAL ↑n = 1 ∧ s.dev.get F.X_LRX_WLEN ↑n ≠ 8191 ∧ s.dev.rx ↑n = rxLOCKED) ∧
    (∃ (n : Fin 64) (amp : Byte) (s : State), s.dev.rx ↑n = rxLOCKED) ∧
    (∃ (n : Fin 64) (amp : Byte) (s : State), s.dev.rx ↑n ≠ rxLOCKED) ∧
    (∃ (n : Fin 64) (amp : Byte) (s : State), 2 ≤ s.dev.rx ↑n ∧ s.dev.rx ↑n ≤ 4 ∧
      4 * max 1 (s.dev.lget F.LRX_LOCK_CFG_ACQ_LIMIT ↑n) ≤ s.dev.get F.X_LRX_ACQ ↑n ∧ s.dev.get F.LRX_STATUS_SIGNAL ↑n = 1) ∧
    (∃ (n : Fin 64) (amp : Byte) (s : State), 2 ≤ s.dev.rx ↑n ∧ s.dev.rx ↑n ≤ 4 ∧
      4 * max 1 (s.dev.lget F.LRX_LOCK_CFG_ACQ_LIMIT ↑n) ≤ s.dev.get F.X_LRX_ACQ ↑n ∧ s.dev.get F.LRX_STATUS_SIGNAL ↑n = 0 ∧
      s.dev.looped ↑n = false) ∧
    (∃ (n : Fin 64) (amp : Byte) (s : State), 2 ≤ s.dev.rx ↑n ∧ s.dev.rx ↑n ≤ 4 ∧
      4 * max 1 (s.dev.lget F.LRX_LOCK_CFG_ACQ_LIMIT ↑n) ≤ s.dev.get F.X_LRX_ACQ ↑n ∧ s.dev.lget F.LRX_FFE_CTRL_SEED_SRC ↑n = 2) ∧
    (∃ (n : Fin 64) (s : State), s.dev.get F.X_LRX_REACQ ↑n ≠ 1) :=
  ⟨⟨63, 100, ⟨{ devWith [(.LRX_STATUS_STATE, 63, rxWAIT), (.PWR_D_STATUS_STATE, (domRx 63), pwON)] with clk := 10 ^ 15 }, []⟩, by decide,
      by decide, by decide, by decide, by decide⟩,
    ⟨63, 0, ⟨Dev.reset, []⟩, by decide⟩,
    ⟨63, 75, ⟨Dev.reset, []⟩, by decide⟩,
    ⟨63, 0,
      ⟨{ devWith [(.PWR_D_STATUS_STATE, (domRx 63), pwON), (.LRX_STATUS_SIGNAL, 63, 1), (.LRX_STATUS_STATE, 63, rxLOCKED)] with clk := 10 ^ 15 },
      []⟩, by decide, by decide, by decide, by decide, by decide, by decide, by decide, by decide, by decide⟩,
    ⟨63, 0, ⟨devWith [(.LRX_STATUS_STATE, 63, rxLOCKED)], []⟩, by decide⟩,
    ⟨63, 0, ⟨Dev.reset, []⟩, by decide⟩,
    ⟨63, 0, ⟨devWith [(.LRX_STATUS_STATE, 63, rxEQUALISE), (.X_LRX_ACQ, 63, 2 ^ 20), (.LRX_STATUS_SIGNAL, 63, 1)], []⟩, by decide,
      by decide, by decide, by decide⟩,
    ⟨63, 0, ⟨devWith [(.LRX_STATUS_STATE, 63, rxEQUALISE), (.X_LRX_ACQ, 63, 2 ^ 20)], []⟩, by decide, by decide, by decide, by decide,
      by decide⟩,
    ⟨63, 0, ⟨devLive [(.LRX_STATUS_STATE, 63, rxEQUALISE), (.X_LRX_ACQ, 63, 2 ^ 20)] [(.LRX_FFE_CTRL_SEED_SRC, 63, 2)], []⟩, by decide,
      by decide, by decide, by decide⟩,
    ⟨63, ⟨Dev.reset, []⟩, by decide⟩⟩

theorem witness_ShadowSampler :
    (∃ (n : Fin 64) (s : State), s.dev.get F.LRX_SHADOW_STATUS_HOLDER ↑n ≤ 1) ∧
    (∃ (n : Fin 64) (s : State), 1 < s.dev.get F.LRX_SHADOW_STATUS_HOLDER ↑n) ∧
    (∃ (n : Fin 64) (s : State), s.dev.get F.LRX_SHADOW_STATUS_HOLDER ↑n = 1) ∧
    (∃ (n : Fin 64) (s : State), s.dev.get F.LRX_SHADOW_STATUS_GRANTED ↑n = 1) ∧
    (∃ (n : Fin 64) (s : State) (hits : Word), s.dev.get F.LRX_SHADOW_STATUS_BUSY ↑n = 1 ∧ (∀ t < 8, s.dev.tapRuns t = false) ∧
      s.dev.get F.X_LRX_SH_CLK ↑n + s.dev.shadowSpan ↑n ≤ s.dev.clk) ∧
    (∃ (n : Fin 64) (s : State) (on : Bool) (p : BitVec 3), (s.dev.get F.LRX_CHK_CTRL_ENABLE ↑n ≠ b2n on ∨
      s.dev.get F.LRX_CHK_CTRL_PATTERN ↑n ≠ p.toNat) ∧ s.dev.get F.LRX_CHK_STATUS_LOCKED ↑n = 1) ∧
    (∃ (n : Fin 64) (s : State) (on : Bool) (p : BitVec 3), s.dev.get F.LRX_CHK_CTRL_ENABLE ↑n = b2n on ∧
      s.dev.get F.LRX_CHK_CTRL_PATTERN ↑n = p.toNat) ∧
    (∃ (n : Fin 64) (s : State) (p : ℕ) (a : ℕ) (words : List ℕ), p ≤ 3) ∧
    (∃ (n : Fin 64) (s : State) (levels : List (Fin 4)), s.dev.get F.LRX_CHK_CTRL_ENABLE ↑n = 1 ∧ s.dev.get F.LRX_CHK_CTRL_PATTERN ↑n ≤ 3 ∧
      s.dev.get F.LRX_CHK_STATUS_LOCKED ↑n ≠ 1 ∧
      checkerFinds (s.dev.get F.LRX_CHK_CTRL_PATTERN ↑n) (s.dev.patWords ↑n) (List.map (fun a ↦ ↑a) levels) = true) ∧
    (∃ (n : Fin 64) (s : State) (errors : List (Fin 3)), errors.length = 2048 ∧ (List.map (fun x ↦ ↑x) errors).sum < 128) ∧
    (∃ (n : Fin 64) (s : State) (errors : List (Fin 3)), errors.length = 2048 ∧ 128 ≤ (List.map (fun x ↦ ↑x) errors).sum ∧
      s.dev.get F.LRX_CHK_STATUS_LOCKED ↑n = 1) :=
  ⟨⟨63, ⟨Dev.reset, []⟩, by decide⟩,
    ⟨63, ⟨devWith [(.LRX_SHADOW_STATUS_HOLDER, 63, 2)], []⟩, by decide⟩,
    ⟨63, ⟨devWith [(.LRX_SHADOW_STATUS_HOLDER, 63, 1)], []⟩, by decide⟩,
    ⟨63, ⟨devWith [(.LRX_SHADOW_STATUS_GRANTED, 63, 1)], []⟩, by decide⟩,
    ⟨63, ⟨{ devWith [(.LRX_SHADOW_STATUS_BUSY, 63, 1)] with clk := 10 ^ 15 }, []⟩, 0, by decide, by decide, by decide⟩,
    ⟨63, ⟨devWith [(.LRX_CHK_STATUS_LOCKED, 63, 1)], []⟩, true, 0, by decide, by decide⟩,
    ⟨63, ⟨devWith [(.LRX_CHK_CTRL_ENABLE, 63, 1), (.LRX_CHK_CTRL_PATTERN, 63, 7)], []⟩, true, 7, by decide, by decide⟩,
    ⟨63, ⟨Dev.reset, []⟩, 0, 0, [], by decide⟩,
    ⟨63, ⟨devWith [(.LRX_CHK_CTRL_ENABLE, 63, 1), (.LRX_CHK_CTRL_PATTERN, 63, 3)], []⟩, List.replicate 1088 0, by decide, by decide,
      by decide, by decide +kernel⟩,
    ⟨63, ⟨Dev.reset, []⟩, List.replicate 127 1 ++ List.replicate 1921 0, by decide +kernel, by decide +kernel⟩,
    ⟨63, ⟨devWith [(.LRX_CHK_STATUS_LOCKED, 63, 1)], []⟩, List.replicate 64 2 ++ List.replicate 1984 0, by decide +kernel,
      by decide +kernel, by decide⟩⟩

theorem witness_TransmitSources :
    (∃ (n : Fin 64) (s : State), ∃ m ∈ s.dev.groupLanes ↑n, s.dev.txSource m = 2 ∧ s.dev.get F.LTX_STATUS_SOURCE m ≠ 2) ∧
    (∃ (n : Fin 64) (s : State), ∃ m ∈ s.dev.groupLanes ↑n, s.dev.get F.X_LTX_PAT_RESTART m = 1) ∧
    (∃ (n : Fin 64) (s : State), ∃ m ∈ s.dev.groupLanes ↑n, s.dev.get F.LTX_STATUS_SOURCE m = 3 ∧ s.dev.timingGone m = true) ∧
    (∃ (n : Fin 64) (s : State), s.dev.get F.SPR_CFG_WIDTH (engineOf ↑n) ≤ 3 ∧ (∃ m ∈ s.dev.groupLanes ↑n,
      s.dev.get F.LTX_STATUS_SOURCE m = 3) ∧ ((s.dev.loopOf (s.dev.groupOf ↑n)).length = 0 ∨
      (s.dev.loopOf (s.dev.groupOf ↑n)).length = 4) ∧ (s.dev.loopOf (s.dev.groupOf ↑n)).length = 4) ∧
    (∃ (n : Fin 64) (s : State), s.dev.get F.SPR_CFG_WIDTH (engineOf ↑n) ≤ 3 ∧ (∃ m ∈ s.dev.groupLanes ↑n,
      s.dev.get F.LTX_STATUS_SOURCE m = 3) ∧ ((s.dev.loopOf (s.dev.groupOf ↑n)).length = 0 ∨
      (s.dev.loopOf (s.dev.groupOf ↑n)).length = 4) ∧ s.dev.loopOf (s.dev.groupOf ↑n) = []) ∧
    (∃ (n : Fin 64) (s : State), s.dev.get F.SPR_CFG_WIDTH (engineOf ↑n) ≤ 3 ∧ (∃ m ∈ s.dev.groupLanes ↑n,
      s.dev.get F.LTX_STATUS_SOURCE m = 3) ∧ ((s.dev.loopOf (s.dev.groupOf ↑n)).length = 0 ∨
      (s.dev.loopOf (s.dev.groupOf ↑n)).length = 4) ∧ ∃ (h : ℕ), h ≠ s.dev.groupOf ↑n) ∧
    (∃ (n : Fin 64) (s : State), s.dev.get F.SPR_CFG_WIDTH (engineOf ↑n) ≤ 3 ∧ (∃ m ∈ s.dev.groupLanes ↑n,
      s.dev.get F.LTX_STATUS_SOURCE m = 3) ∧ ((s.dev.loopOf (s.dev.groupOf ↑n)).length = 0 ∨
      (s.dev.loopOf (s.dev.groupOf ↑n)).length = 4) ∧ ∃ m ∈ s.dev.groupLanes ↑n, s.dev.get F.LTX_STATUS_SOURCE m = 3) ∧
    (∃ (n : Fin 64) (s : State), hasImmediate (s.dev.causes ↑n) = true ∧ s.dev.tx ↑n = txON) ∧
    (∃ (n : Fin 64) (s : State), hasImmediate (s.dev.causes ↑n) = false) ∧
    (∃ (n : Fin 64) (s : State), ∃ m ∈ s.dev.groupLanes ↑n, s.dev.tx m = txSQUELCH ∧ s.dev.causes m = 0 ∧ s.dev.lget F.LTX_CTRL_RAMP m = 0) ∧
    (∃ (n : Fin 64) (s : State), ∃ m ∈ s.dev.groupLanes ↑n, s.dev.tx m = txSQUELCH ∧ s.dev.causes m = 0 ∧ s.dev.lget F.LTX_CTRL_RAMP m ≠ 0) ∧
    (∃ (n : Fin 64) (s : State), ∃ m ∈ s.dev.groupLanes ↑n, s.dev.tx m = txON ∧ hasRamped (s.dev.causes m) = true ∧
      hasImmediate (s.dev.causes m) = false ∧ s.dev.lget F.LTX_CTRL_RAMP m = 0) ∧
    (∃ (n : Fin 64) (s : State), ∃ m ∈ s.dev.groupLanes ↑n, s.dev.tx m = txON ∧ hasRamped (s.dev.causes m) = true ∧
      hasImmediate (s.dev.causes m) = false ∧ s.dev.lget F.LTX_CTRL_RAMP m ≠ 0) ∧
    (∃ (n : Fin 64) (s : State), s.dev.tx ↑n = txRAMP_UP ∧ s.dev.rampEnd ↑n ≤ s.dev.clk) ∧
    (∃ (n : Fin 64) (s : State), s.dev.tx ↑n = txRAMP_DOWN ∧ s.dev.rampEnd ↑n ≤ s.dev.clk) ∧
    (∃ (n : Fin 64) (s : State) (e : Fin 8), s.dev.get F.X_LTX_START ↑e = 1) :=
  ⟨⟨63, ⟨devLive [] [(.LTX_CTRL_SOURCE, 63, 2)], []⟩, 63, by decide, by decide, by decide⟩,
    ⟨63, ⟨devWith [(.X_LTX_PAT_RESTART, 63, 1)], []⟩, 63, by decide, by decide⟩,
    ⟨63, ⟨devWith [(.LTX_STATUS_SOURCE, 63, 3)], []⟩, 63, by decide, by decide, by decide⟩,
    ⟨63, ⟨{ devWith [(.LTX_STATUS_SOURCE, 63, 3)] with loops := List.replicate 4 ⟨63, []⟩ }, []⟩, by decide, by decide, by decide,
      by decide⟩,
    ⟨63, ⟨{ devWith [(.LTX_STATUS_SOURCE, 63, 3)] with loops := [] }, []⟩, by decide, by decide, by decide, by decide⟩,
    ⟨63, ⟨{ devWith [(.LTX_STATUS_SOURCE, 63, 3)] with loops := [] }, []⟩, by decide, by decide, by decide, 0, by decide⟩,
    ⟨63, ⟨{ devWith [(.LTX_STATUS_SOURCE, 63, 3)] with loops := [] }, []⟩, by decide, by decide, by decide, 63, by decide, by decide⟩,
    ⟨63, ⟨devWith [(.LTX_STATUS_OUTPUT, 63, txON)], []⟩, by decide, by decide⟩,
    ⟨63, ⟨devLive [(.SPR_CFG_MODE, 7, 1), (.BIAS_T_TIMER_VBIAS_OK, 3, 1)] [(.LTX_CTRL_AUTO_SQ, 63, 0)], []⟩, by decide⟩,
    ⟨63,
      ⟨devLive [(.SPR_CFG_MODE, 7, 1), (.BIAS_T_TIMER_VBIAS_OK, 3, 1), (.LTX_STATUS_OUTPUT, 63, txSQUELCH)] [(.LTX_CTRL_SQUELCH, 63, 0), (.LTX_CTRL_AUTO_SQ, 63, 0), (.LTX_CTRL_RAMP, 63, 0)],
      []⟩, 63, by decide, by decide, by decide, by decide⟩,
    ⟨63,
      ⟨devLive [(.SPR_CFG_MODE, 7, 1), (.BIAS_T_TIMER_VBIAS_OK, 3, 1), (.LTX_STATUS_OUTPUT, 63, txSQUELCH)] [(.LTX_CTRL_SQUELCH, 63, 0), (.LTX_CTRL_AUTO_SQ, 63, 0), (.LTX_CTRL_RAMP, 63, 3)],
      []⟩, 63, by decide, by decide, by decide, by decide⟩,
    ⟨63,
      ⟨devLive [(.SPR_CFG_MODE, 7, 1), (.BIAS_T_TIMER_VBIAS_OK, 3, 1), (.LTX_STATUS_OUTPUT, 63, txON)] [(.LTX_CTRL_SQUELCH, 63, 1), (.LTX_CTRL_AUTO_SQ, 63, 0), (.LTX_CTRL_RAMP, 63, 0)],
      []⟩, 63, by decide, by decide, by decide, by decide, by decide⟩,
    ⟨63,
      ⟨devLive [(.SPR_CFG_MODE, 7, 1), (.BIAS_T_TIMER_VBIAS_OK, 3, 1), (.LTX_STATUS_OUTPUT, 63, txON)] [(.LTX_CTRL_SQUELCH, 63, 1), (.LTX_CTRL_AUTO_SQ, 63, 0), (.LTX_CTRL_RAMP, 63, 3)],
      []⟩, 63, by decide, by decide, by decide, by decide, by decide⟩,
    ⟨63, ⟨{ devWith [(.LTX_STATUS_OUTPUT, 63, txRAMP_UP)] with clk := 10 ^ 15 }, []⟩, by decide, by decide⟩,
    ⟨63, ⟨{ devWith [(.LTX_STATUS_OUTPUT, 63, txRAMP_DOWN)] with clk := 10 ^ 15 }, []⟩, by decide, by decide⟩,
    ⟨63, ⟨devWith [(.X_LTX_START, 7, 1)], []⟩, 7, by decide⟩⟩

theorem witness_AnchorsFound :
    (∃ (n : Fin 64) (words : List (Bool × List Bool)) (start : Word) (s : State), s.dev.anchoredLanes (s.dev.groupOf ↑n) = []) ∧
    (∃ (n : Fin 64) (words : List (Bool × List Bool)) (start : Word) (s : State), s.dev.get F.SPR_CFG_WIDTH (engineOf ↑n) ≤ 3 ∧
      ∃ (m : ℕ) (l : List ℕ), s.dev.anchoredLanes (s.dev.groupOf ↑n) = m :: l) ∧
    (∃ (n : Fin 64) (words : List (Bool × List Bool)) (start : Word) (s : State), ∀ (h : ℕ), h = s.dev.local_ ↑n ∨
      h < s.dev.width (engineOf ↑n) → ¬(fun h ↦ 3 ≤ (List.filter (fun x ↦ x.1 && syndrome x.2 == 192 + h) (List.take 8 words)).length) h) ∧
    (∃ (n : Fin 64) (words : List (Bool × List Bool)) (start : Word) (s : State), s.dev.rxLocked ↑n = true ∧
      s.dev.groupExists (s.dev.groupOf ↑n) = true ∧ s.dev.anchored ↑n = false ∧ s.dev.sg (s.dev.groupOf ↑n) = sgHUNT ∧
      s.dev.get F.X_SPR_WAIT (s.dev.groupOf ↑n) ≠ 1 ∧ ∃ h < s.dev.width (engineOf ↑n),
      (fun h ↦ 3 ≤ (List.filter (fun x ↦ x.1 && syndrome x.2 == 192 + h) (List.take 8 words)).length) h ∧
      ¬(fun h ↦ 3 ≤ (List.filter (fun x ↦ x.1 && syndrome x.2 == 192 + h) (List.take 8 words)).length) (s.dev.local_ ↑n) ∧ ∀ k < h,
      ¬(fun h ↦ 3 ≤ (List.filter (fun x ↦ x.1 && syndrome x.2 == 192 + h) (List.take 8 words)).length) k) ∧
    (∃ (n : Fin 64) (words : List (Bool × List Bool)) (start : Word) (s : State), s.dev.rxLocked ↑n = true ∧
      s.dev.groupExists (s.dev.groupOf ↑n) = true ∧ s.dev.anchored ↑n = false ∧ s.dev.sg (s.dev.groupOf ↑n) = sgHUNT ∧
      s.dev.get F.X_SPR_WAIT (s.dev.groupOf ↑n) ≠ 1 ∧
      (fun h ↦ 3 ≤ (List.filter (fun x ↦ x.1 && syndrome x.2 == 192 + h) (List.take 8 words)).length) (s.dev.local_ ↑n) ∧
      (s.found.takeAnchor (↑n) (s.dev.resolveStart (↑n) (sx 32 (BitVec.toNat start)))).skew (s.dev.groupOf ↑n) ≤ 256 ∧
      ∃ m ∈ (s.found.takeAnchor (↑n) (s.dev.resolveStart (↑n) (sx 32 (BitVec.toNat start)))).lanesOfGroup (s.dev.groupOf ↑n),
      (s.found.takeAnchor (↑n) (s.dev.resolveStart (↑n) (sx 32 (BitVec.toNat start)))).anchored m = false) ∧
    (∃ (n : Fin 64) (words : List (Bool × List Bool)) (start : Word) (s : State), s.dev.rxLocked ↑n = true ∧
      s.dev.groupExists (s.dev.groupOf ↑n) = true ∧ s.dev.anchored ↑n = false ∧ s.dev.sg (s.dev.groupOf ↑n) = sgHUNT ∧
      s.dev.get F.X_SPR_WAIT (s.dev.groupOf ↑n) ≠ 1 ∧
      (fun h ↦ 3 ≤ (List.filter (fun x ↦ x.1 && syndrome x.2 == 192 + h) (List.take 8 words)).length) (s.dev.local_ ↑n) ∧
      (s.found.takeAnchor (↑n) (s.dev.resolveStart (↑n) (sx 32 (BitVec.toNat start)))).skew (s.dev.groupOf ↑n) ≤ 256 ∧
      ∀ m ∈ (s.found.takeAnchor (↑n) (s.dev.resolveStart (↑n) (sx 32 (BitVec.toNat start)))).lanesOfGroup (s.dev.groupOf ↑n),
      (s.found.takeAnchor (↑n) (s.dev.resolveStart (↑n) (sx 32 (BitVec.toNat start)))).anchored m = true) ∧
    (∃ (n : Fin 64) (words : List (Bool × List Bool)) (start : Word) (s : State), s.dev.rxLocked ↑n = true ∧
      s.dev.groupExists (s.dev.groupOf ↑n) = true ∧ s.dev.anchored ↑n = false ∧ s.dev.sg (s.dev.groupOf ↑n) = sgHUNT ∧
      s.dev.get F.X_SPR_WAIT (s.dev.groupOf ↑n) ≠ 1 ∧
      (fun h ↦ 3 ≤ (List.filter (fun x ↦ x.1 && syndrome x.2 == 192 + h) (List.take 8 words)).length) (s.dev.local_ ↑n) ∧
      256 < (s.found.takeAnchor (↑n) (s.dev.resolveStart (↑n) (sx 32 (BitVec.toNat start)))).skew (s.dev.groupOf ↑n)) ∧
    (∃ (n : Fin 64) (words : List (Bool × List Bool)) (start : Word) (s : State), s.dev.rxLocked ↑n = true ∧
      s.dev.groupExists (s.dev.groupOf ↑n) = true ∧ s.dev.anchored ↑n = false ∧ s.dev.sg (s.dev.groupOf ↑n) = sgLOCKED ∧
      (fun h ↦ 3 ≤ (List.filter (fun x ↦ x.1 && syndrome x.2 == 192 + h) (List.take 8 words)).length) (s.dev.local_ ↑n) ∧
      (s.dev.resolveStart (↑n) (sx 32 (BitVec.toNat start)) - s.dev.frameStart ↑n).natAbs ≤ 128) ∧
    (∃ (g : Fin 64) (letters : List (List (Fin 16))) (time : DWord) (s : State), s.dev.sg ↑g = sgVERIFY ∧
      (List.filter (fun m ↦ anchorOf (s.dev.width (↑g / 8)) m == none && syndrome (wordBits (s.dev.width (↑g / 8)) m letters) == 0) (List.range 320)).length < 32) ∧
    (∃ (g : Fin 64) (letters : List (List (Fin 16))) (time : DWord) (s : State), s.dev.sg ↑g = sgVERIFY ∧
      32 ≤ (List.filter (fun m ↦ anchorOf (s.dev.width (↑g / 8)) m == none && syndrome (wordBits (s.dev.width (↑g / 8)) m letters) == 0) (List.range 320)).length ∧
      s.dev.get F.X_SPR_GOOD ↑g = 0) ∧
    (∃ (g : Fin 64) (letters : List (List (Fin 16))) (time : DWord) (s : State), s.dev.sg ↑g = sgVERIFY ∧
      32 ≤ (List.filter (fun m ↦ anchorOf (s.dev.width (↑g / 8)) m == none && syndrome (wordBits (s.dev.width (↑g / 8)) m letters) == 0) (List.range 320)).length ∧
      s.dev.get F.X_SPR_GOOD ↑g ≠ 0) ∧
    (∃ (g : Fin 64) (letters : List (List (Fin 16))) (time : DWord) (s : State), s.dev.sg ↑g = sgLOCKED ∧ ∃ (n : ℕ),
      n ∈ s.dev.lanesOfGroup ↑g) ∧
    (∃ (g : Fin 64) (letters : List (List (Fin 16))) (time : DWord) (s : State), s.dev.sg ↑g = sgLOCKED ∧ ∀ n ∈ s.dev.lanesOfGroup ↑g,
      s.dev.segValid n = true) ∧
    (∃ (g : Fin 64) (letters : List (List (Fin 16))) (time : DWord) (s : State), s.dev.sg ↑g = sgLOCKED ∧
      s.dev.get F.SPR_CFG_WIDTH (↑g / 8) ≤ 3 ∧ (↑g % 8 + 1) * s.dev.width (↑g / 8) ≤ 8 ∧ ∃ n ∈ s.dev.lanesOfGroup ↑g,
      s.dev.segValid n = true ∧
      (fun l ↦ syndrome (wordBits (s.dev.width (↑g / 8)) (320 * l / s.dev.width (↑g / 8)) letters) ≠ 192 + l) (s.dev.local_ n)) ∧
    (∃ (g : Fin 64) (letters : List (List (Fin 16))) (time : DWord) (s : State), s.dev.sg ↑g = sgLOCKED ∧
      s.dev.get F.SPR_CFG_WIDTH (↑g / 8) ≤ 3 ∧ (↑g % 8 + 1) * s.dev.width (↑g / 8) ≤ 8 ∧ ∃ n ∈ s.dev.lanesOfGroup ↑g,
      s.dev.rxLocked n = true ∧ s.dev.anchored n = false) ∧
    (∃ (g : Fin 64) (letters : List (List (Fin 16))) (time : DWord) (s : State), s.dev.sg ↑g = sgLOCKED ∧ s.dev.lockedStreams ↑g = [] ∧
      s.dev.get F.X_SPR_FIN ↑g = s.dev.get F.X_SPR_NO ↑g ∧ (∀ x ∈ s.dev.rxFrames, x.group ≠ ↑g) ∧ s.dev.get F.X_SPR_UNC ↑g = 1) ∧
    (∃ (g : Fin 64) (letters : List (List (Fin 16))) (time : DWord) (s : State), s.dev.sg ↑g = sgLOCKED ∧ s.dev.lockedStreams ↑g = [] ∧
      s.dev.get F.X_SPR_FIN ↑g = s.dev.get F.X_SPR_NO ↑g ∧ (∀ x ∈ s.dev.rxFrames, x.group ≠ ↑g) ∧ s.dev.get F.X_SPR_UNC ↑g ≠ 1 ∧ ∃ (l : ℕ),
      l < s.dev.width (↑g / 8)) ∧
    (∃ (g : Fin 64) (letters : List (List (Fin 16))) (time : DWord) (s : State), s.dev.sg ↑g = sgLOCKED ∧ s.dev.lockedStreams ↑g = [] ∧
      s.dev.get F.X_SPR_FIN ↑g = s.dev.get F.X_SPR_NO ↑g ∧ (∀ x ∈ s.dev.rxFrames, x.group ≠ ↑g) ∧ s.dev.get F.X_SPR_UNC ↑g ≠ 1 ∧ ∃ (n : ℕ),
      n ∈ s.dev.lanesOfGroup ↑g) ∧
    (∃ (g : Fin 64) (letters : List (List (Fin 16))) (time : DWord) (s : State), s.dev.sg ↑g = sgLOCKED ∧ 16 ≤ s.dev.get F.X_SPR_BAD ↑g) ∧
    (∃ (g : Fin 64) (letters : List (List (Fin 16))) (time : DWord) (s : State) (n : Fin 64), s.dev.sg (s.dev.groupOf ↑n) = sgLOCKED ∧
      s.dev.rxLocked ↑n = true ∧ s.dev.anchored ↑n = false ∧ 256 ≤ s.dev.get F.X_SPR_REJOIN ↑n) :=
  ⟨⟨63, [], 0, ⟨Dev.reset, []⟩, by decide⟩,
    ⟨63, [], 0,
      ⟨devWith [(.SPR_CFG_MODE, 7, 1), (.SPR_CFG_WIDTH, 7, 3), (.LRX_STATUS_STATE, 63, rxLOCKED), (.SPR_G_STATUS_ANCHOR, 56, 128)], []⟩,
      by decide, 63, [], by decide⟩,
    ⟨63, [], 0, ⟨Dev.reset, []⟩, by intro h _; simp⟩,
    ⟨63, (anchorWords 6), 0,
      ⟨devWith [(.SPR_CFG_MODE, 7, 1), (.SPR_CFG_WIDTH, 7, 3), (.LRX_STATUS_STATE, 63, rxLOCKED), (.SPR_G_STATUS_STATE, 56, sgHUNT)], []⟩,
      by decide, by decide, by decide, by decide, by decide, 6, by decide, by decide +kernel, by decide +kernel, by decide +kernel⟩,
    ⟨63, (anchorWords 7), 0,
      ⟨devWith [(.SPR_CFG_MODE, 7, 1), (.SPR_CFG_WIDTH, 7, 3), (.LRX_STATUS_STATE, 63, rxLOCKED), (.SPR_G_STATUS_STATE, 56, sgHUNT)], []⟩,
      by decide, by decide, by decide, by decide, by decide, by decide +kernel, by decide, by decide⟩,
    ⟨63, (anchorWords 0), 0, ⟨devWith [(.SPR_CFG_MODE, 7, 1), (.LRX_STATUS_STATE, 63, rxLOCKED), (.SPR_G_STATUS_STATE, 63, sgHUNT)], []⟩,
      by decide, by decide, by decide, by decide, by decide, by decide +kernel, by decide, by decide⟩,
    ⟨63, (anchorWords 7), 257,
      ⟨devWith [(.SPR_CFG_MODE, 7, 1), (.SPR_CFG_WIDTH, 7, 3), (.LRX_STATUS_STATE, 63, rxLOCKED), (.SPR_G_STATUS_STATE, 56, sgHUNT), (.SPR_G_STATUS_ANCHOR, 56, 127)],
      []⟩, by decide, by decide, by decide, by decide, by decide, by decide +kernel, by decide⟩,
    ⟨63, (anchorWords 7), 128,
      ⟨devWith [(.SPR_CFG_MODE, 7, 1), (.SPR_CFG_WIDTH, 7, 3), (.LRX_STATUS_STATE, 63, rxLOCKED), (.SPR_G_STATUS_STATE, 56, sgLOCKED)],
      []⟩, by decide, by decide, by decide, by decide, by decide +kernel, by decide⟩,
    ⟨63, oneLetters, 0, ⟨devWith [(.SPR_G_STATUS_STATE, 63, sgVERIFY)], []⟩, by decide, one_frame_bad⟩,
    ⟨63, [], 0, ⟨devWith [(.SPR_G_STATUS_STATE, 63, sgVERIFY), (.X_SPR_GOOD, 63, 0)], []⟩, by decide, zero_frame_good, by decide⟩,
    ⟨63, [], 0, ⟨devWith [(.SPR_G_STATUS_STATE, 63, sgVERIFY), (.X_SPR_GOOD, 63, 1)], []⟩, by decide, zero_frame_good, by decide⟩,
    ⟨63, [], 0, ⟨devWith [(.SPR_G_STATUS_STATE, 63, sgLOCKED)], []⟩, by decide, 63, by decide⟩,
    ⟨63, [], 0, ⟨devWith [(.SPR_G_STATUS_STATE, 63, sgLOCKED), (.LRX_STATUS_STATE, 63, rxLOCKED)], []⟩, by decide, by decide⟩,
    ⟨63, [], 0, ⟨devWith [(.SPR_G_STATUS_STATE, 63, sgLOCKED), (.LRX_STATUS_STATE, 63, rxLOCKED)], []⟩, by decide, by decide, by decide,
      63, by decide, by decide, by decide +kernel⟩,
    ⟨63, [], 0, ⟨devWith [(.SPR_G_STATUS_STATE, 63, sgLOCKED), (.LRX_STATUS_STATE, 63, rxLOCKED)], []⟩, by decide, by decide, by decide,
      63, by decide, by decide, by decide⟩,
    ⟨63, [], 0, ⟨devWith [(.SPR_G_STATUS_STATE, 63, sgLOCKED), (.X_SPR_UNC, 63, 1)], []⟩, by decide, by decide, by decide, by decide,
      by decide⟩,
    ⟨63, [], 0, ⟨devWith [(.SPR_G_STATUS_STATE, 63, sgLOCKED)], []⟩, by decide, by decide, by decide, by decide, by decide, 0, by decide⟩,
    ⟨63, [], 0, ⟨devWith [(.SPR_G_STATUS_STATE, 63, sgLOCKED)], []⟩, by decide, by decide, by decide, by decide, by decide, 63, by decide⟩,
    ⟨63, [], 0, ⟨devWith [(.SPR_G_STATUS_STATE, 63, sgLOCKED), (.X_SPR_BAD, 63, 16)], []⟩, by decide, by decide⟩,
    ⟨63, [], 0,
      ⟨devWith [(.SPR_CFG_MODE, 7, 1), (.SPR_CFG_WIDTH, 7, 3), (.LRX_STATUS_STATE, 63, rxLOCKED), (.SPR_G_STATUS_STATE, 56, sgLOCKED), (.X_SPR_REJOIN, 63, 256)],
      []⟩, 63, by decide, by decide, by decide, by decide⟩⟩

theorem witness_SpreadCommands :
    (∃ (s : State) (n : Fin 64) (courier : List (List Byte)), s.dev.framing (engineOf ↑n) = true ∧
      s.dev.get F.SPR_CFG_WIDTH (engineOf ↑n) ≤ 3 ∧ ∃ (m : ℕ), m ∈ s.dev.groupLanes ↑n) ∧
    (∃ (s : State) (n : Fin 64) (courier : List (List Byte)), s.dev.framing (engineOf ↑n) = true ∧
      s.dev.get F.SPR_CFG_WIDTH (engineOf ↑n) ≤ 3 ∧ ∃ m ∈ s.dev.groupLanes ↑n, s.dev.tx m ≠ txSQUELCH ∧
      s.dev.get F.LTX_STATUS_SOURCE m ≠ 2) ∧
    (∃ (s : State) (n : Fin 64) (courier : List (List Byte)), s.dev.framing (engineOf ↑n) = true ∧
      s.dev.get F.SPR_CFG_WIDTH (engineOf ↑n) ≤ 3 ∧ ∃ m ∈ s.dev.groupLanes ↑n, s.dev.tx m = txSQUELCH) ∧
    (∃ (s : State) (n : Fin 64) (phase : BitVec 16), s.dev.sg (s.dev.groupOf ↑n) = sgLOCKED ∧ s.dev.streamLocked ↑n = false) ∧
    (∃ (s : State) (n : Fin 64), s.dev.streamLocked ↑n = true ∧ ∀ x ∈ s.dev.rxFrames, x.group ≠ s.dev.groupOf ↑n) ∧
    (∃ (s : State) (e : Fin 8) (groups : Byte) (q : ℕ), s.dev.groupExists (8 * ↑e + q) = true) ∧
    (∃ (word : List ℕ) (erased : List ℕ) (syms : List ℕ), erased.length ≤ 30 ∧ rsDecode word erased = some syms ∧ ∃ (x : ℕ),
      x ∈ rsSyndromes syms) ∧
    (∃ (n : Fin 64) (s : State), s.dev.sg (s.dev.groupOf ↑n) = sgLOCKED ∧ s.dev.rsFirst (s.dev.groupOf ↑n) = some ↑n ∧
      s.dev.rsEnd ↑n ≤ s.dev.get F.X_SPR_NO (s.dev.groupOf ↑n) * (40960 / s.dev.width (engineOf ↑n)) ∧ ∃ (c : List ℕ),
      rsDecode (s.dev.rsSymbols (↑n) (s.dev.rsNow ↑n) []) [] = some c) ∧
    (∃ (n : Fin 64) (s : State), s.dev.sg (s.dev.groupOf ↑n) = sgLOCKED ∧ s.dev.rsFirst (s.dev.groupOf ↑n) = some ↑n ∧
      s.dev.rsEnd ↑n ≤ s.dev.get F.X_SPR_NO (s.dev.groupOf ↑n) * (40960 / s.dev.width (engineOf ↑n)) ∧ s.dev.usable (s.dev.groupOf ↑n) ≤ 1) ∧
    (∃ (n : Fin 64) (s : State), s.dev.sg (s.dev.groupOf ↑n) = sgLOCKED ∧ s.dev.rsFirst (s.dev.groupOf ↑n) = some ↑n ∧
      s.dev.rsEnd ↑n ≤ s.dev.get F.X_SPR_NO (s.dev.groupOf ↑n) * (40960 / s.dev.width (engineOf ↑n)) ∧
      s.dev.get F.HOST_P_STATUS_TX_SRC ↑n = 0) :=
  ⟨⟨⟨devWith [(.SPR_CFG_MODE, 7, 1), (.SPR_CFG_WIDTH, 7, 3)], []⟩, 63, [], by decide, by decide, 56, by decide⟩,
    ⟨⟨devWith [(.SPR_CFG_MODE, 7, 1), (.SPR_CFG_WIDTH, 7, 3), (.LTX_STATUS_OUTPUT, 56, txON)], []⟩, 63, [], by decide, by decide, 56,
      by decide, by decide, by decide⟩,
    ⟨⟨devWith [(.SPR_CFG_MODE, 7, 1), (.SPR_CFG_WIDTH, 7, 3), (.LTX_STATUS_OUTPUT, 56, txSQUELCH)], []⟩, 63, [], by decide, by decide, 56,
      by decide, by decide⟩,
    ⟨⟨devWith [(.SPR_CFG_MODE, 7, 1), (.SPR_CFG_WIDTH, 7, 3), (.SPR_G_STATUS_STATE, 56, sgLOCKED)], []⟩, 63, 0, by decide, by decide⟩,
    ⟨⟨devWith [(.SPR_CFG_MODE, 7, 1), (.SPR_CFG_WIDTH, 7, 3), (.SPR_G_STATUS_STREAM_LOCK, 56, 2 ^ 7)], []⟩, 63, by decide, by decide⟩,
    ⟨⟨devWith [(.SPR_CFG_MODE, 7, 1), (.SPR_CFG_WIDTH, 7, 3)], []⟩, 7, 1, 0, by decide⟩,
    ⟨List.replicate 544 0, [29], List.replicate 544 0, by decide, rsDecode_zero _, 0, by rw [rsSyndromes_zero]; decide⟩,
    ⟨63,
      ⟨devWith [(.SPR_CFG_MODE, 7, 2), (.SPR_CFG_WIDTH, 7, 3), (.SPR_G_STATUS_STATE, 56, sgLOCKED), (.SPR_G_STATUS_STREAM_LOCK, 56, 2 ^ 7), (.X_SPR_NO, 56, 2)],
      []⟩, by decide, by decide, by decide, List.replicate 544 0, by rw [rsSymbols_none _ rfl]; exact rsDecode_zero _⟩,
    ⟨63,
      ⟨devWith [(.SPR_CFG_MODE, 7, 2), (.SPR_CFG_WIDTH, 7, 3), (.SPR_G_STATUS_STATE, 56, sgLOCKED), (.SPR_G_STATUS_STREAM_LOCK, 56, 2 ^ 7), (.X_SPR_NO, 56, 2)],
      []⟩, by decide, by decide, by decide, by decide⟩,
    ⟨63,
      ⟨devWith [(.SPR_CFG_MODE, 7, 2), (.SPR_CFG_WIDTH, 7, 3), (.SPR_G_STATUS_STATE, 56, sgLOCKED), (.SPR_G_STATUS_STREAM_LOCK, 56, 2 ^ 7), (.X_SPR_NO, 56, 2)],
      []⟩, by decide, by decide, by decide, by decide⟩⟩

theorem witness_PoolCommands :
    (∃ (t : Fin 4) (s : State), s.dev.poolOn ↑t = true ∧ ∃ g ∈ s.dev.tileGroups ↑t, s.dev.sg g ≠ sgLOCKED) ∧
    (∃ (t : Fin 4) (s : State), s.dev.poolOn ↑t = true ∧ ∃ g ∈ s.dev.poolGroups ↑t, s.dev.lon F.POOL_G_CTRL_FORCE_EN g = true) ∧
    (∃ (t : Fin 4) (s : State), s.dev.poolOn ↑t = true ∧ ∃ g ∈ s.dev.poolGroups ↑t, s.dev.lon F.POOL_G_CTRL_FORCE_EN g = false) ∧
    (∃ (t : Fin 4) (s : State), s.dev.poolOn ↑t = false) :=
  ⟨⟨3, ⟨devWith [(.SPR_CFG_MODE, 7, 1), (.SPR_CFG_WIDTH, 7, 3), (.PWR_D_STATUS_STATE, domPool 3, pwON)], []⟩, by decide, 56, by decide,
      by decide⟩,
    ⟨3,
      ⟨devLive [(.SPR_CFG_MODE, 7, 1), (.SPR_CFG_WIDTH, 7, 3), (.PWR_D_STATUS_STATE, domPool 3, pwON), (.SPR_G_STATUS_STATE, 56, sgLOCKED)] [(.POOL_G_CTRL_FORCE_EN, 56, 1)],
      []⟩, by decide, 56, by decide, by decide⟩,
    ⟨3,
      ⟨devLive [(.SPR_CFG_MODE, 7, 1), (.SPR_CFG_WIDTH, 7, 3), (.PWR_D_STATUS_STATE, domPool 3, pwON), (.SPR_G_STATUS_STATE, 56, sgLOCKED)] [(.POOL_G_CTRL_FORCE_EN, 56, 0)],
      []⟩, by decide, 56, by decide, by decide⟩,
    ⟨3, ⟨devWith [(.PWR_D_STATUS_STATE, domPool 3, pwOFF)], []⟩, by decide⟩⟩

theorem witness_HostLaneStates :
    (∃ (h : Fin 128) (s : State), s.dev.get F.HOST_L_STATUS_ROLE ↑h = rolePort ∧ s.dev.hl ↑h = hlWAIT ∧
      s.dev.lon F.HOST_L_CTRL_C2M ↑h = false ∧ s.dev.lon F.HOST_L_CTRL_TRAIN ↑h = true) ∧
    (∃ (h : Fin 128) (s : State), s.dev.get F.HOST_L_STATUS_ROLE ↑h = rolePort ∧ s.dev.hl ↑h = hlWAIT ∧
      (s.dev.lon F.HOST_L_CTRL_C2M ↑h = true ∨ s.dev.lon F.HOST_L_CTRL_TRAIN ↑h = false)) ∧
    (∃ (h : Fin 128) (s : State), s.dev.get F.HOST_L_STATUS_ROLE ↑h ≠ rolePort ∨ s.dev.hl ↑h = hlOFF) ∧
    (∃ (h : Fin 128) (s : State), (s.dev.hl ↑h = hlADAPT ∨ s.dev.hl ↑h = hlREADY) ∧ s.dev.hl ↑h = hlREADY) ∧
    (∃ (h : Fin 128) (s : State), (s.dev.hl ↑h = hlADAPT ∨ s.dev.hl ↑h = hlREADY) ∧ ∃ (n : ℕ), s.dev.portOf ↑h = some n) ∧
    (∃ (h : Fin 128) (s : State) (preRx : Bool), s.dev.hl ↑h = hlTRAINING) ∧
    (∃ (h : Fin 128) (s : State), s.dev.hl ↑h = hlTRAINING ∧
      s.dev.get F.X_HOST_TRAIN_CLK ↑h + max 1 (s.dev.lget F.HOST_L_TRAIN_TIMEOUT ↑h) * ms ≤ s.dev.clk) ∧
    (∃ (h : Fin 128) (s : State), s.dev.get F.X_HOST_RETRAIN ↑h ≠ 1) ∧
    (∃ (h : Fin 128) (s : State), s.dev.get F.X_HOST_RETRAIN ↑h = 1) ∧
    (∃ (h : Fin 128) (s : State), s.dev.get F.HOST_L_STATUS_ROLE ↑h = roleCapture ∧ s.dev.hl ↑h ≠ hlREADY ∧
      s.dev.get F.X_COUT_CLK ↑h + 20 * us ≤ s.dev.clk) ∧
    (∃ (h : Fin 128) (s : State), s.dev.get F.X_COUT_END ↑h = 1 ∧ s.dev.get F.X_COUT_CLK ↑h + us ≤ s.dev.clk) ∧
    (∃ (h : Fin 128) (cm3 : BitVec 6) (cm2 : BitVec 6) (cm1 : BitVec 6) (cp1 : BitVec 6) (pre : Option Bool) (s : State),
      s.dev.hl ↑h = hlTRAINING) :=
  ⟨⟨127,
      ⟨devLive [(.HOST_L_STATUS_ROLE, 127, rolePort), (.HOST_L_STATUS_STATE, 127, hlWAIT)] [(.HOST_L_CTRL_C2M, 127, 0), (.HOST_L_CTRL_TRAIN, 127, 1)],
      []⟩, by decide, by decide, by decide⟩,
    ⟨127, ⟨devLive [(.HOST_L_STATUS_ROLE, 127, rolePort), (.HOST_L_STATUS_STATE, 127, hlWAIT)] [(.HOST_L_CTRL_C2M, 127, 1)], []⟩,
      by decide, by decide, by decide⟩,
    ⟨127, ⟨Dev.reset, []⟩, by decide⟩,
    ⟨127, ⟨devWith [(.HOST_L_STATUS_STATE, 127, hlADAPT), (.HOST_L_STATUS_STATE, 127, hlREADY)], []⟩, by decide, by decide⟩,
    ⟨127, ⟨devWith [(.HOST_L_STATUS_STATE, 127, hlADAPT), (.X_HOST_PORT, 127, 64)], []⟩, by decide, 63, by decide⟩,
    ⟨127, ⟨devWith [(.HOST_L_STATUS_STATE, 127, hlTRAINING)], []⟩, false, by decide⟩,
    ⟨127, ⟨{ devWith [(.HOST_L_STATUS_STATE, 127, hlTRAINING)] with clk := 10 ^ 15 }, []⟩, by decide, by decide⟩,
    ⟨127, ⟨Dev.reset, []⟩, by decide⟩,
    ⟨127, ⟨devWith [(.X_HOST_RETRAIN, 127, 1)], []⟩, by decide⟩,
    ⟨127, ⟨{ devWith [(.HOST_L_STATUS_ROLE, 127, roleCapture)] with clk := 10 ^ 15 }, []⟩, by decide, by decide, by decide⟩,
    ⟨127, ⟨{ devWith [(.X_COUT_END, 127, 1)] with clk := 10 ^ 15 }, []⟩, by decide, by decide⟩,
    ⟨127, 0, 0, 0, 0, none, ⟨devWith [(.HOST_L_STATUS_STATE, 127, hlTRAINING)], []⟩, by decide⟩⟩

theorem witness_HostPorts :
    (∃ (n : Fin 64) (s : State) (a : BitVec 16) (b : BitVec 16) (skew : BitVec 16), s.dev.hostLanes ↑n ≠ [] ∧ (∀ h ∈ s.dev.hostLanes ↑n,
      s.dev.hl h = hlREADY) ∧ s.dev.get F.X_HOST_AM_CLK ↑n + markerPeriods (s.dev.mode (engineOf ↑n)) ≤ s.dev.clk ∧ ∃ (ha : ℕ) (hb : ℕ),
      s.dev.hostLanes ↑n = [ha, hb] ∧ ha ≠ hb) ∧
    (∃ (n : Fin 64) (s : State) (a : BitVec 16) (b : BitVec 16) (skew : BitVec 16), s.dev.hostLanes ↑n ≠ [] ∧ (∀ h ∈ s.dev.hostLanes ↑n,
      s.dev.hl h = hlREADY) ∧ s.dev.get F.X_HOST_AM_CLK ↑n + markerPeriods (s.dev.mode (engineOf ↑n)) ≤ s.dev.clk ∧ ∃ (h : ℕ),
      s.dev.hostLanes ↑n = [h]) ∧
    (∃ (n : Fin 64) (s : State) (a : BitVec 16) (b : BitVec 16) (skew : BitVec 16), s.dev.hostLanes ↑n ≠ [] ∧ (∀ h ∈ s.dev.hostLanes ↑n,
      s.dev.hl h = hlREADY) ∧ s.dev.get F.X_HOST_AM_CLK ↑n + markerPeriods (s.dev.mode (engineOf ↑n)) ≤ s.dev.clk ∧
      (s.found.lockLanes (↑n) a.toNat b.toNat).get F.HOST_P_STATUS_LANES_LOCKED ↑n ≠ portLanes (s.dev.mode (engineOf ↑n))) ∧
    (∃ (n : Fin 64) (s : State) (a : BitVec 16) (b : BitVec 16) (skew : BitVec 16), s.dev.hostLanes ↑n ≠ [] ∧ (∀ h ∈ s.dev.hostLanes ↑n,
      s.dev.hl h = hlREADY) ∧ s.dev.get F.X_HOST_AM_CLK ↑n + markerPeriods (s.dev.mode (engineOf ↑n)) ≤ s.dev.clk ∧
      (s.found.lockLanes (↑n) a.toNat b.toNat).get F.HOST_P_STATUS_LANES_LOCKED ↑n = portLanes (s.dev.mode (engineOf ↑n)) ∧
      skew.toNat ≤ 180 ∧ s.dev.get F.HOST_P_STATUS_AM_LOCK ↑n ≠ 1) ∧
    (∃ (n : Fin 64) (s : State) (a : BitVec 16) (b : BitVec 16) (skew : BitVec 16), s.dev.hostLanes ↑n ≠ [] ∧ (∀ h ∈ s.dev.hostLanes ↑n,
      s.dev.hl h = hlREADY) ∧ s.dev.get F.X_HOST_AM_CLK ↑n + markerPeriods (s.dev.mode (engineOf ↑n)) ≤ s.dev.clk ∧
      (s.found.lockLanes (↑n) a.toNat b.toNat).get F.HOST_P_STATUS_LANES_LOCKED ↑n = portLanes (s.dev.mode (engineOf ↑n)) ∧
      180 < skew.toNat) ∧
    (∃ (n : Fin 64) (s : State) (lanes : BitVec 16) (skew : BitVec 16), s.dev.get F.HOST_P_STATUS_AM_LOCK ↑n = 1 ∧ skew.toNat ≤ 180 ∧
      ∃ (h : ℕ), h ∈ s.dev.hostLanes ↑n) ∧
    (∃ (n : Fin 64) (s : State) (lanes : BitVec 16) (skew : BitVec 16), s.dev.get F.HOST_P_STATUS_AM_LOCK ↑n = 1 ∧ 180 < skew.toNat) ∧
    (∃ (n : Fin 64) (s : State), s.dev.get F.HOST_P_STATUS_AM_LOCK ↑n = 1) ∧
    (∃ (n : Fin 64) (s : State), s.dev.get F.HOST_P_STATUS_AM_LOCK ↑n ≠ 1 ∧ ∃ (h : ℕ), h ∈ s.dev.hostLanes ↑n) ∧
    (∃ (n : Fin 64) (s : State) (word : List (BitVec 10)), s.dev.get F.HOST_P_STATUS_AM_LOCK ↑n = 1 ∧
      s.dev.get F.X_HOST_UNC_TICK (tileOf ↑n) ≠ 1) ∧
    (∃ (n : Fin 64) (s : State) (word : List (BitVec 10)), s.dev.get F.HOST_P_STATUS_AM_LOCK ↑n = 1 ∧
      s.dev.get F.HOST_P_STATUS_TX_SRC ↑n = 4 ∧ (s.dev.nearOf ↑n).length < 2) ∧
    (∃ (n : Fin 64) (s : State) (word : List (BitVec 10)), s.dev.get F.HOST_P_STATUS_AM_LOCK ↑n = 1 ∧
      s.dev.get F.HOST_P_STATUS_TX_SRC ↑n = 4 ∧ ∃ (x : RsWord) (l : List RsWord), s.dev.nearOf ↑n = x :: l) ∧
    (∃ (n : Fin 64) (s : State), s.dev.hostSource ↑n ≠ 4) ∧
    (∃ (n : Fin 64) (s : State), s.dev.get F.HOST_P_STATUS_TX_SRC ↑n = 4 ∧ ∃ (x : RsWord), s.dev.nearOf ↑n = [x]) ∧
    (∃ (n : Fin 64) (s : State), s.dev.get F.HOST_P_STATUS_TX_SRC ↑n = 4 ∧ ∃ (x : RsWord) (l : List RsWord), s.dev.nearOf ↑n = x :: l) :=
  ⟨⟨63,
      ⟨{ devWith [(.SPR_CFG_MODE, 7, 1), (.X_TOPO_A, 63, 126), (.X_TOPO_B, 63, 127), (.X_HOST_PORT, 126, 64), (.X_HOST_PORT, 127, 64), (.HOST_L_STATUS_STATE, 126, hlREADY), (.HOST_L_STATUS_STATE, 127, hlREADY)] with clk := 10 ^ 15 },
      []⟩, 0, 0, 0, by decide, by decide, by decide, 126, 127, by decide, by decide⟩,
    ⟨63,
      ⟨{ devWith [(.SPR_CFG_MODE, 7, 3), (.X_TOPO_A, 63, 126), (.X_TOPO_B, 63, 255), (.X_HOST_PORT, 126, 64), (.X_HOST_PORT, 127, 64), (.HOST_L_STATUS_STATE, 126, hlREADY), (.HOST_L_STATUS_STATE, 127, hlREADY)] with clk := 10 ^ 15 },
      []⟩, 0, 0, 0, by decide, by decide, by decide, 126, by decide⟩,
    ⟨63,
      ⟨{ devWith [(.SPR_CFG_MODE, 7, 1), (.X_TOPO_A, 63, 126), (.X_TOPO_B, 63, 127), (.X_HOST_PORT, 126, 64), (.X_HOST_PORT, 127, 64), (.HOST_L_STATUS_STATE, 126, hlREADY), (.HOST_L_STATUS_STATE, 127, hlREADY)] with clk := 10 ^ 15 },
      []⟩, 0xFF, 0xFEFF, 0, by decide, by decide, by decide, by decide⟩,
    ⟨63,
      ⟨{ devWith [(.SPR_CFG_MODE, 7, 1), (.X_TOPO_A, 63, 126), (.X_TOPO_B, 63, 127), (.X_HOST_PORT, 126, 64), (.X_HOST_PORT, 127, 64), (.HOST_L_STATUS_STATE, 126, hlREADY), (.HOST_L_STATUS_STATE, 127, hlREADY)] with clk := 10 ^ 15 },
      []⟩, 0xFF, 0xFF00, 180, by decide, by decide, by decide, by decide, by decide, by decide⟩,
    ⟨63,
      ⟨{ devWith [(.SPR_CFG_MODE, 7, 1), (.X_TOPO_A, 63, 126), (.X_TOPO_B, 63, 127), (.X_HOST_PORT, 126, 64), (.X_HOST_PORT, 127, 64), (.HOST_L_STATUS_STATE, 126, hlREADY), (.HOST_L_STATUS_STATE, 127, hlREADY)] with clk := 10 ^ 15 },
      []⟩, 0xFF, 0xFF00, 181, by decide, by decide, by decide, by decide, by decide⟩,
    ⟨63,
      ⟨devWith [(.SPR_CFG_MODE, 7, 1), (.X_TOPO_A, 63, 126), (.X_TOPO_B, 63, 127), (.X_HOST_PORT, 126, 64), (.X_HOST_PORT, 127, 64), (.HOST_L_STATUS_STATE, 126, hlREADY), (.HOST_L_STATUS_STATE, 127, hlREADY), (.HOST_P_STATUS_AM_LOCK, 63, 1)],
      []⟩, 0, 180, by decide, by decide, 127, by decide⟩,
    ⟨63, ⟨devWith [(.HOST_P_STATUS_AM_LOCK, 63, 1)], []⟩, 0, 181, by decide, by decide⟩,
    ⟨63, ⟨devWith [(.HOST_P_STATUS_AM_LOCK, 63, 1)], []⟩, by decide⟩,
    ⟨63,
      ⟨devWith [(.SPR_CFG_MODE, 7, 1), (.X_TOPO_A, 63, 126), (.X_TOPO_B, 63, 127), (.X_HOST_PORT, 126, 64), (.X_HOST_PORT, 127, 64), (.HOST_L_STATUS_STATE, 126, hlREADY), (.HOST_L_STATUS_STATE, 127, hlREADY)],
      []⟩, by decide, 127, by decide⟩,
    ⟨63, ⟨devWith [(.HOST_P_STATUS_AM_LOCK, 63, 1)], []⟩, [], by decide, by decide⟩,
    ⟨63, ⟨devWith [(.HOST_P_STATUS_AM_LOCK, 63, 1), (.HOST_P_STATUS_TX_SRC, 63, 4)], []⟩, [], by decide, by decide, by decide⟩,
    ⟨63, ⟨{ devWith [(.HOST_P_STATUS_AM_LOCK, 63, 1), (.HOST_P_STATUS_TX_SRC, 63, 4)] with near := [⟨63, 0, []⟩] }, []⟩, [], by decide,
      by decide, ⟨63, 0, []⟩, [], by decide⟩,
    ⟨63, ⟨Dev.reset, []⟩, by decide⟩,
    ⟨63, ⟨{ devWith [(.HOST_P_STATUS_TX_SRC, 63, 4)] with near := [⟨63, 0, []⟩] }, []⟩, by decide, ⟨63, 0, []⟩, by decide⟩,
    ⟨63, ⟨{ devWith [(.HOST_P_STATUS_TX_SRC, 63, 4)] with near := [⟨63, 0, []⟩] }, []⟩, by decide, ⟨63, 0, []⟩, [], by decide⟩⟩

theorem witness_CourierSubmission :
    (∃ (n : Fin 64) (s : State) (slot : BitVec 2) (rep : BitVec 2) (mode : BitVec 3) (id : BitVec 10) (len : BitVec 12),
      (s.dev.submitCheck (↑n) slot.toNat mode.toNat id.toNat len.toNat).1 = 0) ∧
    (∃ (n : Fin 64) (s : State) (slot : BitVec 2) (rep : BitVec 2) (mode : BitVec 3) (id : BitVec 10) (len : BitVec 12),
      (s.dev.submitCheck (↑n) slot.toNat mode.toNat id.toNat len.toNat).1 ≠ 0) ∧
    (∃ (n : Fin 64) (s : State) (slot : BitVec 2) (rep : BitVec 2) (mode : BitVec 3) (id : BitVec 10) (len : BitVec 12),
      bitAt (s.dev.get F.COUR_TX_SLOTS_BUSY ↑n) slot.toNat = true) ∧
    (∃ (n : Fin 64) (s : State) (slot : BitVec 2) (rep : BitVec 2) (mode : BitVec 3) (id : BitVec 10) (len : BitVec 12),
      bitAt (s.dev.get F.COUR_TX_SLOTS_BUSY ↑n) slot.toNat = false ∧ (len.toNat = 0 ∨ 2048 < len.toNat)) ∧
    (∃ (n : Fin 64) (s : State) (slot : BitVec 2) (rep : BitVec 2) (mode : BitVec 3) (id : BitVec 10) (len : BitVec 12),
      bitAt (s.dev.get F.COUR_TX_SLOTS_BUSY ↑n) slot.toNat = false ∧ 1 ≤ len.toNat ∧ len.toNat ≤ 2048 ∧ ∃ q ∈ s.dev.quar, q.lane = ↑n ∧
      q.id = id.toNat ∧ s.dev.clk < q.at_ + 100 * ms) ∧
    (∃ (n : Fin 64) (s : State) (id : BitVec 10), (∃ q ∈ s.dev.quar, q.lane = ↑n ∧ q.id = id.toNat) ∧ ∀ q ∈ s.dev.quar, q.lane = ↑n →
      q.id = id.toNat → q.at_ + 100 * ms ≤ s.dev.clk) ∧
    (∃ (n : Fin 64) (s : State), s.dev.get F.X_COUR_READY ↑n = 1 ∧ s.dev.get F.X_COUR_READY_CLK ↑n + 100 * ms ≤ s.dev.clk) :=
  ⟨⟨63, ⟨devLive [(.SPR_CFG_MODE, 7, 1), (.COUR_L_STATUS_QUARANTINE_ALL, 63, 0)] [(.COUR_L_CTRL_TX_EN, 63, 1)], []⟩, 0, 1, 4, 0, 1,
      by decide⟩,
    ⟨63, ⟨Dev.reset, []⟩, 0, 0, 0, 0, 0, by decide⟩,
    ⟨63, ⟨devWith [(.COUR_TX_SLOTS_BUSY, 63, 8)], []⟩, 3, 0, 0, 0, 0, by decide⟩,
    ⟨63, ⟨Dev.reset, []⟩, 0, 0, 0, 0, 0, by decide, by decide⟩,
    ⟨63, ⟨{ Dev.reset with quar := [⟨63, 5, 0, 0⟩] }, []⟩, 0, 0, 0, 5, 1, by decide, by decide, by decide, by decide⟩,
    ⟨63, ⟨{ Dev.reset with quar := [⟨63, 5, 0, 0⟩], clk := 100 * ms }, []⟩, 5, by decide, by decide⟩,
    ⟨63, ⟨{ devWith [(.X_COUR_READY, 63, 1)] with clk := 10 ^ 15 }, []⟩, by decide, by decide⟩⟩

theorem witness_CourierCopies :
    (∃ (n : Fin 64) (m : CourMsg) (s : State), s.dev.courReady ↑n = true ∧ s.dev.courFree ↑n = true ∧
      s.dev.get F.COUR_TX_SLOTS_KNOCK_PENDING ↑n ≠ 1 ∧ s.dev.courNext ↑n = some m ∧ s.dev.courSending ↑n = none) ∧
    (∃ (n : Fin 64) (m : CourMsg) (s : State), s.dev.courSending ↑n = some m ∧ m.start + symbols (copySymbols m) ≤ s.dev.clk ∧
      s.dev.clk < m.accepted + 50 * ms ∧ s.dev.lget F.COUR_L_CTRL_TX_EN ↑n ≠ 0 ∧ s.dev.mode (engineOf ↑n) ≠ 0) ∧
    (∃ (n : Fin 64) (m : CourMsg) (s : State) (slot : Fin 4), List.find? (fun x ↦ decide (x.lane = ↑n ∧
      x.slot = ↑slot)) s.dev.msgs = some m ∧ m.accepted + 50 * ms ≤ s.dev.clk ∧ m.sending = false ∧ m.copies = 0 ∧ s.dev.dlq.length < 64 ∧
      ∃ (x : DeadLetter), x ∈ s.dev.dlq) ∧
    (∃ (n : Fin 64) (m : CourMsg) (s : State) (slot : Fin 4), List.find? (fun x ↦ decide (x.lane = ↑n ∧
      x.slot = ↑slot)) s.dev.msgs = some m ∧ m.accepted + 50 * ms ≤ s.dev.clk ∧ m.sending = false ∧ m.copies = 0 ∧ 64 ≤ s.dev.dlq.length) ∧
    (∃ (n : Fin 64) (m : CourMsg) (s : State) (x : DeadLetter) (l : List DeadLetter), s.dev.dlq = x :: l) :=
  ⟨⟨63, ⟨63, 3, 5, 0, 1, 2, 1, 0, 0, 0, 0, false, []⟩,
      ⟨{ devLive [(.LTX_STATUS_OUTPUT, 63, txON)] [(.COUR_L_CTRL_TX_EN, 63, 1), (.COUR_L_CTRL_TX_HOLD, 63, 0)] with msgs := [⟨63, 3, 5, 0, 1, 2, 1, 0, 0, 0, 0, false, []⟩] },
      []⟩, by decide, by decide, by decide, by decide, by decide⟩,
    ⟨63, ⟨63, 3, 5, 0, 1, 2, 1, 0, 0, 0, 0, true, []⟩,
      ⟨{ devLive [(.SPR_CFG_MODE, 7, 1)] [(.COUR_L_CTRL_TX_EN, 63, 1)] with msgs := [⟨63, 3, 5, 0, 1, 2, 1, 0, 0, 0, 0, true, []⟩], clk := 10 * ms },
      []⟩, by decide, by decide, by decide, by decide, by decide⟩,
    ⟨63, ⟨63, 3, 5, 0, 1, 2, 1, 0, 0, 0, 0, false, []⟩,
      ⟨{ Dev.reset with msgs := [⟨63, 3, 5, 0, 1, 2, 1, 0, 0, 0, 0, false, []⟩], dlq := [⟨63, false, 1, 5, 0, 1, 2, 0, 0⟩], clk := 50 * ms },
      []⟩, 3, by decide, by decide, by decide, by decide, by decide, ⟨63, false, 1, 5, 0, 1, 2, 0, 0⟩, by decide⟩,
    ⟨63, ⟨63, 3, 5, 0, 1, 2, 1, 0, 0, 0, 0, false, []⟩,
      ⟨{ Dev.reset with msgs := [⟨63, 3, 5, 0, 1, 2, 1, 0, 0, 0, 0, false, []⟩], dlq := List.replicate 64 ⟨63, false, 1, 5, 0, 1, 2, 0, 0⟩, clk := 50 * ms },
      []⟩, 3, by decide, by decide, by decide, by decide, by decide⟩,
    ⟨63, ⟨63, 3, 5, 0, 1, 2, 1, 0, 0, 0, 0, false, []⟩, ⟨{ Dev.reset with dlq := [⟨63, false, 1, 5, 0, 1, 2, 0, 0⟩] }, []⟩, ⟨63, false, 1,
      5, 0, 1, 2, 0, 0⟩, [], by decide⟩⟩

theorem witness_CourierReception :
    (∃ (n : Fin 64) (s : State), ∃ code ∈ [1, 2, 3, 4], ∃ (bits : List Bool), bits.length = codeBits code) ∧
    (∃ (n : Fin 64) (s : State) (m1 : BitVec 9) (m2 : BitVec 9) (pwr : Byte) (p0 : List (ℤ × ℤ)) (p1 : List (ℤ × ℤ)),
      min m1.toNat m2.toNat < s.dev.lget F.COUR_CTRL_THRESH 0 ∨ s.dev.get F.COUR_L_STATUS_RX_STATE ↑n = crOFF) ∧
    (∃ (n : Fin 64) (s : State) (m1 : BitVec 9) (m2 : BitVec 9) (pwr : Byte) (p0 : List (ℤ × ℤ)) (p1 : List (ℤ × ℤ)),
      s.dev.lget F.COUR_CTRL_THRESH 0 ≤ min m1.toNat m2.toNat ∧ s.dev.get F.COUR_L_STATUS_RX_STATE ↑n ≠ crOFF ∧
      (s.dev.get F.COUR_L_STATUS_RX_STATE ↑n = crIDLE ∨ s.dev.get F.COUR_L_STATUS_RX_STATE ↑n = crHEADER)) ∧
    (∃ (n : Fin 64) (s : State) (m1 : BitVec 9) (m2 : BitVec 9) (pwr : Byte) (p0 : List (ℤ × ℤ)) (p1 : List (ℤ × ℤ)),
      s.dev.lget F.COUR_CTRL_THRESH 0 ≤ min m1.toNat m2.toNat ∧ s.dev.get F.COUR_L_STATUS_RX_STATE ↑n ≠ crOFF ∧
      s.dev.get F.COUR_L_STATUS_RX_STATE ↑n = crHEADER) ∧
    (∃ (n : Fin 64) (s : State) (m1 : BitVec 9) (m2 : BitVec 9) (pwr : Byte) (p0 : List (ℤ × ℤ)) (p1 : List (ℤ × ℤ)),
      s.dev.lget F.COUR_CTRL_THRESH 0 ≤ min m1.toNat m2.toNat ∧ s.dev.get F.COUR_L_STATUS_RX_STATE ↑n ≠ crOFF ∧
      s.dev.get F.COUR_L_STATUS_RX_STATE ↑n = crPAYLOAD ∧ s.dev.get F.X_COUR_RX_PWR ↑n + 40 ≤ BitVec.toNat pwr ∧
      s.dev.lget F.COUR_CTRL_PREEMPT 0 = 1) ∧
    (∃ (n : Fin 64) (s : State) (m1 : BitVec 9) (m2 : BitVec 9) (pwr : Byte) (p0 : List (ℤ × ℤ)) (p1 : List (ℤ × ℤ)),
      s.dev.lget F.COUR_CTRL_THRESH 0 ≤ min m1.toNat m2.toNat ∧ s.dev.get F.COUR_L_STATUS_RX_STATE ↑n ≠ crOFF ∧
      s.dev.get F.COUR_L_STATUS_RX_STATE ↑n = crPAYLOAD ∧ BitVec.toNat pwr < s.dev.get F.X_COUR_RX_PWR ↑n + 40) ∧
    (∃ (n : Fin 64) (s : State) (rx : List (List (ℤ × ℤ))), s.dev.get F.COUR_L_STATUS_RX_STATE ↑n = crHEADER ∧
      hcrcValid (s.dev.headerBits (↑n) rx) = false) ∧
    (∃ (n : Fin 64) (s : State) (rx : List (List (ℤ × ℤ))), s.dev.get F.COUR_L_STATUS_RX_STATE ↑n = crHEADER ∧
      hcrcValid (s.dev.headerBits (↑n) rx) = true ∧ s.dev.headerUsable (↑n) (s.dev.headerBits (↑n) rx) = false) ∧
    (∃ (n : Fin 64) (s : State) (rx : List (List (ℤ × ℤ))), s.dev.get F.COUR_L_STATUS_RX_STATE ↑n = crHEADER ∧
      hcrcValid (s.dev.headerBits (↑n) rx) = true ∧ s.dev.headerUsable (↑n) (s.dev.headerBits (↑n) rx) = true) ∧
    (∃ (n : Fin 64) (s : State) (rx : List (List (ℤ × ℤ))), s.dev.get F.COUR_L_STATUS_RX_STATE ↑n = crPAYLOAD ∧
      crc32 (leBytes 4 (s.dev.get F.X_COUR_RX_HEADER ↑n) ++ (streamBytes (bitsOf (s.dev.get F.X_COUR_RX_HEADER ↑n) 23 12) (s.dev.payloadDemod (↑n) rx).bits).1) ≠ (streamBytes (bitsOf (s.dev.get F.X_COUR_RX_HEADER ↑n) 23 12) (s.dev.payloadDemod (↑n) rx).bits).2) ∧
    (∃ (n : Fin 64) (s : State) (rx : List (List (ℤ × ℤ))), s.dev.get F.COUR_L_STATUS_RX_STATE ↑n = crPAYLOAD ∧
      crc32 (leBytes 4 (s.dev.get F.X_COUR_RX_HEADER ↑n) ++ (streamBytes (bitsOf (s.dev.get F.X_COUR_RX_HEADER ↑n) 23 12) (s.dev.payloadDemod (↑n) rx).bits).1) = (streamBytes (bitsOf (s.dev.get F.X_COUR_RX_HEADER ↑n) 23 12) (s.dev.payloadDemod (↑n) rx).bits).2 ∧
      s.dev.cmem.wf = true ∧ s.dev.rxSlots (↑n) false ≠ [] ∧ ∀ q ∈ s.dev.dupes, q.lane ≠ ↑n ∨
      q.id ≠ bitsOf (s.dev.get F.X_COUR_RX_HEADER ↑n) 9 0) :=
  ⟨⟨63, ⟨Dev.reset, []⟩, 4, by decide, [true, false, true, true, false, true], by decide⟩,
    ⟨63, ⟨Dev.reset, []⟩, 0, 0, 0, [], [], by decide⟩,
    ⟨63, ⟨devWith [(.COUR_L_STATUS_RX_STATE, 63, crIDLE)], []⟩, 0, 0, 0, [], [], by decide, by decide, by decide⟩,
    ⟨63, ⟨devWith [(.COUR_L_STATUS_RX_STATE, 63, crHEADER)], []⟩, 0, 0, 0, [], [], by decide, by decide, by decide⟩,
    ⟨63, ⟨devLive [(.COUR_L_STATUS_RX_STATE, 63, crPAYLOAD)] [(.COUR_CTRL_PREEMPT, 0, 1)], []⟩, 0, 0, 40, [], [], by decide, by decide,
      by decide, by decide, by decide⟩,
    ⟨63, ⟨devWith [(.COUR_L_STATUS_RX_STATE, 63, crPAYLOAD)], []⟩, 0, 0, 0, [], [], by decide, by decide, by decide, by decide⟩,
    ⟨63, ⟨devWith [(.COUR_L_STATUS_RX_STATE, 63, crHEADER)], []⟩, [], by decide, by decide⟩,
    ⟨63, ⟨{ devWith [(.COUR_L_STATUS_RX_STATE, 63, crHEADER)] with chans := [flatChan] }, []⟩, headerRx 148107652239360, by decide,
      by decide +kernel, by decide +kernel⟩,
    ⟨63, ⟨{ devWith [(.COUR_L_STATUS_RX_STATE, 63, crHEADER)] with chans := [flatChan] }, []⟩, headerRx 211724774936576, by decide,
      by decide +kernel, by decide +kernel⟩,
    ⟨63, ⟨devWith [(.COUR_L_STATUS_RX_STATE, 63, crPAYLOAD)], []⟩, [], by decide, by decide⟩,
    ⟨63, ⟨{ devWith [(.COUR_L_STATUS_RX_STATE, 63, crPAYLOAD), (.X_COUR_RX_HEADER, 63, 0x04001000)] with chans := [flatChan] }, []⟩,
      payloadRx 0x04001000 [0xA5], by decide, by decide +kernel, by decide, by decide, by decide⟩⟩

theorem witness_KnockAndStats :
    (∃ (n : Fin 64) (s : State) (b : BitVec 2), s.dev.get F.COUR_TX_SLOTS_KNOCK_PENDING ↑n ≠ 1) ∧
    (∃ (n : Fin 64) (s : State) (b : BitVec 2), s.dev.get F.COUR_TX_SLOTS_KNOCK_PENDING ↑n = 1) ∧
    (∃ (n : Fin 64) (s : State), s.dev.get F.COUR_TX_SLOTS_KNOCK_PENDING ↑n = 1 ∧ s.dev.courReady ↑n = true ∧ s.dev.courFree ↑n = true) ∧
    (∃ (n : Fin 64) (s : State), s.dev.get F.COUR_L_STATUS_TX_STATE ↑n = ctKNOCK ∧
      s.dev.get F.X_COUR_KNOCK_CLK ↑n + symbols (64 * s.dev.get F.X_COUR_BURSTS ↑n) ≤ s.dev.clk) ∧
    (∃ (n : Fin 64) (s : State), s.dev.get F.COUR_TX_SLOTS_KNOCK_PENDING ↑n = 1 ∧ s.dev.get F.COUR_L_STATUS_TX_STATE ↑n ≠ ctKNOCK ∧
      s.dev.get F.X_COUR_KNOCK_CLK ↑n + 50 * ms ≤ s.dev.clk) ∧
    (∃ (n : Fin 64) (s : State) (w1 : BitVec 63) (w2 : BitVec 63),
      s.dev.knockMatch (knockMatches w1.toNat) (knockMatches w2.toNat) = true ∧ s.dev.knockArmed ↑n = true) ∧
    (∃ (n : Fin 64) (s : State) (w1 : BitVec 63) (w2 : BitVec 63),
      s.dev.knockMatch (knockMatches w1.toNat) (knockMatches w2.toNat) = true ∧ s.dev.get F.COUR_L_STATUS_RX_STATE ↑n = crIDLE) :=
  ⟨⟨63, ⟨Dev.reset, []⟩, 0, by decide⟩,
    ⟨63, ⟨devWith [(.COUR_TX_SLOTS_KNOCK_PENDING, 63, 1)], []⟩, 0, by decide⟩,
    ⟨63,
      ⟨devLive [(.COUR_TX_SLOTS_KNOCK_PENDING, 63, 1), (.LTX_STATUS_OUTPUT, 63, txON)] [(.LTX_COUR_DEPTH, 63, 1), (.COUR_L_CTRL_TX_EN, 63, 1), (.COUR_L_CTRL_TX_HOLD, 63, 0)],
      []⟩, by decide, by decide, by decide⟩,
    ⟨63, ⟨{ devWith [(.COUR_L_STATUS_TX_STATE, 63, ctKNOCK)] with clk := 10 ^ 15 }, []⟩, by decide, by decide⟩,
    ⟨63, ⟨{ devWith [(.COUR_TX_SLOTS_KNOCK_PENDING, 63, 1)] with clk := 10 ^ 15 }, []⟩, by decide, by decide, by decide⟩,
    ⟨63, ⟨devLive [(.SPR_CFG_MODE, 7, 1), (.PWR_D_STATUS_STATE, domRx 63, 3)] [(.COUR_L_CTRL_KNOCK_EN, 63, 1)], []⟩, 0, 0, by decide,
      by decide⟩,
    ⟨63, ⟨devWith [(.COUR_L_STATUS_RX_STATE, 63, crIDLE)], []⟩, 0, 0, by decide, by decide⟩⟩

theorem witness_CaptureArms :
    (∃ (t : Fin 8) (s : State), s.dev.armRefusal ↑t ≠ 0) ∧
    (∃ (t : Fin 8) (s : State), s.dev.armRefusal ↑t = 0 ∧ ∀ k ∈ (s.dev.latchTap ↑t).tapDomains ↑t, s.dev.domOn k = true) ∧
    (∃ (t : Fin 8) (s : State), s.dev.armRefusal ↑t = 0 ∧ ∃ k ∈ (s.dev.latchTap ↑t).tapDomains ↑t, s.dev.domOn k = false) ∧
    (∃ (t : Fin 8) (s : State) (b : BlockIn), s.dev.tapRuns ↑t = true ∧ s.dev.tapStreams ↑t = true) ∧
    (∃ (t : Fin 8) (s : State) (b : BlockIn), s.dev.tapRuns ↑t = true ∧ s.dev.tapStreams ↑t = false) ∧
    (∃ (t : Fin 8) (s : State) (b : BlockIn), s.dev.tapState ↑t = ctWAKING) ∧
    (∃ (t : Fin 8) (s : State), s.dev.tapState ↑t ≠ ctIDLE ∧ ∃ (x : ℕ × List Byte), x ∈ s.dev.frames) :=
  ⟨⟨7, ⟨Dev.reset, []⟩, by decide⟩,
    ⟨7,
      ⟨devWith [(.SPR_CFG_MODE, 0, 1), (.X_REGION_IN, 3, 1), (.X_REGION_SIZE, 3, 1), (.CAP_T_BUF_SIZE_BLOCKS, 7, 16), (.PWR_D_STATUS_STATE, domRx 0, pwON), (.PWR_D_STATUS_STATE, domCapture, pwON), (.PWR_D_STATUS_STATE, domMem 0, pwON), (.PWR_D_STATUS_STATE, domMem 1, pwON), (.PWR_D_STATUS_STATE, domMem 2, pwON), (.PWR_D_STATUS_STATE, domMem 3, pwON)],
      []⟩, by decide, by decide⟩,
    ⟨7,
      ⟨devWith [(.SPR_CFG_MODE, 0, 1), (.X_REGION_IN, 3, 1), (.X_REGION_SIZE, 3, 1), (.CAP_T_BUF_SIZE_BLOCKS, 7, 16), (.PWR_D_STATUS_STATE, domCapture, pwFAILED)],
      []⟩, by decide, by decide⟩,
    ⟨7, ⟨devLive [(.CAP_T_STATUS_STATE, 7, ctSTREAMING)] [(.CAP_T_CTRL_MODE, 7, 2)], []⟩, emptyBlock, by decide, by decide⟩,
    ⟨7, ⟨devWith [(.CAP_T_STATUS_STATE, 7, ctFILLING)], []⟩, emptyBlock, by decide, by decide⟩,
    ⟨7, ⟨devWith [(.CAP_T_STATUS_STATE, 7, ctWAKING)], []⟩, emptyBlock, by decide⟩,
    ⟨7, ⟨{ devWith [(.CAP_T_STATUS_STATE, 7, ctDONE)] with frames := [(7, [])] }, []⟩, by decide, (7, []), by decide⟩⟩

theorem witness_CaptureBlocks :
    (∃ (t : Fin 8) (s : State) (b : BlockIn), s.dev.tapRuns ↑t = true ∧ s.dev.lon F.CAP_T_CTRL_MASK_EN ↑t = false ∧
      s.dev.bufferFull ↑t = false ∧ ¬(s.dev.tapStreams ↑t = false ∧ s.dev.tapState ↑t = ctPOST) ∧ s.dev.tapStreams ↑t = true) ∧
    (∃ (t : Fin 8) (s : State) (b : BlockIn), s.dev.tapRuns ↑t = true ∧ s.dev.lon F.CAP_T_CTRL_MASK_EN ↑t = false ∧
      s.dev.bufferFull ↑t = false ∧ ¬(s.dev.tapStreams ↑t = false ∧ s.dev.tapState ↑t = ctPOST) ∧ s.dev.tapStreams ↑t = false ∧
      s.dev.tapState ↑t = ctFILLING) ∧
    (∃ (t : Fin 8) (s : State) (b : BlockIn), s.dev.tapRuns ↑t = true ∧ s.dev.lon F.CAP_T_CTRL_MASK_EN ↑t = false ∧
      s.dev.bufferFull ↑t = true ∧ (s.dev.fill (↑t) 0 b).count ≠ 0) ∧
    (∃ (t : Fin 8) (s : State) (bad : Bool), (s.dev.tapState ↑t = ctSTREAMING ∨ s.dev.tapState ↑t = ctDRAINING) ∧
      0 < s.dev.get F.X_CAP_QUEUED ↑t ∧ s.dev.get F.X_CAP_END_WAIT ↑t = 0 ∧ s.dev.tapMode ↑t ≠ 2) ∧
    (∃ (t : Fin 8) (s : State) (bad : Bool), (s.dev.tapState ↑t = ctSTREAMING ∨ s.dev.tapState ↑t = ctDRAINING) ∧
      0 < s.dev.get F.X_CAP_QUEUED ↑t ∧ s.dev.get F.X_CAP_END_WAIT ↑t = 0 ∧ ∃ (x : Desc) (mps : ℕ), s.dev.tapMode ↑t = 2 ∧
      s.dev.captureReady (s.dev.lget F.CAP_T_DRAIN_QUEUE ↑t) = some ↑t ∧ s.dev.openDesc (s.dev.lget F.CAP_T_DRAIN_QUEUE ↑t) = some x ∧
      s.dev.lget F.CAP_T_DRAIN_QUEUE ↑t < 8 ∧ (∀ p < 8, p ≠ s.dev.lget F.CAP_T_DRAIN_QUEUE ↑t → s.dev.captureReady p = none) ∧ (∀ p < 16,
      8 ≤ p → s.dev.generalReady p = none) ∧ mps = s.dev.get F.X_PCIE_MPS 0 ∧ 0 < mps) ∧
    (∃ (t : Fin 8) (s : State) (cause : Fin 3) (k : ℕ) (time : DWord), s.dev.tapRuns ↑t = true ∧ (s.dev.tapStreams ↑t = true ∨
      ↑cause ≠ 2) ∧ k ≠ 0) ∧
    (∃ (t : Fin 8) (s : State), s.dev.hl (s.dev.get F.X_COUT_LANE (s.dev.coutFrom (↑t) (s.dev.get F.X_CAP_LANE ↑t))) = hlREADY ∧
      2 ≤ (List.map (fun x ↦ x.2) (List.filter (fun e ↦ e.1 == ↑t) s.dev.frames)).length) ∧
    (∃ (t : Fin 8) (s : State), s.dev.hl (s.dev.get F.X_COUT_LANE (s.dev.coutFrom (↑t) (s.dev.get F.X_CAP_LANE ↑t))) = hlREADY ∧
      (List.map (fun x ↦ x.2) (List.filter (fun e ↦ e.1 == ↑t) s.dev.frames)).length = 1 ∧
      s.dev.get F.X_CAP_WAIT_CLK ↑t + 16 * us ≤ s.dev.clk) :=
  ⟨⟨7, ⟨devLive [(.CAP_T_STATUS_STATE, 7, ctSTREAMING)] [(.CAP_T_CTRL_MODE, 7, 3), (.CAP_T_BUF_SIZE_BLOCKS, 7, 16)], []⟩, emptyBlock,
      by decide, by decide, by decide, by decide, by decide⟩,
    ⟨7, ⟨devLive [(.CAP_T_STATUS_STATE, 7, ctFILLING)] [(.CAP_T_CTRL_MASK_EN, 7, 0)], []⟩, emptyBlock, by decide, by decide, by decide,
      by decide, by decide, by decide⟩,
    ⟨7,
      ⟨devLive [(.CAP_T_STATUS_STATE, 7, ctSTREAMING), (.X_CAP_QUEUED, 7, 16)] [(.CAP_T_CTRL_MODE, 7, 3), (.CAP_T_BUF_SIZE_BLOCKS, 7, 16)],
      []⟩, ⟨1, [7], 0, 0, 0, 0, 0, []⟩, by decide, by decide, by decide, by decide⟩,
    ⟨7, ⟨devWith [(.CAP_T_STATUS_STATE, 7, ctSTREAMING), (.X_CAP_QUEUED, 7, 1), (.X_CAP_END_WAIT, 7, 0)], []⟩, false, by decide, by decide,
      by decide, by decide⟩,
    ⟨7,
      ⟨{ devLive [(.CAP_T_STATUS_STATE, 7, ctDRAINING), (.X_CAP_QUEUED, 7, 1), (.DMA_Q_STATUS_STATE, 7, dqRUNNING)] [(.CAP_T_CTRL_MODE, 7, 2), (.CAP_T_DRAIN_QUEUE, 7, 7)] with descs := [⟨7, 0, 0, 8192, 1, 0, 0, 0, 0, 0, 0⟩] },
      []⟩, false, by decide, by decide, by decide, ⟨7, 0, 0, 8192, 1, 0, 0, 0, 0, 0, 0⟩, 128, by decide, by decide, by decide, by decide,
      by decide, by decide, by decide, by decide⟩,
    ⟨7, ⟨devLive [(.CAP_T_STATUS_STATE, 7, ctSTREAMING)] [(.CAP_T_CTRL_MODE, 7, 2)], []⟩, 2, 1, 0, by decide, by decide, by decide⟩,
    ⟨7,
      ⟨{ devLive [(.X_COUT_LANE, 7, 127), (.HOST_L_STATUS_STATE, 127, hlREADY)] [(.CAP_T_DRAIN_COUT, 7, 128)] with frames := [(7, []), (7, [])] },
      []⟩, by decide, by decide⟩,
    ⟨7,
      ⟨{ devLive [(.X_COUT_LANE, 7, 127), (.HOST_L_STATUS_STATE, 127, hlREADY)] [(.CAP_T_DRAIN_COUT, 7, 128)] with frames := [(7, [])], clk := 16 * us },
      []⟩, by decide, by decide, by decide⟩⟩

theorem witness_TriggersReachTaps :
    (∃ (s : State) (c : ℕ) (f : ℕ), ∀ (i : ℕ), s.dev.tdcEntry i = 0) ∧
    (∃ (s : State) (j : Fin 2) (c : DWord) (f : Fin 6554), s.dev.get F.CAP_XTRIG_OUT_DRIVING ↑j = 1) ∧
    (∃ (s : State) (j : Fin 2) (c : DWord) (f : Fin 6554), s.dev.get F.CAP_XTRIG_OUT_DRIVING ↑j ≠ 1) ∧
    (∃ (s : State) (p : Fin 4) (rising : Bool) (c : DWord) (f : Fin 6554),
      ¬if rising = true then s.dev.get F.CAP_TRIGIN_CFG_EDGE ↑p % 2 = 1 else 2 ≤ s.dev.get F.CAP_TRIGIN_CFG_EDGE ↑p) ∧
    (∃ (s : State) (p : Fin 4) (rising : Bool) (c : DWord) (f : Fin 6554),
      (if rising = true then s.dev.get F.CAP_TRIGIN_CFG_EDGE ↑p % 2 = 1 else 2 ≤ s.dev.get F.CAP_TRIGIN_CFG_EDGE ↑p) ∧
      (s.dev.get F.X_TRIGIN_LAST ↑p = 0 ∨ (s.dev.get F.X_TRIGIN_LAST ↑p - 1) * 10 + 131072 ≤ s.dev.edgeTime (BitVec.toNat c) ↑f * 10) ∧
      ∀ j < 2, s.dev.get F.CAP_XTRIG_OUT_DRIVING j ≠ 1) ∧
    (∃ (s : State) (p : Fin 4) (rising : Bool) (c : DWord) (f : Fin 6554),
      (if rising = true then s.dev.get F.CAP_TRIGIN_CFG_EDGE ↑p % 2 = 1 else 2 ≤ s.dev.get F.CAP_TRIGIN_CFG_EDGE ↑p) ∧
      s.dev.get F.X_TRIGIN_LAST ↑p ≠ 0 ∧ s.dev.edgeTime (BitVec.toNat c) ↑f * 10 < (s.dev.get F.X_TRIGIN_LAST ↑p - 1) * 10 + 131072) ∧
    (∃ (t : Fin 8) (s : State) (ev : TrigEvent), s.dev.nextTrigger ↑t = some ev ∧ s.dev.tapRuns ↑t = true ∧
      s.dev.get F.X_CAP_LAST_K ↑t = 0 ∧ (s.dev.tapState ↑t = ctFILLING ∨ s.dev.tapState ↑t = ctARMED)) ∧
    (∃ (t : Fin 8) (s : State) (ev : TrigEvent), s.dev.nextTrigger ↑t = some ev ∧ s.dev.tapRuns ↑t = true ∧
      s.dev.get F.X_CAP_LAST_K ↑t = 0 ∧ (s.dev.tapState ↑t = ctPOST ∨ s.dev.tapState ↑t = ctSTREAMING)) ∧
    (∃ (t : Fin 8) (s : State) (ev : TrigEvent), s.dev.nextTrigger ↑t = some ev ∧ s.dev.tapRuns ↑t = true ∧
      s.dev.get F.X_CAP_LAST_K ↑t ≠ 0 ∧ s.dev.get F.X_CAP_LAST_CLK ↑t ≠ ev.clk ∧
      (s.dev.interpolate (↑t) ev.time).1 < s.dev.get F.X_CAP_LAST_K ↑t - 1 + 2 ^ s.dev.holdoff ↑t) ∧
    (∃ (t : Fin 8) (s : State), s.dev.lon F.CAP_T_CTRL_AUTO ↑t = true ∧ s.dev.tapState ↑t = ctARMED ∧ s.dev.get F.X_CAP_LAST_K ↑t = 0 ∧
      s.dev.get F.X_CAP_AUTO_CLK ↑t + max 1000 (s.dev.lget F.CAP_T_AUTO_TIMEOUT ↑t) * ns ≤ s.dev.clk) :=
  ⟨⟨⟨Dev.reset, []⟩, 0, 0,
      fun i => by show sx 16 (Dev.reset.lget .CAL_TRIM_WORD _ / _) = 0; rw [show Dev.reset.lget .CAL_TRIM_WORD _ = 0 from rfl, Nat.zero_div]; rfl⟩,
    ⟨⟨devWith [(.CAP_XTRIG_OUT_DRIVING, 1, 1)], []⟩, 1, 0, 6553, by decide⟩,
    ⟨⟨Dev.reset, []⟩, 1, 0, 6553, by decide⟩,
    ⟨⟨Dev.reset, []⟩, 3, false, 0, 6553, by decide⟩,
    ⟨⟨devWith [(.CAP_TRIGIN_CFG_EDGE, 3, 2)], []⟩, 3, false, 0, 6553, by decide, by decide, by decide⟩,
    ⟨⟨devWith [(.CAP_TRIGIN_CFG_EDGE, 3, 1), (.X_TRIGIN_LAST, 3, 1)], []⟩, 3, true, 6554, 6553, by decide, by decide, by decide⟩,
    ⟨7, ⟨{ devWith [(.CAP_T_STATUS_STATE, 7, ctARMED)] with trigs := [⟨0, 0, 0, false, 0, 128⟩] }, []⟩, ⟨0, 0, 0, false, 0, 128⟩,
      by decide, by decide, by decide, by decide⟩,
    ⟨7, ⟨{ devWith [(.CAP_T_STATUS_STATE, 7, ctSTREAMING)] with trigs := [⟨0, 0, 0, false, 0, 128⟩] }, []⟩, ⟨0, 0, 0, false, 0, 128⟩,
      by decide, by decide, by decide, by decide⟩,
    ⟨7,
      ⟨{ devWith [(.CAP_T_STATUS_STATE, 7, ctARMED), (.X_CAP_LAST_K, 7, 1), (.CAP_T_PERIOD_P, 7, 65536)] with trigs := [⟨0, 0, 1, false, 1, 128⟩], refs := [⟨7, 0, 0⟩] },
      []⟩, ⟨0, 0, 1, false, 1, 128⟩, by decide, by decide, by decide, by decide, by decide⟩,
    ⟨7, ⟨{ devLive [(.CAP_T_STATUS_STATE, 7, ctARMED), (.X_CAP_LAST_K, 7, 0)] [(.CAP_T_CTRL_AUTO, 7, 1)] with clk := 10 ^ 15 }, []⟩,
      by decide, by decide, by decide, by decide⟩⟩

theorem witness_BiasTargets :
    (∃ (s : State) (x : Fin 160) (v : BitVec 16), s.dev.get F.X_BIAS_LEDG (biasIx ↑x) ≠ s.dev.clk + 1 ∧
      s.dev.clampTarget (biasIx ↑x) v.toNat = v.toNat) ∧
    (∃ (s : State) (x : Fin 160) (v : BitVec 16), s.dev.get F.X_BIAS_LEDG (biasIx ↑x) ≠ s.dev.clk + 1 ∧
      s.dev.clampTarget (biasIx ↑x) v.toNat ≠ v.toNat) ∧
    (∃ (s : State) (x : Fin 160) (v : BitVec 16), s.dev.get F.X_BIAS_LEDG (biasIx ↑x) = s.dev.clk + 1) ∧
    (∃ (s : State) (t : Fin 4), s.dev.timerDue ↑t ≤ s.dev.now) ∧
    (∃ (s : State) (t : Fin 4), s.dev.timerDue ↑t ≤ s.dev.now ∧ ∃ (c : ℕ), s.dev.get F.BIAS_C_CFG_TRIGGER (40 * ↑t + c) ≠ 1 ∧
      s.dev.bc (40 * ↑t + c) = bcTRACK ∧ s.dev.domOn (domHk ↑t) = true) ∧
    (∃ (s : State) (d : Dev) (i : ℕ), d.biasGain i = 0 ∧ d.biasOffset i = 0) ∧
    (∃ (s : State) (x : Fin 160), s.dev.get F.X_BIAS_HOLD (biasIx ↑x) = 1 ∧ s.dev.get F.X_BIAS_HOLD_CLK (biasIx ↑x) + 150 * ns ≤ s.dev.clk) ∧
    (∃ (s : State) (x : Fin 160), s.dev.get F.X_BIAS_SINE (biasIx ↑x) = 2 ∧ s.dev.get F.X_BIAS_STOP_CLK (biasIx ↑x) ≤ s.dev.clk) :=
  ⟨⟨⟨Dev.reset, []⟩, 159, 0, by decide, by decide⟩,
    ⟨⟨devWith [(.BIAS_C_CFG_ENABLE, biasIx 159, 1), (.BIAS_C_LIMIT_LO, biasIx 159, 100), (.BIAS_C_LIMIT_HI, biasIx 159, 200)], []⟩, 159,
      99, by decide, by decide⟩,
    ⟨⟨devWith [(.X_BIAS_LEDG, biasIx 159, 1)], []⟩, 159, 0, by decide⟩,
    ⟨⟨devWith [(.X_BIAS_DUE, 3, 2 ^ 20), (.TIME_NOW_NOW, 0, 2 ^ 20)], []⟩, 3, by decide⟩,
    ⟨⟨devWith [(.X_BIAS_DUE, 3, 2 ^ 20), (.TIME_NOW_NOW, 0, 2 ^ 20), (.BIAS_C_STATUS_STATE, 159, bcTRACK)], []⟩, 3, by decide, 39,
      by decide, by decide, by decide⟩,
    ⟨⟨Dev.reset, []⟩, Dev.reset, 0, by decide, by decide⟩,
    ⟨⟨{ devWith [(.X_BIAS_HOLD, (biasIx 159), 1)] with clk := 10 ^ 15 }, []⟩, 159, by decide, by decide⟩,
    ⟨⟨{ devWith [(.X_BIAS_SINE, (biasIx 159), 2)] with clk := 10 ^ 15 }, []⟩, 159, by decide, by decide⟩⟩

theorem witness_BiasZeroScale :
    (∃ (s : State) (x : Fin 160), s.dev.bc (biasIx ↑x) = bcFORCED ∧ s.dev.get F.X_BIAS_FZ_CLK (biasIx ↑x) + 20 * us ≤ s.dev.clk ∧
      (s.dev.get F.BIAS_C_STATUS_ZERO_CAUSE (biasIx ↑x) ||| if s.dev.get F.BIAS_C_CFG_ZERO_ON_LS (biasIx ↑x) = 1 ∧
      s.dev.get F.SYS_LS_STATUS_PRESENT (biasEngine (biasIx ↑x)) ≠ 1 then 1 else 0) = 0) ∧
    (∃ (s : State) (x : Fin 160), s.dev.bc (biasIx ↑x) = bcFORCED ∧ s.dev.get F.X_BIAS_FZ_CLK (biasIx ↑x) + 20 * us ≤ s.dev.clk ∧
      (s.dev.get F.BIAS_C_STATUS_ZERO_CAUSE (biasIx ↑x) ||| if s.dev.get F.BIAS_C_CFG_ZERO_ON_LS (biasIx ↑x) = 1 ∧
      s.dev.get F.SYS_LS_STATUS_PRESENT (biasEngine (biasIx ↑x)) ≠ 1 then 1 else 0) ≠ 0) ∧
    (∃ (s : State) (x : Fin 160), s.dev.get F.BIAS_C_CFG_FUNCTION (biasIx ↑x) ≠ 1 ∧ s.dev.biasOn (biasIx ↑x) = true ∧
      s.dev.bc (biasIx ↑x) = bcTRACK) ∧
    (∃ (s : State) (x : Fin 160), s.dev.get F.BIAS_C_CFG_FUNCTION (biasIx ↑x) = 1) ∧
    (∃ (s : State) (x : Fin 160) (out : Bool), s.dev.biasOn (biasIx ↑x) = true ∧ s.dev.get F.BIAS_C_CFG_FUNCTION (biasIx ↑x) = 1 ∧
      s.dev.get F.BIAS_C_STATUS_COMPLIANCE (biasIx ↑x) ≠ 1) ∧
    (∃ (s : State) (x : Fin 160), s.dev.bc (biasIx ↑x) = bcZERO ∧ ∀ b < 5,
      bitAt (s.dev.get F.BIAS_C_STATUS_ZERO_CAUSE (biasIx ↑x)) b = true → s.dev.zeroHolds (biasIx ↑x) b = false) ∧
    (∃ (s : State) (x : Fin 160), s.dev.bc (biasIx ↑x) = bcZERO ∧ ∃ b < 5,
      bitAt (s.dev.get F.BIAS_C_STATUS_ZERO_CAUSE (biasIx ↑x)) b = true ∧ s.dev.zeroHolds (biasIx ↑x) b = true) ∧
    (∃ (s : State) (i : ℕ), s.dev.biasOn i = true ∧ s.dev.bc i ≠ bcDISABLED ∧ s.dev.bc i = bcTRACK) :=
  ⟨⟨⟨{ devWith [(.BIAS_C_STATUS_STATE, (biasIx 159), bcFORCED)] with clk := 10 ^ 15 }, []⟩, 159, by decide, by decide, by decide⟩,
    ⟨⟨{ devWith [(.BIAS_C_STATUS_STATE, (biasIx 159), bcFORCED), (.BIAS_C_STATUS_ZERO_CAUSE, biasIx 159, 1)] with clk := 10 ^ 15 }, []⟩,
      159, by decide, by decide, by decide⟩,
    ⟨⟨devWith [(.BIAS_C_STATUS_STATE, (biasIx 159), bcTRACK), (.BIAS_C_CFG_ENABLE, biasIx 159, 1)], []⟩, 159, by decide, by decide,
      by decide⟩,
    ⟨⟨devWith [(.BIAS_C_CFG_FUNCTION, (biasIx 159), 1)], []⟩, 159, by decide⟩,
    ⟨⟨devWith [(.BIAS_C_CFG_FUNCTION, (biasIx 159), 1), (.BIAS_C_CFG_ENABLE, biasIx 159, 1)], []⟩, 159, false, by decide, by decide,
      by decide⟩,
    ⟨⟨devWith [(.BIAS_C_STATUS_STATE, (biasIx 159), bcZERO)], []⟩, 159, by decide, by decide⟩,
    ⟨⟨devWith [(.BIAS_C_STATUS_STATE, (biasIx 159), bcZERO), (.BIAS_C_STATUS_ZERO_CAUSE, biasIx 159, 8), (.THM_SD_STATUS_STATE, 0, 1)],
      []⟩, 159, by decide, by decide⟩,
    ⟨⟨devWith [(.BIAS_C_CFG_ENABLE, 159, 1), (.BIAS_C_STATUS_STATE, 159, bcTRACK)], []⟩, 159, by decide, by decide, by decide⟩⟩

theorem witness_ConverterSequences :
    (∃ (t : Fin 4) (s : State), (s.dev.domOn (domHk ↑t) = true ∧ s.dev.get F.X_HK_START ↑t ≠ s.dev.clk + 1) ∧
      (s.dev.get F.X_HK_RUN ↑t ≠ 1 ∧ s.dev.get F.X_HK_WAIT ↑t ≠ 1) ∧ s.dev.hk ↑t ≠ hkCAL) ∧
    (∃ (t : Fin 4) (s : State), (s.dev.domOn (domHk ↑t) = true ∧ s.dev.get F.X_HK_START ↑t ≠ s.dev.clk + 1) ∧
      (s.dev.get F.X_HK_RUN ↑t ≠ 1 ∧ s.dev.get F.X_HK_WAIT ↑t ≠ 1) ∧ s.dev.hk ↑t = hkCAL) ∧
    (∃ (t : Fin 4) (s : State), (s.dev.domOn (domHk ↑t) = true ∧ s.dev.get F.X_HK_START ↑t ≠ s.dev.clk + 1) ∧ s.dev.get F.X_HK_RUN ↑t = 1 ∧
      s.dev.get F.X_HK_LOOP ↑t ≠ 1) ∧
    (∃ (t : Fin 4) (s : State), (s.dev.domOn (domHk ↑t) = true ∧ s.dev.get F.X_HK_START ↑t ≠ s.dev.clk + 1) ∧ s.dev.get F.X_HK_RUN ↑t = 1 ∧
      s.dev.get F.X_HK_LOOP ↑t = 1) ∧
    (∃ (t : Fin 4) (s : State), s.dev.domOn (domHk ↑t) = true ∧ s.dev.get F.X_HK_START ↑t = s.dev.clk + 1) ∧
    (∃ (t : Fin 4) (s : State), s.dev.domOn (domHk ↑t) = false) ∧
    (∃ (t : Fin 4) (s : State) (rising : Bool), s.dev.lon F.HK_CTRL_PIN_EN ↑t = true ∧ s.dev.lon F.HK_CTRL_PIN_EDGE ↑t = !rising ∧
      (s.dev.domOn (domHk ↑t) = true ∧ s.dev.get F.X_HK_START ↑t ≠ s.dev.clk + 1) ∧ (s.dev.get F.X_HK_RUN ↑t ≠ 1 ∧
      s.dev.get F.X_HK_WAIT ↑t ≠ 1) ∧ s.dev.hk ↑t ≠ hkCAL) ∧
    (∃ (t : Fin 4) (s : State) (rising : Bool), s.dev.lon F.HK_CTRL_PIN_EN ↑t = true ∧ s.dev.lon F.HK_CTRL_PIN_EDGE ↑t = !rising ∧
      (s.dev.domOn (domHk ↑t) = true ∧ s.dev.get F.X_HK_START ↑t ≠ s.dev.clk + 1) ∧ (s.dev.get F.X_HK_RUN ↑t ≠ 1 ∧
      s.dev.get F.X_HK_WAIT ↑t ≠ 1) ∧ s.dev.hk ↑t = hkCAL) ∧
    (∃ (t : Fin 4) (s : State) (rising : Bool), s.dev.lon F.HK_CTRL_PIN_EN ↑t = true ∧ s.dev.lon F.HK_CTRL_PIN_EDGE ↑t = !rising ∧
      (s.dev.domOn (domHk ↑t) = true ∧ s.dev.get F.X_HK_START ↑t ≠ s.dev.clk + 1) ∧ s.dev.get F.X_HK_RUN ↑t = 1 ∧
      s.dev.get F.X_HK_LOOP ↑t ≠ 1) ∧
    (∃ (t : Fin 4) (s : State) (rising : Bool), s.dev.lon F.HK_CTRL_PIN_EN ↑t = true ∧ s.dev.lon F.HK_CTRL_PIN_EDGE ↑t = !rising ∧
      (s.dev.domOn (domHk ↑t) = true ∧ s.dev.get F.X_HK_START ↑t ≠ s.dev.clk + 1) ∧ s.dev.get F.X_HK_RUN ↑t = 1 ∧
      s.dev.get F.X_HK_LOOP ↑t = 1) ∧
    (∃ (t : Fin 4) (s : State) (rising : Bool), s.dev.lon F.HK_CTRL_PIN_EN ↑t = true ∧ s.dev.lon F.HK_CTRL_PIN_EDGE ↑t = !rising ∧
      s.dev.domOn (domHk ↑t) = true ∧ s.dev.get F.X_HK_START ↑t = s.dev.clk + 1) ∧
    (∃ (t : Fin 4) (s : State) (rising : Bool), s.dev.lon F.HK_CTRL_PIN_EN ↑t = true ∧ s.dev.lon F.HK_CTRL_PIN_EDGE ↑t = !rising ∧
      s.dev.domOn (domHk ↑t) = false) ∧
    (∃ (t : Fin 4) (s : State) (rising : Bool), s.dev.lon F.HK_CTRL_PIN_EN ↑t = false ∨ s.dev.lon F.HK_CTRL_PIN_EDGE ↑t = rising) ∧
    (∃ (t : Fin 4) (s : State), s.dev.hk ↑t = hkSTARTING ∧ s.dev.get F.X_HK_CLK ↑t + 2500 * ns ≤ s.dev.clk ∧ s.dev.get F.X_HK_CAL ↑t ≠ 1) ∧
    (∃ (t : Fin 4) (s : State) (input : ℤ), s.dev.hk ↑t = hkCONVERTING ∧ s.dev.get F.X_HK_CLK ↑t + 1100 * ns ≤ s.dev.clk ∧
      s.dev.get F.X_HK_CAL ↑t ≠ 1 ∧ s.dev.get F.X_HK_RUN ↑t = 1 ∧ s.dev.get F.X_HK_LOOP ↑t ≠ 1 ∧ s.dev.get F.X_HK_DISC ↑t = 1) ∧
    (∃ (t : Fin 4) (s : State) (input : ℤ), s.dev.hk ↑t = hkCONVERTING ∧ s.dev.get F.X_HK_CLK ↑t + 1100 * ns ≤ s.dev.clk ∧
      s.dev.get F.X_HK_CAL ↑t ≠ 1 ∧ s.dev.get F.X_HK_RUN ↑t = 1 ∧ s.dev.get F.X_HK_LOOP ↑t ≠ 1 ∧ s.dev.get F.X_HK_DISC ↑t ≠ 1 ∧
      s.dev.slotHeld (↑t) (48 * ↑t + s.dev.entryChan ↑t) = false ∧ s.dev.get F.HK_CH_RAW_FADE_LEFT (48 * ↑t + s.dev.entryChan ↑t) = 0 ∧
      2 ≤ s.dev.get F.X_HK_LEFT ↑t) ∧
    (∃ (t : Fin 4) (s : State) (input : ℤ), s.dev.hk ↑t = hkCONVERTING ∧ s.dev.get F.X_HK_CLK ↑t + 1100 * ns ≤ s.dev.clk ∧
      s.dev.get F.X_HK_CAL ↑t ≠ 1 ∧ s.dev.get F.X_HK_RUN ↑t = 1 ∧ s.dev.get F.X_HK_LOOP ↑t ≠ 1 ∧ s.dev.get F.X_HK_DISC ↑t ≠ 1 ∧
      s.dev.slotHeld (↑t) (48 * ↑t + s.dev.entryChan ↑t) = false ∧ s.dev.get F.HK_CH_RAW_FADE_LEFT (48 * ↑t + s.dev.entryChan ↑t) = 0 ∧
      s.dev.get F.X_HK_LEFT ↑t ≤ 1 ∧ s.dev.get F.HK_STATUS_ENTRY ↑t + 1 < s.dev.get F.X_HK_LEN ↑t) ∧
    (∃ (t : Fin 4) (s : State) (input : ℤ), s.dev.hk ↑t = hkCONVERTING ∧ s.dev.get F.X_HK_CLK ↑t + 1100 * ns ≤ s.dev.clk ∧
      s.dev.get F.X_HK_CAL ↑t ≠ 1 ∧ s.dev.get F.X_HK_RUN ↑t = 1 ∧ s.dev.get F.X_HK_LOOP ↑t ≠ 1 ∧ s.dev.get F.X_HK_DISC ↑t ≠ 1 ∧
      s.dev.slotHeld (↑t) (48 * ↑t + s.dev.entryChan ↑t) = false ∧ s.dev.get F.HK_CH_RAW_FADE_LEFT (48 * ↑t + s.dev.entryChan ↑t) = 0 ∧
      s.dev.get F.X_HK_LEFT ↑t ≤ 1 ∧ s.dev.get F.X_HK_LEN ↑t ≤ s.dev.get F.HK_STATUS_ENTRY ↑t + 1) ∧
    (∃ (t : Fin 4) (s : State), s.dev.hk ↑t = hkREADY ∧ s.dev.get F.X_HK_CLK ↑t + 500 * ns ≤ s.dev.clk) :=
  ⟨⟨3, ⟨Dev.reset, []⟩, by decide, by decide, by decide⟩,
    ⟨3, ⟨devWith [(.HK_STATUS_STATE, 3, hkCAL)], []⟩, by decide, by decide, by decide⟩,
    ⟨3, ⟨devWith [(.X_HK_RUN, 3, 1)], []⟩, by decide, by decide, by decide⟩,
    ⟨3, ⟨devWith [(.X_HK_RUN, 3, 1), (.X_HK_LOOP, 3, 1)], []⟩, by decide, by decide, by decide⟩,
    ⟨3, ⟨devWith [(.X_HK_START, 3, 1)], []⟩, by decide, by decide⟩,
    ⟨3, ⟨devWith [(.PWR_D_STATUS_STATE, domHk 3, pwOFF)], []⟩, by decide⟩,
    ⟨3, ⟨devLive [] [(.HK_CTRL_PIN_EN, 3, 1), (.HK_CTRL_PIN_EDGE, 3, 1)], []⟩, false, by decide, by decide, by decide, by decide,
      by decide⟩,
    ⟨3, ⟨devLive [(.HK_STATUS_STATE, 3, hkCAL)] [(.HK_CTRL_PIN_EN, 3, 1), (.HK_CTRL_PIN_EDGE, 3, 1)], []⟩, false, by decide, by decide,
      by decide, by decide, by decide⟩,
    ⟨3, ⟨devLive [(.X_HK_RUN, 3, 1)] [(.HK_CTRL_PIN_EN, 3, 1), (.HK_CTRL_PIN_EDGE, 3, 1)], []⟩, false, by decide, by decide, by decide,
      by decide, by decide⟩,
    ⟨3, ⟨devLive [(.X_HK_RUN, 3, 1), (.X_HK_LOOP, 3, 1)] [(.HK_CTRL_PIN_EN, 3, 1), (.HK_CTRL_PIN_EDGE, 3, 1)], []⟩, false, by decide,
      by decide, by decide, by decide, by decide⟩,
    ⟨3, ⟨devLive [(.X_HK_START, 3, 1)] [(.HK_CTRL_PIN_EN, 3, 1), (.HK_CTRL_PIN_EDGE, 3, 1)], []⟩, false, by decide, by decide, by decide,
      by decide⟩,
    ⟨3, ⟨devLive [(.PWR_D_STATUS_STATE, domHk 3, pwOFF)] [(.HK_CTRL_PIN_EN, 3, 1), (.HK_CTRL_PIN_EDGE, 3, 1)], []⟩, false, by decide,
      by decide, by decide⟩,
    ⟨3, ⟨devLive [] [(.HK_CTRL_PIN_EN, 3, 0)], []⟩, false, by decide⟩,
    ⟨3, ⟨{ devWith [(.HK_STATUS_STATE, 3, hkSTARTING)] with clk := 10 ^ 15 }, []⟩, by decide, by decide, by decide⟩,
    ⟨3, ⟨{ devWith [(.HK_STATUS_STATE, 3, hkCONVERTING), (.X_HK_RUN, 3, 1), (.X_HK_DISC, 3, 1)] with clk := 10 ^ 15 }, []⟩, 0, by decide,
      by decide, by decide, by decide, by decide, by decide⟩,
    ⟨3, ⟨{ devWith [(.HK_STATUS_STATE, 3, hkCONVERTING), (.X_HK_RUN, 3, 1), (.X_HK_LEFT, 3, 2)] with clk := 1100 * ns }, []⟩, 0, by decide,
      by decide, by decide, by decide, by decide, by decide, by decide, by decide, by decide⟩,
    ⟨3, ⟨{ devWith [(.HK_STATUS_STATE, 3, hkCONVERTING), (.X_HK_RUN, 3, 1), (.X_HK_LEFT, 3, 1), (.X_HK_LEN, 3, 2)] with clk := 1100 * ns },
      []⟩, 0, by decide, by decide, by decide, by decide, by decide, by decide, by decide, by decide, by decide, by decide⟩,
    ⟨3, ⟨{ devWith [(.HK_STATUS_STATE, 3, hkCONVERTING), (.X_HK_RUN, 3, 1), (.X_HK_LEFT, 3, 1), (.X_HK_LEN, 3, 1)] with clk := 1100 * ns },
      []⟩, 0, by decide, by decide, by decide, by decide, by decide, by decide, by decide, by decide, by decide, by decide⟩,
    ⟨3, ⟨{ devWith [(.HK_STATUS_STATE, 3, hkREADY)] with clk := 10 ^ 15 }, []⟩, by decide, by decide⟩⟩

theorem witness_CalibrationRuns :
    (∃ (s : State) (u : Byte), BitVec.toNat u ≤ 136 ∧ s.dev.calUnused (BitVec.toNat u) = false) ∧
    (∃ (s : State) (u : Byte), 136 < BitVec.toNat u ∨ s.dev.calUnused (BitVec.toNat u) = true) ∧
    (∃ (s : State) (c : BitVec 3), c.toNat ≤ 4 ∧ ∀ u ∈ calUnits c.toNat, s.dev.calUnused u = false) ∧
    (∃ (s : State) (c : BitVec 3), 4 < c.toNat ∨ ∃ u ∈ calUnits c.toNat, s.dev.calUnused u = true) ∧
    (∃ (s : State) (u : Fin 137), s.dev.get F.CAL_CLASS_PERIOD (calClass ↑u) ≠ 0 ∧ s.dev.get F.X_CAL_LASTAPP ↑u ≠ 0 ∧
      s.dev.get F.X_CAL_PER ↑u ≠ 1 ∧ s.dev.calUnused ↑u = false ∧
      s.dev.get F.X_CAL_LASTAPP ↑u - 1 + s.dev.get F.CAL_CLASS_PERIOD (calClass ↑u) * sec ≤ s.dev.clk) ∧
    (∃ (s : State) (u : Fin 137) (r : List ℤ), s.dev.cal ↑u = cuRUNNING ∧ (calClass ↑u = 2 → s.dev.hk (↑u - 128) = hkCAL) ∧
      s.dev.get F.X_CAL_RUN_CLK ↑u + s.dev.runLength ↑u ≤ s.dev.clk ∧ s.dev.calReady ↑u = true ∧ ∀ i < (s.dev.trimSlots ↑u).length,
      trimFails ((s.dev.trimSlots ↑u).getD i (0, 0, 8)).2.2 (r.getD i 0) = false) ∧
    (∃ (s : State) (u : Fin 137) (r : List ℤ), s.dev.cal ↑u = cuRUNNING ∧ (calClass ↑u = 2 → s.dev.hk (↑u - 128) = hkCAL) ∧
      s.dev.get F.X_CAL_RUN_CLK ↑u + s.dev.runLength ↑u ≤ s.dev.clk ∧ s.dev.calReady ↑u = true ∧ ∃ i < (s.dev.trimSlots ↑u).length,
      trimFails ((s.dev.trimSlots ↑u).getD i (0, 0, 8)).2.2 (r.getD i 0) = true) ∧
    (∃ (s : State) (u : Fin 137) (r : List ℤ), s.dev.cal ↑u = cuRUNNING ∧ (calClass ↑u = 2 → s.dev.hk (↑u - 128) = hkCAL) ∧
      s.dev.get F.X_CAL_RUN_CLK ↑u + s.dev.runLength ↑u ≤ s.dev.clk ∧ s.dev.calReady ↑u = false) :=
  ⟨⟨⟨Dev.reset, []⟩, 136, by decide, by decide⟩,
    ⟨⟨Dev.reset, []⟩, 0, by decide⟩,
    ⟨⟨Dev.reset, []⟩, 4, by decide, by decide⟩,
    ⟨⟨Dev.reset, []⟩, 0, by decide⟩,
    ⟨⟨{ devWith [(.CAL_CLASS_PERIOD, 4, 1), (.X_CAL_LASTAPP, 136, 1)] with clk := 10 ^ 15 }, []⟩, 136, by decide, by decide, by decide,
      by decide, by decide⟩,
    ⟨⟨{ devWith [(.CAL_U_STATUS_STATE, 136, cuRUNNING)] with clk := 10 ^ 15 }, []⟩, 136, [], by decide, by decide, by decide, by decide,
      by decide⟩,
    ⟨⟨{ devWith [(.CAL_U_STATUS_STATE, 136, cuRUNNING)] with clk := 10 ^ 15 }, []⟩, 136, [49152], by decide, by decide, by decide,
      by decide, by decide⟩,
    ⟨⟨{ devWith [(.CAL_U_STATUS_STATE, 0, cuRUNNING)] with clk := 10 ^ 15 }, []⟩, 0, [], by decide, by decide, by decide, by decide⟩⟩

theorem witness_NvmStores :
    (∃ (s : State) (b : Bool), s.dev.get F.CAL_NVM_STATUS_BUSY 0 = 1) ∧
    (∃ (s : State) (b : Bool), s.dev.get F.CAL_NVM_STATUS_BUSY 0 ≠ 1 ∧ ∃ x < 40, s.dev.siteGone x = false ∧ ∃ v,
      s.dev.recent x sec = some v ∧ nvmBad v = true) ∧
    (∃ (s : State) (b : Bool), s.dev.get F.CAL_NVM_STATUS_BUSY 0 ≠ 1 ∧ ∀ x < 40, s.dev.siteGone x = false → ∃ v,
      s.dev.recent x sec = some v ∧ nvmBad v = false) ∧
    (∃ (s : State), s.dev.get F.X_NVM_PHASE 0 = 2 ∧ s.dev.nvm.wf = true) ∧
    (∃ (s : State), s.dev.get F.CAL_NVM_STATUS_RETRY 0 = 1 ∧ s.dev.get F.X_NVM_RETRY_CLK 0 + 60 * sec ≤ s.dev.clk ∧
      s.dev.get F.CAL_NVM_STATUS_BUSY 0 = 1) ∧
    (∃ (s : State), s.dev.get F.CAL_NVM_STATUS_RETRY 0 = 1 ∧ s.dev.get F.X_NVM_RETRY_CLK 0 + 60 * sec ≤ s.dev.clk ∧
      s.dev.get F.CAL_NVM_STATUS_BUSY 0 ≠ 1 ∧ ∀ x < 40, s.dev.siteGone x = false → ∃ v, s.dev.recent x sec = some v ∧ nvmBad v = false) :=
  ⟨⟨⟨devWith [(.CAL_NVM_STATUS_BUSY, 0, 1)], []⟩, false, by decide⟩,
    ⟨⟨devWith [(.X_THM_READ, 39, 1), (.THM_S_READING_VALUE, 39, 1601)], []⟩, false, by decide, by decide⟩,
    ⟨⟨devWith ((List.range 40).map fun x => (.X_THM_READ, x, 1)), []⟩, false, by decide, by decide⟩,
    ⟨⟨devWith [(.X_NVM_PHASE, 0, 2)], []⟩, by decide, by decide⟩,
    ⟨⟨{ devWith [(.CAL_NVM_STATUS_RETRY, 0, 1), (.CAL_NVM_STATUS_BUSY, 0, 1)] with clk := 10 ^ 15 }, []⟩, by decide, by decide, by decide⟩,
    ⟨⟨{ devWith ((.CAL_NVM_STATUS_RETRY, 0, 1) :: (List.range 40).map fun x => (.X_THM_READ, x, 60 * sec + 1)) with clk := 60 * sec }, []⟩,
      by decide, by decide, by decide, by decide⟩⟩

theorem witness_LedgerCommands :
    (∃ (s : State), s.dev.get F.TIME_TICK_COUNT_COUNT 0 ≠ 0 ∧
      s.dev.get F.TIME_TICK_COUNT_COUNT 0 % 2 ^ s.dev.get F.LEDG_CFG_PERIOD_EXP 0 = 0 ∧
      s.dev.get F.X_LG_CLOSED 0 ≠ s.dev.get F.TIME_TICK_COUNT_COUNT 0 + 1 ∧ s.dev.get F.LEDG_CTRL_PERIOD_IRQ 0 = 1) ∧
    (∃ (s : State), s.dev.get F.TIME_TICK_COUNT_COUNT 0 ≠ 0 ∧
      s.dev.get F.TIME_TICK_COUNT_COUNT 0 % 2 ^ s.dev.get F.LEDG_CFG_PERIOD_EXP 0 = 0 ∧
      s.dev.get F.X_LG_CLOSED 0 ≠ s.dev.get F.TIME_TICK_COUNT_COUNT 0 + 1 ∧ ∃ (n : ℕ), s.dev.lgOn n = true) ∧
    (∃ (s : State), s.dev.get F.X_LG_CLOSED 0 = s.dev.get F.TIME_TICK_COUNT_COUNT 0 + 1) ∧
    (∃ (s : State), s.dev.memState = meREADY ∧ s.dev.regionIn 1 = true) ∧
    (∃ (s : State), ∃ n < 64, s.dev.memState = meREADY ∧ s.dev.regionIn 1 = true ∧ s.dev.get F.X_LG_UNWRITTEN n = 1 ∧ ∀ m < 64, m ≠ n →
      s.dev.get F.X_LG_UNWRITTEN m ≠ 1) ∧
    (∃ (s : State), s.dev.memState = meFAILED) :=
  ⟨⟨⟨devWith [(.TIME_TICK_COUNT_COUNT, 0, 2 ^ 20), (.LEDG_CFG_PERIOD_EXP, 0, 20), (.LEDG_CTRL_PERIOD_IRQ, 0, 1)], []⟩, by decide,
      by decide, by decide, by decide⟩,
    ⟨⟨devWith [(.TIME_TICK_COUNT_COUNT, 0, 2 ^ 20), (.LEDG_CFG_PERIOD_EXP, 0, 20), (.LEDG_L_CFG_ENABLES, 63, 1)], []⟩, by decide,
      by decide, by decide, 63, by decide⟩,
    ⟨⟨devWith [(.TIME_TICK_COUNT_COUNT, 0, 7), (.X_LG_CLOSED, 0, 8)], []⟩, by decide⟩,
    ⟨⟨devWith [(.MEM_STATUS_STATE, 0, meREADY), (.X_REGION_IN, 1, 1)], []⟩, by decide, by decide⟩,
    ⟨⟨devWith [(.MEM_STATUS_STATE, 0, meREADY), (.X_REGION_IN, 1, 1), (.X_LG_UNWRITTEN, 63, 1)], []⟩, 63, by decide, by decide, by decide,
      by decide, by decide⟩,
    ⟨⟨devWith [(.MEM_STATUS_STATE, 0, meFAILED)], []⟩, by decide⟩⟩

theorem witness_SyndromeIsMarker :
    (∃ (m : Byte) (data : List Bool), data.length = 128 ∧ ∃ (j : ℕ), j < 8) ∧
    (∃ (w : ℕ) (k : ℕ) (g : ℕ), anchorOf w k = some g) ∧
    (∃ (w : ℕ) (k : ℕ), anchorOf w k = none) :=
  ⟨⟨0, List.replicate 128 true, by decide, 7, by decide⟩,
    ⟨8, 280, 7, by decide⟩,
    ⟨8, 319, by decide⟩⟩

theorem witness_FramePlacesDistinct :
    (∃ w ∈ [1, 2, 4, 8], ∃ m < 320, ∃ (i : ℕ), i < 136) ∧
    (∃ w ∈ [1, 2, 4, 8], ∃ m < 320, ∃ i < 136, ∃ m' < 320, ∃ i' < 136, lanePlace w m i = lanePlace w m' i') ∧
    (∃ w ∈ [1, 2, 4, 8], ∃ g < w, ∃ (b : ℕ), b < 43520 / w) ∧
    (∃ w ∈ [1, 2, 4, 8], ∃ (words : List (List Bool)) (letters : List (List (Fin 16))), words.length = 320 ∧ (∀ x ∈ words,
      x.length = 136) ∧ (∀ g < w, ∀ b < 43520 / w,
      bitAt (↑((letters.getD g []).getD (b / 2) 0)) (3 - b % 2) = (laneBits w g words).getD b false) ∧ ∃ (m : ℕ), m < 320) ∧
    (∃ w ∈ [1, 2, 4, 8], ∃ (streams : List (List Bool)), (∀ k < w, (streams.getD k []).length = 40960 / w) ∧ ∃ (k : ℕ), k < w) ∧
    (∃ mode ∈ [1, 2, 3], ∃ (c : ℕ) (i : ℕ), i < 544) ∧
    (∃ mode ∈ [1, 2, 3], ∃ (p : ℕ) (b : ℕ), b < 10) :=
  ⟨⟨8, by decide, 319, by decide, 135, by decide⟩,
    ⟨8, by decide, 319, by decide, 135, by decide, 319, by decide, 135, by decide, by decide⟩,
    ⟨8, by decide, 7, by decide, 5439, by decide⟩,
    ⟨8, by decide, zeroWords, [], by decide, by intro x hx; rw [List.eq_of_mem_replicate hx, List.length_replicate],
      by intro g _ b _; rw [zeroWords_lane]; simp [bitAt], 319, by decide⟩,
    ⟨8, by decide, List.replicate 8 (List.replicate 5120 true),
      by intro k hk; rw [List.getD_eq_getElem _ _ (by simpa using hk), List.getElem_replicate, List.length_replicate], 7, by decide⟩,
    ⟨1, by decide, 7, 543, by decide⟩,
    ⟨3, by decide, 5439, 9, by decide⟩⟩

end Sys2Proof.Tests
end

section
/-! PROOFS. The time base (R42, R47): how POST_TIME advances from one REFCLK cycle to the next, and where the tick boundary that
follows POST_TIME lies. -/

namespace Sys2Proof.Machine

open Sys2Proof

/-! ## The units of the five cycles -/

/-- The units of cycle `p` when the two short cycles of a group are `c.1` and `c.2`. -/
def unitsWith (c : Nat × Nat) (p : Nat) : Nat := if p = c.1 ∨ p = c.2 then 6553 else 6554

/-- Which two cycles are short is a free constant of the model, known only to be one of the ten pairs: what holds of the units of
every pair holds of the units of the block. -/
theorem cycleUnits_of_forall_pairs {P : (Nat → Nat) → Prop} (h : ∀ c ∈ Config.pairs, P (unitsWith c)) : P Config.cycleUnits := by
  have hlt : Config.shortCycles.val < Config.pairs.length := Config.shortCycles.isLt
  have hu : Config.cycleUnits = unitsWith Config.pairs[Config.shortCycles.val] := by
    funext p
    simp only [Config.cycleUnits, unitsWith, List.getD_eq_getElem _ _ hlt]
  rw [hu]
  exact h _ (List.getElem_mem hlt)

theorem longCycles_length : ((List.range 5).filter fun p => decide (Config.cycleUnits p = 6554)).length = 3 :=
  cycleUnits_of_forall_pairs (P := fun u => ((List.range 5).filter fun p => decide (u p = 6554)).length = 3) (by decide)

theorem shortCycles_length : ((List.range 5).filter fun p => decide (Config.cycleUnits p = 6553)).length = 2 :=
  cycleUnits_of_forall_pairs (P := fun u => ((List.range 5).filter fun p => decide (u p = 6553)).length = 2) (by decide)

theorem cycleUnits_sum : ((List.range 5).map Config.cycleUnits).sum = 32768 :=
  cycleUnits_of_forall_pairs (P := fun u => ((List.range 5).map u).sum = 32768) (by decide)

/-- From any phase, five cycles pass through each of the five phases once. -/
theorem cycleSpan_five_eq_sum {p : Nat} (hp : p < 5) : cycleSpan p 5 = ((List.range 5).map Config.cycleUnits).sum := by
  have hperm : ((List.range 5).map fun j => (p + j) % 5).Perm (List.range 5) := by
    revert p
    decide
  calc cycleSpan p 5 = (((List.range 5).map fun j => (p + j) % 5).map Config.cycleUnits).sum := by
        simp [cycleSpan, List.range_succ, Nat.add_assoc]
    _ = ((List.range 5).map Config.cycleUnits).sum := (hperm.map _).sum_eq

theorem cycleSpan_five {p : Nat} (hp : p < 5) : cycleSpan p 5 = 32768 :=
  (cycleSpan_five_eq_sum hp).trans cycleUnits_sum

/-! ## Time that passes -/

@[simp] theorem Dev.pass_now (d : Dev) (u c : Nat) : (d.pass u c).now = (d.now + u) % 2 ^ 64 := by
  show ((d.set .TIME_NOW_NOW 0 _).set .X_TIME_PHASE 0 _).get .TIME_NOW_NOW 0 = _
  simp

@[simp] theorem Dev.pass_phase (d : Dev) (u c : Nat) :
    (d.pass u c).get .X_TIME_PHASE 0 = (d.get .X_TIME_PHASE 0 + c) % 5 := Dev.get_set_same _ _ _ _

theorem Dev.pass_onlyAt (d : Dev) (u c : Nat) :
    Dev.OnlyAt [.TIME_NOW_NOW, .X_TIME_PHASE] 0 { d with clk := d.clk + u } (d.pass u c) :=
  ((Dev.Only.refl _ _).set _ ⟨rfl, by decide⟩).set _ ⟨rfl, by decide⟩

theorem Dev.cycle_eq_pass {d : Dev} (h : d.get .X_SLEW 0 = 0) :
    d.cycle = d.pass (Config.cycleUnits (d.get .X_TIME_PHASE 0)) 1 := if_pos h

/-! ## The next tick boundary -/

theorem Dev.tickDue_of_unplaced {d : Dev} (h : d.get .X_TICK_DUE 0 = 0) :
    d.tickDue = (d.now / d.period + 1) * d.period := if_pos h

theorem Dev.period_pos (d : Dev) : 0 < d.period := Nat.two_pow_pos _

theorem Dev.period_dvd {d : Dev} (h : d.get .TIME_TICK_CFG_PERIOD_K 0 ≤ 7) : d.period ∣ 2 ^ 64 :=
  pow_dvd_pow 2 (by omega)

/-- The multiple of `p` that follows `n` lies no further than any multiple of `p` above `n`. -/
theorem nextMultiple_le {n p m : Nat} (hp : p ∣ m) (hn : n < m) : (n / p + 1) * p ≤ m := by
  obtain ⟨c, rfl⟩ := hp
  rw [Nat.mul_comm]
  exact Nat.mul_le_mul_left p (Nat.div_lt_of_lt_mul hn)

theorem Dev.now_lt_tickDue {d : Dev} (h : d.get .X_TICK_DUE 0 = 0) : d.now < d.tickDue := by
  rw [Dev.tickDue_of_unplaced h, Nat.mul_comm]
  exact Nat.lt_mul_div_succ d.now d.period_pos

theorem Dev.tickDue_le_wrap {d : Dev} (h : d.get .X_TICK_DUE 0 = 0) (hk : d.get .TIME_TICK_CFG_PERIOD_K 0 ≤ 7)
    (hn : d.now < 2 ^ 64) : d.tickDue ≤ 2 ^ 64 := by
  rw [Dev.tickDue_of_unplaced h]
  exact nextMultiple_le (Dev.period_dvd hk) hn

/-! ## The statement -/

/-- Settles O4: five cycles from any phase visit each phase once, a cycle without a slew is `pass` by its phase's units, and
2^64 is a multiple of every tick period. -/
theorem fiveCyclesAdvance : Obligations.FiveCyclesAdvance := by
  refine ⟨rfl, fun p hp => cycleSpan_five hp, longCycles_length, shortCycles_length, fun d hslew => ?_, fun d hdue hk hnow =>
    ⟨Dev.now_lt_tickDue hdue, Dev.tickDue_le_wrap hdue hk hnow, Nat.mod_eq_zero_of_dvd (Dev.period_dvd hk)⟩⟩
  rw [Dev.cycle_eq_pass hslew]
  exact ⟨Dev.pass_now .., Dev.pass_phase .., Dev.pass_onlyAt ..⟩

end Sys2Proof.Machine
end

section
/-! PROOFS. The inner code (R182, R183): the syndrome is linear in the bits of a word, and the columns of the check bits are the
powers of two, so the check bits add their own value to the syndrome. -/

namespace Sys2Proof.Machine

open Sys2Proof

/-! ## Bits of numbers -/

theorem bitAt_eq_testBit (n b : Nat) : bitAt n b = n.testBit b := by
  rw [bitAt, Nat.testBit_eq_decide_div_mod_eq]
  rfl

theorem bitList_length (k n : Nat) : (bitList k n).length = k := by simp [bitList]

theorem bitList_getD {k n j : Nat} (h : j < k) : (bitList k n).getD j false = n.testBit j := by
  simp [bitList, h, bitAt_eq_testBit]

/-- The lowest `k + 1` bits are the lowest `k` and bit `k`. -/
theorem mod_two_pow_succ_eq_xor (n k : Nat) : n % 2 ^ (k + 1) = n % 2 ^ k ^^^ (if n.testBit k then 2 ^ k else 0) := by
  refine Nat.eq_of_testBit_eq fun j => ?_
  rcases lt_trichotomy j k with h | rfl | h
  · cases n.testBit k <;> simp [h, h.ne', Nat.lt_succ_of_lt h]
  · cases h : n.testBit j <;> simp [h]
  · cases n.testBit k <;> simp [h.ne, show ¬ j < k + 1 by omega, h.le]

/-! ## The exclusive or of columns -/

/-- `v` and the columns of those bits among `is` that are 1 in the word `c`, under exclusive or. -/
def columnsXor (c : List Bool) (is : List Nat) (v : Nat) : Nat :=
  is.foldl (fun v i => if c.getD i false then v ^^^ column i else v) v

theorem syndrome_eq_columnsXor (c : List Bool) : syndrome c = columnsXor c (List.range 136) 0 := rfl

theorem columnsXor_cons (c : List Bool) (i : Nat) (is : List Nat) (v : Nat) :
    columnsXor c (i :: is) v = columnsXor c is (if c.getD i false then v ^^^ column i else v) := rfl

theorem columnsXor_append (c : List Bool) (is js : List Nat) (v : Nat) :
    columnsXor c (is ++ js) v = columnsXor c js (columnsXor c is v) := List.foldl_append

theorem columnsXor_xor (c : List Bool) (is : List Nat) (v m : Nat) :
    columnsXor c is (v ^^^ m) = columnsXor c is v ^^^ m := by
  refine List.foldl_hom (· ^^^ m) fun x i => ?_
  split
  · exact Nat.xor_right_comm ..
  · rfl

theorem columnsXor_start (c : List Bool) (is : List Nat) (m : Nat) : columnsXor c is m = columnsXor c is 0 ^^^ m := by
  rw [← columnsXor_xor, Nat.zero_xor]

theorem columnsXor_congr {c c' : List Bool} {is : List Nat} (h : ∀ i ∈ is, c.getD i false = c'.getD i false) (v : Nat) :
    columnsXor c is v = columnsXor c' is v :=
  List.foldl_ext _ _ _ fun v i hi => by rw [h i hi]

theorem dataColumns_getD_lt (i : Nat) : dataColumns.getD i 0 < 2 ^ 8 := by
  rcases lt_or_ge i dataColumns.length with h | h
  · have hmem : dataColumns[i] ∈ List.range 137 := List.mem_of_mem_filter (List.getElem_mem h)
    rw [List.getD_eq_getElem _ _ h]
    exact (List.mem_range.mp hmem).trans (by decide)
  · rw [List.getD_eq_default _ _ h]
    decide

theorem column_data_lt {i : Nat} (h : i < 128) : column i < 2 ^ 8 := by
  rw [column, if_pos h]
  exact dataColumns_getD_lt i

theorem column_check (j : Nat) : column (128 + j) = 2 ^ j := by simp [column]

theorem columnsXor_lt (c : List Bool) {is : List Nat} (his : ∀ i ∈ is, i < 128) {v : Nat} (hv : v < 2 ^ 8) :
    columnsXor c is v < 2 ^ 8 := by
  induction is generalizing v with
  | nil => exact hv
  | cons i is ih =>
    obtain ⟨hi, his⟩ := List.forall_mem_cons.mp his
    rw [columnsXor_cons]
    refine ih his ?_
    split
    · exact Nat.xor_lt_two_pow hv (column_data_lt hi)
    · exact hv

/-- Check bits that hold the low bits of `s` add just these bits. -/
theorem columnsXor_check {c : List Bool} {s k : Nat} (h : ∀ j < k, c.getD (128 + j) false = s.testBit j) (v : Nat) :
    columnsXor c ((List.range k).map (128 + ·)) v = v ^^^ s % 2 ^ k := by
  induction k with
  | zero => simp [columnsXor, Nat.mod_one]
  | succ k ih =>
    rw [List.range_succ, List.map_append, columnsXor_append, ih fun j hj => h j (by omega), mod_two_pow_succ_eq_xor,
      ← Nat.xor_assoc, List.map_singleton, columnsXor_cons, h k (by omega), column_check]
    cases s.testBit k <;> simp [columnsXor]

/-- The syndrome of a word whose check bits hold `s` is the exclusive or of its data bits' columns and `s`. -/
theorem syndrome_of_check {c : List Bool} {s : Nat} (hs : s < 2 ^ 8) (h : ∀ j < 8, c.getD (128 + j) false = s.testBit j) :
    syndrome c = columnsXor c (List.range 128) 0 ^^^ s := by
  rw [syndrome_eq_columnsXor, List.range_add (n := 128) (m := 8), columnsXor_append, columnsXor_check h, Nat.mod_eq_of_lt hs]

/-! ## The encoder -/

/-- The value of the check bits for marker `m`. -/
def checkValue (m : Nat) (data : List Bool) : Nat := columnsXor data (List.range 128) 0 ^^^ m

theorem checkValue_lt {m : Nat} (hm : m < 2 ^ 8) (data : List Bool) : checkValue m data < 2 ^ 8 :=
  Nat.xor_lt_two_pow (columnsXor_lt data (fun _ => List.mem_range.mp) (by decide)) hm

theorem innerEncode_eq_append (m : Nat) {data : List Bool} (h : data.length = 128) :
    innerEncode m data = data ++ bitList 8 (checkValue m data) := by
  have hdata : (List.range 128).map (fun i => data.getD i false) = data :=
    List.ext_getElem (by simp [h]) fun i _ hi => by simp [hi]
  calc innerEncode m data
      = (List.range 128).map (fun i => data.getD i false) ++ bitList 8 (columnsXor data (List.range 128) m) := rfl
    _ = data ++ bitList 8 (checkValue m data) := by rw [hdata, columnsXor_start, checkValue]

theorem innerEncode_length {m : Nat} {data : List Bool} (h : data.length = 128) : (innerEncode m data).length = 136 := by
  rw [innerEncode_eq_append m h, List.length_append, bitList_length, h]

theorem innerEncode_take {m : Nat} {data : List Bool} (h : data.length = 128) : (innerEncode m data).take 128 = data := by
  rw [innerEncode_eq_append m h, List.take_left' h]

theorem innerEncode_getD_data {m : Nat} {data : List Bool} (h : data.length = 128) {i : Nat} (hi : i < 128) :
    (innerEncode m data).getD i false = data.getD i false := by
  rw [innerEncode_eq_append m h, List.getD_append _ _ _ _ (h ▸ hi)]

theorem innerEncode_getD_check {m : Nat} {data : List Bool} (h : data.length = 128) {j : Nat} (hj : j < 8) :
    (innerEncode m data).getD (128 + j) false = (checkValue m data).testBit j := by
  rw [innerEncode_eq_append m h, List.getD_append_right _ _ _ _ (by omega), h, Nat.add_sub_cancel_left, bitList_getD hj]

theorem syndrome_innerEncode {m : Nat} (hm : m < 2 ^ 8) {data : List Bool} (h : data.length = 128) :
    syndrome (innerEncode m data) = m := by
  have hdata : columnsXor (innerEncode m data) (List.range 128) 0 = columnsXor data (List.range 128) 0 :=
    columnsXor_congr (fun _ hi => innerEncode_getD_data h (List.mem_range.mp hi)) 0
  rw [syndrome_of_check (checkValue_lt hm data) fun _ => innerEncode_getD_check h, hdata, checkValue, ← Nat.xor_assoc,
    Nat.xor_self, Nat.zero_xor]

/-! ## The markers of a frame -/

theorem codewordMarker_anchor {w k g : Nat} (h : anchorOf w k = some g) : codewordMarker w k = 0xC0 + g := by
  rw [codewordMarker, h, Option.elim_some]

theorem codewordMarker_normal {w k : Nat} (h : anchorOf w k = none) : codewordMarker w k = 0 := by
  rw [codewordMarker, h, Option.elim_none]

/-! ## The statement -/

/-- Settles O59: the check bits hold the exclusive or of the data bits' columns and the marker, and the syndrome adds the same
columns to them once more, which leaves the marker. -/
theorem syndromeIsMarker : Obligations.SyndromeIsMarker := by
  refine ⟨fun m data h => ⟨syndrome_innerEncode m.isLt h, innerEncode_length h, innerEncode_take h, fun j hj => ?_⟩,
    fun w k => ⟨fun g => codewordMarker_anchor, codewordMarker_normal⟩⟩
  rw [innerEncode_getD_check h hj, bitAt_eq_testBit]
  rfl

end Sys2Proof.Machine
end

section
/-! PROOFS. The pigeonholes' choice (R453): `best` is Mathlib's `argmax` of the priority over the eligible sources in the order of
their numbers, and `argmax` keeps the first of equal ones. -/

namespace Sys2Proof.Machine

open Sys2Proof

/-! ## The conditions of R453 -/

theorem Dev.on_iff (d : Dev) (f : F) (i : Nat) : d.on f i = true ↔ d.get f i = 1 := by rw [Dev.on_def, beq_iff_eq]

theorem Dev.stacked_iff (d : Dev) : d.stacked = true ↔ d.get .PH_CFG_MODE 0 = 1 := d.on_iff _ _

theorem Dev.inService_eq_false_iff (d : Dev) (t : Nat) : d.inService t = false ↔ ∀ v ∈ d.service, v.source ≠ t := by
  simp [Dev.inService]

theorem Dev.readyFor_iff (d : Dev) (x t : Nat) : d.readyFor x t = true ↔
    t ∈ d.pending ∧ d.get .PH_SRC_TARGET t = x ∧ d.get .PH_T_STATUS_DEFINED x = 1 ∧ d.inService t = false ∧
      (d.stacked = true → ∀ v rest, d.stackOf x = v :: rest → v.prio < d.get .PH_SRC_PRIORITY t) := by
  unfold Dev.readyFor
  cases d.stackOf x with
  | nil => simp [Dev.on_iff, and_assoc]
  | cons v rest =>
    have htop : (∀ w ws, v :: rest = w :: ws → w.prio < d.get .PH_SRC_PRIORITY t) ↔ v.prio < d.get .PH_SRC_PRIORITY t :=
      ⟨fun h => h v rest rfl, fun h w _ e => (List.cons.inj e).1 ▸ h⟩
    rw [htop]
    simp [Dev.on_iff, and_assoc, imp_iff_not_or]

theorem Dev.eligible_iff_readyFor (d : Dev) (x t : Nat) :
    d.eligible x t = true ↔ d.readyFor x t = true ∧ d.get .PH_MASK_MASK t ≠ 1 := by
  rw [Dev.eligible, Bool.and_eq_true, Bool.not_eq_true', ← Bool.not_eq_true, Dev.on_iff]

theorem Dev.eligible_iff (d : Dev) (x t : Nat) : d.eligible x t = true ↔
    t ∈ d.pending ∧ d.get .PH_MASK_MASK t ≠ 1 ∧ d.get .PH_SRC_TARGET t = x ∧ d.get .PH_T_STATUS_DEFINED x = 1 ∧
      (∀ v ∈ d.service, v.source ≠ t) ∧
      (d.get .PH_CFG_MODE 0 = 1 → ∀ v rest, d.stackOf x = v :: rest → v.prio < d.get .PH_SRC_PRIORITY t) := by
  rw [Dev.eligible_iff_readyFor, Dev.readyFor_iff, Dev.inService_eq_false_iff, Dev.stacked_iff]
  tauto

/-! ## The choice -/

/-- The sources eligible for target `x`, in the order in which they pend. -/
def Dev.eligibles (d : Dev) (x : Nat) : List Nat := d.pending.filter (d.eligible x)

theorem Dev.mem_eligibles (d : Dev) (x t : Nat) : t ∈ d.eligibles x ↔ d.eligible x t = true := by
  rw [Dev.eligibles, List.mem_filter, and_iff_right_iff_imp]
  exact fun h => ((d.eligible_iff x t).mp h).1

/-- The fold of `best` looks at the eligible sources alone, and what it does with one is the step of `argmax`. -/
theorem Dev.best_eq_argmax (d : Dev) (x : Nat) : d.best x = (d.eligibles x).argmax (d.get .PH_SRC_PRIORITY) := by
  rw [Dev.best, Dev.eligibles, List.argmax, List.foldl_filter]
  refine List.foldl_ext _ _ _ fun b s _ => ?_
  cases b <;> rfl

theorem Dev.best_eq_none_iff (d : Dev) (x : Nat) : d.best x = none ↔ ∀ t, d.eligible x t = false := by
  simp only [Dev.best_eq_argmax, List.argmax_eq_none, List.eq_nil_iff_forall_not_mem, Dev.mem_eligibles, Bool.not_eq_true]

theorem le_of_idxOf_le_of_pairwise_lt {l : List Nat} (hl : l.Pairwise (· < ·)) {m a : Nat} (hm : m ∈ l) (ha : a ∈ l)
    (h : l.idxOf m ≤ l.idxOf a) : m ≤ a := by
  have hle : l.Pairwise (· ≤ ·) := hl.imp Nat.le_of_lt
  simpa using hle.rel_get_of_le (a := ⟨_, List.idxOf_lt_length_of_mem hm⟩) (b := ⟨_, List.idxOf_lt_length_of_mem ha⟩) h

/-- `argmax` breaks a tie by place in the list, and since `pending` rises, the first place is the lowest number. -/
theorem Dev.best_highest {d : Dev} {x src : Nat} (hp : d.pending.Pairwise (· < ·)) (hb : d.best x = some src) :
    d.eligible x src = true ∧ ∀ t, d.eligible x t = true →
      d.get .PH_SRC_PRIORITY t < d.get .PH_SRC_PRIORITY src ∨
        (d.get .PH_SRC_PRIORITY t = d.get .PH_SRC_PRIORITY src ∧ src ≤ t) := by
  rw [Dev.best_eq_argmax, List.argmax_eq_some_iff] at hb
  obtain ⟨hsrc, hmax, hfirst⟩ := hb
  refine ⟨(d.mem_eligibles x src).mp hsrc, fun t ht => ?_⟩
  have hmem : t ∈ d.eligibles x := (d.mem_eligibles x t).mpr ht
  rcases (hmax t hmem).lt_or_eq with hlt | heq
  · exact .inl hlt
  · exact .inr ⟨heq, le_of_idxOf_le_of_pairwise_lt (hp.filter _) hsrc hmem (hfirst t hmem heq.ge)⟩

/-! ## The statement -/

/-- Settles O17: `best` is the `argmax` of the priority over the eligible sources, whose list rises. -/
theorem bestIsHighest : Obligations.BestIsHighest := fun d x hp =>
  ⟨fun _ => Dev.best_highest hp, (d.best_eq_none_iff x).mp, rfl, d.eligible_iff x⟩

end Sys2Proof.Machine
end

section
/-! PROOFS. The canonical form of a device (the stores and memories of `Dev.Canonical`): its parts, and what every way of putting
a device together keeps of it. -/

-- One theorem at a time: the whole text is compiled under a memory limit, which the stacks of waiting threads would fill.
set_option Elab.async false

namespace Sys2Proof.Machine

open Sys2Proof

/-- The meaning `f` of a command is a change of the device that keeps the canonical form. -/
def RunsCanonical (f : State → Host.Outcome State Fault Refusal) : Prop :=
  ∃ g : Dev → Dev, (∀ s, f s = s.run g) ∧ ∀ d : Dev, d.Canonical → (g d).Canonical

/-! ## The parts of the canonical form, and what replaces one of them -/

theorem Dev.Canonical.reg {d : Dev} (h : d.Canonical) : d.reg.wf = true := h.1
theorem Dev.Canonical.live {d : Dev} (h : d.Canonical) : d.live.wf = true := h.2.1
theorem Dev.Canonical.cmem {d : Dev} (h : d.Canonical) : d.cmem.wf = true := h.2.2.1
theorem Dev.Canonical.gddr {d : Dev} (h : d.Canonical) : d.gddr.wf = true := h.2.2.2.1
theorem Dev.Canonical.nvm {d : Dev} (h : d.Canonical) : d.nvm.wf = true := h.2.2.2.2.1
theorem Dev.Canonical.flash {d : Dev} (h : d.Canonical) : d.flash.wf = true := h.2.2.2.2.2.1
theorem Dev.Canonical.planBuf {d : Dev} (h : d.Canonical) : d.planBuf.wf = true := h.2.2.2.2.2.2.1
theorem Dev.Canonical.pending {d : Dev} (h : d.Canonical) : d.pending.Pairwise (· < ·) := h.2.2.2.2.2.2.2.1
theorem Dev.Canonical.pba {d : Dev} (h : d.Canonical) : d.pba.Pairwise (· < ·) := h.2.2.2.2.2.2.2.2

section
variable {d e : Dev} (h : d.Canonical)
include h

theorem Dev.Canonical.withReg {s : Store} (hs : s.wf = true) : Dev.Canonical { d with reg := s } :=
  ⟨hs, h.2⟩
theorem Dev.Canonical.withLive {s : Store} (hs : s.wf = true) : Dev.Canonical { d with live := s } :=
  ⟨h.reg, hs, h.2.2⟩
theorem Dev.Canonical.withCmem {m : Mem} (hm : m.wf = true) : Dev.Canonical { d with cmem := m } :=
  ⟨h.reg, h.live, hm, h.2.2.2⟩
theorem Dev.Canonical.withGddr {m : Mem} (hm : m.wf = true) : Dev.Canonical { d with gddr := m } :=
  ⟨h.reg, h.live, h.cmem, hm, h.2.2.2.2⟩
theorem Dev.Canonical.withNvm {m : Mem} (hm : m.wf = true) : Dev.Canonical { d with nvm := m } :=
  ⟨h.reg, h.live, h.cmem, h.gddr, hm, h.2.2.2.2.2⟩
theorem Dev.Canonical.withFlash {m : Mem} (hm : m.wf = true) : Dev.Canonical { d with flash := m } :=
  ⟨h.reg, h.live, h.cmem, h.gddr, h.nvm, hm, h.2.2.2.2.2.2⟩
theorem Dev.Canonical.withPlanBuf {m : Mem} (hm : m.wf = true) : Dev.Canonical { d with planBuf := m } :=
  ⟨h.reg, h.live, h.cmem, h.gddr, h.nvm, h.flash, hm, h.2.2.2.2.2.2.2⟩
theorem Dev.Canonical.withPending {l : List Nat} (hl : l.Pairwise (· < ·)) : Dev.Canonical { d with pending := l } :=
  ⟨h.reg, h.live, h.cmem, h.gddr, h.nvm, h.flash, h.planBuf, hl, h.pba⟩
theorem Dev.Canonical.withPba {l : List Nat} (hl : l.Pairwise (· < ·)) : Dev.Canonical { d with pba := l } :=
  ⟨h.reg, h.live, h.cmem, h.gddr, h.nvm, h.flash, h.planBuf, h.pending, hl⟩

theorem Dev.Canonical.filterReg {p : Key × Nat → Bool} : Dev.Canonical { d with reg := d.reg.filter p } :=
  h.withReg (Store.wf_filter p h.reg)
theorem Dev.Canonical.filterLive {p : Key × Nat → Bool} : Dev.Canonical { d with live := d.live.filter p } :=
  h.withLive (Store.wf_filter p h.live)

/-- An update of anything else keeps the canonical form. -/
theorem Dev.Canonical.same
    {clk free : Nat} {posts : List Posting} {carryRx : List (Fin 64 × RxTick)} {service : List Service} {viols : List
    Viol} {msgs : List CourMsg} {quar gens dupes : List CourId} {dlq : List DeadLetter} {lost : List LostRange} {mreqs
    : List MemReq} {trigs : List TrigEvent} {recs : List (Nat × List Byte)} {refs : List CapRef} {blocks : List
    CapBlock} {samples frames : List (Nat × List Byte)} {held : List Held} {descs : List Desc} {hist : List HkHist}
    {calres : List CalRes} {reads : List ThmRead} {ledg : List LedgRec} {moves : List LedgMove} {plan : List PlanSec}
    {posted : List RecPost} {snaps : List Snap} {rxFrames : List RxFrame} {rsDone : List RsWord} {loops looped_ : List
    LoopFrame} {lineIn near : List RsWord} {chans : List CourChan} {rshad wshad : List (Key × Nat)} {out : List Out} :
    Dev.Canonical { d with
      clk, free, posts, carryRx, service, viols, msgs, quar, gens, dupes, dlq, lost, mreqs,
      trigs, recs, refs, blocks, samples, frames, held, descs, hist, calres, reads, ledg, moves, plan, posted,
      snaps, rxFrames, rsDone, loops, looped_, lineIn, near, chans, rshad, wshad, out } :=
  h

/-! ## Branches and folds -/

theorem Dev.Canonical.ite {c : Prop} {_ : Decidable c} (he : e.Canonical) : (if c then d else e).Canonical := by
  split
  · exact h
  · exact he
theorem Dev.Canonical.foldl {α : Type} {l : List α} {g : α → Dev → Dev}
    (hg : ∀ x (d : Dev), d.Canonical → (g x d).Canonical) : (l.foldl (fun d x => g x d) d).Canonical :=
  List.foldlRecOn l _ h fun _ hd x _ => hg x _ hd

end

theorem Dev.Canonical.iteFst {α : Type} {p q : Dev × α} {c : Prop} {_ : Decidable c} (hp : p.1.Canonical)
    (hq : q.1.Canonical) : (if c then p else q).1.Canonical := by
  split
  · exact hp
  · exact hq
theorem Dev.Canonical.foldlFst {α β : Type} {l : List α} {g : α → Dev × β → Dev × β} {p : Dev × β} (hp : p.1.Canonical)
    (hg : ∀ x (p : Dev × β), p.1.Canonical → (g x p).1.Canonical) : (l.foldl (fun p x => g x p) p).1.Canonical :=
  List.foldlRecOn l _ (motive := fun p : Dev × β => p.1.Canonical) hp fun _ h x _ => hg x _ h

theorem RunsCanonical.of {g : Dev → Dev} (hg : ∀ d : Dev, d.Canonical → (g d).Canonical) :
    RunsCanonical fun s => s.run g :=
  ⟨g, fun _ => rfl, hg⟩

end Sys2Proof.Machine
end


section
/-! PROOFS. Every operation of the shared operations, power, pigeonholes and shared events keeps the canonical form. -/

namespace Sys2Proof.Machine

open Sys2Proof

/-! ## Machine/State.lean -/

theorem Dev.Canonical.reset : Dev.reset.Canonical := by
  unfold Dev.Canonical; decide

/-! ## Machine/Ops.lean -/

theorem Dev.Canonical.set {d : Dev} {f : F} {i v : Nat} (h : d.Canonical) : (d.set f i v).Canonical :=
  h.withReg (Store.wf_set _ _ h.reg)
theorem Dev.Canonical.lset {d : Dev} {f : F} {i v : Nat} (h : d.Canonical) : (d.lset f i v).Canonical :=
  h.withLive (Store.wf_set _ _ h.live)
theorem Dev.Canonical.addSat {d : Dev} {f : F} {i n : Nat} (h : d.Canonical) : (d.addSat f i n).Canonical := h.set
theorem Dev.Canonical.addWrap {d : Dev} {f : F} {i n : Nat} (h : d.Canonical) : (d.addWrap f i n).Canonical := h.set
theorem Dev.Canonical.orBits {d : Dev} {f : F} {i m : Nat} (h : d.Canonical) : (d.orBits f i m).Canonical := h.set
theorem Dev.Canonical.setAll {d : Dev} {fs : List F} {i v : Nat} (h : d.Canonical) : (d.setAll fs i v).Canonical :=
  h.foldl fun _ _ h => h.set
theorem Dev.Canonical.setEach {d : Dev} {f : F} {is : List Nat} {v : Nat} (h : d.Canonical) :
    (d.setEach f is v).Canonical :=
  h.foldl fun _ _ h => h.set
theorem Dev.Canonical.each {d : Dev} {n : Nat} {g : Nat → Dev → Dev} (h : d.Canonical)
    (hg : ∀ i (d : Dev), d.Canonical → (g i d).Canonical) : (Dev.each n g d).Canonical :=
  h.foldl hg
theorem Dev.Canonical.forList {α : Type} {d : Dev} {l : List α} {g : α → Dev → Dev} (h : d.Canonical)
    (hg : ∀ x (d : Dev), d.Canonical → (g x d).Canonical) : (Dev.forList l g d).Canonical :=
  h.foldl hg
theorem Dev.Canonical.when {d : Dev} {b : Bool} {g : Dev → Dev} (h : d.Canonical)
    (hg : ∀ d : Dev, d.Canonical → (g d).Canonical) : (d.when b g).Canonical :=
  .ite (hg _ h) h
theorem Dev.Canonical.send {d : Dev} {o : Out} (h : d.Canonical) : (d.send o).Canonical := .same h
theorem Dev.Canonical.drawn {d : Dev} (h : d.Canonical) : d.drawn.Canonical := .same h
theorem Dev.Canonical.pass {d : Dev} {u c : Nat} (h : d.Canonical) : (d.pass u c).Canonical := .same h.set.set
theorem Dev.Canonical.runUnits {d : Dev} {u : Nat} (h : d.Canonical) : (d.runUnits u).Canonical := h.pass
theorem Dev.Canonical.cycle {d : Dev} (h : d.Canonical) : d.cycle.Canonical := .ite h.pass h.pass.set.set
theorem Dev.Canonical.runSlew {stop : Dev → Bool} {fuel : Nat} {d : Dev} (h : d.Canonical) :
    (Dev.runSlew stop fuel d).Canonical := by
  induction fuel generalizing d with
  | zero => exact h
  | succ fuel ih => exact .ite h (ih h.cycle)
theorem Dev.Canonical.runToTick {d : Dev} (h : d.Canonical) : d.runToTick.Canonical := h.runSlew.runUnits
theorem Dev.Canonical.runClk {d : Dev} {t : Nat} (h : d.Canonical) : (d.runClk t).Canonical := h.runSlew.runUnits
theorem Dev.Canonical.onTime {d : Dev} {deadline : Nat} {f : Dev → Dev} (h : d.Canonical)
    (hf : ∀ d : Dev, d.Canonical → (f d).Canonical) : (Dev.onTime deadline f d).Canonical :=
  .ite (hf _ h) (.ite (hf _ h.runClk) h)
theorem Dev.Canonical.askWrite {d : Dev} {flag first last : F} {i : Nat} (h : d.Canonical) :
    (d.askWrite flag first last i).Canonical :=
  (Dev.Canonical.ite h h.set.set).set
theorem Dev.Canonical.askTake {d : Dev} {flag first last : F} {i : Nat} (h : d.Canonical) :
    (d.askTake flag first last i).Canonical :=
  .ite h.set h.set
theorem Dev.Canonical.setNow {d : Dev} {v : Nat} (h : d.Canonical) : (d.setNow v).Canonical := h.set

/-! ## Machine/PowerBase.lean -/

theorem Dev.Canonical.wakeOne {d : Dev} {k code : Nat} (h : d.Canonical) : (d.wakeOne k code).Canonical :=
  .ite h (.ite h.set.set.set.set.set.set (.ite h.set h.set))
theorem Dev.Canonical.wake {d : Dev} {k code : Nat} (h : d.Canonical) : (d.wake k code).Canonical :=
  (h.forList fun _ _ h => h.wakeOne).forList fun _ _ h => h.wakeOne

/-! ## Machine/Pigeonhole.lean -/

theorem Dev.Canonical.sendMsix {d : Dev} {v : Nat} (h : d.Canonical) : (d.sendMsix v).Canonical := by
  have hp := insertNat_rising v h.pba
  unfold Dev.sendMsix
  exact .ite (.ite (h.set.withPba hp).set.send (h.set.withPba hp)) (.ite (h.withPba hp) h.set.send)
theorem Dev.Canonical.flushPba {d : Dev} (h : d.Canonical) : d.flushPba.Canonical :=
  h.forList fun v _ h => (h.withPba (removeNat_rising v h.pba)).sendMsix
theorem Dev.Canonical.issueFor {d : Dev} {x s : Nat} (h : d.Canonical) : (d.issueFor x s).Canonical :=
  .ite h.addSat.sendMsix h.addSat.set.send
theorem Dev.Canonical.issue {d : Dev} {x : Nat} (h : d.Canonical) : (d.issue x).Canonical := by
  unfold Dev.issue
  split
  · exact h
  · exact h.issueFor
theorem Dev.Canonical.release {d : Dev} {x : Nat} (h : d.Canonical) : (d.release x).Canonical := .ite h.set.set.issue h
theorem Dev.Canonical.dropHold {d : Dev} {x : Nat} (h : d.Canonical) : (d.dropHold x).Canonical := h.set.set
theorem Dev.Canonical.decideMessage {d : Dev} {x s : Nat} (h : d.Canonical) : (d.decideMessage x s).Canonical := by
  unfold Dev.decideMessage
  extract_lets -underBinder d1 d2
  have h2 : d2.Canonical := .ite (.ite h.wake h) (Dev.Canonical.ite h.wake h).set.set.set
  exact .ite (.ite h2 h2.issueFor) (.ite h2 h2.set.set.set)
theorem Dev.Canonical.settle {d : Dev} {x : Nat} (h : d.Canonical) : (d.settle x).Canonical := by
  unfold Dev.settle
  split
  · exact h.set
  · exact .ite h h.set.decideMessage
theorem Dev.Canonical.settleAll {d : Dev} (h : d.Canonical) : d.settleAll.Canonical := h.each fun _ _ h => h.settle
theorem Dev.Canonical.settleSource {d : Dev} {s : Nat} (h : d.Canonical) : (d.settleSource s).Canonical := h.settle
theorem Dev.Canonical.countHeld {d : Dev} {s : Nat} (h : d.Canonical) : (d.countHeld s).Canonical :=
  .ite (.ite h.release h.set) h
theorem Dev.Canonical.occur {d : Dev} {s : Nat} (h : d.Canonical) : (d.occur s).Canonical :=
  (h.addWrap.withPending (insertNat_rising s h.pending)).countHeld.settleSource
theorem Dev.Canonical.raise {d : Dev} {s : Nat} (h : d.Canonical) : (d.raise s).Canonical := .ite h h.occur
theorem Dev.Canonical.pend {d : Dev} {s : Nat} (h : d.Canonical) : (d.pend s).Canonical :=
  h.withPending (insertNat_rising s h.pending)
theorem Dev.Canonical.setLine {d : Dev} {s : Nat} {high : Bool} (h : d.Canonical) : (d.setLine s high).Canonical :=
  .ite (.ite h h.set.occur) h.set
theorem Dev.Canonical.repend {d : Dev} {s : Nat} (h : d.Canonical) : (d.repend s).Canonical := .ite h.pend h
theorem Dev.Canonical.claim {d : Dev} {x : Nat} {req : Requester} (h : d.Canonical) : (d.claim x req).Canonical := by
  unfold Dev.claim
  refine .ite h.send ?_
  extract_lets -underBinder p d1
  split
  · exact h.set.addSat.settle.send
  · next s _ =>
    extract_lets -underBinder w d2
    have h2 : d2.Canonical := .ite h.set.set h.set
    exact .send (.settle (.same (h2.withPending (removeNat_rising s h2.pending))))
theorem Dev.Canonical.completeFault {d : Dev} {x s kind : Nat} (h : d.Canonical) :
    (d.completeFault x s kind).Canonical :=
  (Dev.Canonical.ite h.set h.set).set.set.set.addSat.raise
theorem Dev.Canonical.finish {d : Dev} {x s : Nat} (h : d.Canonical) : (d.finish x s).Canonical :=
  (Dev.Canonical.same h).repend
theorem Dev.Canonical.complete {d : Dev} {x s : Nat} {req : Requester} (h : d.Canonical) :
    (d.complete x s req).Canonical := by
  unfold Dev.complete
  refine .ite h ?_
  refine .ite ?_ (.ite h.finish.settle.settleSource h.completeFault)
  split
  · exact h.completeFault
  · exact .ite h.finish.settle.settleSource h.completeFault
theorem Dev.Canonical.resetTarget {d : Dev} {x : Nat} (h : d.Canonical) : (d.resetTarget x).Canonical :=
  ((Dev.Canonical.ite h.dropHold.set h).forList fun _ _ h => h.finish).settle.forList fun _ _ h => h.settleSource
theorem Dev.Canonical.writePending {d : Dev} {w v hw : Nat} (h : d.Canonical) : (d.writePending w v hw).Canonical := by
  unfold Dev.writePending
  refine ((h.each fun b _ h => ?_).each fun _ _ h => .ite h.raise h).settleAll
  exact .ite h (.ite h.pend (h.withPending (removeNat_rising (32 * w + b) h.pending)).repend)
theorem Dev.Canonical.writeMask {d : Dev} {w v : Nat} (h : d.Canonical) : (d.writeMask w v).Canonical :=
  ((h.each fun _ _ h => .ite h h.set).each fun _ _ h => .ite (.ite h.set (.ite h.set h)) h).settleAll
theorem Dev.Canonical.writeIdle {d : Dev} {x : Nat} {idle : Bool} (h : d.Canonical) : (d.writeIdle x idle).Canonical :=
  .ite (.ite h.set.release h.set) h
theorem execClaim_canonical {x : Fin 74} {req : Requester} : RunsCanonical (execClaim x req) :=
  .of fun _ h => h.claim
theorem execComplete_canonical {x : Fin 74} {source : BitVec 10} {req : Requester} : RunsCanonical (execComplete x
  source req) :=
  .of fun _ h => h.complete
theorem execPendingWrite_canonical {w : Fin 32} {v hw : Word} : RunsCanonical (execPendingWrite w v hw) :=
  .of fun _ h => h.writePending
theorem execMaskWrite_canonical {w : Fin 32} {v : Word} : RunsCanonical (execMaskWrite w v) :=
  .of fun _ h => h.writeMask
theorem execTargetIdleWrite_canonical {x : Fin 64} {idle : Bool} : RunsCanonical (execTargetIdleWrite x idle) :=
  .of fun _ h => h.writeIdle
theorem execPhClearStats_canonical : RunsCanonical (execPhClearStats) :=
  .of fun _ h => h.each fun _ _ h => h.set.set
theorem execModerationTimeout_canonical {x : Fin 74} : RunsCanonical (execModerationTimeout x) :=
  .of fun _ h => .ite (h.onTime fun _ h => h.release) h
theorem execCoreWaitHalt_canonical {x : Fin 10} : RunsCanonical (execCoreWaitHalt x) :=
  .of fun _ h => h.set.release

/-! ## Machine/Events.lean -/

theorem Dev.Canonical.refuse {d : Dev} {resource index requester holder : Nat} (h : d.Canonical) :
    (d.refuse resource index requester holder).Canonical :=
  h.set.set.set.set.addSat.set.raise
theorem Dev.Canonical.toTaps {d : Dev} {mask src info time : Nat} {falling : Bool} {lanes : List Nat} (h :
    d.Canonical) :
    (d.toTaps mask src info time falling lanes).Canonical :=
  .ite h (.same h)
theorem Dev.Canonical.xtrigEvent {d : Dev} {src : Nat} (h : d.Canonical) : (d.xtrigEvent src).Canonical :=
  h.each fun _ _ h => .ite (.ite h.addSat.raise h.set.send.toTaps) h
theorem Dev.Canonical.trigger {d : Dev} {src lane info time : Nat} (h : d.Canonical) :
    (d.trigger src lane info time).Canonical :=
  h.toTaps.xtrigEvent
theorem Dev.Canonical.raiseLane {d : Dev} {n i : Nat} (h : d.Canonical) : (d.raiseLane n i).Canonical := h.raise
theorem Dev.Canonical.raiseEngine {d : Dev} {e i : Nat} (h : d.Canonical) : (d.raiseEngine e i).Canonical := h.raise
theorem Dev.Canonical.raiseTile {d : Dev} {t i : Nat} (h : d.Canonical) : (d.raiseTile t i).Canonical := h.raise
theorem Dev.Canonical.syncCourier {d : Dev} {n : Nat} (h : d.Canonical) : (d.syncCourier n).Canonical := h.setLine
theorem Dev.Canonical.syncLink {d : Dev} (h : d.Canonical) : d.syncLink.Canonical := h.setLine
theorem Dev.Canonical.syncQueue {d : Dev} {q : Nat} (h : d.Canonical) : (d.syncQueue q).Canonical :=
  h.setLine.setLine.setLine.setLine
theorem Dev.Canonical.syncLaser {d : Dev} {e : Nat} (h : d.Canonical) : (d.syncLaser e).Canonical := h.setLine
theorem Dev.Canonical.syncBias {d : Dev} {t : Nat} (h : d.Canonical) : (d.syncBias t).Canonical := h.setLine
theorem Dev.Canonical.syncHk {d : Dev} {t : Nat} (h : d.Canonical) : (d.syncHk t).Canonical := h.setLine

end Sys2Proof.Machine
end


section
/-! PROOFS. Every operation of squelch, bias outputs, the courier channel and spread groups keeps the canonical form. -/

namespace Sys2Proof.Machine

open Sys2Proof

/-! ## Machine/Squelch.lean -/

theorem Dev.Canonical.rampBegin {d : Dev} {n out : Nat} (h : d.Canonical) : (d.rampBegin n out).Canonical :=
  h.set.set.set.set
theorem Dev.Canonical.rampReverse {d : Dev} {n : Nat} (h : d.Canonical) : (d.rampReverse n).Canonical := h.set.set.set
theorem Dev.Canonical.syncTx {d : Dev} {n : Nat} (h : d.Canonical) : (d.syncTx n).Canonical :=
  (Dev.Canonical.ite h.rampReverse h).set

/-! ## Machine/Bias.lean -/

theorem Dev.Canonical.watchSine {i : Nat} {d : Dev} (h : d.Canonical) : (d.watchSine i).Canonical :=
  .ite h.set.set.syncBias h.set
theorem Dev.Canonical.noteAcc {d : Dev} {i : Nat} (h : d.Canonical) : (d.noteAcc i).Canonical := h.set.set
theorem Dev.Canonical.sineReject {d : Dev} {i : Nat} (h : d.Canonical) : (d.sineReject i).Canonical := h.set.syncBias
theorem Dev.Canonical.sineTrigger {d : Dev} {i : Nat} (h : d.Canonical) : (d.sineTrigger i).Canonical := by
  unfold Dev.sineTrigger
  extract_lets -underBinder inc rate fresh ok changed d1 d2 d3
  have h2 : d2.Canonical := h.watchSine.noteAcc.set.lset
  have h3 : d3.Canonical := .ite h2.lset.lset (.ite h2.sineReject h2)
  exact .ite (.ite h3.set (.ite h3.set.set.set (.ite h3.sineReject h3))) (.ite (.ite h3.set h3.set.set) h3)
theorem Dev.Canonical.putTarget {d : Dev} {i v : Nat} (h : d.Canonical) : (d.putTarget i v).Canonical :=
  .ite h.set h.set.set.syncBias
theorem Dev.Canonical.ledgerMove {d : Dev} {i : Nat} {v : ℤ} (h : d.Canonical) : (d.ledgerMove i v).Canonical :=
  h.putTarget.set
theorem Dev.Canonical.ledgerUndo {d : Dev} {i : Nat} (h : d.Canonical) : (d.ledgerUndo i).Canonical :=
  h.each fun _ _ h => h.each fun _ _ h => .ite h.set h
theorem Dev.Canonical.applyTrims {d : Dev} {i : Nat} (h : d.Canonical) : (d.applyTrims i).Canonical := h.set
theorem Dev.Canonical.updateTrigger {i : Nat} {d : Dev} (h : d.Canonical) : (d.updateTrigger i).Canonical :=
  .ite (.ite (.ite h.sineTrigger.set.set.set.set.applyTrims h.sineTrigger.set.applyTrims)
    h.sineTrigger.set.applyTrims) h
theorem Dev.Canonical.alignTimer {t : Nat} {d : Dev} (h : d.Canonical) : (d.alignTimer t).Canonical :=
  .ite h.set.set h.set
theorem Dev.Canonical.timersStepped {d : Dev} {v0 : Nat} (h : d.Canonical) : (d.timersStepped v0).Canonical :=
  h.each fun _ _ h => h.set.set
theorem Dev.Canonical.biasTick {done : Bool} {t : Nat} {d : Dev} (h : d.Canonical) : (d.biasTick done t).Canonical := by
  unfold Dev.biasTick
  extract_lets -underBinder d1
  have h1 : d1.Canonical := h.each fun _ _ h => h.watchSine
  exact .ite (h1.alignTimer.each fun _ _ h => .ite h.updateTrigger h) h1
theorem Dev.Canonical.zeroScale {d : Dev} {i : Nat} (h : d.Canonical) : (d.zeroScale i).Canonical := h.setAll
theorem Dev.Canonical.enterZero {d : Dev} {i : Nat} (h : d.Canonical) : (d.enterZero i).Canonical :=
  h.zeroScale.set.set.raiseTile
theorem Dev.Canonical.latchZero {b i : Nat} {d : Dev} (h : d.Canonical) : (d.latchZero b i).Canonical :=
  .ite (.ite h.orBits.enterZero h.orBits) h
theorem Dev.Canonical.latchZeros {d : Dev} {b : Nat} {p : Nat → Bool} (h : d.Canonical) :
    (d.latchZeros b p).Canonical :=
  h.each fun _ _ h => .ite h.latchZero h
theorem Dev.Canonical.biasRestart {d : Dev} {i : Nat} (h : d.Canonical) : (d.biasRestart i).Canonical :=
  h.zeroScale.set.set.set
theorem Dev.Canonical.biasOff {d : Dev} {i : Nat} {clear : Bool} (h : d.Canonical) : (d.biasOff i clear).Canonical :=
  .ite h.zeroScale.set.set.set h.zeroScale.set.set
theorem Dev.Canonical.setVbias {d : Dev} {ok : Bool} (h : d.Canonical) : (d.setVbias ok).Canonical :=
  h.setEach.each fun _ _ h => h.syncTx
theorem Dev.Canonical.biasWrite {d : Dev} {i v : Nat} (h : d.Canonical) : (d.biasWrite i v).Canonical :=
  .ite h.set.set.putTarget.set.addSat.set.ledgerUndo.syncBias h.set.set.putTarget
theorem execBiasTargetWrite_canonical {x : Fin 160} {v : BitVec 16} : RunsCanonical (execBiasTargetWrite x v) :=
  .of fun _ h => h.biasWrite
theorem execBiasUpdateTrigger_canonical {t : Fin 4} : RunsCanonical (execBiasUpdateTrigger t) :=
  .of fun _ h => h.onTime fun _ h => h.set.each fun _ _ h => .ite h h.updateTrigger
theorem execDeglitchRelease_canonical {x : Fin 160} : RunsCanonical (execDeglitchRelease x) :=
  .of fun _ h => .ite (h.onTime fun _ h => h.set) h
theorem execSineStop_canonical {x : Fin 160} : RunsCanonical (execSineStop x) :=
  .of fun _ h => .ite (h.onTime fun _ h => h.set.set) h
theorem Dev.Canonical.restartCause {d : Dev} {i : Nat} (h : d.Canonical) : (d.restartCause i).Canonical :=
  .ite h.orBits h
theorem Dev.Canonical.leaveForced {i : Nat} {d : Dev} (h : d.Canonical) : (d.leaveForced i).Canonical :=
  .ite h.restartCause.set h.restartCause.enterZero
theorem execForcedZeroEnd_canonical {x : Fin 160} : RunsCanonical (execForcedZeroEnd x) :=
  .of fun _ h => .ite (h.onTime fun _ h => h.leaveForced) h
theorem execBiasOverload_canonical {x : Fin 160} : RunsCanonical (execBiasOverload x) :=
  .of fun _ h => .ite h h.latchZero
theorem execVbiasLow_canonical : RunsCanonical (execVbiasLow) :=
  .of fun _ h => h.latchZeros.setVbias
theorem execVbiasRecovered_canonical : RunsCanonical (execVbiasRecovered) :=
  .of fun _ h => h.setVbias
theorem execCompliance_canonical {x : Fin 160} {out : Bool} : RunsCanonical (execCompliance x out) :=
  .of fun _ h => .ite (.ite h.set.set.syncBias h.set) h
theorem execBiasRelease_canonical {x : Fin 160} : RunsCanonical (execBiasRelease x) :=
  .of fun _ h => .ite (.ite h.set.syncBias h.set.set) h
theorem execBiasClearStats_canonical {x : Fin 160} : RunsCanonical (execBiasClearStats x) :=
  .of fun _ h => h.set

/-! ## Machine/Courier.lean -/

theorem Dev.Canonical.showDlq {d : Dev} (h : d.Canonical) : d.showDlq.Canonical := by
  unfold Dev.showDlq
  extract_lets -underBinder d1
  split
  · exact h.set
  · exact h.set.set.set.set.set.set.set.set.set.set.set
theorem Dev.Canonical.deadLetter {d : Dev} {lane : Nat} {recv : Bool} {reason id gen len mode : Nat} {bytes : List Byte}
    (h : d.Canonical) : (d.deadLetter lane recv reason id gen len mode bytes).Canonical := by
  unfold Dev.deadLetter
  refine .ite h.addSat.set.syncCourier ?_
  exact .syncCourier (.set (.showDlq (.same (h.drawn.withCmem (Mem.wf_writeBytes _ _ h.cmem)))))
theorem Dev.Canonical.msgDone {d : Dev} {m : CourMsg} {sent : Bool} (h : d.Canonical) : (d.msgDone m sent).Canonical :=
  h.set.orBits.set.syncCourier
theorem Dev.Canonical.msgDead {d : Dev} {m : CourMsg} {reason : Nat} (h : d.Canonical) :
    (d.msgDead m reason).Canonical :=
  h.deadLetter.msgDone
theorem Dev.Canonical.submit {d : Dev} {n slot mode id len rep : Nat} (h : d.Canonical) :
    (d.submit n slot mode id len rep).Canonical :=
  .ite (Dev.Canonical.same h.set.set.set.set).set.orBits.wake h.set.set.set.set
theorem Dev.Canonical.copyStart {d : Dev} {n : Nat} (h : d.Canonical) : (d.copyStart n).Canonical := by
  unfold Dev.copyStart
  refine .ite ?_ h
  split
  · exact h
  · exact (Dev.Canonical.same h).set.set
theorem Dev.Canonical.copyDone {d : Dev} {n : Nat} (h : d.Canonical) : (d.copyDone n).Canonical := by
  unfold Dev.copyDone
  split
  · exact h
  · exact .ite (Dev.Canonical.same h.addSat.set.set.set).msgDone (.same h.addSat.set.set.set)
theorem Dev.Canonical.copyCut {d : Dev} {n : Nat} (h : d.Canonical) : (d.copyCut n).Canonical := by
  unfold Dev.copyCut
  split
  · exact h
  · refine .ite ?_ ?_
    · exact .ite (Dev.Canonical.same h.addSat.set.set).msgDead (Dev.Canonical.same h.addSat.set.set).msgDone
    · exact .same h.addSat.set.set
theorem Dev.Canonical.removeQueued {d : Dev} {n : Nat} (h : d.Canonical) : (d.removeQueued n).Canonical :=
  (Dev.Canonical.same h).forList fun _ _ h => h.msgDead
theorem Dev.Canonical.syncCourTx {d : Dev} {n : Nat} (h : d.Canonical) : (d.syncCourTx n).Canonical := by
  unfold Dev.syncCourTx
  extract_lets -underBinder d1 d2
  have h2 : d2.Canonical := .ite (.ite h.set.set h) (Dev.Canonical.ite h.set.set h).copyCut
  exact .ite h2 h2.removeQueued
theorem execCourierSubmit_canonical {n : Fin 64} {slot rep : BitVec 2} {mode : BitVec 3} {id : BitVec 10} {len : BitVec
  12} : RunsCanonical (execCourierSubmit n slot rep mode id len) :=
  .of fun _ h => h.submit
theorem execQuarantineExpire_canonical {n : Fin 64} {id : BitVec 10} : RunsCanonical (execQuarantineExpire n id) := by
  refine .of fun _ h => ?_
  split
  · exact h
  · exact h.onTime fun _ h => .same h
theorem execQuarantineAllEnd_canonical {n : Fin 64} : RunsCanonical (execQuarantineAllEnd n) :=
  .of fun _ h => .ite (h.onTime fun _ h => h.set) h
theorem execCopyDone_canonical {n : Fin 64} : RunsCanonical (execCopyDone n) := by
  refine .of fun _ h => ?_
  split
  · exact h
  · exact h.onTime fun _ h => h.copyDone
theorem execLifetimeExpire_canonical {n : Fin 64} {slot : Fin 4} : RunsCanonical (execLifetimeExpire n slot) := by
  refine .of fun _ h => ?_
  split
  · exact h
  · exact h.onTime fun _ h => .ite h (.ite (Dev.Canonical.same h).msgDead (Dev.Canonical.same h).msgDone)
theorem Dev.Canonical.syncCourRx {d : Dev} {n : Nat} (h : d.Canonical) : (d.syncCourRx n).Canonical :=
  .ite (.ite h.set h) (.ite h (Dev.Canonical.ite h h.addSat).set)
theorem Dev.Canonical.beginRx {d : Dev} {n pwr : Nat} (h : d.Canonical) : (d.beginRx n pwr).Canonical := h.set.set.set
theorem Dev.Canonical.preamble {d : Dev} {n pwr : Nat} (h : d.Canonical) : (d.preamble n pwr).Canonical := by
  unfold Dev.preamble
  refine .ite ?_ ?_
  · exact h
  · exact .ite h.addSat.set.beginRx (.ite h.addSat.set.addSat.beginRx (.ite h.addSat.set.addSat.beginRx
    h.addSat.set.addSat.set))
theorem Dev.Canonical.header {d : Dev} {n h : Nat} (hd : d.Canonical) : (d.header n h).Canonical :=
  .ite (.ite hd.addSat.set (.ite hd.addSat.set (hd.each fun _ _ h => h.set).set.set)) hd
theorem Dev.Canonical.recommendAll {d : Dev} {n : Nat} (h : d.Canonical) : (d.recommendAll n).Canonical :=
  (h.each fun _ _ h => h.set).set
theorem Dev.Canonical.measure {d : Dev} {n : Nat} {mse : List Nat} (h : d.Canonical) : (d.measure n mse).Canonical :=
  (h.forList fun _ _ h => h.set.set).set.addSat.recommendAll
theorem Dev.Canonical.stampSlot {d : Dev} {n s : Nat} (h : d.Canonical) : (d.stampSlot n s).Canonical := h.set.set
theorem Dev.Canonical.showOldest {d : Dev} {n : Nat} (h : d.Canonical) : (d.showOldest n).Canonical := by
  unfold Dev.showOldest
  split
  · exact h
  · exact h.set
theorem Dev.Canonical.deliver {d : Dev} {n h' : Nat} {bytes : List Byte} (h : d.Canonical) :
    (d.deliver n h' bytes).Canonical := by
  unfold Dev.deliver
  extract_lets -underBinder id gen loop d1 same d2 d3
  have h1 : d1.Canonical := .ite h.addSat h
  refine .ite h1.addSat (.trigger (d := d3) ?_)
  unfold d3
  split
  · exact h1.same.deadLetter
  · exact (h1.same.withCmem (Mem.wf_writeBytes _ _ h1.cmem)).orBits.stampSlot.showOldest.set.set.set.set.set.set.set.set.set.syncCourier
theorem Dev.Canonical.payload {d : Dev} {n : Nat} {bytes : List Byte} {crc : Word} {mse : List Nat} (h : d.Canonical)
    :
    (d.payload n bytes crc mse).Canonical :=
  .ite (.ite h.measure.set.addSat.deliver h.measure.set.addSat) h
theorem execCourierRxRelease_canonical {n : Fin 64} {slots : BitVec 4} : RunsCanonical (execCourierRxRelease n slots) :=
  .of fun _ h => (h.each fun _ _ h => .ite h.set.stampSlot h).showOldest
theorem execDlqPop_canonical : RunsCanonical (execDlqPop) := by
  refine .of fun _ h => ?_
  split
  · exact h
  · exact (Dev.Canonical.same h).showDlq
theorem execKnock_canonical {n : Fin 64} {bursts : BitVec 2} : RunsCanonical (execKnock n bursts) :=
  .of fun _ h => .ite h h.set.set.set
theorem execKnockDropped_canonical {n : Fin 64} : RunsCanonical (execKnockDropped n) :=
  .of fun _ h => .ite (h.onTime fun _ h => h.set.set.set.syncCourier) h
theorem execKnockBurstsEnd_canonical {n : Fin 64} : RunsCanonical (execKnockBurstsEnd n) :=
  .of fun _ h => .ite (h.onTime fun _ h => h.set.set.set) h
theorem execCourClearStats_canonical {n : Fin 64} : RunsCanonical (execCourClearStats n) :=
  .of fun _ h => ((h.setAll.each fun _ _ h => h.set).each fun _ _ h => h.set).recommendAll
theorem Dev.Canonical.postMap {d : Dev} {n : Nat} {f : F} (h : d.Canonical) : (d.postMap n f).Canonical :=
  .ite h.set.syncCourier (h.each fun _ _ h => h.lset)
theorem Dev.Canonical.postCourLane {n : Nat} {d : Dev} (h : d.Canonical) : (d.postCourLane n).Canonical :=
  h.postMap.postMap.postMap.postMap.syncCourTx.syncCourRx
theorem Dev.Canonical.postCourHub {d : Dev} (h : d.Canonical) : d.postCourHub.Canonical :=
  .ite (Dev.Canonical.ite h.lset h).lset (.ite h.lset h)

/-! ## Machine/SpreadBase.lean -/

theorem Dev.Canonical.rebase {g : Nat} {d : Dev} (h : d.Canonical) : (d.rebase g).Canonical := h.set.set
theorem Dev.Canonical.setAllow {d : Dev} {g a : Nat} (h : d.Canonical) : (d.setAllow g a).Canonical := h.rebase.set.set
theorem Dev.Canonical.dropLock {d : Dev} {g : Nat} (h : d.Canonical) : (d.dropLock g).Canonical :=
  .ite (Dev.Canonical.same h.set.setAll).raiseEngine.trigger h
theorem Dev.Canonical.toHunt {d : Dev} {g : Nat} (h : d.Canonical) : (d.toHunt g).Canonical := h.dropLock.set.set.set
theorem Dev.Canonical.clearAnchors {d : Dev} {g : Nat} (h : d.Canonical) : (d.clearAnchors g).Canonical := h.set
theorem Dev.Canonical.followTiming {n : Nat} {d : Dev} (h : d.Canonical) : (d.followTiming n).Canonical :=
  .ite h (.ite h.set.set.set.set.drawn h.set.set.set)
theorem Dev.Canonical.groupTiming {d : Dev} {n : Nat} (h : d.Canonical) : (d.groupTiming n).Canonical :=
  h.forList fun _ _ h => h.followTiming
theorem Dev.Canonical.groupLaneLost {d : Dev} {n : Nat} (h : d.Canonical) : (d.groupLaneLost n).Canonical :=
  .ite h.set.set.set.set (.ite h.set.set.toHunt h.set.set)
theorem Dev.Canonical.groupFollow {g : Nat} {d : Dev} (h : d.Canonical) : (d.groupFollow g).Canonical :=
  .ite h.toHunt.clearAnchors.set h
theorem Dev.Canonical.groupRestart {d : Dev} {g : Nat} (h : d.Canonical) : (d.groupRestart g).Canonical :=
  .ite h.set.groupFollow h.set.toHunt.clearAnchors
theorem Dev.Canonical.groupOff {d : Dev} {g : Nat} (h : d.Canonical) : (d.groupOff g).Canonical :=
  h.dropLock.clearAnchors.set.set.set

end Sys2Proof.Machine
end


section
/-! PROOFS. Every operation of receive and transmit lanes and laser sources keeps the canonical form. -/

namespace Sys2Proof.Machine

open Sys2Proof

/-! ## Machine/Lrx.lean -/

theorem Dev.Canonical.boundHit {d : Dev} {n : Nat} (h : d.Canonical) : (d.boundHit n).Canonical := h.set.raiseLane
theorem Dev.Canonical.putTap {n i : Nat} {v : ℤ} {p : Dev × Bool} (h : p.1.Canonical) :
    (Dev.putTap n i v p).1.Canonical :=
  h.lset
theorem Dev.Canonical.putNlc {n j : Nat} {v : ℤ} {p : Dev × Bool} (h : p.1.Canonical) :
    (Dev.putNlc n j v p).1.Canonical :=
  h.lset
theorem Dev.Canonical.putLevel {n j : Nat} {v : ℤ} {p : Dev × Bool} (h : p.1.Canonical) :
    (Dev.putLevel n j v p).1.Canonical :=
  h.lset
theorem Dev.Canonical.bounded {n count : Nat} {g : Nat → Dev × Bool → Dev × Bool} {d : Dev} (h : d.Canonical)
    (hg : ∀ i (p : Dev × Bool), p.1.Canonical → (g i p).1.Canonical) : (Dev.bounded n count g d).Canonical := by
  have hp : ((List.range count).foldl (fun p i => g i p) (d, false)).1.Canonical := .foldlFst h hg
  exact .ite hp.boundHit hp
theorem Dev.Canonical.loadTaps {d : Dev} {n : Nat} (h : d.Canonical) : (d.loadTaps n).Canonical :=
  h.bounded fun _ _ h => h.putTap
theorem Dev.Canonical.loadNlc {d : Dev} {n : Nat} (h : d.Canonical) : (d.loadNlc n).Canonical :=
  h.bounded fun _ _ h => h.putNlc
theorem Dev.Canonical.loadLevels {d : Dev} {n : Nat} (h : d.Canonical) : (d.loadLevels n).Canonical :=
  h.bounded fun _ _ h => h.putLevel
theorem Dev.Canonical.clampAll {d : Dev} {n : Nat} (h : d.Canonical) : (d.clampAll n).Canonical := by
  unfold Dev.clampAll
  exact ((h.bounded fun _ _ h => h.putTap).bounded fun _ _ h => h.putNlc).bounded fun _ _ h => h.putLevel
theorem Dev.Canonical.saveAdapt {d : Dev} {n : Nat} (h : d.Canonical) : (d.saveAdapt n).Canonical :=
  (((h.each fun _ _ h => h.set).each fun _ _ h => h.set).each fun _ _ h => h.set).set.set
theorem Dev.Canonical.chooseSeeds {d : Dev} {n : Nat} (h : d.Canonical) : (d.chooseSeeds n).Canonical := by
  unfold Dev.chooseSeeds
  refine .ite h.loadTaps.loadNlc.loadLevels ?_
  refine .ite ?_ ?_
  · exact ((h.each fun _ _ h => h.lset).each fun _ _ h => h.lset).each fun _ _ h => h.lset
  · exact ((h.each fun _ _ h => h.lset).each fun _ _ h => h.lset).each fun _ _ h => h.lset
theorem Dev.Canonical.noteWindow {d : Dev} {n code len : Nat} (h : d.Canonical) : (d.noteWindow n code len).Canonical :=
  .ite h.set.set.set h.set
theorem Dev.Canonical.openWindow {d : Dev} {n code : Nat} (h : d.Canonical) : (d.openWindow n code).Canonical :=
  .ite h h.set.setAll.set
theorem Dev.Canonical.closeWindows {d : Dev} {n pos : Nat} (h : d.Canonical) : (d.closeWindows n pos).Canonical :=
  (Dev.Canonical.ite h h.set.set.set.set).setAll
theorem Dev.Canonical.endSegs {d : Dev} {n k bad flags : Nat} (h : d.Canonical) : (d.endSegs n k bad flags).Canonical :=
  .ite h.set.addWrap.addWrap.addWrap.addSat.addSat h.set.addWrap.addWrap.addWrap.addSat
theorem Dev.Canonical.countSegs {d : Dev} {n segs lossSegs : Nat} (h : d.Canonical) :
    (d.countSegs n segs lossSegs).Canonical :=
  .ite h.endSegs h.endSegs.endSegs
theorem Dev.Canonical.cutSeg {d : Dev} {n : Nat} (h : d.Canonical) : (d.cutSeg n).Canonical := h.endSegs
theorem Dev.Canonical.beginAcq {d : Dev} {n : Nat} (h : d.Canonical) : (d.beginAcq n).Canonical := h.set.set.setAll
theorem Dev.Canonical.enterGain {d : Dev} {n : Nat} (h : d.Canonical) : (d.enterGain n).Canonical :=
  h.beginAcq.set.set.set
theorem Dev.Canonical.enterWait {d : Dev} {n : Nat} (h : d.Canonical) : (d.enterWait n).Canonical :=
  .ite h.set.setAll.syncCourRx.enterGain h.set.setAll.syncCourRx
theorem Dev.Canonical.leaveLocked {d : Dev} {n : Nat} (h : d.Canonical) : (d.leaveLocked n).Canonical :=
  .ite h.saveAdapt.set.setAll.openWindow.raiseLane.trigger.groupLaneLost.groupTiming.syncTx h
theorem Dev.Canonical.laneDrop {d : Dev} {n : Nat} (h : d.Canonical) : (d.laneDrop n).Canonical :=
  .ite h.leaveLocked.set h
theorem Dev.Canonical.startSegs {d : Dev} {n : Nat} (h : d.Canonical) : (d.startSegs n).Canonical := h.setAll.set
theorem Dev.Canonical.laneRestart {d : Dev} {n : Nat} (h : d.Canonical) : (d.laneRestart n).Canonical :=
  .ite h h.leaveLocked.openWindow.addSat.chooseSeeds.set.askTake.startSegs.enterWait
theorem Dev.Canonical.laneUp {d : Dev} {n : Nat} (h : d.Canonical) : (d.laneUp n).Canonical :=
  h.openWindow.chooseSeeds.set.startSegs.enterWait
theorem Dev.Canonical.laneOff {d : Dev} {n : Nat} (h : d.Canonical) : (d.laneOff n).Canonical :=
  h.leaveLocked.set.setAll.syncCourRx
theorem Dev.Canonical.laneSleep {d : Dev} {n : Nat} (h : d.Canonical) : (d.laneSleep n).Canonical :=
  .ite h h.leaveLocked.set.setAll.syncCourRx
theorem Dev.Canonical.laneWake {d : Dev} {n : Nat} (h : d.Canonical) : (d.laneWake n).Canonical :=
  .ite h.beginAcq.set.set.openWindow.set h
theorem Dev.Canonical.laneWakeWait {d : Dev} {n : Nat} (h : d.Canonical) : (d.laneWakeWait n).Canonical :=
  h.openWindow.set.set.enterWait
theorem Dev.Canonical.putFe {d : Dev} {n ctle vga : Nat} (h : d.Canonical) : (d.putFe n ctle vga).Canonical := h.set.set
theorem Dev.Canonical.gainStep {d : Dev} {n : Nat} {r : RxTick} (h : d.Canonical) : (d.gainStep n r).Canonical :=
  .ite (.ite (Dev.Canonical.ite h.set.set.set h).putFe.set (Dev.Canonical.ite h.set.set.set h).putFe.set) h.putFe.set
theorem Dev.Canonical.enterLocked {d : Dev} {n : Nat} (h : d.Canonical) : (d.enterLocked n).Canonical :=
  h.set.set.set.set.set.raiseLane.set.groupTiming.syncTx
theorem Dev.Canonical.acqStep {d : Dev} {n : Nat} {r : RxTick} (h : d.Canonical) : (d.acqStep n r).Canonical := by
  unfold Dev.acqStep
  extract_lets -underBinder st tl d1 ok d2 low d3
  have h2 : d2.Canonical := (Dev.Canonical.ite h.set h).set.set
  have h3 : d3.Canonical := (Dev.Canonical.ite h.set h).set.set
  refine .ite (Dev.Canonical.ite h.set h).gainStep ?_
  refine .ite ?_ ?_
  · exact .ite (Dev.Canonical.ite h.set h).set (.ite h.set h)
  · exact .ite (.ite h2.enterLocked h2) (.ite (.ite h3.leaveLocked.beginAcq.set h3) (.ite h.set h))
theorem Dev.Canonical.dropChange {d : Dev} {n : Nat} (h : d.Canonical) : (d.dropChange n).Canonical := h.set.addSat
theorem Dev.Canonical.adapt {d : Dev} {n : Nat} {r : RxTick} (h : d.Canonical) : (d.adapt n r).Canonical := by
  unfold Dev.adapt
  refine .ite ?_ h
  extract_lets -underBinder lim loaded go d1 d2
  have branch loop bit l (g : Dev → Dev) (d : Dev) (hd : d.Canonical) (hg : (g d).Canonical) :
      (go loop bit l g d).Canonical := .ite hd (.ite (.ite hd.dropChange hd) hg)
  have h1 : d1.Canonical := branch _ _ _ _ _ h (h.bounded fun _ _ h => h.putTap)
  have h2 : d2.Canonical := branch _ _ _ _ _ h1 (h1.bounded fun _ _ h => h.putNlc)
  exact branch _ _ _ _ _ h2 (h2.bounded fun _ _ h => .iteFst (.iteFst h h.dropChange) h.putLevel)
theorem Dev.Canonical.clerkFreeze {d : Dev} {n m : Nat} (h : d.Canonical) : (d.clerkFreeze n m).Canonical :=
  .ite h h.set.raiseLane
theorem Dev.Canonical.readback {d : Dev} {n : Nat} (h : d.Canonical) : (d.readback n).Canonical := by
  unfold Dev.readback
  extract_lets -underBinder d1 d2 d3
  have h3 : d3.Canonical := ((Dev.Canonical.ite h.set.set h).each fun _ _ h => h.set).each fun _ _ h => h.set
  exact .ite (.ite h.set.set h) (h3.each fun _ _ h => h.set)
theorem Dev.Canonical.checkTick {d : Dev} {n : Nat} {r : RxTick} (h : d.Canonical) : (d.checkTick n r).Canonical :=
  .ite (h.addSat.addSat.each fun _ _ h => h.addSat) h
theorem Dev.Canonical.rxMeasure {d : Dev} {n : Nat} {r : RxTick} (h : d.Canonical) : (d.rxMeasure n r).Canonical := by
  unfold Dev.rxMeasure
  extract_lets -underBinder f d1 d2 d3 d4
  have h2 : d2.Canonical := (Dev.Canonical.ite h h.set).set.set
  have h4 : d4.Canonical := .ite h2.set.set h2.set.set.set
  exact .ite h4.set.raiseLane h4
theorem Dev.Canonical.rxEnd {n : Nat} {r : RxTick} {d : Dev} (h : d.Canonical) : (d.rxEnd n r).Canonical :=
  (Dev.Canonical.ite (h.countSegs.checkTick.set.set.set.each fun _ _ h => h.set) h).setAll
theorem Dev.Canonical.adaptCarried {d : Dev} {n : Fin 64} (h : d.Canonical) : (d.adaptCarried n).Canonical :=
  (Dev.Canonical.same h).forList fun _ _ h => h.adapt.clerkFreeze
theorem Dev.Canonical.rxTick {d : Dev} {all new cat6 : Bool} {n : Fin 64} {r : RxTick} (h : d.Canonical) :
    (d.rxTick all new cat6 n r).Canonical := by
  unfold Dev.rxTick
  extract_lets -underBinder d1 d2 d3 d4 d5 d6
  have h2 : d2.Canonical := .ite (Dev.Canonical.ite h.laneRestart h).addSat (.ite h.laneRestart h)
  have h3 : d3.Canonical := .ite h2 h2.adaptCarried
  have h4 : d4.Canonical := .ite (.same h3) h3.adapt.clerkFreeze.acqStep
  exact (Dev.Canonical.ite h4.rxMeasure h4.rxMeasure.readback).closeWindows.setAll.syncCourRx
theorem Dev.Canonical.post {d : Dev} {f : F} {i : Nat} (h : d.Canonical) : (d.post f i).Canonical := h.lset
theorem Dev.Canonical.postLoad {d : Dev} {n : Nat} {f : F} {bit code len : Nat} {load : Dev → Dev} (h : d.Canonical)
    (hl : ∀ d : Dev, d.Canonical → (load d).Canonical) : (d.postLoad n f bit code len load).Canonical :=
  .ite (hl _ h).set.noteWindow.set h
theorem Dev.Canonical.postLrx {d0 : Dev} {n : Nat} {d : Dev} (h2 : d.Canonical) : (d0.postLrx n d).Canonical := by
  unfold Dev.postLrx
  extract_lets -underBinder d1 d2 d3 changed d4 d5 from_ step d6 d7 d8 cleared d9 d10 d11 d12
  have h1 : d1.Canonical := .ite h2.post.post.post.post h2.set
  have h3 : d3.Canonical := .ite (Dev.Canonical.ite h1.post h1).post (.ite h1.post h1)
  have h5 : d5.Canonical := .ite (.ite h3.noteWindow h3.noteWindow.putFe) h3
  have h6 : d6.Canonical := .ite h5.set.set.noteWindow h5
  have h7 : d7.Canonical := .ite h6.noteWindow h6
  have h10 : d10.Canonical := (Dev.Canonical.ite h7.noteWindow h7).set.postLoad fun _ h => h.loadTaps
  have h12 : d12.Canonical := (h10.postLoad fun _ h => h.loadNlc).postLoad fun _ h => h.loadLevels
  exact h12.clampAll
theorem Dev.Canonical.postAnalog {d : Dev} {by_ : Nat} {group ls : List Nat} {far : Bool} (h : d.Canonical) :
    (d.postAnalog by_ group ls far).Canonical := by
  unfold Dev.postAnalog
  extract_lets -underBinder asks
  clear_value asks
  split
  · exact h
  · refine .ite ?_ ?_
    · exact h.forList fun _ _ h => h.set.refuse
    · exact (h.forList fun _ _ h => .ite h h.dropChange).forList fun _ _ h => h.set.lset.set.set.laneRestart
theorem execSignalDetectAssert_canonical {n : Fin 64} {amplitude : Byte} : RunsCanonical (execSignalDetectAssert n
  amplitude) :=
  .of fun _ h => .ite (h.onTime fun _ h => .ite h.set.enterGain h.set) h
theorem execSignalDetectDeassert_canonical {n : Fin 64} {amplitude : Byte} : RunsCanonical (execSignalDetectDeassert n
  amplitude) :=
  .of fun _ h => .ite (h.onTime fun _ h => h.set.set.raiseLane.set.leaveLocked.enterWait) h
theorem execCycleSlip_canonical {n : Fin 64} : RunsCanonical (execCycleSlip n) :=
  .of fun _ h => .ite h.addSat.leaveLocked.beginAcq.set.set.syncCourRx h.addSat
theorem execAcqFail_canonical {n : Fin 64} : RunsCanonical (execAcqFail n) :=
  .of fun _ h => .ite h.set.raiseLane.chooseSeeds.enterWait h
theorem execReacquire_canonical {n : Fin 64} : RunsCanonical (execReacquire n) :=
  .of fun _ h => h.askWrite
theorem Dev.Canonical.clearChecker {d : Dev} {n : Nat} (h : d.Canonical) : (d.clearChecker n).Canonical :=
  h.setAll.setEach
theorem execLrxClearStats_canonical {n : Fin 64} : RunsCanonical (execLrxClearStats n) :=
  .of fun _ h => h.clearChecker.setAll.setEach
theorem execHoldReadback_canonical {n : Fin 64} : RunsCanonical (execHoldReadback n) :=
  .of fun _ h => h.set.set
theorem execReleaseReadback_canonical {n : Fin 64} : RunsCanonical (execReleaseReadback n) :=
  .of fun _ h => h.set
theorem execShadowRequest_canonical {n : Fin 64} {take : Bool} : RunsCanonical (execShadowRequest n take) :=
  .of fun _ h => .ite (.ite h.set.set.set.wake h.set.set.refuse) (.ite h.set.set.set.set h.set)
theorem Dev.Canonical.shadowBegin {d : Dev} {n eye phase thresh dwell : Nat} (h : d.Canonical) :
    (d.shadowBegin n eye phase thresh dwell).Canonical :=
  h.set.set.set.set.set.set.set
theorem execShadowStart_canonical {n : Fin 64} : RunsCanonical (execShadowStart n) :=
  .of fun _ h => .ite h.shadowBegin h
theorem Dev.Canonical.checkerLost {d : Dev} {n : Nat} (h : d.Canonical) : (d.checkerLost n).Canonical :=
  .ite h.set.setAll.raiseLane h
theorem execCheckerCtrlWrite_canonical {n : Fin 64} {enable : Bool} {pattern : BitVec 3} : RunsCanonical
  (execCheckerCtrlWrite n enable pattern) :=
  .of fun _ h => .ite h (h.set.set.checkerLost.clearChecker.when fun _ h => h.wake)
theorem execCheckerLock_canonical {n : Fin 64} {levels : List (Fin 4)} : RunsCanonical (execCheckerLock n levels) :=
  .of fun _ h => .ite h.set.set.raiseLane h
theorem execCheckerUnlock_canonical {n : Fin 64} {errors : List (Fin 3)} : RunsCanonical (execCheckerUnlock n errors) :=
  .of fun _ h => .ite h.checkerLost.addSat h

/-! ## Machine/Ltx.lean -/

theorem Dev.Canonical.squelchNow {d : Dev} {n : Nat} (h : d.Canonical) : (d.squelchNow n).Canonical :=
  .ite h (Dev.Canonical.ite h.set.set.raiseLane h.set.set).syncCourTx
theorem Dev.Canonical.reachOn {d : Dev} {n : Nat} (h : d.Canonical) : (d.reachOn n).Canonical :=
  h.set.set.raiseLane.syncCourTx
theorem Dev.Canonical.rampDone {d : Dev} {n : Nat} (h : d.Canonical) : (d.rampDone n).Canonical :=
  .ite h.reachOn (.ite h.set.set.raiseLane h)
theorem Dev.Canonical.rampStart {n : Nat} {d : Dev} (h : d.Canonical) : (d.rampStart n).Canonical := by
  unfold Dev.rampStart
  extract_lets -underBinder d1 c d2
  have h2 : d2.Canonical := h.syncTx.rampBegin.syncCourTx
  exact .ite (.ite h.syncTx.reachOn h.syncTx.rampBegin) (.ite (.ite h2.rampDone h2) h.syncTx)
theorem Dev.Canonical.showLoop {d : Dev} {g : Nat} (h : d.Canonical) : (d.showLoop g).Canonical :=
  h.forList fun _ _ h => .ite h.set h
theorem Dev.Canonical.loopPop {d : Dev} {g : Nat} (h : d.Canonical) : (d.loopPop g).Canonical := by
  unfold Dev.loopPop
  split
  · exact h
  · exact (Dev.Canonical.same h).showLoop
theorem Dev.Canonical.loopStart {d : Dev} {g : Nat} (h : d.Canonical) : (d.loopStart g).Canonical := .same h
theorem Dev.Canonical.takeTiming {n : Nat} {d : Dev} (h : d.Canonical) : (d.takeTiming n).Canonical := by
  unfold Dev.takeTiming
  split
  · exact h.set
  · exact .ite h.set.set.set h.set.set
theorem Dev.Canonical.switchSource {n : Nat} {d : Dev} (h : d.Canonical) : (d.switchSource n).Canonical := by
  unfold Dev.switchSource
  extract_lets -underBinder new old d1 d2 d3 d4 d5
  have h2 : d2.Canonical := .ite h.set.set.set h.set
  have h3 : d3.Canonical := (Dev.Canonical.ite h2.loopStart h2).showLoop
  have h5 : d5.Canonical := by
    refine .ite ?_ (.ite (Dev.Canonical.same h2).set.set (.ite (Dev.Canonical.same h2).set h2))
    split
    · exact h3.set
    · exact h3.set.set
  exact .ite h h5.syncCourTx
theorem Dev.Canonical.restartTx {d : Dev} {e : Nat} (h : d.Canonical) : (d.restartTx e).Canonical :=
  h.set.forList fun _ _ h => h.set.set.squelchNow.switchSource.syncTx
theorem Dev.Canonical.startTick {e : Nat} {d : Dev} (h : d.Canonical) : (d.startTick e).Canonical :=
  .ite h.set (.ite (h.set.forList fun _ _ h => h.syncTx) h)
theorem Dev.Canonical.clipTick {n other : Nat} {d : Dev} (h : d.Canonical) : (d.clipTick n other).Canonical :=
  .ite h.set.set.set.addSat.raiseLane h.set.set
theorem Dev.Canonical.dropTx {d : Dev} {n : Nat} (h : d.Canonical) : (d.dropTx n).Canonical := h.set.addSat
theorem Dev.Canonical.refuseTx {d : Dev} {res by_ holder : Nat} {ls : List Nat} (h : d.Canonical) :
    (d.refuseTx res by_ holder ls).Canonical :=
  h.forList fun _ _ h => h.set.refuse.raiseLane
theorem Dev.Canonical.postLevels {d : Dev} {n : Nat} (h : d.Canonical) : (d.postLevels n).Canonical :=
  .ite h.post.post.post.post h.set.raiseLane
theorem Dev.Canonical.showTx {d : Dev} {n : Nat} (h : d.Canonical) : (d.showTx n).Canonical :=
  ((h.each fun _ _ h => h.set).each fun _ _ h => h.set).set
theorem Dev.Canonical.postLtx {d0 : Dev} {n : Nat} {d : Dev} (h2 : d.Canonical) : (d0.postLtx n d).Canonical := by
  unfold Dev.postLtx
  exact (Dev.Canonical.ite h2.postLevels.showTx.set h2.postLevels.showTx).syncTx.syncCourTx
theorem Dev.Canonical.postFar {d : Dev} {by_ : Nat} {group ls srcAsks : List Nat} (h : d.Canonical) :
    (d.postFar by_ group ls srcAsks).Canonical := by
  unfold Dev.postFar
  extract_lets -underBinder asks
  clear_value asks
  split
  · exact h
  · extract_lets -underBinder v d1
    have h1 : d1.Canonical := h.forList fun _ _ h => .ite h h.dropTx
    split
    · exact h1.refuseTx
    · exact h1.forList fun _ _ h => h.set.lset.set
theorem Dev.Canonical.postSource {d : Dev} {by_ : Nat} {group asks : List Nat} (h : d.Canonical) :
    (d.postSource by_ group asks).Canonical := by
  unfold Dev.postSource
  split
  · exact h
  · exact (h.forList fun _ _ h => h.dropTx).refuseTx.forList fun _ _ h => h.set.lset
theorem execLtxClearStats_canonical {n : Fin 64} : RunsCanonical (execLtxClearStats n) :=
  .of fun _ h => h.setAll
theorem execSourceSwitch_canonical {n : Fin 64} : RunsCanonical (execSourceSwitch n) :=
  .of fun _ h => h.forList fun _ _ h => h.switchSource
theorem execSquelchImmediate_canonical {n : Fin 64} : RunsCanonical (execSquelchImmediate n) :=
  .of fun _ h => .ite h.syncTx.squelchNow h.syncTx
theorem execRampStart_canonical {n : Fin 64} : RunsCanonical (execRampStart n) :=
  .of fun _ h => h.forList fun _ _ h => h.rampStart
theorem execRampDone_canonical {n : Fin 64} : RunsCanonical (execRampDone n) :=
  .of fun _ h => .ite (h.onTime fun _ h => h.rampDone) h
theorem execPatternRestart_canonical {n : Fin 64} : RunsCanonical (execPatternRestart n) :=
  .of fun _ h => h.forList fun _ _ h => .ite h.set.set h
theorem execLoopClockSwitch_canonical {n : Fin 64} : RunsCanonical (execLoopClockSwitch n) :=
  .of fun _ h => h.forList fun _ _ h => .ite h.takeTiming h
theorem execLoopRecentre_canonical {n : Fin 64} : RunsCanonical (execLoopRecentre n) :=
  .of fun _ h => .ite ((Dev.Canonical.same h).showLoop.forList fun _ _ h => h.addSat.set.raiseLane) h
theorem execTxPllLock_canonical {e : Fin 8} : RunsCanonical (execTxPllLock e) :=
  .of fun _ h => .ite (h.set.forList fun _ _ h => h.set) h

/-! ## Machine/Laser.lean -/

theorem Dev.Canonical.lsEnter {d : Dev} {e st : Nat} {ev : List F} (h : d.Canonical) : (d.lsEnter e st ev).Canonical :=
  (Dev.Canonical.ite h h.set.set).setAll.syncLaser
theorem Dev.Canonical.lsHold {d : Dev} {e : Nat} (h : d.Canonical) : (d.lsHold e).Canonical := h.setAll
theorem Dev.Canonical.lsLost {d : Dev} {e : Nat} (h : d.Canonical) : (d.lsLost e).Canonical :=
  h.set.forList fun _ _ h => h.syncTx
theorem Dev.Canonical.lsSettle {d : Dev} {e : Nat} {ev : List F} (h : d.Canonical) : (d.lsSettle e ev).Canonical :=
  h.set.lsEnter
theorem Dev.Canonical.lsAccept {d : Dev} {e : Nat} (h : d.Canonical) : (d.lsAccept e).Canonical :=
  .ite (.ite h.lsSettle h.lsEnter) h
theorem Dev.Canonical.lsOff {d : Dev} {e : Nat} (h : d.Canonical) : (d.lsOff e).Canonical := h.lsHold.lsEnter.lsLost
theorem Dev.Canonical.twEnd {d : Dev} {e result : Nat} (h : d.Canonical) : (d.twEnd e result).Canonical :=
  h.set.set.addSat.raiseEngine
theorem Dev.Canonical.lsRemove {d : Dev} {e : Nat} (h : d.Canonical) : (d.lsRemove e).Canonical := by
  unfold Dev.lsRemove
  extract_lets -underBinder st d1 d2 d3
  have h2 : d2.Canonical := .ite h.set.set.syncLaser h.set.lsHold.lsEnter.lsLost
  exact .ite h2.latchZeros.set.set h2.latchZeros
theorem Dev.Canonical.lsFail {d : Dev} {e : Nat} (h : d.Canonical) : (d.lsFail e).Canonical := h.lsHold.lsEnter
theorem Dev.Canonical.lsInit {d : Dev} {e : Nat} (h : d.Canonical) : (d.lsInit e).Canonical := h.set.set.set.lsEnter
theorem Dev.Canonical.lsPoll {d : Dev} {e m : Nat} (h : d.Canonical) : (d.lsPoll e m).Canonical := by
  unfold Dev.lsPoll
  refine .ite ?_ ?_
  · exact .ite h.set.set.lsFail (.ite (.ite h.set.set.set.lsEnter h.set.set.set) h.set.set.set)
  · exact .ite h.set.set.set (.ite h.set.set.lsInit.lsLost h.set.set.set)
theorem Dev.Canonical.lsTick {e : Nat} {d : Dev} (h : d.Canonical) : (d.lsTick e).Canonical :=
  .ite (h.set.forList fun _ _ h => h.syncTx) h
theorem Dev.Canonical.putTw {d : Dev} {e : Nat} {bs : List Byte} (h : d.Canonical) : (d.putTw e bs).Canonical :=
  h.each fun _ _ h => h.set
theorem Dev.Canonical.twSelect {d : Dev} {e page bank : Nat} (h : d.Canonical) : (d.twSelect e page bank).Canonical :=
  .ite (.ite h h.send) (Dev.Canonical.ite h h.send).send
theorem Dev.Canonical.twStart {d : Dev} {e addr len : Nat} {write : Bool} {page bank : Nat} (h : d.Canonical) :
    (d.twStart e addr len write page bank).Canonical := by
  unfold Dev.twStart
  extract_lets -underBinder d1 d2 d3
  have h2 : d2.Canonical := h.set.set.set.set.set.set.set
  exact .ite h.set (.ite h.set (.ite (Dev.Canonical.ite h2.twSelect h2).send (.ite h2.twSelect h2)))
theorem execLsInserted_canonical {e : Fin 8} : RunsCanonical (execLsInserted e) :=
  .of fun _ h => .ite h.set.addSat.lsSettle h.set.set.syncLaser
theorem execLsRemoved_canonical {e : Fin 8} : RunsCanonical (execLsRemoved e) :=
  .of fun _ h => h.lsRemove
theorem execLsSettled_canonical {e : Fin 8} : RunsCanonical (execLsSettled e) :=
  .of fun _ h => .ite (h.onTime fun _ h => (Dev.Canonical.ite h.set.set h.set).lsInit) h
theorem execLsPoll_canonical {e : Fin 8} {m : BitVec 3} : RunsCanonical (execLsPoll e m) :=
  .of fun _ h => .ite (h.onTime fun _ h => h.lsPoll) h
theorem execLsInitTimeout_canonical {e : Fin 8} : RunsCanonical (execLsInitTimeout e) :=
  .of fun _ h => .ite (h.onTime fun _ h => h.lsFail) h
theorem execLsRetry_canonical {e : Fin 8} : RunsCanonical (execLsRetry e) :=
  .of fun _ h => .ite h.lsSettle h
theorem execLsInt_canonical {e : Fin 8} {low : Bool} : RunsCanonical (execLsInt e low) :=
  .of fun _ h => .ite h.set.set.syncLaser h.set
theorem execTwTransferCmd_canonical {e : Fin 8} {addr : Byte} {len : BitVec 7} {write : Bool} {page bank : Byte} :
  RunsCanonical (execTwTransferCmd e addr len write page bank) :=
  .of fun _ h => h.twStart
theorem execTwTransferDone_canonical {e : Fin 8} {result : TwEnd} {data : List Byte} : RunsCanonical (execTwTransferDone
  e result data) := by
  refine .of fun _ h => ?_
  refine .ite ?_ h
  split
  · exact h.twEnd
  · exact h.twEnd
  · exact h.onTime fun _ h => (Dev.Canonical.ite (.ite h.set.set h) (Dev.Canonical.ite h.set.set h).putTw).twEnd
theorem execTwStretchTimeout_canonical {e : Fin 8} : RunsCanonical (execTwStretchTimeout e) :=
  .of fun _ h => .ite (h.onTime fun _ h => h.twEnd) h

end Sys2Proof.Machine
end


section
/-! PROOFS. Every operation of housekeeping, calibration, memory contents and the margin ledger keeps the canonical form. -/

namespace Sys2Proof.Machine

open Sys2Proof

/-! ## Machine/Housekeeping.lean -/

theorem Dev.Canonical.setHistory {d : Dev} {i : Nat} {l : List Nat} (h : d.Canonical) : (d.setHistory i l).Canonical :=
  .same h
theorem Dev.Canonical.syncReset {i : Nat} {d : Dev} (h : d.Canonical) : (d.syncReset i).Canonical :=
  (Dev.Canonical.ite h.setHistory.set.set h.setHistory).setAll.set
theorem Dev.Canonical.takeLen {d : Dev} {i code : Nat} (h : d.Canonical) : (d.takeLen i code).Canonical :=
  .ite h.set h.set.set.set
theorem Dev.Canonical.postLen {d : Dev} {i code : Nat} (h : d.Canonical) : (d.postLen i code).Canonical :=
  .ite (.ite h.set h.set.set) (.ite h h.takeLen)
theorem Dev.Canonical.compareLimit {d : Dev} {i : Nat} (h : d.Canonical) : (d.compareLimit i).Canonical :=
  .ite (.ite (Dev.Canonical.ite h.set.orBits h.set.orBits).set.syncHk h.set) h
theorem Dev.Canonical.notePower {d : Dev} {i v : Nat} (h : d.Canonical) : (d.notePower i v).Canonical :=
  .ite h.addSat.addSat h
theorem Dev.Canonical.output {d : Dev} {i code : Nat} (h : d.Canonical) : (d.output i code).Canonical := by
  unfold Dev.output
  extract_lets -underBinder h' d1 len left n v d2 d3 d4 d5 d6
  have h2 : d2.Canonical := h.setHistory.set.set.set
  have h4 : d4.Canonical := h2.set.addWrap.notePower
  exact (Dev.Canonical.ite h4.set.set.takeLen h4.set).compareLimit
theorem Dev.Canonical.beginConversion {d : Dev} {t at_ : Nat} (h : d.Canonical) : (d.beginConversion t at_).Canonical :=
  h.set.set.set.set.set
theorem Dev.Canonical.hkRequest {d : Dev} {t : Nat} (h : d.Canonical) : (d.hkRequest t).Canonical :=
  .ite h.set.set (.ite h.beginConversion h)
theorem Dev.Canonical.beginEntry {d : Dev} {t e : Nat} (h : d.Canonical) : (d.beginEntry t e).Canonical := h.set.set
theorem Dev.Canonical.beginSequence {d : Dev} {t : Nat} (h : d.Canonical) : (d.beginSequence t).Canonical := by
  unfold Dev.beginSequence
  extract_lets -underBinder d1 d2 d3 d4
  have h2 : d2.Canonical := (Dev.Canonical.ite (h.set.each fun _ _ h => h.syncReset) h).each fun _ _ h => h.set.set
  exact h2.set.set.set.set.set.set.beginEntry
theorem Dev.Canonical.startMissed {d : Dev} {t : Nat} (h : d.Canonical) : (d.startMissed t).Canonical :=
  h.addSat.set.syncHk
theorem Dev.Canonical.hkStart {d : Dev} {t src : Nat} (h : d.Canonical) : (d.hkStart t src).Canonical := by
  unfold Dev.hkStart
  refine .ite ?_ ?_
  · exact .ite h.set h
  · exact .ite h.set (.ite (.ite h h.startMissed) (.ite h.startMissed (.ite h.set.set.set.set
    h.set.set.beginSequence.hkRequest)))
theorem Dev.Canonical.endSequence {d : Dev} {t : Nat} (h : d.Canonical) : (d.endSequence t).Canonical := by
  unfold Dev.endSequence
  extract_lets -underBinder d1 d2
  have h2 : d2.Canonical := .ite h.set.addWrap.raiseTile h.set.addWrap
  exact .ite h2.beginSequence h2.setAll
theorem Dev.Canonical.result {d : Dev} {t code : Nat} (h : d.Canonical) : (d.result t code).Canonical := by
  unfold Dev.result
  extract_lets -underBinder i disc d1 d2 left d3
  have h2 : d2.Canonical := .ite h.set.set h.set.set.output
  exact .ite h.set.set.addSat (.ite h2.set (.ite h2.set.beginEntry h2.set.endSequence))
theorem Dev.Canonical.hkCalBegin {d : Dev} {t : Nat} (h : d.Canonical) : (d.hkCalBegin t).Canonical :=
  (h.set.set.each fun _ _ h => h.set).set
theorem Dev.Canonical.hkCalDue {d : Dev} {t : Nat} (h : d.Canonical) : (d.hkCalDue t).Canonical :=
  .ite h.set h.hkCalBegin
theorem Dev.Canonical.hkCalEnd {d : Dev} {t : Nat} (h : d.Canonical) : (d.hkCalEnd t).Canonical := by
  unfold Dev.hkCalEnd
  extract_lets -underBinder d1 d2
  have h2 : d2.Canonical := .ite h.set.set.set.beginSequence h.set.set.set
  exact .ite (.ite h2.hkRequest h2) h.set
theorem Dev.Canonical.slotsStale {d : Dev} {t : Nat} (h : d.Canonical) : (d.slotsStale t).Canonical :=
  h.each fun _ _ h => .ite h.set h
theorem Dev.Canonical.hkSleep {d : Dev} {t : Nat} (h : d.Canonical) : (d.hkSleep t).Canonical :=
  (Dev.Canonical.ite h.set.syncHk h).setAll
theorem Dev.Canonical.hkWake {d : Dev} {t : Nat} {kept : Bool} (h : d.Canonical) : (d.hkWake t kept).Canonical := by
  unfold Dev.hkWake
  extract_lets -underBinder d1
  have h1 : d1.Canonical := .ite h (h.set.each fun _ _ h => h.syncReset)
  exact .ite h1.set.hkStart h1
theorem Dev.Canonical.hkTick {t : Nat} {d : Dev} (h : d.Canonical) : (d.hkTick t).Canonical := .ite h.hkStart h
theorem Dev.Canonical.postHk {d0 : Dev} {t : Nat} {d : Dev} (h2 : d.Canonical) : (d0.postHk t d).Canonical := by
  unfold Dev.postHk
  refine h2.each fun _ _ h => ?_
  extract_lets -underBinder i d1 d2
  have h2 : d2.Canonical := .ite (Dev.Canonical.ite h h.syncReset).set (.ite h h.syncReset)
  exact .ite h2 h2.postLen
theorem execHkStartCmd_canonical {t : Fin 4} : RunsCanonical (execHkStartCmd t) :=
  .of fun _ h => h.hkStart
theorem execHkStartPin_canonical {t : Fin 4} {rising : Bool} : RunsCanonical (execHkStartPin t rising) :=
  .of fun _ h => .ite h.hkStart h
theorem execHkSync_canonical {t : Fin 4} : RunsCanonical (execHkSync t) :=
  .of fun _ h => h.set
theorem execHkClearStats_canonical {t : Fin 4} : RunsCanonical (execHkClearStats t) :=
  .of fun _ h => h.setAll
theorem execConverterStartupDone_canonical {t : Fin 4} : RunsCanonical (execConverterStartupDone t) :=
  .of fun _ h => .ite (h.onTime fun _ h => .ite h.hkCalBegin h.beginConversion) h
theorem execConversionDone_canonical {t : Fin 4} {input : ℤ} : RunsCanonical (execConversionDone t input) :=
  .of fun _ h => .ite (h.onTime fun _ h => .ite h.result.set.hkCalBegin (.ite h.result.set.beginConversion
    h.result.set.set)) h
theorem execConverterPowerDown_canonical {t : Fin 4} : RunsCanonical (execConverterPowerDown t) :=
  .of fun _ h => .ite (h.onTime fun _ h => h.set) h

/-! ## Machine/ThermBase.lean -/

theorem Dev.Canonical.demand {d : Dev} {src s : Nat} (h : d.Canonical) : (d.demand src s).Canonical :=
  .ite h (.ite h.set.wake (.ite h.set.set h.set))
theorem Dev.Canonical.thmWoken {t : Nat} {d : Dev} (h : d.Canonical) : (d.thmWoken t).Canonical :=
  h.each fun _ _ h => .ite h h.set.demand
theorem Dev.Canonical.thmGone {t : Nat} {d : Dev} (h : d.Canonical) : (d.thmGone t).Canonical :=
  h.each fun _ _ h => h.setAll

/-! ## Machine/Calibration.lean -/

theorem Dev.Canonical.calReason {b u : Nat} {d : Dev} (h : d.Canonical) : (d.calReason b u).Canonical :=
  .ite h (.ite h.orBits.set h.orBits)
theorem Dev.Canonical.calRest {d : Dev} {u : Nat} (h : d.Canonical) : (d.calRest u).Canonical := h.set
theorem Dev.Canonical.biasCalStep {t : Nat} {d : Dev} (h : d.Canonical) : (d.biasCalStep t).Canonical :=
  .ite h h.set.slotsStale
theorem Dev.Canonical.calRelease {d : Dev} {u : Nat} (h : d.Canonical) : (d.calRelease u).Canonical := by
  unfold Dev.calRelease
  split
  · exact h.hkCalEnd
  · exact h.biasCalStep
  · exact h
theorem Dev.Canonical.calBegin {d : Dev} {u : Nat} {v : ℤ} (h : d.Canonical) : (d.calBegin u v).Canonical := by
  unfold Dev.calBegin
  extract_lets -underBinder d1 d2
  have h2 : d2.Canonical := h.set.set.set.set.set
  split
  · exact h2.hkCalDue
  · exact h2.biasCalStep
  · exact h2
theorem Dev.Canonical.calStart {d : Dev} {u : Nat} (h : d.Canonical) : (d.calStart u).Canonical := by
  unfold Dev.calStart
  extract_lets -underBinder d1
  split
  · exact h.set.set.calBegin
  · exact h.set.set.set.demand
theorem Dev.Canonical.calAbort {d : Dev} {u : Nat} (h : d.Canonical) : (d.calAbort u).Canonical :=
  .ite h.orBits.set.set.addSat.raise.calRelease h.orBits.set.set
theorem Dev.Canonical.calWatch {d : Dev} (h : d.Canonical) : d.calWatch.Canonical :=
  h.each fun _ _ h => .ite h.calAbort h
theorem Dev.Canonical.calStarts {d : Dev} (h : d.Canonical) : d.calStarts.Canonical :=
  h.forList fun _ _ h => h.each fun _ _ h => .ite h.calStart h
theorem Dev.Canonical.calReading {s : Nat} {v : ℤ} {d : Dev} (h : d.Canonical) : (d.calReading s v).Canonical :=
  h.each fun _ _ h => .ite h (.ite h.calBegin (.ite h.calReason h))
theorem Dev.Canonical.nvmLoad {d : Dev} (h : d.Canonical) : d.nvmLoad.Canonical := by
  unfold Dev.nvmLoad
  extract_lets -underBinder k d1 d2 le d3 d4
  have h3 : d3.Canonical := h.set.set.set.each fun _ _ h => h.set
  have h4 : d4.Canonical := h3.each fun _ _ h => h.set
  exact .ite h4.raise h4
theorem Dev.Canonical.putTrim {d : Dev} {u j v : Nat} (h : d.Canonical) : (d.putTrim u j v).Canonical := h.set.lset
theorem Dev.Canonical.coldTrims {u : Nat} {d : Dev} (h : d.Canonical) : (d.coldTrims u).Canonical :=
  h.each fun _ _ h => h.putTrim
theorem Dev.Canonical.nvmWrite {d : Dev} (h : d.Canonical) : d.nvmWrite.Canonical :=
  h.withNvm (Mem.wf_writeBytes _ _ h.nvm)
theorem Dev.Canonical.nvmResult {d : Dev} {r : Nat} {auto : Bool} (h : d.Canonical) : (d.nvmResult r auto).Canonical :=
  .ite h.set.raise.set.set h.set.raise
theorem Dev.Canonical.nvmStop {d : Dev} {r : Nat} (h : d.Canonical) : (d.nvmStop r).Canonical :=
  h.setAll.setEach.nvmResult
theorem Dev.Canonical.nvmStart {d : Dev} {base auto : Bool} (h : d.Canonical) : (d.nvmStart base auto).Canonical :=
  .ite h.nvmResult (.ite h.nvmResult (h.set.set.set.set.forList fun _ _ h => h.set.demand).set)
theorem Dev.Canonical.nvmReading {s : Nat} {v : ℤ} {d : Dev} (h : d.Canonical) : (d.nvmReading s v).Canonical :=
  .ite h (.ite h.nvmStop (.ite h.set.set h.set))
theorem Dev.Canonical.nvmInterrupt {d : Dev} (h : d.Canonical) : d.nvmInterrupt.Canonical := by
  unfold Dev.nvmInterrupt
  refine .ite (.drawn (.setAll ?_)) h.setAll
  exact .ite (h.withNvm (Mem.wf_writeBytes _ _ h.nvm)) h.nvmWrite
theorem Dev.Canonical.calResult {d : Dev} {u : Nat} {r : List ℤ} (h : d.Canonical) : (d.calResult u r).Canonical :=
  .ite h.calRelease.addSat.raise.calRest (.same (Dev.Canonical.ite h.calRelease.set h.calRelease).set)
theorem Dev.Canonical.moveTrim {u : Nat} {x : Nat × Nat × Nat × ℤ} {d : Dev} (h : d.Canonical) :
    (d.moveTrim u x).Canonical :=
  .ite h.lset h.lset.set
theorem Dev.Canonical.calDone {d : Dev} {u : Nat} (h : d.Canonical) : (d.calDone u).Canonical := by
  unfold Dev.calDone
  extract_lets -underBinder d1 d2 d3 d4 d5
  have h2 : d2.Canonical := h.addSat.set.set.set.set
  have h3 : d3.Canonical := .ite h2.noteWindow.set h2
  have h5 : d5.Canonical := .same h3.raise.calRest
  exact .ite h5.nvmStart h5
theorem Dev.Canonical.calApply {u : Nat} {d : Dev} (h : d.Canonical) : (d.calApply u).Canonical := by
  unfold Dev.calApply
  extract_lets -underBinder d1
  refine .ite ?_ h
  refine .ite (.same h.set.calRest) ?_
  split
  · exact h.calRest
  · exact .ite (h.forList fun _ _ h => h.moveTrim).calDone (h.forList fun _ _ h => h.moveTrim)
theorem Dev.Canonical.calTick {late : Nat → Bool} {d : Dev} (h : d.Canonical) : (d.calTick late).Canonical :=
  ((h.each fun _ _ h => .ite h h.calApply).setEach.calWatch.each fun _ _ h => h.biasCalStep).calStarts
theorem Dev.Canonical.postTrim {u : Nat} {d : Dev} (h : d.Canonical) : (d.postTrim u).Canonical :=
  .ite (.ite (h.each fun _ _ h => h.lset).set.set.noteWindow (h.each fun _ _ h => h.lset).set.set) h
theorem Dev.Canonical.calEngineOff {e : Nat} {d : Dev} (h : d.Canonical) : (d.calEngineOff e).Canonical :=
  h.forList fun _ _ h => .same h.setAll
theorem Dev.Canonical.calEngineOn {e : Nat} {d : Dev} (h : d.Canonical) : (d.calEngineOn e).Canonical :=
  h.forList fun _ _ h => .ite h.calReason h
theorem Dev.Canonical.calEngineRestart {e : Nat} {mode : Bool} {d : Dev} (h : d.Canonical) :
    (d.calEngineRestart e mode).Canonical :=
  h.forList fun _ _ h => .ite (Dev.Canonical.ite h.calAbort h).calReason (.ite h.calAbort h)
theorem Dev.Canonical.calClassChanged {c : Nat} {d : Dev} (h : d.Canonical) : (d.calClassChanged c).Canonical :=
  h.forList fun _ _ h => .ite h.calAbort h
theorem Dev.Canonical.calReset {d : Dev} (h : d.Canonical) : d.calReset.Canonical :=
  .same (h.setEach.each fun _ _ h => h.setAll)
theorem Dev.Canonical.calCold {d : Dev} (h : d.Canonical) : d.calCold.Canonical :=
  h.each fun _ _ h => .ite h.coldTrims.calReason h.coldTrims
theorem execCalRun_canonical {u : Byte} : RunsCanonical (execCalRun u) :=
  .of fun _ h => .ite h.set h.calReason
theorem execCalRunClass_canonical {c : BitVec 3} : RunsCanonical (execCalRunClass c) :=
  .of fun _ h => .ite h.set (h.forList fun _ _ h => h.calReason)
theorem execCalPeriodicDue_canonical {u : Fin 137} : RunsCanonical (execCalPeriodicDue u) :=
  .of fun _ h => .ite h (h.onTime fun _ h => h.set.calReason)
theorem execCalRunComplete_canonical {u : Fin 137} {r : List ℤ} : RunsCanonical (execCalRunComplete u r) :=
  .of fun _ h => .ite (h.onTime fun _ h => .ite h.calResult h.calAbort) h
theorem execNvmStore_canonical {baseline : Bool} : RunsCanonical (execNvmStore baseline) :=
  .of fun _ h => h.nvmStart
theorem execNvmStoreDone_canonical : RunsCanonical (execNvmStoreDone) :=
  .of fun _ h => .ite h.nvmWrite.set.set.set.nvmStop h
theorem execNvmStoreRetry_canonical : RunsCanonical (execNvmStoreRetry) :=
  .of fun _ h => .ite (h.onTime fun _ h => h.set.nvmStart) h

/-! ## Machine/MemBase.lean -/

theorem Dev.Canonical.putCells {d : Dev} {a : Nat} {bs : List Byte} (h : d.Canonical) : (d.putCells a bs).Canonical :=
  (h.withGddr (Mem.wf_writeBytes a bs h.gddr)).same
theorem Dev.Canonical.loseCells {d : Dev} {lo hi : Nat} (h : d.Canonical) : (d.loseCells lo hi).Canonical :=
  (h.withGddr (Mem.wf_filter (fun c => decide (c.1 < lo ∨ hi ≤ c.1)) h.gddr)).same
theorem Dev.Canonical.memWrite {d : Dev} {cls a : Nat} {bs : List Byte} (h : d.Canonical) :
    (d.memWrite cls a bs).Canonical :=
  .same h
theorem Dev.Canonical.memRead {d : Dev} {cls a n : Nat} {bad : Bool} (h : d.Canonical) :
    (d.memRead cls a n bad).Canonical :=
  .same h
theorem Dev.Canonical.memBar2 {d : Dev} {off a len reqId clk time : Nat} {write : Bool} {bs : List Byte} (h :
    d.Canonical) :
    (d.memBar2 off a len reqId clk time write bs).Canonical :=
  .same h
theorem Dev.Canonical.showRegion {d : Dev} (h : d.Canonical) : d.showRegion.Canonical := h.set.set
theorem Dev.Canonical.judgeRegion {r : Nat} {d : Dev} (h : d.Canonical) : (d.judgeRegion r).Canonical :=
  .ite (Dev.Canonical.ite h.set h).set (.ite (Dev.Canonical.ite h.set h).set (Dev.Canonical.ite h.set h).set.set)
theorem Dev.Canonical.dropRegions {d : Dev} (h : d.Canonical) : d.dropRegions.Canonical :=
  (h.each fun _ _ h => h.set).showRegion
theorem Dev.Canonical.formRegions {d : Dev} (h : d.Canonical) : d.formRegions.Canonical :=
  .ite (h.each fun _ _ h => h.judgeRegion).showRegion h.dropRegions

/-! ## Machine/Ledger.lean -/

theorem Dev.Canonical.lgStop {d : Dev} {n a : Nat} (h : d.Canonical) : (d.lgStop n a).Canonical := h.orBits
theorem Dev.Canonical.lgGather {n : Nat} {d : Dev} (h : d.Canonical) : (d.lgGather n).Canonical := by
  unfold Dev.lgGather
  extract_lets -underBinder d1 d2 d3 d4
  refine .ite ?_ h
  refine (Dev.Canonical.ite h.addSat.addSat.addSat.addSat.addSat h.addSat).each fun _ _ h => ?_
  split
  · exact h
  · exact h.set
theorem Dev.Canonical.lgShow {d : Dev} {n : Nat} (h : d.Canonical) : (d.lgShow n).Canonical := h.set.set
theorem Dev.Canonical.lgReference {d : Dev} {n : Nat} (h : d.Canonical) : (d.lgReference n).Canonical :=
  h.setEach.setEach.setEach.set.set.set.lgShow
theorem Dev.Canonical.lgRefTick {n : Nat} {d : Dev} (h : d.Canonical) : (d.lgRefTick n).Canonical :=
  .ite h.lgReference h
theorem Dev.Canonical.lgLevel {d : Dev} {m : LedgMove} (h : d.Canonical) : (d.lgLevel m).Canonical :=
  .ite h.dropChange (h.bounded fun _ _ h => h.putLevel).set.orBits.lgShow
theorem Dev.Canonical.lgItem {beaten : Key → Bool} {d : Dev} {m : LedgMove} (h : d.Canonical) :
    (d.lgItem beaten m).Canonical :=
  .ite h.dropTx h.lset.set.showTx.lgShow
theorem Dev.Canonical.lgMoves {beaten : Key → Bool} {n : Nat} {d : Dev} (h : d.Canonical) :
    (d.lgMoves beaten n).Canonical :=
  .ite (.same h) (((Dev.Canonical.same h).forList fun _ _ h => h.lgLevel).forList fun _ _ h => h.lgItem)
theorem Dev.Canonical.lgBiasMove {n a : Nat} {d : Dev} (h : d.Canonical) : (d.lgBiasMove n a).Canonical := by
  unfold Dev.lgBiasMove
  extract_lets -underBinder k left d1
  refine .ite h ?_
  split
  · exact h.set
  · exact .ite (.ite h.set.lgStop.set h.set.ledgerMove.set.set.set) h.set
theorem Dev.Canonical.lgEffort {late : Nat → Bool} {d : Dev} (h : d.Canonical) : (d.lgEffort late).Canonical :=
  (h.each fun _ _ h => .ite (.ite h.set.set h.set) h).each fun _ _ h => .ite h.set h
theorem Dev.Canonical.lgQueue {d : Dev} {n kind idx : Nat} {step : ℤ} (h : d.Canonical) :
    (d.lgQueue n kind idx step).Canonical :=
  .same h
theorem Dev.Canonical.lgWiden {d : Dev} {n : Nat} (h : d.Canonical) : (d.lgWiden n).Canonical := by
  unfold Dev.lgWiden
  split
  · exact h.each fun _ _ h => .ite (.ite h.lgQueue.lgQueue h.lgStop) h
  · exact h
theorem Dev.Canonical.lgRetune {d : Dev} {n : Nat} (h : d.Canonical) : (d.lgRetune n).Canonical :=
  .ite (.ite (Dev.Canonical.ite h.lgQueue.set h).set.lgStop (Dev.Canonical.ite h.lgQueue.set h).lgQueue.set.set.set) h
theorem Dev.Canonical.lgCentre {d : Dev} {n : Nat} (h : d.Canonical) : (d.lgCentre n).Canonical := by
  unfold Dev.lgCentre
  extract_lets -underBinder bal start d1 fell
  have h1 : d1.Canonical := .ite (.ite h.set.lgStop h.set.set) h
  exact .ite (.ite (Dev.Canonical.ite h1.set h1).lgStop (Dev.Canonical.ite h1.set h1).set) h1
theorem Dev.Canonical.lgAsk {d : Dev} {n : Nat} (h : d.Canonical) : (d.lgAsk n).Canonical :=
  .ite h.set (.ite (.ite h.set.lgStop h.set.set.set) (.ite h.set.set.set.set h.set))
theorem Dev.Canonical.lgCal {d : Dev} {n : Nat} (h : d.Canonical) : (d.lgCal n).Canonical := by
  unfold Dev.lgCal
  split
  · exact h
  · exact .ite h.setAll.set.set (.ite h.set.set.calReason h.set)
theorem Dev.Canonical.lgDecide {d : Dev} {n : Nat} (h : d.Canonical) : (d.lgDecide n).Canonical :=
  (Dev.Canonical.ite h.lgWiden.lgRetune.lgCentre.lgAsk h).lgCal
theorem Dev.Canonical.lgAlarm {d : Dev} {n : Nat} {fc : Nat × Nat} (h : d.Canonical) : (d.lgAlarm n fc).Canonical :=
  .ite h.set h.set.orBits.raise.trigger
theorem Dev.Canonical.lgClear {d : Dev} {n : Nat} (h : d.Canonical) : (d.lgClear n).Canonical :=
  h.setAll.setEach.setEach
theorem Dev.Canonical.lgLose {d : Dev} {n : Nat} (h : d.Canonical) : (d.lgLose n).Canonical := .ite h.set.addSat h
theorem Dev.Canonical.lgClose {n : Nat} {d : Dev} (h : d.Canonical) : (d.lgClose n).Canonical := by
  unfold Dev.lgClose
  extract_lets -underBinder d1 ms eyes passes energy drift valid fresh ticks mine others d2 k d3 hs h' d4 d5 d6 d7 rec_
    d8
  have h6 : d6.Canonical := (Dev.Canonical.same h.lgLose).set.set.set.set.set.set.set.lgDecide.lgAlarm
  exact .ite (h6.set.each fun _ _ h => h.set).set.lgClear h
theorem Dev.Canonical.lgReplan {d0 : Dev} {n : Nat} {d : Dev} (h2 : d.Canonical) : (d0.lgReplan n d).Canonical :=
  h2.each fun _ _ h => .ite h.set (.ite h.lgStop h)
theorem execLedgerPeriodEnd_canonical : RunsCanonical (execLedgerPeriodEnd) := by
  refine .of fun _ h => ?_
  extract_lets -underBinder c d1 d2 d3
  have h2 : d2.Canonical := (h.set.addWrap.each fun _ _ h => h.lgClose).drawn
  have h3 : d3.Canonical := h2.each fun _ _ h => h.setAll
  exact .ite (.ite h3.raise h3) h
theorem execLedgerRecordWrite_canonical : RunsCanonical (execLedgerRecordWrite) :=
  .of fun _ h => h.each fun _ _ h => .ite (.ite h.memWrite.set.set (.ite h.lgLose h)) h
theorem execFarReportWrite_canonical {n : Fin 64} {snr0 snr2 worst : BitVec 10} : RunsCanonical (execFarReportWrite n
  snr0 snr2 worst) :=
  .of fun _ h => h.set.set.set.set
theorem execLedgerRebase_canonical {n : Fin 64} : RunsCanonical (execLedgerRebase n) :=
  .of fun _ h => h.set

end Sys2Proof.Machine
end


section
/-! PROOFS. Every operation of the spread, the decoder pool and host lanes keeps the canonical form. -/

namespace Sys2Proof.Machine

open Sys2Proof

/-! ## Machine/TxChain.lean -/

theorem Dev.Canonical.sendLevels {d : Dev} {n : Nat} {ls : List Nat} {q : List ℤ} (h : d.Canonical) :
    (d.sendLevels n ls q).Canonical :=
  .ite (h.addSat.each fun _ _ h => h.set) (h.addSat.each fun _ _ h => h.set).send

/-! ## Machine/Spread.lean -/

theorem Dev.Canonical.toHost {d : Dev} {n : Nat} {o : Out} (h : d.Canonical) : (d.toHost n o).Canonical := .ite h.send h
theorem Dev.Canonical.setDelay {g n : Nat} {d : Dev} (h : d.Canonical) : (d.setDelay g n).Canonical := h.set
theorem Dev.Canonical.orderError {d : Dev} {g own found : Nat} (h : d.Canonical) :
    (d.orderError g own found).Canonical :=
  h.set.set.set.raiseEngine
theorem Dev.Canonical.takeAnchor {d : Dev} {n : Nat} {start : ℤ} (h : d.Canonical) : (d.takeAnchor n start).Canonical :=
  h.set.set
theorem Dev.Canonical.judgeAnchors {d : Dev} {g : Nat} (h : d.Canonical) : (d.judgeAnchors g).Canonical :=
  .ite h.set.set.clearAnchors.set.raiseEngine (.ite (h.set.set.forList fun _ _ h => h.setDelay.cutSeg).set.set h.set)
theorem Dev.Canonical.anchorFound {d : Dev} {n h : Nat} {start : ℤ} (hd : d.Canonical) :
    (d.anchorFound n h start).Canonical := by
  unfold Dev.anchorFound
  refine .ite ?_ hd
  refine .ite ?_ ?_
  · exact .ite hd.orderError hd.takeAnchor.judgeAnchors
  · exact .ite (.ite hd.orderError hd.takeAnchor.setDelay.cutSeg.set.set) hd
theorem Dev.Canonical.enterGroupLock {d : Dev} {g : Nat} (h : d.Canonical) : (d.enterGroupLock g).Canonical :=
  h.set.set.set.set.set.set.set.raiseEngine
theorem Dev.Canonical.eventRecord {d : Dev} {g valid doubt corr : Nat} (h : d.Canonical) :
    (d.eventRecord g valid doubt corr).Canonical :=
  .same h
theorem Dev.Canonical.countFrame {d : Dev} {g valid : Nat} {corr : List Nat} {doubt time : Nat} (h : d.Canonical) :
    (d.countFrame g valid corr doubt time).Canonical := by
  unfold Dev.countFrame
  extract_lets -underBinder d1 d2 d3 info d4 good d5 d6
  have h2 : d2.Canonical := .ite h.addWrap.addWrap h.addWrap.addWrap.addWrap
  have h4 : d4.Canonical := .ite h2.addWrap.set.raiseEngine.trigger (h2.forList fun _ _ h => h.addWrap)
  exact (h4.forList fun _ _ h => .ite h.addSat.addSat h).eventRecord.setAll
theorem Dev.Canonical.judgeFrame {d : Dev} {g good valid miss : Nat} (h : d.Canonical) :
    (d.judgeFrame g good valid miss).Canonical :=
  (Dev.Canonical.ite h h.set).forList fun _ _ h => .ite (Dev.Canonical.ite h.addSat h).set (.ite h.addSat h)
theorem Dev.Canonical.loopPush {d : Dev} {g : Nat} {streams : List (List Bool)} (h : d.Canonical) :
    (d.loopPush g streams).Canonical :=
  .ite (Dev.Canonical.ite (.same h) h).showLoop h
theorem Dev.Canonical.frameDone {d : Dev} {x : RxFrame} (h : d.Canonical) : (d.frameDone x).Canonical :=
  h.countFrame.loopPush.forList fun _ _ h => .ite h h.toHost
theorem Dev.Canonical.dropFrames {d : Dev} {g : Nat} (h : d.Canonical) : (d.dropFrames g).Canonical := .same h
theorem Dev.Canonical.finishFrames {g fuel : Nat} {d : Dev} (h : d.Canonical) : (Dev.finishFrames g fuel d).Canonical := by
  induction fuel generalizing d with
  | zero => exact h
  | succ fuel ih =>
    unfold Dev.finishFrames
    dsimp only
    split
    · exact h
    · exact .ite h (ih h.frameDone.set.dropFrames)
theorem Dev.Canonical.frameReceived {d : Dev} {g : Nat} {letters : List (List (Fin 16))} {time : Nat} (h : d.Canonical)
  :
    (d.frameReceived g letters time).Canonical := by
  unfold Dev.frameReceived
  extract_lets -underBinder v0 v1 v2 v3 v4 v5 d1 v7 v8 d2
  have h1 : d1.Canonical := h.forList fun _ _ h => h.endSegs
  refine .ite ?_ ?_
  · exact .ite h1.toHunt.clearAnchors (.ite h1.set h1.enterGroupLock)
  · exact .ite (Dev.Canonical.same h1).addWrap.judgeFrame.finishFrames h
theorem Dev.Canonical.slot {d e : Dev} {g : Nat} (h : d.Canonical) (he : d.slot g = some e) : e.Canonical := by
  unfold Dev.slot at he
  dsimp only at he
  split at he
  · rw [← Option.some.inj he]
    exact h.set.addWrap.addSat
  · split at he
    · rw [← Option.some.inj he]
      exact h.set.addSat.addSat.addSat.addWrap.addSat
    · cases he
theorem Dev.Canonical.skipPass {d : Dev} {g : Nat} (h : d.Canonical) : (d.skipPass g).Canonical :=
  .ite h.addWrap.set.set.set.set.raiseTile h.addWrap.set.set
theorem Dev.Canonical.morePasses {n c fuel : Nat} {q : RsTry} {d : Dev} (h : d.Canonical) :
    (Dev.morePasses n c fuel q d).1.Canonical := by
  induction fuel generalizing d q with
  | zero => exact h
  | succ fuel ih =>
    unfold Dev.morePasses
    refine .iteFst h ?_
    split
    · exact h.skipPass
    · next he => exact ih (h.slot he)
theorem Dev.Canonical.storeWords {d : Dev} {n c : Nat} {q : RsTry} (h : d.Canonical) : (d.storeWords n c q).Canonical :=
  .same h
theorem Dev.Canonical.countWord {d : Dev} {n : Nat} {first inv : Bool} {corr : Nat} {q : RsTry} (h : d.Canonical) :
    (d.countWord n first inv corr q).Canonical := by
  unfold Dev.countWord
  extract_lets -underBinder g k failed d1 d2 d3 d4 d5 d6 d7 d8 d9
  have h2 : d2.Canonical := h.addWrap.addWrap.addWrap.addWrap
  have h4 : d4.Canonical := h2.addSat.addSat.addSat.addSat
  have h6 : d6.Canonical := h4.addSat.addSat.set.addSat
  have h8 : d8.Canonical := .ite (Dev.Canonical.ite h6.set h6).set (.ite h6.set h6)
  exact .ite h8.addSat.addWrap h8.addWrap.addWrap.set.set
theorem Dev.Canonical.rsCodeword {d : Dev} {n : Nat} (h : d.Canonical) : (d.rsCodeword n).Canonical := by
  unfold Dev.rsCodeword
  extract_lets -underBinder g w c ans p q d1 last corr inv d2 out d3
  have h2 : d2.Canonical := h.morePasses.storeWords.countWord
  have h3 : d3.Canonical := by
    refine .toHost ?_
    split
    · exact .same h2
    · exact h2
  exact .ite h3.addWrap.finishFrames h
theorem Dev.Canonical.groupTick {g : Nat} {d : Dev} (h : d.Canonical) : (d.groupTick g).Canonical :=
  .ite (.ite h.set.groupFollow.askTake h.set.groupFollow.askTake.toHunt.clearAnchors) h.set.groupFollow
theorem Dev.Canonical.postSpread {d0 : Dev} {e : Nat} {d : Dev} (h2 : d.Canonical) : (d0.postSpread e d).Canonical :=
  h2.each fun _ _ h => h.set.set
theorem Dev.Canonical.tookBits {d : Dev} {n k : Nat} (h : d.Canonical) : (d.tookBits n k).Canonical :=
  (Dev.Canonical.same h).set
theorem Dev.Canonical.frameSent {n : Nat} {d : Dev} (h : d.Canonical) : (d.frameSent n).Canonical :=
  .ite h.addWrap.addWrap (.ite h.addWrap h.addWrap.tookBits.drawn)
theorem execTransmitFrame_canonical {n : Fin 64} {courier : List (List Byte)} : RunsCanonical (execTransmitFrame n
  courier) := by
  refine .of fun _ h => ?_
  extract_lets -underBinder g w lanes words looping d1 d2
  have h1 : d1.Canonical := h.forList fun _ _ h => h.frameSent
  exact .ite ((Dev.Canonical.ite h1.loopPop h1).forList fun _ _ h => h.sendLevels) h
theorem execAnchorFound_canonical {n : Fin 64} {words : List (Bool × List Bool)} {start : Word} : RunsCanonical
  (execAnchorFound n words start) := by
  refine .of fun _ h => ?_
  split
  · exact h
  · exact h.anchorFound
theorem execSpreadFrameReceived_canonical {g : Fin 64} {letters : List (List (Fin 16))} {time : DWord} : RunsCanonical
  (execSpreadFrameReceived g letters time) :=
  .of fun _ h => h.frameReceived
theorem execGroupLockLost_canonical {g : Fin 64} : RunsCanonical (execGroupLockLost g) :=
  .of fun _ h => .ite h.toHunt.clearAnchors h
theorem execRejoinLimit_canonical {n : Fin 64} : RunsCanonical (execRejoinLimit n) :=
  .of fun _ h => .ite h.toHunt h
theorem execSpreadRelock_canonical {e : Fin 8} {groups : Byte} : RunsCanonical (execSpreadRelock e groups) :=
  .of fun _ h => h.each fun _ _ h => .ite h.askWrite h
theorem execSprClearStats_canonical {e : Fin 8} : RunsCanonical (execSprClearStats e) :=
  .of fun _ h => h.each fun _ _ h => h.setAll.setAll.each fun _ _ h => h.set
theorem execStreamLock_canonical {n : Fin 64} {phase : BitVec 16} : RunsCanonical (execStreamLock n phase) :=
  .of fun _ h => .ite h.set.set.set h
theorem execStreamLost_canonical {n : Fin 64} : RunsCanonical (execStreamLost n) :=
  .of fun _ h => .ite (Dev.Canonical.same h.set.set).finishFrames h
theorem execRsCodewordDecode_canonical {n : Fin 64} : RunsCanonical (execRsCodewordDecode n) :=
  .of fun _ h => h.rsCodeword

/-! ## Machine/Pool.lean -/

theorem Dev.Canonical.ageGroup {g : Nat} {forced denied : Bool} {d : Dev} (h : d.Canonical) :
    (d.ageGroup g forced denied).Canonical :=
  (Dev.Canonical.ite h.set.set.set.addSat h.set.set.set).set
theorem Dev.Canonical.scoreGroup {g : Nat} {d : Dev} (h : d.Canonical) : (d.scoreGroup g).Canonical :=
  (Dev.Canonical.ite h.drawn h).set.set.set
theorem Dev.Canonical.requestGroup {g : Nat} {d : Dev} (h : d.Canonical) : (d.requestGroup g).Canonical := h.set
theorem Dev.Canonical.urgeGroup {t g : Nat} {d : Dev} (h : d.Canonical) : (d.urgeGroup t g).Canonical :=
  (Dev.Canonical.ite h.addSat.set.raiseTile h).set
theorem Dev.Canonical.computeGrants {d : Dev} {t level cap : Nat} (h : d.Canonical) :
    (d.computeGrants t level cap).Canonical := by
  unfold Dev.computeGrants
  extract_lets -underBinder gs d1 d2 d3 c r booked d4 d5 d6 d7 d8 d9 d10 d11
  have h2 : d2.Canonical := h.set.forList fun _ _ h => .ite h.scoreGroup.requestGroup h.scoreGroup.setAll
  have h3 : d3.Canonical := h2.forList fun _ _ h => h.urgeGroup
  have h5 : d5.Canonical := h3.forList fun _ _ h => h.set.set.ageGroup
  have h7 : d7.Canonical := (Dev.Canonical.ite h5.set h5).set
  exact .ite (Dev.Canonical.ite h7.set.raiseTile h7).set.set.set.set.set.set h
theorem Dev.Canonical.latchGroup {g : Nat} {d : Dev} (h : d.Canonical) : (d.latchGroup g).Canonical :=
  (h.set.set.set.set.set.set.set.each fun _ _ h => h.set).setAll
theorem Dev.Canonical.openAccount {g charge : Nat} {granted : Bool} {d : Dev} (h : d.Canonical) :
    (d.openAccount g charge granted).Canonical :=
  h.set.set.set
theorem Dev.Canonical.poolTick {t : Nat} {d : Dev} (h : d.Canonical) : (d.poolTick t).Canonical := by
  unfold Dev.poolTick
  extract_lets -underBinder d1 d2 on go d3 d4 d5 c r res before d6 d7 d8 d9
  have h1 : d1.Canonical := h.forList fun _ _ h => h.latchGroup
  have h3 : d3.Canonical := .ite h1.set.setAll.set h1.set.setAll
  have h5 : d5.Canonical := (Dev.Canonical.ite h3 h3.set.set).forList fun _ _ h => .ite h.setAllow.openAccount
    (Dev.Canonical.ite h h.setAllow).openAccount
  exact (Dev.Canonical.ite h5 h5.set.raiseTile).set.set.set.set.set.set.set
theorem Dev.Canonical.postPoolGroup {g : Nat} {d : Dev} (h : d.Canonical) : (d.postPoolGroup g).Canonical :=
  .ite (h.forList fun _ _ h => h.post) h.set
theorem Dev.Canonical.postPoolTile {t : Nat} {d : Dev} (h : d.Canonical) : (d.postPoolTile t).Canonical :=
  .ite (h.each fun _ _ h => h.post.post) h.set
theorem execPoolClearStats_canonical {t : Fin 4} : RunsCanonical (execPoolClearStats t) :=
  .of fun _ h => h.set.each fun _ _ h => h.setAll

/-! ## Machine/HostLane.lean -/

theorem Dev.Canonical.amLost {d : Dev} {n : Nat} (h : d.Canonical) : (d.amLost n).Canonical :=
  .ite h.set.set.raiseTile.syncTx h
theorem Dev.Canonical.showLanes {d : Dev} {n : Nat} (h : d.Canonical) : (d.showLanes n).Canonical := h.set
theorem Dev.Canonical.seekMarkers {d : Dev} {n : Nat} (h : d.Canonical) : (d.seekMarkers n).Canonical :=
  h.setEach.set.set
theorem Dev.Canonical.deskewError {d : Dev} {n : Nat} (h : d.Canonical) : (d.deskewError n).Canonical :=
  h.amLost.seekMarkers.set.raiseTile
theorem Dev.Canonical.lockLanes {d : Dev} {n a b : Nat} (h : d.Canonical) : (d.lockLanes n a b).Canonical :=
  (h.forList fun _ _ h => h.orBits).showLanes
theorem Dev.Canonical.amGained {d : Dev} {n a b skew : Nat} (h : d.Canonical) : (d.amGained n a b skew).Canonical := by
  unfold Dev.amGained
  refine .ite ?_ ?_
  · exact h
  · exact .ite h.lockLanes.set (.ite h.lockLanes.set.deskewError (.ite h.lockLanes.set
    h.lockLanes.set.set.set.raiseTile.syncTx))
theorem Dev.Canonical.leaveReady {d : Dev} {h : Nat} (hd : d.Canonical) : (d.leaveReady h).Canonical :=
  .ite hd.set.raiseTile hd
theorem Dev.Canonical.portLost {d : Dev} {h : Nat} (hd : d.Canonical) : (d.portLost h).Canonical := by
  unfold Dev.portLost
  split
  · exact hd
  · exact hd.set.amLost.showLanes
theorem Dev.Canonical.hostWait {d : Dev} {h : Nat} (hd : d.Canonical) : (d.hostWait h).Canonical :=
  hd.portLost.leaveReady.set.setAll
theorem Dev.Canonical.hostReady {d : Dev} {h : Nat} (hd : d.Canonical) : (d.hostReady h).Canonical := by
  unfold Dev.hostReady
  extract_lets -underBinder d1
  split
  · exact hd.set.raiseTile
  · exact hd.set.raiseTile.set
theorem Dev.Canonical.hostUp {h : Nat} {d : Dev} (hd : d.Canonical) : (d.hostUp h).Canonical := .ite hd.hostWait hd
theorem Dev.Canonical.hostDown {h : Nat} {d : Dev} (hd : d.Canonical) : (d.hostDown h).Canonical :=
  hd.portLost.leaveReady.setAll
theorem Dev.Canonical.hostSignal {d : Dev} {h : Nat} (hd : d.Canonical) : (d.hostSignal h).Canonical :=
  .ite (.ite hd.set (.ite hd.set.set.addSat.set.set.set hd.set.set.set.set)) hd
theorem Dev.Canonical.hostLos {d : Dev} {h : Nat} (hd : d.Canonical) : (d.hostLos h).Canonical :=
  .ite hd.set.set.hostWait hd.set
theorem Dev.Canonical.trainRequest {d : Dev} {h : Nat} {cm3 cm2 cm1 cp1 : BitVec 6} {pre : Option Bool} (hd :
  d.Canonical) :
    (d.trainRequest h cm3 cm2 cm1 cp1 pre).Canonical := by
  unfold Dev.trainRequest
  extract_lets -underBinder go p d1
  have h1 : d1.Canonical := hd.set.set.set.set.send
  refine .ite ?_ hd
  split
  · exact h1
  · exact h1.set
theorem Dev.Canonical.trainDone {d : Dev} {h : Nat} {preRx : Bool} (hd : d.Canonical) :
    (d.trainDone h preRx).Canonical :=
  .ite hd.set.lset.set.set.lset.set.set.set.set hd
theorem Dev.Canonical.hostTick {h : Nat} {cdr : Bool} {snr : Nat} {d : Dev} (hd : d.Canonical) :
    (d.hostTick h cdr snr).Canonical := by
  unfold Dev.hostTick
  extract_lets -underBinder d1 d2 d3 ok d4
  have h2 : d2.Canonical := .ite (.ite hd.askTake hd.askTake.hostWait) hd
  exact .ite h2 (.ite (.ite h2.set.set.set.hostReady h2.set.set.set) (.ite h2.set.set.set.send h2.set.set))
theorem Dev.Canonical.postHost {h : Nat} {d : Dev} (hd : d.Canonical) : (d.postHost h).Canonical :=
  .ite hd (.ite hd.set.set.set.set.set.set.set hd.set.set.set.set.set)
theorem execHostSignalDetect_canonical {h : Fin 128} : RunsCanonical (execHostSignalDetect h) :=
  .of fun _ h => h.hostSignal
theorem execHostSignalLost_canonical {h : Fin 128} : RunsCanonical (execHostSignalLost h) :=
  .of fun _ h => h.hostLos
theorem execTrainingRequest_canonical {h : Fin 128} {cm3 cm2 cm1 cp1 : BitVec 6} {pre : Option Bool} : RunsCanonical
  (execTrainingRequest h cm3 cm2 cm1 cp1 pre) :=
  .of fun _ h => h.trainRequest
theorem execTrainingComplete_canonical {h : Fin 128} {preRx : Bool} : RunsCanonical (execTrainingComplete h preRx) :=
  .of fun _ h => h.trainDone
theorem execTrainingTimeout_canonical {h : Fin 128} : RunsCanonical (execTrainingTimeout h) :=
  .of fun _ h => .ite (h.onTime fun _ h => h.set.raiseTile.hostWait) h
theorem execRetrain_canonical {h : Fin 128} : RunsCanonical (execRetrain h) :=
  .of fun _ h => h.askWrite
theorem execHostLClearStats_canonical {h : Fin 128} : RunsCanonical (execHostLClearStats h) :=
  .of fun _ h => h.set
theorem execHostPClearStats_canonical {n : Fin 64} : RunsCanonical (execHostPClearStats n) :=
  .of fun _ h => h.setAll.each fun _ _ h => h.set
theorem execHostRelock_canonical {n : Fin 64} : RunsCanonical (execHostRelock n) :=
  .of fun _ h => h.amLost.seekMarkers
theorem execAmLockGained_canonical {n : Fin 64} {a b skew : BitVec 16} : RunsCanonical (execAmLockGained n a b skew) :=
  .of fun _ h => h.onTime fun _ h => h.amGained
theorem execAmLockLost_canonical {n : Fin 64} {lanes skew : BitVec 16} : RunsCanonical (execAmLockLost n lanes skew) :=
  .of fun _ h => .ite (.ite h.set.deskewError (h.set.forList fun _ _ h => h.set).amLost.showLanes) h
theorem Dev.Canonical.countHostWord {d : Dev} {n : Nat} {word : List Nat} (h : d.Canonical) :
    (d.countHostWord n word).Canonical := by
  unfold Dev.countHostWord
  extract_lets -underBinder d1
  split
  · exact .ite h.addWrap.addSat h.addWrap.addSat.addWrap.addWrap
  · exact .ite h.addWrap.addWrap.set h.addWrap.addWrap.set.set.raiseTile
theorem Dev.Canonical.nearPush {d : Dev} {n : Nat} {w : RsWord} (h : d.Canonical) : (d.nearPush n w).Canonical :=
  .ite (.same h) (Dev.Canonical.same h).send
theorem execHostCodewordReceived_canonical {n : Fin 64} {word : List (BitVec 10)} : RunsCanonical
  (execHostCodewordReceived n word) := by
  refine .of fun _ h => ?_
  extract_lets -underBinder w x d1 d2
  have h2 : d2.Canonical := .ite (.same h.countHostWord) h.countHostWord
  exact .ite (.ite h2.nearPush h2) h
theorem execHostTxSourceSwitch_canonical {n : Fin 64} : RunsCanonical (execHostTxSourceSwitch n) :=
  .of fun _ h => (Dev.Canonical.ite h.set (.same h.set)).followTiming
theorem execNearLoopRecentre_canonical {n : Fin 64} : RunsCanonical (execNearLoopRecentre n) :=
  .of fun _ h => .ite (Dev.Canonical.same h).set h
theorem execCaptureOutReady_canonical {h : Fin 128} : RunsCanonical (execCaptureOutReady h) :=
  .of fun _ h => .ite (h.onTime fun _ h => h.hostReady) h
theorem execCaptureOutPowerDown_canonical {h : Fin 128} : RunsCanonical (execCaptureOutPowerDown h) :=
  .of fun _ h => .ite (h.onTime fun _ h => h.leaveReady.set.set) h

end Sys2Proof.Machine
end


section
/-! PROOFS. Every operation of capture, the PCIe endpoint and GDDR7 keeps the canonical form. -/

namespace Sys2Proof.Machine

open Sys2Proof

/-! ## Machine/Capture.lean -/

theorem Dev.Canonical.latchTap {d : Dev} {t : Nat} (h : d.Canonical) : (d.latchTap t).Canonical :=
  h.forList fun _ _ h => h.lset
theorem Dev.Canonical.releaseSampler {d : Dev} {t : Nat} (h : d.Canonical) : (d.releaseSampler t).Canonical :=
  .ite h.set.set h
theorem Dev.Canonical.endDescs {d : Dev} {t : Nat} {all : Bool} (h : d.Canonical) : (d.endDescs t all).Canonical :=
  .ite (.same h) h
theorem Dev.Canonical.tapDone {d : Dev} {t : Nat} (h : d.Canonical) : (d.tapDone t).Canonical :=
  h.endDescs.releaseSampler.set.set.raise
theorem Dev.Canonical.clearTap {d : Dev} {t : Nat} (h : d.Canonical) : (d.clearTap t).Canonical := .same h
theorem Dev.Canonical.addRecord {d : Dev} {t : Nat} {bs : List Byte} (h : d.Canonical) : (d.addRecord t bs).Canonical :=
  .ite h.addSat (.same h)
theorem Dev.Canonical.dropRecs {d : Dev} {t n : Nat} (h : d.Canonical) : (d.dropRecs t n).Canonical := .same h
theorem Dev.Canonical.setPeriod {d : Dev} {t : Nat} (h : d.Canonical) : (d.setPeriod t).Canonical := by
  unfold Dev.setPeriod
  extract_lets -underBinder l
  split
  · exact .ite h.set h
  · exact h
theorem Dev.Canonical.addRef {d : Dev} {t i time : Nat} (h : d.Canonical) : (d.addRef t i time).Canonical :=
  (Dev.Canonical.same h).setPeriod
theorem Dev.Canonical.directory {d : Dev} {t : Nat} {frozen postShort : Bool} (h : d.Canonical) :
    (d.directory t frozen postShort).Canonical :=
  h.memWrite
theorem Dev.Canonical.beginSegment {d : Dev} {t : Nat} (h : d.Canonical) : (d.beginSegment t).Canonical :=
  .ite h.setAll.set.set.set h.setAll.set.set
theorem Dev.Canonical.putBlock {d : Dev} {t : Nat} {b : BlockIn} {reason : Option Nat} {last : Bool} (h : d.Canonical) :
    (d.putBlock t b reason last).Canonical := by
  unfold Dev.putBlock
  extract_lets -underBinder all rs n p lastIx rs' flags time low seg head body off a d1 gone d2 d3 d4 d5 d6 d7
  have h2 : d2.Canonical := .same h.dropRecs.addSat
  have h4 : d4.Canonical := h2.memWrite.memWrite.addRef.set
  have h6 : d6.Canonical := (Dev.Canonical.ite h4 h4.addRef).setAll.addWrap
  exact .ite h6.addWrap.addWrap.set.set h6.addWrap.addWrap.set
theorem Dev.Canonical.gap {d : Dev} {t cause first n time : Nat} (h : d.Canonical) :
    (d.gap t cause first n time).Canonical :=
  .ite h.addRecord.set.addWrap.set h.addRecord.set.addWrap.set.set.raise
theorem Dev.Canonical.loseSamples {d : Dev} {t cause n time : Nat} (h : d.Canonical) :
    (d.loseSamples t cause n time).Canonical :=
  .ite h (Dev.Canonical.same h).set.gap
theorem Dev.Canonical.loseWritten {d : Dev} {a : Nat} (h : d.Canonical) : (d.loseWritten a).Canonical := by
  unfold Dev.loseWritten
  split
  · exact h
  · exact (Dev.Canonical.same h).gap
theorem Dev.Canonical.loseBlock {d : Dev} {t : Nat} {b : BlockIn} (h : d.Canonical) : (d.loseBlock t b).Canonical :=
  h.loseSamples
theorem Dev.Canonical.endCapture {d : Dev} {t reason : Nat} {frozen cut : Bool} {b : BlockIn} (h : d.Canonical) :
    (d.endCapture t reason frozen cut b).Canonical :=
  .ite (.ite h.set.tapDone (.ite h.set.loseBlock.set.set h.set.putBlock.set)) h.set.putBlock.directory.tapDone
theorem Dev.Canonical.endByCause {d : Dev} {t reason : Nat} (h : d.Canonical) : (d.endByCause t reason).Canonical :=
  .ite (.ite h.loseCells.set.tapDone h.drawn.endCapture) (.ite h.set.tapDone (.ite h.set.tapDone h))
theorem Dev.Canonical.endTaps {d : Dev} {p : Nat → Bool} {reason : Nat} (h : d.Canonical) :
    (d.endTaps p reason).Canonical :=
  h.each fun _ _ h => .ite h.endByCause h
theorem Dev.Canonical.enterPost {d : Dev} {t seq off k time frac src flags : Nat} (h : d.Canonical) :
    (d.enterPost t seq off k time frac src flags).Canonical :=
  h.set.set.set.set.set.set.set.set.set.set.raise
theorem Dev.Canonical.offer {d : Dev} {t src info time clk : Nat} {falling : Bool} (h : d.Canonical) :
    (d.offer t src info time clk falling).Canonical := by
  unfold Dev.offer
  extract_lets -underBinder p d1 k last same b filling arming flags d2 d3 d4 d5 d6
  have h2 : d2.Canonical := .ite h.drawn h.drawn.set.set
  have h4 : d4.Canonical := h2.addWrap.set.addRecord
  have h6 : d6.Canonical := h4.set.set.set.set.set
  exact .ite h (.ite h.drawn.addSat (.ite h6.enterPost h6))
theorem Dev.Canonical.takeTrigger {t : Nat} {d : Dev} (h : d.Canonical) : (d.takeTrigger t).Canonical := by
  unfold Dev.takeTrigger
  split
  · exact h
  · exact (Dev.Canonical.same h).offer
theorem Dev.Canonical.maskLimit {d : Dev} {t index time : Nat} (h : d.Canonical) :
    (d.maskLimit t index time).1.Canonical := by
  unfold Dev.maskLimit
  dsimp only
  exact h.set.addRecord.set.raise.trigger
theorem Dev.Canonical.violation {t index time : Nat} {p : Dev × Bool} (h : p.1.Canonical) :
    (Dev.violation t index time p).1.Canonical := by
  unfold Dev.violation
  extract_lets d1 lim q
  have h1 : d1.Canonical := h.addSat
  have hq : q.1.Canonical := h1.maskLimit
  clear_value q
  exact .iteFst hq h1
theorem Dev.Canonical.freeze {d : Dev} {t : Nat} {b : BlockIn} (h : d.Canonical) : (d.freeze t b).Canonical := by
  unfold Dev.freeze
  extract_lets -underBinder n st d1 d2 d3
  have h2 : d2.Canonical := (Dev.Canonical.ite h h.set).each fun _ _ h => h.takeTrigger
  exact (Dev.Canonical.ite h2 h2.set).endCapture
theorem Dev.Canonical.maskTest {d : Dev} {t : Nat} {b : BlockIn} (h : d.Canonical) : (d.maskTest t b).1.Canonical :=
  .iteFst (.foldlFst h fun _ _ h => .iteFst h.violation h) h
theorem Dev.Canonical.afterBlock {d : Dev} {t : Nat} {ends final : Bool} (h : d.Canonical) :
    (d.afterBlock t ends final).Canonical :=
  .ite (.ite h.directory.set.set.tapDone h.directory.set.set.beginSegment) (.ite h.set.set h)
theorem Dev.Canonical.blockWrite {d : Dev} {t : Nat} {b : BlockIn} (h : d.Canonical) : (d.blockWrite t b).Canonical :=
  .ite h (.ite h.maskTest.freeze (.ite (.ite h.maskTest.loseBlock h.maskTest.putBlock)
    h.maskTest.putBlock.afterBlock))
theorem Dev.Canonical.startPoint {d : Dev} {t : Nat} (h : d.Canonical) : (d.startPoint t).Canonical := h.shadowBegin
theorem Dev.Canonical.sweepFrom {d : Dev} {t e : Nat} (h : d.Canonical) : (d.sweepFrom t e).Canonical := h.set.set.set
theorem Dev.Canonical.sweepNext {d : Dev} {t : Nat} (h : d.Canonical) : (d.sweepNext t).Canonical :=
  .ite h.set (.ite h.set.set h.sweepFrom)
theorem Dev.Canonical.sweepPoint {d : Dev} {t hits : Nat} (h : d.Canonical) : (d.sweepPoint t hits).Canonical := by
  unfold Dev.sweepPoint
  extract_lets -underBinder eye ix bytes bad d1 p
  have h1 : d1.Canonical := h.same
  have hp : p.1.Canonical := .iteFst (Dev.Canonical.violation h1) h1
  exact .ite hp.freeze hp.sweepNext.startPoint
theorem Dev.Canonical.startTap {d : Dev} {t : Nat} (h : d.Canonical) : (d.startTap t).Canonical :=
  .ite (Dev.Canonical.ite h.set.set h.beginSegment).sweepFrom.startPoint (.ite h.set.set h.beginSegment)
theorem Dev.Canonical.tapsWoken {d : Dev} (h : d.Canonical) : d.tapsWoken.Canonical :=
  h.each fun _ _ h => .ite h.startTap h
theorem Dev.Canonical.logRefusal {d : Dev} {t code : Nat} (h : d.Canonical) : (d.logRefusal t code).Canonical := by
  unfold Dev.logRefusal
  split
  · exact h.refuse
  · split
    · exact h.refuse
    · exact h
  · exact .ite h.refuse h
  · exact h.refuse
  · exact h
theorem Dev.Canonical.clampLengths {d : Dev} {t : Nat} (h : d.Canonical) : (d.clampLengths t).Canonical :=
  .ite h.set (Dev.Canonical.ite h.set.lset.set.lset h.set.lset.set.lset.set.lset).set.set
theorem Dev.Canonical.acceptArm {d : Dev} {t : Nat} (h : d.Canonical) : (d.acceptArm t).Canonical := by
  unfold Dev.acceptArm
  extract_lets -underBinder d1 d2 d3
  have h1 : d1.Canonical := h.clearTap.latchTap.setAll.addWrap
  have h3 : d3.Canonical := .ite h1.clampLengths.set h1.clampLengths
  exact .ite h3.startTap (h3.set.forList fun _ _ h => .ite h h.wake)
theorem Dev.Canonical.blockLeft {d : Dev} {t : Nat} (h : d.Canonical) : (d.blockLeft t).Canonical :=
  .ite (Dev.Canonical.same h).set.set (Dev.Canonical.same h).set.set.putBlock.set
theorem Dev.Canonical.checkDrained {d : Dev} {t : Nat} (h : d.Canonical) : (d.checkDrained t).Canonical :=
  .ite h.tapDone h
theorem Dev.Canonical.drainFrame {d : Dev} {t : Nat} {bad : Bool} (h : d.Canonical) : (d.drainFrame t bad).Canonical :=
  (Dev.Canonical.same (.ite h.memRead h.memRead.set)).blockLeft
theorem Dev.Canonical.sendFrame {d : Dev} {t n : Nat} (h : d.Canonical) : (d.sendFrame t n).Canonical :=
  .ite h (Dev.Canonical.same h.send).set.addWrap.set.checkDrained
theorem execCaptureArm_canonical {t : Fin 8} : RunsCanonical (execCaptureArm t) :=
  .of fun _ h => .ite h.acceptArm h.logRefusal.set.set.raise
theorem execCaptureStop_canonical {t : Fin 8} {b : BlockIn} : RunsCanonical (execCaptureStop t b) :=
  .of fun _ h => .ite h.endCapture (.ite h.set.tapDone h)
theorem execCaptureAbort_canonical {t : Fin 8} : RunsCanonical (execCaptureAbort t) :=
  .of fun _ h => .ite h (Dev.Canonical.ite h.endDescs.releaseSampler h).clearTap.setAll.set
theorem execCapClearStats_canonical {t : Fin 8} : RunsCanonical (execCapClearStats t) :=
  .of fun _ h => h.setAll
theorem execBlockWrite_canonical {t : Fin 8} {b : BlockIn} : RunsCanonical (execBlockWrite t b) :=
  .of fun _ h => h.blockWrite
theorem execTriggerAccept_canonical {t : Fin 8} : RunsCanonical (execTriggerAccept t) :=
  .of fun _ h => h.takeTrigger
theorem execSoftwareTrigger_canonical {taps : Byte} {tag : BitVec 24} : RunsCanonical (execSoftwareTrigger taps tag) :=
  .of fun _ h => h.toTaps.xtrigEvent
theorem execTrigInEdge_canonical {p : Fin 4} {rising : Bool} {c : DWord} {f : Fin 6554} : RunsCanonical (execTrigInEdge
  p rising c f) :=
  .of fun _ h => .ite (.ite h.addSat.orBits.raise h.set.toTaps.xtrigEvent) h
theorem execXtrigEdge_canonical {j : Fin 2} {c : DWord} {f : Fin 6554} : RunsCanonical (execXtrigEdge j c f) :=
  .of fun _ h => .ite h h.toTaps
theorem execAutoTrigger_canonical {t : Fin 8} : RunsCanonical (execAutoTrigger t) :=
  .of fun _ h => .ite (h.onTime fun _ h => h.offer) h
theorem execSampleLoss_canonical {t : Fin 8} {cause : Fin 3} {n : Nat} {time : DWord} : RunsCanonical (execSampleLoss t
  cause n time) :=
  .of fun _ h => .ite h.loseSamples h
theorem execShadowPointDone_canonical {n : Fin 64} {hits : Word} : RunsCanonical (execShadowPointDone n hits) := by
  refine .of fun _ h => ?_
  refine .ite ?_ h
  refine h.onTime fun _ h => ?_
  extract_lets -underBinder h' d1
  split
  · exact h.set.set.set.sweepPoint
  · exact h.set.set.set
theorem execCaptureOutFrame_canonical {t : Fin 8} : RunsCanonical (execCaptureOutFrame t) :=
  .of fun _ h => .ite h.sendFrame h
theorem execBlockPartnerTimeout_canonical {t : Fin 8} : RunsCanonical (execBlockPartnerTimeout t) :=
  .of fun _ h => .ite (h.onTime fun _ h => h.sendFrame) h

/-! ## Machine/Dma.lean -/

theorem Dev.Canonical.showViol {d : Dev} (h : d.Canonical) : d.showViol.Canonical := by
  unfold Dev.showViol
  extract_lets -underBinder d1
  split
  · exact h.set.setAll
  · exact h.set.set.set.set.set.set.set.set
theorem Dev.Canonical.logViol {d : Dev} {addr bar : Nat} {write : Bool} {who : Requester} {reqId type time : Nat} (h :
    d.Canonical) :
    (d.logViol addr bar write who reqId type time).Canonical :=
  (Dev.Canonical.ite (Dev.Canonical.same h).showViol h.addSat).raise
theorem Dev.Canonical.violate {d : Dev} {addr bar : Nat} {write : Bool} {who : Requester} {reqId type time : Nat} (h :
    d.Canonical) :
    (d.violate addr bar write who reqId type time).Canonical :=
  .ite h.logViol h.logViol.send
theorem Dev.Canonical.syncPaused {q : Nat} {d : Dev} (h : d.Canonical) : (d.syncPaused q).Canonical := h.set
theorem Dev.Canonical.syncPausedAll {d : Dev} (h : d.Canonical) : d.syncPausedAll.Canonical :=
  h.each fun _ _ h => h.syncPaused
theorem Dev.Canonical.waited {d : Dev} {q : Nat} (h : d.Canonical) : (d.waited q).Canonical := .same h
theorem Dev.Canonical.awaitMem {q : Nat} {d : Dev} (h : d.Canonical) : (d.awaitMem q).Canonical := by
  unfold Dev.awaitMem
  extract_lets -underBinder ms d1 was d2
  have h1 : d1.Canonical := h.forList fun _ _ h => h.wake
  exact (Dev.Canonical.ite h1.set.waited (.ite h1.set.set h1.set)).syncPaused
theorem Dev.Canonical.ask {q : Nat} {d : Dev} (h : d.Canonical) : (d.ask q).Canonical := by
  unfold Dev.ask
  split
  · exact h
  · exact .ite (Dev.Canonical.same h).set.send h
theorem Dev.Canonical.askAll {d : Dev} (h : d.Canonical) : d.askAll.Canonical :=
  h.each fun _ _ h => h.each fun _ _ h => h.ask
theorem Dev.Canonical.resetQueue {q : Nat} {d : Dev} (h : d.Canonical) : (d.resetQueue q).Canonical :=
  (Dev.Canonical.same h).set.set.setAll.set
theorem Dev.Canonical.hotResetQueue {q : Nat} {d : Dev} (h : d.Canonical) : (d.hotResetQueue q).Canonical :=
  h.resetQueue.setAll
theorem Dev.Canonical.cfgIgnored {d : Dev} {q : Nat} (h : d.Canonical) : (d.cfgIgnored q).Canonical := h.set.syncQueue
theorem Dev.Canonical.lateRead {d : Dev} {q : Nat} (h : d.Canonical) : (d.lateRead q).Canonical :=
  .ite h h.set.addSat.set.syncQueue.askAll
theorem Dev.Canonical.finishDesc {d : Dev} {q : Nat} {x : Desc} (h : d.Canonical) : (d.finishDesc q x).Canonical := by
  unfold Dev.finishDesc
  extract_lets -underBinder i d1 d2 j d3 d4 d5 d6 d7 d8
  have h3 : d3.Canonical := (Dev.Canonical.same h.send).set.addSat
  have h5 : d5.Canonical := .ite (Dev.Canonical.ite h3.set h3).set (.ite h3.set h3)
  have h6 : d6.Canonical := .ite h5.set.addSat h5
  exact (Dev.Canonical.ite h6.set.set.set (.ite (.same h6.set) h6)).awaitMem.syncQueue.askAll
theorem Dev.Canonical.hostData {d : Dev} {a : Nat} {bs : List Byte} {bad : Bool} (h : d.Canonical) :
    (d.hostData a bs bad).Canonical :=
  h.each fun _ _ h => h.send
theorem Dev.Canonical.readDone {d : Dev} {q : Nat} {last : Bool} {r : HostCompletion} {data : List Byte} (h :
  d.Canonical) :
    (d.readDone q last r data).Canonical := by
  unfold Dev.readDone
  extract_lets -underBinder d1
  split
  · exact (Dev.Canonical.ite h.set h).askAll
  · extract_lets -underBinder bs
    refine .ite (Dev.Canonical.ite h.set h).askAll ?_
    split
    · exact (Dev.Canonical.same (Dev.Canonical.ite h.set h).memWrite.addWrap).askAll
    · exact (Dev.Canonical.same (.ite h.set h)).askAll
    · exact (Dev.Canonical.same (.ite h.set h)).askAll
    · exact (Dev.Canonical.same (.ite h.set h)).askAll
theorem Dev.Canonical.resetMsix {d : Dev} (h : d.Canonical) : d.resetMsix.Canonical :=
  (h.each fun _ _ h => h.setAll.set).withPba .nil
theorem Dev.Canonical.resetHostTargets {d : Dev} (h : d.Canonical) : d.resetHostTargets.Canonical :=
  h.each fun _ _ h => h.resetTarget.set
theorem Dev.Canonical.functionReset {d : Dev} (h : d.Canonical) : d.functionReset.Canonical :=
  (h.setAll.each fun _ _ h => h.hotResetQueue).resetMsix.resetHostTargets.syncLink
theorem execViolPop_canonical : RunsCanonical (execViolPop) :=
  .of fun _ h => (Dev.Canonical.same h).showViol
theorem execQueueEnable_canonical {q : Fin 16} {e : BitVec 5} : RunsCanonical (execQueueEnable q e) :=
  .of fun _ h => .ite h.set.set.setAll.set.set.syncPaused h.cfgIgnored
theorem execQueueDisable_canonical {q : Fin 16} : RunsCanonical (execQueueDisable q) :=
  .of fun _ h => .ite h.set.set.syncPaused h.set
theorem execQueueReset_canonical {q : Fin 16} : RunsCanonical (execQueueReset q) :=
  .of fun _ h => h.resetQueue
theorem execDmaQClearStats_canonical {q : Fin 16} : RunsCanonical (execDmaQClearStats q) :=
  .of fun _ h => h.setAll
theorem execTailWrite_canonical {q : Fin 16} {i : BitVec 16} : RunsCanonical (execTailWrite q i) :=
  .of fun _ h => .ite h.set h.cfgIgnored
theorem execDescriptorFetch_canonical {q : Fin 16} {x : DmaDescriptor} : RunsCanonical (execDescriptorFetch q x) :=
  .of fun _ h => .ite (Dev.Canonical.same h).awaitMem.askAll h
theorem execReadCompletion_canonical {q : Fin 16} {old last : Bool} {r : HostCompletion} {data : List Byte} :
  RunsCanonical (execReadCompletion q old last r data) :=
  .of fun _ h => .ite (.ite h.lateRead h) (.ite h h.readDone)
theorem execCompletionTimeout_canonical {q : Fin 16} {old : Bool} : RunsCanonical (execCompletionTimeout q old) := by
  refine .of fun _ h => ?_
  extract_lets -underBinder d1
  refine .ite h.lateRead ?_
  refine .ite h ?_
  split
  · exact .ite h.set (.same h.set)
  · exact h.set
theorem execPcieHotReset_canonical {linkDown : Bool} : RunsCanonical (execPcieHotReset linkDown) :=
  .of fun _ h => (Dev.Canonical.ite h.set.setAll h.set).functionReset
theorem execFlr_canonical : RunsCanonical (execFlr) :=
  .of fun _ h => h.set.functionReset
theorem execLinkUp_canonical {speed : Fin 5} {width : Fin 4} : RunsCanonical (execLinkUp speed width) :=
  .of fun _ h => (Dev.Canonical.ite (Dev.Canonical.ite h.set.set h.set).set (.ite h.set.set
    h.set)).set.set.set.set.set.set.syncLink
theorem execD3hotEntry_canonical {pmeEn : Bool} : RunsCanonical (execD3hotEntry pmeEn) :=
  .of fun _ h => h.set.set.set.syncLink.syncPausedAll
theorem execD0Return_canonical : RunsCanonical (execD0Return) :=
  .of fun _ h => h.set.syncPausedAll.flushPba.askAll
theorem execBmeChange_canonical {on : Bool} : RunsCanonical (execBmeChange on) :=
  .of fun _ h => .ite h.set.syncPausedAll.flushPba.askAll h.set.syncPausedAll
theorem execVectorUnmask_canonical {v : Option (Fin 256)} : RunsCanonical (execVectorUnmask v) := by
  refine .of fun _ h => ?_
  refine .flushPba ?_
  split
  · exact h.set
  · exact h.set
theorem execL1Entry_canonical : RunsCanonical (execL1Entry) :=
  .of fun _ h => h.set.each fun _ _ h => h.release
theorem execL1Exit_canonical : RunsCanonical (execL1Exit) :=
  .of fun _ h => h.set

/-! ## Machine/DmaMove.lean -/

theorem Dev.Canonical.starved {d : Dev} {q : Nat} (h : d.Canonical) : (d.starved q).Canonical :=
  .ite h h.set.set.syncQueue
theorem Dev.Canonical.blockToHost {d : Dev} {t q : Nat} {bad : Bool} {x : Desc} (h : d.Canonical) :
    (d.blockToHost t q bad x).Canonical :=
  (Dev.Canonical.same h.memRead.hostData).addWrap.blockLeft.checkDrained
theorem Dev.Canonical.moveUnit {d : Dev} {q : Nat} {bad : Bool} {x : Desc} (h : d.Canonical) :
    (d.moveUnit q bad x).Canonical :=
  (Dev.Canonical.same h.hostData.memRead).addWrap
theorem Dev.Canonical.unitTurn {d : Dev} {badQ badT : Option Nat} (h : d.Canonical) :
    (d.unitTurn badQ badT).Canonical := by
  unfold Dev.unitTurn
  extract_lets general
  have hg (q : Nat) : (general q).Canonical := by
    unfold general
    split
    · exact h.set.moveUnit
    · exact h
  split
  · exact hg _
  · split
    · split
      · exact h.set.blockToHost
      · exact h
    · split
      · exact hg _
      · exact h
theorem Dev.Canonical.unitTurns {badQ badT : Option Nat} {p : Dev → Bool} {fuel : Nat} {d : Dev} (h : d.Canonical) :
    (Dev.unitTurns badQ badT p fuel d).Canonical := by
  induction fuel generalizing d with
  | zero => exact h
  | succ fuel ih => exact .ite (ih h.unitTurn) h
theorem Dev.Canonical.completeDesc {d : Dev} {q : Nat} {bad : Bool} (h : d.Canonical) :
    (d.completeDesc q bad).Canonical := by
  unfold Dev.completeDesc
  extract_lets -underBinder d1
  refine .ite h ?_
  split
  · exact .ite h h.unitTurns
  · refine .ite ?_ ?_
    · exact (Dev.Canonical.ite h h.unitTurns).finishDesc
    · exact .ite (Dev.Canonical.ite h h.unitTurns).finishDesc (.ite h h.unitTurns)
theorem Dev.Canonical.drainDma {d : Dev} {t : Nat} {bad : Bool} (h : d.Canonical) : (d.drainDma t bad).Canonical :=
  .ite h (.ite h.starved h.unitTurns)
theorem execBlockDrain_canonical {t : Fin 8} {bad : Bool} : RunsCanonical (execBlockDrain t bad) :=
  .of fun _ h => .ite (.ite h.drainDma h.drainFrame) h
theorem execDescriptorComplete_canonical {q : Fin 16} {bad : Bool} : RunsCanonical (execDescriptorComplete q bad) :=
  .of fun _ h => h.completeDesc

/-! ## Machine/Memory.lean -/

theorem Dev.Canonical.memSync {d : Dev} (h : d.Canonical) : d.memSync.Canonical := by
  unfold Dev.memSync
  exact .ite h.set.set h.set
theorem Dev.Canonical.memRefresh {d : Dev} {m : Nat} {on : Bool} (h : d.Canonical) : (d.memRefresh m on).Canonical :=
  h.set.set
theorem Dev.Canonical.memoryLost {d : Dev} (h : d.Canonical) : d.memoryLost.Canonical := by
  unfold Dev.memoryLost
  exact (Dev.Canonical.same ((Dev.Canonical.same h).forList fun _ _ h => h.violate).dropRegions.endTaps).memSync
theorem Dev.Canonical.bootGo {d : Dev} (h : d.Canonical) : d.bootGo.Canonical := h.set.set.setAll.set
theorem Dev.Canonical.planMem {d : Dev} (h : d.Canonical) : d.planMem.Canonical := .ite h (.ite h.bootGo (.ite h.set h))
theorem Dev.Canonical.memFail {d : Dev} (h : d.Canonical) : d.memFail.Canonical :=
  h.set.setEach.memoryLost.set.raise.planMem
theorem Dev.Canonical.memTrain {d : Dev} (h : d.Canonical) : d.memTrain.Canonical := by
  unfold Dev.memTrain
  exact h.set.setEach.setEach.memSync
theorem Dev.Canonical.startRetrain {c : Nat} {d : Dev} (h : d.Canonical) : (d.startRetrain c).Canonical :=
  .ite h.set.set.set.raise h
theorem Dev.Canonical.memTick {d : Dev} (h : d.Canonical) : d.memTick.Canonical :=
  h.set.setEach.set.each fun _ _ h => .ite (h.askTake.each fun _ _ h => h.startRetrain) h
theorem Dev.Canonical.markUrgent {d : Dev} {c : Nat} (h : d.Canonical) : (d.markUrgent c).Canonical := by
  unfold Dev.markUrgent
  refine h.each fun _ _ h => ?_
  split
  · exact h
  · exact .ite (Dev.Canonical.same h).addSat h
theorem Dev.Canonical.uncorr {d : Dev} {m : Nat} (h : d.Canonical) : (d.uncorr m).Canonical :=
  .ite h.addSat.set h.addSat.set.set.raise
theorem Dev.Canonical.failReq {d : Dev} {r : MemReq} {bytes : List Byte} (h : d.Canonical) :
    (d.failReq r bytes).Canonical := by
  unfold Dev.failReq
  refine .ite ?_ ?_
  · exact (Dev.Canonical.ite h.loseCells h).loseWritten
  · exact .ite (Dev.Canonical.ite h.loseCells h).send (.ite (.same (.ite h.loseCells h)) (.ite h.loseCells h))
theorem Dev.Canonical.serveReq {d : Dev} {c retries : Nat} {fail : Bool} {r : MemReq} (h : d.Canonical) :
    (d.serveReq c retries fail r).Canonical := by
  unfold Dev.serveReq
  extract_lets -underBinder used fail retries d1 d2 d3 bytes
  have h1 : d1.Canonical := (Dev.Canonical.same h).addWrap
  have h3 : d3.Canonical := h1.addSat.addSat.addWrap
  exact .ite h3.uncorr.failReq (.ite h3.putCells (.ite h3.send h3))
theorem Dev.Canonical.bar2Try {d : Dev} {off a : Nat} {write : Bool} {len : Nat} {bs : List Byte} {reqId clk time : Nat}
  (h : d.Canonical) :
    (d.bar2Try off a write len bs reqId clk time).1.Canonical := by
  unfold Dev.bar2Try
  extract_lets -underBinder units gates bad d1
  have h1 : d1.Canonical := h.forList fun _ _ h => .ite h h.wake
  refine .iteFst ?_ ?_
  · exact h.violate
  · refine .iteFst ?_ ?_
    · exact h.violate
    · exact .iteFst h.violate (.iteFst h.violate (.iteFst h.violate (.iteFst h1.violate (.iteFst h1 h1.memBar2))))
theorem Dev.Canonical.bar2Arrive {d : Dev} {off : Nat} {write : Bool} {len : Nat} {bs : List Byte} {reqId : Nat} (h :
    d.Canonical) :
    (d.bar2Arrive off write len bs reqId).Canonical :=
  .ite (.ite h h.send) (.ite (Dev.Canonical.same h).send (.ite (Dev.Canonical.same h.bar2Try).send h.bar2Try))
theorem Dev.Canonical.serveBar2 {fuel : Nat} {d : Dev} (h : d.Canonical) : (Dev.serveBar2 fuel d).Canonical := by
  induction fuel generalizing d with
  | zero => exact h
  | succ fuel ih =>
    unfold Dev.serveBar2
    split
    · split
      · exact .ite h.bar2Try (ih (.same h.bar2Try))
      · exact h
    · exact h
theorem execMemTrainingDone_canonical {density : Fin 3} : RunsCanonical (execMemTrainingDone density) :=
  .of fun _ h => .ite h.set.set.setEach.setEach.set.set.memSync.formRegions.planMem h
theorem execMemTrainingRetry_canonical {c : Fin 32} : RunsCanonical (execMemTrainingRetry c) :=
  .of fun _ h => .ite (h.onTime fun _ h => .ite h.set.set h.memFail) h
theorem execDriftTracking_canonical {c : Fin 32} {drift : Bool} {ecc : Word} : RunsCanonical (execDriftTracking c drift
  ecc) :=
  .of fun _ h => .ite (h.onTime fun _ h => .ite h.set.addSat.set.startRetrain h.set.addSat.set) h
theorem execMemRetrain_canonical {m : Fin 8} : RunsCanonical (execMemRetrain m) :=
  .of fun _ h => h.askWrite
theorem execMemRetrainDone_canonical {c : Fin 32} {ok : Bool} : RunsCanonical (execMemRetrainDone c ok) :=
  .of fun _ h => .ite (h.onTime fun _ h => .ite h.set.addSat.set.raise (.ite h.set.set h.raise.memFail))
    h
theorem execMemReinit_canonical : RunsCanonical (execMemReinit) :=
  .of fun _ h => .ite h.memTrain h
theorem execMemClearStats_canonical : RunsCanonical (execMemClearStats) :=
  .of fun _ h => h.set.each fun _ _ h => h.setAll
theorem execMemTempRead_canonical {m : Fin 8} {t : Byte} : RunsCanonical (execMemTempRead m t) := by
  refine .of fun _ h => ?_
  refine h.onTime fun _ h => ?_
  extract_lets -underBinder d1 hot d2 d3 d4
  have h3 : d3.Canonical := .ite h.set.set.set.raise h.set.set
  exact .ite h3.set.set.set.raise (.ite h3.set.set.raise h3.set)
theorem execMemRequestIssue_canonical {c : Fin 32} {retries : Fin 4} {fail : Bool} : RunsCanonical (execMemRequestIssue
  c retries fail) := by
  refine .of fun _ h => ?_
  extract_lets -underBinder d1
  refine .ite ?_ h
  split
  · exact h.markUrgent.serveReq
  · exact h.markUrgent
theorem execVddqLoss_canonical : RunsCanonical (execVddqLoss) :=
  .of fun _ h => h.setAll.setEach.setEach.memoryLost.loseCells
theorem execBar2BaseWrite_canonical {base : BitVec 9} : RunsCanonical (execBar2BaseWrite base) :=
  .of fun _ h => h.set
theorem execBar2Access_canonical {off : Word} {write : Bool} {len : BitVec 13} {bytes : List Byte} {reqId : BitVec 16} :
  RunsCanonical (execBar2Access off write len bytes reqId) :=
  .of fun _ h => h.bar2Arrive

end Sys2Proof.Machine
end


section
/-! PROOFS. Every operation of postings, thermal supervision, power states and the time base keeps the canonical form. -/

namespace Sys2Proof.Machine

open Sys2Proof

/-! ## Machine/Posting.lean -/

theorem Dev.Canonical.postPlain {d : Dev} {c : Key → Bool} (h : d.Canonical) : (d.postPlain c).Canonical :=
  h.forList fun _ _ h => h.post
theorem Dev.Canonical.postLoops {d : Dev} {by_ : Nat} {c : Key → Bool} (h : d.Canonical) :
    (d.postLoops by_ c).Canonical :=
  h.forList fun _ _ h => h.postAnalog.postFar.postSource
theorem Dev.Canonical.goLive {d0 : Dev} {by_ : Nat} {c : Key → Bool} (h : d0.Canonical) :
    (d0.goLive by_ c).Canonical := by
  unfold Dev.goLive
  extract_lets -underBinder d1 d2 d3 d4 d5 d6 d7
  have h1 : d1.Canonical := h.postPlain.postLoops
  have h2 : d2.Canonical := by
    refine h1.each fun _ _ h => ?_
    extract_lets -underBinder d12 d13
    have h13 : d13.Canonical := .ite (Dev.Canonical.ite h.postLrx h).postLtx (Dev.Canonical.ite h.postLrx h).syncTx
    exact .ite h13.postCourLane h13.syncCourTx.syncCourRx
  have h3 : d3.Canonical := h2.each fun _ _ h => .ite h.postSpread h
  have h4 : d4.Canonical := h3.each fun _ _ h => .ite h.postPoolGroup h
  have h5 : d5.Canonical := h4.each fun _ _ h => .ite (Dev.Canonical.ite h.postPoolTile h).postHk (.ite h.postPoolTile
    h)
  have h6 : d6.Canonical := h5.each fun _ _ h => .ite h.postHost h
  have h7 : d7.Canonical := h6.each fun _ _ h => .ite h.postTrim h
  exact .ite h7.postCourHub h7
theorem Dev.Canonical.refuseUnused {d : Dev} {by_ : Nat} {c : Key → Bool} (h : d.Canonical) :
    (d.refuseUnused by_ c).Canonical := by
  unfold Dev.refuseUnused
  refine h.each fun _ _ h => ?_
  extract_lets -underBinder asks d1 d2
  have h2 : d2.Canonical := .ite (Dev.Canonical.ite h.set.refuse h).refuseTx (.ite h.set.refuse h)
  exact .ite h (.ite h2.refuseTx h2)
theorem Dev.Canonical.postSwing {d : Dev} {c : Key → Bool} (h : d.Canonical) : (d.postSwing c).1.Canonical :=
  h.forList fun _ _ h => h.set
theorem Dev.Canonical.applyPosting {d : Dev} {by_ : Nat} {c : Key → Bool} (h : d.Canonical) :
    (d.applyPosting by_ c).Canonical := by
  unfold Dev.applyPosting
  extract_lets -underBinder d1 c old vals s vals' d2 d3
  have h3 : d3.Canonical := .ite h.refuseUnused.goLive.postSwing (.same h.refuseUnused.goLive.postSwing)
  exact h3.each fun _ _ h => .ite h.wake.wake h
theorem Dev.Canonical.applyRecord {d : Dev} {p : RecPost} (h : d.Canonical) : (d.applyRecord p).Canonical := by
  unfold Dev.applyRecord
  extract_lets -underBinder now later since d1 d2 d3
  have h1 : d1.Canonical := h.forList fun _ _ h => h.set
  have h3 : d3.Canonical := h1.goLive.forList fun _ _ h => h.set
  exact .ite h3 (.same h3)
theorem Dev.Canonical.applyRecords {d : Dev} (h : d.Canonical) : d.applyRecords.Canonical :=
  (Dev.Canonical.same h).forList fun _ _ h => h.applyRecord
theorem Dev.Canonical.dropRecords {d : Dev} {c : Key → Bool} (h : d.Canonical) : (d.dropRecords c).Canonical := .same h
theorem Dev.Canonical.takeStaged {d : Dev} {c : Key → Bool} (h : d.Canonical) : (d.takeStaged c).Canonical :=
  h.forList fun _ _ h => h.post

/-! ## Machine/Thermal.lean -/

theorem Dev.Canonical.showSite {d : Dev} {s old : Nat} (h : d.Canonical) : (d.showSite s old).Canonical :=
  .ite h.set.set.set.set (.ite h.set.set.set.set h.set.set.set)
theorem Dev.Canonical.countEntry {d : Dev} {s : Nat} {v : ℤ} (h : d.Canonical) : (d.countEntry s v).Canonical := by
  unfold Dev.countEntry
  extract_lets -underBinder step d1
  have h1 : d1.Canonical := h.each fun _ _ h => h.set
  split
  · exact h1.set.set
  · exact .ite h1 (.ite (.ite h1.set.set h1.set) h1.set)
theorem Dev.Canonical.countAlarm {d : Dev} {s : Nat} {v : ℤ} (h : d.Canonical) : (d.countAlarm s v).Canonical :=
  .ite (.ite (.ite h.set.set.set h.set.set) h.set.set) (.ite h.set.set.set.set.raise h.set)
theorem Dev.Canonical.countRate {d : Dev} {s : Nat} {v : ℤ} (h : d.Canonical) : (d.countRate s v).Canonical := by
  unfold Dev.countRate
  extract_lets -underBinder ref d1
  clear_value ref
  split
  · exact .same h
  · refine .ite ?_ ?_
    · exact (Dev.Canonical.same h).set.set.set.raise
    · exact .ite (.same h) (.ite (Dev.Canonical.same h).set.set (Dev.Canonical.same h).set)
theorem Dev.Canonical.countReading {d : Dev} {s : Nat} {v : ℤ} {rate : Bool} (h : d.Canonical) :
    (d.countReading s v rate).Canonical :=
  (Dev.Canonical.ite h.countEntry.countAlarm.countRate h.countEntry.countAlarm).showSite.set.set
theorem Dev.Canonical.siteFail {d : Dev} {s cause : Nat} (h : d.Canonical) : (d.siteFail s cause).Canonical :=
  (Dev.Canonical.same h.set.set.setEach.setAll.set.showSite).set.raise
theorem Dev.Canonical.takeReplacement {s : Nat} {d : Dev} (h : d.Canonical) : (d.takeReplacement s).Canonical :=
  .ite (.ite h h.set.set.set.countReading.calReading.nvmReading) h
theorem Dev.Canonical.takeReplacements {d : Dev} (h : d.Canonical) : d.takeReplacements.Canonical :=
  h.each fun _ _ h => h.takeReplacement
theorem Dev.Canonical.siteMend {d : Dev} {s : Nat} (h : d.Canonical) : (d.siteMend s).Canonical := h.setAll
theorem Dev.Canonical.reading {d : Dev} {s : Nat} {raw : ℤ} (h : d.Canonical) : (d.reading s raw).Canonical := by
  unfold Dev.reading
  extract_lets -underBinder v sched cause d1 d2 d3 d4
  refine .ite ?_ ?_
  · refine .ite (.ite h.set.set.set.set.siteMend.countReading.calReading.nvmReading h.set.set.set.set.set) ?_
    split
    · exact .ite h.set.set.set.set.calReading h.set.set.set.set
    · exact h.set.set.set.set
  · refine .ite ?_ ?_
    · exact (Dev.Canonical.ite h.set.set.set.set.countReading h.set.set.set.set).calReading.nvmReading
    · exact h.set.set.set.set.siteFail
theorem Dev.Canonical.zoneLive {z : Nat} {d : Dev} (h : d.Canonical) : (d.zoneLive z).Canonical := by
  unfold Dev.zoneLive
  extract_lets -underBinder p cap level was d1 d2 d3 d4
  have h3 : d3.Canonical := .ite h.set.set.set.set.set.set h.set.set.set.set
  exact .ite h3 (.ite h3.addSat.raise h3.addSat)
theorem Dev.Canonical.thmIssue {d : Dev} (h : d.Canonical) : d.thmIssue.Canonical :=
  (h.each fun _ _ h => .ite h.demand.set h.demand).takeReplacements
theorem Dev.Canonical.thmTick {steps demands : Bool} {d : Dev} (h : d.Canonical) :
    (d.thmTick steps demands).Canonical := by
  unfold Dev.thmTick
  extract_lets -underBinder d1
  have h1 : d1.Canonical := .ite (h.each fun _ _ h => h.zoneLive).set h
  exact .ite h1 (.ite h1.thmIssue.set h1.set)
theorem Dev.Canonical.thmReplan {d : Dev} (h : d.Canonical) : d.thmReplan.Canonical :=
  (h.each fun _ _ h => .ite h.set.set.set.set h.set.set).each fun _ _ h => h.setEach.setAll
theorem execThmRead_canonical {x : Fin 40} : RunsCanonical (execThmRead x) :=
  .of fun _ h => h.demand
theorem execThmReadAll_canonical : RunsCanonical (execThmReadAll) :=
  .of fun _ h => h.each fun _ _ h => h.demand
theorem Dev.Canonical.readingLate {s : Nat} {d : Dev} (h : d.Canonical) : (d.readingLate s).Canonical :=
  .ite (.ite h.set.set h.set) h.set.siteFail
theorem execReadingDone_canonical {x : Fin 40} {raw : BitVec 16} : RunsCanonical (execReadingDone x raw) :=
  .of fun _ h => .ite h (h.onTime fun _ h => (Dev.Canonical.ite h.readingLate
    h.reading).takeReplacements)
theorem execReadingTimeout_canonical {x : Fin 40} : RunsCanonical (execReadingTimeout x) :=
  .of fun _ h => .ite h (h.onTime fun _ h => h.readingLate.takeReplacements)
theorem execReinstate_canonical {x : Fin 40} : RunsCanonical (execReinstate x) :=
  .of fun _ h => .ite h.set h
theorem execThmClearStats_canonical : RunsCanonical (execThmClearStats) :=
  .of fun _ h => h.setEach

/-! ## Machine/Power.lean -/

theorem Dev.Canonical.levelDone {d : Dev} {t : Nat} (h : d.Canonical) : (d.levelDone t).Canonical := h.set.raise
theorem Dev.Canonical.rampLevel {d : Dev} {t phase g : Nat} (h : d.Canonical) : (d.rampLevel t phase g).Canonical :=
  h.set.set.set.set.set.when fun _ h => h.set
theorem Dev.Canonical.levelLower {t thm : Nat} {d : Dev} (h : d.Canonical) : (d.levelLower t thm).Canonical := by
  unfold Dev.levelLower
  extract_lets -underBinder g d1 d2 live
  have h2 : d2.Canonical := .ite h.set.set.levelDone (.ite h.set.set.levelDone h.set)
  exact .ite (.ite h2.rampLevel (.ite h2.rampLevel h2)) h.set
theorem Dev.Canonical.levelRaise {t : Nat} {d : Dev} (h : d.Canonical) : (d.levelRaise t).Canonical :=
  .ite h.set (.ite h.set.set (.ite h.set.rampLevel (.ite h.set.rampLevel h.set)))
theorem Dev.Canonical.levelWoken {t : Nat} {d : Dev} (h : d.Canonical) : (d.levelWoken t).Canonical :=
  .ite h.set.set.set.levelDone h.set.set.set
theorem Dev.Canonical.laneFollow {d : Dev} {n : Nat} (h : d.Canonical) : (d.laneFollow n).Canonical :=
  h.syncTx.syncCourTx.syncCourRx.forList fun _ _ h => .ite h.hostUp h.hostDown
theorem Dev.Canonical.follow {d : Dev} {k : Nat} (h : d.Canonical) : (d.follow k).Canonical := by
  unfold Dev.follow
  split
  · exact h.laneFollow.groupFollow
  · exact h.laneFollow
  · exact h.memSync
  · exact h
theorem Dev.Canonical.rollBack {d : Dev} {g : List Nat} {j k i a : Nat} (h : d.Canonical) :
    (d.rollBack g j k i a).Canonical := by
  unfold Dev.rollBack
  extract_lets -underBinder d1 d2 d3 d4 stop d5
  have h2 : d2.Canonical := .ite h.set.set h.set.set.set
  have h3 : d3.Canonical := h2.forList fun _ _ h => h.set.set.addSat
  have h5 : d5.Canonical := (Dev.Canonical.ite h3 h3.set.raise).forList fun _ _ h => .ite h.set.set.laneSleep h.set.set
  exact .ite (.ite h3 h3.set.raise) (h5.forList fun _ _ h => h.follow)
theorem Dev.Canonical.rolledBack {d : Dev} {k : Nat} (h : d.Canonical) : (d.rolledBack k).Canonical :=
  (Dev.Canonical.ite h.set.set.laneWake h.set.set).follow.applyRecords
theorem Dev.Canonical.evaluate {d : Dev} {g : List Nat} (h : d.Canonical) : (d.evaluate g).Canonical := by
  unfold Dev.evaluate
  extract_lets -underBinder s d1
  refine .ite ?_ h
  refine .ite h.setEach ?_
  split
  · exact h.setEach.rollBack
  · exact (h.setEach.forList fun _ _ h => h.set.set.set).forList fun _ _ h => h.follow
theorem Dev.Canonical.powerBegin {d : Dev} (h : d.Canonical) : d.powerBegin.Canonical :=
  h.set.each fun _ _ h => .ite h.rolledBack h
theorem Dev.Canonical.powerTick {d : Dev} (h : d.Canonical) : d.powerTick.Canonical :=
  (h.each fun _ _ h => .ite h h.set).forList fun _ _ h => h.evaluate
theorem Dev.Canonical.sleepBlocks {d : Dev} {k s : Nat} (h : d.Canonical) : (d.sleepBlocks k s).Canonical := by
  unfold Dev.sleepBlocks
  split
  · exact .ite h.laneSleep h.laneOff
  · exact .ite h h.setEach
  · exact h.hkSleep
  · exact h.memSync
  · exact h
theorem Dev.Canonical.entered {d : Dev} {k s : Nat} (h : d.Canonical) : (d.entered k s).Canonical :=
  h.set.set.addSat.sleepBlocks
theorem Dev.Canonical.wakeWanted {d : Dev} {g : List Nat} (h : d.Canonical) : (d.wakeWanted g).Canonical := by
  unfold Dev.wakeWanted
  split
  · exact h.setEach.wake
  · exact h
theorem Dev.Canonical.unwind {d : Dev} {g : List Nat} (h : d.Canonical) : (d.unwind g).Canonical := by
  unfold Dev.unwind
  refine h.forList fun _ _ h => ?_
  exact .ite (Dev.Canonical.ite h h.set.set).set.addSat.set.memRefresh (Dev.Canonical.ite h h.set.set).set.addSat.set
theorem Dev.Canonical.passPoint {d : Dev} {g : List Nat} {s point : Nat} (h : d.Canonical) :
    (d.passPoint g s point).Canonical := by
  unfold Dev.passPoint
  extract_lets -underBinder d1 d2
  have h2 : d2.Canonical := .ite ((Dev.Canonical.ite h.setEach h).forList fun _ _ h => .ite h.memRefresh h) (.ite
    h.setEach h)
  exact .ite (h2.forList fun _ _ h => h.entered).wakeWanted (.ite h2.unwind h2)
theorem Dev.Canonical.entryPoint {d : Dev} {k point : Nat} (h : d.Canonical) : (d.entryPoint k point).Canonical :=
  .ite (h.forList fun _ _ h => .ite h.rolledBack h) (.ite h.passPoint h)
theorem Dev.Canonical.wakeBlocks {d : Dev} {k src : Nat} (h : d.Canonical) : (d.wakeBlocks k src).Canonical := by
  unfold Dev.wakeBlocks
  split
  · exact .ite h.laneUp (.ite h.laneWakeWait h.laneWake)
  · exact .ite h h.setEach
  · exact h.thmWoken
  · exact h.levelWoken
  · exact h.hkWake
  · exact h.memRefresh
  · exact h
theorem Dev.Canonical.afterWake {d : Dev} {k code : Nat} (h : d.Canonical) : (d.afterWake k code).Canonical :=
  .ite h.set.set (.ite h.set h)
theorem Dev.Canonical.wokenOn {d : Dev} {k : Nat} (h : d.Canonical) : (d.wokenOn k).Canonical :=
  (h.forList fun _ _ h => .ite h.set h).set.set.afterWake
theorem Dev.Canonical.wokenRest {d : Dev} {k src : Nat} (h : d.Canonical) : (d.wokenRest k src).Canonical :=
  (h.wakeBlocks.applyRecords.follow.each fun _ _ h => h.awaitMem).tapsWoken.askAll
theorem Dev.Canonical.woken {d : Dev} {k : Nat} (h : d.Canonical) : (d.woken k).Canonical := h.wokenOn.wokenRest
theorem Dev.Canonical.wakeComplete {d : Dev} {k : Nat} (h : d.Canonical) : (d.wakeComplete k).Canonical :=
  .ite h.woken h
theorem Dev.Canonical.syncParents {d : Dev} (h : d.Canonical) : d.syncParents.Canonical := h.each fun _ _ h => h.set
theorem Dev.Canonical.failBlocks {d : Dev} {k : Nat} (h : d.Canonical) : (d.failBlocks k).Canonical := by
  unfold Dev.failBlocks
  extract_lets -underBinder lanes
  split
  · exact h.endTaps.laneOff.laneFollow
  · exact h.laneFollow
  · exact h.thmGone
  · exact h.latchZeros
  · exact h.memFail
  · exact h.endTaps
  · exact h
theorem Dev.Canonical.enterFailed {d : Dev} {k : Nat} (h : d.Canonical) : (d.enterFailed k).Canonical :=
  (Dev.Canonical.ite h.set.set.raise h.set.set.raise.set).setAll
theorem Dev.Canonical.wakeFailed {d : Dev} {g : List Nat} (h : d.Canonical) : (d.wakeFailed g).Canonical := by
  unfold Dev.wakeFailed
  extract_lets -underBinder d1 below d2
  have h2 : d2.Canonical := (h.forList fun _ _ h => h.enterFailed).syncParents.forList fun _ _ h => .ite h.set.set.set h
  exact h2.forList fun _ _ h => h.failBlocks
theorem Dev.Canonical.attemptEnds {k : Nat} {late : Bool} {d : Dev} (h : d.Canonical) :
    (d.attemptEnds k late).Canonical :=
  .ite h.set.set.set.wakeFailed h.set.set.set
theorem Dev.Canonical.attemptFail {d : Dev} {k : Nat} {pll : Bool} (h : d.Canonical) :
    (d.attemptFail k pll).Canonical :=
  .ite (h.onTime fun _ h => h.attemptEnds) h
theorem Dev.Canonical.retryOne {d : Dev} {k code : Nat} (h : d.Canonical) : (d.retryOne k code).Canonical :=
  .ite h.set.set.set.setAll.syncParents h.wakeOne
theorem Dev.Canonical.retryWake {d : Dev} {k : Nat} (h : d.Canonical) : (d.retryWake k).Canonical :=
  .ite (((h.forList fun _ _ h => h.retryOne).forList fun _ _ h => h.retryOne).each fun _ _ h => h.syncTx) h
theorem Dev.Canonical.powerReplan {d : Dev} (h : d.Canonical) : d.powerReplan.Canonical :=
  h.each fun _ _ h => .ite h.wake h
theorem Dev.Canonical.putHorizon {k v : Nat} {d : Dev} (h : d.Canonical) : (d.putHorizon k v).Canonical :=
  h.forList fun _ _ h => h.set.set.set
theorem execHorizonWrite_canonical {k : Fin 158} {v : Word} : RunsCanonical (execHorizonWrite k v) :=
  .of fun _ h => .ite h.putHorizon.wake h.putHorizon
theorem execHorizonExpire_canonical {k : Fin 158} : RunsCanonical (execHorizonExpire k) :=
  .of fun _ h => .ite (h.onTime fun _ h => h.putHorizon) h
theorem execTimerWake_canonical {k : Fin 158} : RunsCanonical (execTimerWake k) := by
  refine .of fun _ h => ?_
  refine .ite ?_ h
  split
  · exact h.onTime fun _ h => h.wake
  · exact h
theorem execSdWake_canonical {n : Fin 64} : RunsCanonical (execSdWake n) :=
  .of fun _ h => .ite h.wake h
theorem execWakeRetryStart_canonical {k : Fin 158} : RunsCanonical (execWakeRetryStart k) :=
  .of fun _ h => .ite (h.onTime fun _ h => h.set.set.addSat.set) h
theorem execWakeRetry_canonical {k : Fin 158} : RunsCanonical (execWakeRetry k) :=
  .of fun _ h => h.retryWake
theorem execPwrClearStats_canonical {k : Fin 158} : RunsCanonical (execPwrClearStats k) :=
  .of fun _ h => h.setAll
theorem execRegulatorSettled_canonical {t : Fin 4} : RunsCanonical (execRegulatorSettled t) :=
  .of fun _ h => .ite (h.onTime fun _ h => h.set.levelDone) (.ite (h.onTime fun _ h => h.set) h)

/-! ## Machine/Timebase.lean -/

theorem Dev.Canonical.showQueued {d : Dev} (h : d.Canonical) : d.showQueued.Canonical := h.set
theorem Dev.Canonical.requestPosting {d : Dev} {scope index : Nat} (h : d.Canonical) :
    (d.requestPosting scope index).Canonical :=
  .ite ((h.when fun _ h => h.set).when fun _ h => h.set) (Dev.Canonical.same h.set).showQueued
theorem Dev.Canonical.targetsPosted {d : Dev} (h : d.Canonical) : d.targetsPosted.Canonical :=
  (h.each fun _ _ h => h.set.set).setEach
theorem Dev.Canonical.postLive {d : Dev} {ps : List Posting} (h : d.Canonical) : (d.postLive ps).Canonical := by
  unfold Dev.postLive
  split
  · exact h
  · extract_lets -underBinder d1 d2
    have h2 : d2.Canonical := (Dev.Canonical.same h).applyPosting.set
    exact (Dev.Canonical.ite h2.targetsPosted h2).showQueued
theorem Dev.Canonical.postTick {done : Bool} {d : Dev} (h : d.Canonical) : (d.postTick done).Canonical :=
  .ite h (.ite h.postLive h.set)
theorem Dev.Canonical.postTarget {x : Nat} {d : Dev} (h : d.Canonical) : (d.postTarget x).Canonical :=
  .ite (.ite h.set.lset.lset.release h.set.lset.lset) h.set
theorem Dev.Canonical.targetTick {late : Nat → Bool} {d : Dev} (h : d.Canonical) : (d.targetTick late).Canonical :=
  h.each fun _ _ h => .ite h.postTarget h
theorem Dev.Canonical.jumpTime {d : Dev} {v : Nat} (h : d.Canonical) : (d.jumpTime v).Canonical := by
  unfold Dev.jumpTime
  extract_lets -underBinder v0 d1 d2 d3
  have h1 : d1.Canonical := h.setNow.timersStepped
  have h3 : d3.Canonical := (Dev.Canonical.ite (Dev.Canonical.ite h1 h1.set).set (.ite h1 h1.set)).set
  exact h3.each fun _ _ h => .ite (Dev.Canonical.same h).set h
theorem Dev.Canonical.toRing {d : Dev} {st : Nat} (h : d.Canonical) : (d.toRing st).Canonical :=
  .ite h (.ite h.set h.set.raise)
theorem Dev.Canonical.slewOut {d : Dev} {e : ℤ} (h : d.Canonical) : (d.slewOut e).Canonical := h.set.set
theorem Dev.Canonical.ringEdge {d : Dev} {stamp : Nat} (h : d.Canonical) : (d.ringEdge stamp).Canonical :=
  .ite (.ite h.set.set.setAll.set.set.slewOut.toRing h.set.set.setAll.set.set.set.toRing) h.set.set.setAll.set.set
theorem Dev.Canonical.ringStep {d : Dev} {master : Nat} (h : d.Canonical) : (d.ringStep master).Canonical :=
  h.jumpTime.set.set.set
theorem Dev.Canonical.ringMessage {d : Dev} {bytes : List Byte} (h : d.Canonical) :
    (d.ringMessage bytes).Canonical := by
  unfold Dev.ringMessage
  extract_lets -underBinder differs was d1 d2
  have h2 : d2.Canonical := .ite h.set.raise h.set
  exact .ite (.ite h2.toRing h2.ringStep) h2
theorem Dev.Canonical.ringReplan {d : Dev} {was role : Nat} (h : d.Canonical) : (d.ringReplan was role).Canonical :=
  .ite h.set.setAll.toRing (.ite h.set.set.toRing h.set)
theorem Dev.Canonical.ringTick {d : Dev} (h : d.Canonical) : d.ringTick.Canonical :=
  .ite (Dev.Canonical.ite h.addSat h).set h
theorem Dev.Canonical.periodTake {d : Dev} (h : d.Canonical) : d.periodTake.Canonical := h.set.set
theorem Dev.Canonical.loadTake {d : Dev} (h : d.Canonical) : d.loadTake.Canonical := h.jumpTime.set
theorem Dev.Canonical.heartbeats {d : Dev} {m : Nat} (h : d.Canonical) : (d.heartbeats m).Canonical :=
  h.each fun _ _ h => .ite h (.ite h.addSat h.set)
theorem execPostingRequest_canonical {scope : BitVec 3} {index : BitVec 6} : RunsCanonical (execPostingRequest scope
  index) :=
  .of fun _ h => h.requestPosting
theorem execTimeSetArm_canonical : RunsCanonical (execTimeSetArm) :=
  .of fun _ h => .ite h.set h.set.set.set
theorem execRingSyncDrive_canonical : RunsCanonical (execRingSyncDrive) :=
  .of fun _ h => .ite h.set.set.set.send h
theorem execRingMsgSend_canonical : RunsCanonical (execRingMsgSend) :=
  .of fun _ h => .ite (h.onTime fun _ h => h.set.send) h
theorem execRingSyncReceived_canonical {stamp : DWord} : RunsCanonical (execRingSyncReceived stamp) :=
  .of fun _ h => .ite h.ringEdge h
theorem execRingTimeMessage_canonical {bytes : List Byte} : RunsCanonical (execRingTimeMessage bytes) :=
  .of fun _ h => .ite (.ite h.set.ringMessage h.set) h
theorem execRingHoldover_canonical : RunsCanonical (execRingHoldover) :=
  .of fun _ h => .ite h.toRing h
theorem execRingConflict_canonical : RunsCanonical (execRingConflict) :=
  .of fun _ h => .ite h.set.setAll.raise h
theorem execClerkRestart_canonical {t : Fin 4} {k : Fin 2} : RunsCanonical (execClerkRestart t k) :=
  .of fun _ h => .ite h.set.orBits.addSat.setEach.raiseTile.resetTarget h
theorem execPostmasterRestart_canonical {k : Fin 2} : RunsCanonical (execPostmasterRestart k) :=
  .of fun _ h => h.resetTarget

end Sys2Proof.Machine
end


section
/-! PROOFS. Every operation of plans and bring-up keeps the canonical form. -/

namespace Sys2Proof.Machine

open Sys2Proof

/-! ## Machine/Plan.lean -/

theorem Dev.Canonical.putMinMax {d : Dev} {ss : List PlanSec} {e : Nat} (h : d.Canonical) :
    (d.putMinMax ss e).Canonical :=
  h.each fun _ _ h => h.set.lset.set.lset
theorem Dev.Canonical.stageCourier {d : Dev} {b : List Byte} {n : Nat} (h : d.Canonical) :
    (d.stageCourier b n).Canonical :=
  h.set.set.set.set.each fun _ _ h => h.set.set.set.set
theorem Dev.Canonical.stageLoops {d : Dev} {ss : List PlanSec} {n : Nat} (h : d.Canonical) :
    (d.stageLoops ss n).Canonical :=
  h.set.set.set
theorem Dev.Canonical.showLoops {d : Dev} {n : Nat} (h : d.Canonical) : (d.showLoops n).Canonical := h.set.set.set
theorem Dev.Canonical.engineSettings {d : Dev} {ss : List PlanSec} {e : Nat} (h : d.Canonical) :
    (d.engineSettings ss e).Canonical := by
  unfold Dev.engineSettings
  extract_lets -underBinder c d1 d2 d3 d4 d5
  have h1 : d1.Canonical := .ite h h.filterReg
  have h2 : d2.Canonical := h1.dropRecords
  have h3 : d3.Canonical := h2.withReg (Store.wf_filter _ h1.reg)
  have h5 : d5.Canonical := .ite h1 (h3.forList fun _ _ h => h.stageCourier.stageLoops).putMinMax
  exact (h5.takeStaged.each fun _ _ h => h.post.post).forList fun _ _ h => h.showTx.showLoops
theorem Dev.Canonical.startEngine {d : Dev} {e : Nat} (h : d.Canonical) : (d.startEngine e).Canonical := by
  unfold Dev.startEngine
  extract_lets -underBinder d1 d2 d3
  have h2 : d2.Canonical := h.set.forList fun _ _ h => .ite h.laneRestart (.ite h.laneUp h)
  exact (h2.each fun _ _ h => .ite h.groupRestart h.groupOff).restartTx.forList fun _ _ h => h.laneFollow
theorem Dev.Canonical.restartEngine {d : Dev} {e : Nat} (h : d.Canonical) : (d.restartEngine e).Canonical :=
  .ite h.startEngine (h.set.set.forList fun _ _ h => h.laneFollow)
theorem Dev.Canonical.engineTick {e : Nat} {d : Dev} (h : d.Canonical) : (d.engineTick e).Canonical :=
  .ite h.startEngine h
theorem Dev.Canonical.domainsOff {d : Dev} {e : Nat} (h : d.Canonical) : (d.domainsOff e).Canonical :=
  h.forList fun _ _ h => h.set.setAll
theorem Dev.Canonical.stopEngine {d : Dev} {e : Nat} (h : d.Canonical) : (d.stopEngine e).Canonical := by
  unfold Dev.stopEngine
  extract_lets -underBinder d1 d2 d3 d4 d5
  have h2 : d2.Canonical := (h.each fun _ _ h => h.groupOff).forList fun _ _ h => h.laneOff
  have h5 : d5.Canonical := h2.setAll.calEngineOff.domainsOff.syncParents.forList fun _ _ h =>
    h.set.squelchNow.syncTx.syncCourTx.syncCourRx
  exact h5.lsOff
theorem Dev.Canonical.putTimebase {d : Dev} {b : List Byte} (h : d.Canonical) : (d.putTimebase b).Canonical :=
  (Dev.Canonical.ite h.set h.set.set).set.set.ringReplan
theorem Dev.Canonical.putRole {ss : List PlanSec} {h : Nat} {d : Dev} (hd : d.Canonical) :
    (d.putRole ss h).Canonical := by
  unfold Dev.putRole
  extract_lets -underBinder was port out role owner d1 d2
  have h1 : d1.Canonical := .ite hd.set.set hd.hostDown.set
  exact .ite hd (.ite h1.set.set.set h1.set.set)
theorem Dev.Canonical.putTopology {d : Dev} {ss : List PlanSec} (h : d.Canonical) : (d.putTopology ss).Canonical :=
  h.each fun _ _ h => h.set.set
theorem Dev.Canonical.putEngine {d : Dev} {ss : List PlanSec} {e : Nat} (h : d.Canonical) :
    (d.putEngine ss e).Canonical :=
  (Dev.Canonical.ite (h.forList fun _ _ h => .ite h h.set) (h.forList fun _ _ h => .ite h h.set).set.set).set.set.set
theorem Dev.Canonical.endEngineTaps {d : Dev} {ss : List PlanSec} {e : Nat} (h : d.Canonical) :
    (d.endEngineTaps ss e).Canonical :=
  h.endTaps
theorem Dev.Canonical.putEngines {d : Dev} {ss : List PlanSec} (h : d.Canonical) : (d.putEngines ss).Canonical := by
  unfold Dev.putEngines
  extract_lets -underBinder go was d1 off d2 on d3 d4 d5 d6 d7 d8 d9 d10 d11
  have h2 : d2.Canonical := (h.forList fun _ _ h => h.endEngineTaps).forList fun _ _ h => h.stopEngine
  have h4 : d4.Canonical := (h2.forList fun _ _ h => h.forList fun _ _ h => h.laneDrop).forList fun _ _ h => h.each fun
    _ _ h => h.groupOff
  have h7 : d7.Canonical := (h4.putTopology.forList fun _ _ h => h.putEngine).each fun _ _ h => h.putRole
  have h9 : d9.Canonical := (h7.forList fun _ _ h => h.forList fun _ _ h => h.hostDown).forList fun _ _ h =>
    h.engineSettings
  have h10 : d10.Canonical := h9.forList fun _ _ h => .ite ((Dev.Canonical.ite h h.calEngineOn).forList fun _ _ h =>
    h.wake) h.calEngineRestart
  exact (h10.forList fun _ _ h => h.restartEngine.lsAccept).set
theorem Dev.Canonical.putLoops {d : Dev} {old new : List PlanSec} {restarted : Nat} (h : d.Canonical) :
    (d.putLoops old new restarted).Canonical :=
  .ite (h.forList fun _ _ h => h.stageLoops) (h.forList fun _ _ h => h.stageLoops).applyPosting
theorem Dev.Canonical.putBoth {d : Dev} {f : F} {i v : Nat} (h : d.Canonical) : (d.putBoth f i v).Canonical :=
  (Dev.Canonical.ite h h.set).lset
theorem Dev.Canonical.putPolicy {d : Dev} {f : F} {i v : Nat} (h : d.Canonical) : (d.putPolicy f i v).Canonical :=
  (Dev.Canonical.ite h h.set).lset
theorem Dev.Canonical.putSpread {d : Dev} {ss : List PlanSec} (h : d.Canonical) : (d.putSpread ss).Canonical := by
  unfold Dev.putSpread
  extract_lets -underBinder b d1
  have h1 : d1.Canonical := h.each fun _ _ h =>
    h.putPolicy.putPolicy.putPolicy.putPolicy.putPolicy.putPolicy.putPolicy.putPolicy.putPolicy.putPolicy
  exact .ite h1 (h1.each fun _ _ h => h.putMinMax)
theorem Dev.Canonical.putCourier {d : Dev} {b : List Byte} {ns : List Nat} (h : d.Canonical) :
    (d.putCourier b ns).Canonical :=
  h.putBoth.putBoth.putBoth.forList fun _ _ h => h.stageCourier.takeStaged.syncCourTx.syncCourRx
theorem Dev.Canonical.putCapture {d : Dev} {old b : List Byte} (h : d.Canonical) : (d.putCapture old b).Canonical := by
  unfold Dev.putCapture
  extract_lets -underBinder d1 deft d2 d3 d4 d5
  have h4 : d4.Canonical := (h.endTaps.each fun _ _ h => h.set.set).set.formRegions.each fun _ _ h => h.set.set.set.set
  exact (h4.each fun _ _ h => h.set).each fun _ _ h => h.set.set
theorem Dev.Canonical.putXtrig {j : Nat} {d : Dev} (h : d.Canonical) : (d.putXtrig j).Canonical :=
  .ite (.ite h.set h.set.set.set) h.set.set.set
theorem Dev.Canonical.finishAll {d : Dev} (h : d.Canonical) : d.finishAll.Canonical := h.forList fun _ _ h => h.finish
theorem Dev.Canonical.putSource {b : List Byte} {s : Nat} {d : Dev} (h : d.Canonical) : (d.putSource b s).Canonical :=
  .ite h.set.set.set.repend h.set.set.set
theorem Dev.Canonical.putModeration {m : Nat × Nat × Nat} {d : Dev} (h : d.Canonical) : (d.putModeration m).Canonical :=
  .ite h.putBoth.putBoth.set.set.release h.putBoth.putBoth.set.set
theorem Dev.Canonical.putPigeonhole {d : Dev} {b : List Byte} (h : d.Canonical) : (d.putPigeonhole b).Canonical := by
  unfold Dev.putPigeonhole
  extract_lets -underBinder flip ts d1 d2 d3 d4 d5 d6
  have h2 : d2.Canonical := (Dev.Canonical.ite h.finishAll h).each fun _ _ h => .ite h.resetTarget.set h
  have h4 : d4.Canonical := h2.set.set.each fun _ _ h => h.putSource
  have h5 : d5.Canonical := h4.forList fun _ _ h => h.putModeration
  exact (Dev.Canonical.ite (h5.each fun _ _ h => .ite h.release h) h5).settleAll
theorem Dev.Canonical.planHorizon {d : Dev} {k v : Nat} (h : d.Canonical) : (d.planHorizon k v).Canonical :=
  h.set.set.set
theorem Dev.Canonical.putPower {d : Dev} {b : List Byte} (h : d.Canonical) : (d.putPower b).Canonical :=
  ((h.each fun _ _ h => .ite (.ite h h.set) h.putBoth).each fun _ _ h => .ite h.set.set
    h.set.set.planHorizon).powerReplan
theorem Dev.Canonical.putThermal {d : Dev} {b : List Byte} (h : d.Canonical) : (d.putThermal b).Canonical :=
  ((h.set.set.set.set.set.set.each fun _ _ h => h.set.set).each fun _ _ h => h.set).thmReplan
theorem Dev.Canonical.putChannel {b : List Byte} {x : Nat} {d : Dev} (h : d.Canonical) :
    (d.putChannel b x).Canonical := by
  unfold Dev.putChannel
  extract_lets -underBinder i r f on new was d1 d2 d3 d4 d5
  have h2 : d2.Canonical := h.set.set.set.set.set.set
  have h5 : d5.Canonical := h2.set.set.set.putTarget
  exact .ite (.ite h5.biasRestart h5) (.ite h2.set.set.set.biasOff h2.set.set.set)
theorem Dev.Canonical.putBias {d : Dev} {b : List Byte} (h : d.Canonical) : (d.putBias b).Canonical :=
  (h.each fun _ _ h => .ite h h.set.set.set).each fun _ _ h => h.putChannel
theorem Dev.Canonical.putLedgerLane {b : List Byte} {n : Nat} {d : Dev} (h : d.Canonical) :
    (d.putLedgerLane b n).Canonical := by
  unfold Dev.putLedgerLane
  extract_lets -underBinder r begins d1 d2 d3 d4 d5 d6
  have h2 : d2.Canonical := h.set.set.set.set.set.set
  have h5 : d5.Canonical := h2.set.set.set.set.set.set.set
  exact .ite h5.set.set.set.lgClear h5.set.set
theorem Dev.Canonical.putLedger {d : Dev} {b : List Byte} {changed : Bool} (h : d.Canonical) :
    (d.putLedger b changed).Canonical := by
  unfold Dev.putLedger
  extract_lets -underBinder d1 d2 d3
  have h3 : d3.Canonical := h.set.set.set.each fun _ _ h => h.putLedgerLane
  exact .ite (h3.each fun _ _ h => h.lgReplan) h3
theorem Dev.Canonical.putCal {d : Dev} {b : List Byte} (h : d.Canonical) : (d.putCal b).Canonical :=
  h.each fun _ _ h => .ite h.set.set.set h.set.set.set.calClassChanged
theorem Dev.Canonical.putSections {d0 : Dev} {ss : List PlanSec} (h : d0.Canonical) :
    (d0.putSections ss).Canonical := by
  unfold Dev.putSections
  extract_lets -underBinder old go body d1 d2 d3 d4 d5 d6 d7 d8 d9 d10 d11 d12
  have h2 : d2.Canonical := .ite (Dev.Canonical.ite h.putTimebase h).putCapture (.ite h.putTimebase h)
  have h4 : d4.Canonical := h2.putEngines.putLoops
  have h6 : d6.Canonical := .ite (Dev.Canonical.ite h4.putSpread h4).putCourier (.ite h4.putSpread h4)
  have h7 : d7.Canonical := h6.each fun _ _ h => h.putXtrig
  have h8 : d8.Canonical := .ite h7.putPigeonhole h7
  have h10 : d10.Canonical := .ite (Dev.Canonical.ite h8.putPower h8).putThermal (.ite h8.putPower h8)
  have h12 : d12.Canonical := (Dev.Canonical.ite h10.putBias h10).putLedger
  exact .ite h12.putCal h12
theorem Dev.Canonical.acceptPlan {d : Dev} {ss : List PlanSec} {id crc src slot : Nat} {fallback : Bool} (h :
    d.Canonical) :
    (d.acceptPlan ss id crc src slot fallback).Canonical :=
  (Dev.Canonical.same h.putSections.setAll).setAll.setAll.setAll.set.set.set.set.setAll.set.setAll.raise
theorem Dev.Canonical.noPlan {d : Dev} (h : d.Canonical) : d.noPlan.Canonical := by
  unfold Dev.noPlan
  extract_lets -underBinder d1 d2 d3 d4 d5 d6
  have h4 : d4.Canonical := (h.set.set.setAll.endTaps.each fun _ _ h => h.stopEngine).each fun _ _ h =>
    h.hostDown.setAll
  have h6 : d6.Canonical := (h4.each fun _ _ h => h.setAll.set).each fun _ _ h => h.biasOff.set
  exact h6.putPower

/-! ## Machine/PlanCtl.lean -/

theorem Dev.Canonical.putFlash {d : Dev} {a : Nat} {bs : List Nat} (h : d.Canonical) : (d.putFlash a bs).Canonical :=
  h.withFlash (Mem.wf_writeBytes _ _ h.flash)
theorem Dev.Canonical.eraseFlash {d : Dev} {a n : Nat} (h : d.Canonical) : (d.eraseFlash a n).Canonical :=
  h.withFlash (Mem.wf_filter _ h.flash)
theorem Dev.Canonical.showDir {d : Dev} (h : d.Canonical) : d.showDir.Canonical := h.set.set
theorem Dev.Canonical.dirWrite {d : Dev} {cur valid : Nat} (h : d.Canonical) : (d.dirWrite cur valid).Canonical :=
  h.set.set.set.set.showDir
theorem Dev.Canonical.planAction {d : Dev} {act slot : Nat} (h : d.Canonical) : (d.planAction act slot).Canonical :=
  .ite h.set h.set.set.set.set.set
theorem Dev.Canonical.planCode {d : Dev} {code off : Nat} (h : d.Canonical) : (d.planCode code off).Canonical :=
  h.set.set
theorem Dev.Canonical.planEnd {d : Dev} (h : d.Canonical) : d.planEnd.Canonical := h.set.set.planMem
theorem Dev.Canonical.bootTry {d : Dev} {l : List Nat} (h : d.Canonical) : (d.bootTry l).Canonical := by
  unfold Dev.bootTry
  split
  · exact h.setAll.noPlan
  · exact h.set.set.planMem
theorem Dev.Canonical.bootNext {d : Dev} (h : d.Canonical) : d.bootNext.Canonical := h.bootTry
theorem Dev.Canonical.planValidated {d : Dev} (h : d.Canonical) : d.planValidated.Canonical := by
  unfold Dev.planValidated
  extract_lets -underBinder act
  split
  · exact .ite h.planCode.raise.bootNext h.planCode.raise.planEnd
  · exact .ite h.set (.ite h.planCode.planEnd.raise h.planCode.set.set)
theorem Dev.Canonical.planFlashed {d : Dev} (h : d.Canonical) : d.planFlashed.Canonical := by
  unfold Dev.planFlashed
  extract_lets -underBinder act s cur n d1
  have h1 : d1.Canonical := .ite h.eraseFlash.putFlash.set.dirWrite (.ite h.eraseFlash.set.dirWrite h.dirWrite)
  exact h1.planCode.planEnd.raise
theorem Dev.Canonical.planTake {d : Dev} (h : d.Canonical) : d.planTake.Canonical := by
  unfold Dev.planTake
  split
  · exact h.acceptPlan
  · exact h.acceptPlan
  · exact h.acceptPlan
theorem Dev.Canonical.planAbandon {d : Dev} (h : d.Canonical) : d.planAbandon.Canonical :=
  (Dev.Canonical.ite (Dev.Canonical.ite h.set.drawn h).planCode (.ite h.set.drawn h)).setAll
theorem Dev.Canonical.planWithdraw {d : Dev} (h : d.Canonical) : d.planWithdraw.Canonical :=
  .ite h.noPlan.set.setAll h.planAbandon.noPlan
theorem execPlanCheck_canonical : RunsCanonical (execPlanCheck) :=
  .of fun _ h => h.planAction
theorem execPlanLoad_canonical : RunsCanonical (execPlanLoad) :=
  .of fun _ h => h.planAction
theorem execPlanLoadSlot_canonical {slot : Fin 4} : RunsCanonical (execPlanLoadSlot slot) :=
  .of fun _ h => h.planAction
theorem execPlanProgram_canonical {slot : Fin 4} : RunsCanonical (execPlanProgram slot) :=
  .of fun _ h => h.planAction
theorem execPlanMarkCurrent_canonical {slot : Fin 4} : RunsCanonical (execPlanMarkCurrent slot) :=
  .of fun _ h => h.planAction
theorem execPlanErase_canonical {slot : Fin 4} : RunsCanonical (execPlanErase slot) :=
  .of fun _ h => h.planAction
theorem execPlanValidationDone_canonical : RunsCanonical (execPlanValidationDone) :=
  .of fun _ h => .ite h.planValidated h
theorem execFlashActionDone_canonical : RunsCanonical (execFlashActionDone) :=
  .of fun _ h => .ite h.planFlashed h
theorem execXtrigSampleDone_canonical {j : Fin 2} {driven : Bool} : RunsCanonical (execXtrigSampleDone j driven) :=
  .of fun _ h => .ite (h.onTime fun _ h => .ite h.set.set.refuse h.set.set) h

/-! ## Machine/Bringup.lean -/

theorem Dev.Canonical.snapAbandon {d : Dev} (h : d.Canonical) : d.snapAbandon.Canonical :=
  .ite (Dev.Canonical.same h).set.set h
theorem Dev.Canonical.memHold {d : Dev} {state : Nat} (h : d.Canonical) : (d.memHold state).Canonical :=
  .ite h.set.setEach (.ite h.set h.setAll.setEach)
theorem Dev.Canonical.settleDomains {d : Dev} (h : d.Canonical) : d.settleDomains.Canonical :=
  h.each fun _ _ h => .ite h.set h
theorem Dev.Canonical.powerOff {d : Dev} {refresh : Bool} (h : d.Canonical) : (d.powerOff refresh).Canonical := by
  unfold Dev.powerOff
  extract_lets -underBinder busy cold d1 d2 d3 d4 d5 d6
  have h2 : d2.Canonical := (h.planAbandon.nvmInterrupt.snapAbandon.each fun _ _ h => h.lsOff).each fun _ _ h =>
    .ite h.saveAdapt h
  have h3 : d3.Canonical := .ite h2 h2.loseCells
  have h5 : d5.Canonical :=
    ⟨Store.wf_filter _ h3.reg, Store.wf_filter _ h3.live, rfl, h3.gddr, h3.nvm, h3.flash, rfl, .nil, .nil⟩
  have h6 : d6.Canonical := h5.memHold.settleDomains
  exact .ite (h6.each fun _ _ h => h.set).set.planCode (h6.each fun _ _ h => h.set).set
theorem Dev.Canonical.warmBegin {d : Dev} {cause : Nat} (h : d.Canonical) : (d.warmBegin cause).Canonical :=
  (Dev.Canonical.ite h h.powerOff).set.addSat
theorem Dev.Canonical.powerUp {d : Dev} (h : d.Canonical) : d.powerUp.Canonical := by
  unfold Dev.powerUp
  extract_lets -underBinder d1 d2 cause d3
  have h2 : d2.Canonical := .ite h.set.set h.set.set.set
  exact .ite (.ite (Dev.Canonical.ite h2 h2.raise).raise (.ite h2 h2.raise)) h
theorem Dev.Canonical.forget {d : Dev} {c : F → Bool} (h : d.Canonical) : (d.forget c).Canonical :=
  h.filterReg.filterLive
theorem Dev.Canonical.restoreSettings {d : Dev} {ok : Nat} (h : d.Canonical) : (d.restoreSettings ok).Canonical := by
  unfold Dev.restoreSettings
  extract_lets -underBinder d1
  have h1 : d1.Canonical := .ite h (h.filterReg.filterLive)
  exact .ite h1 (.forList (.same h1.filterReg) fun _ _ h => h.set)
theorem Dev.Canonical.restoreRest {d : Dev} {ok : Nat} (h : d.Canonical) : (d.restoreRest ok).Canonical := by
  unfold Dev.restoreRest
  extract_lets -underBinder d1 d2 d3 d4 d5
  have h2 : d2.Canonical := .ite h (.same h.forget)
  have h4 : d4.Canonical := (Dev.Canonical.ite h2 h2.forget).forget
  have h5 : d5.Canonical := .ite (.ite h2 h2.forget) (.same h4)
  exact .ite h5 h5.forget
theorem Dev.Canonical.memBoot {d : Dev} {ok : Bool} (h : d.Canonical) : (d.memBoot ok).Canonical := by
  unfold Dev.memBoot
  refine .ite h ?_
  refine .ite ?_ ?_
  · exact h.each fun _ _ h => .ite h.set.set.set h
  · exact ((Dev.Canonical.ite h.loseCells h).setAll.each fun _ _ h => .ite h.memRefresh h).memTrain
theorem Dev.Canonical.showSnaps {d : Dev} (h : d.Canonical) : d.showSnaps.Canonical := h.set.set
theorem Dev.Canonical.planBoot {d : Dev} (h : d.Canonical) : d.planBoot.Canonical :=
  .ite h (.ite h.set.set.set h.bootTry)
theorem Dev.Canonical.firmwareOn {d : Dev} {image : Bool} {version : Nat} (h : d.Canonical) :
    (d.firmwareOn image version).Canonical :=
  h.set.set.set.set
theorem Dev.Canonical.firmwareRest {d : Dev} {areas : Nat} (h : d.Canonical) : (d.firmwareRest areas).Canonical := by
  unfold Dev.firmwareRest
  extract_lets -underBinder ok ok' ok'' d1 d2 d3
  have h1 : d1.Canonical := h.restoreSettings.restoreRest.nvmLoad.calReset
  have h3 : d3.Canonical := .ite h.set.nvmLoad.calCold.memBoot (Dev.Canonical.ite h1 h1.forget.calCold).memBoot.set
  exact h3.showSnaps.showDir.planBoot
theorem Dev.Canonical.snapLoad {d : Dev} {x : Snap} (h : d.Canonical) : (d.snapLoad x).Canonical := by
  unfold Dev.snapLoad
  extract_lets -underBinder d1
  have h1 : d1.Canonical := (h.filterReg.filterLive).same
  exact (((h1.forList fun _ _ h => h.set).forList fun _ _ h => h.lset).forList fun _ _ h => h.lset).set
theorem Dev.Canonical.accept {d : Dev} (h : d.Canonical) : d.accept.Canonical := by
  unfold Dev.accept
  extract_lets -underBinder d1 d2
  have h1 : d1.Canonical := by
    unfold d1
    split
    · exact h.snapLoad
    · exact h
  exact (Dev.Canonical.ite (h1.each fun _ _ h => .ite h.memRefresh h).memSync h1).planTake
theorem Dev.Canonical.trip {d : Dev} {x : Nat} (h : d.Canonical) : (d.trip x).Canonical :=
  (Dev.Canonical.ite h.latchZeros.memHold.loseCells h.latchZeros.powerOff).set.set.set.set.addSat
theorem Dev.Canonical.thermalRestart {d : Dev} {auto : Bool} (h : d.Canonical) : (d.thermalRestart auto).Canonical :=
  (Dev.Canonical.ite (h.each fun _ _ h => h.set.set).set.set h).set.warmBegin.powerUp
theorem Dev.Canonical.blank {d : Dev} (h : d.Canonical) : d.blank.Canonical :=
  ⟨Store.wf_filter _ h.reg, rfl, rfl, rfl, h.nvm, h.flash, rfl, .nil, .nil⟩
theorem Dev.Canonical.cardDown {d : Dev} (h : d.Canonical) : d.cardDown.Canonical :=
  (Dev.Canonical.ite (h.planWithdraw.each fun _ _ h => h.memRefresh).memSync h.planWithdraw).set.set
theorem execColdPowerUp_canonical {present : Byte} {straps : BitVec 2} : RunsCanonical (execColdPowerUp present straps)
  :=
  .of fun _ h => h.blank.showSnaps.set.each fun _ _ h => h.set
theorem execVauxLoss_canonical : RunsCanonical (execVauxLoss) :=
  .of fun _ h => .ite h.planAbandon.nvmInterrupt.snapAbandon.blank.set.planCode
    h.planAbandon.nvmInterrupt.snapAbandon.blank.set
theorem execSysRstFall_canonical : RunsCanonical (execSysRstFall) :=
  .of fun _ h => .ite h.set.warmBegin h
theorem execSysRstRise_canonical : RunsCanonical (execSysRstRise) :=
  .of fun _ h => .ite h.set.powerUp h
theorem execWarmResetCmd_canonical {req : Requester} : RunsCanonical (execWarmResetCmd req) :=
  .of fun _ h => .ite h.warmBegin.powerUp h
theorem execMainPgFall_canonical : RunsCanonical (execMainPgFall) :=
  .of fun _ h => .ite (.ite h.set.warmBegin h.set) h
theorem execMainPgRise_canonical : RunsCanonical (execMainPgRise) :=
  .of fun _ h => .ite h.set.powerUp h
theorem execPerst_canonical : RunsCanonical (execPerst) :=
  .of fun _ h => .ite h.set.set h.set.set.set.setAll.functionReset
theorem execPerstRise_canonical : RunsCanonical (execPerstRise) :=
  .of fun _ h => .ite h.set.set h
theorem execEndpointReady_canonical : RunsCanonical (execEndpointReady) :=
  .of fun _ h => .ite h (h.onTime fun _ h => h.set)
theorem execFirmwareStart_canonical {a b : Option BootImage} {areas : Byte} : RunsCanonical (execFirmwareStart a b
  areas) := by
  refine .of fun _ h => ?_
  refine .ite h ?_
  split
  · exact h.set
  · exact h.firmwareOn.firmwareRest
theorem execCardDown_canonical : RunsCanonical (execCardDown) :=
  .of fun _ h => .ite h h.cardDown
theorem execSnapshotSave_canonical : RunsCanonical (execSnapshotSave) :=
  .of fun _ h => .ite h.set.raise (.ite h.set.raise h.set.set.set.set)
theorem execSnapshotSaveDone_canonical : RunsCanonical (execSnapshotSaveDone) :=
  .of fun _ h => .ite (Dev.Canonical.same h).showSnaps.set.set.planEnd.raise h
theorem execThermalTrip_canonical {x : Fin 40} : RunsCanonical (execThermalTrip x) :=
  .of fun _ h => .ite h.trip h
theorem execThermalRestart_canonical : RunsCanonical (execThermalRestart) :=
  .of fun _ h => .ite (h.onTime fun _ h => h.thermalRestart) h
theorem Dev.Canonical.restartCmd {d : Dev} {clear : Bool} (h : d.Canonical) : (d.restartCmd clear).Canonical :=
  .ite (.ite h.thermalRestart h.set) h
theorem execThermalRestartCmd_canonical {clear : Bool} : RunsCanonical (execThermalRestartCmd clear) :=
  .of fun _ h => h.restartCmd

end Sys2Proof.Machine
end


section
/-! PROOFS. Every operation of registers and their accesses keeps the canonical form. -/

namespace Sys2Proof.Machine

open Sys2Proof

/-! ## Machine/Show.lean -/

theorem Dev.Canonical.view {r : Reg} {i j : Nat} {d : Dev} (h : d.Canonical) : (d.view r i j).Canonical := by
  unfold Dev.view
  split
  · exact h.set
  · exact h.set
  · exact h.set
  · exact h.set
  · exact h.set.set
  · exact h.set
  · exact h.set
  · exact h.set
  · exact h.set.set.set
  · exact h.set.set.set.set
  · exact h.set
  · exact h.set.set
  · exact h.set
  · exact h.set
  · exact h.set
  · exact h.set
  · exact h.set.set
  · exact h.set
  · exact h.set
  · exact h.set
  · exact h.set
  · exact .ite h.set.set.set.set h.set.set.set.set
  · exact h.set.set
  · exact h.set.set.set
  · exact h.set
  · exact h.set
  · exact h.set
  · exact h.set
  · exact h.set.set.set
  · exact h.set
  · exact h

/-! ## Machine/RegWrite.lean -/

theorem Dev.Canonical.via {d : Dev} {f : State → Host.Outcome State Fault Refusal} (h : d.Canonical)
    (hf : RunsCanonical f) : (d.via f).Canonical := by
  obtain ⟨g, hrun, hg⟩ := hf
  unfold Dev.via
  rw [hrun]
  exact (hg _ (Dev.Canonical.same (out := []) h)).same
theorem Dev.Canonical.bitCmd {d : Dev} {v b : Nat} {f : State → Host.Outcome State Fault Refusal} (h : d.Canonical)
    (hf : RunsCanonical f) : (d.bitCmd v b f).Canonical :=
  .ite (h.via hf) h
theorem Dev.Canonical.writeFields {r : Reg} {i j v : Nat} {d : Dev} (h : d.Canonical) :
    (d.writeFields r i j v).Canonical := by
  unfold Dev.writeFields
  refine h.forList fun _ _ h => ?_
  extract_lets -underBinder k n
  split
  · exact h.set
  · exact h.set
  · exact h.set
  · exact h.set
  · exact h
theorem Dev.Canonical.writeQueueCtrl {d : Dev} {q v : Nat} (h : d.Canonical) : (d.writeQueueCtrl q v).Canonical := by
  unfold Dev.writeQueueCtrl
  extract_lets -underBinder d1
  have h1 : d1.Canonical := h.via execQueueDisable_canonical
  exact .ite (.ite (h.via execQueueEnable_canonical) h.cfgIgnored) (.ite h1.set h1)
theorem Dev.Canonical.syncEvents {r : Reg} {i : Nat} {d : Dev} (h : d.Canonical) : (d.syncEvents r i).Canonical := by
  unfold Dev.syncEvents
  split
  · exact h.syncCourier
  · exact h.syncBias
  · exact h.syncHk
  · exact h.syncLink
  · exact h.syncQueue
  · exact h.syncLaser
  · exact h
theorem Dev.Canonical.hwSet {r : Reg} {i j hw : Nat} {d : Dev} (h : d.Canonical) : (d.hwSet r i j hw).Canonical :=
  .ite (h.each fun _ _ h => .ite h.raise h) (h.forList fun _ _ h => .ite h.orBits h).syncEvents
theorem Dev.Canonical.writeReg {who : Requester} {r : Reg} {i j v : Nat} {d : Dev} (h : d.Canonical) :
    (d.writeReg who r i j v).Canonical := by
  unfold Dev.writeReg
  extract_lets -underBinder d1
  split
  · exact h.via execPostingRequest_canonical
  · exact h.bitCmd execTimeSetArm_canonical
  · exact h.planAction
  · refine .bitCmd ?_ execReleaseReadback_canonical
    exact ((h.bitCmd execReacquire_canonical).bitCmd execLrxClearStats_canonical).bitCmd execHoldReadback_canonical
  · exact (h.writeFields.via execShadowRequest_canonical).bitCmd execShadowStart_canonical
  · exact h.via execCheckerCtrlWrite_canonical
  · exact h.bitCmd execLtxClearStats_canonical
  · exact .ite (h.bitCmd execSprClearStats_canonical) ((h.bitCmd execSprClearStats_canonical).via
    execSpreadRelock_canonical)
  · exact h.bitCmd execPoolClearStats_canonical
  · exact (h.bitCmd execRetrain_canonical).bitCmd execHostLClearStats_canonical
  · exact (h.bitCmd execHostPClearStats_canonical).bitCmd execHostRelock_canonical
  · exact (h.bitCmd execKnock_canonical).bitCmd execCourClearStats_canonical
  · exact h.writeFields.syncEvents
  · exact h.writeFields.syncEvents
  · exact h.writeFields.syncEvents
  · exact h.writeFields.syncEvents
  · exact h.writeFields.syncEvents
  · exact h.writeFields.syncEvents
  · exact h.bitCmd execDlqPop_canonical
  · exact h.via execCourierSubmit_canonical
  · exact h.via execCourierRxRelease_canonical
  · exact h.via execSoftwareTrigger_canonical
  · extract_lets -underBinder t d2 d3
    have h2 : d2.Canonical := h.bitCmd execCaptureArm_canonical
    refine .bitCmd ?_ execCapClearStats_canonical
    exact (Dev.Canonical.ite (h2.drawn.via execCaptureStop_canonical) h2).bitCmd execCaptureAbort_canonical
  · exact h.biasWrite
  · exact h.writeFields.set
  · exact h.writeFields.set
  · exact (h.bitCmd execBiasRelease_canonical).bitCmd execBiasClearStats_canonical
  · exact ((h.bitCmd execHkSync_canonical).bitCmd execHkStartCmd_canonical).bitCmd execHkClearStats_canonical
  · exact (h.bitCmd execCalRun_canonical).bitCmd execCalRunClass_canonical
  · exact h.bitCmd execNvmStore_canonical
  · exact h.set.set
  · exact h.bitCmd execLedgerRebase_canonical
  · exact h.via execFarReportWrite_canonical
  · refine .bitCmd ?_ execMemClearStats_canonical
    exact (h.each fun _ _ h => h.bitCmd execMemRetrain_canonical).bitCmd execMemReinit_canonical
  · exact h.bitCmd execPhClearStats_canonical
  · exact h.writePending
  · exact h.writeMask
  · exact h.complete
  · exact .ite h.writeIdle h
  · exact h.bitCmd execViolPop_canonical
  · exact h.set
  · exact h.set.flushPba
  · exact h.writeQueueCtrl
  · exact (h.bitCmd execQueueReset_canonical).bitCmd execDmaQClearStats_canonical
  · exact h.via execTailWrite_canonical
  · exact h.via execHorizonWrite_canonical
  · exact (h.bitCmd execWakeRetry_canonical).bitCmd execPwrClearStats_canonical
  · exact (h.bitCmd execThmReadAll_canonical).bitCmd execThmClearStats_canonical
  · exact .ite h.drawn.restartCmd h
  · exact (h.bitCmd execThmRead_canonical).bitCmd execReinstate_canonical
  · exact .ite h (.ite (h.via execWarmResetCmd_canonical) (h.bitCmd execCardDown_canonical))
  · exact h.bitCmd execSnapshotSave_canonical
  · exact h.bitCmd execLsRetry_canonical
  · exact h.twStart
  · exact h.writeFields
theorem Dev.Canonical.writeWide {r : Reg} {i j v : Nat} {d : Dev} (h : d.Canonical) :
    (d.writeWide r i j v).Canonical := by
  unfold Dev.writeWide
  split
  · exact .ite h.set h.cfgIgnored
  · exact .ite h.set h.cfgIgnored
  · exact h.writeFields

/-! ## Machine/Access.lean -/

theorem Dev.Canonical.reply {d : Dev} {v : Nat} (h : d.Canonical) : (d.reply v).Canonical := h.send
theorem Dev.Canonical.accFail {d : Dev} {who : Requester} {reqId a : Nat} {write : Bool} {type time : Nat} (h :
    d.Canonical) :
    (d.accFail who reqId a write type time).Canonical :=
  .ite (.ite (.ite h h.reply) (.ite h.logViol h.logViol.reply.drawn)) h.violate
theorem Dev.Canonical.takeBack {d : Dev} (h : d.Canonical) : (d.takeBack).1.Canonical := by
  unfold Dev.takeBack
  split
  · exact .same h
  · exact h
theorem Dev.Canonical.shadowHigh {d : Dev} {k : Key} {v : Nat} (h : d.Canonical) : (d.shadowHigh k v).Canonical :=
  .same h
theorem Dev.Canonical.readWord {d : Dev} {who : Requester} {a : Nat} (h : d.Canonical) :
    (d.readWord who a).1.Canonical := by
  unfold Dev.readWord
  refine .iteFst ?_ ?_
  · exact h
  · refine .iteFst ?_ ?_
    · exact h
    · refine .iteFst ?_ ?_
      · exact h
      · refine .iteFst ?_ ?_
        · exact h
        · split
          · exact h
          · exact .iteFst h.claim.takeBack (.iteFst h.view (.iteFst h.view h.view.shadowHigh))
theorem Dev.Canonical.writeWord {d : Dev} {who : Requester} {a v : Nat} (h : d.Canonical) :
    (d.writeWord who a v).Canonical := by
  unfold Dev.writeWord
  split
  · exact h
  · exact .ite h (.ite h.writeReg (.ite h (.ite h.writeWide (.same h))))
theorem Dev.Canonical.storeBytes {d : Dev} {a : Nat} {bs : List Byte} (h : d.Canonical) : (d.storeBytes a bs).Canonical := by
  unfold Dev.storeBytes
  refine .ite (h.withPlanBuf (Mem.wf_writeBytes _ _ h.planBuf)) (h.withCmem ?_)
  refine List.foldlRecOn _ _ (motive := fun m : Mem => m.wf = true) h.cmem fun m hm x _ => ?_
  dsimp only
  split
  · exact Mem.wf_write _ _ hm
  · exact hm
theorem Dev.Canonical.serveBytes {d : Dev} {who : Requester} {reqId time : Nat} {x : Access} (h : d.Canonical) :
    (d.serveBytes who reqId time x).Canonical :=
  .ite h.accFail (.ite h.storeBytes h.reply)
theorem Dev.Canonical.servePair {d : Dev} {who : Requester} {reqId time a : Nat} {v : Option Nat} (h : d.Canonical) :
    (d.servePair who reqId time a v).Canonical := by
  unfold Dev.servePair
  split
  · extract_lets d1
    have h1 : d1.Canonical := .ite h.writeWord h.logViol
    exact .ite h1.writeWord h1.logViol
  · extract_lets lo hi
    have hlo : lo.1.Canonical := .iteFst h.readWord h.logViol
    clear_value lo
    have hhi : hi.1.Canonical := .iteFst hlo.readWord hlo.logViol
    clear_value hi
    exact .ite hhi.reply hhi.send
theorem Dev.Canonical.readWide {d : Dev} {r : Reg} {i j : Nat} (h : d.Canonical) : (d.readWide r i j).Canonical :=
  h.view.shadowHigh.reply
theorem Dev.Canonical.writeBoth {d : Dev} {r : Reg} {i j v : Nat} (h : d.Canonical) : (d.writeBoth r i j v).Canonical :=
  .ite h (Dev.Canonical.same h).writeWide
theorem Dev.Canonical.serve {d : Dev} {who : Requester} {reqId time : Nat} {x : Access} (h : d.Canonical) :
    (d.serve who reqId time x).Canonical := by
  unfold Dev.serve
  extract_lets -underBinder a
  refine .ite h.serveBytes ?_
  split
  · exact h.readWord.reply
  · exact h.writeWord
  · split
    · exact h.readWide
    · exact h.servePair
  · split
    · exact h.writeBoth
    · exact h.servePair
  · exact h
theorem Dev.Canonical.bar0Try {d : Dev} {who : Requester} {reqId time : Nat} {x : Access} (h : d.Canonical) :
    (d.bar0Try who reqId time x).1.Canonical := by
  unfold Dev.bar0Try
  extract_lets -underBinder a bad
  refine .iteFst ?_ ?_
  · exact h.accFail
  · refine .iteFst ?_ ?_
    · exact h.accFail
    · split
      · exact h.serve
      · exact .iteFst h.serve (.iteFst h.accFail (.iteFst h.wake.accFail h.wake))
theorem Dev.Canonical.notUp {d e : Dev} {who : Requester} {x : Access} (h : d.Canonical) (he : d.notUp who x = some e) :
    e.Canonical := by
  unfold Dev.notUp at he
  split at he <;> split at he <;> cases he
  · exact .ite h h.send
  · exact .ite h h.reply
  · exact h
theorem Dev.Canonical.bar0 {d : Dev} {who : Requester} {reqId : Nat} {x : Access} (h : d.Canonical) :
    (d.bar0 who reqId x).Canonical := by
  unfold Dev.bar0
  refine .ite h ?_
  split
  · next he => exact h.notUp he
  · exact .ite (.send (.same h)) (.ite (.send (.same h.bar0Try)) h.bar0Try)
theorem Dev.Canonical.serveBar0 {fuel : Nat} {d : Dev} (h : d.Canonical) : (Dev.serveBar0 fuel d).Canonical := by
  induction fuel generalizing d with
  | zero => exact h
  | succ fuel ih =>
    unfold Dev.serveBar0
    split
    · split
      · exact .ite h.bar0Try (ih (.same h.bar0Try))
      · exact h
    · exact h
theorem Dev.Canonical.serveHeld {d : Dev} (h : d.Canonical) : d.serveHeld.Canonical := h.serveBar0.serveBar2
theorem Dev.Canonical.stallBar0 {d : Dev} (h : d.Canonical) : d.stallBar0.Canonical := by
  unfold Dev.stallBar0
  split
  · refine h.onTime fun _ h => ?_
    split
    · exact (Dev.Canonical.same h).accFail.serveHeld
    · exact h
  · exact h
theorem Dev.Canonical.stallBar2 {d : Dev} (h : d.Canonical) : d.stallBar2.Canonical := by
  unfold Dev.stallBar2
  split
  · refine h.onTime fun _ h => ?_
    split
    · exact (Dev.Canonical.same h).violate.serveHeld
    · exact h
  · split
    · exact h.onTime fun _ h => (Dev.Canonical.same h).violate
    · exact h
theorem execLowWordRead_canonical {who : Requester} {reqId : BitVec 16} {a : BitVec 27} : RunsCanonical (execLowWordRead
  who reqId a) :=
  .of fun _ h => .ite h.bar0 h
theorem execHighWordRead_canonical {who : Requester} {reqId : BitVec 16} {a : BitVec 27} : RunsCanonical
  (execHighWordRead who reqId a) :=
  .of fun _ h => .ite h.bar0 h
theorem execWideRead_canonical {reqId : BitVec 16} {a : BitVec 27} : RunsCanonical (execWideRead reqId a) :=
  .of fun _ h => .ite h.bar0 h
theorem execLowWordWrite_canonical {who : Requester} {reqId : BitVec 16} {a : BitVec 27} {v : Word} : RunsCanonical
  (execLowWordWrite who reqId a v) :=
  .of fun _ h => .ite h.bar0 h
theorem execHighWordWrite_canonical {who : Requester} {reqId : BitVec 16} {a : BitVec 27} {v : Word} : RunsCanonical
  (execHighWordWrite who reqId a v) :=
  .of fun _ h => .ite h.bar0 h
theorem execWideWrite_canonical {reqId : BitVec 16} {a : BitVec 27} {v : DWord} : RunsCanonical (execWideWrite reqId a
  v) :=
  .of fun _ h => .ite h.bar0 h
theorem execRegisterRead_canonical {who : Requester} {reqId : BitVec 16} {a : BitVec 27} {n : BitVec 13} : RunsCanonical
  (execRegisterRead who reqId a n) :=
  .of fun _ h => h.bar0
theorem Dev.Canonical.hwEvents {a hw : Nat} {d : Dev} (h : d.Canonical) : (d.hwEvents a hw).Canonical := by
  unfold Dev.hwEvents
  extract_lets one d1
  have hone (a v : Nat) {d : Dev} (h : d.Canonical) : (one a v d).Canonical := by
    unfold one
    split
    · exact h.hwSet
    · exact h
  have h1 : d1.Canonical := .ite h (hone _ _ h)
  exact .ite h1 (hone _ _ h1)
theorem execRegisterWrite_canonical {who : Requester} {reqId : BitVec 16} {a : BitVec 27} {bytes : List Byte} {hw :
  DWord} : RunsCanonical (execRegisterWrite who reqId a bytes hw) :=
  .of fun _ h => h.bar0.hwEvents
theorem execPlanBufferWrite_canonical {who : Requester} {reqId : BitVec 16} {off : BitVec 20} {bytes : List Byte} :
  RunsCanonical (execPlanBufferWrite who reqId off bytes) :=
  .of fun _ h => h.bar0
theorem execBar0StallTimeout_canonical {bar2 : Bool} : RunsCanonical (execBar0StallTimeout bar2) :=
  .of fun _ h => .ite h.stallBar2 h.stallBar0
theorem Dev.Canonical.smb {d : Dev} {v : Option Nat} (h : d.Canonical) : (d.smb v).Canonical :=
  .ite h.bar0 (.ite h (.ite (.ite h h.reply) h.accFail))
theorem Dev.Canonical.smbFor {d : Dev} {target : BitVec 7} {f : Dev → Dev} (h : d.Canonical)
    (hf : ∀ d : Dev, d.Canonical → (f d).Canonical) : (d.smbFor target f).Canonical :=
  .ite (hf _ h) h
theorem execSmbSetAddress_canonical {target : BitVec 7} {a : Word} {pecOk : Bool} : RunsCanonical (execSmbSetAddress
  target a pecOk) :=
  .of fun _ h => h.smbFor fun _ h => .ite h.set h
theorem execSmbRead_canonical {target : BitVec 7} : RunsCanonical (execSmbRead target) :=
  .of fun _ h => h.smbFor fun _ h => h.smb
theorem execSmbWrite_canonical {target : BitVec 7} {v : Word} {pecOk : Bool} : RunsCanonical (execSmbWrite target v
  pecOk) :=
  .of fun _ h => h.smbFor fun _ h => .ite h.smb h
theorem execSmbReadIncrement_canonical {target : BitVec 7} : RunsCanonical (execSmbReadIncrement target) :=
  .of fun _ h => h.smbFor fun _ h => h.smb.set
theorem execEntryComplete_canonical {k : Fin 158} {point : Fin 6} : RunsCanonical (execEntryComplete k point) :=
  .of fun _ h => h.entryPoint.serveHeld
theorem Dev.Canonical.afterMem {d : Dev} {k : Nat} (h : d.Canonical) : (d.afterMem k).Canonical := .ite h.planMem h
theorem execWakeComplete_canonical {k : Fin 158} : RunsCanonical (execWakeComplete k) :=
  .of fun _ h => h.wakeComplete.afterMem.serveHeld
theorem execWakeAttemptFail_canonical {k : Fin 158} {pll : Bool} : RunsCanonical (execWakeAttemptFail k pll) :=
  .of fun _ h => h.attemptFail.serveHeld

end Sys2Proof.Machine
end


section
/-! PROOFS. Every operation of the courier modem, grants and the tick keeps the canonical form. -/

namespace Sys2Proof.Machine

open Sys2Proof

/-! ## Machine/CourierModem.lean -/

theorem execCopyStart_canonical {n : Fin 64} : RunsCanonical (execCopyStart n) := by
  refine .of fun _ h => ?_
  extract_lets -underBinder d1
  split
  · exact h.copyStart.send
  · exact h.copyStart
theorem execKnockStart_canonical {n : Fin 64} : RunsCanonical (execKnockStart n) :=
  .of fun _ h => .ite h.set.set.send h
theorem Dev.Canonical.setChan {d : Dev} {c : CourChan} (h : d.Canonical) : (d.setChan c).Canonical := .same h
theorem execPreambleDetect_canonical {n : Fin 64} {m1 m2 : BitVec 9} {pwr : Byte} {p0 p1 : List (ℤ × ℤ)} : RunsCanonical
  (execPreambleDetect n m1 m2 pwr p0 p1) :=
  .of fun _ h => .ite (.ite h.preamble.setChan h.preamble) h
theorem execHeaderReceived_canonical {n : Fin 64} {rx : List (List (ℤ × ℤ))} : RunsCanonical (execHeaderReceived n rx)
  :=
  .of fun _ h => .ite h.header.setChan h.header
theorem execPayloadReceived_canonical {n : Fin 64} {rx : List (List (ℤ × ℤ))} : RunsCanonical (execPayloadReceived n rx)
  :=
  .of fun _ h => h.payload
theorem execKnockWake_canonical {n : Fin 64} {w1 w2 : BitVec 63} : RunsCanonical (execKnockWake n w1 w2) :=
  .of fun _ h => .ite h.set.set.syncCourier.wake h
theorem execKnockSeen_canonical {n : Fin 64} {w1 w2 : BitVec 63} : RunsCanonical (execKnockSeen n w1 w2) :=
  .of fun _ h => .ite h.set.syncCourier h

/-! ## Machine/PoolGrant.lean -/

theorem execGrantComputed_canonical {t : Fin 4} : RunsCanonical (execGrantComputed t) :=
  .of fun _ h => h.computeGrants

/-! ## Machine/Tick.lean -/

theorem Dev.Canonical.overrun {d : Dev} {late : Nat} (h : d.Canonical) : (d.overrun late).Canonical :=
  .ite h.set h.set.orBits.addSat.raise
theorem Dev.Canonical.tickStart {d : Dev} (h : d.Canonical) : d.tickStart.Canonical :=
  .ite (Dev.Canonical.ite h.addWrap.set.periodTake h.addWrap.set).loadTake (.ite h.addWrap.set.periodTake
    h.addWrap.set)
theorem Dev.Canonical.countLost {d0 d1 d : Dev} (h2 : d.Canonical) : (d0.countLost d1 d).Canonical := by
  unfold Dev.countLost
  extract_lets -underBinder lost
  refine h2.forList fun _ _ h => ?_
  split
  · exact h.dropChange
  · exact h.dropTx
  · exact h
theorem Dev.Canonical.acceptOver {d0 d : Dev} (h1 : d.Canonical) : (d0.acceptOver d).Canonical := h1.accept.countLost
theorem Dev.Canonical.tickPosts {i : TickIn} {d : Dev} (h : d.Canonical) : (d.tickPosts i).Canonical := by
  unfold Dev.tickPosts
  extract_lets -underBinder plan d1 old new had d2 d3 d4 d5 d6
  have h3 : d3.Canonical := .ite h.postLive.acceptOver h.postLive
  have h6 : d6.Canonical := .ite h.postTick.set.set (.ite (Dev.Canonical.ite h3 h3.set).set.set (Dev.Canonical.ite
    h.postTick.acceptOver h.postTick).setAll)
  exact h6.each fun _ _ h => h.engineTick
theorem Dev.Canonical.tickLane {i : TickIn} {beaten : Key → Bool} {n : Fin 64} {d : Dev} (h : d.Canonical) :
    (d.tickLane i beaten n).Canonical := by
  unfold Dev.tickLane
  extract_lets -underBinder all cat6 d1 d2 d3 d4
  have h1 : d1.Canonical := .ite h h.lgRefTick.lgMoves
  have h2 : d2.Canonical := .ite h1.laneRestart h1
  exact .ite h2.rxTick (Dev.Canonical.ite (.same h2) (Dev.Canonical.same h2).readback).closeWindows.setAll
theorem Dev.Canonical.tickGrants {i : TickIn} {thm : Nat → Nat} {d : Dev} (h : d.Canonical) :
    (d.tickGrants i thm).Canonical := by
  unfold Dev.tickGrants
  extract_lets -underBinder d1 d2 d3 d4 d5 d6
  have h3 : d3.Canonical := (h.lgEffort.each fun _ _ h => h.poolTick).each fun _ _ h => h.levelLower
  have h5 : d5.Canonical := (h3.thmTick.each fun _ _ h => h.levelRaise).each fun _ _ h => h.biasTick
  exact ((h5.each fun _ _ h => .ite h h.lgBiasMove.lgBiasMove).each fun _ _ h => h.lgGather).targetTick
theorem Dev.Canonical.tickBlocks {i : TickIn} {d : Dev} (h : d.Canonical) : (d.tickBlocks i).Canonical := by
  unfold Dev.tickBlocks
  extract_lets -underBinder d1 d2 d3 d4 d5 d6 d7
  have h2 : d2.Canonical := (h.each fun _ _ h => h.startTick).each fun _ _ h => h.clipTick
  have h4 : d4.Canonical := (h2.each fun _ _ h => h.groupTick).each fun _ _ h => h.hostTick
  have h7 : d7.Canonical := (h4.memTick.each fun _ _ h => h.hkTick).setEach.setEach.setEach.each fun _ _ h => h.lsTick
  exact h7.powerTick.each fun _ _ h => h.syncTx
theorem Dev.Canonical.tickOpen {i : TickIn} {d : Dev} (h : d.Canonical) : (d.tickOpen i).Canonical :=
  h.powerBegin.heartbeats.ringTick.each fun _ _ h => h.rxEnd
theorem Dev.Canonical.tickRest {i : TickIn} {d0 d : Dev} (h2 : d.Canonical) : (d0.tickRest i d).Canonical := by
  unfold Dev.tickRest
  exact (h2.calTick.forList fun _ _ h => h.tickLane).tickGrants.tickBlocks.serveHeld
theorem Dev.Canonical.tickServe {i : TickIn} {d : Dev} (h : d.Canonical) : (d.tickServe i).Canonical :=
  .ite h.ringTick h.tickOpen.overrun.tickPosts.tickRest
theorem Dev.Canonical.tick {i : TickIn} {d : Dev} (h : d.Canonical) : (d.tick i).Canonical :=
  h.runToTick.tickStart.tickServe
theorem Dev.Canonical.nextTick {d : Dev} (h : d.Canonical) : d.nextTick.Canonical := h.runToTick
theorem execCollectionTick_canonical {i : TickIn} : RunsCanonical (execCollectionTick i) :=
  .of fun _ h => .ite h.tick h
theorem execTickPeriodChange_canonical {i : TickIn} : RunsCanonical (execTickPeriodChange i) :=
  .of fun _ h => .ite h.tick h
theorem execTimeSetLoad_canonical {i : TickIn} : RunsCanonical (execTimeSetLoad i) :=
  .of fun _ h => .ite h.tick h
theorem execPlanAccept_canonical {i : TickIn} : RunsCanonical (execPlanAccept i) :=
  .of fun _ h => .ite h.tick h
theorem execRestoredPlanAccept_canonical {i : TickIn} : RunsCanonical (execRestoredPlanAccept i) :=
  .of fun _ h => .ite h.tick h

end Sys2Proof.Machine
end


section
/-! PROOFS. Every command is a change of the device that keeps the canonical form, so every command completes and every step keeps
it (O1, O3). -/

namespace Sys2Proof.Machine

open Sys2Proof

/-- A command acts on the device alone, and keeps its canonical form. -/
theorem exec_runsCanonical (c : Instr) : RunsCanonical (exec c) := by
  cases c with
  | collectionTick => exact execCollectionTick_canonical
  | tickPeriodChange => exact execTickPeriodChange_canonical
  | postingRequest => exact execPostingRequest_canonical
  | timeSetArm => exact execTimeSetArm_canonical
  | timeSetLoad => exact execTimeSetLoad_canonical
  | clerkRestart => exact execClerkRestart_canonical
  | postmasterRestart => exact execPostmasterRestart_canonical
  | ringSyncDrive => exact execRingSyncDrive_canonical
  | ringMsgSend => exact execRingMsgSend_canonical
  | ringSyncReceived => exact execRingSyncReceived_canonical
  | ringTimeMessage => exact execRingTimeMessage_canonical
  | ringHoldover => exact execRingHoldover_canonical
  | ringConflict => exact execRingConflict_canonical
  | planCheck => exact execPlanCheck_canonical
  | planLoad => exact execPlanLoad_canonical
  | planLoadSlot => exact execPlanLoadSlot_canonical
  | planProgram => exact execPlanProgram_canonical
  | planMarkCurrent => exact execPlanMarkCurrent_canonical
  | planErase => exact execPlanErase_canonical
  | planValidationDone => exact execPlanValidationDone_canonical
  | planAccept => exact execPlanAccept_canonical
  | flashActionDone => exact execFlashActionDone_canonical
  | xtrigSampleDone => exact execXtrigSampleDone_canonical
  | planBufferWrite => exact execPlanBufferWrite_canonical
  | signalDetectAssert => exact execSignalDetectAssert_canonical
  | signalDetectDeassert => exact execSignalDetectDeassert_canonical
  | cycleSlip => exact execCycleSlip_canonical
  | acqFail => exact execAcqFail_canonical
  | reacquire => exact execReacquire_canonical
  | lrxClearStats => exact execLrxClearStats_canonical
  | holdReadback => exact execHoldReadback_canonical
  | releaseReadback => exact execReleaseReadback_canonical
  | shadowRequest => exact execShadowRequest_canonical
  | shadowStart => exact execShadowStart_canonical
  | shadowPointDone => exact execShadowPointDone_canonical
  | checkerCtrlWrite => exact execCheckerCtrlWrite_canonical
  | checkerLock => exact execCheckerLock_canonical
  | checkerUnlock => exact execCheckerUnlock_canonical
  | ltxClearStats => exact execLtxClearStats_canonical
  | sourceSwitch => exact execSourceSwitch_canonical
  | squelchImmediate => exact execSquelchImmediate_canonical
  | rampStart => exact execRampStart_canonical
  | rampDone => exact execRampDone_canonical
  | patternRestart => exact execPatternRestart_canonical
  | loopClockSwitch => exact execLoopClockSwitch_canonical
  | loopRecentre => exact execLoopRecentre_canonical
  | txPllLock => exact execTxPllLock_canonical
  | transmitFrame => exact execTransmitFrame_canonical
  | anchorFound => exact execAnchorFound_canonical
  | spreadFrameReceived => exact execSpreadFrameReceived_canonical
  | groupLockLost => exact execGroupLockLost_canonical
  | rejoinLimit => exact execRejoinLimit_canonical
  | spreadRelock => exact execSpreadRelock_canonical
  | sprClearStats => exact execSprClearStats_canonical
  | streamLock => exact execStreamLock_canonical
  | streamLost => exact execStreamLost_canonical
  | rsCodewordDecode => exact execRsCodewordDecode_canonical
  | grantComputed => exact execGrantComputed_canonical
  | poolClearStats => exact execPoolClearStats_canonical
  | hostSignalDetect => exact execHostSignalDetect_canonical
  | hostSignalLost => exact execHostSignalLost_canonical
  | trainingRequest => exact execTrainingRequest_canonical
  | trainingComplete => exact execTrainingComplete_canonical
  | trainingTimeout => exact execTrainingTimeout_canonical
  | retrain => exact execRetrain_canonical
  | hostLClearStats => exact execHostLClearStats_canonical
  | hostPClearStats => exact execHostPClearStats_canonical
  | hostRelock => exact execHostRelock_canonical
  | amLockGained => exact execAmLockGained_canonical
  | amLockLost => exact execAmLockLost_canonical
  | hostCodewordReceived => exact execHostCodewordReceived_canonical
  | hostTxSourceSwitch => exact execHostTxSourceSwitch_canonical
  | nearLoopRecentre => exact execNearLoopRecentre_canonical
  | captureOutReady => exact execCaptureOutReady_canonical
  | captureOutPowerDown => exact execCaptureOutPowerDown_canonical
  | captureOutFrame => exact execCaptureOutFrame_canonical
  | blockPartnerTimeout => exact execBlockPartnerTimeout_canonical
  | courierSubmit => exact execCourierSubmit_canonical
  | quarantineExpire => exact execQuarantineExpire_canonical
  | quarantineAllEnd => exact execQuarantineAllEnd_canonical
  | copyStart => exact execCopyStart_canonical
  | copyDone => exact execCopyDone_canonical
  | lifetimeExpire => exact execLifetimeExpire_canonical
  | preambleDetect => exact execPreambleDetect_canonical
  | headerReceived => exact execHeaderReceived_canonical
  | payloadReceived => exact execPayloadReceived_canonical
  | courierRxRelease => exact execCourierRxRelease_canonical
  | dlqPop => exact execDlqPop_canonical
  | knock => exact execKnock_canonical
  | knockStart => exact execKnockStart_canonical
  | knockDropped => exact execKnockDropped_canonical
  | knockWake => exact execKnockWake_canonical
  | knockSeen => exact execKnockSeen_canonical
  | courClearStats => exact execCourClearStats_canonical
  | captureArm => exact execCaptureArm_canonical
  | captureStop => exact execCaptureStop_canonical
  | captureAbort => exact execCaptureAbort_canonical
  | capClearStats => exact execCapClearStats_canonical
  | blockWrite => exact execBlockWrite_canonical
  | blockDrain => exact execBlockDrain_canonical
  | triggerAccept => exact execTriggerAccept_canonical
  | softwareTrigger => exact execSoftwareTrigger_canonical
  | trigInEdge => exact execTrigInEdge_canonical
  | xtrigEdge => exact execXtrigEdge_canonical
  | autoTrigger => exact execAutoTrigger_canonical
  | sampleLoss => exact execSampleLoss_canonical
  | biasTargetWrite => exact execBiasTargetWrite_canonical
  | biasUpdateTrigger => exact execBiasUpdateTrigger_canonical
  | deglitchRelease => exact execDeglitchRelease_canonical
  | sineStop => exact execSineStop_canonical
  | forcedZeroEnd => exact execForcedZeroEnd_canonical
  | biasOverload => exact execBiasOverload_canonical
  | vbiasLow => exact execVbiasLow_canonical
  | compliance => exact execCompliance_canonical
  | biasRelease => exact execBiasRelease_canonical
  | biasClearStats => exact execBiasClearStats_canonical
  | hkStartCmd => exact execHkStartCmd_canonical
  | hkStartPin => exact execHkStartPin_canonical
  | hkSync => exact execHkSync_canonical
  | hkClearStats => exact execHkClearStats_canonical
  | converterStartupDone => exact execConverterStartupDone_canonical
  | conversionDone => exact execConversionDone_canonical
  | converterPowerDown => exact execConverterPowerDown_canonical
  | calRun => exact execCalRun_canonical
  | calRunClass => exact execCalRunClass_canonical
  | calPeriodicDue => exact execCalPeriodicDue_canonical
  | calRunComplete => exact execCalRunComplete_canonical
  | nvmStore => exact execNvmStore_canonical
  | nvmStoreDone => exact execNvmStoreDone_canonical
  | nvmStoreRetry => exact execNvmStoreRetry_canonical
  | ledgerPeriodEnd => exact execLedgerPeriodEnd_canonical
  | ledgerRecordWrite => exact execLedgerRecordWrite_canonical
  | farReportWrite => exact execFarReportWrite_canonical
  | ledgerRebase => exact execLedgerRebase_canonical
  | memTrainingDone => exact execMemTrainingDone_canonical
  | memTrainingRetry => exact execMemTrainingRetry_canonical
  | driftTracking => exact execDriftTracking_canonical
  | memRetrain => exact execMemRetrain_canonical
  | memRetrainDone => exact execMemRetrainDone_canonical
  | memReinit => exact execMemReinit_canonical
  | memClearStats => exact execMemClearStats_canonical
  | memTempRead => exact execMemTempRead_canonical
  | memRequestIssue => exact execMemRequestIssue_canonical
  | vddqLoss => exact execVddqLoss_canonical
  | bar2BaseWrite => exact execBar2BaseWrite_canonical
  | bar2Access => exact execBar2Access_canonical
  | claim => exact execClaim_canonical
  | complete => exact execComplete_canonical
  | pendingWrite => exact execPendingWrite_canonical
  | maskWrite => exact execMaskWrite_canonical
  | targetIdleWrite => exact execTargetIdleWrite_canonical
  | phClearStats => exact execPhClearStats_canonical
  | moderationTimeout => exact execModerationTimeout_canonical
  | bar0StallTimeout => exact execBar0StallTimeout_canonical
  | violPop => exact execViolPop_canonical
  | queueEnable => exact execQueueEnable_canonical
  | queueDisable => exact execQueueDisable_canonical
  | queueReset => exact execQueueReset_canonical
  | dmaQClearStats => exact execDmaQClearStats_canonical
  | tailWrite => exact execTailWrite_canonical
  | descriptorFetch => exact execDescriptorFetch_canonical
  | descriptorComplete => exact execDescriptorComplete_canonical
  | readCompletion => exact execReadCompletion_canonical
  | completionTimeout => exact execCompletionTimeout_canonical
  | pcieHotReset => exact execPcieHotReset_canonical
  | flr => exact execFlr_canonical
  | linkUp => exact execLinkUp_canonical
  | d3hotEntry => exact execD3hotEntry_canonical
  | d0Return => exact execD0Return_canonical
  | bmeChange => exact execBmeChange_canonical
  | vectorUnmask => exact execVectorUnmask_canonical
  | l1Entry => exact execL1Entry_canonical
  | entryComplete => exact execEntryComplete_canonical
  | horizonWrite => exact execHorizonWrite_canonical
  | horizonExpire => exact execHorizonExpire_canonical
  | timerWake => exact execTimerWake_canonical
  | sdWake => exact execSdWake_canonical
  | wakeComplete => exact execWakeComplete_canonical
  | wakeAttemptFail => exact execWakeAttemptFail_canonical
  | wakeRetryStart => exact execWakeRetryStart_canonical
  | wakeRetry => exact execWakeRetry_canonical
  | pwrClearStats => exact execPwrClearStats_canonical
  | regulatorSettled => exact execRegulatorSettled_canonical
  | thmRead => exact execThmRead_canonical
  | thmReadAll => exact execThmReadAll_canonical
  | readingDone => exact execReadingDone_canonical
  | readingTimeout => exact execReadingTimeout_canonical
  | reinstate => exact execReinstate_canonical
  | thmClearStats => exact execThmClearStats_canonical
  | thermalTrip => exact execThermalTrip_canonical
  | thermalRestart => exact execThermalRestart_canonical
  | thermalRestartCmd => exact execThermalRestartCmd_canonical
  | coldPowerUp => exact execColdPowerUp_canonical
  | sysRstFall => exact execSysRstFall_canonical
  | warmResetCmd => exact execWarmResetCmd_canonical
  | mainPgFall => exact execMainPgFall_canonical
  | mainPgRise => exact execMainPgRise_canonical
  | perst => exact execPerst_canonical
  | endpointReady => exact execEndpointReady_canonical
  | firmwareStart => exact execFirmwareStart_canonical
  | restoredPlanAccept => exact execRestoredPlanAccept_canonical
  | cardDown => exact execCardDown_canonical
  | snapshotSave => exact execSnapshotSave_canonical
  | snapshotSaveDone => exact execSnapshotSaveDone_canonical
  | lsInserted => exact execLsInserted_canonical
  | lsRemoved => exact execLsRemoved_canonical
  | lsSettled => exact execLsSettled_canonical
  | lsPoll => exact execLsPoll_canonical
  | lsInitTimeout => exact execLsInitTimeout_canonical
  | lsRetry => exact execLsRetry_canonical
  | lsInt => exact execLsInt_canonical
  | twTransferCmd => exact execTwTransferCmd_canonical
  | twTransferDone => exact execTwTransferDone_canonical
  | twStretchTimeout => exact execTwStretchTimeout_canonical
  | smbSetAddress => exact execSmbSetAddress_canonical
  | smbRead => exact execSmbRead_canonical
  | smbWrite => exact execSmbWrite_canonical
  | smbReadIncrement => exact execSmbReadIncrement_canonical
  | lowWordRead => exact execLowWordRead_canonical
  | highWordRead => exact execHighWordRead_canonical
  | wideRead => exact execWideRead_canonical
  | lowWordWrite => exact execLowWordWrite_canonical
  | highWordWrite => exact execHighWordWrite_canonical
  | wideWrite => exact execWideWrite_canonical
  | registerWrite => exact execRegisterWrite_canonical
  | vauxLoss => exact execVauxLoss_canonical
  | vbiasRecovered => exact execVbiasRecovered_canonical
  | sysRstRise => exact execSysRstRise_canonical
  | perstRise => exact execPerstRise_canonical
  | l1Exit => exact execL1Exit_canonical
  | coreWaitHalt => exact execCoreWaitHalt_canonical
  | registerRead => exact execRegisterRead_canonical
  | knockBurstsEnd => exact execKnockBurstsEnd_canonical

/-- Settles O3: a step runs the command at the front, which keeps the canonical form, or idles. -/
theorem stepKeepsCanonical : Obligations.StepKeepsCanonical := by
  intro s t h hstep
  unfold step at hstep
  split at hstep
  · cases hstep
    exact h
  · next c cs _ =>
    obtain ⟨g, hrun, hg⟩ := exec_runsCanonical c
    rw [hrun] at hstep
    cases hstep
    exact hg _ h.same

/-- Settles O1: every command acts on the device alone, so it completes and leaves the commands that wait. -/
theorem stepRunsFront : Obligations.StepRunsFront := by
  refine ⟨fun c cs s h => by rw [step, h], fun s h => by rw [step, h], fun c s => ?_⟩
  obtain ⟨g, hrun, -⟩ := exec_runsCanonical c
  exact .run g (hrun s) trivial

/-- Settles O2: at reset every store is empty, and each field reads the value of its map. -/
theorem resetCanonical : Obligations.ResetCanonical :=
  ⟨⟨Dev.Canonical.reset, rfl⟩, rfl, rfl, rfl, rfl, fun _ => rfl, rfl, rfl, rfl⟩

end Sys2Proof.Machine
end

section
/-! PROOFS. The layout of a frame (R184 to R187): its inverse, its lane bits as the pieces of the codewords in their order, and
the places of RS codewords and host lanes (R237 to R239). -/

-- One theorem at a time: the whole text is compiled under a memory limit, which the stacks of waiting threads would fill.
set_option Elab.async false

namespace Sys2Proof.Machine

open Sys2Proof

/-! ## Pieces laid end to end -/

theorem getD_flatten_map_range {α : Type} {f : Nat → List α} {N k j : Nat} (x : α) (hk : k < N) (hj : j < (f k).length) :
    ((List.range N).map f).flatten.getD (((List.range k).map f).flatten.length + j) x = (f k).getD j x := by
  obtain ⟨r, rfl⟩ := Nat.exists_eq_add_of_lt hk
  rw [Nat.add_assoc, List.range_add, List.map_append, List.flatten_append,
    List.getD_append_right _ _ _ _ (Nat.le_add_right ..), Nat.add_sub_cancel_left, Nat.add_comm r, List.range_add]
  exact List.getD_append _ _ _ _ hj

theorem flatten_map_range_chunks {α : Type} (f : Nat → α) (a c : Nat) :
    ((List.range a).map fun m => (List.range c).map fun j => f (m * c + j)).flatten = (List.range (a * c)).map f := by
  induction a with
  | zero => simp
  | succ a ih =>
    rw [List.range_succ, List.map_append, List.flatten_append, ih, Nat.succ_mul, List.range_add, List.map_append, List.map_map]
    simp [Function.comp_def]

theorem map_getD_range {α : Type} {l : List α} {n : Nat} (x : α) (h : l.length = n) :
    (List.range n).map (fun j => l.getD j x) = l :=
  List.ext_getElem (by simp [h]) fun i _ hi => by simp [hi]

theorem take_drop_eq_map {α : Type} {l : List α} {o c : Nat} (x : α) (h : o + c ≤ l.length) :
    (l.drop o).take c = (List.range c).map fun j => l.getD (o + j) x :=
  List.ext_getElem (by simp; omega) fun i hi hi' => by
    have hi : o + i < l.length := by simp at hi'; omega
    simp [hi]

theorem length_filter_range_lt (w c : Nat) : ((List.range w).filter fun g => decide (g < c)).length = min w c := by
  induction w with
  | zero => simp
  | succ w ih =>
    rw [List.range_succ, List.filter_append, List.length_append, ih]
    rcases lt_or_ge w c with h | h
    · simp [h]; omega
    · simp [h]; omega

/-! ## The place of a codeword's bit (R185) -/

/-- The codeword that is number `k` of those that are no anchors: one anchor stands before each `320 / w - 1` of them. -/
def normalWord (w k : Nat) : Nat := k + k / (320 / w - 1) + 1

/-- The lane bits of lane `g` before bit `g` of normal codeword `k`: its shares of the normal codewords before, and its own anchor. -/
def normalStart (w g k : Nat) : Nat := k * (136 / w) + if g ≤ k / (320 / w - 1) then 136 else 0

/-- The lane bit at which the anchor of lane `g` begins. -/
def anchorStart (w g : Nat) : Nat := (320 / w - 1) * g * (136 / w)

/-- The codeword and its bit that lane bit `b` of lane `g` carries: the inverse of `lanePlace`. -/
def placeFind (w g b : Nat) : Nat × Nat :=
  if b < anchorStart w g then (normalWord w (b / (136 / w)), b % (136 / w) * w + g)
  else if b < anchorStart w g + 136 then (320 / w * g, b - anchorStart w g)
  else (normalWord w ((b - 136) / (136 / w)), (b - 136) % (136 / w) * w + g)

section
variable {w : Nat} (hw : w ∈ [1, 2, 4, 8])
include hw

theorem width_cases : w = 1 ∨ w = 2 ∨ w = 4 ∨ w = 8 := by simpa using hw

theorem anchorsBelow_eq {m : Nat} (hm : m ≤ 320) : anchorsBelow w m = (m + (320 / w - 1)) / (320 / w) := by
  have h : anchorsBelow w m = min w ((m + (320 / w - 1)) / (320 / w)) := by
    rw [← length_filter_range_lt]
    refine congrArg List.length (List.filter_congr fun g _ => decide_eq_decide.mpr ?_)
    rcases width_cases hw with rfl | rfl | rfl | rfl <;> omega
  rcases width_cases hw with rfl | rfl | rfl | rfl <;> omega

theorem anchor_or_normalWord {m : Nat} (hm : m < 320) :
    (∃ g < w, m = 320 / w * g) ∨ ∃ k < 320 - w, m = normalWord w k := by
  rcases eq_or_ne (m % (320 / w)) 0 with h | h
  · refine .inl ⟨m / (320 / w), ?_⟩
    rcases width_cases hw with rfl | rfl | rfl | rfl <;> omega
  · refine .inr ⟨m - (m / (320 / w) + 1), ?_⟩
    unfold normalWord
    rcases width_cases hw with rfl | rfl | rfl | rfl <;> omega

theorem anchorOf_anchor (g : Nat) : anchorOf w (320 / w * g) = some g := by
  unfold anchorOf
  rcases width_cases hw with rfl | rfl | rfl | rfl <;> simp

theorem anchorOf_normalWord (k : Nat) : anchorOf w (normalWord w k) = none := by
  refine if_neg ?_
  unfold normalWord
  rcases width_cases hw with rfl | rfl | rfl | rfl <;> omega

theorem lanePlace_anchor (g i : Nat) : lanePlace w (320 / w * g) i = (g, anchorStart w g + i) := by
  rw [lanePlace, anchorOf_anchor hw, anchorStart]
  refine Prod.ext rfl ?_
  rcases width_cases hw with rfl | rfl | rfl | rfl <;> dsimp only <;> omega

theorem lanePlace_normal {k : Nat} (hk : k < 320 - w) (i : Nat) :
    lanePlace w (normalWord w k) i = (i % w, normalStart w (i % w) k + i / w) := by
  have hlt : normalWord w k ≤ 320 := by
    unfold normalWord
    rcases width_cases hw with rfl | rfl | rfl | rfl <;> omega
  have hbelow : normalWord w k - anchorsBelow w (normalWord w k) = k := by
    rw [anchorsBelow_eq hw hlt, normalWord]
    rcases width_cases hw with rfl | rfl | rfl | rfl <;> omega
  have hown : 320 * (i % w) / w < normalWord w k ↔ i % w ≤ k / (320 / w - 1) := by
    unfold normalWord
    rcases width_cases hw with rfl | rfl | rfl | rfl <;> omega
  rw [lanePlace, anchorOf_normalWord hw]
  simp only [hbelow, hown, normalStart]

theorem lanePlace_inRange {m i : Nat} (hm : m < 320) (hi : i < 136) :
    (lanePlace w m i).1 < w ∧ (lanePlace w m i).2 < 43520 / w := by
  rcases anchor_or_normalWord hw hm with ⟨g, hg, rfl⟩ | ⟨k, hk, rfl⟩
  · rw [lanePlace_anchor hw, anchorStart]
    rcases width_cases hw with rfl | rfl | rfl | rfl <;> dsimp only <;> omega
  · rw [lanePlace_normal hw hk, normalStart]
    rcases width_cases hw with rfl | rfl | rfl | rfl <;> dsimp only <;> split <;> omega

theorem placeFind_lanePlace {m i : Nat} (hm : m < 320) (hi : i < 136) :
    placeFind w (lanePlace w m i).1 (lanePlace w m i).2 = (m, i) := by
  rcases anchor_or_normalWord hw hm with ⟨g, hg, rfl⟩ | ⟨k, hk, rfl⟩
  · have hstart : ¬ anchorStart w g + i < anchorStart w g := by omega
    rw [lanePlace_anchor hw]
    dsimp only
    rw [placeFind, if_neg hstart, if_pos (by omega), Nat.add_sub_cancel_left]
  · have hdiv : (k * (136 / w) + i / w) / (136 / w) = k ∧ (k * (136 / w) + i / w) % (136 / w) * w + i % w = i := by
      rcases width_cases hw with rfl | rfl | rfl | rfl <;> omega
    rw [lanePlace_normal hw hk, normalStart]
    dsimp only
    rcases le_or_gt (i % w) (k / (320 / w - 1)) with h | h
    · have hstart : anchorStart w (i % w) + 136 ≤ k * (136 / w) + 136 + i / w := by
        rw [anchorStart]
        rcases width_cases hw with rfl | rfl | rfl | rfl <;> omega
      have hsub : k * (136 / w) + 136 + i / w - 136 = k * (136 / w) + i / w := by omega
      rw [if_pos h, placeFind, if_neg (by omega), if_neg (not_lt.mpr hstart), hsub, hdiv.1, hdiv.2]
    · have hstart : k * (136 / w) + i / w < anchorStart w (i % w) := by
        rw [anchorStart]
        rcases width_cases hw with rfl | rfl | rfl | rfl <;> omega
      rw [if_neg (not_le.mpr h), Nat.add_zero, placeFind, if_pos hstart, hdiv.1, hdiv.2]

theorem lanePlace_placeFind {g b : Nat} (hg : g < w) (hb : b < 43520 / w) :
    (placeFind w g b).1 < 320 ∧ (placeFind w g b).2 < 136 ∧ lanePlace w (placeFind w g b).1 (placeFind w g b).2 = (g, b) := by
  have hword : ∀ k < 320 - w, normalWord w k < 320 := fun k hk => by
    unfold normalWord
    rcases width_cases hw with rfl | rfl | rfl | rfl <;> omega
  have hbit : ∀ b, b % (136 / w) * w + g < 136 ∧ (b % (136 / w) * w + g) % w = g ∧
      b / (136 / w) * (136 / w) + (b % (136 / w) * w + g) / w = b := fun b => by
    rcases width_cases hw with rfl | rfl | rfl | rfl <;> omega
  rw [placeFind]
  split
  · next h =>
    obtain ⟨hi, hmod, hdiv⟩ := hbit b
    have hk : b / (136 / w) < 320 - w ∧ ¬ g ≤ b / (136 / w) / (320 / w - 1) := by
      rw [anchorStart] at h
      rcases width_cases hw with rfl | rfl | rfl | rfl <;> omega
    refine ⟨hword _ hk.1, hi, ?_⟩
    rw [lanePlace_normal hw hk.1, hmod, normalStart, if_neg hk.2, Nat.add_zero, hdiv]
  · next h =>
    split
    · next h' =>
      refine ⟨?_, by omega, ?_⟩
      · rcases width_cases hw with rfl | rfl | rfl | rfl <;> dsimp only <;> omega
      · rw [lanePlace_anchor hw, Nat.add_sub_cancel' (not_lt.mp h)]
    · next h' =>
      obtain ⟨hi, hmod, hdiv⟩ := hbit (b - 136)
      have hk : (b - 136) / (136 / w) < 320 - w ∧ g ≤ (b - 136) / (136 / w) / (320 / w - 1) ∧ 136 ≤ b := by
        rw [anchorStart] at h'
        rcases width_cases hw with rfl | rfl | rfl | rfl <;> omega
      obtain ⟨hk, hown, hle⟩ := hk
      refine ⟨hword _ hk, hi, ?_⟩
      rw [lanePlace_normal hw hk, hmod, normalStart, if_pos hown, Nat.add_right_comm, hdiv, Nat.sub_add_cancel hle]

/-! ## The pieces of the codewords on a lane (R185, R186) -/

/-- The bits of codeword `m` on lane `g`. -/
def lanePiece (w g : Nat) (words : List (List Bool)) (m : Nat) : List Bool :=
  let x := words.getD m []
  match anchorOf w m with
  | some h => if h = g then x else []
  | none => (List.range (136 / w)).map fun j => x.getD (g + j * w) false

omit hw in
theorem laneBits_eq_flatten (w g : Nat) (words : List (List Bool)) :
    laneBits w g words = ((List.range 320).map (lanePiece w g words)).flatten := rfl

theorem lanePiece_anchor (g h : Nat) (words : List (List Bool)) :
    lanePiece w g words (320 / w * h) = if h = g then words.getD (320 / w * h) [] else [] := by
  rw [lanePiece, anchorOf_anchor hw]

theorem lanePiece_normal (g k : Nat) (words : List (List Bool)) : lanePiece w g words (normalWord w k) =
    (List.range (136 / w)).map fun j => (words.getD (normalWord w k) []).getD (g + j * w) false := by
  rw [lanePiece, anchorOf_normalWord hw]

/-- The lane bits of lane `g` below codeword `m`. -/
def piecesBelow (w g m : Nat) : Nat :=
  (m - (m + (320 / w - 1)) / (320 / w)) * (136 / w) + if 320 / w * g < m then 136 else 0

theorem piecesBelow_anchor (g : Nat) : piecesBelow w g (320 / w * g) = anchorStart w g := by
  rw [piecesBelow, anchorStart, if_neg (lt_irrefl _)]
  rcases width_cases hw with rfl | rfl | rfl | rfl <;> omega

theorem piecesBelow_normalWord (g k : Nat) : piecesBelow w g (normalWord w k) = normalStart w g k := by
  have hown : 320 / w * g < normalWord w k ↔ g ≤ k / (320 / w - 1) := by
    unfold normalWord
    rcases width_cases hw with rfl | rfl | rfl | rfl <;> omega
  have hword : normalWord w k - (normalWord w k + (320 / w - 1)) / (320 / w) = k := by
    unfold normalWord
    rcases width_cases hw with rfl | rfl | rfl | rfl <;> omega
  rw [piecesBelow, normalStart, hword, if_congr hown rfl rfl]

theorem length_pieces {words : List (List Bool)} (hlen : words.length = 320) (hall : ∀ x ∈ words, x.length = 136) (g : Nat)
    {m : Nat} (hm : m ≤ 320) : ((List.range m).map (lanePiece w g words)).flatten.length = piecesBelow w g m := by
  induction m with
  | zero =>
    unfold piecesBelow
    rcases width_cases hw with rfl | rfl | rfl | rfl <;> simp
  | succ m ih =>
    rw [List.range_succ, List.map_append, List.flatten_append, List.length_append, ih (Nat.le_of_succ_le hm)]
    have hword : (words.getD m []).length = 136 := by
      rw [List.getD_eq_getElem _ _ (by omega)]
      exact hall _ (List.getElem_mem _)
    simp only [List.map_singleton, List.flatten_singleton]
    rcases anchor_or_normalWord hw hm with ⟨h, hh, rfl⟩ | ⟨k, hk, rfl⟩
    · rw [lanePiece_anchor hw]
      unfold piecesBelow
      rcases eq_or_ne h g with rfl | hne
      · rw [if_pos rfl, hword]
        rcases width_cases hw with rfl | rfl | rfl | rfl <;> split <;> split <;> omega
      · rw [if_neg hne, List.length_nil]
        rcases width_cases hw with rfl | rfl | rfl | rfl <;> split <;> split <;> omega
    · rw [lanePiece_normal hw, List.length_map, List.length_range]
      unfold piecesBelow normalWord
      rcases width_cases hw with rfl | rfl | rfl | rfl <;> split <;> split <;> omega

/-- A lane carries at a bit's place the bit. -/
theorem laneBits_lanePlace {words : List (List Bool)} (hlen : words.length = 320) (hall : ∀ x ∈ words, x.length = 136)
    {m i : Nat} (hm : m < 320) (hi : i < 136) :
    (laneBits w (lanePlace w m i).1 words).getD (lanePlace w m i).2 false = (words.getD m []).getD i false := by
  have hword : (words.getD m []).length = 136 := by
    rw [List.getD_eq_getElem _ _ (by omega)]
    exact hall _ (List.getElem_mem _)
  rcases anchor_or_normalWord hw hm with ⟨g, hg, rfl⟩ | ⟨k, hk, rfl⟩
  · have hpiece : lanePiece w g words (320 / w * g) = words.getD (320 / w * g) [] := by
      rw [lanePiece_anchor hw, if_pos rfl]
    rw [lanePlace_anchor hw]
    dsimp only
    rw [laneBits_eq_flatten, ← piecesBelow_anchor hw, ← length_pieces hw hlen hall g hm.le,
      getD_flatten_map_range _ hm (by rw [hpiece]; omega), hpiece]
  · have hi' : i / w < 136 / w ∧ i % w + i / w * w = i := by
      rcases width_cases hw with rfl | rfl | rfl | rfl <;> omega
    rw [lanePlace_normal hw hk, laneBits_eq_flatten, ← piecesBelow_normalWord hw,
      ← length_pieces hw hlen hall (i % w) hm.le, getD_flatten_map_range _ hm (by simp [lanePiece_normal hw, hi'.1]),
      lanePiece_normal hw]
    simp [hi'.1, hi'.2]

/-- The letters that carry the lane bits of codewords give back the codewords. -/
theorem wordBits_of_laneBits {words : List (List Bool)} {letters : List (List (Fin 16))} (hlen : words.length = 320)
    (hall : ∀ x ∈ words, x.length = 136)
    (hbits : ∀ g < w, ∀ b < 43520 / w,
      bitAt ((letters.getD g []).getD (b / 2) 0).val (3 - b % 2) = (laneBits w g words).getD b false)
    {m : Nat} (hm : m < 320) : wordBits w m letters = words.getD m [] := by
  have hword : (words.getD m []).length = 136 := by
    rw [List.getD_eq_getElem _ _ (by omega)]
    exact hall _ (List.getElem_mem _)
  refine Eq.trans (List.map_congr_left fun i hi => ?_) (map_getD_range false hword)
  have hi := List.mem_range.mp hi
  obtain ⟨hg, hb⟩ := lanePlace_inRange hw hm hi
  exact (hbits _ hg _ hb).trans (laneBits_lanePlace hw hlen hall hm hi)

/-! ## The streams of a frame (R187) -/

omit hw in
/-- The data bits of codeword `m` of a frame: the share of each stream. -/
def frameData (w : Nat) (streams : List (List Bool)) (m : Nat) : List Bool :=
  ((List.range w).map fun s => (List.range (128 / w)).map fun j => (streams.getD s []).getD (m * (128 / w) + j) false).flatten

omit hw in
theorem frameWords_eq (w : Nat) (streams : List (List Bool)) :
    frameWords w streams = (List.range 320).map fun m => innerEncode (codewordMarker w m) (frameData w streams m) := rfl

omit hw in
theorem frameData_length_below (streams : List (List Bool)) (m n : Nat) :
    ((List.range n).map fun s =>
      (List.range (128 / w)).map fun j => (streams.getD s []).getD (m * (128 / w) + j) false).flatten.length = n * (128 / w) := by
  simp [List.length_flatten, Function.comp_def]

theorem frameData_length (streams : List (List Bool)) (m : Nat) : (frameData w streams m).length = 128 := by
  rw [frameData, frameData_length_below]
  rcases width_cases hw with rfl | rfl | rfl | rfl <;> rfl

omit hw in
theorem frameData_getD (streams : List (List Bool)) (m : Nat) {k j : Nat} (hk : k < w) (hj : j < 128 / w) :
    (frameData w streams m).getD (k * (128 / w) + j) false = (streams.getD k []).getD (m * (128 / w) + j) false := by
  rw [frameData, ← frameData_length_below streams m k, getD_flatten_map_range _ hk (by simpa using hj)]
  simp [hj]

theorem streamOf_frameWords {streams : List (List Bool)} {k : Nat} (hk : k < w)
    (hlen : (streams.getD k []).length = 40960 / w) : streamOf w k (frameWords w streams) = streams.getD k [] := by
  have hend : k * (128 / w) + 128 / w ≤ 128 := by
    rcases width_cases hw with rfl | rfl | rfl | rfl <;> omega
  have hshare : ∀ m, ((innerEncode (codewordMarker w m) (frameData w streams m)).drop (k * (128 / w))).take (128 / w) =
      (List.range (128 / w)).map fun j => (streams.getD k []).getD (m * (128 / w) + j) false := fun m => by
    rw [take_drop_eq_map false (by rw [innerEncode_length (frameData_length hw ..)]; omega)]
    refine List.map_congr_left fun j hj => ?_
    have hj := List.mem_range.mp hj
    rw [innerEncode_getD_data (frameData_length hw ..) (by omega), frameData_getD streams m hk hj]
  have htotal : 320 * (128 / w) = 40960 / w := by
    rcases width_cases hw with rfl | rfl | rfl | rfl <;> rfl
  rw [streamOf, frameWords_eq, List.map_map]
  calc _ = ((List.range 320).map fun m =>
          (List.range (128 / w)).map fun j => (streams.getD k []).getD (m * (128 / w) + j) false).flatten :=
        congrArg List.flatten (List.map_congr_left fun m _ => hshare m)
    _ = _ := by rw [flatten_map_range_chunks fun p => (streams.getD k []).getD p false, htotal, map_getD_range false hlen]

end

/-! ## RS codewords and host lanes (R187, R237 to R239) -/

theorem rsFind_rsPlace (mode c : Nat) {i : Nat} (hi : i < 544) : rsFind mode (rsPlace mode c i) = (c, i) := by
  unfold rsFind rsPlace
  split
  · generalize hp : 1088 * (c / 2) + 16 * (i / 8) + 2 * (i % 8) + (i / 8 + c) % 2 = p
    have hq : p / 1088 = c / 2 ∧ p % 1088 = 16 * (i / 8) + 2 * (i % 8) + (i / 8 + c) % 2 := by omega
    have hhalf : ∀ a r e, r < 8 → e < 2 → (16 * a + 2 * r + e) / 16 = a ∧ (16 * a + 2 * r + e) % 16 / 2 = r := by omega
    have hr := hhalf (i / 8) (i % 8) ((i / 8 + c) % 2) (Nat.mod_lt _ (by decide)) (Nat.mod_lt _ (by decide))
    rw [← hq.2] at hr
    refine Prod.ext ?_ ?_ <;> dsimp only <;> omega
  · refine Prod.ext ?_ ?_ <;> dsimp only <;> omega

theorem rsPlace_rsFind (mode p : Nat) : rsPlace mode (rsFind mode p).1 (rsFind mode p).2 = p := by
  unfold rsFind rsPlace
  split
  · dsimp only
    generalize hc : 2 * (p / 1088) + (p % 1088 / 16 + p % 1088) % 2 = c
    generalize hi : 8 * (p % 1088 / 16) + p % 1088 % 16 / 2 = i
    have hq : c / 2 = p / 1088 ∧ i / 8 = p % 1088 / 16 ∧ i % 8 = p % 1088 % 16 / 2 := by omega
    obtain ⟨hc2, hi8, hr⟩ := hq
    rw [hc2, hi8, hr]
    omega
  · dsimp only
    omega

theorem hostFind_hostPlace {mode : Nat} (hmode : mode ∈ [1, 2, 3]) (p : Nat) {b : Nat} (hb : b < 10) :
    (hostPlace mode p b).1 < 2 ∧ hostFind mode (hostPlace mode p b).1 (hostPlace mode p b).2 = (p, b) := by
  have hmode : mode = 1 ∨ mode = 2 ∨ mode = 3 := by simpa using hmode
  unfold hostPlace hostFind pcsPerHost
  rcases hmode with rfl | rfl | rfl <;>
    simp only [pcsLanes, Prod.mk.injEq, OfNat.one_ne_ofNat, Nat.reduceEqDiff, if_true, if_false] <;> omega

/-- Settles O60: `placeFind` inverts `lanePlace`, a lane's bits are the pieces of the codewords in their order, and the places of
the RS codewords have inverses too. -/
theorem framePlacesDistinct : Obligations.FramePlacesDistinct := by
  refine ⟨fun w hw => ⟨fun m hm i hi => lanePlace_inRange hw hm hi, fun m hm i hi m' hm' i' hi' heq => ?_,
      fun g hg b hb => ?_⟩, fun w hw => ⟨fun words letters hlen hall hbits m hm => wordBits_of_laneBits hw hlen hall hbits hm,
      fun streams hlen k hk => streamOf_frameWords hw hk (hlen k hk)⟩,
    fun mode hmode => ⟨fun c i hi => rsFind_rsPlace mode c hi, rsPlace_rsFind mode, fun p b hb => hostFind_hostPlace hmode p hb⟩⟩
  · have h := placeFind_lanePlace hw hm hi
    rw [heq, placeFind_lanePlace hw hm' hi'] at h
    exact (Prod.mk.inj h.symm)
  · obtain ⟨hm, hi, hplace⟩ := lanePlace_placeFind hw hg hb
    exact ⟨_, hm, _, hi, hplace⟩

end Sys2Proof.Machine
end

section
/-! PROOFS. Rules for the shared operations: what a command that completes leaves, and what loops, counters and writes to several
fields keep. -/

-- One theorem at a time: the whole text is compiled under a memory limit, which the stacks of waiting threads would fill.
set_option Elab.async false

namespace Sys2Proof.Machine

open Sys2Proof

/-- A command whose meaning is a change `f` of the device completes with `P` just if `P` holds of what `f` makes. -/
theorem completes_run_iff {c : Instr} {s : State} {P : Dev → Prop} {f : Dev → Dev} (h : exec c s = s.run f) :
    Completes c s P ↔ P (f s.found) := by
  refine ⟨?_, .run f h⟩
  rintro ⟨t, ht, -, hp⟩
  rw [h] at ht
  cases ht
  exact hp

/-- The device that a command leaves, by name: what the meaning makes of the device that it finds. -/
theorem Completes.runAs {i : Instr} {s : State} {P : Dev → Prop} {f : Dev → Dev} (hrun : exec i s = s.run f)
    (hp : ∀ e, e = f s.found → P e) : Completes i s P := .run f hrun (hp _ rfl)

/-- A command that acts if the device that it finds meets `c`, and then does `g`. -/
theorem Completes.runIf {i : Instr} {s : State} {P : Dev → Prop} {c : Dev → Prop} {hc : ∀ d, Decidable (c d)} {g h : Dev → Dev}
    (hrun : exec i s = s.run fun d => if c d then g d else h d) (hcond : c s.found) (hp : ∀ e, e = g s.found → P e) :
    Completes i s P :=
  .runAs hrun fun e he => hp e (he.trans (if_pos hcond))

/-- The same command where the device does not meet `c`. -/
theorem Completes.runElse {i : Instr} {s : State} {P : Dev → Prop} {c : Dev → Prop} {hc : ∀ d, Decidable (c d)}
    {g h : Dev → Dev} (hrun : exec i s = s.run fun d => if c d then g d else h d) (hcond : ¬ c s.found)
    (hp : ∀ e, e = h s.found → P e) : Completes i s P :=
  .runAs hrun fun e he => hp e (he.trans (if_neg hcond))

@[simp] theorem State.found_now (s : State) : s.found.now = s.dev.now := rfl

/-- What is sent out joins what the command has sent out before. -/
@[simp] theorem Dev.out_send (d : Dev) (o : Out) : (d.send o).out = d.out ++ [o] := rfl

/-- Something whose time has come happens at once. -/
theorem Dev.onTime_of_le {t : Nat} {f : Dev → Dev} {d : Dev} (h : t ≤ d.clk) : Dev.onTime t f d = f d := if_pos h

/-! ## Loops -/

section
variable {α β : Type}

/-- What every round of a loop keeps the loop keeps. -/
theorem Dev.forList_keeps (π : Dev → β) {g : α → Dev → Dev} {l : List α} (h : ∀ x ∈ l, ∀ e, π (g x e) = π e) (d : Dev) :
    π (Dev.forList l g d) = π d :=
  List.foldlRecOn l (fun e x => g x e) (motive := fun e => π e = π d) rfl fun e he x hx => (h x hx e).trans he

theorem Dev.each_keeps (π : Dev → β) {n : Nat} {g : Nat → Dev → Dev} (h : ∀ i < n, ∀ e, π (g i e) = π e) (d : Dev) :
    π (Dev.each n g d) = π d :=
  Dev.forList_keeps π (g := g) (fun i hi => h i (List.mem_range.mp hi)) d

theorem Dev.each_live {n : Nat} {g : Nat → Dev → Dev} {d : Dev} (h : ∀ i e, (g i e).live = e.live) :
    (Dev.each n g d).live = d.live := Dev.each_keeps Dev.live (fun i _ => h i) d

theorem Dev.Only.each {p : F → Nat → Prop} {n : Nat} {g : Nat → Dev → Dev} {d e : Dev} (h : Dev.Only p d e)
    (hg : ∀ i < n, ∀ e, Dev.Only p e (g i e)) : Dev.Only p d (Dev.each n g e) :=
  h.trans (Dev.Only.foldl _ _ (fun e i hi => hg i (List.mem_range.mp hi) e) e)

theorem Dev.OnlyRaising.each {p : F → Nat → Prop} {n : Nat} {g : Nat → Dev → Dev} {d e : Dev} (h : Dev.OnlyRaising p d e)
    (hg : ∀ i e, Dev.OnlyRaising p e (g i e)) : Dev.OnlyRaising p d (Dev.each n g e) :=
  h.trans (Dev.OnlyRaising.foldl _ (fun e i => hg i e) _ e)

end

/-! ## Writes to several fields or instances -/

theorem Dev.Only.setAll {p : F → Nat → Prop} {d e : Dev} {fs : List F} {i : Nat} (v : Nat) (h : Dev.Only p d e)
    (hp : ∀ f ∈ fs, p f i) : Dev.Only p d (e.setAll fs i v) :=
  h.trans (Dev.Only.foldl _ _ (fun e f hf => (Dev.Only.refl p e).set v (hp f hf)) e)

theorem Dev.Only.setEach {p : F → Nat → Prop} {d e : Dev} {f : F} {is : List Nat} (v : Nat) (h : Dev.Only p d e)
    (hp : ∀ i ∈ is, p f i) : Dev.Only p d (e.setEach f is v) :=
  h.trans (Dev.Only.foldl _ _ (fun e i hi => (Dev.Only.refl p e).set v (hp i hi)) e)

@[simp] theorem Dev.setEach_get_field (d : Dev) {f g : F} (is : List Nat) (v j : Nat) (h : g ≠ f) :
    (d.setEach f is v).get g j = d.get g j :=
  Dev.forList_keeps (fun e => e.get g j) (g := fun i e => e.set f i v) (fun _ _ e => Dev.get_set_field e _ j v h) d

@[simp] theorem Dev.setEach_live (d : Dev) (f : F) (is : List Nat) (v : Nat) : (d.setEach f is v).live = d.live :=
  Dev.forList_keeps Dev.live (g := fun i e => e.set f i v) (fun _ _ _ => rfl) d

@[simp] theorem Dev.setAll_live (d : Dev) (fs : List F) (i v : Nat) : (d.setAll fs i v).live = d.live :=
  Dev.forList_keeps Dev.live (g := fun f e => e.set f i v) (fun _ _ _ => rfl) d

@[simp] theorem Dev.setAll_pending (d : Dev) (fs : List F) (i v : Nat) : (d.setAll fs i v).pending = d.pending :=
  Dev.forList_keeps Dev.pending (g := fun f e => e.set f i v) (fun _ _ _ => rfl) d

theorem Dev.setEach_get_of_notMem (d : Dev) {f : F} {is : List Nat} (v : Nat) {j : Nat} (h : j ∉ is) :
    (d.setEach f is v).get f j = d.get f j :=
  Dev.forList_keeps (fun e => e.get f j) (g := fun i e => e.set f i v)
    (fun _ hi e => Dev.get_set_inst e f v fun hij => h (hij ▸ hi)) d

theorem Dev.setEach_get_of_mem (d : Dev) {f : F} {is : List Nat} (v : Nat) {j : Nat} (h : j ∈ is) :
    (d.setEach f is v).get f j = v := by
  induction is generalizing d with
  | nil => cases h
  | cons i is ih =>
    by_cases hj : j ∈ is
    · exact ih (d.set f i v) hj
    · obtain rfl : j = i := (List.mem_cons.mp h).resolve_right hj
      exact (Dev.setEach_get_of_notMem (d.set f j v) v hj).trans (Dev.get_set_same d f j v)

@[simp] theorem Dev.setAll_get_field (d : Dev) {fs : List F} {g : F} (i v j : Nat) (h : g ∉ fs) :
    (d.setAll fs i v).get g j = d.get g j :=
  Dev.forList_keeps (fun e => e.get g j) (g := fun f e => e.set f i v)
    (fun _ hf e => Dev.get_set_field e i j v fun hgf => h (hgf ▸ hf)) d

theorem Dev.setAll_get_of_mem (d : Dev) {fs : List F} {g : F} (i v : Nat) (h : g ∈ fs) : (d.setAll fs i v).get g i = v := by
  induction fs generalizing d with
  | nil => cases h
  | cons f fs ih =>
    by_cases hg : g ∈ fs
    · exact ih (d.set f i v) hg
    · obtain rfl : g = f := (List.mem_cons.mp h).resolve_right hg
      exact (Dev.setAll_get_field (d.set g i v) i v i hg).trans (Dev.get_set_same d g i v)

/-! ## Bits of a mask -/

theorem bitsWhere_succ (n : Nat) (p : Nat → Bool) : bitsWhere (n + 1) p = bitsWhere n p + if p n then 2 ^ n else 0 := by
  simp [bitsWhere, List.range_succ]

theorem bitsWhere_lt (n : Nat) (p : Nat → Bool) : bitsWhere n p < 2 ^ n := by
  induction n with
  | zero => simp [bitsWhere]
  | succ n ih =>
    rw [bitsWhere_succ, pow_succ]
    split <;> omega

theorem bitAt_bitsWhere {n i : Nat} (p : Nat → Bool) (h : i < n) : bitAt (bitsWhere n p) i = p i := by
  rw [bitAt_eq_testBit]
  induction n with
  | zero => omega
  | succ n ih =>
    have hlt := bitsWhere_lt n p
    rw [bitsWhere_succ]
    rcases Nat.lt_succ_iff_lt_or_eq.mp h with hi | rfl
    · rw [← ih hi]
      split
      · rw [Nat.add_comm, Nat.testBit_two_pow_add_gt hi]
      · rfl
    · cases hp : p i
      · simpa using Nat.testBit_lt_two_pow hlt
      · rw [if_pos rfl, Nat.add_comm, Nat.testBit_two_pow_add_eq, Nat.testBit_lt_two_pow hlt]
        rfl

end Sys2Proof.Machine
end

section
/-! PROOFS. The collection tick (R42 to R46, R49): running to its boundary, its start and what an overrun shows. -/

-- One theorem at a time: the whole text is compiled under a memory limit, which the stacks of waiting threads would fill.
set_option Elab.async false

namespace Sys2Proof.Machine

open Sys2Proof

/-! ## Running to the boundary -/

/-- The fields that passing time moves. -/
def timeFields : List F := [.TIME_NOW_NOW, .X_TIME_PHASE, .X_SLEW]

theorem Dev.pass_get (d : Dev) (u c : Nat) {f : F} (j : Nat) (h : f ∉ timeFields) : (d.pass u c).get f j = d.get f j := by
  simp only [timeFields, List.mem_cons, List.not_mem_nil, or_false, not_or] at h
  calc (d.pass u c).get f j
      = ((d.set .TIME_NOW_NOW 0 ((d.now + u) % 2 ^ 64)).set .X_TIME_PHASE 0 ((d.get .X_TIME_PHASE 0 + c) % 5)).get f j := rfl
    _ = d.get f j := by rw [Dev.get_set_field _ _ _ _ h.2.1, Dev.get_set_field _ _ _ _ h.1]

theorem Dev.cycle_get (d : Dev) {f : F} (j : Nat) (h : f ∉ timeFields) : d.cycle.get f j = d.get f j := by
  have hf := h
  simp only [timeFields, List.mem_cons, List.not_mem_nil, or_false, not_or] at hf
  unfold Dev.cycle
  extract_lets u d1 n
  have h1 : d1.get f j = d.get f j := Dev.pass_get d u 1 j h
  clear_value d1 n
  split
  · exact h1
  · rw [Dev.get_set_field _ _ _ _ hf.2.2, Dev.get_set_field _ _ _ _ hf.1, h1]

theorem Dev.runSlew_get (stop : Dev → Bool) (fuel : Nat) (d : Dev) {f : F} (j : Nat) (h : f ∉ timeFields) :
    (Dev.runSlew stop fuel d).get f j = d.get f j := by
  induction fuel generalizing d with
  | zero => rfl
  | succ fuel ih =>
    unfold Dev.runSlew
    split
    · rfl
    · exact (ih d.cycle).trans (Dev.cycle_get d j h)

theorem Dev.runToTick_get (d : Dev) {f : F} (j : Nat) (h : f ∉ timeFields) : d.runToTick.get f j = d.get f j :=
  (Dev.pass_get _ _ _ j h).trans (Dev.runSlew_get _ _ d j h)

theorem cycleUnits_le (p : Nat) : Config.cycleUnits p ≤ 6554 :=
  cycleUnits_of_forall_pairs (P := fun u => u p ≤ 6554) fun c _ => by unfold unitsWith; split <;> decide

/-- The cycles that are counted for `r` units cover them, and the last of them begins before they are covered. -/
theorem cyclesFor_covers (p r : Nat) (fuel : Nat) (j : Nat) (hend : r ≤ cycleSpan p (j + fuel))
    (hj : j = 0 ∨ cycleSpan p (j - 1) < r) :
    r ≤ cycleSpan p (cyclesFor p r fuel j) ∧
      (cyclesFor p r fuel j = 0 ∨ cycleSpan p (cyclesFor p r fuel j - 1) < r) := by
  induction fuel generalizing j with
  | zero => exact ⟨hend, hj⟩
  | succ fuel ih =>
    unfold cyclesFor
    split
    · next h => exact ⟨h, hj⟩
    · next h => exact ih (j + 1) (by rwa [Nat.add_right_comm]) (.inr (not_le.mp h))

theorem Dev.spanTo_bounds {d : Dev} (hp : d.get .X_TIME_PHASE 0 < 5) (u : Nat) : u ≤ d.spanTo u ∧ d.spanTo u < u + 6554 := by
  have hr : u % 32768 < 32768 := Nat.mod_lt _ (by decide)
  have h := cyclesFor_covers (d.get .X_TIME_PHASE 0) (u % 32768) 5 0 (by rw [Nat.zero_add, cycleSpan_five hp]; omega) (.inl rfl)
  unfold Dev.spanTo
  generalize cyclesFor (d.get .X_TIME_PHASE 0) (u % 32768) 5 0 = c at h ⊢
  obtain ⟨hcover, hlast⟩ := h
  refine ⟨by omega, ?_⟩
  rcases c with _ | c
  · simp only [cycleSpan] at hcover ⊢
    omega
  · have hunits := cycleUnits_le ((d.get .X_TIME_PHASE 0 + c) % 5)
    have hlt : cycleSpan (d.get .X_TIME_PHASE 0) c < u % 32768 := hlast.resolve_left (Nat.succ_ne_zero c)
    simp only [cycleSpan] at hcover ⊢
    omega

theorem Dev.since_now {d : Dev} : d.since d.now = 0 := by
  unfold Dev.since
  rw [Nat.add_sub_cancel_left, Nat.mod_self]

/-- Without a slew time runs on at once by the units that are left to the boundary. -/
theorem Dev.runToTick_of_noSlew {d : Dev} (h : d.get .X_SLEW 0 = 0) : d.runToTick = d.runUnits d.tickLeft := by
  unfold Dev.runToTick
  rw [h]
  show d.runUnits (d.tickLeft - d.since d.now) = _
  rw [Dev.since_now, Nat.sub_zero]

theorem Dev.runToTick_reaches {d : Dev} (hslew : d.get .X_SLEW 0 = 0) (hp : d.get .X_TIME_PHASE 0 < 5)
    (hnow : d.now ≤ d.tickDue) (hwrap : d.tickDue < 2 ^ 64 - 2 ^ 16) :
    d.tickDue ≤ d.runToTick.now ∧ d.runToTick.now < d.tickDue + 6554 ∧
    d.runToTick.now - d.now = d.runToTick.clk - d.clk ∧ d.clk ≤ d.runToTick.clk ∧
    Dev.OnlyAt [.TIME_NOW_NOW, .X_TIME_PHASE] 0 { d with clk := d.runToTick.clk } d.runToTick := by
  obtain ⟨hlow, hhigh⟩ := d.spanTo_bounds hp d.tickLeft
  have hclk : d.runToTick.clk = d.clk + d.spanTo d.tickLeft := by rw [Dev.runToTick_of_noSlew hslew]; rfl
  have hnow' : d.runToTick.now = d.now + d.spanTo d.tickLeft := by
    rw [Dev.runToTick_of_noSlew hslew, Dev.runUnits, Dev.pass_now]
    unfold Dev.tickLeft at *
    omega
  unfold Dev.tickLeft at *
  refine ⟨by omega, by omega, by omega, by omega, ?_⟩
  rw [hclk, Dev.runToTick_of_noSlew hslew]
  exact Dev.pass_onlyAt ..

/-! ## The start of a tick -/

/-- The fields that a jump of POST_TIME writes. -/
def jumpFields : List F := [.TIME_NOW_NOW, .X_BIAS_DUE, .X_BIAS_REALIGN, .X_K_FROM, .X_SET_FROM, .X_RING_PULSED, .X_CAP_STEP]

theorem Dev.timersStepped_get (d : Dev) (v0 : Nat) {f : F} (j : Nat) (h : f ∉ [F.X_BIAS_DUE, .X_BIAS_REALIGN]) :
    (d.timersStepped v0).get f j = d.get f j := by
  simp only [List.mem_cons, List.not_mem_nil, or_false, not_or] at h
  exact Dev.each_keeps (fun e => e.get f j) (fun t _ e => by simp [h]) d

/-- What a jump does after it has set POST_TIME and the tile timers. -/
theorem Dev.jumpTime_get_timers (d : Dev) (v : Nat) {f : F} (j : Nat)
    (h : f ∉ [F.X_K_FROM, .X_SET_FROM, .X_RING_PULSED, .X_CAP_STEP]) :
    (d.jumpTime v).get f j = ((d.setNow v).timersStepped d.now).get f j := by
  simp only [List.mem_cons, List.not_mem_nil, or_false, not_or] at h
  unfold Dev.jumpTime
  refine (Dev.each_keeps (fun e => e.get f j) (fun t _ e => ?_) _).trans ?_
  · split
    · exact Dev.get_set_field _ _ _ _ h.2.2.2
    · rfl
  · rw [Dev.get_set_field _ _ _ _ h.2.2.1]
    split <;> split <;> simp [h]

theorem Dev.jumpTime_get (d : Dev) (v : Nat) {f : F} (j : Nat) (h : f ∉ jumpFields) : (d.jumpTime v).get f j = d.get f j := by
  simp only [jumpFields, List.mem_cons, List.not_mem_nil, or_false, not_or] at h
  rw [Dev.jumpTime_get_timers _ _ _ (by simp [h]), Dev.timersStepped_get _ _ _ (by simp [h]), Dev.setNow,
    Dev.get_set_field _ _ _ _ h.1]

theorem Dev.jumpTime_now (d : Dev) (v : Nat) : (d.jumpTime v).now = v % 2 ^ 64 := by
  rw [Dev.now, Dev.jumpTime_get_timers _ _ _ (by decide), Dev.timersStepped_get _ _ _ (by decide), Dev.setNow, Dev.get_set_same]

theorem Dev.loadTake_get (d : Dev) {f : F} (j : Nat) (h : f ∉ .TIME_SET_CTRL_ARMED :: jumpFields) :
    d.loadTake.get f j = d.get f j := by
  rw [List.mem_cons, not_or] at h
  rw [Dev.loadTake, Dev.get_set_field _ _ _ _ h.1, Dev.jumpTime_get _ _ _ h.2]

/-- The tick counter has moved and the boundary that a step placed is gone. -/
def Dev.tickCounted (d : Dev) : Dev := (d.addWrap .TIME_TICK_COUNT_COUNT 0 1).set .X_TICK_DUE 0 0

theorem Dev.tickCounted_get (d : Dev) {f : F} (j : Nat) (h : f ∉ [F.TIME_TICK_COUNT_COUNT, .X_TICK_DUE]) :
    d.tickCounted.get f j = d.get f j := by
  simp only [List.mem_cons, List.not_mem_nil, or_false, not_or] at h
  simp [Dev.tickCounted, Dev.addWrap, h]

theorem Dev.tickCounted_past28 (d : Dev) (t : Nat) : d.tickCounted.past28 t = d.past28 t := by
  unfold Dev.past28 Dev.now
  rw [Dev.tickCounted_get _ _ (by decide)]

theorem Dev.tickCounted_periodDue (d : Dev) : d.tickCounted.periodDue = d.periodDue := by
  unfold Dev.periodDue
  rw [Dev.tickCounted_past28, Dev.tickCounted_get _ _ (by decide), Dev.tickCounted_get _ _ (by decide)]

/-- The device after the new exponent, if it is due, has gone live. -/
def Dev.tickTimed (d : Dev) : Dev := if d.periodDue then d.tickCounted.periodTake else d.tickCounted

theorem Dev.tickTimed_get (d : Dev) {f : F} (j : Nat)
    (h : f ∉ [F.TIME_TICK_COUNT_COUNT, .X_TICK_DUE, .TIME_TICK_CFG_PERIOD_K, .X_K_NEXT]) :
    d.tickTimed.get f j = d.get f j := by
  simp only [List.mem_cons, List.not_mem_nil, or_false, not_or] at h
  have hc : d.tickCounted.get f j = d.get f j := Dev.tickCounted_get d j (by simp [h])
  unfold Dev.tickTimed Dev.periodTake
  split <;> simp [h, hc]

theorem Dev.tickTimed_past28 (d : Dev) (t : Nat) : d.tickTimed.past28 t = d.past28 t := by
  unfold Dev.past28 Dev.now
  rw [Dev.tickTimed_get _ _ (by decide)]

theorem Dev.tickTimed_loadDue (d : Dev) : d.tickTimed.loadDue = d.loadDue := by
  unfold Dev.loadDue Dev.on
  rw [Dev.tickTimed_past28, Dev.tickTimed_get _ _ (by decide), Dev.tickTimed_get _ _ (by decide)]

theorem Dev.tickStart_eq (d : Dev) : d.tickStart = if d.loadDue then d.tickTimed.loadTake else d.tickTimed := by
  have h : d.tickStart = if d.tickTimed.loadDue then d.tickTimed.loadTake else d.tickTimed := by
    unfold Dev.tickStart Dev.tickTimed
    rw [← Dev.tickCounted_periodDue]
    rfl
  rw [h, Dev.tickTimed_loadDue]

theorem Dev.tickStart_get_tickTimed (d : Dev) {f : F} (j : Nat) (h : f ∉ .TIME_SET_CTRL_ARMED :: jumpFields) :
    d.tickStart.get f j = d.tickTimed.get f j := by
  rw [Dev.tickStart_eq]
  split
  · exact Dev.loadTake_get _ _ h
  · rfl

theorem Dev.tickStart_count (d : Dev) : d.tickStart.get .TIME_TICK_COUNT_COUNT 0 =
    (d.get .TIME_TICK_COUNT_COUNT 0 + 1) % 2 ^ F.TIME_TICK_COUNT_COUNT.width := by
  rw [Dev.tickStart_get_tickTimed _ _ (by decide)]
  unfold Dev.tickTimed Dev.periodTake Dev.tickCounted Dev.addWrap
  split <;> simp

theorem Dev.tickStart_off (d : Dev) : d.tickStart.get .X_SYS_OFF 0 = d.get .X_SYS_OFF 0 := by
  rw [Dev.tickStart_get_tickTimed _ _ (by decide), Dev.tickTimed_get _ _ (by decide)]

/-- R44: a new exponent that is due is live once the tick has begun. -/
theorem Dev.tickStart_period {d : Dev} (h : d.periodDue = true) :
    d.tickStart.get .TIME_TICK_CFG_PERIOD_K 0 = d.get .X_K_NEXT 0 - 1 ∧ d.tickStart.get .X_K_NEXT 0 = 0 := by
  rw [Dev.tickStart_get_tickTimed _ _ (by decide), Dev.tickStart_get_tickTimed _ _ (by decide), Dev.tickTimed, if_pos h,
    Dev.periodTake]
  simp [Dev.tickCounted_get]

/-- R49: an armed load that is due has been taken once the tick has begun. -/
theorem Dev.tickStart_load {d : Dev} (h : d.loadDue = true) :
    d.tickStart.get .TIME_SET_CTRL_ARMED 0 = 0 ∧ ∃ past, d.past28 (d.get .X_SET_FROM 0) = some past ∧
      d.tickStart.now = (d.get .TIME_SET_VALUE 0 / 2 ^ 28 * 2 ^ 28 + past) % 2 ^ 64 := by
  have hpast : (d.past28 (d.get .X_SET_FROM 0)).isSome = true := (Bool.and_eq_true_iff.mp h).2
  obtain ⟨past, hpast⟩ := Option.isSome_iff_exists.mp hpast
  rw [Dev.tickStart_eq, if_pos h]
  refine ⟨Dev.get_set_same _ _ _ _, past, hpast, ?_⟩
  rw [Dev.loadTake, Dev.now, Dev.get_set_field _ _ _ _ (by decide), ← Dev.now, Dev.jumpTime_now, Nat.mod_mod,
    Dev.tickTimed_past28, Dev.tickTimed_get _ _ (by decide), Dev.tickTimed_get _ _ (by decide), hpast]
  rfl

/-! ## Overrun -/

theorem Dev.overrun_zero (d : Dev) : d.overrun 0 = d.set .TIME_OVR_EVENTS_CARRY 0 0 := rfl

theorem Dev.overrun_of_ne {d : Dev} {late : Nat} (h : late ≠ 0) : d.overrun late =
    (((d.set .TIME_OVR_EVENTS_CARRY 0 late).orBits .TIME_OVR_EVENTS_EVENT 0 late).addSat .TIME_OVR_COUNT_COUNT 0 1).raise 4 :=
  if_neg h

theorem Dev.overrun_carry (d : Dev) (late : Nat) : (d.overrun late).get .TIME_OVR_EVENTS_CARRY 0 = late := by
  rcases eq_or_ne late 0 with rfl | h
  · rw [Dev.overrun_zero, Dev.get_set_same]
  · rw [Dev.overrun_of_ne h, raise_get _ _ _ _ (by decide)]
    simp [Dev.addSat, Dev.orBits]

/-- R46: what an overrun shows, counts and raises. -/
theorem Dev.overrun_shows (d : Dev) {late : Nat} (h : late ≠ 0) :
    (d.overrun late).get .TIME_OVR_EVENTS_EVENT 0 = d.get .TIME_OVR_EVENTS_EVENT 0 ||| late ∧
    (d.overrun late).get .TIME_OVR_COUNT_COUNT 0 = satAdd F.TIME_OVR_COUNT_COUNT.width (d.get .TIME_OVR_COUNT_COUNT 0) 1 ∧
    Dev.Raised 4 d (d.overrun late) ∧
    Dev.OnlyRaisingAt [.TIME_OVR_EVENTS_CARRY, .TIME_OVR_EVENTS_EVENT, .TIME_OVR_COUNT_COUNT] 0 d (d.overrun late) := by
  rw [Dev.overrun_of_ne h]
  refine ⟨?_, ?_, Dev.Raised.after rfl ?_ (by decide), ?_⟩
  · rw [raise_get _ _ _ _ (by decide)]
    simp [Dev.addSat, Dev.orBits]
  · rw [raise_get _ _ _ _ (by decide)]
    simp [Dev.addSat, Dev.orBits]
  · simp [Dev.addSat, Dev.orBits]
  · exact Dev.OnlyRaising.raise 4 (((Dev.Only.refl _ d).set _ ⟨rfl, by decide⟩).set _ ⟨rfl, by decide⟩ |>.set _
      ⟨rfl, by decide⟩).raising

/-! ## The statement -/

/-- Settles O5: a tick begins by counting, then takes a due exponent and a due load, and passing time changes POST_TIME, its phase
and a slew alone. -/
theorem collectionTickRuns : Obligations.CollectionTickRuns := by
  have haux' : ∀ s : State, s.dev.get .X_SYS_AUX 0 = 1 → s.found.on .X_SYS_AUX 0 = true := fun s => (Dev.on_iff ..).mpr
  refine ⟨fun i s haux => ?_, fun d hslew hp hnow hwrap => Dev.runToTick_reaches hslew hp hnow hwrap,
    fun i s haux => ⟨fun hdue => ?_, fun hdue => ?_⟩,
    fun d late => ⟨fun h => ⟨d.overrun_carry late, d.overrun_shows h⟩, fun h => h ▸ d.overrun_zero⟩⟩
  · refine .run _ (rfl : _ = execCollectionTick i s) ?_
    rw [if_pos (haux' s haux), Dev.tick]
    have hoff : s.found.runToTick.tickStart.get .X_SYS_OFF 0 = s.dev.get .X_SYS_OFF 0 := by
      rw [Dev.tickStart_off, Dev.runToTick_get _ _ (by decide), State.found_get]
    refine ⟨_, rfl, ?_, hoff, fun h => ?_, fun h => ?_⟩
    · rw [Dev.tickStart_count, Dev.runToTick_get _ _ (by decide), State.found_get]
    · rw [← hoff, ← Dev.on_iff] at h
      exact if_pos h
    · rw [← hoff, ne_eq, ← Dev.on_iff] at h
      exact ⟨_, rfl, fun c hc => bitAt_bitsWhere _ hc, _, rfl, Dev.overrun_carry .., if_neg h⟩
  · refine .run _ (rfl : _ = execTickPeriodChange i s) ?_
    have hcond : (s.found.on .X_SYS_AUX 0 && s.found.nextTick.periodDue) = true :=
      Bool.and_eq_true_iff.mpr ⟨haux' s haux, hdue⟩
    rw [if_pos hcond, Dev.tick]
    obtain ⟨hk, hnext⟩ := Dev.tickStart_period hdue
    refine ⟨_, rfl, ?_, hnext, rfl⟩
    rw [hk, Dev.runToTick_get _ _ (by decide), State.found_get]
  · refine .run _ (rfl : _ = execTimeSetLoad i s) ?_
    have hcond : (s.found.on .X_SYS_AUX 0 && s.found.nextTick.loadDue) = true :=
      Bool.and_eq_true_iff.mpr ⟨haux' s haux, hdue⟩
    rw [if_pos hcond, Dev.tick]
    obtain ⟨harmed, past, hpast, hnow⟩ := Dev.tickStart_load hdue
    rw [Dev.runToTick_get _ _ (by decide), State.found_get] at hpast hnow
    exact ⟨_, rfl, harmed, rfl, past, hpast, hnow⟩

end Sys2Proof.Machine
end

section
/-! PROOFS. Two statements that fail: a target that a restart makes eligible again (R467), and a posting on a lane of an unused
engine (R92, R165). -/

-- One theorem at a time: the whole text is compiled under a memory limit, which the stacks of waiting threads would fill.
set_option Elab.async false

namespace Sys2Proof.Machine

open Sys2Proof

/-! ## A restart whose target becomes eligible again -/

/-- In stacked mode source 5, in service on target 72, outranks source 6, which pends for the same target. -/
def waitingBehind : Dev :=
  { (((((Dev.reset.set .PH_CFG_MODE 0 1).set .PH_MASK_MASK 6 0).set .PH_T_STATUS_DEFINED 72 1).set .PH_SRC_TARGET 6 72).set
      .PH_SRC_PRIORITY 6 3).lset .PH_T_CFG_MOD_COUNT 72 4 with
    pending := [6], service := [⟨72, 5, 9⟩] }

/-- Refutes O6: the restart of postmaster 0 takes source 5 out of service, so source 6 becomes eligible for target 72, and its
message is decided and held (R454, R463): HELD is 1 after the restart. -/
theorem not_timeSetArmChecks : ¬ Obligations.TimeSetArmChecks := by
  intro h
  have hrun : exec (.postmasterRestart 0) ⟨waitingBehind, []⟩ = State.run ⟨waitingBehind, []⟩ fun d => d.resetTarget 72 := rfl
  obtain ⟨-, hheld, -⟩ := (completes_run_iff hrun).mp ((h.2 ⟨waitingBehind, []⟩).2 0)
  exact absurd hheld (by decide)

/-! ## Postings on a lane of an unused engine -/

theorem Dev.postSwing_live (d : Dev) (c : Key → Bool) : (d.postSwing c).1.live = d.live :=
  Dev.forList_keeps Dev.live (g := fun n e => e.set .X_LTX_SWING n (e.get .LTX_DRV_SWING n)) (fun _ _ _ => rfl) d

/-- What an applied posting makes live goes live in `goLive`: the rest records, sets the swing and wakes. -/
theorem Dev.applyPosting_live (d : Dev) (by_ : Nat) (c : Key → Bool) : (d.applyPosting by_ c).live =
    ((d.refuseUnused by_ c).goLive by_ fun k =>
      (c k && ((d.refuseUnused by_ c).used (engineOf k.inst) || !laneRequests.contains k.f)) &&
        (d.refuseUnused by_ c).keyReady k).live := by
  unfold Dev.applyPosting
  extract_lets d0 c1 old vals0 s vals more d2
  rw [Dev.each_live fun n e => by split <;> simp only [wake_live]]
  · refine Eq.trans ?_ (Dev.postSwing_live _ c1)
    unfold d2
    split <;> rfl

theorem Dev.showQueued_live (d : Dev) : d.showQueued.live = d.live := rfl

theorem Dev.targetsPosted_live (d : Dev) : d.targetsPosted.live = d.live := by
  unfold Dev.targetsPosted
  rw [Dev.setEach_live, Dev.each_live]
  exact fun _ _ => rfl

theorem Dev.postLive_live (d : Dev) {ps : List Posting} {last : Posting} (h : ps.getLast? = some last) :
    (d.postLive ps).live =
      (Dev.applyPosting { d with posts := d.posts.drop ps.length } 1 fun k =>
        ps.any fun p => Dev.covers { d with posts := d.posts.drop ps.length } p k).live := by
  unfold Dev.postLive
  rw [h]
  dsimp only
  rw [Dev.showQueued_live]
  split
  · rw [Dev.targetsPosted_live, Dev.set_live]
  · rw [Dev.set_live]

/-- A posting of lane 0, which no plan uses, while SQUELCH of the lane is staged as 1. -/
def squelchPosted : Dev := { Dev.reset.set .LTX_CTRL_SQUELCH 0 1 with clk := 2 * us, posts := [⟨0, 4, 0, 0⟩] }

/-- The same with the posting taken from the queue. -/
def squelchTaken : Dev := { squelchPosted with posts := [] }

/-- What the posting covers. -/
def squelchCovered (k : Key) : Bool := [(⟨0, 4, 0, 0⟩ : Posting)].any fun p => squelchTaken.covers p k

theorem squelchTaken_goLive :
    ((squelchTaken.refuseUnused 1 squelchCovered).goLive 1 fun k =>
      (squelchCovered k && ((squelchTaken.refuseUnused 1 squelchCovered).used (engineOf k.inst) || !laneRequests.contains k.f)) &&
        (squelchTaken.refuseUnused 1 squelchCovered).keyReady k).live = [] := by
  decide +kernel

theorem squelchPosted_live : (squelchPosted.postTick true).live = [] := by
  have hdue : squelchPosted.postsDue = [⟨0, 4, 0, 0⟩] := rfl
  have htick : squelchPosted.postTick true = squelchPosted.postLive [⟨0, 4, 0, 0⟩] := by
    rw [Dev.postTick, hdue]
    rfl
  rw [htick, Dev.postLive_live squelchPosted rfl]
  exact (Dev.applyPosting_live squelchTaken 1 squelchCovered).trans squelchTaken_goLive

/-- Refutes O7: the engine of lane 0 is unused, so the posting leaves the live SQUELCH of the lane at 0 (R92 code U, R165), though
its transmit domain is ON and the staged value is 1. -/
theorem not_postingAccepted : ¬ Obligations.PostingAccepted := by
  intro h
  obtain ⟨-, -, -, hlive, -⟩ := h.2 squelchPosted ⟨0, 4, 0, 0⟩ rfl
  have hpost : (squelchPosted.postTick true).lget .LTX_CTRL_SQUELCH 0 = 1 :=
    (hlive .LTX_CTRL_SQUELCH 0 (by decide) (by decide) (by decide)).1 ⟨_, .head _, by decide⟩
  rw [Dev.lget, squelchPosted_live] at hpost
  exact absurd hpost (by decide)

end Sys2Proof.Machine
end

section
/-! PROOFS. Postings (R36, R37) and the ring (R50 to R56). -/

-- One theorem at a time: the whole text is compiled under a memory limit, which the stacks of waiting threads would fill.
set_option Elab.async false

namespace Sys2Proof.Machine

open Sys2Proof

/-! ## Requests for postings (R36, R37) -/

theorem scopeBad_iff (scope index : Nat) :
    scopeBad scope index = true ↔ scope = 7 ∨ (scope = 1 ∧ 3 < index) ∨ (scope = 2 ∧ 7 < index) := by
  simp [scopeBad, or_assoc]

/-- R36: a request that nothing refuses. -/
theorem Dev.requestPosting_of_good {d : Dev} {scope index : Nat} (hbad : scopeBad scope index = false) (hlen : d.posts.length < 32) :
    (d.requestPosting scope index).posts =
      d.posts ++ [⟨(d.get .TIME_POST_STATUS_SEQ_ACCEPTED 0 + 1) % 2 ^ 16, scope, index, d.clk⟩] := by
  have hcond : ¬ (scopeBad scope index || decide (32 ≤ d.posts.length)) = true := by simp [hbad, hlen]
  unfold Dev.requestPosting
  dsimp only
  rw [if_neg hcond]
  rfl

/-- R37: a request that the queue or its scope refuses sets the error bits. -/
theorem Dev.requestPosting_of_refused {d : Dev} {scope index : Nat} (h : scopeBad scope index = true ∨ 32 ≤ d.posts.length) :
    d.requestPosting scope index =
      (d.when (scopeBad scope index) fun d => d.set .TIME_POST_ERR_SCOPE 0 1).when (decide (32 ≤ d.posts.length))
        fun d => d.set .TIME_POST_ERR_FULL 0 1 := by
  unfold Dev.requestPosting
  exact if_pos (by simpa using h)

/-- Settles O8: a request either sets the error bits alone or joins the queue, which had room. -/
theorem postingRefused : Obligations.PostingRefused := by
  intro scope index s bad
  have hbad : scopeBad scope.toNat index.toNat = true ↔ bad := scopeBad_iff ..
  have hgood : ¬ bad → scopeBad scope.toNat index.toNat = false := fun h => by rw [← hbad] at h; simpa using h
  have hrun : exec (.postingRequest scope index) s = s.run fun d => d.requestPosting scope.toNat index.toNat := rfl
  refine ⟨fun hlen => ?_, fun hlen hb => ?_, fun hlen hb => ?_, fun hlen hb => ?_, fun hlen hb => ?_⟩
  · refine .run _ hrun ?_
    rcases Classical.em (bad ∨ 32 ≤ s.dev.posts.length) with h | h
    · rw [Dev.requestPosting_of_refused (d := s.found) (h.imp_left hbad.mpr), Dev.when, Dev.when]
      split <;> split <;> exact hlen
    · obtain ⟨hb, hlen⟩ := not_or.mp h
      rw [Dev.requestPosting_of_good (hgood hb) (by simpa using hlen)]
      simp only [State.found_posts, List.length_append, List.length_singleton]
      omega
  · refine .run _ hrun ?_
    rw [Dev.requestPosting_of_good (d := s.found) (hgood hb) hlen, List.length_append]
    rfl
  · refine .run _ hrun ?_
    have hlen : 32 ≤ s.found.posts.length := hlen
    rw [Dev.requestPosting_of_refused (d := s.found) (.inr hlen), hgood hb, Dev.when, Dev.when, if_neg Bool.false_ne_true,
      if_pos (decide_eq_true hlen)]
    exact ⟨Dev.get_set_same .., ((Dev.Only.refl _ s.found).set _ ⟨rfl, by decide⟩).ofFound⟩
  · refine .run _ hrun ?_
    have hlen : 32 ≤ s.found.posts.length := hlen
    rw [Dev.requestPosting_of_refused (d := s.found) (.inr hlen), hbad.mpr hb, Dev.when, Dev.when, if_pos rfl, if_pos (decide_eq_true hlen)]
    exact ⟨Dev.get_set_same .., (Dev.get_set_field _ _ _ _ (by decide)).trans (Dev.get_set_same ..),
      (((Dev.Only.refl _ s.found).set _ ⟨rfl, by decide⟩).set _ ⟨rfl, by decide⟩).ofFound⟩
  · refine .run _ hrun ?_
    have hfull : ¬ decide (32 ≤ s.found.posts.length) = true := fun h => absurd (of_decide_eq_true h) (not_le.mpr hlen)
    rw [Dev.requestPosting_of_refused (d := s.found) (.inl (hbad.mpr hb)), hbad.mpr hb, Dev.when, Dev.when, if_pos rfl, if_neg hfull]
    exact ⟨Dev.get_set_same .., ((Dev.Only.refl _ s.found).set _ ⟨rfl, by decide⟩).ofFound⟩

/-! ## The ring -/

theorem Dev.toRing_same {d : Dev} {st : Nat} (h : d.ringState = st) : d.toRing st = d := if_pos h

theorem Dev.toRing_raises {d : Dev} {st : Nat} (h : d.ringState ≠ st) (hoff : d.get .X_SYS_OFF 0 ≠ 1) :
    d.toRing st = (d.set .TIME_RING_STATUS_STATE 0 st).raise 5 := by
  have hoff : ¬ (d.set .TIME_RING_STATUS_STATE 0 st).on .X_SYS_OFF 0 = true := by
    rw [Dev.on_iff, Dev.get_set_field _ _ _ _ (by decide)]
    exact hoff
  unfold Dev.toRing
  rw [if_neg h]
  exact if_neg hoff

theorem Dev.toRing_ringState (d : Dev) (st : Nat) : (d.toRing st).ringState = st := by
  rcases eq_or_ne d.ringState st with h | h
  · rw [Dev.toRing_same h, h]
  · unfold Dev.toRing
    rw [if_neg h]
    dsimp only
    split
    · exact Dev.get_set_same ..
    · exact (raise_get _ _ _ _ (by decide)).trans (Dev.get_set_same ..)

theorem Dev.toRing_get (d : Dev) (st : Nat) {f : F} (i : Nat) (hf : f ≠ .TIME_RING_STATUS_STATE) (hs : f ∉ signalFields) :
    (d.toRing st).get f i = d.get f i := by
  unfold Dev.toRing
  split
  · rfl
  · dsimp only
    split
    · exact Dev.get_set_field _ _ _ _ hf
    · exact (raise_get _ _ _ _ hs).trans (Dev.get_set_field _ _ _ _ hf)

/-- A change of the ring state raises source 5 where the hub is on. -/
theorem Dev.toRing_raised {d : Dev} {st : Nat} (h : d.ringState ≠ st) (hoff : d.get .X_SYS_OFF 0 ≠ 1) :
    Dev.Raised 5 d (d.toRing st) := by
  rw [Dev.toRing_raises h hoff]
  exact Dev.Raised.after rfl (Dev.get_set_field _ _ _ _ (by decide)) (by decide)

/-- What an edge shows and notes, before the state of the ring is looked at. -/
def Dev.edgeSeen (d : Dev) (stamp : Nat) : Dev :=
  let a := (stamp + 2 ^ 64 - d.get .TIME_RING_DELAY_DELAY 0) % 2 ^ 64
  let e := phaseError a
  let d := (d.set .X_RING_STAMP 0 a).set .X_RING_SMALL 0 (b2n (decide (e.natAbs ≤ 2 * ns)))
  let d := (d.setAll [.X_RING_SEEN, .X_RING_MSG_OPEN] 0 1).set .TIME_RING_STATUS_MISSED 0 0
  d.set .TIME_RING_STATUS_PHASE_ERR 0 (ux 16 (clampI (-32767) 32767 e))

/-- The fields that an edge shows and notes. -/
def edgeFields : List F := [.X_RING_STAMP, .X_RING_SMALL, .X_RING_SEEN, .X_RING_MSG_OPEN, .TIME_RING_STATUS_MISSED,
  .TIME_RING_STATUS_PHASE_ERR]

theorem Dev.edgeSeen_get (d : Dev) (stamp : Nat) {f : F} (i : Nat) (h : f ∉ edgeFields) :
    (d.edgeSeen stamp).get f i = d.get f i := by
  simp only [edgeFields, List.mem_cons, List.not_mem_nil, or_false, not_or] at h
  obtain ⟨h1, h2, h3, h4, h5, h6⟩ := h
  unfold Dev.edgeSeen
  extract_lets a e d1 d2
  clear_value a e
  rw [Dev.get_set_field _ _ _ _ h6, Dev.get_set_field _ _ _ _ h5, Dev.setAll_get_field _ _ _ _ (by simp [h3, h4]),
    Dev.get_set_field _ _ _ _ h2, Dev.get_set_field _ _ _ _ h1]

theorem Dev.edgeSeen_pending (d : Dev) (stamp : Nat) : (d.edgeSeen stamp).pending = d.pending := by
  unfold Dev.edgeSeen
  extract_lets a e d1 d2
  rw [Dev.set_pending, Dev.set_pending, Dev.setAll_pending, Dev.set_pending, Dev.set_pending]

theorem Dev.edgeSeen_raised {d e : Dev} {stamp : Nat} (h : Dev.Raised 5 (d.edgeSeen stamp) e) : Dev.Raised 5 d e := by
  obtain ⟨hpend, hocc⟩ := h
  rw [Dev.edgeSeen_get _ _ _ (by decide)] at hocc
  rw [Dev.edgeSeen_pending] at hpend
  exact ⟨hpend, hocc⟩

/-- R52: the phase error that an edge with time stamp `stamp` shows. -/
def Dev.edgeError (d : Dev) (stamp : Nat) : Int := phaseError ((stamp + 2 ^ 64 - d.get .TIME_RING_DELAY_DELAY 0) % 2 ^ 64)

theorem Dev.edgeSeen_phaseErr (d : Dev) (stamp : Nat) :
    (d.edgeSeen stamp).get .TIME_RING_STATUS_PHASE_ERR 0 = ux 16 (clampI (-32767) 32767 (d.edgeError stamp)) :=
  Dev.get_set_same ..

theorem Dev.edgeSeen_missed (d : Dev) (stamp : Nat) : (d.edgeSeen stamp).get .TIME_RING_STATUS_MISSED 0 = 0 := by
  unfold Dev.edgeSeen
  extract_lets a e d1 d2
  rw [Dev.get_set_field _ _ _ _ (by decide), Dev.get_set_same]

/-- R53: what a member does at an edge, by the size of the phase error. -/
theorem Dev.ringEdge_eq (d : Dev) (stamp : Nat) : d.ringEdge stamp =
    if d.ringState = riLOCKED ∨ d.ringState = riHOLDOVER then
      if (d.edgeError stamp).natAbs ≤ 2048 then ((d.edgeSeen stamp).slewOut (d.edgeError stamp)).toRing riLOCKED
      else ((d.edgeSeen stamp).set .X_RING_STEPPED 0 0).toRing riACQUIRE
    else d.edgeSeen stamp := by
  have hstate : (d.edgeSeen stamp).ringState = d.ringState := Dev.edgeSeen_get _ _ _ (by decide)
  rw [← hstate]
  unfold Dev.ringEdge
  extract_lets a e small d1 d2 d3
  have hseen : d3 = d.edgeSeen stamp := rfl
  have hsmall : small = decide ((d.edgeError stamp).natAbs ≤ 2048) := rfl
  rw [hseen, hsmall]
  simp only [decide_eq_true_eq]
  rfl


/-- R51: a master drives the pulse of a multiple of 2^28 that has had none. -/
theorem ringSyncDrive_drives {s : State} (hrole : s.dev.role = 1) (hfree : s.dev.get .TIME_RING_STATUS_CONFLICT 0 ≠ 1)
    (hnow : s.dev.now % 2 ^ 28 < 6554) (hnew : s.dev.get .X_RING_PULSED 0 ≠ s.dev.now / 2 ^ 28 + 1) :
    Completes .ringSyncDrive s fun e => e.out = [.ringSync] ∧ e.get .X_RING_PULSED 0 = s.dev.now / 2 ^ 28 + 1 ∧
      e.get .X_RING_PULSE_CLK 0 = s.dev.clk ∧ e.get .X_RING_MSG_DUE 0 = 1 ∧
      Dev.OnlyAt [.X_RING_PULSED, .X_RING_PULSE_CLK, .X_RING_MSG_DUE] 0 s.dev e := by
  refine .runIf (rfl : _ = execRingSyncDrive s) ⟨hrole, by simpa [Dev.on_def] using hfree, hnow, hnew⟩ ?_
  rintro _ rfl
  refine ⟨by simp, ?_, ?_, ?_,
    ((((Dev.Only.refl _ s.found).set _ ⟨rfl, by decide⟩).set _ ⟨rfl, by decide⟩).set _ ⟨rfl, by decide⟩).send _ |>.ofFound⟩
  · rw [Dev.get_send, Dev.get_set_field _ _ _ _ (by decide), Dev.get_set_field _ _ _ _ (by decide), Dev.get_set_same,
      State.found_now]
  · rw [Dev.get_send, Dev.get_set_field _ _ _ _ (by decide), Dev.get_set_same, State.found_clk]
  · rw [Dev.get_send, Dev.get_set_same]

/-- R51, R589: the message of a pulse goes out 1.024 µs after it. -/
theorem ringMsgSend_sends {s : State} (hdue : s.dev.get .X_RING_MSG_DUE 0 = 1)
    (hclk : s.dev.get .X_RING_PULSE_CLK 0 + 1048576 ≤ s.dev.clk) : Completes .ringMsgSend s fun e =>
      e.out = [.ringMsg (timeMessage ((s.dev.now + 2 ^ 64 - (s.dev.clk - s.dev.get .X_RING_PULSE_CLK 0)) % 2 ^ 64)
        (s.dev.get .TIME_TICK_CFG_PERIOD_K 0) (s.dev.get .TIME_TICK_CFG_POSITION 0))] ∧
      e.get .X_RING_MSG_DUE 0 = 0 ∧ Dev.OnlyAt [.X_RING_MSG_DUE] 0 s.dev e := by
  have hclk : s.found.get .X_RING_PULSE_CLK 0 + 1048576 ≤ s.found.clk := hclk
  refine .runIf (rfl : _ = execRingMsgSend s) ((Dev.on_iff ..).mpr hdue) fun e he => ?_
  rw [Dev.onTime_of_le hclk] at he
  subst he
  refine ⟨?_, ?_, (((Dev.Only.refl _ s.found).set _ ⟨rfl, by decide⟩).send _).ofFound⟩
  · rw [Dev.out_send, Dev.set_out, State.found_out, List.nil_append, State.found_get, State.found_get, State.found_get,
      State.found_clk, State.found_now]
  · rw [Dev.get_send, Dev.get_set_same]

/-- R52 to R54: what the phase error of an edge does to a member. -/
theorem ringSyncReceived_measures {s : State} (hrole : s.dev.role = 2) (hstate : s.dev.ringState ≠ riFREE)
    (hoff : s.dev.get .X_SYS_OFF 0 ≠ 1) (stamp : DWord) : Completes (.ringSyncReceived stamp) s fun e => ∃ err,
      err = phaseError ((stamp.toNat + 2 ^ 64 - s.dev.get .TIME_RING_DELAY_DELAY 0) % 2 ^ 64) ∧
      e.get .TIME_RING_STATUS_PHASE_ERR 0 = ux 16 (clampI (-32767) 32767 err) ∧
      e.get .TIME_RING_STATUS_MISSED 0 = 0 ∧
      (s.dev.ringState = riLOCKED → err.natAbs ≤ 2048 → e.ringState = riLOCKED ∧ e.get .X_SLEW 0 = err.natAbs) ∧
      (s.dev.ringState = riLOCKED → 2048 < err.natAbs → e.ringState = riACQUIRE ∧ Dev.Raised 5 s.dev e) ∧
      (s.dev.ringState = riHOLDOVER → 2048 < err.natAbs → e.ringState = riACQUIRE ∧ Dev.Raised 5 s.dev e) ∧
      (s.dev.ringState = riACQUIRE → e.ringState = riACQUIRE ∧ e.pending = s.dev.pending) := by
  refine .runIf (rfl : _ = execRingSyncReceived stamp s) ⟨hrole, hstate⟩ fun e he => ⟨s.found.edgeError stamp.toNat, ?_, ?_⟩
  · rw [Dev.edgeError, State.found_get]
  have hseen : (s.found.edgeSeen stamp.toNat).ringState = s.dev.ringState := Dev.edgeSeen_get _ _ _ (by decide)
  have hoff : (s.found.edgeSeen stamp.toNat).get .X_SYS_OFF 0 ≠ 1 := by rwa [Dev.edgeSeen_get _ _ _ (by decide)]
  have hphase := s.found.edgeSeen_phaseErr stamp.toNat
  have hmissed := s.found.edgeSeen_missed stamp.toNat
  have hraised : Dev.Raised 5 (s.found.edgeSeen stamp.toNat) e → Dev.Raised 5 s.dev e := Dev.edgeSeen_raised
  have hpend : (s.found.edgeSeen stamp.toNat).pending = s.dev.pending := Dev.edgeSeen_pending ..
  have hfound : s.found.ringState = s.dev.ringState := rfl
  rw [Dev.ringEdge_eq, hfound] at he
  generalize s.found.edgeSeen stamp.toNat = d at *
  generalize s.found.edgeError stamp.toNat = err at *
  have hslewed : (d.slewOut err).get .X_SLEW 0 = err.natAbs := by
    rw [Dev.slewOut, Dev.get_set_field _ _ _ _ (by decide), Dev.get_set_same]
  have hslew : ∀ {f : F} (i : Nat), f ≠ .X_SLEW → f ≠ .X_SLEW_DOWN → (d.slewOut err).get f i = d.get f i := fun i h1 h2 => by
    rw [Dev.slewOut, Dev.get_set_field _ _ _ _ h2, Dev.get_set_field _ _ _ _ h1]
  have hsmall : err.natAbs ≤ 2048 → (s.dev.ringState = riLOCKED ∨ s.dev.ringState = riHOLDOVER) →
      e = (d.slewOut err).toRing riLOCKED := fun hle hst => by rw [he, if_pos hst, if_pos hle]
  have hlarge : 2048 < err.natAbs → (s.dev.ringState = riLOCKED ∨ s.dev.ringState = riHOLDOVER) →
      e = (d.set .X_RING_STEPPED 0 0).toRing riACQUIRE := fun hgt hst => by rw [he, if_pos hst, if_neg (not_le.mpr hgt)]
  have hshown : ∀ {f : F}, f ≠ .TIME_RING_STATUS_STATE → f ≠ .X_RING_STEPPED → f ≠ .X_SLEW → f ≠ .X_SLEW_DOWN →
      f ∉ signalFields → e.get f 0 = d.get f 0 := fun h1 h2 h3 h4 hs => by
    rw [he]
    split
    · split
      · rw [Dev.toRing_get _ _ _ h1 hs, hslew _ h3 h4]
      · rw [Dev.toRing_get _ _ _ h1 hs, Dev.get_set_field _ _ _ _ h2]
    · rfl
  have hacquire : 2048 < err.natAbs → (s.dev.ringState = riLOCKED ∨ s.dev.ringState = riHOLDOVER) →
      e.ringState = riACQUIRE ∧ Dev.Raised 5 s.dev e := fun hgt hst => by
    have hne : (d.set .X_RING_STEPPED 0 0).ringState ≠ riACQUIRE := by
      rw [Dev.ringState, Dev.get_set_field _ _ _ _ (by decide), ← Dev.ringState, hseen]
      rcases hst with h | h <;> rw [h] <;> decide
    have hoff : (d.set .X_RING_STEPPED 0 0).get .X_SYS_OFF 0 ≠ 1 := by rwa [Dev.get_set_field _ _ _ _ (by decide)]
    obtain ⟨hpended, hocc⟩ := Dev.toRing_raised hne hoff
    rw [Dev.get_set_field _ _ _ _ (by decide)] at hocc
    rw [Dev.set_pending] at hpended
    rw [hlarge hgt hst] at hraised ⊢
    exact ⟨Dev.toRing_ringState .., hraised ⟨hpended, hocc⟩⟩
  refine ⟨?_, ?_, fun hst hle => ?_, fun hst hgt => hacquire hgt (.inl hst), fun hst hgt => hacquire hgt (.inr hst),
    fun hst => ?_⟩
  · rw [hshown (by decide) (by decide) (by decide) (by decide) (by decide), hphase]
  · rw [hshown (by decide) (by decide) (by decide) (by decide) (by decide), hmissed]
  · have hkeep : (d.slewOut err).ringState = riLOCKED := by
      rw [Dev.ringState, hslew _ (by decide) (by decide), ← Dev.ringState, hseen, hst]
    rw [hsmall hle (.inl hst), Dev.toRing_same hkeep]
    exact ⟨hkeep, hslewed⟩
  · have hno : ¬ (s.dev.ringState = riLOCKED ∨ s.dev.ringState = riHOLDOVER) := by rw [hst]; decide
    rw [if_neg hno] at he
    rw [he, hseen]
    exact ⟨hst, hpend⟩

/-- R53: a valid message, with a step and a small error behind it, locks a member in ACQUIRE. -/
theorem Dev.ringMessage_locks {d : Dev} (bytes : List Byte) (hstate : d.ringState = riACQUIRE)
    (hstep : d.get .X_RING_STEPPED 0 = 1) (hsmall : d.get .X_RING_SMALL 0 = 1) (hoff : d.get .X_SYS_OFF 0 ≠ 1) :
    (d.ringMessage bytes).ringState = riLOCKED ∧ 5 ∈ (d.ringMessage bytes).pending ∧
      (d.ringMessage bytes).get .X_RING_MSG_OPEN 0 = d.get .X_RING_MSG_OPEN 0 ∧
      (d.ringMessage bytes).get .TIME_RING_STATUS_PERIOD_MISMATCH 0 =
        b2n (ofLE ((bytes.drop 9).take 1) != d.get .TIME_TICK_CFG_PERIOD_K 0) := by
  unfold Dev.ringMessage
  extract_lets differs was d1 d2
  have hget : ∀ {f : F}, f ∉ signalFields → d2.get f 0 = d1.get f 0 := fun hs => by
    unfold d2
    split
    · exact raise_get _ _ _ _ hs
    · rfl
  have hkeep : ∀ {f : F}, f ≠ .TIME_RING_STATUS_PERIOD_MISMATCH → f ∉ signalFields → d2.get f 0 = d.get f 0 := fun h1 hs =>
    (hget hs).trans (Dev.get_set_field _ _ _ _ h1)
  have hstate2 : d2.ringState = riACQUIRE := (hkeep (by decide) (by decide)).trans hstate
  have hcond : (d2.on .X_RING_STEPPED 0 && d2.on .X_RING_SMALL 0) = true := by
    rw [Dev.on_def, Dev.on_def, hkeep (by decide) (by decide), hkeep (by decide) (by decide), hstep, hsmall]
    rfl
  have hoff2 : d2.get .X_SYS_OFF 0 ≠ 1 := by rwa [hkeep (by decide) (by decide)]
  have hne : d2.ringState ≠ riLOCKED := by rw [hstate2]; decide
  rw [if_pos hstate2, if_pos hcond]
  refine ⟨Dev.toRing_ringState .., ?_, ?_, ?_⟩
  · rw [(Dev.toRing_raised hne hoff2).1]
    exact (mem_insertNat ..).mpr (.inl rfl)
  · rw [Dev.toRing_get _ _ _ (by decide) (by decide), hkeep (by decide) (by decide)]
  · rw [Dev.toRing_get _ _ _ (by decide) (by decide), hget (by decide)]
    exact Dev.get_set_same ..

/-- Settles O9: each command of the ring, by what it finds. -/
theorem ringMasterDrives : Obligations.RingMasterDrives := by
  refine ⟨fun s => ⟨ringSyncDrive_drives, ringMsgSend_sends⟩,
    fun s hrole hstate hoff => ⟨ringSyncReceived_measures hrole hstate hoff,
      fun bytes hopen => ⟨fun hvalid hacq hstep hsmall => ?_, fun hvalid => ?_⟩⟩,
    fun s hoff => ⟨fun hlocked hmissed => ?_, fun hrole hfree => ?_⟩⟩
  · refine .runIf (rfl : _ = execRingTimeMessage bytes s) ⟨hrole, hstate, (Dev.on_iff ..).mpr hopen⟩ fun e he => ?_
    dsimp only at he
    rw [if_pos hvalid] at he
    obtain ⟨hst, hpend, hmsg, hmis⟩ := Dev.ringMessage_locks (d := s.found.set .X_RING_MSG_OPEN 0 0) bytes
      ((Dev.get_set_field _ _ _ _ (by decide)).trans hacq) ((Dev.get_set_field _ _ _ _ (by decide)).trans hstep)
      ((Dev.get_set_field _ _ _ _ (by decide)).trans hsmall) (by rwa [Dev.get_set_field _ _ _ _ (by decide)])
    rw [Dev.get_set_same] at hmsg
    rw [Dev.get_set_field _ _ _ _ (by decide)] at hmis
    rw [he]
    exact ⟨hst, hpend, hmsg, hmis⟩
  · refine .runIf (rfl : _ = execRingTimeMessage bytes s) ⟨hrole, hstate, (Dev.on_iff ..).mpr hopen⟩ fun e he => ?_
    dsimp only at he
    rw [if_neg (by rw [hvalid]; decide)] at he
    rw [he]
    exact ⟨Dev.get_set_same .., ((Dev.Only.refl _ s.found).set _ ⟨rfl, by decide⟩).ofFound⟩
  · refine .runIf (rfl : _ = execRingHoldover s) ⟨hlocked, hmissed⟩ fun e he => ?_
    have hne : s.found.ringState ≠ riHOLDOVER := by rw [show s.found.ringState = riLOCKED from hlocked]; decide
    rw [he]
    refine ⟨Dev.toRing_ringState .., (Dev.toRing_raised hne hoff).ofFound, ?_⟩
    rw [Dev.toRing_raises hne hoff]
    exact (((Dev.OnlyRaising.refl _ s.found).put _ ⟨rfl, by decide⟩).raise 5).ofFound
  · refine .runIf (rfl : _ = execRingConflict s) ⟨hrole, by simpa [Dev.on_def] using hfree⟩ ?_
    rintro _ rfl
    refine ⟨?_, ?_, ?_, ?_, ?_⟩
    · rw [raise_get _ _ _ _ (by decide), Dev.setAll_get_field _ _ _ _ (by decide), Dev.get_set_same]
    · rw [Dev.ringState, raise_get _ _ _ _ (by decide), Dev.setAll_get_of_mem _ _ _ (by decide)]
      rfl
    · rw [raise_get _ _ _ _ (by decide), Dev.setAll_get_of_mem _ _ _ (by decide)]
    · refine Dev.Raised.after ?_ ?_ (by decide)
      · rw [Dev.setAll_pending, Dev.set_pending, State.found_pending]
      · rw [Dev.setAll_get_field _ _ _ _ (by decide), Dev.get_set_field _ _ _ _ (by decide), State.found_get]
    · exact Dev.OnlyRaising.ofFound (.raise 5 (((Dev.Only.refl _ s.found).set _ ⟨rfl, by decide⟩).setAll _
        fun f hf => ⟨rfl, List.mem_cons_of_mem _ hf⟩).raising)

end Sys2Proof.Machine
end

section
/-! PROOFS. Plan actions (R72, R73, R75), the end of validation and of the flash actions, and XTRIG sampling (R74, R78 to R82,
R90). -/

-- One theorem at a time: the whole text is compiled under a memory limit, which the stacks of waiting threads would fill.
set_option Elab.async false

namespace Sys2Proof.Machine

open Sys2Proof

/-! ## Actions -/

theorem Dev.planAction_refused {d : Dev} {act slot : Nat} (h : d.planRefuses act slot = true) :
    d.planAction act slot = d.set .PLAN_STATUS_REFUSED 0 1 := if_pos h

theorem Dev.planRefuses_of_busy {d : Dev} (act slot : Nat) (h : psVALIDATING ≤ d.ps ∧ d.ps ≤ psFLASH) :
    d.planRefuses act slot = true := by
  simp [Dev.planRefuses, Dev.planBusy, h]

theorem Dev.planRefuses_of_current {d : Dev} {act slot : Nat} (hact : act = 4 ∨ act = 6) (h : d.dirCurrent = some slot) :
    d.planRefuses act slot = true := by
  simp [Dev.planRefuses, hact, h]

theorem Dev.planRefuses_of_notValid {d : Dev} {slot : Nat} (h : bitAt d.dirValid slot = false) : d.planRefuses 5 slot = true := by
  simp [Dev.planRefuses, h]

theorem Dev.planRefuses_eq_false {d : Dev} {act slot : Nat} (hps : d.ps < psVALIDATING) (hboot : d.get .SYS_BOOT_STATUS_STAGE 0 ≠ 5)
    (hact : 1 ≤ act ∧ act ≤ 6) (hcur : act = 4 ∨ act = 6 → d.dirCurrent ≠ some slot) (hvalid : act = 5 → bitAt d.dirValid slot = true) :
    d.planRefuses act slot = false := by
  have hbusy : d.planBusy = false := decide_eq_false fun h => absurd h.1 (not_le.mpr hps)
  have hrange : ¬ (act < 1 ∨ 6 < act) := by omega
  simp only [Dev.planRefuses, hbusy, decide_eq_false hrange, beq_eq_false_iff_ne.mpr hboot, Bool.false_or, Bool.or_eq_false_iff,
    Bool.and_eq_false_iff, decide_eq_false_iff_not, beq_eq_false_iff_ne, Bool.not_eq_false']
  refine ⟨?_, ?_⟩
  · rcases em (act = 4 ∨ act = 6) with h | h
    · exact .inr (hcur h)
    · exact .inl h
  · rcases em (act = 5) with h | h
    · exact .inr (hvalid h)
    · exact .inl h

/-- An action that nothing refuses is recorded and begins. -/
theorem planAction_begins {c : Instr} {s : State} {act slot state : Nat} (hrun : exec c s = s.run fun d => d.planAction act slot)
    (h : s.dev.planRefuses act slot = false) (hstate : (if 5 ≤ act then psFLASH else psVALIDATING) = state) :
    Completes c s fun e => e.ps = state ∧ e.get .X_PLAN_ACT 0 = act ∧ e.get .X_PLAN_SLOT 0 = slot ∧
      e.get .PLAN_STATUS_LAST_ACTION 0 = act ∧ e.get .X_PLAN_PREV 0 = s.dev.ps ∧
      Dev.OnlyAt [.X_PLAN_PREV, .X_PLAN_ACT, .X_PLAN_SLOT, .PLAN_STATUS_LAST_ACTION, .PLAN_STATUS_STATE] 0 s.dev e := by
  refine .runAs hrun fun e he => ?_
  have h' : ¬ s.found.planRefuses act slot = true := by rw [Bool.not_eq_true]; exact h
  unfold Dev.planAction at he
  rw [if_neg h', hstate] at he
  subst he
  refine ⟨by simp [Dev.ps], by simp, by simp, by simp, ?_, ?_⟩
  · simp only [ne_eq, reduceCtorEq, not_false_eq_true, Dev.get_set_field, Dev.get_set_same]
    rfl
  · exact (((((Dev.Only.refl _ s.found).set _ ⟨rfl, by decide⟩).set _ ⟨rfl, by decide⟩).set _ ⟨rfl, by decide⟩).set _
      ⟨rfl, by decide⟩).set _ ⟨rfl, by decide⟩ |>.ofFound

/-- A refused action sets REFUSED and changes nothing else. -/
theorem planAction_refuses {c : Instr} {s : State} {act slot : Nat} (hrun : exec c s = s.run fun d => d.planAction act slot)
    (h : s.dev.planRefuses act slot = true) :
    Completes c s fun e => e.get .PLAN_STATUS_REFUSED 0 = 1 ∧ Dev.OnlyAt [.PLAN_STATUS_REFUSED] 0 s.dev e := by
  refine .runAs hrun fun e he => ?_
  rw [Dev.planAction_refused (d := s.found) h] at he
  subst he
  exact ⟨Dev.get_set_same .., ((Dev.Only.refl _ s.found).set _ ⟨rfl, by decide⟩).ofFound⟩

/-- Settles O10: what refuses an action, and what an action records that nothing refuses. -/
theorem planActionTaken : Obligations.PlanActionTaken := by
  refine ⟨fun s hps hboot => ?_, fun s slot => ⟨fun hbusy => ?_, fun hcur => ?_, fun hvalid => ?_⟩⟩
  · refine ⟨planAction_begins rfl (Dev.planRefuses_eq_false hps hboot (by decide) (by simp) (by simp)) rfl,
      planAction_begins rfl (Dev.planRefuses_eq_false hps hboot (by decide) (by simp) (by simp)) rfl, fun slot =>
      ⟨planAction_begins rfl (Dev.planRefuses_eq_false hps hboot (by decide) (by simp) (by simp)) rfl, fun hcur => ?_,
        fun hvalid => ?_, fun hcur => ?_⟩⟩
    · exact planAction_begins rfl (Dev.planRefuses_eq_false hps hboot (by decide) (fun _ => hcur) (by simp)) rfl
    · exact planAction_begins rfl (Dev.planRefuses_eq_false hps hboot (by decide) (by simp) (fun _ => hvalid)) rfl
    · exact planAction_begins rfl (Dev.planRefuses_eq_false hps hboot (by decide) (fun _ => hcur) (by simp)) rfl
  · have h := fun act slot => Dev.planRefuses_of_busy act slot hbusy
    exact ⟨planAction_refuses rfl (h 1 0), planAction_refuses rfl (h 2 0), planAction_refuses rfl (h 3 slot),
      planAction_refuses rfl (h 4 slot), planAction_refuses rfl (h 5 slot), planAction_refuses rfl (h 6 slot)⟩
  · exact ⟨planAction_refuses rfl (Dev.planRefuses_of_current (.inl rfl) hcur),
      planAction_refuses rfl (Dev.planRefuses_of_current (.inr rfl) hcur)⟩
  · exact planAction_refuses rfl (Dev.planRefuses_of_notValid hvalid)


/-! ## The directory (R74) -/

theorem Dev.dirCopy_congr {d e : Dev} (h : ∀ f ∈ [F.X_DIR_OK, .X_DIR_SEQ], ∀ c, e.get f c = d.get f c) : e.dirCopy = d.dirCopy := by
  unfold Dev.dirCopy Dev.on
  simp only [h .X_DIR_OK (by decide), h .X_DIR_SEQ (by decide)]

/-- The fields that show the directory and hold its copies. -/
def dirFields : List F := [.X_DIR_OK, .X_DIR_SEQ, .X_DIR_CUR, .X_DIR_VALID, .PLAN_LIVE_CURRENT, .PLAN_LIVE_SLOT_VALID]

theorem Dev.dirCopy_le {d : Dev} {c : Nat} (h : d.dirCopy = some c) : c ≤ 1 := by
  unfold Dev.dirCopy at h
  split at h
  · cases h
  · cases h; decide
  · cases h; decide
  · cases h; split <;> decide

/-- A valid copy that is newer than the other, where that is valid, is the one in use. -/
theorem Dev.dirCopy_of_newer {d : Dev} {c : Nat} (hc : c ≤ 1) (hok : d.get .X_DIR_OK c = 1)
    (hnew : d.get .X_DIR_OK (1 - c) = 1 → d.get .X_DIR_SEQ (1 - c) < d.get .X_DIR_SEQ c) : d.dirCopy = some c := by
  rw [← Dev.on_iff] at hok hnew
  obtain rfl | rfl : c = 0 ∨ c = 1 := by omega
  · unfold Dev.dirCopy
    rw [hok]
    cases h : d.on .X_DIR_OK 1
    · rfl
    · have hlt : ¬ d.get .X_DIR_SEQ 0 < d.get .X_DIR_SEQ 1 := not_lt.mpr (hnew h).le
      simp only [hlt, if_false]
  · unfold Dev.dirCopy
    rw [hok]
    cases h : d.on .X_DIR_OK 0
    · rfl
    · have hlt : d.get .X_DIR_SEQ 0 < d.get .X_DIR_SEQ 1 := hnew h
      simp only [hlt, if_true]

theorem Dev.dirCopy_none {d : Dev} (h : d.dirCopy = none) (c : Nat) (hc : c ≤ 1) : d.get .X_DIR_OK c ≠ 1 := by
  unfold Dev.dirCopy at h
  split at h
  · next h0 h1 =>
    rw [ne_eq, ← Dev.on_iff]
    obtain rfl | rfl : c = 0 ∨ c = 1 := by omega
    · simp [h0]
    · simp [h1]
  all_goals cases h

/-- The copy of the directory that is not in use. -/
def Dev.dirOther (d : Dev) : Nat := match d.dirCopy with | some c => 1 - c | none => 0

/-- The sequence number of the next directory. -/
def Dev.dirNext (d : Dev) : Nat := ((d.dirCopy.map fun c => d.get .X_DIR_SEQ c + 1)).getD 0 % 2 ^ 32

theorem Dev.dirWrite_eq (d : Dev) (cur valid : Nat) : d.dirWrite cur valid =
    ((((d.set .X_DIR_OK d.dirOther 1).set .X_DIR_SEQ d.dirOther d.dirNext).set .X_DIR_CUR d.dirOther cur).set .X_DIR_VALID
      d.dirOther valid).showDir := rfl

theorem Dev.showDir_get (d : Dev) {f : F} (i : Nat) (h1 : f ≠ .PLAN_LIVE_CURRENT) (h2 : f ≠ .PLAN_LIVE_SLOT_VALID) :
    d.showDir.get f i = d.get f i := by
  rw [Dev.showDir, Dev.get_set_field _ _ _ _ h2, Dev.get_set_field _ _ _ _ h1]

theorem Dev.dirOther_le (d : Dev) : d.dirOther ≤ 1 := by
  unfold Dev.dirOther
  split <;> omega

/-- A directory update puts the other copy in use. -/
theorem Dev.dirWrite_dirCopy {d : Dev} (cur valid : Nat) (hseq : ∀ c, d.get .X_DIR_SEQ c < 2 ^ 32 - 1) :
    (d.dirWrite cur valid).dirCopy = some d.dirOther := by
  have hother : 1 - d.dirOther ≠ d.dirOther := by have := d.dirOther_le; omega
  rw [Dev.dirWrite_eq]
  refine Dev.dirCopy_of_newer d.dirOther_le ?_ ?_
  · simp [Dev.showDir_get]
  · rw [Dev.showDir_get _ _ (by decide) (by decide), Dev.showDir_get _ _ (by decide) (by decide),
      Dev.showDir_get _ _ (by decide) (by decide)]
    simp only [ne_eq, reduceCtorEq, not_false_eq_true, Dev.get_set_field, Dev.get_set_same, Dev.get_set_inst _ _ _ hother]
    intro hok
    cases hcopy : d.dirCopy with
    | none => exact absurd hok (Dev.dirCopy_none hcopy _ (Nat.sub_le ..))
    | some c =>
      have hc : 1 - d.dirOther = c := by
        rw [Dev.dirOther, hcopy]
        exact Nat.sub_sub_self (Dev.dirCopy_le hcopy)
      have hnext : d.dirNext = d.get .X_DIR_SEQ c + 1 := by
        have := hseq c
        rw [Dev.dirNext, hcopy]
        exact Nat.mod_eq_of_lt (Nat.lt_pred_iff.mp this)
      rw [hc, hnext]
      exact Nat.lt_succ_self _

theorem Dev.dirWrite_get (d : Dev) (cur valid : Nat) {f : F} (i : Nat) (h : f ∉ dirFields) :
    (d.dirWrite cur valid).get f i = d.get f i := by
  simp only [dirFields, List.mem_cons, List.not_mem_nil, or_false, not_or] at h
  rw [Dev.dirWrite_eq, Dev.showDir_get _ _ h.2.2.2.2.1 h.2.2.2.2.2]
  simp [h]

theorem Dev.dirWrite_current {d : Dev} (cur valid : Nat) (hseq : ∀ c, d.get .X_DIR_SEQ c < 2 ^ 32 - 1) :
    (d.dirWrite cur valid).dirCurrent = some cur := by
  rw [Dev.dirCurrent, Dev.dirWrite_dirCopy cur valid hseq, Dev.dirWrite_eq]
  simp [Dev.showDir_get]

theorem Dev.dirWrite_valid {d : Dev} (cur valid : Nat) (hseq : ∀ c, d.get .X_DIR_SEQ c < 2 ^ 32 - 1) :
    (d.dirWrite cur valid).dirValid = valid := by
  rw [Dev.dirValid, Dev.dirWrite_dirCopy cur valid hseq, Dev.dirWrite_eq]
  simp [Dev.showDir_get]

theorem Dev.showDir_dirCopy (d : Dev) : d.showDir.dirCopy = d.dirCopy :=
  Dev.dirCopy_congr fun f hf c => Dev.showDir_get _ _ (by rintro rfl; exact absurd hf (by decide)) (by rintro rfl; exact absurd hf (by decide))

/-- CURRENT shows the slot that the copy in use marks. -/
theorem Dev.showDir_shows (d : Dev) : d.showDir.get .PLAN_LIVE_CURRENT 0 = d.showDir.dirCurrent.getD 0 := by
  have hcur : d.showDir.dirCurrent = d.dirCurrent := by
    unfold Dev.dirCurrent
    rw [Dev.showDir_dirCopy]
    refine congrArg (Option.map · _) (funext fun c => ?_)
    exact Dev.showDir_get _ _ (by decide) (by decide)
  rw [hcur]
  simp [Dev.showDir]

theorem Dev.dirWrite_shows {d : Dev} (cur valid : Nat) (hseq : ∀ c, d.get .X_DIR_SEQ c < 2 ^ 32 - 1) :
    (d.dirWrite cur valid).get .PLAN_LIVE_CURRENT 0 = cur := by
  have h := Dev.dirWrite_current cur valid hseq
  rw [Dev.dirWrite_eq] at h ⊢
  rw [Dev.showDir_shows, h]
  rfl

@[simp] theorem Dev.dirWrite_flash (d : Dev) (cur valid : Nat) : (d.dirWrite cur valid).flash = d.flash := by
  rw [Dev.dirWrite_eq]
  rfl

/-! ## The boot flash -/

theorem Mem.read_filter_of_false {m : Mem} {p : Host.Cell → Bool} {x : Nat} (h : ∀ b, p (x, b) = false) :
    Mem.read (m.filter p) x = 0 := by
  induction m with
  | nil => rfl
  | cons c m ih =>
    obtain ⟨a, b⟩ := c
    rw [List.filter_cons]
    split
    · next hp =>
      have hx : x ≠ a := by
        rintro rfl
        rw [h b] at hp
        cases hp
      rw [Mem.read, if_neg hx, ih]
    · exact ih

theorem Dev.eraseFlash_byte (d : Dev) {a n x : Nat} (h1 : a ≤ x) (h2 : x < a + n) : (d.eraseFlash a n).flashByte x = 255 := by
  unfold Dev.flashByte Dev.eraseFlash
  rw [Mem.read_filter_of_false fun b => by simp [h1, h2]]
  rfl

/-- The flash holds each byte complemented, so it reads the bytes that were written. -/
theorem Dev.putFlash_byte (d : Dev) (a : Nat) {bs : List Nat} {o : Nat} (ho : o < bs.length) (hb : bs.getD o 0 < 256) :
    (d.putFlash a bs).flashByte (a + o) = bs.getD o 0 := by
  have hlen : (bytesOf (bs.map fun b => 255 - b)).length = bs.length := by simp [bytesOf]
  have hbyte : (bytesOf (bs.map fun b => 255 - b)).getD o 0 = BitVec.ofNat 8 (255 - bs.getD o 0) := by
    simp [bytesOf, ho]
  unfold Dev.flashByte Dev.putFlash
  dsimp only
  rw [Mem.read_writeBytes, hlen, if_pos (by omega), Nat.add_sub_cancel_left, hbyte, BitVec.toNat_ofNat]
  omega

/-! ## The ends of validation, of flash actions and of XTRIG sampling (R78, R80, R90) -/

/-- With no boot that waits for the memory the action in progress just ends. -/
theorem Dev.planEnd_eq {d : Dev} (h : d.get .X_BOOT_SLOT 0 = 0) :
    d.planEnd = (d.set .PLAN_STATUS_STATE 0 (d.get .X_PLAN_PREV 0)).set .X_PLAN_ACT 0 0 := by
  have hboot : ((d.set .PLAN_STATUS_STATE 0 (d.get .X_PLAN_PREV 0)).set .X_PLAN_ACT 0 0).get .X_BOOT_SLOT 0 = 0 := by simp [h]
  unfold Dev.planEnd Dev.planMem
  split
  · rfl
  · rw [if_neg fun hb => hb.1 hboot, if_neg (by rw [Dev.get_set_same]; decide)]

theorem Dev.planCode_get (d : Dev) (code off : Nat) {f : F} (i : Nat) (h1 : f ≠ .PLAN_STATUS_CODE) (h2 : f ≠ .PLAN_ERR_OFFSET_OFFSET) :
    (d.planCode code off).get f i = d.get f i := by
  rw [Dev.planCode, Dev.get_set_field _ _ _ _ h2, Dev.get_set_field _ _ _ _ h1]

theorem Dev.planEnd_get {d : Dev} (hboot : d.get .X_BOOT_SLOT 0 = 0) {f : F} (i : Nat) (h1 : f ≠ .PLAN_STATUS_STATE)
    (h2 : f ≠ .X_PLAN_ACT) : d.planEnd.get f i = d.get f i := by
  rw [Dev.planEnd_eq hboot, Dev.get_set_field _ _ _ _ h2, Dev.get_set_field _ _ _ _ h1]

theorem Dev.planEnd_ps {d : Dev} (hboot : d.get .X_BOOT_SLOT 0 = 0) : d.planEnd.ps = d.get .X_PLAN_PREV 0 := by
  rw [Dev.planEnd_eq hboot, Dev.ps, Dev.get_set_field _ _ _ _ (by decide), Dev.get_set_same]

theorem Dev.planEnd_act {d : Dev} (hboot : d.get .X_BOOT_SLOT 0 = 0) : d.planEnd.get .X_PLAN_ACT 0 = 0 := by
  rw [Dev.planEnd_eq hboot, Dev.get_set_same]

theorem Dev.planEnd_pending {d : Dev} (hboot : d.get .X_BOOT_SLOT 0 = 0) : d.planEnd.pending = d.pending := by
  rw [Dev.planEnd_eq hboot, Dev.set_pending, Dev.set_pending]

theorem Dev.planEnd_flash {d : Dev} (hboot : d.get .X_BOOT_SLOT 0 = 0) : d.planEnd.flash = d.flash := by
  rw [Dev.planEnd_eq hboot, Dev.set_flash, Dev.set_flash]

/-- R80: a validation that fails with nothing to boot. -/
theorem planValidation_fails {s : State} (hps : s.dev.ps = psVALIDATING) (hboot : s.dev.get .X_BOOT_SLOT 0 = 0) {off code : Nat}
    (herr : s.dev.planValidate = .error (off, code)) (hact : s.dev.get .X_PLAN_ACT 0 ≠ 15) :
    Completes .planValidationDone s fun e => e.ps = s.dev.get .X_PLAN_PREV 0 ∧ e.get .X_PLAN_ACT 0 = 0 ∧
      e.get .PLAN_STATUS_CODE 0 = code ∧ e.get .PLAN_ERR_OFFSET_OFFSET 0 = off ∧ Dev.Raised 961 s.dev e := by
  refine .runIf (rfl : _ = execPlanValidationDone s) hps fun e he => ?_
  have herr : s.found.planValidate = .error (off, code) := herr
  have hact : s.found.get .X_PLAN_ACT 0 ≠ 15 := hact
  unfold Dev.planValidated at he
  rw [herr] at he
  simp only [if_neg hact] at he
  have hget : ∀ {f : F}, f ≠ .PLAN_STATUS_CODE → f ≠ .PLAN_ERR_OFFSET_OFFSET → f ∉ signalFields →
      ((s.found.planCode code off).raise 961).get f 0 = s.dev.get f 0 := fun h1 h2 hs => by
    rw [raise_get _ _ _ _ hs, Dev.planCode_get _ _ _ _ h1 h2, State.found_get]
  have hb : ((s.found.planCode code off).raise 961).get .X_BOOT_SLOT 0 = 0 :=
    (hget (by decide) (by decide) (by decide)).trans hboot
  have hraised : Dev.Raised 961 s.found ((s.found.planCode code off).raise 961) :=
    Dev.Raised.after rfl (Dev.planCode_get _ _ _ _ (by decide) (by decide)) (by decide)
  obtain ⟨hpend, hocc⟩ := hraised
  subst he
  refine ⟨(Dev.planEnd_ps hb).trans (hget (by decide) (by decide) (by decide)), Dev.planEnd_act hb, ?_, ?_,
    (Dev.planEnd_pending hb).trans hpend, (Dev.planEnd_get hb _ (by decide) (by decide)).trans hocc⟩
  · rw [Dev.planEnd_get hb _ (by decide) (by decide), raise_get _ _ _ _ (by decide), Dev.planCode,
      Dev.get_set_field _ _ _ _ (by decide), Dev.get_set_same]
  · rw [Dev.planEnd_get hb _ (by decide) (by decide), raise_get _ _ _ _ (by decide), Dev.planCode, Dev.get_set_same]

/-- What a validation that succeeds goes on to. -/
theorem planValidation_succeeds {s : State} (hps : s.dev.ps = psVALIDATING) {ss : List Sect} (hok : s.dev.planValidate = .ok ss)
    {P : Dev → Prop} (hp : ∀ e, e = (if s.dev.get .X_PLAN_ACT 0 = 4 then s.found.set .PLAN_STATUS_STATE 0 psFLASH
      else if s.dev.get .X_PLAN_ACT 0 = 1 then (s.found.planCode 0 0).planEnd.raise 963
      else ((s.found.planCode 0 0).set .PLAN_STATUS_STATE 0 psWAITING).set .X_PLAN_CLK 0 s.dev.clk) → P e) :
    Completes .planValidationDone s P := by
  refine .runIf (rfl : _ = execPlanValidationDone s) hps fun e he => hp e ?_
  have hok : s.found.planValidate = .ok ss := hok
  unfold Dev.planValidated at he
  rw [hok] at he
  exact he

/-- R80: CHECK ends. -/
theorem planCheck_ends {s : State} (hps : s.dev.ps = psVALIDATING) (hboot : s.dev.get .X_BOOT_SLOT 0 = 0) {ss : List Sect}
    (hok : s.dev.planValidate = .ok ss) (hact : s.dev.get .X_PLAN_ACT 0 = 1) :
    Completes .planValidationDone s fun e => e.ps = s.dev.get .X_PLAN_PREV 0 ∧ e.get .PLAN_STATUS_CODE 0 = 0 ∧
      Dev.Raised 963 s.dev e := by
  refine planValidation_succeeds hps hok fun e he => ?_
  rw [if_neg (by rw [hact]; decide), if_pos hact] at he
  have hb : (s.found.planCode 0 0).get .X_BOOT_SLOT 0 = 0 := (Dev.planCode_get _ _ _ _ (by decide) (by decide)).trans hboot
  subst he
  refine ⟨?_, ?_, Dev.Raised.after (Dev.planEnd_pending hb) ?_ (by decide)⟩
  · exact (raise_get _ _ _ _ (by decide)).trans ((Dev.planEnd_ps hb).trans (Dev.planCode_get _ _ _ _ (by decide) (by decide)))
  · rw [raise_get _ _ _ _ (by decide), Dev.planEnd_get hb _ (by decide) (by decide), Dev.planCode,
      Dev.get_set_field _ _ _ _ (by decide), Dev.get_set_same]
  · exact (Dev.planEnd_get hb _ (by decide) (by decide)).trans (Dev.planCode_get _ _ _ _ (by decide) (by decide))

/-- R82: LOAD and LOAD_SLOT wait for their tick. -/
theorem planLoad_waits {s : State} (hps : s.dev.ps = psVALIDATING) {ss : List Sect} (hok : s.dev.planValidate = .ok ss)
    (hact : s.dev.get .X_PLAN_ACT 0 = 2 ∨ s.dev.get .X_PLAN_ACT 0 = 3) :
    Completes .planValidationDone s fun e => e.ps = psWAITING ∧ e.get .X_PLAN_CLK 0 = s.dev.clk ∧ e.get .PLAN_STATUS_CODE 0 = 0 ∧
      e.pending = s.dev.pending := by
  refine planValidation_succeeds hps hok fun e he => ?_
  rw [if_neg (by omega), if_neg (by omega)] at he
  subst he
  refine ⟨?_, Dev.get_set_same .., ?_, rfl⟩
  · rw [Dev.ps, Dev.get_set_field _ _ _ _ (by decide), Dev.get_set_same]
  · rw [Dev.get_set_field _ _ _ _ (by decide), Dev.get_set_field _ _ _ _ (by decide), Dev.planCode,
      Dev.get_set_field _ _ _ _ (by decide), Dev.get_set_same]

/-- The end of a flash action that has rewritten the directory to `cur` and `valid` on a device whose flash is `d`'s. -/
theorem planFlashed_ends {d e : Dev} {cur valid prev : Nat} (hboot : d.get .X_BOOT_SLOT 0 = 0) (hprev : d.get .X_PLAN_PREV 0 = prev)
    (hseq : ∀ c, d.get .X_DIR_SEQ c < 2 ^ 32 - 1) (he : e = (((d.dirWrite cur valid).planCode 0 0).planEnd).raise 963) :
    e.ps = prev ∧ 963 ∈ e.pending ∧ e.dirCurrent = some cur ∧ e.dirValid = valid ∧ e.get .PLAN_LIVE_CURRENT 0 = cur ∧
      e.flash = d.flash ∧ ∀ i, e.get .X_SLOT_LOST i = d.get .X_SLOT_LOST i := by
  have hb : ((d.dirWrite cur valid).planCode 0 0).get .X_BOOT_SLOT 0 = 0 := by
    rw [Dev.planCode_get _ _ _ _ (by decide) (by decide), Dev.dirWrite_get _ _ _ _ (by decide), hboot]
  have hget : ∀ {f : F} (i : Nat), f ∉ signalFields → f ≠ .PLAN_STATUS_STATE → f ≠ .X_PLAN_ACT → f ≠ .PLAN_STATUS_CODE →
      f ≠ .PLAN_ERR_OFFSET_OFFSET → e.get f i = (d.dirWrite cur valid).get f i := fun i hs h1 h2 h3 h4 => by
    rw [he, raise_get _ _ _ _ hs, Dev.planEnd_get hb _ h1 h2, Dev.planCode_get _ _ _ _ h3 h4]
  have hcopy : e.dirCopy = (d.dirWrite cur valid).dirCopy := Dev.dirCopy_congr fun f hf c => by
    rcases List.mem_pair.mp hf with rfl | rfl <;> exact hget c (by decide) (by decide) (by decide) (by decide) (by decide)
  have hflash : e.flash = (((d.dirWrite cur valid).planCode 0 0).planEnd).flash := by
    rw [he, (raise_only (fun _ _ => False) _ 963).parts]
  refine ⟨?_, ?_, ?_, ?_, ?_, ?_, fun i => ?_⟩
  · rw [he, Dev.ps, raise_get _ _ _ _ (by decide)]
    exact (Dev.planEnd_ps hb).trans (by
      rw [Dev.planCode_get _ _ _ _ (by decide) (by decide), Dev.dirWrite_get _ _ _ _ (by decide), hprev])
  · rw [he, (raise_raised _ (by decide)).1]
    exact (mem_insertNat ..).mpr (.inl rfl)
  · rw [← Dev.dirWrite_current cur valid hseq, Dev.dirCurrent, Dev.dirCurrent, hcopy]
    exact congrArg (Option.map · _) (funext fun c => hget c (by decide) (by decide) (by decide) (by decide) (by decide))
  · rw [← Dev.dirWrite_valid cur valid hseq, Dev.dirValid, Dev.dirValid, hcopy]
    exact congrArg (Option.getD · 0)
      (congrArg (Option.map · _) (funext fun c => hget c (by decide) (by decide) (by decide) (by decide) (by decide)))
  · rw [hget 0 (by decide) (by decide) (by decide) (by decide) (by decide), Dev.dirWrite_shows cur valid hseq]
  · rw [hflash, Dev.planEnd_flash hb, Dev.planCode, Dev.set_flash, Dev.set_flash, Dev.dirWrite_flash]
  · rw [hget i (by decide) (by decide) (by decide) (by decide) (by decide), Dev.dirWrite_get _ _ _ _ (by decide)]

theorem Dev.slotByte_of_kept {d : Dev} {slot : Nat} (o : Nat) (h : d.get .X_SLOT_LOST slot = 0) :
    d.slotByte slot o = d.flashByte (slotBase slot + o) := if_pos h

theorem Dev.planImage_of_program {d : Dev} (o : Nat) (h : d.get .X_PLAN_ACT 0 = 4) : d.planImage o = (d.planBuf.read o).toNat :=
  if_neg (by omega)

/-- R74, R80: PROGRAM writes the image of the plan buffer to its slot and marks it valid. -/
theorem planProgram_ends {s : State} (hps : s.dev.ps = psFLASH) (hboot : s.dev.get .X_BOOT_SLOT 0 = 0)
    (hseq : ∀ c, s.dev.get .X_DIR_SEQ c < 2 ^ 32 - 1) (hact : s.dev.get .X_PLAN_ACT 0 = 4) :
    Completes .flashActionDone s fun e => e.ps = s.dev.get .X_PLAN_PREV 0 ∧ 963 ∈ e.pending ∧
      e.dirValid = setBit s.dev.dirValid (s.dev.get .X_PLAN_SLOT 0) ∧ ∀ o, o < rd32 s.dev.planImage 8 →
        e.slotByte (s.dev.get .X_PLAN_SLOT 0) o = (s.dev.planBuf.read o).toNat := by
  refine .runIf (rfl : _ = execFlashActionDone s) ⟨hps, hact.ge, by rw [State.found_get, hact]; decide⟩ fun e he => ?_
  have hact' : s.found.get .X_PLAN_ACT 0 = 4 := hact
  unfold Dev.planFlashed at he
  simp only [if_pos hact'] at he
  have hvalid : s.found.dirValid = s.dev.dirValid := rfl
  have himage : s.found.planImage = s.dev.planImage := rfl
  rw [hvalid, himage, State.found_get] at he
  have hflash : ∀ o, o < rd32 s.dev.planImage 8 → Dev.flashByte ((s.found.eraseFlash (slotBase (s.dev.get .X_PLAN_SLOT 0)) 0x100000).putFlash
      (slotBase (s.dev.get .X_PLAN_SLOT 0)) ((List.range (rd32 s.dev.planImage 8)).map s.dev.planImage))
      (slotBase (s.dev.get .X_PLAN_SLOT 0) + o) = (s.dev.planBuf.read o).toNat := fun o ho => by
    have hbyte : ((List.range (rd32 s.dev.planImage 8)).map s.dev.planImage).getD o 0 = (s.dev.planBuf.read o).toNat := by
      simp [ho, Dev.planImage_of_program _ hact]
    rw [Dev.putFlash_byte _ _ (by simpa using ho) (by rw [hbyte]; exact (s.dev.planBuf.read o).isLt), hbyte]
  generalize hd : (s.found.eraseFlash (slotBase (s.dev.get .X_PLAN_SLOT 0)) 0x100000).putFlash
      (slotBase (s.dev.get .X_PLAN_SLOT 0)) ((List.range (rd32 s.dev.planImage 8)).map s.dev.planImage) = d at *
  have hget : ∀ f i, d.get f i = s.dev.get f i := fun f i => by rw [← hd]; rfl
  obtain ⟨h1, h2, -, h3, -, h4, h5⟩ := planFlashed_ends (prev := s.dev.get .X_PLAN_PREV 0) (by simp [hget, hboot]) (by simp [hget])
    (by simpa [hget] using hseq) he
  refine ⟨h1, h2, h3, fun o ho => ?_⟩
  rw [Dev.slotByte_of_kept o (by rw [h5, Dev.get_set_same]), Dev.flashByte, h4]
  exact hflash o ho

/-- R74, R80: ERASE erases its slot and marks it not valid. -/
theorem planErase_ends {s : State} (hps : s.dev.ps = psFLASH) (hboot : s.dev.get .X_BOOT_SLOT 0 = 0)
    (hseq : ∀ c, s.dev.get .X_DIR_SEQ c < 2 ^ 32 - 1) (hact : s.dev.get .X_PLAN_ACT 0 = 6) :
    Completes .flashActionDone s fun e => e.ps = s.dev.get .X_PLAN_PREV 0 ∧ 963 ∈ e.pending ∧
      e.dirValid = clearBit s.dev.dirValid (s.dev.get .X_PLAN_SLOT 0) ∧ ∀ o, o < 0x100000 →
        e.slotByte (s.dev.get .X_PLAN_SLOT 0) o = 255 := by
  refine .runIf (rfl : _ = execFlashActionDone s) ⟨hps, by rw [State.found_get, hact]; decide, hact.le⟩ fun e he => ?_
  have hact6 : s.found.get .X_PLAN_ACT 0 = 6 := hact
  have hact4 : ¬ s.found.get .X_PLAN_ACT 0 = 4 := by rw [hact6]; decide
  unfold Dev.planFlashed at he
  simp only [if_neg hact4, if_pos hact6] at he
  have hvalid : s.found.dirValid = s.dev.dirValid := rfl
  rw [hvalid, State.found_get] at he
  have hflash : ∀ o, o < 0x100000 → Dev.flashByte (s.found.eraseFlash (slotBase (s.dev.get .X_PLAN_SLOT 0)) 0x100000)
      (slotBase (s.dev.get .X_PLAN_SLOT 0) + o) = 255 := fun o ho => Dev.eraseFlash_byte _ (Nat.le_add_right ..) (by omega)
  generalize hd : s.found.eraseFlash (slotBase (s.dev.get .X_PLAN_SLOT 0)) 0x100000 = d at *
  have hget : ∀ f i, d.get f i = s.dev.get f i := fun f i => by rw [← hd]; rfl
  obtain ⟨h1, h2, -, h3, -, h4, h5⟩ := planFlashed_ends (prev := s.dev.get .X_PLAN_PREV 0) (by simp [hget, hboot]) (by simp [hget])
    (by simpa [hget] using hseq) he
  refine ⟨h1, h2, h3, fun o ho => ?_⟩
  rw [Dev.slotByte_of_kept o (by rw [h5, Dev.get_set_same]), Dev.flashByte, h4]
  exact hflash o ho

/-- R74, R80: MARK_CURRENT marks its slot. -/
theorem planMarkCurrent_ends {s : State} (hps : s.dev.ps = psFLASH) (hboot : s.dev.get .X_BOOT_SLOT 0 = 0)
    (hseq : ∀ c, s.dev.get .X_DIR_SEQ c < 2 ^ 32 - 1) (hact : s.dev.get .X_PLAN_ACT 0 = 5) :
    Completes .flashActionDone s fun e => e.ps = s.dev.get .X_PLAN_PREV 0 ∧ 963 ∈ e.pending ∧
      e.dirCurrent = some (s.dev.get .X_PLAN_SLOT 0) ∧ e.get .PLAN_LIVE_CURRENT 0 = s.dev.get .X_PLAN_SLOT 0 ∧
      e.flash = s.dev.flash := by
  refine .runIf (rfl : _ = execFlashActionDone s)
    ⟨hps, by rw [State.found_get, hact]; decide, by rw [State.found_get, hact]; decide⟩ fun e he => ?_
  have hact4 : ¬ s.found.get .X_PLAN_ACT 0 = 4 := by rw [State.found_get, hact]; decide
  have hact6 : ¬ s.found.get .X_PLAN_ACT 0 = 6 := by rw [State.found_get, hact]; decide
  unfold Dev.planFlashed at he
  simp only [if_neg hact4, if_neg hact6] at he
  obtain ⟨h1, h2, h3, -, h4, h5, -⟩ := planFlashed_ends (d := s.found) hboot rfl hseq he
  exact ⟨h1, h2, h3, h4, h5⟩

/-- R90: the sampling of an XTRIG line ends. -/
theorem xtrigSample_ends {s : State} {j : Fin 2} {driven : Bool} (hwait : s.dev.get .X_XTRIG_WAIT j = 1)
    (hclk : s.dev.get .X_XTRIG_WAIT_CLK j + us ≤ s.dev.clk) {P : Dev → Prop}
    (hp : ∀ e, e = (if driven then ((s.found.set .X_XTRIG_WAIT j 0).set .CAP_XTRIG_OUT_REFUSED j 1).refuse 10 j 2 8
      else (s.found.set .X_XTRIG_WAIT j 0).set .CAP_XTRIG_OUT_DRIVING j 1) → P e) :
    Completes (.xtrigSampleDone j driven) s P := by
  have hclk : s.found.get .X_XTRIG_WAIT_CLK j + us ≤ s.found.clk := hclk
  refine .runIf (rfl : _ = execXtrigSampleDone j driven s) ((Dev.on_iff ..).mpr hwait) fun e he => hp e ?_
  rw [Dev.onTime_of_le hclk] at he
  exact he

/-- The fields that the log of refused requests for shared resources writes. -/
def refuseFields : List F := [.PLAN_RES_LOG_RESOURCE, .PLAN_RES_LOG_INDEX, .PLAN_RES_LOG_REQUESTER, .PLAN_RES_LOG_HOLDER,
  .PLAN_RES_LOG_COUNT, .PLAN_RES_TIME_TIME]

theorem Dev.refuse_get (d : Dev) (r i q h : Nat) {f : F} (j : Nat) (hf : f ∉ refuseFields) (hs : f ∉ signalFields) :
    (d.refuse r i q h).get f j = d.get f j := by
  simp only [refuseFields, List.mem_cons, List.not_mem_nil, or_false, not_or] at hf
  obtain ⟨h1, h2, h3, h4, h5, h6⟩ := hf
  unfold Dev.refuse
  rw [raise_get _ _ _ _ hs]
  simp [Dev.addSat, h1, h2, h3, h4, h5, h6]

/-- R90: what the log of refused requests shows. -/
theorem Dev.refuse_shows (d : Dev) (r i q h : Nat) : (d.refuse r i q h).get .PLAN_RES_LOG_RESOURCE 0 = r ∧
    (d.refuse r i q h).get .PLAN_RES_LOG_INDEX 0 = i ∧ (d.refuse r i q h).get .PLAN_RES_LOG_HOLDER 0 = h ∧
    (d.refuse r i q h).get .PLAN_RES_TIME_TIME 0 = d.now ∧ Dev.Raised 962 d (d.refuse r i q h) := by
  unfold Dev.refuse
  refine ⟨?_, ?_, ?_, ?_, .after rfl ?_ (by decide)⟩
  · rw [raise_get _ _ _ _ (by decide)]
    simp [Dev.addSat]
  · rw [raise_get _ _ _ _ (by decide)]
    simp [Dev.addSat]
  · rw [raise_get _ _ _ _ (by decide)]
    simp [Dev.addSat]
  · rw [raise_get _ _ _ _ (by decide)]
    simp [Dev.addSat, Dev.now]
  · simp [Dev.addSat]

/-- Settles O11: validation, the three flash actions and the sampling of an XTRIG line. -/
theorem planValidationEnds : Obligations.PlanValidationEnds := by
  refine ⟨fun s hps hboot => ⟨fun off code herr hact => planValidation_fails hps hboot herr hact, fun ss hok =>
    ⟨planCheck_ends hps hboot hok, planLoad_waits hps hok, fun hact => ?_⟩⟩, fun s hps hboot hseq _ =>
    ⟨fun hact _ => planProgram_ends hps hboot hseq hact, planMarkCurrent_ends hps hboot hseq, planErase_ends hps hboot hseq⟩,
    fun s j hwait hclk => ⟨xtrigSample_ends hwait hclk fun e he => ?_, xtrigSample_ends hwait hclk fun e he => ?_⟩⟩
  · refine planValidation_succeeds hps hok fun e he => ?_
    rw [if_pos hact] at he
    subst he
    exact ⟨Dev.get_set_same .., ((Dev.Only.refl _ s.found).set _ ⟨rfl, by decide⟩).ofFound⟩
  · rw [if_neg Bool.false_ne_true] at he
    subst he
    exact ⟨Dev.get_set_same .., (Dev.get_set_field _ _ _ _ (by decide)).trans (Dev.get_set_same ..),
      (((Dev.Only.refl _ s.found).set _ ⟨rfl, by decide⟩).set _ ⟨rfl, by decide⟩).ofFound⟩
  · rw [if_pos rfl] at he
    obtain ⟨h1, h2, h3, h4, hpend, hocc⟩ := ((s.found.set .X_XTRIG_WAIT j 0).set .CAP_XTRIG_OUT_REFUSED j 1).refuse_shows 10 j 2 8
    subst he
    refine ⟨?_, ?_, ?_, h1, h2, h3, ?_, hpend, ?_⟩
    · rw [Dev.refuse_get _ _ _ _ _ _ (by decide) (by decide), Dev.get_set_same]
    · rw [Dev.refuse_get _ _ _ _ _ _ (by decide) (by decide), Dev.get_set_field _ _ _ _ (by decide), Dev.get_set_same]
    · rw [Dev.refuse_get _ _ _ _ _ _ (by decide) (by decide)]
      simp
    · rw [h4]
      simp [Dev.now]
    · rw [hocc]
      simp

end Sys2Proof.Machine
end

section
/-! PROOFS. The tick at which a plan is accepted (R82, R553). -/

-- One theorem at a time: the whole text is compiled under a memory limit, which the stacks of waiting threads would fill.
set_option Elab.async false

namespace Sys2Proof.Machine

open Sys2Proof

/-! ## Wakes -/

/-- Each power domain of `e` is in the state of `d`, or has started to wake from sleep. -/
def Dev.MayWake (d e : Dev) : Prop := ∀ k, e.dom k = d.dom k ∨ (d.domAsleep k = true ∧ e.dom k = pwWAKING)

theorem Dev.MayWake.of_get {d e : Dev} (h : ∀ k, e.get .PWR_D_STATUS_STATE k = d.get .PWR_D_STATUS_STATE k) : Dev.MayWake d e :=
  fun k => .inl (h k)

theorem Dev.MayWake.refl (d : Dev) : Dev.MayWake d d := fun _ => .inl rfl

theorem Dev.MayWake.trans {a b c : Dev} (h1 : Dev.MayWake a b) (h2 : Dev.MayWake b c) : Dev.MayWake a c := by
  intro k
  rcases h1 k with hab | ⟨hs, hab⟩
  · rcases h2 k with hbc | ⟨hs, hbc⟩
    · exact .inl (hbc.trans hab)
    · exact .inr ⟨by rwa [Dev.domAsleep, ← hab], hbc⟩
  · rcases h2 k with hbc | ⟨-, hbc⟩
    · exact .inr ⟨hs, hbc.trans hab⟩
    · exact .inr ⟨hs, hbc⟩

theorem Dev.MayWake.set {d e : Dev} {f : F} (i v : Nat) (h : Dev.MayWake d e) (hf : f ≠ .PWR_D_STATUS_STATE := by decide) :
    Dev.MayWake d (e.set f i v) := h.trans (.of_get fun _ => Dev.get_set_field _ _ _ _ hf.symm)

theorem Dev.MayWake.pend {d e : Dev} (l : List Nat) (h : Dev.MayWake d e) : Dev.MayWake d { e with pending := l } := h

theorem Dev.MayWake.foldl {α : Type} {g : Dev → α → Dev} (h : ∀ d x, Dev.MayWake d (g d x)) (l : List α) (d : Dev) :
    Dev.MayWake d (l.foldl g d) := by
  induction l generalizing d with
  | nil => exact .refl d
  | cons x l ih => exact (h d x).trans (ih (g d x))

theorem wakeOne_mayWake (d : Dev) (k c : Nat) : Dev.MayWake d (d.wakeOne k c) := by
  unfold Dev.wakeOne
  split
  · exact .refl d
  · split
    · next h =>
      rw [Bool.and_eq_true] at h
      intro j
      rcases eq_or_ne j k with rfl | hj
      · exact .inr ⟨h.1, Dev.get_set_same ..⟩
      · refine .inl ((Dev.get_set_inst _ _ _ hj).trans ?_)
        simp [Dev.dom]
    · split
      · exact (Dev.MayWake.refl d).set _ _
      · exact (Dev.MayWake.refl d).set _ _

theorem wake_mayWake (d : Dev) (k c : Nat) : Dev.MayWake d (d.wake k c) :=
  (Dev.MayWake.foldl (fun d x => wakeOne_mayWake d x 10) _ d).trans (.foldl (fun d x => wakeOne_mayWake d x c) _ _)

theorem sendMsix_mayWake (d : Dev) (v : Nat) : Dev.MayWake d (d.sendMsix v) := by
  unfold Dev.sendMsix
  split
  · extract_lets e
    have h : Dev.MayWake d e := (Dev.MayWake.refl d).set (f := .X_PCIE_PME_STATUS) 0 1
    split
    · exact (h.set (f := .DMA_LINK_STATUS_L1) 0 0).trans (.of_get fun _ => rfl)
    · exact h
  · split
    · exact .of_get fun _ => rfl
    · exact ((Dev.MayWake.refl d).set (f := .DMA_LINK_STATUS_L1) 0 0).trans (.of_get fun _ => rfl)

theorem issueFor_mayWake (d : Dev) (x s : Nat) : Dev.MayWake d (d.issueFor x s) := by
  unfold Dev.issueFor Dev.addSat
  extract_lets e
  have h : Dev.MayWake d e := (Dev.MayWake.refl d).set _ _
  split
  · exact h.trans (sendMsix_mayWake _ _)
  · exact (h.set (f := .X_PH_CORE_HALT) x 0).trans (.of_get fun _ => rfl)

theorem release_mayWake (d : Dev) (x : Nat) : Dev.MayWake d (d.release x) := by
  unfold Dev.release Dev.issue
  split
  · refine (((Dev.MayWake.refl d).set (f := .PH_T_STATUS_HELD) x 0).set (f := .X_PH_HELD_COUNT) x 0).trans ?_
    split
    · exact .refl _
    · exact issueFor_mayWake _ _ _
  · exact .refl d

theorem decideMessage_mayWake (d : Dev) (x s : Nat) : Dev.MayWake d (d.decideMessage x s) := by
  unfold Dev.decideMessage
  extract_lets e1 e2
  have h1 : Dev.MayWake d e1 := by
    unfold e1
    split
    · exact wake_mayWake _ _ _
    · exact .refl d
  have h2 : Dev.MayWake d e2 := by
    unfold e2
    split
    · exact h1
    · exact ((h1.set _ _).set _ _).set _ _
  clear_value e2
  split
  · split
    · exact h2
    · exact h2.trans (issueFor_mayWake _ _ _)
  · split
    · exact h2
    · exact ((h2.set _ _).set _ _).set _ _

theorem settle_mayWake (d : Dev) (x : Nat) : Dev.MayWake d (d.settle x) := by
  unfold Dev.settle
  split
  · exact (Dev.MayWake.refl d).set _ _
  · split
    · exact .refl d
    · exact ((Dev.MayWake.refl d).set (f := .X_PH_ELIG) x 1).trans (decideMessage_mayWake _ x _)

theorem countHeld_mayWake (d : Dev) (s : Nat) : Dev.MayWake d (d.countHeld s) := by
  unfold Dev.countHeld
  extract_lets x n
  split
  · split
    · exact release_mayWake _ _
    · exact (Dev.MayWake.refl d).set _ _
  · exact .refl d

theorem raise_mayWake (d : Dev) (s : Nat) : Dev.MayWake d (d.raise s) := by
  unfold Dev.raise Dev.occur Dev.settleSource
  split
  · exact .refl d
  · extract_lets e1 e
    have h1 : Dev.MayWake d e1 := (Dev.MayWake.refl d).set (f := .PH_SRC_OCCUR) s _
    have h : Dev.MayWake d e := h1.pend (insertNat d.pending s)
    clear_value e
    exact (h.trans (countHeld_mayWake e s)).trans (settle_mayWake _ _)

/-! ## What keeps a plan due -/

/-- The fields that say when a plan is accepted. -/
def planDueFields : List F := [.PLAN_STATUS_STATE, .X_PLAN_CLK, .X_PLAN_ACT, .MEM_STATUS_STATE]

/-- A plan that is due in `d` is due in `e`: time may have passed and domains that are ON have stayed so. -/
def Dev.PlanWaits (d e : Dev) : Prop :=
  (∀ f ∈ planDueFields, e.get f 0 = d.get f 0) ∧ d.clk ≤ e.clk ∧ Dev.MayWake d e

theorem Dev.PlanWaits.trans {a b c : Dev} (h1 : Dev.PlanWaits a b) (h2 : Dev.PlanWaits b c) : Dev.PlanWaits a c :=
  ⟨fun f hf => (h2.1 f hf).trans (h1.1 f hf), h1.2.1.trans h2.2.1, h1.2.2.trans h2.2.2⟩

theorem Dev.PlanWaits.of_get {d e : Dev} (hclk : d.clk ≤ e.clk)
    (h : ∀ f ∈ F.PWR_D_STATUS_STATE :: planDueFields, ∀ i, e.get f i = d.get f i) : Dev.PlanWaits d e :=
  ⟨fun f hf => h f (.tail _ hf) 0, hclk, .of_get fun k => h _ (.head _) k⟩

theorem Dev.PlanWaits.of_only {p : F → Prop} {d e : Dev} (h : Dev.Only (fun f _ => p f) d e)
    (hp : ∀ f ∈ F.PWR_D_STATUS_STATE :: planDueFields, ¬ p f) : Dev.PlanWaits d e :=
  .of_get (by rw [h.1]) fun f hf i => h.2 f i (hp f hf)

/-- R82, R553: a plan that waits for 2 µs is due; that of area 0 with the memory domains ON and the memory not in training. -/
theorem Dev.planDue_of_waits {d e : Dev} (h : Dev.PlanWaits d e) (hps : d.ps = psWAITING) (hclk : d.get .X_PLAN_CLK 0 + 2 * us ≤ d.clk)
    (hmem : d.get .X_PLAN_ACT 0 = 14 → d.memState ≠ meTRAINING ∧ ∀ m < 4, d.dom (domMem m) = pwON) : e.planDue = true := by
  obtain ⟨hget, hle, hwake⟩ := h
  have h1 : e.ps = psWAITING := (hget _ (by decide)).trans hps
  have h2 : e.get .X_PLAN_CLK 0 + 2 * us ≤ e.clk := by rw [hget _ (by decide)]; exact hclk.trans hle
  unfold Dev.planDue
  rw [h1, decide_eq_true h2, hget .X_PLAN_ACT (by decide)]
  rcases Classical.em (d.get .X_PLAN_ACT 0 = 14) with hact | hact
  · obtain ⟨htrain, hon⟩ := hmem hact
    have h3 : (e.memState != meTRAINING) = true := by
      rw [bne_iff_ne, Dev.memState, hget _ (by decide)]
      exact htrain
    have h4 : (List.range 4).all (fun m => e.dom (domMem m) != pwWAKING) = true := List.all_eq_true.mpr fun m hm => by
      have hm := hon m (List.mem_range.mp hm)
      rcases hwake (domMem m) with h | ⟨h, -⟩
      · rw [h, hm]
        rfl
      · rw [Dev.domAsleep, hm] at h
        exact absurd h (by decide)
    rw [h3, h4]
    simp
  · simp [hact]

/-! ## The start of a tick -/

@[simp] theorem Dev.pass_clk (d : Dev) (u c : Nat) : (d.pass u c).clk = d.clk + u := rfl

theorem Dev.cycle_clk_le (d : Dev) : d.clk ≤ d.cycle.clk := by
  unfold Dev.cycle
  extract_lets u d1 n
  have h : d.clk ≤ d1.clk := by
    unfold d1
    rw [Dev.pass_clk]
    exact Nat.le_add_right ..
  clear_value d1
  split
  · exact h
  · rw [Dev.set_clk, Dev.set_clk]
    exact h

theorem Dev.runSlew_clk_le (stop : Dev → Bool) (fuel : Nat) (d : Dev) : d.clk ≤ (Dev.runSlew stop fuel d).clk := by
  induction fuel generalizing d with
  | zero => exact le_refl _
  | succ fuel ih =>
    unfold Dev.runSlew
    split
    · exact le_refl _
    · exact d.cycle_clk_le.trans (ih _)

theorem Dev.runToTick_clk_le (d : Dev) : d.clk ≤ d.runToTick.clk :=
  (Dev.runSlew_clk_le _ _ d).trans (Nat.le_add_right ..)

theorem Dev.jumpTime_clk (d : Dev) (v : Nat) : (d.jumpTime v).clk = d.clk := by
  unfold Dev.jumpTime
  extract_lets v0 d1 d2 d3
  have h1 : d1.clk = d.clk := Dev.each_keeps Dev.clk (fun t _ e => by rw [Dev.set_clk, Dev.set_clk]) (d.setNow v)
  clear_value d1
  have h2 : d2.clk = d.clk := by
    unfold d2
    split
    · exact h1
    · rw [Dev.set_clk, h1]
  clear_value d2
  have h3 : d3.clk = d.clk := by
    unfold d3
    rw [Dev.set_clk]
    split
    · rw [Dev.set_clk, h2]
    · exact h2
  refine (Dev.each_keeps Dev.clk (fun t _ e => ?_) d3).trans h3
  split
  · rfl
  · rfl

theorem Dev.tickStart_clk (d : Dev) : d.tickStart.clk = d.clk := by
  have h : d.tickTimed.clk = d.clk := by
    unfold Dev.tickTimed Dev.periodTake Dev.tickCounted Dev.addWrap
    split <;> simp only [Dev.set_clk]
  rw [Dev.tickStart_eq]
  split
  · rw [Dev.loadTake, Dev.set_clk, Dev.jumpTime_clk, h]
  · exact h

theorem Dev.tickStart_get (d : Dev) {f : F} (j : Nat)
    (h : f ∉ [F.TIME_SET_CTRL_ARMED, .TIME_TICK_COUNT_COUNT, .X_TICK_DUE, .TIME_TICK_CFG_PERIOD_K, .X_K_NEXT] ++ jumpFields) :
    d.tickStart.get f j = d.get f j := by
  simp only [List.cons_append, List.nil_append, List.mem_cons, not_or] at h
  obtain ⟨h1, h2, h3, h4, h5, h6⟩ := h
  rw [Dev.tickStart_get_tickTimed d j (by simp only [List.mem_cons, not_or]; exact ⟨h1, h6⟩), Dev.tickTimed_get d j (by simp [h2, h3, h4, h5])]

theorem Dev.tickStart_waits (d : Dev) : Dev.PlanWaits d d.runToTick.tickStart := by
  refine .of_get (d.runToTick_clk_le.trans (Dev.tickStart_clk _).ge) fun f hf i => ?_
  simp only [planDueFields, List.mem_cons, List.not_mem_nil, or_false] at hf
  rcases hf with rfl | rfl | rfl | rfl | rfl
  all_goals exact (Dev.tickStart_get _ i (by decide)).trans (Dev.runToTick_get _ i (by decide))

/-! ## The start of a tick's work -/

/-- The fields that the end of a receive lane's tick writes. -/
def rxEndFields : List F := [.X_LRX_FLAGS, .LRX_SEG_COUNT, .LRX_INVALID_SEG_COUNT, .X_LRX_SEG_ABS, .X_LRX_BAD_SEG,
  .LRX_CHK_SKIPPED_COUNT, .LRX_CHK_BITS_COUNT, .LRX_CHK_ERRS_COUNT, .LRX_CHK_GRADE_ERR_COUNT, .LRX_SNR_EYE0, .LRX_SNR_EYE1,
  .LRX_SNR_EYE2, .LRX_GRADE_COUNT_COUNT, .X_LRX_LOST, .X_LRX_CHK_RAN, .X_LRX_WLEN, .X_LRX_WCODE, .X_LRX_WOFF]

theorem Dev.endSegs_only (d : Dev) (n k bad flags : Nat) :
    Dev.Only (fun f _ => f ∈ rxEndFields) d (d.endSegs n k bad flags) := by
  unfold Dev.endSegs Dev.addWrap Dev.addSat
  extract_lets d1 d2 d3
  have h : Dev.Only (fun f _ => f ∈ rxEndFields) d d3 :=
    (((((Dev.Only.refl _ d).set _ (by decide)).set _ (by decide)).set _ (by decide)).set _ (by decide)).set _ (by decide)
  split
  · exact h.set _ (by decide)
  · exact h

theorem Dev.countSegs_only (d : Dev) (n segs lossSegs : Nat) :
    Dev.Only (fun f _ => f ∈ rxEndFields) d (d.countSegs n segs lossSegs) := by
  unfold Dev.countSegs
  split
  · exact Dev.endSegs_only ..
  · exact (Dev.endSegs_only ..).trans (Dev.endSegs_only ..)

theorem Dev.checkTick_only (d : Dev) (n : Nat) (r : RxTick) : Dev.Only (fun f _ => f ∈ rxEndFields) d (d.checkTick n r) := by
  unfold Dev.checkTick Dev.addSat
  split
  · exact Dev.Only.each (((Dev.Only.refl _ d).set _ (by decide)).set _ (by decide)) fun g _ e => (Dev.Only.refl _ e).set _ (by decide)
  · exact .refl _ d

theorem Dev.rxEnd_only (n : Nat) (r : RxTick) (d : Dev) : Dev.Only (fun f _ => f ∈ rxEndFields) d (d.rxEnd n r) := by
  unfold Dev.rxEnd
  extract_lets d1 d2 d3
  refine Dev.Only.setAll _ ?_ (by decide)
  unfold d3
  split
  · exact Dev.Only.each (((((Dev.countSegs_only ..).trans (Dev.checkTick_only ..)).set _ (by decide)).set _ (by decide)).set _
      (by decide)) fun g _ e => (Dev.Only.refl _ e).set _ (by decide)
  · exact .refl _ d

theorem Dev.heartbeats_only (d : Dev) (m : Nat) : Dev.Only (fun f _ => f = .X_CLERK_SILENT) d (d.heartbeats m) := by
  unfold Dev.heartbeats Dev.addSat
  refine Dev.Only.each (.refl _ d) fun c _ e => ?_
  split
  · exact .refl _ e
  · split
    · exact (Dev.Only.refl _ e).set _ rfl
    · exact (Dev.Only.refl _ e).set _ rfl

theorem Dev.ringTick_only (d : Dev) :
    Dev.Only (fun f _ => f = .TIME_RING_STATUS_MISSED ∨ f = .X_RING_SEEN) d d.ringTick := by
  unfold Dev.ringTick Dev.addSat
  split
  · refine Dev.Only.set _ ?_ (.inr rfl)
    split
    · exact (Dev.Only.refl _ d).set _ (.inl rfl)
    · exact .refl _ d
  · exact .refl _ d

/-- A loop whose rounds leave the device alone leaves it alone. -/
theorem Dev.each_fixed {n : Nat} {g : Nat → Dev → Dev} {d : Dev} (h : ∀ i, g i d = d) : Dev.each n g d = d :=
  List.foldl_fixed' h _

/-- With no rollback in progress a tick begins with no change of a domain. -/
theorem Dev.powerBegin_eq {d : Dev} (h : ∀ k, d.dom k ≠ pwROLLBACK) : d.powerBegin = d.set .X_PWR_REF_TICK 0 0 := by
  have hset : ∀ k, (d.set .X_PWR_REF_TICK 0 0).dom k ≠ pwROLLBACK := fun k => by
    rw [Dev.dom, Dev.get_set_field _ _ _ _ (by decide)]
    exact h k
  exact Dev.each_fixed fun k => if_neg (hset k)

theorem Dev.tickOpen_waits {d : Dev} (i : TickIn) (h : ∀ k, d.dom k ≠ pwROLLBACK) : Dev.PlanWaits d (d.tickOpen i) := by
  unfold Dev.tickOpen
  rw [Dev.powerBegin_eq h]
  have h1 : Dev.PlanWaits d (d.set .X_PWR_REF_TICK 0 0) :=
    .of_only (p := fun f => f = .X_PWR_REF_TICK) ((Dev.Only.refl _ d).set _ rfl) (by decide)
  have h2 := h1.trans (.of_only (Dev.heartbeats_only _ i.silent.toNat) (by decide))
  have h3 := h2.trans (.of_only (Dev.ringTick_only _) (by decide))
  exact h3.trans (.of_only (Dev.Only.each (.refl _ _) fun n _ e => Dev.rxEnd_only n (i.rx.getD n RxTick.quiet) e) (by decide))

theorem Dev.overrun_waits (d : Dev) (late : Nat) : Dev.PlanWaits d (d.overrun late) := by
  refine ⟨fun f hf => ?_, ?_, ?_⟩
  · simp only [planDueFields, List.mem_cons, List.not_mem_nil, or_false] at hf
    rcases Nat.eq_zero_or_pos late with rfl | h
    · rw [Dev.overrun_zero]
      rcases hf with rfl | rfl | rfl | rfl <;> exact Dev.get_set_field _ _ _ _ (by decide)
    · rw [Dev.overrun_of_ne h.ne']
      rcases hf with rfl | rfl | rfl | rfl <;> rw [raise_get _ _ _ _ (by decide)] <;> simp [Dev.orBits, Dev.addSat]
  · unfold Dev.overrun
    split
    · exact le_refl _
    · rw [raise_clk, Dev.addSat, Dev.set_clk, Dev.orBits, Dev.set_clk, Dev.set_clk]
  · unfold Dev.overrun
    split
    · exact (Dev.MayWake.refl d).set _ _
    · exact ((((Dev.MayWake.refl d).set (f := .TIME_OVR_EVENTS_CARRY) 0 _).set (f := .TIME_OVR_EVENTS_EVENT) 0 _).set
        (f := .TIME_OVR_COUNT_COUNT) 0 _).trans (raise_mayWake _ 4)

/-! ## Acceptance -/

/-- What the acceptance of a plan shows. -/
def Dev.Accepted (d : Dev) : Prop :=
  d.ps = psLIVE ∧ d.get .X_PLAN_ON 0 = 1 ∧ d.get .X_PLAN_ACT 0 = 0 ∧ d.get .PLAN_ACCEPT_TIME_TIME 0 = d.now ∧ 960 ∈ d.pending ∧
    d.get .SYS_BOOT_STATUS_STAGE 0 = 3 ∧ d.get .SYS_BOOT_STATUS_DEV_READY 0 = 1

theorem Dev.Accepted.of_only {p : F → Nat → Prop} {d e : Dev} (h : Dev.Only p d e)
    (hp : ∀ f ∈ [F.PLAN_STATUS_STATE, .X_PLAN_ON, .X_PLAN_ACT, .PLAN_ACCEPT_TIME_TIME, .TIME_NOW_NOW, .SYS_BOOT_STATUS_STAGE,
      .SYS_BOOT_STATUS_DEV_READY], ¬ p f 0) (ha : d.Accepted) : e.Accepted := by
  have hget : ∀ f ∈ [F.PLAN_STATUS_STATE, .X_PLAN_ON, .X_PLAN_ACT, .PLAN_ACCEPT_TIME_TIME, .TIME_NOW_NOW, .SYS_BOOT_STATUS_STAGE,
      .SYS_BOOT_STATUS_DEV_READY], e.get f 0 = d.get f 0 := fun f hf => h.2 f 0 (hp f hf)
  have hpend : e.pending = d.pending := by rw [h.1]
  unfold Dev.Accepted Dev.ps Dev.now at *
  rw [hget _ (by decide), hget .X_PLAN_ON (by decide), hget .X_PLAN_ACT (by decide), hget .PLAN_ACCEPT_TIME_TIME (by decide),
    hget .TIME_NOW_NOW (by decide), hget .SYS_BOOT_STATUS_STAGE (by decide), hget .SYS_BOOT_STATUS_DEV_READY (by decide), hpend]
  exact ha

theorem Dev.acceptPlan_accepted (d : Dev) (ss : List PlanSec) (id crc src slot : Nat) (fallback : Bool) :
    (d.acceptPlan ss id crc src slot fallback).Accepted := by
  unfold Dev.acceptPlan
  extract_lets d1 d2 d3 d4 d5 d6
  have h1 : d2.get .X_PLAN_ON 0 = 1 := Dev.setAll_get_of_mem _ 0 1 (by decide)
  clear_value d2
  refine ⟨?_, ?_, ?_, ?_, ?_, ?_, ?_⟩
  · rw [Dev.ps, raise_get _ _ _ _ (by decide), Dev.setAll_get_field _ _ _ _ (by decide), Dev.get_set_field _ _ _ _ (by decide),
      Dev.setAll_get_field _ _ _ _ (by decide), Dev.get_set_field _ _ _ _ (by decide), Dev.get_set_same]
    rfl
  · rw [raise_get _ _ _ _ (by decide), Dev.setAll_get_field _ _ _ _ (by decide), Dev.get_set_field _ _ _ _ (by decide),
      Dev.setAll_get_field _ _ _ _ (by decide), Dev.get_set_field _ _ _ _ (by decide), Dev.get_set_field _ _ _ _ (by decide),
      Dev.get_set_field _ _ _ _ (by decide), Dev.get_set_field _ _ _ _ (by decide), Dev.setAll_get_field _ _ _ _ (by decide),
      Dev.setAll_get_field _ _ _ _ (by decide), Dev.setAll_get_field _ _ _ _ (by decide), h1]
  · rw [raise_get _ _ _ _ (by decide), Dev.setAll_get_field _ _ _ _ (by decide), Dev.get_set_field _ _ _ _ (by decide),
      Dev.setAll_get_of_mem _ _ _ (by decide)]
  · rw [Dev.now, raise_get _ _ _ _ (by decide), raise_get _ _ _ _ (by decide), Dev.setAll_get_field _ _ _ _ (by decide),
      Dev.setAll_get_field _ _ _ _ (by decide), Dev.get_set_field _ _ _ _ (by decide), Dev.get_set_field _ _ _ _ (by decide),
      Dev.setAll_get_field _ _ _ _ (by decide), Dev.setAll_get_field _ _ _ _ (by decide), Dev.get_set_same,
      Dev.get_set_field _ _ _ _ (by decide), Dev.get_set_field _ _ _ _ (by decide), Dev.now]
  · rw [(raise_raised _ (by decide)).1]
    exact (mem_insertNat ..).mpr (.inl rfl)
  · rw [raise_get _ _ _ _ (by decide), Dev.setAll_get_field _ _ _ _ (by decide), Dev.get_set_same]
  · rw [raise_get _ _ _ _ (by decide), Dev.setAll_get_of_mem _ _ _ (by decide)]

theorem Dev.planTake_accepted (d : Dev) : d.planTake.Accepted := by
  unfold Dev.planTake
  split
  · exact Dev.acceptPlan_accepted ..
  · exact Dev.acceptPlan_accepted ..
  · exact Dev.acceptPlan_accepted ..

theorem Dev.countLost_only (d0 d1 d : Dev) : Dev.Only (fun f _ => f ∈ [F.LRX_EVENTS_DROPPED, .LRX_EVENTS_DROP_COUNT,
    .LTX_EVENTS_DROPPED, .LTX_EVENTS_DROP_COUNT]) d (Dev.countLost d0 d1 d) := by
  unfold Dev.countLost Dev.forList
  refine Dev.Only.foldl _ _ (fun e k _ => ?_) d
  dsimp only
  split
  · exact ((Dev.Only.refl _ e).set _ (by decide)).set _ (by decide)
  · exact ((Dev.Only.refl _ e).set _ (by decide)).set _ (by decide)
  · exact .refl _ e

theorem Dev.acceptOver_accepted (d0 d : Dev) : (d0.acceptOver d).Accepted :=
  .of_only (Dev.countLost_only ..) (by decide) (Dev.planTake_accepted _)

/-- Without an overrun of category 0 a plan that is due is accepted after the postings. -/
theorem Dev.tickPosts_of_due {i : TickIn} {d : Dev} (h0 : i.over 0 0 = false) (h1 : i.overNew 0 0 = false) (h : d.planDue = true) :
    d.tickPosts i = Dev.each 8 Dev.engineTick ((d.acceptOver (d.postTick true)).setAll [.X_POST_CARRY, .X_PLAN_CARRY] 0 0) := by
  unfold Dev.tickPosts
  simp only [h0, h1, h, if_true, Bool.false_eq_true, if_false]

/-- Settles O12: the plan stays due through the start of the tick, so category 0 accepts it. -/
theorem planAcceptedAtTick : Obligations.PlanAcceptedAtTick := by
  intro i s haux hoff hps hclk h0 h1 hroll P
  have hon : s.found.on .X_SYS_AUX 0 = true := (Dev.on_iff ..).mpr haux
  have hdue : ∀ {e : Dev}, Dev.PlanWaits s.found e → (s.dev.get .X_PLAN_ACT 0 = 14 → s.dev.memState ≠ meTRAINING ∧
      ∀ m < 4, s.dev.dom (domMem m) = pwON) → e.planDue = true := fun h hmem => Dev.planDue_of_waits h hps hclk hmem
  have hrun : Dev.PlanWaits s.found s.found.runToTick :=
    .of_get (Dev.runToTick_clk_le _) fun f hf j => Dev.runToTick_get _ j (by
      simp only [planDueFields, List.mem_cons, List.not_mem_nil, or_false] at hf
      rcases hf with rfl | rfl | rfl | rfl | rfl <;> decide)
  have hstart := Dev.tickStart_waits s.found
  have hroll' : ∀ k, s.found.runToTick.tickStart.dom k ≠ pwROLLBACK := fun k => by
    rcases hstart.2.2 k with h | ⟨-, h⟩
    · rw [h]
      exact hroll k
    · rw [h]
      decide
  have hopen := hstart.trans (Dev.tickOpen_waits i hroll')
  have hover := hopen.trans (Dev.overrun_waits _ (Dev.tickLate i (s.found.runToTick.tickStart.tickOpen i)))
  have hoff' : s.found.runToTick.tickStart.on .X_SYS_OFF 0 = false := by
    rw [← Bool.not_eq_true, Dev.on_iff, Dev.tickStart_off, Dev.runToTick_get _ _ (by decide)]
    exact hoff
  have htick : s.found.tick i = Dev.tickRest i
      (Dev.overrun (s.found.runToTick.tickStart.tickOpen i) (Dev.tickLate i (s.found.runToTick.tickStart.tickOpen i)))
      (Dev.tickPosts i
        (Dev.overrun (s.found.runToTick.tickStart.tickOpen i) (Dev.tickLate i (s.found.runToTick.tickStart.tickOpen i)))) := by
    unfold Dev.tick Dev.tickServe
    rw [if_neg (by rw [hoff']; decide)]
  have hmeets : (s.dev.get .X_PLAN_ACT 0 = 14 → s.dev.memState ≠ meTRAINING ∧ ∀ m < 4, s.dev.dom (domMem m) = pwON) →
      ∀ e, e = s.found.tick i → P e := fun hmem e he => by
    refine ⟨_, rfl, _, rfl, _, rfl, ?_⟩
    obtain ⟨g1, g2, g3, g4, g5, g6, g7⟩ := Dev.acceptOver_accepted
      (Dev.overrun (s.found.runToTick.tickStart.tickOpen i) (Dev.tickLate i (s.found.runToTick.tickStart.tickOpen i)))
      (Dev.postTick true (Dev.overrun (s.found.runToTick.tickStart.tickOpen i)
        (Dev.tickLate i (s.found.runToTick.tickStart.tickOpen i))))
    exact ⟨g1, g2, g3, g4, g5, g6, g7, he.trans htick, Dev.tickPosts_of_due h0 h1 (hdue hover hmem)⟩
  refine ⟨fun hact => ?_, fun hact htrain hdom => ?_⟩
  · have hmem : s.dev.get .X_PLAN_ACT 0 = 14 → s.dev.memState ≠ meTRAINING ∧ ∀ m < 4, s.dev.dom (domMem m) = pwON :=
      fun h => absurd h hact
    refine .runIf (rfl : _ = execPlanAccept i s) ?_ (hmeets hmem)
    rw [hon, Dev.nextTick, hdue hrun hmem, State.found_get]
    simp [hact]
  · have hmem : s.dev.get .X_PLAN_ACT 0 = 14 → s.dev.memState ≠ meTRAINING ∧ ∀ m < 4, s.dev.dom (domMem m) = pwON :=
      fun _ => ⟨htrain, hdom⟩
    refine .runIf (rfl : _ = execRestoredPlanAccept i s) ?_ (hmeets hmem)
    rw [hon, Dev.nextTick, hdue hrun hmem, State.found_get]
    simp [hact]

end Sys2Proof.Machine
end

section
/-! PROOFS. The BAR0 stream (R13, R17 to R20, R71, R476, R479, R480) and the SMBus target (R567). -/

-- One theorem at a time: the whole text is compiled under a memory limit, which the stacks of waiting threads would fill.
set_option Elab.async false

namespace Sys2Proof.Machine

open Sys2Proof

/-! ## The fields of a register -/

/-- The fields of register `r` lie in different places, and each is written as it stands. -/
def Reg.PlainFields (r : Reg) : Prop :=
  r.row.fields.Pairwise (fun x y => x.f ≠ y.f ∨ (x.per = y.per ∧ x.idx ≠ y.idx)) ∧
    ∀ x ∈ r.row.fields, x.f ≠ .POOL_SCORE_THR_HIGH

theorem Reg.plainFields_of_wide {r : Reg} (h : r.row.wide = true) : r.PlainFields := by
  have hall : ∀ r : Reg, r.row.wide = true → (r.row.fields.Pairwise (fun x y => x.f ≠ y.f ∨ (x.per = y.per ∧ x.idx ≠ y.idx)) ∧
      ∀ x ∈ r.row.fields, x.f ≠ .POOL_SCORE_THR_HIGH) := by
    intro r
    cases r <;> decide
  exact hall r h

theorem Reg.plainFields_of_mem {r : Reg} (h : r ∈ plainRegs) : r.PlainFields := by
  have hall : ∀ r ∈ plainRegs, (r.row.fields.Pairwise (fun x y => x.f ≠ y.f ∨ (x.per = y.per ∧ x.idx ≠ y.idx)) ∧
      ∀ x ∈ r.row.fields, x.f ≠ .POOL_SCORE_THR_HIGH) := by decide
  exact hall r h

theorem fieldKey_ne {r : Reg} {x y : Fld} (i j : Nat) (h : x.f ≠ y.f ∨ (x.per = y.per ∧ x.idx ≠ y.idx)) :
    fieldKey r x i j ≠ fieldKey r y i j := by
  intro hk
  injection hk with hf hi
  rcases h with h | ⟨hper, hidx⟩
  · exact h hf
  · rw [hper] at hi
    exact hidx (Nat.add_left_cancel hi)

/-- A loop over fields in different places gives each what its own round makes of it. -/
theorem fieldLoop_get {r : Reg} {i j : Nat} {g : Fld → Dev → Dev} {val : Fld → Nat → Nat} {l : List Fld}
    (hapart : l.Pairwise (fun x y => x.f ≠ y.f ∨ (x.per = y.per ∧ x.idx ≠ y.idx)))
    (hsame : ∀ x ∈ l, ∀ e : Dev, Store.get (g x e).reg (fieldKey r x i j) = val x (Store.get e.reg (fieldKey r x i j)))
    (hother : ∀ x ∈ l, ∀ (e : Dev) k, k ≠ fieldKey r x i j → Store.get (g x e).reg k = Store.get e.reg k) (d : Dev) :
    ∀ x ∈ l, Store.get (Dev.forList l g d).reg (fieldKey r x i j) = val x (Store.get d.reg (fieldKey r x i j)) := by
  induction l generalizing d with
  | nil => exact fun x hx => absurd hx List.not_mem_nil
  | cons y l ih =>
    obtain ⟨hy, hl⟩ := List.pairwise_cons.mp hapart
    have hrest := ih hl (fun x hx => hsame x (.tail _ hx)) (fun x hx => hother x (.tail _ hx)) (g y d)
    intro x hx
    rcases List.mem_cons.mp hx with rfl | hx
    · refine (Dev.forList_keeps (fun e => Store.get e.reg (fieldKey r x i j)) (g := g) (fun z hz e => ?_) (g x d)).trans
        (hsame x (.head _) d)
      exact hother z (.tail _ hz) e _ (fieldKey_ne i j (hy z hz))
    · exact (hrest x hx).trans (congrArg (val x) (hother y (.head _) d _ (fieldKey_ne i j (hy x hx)).symm))

/-- One field of a written word. -/
def Dev.writeField (r : Reg) (i j v : Nat) (x : Fld) (d : Dev) : Dev :=
  let k := fieldKey r x i j
  let n := if k.reserved then 0 else v / 2 ^ x.lsb % 2 ^ k.f.width
  match k.f.acc with
  | .rw | .rwk | .rws => d.set k.f k.i n
  | .w1c => d.set k.f k.i (d.get k.f k.i - (d.get k.f k.i &&& n))
  | _ => d

theorem Dev.writeFields_eq (r : Reg) (i j v : Nat) (d : Dev) :
    d.writeFields r i j v = Dev.forList r.row.fields (Dev.writeField r i j v) d := rfl

theorem Dev.writeField_only {p : F → Nat → Prop} {r : Reg} {i j : Nat} (v : Nat) {x : Fld} (d : Dev)
    (h : p (fieldKey r x i j).f (fieldKey r x i j).i) : Dev.Only p d (d.writeField r i j v x) := by
  unfold Dev.writeField
  extract_lets k n
  split
  · exact (Dev.Only.refl p d).set _ h
  · exact (Dev.Only.refl p d).set _ h
  · exact (Dev.Only.refl p d).set _ h
  · exact (Dev.Only.refl p d).set _ h
  · exact .refl p d

theorem Dev.writeField_same {r : Reg} (i j v : Nat) {x : Fld} (hx : x.f ≠ .POOL_SCORE_THR_HIGH) (d : Dev) :
    Store.get (d.writeField r i j v x).reg (fieldKey r x i j) =
      x.f.acc.after (Store.get d.reg (fieldKey r x i j)) (v / 2 ^ x.lsb % 2 ^ x.f.width) 0 := by
  have hres : ¬ (fieldKey r x i j).reserved = true := by simp [Key.reserved, fieldKey, hx]
  have hacc : (fieldKey r x i j).f.acc = x.f.acc := rfl
  unfold Dev.writeField
  dsimp only
  rw [if_neg hres, hacc]
  cases x.f.acc with
  | rw => exact Store.get_set_same _ _ _
  | rwk => exact Store.get_set_same _ _ _
  | rws => exact Store.get_set_same _ _ _
  | w1c => exact (Store.get_set_same _ _ _).trans (Nat.or_zero _).symm
  | ro => rfl
  | wo => rfl
  | internal => rfl

theorem Dev.writeField_other {r : Reg} {i j : Nat} (v : Nat) {x : Fld} (d : Dev) {k : Key} (h : k ≠ fieldKey r x i j) :
    Store.get (d.writeField r i j v x).reg k = Store.get d.reg k :=
  (Dev.writeField_only (p := fun f m => (⟨f, m⟩ : Key) = fieldKey r x i j) v d rfl).2 k.f k.i h

/-- One field's event bits that the hardware sets. -/
def Dev.hwField (r : Reg) (i j hw : Nat) (x : Fld) (d : Dev) : Dev :=
  let k := fieldKey r x i j
  if k.f.acc = .w1c then d.orBits k.f k.i (hw / 2 ^ x.lsb % 2 ^ k.f.width) else d

theorem Dev.hwField_only {p : F → Nat → Prop} {r : Reg} {i j : Nat} (hw : Nat) {x : Fld} (d : Dev)
    (h : p (fieldKey r x i j).f (fieldKey r x i j).i) : Dev.Only p d (d.hwField r i j hw x) := by
  unfold Dev.hwField Dev.orBits
  extract_lets k
  split
  · exact (Dev.Only.refl p d).set _ h
  · exact .refl p d

theorem Dev.hwField_same {r : Reg} (i j hw : Nat) {x : Fld} (d : Dev) :
    Store.get (d.hwField r i j hw x).reg (fieldKey r x i j) =
      if x.f.acc = .w1c then Store.get d.reg (fieldKey r x i j) ||| (hw / 2 ^ x.lsb % 2 ^ x.f.width)
      else Store.get d.reg (fieldKey r x i j) := by
  have hf : (fieldKey r x i j).f = x.f := rfl
  unfold Dev.hwField Dev.orBits
  dsimp only
  rw [hf]
  split
  · exact Store.get_set_same _ _ _
  · rfl

theorem Dev.hwField_other {r : Reg} {i j : Nat} (hw : Nat) {x : Fld} (d : Dev) {k : Key} (h : k ≠ fieldKey r x i j) :
    Store.get (d.hwField r i j hw x).reg k = Store.get d.reg k :=
  (Dev.hwField_only (p := fun f m => (⟨f, m⟩ : Key) = fieldKey r x i j) hw d rfl).2 k.f k.i h

theorem Acc.after_hw (acc : Acc) (old n hw : Nat) :
    (if acc = .w1c then acc.after old n 0 ||| hw else acc.after old n 0) = acc.after old n hw := by
  cases acc <;> simp [Acc.after]

/-- R13: a write of a word and the event bits that the hardware sets in the same cycle. -/
theorem Dev.writeFields_hw {r : Reg} (hr : r.PlainFields) (i j v hw : Nat) (d : Dev) :
    Dev.FieldsWritten r i j v hw d (Dev.forList r.row.fields (Dev.hwField r i j hw) (d.writeFields r i j v)) := by
  obtain ⟨hapart, hplain⟩ := hr
  refine ⟨fun x hx => ?_, ?_⟩
  · have h1 := fieldLoop_get hapart (g := Dev.writeField r i j v)
      (val := fun x old => x.f.acc.after old (v / 2 ^ x.lsb % 2 ^ x.f.width) 0)
      (fun x hx e => Dev.writeField_same i j v (hplain x hx) e) (fun x _ e k hk => Dev.writeField_other v e hk) d x hx
    have h2 := fieldLoop_get hapart (g := Dev.hwField r i j hw)
      (val := fun x old => if x.f.acc = .w1c then old ||| (hw / 2 ^ x.lsb % 2 ^ x.f.width) else old)
      (fun x _ e => Dev.hwField_same i j hw e) (fun x _ e k hk => Dev.hwField_other hw e hk) (d.writeFields r i j v) x hx
    rw [h2, Dev.writeFields_eq, h1]
    exact Acc.after_hw ..
  · exact Dev.Only.trans (Dev.Only.foldl _ _ (fun e x hx => Dev.writeField_only v e ⟨x, hx, rfl⟩) d)
      (Dev.Only.foldl _ _ (fun e x hx => Dev.hwField_only hw e ⟨x, hx, rfl⟩) _)

theorem Dev.writeFields_written {r : Reg} (hr : r.PlainFields) (i j v : Nat) (d : Dev) :
    Dev.FieldsWritten r i j v 0 d (d.writeFields r i j v) := by
  obtain ⟨hapart, hplain⟩ := hr
  refine ⟨fun x hx => ?_, Dev.Only.foldl _ _ (fun e x hx => Dev.writeField_only v e ⟨x, hx, rfl⟩) d⟩
  rw [Nat.zero_div, Nat.zero_mod]
  exact fieldLoop_get hapart (g := Dev.writeField r i j v)
    (val := fun x old => x.f.acc.after old (v / 2 ^ x.lsb % 2 ^ x.f.width) 0)
    (fun x hx e => Dev.writeField_same i j v (hplain x hx) e) (fun x _ e k hk => Dev.writeField_other v e hk) d x hx

theorem Dev.writeFields_out (r : Reg) (i j v : Nat) (d : Dev) : (d.writeFields r i j v).out = d.out :=
  Dev.forList_keeps Dev.out (g := Dev.writeField r i j v) (fun x _ e => by
    unfold Dev.writeField
    dsimp only
    split <;> rfl) d

/-! ## What a register shows -/

/-- A read brings fields up to date, not that of the SMBus address, and sends nothing. -/
def Dev.Shows (d e : Dev) : Prop := Dev.Only (fun f _ => f ≠ .X_SMB_ADDR) d e ∧ e.out = d.out

theorem Dev.Shows.refl (d : Dev) : Dev.Shows d d := ⟨.refl _ d, rfl⟩

theorem Dev.Shows.set {d e : Dev} {f : F} {i : Nat} (v : Nat) (hf : f ≠ .X_SMB_ADDR) (h : Dev.Shows d e) :
    Dev.Shows d (e.set f i v) := ⟨h.1.set v hf, h.2⟩

theorem Dev.view_shows (r : Reg) (i j : Nat) (d : Dev) : Dev.Shows d (d.view r i j) := by
  unfold Dev.view
  dsimp only
  split
  case h_22 =>
    split
    all_goals iterate 4 refine Dev.Shows.set _ (by decide) ?_
    all_goals exact .refl d
  all_goals
    repeat refine Dev.Shows.set _ (by decide) ?_
    exact .refl d

/-! ## The BAR0 stream -/

/-- What a command has sent out before does not matter to an access. -/
theorem State.found_serves {s : State} {who : Requester} {x : Access} (h : s.dev.Serves who x) : s.found.Serves who x := by
  obtain ⟨haux, hup, hrest⟩ := h
  refine ⟨haux, ?_, hrest⟩
  revert hup
  unfold Dev.notUp
  have hpcie : s.found.pcieUp = s.dev.pcieUp := rfl
  cases who <;> simp +contextual [hpcie]

/-- An access that is served as it arrives. -/
theorem Dev.bar0_of_serves {d : Dev} {who : Requester} {x : Access} (reqId : Nat) (h : d.Serves who x) :
    d.bar0 who reqId x = d.serve who reqId d.now x := by
  obtain ⟨haux, hup, hheld, hsize, hmap, hgate⟩ := h
  have hon : d.on .X_SYS_AUX 0 = true := (Dev.on_iff ..).mpr haux
  have hfree : (d.held.any fun h => !h.isBar2) = false := by simpa using hheld
  have htry : d.bar0Try who reqId d.now x = (d.serve who reqId d.now x, false) := by
    unfold Dev.bar0Try
    extract_lets a bad
    rw [hsize, if_neg (by decide), hmap, if_neg (by simp)]
    split
    · rfl
    · next k hk => rw [if_pos (hgate k hk)]
  unfold Dev.bar0
  rw [hon, if_neg (by decide), hup]
  dsimp only
  rw [hfree, if_neg (by decide), htry]
  rfl

theorem RegisterAt.not_inBytes {a : Nat} {r : Reg} {i j : Nat} {high : Bool} (h : RegisterAt a r i j high) :
    inPlanBuf a = false ∧ inMessages a = false := by
  have := h.1
  simpa [inBytes] using this

theorem Dev.readWord_register {d : Dev} {who : Requester} {a : Nat} {r : Reg} {i j : Nat} {high : Bool}
    (h : RegisterAt a r i j high) (hr : r ≠ .PH_T_CLAIM) : d.readWord who a =
      if !r.row.wide then (d.view r i j, (d.view r i j).regValue r i j)
      else if high then (d.view r i j, Store.get (d.view r i j).rshad (wideKey r i j))
      else ((d.view r i j).shadowHigh (wideKey r i j) ((d.view r i j).regValue r i j),
        (d.view r i j).regValue r i j % 2 ^ 32) := by
  obtain ⟨hbuf, hmsg⟩ := h.not_inBytes
  obtain ⟨-, hnvm, hpba, hreg⟩ := h
  unfold Dev.readWord
  rw [hbuf, hmsg, hnvm, hpba, hreg]
  simp only [Bool.false_eq_true, if_false, hr]

theorem Dev.writeWord_register {d : Dev} {who : Requester} {a v : Nat} {r : Reg} {i j : Nat} {high : Bool}
    (h : RegisterAt a r i j high) (hign : d.writeIgnored r i = false) : d.writeWord who a v =
      if !r.row.wide then Dev.writeReg who r i j v d
      else if !r.wideWritable then d
      else if high then Dev.writeWide r i j (Store.get d.wshad (wideKey r i j) + 2 ^ 32 * v) d
      else { d with wshad := Store.set d.wshad (wideKey r i j) v } := by
  obtain ⟨-, -, -, hreg⟩ := h
  unfold Dev.writeWord
  rw [hreg]
  simp only [hign, Bool.false_eq_true, if_false]

theorem Dev.serve_read4 {d : Dev} {who : Requester} {reqId time : Nat} {a : BitVec 27} (h : inBytes a.toNat = false) :
    d.serve who reqId time (.read4 a) = (d.readWord who a.toNat).1.reply (d.readWord who a.toNat).2 := by
  unfold Dev.serve
  have h' : ¬ inBytes (accAddr (.read4 a)) = true := by rw [Bool.not_eq_true]; exact h
  rw [if_neg h']
  rfl

theorem Dev.serve_write4 {d : Dev} {who : Requester} {reqId time : Nat} {a : BitVec 27} {v : Word} (h : inBytes a.toNat = false) :
    d.serve who reqId time (.write4 a v) = d.writeWord who a.toNat v.toNat := by
  unfold Dev.serve
  have h' : ¬ inBytes (accAddr (.write4 a v)) = true := by rw [Bool.not_eq_true]; exact h
  rw [if_neg h']
  rfl

theorem RegisterAt.wideAt {a : Nat} {r : Reg} {i j : Nat} (h : RegisterAt a r i j false) (hw : r.row.wide = true) :
    wideAt a = some (r, i, j) := by
  obtain ⟨-, -, -, hreg⟩ := h
  unfold Machine.wideAt
  rw [hreg]
  exact if_pos hw

theorem RegisterAt.isHigh {a : Nat} {r : Reg} {i j : Nat} (h : RegisterAt a r i j true) : isHigh a = true := by
  obtain ⟨-, -, -, hreg⟩ := h
  unfold Machine.isHigh
  rw [hreg]

theorem Dev.serve_read8 {d : Dev} {who : Requester} {reqId time : Nat} {a : BitVec 27} {r : Reg} {i j : Nat}
    (h : RegisterAt a.toNat r i j false) (hw : r.row.wide = true) : d.serve who reqId time (.read8 a) = d.readWide r i j := by
  unfold Dev.serve
  have h' : ¬ inBytes (accAddr (.read8 a)) = true := by rw [Bool.not_eq_true]; exact h.1
  rw [if_neg h']
  dsimp only
  rw [show accAddr (.read8 a) = a.toNat from rfl, h.wideAt hw]

theorem Dev.serve_write8 {d : Dev} {who : Requester} {reqId time : Nat} {a : BitVec 27} {v : DWord} {r : Reg} {i j : Nat}
    (h : RegisterAt a.toNat r i j false) (hw : r.row.wide = true) :
    d.serve who reqId time (.write8 a v) = d.writeBoth r i j v.toNat := by
  unfold Dev.serve
  have h' : ¬ inBytes (accAddr (.write8 a v)) = true := by rw [Bool.not_eq_true]; exact h.1
  rw [if_neg h']
  dsimp only
  rw [show accAddr (.write8 a v) = a.toNat from rfl, h.wideAt hw]

theorem Reg.ne_claim_of_wide {r : Reg} (h : r.row.wide = true) : r ≠ .PH_T_CLAIM := by
  rintro rfl
  exact absurd h (by decide)

theorem Dev.writeWide_plain {r : Reg} (h1 : r ≠ .DMA_Q_RING) (h2 : r ≠ .DMA_Q_CPL) (i j v : Nat) (d : Dev) :
    Dev.writeWide r i j v d = d.writeFields r i j v := by
  unfold Dev.writeWide
  split
  · exact absurd rfl h1
  · exact absurd rfl h2
  · rfl

/-- Settles O13: each access of a 64-bit register, by word. -/
theorem wideRegisterReads : Obligations.WideRegisterReads := by
  refine ⟨fun s who reqId a r i j hw => ⟨fun hat hs => ?_, fun hat hs => ?_, fun hat hs => ?_⟩,
    fun s who reqId a v w r i j hw hign hring hcpl => ⟨fun hat hs hwr => ?_, fun hat hs hwr => ?_, fun hat hs hwr => ?_,
      fun hat hs hwr => ?_⟩⟩
  · refine .runIf (rfl : _ = execLowWordRead who reqId a s) (by rw [hat.wideAt hw]; rfl) fun e he => ?_
    rw [Dev.bar0_of_serves _ (State.found_serves hs), Dev.serve_read4 hat.1, Dev.readWord_register hat (Reg.ne_claim_of_wide hw), hw] at he
    subst he
    refine ⟨?_, Store.get_set_same _ _ _⟩
    show (s.found.view r i j).out ++ _ = _
    rw [(s.found.view_shows r i j).2]
    rfl
  · refine .runIf (rfl : _ = execHighWordRead who reqId a s) hat.isHigh fun e he => ?_
    rw [Dev.bar0_of_serves _ (State.found_serves hs), Dev.serve_read4 hat.1, Dev.readWord_register hat (Reg.ne_claim_of_wide hw), hw] at he
    have hshad : (s.found.view r i j).rshad = s.dev.rshad := by
      rw [(s.found.view_shows r i j).1.1]
      rfl
    subst he
    refine ⟨?_, hshad⟩
    show (s.found.view r i j).out ++ [.readData (Store.get (s.found.view r i j).rshad _)] = _
    rw [(s.found.view_shows r i j).2, hshad]
    rfl
  · refine .runIf (rfl : _ = execWideRead reqId a s) (by rw [hat.wideAt hw]; rfl) fun e he => ?_
    rw [Dev.bar0_of_serves _ (State.found_serves hs), Dev.serve_read8 hat hw] at he
    subst he
    refine ⟨?_, Store.get_set_same _ _ _⟩
    show (s.found.view r i j).out ++ _ = _
    rw [(s.found.view_shows r i j).2]
    rfl
  · refine .runIf (rfl : _ = execLowWordWrite who reqId a v s) (by rw [hat.wideAt hw]; rfl) fun e he => ?_
    rw [Dev.bar0_of_serves _ (State.found_serves hs), Dev.serve_write4 hat.1, Dev.writeWord_register (d := s.found) hat hign, hw, hwr] at he
    exact he
  · refine .runIf (rfl : _ = execHighWordWrite who reqId a v s) hat.isHigh fun e he => ?_
    rw [Dev.bar0_of_serves _ (State.found_serves hs), Dev.serve_write4 hat.1, Dev.writeWord_register (d := s.found) hat hign, hw, hwr] at he
    subst he
    obtain ⟨h1, h2⟩ := Dev.writeFields_written (Reg.plainFields_of_wide hw) i j
      (Store.get s.dev.wshad (wideKey r i j) + 2 ^ 32 * v.toNat) s.found
    rw [← Dev.writeWide_plain hring hcpl] at h1 h2
    exact ⟨h1, h2.ofFound⟩
  · refine .runIf (rfl : _ = execWideWrite reqId a w s) (by rw [hat.wideAt hw]; rfl) fun e he => ?_
    rw [Dev.bar0_of_serves _ (State.found_serves hs), Dev.serve_write8 hat hw] at he
    unfold Dev.writeBoth at he
    rw [hwr, Dev.writeWide_plain hring hcpl] at he
    obtain ⟨h1, h2⟩ := Dev.writeFields_written (Reg.plainFields_of_wide hw) i j w.toNat
      { s.found with wshad := Store.set s.dev.wshad (wideKey r i j) (w.toNat % 2 ^ 32) }
    have hshad : e.wshad = Store.set s.dev.wshad (wideKey r i j) (w.toNat % 2 ^ 32) := by
      rw [he]
      exact (congrArg Dev.wshad h2.1).trans rfl
    subst he
    refine ⟨?_, ?_⟩
    · rw [hshad]
      exact Store.get_set_same _ _ _
    · rw [hshad]
      exact ⟨h1, h2⟩
  · refine .runIf (rfl : _ = execLowWordWrite who reqId a v s) (by rw [hat.wideAt hw]; rfl) fun e he => ?_
    rw [Dev.bar0_of_serves _ (State.found_serves hs), Dev.serve_write4 hat.1, Dev.writeWord_register (d := s.found) hat hign, hw, hwr] at he
    exact he

end Sys2Proof.Machine
end

section
/-! PROOFS. Register accesses, violations and held requests of BAR0 (R13, R71, R478 to R480), and the SMBus target (R567). -/

-- One theorem at a time: the whole text is compiled under a memory limit, which the stacks of waiting threads would fill.
set_option Elab.async false

namespace Sys2Proof.Machine

open Sys2Proof

/-! ## Words (R13, R476) -/

theorem plainReg_writeReg {r : Reg} (h : r ∈ plainRegs) (who : Requester) (i j v : Nat) (d : Dev) :
    Dev.writeReg who r i j v d = d.writeFields r i j v := by
  simp only [plainRegs, List.mem_cons, List.not_mem_nil, or_false] at h
  rcases h with rfl | rfl | rfl | rfl | rfl | rfl | rfl | rfl | rfl | rfl | rfl | rfl | rfl | rfl <;> rfl

theorem plainReg_hwSet {r : Reg} (h : r ∈ plainRegs) (i j hw : Nat) (d : Dev) :
    Dev.hwSet r i j hw d = Dev.forList r.row.fields (Dev.hwField r i j hw) d := by
  simp only [plainRegs, List.mem_cons, List.not_mem_nil, or_false] at h
  rcases h with rfl | rfl | rfl | rfl | rfl | rfl | rfl | rfl | rfl | rfl | rfl | rfl | rfl | rfl <;> rfl

theorem plainReg_narrow {r : Reg} (h : r ∈ plainRegs) : r.row.wide = false := by
  revert r
  decide

/-- A read of a 32-bit register. -/
theorem Dev.bar0_read4 {s : State} {who : Requester} {a : BitVec 27} (reqId : Nat) {r : Reg} {i j : Nat}
    (hat : RegisterAt a.toNat r i j false) (hw : r.row.wide = false) (hr : r ≠ .PH_T_CLAIM) (hs : s.dev.Serves who (.read4 a)) :
    s.found.bar0 who reqId (.read4 a) = (s.found.view r i j).reply ((s.found.view r i j).regValue r i j) := by
  rw [Dev.bar0_of_serves _ (State.found_serves hs), Dev.serve_read4 hat.1, Dev.readWord_register hat hr, hw]
  rfl

theorem Dev.view_reply_out (s : State) (r : Reg) (i j v : Nat) : ((s.found.view r i j).reply v).out = [.readData v] := by
  show (s.found.view r i j).out ++ _ = _
  rw [(s.found.view_shows r i j).2]
  rfl

/-- A write of a 32-bit register without a rule of its own. -/
theorem Dev.bar0_write4 {s : State} {who : Requester} {a : BitVec 27} {v : Word} (reqId : Nat) {r : Reg} {i j : Nat}
    (hat : RegisterAt a.toNat r i j false) (hr : r ∈ plainRegs) (hign : s.dev.writeIgnored r i = false)
    (hs : s.dev.Serves who (.write4 a v)) :
    s.found.bar0 who reqId (.write4 a v) = s.found.writeFields r i j v.toNat := by
  rw [Dev.bar0_of_serves _ (State.found_serves hs), Dev.serve_write4 hat.1, Dev.writeWord_register (d := s.found) hat hign,
    plainReg_narrow hr, plainReg_writeReg hr]
  rfl

/-- The event bits that the hardware sets in the word at a register's address. -/
theorem Dev.hwEvents_register {a hw : Nat} {r : Reg} {i j : Nat} (hat : RegisterAt a r i j false) (hr : r ∈ plainRegs)
    (hhw : hw < 2 ^ 32) (d : Dev) :
    Dev.hwEvents a hw d = if hw = 0 then d else Dev.forList r.row.fields (Dev.hwField r i j hw) d := by
  obtain ⟨-, -, -, hreg⟩ := hat
  unfold Dev.hwEvents
  dsimp only
  rw [Nat.mod_eq_of_lt hhw, Nat.div_eq_of_lt hhw, if_pos rfl, hreg]
  dsimp only
  rw [plainReg_hwSet hr]

/-- Bytes stored in the plan buffer. -/
theorem planBuf_read_stored (m : Mem) {off o : Nat} (hoff : off < 0x100000) (bytes : List Byte) :
    (m.writeBytes off (bytes.take (0x100000 - off))).read o =
      if off ≤ o ∧ o < off + bytes.length ∧ o < 0x100000 then bytes.getD (o - off) 0 else m.read o := by
  rw [Mem.read_writeBytes, List.length_take]
  by_cases h : off ≤ o ∧ o < off + bytes.length ∧ o < 0x100000
  · rw [if_pos (by omega), if_pos h]
    have ho : o - off < 0x100000 - off := by omega
    simp [List.getD_eq_getElem?_getD, ho]
  · rw [if_neg (by omega), if_neg h]

/-- The address of an offset of the plan buffer. -/
theorem planBufAddr_toNat (off : BitVec 20) : (BitVec.ofNat 27 (0x800000 + off.toNat)).toNat = 0x800000 + off.toNat := by
  have := off.isLt
  rw [BitVec.toNat_ofNat]
  exact Nat.mod_eq_of_lt (by omega)

theorem planBufAddr_inPlanBuf (off : BitVec 20) : inPlanBuf (0x800000 + off.toNat) = true := by
  have := off.isLt
  unfold inPlanBuf
  exact decide_eq_true (by omega)

/-- Settles O14: reads, writes by access type, and bytes of the plan buffer. -/
theorem bar0Serves : Obligations.Bar0Serves := by
  intro s who reqId a
  refine ⟨fun r i j hat hw hr hs => ?_, fun r i j bytes hw hr hat hlen hhw hign hs => ?_, fun off bytes hbusy hs => ?_⟩
  · refine .runAs (rfl : _ = execRegisterRead who reqId a 4 s) fun e he => ?_
    have he : e = s.found.bar0 who reqId.toNat (.read4 a) := he
    rw [Dev.bar0_read4 _ hat hw hr hs] at he
    rw [he, Dev.view_reply_out]
  · refine .runAs (rfl : _ = execRegisterWrite who reqId a bytes hw s) fun e he => ?_
    rw [if_pos hlen, Dev.bar0_write4 _ hat hr hign hs, Dev.hwEvents_register hat hr hhw] at he
    have hv : (BitVec.ofNat 32 (ofLE bytes)).toNat = ofLE bytes % 2 ^ 32 := BitVec.toNat_ofNat ..
    rw [hv] at he
    have hout := Dev.writeFields_out r i j (ofLE bytes % 2 ^ 32) s.found
    by_cases h0 : hw.toNat = 0
    · rw [if_pos h0] at he
      obtain ⟨h1, h2⟩ := Dev.writeFields_written (Reg.plainFields_of_mem hr) i j (ofLE bytes % 2 ^ 32) s.found
      subst he
      rw [h0]
      exact ⟨⟨h1, h2.ofFound⟩, hout⟩
    · rw [if_neg h0] at he
      obtain ⟨h1, h2⟩ := Dev.writeFields_hw (Reg.plainFields_of_mem hr) i j (ofLE bytes % 2 ^ 32) hw.toNat s.found
      subst he
      refine ⟨⟨h1, h2.ofFound⟩, (Dev.forList_keeps Dev.out (g := Dev.hwField r i j hw.toNat) (fun x _ e => ?_) _).trans hout⟩
      unfold Dev.hwField Dev.orBits
      dsimp only
      split <;> rfl
  · refine .runAs (rfl : _ = execPlanBufferWrite who reqId off bytes s) fun e he => ?_
    rw [Dev.bar0_of_serves _ (State.found_serves hs)] at he
    have hbuf := planBufAddr_inPlanBuf off
    have hbytes : inBytes (0x800000 + off.toNat) = true := by rw [inBytes, hbuf]; rfl
    have hbusy : s.found.planBusy = false := hbusy
    unfold Dev.serve Dev.serveBytes Dev.lockedAt Dev.storeBytes at he
    simp only [accAddr, planBufAddr_toNat, hbytes, hbuf, hbusy, accWrite, if_true, Bool.false_eq_true, if_false,
      Nat.add_sub_cancel_left, accBytes] at he
    subst he
    exact ⟨rfl, fun o => planBuf_read_stored s.dev.planBuf off.isLt bytes⟩

/-! ## Violations (R479, R480) -/

/-- The fields that show the oldest entry of the violation log. -/
def violFields : List F := [.DMA_VIOL_STATUS_COUNT, .DMA_VIOL_ADDR_ADDR, .DMA_VIOL_INFO_REQ_ID, .DMA_VIOL_INFO_REQUESTER,
  .DMA_VIOL_INFO_BAR, .DMA_VIOL_INFO_WRITE, .DMA_VIOL_INFO_TYPE, .DMA_VIOL_TIME_TIME]

theorem Dev.showViol_only (d : Dev) : Dev.OnlyAt violFields 0 d d.showViol := by
  unfold Dev.showViol
  extract_lets d1
  have h : Dev.OnlyAt violFields 0 d d1 := (Dev.Only.refl _ d).set _ ⟨rfl, by decide⟩
  clear_value d1
  dsimp only
  split
  · exact Dev.Only.setAll _ h (by decide)
  · exact ((((((h.set _ ⟨rfl, by decide⟩).set _ ⟨rfl, by decide⟩).set _ ⟨rfl, by decide⟩).set _ ⟨rfl, by decide⟩).set _
      ⟨rfl, by decide⟩).set _ ⟨rfl, by decide⟩).set _ ⟨rfl, by decide⟩

/-- A violation joins a log that is not full, and nothing but the log, its registers and what source 8 raises changes. -/
theorem Dev.logViol_logs {d : Dev} (hlen : d.viols.length < 16) (addr bar : Nat) (write : Bool) (reqId type time : Nat) :
    (d.logViol addr bar write .pcie reqId type time).viols = d.viols ++ [⟨addr, bar, write, .pcie, reqId, type, time⟩] ∧
    Dev.Raised 8 d (d.logViol addr bar write .pcie reqId type time) ∧
    Dev.OnlyRaising (fun f _ => f ∈ violFields) { d with viols := d.viols ++ [⟨addr, bar, write, .pcie, reqId, type, time⟩] }
      (d.logViol addr bar write .pcie reqId type time) := by
  have heq : d.logViol addr bar write .pcie reqId type time =
      (Dev.showViol { d with viols := d.viols ++ [⟨addr, bar, write, .pcie, reqId, type, time⟩] }).raise 8 := by
    unfold Dev.logViol
    rw [if_pos hlen]
    rfl
  have h := Dev.showViol_only { d with viols := d.viols ++ [⟨addr, bar, write, .pcie, reqId, type, time⟩] }
  have h' : Dev.OnlyRaising (fun f _ => f ∈ violFields)
      { d with viols := d.viols ++ [⟨addr, bar, write, .pcie, reqId, type, time⟩] }
      ((Dev.showViol { d with viols := d.viols ++ [⟨addr, bar, write, .pcie, reqId, type, time⟩] }).raise 8) :=
    (h.raising.mono fun _ _ hp => hp.2).trans (raise_only _ _ 8)
  rw [heq]
  refine ⟨?_, ?_, h'⟩
  · rw [h'.1]
  · refine Dev.Raised.after ?_ ?_ (by decide)
    · rw [h.1]
    · exact h.2 _ _ fun hp => absurd hp.2 (by decide)

/-- A violation of a PCIe request. -/
theorem Dev.violate_pcie {d : Dev} (hlen : d.viols.length < 16) (addr bar : Nat) (write : Bool) (reqId type time : Nat) :
    (d.violate addr bar write .pcie reqId type time).viols = d.viols ++ [⟨addr, bar, write, .pcie, reqId, type, time⟩] ∧
    Dev.Raised 8 d (d.violate addr bar write .pcie reqId type time) ∧
    Dev.OnlyRaising (fun f _ => f ∈ violFields) { d with viols := d.viols ++ [⟨addr, bar, write, .pcie, reqId, type, time⟩] }
      (d.violate addr bar write .pcie reqId type time) ∧
    (write = false → Out.completerAbort ∈ (d.violate addr bar write .pcie reqId type time).out) := by
  obtain ⟨h1, h2, h3⟩ := Dev.logViol_logs hlen addr bar write reqId type time
  unfold Dev.violate
  cases write with
  | true => exact ⟨h1, h2, h3, fun h => absurd h (by decide)⟩
  | false =>
    dsimp only
    rw [if_neg Bool.false_ne_true]
    generalize d.logViol addr bar false .pcie reqId type time = e at *
    refine ⟨h1, h2, h3.trans (.send _ _), fun _ => ?_⟩
    rw [Dev.out_send]
    exact List.mem_append_right _ (.head _)

/-- A request of BAR0 whose size is accepted and that the function answers, with no BAR0 request held. -/
theorem Dev.bar0_of_up {s : State} (haux : s.dev.get .X_SYS_AUX 0 = 1) (hup : s.dev.pcieUp = true)
    (hstate : s.dev.get .DMA_LINK_STATUS_DSTATE 0 ≠ 3) (hheld : ∀ h ∈ s.dev.held, h.isBar2 = true) (reqId : Nat) {x : Access}
    {d : Dev} (htry : s.found.bar0Try .pcie reqId s.dev.now x = (d, false)) : s.found.bar0 .pcie reqId x = d := by
  have hon : s.found.on .X_SYS_AUX 0 = true := (Dev.on_iff ..).mpr haux
  have hfree : (s.found.held.any fun h => !h.isBar2) = false := by simpa using hheld
  have hnot : s.found.notUp .pcie x = none := by
    have hup : s.found.pcieUp = true := hup
    unfold Dev.notUp
    dsimp only
    rw [hup, State.found_get, decide_eq_false hstate]
    rfl
  unfold Dev.bar0
  rw [hon, if_neg (by decide), hnot]
  dsimp only
  rw [hfree, if_neg (by decide), State.found_now, htry]
  rfl

theorem Dev.bar0Try_unmapped {d : Dev} {reqId time : Nat} {x : Access} (hsize : accSized x = true)
    (hmap : mapped (accAddr x) = false) (hlen : accLen x = 4) :
    d.bar0Try .pcie reqId time x = (d.violate (accAddr x) 0 (accWrite x) .pcie reqId 1 time, false) := by
  unfold Dev.bar0Try
  dsimp only
  rw [hsize, if_neg (by decide), hmap, hlen]
  rfl

theorem plainReg_fields_stay {r : Reg} (hr : r ∈ plainRegs) {x : Fld} (hx : x ∈ r.row.fields) : x.f ∉ violFields ∧ x.f ∉ signalFields := by
  have h : ∀ r ∈ plainRegs, ∀ x ∈ r.row.fields, x.f ∉ violFields ∧ x.f ∉ signalFields := by decide
  exact h r hr x hx

theorem planBufAddr_domain (off : BitVec 20) : domainAt (0x800000 + off.toNat) = some 148 := by
  have := off.isLt
  unfold domainAt inMessages
  rw [if_neg (by omega), if_neg (by simp; omega), if_neg (by omega)]

theorem Dev.gate_of_on {d : Dev} {k : Nat} (h : d.dom k = pwON) : d.gate k = 0 := if_pos h

/-- With nothing held there is nothing to serve. -/
theorem Dev.serveHeld_of_none {d : Dev} (h : d.held = []) : d.serveHeld = d := by
  have h0 : Dev.serveBar0 d.held.length d = d := by rw [h]; rfl
  unfold Dev.serveHeld
  dsimp only
  rw [h0, h]
  rfl

/-- The oldest entry shows in the registers. -/
theorem Dev.showViol_cons {d : Dev} {v : Viol} {rest : List Viol} (h : d.viols = v :: rest) :
    d.showViol.get .DMA_VIOL_ADDR_ADDR 0 = v.addr ∧ d.showViol.get .DMA_VIOL_INFO_TYPE 0 = v.type ∧
      d.showViol.get .DMA_VIOL_INFO_REQ_ID 0 = v.reqId ∧ d.showViol.get .DMA_VIOL_INFO_WRITE 0 = b2n v.write ∧
      d.showViol.get .DMA_VIOL_INFO_BAR 0 = v.bar ∧ d.showViol.get .DMA_VIOL_TIME_TIME 0 = v.time := by
  have heq : d.showViol = ((((((((d.set .DMA_VIOL_STATUS_COUNT 0 d.viols.length).set .DMA_VIOL_ADDR_ADDR 0 v.addr).set
      .DMA_VIOL_INFO_REQ_ID 0 v.reqId).set .DMA_VIOL_INFO_REQUESTER 0 v.who.code).set .DMA_VIOL_INFO_BAR 0 v.bar).set
      .DMA_VIOL_INFO_WRITE 0 (b2n v.write)).set .DMA_VIOL_INFO_TYPE 0 v.type).set .DMA_VIOL_TIME_TIME 0 v.time) := by
    unfold Dev.showViol
    dsimp only
    rw [Dev.set_viols, h]
  rw [heq]
  simp

theorem Dev.showViol_nil {d : Dev} (h : d.viols = []) : d.showViol.get .DMA_VIOL_ADDR_ADDR 0 = 0 ∧
    d.showViol.get .DMA_VIOL_INFO_TYPE 0 = 0 ∧ d.showViol.get .DMA_VIOL_TIME_TIME 0 = 0 := by
  have heq : d.showViol = (d.set .DMA_VIOL_STATUS_COUNT 0 d.viols.length).setAll [.DMA_VIOL_ADDR_ADDR, .DMA_VIOL_INFO_REQ_ID,
      .DMA_VIOL_INFO_REQUESTER, .DMA_VIOL_INFO_BAR, .DMA_VIOL_INFO_WRITE, .DMA_VIOL_INFO_TYPE, .DMA_VIOL_TIME_TIME] 0 0 := by
    unfold Dev.showViol
    dsimp only
    rw [Dev.set_viols, h]
  rw [heq]
  exact ⟨Dev.setAll_get_of_mem _ _ _ (by decide), Dev.setAll_get_of_mem _ _ _ (by decide), Dev.setAll_get_of_mem _ _ _ (by decide)⟩

theorem Dev.showViol_count (d : Dev) : d.showViol.get .DMA_VIOL_STATUS_COUNT 0 = d.viols.length := by
  unfold Dev.showViol
  extract_lets d1
  have h : d1.get .DMA_VIOL_STATUS_COUNT 0 = d.viols.length := Dev.get_set_same ..
  clear_value d1
  dsimp only
  split
  · rw [Dev.setAll_get_field _ _ _ _ (by decide), h]
  · simp [h]

/-- Settles O15: unmapped and locked accesses, held requests that time out, and the pop of the log. -/
theorem bar0Violates : Obligations.Bar0Violates := by
  refine ⟨fun s reqId a haux hup hstate hheld hlen => ⟨fun halign hmap => ?_, fun bytes hbytes halign hmap => ?_,
    fun off bytes hbusy hdom => ?_⟩, fun s h hheld hclk hlen hwho => ⟨fun x hkind => ?_, fun off a w n bs hkind => ?_⟩, fun s => ?_⟩
  · refine .runAs (rfl : _ = execRegisterRead .pcie reqId a 4 s) fun e he => ?_
    have he : e = s.found.bar0 .pcie reqId.toNat (.read4 a) := he
    have hsize : accSized (.read4 a) = true := by simp [accSized, accAddr, halign]
    rw [Dev.bar0_of_up haux hup hstate hheld _ (Dev.bar0Try_unmapped hsize hmap rfl)] at he
    obtain ⟨h1, h2, -, h3⟩ := Dev.violate_pcie (d := s.found) hlen a.toNat 0 false reqId.toNat 1 s.dev.now
    subst he
    exact ⟨h1, h3 rfl, h2⟩
  · refine .runAs (rfl : _ = execRegisterWrite .pcie reqId a bytes 0 s) fun e he => ?_
    rw [if_pos hbytes] at he
    have he : e = s.found.bar0 .pcie reqId.toNat (.write4 a (BitVec.ofNat 32 (ofLE bytes))) := he
    have hsize : accSized (.write4 a (BitVec.ofNat 32 (ofLE bytes))) = true := by simp [accSized, accAddr, halign]
    rw [Dev.bar0_of_up haux hup hstate hheld _ (Dev.bar0Try_unmapped hsize hmap rfl)] at he
    obtain ⟨h1, h2, h3, -⟩ := Dev.violate_pcie (d := s.found) hlen a.toNat 0 true reqId.toNat 1 s.dev.now
    subst he
    refine ⟨h1, h2, fun r hr x hx i => ?_⟩
    obtain ⟨hv, hs⟩ := plainReg_fields_stay hr hx
    exact h3.2 x.f i hv hs
  · refine .runAs (rfl : _ = execPlanBufferWrite .pcie reqId off bytes s) fun e he => ?_
    have hbuf := planBufAddr_inPlanBuf off
    have hbytes : inBytes (0x800000 + off.toNat) = true := by rw [inBytes, hbuf]; rfl
    have haddr : accAddr (.writeN (BitVec.ofNat 27 (0x800000 + off.toNat)) bytes) = 0x800000 + off.toNat := planBufAddr_toNat off
    have hsize : accSized (.writeN (BitVec.ofNat 27 (0x800000 + off.toNat)) bytes) = true := by
      simp [accSized, haddr, hbytes]
    have hmapped : mapped (0x800000 + off.toNat) = true := by
      rw [mapped, hbytes]
      rfl
    have htry : s.found.bar0Try .pcie reqId.toNat s.dev.now (.writeN (BitVec.ofNat 27 (0x800000 + off.toNat)) bytes) =
        (s.found.violate (0x800000 + off.toNat) 0 true .pcie reqId.toNat 3 s.dev.now, false) := by
      have hgate : s.found.gate 148 = 0 := Dev.gate_of_on hdom
      have hbusy : s.found.planBusy = true := hbusy
      unfold Dev.bar0Try
      dsimp only
      rw [hsize, if_neg (by decide), haddr, hmapped, if_neg (by simp), planBufAddr_domain]
      dsimp only
      rw [if_pos hgate]
      unfold Dev.serve Dev.serveBytes Dev.lockedAt
      dsimp only
      rw [haddr, hbytes, if_pos rfl, if_pos hbuf, hbusy, if_pos rfl]
      rfl
    rw [Dev.bar0_of_up haux hup hstate hheld _ htry] at he
    obtain ⟨h1, h2, h3, -⟩ := Dev.violate_pcie (d := s.found) hlen (0x800000 + off.toNat) 0 true reqId.toNat 3 s.dev.now
    subst he
    refine ⟨?_, h1, h2⟩
    rw [h3.1]
    rfl
  · refine .runElse (rfl : _ = execBar0StallTimeout false s) Bool.false_ne_true fun e he => ?_
    have hbar0 : h.isBar2 = false := by rw [Held.isBar2, hkind]
    have hfind : s.found.held.find? (fun h => !h.isBar2) = some h := by
      rw [State.found_held, hheld]
      simp [hbar0]
    have herase : s.found.held.erase h = [] := by
      rw [State.found_held, hheld]
      simp
    have hclk : h.clk + 40 * us ≤ s.found.clk := hclk
    unfold Dev.stallBar0 at he
    rw [hfind] at he
    dsimp only at he
    rw [Dev.onTime_of_le hclk, hkind, herase, hwho] at he
    dsimp only at he
    obtain ⟨h1, h2, h3, h4⟩ := Dev.violate_pcie (d := { s.found with held := [] }) hlen (accAddr x) 0 (accWrite x) h.reqId 6 h.time
    have hnone : (Dev.violate { s.found with held := [] } (accAddr x) 0 (accWrite x) .pcie h.reqId 6 h.time).held = [] := by
      rw [h3.1]
    have hfail : Dev.accFail { s.found with held := [] } .pcie h.reqId (accAddr x) (accWrite x) 6 h.time =
      Dev.violate { s.found with held := [] } (accAddr x) 0 (accWrite x) .pcie h.reqId 6 h.time := rfl
    rw [hfail, Dev.serveHeld_of_none hnone] at he
    subst he
    exact ⟨hnone, h1, h2, h4⟩
  · refine .runIf (rfl : _ = execBar0StallTimeout true s) rfl fun e he => ?_
    have hbar2 : h.isBar2 = true := by rw [Held.isBar2, hkind]
    have hfind : s.found.held.find? Held.isBar2 = some h := by
      rw [State.found_held, hheld]
      simp [hbar2]
    have herase : s.found.held.erase h = [] := by
      rw [State.found_held, hheld]
      simp
    have hclk : h.clk + 40 * us ≤ s.found.clk := hclk
    unfold Dev.stallBar2 at he
    rw [hfind] at he
    dsimp only at he
    rw [Dev.onTime_of_le hclk, hkind, herase] at he
    dsimp only at he
    obtain ⟨h1, h2, h3, h4⟩ := Dev.violate_pcie (d := { s.found with held := [] }) hlen off 1 w h.reqId 6 h.time
    have hnone : (Dev.violate { s.found with held := [] } off 1 w .pcie h.reqId 6 h.time).held = [] := by
      rw [h3.1]
    rw [Dev.serveHeld_of_none hnone] at he
    subst he
    exact ⟨hnone, h1, h2, h4⟩
  · refine .runAs (rfl : _ = execViolPop s) fun e he => ?_
    have honly := Dev.showViol_only { s.found with viols := s.found.viols.drop 1 }
    have hviols : e.viols = s.dev.viols.drop 1 := by
      rw [he, honly.1]
      rfl
    refine ⟨hviols, ?_, fun v rest hv => ?_, fun hv => ?_, ?_⟩
    · rw [hviols, he, Dev.showViol_count]
      rfl
    · rw [he]
      exact Dev.showViol_cons (hviols.symm.trans hv)
    · rw [he]
      exact Dev.showViol_nil (hviols.symm.trans hv)
    · rw [hviols, he]
      exact honly

/-! ## The SMBus target (R567, R576) -/

theorem Dev.smbFor_other {d : Dev} {t : BitVec 7} (f : Dev → Dev) (h : t.toNat ≠ 0x68 + d.get .X_SMB_STRAP 0) :
    d.smbFor t f = d := by
  unfold Dev.smbFor Dev.smbTarget
  rw [decide_eq_false h]
  rfl

theorem Dev.smbFor_own {d : Dev} {t : BitVec 7} (f : Dev → Dev) (haux : d.get .X_SYS_AUX 0 = 1)
    (h : t.toNat = 0x68 + d.get .X_SMB_STRAP 0) : d.smbFor t f = f d := by
  unfold Dev.smbFor Dev.smbTarget
  rw [decide_eq_true h, (Dev.on_iff ..).mpr haux]
  rfl

theorem Dev.smb_of_lt {d : Dev} (v : Option Nat) (h : d.get .X_SMB_ADDR 0 < 2 ^ 27) : d.smb v = d.bar0 .smbus 0 (match v with
    | some v => .write4 (BitVec.ofNat 27 (d.get .X_SMB_ADDR 0)) (BitVec.ofNat 32 v)
    | none => .read4 (BitVec.ofNat 27 (d.get .X_SMB_ADDR 0))) := if_pos h

/-- Settles O16: the target's own address, its four commands, and PEC. -/
theorem smbusTarget : Obligations.SmbusTarget := by
  intro s v t haux
  refine ⟨fun hother ok => ⟨?_, ?_, ?_, ?_⟩, fun hown => ⟨?_, ?_, ?_, fun a r i j haddr hlt hat hw => ⟨fun hr hs => ?_, fun hr hign hs => ?_⟩⟩⟩
  · exact .runAs (rfl : _ = execSmbSetAddress t v ok s) fun e he => he.trans (Dev.smbFor_other _ hother)
  · exact .runAs (rfl : _ = execSmbRead t s) fun e he => he.trans (Dev.smbFor_other _ hother)
  · exact .runAs (rfl : _ = execSmbWrite t v ok s) fun e he => he.trans (Dev.smbFor_other _ hother)
  · exact .runAs (rfl : _ = execSmbReadIncrement t s) fun e he => he.trans (Dev.smbFor_other _ hother)
  · refine .runAs (rfl : _ = execSmbSetAddress t v true s) fun e he => ?_
    rw [Dev.smbFor_own (d := s.found) _ haux hown, if_pos rfl] at he
    subst he
    exact ⟨Dev.get_set_same .., ((Dev.Only.refl _ s.found).set _ ⟨rfl, by decide⟩).ofFound⟩
  · refine .runAs (rfl : _ = execSmbSetAddress t v false s) fun e he => ?_
    rw [Dev.smbFor_own (d := s.found) _ haux hown, if_neg Bool.false_ne_true] at he
    exact he
  · refine .runAs (rfl : _ = execSmbWrite t v false s) fun e he => ?_
    rw [Dev.smbFor_own (d := s.found) _ haux hown, if_neg Bool.false_ne_true] at he
    exact he
  all_goals
    have haddr' : s.found.get .X_SMB_ADDR 0 = a := haddr
    have htoNat : (BitVec.ofNat 27 a).toNat = a := by rw [BitVec.toNat_ofNat]; exact Nat.mod_eq_of_lt hlt
    rw [← htoNat] at hat
  · have hread : s.found.smb none = (s.found.view r i j).reply ((s.found.view r i j).regValue r i j) := by
      rw [Dev.smb_of_lt none (haddr'.trans_lt hlt), haddr']
      exact Dev.bar0_read4 _ hat hw hr hs
    refine ⟨.runAs (rfl : _ = execSmbRead t s) fun e he => ?_, .runAs (rfl : _ = execSmbReadIncrement t s) fun e he => ?_⟩
    · rw [Dev.smbFor_own (d := s.found) _ haux hown, hread] at he
      subst he
      exact ⟨Dev.view_reply_out .., ((s.found.view_shows r i j).1.2 _ _ fun h => h rfl).trans haddr⟩
    · rw [Dev.smbFor_own (d := s.found) _ haux hown, hread, haddr'] at he
      subst he
      exact ⟨Dev.view_reply_out .., Dev.get_set_same ..⟩
  · refine .runAs (rfl : _ = execSmbWrite t v true s) fun e he => ?_
    rw [Dev.smbFor_own (d := s.found) _ haux hown, if_pos rfl, Dev.smb_of_lt _ (haddr'.trans_lt hlt), haddr'] at he
    dsimp only at he
    have hv : BitVec.ofNat 32 v.toNat = v := by simp
    rw [hv, Dev.bar0_write4 _ hat hr hign hs] at he
    obtain ⟨h1, h2⟩ := Dev.writeFields_written (Reg.plainFields_of_mem hr) i j v.toNat s.found
    subst he
    exact ⟨h1, h2.ofFound⟩

end Sys2Proof.Machine
end

section
/-! PROOFS. What signals send and keep, and claims and completions of pigeonhole targets (R452, R456 to R461). -/

-- One theorem at a time: the whole text is compiled under a memory limit, which the stacks of waiting threads would fill.
set_option Elab.async false

namespace Sys2Proof.Machine

open Sys2Proof

/-! ## What signals send -/

/-- `e` has sent what `d` has, and perhaps more after it. -/
def Dev.Sends (d e : Dev) : Prop := d.out <+: e.out

theorem Dev.Sends.refl (d : Dev) : Dev.Sends d d := List.prefix_refl _

theorem Dev.Sends.trans {a b c : Dev} (h1 : Dev.Sends a b) (h2 : Dev.Sends b c) : Dev.Sends a c := List.IsPrefix.trans h1 h2

theorem Dev.Sends.set {d e : Dev} {f : F} {i : Nat} (v : Nat) (h : Dev.Sends d e) : Dev.Sends d (e.set f i v) := h

theorem Dev.Sends.send {d e : Dev} (o : Out) (h : Dev.Sends d e) : Dev.Sends d (e.send o) :=
  h.trans (List.prefix_append ..)

theorem Dev.Sends.foldl {α : Type} {g : Dev → α → Dev} (h : ∀ d x, Dev.Sends d (g d x)) (l : List α) (d : Dev) :
    Dev.Sends d (l.foldl g d) := by
  induction l generalizing d with
  | nil => exact .refl d
  | cons x l ih => exact (h d x).trans (ih (g d x))

theorem Dev.Sends.mem {d e : Dev} (h : Dev.Sends d e) {o : Out} (ho : o ∈ d.out) : o ∈ e.out := List.IsPrefix.mem ho h

theorem wakeOne_out (d : Dev) (k c : Nat) : (d.wakeOne k c).out = d.out := by
  unfold Dev.wakeOne
  split
  · rfl
  · split
    · rfl
    · split <;> rfl

theorem wake_out (d : Dev) (k c : Nat) : (d.wake k c).out = d.out :=
  (Dev.forList_keeps Dev.out (g := fun m d => d.wakeOne m c) (fun m _ e => wakeOne_out e m c) _).trans
    (Dev.forList_keeps Dev.out (g := fun m d => d.wakeOne m 10) (fun m _ e => wakeOne_out e m 10) d)

theorem sendMsix_sends (d : Dev) (v : Nat) : Dev.Sends d (d.sendMsix v) := by
  unfold Dev.sendMsix
  split
  · extract_lets e
    have h : Dev.Sends d e := Dev.Sends.refl d
    split
    · exact (h.set (f := .DMA_LINK_STATUS_L1) (i := 0) 0).send _
    · exact h
  · split
    · exact Dev.Sends.refl d
    · exact ((Dev.Sends.refl d).set (f := .DMA_LINK_STATUS_L1) (i := 0) 0).send _

theorem issueFor_sends (d : Dev) (x s : Nat) : Dev.Sends d (d.issueFor x s) := by
  unfold Dev.issueFor
  extract_lets e
  have h : Dev.Sends d e := Dev.Sends.refl d
  split
  · exact h.trans (sendMsix_sends _ _)
  · exact (h.set (f := .X_PH_CORE_HALT) (i := x) 0).send _

theorem issue_sends (d : Dev) (x : Nat) : Dev.Sends d (d.issue x) := by
  unfold Dev.issue
  split
  · exact .refl d
  · exact issueFor_sends _ _ _

theorem release_sends (d : Dev) (x : Nat) : Dev.Sends d (d.release x) := by
  unfold Dev.release
  split
  · exact (((Dev.Sends.refl d).set (f := .PH_T_STATUS_HELD) (i := x) 0).set (f := .X_PH_HELD_COUNT) (i := x) 0).trans
      (issue_sends _ _)
  · exact .refl d

theorem decideMessage_sends (d : Dev) (x s : Nat) : Dev.Sends d (d.decideMessage x s) := by
  unfold Dev.decideMessage
  extract_lets e1 e2
  have h1 : Dev.Sends d e1 := by
    unfold e1
    split
    · rw [Dev.Sends, wake_out]
    · exact .refl d
  have h2 : Dev.Sends d e2 := by
    unfold e2
    split
    · exact h1
    · exact ((h1.set _).set _).set _
  clear_value e2
  split
  · split
    · exact h2
    · exact h2.trans (issueFor_sends _ _ _)
  · split
    · exact h2
    · exact ((h2.set _).set _).set _

theorem settle_sends (d : Dev) (x : Nat) : Dev.Sends d (d.settle x) := by
  unfold Dev.settle
  split
  · exact .refl d
  · split
    · exact .refl d
    · exact ((Dev.Sends.refl d).set (f := .X_PH_ELIG) (i := x) 1).trans (decideMessage_sends _ _ _)

theorem occur_sends (d : Dev) (s : Nat) : Dev.Sends d (d.occur s) := by
  unfold Dev.occur Dev.settleSource
  extract_lets e1 e
  have h : Dev.Sends d e := Dev.Sends.refl d
  clear_value e
  have hc : Dev.Sends e (e.countHeld s) := by
    unfold Dev.countHeld
    extract_lets x n
    split
    · split
      · exact release_sends _ _
      · exact (Dev.Sends.refl e).set _
    · exact .refl e
  exact (h.trans hc).trans (settle_sends _ _)

theorem raise_sends (d : Dev) (s : Nat) : Dev.Sends d (d.raise s) := by
  unfold Dev.raise
  split
  · exact .refl d
  · exact occur_sends d s

theorem setLine_sends (d : Dev) (s : Nat) (b : Bool) : Dev.Sends d (d.setLine s b) := by
  unfold Dev.setLine
  split
  · split
    · exact .refl d
    · exact ((Dev.Sends.refl d).set (f := .PH_SRC_LINE) (i := s) 1).trans (occur_sends _ s)
  · exact (Dev.Sends.refl d).set _

/-! ## What signals keep -/

/-- An occurrence of a source leaves the lines alone. -/
theorem occur_get (d : Dev) (s : Nat) {f : F} (i : Nat) (h1 : f ≠ .PH_SRC_OCCUR) (h2 : f ∉ settleFields) :
    (d.occur s).get f i = d.get f i := by
  unfold Dev.occur Dev.settleSource
  extract_lets e1 e
  have he : e.get f i = d.get f i := Dev.get_set_field d s i _ h1
  clear_value e
  exact (((countHeld_only e s).trans (settle_only (e.countHeld s) _)).2 f i h2).trans he

/-- R446: a line that event bits drive shows their level. -/
theorem setLine_line (d : Dev) (s : Nat) (b : Bool) : (d.setLine s b).get .PH_SRC_LINE s = b2n b := by
  unfold Dev.setLine
  split
  · next hb =>
    subst hb
    split
    · next h => exact (Dev.on_iff ..).mp h
    · exact (occur_get _ _ _ (by decide) (by decide)).trans (Dev.get_set_same ..)
  · next hb =>
    rw [Bool.not_eq_true] at hb
    subst hb
    exact Dev.get_set_same ..

/-- Settling changes neither what pends nor what is in service. -/
theorem Dev.Settling.pending {d e : Dev} (h : Dev.Settling d e) : e.pending = d.pending := by rw [h.1]

theorem Dev.Settling.service {d e : Dev} (h : Dev.Settling d e) : e.service = d.service := by rw [h.1]

theorem settle_none {d : Dev} {x : Nat} (h : d.best x = none) : d.settle x = d.set .X_PH_ELIG x 0 := by
  unfold Dev.settle
  rw [h]

/-! ## Claims (R452, R456) -/

theorem Dev.claim_external {d : Dev} {x : Nat} {req : Requester} (hx : 64 ≤ x) (hreq : req.isExternal = true) :
    d.claim x req = d.send (.readData 0) := by
  unfold Dev.claim
  rw [if_pos]
  simp [hx, hreq]

/-- R462: a claim with no selection latched, or in stacked mode, takes the best source. -/
theorem Dev.pick_best {d : Dev} {x : Nat} (h : d.stacked = true ∨ d.get .X_PH_SEL x = 0) : d.pick x = (d.best x, false) := by
  unfold Dev.pick
  rcases h with h | h <;> simp [h]

theorem Dev.claim_eq {d : Dev} {x : Nat} {req : Requester} (hdef : d.get .PH_T_STATUS_DEFINED x = 1)
    (hreq : 64 ≤ x → req.isExternal = false) (hsel : d.stacked = true ∨ d.get .X_PH_SEL x = 0) : d.claim x req =
      match d.best x with
      | none => (((d.set .X_PH_SEL x 0).addSat .PH_T_COUNTS_SPURIOUS x 1).settle x).send (.readData 0)
      | some s => (Dev.settle { d.set .X_PH_SEL x 0 with
          pending := removeNat d.pending s
          service := ⟨x, s, d.get .PH_SRC_PRIORITY s⟩ :: d.service } x).send (.readData (d.claimWord s false)) := by
  have hcond : ¬ (!d.on .PH_T_STATUS_DEFINED x || (decide (64 ≤ x) && req.isExternal)) = true := by
    rw [(Dev.on_iff ..).mpr hdef]
    by_cases hx : 64 ≤ x
    · simp [hreq hx]
    · simp [hx]
  have hword : ∀ s, (d.set .X_PH_SEL x 0).claimWord s false = d.claimWord s false := fun s => by
    unfold Dev.claimWord
    rw [Dev.get_set_field _ _ _ _ (by decide), Dev.get_set_field _ _ _ _ (by decide)]
  have hprio : ∀ s, (d.set .X_PH_SEL x 0).get .PH_SRC_PRIORITY s = d.get .PH_SRC_PRIORITY s := fun s =>
    Dev.get_set_field _ _ _ _ (by decide)
  unfold Dev.claim
  rw [if_neg hcond]
  dsimp only
  rw [Dev.pick_best hsel]
  cases d.best x with
  | none => rfl
  | some s =>
    dsimp only
    rw [hword, if_neg Bool.false_ne_true, hprio]
    rfl

theorem Dev.claimWord_early (d : Dev) (s : Nat) :
    d.claimWord s false = s + 2 ^ 12 * d.get .PH_SRC_PRIORITY s + 2 ^ 16 * d.get .PH_SRC_OCCUR s := rfl

/-- Eligibility looks at registers that a selection and a count of spurious claims leave alone. -/
theorem Dev.best_congr {d e : Dev} (x : Nat) (hpend : e.pending = d.pending) (hserv : e.service = d.service)
    (hget : ∀ f ∈ [F.PH_SRC_TARGET, .PH_T_STATUS_DEFINED, .PH_CFG_MODE, .PH_SRC_PRIORITY, .PH_MASK_MASK], ∀ i, e.get f i = d.get f i) :
    e.best x = d.best x := by
  have helig : ∀ s, e.eligible x s = d.eligible x s := fun s => by
    unfold Dev.eligible Dev.readyFor Dev.stacked Dev.inService Dev.stackOf Dev.on
    rw [hpend, hserv, hget _ (by decide), hget .PH_T_STATUS_DEFINED (by decide), hget .PH_CFG_MODE (by decide),
      hget .PH_MASK_MASK (by decide), hget .PH_SRC_PRIORITY (by decide)]
  unfold Dev.best
  rw [hpend]
  simp only [helig, hget .PH_SRC_PRIORITY (by decide)]

/-- R456: a claim that finds a source. -/
theorem claim_takes {s : State} {x : Fin 74} {req : Requester} {src : Nat} (hdef : s.dev.get .PH_T_STATUS_DEFINED x = 1)
    (hreq : 64 ≤ x.val → req.isExternal = false) (hsel : s.dev.stacked = true ∨ s.dev.get .X_PH_SEL x = 0)
    (hbest : s.dev.best x = some src) : Completes (.claim x req) s fun e =>
      e.out.getLast? = some (.readData (src + 2 ^ 12 * s.dev.get .PH_SRC_PRIORITY src + 2 ^ 16 * s.dev.get .PH_SRC_OCCUR src)) ∧
      src ∉ e.pending ∧ (∀ t, t ≠ src → (t ∈ e.pending ↔ t ∈ s.dev.pending)) ∧
      e.service = ⟨x, src, s.dev.get .PH_SRC_PRIORITY src⟩ :: s.dev.service := by
  refine .runAs (rfl : _ = execClaim x req s) fun e he => ?_
  have hbest : s.found.best x = some src := hbest
  rw [Dev.claim_eq (d := s.found) hdef hreq hsel, hbest] at he
  dsimp only at he
  have h := settle_only { s.found.set .X_PH_SEL x 0 with
    pending := removeNat s.found.pending src
    service := ⟨x, src, s.found.get .PH_SRC_PRIORITY src⟩ :: s.found.service } x
  generalize Dev.settle _ _ = b at h he
  have hpend : e.pending = removeNat s.dev.pending src := by rw [he, Dev.send_pending, h.pending]; rfl
  refine ⟨?_, ?_, fun t ht => ?_, ?_⟩
  · rw [he, Dev.out_send, Dev.claimWord_early]
    exact List.getLast?_concat
  · rw [hpend, mem_removeNat]
    exact fun hm => hm.2 rfl
  · rw [hpend, mem_removeNat]
    exact ⟨fun hm => hm.1, fun hm => ⟨hm, ht⟩⟩
  · rw [he, Dev.send_service, h.service]
    rfl

/-- R456: a claim that finds none. -/
theorem claim_spurious {s : State} {x : Fin 74} {req : Requester} (hdef : s.dev.get .PH_T_STATUS_DEFINED x = 1)
    (hreq : 64 ≤ x.val → req.isExternal = false) (hsel : s.dev.stacked = true ∨ s.dev.get .X_PH_SEL x = 0)
    (hbest : s.dev.best x = none) : Completes (.claim x req) s fun e => e.out = [.readData 0] ∧
      e.pending = s.dev.pending ∧ e.service = s.dev.service ∧
      e.get .PH_T_COUNTS_SPURIOUS x = satAdd F.PH_T_COUNTS_SPURIOUS.width (s.dev.get .PH_T_COUNTS_SPURIOUS x) 1 := by
  refine .runAs (rfl : _ = execClaim x req s) fun e he => ?_
  have hbest : s.found.best x = none := hbest
  have hnone : ((s.found.set .X_PH_SEL x 0).addSat .PH_T_COUNTS_SPURIOUS x 1).best x = none := by
    rw [← hbest]
    refine Dev.best_congr _ rfl rfl fun f hf i => ?_
    simp only [List.mem_cons, List.not_mem_nil, or_false] at hf
    rcases hf with rfl | rfl | rfl | rfl | rfl <;> simp [Dev.addSat]
  rw [Dev.claim_eq (d := s.found) hdef hreq hsel, hbest] at he
  dsimp only at he
  rw [settle_none hnone] at he
  subst he
  refine ⟨rfl, rfl, rfl, ?_⟩
  simp [Dev.addSat]

/-! ## Completions (R458 to R461) -/

/-- A completion of a source other than 0 on a defined target that the requester may complete. -/
theorem Dev.complete_eq {d : Dev} {x n : Nat} {req : Requester} (hdef : d.get .PH_T_STATUS_DEFINED x = 1) (hn : n ≠ 0)
    (hreq : 64 ≤ x → req.isExternal = false) : d.complete x n req =
      if d.stacked then
        match d.stackOf x with
        | [] => d.completeFault x n 2
        | v :: _ => if v.source = n then ((d.finish x n).settle x).settleSource n else d.completeFault x n 1
      else if (d.stackOf x).any fun v => decide (v.source = n) then ((d.finish x n).settle x).settleSource n
      else d.completeFault x n 3 := by
  have hcond : ¬ (decide (n = 0) || !d.on .PH_T_STATUS_DEFINED x || (decide (64 ≤ x) && req.isExternal)) = true := by
    rw [(Dev.on_iff ..).mpr hdef]
    by_cases hx : 64 ≤ x
    · simp [hn, hreq hx]
    · simp [hn, hx]
  exact if_neg hcond

/-- R459: a source leaves service; a level source whose line is high pends again. -/
theorem Dev.finish_settled (d : Dev) (x n : Nat) {e : Dev} (he : e = ((d.finish x n).settle x).settleSource n) :
    e.service = d.service.filter (fun v => !(decide (v.target = x) && decide (v.source = n))) ∧
      (∀ t, t ∈ d.pending → t ∈ e.pending) ∧
      (d.get .PH_SRC_LEVEL n = 1 → d.get .PH_SRC_LINE n = 1 → e.inService n = false → n ∈ e.pending) := by
  have h : Dev.Settling (d.finish x n) e := by
    rw [he]
    exact (settle_only _ x).trans (settle_only _ _)
  have hserv : (d.finish x n).service = d.service.filter (fun v => !(decide (v.target = x) && decide (v.source = n))) := by
    unfold Dev.finish Dev.repend Dev.pend
    split <;> rfl
  have hin : e.inService n = Dev.inService { d with
      service := d.service.filter fun v => !(decide (v.target = x) && decide (v.source = n)) } n := by
    unfold Dev.inService
    rw [h.service, hserv]
  rw [h.pending, h.service]
  refine ⟨hserv, fun t ht => ?_, fun hlevel hline hnot => ?_⟩
  · unfold Dev.finish Dev.repend Dev.pend
    split
    · exact (mem_insertNat ..).mpr (.inr ht)
    · exact ht
  · unfold Dev.finish Dev.repend Dev.pend
    rw [if_pos]
    · exact (mem_insertNat ..).mpr (.inl rfl)
    · rw [← hin, hnot]
      have h1 : d.on .PH_SRC_LEVEL n = true := (Dev.on_iff ..).mpr hlevel
      have h2 : d.on .PH_SRC_LINE n = true := (Dev.on_iff ..).mpr hline
      exact Bool.and_eq_true_iff.mpr ⟨Bool.and_eq_true_iff.mpr ⟨h1, h2⟩, rfl⟩

/-- R470: what a completion that the mode does not accept shows. -/
theorem Dev.completeFault_shows (d : Dev) (x n kind : Nat) {e : Dev} (he : e = d.completeFault x n kind) :
    e.get .PH_FAULT_LOG_TARGET 0 = x ∧ e.get .PH_FAULT_LOG_SOURCE 0 = n ∧ e.get .PH_FAULT_LOG_KIND 0 = kind ∧
      Dev.Raised 16 d e ∧ e.service = d.service ∧ (kind = 3 → e.get .PH_T_EVENTS_BAD_COMPLETE x = 1) ∧
      (kind ≠ 3 → e.get .PH_T_EVENTS_STACK_ORDER x = 1) := by
  unfold Dev.completeFault at he
  have hserv : ∀ b : Dev, (b.raise 16).service = b.service := fun b => by rw [(raise_only (fun _ _ => False) b 16).1]
  subst he
  refine ⟨?_, ?_, ?_, .after ?_ ?_ (by decide), ?_, fun h => ?_, fun h => ?_⟩
  · rw [raise_get _ _ _ _ (by decide)]
    simp [Dev.addSat]
  · rw [raise_get _ _ _ _ (by decide)]
    simp [Dev.addSat]
  · rw [raise_get _ _ _ _ (by decide)]
    simp [Dev.addSat]
  · rw [Dev.addSat, Dev.set_pending, Dev.set_pending, Dev.set_pending, Dev.set_pending]
    split <;> rfl
  · split <;> simp [Dev.addSat]
  · rw [hserv, Dev.addSat, Dev.set_service, Dev.set_service, Dev.set_service, Dev.set_service]
    split <;> rfl
  · rw [raise_get _ _ _ _ (by decide), if_pos h]
    simp [Dev.addSat]
  · rw [raise_get _ _ _ _ (by decide), if_neg h]
    simp [Dev.addSat]

/-- Settles O18: claims with and without an eligible source, and the completions that each mode accepts. -/
theorem claimTakesBest : Obligations.ClaimTakesBest := by
  refine ⟨fun x req s hdef => ⟨fun hreq hsel => ⟨fun src hbest => claim_takes hdef hreq hsel hbest, claim_spurious hdef hreq hsel⟩,
    fun hx hreq => ?_⟩, fun x n req s hdef hn hreq => ⟨fun v rest hstack hv => ?_, fun hmode hstack => ?_, fun hmode hstack => ?_⟩⟩
  · exact .runAs (rfl : _ = execClaim x req s) fun e he => he.trans (Dev.claim_external hx hreq)
  all_goals
    refine .runAs (rfl : _ = execComplete x n req s) fun e he => ?_
    rw [Dev.complete_eq (d := s.found) hdef hn hreq] at he
    have hstacked : s.found.stacked = s.dev.stacked := rfl
    have hstackOf : s.found.stackOf x = s.dev.stackOf x := rfl
    rw [hstacked, hstackOf] at he
  · refine Dev.finish_settled s.found x n.toNat ?_
    rw [he, hstack]
    rcases hv with hv | ⟨hmode, w, hw, hwn⟩
    · cases s.dev.stacked <;> simp [hv]
    · have hany : (v :: rest).any (fun v => decide (v.source = n.toNat)) = true :=
        List.any_eq_true.mpr ⟨w, .tail _ hw, decide_eq_true hwn⟩
      rw [hmode, if_neg Bool.false_ne_true, if_pos hany]
  · have hfault : ∃ kind, kind ≠ 3 ∧ e = s.found.completeFault x n.toNat kind := by
      rw [hmode, if_pos rfl] at he
      cases hs : s.dev.stackOf x with
      | nil =>
        rw [hs] at he
        exact ⟨2, by decide, he⟩
      | cons v rest =>
        rw [hs] at he
        exact ⟨1, by decide, he.trans (if_neg (hstack v rest hs))⟩
    obtain ⟨kind, hkind, he⟩ := hfault
    obtain ⟨h1, h2, -, h3, h4, -, h5⟩ := Dev.completeFault_shows s.found x n.toNat kind he
    exact ⟨h5 hkind, h1, h2, h3, h4⟩
  · have hany : ¬ (s.dev.stackOf x).any (fun v => decide (v.source = n.toNat)) = true := by
      rw [Bool.not_eq_true, List.any_eq_false]
      exact fun v hv => by simpa using hstack v hv
    rw [hmode, if_neg Bool.false_ne_true, if_neg hany] at he
    obtain ⟨-, -, h1, h2, h3, h4, -⟩ := Dev.completeFault_shows s.found x n.toNat 3 he
    exact ⟨h4 rfl, h1, h2, h3⟩

end Sys2Proof.Machine
end

section
/-! PROOFS. DMA queues and descriptors (R474, R485 to R492, R495). -/

-- One theorem at a time: the whole text is compiled under a memory limit, which the stacks of waiting threads would fill.
set_option Elab.async false

namespace Sys2Proof.Machine

open Sys2Proof

/-! ## Queues (R491, R492, R495) -/

theorem syncQueue_only (p : F → Nat → Prop) (d : Dev) (q : Nat) : Dev.OnlyRaising p d (d.syncQueue q) :=
  (((Dev.OnlyRaising.refl p d).setLine _ _).setLine _ _).setLine _ _ |>.setLine _ _

theorem syncQueue_get (d : Dev) (q : Nat) {f : F} (i : Nat) (h : f ∉ signalFields) : (d.syncQueue q).get f i = d.get f i :=
  (syncQueue_only (fun _ _ => False) d q).2 f i (fun x => x) h

theorem syncQueue_sends (d : Dev) (q : Nat) : Dev.Sends d (d.syncQueue q) :=
  (((setLine_sends _ _ _).trans (setLine_sends _ _ _)).trans (setLine_sends _ _ _)).trans (setLine_sends _ _ _)

theorem cfgIgnored_ignores {d e : Dev} (q : Nat) (he : e = d.cfgIgnored q) : e.get .DMA_Q_EVENTS_CFG_IGNORED q = 1 ∧
    e.dq q = d.dq q ∧ Dev.OnlyRaisingAt [.DMA_Q_EVENTS_CFG_IGNORED] q d e := by
  subst he
  refine ⟨?_, ?_, ?_⟩
  · rw [Dev.cfgIgnored, syncQueue_get _ _ _ (by decide), Dev.get_set_same]
  · rw [Dev.cfgIgnored, Dev.dq, syncQueue_get _ _ _ (by decide), Dev.get_set_field _ _ _ _ (by decide)]
    rfl
  · exact (((Dev.Only.refl _ d).set _ ⟨rfl, by decide⟩).raising).trans (syncQueue_only _ _ _)

/-- R491: a queue that is reset. -/
theorem Dev.resetQueue_shows (q : Nat) (d : Dev) {e : Dev} (he : e = Dev.resetQueue q d) :
    e.dq q = dqDISABLED ∧ e.fetched q = [] ∧ e.get .DMA_Q_HEAD_INDEX q = 0 ∧
      e.get .DMA_Q_STATUS_EPOCH q = (d.get .DMA_Q_STATUS_EPOCH q + 1) % 16 ∧ e.get .DMA_Q_STATUS_PHASE q = 1 ∧
      e.get .X_DMA_OLD q = d.get .X_DMA_OLD q + d.get .X_DMA_OUT q ∧ e.descs = d.descs.filter (fun x => x.queue != q) := by
  have hget : ∀ f i, Dev.get { d with descs := d.descs.filter fun x => x.queue != q } f i = d.get f i := fun _ _ => rfl
  have hdescs : e.descs = d.descs.filter (fun x => x.queue != q) := by
    rw [he, Dev.resetQueue, Dev.set_descs]
    exact Dev.forList_keeps Dev.descs (g := fun f e => e.set f q 0) (fun _ _ _ => rfl) _
  unfold Dev.resetQueue at he
  dsimp only at he
  simp only [hget] at he
  refine ⟨?_, ?_, ?_, ?_, ?_, ?_, hdescs⟩
  · rw [he, Dev.dq, Dev.get_set_field _ _ _ _ (by decide), Dev.setAll_get_of_mem _ _ _ (by decide)]
    rfl
  · rw [Dev.fetched, hdescs, List.filter_filter]
    exact List.filter_eq_nil_iff.mpr fun x _ => by simp
  · rw [he, Dev.get_set_field _ _ _ _ (by decide), Dev.setAll_get_of_mem _ _ _ (by decide)]
  · rw [he, Dev.get_set_field _ _ _ _ (by decide), Dev.setAll_get_field _ _ _ _ (by decide),
      Dev.get_set_field _ _ _ _ (by decide), Dev.get_set_same]
  · rw [he, Dev.get_set_same]
  · rw [he, Dev.get_set_field _ _ _ _ (by decide), Dev.setAll_get_field _ _ _ _ (by decide), Dev.get_set_same]

/-- Settles O21: the states of a queue and what its commands write. -/
theorem dmaQueueControl : Obligations.DmaQueueControl := by
  intro q s
  refine ⟨fun z hq h1 h2 => ?_, fun z hz => ?_, fun hq => ?_, ?_, fun t => ⟨fun ht => ?_, fun ht => ?_⟩, ?_⟩
  · refine .runIf (rfl : _ = execQueueEnable q z s) ⟨hq, h1, h2⟩ fun e he => ?_
    unfold Dev.syncPaused at he
    refine ⟨?_, ?_, ?_, ?_, ?_, ?_, ?_⟩
    · rw [he, Dev.dq, Dev.get_set_field _ _ _ _ (by decide), Dev.get_set_same]
    · rw [he, Dev.get_set_field _ _ _ _ (by decide), Dev.get_set_field _ _ _ _ (by decide), Dev.get_set_field _ _ _ _ (by decide),
        Dev.setAll_get_field _ _ _ _ (by decide), Dev.get_set_field _ _ _ _ (by decide), Dev.get_set_same]
    · rw [he, Dev.ring, Dev.get_set_field _ _ _ _ (by decide), Dev.get_set_field _ _ _ _ (by decide),
        Dev.get_set_field _ _ _ _ (by decide), Dev.setAll_get_field _ _ _ _ (by decide), Dev.get_set_same]
    · rw [he, Dev.get_set_field _ _ _ _ (by decide), Dev.get_set_field _ _ _ _ (by decide), Dev.get_set_field _ _ _ _ (by decide),
        Dev.setAll_get_of_mem _ _ _ (by decide)]
    · rw [he, Dev.get_set_field _ _ _ _ (by decide), Dev.get_set_field _ _ _ _ (by decide), Dev.get_set_field _ _ _ _ (by decide),
        Dev.setAll_get_of_mem _ _ _ (by decide)]
    · rw [he, Dev.get_set_field _ _ _ _ (by decide), Dev.get_set_field _ _ _ _ (by decide), Dev.get_set_same]
    · rw [he]
      exact ((((((Dev.Only.refl _ s.found).set _ ⟨rfl, by decide⟩).set _ ⟨rfl, by decide⟩).setAll _ (by simp)).set _
        ⟨rfl, by decide⟩).set _ ⟨rfl, by decide⟩).set _ ⟨rfl, by decide⟩ |>.ofFound
  · have hbad : ¬ (s.dev.dq q = dqDISABLED ∧ 4 ≤ z.toNat ∧ z.toNat ≤ 16) := by omega
    refine .runElse (rfl : _ = execQueueEnable q z s) hbad fun e he => ?_
    obtain ⟨h1, h2, h3⟩ := cfgIgnored_ignores q.val he
    exact ⟨h1, h2, h3.ofFound⟩
  · have hrun : (s.found.set .DMA_Q_CTRL_ENABLE q 0).dq q = dqRUNNING := (Dev.get_set_field _ _ _ _ (by decide)).trans hq
    refine .runAs (rfl : _ = execQueueDisable q s) fun e he => ?_
    dsimp only at he
    rw [if_pos hrun] at he
    unfold Dev.syncPaused at he
    refine ⟨?_, ?_, ?_⟩
    · rw [he, Dev.get_set_field _ _ _ _ (by decide), Dev.get_set_field _ _ _ _ (by decide), Dev.get_set_same]
    · rw [he, Dev.dq, Dev.get_set_field _ _ _ _ (by decide), Dev.get_set_same]
      rfl
    · rw [he]
      exact (((Dev.Only.refl _ s.found).set _ ⟨rfl, by decide⟩).set _ ⟨rfl, by decide⟩).set _ ⟨rfl, by decide⟩ |>.ofFound
  · refine .runAs (rfl : _ = execQueueReset q s) fun e he => ?_
    obtain ⟨h1, h2, h3, h4, h5, h6, h7⟩ := Dev.resetQueue_shows q.val s.found he
    refine ⟨h1, h2, h3, h4, h5, h6, fun y hy hq => ?_⟩
    rw [h7, List.mem_filter]
    exact ⟨hy, by simpa using hq⟩
  · refine .runIf (rfl : _ = execTailWrite q t s) ht fun e he => ?_
    subst he
    exact ⟨Dev.get_set_same .., ((Dev.Only.refl _ s.found).set _ ⟨rfl, by decide⟩).ofFound⟩
  · refine .runElse (rfl : _ = execTailWrite q t s) (not_lt.mpr ht) fun e he => ?_
    obtain ⟨h1, -, h3⟩ := cfgIgnored_ignores q.val he
    exact ⟨h1, h3.ofFound⟩
  · refine .runAs (rfl : _ = execDmaQClearStats q s) fun e he => ?_
    subst he
    exact ⟨Dev.setAll_get_of_mem _ _ _ (by decide), Dev.setAll_get_of_mem _ _ _ (by decide), Dev.setAll_get_of_mem _ _ _ (by decide),
      Dev.setAll_get_of_mem _ _ _ (by decide), ((Dev.Only.refl _ s.found).setAll _ (by simp)).ofFound⟩

/-! ## What asking for data changes (R488, R490) -/

/-- A descriptor but for the requests still to issue and the time from which its age counts. -/
def Desc.core (x : Desc) : Desc := { x with toAsk := 0, since := 0 }

/-- `e` is `d` after requests for data have been issued: descriptors keep their core, and only outstanding reads move. -/
structure Dev.Asks (d e : Dev) : Prop where
  same : e = { d with reg := e.reg, descs := e.descs, out := e.out }
  get : ∀ f i, f ≠ .X_DMA_OUT → e.get f i = d.get f i
  cores : e.descs.map Desc.core = d.descs.map Desc.core
  sends : Dev.Sends d e

theorem Dev.Asks.refl (d : Dev) : Dev.Asks d d := ⟨rfl, fun _ _ _ => rfl, rfl, .refl d⟩

theorem Dev.Asks.trans {a b c : Dev} (h1 : Dev.Asks a b) (h2 : Dev.Asks b c) : Dev.Asks a c := by
  refine ⟨?_, fun f i hf => (h2.get f i hf).trans (h1.get f i hf), h2.cores.trans h1.cores, h1.sends.trans h2.sends⟩
  rw [h2.same, h1.same]

theorem replaceDesc_cores {x y : Desc} (h : y.core = x.core) (l : List Desc) :
    (replaceDesc x y l).map Desc.core = l.map Desc.core := by
  induction l with
  | nil => rfl
  | cons z l ih =>
    rw [replaceDesc]
    split
    · next hz => rw [hz, List.map_cons, List.map_cons, h]
    · rw [List.map_cons, List.map_cons, ih]

theorem ask_asks (q : Nat) (d : Dev) : Dev.Asks d (d.ask q) := by
  unfold Dev.ask
  split
  · exact .refl d
  · next x _ =>
    extract_lets total n e
    split
    · refine ⟨rfl, fun f i hf => (Dev.get_send ..).trans (Dev.get_set_field e q i _ hf), ?_, (Dev.Sends.refl d).send _⟩
      exact replaceDesc_cores (x := x) (y := { x with toAsk := x.toAsk - n }) rfl d.descs
    · exact .refl d

theorem each_asks {n : Nat} {g : Nat → Dev → Dev} (h : ∀ i d, Dev.Asks d (g i d)) (d : Dev) : Dev.Asks d (Dev.each n g d) :=
  List.foldlRecOn (List.range n) _ (motive := Dev.Asks d) (.refl d) fun e he i _ => he.trans (h i e)

theorem askAll_asks (d : Dev) : Dev.Asks d d.askAll := each_asks (fun _ d => each_asks (fun q d => ask_asks (8 + q) d) d) d

/-- The cores of a queue's descriptors follow from those of all. -/
theorem fetched_cores {d e : Dev} (h : e.descs.map Desc.core = d.descs.map Desc.core) (q : Nat) :
    (e.fetched q).map Desc.core = (d.fetched q).map Desc.core := by
  have hfilter : ∀ l : List Desc, (l.filter fun x => x.queue == q).map Desc.core = (l.map Desc.core).filter fun x => x.queue == q :=
    fun l => by
      rw [List.filter_map]
      rfl
  rw [Dev.fetched, Dev.fetched, hfilter, hfilter, h]

/-- `e` is `d` after the memory domains of a queue's descriptor have been asked to wake: only what a wake changes, the
queue's wait, and the times from which ages count. -/
structure Dev.Awaits (d e : Dev) : Prop where
  same : e = { d with reg := e.reg, pba := e.pba, descs := e.descs, out := e.out }
  get : ∀ f i, f ∉ .DMA_Q_STATUS_PAUSED :: .X_DMA_WAKE :: .X_DMA_WAIT_CLK :: settleFields → e.get f i = d.get f i
  cores : e.descs.map Desc.core = d.descs.map Desc.core
  sends : Dev.Sends d e

theorem awaitMem_awaits (q : Nat) (d : Dev) : Dev.Awaits d (d.awaitMem q) := by
  unfold Dev.awaitMem
  extract_lets ms d1 was d2
  have hwake : Dev.Settling d d1 := Dev.Settling.foldl _ (fun e m => wake_only e (domMem m) 6) ms d
  have hout : d1.out = d.out := Dev.forList_keeps Dev.out (fun m _ e => wake_out e (domMem m) 6) d
  clear_value d1
  have hdescs : d1.descs = d.descs := by rw [hwake.1]
  have h2 : ∀ f i, f ∉ .DMA_Q_STATUS_PAUSED :: .X_DMA_WAKE :: .X_DMA_WAIT_CLK :: settleFields → d2.get f i = d.get f i :=
    fun f i hf => by
      simp only [List.mem_cons, not_or] at hf
      exact (Dev.get_set_field _ _ _ _ hf.2.1).trans (hwake.2 f i hf.2.2.2)
  have hsame2 : d2 = { d with reg := d2.reg, pba := d2.pba, descs := d2.descs, out := d2.out } := by
    unfold d2
    rw [hwake.1]
    rfl
  have hmap2 : d2.descs = d.descs := hdescs
  have hsends2 : Dev.Sends d d2 := by rw [Dev.Sends, show d2.out = d.out from hout]
  clear_value d2
  unfold Dev.syncPaused
  split
  · refine ⟨?_, fun f i hf => ?_, ?_, ?_⟩
    · rw [hsame2]
      rfl
    · simp only [List.mem_cons, not_or] at hf
      exact (Dev.get_set_field _ _ _ _ hf.1).trans (h2 f i (by simp [hf]))
    · show (d2.descs.map _).map Desc.core = _
      rw [List.map_map, hmap2]
      refine List.map_congr_left fun x _ => ?_
      simp only [Function.comp]
      split <;> rfl
    · exact hsends2
  · split
    · refine ⟨?_, fun f i hf => ?_, hmap2 ▸ rfl, hsends2⟩
      · rw [hsame2]
        rfl
      · have hf' := hf
        simp only [List.mem_cons, not_or] at hf
        exact (Dev.get_set_field _ _ _ _ hf.1).trans ((Dev.get_set_field _ _ _ _ hf.2.2.1).trans (h2 f i hf'))
    · refine ⟨?_, fun f i hf => ?_, hmap2 ▸ rfl, hsends2⟩
      · rw [hsame2]
        rfl
      · have hf' := hf
        simp only [List.mem_cons, not_or] at hf
        exact (Dev.get_set_field _ _ _ _ hf.1).trans (h2 f i hf')

/-! ## The end of a descriptor (R485, R487, R492) -/

/-- The fields that the end of a descriptor's turn may change: the queue's wait, outstanding reads, and what lines raise. -/
def closeFields : List F := [.DMA_Q_STATUS_PAUSED, .X_DMA_WAKE, .X_DMA_WAIT_CLK, .X_DMA_OUT] ++ signalFields

/-- What follows the end of a descriptor: the queue waits for its memory, its lines follow its events, and data is asked for. -/
theorem closeDesc_keeps (d : Dev) (q : Nat) : (∀ f i, f ∉ closeFields → ((d.awaitMem q).syncQueue q).askAll.get f i = d.get f i) ∧
    Dev.Sends d ((d.awaitMem q).syncQueue q).askAll := by
  refine ⟨fun f i hf => ?_, ((awaitMem_awaits q d).sends.trans (syncQueue_sends _ q)).trans (askAll_asks _).sends⟩
  simp only [closeFields, List.cons_append, List.nil_append, List.mem_cons, not_or] at hf
  obtain ⟨h1, h2, h3, h4, h5⟩ := hf
  refine ((askAll_asks _).get f i h4).trans ((syncQueue_get _ _ _ h5).trans ((awaitMem_awaits q d).get f i ?_))
  simp only [List.mem_cons, not_or]
  exact ⟨h1, h2, h3, fun hs => h5 (List.mem_append_right _ hs)⟩

/-- The record of the oldest descriptor goes to the head of the ring and HEAD advances; an error stops the queue. -/
theorem finishDesc_shows (d : Dev) (q : Nat) (x : Desc) {e : Dev} (he : e = d.finishDesc q x) :
    e.get .DMA_Q_HEAD_INDEX q = (d.get .DMA_Q_HEAD_INDEX q + 1) % d.ring q ∧
      Out.hostWrite (d.get .DMA_Q_CPL_ADDR q + 16 * d.get .DMA_Q_HEAD_INDEX q) (d.record q x) false false ∈ e.out ∧ Dev.Sends d e ∧
      (errorStatus x.status = true → e.dq q = dqERROR ∧ e.get .DMA_Q_STATUS_ERR_STATUS q = x.status ∧
        e.get .DMA_Q_EVENTS_ERROR q = 1) := by
  unfold Dev.finishDesc at he
  extract_lets i d1 d2 j d3 d4 d5 d6 d6' d7 at he
  have hhead3 : d3.get .DMA_Q_HEAD_INDEX q = (d.get .DMA_Q_HEAD_INDEX q + 1) % d.ring q := by
    unfold d3
    rw [Dev.addSat, Dev.get_set_field _ _ _ _ (by decide), Dev.get_set_same]
    rfl
  have hout3 : d3.out = d.out ++ [.hostWrite (d.get .DMA_Q_CPL_ADDR q + 16 * d.get .DMA_Q_HEAD_INDEX q) (d.record q x) false false] :=
    rfl
  clear_value d3
  have hkeep4 : d4.get .DMA_Q_HEAD_INDEX q = d3.get .DMA_Q_HEAD_INDEX q ∧ d4.out = d3.out := by
    unfold d4
    split
    · exact ⟨Dev.get_set_field _ _ _ _ (by decide), rfl⟩
    · exact ⟨rfl, rfl⟩
  clear_value d4
  have hkeep5 : d5.get .DMA_Q_HEAD_INDEX q = d4.get .DMA_Q_HEAD_INDEX q ∧ d5.out = d4.out := by
    unfold d5
    split
    · exact ⟨Dev.get_set_field _ _ _ _ (by decide), rfl⟩
    · exact ⟨rfl, rfl⟩
  clear_value d5
  have hkeep6 : d6.get .DMA_Q_HEAD_INDEX q = d5.get .DMA_Q_HEAD_INDEX q ∧ d6.out = d5.out := by
    unfold d6
    split
    · exact ⟨(Dev.get_set_field _ _ _ _ (by decide)).trans (Dev.get_set_field _ _ _ _ (by decide)), rfl⟩
    · exact ⟨rfl, rfl⟩
  clear_value d6
  have hkeep7 : d7.get .DMA_Q_HEAD_INDEX q = d6.get .DMA_Q_HEAD_INDEX q ∧ d7.out = d6.out := by
    unfold d7
    split
    · exact ⟨by simp, rfl⟩
    · split
      · exact ⟨Dev.get_set_field (f := .DMA_Q_STATUS_STATE) (g := .DMA_Q_HEAD_INDEX) d6 q q dqDISABLED (by decide), rfl⟩
      · exact ⟨rfl, rfl⟩
  have herr7 : errorStatus x.status = true → d7 =
      ((d6.set .DMA_Q_STATUS_STATE q dqERROR).set .DMA_Q_STATUS_ERR_STATUS q x.status).set .DMA_Q_EVENTS_ERROR q 1 :=
    fun h => if_pos h
  clear_value d7
  obtain ⟨hget, hsends⟩ := closeDesc_keeps d7 q
  rw [← he] at hget hsends
  have hout7 : d7.out = d3.out := hkeep7.2.trans (hkeep6.2.trans (hkeep5.2.trans hkeep4.2))
  refine ⟨?_, hsends.mem ?_, ?_, fun herr => ⟨?_, ?_, ?_⟩⟩
  · rw [hget _ _ (by decide), hkeep7.1, hkeep6.1, hkeep5.1, hkeep4.1, hhead3]
  · rw [hout7, hout3]
    exact List.mem_append_right _ (.head _)
  · refine Dev.Sends.trans ?_ hsends
    rw [Dev.Sends, hout7, hout3]
    exact List.prefix_append ..
  · rw [Dev.dq, hget _ _ (by decide), herr7 herr]
    simp
  · rw [hget _ _ (by decide), herr7 herr]
    simp
  · rw [hget _ _ (by decide), herr7 herr]
    simp

/-! ## Units to the host (R474, R488, R490) -/

theorem bytesNow_drop (d : Dev) (a n k : Nat) : (d.bytesNow a n).drop k = d.bytesNow (a + k) (n - k) := by
  refine List.ext_getElem (by simp [Dev.bytesNow]) fun i h1 h2 => ?_
  simp [Dev.bytesNow, Nat.add_assoc]

theorem bytesNow_take (d : Dev) (a n m : Nat) : (d.bytesNow a n).take m = d.bytesNow a (min m n) := by
  refine List.ext_getElem (by simp [Dev.bytesNow]) fun i h1 h2 => ?_
  simp [Dev.bytesNow]

theorem hostData_only (d : Dev) (a : Nat) (bs : List Byte) (bad : Bool) :
    d.hostData a bs bad = { d with out := (d.hostData a bs bad).out } ∧ Dev.Sends d (d.hostData a bs bad) := by
  unfold Dev.hostData Dev.each
  refine List.foldlRecOn _ _ (motive := fun e => e = { d with out := e.out } ∧ Dev.Sends d e) ⟨rfl, .refl d⟩ fun e he i _ => ?_
  exact ⟨by rw [he.1]; rfl, he.2.send _⟩

/-- R474: every write request of some data. -/
theorem hostData_writes (d : Dev) (a : Nat) (bs : List Byte) (bad : Bool) {i : Nat} (hpos : 0 < d.get .X_PCIE_MPS 0)
    (hi : d.get .X_PCIE_MPS 0 * i < bs.length) : Out.hostWrite (a + d.get .X_PCIE_MPS 0 * i)
      ((bs.drop (d.get .X_PCIE_MPS 0 * i)).take (d.get .X_PCIE_MPS 0)) (d.on .X_PCIE_RO 0) bad ∈ (d.hostData a bs bad).out := by
  have hmax : max 1 (d.get .X_PCIE_MPS 0) = d.get .X_PCIE_MPS 0 := by omega
  unfold Dev.hostData
  rw [hmax]
  generalize hn : d.get .X_PCIE_MPS 0 = n at *
  have hlt : i < (bs.length + n - 1) / n := by
    rw [Nat.lt_iff_add_one_le, Nat.le_div_iff_mul_le hpos]
    have : (i + 1) * n = n * i + n := by ring
    omega
  have hall : ∀ k, i < k → Out.hostWrite (a + n * i) ((bs.drop (n * i)).take n) (d.on .X_PCIE_RO 0) bad ∈
      (Dev.each k (fun i d => d.send (.hostWrite (a + n * i) ((bs.drop (n * i)).take n) (d.on .X_PCIE_RO 0) bad)) d).out := by
    intro k hk
    induction k with
    | zero => omega
    | succ k ih =>
      have hro : (Dev.each k (fun i d => d.send (.hostWrite (a + n * i) ((bs.drop (n * i)).take n) (d.on .X_PCIE_RO 0) bad)) d).on
          .X_PCIE_RO 0 = d.on .X_PCIE_RO 0 := Dev.each_keeps (fun e => e.on .X_PCIE_RO 0)
        (g := fun i d => d.send (.hostWrite (a + n * i) ((bs.drop (n * i)).take n) (d.on .X_PCIE_RO 0) bad)) (fun _ _ _ => rfl) d
      unfold Dev.each at ih hro ⊢
      rw [List.range_succ, List.foldl_append, List.foldl_cons, List.foldl_nil, Dev.out_send, hro]
      rcases Nat.lt_succ_iff_lt_or_eq.mp hk with h | rfl
      · exact List.mem_append_left _ (ih h)
      · exact List.mem_append_right _ (.head _)
  exact hall _ hlt

theorem removed_first {q : Nat} {x : Desc} {l rest : List Desc} (y : Desc) (hy : y.queue = x.queue)
    (h : l.filter (fun z => z.queue == q) = x :: rest) : (replaceDesc x y l).filter (fun z => z.queue == q) = y :: rest := by
  have hx : x.queue = q := by
    have := (List.mem_filter.mp (h ▸ List.mem_cons_self : x ∈ l.filter fun z => z.queue == q)).2
    simpa using this
  induction l with
  | nil => cases h
  | cons z l ih =>
    rw [replaceDesc]
    by_cases hz : z.queue = q
    · rw [List.filter_cons_of_pos (by simpa using hz)] at h
      obtain ⟨rfl, hl⟩ := List.cons.inj h
      rw [if_pos rfl, List.filter_cons_of_pos (by simpa [hy] using hz), hl]
    · have hne : z ≠ x := fun he => hz (he ▸ hx)
      rw [List.filter_cons_of_neg (by simpa using hz)] at h
      rw [if_neg hne, List.filter_cons_of_neg (by simpa using hz), ih h]

theorem replaced_other {p : Nat} {x y : Desc} (hx : x.queue ≠ p) (hy : y.queue = x.queue) (l : List Desc) :
    (replaceDesc x y l).filter (fun z => z.queue == p) = l.filter (fun z => z.queue == p) := by
  induction l with
  | nil => rfl
  | cons z l ih =>
    rw [replaceDesc]
    split
    · next hz =>
      subst hz
      rw [List.filter_cons_of_neg (by simpa [hy] using hx), List.filter_cons_of_neg (by simpa using hx)]
    · by_cases hz : z.queue = p
      · rw [List.filter_cons_of_pos (by simpa using hz), List.filter_cons_of_pos (by simpa using hz), ih]
      · rw [List.filter_cons_of_neg (by simpa using hz), List.filter_cons_of_neg (by simpa using hz), ih]

/-- `e` is `d` after units of queue `q` have gone to the host: other queues keep their descriptors, and memory reads what it did. -/
structure Dev.Moves (q : Nat) (d e : Dev) : Prop where
  same : e = { d with reg := e.reg, mreqs := e.mreqs, descs := e.descs, out := e.out }
  get : ∀ f i, f ≠ .X_DMA_TURN → f ≠ .DMA_Q_BYTES_COUNT → e.get f i = d.get f i
  fetched : ∀ p, p ≠ q → e.fetched p = d.fetched p
  cellNow : ∀ a, e.cellNow a = d.cellNow a
  sends : Dev.Sends d e

theorem Dev.Moves.refl (q : Nat) (d : Dev) : Dev.Moves q d d := ⟨rfl, fun _ _ _ _ => rfl, fun _ _ => rfl, fun _ => rfl, .refl d⟩

theorem Dev.Moves.trans {q : Nat} {a b c : Dev} (h1 : Dev.Moves q a b) (h2 : Dev.Moves q b c) : Dev.Moves q a c := by
  refine ⟨?_, fun f i hf hg => (h2.get f i hf hg).trans (h1.get f i hf hg), fun p hp => (h2.fetched p hp).trans (h1.fetched p hp),
    fun a => (h2.cellNow a).trans (h1.cellNow a), h1.sends.trans h2.sends⟩
  rw [h2.same, h1.same]

theorem Dev.Moves.bytesNow {q : Nat} {d e : Dev} (h : Dev.Moves q d e) (a n : Nat) : e.bytesNow a n = d.bytesNow a n := by
  unfold Dev.bytesNow
  simp only [h.cellNow]

/-- A read that arrives does not change what later reads find. -/
theorem memRead_cellNow (d : Dev) (cls a n : Nat) (bad : Bool) (b : Nat) : (d.memRead cls a n bad).cellNow b = d.cellNow b := by
  unfold Dev.cellNow Dev.memRead
  dsimp only
  rw [List.foldl_append, List.foldl_map]
  exact List.foldl_fixed' (fun u => by simp) _

/-- R488: one unit of queue `q`'s descriptor. -/
theorem moveUnit_moves {d : Dev} {q : Nat} {x : Desc} {rest : List Desc} (hfetched : d.fetched q = x :: rest) :
    Dev.Moves q d (d.moveUnit q false x) ∧ (d.moveUnit q false x).fetched q =
      { x with moved := x.moved + min 4096 (x.len - x.moved), since := d.clk } :: rest := by
  have hx : x.queue = q := by
    have := (List.mem_filter.mp (hfetched ▸ List.mem_cons_self : x ∈ d.fetched q)).2
    simpa using this
  unfold Dev.moveUnit
  extract_lets n bad a d1 y
  have hbad : bad = false := rfl
  have hy : y = { x with moved := x.moved + min 4096 (x.len - x.moved), since := d.clk } := by
    unfold y
    rw [hbad, if_neg Bool.false_ne_true]
    have hclk : d1.clk = d.clk := by
      unfold d1 Dev.memRead
      rw [(hostData_only d _ _ _).1]
    rw [hclk]
  have hdata := hostData_only d (x.host + x.moved) (d.bytesNow a n) bad
  have hcell : ∀ b, d1.cellNow b = d.cellNow b := fun b => by
    unfold d1
    rw [memRead_cellNow, hdata.1]
    rfl
  have hsame1 : d1 = { d with mreqs := d1.mreqs, out := d1.out } := by
    unfold d1 Dev.memRead
    rw [hdata.1]
  have hsends1 : Dev.Sends d d1 := hdata.2
  clear_value d1
  have hdescs : d1.descs = d.descs := by rw [hsame1]
  have hreg : d1.reg = d.reg := by rw [hsame1]
  rw [hy]
  refine ⟨⟨?_, fun f i h1 h2 => ?_, fun p hp => ?_, fun b => ?_, hsends1⟩, ?_⟩
  · rw [hsame1]
    rfl
  · rw [Dev.addWrap, Dev.get_set_field _ _ _ _ h2]
    exact congrArg (fun s => Store.get s ⟨f, i⟩) hreg
  · show (replaceDesc x _ d1.descs).filter _ = _
    rw [hdescs]
    exact replaced_other (y := { x with moved := x.moved + min 4096 (x.len - x.moved), since := d.clk })
      (hx.trans_ne hp.symm) rfl d.descs
  · exact (hcell b)
  · show (replaceDesc x _ d1.descs).filter _ = _
    rw [hdescs]
    exact removed_first _ rfl hfetched

/-- R474, R488: the write requests of one unit. -/
theorem moveUnit_writes {d : Dev} {q : Nat} {x : Desc} {i : Nat} (hpos : 0 < d.get .X_PCIE_MPS 0)
    (hi : d.get .X_PCIE_MPS 0 * i < 4096) (ho : x.moved + d.get .X_PCIE_MPS 0 * i < x.len) :
    Out.hostWrite (x.host + (x.moved + d.get .X_PCIE_MPS 0 * i))
      (d.bytesNow (x.dev + (x.moved + d.get .X_PCIE_MPS 0 * i)) (min (d.get .X_PCIE_MPS 0)
        (min (4096 - d.get .X_PCIE_MPS 0 * i) (x.len - (x.moved + d.get .X_PCIE_MPS 0 * i))))) (d.on .X_PCIE_RO 0) false ∈
      (d.moveUnit q false x).out := by
  have hlen : (d.bytesNow (x.dev + x.moved) (min 4096 (x.len - x.moved))).length = min 4096 (x.len - x.moved) := by
    simp [Dev.bytesNow]
  have hw := hostData_writes d (x.host + x.moved) (d.bytesNow (x.dev + x.moved) (min 4096 (x.len - x.moved))) false (i := i) hpos
    (by rw [hlen]; omega)
  rw [bytesNow_drop, bytesNow_take, Nat.add_assoc, Nat.add_assoc] at hw
  have hmin : min 4096 (x.len - x.moved) - d.get .X_PCIE_MPS 0 * i =
      min (4096 - d.get .X_PCIE_MPS 0 * i) (x.len - (x.moved + d.get .X_PCIE_MPS 0 * i)) := by omega
  rw [hmin] at hw
  exact hw

/-- The only queue with a unit to move is `q`, with descriptor `x`. -/
def Dev.Alone (d : Dev) (q : Nat) (x : Desc) : Prop :=
  d.generalReady q = some x ∧ (∀ p < 8, d.captureReady p = none) ∧ ∀ p < 16, 8 ≤ p → p ≠ q → d.generalReady p = none

theorem nextTurn_mem {d : Dev} {kind lo p : Nat} {r : Nat → Bool} (h : d.nextTurn kind lo r = some p) :
    lo ≤ p ∧ p < lo + 8 ∧ r p = true := by
  have hmem := List.mem_of_find?_eq_some h
  obtain ⟨i, -, rfl⟩ := List.mem_map.mp hmem
  have := Nat.mod_lt (d.get .X_DMA_TURN kind + 1 + i) (by decide : 0 < 8)
  exact ⟨Nat.le_add_right .., by omega, List.find?_some h⟩

theorem nextTurn_isSome {d : Dev} {kind lo p : Nat} {r : Nat → Bool} (h1 : lo ≤ p) (h2 : p < lo + 8) (hp : r p = true) :
    (d.nextTurn kind lo r).isSome := by
  rw [Dev.nextTurn, List.find?_isSome]
  refine ⟨p, List.mem_map.mpr ⟨(p - lo + 8 - (d.get .X_DMA_TURN kind + 1) % 8) % 8, List.mem_range.mpr (Nat.mod_lt _ (by decide)), ?_⟩, hp⟩
  have := Nat.mod_lt (d.get .X_DMA_TURN kind + 1) (by decide : 0 < 8)
  omega

/-- R490: the turn of a queue that is alone. -/
theorem unitTurn_alone {d : Dev} {q : Nat} {x : Desc} (hq : 8 ≤ q) (hq' : q < 16) (h : d.Alone q x) :
    d.unitTurn none none = (d.set .X_DMA_TURN 1 (q - 8)).moveUnit q false x := by
  obtain ⟨hready, hcapture, hother⟩ := h
  have honly : ∀ p, 8 ≤ p → p < 16 → (d.generalReady p).isSome → p = q := fun p h1 h2 hs => by
    by_contra hne
    rw [hother p h2 h1 hne] at hs
    cases hs
  unfold Dev.unitTurn
  extract_lets general
  have hgeneral : general q = (d.set .X_DMA_TURN 1 (q - 8)).moveUnit q false x := by
    unfold general
    rw [hready]
    rfl
  split
  · next p hp =>
    obtain ⟨h1, h2, hurgent⟩ := nextTurn_mem hp
    have hs : (d.generalReady p).isSome := by
      unfold Dev.generalUrgent at hurgent
      cases hg : d.generalReady p with
      | none =>
        rw [hg] at hurgent
        cases hurgent
      | some => rfl
    rw [honly p h1 h2 hs, hgeneral]
  · split
    · next p hp =>
      obtain ⟨-, h2, hs⟩ := nextTurn_mem hp
      rw [hcapture p h2] at hs
      cases hs
    · split
      · next p hp =>
        obtain ⟨h1, h2, hs⟩ := nextTurn_mem hp
        rw [honly p h1 h2 hs, hgeneral]
      · next hnone =>
        have hs := nextTurn_isSome (d := d) (kind := 1) (r := fun q => (d.generalReady q).isSome) hq hq' (by simp [hready])
        rw [hnone] at hs
        cases hs

theorem Dev.Moves.queueGoes {q : Nat} {d e : Dev} (h : Dev.Moves q d e) (p : Nat) : e.queueGoes p = d.queueGoes p := by
  unfold Dev.queueGoes Dev.dqLive Dev.dq Dev.on
  rw [h.get _ _ (by decide) (by decide), h.get .DMA_Q_STATUS_PAUSED _ (by decide) (by decide)]

theorem Dev.Moves.generalReady {q : Nat} {d e : Dev} (h : Dev.Moves q d e) {p : Nat} (hp : p ≠ q) :
    e.generalReady p = d.generalReady p := by
  unfold Dev.generalReady
  rw [h.fetched p hp, h.queueGoes]

theorem openDesc_eq (d : Dev) (p : Nat) : d.openDesc p = match (d.fetched p).head? with
    | some x => if x.status = 0 ∧ x.moved + 4096 ≤ x.len then some x else none
    | none => none := by
  unfold Dev.openDesc Dev.fetched
  rw [List.head?_filter]
  rfl

theorem Dev.Moves.captureReady {q : Nat} {d e : Dev} (h : Dev.Moves q d e) {p : Nat} (hp : p ≠ q) :
    e.captureReady p = d.captureReady p := by
  have hopen : e.openDesc p = d.openDesc p := by rw [openDesc_eq, openDesc_eq, h.fetched p hp]
  have hlget : ∀ f i, e.lget f i = d.lget f i := fun f i => by
    unfold Dev.lget
    rw [h.same]
  unfold Dev.captureReady Dev.blockWaits Dev.dq Dev.on Dev.tapMode Dev.tapState
  rw [hopen, h.get _ _ (by decide) (by decide), h.get .DMA_Q_STATUS_PAUSED _ (by decide) (by decide)]
  simp only [hlget, h.get .X_CAP_QUEUED _ (by decide) (by decide), h.get .CAP_T_STATUS_STATE _ (by decide) (by decide)]

theorem Desc.all_moved {x : Desc} (h : x.moved = x.len) : { x with moved := x.len, since := x.since } = x := by
  cases x
  cases h
  rfl

/-- R488: the units of a descriptor whose queue is alone: they leave in order until all its bytes have moved. -/
theorem unitTurns_moves {q : Nat} (hq : 8 ≤ q) (hq' : q < 16) {rest : List Desc} (fuel : Nat) : ∀ {d : Dev} {x : Desc},
    d.queueGoes q = true → d.fetched q = x :: rest → x.status = 0 → x.toHost = true → x.moved ≤ x.len → x.len - x.moved ≤ 4096 * fuel →
    (∀ p < 8, d.captureReady p = none) → (∀ p < 16, 8 ≤ p → p ≠ q → d.generalReady p = none) → 0 < d.get .X_PCIE_MPS 0 →
    ∃ e, e = Dev.unitTurns none none (fun d => (d.generalReady q).isSome) fuel d ∧ Dev.Moves q d e ∧
      (∃ since, e.fetched q = { x with moved := x.len, since := since } :: rest) ∧
      ∀ u i o, o = x.moved + 4096 * u + d.get .X_PCIE_MPS 0 * i → d.get .X_PCIE_MPS 0 * i < 4096 → o < x.len →
        Out.hostWrite (x.host + o) (d.bytesNow (x.dev + o) (min (d.get .X_PCIE_MPS 0)
          (min (4096 - d.get .X_PCIE_MPS 0 * i) (x.len - o)))) (d.on .X_PCIE_RO 0) false ∈ e.out := by
  induction fuel with
  | zero =>
    intro d x hgoes hfetched hstatus hhost hle hfuel hcap hother hpos
    have hlen : x.moved = x.len := by omega
    exact ⟨d, rfl, .refl q d, ⟨x.since, by rw [hfetched, Desc.all_moved hlen]⟩, fun u i o ho hi hlt => by omega⟩
  | succ fuel ih =>
    intro d x hgoes hfetched hstatus hhost hle hfuel hcap hother hpos
    have hready : d.generalReady q = if x.moved < x.len then some x else none := by
      unfold Dev.generalReady
      rw [hfetched, List.head?_cons]
      simp [hgoes, hhost, hstatus]
    by_cases hlt : x.moved < x.len
    · rw [if_pos hlt] at hready
      have hturn := unitTurn_alone hq hq' ⟨hready, hcap, hother⟩
      have hset : Dev.Moves q d (d.set .X_DMA_TURN 1 (q - 8)) :=
        ⟨rfl, fun f i h1 _ => Dev.get_set_field _ _ _ _ h1, fun _ _ => rfl, fun _ => rfl, .refl d⟩
      obtain ⟨hmove, hfetched'⟩ := moveUnit_moves (d := d.set .X_DMA_TURN 1 (q - 8)) (q := q) (x := x) (rest := rest) hfetched
      have hmoves := hset.trans hmove
      rw [← hturn] at hmoves hfetched'
      have hmps : (d.unitTurn none none).get .X_PCIE_MPS 0 = d.get .X_PCIE_MPS 0 := hmoves.get _ _ (by decide) (by decide)
      have hro : (d.unitTurn none none).on .X_PCIE_RO 0 = d.on .X_PCIE_RO 0 := by
        unfold Dev.on
        rw [hmoves.get _ _ (by decide) (by decide)]
      obtain ⟨e, he, hm, ⟨since, hs⟩, hw⟩ := ih (d := d.unitTurn none none)
        (x := { x with moved := x.moved + min 4096 (x.len - x.moved), since := d.clk })
        ((hmoves.queueGoes q).trans hgoes) hfetched' hstatus hhost (by simp only; omega) (by simp only; omega)
        (fun p hp => (hmoves.captureReady (by omega)).trans (hcap p hp))
        (fun p h1 h2 h3 => (hmoves.generalReady h3).trans (hother p h1 h2 h3)) (by rw [hmps]; exact hpos)
      refine ⟨e, ?_, hmoves.trans hm, ⟨since, hs⟩, fun u i o ho hi hlen => ?_⟩
      · rw [he, Dev.unitTurns]
        simp [hready]
      · cases u with
        | zero =>
          refine (hm.sends.mem ?_)
          rw [hturn]
          have hmps0 : (d.set .X_DMA_TURN 1 (q - 8)).get .X_PCIE_MPS 0 = d.get .X_PCIE_MPS 0 := hset.get _ _ (by decide) (by decide)
          have hro0 : (d.set .X_DMA_TURN 1 (q - 8)).on .X_PCIE_RO 0 = d.on .X_PCIE_RO 0 := by
            unfold Dev.on
            rw [hset.get _ _ (by decide) (by decide)]
          have ho' : o = x.moved + d.get .X_PCIE_MPS 0 * i := by omega
          have h := moveUnit_writes (d := d.set .X_DMA_TURN 1 (q - 8)) (q := q) (x := x) (i := i) (by rw [hmps0]; exact hpos)
            (by rw [hmps0]; exact hi) (by rw [hmps0]; omega)
          rw [hmps0, hro0, hset.bytesNow, ← ho'] at h
          exact h
        | succ u =>
          rw [hmps, hro] at hw
          have h := hw u i o (by simp only; omega) hi hlen
          rw [hmoves.bytesNow] at h
          exact h
    · rw [if_neg hlt] at hready
      have hlen : x.moved = x.len := by omega
      refine ⟨d, ?_, .refl q d, ⟨x.since, by rw [hfetched, Desc.all_moved hlen]⟩, fun u i o ho hi hlt => by omega⟩
      rw [Dev.unitTurns]
      simp [hready]

/-! ## Commands of a descriptor -/

/-- A descriptor with the core of another has its fields. -/
theorem Desc.core_inj {x y : Desc} (h : x.core = y.core) : x.host = y.host ∧ x.dev = y.dev ∧ x.len = y.len ∧ x.tag = y.tag ∧
    x.status = y.status ∧ x.moved = y.moved := by
  simp only [Desc.core, Desc.mk.injEq] at h
  simp [h]

/-- Asking for data leaves the oldest descriptor of a queue with its core. -/
theorem askAll_head {d : Dev} {q : Nat} {x : Desc} {rest : List Desc} (h : d.fetched q = x :: rest) :
    ∃ y, (d.askAll.fetched q).head? = some y ∧ y.core = x.core := by
  have hcores := fetched_cores (askAll_asks d).cores q
  rw [h, List.map_cons] at hcores
  obtain ⟨y, l, hl, hy, -⟩ := List.map_eq_cons_iff.mp hcores
  exact ⟨y, by rw [hl, List.head?_cons], hy⟩

/-- R485, R487: a fetched descriptor joins its queue with the status of its checks. -/
theorem descriptorFetch_joins {q : Fin 16} {s : State} {x : DmaDescriptor} (hq : s.dev.dq q = dqRUNNING)
    (hpaused : s.dev.get .DMA_Q_STATUS_PAUSED q ≠ 1) (htail : s.dev.fetchIndex q ≠ s.dev.get .DMA_Q_TAIL_INDEX q) :
    Completes (.descriptorFetch q x) s fun e => (e.fetched q).length = (s.dev.fetched q).length + 1 ∧
      ∃ y, (e.fetched q).getLast? = some y ∧ y.host = x.host.toNat ∧ y.dev = x.dev.toNat ∧ y.len = x.len.toNat ∧
        y.tag = x.tag.toNat ∧ y.status = s.dev.checkDesc q x ∧ y.moved = 0 := by
  refine .runIf (rfl : _ = execDescriptorFetch q x s) ⟨hq, by simpa [Dev.on_def] using hpaused, htail⟩ fun e he => ?_
  extract_lets y at he
  have hfetched : Dev.fetched { s.found with descs := s.found.descs ++ [y] } q = s.dev.fetched q ++ [y] := by
    unfold Dev.fetched
    rw [List.filter_append]
    exact congrArg (_ ++ ·) (List.filter_cons_of_pos (by simp [y]))
  have hcores := fetched_cores ((askAll_asks _).cores.trans (awaitMem_awaits q { s.found with descs := s.found.descs ++ [y] }).cores) q
  rw [← he, hfetched] at hcores
  refine ⟨?_, ?_⟩
  · simpa using congrArg List.length hcores
  · have hlast := congrArg List.getLast? hcores
    rw [List.getLast?_map, List.getLast?_map, List.getLast?_append, List.getLast?_singleton, Option.some_or] at hlast
    obtain ⟨z, hz, hcore⟩ := Option.map_eq_some_iff.mp hlast
    exact ⟨z, hz, Desc.core_inj hcore⟩

theorem Desc.bytes_eq (x y : Desc) (h1 : x.status = y.status) (h2 : x.moved = y.moved) (h3 : x.spoilt = y.spoilt) :
    x.bytes = y.bytes := by
  unfold Desc.bytes
  rw [h1, h2, h3]

theorem unitTurns_idle {badQ badT : Option Nat} {p : Dev → Bool} (fuel : Nat) (d : Dev) (h : p d = false) :
    Dev.unitTurns badQ badT p fuel d = d := by
  cases fuel with
  | zero => rfl
  | succ fuel => exact if_neg (by simp [h])

/-- R487: a descriptor with an error stops its queue. -/
theorem descriptorComplete_stops {q : Fin 16} {s : State} {x : Desc} {rest : List Desc} {bad : Bool} (hlive : s.dev.dqLive q = true)
    (hpaused : s.dev.get .DMA_Q_STATUS_PAUSED q ≠ 1) (hfetched : s.dev.fetched q = x :: rest) (herr : errorStatus x.status = true) :
    Completes (.descriptorComplete q bad) s fun e => e.dq q = dqERROR ∧ e.get .DMA_Q_STATUS_ERR_STATUS q = x.status ∧
      e.get .DMA_Q_HEAD_INDEX q = (s.dev.get .DMA_Q_HEAD_INDEX q + 1) % s.dev.ring q ∧ e.get .DMA_Q_EVENTS_ERROR q = 1 ∧
      Out.hostWrite (s.dev.get .DMA_Q_CPL_ADDR q + 16 * s.dev.get .DMA_Q_HEAD_INDEX q) (s.dev.record q x) false false ∈ e.out := by
  refine .runAs (rfl : _ = execDescriptorComplete q bad s) fun e he => ?_
  have hgoes : s.found.queueGoes q = true := by
    have hlive : s.found.dqLive q = true := hlive
    unfold Dev.queueGoes
    rw [hlive]
    simpa [Dev.on_def] using hpaused
  have hfetched : s.found.fetched q = x :: rest := hfetched
  have hready : s.found.generalReady q = none := by
    have hstatus : ¬ (x.status = 0 ∨ x.status = 7) := by
      unfold errorStatus at herr
      simp only [Bool.and_eq_true, bne_iff_ne] at herr
      omega
    unfold Dev.generalReady
    rw [hfetched, List.head?_cons]
    simp [hstatus]
  have hturns : (if q.val < 8 then s.found else Dev.unitTurns (if bad then some q.val else none) none
      (fun d => (d.generalReady q).isSome) maxUnits s.found) = s.found := by
    split
    · rfl
    · exact unitTurns_idle _ _ (by simp [hready])
  have hfinish : e = s.found.finishDesc q x := by
    rw [he]
    unfold Dev.completeDesc
    rw [hgoes, hturns, if_neg (by decide)]
    dsimp only
    rw [hfetched, List.head?_cons]
    exact if_pos (by rw [herr]; rfl)
  obtain ⟨h1, h2, -, h3⟩ := finishDesc_shows s.found q x hfinish
  obtain ⟨h3, h4, h5⟩ := h3 herr
  exact ⟨h3, h4, h1, h5, h2⟩

theorem Dev.Moves.record {q : Nat} {d e : Dev} (h : Dev.Moves q d e) (x y : Desc) (htag : x.tag = y.tag) (hstatus : x.status = y.status)
    (hmoved : x.moved = y.moved) (hspoilt : x.spoilt = y.spoilt) : e.record q x = d.record q y := by
  unfold Dev.record Dev.now
  rw [h.get _ _ (by decide) (by decide), h.get .DMA_Q_STATUS_PHASE _ (by decide) (by decide), h.get .TIME_NOW_NOW _ (by decide) (by decide),
    htag, hstatus, Desc.bytes_eq x y hstatus hmoved hspoilt]

/-- R474, R488: a descriptor that moves data to the host, alone: its data and then its record. -/
theorem descriptorComplete_moves {q : Fin 16} {s : State} {x : Desc} {rest : List Desc} (hlive : s.dev.dqLive q = true)
    (hpaused : s.dev.get .DMA_Q_STATUS_PAUSED q ≠ 1) (hfetched : s.dev.fetched q = x :: rest) (hq : 8 ≤ q.val) (hstatus : x.status = 0)
    (hhost : x.toHost = true) (hmoved : x.moved < x.len) (hlen : x.len < 2 ^ 24) (hcap : ∀ p < 8, s.dev.captureReady p = none)
    (hother : ∀ p < 16, 8 ≤ p → p ≠ q.val → s.dev.generalReady p = none) (hpos : 0 < s.dev.get .X_PCIE_MPS 0) :
    Completes (.descriptorComplete q false) s fun e =>
      e.get .DMA_Q_HEAD_INDEX q = (s.dev.get .DMA_Q_HEAD_INDEX q + 1) % s.dev.ring q ∧
      (∀ u i o, o = x.moved + 4096 * u + s.dev.get .X_PCIE_MPS 0 * i → s.dev.get .X_PCIE_MPS 0 * i < 4096 → o < x.len →
        Out.hostWrite (x.host + o) (s.dev.bytesNow (x.dev + o) (min (s.dev.get .X_PCIE_MPS 0)
          (min (4096 - s.dev.get .X_PCIE_MPS 0 * i) (x.len - o)))) (s.dev.on .X_PCIE_RO 0) false ∈ e.out) ∧
      Out.hostWrite (s.dev.get .DMA_Q_CPL_ADDR q + 16 * s.dev.get .DMA_Q_HEAD_INDEX q)
        (s.dev.record q { x with moved := x.len }) false false ∈ e.out := by
  refine .runAs (rfl : _ = execDescriptorComplete q false s) fun e he => ?_
  have hgoes : s.found.queueGoes q = true := by
    have hlive : s.found.dqLive q = true := hlive
    unfold Dev.queueGoes
    rw [hlive]
    simpa [Dev.on_def] using hpaused
  obtain ⟨b, hb, hm, ⟨since, hs⟩, hw⟩ := unitTurns_moves (d := s.found) hq q.isLt maxUnits hgoes hfetched hstatus hhost hmoved.le
    (by unfold maxUnits; omega) hcap hother hpos
  have hfinish : e = b.finishDesc q { x with moved := x.len, since := since } := by
    rw [he]
    unfold Dev.completeDesc
    rw [hgoes, if_neg (by decide)]
    dsimp only
    rw [if_neg (not_lt.mpr hq), if_neg Bool.false_ne_true, ← hb, hs, List.head?_cons]
    have hlanded : b.dataLanded { x with moved := x.len, since := since } = true := by
      have hhost : Desc.toHost { x with moved := x.len, since := since } = true := hhost
      rw [Dev.dataLanded, hhost]
      rfl
    dsimp only
    rw [hstatus, if_neg (by decide), if_pos ⟨rfl, hlanded⟩]
  obtain ⟨h1, h2, h3, -⟩ := finishDesc_shows b q _ hfinish
  have hring : b.ring q = s.dev.ring q := by
    unfold Dev.ring
    rw [hm.get _ _ (by decide) (by decide)]
    rfl
  rw [hm.get _ _ (by decide) (by decide), hring] at h1
  rw [hm.get .DMA_Q_CPL_ADDR _ (by decide) (by decide), hm.get .DMA_Q_HEAD_INDEX _ (by decide) (by decide),
    hm.record { x with moved := x.len, since := since } { x with moved := x.len } rfl rfl rfl rfl] at h2
  exact ⟨h1, fun u i o ho hi hlt => h3.mem (hw u i o ho hi hlt), h2⟩

/-- What a completion of a read request does to the descriptor in progress. -/
theorem readCompletion_moves {q : Fin 16} {s : State} {data : List Byte} {x : Desc} {rest : List Desc}
    (hout : s.dev.get .X_DMA_OUT q ≠ 0) (hfetched : s.dev.fetched q = x :: rest) (hq : 8 ≤ q.val) (hhost : x.toHost = false)
    (hstatus : x.status = 0) (last : Bool) (r : HostCompletion) : Completes (.readCompletion q false last r data) s fun e =>
      ∃ y, (e.fetched q).head? = some y ∧ y.core = (match r with
        | .ok => { x with moved := x.moved + min data.length (x.len - x.moved) }
        | .poisoned => { x with
            moved := x.moved + min data.length (x.len - x.moved)
            spoilt := x.spoilt + min data.length (x.len - x.moved)
            status := 7 }
        | .unsupported | .abort => { x with status := 5 } : Desc).core := by
  refine .runElse (rfl : _ = execReadCompletion q false last r data s) Bool.false_ne_true fun e he => ?_
  have hout : ¬ s.found.get .X_DMA_OUT q = 0 := hout
  rw [if_neg hout] at he
  unfold Dev.readDone at he
  extract_lets d1 at he
  have hdescs : d1.descs = s.dev.descs := by
    unfold d1
    split <;> rfl
  clear_value d1
  have hfetched : d1.fetched q = x :: rest := by
    unfold Dev.fetched at hfetched ⊢
    rw [hdescs, hfetched]
  have hcond : ¬ (q.val < 8 ∨ x.toHost = true ∨ (!(x.status == 0 || x.status == 7)) = true) := by
    simp [hq, hhost, hstatus]
  have hlen : (data.take (x.len - x.moved)).length = min data.length (x.len - x.moved) := by
    rw [List.length_take, Nat.min_comm]
  rw [hfetched, List.head?_cons] at he
  simp only [if_neg hcond] at he
  have hreplaced : ∀ (b : Dev) (y : Desc), b.descs = replaceDesc x y d1.descs → y.queue = x.queue → b.fetched q = y :: rest :=
    fun b y hb hy => by
      rw [Dev.fetched, hb]
      exact removed_first y hy hfetched
  rw [← hlen, he]
  cases r with
  | ok => exact askAll_head (hreplaced _ { x with moved := x.moved + (data.take (x.len - x.moved)).length } rfl rfl)
  | poisoned => exact askAll_head (hreplaced _ { x with
      moved := x.moved + (data.take (x.len - x.moved)).length
      spoilt := x.spoilt + (data.take (x.len - x.moved)).length
      status := 7 } rfl rfl)
  | unsupported => exact askAll_head (hreplaced _ { x with status := 5 } rfl rfl)
  | abort => exact askAll_head (hreplaced _ { x with status := 5 } rfl rfl)

/-- R487: a read request of the descriptor in progress times out. -/
theorem completionTimeout_fails {q : Fin 16} {s : State} {x : Desc} {rest : List Desc} (hout : s.dev.get .X_DMA_OUT q ≠ 0)
    (hfetched : s.dev.fetched q = x :: rest) (hhost : x.toHost = false) (hstatus : x.status = 0) :
    Completes (.completionTimeout q false) s fun e => e.get .X_DMA_OUT q = s.dev.get .X_DMA_OUT q - 1 ∧
      ∃ y, (e.fetched q).head? = some y ∧ y.status = 6 ∧ y.moved = x.moved := by
  refine .runElse (rfl : _ = execCompletionTimeout q false s) Bool.false_ne_true fun e he => ?_
  have hout : ¬ s.found.get .X_DMA_OUT q = 0 := hout
  have hfetched' : (s.found.set .X_DMA_OUT q (s.found.get .X_DMA_OUT q - 1)).fetched q = x :: rest := hfetched
  have hcond : ¬ (x.toHost = true ∨ (!(x.status == 0 || x.status == 7)) = true) := by simp [hhost, hstatus]
  rw [if_neg hout] at he
  dsimp only at he
  rw [hfetched', List.head?_cons] at he
  dsimp only at he
  rw [if_neg hcond] at he
  have hnew : e.fetched q = { x with status := 6 } :: rest := by
    rw [he]
    exact removed_first { x with status := 6 } rfl hfetched
  refine ⟨?_, { x with status := 6 }, by rw [hnew, List.head?_cons], rfl, rfl⟩
  rw [he]
  exact Dev.get_set_same ..

/-- R491: a completion for a request of an earlier epoch. -/
theorem readCompletion_late {q : Fin 16} {s : State} {data : List Byte} (hold : s.dev.get .X_DMA_OLD q ≠ 0) (r : HostCompletion) :
    Completes (.readCompletion q true true r data) s fun e => e.get .X_DMA_OLD q = s.dev.get .X_DMA_OLD q - 1 ∧
      e.get .DMA_Q_EVENTS_LATE q = 1 ∧
      e.get .DMA_Q_COUNTS_LATE q = satAdd F.DMA_Q_COUNTS_LATE.width (s.dev.get .DMA_Q_COUNTS_LATE q) 1 := by
  refine .runIf (rfl : _ = execReadCompletion q true true r data s) rfl fun e he => ?_
  have hold : ¬ s.found.get .X_DMA_OLD q = 0 := hold
  unfold Dev.lateRead at he
  rw [if_pos rfl, if_neg hold] at he
  extract_lets d1 at he
  have hget : ∀ f, f ≠ .X_DMA_OUT → f ∉ signalFields → e.get f q = (d1.set .DMA_Q_EVENTS_LATE q 1).get f q := fun f h1 h2 => by
    rw [he, (askAll_asks _).get _ _ h1, syncQueue_get _ _ _ h2]
  refine ⟨?_, ?_, ?_⟩
  · rw [hget _ (by decide) (by decide)]
    simp [d1, Dev.addSat]
  · rw [hget _ (by decide) (by decide), Dev.get_set_same]
  · rw [hget _ (by decide) (by decide)]
    simp [d1, Dev.addSat]

/-- Settles O22: the fetch of a descriptor, its end with an error or with its data at the host, and completions of host reads. -/
theorem descriptorRuns : Obligations.DescriptorRuns := by
  refine ⟨fun q s => ⟨fun x hq hpaused htail => descriptorFetch_joins hq hpaused htail,
    fun x rest bad hlive hpaused hfetched herr => descriptorComplete_stops hlive hpaused hfetched herr, ?_⟩,
    fun q s data x rest => ⟨fun hout hfetched hq hhost hstatus => ⟨fun last => ?_, fun last => ?_, fun last => ?_,
      completionTimeout_fails hout hfetched hhost hstatus⟩, fun hold r => readCompletion_late hold r⟩⟩
  · rintro x rest _ hlive hpaused hfetched hq hstatus hhost hmoved hlen hcap hother rfl hpos
    exact descriptorComplete_moves hlive hpaused hfetched hq hstatus hhost hmoved hlen hcap hother hpos
  all_goals refine (readCompletion_moves hout hfetched hq hhost hstatus last _).mono fun e => ?_
  all_goals
    rintro ⟨y, hy, hcore⟩
    obtain ⟨-, -, -, htag, hst, hmv⟩ := Desc.core_inj hcore
  · exact ⟨y, hy, hmv, hst.trans hstatus, htag⟩
  · exact ⟨y, hy, hst, hmv⟩
  · exact ⟨y, hy, hst⟩

end Sys2Proof.Machine
end

section
/-! PROOFS. Resets of the function, and the link and function states (R467, R472, R481 to R483, R492 to R494). -/

-- One theorem at a time: the whole text is compiled under a memory limit, which the stacks of waiting threads would fill.
set_option Elab.async false

namespace Sys2Proof.Machine

open Sys2Proof

/-- What one round of a loop makes true and every round keeps, where all keep `I`, holds after the loop. -/
theorem Dev.forList_reaches_of {α : Type} {l : List α} {g : α → Dev → Dev} {I P : Dev → Prop} {x : α} {d : Dev} (hx : x ∈ l)
    (hd : I d) (hinv : ∀ y e, I e → I (g y e)) (hset : ∀ e, I e → P (g x e)) (hkeep : ∀ y e, I e → P e → P (g y e)) :
    P (Dev.forList l g d) := by
  have hloop : ∀ (l : List α) (e : Dev), I e → I (l.foldl (fun d y => g y d) e) := fun l e he =>
    List.foldlRecOn l _ he fun e he y _ => hinv y e he
  obtain ⟨l1, l2, hl⟩ := List.append_of_mem hx
  unfold Dev.forList
  rw [hl, List.foldl_append]
  have h1 : I (List.foldl (fun d y => g y d) d l1) := hloop l1 d hd
  exact (List.foldlRecOn l2 (fun e y => g y e) (motive := fun e => I e ∧ P e) ⟨hinv x _ h1, hset _ h1⟩
    fun e he y _ => ⟨hinv y e he.1, hkeep y e he.1 he.2⟩).2

/-- The same for a loop over the numbers below `n`. -/
theorem Dev.each_reaches_of {n : Nat} {g : Nat → Dev → Dev} {I P : Dev → Prop} {j : Nat} {d : Dev} (hj : j < n) (hd : I d)
    (hinv : ∀ i e, I e → I (g i e)) (hset : ∀ e, I e → P (g j e)) (hkeep : ∀ i e, I e → P e → P (g i e)) :
    P (Dev.each n g d) :=
  Dev.forList_reaches_of (l := List.range n) (List.mem_range.mpr hj) hd hinv hset hkeep

/-- What one round of a loop makes true and every round keeps holds after the loop. -/
theorem Dev.each_reaches {n : Nat} {g : Nat → Dev → Dev} {P : Dev → Prop} {j : Nat} (hj : j < n) (hset : ∀ d, P (g j d))
    (hkeep : ∀ i d, P d → P (g i d)) (d : Dev) : P (Dev.each n g d) :=
  Dev.each_reaches_of (I := fun _ => True) hj trivial (fun _ _ _ => trivial) (fun e _ => hset e) fun i e _ => hkeep i e

/-- A loop of `n` rounds each of which leaves the device alone. -/
theorem Dev.each_fixed_of_lt {n : Nat} {g : Nat → Dev → Dev} {d : Dev} (h : ∀ i < n, g i d = d) : Dev.each n g d = d :=
  List.foldlRecOn (List.range n) (fun e i => g i e) (motive := fun e => e = d) rfl fun e he i hi => by
    rw [he, h i (List.mem_range.mp hi)]

/-! ## Resets (R467, R493) -/

/-- A queue that is reset, and disabled without a ring. -/
def Dev.QueueOff (q : Nat) (d : Dev) : Prop :=
  d.dq q = dqDISABLED ∧ d.get .DMA_Q_CTRL_ENABLE q = 0 ∧ d.get .DMA_Q_RING_ADDR q = 0 ∧ d.fetched q = []

theorem Dev.QueueOff.of_eq {q : Nat} {d e : Dev} (h : Dev.QueueOff q d) (hdescs : e.descs = d.descs)
    (hget : ∀ f ∈ [F.DMA_Q_STATUS_STATE, .DMA_Q_CTRL_ENABLE, .DMA_Q_RING_ADDR], e.get f q = d.get f q) : Dev.QueueOff q e := by
  obtain ⟨h1, h2, h3, h4⟩ := h
  refine ⟨(hget _ (by decide)).trans h1, (hget _ (by decide)).trans h2, (hget _ (by decide)).trans h3, ?_⟩
  rw [Dev.fetched, hdescs]
  exact h4

theorem Dev.hotResetQueue_descs (q : Nat) (d : Dev) :
    (Dev.hotResetQueue q d).descs = d.descs.filter (fun x => x.queue != q) :=
  (Dev.forList_keeps Dev.descs (g := fun f e => e.set f q 0) (fun _ _ _ => rfl) _).trans
    (Dev.resetQueue_shows q d rfl).2.2.2.2.2.2

theorem Dev.hotResetQueue_off (q : Nat) (d : Dev) : Dev.QueueOff q (Dev.hotResetQueue q d) := by
  obtain ⟨h1, h2, -, -, -, -, h7⟩ := Dev.resetQueue_shows q d rfl
  unfold Dev.hotResetQueue
  refine ⟨(Dev.setAll_get_field _ _ _ _ (by decide)).trans h1, Dev.setAll_get_of_mem _ _ _ (by decide),
    Dev.setAll_get_of_mem _ _ _ (by decide), ?_⟩
  have hdescs : (Dev.hotResetQueue q d).descs = (Dev.resetQueue q d).descs := (Dev.hotResetQueue_descs q d).trans h7.symm
  exact (congrArg (List.filter fun x : Desc => x.queue == q) hdescs).trans h2

/-- The reset of a queue writes fields of its own index alone. -/
theorem Dev.hotResetQueue_get {q i : Nat} (d : Dev) (f : F) (h : i ≠ q) : (Dev.hotResetQueue q d).get f i = d.get f i := by
  have hset : ∀ fs (e : Dev) v, (e.setAll fs q v).get f i = e.get f i := fun fs e v =>
    Dev.forList_keeps (fun e => e.get f i) (g := fun g e => e.set g q v)
      (fun g _ e => Dev.get_set_other _ _ _ _ _ _ fun hk => h (Key.mk.inj hk).2) e
  have hone : ∀ g (e : Dev) v, (e.set g q v).get f i = e.get f i := fun g e v =>
    Dev.get_set_other _ _ _ _ _ _ fun hk => h (Key.mk.inj hk).2
  rw [Dev.hotResetQueue, hset, Dev.resetQueue, hone, hset, hone, hone]
  rfl

theorem Dev.hotResetQueue_keeps {q p : Nat} {d : Dev} (h : Dev.QueueOff q d) : Dev.QueueOff q (Dev.hotResetQueue p d) := by
  by_cases hqp : q = p
  · subst hqp
    exact Dev.hotResetQueue_off q d
  · obtain ⟨h1, h2, h3, h4⟩ := h
    refine ⟨(Dev.hotResetQueue_get d _ hqp).trans h1, (Dev.hotResetQueue_get d _ hqp).trans h2,
      (Dev.hotResetQueue_get d _ hqp).trans h3, ?_⟩
    rw [Dev.fetched, List.filter_eq_nil_iff] at h4
    rw [Dev.fetched, Dev.hotResetQueue_descs, List.filter_eq_nil_iff]
    exact fun x hx => h4 x (List.mem_filter.mp hx).1

/-- What emptying targets changes: sources leave service and may pend, and what `Settling` allows. -/
structure Dev.Empties (d e : Dev) : Prop where
  service : ∀ v ∈ e.service, v ∈ d.service
  get : ∀ f i, f ∉ settleFields → e.get f i = d.get f i
  descs : e.descs = d.descs

theorem Dev.Empties.refl (d : Dev) : Dev.Empties d d := ⟨fun _ h => h, fun _ _ _ => rfl, rfl⟩

theorem Dev.Empties.trans {a b c : Dev} (h1 : Dev.Empties a b) (h2 : Dev.Empties b c) : Dev.Empties a c :=
  ⟨fun v h => h1.service v (h2.service v h), fun f i h => (h2.get f i h).trans (h1.get f i h), h2.descs.trans h1.descs⟩

theorem Dev.Settling.empties {d e : Dev} (h : Dev.Settling d e) : Dev.Empties d e :=
  ⟨fun v hv => h.service ▸ hv, h.2, by rw [h.1]⟩

theorem Dev.Empties.forList {α : Type} {g : α → Dev → Dev} (h : ∀ x d, Dev.Empties d (g x d)) (l : List α) (d : Dev) :
    Dev.Empties d (Dev.forList l g d) :=
  List.foldlRecOn l _ (motive := fun e => Dev.Empties d e) (.refl d) fun _ he x _ => he.trans (h x _)

theorem Dev.finish_service (d : Dev) (x n : Nat) :
    (d.finish x n).service = d.service.filter fun v => !(decide (v.target = x) && decide (v.source = n)) := by
  unfold Dev.finish Dev.repend Dev.pend
  split <;> rfl

theorem Dev.finish_empties (d : Dev) (x n : Nat) : Dev.Empties d (d.finish x n) := by
  refine ⟨fun v hv => ?_, fun f i _ => ?_, ?_⟩
  · rw [Dev.finish_service] at hv
    exact (List.mem_filter.mp hv).1
  · unfold Dev.finish Dev.repend Dev.pend
    split <;> rfl
  · unfold Dev.finish Dev.repend Dev.pend
    split <;> rfl

/-- Finishing sources of a target takes each of them out of service there. -/
theorem Dev.finishAll_service (x : Nat) (ns : List Nat) : ∀ (d : Dev), ∀ v ∈ (Dev.forList ns (fun s d => d.finish x s) d).service,
    v ∈ d.service ∧ (v.target = x → v.source ∉ ns) := by
  induction ns with
  | nil => exact fun d v hv => ⟨hv, fun _ => List.not_mem_nil⟩
  | cons n ns ih =>
    intro d v hv
    obtain ⟨h1, h2⟩ := ih (d.finish x n) v hv
    rw [Dev.finish_service, List.mem_filter] at h1
    obtain ⟨h1, h3⟩ := h1
    refine ⟨h1, fun ht => ?_⟩
    simp only [ht, decide_true, Bool.true_and, Bool.not_eq_true', decide_eq_false_iff_not] at h3
    exact List.not_mem_cons_of_ne_of_not_mem h3 (h2 ht)

theorem Dev.resetTarget_shows (d : Dev) (x : Nat) {e : Dev} (he : e = d.resetTarget x) : Dev.Empties d e ∧ e.stackOf x = [] := by
  unfold Dev.resetTarget at he
  extract_lets ns d1 d2 at he
  have h1 : Dev.Settling d d1 := by
    unfold d1
    split
    · exact (((Dev.Settling.refl d).sig (f := .PH_T_STATUS_HELD) (i := x) 0).sig (f := .X_PH_HELD_COUNT) (i := x) 0).sig
        (f := .X_PH_SEL) (i := x) 0
    · exact .refl d
  have h2 : Dev.Empties d1 d2 := .forList (fun s d => Dev.finish_empties d x s) ns d1
  have h3 : Dev.Settling d2 e := by
    rw [he]
    exact (settle_only d2 x).trans (.foldl _ (fun d s => settle_only d _) ns _)
  refine ⟨(h1.empties.trans h2).trans h3.empties, ?_⟩
  rw [Dev.stackOf, h3.service, List.filter_eq_nil_iff]
  intro v hv ht
  have ht : v.target = x := by simpa using ht
  obtain ⟨h4, h5⟩ := Dev.finishAll_service x ns d1 v hv
  rw [h1.service] at h4
  exact h5 ht (List.mem_map.mpr ⟨v, List.mem_filter.mpr ⟨h4, by simpa using ht⟩, rfl⟩)

/-- The round of a host target. -/
def idleTarget (x : Nat) (d : Dev) : Dev := (d.resetTarget x).set .PH_T_IDLE_TARGET_IDLE x 0

/-- The reset of the host targets: every one idle at 0 with nothing in service. -/
theorem Dev.resetHostTargets_shows (d : Dev) : (∀ x < 64, (d.resetHostTargets).stackOf x = [] ∧
      (d.resetHostTargets).get .PH_T_IDLE_TARGET_IDLE x = 0) ∧ (d.resetHostTargets).descs = d.descs ∧
    ∀ f i, f ≠ .PH_T_IDLE_TARGET_IDLE → f ∉ settleFields → (d.resetHostTargets).get f i = d.get f i := by
  unfold Dev.resetHostTargets
  refine ⟨fun x hx => ?_, ?_, fun f i h1 h2 => ?_⟩
  · refine Dev.each_reaches (g := idleTarget) (P := fun e => e.stackOf x = [] ∧ e.get .PH_T_IDLE_TARGET_IDLE x = 0) hx (fun e => ?_)
      (fun y e he => ?_) d
    · exact ⟨(Dev.resetTarget_shows e x rfl).2, Dev.get_set_same ..⟩
    · obtain ⟨h, -⟩ := Dev.resetTarget_shows e y rfl
      obtain ⟨h1, h2⟩ := he
      refine ⟨?_, ?_⟩
      · rw [Dev.stackOf, List.filter_eq_nil_iff] at h1 ⊢
        exact fun v hv => h1 v (h.service v hv)
      · by_cases hxy : x = y
        · subst hxy
          exact Dev.get_set_same ..
        · exact ((Dev.get_set_inst _ _ _ hxy).trans (h.get _ _ (by decide))).trans h2
  · exact Dev.each_keeps Dev.descs (g := idleTarget) (fun x _ e => (Dev.resetTarget_shows e x rfl).1.descs) d
  · exact Dev.each_keeps (fun e => e.get f i) (g := idleTarget)
      (fun x _ e => (Dev.get_set_field _ _ _ _ h1).trans ((Dev.resetTarget_shows e x rfl).1.get _ _ h2)) d

/-- The fields of the MSI-X table. -/
def msixFields : List F := [.MSIX_ADDR_LO_ADDR_LO, .MSIX_ADDR_HI_ADDR_HI, .MSIX_DATA_DATA, .MSIX_CTRL_MASK]

/-- The round of a vector. -/
def clearVector (v : Nat) (d : Dev) : Dev :=
  (d.setAll [.MSIX_ADDR_LO_ADDR_LO, .MSIX_ADDR_HI_ADDR_HI, .MSIX_DATA_DATA] v 0).set .MSIX_CTRL_MASK v 1

theorem Dev.resetMsix_shows (d : Dev) : (∀ v < 256, d.resetMsix.get .MSIX_CTRL_MASK v = 1) ∧ d.resetMsix.descs = d.descs ∧
    ∀ f i, f ∉ msixFields → d.resetMsix.get f i = d.get f i := by
  have hmask : ∀ v < 256, (Dev.each 256 clearVector d).get .MSIX_CTRL_MASK v = 1 := fun v hv => by
    refine Dev.each_reaches (g := clearVector) (P := fun e => e.get .MSIX_CTRL_MASK v = 1) hv (fun e => Dev.get_set_same ..)
      (fun y e he => ?_) d
    by_cases hvy : v = y
    · subst hvy
      exact Dev.get_set_same ..
    · exact ((Dev.get_set_inst _ _ _ hvy).trans (Dev.setAll_get_field _ _ _ _ (by decide))).trans he
  have hdescs : (Dev.each 256 clearVector d).descs = d.descs := Dev.each_keeps Dev.descs (g := clearVector)
    (fun x _ e => Dev.forList_keeps Dev.descs (g := fun f e => e.set f x 0) (fun _ _ _ => rfl) e) d
  have hget : ∀ f i, f ∉ msixFields → (Dev.each 256 clearVector d).get f i = d.get f i := fun f i h => by
    simp only [msixFields, List.mem_cons, List.not_mem_nil, or_false, not_or] at h
    obtain ⟨h1, h2, h3, h4⟩ := h
    exact Dev.each_keeps (fun e => e.get f i) (g := clearVector) (fun x _ e => (Dev.get_set_field _ _ _ _ h4).trans
      (Dev.setAll_get_field _ _ _ _ (by simp [h1, h2, h3]))) d
  change (∀ v < 256, Dev.get { (Dev.each 256 clearVector d) with pba := [] } .MSIX_CTRL_MASK v = 1) ∧
    Dev.descs { (Dev.each 256 clearVector d) with pba := [] } = d.descs ∧
    ∀ f i, f ∉ msixFields → Dev.get { (Dev.each 256 clearVector d) with pba := [] } f i = d.get f i
  generalize Dev.each 256 clearVector d = e at hmask hdescs hget
  exact ⟨hmask, hdescs, hget⟩

/-- The fields of the function's queues, written by the reset of any. -/
theorem Dev.hotResetQueues_get (d : Dev) {f : F} (i : Nat) (h : f ∉ ([.DMA_Q_STATUS_EPOCH, .X_DMA_OLD, .X_DMA_OUT, .X_DMA_WAKE,
      .DMA_Q_HEAD_INDEX, .DMA_Q_TAIL_INDEX, .DMA_Q_STATUS_STATE, .DMA_Q_STATUS_PAUSED, .DMA_Q_STATUS_PHASE, .DMA_Q_CTRL_ENABLE,
      .DMA_Q_CTRL_SIZE_EXP, .DMA_Q_RING_ADDR, .DMA_Q_CPL_ADDR] : List F)) :
    (Dev.each 16 Dev.hotResetQueue d).get f i = d.get f i := by
  simp only [List.mem_cons, List.not_mem_nil, or_false, not_or] at h
  refine Dev.each_keeps (fun e => e.get f i) (fun q _ e => ?_) d
  unfold Dev.hotResetQueue Dev.resetQueue
  simp only [Dev.setAll_get_field, Dev.get_set_field, ne_eq, List.mem_cons, List.not_mem_nil, or_false, h, not_false_eq_true]
  rfl

/-- R494: the line of source 9 is high while an event of the link is shown. -/
theorem Dev.syncLink_line (d : Dev) {ev : F} (hev : ev ∈ linkEvents) (h : d.get ev 0 = 1) : d.syncLink.get .PH_SRC_LINE 9 = 1 := by
  unfold Dev.syncLink
  rw [setLine_line]
  have : d.any linkEvents 0 = true := List.any_eq_true.mpr ⟨ev, hev, by rw [h]; rfl⟩
  rw [this]
  rfl

theorem Dev.syncLink_get (d : Dev) {f : F} (i : Nat) (h : f ∉ signalFields) : d.syncLink.get f i = d.get f i :=
  setLine_get _ _ _ _ _ h

/-- R492, R493: what a hot reset, a link down and an FLR share, with the event that is shown. -/
theorem Dev.functionReset_shows (d : Dev) {ev : F} (hev : ev ∈ linkEvents) (h : d.get ev 0 = 1) {e : Dev}
    (he : e = d.functionReset) : (e.get ev 0 = 1 ∧ e.get .PH_SRC_LINE 9 = 1 ∧ e.get .DMA_LINK_STATUS_BME 0 = 0 ∧
      e.get .DMA_LINK_STATUS_DSTATE 0 = 0 ∧
      (∀ q < 16, e.dq q = dqDISABLED ∧ e.get .DMA_Q_CTRL_ENABLE q = 0 ∧ e.get .DMA_Q_RING_ADDR q = 0 ∧ e.fetched q = []) ∧
      (∀ v < 256, e.get .MSIX_CTRL_MASK v = 1) ∧ ∀ x < 64, e.stackOf x = [] ∧ e.get .PH_T_IDLE_TARGET_IDLE x = 0) ∧
    e.get .DMA_LINK_STATUS_SPEED 0 = d.get .DMA_LINK_STATUS_SPEED 0 ∧
    e.get .DMA_LINK_STATUS_WIDTH 0 = d.get .DMA_LINK_STATUS_WIDTH 0 := by
  unfold Dev.functionReset at he
  extract_lets d1 at he
  generalize hd2 : Dev.each 16 Dev.hotResetQueue d1 = d2 at he
  obtain ⟨hm1, hm2, hm3⟩ := d2.resetMsix_shows
  generalize d2.resetMsix = d3 at he hm1 hm2 hm3
  obtain ⟨ht1, ht2, ht3⟩ := d3.resetHostTargets_shows
  generalize d3.resetHostTargets = d4 at he ht1 ht2 ht3
  have hl : Dev.OnlyRaising (fun _ _ => False) d4 e := he ▸ setLine_only _ _ _ _
  have hq : ∀ q < 16, Dev.QueueOff q d2 := fun q hq =>
    hd2 ▸ Dev.each_reaches hq (Dev.hotResetQueue_off q) (fun p _ h => Dev.hotResetQueue_keeps (p := p) h) d1
  have hnot : ∀ l : List F, (∀ f ∈ linkEvents, f ∉ l) → ev ∉ l := fun _ h => h ev hev
  have hevs : d4.get ev 0 = 1 := by
    have hne : ev ≠ .PH_T_IDLE_TARGET_IDLE := fun h => absurd (h ▸ hev) (by decide)
    rw [ht3 ev 0 hne (hnot _ (by decide)), hm3 ev 0 (hnot _ (by decide)), ← hd2, Dev.hotResetQueues_get _ _ (hnot _ (by decide))]
    exact (Dev.setAll_get_field _ _ _ _ (hnot _ (by decide))).trans h
  have hlink : ∀ f ∈ ([.DMA_LINK_STATUS_BME, .DMA_LINK_STATUS_DSTATE, .DMA_LINK_STATUS_SPEED, .DMA_LINK_STATUS_WIDTH] : List F),
      e.get f 0 = d1.get f 0 := fun f hf => by
    rw [hl.2 f 0 (fun x => x) (by revert hf f; decide), ht3 f 0 (by revert hf f; decide) (by revert hf f; decide),
      hm3 f 0 (by revert hf f; decide), ← hd2, Dev.hotResetQueues_get _ _ (by revert hf f; decide)]
  refine ⟨⟨?_, ?_, ?_, ?_, fun q hq16 => ?_, fun v hv => ?_, fun x hx => ?_⟩, ?_, ?_⟩
  · rw [hl.2 ev 0 (fun x => x) (hnot _ (by decide)), hevs]
  · rw [he, Dev.syncLink_line d4 hev hevs]
  · exact (hlink _ (by decide)).trans (Dev.setAll_get_of_mem _ _ _ (by decide))
  · exact (hlink _ (by decide)).trans (Dev.setAll_get_of_mem _ _ _ (by decide))
  · refine (hq q hq16).of_eq ?_ fun f hf => ?_
    · rw [← hm2, ← ht2, hl.1]
    · rw [hl.2 f q (fun x => x) (by revert hf f; decide), ht3 f q (by revert hf f; decide) (by revert hf f; decide),
        hm3 f q (by revert hf f; decide)]
  · rw [hl.2 _ _ (fun x => x) (by decide), ht3 _ _ (by decide) (by decide), hm1 v hv]
  · obtain ⟨h1, h2⟩ := ht1 x hx
    refine ⟨?_, ?_⟩
    · rw [← h1, Dev.stackOf, hl.1]
      rfl
    · rw [hl.2 _ _ (fun x => x) (by decide), h2]
  · exact (hlink _ (by decide)).trans (Dev.setAll_get_field _ _ _ _ (by decide))
  · exact (hlink _ (by decide)).trans (Dev.setAll_get_field _ _ _ _ (by decide))

/-- Settles O23: a hot reset, a link that goes down and an FLR reset the function alike. -/
theorem functionResets : Obligations.FunctionResets := by
  intro s P
  refine ⟨?_, ?_, ?_⟩
  · refine .runAs (rfl : _ = execPcieHotReset false s) fun e he => ?_
    exact (Dev.functionReset_shows _ (ev := .DMA_LINK_EVENTS_HOT_RESET) (by decide) (Dev.get_set_same ..) he).1
  · refine .runAs (rfl : _ = execPcieHotReset true s) fun e he => ?_
    obtain ⟨h1, h2, h3⟩ := Dev.functionReset_shows _ (ev := .DMA_LINK_EVENTS_LINK_DOWN) (by decide)
      ((Dev.setAll_get_field _ _ _ _ (by decide)).trans (Dev.get_set_same ..)) he
    exact ⟨h1, h2.trans (Dev.setAll_get_of_mem _ _ _ (by decide)), h3.trans (Dev.setAll_get_of_mem _ _ _ (by decide))⟩
  · refine .runAs (rfl : _ = execFlr s) fun e he => ?_
    obtain ⟨h1, h2, -⟩ := Dev.functionReset_shows _ (ev := .DMA_LINK_EVENTS_FLR) (by decide) (Dev.get_set_same ..) he
    exact ⟨h1, h2.trans (Dev.get_set_field _ _ _ _ (by decide))⟩

/-! ## The link and the function's states (R472, R481 to R483) -/

theorem Dev.syncPausedAll_get (d : Dev) {f : F} (i : Nat) (h : f ≠ .DMA_Q_STATUS_PAUSED) :
    d.syncPausedAll.get f i = d.get f i :=
  Dev.each_keeps (fun e => e.get f i) (fun _ _ _ => Dev.get_set_field _ _ _ _ h) d

theorem Dev.syncPausedAll_only (d : Dev) : Dev.Only (fun f _ => f = .DMA_Q_STATUS_PAUSED) d d.syncPausedAll :=
  (Dev.Only.refl _ d).each fun q _ e => (Dev.Only.refl _ e).set (f := .DMA_Q_STATUS_PAUSED) (i := q) _ rfl

/-- R482, R492: PAUSED of every queue, after the state of the function has changed. -/
theorem Dev.syncPausedAll_paused (d : Dev) {q : Nat} (hq : q < 16) : d.syncPausedAll.get .DMA_Q_STATUS_PAUSED q =
    b2n (d.dqLive q && (!d.busOk || d.on .X_DMA_WAKE q)) := by
  have hval : ∀ e : Dev, (∀ f i, f ≠ F.DMA_Q_STATUS_PAUSED → e.get f i = d.get f i) →
      (Dev.syncPaused q e).get .DMA_Q_STATUS_PAUSED q = b2n (d.dqLive q && (!d.busOk || d.on .X_DMA_WAKE q)) := fun e he => by
    simp only [Dev.syncPaused, Dev.get_set_same, Dev.dqLive, Dev.dq, Dev.busOk, Dev.on_def]
    simp only [he .DMA_Q_STATUS_STATE q (by decide), he .DMA_LINK_STATUS_BME 0 (by decide), he .DMA_LINK_STATUS_DSTATE 0 (by decide),
      he .X_DMA_WAKE q (by decide)]
  refine Dev.each_reaches_of (g := Dev.syncPaused)
    (P := fun e => e.get .DMA_Q_STATUS_PAUSED q = b2n (d.dqLive q && (!d.busOk || d.on .X_DMA_WAKE q))) (I := fun e => ∀ f i, f ≠ F.DMA_Q_STATUS_PAUSED → e.get f i = d.get f i) hq (fun _ _ _ => rfl)
    (fun _ _ he f j h => (Dev.get_set_field _ _ _ _ h).trans (he f j h)) hval fun i _ he hp => ?_
  by_cases hiq : q = i
  · subst hiq
    exact hval _ he
  · exact (Dev.get_set_inst _ _ _ hiq).trans hp

/-- R481: with the function free to send, a message whose vector is not masked goes out. -/
theorem Dev.sendMsix_sent {d : Dev} {v : Nat} (hd : d.get .DMA_LINK_STATUS_DSTATE 0 ≠ 3) (hb : d.get .DMA_LINK_STATUS_BME 0 = 1)
    (hf : d.get .X_PCIE_FUNC_MASK 0 ≠ 1) (hm : d.get .MSIX_CTRL_MASK v ≠ 1) :
    d.sendMsix v = (d.set .DMA_LINK_STATUS_L1 0 0).send (.msix v) := by
  unfold Dev.sendMsix
  rw [if_neg hd, if_neg]
  simp [Dev.on_def, hb, hf, hm]

theorem Dev.sendMsix_pba (d : Dev) (v : Nat) : ∀ u ∈ (d.sendMsix v).pba, u = v ∨ u ∈ d.pba := by
  unfold Dev.sendMsix
  intro u hu
  split at hu
  · extract_lets e1 e at hu
    have he : e.pba = insertNat d.pba v := rfl
    split at hu
    · exact (mem_insertNat ..).mp (he ▸ hu)
    · exact (mem_insertNat ..).mp (he ▸ hu)
  · split at hu
    · exact (mem_insertNat ..).mp hu
    · exact .inr hu

/-- R481: the waiting message of a vector that nothing holds is sent. -/
theorem Dev.flushPba_sends {d : Dev} {v : Nat} (hsorted : d.pba.Pairwise (· < ·)) (hv : v ∈ d.pba)
    (hd : d.get .DMA_LINK_STATUS_DSTATE 0 ≠ 3) (hb : d.get .DMA_LINK_STATUS_BME 0 = 1) (hf : d.get .X_PCIE_FUNC_MASK 0 ≠ 1)
    (hm : d.get .MSIX_CTRL_MASK v ≠ 1) : Out.msix v ∈ d.flushPba.out ∧ v ∉ d.flushPba.pba := by
  obtain ⟨l1, l2, hl⟩ := List.append_of_mem hv
  have hnot : v ∉ l2 := fun h => by
    rw [hl, List.pairwise_append, List.pairwise_cons] at hsorted
    exact absurd (hsorted.2.1.1 v h) (lt_irrefl v)
  have hset : ∀ (u : Nat) (e : Dev), Dev.Settling e (Dev.sendMsix { e with pba := removeNat e.pba u } u) := fun u e =>
    (Dev.Settling.pba e _).trans (sendMsix_only _ u)
  unfold Dev.flushPba
  rw [hl, Dev.forList, List.foldl_append]
  have h1 := Dev.Settling.foldl _ (fun e u => hset u e) l1 d
  generalize List.foldl (fun (d : Dev) v => Dev.sendMsix { d with pba := removeNat d.pba v } v) d l1 = e at h1
  have hget : ∀ f i, f ∉ settleFields → Dev.get { e with pba := removeNat e.pba v } f i = d.get f i := fun f i hs => h1.2 f i hs
  rw [List.foldl_cons, Dev.sendMsix_sent (by rwa [hget _ _ (by decide)]) (by rwa [hget _ _ (by decide)])
    (by rwa [hget _ _ (by decide)]) (by rwa [hget _ _ (by decide)])]
  refine List.foldlRecOn l2 _ (motive := fun e : Dev => Out.msix v ∈ e.out ∧ v ∉ e.pba) ⟨?_, ?_⟩ fun b hb u hu => ⟨?_, fun h => ?_⟩
  · exact List.mem_append_right _ (List.mem_singleton.mpr rfl)
  · exact fun h => ((mem_removeNat ..).mp h).2 rfl
  · exact (sendMsix_sends _ u).mem hb.1
  · rcases Dev.sendMsix_pba _ u v h with rfl | h
    · exact hnot hu
    · exact hb.2 ((mem_removeNat ..).mp h).1

theorem Dev.sendMsix_held (d : Dev) (v x : Nat) : (d.sendMsix v).get .PH_T_STATUS_HELD x = d.get .PH_T_STATUS_HELD x := by
  unfold Dev.sendMsix
  split
  · extract_lets e1 e
    have he : e.get .PH_T_STATUS_HELD x = d.get .PH_T_STATUS_HELD x :=
      Dev.get_set_field d (f := .X_PCIE_PME_STATUS) 0 x 1 (by decide)
    split
    · rw [Dev.get_send, Dev.get_set_field _ _ _ _ (by decide), he]
    · exact he
  · split
    · rfl
    · rw [Dev.get_send, Dev.get_set_field _ _ _ _ (by decide)]

/-- Issuing a message begins no hold and ends none. -/
theorem Dev.issue_held (d : Dev) (x y : Nat) : (d.issue x).get .PH_T_STATUS_HELD y = d.get .PH_T_STATUS_HELD y := by
  unfold Dev.issue Dev.issueFor
  split
  · rfl
  · dsimp only
    split
    · rw [Dev.sendMsix_held, Dev.addSat, Dev.get_set_field _ _ _ _ (by decide)]
    · rw [Dev.get_send, Dev.get_set_field _ _ _ _ (by decide), Dev.addSat, Dev.get_set_field _ _ _ _ (by decide)]

theorem Dev.release_held (d : Dev) (x : Nat) : (d.release x).get .PH_T_STATUS_HELD x ≠ 1 ∧
    ∀ y, d.get .PH_T_STATUS_HELD y ≠ 1 → (d.release x).get .PH_T_STATUS_HELD y ≠ 1 := by
  unfold Dev.release
  split
  · have hx : ∀ y, Dev.get (Dev.issue ((d.set .PH_T_STATUS_HELD x 0).set .X_PH_HELD_COUNT x 0) x) .PH_T_STATUS_HELD y =
        (d.set .PH_T_STATUS_HELD x 0).get .PH_T_STATUS_HELD y := fun y => by
      rw [Dev.issue_held, Dev.get_set_field _ _ _ _ (by decide)]
    refine ⟨?_, fun y hy => ?_⟩
    · rw [hx, Dev.get_set_same]
      decide
    · rw [hx]
      by_cases hxy : y = x
      · subst hxy
        rw [Dev.get_set_same]
        decide
      · rwa [Dev.get_set_inst _ _ _ hxy]
  next h => exact ⟨by simpa [Dev.on_def] using h, fun _ hy => hy⟩

/-- R483: the link in L1, with every held message released. -/
theorem l1Entry_releases (s : State) : Completes .l1Entry s fun e => (∀ x < 64, e.get .PH_T_STATUS_HELD x ≠ 1) ∧
    ((∀ x < 64, s.dev.get .PH_T_STATUS_HELD x ≠ 1) → e.get .DMA_LINK_STATUS_L1 0 = 1) := by
  refine .runAs (rfl : _ = execL1Entry s) fun e he => ?_
  have he : e = Dev.each 64 (fun x d => d.release x) (s.found.set .DMA_LINK_STATUS_L1 0 1) := he
  rw [he]
  refine ⟨fun x hx => ?_, fun hnone => ?_⟩
  · exact Dev.each_reaches (g := fun x d => d.release x) (P := fun e => e.get .PH_T_STATUS_HELD x ≠ 1) hx (fun e => (e.release_held x).1)
      (fun y e he => (e.release_held y).2 x he) _
  · have hfix : ∀ x < 64, Dev.release (s.found.set .DMA_LINK_STATUS_L1 0 1) x = s.found.set .DMA_LINK_STATUS_L1 0 1 :=
      fun x hx => by
        have hnot : (s.found.set .DMA_LINK_STATUS_L1 0 1).get .PH_T_STATUS_HELD x ≠ 1 := by
          rw [Dev.get_set_field _ _ _ _ (by decide)]
          exact hnone x hx
        exact if_neg (by simpa [Dev.on_def] using hnot)
    have hall := Dev.each_fixed_of_lt (g := fun x d => d.release x) hfix
    rw [hall, Dev.get_set_same]

/-- R494: the link comes up. -/
theorem linkUp_shows (s : State) (sp : Fin 5) (w : Fin 4) : Completes (.linkUp sp w) s fun e =>
    e.get .DMA_LINK_STATUS_SPEED 0 = sp.val + 1 ∧ e.get .DMA_LINK_STATUS_WIDTH 0 = 2 ^ w.val ∧
      e.get .DMA_LINK_EVENTS_LINK_UP 0 = 1 ∧ e.get .PH_SRC_LINE 9 = 1 := by
  refine .runAs (rfl : _ = execLinkUp sp w s) fun e he => ?_
  extract_lets rate width d1 d2 d3 d4 d5 at he
  have h1 : d3.get .DMA_LINK_EVENTS_LINK_UP 0 = 1 := by
    have h2 : d2.get .DMA_LINK_EVENTS_LINK_UP 0 = 1 := by
      unfold d2
      split
      · exact (Dev.get_set_field _ _ _ _ (by decide)).trans (Dev.get_set_same ..)
      · exact Dev.get_set_same ..
    unfold d3
    split
    · exact (Dev.get_set_field _ _ _ _ (by decide)).trans h2
    · exact h2
  have h5 : ((d5.set .DMA_LINK_STATUS_USABLE 0 (min 255 (usable rate width))).set .DMA_LINK_STATUS_L1 0 0).get
      .DMA_LINK_EVENTS_LINK_UP 0 = 1 := by
    simp [d5, d4, h1]
  refine ⟨?_, ?_, ?_, ?_⟩
  · rw [he, Dev.syncLink_get _ _ (by decide)]
    simp [d5, rate]
  · rw [he, Dev.syncLink_get _ _ (by decide)]
    simp [d5, width]
  · rw [he, Dev.syncLink_get _ _ (by decide), h5]
  · rw [he, Dev.syncLink_line _ (ev := .DMA_LINK_EVENTS_LINK_UP) (by decide) h5]

/-- R482: D3hot. -/
theorem d3hotEntry_shows (s : State) (pme : Bool) : Completes (.d3hotEntry pme) s fun e => e.get .DMA_LINK_STATUS_DSTATE 0 = 3 ∧
    e.get .X_PCIE_PME_EN 0 = b2n pme ∧ e.get .DMA_LINK_EVENTS_D3HOT 0 = 1 ∧ e.get .PH_SRC_LINE 9 = 1 ∧
      ∀ q < 16, e.get .DMA_Q_STATUS_PAUSED q = b2n (s.dev.dqLive q) := by
  refine .runAs (rfl : _ = execD3hotEntry pme s) fun e he => ?_
  extract_lets d1 at he
  generalize hd2 : (d1.set .DMA_LINK_EVENTS_D3HOT 0 1).syncLink = d2 at he
  have hget : ∀ f i, f ∉ signalFields → f ≠ .DMA_LINK_EVENTS_D3HOT → d2.get f i = d1.get f i := fun f i h1 h2 => by
    rw [← hd2, Dev.syncLink_get _ _ h1, Dev.get_set_field _ _ _ _ h2]
  refine ⟨?_, ?_, ?_, ?_, fun q hq => ?_⟩
  · rw [he, Dev.syncPausedAll_get _ _ (by decide), hget _ _ (by decide) (by decide), Dev.get_set_field _ _ _ _ (by decide),
      Dev.get_set_same]
  · rw [he, Dev.syncPausedAll_get _ _ (by decide), hget _ _ (by decide) (by decide), Dev.get_set_same]
  · rw [he, Dev.syncPausedAll_get _ _ (by decide), ← hd2, Dev.syncLink_get _ _ (by decide), Dev.get_set_same]
  · rw [he, Dev.syncPausedAll_get _ _ (by decide), ← hd2,
      Dev.syncLink_line _ (ev := .DMA_LINK_EVENTS_D3HOT) (by decide) (Dev.get_set_same ..)]
  · have hlive : d2.dqLive q = s.dev.dqLive q := by
      unfold Dev.dqLive Dev.dq
      rw [hget _ _ (by decide) (by decide), Dev.get_set_field _ _ _ _ (by decide), Dev.get_set_field _ _ _ _ (by decide)]
      rfl
    have hbus : d2.busOk = false := by
      unfold Dev.busOk
      rw [hget .DMA_LINK_STATUS_DSTATE 0 (by decide) (by decide), Dev.get_set_field _ _ _ _ (by decide), Dev.get_set_same]
      exact Bool.and_false _
    rw [he, Dev.syncPausedAll_paused d2 hq, hlive, hbus]
    simp

/-- What clearing the PBA and asking for data leave of a device in which the message of vector `v` may be sent. -/
theorem Dev.flushed_sends {b d : Dev} {v : Nat} (hsorted : d.pba.Pairwise (· < ·)) (hv : v ∈ d.pba) (hpba : b.pba = d.pba)
    (hd : b.get .DMA_LINK_STATUS_DSTATE 0 ≠ 3) (hb : b.get .DMA_LINK_STATUS_BME 0 = 1) (hf : b.get .X_PCIE_FUNC_MASK 0 ≠ 1)
    (hm : b.get .MSIX_CTRL_MASK v ≠ 1) : Out.msix v ∈ b.flushPba.out ∧ v ∉ b.flushPba.pba :=
  Dev.flushPba_sends (hpba ▸ hsorted) (hpba ▸ hv) hd hb hf hm

theorem Dev.flushPba_get (d : Dev) {f : F} (i : Nat) (h : f ∉ settleFields) : d.flushPba.get f i = d.get f i :=
  (Dev.Settling.foldl (fun d v => Dev.sendMsix { d with pba := removeNat d.pba v } v)
    (fun e u => (Dev.Settling.pba e _).trans (sendMsix_only _ u)) d.pba d).2 f i h

theorem Dev.askAll_pba (d : Dev) : d.askAll.pba = d.pba := by rw [(askAll_asks d).same]

/-- Settles O24: the states of the link and of the function, and what they pause, hold and send. -/
theorem linkStates : Obligations.LinkStates := by
  refine ⟨fun s => ⟨linkUp_shows s, d3hotEntry_shows s, l1Entry_releases s, ?_⟩, fun s v hsorted hv => ⟨fun hb hf hm => ?_,
    fun hd hf hm => ?_, fun hb hd hf => ?_, fun hb hd hm => ?_, ?_⟩⟩
  · refine .runAs (rfl : _ = execL1Exit s) fun e he => ?_
    subst he
    exact ⟨Dev.get_set_same .., ((Dev.Only.refl _ s.found).set _ ⟨rfl, by decide⟩).ofFound⟩
  · refine .runAs (rfl : _ = execD0Return s) fun e he => ?_
    have he : e = ((s.found.set .DMA_LINK_STATUS_DSTATE 0 0).syncPausedAll.flushPba).askAll := he
    generalize hb1 : (s.found.set .DMA_LINK_STATUS_DSTATE 0 0).syncPausedAll = b at he
    have honly := (s.found.set .DMA_LINK_STATUS_DSTATE 0 0).syncPausedAll_only
    rw [hb1] at honly
    have hget : ∀ f i, f ≠ .DMA_Q_STATUS_PAUSED → f ≠ .DMA_LINK_STATUS_DSTATE → b.get f i = s.dev.get f i := fun f i h1 h2 =>
      (honly.2 f i h1).trans (Dev.get_set_field _ _ _ _ h2)
    have hd0 : b.get .DMA_LINK_STATUS_DSTATE 0 = 0 := (honly.2 _ _ (by decide)).trans (Dev.get_set_same ..)
    obtain ⟨h1, h2⟩ := Dev.flushed_sends (b := b) hsorted hv (by rw [honly.1]; rfl) (by rw [hd0]; decide)
      (by rwa [hget _ _ (by decide) (by decide)]) (by rwa [hget _ _ (by decide) (by decide)])
      (by rwa [hget _ _ (by decide) (by decide)])
    rw [he]
    refine ⟨?_, (askAll_asks _).sends.mem h1, by rwa [Dev.askAll_pba]⟩
    rw [(askAll_asks _).get _ _ (by decide), Dev.flushPba_get _ _ (by decide), hd0]
  · refine .runAs (rfl : _ = execBmeChange true s) fun e he => ?_
    have he : e = ((s.found.set .DMA_LINK_STATUS_BME 0 (b2n true)).syncPausedAll.flushPba).askAll := he
    generalize hb1 : (s.found.set .DMA_LINK_STATUS_BME 0 (b2n true)).syncPausedAll = b at he
    have honly := (s.found.set .DMA_LINK_STATUS_BME 0 (b2n true)).syncPausedAll_only
    rw [hb1] at honly
    have hget : ∀ f i, f ≠ .DMA_Q_STATUS_PAUSED → f ≠ .DMA_LINK_STATUS_BME → b.get f i = s.dev.get f i := fun f i h1 h2 =>
      (honly.2 f i h1).trans (Dev.get_set_field _ _ _ _ h2)
    have hb : b.get .DMA_LINK_STATUS_BME 0 = 1 := (honly.2 _ _ (by decide)).trans (Dev.get_set_same ..)
    obtain ⟨h1, h2⟩ := Dev.flushed_sends (b := b) hsorted hv (by rw [honly.1]; rfl)
      (by rwa [hget _ _ (by decide) (by decide)]) hb (by rwa [hget _ _ (by decide) (by decide)])
      (by rwa [hget _ _ (by decide) (by decide)])
    rw [he]
    refine ⟨?_, (askAll_asks _).sends.mem h1, by rwa [Dev.askAll_pba]⟩
    rw [(askAll_asks _).get _ _ (by decide), Dev.flushPba_get _ _ (by decide), hb]
  · refine .runAs (rfl : _ = execVectorUnmask (some v) s) fun e he => ?_
    have hget : ∀ f i, f ≠ .MSIX_CTRL_MASK → (s.found.set .MSIX_CTRL_MASK v 0).get f i = s.dev.get f i := fun f i h =>
      Dev.get_set_field _ _ _ _ h
    have hm : (s.found.set .MSIX_CTRL_MASK v 0).get .MSIX_CTRL_MASK v = 0 := Dev.get_set_same ..
    subst he
    refine ⟨(Dev.flushPba_get _ _ (by decide)).trans hm, Dev.flushed_sends hsorted hv rfl (by rwa [hget _ _ (by decide)])
      (by rwa [hget _ _ (by decide)]) (by rwa [hget _ _ (by decide)]) (by rw [hm]; decide)⟩
  · refine .runAs (rfl : _ = execVectorUnmask none s) fun e he => ?_
    have hget : ∀ f i, f ≠ .X_PCIE_FUNC_MASK → (s.found.set .X_PCIE_FUNC_MASK 0 0).get f i = s.dev.get f i := fun f i h =>
      Dev.get_set_field _ _ _ _ h
    have hf : (s.found.set .X_PCIE_FUNC_MASK 0 0).get .X_PCIE_FUNC_MASK 0 = 0 := Dev.get_set_same ..
    subst he
    refine ⟨(Dev.flushPba_get _ _ (by decide)).trans hf, Dev.flushed_sends hsorted hv rfl (by rwa [hget _ _ (by decide)])
      (by rwa [hget _ _ (by decide)]) (by rw [hf]; decide) (by rwa [hget _ _ (by decide)])⟩
  · refine .runAs (rfl : _ = execBmeChange false s) fun e he => ?_
    have he : e = (s.found.set .DMA_LINK_STATUS_BME 0 0).syncPausedAll := he
    have honly := (s.found.set .DMA_LINK_STATUS_BME 0 0).syncPausedAll_only
    rw [← he] at honly
    refine ⟨(honly.2 _ _ (by decide)).trans (Dev.get_set_same ..), by rw [honly.1]; rfl, fun q hq => ?_⟩
    have hlive : (s.found.set .DMA_LINK_STATUS_BME 0 0).dqLive q = s.dev.dqLive q := by
      unfold Dev.dqLive Dev.dq
      rw [Dev.get_set_field _ _ _ _ (by decide)]
      rfl
    have hbus : (s.found.set .DMA_LINK_STATUS_BME 0 0).busOk = false := by
      unfold Dev.busOk
      rw [Dev.on_def, Dev.get_set_same]
      rfl
    rw [he, Dev.syncPausedAll_paused _ hq, hlive, hbus]
    simp

end Sys2Proof.Machine
end

section
/-! PROOFS. GDDR7 memory: training and its failure, drift, retraining and temperature, and requests served (R420 to R443). -/

-- One theorem at a time: the whole text is compiled under a memory limit, which the stacks of waiting threads would fill.
set_option Elab.async false

namespace Sys2Proof.Machine

open Sys2Proof

/-! ## Training (R421, R434, R436, R437) -/

theorem Dev.showRegion_only (d : Dev) :
    Dev.Only (fun f _ => f ∈ ([.CAP_REGION_BASE, .CAP_REGION_SIZE] : List F)) d d.showRegion :=
  ((Dev.Only.refl _ d).set (f := .CAP_REGION_BASE) (i := 0) _ (by decide)).set (f := .CAP_REGION_SIZE) (i := 0) _ (by decide)

/-- The fields that show the regions of memory. -/
def regionFields : List F := [.X_REGION_IN, .X_REGION_SIZE, .MEM_EVENTS_REGION_ABSENT, .CAP_REGION_BASE, .CAP_REGION_SIZE]

theorem Dev.dropRegions_only (d : Dev) : Dev.Only (fun f _ => f ∈ regionFields) d d.dropRegions :=
  ((Dev.Only.refl _ d).each fun r _ e => (Dev.Only.refl _ e).set (f := .X_REGION_IN) (i := r) 0 (by decide)).trans
    (((Dev.Only.refl _ _).set (f := .CAP_REGION_BASE) (i := 0) _ (by decide)).set (f := .CAP_REGION_SIZE) (i := 0) _ (by decide))

/-- The judgement of a region writes what shows that region, and the event. -/
theorem Dev.judgeRegion_get (r : Nat) (d : Dev) {f : F} {i : Nat} (h1 : f ≠ .MEM_EVENTS_REGION_ABSENT) (h2 : f ≠ .X_REGION_IN ∨ i ≠ r)
    (h3 : f ≠ .X_REGION_SIZE ∨ i ≠ 3) : (Dev.judgeRegion r d).get f i = d.get f i := by
  have hset : ∀ (e : Dev) g j v, (f ≠ g ∨ i ≠ j) → (e.set g j v).get f i = e.get f i := fun e g j v h =>
    Dev.get_set_other _ _ _ _ _ _ fun hk => h.elim (fun x => x (Key.mk.inj hk).1) fun x => x (Key.mk.inj hk).2
  unfold Dev.judgeRegion
  extract_lets cap e n
  have he : e.get f i = d.get f i := by
    unfold e
    split
    · exact hset _ _ _ _ h3
    · rfl
  split
  · rw [hset _ _ _ _ h2, he]
  · split
    · rw [hset _ _ _ _ h2, he]
    · rw [hset _ _ _ _ (.inl h1), hset _ _ _ _ h2, he]

theorem Dev.judgeRegion_in {r : Nat} {d : Dev} (hr : r ≠ 3) (h0 : 0 < d.get .X_REGION_SIZE r)
    (h : d.get .X_REGION_BASE r + d.get .X_REGION_SIZE r ≤ d.get .MEM_CFG_CAPACITY 0) :
    (Dev.judgeRegion r d).get .X_REGION_IN r = 1 := by
  unfold Dev.judgeRegion
  extract_lets cap e n
  have he : e = d := if_neg fun h => hr h.1
  have hn : n ≠ 0 := by
    unfold n
    rw [he]
    omega
  rw [if_neg hn, if_pos, Dev.get_set_same]
  unfold n cap
  rwa [he]

theorem Dev.judgeRegion_only (r : Nat) (d : Dev) : Dev.Only (fun f _ => f ∈ regionFields) d (Dev.judgeRegion r d) := by
  unfold Dev.judgeRegion
  extract_lets cap e n
  have he : Dev.Only (fun f _ => f ∈ regionFields) d e := by
    unfold e
    split
    · exact (Dev.Only.refl _ d).set (f := .X_REGION_SIZE) (i := 3) _ (by decide)
    · exact .refl _ d
  split
  · exact he.set (f := .X_REGION_IN) (i := r) 0 (by decide)
  · split
    · exact he.set (f := .X_REGION_IN) (i := r) 1 (by decide)
    · exact (he.set (f := .X_REGION_IN) (i := r) 0 (by decide)).set (f := .MEM_EVENTS_REGION_ABSENT) (i := 0) 1 (by decide)

theorem Dev.formRegions_only (d : Dev) : Dev.Only (fun f _ => f ∈ regionFields) d d.formRegions := by
  unfold Dev.formRegions
  split
  · exact ((Dev.Only.refl _ d).each fun r _ e => Dev.judgeRegion_only r e).trans
      (((Dev.Only.refl _ _).set (f := .CAP_REGION_BASE) (i := 0) _ (by decide)).set (f := .CAP_REGION_SIZE) (i := 0) _ (by decide))
  · exact d.dropRegions_only

/-- R421: a region of the live plan that lies within the capacity found comes into use. -/
theorem Dev.formRegions_in {d : Dev} {r : Nat} (hr : r < 3) (hm : d.memTrained = true) (h0 : 0 < d.get .X_REGION_SIZE r)
    (h : d.get .X_REGION_BASE r + d.get .X_REGION_SIZE r ≤ d.get .MEM_CFG_CAPACITY 0) : d.formRegions.regionIn r = true := by
  unfold Dev.formRegions Dev.regionIn
  rw [if_pos hm, Dev.on_iff]
  have hkeep : ∀ (i : Nat) (e : Dev) f, f ∈ ([.X_REGION_SIZE, .X_REGION_BASE] : List F) →
      (Dev.judgeRegion i e).get f r = e.get f r := fun i e f hf => by
    refine Dev.judgeRegion_get i e ?_ (.inl ?_) (.inr (by omega)) <;> (revert hf f; decide)
  have hcap : ∀ (i : Nat) (e : Dev), (Dev.judgeRegion i e).get .MEM_CFG_CAPACITY 0 = e.get .MEM_CFG_CAPACITY 0 := fun i e =>
    (Dev.judgeRegion_only i e).2 _ _ (by decide)
  have hin : ∀ e : Dev, (e.get .X_REGION_SIZE r = d.get .X_REGION_SIZE r ∧ e.get .X_REGION_BASE r = d.get .X_REGION_BASE r ∧
      e.get .MEM_CFG_CAPACITY 0 = d.get .MEM_CFG_CAPACITY 0) → (Dev.judgeRegion r e).get .X_REGION_IN r = 1 := by
    rintro e ⟨h1, h2, h3⟩
    exact Dev.judgeRegion_in (by omega) (by rwa [h1]) (by rwa [h1, h2, h3])
  rw [(Dev.showRegion_only _).2 _ _ (show F.X_REGION_IN ∉ _ by decide)]
  refine Dev.each_reaches_of (g := Dev.judgeRegion) (P := fun e => e.get .X_REGION_IN r = 1)
    (I := fun e => e.get .X_REGION_SIZE r = d.get .X_REGION_SIZE r ∧ e.get .X_REGION_BASE r = d.get .X_REGION_BASE r ∧
      e.get .MEM_CFG_CAPACITY 0 = d.get .MEM_CFG_CAPACITY 0) (j := r) (by omega) ⟨rfl, rfl, rfl⟩ (fun i e he => ?_) hin
    fun i e he hp => ?_
  · obtain ⟨h1, h2, h3⟩ := he
    exact ⟨(hkeep i e _ (by decide)).trans h1, (hkeep i e _ (by decide)).trans h2, (hcap i e).trans h3⟩
  · by_cases hir : r = i
    · subst hir
      exact hin e he
    · rw [Dev.judgeRegion_get i e (by decide) (.inr hir) (.inl (by decide)), hp]

/-- What the end of training does for a plan that has waited for it. -/
def planMemFields : List F := [.X_PLAN_SLOT, .X_PLAN_ACT, .X_BOOT_SLOT, .X_PLAN_PREV, .PLAN_STATUS_STATE, .X_PLAN_CLK]

theorem Dev.planMem_only (d : Dev) : Dev.Only (fun f _ => f ∈ planMemFields) d d.planMem := by
  have hboot : Dev.Only (fun f _ => f ∈ planMemFields) d d.bootGo :=
    ((((Dev.Only.refl _ d).set (f := .X_PLAN_SLOT) (i := 0) _ (by decide)).set (f := .X_PLAN_ACT) (i := 0) 15 (by decide)).setAll
      (fs := [.X_BOOT_SLOT, .X_PLAN_PREV]) (i := 0) 0 (by decide)).set (f := .PLAN_STATUS_STATE) (i := 0) 2 (by decide)
  unfold Dev.planMem
  split
  · exact .refl _ d
  · split
    · exact hboot
    · split
      · exact (Dev.Only.refl _ d).set (f := .X_PLAN_CLK) (i := 0) _ (by decide)
      · exact .refl _ d

/-- What shows the memory's state and its channels in service. -/
theorem Dev.memSync_eq (d : Dev) : ∃ n, (d.memTrained = false → n = 0) ∧
    d.memSync = if d.memTrained then (d.set .MEM_CH_READY_CHANNELS 0 n).set .MEM_STATUS_STATE 0
        (if (List.range 4).any d.memAwake then meREADY else meREFRESH)
      else d.set .MEM_CH_READY_CHANNELS 0 n := by
  unfold Dev.memSync
  extract_lets n e
  refine ⟨n, fun h => ?_, ?_⟩
  · simp [n, h]
  · clear_value n
    have htrained : e.memTrained = d.memTrained := by
      unfold e Dev.memTrained Dev.memState
      rw [Dev.get_set_field _ _ _ _ (by decide)]
    have hawake : e.memAwake = d.memAwake := by
      funext m
      unfold e Dev.memAwake Dev.domOn Dev.dom Dev.on
      rw [Dev.get_set_field _ _ _ _ (by decide), Dev.get_set_field _ _ _ _ (by decide), Dev.get_set_field _ _ _ _ (by decide)]
    rw [htrained, hawake]

/-- With the memory not trained no channel is ready. -/
theorem Dev.memSync_untrained {d : Dev} (h : d.memTrained = false) : d.memSync = d.set .MEM_CH_READY_CHANNELS 0 0 := by
  obtain ⟨n, hn, hsync⟩ := d.memSync_eq
  rw [hsync, hn h, h]
  exact if_neg Bool.false_ne_true

theorem Dev.memSync_only (d : Dev) :
    Dev.Only (fun f _ => f ∈ ([.MEM_CH_READY_CHANNELS, .MEM_STATUS_STATE] : List F)) d d.memSync := by
  obtain ⟨n, -, hsync⟩ := d.memSync_eq
  have hone : Dev.Only (fun f _ => f ∈ ([.MEM_CH_READY_CHANNELS, .MEM_STATUS_STATE] : List F)) d
      (d.set .MEM_CH_READY_CHANNELS 0 n) := (Dev.Only.refl _ d).set (f := .MEM_CH_READY_CHANNELS) (i := 0) _ (by decide)
  rw [hsync]
  split
  · exact hone.set (f := .MEM_STATUS_STATE) (i := 0) _ (by decide)
  · exact hone

/-- R437: trained memory is READY where a domain is awake. -/
theorem Dev.memSync_ready {d : Dev} (h : d.memState = meREADY) {m : Nat} (hm : m < 4) (hawake : d.memAwake m = true) :
    d.memSync.memState = meREADY := by
  obtain ⟨n, -, hsync⟩ := d.memSync_eq
  have htrained : d.memTrained = true := by
    unfold Dev.memTrained
    rw [h]
    rfl
  have hany : (List.range 4).any d.memAwake = true := List.any_eq_true.mpr ⟨m, List.mem_range.mpr hm, hawake⟩
  rw [hsync, if_pos htrained, hany, if_pos rfl]
  exact Dev.get_set_same ..

theorem Dev.endTaps_idle {d : Dev} (h : ∀ t, d.tapActive t = false) (p : Nat → Bool) (reason : Nat) : d.endTaps p reason = d :=
  Dev.each_fixed fun t => if_neg (by rw [h t]; exact Bool.false_ne_true)

theorem Dev.loseCells_get (d : Dev) (lo hi : Nat) (f : F) (i : Nat) : (d.loseCells lo hi).get f i = d.get f i := rfl

/-- R436, R437: memory that is lost with no request waiting and no tap active. -/
theorem Dev.memoryLost_idle {d : Dev} (hreqs : d.mreqs = []) (htaps : ∀ t, d.tapActive t = false) (hm : d.memTrained = false) :
    ∃ b : Dev, d.memoryLost = b.set .MEM_CH_READY_CHANNELS 0 0 ∧ ∀ f i, b.get f i = d.dropRegions.get f i := by
  have hsame : { d with mreqs := [] } = d := by rw [← hreqs]
  have hget : ∀ f i, f ∉ regionFields → d.dropRegions.get f i = d.get f i := d.dropRegions_only.2
  have hidle : ∀ t, d.dropRegions.tapActive t = false := fun t => by
    rw [← htaps t]
    unfold Dev.tapActive Dev.tapState
    rw [hget _ _ (by decide)]
  have hlost : (d.dropRegions).memTrained = false := by
    rw [← hm]
    unfold Dev.memTrained Dev.memState
    rw [hget _ _ (by decide)]
  have heq : d.memoryLost = Dev.memSync { (d.dropRegions.endTaps (fun _ => true) 7) with
      descs := (d.dropRegions.endTaps (fun _ => true) 7).descs.map fun x : Desc =>
        if 8 ≤ x.queue ∧ (x.status = 0 ∨ x.status = 7) then { x with status := 8 } else x } := by
    unfold Dev.memoryLost
    rw [hsame, hreqs]
    rfl
  rw [heq, Dev.endTaps_idle hidle]
  exact ⟨_, Dev.memSync_untrained hlost, fun _ _ => rfl⟩

/-- Settles O25: training ends, fails, begins again, and the memory is lost. -/
theorem memoryTrains : Obligations.MemoryTrains := by
  intro s
  refine ⟨fun z hstate hawake => ?_, fun c hstate htry => ?_, fun c hstate htry hclk hreqs htaps => ?_, fun hstate => ?_,
    fun hreqs htaps => ?_⟩
  · refine .runIf (rfl : _ = execMemTrainingDone z s) hstate fun e he => ?_
    extract_lets d1 d2 at he
    have hd2 : ∀ f i, f ∉ ([.MEM_CFG_DENSITY, .MEM_CFG_CAPACITY, .MEM_C_STATUS_TRAINED, .X_MEM_TRY, .X_SYS_MEM] : List F) →
        d2.get f i = s.dev.get f i := fun f i h => by
      simp only [List.mem_cons, List.not_mem_nil, or_false, not_or] at h
      obtain ⟨h1, h2, h3, h4, h5⟩ := h
      rw [Dev.get_set_field _ _ _ _ h5, Dev.setEach_get_field _ _ _ _ h4, Dev.setEach_get_field _ _ _ _ h3,
        Dev.get_set_field _ _ _ _ h2, Dev.get_set_field _ _ _ _ h1]
      rfl
    have hcap : d2.get .MEM_CFG_CAPACITY 0 = 256 + 128 * z.val := by simp [d2, d1]
    have hdens : d2.get .MEM_CFG_DENSITY 0 = z.val + 1 := by simp [d2, d1]
    have htr : ∀ m < 8, d2.get .MEM_C_STATUS_TRAINED m = 15 := fun m hm => by
      rw [Dev.get_set_field _ _ _ _ (by decide), Dev.setEach_get_field _ _ _ _ (by decide),
        Dev.setEach_get_of_mem _ _ (List.mem_range.mpr hm)]
    have hsys : d2.get .X_SYS_MEM 0 = 1 := Dev.get_set_same ..
    clear_value d2
    have hready : (d2.set .MEM_STATUS_STATE 0 meREADY).memSync.memState = meREADY := by
      refine Dev.memSync_ready (m := 0) (Dev.get_set_same ..) (by decide) ?_
      rw [← hawake]
      unfold Dev.memAwake Dev.domOn Dev.dom Dev.on
      rw [Dev.get_set_field _ _ _ _ (by decide), Dev.get_set_field _ _ _ _ (by decide), Dev.get_set_field _ _ _ _ (by decide),
        hd2 _ _ (by decide), hd2 _ _ (by decide), hd2 _ _ (by decide)]
    have hb : ∀ f i, f ≠ .MEM_STATUS_STATE → f ≠ .MEM_CH_READY_CHANNELS →
        (d2.set .MEM_STATUS_STATE 0 meREADY).memSync.get f i = d2.get f i := fun f i h1 h2 => by
      rw [(Dev.memSync_only _).2 f i (by simp [h1, h2]), Dev.get_set_field _ _ _ _ h1]
    generalize (d2.set .MEM_STATUS_STATE 0 meREADY).memSync = b at he hready hb
    have hf := b.formRegions_only
    have hget : ∀ f i, f ∉ regionFields → f ∉ planMemFields → e.get f i = b.get f i := fun f i h1 h2 => by
      rw [he, (Dev.planMem_only _).2 f i h2, hf.2 f i h1]
    refine ⟨?_, ?_, ?_, fun m hm => ?_, ?_, fun r hr h0 hle => ?_⟩
    · exact (hget .MEM_STATUS_STATE 0 (by decide) (by decide)).trans hready
    · rw [hget _ _ (by decide) (by decide), hb _ _ (by decide) (by decide), hdens]
    · rw [hget _ _ (by decide) (by decide), hb _ _ (by decide) (by decide), hcap]
    · rw [hget _ _ (by decide) (by decide), hb _ _ (by decide) (by decide), htr m hm]
    · rw [hget _ _ (by decide) (by decide), hb _ _ (by decide) (by decide), hsys]
    · have hmt : b.memTrained = true := by
        unfold Dev.memTrained
        rw [hready]
        rfl
      have hin := Dev.formRegions_in (d := b) hr hmt
        (by rwa [hb _ _ (by decide) (by decide), hd2 _ _ (by decide)])
        (by rw [hb _ _ (by decide) (by decide), hb _ _ (by decide) (by decide), hb _ _ (by decide) (by decide), hcap,
              hd2 _ _ (by decide), hd2 _ _ (by decide)]
            omega)
      rw [← hin, he]
      unfold Dev.regionIn Dev.on
      rw [(Dev.planMem_only _).2 .X_REGION_IN r (show F.X_REGION_IN ∉ planMemFields by decide)]
  · refine .runIf (rfl : _ = execMemTrainingRetry c s) hstate fun e he => ?_
    have htry : s.found.get .X_MEM_TRY c = 0 := htry
    dsimp only at he
    rw [htry, if_pos rfl, Dev.onTime_of_le le_rfl, if_pos (by decide)] at he
    subst he
    exact ⟨by rw [Dev.get_set_field _ _ _ _ (by decide), Dev.get_set_same], Dev.get_set_same ..,
      (((Dev.Only.refl _ s.found).set _ ⟨rfl, by decide⟩).set _ ⟨rfl, by decide⟩).ofFound⟩
  · refine .runIf (rfl : _ = execMemTrainingRetry c s) hstate fun e he => ?_
    have htry : s.found.get .X_MEM_TRY c = 3 := htry
    have hclk : s.found.get .X_MEM_TRY_CLK c + ms ≤ s.found.clk := hclk
    dsimp only at he
    rw [htry, if_neg (by decide), Dev.onTime_of_le hclk, if_neg (by decide)] at he
    unfold Dev.memFail at he
    generalize hb1 : (s.found.set .MEM_STATUS_STATE 0 meFAILED).setEach .X_MEM_RT (List.range 32) 0 = d1 at he
    extract_lets d2 at he
    have hd1 : ∀ f i, f ≠ .MEM_STATUS_STATE → f ≠ .X_MEM_RT → d1.get f i = s.dev.get f i := fun f i h1 h2 => by
      rw [← hb1, Dev.setEach_get_field _ _ _ _ h2, Dev.get_set_field _ _ _ _ h1]
      rfl
    have hstate1 : d1.memState = meFAILED := by
      rw [← hb1, Dev.memState, Dev.setEach_get_field _ _ _ _ (by decide), Dev.get_set_same]
    have hpart : Dev.Only (fun f _ => f ∈ ([.MEM_STATUS_STATE, .X_MEM_RT] : List F)) s.found d1 :=
      hb1 ▸ ((Dev.Only.refl _ s.found).set (f := .MEM_STATUS_STATE) (i := 0) _ (by decide)).setEach (f := .X_MEM_RT) _
        (fun _ _ => show F.X_MEM_RT ∈ _ by decide)
    obtain ⟨b, hb, hbget⟩ := Dev.memoryLost_idle (d := d1) (by rw [hpart.1]; exact hreqs)
      (fun t => by
        rw [← htaps t]
        unfold Dev.tapActive Dev.tapState
        rw [hd1 _ _ (by decide) (by decide)])
      (by unfold Dev.memTrained; rw [hstate1]; rfl)
    have hd2 : ∀ f i, f ∉ regionFields → f ≠ .MEM_CH_READY_CHANNELS → d2.get f i = d1.get f i := fun f i h1 h2 => by
      unfold d2
      rw [hb, Dev.get_set_field _ _ _ _ h2, hbget]
      exact d1.dropRegions_only.2 f i h1
    have hchan : d2.get .MEM_CH_READY_CHANNELS 0 = 0 := by
      unfold d2
      rw [hb, Dev.get_set_same]
    clear_value d2
    have hraised := raise_raised (d2.set .MEM_EVENTS_FAILED 0 1) (s := 26) (by decide)
    have hp := Dev.planMem_only ((d2.set .MEM_EVENTS_FAILED 0 1).raise 26)
    refine ⟨?_, ?_, ?_, ?_⟩
    · rw [he, Dev.memState, hp.2 _ _ (by decide), raise_get _ _ _ _ (by decide), Dev.get_set_field _ _ _ _ (by decide),
        hd2 _ _ (by decide) (by decide)]
      exact hstate1
    · rw [he, hp.2 _ _ (by decide), raise_get _ _ _ _ (by decide), Dev.get_set_same]
    · rw [he, hp.1]
      show 26 ∈ ((d2.set .MEM_EVENTS_FAILED 0 1).raise 26).pending
      rw [hraised.1]
      exact (mem_insertNat ..).mpr (.inl rfl)
    · rw [he, hp.2 _ _ (by decide), raise_get _ _ _ _ (by decide), Dev.get_set_field _ _ _ _ (by decide), hchan]
  · refine .runIf (rfl : _ = execMemReinit s) hstate fun e he => ?_
    unfold Dev.memTrain at he
    extract_lets d1 at he
    have hstate1 : (d1.setEach .MEM_C_STATUS_TRAINED (List.range 8) 0).memState = meTRAINING := by
      rw [Dev.memState, Dev.setEach_get_field _ _ _ _ (by decide), Dev.setEach_get_field _ _ _ _ (by decide), Dev.get_set_same]
    rw [Dev.memSync_untrained (by unfold Dev.memTrained; rw [hstate1]; rfl)] at he
    rw [he]
    refine ⟨?_, fun c hc => ?_, fun m hm => ?_, Dev.get_set_same ..⟩
    · rw [Dev.memState, Dev.get_set_field _ _ _ _ (by decide)]
      exact hstate1
    · rw [Dev.get_set_field _ _ _ _ (by decide), Dev.setEach_get_field _ _ _ _ (by decide),
        Dev.setEach_get_of_mem _ _ (List.mem_range.mpr hc)]
    · rw [Dev.get_set_field _ _ _ _ (by decide), Dev.setEach_get_of_mem _ _ (List.mem_range.mpr hm)]
  · refine .runAs (rfl : _ = execVddqLoss s) fun e he => ?_
    extract_lets d1 at he
    have hd1 : ∀ f i, f ∉ ([.MEM_STATUS_STATE, .MEM_CFG_CAPACITY, .MEM_CFG_DENSITY, .X_MEM_RT] : List F) →
        d1.get f i = s.dev.get f i := fun f i h => by
      simp only [List.mem_cons, List.not_mem_nil, or_false, not_or] at h
      obtain ⟨h1, h2, h3, h4⟩ := h
      rw [Dev.setEach_get_field _ _ _ _ h4, Dev.setAll_get_field _ _ _ _ (by simp [h1, h2, h3])]
      rfl
    have hoff : ∀ f ∈ ([.MEM_STATUS_STATE, .MEM_CFG_CAPACITY] : List F), d1.get f 0 = 0 := fun f hf => by
      rw [Dev.setEach_get_field _ _ _ _ (by revert hf f; decide), Dev.setAll_get_of_mem _ _ _ (by revert hf f; decide)]
    have hpart : Dev.Only (fun f _ => f ∈ ([.MEM_STATUS_STATE, .MEM_CFG_CAPACITY, .MEM_CFG_DENSITY, .X_MEM_RT] : List F))
        s.found d1 :=
      ((Dev.Only.refl _ s.found).setAll (fs := [.MEM_STATUS_STATE, .MEM_CFG_CAPACITY, .MEM_CFG_DENSITY]) (i := 0) _
        (by decide)).setEach (f := .X_MEM_RT) _ (fun _ _ => show F.X_MEM_RT ∈ _ by decide)
    clear_value d1
    generalize hd2 : d1.setEach .MEM_C_STATUS_TRAINED (List.range 8) 0 = d2 at he
    have hget2 : ∀ f i, f ≠ .MEM_C_STATUS_TRAINED → d2.get f i = d1.get f i := fun f i h => by
      rw [← hd2, Dev.setEach_get_field _ _ _ _ h]
    have htr2 : ∀ m < 8, d2.get .MEM_C_STATUS_TRAINED m = 0 := fun m hm => by
      rw [← hd2, Dev.setEach_get_of_mem _ _ (List.mem_range.mpr hm)]
    have hreqs2 : d2.mreqs = [] := by
      have hone : Dev.Only (fun f _ => f = .MEM_C_STATUS_TRAINED) d1 d2 :=
        hd2 ▸ (Dev.Only.refl _ d1).setEach (f := .MEM_C_STATUS_TRAINED) _ (fun _ _ => rfl)
      rw [hone.1, hpart.1]
      exact hreqs
    obtain ⟨b, hb, hbget⟩ := Dev.memoryLost_idle (d := d2) hreqs2
      (fun t => by
        rw [← htaps t]
        unfold Dev.tapActive Dev.tapState
        rw [hget2 _ _ (by decide), hd1 _ _ (by decide)])
      (by unfold Dev.memTrained Dev.memState; rw [hget2 _ _ (by decide), hoff _ (by decide)]; rfl)
    have hget : ∀ f i, f ∉ regionFields → f ≠ .MEM_CH_READY_CHANNELS → e.get f i = d2.get f i := fun f i h1 h2 => by
      rw [he, hb, Dev.loseCells_get]
      exact ((Dev.get_set_field _ _ _ _ h2).trans (hbget f i)).trans (d2.dropRegions_only.2 f i h1)
    refine ⟨?_, ?_, fun m hm => ?_, d2.memoryLost.free, fun a ha => ?_⟩
    · rw [Dev.memState, hget _ _ (by decide) (by decide), hget2 _ _ (by decide), hoff _ (by decide)]
      rfl
    · rw [Dev.memBytes, hget _ _ (by decide) (by decide), hget2 _ _ (by decide), hoff _ (by decide), Nat.zero_mul]
    · rw [hget _ _ (by decide) (by decide), htr2 m hm]
    · rw [he, Dev.cell, Dev.loseCells, List.find?_cons_of_pos]
      exact decide_eq_true ⟨Nat.zero_le a, ha⟩

/-! ## Drift, retraining and temperature (R420, R422, R423, R435, R441, R443) -/

/-- R435: a retrain of a channel in service begins. -/
theorem Dev.startRetrain_starts {c : Nat} {d : Dev} (hstate : d.memState = meREADY)
    (hready : bitAt (d.get .MEM_CH_READY_CHANNELS 0) c = true) (hrt : d.get .X_MEM_RT c ≠ 1) : Dev.startRetrain c d =
      (((d.set .X_MEM_RT c 1).set .X_MEM_RT_CLK c d.clk).set .X_MEM_TRY c 0).raise 25 :=
  if_pos ⟨hstate, hready, by simpa [Dev.on_def] using hrt⟩

/-- No channel of the device is in a pass that began less than 2 µs ago. -/
theorem Dev.passes_over {d : Dev} {c : Nat}
    (h : ∀ x < 32, x / 4 = c / 4 → x ≠ c → d.get .X_MEM_TRACK_CLK x = 0 ∨ d.get .X_MEM_TRACK_CLK x + 2 * us ≤ d.clk) (hc : c < 32) :
    ((List.range 4).map fun i => if 4 * (c / 4) + i = c then 0 else
      (if d.get .X_MEM_TRACK_CLK (4 * (c / 4) + i) = 0 then 0 else d.get .X_MEM_TRACK_CLK (4 * (c / 4) + i) + 2 * us)).foldl max 0 ≤
    d.clk := by
  refine List.foldlRecOn _ _ (motive := fun n => n ≤ d.clk) (Nat.zero_le _) fun n hn x hx => max_le hn ?_
  obtain ⟨i, hi, rfl⟩ := List.mem_map.mp hx
  have hi := List.mem_range.mp hi
  split
  · exact Nat.zero_le _
  next hne =>
    split
    · exact Nat.zero_le _
    next hclk => exact (h _ (by omega) (by omega) hne).resolve_left hclk

/-- R435, R441: the drift pass of a channel in service. -/
theorem driftTracking_tracks {s : State} {c : Fin 32} (drift : Bool) (ecc : Word) (hstate : s.dev.memState = meREADY)
    (hready : bitAt (s.dev.get .MEM_CH_READY_CHANNELS 0) c = true) (hrt : s.dev.get .X_MEM_RT c ≠ 1)
    (hclk : s.dev.get .X_MEM_TRACK_CLK c + ms ≤ s.dev.clk)
    (hother : ∀ x < 32, x / 4 = c.val / 4 → x ≠ c.val →
      s.dev.get .X_MEM_TRACK_CLK x = 0 ∨ s.dev.get .X_MEM_TRACK_CLK x + 2 * us ≤ s.dev.clk) :
    Completes (.driftTracking c drift ecc) s fun e =>
      e.get .X_MEM_TRACK_CLK c = s.dev.clk ∧ e.get .X_MEM_RETRIES c = 0 ∧
      e.get .MEM_C_ODECC_COUNT (c.val / 4) =
        satAdd F.MEM_C_ODECC_COUNT.width (s.dev.get .MEM_C_ODECC_COUNT (c.val / 4)) ecc.toNat ∧
      (drift = true → e.get .X_MEM_RT c = 1 ∧ Dev.Raised 25 s.dev e) ∧
      (drift = false → s.dev.get .X_MEM_RETRIES c < 16 → e.get .X_MEM_RT c = s.dev.get .X_MEM_RT c ∧
        e.pending = s.dev.pending) := by
  have hnot : (!s.found.on .X_MEM_RT c) = true := by
    have hrt : s.found.get .X_MEM_RT c ≠ 1 := hrt
    simpa [Dev.on_def] using hrt
  refine .runIf (rfl : _ = execDriftTracking c drift ecc s) ⟨hstate, hready, hnot⟩ fun e he => ?_
  have hdue : max (s.found.get .X_MEM_TRACK_CLK c + ms) (((List.range 4).map fun i => if 4 * (c.val / 4) + i = c.val then 0 else
      (if s.found.get .X_MEM_TRACK_CLK (4 * (c.val / 4) + i) = 0 then 0
        else s.found.get .X_MEM_TRACK_CLK (4 * (c.val / 4) + i) + 2 * us)).foldl max 0) ≤ s.found.clk :=
    max_le hclk (Dev.passes_over hother c.isLt)
  dsimp only at he
  rw [Dev.onTime_of_le hdue] at he
  generalize hd1 : ((s.found.set .X_MEM_TRACK_CLK c s.found.clk).addSat .MEM_C_ODECC_COUNT (c.val / 4) ecc.toNat).set
    .X_MEM_RETRIES c 0 = d1 at he
  have h1 : d1.get .X_MEM_TRACK_CLK c = s.dev.clk := by simp [← hd1, Dev.addSat]
  have h2 : d1.get .X_MEM_RETRIES c = 0 := by simp [← hd1]
  have h3 : d1.get .MEM_C_ODECC_COUNT (c.val / 4) =
      satAdd F.MEM_C_ODECC_COUNT.width (s.dev.get .MEM_C_ODECC_COUNT (c.val / 4)) ecc.toNat := by
    simp [← hd1, Dev.addSat]
  have hkeep : ∀ f i, f ∉ ([.X_MEM_TRACK_CLK, .X_MEM_RETRIES, .MEM_C_ODECC_COUNT] : List F) → d1.get f i = s.dev.get f i :=
    fun f i h => by
      simp only [List.mem_cons, List.not_mem_nil, or_false, not_or] at h
      simp [← hd1, Dev.addSat, h]
  have hpend : d1.pending = s.dev.pending := hd1 ▸ rfl
  have hstart : Dev.startRetrain c d1 = _ := Dev.startRetrain_starts (c := c.val) (d := d1)
    (by unfold Dev.memState; rwa [hkeep _ _ (by decide)]) (by rwa [hkeep _ _ (by decide)]) (by rwa [hkeep _ _ (by decide)])
  have hsame : ∀ f i, f ∉ ([.X_MEM_RT, .X_MEM_RT_CLK, .X_MEM_TRY] : List F) → f ∉ signalFields → e.get f i = d1.get f i :=
    fun f i hf hs => by
      rw [he]
      split
      · simp only [List.mem_cons, List.not_mem_nil, or_false, not_or] at hf
        obtain ⟨hf1, hf2, hf3⟩ := hf
        rw [hstart, raise_get _ _ _ _ hs, Dev.get_set_field _ _ _ _ hf3, Dev.get_set_field _ _ _ _ hf2,
          Dev.get_set_field _ _ _ _ hf1]
      · rfl
  refine ⟨by rw [hsame _ _ (by decide) (by decide), h1], by rw [hsame _ _ (by decide) (by decide), h2],
    by rw [hsame _ _ (by decide) (by decide), h3], fun hdrift => ?_, fun hdrift hfew => ?_⟩
  · rw [hdrift, Bool.true_or, if_pos rfl, hstart] at he
    rw [he]
    refine ⟨?_, .after ?_ ?_ (by decide)⟩
    · rw [raise_get _ _ _ _ (by decide), Dev.get_set_field _ _ _ _ (by decide), Dev.get_set_field _ _ _ _ (by decide), Dev.get_set_same]
    · exact hpend
    · rw [Dev.get_set_field _ _ _ _ (by decide), Dev.get_set_field _ _ _ _ (by decide), Dev.get_set_field _ _ _ _ (by decide),
        hkeep _ _ (by decide)]
  · have hfew : s.found.get .X_MEM_RETRIES c < 16 := hfew
    rw [hdrift, Bool.false_or, if_neg (by rw [decide_eq_true_eq]; exact not_le.mpr hfew)] at he
    rw [he]
    exact ⟨hkeep _ _ (by decide), hpend⟩

theorem memRetrain_asks (s : State) (m : Fin 8) : Completes (.memRetrain m) s fun e => e.get .X_MEM_RT_REQ m = 1 ∧
    e.get .X_MEM_RT_REQ_LAST m = s.dev.clk ∧ (s.dev.get .X_MEM_RT_REQ m ≠ 1 → e.get .X_MEM_RT_REQ_CLK m = s.dev.clk) ∧
    Dev.OnlyAt [.X_MEM_RT_REQ, .X_MEM_RT_REQ_CLK, .X_MEM_RT_REQ_LAST] m s.dev e := by
  refine .runAs (rfl : _ = execMemRetrain m s) fun e he => ?_
  unfold Dev.askWrite at he
  extract_lets d1 at he
  subst he
  have hclk : d1.clk = s.dev.clk := by
    unfold d1
    split <;> rfl
  refine ⟨?_, (Dev.get_set_same ..).trans hclk, fun h => ?_, ?_⟩
  · rw [Dev.get_set_field _ _ _ _ (by decide)]
    unfold d1
    split
    next h => exact (Dev.on_iff ..).mp h
    · rw [Dev.get_set_field _ _ _ _ (by decide), Dev.get_set_same]
  · have h : ¬ s.found.on .X_MEM_RT_REQ m = true := by
      have h : s.found.get .X_MEM_RT_REQ m ≠ 1 := h
      rwa [Dev.on_iff]
    unfold d1
    rw [Dev.get_set_field _ _ _ _ (by decide), if_neg h, Dev.get_set_same]
    rfl
  · refine Dev.Only.ofFound (.set _ ?_ ⟨rfl, by decide⟩)
    unfold d1
    split
    · exact .refl _ _
    · exact ((Dev.Only.refl _ s.found).set _ ⟨rfl, by decide⟩).set _ ⟨rfl, by decide⟩

theorem memRetrainDone_ends {s : State} {c : Fin 32} (hrt : s.dev.get .X_MEM_RT c = 1)
    (hclk : s.dev.get .X_MEM_RT_CLK c + 500 * us ≤ s.dev.clk) :
    (Completes (.memRetrainDone c true) s fun e => e.get .X_MEM_RT c = 0 ∧ e.get .MEM_EVENTS_RETRAINED 0 = 1 ∧
      e.get .MEM_C_RETRAINS_COUNT (c.val / 4) =
        satAdd F.MEM_C_RETRAINS_COUNT.width (s.dev.get .MEM_C_RETRAINS_COUNT (c.val / 4)) 1 ∧ Dev.Raised 25 s.dev e) ∧
    (s.dev.get .X_MEM_TRY c < 3 → Completes (.memRetrainDone c false) s fun e => e.get .X_MEM_RT c = 1 ∧
      e.get .X_MEM_TRY c = s.dev.get .X_MEM_TRY c + 1 ∧ e.get .X_MEM_RT_CLK c = s.dev.clk + ms ∧
      Dev.OnlyAt [.X_MEM_TRY, .X_MEM_RT_CLK] c s.dev e) := by
  have hon : s.found.on .X_MEM_RT c = true := (Dev.on_iff ..).mpr hrt
  have hclk : s.found.get .X_MEM_RT_CLK c + 500 * us ≤ s.found.clk := hclk
  refine ⟨?_, fun htry => ?_⟩
  · refine .runIf (rfl : _ = execMemRetrainDone c true s) hon fun e he => ?_
    rw [Dev.onTime_of_le hclk, if_pos rfl] at he
    dsimp only at he
    rw [he]
    refine ⟨?_, ?_, ?_, .after ?_ ?_ (by decide)⟩
    · rw [raise_get _ _ _ _ (by decide)]
      simp [Dev.addSat]
    · rw [raise_get _ _ _ _ (by decide), Dev.get_set_same]
    · rw [raise_get _ _ _ _ (by decide)]
      simp [Dev.addSat]
    · rfl
    · simp [Dev.addSat]
  · refine .runIf (rfl : _ = execMemRetrainDone c false s) hon fun e he => ?_
    have htry : s.found.get .X_MEM_TRY c < 3 := htry
    rw [Dev.onTime_of_le hclk, if_neg Bool.false_ne_true, if_pos htry] at he
    subst he
    refine ⟨?_, ?_, Dev.get_set_same .., (((Dev.Only.refl _ s.found).set _ ⟨rfl, by decide⟩).set _ ⟨rfl, by decide⟩).ofFound⟩
    · rw [Dev.get_set_field _ _ _ _ (by decide), Dev.get_set_field _ _ _ _ (by decide)]
      exact hrt
    · rw [Dev.get_set_field _ _ _ _ (by decide), Dev.get_set_same]
      rfl

theorem Dev.writeStopped_iff (d : Dev) (m : Nat) : d.writeStopped (4 * m) = d.on .MEM_C_STATUS_WRITE_STOP m := by
  unfold Dev.writeStopped
  rw [Nat.mul_div_cancel_left _ (by decide)]

/-- R420, R422, R423: what the reading of a controller's device does. -/
theorem memTempRead_reads {s : State} {m : Fin 8} (t : Byte)
    (hclk : s.dev.get .X_MEM_TEMP_CLK m = 0 ∨ s.dev.get .X_MEM_TEMP_CLK m + 1000 * ms ≤ s.dev.clk + 1) :
    Completes (.memTempRead m t) s fun e => e.get .X_MEM_TEMP_CLK m = s.dev.clk + 1 ∧ e.get .MEM_C_STATUS_TEMP m = t.toNat ∧
      e.get .X_MEM_HOT m = b2n (decide (85 < t.toNat)) ∧
      (105 < t.toNat → e.writeStopped (4 * m.val) = true) ∧ (t.toNat ≤ 100 → e.writeStopped (4 * m.val) = false) ∧
      (100 < t.toNat → t.toNat ≤ 105 → e.writeStopped (4 * m.val) = s.dev.writeStopped (4 * m.val)) ∧
      (105 < t.toNat → s.dev.writeStopped (4 * m.val) = false → 27 ∈ e.pending ∧ e.get .MEM_EVENTS_HOT_STOP 0 = 1) ∧
      (85 < t.toNat → s.dev.get .X_MEM_HOT m ≠ 1 → 27 ∈ e.pending ∧ e.get .MEM_EVENTS_HOT 0 = 1) := by
  have hdue : (if s.found.get .X_MEM_TEMP_CLK m = 0 then s.found.clk else s.found.get .X_MEM_TEMP_CLK m - 1 + 1000 * ms) ≤
      s.found.clk := by
    have hclk : s.found.get .X_MEM_TEMP_CLK m = 0 ∨ s.found.get .X_MEM_TEMP_CLK m + 1000 * ms ≤ s.found.clk + 1 := hclk
    split <;> omega
  refine .runAs (rfl : _ = execMemTempRead m t s) fun e he => ?_
  rw [Dev.onTime_of_le hdue] at he
  extract_lets d1 hot d2 d3 d4 at he
  have hraise : ∀ d : Dev, 27 ∈ (d.raise 27).pending := fun d => by
    rw [(raise_raised d (by decide)).1]
    exact (mem_insertNat ..).mpr (.inl rfl)
  have hd2 : ∀ f i, f ∉ ([.X_MEM_TEMP_CLK, .MEM_C_STATUS_TEMP] : List F) → d2.get f i = s.dev.get f i := fun f i h => by
    simp only [List.mem_cons, List.not_mem_nil, or_false, not_or] at h
    rw [Dev.get_set_field _ _ _ _ h.2, Dev.get_set_field _ _ _ _ h.1]
    rfl
  have h21 : d2.get .X_MEM_TEMP_CLK m = s.dev.clk + 1 := by simp [d2, d1]
  have h22 : d2.get .MEM_C_STATUS_TEMP m = t.toNat := Dev.get_set_same ..
  have hd3 : ∀ f i, f ≠ .MEM_EVENTS_HOT → f ∉ signalFields → d3.get f i = d2.get f i := fun f i h hs => by
    unfold d3
    split
    · rw [raise_get _ _ _ _ hs, Dev.get_set_field _ _ _ _ h]
    · rfl
  have hd4 : ∀ f i, f ≠ .MEM_EVENTS_HOT → f ≠ .X_MEM_HOT → f ∉ signalFields → d4.get f i = d2.get f i := fun f i h1 h2 hs =>
    (Dev.get_set_field _ _ _ _ h2).trans (hd3 f i h1 hs)
  have hhot : 85 < t.toNat → s.dev.get .X_MEM_HOT m ≠ 1 → 27 ∈ d4.pending ∧ d4.get .MEM_EVENTS_HOT 0 = 1 := fun h1 h2 => by
    have hcond : (hot && !d2.on .X_MEM_HOT m) = true := by
      rw [Dev.on_def, hd2 _ _ (by decide)]
      simp [hot, h1, h2]
    have h3 : d3 = (d2.set .MEM_EVENTS_HOT 0 1).raise 27 := if_pos hcond
    refine ⟨?_, ?_⟩
    · show 27 ∈ d3.pending
      rw [h3]
      exact hraise _
    · rw [Dev.get_set_field _ _ _ _ (by decide), h3, raise_get _ _ _ _ (by decide), Dev.get_set_same]
  have hstop : d4.get .MEM_C_STATUS_WRITE_STOP m = s.dev.get .MEM_C_STATUS_WRITE_STOP m := by
    rw [hd4 _ _ (by decide) (by decide) (by decide), hd2 _ _ (by decide)]
  have hhotNow : d4.get .X_MEM_HOT m = b2n (decide (85 < t.toNat)) := Dev.get_set_same ..
  have h4 : d4.get .X_MEM_TEMP_CLK m = s.dev.clk + 1 ∧ d4.get .MEM_C_STATUS_TEMP m = t.toNat :=
    ⟨(hd4 _ _ (by decide) (by decide) (by decide)).trans h21, (hd4 _ _ (by decide) (by decide) (by decide)).trans h22⟩
  clear_value d4
  -- What the stop or the release of the writes changes.
  have hkeep : (∀ f i, f ∉ ([.MEM_C_STATUS_WRITE_STOP, .MEM_EVENTS_HOT_STOP] : List F) → f ∉ signalFields → e.get f i = d4.get f i) ∧
      ∀ n ∈ d4.pending, n ∈ e.pending := by
    have hpend : ∀ d : Dev, d.pending = d4.pending → ∀ n ∈ d4.pending, n ∈ (d.raise 27).pending := fun d hd n hn => by
      rw [(raise_raised d (by decide)).1, hd]
      exact (mem_insertNat ..).mpr (.inr hn)
    rw [he]
    split
    · refine ⟨fun f i h hs => ?_, hpend _ rfl⟩
      simp only [List.mem_cons, List.not_mem_nil, or_false, not_or] at h
      rw [raise_get _ _ _ _ hs, Dev.get_set_field _ _ _ _ h.2, Dev.get_set_field _ _ _ _ h.1]
    · split
      · refine ⟨fun f i h hs => ?_, hpend _ rfl⟩
        simp only [List.mem_cons, List.not_mem_nil, or_false, not_or] at h
        rw [raise_get _ _ _ _ hs, Dev.get_set_field _ _ _ _ h.1]
      · exact ⟨fun _ _ _ _ => rfl, fun _ h => h⟩
  obtain ⟨hkeep, hpend⟩ := hkeep
  refine ⟨(hkeep _ _ (by decide) (by decide)).trans h4.1, (hkeep _ _ (by decide) (by decide)).trans h4.2,
    (hkeep _ _ (by decide) (by decide)).trans hhotNow, fun h => ?_, fun h => ?_, fun h1 h2 => ?_, fun h1 h2 => ?_, fun h1 h2 => ?_⟩
  · rw [Dev.writeStopped_iff, Dev.on_iff, he]
    split
    · rw [raise_get _ _ _ _ (by decide), Dev.get_set_field _ _ _ _ (by decide), Dev.get_set_same]
    next hc =>
      rw [if_neg (by omega)]
      by_contra hne
      exact hc ⟨h, by simpa [Dev.on_def] using hne⟩
  · rw [Dev.writeStopped_iff, Dev.on_def, he, if_neg (by omega)]
    split
    · rw [raise_get _ _ _ _ (by decide), Dev.get_set_same]
      rfl
    next hc => simpa [Dev.on_def] using fun hne => hc ⟨h, (Dev.on_iff ..).mpr hne⟩
  · rw [Dev.writeStopped_iff, Dev.writeStopped_iff, Dev.on_def, Dev.on_def, he, if_neg (by omega), if_neg (by omega), hstop]
  · rw [Dev.writeStopped_iff, Dev.on_def, ← hstop] at h2
    rw [if_pos ⟨h1, by rw [Dev.on_def, h2]; rfl⟩] at he
    refine ⟨he ▸ hraise _, ?_⟩
    rw [he, raise_get _ _ _ _ (by decide), Dev.get_set_same]
  · obtain ⟨h3, h5⟩ := hhot h1 h2
    exact ⟨hpend 27 h3, (hkeep _ _ (by decide) (by decide)).trans h5⟩

theorem memClearStats_clears (s : State) : Completes .memClearStats s fun e => e.get .MEM_LOST_LEDGER 0 = 0 ∧ ∀ m < 8,
    e.get .MEM_C_CRC_RETRY_COUNT m = 0 ∧ e.get .MEM_C_UNCORR_COUNT m = 0 ∧ e.get .MEM_C_RETRAINS_COUNT m = 0 ∧
      e.get .MEM_C_ODECC_COUNT m = 0 ∧ e.get .MEM_C_BYTES_COUNT m = 0 := by
  refine .runAs (rfl : _ = execMemClearStats s) fun e he => ?_
  generalize hfs : ([.MEM_C_CRC_RETRY_COUNT, .MEM_C_UNCORR_COUNT, .MEM_C_RETRAINS_COUNT, .MEM_C_ODECC_COUNT, .MEM_C_URGENT_CLASS0,
    .MEM_C_URGENT_CLASS2, .MEM_C_URGENT_CLASS3, .MEM_C_URGENT_CLASS4, .MEM_C_BYTES_COUNT] : List F) = fs at he
  have hcount : ∀ f ∈ fs, ∀ m < 8, e.get f m = 0 := fun f hf m hm => by
    rw [he]
    refine Dev.each_reaches (g := fun m d => d.setAll fs m 0) (P := fun e => e.get f m = 0) hm
      (fun d => Dev.setAll_get_of_mem _ _ _ hf) (fun i d hd => ?_) _
    by_cases him : m = i
    · subst him
      exact Dev.setAll_get_of_mem _ _ _ hf
    · have hone : Dev.Only (fun _ j => j = i) d (d.setAll fs i 0) := (Dev.Only.refl _ d).setAll 0 fun _ _ => rfl
      exact (hone.2 f m him).trans hd
  refine ⟨?_, fun m hm => ?_⟩
  · rw [he]
    refine (Dev.each_keeps (fun e => e.get .MEM_LOST_LEDGER 0) (g := fun m d => d.setAll fs m 0)
      (fun m _ d => Dev.setAll_get_field _ _ _ _ ?_) _).trans (Dev.get_set_same ..)
    rw [← hfs]
    decide
  · subst hfs
    exact ⟨hcount _ (by decide) m hm, hcount _ (by decide) m hm, hcount _ (by decide) m hm, hcount _ (by decide) m hm,
      hcount _ (by decide) m hm⟩

/-- Settles O26: drift passes, retrains, temperature readings and the clearing of the counts. -/
theorem channelsRetrain : Obligations.ChannelsRetrain :=
  ⟨fun s => ⟨fun _ drift ecc hstate hready hrt hclk hother => driftTracking_tracks drift ecc hstate hready hrt hclk hother,
    memRetrain_asks s, fun _ hrt hclk => memRetrainDone_ends hrt hclk⟩,
  fun s => ⟨fun _ t hclk => memTempRead_reads t hclk, memClearStats_clears s⟩⟩

/-! ## Requests (R426, R430, R440) -/

/-- A range within one unit of 256 bytes is one piece. -/
theorem unitsOf_one {a n : Nat} (hn : 0 < n) (h : n ≤ 256 - a % 256) : unitsOf (n + 1) a n = [(a, n)] := by
  have hlast : unitsOf n (a + n) 0 = [] := by
    cases n with
    | zero => omega
    | succ n => rfl
  unfold unitsOf
  rw [if_neg (by omega)]
  dsimp only
  rw [min_eq_left h, Nat.sub_self, hlast]

/-- R426: a BAR2 request of one unit whose domains are ON joins the queue. -/
theorem Dev.bar2Try_joins {d : Dev} {off a n reqId : Nat} {write : Bool} {bs : List Byte} (hn : 0 < n) (h : n ≤ 256 - a % 256)
    (htrained : d.memTrained = true) (hcap : a + n ≤ d.memBytes) (hhost : d.hostAccess a write ≠ 2)
    (hgate : ∀ m, d.gate (domMem m) = 0) : d.bar2Try off a write n bs reqId d.clk d.now = ({ d with mreqs := d.mreqs ++
      [⟨2, write, a, n, bs.take n, d.clk, true, off, reqId, d.now, false, false, false⟩] }, false) := by
  have hstate : d.memState ≠ meFAILED := fun hf => by
    unfold Dev.memTrained at htrained
    rw [hf] at htrained
    exact absurd htrained (by decide)
  have hnone : ∀ v ≠ 0, (((memDomainsOf a n).map fun m => (m, d.gate (domMem m))).any fun g => g.2 == v) = false := fun v hv => by
    simp [hgate, Ne.symm hv]
  have hloop : Dev.forList ((memDomainsOf a n).map fun m => (m, d.gate (domMem m)))
      (fun g d => if g.2 = 0 then d else d.wake (domMem g.1) 3) d = d := by
    refine List.foldlRecOn _ _ (motive := fun e => e = d) rfl fun e he g hg => ?_
    obtain ⟨m, -, rfl⟩ := List.mem_map.mp hg
    exact (if_pos (hgate m)).trans he
  unfold Dev.bar2Try
  dsimp only
  rw [if_neg hstate, if_neg (by omega), if_neg (by rw [htrained]; exact Bool.false_ne_true), unitsOf_one hn h, if_neg (by simpa using hhost),
    hnone 5 (by decide), if_neg Bool.false_ne_true, hloop, hnone 4 (by decide), if_neg Bool.false_ne_true, hnone 1 (by decide),
    if_neg Bool.false_ne_true, Dev.memBar2, unitsOf_one hn h]
  simp

/-- The bytes of a range that is written, and no other, leave the undefined ranges. -/
theorem LostRange.cut_outside {lo hi a : Nat} (ha : lo ≤ a ∧ a < hi) (r : LostRange) : ∀ x ∈ r.cut lo hi, ¬(x.lo ≤ a ∧ a < x.hi) := by
  intro x hx
  unfold LostRange.cut at hx
  split at hx
  · obtain rfl := List.mem_singleton.mp hx
    omega
  · rcases List.mem_append.mp hx with hx | hx
    · split at hx
      · obtain rfl := List.mem_singleton.mp hx
        dsimp only
        omega
      · cases hx
    · split at hx
      · obtain rfl := List.mem_singleton.mp hx
        dsimp only
        omega
      · cases hx

/-- What is written is read. -/
theorem Dev.cell_putCells (d : Dev) (a : Nat) (bs : List Byte) {i : Nat} (hi : i < bs.length) :
    (d.putCells a bs).cell (a + i) = bs.getD i 0 := by
  have hnone : ((d.lost.map (LostRange.cut a (a + bs.length))).flatten.find? fun r => decide (r.lo ≤ a + i ∧ a + i < r.hi)) = none := by
    refine List.find?_eq_none.mpr fun x hx => ?_
    obtain ⟨l, hl, hx⟩ := List.mem_flatten.mp hx
    obtain ⟨r, -, rfl⟩ := List.mem_map.mp hl
    simpa using LostRange.cut_outside (a := a + i) (by omega) r x hx
  unfold Dev.cell Dev.putCells
  dsimp only
  rw [hnone]
  dsimp only
  rw [Mem.read_writeBytes, if_pos (by omega), Nat.add_sub_cancel_left]

/-- What marking urgent queues and counting a request leave alone. -/
theorem Dev.markUrgent_one {d : Dev} {c : Nat} {r : MemReq} (h : d.mreqs = [r]) : ∃ u,
    (d.markUrgent c).mreqs = [{ r with urgent := u }] ∧ (d.markUrgent c).gddr = d.gddr ∧ (d.markUrgent c).lost = d.lost ∧
      (d.markUrgent c).out = d.out ∧ (d.markUrgent c).writeStopped c = d.writeStopped c := by
  unfold Dev.markUrgent
  refine List.foldlRecOn (List.range 5) _ (motive := fun e : Dev => ∃ u, e.mreqs = [{ r with urgent := u }] ∧ e.gddr = d.gddr ∧
    e.lost = d.lost ∧ e.out = d.out ∧ e.writeStopped c = d.writeStopped c) ⟨r.urgent, h, rfl, rfl, rfl, rfl⟩ ?_
  rintro e ⟨u, h1, h2, h3, h4, h5⟩ k -
  dsimp only
  split
  · exact ⟨u, h1, h2, h3, h4, h5⟩
  next x hx =>
    split
    · have hxr : x = { r with urgent := u } := by
        have := List.mem_of_find?_eq_some hx
        rw [h1] at this
        exact List.mem_singleton.mp this
      refine ⟨true, ?_, h2, h3, h4, ?_⟩
      · show replaceReq x { x with urgent := true } e.mreqs = _
        rw [h1, hxr]
        exact if_pos rfl
      · rw [← h5]
        unfold Dev.writeStopped Dev.on Dev.addSat
        rw [Dev.get_set_field _ _ _ _ (by unfold urgentF; split <;> decide)]
        rfl
    · exact ⟨u, h1, h2, h3, h4, h5⟩

/-- R430: the one request that waits at a channel is its next. -/
theorem Dev.nextReq_one {d : Dev} {c : Nat} {r : MemReq} (h : d.mreqs = [r]) (hc : channelOf r.addr = c) (hcls : r.cls < 5)
    (hstop : r.write = true → d.writeStopped c = false) : d.nextReq c = some r := by
  have hissue : issuable c (d.writeStopped c) [] d.mreqs = [r] := by
    have hgo : ¬ (d.writeStopped c && r.write) = true := by
      cases hw : r.write
      · simp
      · simp [hstop hw]
    rw [h]
    unfold issuable
    rw [if_neg (not_not.mpr hc), if_neg (by simp), if_neg hgo]
    rfl
  have hheads : d.heads c = [r] := by
    unfold Dev.heads
    rw [hissue]
    have : r.cls = 0 ∨ r.cls = 1 ∨ r.cls = 2 ∨ r.cls = 3 ∨ r.cls = 4 := by omega
    rcases this with h | h | h | h | h <;> simp [h, List.range_succ]
  unfold Dev.nextReq
  rw [hheads]
  rfl

/-- R430, R440: a request is served without a retry. -/
theorem Dev.serveReq_served {d : Dev} {c : Nat} {r : MemReq} (h : d.mreqs = [r]) (hbad : r.bad = false) {e : Dev}
    (he : e = d.serveReq c 0 false r) : e.mreqs = [] ∧
      (r.write = true → ∀ i < r.data.length, e.cell (r.addr + i) = r.data.getD i 0) ∧
      (r.write = false → e.gddr = d.gddr ∧ e.lost = d.lost) ∧
      (r.write = false → r.bar2 = true → e.out = d.out ++ [.readData (ofLE ((List.range r.len).map fun i => d.cell (r.addr + i)))]) := by
  have hfail : (if (!r.write && !r.bar2 && decide (r.cls ≤ 2)) = true then r.bad else false) = false := by
    rw [hbad]
    exact ite_self _
  have hgone : removeReq r d.mreqs = [] := by
    rw [h]
    exact if_pos rfl
  unfold Dev.serveReq at he
  dsimp only at he
  rw [hfail, hgone, if_neg Bool.false_ne_true, if_neg Bool.false_ne_true] at he
  cases hw : r.write
  · rw [hw, if_neg Bool.false_ne_true] at he
    refine ⟨?_, fun h => absurd h Bool.false_ne_true, fun _ => ⟨?_, ?_⟩, fun _ hb => ?_⟩
    · rw [he]
      split <;> rfl
    · rw [he]
      split <;> rfl
    · rw [he]
      split <;> rfl
    · rw [he, if_pos hb]
      rfl
  · rw [hw, if_pos rfl] at he
    refine ⟨he ▸ rfl, fun _ i hi => ?_, fun h => absurd h.symm Bool.false_ne_true, fun h => absurd h.symm Bool.false_ne_true⟩
    rw [he]
    exact Dev.cell_putCells _ _ _ hi

/-- Settles O27: the BAR2 window and a request served alone. -/
theorem memoryServes : Obligations.MemoryServes := by
  intro s
  refine ⟨fun base => ?_, fun off write len bytes reqId a n ha hlen h0 hunit hd3 hup hheld htrained hcap hhost hgate => ?_,
    fun c r hstate hready hpaused hreqs hchan hcls hstop hbad => ?_⟩
  · refine .runAs (rfl : _ = execBar2BaseWrite base s) fun e he => ?_
    subst he
    exact ⟨Dev.get_set_same .., ((Dev.Only.refl _ s.found).set _ ⟨rfl, by decide⟩).ofFound⟩
  · refine .runAs (rfl : _ = execBar2Access off write len bytes reqId s) fun e he => ?_
    have hcond : ¬ (decide (s.found.get .DMA_LINK_STATUS_DSTATE 0 = 3) || !s.found.pcieUp) = true := by
      have hd3 : ¬ s.found.get .DMA_LINK_STATUS_DSTATE 0 = 3 := hd3
      have hup : s.found.pcieUp = true := hup
      rw [decide_eq_false hd3, hup]
      exact Bool.false_ne_true
    have hheld : ¬ s.found.held.any Held.isBar2 = true := by
      rw [State.found_held, hheld]
      exact Bool.false_ne_true
    have ha : s.found.get .MEM_BAR2_BASE_BASE 0 * 2 ^ 26 + off.toNat = a := ha.symm
    unfold Dev.bar2Arrive at he
    rw [← hlen] at he
    dsimp only at he
    rw [ha] at he
    have htry : s.found.bar2Try off.toNat a write n bytes reqId.toNat s.found.clk s.found.now = _ :=
      Dev.bar2Try_joins (d := s.found) h0 hunit htrained hcap hhost hgate
    rw [if_neg (by simpa using hcond), if_neg hheld, htry, if_neg Bool.false_ne_true] at he
    exact he
  · refine .runIf (rfl : _ = execMemRequestIssue c 0 false s) ⟨hstate, hready, by
      have hpaused : s.found.channelPaused c = false := hpaused
      simp [hpaused]⟩ fun e he => ?_
    obtain ⟨u, h1, h2, h3, h4, h5⟩ := Dev.markUrgent_one (d := s.found) (c := c) hreqs
    dsimp only at he
    generalize s.found.markUrgent c = b at he h1 h2 h3 h4 h5
    rw [Dev.nextReq_one (r := { r with urgent := u }) h1 hchan hcls (fun hw => h5.trans (hstop hw))] at he
    obtain ⟨h6, h7, h8, h9⟩ := Dev.serveReq_served (r := { r with urgent := u }) h1 hbad he
    have hcell : ∀ x, b.cell x = s.dev.cell x := fun x => by
      unfold Dev.cell
      rw [h2, h3]
      rfl
    refine ⟨h6, h7, fun hw => ?_, fun hw hb => ?_⟩
    · obtain ⟨h10, h11⟩ := h8 hw
      exact ⟨h10.trans h2, h11.trans h3⟩
    · rw [h9 hw hb, h4]
      simp only [hcell]
      rfl

end Sys2Proof.Machine
end

section
/-! PROOFS. Power domains: horizons, wakes and their failure, entries, levels and counts (R499 to R526, R534, R546). -/

-- One theorem at a time: the whole text is compiled under a memory limit, which the stacks of waiting threads would fill.
set_option Elab.async false

namespace Sys2Proof.Machine

open Sys2Proof

theorem Dev.forList_none {α : Type} (g : α → Dev → Dev) (d : Dev) : Dev.forList [] g d = d := rfl

theorem Dev.forList_one {α : Type} (x : α) (g : α → Dev → Dev) (d : Dev) : Dev.forList [x] g d = g x d := rfl

/-- A command that ends by looking at held requests again, with none held. -/
theorem Dev.eq_of_serveHeld {d e : Dev} (he : e = d.serveHeld) (h : d.held = []) : e = d := he.trans (Dev.serveHeld_of_none h)

theorem Dev.Only.mono {p q : F → Nat → Prop} {d e : Dev} (h : Dev.Only p d e) (hpq : ∀ f i, p f i → q f i) : Dev.Only q d e :=
  ⟨h.1, fun f i hq => h.2 f i fun hp => hq (hpq f i hp)⟩

/-! ## Wakes (R499, R511, R518) -/

/-- A wake request for one domain changes the fields of that domain alone. -/
theorem wakeOne_get (d : Dev) (a c : Nat) (f : F) {i : Nat} (h : i ≠ a) : (d.wakeOne a c).get f i = d.get f i := by
  have hset : ∀ (e : Dev) g v, (e.set g a v).get f i = e.get f i := fun e g v =>
    Dev.get_set_other _ _ _ _ _ _ fun hk => h (Key.mk.inj hk).2
  unfold Dev.wakeOne
  split
  · rfl
  · split
    · simp only [hset]
    · split <;> exact hset ..

/-- R518, R520: a sleeping domain below no failed one starts to wake. -/
theorem wakeOne_wakes {d : Dev} {k : Nat} (code : Nat) (hused : d.domUnused k = false) (hasleep : d.domAsleep k = true)
    (hanc : d.ancestorFailed k = false) {e : Dev} (he : e = d.wakeOne k code) : e.dom k = pwWAKING ∧
      e.get .PWR_D_LAST_WAKE_SRC k = code ∧ e.get .X_PWR_FROM k = d.dom k ∧ e.get .X_PWR_BEGAN k = d.clk ∧
      e.get .PWR_D_STATUS_ATTEMPT k = 0 := by
  unfold Dev.wakeOne at he
  rw [hused, if_neg Bool.false_ne_true, hasleep, hanc, if_pos (by decide)] at he
  rw [he]
  refine ⟨Dev.get_set_same .., ?_, ?_, ?_, ?_⟩ <;> simp

/-- No domain lies below itself. -/
theorem ancestors_self {k : Nat} (hk : k < 158) : k ∉ ancestors k :=
  (by decide +kernel : ∀ k : Fin 158, k.val ∉ ancestors k) ⟨k, hk⟩

theorem Dev.domAsleep_iff (d : Dev) (k : Nat) : d.domAsleep k = true ↔ 1 ≤ d.dom k ∧ d.dom k ≤ 4 := decide_eq_true_iff

/-- A domain that may wake is not failed if it was not. -/
theorem Dev.MayWake.not_failed {d e : Dev} (h : Dev.MayWake d e) {k : Nat} (hk : d.dom k ≠ pwFAILED) : e.dom k ≠ pwFAILED := by
  rcases h k with h | ⟨-, h⟩
  · rwa [h]
  · rw [h]
    decide

theorem Dev.ancestorFailed_iff (d : Dev) (k : Nat) : d.ancestorFailed k = false ↔ ∀ a ∈ ancestors k, d.dom a ≠ pwFAILED := by
  simp [Dev.ancestorFailed]

/-- R518: a wake of a domain whose sleep group is that domain alone. -/
theorem wake_wakes {d : Dev} {k : Nat} (code : Nat) (hk : k < 158) (hused : d.domUnused k = false) (hasleep : d.domAsleep k = true)
    (hanc : d.ancestorFailed k = false) (hgroup : d.sleepGroup k = [k]) {e : Dev} (he : e = d.wake k code) :
    e.dom k = pwWAKING ∧ e.get .PWR_D_LAST_WAKE_SRC k = code ∧ e.get .X_PWR_FROM k = d.dom k ∧ e.get .X_PWR_BEGAN k = d.clk ∧
      e.get .PWR_D_STATUS_ATTEMPT k = 0 := by
  have hsettle := Dev.Settling.foldl (fun d a => Dev.wakeOne d a 10) (fun d a => wakeOne_only d a 10) (ancestors k).reverse d
  have hmay := Dev.MayWake.foldl (fun d a => wakeOne_mayWake d a 10) (ancestors k).reverse d
  have hself : ∀ f, Dev.get (Dev.forList (ancestors k).reverse (fun a d => d.wakeOne a 10) d) f k = d.get f k := fun f =>
    Dev.forList_keeps (fun e => e.get f k) (g := fun a d => d.wakeOne a 10)
      (fun a ha e => wakeOne_get e a 10 f fun h => ancestors_self hk (by rw [List.mem_reverse, ← h] at ha; exact ha)) d
  unfold Dev.wake at he
  dsimp only at he
  change Dev.Settling d (Dev.forList (ancestors k).reverse (fun a d => d.wakeOne a 10) d) at hsettle
  change Dev.MayWake d (Dev.forList (ancestors k).reverse (fun a d => d.wakeOne a 10) d) at hmay
  generalize Dev.forList (ancestors k).reverse (fun a d => d.wakeOne a 10) d = b at he hsettle hmay hself
  have hplan : ∀ f ∈ ([.SPR_CFG_WIDTH, .SPR_CFG_MODE] : List F), ∀ i, b.get f i = d.get f i := fun f hf i =>
    hsettle.2 f i (by revert hf f; decide)
  have hgroup' : b.sleepGroup k = [k] := by
    rw [← hgroup]
    unfold Dev.sleepGroup Dev.groupLanes Dev.groupBase Dev.width
    simp only [hplan .SPR_CFG_WIDTH (by decide)]
  have hused' : b.domUnused k = false := by
    rw [← hused]
    unfold Dev.domUnused Dev.used Dev.mode
    simp only [hplan .SPR_CFG_MODE (by decide)]
  have hasleep' : b.domAsleep k = true := by
    rw [Dev.domAsleep_iff] at hasleep ⊢
    have hdom : b.dom k = d.dom k := hself _
    rwa [hdom]
  have hanc' : b.ancestorFailed k = false := by
    rw [Dev.ancestorFailed_iff] at hanc ⊢
    exact fun a ha => hmay.not_failed (hanc a ha)
  rw [hgroup'] at he
  have hclk : b.clk = d.clk := by rw [hsettle.1]
  have hdom : b.dom k = d.dom k := hself _
  have h := wakeOne_wakes (e := e) code hused' hasleep' hanc' he
  rwa [hclk, hdom] at h

/-! ## Horizons (R509, R510) -/

/-- R510: what a write of a horizon leaves at every member of the group. -/
theorem Dev.putHorizon_shows (k v : Nat) (d : Dev) {m : Nat} (hm : m ∈ d.sleepGroup k) {e : Dev} (he : e = Dev.putHorizon k v d) :
    e.get .PWR_D_HORIZON_HORIZON m = v ∧ e.get .X_PWR_HOR_SET m = b2n (decide (v ≠ 0 ∧ v ≠ 0xFFFFFFFF)) ∧
      e.get .X_PWR_HOR_END m = if v ≠ 0 ∧ v ≠ 0xFFFFFFFF then d.clk + v * us else 0 := by
  have hround : ∀ e : Dev, e.clk = d.clk →
      let b := ((e.set .PWR_D_HORIZON_HORIZON m v).set .X_PWR_HOR_SET m (b2n (decide (v ≠ 0 ∧ v ≠ 0xFFFFFFFF)))).set .X_PWR_HOR_END m
        (if v ≠ 0 ∧ v ≠ 0xFFFFFFFF then e.clk + v * us else 0)
      b.get .PWR_D_HORIZON_HORIZON m = v ∧ b.get .X_PWR_HOR_SET m = b2n (decide (v ≠ 0 ∧ v ≠ 0xFFFFFFFF)) ∧
        b.get .X_PWR_HOR_END m = if v ≠ 0 ∧ v ≠ 0xFFFFFFFF then d.clk + v * us else 0 := fun e hclk => by
    refine ⟨?_, ?_, ?_⟩
    · rw [Dev.get_set_field _ _ _ _ (by decide), Dev.get_set_field _ _ _ _ (by decide), Dev.get_set_same]
    · rw [Dev.get_set_field _ _ _ _ (by decide), Dev.get_set_same]
    · rw [Dev.get_set_same, hclk]
  rw [he]
  unfold Dev.putHorizon
  refine Dev.forList_reaches_of (I := fun e => e.clk = d.clk) (P := fun e => e.get .PWR_D_HORIZON_HORIZON m = v ∧
    e.get .X_PWR_HOR_SET m = b2n (decide (v ≠ 0 ∧ v ≠ 0xFFFFFFFF)) ∧
    e.get .X_PWR_HOR_END m = if v ≠ 0 ∧ v ≠ 0xFFFFFFFF then d.clk + v * us else 0) hm rfl (fun _ _ h => h) hround
    fun y e hclk hp => ?_
  by_cases hy : m = y
  · subst hy
    exact hround e hclk
  · obtain ⟨h1, h2, h3⟩ := hp
    have hset : ∀ (e : Dev) f g v, (e.set g y v).get f m = e.get f m := fun e f g v =>
      Dev.get_set_other _ _ _ _ _ _ fun hk => hy (Key.mk.inj hk).2
    simp only [hset]
    exact ⟨h1, h2, h3⟩

/-- The fields of a horizon. -/
def horizonFields : List F := [.PWR_D_HORIZON_HORIZON, .X_PWR_HOR_SET, .X_PWR_HOR_END]

theorem Dev.putHorizon_only (k v : Nat) (d : Dev) : Dev.Only (fun f _ => f ∈ horizonFields) d (Dev.putHorizon k v d) :=
  Dev.Only.foldl _ _ (fun e m _ => (((Dev.Only.refl _ e).set (f := .PWR_D_HORIZON_HORIZON) (i := m) _
    (show F.PWR_D_HORIZON_HORIZON ∈ horizonFields by decide)).set (f := .X_PWR_HOR_SET) (i := m) _
    (show F.X_PWR_HOR_SET ∈ horizonFields by decide)).set (f := .X_PWR_HOR_END) (i := m) _
    (show F.X_PWR_HOR_END ∈ horizonFields by decide)) d

/-- R510: a horizon of 0 wakes the group, another is recorded. -/
theorem horizonWrite_records {k : Fin 158} {s : State} {v : Word} (h0 : v.toNat ≠ 0) (h1 : v.toNat ≠ 0xFFFFFFFF) :
    Completes (.horizonWrite k v) s fun e => ∀ m ∈ s.dev.sleepGroup k, e.get .PWR_D_HORIZON_HORIZON m = v.toNat ∧
      e.get .X_PWR_HOR_SET m = 1 ∧ e.get .X_PWR_HOR_END m = s.dev.clk + v.toNat * us ∧ e.horizon m = v.toNat := by
  refine .runAs (rfl : _ = execHorizonWrite k v s) fun e he m hm => ?_
  dsimp only at he
  rw [if_neg fun h => h0 (by rw [h]; rfl)] at he
  obtain ⟨h2, h3, h4⟩ := Dev.putHorizon_shows k.val v.toNat s.found hm he
  have hclk : e.clk = s.dev.clk := by
    rw [he, (Dev.putHorizon_only _ _ _).1]
    rfl
  rw [decide_eq_true ⟨h0, h1⟩] at h3
  rw [if_pos ⟨h0, h1⟩] at h4
  refine ⟨h2, h3, h4, ?_⟩
  have hus : 0 < us := by decide
  have hdiv : (s.dev.clk + v.toNat * us - s.dev.clk + us - 1) / us = v.toNat := by
    rw [Nat.add_sub_cancel_left, Nat.add_sub_assoc hus, Nat.mul_comm, Nat.mul_add_div hus, Nat.div_eq_of_lt (by omega), Nat.add_zero]
  unfold Dev.horizon
  rw [if_pos ((Dev.on_iff ..).mpr h3), h4, hclk]
  exact hdiv

theorem horizonWrite_wakes {k : Fin 158} {s : State} (hused : s.dev.domUnused k = false) (hasleep : s.dev.domAsleep k = true)
    (hanc : s.dev.ancestorFailed k = false) (hgroup : s.dev.sleepGroup k = [k.val]) : Completes (.horizonWrite k 0) s fun e =>
      e.get .PWR_D_HORIZON_HORIZON k = 0 ∧ e.dom k = pwWAKING ∧ e.get .PWR_D_LAST_WAKE_SRC k = 8 := by
  refine .runAs (rfl : _ = execHorizonWrite k 0 s) fun e he => ?_
  dsimp only at he
  rw [if_pos rfl] at he
  have hmem : k.val ∈ s.found.sleepGroup k := by
    rw [show s.found.sleepGroup k = s.dev.sleepGroup k from rfl, hgroup]
    exact List.mem_singleton.mpr rfl
  obtain ⟨h1, -, -⟩ := Dev.putHorizon_shows k.val 0 s.found hmem rfl
  have honly := Dev.putHorizon_only k.val 0 s.found
  have he : e = (Dev.putHorizon k.val 0 s.found).wake k 8 := he
  generalize Dev.putHorizon k.val 0 s.found = b at he h1 honly
  have hkeep : ∀ f i, f ∉ horizonFields → b.get f i = s.dev.get f i := honly.2
  have hw := wake_wakes (d := b) (e := e) 8 k.isLt
    (by rw [← hused]; unfold Dev.domUnused Dev.used Dev.mode; simp only [hkeep .SPR_CFG_MODE _ (by decide)])
    (by rw [← hasleep]; unfold Dev.domAsleep Dev.dom; simp only [hkeep .PWR_D_STATUS_STATE _ (by decide)])
    (by rw [← hanc]; unfold Dev.ancestorFailed Dev.dom; simp only [hkeep .PWR_D_STATUS_STATE _ (by decide)])
    (by rw [← hgroup]; unfold Dev.sleepGroup Dev.groupLanes Dev.groupBase Dev.width; simp only [hkeep .SPR_CFG_WIDTH _ (by decide)])
    he
  obtain ⟨h2, h3, -⟩ := hw
  refine ⟨?_, h2, h3⟩
  rw [he, wake_get _ _ _ _ _ (by decide), h1]

/-- The sleep group of a lane of an engine of width 1. -/
theorem Dev.sleepGroup_one {d : Dev} {n : Nat} (hn : n < 64) (hw : d.width (engineOf n) = 1) : d.sleepGroup n = [n] := by
  unfold Dev.sleepGroup Dev.groupLanes Dev.groupBase
  rw [if_pos hn, hw, Nat.mod_one]
  rfl

/-- Settles O28: horizons, and wakes by a known event and by signal detect. -/
theorem horizons : Obligations.Horizons := by
  refine ⟨fun k s => ⟨fun v h0 h1 => horizonWrite_records h0 h1, horizonWrite_wakes, fun hset hend => ?_⟩, fun s => ⟨?_, ?_⟩⟩
  · refine .runIf (rfl : _ = execHorizonExpire k s) ((Dev.on_iff ..).mpr hset) fun e he m hm => ?_
    have hend : s.found.get .X_PWR_HOR_END k ≤ s.found.clk := hend
    rw [Dev.onTime_of_le hend] at he
    obtain ⟨h1, h2, -⟩ := Dev.putHorizon_shows k.val 0 s.found hm he
    exact ⟨h1, h2⟩
  · intro k ev hasleep hused hanc hev hclk hgroup
    refine .runIf (rfl : _ = execTimerWake k s) hasleep fun e he => ?_
    have hev : s.found.groupEvent (s.found.sleepGroup k) = some ev := hev
    have hclk : ev - wakeTime (s.found.dom k) ≤ s.found.clk := hclk
    rw [hev] at he
    dsimp only at he
    rw [Dev.onTime_of_le hclk] at he
    obtain ⟨h1, h2, h3, h4, -⟩ := wake_wakes (d := s.found) 4 k.isLt hused hasleep hanc hgroup he
    exact ⟨h1, h2, h3, h4⟩
  · intro n harmed hengine hmode htile hwidth hasleep
    have hon : s.found.domOn (domEngine (engineOf n)) = true := by
      have h : s.found.dom (domEngine (engineOf n)) = pwON := hengine
      unfold Dev.domOn
      rw [h]
      rfl
    have hcond : (s.found.on .PWR_D_CFG_SD_WAKE (domRx n) && s.found.domOn (domEngine (engineOf n))) = true :=
      Bool.and_eq_true_iff.mpr ⟨(Dev.on_iff ..).mpr harmed, hon⟩
    refine .runIf (rfl : _ = execSdWake n s) hcond fun e he => ?_
    have hused : s.found.domUnused n = false := by
      have hmode : s.found.mode (engineOf n) ≠ 0 := hmode
      have hn := n.isLt
      unfold Dev.domUnused Dev.used
      rw [Nat.mod_eq_of_lt n.isLt]
      simp [hmode, show ¬ 128 ≤ n.val by omega]
    have hanc : s.found.ancestorFailed n = false := by
      have hlist : ancestors n = [domEngine (engineOf n), domTile (tileOf n)] :=
        (by decide : ∀ n < 64, ancestors n = [domEngine (engineOf n), domTile (tileOf n)]) n n.isLt
      rw [Dev.ancestorFailed_iff, hlist]
      intro a ha
      rcases List.mem_pair.mp ha with rfl | rfl
      · rw [show s.found.dom (domEngine (engineOf n)) = pwON from hengine]
        decide
      · rw [show s.found.dom (domTile (tileOf n)) = pwON from htile]
        decide
    obtain ⟨h1, h2, -, -, h5⟩ := wake_wakes (d := s.found) 1 (by omega) hused hasleep hanc (Dev.sleepGroup_one n.isLt hwidth) he
    exact ⟨h1, h2, h5⟩

/-! ## The end of a wake (R519, R520) -/

/-- R519: the fields that the end of a wake writes in the domain itself. -/
theorem Dev.afterWake_only (d : Dev) (k code : Nat) :
    Dev.OnlyAt [.PWR_D_STATUS_HOLDOFF, .PWR_D_HORIZON_HORIZON, .X_PWR_HOR_SET] k d (d.afterWake k code) := by
  unfold Dev.afterWake
  split
  · exact ((Dev.Only.refl _ d).set _ ⟨rfl, by decide⟩).set _ ⟨rfl, by decide⟩
  · split
    · exact (Dev.Only.refl _ d).set _ ⟨rfl, by decide⟩
    · exact .refl _ d

/-- R39, R519, R520, R522: what the end of a wake shows. -/
theorem Dev.wokenOn_shows (d : Dev) (k : Nat) {e : Dev} (he : e = d.wokenOn k) : e.dom k = pwON ∧ e.get .PWR_D_EVENTS_WOKE k = 1 ∧
    (d.get .PWR_D_LAST_WAKE_SRC k = 3 → e.get .PWR_D_STATUS_HOLDOFF k = 16) ∧
    (d.get .PWR_D_LAST_WAKE_SRC k = 1 → e.get .PWR_D_HORIZON_HORIZON k = 0 ∧ e.get .X_PWR_HOR_SET k = 0) ∧
    (∀ c ∈ childrenOf k, d.dom c = pwWAKING → e.get .X_PWR_BEGAN c = d.clk) ∧
    Dev.Only (fun f j => (j = k ∧ f ∈ [F.PWR_D_STATUS_STATE, .PWR_D_EVENTS_WOKE, .PWR_D_STATUS_HOLDOFF,
      .PWR_D_HORIZON_HORIZON, .X_PWR_HOR_SET]) ∨ (f = .X_PWR_BEGAN ∧ j ∈ childrenOf k)) d e := by
  unfold Dev.wokenOn at he
  extract_lets b at he
  have hb : Dev.Only (fun f j => f = .X_PWR_BEGAN ∧ j ∈ childrenOf k) d b := by
    refine Dev.Only.foldl _ _ (fun e c hc => ?_) d
    dsimp only
    split
    · exact (Dev.Only.refl _ e).set _ ⟨rfl, hc⟩
    · exact .refl _ e
  have hbegan : ∀ c ∈ childrenOf k, d.dom c = pwWAKING → b.get .X_PWR_BEGAN c = d.clk := fun c hc hdom => by
    have hset : ∀ e : Dev, (e.clk = d.clk ∧ e.dom c = d.dom c) →
        (if e.dom c = pwWAKING then e.set .X_PWR_BEGAN c e.clk else e).get .X_PWR_BEGAN c = d.clk := fun e he => by
      obtain ⟨h1, h2⟩ := he
      rw [if_pos (h2.trans hdom), Dev.get_set_same, h1]
    refine Dev.forList_reaches_of (I := fun e => e.clk = d.clk ∧ e.dom c = d.dom c) (P := fun e => e.get .X_PWR_BEGAN c = d.clk) hc
      ⟨rfl, rfl⟩ (fun y e he => ?_) hset fun y e he hp => ?_
    · split
      · exact ⟨he.1, (Dev.get_set_field _ _ _ _ (by decide)).trans he.2⟩
      · exact he
    · by_cases hy : c = y
      · subst hy
        exact hset e he
      · split
        · exact (Dev.get_set_inst _ _ _ hy).trans hp
        · exact hp
  have hsrc : b.get .PWR_D_LAST_WAKE_SRC k = d.get .PWR_D_LAST_WAKE_SRC k := hb.2 _ _ (by simp)
  clear_value b
  rw [hsrc] at he
  have ha := Dev.afterWake_only ((b.set .PWR_D_STATUS_STATE k pwON).set .PWR_D_EVENTS_WOKE k 1) k (d.get .PWR_D_LAST_WAKE_SRC k)
  rw [← he] at ha
  refine ⟨?_, ?_, fun h => ?_, fun h => ?_, fun c hc hdom => ?_, ?_⟩
  · rw [Dev.dom, ha.2 _ _ (by simp), Dev.get_set_field _ _ _ _ (by decide), Dev.get_set_same]
  · rw [ha.2 _ _ (by simp), Dev.get_set_same]
  · rw [he, h]
    exact Dev.get_set_same ..
  · rw [he, h]
    exact ⟨(Dev.get_set_field _ _ _ _ (by decide)).trans (Dev.get_set_same ..), Dev.get_set_same ..⟩
  · rw [ha.2 _ _ (by simp), Dev.get_set_field _ _ _ _ (by decide), Dev.get_set_field _ _ _ _ (by decide), hbegan c hc hdom]
  · have hset := ((Dev.Only.refl (fun f j => (j = k ∧ f ∈ [F.PWR_D_STATUS_STATE, .PWR_D_EVENTS_WOKE, .PWR_D_STATUS_HOLDOFF,
      .PWR_D_HORIZON_HORIZON, .X_PWR_HOR_SET]) ∨ (f = .X_PWR_BEGAN ∧ j ∈ childrenOf k)) b).set (f := .PWR_D_STATUS_STATE) (i := k) pwON
        (.inl ⟨rfl, by decide⟩)).set (f := .PWR_D_EVENTS_WOKE) (i := k) 1 (.inl ⟨rfl, by decide⟩)
    refine ((Dev.Only.mono hb fun f j h => .inr h).trans hset).trans (Dev.Only.mono ha fun f j h =>
      .inl ⟨h.1, List.mem_cons_of_mem _ (List.mem_cons_of_mem _ h.2)⟩)

/-- R520: a wake whose ancestors are ON ends. -/
theorem wakeComplete_ends {k : Fin 158} {s : State} (hwaking : s.dev.dom k = pwWAKING) (hheld : s.dev.get .X_PWR_HELD_OFF k ≠ 1)
    (hanc : ∀ a ∈ ancestors k, s.dev.domOn a = true) : Completes (.wakeComplete k) s fun e => ∃ d1 : Dev,
       d1 = s.found.wokenOn k ∧ d1.dom k = pwON ∧ d1.get .PWR_D_EVENTS_WOKE k = 1 ∧
       (s.dev.get .PWR_D_LAST_WAKE_SRC k = 3 → d1.get .PWR_D_STATUS_HOLDOFF k = 16) ∧
       (s.dev.get .PWR_D_LAST_WAKE_SRC k = 1 → d1.get .PWR_D_HORIZON_HORIZON k = 0 ∧ d1.get .X_PWR_HOR_SET k = 0) ∧
       (∀ c ∈ childrenOf k, s.dev.dom c = pwWAKING → d1.get .X_PWR_BEGAN c = s.dev.clk) ∧
       Dev.Only (fun f j => (j = k.val ∧ f ∈ [F.PWR_D_STATUS_STATE, .PWR_D_EVENTS_WOKE, .PWR_D_STATUS_HOLDOFF,
         .PWR_D_HORIZON_HORIZON, .X_PWR_HOR_SET]) ∨ (f = .X_PWR_BEGAN ∧ j ∈ childrenOf k)) s.dev d1 ∧
       e = ((d1.wokenRest k (s.dev.get .X_PWR_FROM k)).afterMem k).serveHeld := by
  refine .runAs (rfl : _ = execWakeComplete k s) fun e he => ?_
  have hcond : s.found.dom k = pwWAKING ∧ (!s.found.on .X_PWR_HELD_OFF k) = true ∧
      ((ancestors k).all fun a => s.found.domOn a) = true := by
    have hheld : s.found.get .X_PWR_HELD_OFF k ≠ 1 := hheld
    exact ⟨hwaking, by simpa [Dev.on_def] using hheld, List.all_eq_true.mpr hanc⟩
  obtain ⟨h1, h2, h3, h4, h5, h6⟩ := Dev.wokenOn_shows s.found k.val rfl
  refine ⟨_, rfl, h1, h2, h3, h4, h5, h6.ofFound, ?_⟩
  rw [he]
  unfold Dev.wakeComplete
  rw [if_pos hcond]
  rfl

/-! ## Wake attempts (R522) -/

theorem Dev.attemptFail_due {s : State} {k : Fin 158} {pll : Bool} (hwaking : s.dev.dom k = pwWAKING)
    (hheld : s.dev.get .X_PWR_HELD_OFF k ≠ 1) (hanc : ∀ a ∈ ancestors k, s.dev.domOn a = true)
    (hstep : s.dev.get .X_PWR_FROM k = 1 ∨ pll = false ∨ hasPll k = true)
    (hclk : s.dev.get .X_PWR_BEGAN k + attemptLimit (s.dev.get .X_PWR_FROM k) pll ≤ s.dev.clk) :
    s.found.attemptFail k pll = Dev.attemptEnds k (pll || s.dev.get .X_PWR_FROM k == 1) s.found := by
  have hheld : s.found.get .X_PWR_HELD_OFF k ≠ 1 := hheld
  have hstep : s.found.get .X_PWR_FROM k = 1 ∨ (!pll) = true ∨ hasPll k = true := by simpa using hstep
  have hclk : s.found.get .X_PWR_BEGAN k + attemptLimit (s.found.get .X_PWR_FROM k) pll ≤ s.found.clk := hclk
  unfold Dev.attemptFail
  dsimp only
  rw [if_pos ⟨hwaking, by simpa [Dev.on_def] using hheld, List.all_eq_true.mpr hanc, hstep⟩, Dev.onTime_of_le hclk]
  rfl

/-- An attempt but the fourth is held off. -/
theorem Dev.attemptEnds_retries {k : Nat} {late : Bool} {d : Dev} (h : d.get .PWR_D_STATUS_ATTEMPT k ≠ 3) :
    Dev.attemptEnds k late d = ((d.set .X_PWR_HELD_OFF k 1).set .X_PWR_RETRY_CLK k d.clk).set .PWR_D_LAST_FAIL k
      (if late then 2 else 1) := by
  refine if_neg ?_
  rwa [Dev.get_set_field _ _ _ _ (by decide), Dev.get_set_field _ _ _ _ (by decide), Dev.get_set_field _ _ _ _ (by decide)]

/-- The one domain of class 10, with no child. -/
theorem dma_of_class {k : Fin 158} (h : domClass k = 10) : k.val = domDma := by
  have := k.isLt
  unfold domClass at h
  unfold domDma
  split_ifs at h <;> omega

theorem ancestors_dma : ancestors domDma = [148] := by decide

theorem dma_childless {k : Nat} (hk : k < 158) : domDma ∉ ancestors k :=
  (by decide +kernel : ∀ k : Fin 158, domDma ∉ ancestors k) ⟨k, hk⟩

theorem Dev.syncParents_only (d : Dev) : Dev.Only (fun f _ => f = .PWR_D_STATUS_PARENT_FAILED) d d.syncParents :=
  (Dev.Only.refl _ d).each fun k _ e => (Dev.Only.refl _ e).set (f := .PWR_D_STATUS_PARENT_FAILED) (i := k) _ rfl

/-- A failed domain does not wake. -/
theorem Dev.MayWake.failed {d e : Dev} (h : Dev.MayWake d e) {k : Nat} (hk : d.dom k = pwFAILED) : e.dom k = pwFAILED := by
  rcases h k with h | ⟨hs, -⟩
  · rwa [h]
  · rw [Dev.domAsleep_iff, hk] at hs
    exact absurd hs.2 (by decide)

theorem raise_held (d : Dev) (s : Nat) : (d.raise s).held = d.held := by rw [(raise_only (fun _ _ => False) d s).1]

/-- R522: what a domain that enters WAKE_FAILED shows. -/
theorem Dev.enterFailed_shows (d : Dev) (k : Nat) {e : Dev} (he : e = d.enterFailed k) : e.dom k = pwFAILED ∧
    e.get .PWR_D_EVENTS_WAKE_FAILED k = 1 ∧ 704 ∈ e.pending ∧ e.held = d.held := by
  unfold Dev.enterFailed at he
  extract_lets b c at he
  have hb : b.dom k = pwFAILED ∧ b.get .PWR_D_EVENTS_WAKE_FAILED k = 1 ∧ 704 ∈ b.pending ∧ b.held = d.held := by
    refine ⟨?_, ?_, ?_, ?_⟩
    · refine (raise_mayWake _ 704).failed ?_
      rw [Dev.dom, Dev.get_set_field _ _ _ _ (by decide), Dev.get_set_same]
    · rw [raise_get _ _ _ _ (by decide), Dev.get_set_same]
    · rw [(raise_raised _ (by decide)).1]
      exact (mem_insertNat ..).mpr (.inl rfl)
    · exact (raise_held _ 704).trans rfl
  have hc : Dev.Only (fun f _ => f ∈ ([.X_PWR_FROM, .X_PWR_HELD_OFF, .X_PWR_WANT] : List F)) b e := by
    rw [he]
    refine Dev.Only.setAll _ ?_ fun f hf => List.mem_cons_of_mem _ hf
    unfold c
    split
    · exact .refl _ b
    · exact (Dev.Only.refl _ b).set (f := .X_PWR_FROM) (i := k) _ (show F.X_PWR_FROM ∈ _ by decide)
  clear_value b
  obtain ⟨h1, h2, h3, h4⟩ := hb
  refine ⟨(hc.2 _ _ (show F.PWR_D_STATUS_STATE ∉ _ by decide)).trans h1,
    (hc.2 _ _ (show F.PWR_D_EVENTS_WAKE_FAILED ∉ _ by decide)).trans h2, ?_, ?_⟩
  · rw [hc.1]
    exact h3
  · rw [hc.1]
    exact h4

/-- R522: the DMA domain fails for good; it has no domain below it. -/
theorem Dev.wakeFailed_dma (d : Dev) {e : Dev} (he : e = d.wakeFailed (d.sleepGroup domDma)) : e.dom domDma = pwFAILED ∧
    e.get .PWR_D_EVENTS_WAKE_FAILED domDma = 1 ∧ 704 ∈ e.pending ∧ e.held = d.held := by
  have hgroup : d.sleepGroup domDma = [domDma] := rfl
  obtain ⟨h1, h2, h3, h4⟩ := Dev.enterFailed_shows d domDma rfl
  unfold Dev.wakeFailed at he
  rw [hgroup] at he
  extract_lets b below c at he
  have hbelow : below = [] := by
    refine List.filter_eq_nil_iff.mpr fun k hk hp => ?_
    obtain ⟨-, hp⟩ := Bool.and_eq_true_iff.mp hp
    obtain ⟨a, ha, hmem⟩ := List.any_eq_true.mp hp
    obtain rfl : a = domDma := by simpa using hmem
    exact dma_childless (List.mem_range.mp hk) ha
  have hb : b = d.enterFailed domDma := Dev.forList_one ..
  have hc : c = (d.enterFailed domDma).syncParents := by
    unfold c
    rw [hbelow, hb, Dev.forList_none]
  have honly := (d.enterFailed domDma).syncParents_only
  rw [hbelow, List.append_nil] at he
  rw [Dev.forList_one, hc] at he
  have he : e = (d.enterFailed domDma).syncParents := he
  clear_value c b
  generalize d.enterFailed domDma = x at he honly h1 h2 h3 h4
  rw [← he] at honly
  exact ⟨(honly.2 _ _ (by decide)).trans h1, (honly.2 _ _ (by decide)).trans h2, by rw [honly.1]; exact h3,
    by rw [honly.1]; exact h4⟩

/-- The fields that the output of a lane may change by following its causes. -/
def followFields : List F := [.X_LTX_RAMP_FROM, .X_LTX_RAMP_CLK, .LTX_STATUS_OUTPUT, .LTX_STATUS_SQ_CAUSE]

theorem Dev.syncTx_only (d : Dev) (n : Nat) : Dev.Only (fun f j => j = n ∧ f ∈ followFields) d (d.syncTx n) := by
  unfold Dev.syncTx
  extract_lets c b
  have hb : Dev.Only (fun f j => j = n ∧ f ∈ followFields) d b := by
    unfold b
    split
    · exact (((Dev.Only.refl _ d).set (f := .X_LTX_RAMP_FROM) (i := n) _ ⟨rfl, by decide⟩).set (f := .X_LTX_RAMP_CLK) (i := n) _
        ⟨rfl, by decide⟩).set (f := .LTX_STATUS_OUTPUT) (i := n) _ ⟨rfl, by decide⟩
    · exact .refl _ d
  exact hb.set (f := .LTX_STATUS_SQ_CAUSE) (i := n) _ ⟨rfl, by decide⟩

/-- R522: a retry of a failed DMA domain whose ancestor has not failed. -/
theorem Dev.retryWake_dma {d : Dev} (hfailed : d.dom domDma = pwFAILED) (hanc : d.ancestorFailed domDma = false) {e : Dev}
    (he : e = d.retryWake domDma) : e.dom domDma = pwWAKING ∧ e.get .PWR_D_STATUS_ATTEMPT domDma = 0 ∧
      e.get .PWR_D_LAST_WAKE_SRC domDma = 9 := by
  have hdead : d.domDead domDma = true := by
    unfold Dev.domDead
    rw [hfailed]
    rfl
  have hparent : d.dom 148 ≠ pwFAILED := (Dev.ancestorFailed_iff ..).mp hanc 148 (by decide)
  have hfirst : Dev.forList (ancestors domDma).reverse (fun a d => d.retryOne a (if d.dom a = pwFAILED then 9 else 10)) d =
      d.wakeOne 148 10 := by
    rw [ancestors_dma]
    show d.retryOne 148 _ = _
    unfold Dev.retryOne
    rw [if_neg hparent, if_neg hparent]
  have hstill : (d.wakeOne 148 10).dom domDma = pwFAILED := (wakeOne_get _ _ _ _ (by decide)).trans hfailed
  unfold Dev.retryWake at he
  rw [hdead, if_pos rfl] at he
  dsimp only at he
  rw [hfirst] at he
  generalize d.wakeOne 148 10 = b at he hstill
  have hgroup : b.sleepGroup domDma = [domDma] := rfl
  rw [hgroup] at he
  have hsecond : Dev.forList [domDma] (fun m d => d.retryOne m 9) b =
      ((((b.set .PWR_D_STATUS_STATE domDma pwWAKING).set .X_PWR_BEGAN domDma b.clk).set .PWR_D_LAST_WAKE_SRC domDma 9).setAll
        [.PWR_D_STATUS_ATTEMPT, .X_PWR_HELD_OFF] domDma 0).syncParents := by
    show b.retryOne domDma 9 = _
    unfold Dev.retryOne
    rw [if_pos hstill]
  rw [hsecond] at he
  have hlast : ∀ f ∉ followFields, f ≠ .PWR_D_STATUS_PARENT_FAILED → e.get f domDma =
      ((((b.set .PWR_D_STATUS_STATE domDma pwWAKING).set .X_PWR_BEGAN domDma b.clk).set .PWR_D_LAST_WAKE_SRC domDma 9).setAll
        [.PWR_D_STATUS_ATTEMPT, .X_PWR_HELD_OFF] domDma 0).get f domDma := fun f h1 h2 => by
    rw [he]
    refine (Dev.each_keeps (fun e => e.get f domDma) (g := fun n d => d.syncTx n)
      (fun n _ e => (e.syncTx_only n).2 f domDma fun h => h1 h.2) _).trans ?_
    exact (Dev.syncParents_only _).2 _ _ h2
  refine ⟨?_, ?_, ?_⟩
  · rw [Dev.dom, hlast _ (by decide) (by decide)]
    simp
  · rw [hlast _ (by decide) (by decide)]
    exact Dev.setAll_get_of_mem _ _ _ (by decide)
  · rw [hlast _ (by decide) (by decide)]
    simp

/-- Settles O29: the end of a wake, and its attempts. -/
theorem wakeCompletes : Obligations.WakeCompletes := by
  refine ⟨fun k s => wakeComplete_ends, fun k s => ?_⟩
  intro Due
  refine ⟨by decide, by decide, by decide, by decide, by decide, by decide, fun pll hdue hattempt hnone => ?_,
    fun hwaking hheld hclk => ?_, fun pll hdue hattempt hnone hclass => ?_, fun hfailed hclass hanc => ?_⟩
  · obtain ⟨h1, h2, h3, h4, h5⟩ := hdue
    refine .runAs (rfl : _ = execWakeAttemptFail k pll s) fun e he => ?_
    have hattempt : s.found.get .PWR_D_STATUS_ATTEMPT k ≠ 3 := hattempt
    have hends := Dev.attemptFail_due h1 h2 h3 h4 h5
    rw [Dev.attemptEnds_retries hattempt] at hends
    rw [hends] at he
    rw [Dev.eq_of_serveHeld he hnone]
    refine ⟨?_, ?_, ?_, ((((Dev.Only.refl _ s.found).set _ ⟨rfl, by decide⟩).set _ ⟨rfl, by decide⟩).set _ ⟨rfl, by decide⟩).ofFound⟩
    · simp
    · simp
    · rw [Dev.get_set_same]
      simp
  · refine .runIf (rfl : _ = execWakeRetryStart k s) ⟨hwaking, (Dev.on_iff ..).mpr hheld⟩ fun e he => ?_
    have hclk : s.found.get .X_PWR_RETRY_CLK k + ms ≤ s.found.clk := hclk
    rw [Dev.onTime_of_le hclk] at he
    dsimp only at he
    rw [he]
    refine ⟨?_, ?_, ?_, ?_, ?_⟩
    · simp [Dev.addSat]
    · simp [Dev.addSat]
    · simp [Dev.addSat]
    · simp
    · exact ((((Dev.Only.refl _ s.found).set _ ⟨rfl, by decide⟩).set _ ⟨rfl, by decide⟩).set _ ⟨rfl, by decide⟩).set _
        ⟨rfl, by decide⟩ |>.ofFound
  · obtain ⟨h1, h2, h3, h4, h5⟩ := hdue
    refine .runAs (rfl : _ = execWakeAttemptFail k pll s) fun e he => ?_
    have hends := Dev.attemptFail_due h1 h2 h3 h4 h5
    have hk := dma_of_class hclass
    rw [hends] at he
    unfold Dev.attemptEnds at he
    extract_lets b at he
    have hb : b.get .PWR_D_STATUS_ATTEMPT k = 3 := by
      unfold b
      rw [Dev.get_set_field _ _ _ _ (by decide), Dev.get_set_field _ _ _ _ (by decide), Dev.get_set_field _ _ _ _ (by decide)]
      exact hattempt
    have hheld : b.held = [] := hnone
    clear_value b
    rw [if_pos hb, hk] at he
    obtain ⟨h6, h7, h8, h9⟩ := Dev.wakeFailed_dma b rfl
    rw [hk, Dev.eq_of_serveHeld he (h9.trans hheld)]
    exact ⟨h6, h7, h8⟩
  · refine .runAs (rfl : _ = execWakeRetry k s) fun e he => ?_
    have hk := dma_of_class hclass
    rw [hk] at hfailed hanc he ⊢
    exact Dev.retryWake_dma (d := s.found) hfailed hanc he

/-! ## Entries (R515, R516) -/

/-- R515, R516: the DMA domain passes an abort point. -/
theorem Dev.entryPoint_dma {d : Dev} {p : Nat} (hentering : d.dom domDma = pwENTERING) (hp : p = d.get .PWR_D_STATUS_POINT domDma + 1) :
    d.entryPoint domDma p = d.passPoint [domDma] (d.get .PWR_D_STATUS_GOAL domDma) p := by
  have hgroup : d.sleepGroup domDma = [domDma] := rfl
  have hnot : d.dom domDma ≠ pwROLLBACK := by
    rw [hentering]
    decide
  unfold Dev.entryPoint
  dsimp only
  rw [hgroup, if_neg hnot, if_pos]
  simp [hentering, hp]

/-- An abort point before the last: the place is shown, and a wake request unwinds the entry. -/
theorem Dev.passPoint_dma {d : Dev} {p goal : Nat} (hp : p < 5) (hnot : ¬ (goal = 1 ∧ p = 2)) :
    d.passPoint [domDma] goal p = if d.get .X_PWR_WANT domDma ≠ 0 then (d.set .PWR_D_STATUS_POINT domDma p).unwind [domDma]
      else d.set .PWR_D_STATUS_POINT domDma p := by
  have hset : d.setEach .PWR_D_STATUS_POINT [domDma] p = d.set .PWR_D_STATUS_POINT domDma p := rfl
  have hloop : ∀ e : Dev, Dev.forList [domDma] (fun k d => if domClass k = 7 then d.memRefresh (k - 151) true else d) e = e :=
    fun e => (Dev.forList_one ..).trans (if_neg (by decide))
  unfold Dev.passPoint
  dsimp only
  rw [if_pos (show p ≤ 4 by omega), hset, hloop, ite_self, if_neg (show ¬((goal = 1 ∧ p = 2) ∨ p = 5) by omega)]
  simp

/-- The last point: the domain sleeps, where nothing has asked it to wake. -/
theorem Dev.passPoint_end {d : Dev} {goal : Nat} (hwant : d.get .X_PWR_WANT domDma = 0) : d.passPoint [domDma] goal 5 =
    ((d.set .PWR_D_STATUS_STATE domDma goal).set .PWR_D_EVENTS_ENTERED domDma 1).addSat .PWR_D_COUNTS_ENTRIES domDma 1 := by
  have hentered : d.entered domDma goal =
      ((d.set .PWR_D_STATUS_STATE domDma goal).set .PWR_D_EVENTS_ENTERED domDma 1).addSat .PWR_D_COUNTS_ENTRIES domDma 1 := rfl
  have hpass : d.passPoint [domDma] goal 5 = (d.entered domDma goal).wakeWanted [domDma] := if_pos (.inr rfl)
  have hnone : (d.entered domDma goal).get .X_PWR_WANT domDma = 0 := by
    rw [hentered, Dev.addSat, Dev.get_set_field _ _ _ _ (by decide), Dev.get_set_field _ _ _ _ (by decide),
      Dev.get_set_field _ _ _ _ (by decide), hwant]
  rw [hpass, ← hentered]
  unfold Dev.wakeWanted
  simp [hnone]

/-- Settles O30: the abort points of an entry, its end and its unwinding. -/
theorem entryPoints : Obligations.EntryPoints := by
  intro k s hclass hentering hnone
  have hk := dma_of_class hclass
  rw [hk] at hentering ⊢
  refine ⟨fun p hp hlt hnot hwant => ?_, fun hpoint hwant => ?_, fun p hp hlt hnot hwant => ?_⟩
  · refine .runAs (rfl : _ = execEntryComplete k p s) fun e he => ?_
    have hwant : ¬ s.found.get .X_PWR_WANT domDma ≠ 0 := not_not.mpr hwant
    rw [hk, Dev.entryPoint_dma (d := s.found) hentering hp, Dev.passPoint_dma (d := s.found) hlt (goal := s.found.get .PWR_D_STATUS_GOAL domDma) hnot, if_neg hwant] at he
    rw [Dev.eq_of_serveHeld he hnone]
    exact ⟨Dev.get_set_same .., ((Dev.Only.refl _ s.found).set _ ⟨rfl, by decide⟩).ofFound⟩
  · refine .runAs (rfl : _ = execEntryComplete k 5 s) fun e he => ?_
    have hpoint : (5 : Fin 6).val = s.found.get .PWR_D_STATUS_POINT domDma + 1 := congrArg (· + 1) hpoint.symm
    rw [hk, Dev.entryPoint_dma (d := s.found) hentering hpoint] at he
    generalize hgoal : s.found.get .PWR_D_STATUS_GOAL domDma = goal at he
    have hgoal : s.dev.get .PWR_D_STATUS_GOAL domDma = goal := hgoal
    have hwant : s.found.get .X_PWR_WANT domDma = 0 := hwant
    have he : e = (s.found.passPoint [domDma] goal 5).serveHeld := he
    rw [Dev.passPoint_end hwant] at he
    rw [Dev.eq_of_serveHeld he hnone, hgoal]
    refine ⟨?_, ?_, ?_⟩
    · simp [Dev.dom, Dev.addSat]
    · simp [Dev.addSat]
    · simp [Dev.addSat]
  · refine .runAs (rfl : _ = execEntryComplete k p s) fun e he => ?_
    have hwant : s.found.get .X_PWR_WANT domDma ≠ 0 := hwant
    rw [hk, Dev.entryPoint_dma (d := s.found) hentering hp, Dev.passPoint_dma (d := s.found) hlt (goal := s.found.get .PWR_D_STATUS_GOAL domDma) hnot, if_pos hwant] at he
    have hunwind : (s.found.set .PWR_D_STATUS_POINT domDma p).unwind [domDma] = (((((s.found.set .PWR_D_STATUS_POINT domDma p).set
        .PWR_D_LAST_WAKE_SRC domDma (s.found.get .X_PWR_WANT domDma)).set .X_PWR_WANT domDma 0).set .PWR_D_STATUS_STATE domDma
          pwROLLBACK).addSat .PWR_D_COUNTS_ABORTS domDma 1).set .PWR_D_EVENTS_ABORTED domDma 1 := by
      have hsame : (s.found.set .PWR_D_STATUS_POINT domDma p).get .X_PWR_WANT domDma = s.found.get .X_PWR_WANT domDma :=
        Dev.get_set_field _ _ _ _ (by decide)
      unfold Dev.unwind Dev.forList
      rw [List.foldl_cons, List.foldl_nil]
      dsimp only
      rw [hsame, if_neg hwant, if_neg (by decide)]
    rw [hunwind] at he
    rw [Dev.eq_of_serveHeld he hnone]
    refine ⟨?_, ?_, ?_⟩
    · simp [Dev.dom, Dev.addSat]
    · simp
    · simp [Dev.addSat]

/-! ## Levels and counts (R501, R526, R534, R546) -/

/-- The voltages of the levels lie between 650 and 800 mV. -/
theorem Dev.voltGoal_bounds (d : Dev) (t : Nat) : 130 ≤ d.voltGoal t ∧ d.voltGoal t ≤ 160 := by
  unfold Dev.voltGoal levelVolt
  omega

/-- Settles O31: the ends of a level's ramps, and the clearing of counts. -/
theorem levelsAndCounts : Obligations.LevelsAndCounts := by
  refine ⟨fun s => ⟨fun t hphase hvolt hclk => ?_, fun t hphase hclk hvolt => ?_, fun k => ?_⟩,
    fun s => ⟨fun x hfailed => ?_, fun x hok => ?_, ?_⟩⟩
  · refine .runAs (rfl : _ = execRegulatorSettled t s) fun e he => ?_
    have hphase : s.found.get .X_LVL_PHASE t = 1 := hphase
    have hvolt : s.found.get .X_LVL_V0 t = s.found.voltGoal t := hvolt
    have hclk : s.found.get .X_LVL_CLK t ≤ s.found.clk := hclk
    dsimp only at he
    rw [if_pos hphase, hvolt, Nat.sub_self, Nat.zero_mul, Nat.zero_div, Nat.add_zero, Dev.onTime_of_le hclk] at he
    unfold Dev.levelDone at he
    rw [he]
    refine ⟨?_, ?_, .after rfl ?_ (by decide)⟩
    · rw [raise_get _ _ _ _ (by decide), Dev.get_set_field _ _ _ _ (by decide), Dev.get_set_same]
    · rw [raise_get _ _ _ _ (by decide), Dev.get_set_same]
    · rw [Dev.get_set_field _ _ _ _ (by decide), Dev.get_set_field _ _ _ _ (by decide)]
      rfl
  · refine .runAs (rfl : _ = execRegulatorSettled t s) fun e he => ?_
    have hphase : s.found.get .X_LVL_PHASE t = 2 := hphase
    have hvolt : s.found.get .X_LVL_V0 t ≤ 160 := hvolt
    have hclk : s.found.get .X_LVL_CLK t + 100 * us ≤ s.found.clk := hclk
    obtain ⟨hlo, hhi⟩ := s.found.voltGoal_bounds t
    have hdue : s.found.get .X_LVL_CLK t + (s.found.get .X_LVL_V0 t - s.found.voltGoal t + (s.found.voltGoal t - s.found.get .X_LVL_V0 t) - 1) *
        us / 2 ≤ s.found.clk := by
      have hfar : (s.found.get .X_LVL_V0 t - s.found.voltGoal t + (s.found.voltGoal t - s.found.get .X_LVL_V0 t) - 1) * us ≤ 160 * us :=
        Nat.mul_le_mul_right _ (by omega)
      omega
    dsimp only at he
    rw [hphase, if_neg (by decide), if_pos rfl, Dev.onTime_of_le hdue] at he
    rw [he]
    exact ⟨Dev.get_set_same .., ((Dev.Only.refl _ s.found).set _ ⟨rfl, by decide⟩).ofFound⟩
  · refine .runAs (rfl : _ = execPwrClearStats k s) fun e he => ?_
    subst he
    exact ⟨Dev.setAll_get_of_mem _ _ _ (by decide), Dev.setAll_get_of_mem _ _ _ (by decide), Dev.setAll_get_of_mem _ _ _ (by decide),
      ((Dev.Only.refl _ s.found).setAll _ (by simp)).ofFound⟩
  · refine .runIf (rfl : _ = execReinstate x s) hfailed fun e he => ?_
    subst he
    exact ⟨Dev.get_set_same .., ((Dev.Only.refl _ s.found).set _ ⟨rfl, by decide⟩).ofFound⟩
  · have hok : ¬ s.found.siteFailed x = true := by
      have hok : s.found.siteFailed x = false := hok
      rw [hok]
      exact Bool.false_ne_true
    exact .runElse (rfl : _ = execReinstate x s) hok fun e he => he
  · refine .runAs (rfl : _ = execThmClearStats s) fun e he => ?_
    rw [he]
    exact ⟨fun z hz => Dev.setEach_get_of_mem _ _ (List.mem_range.mpr hz),
      ((Dev.Only.refl _ s.found).setEach 0 fun z hz => ⟨List.mem_range.mp hz, rfl⟩).ofFound⟩

end Sys2Proof.Machine
end

section
/-! PROOFS. Temperature readings and thermal steps (R528, R532, R533, R536). -/

-- One theorem at a time: the whole text is compiled under a memory limit, which the stacks of waiting threads would fill.
set_option Elab.async false

namespace Sys2Proof.Machine

open Sys2Proof

/-! ## What readings leave alone -/

/-- What the check of a site and its latest reading show. -/
def siteKept : List F := [.THM_S_READING_VALUE, .THM_S_TIME_TIME, .X_THM_READ, .THM_S_STATUS_STATE, .THM_S_STATUS_FAIL_CAUSE,
  .THM_S_EVENTS_FAILED]

/-- From `d` to `e` every site keeps its reading and its state, those that `P` picks keep their step, and no pending source is
lost. -/
structure Dev.Spares (P : Nat → Prop) (d e : Dev) : Prop where
  get : ∀ f ∈ siteKept, ∀ i, e.get f i = d.get f i
  step : ∀ i, P i → e.get .X_THM_STEP i = d.get .X_THM_STEP i
  pending : ∀ n ∈ d.pending, n ∈ e.pending

section
variable {P : Nat → Prop} {d e : Dev}

theorem Dev.Spares.refl (d : Dev) : Dev.Spares P d d := ⟨fun _ _ _ => rfl, fun _ _ => rfl, fun _ h => h⟩

theorem Dev.Spares.trans {a b c : Dev} (h1 : Dev.Spares P a b) (h2 : Dev.Spares P b c) : Dev.Spares P a c :=
  ⟨fun f hf i => (h2.get f hf i).trans (h1.get f hf i), fun i hi => (h2.step i hi).trans (h1.step i hi),
    fun n hn => h2.pending n (h1.pending n hn)⟩

theorem Dev.Spares.set {f : F} {i : Nat} (v : Nat) (h : Dev.Spares P d e) (hf : f ∉ .X_THM_STEP :: siteKept := by decide) :
    Dev.Spares P d (e.set f i v) := by
  rw [List.mem_cons, not_or] at hf
  exact h.trans ⟨fun g hg j => Dev.get_set_field _ _ _ _ fun hgf => hf.2 (hgf ▸ hg),
    fun j _ => Dev.get_set_field _ _ _ _ (Ne.symm hf.1), fun _ hn => hn⟩

theorem Dev.Spares.setStep {s : Nat} (v : Nat) (h : Dev.Spares P d e) (hs : ¬ P s) : Dev.Spares P d (e.set .X_THM_STEP s v) :=
  h.trans ⟨fun g hg j => Dev.get_set_field _ _ _ _ fun hgf => absurd (hgf ▸ hg) (by decide),
    fun j hj => Dev.get_set_inst _ _ _ fun hjs => hs (hjs ▸ hj), fun _ hn => hn⟩

theorem Dev.Spares.raise (s : Nat) (h : Dev.Spares P d e) : Dev.Spares P d (e.raise s) := by
  refine h.trans ⟨fun f hf i => raise_get _ _ _ _ (by revert hf f; decide), fun i _ => raise_get _ _ _ _ (by decide), fun n hn => ?_⟩
  by_cases hs : s = 0
  · subst hs
    exact hn
  · rw [(raise_raised e hs).1]
    exact (mem_insertNat ..).mpr (.inr hn)

theorem Dev.Spares.foldl {α : Type} {g : Dev → α → Dev} (h : ∀ d x, Dev.Spares P d (g d x)) (l : List α) (d : Dev) :
    Dev.Spares P d (l.foldl g d) :=
  List.foldlRecOn l g (.refl d) fun _ he x _ => he.trans (h _ x)

theorem Dev.Spares.setAll {fs : List F} {i : Nat} (v : Nat) (h : Dev.Spares P d e)
    (hf : ∀ f ∈ fs, f ∉ .X_THM_STEP :: siteKept := by decide) : Dev.Spares P d (e.setAll fs i v) :=
  h.trans (List.foldlRecOn fs _ (motive := fun b => Dev.Spares P e b) (.refl e) fun _ hb f hfs => hb.set v (hf f hfs))

theorem Dev.Spares.setEach {f : F} {is : List Nat} (v : Nat) (h : Dev.Spares P d e) (hf : f ∉ .X_THM_STEP :: siteKept := by decide) :
    Dev.Spares P d (e.setEach f is v) :=
  h.trans (.foldl (fun b _ => (Dev.Spares.refl b).set v hf) is e)

end

section
variable {P : Nat → Prop} (d : Dev)

theorem slotsStale_spares (t : Nat) : Dev.Spares P d (d.slotsStale t) := by
  refine .foldl (fun e j => ?_) _ d
  dsimp only
  split
  · exact (Dev.Spares.refl e).set (f := .HK_CH_RES_STALE) (i := 48 * t + 24 + j) 1
  · exact .refl e

theorem biasCalStep_spares (t : Nat) : Dev.Spares P d (Dev.biasCalStep t d) := by
  unfold Dev.biasCalStep
  extract_lets k now was
  split
  · exact .refl d
  · exact ((Dev.Spares.refl d).set (f := .X_CAL_BIAS_CH) (i := t) now).trans (slotsStale_spares _ t)

theorem hkCalDue_spares (t : Nat) : Dev.Spares P d (d.hkCalDue t) := by
  unfold Dev.hkCalDue Dev.hkCalBegin
  split
  · exact (Dev.Spares.refl d).set (f := .X_HK_CAL) (i := t) 1
  · refine Dev.Spares.set (f := .HK_STATUS_STATE) (i := t) _ (.trans ?_ (.foldl (fun e c =>
      (Dev.Spares.refl e).set (f := .HK_CH_RES_STALE) (i := 48 * t + c) 1) _ _))
    exact ((Dev.Spares.refl d).set (f := .X_HK_CAL) (i := t) 0).set (f := .X_CAL_RUN_CLK) (i := 128 + t) _

theorem calBegin_spares (u : Nat) (v : Int) : Dev.Spares P d (d.calBegin u v) := by
  unfold Dev.calBegin
  extract_lets b c
  have hc : Dev.Spares P d c := (((((Dev.Spares.refl d).set (f := .X_CAL_WAIT) (i := u) _).set (f := .CAL_U_TEMP_LAST) (i := u) _).set
    (f := .CAL_U_STATUS_SUBSTITUTE) (i := u) _).set (f := .CAL_U_STATUS_STATE) (i := u) _).set (f := .X_CAL_RUN_CLK) (i := u) _
  split
  · exact hc.trans (hkCalDue_spares _ _)
  · exact hc.trans (biasCalStep_spares _ _)
  · exact hc

theorem calReason_spares (b u : Nat) : Dev.Spares P d (Dev.calReason b u d) := by
  have hb : Dev.Spares P d (d.orBits .CAL_U_STATUS_REASONS u (2 ^ b)) :=
    (Dev.Spares.refl d).set (f := .CAL_U_STATUS_REASONS) (i := u) _
  unfold Dev.calReason
  split
  · exact .refl d
  · dsimp only
    split
    · exact hb.set (f := .CAL_U_STATUS_STATE) (i := u) _
    · exact hb

theorem calReading_spares (s : Nat) (v : Int) : Dev.Spares P d (Dev.calReading s v d) := by
  refine .foldl (fun e u => ?_) _ d
  dsimp only
  split
  · exact .refl e
  · split
    · exact calBegin_spares e u v
    · split
      · exact calReason_spares e 1 u
      · exact .refl e

theorem nvmResult_spares (r : Nat) (auto : Bool) : Dev.Spares P d (d.nvmResult r auto) := by
  unfold Dev.nvmResult
  extract_lets b
  have hb : Dev.Spares P d b := ((Dev.Spares.refl d).set (f := .CAL_NVM_STATUS_RESULT) (i := 0) r).raise 966
  split
  · exact (hb.set (f := .CAL_NVM_STATUS_RETRY) (i := 0) 1).set (f := .X_NVM_RETRY_CLK) (i := 0) _
  · exact hb

theorem nvmReading_spares (s : Nat) (v : Int) : Dev.Spares P d (Dev.nvmReading s v d) := by
  unfold Dev.nvmReading
  split
  · exact .refl d
  · split
    · unfold Dev.nvmStop
      extract_lets auto b
      have hb : Dev.Spares P d b := (Dev.Spares.refl d).setAll (fs := [.CAL_NVM_STATUS_BUSY, .X_NVM_PHASE, .X_NVM_AUTO]) (i := 0) 0
      exact (hb.setEach (f := .X_NVM_PEND) 0).trans (nvmResult_spares _ _ _)
    · have hb : Dev.Spares P d (d.set .X_NVM_PEND s 0) := (Dev.Spares.refl d).set 0
      dsimp only
      split
      · exact hb.set (f := .X_NVM_PHASE) (i := 0) 2
      · exact hb

theorem showSite_spares (s old : Nat) : Dev.Spares P d (d.showSite s old) := by
  unfold Dev.showSite
  extract_lets now cnt b
  have hb : Dev.Spares P d b := (((Dev.Spares.refl d).set (f := .THM_S_STATUS_STEP) (i := s) _).set (f := .THM_S_STATUS_ENTRY_CNT) (i := s)
    _).set (f := .THM_S_STATUS_RATE_HOLD) (i := s) _
  split
  · exact hb.set (f := .THM_S_EVENTS_STEP_UP) (i := s) 1
  · split
    · exact hb.set (f := .THM_S_EVENTS_STEP_DOWN) (i := s) 1
    · exact hb

theorem countAlarm_spares (s : Nat) (v : Int) : Dev.Spares P d (d.countAlarm s v) := by
  unfold Dev.countAlarm
  extract_lets th b
  have hb : Dev.Spares P d b := (Dev.Spares.refl d).set (f := .X_THM_ACNT) (i := s) _
  split
  · split
    · split
      · exact (hb.set (f := .THM_S_STATUS_ALARM) (i := s) 0).set (f := .X_THM_AREL) (i := s) 0
      · exact hb.set (f := .X_THM_AREL) (i := s) _
    · exact hb.set (f := .X_THM_AREL) (i := s) 0
  · split
    · exact (((hb.set (f := .THM_S_STATUS_ALARM) (i := s) 1).set (f := .X_THM_AREL) (i := s) 0).set (f := .THM_S_EVENTS_ALARM) (i := s)
        1).raise 737
    · exact hb

theorem countEntry_spares {s : Nat} (hs : ¬ P s) (v : Int) : Dev.Spares P d (d.countEntry s v) := by
  unfold Dev.countEntry
  extract_lets step b
  have hb : Dev.Spares P d b := .foldl (fun e j => (Dev.Spares.refl e).set (f := .X_THM_CNT) (i := 4 * s + j) _) _ d
  split
  · exact (hb.setStep _ hs).set (f := .THM_S_STATUS_RELEASE_CNT) (i := s) 0
  · split
    · exact hb
    · split
      · split
        · exact (hb.setStep _ hs).set (f := .THM_S_STATUS_RELEASE_CNT) (i := s) 0
        · exact hb.set (f := .THM_S_STATUS_RELEASE_CNT) (i := s) _
      · exact hb.set (f := .THM_S_STATUS_RELEASE_CNT) (i := s) 0

/-- R533: a replacement moves the step of its own site alone. -/
theorem takeReplacement_spares {s : Nat} (hs : P s → d.siteFailed s = false) : Dev.Spares P d (Dev.takeReplacement s d) := by
  unfold Dev.takeReplacement
  split
  next hcond =>
    have hnot : ¬ P s := fun h => by simp [hs h] at hcond
    extract_lets ns vs v b
    have hb : Dev.Spares P d b := (((Dev.Spares.refl d).set (f := .X_THM_REP) (i := s) 0).set (f := .THM_S_READING_REPLACE) (i := s) _).set
      (f := .X_THM_REPCLK) (i := s) _
    have hcount : Dev.Spares P b (b.countReading s v false) := by
      unfold Dev.countReading
      extract_lets old c c'
      have hc : Dev.Spares P b c' := (countEntry_spares b hnot v).trans (countAlarm_spares _ s v)
      exact ((hc.trans (showSite_spares _ _ _)).set (f := .X_THM_SETCLK) (i := 0) _).set (f := .X_THM_DIRTY) (i := 0) _
    split
    · exact .refl d
    · exact ((hb.trans hcount).trans (calReading_spares _ s v)).trans (nvmReading_spares _ s v)
  · exact .refl d

theorem takeReplacements_spares (hP : ∀ s, P s → d.siteFailed s = false) : Dev.Spares P d d.takeReplacements := by
  unfold Dev.takeReplacements Dev.each
  refine List.foldlRecOn (List.range 40) _ (motive := Dev.Spares P d) (.refl d) fun e he s _ =>
    he.trans (takeReplacement_spares e fun hp => ?_)
  have hstate := he.get .THM_S_STATUS_STATE (by decide) s
  have := hP s hp
  unfold Dev.siteFailed at this ⊢
  rwa [hstate]

end

/-! ## The end of a reading (R528, R532) -/

/-- R532: what a site shows that is declared FAILED. -/
theorem Dev.siteFail_shows (d : Dev) (s cause : Nat) {e : Dev} (he : e = d.siteFail s cause) : e.siteFailed s = true ∧
    e.get .THM_S_STATUS_FAIL_CAUSE s = cause ∧ e.get .THM_S_EVENTS_FAILED s = 1 ∧ 739 ∈ e.pending ∧
      e.get .THM_S_READING_VALUE s = d.get .THM_S_READING_VALUE s := by
  unfold Dev.siteFail at he
  extract_lets step d1 d2 d3 d4 d5 at he
  have h1 : d1.get .THM_S_STATUS_STATE s = 1 ∧ d1.get .THM_S_STATUS_FAIL_CAUSE s = cause ∧
      d1.get .THM_S_READING_VALUE s = d.get .THM_S_READING_VALUE s := by
    refine ⟨?_, Dev.get_set_same .., ?_⟩ <;> simp [d1]
  have h4 : Dev.Spares (fun _ => False) d1 d4 := by
    have h3 : Dev.Spares (fun _ => False) d1 d3 := ((Dev.Spares.refl d1).setEach (f := .X_THM_CNT) 0).setAll
      (fs := [.X_THM_ACNT, .X_THM_AREL, .X_THM_RSTEP, .X_THM_RCNT, .X_THM_REPCLK, .X_THM_REINST, .THM_S_STATUS_RELEASE_CNT,
        .THM_S_READING_REPLACE]) (i := s) 0
    exact (h3.setStep _ fun h => h).trans (showSite_spares _ s step)
  have h5 : ∀ f ∈ siteKept, d5.get f s = d1.get f s := fun f hf => h4.get f hf s
  clear_value d5 d1
  obtain ⟨h6, h7, h8⟩ := h1
  have hget : ∀ f ∈ siteKept, f ≠ .THM_S_EVENTS_FAILED → e.get f s = d1.get f s := fun f hf hne => by
    rw [he, raise_get _ _ _ _ (by revert hf f; decide), Dev.get_set_field _ _ _ _ hne, h5 f hf]
  refine ⟨?_, ?_, ?_, ?_, ?_⟩
  · rw [Dev.siteFailed, hget _ (by decide) (by decide), h6]
    rfl
  · rw [hget _ (by decide) (by decide), h7]
  · rw [he, raise_get _ _ _ _ (by decide), Dev.get_set_same]
  · rw [he, (raise_raised _ (by decide)).1]
    exact (mem_insertNat ..).mpr (.inl rfl)
  · rw [hget _ (by decide) (by decide), h8]

/-- R528, R532: a reading that completes in time. -/
theorem readingDone_reads {x : Fin 40} {s : State} {raw : BitVec 16} (hdem : s.dev.get .X_THM_DEM x ≠ 0)
    (hok : s.dev.siteFailed x = false) (h1 : s.dev.get .X_THM_CLK x + 24 * us ≤ s.dev.clk)
    (h2 : s.dev.clk ≤ s.dev.get .X_THM_CLK x + 100 * us) :
    let v := raw.toInt + sx 16 (s.dev.get .X_NVM_SENSOR x)
    (s.dev.siteCheck x v = 0 → bitAt (s.dev.get .X_THM_DEM x) 0 = false → Completes (.readingDone x raw) s fun e =>
      e.get .THM_S_READING_VALUE x = ux 16 v ∧ e.get .THM_S_TIME_TIME x = s.dev.now ∧ e.get .X_THM_READ x = s.dev.clk + 1 ∧
      e.get .X_THM_STEP x = s.dev.get .X_THM_STEP x) ∧
    (v < -640 ∨ 2400 < v → Completes (.readingDone x raw) s fun e => e.get .THM_S_READING_VALUE x = ux 16 v ∧
      e.siteFailed x = true ∧ e.get .THM_S_STATUS_FAIL_CAUSE x = 1 ∧ 739 ∈ e.pending) := by
  intro v
  have hdem : ¬ s.found.get .X_THM_DEM x = 0 := hdem
  have h1 : s.found.get .X_THM_CLK x + 24 * us ≤ s.found.clk := h1
  have h2 : ¬ s.found.get .X_THM_CLK x + 100 * us < s.found.clk := not_lt.mpr h2
  have hv : raw.toInt + sx 16 (s.found.get .X_NVM_SENSOR x) = v := rfl
  have hread : ∀ e, e = Dev.onTime (s.found.get .X_THM_CLK x + 24 * us) (fun d =>
      (if d.get .X_THM_CLK x + 100 * us < d.clk then Dev.readingLate x d else d.reading x raw.toInt).takeReplacements) s.found →
      e = (s.found.reading x raw.toInt).takeReplacements := fun e he => by
    rw [he, Dev.onTime_of_le h1]
    exact congrArg Dev.takeReplacements (if_neg h2)
  generalize hb : ((((s.found.set .X_THM_DEM x 0).set .THM_S_READING_VALUE x (ux 16 v)).set .THM_S_TIME_TIME x s.found.now).set
    .X_THM_READ x (s.found.clk + 1)) = b
  have hvalue : b.get .THM_S_READING_VALUE x = ux 16 v := by simp [← hb]
  have htime : b.get .THM_S_TIME_TIME x = s.dev.now := by simp [← hb]
  have hlast : b.get .X_THM_READ x = s.dev.clk + 1 := by simp [← hb]
  have hstep : b.get .X_THM_STEP x = s.dev.get .X_THM_STEP x := by simp [← hb]
  have hnormal : b.siteFailed x = false := by
    rw [← hok]
    unfold Dev.siteFailed
    simp [← hb]
  have hreading : s.found.reading x raw.toInt = if s.found.siteCheck x v = 0 then
      Dev.nvmReading x v (Dev.calReading x v (if bitAt (s.found.get .X_THM_DEM x) 0 then b.countReading x v true else b))
      else b.siteFail x (s.found.siteCheck x v) := by
    have hn : ¬ b.siteFailed x = true := by
      rw [hnormal]
      exact Bool.false_ne_true
    subst hb
    unfold Dev.reading
    exact if_neg hn
  refine ⟨fun hcheck hsched => ?_, fun hrange => ?_⟩
  · refine .runElse (rfl : _ = execReadingDone x raw s) hdem fun e he => ?_
    have hcheck : s.found.siteCheck x v = 0 := hcheck
    have hsched : ¬ bitAt (s.found.get .X_THM_DEM x) 0 = true := by
      rw [State.found_get, hsched]
      exact Bool.false_ne_true
    replace he := hread e he
    rw [hreading, if_pos hcheck, if_neg hsched] at he
    have hc : Dev.Spares (· = x.val) b (Dev.nvmReading x v (Dev.calReading x v b)) :=
      (calReading_spares b x v).trans (nvmReading_spares _ x v)
    generalize Dev.nvmReading x v (Dev.calReading x v b) = c at he hc
    have hspare : Dev.Spares (· = x.val) b e := hc.trans (he ▸ takeReplacements_spares c fun y hy => by
      have hstate := hc.get .THM_S_STATUS_STATE (by decide) y
      unfold Dev.siteFailed at hnormal ⊢
      rw [hstate, hy]
      exact hnormal)
    exact ⟨(hspare.get _ (by decide) _).trans hvalue, (hspare.get _ (by decide) _).trans htime,
      (hspare.get _ (by decide) _).trans hlast, (hspare.step _ rfl).trans hstep⟩
  · refine .runElse (rfl : _ = execReadingDone x raw s) hdem fun e he => ?_
    have hcheck : s.found.siteCheck x v = 1 := if_pos hrange
    replace he := hread e he
    rw [hreading, hcheck, if_neg (by decide)] at he
    obtain ⟨h3, h4, -, h6, h7⟩ := b.siteFail_shows x 1 rfl
    generalize b.siteFail x 1 = c at he h3 h4 h6 h7
    have hspare : Dev.Spares (fun _ => False) c e := he ▸ takeReplacements_spares c fun _ h => h.elim
    refine ⟨(hspare.get _ (by decide) _).trans (h7.trans hvalue), ?_, (hspare.get _ (by decide) _).trans h4, hspare.pending _ h6⟩
    unfold Dev.siteFailed at h3 ⊢
    rwa [hspare.get _ (by decide) _]

/-- R532: a reading that has not ended in time. -/
theorem readingTimeout_fails {x : Fin 40} {s : State} (hdem : s.dev.get .X_THM_DEM x ≠ 0) (hok : s.dev.siteFailed x = false)
    (hclk : s.dev.get .X_THM_CLK x + 100 * us ≤ s.dev.clk) : Completes (.readingTimeout x) s fun e => e.siteFailed x = true ∧
      e.get .THM_S_STATUS_FAIL_CAUSE x = 2 ∧ e.get .THM_S_EVENTS_FAILED x = 1 ∧ 739 ∈ e.pending := by
  have hdem : ¬ s.found.get .X_THM_DEM x = 0 := hdem
  have hclk : s.found.get .X_THM_CLK x + 100 * us ≤ s.found.clk := hclk
  have hnormal : (s.found.set .X_THM_DEM x 0).siteFailed x = false := by
    rw [← hok]
    unfold Dev.siteFailed
    rw [Dev.get_set_field _ _ _ _ (by decide)]
    rfl
  refine .runElse (rfl : _ = execReadingTimeout x s) hdem fun e he => ?_
  rw [Dev.onTime_of_le hclk] at he
  have hlate : Dev.readingLate x s.found = (s.found.set .X_THM_DEM x 0).siteFail x 2 := by
    unfold Dev.readingLate
    exact if_neg fun h => Bool.false_ne_true (hnormal.symm.trans h)
  rw [hlate] at he
  obtain ⟨h1, h2, h3, h4, -⟩ := (s.found.set .X_THM_DEM x 0).siteFail_shows x 2 rfl
  generalize (s.found.set .X_THM_DEM x 0).siteFail x 2 = c at he h1 h2 h3 h4
  have hspare : Dev.Spares (fun _ => False) c e := he ▸ takeReplacements_spares c fun _ h => h.elim
  refine ⟨?_, (hspare.get _ (by decide) _).trans h2, (hspare.get _ (by decide) _).trans h3, hspare.pending _ h4⟩
  unfold Dev.siteFailed at h1 ⊢
  rwa [hspare.get _ (by decide) _]

/-! ## Demands (R528) -/

/-- R528: a demand at a site with power. -/
theorem Dev.demand_up {d : Dev} {x : Nat} (src : Nat) (hgone : d.siteGone x = false) (hup : d.siteUp x = true) : d.demand src x =
    if d.get .X_THM_DEM x = 0 then (d.set .X_THM_DEM x src).set .X_THM_CLK x d.clk
    else d.set .X_THM_DEM x (d.get .X_THM_DEM x ||| src) := by
  unfold Dev.demand
  rw [hgone, hup]
  rfl

theorem Dev.each_succ (n : Nat) (g : Nat → Dev → Dev) (d : Dev) : Dev.each (n + 1) g d = g n (Dev.each n g d) := by
  unfold Dev.each
  rw [List.range_succ, List.foldl_append]
  rfl

/-- R528: a demand at every one of the first `n` sites, all with power. -/
theorem Dev.demands_up {d : Dev} (src : Nat) (n : Nat) (h : ∀ x < n, d.siteGone x = false ∧ d.siteUp x = true) :
    (∀ x, (Dev.each n (fun x d => d.demand src x) d).get .X_THM_DEM x =
      if x < n then d.get .X_THM_DEM x ||| src else d.get .X_THM_DEM x) ∧
    ∀ f i, f ≠ .X_THM_DEM → f ≠ .X_THM_CLK → (Dev.each n (fun x d => d.demand src x) d).get f i = d.get f i := by
  induction n with
  | zero => exact ⟨fun _ => rfl, fun _ _ _ _ => rfl⟩
  | succ n ih =>
    obtain ⟨ih1, ih2⟩ := ih fun x hx => h x (by omega)
    obtain ⟨hgone, hup⟩ := h n (by omega)
    rw [Dev.each_succ]
    generalize Dev.each n (fun x d => d.demand src x) d = e at ih1 ih2
    have hgone' : e.siteGone n = false := by
      rw [← hgone]
      unfold Dev.siteGone Dev.dom
      rw [ih2 _ _ (by decide) (by decide)]
    have hup' : e.siteUp n = true := by
      rw [← hup]
      unfold Dev.siteUp Dev.domOn Dev.dom Dev.on
      rw [ih2 _ _ (by decide) (by decide), ih2 _ _ (by decide) (by decide)]
    have hdem : e.get .X_THM_DEM n = d.get .X_THM_DEM n := (ih1 n).trans (if_neg (lt_irrefl n))
    rw [Dev.demand_up src hgone' hup']
    refine ⟨fun x => ?_, fun f i h1 h2 => ?_⟩
    · by_cases hx : x = n
      · subst hx
        rw [if_pos (Nat.lt_succ_self x)]
        split
        next h0 =>
          rw [hdem] at h0
          rw [Dev.get_set_field _ _ _ _ (by decide), Dev.get_set_same, h0, Nat.zero_or]
        · rw [Dev.get_set_same, hdem]
      · have hlt : x < n + 1 ↔ x < n := by omega
        simp only [hlt]
        rw [← ih1 x]
        split
        · rw [Dev.get_set_field _ _ _ _ (by decide), Dev.get_set_inst _ _ _ hx]
        · rw [Dev.get_set_inst _ _ _ hx]
    · rw [← ih2 f i h1 h2]
      split
      · rw [Dev.get_set_field _ _ _ _ h2, Dev.get_set_field _ _ _ _ h1]
      · rw [Dev.get_set_field _ _ _ _ h1]

/-- Settles O32: readings asked for, and their ends. -/
theorem readingsDemanded : Obligations.ReadingsDemanded := by
  refine ⟨fun s => ⟨fun x hgone hup hdem => ?_, fun x hgone hup hdem => ?_, fun hall => ?_⟩, fun x s hdem hok =>
    ⟨fun raw h1 h2 => readingDone_reads hdem hok h1 h2, fun hclk => readingTimeout_fails hdem hok hclk⟩⟩
  · refine .runAs (rfl : _ = execThmRead x s) fun e he => ?_
    have hdem : s.found.get .X_THM_DEM x = 0 := hdem
    rw [Dev.demand_up (d := s.found) byDriver hgone hup, if_pos hdem] at he
    rw [he]
    exact ⟨(Dev.get_set_field _ _ _ _ (by decide)).trans (Dev.get_set_same ..), Dev.get_set_same ..,
      (((Dev.Only.refl _ s.found).set _ ⟨rfl, by decide⟩).set _ ⟨rfl, by decide⟩).ofFound⟩
  · refine .runAs (rfl : _ = execThmRead x s) fun e he => ?_
    have hdem : ¬ s.found.get .X_THM_DEM x = 0 := hdem
    rw [Dev.demand_up (d := s.found) byDriver hgone hup, if_neg hdem] at he
    rw [he]
    exact ⟨Dev.get_set_same .., ((Dev.Only.refl _ s.found).set _ ⟨rfl, by decide⟩).ofFound⟩
  · refine .runAs (rfl : _ = execThmReadAll s) fun e he x hx => ?_
    have he : e = Dev.each 40 (fun x d => d.demand byDriver x) s.found := he
    rw [he, (Dev.demands_up (d := s.found) byDriver 40 hall).1 x, if_pos hx]
    rfl

/-! ## Steps (R536) -/

/-- The highest number below `n` that meets a condition is the first from the top. -/
theorem find_highest {n j : Nat} {p : Nat → Bool} (hj : j < n) (hp : p j = true) (hno : ∀ i < n, j < i → p i = false) :
    (List.range n).reverse.find? p = some j := by
  induction n with
  | zero => omega
  | succ n ih =>
    rw [List.range_succ, List.reverse_append, List.reverse_singleton, List.singleton_append]
    rcases Nat.lt_succ_iff_lt_or_eq.mp hj with hlt | rfl
    · rw [List.find?_cons_of_neg (by rw [hno n (by omega) hlt]; exact Bool.false_ne_true)]
      exact ih hlt fun i hi => hno i (by omega)
    · exact List.find?_cons_of_pos hp

/-- R536: the counts of a site after a scheduled reading, and what counting leaves alone. -/
theorem Dev.entryCounts (d : Dev) (x : Nat) (v : Int) (n : Nat) {e : Dev} (he : e = Dev.each n (fun j d =>
      d.set .X_THM_CNT (4 * x + j) (if d.thmTh x j ≤ v * 10 then min 15 (d.get .X_THM_CNT (4 * x + j) + 1) else 0)) d) :
    (∀ j, e.get .X_THM_CNT (4 * x + j) = if j < n then (if d.thmTh x j ≤ v * 10 then min 15 (d.get .X_THM_CNT (4 * x + j) + 1) else 0)
      else d.get .X_THM_CNT (4 * x + j)) ∧ ∀ f i, f ≠ .X_THM_CNT → e.get f i = d.get f i := by
  induction n generalizing e with
  | zero => exact he ▸ ⟨fun _ => rfl, fun _ _ _ => rfl⟩
  | succ n ih =>
    rw [Dev.each_succ] at he
    obtain ⟨ih1, ih2⟩ := ih rfl
    generalize Dev.each n _ d = b at he ih1 ih2
    have hth : b.thmTh x n = d.thmTh x n := by
      unfold Dev.thmTh Dev.untrimmed
      rw [ih2 _ _ (by decide), ih2 _ _ (by decide)]
    have hcnt : b.get .X_THM_CNT (4 * x + n) = d.get .X_THM_CNT (4 * x + n) := (ih1 n).trans (if_neg (lt_irrefl n))
    rw [hth, hcnt] at he
    refine ⟨fun j => ?_, fun f i h => ?_⟩
    · rw [he]
      by_cases hj : j = n
      · subst hj
        rw [Dev.get_set_same, if_pos (Nat.lt_succ_self j)]
      · have hlt : j < n + 1 ↔ j < n := by omega
        rw [Dev.get_set_inst _ _ _ (by omega), ih1 j]
        simp only [hlt]
    · rw [he, Dev.get_set_field _ _ _ _ h, ih2 f i h]

/-- Settles O33: readings at an entry threshold raise the step, and those below the release threshold lower it. -/
theorem stepsFollowReadings : Obligations.StepsFollowReadings := by
  intro d x v j hx hj
  obtain ⟨hcnt, hget⟩ := d.entryCounts x v 4 rfl
  have hdwell : ∀ b : Dev, (∀ f i, f ≠ F.X_THM_CNT → b.get f i = d.get f i) → b.dwell = d.dwell := fun b h => h _ _ (by decide)
  refine ⟨fun hstep hcount hmax hth habove => ?_, fun hstep hbelow hpos hrelease hcount => ?_⟩
  · unfold Dev.countEntry
    extract_lets step b
    have hb : b.dwell = d.dwell := hdwell b hget
    have hfind : ((List.range 4).reverse.find? fun j => decide (step < j + 1 ∧ b.dwell ≤ b.get .X_THM_CNT (4 * x + j))) = some j := by
      refine find_highest hj ?_ fun i hi hji => ?_
      · rw [decide_eq_true_iff, hb, hcnt j, if_pos hj, if_pos hth]
        exact ⟨by omega, by omega⟩
      · obtain ⟨h1, h2⟩ := habove i hi hji
        rw [decide_eq_false_iff_not, hb, hcnt i, if_pos hi, if_neg (by omega)]
        omega
    rw [hfind]
    exact (Dev.get_set_field _ _ _ _ (by decide)).trans (Dev.get_set_same ..)
  · have hdone : d.countEntry x v = ((Dev.each 4 (fun j d => d.set .X_THM_CNT (4 * x + j)
        (if d.thmTh x j ≤ v * 10 then min 15 (d.get .X_THM_CNT (4 * x + j) + 1) else 0)) d).set .X_THM_STEP x j).set
          .THM_S_STATUS_RELEASE_CNT x 0 := by
      unfold Dev.countEntry
      extract_lets step b
      have hb : b.dwell = d.dwell := hdwell b hget
      have hnone : ((List.range 4).reverse.find? fun j => decide (step < j + 1 ∧ b.dwell ≤ b.get .X_THM_CNT (4 * x + j))) = none := by
        refine List.find?_eq_none.mpr fun i hi => ?_
        have hi : i < 4 := List.mem_range.mp (List.mem_reverse.mp hi)
        have := hbelow i hi
        rw [decide_eq_true_iff, hb, hcnt i, if_pos hi, if_neg (by omega)]
        omega
      have hstep : step = j + 1 := hstep
      have hlow : v * 10 < b.thmTh x (step - 1) - b.thmHyst := by
        rw [hstep]
        unfold Dev.thmTh Dev.untrimmed Dev.thmHyst at hrelease ⊢
        rwa [hget _ _ (by decide), hget _ _ (by decide), hget _ _ (by decide)]
      have hrel : b.get .THM_S_STATUS_RELEASE_CNT x = d.get .THM_S_STATUS_RELEASE_CNT x := hget _ _ (by decide)
      rw [hnone]
      dsimp only
      have hcount : b.dwell ≤ b.get .THM_S_STATUS_RELEASE_CNT x + 1 := by rwa [hb, hrel]
      rw [if_neg (by omega), if_pos hlow]
      refine (if_pos hcount).trans ?_
      rw [hstep]
      rfl
    rw [hdone]
    exact ⟨(Dev.get_set_field _ _ _ _ (by decide)).trans (Dev.get_set_same ..), Dev.get_set_same ..⟩

end Sys2Proof.Machine
end

section
/-! PROOFS. Laser sources and two-wire transfers (R561, R562, R564, R565, R566). -/

-- One theorem at a time: the whole text is compiled under a memory limit, which the stacks of waiting threads would fill.
set_option Elab.async false

namespace Sys2Proof.Machine

open Sys2Proof

/-! ## Frames over lists of fields -/

section
variable {L : List F} {d e : Dev}

/-- A field outside the list that a frame allows reads as before. -/
theorem Dev.Only.keeps (h : Dev.Only (fun f _ => f ∈ L) d e) (f : F) (i : Nat) (hf : f ∉ L := by decide) : e.get f i = d.get f i :=
  h.2 f i hf

theorem Dev.OnlyRaising.keeps (h : Dev.OnlyRaising (fun f _ => f ∈ L) d e) (f : F) (i : Nat) (hf : f ∉ L := by decide)
    (hs : f ∉ signalFields := by decide) : e.get f i = d.get f i := h.2 f i hf hs

/-- One more write to a field of the list. -/
theorem Dev.Only.write (h : Dev.Only (fun f _ => f ∈ L) d e) (f : F) (i v : Nat) (hf : f ∈ L := by decide) :
    Dev.Only (fun f _ => f ∈ L) d (e.set f i v) := h.set v hf

theorem Dev.OnlyAt.write {n : Nat} (h : Dev.OnlyAt L n d e) (f : F) (v : Nat) (hf : f ∈ L := by decide) :
    Dev.OnlyAt L n d (e.set f n v) := Dev.Only.set v h ⟨rfl, hf⟩

end

/-! ## Zero scale and squelch that follow a laser source -/

/-- What a cause of zero scale changes of a channel. -/
def zeroFields : List F := [.BIAS_C_LIVE_LIVE, .X_BIAS_SINE, .X_BIAS_HOLD, .X_BIAS_ACC, .X_BIAS_CORR, .BIAS_C_STATUS_STATE,
  .BIAS_C_EVENTS_ZEROED, .BIAS_C_STATUS_ZERO_CAUSE]

theorem Dev.zeroScale_only (d : Dev) (i : Nat) : Dev.OnlyAt zeroFields i d (d.zeroScale i) := by
  have hin : ∀ f ∈ [F.BIAS_C_LIVE_LIVE, .X_BIAS_SINE, .X_BIAS_HOLD, .X_BIAS_ACC, .X_BIAS_CORR], f ∈ zeroFields := by decide
  exact (Dev.Only.refl _ d).setAll 0 fun f hf => ⟨rfl, hin f hf⟩

theorem Dev.enterZero_only (d : Dev) (i : Nat) : Dev.OnlyRaising (fun f j => j = i ∧ f ∈ zeroFields) d (d.enterZero i) := by
  have h : Dev.OnlyAt zeroFields i d (((d.zeroScale i).set .BIAS_C_STATUS_STATE i bcZERO).set .BIAS_C_EVENTS_ZEROED i 1) :=
    ((d.zeroScale_only i).write .BIAS_C_STATUS_STATE bcZERO).write .BIAS_C_EVENTS_ZEROED 1
  unfold Dev.enterZero Dev.raiseTile
  exact (Dev.Only.raising h).raise _

theorem Dev.latchZero_only (b i : Nat) (d : Dev) : Dev.OnlyRaising (fun f j => j = i ∧ f ∈ zeroFields) d (Dev.latchZero b i d) := by
  unfold Dev.latchZero
  split
  · have h : Dev.OnlyRaising (fun f j => j = i ∧ f ∈ zeroFields) d (d.orBits .BIAS_C_STATUS_ZERO_CAUSE i (2 ^ b)) :=
      (Dev.OnlyRaising.refl _ d).put (f := .BIAS_C_STATUS_ZERO_CAUSE) (i := i) _ ⟨rfl, by decide⟩
    dsimp only
    split
    · exact h.trans (Dev.enterZero_only _ i)
    · exact h
  · exact .refl _ d

theorem Dev.latchZeros_only (d : Dev) (b : Nat) (p : Nat → Bool) :
    Dev.OnlyRaising (fun f _ => f ∈ zeroFields) d (d.latchZeros b p) := by
  refine (Dev.OnlyRaising.refl _ d).each fun i e => ?_
  split
  · exact (Dev.latchZero_only b i e).mono fun _ _ h => h.2
  · exact .refl _ e

theorem Dev.lsLost_only (d : Dev) (e : Nat) : Dev.Only (fun f _ => f ∈ .X_LS_ABSENT :: followFields) d (d.lsLost e) := by
  have h : Dev.Only (fun f _ => f ∈ F.X_LS_ABSENT :: followFields) d (d.set .X_LS_ABSENT e 1) :=
    (Dev.Only.refl _ d).set (f := .X_LS_ABSENT) (i := e) _ (List.mem_cons_self ..)
  exact h.trans (Dev.Only.foldl _ _ (fun b n _ => (b.syncTx_only n).mono fun f _ hf => List.mem_cons_of_mem _ hf.2) _)

/-! ## States -/

/-- What the entry of a state of a laser source changes. -/
def lsFields : List F := .SYS_LS_STATUS_STATE :: lsEvents ++ signalFields

theorem Dev.syncLaser_get (d : Dev) (e : Nat) {f : F} (i : Nat) (h : f ∉ signalFields) : (d.syncLaser e).get f i = d.get f i :=
  setLine_get _ _ _ _ _ h

/-- R561, R564: an event bit that is set drives the line of the source. -/
theorem Dev.syncLaser_line {d : Dev} {e : Nat} {f : F} (hf : f ∈ lsEvents) (h : d.get f e = 1) :
    (d.syncLaser e).get .PH_SRC_LINE (576 + 8 * e + 3) = 1 := by
  have hany : d.any lsEvents e = true := List.any_eq_true.mpr ⟨f, hf, by rw [h]; rfl⟩
  unfold Dev.syncLaser
  rw [setLine_line, hany]
  rfl

/-- R561: the state that a laser source enters, and the events that come with it. -/
theorem Dev.lsEnter_shows (d : Dev) (e st : Nat) {ev : List F} (hev : ∀ f ∈ ev, f ∈ lsEvents) {b : Dev} (hb : b = d.lsEnter e st ev) :
    b.ls e = st ∧ (∀ f ∈ ev, b.get f e = 1 ∧ b.get .PH_SRC_LINE (576 + 8 * e + 3) = 1) ∧
      ∀ f i, f ∉ lsFields → b.get f i = d.get f i := by
  unfold Dev.lsEnter at hb
  extract_lets c at hb
  have hnot : F.SYS_LS_STATUS_STATE ∉ ev := fun h => absurd (hev _ h) (by decide)
  have hsig : ∀ f ∈ lsEvents, f ∉ signalFields := by decide
  have hc : c.ls e = st ∧ ∀ f i, f ∉ lsFields → c.get f i = d.get f i := by
    unfold c
    split
    next h => exact ⟨h, fun _ _ _ => rfl⟩
    next =>
      refine ⟨(Dev.get_set_field _ _ _ _ (by decide)).trans (Dev.get_set_same ..), fun f i hf => ?_⟩
      have hne : ∀ g ∈ lsFields, f ≠ g := fun g hg h => hf (h ▸ hg)
      rw [Dev.get_set_field _ _ _ _ (hne _ (by decide)), Dev.get_set_field _ _ _ _ (hne _ (by decide))]
  obtain ⟨hstate, hkeep⟩ := hc
  clear_value c
  subst hb
  refine ⟨?_, fun f hf => ?_, fun f i hf => ?_⟩
  · exact (Dev.syncLaser_get _ _ _ (by decide)).trans ((Dev.setAll_get_field _ _ _ _ hnot).trans hstate)
  · have hone : (c.setAll ev e 1).get f e = 1 := Dev.setAll_get_of_mem _ _ _ hf
    exact ⟨(Dev.syncLaser_get _ _ _ (hsig f (hev f hf))).trans hone, Dev.syncLaser_line (hev f hf) hone⟩
  · have hout : f ∉ ev ∧ f ∉ signalFields := by
      unfold lsFields at hf
      rw [List.mem_append, List.mem_cons] at hf
      exact ⟨fun h => hf (.inl (.inr (hev f h))), fun h => hf (.inr h)⟩
    exact (Dev.syncLaser_get _ _ _ hout.2).trans ((Dev.setAll_get_field _ _ _ _ hout.1).trans (hkeep f i hf))

theorem Dev.lsHold_get (d : Dev) (e : Nat) : (d.lsHold e).get .SYS_LS_STATUS_RESET_OUT e = 1 ∧
    (d.lsHold e).get .SYS_LS_STATUS_LPMODE_OUT e = 1 ∧ ∀ f i, f ∉ [F.SYS_LS_STATUS_RESET_OUT, .SYS_LS_STATUS_LPMODE_OUT] →
      (d.lsHold e).get f i = d.get f i :=
  ⟨Dev.setAll_get_of_mem _ _ _ (by decide), Dev.setAll_get_of_mem _ _ _ (by decide), fun _ _ h => Dev.setAll_get_field _ _ _ _ h⟩

/-- R561: what FAULT leaves. -/
theorem Dev.lsFail_shows (d : Dev) (e : Nat) {b : Dev} (hb : b = d.lsFail e) : b.ls e = lsFAULT ∧ b.get .SYS_LS_EVENTS_FAULT e = 1 ∧
    b.get .SYS_LS_STATUS_RESET_OUT e = 1 ∧ b.get .SYS_LS_STATUS_LPMODE_OUT e = 1 := by
  obtain ⟨h1, h2, h3⟩ := (d.lsHold e).lsEnter_shows e lsFAULT (ev := [.SYS_LS_EVENTS_FAULT]) (by decide) hb
  obtain ⟨h4, h5, -⟩ := d.lsHold_get e
  exact ⟨h1, (h2 _ (by decide)).1, (h3 _ _ (by decide)).trans h4, (h3 _ _ (by decide)).trans h5⟩

/-- R561: LS_PRESENT_L falls at a source that is ABSENT. -/
theorem lsInserted_settles {e : Fin 8} {s : State} (habs : s.dev.ls e = lsABSENT) : Completes (.lsInserted e) s fun d =>
    d.ls e = lsSETTLING ∧ d.get .SYS_LS_STATUS_PRESENT e = 1 ∧ d.get .X_LS_CLK e = s.dev.clk ∧ d.get .SYS_LS_EVENTS_INSERTED e = 1 ∧
      d.get .SYS_LS_STATUS_INSERTIONS e = satAdd F.SYS_LS_STATUS_INSERTIONS.width (s.dev.get .SYS_LS_STATUS_INSERTIONS e) 1 ∧
      d.get .PH_SRC_LINE (576 + 8 * e.val + 3) = 1 := by
  refine .runAs (rfl : _ = execLsInserted e s) fun d hd => ?_
  have habs' : (s.found.set .SYS_LS_STATUS_PRESENT e 1).ls e = lsABSENT := (Dev.get_set_field _ _ _ _ (by decide)).trans habs
  replace hd := hd.trans (if_pos habs')
  obtain ⟨h1, h2, h3⟩ := Dev.lsEnter_shows _ e lsSETTLING (ev := [.SYS_LS_EVENTS_INSERTED]) (by decide) hd
  obtain ⟨h4, h5⟩ := h2 _ (List.mem_singleton_self _)
  refine ⟨h1, ?_, ?_, h4, ?_, h5⟩
  · rw [h3 _ _ (by decide), Dev.get_set_field _ _ _ _ (by decide)]
    exact (Dev.get_set_field _ _ _ _ (by decide)).trans (Dev.get_set_same ..)
  · rw [h3 _ _ (by decide), Dev.get_set_same]
    rfl
  · rw [h3 _ _ (by decide), Dev.get_set_field _ _ _ _ (by decide)]
    refine (Dev.get_set_same ..).trans ?_
    rw [Dev.get_set_field _ _ _ _ (by decide)]
    rfl

/-- R561: INIT begins 10 ms after the insertion. -/
theorem lsSettled_inits {e : Fin 8} {s : State} (hst : s.dev.ls e = lsSETTLING) (hpres : s.dev.get .SYS_LS_STATUS_PRESENT e = 1)
    (hclk : s.dev.get .X_LS_CLK e + 10 * ms ≤ s.dev.clk) : Completes (.lsSettled e) s fun d => d.ls e = lsINIT ∧
      d.get .SYS_LS_STATUS_RESET_OUT e = 0 ∧
      (s.dev.get .SYS_LS_CTRL_AUTO_HP e = 1 → d.get .SYS_LS_STATUS_LPMODE_OUT e = 0) ∧ d.get .X_LS_CLK e = s.dev.clk := by
  have hon : s.found.on .SYS_LS_STATUS_PRESENT e = true := beq_iff_eq.mpr hpres
  have hclk : s.found.get .X_LS_CLK e + 10 * ms ≤ s.found.clk := hclk
  refine .runIf (rfl : _ = execLsSettled e s) ⟨hst, hon⟩ fun d hd => ?_
  rw [Dev.onTime_of_le hclk] at hd
  dsimp only at hd
  generalize hb : (if (s.found.set .SYS_LS_STATUS_RESET_OUT e 0).on .SYS_LS_CTRL_AUTO_HP e = true then
    (s.found.set .SYS_LS_STATUS_RESET_OUT e 0).set .SYS_LS_STATUS_LPMODE_OUT e 0 else s.found.set .SYS_LS_STATUS_RESET_OUT e 0) = b at hd
  have hb1 : b.get .SYS_LS_STATUS_RESET_OUT e = 0 ∧ (s.dev.get .SYS_LS_CTRL_AUTO_HP e = 1 → b.get .SYS_LS_STATUS_LPMODE_OUT e = 0) ∧
      b.clk = s.dev.clk := by
    rw [← hb]
    split
    · exact ⟨(Dev.get_set_field _ _ _ _ (by decide)).trans (Dev.get_set_same ..), fun _ => Dev.get_set_same .., rfl⟩
    next hauto =>
      refine ⟨Dev.get_set_same .., fun h => absurd ?_ hauto, rfl⟩
      unfold Dev.on
      rw [Dev.get_set_field _ _ _ _ (by decide)]
      exact beq_iff_eq.mpr h
  obtain ⟨h4, h5, h6⟩ := hb1
  obtain ⟨h1, -, h3⟩ := Dev.lsEnter_shows _ e lsINIT (ev := []) (by decide) hd
  refine ⟨h1, ?_, fun h => ?_, ?_⟩
  · rw [h3 _ _ (by decide), Dev.get_set_field _ _ _ _ (by decide), Dev.get_set_field _ _ _ _ (by decide),
      Dev.get_set_field _ _ _ _ (by decide), h4]
  · rw [h3 _ _ (by decide), Dev.get_set_field _ _ _ _ (by decide), Dev.get_set_field _ _ _ _ (by decide),
      Dev.get_set_field _ _ _ _ (by decide), h5 h]
  · rw [h3 _ _ (by decide), Dev.get_set_field _ _ _ _ (by decide), Dev.get_set_field _ _ _ _ (by decide), Dev.get_set_same, h6]

/-- What a poll of a laser source notes. -/
def Dev.polled (d : Dev) (e m : Nat) : Dev := (d.set .SYS_LS_STATUS_MODSTATE e m).set .X_LS_POLL e d.clk

theorem Dev.polled_get (d : Dev) (e m : Nat) {f : F} (i : Nat) (h : f ∉ [F.SYS_LS_STATUS_MODSTATE, .X_LS_POLL]) :
    (d.polled e m).get f i = d.get f i := by
  rw [List.mem_cons, List.mem_singleton, not_or] at h
  exact (Dev.get_set_field _ _ _ _ h.2).trans (Dev.get_set_field _ _ _ _ h.1)

/-- R561: a poll of INIT that reads READY, in high power. -/
theorem Dev.lsPoll_ready {d : Dev} {e : Nat} (hst : d.ls e = lsINIT) (hlp : d.get .SYS_LS_STATUS_LPMODE_OUT e ≠ 1) :
    d.lsPoll e 3 = if d.get .X_LS_HITS e = 1 then ((d.polled e 3).set .X_LS_HITS e 0).lsEnter e lsREADY [.SYS_LS_EVENTS_READY]
      else (d.polled e 3).set .X_LS_HITS e 1 := by
  have hst' : (d.polled e 3).ls e = lsINIT := (d.polled_get e 3 _ (by decide)).trans hst
  have hlp' : (!(d.polled e 3).on .SYS_LS_STATUS_LPMODE_OUT e) = true := by
    rw [Dev.on, d.polled_get e 3 _ (by decide), beq_eq_false_iff_ne.mpr hlp]
    rfl
  rw [← d.polled_get e 3 e (f := .X_LS_HITS) (by decide)]
  exact (if_pos hst').trans ((if_neg (by decide)).trans (if_pos ⟨rfl, hlp'⟩))

/-- R561: the module-state polls of INIT. -/
theorem lsPoll_reads {e : Fin 8} {s : State} (hst : s.dev.ls e = lsINIT) (hbusy : s.dev.get .SYS_TW_STATUS_BUSY e ≠ 1)
    (hclk : s.dev.get .X_LS_POLL e + 10 * ms ≤ s.dev.clk) :
    (Completes (.lsPoll e 5) s fun d => d.ls e = lsFAULT ∧ d.get .SYS_LS_STATUS_RESET_OUT e = 1) ∧
    (s.dev.get .SYS_LS_STATUS_LPMODE_OUT e ≠ 1 → s.dev.get .X_LS_HITS e = 1 → Completes (.lsPoll e 3) s fun d =>
      d.ls e = lsREADY ∧ d.get .SYS_LS_EVENTS_READY e = 1 ∧ d.get .SYS_LS_STATUS_MODSTATE e = 3) ∧
    (s.dev.get .SYS_LS_STATUS_LPMODE_OUT e ≠ 1 → s.dev.get .X_LS_HITS e = 0 → Completes (.lsPoll e 3) s fun d =>
      d.ls e = lsINIT ∧ d.get .X_LS_HITS e = 1) := by
  have hst : s.found.ls e = lsINIT := hst
  have hfree : (!s.found.on .SYS_TW_STATUS_BUSY e) = true := by
    rw [State.found_on, Dev.on, beq_eq_false_iff_ne.mpr hbusy]
    rfl
  have hdue : s.found.get .X_LS_POLL e + (if s.found.ls e = lsINIT then 10 * ms else 100 * ms) ≤ s.found.clk := by
    rw [if_pos hst]
    exact hclk
  have hpoll : ∀ (m : BitVec 3) {P : Dev → Prop}, (∀ d, d = s.found.lsPoll e m.toNat → P d) → Completes (.lsPoll e m) s P :=
    fun m P hp => .runIf (rfl : _ = execLsPoll e m s) ⟨.inl hst, hfree⟩ fun d hd => hp d (hd.trans (Dev.onTime_of_le hdue))
  refine ⟨hpoll 5 fun d hd => ?_, fun hlp hhits => hpoll 3 fun d hd => ?_, fun hlp hhits => hpoll 3 fun d hd => ?_⟩
  · have hst' : (s.found.polled e 5).ls e = lsINIT := (Dev.polled_get _ _ _ _ (by decide)).trans hst
    replace hd : d = (s.found.polled e 5).lsFail e := hd.trans (if_pos hst')
    obtain ⟨h1, -, h3, -⟩ := Dev.lsFail_shows _ e hd
    exact ⟨h1, h3⟩
  · have hhits : s.found.get .X_LS_HITS e = 1 := hhits
    replace hd := hd.trans (Dev.lsPoll_ready hst hlp)
    rw [if_pos hhits] at hd
    obtain ⟨h1, h2, h3⟩ := Dev.lsEnter_shows _ e lsREADY (ev := [.SYS_LS_EVENTS_READY]) (by decide) hd
    refine ⟨h1, (h2 _ (by decide)).1, (h3 _ _ (by decide)).trans ?_⟩
    rw [Dev.get_set_field _ _ _ _ (by decide)]
    exact (Dev.get_set_field _ _ _ _ (by decide)).trans (Dev.get_set_same ..)
  · have hhits : ¬ s.found.get .X_LS_HITS e = 1 := by
      rw [State.found_get, hhits]
      decide
    replace hd := hd.trans (Dev.lsPoll_ready hst hlp)
    rw [if_neg hhits] at hd
    rw [hd]
    exact ⟨(Dev.get_set_field _ _ _ _ (by decide)).trans ((Dev.polled_get _ _ _ _ (by decide)).trans hst), Dev.get_set_same ..⟩

/-- R561, R562: LS_PRESENT_L rises at a source that is READY. -/
theorem lsRemoved_absent {e : Fin 8} {s : State} (hst : s.dev.ls e = lsREADY) : Completes (.lsRemoved e) s fun d =>
    d.ls e = lsABSENT ∧ d.get .SYS_LS_STATUS_PRESENT e = 0 ∧ d.get .SYS_LS_EVENTS_REMOVED e = 1 ∧
      (s.dev.get .SYS_TW_STATUS_BUSY e = 1 → d.get .SYS_TW_STATUS_BUSY e = 0 ∧ d.get .SYS_TW_STATUS_RESULT e = 5) := by
  refine .runAs (rfl : _ = execLsRemoved e s) fun d hd => ?_
  replace hd : d = s.found.lsRemove e := hd
  unfold Dev.lsRemove at hd
  extract_lets st b1 b2 b3 at hd
  have hst : ¬ (st = lsOFF ∨ st = lsABSENT) := by
    rw [show st = lsREADY from hst]
    decide
  have h2 : b2.ls e = lsABSENT ∧ b2.get .SYS_LS_STATUS_PRESENT e = 0 ∧ b2.get .SYS_LS_EVENTS_REMOVED e = 1 ∧
      b2.get .SYS_TW_STATUS_BUSY e = s.dev.get .SYS_TW_STATUS_BUSY e := by
    obtain ⟨h1, h2, h3⟩ := (b1.lsHold e).lsEnter_shows e lsABSENT (ev := [.SYS_LS_EVENTS_REMOVED]) (by decide) rfl
    obtain ⟨-, -, h4⟩ := b1.lsHold_get e
    have hpres : b1.get .SYS_LS_STATUS_PRESENT e = 0 := Dev.get_set_same ..
    have hbusy : b1.get .SYS_TW_STATUS_BUSY e = s.dev.get .SYS_TW_STATUS_BUSY e := Dev.get_set_field _ _ _ _ (by decide)
    have hb2 : b2 = ((b1.lsHold e).lsEnter e lsABSENT [.SYS_LS_EVENTS_REMOVED]).lsLost e := if_neg hst
    clear_value b1 b2
    rw [hb2]
    generalize (b1.lsHold e).lsEnter e lsABSENT [.SYS_LS_EVENTS_REMOVED] = c at h1 h2 h3
    have hlost := c.lsLost_only e
    exact ⟨(hlost.keeps _ _).trans h1, (hlost.keeps _ _).trans ((h3 _ _ (by decide)).trans ((h4 _ _ (by decide)).trans hpres)),
      (hlost.keeps _ _).trans (h2 _ (by decide)).1,
      (hlost.keeps _ _).trans ((h3 _ _ (by decide)).trans ((h4 _ _ (by decide)).trans hbusy))⟩
  have h3 : ∀ f i, f ∉ zeroFields → f ∉ signalFields → b3.get f i = b2.get f i := (b2.latchZeros_only _ _).2
  obtain ⟨hls, hpres, hrem, hbusy⟩ := h2
  clear_value b2 b3
  have hkeep : ∀ f, f ∉ [F.SYS_TW_STATUS_BUSY, .SYS_TW_STATUS_RESULT] → d.get f e = b3.get f e := fun f hf => by
    rw [List.mem_cons, List.mem_singleton, not_or] at hf
    rw [hd]
    split
    · rw [Dev.get_set_field _ _ _ _ hf.2, Dev.get_set_field _ _ _ _ hf.1]
    · rfl
  refine ⟨?_, ?_, ?_, fun hb => ?_⟩
  · exact (hkeep _ (by decide)).trans ((h3 _ _ (by decide) (by decide)).trans hls)
  · exact (hkeep _ (by decide)).trans ((h3 _ _ (by decide) (by decide)).trans hpres)
  · exact (hkeep _ (by decide)).trans ((h3 _ _ (by decide) (by decide)).trans hrem)
  · have hon : b3.on .SYS_TW_STATUS_BUSY e = true :=
      beq_iff_eq.mpr ((h3 _ _ (by decide) (by decide)).trans (hbusy.trans hb))
    rw [hd, if_pos hon]
    exact ⟨(Dev.get_set_field _ _ _ _ (by decide)).trans (Dev.get_set_same ..), Dev.get_set_same ..⟩

/-! ## Two-wire transfers -/

/-- The bytes of a value that a list of bytes gives are the list. -/
theorem leBytes_ofLE (l : List Byte) : leBytes l.length (ofLE l) = l := by
  induction l with
  | nil => rfl
  | cons b l ih =>
    have hof : ofLE (b :: l) = b.toNat + 256 * ofLE l := rfl
    have hdiv : (b.toNat + 256 * ofLE l) / 256 = ofLE l := by
      have := b.isLt
      omega
    unfold leBytes
    rw [List.length_cons, List.range_succ_eq_map, List.map_cons, List.map_map, hof, List.cons.injEq]
    refine ⟨?_, Eq.trans (List.map_congr_left fun i _ => ?_) ih⟩
    · apply BitVec.eq_of_toNat_eq
      rw [BitVec.toNat_ofNat]
      have := b.isLt
      omega
    · show BitVec.ofNat 8 ((b.toNat + 256 * ofLE l) / 256 ^ (i + 1)) = _
      rw [pow_succ', ← Nat.div_div_eq_div_mul, hdiv]

/-- A list cut into pieces of `k` and joined again. -/
theorem flatten_pieces {α : Type} (l : List α) (k n : Nat) :
    ((List.range n).map fun i => (l.drop (k * i)).take k).flatten = l.take (k * n) := by
  induction n with
  | zero => simp
  | succ n ih => rw [List.range_succ, List.map_append, List.flatten_append, ih, Nat.mul_succ, List.take_add]; simp

/-- What a loop leaves that writes a field at one index after another. -/
theorem Dev.each_set_get (d : Dev) (f : F) (b : Nat) (v : Nat → Nat) {n i : Nat} (hi : i < n) :
    (Dev.each n (fun i d => d.set f (b + i) (v i)) d).get f (b + i) = v i := by
  induction n with
  | zero => omega
  | succ n ih =>
    rw [Dev.each_succ]
    rcases Nat.lt_succ_iff_lt_or_eq.mp hi with hlt | rfl
    · rw [Dev.get_set_inst _ _ _ (by omega), ih hlt]
    · exact Dev.get_set_same ..

theorem Dev.twBytes_length (d : Dev) (e : Nat) {n : Nat} (h : n ≤ 128) : (d.twBytes e n).length = n := by
  unfold Dev.twBytes
  rw [List.length_take, List.length_flatten, List.map_map]
  have hsum : ((List.range 32).map (List.length ∘ fun i => leBytes 4 (d.get .SYS_TW_BUF_BYTES (32 * e + i)))).sum = 128 := by
    have hlen : ∀ v, (leBytes 4 v).length = 4 := fun v => rfl
    simp only [Function.comp_def, hlen]
    decide
  omega

theorem Dev.twBytes_congr {d b : Dev} {e : Nat} (n : Nat) (h : ∀ i, b.get .SYS_TW_BUF_BYTES i = d.get .SYS_TW_BUF_BYTES i) :
    b.twBytes e n = d.twBytes e n := by
  unfold Dev.twBytes
  simp only [h]

/-- R566: bytes that are put into SYS_TW_BUF are read back from it. -/
theorem Dev.putTw_bytes (d : Dev) (e : Nat) {bs : List Byte} (h : bs.length ≤ 128) : (d.putTw e bs).twBytes e bs.length = bs := by
  unfold Dev.putTw
  extract_lets all
  have hall : all.length = 128 := by
    show (bs.take 128 ++ (d.twBytes e 128).drop bs.length).length = 128
    rw [List.length_append, List.length_drop, List.length_take, d.twBytes_length e (le_refl _)]
    omega
  have htake : all.take bs.length = bs := by
    show (bs.take 128 ++ (d.twBytes e 128).drop bs.length).take bs.length = bs
    rw [List.take_of_length_le h, List.take_left]
  clear_value all
  unfold Dev.twBytes
  have hword : ∀ i ∈ List.range 32, leBytes 4 ((Dev.each 32 (fun i d => d.set .SYS_TW_BUF_BYTES (32 * e + i)
      (ofLE ((all.drop (4 * i)).take 4))) d).get .SYS_TW_BUF_BYTES (32 * e + i)) = (all.drop (4 * i)).take 4 := fun i hi => by
    have hi := List.mem_range.mp hi
    have hlen : ((all.drop (4 * i)).take 4).length = 4 := by
      rw [List.length_take, List.length_drop]
      omega
    rw [Dev.each_set_get d .SYS_TW_BUF_BYTES (32 * e) (fun i => ofLE ((all.drop (4 * i)).take 4)) hi]
    have := leBytes_ofLE ((all.drop (4 * i)).take 4)
    rwa [hlen] at this
  rw [List.map_congr_left hword, flatten_pieces, List.take_of_length_le (l := all) (by omega), htake]

/-- R566: what the end of a transfer shows. -/
theorem Dev.twEnd_shows (d : Dev) (e : Fin 8) (r : Nat) {b : Dev} (hb : b = d.twEnd e r) : b.get .SYS_TW_STATUS_BUSY e = 0 ∧
    b.get .SYS_TW_STATUS_RESULT e = r ∧
    b.get .SYS_TW_STATUS_TRANSFERS e = satAdd F.SYS_TW_STATUS_TRANSFERS.width (d.get .SYS_TW_STATUS_TRANSFERS e) 1 ∧
    Dev.Raised (576 + 8 * e.val + 4) d b ∧
    ∀ i, b.get .SYS_TW_BUF_BYTES i = d.get .SYS_TW_BUF_BYTES i := by
  unfold Dev.twEnd at hb
  extract_lets c at hb
  have hraise : Dev.Raised (576 + 8 * e.val + 4) d b := by
    rw [hb]
    refine Dev.Raised.after (d := d) rfl ?_ (by omega)
    exact (Dev.get_set_field _ _ _ _ (by decide)).trans
      ((Dev.get_set_field _ _ _ _ (by decide)).trans (Dev.get_set_field _ _ _ _ (by decide)))
  have hkeep : ∀ f i, f ∉ signalFields → b.get f i = (c.addSat .SYS_TW_STATUS_TRANSFERS e 1).get f i := fun f i hf => by
    rw [hb]
    exact raise_get _ _ _ _ hf
  refine ⟨?_, ?_, ?_, hraise, fun i => ?_⟩
  · rw [hkeep _ _ (by decide)]
    exact (Dev.get_set_field _ _ _ _ (by decide)).trans ((Dev.get_set_field _ _ _ _ (by decide)).trans (Dev.get_set_same ..))
  · rw [hkeep _ _ (by decide)]
    exact (Dev.get_set_field _ _ _ _ (by decide)).trans (Dev.get_set_same ..)
  · rw [hkeep _ _ (by decide)]
    refine (Dev.get_set_same ..).trans ?_
    rw [Dev.get_set_field _ _ _ _ (by decide), Dev.get_set_field _ _ _ _ (by decide)]
  · rw [hkeep _ _ (by decide)]
    exact (Dev.get_set_field _ _ _ _ (by decide)).trans
      ((Dev.get_set_field _ _ _ _ (by decide)).trans (Dev.get_set_field _ _ _ _ (by decide)))

/-- R565, R566: a driver transfer begins. -/
theorem twTransfer_begins {e : Fin 8} {s : State} (addr : Byte) (len : BitVec 7) (w : Bool) (page bank : Byte)
    (hbusy : s.dev.get .SYS_TW_STATUS_BUSY e ≠ 1) (hoff : s.dev.ls e ≠ lsOFF) (habs : s.dev.ls e ≠ lsABSENT) :
    Completes (.twTransferCmd e addr len w page bank) s fun d => d.get .SYS_TW_STATUS_BUSY e = 1 ∧
      d.get .X_TW_ADDR e = addr.toNat ∧ d.get .X_TW_CLK e = s.dev.clk ∧ d.get .X_TW_WRITE e = b2n w ∧
      (addr.toNat < 128 → d.out = if w then [.twoWire e addr.toNat (s.dev.twBytes e (len.toNat + 1))] else []) := by
  refine .runAs (rfl : _ = execTwTransferCmd e addr len w page bank s) fun d hd => ?_
  replace hd : d = s.found.twStart e addr.toNat len.toNat w page.toNat bank.toNat := hd
  unfold Dev.twStart at hd
  have hfree : ¬ s.found.on .SYS_TW_STATUS_BUSY e = true := fun h => hbusy (beq_iff_eq.mp h)
  rw [if_neg hfree, if_neg (show ¬ (s.found.ls e = lsOFF ∨ s.found.ls e = lsABSENT) from not_or.mpr ⟨hoff, habs⟩)] at hd
  extract_lets b1 b2 b3 at hd
  have h2 : b2.get .SYS_TW_STATUS_BUSY e = 1 ∧ b2.get .X_TW_ADDR e = addr.toNat ∧ b2.get .X_TW_CLK e = s.dev.clk ∧
      b2.get .X_TW_WRITE e = b2n w ∧ b2.out = [] ∧ ∀ i, b2.get .SYS_TW_BUF_BYTES i = s.dev.get .SYS_TW_BUF_BYTES i := by
    refine ⟨?_, ?_, Dev.get_set_same .., ?_, rfl, fun i => ?_⟩ <;> simp [b2, b1]
  obtain ⟨h4, h5, h6, h7, h8, h9⟩ := h2
  clear_value b2
  have h3 : (∀ f i, b3.get f i = b2.get f i) ∧ (addr.toNat < 128 → b3.out = []) := by
    unfold b3
    split
    next hhigh =>
      refine ⟨fun f i => ?_, fun h => absurd hhigh (by omega)⟩
      unfold Dev.twSelect
      dsimp only
      split <;> split <;> rfl
    next => exact ⟨fun _ _ => rfl, fun _ => h8⟩
  obtain ⟨h10, h11⟩ := h3
  clear_value b3
  have hget : ∀ f i, d.get f i = b2.get f i := fun f i => by
    rw [hd, ← h10 f i]
    split <;> rfl
  refine ⟨(hget _ _).trans h4, (hget _ _).trans h5, (hget _ _).trans h6, (hget _ _).trans h7, fun h => ?_⟩
  have hbytes : b3.twBytes e (len.toNat + 1) = s.dev.twBytes e (len.toNat + 1) := Dev.twBytes_congr _ fun i => (h10 _ i).trans (h9 i)
  rw [hd]
  cases w
  · exact h11 h
  · show b3.out ++ [.twoWire e addr.toNat (b3.twBytes e (len.toNat + 1))] = [.twoWire e addr.toNat (s.dev.twBytes e (len.toNat + 1))]
    rw [h11 h, hbytes, List.nil_append]

/-- R565, R566: a transfer that ends well. -/
theorem twTransfer_done {e : Fin 8} {s : State} (data : List Byte) (hbusy : s.dev.get .SYS_TW_STATUS_BUSY e = 1)
    (hclk : s.dev.get .X_TW_CLK e + s.dev.twTime e ≤ s.dev.clk) : Completes (.twTransferDone e .done data) s fun d =>
      (d.get .SYS_TW_STATUS_BUSY e = 0 ∧ d.get .SYS_TW_STATUS_RESULT e = 1 ∧ d.get .SYS_TW_STATUS_TRANSFERS e =
        satAdd F.SYS_TW_STATUS_TRANSFERS.width (s.dev.get .SYS_TW_STATUS_TRANSFERS e) 1 ∧ Dev.Raised (576 + 8 * e.val + 4) s.dev d) ∧
      (s.dev.get .X_TW_WRITE e ≠ 1 → data.length ≤ s.dev.get .X_TW_LEN e + 1 → data.length ≤ 128 → d.twBytes e data.length = data) := by
  have hon : s.found.on .SYS_TW_STATUS_BUSY e = true := beq_iff_eq.mpr hbusy
  have hclk : s.found.get .X_TW_CLK e + s.found.twTime e ≤ s.found.clk := hclk
  refine .runIf (rfl : _ = execTwTransferDone e .done data s) hon fun d hd => ?_
  replace hd := hd.trans (Dev.onTime_of_le hclk)
  dsimp only at hd
  generalize hb : (if 128 ≤ s.found.get .X_TW_ADDR e then (s.found.set .X_TW_PAGE e (s.found.get .X_TW_NPAGE e + 1)).set .X_TW_BANK e
    (s.found.get .X_TW_NBANK e + 1) else s.found) = b at hd
  have hbsel : Dev.Only (fun f _ => f ∈ [F.X_TW_PAGE, .X_TW_BANK]) s.found b := by
    rw [← hb]
    split
    · exact ((Dev.Only.refl _ s.found).set (f := .X_TW_PAGE) (i := e) _ (by decide)).set (f := .X_TW_BANK) (i := e) _ (by decide)
    · exact .refl _ _
  generalize hc : (if b.on .X_TW_WRITE e = true then b else b.putTw e (data.take (b.get .X_TW_LEN e + 1))) = c at hd
  have hcbuf : Dev.Only (fun f _ => f ∈ [F.X_TW_PAGE, .X_TW_BANK, .SYS_TW_BUF_BYTES]) s.found c := by
    refine (hbsel.mono fun f _ hf => by revert hf f; decide).trans ?_
    rw [← hc]
    split
    · exact .refl _ _
    · exact (Dev.Only.refl _ b).each fun i _ x => (Dev.Only.refl _ x).set (f := .SYS_TW_BUF_BYTES) (i := 32 * e + i) _ (by decide)
  obtain ⟨h1, h2, h3, ⟨h4, h5⟩, h6⟩ := c.twEnd_shows e 1 hd
  have hcpend : c.pending = s.dev.pending := by
    rw [hcbuf.1]
    rfl
  refine ⟨⟨h1, h2, ?_, ?_, ?_⟩, fun hwrite hlen hmax => ?_⟩
  · rw [h3, hcbuf.keeps _ _]
    rfl
  · rw [h4, hcpend]
  · rw [h5, hcbuf.keeps _ _]
    rfl
  · have hread : ¬ b.on .X_TW_WRITE e = true := fun h => hwrite ((hbsel.keeps _ _).symm.trans (beq_iff_eq.mp h))
    have hall : data.take (b.get .X_TW_LEN e + 1) = data := by
      rw [hbsel.keeps _ _]
      exact List.take_of_length_le hlen
    rw [if_neg hread, hall] at hc
    rw [Dev.twBytes_congr _ h6, ← hc]
    exact b.putTw_bytes e hmax

/-- R565: a transfer that ends without its data. -/
theorem twEnd_ends {c : Instr} {e : Fin 8} {s : State} (r : Nat)
    (hp : ∀ {P : Dev → Prop}, (∀ d, d = s.found.twEnd e r → P d) → Completes c s P) : Completes c s fun d =>
      d.get .SYS_TW_STATUS_BUSY e = 0 ∧ d.get .SYS_TW_STATUS_RESULT e = r ∧ d.get .SYS_TW_STATUS_TRANSFERS e =
        satAdd F.SYS_TW_STATUS_TRANSFERS.width (s.dev.get .SYS_TW_STATUS_TRANSFERS e) 1 ∧ Dev.Raised (576 + 8 * e.val + 4) s.dev d :=
  hp fun d hd => by
    obtain ⟨h1, h2, h3, h4, -⟩ := s.found.twEnd_shows e r hd
    exact ⟨h1, h2, h3, h4⟩

/-- Settles O34: the states of a laser source and its two-wire transfers. -/
theorem laserStates : Obligations.LaserStates := by
  refine ⟨fun e s => ⟨lsInserted_settles, lsSettled_inits, lsPoll_reads, fun hst hclk => ?_, fun hst hpres => ?_, lsRemoved_absent, ?_, ?_⟩,
    fun e s => ⟨fun addr len w page bank => ⟨twTransfer_begins addr len w page bank, fun hbusy => ?_, fun hbusy hoff => ?_⟩, fun hbusy =>
      ⟨fun data => ⟨?_, ?_, fun hclk => twTransfer_done data hbusy hclk⟩, fun hclk => ?_⟩⟩⟩
  · have hst : s.found.ls e = lsINIT := hst
    have hclk : s.found.get .X_LS_CLK e + max 1 (s.found.get .SYS_LS_CTRL_TIMEOUT e) * 100 * ms ≤ s.found.clk := hclk
    exact .runIf (rfl : _ = execLsInitTimeout e s) hst fun d hd => s.found.lsFail_shows e (hd.trans (Dev.onTime_of_le hclk))
  · have hon : s.found.on .SYS_LS_STATUS_PRESENT e = true := beq_iff_eq.mpr hpres
    refine .runIf (rfl : _ = execLsRetry e s) ⟨hst, hon⟩ fun d hd => ?_
    obtain ⟨h1, -, h3⟩ := Dev.lsEnter_shows _ e lsSETTLING (ev := []) (by decide) hd
    exact ⟨h1, (h3 _ _ (by decide)).trans (Dev.get_set_same ..)⟩
  · refine .runAs (rfl : _ = execLsInt e true s) fun d hd => ?_
    replace hd : d = ((s.found.set .SYS_LS_STATUS_INT e 1).set .SYS_LS_EVENTS_INT e 1).syncLaser e := hd
    have hone : ((s.found.set .SYS_LS_STATUS_INT e 1).set .SYS_LS_EVENTS_INT e 1).get .SYS_LS_EVENTS_INT e = 1 := Dev.get_set_same ..
    rw [hd]
    exact ⟨(Dev.syncLaser_get _ _ _ (by decide)).trans ((Dev.get_set_field _ _ _ _ (by decide)).trans (Dev.get_set_same ..)),
      (Dev.syncLaser_get _ _ _ (by decide)).trans hone, Dev.syncLaser_line (by decide) hone⟩
  · refine .runAs (rfl : _ = execLsInt e false s) fun d hd => ?_
    replace hd : d = s.found.set .SYS_LS_STATUS_INT e 0 := hd
    rw [hd]
    exact ⟨Dev.get_set_same .., ((Dev.Only.refl _ s.found).set (f := .SYS_LS_STATUS_INT) (i := e) 0 ⟨rfl, by decide⟩).ofFound⟩
  · have hon : s.found.on .SYS_TW_STATUS_BUSY e = true := beq_iff_eq.mpr hbusy
    refine .runIf (rfl : _ = execTwTransferCmd e addr len w page bank s) hon fun d hd => ?_
    rw [hd]
    exact ⟨Dev.get_set_same .., ((Dev.Only.refl _ s.found).set (f := .SYS_TW_STATUS_RESULT) (i := e) 6 ⟨rfl, by decide⟩).ofFound⟩
  · have hon : ¬ s.found.on .SYS_TW_STATUS_BUSY e = true := fun h => hbusy (beq_iff_eq.mp h)
    refine .runElse (rfl : _ = execTwTransferCmd e addr len w page bank s) hon fun d hd => ?_
    replace hd : d = s.found.set .SYS_TW_STATUS_RESULT e 7 := hd.trans (if_pos hoff)
    rw [hd]
    exact ⟨Dev.get_set_same .., ((Dev.Only.refl _ s.found).set (f := .SYS_TW_STATUS_RESULT) (i := e) 7 ⟨rfl, by decide⟩).ofFound⟩
  all_goals have hon : s.found.on .SYS_TW_STATUS_BUSY e = true := beq_iff_eq.mpr hbusy
  · exact twEnd_ends 2 fun h => .runIf (rfl : _ = execTwTransferDone e .nack data s) hon h
  · exact twEnd_ends 4 fun h => .runIf (rfl : _ = execTwTransferDone e .stuck data s) hon h
  · have hclk : s.found.get .X_TW_CLK e + 10 * ms ≤ s.found.clk := hclk
    exact twEnd_ends 3 fun h => .runIf (rfl : _ = execTwStretchTimeout e s) hon fun d hd => h d (hd.trans (Dev.onTime_of_le hclk))

end Sys2Proof.Machine
end

section
/-! PROOFS. Resets, boot, the stop, snapshots and thermal shutdown (R48, R541 to R543, R551 to R560, R568). -/

-- One theorem at a time: the whole text is compiled under a memory limit, which the stacks of waiting threads would fill.
set_option Elab.async false

namespace Sys2Proof.Machine

open Sys2Proof

/-! ## What the auxiliary domain holds -/

/-- What runs on in the auxiliary domain. -/
def heldFields : List F := [.TIME_NOW_NOW, .THM_SD_STATUS_STATE, .THM_SD_STATUS_TOTAL, .SYS_RESET_CAUSE_CAUSE,
  .SYS_RESET_CAUSE_WARM_COUNT, .X_SYS_AUX, .X_SYS_MAIN, .X_SYS_RST]

/-- From `d` to `e` the auxiliary domain, the clock, the flash, the plan and the GDDR7 contents stay. -/
structure Dev.Holds (d e : Dev) : Prop where
  get : ∀ f ∈ heldFields, ∀ i, e.get f i = d.get f i
  clk : e.clk = d.clk
  flash : e.flash = d.flash
  plan : e.plan = d.plan
  gddr : e.gddr = d.gddr

section
variable {d e : Dev}

theorem Dev.Holds.refl (d : Dev) : Dev.Holds d d := ⟨fun _ _ _ => rfl, rfl, rfl, rfl, rfl⟩

theorem Dev.Holds.trans {a b c : Dev} (h1 : Dev.Holds a b) (h2 : Dev.Holds b c) : Dev.Holds a c :=
  ⟨fun f hf i => (h2.get f hf i).trans (h1.get f hf i), h2.clk.trans h1.clk, h2.flash.trans h1.flash, h2.plan.trans h1.plan,
    h2.gddr.trans h1.gddr⟩

theorem Dev.Holds.ofOnlyRaising {p : F → Nat → Prop} (h : Dev.OnlyRaising p d e) (hp : ∀ f ∈ heldFields, ∀ i, ¬ p f i) :
    Dev.Holds d e := by
  have hsig : ∀ f ∈ heldFields, f ∉ signalFields := by decide
  refine ⟨fun f hf i => h.2 f i (hp f hf i) (hsig f hf), ?_, ?_, ?_, ?_⟩ <;> rw [h.1]

theorem Dev.Holds.ofOnly {L : List F} (h : Dev.Only (fun f _ => f ∈ L) d e) (hL : ∀ f ∈ heldFields, f ∉ L := by decide) : Dev.Holds d e :=
  .ofOnlyRaising (Dev.Only.raising h) fun f hf _ => hL f hf

theorem Dev.Holds.each {n : Nat} {g : Nat → Dev → Dev} (hg : ∀ i e, Dev.Holds e (g i e)) (d : Dev) : Dev.Holds d (Dev.each n g d) :=
  List.foldlRecOn (List.range n) _ (motive := Dev.Holds d) (.refl d) fun e he i _ => he.trans (hg i e)

end

theorem Dev.lsOff_holds (d : Dev) (e : Nat) : Dev.Holds d (d.lsOff e) := by
  have hhold : Dev.Holds d (d.lsHold e) :=
    .ofOnly (L := [.SYS_LS_STATUS_RESET_OUT, .SYS_LS_STATUS_LPMODE_OUT]) ((Dev.Only.refl _ d).setAll 1 fun _ h => h)
  refine hhold.trans (Dev.Holds.trans ?_ (.ofOnly ((Dev.lsEnter _ e lsOFF []).lsLost_only e)))
  unfold Dev.lsEnter Dev.syncLaser
  extract_lets b
  have hb : Dev.Only (fun f _ => f ∈ [F.SYS_LS_STATUS_STATE, .SYS_LS_EVENTS_STATE_CHANGE]) (d.lsHold e) b := by
    unfold b
    split
    · exact .refl _ _
    · exact ((Dev.Only.refl _ _).write .SYS_LS_STATUS_STATE e lsOFF).write .SYS_LS_EVENTS_STATE_CHANGE e 1
  exact (Dev.Holds.ofOnly hb).trans (.ofOnlyRaising (setLine_only (fun _ _ => False) _ _ _) fun _ _ _ h => h)

theorem Dev.planCode_only (d : Dev) (code off : Nat) :
    Dev.Only (fun f _ => f ∈ [F.PLAN_STATUS_CODE, .PLAN_ERR_OFFSET_OFFSET]) d (d.planCode code off) :=
  ((Dev.Only.refl _ d).write .PLAN_STATUS_CODE 0 code).write .PLAN_ERR_OFFSET_OFFSET 0 off

theorem Dev.setAll_holds (d : Dev) (fs : List F) (i v : Nat) (h : ∀ f ∈ heldFields, f ∉ fs := by decide) : Dev.Holds d (d.setAll fs i v) :=
  .ofOnly (L := fs) ((Dev.Only.refl _ d).setAll v fun _ hf => hf) h

theorem Dev.planAbandon_holds (d : Dev) : Dev.Holds d d.planAbandon := by
  unfold Dev.planAbandon
  extract_lets act busy b
  have hb : Dev.Holds d b := by
    unfold b
    split
    · exact (Dev.Holds.ofOnly ((Dev.Only.refl (fun f _ => f ∈ [F.X_SLOT_LOST]) d).write .X_SLOT_LOST (d.get .X_PLAN_SLOT 0) (d.free + 1))).trans
        ⟨fun _ _ _ => rfl, rfl, rfl, rfl, rfl⟩
    · exact .refl d
  refine hb.trans (Dev.Holds.trans ?_ (Dev.setAll_holds _ [.X_PLAN_ACT, .X_BOOT_SLOT] 0 0))
  split
  · exact .ofOnly (b.planCode_only 0xFF 0)
  · exact .refl b

theorem Dev.nvmInterrupt_holds (d : Dev) : Dev.Holds d d.nvmInterrupt := by
  unfold Dev.nvmInterrupt
  split
  · extract_lets k b
    have hb : Dev.Holds d b := by
      unfold b
      split <;> exact ⟨fun _ _ _ => rfl, rfl, rfl, rfl, rfl⟩
    exact hb.trans ((Dev.setAll_holds b [.CAL_NVM_STATUS_BUSY, .X_NVM_PHASE, .X_NVM_AUTO] 0 0).trans
      ⟨fun _ _ _ => rfl, rfl, rfl, rfl, rfl⟩)
  · exact Dev.setAll_holds d [.CAL_NVM_STATUS_BUSY, .X_NVM_PHASE, .X_NVM_AUTO] 0 0

theorem Dev.snapAbandon_holds (d : Dev) : Dev.Holds d d.snapAbandon := by
  unfold Dev.snapAbandon
  split
  · extract_lets k b
    have hb : Dev.Holds d b := ⟨fun _ _ _ => rfl, rfl, rfl, rfl, rfl⟩
    exact hb.trans (.ofOnly (((Dev.Only.refl (fun f _ => f ∈ [F.SYS_SNAP_STATUS_RESULT, .SYS_SNAP_STATUS_VALID]) b).write
      .SYS_SNAP_STATUS_RESULT 0 4).write .SYS_SNAP_STATUS_VALID 0 _))
  · exact .refl d

theorem Dev.saveAdapt_only (d : Dev) (n : Nat) : Dev.Only (fun f _ => f ∈ adaptFields) d (d.saveAdapt n) := by
  unfold Dev.saveAdapt
  extract_lets b1 b2 b3
  have h1 : Dev.Only (fun f _ => f ∈ adaptFields) d b1 :=
    (Dev.Only.refl _ d).each fun i _ e => (Dev.Only.refl _ e).write .X_LRX_SAVED_TAP (48 * n + i) _
  have h2 : Dev.Only (fun f _ => f ∈ adaptFields) d b2 :=
    h1.each fun j _ e => (Dev.Only.refl _ e).write .X_LRX_SAVED_NLC (64 * n + j) _
  have h3 : Dev.Only (fun f _ => f ∈ adaptFields) d b3 :=
    h2.each fun j _ e => (Dev.Only.refl _ e).write .X_LRX_SAVED_LEVEL (4 * n + j) _
  exact (h3.write .X_LRX_SAVED n 1).write .X_LRX_SAVED_MODE n _

/-! ## The loss of power of the switched domains -/

theorem Store.get_filter_keeps {s : Store} {k : Key} {p : Key × Nat → Bool} (h : ∀ v, p (k, v) = true) :
    Store.get (s.filter p) k = s.get k := by
  induction s with
  | nil => rfl
  | cons a s ih =>
    obtain ⟨k', v⟩ := a
    by_cases hk : k = k'
    · subst hk
      rw [List.filter_cons_of_pos (h v)]
      simp [Store.get]
    · cases hp : p (k', v)
      · rw [List.filter_cons_of_neg (by rw [hp]; exact Bool.false_ne_true), ih]
        simp [Store.get, hk]
      · rw [List.filter_cons_of_pos hp]
        simp [Store.get, hk, ih]

theorem Store.get_filter_drops {s : Store} {k : Key} {p : Key × Nat → Bool} (h : ∀ v, p (k, v) = false) :
    Store.get (s.filter p) k = k.f.reset k.i := by
  induction s with
  | nil => rfl
  | cons a s ih =>
    obtain ⟨k', v⟩ := a
    by_cases hk : k = k'
    · subst hk
      rw [List.filter_cons_of_neg (by rw [h v]; exact Bool.false_ne_true), ih]
    · cases hp : p (k', v)
      · rw [List.filter_cons_of_neg (by rw [hp]; exact Bool.false_ne_true), ih]
      · rw [List.filter_cons_of_pos hp]
        simp [Store.get, hk, ih]

/-- What the hub core shows after the loss of power, beside what survives. -/
def offFields : List F := [.MEM_STATUS_STATE, .MEM_CFG_DENSITY, .MEM_CFG_CAPACITY, .MEM_C_STATUS_SELF_REFRESH, .MEM_C_STATUS_TRAINED,
  .PWR_D_STATUS_STATE, .PH_SRC_LINE, .X_SYS_COLD, .PLAN_STATUS_CODE, .PLAN_ERR_OFFSET_OFFSET]

theorem Dev.memHold_only (d : Dev) (state : Nat) : Dev.Only (fun f _ => f ∈ offFields) d (d.memHold state) := by
  unfold Dev.memHold
  split
  · exact ((Dev.Only.refl _ d).write .MEM_STATUS_STATE 0 meREFRESH).setEach 1 fun _ _ => by decide
  · split
    · exact (Dev.Only.refl _ d).write .MEM_STATUS_STATE 0 meFAILED
    · have hin : ∀ f ∈ [F.MEM_STATUS_STATE, .MEM_CFG_DENSITY, .MEM_CFG_CAPACITY], f ∈ offFields := by decide
      exact ((Dev.Only.refl _ d).setAll 0 hin).setEach 0 fun _ _ => show F.MEM_C_STATUS_TRAINED ∈ offFields by decide

theorem Dev.settleDomains_only (d : Dev) : Dev.Only (fun f _ => f ∈ offFields) d d.settleDomains := by
  refine (Dev.Only.refl _ d).each fun k _ e => ?_
  split
  · exact (Dev.Only.refl _ e).write .PWR_D_STATUS_STATE k pwON
  · exact .refl _ e

/-- What a loss of power of the switched domains leaves: the auxiliary domain, nothing that waits, and the hub core off. -/
structure Dev.PoweredOff (d e : Dev) (refresh : Bool) : Prop where
  get : ∀ f ∈ heldFields, ∀ i, e.get f i = d.get f i
  clk : e.clk = d.clk
  plan : e.plan = d.plan
  gddr : refresh = true → e.gddr = d.gddr
  posts : e.posts = []
  service : e.service = []
  pending : e.pending = []
  off : e.get .X_SYS_OFF 0 = 1

theorem Dev.PoweredOff.ofOnly {a b c : Dev} {refresh : Bool} (h : Dev.PoweredOff a b refresh)
    (ho : Dev.Only (fun f _ => f ∈ offFields) b c) : Dev.PoweredOff a c refresh := by
  have hheld : ∀ f ∈ heldFields, f ∉ offFields := by decide
  refine ⟨fun f hf i => (ho.keeps f i (hheld f hf)).trans (h.get f hf i), ?_, ?_, fun hr => ?_, ?_, ?_, ?_, ?_⟩
  · rw [ho.1]
    exact h.clk
  · rw [ho.1]
    exact h.plan
  · rw [ho.1]
    exact h.gddr hr
  · rw [ho.1]
    exact h.posts
  · rw [ho.1]
    exact h.service
  · rw [ho.1]
    exact h.pending
  · exact (ho.keeps _ _).trans h.off

/-- R541, R552: every switched domain loses power. -/
theorem Dev.powerOff_poweredOff (d : Dev) (refresh : Bool) {x : Dev} (hx : x = d.powerOff refresh) : Dev.PoweredOff d x refresh := by
  unfold Dev.powerOff at hx
  extract_lets busy cold b1 b2 b3 r0 e1 e2 e3 e4 at hx
  have h1 : Dev.Holds d b1 := by
    have hstopped : Dev.Holds d d.planAbandon.nvmInterrupt.snapAbandon :=
      (d.planAbandon_holds.trans d.planAbandon.nvmInterrupt_holds).trans d.planAbandon.nvmInterrupt.snapAbandon_holds
    unfold b1
    generalize d.planAbandon.nvmInterrupt.snapAbandon = c at hstopped
    exact hstopped.trans (.each (fun e c => c.lsOff_holds e) c)
  clear_value b1
  have h2 : Dev.Holds d b2 := h1.trans (.each (fun n c => by
    split
    · exact .ofOnly (c.saveAdapt_only n)
    · exact .refl c) b1)
  clear_value b2
  have h3 : (∀ f ∈ heldFields, ∀ i, b3.get f i = d.get f i) ∧ b3.clk = d.clk ∧ b3.plan = d.plan ∧ (refresh = true → b3.gddr = d.gddr) := by
    unfold b3
    split
    · exact ⟨h2.get, h2.clk, h2.plan, fun _ => h2.gddr⟩
    next h => exact ⟨h2.get, h2.clk, h2.plan, fun hr => absurd hr h⟩
  clear_value b3
  obtain ⟨hget, hclk, hplan, hgddr⟩ := h3
  have hsurvives : ∀ f ∈ heldFields, f.survives = true := by decide
  have he1 : Dev.PoweredOff d e1 refresh := by
    refine ⟨fun f hf i => ?_, hclk, hplan, hgddr, rfl, rfl, rfl, ?_⟩
    · rw [← hget f hf i]
      exact Store.get_filter_keeps fun _ => hsurvives f hf
    · exact Store.get_filter_drops fun _ => show F.survives .X_SYS_OFF = false by decide
  clear_value e1
  have he2 : Dev.PoweredOff d e2 refresh := (he1.ofOnly (e1.memHold_only _)).ofOnly (Dev.settleDomains_only _)
  clear_value e2
  have he3 : Dev.PoweredOff d e3 refresh :=
    he2.ofOnly ((Dev.Only.refl _ e2).each fun i _ c => (Dev.Only.refl _ c).write .PH_SRC_LINE (576 + 8 * i + 3) _)
  clear_value e3
  have he4 : Dev.PoweredOff d e4 refresh := he3.ofOnly ((Dev.Only.refl _ e3).write .X_SYS_COLD 0 _)
  rw [hx]
  split
  · exact he4.ofOnly ((e4.planCode_only _ _).mono fun f _ hf => by revert hf f; decide)
  · exact he4

/-! ## Warm resets and the return of power -/

/-- What a warm reset leaves. -/
structure Dev.WarmReset (cause : Nat) (d e : Dev) : Prop where
  cause : e.get .SYS_RESET_CAUSE_CAUSE 0 = cause
  now : e.now = d.now
  clk : e.clk = d.clk
  count : e.get .SYS_RESET_CAUSE_WARM_COUNT 0 = satAdd F.SYS_RESET_CAUSE_WARM_COUNT.width (d.get .SYS_RESET_CAUSE_WARM_COUNT 0) 1
  gddr : e.gddr = d.gddr
  plan : e.plan = d.plan
  posts : e.posts = []
  service : e.service = []

theorem Dev.WarmReset.ofSet {cause v : Nat} {f : F} {d e : Dev} (h : Dev.WarmReset cause (d.set f 0 v) e)
    (hf : f ∉ [F.TIME_NOW_NOW, .SYS_RESET_CAUSE_WARM_COUNT] := by decide) : Dev.WarmReset cause d e := by
  rw [List.mem_cons, List.mem_singleton, not_or] at hf
  refine ⟨h.cause, h.now.trans (Dev.get_set_field _ _ _ _ (Ne.symm hf.1)), h.clk, ?_, h.gddr, h.plan, h.posts, h.service⟩
  rw [h.count, Dev.get_set_field _ _ _ _ (Ne.symm hf.2)]

/-- R551, R552: a warm reset of a hub core that is on. -/
theorem Dev.warmBegin_resets {d : Dev} (cause : Nat) (hoff : d.get .X_SYS_OFF 0 ≠ 1) {e : Dev} (he : e = d.warmBegin cause) :
    Dev.WarmReset cause d e ∧ e.get .X_SYS_OFF 0 = 1 ∧ e.pending = [] ∧
      ∀ f ∈ [F.THM_SD_STATUS_STATE, .X_SYS_AUX, .X_SYS_MAIN, .X_SYS_RST], e.get f 0 = d.get f 0 := by
  have hoff : ¬ d.on .X_SYS_OFF 0 = true := fun h => hoff (beq_iff_eq.mp h)
  replace he : e = ((d.powerOff true).set .SYS_RESET_CAUSE_CAUSE 0 cause).addSat .SYS_RESET_CAUSE_WARM_COUNT 0 1 := by
    rw [he]
    unfold Dev.warmBegin
    rw [if_neg hoff]
  have h := d.powerOff_poweredOff true rfl
  generalize d.powerOff true = b at he h
  have honly : Dev.Only (fun f _ => f ∈ [F.SYS_RESET_CAUSE_CAUSE, .SYS_RESET_CAUSE_WARM_COUNT]) b e := by
    rw [he]
    exact ((Dev.Only.refl _ b).write .SYS_RESET_CAUSE_CAUSE 0 cause).write .SYS_RESET_CAUSE_WARM_COUNT 0 _
  have hin : ∀ f ∈ [F.THM_SD_STATUS_STATE, .X_SYS_AUX, .X_SYS_MAIN, .X_SYS_RST], f ∈ heldFields ∧
    f ∉ [F.SYS_RESET_CAUSE_CAUSE, .SYS_RESET_CAUSE_WARM_COUNT] := by decide
  refine ⟨⟨?_, ?_, ?_, ?_, ?_, ?_, ?_, ?_⟩, (honly.keeps _ _).trans h.off, ?_, fun f hf =>
    (honly.keeps f 0 (hin f hf).2).trans (h.get f (hin f hf).1 0)⟩
  · rw [he]
    exact (Dev.get_set_field _ _ _ _ (by decide)).trans (Dev.get_set_same ..)
  · exact (honly.keeps _ _).trans (h.get _ (by decide) 0)
  · rw [honly.1]
    exact h.clk
  · rw [he]
    refine (Dev.get_set_same ..).trans ?_
    rw [Dev.get_set_field _ _ _ _ (by decide), h.get _ (by decide) 0]
  · rw [honly.1]
    exact h.gddr rfl
  · rw [honly.1]
    exact h.plan
  · rw [honly.1]
    exact h.posts
  · rw [honly.1]
    exact h.service
  · rw [honly.1]
    exact h.pending

/-- R542, R551, R558: power returns to the hub core once nothing holds it off. -/
theorem Dev.powerUp_up {d : Dev} (hoff : d.get .X_SYS_OFF 0 = 1) (haux : d.get .X_SYS_AUX 0 = 1) (hmain : d.get .X_SYS_MAIN 0 = 1)
    (hrst : d.get .X_SYS_RST 0 ≠ 1) (hsd : d.get .THM_SD_STATUS_STATE 0 = 0) {e : Dev} (he : e = d.powerUp) :
    ∃ b, Dev.Only (fun f _ => f ∈ [F.X_SYS_OFF, .SYS_BOOT_STATUS_STAGE, .X_SYS_PG_CLK]) d b ∧ b.get .X_SYS_OFF 0 = 0 ∧
      b.get .SYS_BOOT_STATUS_STAGE 0 = 1 ∧
      e = if d.get .SYS_RESET_CAUSE_CAUSE 0 = 5 then (b.raise 10).raise 740
        else if d.get .SYS_RESET_CAUSE_CAUSE 0 = 0 then b else b.raise 10 := by
  have hcond : (d.on .X_SYS_OFF 0 && d.on .X_SYS_AUX 0 && d.on .X_SYS_MAIN 0 && !d.on .X_SYS_RST 0 && d.get .THM_SD_STATUS_STATE 0 == 0) =
      true := by
    simp [Dev.on_def, hoff, haux, hmain, hrst, hsd]
  unfold Dev.powerUp at he
  rw [if_pos hcond] at he
  extract_lets b1 b2 cause b3 at he
  have hb1 : Dev.Only (fun f _ => f ∈ [F.X_SYS_OFF, .SYS_BOOT_STATUS_STAGE, .X_SYS_PG_CLK]) d b1 :=
    ((Dev.Only.refl _ d).write .X_SYS_OFF 0 0).write .SYS_BOOT_STATUS_STAGE 0 1
  have hoff1 : b1.get .X_SYS_OFF 0 = 0 := (Dev.get_set_field _ _ _ _ (by decide)).trans (Dev.get_set_same ..)
  have hstage1 : b1.get .SYS_BOOT_STATUS_STAGE 0 = 1 := Dev.get_set_same ..
  clear_value b1
  have hb2 : Dev.Only (fun f _ => f ∈ [F.X_SYS_PG_CLK]) b1 b2 := by
    unfold b2
    split
    · exact .refl _ b1
    · exact (Dev.Only.refl _ b1).write .X_SYS_PG_CLK 0 _
  clear_value b2
  refine ⟨b2, hb1.trans (hb2.mono fun f _ hf => by revert hf f; decide), (hb2.keeps _ _).trans hoff1, (hb2.keeps _ _).trans hstage1, ?_⟩
  have hcause : cause = d.get .SYS_RESET_CAUSE_CAUSE 0 := (hb2.keeps _ _).trans (hb1.keeps _ _)
  rw [he, hcause]
  by_cases h5 : d.get .SYS_RESET_CAUSE_CAUSE 0 = 5
  · rw [if_pos h5, if_pos h5]
    unfold b3
    rw [if_neg (by omega)]
  · rw [if_neg h5, if_neg h5]
    unfold b3
    rw [hcause]

/-- R542, R551: power returns after a warm reset with a cause from 1 to 4. -/
theorem Dev.powerUp_warm {d : Dev} (hoff : d.get .X_SYS_OFF 0 = 1) (haux : d.get .X_SYS_AUX 0 = 1) (hmain : d.get .X_SYS_MAIN 0 = 1)
    (hrst : d.get .X_SYS_RST 0 ≠ 1) (hsd : d.get .THM_SD_STATUS_STATE 0 = 0) (h0 : d.get .SYS_RESET_CAUSE_CAUSE 0 ≠ 0)
    (h5 : d.get .SYS_RESET_CAUSE_CAUSE 0 ≠ 5) {e : Dev} (he : e = d.powerUp) : Dev.Raised 10 d e ∧ e.get .X_SYS_OFF 0 = 0 ∧
      e.get .SYS_BOOT_STATUS_STAGE 0 = 1 ∧
      Dev.OnlyRaising (fun f _ => f ∈ [F.X_SYS_OFF, .SYS_BOOT_STATUS_STAGE, .X_SYS_PG_CLK]) d e := by
  obtain ⟨b, hb, h1, h2, hraise⟩ := Dev.powerUp_up hoff haux hmain hrst hsd he
  rw [if_neg h5, if_neg h0] at hraise
  rw [hraise]
  refine ⟨.after (by rw [hb.1]) (hb.keeps _ _) (by decide), (raise_get _ _ _ _ (by decide)).trans h1,
    (raise_get _ _ _ _ (by decide)).trans h2, (Dev.Only.raising hb).raise 10⟩

/-- R551, R552: a warm reset by command, with nothing that holds the hub core off. -/
theorem Dev.warmReset_up {d : Dev} {cause : Nat} (h0 : cause ≠ 0) (h5 : cause ≠ 5) (hoff : d.get .X_SYS_OFF 0 ≠ 1)
    (haux : d.get .X_SYS_AUX 0 = 1) (hmain : d.get .X_SYS_MAIN 0 = 1) (hrst : d.get .X_SYS_RST 0 ≠ 1)
    (hsd : d.get .THM_SD_STATUS_STATE 0 = 0) {e : Dev} (he : e = (d.warmBegin cause).powerUp) : Dev.WarmReset cause d e ∧
      e.get .X_SYS_OFF 0 = 0 ∧ e.get .SYS_BOOT_STATUS_STAGE 0 = 1 ∧ e.pending = [10] := by
  obtain ⟨hw, hoff1, hpend, hkeep⟩ := d.warmBegin_resets cause hoff rfl
  generalize d.warmBegin cause = b at he hw hoff1 hpend hkeep
  obtain ⟨⟨hraise, -⟩, h1, h2, honly⟩ := Dev.powerUp_warm hoff1 ((hkeep _ (by decide)).trans haux) ((hkeep _ (by decide)).trans hmain)
    (by rwa [hkeep _ (by decide)]) ((hkeep _ (by decide)).trans hsd) (by rwa [hw.cause]) (by rwa [hw.cause]) he
  refine ⟨⟨(honly.keeps _ _).trans hw.cause, (honly.keeps _ _).trans hw.now, ?_, (honly.keeps _ _).trans hw.count, ?_, ?_, ?_, ?_⟩,
    h1, h2, ?_⟩
  · rw [honly.1]
    exact hw.clk
  · rw [honly.1]
    exact hw.gddr
  · rw [honly.1]
    exact hw.plan
  · rw [honly.1]
    exact hw.posts
  · rw [honly.1]
    exact hw.service
  · rw [hraise, hpend]
    rfl

/-! ## Cold power-up and the loss of the auxiliary supply -/

theorem Dev.showSnaps_only (d : Dev) : Dev.Only (fun f _ => f ∈ [F.SYS_SNAP_STATUS_VALID, .SYS_SNAP_STATUS_IN_USE]) d d.showSnaps := by
  unfold Dev.showSnaps
  extract_lets v u
  exact ((Dev.Only.refl _ d).write .SYS_SNAP_STATUS_VALID 0 v).write .SYS_SNAP_STATUS_IN_USE 0 u

/-- R48: every register but the slot directory has its reset value on a blank device. -/
theorem Dev.blank_get (d : Dev) {f : F} (i : Nat) (h : f ∉ flashFields) : d.blank.get f i = f.reset i :=
  Store.get_filter_drops fun _ => by simpa using h

/-- R48, R554: what a cold power-up leaves. -/
theorem coldPowerUp_leaves (s : State) (present : Byte) (straps : BitVec 2) : Completes (.coldPowerUp present straps) s fun e =>
    e.get .X_SMB_STRAP 0 = straps.toNat ∧ e.flash = s.dev.flash ∧ e.nvm = s.dev.nvm ∧ e.snaps = s.dev.snaps ∧ e.pending = [] ∧
    e.posts = [] ∧ e.clk = 0 ∧ e.live = [] ∧ e.msgs = [] ∧
    (∀ x < 8, e.get .SYS_LS_STATUS_PRESENT x = b2n (bitAt present.toNat x)) ∧
    ∀ f i, f ∉ flashFields → f ∉ [F.SYS_LS_STATUS_PRESENT, .SYS_SNAP_STATUS_VALID, .SYS_SNAP_STATUS_IN_USE, .X_SMB_STRAP] →
      e.get f i = f.reset i := by
  refine .runAs (rfl : _ = execColdPowerUp present straps s) fun e he => ?_
  generalize hb : s.found.blank.showSnaps.set .X_SMB_STRAP 0 straps.toNat = b at he
  have honly : Dev.Only (fun f _ => f ∈ [F.SYS_LS_STATUS_PRESENT]) b e := by
    rw [he]
    exact (Dev.Only.refl _ b).each fun x _ c => (Dev.Only.refl _ c).write .SYS_LS_STATUS_PRESENT x _
  have hblank : Dev.Only (fun f _ => f ∈ [F.SYS_SNAP_STATUS_VALID, .SYS_SNAP_STATUS_IN_USE, .X_SMB_STRAP]) s.found.blank b := by
    rw [← hb]
    exact (s.found.blank.showSnaps_only.mono fun f _ hf => by revert hf f; decide).write .X_SMB_STRAP 0 straps.toNat
  have hall : Dev.Only (fun f _ => f ∈ [F.SYS_LS_STATUS_PRESENT, .SYS_SNAP_STATUS_VALID, .SYS_SNAP_STATUS_IN_USE, .X_SMB_STRAP])
      s.found.blank e := (hblank.mono fun f _ hf => List.mem_cons_of_mem _ hf).trans
        (honly.mono fun f _ hf => by revert hf f; decide)
  have hstrap : b.get .X_SMB_STRAP 0 = straps.toNat := hb ▸ Dev.get_set_same ..
  have hpresent : ∀ x < 8, e.get .SYS_LS_STATUS_PRESENT x = b2n (bitAt present.toNat x) := fun x hx => by
    have := b.each_set_get .SYS_LS_STATUS_PRESENT 0 (fun x => b2n (bitAt present.toNat x)) hx
    simp only [Nat.zero_add] at this
    rw [he]
    exact this
  refine ⟨(honly.keeps _ _).trans hstrap, ?_, ?_, ?_, ?_, ?_, ?_, ?_, ?_, hpresent, fun f i hf hnot =>
    (hall.keeps f i hnot).trans (s.found.blank_get i hf)⟩ <;> rw [hall.1] <;> rfl

/-- R48: what a loss of the auxiliary supply leaves. -/
theorem vauxLoss_leaves (s : State) : Completes .vauxLoss s fun e => e.get .X_SYS_AUX 0 = 0 ∧ e.flash = s.dev.flash ∧ e.pending = [] ∧
    e.posts = [] ∧ e.clk = 0 ∧ e.get .TIME_NOW_NOW 0 = 0 ∧ ∃ id, ∀ a < 2 ^ 35, e.cell a = Config.lostByte id a := by
  refine .runAs (rfl : _ = execVauxLoss s) fun e he => ?_
  extract_lets busy b at he
  generalize hc : s.found.planAbandon.nvmInterrupt.snapAbandon = c at he b
  have hflash : c.flash = s.dev.flash := hc ▸ ((s.found.planAbandon_holds.trans
    s.found.planAbandon.nvmInterrupt_holds).trans s.found.planAbandon.nvmInterrupt.snapAbandon_holds).flash
  have honly : Dev.Only (fun f _ => f ∈ [F.PLAN_STATUS_CODE, .PLAN_ERR_OFFSET_OFFSET]) b e := by
    rw [he]
    split
    · exact b.planCode_only _ _
    · exact .refl _ b
  have hb : b = c.blank.set .X_SYS_AUX 0 0 := by
    unfold b
    rw [hc]
  clear_value b
  have hall : Dev.Only (fun f _ => f ∈ [F.X_SYS_AUX, .PLAN_STATUS_CODE, .PLAN_ERR_OFFSET_OFFSET]) c.blank e := by
    rw [hb] at honly
    exact ((Dev.Only.refl _ c.blank).write .X_SYS_AUX 0 0).trans (honly.mono fun f _ hf => List.mem_cons_of_mem _ hf)
  have heflash : e.flash = s.dev.flash := by
    rw [hall.1]
    exact hflash
  have hcell : ∀ a < 2 ^ 35, e.cell a = Config.lostByte c.free a := fun a ha => by
    have hlost : e.lost = [⟨0, 2 ^ 35, c.free⟩] := by
      rw [hall.1]
      rfl
    unfold Dev.cell
    have hin : decide (0 ≤ a ∧ a < 2 ^ 35) = true := decide_eq_true ⟨Nat.zero_le a, ha⟩
    rw [hlost, List.find?_cons, hin]
  refine ⟨(honly.keeps _ _).trans (hb ▸ Dev.get_set_same ..), heflash, ?_, ?_, ?_, (hall.keeps _ _).trans (c.blank_get 0 (by decide)), c.free,
    hcell⟩ <;> rw [hall.1] <;> rfl

theorem Dev.functionReset_get (d : Dev) {f : F} (hf : f ∈ [F.X_SYS_PERST, .X_SYS_EP]) : d.functionReset.get f 0 = d.get f 0 := by
  unfold Dev.functionReset
  extract_lets b
  obtain ⟨-, -, h1⟩ := (Dev.each 16 Dev.hotResetQueue b).resetMsix_shows
  obtain ⟨-, -, h2⟩ := (Dev.each 16 Dev.hotResetQueue b).resetMsix.resetHostTargets_shows
  have hout : ∀ f ∈ [F.X_SYS_PERST, .X_SYS_EP], f ∉ signalFields ∧ f ≠ .PH_T_IDLE_TARGET_IDLE ∧ f ∉ settleFields ∧ f ∉ msixFields ∧
    f ∉ [F.DMA_LINK_STATUS_BME, .DMA_LINK_STATUS_DSTATE, .DMA_LINK_STATUS_L1, .X_PCIE_FUNC_MASK, .X_PCIE_PME_EN, .X_PCIE_PME_STATUS] := by
    decide
  obtain ⟨hs, hi, hset, hm, hall⟩ := hout f hf
  rw [Dev.syncLink_get _ _ hs, h2 f 0 hi hset, h1 f 0 hm, Dev.hotResetQueues_get _ _ (by revert hf f; decide)]
  exact Dev.setAll_get_field _ _ _ _ hall

/-- Settles O35: cold power-up, warm resets and the return of power. -/
theorem coldPowerUpResets : Obligations.ColdPowerUpResets := by
  refine ⟨fun s => ⟨coldPowerUp_leaves s, vauxLoss_leaves s⟩, fun s haux hoff => ?_, fun s => ⟨fun hoff haux hsd => ⟨fun hmain hrst hcause => ?_,
    fun hrst hcause => ?_⟩, fun hperst => ?_, fun hoff hperst hep hclk => ?_, fun hoff => ?_⟩⟩
  · have hon : s.found.on .X_SYS_AUX 0 = true := beq_iff_eq.mpr haux
    refine ⟨fun hrst => ?_, fun hmain => ?_, fun req hmain hrst hsd => ?_⟩
    · have hcond : (s.found.on .X_SYS_AUX 0 && !s.found.on .X_SYS_RST 0) = true := by
        rw [hon, State.found_on, Dev.on, beq_eq_false_iff_ne.mpr hrst]
        rfl
      refine .runIf (rfl : _ = execSysRstFall s) hcond fun e he => ?_
      obtain ⟨hw, h1, h2, h3⟩ := Dev.warmBegin_resets 1 (d := s.found.set .X_SYS_RST 0 1)
        (by rwa [Dev.get_set_field _ _ _ _ (by decide)]) he
      replace hw := hw.ofSet
      exact ⟨⟨hw.cause, hw.now, hw.clk, hw.count, hw.gddr, hw.plan, hw.posts, hw.service⟩, h1,
        (h3 _ (by decide)).trans (Dev.get_set_same ..), h2⟩
    · have hmain : s.found.on .X_SYS_MAIN 0 = true := beq_iff_eq.mpr hmain
      refine .runIf (rfl : _ = execMainPgFall s) hmain fun e he => ?_
      have hon : (s.found.set .X_SYS_MAIN 0 0).on .X_SYS_AUX 0 = true :=
        beq_iff_eq.mpr ((Dev.get_set_field _ _ _ _ (by decide)).trans haux)
      replace he := he.trans (if_pos hon)
      obtain ⟨hw, h1, h2, h3⟩ := Dev.warmBegin_resets 4 (d := s.found.set .X_SYS_MAIN 0 0)
        (by rwa [Dev.get_set_field _ _ _ _ (by decide)]) he
      replace hw := hw.ofSet
      exact ⟨⟨hw.cause, hw.now, hw.clk, hw.count, hw.gddr, hw.plan, hw.posts, hw.service⟩, h1,
        (h3 _ (by decide)).trans (Dev.get_set_same ..), h2⟩
    · refine .runIf (rfl : _ = execWarmResetCmd req s) hon fun e he => ?_
      obtain ⟨hw, h1, h2, h3⟩ := Dev.warmReset_up (d := s.found) (by split <;> decide) (by split <;> decide) hoff haux hmain hrst hsd he
      exact ⟨⟨hw.cause, hw.now, hw.clk, hw.count, hw.gddr, hw.plan, hw.posts, hw.service⟩, h1, h2, h3⟩
  · have hrst : s.found.on .X_SYS_RST 0 = true := beq_iff_eq.mpr hrst
    refine .runIf (rfl : _ = execSysRstRise s) hrst fun e he => ?_
    have hkeep : ∀ f, f ≠ .X_SYS_RST → (s.found.set .X_SYS_RST 0 0).get f 0 = s.dev.get f 0 := fun f hf => Dev.get_set_field _ _ _ _ hf
    have hzero : (s.found.set .X_SYS_RST 0 0).get .X_SYS_RST 0 = 0 := Dev.get_set_same ..
    obtain ⟨⟨h1, h2⟩, h3, h4, h5⟩ := Dev.powerUp_warm ((hkeep _ (by decide)).trans hoff) ((hkeep _ (by decide)).trans haux)
      ((hkeep _ (by decide)).trans hmain) (by rw [hzero]; decide) ((hkeep _ (by decide)).trans hsd)
      (by rw [hkeep _ (by decide), hcause]; decide) (by rw [hkeep _ (by decide), hcause]; decide) he
    exact ⟨h3, (h5.keeps _ _).trans hzero, h4, h1, h2.trans (by rw [Dev.get_set_field _ _ _ _ (by decide)]; rfl)⟩
  · have hon : s.found.on .X_SYS_AUX 0 = true := beq_iff_eq.mpr haux
    refine .runIf (rfl : _ = execMainPgRise s) hon fun e he => ?_
    have hkeep : ∀ f, f ≠ .X_SYS_MAIN → (s.found.set .X_SYS_MAIN 0 1).get f 0 = s.dev.get f 0 := fun f hf => Dev.get_set_field _ _ _ _ hf
    have hone : (s.found.set .X_SYS_MAIN 0 1).get .X_SYS_MAIN 0 = 1 := Dev.get_set_same ..
    have hnone : (s.found.set .X_SYS_MAIN 0 1).get .SYS_RESET_CAUSE_CAUSE 0 = 0 := (hkeep _ (by decide)).trans hcause
    obtain ⟨b, hb, h1, h2, h3⟩ := Dev.powerUp_up ((hkeep _ (by decide)).trans hoff) ((hkeep _ (by decide)).trans haux) hone
      (by rwa [hkeep _ (by decide)]) ((hkeep _ (by decide)).trans hsd) he
    rw [hnone, if_neg (by decide), if_pos rfl] at h3
    rw [h3]
    exact ⟨h1, (hb.keeps _ _).trans hone, h2, by rw [hb.1]; rfl⟩
  · have hperst : s.found.on .X_SYS_PERST 0 = true := beq_iff_eq.mpr hperst
    refine .runIf (rfl : _ = execPerstRise s) hperst fun e he => ?_
    rw [he]
    exact ⟨(Dev.get_set_field _ _ _ _ (by decide)).trans (Dev.get_set_same ..), Dev.get_set_same ..,
      Dev.Only.ofFound ((Dev.OnlyAt.write (.refl _ s.found) .X_SYS_PERST 0).write .X_SYS_PG_CLK s.found.clk)⟩
  · have hcond : ¬ (s.found.on .X_SYS_OFF 0 || s.found.on .X_SYS_PERST 0 || s.found.on .X_SYS_EP 0) = true := by
      simp [hoff, hperst, hep, Dev.on_def]
    have hclk : s.found.get .X_SYS_PG_CLK 0 + 5 * ms ≤ s.found.clk := hclk
    refine .runElse (rfl : _ = execEndpointReady s) hcond fun e he => ?_
    rw [Dev.onTime_of_le hclk] at he
    rw [he]
    exact ⟨Dev.get_set_same .., Dev.Only.ofFound (Dev.OnlyAt.write (.refl _ s.found) .X_SYS_EP 1)⟩
  · refine .runAs (rfl : _ = execPerst s) fun e he => ?_
    extract_lets b1 b2 at he
    have hoff : ¬ b1.on .X_SYS_OFF 0 = true := fun h => hoff (by
      have := beq_iff_eq.mp h
      rwa [Dev.get_set_field _ _ _ _ (by decide), Dev.get_set_field _ _ _ _ (by decide)] at this)
    rw [if_neg hoff] at he
    obtain ⟨⟨h1, -, h3, -, h5, -⟩, -⟩ := Dev.functionReset_shows _ (ev := .DMA_LINK_EVENTS_LINK_DOWN) (by decide)
      ((Dev.setAll_get_field _ _ _ _ (by decide)).trans (Dev.get_set_same ..)) he
    refine ⟨?_, ?_, h1, h3, fun q hq => (h5 q hq).1⟩
    · rw [he, Dev.functionReset_get _ (by decide), Dev.setAll_get_field _ _ _ _ (by decide), Dev.get_set_field _ _ _ _ (by decide),
        Dev.get_set_field _ _ _ _ (by decide), Dev.get_set_same]
    · rw [he, Dev.functionReset_get _ (by decide), Dev.setAll_get_field _ _ _ _ (by decide), Dev.get_set_field _ _ _ _ (by decide),
        Dev.get_set_same]

/-! ## Snapshots, and the plan of a boot that waits -/

/-- A save in progress while a boot waits to validate its slot. -/
def savingAtBoot : Dev := (Dev.reset.set .SYS_SNAP_STATUS_BUSY 0 1).set .X_BOOT_SLOT 0 1

/-- Refutes O36: where a boot waits for the end of the save, the plan does not go back to the state before the save; the boot
goes on and its slot is validated. -/
theorem not_bootAndStop : ¬ Obligations.BootAndStop := by
  intro h
  have hbusy : (⟨savingAtBoot, []⟩ : State).dev.get .SYS_SNAP_STATUS_BUSY 0 = 1 := by decide
  obtain ⟨-, -, -, hdone⟩ := h.2 ⟨savingAtBoot, []⟩
  obtain ⟨-, -, hps, -⟩ := (completes_run_iff (show exec .snapshotSaveDone ⟨savingAtBoot, []⟩ = State.run ⟨savingAtBoot, []⟩ _ from rfl)).mp (hdone hbusy)
  exact absurd hps (by decide)

/-! ## Thermal shutdown -/

/-- R541, R543: what a trip shows. -/
theorem Dev.trip_shows (d : Dev) (x : Nat) {e : Dev} (he : e = d.trip x) :
    e.get .THM_SD_STATUS_STATE 0 = (if d.hourCount = 3 then 2 else 1) ∧ e.get .THM_SD_STATUS_SITE 0 = x ∧
    e.get .THM_SD_TIME_TIME 0 = d.now ∧ e.get .X_SYS_OFF 0 = 1 ∧
    e.get .THM_SD_STATUS_TOTAL 0 = satAdd F.THM_SD_STATUS_TOTAL.width (d.get .THM_SD_STATUS_TOTAL 0) 1 := by
  unfold Dev.trip at he
  extract_lets st b1 b2 b3 at he
  have h1 : Dev.Holds d b1 :=
    .ofOnlyRaising (d.latchZeros_only 3 _) fun f hf _ => (show ∀ f ∈ heldFields, f ∉ zeroFields by decide) f hf
  clear_value b1
  have h2 : (∀ f ∈ heldFields, ∀ i, b2.get f i = d.get f i) ∧ b2.get .X_SYS_OFF 0 = 1 := by
    unfold b2
    split
    next hoff =>
      have hm := b1.memHold_only meOFF
      exact ⟨fun f hf i => ((Dev.Holds.ofOnly hm).get f hf i).trans (h1.get f hf i), (hm.keeps .X_SYS_OFF 0).trans (beq_iff_eq.mp hoff)⟩
    next =>
      have h := b1.powerOff_poweredOff false rfl
      exact ⟨fun f hf i => (h.get f hf i).trans (h1.get f hf i), h.off⟩
  obtain ⟨hheld, hoff⟩ := h2
  clear_value b2
  have hnow : b3.now = d.now := (Dev.get_set_field _ _ _ _ (by decide)).trans
    ((Dev.get_set_field _ _ _ _ (by decide)).trans (hheld _ (by decide) 0))
  rw [he]
  refine ⟨?_, ?_, ?_, ?_, (Dev.get_set_same ..).trans ?_⟩
  · simp [b3, st, Dev.addSat]
  · simp [b3, Dev.addSat]
  · rw [← hnow]
    exact (Dev.get_set_field _ _ _ _ (by decide)).trans ((Dev.get_set_field _ _ _ _ (by decide)).trans (Dev.get_set_same ..))
  · simp [b3, hoff, Dev.addSat]
  · rw [← hheld .THM_SD_STATUS_TOTAL (by decide) 0]
    simp [b3]

/-- R542, R543: a restart after a shutdown, with nothing else that holds the hub core off. -/
theorem Dev.thermalRestart_up {d : Dev} (auto : Bool) (hoff : d.get .X_SYS_OFF 0 = 1) (haux : d.get .X_SYS_AUX 0 = 1)
    (hmain : d.get .X_SYS_MAIN 0 = 1) (hrst : d.get .X_SYS_RST 0 ≠ 1) {e : Dev} (he : e = d.thermalRestart auto) :
    (e.get .THM_SD_STATUS_STATE 0 = 0 ∧ e.get .X_SYS_OFF 0 = 0 ∧ e.get .SYS_BOOT_STATUS_STAGE 0 = 1 ∧
      e.get .SYS_RESET_CAUSE_CAUSE 0 = 5 ∧ 10 ∈ e.pending ∧ 740 ∈ e.pending) ∧
    (auto = true → e.get .X_THM_RESTART 0 = d.now ∧ e.get .X_THM_RESTART_SET 0 = 1) := by
  unfold Dev.thermalRestart at he
  extract_lets b0 b at he
  have hb : Dev.Only (fun f _ => f ∈ [F.X_THM_RESTART, .X_THM_RESTART_SET]) d b := by
    unfold b
    split
    · have h0 : Dev.Only (fun f _ => f ∈ [F.X_THM_RESTART, .X_THM_RESTART_SET]) d b0 := (Dev.Only.refl _ d).each fun j _ c =>
        ((Dev.Only.refl _ c).write .X_THM_RESTART (2 - j) _).write .X_THM_RESTART_SET (2 - j) _
      exact (h0.write .X_THM_RESTART 0 _).write .X_THM_RESTART_SET 0 1
    · exact .refl _ d
  have hnote : auto = true → b.get .X_THM_RESTART 0 = d.now ∧ b.get .X_THM_RESTART_SET 0 = 1 := fun hauto => by
    have h0 : b0.now = d.now := Dev.each_keeps Dev.now (fun j _ c =>
      (Dev.get_set_field _ _ _ _ (by decide)).trans (Dev.get_set_field _ _ _ _ (by decide))) d
    unfold b
    rw [if_pos hauto]
    exact ⟨(Dev.get_set_field _ _ _ _ (by decide)).trans ((Dev.get_set_same ..).trans h0), Dev.get_set_same ..⟩
  clear_value b
  generalize hc : (b.set .THM_SD_STATUS_STATE 0 0).warmBegin 5 = c at he
  have hon : (b.set .THM_SD_STATUS_STATE 0 0).on .X_SYS_OFF 0 = true :=
    beq_iff_eq.mpr ((Dev.get_set_field _ _ _ _ (by decide)).trans ((hb.keeps _ _).trans hoff))
  unfold Dev.warmBegin at hc
  rw [if_pos hon] at hc
  have hconly : Dev.Only (fun f _ => f ∈ [F.THM_SD_STATUS_STATE, .SYS_RESET_CAUSE_CAUSE, .SYS_RESET_CAUSE_WARM_COUNT]) b c := by
    rw [← hc]
    exact (((Dev.Only.refl _ b).write .THM_SD_STATUS_STATE 0 0).write .SYS_RESET_CAUSE_CAUSE 0 5).write .SYS_RESET_CAUSE_WARM_COUNT 0 _
  have hcause : c.get .SYS_RESET_CAUSE_CAUSE 0 = 5 := by
    rw [← hc]
    exact (Dev.get_set_field _ _ _ _ (by decide)).trans (Dev.get_set_same ..)
  have hsd : c.get .THM_SD_STATUS_STATE 0 = 0 := by
    rw [← hc]
    exact (Dev.get_set_field _ _ _ _ (by decide)).trans ((Dev.get_set_field _ _ _ _ (by decide)).trans (Dev.get_set_same ..))
  obtain ⟨u, hu, h1, h2, h3⟩ := Dev.powerUp_up ((hconly.keeps _ _).trans ((hb.keeps _ _).trans hoff))
    ((hconly.keeps _ _).trans ((hb.keeps _ _).trans haux)) ((hconly.keeps _ _).trans ((hb.keeps _ _).trans hmain))
    (by rwa [hconly.keeps _ _, hb.keeps _ _]) hsd he
  rw [if_pos hcause] at h3
  have hkeep : ∀ f, f ∉ signalFields → e.get f 0 = u.get f 0 := fun f hf => by
    rw [h3, raise_get _ _ _ _ hf, raise_get _ _ _ _ hf]
  have hpend : e.pending = insertNat (insertNat u.pending 10) 740 := by
    rw [h3, (raise_raised _ (by decide)).1, (raise_raised _ (by decide)).1]
  refine ⟨⟨(hkeep _ (by decide)).trans ((hu.keeps _ _).trans hsd), (hkeep _ (by decide)).trans h1, (hkeep _ (by decide)).trans h2,
    (hkeep _ (by decide)).trans ((hu.keeps _ _).trans hcause), ?_, ?_⟩, fun hauto => ?_⟩
  · rw [hpend, mem_insertNat, mem_insertNat]
    exact .inr (.inl rfl)
  · rw [hpend, mem_insertNat]
    exact .inl rfl
  · obtain ⟨h4, h5⟩ := hnote hauto
    exact ⟨(hkeep _ (by decide)).trans ((hu.keeps _ _).trans ((hconly.keeps _ _).trans h4)),
      (hkeep _ (by decide)).trans ((hu.keeps _ _).trans ((hconly.keeps _ _).trans h5))⟩

/-- Settles O37: trips, restarts and the restart command. -/
theorem thermalShutdown : Obligations.ThermalShutdown := by
  refine fun s haux => ⟨fun x hsd => ?_, fun hoff hmain hrst => ⟨fun hsd hclk => ?_, fun hsd => ?_⟩, fun hsd => ?_⟩
  · have hcond : (s.found.on .X_SYS_AUX 0 && s.found.get .THM_SD_STATUS_STATE 0 == 0) = true := by
      simp [Dev.on_def, haux, hsd]
    exact .runIf (rfl : _ = execThermalTrip x s) hcond fun e he => s.found.trip_shows x he
  · have hsd : s.found.get .THM_SD_STATUS_STATE 0 = 1 := hsd
    have hclk : s.found.get .X_THM_SD_CLK 0 + sec ≤ s.found.clk := hclk
    refine .runIf (rfl : _ = execThermalRestart s) hsd fun e he => ?_
    obtain ⟨h1, h2⟩ := Dev.thermalRestart_up (d := s.found) true hoff haux hmain hrst (he.trans (Dev.onTime_of_le hclk))
    exact ⟨h1, h2 rfl⟩
  · have hsd : s.found.get .THM_SD_STATUS_STATE 0 = 2 := hsd
    exact .runIf (rfl : _ = execThermalRestartCmd true s) hsd fun e he =>
      (Dev.thermalRestart_up (d := s.found) false hoff haux hmain hrst he).1
  · have hsd : s.found.get .THM_SD_STATUS_STATE 0 = 2 := hsd
    refine .runIf (rfl : _ = execThermalRestartCmd false s) hsd fun e he => ?_
    replace he : e = s.found.set .THM_SD_STATUS_REFUSED 0 1 := he
    rw [he]
    exact ⟨Dev.get_set_same .., Dev.Only.ofFound (Dev.OnlyAt.write (.refl _ s.found) .THM_SD_STATUS_REFUSED 1)⟩

end Sys2Proof.Machine
end

section
/-! PROOFS. Receive lanes: their states, and what the driver asks of them (R96, R116, R118, R119, R134 to R141). -/

-- One theorem at a time: the whole text is compiled under a memory limit, which the stacks of waiting threads would fill.
set_option Elab.async false

namespace Sys2Proof.Machine

open Sys2Proof

/-! ## What a change of a lane keeps -/

/-- From `d` to `e` the fields of a list and the live values of another stay in every index, the clock stays, and no pending
source is lost. -/
structure Dev.Keeps (L M : List F) (d e : Dev) : Prop where
  get : ∀ f ∈ L, ∀ i, e.get f i = d.get f i
  lget : ∀ f ∈ M, ∀ i, e.lget f i = d.lget f i
  pending : ∀ n ∈ d.pending, n ∈ e.pending
  clk : e.clk = d.clk

section
variable {L M : List F} {d e : Dev}

theorem Dev.Keeps.refl (d : Dev) : Dev.Keeps L M d d := ⟨fun _ _ _ => rfl, fun _ _ _ => rfl, fun _ h => h, rfl⟩

theorem Dev.Keeps.trans {a b c : Dev} (h1 : Dev.Keeps L M a b) (h2 : Dev.Keeps L M b c) : Dev.Keeps L M a c :=
  ⟨fun f hf i => (h2.get f hf i).trans (h1.get f hf i), fun f hf i => (h2.lget f hf i).trans (h1.lget f hf i),
    fun n hn => h2.pending n (h1.pending n hn), h2.clk.trans h1.clk⟩

theorem Dev.Keeps.ofOnly {G : List F} (h : Dev.Only (fun f _ => f ∈ G) d e) (hL : ∀ f ∈ L, f ∉ G) : Dev.Keeps L M d e := by
  refine ⟨fun f hf i => h.2 f i (hL f hf), fun f _ i => ?_, fun n hn => ?_, ?_⟩
  · rw [h.1]
    rfl
  · rw [h.1]
    exact hn
  · rw [h.1]

theorem Dev.Keeps.set {f : F} (h : Dev.Keeps L M d e) (i v : Nat) (hf : f ∉ L) : Dev.Keeps L M d (e.set f i v) :=
  h.trans ⟨fun _ hg _ => Dev.get_set_field _ _ _ _ fun hgf => hf (hgf ▸ hg), fun _ _ _ => rfl, fun _ hn => hn, rfl⟩

theorem Dev.Keeps.setAll {fs : List F} (h : Dev.Keeps L M d e) (i v : Nat) (hf : ∀ f ∈ fs, f ∉ L) : Dev.Keeps L M d (e.setAll fs i v) :=
  h.trans (List.foldlRecOn fs _ (motive := Dev.Keeps L M e) (.refl e) fun _ hb f hfs => hb.set i v (hf f hfs))

theorem Dev.Keeps.send (h : Dev.Keeps L M d e) (o : Out) : Dev.Keeps L M d (e.send o) :=
  h.trans ⟨fun _ _ _ => rfl, fun _ _ _ => rfl, fun _ hn => hn, rfl⟩

theorem Dev.Keeps.lset {f : F} (h : Dev.Keeps L M d e) (i v : Nat) (hf : f ∉ M) : Dev.Keeps L M d (e.lset f i v) :=
  h.trans ⟨fun _ _ _ => rfl, fun _ hg _ => Dev.lget_lset_field _ _ _ _ fun hgf => hf (hgf ▸ hg), fun _ hn => hn, rfl⟩

theorem Dev.Keeps.raise (h : Dev.Keeps L M d e) (s : Nat) (hL : ∀ f ∈ L, f ∉ signalFields) : Dev.Keeps L M d (e.raise s) := by
  refine h.trans ⟨fun f hf i => raise_get _ _ _ _ (hL f hf), fun _ _ _ => raise_lget _ _ _ _, fun n hn => ?_, raise_clk _ _⟩
  by_cases hs : s = 0
  · subst hs
    exact hn
  · rw [(raise_raised e hs).1]
    exact (mem_insertNat ..).mpr (.inr hn)

theorem Dev.Keeps.foldl {α : Type} {g : Dev → α → Dev} (hg : ∀ d x, Dev.Keeps L M d (g d x)) (l : List α) (d : Dev) :
    Dev.Keeps L M d (l.foldl g d) := List.foldlRecOn l g (.refl d) fun _ he x _ => he.trans (hg _ x)

theorem Dev.Keeps.each {n : Nat} {g : Nat → Dev → Dev} (hg : ∀ i e, Dev.Keeps L M e (g i e)) (d : Dev) :
    Dev.Keeps L M d (Dev.each n g d) := .foldl (fun e i => hg i e) _ d

theorem Dev.Keeps.mono {L' M' : List F} (h : Dev.Keeps L M d e) (hL : ∀ f ∈ L', f ∈ L) (hM : ∀ f ∈ M', f ∈ M) : Dev.Keeps L' M' d e :=
  ⟨fun f hf => h.get f (hL f hf), fun f hf => h.lget f (hM f hf), h.pending, h.clk⟩

end

/-! ## The shared effects of a loss of lock -/

/-- What a trigger event changes. -/
def triggerFields : List F := [.CAP_XTRIG_STATUS_MERGED, .X_XTRIG_END] ++ signalFields

/-- What a spread group that drops its lock clears. -/
def dropLockFields : List F := [.SPR_G_STATUS_ALLOW, .SPR_G_STATUS_STREAM_LOCK, .SPR_G_LAT_LATENCY, .SPR_G_LAT_TARGET, .POOL_G_AGE_AGE,
  .POOL_G_REQ_GRANT, .X_POOL_FULL, .X_POOL_SERVED, .X_SPR_UNC, .X_SPR_UNC_INV, .X_SPR_BAD, .X_SPR_NO, .X_SPR_FIN, .X_SPR_F_PASS,
  .X_SPR_F_END, .X_SPR_F_FAIL1, .X_SPR_F_UNC, .X_SPR_F_SKIP, .X_POOL_FRAME, .X_POOL_ACCT, .POOL_G_CHARGE_CHARGE]

/-- What a loss of lock changes of a spread group. -/
def huntFields : List F := [.SPR_G_EVENTS_LOCK_LOST, .SPR_G_STATUS_STATE, .X_SPR_WAIT, .X_SPR_GOOD, .SPR_G_STATUS_ANCHOR,
  .X_SPR_REJOIN] ++ (dropLockFields ++ triggerFields)

/-- What a change of the source that times a port changes. -/
def timingFields : List F := [.X_HOST_TFROM, .X_HOST_TCLK, .X_HOST_TSRC, .X_HOST_AFREQ]

section
variable {L M : List F} (d : Dev)

theorem Dev.toTaps_keeps (mask src info time : Nat) (falling : Bool) (lanes : List Nat) :
    Dev.Keeps L M d (d.toTaps mask src info time falling lanes) := by
  unfold Dev.toTaps
  dsimp only
  split
  · exact .refl d
  · exact ⟨fun _ _ _ => rfl, fun _ _ _ => rfl, fun _ h => h, rfl⟩

theorem Dev.xtrigEvent_keeps (src : Nat) (hL : ∀ f ∈ triggerFields, f ∉ L) : Dev.Keeps L M d (d.xtrigEvent src) := by
  have hsig : ∀ f ∈ L, f ∉ signalFields := fun f hf h => hL f (List.mem_append_right _ h) hf
  refine .each (fun j e => ?_) d
  split
  · split
    · exact ((Dev.Keeps.refl e).set 0 _ (hL .CAP_XTRIG_STATUS_MERGED (by decide))).raise 801 hsig
    · have hend : Dev.Keeps L M e ((e.set .X_XTRIG_END j (e.clk + cycleSpan (e.get .X_TIME_PHASE 0) 9)).send (.xtrig j)) :=
        ((Dev.Keeps.refl e).set (f := .X_XTRIG_END) j _ (hL _ (by decide))).send _
      exact hend.trans (Dev.toTaps_keeps _ _ _ _ _ _ _)
  · exact .refl e

theorem Dev.trigger_keeps (src lane info time : Nat) (hL : ∀ f ∈ triggerFields, f ∉ L) :
    Dev.Keeps L M d (d.trigger src lane info time) :=
  (d.toTaps_keeps ..).trans (Dev.xtrigEvent_keeps _ _ hL)

theorem Dev.toHunt_keeps (g : Nat) (hL : ∀ f ∈ huntFields, f ∉ L) : Dev.Keeps L M d (d.toHunt g) := by
  have htrig : ∀ f ∈ triggerFields, f ∉ L := fun f hf => hL f (List.mem_append_right _ (List.mem_append_right _ hf))
  have hsig : ∀ f ∈ L, f ∉ signalFields := fun f hf h => htrig f (List.mem_append_right _ h) hf
  have hdrop : Dev.Keeps L M d (d.dropLock g) := by
    unfold Dev.dropLock
    split
    · extract_lets b1 b2
      have h1 : Dev.Keeps L M d b1 := ((Dev.Keeps.refl d).set (f := .SPR_G_EVENTS_LOCK_LOST) g 1 (hL _ (by decide))).setAll
        (fs := dropLockFields) g 0 fun f hf => hL f (List.mem_append_right _ (List.mem_append_left _ hf))
      clear_value b1
      have h2 : Dev.Keeps L M d b2 := h1.trans ⟨fun _ _ _ => rfl, fun _ _ _ => rfl, fun _ h => h, rfl⟩
      clear_value b2
      exact (h2.raise _ hsig).trans (Dev.trigger_keeps _ _ _ _ _ htrig)
    · exact .refl d
  unfold Dev.toHunt
  exact ((hdrop.set (f := .SPR_G_STATUS_STATE) g _ (hL _ (by decide))).set (f := .X_SPR_WAIT) g 1 (hL _ (by decide))).set
    (f := .X_SPR_GOOD) g 0 (hL _ (by decide))

theorem Dev.groupLaneLost_keeps (n : Nat) (hL : ∀ f ∈ huntFields, f ∉ L) : Dev.Keeps L M d (d.groupLaneLost n) := by
  unfold Dev.groupLaneLost
  extract_lets g b
  have hb : Dev.Keeps L M d b := ((Dev.Keeps.refl d).set (f := .SPR_G_STATUS_ANCHOR) g _ (hL _ (by decide))).set
    (f := .X_SPR_REJOIN) n 0 (hL _ (by decide))
  clear_value b
  split
  · exact (hb.set (f := .SPR_G_STATUS_STATE) g _ (hL _ (by decide))).set (f := .X_SPR_GOOD) g 0 (hL _ (by decide))
  · split
    · exact hb.trans (b.toHunt_keeps g hL)
    · exact hb

theorem Dev.followTiming_keeps (n : Nat) (hL : ∀ f ∈ timingFields, f ∉ L) : Dev.Keeps L M d (Dev.followTiming n d) := by
  unfold Dev.followTiming
  extract_lets s b
  split
  · exact .refl d
  · have hb : Dev.Keeps L M d b := (((Dev.Keeps.refl d).set (f := .X_HOST_TFROM) n _ (hL _ (by decide))).set (f := .X_HOST_TCLK) n _
      (hL _ (by decide))).set (f := .X_HOST_TSRC) n s (hL _ (by decide))
    clear_value b
    split
    · exact (hb.set (f := .X_HOST_AFREQ) n _ (hL _ (by decide))).trans ⟨fun _ _ _ => rfl, fun _ _ _ => rfl, fun _ h => h, rfl⟩
    · exact hb

theorem Dev.groupTiming_keeps (n : Nat) (hL : ∀ f ∈ timingFields, f ∉ L) : Dev.Keeps L M d (d.groupTiming n) :=
  .foldl (fun e m => e.followTiming_keeps m hL) _ d

theorem Dev.syncTx_keeps (n : Nat) (hL : ∀ f ∈ L, f ∉ followFields) : Dev.Keeps L M d (d.syncTx n) :=
  .ofOnly ((d.syncTx_only n).mono fun _ _ h => h.2) hL

end

/-! ## A lane leaves LOCKED -/

/-- What the loss of a lane's lock shows. -/
def lostFields : List F := [.LRX_STATUS_LOCKED, .LRX_EVENTS_LOCK_LOST, .LRX_VALID_STATUS_LAST_CHANGE]

/-- What a lane keeps beside them that leaves LOCKED. -/
def laneKept : List F := [.LRX_STATUS_STATE, .LRX_STATUS_SIGNAL, .LRX_EVENTS_LOS, .LRX_TR_STATUS_SLIPS, .X_LRX_SD_CLK]

theorem Dev.openWindow_only (d : Dev) (n code : Nat) : Dev.Only (fun f _ => f ∈ [F.LRX_VALID_STATUS_LAST_CHANGE,
    .LRX_VALID_STATUS_WINDOW, .X_LRX_WLEN, .X_LRX_WCODE]) d (d.openWindow n code) := by
  unfold Dev.openWindow
  split
  · exact .refl _ d
  · have hin : ∀ f ∈ [F.LRX_VALID_STATUS_WINDOW, .X_LRX_WLEN], f ∈ [F.LRX_VALID_STATUS_LAST_CHANGE, .LRX_VALID_STATUS_WINDOW,
      .X_LRX_WLEN, .X_LRX_WCODE] := by decide
    exact (((Dev.Only.refl _ d).write .LRX_VALID_STATUS_LAST_CHANGE n code).setAll 8191 hin).write .X_LRX_WCODE n code

theorem Dev.openWindow_change {d : Dev} {n : Nat} (code : Nat) (h : d.get .X_LRX_WLEN n ≠ 8191) :
    (d.openWindow n code).get .LRX_VALID_STATUS_LAST_CHANGE n = code := by
  unfold Dev.openWindow
  rw [if_neg fun hc => h hc.1, Dev.get_set_field _ _ _ _ (by decide), Dev.setAll_get_field _ _ _ _ (by decide), Dev.get_set_same]

/-- R118, R127: what a LOCKED lane shows that leaves LOCKED. -/
theorem Dev.leaveLocked_lost {d : Dev} {n : Nat} (h : d.rx n = rxLOCKED) {e : Dev} (he : e = d.leaveLocked n) :
    Dev.Keeps laneKept [.LRX_CTRL_ANALOG_LOOP] d e ∧ e.get .LRX_STATUS_LOCKED n = 0 ∧ e.get .LRX_EVENTS_LOCK_LOST n = 1 ∧
      64 + 8 * n + 1 ∈ e.pending ∧ (d.get .X_LRX_WLEN n ≠ 8191 → e.get .LRX_VALID_STATUS_LAST_CHANGE n = 8) := by
  have hlocked : d.rxLocked n = true := beq_iff_eq.mpr h
  unfold Dev.leaveLocked at he
  rw [if_pos hlocked] at he
  extract_lets b at he
  have hb : Dev.Only (fun f _ => f ∈ [F.LRX_STATUS_LOCKED, .LRX_EVENTS_LOCK_LOST, .X_LRX_LOST] ++ adaptFields) d b := by
    have hin : ∀ f ∈ [F.LRX_EVENTS_LOCK_LOST, .X_LRX_LOST], f ∈ [F.LRX_STATUS_LOCKED, .LRX_EVENTS_LOCK_LOST, .X_LRX_LOST] ++ adaptFields := by
      decide
    exact (((d.saveAdapt_only n).mono fun f _ hf => List.mem_append_right _ hf).write .LRX_STATUS_LOCKED n 0).setAll 1 hin
  have hbl : b.get .LRX_STATUS_LOCKED n = 0 := (Dev.setAll_get_field _ _ _ _ (by decide)).trans (Dev.get_set_same ..)
  have hbe : b.get .LRX_EVENTS_LOCK_LOST n = 1 := Dev.setAll_get_of_mem _ _ _ (by decide)
  clear_value b
  have hwin := b.openWindow_only n 8
  have hchange : d.get .X_LRX_WLEN n ≠ 8191 → (b.openWindow n 8).get .LRX_VALID_STATUS_LAST_CHANGE n = 8 := fun hw =>
    Dev.openWindow_change 8 (by rwa [hb.keeps _ _])
  generalize b.openWindow n 8 = c at he hwin hchange
  have hsig : ∀ f ∈ lostFields ++ laneKept, f ∉ signalFields := by decide
  have hpend : 64 + 8 * n + 1 ∈ (c.raiseLane n 1).pending := by
    unfold Dev.raiseLane
    rw [(raise_raised c (by omega)).1]
    exact (mem_insertNat ..).mpr (.inl rfl)
  have hrest : Dev.Keeps (lostFields ++ laneKept) [.LRX_CTRL_ANALOG_LOOP] (c.raiseLane n 1) e := by
    rw [he]
    generalize c.raiseLane n 1 = x
    refine Dev.Keeps.trans ?_ (Dev.syncTx_keeps _ n (by decide))
    refine Dev.Keeps.trans ?_ (Dev.groupTiming_keeps _ n (by decide))
    refine Dev.Keeps.trans ?_ (Dev.groupLaneLost_keeps _ n (by decide))
    exact x.trigger_keeps _ _ _ _ (by decide)
  have hraise : Dev.Keeps (lostFields ++ laneKept) [.LRX_CTRL_ANALOG_LOOP] c e :=
    ((Dev.Keeps.refl c).raise (64 + 8 * n + 1) hsig).trans hrest
  have hall : Dev.Keeps laneKept [.LRX_CTRL_ANALOG_LOOP] d e :=
    ((Dev.Keeps.ofOnly hb (by decide)).trans (.ofOnly hwin (by decide))).trans
      (hraise.mono (fun f hf => List.mem_append_right _ hf) fun _ hf => hf)
  exact ⟨hall, (hraise.get _ (by decide) n).trans ((hwin.keeps _ _).trans hbl),
    (hraise.get _ (by decide) n).trans ((hwin.keeps _ _).trans hbe), hrest.pending _ hpend,
    fun hw => (hraise.get _ (by decide) n).trans (hchange hw)⟩

theorem Dev.leaveLocked_keeps (d : Dev) (n : Nat) : Dev.Keeps laneKept [.LRX_CTRL_ANALOG_LOOP] d (d.leaveLocked n) := by
  by_cases h : d.rx n = rxLOCKED
  · exact (Dev.leaveLocked_lost h rfl).1
  · have hout : ¬ d.rxLocked n = true := fun hl => h (beq_iff_eq.mp hl)
    unfold Dev.leaveLocked
    rw [if_neg hout]
    exact .refl d

/-! ## The entry of GAIN and of WAIT_SIGNAL -/

/-- What the begin of an acquisition changes. -/
def gainFields : List F := [.LRX_STATUS_STATE, .LRX_STATUS_CLERK_FROZEN, .X_LRX_ACQ, .X_LRX_SNR_OK, .X_LRX_SNR_LOW, .X_LRX_TRIAL,
  .X_LRX_BEST_SNR]

/-- What the entry of WAIT_SIGNAL changes. -/
def waitFields : List F := [.LRX_STATUS_TIMING_LOCK, .LRX_STATUS_EQ_CONV, .COUR_L_STATUS_RX_STATE, .COUR_L_RX_ABANDONED_COUNT] ++ gainFields

theorem Dev.beginAcq_only (d : Dev) (n : Nat) : Dev.OnlyAt gainFields n d (d.beginAcq n) := by
  have hin : ∀ f ∈ [F.X_LRX_SNR_OK, .X_LRX_SNR_LOW], f ∈ gainFields := by decide
  exact Dev.Only.setAll 0 ((Dev.OnlyAt.write (.refl _ d) .X_LRX_ACQ 0).write .LRX_STATUS_CLERK_FROZEN 0) fun f hf => ⟨rfl, hin f hf⟩

theorem Dev.enterGain_gains (d : Dev) (n : Nat) : (d.enterGain n).rx n = rxGAIN ∧ (d.enterGain n).get .X_LRX_ACQ n = 0 ∧
    Dev.OnlyAt gainFields n d (d.enterGain n) := by
  refine ⟨?_, ?_, (((d.beginAcq_only n).write .LRX_STATUS_STATE rxGAIN).write .X_LRX_TRIAL 0).write .X_LRX_BEST_SNR 0⟩
  · exact (Dev.get_set_field _ _ _ _ (by decide)).trans ((Dev.get_set_field _ _ _ _ (by decide)).trans (Dev.get_set_same ..))
  · refine (Dev.get_set_field _ _ _ _ (by decide)).trans ((Dev.get_set_field _ _ _ _ (by decide)).trans
      ((Dev.get_set_field _ _ _ _ (by decide)).trans ((Dev.setAll_get_field _ _ _ _ (by decide)).trans ?_)))
    exact (Dev.get_set_field _ _ _ _ (by decide)).trans (Dev.get_set_same ..)

theorem Dev.syncCourRx_only (d : Dev) (n : Nat) :
    Dev.OnlyAt [.COUR_L_STATUS_RX_STATE, .COUR_L_RX_ABANDONED_COUNT] n d (d.syncCourRx n) := by
  unfold Dev.syncCourRx
  extract_lets st b
  split
  · split
    · exact Dev.OnlyAt.write (.refl _ d) .COUR_L_STATUS_RX_STATE crIDLE
    · exact .refl _ d
  · split
    · exact .refl _ d
    · have hb : Dev.OnlyAt [.COUR_L_STATUS_RX_STATE, .COUR_L_RX_ABANDONED_COUNT] n d b := by
        unfold b
        split
        · exact .refl _ d
        · exact Dev.OnlyAt.write (.refl _ d) .COUR_L_RX_ABANDONED_COUNT _
      exact hb.write .COUR_L_STATUS_RX_STATE crOFF

/-- R119: a lane enters WAIT_SIGNAL, and GAIN at once with signal detect asserted. -/
theorem Dev.enterWait_enters (d : Dev) (n : Nat) {e : Dev} (he : e = d.enterWait n) : Dev.OnlyAt waitFields n d e ∧
    e.get .LRX_STATUS_TIMING_LOCK n = 0 ∧ (d.get .LRX_STATUS_SIGNAL n ≠ 1 → d.looped n = false → e.rx n = rxWAIT) ∧
    (d.get .LRX_STATUS_SIGNAL n = 1 → e.rx n = rxGAIN ∧ e.get .X_LRX_ACQ n = 0) := by
  unfold Dev.enterWait at he
  extract_lets b at he
  generalize ha : (d.set .LRX_STATUS_STATE n rxWAIT).setAll [.LRX_STATUS_TIMING_LOCK, .LRX_STATUS_EQ_CONV] n 0 = a at b
  have hain : Dev.OnlyAt waitFields n d a := by
    have hin : ∀ f ∈ [F.LRX_STATUS_TIMING_LOCK, .LRX_STATUS_EQ_CONV], f ∈ waitFields := by decide
    rw [← ha]
    exact Dev.Only.setAll 0 (Dev.OnlyAt.write (.refl _ d) .LRX_STATUS_STATE rxWAIT) fun f hf => ⟨rfl, hin f hf⟩
  have harx : a.rx n = rxWAIT := ha ▸ (Dev.setAll_get_field _ _ _ _ (by decide)).trans (Dev.get_set_same ..)
  have hatl : a.get .LRX_STATUS_TIMING_LOCK n = 0 := ha ▸ Dev.setAll_get_of_mem _ _ _ (by decide)
  have hcour := a.syncCourRx_only n
  have hb : b = a.syncCourRx n := by
    unfold b
    rw [ha]
  clear_value b
  rw [← hb] at hcour
  have hbin : Dev.OnlyAt waitFields n d b := Dev.Only.trans hain (hcour.mono fun f _ hf => ⟨hf.1, List.mem_append_left _
    (by revert hf f; rintro f ⟨-, hf⟩; revert hf f; decide)⟩)
  have hkeep : ∀ f, f ∉ [F.COUR_L_STATUS_RX_STATE, .COUR_L_RX_ABANDONED_COUNT] → b.get f n = a.get f n := fun f hf =>
    hcour.2 f n fun h => hf h.2
  have hsignal : b.get .LRX_STATUS_SIGNAL n = d.get .LRX_STATUS_SIGNAL n := hbin.2 _ _ fun h => absurd h.2 (by decide)
  have hloop : b.looped n = d.looped n := by
    unfold Dev.looped Dev.lon Dev.lget
    rw [hbin.1]
  obtain ⟨hg1, hg2, hg3⟩ := b.enterGain_gains n
  have hgkeep : Dev.OnlyAt waitFields n b (b.enterGain n) := hg3.mono fun f _ hf => ⟨hf.1, List.mem_append_right _ hf.2⟩
  rw [he]
  by_cases hon : (b.on .LRX_STATUS_SIGNAL n || b.looped n) = true
  · rw [if_pos hon]
    refine ⟨Dev.Only.trans hbin hgkeep, ?_, fun h1 h2 => ?_, fun _ => ⟨hg1, hg2⟩⟩
    · exact (hg3.2 _ _ fun h => absurd h.2 (by decide)).trans ((hkeep _ (by decide)).trans hatl)
    · rw [hloop, h2, Bool.or_false] at hon
      exact absurd (hsignal.symm.trans (beq_iff_eq.mp hon)) h1
  · rw [if_neg hon]
    refine ⟨hbin, (hkeep _ (by decide)).trans hatl, fun _ _ => (hkeep _ (by decide)).trans harx, fun h => absurd ?_ hon⟩
    rw [show b.on .LRX_STATUS_SIGNAL n = true from beq_iff_eq.mpr (hsignal.trans h), Bool.true_or]

/-! ## Seeds (R111, R112, R120) -/

/-- What a choice of seeds keeps of a lane. -/
def seedKept : List F := .LRX_EVENTS_ACQ_FAIL :: laneKept

theorem levelF_mem (j : Nat) : levelF j ∈ [F.LRX_DET_LIVE_LEVEL0, .LRX_DET_LIVE_LEVEL1, .LRX_DET_LIVE_LEVEL2, .LRX_DET_LIVE_LEVEL3] := by
  unfold levelF
  split <;> decide

theorem levelF_notMem {j : Nat} {M : List F} (h : ∀ f ∈ [F.LRX_DET_LIVE_LEVEL0, .LRX_DET_LIVE_LEVEL1, .LRX_DET_LIVE_LEVEL2,
    .LRX_DET_LIVE_LEVEL3], f ∉ M := by decide) : levelF j ∉ M := h _ (levelF_mem j)

theorem Dev.bounded_keeps {n count : Nat} {g : Nat → Dev × Bool → Dev × Bool} (d : Dev)
    (hg : ∀ i p, Dev.Keeps seedKept [.LRX_CTRL_ANALOG_LOOP] p.1 (g i p).1) :
    Dev.Keeps seedKept [.LRX_CTRL_ANALOG_LOOP] d (Dev.bounded n count g d) := by
  unfold Dev.bounded
  have hp : Dev.Keeps seedKept [.LRX_CTRL_ANALOG_LOOP] d ((List.range count).foldl (fun p i => g i p) (d, false)).1 :=
    List.foldlRecOn (List.range count) _ (motive := fun p : Dev × Bool => Dev.Keeps seedKept [.LRX_CTRL_ANALOG_LOOP] d p.1) (.refl d)
      fun p hp i _ => hp.trans (hg i p)
  generalize (List.range count).foldl (fun p i => g i p) (d, false) = p at hp
  dsimp only
  split
  · unfold Dev.boundHit Dev.raiseLane
    exact (hp.set (f := .LRX_EVENTS_BOUND_HIT) n 1 (by decide)).raise _ (by decide)
  · exact hp

theorem Dev.chooseSeeds_keeps (d : Dev) (n : Nat) : Dev.Keeps seedKept [.LRX_CTRL_ANALOG_LOOP] d (d.chooseSeeds n) := by
  unfold Dev.chooseSeeds
  dsimp only
  split
  · refine ((Dev.bounded_keeps d ?_).trans (Dev.bounded_keeps _ ?_)).trans (Dev.bounded_keeps _ ?_)
    · exact fun i p => (Dev.Keeps.refl p.1).lset _ _ (by decide)
    · exact fun i p => (Dev.Keeps.refl p.1).lset _ _ (by decide)
    · exact fun i p => (Dev.Keeps.refl p.1).lset _ _ levelF_notMem
  · split
    · refine ((Dev.Keeps.each ?_ d).trans (.each ?_ _)).trans (.each ?_ _)
      · exact fun i e => (Dev.Keeps.refl e).lset _ _ (by decide)
      · exact fun i e => (Dev.Keeps.refl e).lset _ _ (by decide)
      · exact fun i e => (Dev.Keeps.refl e).lset _ _ levelF_notMem
    · refine ((Dev.Keeps.each ?_ d).trans (.each ?_ _)).trans (.each ?_ _)
      · exact fun i e => (Dev.Keeps.refl e).lset _ _ (by decide)
      · exact fun i e => (Dev.Keeps.refl e).lset _ _ (by decide)
      · exact fun i e => (Dev.Keeps.refl e).lset _ _ levelF_notMem

/-- What a loop leaves that makes a live field at one index after another. -/
theorem Dev.each_lset_lget (d : Dev) (f : F) (b : Nat) (v : Nat → Nat) {n i : Nat} (hi : i < n) :
    (Dev.each n (fun i d => d.lset f (b + i) (v i)) d).lget f (b + i) = v i := by
  induction n with
  | zero => omega
  | succ n ih =>
    rw [Dev.each_succ]
    rcases Nat.lt_succ_iff_lt_or_eq.mp hi with hlt | rfl
    · have hne : (⟨f, b + i⟩ : Key) ≠ ⟨f, b + n⟩ := fun h => by
        have := congrArg Key.i h
        simp only at this
        omega
      exact (Store.get_set_other _ _ hne).trans (ih hlt)
    · exact Dev.lget_lset_same ..

/-- R120: without seeds the FFE starts from its middle tap alone. -/
theorem Dev.chooseSeeds_plain {d : Dev} {n : Nat} (h : d.lget .LRX_FFE_CTRL_SEED_SRC n = 2) {i : Nat} (hi : i < 48) :
    (d.chooseSeeds n).lget .LRX_FFE_TAP_LIVE (48 * n + i) = if i = 12 then 256 else 0 := by
  unfold Dev.chooseSeeds
  dsimp only
  rw [h, if_neg (by decide), if_neg fun hc => absurd hc.1 (by decide)]
  have htap := d.each_lset_lget .LRX_FFE_TAP_LIVE (48 * n) (fun i => if i = 12 then 256 else 0) hi
  generalize Dev.each 48 _ d = a at htap ⊢
  have hrest : Dev.Keeps [] [.LRX_FFE_TAP_LIVE] a (Dev.each 4 (fun j d => d.lset (levelF j) n (ux 8 ((64 : Int) * j - 96)))
      (Dev.each 64 (fun j d => d.lset .LRX_NLC_ENTRY_LIVE (64 * n + j) 0) a)) :=
    (Dev.Keeps.each (fun j e => (Dev.Keeps.refl e).lset _ _ (by decide)) a).trans
      (.each (fun j e => (Dev.Keeps.refl e).lset _ _ levelF_notMem) _)
  exact (hrest.lget _ (by decide) _).trans htap

/-! ## The events of a lane -/

/-- R96: the input of a lane is judged that has power and is not looped. -/
theorem Dev.judgesSignal_of {d : Dev} {n : Nat} (h1 : 1 ≤ d.rx n) (h2 : d.rx n ≤ 5) (hloop : d.looped n = false)
    (hon : d.domOn (domRx n) = true) : d.judgesSignal n = true := by
  have hoff : (d.rx n != rxOFF) = true := bne_iff_ne.mpr (show d.rx n ≠ 0 by omega)
  have hasleep : (d.rx n != rxASLEEP) = true := bne_iff_ne.mpr (show d.rx n ≠ 6 by omega)
  unfold Dev.judgesSignal
  rw [hon, hloop, hoff, hasleep]
  rfl

/-- R96, R118: the input of a lane is too low for 1 µs. -/
theorem signalDetect_lost {n : Fin 64} {amp : Byte} {s : State} (h1 : 1 ≤ s.dev.rx n) (h2 : s.dev.rx n ≤ 5)
    (hloop : s.dev.looped n = false) (hon : s.dev.domOn (domRx n) = true)
    (hamp : 4 * amp.toNat < 3 * clampN 20 100 (s.dev.lget .LRX_FE_SD_THR n)) (hclk : s.dev.get .X_LRX_SD_CLK n + us ≤ s.dev.clk)
    (hsig : s.dev.get .LRX_STATUS_SIGNAL n = 1) (hwlen : s.dev.get .X_LRX_WLEN n ≠ 8191) :
    Completes (.signalDetectDeassert n amp) s fun e => e.rx n = rxWAIT ∧ e.get .LRX_STATUS_SIGNAL n = 0 ∧
      e.get .LRX_EVENTS_LOS n = 1 ∧ e.get .LRX_STATUS_TIMING_LOCK n = 0 ∧ 64 + 8 * n.val ∈ e.pending ∧
      (s.dev.rx n = rxLOCKED → e.get .LRX_STATUS_LOCKED n = 0 ∧ e.get .LRX_EVENTS_LOCK_LOST n = 1 ∧
        e.get .LRX_VALID_STATUS_LAST_CHANGE n = 8 ∧ 64 + 8 * n.val + 1 ∈ e.pending) := by
  have hjudge : s.found.judgesSignal n = true := Dev.judgesSignal_of h1 h2 hloop hon
  have hcond : (s.found.judgesSignal n && s.found.on .LRX_STATUS_SIGNAL n && decide (4 * amp.toNat < 3 * s.found.sdLevel n)) = true := by
    have hlow : 4 * amp.toNat < 3 * s.found.sdLevel n := hamp
    rw [hjudge, show s.found.on .LRX_STATUS_SIGNAL n = true from beq_iff_eq.mpr hsig, decide_eq_true hlow]
    rfl
  have hclk : s.found.get .X_LRX_SD_CLK n + us ≤ s.found.clk := hclk
  refine .runIf (rfl : _ = execSignalDetectDeassert n amp s) hcond fun e he => ?_
  rw [Dev.onTime_of_le hclk] at he
  extract_lets b at he
  have hpend : 64 + 8 * n.val ∈ b.pending := by
    have := (raise_raised ((s.found.set .LRX_STATUS_SIGNAL n 0).set .LRX_EVENTS_LOS n 1) (s := 64 + 8 * n.val + 0) (by omega)).1
    exact this.symm ▸ (mem_insertNat ..).mpr (.inl rfl)
  have hget : ∀ f, f ∉ signalFields → f ∉ [F.X_LRX_SD_CLK, .LRX_STATUS_SIGNAL, .LRX_EVENTS_LOS] → b.get f n = s.dev.get f n :=
    fun f hs hf => by
    simp only [List.mem_cons, List.not_mem_nil, or_false, not_or] at hf
    obtain ⟨hclk, hsig, hlos⟩ := hf
    rw [show b.get f n = _ from Dev.get_set_field _ _ _ _ hclk, Dev.raiseLane, raise_get _ _ _ _ hs, Dev.get_set_field _ _ _ _ hlos,
      Dev.get_set_field _ _ _ _ hsig]
    rfl
  have hsig0 : b.get .LRX_STATUS_SIGNAL n = 0 := by
    rw [show b.get .LRX_STATUS_SIGNAL n = _ from Dev.get_set_field _ _ _ _ (by decide), Dev.raiseLane, raise_get _ _ _ _ (by decide),
      Dev.get_set_field _ _ _ _ (by decide), Dev.get_set_same]
  have hlos : b.get .LRX_EVENTS_LOS n = 1 := by
    rw [show b.get .LRX_EVENTS_LOS n = _ from Dev.get_set_field _ _ _ _ (by decide), Dev.raiseLane, raise_get _ _ _ _ (by decide),
      Dev.get_set_same]
  have hlget : ∀ f i, b.lget f i = s.dev.lget f i := fun f i => by
    rw [show b.lget f i = _ from Dev.lget_set .., Dev.raiseLane, raise_lget]
    rfl
  clear_value b
  have hkeep := b.leaveLocked_keeps n
  have hlost : ∀ _ : b.rx n = rxLOCKED, _ := fun h => Dev.leaveLocked_lost h rfl
  generalize b.leaveLocked n = c at he hkeep hlost
  obtain ⟨hw1, hw2, hw3, -⟩ := c.enterWait_enters n he
  have hcsig : c.get .LRX_STATUS_SIGNAL n = 0 := (hkeep.get _ (by decide) n).trans hsig0
  have hcloop : c.looped n = false := by
    rw [← hloop]
    unfold Dev.looped Dev.lon
    rw [hkeep.lget _ (by decide), hlget]
  have hekeep : ∀ f, f ∉ waitFields → e.get f n = c.get f n := fun f hf => hw1.2 f n fun h => hf h.2
  have hepend : e.pending = c.pending := by rw [hw1.1]
  refine ⟨hw3 (by rw [hcsig]; decide) hcloop, (hekeep _ (by decide)).trans hcsig,
    (hekeep _ (by decide)).trans ((hkeep.get _ (by decide) n).trans hlos), hw2, by rw [hepend]; exact hkeep.pending _ hpend, fun hlocked => ?_⟩
  have hrx : b.rx n = rxLOCKED := (hget _ (by decide) (by decide)).trans hlocked
  obtain ⟨-, hl1, hl2, hl3, hl4⟩ := hlost hrx
  exact ⟨(hekeep _ (by decide)).trans hl1, (hekeep _ (by decide)).trans hl2,
    (hekeep _ (by decide)).trans (hl4 (by rwa [hget _ (by decide) (by decide)])), by rw [hepend]; exact hl3⟩

/-- R118: a cycle slip of a LOCKED lane. -/
theorem cycleSlip_unlocks {n : Fin 64} {s : State} (hrx : s.dev.rx n = rxLOCKED) : Completes (.cycleSlip n) s fun e =>
    e.rx n = rxTIMING ∧ e.get .LRX_STATUS_LOCKED n = 0 ∧ e.get .LRX_EVENTS_LOCK_LOST n = 1 ∧
      e.get .LRX_TR_STATUS_SLIPS n = satAdd F.LRX_TR_STATUS_SLIPS.width (s.dev.get .LRX_TR_STATUS_SLIPS n) 1 := by
  have hlocked : (s.found.addSat .LRX_TR_STATUS_SLIPS n 1).rx n = rxLOCKED := (Dev.get_set_field _ _ _ _ (by decide)).trans hrx
  have hon : (s.found.addSat .LRX_TR_STATUS_SLIPS n 1).rxLocked n = true := beq_iff_eq.mpr hlocked
  refine .runAs (rfl : _ = execCycleSlip n s) fun e he => ?_
  replace he := he.trans (if_pos hon)
  obtain ⟨hkeep, h1, h2, -, -⟩ := Dev.leaveLocked_lost hlocked rfl
  have hslips : (s.found.addSat .LRX_TR_STATUS_SLIPS n 1).get .LRX_TR_STATUS_SLIPS n =
      satAdd F.LRX_TR_STATUS_SLIPS.width (s.dev.get .LRX_TR_STATUS_SLIPS n) 1 := Dev.get_set_same ..
  generalize (s.found.addSat .LRX_TR_STATUS_SLIPS n 1).leaveLocked n = c at he hkeep h1 h2
  have hsync := (((c.beginAcq n).set .LRX_STATUS_STATE n rxTIMING).set .LRX_STATUS_TIMING_LOCK n 0).syncCourRx_only n
  rw [← he] at hsync
  have hacq := c.beginAcq_only n
  have hekeep : ∀ f, f ∉ [F.COUR_L_STATUS_RX_STATE, .COUR_L_RX_ABANDONED_COUNT, .LRX_STATUS_TIMING_LOCK, .LRX_STATUS_STATE] →
      f ∉ gainFields → e.get f n = c.get f n := fun f hf hg => by
    simp only [List.mem_cons, List.not_mem_nil, or_false, not_or] at hf
    obtain ⟨hf1, hf2, hf3, hf4⟩ := hf
    rw [hsync.2 f n (by simp [hf1, hf2]), Dev.get_set_field _ _ _ _ hf3, Dev.get_set_field _ _ _ _ hf4]
    exact hacq.2 f n fun h => hg h.2
  refine ⟨?_, (hekeep _ (by decide) (by decide)).trans h1, (hekeep _ (by decide) (by decide)).trans h2,
    (hekeep _ (by decide) (by decide)).trans ((hkeep.get _ (by decide) n).trans hslips)⟩
  exact (hsync.2 .LRX_STATUS_STATE n fun h => absurd h.2 (by decide)).trans
    ((Dev.get_set_field _ _ _ _ (by decide)).trans (Dev.get_set_same ..))

/-- R119: the acquisition limit is reached. -/
theorem acqFail_restarts {n : Fin 64} {s : State} (h2 : 2 ≤ s.dev.rx n) (h4 : s.dev.rx n ≤ 4)
    (hlimit : 4 * max 1 (s.dev.lget .LRX_LOCK_CFG_ACQ_LIMIT n) ≤ s.dev.get .X_LRX_ACQ n) : Completes (.acqFail n) s fun e =>
      e.get .LRX_EVENTS_ACQ_FAIL n = 1 ∧ 64 + 8 * n.val + 2 ∈ e.pending ∧
      (s.dev.get .LRX_STATUS_SIGNAL n = 1 → e.rx n = rxGAIN ∧ e.get .X_LRX_ACQ n = 0) ∧
      (s.dev.get .LRX_STATUS_SIGNAL n = 0 → s.dev.looped n = false → e.rx n = rxWAIT) ∧
      (s.dev.lget .LRX_FFE_CTRL_SEED_SRC n = 2 → ∀ i < 48,
        e.lget .LRX_FFE_TAP_LIVE (48 * n + i) = if i = 12 then 256 else 0) := by
  refine .runIf (rfl : _ = execAcqFail n s) ⟨h2, h4, hlimit⟩ fun e he => ?_
  generalize hb : (s.found.set .LRX_EVENTS_ACQ_FAIL n 1).raiseLane n 2 = b at he
  have hfail : b.get .LRX_EVENTS_ACQ_FAIL n = 1 := hb ▸ (raise_get _ _ _ _ (by decide)).trans (Dev.get_set_same ..)
  have hsignal : b.get .LRX_STATUS_SIGNAL n = s.dev.get .LRX_STATUS_SIGNAL n :=
    hb ▸ (raise_get _ _ _ _ (by decide)).trans (Dev.get_set_field _ _ _ _ (by decide))
  have hlget : ∀ f i, b.lget f i = s.dev.lget f i := fun f i => hb ▸ raise_lget _ _ _ _
  have hpend : 64 + 8 * n.val + 2 ∈ b.pending := by
    rw [← hb, Dev.raiseLane, (raise_raised _ (by omega)).1]
    exact (mem_insertNat ..).mpr (.inl rfl)
  have hseed := b.chooseSeeds_keeps n
  have hplain : ∀ _ : b.lget .LRX_FFE_CTRL_SEED_SRC n = 2, ∀ i < 48, (b.chooseSeeds n).lget .LRX_FFE_TAP_LIVE (48 * n + i) = _ :=
    fun h i hi => Dev.chooseSeeds_plain h hi
  generalize b.chooseSeeds n = c at he hseed hplain
  obtain ⟨hw1, -, hw3, hw4⟩ := c.enterWait_enters n he
  have hcsig : c.get .LRX_STATUS_SIGNAL n = s.dev.get .LRX_STATUS_SIGNAL n := (hseed.get _ (by decide) n).trans hsignal
  refine ⟨(hw1.2 _ _ fun h => absurd h.2 (by decide)).trans ((hseed.get _ (by decide) n).trans hfail), ?_,
    fun h => hw4 (hcsig.trans h), fun h hl => hw3 (by rw [hcsig, h]; decide) ?_, fun h i hi => ?_⟩
  · rw [hw1.1]
    exact hseed.pending _ hpend
  · rw [← hl]
    unfold Dev.looped Dev.lon
    rw [hseed.lget _ (by decide), hlget]
  · rw [← hplain ((hlget _ _).trans h) i hi]
    unfold Dev.lget
    rw [hw1.1]

/-- R141: the driver asks for a restart. -/
theorem reacquire_asks (n : Fin 64) (s : State) : Completes (.reacquire n) s fun e => e.get .X_LRX_REACQ n = 1 ∧
    e.get .X_LRX_REACQ_LAST n = s.dev.clk ∧ (s.dev.get .X_LRX_REACQ n ≠ 1 → e.get .X_LRX_REACQ_CLK n = s.dev.clk) ∧
    Dev.OnlyAt [.X_LRX_REACQ, .X_LRX_REACQ_CLK, .X_LRX_REACQ_LAST] n s.dev e := by
  refine .runAs (rfl : _ = execReacquire n s) fun e he => ?_
  replace he : e = s.found.askWrite .X_LRX_REACQ .X_LRX_REACQ_CLK .X_LRX_REACQ_LAST n := he
  unfold Dev.askWrite at he
  have hrefl : Dev.OnlyAt [.X_LRX_REACQ, .X_LRX_REACQ_CLK, .X_LRX_REACQ_LAST] n s.found s.found := .refl _ _
  by_cases hon : s.found.on .X_LRX_REACQ n = true
  · rw [if_pos hon] at he
    rw [he]
    exact ⟨(Dev.get_set_field _ _ _ _ (by decide)).trans (beq_iff_eq.mp hon), Dev.get_set_same ..,
      fun h => absurd (beq_iff_eq.mp hon) h, Dev.Only.ofFound (hrefl.write .X_LRX_REACQ_LAST _)⟩
  · rw [if_neg hon] at he
    rw [he]
    exact ⟨(Dev.get_set_field _ _ _ _ (by decide)).trans ((Dev.get_set_field _ _ _ _ (by decide)).trans (Dev.get_set_same ..)),
      Dev.get_set_same .., fun _ => (Dev.get_set_field _ _ _ _ (by decide)).trans (Dev.get_set_same ..),
      Dev.Only.ofFound (((hrefl.write .X_LRX_REACQ 1).write .X_LRX_REACQ_CLK _).write .X_LRX_REACQ_LAST _)⟩

/-- The counters that CLEAR_STATS of a lane clears: one for each lane, and four for each. -/
def lrxCounters : List F := [.LRX_CHK_BITS_COUNT, .LRX_CHK_ERRS_COUNT, .LRX_CHK_SKIPPED_COUNT, .LRX_CHK_STATUS_RESYNCS,
  .LRX_INVALID_SEG_COUNT, .LRX_SEG_COUNT, .LRX_TR_STATUS_SLIPS, .LRX_EVENTS_DROP_COUNT]
def lrxGradeCounters : List F := [.LRX_CHK_GRADE_ERR_COUNT, .LRX_GRADE_COUNT_COUNT]

theorem mem_four {n i : Nat} : i ∈ [4 * n, 4 * n + 1, 4 * n + 2, 4 * n + 3] ↔ ∃ g < 4, i = 4 * n + g := by
  simp only [List.mem_cons, List.not_mem_nil, or_false]
  refine ⟨fun h => ⟨i - 4 * n, by omega, by omega⟩, ?_⟩
  rintro ⟨g, hg, rfl⟩
  omega

/-- R141: CLEAR_STATS of a lane. -/
theorem lrxClearStats_clears (n : Fin 64) (s : State) : Completes (.lrxClearStats n) s fun e =>
    (∀ f ∈ lrxCounters, e.get f n = 0) ∧ (∀ f ∈ lrxGradeCounters, ∀ g < 4, e.get f (4 * n + g) = 0) ∧
      Dev.Only (fun f i => (f ∈ lrxCounters ∧ i = n) ∨ (f ∈ lrxGradeCounters ∧ ∃ g < 4, i = 4 * n + g)) s.dev e := by
  refine .runAs (rfl : _ = execLrxClearStats n s) fun e he => ?_
  replace he : e = ((((s.found.setAll [.LRX_CHK_BITS_COUNT, .LRX_CHK_ERRS_COUNT, .LRX_CHK_SKIPPED_COUNT, .LRX_CHK_STATUS_RESYNCS] n
    0).setEach .LRX_CHK_GRADE_ERR_COUNT [4 * n.val, 4 * n.val + 1, 4 * n.val + 2, 4 * n.val + 3] 0).setAll
      [.LRX_INVALID_SEG_COUNT, .LRX_SEG_COUNT, .LRX_TR_STATUS_SLIPS, .LRX_EVENTS_DROP_COUNT] n 0).setEach
        .LRX_GRADE_COUNT_COUNT [4 * n.val, 4 * n.val + 1, 4 * n.val + 2, 4 * n.val + 3] 0) := he
  rw [he]
  refine ⟨fun f hf => ?_, fun f hf g hg => ?_, Dev.Only.ofFound ?_⟩
  · have hne : ∀ f ∈ lrxCounters, f ≠ .LRX_GRADE_COUNT_COUNT ∧ f ≠ .LRX_CHK_GRADE_ERR_COUNT := by decide
    rw [Dev.setEach_get_field _ _ _ _ (hne f hf).1]
    by_cases hlast : f ∈ [F.LRX_INVALID_SEG_COUNT, .LRX_SEG_COUNT, .LRX_TR_STATUS_SLIPS, .LRX_EVENTS_DROP_COUNT]
    · exact Dev.setAll_get_of_mem _ _ _ hlast
    · rw [Dev.setAll_get_field _ _ _ _ hlast, Dev.setEach_get_field _ _ _ _ (hne f hf).2]
      exact Dev.setAll_get_of_mem _ _ _ (by revert hlast hf f; decide)
  · have hmem : 4 * n.val + g ∈ [4 * n.val, 4 * n.val + 1, 4 * n.val + 2, 4 * n.val + 3] := mem_four.mpr ⟨g, hg, rfl⟩
    rcases List.mem_pair.mp hf with rfl | rfl
    · rw [Dev.setEach_get_field _ _ _ _ (by decide), Dev.setAll_get_field _ _ _ _ (by decide)]
      exact Dev.setEach_get_of_mem _ _ hmem
    · exact Dev.setEach_get_of_mem _ _ hmem
  · have h1 : ∀ f ∈ [F.LRX_CHK_BITS_COUNT, .LRX_CHK_ERRS_COUNT, .LRX_CHK_SKIPPED_COUNT, .LRX_CHK_STATUS_RESYNCS], f ∈ lrxCounters := by
      decide
    have h2 : ∀ f ∈ [F.LRX_INVALID_SEG_COUNT, .LRX_SEG_COUNT, .LRX_TR_STATUS_SLIPS, .LRX_EVENTS_DROP_COUNT], f ∈ lrxCounters := by decide
    refine ((((Dev.Only.refl _ s.found).setAll 0 fun f hf => .inl ⟨h1 f hf, rfl⟩).setEach 0 fun i hi => .inr ⟨by decide, ?_⟩).setAll 0
      fun f hf => .inl ⟨h2 f hf, rfl⟩).setEach 0 fun i hi => .inr ⟨by decide, ?_⟩ <;> exact mem_four.mp hi

/-- Settles O38: the events of a receive lane, and what the driver asks of it. -/
theorem laneStateEvents : Obligations.LaneStateEvents := by
  refine ⟨fun n amp s => ⟨fun hrx hloop hon hamp hclk => ?_, fun hamp => ?_, fun hamp => ?_, signalDetect_lost, cycleSlip_unlocks,
    fun hrx => ?_, acqFail_restarts⟩, fun n s => ⟨reacquire_asks n s, ?_, ?_, lrxClearStats_clears n s⟩⟩
  · have hrange : 1 ≤ s.found.rx n ∧ s.found.rx n ≤ 5 := by
      rw [show s.found.rx n = 1 from hrx]
      decide
    have hcond : (s.found.judgesSignal n && decide (s.found.sdLevel n ≤ amp.toNat)) = true := by
      have hhigh : s.found.sdLevel n ≤ amp.toNat := hamp
      rw [Dev.judgesSignal_of hrange.1 hrange.2 hloop hon, decide_eq_true hhigh]
      rfl
    have hclk : s.found.get .X_LRX_SD_CLK n + 8 * us ≤ s.found.clk := hclk
    refine .runIf (rfl : _ = execSignalDetectAssert n amp s) hcond fun e he => ?_
    rw [Dev.onTime_of_le hclk] at he
    have hwait : (s.found.set .LRX_STATUS_SIGNAL n 1).rx n = rxWAIT := (Dev.get_set_field _ _ _ _ (by decide)).trans hrx
    replace he := he.trans (if_pos hwait)
    obtain ⟨h1, h2, h3⟩ := (s.found.set .LRX_STATUS_SIGNAL n 1).enterGain_gains n
    rw [← he] at h1 h2 h3
    have hin : ∀ f ∈ gainFields, f ∈ [F.LRX_STATUS_SIGNAL, .LRX_STATUS_STATE, .LRX_STATUS_CLERK_FROZEN, .X_LRX_ACQ, .X_LRX_SNR_OK,
      .X_LRX_SNR_LOW, .X_LRX_TRIAL, .X_LRX_BEST_SNR] := by decide
    exact ⟨h1, (h3.2 _ _ fun h => absurd h.2 (by decide)).trans (Dev.get_set_same ..), h2, Dev.Only.ofFound (Dev.Only.trans
      (Dev.OnlyAt.write (.refl _ s.found) .LRX_STATUS_SIGNAL 1) (h3.mono fun f _ hf => ⟨hf.1, hin f hf.2⟩))⟩
  · have hlow : ¬ s.found.sdLevel n ≤ amp.toNat := not_le.mpr hamp
    exact .runElse (rfl : _ = execSignalDetectAssert n amp s) (by rw [decide_eq_false hlow, Bool.and_false]; decide) fun e he => he
  · have hhigh : ¬ 4 * amp.toNat < 3 * s.found.sdLevel n := not_lt.mpr hamp
    exact .runElse (rfl : _ = execSignalDetectDeassert n amp s) (by rw [decide_eq_false hhigh, Bool.and_false]; decide) fun e he => he
  · have hout : ¬ (s.found.addSat .LRX_TR_STATUS_SLIPS n 1).rxLocked n = true := fun h =>
      hrx ((Dev.get_set_field _ _ _ _ (by decide)).symm.trans (beq_iff_eq.mp h))
    refine .runAs (rfl : _ = execCycleSlip n s) fun e he => ?_
    replace he := he.trans (if_neg hout)
    rw [he]
    exact ⟨Dev.Only.ofFound (Dev.OnlyAt.write (.refl _ s.found) .LRX_TR_STATUS_SLIPS _), Dev.get_set_same ..⟩
  · refine .runAs (rfl : _ = execHoldReadback n s) fun e he => ?_
    rw [he]
    exact ⟨(Dev.get_set_field _ _ _ _ (by decide)).trans (Dev.get_set_same ..), Dev.get_set_same ..,
      Dev.Only.ofFound ((Dev.OnlyAt.write (.refl _ s.found) .LRX_STATUS_READBACK_HELD 1).write .X_LRX_RELEASE 0)⟩
  · refine .runAs (rfl : _ = execReleaseReadback n s) fun e he => ?_
    rw [he]
    exact ⟨Dev.get_set_same .., Dev.Only.ofFound (Dev.OnlyAt.write (.refl _ s.found) .X_LRX_RELEASE 1)⟩

/-! ## The pattern checker -/

/-- A checker whose lock field holds 2, a value that its one bit cannot. -/
def lockedTwice : Dev := Dev.reset.set .LRX_CHK_STATUS_LOCKED 0 2

/-- Refutes O39: the statement asks for LOCKED 0 after every change of the checker's control, of every state; the change ends a
lock that reads 1, and leaves a field that holds 2 as it is. -/
theorem not_shadowSampler : ¬ Obligations.ShadowSampler := by
  intro h
  have hother : (⟨lockedTwice, []⟩ : State).dev.get .LRX_CHK_CTRL_ENABLE (0 : Fin 64) ≠ b2n false ∨
      (⟨lockedTwice, []⟩ : State).dev.get .LRX_CHK_CTRL_PATTERN (0 : Fin 64) ≠ (1 : BitVec 3).toNat := .inr (by decide)
  have hrun : exec (.checkerCtrlWrite 0 false 1) ⟨lockedTwice, []⟩ = State.run ⟨lockedTwice, []⟩ fun d =>
      if d.get .LRX_CHK_CTRL_ENABLE 0 = 0 ∧ d.get .LRX_CHK_CTRL_PATTERN 0 = 1 then d
      else ((((d.set .LRX_CHK_CTRL_ENABLE 0 0).set .LRX_CHK_CTRL_PATTERN 0 1).checkerLost 0).clearChecker 0).when false fun d =>
        d.wake (domRx 0) 6 := rfl
  obtain ⟨-, -, hlock, -⟩ := (completes_run_iff hrun).mp ((h.2 0 ⟨lockedTwice, []⟩).1 false 1 hother)
  exact absurd hlock (by decide)

end Sys2Proof.Machine
end

section
/-! PROOFS. Transmit lanes: their sources at a frame boundary, loop buffers, squelch and ramps (R160 to R175). -/

-- One theorem at a time: the whole text is compiled under a memory limit, which the stacks of waiting threads would fill.
set_option Elab.async false

namespace Sys2Proof.Machine

open Sys2Proof

/-! ## What a change of one lane keeps of the others -/

/-- From `d` to `e` the fields of `L` stay, those of `N` stay in every index but `n`, the live values of `M` stay, the clock
stays, no pending source is lost, and a power domain changes by starting to wake alone. -/
structure Dev.Steady (L N : List F) (n : Nat) (M : List F) (d e : Dev) : Prop where
  get : ∀ f ∈ L, ∀ i, e.get f i = d.get f i
  other : ∀ f ∈ N, ∀ i, i ≠ n → e.get f i = d.get f i
  lget : ∀ f ∈ M, ∀ i, e.lget f i = d.lget f i
  pending : ∀ s ∈ d.pending, s ∈ e.pending
  clk : e.clk = d.clk
  wakes : Dev.MayWake d e

section
variable {L N M : List F} {n : Nat} {d e : Dev}

theorem Dev.Steady.refl (d : Dev) : Dev.Steady L N n M d d :=
  ⟨fun _ _ _ => rfl, fun _ _ _ _ => rfl, fun _ _ _ => rfl, fun _ h => h, rfl, .refl d⟩

theorem Dev.Steady.trans {a b c : Dev} (h1 : Dev.Steady L N n M a b) (h2 : Dev.Steady L N n M b c) : Dev.Steady L N n M a c :=
  ⟨fun f hf i => (h2.get f hf i).trans (h1.get f hf i), fun f hf i hi => (h2.other f hf i hi).trans (h1.other f hf i hi),
    fun f hf i => (h2.lget f hf i).trans (h1.lget f hf i), fun s hs => h2.pending s (h1.pending s hs), h2.clk.trans h1.clk,
    h1.wakes.trans h2.wakes⟩

theorem Dev.Steady.mono {L' N' M' : List F} (h : Dev.Steady L N n M d e) (hL : ∀ f ∈ L', f ∈ L) (hN : ∀ f ∈ N', f ∈ L ++ N)
    (hM : ∀ f ∈ M', f ∈ M) : Dev.Steady L' N' n M' d e :=
  ⟨fun f hf => h.get f (hL f hf), fun f hf i hi => (List.mem_append.mp (hN f hf)).elim (fun hl => h.get f hl i)
    fun hn => h.other f hn i hi, fun f hf => h.lget f (hM f hf), h.pending, h.clk, h.wakes⟩

/-- A change of the queues alone. -/
theorem Dev.Steady.same (hreg : e.reg = d.reg) (hlive : e.live = d.live) (hpend : e.pending = d.pending) (hclk : e.clk = d.clk) :
    Dev.Steady L N n M d e := by
  have hget : ∀ f i, e.get f i = d.get f i := fun f i => congrArg (fun r => Store.get r ⟨f, i⟩) hreg
  exact ⟨fun f _ i => hget f i, fun f _ i _ => hget f i, fun f _ i => congrArg (fun r => Store.get r ⟨f, i⟩) hlive,
    fun s hs => hpend ▸ hs, hclk, .of_get fun k => hget _ k⟩

/-- A write to a field that is in no list. -/
theorem Dev.Steady.write (h : Dev.Steady L N n M d e) (f : F) (i v : Nat) (hf : f ∉ L ++ N := by decide)
    (hp : f ≠ .PWR_D_STATUS_STATE := by decide) : Dev.Steady L N n M d (e.set f i v) := by
  rw [List.mem_append, not_or] at hf
  exact h.trans ⟨fun _ hg _ => Dev.get_set_field _ _ _ _ fun hgf => hf.1 (hgf ▸ hg),
    fun _ hg _ _ => Dev.get_set_field _ _ _ _ fun hgf => hf.2 (hgf ▸ hg), fun _ _ _ => rfl, fun _ hs => hs, rfl,
    (Dev.MayWake.refl e).set _ _ hp⟩

/-- A write to a field of the lane itself. -/
theorem Dev.Steady.own (h : Dev.Steady L N n M d e) (f : F) (v : Nat) (hf : f ∉ L := by decide)
    (hp : f ≠ .PWR_D_STATUS_STATE := by decide) : Dev.Steady L N n M d (e.set f n v) :=
  h.trans ⟨fun _ hg _ => Dev.get_set_field _ _ _ _ fun hgf => hf (hgf ▸ hg),
    fun _ _ _ hi => Dev.get_set_other _ _ _ _ _ _ fun hk => hi (Key.mk.inj hk).2, fun _ _ _ => rfl, fun _ hs => hs, rfl,
    (Dev.MayWake.refl e).set _ _ hp⟩

theorem Dev.Steady.ofOnly {p : F → Nat → Prop} (h : Dev.Only p d e) (hL : ∀ f ∈ L, ∀ i, ¬ p f i) (hN : ∀ f ∈ N, ∀ i ≠ n, ¬ p f i)
    (hp : ∀ i, ¬ p .PWR_D_STATUS_STATE i) : Dev.Steady L N n M d e := by
  refine ⟨fun f hf i => h.2 f i (hL f hf i), fun f hf i hi => h.2 f i (hN f hf i hi), fun f _ i => ?_, fun s hs => ?_, ?_,
    .of_get fun k => h.2 _ k (hp k)⟩
  · rw [h.1]
    rfl
  · rw [h.1]
    exact hs
  · rw [h.1]

theorem Dev.Steady.raise (h : Dev.Steady L N n M d e) (s : Nat) (hs : ∀ f ∈ signalFields, f ∉ L ++ N) :
    Dev.Steady L N n M d (e.raise s) := by
  have hk : Dev.Keeps (L ++ N) M e (e.raise s) := (Dev.Keeps.refl e).raise s fun f hf h => hs f h hf
  exact h.trans ⟨fun f hf => hk.get f (List.mem_append_left _ hf), fun f hf i _ => hk.get f (List.mem_append_right _ hf) i,
    hk.lget, hk.pending, hk.clk, raise_mayWake e s⟩

theorem setLine_mayWake (d : Dev) (s : Nat) (b : Bool) : Dev.MayWake d (d.setLine s b) := by
  unfold Dev.setLine
  split
  · split
    · exact .refl d
    · unfold Dev.occur Dev.settleSource Dev.addWrap
      refine Dev.MayWake.trans ?_ (settle_mayWake _ _)
      refine Dev.MayWake.trans ?_ (countHeld_mayWake _ s)
      exact (((Dev.MayWake.refl d).set (f := .PH_SRC_LINE) s 1).set (f := .PH_SRC_OCCUR) s _).pend _
  · exact (Dev.MayWake.refl d).set (f := .PH_SRC_LINE) s 0

theorem setLine_pending_mem (d : Dev) (s : Nat) (b : Bool) : ∀ x ∈ d.pending, x ∈ (d.setLine s b).pending := by
  intro x hx
  by_cases hb : b = true
  · subst hb
    by_cases hl : d.get .PH_SRC_LINE s = 1
    · unfold Dev.setLine
      rw [if_pos rfl, if_pos (show d.on .PH_SRC_LINE s = true from beq_iff_eq.mpr hl)]
      exact hx
    · rw [(setLine_high d hl).1]
      exact (mem_insertNat ..).mpr (.inr hx)
  · unfold Dev.setLine
    rw [if_neg hb]
    exact hx

theorem Dev.Steady.setLine (h : Dev.Steady L N n M d e) (s : Nat) (b : Bool) (hs : ∀ f ∈ signalFields, f ∉ L ++ N) :
    Dev.Steady L N n M d (e.setLine s b) := by
  have hget : ∀ f ∈ L ++ N, ∀ i, (e.setLine s b).get f i = e.get f i := fun f hf i => setLine_get e s b f i fun h => hs f h hf
  refine h.trans ⟨fun f hf => hget f (List.mem_append_left _ hf), fun f hf i _ => hget f (List.mem_append_right _ hf) i,
    fun f _ i => ?_, setLine_pending_mem e s b, ?_, setLine_mayWake e s b⟩
  · rw [Dev.lget, setLine_live]
    rfl
  · rw [(setLine_only (fun _ _ => False) e s b).1]

theorem Dev.Steady.forList {α : Type} {g : α → Dev → Dev} {l : List α} (h : Dev.Steady L N n M d e)
    (hg : ∀ x ∈ l, ∀ a, Dev.Steady L N n M a (g x a)) : Dev.Steady L N n M d (Dev.forList l g e) :=
  h.trans (List.foldlRecOn l (fun a x => g x a) (motive := Dev.Steady L N n M e) (.refl e) fun _ ha x hx => ha.trans (hg x hx _))

theorem Dev.Steady.toKeeps (h : Dev.Steady L N n M d e) : Dev.Keeps L M d e := ⟨h.get, h.lget, h.pending, h.clk⟩

end

/-- From `d` to `e` nothing of lane `n` changes: the fields of `L` stay everywhere, and those of `N` in index `n`. -/
def Dev.Spared (L N : List F) (n : Nat) (M : List F) (d e : Dev) : Prop :=
  Dev.Steady L [] n M d e ∧ ∀ f ∈ N, e.get f n = d.get f n

theorem Dev.Steady.forget {L N M : List F} {n : Nat} {d e : Dev} (h : Dev.Steady L N n M d e) (k : Nat) : Dev.Steady L [] k M d e :=
  ⟨h.get, fun _ hf => absurd hf List.not_mem_nil, h.lget, h.pending, h.clk, h.wakes⟩

/-- Rounds of other lanes spare a lane. -/
theorem Dev.Spared.rounds {L N M : List F} {g : Nat → Dev → Dev} (hg : ∀ y d, Dev.Steady L N y M d (g y d)) {x : Nat} {l : List Nat}
    (hl : ∀ y ∈ l, y ≠ x) (d : Dev) : Dev.Spared L N x M d (Dev.forList l g d) :=
  List.foldlRecOn l (fun d y => g y d) (motive := fun e => Dev.Spared L N x M d e) ⟨.refl d, fun _ _ => rfl⟩
    fun e he y hy => ⟨he.1.trans ((hg y e).forget x), fun f hf => ((hg y e).other f hf x (hl y hy).symm).trans (he.2 f hf)⟩

/-- A list of lanes without repeats: each has one round, and those before and after it spare the lane. -/
theorem Dev.forList_visits {L N M : List F} {g : Nat → Dev → Dev} (hg : ∀ y d, Dev.Steady L N y M d (g y d)) {l : List Nat}
    (hl : l.Nodup) {x : Nat} (hx : x ∈ l) (d : Dev) :
    ∃ b, Dev.Spared L N x M d b ∧ Dev.Spared L N x M (g x b) (Dev.forList l g d) := by
  obtain ⟨l1, l2, rfl⟩ := List.append_of_mem hx
  have hne : x ∉ l1 ++ l2 := (List.nodup_cons.mp (List.perm_middle.nodup_iff.mp hl)).1
  rw [List.mem_append, not_or] at hne
  refine ⟨Dev.forList l1 g d, .rounds hg (fun _ hy h => hne.1 (Eq.subst (motive := (· ∈ l1)) h hy)) d, ?_⟩
  have hsplit : Dev.forList (l1 ++ x :: l2) g d = Dev.forList l2 g (g x (Dev.forList l1 g d)) := List.foldl_append ..
  rw [hsplit]
  exact .rounds hg (fun _ hy h => hne.2 (Eq.subst (motive := (· ∈ l2)) h hy)) _

theorem Dev.groupLanes_nodup (d : Dev) (n : Nat) : (d.groupLanes n).Nodup :=
  List.Nodup.map (fun _ _ h => Nat.add_left_cancel h) List.nodup_range

/-! ## The courier transmitter follows the lane -/

/-- What the courier transmitter of a lane changes as it follows the lane. -/
def courTxFields : List F := [.X_COUR_READY, .X_COUR_READY_CLK, .COUR_L_TX_REQUEUED_COUNT, .COUR_TX_SLOTS_SENDING,
  .COUR_L_STATUS_TX_STATE, .COUR_TX_SLOTS_BUSY, .COUR_TX_DONE_SENT, .COUR_TX_DONE_DEAD, .COUR_L_EVENTS_TX_DONE,
  .COUR_DLQ_STATUS_OVERFLOWS, .COUR_L_EVENTS_DLQ_OVERFLOW, .COUR_DLQ_STATUS_COUNT, .COUR_DLQ_STATUS_HEAD, .COUR_DLQ_DESC0_LANE,
  .COUR_DLQ_DESC0_DIR, .COUR_DLQ_DESC0_REASON, .COUR_DLQ_DESC0_ID, .COUR_DLQ_DESC0_GEN, .COUR_DLQ_DESC0_MODE, .COUR_DLQ_DESC1_LEN,
  .COUR_DLQ_DESC1_BUF, .COUR_DLQ_DESC2_TIME, .COUR_L_EVENTS_DEAD_LETTER] ++ signalFields

section
variable {L N M : List F} {n : Nat} {d e : Dev} (hc : ∀ f ∈ courTxFields, f ∉ L ++ N)
include hc

theorem Dev.Steady.cour (h : Dev.Steady L N n M d e) (f : F) (i v : Nat) (hf : f ∈ courTxFields := by decide)
    (hp : f ≠ .PWR_D_STATUS_STATE := by decide) : Dev.Steady L N n M d (e.set f i v) := h.write f i v (hc f hf) hp

theorem Dev.Steady.syncCourier (h : Dev.Steady L N n M d e) (k : Nat) : Dev.Steady L N n M d (e.syncCourier k) :=
  h.setLine _ _ fun f hf => hc f (List.mem_append_right _ hf)

theorem Dev.Steady.showDlq (h : Dev.Steady L N n M d e) : Dev.Steady L N n M d e.showDlq := by
  unfold Dev.showDlq
  extract_lets b
  have hb : Dev.Steady L N n M d b := h.cour hc .COUR_DLQ_STATUS_COUNT 0 _
  clear_value b
  split
  · exact hb
  · next x _ _ =>
    extract_lets b1 b2 b3
    have h1 : Dev.Steady L N n M d b1 := (hb.cour hc .COUR_DLQ_STATUS_HEAD 0 _).cour hc .COUR_DLQ_DESC0_LANE 0 _
    clear_value b1
    have h2 : Dev.Steady L N n M d b2 := (h1.cour hc .COUR_DLQ_DESC0_DIR 0 _).cour hc .COUR_DLQ_DESC0_REASON 0 _
    clear_value b2
    have h3 : Dev.Steady L N n M d b3 := (h2.cour hc .COUR_DLQ_DESC0_ID 0 _).cour hc .COUR_DLQ_DESC0_GEN 0 _
    clear_value b3
    exact (((h3.cour hc .COUR_DLQ_DESC0_MODE 0 _).cour hc .COUR_DLQ_DESC1_LEN 0 _).cour hc .COUR_DLQ_DESC1_BUF 0 _).cour hc
      .COUR_DLQ_DESC2_TIME 0 _

theorem Dev.Steady.deadLetter (h : Dev.Steady L N n M d e) (lane : Nat) (recv : Bool) (reason id gen len mode : Nat)
    (bytes : List Byte) : Dev.Steady L N n M d (e.deadLetter lane recv reason id gen len mode bytes) := by
  unfold Dev.deadLetter
  split
  · exact ((h.cour hc .COUR_DLQ_STATUS_OVERFLOWS 0 _).cour hc .COUR_L_EVENTS_DLQ_OVERFLOW lane 1).syncCourier hc lane
  · extract_lets b d1 d2
    have h1 : Dev.Steady L N n M d d2 := h.trans (.same rfl rfl rfl rfl)
    clear_value d2
    exact ((h1.showDlq hc).cour hc .COUR_L_EVENTS_DEAD_LETTER lane 1).syncCourier hc lane

theorem Dev.Steady.msgDone (h : Dev.Steady L N n M d e) (m : CourMsg) (sent : Bool) : Dev.Steady L N n M d (e.msgDone m sent) := by
  unfold Dev.msgDone Dev.orBits
  extract_lets b1 b2
  have h1 : Dev.Steady L N n M d b1 := h.cour hc .COUR_TX_SLOTS_BUSY m.lane _
  clear_value b1
  have h2 : Dev.Steady L N n M d b2 := by
    cases sent
    · exact h1.cour hc .COUR_TX_DONE_DEAD m.lane _
    · exact h1.cour hc .COUR_TX_DONE_SENT m.lane _
  clear_value b2
  exact (h2.cour hc .COUR_L_EVENTS_TX_DONE m.lane 1).syncCourier hc m.lane

theorem Dev.Steady.msgDead (h : Dev.Steady L N n M d e) (m : CourMsg) (reason : Nat) : Dev.Steady L N n M d (e.msgDead m reason) :=
  (h.deadLetter hc ..).msgDone hc m false

theorem Dev.Steady.copyCut (h : Dev.Steady L N n M d e) (k : Nat) : Dev.Steady L N n M d (e.copyCut k) := by
  unfold Dev.copyCut Dev.addSat
  split
  · exact h
  · extract_lets b rest
    have hb : Dev.Steady L N n M d b := ((h.cour hc .COUR_L_TX_REQUEUED_COUNT k _).cour hc .COUR_TX_SLOTS_SENDING k 0).cour hc
      .COUR_L_STATUS_TX_STATE k 0
    clear_value b
    have hq : ∀ q, Dev.Steady L N n M d { b with msgs := q } := fun q => hb.trans (.same rfl rfl rfl rfl)
    split
    · split
      · exact (hq _).msgDead hc _ 1
      · exact (hq _).msgDone hc _ true
    · exact hq _

theorem Dev.Steady.removeQueued (h : Dev.Steady L N n M d e) (k : Nat) : Dev.Steady L N n M d (e.removeQueued k) := by
  unfold Dev.removeQueued
  extract_lets out b
  have hb : Dev.Steady L N n M d b := h.trans (.same rfl rfl rfl rfl)
  clear_value b
  exact hb.forList fun m _ a => (Dev.Steady.refl a).msgDead hc m 3

theorem Dev.Steady.syncCourTx (h : Dev.Steady L N n M d e) (k : Nat) : Dev.Steady L N n M d (e.syncCourTx k) := by
  unfold Dev.syncCourTx
  extract_lets b1 b2
  have h1 : Dev.Steady L N n M d b1 := by
    unfold b1
    split
    · exact (h.cour hc .X_COUR_READY k 1).cour hc .X_COUR_READY_CLK k _
    · exact h
  clear_value b1
  have h2 : Dev.Steady L N n M d b2 := by
    unfold b2
    split
    · exact h1
    · exact h1.copyCut hc k
  clear_value b2
  split
  · exact h2
  · exact h2.removeQueued hc k

end

theorem Dev.raiseLane_mem (d : Dev) (n i : Nat) : 64 + 8 * n + i ∈ (d.raiseLane n i).pending := by
  unfold Dev.raiseLane
  rw [(raise_raised d (by omega)).1]
  exact (mem_insertNat ..).mpr (.inl rfl)

/-! ## Sources -/

theorem Dev.patternIndex_zero {d : Dev} {n : Nat} (h : d.get .X_LTX_PAT_CLK n = d.clk) : d.patternIndex n = 0 := by
  unfold Dev.patternIndex Dev.patternRan lineSymbols
  rw [h, Nat.sub_self, Nat.zero_mul, Nat.zero_div, Nat.zero_mod, ite_self]

theorem Dev.showLoop_only (d : Dev) (g : Nat) : Dev.Only (fun f m => m ∈ d.lanesOfGroup g ∧ f = .LTX_LOOP_STATUS_FILL_LEVEL) d (d.showLoop g) :=
  Dev.Only.foldl _ _ (fun e m hm => by
    dsimp only
    split
    · exact (Dev.Only.refl _ e).set _ ⟨hm, rfl⟩
    · exact .refl _ e) d

/-- What the source of a lane is, and when its pattern began. -/
def sourceFields : List F := [.LTX_STATUS_SOURCE, .X_LTX_PAT_CLK]

/-- The live fields that select the source. -/
def sourceLive : List F := [.LTX_CTRL_FAR_LOOP, .LTX_CTRL_SOURCE]

/-- R160, R170: the source that the live settings select takes effect; a pattern begins anew. -/
theorem Dev.switchSource_shows (n : Nat) (d : Dev) {e : Dev} (he : e = Dev.switchSource n d) :
    Dev.Steady [] sourceFields n sourceLive d e ∧ e.get .LTX_STATUS_SOURCE n = d.txSource n ∧
      (d.txSource n = 2 → d.get .LTX_STATUS_SOURCE n ≠ 2 → e.get .X_LTX_PAT_CLK n = d.clk) := by
  unfold Dev.switchSource at he
  extract_lets new old b1 b2 s1 b3 b4 at he
  split at he
  · next hsame =>
    rw [he]
    exact ⟨.refl d, hsame.symm, fun h2 hn => absurd (hsame.symm.trans h2) hn⟩
  · have h2 : Dev.Steady [] sourceFields n sourceLive d b2 ∧ b2.get .LTX_STATUS_SOURCE n = d.txSource n ∧
        (d.txSource n = 2 → b2.get .X_LTX_PAT_CLK n = d.clk) := by
      have h1 : Dev.Steady [] sourceFields n sourceLive d b1 := (Dev.Steady.refl d).own .LTX_STATUS_SOURCE new
      have hs : b1.get .LTX_STATUS_SOURCE n = d.txSource n := Dev.get_set_same ..
      unfold b2
      split
      · refine ⟨(h1.own .X_LTX_PAT_CLK b1.clk).write .X_LTX_PAT_RESTART n 0, ?_, fun _ => ?_⟩
        · exact (Dev.get_set_field _ _ _ _ (by decide)).trans ((Dev.get_set_field _ _ _ _ (by decide)).trans hs)
        · exact (Dev.get_set_field _ _ _ _ (by decide)).trans (Dev.get_set_same ..)
      · next hn => exact ⟨h1, hs, fun h => absurd h hn⟩
    clear_value b2
    have hrest : Dev.Steady sourceFields [] n sourceLive b2 e := by
      rw [he]
      refine Dev.Steady.syncCourTx (by decide) ?_ n
      have hq : ∀ q r, Dev.Steady sourceFields [] n sourceLive b2 { b2 with loops := q, lineIn := r } := fun q r => .same rfl rfl rfl rfl
      unfold b4
      split
      · have hs : Dev.Steady sourceFields [] n sourceLive b2 s1 := by
          refine Dev.Steady.trans (b := if (b2.loopOf (b2.groupOf n)).isEmpty = true then b2.loopStart (b2.groupOf n) else b2) ?_
            (.ofOnly (Dev.showLoop_only _ _) (fun f hf i h => absurd (h.2 ▸ hf) (by decide)) (fun _ h => nomatch h)
              fun i h => absurd h.2 (by decide))
          split
          · exact hq _ _
          · exact .refl b2
        clear_value s1
        split
        · exact hs.write .LTX_STATUS_LOOP_CLK_VALID n 0
        · exact (hs.write .LTX_STATUS_LOOP_CLK_LANE n _).write .LTX_STATUS_LOOP_CLK_VALID n 1
      · split
        · exact ((hq _ _).write .LTX_STATUS_LOOP_CLK_VALID n 0).write .LTX_LOOP_STATUS_FILL_LEVEL n 0
        · split
          · exact (hq _ _).write .X_LTX_POS n 0
          · exact .refl b2
    exact ⟨h2.1.trans (hrest.mono (by decide) (by decide) fun _ h => h), (hrest.get _ (by decide) n).trans h2.2.1,
      fun h _ => (hrest.get _ (by decide) n).trans (h2.2.2 h)⟩

theorem Dev.txSource_eq {L N : List F} {n : Nat} {d e : Dev} (h : Dev.Steady L N n sourceLive d e) (m : Nat) : e.txSource m = d.txSource m := by
  unfold Dev.txSource Dev.lon
  rw [h.lget .LTX_CTRL_FAR_LOOP (by decide), h.lget .LTX_CTRL_SOURCE (by decide)]

theorem sourceSwitch_switches (n : Fin 64) (s : State) : Completes (.sourceSwitch n) s fun e => ∀ m ∈ s.dev.groupLanes n,
    e.get .LTX_STATUS_SOURCE m = s.dev.txSource m ∧
      (s.dev.txSource m = 2 → s.dev.get .LTX_STATUS_SOURCE m ≠ 2 → e.get .X_LTX_PAT_CLK m = s.dev.clk ∧ e.patternIndex m = 0) := by
  refine .runAs (rfl : _ = execSourceSwitch n s) fun e he m hm => ?_
  obtain ⟨b, ⟨hb, hbg⟩, hbe, hbeg⟩ := Dev.forList_visits (fun y d => (d.switchSource_shows y rfl).1) (s.found.groupLanes_nodup n) hm
    s.found
  obtain ⟨h1, h2, h3⟩ := b.switchSource_shows m rfl
  change Dev.Steady [] [] m sourceLive _ (Dev.forList _ _ _) at hbe
  rw [← he] at hbe hbeg
  have hsrc : b.txSource m = s.dev.txSource m := Dev.txSource_eq hb m
  refine ⟨(hbeg _ (by decide)).trans (h2.trans hsrc), fun ht hs => ?_⟩
  have hpat : e.get .X_LTX_PAT_CLK m = s.dev.clk :=
    (hbeg _ (by decide)).trans ((h3 (hsrc.trans ht) fun h => hs ((hbg _ (by decide)).symm.trans h)).trans hb.clk)
  exact ⟨hpat, Dev.patternIndex_zero (hpat.trans (hbe.clk.trans (h1.clk.trans hb.clk)).symm)⟩

/-! ## Pattern restart and the timing of the loop -/

/-- R173: the round of a lane at a pattern restart. -/
def restartPattern (m : Nat) (d : Dev) : Dev :=
  if d.on .X_LTX_PAT_RESTART m then (d.set .X_LTX_PAT_CLK m d.clk).set .X_LTX_PAT_RESTART m 0 else d

theorem restartPattern_steady (m : Nat) (d : Dev) :
    Dev.Steady [] [.X_LTX_PAT_CLK, .X_LTX_PAT_RESTART] m [] d (restartPattern m d) := by
  unfold restartPattern
  split
  · exact ((Dev.Steady.refl d).own .X_LTX_PAT_CLK d.clk).own .X_LTX_PAT_RESTART 0
  · exact .refl d

theorem patternRestart_restarts (n : Fin 64) (s : State) : Completes (.patternRestart n) s fun e =>
    (∀ m ∈ s.dev.groupLanes n, s.dev.get .X_LTX_PAT_RESTART m = 1 →
      e.get .X_LTX_PAT_CLK m = s.dev.clk ∧ e.patternIndex m = 0 ∧ e.get .X_LTX_PAT_RESTART m = 0) ∧
    Dev.Only (fun f m => m ∈ s.dev.groupLanes n ∧ (f = .X_LTX_PAT_CLK ∨ f = .X_LTX_PAT_RESTART)) s.dev e := by
  refine .runAs (rfl : _ = execPatternRestart n s) fun e he => ?_
  replace he : e = Dev.forList (s.found.groupLanes n) restartPattern s.found := he
  refine ⟨fun m hm hr => ?_, ?_⟩
  · obtain ⟨b, ⟨hb, hbg⟩, hbe, hbeg⟩ := Dev.forList_visits restartPattern_steady (s.found.groupLanes_nodup n) hm s.found
    rw [← he] at hbe hbeg
    have hround : restartPattern m b = (b.set .X_LTX_PAT_CLK m b.clk).set .X_LTX_PAT_RESTART m 0 :=
      if_pos (beq_iff_eq.mpr ((hbg _ (by decide)).trans hr))
    have hpat : e.get .X_LTX_PAT_CLK m = s.dev.clk := by
      rw [hbeg _ (by decide), hround, Dev.get_set_field _ _ _ _ (by decide), Dev.get_set_same]
      exact hb.clk
    refine ⟨hpat, Dev.patternIndex_zero (hpat.trans ?_), ?_⟩
    · rw [hbe.clk, (restartPattern_steady m b).clk]
      exact hb.clk.symm
    · rw [hbeg _ (by decide), hround, Dev.get_set_same]
  · rw [he]
    refine (Dev.Only.foldl _ _ (fun b m hm => ?_) _).ofFound
    unfold restartPattern
    split
    · exact ((Dev.Only.refl _ b).set (f := .X_LTX_PAT_CLK) _ ⟨hm, .inl rfl⟩).set (f := .X_LTX_PAT_RESTART) _ ⟨hm, .inr rfl⟩
    · exact .refl _ b

/-- What a lane shows of the lane that times it. -/
def loopClkFields : List F := [.LTX_STATUS_LOOP_CLK_VALID, .LTX_STATUS_LOOP_CLK_LANE, .LTX_EVENTS_LOOP_CLK_SWITCH]

theorem Dev.takeTiming_only (m : Nat) (d : Dev) : Dev.OnlyAt loopClkFields m d (Dev.takeTiming m d) := by
  unfold Dev.takeTiming
  split
  · exact Dev.OnlyAt.write (.refl _ d) .LTX_STATUS_LOOP_CLK_VALID 0
  · extract_lets moved b
    have hb : Dev.OnlyAt loopClkFields m d b :=
      (Dev.OnlyAt.write (.refl _ d) .LTX_STATUS_LOOP_CLK_LANE _).write .LTX_STATUS_LOOP_CLK_VALID 1
    clear_value b
    split
    · exact hb.write .LTX_EVENTS_LOOP_CLK_SWITCH 1
    · exact hb

theorem Dev.takeTiming_none {m : Nat} {d : Dev} (h : d.timingLane m = none) :
    (Dev.takeTiming m d).get .LTX_STATUS_LOOP_CLK_VALID m = 0 := by
  unfold Dev.takeTiming
  rw [h]
  exact Dev.get_set_same ..

theorem Dev.takeTiming_some {m k : Nat} {d : Dev} (h : d.timingLane m = some k) :
    (Dev.takeTiming m d).get .LTX_STATUS_LOOP_CLK_VALID m = 1 ∧ (Dev.takeTiming m d).get .LTX_STATUS_LOOP_CLK_LANE m = k % 8 ∧
      (d.get .LTX_STATUS_LOOP_CLK_LANE m ≠ k % 8 → (Dev.takeTiming m d).get .LTX_EVENTS_LOOP_CLK_SWITCH m = 1) := by
  unfold Dev.takeTiming
  rw [h]
  dsimp only
  split
  · exact ⟨(Dev.get_set_field _ _ _ _ (by decide)).trans (Dev.get_set_same ..), (Dev.get_set_field _ _ _ _ (by decide)).trans
      ((Dev.get_set_field _ _ _ _ (by decide)).trans (Dev.get_set_same ..)), fun _ => Dev.get_set_same ..⟩
  · next hm => exact ⟨Dev.get_set_same .., (Dev.get_set_field _ _ _ _ (by decide)).trans (Dev.get_set_same ..), fun h => absurd h hm⟩

/-- R174: the round of a lane at a frame boundary after its timing lane has left LOCKED. -/
def moveTiming (m : Nat) (d : Dev) : Dev :=
  if d.get .LTX_STATUS_SOURCE m = 3 ∧ d.timingGone m then d.takeTiming m else d

/-- What says which lane may time a lane. -/
def timedBy : List F := [.LTX_STATUS_SOURCE, .SPR_CFG_WIDTH, .LRX_STATUS_STATE]

theorem moveTiming_only (m : Nat) (d : Dev) : Dev.OnlyAt loopClkFields m d (moveTiming m d) := by
  unfold moveTiming
  split
  · exact d.takeTiming_only m
  · exact .refl _ d

theorem moveTiming_steady (m : Nat) (d : Dev) : Dev.Steady timedBy loopClkFields m [] d (moveTiming m d) :=
  .ofOnly (moveTiming_only m d) (fun f hf _ h => absurd h.2 ((by decide : ∀ f ∈ timedBy, f ∉ loopClkFields) f hf))
    (fun _ _ _ hi h => hi h.1) fun _ h => absurd h.2 (by decide)

theorem Dev.timingLane_eq {N M : List F} {n m : Nat} {d e : Dev} (h : Dev.Steady timedBy N n M d e) : e.timingLane m = d.timingLane m := by
  unfold Dev.timingLane Dev.groupLanes Dev.groupBase Dev.width Dev.rxLocked Dev.rx
  simp only [h.get .SPR_CFG_WIDTH (by decide), h.get .LRX_STATUS_STATE (by decide)]

theorem loopClockSwitch_moves (n : Fin 64) (s : State) : Completes (.loopClockSwitch n) s fun e =>
    (∀ m ∈ s.dev.groupLanes n, s.dev.get .LTX_STATUS_SOURCE m = 3 → s.dev.timingGone m = true →
      (s.dev.timingLane m = none → e.get .LTX_STATUS_LOOP_CLK_VALID m = 0) ∧
      ∀ k, s.dev.timingLane m = some k → e.get .LTX_STATUS_LOOP_CLK_VALID m = 1 ∧ e.get .LTX_STATUS_LOOP_CLK_LANE m = k % 8 ∧
        (s.dev.get .LTX_STATUS_LOOP_CLK_LANE m ≠ k % 8 → e.get .LTX_EVENTS_LOOP_CLK_SWITCH m = 1)) ∧
    Dev.Only (fun f m => m ∈ s.dev.groupLanes n ∧ f ∈ loopClkFields) s.dev e := by
  refine .runAs (rfl : _ = execLoopClockSwitch n s) fun e he => ?_
  replace he : e = Dev.forList (s.found.groupLanes n) moveTiming s.found := he
  refine ⟨fun m hm hsrc hgone => ?_, ?_⟩
  · obtain ⟨b, ⟨hb, hbg⟩, hbe, hbeg⟩ := Dev.forList_visits moveTiming_steady (s.found.groupLanes_nodup n) hm s.found
    rw [← he] at hbe hbeg
    have hlane : b.timingLane m = s.dev.timingLane m := Dev.timingLane_eq (d := s.found) hb
    have hgone' : b.timingGone m = true := by
      rw [← hgone]
      unfold Dev.timingGone Dev.on Dev.rxLocked Dev.rx
      rw [hbg .LTX_STATUS_LOOP_CLK_VALID (by decide), hbg .LTX_STATUS_LOOP_CLK_LANE (by decide), hb.get .LRX_STATUS_STATE (by decide)]
      rfl
    have hround : moveTiming m b = b.takeTiming m := if_pos ⟨(hb.get _ (by decide) m).trans hsrc, hgone'⟩
    rw [hround] at hbeg
    refine ⟨fun hn => ?_, fun k hk => ?_⟩
    · exact (hbeg _ (by decide)).trans (Dev.takeTiming_none (hlane.trans hn))
    · obtain ⟨h1, h2, h3⟩ := Dev.takeTiming_some (hlane.trans hk)
      exact ⟨(hbeg _ (by decide)).trans h1, (hbeg _ (by decide)).trans h2,
        fun h => (hbeg _ (by decide)).trans (h3 fun hk => h ((hbg _ (by decide)).symm.trans hk))⟩
  · rw [he]
    exact (Dev.Only.foldl _ _ (fun b m hm => (moveTiming_only m b).mono fun _ _ h => ⟨h.1 ▸ hm, h.2⟩) _).ofFound

/-! ## The loop buffer -/

theorem Dev.lanesOfGroup_groupOf {d : Dev} {n : Nat} (h : d.get .SPR_CFG_WIDTH (engineOf n) ≤ 3) :
    d.lanesOfGroup (d.groupOf n) = d.groupLanes n := by
  have hw : d.width (engineOf n) ∣ 8 := Nat.pow_dvd_pow 2 h
  have hpos : 0 < d.width (engineOf n) := Nat.two_pow_pos _
  have hq : n % 8 / d.width (engineOf n) < 8 := Nat.lt_of_le_of_lt (Nat.div_le_self ..) (Nat.mod_lt _ (by decide))
  have hg8 : d.groupOf n / 8 = engineOf n := by
    unfold Dev.groupOf
    generalize n % 8 / d.width (engineOf n) = q at hq ⊢
    omega
  have hgm : d.groupOf n % 8 = n % 8 / d.width (engineOf n) := by
    unfold Dev.groupOf
    generalize n % 8 / d.width (engineOf n) = q at hq ⊢
    omega
  unfold Dev.lanesOfGroup Dev.groupLanes Dev.groupBase
  rw [hg8, hgm]
  refine List.map_congr_left fun j _ => ?_
  have hmod : n % 8 % d.width (engineOf n) = n % d.width (engineOf n) := Nat.mod_mod_of_dvd n hw
  have hdiv := Nat.div_add_mod' (n % 8) (d.width (engineOf n))
  have hle : n % d.width (engineOf n) ≤ n % 8 := hmod ▸ Nat.mod_le _ _
  have h8 : 8 * engineOf n + n % 8 = n := Nat.div_add_mod n 8
  omega

/-- The frames that a recentred buffer holds: the frame sent last again, or all but the oldest. -/
def Dev.recentred (d : Dev) (g : Nat) : List LoopFrame :=
  if (d.loopOf g).isEmpty then [(d.looped_.find? fun y => y.group == g).getD ⟨g, []⟩] else (d.loopOf g).drop 1

theorem Dev.recentred_group (d : Dev) (g : Nat) : ∀ x ∈ d.recentred g, x.group = g := by
  unfold Dev.recentred
  split
  · intro x hx
    rw [List.mem_singleton.mp hx]
    cases hf : d.looped_.find? fun y => y.group == g with
    | none => rfl
    | some y => exact beq_iff_eq.mp (List.find?_some (p := fun y : LoopFrame => y.group == g) hf)
  · intro x hx
    exact beq_iff_eq.mp (List.mem_filter.mp (List.mem_of_mem_drop hx)).2

/-- The buffers after one has been recentred. -/
def Dev.reloop (d : Dev) (g : Nat) : Dev := { d with loops := (d.loops.filter fun y => y.group != g) ++ d.recentred g }

theorem Dev.reloop_same (d : Dev) (g : Nat) : (d.reloop g).loopOf g = d.recentred g := by
  have h1 : (d.loops.filter fun y => y.group != g).filter (fun x => x.group == g) = [] :=
    List.filter_eq_nil_iff.mpr fun x hx hg => absurd hg (by simpa using (List.mem_filter.mp hx).2)
  have h2 : (d.recentred g).filter (fun x => x.group == g) = d.recentred g :=
    List.filter_eq_self.mpr fun x hx => beq_iff_eq.mpr (d.recentred_group g x hx)
  unfold Dev.loopOf Dev.reloop
  rw [List.filter_append, h1, h2, List.nil_append]

theorem Dev.reloop_other (d : Dev) {g h : Nat} (hne : h ≠ g) : (d.reloop g).loopOf h = d.loopOf h := by
  have h1 : (d.loops.filter fun y => y.group != g).filter (fun x => x.group == h) = d.loopOf h := by
    unfold Dev.loopOf
    rw [List.filter_filter]
    refine List.filter_congr fun x _ => ?_
    by_cases hx : x.group = h
    · simp [hx, hne]
    · simp [hx]
  have h2 : (d.recentred g).filter (fun x => x.group == h) = [] :=
    List.filter_eq_nil_iff.mpr fun x hx hg => hne ((beq_iff_eq.mp hg).symm.trans (d.recentred_group g x hx))
  unfold Dev.reloop
  rw [show ({ d with loops := (d.loops.filter fun y => y.group != g) ++ d.recentred g } : Dev).loopOf h =
    ((d.loops.filter fun y => y.group != g) ++ d.recentred g).filter (fun x => x.group == h) from rfl, List.filter_append, h1, h2,
    List.append_nil]

/-- R175: the slip that a lane of the group counts. -/
def slipLane (m : Nat) (d : Dev) : Dev := ((d.addSat .LTX_LOOP_STATUS_SLIPS m 1).set .LTX_EVENTS_LOOP_SLIP m 1).raiseLane m 7

/-- What a slip shows. -/
def slipFields : List F := [.LTX_LOOP_STATUS_SLIPS, .LTX_EVENTS_LOOP_SLIP]

theorem slipLane_steady (m : Nat) (d : Dev) : Dev.Steady [.LTX_LOOP_STATUS_FILL_LEVEL] slipFields m [] d (slipLane m d) := by
  have h : Dev.Steady [.LTX_LOOP_STATUS_FILL_LEVEL] slipFields m [] d (d.addSat .LTX_LOOP_STATUS_SLIPS m 1) :=
    (Dev.Steady.refl d).own .LTX_LOOP_STATUS_SLIPS _
  exact (h.own .LTX_EVENTS_LOOP_SLIP 1).raise (64 + 8 * m + 7) (by decide)

theorem slipLane_shows (m : Nat) (d : Dev) : (slipLane m d).get .LTX_LOOP_STATUS_SLIPS m =
      satAdd F.LTX_LOOP_STATUS_SLIPS.width (d.get .LTX_LOOP_STATUS_SLIPS m) 1 ∧
    (slipLane m d).get .LTX_EVENTS_LOOP_SLIP m = 1 ∧ 64 + 8 * m + 7 ∈ (slipLane m d).pending := by
  refine ⟨?_, ?_, Dev.raiseLane_mem _ m 7⟩
  · exact (raise_get _ _ _ _ (by decide)).trans ((Dev.get_set_field _ _ _ _ (by decide)).trans (Dev.get_set_same ..))
  · exact (raise_get _ _ _ _ (by decide)).trans (Dev.get_set_same ..)

theorem Dev.showLoop_fill (d : Dev) {g m : Nat} (hm : m ∈ d.lanesOfGroup g) (hsrc : d.get .LTX_STATUS_SOURCE m = 3) :
    (d.showLoop g).get .LTX_LOOP_STATUS_FILL_LEVEL m = (d.loopOf g).length := by
  unfold Dev.showLoop
  refine Dev.forList_reaches_of (I := fun e => e.get .LTX_STATUS_SOURCE m = 3 ∧ e.loopOf g = d.loopOf g)
    (P := fun e => e.get .LTX_LOOP_STATUS_FILL_LEVEL m = (d.loopOf g).length) hm ⟨hsrc, rfl⟩
    (fun y e he => ?_) (fun e he => ?_) fun y e he hf => ?_
  · split
    · exact ⟨(Dev.get_set_field _ _ _ _ (by decide)).trans he.1, he.2⟩
    · exact he
  · rw [if_pos he.1, Dev.get_set_same, he.2]
  · split
    · by_cases hy : y = m
      · rw [hy, Dev.get_set_same, he.2]
      · rw [Dev.get_set_inst _ _ _ fun h => hy h.symm]
        exact hf
    · exact hf

/-- What a recentring shows in the lanes of the group. -/
def recentreFields : List F := .LTX_LOOP_STATUS_FILL_LEVEL :: slipFields

theorem slipLane_only {p : F → Nat → Prop} {m : Nat} (hp : ∀ f ∈ slipFields, p f m) (d : Dev) : Dev.OnlyRaising p d (slipLane m d) :=
  ((((Dev.Only.refl p d).set (f := .LTX_LOOP_STATUS_SLIPS) _ (hp _ (by decide))).set (f := .LTX_EVENTS_LOOP_SLIP) 1
    (hp _ (by decide))).raising).raise (64 + 8 * m + 7)

/-- The recentring of the buffer of group `g`, whose lanes `ls` count a slip each. -/
def Dev.recentre (d : Dev) (g : Nat) (ls : List Nat) : Dev := Dev.forList ls slipLane ((d.reloop g).showLoop g)

theorem Dev.recentre_only (d : Dev) {g : Nat} {ls : List Nat} (hls : ∀ m ∈ ls, m ∈ d.lanesOfGroup g) :
    Dev.OnlyRaising (fun f m => m ∈ d.lanesOfGroup g ∧ f ∈ recentreFields) (d.reloop g) (d.recentre g ls) := by
  have hshow := ((d.reloop g).showLoop_only g).mono (q := fun f m => m ∈ d.lanesOfGroup g ∧ f ∈ recentreFields)
    fun f m h => ⟨h.1, h.2 ▸ List.mem_cons_self ..⟩
  refine hshow.raising.trans ?_
  exact List.foldlRecOn ls (fun d x => slipLane x d) (motive := fun a => Dev.OnlyRaising _ _ a) (.refl _ _) fun a ha m hm =>
    ha.trans (slipLane_only (fun f hf => ⟨hls m hm, List.mem_cons_of_mem _ hf⟩) a)

theorem Dev.recentre_loops (d : Dev) {g : Nat} {ls : List Nat} (hls : ∀ m ∈ ls, m ∈ d.lanesOfGroup g) :
    (d.recentre g ls).loops = (d.reloop g).loops := by rw [(d.recentre_only hls).1]

theorem Dev.recentre_lane (d : Dev) {g m : Nat} {ls : List Nat} (hnd : ls.Nodup) (hm : m ∈ ls) (hlane : m ∈ d.lanesOfGroup g)
    (hsrc : d.get .LTX_STATUS_SOURCE m = 3) {e : Dev} (he : e = d.recentre g ls) :
    e.get .LTX_LOOP_STATUS_FILL_LEVEL m = (d.recentred g).length ∧
    e.get .LTX_LOOP_STATUS_SLIPS m = satAdd F.LTX_LOOP_STATUS_SLIPS.width (d.get .LTX_LOOP_STATUS_SLIPS m) 1 ∧
    e.get .LTX_EVENTS_LOOP_SLIP m = 1 ∧ 64 + 8 * m + 7 ∈ e.pending := by
  obtain ⟨b, ⟨hb, hbg⟩, hbe, hbeg⟩ := Dev.forList_visits slipLane_steady hnd hm ((d.reloop g).showLoop g)
  replace he : e = Dev.forList ls slipLane ((d.reloop g).showLoop g) := he
  rw [← he] at hbe hbeg
  obtain ⟨h1, h2, h3⟩ := slipLane_shows m b
  refine ⟨?_, ?_, (hbeg _ (by decide)).trans h2, hbe.pending _ h3⟩
  · rw [hbe.get _ (by decide), (slipLane_steady m b).get _ (by decide), hb.get _ (by decide), ← d.reloop_same]
    exact (d.reloop g).showLoop_fill hlane hsrc
  · rw [hbeg _ (by decide), h1, hbg _ (by decide),
      ((d.reloop g).showLoop_only g).2 .LTX_LOOP_STATUS_SLIPS m fun h => absurd h.2 (by decide)]
    rfl

/-- What the recentring of a group's buffer shows. -/
theorem loopRecentre_recentres {n : Fin 64} {s : State} (hw : s.dev.get .SPR_CFG_WIDTH (engineOf n) ≤ 3)
    (hloop : ∃ m ∈ s.dev.groupLanes n, s.dev.get .LTX_STATUS_SOURCE m = 3)
    (hlen : (s.dev.loopOf (s.dev.groupOf n)).length = 0 ∨ (s.dev.loopOf (s.dev.groupOf n)).length = 4) :
    Completes (.loopRecentre n) s fun e =>
      ((s.dev.loopOf (s.dev.groupOf n)).length = 4 → e.loopOf (s.dev.groupOf n) = (s.dev.loopOf (s.dev.groupOf n)).drop 1) ∧
      (s.dev.loopOf (s.dev.groupOf n) = [] → (e.loopOf (s.dev.groupOf n)).length = 1) ∧
      (∀ h, h ≠ s.dev.groupOf n → e.loopOf h = s.dev.loopOf h) ∧
      (∀ m ∈ s.dev.groupLanes n, s.dev.get .LTX_STATUS_SOURCE m = 3 →
        e.get .LTX_LOOP_STATUS_FILL_LEVEL m = (e.loopOf (s.dev.groupOf n)).length ∧
        e.get .LTX_LOOP_STATUS_SLIPS m = satAdd F.LTX_LOOP_STATUS_SLIPS.width (s.dev.get .LTX_LOOP_STATUS_SLIPS m) 1 ∧
        e.get .LTX_EVENTS_LOOP_SLIP m = 1 ∧ 64 + 8 * m + 7 ∈ e.pending) ∧
      Dev.OnlyRaising (fun f m => m ∈ s.dev.groupLanes n ∧ f ∈ recentreFields) { s.dev with loops := e.loops } e := by
  refine .runAs (rfl : _ = execLoopRecentre n s) fun e he => ?_
  obtain ⟨m0, hm0, hs0⟩ := hloop
  have hlanes : s.found.lanesOfGroup (s.dev.groupOf n) = s.dev.groupLanes n := Dev.lanesOfGroup_groupOf (d := s.dev) hw
  let ls := (s.dev.groupLanes n).filter fun m => s.dev.get .LTX_STATUS_SOURCE m == 3
  have hcond : (!ls.isEmpty && ((s.dev.loopOf (s.dev.groupOf n)).length == 0 || (s.dev.loopOf (s.dev.groupOf n)).length == 4)) = true := by
    rw [Bool.and_eq_true, Bool.or_eq_true, beq_iff_eq, beq_iff_eq]
    refine ⟨?_, hlen⟩
    rw [Bool.not_eq_true', List.isEmpty_eq_false_iff_exists_mem]
    exact ⟨m0, List.mem_filter.mpr ⟨hm0, beq_iff_eq.mpr hs0⟩⟩
  replace he : e = s.found.recentre (s.dev.groupOf n) ls := he.trans (if_pos hcond)
  have hls : ∀ m ∈ ls, m ∈ s.found.lanesOfGroup (s.dev.groupOf n) := fun m hm => hlanes ▸ (List.mem_filter.mp hm).1
  have honly := s.found.recentre_only hls
  have hloops := s.found.recentre_loops hls
  rw [← he] at honly hloops
  have hof : ∀ h, e.loopOf h = (s.found.reloop (s.dev.groupOf n)).loopOf h := fun h => by rw [Dev.loopOf, hloops, Dev.loopOf]
  have hg : e.loopOf (s.dev.groupOf n) = s.found.recentred (s.dev.groupOf n) := (hof _).trans (s.found.reloop_same _)
  have hfound : s.found.loopOf (s.dev.groupOf n) = s.dev.loopOf (s.dev.groupOf n) := rfl
  refine ⟨fun h4 => ?_, fun h0 => ?_, fun h hne => (hof h).trans (s.found.reloop_other hne), fun m hm hsrc => ?_, ?_⟩
  · rw [hg, Dev.recentred, hfound, if_neg]
    intro hempty
    rw [List.isEmpty_iff.mp hempty] at h4
    exact absurd h4 (by decide)
  · rw [hg, Dev.recentred, hfound, if_pos (List.isEmpty_iff.mpr h0)]
    rfl
  · rw [hg]
    exact s.found.recentre_lane (ls := ls) ((s.dev.groupLanes_nodup n).filter _) (List.mem_filter.mpr ⟨hm, beq_iff_eq.mpr hsrc⟩) (hlanes ▸ hm)
      hsrc he
  · rw [hloops]
    rw [hlanes] at honly
    exact ⟨honly.1, honly.2⟩

/-! ## Squelch causes -/

/-- What the squelch causes of a lane follow, beside the power domains. -/
def causeFields : List F := [.SPR_CFG_MODE, .X_LTX_START, .X_LS_ABSENT, .LRX_STATUS_LOCKED, .HOST_P_STATUS_AM_LOCK,
  .THM_SD_STATUS_STATE, .BIAS_T_TIMER_VBIAS_OK, .X_PWR_LIVE]

/-- The live settings of squelch and ramps. -/
def rampLive : List F := [.LTX_CTRL_AUTO_SQ, .LTX_CTRL_SQUELCH, .LRX_CTRL_ANALOG_LOOP, .LTX_CTRL_RAMP]

/-- The output state of a lane and its ramp. -/
def rampFields : List F := [.LTX_STATUS_OUTPUT, .X_LTX_RAMP_FROM, .X_LTX_RAMP_CLK, .X_LTX_RAMP_N]

/-- A domain that starts to wake is neither ON nor in WAKE_FAILED, and was neither. -/
theorem Dev.MayWake.dom_beq {d e : Dev} (h : Dev.MayWake d e) (k : Nat) {st : Nat} (hst : st = pwON ∨ st = pwFAILED) :
    (e.dom k == st) = (d.dom k == st) := by
  rcases h k with h | ⟨hs, h⟩
  · rw [h]
  · rw [Dev.domAsleep_iff] at hs
    have hd : d.dom k ≠ st := by
      rintro rfl
      rcases hst with hst | hst <;> rw [hst] at hs <;> exact absurd hs (by decide)
    have he : e.dom k ≠ st := by
      rw [h]
      rcases hst with rfl | rfl <;> decide
    rw [beq_eq_false_iff_ne.mpr hd, beq_eq_false_iff_ne.mpr he]

theorem Dev.Steady.causes {N : List F} {n : Nat} {d e : Dev} (h : Dev.Steady causeFields N n rampLive d e) (m : Nat) :
    e.causes m = d.causes m := by
  have hon : ∀ k, e.domOn k = d.domOn k := fun k => by
    unfold Dev.domOn Dev.on
    rw [h.wakes.dom_beq k (.inl rfl), h.get .X_PWR_LIVE (by decide)]
  have hfailed : ∀ k, (e.dom k == pwFAILED) = (d.dom k == pwFAILED) := fun k => h.wakes.dom_beq k (.inr rfl)
  have hanc : ∀ k, e.ancestorFailed k = d.ancestorFailed k := fun k => by
    unfold Dev.ancestorFailed
    simp only [hfailed]
  unfold Dev.causes Dev.txFault Dev.used Dev.mode Dev.on Dev.lon
  simp only [hon, hfailed, hanc, h.get .SPR_CFG_MODE (by decide), h.get .X_LTX_START (by decide), h.get .X_LS_ABSENT (by decide),
    h.get .LRX_STATUS_LOCKED (by decide), h.get .HOST_P_STATUS_AM_LOCK (by decide), h.get .THM_SD_STATUS_STATE (by decide),
    h.get .BIAS_T_TIMER_VBIAS_OK (by decide), h.lget .LTX_CTRL_AUTO_SQ (by decide), h.lget .LTX_CTRL_SQUELCH (by decide),
    h.lget .LRX_CTRL_ANALOG_LOOP (by decide)]

/-- R162, R164: SQ_CAUSE shows the causes, and nothing moves but the reversal of an exit ramp. -/
theorem Dev.syncTx_shows (d : Dev) (n : Nat) : Dev.Steady causeFields rampFields n rampLive d (d.syncTx n) ∧
    (d.syncTx n).get .LTX_STATUS_SQ_CAUSE n = d.causes n ∧
    (d.tx n ≠ txRAMP_UP → ∀ f ∈ rampFields, ∀ i, (d.syncTx n).get f i = d.get f i) := by
  refine ⟨.ofOnly (d.syncTx_only n) (fun f hf _ h => absurd h.2 ((by decide : ∀ f ∈ causeFields, f ∉ followFields) f hf))
    (fun _ _ _ hi h => hi h.1) fun _ h => absurd h.2 (by decide), Dev.get_set_same .., fun htx f hf i => ?_⟩
  unfold Dev.syncTx
  dsimp only
  rw [if_neg fun h => htx h.1]
  exact Dev.get_set_field _ _ _ _ fun h => absurd (h ▸ hf) (by decide)

/-! ## Ramps -/

section
variable {L N M : List F} {n : Nat} {d e : Dev} (hc : ∀ f ∈ courTxFields, f ∉ L ++ N)
include hc

theorem Dev.Steady.reachOn (h : Dev.Steady L N n M d e) (hs : F.LTX_STATUS_OUTPUT ∉ L) (hu : F.LTX_EVENTS_UNSQUELCHED ∉ L) :
    Dev.Steady L N n M d (e.reachOn n) :=
  (((h.own .LTX_STATUS_OUTPUT txON hs).own .LTX_EVENTS_UNSQUELCHED 1 hu).raise (64 + 8 * n + 6) fun f hf =>
    hc f (List.mem_append_right _ hf)).syncCourTx hc n

end

/-- R167: what a lane shows that reaches ON. -/
theorem Dev.reachOn_shows (d : Dev) (n : Nat) : (d.reachOn n).tx n = txON ∧ (d.reachOn n).get .LTX_EVENTS_UNSQUELCHED n = 1 ∧
    64 + 8 * n + 6 ∈ (d.reachOn n).pending := by
  have h := (Dev.Steady.refl (L := [.LTX_STATUS_OUTPUT, .LTX_EVENTS_UNSQUELCHED]) (N := []) (n := n) (M := [])
    (((d.set .LTX_STATUS_OUTPUT n txON).set .LTX_EVENTS_UNSQUELCHED n 1).raiseLane n 6)).syncCourTx (by decide) n
  refine ⟨(h.get .LTX_STATUS_OUTPUT (by decide) n).trans ?_, (h.get .LTX_EVENTS_UNSQUELCHED (by decide) n).trans ?_,
    h.pending _ (Dev.raiseLane_mem _ n 6)⟩
  · exact (raise_get _ _ _ _ (by decide)).trans ((Dev.get_set_field _ _ _ _ (by decide)).trans (Dev.get_set_same ..))
  · exact (raise_get _ _ _ _ (by decide)).trans (Dev.get_set_same ..)

/-- The output of lane `m` is `out`, in a ramp from the gain `from_` that began at `t` over `k` symbols. -/
structure Dev.RampAt (e : Dev) (m out from_ t k : Nat) : Prop where
  out : e.tx m = out
  start : e.get .X_LTX_RAMP_FROM m = from_
  clk : e.get .X_LTX_RAMP_CLK m = t
  size : e.get .X_LTX_RAMP_N m = k

theorem le_lineSymbols_lineSpan (mode k : Nat) : k ≤ lineSymbols mode (lineSpan mode k) := by
  have hpos : 0 < 32768 * modeScale mode := by
    have : 0 < modeScale mode := by
      unfold modeScale
      split <;> decide
    omega
  unfold lineSymbols lineSpan
  rw [Nat.le_div_iff_mul_le hpos, ← Nat.mul_assoc]
  omega

theorem Dev.RampAt.symbols_end {e : Dev} {m out from_ t k : Nat} (h : e.RampAt m out from_ t k) (hk : k ≠ 0)
    (hend : e.rampEnd m = t + lineSpan (e.mode (engineOf m)) k) :
    4096 ≤ lineSymbols (e.mode (engineOf m)) (e.rampEnd m - e.get .X_LTX_RAMP_CLK m) * 4096 / k := by
  rw [hend, h.clk, Nat.add_sub_cancel_left, Nat.le_div_iff_mul_le (Nat.pos_of_ne_zero hk)]
  have := le_lineSymbols_lineSpan (e.mode (engineOf m)) k
  omega

/-- R163: a whole ramp up runs from gain 0 to the full gain. -/
theorem Dev.RampAt.up {e : Dev} {m t k : Nat} (h : e.RampAt m txRAMP_UP 0 t k) (hk : k ≠ 0) :
    e.gainAt m t = 0 ∧ e.gainAt m (e.rampEnd m) = 4096 := by
  have hend : e.rampEnd m = t + lineSpan (e.mode (engineOf m)) k := by
    unfold Dev.rampEnd
    dsimp only
    rw [h.out, h.start, h.clk, h.size, if_pos rfl, show (k * (4096 - 0) + 4095) / 4096 = k by omega]
  have h4 := h.symbols_end hk hend
  generalize e.rampEnd m = x at h4 ⊢
  unfold Dev.gainAt
  dsimp only
  rw [h.out, h.start, h.size, if_pos rfl, if_pos rfl, if_neg hk, if_neg hk]
  refine ⟨?_, by omega⟩
  rw [h.clk, Nat.sub_self, lineSymbols, Nat.zero_mul, Nat.zero_div, Nat.zero_mul, Nat.zero_div]
  rfl

/-- R163: a whole ramp down runs from the full gain to 0. -/
theorem Dev.RampAt.down {e : Dev} {m t k : Nat} (h : e.RampAt m txRAMP_DOWN 4096 t k) (hk : k ≠ 0) :
    e.gainAt m t = 4096 ∧ e.gainAt m (e.rampEnd m) = 0 := by
  have hdu : txRAMP_DOWN ≠ txRAMP_UP := by decide
  have hend : e.rampEnd m = t + lineSpan (e.mode (engineOf m)) k := by
    unfold Dev.rampEnd
    dsimp only
    rw [h.out, h.start, h.clk, h.size, if_neg hdu, show (k * 4096 + 4095) / 4096 = k by omega]
  have h4 := h.symbols_end hk hend
  generalize e.rampEnd m = x at h4 ⊢
  unfold Dev.gainAt
  dsimp only
  rw [h.out, h.start, h.size, if_neg hdu, if_neg hdu, if_pos rfl, if_pos rfl, if_neg hk, if_neg hk]
  refine ⟨?_, by omega⟩
  rw [h.clk, Nat.sub_self, lineSymbols, Nat.zero_mul, Nat.zero_div, Nat.zero_mul, Nat.zero_div]

theorem rampSymbols_ne_zero {r : Nat} (h : r ≠ 0) : rampSymbols r ≠ 0 := by
  unfold rampSymbols
  split
  · exact absurd rfl h
  all_goals decide

theorem Dev.rampBegin_at (d : Dev) (n out : Nat) :
    (d.rampBegin n out).RampAt n out (d.gainAt n d.clk) d.clk (rampSymbols (d.lget .LTX_CTRL_RAMP n)) := by
  refine ⟨?_, ?_, ?_, Dev.get_set_same ..⟩
  · exact (Dev.get_set_field _ _ _ _ (by decide)).trans (Dev.get_set_same ..)
  · exact (Dev.get_set_field _ _ _ _ (by decide)).trans ((Dev.get_set_field _ _ _ _ (by decide)).trans
      ((Dev.get_set_field _ _ _ _ (by decide)).trans (Dev.get_set_same ..)))
  · exact (Dev.get_set_field _ _ _ _ (by decide)).trans ((Dev.get_set_field _ _ _ _ (by decide)).trans (Dev.get_set_same ..))

theorem Dev.RampAt.of_eq {d e : Dev} {m out from_ t k : Nat} (h : d.RampAt m out from_ t k)
    (he : ∀ f ∈ rampFields, e.get f m = d.get f m) : e.RampAt m out from_ t k :=
  ⟨(he _ (by decide)).trans h.out, (he _ (by decide)).trans h.start, (he _ (by decide)).trans h.clk, (he _ (by decide)).trans h.size⟩

/-- R163: what lane `m` of `e` does after a frame boundary that found it as in `d`. -/
structure Dev.RampBegun (d : Dev) (m : Nat) (e : Dev) : Prop where
  up : d.tx m = txSQUELCH → d.causes m = 0 → (d.lget .LTX_CTRL_RAMP m = 0 → e.tx m = txON) ∧
    (d.lget .LTX_CTRL_RAMP m ≠ 0 → e.RampAt m txRAMP_UP 0 d.clk (rampSymbols (d.lget .LTX_CTRL_RAMP m)))
  down : d.tx m = txON → hasRamped (d.causes m) = true → hasImmediate (d.causes m) = false →
    (d.lget .LTX_CTRL_RAMP m = 0 → e.tx m = txSQUELCH) ∧
    (d.lget .LTX_CTRL_RAMP m ≠ 0 → e.RampAt m txRAMP_DOWN 4096 d.clk (rampSymbols (d.lget .LTX_CTRL_RAMP m)))

theorem Dev.gainAt_of_squelch {d : Dev} {n : Nat} (h : d.tx n = txSQUELCH) (t : Nat) : d.gainAt n t = 0 := by
  unfold Dev.gainAt
  dsimp only
  rw [h, if_neg (by decide), if_neg (by decide), if_neg (by decide)]

theorem Dev.gainAt_of_on {d : Dev} {n : Nat} (h : d.tx n = txON) (t : Nat) : d.gainAt n t = 4096 := by
  unfold Dev.gainAt
  dsimp only
  rw [h, if_neg (by decide), if_neg (by decide), if_pos rfl]

theorem Dev.rampBegin_steady {d e : Dev} {n : Nat} (h : Dev.Steady causeFields rampFields n rampLive d e) (out : Nat) :
    Dev.Steady causeFields rampFields n rampLive d (e.rampBegin n out) :=
  (((h.own .X_LTX_RAMP_FROM _).own .X_LTX_RAMP_CLK _).own .LTX_STATUS_OUTPUT out).own .X_LTX_RAMP_N _

theorem Dev.rampDone_down {d : Dev} {n : Nat} (h : d.tx n = txRAMP_DOWN) :
    d.rampDone n = ((d.set .LTX_STATUS_OUTPUT n txSQUELCH).set .LTX_EVENTS_SQUELCHED n 1).raiseLane n 6 := by
  unfold Dev.rampDone
  rw [if_neg (by rw [h]; decide), if_pos h]

theorem Dev.rampStart_begins (n : Nat) (d : Dev) :
    Dev.Steady causeFields rampFields n rampLive d (Dev.rampStart n d) ∧ d.RampBegun n (Dev.rampStart n d) := by
  obtain ⟨hb, hcause, hkeep⟩ := d.syncTx_shows n
  unfold Dev.rampStart
  extract_lets b c b1
  change Dev.Steady _ _ _ _ d b at hb
  have hc : c = d.causes n := hcause
  have hclk : b.clk = d.clk := hb.clk
  have hramp : b.lget .LTX_CTRL_RAMP n = d.lget .LTX_CTRL_RAMP n := hb.lget _ (by decide) n
  have htx : d.tx n ≠ txRAMP_UP → b.tx n = d.tx n := fun h => hkeep h .LTX_STATUS_OUTPUT (by decide) n
  have hcour : ∀ f ∈ courTxFields, f ∉ causeFields ++ rampFields := by decide
  clear_value c b
  have hb1 : b1.RampAt n txRAMP_DOWN (b.gainAt n b.clk) b.clk (rampSymbols (b.lget .LTX_CTRL_RAMP n)) :=
    (b.rampBegin_at n txRAMP_DOWN).of_eq fun f hf =>
      ((Dev.Steady.refl (L := rampFields) (N := []) (n := n) (M := []) (b.rampBegin n txRAMP_DOWN)).syncCourTx (by decide) n).get f hf n
  have hs1 : Dev.Steady causeFields rampFields n rampLive d b1 := (Dev.rampBegin_steady hb _).syncCourTx hcour n
  clear_value b1
  split
  · next h =>
    rw [hc] at h
    refine ⟨?_, fun hsq _ => ?_, fun _ hr _ => absurd (h.2 ▸ hr) (by decide)⟩
    · split
      · exact hb.reachOn hcour (by decide) (by decide)
      · exact Dev.rampBegin_steady hb _
    · rw [← hramp, ← hclk]
      refine ⟨fun h0 => ?_, fun h0 => ?_⟩
      · rw [if_pos h0]
        exact (b.reachOn_shows n).1
      · rw [if_neg h0, ← Dev.gainAt_of_squelch h.1 b.clk]
        exact b.rampBegin_at n txRAMP_UP
  · next hup =>
    have hnup : d.tx n = txSQUELCH → d.causes n = 0 → False := fun hsq h0 =>
      hup ⟨(htx (by rw [hsq]; decide)).trans hsq, hc.trans h0⟩
    split
    · next h =>
      refine ⟨?_, fun hsq h0 => (hnup hsq h0).elim, fun hon _ _ => ?_⟩
      · split
        · rw [Dev.rampDone_down hb1.out]
          exact ((hs1.own .LTX_STATUS_OUTPUT txSQUELCH).write .LTX_EVENTS_SQUELCHED n 1).raise (64 + 8 * n + 6) (by decide)
        · exact hs1
      · rw [← hramp, ← hclk]
        refine ⟨fun h0 => ?_, fun h0 => ?_⟩
        · rw [if_pos (hb1.size.trans (by rw [h0]; rfl)), Dev.rampDone_down hb1.out]
          exact (raise_get _ _ _ _ (by decide)).trans ((Dev.get_set_field _ _ _ _ (by decide)).trans (Dev.get_set_same ..))
        · rw [if_neg fun hz => rampSymbols_ne_zero h0 (hb1.size.symm.trans hz), ← Dev.gainAt_of_on h.1 b.clk]
          exact hb1
    · next hdown =>
      refine ⟨hb, fun hsq h0 => (hnup hsq h0).elim, fun hon hr hi => absurd ⟨(htx (by rw [hon]; decide)).trans hon, ?_⟩ hdown⟩
      rw [hc, hr, hi]
      decide

theorem rampStart_begins (n : Fin 64) (s : State) : Completes (.rampStart n) s fun e => ∀ m ∈ s.dev.groupLanes n,
    s.dev.RampBegun m e := by
  refine .runAs (rfl : _ = execRampStart n s) fun e he m hm => ?_
  obtain ⟨b, ⟨hb, hbg⟩, hbe, hbeg⟩ := Dev.forList_visits (fun y d => (d.rampStart_begins y).1) (s.found.groupLanes_nodup n) hm s.found
  replace he : e = Dev.forList (s.found.groupLanes n) Dev.rampStart s.found := he
  rw [← he] at hbeg
  obtain ⟨hup, hdown⟩ := (b.rampStart_begins m).2
  have htx : b.tx m = s.dev.tx m := hbg .LTX_STATUS_OUTPUT (by decide)
  have hout : e.tx m = (Dev.rampStart m b).tx m := hbeg .LTX_STATUS_OUTPUT (by decide)
  rw [htx, hb.causes, hb.lget .LTX_CTRL_RAMP (by decide), hb.clk] at hup hdown
  exact ⟨fun h1 h2 => ⟨fun h => hout.trans ((hup h1 h2).1 h), fun h => ((hup h1 h2).2 h).of_eq hbeg⟩,
    fun h1 h2 h3 => ⟨fun h => hout.trans ((hdown h1 h2 h3).1 h), fun h => ((hdown h1 h2 h3).2 h).of_eq hbeg⟩⟩

/-! ## Squelch at once, ends of ramps, PLLs -/

theorem squelchImmediate_squelches (n : Fin 64) (s : State) : Completes (.squelchImmediate n) s fun e =>
    e.get .LTX_STATUS_SQ_CAUSE n = s.dev.causes n ∧
    (hasImmediate (s.dev.causes n) = true → e.tx n = txSQUELCH ∧ (s.dev.tx n = txON → e.get .LTX_EVENTS_SQUELCHED n = 1 ∧
      64 + 8 * n.val + 6 ∈ e.pending)) ∧
    (hasImmediate (s.dev.causes n) = false → Dev.OnlyAt [.LTX_STATUS_OUTPUT, .LTX_STATUS_SQ_CAUSE, .X_LTX_RAMP_FROM,
      .X_LTX_RAMP_CLK] n s.dev e) := by
  refine .runAs (rfl : _ = execSquelchImmediate n s) fun e he => ?_
  obtain ⟨-, hcause, hkeep⟩ := s.found.syncTx_shows n
  have honly := s.found.syncTx_only n
  dsimp only at he
  have htx : s.dev.tx n = txON → (s.found.syncTx n).tx n = txON := fun h =>
    (hkeep (by rw [show s.found.tx n = txON from h]; decide) .LTX_STATUS_OUTPUT (by decide) n).trans h
  rw [hcause] at he
  generalize s.found.syncTx n = b at *
  by_cases him : hasImmediate (s.dev.causes n) = true
  · replace he : e = b.squelchNow n := he.trans (if_pos him)
    unfold Dev.squelchNow at he
    by_cases hsq : b.tx n = txSQUELCH
    · replace he : e = b := he.trans (if_pos hsq)
      subst he
      exact ⟨hcause, fun _ => ⟨hsq, fun hon => absurd ((htx hon).symm.trans hsq) (by decide)⟩,
        fun h => absurd (him.symm.trans h) (by decide)⟩
    · replace he := he.trans (if_neg hsq)
      extract_lets b1 at he
      have hk : Dev.Steady [.LTX_STATUS_OUTPUT, .LTX_EVENTS_SQUELCHED, .LTX_STATUS_SQ_CAUSE] [] n.val []
          b1 (if b.tx n = txON then b1.raiseLane n 6 else b1) := by
        split
        · exact (Dev.Steady.refl b1).raise (64 + 8 * n.val + 6) (by decide)
        · exact .refl b1
      have hc := (Dev.Steady.refl (L := [.LTX_STATUS_OUTPUT, .LTX_EVENTS_SQUELCHED, .LTX_STATUS_SQ_CAUSE]) (N := []) (n := n.val)
        (M := []) (if b.tx n = txON then b1.raiseLane n 6 else b1)).syncCourTx (by decide) n
      rw [← he] at hc
      have hall := hk.trans hc
      refine ⟨(hall.get _ (by decide) n).trans ?_, fun _ => ⟨(hall.get .LTX_STATUS_OUTPUT (by decide) n).trans ?_, fun hon =>
        ⟨(hall.get _ (by decide) n).trans (Dev.get_set_same ..), hc.pending _ ?_⟩⟩, fun h => absurd (him.symm.trans h) (by decide)⟩
      · exact (Dev.get_set_field _ _ _ _ (by decide)).trans ((Dev.get_set_field _ _ _ _ (by decide)).trans hcause)
      · exact (Dev.get_set_field _ _ _ _ (by decide)).trans (Dev.get_set_same ..)
      · rw [if_pos (htx hon)]
        exact Dev.raiseLane_mem _ _ _
  · replace he : e = b := he.trans (if_neg him)
    subst he
    refine ⟨hcause, fun h => absurd h him, fun _ => (honly.mono fun f i h => ⟨h.1, ?_⟩).ofFound⟩
    exact (by decide : ∀ f ∈ followFields, f ∈ [F.LTX_STATUS_OUTPUT, .LTX_STATUS_SQ_CAUSE, .X_LTX_RAMP_FROM, .X_LTX_RAMP_CLK]) f h.2

theorem rampDone_up_ends {n : Fin 64} {s : State} (hup : s.dev.tx n = txRAMP_UP) (hend : s.dev.rampEnd n ≤ s.dev.clk) :
    Completes (.rampDone n) s fun e => e.tx n = txON ∧ e.get .LTX_EVENTS_UNSQUELCHED n = 1 ∧ 64 + 8 * n.val + 6 ∈ e.pending := by
  refine .runIf (rfl : _ = execRampDone n s) (.inl hup) fun e he => ?_
  replace he : e = s.found.reachOn n := (he.trans (Dev.onTime_of_le hend)).trans (if_pos hup)
  rw [he]
  exact s.found.reachOn_shows n

theorem rampDone_down_ends {n : Fin 64} {s : State} (hdown : s.dev.tx n = txRAMP_DOWN) (hend : s.dev.rampEnd n ≤ s.dev.clk) :
    Completes (.rampDone n) s fun e => e.tx n = txSQUELCH ∧ e.get .LTX_EVENTS_SQUELCHED n = 1 ∧
      Dev.Raised (64 + 8 * n.val + 6) s.dev e ∧ Dev.OnlyRaisingAt [.LTX_STATUS_OUTPUT, .LTX_EVENTS_SQUELCHED] n s.dev e := by
  refine .runIf (rfl : _ = execRampDone n s) (.inr hdown) fun e he => ?_
  replace he : e = ((s.found.set .LTX_STATUS_OUTPUT n txSQUELCH).set .LTX_EVENTS_SQUELCHED n 1).raise (64 + 8 * n.val + 6) :=
    (he.trans (Dev.onTime_of_le hend)).trans (Dev.rampDone_down hdown)
  obtain ⟨hpend, hocc⟩ := raise_raised ((s.found.set .LTX_STATUS_OUTPUT n txSQUELCH).set .LTX_EVENTS_SQUELCHED n 1)
    (s := 64 + 8 * n.val + 6) (by omega)
  refine ⟨?_, ?_, ⟨he ▸ hpend, ?_⟩, ?_⟩
  · rw [he]
    exact (raise_get _ _ _ _ (by decide)).trans ((Dev.get_set_field _ _ _ _ (by decide)).trans (Dev.get_set_same ..))
  · rw [he]
    exact (raise_get _ _ _ _ (by decide)).trans (Dev.get_set_same ..)
  · rw [he, hocc, Dev.get_set_field _ _ _ _ (by decide), Dev.get_set_field _ _ _ _ (by decide)]
    rfl
  · rw [he]
    have honly : Dev.OnlyAt [.LTX_STATUS_OUTPUT, .LTX_EVENTS_SQUELCHED] n s.found
        ((s.found.set .LTX_STATUS_OUTPUT n txSQUELCH).set .LTX_EVENTS_SQUELCHED n 1) :=
      (Dev.OnlyAt.write (.refl _ _) .LTX_STATUS_OUTPUT txSQUELCH).write .LTX_EVENTS_SQUELCHED 1
    exact (honly.raising.raise _).ofFound

theorem txPllLock_locks {e : Fin 8} {s : State} (h : s.dev.get .X_LTX_START e = 1) : Completes (.txPllLock e) s fun d =>
    d.get .X_LTX_START e = 2 ∧ (∀ m ∈ lanesOf e, d.get .LTX_STATUS_PLL_LOCK m = 1) ∧
      Dev.Only (fun f i => (f = .X_LTX_START ∧ i = e) ∨ (f = .LTX_STATUS_PLL_LOCK ∧ i ∈ lanesOf e)) s.dev d := by
  refine .runIf (rfl : _ = execTxPllLock e s) h fun d hd => ?_
  replace hd : d = (s.found.set .X_LTX_START e 2).setEach .LTX_STATUS_PLL_LOCK (lanesOf e) 1 := hd
  subst hd
  refine ⟨(Dev.setEach_get_field _ _ _ _ (by decide)).trans (Dev.get_set_same ..), fun m hm => Dev.setEach_get_of_mem _ _ hm, ?_⟩
  exact (((Dev.Only.refl _ _).set (f := .X_LTX_START) 2 (.inl ⟨rfl, rfl⟩)).setEach 1 fun i hi => .inr ⟨rfl, hi⟩).ofFound

/-- Settles O40: the sources, patterns and loop buffers of transmit lanes at a frame boundary, their squelch and their ramps. -/
theorem transmitSources : Obligations.TransmitSources := by
  refine ⟨fun n s => ⟨sourceSwitch_switches n s, patternRestart_restarts n s, ?_, fun hw hloop hlen =>
      loopRecentre_recentres hw hloop hlen⟩,
    fun n s => ⟨squelchImmediate_squelches n s, ?_, rampDone_up_ends, rampDone_down_ends, fun e => txPllLock_locks, ?_⟩⟩
  · obtain ⟨t, hrun, hpend, htaken, honly⟩ := loopClockSwitch_moves n s
    refine ⟨t, hrun, hpend, fun m hm hsrc hgone => ?_, honly⟩
    obtain ⟨hnone, hsome⟩ := htaken m hm hsrc hgone
    split
    · exact hnone ‹_›
    · exact hsome _ ‹_›
  · obtain ⟨t, hrun, hpend, hbegun⟩ := rampStart_begins n s
    refine ⟨t, hrun, hpend, fun m hm => ⟨fun h1 h2 => ?_, fun h1 h2 h3 => ?_⟩⟩
    · obtain ⟨hon, hat⟩ := (hbegun m hm).up h1 h2
      exact ⟨hon, fun h => ⟨(hat h).out, (hat h).up (rampSymbols_ne_zero h)⟩⟩
    · obtain ⟨hoff, hat⟩ := (hbegun m hm).down h1 h2 h3
      exact ⟨hoff, fun h => ⟨(hat h).out, (hat h).down (rampSymbols_ne_zero h)⟩⟩
  · refine .runAs (rfl : _ = execLtxClearStats n s) fun e he => ?_
    subst he
    exact ⟨fun f hf => Dev.setAll_get_of_mem _ _ _ hf, ((Dev.Only.refl _ _).setAll 0 fun f hf => ⟨rfl, hf⟩).ofFound⟩

end Sys2Proof.Machine
end

section
/-! PROOFS. The decoder pool: grants and counters (R221, R223, R234). -/

-- One theorem at a time: the whole text is compiled under a memory limit, which the stacks of waiting threads would fill.
set_option Elab.async false

namespace Sys2Proof.Machine

open Sys2Proof

/-! ## Grants -/

theorem largest_le (p : Nat → Bool) (n : Nat) : largest p n ≤ max 1 n := by
  induction n using largest.induct p with
  | case1 => exact Nat.le_max_left ..
  | case2 => exact Nat.le_max_left ..
  | case3 a ha h =>
    rw [largest.eq_3 p a ha, if_pos h]
    exact Nat.le_max_right ..
  | case4 a ha h ih =>
    rw [largest.eq_3 p a ha, if_neg h]
    omega

/-- Every grant of group `g` so far is at most `b`. -/
def Grants.AtMost (s : Grants) (g b : Nat) : Prop := ∀ p ∈ s.list, p.1 = g → p.2 ≤ b

theorem Grants.AtMost.of_le {s : Grants} {g b : Nat} (h : s.AtMost g b) : s.of g ≤ b := by
  unfold Grants.of
  cases hf : s.list.find? fun p => decide (p.1 = g) with
  | none => exact Nat.zero_le b
  | some p => exact h p (List.mem_of_find?_eq_some hf) (of_decide_eq_true (List.find?_some (p := fun p : Nat × Nat => decide (p.1 = g)) hf))

theorem Grants.AtMost.cons {s : Grants} {g b : Nat} (h : s.AtMost g b) {x a : Nat} (ha : x = g → a ≤ b) (l : Int) (c : Bool) :
    Grants.AtMost ⟨l, (x, a) :: s.list, c⟩ g b := by
  intro p hp hg
  rcases List.mem_cons.mp hp with rfl | hp
  · exact ha hg
  · exact h p hp hg

/-- The first grant listed for group `g` is `a`. -/
def Grants.First (s : Grants) (g a : Nat) : Prop := (s.list.find? fun p => decide (p.1 = g)) = some (g, a)

theorem Grants.First.of_eq {s : Grants} {g a : Nat} (h : s.First g a) : s.of g = a := by
  unfold Grants.of
  rw [show (s.list.find? fun p => decide (p.1 = g)) = some (g, a) from h]
  rfl

theorem Grants.First.same (s : Grants) (g a : Nat) (l : Int) (c : Bool) : Grants.First ⟨l, (g, a) :: s.list, c⟩ g a :=
  List.find?_cons_of_pos (decide_eq_true rfl)

theorem Grants.First.other {s : Grants} {g a : Nat} (h : s.First g a) {x : Nat} (hx : x ≠ g) (b : Nat) (l : Int) (c : Bool) :
    Grants.First ⟨l, (x, b) :: s.list, c⟩ g a :=
  (List.find?_cons_of_neg (by simpa using hx)).trans h

section
variable (d : Dev) (t b : Nat)

/-- The members of the ranked groups are those ranked. -/
theorem Dev.mem_insertRank (g x : Nat) (l : List Nat) : x ∈ d.insertRank g l ↔ x = g ∨ x ∈ l := by
  induction l with
  | nil => simp [Dev.insertRank]
  | cons h l ih =>
    unfold Dev.insertRank
    split
    · simp
    · rw [List.mem_cons, ih, List.mem_cons]
      exact or_left_comm

theorem Dev.mem_ranked (l : List Nat) (x : Nat) : x ∈ d.ranked l ↔ x ∈ l := by
  induction l with
  | nil => rfl
  | cons g l ih => rw [show d.ranked (g :: l) = d.insertRank g (d.ranked l) from rfl, Dev.mem_insertRank, ih, List.mem_cons]

/-- R223: a forced group is granted its forced allowance. -/
theorem Dev.grants_forced {g : Nat} (hg : g ∈ d.poolGroups t) (hf : d.lon .POOL_G_CTRL_FORCE_EN g = true) :
    (d.grants t b).1.of g = code6 (d.lget .POOL_G_CTRL_FORCE g) := by
  apply Grants.First.of_eq
  have hrest : ∀ x ∈ d.ranked ((d.poolGroups t).filter fun g => !d.lon .POOL_G_CTRL_FORCE_EN g), x ≠ g := by
    rintro x hx rfl
    have := (List.mem_filter.mp ((d.mem_ranked _ _).mp hx)).2
    rw [hf] at this
    exact absurd this (by decide)
  unfold Dev.grants
  extract_lets all forced rest s0 s1 s2
  have h0 : s0.First g (code6 (d.lget .POOL_G_CTRL_FORCE g)) := by
    obtain ⟨l1, l2, hl⟩ := List.append_of_mem (show g ∈ forced from List.mem_filter.mpr ⟨hg, hf⟩)
    unfold s0
    rw [hl, List.foldl_append, List.foldl_cons]
    refine List.foldlRecOn l2 _ (motive := fun s => Grants.First s g (code6 (d.lget .POOL_G_CTRL_FORCE g)))
      (Grants.First.same _ _ _ _ _) fun s hs x _ => ?_
    by_cases hx : x = g
    · subst hx
      exact Grants.First.same _ _ _ _ _
    · exact hs.other hx _ _ _
  have h1 : s1.First g (code6 (d.lget .POOL_G_CTRL_FORCE g)) :=
    List.foldlRecOn rest _ (motive := fun s => Grants.First s g (code6 (d.lget .POOL_G_CTRL_FORCE g))) h0
      fun s hs x hx => hs.other (hrest x hx) _ _ _
  exact List.foldlRecOn rest _ (motive := fun s => Grants.First s g (code6 (d.lget .POOL_G_CTRL_FORCE g))) h1
    fun s hs x hx => hs.other (hrest x hx) _ _ _

theorem Dev.poolFloor_pos (g : Nat) : 1 ≤ d.poolFloor g := by
  unfold Dev.poolFloor clampN
  omega

/-- R223: another group is granted no more than it asks for, or than its floor. -/
theorem Dev.grants_le {g : Nat} (hf : d.lon .POOL_G_CTRL_FORCE_EN g = false) :
    (d.grants t b).1.of g ≤ max (d.get .POOL_G_REQ_REQUEST g) (d.poolFloor g) := by
  have hpos := d.poolFloor_pos g
  apply Grants.AtMost.of_le
  unfold Dev.grants
  extract_lets all forced rest s0 s1 s2
  have h0 : s0.AtMost g (max (d.get .POOL_G_REQ_REQUEST g) (d.poolFloor g)) := by
    refine List.foldlRecOn forced _ (motive := fun s => Grants.AtMost s g _) (fun p hp => absurd hp List.not_mem_nil) fun s hs x hx => ?_
    refine hs.cons (fun hxg => ?_) _ _
    have := (List.mem_filter.mp hx).2
    rw [hxg, hf] at this
    exact absurd this (by decide)
  have h1 : s1.AtMost g (max (d.get .POOL_G_REQ_REQUEST g) (d.poolFloor g)) := by
    refine List.foldlRecOn rest _ (motive := fun s => Grants.AtMost s g _) h0 fun s hs x _ => hs.cons (fun hxg => ?_) _ _
    subst hxg
    have := largest_le (fun a => decide ((d.charge x a : Int) ≤ max s.left 0)) (d.poolFloor x)
    omega
  refine List.foldlRecOn rest _ (motive := fun s => Grants.AtMost s g _) h1 fun s hs x _ => hs.cons (fun hxg => ?_) _ _
  subst hxg
  have hhave := hs.of_le
  have := largest_le (fun a => decide ((d.charge x a : Int) - d.charge x (s.of x) ≤ max s.left 0)) (d.get .POOL_G_REQ_REQUEST x)
  omega

end

/-! ## The computation -/

/-- What says which groups of a tile exist, which are LOCKED, and their floors. -/
def poolKept : List F := [.SPR_CFG_WIDTH, .SPR_CFG_MODE, .SPR_G_STATUS_STATE, .POOL_G_REQ_LEDGER_MIN]

/-- The live settings of a group of the pool. -/
def poolLive : List F := [.POOL_G_CTRL_FORCE_EN, .POOL_G_CTRL_FORCE, .POOL_G_CTRL_MAX, .POOL_G_CTRL_MIN]

/-- What the computation finds for a group. -/
def reqFields : List F := [.POOL_G_REQ_REQUEST, .POOL_G_REQ_GRANT]

section
variable {N : List F} {n : Nat} {d e : Dev}

theorem Dev.tileGroups_eq (h : Dev.Steady poolKept N n poolLive d e) (t : Nat) : e.tileGroups t = d.tileGroups t := by
  unfold Dev.tileGroups Dev.groupExists Dev.used Dev.mode Dev.width
  simp only [h.get .SPR_CFG_WIDTH (by decide), h.get .SPR_CFG_MODE (by decide)]

theorem Dev.poolGroups_eq (h : Dev.Steady poolKept N n poolLive d e) (t : Nat) : e.poolGroups t = d.poolGroups t := by
  unfold Dev.poolGroups Dev.sg
  rw [Dev.tileGroups_eq h]
  simp only [h.get .SPR_G_STATUS_STATE (by decide)]

theorem Dev.poolFloor_eq (h : Dev.Steady poolKept N n poolLive d e) (g : Nat) : e.poolFloor g = d.poolFloor g := by
  unfold Dev.poolFloor
  rw [h.lget .POOL_G_CTRL_MAX (by decide), h.lget .POOL_G_CTRL_MIN (by decide), h.get .POOL_G_REQ_LEDGER_MIN (by decide)]

end

theorem Dev.tileGroups_nodup (d : Dev) (t : Nat) : (d.tileGroups t).Nodup :=
  (List.Nodup.map (fun _ _ h => Nat.add_left_cancel h) List.nodup_range).filter _

theorem Dev.poolGroups_nodup (d : Dev) (t : Nat) : (d.poolGroups t).Nodup := (d.tileGroups_nodup t).filter _

/-- R218, R219: the round of a group: its score, and its request if it is LOCKED. -/
def askGroup (gs : List Nat) (g : Nat) (d : Dev) : Dev :=
  let d := d.scoreGroup g
  if gs.contains g then d.requestGroup g
  else d.setAll [.POOL_G_REQ_REQUEST, .POOL_G_REQ_GRANT, .POOL_G_REQ_URGENT, .POOL_G_REQ_DENIED, .POOL_G_REQ_SERVED] g 0

theorem askGroup_steady (gs : List Nat) (g : Nat) (d : Dev) : Dev.Steady poolKept reqFields g poolLive d (askGroup gs g d) := by
  have hs : Dev.Steady poolKept reqFields g poolLive d (d.scoreGroup g) := by
    unfold Dev.scoreGroup
    extract_lets s b1 b2
    have h1 : Dev.Steady poolKept reqFields g poolLive d b1 := by
      unfold b1
      split
      · exact .same rfl rfl rfl rfl
      · exact .refl d
    exact ((h1.write .POOL_G_SCORE_SCORE g s).write .POOL_G_SCORE_F1 g _).write .POOL_G_REQ_POLICY g _
  unfold askGroup
  extract_lets b
  change Dev.Steady _ _ _ _ d b at hs
  clear_value b
  split
  · exact hs.own .POOL_G_REQ_REQUEST _
  · exact ((((hs.own .POOL_G_REQ_REQUEST 0).own .POOL_G_REQ_GRANT 0).own .POOL_G_REQ_URGENT 0).own .POOL_G_REQ_DENIED 0).own
      .POOL_G_REQ_SERVED 0

theorem askGroup_none {gs : List Nat} {g : Nat} (hg : g ∉ gs) (d : Dev) :
    (askGroup gs g d).get .POOL_G_REQ_GRANT g = 0 ∧ (askGroup gs g d).get .POOL_G_REQ_REQUEST g = 0 := by
  unfold askGroup
  dsimp only
  rw [if_neg fun h => hg (List.contains_iff_mem.mp h)]
  exact ⟨Dev.setAll_get_of_mem _ _ _ (by decide), Dev.setAll_get_of_mem _ _ _ (by decide)⟩

theorem urgeGroup_steady {L : List F} (hL : ∀ f ∈ [F.POOL_G_COUNTS_URGENT_ENTRIES, .POOL_EVENTS_URGENT_ENTER, .POOL_G_REQ_URGENT] ++
    signalFields, f ∉ L ++ []) (t g n : Nat) (d : Dev) : Dev.Steady L [] n poolLive d (Dev.urgeGroup t g d) := by
  unfold Dev.urgeGroup
  extract_lets u b
  have hb : Dev.Steady L [] n poolLive d b := by
    unfold b
    split
    · exact (((Dev.Steady.refl d).write .POOL_G_COUNTS_URGENT_ENTRIES g _ (hL _ (by decide))).write .POOL_EVENTS_URGENT_ENTER t 1
        (hL _ (by decide))).raise (640 + 16 * t + 8) fun f hf => hL f (List.mem_append_right _ hf)
    · exact .refl d
  exact hb.write .POOL_G_REQ_URGENT g _ (hL _ (by decide))

/-- R223, R225: the round of a LOCKED group: its grant, next charge and age, with the grants `r` made on device `d0`. -/
def grantGroup (d0 : Dev) (r : Grants) (g : Nat) (d : Dev) : Dev :=
  let a := r.of g
  let forced := d.lon .POOL_G_CTRL_FORCE_EN g
  ((d.set .POOL_G_REQ_GRANT g a).set .X_POOL_NEXT_CHARGE g (d0.charge g a)).ageGroup g forced
    (decide (a < d0.get .POOL_G_REQ_REQUEST g))

/-- What the computation keeps after it has found the requests. -/
def grantKept : List F := .POOL_G_REQ_REQUEST :: poolKept

theorem ageGroup_steady {L N M : List F} {n : Nat} (hL : ∀ f ∈ [F.POOL_G_REQ_SERVED, .POOL_G_REQ_DENIED, .POOL_G_AGE_AGE,
    .POOL_G_COUNTS_DENIED, .POOL_G_AGE_MAX_AGE], f ∉ L ++ N) (g : Nat) (forced denied : Bool) (d : Dev) :
    Dev.Steady L N n M d (Dev.ageGroup g forced denied d) := by
  unfold Dev.ageGroup
  extract_lets served age0 age b1 b2
  have h1 : Dev.Steady L N n M d b1 := (((Dev.Steady.refl d).write .POOL_G_REQ_SERVED g _ (hL _ (by decide))).write
    .POOL_G_REQ_DENIED g _ (hL _ (by decide))).write .POOL_G_AGE_AGE g _ (hL _ (by decide))
  clear_value b1
  have h2 : Dev.Steady L N n M d b2 := by
    unfold b2
    split
    · exact h1.write .POOL_G_COUNTS_DENIED g _ (hL _ (by decide))
    · exact h1
  exact h2.write .POOL_G_AGE_MAX_AGE g _ (hL _ (by decide))

theorem grantGroup_steady (d0 : Dev) (r : Grants) (g : Nat) (d : Dev) :
    Dev.Steady grantKept [.POOL_G_REQ_GRANT] g poolLive d (grantGroup d0 r g d) :=
  ((((Dev.Steady.refl d).own .POOL_G_REQ_GRANT (r.of g)).write .X_POOL_NEXT_CHARGE g _)).trans (ageGroup_steady (by decide) g _ _ _)

theorem grantGroup_grants (d0 : Dev) (r : Grants) (g : Nat) (d : Dev) : (grantGroup d0 r g d).get .POOL_G_REQ_GRANT g = r.of g :=
  ((ageGroup_steady (L := [.POOL_G_REQ_GRANT]) (N := []) (n := g) (M := []) (by decide) g _ _ _).get _ (by decide) g).trans
    ((Dev.get_set_field _ _ _ _ (by decide)).trans (Dev.get_set_same ..))

/-- What a tile shows once the grants `r` at capacity `c` and level `level` are made. -/
def Dev.showGrants (t level c : Nat) (r : Grants × Int) (count : Nat) (d : Dev) : Dev :=
  let booked := decide (r.2 < 0)
  let d := if r.1.cut then d.set .POOL_EVENTS_FLOOR_CUT t 1 else d
  let d := d.set .POOL_STATUS_OVERBOOKED t (b2n booked)
  let d := if booked then (d.set .POOL_EVENTS_OVERBOOKED t 1).raiseTile t 10 else d
  let d := d.set .POOL_STATUS_URGENT_COUNT t count
  let d := (d.set .X_POOL_NEXT_C t c).set .X_POOL_NEXT_LEFT t r.1.left.toNat
  let d := (d.set .X_POOL_NEXT_OVER t (-r.1.left).toNat).set .X_POOL_NEXT_LEVEL t level
  d.set .X_POOL_READY t 1

theorem Dev.showGrants_steady (t level c : Nat) (r : Grants × Int) (count n : Nat) (d : Dev) :
    Dev.Steady (.POOL_G_REQ_GRANT :: grantKept) [] n poolLive d (Dev.showGrants t level c r count d) := by
  unfold Dev.showGrants
  extract_lets booked b1 b2 b3 b4 b5 b6
  have h1 : Dev.Steady (.POOL_G_REQ_GRANT :: grantKept) [] n poolLive d b1 := by
    unfold b1
    split
    · exact (Dev.Steady.refl d).write .POOL_EVENTS_FLOOR_CUT t 1
    · exact .refl d
  clear_value b1
  have h3 : Dev.Steady (.POOL_G_REQ_GRANT :: grantKept) [] n poolLive d b3 := by
    have h2 : Dev.Steady (.POOL_G_REQ_GRANT :: grantKept) [] n poolLive d b2 := h1.write .POOL_STATUS_OVERBOOKED t _
    clear_value b2
    unfold b3
    split
    · exact (h2.write .POOL_EVENTS_OVERBOOKED t 1).raise (640 + 16 * t + 10) (by decide)
    · exact h2
  clear_value b3
  exact (((((h3.write .POOL_STATUS_URGENT_COUNT t _).write .X_POOL_NEXT_C t c).write .X_POOL_NEXT_LEFT t _).write
    .X_POOL_NEXT_OVER t _).write .X_POOL_NEXT_LEVEL t level).write .X_POOL_READY t 1

/-- R223: the computation in a pool that is ON, in its parts: scores and requests, urgency, grants, and what the tile shows. -/
theorem Dev.computeGrants_parts {d : Dev} {t : Nat} (hon : d.poolOn t = true) (level cap : Nat) {a b : Dev}
    (ha : a = Dev.forList ((d.set .X_POOL_RSV t (min 8 (d.lget .POOL_POLICY0_RESERVE t))).tileGroups t) (askGroup (d.poolGroups t))
      (d.set .X_POOL_RSV t (min 8 (d.lget .POOL_POLICY0_RESERVE t))))
    (hb : b = Dev.forList (d.poolGroups t) (fun g d => d.urgeGroup t g) a) :
    ∃ (c x count : Nat), d.computeGrants t level cap = Dev.showGrants t level c (b.grants t x) count
      (Dev.forList (d.poolGroups t) (grantGroup b (b.grants t x).1) b) := by
  refine ⟨b.capacity level cap b.tickDue, b.capacity level cap b.tickDue - b.reserveOf t (b.capacity level cap b.tickDue),
    ((d.poolGroups t).filter fun g => b.urgent g).length, ?_⟩
  unfold Dev.computeGrants
  rw [if_pos hon]
  extract_lets gs d1 d2 d3 c r booked d4
  have h2 : d2 = a := ha.symm
  have h3 : d3 = b := by
    rw [hb, ← h2]
  clear_value d2 d3
  subst h2 h3
  rfl

/-- What the grant computation shows of a tile. -/
theorem Dev.computeGrants_shows {d : Dev} {t : Nat} (hon : d.poolOn t = true) (level cap : Nat) {e : Dev}
    (he : e = d.computeGrants t level cap) : e.get .X_POOL_READY t = 1 ∧
      (∀ g ∈ d.tileGroups t, d.sg g ≠ sgLOCKED → e.get .POOL_G_REQ_GRANT g = 0 ∧ e.get .POOL_G_REQ_REQUEST g = 0) ∧
      (∀ g ∈ d.poolGroups t, d.lon .POOL_G_CTRL_FORCE_EN g = true → e.get .POOL_G_REQ_GRANT g = code6 (d.lget .POOL_G_CTRL_FORCE g)) ∧
      ∀ g ∈ d.poolGroups t, d.lon .POOL_G_CTRL_FORCE_EN g = false →
        e.get .POOL_G_REQ_GRANT g ≤ max (e.get .POOL_G_REQ_REQUEST g) (d.poolFloor g) := by
  obtain ⟨c, x, count, hparts⟩ := Dev.computeGrants_parts hon level cap rfl rfl
  have h0 : Dev.Steady poolKept reqFields 0 poolLive d (d.set .X_POOL_RSV t (min 8 (d.lget .POOL_POLICY0_RESERVE t))) :=
    (Dev.Steady.refl d).write .X_POOL_RSV t _
  generalize d.set .X_POOL_RSV t (min 8 (d.lget .POOL_POLICY0_RESERVE t)) = d1 at hparts h0
  rw [Dev.tileGroups_eq h0] at hparts
  have hask := fun g => Dev.forList_visits (askGroup_steady (d.poolGroups t)) (d.tileGroups_nodup t) (x := g) (d := d1)
  have hasked : Dev.Steady poolKept [] 0 poolLive d (Dev.forList (d.tileGroups t) (askGroup (d.poolGroups t)) d1) :=
    (h0.forget 0).forList fun g _ b => (askGroup_steady _ g b).forget 0
  generalize Dev.forList (d.tileGroups t) (askGroup (d.poolGroups t)) d1 = a at hparts hask hasked
  have hurge : Dev.Steady (reqFields ++ poolKept) [] 0 poolLive a (Dev.forList (d.poolGroups t) (fun g d => d.urgeGroup t g) a) :=
    (Dev.Steady.refl a).forList fun g _ b => urgeGroup_steady (by decide) t g 0 b
  generalize Dev.forList (d.poolGroups t) (fun g d => d.urgeGroup t g) a = b at hparts hurge
  have hb : Dev.Steady poolKept [] 0 poolLive d b := hasked.trans (hurge.mono (by decide) (by decide) fun _ h => h)
  rw [hparts] at he
  have hgrant := fun g => Dev.forList_visits (grantGroup_steady b (b.grants t x).1) (d.poolGroups_nodup t) (x := g) (d := b)
  have hspared := fun g (hg : g ∉ d.poolGroups t) => Dev.Spared.rounds (grantGroup_steady b (b.grants t x).1) (x := g)
    (l := d.poolGroups t) (fun y hy h => hg (h ▸ hy)) b
  generalize Dev.forList (d.poolGroups t) (grantGroup b (b.grants t x).1) b = f at he hgrant hspared
  have hshow := fun n => Dev.showGrants_steady t level c (b.grants t x) count n f
  rw [← he] at hshow
  have hlocked : ∀ g, g ∈ d.poolGroups t → d.sg g = sgLOCKED := fun g hg => beq_iff_eq.mp (List.mem_filter.mp hg).2
  have hlive : ∀ f ∈ poolLive, ∀ i, b.lget f i = d.lget f i := hb.lget
  have hforce : ∀ g, b.lon .POOL_G_CTRL_FORCE_EN g = d.lon .POOL_G_CTRL_FORCE_EN g := fun g => by
    unfold Dev.lon
    rw [hlive _ (by decide)]
  have hgroups : b.poolGroups t = d.poolGroups t := Dev.poolGroups_eq hb t
  have hshown : ∀ g ∈ d.poolGroups t, e.get .POOL_G_REQ_GRANT g = (b.grants t x).1.of g ∧
      e.get .POOL_G_REQ_REQUEST g = b.get .POOL_G_REQ_REQUEST g := fun g hg => by
    obtain ⟨u, ⟨hu, -⟩, hv, hvg⟩ := hgrant g hg
    exact ⟨((hshow g).get _ (by decide) g).trans ((hvg _ (by decide)).trans (grantGroup_grants ..)),
      ((hshow g).get _ (by decide) g).trans ((hv.get _ (by decide) g).trans
        (((grantGroup_steady _ _ g u).get _ (by decide) g).trans (hu.get _ (by decide) g)))⟩
  refine ⟨?_, fun g hg hsg => ?_, fun g hg hf => ?_, fun g hg hf => ?_⟩
  · rw [he]
    exact Dev.get_set_same ..
  · have hgs : g ∉ d.poolGroups t := fun h => hsg (hlocked g h)
    obtain ⟨u, -, -, hvg⟩ := hask g hg
    obtain ⟨h1, h2⟩ := askGroup_none hgs u
    obtain ⟨hs, hsg⟩ := hspared g hgs
    exact ⟨((hshow g).get _ (by decide) g).trans ((hsg _ (by decide)).trans ((hurge.get _ (by decide) g).trans
        ((hvg _ (by decide)).trans h1))),
      ((hshow g).get _ (by decide) g).trans ((hs.get _ (by decide) g).trans ((hurge.get _ (by decide) g).trans
        ((hvg _ (by decide)).trans h2)))⟩
  · rw [(hshown g hg).1, b.grants_forced t x (hgroups ▸ hg) ((hforce g).trans hf), hlive _ (by decide)]
  · rw [(hshown g hg).1, (hshown g hg).2, ← Dev.poolFloor_eq hb]
    exact b.grants_le t x ((hforce g).trans hf)

/-! ## Clearing -/

/-- The counters of a group that POOL_CMD.CLEAR_STATS clears. -/
def poolCounters : List F := [.POOL_G_AGE_MAX_AGE, .POOL_G_COUNTS_DENIED, .POOL_G_COUNTS_URGENT_ENTRIES]

theorem poolClearStats_clears (t : Fin 4) (s : State) : Completes (.poolClearStats t) s fun e =>
    e.get .POOL_SLOTS_COUNT t = 0 ∧ (∀ f ∈ poolCounters, ∀ j < 16, e.get f (16 * t + j) = 0) ∧
      Dev.Only (fun f i => (f = .POOL_SLOTS_COUNT ∧ i = t) ∨ (f ∈ poolCounters ∧ ∃ j < 16, i = 16 * t + j)) s.dev e := by
  refine .runAs (rfl : _ = execPoolClearStats t s) fun e he => ?_
  replace he : e = Dev.each 16 (fun j d => d.setAll poolCounters (16 * t + j) 0) (s.found.set .POOL_SLOTS_COUNT t 0) := he
  subst he
  refine ⟨?_, fun f hf j hj => ?_, ?_⟩
  · refine (Dev.each_keeps (fun e => e.get .POOL_SLOTS_COUNT t) (fun j _ e => ?_) _).trans (Dev.get_set_same ..)
    exact Dev.setAll_get_field _ _ _ _ (by decide)
  · refine Dev.each_reaches (g := fun j d => d.setAll poolCounters (16 * t + j) 0) (P := fun e => e.get f (16 * t + j) = 0) hj
      (fun e => Dev.setAll_get_of_mem _ _ _ hf) (fun i e he => ?_) _
    by_cases hij : i = j
    · subst hij
      exact Dev.setAll_get_of_mem _ _ _ hf
    · refine (Dev.forList_keeps (fun e => e.get f (16 * t + j)) (g := fun g e => e.set g (16 * t + i) 0) (fun g _ e => ?_) e).trans he
      exact Dev.get_set_other _ _ _ _ _ _ fun hk => hij (Nat.add_left_cancel (Key.mk.inj hk).2).symm
  · exact (((Dev.Only.refl _ _).set (f := .POOL_SLOTS_COUNT) 0 (.inl ⟨rfl, rfl⟩)).each fun j hj e =>
      (Dev.Only.refl _ e).setAll 0 fun f hf => .inr ⟨hf, j, hj, rfl⟩).ofFound

/-- Settles O43: the grants of a pool that is ON, and the clearing of its counters. -/
theorem poolCommands : Obligations.PoolCommands := by
  refine fun t s => ⟨fun hon => ?_, fun hoff => ?_, poolClearStats_clears t s⟩
  · refine .runAs (rfl : _ = execGrantComputed t s) fun e he => ?_
    obtain ⟨h1, h2, h3, h4⟩ := Dev.computeGrants_shows (d := s.found) hon _ _ he
    exact ⟨h1, h2, h3, h4⟩
  · refine .runAs (rfl : _ = execGrantComputed t s) fun e he => ?_
    exact he.trans (if_neg fun h => absurd (hoff.symm.trans h) (by decide))

end Sys2Proof.Machine
end

section
/-! PROOFS. Courier submissions and quarantines (R269 to R271). -/

-- One theorem at a time: the whole text is compiled under a memory limit, which the stacks of waiting threads would fill.
set_option Elab.async false

namespace Sys2Proof.Machine

open Sys2Proof

theorem le_foldl_max (l : List Nat) (b : Nat) : b ≤ l.foldl max b ∧ ∀ x ∈ l, x ≤ l.foldl max b := by
  induction l generalizing b with
  | nil => exact ⟨Nat.le_refl b, fun x hx => absurd hx List.not_mem_nil⟩
  | cons a l ih =>
    obtain ⟨h1, h2⟩ := ih (max b a)
    refine ⟨Nat.le_trans (Nat.le_max_left b a) h1, fun x hx => ?_⟩
    rcases List.mem_cons.mp hx with rfl | hx
    · exact Nat.le_trans (Nat.le_max_right b x) h1
    · exact h2 x hx

/-- R271: a record of an ID whose 100 ms have not passed leaves the ID in quarantine. -/
theorem Dev.quarLeft_pos {d : Dev} {n id : Nat} {q : CourId} (hq : q ∈ d.quar) (hn : q.lane = n) (hid : q.id = id)
    (hclk : d.clk < q.at_ + 100 * ms) : 0 < d.quarLeft n id := by
  have h := (le_foldl_max ((d.quar.filter fun q => decide (q.lane = n ∧ q.id = id)).map fun q => q.at_ + 100 * ms - d.clk) 0).2
    (q.at_ + 100 * ms - d.clk) (List.mem_map.mpr ⟨q, List.mem_filter.mpr ⟨hq, decide_eq_true ⟨hn, hid⟩⟩, rfl⟩)
  unfold Dev.quarLeft
  omega

/-! ## Submissions -/

/-- The outcome that a submission shows. -/
def Dev.showResult (d : Dev) (n slot : Nat) (r : Nat × Nat) : Dev :=
  (((d.set .COUR_TX_RESULT_STATUS n r.1).set .COUR_TX_RESULT_SLOT n slot).set .COUR_TX_RESULT_QUAR_LEFT n r.2).set .COUR_TX_RESULT_GEN n 0

/-- The fields of the outcome. -/
def resultFields : List F := [.COUR_TX_RESULT_STATUS, .COUR_TX_RESULT_SLOT, .COUR_TX_RESULT_QUAR_LEFT, .COUR_TX_RESULT_GEN]

theorem Dev.showResult_shows (d : Dev) (n slot : Nat) (r : Nat × Nat) : (d.showResult n slot r).get .COUR_TX_RESULT_STATUS n = r.1 ∧
    (d.showResult n slot r).get .COUR_TX_RESULT_QUAR_LEFT n = r.2 ∧ Dev.OnlyAt resultFields n d (d.showResult n slot r) :=
  ⟨(Dev.get_set_field _ _ _ _ (by decide)).trans ((Dev.get_set_field _ _ _ _ (by decide)).trans
      ((Dev.get_set_field _ _ _ _ (by decide)).trans (Dev.get_set_same ..))),
    (Dev.get_set_field _ _ _ _ (by decide)).trans (Dev.get_set_same ..),
    (((Dev.OnlyAt.write (.refl _ d) .COUR_TX_RESULT_STATUS r.1).write .COUR_TX_RESULT_SLOT slot).write .COUR_TX_RESULT_QUAR_LEFT
      r.2).write .COUR_TX_RESULT_GEN 0⟩

/-- The records of an accepted submission: its generation, its quarantine, and its place in the queue. -/
def Dev.takeMessage (d : Dev) (n slot mode id len rep g : Nat) : Dev :=
  let other := fun (q : CourId) => !decide (q.lane = n ∧ q.id = id)
  { d with gens := ⟨n, id, g, d.clk⟩ :: d.gens.filter other,
           quar := ⟨n, id, g, d.clk⟩ :: d.quar.filter other,
           msgs := d.msgs ++ [(⟨n, slot, id, g, len, mode, rep + 1, d.clk, d.clk, 0, 0, false, []⟩ : CourMsg)] }

theorem Dev.submit_refused {d : Dev} {n slot mode id len rep : Nat} (h : (d.submitCheck n slot mode id len).1 ≠ 0) :
    d.submit n slot mode id len rep = d.showResult n slot (d.submitCheck n slot mode id len) := if_neg h

theorem Dev.submit_accepted {d : Dev} {n slot mode id len rep : Nat} (h : (d.submitCheck n slot mode id len).1 = 0) :
    d.submit n slot mode id len rep =
      ((((d.showResult n slot (d.submitCheck n slot mode id len)).takeMessage n slot mode id len rep (d.nextGen n id)).set
        .COUR_TX_RESULT_GEN n (d.nextGen n id)).orBits .COUR_TX_SLOTS_BUSY n (2 ^ slot)).wake (domTx n) 6 := if_pos h

theorem courierSubmit_accepted {n : Fin 64} {slot rep : BitVec 2} {mode : BitVec 3} {id : BitVec 10} {len : BitVec 12} {s : State}
    (h : (s.dev.submitCheck n slot.toNat mode.toNat id.toNat len.toNat).1 = 0) :
    Completes (.courierSubmit n slot rep mode id len) s fun e => e.get .COUR_TX_RESULT_STATUS n = 0 ∧
      e.get .COUR_TX_RESULT_GEN n = s.dev.nextGen n id.toNat ∧
      e.get .COUR_TX_SLOTS_BUSY n = s.dev.get .COUR_TX_SLOTS_BUSY n ||| 2 ^ slot.toNat ∧
      e.msgs = s.dev.msgs ++ [⟨n, slot.toNat, id.toNat, s.dev.nextGen n id.toNat, len.toNat, mode.toNat, rep.toNat + 1,
        s.dev.clk, s.dev.clk, 0, 0, false, []⟩] ∧ 0 < e.quarLeft n id.toNat := by
  refine .runAs (rfl : _ = execCourierSubmit n slot rep mode id len s) fun e he => ?_
  replace he := he.trans (Dev.submit_accepted (d := s.found) h)
  obtain ⟨hst, -, honly⟩ := s.found.showResult_shows n slot.toNat (s.found.submitCheck n slot.toNat mode.toNat id.toNat len.toNat)
  generalize s.found.showResult n slot.toNat _ = a at he hst honly
  have hstatus : a.get .COUR_TX_RESULT_STATUS n = 0 := hst.trans h
  have hclk : a.clk = s.dev.clk := by rw [honly.1]; rfl
  have hmsgs : a.msgs = s.dev.msgs := by rw [honly.1]; rfl
  have hbusy : a.get .COUR_TX_SLOTS_BUSY n = s.dev.get .COUR_TX_SLOTS_BUSY n :=
    honly.2 _ _ fun hp => absurd hp.2 (by decide)
  generalize hb : a.takeMessage n slot.toNat mode.toNat id.toNat len.toNat rep.toNat (s.found.nextGen n id.toNat) = b at he
  have hbget : ∀ f i, b.get f i = a.get f i := fun f i => hb ▸ rfl
  obtain ⟨hsame, hget⟩ := wake_only ((b.set .COUR_TX_RESULT_GEN n (s.found.nextGen n id.toNat)).orBits .COUR_TX_SLOTS_BUSY n
    (2 ^ slot.toNat)) (domTx n) 6
  rw [← he] at hsame hget
  refine ⟨?_, ?_, ?_, ?_, Dev.quarLeft_pos (q := ⟨n, id.toNat, s.found.nextGen n id.toNat, a.clk⟩) ?_ rfl rfl ?_⟩
  · refine (hget _ _ (by decide)).trans ((Dev.get_set_field _ _ _ _ (by decide)).trans ?_)
    exact (Dev.get_set_field _ _ _ _ (by decide)).trans ((hbget _ _).trans hstatus)
  · exact (hget _ _ (by decide)).trans ((Dev.get_set_field _ _ _ _ (by decide)).trans (Dev.get_set_same ..))
  · refine (hget _ _ (by decide)).trans ((Dev.get_set_same ..).trans ?_)
    rw [Dev.get_set_field _ _ _ _ (by decide), hbget, hbusy]
  · rw [hsame]
    change b.msgs = _
    rw [← hb, ← hmsgs, ← hclk]
    rfl
  · rw [hsame]
    change _ ∈ b.quar
    rw [← hb]
    exact List.mem_cons_self ..
  · rw [hsame]
    change b.clk < a.clk + 100 * ms
    rw [← hb]
    exact Nat.lt_add_of_pos_right (by decide)

/-- R269 to R271: the outcome of a submission. -/
theorem Dev.submitCheck_refuses {d : Dev} {n slot mode id len : Nat} :
    (bitAt (d.get .COUR_TX_SLOTS_BUSY n) slot = true → (d.submitCheck n slot mode id len).1 = 1) ∧
    (bitAt (d.get .COUR_TX_SLOTS_BUSY n) slot = false →
      (len = 0 ∨ 2048 < len → (d.submitCheck n slot mode id len).1 = 2) ∧
      (1 ≤ len → len ≤ 2048 → (∃ q ∈ d.quar, q.lane = n ∧ q.id = id ∧ d.clk < q.at_ + 100 * ms) →
        (d.submitCheck n slot mode id len).1 = 3)) := by
  unfold Dev.submitCheck
  extract_lets blanket left
  refine ⟨fun hbusy => by rw [if_pos hbusy], fun hfree => ?_⟩
  rw [if_neg fun h => absurd (hfree.symm.trans h) (by decide)]
  refine ⟨fun hlen => by rw [if_pos hlen], fun h1 h2 hq => ?_⟩
  obtain ⟨q, hq, hn, hid, hclk⟩ := hq
  have hleft : left ≠ 0 := by
    have := Dev.quarLeft_pos hq hn hid hclk
    have : d.quarLeft n id ≤ left := Nat.le_max_left ..
    omega
  rw [if_neg (by omega)]
  by_cases hbl : blanket = true
  · rw [if_pos hbl]
  · rw [if_neg hbl, if_pos hleft]

theorem quarantineExpire_ends {n : Fin 64} {id : BitVec 10} {s : State} (hq : ∃ q ∈ s.dev.quar, q.lane = n ∧ q.id = id.toNat)
    (hall : ∀ q ∈ s.dev.quar, q.lane = n → q.id = id.toNat → q.at_ + 100 * ms ≤ s.dev.clk) :
    Completes (.quarantineExpire n id) s fun e =>
      e = { s.found with quar := s.dev.quar.filter fun q => !decide (q.lane = n.val ∧ q.id = id.toNat) } := by
  refine .runAs (rfl : _ = execQuarantineExpire n id s) fun e he => ?_
  have hfound : s.found.quar = s.dev.quar := rfl
  rw [hfound] at he
  cases hf : s.dev.quar.find? fun q => decide (q.lane = n.val ∧ q.id = id.toNat) with
  | none =>
    obtain ⟨q, hq, hn, hid⟩ := hq
    exact absurd (decide_eq_true (p := q.lane = n.val ∧ q.id = id.toNat) ⟨hn, hid⟩) (List.find?_eq_none.mp hf q hq)
  | some q =>
    rw [hf] at he
    obtain ⟨hn, hid⟩ := of_decide_eq_true (List.find?_some (p := fun q : CourId => decide (q.lane = n.val ∧ q.id = id.toNat)) hf)
    exact he.trans (Dev.onTime_of_le (hall q (List.mem_of_find?_eq_some hf) hn hid))

/-- Settles O46: what a courier submission shows and queues, and the ends of quarantines. -/
theorem courierSubmission : Obligations.CourierSubmission := by
  refine fun n s => ⟨fun slot rep mode id len => ⟨courierSubmit_accepted, fun h => ?_, Dev.submitCheck_refuses.1,
    Dev.submitCheck_refuses.2⟩, fun id => quarantineExpire_ends, fun hready hclk => ?_⟩
  · refine .runAs (rfl : _ = execCourierSubmit n slot rep mode id len s) fun e he => ?_
    replace he := he.trans (Dev.submit_refused (d := s.found) h)
    obtain ⟨h1, h2, h3⟩ := s.found.showResult_shows n slot.toNat (s.found.submitCheck n slot.toNat mode.toNat id.toNat len.toNat)
    rw [← he] at h1 h2 h3
    exact ⟨h1, h2, h3.ofFound⟩
  · refine .runIf (rfl : _ = execQuarantineAllEnd n s) (beq_iff_eq.mpr hready) fun e he => ?_
    replace he := he.trans (Dev.onTime_of_le hclk)
    subst he
    exact ⟨Dev.get_set_same .., (Dev.OnlyAt.write (.refl _ _) .COUR_L_STATUS_QUARANTINE_ALL 0).ofFound⟩

end Sys2Proof.Machine
end

section
/-! PROOFS. Copies of courier messages, their ends, and the dead-letter queue (R264 to R274, R285 to R287). -/

-- One theorem at a time: the whole text is compiled under a memory limit, which the stacks of waiting threads would fill.
set_option Elab.async false

namespace Sys2Proof.Machine

open Sys2Proof

theorem bitAt_clearBit_iff (x i j : Nat) : bitAt (clearBit x i) j = (bitAt x j && decide (j ≠ i)) := by
  unfold clearBit
  simp only [bitAt_eq_testBit]
  split
  · next hi =>
    have hodd : x / 2 ^ i % 2 = 1 := by
      have := Nat.testBit_eq_decide_div_mod_eq (x := x) (i := i)
      rw [hi] at this
      exact of_decide_eq_true this.symm
    have hx : x = 2 ^ i * (x / 2 ^ i) + x % 2 ^ i := (Nat.div_add_mod ..).symm
    have hlt : x % 2 ^ i < 2 ^ i := Nat.mod_lt _ (Nat.two_pow_pos i)
    obtain ⟨h, hq⟩ : ∃ h, x / 2 ^ i = 2 * h + 1 := ⟨x / 2 ^ i / 2, by omega⟩
    rw [hq] at hx
    generalize x % 2 ^ i = r at hx hlt
    have hsub : x - 2 ^ i = 2 ^ i * (2 * h) + r := by
      rw [hx, Nat.mul_add, Nat.mul_one]
      omega
    rw [hsub, hx, Nat.testBit_two_pow_mul_add _ hlt, Nat.testBit_two_pow_mul_add _ hlt]
    by_cases hj : j < i
    · simp [hj, Nat.ne_of_lt hj]
    · obtain ⟨k, rfl⟩ : ∃ k, j = i + k := ⟨j - i, by omega⟩
      cases k with
      | zero => simp
      | succ k => simp [Nat.testBit_succ, show (2 * h + 1) / 2 = h by omega]
  · next hi =>
    by_cases hj : j = i
    · subst hj
      simpa using hi
    · simp [hj]

theorem bitAt_clearBit (x i : Nat) : bitAt (clearBit x i) i = false := by
  rw [bitAt_clearBit_iff]
  simp

section
variable {p : F → Nat → Prop} {d e : Dev}

theorem Dev.Only.clk_eq (h : Dev.Only p d e) : e.clk = d.clk := by rw [h.1]

theorem Dev.Only.msgs_eq (h : Dev.Only p d e) : e.msgs = d.msgs := by rw [h.1]

theorem Dev.Only.lget_eq (h : Dev.Only p d e) (f : F) (i : Nat) : e.lget f i = d.lget f i := by
  rw [h.1]
  rfl

end

/-! ## Copies -/

theorem Dev.courNext_mem {d : Dev} {n : Nat} {m : CourMsg} (h : d.courSending n = some m) : m.lane = n ∧ m.sending = true := by
  have := List.find?_some (p := fun m : CourMsg => decide (m.lane = n) && m.sending) h
  rw [Bool.and_eq_true] at this
  exact ⟨of_decide_eq_true this.1, this.2⟩

/-- The map that a copy of `m` is sent with. -/
def Dev.copyMap (d : Dev) (n : Nat) (m : CourMsg) : List Nat :=
  d.mapLive (if m.mode = 1 then .COUR_TXMAP_B_CODES else .COUR_TXMAP_A_CODES) n

/-- The message as its copy goes out. -/
def Dev.outgoing (d : Dev) (n : Nat) (m : CourMsg) : CourMsg := { m with sending := true, start := d.clk, map := d.copyMap n m }

theorem Dev.copyStart_starts {d : Dev} {n : Nat} {m : CourMsg} (hready : d.courReady n = true) (hfree : d.courFree n = true)
    (hknock : d.get .COUR_TX_SLOTS_KNOCK_PENDING n ≠ 1) (hnext : d.courNext n = some m) :
    d.copyStart n = (({ d with msgs := d.outgoing n m :: dropSlot d.msgs n m.slot } : Dev).set .COUR_TX_SLOTS_SENDING n
      (m.slot + 1)).set .COUR_L_STATUS_TX_STATE n ctSENDING := by
  have hcond : (d.courReady n && d.courFree n && !d.on .COUR_TX_SLOTS_KNOCK_PENDING n) = true := by
    rw [hready, hfree, Dev.on_def, beq_eq_false_iff_ne.mpr hknock]
    rfl
  unfold Dev.copyStart
  rw [if_pos hcond, hnext]
  rfl

theorem copyStart_sends {n : Fin 64} {m : CourMsg} {s : State} (hready : s.dev.courReady n = true) (hfree : s.dev.courFree n = true)
    (hknock : s.dev.get .COUR_TX_SLOTS_KNOCK_PENDING n ≠ 1) (hnext : s.dev.courNext n = some m) :
    Completes (.copyStart n) s fun e => e.get .COUR_TX_SLOTS_SENDING n = m.slot + 1 ∧
      e.get .COUR_L_STATUS_TX_STATE n = ctSENDING ∧ e.msgs = s.dev.outgoing n m :: dropSlot s.dev.msgs n m.slot ∧
      (s.dev.courSending n = none → m.lane = n → .courier n (courierWave (s.dev.lget .LTX_COUR_DEPTH n)
        (messageSymbols m.mode m.id m.gen (s.dev.copyMap n m) (s.dev.cmem.readBytes (txBuf n m.slot) m.len))) ∈ e.out) := by
  refine .runAs (rfl : _ = execCopyStart n s) fun e he => ?_
  dsimp only at he
  rw [Dev.copyStart_starts (d := s.found) hready hfree hknock hnext] at he
  generalize hb : (({ s.found with msgs := s.found.outgoing n m :: dropSlot s.found.msgs n m.slot } : Dev).set .COUR_TX_SLOTS_SENDING n
      (m.slot + 1)).set .COUR_L_STATUS_TX_STATE n ctSENDING = b at he
  have h1 : b.get .COUR_TX_SLOTS_SENDING n = m.slot + 1 := by
    rw [← hb]
    exact (Dev.get_set_field _ _ _ _ (by decide)).trans (Dev.get_set_same ..)
  have h2 : b.get .COUR_L_STATUS_TX_STATE n = ctSENDING := hb ▸ Dev.get_set_same ..
  have h3 : b.msgs = s.dev.outgoing n m :: dropSlot s.dev.msgs n m.slot := hb ▸ rfl
  have hsame : ∀ o : Out, (b.send o).get .COUR_TX_SLOTS_SENDING n = m.slot + 1 ∧ (b.send o).get .COUR_L_STATUS_TX_STATE n = ctSENDING ∧
      (b.send o).msgs = s.dev.outgoing n m :: dropSlot s.dev.msgs n m.slot := fun _ => ⟨h1, h2, h3⟩
  split at he
  · next x hnone hsome =>
    subst he
    refine ⟨(hsame _).1, (hsame _).2.1, (hsame _).2.2, fun _ hlane => ?_⟩
    have hx : b.courSending n = some (s.dev.outgoing n m) := by
      unfold Dev.courSending
      rw [h3]
      exact List.find?_cons_of_pos (by simp [Dev.outgoing, hlane])
    rw [hx] at hsome
    obtain rfl := Option.some.inj hsome
    exact List.mem_append_right _ (List.mem_singleton.mpr rfl)
  · next hno =>
    subst he
    refine ⟨h1, h2, h3, fun hnone hlane => absurd ?_ (hno (s.dev.outgoing n m) hnone)⟩
    unfold Dev.courSending
    rw [h3]
    exact List.find?_cons_of_pos (by simp [Dev.outgoing, hlane])

/-- R274: what a message that is done leaves. -/
theorem Dev.msgDone_shows (d : Dev) (m : CourMsg) (sent : Bool) {e : Dev} (he : e = d.msgDone m sent) :
    bitAt (e.get .COUR_TX_SLOTS_BUSY m.lane) m.slot = false ∧ e.get .COUR_L_EVENTS_TX_DONE m.lane = 1 ∧
      (sent = true → e.get .COUR_TX_DONE_SENT m.lane = d.get .COUR_TX_DONE_SENT m.lane ||| 2 ^ m.slot) ∧
      Dev.OnlyRaising (fun f _ => f ∈ [F.COUR_TX_SLOTS_BUSY, .COUR_TX_DONE_SENT, .COUR_TX_DONE_DEAD, .COUR_L_EVENTS_TX_DONE]) d e := by
  unfold Dev.msgDone at he
  extract_lets b1 b2 at he
  have hb1 : b1.get .COUR_TX_SLOTS_BUSY m.lane = clearBit (d.get .COUR_TX_SLOTS_BUSY m.lane) m.slot := Dev.get_set_same ..
  have hs1 : b1.get .COUR_TX_DONE_SENT m.lane = d.get .COUR_TX_DONE_SENT m.lane := Dev.get_set_field _ _ _ _ (by decide)
  have ho1 : Dev.Only (fun f _ => f ∈ [F.COUR_TX_SLOTS_BUSY, .COUR_TX_DONE_SENT, .COUR_TX_DONE_DEAD, .COUR_L_EVENTS_TX_DONE]) d b1 :=
    (Dev.Only.refl _ d).write .COUR_TX_SLOTS_BUSY _ _
  clear_value b1
  have hb2 : b2.get .COUR_TX_SLOTS_BUSY m.lane = b1.get .COUR_TX_SLOTS_BUSY m.lane ∧
      (sent = true → b2.get .COUR_TX_DONE_SENT m.lane = b1.get .COUR_TX_DONE_SENT m.lane ||| 2 ^ m.slot) ∧
      Dev.Only (fun f _ => f ∈ [F.COUR_TX_SLOTS_BUSY, .COUR_TX_DONE_SENT, .COUR_TX_DONE_DEAD, .COUR_L_EVENTS_TX_DONE]) d b2 := by
    cases sent with
    | false => exact ⟨Dev.get_set_field _ _ _ _ (by decide), fun h => absurd h (by decide), ho1.write .COUR_TX_DONE_DEAD _ _⟩
    | true => exact ⟨Dev.get_set_field _ _ _ _ (by decide), fun _ => Dev.get_set_same .., ho1.write .COUR_TX_DONE_SENT _ _⟩
  clear_value b2
  have hget : ∀ f i, f ∉ signalFields → e.get f i = (b2.set .COUR_L_EVENTS_TX_DONE m.lane 1).get f i := fun f i hf => by
    rw [he]
    exact setLine_get _ _ _ _ _ hf
  refine ⟨?_, (hget _ _ (by decide)).trans (Dev.get_set_same ..), fun hsent => ?_, ?_⟩
  · rw [hget _ _ (by decide), Dev.get_set_field _ _ _ _ (by decide), hb2.1, hb1]
    exact bitAt_clearBit ..
  · rw [hget _ _ (by decide), Dev.get_set_field _ _ _ _ (by decide), hb2.2.1 hsent, hs1]
  · rw [he]
    exact (hb2.2.2.write .COUR_L_EVENTS_TX_DONE m.lane 1).raising.setLine _ _

/-- What the end of a copy shows. -/
def copyFields : List F := [.COUR_L_TX_SENT_COUNT, .COUR_TX_SLOTS_SENDING, .COUR_L_STATUS_TX_STATE, .X_COUR_GAP_END]

/-- The transmitter once a copy has gone out. -/
def Dev.copyEnded (d : Dev) (n : Nat) : Dev :=
  let d := ((d.addSat .COUR_L_TX_SENT_COUNT n 1).set .COUR_TX_SLOTS_SENDING n 0).set .COUR_L_STATUS_TX_STATE n 0
  d.set .X_COUR_GAP_END n (d.clk + symbols 1)

theorem Dev.copyEnded_shows (d : Dev) (n : Nat) : (d.copyEnded n).get .COUR_TX_SLOTS_SENDING n = 0 ∧
    (d.copyEnded n).get .COUR_L_STATUS_TX_STATE n = 0 ∧ (d.copyEnded n).get .X_COUR_GAP_END n = d.clk + symbols 1 ∧
    (d.copyEnded n).get .COUR_L_TX_SENT_COUNT n = satAdd F.COUR_L_TX_SENT_COUNT.width (d.get .COUR_L_TX_SENT_COUNT n) 1 ∧
    Dev.Only (fun f _ => f ∈ copyFields) d (d.copyEnded n) := by
  refine ⟨?_, ?_, (Dev.get_set_same ..).trans (congrArg (· + symbols 1) rfl), ?_, ?_⟩
  · exact (Dev.get_set_field _ _ _ _ (by decide)).trans ((Dev.get_set_field _ _ _ _ (by decide)).trans (Dev.get_set_same ..))
  · exact (Dev.get_set_field _ _ _ _ (by decide)).trans (Dev.get_set_same ..)
  · exact (Dev.get_set_field _ _ _ _ (by decide)).trans ((Dev.get_set_field _ _ _ _ (by decide)).trans
      ((Dev.get_set_field _ _ _ _ (by decide)).trans (Dev.get_set_same ..)))
  · have h : Dev.Only (fun f _ => f ∈ copyFields) d (d.addSat .COUR_L_TX_SENT_COUNT n 1) :=
      (Dev.Only.refl _ d).write .COUR_L_TX_SENT_COUNT n _
    exact ((h.write .COUR_TX_SLOTS_SENDING n 0).write .COUR_L_STATUS_TX_STATE n 0).write .X_COUR_GAP_END n _

/-- R273, R274: the end of a copy: the message is done, or joins the queue again. -/
theorem Dev.copyDone_eq {d : Dev} {n : Nat} {m : CourMsg} (h : d.courSending n = some m) : d.copyDone n =
    if m.left ≤ 1 ∨ m.accepted + 50 * ms ≤ d.clk ∨ d.lget .COUR_L_CTRL_TX_EN n = 0 ∨ d.mode (engineOf n) = 0 then
      ({ d.copyEnded n with msgs := dropSlot d.msgs n m.slot } : Dev).msgDone m true
    else { d.copyEnded n with msgs := dropSlot d.msgs n m.slot ++ [{ m with left := m.left - 1, copies := m.copies + 1,
                                                                            sending := false, eligible := m.start + ms }] } := by
  obtain ⟨-, -, -, -, honly⟩ := d.copyEnded_shows n
  have hmode : (d.copyEnded n).mode (engineOf n) = d.mode (engineOf n) := honly.keeps _ _
  unfold Dev.copyDone
  split
  · next h' => exact absurd (h.symm.trans h') (by simp)
  · next m' h' =>
    obtain rfl := Option.some.inj (h.symm.trans h')
    extract_lets b1 b2 rest
    have hb : b2 = d.copyEnded n := rfl
    have hrest : rest = dropSlot b2.msgs n m.slot := rfl
    clear_value b2 rest
    subst hb hrest
    rw [honly.clk_eq, honly.msgs_eq, honly.lget_eq, hmode]

theorem copyDone_ends {n : Fin 64} {m : CourMsg} {s : State} (hsend : s.dev.courSending n = some m)
    (hclk : m.start + symbols (copySymbols m) ≤ s.dev.clk) : Completes (.copyDone n) s fun e => e.get .COUR_TX_SLOTS_SENDING n = 0 ∧
      e.get .COUR_L_STATUS_TX_STATE n = 0 ∧ e.get .X_COUR_GAP_END n = s.dev.clk + symbols 1 ∧
      e.get .COUR_L_TX_SENT_COUNT n = satAdd F.COUR_L_TX_SENT_COUNT.width (s.dev.get .COUR_L_TX_SENT_COUNT n) 1 ∧
      (m.left ≤ 1 → e.msgs = dropSlot s.dev.msgs n m.slot ∧ bitAt (e.get .COUR_TX_SLOTS_BUSY n) m.slot = false ∧
        e.get .COUR_TX_DONE_SENT n = s.dev.get .COUR_TX_DONE_SENT n ||| 2 ^ m.slot ∧ e.get .COUR_L_EVENTS_TX_DONE n = 1) ∧
      (1 < m.left → s.dev.clk < m.accepted + 50 * ms → s.dev.lget .COUR_L_CTRL_TX_EN n ≠ 0 → s.dev.mode (engineOf n) ≠ 0 →
        e.msgs = dropSlot s.dev.msgs n m.slot ++ [{ m with left := m.left - 1, copies := m.copies + 1, sending := false,
                                                           eligible := m.start + ms }]) := by
  refine .runAs (rfl : _ = execCopyDone n s) fun e he => ?_
  rw [show s.found.courSending n = some m from hsend] at he
  replace he : e = s.found.copyDone n := he.trans (Dev.onTime_of_le hclk)
  rw [Dev.copyDone_eq (d := s.found) hsend] at he
  obtain ⟨h1, h2, h3, h4, honly⟩ := s.found.copyEnded_shows n
  have hlane := (Dev.courNext_mem hsend).1
  have hsent : (s.found.copyEnded n).get .COUR_TX_DONE_SENT n = s.dev.get .COUR_TX_DONE_SENT n := honly.keeps _ _
  generalize s.found.copyEnded n = b at he h1 h2 h3 h4 hsent
  split at he
  · next hcond =>
    generalize hc : ({ b with msgs := dropSlot s.found.msgs n m.slot } : Dev) = c at he
    have hcget : ∀ f i, c.get f i = b.get f i := fun f i => hc ▸ rfl
    obtain ⟨hbusy, hdone, hsent', hcour⟩ := c.msgDone_shows m true he
    rw [hlane] at hbusy hdone hsent'
    refine ⟨(hcour.keeps _ _).trans ((hcget _ _).trans h1), (hcour.keeps _ _).trans ((hcget _ _).trans h2),
      (hcour.keeps _ _).trans ((hcget _ _).trans h3), (hcour.keeps _ _).trans ((hcget _ _).trans h4),
      fun _ => ⟨?_, hbusy, ?_, hdone⟩, fun hl hc he hm => ?_⟩
    · rw [hcour.1]
      exact hc ▸ rfl
    · rw [hsent' rfl, hcget, hsent]
    · rcases hcond with h | h | h | h
      · exact absurd h (Nat.not_le_of_lt hl)
      · exact absurd h (Nat.not_le_of_lt hc)
      · exact absurd h he
      · exact absurd h hm
  · next hno =>
    subst he
    exact ⟨h1, h2, h3, h4, fun hl => absurd (.inl hl) hno, fun _ _ _ _ => rfl⟩

/-! ## Ends of messages -/

/-- R285: with fewer than 64 entries a buffer is free. -/
theorem Dev.freeBufs_ne_nil {d : Dev} (h : d.dlq.length < 64) : d.freeBufs ≠ [] := by
  intro hnil
  have hall : ∀ b ∈ List.range 64, b ∈ d.dlq.map (·.buf) := fun b hb => by
    have := List.filter_eq_nil_iff.mp hnil b hb
    rw [Bool.not_eq_true, Bool.not_eq_false', List.any_eq_true] at this
    obtain ⟨e, he, hbuf⟩ := this
    exact List.mem_map.mpr ⟨e, he, of_decide_eq_true hbuf⟩
  have hle := List.Subperm.length_le (List.nodup_range.subperm hall)
  rw [List.length_range, List.length_map] at hle
  omega

/-- R285, R286: a message enters the queue in a free buffer, or with the queue full is lost and counted. -/
theorem Dev.deadLetter_shows (d : Dev) (lane : Nat) (recv : Bool) (reason id gen len mode : Nat) (bytes : List Byte) {e : Dev}
    (he : e = d.deadLetter lane recv reason id gen len mode bytes) :
    (d.dlq.length < 64 → ∃ b < 64, (∀ x ∈ d.dlq, x.buf ≠ b) ∧
      e.dlq = d.dlq ++ [⟨lane, recv, reason, id, gen, len, mode, b, d.now⟩]) ∧
    (64 ≤ d.dlq.length → e.dlq = d.dlq ∧ e.get .COUR_L_EVENTS_DLQ_OVERFLOW lane = 1 ∧
      e.get .COUR_DLQ_STATUS_OVERFLOWS 0 = satAdd F.COUR_DLQ_STATUS_OVERFLOWS.width (d.get .COUR_DLQ_STATUS_OVERFLOWS 0) 1) ∧
    e.msgs = d.msgs := by
  have hsync : ∀ (b : Dev) k, (b.syncCourier k).dlq = b.dlq ∧ (b.syncCourier k).msgs = b.msgs := fun b k => by
    have h := (setLine_only (fun _ _ => False) b (832 + k) (b.any courEvents k)).1
    unfold Dev.syncCourier
    rw [h]
    exact ⟨rfl, rfl⟩
  unfold Dev.deadLetter at he
  split at he
  · next hfull =>
    refine ⟨fun h => absurd hfull (Nat.not_le_of_lt h), fun _ => ⟨?_, ?_, ?_⟩, ?_⟩
    · rw [he, (hsync _ _).1]
      rfl
    · rw [he]
      exact (setLine_get _ _ _ _ _ (by decide)).trans (Dev.get_set_same ..)
    · rw [he]
      exact (setLine_get _ _ _ _ _ (by decide)).trans ((Dev.get_set_field _ _ _ _ (by decide)).trans (Dev.get_set_same ..))
    · rw [he, (hsync _ _).2]
      rfl
  · next hroom =>
    extract_lets b d1 d2 at he
    have hshow : d2.showDlq.dlq = d2.dlq ∧ d2.showDlq.msgs = d2.msgs := by
      unfold Dev.showDlq
      dsimp only
      split <;> exact ⟨rfl, rfl⟩
    refine ⟨fun hlt => ⟨b, ?_⟩, fun h => absurd h hroom, ?_⟩
    · have hb : b ∈ d.freeBufs := by
        have hpos : 0 < d.freeBufs.length := List.length_pos_iff.mpr (Dev.freeBufs_ne_nil hlt)
        unfold b
        rw [List.getD_eq_getElem _ _ (Nat.mod_lt _ hpos)]
        exact List.getElem_mem _
      obtain ⟨hr, hfree⟩ := List.mem_filter.mp hb
      refine ⟨List.mem_range.mp hr, fun x hx hbuf => ?_, ?_⟩
      · rw [Bool.not_eq_true', List.any_eq_false] at hfree
        exact hfree x hx (decide_eq_true hbuf)
      · rw [he, (hsync _ _).1]
        exact hshow.1
    · rw [he, (hsync _ _).2]
      exact hshow.2

theorem lifetimeExpire_buries {n : Fin 64} {m : CourMsg} {s : State} {slot : Fin 4}
    (hm : (s.dev.msgs.find? fun x => decide (x.lane = n.val ∧ x.slot = slot.val)) = some m)
    (hclk : m.accepted + 50 * ms ≤ s.dev.clk) (hsend : m.sending = false) (hcopies : m.copies = 0) :
    Completes (.lifetimeExpire n slot) s fun e =>
      e.msgs = dropSlot s.dev.msgs n slot ∧ bitAt (e.get .COUR_TX_SLOTS_BUSY n) slot = false ∧
      (s.dev.dlq.length < 64 → ∃ b < 64, (∀ x ∈ s.dev.dlq, x.buf ≠ b) ∧
        e.dlq = s.dev.dlq ++ [⟨n, false, 1, m.id, m.gen, m.len, m.mode, b, s.dev.now⟩]) ∧
      (64 ≤ s.dev.dlq.length → e.dlq = s.dev.dlq ∧ e.get .COUR_L_EVENTS_DLQ_OVERFLOW n = 1 ∧
        e.get .COUR_DLQ_STATUS_OVERFLOWS 0 =
          satAdd F.COUR_DLQ_STATUS_OVERFLOWS.width (s.dev.get .COUR_DLQ_STATUS_OVERFLOWS 0) 1) := by
  refine .runAs (rfl : _ = execLifetimeExpire n slot s) fun e he => ?_
  rw [show (s.found.msgs.find? fun m => decide (m.lane = n.val ∧ m.slot = slot.val)) = some m from hm] at he
  have hstay : ¬ m.sending = true := fun h => absurd (hsend.symm.trans h) (by decide)
  replace he : e = ({ s.found with msgs := dropSlot s.found.msgs n slot } : Dev).msgDead m 1 :=
    ((he.trans (Dev.onTime_of_le hclk)).trans (if_neg hstay)).trans (if_pos hcopies)
  obtain ⟨hlane, hslot⟩ := of_decide_eq_true (List.find?_some (p := fun x : CourMsg => decide (x.lane = n.val ∧ x.slot = slot.val)) hm)
  unfold Dev.msgDead at he
  obtain ⟨hroom, hfull, hmsgs⟩ := ({ s.found with msgs := dropSlot s.found.msgs n slot } : Dev).deadLetter_shows m.lane false 1 m.id
    m.gen m.len m.mode (s.found.cmem.readBytes (txBuf m.lane m.slot) m.len) rfl
  change e = (Dev.deadLetter { s.found with msgs := dropSlot s.found.msgs n slot } m.lane false 1 m.id m.gen m.len m.mode
    (s.found.cmem.readBytes (txBuf m.lane m.slot) m.len)).msgDone m false at he
  generalize Dev.deadLetter { s.found with msgs := dropSlot s.found.msgs n slot } m.lane false 1 m.id m.gen m.len m.mode
    (s.found.cmem.readBytes (txBuf m.lane m.slot) m.len) = b at he hroom hfull hmsgs
  obtain ⟨hbusy, -, -, honly⟩ := b.msgDone_shows m false he
  rw [hlane] at hbusy hroom hfull
  rw [hslot] at hbusy
  have hdlq : e.dlq = b.dlq := by rw [honly.1]
  refine ⟨?_, hbusy, fun h => ?_, fun h => ?_⟩
  · rw [honly.1]
    exact hmsgs
  · rw [hdlq]
    exact hroom h
  · rw [hdlq]
    obtain ⟨h1, h2, h3⟩ := hfull h
    exact ⟨h1, (honly.keeps _ _).trans h2, (honly.keeps _ _).trans h3⟩

/-! ## The dead-letter queue -/

theorem Dev.showDlq_shows (d : Dev) : d.showDlq.dlq = d.dlq ∧ d.showDlq.get .COUR_DLQ_STATUS_COUNT 0 = d.dlq.length ∧
    ∀ y l, d.dlq = y :: l → d.showDlq.get .COUR_DLQ_STATUS_HEAD 0 = y.buf ∧ d.showDlq.get .COUR_DLQ_DESC0_ID 0 = y.id := by
  have hcount : (d.set .COUR_DLQ_STATUS_COUNT 0 d.dlq.length).get .COUR_DLQ_STATUS_COUNT 0 = d.dlq.length := Dev.get_set_same ..
  unfold Dev.showDlq
  extract_lets b
  change b.get .COUR_DLQ_STATUS_COUNT 0 = _ at hcount
  have hdlq : b.dlq = d.dlq := rfl
  clear_value b
  cases hb : b.dlq with
  | nil =>
    refine ⟨hdlq, hcount, fun y l h => ?_⟩
    rw [← hdlq, hb] at h
    cases h
  | cons x l0 =>
    dsimp only
    refine ⟨hdlq, ?_, fun y l h => ?_⟩
    · simp only [ne_eq, reduceCtorEq, not_false_eq_true, Dev.get_set_field]
      exact hcount
    · rw [← hdlq, hb] at h
      obtain ⟨rfl, rfl⟩ := List.cons.inj h
      exact ⟨by simp only [ne_eq, reduceCtorEq, not_false_eq_true, Dev.get_set_field, Dev.get_set_same],
        by simp only [ne_eq, reduceCtorEq, not_false_eq_true, Dev.get_set_field, Dev.get_set_same]⟩

/-- Settles O47: the copies of courier messages, their ends, and the dead-letter queue. -/
theorem courierCopies : Obligations.CourierCopies := by
  refine fun n m s => ⟨copyStart_sends, copyDone_ends, fun slot => lifetimeExpire_buries, fun x l hdlq => ?_⟩
  refine .runAs (rfl : _ = execDlqPop s) fun e he => ?_
  rw [show s.found.dlq = x :: l from hdlq] at he
  replace he : e = ({ s.found with dlq := l } : Dev).showDlq := he
  rw [he]
  exact ({ s.found with dlq := l } : Dev).showDlq_shows

end Sys2Proof.Machine
end

section
/-! PROOFS. Knocks, their detectors, and the courier's statistics (R290 to R294, R298). -/

-- One theorem at a time: the whole text is compiled under a memory limit, which the stacks of waiting threads would fill.
set_option Elab.async false

namespace Sys2Proof.Machine

open Sys2Proof

/-! ## The line of a courier source -/

/-- R297: an event bit that is set drives the line of the lane's courier source. -/
theorem Dev.syncCourier_line {d : Dev} {n : Nat} {f : F} (hf : f ∈ courEvents) (h : d.get f n = 1) :
    (d.syncCourier n).get .PH_SRC_LINE (832 + n) = 1 := by
  have hany : d.any courEvents n = true := List.any_eq_true.mpr ⟨f, hf, by rw [h]; rfl⟩
  unfold Dev.syncCourier
  rw [setLine_line, hany]
  rfl

/-- An event of a lane's courier: it is shown, it drives the line, and no more changes. -/
theorem Dev.courEvent_shows {L : List F} {n : Nat} {d b : Dev} (h : Dev.OnlyAt L n d b) (f : F) (hf : f ∈ courEvents := by decide)
    (hL : f ∈ L := by decide) (hs : f ∉ signalFields := by decide) :
    ((b.set f n 1).syncCourier n).get f n = 1 ∧ ((b.set f n 1).syncCourier n).get .PH_SRC_LINE (832 + n) = 1 ∧
      Dev.OnlyRaisingAt L n d ((b.set f n 1).syncCourier n) :=
  ⟨(setLine_get _ _ _ _ _ hs).trans (Dev.get_set_same ..), Dev.syncCourier_line hf (Dev.get_set_same ..),
    Dev.OnlyRaising.setLine _ _ (Dev.Only.raising (h.write f 1 hL))⟩

/-! ## Knocks -/

theorem knock_waits {n : Fin 64} {b : BitVec 2} {s : State} (h : s.dev.get .COUR_TX_SLOTS_KNOCK_PENDING n ≠ 1) :
    Completes (.knock n b) s fun e => e.get .COUR_TX_SLOTS_KNOCK_PENDING n = 1 ∧ e.get .X_COUR_BURSTS n = b.toNat + 1 ∧
      e.get .X_COUR_KNOCK_CLK n = s.dev.clk ∧
      Dev.OnlyAt [.COUR_TX_SLOTS_KNOCK_PENDING, .X_COUR_BURSTS, .X_COUR_KNOCK_CLK] n s.dev e := by
  refine .runElse (rfl : _ = execKnock n b s) (fun hon => h (beq_iff_eq.mp hon)) fun e he => ?_
  subst he
  refine ⟨?_, ?_, Dev.get_set_same .., ?_⟩
  · exact (Dev.get_set_field _ _ _ _ (by decide)).trans ((Dev.get_set_field _ _ _ _ (by decide)).trans (Dev.get_set_same ..))
  · exact (Dev.get_set_field _ _ _ _ (by decide)).trans (Dev.get_set_same ..)
  · have h0 : Dev.OnlyAt [.COUR_TX_SLOTS_KNOCK_PENDING, .X_COUR_BURSTS, .X_COUR_KNOCK_CLK] n s.found s.found := .refl _ _
    exact (((h0.write .COUR_TX_SLOTS_KNOCK_PENDING 1).write .X_COUR_BURSTS (b.toNat + 1)).write .X_COUR_KNOCK_CLK _).ofFound

theorem knockStart_sends {n : Fin 64} {s : State} (hpend : s.dev.get .COUR_TX_SLOTS_KNOCK_PENDING n = 1)
    (hready : s.dev.courReady n = true) (hfree : s.dev.courFree n = true) : Completes (.knockStart n) s fun e =>
      e.get .COUR_L_STATUS_TX_STATE n = ctKNOCK ∧
      .courier n (knockWave (s.dev.lget .LTX_COUR_DEPTH n) (s.dev.get .X_COUR_BURSTS n)) ∈ e.out ∧
      e.get .X_COUR_KNOCK_CLK n = s.dev.clk ∧ Dev.OnlyAt [.COUR_L_STATUS_TX_STATE, .X_COUR_KNOCK_CLK] n s.dev e := by
  have hcond : (s.found.on .COUR_TX_SLOTS_KNOCK_PENDING n && s.found.courReady n && s.found.courFree n) = true := by
    rw [Bool.and_eq_true, Bool.and_eq_true]
    exact ⟨⟨beq_iff_eq.mpr hpend, hready⟩, hfree⟩
  refine .runIf (rfl : _ = execKnockStart n s) hcond fun e he => ?_
  subst he
  refine ⟨(Dev.get_set_field _ _ _ _ (by decide)).trans (Dev.get_set_same ..), List.mem_append_right _ (List.mem_singleton.mpr rfl),
    Dev.get_set_same .., ?_⟩
  have h0 : Dev.OnlyAt [.COUR_L_STATUS_TX_STATE, .X_COUR_KNOCK_CLK] n s.found s.found := .refl _ _
  exact (((h0.write .COUR_L_STATUS_TX_STATE ctKNOCK).write .X_COUR_KNOCK_CLK _).send _).ofFound

theorem knockBurstsEnd_ends {n : Fin 64} {s : State} (hst : s.dev.get .COUR_L_STATUS_TX_STATE n = ctKNOCK)
    (hclk : s.dev.get .X_COUR_KNOCK_CLK n + symbols (64 * s.dev.get .X_COUR_BURSTS n) ≤ s.dev.clk) :
    Completes (.knockBurstsEnd n) s fun e => e.get .COUR_TX_SLOTS_KNOCK_PENDING n = 0 ∧ e.get .COUR_L_STATUS_TX_STATE n = 0 ∧
      Dev.OnlyAt [.COUR_TX_SLOTS_KNOCK_PENDING, .X_COUR_BURSTS, .COUR_L_STATUS_TX_STATE] n s.dev e := by
  refine .runIf (rfl : _ = execKnockBurstsEnd n s) hst fun e he => ?_
  replace he := he.trans (Dev.onTime_of_le hclk)
  subst he
  refine ⟨(Dev.get_set_field _ _ _ _ (by decide)).trans ((Dev.get_set_field _ _ _ _ (by decide)).trans (Dev.get_set_same ..)),
    Dev.get_set_same .., ?_⟩
  have h0 : Dev.OnlyAt [.COUR_TX_SLOTS_KNOCK_PENDING, .X_COUR_BURSTS, .COUR_L_STATUS_TX_STATE] n s.found s.found := .refl _ _
  exact (((h0.write .COUR_TX_SLOTS_KNOCK_PENDING 0).write .X_COUR_BURSTS 0).write .COUR_L_STATUS_TX_STATE 0).ofFound

theorem knockDropped_drops {n : Fin 64} {s : State} (hpend : s.dev.get .COUR_TX_SLOTS_KNOCK_PENDING n = 1)
    (hst : s.dev.get .COUR_L_STATUS_TX_STATE n ≠ ctKNOCK) (hclk : s.dev.get .X_COUR_KNOCK_CLK n + 50 * ms ≤ s.dev.clk) :
    Completes (.knockDropped n) s fun e => e.get .COUR_TX_SLOTS_KNOCK_PENDING n = 0 ∧ e.get .COUR_L_EVENTS_KNOCK_DROPPED n = 1 ∧
      e.get .PH_SRC_LINE (832 + n) = 1 ∧ Dev.OnlyRaisingAt [.COUR_TX_SLOTS_KNOCK_PENDING, .X_COUR_BURSTS,
        .COUR_L_EVENTS_KNOCK_DROPPED] n s.dev e := by
  have hcond : (s.found.on .COUR_TX_SLOTS_KNOCK_PENDING n && s.found.get .COUR_L_STATUS_TX_STATE n != ctKNOCK) = true := by
    rw [Bool.and_eq_true]
    exact ⟨beq_iff_eq.mpr hpend, bne_iff_ne.mpr hst⟩
  refine .runIf (rfl : _ = execKnockDropped n s) hcond fun e he => ?_
  replace he := he.trans (Dev.onTime_of_le hclk)
  have h0 : Dev.OnlyAt [.COUR_TX_SLOTS_KNOCK_PENDING, .X_COUR_BURSTS, .COUR_L_EVENTS_KNOCK_DROPPED] n s.found s.found := .refl _ _
  obtain ⟨h1, h2, h3⟩ := Dev.courEvent_shows ((h0.write .COUR_TX_SLOTS_KNOCK_PENDING 0).write .X_COUR_BURSTS 0)
    .COUR_L_EVENTS_KNOCK_DROPPED
  rw [← show e = _ from he] at h1 h2 h3
  refine ⟨?_, h1, h2, h3.ofFound⟩
  rw [he]
  exact (setLine_get _ _ _ _ _ (by decide)).trans ((Dev.get_set_field _ _ _ _ (by decide)).trans
    ((Dev.get_set_field _ _ _ _ (by decide)).trans (Dev.get_set_same ..)))

/-! ## Detectors -/

theorem knockWake_wakes {n : Fin 64} {w1 w2 : BitVec 63} {s : State}
    (hmatch : s.dev.knockMatch (knockMatches w1.toNat) (knockMatches w2.toNat) = true) (harmed : s.dev.knockArmed n = true) :
    Completes (.knockWake n w1 w2) s fun e => e.get .X_COUR_KNOCK_STOP n = 1 ∧ e.get .COUR_L_EVENTS_KNOCK_WAKE n = 1 ∧
      e.get .PH_SRC_LINE (832 + n) = 1 ∧ Dev.OnlyRaisingAt [.X_COUR_KNOCK_STOP, .COUR_L_EVENTS_KNOCK_WAKE] n s.dev e := by
  have hcond : (s.found.knockArmed n && s.found.knockMatch (knockMatches w1.toNat) (knockMatches w2.toNat)) = true := by
    rw [Bool.and_eq_true]
    exact ⟨harmed, hmatch⟩
  refine .runIf (rfl : _ = execKnockWake n w1 w2 s) hcond fun e he => ?_
  have h0 : Dev.OnlyAt [.X_COUR_KNOCK_STOP, .COUR_L_EVENTS_KNOCK_WAKE] n s.found s.found := .refl _ _
  obtain ⟨h1, h2, h3⟩ := Dev.courEvent_shows (h0.write .X_COUR_KNOCK_STOP 1) .COUR_L_EVENTS_KNOCK_WAKE
  have hget := (wake_only (((s.found.set .X_COUR_KNOCK_STOP n 1).set .COUR_L_EVENTS_KNOCK_WAKE n 1).syncCourier n) (domRx n) 2).2
  rw [← show e = _ from he] at hget
  refine ⟨?_, (hget _ _ (by decide)).trans h1, (hget _ _ (by decide)).trans h2, ?_⟩
  · exact (hget _ _ (by decide)).trans ((setLine_get _ _ _ _ _ (by decide)).trans ((Dev.get_set_field _ _ _ _ (by decide)).trans
      (Dev.get_set_same ..)))
  · rw [he]
    exact (Dev.OnlyRaising.wake _ _ h3).ofFound

theorem knockSeen_reports {n : Fin 64} {w1 w2 : BitVec 63} {s : State}
    (hmatch : s.dev.knockMatch (knockMatches w1.toNat) (knockMatches w2.toNat) = true)
    (hidle : s.dev.get .COUR_L_STATUS_RX_STATE n = crIDLE) : Completes (.knockSeen n w1 w2) s fun e =>
      e.get .COUR_L_EVENTS_KNOCK_SEEN n = 1 ∧ e.get .PH_SRC_LINE (832 + n) = 1 ∧
        Dev.OnlyRaisingAt [.COUR_L_EVENTS_KNOCK_SEEN] n s.dev e := by
  refine .runIf (rfl : _ = execKnockSeen n w1 w2 s) ⟨hidle, hmatch⟩ fun e he => ?_
  have h0 : Dev.OnlyAt [.COUR_L_EVENTS_KNOCK_SEEN] n s.found s.found := .refl _ _
  obtain ⟨h1, h2, h3⟩ := Dev.courEvent_shows h0 .COUR_L_EVENTS_KNOCK_SEEN
  rw [← show e = _ from he] at h1 h2 h3
  exact ⟨h1, h2, h3.ofFound⟩

/-! ## Statistics -/

/-- Every index below `k` from `b` on is written by a loop. -/
theorem Dev.each_set_shift (f : F) (b k : Nat) (v : Nat → Nat) (d : Dev) {i : Nat} (hi : i < k) :
    (Dev.each k (fun i d => d.set f (b + i) (v i)) d).get f (b + i) = v i :=
  Dev.each_reaches (P := fun e => e.get f (b + i) = v i) hi (fun _ => Dev.get_set_same ..) (fun j e he => by
    by_cases hj : j = i
    · subst hj
      exact Dev.get_set_same ..
    · exact (Dev.get_set_inst _ _ _ fun h => hj (Nat.add_left_cancel h).symm).trans he) d

/-- R289: with no SNR measured nothing is recommended. -/
theorem Dev.recommendAll_zero {d : Dev} {n : Nat} (h : ∀ i < 24, d.get .COUR_L_SNR_SNR (24 * n + i) = 0) :
    (∀ i < 12, (d.recommendAll n).get .COUR_L_REC_CODES (12 * n + i) = 0) ∧ (d.recommendAll n).get .COUR_L_QUALITY_LQ n = 0 ∧
      ∀ f j, f ∉ [F.COUR_L_REC_CODES, .COUR_L_QUALITY_LQ] → (d.recommendAll n).get f j = d.get f j := by
  have hcodes : ((List.range 96).map fun c => recommend (d.carrierSnr n c)) = List.replicate 96 0 := by
    refine List.eq_replicate_iff.mpr ⟨by rw [List.length_map, List.length_range], fun x hx => ?_⟩
    obtain ⟨c, hc, rfl⟩ := List.mem_map.mp hx
    have hc' : c / 4 < 24 := by
      have := List.mem_range.mp hc
      omega
    unfold Dev.carrierSnr
    rw [h _ hc']
    unfold bitsOf
    rw [Nat.zero_div, Nat.zero_mod]
    rfl
  unfold Dev.recommendAll
  rw [hcodes]
  refine ⟨fun i hi => ?_, Dev.get_set_same .., fun f j hf => ?_⟩
  · rw [Dev.get_set_field _ _ _ _ (by decide), Dev.each_set_shift _ _ _ _ _ hi]
    interval_cases i <;> rfl
  · rw [List.mem_cons, List.mem_singleton, not_or] at hf
    exact (Dev.get_set_field _ _ _ _ hf.2).trans (Dev.each_keeps (fun e => e.get f j) (fun _ _ _ => Dev.get_set_field _ _ _ _ hf.1) _)

theorem courClearStats_clears (n : Fin 64) (s : State) : Completes (.courClearStats n) s fun e =>
    (∀ f ∈ courCounters, e.get f n = 0) ∧ (∀ i < 24, e.get .COUR_L_SNR_SNR (24 * n + i) = 0) ∧
      (∀ i < 12, e.get .COUR_L_REC_CODES (12 * n + i) = 0) ∧ e.get .COUR_L_QUALITY_LQ n = 0 := by
  refine .runAs (rfl : _ = execCourClearStats n s) fun e he => ?_
  dsimp only at he
  have hcount : ∀ f ∈ courCounters, (s.found.setAll courCounters n 0).get f n = 0 := fun f hf => Dev.setAll_get_of_mem _ _ _ hf
  generalize s.found.setAll courCounters n 0 = b at he hcount
  have hsnr : ∀ i < 24, (Dev.each 24 (fun i d => d.set .COUR_L_SNR_SNR (24 * n.val + i) 0) b).get .COUR_L_SNR_SNR (24 * n.val + i) = 0 :=
    fun i hi => Dev.each_set_shift _ _ _ _ _ hi
  have hb : ∀ f i, f ≠ .COUR_L_SNR_SNR → (Dev.each 24 (fun i d => d.set .COUR_L_SNR_SNR (24 * n.val + i) 0) b).get f i = b.get f i :=
    fun f i hf => Dev.each_keeps (fun e => e.get f i) (fun _ _ _ => Dev.get_set_field _ _ _ _ hf) _
  generalize Dev.each 24 (fun i d => d.set .COUR_L_SNR_SNR (24 * n.val + i) 0) b = c at he hsnr hb
  have hc : ∀ f i, f ≠ .X_COUR_MSE → (Dev.each 96 (fun i d => d.set .X_COUR_MSE (96 * n.val + i) 0) c).get f i = c.get f i :=
    fun f i hf => Dev.each_keeps (fun e => e.get f i) (fun _ _ _ => Dev.get_set_field _ _ _ _ hf) _
  generalize Dev.each 96 (fun i d => d.set .X_COUR_MSE (96 * n.val + i) 0) c = u at he hc
  have hu : ∀ i < 24, u.get .COUR_L_SNR_SNR (24 * n.val + i) = 0 := fun i hi => (hc _ _ (by decide)).trans (hsnr i hi)
  obtain ⟨h1, h2, h3⟩ := Dev.recommendAll_zero hu
  rw [← show e = _ from he] at h1 h2 h3
  have hkeep : ∀ f ∈ courCounters, f ∉ [F.COUR_L_REC_CODES, .COUR_L_QUALITY_LQ] ∧ f ≠ .X_COUR_MSE ∧ f ≠ .COUR_L_SNR_SNR := by decide
  refine ⟨fun f hf => ?_, fun i hi => (h3 _ _ (by decide)).trans (hu i hi), h1, h2⟩
  obtain ⟨hk1, hk2, hk3⟩ := hkeep f hf
  exact (h3 f n hk1).trans ((hc f n hk2).trans ((hb f n hk3).trans (hcount f hf)))

/-- Settles O49: knocks, their detectors, and the clearing of the courier's statistics. -/
theorem knockAndStats : Obligations.KnockAndStats := by
  refine fun n s => ⟨fun b => knock_waits, fun b hpend => ?_, knockStart_sends, knockBurstsEnd_ends, knockDropped_drops,
    fun w1 w2 hmatch => ⟨knockWake_wakes hmatch, knockSeen_reports hmatch⟩, courClearStats_clears n s⟩
  exact .runIf (rfl : _ = execKnock n b s) (beq_iff_eq.mpr hpend) fun e he => he

end Sys2Proof.Machine
end

section
/-! PROOFS. Courier reception (R262, R278 to R284). -/

-- One theorem at a time: the whole text is compiled under a memory limit, which the stacks of waiting threads would fill.
set_option Elab.async false

namespace Sys2Proof.Machine

open Sys2Proof

/-! ## Points of a constellation -/

/-- An odd level is decided as itself. -/
theorem nearestLevel_self {m u : Int} (hu : 0 < u) {x : Int} (hodd : x % 2 = 1) (hm : -m ≤ x ∧ x ≤ m) : nearestLevel m u (u * x) = x := by
  obtain ⟨k, rfl⟩ : ∃ k, x = 2 * k + 1 := ⟨x / 2, by omega⟩
  have hdiv : u * (2 * k + 1) / (2 * u) = k := by
    rw [show u * (2 * k + 1) = u + k * (2 * u) by ring, Int.add_mul_ediv_right _ _ (by omega),
      Int.ediv_eq_zero_of_lt (by omega) (by omega), zero_add]
  unfold nearestLevel clampI
  rw [hdiv]
  omega

theorem pointUnit_pos {code : Nat} (h : code ∈ [1, 2, 3, 4]) : 0 < (pointUnit code : Int) := by
  have hpos : 0 < 2 ^ 32 / scaleSquare code := by
    simp only [List.mem_cons, List.not_mem_nil, or_false] at h
    rcases h with rfl | rfl | rfl | rfl <;> decide
  exact Int.natCast_pos.mpr (Nat.sqrt_pos.mpr hpos)

/-- The largest level on an axis of a constellation. -/
def axisMax : Nat → Int
  | 3 => 3 | 4 => 7 | _ => 1

/-- Every list of bits of a length below 7 has the property, which is decided on the bits. -/
theorem points_decided : ∀ code ∈ [1, 2, 3, 4], ∀ v < 2 ^ codeBits code,
    pointBits code (carrierPoint (bitList (codeBits code) v)) = bitList (codeBits code) v ∧
    (carrierPoint (bitList (codeBits code) v)).1 % 2 = 1 ∧
    (-axisMax code ≤ (carrierPoint (bitList (codeBits code) v)).1 ∧ (carrierPoint (bitList (codeBits code) v)).1 ≤ axisMax code) ∧
    (if code = 1 then (carrierPoint (bitList (codeBits code) v)).2 = 0 else (carrierPoint (bitList (codeBits code) v)).2 % 2 = 1) ∧
    (-axisMax code ≤ (carrierPoint (bitList (codeBits code) v)).2 ∧ (carrierPoint (bitList (codeBits code) v)).2 ≤ axisMax code) := by
  decide +kernel

theorem bitList_cons (k n : Nat) (b : Bool) : bitList (k + 1) (2 * n + b2n b) = b :: bitList k n := by
  unfold bitList
  rw [List.range_succ_eq_map, List.map_cons, List.map_map]
  congr 1
  · cases b <;> simp [bitAt_eq_testBit, b2n]
  · refine List.map_congr_left fun i _ => ?_
    simp only [Function.comp_apply, bitAt_eq_testBit, Nat.testBit_succ]
    congr 1
    cases b
    · simp [b2n]
    · simp [b2n]
      omega

theorem symbolOf_bitList (bits : List Bool) : bitList bits.length (symbolOf bits) = bits ∧ symbolOf bits < 2 ^ bits.length := by
  induction bits with
  | nil => exact ⟨rfl, by decide⟩
  | cons b l ih =>
    obtain ⟨h1, h2⟩ := ih
    have hs : symbolOf (b :: l) = 2 * symbolOf l + b2n b := rfl
    have hb : b2n b ≤ 1 := by cases b <;> decide
    rw [hs, List.length_cons, bitList_cons, h1, Nat.pow_succ]
    exact ⟨rfl, by omega⟩

theorem nearestPoint_scaled {code : Nat} (h : code ∈ [1, 2, 3, 4]) {a : Pt} (h1 : a.1 % 2 = 1) (m1 : -axisMax code ≤ a.1 ∧ a.1 ≤ axisMax code)
    (h2 : if code = 1 then a.2 = 0 else a.2 % 2 = 1) (m2 : -axisMax code ≤ a.2 ∧ a.2 ≤ axisMax code) :
    nearestPoint code (cscale (pointUnit code) a) = a := by
  have hu := pointUnit_pos h
  unfold nearestPoint cscale
  generalize (pointUnit code : Int) = u at hu ⊢
  simp only [List.mem_cons, List.not_mem_nil, or_false] at h
  rcases h with rfl | rfl | rfl | rfl
  · exact Prod.ext (nearestLevel_self hu h1 m1) h2.symm
  · exact Prod.ext (nearestLevel_self hu h1 m1) (nearestLevel_self hu h2 m2)
  · exact Prod.ext (nearestLevel_self hu h1 m1) (nearestLevel_self hu h2 m2)
  · exact Prod.ext (nearestLevel_self hu h1 m1) (nearestLevel_self hu h2 m2)

/-- R262: every point of a constellation is decided as itself and gives its bits. -/
theorem carrierPoint_decided (code : Nat) (hcode : code ∈ [1, 2, 3, 4]) (bits : List Bool) (hlen : bits.length = codeBits code) :
    pointBits code (carrierPoint bits) = bits ∧
      nearestPoint code (cscale (pointUnit code) (carrierPoint bits)) = carrierPoint bits := by
  obtain ⟨hbits, hlt⟩ := symbolOf_bitList bits
  rw [hlen] at hbits hlt
  obtain ⟨hp, h1, m1, h2, m2⟩ := points_decided code hcode (symbolOf bits) hlt
  rw [hbits] at hp h1 m1 h2 m2
  exact ⟨hp, nearestPoint_scaled hcode h1 m1 h2 m2⟩

/-! ## Preambles -/

/-- What the begin of a reception shows. -/
theorem Dev.beginRx_shows (d : Dev) (n pwr : Nat) : (d.beginRx n pwr).get .COUR_L_STATUS_RX_STATE n = crHEADER ∧
    (d.beginRx n pwr).get .X_COUR_RX_TIME n = d.now ∧
    Dev.Only (fun f _ => f ∈ [F.COUR_L_STATUS_RX_STATE, .X_COUR_RX_PWR, .X_COUR_RX_TIME]) d (d.beginRx n pwr) := by
  refine ⟨?_, Dev.get_set_same .., (((Dev.Only.refl _ d).write .COUR_L_STATUS_RX_STATE n crHEADER).write .X_COUR_RX_PWR n pwr).write .X_COUR_RX_TIME n _⟩
  exact (Dev.get_set_field _ _ _ _ (by decide)).trans ((Dev.get_set_field _ _ _ _ (by decide)).trans (Dev.get_set_same ..))

/-- The count of a preamble. -/
def Dev.countPreamble (d : Dev) (n pwr : Nat) : Dev := (d.addSat .COUR_L_RX_DETECT_COUNT n 1).set .COUR_L_PWR_LAST_PRE n pwr

theorem Dev.countPreamble_shows (d : Dev) (n pwr : Nat) :
    (d.countPreamble n pwr).get .COUR_L_RX_DETECT_COUNT n = satAdd F.COUR_L_RX_DETECT_COUNT.width (d.get .COUR_L_RX_DETECT_COUNT n) 1 ∧
    (d.countPreamble n pwr).get .COUR_L_PWR_LAST_PRE n = pwr ∧
    Dev.Only (fun f _ => f ∈ [F.COUR_L_RX_DETECT_COUNT, .COUR_L_PWR_LAST_PRE]) d (d.countPreamble n pwr) := by
  refine ⟨(Dev.get_set_field _ _ _ _ (by decide)).trans (Dev.get_set_same ..), Dev.get_set_same .., ?_⟩
  have h : Dev.Only (fun f _ => f ∈ [F.COUR_L_RX_DETECT_COUNT, .COUR_L_PWR_LAST_PRE]) d (d.addSat .COUR_L_RX_DETECT_COUNT n 1) :=
    (Dev.Only.refl _ d).write .COUR_L_RX_DETECT_COUNT n _
  exact h.write .COUR_L_PWR_LAST_PRE n pwr

/-- R278, R280: what a preamble leaves, by the state of the receiver. -/
theorem Dev.preamble_eq (d : Dev) (n pwr : Nat) (h : d.get .COUR_L_STATUS_RX_STATE n ≠ crOFF) : d.preamble n pwr =
    if d.get .COUR_L_STATUS_RX_STATE n = crIDLE then (d.countPreamble n pwr).beginRx n pwr
    else if d.get .COUR_L_STATUS_RX_STATE n = crHEADER then ((d.countPreamble n pwr).addSat .COUR_L_RX_RESTART_COUNT n 1).beginRx n pwr
    else if d.get .X_COUR_RX_PWR n + 40 ≤ pwr ∧ d.lon .COUR_CTRL_PREEMPT 0 then
      ((d.countPreamble n pwr).addSat .COUR_L_RX_ABANDONED_COUNT n 1).beginRx n pwr
    else ((d.countPreamble n pwr).addSat .COUR_L_RX_COLLISION_COUNT n 1).set .COUR_L_PWR_LAST_COLL n pwr := by
  have hpwr : (d.countPreamble n pwr).get .X_COUR_RX_PWR n = d.get .X_COUR_RX_PWR n := (d.countPreamble_shows n pwr).2.2.keeps _ _
  rw [← hpwr]
  exact if_neg h

/-- The counters of preambles that restart, preempt or collide. -/
def rxCounts : List F := [.COUR_L_RX_RESTART_COUNT, .COUR_L_RX_ABANDONED_COUNT, .COUR_L_RX_COLLISION_COUNT]

/-- A reception that begins as counter `f` of the lane counts one more. -/
theorem Dev.recount_shows (d : Dev) (n pwr : Nat) {f : F} (hf : f ∈ rxCounts) {e : Dev} (he : e = (d.addSat f n 1).beginRx n pwr) :
    e.get .COUR_L_STATUS_RX_STATE n = crHEADER ∧ e.get .X_COUR_RX_TIME n = d.now ∧ e.get f n = satAdd f.width (d.get f n) 1 ∧
      ∀ g ∈ [F.COUR_L_RX_DETECT_COUNT, .COUR_L_PWR_LAST_PRE], ∀ i, e.get g i = d.get g i := by
  subst he
  obtain ⟨h1, h2, h3⟩ := (d.addSat f n 1).beginRx_shows n pwr
  have hdis : ∀ f ∈ rxCounts, f ∉ [F.COUR_L_STATUS_RX_STATE, .X_COUR_RX_PWR, .X_COUR_RX_TIME] ∧ F.TIME_NOW_NOW ≠ f := by decide
  have hdis2 : ∀ f ∈ rxCounts, ∀ g ∈ [F.COUR_L_RX_DETECT_COUNT, .COUR_L_PWR_LAST_PRE],
      g ≠ f ∧ g ∉ [F.COUR_L_STATUS_RX_STATE, .X_COUR_RX_PWR, .X_COUR_RX_TIME] := by decide
  refine ⟨h1, h2.trans (Dev.get_set_field _ _ _ _ (hdis f hf).2), (h3.2 f n (hdis f hf).1).trans (Dev.get_set_same ..),
    fun g hg i => (h3.2 g i (hdis2 f hf g hg).2).trans (Dev.get_set_field _ _ _ _ (hdis2 f hf g hg).1)⟩

/-- R278, R280: what a preamble shows whose metric reaches the threshold, in a receiver that runs. -/
theorem Dev.preamble_shows (d : Dev) (n pwr : Nat) (hst : d.get .COUR_L_STATUS_RX_STATE n ≠ crOFF) {e : Dev} (he : e = d.preamble n pwr) :
    e.get .COUR_L_RX_DETECT_COUNT n = satAdd F.COUR_L_RX_DETECT_COUNT.width (d.get .COUR_L_RX_DETECT_COUNT n) 1 ∧
    e.get .COUR_L_PWR_LAST_PRE n = pwr ∧
    (d.get .COUR_L_STATUS_RX_STATE n = crIDLE ∨ d.get .COUR_L_STATUS_RX_STATE n = crHEADER →
      e.get .COUR_L_STATUS_RX_STATE n = crHEADER ∧ e.get .X_COUR_RX_TIME n = d.now) ∧
    (d.get .COUR_L_STATUS_RX_STATE n = crHEADER →
      e.get .COUR_L_RX_RESTART_COUNT n = satAdd F.COUR_L_RX_RESTART_COUNT.width (d.get .COUR_L_RX_RESTART_COUNT n) 1) ∧
    (d.get .COUR_L_STATUS_RX_STATE n = crPAYLOAD → d.get .X_COUR_RX_PWR n + 40 ≤ pwr → d.lget .COUR_CTRL_PREEMPT 0 = 1 →
      e.get .COUR_L_STATUS_RX_STATE n = crHEADER ∧
      e.get .COUR_L_RX_ABANDONED_COUNT n = satAdd F.COUR_L_RX_ABANDONED_COUNT.width (d.get .COUR_L_RX_ABANDONED_COUNT n) 1) ∧
    (d.get .COUR_L_STATUS_RX_STATE n = crPAYLOAD → pwr < d.get .X_COUR_RX_PWR n + 40 →
      e.get .COUR_L_STATUS_RX_STATE n = crPAYLOAD ∧
      e.get .COUR_L_RX_COLLISION_COUNT n = satAdd F.COUR_L_RX_COLLISION_COUNT.width (d.get .COUR_L_RX_COLLISION_COUNT n) 1) := by
  rw [Dev.preamble_eq d n pwr hst] at he
  obtain ⟨c1, c2, c3⟩ := d.countPreamble_shows n pwr
  have hk : ∀ f ∈ .COUR_L_STATUS_RX_STATE :: .TIME_NOW_NOW :: rxCounts, ∀ i, (d.countPreamble n pwr).get f i = d.get f i := fun f hf i =>
    c3.2 f i ((by decide : ∀ f ∈ .COUR_L_STATUS_RX_STATE :: .TIME_NOW_NOW :: rxCounts,
      f ∉ [F.COUR_L_RX_DETECT_COUNT, .COUR_L_PWR_LAST_PRE]) f hf)
  generalize d.countPreamble n pwr = b at he c1 c2 hk
  have hnow : b.now = d.now := hk _ (by decide) _
  rw [← c1]
  split at he
  · next hidle =>
    obtain ⟨h1, h2, h3⟩ := b.beginRx_shows n pwr
    rw [← he] at h1 h2 h3
    refine ⟨h3.keeps _ _, (h3.keeps _ _).trans c2, fun _ => ⟨h1, h2.trans hnow⟩, fun h => ?_, fun h => ?_, fun h => ?_⟩
    all_goals exact absurd (hidle.symm.trans h) (by decide)
  · next hidle =>
    split at he
    · next hhead =>
      obtain ⟨h1, h2, h3, h4⟩ := b.recount_shows n pwr (by decide) he
      refine ⟨h4 _ (by decide) n, (h4 .COUR_L_PWR_LAST_PRE (by decide) n).trans c2, fun _ => ⟨h1, h2.trans hnow⟩, fun _ => ?_, fun h => ?_, fun h => ?_⟩
      · rw [h3, hk _ (by decide)]
      all_goals exact absurd (hhead.symm.trans h) (by decide)
    · next hhead =>
      split at he
      · next hpre =>
        obtain ⟨h1, h2, h3, h4⟩ := b.recount_shows n pwr (by decide) he
        refine ⟨h4 _ (by decide) n, (h4 .COUR_L_PWR_LAST_PRE (by decide) n).trans c2, fun h => (h.elim hidle hhead).elim, fun h => absurd h hhead, fun _ _ _ => ⟨h1, ?_⟩,
          fun _ h => absurd hpre.1 (Nat.not_le_of_lt h)⟩
        rw [h3, hk _ (by decide)]
      · next hpre =>
        subst he
        refine ⟨?_, ?_, fun h => (h.elim hidle hhead).elim, fun h => absurd h hhead,
          fun _ h1 h2 => absurd ⟨h1, beq_iff_eq.mpr h2⟩ hpre, fun hp _ => ⟨?_, ?_⟩⟩
        · exact (Dev.get_set_field _ _ _ _ (by decide)).trans (Dev.get_set_field _ _ _ _ (by decide))
        · exact (Dev.get_set_field _ _ _ _ (by decide)).trans ((Dev.get_set_field _ _ _ _ (by decide)).trans c2)
        · exact (Dev.get_set_field _ _ _ _ (by decide)).trans ((Dev.get_set_field _ _ _ _ (by decide)).trans
            ((hk _ (by decide) n).trans hp))
        · exact (Dev.get_set_field _ _ _ _ (by decide)).trans ((Dev.get_set_same ..).trans (by rw [hk _ (by decide)]))

theorem Dev.setChan_chan (d : Dev) (c : CourChan) : (d.setChan c).chan c.lane = c := by
  unfold Dev.chan Dev.setChan
  rw [List.find?_cons_of_pos (by simp)]
  rfl

section
variable {n : Fin 64} {s : State} {m1 m2 : BitVec 9} {pwr : Byte} {p0 p1 : List (Int × Int)}

theorem preambleDetect_ignored (h : min m1.toNat m2.toNat < s.dev.lget .COUR_CTRL_THRESH 0 ∨ s.dev.get .COUR_L_STATUS_RX_STATE n = crOFF) :
    Completes (.preambleDetect n m1 m2 pwr p0 p1) s fun e => e = s.found := by
  refine .runAs (rfl : _ = execPreambleDetect n m1 m2 pwr p0 p1 s) fun e he => ?_
  dsimp only at he
  split at he
  · next hreach =>
    have hle := of_decide_eq_true hreach
    have hoff : s.dev.get .COUR_L_STATUS_RX_STATE n = crOFF := h.resolve_left (Nat.not_lt_of_le hle)
    have hno : ¬ s.found.preambleStarts n pwr.toNat = true := by
      unfold Dev.preambleStarts
      rw [show s.found.get .COUR_L_STATUS_RX_STATE n = crOFF from hoff]
      simp [crOFF, crIDLE, crHEADER, crPAYLOAD]
    rw [if_neg hno] at he
    exact he.trans (if_pos hoff)
  · exact he

theorem preambleDetect_found (hm : s.dev.lget .COUR_CTRL_THRESH 0 ≤ min m1.toNat m2.toNat) : Completes (.preambleDetect n m1 m2 pwr p0 p1) s fun e =>
      (∀ f i, e.get f i = (s.found.preamble n pwr.toNat).get f i) ∧
      (s.dev.get .COUR_L_STATUS_RX_STATE n = crIDLE ∨ s.dev.get .COUR_L_STATUS_RX_STATE n = crHEADER →
        e.chan n = ⟨n, channelEstimate p0 p1, (2 ^ 16, 0)⟩) := by
  refine .runAs (rfl : _ = execPreambleDetect n m1 m2 pwr p0 p1 s) fun e he => ?_
  replace he := he.trans (if_pos (decide_eq_true hm))
  by_cases hstart : s.found.preambleStarts n pwr.toNat = true
  · replace he := he.trans (if_pos hstart)
    subst he
    exact ⟨fun f i => rfl, fun _ => Dev.setChan_chan _ ⟨n, channelEstimate p0 p1, (2 ^ 16, 0)⟩⟩
  · replace he := he.trans (if_neg hstart)
    subst he
    refine ⟨fun f i => rfl, fun h => absurd ?_ hstart⟩
    unfold Dev.preambleStarts
    rcases h with h | h <;> rw [show s.found.get .COUR_L_STATUS_RX_STATE n = _ from h] <;> rfl

end

/-! ## Headers -/

section
variable {n : Fin 64} {rx : List (List (Int × Int))} {s : State}

/-- R279, R280: a header in its state: what it says moves the receiver, and its symbols the channel. -/
theorem headerReceived_run (hst : s.dev.get .COUR_L_STATUS_RX_STATE n = crHEADER) {P : Dev → Prop}
    (h : ∀ c, P ((s.found.header n (s.dev.headerBits n rx)).setChan c)) : Completes (.headerReceived n rx) s P := by
  refine .runAs (rfl : _ = execHeaderReceived n rx s) fun e he => ?_
  replace he := he.trans (if_pos hst)
  subst he
  exact h _

/-- A header that is refused is counted, and the receiver is IDLE. -/
theorem Dev.refuseHeader_shows (d : Dev) (n : Nat) (c : CourChan) {f : F} (hf : f ≠ .COUR_L_STATUS_RX_STATE) {e : Dev}
    (he : e = ((d.addSat f n 1).set .COUR_L_STATUS_RX_STATE n crIDLE).setChan c) :
    e.get .COUR_L_STATUS_RX_STATE n = crIDLE ∧ e.get f n = satAdd f.width (d.get f n) 1 ∧
      Dev.OnlyAt [.COUR_L_STATUS_RX_STATE, f] n { d with chans := e.chans } e := by
  have hget : ∀ g i, e.get g i = ((d.addSat f n 1).set .COUR_L_STATUS_RX_STATE n crIDLE).get g i := fun g i => he ▸ rfl
  refine ⟨(hget _ _).trans (Dev.get_set_same ..), (hget _ _).trans ((Dev.get_set_field _ _ _ _ hf).trans (Dev.get_set_same ..)), ?_, ?_⟩
  · rw [he]
    rfl
  · intro g i hg
    rw [hget]
    by_cases hgi : i = n
    · subst hgi
      have hne : g ≠ .COUR_L_STATUS_RX_STATE ∧ g ≠ f := by
        constructor
        · rintro rfl
          exact hg ⟨rfl, List.mem_cons_self ..⟩
        · rintro rfl
          exact hg ⟨rfl, List.mem_cons_of_mem _ (List.mem_singleton.mpr rfl)⟩
      exact (Dev.get_set_field _ _ _ _ hne.1).trans (Dev.get_set_field _ _ _ _ hne.2)
    · exact (Dev.get_set_other _ _ _ _ _ _ fun hk => hgi (Key.mk.inj hk).2).trans
        (Dev.get_set_other _ _ _ _ _ _ fun hk => hgi (Key.mk.inj hk).2)

theorem headerReceived_judges (hst : s.dev.get .COUR_L_STATUS_RX_STATE n = crHEADER) :
    (hcrcValid (s.dev.headerBits n rx) = false → Completes (.headerReceived n rx) s fun e =>
      e.get .COUR_L_STATUS_RX_STATE n = crIDLE ∧
      e.get .COUR_L_RX_HDR_ERR_COUNT n = satAdd F.COUR_L_RX_HDR_ERR_COUNT.width (s.dev.get .COUR_L_RX_HDR_ERR_COUNT n) 1 ∧
      Dev.OnlyAt [.COUR_L_STATUS_RX_STATE, .COUR_L_RX_HDR_ERR_COUNT] n { s.dev with chans := e.chans } e) ∧
    (hcrcValid (s.dev.headerBits n rx) = true → s.dev.headerUsable n (s.dev.headerBits n rx) = false →
      Completes (.headerReceived n rx) s fun e => e.get .COUR_L_STATUS_RX_STATE n = crIDLE ∧
        e.get .COUR_L_RX_FORMAT_ERR_COUNT n = satAdd F.COUR_L_RX_FORMAT_ERR_COUNT.width (s.dev.get .COUR_L_RX_FORMAT_ERR_COUNT n) 1 ∧
        Dev.OnlyAt [.COUR_L_STATUS_RX_STATE, .COUR_L_RX_FORMAT_ERR_COUNT] n { s.dev with chans := e.chans } e) ∧
    (hcrcValid (s.dev.headerBits n rx) = true → s.dev.headerUsable n (s.dev.headerBits n rx) = true →
      Completes (.headerReceived n rx) s fun e =>
        e.get .COUR_L_STATUS_RX_STATE n = crPAYLOAD ∧ e.get .X_COUR_RX_HEADER n = s.dev.headerBits n rx % 2 ^ 32) := by
  have hused : ∀ h, s.found.headerUsable n h = s.dev.headerUsable n h := fun _ => rfl
  refine ⟨fun hbad => headerReceived_run hst fun c => ?_, fun hok hbad => headerReceived_run hst fun c => ?_,
    fun hok huse => headerReceived_run hst fun c => ?_⟩
  · have heq : s.found.header n (s.dev.headerBits n rx) = (s.found.addSat .COUR_L_RX_HDR_ERR_COUNT n 1).set .COUR_L_STATUS_RX_STATE n crIDLE :=
      (if_pos hst).trans (if_pos (by rw [hbad]; rfl))
    rw [heq]
    obtain ⟨h1, h2, h3⟩ := s.found.refuseHeader_shows n c (f := .COUR_L_RX_HDR_ERR_COUNT) (by decide) rfl
    exact ⟨h1, h2, h3⟩
  · have heq : s.found.header n (s.dev.headerBits n rx) =
        (s.found.addSat .COUR_L_RX_FORMAT_ERR_COUNT n 1).set .COUR_L_STATUS_RX_STATE n crIDLE :=
      ((if_pos hst).trans (if_neg (by rw [hok]; decide))).trans (if_pos (by rw [hused, hbad]; rfl))
    rw [heq]
    obtain ⟨h1, h2, h3⟩ := s.found.refuseHeader_shows n c (f := .COUR_L_RX_FORMAT_ERR_COUNT) (by decide) rfl
    exact ⟨h1, h2, h3⟩
  · have heq : ∃ b : Dev, s.found.header n (s.dev.headerBits n rx) =
        (b.set .X_COUR_RX_HEADER n (s.dev.headerBits n rx % 2 ^ 32)).set .COUR_L_STATUS_RX_STATE n crPAYLOAD :=
      ⟨_, ((if_pos hst).trans (if_neg (by rw [hok]; decide))).trans (if_neg (by rw [hused, huse]; decide))⟩
    obtain ⟨b, heq⟩ := heq
    rw [heq]
    generalize s.dev.headerBits n rx % 2 ^ 32 = x
    exact ⟨Dev.get_set_same (b.set .X_COUR_RX_HEADER n x) .COUR_L_STATUS_RX_STATE n crPAYLOAD,
      (Dev.get_set_field (b.set .X_COUR_RX_HEADER n x) (f := .COUR_L_STATUS_RX_STATE) n n crPAYLOAD (by decide)).trans (Dev.get_set_same ..)⟩

end

/-! ## Payloads -/

/-- What the running quality of a lane's sub-carriers is kept in. -/
def measureFields : List F := [.X_COUR_MSE, .COUR_L_SNR_SNR, .COUR_L_QUALITY_AGG_SNR, .COUR_L_QUALITY_MEASURED, .COUR_L_REC_CODES,
  .COUR_L_QUALITY_LQ]

theorem Dev.measure_only (d : Dev) (n : Nat) (mse : List Nat) : Dev.Only (fun f _ => f ∈ measureFields) d (d.measure n mse) := by
  unfold Dev.measure
  extract_lets cs new b1 mean b2
  have h1 : Dev.Only (fun f _ => f ∈ measureFields) d b1 := Dev.Only.foldl _ _ (fun e x _ =>
    ((Dev.Only.refl _ e).write .X_COUR_MSE _ _).write .COUR_L_SNR_SNR _ _) d
  clear_value b1
  have h2 : Dev.Only (fun f _ => f ∈ measureFields) d b2 := (h1.write .COUR_L_QUALITY_AGG_SNR n _).write .COUR_L_QUALITY_MEASURED n _
  clear_value b2
  unfold Dev.recommendAll
  exact (h2.each fun i _ e => (Dev.Only.refl _ e).write .COUR_L_REC_CODES _ _).write .COUR_L_QUALITY_LQ n _

theorem streamBytes_getD (len : Nat) (bits : List Bool) :
    ((List.range len).map fun i => (streamBytes len bits).1.getD i 0) = (streamBytes len bits).1 := by
  unfold streamBytes
  refine List.map_congr_left fun i hi => ?_
  have hlt := List.mem_range.mp hi
  simp [hlt]

/-- What a delivery keeps of the lane's receiver. -/
def rxKept : List F := [.COUR_L_STATUS_RX_STATE, .COUR_L_RX_OK_COUNT]

theorem Dev.stampSlot_only (d : Dev) (n k : Nat) : Dev.Only (fun f _ => f ∈ [F.X_COUR_ORD, .X_COUR_SLOT_ORD]) d (d.stampSlot n k) :=
  ((Dev.Only.refl _ d).write .X_COUR_ORD n _).write .X_COUR_SLOT_ORD _ _

theorem Dev.showOldest_only (d : Dev) (n : Nat) : Dev.Only (fun f _ => f = .COUR_RX_STATUS_OLDEST) d (d.showOldest n) := by
  unfold Dev.showOldest
  split
  · exact .refl _ d
  · exact (Dev.Only.refl _ d).set (f := .COUR_RX_STATUS_OLDEST) _ rfl

/-- What a message that fills receive slot `k` shows and stores. -/
def Dev.fillSlot (d : Dev) (n k h loop : Nat) (bytes : List Byte) : Dev :=
  let d := { d with cmem := d.cmem.writeBytes (rxBuf n k) bytes }
  let d := ((d.orBits .COUR_RX_STATUS_FULL n (2 ^ k)).stampSlot n k).showOldest n
  let j := 4 * n + k
  let d := ((d.set .COUR_RX_DESC0_ID j (bitsOf h 9 0)).set .COUR_RX_DESC0_GEN j (bitsOf h 11 10)).set .COUR_RX_DESC0_LEN j (bitsOf h 23 12)
  let d := (d.set .COUR_RX_DESC0_MODE j (bitsOf h 26 24)).set .COUR_RX_DESC0_LOOP j loop
  let d := (d.set .COUR_RX_DESC1_SNR j (d.get .COUR_L_QUALITY_AGG_SNR n)).set .COUR_RX_DESC1_PWR j (d.get .X_COUR_RX_PWR n)
  ((d.set .COUR_RX_DESC2_TIME j (d.get .X_COUR_RX_TIME n)).set .COUR_L_EVENTS_RX_MSG n 1).syncCourier n

/-- The fields of a filled slot. -/
def slotFields : List F := [.COUR_RX_STATUS_FULL, .X_COUR_ORD, .X_COUR_SLOT_ORD, .COUR_RX_STATUS_OLDEST, .COUR_RX_DESC0_ID,
  .COUR_RX_DESC0_GEN, .COUR_RX_DESC0_LEN, .COUR_RX_DESC0_MODE, .COUR_RX_DESC0_LOOP, .COUR_RX_DESC1_SNR, .COUR_RX_DESC1_PWR,
  .COUR_RX_DESC2_TIME, .COUR_L_EVENTS_RX_MSG]

theorem Dev.fillSlot_shows (d : Dev) (n k h loop : Nat) (bytes : List Byte) {e : Dev} (he : e = d.fillSlot n k h loop bytes) :
    e.get .COUR_L_EVENTS_RX_MSG n = 1 ∧ e.get .COUR_RX_STATUS_FULL n = d.get .COUR_RX_STATUS_FULL n ||| 2 ^ k ∧
      e.get .COUR_RX_DESC0_ID (4 * n + k) = bitsOf h 9 0 ∧ e.get .COUR_RX_DESC0_LEN (4 * n + k) = bitsOf h 23 12 ∧
      e.cmem = d.cmem.writeBytes (rxBuf n k) bytes ∧
      Dev.OnlyRaising (fun f _ => f ∈ slotFields) { d with cmem := d.cmem.writeBytes (rxBuf n k) bytes } e := by
  unfold Dev.fillSlot at he
  extract_lets b1 b2 j b3 b4 b5 at he
  have h2 : Dev.Only (fun f _ => f ∈ slotFields) b1 b2 := by
    have ho : Dev.Only (fun f _ => f ∈ slotFields) b1 (b1.orBits .COUR_RX_STATUS_FULL n (2 ^ k)) :=
      (Dev.Only.refl _ b1).write .COUR_RX_STATUS_FULL n _
    refine (ho.trans ((Dev.stampSlot_only _ n k).mono fun f _ hf => ?_)).trans ((Dev.showOldest_only _ n).mono fun f _ hf => hf ▸ ?_)
    · exact (by decide : ∀ f ∈ [F.X_COUR_ORD, .X_COUR_SLOT_ORD], f ∈ slotFields) f hf
    · decide
  have hfull : b2.get .COUR_RX_STATUS_FULL n = d.get .COUR_RX_STATUS_FULL n ||| 2 ^ k :=
    ((Dev.showOldest_only _ n).2 _ _ (show ¬ (F.COUR_RX_STATUS_FULL = .COUR_RX_STATUS_OLDEST) by decide)).trans (((Dev.stampSlot_only _ n k).keeps _ _).trans (Dev.get_set_same ..))
  clear_value b2
  have h3 : Dev.Only (fun f _ => f ∈ slotFields) b1 b3 :=
    ((h2.write .COUR_RX_DESC0_ID j _).write .COUR_RX_DESC0_GEN j _).write .COUR_RX_DESC0_LEN j _
  have hid : b3.get .COUR_RX_DESC0_ID j = bitsOf h 9 0 :=
    (Dev.get_set_field _ _ _ _ (by decide)).trans ((Dev.get_set_field _ _ _ _ (by decide)).trans (Dev.get_set_same ..))
  have hlen : b3.get .COUR_RX_DESC0_LEN j = bitsOf h 23 12 := Dev.get_set_same ..
  have hf3 : b3.get .COUR_RX_STATUS_FULL n = b2.get .COUR_RX_STATUS_FULL n := (Dev.get_set_field _ _ _ _ (by decide)).trans
    ((Dev.get_set_field _ _ _ _ (by decide)).trans (Dev.get_set_field _ _ _ _ (by decide)))
  clear_value b3
  let rest : List F := [.COUR_RX_DESC0_MODE, .COUR_RX_DESC0_LOOP, .COUR_RX_DESC1_SNR, .COUR_RX_DESC1_PWR, .COUR_RX_DESC2_TIME,
    .COUR_L_EVENTS_RX_MSG]
  have h4 : Dev.Only (fun f _ => f ∈ rest) b3 b4 := ((Dev.Only.refl _ b3).write .COUR_RX_DESC0_MODE j _).write .COUR_RX_DESC0_LOOP j loop
  clear_value b4
  have h5 : Dev.Only (fun f _ => f ∈ rest) b3 b5 := (h4.write .COUR_RX_DESC1_SNR j _).write .COUR_RX_DESC1_PWR j _
  clear_value b5
  have h6 : Dev.Only (fun f _ => f ∈ rest) b3 ((b5.set .COUR_RX_DESC2_TIME j (b5.get .X_COUR_RX_TIME n)).set .COUR_L_EVENTS_RX_MSG n 1) :=
    (h5.write .COUR_RX_DESC2_TIME j _).write .COUR_L_EVENTS_RX_MSG n 1
  have hmsg := Dev.get_set_same (b5.set .COUR_RX_DESC2_TIME j (b5.get .X_COUR_RX_TIME n)) .COUR_L_EVENTS_RX_MSG n 1
  generalize (b5.set .COUR_RX_DESC2_TIME j (b5.get .X_COUR_RX_TIME n)).set .COUR_L_EVENTS_RX_MSG n 1 = b6 at he h6 hmsg
  have hall : Dev.OnlyRaising (fun f _ => f ∈ slotFields) b1 e := by
    rw [he]
    exact (h3.trans (h6.mono fun f _ hf => (by decide : ∀ f ∈ rest, f ∈ slotFields) f hf)).raising.setLine _ _
  have hget : ∀ f i, f ∉ signalFields → e.get f i = b6.get f i := fun f i hf => by
    rw [he]
    exact setLine_get _ _ _ _ _ hf
  refine ⟨(hget _ _ (by decide)).trans hmsg, (hget _ _ (by decide)).trans ((h6.keeps _ _).trans (hf3.trans hfull)),
    (hget _ _ (by decide)).trans ((h6.keeps _ _).trans hid), (hget _ _ (by decide)).trans ((h6.keeps _ _).trans hlen), ?_, hall⟩
  rw [hall.1]

theorem Dev.oldestSlot_mem {d : Dev} {n k : Nat} {l : List Nat} (h : d.oldestSlot n l = some k) : k ∈ l := by
  have hinv : ∀ (l' : List Nat) (b : Option Nat), (∀ k, b = some k → k ∈ l) → (∀ x ∈ l', x ∈ l) →
      ∀ k, l'.foldl (fun b s => match b with
        | none => some s
        | some s0 => if d.get .X_COUR_SLOT_ORD (4 * n + s) < d.get .X_COUR_SLOT_ORD (4 * n + s0) then some s else some s0) b = some k →
        k ∈ l := by
    intro l'
    induction l' with
    | nil => exact fun b hb _ k hk => hb k hk
    | cons x l' ih =>
      intro b hb hl k hk
      refine ih _ (fun k hk => ?_) (fun y hy => hl y (List.mem_cons_of_mem _ hy)) k hk
      have hx := hl x (List.mem_cons_self ..)
      cases b with
      | none => exact Option.some.inj hk ▸ hx
      | some s0 =>
        dsimp only at hk
        split at hk
        · exact Option.some.inj hk ▸ hx
        · exact hb k hk
  exact hinv l none (fun _ h => nomatch h) (fun _ hx => hx) k h

theorem Dev.oldestSlot_isSome (d : Dev) (n : Nat) {l : List Nat} (h : l ≠ []) : ∃ k, d.oldestSlot n l = some k := by
  have hsome : ∀ (l' : List Nat) (s : Nat), ∃ k, l'.foldl (fun b s => match b with
      | none => some s
      | some s0 => if d.get .X_COUR_SLOT_ORD (4 * n + s) < d.get .X_COUR_SLOT_ORD (4 * n + s0) then some s else some s0) (some s) =
        some k := by
    intro l'
    induction l' with
    | nil => exact fun s => ⟨s, rfl⟩
    | cons x l' ih =>
      intro s
      rw [List.foldl_cons]
      dsimp only
      split
      · exact ih x
      · exact ih s
  cases l with
  | nil => exact absurd rfl h
  | cons x l => exact hsome l x

theorem Mem.readBytes_writeBytes (m : Mem) (a : Nat) (bs : List Byte) : (m.writeBytes a bs).readBytes a bs.length = bs := by
  refine List.ext_getElem (by simp [Mem.readBytes]) fun i h1 h2 => ?_
  simp only [Mem.readBytes, List.getElem_map, List.getElem_range, Mem.read_writeBytes]
  rw [if_pos ⟨Nat.le_add_right .., Nat.add_lt_add_left h2 a⟩, Nat.add_sub_cancel_left, List.getD_eq_getElem _ _ h2]

/-- The device after the loop count of a delivery. -/
def Dev.countLoop (d : Dev) (n : Nat) : Dev :=
  if d.lget .LRX_CTRL_ANALOG_LOOP n = 1 then d.addSat .COUR_L_RX_LOOP_COUNT n 1 else d

theorem Dev.countLoop_only (d : Dev) (n : Nat) : Dev.Only (fun f _ => f ∈ [F.COUR_L_RX_LOOP_COUNT]) d (d.countLoop n) := by
  unfold Dev.countLoop
  split
  · exact (Dev.Only.refl _ d).write .COUR_L_RX_LOOP_COUNT n _
  · exact .refl _ d

/-- R282: what a delivery does with a message that is no duplicate, before its trigger. -/
def Dev.store (d : Dev) (n h loop : Nat) (bytes : List Byte) : Dev :=
  match d.oldestSlot n (d.rxSlots n false) with
  | none => d.deadLetter n true 2 (bitsOf h 9 0) (bitsOf h 11 10) (bitsOf h 23 12) (bitsOf h 26 24) bytes
  | some k => d.fillSlot n k h loop bytes

theorem Dev.deliver_fork (d : Dev) (n h : Nat) (bytes : List Byte) :
    (d.deliver n h bytes = (d.countLoop n).addSat .COUR_L_RX_DUP_COUNT n 1 ∧ ∃ q ∈ d.dupes, q.lane = n ∧ q.id = bitsOf h 9 0) ∨
    ∃ dupes info, d.deliver n h bytes =
      (({ d.countLoop n with dupes := dupes } : Dev).store n h (d.lget .LRX_CTRL_ANALOG_LOOP n) bytes).trigger 0xB n info
        ((({ d.countLoop n with dupes := dupes } : Dev).store n h (d.lget .LRX_CTRL_ANALOG_LOOP n) bytes).get .X_COUR_RX_TIME n) := by
  have hd : (d.countLoop n).dupes = d.dupes := by rw [(d.countLoop_only n).1]
  unfold Dev.deliver
  extract_lets id gen loop b same b1 b2
  have hb : b = d.countLoop n := rfl
  split
  · next hdup =>
    refine .inl ⟨by rw [hb], ?_⟩
    obtain ⟨q, hq, hsame⟩ := List.any_eq_true.mp hdup
    obtain ⟨hn, hid, -⟩ := of_decide_eq_true hsame
    exact ⟨q, hd ▸ hb ▸ hq, hn, hid⟩
  · exact .inr ⟨_, _, rfl⟩

theorem Dev.store_get (d : Dev) (n h loop : Nat) (bytes : List Byte) : ∀ f ∈ rxKept, ∀ i, (d.store n h loop bytes).get f i = d.get f i := by
  intro f hf i
  unfold Dev.store
  split
  · exact ((Dev.Steady.refl (L := rxKept) (N := []) (n := n) (M := []) d).deadLetter (by decide) ..).get f hf i
  · obtain ⟨-, -, -, -, -, honly⟩ := d.fillSlot_shows n _ h loop bytes rfl
    obtain ⟨h1, h2⟩ := (by decide : ∀ f ∈ rxKept, f ∉ slotFields ∧ f ∉ signalFields) f hf
    exact honly.2 f i h1 h2

theorem Dev.deliver_keeps (d : Dev) (n h : Nat) (bytes : List Byte) : ∀ f ∈ rxKept, ∀ i, (d.deliver n h bytes).get f i = d.get f i := by
  have hcount : ∀ f ∈ rxKept, ∀ i, (d.countLoop n).get f i = d.get f i := fun f hf i =>
    (d.countLoop_only n).2 f i ((by decide : ∀ f ∈ rxKept, f ∉ [F.COUR_L_RX_LOOP_COUNT]) f hf)
  intro f hf i
  rcases d.deliver_fork n h bytes with ⟨heq, -⟩ | ⟨dupes, info, heq⟩
  · rw [heq]
    exact (Dev.get_set_field _ _ _ _ fun h => absurd (h ▸ hf) (by decide)).trans (hcount f hf i)
  · rw [heq, (Dev.trigger_keeps (L := rxKept) (M := []) _ _ _ _ _ (by decide)).get f hf i, Dev.store_get _ _ _ _ _ f hf i]
    exact hcount f hf i

theorem Dev.trigger_cmem (d : Dev) (src lane info time : Nat) : (d.trigger src lane info time).cmem = d.cmem := by
  have htaps : ∀ (d : Dev) mask src info time falling lanes, (d.toTaps mask src info time falling lanes).cmem = d.cmem := by
    intro d mask src info time falling lanes
    unfold Dev.toTaps
    dsimp only
    split <;> rfl
  unfold Dev.trigger Dev.xtrigEvent
  refine (Dev.each_keeps Dev.cmem (fun j _ e => ?_) _).trans (htaps ..)
  split
  · split
    · exact (congrArg Dev.cmem (raise_only (fun _ _ => False) _ _).1).trans rfl
    · exact htaps ..
  · rfl

/-- R282: a message with no record of its ID fills a free slot where there is one, and its memory. -/
theorem Dev.deliver_fills {d : Dev} {n h : Nat} {bytes : List Byte} (hlen : bytes.length = bitsOf h 23 12)
    (hfree : d.rxSlots n false ≠ []) (hdup : ∀ q ∈ d.dupes, q.lane ≠ n ∨ q.id ≠ bitsOf h 9 0) {e : Dev} (he : e = d.deliver n h bytes) :
    e.get .COUR_L_EVENTS_RX_MSG n = 1 ∧ ∃ k ∈ d.rxSlots n false,
      e.get .COUR_RX_STATUS_FULL n = d.get .COUR_RX_STATUS_FULL n ||| 2 ^ k ∧ e.get .COUR_RX_DESC0_ID (4 * n + k) = bitsOf h 9 0 ∧
      e.get .COUR_RX_DESC0_LEN (4 * n + k) = bitsOf h 23 12 ∧ e.cmem.readBytes (rxBuf n k) (bitsOf h 23 12) = bytes := by
  rcases d.deliver_fork n h bytes with ⟨-, q, hq, hn, hid⟩ | ⟨dupes, info, heq⟩
  · exact ((hdup q hq).elim (fun h => h hn) fun h => h hid).elim
  · rw [← he] at heq
    have hbget : ∀ f i, f ∉ [F.COUR_L_RX_LOOP_COUNT] → ({ d.countLoop n with dupes := dupes } : Dev).get f i = d.get f i :=
      fun f i hf => (d.countLoop_only n).2 f i hf
    generalize hb : ({ d.countLoop n with dupes := dupes } : Dev) = b at heq hbget
    have hslots : b.rxSlots n false = d.rxSlots n false := by
      unfold Dev.rxSlots
      rw [hbget _ _ (by decide)]
    obtain ⟨k, hk⟩ := b.oldestSlot_isSome n (hslots ▸ hfree)
    have hstore : b.store n h (d.lget .LRX_CTRL_ANALOG_LOOP n) bytes = b.fillSlot n k h (d.lget .LRX_CTRL_ANALOG_LOOP n) bytes := by
      unfold Dev.store
      rw [hk]
    rw [hstore] at heq
    obtain ⟨h1, h2, h3, h4, h5, -⟩ := b.fillSlot_shows n k h (d.lget .LRX_CTRL_ANALOG_LOOP n) bytes rfl
    generalize b.fillSlot n k h (d.lget .LRX_CTRL_ANALOG_LOOP n) bytes = c at heq h1 h2 h3 h4 h5
    have hkeep := Dev.trigger_keeps (L := [.COUR_L_EVENTS_RX_MSG, .COUR_RX_STATUS_FULL, .COUR_RX_DESC0_ID, .COUR_RX_DESC0_LEN]) (M := [])
      c 0xB n info (c.get .X_COUR_RX_TIME n) (by decide)
    rw [← heq] at hkeep
    have hcmem : e.cmem = c.cmem := by
      rw [heq]
      exact Dev.trigger_cmem ..
    refine ⟨(hkeep.get _ (by decide) _).trans h1, k, hslots ▸ Dev.oldestSlot_mem hk, ?_, (hkeep.get _ (by decide) _).trans h3,
      (hkeep.get _ (by decide) _).trans h4, ?_⟩
    · rw [hkeep.get _ (by decide), h2, hbget _ _ (by decide)]
    · rw [hcmem, h5, ← hlen]
      exact Mem.readBytes_writeBytes ..

section
variable {n : Fin 64} {rx : List (List (Int × Int))} {s : State}

/-- R268, R280: the end of a payload: what has been measured, then the delivery or the count of a wrong CRC. -/
theorem payloadReceived_ends (hst : s.dev.get .COUR_L_STATUS_RX_STATE n = crPAYLOAD) {h : Nat} (hh : h = s.dev.get .X_COUR_RX_HEADER n)
    {p : List Byte × Word} (hp : p = streamBytes (bitsOf h 23 12) (s.dev.payloadDemod n rx).bits) :
    (crc32 (leBytes 4 h ++ p.1) ≠ p.2 → Completes (.payloadReceived n rx) s fun e =>
      e.get .COUR_L_STATUS_RX_STATE n = crIDLE ∧
      e.get .COUR_L_RX_CRC_ERR_COUNT n = satAdd F.COUR_L_RX_CRC_ERR_COUNT.width (s.dev.get .COUR_L_RX_CRC_ERR_COUNT n) 1) ∧
    (crc32 (leBytes 4 h ++ p.1) = p.2 → Completes (.payloadReceived n rx) s fun e =>
      e.get .COUR_L_STATUS_RX_STATE n = crIDLE ∧
      e.get .COUR_L_RX_OK_COUNT n = satAdd F.COUR_L_RX_OK_COUNT.width (s.dev.get .COUR_L_RX_OK_COUNT n) 1 ∧
      (s.dev.rxSlots n false ≠ [] → (∀ q ∈ s.dev.dupes, q.lane ≠ n ∨ q.id ≠ bitsOf h 9 0) →
        e.get .COUR_L_EVENTS_RX_MSG n = 1 ∧ ∃ k ∈ s.dev.rxSlots n false,
          e.get .COUR_RX_STATUS_FULL n = s.dev.get .COUR_RX_STATUS_FULL n ||| 2 ^ k ∧
          e.get .COUR_RX_DESC0_ID (4 * n + k) = bitsOf h 9 0 ∧ e.get .COUR_RX_DESC0_LEN (4 * n + k) = bitsOf h 23 12 ∧
          e.cmem.readBytes (rxBuf n k) (bitsOf h 23 12) = p.1)) := by
  have hpay : ((List.range (bitsOf h 23 12)).map fun i => p.1.getD i 0) = p.1 := by
    rw [hp]
    exact streamBytes_getD ..
  have hlen : p.1.length = bitsOf h 23 12 := by
    rw [hp]
    simp [streamBytes]
  have hrun : exec (.payloadReceived n rx) s = s.run fun d => d.payload n
      (streamBytes (bitsOf (d.get .X_COUR_RX_HEADER n) 23 12) (d.payloadDemod n rx).bits).1
      (streamBytes (bitsOf (d.get .X_COUR_RX_HEADER n) 23 12) (d.payloadDemod n rx).bits).2
      ((d.payloadDemod n rx).mse (d.usedCarriers n)) := rfl
  have hbody : s.found.payload n p.1 p.2 ((s.found.payloadDemod n rx).mse (s.found.usedCarriers n)) =
      if crc32 (leBytes 4 h ++ p.1) = p.2 then
        ((((s.found.measure n ((s.found.payloadDemod n rx).mse (s.found.usedCarriers n))).set .COUR_L_STATUS_RX_STATE n crIDLE).addSat
          .COUR_L_RX_OK_COUNT n 1).deliver n h p.1)
      else (((s.found.measure n ((s.found.payloadDemod n rx).mse (s.found.usedCarriers n))).set .COUR_L_STATUS_RX_STATE n crIDLE).addSat
          .COUR_L_RX_CRC_ERR_COUNT n 1) := by
    unfold Dev.payload
    rw [if_pos (show s.found.get .COUR_L_STATUS_RX_STATE n = crPAYLOAD from hst), show s.found.get .X_COUR_RX_HEADER n = h from hh.symm]
    dsimp only
    rw [hpay]
  have hmeas := s.found.measure_only n ((s.found.payloadDemod n rx).mse (s.found.usedCarriers n))
  have hidle := Dev.get_set_same (s.found.measure n ((s.found.payloadDemod n rx).mse (s.found.usedCarriers n)))
    .COUR_L_STATUS_RX_STATE n crIDLE
  have hb : Dev.Only (fun f _ => f ∈ .COUR_L_STATUS_RX_STATE :: measureFields) s.found
      ((s.found.measure n ((s.found.payloadDemod n rx).mse (s.found.usedCarriers n))).set .COUR_L_STATUS_RX_STATE n crIDLE) :=
    (hmeas.mono fun f _ hf => List.mem_cons_of_mem _ hf).set _ (List.mem_cons_self ..)
  generalize (s.found.measure n ((s.found.payloadDemod n rx).mse (s.found.usedCarriers n))).set .COUR_L_STATUS_RX_STATE n crIDLE = b
    at hbody hidle hb
  have hgo : ∀ {P : Dev → Prop} {f : Dev}, s.found.payload n p.1 p.2 ((s.found.payloadDemod n rx).mse (s.found.usedCarriers n)) = f →
      P f → Completes (.payloadReceived n rx) s P := fun {P f} hf hP => by
    refine .runAs hrun fun e he => ?_
    rw [show s.found.get .X_COUR_RX_HEADER n = h from hh.symm, show s.found.payloadDemod n rx = s.dev.payloadDemod n rx from rfl, ← hp] at he
    exact (he.trans hf) ▸ hP
  refine ⟨fun hbad => hgo (hbody.trans (if_neg hbad)) ⟨?_, ?_⟩, fun hok => hgo (hbody.trans (if_pos hok)) ?_⟩
  · exact (Dev.get_set_field _ _ _ _ (by decide)).trans hidle
  · refine (Dev.get_set_same ..).trans ?_
    rw [hb.keeps _ _]
    rfl
  · have hkeep := (b.addSat .COUR_L_RX_OK_COUNT n 1).deliver_keeps n h p.1
    refine ⟨(hkeep _ (by decide) n).trans ((Dev.get_set_field _ _ _ _ (by decide)).trans hidle), ?_, fun hfree hdup => ?_⟩
    · refine (hkeep _ (by decide) n).trans ((Dev.get_set_same ..).trans ?_)
      rw [hb.keeps _ _]
      rfl
    · have hfull : (b.addSat .COUR_L_RX_OK_COUNT n 1).get .COUR_RX_STATUS_FULL n = s.dev.get .COUR_RX_STATUS_FULL n :=
        (Dev.get_set_field _ _ _ _ (by decide)).trans (hb.keeps _ _)
      have hslots : (b.addSat .COUR_L_RX_OK_COUNT n 1).rxSlots n false = s.dev.rxSlots n false := by
        unfold Dev.rxSlots
        rw [hfull]
      have hdupes : (b.addSat .COUR_L_RX_OK_COUNT n 1).dupes = s.dev.dupes := by
        show b.dupes = _
        rw [hb.1]
        rfl
      have h := Dev.deliver_fills hlen (hslots ▸ hfree) (hdupes ▸ hdup) rfl
      rw [hslots, hfull] at h
      exact h

end

/-! ## The release of slots -/

/-- R284: the round of a slot that is released. -/
def releaseSlot (n : Nat) (slots : Nat) (k : Nat) (d : Dev) : Dev :=
  if bitAt slots k && bitAt (d.get .COUR_RX_STATUS_FULL n) k then
    (d.set .COUR_RX_STATUS_FULL n (clearBit (d.get .COUR_RX_STATUS_FULL n) k)).stampSlot n k
  else d

theorem releaseSlot_full (n slots k j : Nat) (d : Dev) : bitAt ((releaseSlot n slots k d).get .COUR_RX_STATUS_FULL n) j =
    (bitAt (d.get .COUR_RX_STATUS_FULL n) j && !(decide (j = k) && bitAt slots k)) := by
  unfold releaseSlot
  split
  · next h =>
    rw [Bool.and_eq_true] at h
    rw [(Dev.stampSlot_only _ n k).keeps _ _, Dev.get_set_same, bitAt_clearBit_iff, h.1]
    by_cases hj : j = k <;> simp [hj]
  · next h =>
    by_cases hj : j = k
    · subst hj
      cases hb : bitAt (d.get .COUR_RX_STATUS_FULL n) j <;> cases hs : bitAt slots j <;> simp_all
    · simp [hj]

theorem courierRxRelease_frees (n : Fin 64) (slots : BitVec 4) (s : State) : Completes (.courierRxRelease n slots) s fun e => ∀ k < 4,
    bitAt (e.get .COUR_RX_STATUS_FULL n) k = (bitAt (s.dev.get .COUR_RX_STATUS_FULL n) k && !bitAt slots.toNat k) := by
  refine .runAs (rfl : _ = execCourierRxRelease n slots s) fun e he => ?_
  replace he : e = (Dev.each 4 (releaseSlot n slots.toNat) s.found).showOldest n := he
  intro k hk
  rw [he, (Dev.showOldest_only _ n).2 _ _ (show ¬ (F.COUR_RX_STATUS_FULL = .COUR_RX_STATUS_OLDEST) by decide)]
  have hloop : ∀ m, bitAt ((Dev.each m (releaseSlot n slots.toNat) s.found).get .COUR_RX_STATUS_FULL n) k =
      (bitAt (s.dev.get .COUR_RX_STATUS_FULL n) k && !(decide (k < m) && bitAt slots.toNat k)) := by
    intro m
    induction m with
    | zero =>
      rw [show decide (k < 0) = false by simp, Bool.false_and, Bool.not_false, Bool.and_true]
      rfl
    | succ m ih =>
      rw [Dev.each_succ, releaseSlot_full, ih]
      by_cases hkm : k = m
      · subst hkm
        simp
      · rw [show decide (k < m + 1) = decide (k < m) by simp; omega]
        simp [hkm]
  rw [hloop 4]
  simp [hk]

/-- Settles O48: the points of a constellation, preambles, headers and payloads, and the release of receive slots. -/
theorem courierReception : Obligations.CourierReception := by
  intro n s st up
  refine ⟨carrierPoint_decided, fun m1 m2 pwr p0 p1 => ⟨preambleDetect_ignored, fun hm hst => ?_⟩, fun rx hhead =>
    headerReceived_judges hhead, fun rx hpay => ⟨?_, fun hcrc => ?_⟩, fun slots => courierRxRelease_frees n slots s⟩
  · obtain ⟨t, hrun, hpend, hget, hchan⟩ := preambleDetect_found (n := n) (pwr := pwr) (p0 := p0) (p1 := p1) hm
    obtain ⟨h1, h2, h3, h4, h5, h6⟩ := s.found.preamble_shows n pwr.toNat hst rfl
    refine ⟨t, hrun, hpend, (hget _ _).trans h1, (hget _ _).trans h2, fun h => ⟨(hget _ _).trans (h3 h).1, (hget _ _).trans (h3 h).2, hchan h⟩,
      fun h => (hget _ _).trans (h4 h), fun ha hb hc => ⟨(hget _ _).trans (h5 ha hb hc).1, (hget _ _).trans (h5 ha hb hc).2⟩,
      fun ha hb => ⟨(hget _ _).trans (h6 ha hb).1, (hget _ _).trans (h6 ha hb).2⟩⟩
  · exact (payloadReceived_ends hpay rfl rfl).1
  · obtain ⟨t, hrun, hpend, h1, h2, h3⟩ := (payloadReceived_ends hpay rfl rfl).2 hcrc
    exact ⟨t, hrun, hpend, h1, h2, fun _ => h3⟩

end Sys2Proof.Machine
end

section
/-! PROOFS. Zero scale of a bias channel and its causes (R360 to R363, R563). -/

-- One theorem at a time: the whole text is compiled under a memory limit, which the stacks of waiting threads would fill.
set_option Elab.async false

namespace Sys2Proof.Machine

open Sys2Proof

/-! ## The line of a tile's bias events -/

/-- R367: an event bit that is set drives the line of the tile's BIAS_EVENT. -/
theorem Dev.syncBias_line {d : Dev} {i : Nat} {f : F} (hf : f ∈ biasEvents) (h : d.get f i = 1) :
    (d.syncBias (biasTile i)).get .PH_SRC_LINE (640 + 16 * biasTile i + 13) = 1 := by
  have hix : 40 * biasTile i + i % 40 = i := Nat.div_add_mod i 40
  have hany : ((List.range 40).any fun c => d.any biasEvents (40 * biasTile i + c)) = true :=
    List.any_eq_true.mpr ⟨i % 40, List.mem_range.mpr (Nat.mod_lt _ (by decide)), List.any_eq_true.mpr ⟨f, hf, by rw [hix, h]; rfl⟩⟩
  unfold Dev.syncBias
  rw [setLine_line, hany]
  rfl

theorem Dev.syncBias_get (d : Dev) (t : Nat) {f : F} (i : Nat) (h : f ∉ signalFields) : (d.syncBias t).get f i = d.get f i :=
  setLine_get _ _ _ _ _ h

/-- An event of a channel: it is shown, and no more changes but the line. -/
theorem Dev.biasEvent_shows {L : List F} {i : Nat} {d b : Dev} (h : Dev.OnlyAt L i d b) (f : F) (t : Nat)
    (hL : f ∈ L := by decide) (hs : f ∉ signalFields := by decide) :
    ((b.set f i 1).syncBias t).get f i = 1 ∧ Dev.OnlyRaisingAt L i d ((b.set f i 1).syncBias t) :=
  ⟨(Dev.syncBias_get _ _ _ hs).trans (Dev.get_set_same ..), Dev.OnlyRaising.setLine _ _ (Dev.Only.raising (h.write f 1 hL))⟩

/-! ## A channel that enters ZERO -/

/-- R362: what a channel that enters ZERO shows. -/
theorem Dev.enterZero_shows (d : Dev) (i : Nat) {e : Dev} (he : e = d.enterZero i) :
    e.bc i = bcZERO ∧ e.get .BIAS_C_LIVE_LIVE i = 0 ∧ e.get .BIAS_C_EVENTS_ZEROED i = 1 ∧
      e.get .BIAS_C_STATUS_ZERO_CAUSE i = d.get .BIAS_C_STATUS_ZERO_CAUSE i ∧ Dev.Raised (640 + 16 * biasTile i + 12) d e := by
  unfold Dev.enterZero Dev.raiseTile at he
  have hz : ∀ f ∈ [F.BIAS_C_LIVE_LIVE, .X_BIAS_SINE, .X_BIAS_HOLD, .X_BIAS_ACC, .X_BIAS_CORR], (d.zeroScale i).get f i = 0 :=
    fun f hf => Dev.setAll_get_of_mem _ _ _ hf
  have hk : ∀ f j, f ∉ [F.BIAS_C_LIVE_LIVE, .X_BIAS_SINE, .X_BIAS_HOLD, .X_BIAS_ACC, .X_BIAS_CORR] →
      (d.zeroScale i).get f j = d.get f j := fun f j hf => Dev.setAll_get_field _ _ _ _ hf
  have hp : (d.zeroScale i).pending = d.pending := Dev.setAll_pending ..
  generalize d.zeroScale i = b at he hz hk hp
  subst he
  refine ⟨?_, ?_, ?_, ?_, ?_⟩
  · exact (raise_get _ _ _ _ (by decide)).trans ((Dev.get_set_field _ _ _ _ (by decide)).trans (Dev.get_set_same ..))
  · rw [raise_get _ _ _ _ (by decide), Dev.get_set_field _ _ _ _ (by decide), Dev.get_set_field _ _ _ _ (by decide)]
    exact hz _ (by decide)
  · exact (raise_get _ _ _ _ (by decide)).trans (Dev.get_set_same ..)
  · rw [raise_get _ _ _ _ (by decide), Dev.get_set_field _ _ _ _ (by decide), Dev.get_set_field _ _ _ _ (by decide)]
    exact hk _ _ (by decide)
  · refine .after hp ?_ (Nat.succ_ne_zero _)
    rw [Dev.get_set_field _ _ _ _ (by decide), Dev.get_set_field _ _ _ _ (by decide)]
    exact hk _ _ (by decide)

/-- R360, R362: a cause that latches on an enabled channel. -/
theorem Dev.latchZero_shows {d : Dev} {b i : Nat} (hon : d.biasOn i = true) (hbc : d.bc i ≠ bcDISABLED) {e : Dev}
    (he : e = Dev.latchZero b i d) :
    e.get .BIAS_C_STATUS_ZERO_CAUSE i = d.get .BIAS_C_STATUS_ZERO_CAUSE i ||| 2 ^ b ∧
      (d.bc i = bcTRACK → e.bc i = bcZERO ∧ e.get .BIAS_C_LIVE_LIVE i = 0 ∧ Dev.Raised (640 + 16 * biasTile i + 12) d e) := by
  have hcond : (d.biasOn i && d.bc i != bcDISABLED) = true := by rw [hon, bne_iff_ne.mpr hbc]; rfl
  unfold Dev.latchZero at he
  replace he := he.trans (if_pos hcond)
  dsimp only at he
  have hst : (d.orBits .BIAS_C_STATUS_ZERO_CAUSE i (2 ^ b)).bc i = d.bc i := Dev.get_set_field _ _ _ _ (by decide)
  have hcause : (d.orBits .BIAS_C_STATUS_ZERO_CAUSE i (2 ^ b)).get .BIAS_C_STATUS_ZERO_CAUSE i =
      d.get .BIAS_C_STATUS_ZERO_CAUSE i ||| 2 ^ b := Dev.get_set_same ..
  have hocc : (d.orBits .BIAS_C_STATUS_ZERO_CAUSE i (2 ^ b)).get .PH_SRC_OCCUR (640 + 16 * biasTile i + 12) =
      d.get .PH_SRC_OCCUR (640 + 16 * biasTile i + 12) := Dev.get_set_field _ _ _ _ (by decide)
  have hpend : (d.orBits .BIAS_C_STATUS_ZERO_CAUSE i (2 ^ b)).pending = d.pending := rfl
  generalize d.orBits .BIAS_C_STATUS_ZERO_CAUSE i (2 ^ b) = c at he hst hcause hocc hpend
  by_cases htrack : d.bc i = bcTRACK
  · obtain ⟨h1, h2, -, h4, h5⟩ := c.enterZero_shows i (he.trans (if_pos (hst.trans htrack)))
    refine ⟨h4.trans hcause, fun _ => ⟨h1, h2, ?_⟩⟩
    rwa [Dev.Raised, hpend, hocc] at h5
  · rw [he.trans (if_neg fun h => htrack (hst.symm.trans h))]
    exact ⟨hcause, fun h => (htrack h).elim⟩

/-! ## Forced zero and overload -/

theorem Dev.zeroHolds_laser (d : Dev) (i : Nat) : d.zeroHolds i 0 = !d.on .SYS_LS_STATUS_PRESENT (biasEngine i) := rfl

/-- R563: the cause that an absent laser source adds. -/
theorem Dev.restartCause_get (d : Dev) (i : Nat) :
    (d.restartCause i).get .BIAS_C_STATUS_ZERO_CAUSE i = d.get .BIAS_C_STATUS_ZERO_CAUSE i |||
      (if d.get .BIAS_C_CFG_ZERO_ON_LS i = 1 ∧ d.get .SYS_LS_STATUS_PRESENT (biasEngine i) ≠ 1 then 1 else 0) := by
  have hiff : (d.on .BIAS_C_CFG_ZERO_ON_LS i && d.zeroHolds i 0) = true ↔
      d.get .BIAS_C_CFG_ZERO_ON_LS i = 1 ∧ d.get .SYS_LS_STATUS_PRESENT (biasEngine i) ≠ 1 := by
    rw [Dev.zeroHolds_laser, Bool.and_eq_true, Bool.not_eq_true', Dev.on, Dev.on, beq_iff_eq, beq_eq_false_iff_ne]
  unfold Dev.restartCause
  by_cases h : d.get .BIAS_C_CFG_ZERO_ON_LS i = 1 ∧ d.get .SYS_LS_STATUS_PRESENT (biasEngine i) ≠ 1
  · rw [if_pos (hiff.mpr h), if_pos h]
    exact Dev.get_set_same ..
  · rw [if_neg (mt hiff.mp h), if_neg h, Nat.or_zero]

theorem Dev.restartCause_only (d : Dev) (i : Nat) : Dev.OnlyAt [.BIAS_C_STATUS_ZERO_CAUSE] i d (d.restartCause i) := by
  unfold Dev.restartCause
  split
  · exact Dev.OnlyAt.write (.refl _ d) _ _
  · exact .refl _ d

theorem Dev.restartCause_of_zero {d : Dev} {i : Nat} (h : (d.restartCause i).get .BIAS_C_STATUS_ZERO_CAUSE i = 0) :
    d.restartCause i = d := by
  rw [Dev.restartCause_get] at h
  have h1 : ¬ (d.on .BIAS_C_CFG_ZERO_ON_LS i && d.zeroHolds i 0) = true := by
    intro hc
    rw [Dev.zeroHolds_laser, Bool.and_eq_true, Bool.not_eq_true', Dev.on, Dev.on, beq_iff_eq, beq_eq_false_iff_ne] at hc
    rw [if_pos hc] at h
    exact absurd (Nat.or_eq_zero_iff.mp h).2 (by decide)
  exact if_neg h1

theorem forcedZeroEnd_ends {x : Fin 160} {s : State} (hbc : s.dev.bc (biasIx x) = bcFORCED)
    (hclk : s.dev.get .X_BIAS_FZ_CLK (biasIx x) + 20 * us ≤ s.dev.clk) :
    let i := biasIx x
    let cause := s.dev.get .BIAS_C_STATUS_ZERO_CAUSE i ||| (if s.dev.get .BIAS_C_CFG_ZERO_ON_LS i = 1 ∧
      s.dev.get .SYS_LS_STATUS_PRESENT (biasEngine i) ≠ 1 then 1 else 0)
    (cause = 0 → Completes (.forcedZeroEnd x) s fun e => e.bc i = bcTRACK ∧ Dev.OnlyAt [.BIAS_C_STATUS_STATE] i s.dev e) ∧
    (cause ≠ 0 → Completes (.forcedZeroEnd x) s fun e => e.bc i = bcZERO ∧ e.get .BIAS_C_STATUS_ZERO_CAUSE i = cause ∧
      e.get .BIAS_C_LIVE_LIVE i = 0 ∧ e.get .BIAS_C_EVENTS_ZEROED i = 1 ∧ Dev.Raised (640 + 16 * biasTile i + 12) s.dev e) := by
  intro i cause
  have hget : (s.found.restartCause i).get .BIAS_C_STATUS_ZERO_CAUSE i = cause := Dev.restartCause_get _ _
  have hfork : ∀ {P : Dev → Prop}, (∀ e, e = Dev.leaveForced i s.found → P e) → Completes (.forcedZeroEnd x) s P := fun hp =>
    .runIf (rfl : _ = execForcedZeroEnd x s) hbc fun e he => hp e (he.trans (Dev.onTime_of_le hclk))
  refine ⟨fun h0 => hfork fun e he => ?_, fun h0 => hfork fun e he => ?_⟩
  · replace he := he.trans (if_pos (hget.trans h0))
    rw [Dev.restartCause_of_zero (hget.trans h0)] at he
    rw [he]
    exact ⟨Dev.get_set_same .., Dev.Only.ofFound (Dev.OnlyAt.write (.refl _ _) _ _)⟩
  · replace he := he.trans (if_neg fun h => h0 (hget.symm.trans h))
    obtain ⟨h1, h2, h3, h4, h5⟩ := Dev.enterZero_shows _ i he
    have honly := Dev.restartCause_only s.found i
    refine ⟨h1, h4.trans hget, h2, h3, ?_⟩
    have hpend : (s.found.restartCause i).pending = s.dev.pending := by rw [honly.1]; rfl
    rw [Dev.Raised, hpend, honly.2 .PH_SRC_OCCUR _ (fun h => absurd h.2 (by decide))] at h5
    exact h5

theorem biasOverload_latches {x : Fin 160} {s : State} (hf : s.dev.get .BIAS_C_CFG_FUNCTION (biasIx x) ≠ 1)
    (hon : s.dev.biasOn (biasIx x) = true) (hbc : s.dev.bc (biasIx x) = bcTRACK) :
    Completes (.biasOverload x) s fun e => e.bc (biasIx x) = bcZERO ∧ e.get .BIAS_C_LIVE_LIVE (biasIx x) = 0 ∧
      e.get .BIAS_C_STATUS_ZERO_CAUSE (biasIx x) = s.dev.get .BIAS_C_STATUS_ZERO_CAUSE (biasIx x) ||| 2 ∧
      Dev.Raised (640 + 16 * biasTile (biasIx x) + 12) s.dev e ∧
      Dev.OnlyRaisingAt [.BIAS_C_STATUS_ZERO_CAUSE, .BIAS_C_LIVE_LIVE, .X_BIAS_SINE, .X_BIAS_HOLD, .X_BIAS_ACC,
        .X_BIAS_CORR, .BIAS_C_STATUS_STATE, .BIAS_C_EVENTS_ZEROED] (biasIx x) s.dev e := by
  refine .runElse (rfl : _ = execBiasOverload x s) (fun h => hf (beq_iff_eq.mp h)) fun e he => ?_
  have hne : s.dev.bc (biasIx x) ≠ bcDISABLED := by rw [hbc]; decide
  obtain ⟨h1, h2⟩ := Dev.latchZero_shows (d := s.found) hon hne he
  obtain ⟨h3, h4, h5⟩ := h2 hbc
  refine ⟨h3, h4, h1, h5, ?_⟩
  rw [he]
  exact Dev.OnlyRaising.ofFound ((Dev.latchZero_only 1 (biasIx x) s.found).mono fun f j hj =>
    ⟨hj.1, (by decide : ∀ f ∈ zeroFields, f ∈ [F.BIAS_C_STATUS_ZERO_CAUSE, .BIAS_C_LIVE_LIVE, .X_BIAS_SINE, .X_BIAS_HOLD,
      .X_BIAS_ACC, .X_BIAS_CORR, .BIAS_C_STATUS_STATE, .BIAS_C_EVENTS_ZEROED]) f hj.2⟩)

theorem compliance_shown {x : Fin 160} {s : State} (out : Bool) (hon : s.dev.biasOn (biasIx x) = true)
    (hf : s.dev.get .BIAS_C_CFG_FUNCTION (biasIx x) = 1) :
    Completes (.compliance x out) s fun e => e.get .BIAS_C_STATUS_COMPLIANCE (biasIx x) = b2n out ∧
      (out = true → s.dev.get .BIAS_C_STATUS_COMPLIANCE (biasIx x) ≠ 1 →
        e.get .BIAS_C_EVENTS_COMPLIANCE (biasIx x) = 1 ∧ e.get .PH_SRC_LINE (640 + 16 * biasTile (biasIx x) + 13) = 1) := by
  have hcond : (s.dev.biasOn (biasIx x) && s.dev.on .BIAS_C_CFG_FUNCTION (biasIx x)) = true := by
    rw [hon, Dev.on, hf]
    rfl
  refine .runIf (rfl : _ = execCompliance x out s) hcond fun e he => ?_
  dsimp only at he
  by_cases hout : (out && !s.dev.on .BIAS_C_STATUS_COMPLIANCE (biasIx x)) = true
  · rw [he.trans (if_pos hout)]
    refine ⟨?_, fun _ _ => ⟨?_, ?_⟩⟩
    · rw [Dev.syncBias_get _ _ _ (by decide), Dev.get_set_field _ _ _ _ (by decide)]
      exact Dev.get_set_same ..
    · exact (Dev.syncBias_get _ _ _ (by decide)).trans (Dev.get_set_same ..)
    · exact Dev.syncBias_line (f := .BIAS_C_EVENTS_COMPLIANCE) (by decide) (Dev.get_set_same ..)
  · rw [he.trans (if_neg hout)]
    refine ⟨Dev.get_set_same .., fun ho hc => (hout ?_).elim⟩
    rw [ho, Dev.on, beq_eq_false_iff_ne.mpr hc]
    rfl

/-! ## Release -/

theorem biasRelease_returns {x : Fin 160} {s : State} (hbc : s.dev.bc (biasIx x) = bcZERO)
    (hfree : ∀ b < 5, bitAt (s.dev.get .BIAS_C_STATUS_ZERO_CAUSE (biasIx x)) b = true → s.dev.zeroHolds (biasIx x) b = false) :
    Completes (.biasRelease x) s fun e => e.bc (biasIx x) = bcTRACK ∧ e.get .BIAS_C_STATUS_ZERO_CAUSE (biasIx x) = 0 ∧
      Dev.OnlyAt [.BIAS_C_STATUS_STATE, .BIAS_C_STATUS_ZERO_CAUSE] (biasIx x) s.dev e := by
  refine .runIf (rfl : _ = execBiasRelease x s) hbc fun e he => ?_
  have hnone : ¬ ((List.range 5).any fun b => bitAt (s.dev.get .BIAS_C_STATUS_ZERO_CAUSE (biasIx x)) b &&
      s.dev.zeroHolds (biasIx x) b) = true := by
    intro h
    obtain ⟨b, hb, hboth⟩ := List.any_eq_true.mp h
    obtain ⟨h1, h2⟩ := Bool.and_eq_true_iff.mp hboth
    exact Bool.false_ne_true ((hfree b (List.mem_range.mp hb) h1).symm.trans h2)
  dsimp only at he
  rw [he.trans (if_neg hnone)]
  refine ⟨Dev.get_set_same .., ?_, Dev.Only.ofFound (Dev.OnlyAt.write (Dev.OnlyAt.write (.refl _ _) _ _) _ _)⟩
  exact (Dev.get_set_field _ _ _ _ (by decide)).trans (Dev.get_set_same ..)

theorem biasRelease_refused {x : Fin 160} {s : State} (hbc : s.dev.bc (biasIx x) = bcZERO)
    (hheld : ∃ b < 5, bitAt (s.dev.get .BIAS_C_STATUS_ZERO_CAUSE (biasIx x)) b = true ∧ s.dev.zeroHolds (biasIx x) b = true) :
    Completes (.biasRelease x) s fun e => e.bc (biasIx x) = bcZERO ∧ e.get .BIAS_C_EVENTS_RELEASE_REFUSED (biasIx x) = 1 ∧
      Dev.OnlyRaisingAt [.BIAS_C_EVENTS_RELEASE_REFUSED] (biasIx x) s.dev e := by
  refine .runIf (rfl : _ = execBiasRelease x s) hbc fun e he => ?_
  obtain ⟨b, hb, hbit, hholds⟩ := hheld
  have hany : ((List.range 5).any fun b => bitAt (s.dev.get .BIAS_C_STATUS_ZERO_CAUSE (biasIx x)) b &&
      s.dev.zeroHolds (biasIx x) b) = true :=
    List.any_eq_true.mpr ⟨b, List.mem_range.mpr hb, Bool.and_eq_true_iff.mpr ⟨hbit, hholds⟩⟩
  dsimp only at he
  obtain ⟨h1, h2⟩ := Dev.biasEvent_shows (L := [.BIAS_C_EVENTS_RELEASE_REFUSED]) (i := biasIx x) (.refl _ s.found)
    .BIAS_C_EVENTS_RELEASE_REFUSED (biasTile (biasIx x))
  rw [← show e = _ from he.trans (if_pos hany)] at h1 h2
  exact ⟨(h2.2 _ _ (fun h => absurd h.2 (by decide)) (by decide)).trans hbc, h1, h2.ofFound⟩

/-! ## VBIAS -/

/-- What latching a cause reads and writes of a channel. -/
def latchFields : List F := .BIAS_C_CFG_ENABLE :: zeroFields

theorem Dev.latchZero_steady (b i : Nat) (d : Dev) : Dev.Steady [] latchFields i [] d (Dev.latchZero b i d) := by
  unfold Dev.latchZero
  split
  · have h : Dev.Steady [] latchFields i [] d (d.orBits .BIAS_C_STATUS_ZERO_CAUSE i (2 ^ b)) := (Dev.Steady.refl d).own _ _
    dsimp only
    split
    · have hzero : Dev.Steady [] latchFields i [] d ((d.orBits .BIAS_C_STATUS_ZERO_CAUSE i (2 ^ b)).zeroScale i) :=
        h.trans (.ofOnly (Dev.zeroScale_only _ i) (fun _ hf => absurd hf List.not_mem_nil) (fun _ _ _ hj hp => hj hp.1)
          fun _ hp => absurd hp.2 (by decide))
      unfold Dev.enterZero Dev.raiseTile
      exact ((hzero.own .BIAS_C_STATUS_STATE _).own .BIAS_C_EVENTS_ZEROED _).raise _ (by decide)
    · exact h
  · exact .refl d

/-- R360: a cause that latches on every channel. -/
theorem Dev.latchZeros_shows {d : Dev} (b : Nat) {i : Nat} (hi : i < 160) (hon : d.biasOn i = true) (hbc : d.bc i ≠ bcDISABLED)
    {e : Dev} (he : e = d.latchZeros b fun _ => true) :
    e.get .BIAS_C_STATUS_ZERO_CAUSE i = d.get .BIAS_C_STATUS_ZERO_CAUSE i ||| 2 ^ b ∧
      (d.bc i = bcTRACK → e.bc i = bcZERO ∧ e.get .BIAS_C_LIVE_LIVE i = 0) := by
  obtain ⟨c, hc, hafter⟩ := Dev.forList_visits (g := fun i d => Dev.latchZero b i d) (fun y d => Dev.latchZero_steady b y d)
    List.nodup_range (List.mem_range.mpr hi) d
  have hsame : ∀ f ∈ latchFields, c.get f i = d.get f i := fun f hf => hc.2 f hf
  have hend : ∀ f ∈ latchFields, e.get f i = (Dev.latchZero b i c).get f i := by
    rw [he]
    exact fun f hf => hafter.2 f hf
  have hst : c.bc i = d.bc i := hsame _ (by decide)
  have hen : c.biasOn i = true := (congrArg (· == 1) (hsame .BIAS_C_CFG_ENABLE (by decide))).trans hon
  obtain ⟨h1, h2⟩ := Dev.latchZero_shows hen (hst ▸ hbc) (rfl : Dev.latchZero b i c = _)
  refine ⟨(hend _ (by decide)).trans (h1.trans (by rw [hsame _ (by decide)])), fun ht => ?_⟩
  obtain ⟨h3, h4, -⟩ := h2 (hst.trans ht)
  exact ⟨(hend .BIAS_C_STATUS_STATE (by decide)).trans h3, (hend _ (by decide)).trans h4⟩

theorem Dev.setVbias_get (d : Dev) (ok : Bool) {f : F} (i : Nat) (h1 : f ≠ .BIAS_T_TIMER_VBIAS_OK) (h2 : f ∉ followFields) :
    (d.setVbias ok).get f i = d.get f i :=
  (Dev.each_keeps (fun e => e.get f i) (fun n _ e => (e.syncTx_only n).2 f i fun h => h2 h.2) _).trans
    (Dev.setEach_get_field _ _ _ _ h1)

theorem Dev.setVbias_ok (d : Dev) (ok : Bool) {t : Nat} (ht : t < 4) : (d.setVbias ok).get .BIAS_T_TIMER_VBIAS_OK t = b2n ok :=
  (Dev.each_keeps (fun e => e.get .BIAS_T_TIMER_VBIAS_OK t) (fun n _ e => (e.syncTx_only n).2 _ t fun h => absurd h.2 (by decide)) _).trans
    (Dev.setEach_get_of_mem _ _ (List.mem_range.mpr ht))

theorem vbiasLow_latches (s : State) : Completes .vbiasLow s fun e => (∀ t < 4, e.get .BIAS_T_TIMER_VBIAS_OK t = 0) ∧
    ∀ i < 160, s.dev.biasOn i = true → s.dev.bc i ≠ bcDISABLED →
      e.get .BIAS_C_STATUS_ZERO_CAUSE i = s.dev.get .BIAS_C_STATUS_ZERO_CAUSE i ||| 4 ∧
      (s.dev.bc i = bcTRACK → e.bc i = bcZERO ∧ e.get .BIAS_C_LIVE_LIVE i = 0) := by
  refine .runAs (rfl : _ = execVbiasLow s) fun e he => ?_
  rw [he]
  refine ⟨fun t ht => Dev.setVbias_ok _ _ ht, fun i hi hon hbc => ?_⟩
  obtain ⟨h1, h2⟩ := Dev.latchZeros_shows (d := s.found) 2 hi hon hbc rfl
  have hkeep : ∀ f ∈ zeroFields, f ≠ .BIAS_T_TIMER_VBIAS_OK ∧ f ∉ followFields := by decide
  have hget : ∀ f ∈ zeroFields, ((s.found.latchZeros 2 fun _ => true).setVbias false).get f i =
      (s.found.latchZeros 2 fun _ => true).get f i := fun f hf => Dev.setVbias_get _ _ _ (hkeep f hf).1 (hkeep f hf).2
  refine ⟨(hget _ (by decide)).trans h1, fun ht => ?_⟩
  obtain ⟨h3, h4⟩ := h2 ht
  exact ⟨(hget .BIAS_C_STATUS_STATE (by decide)).trans h3, (hget _ (by decide)).trans h4⟩

/-- Settles O54: forced zero, overload, compliance, release, and the loss and return of VBIAS. -/
theorem biasZeroScale : Obligations.BiasZeroScale := by
  refine fun s => ⟨fun x => ⟨forcedZeroEnd_ends, biasOverload_latches, fun hf => ?_, compliance_shown,
    fun hbc => ⟨biasRelease_returns hbc, biasRelease_refused hbc⟩⟩, vbiasLow_latches s, ?_⟩
  · exact .runIf (rfl : _ = execBiasOverload x s) (beq_iff_eq.mpr hf) fun e he => he
  · refine .runAs (rfl : _ = execVbiasRecovered s) fun e he => ?_
    rw [he]
    exact ⟨fun t ht => Dev.setVbias_ok _ _ ht, fun i _ => Dev.setVbias_get _ _ _ (by decide) (by decide)⟩

end Sys2Proof.Machine
end

section
/-! PROOFS. Bias targets, update triggers of the tile timers, trims and held codes (R348 to R355, R368). -/

-- One theorem at a time: the whole text is compiled under a memory limit, which the stacks of waiting threads would fill.
set_option Elab.async false

namespace Sys2Proof.Machine

open Sys2Proof

/-! ## Driver writes of a target (R348 to R350) -/

theorem Dev.clampTarget_congr {d e : Dev} {i : Nat} (v : Nat)
    (h : ∀ f ∈ [F.BIAS_C_CFG_ENABLE, .BIAS_C_LIMIT_LO, .BIAS_C_LIMIT_HI], e.get f i = d.get f i) : e.clampTarget i v = d.clampTarget i v := by
  have hon : e.biasOn i = d.biasOn i := congrArg (· == 1) (h .BIAS_C_CFG_ENABLE (by decide))
  have hlo : e.biasLo i = d.biasLo i := h _ (by decide)
  have hhi : e.biasHi i = d.biasHi i := h _ (by decide)
  unfold Dev.clampTarget
  rw [hon, hlo, hhi]

/-- R348: what a target that is put shows. -/
theorem Dev.putTarget_shows (d : Dev) (i v : Nat) {e : Dev} (he : e = d.putTarget i v) :
    e.get .BIAS_C_TARGET_TARGET i = d.clampTarget i v ∧
      (d.clampTarget i v = v → e = d.set .BIAS_C_TARGET_TARGET i v) ∧
      (d.clampTarget i v ≠ v → e.get .BIAS_C_EVENTS_LIMIT_CLAMP i = 1) ∧
      Dev.OnlyRaisingAt [.BIAS_C_TARGET_TARGET, .BIAS_C_EVENTS_LIMIT_CLAMP] i d e := by
  unfold Dev.putTarget at he
  dsimp only at he
  have hset : Dev.OnlyAt [F.BIAS_C_TARGET_TARGET, .BIAS_C_EVENTS_LIMIT_CLAMP] i d (d.set .BIAS_C_TARGET_TARGET i (d.clampTarget i v)) :=
    Dev.OnlyAt.write (.refl _ d) _ _
  by_cases hv : d.clampTarget i v = v
  · rw [he.trans (if_pos hv)]
    exact ⟨Dev.get_set_same .., fun h => by rw [h], fun h => (h hv).elim, Dev.Only.raising hset⟩
  · obtain ⟨h1, h2⟩ := Dev.biasEvent_shows hset .BIAS_C_EVENTS_LIMIT_CLAMP (biasTile i)
    rw [he.trans (if_neg hv)]
    refine ⟨?_, fun h => (hv h).elim, fun _ => h1, h2⟩
    rw [Dev.syncBias_get _ _ _ (by decide), Dev.get_set_field _ _ _ _ (by decide)]
    exact Dev.get_set_same ..

/-- R349: the write is noted with its time and the target that stays in force until then. -/
def Dev.noteWrite (d : Dev) (i : Nat) : Dev := (d.set .X_BIAS_TOLD i (d.targetInForce i)).set .X_BIAS_TCLK i d.clk

theorem Dev.noteWrite_only (d : Dev) (i : Nat) : Dev.OnlyAt [.X_BIAS_TOLD, .X_BIAS_TCLK] i d (d.noteWrite i) :=
  ((Dev.Only.refl _ d).set _ ⟨rfl, by decide⟩).set _ ⟨rfl, by decide⟩

theorem Dev.noteWrite_clk (d : Dev) (i : Nat) : (d.noteWrite i).get .X_BIAS_TCLK i = d.clk := Dev.get_set_same ..

theorem Dev.noteWrite_clamp (d : Dev) (i v : Nat) : (d.noteWrite i).clampTarget i v = d.clampTarget i v :=
  Dev.clampTarget_congr v fun f hf => (d.noteWrite_only i).2 f i fun h =>
    (by decide : ∀ f ∈ [F.BIAS_C_CFG_ENABLE, .BIAS_C_LIMIT_LO, .BIAS_C_LIMIT_HI], f ∉ [F.X_BIAS_TOLD, .X_BIAS_TCLK]) f hf h.2

theorem biasTargetWrite_puts {x : Fin 160} {v : BitVec 16} {s : State}
    (hledg : s.dev.get .X_BIAS_LEDG (biasIx x) ≠ s.dev.clk + 1) {P : Dev → Prop}
    (hp : ∀ e, e = (s.found.noteWrite (biasIx x)).putTarget (biasIx x) v.toNat → P e) : Completes (.biasTargetWrite x v) s P := by
  refine .runAs (rfl : _ = execBiasTargetWrite x v s) fun e he => hp e (he.trans ?_)
  exact if_neg fun h => hledg (beq_iff_eq.mp h)

theorem biasTargetWrite_within {x : Fin 160} {v : BitVec 16} {s : State}
    (hledg : s.dev.get .X_BIAS_LEDG (biasIx x) ≠ s.dev.clk + 1) (hv : s.dev.clampTarget (biasIx x) v.toNat = v.toNat) :
    Completes (.biasTargetWrite x v) s fun e => e.get .BIAS_C_TARGET_TARGET (biasIx x) = v.toNat ∧
      e.get .X_BIAS_TCLK (biasIx x) = s.dev.clk ∧ Dev.OnlyAt [.BIAS_C_TARGET_TARGET, .X_BIAS_TCLK, .X_BIAS_TOLD] (biasIx x) s.dev e := by
  refine biasTargetWrite_puts hledg fun e he => ?_
  have hv' : (s.found.noteWrite (biasIx x)).clampTarget (biasIx x) v.toNat = v.toNat := (s.found.noteWrite_clamp _ _).trans hv
  obtain ⟨-, h2, -, -⟩ := Dev.putTarget_shows _ _ _ he
  rw [h2 hv']
  refine ⟨Dev.get_set_same .., (Dev.get_set_field _ _ _ _ (by decide)).trans (s.found.noteWrite_clk _), ?_⟩
  have honly : Dev.OnlyAt [.BIAS_C_TARGET_TARGET, .X_BIAS_TCLK, .X_BIAS_TOLD] (biasIx x) s.dev (s.found.noteWrite (biasIx x)) :=
    (Dev.Only.ofFound (s.found.noteWrite_only _)).mono fun f j hj =>
      ⟨hj.1, (by decide : ∀ f ∈ [F.X_BIAS_TOLD, .X_BIAS_TCLK], f ∈ [F.BIAS_C_TARGET_TARGET, .X_BIAS_TCLK, .X_BIAS_TOLD]) f hj.2⟩
  exact honly.write _ _

theorem biasTargetWrite_clamped {x : Fin 160} {v : BitVec 16} {s : State}
    (hledg : s.dev.get .X_BIAS_LEDG (biasIx x) ≠ s.dev.clk + 1) (hv : s.dev.clampTarget (biasIx x) v.toNat ≠ v.toNat) :
    Completes (.biasTargetWrite x v) s fun e =>
      e.get .BIAS_C_TARGET_TARGET (biasIx x) = s.dev.clampTarget (biasIx x) v.toNat ∧ e.get .BIAS_C_EVENTS_LIMIT_CLAMP (biasIx x) = 1 ∧
        Dev.OnlyRaisingAt [.BIAS_C_TARGET_TARGET, .X_BIAS_TCLK, .X_BIAS_TOLD, .BIAS_C_EVENTS_LIMIT_CLAMP] (biasIx x) s.dev e := by
  refine biasTargetWrite_puts hledg fun e he => ?_
  have hclamp := s.found.noteWrite_clamp (biasIx x) v.toNat
  obtain ⟨h1, -, h3, h4⟩ := Dev.putTarget_shows _ _ _ he
  rw [hclamp] at h1 h3
  refine ⟨h1, h3 hv, ?_⟩
  have hin : ∀ f, (f ∈ [F.X_BIAS_TOLD, .X_BIAS_TCLK] ∨ f ∈ [F.BIAS_C_TARGET_TARGET, .BIAS_C_EVENTS_LIMIT_CLAMP]) →
      f ∈ [F.BIAS_C_TARGET_TARGET, .X_BIAS_TCLK, .X_BIAS_TOLD, .BIAS_C_EVENTS_LIMIT_CLAMP] := by
    rintro f (hf | hf)
    · exact (by decide : ∀ f ∈ [F.X_BIAS_TOLD, .X_BIAS_TCLK], f ∈ [F.BIAS_C_TARGET_TARGET, .X_BIAS_TCLK, .X_BIAS_TOLD, .BIAS_C_EVENTS_LIMIT_CLAMP]) f hf
    · exact (by decide : ∀ f ∈ [F.BIAS_C_TARGET_TARGET, .BIAS_C_EVENTS_LIMIT_CLAMP], f ∈ [F.BIAS_C_TARGET_TARGET, .X_BIAS_TCLK, .X_BIAS_TOLD, .BIAS_C_EVENTS_LIMIT_CLAMP]) f hf
  have hnote : Dev.OnlyRaisingAt [.BIAS_C_TARGET_TARGET, .X_BIAS_TCLK, .X_BIAS_TOLD, .BIAS_C_EVENTS_LIMIT_CLAMP] (biasIx x)
      s.dev (s.found.noteWrite (biasIx x)) :=
    Dev.Only.raising ((Dev.Only.ofFound (s.found.noteWrite_only _)).mono fun f j hj => ⟨hj.1, hin f (.inl hj.2)⟩)
  exact Dev.OnlyRaising.trans hnote (h4.mono fun f j hj => ⟨hj.1, hin f (.inr hj.2)⟩)

theorem Dev.ledgerUndo_get (d : Dev) (i : Nat) {f : F} (j : Nat) (h : f ≠ .X_LG_B_DISP) : (d.ledgerUndo i).get f j = d.get f j := by
  refine Dev.each_keeps (fun e => e.get f j) (fun l _ e => Dev.each_keeps (fun e => e.get f j) (fun a _ e => ?_) e) d
  extract_lets ch
  split
  · exact Dev.get_set_field _ _ _ _ h
  · rfl

theorem biasTargetWrite_drops {x : Fin 160} {v : BitVec 16} {s : State}
    (hledg : s.dev.get .X_BIAS_LEDG (biasIx x) = s.dev.clk + 1) :
    Completes (.biasTargetWrite x v) s fun e =>
      e.get .BIAS_C_TARGET_TARGET (biasIx x) = s.dev.clampTarget (biasIx x) v.toNat ∧ e.get .BIAS_C_EVENTS_DROPPED (biasIx x) = 1 ∧
        e.get .BIAS_C_EVENTS_DROP_COUNT (biasIx x) =
          satAdd F.BIAS_C_EVENTS_DROP_COUNT.width (s.dev.get .BIAS_C_EVENTS_DROP_COUNT (biasIx x)) 1 := by
  refine .runAs (rfl : _ = execBiasTargetWrite x v s) fun e he => ?_
  have hclamp := s.found.noteWrite_clamp (biasIx x) v.toNat
  have hcount : (s.found.noteWrite (biasIx x)).get .BIAS_C_EVENTS_DROP_COUNT (biasIx x) = s.dev.get .BIAS_C_EVENTS_DROP_COUNT (biasIx x) :=
    (s.found.noteWrite_only _).2 _ _ fun h => absurd h.2 (by decide)
  obtain ⟨h1, -, -, h4⟩ := Dev.putTarget_shows (s.found.noteWrite (biasIx x)) (biasIx x) v.toNat rfl
  rw [hclamp] at h1
  replace hcount := (h4.2 .BIAS_C_EVENTS_DROP_COUNT (biasIx x) (fun h => absurd h.2 (by decide)) (by decide)).trans hcount
  replace he : e = _ := he.trans (if_pos (beq_iff_eq.mpr hledg))
  change e = (((((s.found.noteWrite (biasIx x)).putTarget (biasIx x) v.toNat).set .BIAS_C_EVENTS_DROPPED (biasIx x) 1).addSat
    .BIAS_C_EVENTS_DROP_COUNT (biasIx x) 1).set .X_BIAS_LEDG (biasIx x) 0 |>.ledgerUndo (biasIx x)).syncBias (biasTile (biasIx x)) at he
  generalize (s.found.noteWrite (biasIx x)).putTarget (biasIx x) v.toNat = b at he h1 hcount
  have hget : ∀ f j, f ≠ .X_LG_B_DISP → f ≠ .X_BIAS_LEDG → f ∉ signalFields → e.get f j =
      ((b.set .BIAS_C_EVENTS_DROPPED (biasIx x) 1).addSat .BIAS_C_EVENTS_DROP_COUNT (biasIx x) 1).get f j := fun f j hf1 hf2 hf3 => by
    rw [he, Dev.syncBias_get _ _ _ hf3, Dev.ledgerUndo_get _ _ _ hf1]
    exact Dev.get_set_field _ _ _ _ hf2
  refine ⟨?_, ?_, ?_⟩
  · rw [hget _ _ (by decide) (by decide) (by decide)]
    exact (Dev.get_set_field _ _ _ _ (by decide)).trans ((Dev.get_set_field _ _ _ _ (by decide)).trans h1)
  · rw [hget _ _ (by decide) (by decide) (by decide)]
    exact (Dev.get_set_field _ _ _ _ (by decide)).trans (Dev.get_set_same ..)
  · rw [hget _ _ (by decide) (by decide) (by decide)]
    refine (Dev.get_set_same ..).trans ?_
    rw [Dev.get_set_field _ _ _ _ (by decide), hcount]

/-! ## An update trigger of a channel (R352, R354, R355) -/

/-- What an update trigger of a channel reads and writes of it beside its sine. -/
def updateFields : List F := [.BIAS_C_CFG_TRIGGER, .BIAS_C_STATUS_STATE, .BIAS_C_CFG_SHAPE, .BIAS_C_CFG_STEP, .BIAS_C_LIVE_LIVE,
  .X_BIAS_TCLK, .X_BIAS_TOLD, .BIAS_C_TARGET_TARGET, .X_BIAS_CORR]

theorem Dev.Steady.lset {L N M : List F} {n : Nat} {d e : Dev} (h : Dev.Steady L N n M d e) (f : F) (i v : Nat)
    (hf : f ∉ M := by decide) : Dev.Steady L N n M d (e.lset f i v) := by
  have hk : Dev.Keeps [] M e (e.lset f i v) := (Dev.Keeps.refl e).lset i v hf
  exact h.trans ⟨fun _ _ _ => rfl, fun _ _ _ _ => rfl, hk.lget, fun _ hs => hs, rfl, .of_get fun _ => rfl⟩

theorem Dev.Steady.syncBias {L N M : List F} {n : Nat} {d e : Dev} (h : Dev.Steady L N n M d e) (t : Nat)
    (hs : ∀ f ∈ signalFields, f ∉ L ++ N := by decide) : Dev.Steady L N n M d (e.syncBias t) := h.setLine _ _ hs

theorem Dev.watchSine_steady (i : Nat) (d : Dev) : Dev.Steady (.X_PWR_LIVE :: updateFields) [] i [.CAL_TRIM_WORD] d (Dev.watchSine i d) := by
  have hseen : Dev.Steady (.X_PWR_LIVE :: updateFields) [] i [.CAL_TRIM_WORD] d (d.set .X_BIAS_SEEN i d.clk) := (Dev.Steady.refl d).write _ _ _
  unfold Dev.watchSine
  extract_lets p k0 bad b
  split
  · exact (hseen.write .BIAS_C_EVENTS_LIMIT_CLAMP i 1).syncBias _
  · exact hseen

theorem Dev.noteAcc_steady {i : Nat} {d e : Dev} (h : Dev.Steady (.X_PWR_LIVE :: updateFields) [] i [.CAL_TRIM_WORD] d e) :
    Dev.Steady (.X_PWR_LIVE :: updateFields) [] i [.CAL_TRIM_WORD] d (e.noteAcc i) := by
  unfold Dev.noteAcc
  extract_lets k
  exact (h.write .X_BIAS_ACC i _).write .X_BIAS_ACC_CLK i _

theorem Dev.sineTrigger_steady (i : Nat) (d : Dev) : Dev.Steady (.X_PWR_LIVE :: updateFields) [] i [.CAL_TRIM_WORD] d (d.sineTrigger i) := by
  unfold Dev.sineTrigger
  extract_lets inc rate fresh ok changed b1 b2 b3
  have h1 : Dev.Steady (.X_PWR_LIVE :: updateFields) [] i [.CAL_TRIM_WORD] d b1 := Dev.noteAcc_steady (Dev.watchSine_steady i d)
  clear_value b1
  have h2 : Dev.Steady (.X_PWR_LIVE :: updateFields) [] i [.CAL_TRIM_WORD] d b2 := (h1.write .X_BIAS_NEW i 0).lset _ _ _
  have reject : ∀ {b : Dev}, Dev.Steady (.X_PWR_LIVE :: updateFields) [] i [.CAL_TRIM_WORD] d b →
      Dev.Steady (.X_PWR_LIVE :: updateFields) [] i [.CAL_TRIM_WORD] d (b.sineReject i) := fun h => (h.write .BIAS_C_EVENTS_SINE_REJECT i 1).syncBias _
  have h3 : Dev.Steady (.X_PWR_LIVE :: updateFields) [] i [.CAL_TRIM_WORD] d b3 := by
    clear_value b2
    unfold b3
    split
    · exact (h2.lset _ _ _).lset _ _ _
    · split
      · exact reject h2
      · exact h2
  clear_value b3
  split
  · split
    · exact h3.write .X_BIAS_SINE i 1
    · split
      · exact ((h3.write .X_BIAS_SINE i 1).write .X_BIAS_ACC i 0).write .X_BIAS_ACC_CLK i _
      · split
        · exact reject h3
        · exact h3
  · split
    · split
      · exact h3.write .X_BIAS_SINE i 0
      · exact (h3.write .X_BIAS_STOP_CLK i _).write .X_BIAS_SINE i 2
    · exact h3

/-- R354: LIVE as an update trigger moves it, before the trims. -/
def Dev.liveMoved (d : Dev) (i live tgt : Nat) : Dev :=
  if d.on .BIAS_C_CFG_SHAPE i then
    if live / 4096 ≠ tgt / 4096 then
      (((d.set .BIAS_C_LIVE_LIVE i tgt).set .X_BIAS_HOLD i 1).set .X_BIAS_HELD i live).set .X_BIAS_HOLD_CLK i (d.set .BIAS_C_LIVE_LIVE i tgt).clk
    else d.set .BIAS_C_LIVE_LIVE i tgt
  else d.set .BIAS_C_LIVE_LIVE i (slewCode live tgt (d.get .BIAS_C_CFG_STEP i))

theorem Dev.updateTrigger_track {d : Dev} {i : Nat} (hbc : d.bc i = bcTRACK) (hon : d.domOn (domHk (biasTile i)) = true) :
    Dev.updateTrigger i d = ((d.sineTrigger i).liveMoved i ((d.sineTrigger i).get .BIAS_C_LIVE_LIVE i) ((d.sineTrigger i).targetInForce i)).applyTrims i := by
  unfold Dev.updateTrigger
  rw [if_pos ⟨hbc, hon⟩]
  extract_lets b live tgt c
  change _ = (b.liveMoved i live tgt).applyTrims i
  unfold c Dev.liveMoved
  clear_value b live tgt
  by_cases hs : b.on .BIAS_C_CFG_SHAPE i = true
  · by_cases hl : live / 4096 ≠ tgt / 4096
    · rw [if_pos hs, if_pos hs, if_pos hl, if_pos hl]
    · rw [if_pos hs, if_pos hs, if_neg hl, if_neg hl]
  · rw [if_neg hs, if_neg hs]

theorem Dev.updateTrigger_idle {d : Dev} {i : Nat} (h : d.bc i ≠ bcTRACK ∨ d.domOn (domHk (biasTile i)) = false) :
    Dev.updateTrigger i d = d :=
  if_neg fun hb => h.elim (fun h => h hb.1) fun h => Bool.false_ne_true (h.symm.trans hb.2)

theorem Dev.liveMoved_only (d : Dev) (i live tgt : Nat) :
    Dev.OnlyAt [.BIAS_C_LIVE_LIVE, .X_BIAS_HOLD, .X_BIAS_HELD, .X_BIAS_HOLD_CLK] i d (d.liveMoved i live tgt) := by
  have h : ∀ v, Dev.OnlyAt [F.BIAS_C_LIVE_LIVE, .X_BIAS_HOLD, .X_BIAS_HELD, .X_BIAS_HOLD_CLK] i d (d.set .BIAS_C_LIVE_LIVE i v) :=
    fun v => Dev.OnlyAt.write (.refl _ d) _ _
  unfold Dev.liveMoved
  split
  · split
    · exact (((h _).write .X_BIAS_HOLD 1).write .X_BIAS_HELD _).write .X_BIAS_HOLD_CLK _
    · exact h _
  · exact h _

theorem Dev.liveMoved_live (d : Dev) (i live tgt : Nat) : (d.liveMoved i live tgt).get .BIAS_C_LIVE_LIVE i =
    if d.get .BIAS_C_CFG_SHAPE i = 1 then tgt else slewCode live tgt (d.get .BIAS_C_CFG_STEP i) := by
  unfold Dev.liveMoved
  by_cases hs : d.get .BIAS_C_CFG_SHAPE i = 1
  · rw [if_pos hs, if_pos (show d.on .BIAS_C_CFG_SHAPE i = true from beq_iff_eq.mpr hs)]
    split
    · rw [Dev.get_set_field _ _ _ _ (by decide), Dev.get_set_field _ _ _ _ (by decide), Dev.get_set_field _ _ _ _ (by decide)]
      exact Dev.get_set_same ..
    · exact Dev.get_set_same ..
  · rw [if_neg hs, if_neg (show ¬ d.on .BIAS_C_CFG_SHAPE i = true from fun h => hs (beq_iff_eq.mp h))]
    exact Dev.get_set_same ..

theorem Dev.applyTrims_only (d : Dev) (i : Nat) : Dev.OnlyAt [.X_BIAS_CORR] i d (d.applyTrims i) := by
  unfold Dev.applyTrims
  extract_lets now step
  exact Dev.OnlyAt.write (.refl _ d) _ _

theorem Dev.applyTrims_corr (d : Dev) (i : Nat) : (d.applyTrims i).get .X_BIAS_CORR i = ux 20 (if d.get .BIAS_C_CFG_SHAPE i = 1 then d.trimGoal i
    else clampI (sx 20 (d.get .X_BIAS_CORR i) - (d.get .BIAS_C_CFG_STEP i : Int))
      (sx 20 (d.get .X_BIAS_CORR i) + (d.get .BIAS_C_CFG_STEP i : Int)) (d.trimGoal i)) := by
  unfold Dev.applyTrims
  extract_lets now step
  rw [Dev.get_set_same]
  by_cases hs : d.get .BIAS_C_CFG_SHAPE i = 1
  · rw [if_pos hs, if_pos (show d.on .BIAS_C_CFG_SHAPE i = true from beq_iff_eq.mpr hs)]
  · rw [if_neg hs, if_neg (show ¬ d.on .BIAS_C_CFG_SHAPE i = true from fun h => hs (beq_iff_eq.mp h))]

theorem Dev.updateTrigger_steady (i : Nat) (d : Dev) : Dev.Steady [.X_PWR_LIVE] updateFields i [.CAL_TRIM_WORD] d (Dev.updateTrigger i d) := by
  by_cases h : d.bc i = bcTRACK ∧ d.domOn (domHk (biasTile i)) = true
  · rw [Dev.updateTrigger_track h.1 h.2]
    have hs : Dev.Steady [.X_PWR_LIVE] updateFields i [.CAL_TRIM_WORD] d (d.sineTrigger i) :=
      (d.sineTrigger_steady i).mono (by decide) (by decide) (by decide)
    have hm := hs.trans (.ofOnly ((d.sineTrigger i).liveMoved_only i ((d.sineTrigger i).get .BIAS_C_LIVE_LIVE i)
      ((d.sineTrigger i).targetInForce i))
      (fun f hf _ hp => absurd hf ((by decide : ∀ f ∈ [F.BIAS_C_LIVE_LIVE, .X_BIAS_HOLD, .X_BIAS_HELD, .X_BIAS_HOLD_CLK], f ∉ [F.X_PWR_LIVE]) f hp.2))
      (fun _ _ _ hj hp => hj hp.1) fun _ hp => absurd hp.2 (by decide))
    exact hm.trans (.ofOnly (Dev.applyTrims_only _ i) (fun f hf _ hp => absurd hf ((by decide : ∀ f ∈ [F.X_BIAS_CORR], f ∉ [F.X_PWR_LIVE]) f hp.2))
      (fun _ _ _ hj hp => hj hp.1) fun _ hp => absurd hp.2 (by decide))
  · rw [show Dev.updateTrigger i d = d from if_neg h]
    exact .refl d

theorem Dev.trimGoal_congr {d e : Dev} {i : Nat} (hlive : e.get .BIAS_C_LIVE_LIVE i = d.get .BIAS_C_LIVE_LIVE i)
    (htrim : ∀ j, e.lget .CAL_TRIM_WORD j = d.lget .CAL_TRIM_WORD j) : e.trimGoal i = d.trimGoal i := by
  unfold Dev.trimGoal Dev.biasGain Dev.biasOffset
  rw [hlive, htrim]

theorem Dev.targetInForce_congr {d e : Dev} {i : Nat} (hclk : e.clk = d.clk)
    (h : ∀ f ∈ [F.X_BIAS_TCLK, .X_BIAS_TOLD, .BIAS_C_TARGET_TARGET], e.get f i = d.get f i) : e.targetInForce i = d.targetInForce i := by
  unfold Dev.targetInForce
  rw [hclk, h .X_BIAS_TCLK (by decide), h .X_BIAS_TOLD (by decide), h .BIAS_C_TARGET_TARGET (by decide)]

/-- R354, R355: what an update trigger shows of a channel in TRACK. -/
theorem Dev.updateTrigger_shows {d : Dev} {i : Nat} (hbc : d.bc i = bcTRACK) (hon : d.domOn (domHk (biasTile i)) = true) {e : Dev}
    (he : e = Dev.updateTrigger i d) :
    e.get .BIAS_C_LIVE_LIVE i = (if d.get .BIAS_C_CFG_SHAPE i = 1 then d.targetInForce i
      else slewCode (d.get .BIAS_C_LIVE_LIVE i) (d.targetInForce i) (d.get .BIAS_C_CFG_STEP i)) ∧
    e.get .X_BIAS_CORR i = ux 20 (if d.get .BIAS_C_CFG_SHAPE i = 1 then e.trimGoal i
      else clampI (sx 20 (d.get .X_BIAS_CORR i) - (d.get .BIAS_C_CFG_STEP i : Int))
        (sx 20 (d.get .X_BIAS_CORR i) + (d.get .BIAS_C_CFG_STEP i : Int)) (e.trimGoal i)) := by
  have hs := d.sineTrigger_steady i
  have hlive : (d.sineTrigger i).get .BIAS_C_LIVE_LIVE i = d.get .BIAS_C_LIVE_LIVE i := hs.get _ (by decide) i
  have htgt : (d.sineTrigger i).targetInForce i = d.targetInForce i := Dev.targetInForce_congr hs.clk fun f hf =>
    hs.get f ((by decide : ∀ f ∈ [F.X_BIAS_TCLK, .X_BIAS_TOLD, .BIAS_C_TARGET_TARGET], f ∈ .X_PWR_LIVE :: updateFields) f hf) i
  rw [Dev.updateTrigger_track hbc hon, hlive, htgt] at he
  have hm := (d.sineTrigger i).liveMoved_only i (d.get .BIAS_C_LIVE_LIVE i) (d.targetInForce i)
  have hl := (d.sineTrigger i).liveMoved_live i (d.get .BIAS_C_LIVE_LIVE i) (d.targetInForce i)
  rw [hs.get .BIAS_C_CFG_SHAPE (by decide), hs.get .BIAS_C_CFG_STEP (by decide)] at hl
  have hget : ∀ f ∈ [F.X_BIAS_CORR, .BIAS_C_CFG_STEP, .BIAS_C_CFG_SHAPE],
      ((d.sineTrigger i).liveMoved i (d.get .BIAS_C_LIVE_LIVE i) (d.targetInForce i)).get f i = d.get f i := fun f hf => by
    obtain ⟨h1, h2⟩ := (by decide : ∀ f ∈ [F.X_BIAS_CORR, .BIAS_C_CFG_STEP, .BIAS_C_CFG_SHAPE], f ∈ .X_PWR_LIVE :: updateFields ∧
      f ∉ [F.BIAS_C_LIVE_LIVE, .X_BIAS_HOLD, .X_BIAS_HELD, .X_BIAS_HOLD_CLK]) f hf
    exact (hm.2 f i fun h => h2 h.2).trans (hs.get f h1 i)
  generalize (d.sineTrigger i).liveMoved i (d.get .BIAS_C_LIVE_LIVE i) (d.targetInForce i) = b at he hl hget
  have honly := b.applyTrims_only i
  have hcorr := b.applyTrims_corr i
  rw [← he] at honly hcorr
  have hkept : e.get .BIAS_C_LIVE_LIVE i = b.get .BIAS_C_LIVE_LIVE i := honly.2 _ _ fun h => absurd h.2 (by decide)
  have hgoal : e.trimGoal i = b.trimGoal i := Dev.trimGoal_congr hkept fun _ => honly.lget_eq _ _
  rw [hget .X_BIAS_CORR (by decide), hget .BIAS_C_CFG_STEP (by decide), hget .BIAS_C_CFG_SHAPE (by decide), ← hgoal] at hcorr
  exact ⟨hkept.trans hl, hcorr⟩

/-! ## The update trigger of a tile timer (R353) -/

/-- The update trigger of a tile timer for channel `i`. -/
def timerUpdate (i : Nat) (d : Dev) : Dev := if d.on .BIAS_C_CFG_TRIGGER i then d else Dev.updateTrigger i d

theorem timerUpdate_steady (i : Nat) (d : Dev) : Dev.Steady [.X_PWR_LIVE] updateFields i [.CAL_TRIM_WORD] d (timerUpdate i d) := by
  unfold timerUpdate
  split
  · exact .refl d
  · exact Dev.updateTrigger_steady i d

theorem biasUpdateTrigger_visits {t : Fin 4} {s : State} (hdue : s.dev.timerDue t ≤ s.dev.now) :
    Completes (.biasUpdateTrigger t) s fun e => ∀ c < 40, ∃ b,
      Dev.Spared [.X_PWR_LIVE] updateFields (40 * t + c) [.CAL_TRIM_WORD] s.dev b ∧
      Dev.Spared [.X_PWR_LIVE] updateFields (40 * t + c) [.CAL_TRIM_WORD] (timerUpdate (40 * t + c) b) e := by
  refine .runAs (rfl : _ = execBiasUpdateTrigger t s) fun e he c hc => ?_
  have hclk : s.found.clk + (s.found.timerDue t - s.found.now) ≤ s.found.clk := by
    rw [show s.found.timerDue t - s.found.now = 0 from Nat.sub_eq_zero_of_le hdue]
    exact Nat.le_refl _
  replace he := he.trans (Dev.onTime_of_le hclk)
  dsimp only at he
  have hpre : Dev.Steady (.X_PWR_LIVE :: updateFields) [] (40 * t.val + c) [.CAL_TRIM_WORD] s.dev
      (s.found.set .X_BIAS_DUE t (s.found.timerDue t + s.found.timerPeriod t * ((s.found.now - s.found.timerDue t) / s.found.timerPeriod t + 1))) :=
    Dev.Steady.write (d := s.dev) (e := s.found) (.same rfl rfl rfl rfl) .X_BIAS_DUE _ _
  generalize s.found.set .X_BIAS_DUE t (s.found.timerDue t + s.found.timerPeriod t * ((s.found.now - s.found.timerDue t) / s.found.timerPeriod t + 1)) = a at he hpre
  have hmem : 40 * t.val + c ∈ (List.range 40).map (40 * t.val + ·) := List.mem_map.mpr ⟨c, List.mem_range.mpr hc, rfl⟩
  have hnd : ((List.range 40).map (40 * t.val + ·)).Nodup := List.Nodup.map (fun _ _ h => Nat.add_left_cancel h) List.nodup_range
  have hlist : e = Dev.forList ((List.range 40).map (40 * t.val + ·)) timerUpdate a := by
    rw [he, Dev.forList, List.foldl_map]
    rfl
  obtain ⟨b, h1, h2⟩ := Dev.forList_visits timerUpdate_steady hnd hmem a
  rw [← hlist] at h2
  exact ⟨b, ⟨(hpre.mono (by decide) (fun _ hf => absurd hf List.not_mem_nil) fun _ hf => hf).trans h1.1,
    fun f hf => (h1.2 f hf).trans (hpre.get f (List.mem_cons_of_mem _ hf) _)⟩, h2⟩

theorem biasTile_of_lt (t : Fin 4) {c : Nat} (hc : c < 40) : biasTile (40 * t.val + c) = t.val := by
  unfold biasTile
  omega

/-- What a channel's round of the timer finds: its own fields, the time and its domain as they were. -/
theorem Dev.Spared.domOn {L N M : List F} {n : Nat} {d b : Dev} (h : Dev.Spared L N n M d b) (k : Nat)
    (hL : F.X_PWR_LIVE ∈ L := by decide) : b.domOn k = d.domOn k := by
  unfold Dev.domOn Dev.on
  rw [h.1.wakes.dom_beq k (.inl rfl), h.1.get _ hL]

theorem biasUpdateTrigger_moves {t : Fin 4} {s : State} (hdue : s.dev.timerDue t ≤ s.dev.now) :
    Completes (.biasUpdateTrigger t) s fun e => ∀ c < 40,
      let i := 40 * t.val + c
      e.get .BIAS_C_LIVE_LIVE i =
        if s.dev.get .BIAS_C_CFG_TRIGGER i = 1 ∨ s.dev.bc i ≠ bcTRACK ∨ s.dev.domOn (domHk t) = false then
          s.dev.get .BIAS_C_LIVE_LIVE i
        else if s.dev.get .BIAS_C_CFG_SHAPE i = 1 then s.dev.targetInForce i
        else slewCode (s.dev.get .BIAS_C_LIVE_LIVE i) (s.dev.targetInForce i) (s.dev.get .BIAS_C_CFG_STEP i) := by
  refine (biasUpdateTrigger_visits hdue).mono fun e hvis c hc => ?_
  intro i
  obtain ⟨b, hb, he⟩ := hvis c hc
  have hst : b.bc i = s.dev.bc i := hb.2 _ (by decide)
  have hdom : b.domOn (domHk (biasTile i)) = s.dev.domOn (domHk t) := (hb.domOn _).trans (by rw [biasTile_of_lt t hc])
  have htrig : b.on .BIAS_C_CFG_TRIGGER i = s.dev.on .BIAS_C_CFG_TRIGGER i := congrArg (· == 1) (hb.2 .BIAS_C_CFG_TRIGGER (by decide))
  rw [he.2 .BIAS_C_LIVE_LIVE (by decide), timerUpdate]
  by_cases hidle : s.dev.get .BIAS_C_CFG_TRIGGER i = 1 ∨ s.dev.bc i ≠ bcTRACK ∨ s.dev.domOn (domHk t) = false
  · rw [if_pos hidle, ← hb.2 .BIAS_C_LIVE_LIVE (by decide)]
    split
    · rfl
    · next hoff =>
      refine congrArg (fun d => Dev.get d .BIAS_C_LIVE_LIVE i) (Dev.updateTrigger_idle (hidle.elim (fun h => ?_) fun h => ?_))
      · exact (hoff (htrig.trans (beq_iff_eq.mpr h))).elim
      · rwa [hst, hdom]
  · rw [if_neg hidle]
    obtain ⟨h1, h2⟩ := not_or.mp hidle
    obtain ⟨h3, h4⟩ := not_or.mp h2
    rw [if_neg fun h => h1 (beq_iff_eq.mp (htrig.symm.trans h)),
      (Dev.updateTrigger_shows (hst.trans (not_not.mp h3)) (hdom.trans (Bool.of_not_eq_false h4)) rfl).1,
      hb.2 .BIAS_C_CFG_SHAPE (by decide), hb.2 .BIAS_C_LIVE_LIVE (by decide), hb.2 .BIAS_C_CFG_STEP (by decide),
      Dev.targetInForce_congr hb.1.clk fun f hf => hb.2 f ((by decide : ∀ f ∈ [F.X_BIAS_TCLK, .X_BIAS_TOLD, .BIAS_C_TARGET_TARGET],
        f ∈ updateFields) f hf)]

theorem biasUpdateTrigger_trims {t : Fin 4} {s : State} (hdue : s.dev.timerDue t ≤ s.dev.now) :
    Completes (.biasUpdateTrigger t) s fun e => ∀ c < 40,
      let i := 40 * t.val + c
      let now := sx 20 (s.dev.get .X_BIAS_CORR i)
      let step : Int := s.dev.get .BIAS_C_CFG_STEP i
      s.dev.get .BIAS_C_CFG_TRIGGER i ≠ 1 → s.dev.bc i = bcTRACK → s.dev.domOn (domHk t) = true →
        e.get .X_BIAS_CORR i = ux 20 (if s.dev.get .BIAS_C_CFG_SHAPE i = 1 then e.trimGoal i
          else clampI (now - step) (now + step) (e.trimGoal i)) := by
  refine (biasUpdateTrigger_visits hdue).mono fun e hvis c hc => ?_
  intro i now step htrig hbc hon
  obtain ⟨b, hb, he⟩ := hvis c hc
  have hst : b.bc i = bcTRACK := (hb.2 .BIAS_C_STATUS_STATE (by decide)).trans hbc
  have hdom : b.domOn (domHk (biasTile i)) = true := (hb.domOn _).trans (by rw [biasTile_of_lt t hc, hon])
  have hupd : timerUpdate i b = Dev.updateTrigger i b :=
    if_neg fun h => htrig ((hb.2 .BIAS_C_CFG_TRIGGER (by decide)).symm.trans (beq_iff_eq.mp h))
  have hgoal : e.trimGoal i = (timerUpdate i b).trimGoal i :=
    Dev.trimGoal_congr (he.2 _ (by decide)) fun j => he.1.lget _ (by decide) j
  rw [hgoal, he.2 .X_BIAS_CORR (by decide), (Dev.updateTrigger_shows hst hdom hupd).2, hb.2 .BIAS_C_CFG_SHAPE (by decide),
    hb.2 .BIAS_C_CFG_STEP (by decide), hb.2 .X_BIAS_CORR (by decide)]

/-! ## Held codes, the sine's last crossing and the counts -/

theorem Dev.trimGoal_of_zero {d : Dev} {i : Nat} (hgain : d.biasGain i = 0) (hoff : d.biasOffset i = 0) : d.trimGoal i = 0 := by
  unfold Dev.trimGoal
  rw [hgain, hoff]
  dsimp only
  rw [Int.mul_zero]
  split
  · rfl
  · split <;> rfl

/-- Settles O53: targets, the update triggers of tile timers, trims, held codes, and the counts of dropped writes. -/
theorem biasTargets : Obligations.BiasTargets := by
  refine fun s => ⟨fun x v => ⟨biasTargetWrite_within, biasTargetWrite_clamped, biasTargetWrite_drops⟩,
    fun t => biasUpdateTrigger_moves, fun t => biasUpdateTrigger_trims, fun d i => Dev.trimGoal_of_zero,
    fun x => ⟨fun hhold hclk => ?_, fun hsine hclk => ?_, ?_⟩⟩
  · refine .runIf (rfl : _ = execDeglitchRelease x s) (beq_iff_eq.mpr hhold) fun e he => ?_
    rw [he.trans (Dev.onTime_of_le hclk)]
    exact ⟨Dev.get_set_same .., Dev.Only.ofFound (Dev.OnlyAt.write (.refl _ _) _ _)⟩
  · refine .runIf (rfl : _ = execSineStop x s) hsine fun e he => ?_
    rw [he.trans (Dev.onTime_of_le hclk)]
    exact ⟨(Dev.get_set_field _ _ _ _ (by decide)).trans (Dev.get_set_same ..), Dev.get_set_same ..,
      Dev.Only.ofFound (Dev.OnlyAt.write (Dev.OnlyAt.write (.refl _ _) _ _) _ _)⟩
  · refine .runAs (rfl : _ = execBiasClearStats x s) fun e he => ?_
    rw [he]
    exact ⟨Dev.get_set_same .., Dev.Only.ofFound (Dev.OnlyAt.write (.refl _ _) _ _)⟩

end Sys2Proof.Machine
end

section
/-! PROOFS. Capture taps: what the operations on a tap leave alone, and arm, stop and abort (R336, R339, R340, R342). -/

-- One theorem at a time: the whole text is compiled under a memory limit, which the stacks of waiting threads would fill.
set_option Elab.async false

namespace Sys2Proof.Machine

open Sys2Proof

/-! ## What the operations on a tap leave alone -/

section
variable {L M : List F} {d e : Dev}

/-- A change of the queues alone. -/
theorem Dev.Keeps.same (hreg : e.reg = d.reg) (hlive : e.live = d.live) (hpend : e.pending = d.pending) (hclk : e.clk = d.clk) :
    Dev.Keeps L M d e :=
  ⟨fun f _ i => congrArg (fun r => Store.get r ⟨f, i⟩) hreg, fun f _ i => congrArg (fun r => Store.get r ⟨f, i⟩) hlive,
    fun _ h => hpend ▸ h, hclk⟩

end

section
variable {L M : List F}

/-- What a record that is added, and a gap, change. -/
def gapFields : List F := [.CAP_T_COUNTS_RECORDS_LOST, .X_CAP_GAP, .CAP_T_SAMPLES_LOST_VALUE, .CAP_T_EVENTS_GAP, .X_CAP_GAP_TICK] ++ signalFields

theorem Dev.addRecord_keeps (d : Dev) (t : Nat) (bs : List Byte) (hL : F.CAP_T_COUNTS_RECORDS_LOST ∉ L) :
    Dev.Keeps L M d (d.addRecord t bs) := by
  unfold Dev.addRecord
  dsimp only
  split
  · exact (Dev.Keeps.refl d).set _ _ hL
  · exact .same rfl rfl rfl rfl

theorem Dev.gap_keeps (d : Dev) (t cause first n time : Nat) (hL : ∀ f ∈ gapFields, f ∉ L) :
    Dev.Keeps L M d (d.gap t cause first n time) := by
  have hrec := d.addRecord_keeps (M := M) t (gapRecord cause first n time) (hL _ (by decide))
  unfold Dev.gap
  generalize d.addRecord t (gapRecord cause first n time) = b at hrec
  have h : Dev.Keeps L M d (((b.set .X_CAP_GAP t 1).addWrap .CAP_T_SAMPLES_LOST_VALUE t n).set .CAP_T_EVENTS_GAP t 1) :=
    ((hrec.set t 1 (hL _ (by decide))).set t _ (hL _ (by decide))).set t 1 (hL _ (by decide))
  dsimp only
  split
  · exact h
  · exact (h.set t 1 (hL _ (by decide))).raise _ fun f hf hs => hL f (List.mem_append_right _ hs) hf

/-- R308, R335: what a gap shows. -/
theorem Dev.gap_shows (d : Dev) (t cause first n time : Nat) {e : Dev} (he : e = d.gap t cause first n time) :
    e.get .X_CAP_GAP t = 1 ∧ e.get .CAP_T_EVENTS_GAP t = 1 ∧
      e.get .CAP_T_SAMPLES_LOST_VALUE t = (d.get .CAP_T_SAMPLES_LOST_VALUE t + n) % 2 ^ F.CAP_T_SAMPLES_LOST_VALUE.width := by
  have hrec : (d.addRecord t (gapRecord cause first n time)).get .CAP_T_SAMPLES_LOST_VALUE t = d.get .CAP_T_SAMPLES_LOST_VALUE t :=
    (d.addRecord_keeps (L := [.CAP_T_SAMPLES_LOST_VALUE]) (M := []) t _ (by decide)).get _ (by decide) t
  unfold Dev.gap at he
  generalize d.addRecord t (gapRecord cause first n time) = b at he hrec
  have hb : ∀ c : Dev, c = ((b.set .X_CAP_GAP t 1).addWrap .CAP_T_SAMPLES_LOST_VALUE t n).set .CAP_T_EVENTS_GAP t 1 →
      c.get .X_CAP_GAP t = 1 ∧ c.get .CAP_T_EVENTS_GAP t = 1 ∧
        c.get .CAP_T_SAMPLES_LOST_VALUE t = (d.get .CAP_T_SAMPLES_LOST_VALUE t + n) % 2 ^ F.CAP_T_SAMPLES_LOST_VALUE.width := by
    rintro c rfl
    refine ⟨?_, Dev.get_set_same .., ?_⟩
    · exact (Dev.get_set_field _ _ _ _ (by decide)).trans ((Dev.get_set_field _ _ _ _ (by decide)).trans (Dev.get_set_same ..))
    · refine (Dev.get_set_field _ _ _ _ (by decide)).trans ((Dev.get_set_same ..).trans ?_)
      rw [Dev.get_set_field _ _ _ _ (by decide), hrec]
  dsimp only at he
  generalize ((b.set .X_CAP_GAP t 1).addWrap .CAP_T_SAMPLES_LOST_VALUE t n).set .CAP_T_EVENTS_GAP t 1 = c at he hb
  have hc := hb c rfl
  split at he
  · rwa [he]
  · have hget : ∀ f ∈ [F.X_CAP_GAP, .CAP_T_EVENTS_GAP, .CAP_T_SAMPLES_LOST_VALUE], e.get f t = c.get f t := fun f hf => by
      rw [he]
      exact ((Dev.Keeps.refl c).set (f := .X_CAP_GAP_TICK) t 1 (by decide) |>.raise (L := [.X_CAP_GAP, .CAP_T_EVENTS_GAP, .CAP_T_SAMPLES_LOST_VALUE])
        (M := []) _ (by decide)).get f hf t
    rwa [hget .X_CAP_GAP (by decide), hget .CAP_T_EVENTS_GAP (by decide), hget .CAP_T_SAMPLES_LOST_VALUE (by decide)]

/-- R335: samples that are lost move the index on, and are shown as a gap. -/
theorem Dev.loseSamples_shows (d : Dev) (t cause time : Nat) {n : Nat} (hn : n ≠ 0) {e : Dev} (he : e = d.loseSamples t cause n time) :
    e.get .X_CAP_FIRST t = d.get .X_CAP_FIRST t + n ∧ e.get .X_CAP_GAP t = 1 ∧ e.get .CAP_T_EVENTS_GAP t = 1 ∧
      e.get .CAP_T_SAMPLES_LOST_VALUE t = (d.get .CAP_T_SAMPLES_LOST_VALUE t + n) % 2 ^ F.CAP_T_SAMPLES_LOST_VALUE.width := by
  unfold Dev.loseSamples at he
  replace he := he.trans (if_neg hn)
  dsimp only at he
  obtain ⟨h1, h2, h3⟩ := Dev.gap_shows _ _ _ _ _ _ he
  refine ⟨?_, h1, h2, h3.trans ?_⟩
  · rw [he]
    exact ((Dev.gap_keeps (L := [.X_CAP_FIRST]) (M := []) _ _ _ _ _ _ (by decide)).get _ (by decide) _).trans (Dev.get_set_same ..)
  · rw [Dev.get_set_field _ _ _ _ (by decide)]
    rfl

theorem Dev.loseSamples_keeps (d : Dev) (t cause n time : Nat) (hL : ∀ f ∈ .X_CAP_FIRST :: gapFields, f ∉ L) :
    Dev.Keeps L M d (d.loseSamples t cause n time) := by
  unfold Dev.loseSamples
  dsimp only
  split
  · exact .refl d
  · refine .trans (.set ?_ t _ (hL _ (by decide))) (Dev.gap_keeps _ _ _ _ _ _ fun f hf => hL f (List.mem_cons_of_mem _ hf))
    exact .same rfl rfl rfl rfl

/-- What a block that is written changes. -/
def blockFields : List F := [.CAP_T_COUNTS_RECORDS_LOST, .CAP_T_PERIOD_P, .X_CAP_FIRST, .X_CAP_GAP, .X_CAP_STEP, .X_CAP_SEQ,
  .CAP_T_BLOCKS_VALUE, .X_CAP_WRITTEN, .CAP_T_WRITE_PTR_BLOCK, .X_CAP_QUEUED]

theorem Dev.setPeriod_keeps (d : Dev) (t : Nat) (hL : F.CAP_T_PERIOD_P ∉ L) : Dev.Keeps L M d (d.setPeriod t) := by
  unfold Dev.setPeriod
  dsimp only
  split
  · split
    · exact (Dev.Keeps.refl d).set _ _ hL
    · exact .refl d
  · exact .refl d

theorem Dev.addRef_keeps (d : Dev) (t i time : Nat) (hL : F.CAP_T_PERIOD_P ∉ L) : Dev.Keeps L M d (d.addRef t i time) := by
  unfold Dev.addRef
  extract_lets mine rest
  exact Dev.Keeps.trans (b := { d with refs := mine ++ rest }) (.same rfl rfl rfl rfl) (Dev.setPeriod_keeps _ t hL)

/-- R306, R313, R317: what a block that is written shows, and leaves alone. -/
theorem Dev.putBlock_shows (d : Dev) (t : Nat) (b : BlockIn) (reason : Option Nat) (last : Bool) {e : Dev}
    (he : e = d.putBlock t b reason last) :
    (∀ {L M : List F}, (∀ f ∈ blockFields, f ∉ L) → Dev.Keeps L M d e) ∧
      e.get .X_CAP_SEQ t = (d.get .X_CAP_SEQ t + 1) % 2 ^ F.X_CAP_SEQ.width ∧
      e.get .CAP_T_BLOCKS_VALUE t = (d.get .CAP_T_BLOCKS_VALUE t + 1) % 2 ^ F.CAP_T_BLOCKS_VALUE.width ∧
      (d.tapStreams t = true → e.get .X_CAP_QUEUED t = d.get .X_CAP_QUEUED t + 1 ∧
        e.get .CAP_T_WRITE_PTR_BLOCK t = (d.get .CAP_T_WRITE_PTR_BLOCK t + 1) % max 1 (d.tapSize t)) := by
  unfold Dev.putBlock at he
  extract_lets all rs n p lastIx rs2 flags time low seg head body off a d1 gone d2 d3 d4 d5 d6 d7 at he
  have h5 : ∀ {L M : List F}, (∀ f ∈ [F.CAP_T_COUNTS_RECORDS_LOST, .CAP_T_PERIOD_P, .X_CAP_FIRST], f ∉ L) → Dev.Keeps L M d d5 := by
    intro L M hL
    have h0 : ∀ k, Dev.Keeps L M d (d.dropRecs t k) := fun k => .same rfl rfl rfl rfl
    have h1 : Dev.Keeps L M d d1 := (h0 _).set _ _ (hL .CAP_T_COUNTS_RECORDS_LOST (by decide))
    have h3 : Dev.Keeps L M d d3 := h1.trans (.same rfl rfl rfl rfl)
    have h4 : Dev.Keeps L M d d4 := .set (h3.trans (d3.addRef_keeps _ _ _ (hL _ (by decide)))) _ _ (hL _ (by decide))
    unfold d5
    split
    · exact h4
    · exact h4.trans (d4.addRef_keeps _ _ _ (hL _ (by decide)))
  have h7 : ∀ {L M : List F}, (∀ f ∈ blockFields, f ∉ L) → Dev.Keeps L M d d7 := fun {L M} hL =>
    ((((h5 fun f hf => hL f ((by decide : ∀ f ∈ [F.CAP_T_COUNTS_RECORDS_LOST, .CAP_T_PERIOD_P, .X_CAP_FIRST], f ∈ blockFields) f hf)).setAll t 0
      (fs := [.X_CAP_GAP, .X_CAP_STEP]) fun f hf => hL f ((by decide : ∀ f ∈ [F.X_CAP_GAP, .X_CAP_STEP], f ∈ blockFields) f hf)).set t _
        (hL _ (by decide))).set t _ (hL _ (by decide))).set t _ (hL _ (by decide))
  have hk5 : Dev.Keeps [.X_CAP_SEQ, .CAP_T_BLOCKS_VALUE, .X_CAP_QUEUED] [.CAP_T_CTRL_MODE, .CAP_T_BUF_SIZE_BLOCKS] d d5 := h5 (by decide)
  have hoff : d.tapStreams t = true → off = d.get .CAP_T_WRITE_PTR_BLOCK t := fun h => if_pos h
  clear_value d5 off
  have hseq : d7.get .X_CAP_SEQ t = (d.get .X_CAP_SEQ t + 1) % 2 ^ F.X_CAP_SEQ.width := by
    have h6 : d6.get .X_CAP_SEQ t = (d.get .X_CAP_SEQ t + 1) % 2 ^ F.X_CAP_SEQ.width := by
      refine (Dev.get_set_same ..).trans ?_
      rw [Dev.setAll_get_field _ _ _ _ (by decide), hk5.get _ (by decide)]
    exact (Dev.get_set_field _ _ _ _ (by decide)).trans ((Dev.get_set_field _ _ _ _ (by decide)).trans h6)
  have hblocks : d7.get .CAP_T_BLOCKS_VALUE t = (d.get .CAP_T_BLOCKS_VALUE t + 1) % 2 ^ F.CAP_T_BLOCKS_VALUE.width := by
    refine (Dev.get_set_field _ _ _ _ (by decide)).trans ((Dev.get_set_same ..).trans ?_)
    rw [show d6.get .CAP_T_BLOCKS_VALUE t = d.get .CAP_T_BLOCKS_VALUE t from (Dev.get_set_field _ _ _ _ (by decide)).trans
      ((Dev.setAll_get_field _ _ _ _ (by decide)).trans (hk5.get _ (by decide) t))]
  have hqueued : d7.get .X_CAP_QUEUED t = d.get .X_CAP_QUEUED t :=
    (Dev.get_set_field _ _ _ _ (by decide)).trans ((Dev.get_set_field _ _ _ _ (by decide)).trans ((Dev.get_set_field _ _ _ _ (by decide)).trans
      ((Dev.setAll_get_field _ _ _ _ (by decide)).trans (hk5.get _ (by decide) t))))
  have hmode : d7.tapStreams t = d.tapStreams t := by
    have h : d7.lget .CAP_T_CTRL_MODE t = d.lget .CAP_T_CTRL_MODE t :=
      (h7 (L := []) (M := [.CAP_T_CTRL_MODE]) (by decide)).lget _ (by decide) t
    unfold Dev.tapStreams Dev.tapMode
    rw [h]
  have hsize : d7.tapSize t = d.tapSize t := (h7 (L := []) (M := [.CAP_T_BUF_SIZE_BLOCKS]) (by decide)).lget _ (by decide) t
  clear_value d7
  split at he
  · next hs =>
    refine ⟨fun hL => ?_, ?_, ?_, fun hs' => ⟨?_, ?_⟩⟩
    · rw [he]
      exact ((h7 hL).set t _ (hL _ (by decide))).set t _ (hL _ (by decide))
    · rw [he]
      exact (Dev.get_set_field _ _ _ _ (by decide)).trans ((Dev.get_set_field _ _ _ _ (by decide)).trans hseq)
    · rw [he]
      exact (Dev.get_set_field _ _ _ _ (by decide)).trans ((Dev.get_set_field _ _ _ _ (by decide)).trans hblocks)
    · rw [he, ← hqueued]
      exact Dev.get_set_same ..
    · rw [he, ← hoff hs', ← hsize]
      exact (Dev.get_set_field _ _ _ _ (by decide)).trans (Dev.get_set_same ..)
  · next hs =>
    refine ⟨fun hL => ?_, ?_, ?_, fun hs' => (hs (hmode.trans hs')).elim⟩
    · rw [he]
      exact (h7 hL).set t _ (hL _ (by decide))
    · rw [he]
      exact (Dev.get_set_field _ _ _ _ (by decide)).trans hseq
    · rw [he]
      exact (Dev.get_set_field _ _ _ _ (by decide)).trans hblocks

/-- What a tap that reaches DONE changes. -/
def doneFields : List F := [.LRX_SHADOW_STATUS_HOLDER, .LRX_SHADOW_STATUS_BUSY, .CAP_T_STATUS_STATE, .CAP_T_EVENTS_DONE] ++ signalFields

theorem Dev.endDescs_eq (d : Dev) (t : Nat) (all : Bool) : d.endDescs t all = { d with descs := (d.endDescs t all).descs } := by
  unfold Dev.endDescs
  split <;> rfl

theorem Dev.releaseSampler_only (d : Dev) (t : Nat) :
    Dev.Only (fun f _ => f ∈ [F.LRX_SHADOW_STATUS_HOLDER, .LRX_SHADOW_STATUS_BUSY]) d (d.releaseSampler t) := by
  unfold Dev.releaseSampler
  dsimp only
  split
  · exact ((Dev.Only.refl _ d).write .LRX_SHADOW_STATUS_HOLDER _ 0).write .LRX_SHADOW_STATUS_BUSY _ 0
  · exact .refl _ d

/-- R336, R340: the sampler and the descriptors are let go. -/
theorem Dev.letGo_get (d : Dev) (t : Nat) (all : Bool) {f : F} (i : Nat) (h : f ∉ [F.LRX_SHADOW_STATUS_HOLDER, .LRX_SHADOW_STATUS_BUSY]) :
    ((d.endDescs t all).releaseSampler t).get f i = d.get f i := by
  rw [((d.endDescs t all).releaseSampler_only t).2 f i h, Dev.endDescs_eq]
  rfl

theorem Dev.letGo_parts (d : Dev) (t : Nat) (all : Bool) :
    ((d.endDescs t all).releaseSampler t).pending = d.pending ∧ ((d.endDescs t all).releaseSampler t).live = d.live ∧
      ((d.endDescs t all).releaseSampler t).clk = d.clk ∧ ((d.endDescs t all).releaseSampler t).frames = d.frames ∧
      ((d.endDescs t all).releaseSampler t).recs = d.recs ∧ ((d.endDescs t all).releaseSampler t).out = d.out := by
  have hout : ((d.endDescs t all).releaseSampler t).out = (d.endDescs t all).out := by
    unfold Dev.releaseSampler
    dsimp only
    split <;> rfl
  rw [hout, ((d.endDescs t all).releaseSampler_only t).1, Dev.endDescs_eq]
  exact ⟨rfl, rfl, rfl, rfl, rfl, rfl⟩

/-- R336: what a tap that is DONE shows. -/
theorem Dev.tapDone_shows (d : Dev) (t : Nat) {e : Dev} (he : e = d.tapDone t) :
    e.tapState t = ctDONE ∧ e.get .CAP_T_EVENTS_DONE t = 1 ∧ Dev.Raised (768 + 4 * t) d e ∧
      (∀ {L M : List F}, (∀ f ∈ doneFields, f ∉ L) → Dev.Keeps L M d e) := by
  obtain ⟨hpend, hlive, hclk, -⟩ := d.letGo_parts t false
  have hget : ∀ f i, f ∉ [F.LRX_SHADOW_STATUS_HOLDER, .LRX_SHADOW_STATUS_BUSY] →
      ((d.endDescs t false).releaseSampler t).get f i = d.get f i := fun f i => d.letGo_get t false i
  unfold Dev.tapDone at he
  dsimp only at he
  generalize (d.endDescs t false).releaseSampler t = b at he hpend hlive hclk hget
  refine ⟨?_, ?_, ?_, fun {L M} hL => ?_⟩
  · rw [he]
    exact (raise_get _ _ _ _ (by decide)).trans ((Dev.get_set_field _ _ _ _ (by decide)).trans (Dev.get_set_same ..))
  · rw [he]
    exact (raise_get _ _ _ _ (by decide)).trans (Dev.get_set_same ..)
  · rw [he]
    refine .after hpend ?_ (Nat.ne_of_gt (Nat.add_pos_left (by decide) _))
    exact (Dev.get_set_field _ _ _ _ (by decide)).trans ((Dev.get_set_field _ _ _ _ (by decide)).trans (hget _ _ (by decide)))
  · have hb : Dev.Keeps L M d b := ⟨fun f hf i => hget f i fun h => hL f ((by decide : ∀ f ∈ [F.LRX_SHADOW_STATUS_HOLDER,
      .LRX_SHADOW_STATUS_BUSY], f ∈ doneFields) f h) hf, fun f _ i => congrArg (fun r => Store.get r ⟨f, i⟩) hlive, fun _ h => hpend ▸ h, hclk⟩
    rw [he]
    exact ((hb.set t _ (hL _ (by decide))).set t _ (hL _ (by decide))).raise _ fun f hf hs => hL f (List.mem_append_right _ hs) hf

theorem Dev.directory_keeps (d : Dev) (t : Nat) (frozen short : Bool) : Dev.Keeps L M d (d.directory t frozen short) :=
  .same rfl rfl rfl rfl

end

/-! ## The end of a capture (R336, R337, R339) -/

/-- R336, R339: a running tap that is stopped. -/
theorem Dev.endCapture_shows (d : Dev) (t reason : Nat) (frozen : Bool) (b : BlockIn) {e : Dev}
    (he : e = d.endCapture t reason frozen false b) :
    e.get .CAP_T_STATUS_END_REASON t = reason ∧ (d.tapStreams t = true → e.tapState t = ctDRAINING) ∧
      (d.tapStreams t = false → e.tapState t = ctDONE ∧ e.get .CAP_T_EVENTS_DONE t = 1 ∧ 768 + 4 * t ∈ e.pending) := by
  unfold Dev.endCapture at he
  dsimp only at he
  have hr : (d.set .CAP_T_STATUS_END_REASON t reason).get .CAP_T_STATUS_END_REASON t = reason := Dev.get_set_same ..
  have hs : (d.set .CAP_T_STATUS_END_REASON t reason).tapStreams t = d.tapStreams t := rfl
  generalize d.set .CAP_T_STATUS_END_REASON t reason = c at he hr hs
  by_cases hstream : d.tapStreams t = true
  · replace he := (he.trans (if_pos (hs.trans hstream))).trans (if_neg Bool.false_ne_true)
    refine ⟨?_, fun _ => ?_, fun h => (Bool.false_ne_true (h.symm.trans hstream)).elim⟩
    · rw [← hr, he]
      split
      · exact (Dev.get_set_field _ _ _ _ (by decide)).trans ((Dev.get_set_field _ _ _ _ (by decide)).trans
          ((c.loseSamples_keeps (L := [.CAP_T_STATUS_END_REASON]) (M := []) _ _ _ _ (by decide)).get _ (by decide) t))
      · exact (Dev.get_set_field _ _ _ _ (by decide)).trans
          (((c.putBlock_shows t b (some reason) true rfl).1 (L := [.CAP_T_STATUS_END_REASON]) (M := []) (by decide)).get _ (by decide) t)
    · rw [he]
      split
      · exact Dev.get_set_same ..
      · exact Dev.get_set_same ..
  · replace he := he.trans (if_neg fun h => hstream (hs.symm.trans h))
    obtain ⟨h1, h2, h3, h4⟩ := Dev.tapDone_shows _ _ he
    refine ⟨?_, fun h => (hstream h).elim, fun _ => ⟨h1, h2, h3.1 ▸ (mem_insertNat ..).mpr (.inl rfl)⟩⟩
    have hput := (c.putBlock_shows t b (some reason) true rfl).1 (L := [.CAP_T_STATUS_END_REASON]) (M := []) (by decide)
    exact ((hput.trans (Dev.directory_keeps _ _ _ _)).trans (h4 (by decide))).get .CAP_T_STATUS_END_REASON (by decide) t |>.trans hr

/-! ## Arming (R336) -/

/-- What of a tap is shown of its arm, and the settings that it latches. -/
def armShown : List F := [.CAP_T_STATUS_ARMS, .CAP_T_BLOCKS_VALUE]
def armLive : List F := [.CAP_T_CTRL_POINT, .CAP_T_CTRL_LANE, .CAP_T_CTRL_MODE]

/-- What tells whether a domain is on. -/
def domFields : List F := [.PWR_D_STATUS_STATE, .X_PWR_LIVE]

theorem Dev.domOn_congr {d e : Dev} (h : ∀ f ∈ domFields, ∀ i, e.get f i = d.get f i) (k : Nat) : e.domOn k = d.domOn k := by
  have hdom : e.dom k = d.dom k := h _ (by decide) k
  unfold Dev.domOn Dev.on
  rw [hdom, h .X_PWR_LIVE (by decide)]

theorem Dev.latchTap_reg (d : Dev) (t : Nat) : (d.latchTap t).reg = d.reg := by
  unfold Dev.latchTap
  exact Dev.forList_keeps (l := tapSettings) (g := fun f e => e.lset f t (e.get f t)) Dev.reg (fun _ _ _ => rfl) d

/-- R312: a setting that is latched. -/
theorem Dev.latchTap_lget (d : Dev) (t : Nat) {f : F} (hf : f ∈ tapSettings) : (d.latchTap t).lget f t = d.get f t := by
  unfold Dev.latchTap
  refine Dev.forList_reaches_of (I := fun e => e.reg = d.reg) (P := fun e => e.lget f t = d.get f t) hf rfl (fun _ _ he => he)
    (fun e he => ?_) fun y e he hp => ?_
  · exact (Store.get_set_same ..).trans (congrArg (fun r => Store.get r ⟨f, t⟩) he)
  · by_cases hy : y = f
    · subst hy
      exact (Store.get_set_same ..).trans (congrArg (fun r => Store.get r ⟨y, t⟩) he)
    · exact (Store.get_set_other _ _ (fun h => hy (Key.mk.inj h).1.symm)).trans hp

theorem Dev.clampLengths_keeps (d : Dev) (t : Nat) : Dev.Keeps (domFields ++ armShown) armLive d (d.clampLengths t) := by
  unfold Dev.clampLengths
  extract_lets pre post segs c b1 b2 b3
  split
  · exact (Dev.Keeps.refl d).set _ _ (by decide)
  · have h1 : Dev.Keeps (domFields ++ armShown) armLive d b1 := ((Dev.Keeps.refl d).set _ _ (by decide)).lset _ _ (by decide)
    have h2 : Dev.Keeps (domFields ++ armShown) armLive d b2 := (h1.set _ _ (by decide)).lset _ _ (by decide)
    have h3 : Dev.Keeps (domFields ++ armShown) armLive d b3 := by
      clear_value b2
      unfold b3
      split
      · exact h2
      · exact (h2.set _ _ (by decide)).lset _ _ (by decide)
    exact (h3.set _ _ (by decide)).set _ _ (by decide)

theorem Dev.startPoint_keeps (d : Dev) (t e : Nat) :
    Dev.Keeps (.CAP_T_STATUS_STATE :: armShown) armLive d ((d.sweepFrom t e).startPoint t) := by
  have h1 : Dev.Keeps (.CAP_T_STATUS_STATE :: armShown) armLive d (d.sweepFrom t e) :=
    (((Dev.Keeps.refl d).set _ _ (by decide)).set _ _ (by decide)).set _ _ (by decide)
  exact ((((((h1.set _ _ (by decide)).set _ _ (by decide)).set _ _ (by decide)).set _ _ (by decide)).set _ _ (by decide)).set _ _
    (by decide)).set _ _ (by decide)

theorem Dev.beginSegment_shows (d : Dev) (t : Nat) : Dev.Keeps armShown armLive d (d.beginSegment t) ∧ (d.beginSegment t).tapRuns t = true := by
  unfold Dev.beginSegment
  extract_lets b1 b2
  have h2 : Dev.Keeps armShown armLive d b2 := ((Dev.Keeps.refl d).setAll _ _ (by decide)).set _ _ (by decide)
  clear_value b2
  split
  · refine ⟨(h2.set _ _ (by decide)).set _ _ (by decide), ?_⟩
    have hst : ((b2.set .CAP_T_STATUS_STATE t ctARMED).set .X_CAP_AUTO_CLK t b2.clk).tapState t = ctARMED :=
      (Dev.get_set_field _ _ _ _ (by decide)).trans (Dev.get_set_same ..)
    unfold Dev.tapRuns
    rw [hst]
    rfl
  · refine ⟨h2.set _ _ (by decide), ?_⟩
    have hst : (b2.set .CAP_T_STATUS_STATE t ctFILLING).tapState t = ctFILLING := Dev.get_set_same ..
    unfold Dev.tapRuns
    rw [hst]
    rfl

/-- R336: a tap that starts to take samples. -/
theorem Dev.startTap_shows (d : Dev) (t : Nat) : Dev.Keeps armShown armLive d (d.startTap t) ∧ (d.startTap t).tapRuns t = true := by
  unfold Dev.startTap
  extract_lets b
  have hb : Dev.Keeps armShown armLive d b ∧ b.tapRuns t = true := by
    unfold b
    split
    · refine ⟨((Dev.Keeps.refl d).set _ _ (by decide)).set _ _ (by decide), ?_⟩
      have hst : ((d.set .CAP_T_STATUS_STATE t ctSTREAMING).set .X_CAP_AUTO_CLK t d.clk).tapState t = ctSTREAMING :=
        (Dev.get_set_field _ _ _ _ (by decide)).trans (Dev.get_set_same ..)
      unfold Dev.tapRuns
      rw [hst]
      rfl
    · exact d.beginSegment_shows t
  clear_value b
  split
  · have hp := b.startPoint_keeps t ((b.sweepEyes t).headD 0)
    refine ⟨hb.1.trans (hp.mono (by decide) (by decide)), ?_⟩
    have hst : ((b.sweepFrom t ((b.sweepEyes t).headD 0)).startPoint t).tapState t = b.tapState t := hp.get .CAP_T_STATUS_STATE (by decide) t
    unfold Dev.tapRuns
    rw [hst]
    exact hb.2
  · exact hb

/-- R336: the tap with its counters cleared and its settings latched, counted as armed. -/
def Dev.armed (d : Dev) (t : Nat) : Dev := (((d.clearTap t).latchTap t).setAll armCleared t 0).addWrap .CAP_T_STATUS_ARMS t 1

theorem Dev.armed_shows (d : Dev) (t : Nat) {e : Dev} (he : e = d.armed t) :
    e.get .CAP_T_STATUS_ARMS t = (d.get .CAP_T_STATUS_ARMS t + 1) % 2 ^ F.CAP_T_STATUS_ARMS.width ∧ e.get .CAP_T_BLOCKS_VALUE t = 0 ∧
      (∀ f ∈ armLive, e.lget f t = d.get f t) ∧ ∀ f ∈ domFields, ∀ i, e.get f i = d.get f i := by
  have hreg : ((d.clearTap t).latchTap t).reg = d.reg := (d.clearTap t).latchTap_reg t
  have hlive : ∀ f ∈ armLive, ((d.clearTap t).latchTap t).lget f t = d.get f t := fun f hf =>
    (d.clearTap t).latchTap_lget t ((by decide : ∀ f ∈ armLive, f ∈ tapSettings) f hf)
  unfold Dev.armed at he
  generalize (d.clearTap t).latchTap t = b at he hreg hlive
  have hkept : ∀ f i, f ∉ armCleared → (b.setAll armCleared t 0).get f i = d.get f i := fun f i hf =>
    (Dev.setAll_get_field _ _ _ _ hf).trans (congrArg (fun r => Store.get r ⟨f, i⟩) hreg)
  have hzero : (b.setAll armCleared t 0).get .CAP_T_BLOCKS_VALUE t = 0 := Dev.setAll_get_of_mem _ _ _ (by decide)
  have hset : (b.setAll armCleared t 0).live = b.live := Dev.setAll_live ..
  generalize b.setAll armCleared t 0 = c at he hkept hzero hset
  subst he
  refine ⟨?_, ?_, fun f hf => ?_, fun f hf i => ?_⟩
  · rw [← hkept .CAP_T_STATUS_ARMS t (by decide)]
    exact Dev.get_set_same ..
  · exact (Dev.get_set_field _ _ _ _ (by decide)).trans hzero
  · rw [← hlive f hf]
    exact congrArg (fun r => Store.get r ⟨f, t⟩) hset
  · obtain ⟨h1, h2⟩ := (by decide : ∀ f ∈ domFields, f ≠ .CAP_T_STATUS_ARMS ∧ f ∉ armCleared) f hf
    exact (Dev.get_set_field _ _ _ _ h1).trans (hkept f i h2)

/-- R305: a SHADOW tap takes its sampler. -/
def Dev.takeSampler (d : Dev) (t : Nat) : Dev := if d.tapPoint t = 5 then d.set .LRX_SHADOW_STATUS_HOLDER (d.tapLane t) 5 else d

theorem Dev.takeSampler_keeps (d : Dev) (t : Nat) : Dev.Keeps (domFields ++ armShown) armLive d (d.takeSampler t) := by
  unfold Dev.takeSampler
  split
  · exact (Dev.Keeps.refl d).set _ _ (by decide)
  · exact .refl d

theorem Dev.acceptArm_eq (d : Dev) (t : Nat) : d.acceptArm t =
    if (((d.armed t).clampLengths t).takeSampler t).tapDomains t |>.all fun k => (((d.armed t).clampLengths t).takeSampler t).domOn k then
      (((d.armed t).clampLengths t).takeSampler t).startTap t
    else Dev.forList ((((d.armed t).clampLengths t).takeSampler t).tapDomains t) (fun k d => if d.domOn k then d else d.wake k 6)
      ((((d.armed t).clampLengths t).takeSampler t).set .CAP_T_STATUS_STATE t ctWAKING) := rfl

/-- R336: what an accepted arm shows. -/
structure Dev.ArmAccepted (d : Dev) (t : Nat) (e : Dev) : Prop where
  arms : e.get .CAP_T_STATUS_ARMS t = (d.get .CAP_T_STATUS_ARMS t + 1) % 2 ^ F.CAP_T_STATUS_ARMS.width
  blocks : e.get .CAP_T_BLOCKS_VALUE t = 0
  live : ∀ f ∈ armLive, e.lget f t = d.get f t

theorem Dev.ArmAccepted.keeps {d b e : Dev} {t : Nat} (h : Dev.ArmAccepted d t b) (hk : Dev.Keeps armShown armLive b e) :
    Dev.ArmAccepted d t e :=
  ⟨(hk.get _ (by decide) t).trans h.arms, (hk.get _ (by decide) t).trans h.blocks, fun f hf => (hk.lget f hf t).trans (h.live f hf)⟩

theorem Dev.tapDomains_congr {d e : Dev} {t : Nat} (h : e.lget .CAP_T_CTRL_LANE t = d.lget .CAP_T_CTRL_LANE t) :
    e.tapDomains t = d.tapDomains t := by
  unfold Dev.tapDomains Dev.tapLane
  rw [h]

theorem Dev.acceptArm_shows (d : Dev) (t : Nat) {e : Dev} (he : e = d.acceptArm t) :
    Dev.ArmAccepted d t e ∧ ((∀ k ∈ (d.latchTap t).tapDomains t, d.domOn k = true) → e.tapRuns t = true) ∧
      ((∃ k ∈ (d.latchTap t).tapDomains t, d.domOn k = false) → e.tapState t = ctWAKING) := by
  rw [Dev.acceptArm_eq] at he
  obtain ⟨h1, h2, h3, h4⟩ := d.armed_shows t rfl
  have hk := ((d.armed t).clampLengths_keeps t).trans (Dev.takeSampler_keeps _ t)
  have hacc : Dev.ArmAccepted d t (((d.armed t).clampLengths t).takeSampler t) :=
    .keeps ⟨h1, h2, h3⟩ (hk.mono (by decide) (by decide))
  have hdom : ∀ k, (((d.armed t).clampLengths t).takeSampler t).domOn k = d.domOn k := Dev.domOn_congr fun f hf i =>
    (hk.get f (List.mem_append_left _ hf) i).trans (h4 f hf i)
  generalize ((d.armed t).clampLengths t).takeSampler t = b at he hacc hdom
  have hdomains : b.tapDomains t = (d.latchTap t).tapDomains t :=
    Dev.tapDomains_congr ((hacc.live _ (by decide)).trans (d.latchTap_lget t (by decide)).symm)
  have hall : ((b.tapDomains t).all fun k => b.domOn k) = true ↔ ∀ k ∈ (d.latchTap t).tapDomains t, d.domOn k = true := by
    rw [List.all_eq_true, hdomains]
    exact forall₂_congr fun k _ => by rw [hdom]
  by_cases hon : ∀ k ∈ (d.latchTap t).tapDomains t, d.domOn k = true
  · replace he := he.trans (if_pos (hall.mpr hon))
    obtain ⟨hs1, hs2⟩ := b.startTap_shows t
    rw [he]
    refine ⟨hacc.keeps hs1, fun _ => hs2, fun ⟨k, hk, hoff⟩ => ?_⟩
    exact (Bool.false_ne_true (hoff.symm.trans (hon k hk))).elim
  · replace he := he.trans (if_neg (mt hall.mp hon))
    have hwait : Dev.ArmAccepted d t (b.set .CAP_T_STATUS_STATE t ctWAKING) := hacc.keeps ((Dev.Keeps.refl b).set _ _ (by decide))
    have hget : ∀ f i, f ∉ signalFields → e.get f i = (b.set .CAP_T_STATUS_STATE t ctWAKING).get f i := fun f i hf => by
      rw [he]
      refine Dev.forList_keeps (fun c => c.get f i) (fun k _ c => ?_) _
      split
      · rfl
      · exact wake_get _ _ _ _ _ hf
    have hlive : e.live = b.live := by
      rw [he]
      refine (Dev.forList_keeps Dev.live (fun k _ c => ?_) _).trans rfl
      split
      · rfl
      · exact wake_live ..
    refine ⟨⟨(hget _ _ (by decide)).trans hwait.arms, (hget _ _ (by decide)).trans hwait.blocks, fun f hf => ?_⟩,
      fun h => (hon h).elim, fun _ => (hget _ _ (by decide)).trans (Dev.get_set_same ..)⟩
    exact (congrArg (fun r => Store.get r ⟨f, t⟩) hlive).trans (hacc.live f hf)

/-! ## Commands -/

theorem Dev.logRefusal_get (d : Dev) (t code : Nat) {f : F} (i : Nat) (hf : f ∉ refuseFields) (hs : f ∉ signalFields) :
    (d.logRefusal t code).get f i = d.get f i := by
  have h : ∀ r j q o, (d.refuse r j q o).get f i = d.get f i := fun r j q o => d.refuse_get r j q o i hf hs
  unfold Dev.logRefusal
  split
  · exact h ..
  · split
    · exact h ..
    · rfl
  · split
    · exact h ..
    · rfl
  · exact h ..
  · rfl

theorem captureArm_refused {t : Fin 8} {s : State} (href : s.dev.armRefusal t ≠ 0) :
    Completes (.captureArm t) s fun e => e.get .CAP_T_STATUS_REFUSE t = s.dev.armRefusal t ∧ e.get .CAP_T_EVENTS_REFUSED t = 1 ∧
      e.tapState t = s.dev.tapState t ∧ 802 ∈ e.pending := by
  refine .runElse (rfl : _ = execCaptureArm t s) href fun e he => ?_
  rw [he]
  refine ⟨?_, ?_, ?_, ?_⟩
  · exact (raise_get _ _ _ _ (by decide)).trans ((Dev.get_set_field _ _ _ _ (by decide)).trans (Dev.get_set_same ..))
  · exact (raise_get _ _ _ _ (by decide)).trans (Dev.get_set_same ..)
  · refine (raise_get _ _ _ _ (by decide)).trans ((Dev.get_set_field _ _ _ _ (by decide)).trans ((Dev.get_set_field _ _ _ _ (by decide)).trans ?_))
    exact Dev.logRefusal_get _ _ _ _ (by decide) (by decide)
  · rw [(raise_raised _ (by decide)).1]
    exact (mem_insertNat ..).mpr (.inl rfl)

theorem captureArm_accepted {t : Fin 8} {s : State} (href : s.dev.armRefusal t = 0) :
    Completes (.captureArm t) s fun e =>
      e.get .CAP_T_STATUS_ARMS t = (s.dev.get .CAP_T_STATUS_ARMS t + 1) % 2 ^ F.CAP_T_STATUS_ARMS.width ∧
      e.get .CAP_T_BLOCKS_VALUE t = 0 ∧ e.tapPoint t = s.dev.get .CAP_T_CTRL_POINT t ∧
      e.tapLane t = s.dev.get .CAP_T_CTRL_LANE t ∧ e.tapMode t = s.dev.get .CAP_T_CTRL_MODE t ∧
      ((∀ k ∈ (s.dev.latchTap t).tapDomains t, s.dev.domOn k = true) → e.tapRuns t = true) ∧
      ((∃ k ∈ (s.dev.latchTap t).tapDomains t, s.dev.domOn k = false) → e.tapState t = ctWAKING) := by
  refine .runIf (rfl : _ = execCaptureArm t s) href fun e he => ?_
  obtain ⟨h, hruns, hwaits⟩ := s.found.acceptArm_shows t he
  have hdomains : (s.found.latchTap t).tapDomains t = (s.dev.latchTap t).tapDomains t :=
    Dev.tapDomains_congr ((s.found.latchTap_lget t (by decide)).trans (s.dev.latchTap_lget t (by decide)).symm)
  rw [hdomains] at hruns hwaits
  exact ⟨h.arms, h.blocks, h.live _ (by decide), h.live _ (by decide), h.live _ (by decide), hruns, hwaits⟩

theorem captureStop_waking {t : Fin 8} {s : State} (b : BlockIn) (hst : s.dev.tapState t = ctWAKING) :
    Completes (.captureStop t b) s fun e => e.get .CAP_T_STATUS_END_REASON t = 2 ∧ e.tapState t = ctDONE ∧
      Dev.Raised (768 + 4 * t.val) s.dev e := by
  have hruns : ¬ s.found.tapRuns t = true := by
    rw [show s.found.tapRuns t = s.dev.tapRuns t from rfl, Dev.tapRuns, hst]
    decide
  refine .runElse (rfl : _ = execCaptureStop t b s) hruns fun e he => ?_
  obtain ⟨h1, -, h3, h4⟩ := Dev.tapDone_shows _ _ (he.trans (if_pos hst))
  refine ⟨((h4 (L := [.CAP_T_STATUS_END_REASON]) (M := []) (by decide)).get _ (by decide) t).trans (Dev.get_set_same ..), h1, ?_⟩
  exact ⟨h3.1, h3.2.trans (by rw [Dev.get_set_field _ _ _ _ (by decide)]; rfl)⟩

theorem captureAbort_clears {t : Fin 8} {s : State} (hst : s.dev.tapState t ≠ ctIDLE) :
    Completes (.captureAbort t) s fun e => e.tapState t = ctIDLE ∧ e.get .X_CAP_QUEUED t = 0 ∧ (∀ x ∈ e.frames, x.1 ≠ t) ∧
      (∀ x ∈ e.recs, x.1 ≠ t) ∧ (∀ x ∈ s.dev.frames, x.1 ≠ t → x ∈ e.frames) := by
  refine .runElse (rfl : _ = execCaptureAbort t s) hst fun e he => ?_
  extract_lets b at he
  have hb : b.frames = s.dev.frames := by
    unfold b
    split
    · exact (s.found.letGo_parts t true).2.2.2.1
    · rfl
  clear_value b
  subst he
  refine ⟨Dev.get_set_same .., ?_, fun x hx => ?_, fun x hx => ?_, fun x hx hne => ?_⟩
  · exact (Dev.get_set_field _ _ _ _ (by decide)).trans (Dev.setAll_get_of_mem _ _ _ (by decide))
  · exact bne_iff_ne.mp (List.mem_filter.mp (show x ∈ b.frames.filter fun e => e.1 != t.val from hx)).2
  · exact bne_iff_ne.mp (List.mem_filter.mp (show x ∈ b.recs.filter fun e => e.1 != t.val from hx)).2
  · exact (show x ∈ b.frames.filter fun e => e.1 != t.val from List.mem_filter.mpr ⟨hb ▸ hx, bne_iff_ne.mpr hne⟩)

/-- Settles O50: arm, stop and abort of a tap, and the clearing of its counters. -/
theorem captureArms : Obligations.CaptureArms := by
  refine fun t s => ⟨captureArm_refused, captureArm_accepted, fun b => ⟨fun hruns => ?_, captureStop_waking b⟩, captureAbort_clears, ?_⟩
  · exact .runIf (rfl : _ = execCaptureStop t b s) hruns fun e he => s.found.endCapture_shows t 2 false b he
  · refine .runAs (rfl : _ = execCapClearStats t s) fun e he => ?_
    rw [he]
    exact ⟨fun f hf => Dev.setAll_get_of_mem _ _ _ hf, Dev.Only.ofFound ((Dev.Only.refl _ _).setAll 0 fun f hf => ⟨rfl, hf⟩)⟩

end Sys2Proof.Machine
end

section
/-! PROOFS. Stores to the NVM (R401 to R404). -/

-- One theorem at a time: the whole text is compiled under a memory limit, which the stacks of waiting threads would fill.
set_option Elab.async false

namespace Sys2Proof.Machine

open Sys2Proof

/-! ## Fields of a record that is written -/

theorem leBytes_length (n v : Nat) : (leBytes n v).length = n := by rw [leBytes, List.length_map, List.length_range]

theorem leBytes_succ (n v : Nat) : leBytes (n + 1) v = BitVec.ofNat 8 v :: leBytes n (v / 256) := by
  unfold leBytes
  rw [List.range_succ_eq_map, List.map_cons, List.map_map, Nat.pow_zero, Nat.div_one]
  refine congrArg _ (List.map_congr_left fun i _ => ?_)
  rw [Function.comp_apply, Nat.pow_succ, Nat.mul_comm, Nat.div_div_eq_div_mul]

theorem ofLE_leBytes (n v : Nat) : ofLE (leBytes n v) = v % 256 ^ n := by
  induction n generalizing v with
  | zero => rw [Nat.pow_zero, Nat.mod_one]; rfl
  | succ n ih =>
    rw [leBytes_succ, Nat.pow_succ, Nat.mul_comm, Nat.mod_mul, ← ih]
    rfl

theorem Mem.readLE_eq (m : Mem) (a n : Nat) : m.readLE a n = ofLE (m.readBytes a n) := by
  unfold Mem.readLE ofLE Mem.readBytes
  rw [List.foldr_map]

/-- The bytes of a field, read back from what was written. -/
theorem Mem.readBytes_field (m : Mem) (a : Nat) {bs : List Byte} (p f r : List Byte) (hbs : bs = p ++ f ++ r) :
    (m.writeBytes a bs).readBytes (a + p.length) f.length = f := by
  subst hbs
  refine List.ext_getElem (by simp [Mem.readBytes]) fun i h1 h2 => ?_
  have hlt : p.length + i < (p ++ f ++ r).length := by
    rw [List.length_append, List.length_append]
    omega
  simp only [Mem.readBytes, List.getElem_map, List.getElem_range, Mem.read_writeBytes]
  rw [if_pos ⟨by omega, by omega⟩, show a + p.length + i - a = p.length + i by omega, List.getD_eq_getElem _ _ hlt,
    List.getElem_append_left (by rw [List.length_append]; omega), List.getElem_append_right (Nat.le_add_right ..)]
  simp only [Nat.add_sub_cancel_left]

theorem Mem.readLE_field (m : Mem) (a : Nat) {bs : List Byte} (p : List Byte) (n v : Nat) (r : List Byte)
    (hbs : bs = p ++ leBytes n v ++ r) {k : Nat} (hk : k = a + p.length) : (m.writeBytes a bs).readLE k n = v % 256 ^ n := by
  have h := m.readBytes_field a p (leBytes n v) r hbs
  rw [leBytes_length] at h
  rw [Mem.readLE_eq, hk, h, ofLE_leBytes]

/-! ## The record of a store (R401, R403) -/

theorem flatten_map_length {α β : Type} (l : List α) (g : α → List β) (k : Nat) (h : ∀ x ∈ l, (g x).length = k) :
    ((l.map g).flatten).length = l.length * k := by
  induction l with
  | nil => simp
  | cons x l ih =>
    rw [List.map_cons, List.flatten_cons, List.length_append, h x (List.mem_cons_self ..),
      ih fun y hy => h y (List.mem_cons_of_mem _ hy), List.length_cons, Nat.succ_mul, Nat.add_comm]

theorem Dev.nvmBody_length (d : Dev) (base : Bool) : (d.nvmBody base).length = 12512 := by
  have hadc : ∀ n ∈ List.range 64, (if base && d.on .X_CAL_APPLIED n then
      ((List.range 64).map fun j => leBytes 3 (d.lget .CAL_TRIM_WORD (64 * n + j))).flatten
      else (List.range 192).map fun b => d.nvmByte (0x20 + 192 * n + b)).length = 192 := by
    intro n _
    split
    · rw [flatten_map_length _ _ 3 fun _ _ => leBytes_length .., List.length_range]
    · rw [List.length_map, List.length_range]
  unfold Dev.nvmBody
  simp only [List.length_append, List.length_replicate]
  rw [flatten_map_length _ _ 192 hadc, flatten_map_length _ _ 4 fun _ _ => leBytes_length ..,
    flatten_map_length _ _ 2 fun _ _ => leBytes_length .., flatten_map_length _ _ 2 fun _ _ => leBytes_length ..]
  simp only [List.length_range]

theorem Dev.nvmNextSeq_lt (d : Dev) : d.nvmNextSeq < 2 ^ 32 := by
  unfold Dev.nvmNextSeq
  split
  · exact Nat.mod_lt _ (by decide)
  · decide

theorem Dev.nvmTarget_lt (d : Dev) : d.nvmTarget < 2 := by
  unfold Dev.nvmTarget
  split <;> decide

/-- The record of a store: its signature, version, sequence number, length, check, time and count, then its body. -/
def nvmRecord (seq time writes : Nat) (body : List Byte) : List Byte :=
  leBytes 4 0x4E565164 ++ leBytes 2 1 ++ leBytes 2 0 ++ leBytes 4 seq ++ leBytes 4 12512 ++ leBytes 4 (crc32 body).toNat ++
    leBytes 8 time ++ leBytes 4 writes ++ body

/-- The record that a store of the device as it stands writes. -/
def Dev.nvmNext (d : Dev) : List Byte := nvmRecord d.nvmNextSeq d.now d.nvmNextWrites (d.nvmBody (d.on .X_NVM_BASE 0))

theorem Dev.nvmWrite_eq (d : Dev) : d.nvmWrite = { d with nvm := d.nvm.writeBytes (nvmSlot d.nvmTarget) d.nvmNext } := by
  unfold Dev.nvmWrite Dev.nvmNext nvmRecord
  rfl

section
variable (m : Mem) (a seq time writes : Nat) {body : List Byte}

theorem nvmRecord_seq : (m.writeBytes a (nvmRecord seq time writes body)).readLE (a + 8) 4 = seq % 256 ^ 4 :=
  m.readLE_field a (leBytes 4 0x4E565164 ++ leBytes 2 1 ++ leBytes 2 0) 4 seq
    (leBytes 4 12512 ++ leBytes 4 (crc32 body).toNat ++ leBytes 8 time ++ leBytes 4 writes ++ body)
    (by unfold nvmRecord; simp only [List.append_assoc]) (by simp only [List.length_append, leBytes_length])

/-- R401: a record that has been written is valid. -/
theorem nvmRecord_valid (hbody : body.length = 12512) :
    ((m.writeBytes a (nvmRecord seq time writes body)).readLE a 4 == 0x4E565164 &&
      (m.writeBytes a (nvmRecord seq time writes body)).readLE (a + 4) 2 == 1 &&
      (m.writeBytes a (nvmRecord seq time writes body)).readLE (a + 12) 4 == 12512 &&
      (m.writeBytes a (nvmRecord seq time writes body)).readLE (a + 16) 4 ==
        (crc32 ((m.writeBytes a (nvmRecord seq time writes body)).readBytes (a + 32) 12512)).toNat) = true := by
  have h1 : (m.writeBytes a (nvmRecord seq time writes body)).readLE a 4 = 0x4E565164 % 256 ^ 4 :=
    m.readLE_field a [] 4 0x4E565164 (leBytes 2 1 ++ leBytes 2 0 ++ leBytes 4 seq ++ leBytes 4 12512 ++
      leBytes 4 (crc32 body).toNat ++ leBytes 8 time ++ leBytes 4 writes ++ body)
      (by unfold nvmRecord; simp only [List.append_assoc, List.nil_append]) rfl
  have h2 : (m.writeBytes a (nvmRecord seq time writes body)).readLE (a + 4) 2 = 1 % 256 ^ 2 :=
    m.readLE_field a (leBytes 4 0x4E565164) 2 1 (leBytes 2 0 ++ leBytes 4 seq ++ leBytes 4 12512 ++ leBytes 4 (crc32 body).toNat ++
      leBytes 8 time ++ leBytes 4 writes ++ body)
      (by unfold nvmRecord; simp only [List.append_assoc]) (by rw [leBytes_length])
  have h3 : (m.writeBytes a (nvmRecord seq time writes body)).readLE (a + 12) 4 = 12512 % 256 ^ 4 :=
    m.readLE_field a (leBytes 4 0x4E565164 ++ leBytes 2 1 ++ leBytes 2 0 ++ leBytes 4 seq) 4 12512
      (leBytes 4 (crc32 body).toNat ++ leBytes 8 time ++ leBytes 4 writes ++ body)
      (by unfold nvmRecord; simp only [List.append_assoc]) (by simp only [List.length_append, leBytes_length])
  have h4 : (m.writeBytes a (nvmRecord seq time writes body)).readLE (a + 16) 4 = (crc32 body).toNat % 256 ^ 4 :=
    m.readLE_field a (leBytes 4 0x4E565164 ++ leBytes 2 1 ++ leBytes 2 0 ++ leBytes 4 seq ++ leBytes 4 12512) 4 (crc32 body).toNat
      (leBytes 8 time ++ leBytes 4 writes ++ body)
      (by unfold nvmRecord; simp only [List.append_assoc]) (by simp only [List.length_append, leBytes_length])
  have h5 : (m.writeBytes a (nvmRecord seq time writes body)).readBytes (a + 32) 12512 = body := by
    have h := m.readBytes_field a (leBytes 4 0x4E565164 ++ leBytes 2 1 ++ leBytes 2 0 ++ leBytes 4 seq ++ leBytes 4 12512 ++
      leBytes 4 (crc32 body).toNat ++ leBytes 8 time ++ leBytes 4 writes) body [] (bs := nvmRecord seq time writes body)
      (by unfold nvmRecord; rw [List.append_nil])
    simpa only [List.length_append, leBytes_length, hbody] using h
  have hcrc : (crc32 body).toNat % 256 ^ 4 = (crc32 body).toNat := Nat.mod_eq_of_lt (crc32 body).isLt
  rw [h1, h2, h3, h4, h5, hcrc, beq_self_eq_true]
  rfl

end

/-! ## Results (R404) -/

theorem Dev.nvmResult_plain (d : Dev) (r : Nat) {auto : Bool} (h : auto = false ∨ (r ≠ 2 ∧ r ≠ 3)) :
    d.nvmResult r auto = (d.set .CAL_NVM_STATUS_RESULT 0 r).raise 966 := by
  refine if_neg fun hc => ?_
  obtain ⟨ha, hr⟩ := Bool.and_eq_true_iff.mp hc
  rcases h with h | ⟨h2, h3⟩
  · exact Bool.false_ne_true (h.symm.trans ha)
  · exact (Bool.or_eq_true_iff.mp hr).elim (fun h => h2 (beq_iff_eq.mp h)) fun h => h3 (beq_iff_eq.mp h)

theorem Dev.nvmResult_retry (d : Dev) : d.nvmResult 2 true = (((d.set .CAL_NVM_STATUS_RESULT 0 2).raise 966).set .CAL_NVM_STATUS_RETRY 0 1).set
    .X_NVM_RETRY_CLK 0 ((d.set .CAL_NVM_STATUS_RESULT 0 2).raise 966).clk := by
  unfold Dev.nvmResult
  exact if_pos (by decide)

/-- A store that is refused. -/
theorem Dev.nvmRefused_shows {d : Dev} {r : Nat} {e : Dev} (he : e = d.nvmResult r false) :
    e.get .CAL_NVM_STATUS_RESULT 0 = r ∧ Dev.Raised 966 d e ∧ Dev.OnlyRaisingAt [.CAL_NVM_STATUS_RESULT] 0 d e := by
  rw [d.nvmResult_plain r (.inl rfl)] at he
  subst he
  refine ⟨(raise_get _ _ _ _ (by decide)).trans (Dev.get_set_same ..), .after rfl (Dev.get_set_field _ _ _ _ (by decide)) (by decide), ?_⟩
  exact (Dev.Only.raising (Dev.OnlyAt.write (.refl _ d) .CAL_NVM_STATUS_RESULT r)).raise _

/-- Every reading of a site that is there is fresh and in range. -/
def Dev.NvmFresh (d : Dev) : Prop := ∀ x < 40, d.siteGone x = false → ∃ v, d.recent x sec = some v ∧ nvmBad v = false

/-- The device in which a store has begun, before its readings. -/
def Dev.nvmBegun (d : Dev) (base auto : Bool) : Dev :=
  (((d.set .CAL_NVM_STATUS_BUSY 0 1).set .X_NVM_BASE 0 (b2n base)).set .X_NVM_AUTO 0 (b2n auto)).set .CAL_NVM_STATUS_RETRY 0 0

theorem Dev.nvmBegun_only (d : Dev) (base auto : Bool) :
    Dev.OnlyAt [.CAL_NVM_STATUS_BUSY, .X_NVM_BASE, .X_NVM_AUTO, .CAL_NVM_STATUS_RETRY] 0 d (d.nvmBegun base auto) :=
  Dev.OnlyAt.write (Dev.OnlyAt.write (Dev.OnlyAt.write (Dev.OnlyAt.write (.refl _ d) _ _) _ _) _ _) _ _

theorem Dev.nvmBegun_get (d : Dev) (base auto : Bool) : (d.nvmBegun base auto).get .CAL_NVM_STATUS_BUSY 0 = 1 ∧
    (d.nvmBegun base auto).get .X_NVM_BASE 0 = b2n base ∧ (d.nvmBegun base auto).get .X_NVM_AUTO 0 = b2n auto ∧
    (d.nvmBegun base auto).get .CAL_NVM_STATUS_RETRY 0 = 0 := by
  refine ⟨?_, ?_, ?_, Dev.get_set_same ..⟩
  · exact (Dev.get_set_field _ _ _ _ (by decide)).trans ((Dev.get_set_field _ _ _ _ (by decide)).trans
      ((Dev.get_set_field _ _ _ _ (by decide)).trans (Dev.get_set_same ..)))
  · exact (Dev.get_set_field _ _ _ _ (by decide)).trans ((Dev.get_set_field _ _ _ _ (by decide)).trans (Dev.get_set_same ..))
  · exact (Dev.get_set_field _ _ _ _ (by decide)).trans (Dev.get_set_same ..)

/-- What the readings of the sites are read from. -/
def siteFields : List F := [.PWR_D_STATUS_STATE, .THM_S_STATUS_STATE, .X_THM_REPCLK, .X_THM_READ, .THM_S_READING_REPLACE, .THM_S_READING_VALUE]

section
variable {d e : Dev} (hget : ∀ f ∈ siteFields, ∀ i, e.get f i = d.get f i)
include hget

theorem Dev.siteGone_congr (x : Nat) : e.siteGone x = d.siteGone x := by
  have hdom : e.dom (domTile (x / 8)) = d.dom (domTile (x / 8)) := hget _ (by decide) _
  unfold Dev.siteGone
  rw [hdom]

theorem Dev.recent_congr (hclk : e.clk = d.clk) (x k : Nat) : e.recent x k = d.recent x k := by
  have hfail : e.siteFailed x = d.siteFailed x := congrArg (· == 1) (hget .THM_S_STATUS_STATE (by decide) x)
  have hvalue : e.siteValue x = d.siteValue x := by
    unfold Dev.siteValue
    rw [hfail]
    cases d.siteFailed x
    · rw [if_neg Bool.false_ne_true, if_neg Bool.false_ne_true, hget .X_THM_READ (by decide), hget .THM_S_READING_VALUE (by decide)]
    · rw [if_pos rfl, if_pos rfl, hget .X_THM_REPCLK (by decide), hget .THM_S_READING_REPLACE (by decide)]
  unfold Dev.recent
  rw [hvalue, hclk]

theorem Dev.NvmFresh.congr (h : d.NvmFresh) (hclk : e.clk = d.clk) : e.NvmFresh := by
  intro x hx hgone
  rw [Dev.siteGone_congr hget] at hgone
  rw [Dev.recent_congr hget hclk]
  exact h x hx hgone

end

theorem Dev.NvmFresh.none_bad {d : Dev} (h : d.NvmFresh) : ¬ ((List.range 40).any fun s => !d.siteGone s &&
    (match d.recent s sec with | some v => nvmBad v | none => false)) = true := by
  intro hany
  obtain ⟨x, hx, hbad⟩ := List.any_eq_true.mp hany
  obtain ⟨hgone, hv⟩ := Bool.and_eq_true_iff.mp hbad
  obtain ⟨v, hrec, hok⟩ := h x (List.mem_range.mp hx) ((Bool.not_eq_true' _).mp hgone)
  rw [hrec] at hv
  exact Bool.false_ne_true (hok.symm.trans hv)

theorem Dev.NvmFresh.none_old {d : Dev} (h : d.NvmFresh) :
    ((List.range 40).filter fun s => !d.siteGone s && (d.recent s sec).isNone) = [] := by
  refine List.filter_eq_nil_iff.mpr fun x hx hold => ?_
  obtain ⟨hgone, hnone⟩ := Bool.and_eq_true_iff.mp hold
  obtain ⟨v, hrec, -⟩ := h x (List.mem_range.mp hx) ((Bool.not_eq_true' _).mp hgone)
  rw [hrec] at hnone
  exact Bool.false_ne_true hnone

theorem Dev.nvmStart_fresh {d : Dev} (base auto : Bool) (hbusy : d.get .CAL_NVM_STATUS_BUSY 0 ≠ 1) (hfresh : d.NvmFresh) :
    d.nvmStart base auto = (d.nvmBegun base auto).set .X_NVM_PHASE 0 2 := by
  have hkeep : ∀ f ∈ siteFields, ∀ i, (d.nvmBegun base auto).get f i = d.get f i := fun f hf i =>
    (d.nvmBegun_only base auto).2 f i fun h => (by decide : ∀ f ∈ siteFields, f ∉ [F.CAL_NVM_STATUS_BUSY, .X_NVM_BASE, .X_NVM_AUTO,
      .CAL_NVM_STATUS_RETRY]) f hf h.2
  have hold := (hfresh.congr hkeep rfl).none_old
  refine ((if_neg fun h => hbusy (beq_iff_eq.mp h)).trans (if_neg hfresh.none_bad)).trans ?_
  change (Dev.forList ((List.range 40).filter fun s => !(d.nvmBegun base auto).siteGone s && ((d.nvmBegun base auto).recent s sec).isNone) _
    (d.nvmBegun base auto)).set .X_NVM_PHASE 0 (if ((List.range 40).filter fun s => !(d.nvmBegun base auto).siteGone s &&
      ((d.nvmBegun base auto).recent s sec).isNone).isEmpty then 2 else 1) = _
  rw [hold]
  rfl

theorem nvmStart_begins {d : Dev} (base auto : Bool) (hbusy : d.get .CAL_NVM_STATUS_BUSY 0 ≠ 1) (hfresh : d.NvmFresh) {e : Dev}
    (he : e = d.nvmStart base auto) : e.get .CAL_NVM_STATUS_BUSY 0 = 1 ∧ e.get .X_NVM_PHASE 0 = 2 ∧ e.get .X_NVM_BASE 0 = b2n base ∧
      e.get .X_NVM_AUTO 0 = b2n auto ∧ e.get .CAL_NVM_STATUS_RETRY 0 = 0 ∧
      Dev.OnlyAt [.CAL_NVM_STATUS_BUSY, .X_NVM_PHASE, .X_NVM_BASE, .X_NVM_AUTO, .CAL_NVM_STATUS_RETRY] 0 d e := by
  rw [Dev.nvmStart_fresh base auto hbusy hfresh] at he
  obtain ⟨h1, h2, h3, h4⟩ := d.nvmBegun_get base auto
  have honly := d.nvmBegun_only base auto
  generalize d.nvmBegun base auto = b at he h1 h2 h3 h4 honly
  subst he
  refine ⟨(Dev.get_set_field _ _ _ _ (by decide)).trans h1, Dev.get_set_same .., (Dev.get_set_field _ _ _ _ (by decide)).trans h2,
    (Dev.get_set_field _ _ _ _ (by decide)).trans h3, (Dev.get_set_field _ _ _ _ (by decide)).trans h4, ?_⟩
  exact Dev.OnlyAt.write (honly.mono fun f i h => ⟨h.1, (by decide : ∀ f ∈ [F.CAL_NVM_STATUS_BUSY, .X_NVM_BASE, .X_NVM_AUTO,
    .CAL_NVM_STATUS_RETRY], f ∈ [F.CAL_NVM_STATUS_BUSY, .X_NVM_PHASE, .X_NVM_BASE, .X_NVM_AUTO, .CAL_NVM_STATUS_RETRY]) f h.2⟩) _ _

/-! ## Commands -/

theorem nvmStore_refused {s : State} (b : Bool) (hbusy : s.dev.get .CAL_NVM_STATUS_BUSY 0 = 1) :
    Completes (.nvmStore b) s fun e => e.get .CAL_NVM_STATUS_RESULT 0 = 2 ∧ Dev.Raised 966 s.dev e ∧
      Dev.OnlyRaisingAt [.CAL_NVM_STATUS_RESULT] 0 s.dev e := by
  refine .runIf (rfl : _ = execNvmStore b s) (beq_iff_eq.mpr hbusy) fun e he => ?_
  obtain ⟨h1, h2, h3⟩ := Dev.nvmRefused_shows he
  exact ⟨h1, h2.ofFound, h3.ofFound⟩

theorem nvmStore_outOfRange {s : State} (b : Bool) (hbusy : s.dev.get .CAL_NVM_STATUS_BUSY 0 ≠ 1)
    (hbad : ∃ x < 40, s.dev.siteGone x = false ∧ ∃ v, s.dev.recent x sec = some v ∧ nvmBad v = true) :
    Completes (.nvmStore b) s fun e => e.get .CAL_NVM_STATUS_RESULT 0 = 3 ∧ Dev.Raised 966 s.dev e ∧
      Dev.OnlyRaisingAt [.CAL_NVM_STATUS_RESULT] 0 s.dev e := by
  obtain ⟨x, hx, hgone, v, hrec, hv⟩ := hbad
  have hany : ((List.range 40).any fun s' => !s.found.siteGone s' &&
      (match s.found.recent s' sec with | some v => nvmBad v | none => false)) = true := by
    refine List.any_eq_true.mpr ⟨x, List.mem_range.mpr hx, ?_⟩
    rw [show s.found.siteGone x = false from hgone, show s.found.recent x sec = some v from hrec]
    exact hv
  refine .runElse (rfl : _ = execNvmStore b s) (fun h => hbusy (beq_iff_eq.mp h)) fun e he => ?_
  obtain ⟨h1, h2, h3⟩ := Dev.nvmRefused_shows (he.trans (if_pos hany))
  exact ⟨h1, h2.ofFound, h3.ofFound⟩

/-- R403: the record that is written, and the fields that show it. -/
theorem nvmStoreDone_writes {s : State} (hphase : s.dev.get .X_NVM_PHASE 0 = 2) : Completes .nvmStoreDone s fun e =>
    e.get .CAL_NVM_STATUS_SOURCE 0 = s.dev.nvmTarget ∧ e.get .CAL_NVM_SEQ_SEQ 0 = s.dev.nvmNextSeq ∧
      e.get .CAL_NVM_STATUS_BUSY 0 = 0 ∧ e.get .CAL_NVM_STATUS_RESULT 0 = 1 ∧ Dev.Raised 966 s.dev e ∧
      e.nvm = s.found.nvmWrite.nvm := by
  refine .runIf (rfl : _ = execNvmStoreDone s) hphase fun e he => ?_
  dsimp only at he
  have hw : s.found.nvmWrite = { s.found with nvm := s.found.nvmWrite.nvm } := by rw [Dev.nvmWrite_eq]
  have hwget : ∀ f i, s.found.nvmWrite.get f i = s.dev.get f i := fun f i => by
    rw [hw]
    rfl
  have hwpend : s.found.nvmWrite.pending = s.dev.pending := by
    rw [hw]
    rfl
  have htarget : s.found.nvmTarget = s.dev.nvmTarget := rfl
  have hseq : s.found.nvmNextSeq = s.dev.nvmNextSeq := rfl
  rw [htarget, hseq] at he
  generalize s.found.nvmWrite = w at he hwget hwpend
  have hb : ∀ b : Dev, b = ((w.set .CAL_NVM_STATUS_SOURCE 0 s.dev.nvmTarget).set .CAL_NVM_SEQ_SEQ 0 s.dev.nvmNextSeq).set
      .CAL_NVM_STATUS_WRITES 0 (min 65535 (((w.set .CAL_NVM_STATUS_SOURCE 0 s.dev.nvmTarget).set .CAL_NVM_SEQ_SEQ 0 s.dev.nvmNextSeq).nvmWrites
        s.dev.nvmTarget)) → b.get .CAL_NVM_STATUS_SOURCE 0 = s.dev.nvmTarget ∧ b.get .CAL_NVM_SEQ_SEQ 0 = s.dev.nvmNextSeq ∧
        (∀ i, b.get .PH_SRC_OCCUR i = s.dev.get .PH_SRC_OCCUR i) ∧ b.pending = s.dev.pending ∧ b.nvm = w.nvm := by
    rintro b rfl
    refine ⟨?_, ?_, fun i => ?_, hwpend, rfl⟩
    · exact (Dev.get_set_field _ _ _ _ (by decide)).trans ((Dev.get_set_field _ _ _ _ (by decide)).trans (Dev.get_set_same ..))
    · exact (Dev.get_set_field _ _ _ _ (by decide)).trans (Dev.get_set_same ..)
    · exact (Dev.get_set_field _ _ _ _ (by decide)).trans ((Dev.get_set_field _ _ _ _ (by decide)).trans
        ((Dev.get_set_field _ _ _ _ (by decide)).trans (hwget _ _)))
  generalize ((w.set .CAL_NVM_STATUS_SOURCE 0 s.dev.nvmTarget).set .CAL_NVM_SEQ_SEQ 0 s.dev.nvmNextSeq).set
      .CAL_NVM_STATUS_WRITES 0 (min 65535 (((w.set .CAL_NVM_STATUS_SOURCE 0 s.dev.nvmTarget).set .CAL_NVM_SEQ_SEQ 0 s.dev.nvmNextSeq).nvmWrites
        s.dev.nvmTarget)) = b at he hb
  obtain ⟨h1, h2, h3, h4, h5⟩ := hb b rfl
  have honly : Dev.Only (fun f _ => f ∈ [F.CAL_NVM_STATUS_BUSY, .X_NVM_PHASE, .X_NVM_AUTO, .X_NVM_PEND]) b
      ((b.setAll [.CAL_NVM_STATUS_BUSY, .X_NVM_PHASE, .X_NVM_AUTO] 0 0).setEach .X_NVM_PEND (List.range 40) 0) :=
    ((Dev.Only.refl _ b).setAll 0 (by decide)).setEach 0 (by decide)
  have hbusy : ((b.setAll [.CAL_NVM_STATUS_BUSY, .X_NVM_PHASE, .X_NVM_AUTO] 0 0).setEach .X_NVM_PEND (List.range 40) 0).get
      .CAL_NVM_STATUS_BUSY 0 = 0 := (Dev.setEach_get_field _ _ _ _ (by decide)).trans (Dev.setAll_get_of_mem _ _ _ (by decide))
  replace he : e = ((((b.setAll [.CAL_NVM_STATUS_BUSY, .X_NVM_PHASE, .X_NVM_AUTO] 0 0).setEach .X_NVM_PEND (List.range 40) 0).set
      .CAL_NVM_STATUS_RESULT 0 1).raise 966) := he.trans (Dev.nvmResult_plain _ 1 (.inr ⟨by decide, by decide⟩))
  generalize (b.setAll [.CAL_NVM_STATUS_BUSY, .X_NVM_PHASE, .X_NVM_AUTO] 0 0).setEach .X_NVM_PEND (List.range 40) 0 = c at he honly hbusy
  have hc : ∀ f i, f ∉ [F.CAL_NVM_STATUS_BUSY, .X_NVM_PHASE, .X_NVM_AUTO, .X_NVM_PEND] → f ≠ .CAL_NVM_STATUS_RESULT → f ∉ signalFields →
      e.get f i = b.get f i := fun f i h1 h2 h3 => by
    rw [he, raise_get _ _ _ _ h3, Dev.get_set_field _ _ _ _ h2]
    exact honly.2 f i h1
  have hcparts : c.pending = b.pending ∧ c.nvm = b.nvm := by
    rw [honly.1]
    exact ⟨rfl, rfl⟩
  refine ⟨(hc _ _ (by decide) (by decide) (by decide)).trans h1, (hc _ _ (by decide) (by decide) (by decide)).trans h2, ?_, ?_, ?_, ?_⟩
  · rw [he]
    exact (raise_get _ _ _ _ (by decide)).trans ((Dev.get_set_field _ _ _ _ (by decide)).trans hbusy)
  · rw [he]
    exact (raise_get _ _ _ _ (by decide)).trans (Dev.get_set_same ..)
  · rw [he]
    exact .after (hcparts.1.trans h4) ((Dev.get_set_field _ _ _ _ (by decide)).trans ((honly.2 _ _ (by decide)).trans (h3 _))) (by decide)
  · rw [he, (raise_only (fun _ _ => False) _ 966).1]
    exact hcparts.2.trans h5

theorem nvmRecord_seq_of_lt {m m' : Mem} {a : Nat} (d : Dev) (h : m' = m.writeBytes a d.nvmNext) :
    m'.readLE (a + 8) 4 = d.nvmNextSeq := by
  have hlt := d.nvmNextSeq_lt
  unfold Dev.nvmNext at h
  rw [h, nvmRecord_seq]
  generalize d.nvmNextSeq = q at hlt
  exact Nat.mod_eq_of_lt (lt_of_lt_of_eq hlt (by norm_num))

/-- R401, R403: the slot that has been written holds a valid record with its sequence number. -/
theorem nvm_written {d e : Dev} (h : e.nvm = d.nvmWrite.nvm) : e.nvmValid d.nvmTarget = true ∧ e.nvmSeq d.nvmTarget = d.nvmNextSeq := by
  replace h : e.nvm = d.nvm.writeBytes (nvmSlot d.nvmTarget) d.nvmNext := h.trans (by rw [Dev.nvmWrite_eq])
  refine ⟨?_, ?_⟩
  · unfold Dev.nvmValid
    rw [h]
    exact nvmRecord_valid d.nvm (nvmSlot d.nvmTarget) d.nvmNextSeq d.now d.nvmNextWrites (d.nvmBody_length _)
  · have hk : d.nvmTarget ≠ 3 := Nat.ne_of_lt (Nat.lt_trans d.nvmTarget_lt (by decide))
    exact (if_neg hk).trans (nvmRecord_seq_of_lt d h)

theorem nvmStoreRetry_begins {s : State} (hretry : s.dev.get .CAL_NVM_STATUS_RETRY 0 = 1)
    (hclk : s.dev.get .X_NVM_RETRY_CLK 0 + 60 * sec ≤ s.dev.clk) {P : Dev → Prop}
    (hp : ∀ e, e = (s.found.set .CAL_NVM_STATUS_RETRY 0 0).nvmStart false true → P e) : Completes .nvmStoreRetry s P :=
  .runIf (rfl : _ = execNvmStoreRetry s) (beq_iff_eq.mpr hretry) fun e he => hp e (he.trans (Dev.onTime_of_le hclk))

/-- Settles O57: stores that are refused, begin, end and are tried again. -/
theorem nvmStores : Obligations.NvmStores := by
  refine fun s => ⟨fun b => ⟨nvmStore_refused b, nvmStore_outOfRange b, fun hbusy hfresh => ?_⟩, fun hphase => ?_, fun hretry hclk => ⟨fun hbusy => ?_, fun hbusy hfresh => ?_⟩⟩
  · refine .runAs (rfl : _ = execNvmStore b s) fun e he => ?_
    obtain ⟨h1, h2, h3, -, -, h6⟩ := nvmStart_begins (d := s.found) b false hbusy hfresh he
    exact ⟨h1, h2, h3, Dev.Only.ofFound h6⟩
  · refine (nvmStoreDone_writes hphase).mono fun e ⟨h1, h2, h3, h4, h5, h6⟩ => ⟨h1, h2, h3, h4, h5, fun _ => nvm_written h6⟩
  · refine nvmStoreRetry_begins hretry hclk fun e he => ?_
    have hb : (s.found.set .CAL_NVM_STATUS_RETRY 0 0).get .CAL_NVM_STATUS_BUSY 0 = 1 := (Dev.get_set_field _ _ _ _ (by decide)).trans hbusy
    have hc : (s.found.set .CAL_NVM_STATUS_RETRY 0 0).clk = s.dev.clk := rfl
    generalize s.found.set .CAL_NVM_STATUS_RETRY 0 0 = b at he hb hc
    replace he : e = ((((b.set .CAL_NVM_STATUS_RESULT 0 2).raise 966).set .CAL_NVM_STATUS_RETRY 0 1).set .X_NVM_RETRY_CLK 0
        ((b.set .CAL_NVM_STATUS_RESULT 0 2).raise 966).clk) := (he.trans (if_pos (beq_iff_eq.mpr hb))).trans b.nvmResult_retry
    rw [he]
    refine ⟨?_, (Dev.get_set_field _ _ _ _ (by decide)).trans (Dev.get_set_same ..), (Dev.get_set_same ..).trans ((raise_clk ..).trans hc)⟩
    exact (Dev.get_set_field _ _ _ _ (by decide)).trans ((Dev.get_set_field _ _ _ _ (by decide)).trans
      ((raise_get _ _ _ _ (by decide)).trans (Dev.get_set_same ..)))
  · refine nvmStoreRetry_begins hretry hclk fun e he => ?_
    have hfresh' : (s.found.set .CAL_NVM_STATUS_RETRY 0 0).NvmFresh := Dev.NvmFresh.congr (d := s.dev)
      (fun f hf i => Dev.get_set_field _ _ _ _ ((by decide : ∀ f ∈ siteFields, f ≠ .CAL_NVM_STATUS_RETRY) f hf)) hfresh rfl
    have hb : (s.found.set .CAL_NVM_STATUS_RETRY 0 0).get .CAL_NVM_STATUS_BUSY 0 ≠ 1 := by
      rw [Dev.get_set_field _ _ _ _ (by decide)]
      exact hbusy
    obtain ⟨h1, -, -, h4, h5, -⟩ := nvmStart_begins false true hb hfresh' he
    exact ⟨h1, h5, h4⟩

end Sys2Proof.Machine
end

section
/-! PROOFS. Capture blocks: closing, draining and lost samples (R306, R313, R317, R318, R335, R488, R489). -/

-- One theorem at a time: the whole text is compiled under a memory limit, which the stacks of waiting threads would fill.
set_option Elab.async false

namespace Sys2Proof.Machine

open Sys2Proof

/-! ## Closing a block (R306, R313, R335) -/

theorem Dev.maskTest_off {d : Dev} {t : Nat} (b : BlockIn) (h : d.lon .CAP_T_CTRL_MASK_EN t = false) : d.maskTest t b = (d, false) :=
  if_neg fun hm => Bool.false_ne_true (h.symm.trans hm.2)

theorem Dev.blockWrite_running {d : Dev} {t : Nat} (b : BlockIn) (hruns : d.tapRuns t = true) (hmask : d.lon .CAP_T_CTRL_MASK_EN t = false) :
    d.blockWrite t b = if d.tapStreams t then if d.bufferFull t then d.loseBlock t b else d.putBlock t b none false
      else
        (d.putBlock t b (if (d.tapState t == ctPOST && decide (d.get .X_CAP_TRIG_SEQ t + d.lget .CAP_T_POST_BLOCKS t ≤ d.get .X_CAP_SEQ t)) &&
          decide (d.tapSegs t ≤ d.get .X_CAP_SEG t + 1) then some 1 else none)
          (d.tapState t == ctPOST && decide (d.get .X_CAP_TRIG_SEQ t + d.lget .CAP_T_POST_BLOCKS t ≤ d.get .X_CAP_SEQ t))).afterBlock t
          (d.tapState t == ctPOST && decide (d.get .X_CAP_TRIG_SEQ t + d.lget .CAP_T_POST_BLOCKS t ≤ d.get .X_CAP_SEQ t))
          ((d.tapState t == ctPOST && decide (d.get .X_CAP_TRIG_SEQ t + d.lget .CAP_T_POST_BLOCKS t ≤ d.get .X_CAP_SEQ t)) &&
            decide (d.tapSegs t ≤ d.get .X_CAP_SEG t + 1)) := by
  unfold Dev.blockWrite
  rw [hruns, Dev.maskTest_off b hmask]
  rfl

/-- What a tap that waits for its first trigger becomes after a block. -/
theorem Dev.afterBlock_open (d : Dev) (t : Nat) (final : Bool) : d.afterBlock t false final =
    if d.tapState t = ctFILLING ∧ d.lget .CAP_T_PRE_BLOCKS t ≤ d.get .X_CAP_WRITTEN t then
      (d.set .CAP_T_STATUS_STATE t ctARMED).set .X_CAP_AUTO_CLK t d.clk
    else d := rfl

/-- R313, R336: after a block before the trigger: FILLING ends once PRE blocks are written. -/
theorem Dev.afterBlock_shows (d : Dev) (t : Nat) (final : Bool) {e : Dev} (he : e = d.afterBlock t false final) :
    (∀ f i, f ≠ .CAP_T_STATUS_STATE → f ≠ .X_CAP_AUTO_CLK → e.get f i = d.get f i) ∧
      (d.tapState t = ctFILLING → e.tapState t = if d.lget .CAP_T_PRE_BLOCKS t ≤ d.get .X_CAP_WRITTEN t then ctARMED else ctFILLING) := by
  rw [Dev.afterBlock_open] at he
  by_cases h : d.tapState t = ctFILLING ∧ d.lget .CAP_T_PRE_BLOCKS t ≤ d.get .X_CAP_WRITTEN t
  · rw [he.trans (if_pos h)]
    refine ⟨fun f i h1 h2 => (Dev.get_set_field _ _ _ _ h2).trans (Dev.get_set_field _ _ _ _ h1), fun _ => ?_⟩
    rw [if_pos h.2]
    exact (Dev.get_set_field _ _ _ _ (by decide)).trans (Dev.get_set_same ..)
  · rw [he.trans (if_neg h)]
    refine ⟨fun _ _ _ _ => rfl, fun hst => ?_⟩
    rw [if_neg fun hle => h ⟨hst, hle⟩]
    exact hst

theorem blockWrite_closes {t : Fin 8} {s : State} (b : BlockIn) (hruns : s.dev.tapRuns t = true)
    (hmask : s.dev.lon .CAP_T_CTRL_MASK_EN t = false) (hroom : s.dev.bufferFull t = false)
    (hpost : ¬ (s.dev.tapStreams t = false ∧ s.dev.tapState t = ctPOST)) :
    Completes (.blockWrite t b) s fun e => e.get .X_CAP_SEQ t = (s.dev.get .X_CAP_SEQ t + 1) % 2 ^ F.X_CAP_SEQ.width ∧
      e.get .CAP_T_BLOCKS_VALUE t = (s.dev.get .CAP_T_BLOCKS_VALUE t + 1) % 2 ^ F.CAP_T_BLOCKS_VALUE.width ∧
      (s.dev.tapStreams t = true → e.get .X_CAP_QUEUED t = s.dev.get .X_CAP_QUEUED t + 1 ∧
        e.get .CAP_T_WRITE_PTR_BLOCK t = (s.dev.get .CAP_T_WRITE_PTR_BLOCK t + 1) % max 1 (s.dev.tapSize t)) ∧
      (s.dev.tapStreams t = false → s.dev.tapState t = ctFILLING → e.tapState t =
        if s.dev.lget .CAP_T_PRE_BLOCKS t ≤ e.get .X_CAP_WRITTEN t then ctARMED else ctFILLING) := by
  refine .runAs (rfl : _ = execBlockWrite t b s) fun e he => ?_
  rw [Dev.blockWrite_running (d := s.found) b hruns hmask] at he
  by_cases hs : s.dev.tapStreams t = true
  · replace he := (he.trans (if_pos hs)).trans (if_neg fun h => Bool.false_ne_true (hroom.symm.trans h))
    obtain ⟨-, h1, h2, h3⟩ := Dev.putBlock_shows _ _ _ _ _ he
    exact ⟨h1, h2, fun h => h3 h, fun h => (Bool.false_ne_true (h.symm.trans hs)).elim⟩
  · have hends : (s.found.tapState t == ctPOST && decide (s.found.get .X_CAP_TRIG_SEQ t + s.found.lget .CAP_T_POST_BLOCKS t ≤
        s.found.get .X_CAP_SEQ t)) = false := by
      rw [show (s.found.tapState t == ctPOST) = false from beq_eq_false_iff_ne.mpr fun h => hpost ⟨Bool.of_not_eq_true hs, h⟩]
      rfl
    replace he := he.trans (if_neg hs)
    rw [hends] at he
    obtain ⟨hk, h1, h2, -⟩ := s.found.putBlock_shows t b (if (false && decide (s.found.tapSegs t ≤ s.found.get .X_CAP_SEG t + 1)) = true
      then some 1 else none) false rfl
    have hst : _ = s.found.tapState t := (hk (L := [.CAP_T_STATUS_STATE]) (M := []) (by decide)).get .CAP_T_STATUS_STATE (by decide) t
    have hpre := (hk (L := []) (M := [.CAP_T_PRE_BLOCKS]) (by decide)).lget .CAP_T_PRE_BLOCKS (by decide) t
    generalize s.found.putBlock t b _ false = c at he h1 h2 hst hpre
    obtain ⟨h3, h4⟩ := Dev.afterBlock_shows _ _ _ he
    refine ⟨(h3 _ _ (by decide) (by decide)).trans h1, (h3 _ _ (by decide) (by decide)).trans h2, fun h => (hs h).elim, fun _ hfill => ?_⟩
    rw [h4 (hst.trans hfill), hpre, h3 _ _ (by decide) (by decide)]
    rfl

theorem blockWrite_loses {t : Fin 8} {s : State} (b : BlockIn) (hruns : s.dev.tapRuns t = true)
    (hmask : s.dev.lon .CAP_T_CTRL_MASK_EN t = false) (hfull : s.dev.bufferFull t = true) (hcount : (s.dev.fill t 0 b).count ≠ 0) :
    Completes (.blockWrite t b) s fun e => e.get .CAP_T_EVENTS_GAP t = 1 ∧ e.get .X_CAP_SEQ t = s.dev.get .X_CAP_SEQ t ∧
      e.get .X_CAP_FIRST t = s.dev.get .X_CAP_FIRST t + (s.dev.fill t 0 b).count := by
  refine .runAs (rfl : _ = execBlockWrite t b s) fun e he => ?_
  rw [Dev.blockWrite_running (d := s.found) b hruns hmask] at he
  have hs : s.dev.tapStreams t = true := (Bool.and_eq_true_iff.mp hfull).1
  replace he : e = s.found.loseSamples t 3 (s.dev.fill t 0 b).count b.time.toNat := (he.trans (if_pos hs)).trans (if_pos hfull)
  obtain ⟨h1, -, h3, -⟩ := s.found.loseSamples_shows t 3 b.time.toNat hcount he
  refine ⟨h3, ?_, h1⟩
  rw [he]
  exact (Dev.loseSamples_keeps (L := [.X_CAP_SEQ]) (M := []) s.found t 3 _ _ (by decide)).get _ (by decide) t

theorem sampleLoss_moves {t : Fin 8} {s : State} (cause : Fin 3) {k : Nat} (time : DWord) (hruns : s.dev.tapRuns t = true)
    (hcause : s.dev.tapStreams t = true ∨ cause.val ≠ 2) (hk : k ≠ 0) :
    Completes (.sampleLoss t cause k time) s fun e => e.get .X_CAP_FIRST t = s.dev.get .X_CAP_FIRST t + k ∧
      e.get .X_CAP_GAP t = 1 ∧ e.get .CAP_T_EVENTS_GAP t = 1 ∧ e.get .CAP_T_SAMPLES_LOST_VALUE t =
        (s.dev.get .CAP_T_SAMPLES_LOST_VALUE t + k) % 2 ^ F.CAP_T_SAMPLES_LOST_VALUE.width := by
  have hcond : (s.dev.tapRuns t && (s.dev.tapStreams t || cause.val != 2)) = true := by
    rw [hruns, Bool.true_and, Bool.or_eq_true_iff, bne_iff_ne]
    exact hcause
  exact .runIf (rfl : _ = execSampleLoss t cause k time s) hcond fun e he => s.found.loseSamples_shows t _ _ hk he

/-! ## A block that leaves the buffer (R317) -/

theorem Dev.blockLeft_shows {d : Dev} {t : Nat} (hwait : d.get .X_CAP_END_WAIT t = 0) {e : Dev} (he : e = d.blockLeft t) :
    e.get .X_CAP_QUEUED t = d.get .X_CAP_QUEUED t - 1 ∧ e.frames = d.frames ∧ e.out = d.out := by
  unfold Dev.blockLeft at he
  extract_lets r b1 b2 w at he
  have hw : w = 0 := (Dev.get_set_field _ _ _ _ (by decide)).trans ((Dev.get_set_field _ _ _ _ (by decide)).trans hwait)
  rw [he.trans (if_pos hw)]
  exact ⟨Dev.get_set_same .., rfl, rfl⟩

theorem Dev.tapDone_sends (d : Dev) (t : Nat) : Dev.Sends d (d.tapDone t) ∧ (d.tapDone t).frames = d.frames := by
  obtain ⟨-, -, -, hframes, -, hout⟩ := d.letGo_parts t false
  have h : ∀ b : Dev, b.frames = d.frames → b.out = d.out → Dev.Sends d (b.raise (768 + 4 * t)) ∧ (b.raise (768 + 4 * t)).frames = d.frames := by
    intro b hf ho
    have hs := raise_sends b (768 + 4 * t)
    rw [Dev.Sends, ho] at hs
    refine ⟨hs, ?_⟩
    rw [(raise_only (fun _ _ => False) b (768 + 4 * t)).1]
    exact hf
  exact h _ hframes hout

theorem Dev.checkDrained_shows (d : Dev) (t : Nat) {e : Dev} (he : e = d.checkDrained t) :
    e.get .X_CAP_QUEUED t = d.get .X_CAP_QUEUED t ∧ e.get .X_CAP_FRAME_SEQ t = d.get .X_CAP_FRAME_SEQ t ∧ e.frames = d.frames ∧
      Dev.Sends d e := by
  unfold Dev.checkDrained at he
  split at he
  · obtain ⟨h1, h2⟩ := d.tapDone_sends t
    have hk := (d.tapDone_shows t rfl).2.2.2 (L := [.X_CAP_QUEUED, .X_CAP_FRAME_SEQ]) (M := []) (by decide)
    rw [he]
    exact ⟨hk.get _ (by decide) t, hk.get _ (by decide) t, h2, h1⟩
  · rw [he]
    exact ⟨rfl, rfl, rfl, .refl d⟩

/-! ## A block that drains to a frame (R318) -/

theorem blockDrain_frames {t : Fin 8} {s : State} (bad : Bool) (hst : s.dev.tapState t = ctSTREAMING ∨ s.dev.tapState t = ctDRAINING)
    (hqueued : 0 < s.dev.get .X_CAP_QUEUED t) (hwait : s.dev.get .X_CAP_END_WAIT t = 0) (hmode : s.dev.tapMode t ≠ 2) :
    Completes (.blockDrain t bad) s fun e => e.get .X_CAP_QUEUED t = s.dev.get .X_CAP_QUEUED t - 1 ∧
      e.frames = s.dev.frames ++ [(t.val, s.dev.drainBytes t bad)] := by
  refine .runIf (rfl : _ = execBlockDrain t bad s) ⟨hst, hqueued⟩ fun e he => ?_
  replace he := he.trans (if_neg hmode)
  unfold Dev.drainFrame at he
  extract_lets bs b1 b2 at he
  have hb2 : b2.get .X_CAP_QUEUED t = s.dev.get .X_CAP_QUEUED t ∧ b2.get .X_CAP_END_WAIT t = s.dev.get .X_CAP_END_WAIT t ∧
      b2.frames = s.dev.frames := by
    unfold b2
    split
    · exact ⟨rfl, rfl, rfl⟩
    · exact ⟨Dev.get_set_field _ _ _ _ (by decide), Dev.get_set_field _ _ _ _ (by decide), rfl⟩
  obtain ⟨hq, hw, hf⟩ := hb2
  have hbs : bs = s.dev.drainBytes t bad := rfl
  clear_value b2 bs
  obtain ⟨h1, h2, -⟩ := Dev.blockLeft_shows (d := { b2 with frames := b2.frames ++ [(t.val, bs)] }) (hw.trans hwait) he
  exact ⟨h1.trans (congrArg (· - 1) hq), h2.trans (by rw [← hbs, ← hf])⟩

theorem dropSamples_all (t : Nat) (l : List (Nat × List Byte)) :
    ∀ x ∈ dropSamples t (l.filter fun e => e.1 == t).length l, x.1 ≠ t := by
  induction l with
  | nil => exact fun x hx => absurd hx (by cases h : (List.filter (fun e : Nat × List Byte => e.1 == t) []).length <;> exact List.not_mem_nil)
  | cons y l ih =>
    by_cases hy : y.1 = t
    · rw [List.filter_cons_of_pos (by exact beq_iff_eq.mpr hy), List.length_cons, dropSamples, if_pos hy]
      exact ih
    · rw [List.filter_cons_of_neg (by exact fun h => hy (beq_iff_eq.mp h))]
      intro x hx
      cases hn : (l.filter fun e => e.1 == t).length with
      | zero =>
        rw [hn, dropSamples] at hx
        rcases List.mem_cons.mp hx with rfl | hx
        · exact hy
        · refine ih x ?_
          rw [hn, dropSamples]
          exact hx
      | succ k =>
        rw [hn, dropSamples, if_neg hy] at hx
        rcases List.mem_cons.mp hx with rfl | hx
        · exact hy
        · refine ih x ?_
          rw [hn]
          exact hx

/-- The blocks of a tap that wait for a frame. -/
def Dev.waitingBlocks (d : Dev) (t : Nat) : List (List Byte) := (d.frames.filter fun e => e.1 == t).map (·.2)

theorem Dev.waitingBlocks_length (d : Dev) (t : Nat) : (d.waitingBlocks t).length = (d.frames.filter fun e => e.1 == t).length :=
  List.length_map _

/-- R318: a frame that goes out on a READY lane. -/
theorem Dev.sendFrame_shows {d : Dev} {t n : Nat} (hready : d.hl (d.get .X_COUT_LANE (d.coutFrom t (d.get .X_CAP_LANE t))) = hlREADY)
    (hsome : ((d.waitingBlocks t).take n).isEmpty = false) {e : Dev} (he : e = d.sendFrame t n) :
    Out.captureFrame (d.get .X_COUT_LANE (d.coutFrom t (d.get .X_CAP_LANE t)))
        (d.frameBytes t (d.coutFrom t (d.get .X_CAP_LANE t)) ((d.waitingBlocks t).take n)) ∈ e.out ∧
      e.get .X_CAP_FRAME_SEQ t = (d.get .X_CAP_FRAME_SEQ t + 1) % 2 ^ F.X_CAP_FRAME_SEQ.width ∧
      e.frames = dropSamples t ((d.waitingBlocks t).take n).length d.frames := by
  have hcond : ¬ (d.hl (d.get .X_COUT_LANE (d.coutFrom t (d.get .X_CAP_LANE t))) ≠ hlREADY ∨ ((d.waitingBlocks t).take n).isEmpty = true) :=
    fun h => h.elim (fun h => h hready) fun h => Bool.false_ne_true (hsome.symm.trans h)
  unfold Dev.sendFrame at he
  replace he := he.trans (if_neg hcond)
  dsimp only at he
  obtain ⟨-, h2, h3, h4⟩ := Dev.checkDrained_shows _ _ he
  refine ⟨h4.mem ?_, h2.trans ?_, h3⟩
  · exact List.mem_append_right d.out (List.mem_singleton.mpr rfl)
  · refine (Dev.get_set_field _ _ _ _ (by decide)).trans ((Dev.get_set_same ..).trans ?_)
    rw [Dev.get_set_field _ _ _ _ (by decide)]
    rfl

theorem captureOutFrame_sends {t : Fin 8} {s : State}
    (hready : s.dev.hl (s.dev.get .X_COUT_LANE (s.dev.coutFrom t (s.dev.get .X_CAP_LANE t))) = hlREADY)
    (htwo : 2 ≤ (s.dev.waitingBlocks t).length) :
    Completes (.captureOutFrame t) s fun e =>
      Out.captureFrame (s.dev.get .X_COUT_LANE (s.dev.coutFrom t (s.dev.get .X_CAP_LANE t)))
        (s.dev.frameBytes t (s.dev.coutFrom t (s.dev.get .X_CAP_LANE t)) ((s.dev.waitingBlocks t).take 2)) ∈ e.out ∧
      e.get .X_CAP_FRAME_SEQ t = (s.dev.get .X_CAP_FRAME_SEQ t + 1) % 2 ^ F.X_CAP_FRAME_SEQ.width := by
  refine .runIf (rfl : _ = execCaptureOutFrame t s) (.inl (s.dev.waitingBlocks_length t ▸ htwo)) fun e he => ?_
  have hsome : ((s.found.waitingBlocks t).take 2).isEmpty = false := by
    rw [List.isEmpty_eq_false_iff_exists_mem]
    refine List.exists_mem_of_length_pos ?_
    rw [List.length_take]
    exact Nat.lt_min.mpr ⟨by decide, Nat.lt_of_lt_of_le (by decide) htwo⟩
  obtain ⟨h1, h2, -⟩ := Dev.sendFrame_shows (d := s.found) hready hsome he
  exact ⟨h1, h2⟩

theorem blockPartnerTimeout_sends {t : Fin 8} {s : State}
    (hready : s.dev.hl (s.dev.get .X_COUT_LANE (s.dev.coutFrom t (s.dev.get .X_CAP_LANE t))) = hlREADY)
    (hone : (s.dev.waitingBlocks t).length = 1) (hclk : s.dev.get .X_CAP_WAIT_CLK t + 16 * us ≤ s.dev.clk) :
    Completes (.blockPartnerTimeout t) s fun e =>
      Out.captureFrame (s.dev.get .X_COUT_LANE (s.dev.coutFrom t (s.dev.get .X_CAP_LANE t)))
        (s.dev.frameBytes t (s.dev.coutFrom t (s.dev.get .X_CAP_LANE t)) (s.dev.waitingBlocks t)) ∈ e.out ∧
      ∀ x ∈ e.frames, x.1 ≠ t := by
  have hlen : (s.dev.frames.filter fun e => e.1 == t.val).length = 1 := (s.dev.waitingBlocks_length t).symm.trans hone
  refine .runIf (rfl : _ = execBlockPartnerTimeout t s) hlen fun e he => ?_
  have htake : (s.found.waitingBlocks t).take 1 = s.dev.waitingBlocks t := List.take_of_length_le (Nat.le_of_eq hone)
  have hsome : ((s.found.waitingBlocks t).take 1).isEmpty = false := by
    rw [htake, List.isEmpty_eq_false_iff_exists_mem]
    exact List.exists_mem_of_length_pos (hone ▸ Nat.one_pos)
  obtain ⟨h1, -, h3⟩ := Dev.sendFrame_shows (d := s.found) hready hsome (he.trans (Dev.onTime_of_le hclk))
  rw [htake] at h1 h3
  refine ⟨h1, fun x hx => ?_⟩
  rw [h3, hone, ← hlen] at hx
  exact dropSamples_all t.val s.dev.frames x hx

/-! ## A block that drains to the host (R489, R490) -/

theorem Dev.drainBytes_length (d : Dev) (t : Nat) (bad : Bool) : (d.drainBytes t bad).length = 4096 := by
  have h : ∀ a n, (d.bytesNow a n).length = n := fun a n => by rw [Dev.bytesNow, List.length_map, List.length_range]
  unfold Dev.drainBytes
  dsimp only
  split
  · rw [List.length_append, leBytes_length, List.length_drop, h]
  · exact h ..

theorem Dev.drainBytes_turn (d : Dev) (t : Nat) (bad : Bool) (i v : Nat) : (d.set .X_DMA_TURN i v).drainBytes t bad = d.drainBytes t bad := by
  have hptr : (d.set .X_DMA_TURN i v).get .CAP_T_READ_PTR_BLOCK t = d.get .CAP_T_READ_PTR_BLOCK t := Dev.get_set_field _ _ _ _ (by decide)
  have haddr : ∀ k, (d.set .X_DMA_TURN i v).blockAddr t k = d.blockAddr t k := fun k => by
    unfold Dev.blockAddr Dev.regionLo
    rw [Dev.get_set_field _ _ _ _ (by decide)]
    rfl
  have hnow : ∀ a n, (d.set .X_DMA_TURN i v).bytesNow a n = d.bytesNow a n := fun _ _ => rfl
  unfold Dev.drainBytes
  rw [hptr, haddr, hnow]

/-- The writes of some bytes to the host, in terms of a device that differs only in what waits at the memory. -/
theorem hostData_writes_congr {d m : Dev} (hm : m.reg = d.reg) (a : Nat) {bs : List Byte} (bad : Bool) {n i : Nat} (hlen : bs.length = n)
    (hpos : 0 < d.get .X_PCIE_MPS 0) (hi : d.get .X_PCIE_MPS 0 * i < n) : Out.hostWrite (a + d.get .X_PCIE_MPS 0 * i)
      ((bs.drop (d.get .X_PCIE_MPS 0 * i)).take (d.get .X_PCIE_MPS 0)) (d.on .X_PCIE_RO 0) bad ∈ (m.hostData a bs bad).out := by
  have hmps : m.get .X_PCIE_MPS 0 = d.get .X_PCIE_MPS 0 := congrArg (fun r : Store => r.get ⟨.X_PCIE_MPS, 0⟩) hm
  have hro : m.on .X_PCIE_RO 0 = d.on .X_PCIE_RO 0 := congrArg (fun r : Store => r.get ⟨.X_PCIE_RO, 0⟩ == 1) hm
  subst hlen
  rw [← hmps, ← hro]
  rw [← hmps] at hpos hi
  exact hostData_writes m a bs bad hpos hi

theorem Dev.addWrap_out (d : Dev) (f : F) (i n : Nat) : (d.addWrap f i n).out = d.out := rfl

theorem Dev.blockToHost_shows {d : Dev} {t q : Nat} {bad : Bool} {x : Desc} (hwait : d.get .X_CAP_END_WAIT t = 0)
    (hmps : 0 < d.get .X_PCIE_MPS 0) {e : Dev} (he : e = d.blockToHost t q bad x) :
    e.get .X_CAP_QUEUED t = d.get .X_CAP_QUEUED t - 1 ∧ ∀ i, d.get .X_PCIE_MPS 0 * i < 4096 →
      Out.hostWrite (x.host + x.moved + d.get .X_PCIE_MPS 0 * i) (((d.drainBytes t bad).drop (d.get .X_PCIE_MPS 0 * i)).take (d.get .X_PCIE_MPS 0))
        (d.on .X_PCIE_RO 0) false ∈ e.out := by
  unfold Dev.blockToHost at he
  extract_lets bs b1 b2 at he
  have hlen : bs.length = 4096 := d.drainBytes_length t bad
  have hbs : d.drainBytes t bad = bs := rfl
  clear_value bs
  rw [hbs]
  have hb1 : ∀ f i, b1.get f i = d.get f i := fun f i => by
    unfold b1
    rw [(hostData_only _ _ _ _).1]
    rfl
  have hout1 : ∀ i, d.get .X_PCIE_MPS 0 * i < 4096 → Out.hostWrite (x.host + x.moved + d.get .X_PCIE_MPS 0 * i)
      ((bs.drop (d.get .X_PCIE_MPS 0 * i)).take (d.get .X_PCIE_MPS 0)) (d.on .X_PCIE_RO 0) false ∈ b1.out := fun i hi =>
    hostData_writes_congr (m := d.memRead 1 (d.blockAddr t (d.get .CAP_T_READ_PTR_BLOCK t)) 4096 bad) rfl _ false hlen hmps hi
  have hb2 : b2.get .X_CAP_QUEUED t = d.get .X_CAP_QUEUED t ∧ b2.get .X_CAP_END_WAIT t = 0 ∧ b2.out = b1.out :=
    ⟨(Dev.get_set_field _ _ _ _ (by decide)).trans (hb1 _ _), (Dev.get_set_field _ _ _ _ (by decide)).trans ((hb1 _ _).trans hwait),
      Dev.addWrap_out ..⟩
  obtain ⟨hq, hw, ho⟩ := hb2
  clear_value b1 b2
  obtain ⟨h1, -, h3⟩ := Dev.blockLeft_shows hw (rfl : b2.blockLeft t = _)
  obtain ⟨h4, -, -, h5⟩ := Dev.checkDrained_shows _ _ he
  refine ⟨h4.trans (h1.trans (congrArg (· - 1) hq)), fun i hi => h5.mem ?_⟩
  rw [h3, ho]
  exact hout1 i hi

theorem Dev.unitTurns_once {badQ badT : Option Nat} {p : Dev → Bool} (n : Nat) {d : Dev} (h1 : p d = true)
    (h2 : p (d.unitTurn badQ badT) = false) : Dev.unitTurns badQ badT p (n + 2) d = d.unitTurn badQ badT := by
  rw [Dev.unitTurns, if_pos h1, Dev.unitTurns, if_neg (h2 ▸ Bool.false_ne_true)]

theorem maxUnits_succ : ∃ n, maxUnits = n + 2 := ⟨2 ^ 26 - 2, rfl⟩

/-- R490: with one capture queue that has a block and a descriptor, and no general queue, the block has the turn. -/
theorem Dev.unitTurn_capture {d : Dev} {t q : Nat} {x : Desc} (badQ badT : Option Nat) (hready : d.captureReady q = some t)
    (hdesc : d.openDesc q = some x) (hq : q < 8) (hcapture : ∀ p < 8, p ≠ q → d.captureReady p = none)
    (hgeneral : ∀ p < 16, 8 ≤ p → d.generalReady p = none) :
    d.unitTurn badQ badT = (d.set .X_DMA_TURN 0 q).blockToHost t q (badT == some t) x := by
  have hmod : ∀ k, k % 8 < 8 := fun k => Nat.mod_lt _ (by decide)
  have hurgent : d.nextTurn 1 8 d.generalUrgent = none := by
    refine List.find?_eq_none.mpr fun p hp => ?_
    obtain ⟨i, -, rfl⟩ := List.mem_map.mp hp
    unfold Dev.generalUrgent
    rw [hgeneral _ (by have := hmod (d.get .X_DMA_TURN 1 + 1 + i); omega) (Nat.le_add_right ..)]
    exact Bool.false_ne_true
  have hturn : d.nextTurn 0 0 (fun q => (d.captureReady q).isSome) = some q := by
    cases hn : d.nextTurn 0 0 fun q => (d.captureReady q).isSome with
    | none =>
      have hmem : q ∈ (List.range 8).map fun i => 0 + (d.get .X_DMA_TURN 0 + 1 + i) % 8 :=
        List.mem_map.mpr ⟨(q + 8 - (d.get .X_DMA_TURN 0 + 1) % 8) % 8, List.mem_range.mpr (hmod _), by omega⟩
      have hnone := List.find?_eq_none.mp hn q hmem
      rw [hready] at hnone
      exact (hnone rfl).elim
    | some p =>
      have hsome : (d.captureReady p).isSome = true := List.find?_some (p := fun q => (d.captureReady q).isSome) hn
      obtain ⟨i, -, hp⟩ := List.mem_map.mp (List.mem_of_find?_eq_some hn)
      by_cases hpq : p = q
      · rw [hpq]
      · rw [hcapture p (by have := hmod (d.get .X_DMA_TURN 0 + 1 + i); omega) hpq] at hsome
        exact (Bool.false_ne_true hsome).elim
  unfold Dev.unitTurn
  simp only [hurgent, hturn, hready, hdesc]

theorem blockDrain_host {t : Fin 8} {s : State} (bad : Bool) (hst : s.dev.tapState t = ctSTREAMING ∨ s.dev.tapState t = ctDRAINING)
    (hqueued : 0 < s.dev.get .X_CAP_QUEUED t) (hwait : s.dev.get .X_CAP_END_WAIT t = 0) {x : Desc} {mps : Nat}
    (hmode : s.dev.tapMode t = 2) (hready : s.dev.captureReady (s.dev.lget .CAP_T_DRAIN_QUEUE t) = some t.val)
    (hdesc : s.dev.openDesc (s.dev.lget .CAP_T_DRAIN_QUEUE t) = some x) (hq : s.dev.lget .CAP_T_DRAIN_QUEUE t < 8)
    (hcapture : ∀ p < 8, p ≠ s.dev.lget .CAP_T_DRAIN_QUEUE t → s.dev.captureReady p = none)
    (hgeneral : ∀ p < 16, 8 ≤ p → s.dev.generalReady p = none) (hmps : mps = s.dev.get .X_PCIE_MPS 0) (hpos : 0 < mps) :
    Completes (.blockDrain t bad) s fun e => e.get .X_CAP_QUEUED t = s.dev.get .X_CAP_QUEUED t - 1 ∧
      ∀ i, mps * i < 4096 → Out.hostWrite (x.host + x.moved + mps * i) (((s.dev.drainBytes t bad).drop (mps * i)).take mps)
        (s.dev.on .X_PCIE_RO 0) false ∈ e.out := by
  refine .runIf (rfl : _ = execBlockDrain t bad s) ⟨hst, hqueued⟩ fun e he => ?_
  replace he : e = s.found.drainDma t bad := he.trans (if_pos hmode)
  generalize hqv : s.dev.lget .CAP_T_DRAIN_QUEUE t = q at hready hdesc hq hcapture
  have hrun : s.dev.dq q = dqRUNNING ∧ s.dev.on .DMA_Q_STATUS_PAUSED q = false := by
    have hr := hready
    unfold Dev.captureReady at hr
    split at hr
    · next hc => exact ⟨hc.1, (Bool.not_eq_true' _).mp hc.2.1⟩
    · exact nomatch hr
  have hbad : ((if bad then some t.val else none : Option Nat) == some t.val) = bad := by cases bad <;> simp
  have hturn : s.found.unitTurn none (if bad then some t.val else none) = (s.found.set .X_DMA_TURN 0 q).blockToHost t q bad x := by
    have h := Dev.unitTurn_capture (d := s.found) none (if bad then some t.val else none) hready hdesc hq hcapture hgeneral
    rwa [hbad] at h
  have hget : ∀ f i, f ≠ .X_DMA_TURN → (s.found.set .X_DMA_TURN 0 q).get f i = s.dev.get f i := fun f i hf => Dev.get_set_field _ _ _ _ hf
  have hmps' : mps = (s.found.set .X_DMA_TURN 0 q).get .X_PCIE_MPS 0 := hmps.trans (hget _ _ (by decide)).symm
  obtain ⟨h1, h2⟩ := Dev.blockToHost_shows (t := t.val) (q := q) (bad := bad) (x := x) ((hget .X_CAP_END_WAIT t (by decide)).trans hwait) (hmps' ▸ hpos) hturn
  rw [Dev.drainBytes_turn, ← hmps'] at h2
  rw [hget _ _ (by decide)] at h1
  have hpre : (decide (s.found.get .X_CAP_QUEUED t = s.found.get .X_CAP_QUEUED t) && s.found.captureReady q == some t.val) = true := by
    rw [show s.found.captureReady q = some t.val from hready]
    simp
  have hpost : (decide ((s.found.unitTurn none (if bad then some t.val else none)).get .X_CAP_QUEUED t = s.found.get .X_CAP_QUEUED t) &&
      (s.found.unitTurn none (if bad then some t.val else none)).captureReady q == some t.val) = false := by
    rw [decide_eq_false (by rw [h1]; exact Nat.ne_of_lt (Nat.sub_lt hqueued Nat.one_pos)), Bool.false_and]
  have hdma : s.found.drainDma t bad = s.found.unitTurn none (if bad then some t.val else none) := by
    obtain ⟨n, hn⟩ := maxUnits_succ
    unfold Dev.drainDma
    rw [show s.found.lget .CAP_T_DRAIN_QUEUE t = q from hqv]
    refine (if_neg fun h => h.elim (fun h => h hrun.1) fun h => Bool.false_ne_true (hrun.2.symm.trans h)).trans ?_
    refine (if_neg (by rw [show s.found.openDesc q = some x from hdesc]; exact Bool.false_ne_true)).trans ?_
    rw [hn]
    exact Dev.unitTurns_once n hpre hpost
  rw [he, hdma]
  have hro : (s.found.set .X_DMA_TURN 0 q).on .X_PCIE_RO 0 = s.dev.on .X_PCIE_RO 0 := congrArg (· == 1) (hget .X_PCIE_RO 0 (by decide))
  rw [hro] at h2
  exact ⟨h1, h2⟩

/-- Settles O51: blocks that close, drain and are lost, and the frames of capture-out lanes. -/
theorem captureBlocks : Obligations.CaptureBlocks := by
  refine fun t s => ⟨fun b hruns hmask => ⟨blockWrite_closes b hruns hmask, blockWrite_loses b hruns hmask⟩,
    fun bad hst hqueued hwait => ⟨blockDrain_frames bad hst hqueued hwait, fun x mps => blockDrain_host bad hst hqueued hwait⟩,
    fun cause k time => sampleLoss_moves cause time, fun hready => ⟨captureOutFrame_sends hready, blockPartnerTimeout_sends hready⟩⟩

end Sys2Proof.Machine
end

section
/-! PROOFS. Ledger periods and their records, far reports and rebase (R407, R411, R413, R416, R433). -/

-- One theorem at a time: the whole text is compiled under a memory limit, which the stacks of waiting threads would fill.
set_option Elab.async false

namespace Sys2Proof.Machine

open Sys2Proof

/-! ## A trigger leaves the fields of other blocks alone -/

section
variable {L N M : List F} {n : Nat} {d e : Dev} (hc : ∀ f ∈ triggerFields, f ∉ L ++ N)

theorem Dev.Steady.toTaps (h : Dev.Steady L N n M d e) (mask src info time : Nat) (falling : Bool) (lanes : List Nat) :
    Dev.Steady L N n M d (e.toTaps mask src info time falling lanes) := by
  refine h.trans ?_
  unfold Dev.toTaps
  extract_lets m
  clear_value m
  split
  · exact .refl e
  · exact .same rfl rfl rfl rfl

include hc

theorem Dev.Steady.xtrigEvent (h : Dev.Steady L N n M d e) (src : Nat) : Dev.Steady L N n M d (e.xtrigEvent src) := by
  have hsig : ∀ f ∈ signalFields, f ∉ L ++ N := fun f hf => hc f (List.mem_append_right _ hf)
  refine Dev.Steady.forList (l := List.range 2) h fun j _ a => ?_
  split
  · split
    · exact ((Dev.Steady.refl a).write .CAP_XTRIG_STATUS_MERGED 0 _ (hc _ (by decide))).raise 801 hsig
    · have hend : Dev.Steady L N n M a ((a.set .X_XTRIG_END j (a.clk + cycleSpan (a.get .X_TIME_PHASE 0) 9)).send (.xtrig j)) :=
        ((Dev.Steady.refl a).write .X_XTRIG_END j _ (hc _ (by decide))).trans (.same rfl rfl rfl rfl)
      exact hend.toTaps ..
  · exact .refl a

theorem Dev.Steady.trigger (h : Dev.Steady L N n M d e) (src lane info time : Nat) : Dev.Steady L N n M d (e.trigger src lane info time) := by
  exact Dev.Steady.xtrigEvent hc (h.toTaps ..) src

end

/-! ## The end of a period for one lane (R407 to R416) -/

/-- What the end of a period for a lane leaves alone until its record is made. -/
def periodKept : List F := [.LEDG_L_CFG_ENABLES, .LEDG_PERIOD_COUNT_COUNT, .X_LG_CLOSED, .LEDG_CTRL_PERIOD_IRQ, .X_LG_UNWRITTEN,
  .X_LG_TICKS, .LEDG_L_STATUS_FAR_FRESH]

section
variable {n : Nat} {d e : Dev}

theorem Dev.lgQueue_steady (h : Dev.Steady periodKept [] n [] d e) (kind idx : Nat) (step : Int) :
    Dev.Steady periodKept [] n [] d (e.lgQueue n kind idx step) := h.trans (.same rfl rfl rfl rfl)

theorem Dev.lgStop_steady (h : Dev.Steady periodKept [] n [] d e) (a : Nat) : Dev.Steady periodKept [] n [] d (e.lgStop n a) :=
  h.write .X_LG_EXH n _

theorem Dev.lgWiden_steady (d : Dev) (n : Nat) : Dev.Steady periodKept [] n [] d (d.lgWiden n) := by
  unfold Dev.lgWiden
  split
  · refine Dev.Steady.forList (l := List.range 3) (.refl d) fun k _ b => ?_
    split
    · dsimp only
      split
      · exact Dev.lgQueue_steady (Dev.lgQueue_steady (.refl b) ..) ..
      · exact Dev.lgStop_steady (.refl b) _
    · exact .refl b
  · exact .refl d

theorem Dev.lgRetune_steady (d : Dev) (n : Nat) : Dev.Steady periodKept [] n [] d (d.lgRetune n) := by
  unfold Dev.lgRetune
  split
  · extract_lets now last dir last' b k s
    have hb : Dev.Steady periodKept [] n [] d b := by
      unfold b
      split
      · exact (Dev.lgQueue_steady (.refl d) ..).write .X_LG_TX_DIR _ _
      · exact .refl d
    clear_value b
    split
    · exact Dev.lgStop_steady (hb.write .X_LG_TX_ITEM n 0) _
    · exact (((Dev.lgQueue_steady hb ..).write .X_LG_TX_POS n _).write .X_LG_TX_ITEM n _).write .X_LG_TX_WAS n _
  · exact .refl d

theorem Dev.lgCentre_steady (d : Dev) (n : Nat) : Dev.Steady periodKept [] n [] d (d.lgCentre n) := by
  unfold Dev.lgCentre
  extract_lets bal start b
  have hstart : ∀ {b : Dev} (a : Nat), Dev.Steady periodKept [] n [] d b → Dev.Steady periodKept [] n [] d (start b a) := by
    intro b a hb
    unfold start
    dsimp only
    split
    · split
      · exact Dev.lgStop_steady hb _
      · exact hb.write .X_LG_B_LEFT _ _
    · split
      · exact Dev.lgStop_steady hb _
      · exact hb.write .X_LG_B_LEFT _ _
  have hb : Dev.Steady periodKept [] n [] d b := by
    unfold b
    split
    · exact hstart _ ((Dev.Steady.refl d).write .X_LG_B_DIR _ _)
    · exact .refl d
  clear_value b start
  split
  · refine hstart _ ?_
    split
    · exact hb.write .X_LG_B_DIR _ _
    · exact hb
  · exact hb

theorem Dev.lgAsk_steady (d : Dev) (n : Nat) : Dev.Steady periodKept [] n [] d (d.lgAsk n) := by
  unfold Dev.lgAsk
  extract_lets g m own bits corr low b
  have hb : Dev.Steady periodKept [] n [] d b := (Dev.Steady.refl d).write .X_LG_EFF_LOW n _
  clear_value b
  split
  · exact hb
  · split
    · split
      · exact Dev.lgStop_steady hb _
      · exact (hb.write .X_LG_EFF_DUE n 1).write .X_LG_EFF_NEXT n _
    · split
      · exact ((hb.write .X_LG_EFF_DUE n 1).write .X_LG_EFF_NEXT n _).write .X_LG_EFF_LOW n 0
      · exact hb

theorem Dev.calReason_only (b u : Nat) (d : Dev) : Dev.OnlyAt [.CAL_U_STATUS_REASONS, .CAL_U_STATUS_STATE] u d (Dev.calReason b u d) := by
  unfold Dev.calReason
  split
  · exact .refl _ d
  · dsimp only
    split
    · exact Dev.OnlyAt.write (Dev.OnlyAt.write (.refl _ d) _ _) _ _
    · exact Dev.OnlyAt.write (.refl _ d) _ _

theorem Dev.lgCal_steady (d : Dev) (n : Nat) : Dev.Steady periodKept [] n [] d (d.lgCal n) := by
  unfold Dev.lgCal
  split
  · exact .refl d
  · split
    · have hall : Dev.Steady periodKept [] n [] d (d.setAll [.X_LG_CAL_NEW, .X_LG_CAL_AGE, .X_LG_CAL_DONE] n 0) :=
        .ofOnly ((Dev.Only.refl (fun f _ => f ∈ [F.X_LG_CAL_NEW, .X_LG_CAL_AGE, .X_LG_CAL_DONE]) d).setAll 0 fun _ hf => hf)
          (fun f hf _ h => absurd hf ((by decide : ∀ f ∈ [F.X_LG_CAL_NEW, .X_LG_CAL_AGE, .X_LG_CAL_DONE], f ∉ periodKept) f h))
          (fun _ hf => absurd hf List.not_mem_nil) (fun _ => by decide)
      exact (hall.write .X_LG_CAL_HELD n 1).write .X_LG_CAL_SNR n _
    · dsimp only
      have hb : Dev.Steady periodKept [] n [] d (d.set .X_LG_CAL_AGE n (min 16 (d.get .X_LG_CAL_AGE n + 1))) := (Dev.Steady.refl d).write _ _ _
      generalize d.set .X_LG_CAL_AGE n (min 16 (d.get .X_LG_CAL_AGE n + 1)) = b at hb
      split
      · refine (hb.write .X_LG_CAL_DONE n 1).trans (.ofOnly (Dev.calReason_only ..)
          (fun f hf _ h => absurd hf ((by decide : ∀ f ∈ [F.CAL_U_STATUS_REASONS, .CAL_U_STATUS_STATE], f ∉ periodKept) f h.2))
          (fun _ hf => absurd hf List.not_mem_nil) fun _ h => absurd h.2 (by decide))
      · exact hb

theorem Dev.lgDecide_steady (d : Dev) (n : Nat) : Dev.Steady periodKept [] n [] d (d.lgDecide n) := by
  unfold Dev.lgDecide
  dsimp only
  refine .trans ?_ (Dev.lgCal_steady _ n)
  split
  · exact (((d.lgWiden_steady n).trans (Dev.lgRetune_steady _ n)).trans (Dev.lgCentre_steady _ n)).trans (Dev.lgAsk_steady _ n)
  · exact .refl d

theorem Dev.lgAlarm_steady (d : Dev) (n : Nat) (fc : Nat × Nat) : Dev.Steady periodKept [] n [] d (d.lgAlarm n fc) := by
  unfold Dev.lgAlarm
  extract_lets low w rise b
  have hb : Dev.Steady periodKept [] n [] d b := (Dev.Steady.refl d).write .LEDG_L_ALARM_WORD n _
  clear_value b
  split
  · exact hb
  · exact Dev.Steady.trigger (by decide) ((hb.write .LEDG_L_ALARM_EV_RISEN n _).raise _ (by decide)) ..

/-- R433: a record that is dropped. -/
theorem Dev.lgLose_shows (d : Dev) (n : Nat) : Dev.Steady [.LEDG_L_CFG_ENABLES, .LEDG_PERIOD_COUNT_COUNT, .X_LG_CLOSED, .LEDG_CTRL_PERIOD_IRQ,
    .X_LG_TICKS, .LEDG_L_STATUS_FAR_FRESH, .MEM_STATUS_STATE, .X_REGION_IN] [.X_LG_UNWRITTEN] n [] d (d.lgLose n) ∧
    (d.lgLose n).get .X_LG_UNWRITTEN n ≠ 1 ∧ (d.lgLose n).mreqs = d.mreqs := by
  unfold Dev.lgLose
  split
  · refine ⟨((Dev.Steady.refl d).own .X_LG_UNWRITTEN 0).write .MEM_LOST_LEDGER 0 _, ?_, rfl⟩
    rw [show (((d.set .X_LG_UNWRITTEN n 0).addSat .MEM_LOST_LEDGER 0 1).get .X_LG_UNWRITTEN n) = 0 from
      (Dev.get_set_field _ _ _ _ (by decide)).trans (Dev.get_set_same ..)]
    exact Nat.zero_ne_one
  · next h => exact ⟨.refl d, fun h1 => h (beq_iff_eq.mpr h1), rfl⟩

/-- The measurements of a lane that start anew. -/
def clearFields : List F := [.X_LG_TICKS, .X_LG_LOCK, .X_LG_BITS, .X_LG_CORR, .X_LG_PD_SUM, .X_LG_PD_N, .X_LG_PARTIAL, .LEDG_L_STATUS_FAR_FRESH]

theorem Dev.lgClear_shows (d : Dev) (n : Nat) : (d.lgClear n).get .X_LG_TICKS n = 0 ∧ (d.lgClear n).get .LEDG_L_STATUS_FAR_FRESH n = 0 ∧
    Dev.Only (fun f i => (i = n ∧ f ∈ clearFields) ∨ f ∈ [F.X_LG_SNR, .X_LG_HEAD]) d (d.lgClear n) := by
  refine ⟨?_, ?_, ?_⟩
  · exact (Dev.setEach_get_field _ _ _ _ (by decide)).trans ((Dev.setEach_get_field _ _ _ _ (by decide)).trans (Dev.setAll_get_of_mem _ _ _ (by decide)))
  · exact (Dev.setEach_get_field _ _ _ _ (by decide)).trans ((Dev.setEach_get_field _ _ _ _ (by decide)).trans (Dev.setAll_get_of_mem _ _ _ (by decide)))
  · exact (((Dev.Only.refl _ d).setAll (fs := clearFields) 0 fun f hf => .inl ⟨rfl, hf⟩).setEach (f := .X_LG_SNR) 0 fun _ _ => .inr (by decide)).setEach
      (f := .X_LG_HEAD) 0 fun _ _ => .inr (by decide)

/-- What the end of a period writes of its lane alone. -/
def periodOwn : List F := [.X_LG_UNWRITTEN, .X_LG_TICKS, .LEDG_L_STATUS_FAR_FRESH]
/-- What the end of a period leaves alone in every lane. -/
def periodShared : List F := [.LEDG_L_CFG_ENABLES, .LEDG_PERIOD_COUNT_COUNT, .X_LG_CLOSED, .LEDG_CTRL_PERIOD_IRQ]

theorem Dev.lgClose_shows (n : Nat) (d : Dev) : Dev.Steady periodShared periodOwn n [] d (Dev.lgClose n d) ∧
    (d.lgOn n = true → ((Dev.lgClose n d).get .X_LG_UNWRITTEN n = 1 ∧ (Dev.lgClose n d).get .X_LG_TICKS n = 0 ∧
      (Dev.lgClose n d).get .LEDG_L_STATUS_FAR_FRESH n = 0)) := by
  unfold Dev.lgClose
  split
  · have hlose : Dev.Steady periodShared periodOwn n [] d (d.lgLose n) := (d.lgLose_shows n).1.mono (by decide) (by decide) (by decide)
    extract_lets b ms eyes passes energy drift valid fresh ticks mine others c k c1 hs h c2 c3 c4 c5 rec_ c6
    have hb : Dev.Steady periodShared periodOwn n [] d b := hlose
    have hc : Dev.Steady periodKept [] n [] b c := .same rfl rfl rfl rfl
    have h1 : Dev.Steady periodKept [] n [] b c1 := (hc.write .LEDG_L_STATUS_VALID_RECS n _).write .LEDG_L_STATUS_FIT_VALID n _
    have h3 : Dev.Steady periodKept [] n [] b c3 := ((((h1.write .LEDG_L_FC_LOW _ _).write .LEDG_L_FC_HIGH _ _).write .LEDG_L_FC_LOW _ _).write
      .LEDG_L_FC_HIGH _ _).write .LEDG_L_FC_LOW _ _
    have h4 : Dev.Steady periodKept [] n [] b c4 := (h3.trans (Dev.lgDecide_steady _ n)).trans (Dev.lgAlarm_steady _ n _)
    have h5 : Dev.Steady periodKept [] n [] b c5 := h4.write .X_LG_RXP n _
    have h6 : Dev.Steady periodKept [] n [] b c6 := Dev.Steady.forList (l := List.range 16) h5 fun i _ a => (Dev.Steady.refl a).write .LEDG_L_REC_BYTES _ _
    clear_value c6
    have hset : Dev.Steady periodShared periodOwn n [] d (c6.set .X_LG_UNWRITTEN n 1) :=
      (hb.trans (h6.mono (by decide) (by decide) (by decide))).own .X_LG_UNWRITTEN 1
    have hun : (c6.set .X_LG_UNWRITTEN n 1).get .X_LG_UNWRITTEN n = 1 := Dev.get_set_same ..
    generalize c6.set .X_LG_UNWRITTEN n 1 = a at hset hun
    obtain ⟨hticks, hfresh, honly⟩ := a.lgClear_shows n
    refine ⟨hset.trans (.ofOnly honly (fun f hf i hp => ?_) (fun f hf i hi hp => ?_) fun i hp => ?_), fun _ => ⟨?_, hticks, hfresh⟩⟩
    · obtain ⟨k1, k2⟩ := (by decide : ∀ f ∈ periodShared, f ∉ clearFields ∧ f ∉ [F.X_LG_SNR, .X_LG_HEAD]) f hf
      exact hp.elim (fun h => k1 h.2) k2
    · exact hp.elim (fun h => hi h.1) ((by decide : ∀ f ∈ periodOwn, f ∉ [F.X_LG_SNR, .X_LG_HEAD]) f hf)
    · exact hp.elim (fun h => absurd h.2 (by decide)) (by decide)
    · exact (honly.2 _ _ fun hp => hp.elim (fun h => absurd h.2 (by decide)) (by decide)).trans hun
  · next hoff => exact ⟨.refl d, fun h => (hoff h).elim⟩

end

/-! ## Commands -/

theorem ledgerPeriodEnd_ends {s : State} {c : Nat} (hcount : c = s.dev.get .TIME_TICK_COUNT_COUNT 0) (h0 : c ≠ 0)
    (hmul : c % 2 ^ s.dev.get .LEDG_CFG_PERIOD_EXP 0 = 0) (hopen : s.dev.get .X_LG_CLOSED 0 ≠ c + 1) :
    Completes .ledgerPeriodEnd s fun e =>
      e.get .LEDG_PERIOD_COUNT_COUNT 0 = (s.dev.get .LEDG_PERIOD_COUNT_COUNT 0 + 1) % 2 ^ F.LEDG_PERIOD_COUNT_COUNT.width ∧
      e.get .X_LG_CLOSED 0 = c + 1 ∧ (s.dev.get .LEDG_CTRL_PERIOD_IRQ 0 = 1 → 967 ∈ e.pending) ∧
      ∀ n < 64, s.dev.lgOn n = true → e.get .X_LG_UNWRITTEN n = 1 ∧ e.get .X_LG_TICKS n = 0 ∧ e.get .LEDG_L_STATUS_FAR_FRESH n = 0 := by
  subst hcount
  refine .runIf (rfl : _ = execLedgerPeriodEnd s) ⟨h0, hmul, hopen⟩ fun e he => ?_
  have hopened : ∀ b : Dev, b = (s.found.set .X_LG_CLOSED 0 (s.found.get .TIME_TICK_COUNT_COUNT 0 + 1)).addWrap .LEDG_PERIOD_COUNT_COUNT 0 1 →
      b.get .LEDG_PERIOD_COUNT_COUNT 0 = (s.dev.get .LEDG_PERIOD_COUNT_COUNT 0 + 1) % 2 ^ F.LEDG_PERIOD_COUNT_COUNT.width ∧
      b.get .X_LG_CLOSED 0 = s.dev.get .TIME_TICK_COUNT_COUNT 0 + 1 ∧ b.get .LEDG_CTRL_PERIOD_IRQ 0 = s.dev.get .LEDG_CTRL_PERIOD_IRQ 0 ∧
      ∀ n, b.lgOn n = s.dev.lgOn n := by
    rintro b rfl
    refine ⟨?_, ?_, ?_, fun n => ?_⟩
    · refine (Dev.get_set_same ..).trans ?_
      rw [Dev.get_set_field _ _ _ _ (by decide)]
      rfl
    · exact (Dev.get_set_field _ _ _ _ (by decide)).trans (Dev.get_set_same ..)
    · exact (Dev.get_set_field _ _ _ _ (by decide)).trans (Dev.get_set_field _ _ _ _ (by decide))
    · exact congrArg (bitAt · 0) ((Dev.get_set_field _ _ _ _ (by decide)).trans (Dev.get_set_field _ _ _ _ (by decide)))
  dsimp only at he
  generalize (s.found.set .X_LG_CLOSED 0 (s.found.get .TIME_TICK_COUNT_COUNT 0 + 1)).addWrap .LEDG_PERIOD_COUNT_COUNT 0 1 = b at he hopened
  obtain ⟨h1, h2, h3, h4⟩ := hopened b rfl
  have hvisits : ∀ n < 64, ∃ a, Dev.Spared periodShared periodOwn n [] b a ∧
      Dev.Spared periodShared periodOwn n [] (Dev.lgClose n a) (Dev.each 64 Dev.lgClose b) := fun n hn =>
    Dev.forList_visits (fun y d => (Dev.lgClose_shows y d).1) List.nodup_range (List.mem_range.mpr hn) b
  generalize Dev.each 64 Dev.lgClose b = c at he hvisits
  have hshared : ∀ f ∈ periodShared, ∀ i, c.get f i = b.get f i := fun f hf i => by
    obtain ⟨a, ha, hc⟩ := hvisits 0 (by decide)
    exact (hc.1.get f hf i).trans (((Dev.lgClose_shows 0 a).1.get f hf i).trans (ha.1.get f hf i))
  have hclear : ∀ f i, f ∉ [F.X_LG_PASSES, .X_LG_CW] → (Dev.each 64 (fun g d => d.setAll [.X_LG_PASSES, .X_LG_CW] g 0) c.drawn).get f i = c.get f i :=
    fun f i hf => Dev.each_keeps (fun e => e.get f i) (fun _ _ _ => Dev.setAll_get_field _ _ _ _ hf) _
  generalize Dev.each 64 (fun g d => d.setAll [.X_LG_PASSES, .X_LG_CW] g 0) c.drawn = u at he hclear
  have hget : ∀ f i, f ∉ [F.X_LG_PASSES, .X_LG_CW] → f ∉ signalFields → e.get f i = c.get f i := fun f i hf hs => by
    rw [← hclear f i hf, he]
    split
    · exact raise_get _ _ _ _ hs
    · rfl
  refine ⟨?_, ?_, fun hirq => ?_, fun n hn hon => ?_⟩
  · exact (hget _ _ (by decide) (by decide)).trans ((hshared _ (by decide) _).trans h1)
  · exact (hget _ _ (by decide) (by decide)).trans ((hshared _ (by decide) _).trans h2)
  · have hu : u.get .LEDG_CTRL_PERIOD_IRQ 0 = 1 := (hclear _ _ (by decide)).trans ((hshared _ (by decide) _).trans (h3.trans hirq))
    rw [he.trans (if_pos (beq_iff_eq.mpr hu)), (raise_raised _ (by decide)).1]
    exact (mem_insertNat ..).mpr (.inl rfl)
  · obtain ⟨a, ha, hc⟩ := hvisits n hn
    have hlane : a.lgOn n = true := (congrArg (bitAt · 0) (ha.1.get .LEDG_L_CFG_ENABLES (by decide) n)).trans ((h4 n).trans hon)
    obtain ⟨k1, k2, k3⟩ := (Dev.lgClose_shows n a).2 hlane
    exact ⟨(hget _ _ (by decide) (by decide)).trans ((hc.2 _ (by decide)).trans k1),
      (hget _ _ (by decide) (by decide)).trans ((hc.2 _ (by decide)).trans k2),
      (hget _ _ (by decide) (by decide)).trans ((hc.2 _ (by decide)).trans k3)⟩

/-- R416: the record of lane `n` goes to the history region. -/
def Dev.writeRecord (d : Dev) (n : Nat) : Dev :=
  let size := d.get .X_REGION_SIZE 1 * 2 ^ 20
  let h := d.get .LEDG_HIST_HEAD_HEAD 0
  let bytes := ((List.range 16).map fun i => leBytes 4 (d.get .LEDG_L_REC_BYTES (16 * n + i))).flatten
  ((d.memWrite 4 (d.regionLo 1 + 64 * (h % size)) bytes).set .LEDG_HIST_HEAD_HEAD 0 ((h + 1) % size)).set .X_LG_UNWRITTEN n 0

/-- R416, R433: what becomes of the record of lane `n`. -/
def recordRound (n : Nat) (d : Dev) : Dev :=
  if d.on .X_LG_UNWRITTEN n then
    if d.memState = meREADY ∧ d.regionIn 1 then d.writeRecord n
    else if d.memState = meFAILED ∨ (d.memTrained ∧ !d.regionIn 1) then d.lgLose n
    else d
  else d

theorem execLedgerRecordWrite_eq (s : State) : execLedgerRecordWrite s = s.run fun d => Dev.each 64 recordRound d := rfl

/-- What decides the fate of a record. -/
def recordFields : List F := [.MEM_STATUS_STATE, .X_REGION_IN]

theorem recordRound_get (n : Nat) (d : Dev) : (∀ f ∈ recordFields, ∀ i, (recordRound n d).get f i = d.get f i) ∧
    ∀ m, m ≠ n → (recordRound n d).get .X_LG_UNWRITTEN m = d.get .X_LG_UNWRITTEN m := by
  unfold recordRound
  split
  · split
    · refine ⟨fun f hf i => ?_, fun m hm => ?_⟩
      · obtain ⟨h1, h2⟩ := (by decide : ∀ f ∈ recordFields, f ≠ .X_LG_UNWRITTEN ∧ f ≠ .LEDG_HIST_HEAD_HEAD) f hf
        exact (Dev.get_set_field _ _ _ _ h1).trans (Dev.get_set_field _ _ _ _ h2)
      · exact (Dev.get_set_inst _ _ _ hm).trans (Dev.get_set_field _ _ _ _ (by decide))
    · split
      · have h := (d.lgLose_shows n).1
        exact ⟨fun f hf i => h.get f ((by decide : ∀ f ∈ recordFields, f ∈ [F.LEDG_L_CFG_ENABLES, .LEDG_PERIOD_COUNT_COUNT, .X_LG_CLOSED,
          .LEDG_CTRL_PERIOD_IRQ, .X_LG_TICKS, .LEDG_L_STATUS_FAR_FRESH, .MEM_STATUS_STATE, .X_REGION_IN]) f hf) i, fun m hm => h.other _ (by decide) m hm⟩
      · exact ⟨fun _ _ _ => rfl, fun _ _ => rfl⟩
  · exact ⟨fun _ _ _ => rfl, fun _ _ => rfl⟩

theorem recordRound_idle {n : Nat} {d : Dev} (h : d.get .X_LG_UNWRITTEN n ≠ 1) : recordRound n d = d :=
  if_neg fun hu => h (beq_iff_eq.mp hu)

/-- The memory decides: the records are written, or dropped. -/
def Dev.Decides (d : Dev) : Prop := (d.memState = meREADY ∧ d.regionIn 1 = true) ∨ d.memState = meFAILED

theorem Dev.Decides.congr {d e : Dev} (h : d.Decides) (hget : ∀ f ∈ recordFields, ∀ i, e.get f i = d.get f i) : e.Decides := by
  have h1 : e.memState = d.memState := hget _ (by decide) _
  have h2 : e.regionIn 1 = d.regionIn 1 := congrArg (· == 1) (hget .X_REGION_IN (by decide) 1)
  unfold Dev.Decides
  rwa [h1, h2]

theorem recordRound_decided {n : Nat} {d : Dev} (h : d.Decides) : (recordRound n d).get .X_LG_UNWRITTEN n ≠ 1 := by
  unfold recordRound
  split
  · split
    · rw [show (d.writeRecord n).get .X_LG_UNWRITTEN n = 0 from Dev.get_set_same ..]
      exact Nat.zero_ne_one
    · next hready =>
      rw [if_pos (.inl (h.resolve_left hready))]
      exact (d.lgLose_shows n).2.1
  · next hu => exact fun h1 => hu (beq_iff_eq.mpr h1)

theorem recordRounds_decided {d : Dev} (h : d.Decides) {n : Nat} (hn : n < 64) : (Dev.each 64 recordRound d).get .X_LG_UNWRITTEN n ≠ 1 :=
  Dev.each_reaches_of (I := Dev.Decides) (P := fun e => e.get .X_LG_UNWRITTEN n ≠ 1) hn h
    (fun i e he => he.congr (recordRound_get i e).1) (fun _ he => recordRound_decided he) fun i e _ he => by
      by_cases hi : i = n
      · subst hi
        rwa [recordRound_idle he]
      · rwa [(recordRound_get i e).2 n fun h => hi h.symm]

/-- The only lane with a record has its round, and no other. -/
theorem recordRounds_one {d : Dev} {n : Nat} (hn : n < 64) (hothers : ∀ m < 64, m ≠ n → d.get .X_LG_UNWRITTEN m ≠ 1) :
    Dev.each 64 recordRound d = recordRound n d := by
  have hsplit : List.range 64 = List.range n ++ n :: (List.range (63 - n)).map (n + 1 + ·) := by
    rw [show (64 : Nat) = n + (64 - n) by omega, List.range_add, show 64 - n = (63 - n) + 1 by omega, List.range_succ_eq_map,
      List.map_cons, List.map_map]
    refine congrArg _ (congrArg₂ _ rfl (List.map_congr_left fun i _ => ?_))
    simp only [Function.comp_apply]
    omega
  have hbefore : (List.range n).foldl (fun e i => recordRound i e) d = d :=
    List.foldlRecOn (List.range n) (fun e i => recordRound i e) (motive := fun e => e = d) rfl fun e he i hi => by
      have hlt := List.mem_range.mp hi
      subst he
      exact recordRound_idle (hothers i (by omega) (by omega))
  have hafter : ((List.range (63 - n)).map (n + 1 + ·)).foldl (fun e i => recordRound i e) (recordRound n d) = recordRound n d :=
    List.foldlRecOn _ (fun e i => recordRound i e) (motive := fun e => e = recordRound n d) rfl fun e he i hi => by
      obtain ⟨k, hk, rfl⟩ := List.mem_map.mp hi
      have hlt := List.mem_range.mp hk
      subst he
      refine recordRound_idle ?_
      rw [(recordRound_get n d).2 _ (by omega)]
      exact hothers _ (by omega) (by omega)
  unfold Dev.each
  rw [hsplit, List.foldl_append, hbefore, List.foldl_cons, hafter]

theorem unitsOf_length_pos (fuel a : Nat) {n : Nat} (hn : n ≠ 0) : 0 < (unitsOf (fuel + 1) a n).length := by
  rw [unitsOf, if_neg hn]
  exact Nat.succ_pos _

theorem ledgerRecordWrite_one {s : State} {n : Nat} (hn : n < 64) (hready : s.dev.memState = meREADY) (hin : s.dev.regionIn 1 = true)
    (hun : s.dev.get .X_LG_UNWRITTEN n = 1) (hothers : ∀ m < 64, m ≠ n → s.dev.get .X_LG_UNWRITTEN m ≠ 1) :
    Completes .ledgerRecordWrite s fun e =>
      e.get .LEDG_HIST_HEAD_HEAD 0 = (s.dev.get .LEDG_HIST_HEAD_HEAD 0 + 1) % (s.dev.get .X_REGION_SIZE 1 * 2 ^ 20) ∧
      s.dev.mreqs.length < e.mreqs.length := by
  refine .runAs (execLedgerRecordWrite_eq s) fun e he => ?_
  have hrec : e = s.found.writeRecord n :=
    ((he.trans (recordRounds_one (d := s.found) hn hothers)).trans (if_pos (beq_iff_eq.mpr hun))).trans (if_pos ⟨hready, hin⟩)
  have hlen : ((List.range 16).map fun i => leBytes 4 (s.found.get .LEDG_L_REC_BYTES (16 * n + i))).flatten.length = 64 := by
    rw [flatten_map_length _ _ 4 fun _ _ => leBytes_length .., List.length_range]
  refine ⟨?_, ?_⟩
  · rw [hrec]
    exact (Dev.get_set_field _ _ _ _ (by decide)).trans (Dev.get_set_same ..)
  · rw [hrec]
    have hreqs : (s.found.writeRecord n).mreqs.length = s.dev.mreqs.length + (unitsOf (((List.range 16).map fun i =>
        leBytes 4 (s.found.get .LEDG_L_REC_BYTES (16 * n + i))).flatten.length + 1) (s.found.regionLo 1 + 64 * (s.found.get .LEDG_HIST_HEAD_HEAD 0 %
        (s.found.get .X_REGION_SIZE 1 * 2 ^ 20))) ((List.range 16).map fun i =>
        leBytes 4 (s.found.get .LEDG_L_REC_BYTES (16 * n + i))).flatten.length).length := by
      refine (List.length_append ..).trans ?_
      rw [List.length_map]
      rfl
    rw [hreqs]
    exact Nat.lt_add_of_pos_right (unitsOf_length_pos _ _ (by rw [hlen]; decide))

/-- R433: while the memory is FAILED no record is written. -/
theorem recordRound_failed {d : Dev} (h : d.memState = meFAILED) (n : Nat) : (recordRound n d).mreqs = d.mreqs := by
  unfold recordRound
  split
  · rw [if_neg fun hr => absurd (h.symm.trans hr.1) (by decide), if_pos (.inl h)]
    exact (d.lgLose_shows n).2.2
  · rfl

theorem recordRounds_failed {d : Dev} (h : d.memState = meFAILED) : (Dev.each 64 recordRound d).mreqs = d.mreqs :=
  (List.foldlRecOn (List.range 64) (fun e i => recordRound i e) (motive := fun e => e.memState = meFAILED ∧ e.mreqs = d.mreqs)
    ⟨h, rfl⟩ fun e ⟨h1, h2⟩ i _ => ⟨((recordRound_get i e).1 .MEM_STATUS_STATE (by decide) 0).trans h1, (recordRound_failed h1 i).trans h2⟩).2

theorem ledgerRecordWrite_drops {s : State} (hfailed : s.dev.memState = meFAILED) :
    Completes .ledgerRecordWrite s fun e => e.mreqs = s.dev.mreqs ∧ ∀ n < 64, e.get .X_LG_UNWRITTEN n ≠ 1 := by
  refine .runAs (execLedgerRecordWrite_eq s) fun e he => ⟨?_, fun n hn => ?_⟩
  · exact (congrArg Dev.mreqs he).trans (recordRounds_failed (d := s.found) hfailed)
  · rw [he]
    exact recordRounds_decided (d := s.found) (.inr hfailed) hn

/-- Settles O58: periods, their records, far reports and rebase. -/
theorem ledgerCommands : Obligations.LedgerCommands := by
  refine fun s => ⟨⟨fun h0 hmul hopen => ledgerPeriodEnd_ends rfl h0 hmul hopen, fun hclosed => ?_⟩, fun hready hin => ?_,
    fun n hn hready hin hun hothers => ledgerRecordWrite_one hn hready hin hun hothers, ledgerRecordWrite_drops, fun n => ⟨fun a b w => ?_, ?_⟩⟩
  · exact .runElse (rfl : _ = execLedgerPeriodEnd s) (fun h => h.2.2 hclosed) fun e he => he
  · refine .runAs (execLedgerRecordWrite_eq s) fun e he n hn => ?_
    rw [he]
    exact recordRounds_decided (d := s.found) (.inl ⟨hready, hin⟩) hn
  · refine .runAs (rfl : _ = execFarReportWrite n a b w s) fun e he => ?_
    rw [he]
    refine ⟨?_, ?_, ?_, Dev.get_set_same .., ?_⟩
    · exact (Dev.get_set_field _ _ _ _ (by decide)).trans ((Dev.get_set_field _ _ _ _ (by decide)).trans
        ((Dev.get_set_field _ _ _ _ (by decide)).trans (Dev.get_set_same ..)))
    · exact (Dev.get_set_field _ _ _ _ (by decide)).trans ((Dev.get_set_field _ _ _ _ (by decide)).trans (Dev.get_set_same ..))
    · exact (Dev.get_set_field _ _ _ _ (by decide)).trans (Dev.get_set_same ..)
    · exact Dev.Only.ofFound (Dev.OnlyAt.write (Dev.OnlyAt.write (Dev.OnlyAt.write (Dev.OnlyAt.write (.refl _ _) _ _) _ _) _ _) _ _)
  · refine .runAs (rfl : _ = execLedgerRebase n s) fun e he => ?_
    rw [he]
    exact ⟨Dev.get_set_same .., Dev.Only.ofFound (Dev.OnlyAt.write (.refl _ _) _ _)⟩

end Sys2Proof.Machine
end

section
/-! PROOFS. Trigger events that reach taps, and the taps that take them (R313, R320, R322, R325 to R328, R330). -/

-- One theorem at a time: the whole text is compiled under a memory limit, which the stacks of waiting threads would fill.
set_option Elab.async false

namespace Sys2Proof.Machine

open Sys2Proof

/-! ## The TDC (R325) -/

theorem Dev.edgeTime_untrimmed {d : Dev} (h : ∀ i, d.tdcEntry i = 0) (c f : Nat) : d.edgeTime c f = c + f := by
  have htrim : d.tdcTrim f = 0 := by
    unfold Dev.tdcTrim
    extract_lets i span x
    have hx : x = 0 := by
      unfold x
      rw [h, h, Int.sub_self, Int.zero_mul]
    rw [h, h, hx]
    clear_value span x
    have hround : (if (Config.rounding 14).val = 0 then (0 : Int) / span else (2 * 0 + span) / (2 * span)) = 0 := by
      split
      · exact Int.zero_ediv _
      · rcases Nat.eq_zero_or_pos span with rfl | hspan
        · rfl
        · exact Int.ediv_eq_zero_of_lt (by omega) (by omega)
    rw [hround]
    split <;> rfl
  unfold Dev.edgeTime
  rw [htrim]
  omega

/-! ## What an event adds to the events that wait (R322, R329) -/

/-- The events that wait once one of these marks has come. -/
def Dev.reached (d : Dev) (mask src info time : Nat) (falling : Bool) : List TrigEvent :=
  let m := d.tapsFor mask src info []
  if m = 0 then d.trigs else d.trigs ++ [(⟨src, info, time, falling, d.clk, m⟩ : TrigEvent)]

theorem Dev.toTaps_eq (d : Dev) (mask src info time : Nat) (falling : Bool) :
    d.toTaps mask src info time falling [] = { d with trigs := d.reached mask src info time falling } := by
  unfold Dev.toTaps Dev.reached
  dsimp only
  split <;> rfl

theorem Dev.reached_set (d : Dev) {f : F} (i v : Nat) (hf : F.CAP_T_STATUS_STATE ≠ f) (mask src info time : Nat) (falling : Bool) :
    (d.set f i v).reached mask src info time falling = d.reached mask src info time falling := by
  have hm : (d.set f i v).tapsFor mask src info [] = d.tapsFor mask src info [] := by
    refine congrArg List.sum (List.map_congr_left fun t _ => ?_)
    have hruns : (d.set f i v).tapRuns t = d.tapRuns t := by
      unfold Dev.tapRuns Dev.tapState
      rw [Dev.get_set_field _ _ _ _ hf]
    rw [hruns]
    rfl
  unfold Dev.reached
  rw [hm]
  rfl

/-- What a pulse on an XTRIG line writes. -/
def lineWritten (f : F) (i : Nat) : Prop := (f = .X_XTRIG_END ∧ i < 2) ∨ (f = .CAP_XTRIG_STATUS_MERGED ∧ i = 0)

/-- Events of sources 4 and 5 may have been added, and lines may have been pulsed. -/
def Dev.Pulsed (d e : Dev) : Prop :=
  (∃ more, e.trigs = d.trigs ++ more ∧ ∀ v ∈ more, v.src = 4 ∨ v.src = 5) ∧ Dev.OnlyRaising lineWritten { d with trigs := e.trigs } e

theorem Dev.Pulsed.ofOnlyRaising {d e : Dev} (h : Dev.OnlyRaising lineWritten d e) : Dev.Pulsed d e := by
  have ht : e.trigs = d.trigs := by rw [h.1]
  refine ⟨⟨[], ht.trans (List.append_nil _).symm, fun _ hv => absurd hv List.not_mem_nil⟩, ?_⟩
  rw [ht]
  exact h

theorem Dev.Pulsed.trans {a b c : Dev} (h1 : Dev.Pulsed a b) (h2 : Dev.Pulsed b c) : Dev.Pulsed a c := by
  obtain ⟨⟨l, hl, hsrc⟩, e1, g1⟩ := h1
  obtain ⟨⟨l', hl', hsrc'⟩, e2, g2⟩ := h2
  refine ⟨⟨l ++ l', ?_, fun v hv => ?_⟩, ?_, fun f i hp hs => (g2 f i hp hs).trans (g1 f i hp hs)⟩
  · rw [hl', hl, List.append_assoc]
  · exact (List.mem_append.mp hv).elim (hsrc v) (hsrc' v)
  · rw [e2, e1]

theorem Dev.toTaps_pulsed (d : Dev) (mask info time : Nat) (falling : Bool) {src : Nat} (hsrc : src = 4 ∨ src = 5) :
    Dev.Pulsed d (d.toTaps mask src info time falling []) := by
  rw [Dev.toTaps_eq]
  refine ⟨?_, rfl, fun _ _ _ _ => rfl⟩
  unfold Dev.reached
  dsimp only
  split
  · exact ⟨[], (List.append_nil _).symm, fun _ hv => absurd hv List.not_mem_nil⟩
  · exact ⟨_, rfl, fun v hv => List.mem_singleton.mp hv ▸ hsrc⟩

theorem Dev.xtrigEvent_pulsed (d : Dev) (src : Nat) : Dev.Pulsed d (d.xtrigEvent src) := by
  have hrefl : ∀ d, Dev.Pulsed d d := fun d => .ofOnlyRaising (.refl _ d)
  refine List.foldlRecOn (List.range 2) _ (motive := fun e => Dev.Pulsed d e) (hrefl d) fun e he j hj => he.trans ?_
  have hj2 : j < 2 := List.mem_range.mp hj
  dsimp only
  split
  · split
    · exact .ofOnlyRaising (((Dev.OnlyRaising.refl _ e).put _ (.inr ⟨rfl, rfl⟩)).raise 801)
    · refine .trans (.ofOnlyRaising (((Dev.OnlyRaising.refl _ e).put _ (.inl ⟨rfl, hj2⟩)).trans (.send _ _))) (Dev.toTaps_pulsed _ _ _ _ _ ?_)
      omega
  · exact hrefl e

theorem Dev.xtrigEvent_quiet {d : Dev} (h : ∀ j < 2, d.get .CAP_XTRIG_OUT_DRIVING j ≠ 1) (src : Nat) : d.xtrigEvent src = d :=
  Dev.each_fixed_of_lt fun j hj => if_neg fun hc => h j hj (beq_iff_eq.mp (Bool.and_eq_true_iff.mp hc).1)

section
variable {s : State} {fs : List F} {p : Nat} {d e : Dev} {trigs : List TrigEvent}

/-- What an event that comes to the lines, after writes of some fields of one index, leaves. -/
theorem pulse_waits (hd : d = { s.found with reg := d.reg, trigs := trigs }) (hget : ∀ f i, ¬ (i = p ∧ f ∈ fs) → d.get f i = s.dev.get f i)
    (hfs : F.CAP_XTRIG_OUT_DRIVING ∉ fs) {src : Nat} (he : e = d.xtrigEvent src) :
    (∃ more, e.trigs = trigs ++ more ∧ ((∀ j < 2, s.dev.get .CAP_XTRIG_OUT_DRIVING j ≠ 1) → more = []) ∧ ∀ v ∈ more, v.src = 4 ∨ v.src = 5) ∧
      Dev.OnlyRaising (fun f i => (f ∈ fs ∧ i = p) ∨ (f = .X_XTRIG_END ∧ i < 2) ∨ (f = .CAP_XTRIG_STATUS_MERGED ∧ i = 0))
        { s.dev with trigs := e.trigs } e ∧
      ((∀ j < 2, s.dev.get .CAP_XTRIG_OUT_DRIVING j ≠ 1) → Dev.OnlyAt fs p { s.dev with trigs := e.trigs } e) := by
  have htrigs : d.trigs = trigs := by rw [hd]
  have hquiet : (∀ j < 2, s.dev.get .CAP_XTRIG_OUT_DRIVING j ≠ 1) → e = d := fun h =>
    he.trans (Dev.xtrigEvent_quiet (fun j hj => by rw [hget _ _ fun hc => hfs hc.2]; exact h j hj) src)
  obtain ⟨⟨more, hmore, hsrc⟩, e1, g1⟩ := d.xtrigEvent_pulsed src
  rw [← he] at hmore e1 g1
  refine ⟨⟨more, hmore.trans (congrArg (· ++ more) htrigs), fun h => ?_, hsrc⟩, ⟨?_, fun f i hp hs => ?_⟩, fun h => ?_⟩
  · rw [hquiet h] at hmore
    exact List.self_eq_append_right.mp hmore
  · rw [e1, hd]
    rfl
  · refine (g1 f i (fun hl => hp (.inr hl)) hs).trans (hget f i fun hc => hp (.inl ⟨hc.2, hc.1⟩))
  · rw [hquiet h]
    refine ⟨?_, fun f i hp => hget f i hp⟩
    rw [hd]
    rfl

end

theorem trigInEdge_close {p : Fin 4} {c : DWord} {f : Fin 6554} {rising : Bool} {s : State}
    (hpicked : if rising then s.dev.get .CAP_TRIGIN_CFG_EDGE p % 2 = 1 else 2 ≤ s.dev.get .CAP_TRIGIN_CFG_EDGE p)
    (hlast : s.dev.get .X_TRIGIN_LAST p ≠ 0) (hclose : s.dev.edgeTime c.toNat f * 10 < (s.dev.get .X_TRIGIN_LAST p - 1) * 10 + 131072) :
    Completes (.trigInEdge p rising c f) s fun e =>
      e.trigs = s.dev.trigs ∧ e.get .X_TRIGIN_LAST p = s.dev.get .X_TRIGIN_LAST p ∧ Dev.Raised 800 s.dev e ∧
      e.get .CAP_TRIG_EVENTS_CLOSE 0 = s.dev.get .CAP_TRIG_EVENTS_CLOSE 0 ||| 2 ^ p.val ∧ e.get .CAP_TRIG_EVENTS_CLOSE_COUNT 0 =
        satAdd F.CAP_TRIG_EVENTS_CLOSE_COUNT.width (s.dev.get .CAP_TRIG_EVENTS_CLOSE_COUNT 0) 1 ∧
      Dev.OnlyRaisingAt [.CAP_TRIG_EVENTS_CLOSE, .CAP_TRIG_EVENTS_CLOSE_COUNT] 0 s.dev e := by
  refine .runIf (rfl : _ = execTrigInEdge p rising c f s) hpicked fun e he => ?_
  replace he := he.trans (if_pos ⟨hlast, hclose⟩)
  have honly : Dev.OnlyRaisingAt [.CAP_TRIG_EVENTS_CLOSE, .CAP_TRIG_EVENTS_CLOSE_COUNT] 0 s.found e := by
    rw [he]
    exact (((Dev.OnlyRaising.refl _ s.found).put _ ⟨rfl, by decide⟩).put _ ⟨rfl, by decide⟩).raise 800
  refine ⟨?_, honly.2 _ _ (fun h => absurd h.2 (by decide)) (by decide), ?_, ?_, ?_, honly.ofFound⟩
  · rw [honly.1]
    rfl
  · rw [he]
    exact .after rfl ((Dev.get_set_field _ _ _ _ (by decide)).trans (Dev.get_set_field _ _ _ _ (by decide))) (by decide)
  · rw [he, raise_get _ _ _ _ (by decide)]
    exact (Dev.get_set_same ..).trans (congrArg (· ||| 2 ^ p.val) (Dev.get_set_field _ _ _ _ (by decide)))
  · rw [he, raise_get _ _ _ _ (by decide)]
    exact (Dev.get_set_field _ _ _ _ (by decide)).trans (Dev.get_set_same ..)

/-- The events that wait once an edge of pin `p` has come. -/
def Dev.edgeReached (d : Dev) (p : Fin 4) (rising : Bool) (c : DWord) (f : Fin 6554) : List TrigEvent :=
  d.reached 255 p.val p.val ((d.edgeTime c.toNat f : Int) - sx 16 (d.get .CAP_TRIGIN_CFG_DELAY p)).toNat (!rising)

theorem trigInEdge_waits {p : Fin 4} {c : DWord} {f : Fin 6554} {rising : Bool} {s : State}
    (hpicked : if rising then s.dev.get .CAP_TRIGIN_CFG_EDGE p % 2 = 1 else 2 ≤ s.dev.get .CAP_TRIGIN_CFG_EDGE p)
    (hfar : s.dev.get .X_TRIGIN_LAST p = 0 ∨ (s.dev.get .X_TRIGIN_LAST p - 1) * 10 + 131072 ≤ s.dev.edgeTime c.toNat f * 10) {P : Dev → Prop}
    (hp : ∀ d e : Dev, d = { s.found with reg := d.reg, trigs := s.dev.edgeReached p rising c f } →
      (∀ f i, ¬ (i = p.val ∧ f ∈ [F.X_TRIGIN_LAST]) → d.get f i = s.dev.get f i) → d.get .X_TRIGIN_LAST p = s.dev.edgeTime c.toNat f + 1 →
      e = d.xtrigEvent p.val → P e) : Completes (.trigInEdge p rising c f) s P := by
  refine .runIf (rfl : _ = execTrigInEdge p rising c f s) hpicked fun e he => ?_
  replace he := he.trans (if_neg fun h => hfar.elim h.1 fun hle => Nat.not_le_of_lt h.2 hle)
  dsimp only at he
  rw [Dev.toTaps_eq, Dev.reached_set _ _ _ (by decide)] at he
  have hreached : s.found.reached 255 p.val p.val ((s.found.edgeTime c.toNat f : Int) - sx 16 (s.found.get .CAP_TRIGIN_CFG_DELAY p)).toNat (!rising) =
    s.dev.edgeReached p rising c f := rfl
  have htime : s.found.edgeTime c.toNat f = s.dev.edgeTime c.toNat f := rfl
  rw [hreached, htime] at he
  clear hreached htime hfar
  generalize s.dev.edgeReached p rising c f = l at he hp
  generalize s.dev.edgeTime c.toNat f = tm at he hp
  refine hp { s.found.set .X_TRIGIN_LAST p (tm + 1) with trigs := l } e rfl (fun g i hg => ?_) (s.found.get_set_same .X_TRIGIN_LAST p (tm + 1)) he
  refine s.found.get_set_other .X_TRIGIN_LAST g p i (tm + 1) fun hk => hg ?_
  obtain ⟨rfl, rfl⟩ := Key.mk.inj hk
  exact ⟨rfl, List.mem_singleton.mpr rfl⟩

/-! ## A tap takes a trigger (R313, R320, R327, R328) -/

theorem Dev.enterPost_shows (d : Dev) (t seq off k time frac src flags : Nat) {e : Dev} (he : e = d.enterPost t seq off k time frac src flags) :
    e.tapState t = ctPOST ∧ e.get .CAP_T_EVENTS_TRIGGERED t = 1 ∧ Dev.Raised (769 + 4 * t) d e ∧
      ∀ f ∈ [F.CAP_T_TRIG_TIME_VALUE, .CAP_T_TRIG_INFO_SOURCE, .X_CAP_TSEQ], ∀ i, e.get f i = d.get f i := by
  unfold Dev.enterPost at he
  extract_lets b1 b2 b3 at he
  have hb : ∀ f ∈ [F.CAP_T_TRIG_TIME_VALUE, .CAP_T_TRIG_INFO_SOURCE, .X_CAP_TSEQ, .PH_SRC_OCCUR], ∀ i, b3.get f i = d.get f i := by
    have honly : Dev.Only (fun f _ => f ∈ [F.X_CAP_TRIG, .X_CAP_TRIG_SEQ, .X_CAP_TRIG_OFF, .X_CAP_DIR_SAMPLE, .X_CAP_DIR_TIME, .X_CAP_DIR_FRAC,
        .X_CAP_DIR_SRC, .X_CAP_DIR_FLAGS]) d b3 := ((((((((Dev.Only.refl _ d).write .X_CAP_TRIG t 1).write .X_CAP_TRIG_SEQ t seq).write
      .X_CAP_TRIG_OFF t off).write .X_CAP_DIR_SAMPLE t k).write .X_CAP_DIR_TIME t time).write .X_CAP_DIR_FRAC t frac).write .X_CAP_DIR_SRC t src).write
      .X_CAP_DIR_FLAGS t flags
    exact fun f hf i => honly.2 f i ((by decide : ∀ f ∈ [F.CAP_T_TRIG_TIME_VALUE, .CAP_T_TRIG_INFO_SOURCE, .X_CAP_TSEQ, .PH_SRC_OCCUR],
      f ∉ [F.X_CAP_TRIG, .X_CAP_TRIG_SEQ, .X_CAP_TRIG_OFF, .X_CAP_DIR_SAMPLE, .X_CAP_DIR_TIME, .X_CAP_DIR_FRAC, .X_CAP_DIR_SRC, .X_CAP_DIR_FLAGS]) f hf)
  have hpend : b3.pending = d.pending := rfl
  clear_value b3
  have hget : ∀ f i, f ≠ .CAP_T_EVENTS_TRIGGERED → f ≠ .CAP_T_STATUS_STATE →
      ((b3.set .CAP_T_STATUS_STATE t ctPOST).set .CAP_T_EVENTS_TRIGGERED t 1).get f i = b3.get f i := fun f i h1 h2 =>
    (Dev.get_set_field _ _ _ _ h1).trans (Dev.get_set_field _ _ _ _ h2)
  rw [he]
  refine ⟨?_, (raise_get _ _ _ _ (by decide)).trans (Dev.get_set_same ..), ?_, fun f hf i => ?_⟩
  · exact (raise_get _ _ _ _ (by decide)).trans ((Dev.get_set_field _ _ _ _ (by decide)).trans (Dev.get_set_same ..))
  · exact .after hpend ((hget _ _ (by decide) (by decide)).trans (hb _ (by decide) _)) (by omega)
  · obtain ⟨h1, h2, h3, h4⟩ := (by decide : ∀ f ∈ [F.CAP_T_TRIG_TIME_VALUE, .CAP_T_TRIG_INFO_SOURCE, .X_CAP_TSEQ], f ≠ .CAP_T_EVENTS_TRIGGERED ∧
      f ≠ .CAP_T_STATUS_STATE ∧ f ∉ signalFields ∧ f ∈ [F.CAP_T_TRIG_TIME_VALUE, .CAP_T_TRIG_INFO_SOURCE, .X_CAP_TSEQ, .PH_SRC_OCCUR]) f hf
    exact (raise_get _ _ _ _ h3).trans ((hget _ _ h1 h2).trans (hb _ h4 _))

/-- What a tap that accepts a trigger shows. -/
structure Dev.TriggerTaken (d : Dev) (t src time : Nat) (e : Dev) : Prop where
  time : e.get .CAP_T_TRIG_TIME_VALUE t = time
  source : e.get .CAP_T_TRIG_INFO_SOURCE t = src
  number : e.get .X_CAP_TSEQ t = (d.get .X_CAP_TSEQ t + 1) % 2 ^ F.X_CAP_TSEQ.width
  posts : d.tapState t = ctFILLING ∨ d.tapState t = ctARMED → e.tapState t = ctPOST ∧ e.get .CAP_T_EVENTS_TRIGGERED t = 1 ∧
    Dev.Raised (769 + 4 * t) d e
  stays : ¬ (d.tapState t = ctFILLING ∨ d.tapState t = ctARMED) → e.tapState t = d.tapState t

theorem Dev.addRecord_pending (d : Dev) (t : Nat) (bs : List Byte) : (d.addRecord t bs).pending = d.pending := by
  unfold Dev.addRecord
  dsimp only
  split <;> rfl

theorem Dev.offer_accepted {d : Dev} {t : Nat} (src info time clk : Nat) (falling : Bool) (hruns : d.tapRuns t = true)
    (hlast : d.get .X_CAP_LAST_K t = 0) {e : Dev} (he : e = d.offer t src info time clk falling) : d.TriggerTaken t src time e := by
  have hcond : ∀ n x : Nat, (!decide (d.drawn.get .X_CAP_LAST_K t ≠ 0 ∧ n = x) &&
      decide (d.drawn.get .X_CAP_LAST_K t ≠ 0 ∧ n < x)) = false := fun n x => by
    rw [decide_eq_false (p := d.drawn.get .X_CAP_LAST_K t ≠ 0 ∧ n < x) fun h => h.1 hlast, Bool.and_false]
  unfold Dev.offer at he
  replace he := he.trans (if_neg (by rw [hruns]; exact Bool.false_ne_true))
  extract_lets p b0 k last same b filling arming flags b1 b2 b3 b4 b5 at he
  have hno : ¬ (!same && decide (last ≠ 0 ∧ k < last - 1 + 2 ^ b0.holdoff t)) = true := by
    rw [decide_eq_false (p := last ≠ 0 ∧ k < last - 1 + 2 ^ b0.holdoff t) fun h => h.1 hlast, Bool.and_false]
    exact Bool.false_ne_true
  replace he := he.trans (if_neg hno)
  have hsame : same = false := decide_eq_false fun h => h.1 hlast
  have harm : arming = true ↔ d.tapState t = ctFILLING ∨ d.tapState t = ctARMED := by
    unfold arming filling
    rw [Bool.or_eq_true_iff, beq_iff_eq, beq_iff_eq]
    rfl
  have h1 : (∀ f ∈ [F.CAP_T_STATUS_STATE, .X_CAP_TSEQ, .PH_SRC_OCCUR], ∀ i, b1.get f i = d.get f i) ∧ b1.pending = d.pending := by
    unfold b1
    rw [hsame]
    refine ⟨fun f hf i => ?_, rfl⟩
    obtain ⟨k1, k2⟩ := (by decide : ∀ f ∈ [F.CAP_T_STATUS_STATE, .X_CAP_TSEQ, .PH_SRC_OCCUR], f ≠ .X_CAP_LAST_CLK ∧ f ≠ .X_CAP_LAST_K) f hf
    exact (Dev.get_set_field _ _ _ _ k1).trans (Dev.get_set_field _ _ _ _ k2)
  obtain ⟨hget1, hpend1⟩ := h1
  clear_value b1
  have hget2 : ∀ f ∈ [F.CAP_T_STATUS_STATE, .PH_SRC_OCCUR], ∀ i, b2.get f i = d.get f i := fun f hf i => by
    obtain ⟨k1, k2, k3⟩ := (by decide : ∀ f ∈ [F.CAP_T_STATUS_STATE, .PH_SRC_OCCUR], f ≠ .X_CAP_AUTO_CLK ∧ f ≠ .X_CAP_TSEQ ∧
      f ∈ [F.CAP_T_STATUS_STATE, .X_CAP_TSEQ, .PH_SRC_OCCUR]) f hf
    exact (Dev.get_set_field _ _ _ _ k1).trans ((Dev.get_set_field _ _ _ _ k2).trans (hget1 f k3 i))
  have hseq2 : b2.get .X_CAP_TSEQ t = (d.get .X_CAP_TSEQ t + 1) % 2 ^ F.X_CAP_TSEQ.width := by
    refine (Dev.get_set_field _ _ _ _ (by decide)).trans ((Dev.get_set_same ..).trans ?_)
    rw [hget1 _ (by decide)]
  have hpend2 : b2.pending = d.pending := hpend1
  clear_value b2
  have hkeep3 : Dev.Keeps [.CAP_T_STATUS_STATE, .PH_SRC_OCCUR, .X_CAP_TSEQ] [] b2 b3 := Dev.addRecord_keeps _ _ _ (by decide)
  have hpend3 : b3.pending = d.pending := (Dev.addRecord_pending ..).trans hpend2
  clear_value b3
  have hget5 : ∀ f ∈ [F.CAP_T_STATUS_STATE, .PH_SRC_OCCUR, .X_CAP_TSEQ], ∀ i, b5.get f i = b2.get f i := fun f hf i => by
    have honly : Dev.Only (fun f _ => f ∈ [F.CAP_T_TRIG_SAMPLE_VALUE, .CAP_T_TRIG_TIME_VALUE, .CAP_T_TRIG_INFO_FRAC, .CAP_T_TRIG_INFO_SOURCE,
        .CAP_T_TRIG_INFO_FLAGS]) b3 b5 := (((((Dev.Only.refl _ b3).write .CAP_T_TRIG_SAMPLE_VALUE t _).write .CAP_T_TRIG_TIME_VALUE t _).write
      .CAP_T_TRIG_INFO_FRAC t _).write .CAP_T_TRIG_INFO_SOURCE t _).write .CAP_T_TRIG_INFO_FLAGS t _
    exact (honly.2 f i ((by decide : ∀ f ∈ [F.CAP_T_STATUS_STATE, .PH_SRC_OCCUR, .X_CAP_TSEQ], f ∉ [F.CAP_T_TRIG_SAMPLE_VALUE, .CAP_T_TRIG_TIME_VALUE,
      .CAP_T_TRIG_INFO_FRAC, .CAP_T_TRIG_INFO_SOURCE, .CAP_T_TRIG_INFO_FLAGS]) f hf)).trans (hkeep3.get f hf i)
  have htime : b5.get .CAP_T_TRIG_TIME_VALUE t = time := (Dev.get_set_field _ _ _ _ (by decide)).trans ((Dev.get_set_field _ _ _ _ (by decide)).trans
    ((Dev.get_set_field _ _ _ _ (by decide)).trans (Dev.get_set_same ..)))
  have hsrc : b5.get .CAP_T_TRIG_INFO_SOURCE t = src := (Dev.get_set_field _ _ _ _ (by decide)).trans (Dev.get_set_same ..)
  have hpend5 : b5.pending = d.pending := hpend3
  have hseq5 : b5.get .X_CAP_TSEQ t = (d.get .X_CAP_TSEQ t + 1) % 2 ^ F.X_CAP_TSEQ.width := (hget5 _ (by decide) t).trans hseq2
  clear_value b5 arming flags k b p
  by_cases ha : arming = true
  · obtain ⟨k1, k2, k3, k4⟩ := Dev.enterPost_shows _ _ _ _ _ _ _ _ _ (he.trans (if_pos ha))
    exact ⟨(k4 _ (by decide) t).trans htime, (k4 _ (by decide) t).trans hsrc, (k4 _ (by decide) t).trans hseq5, fun _ => ⟨k1, k2, k3.1.trans
      (by rw [hpend5]), k3.2.trans (by rw [hget5 _ (by decide), hget2 _ (by decide)])⟩, fun h => (h (harm.mp ha)).elim⟩
  · rw [he.trans (if_neg ha)]
    exact ⟨htime, hsrc, hseq5, fun h => (ha (harm.mpr h)).elim, fun _ => (hget5 _ (by decide) t).trans (hget2 _ (by decide) t)⟩

theorem Dev.offer_missed {d : Dev} {t : Nat} (src info time clk : Nat) (falling : Bool) (hruns : d.tapRuns t = true)
    (hlast : d.get .X_CAP_LAST_K t ≠ 0) (hclk : d.get .X_CAP_LAST_CLK t ≠ clk)
    (hnear : (d.interpolate t time).1 < d.get .X_CAP_LAST_K t - 1 + 2 ^ d.holdoff t) :
    d.offer t src info time clk falling = d.drawn.addSat .CAP_T_COUNTS_TRIG_MISSED t 1 := by
  have hcond : (!decide (d.drawn.get .X_CAP_LAST_K t ≠ 0 ∧ d.drawn.get .X_CAP_LAST_CLK t = clk) &&
      decide (d.drawn.get .X_CAP_LAST_K t ≠ 0 ∧ (d.interpolate t time).1 < d.drawn.get .X_CAP_LAST_K t - 1 + 2 ^ d.drawn.holdoff t)) = true := by
    rw [decide_eq_false (p := d.drawn.get .X_CAP_LAST_K t ≠ 0 ∧ d.drawn.get .X_CAP_LAST_CLK t = clk) fun h => hclk h.2]
    exact decide_eq_true ⟨hlast, hnear⟩
  unfold Dev.offer
  rw [if_neg (by rw [hruns]; exact Bool.false_ne_true)]
  exact if_pos hcond

theorem Dev.takeTrigger_of {d : Dev} {t : Nat} {ev : TrigEvent} (h : d.nextTrigger t = some ev) :
    Dev.takeTrigger t d = { d with trigs := takeEvent t ev d.trigs }.offer t ev.src ev.info ev.time ev.clk ev.falling := by
  unfold Dev.takeTrigger
  rw [h]

theorem triggerAccept_accepts {t : Fin 8} {s : State} {ev : TrigEvent} (hnext : s.dev.nextTrigger t = some ev) (hruns : s.dev.tapRuns t = true)
    (hlast : s.dev.get .X_CAP_LAST_K t = 0) : Completes (.triggerAccept t) s fun e => s.dev.TriggerTaken t ev.src ev.time e := by
  refine .runAs (rfl : _ = execTriggerAccept t s) fun e he => ?_
  obtain ⟨h1, h2, h3, h4, h5⟩ := Dev.offer_accepted (d := { s.found with trigs := takeEvent t ev s.dev.trigs }) _ _ _ _ _ hruns hlast
    (he.trans (Dev.takeTrigger_of (d := s.found) hnext))
  exact ⟨h1, h2, h3, h4, h5⟩

theorem triggerAccept_misses {t : Fin 8} {s : State} {ev : TrigEvent} (hnext : s.dev.nextTrigger t = some ev) (hruns : s.dev.tapRuns t = true)
    (hlast : s.dev.get .X_CAP_LAST_K t ≠ 0) (hclk : s.dev.get .X_CAP_LAST_CLK t ≠ ev.clk)
    (hnear : (s.dev.interpolate t ev.time).1 < s.dev.get .X_CAP_LAST_K t - 1 + 2 ^ s.dev.holdoff t) :
    Completes (.triggerAccept t) s fun e => e.tapState t = s.dev.tapState t ∧ e.get .CAP_T_COUNTS_TRIG_MISSED t =
      satAdd F.CAP_T_COUNTS_TRIG_MISSED.width (s.dev.get .CAP_T_COUNTS_TRIG_MISSED t) 1 := by
  refine .runAs (rfl : _ = execTriggerAccept t s) fun e he => ?_
  rw [Dev.takeTrigger_of (d := s.found) hnext, Dev.offer_missed (d := { s.found with trigs := takeEvent t ev s.found.trigs }) _ _ _ _ _ hruns hlast hclk hnear] at he
  rw [he]
  exact ⟨Dev.get_set_field _ _ _ _ (by decide), Dev.get_set_same ..⟩

theorem autoTrigger_accepts {t : Fin 8} {s : State} (hauto : s.dev.lon .CAP_T_CTRL_AUTO t = true) (hst : s.dev.tapState t = ctARMED)
    (hlast : s.dev.get .X_CAP_LAST_K t = 0) (hclk : s.dev.get .X_CAP_AUTO_CLK t + max 1000 (s.dev.lget .CAP_T_AUTO_TIMEOUT t) * ns ≤ s.dev.clk) :
    Completes (.autoTrigger t) s fun e => s.dev.TriggerTaken t 0x11 s.dev.now e := by
  have hcond : (s.dev.lon .CAP_T_CTRL_AUTO t && (s.dev.tapState t == ctARMED || s.dev.tapState t == ctSTREAMING)) = true := by
    rw [hauto, hst]
    rfl
  have hruns : s.dev.tapRuns t = true := by
    unfold Dev.tapRuns
    rw [hst]
    rfl
  refine .runIf (rfl : _ = execAutoTrigger t s) hcond fun e he => ?_
  obtain ⟨h1, h2, h3, h4, h5⟩ := Dev.offer_accepted (d := s.found) _ _ _ _ _ hruns hlast (he.trans (Dev.onTime_of_le hclk))
  exact ⟨h1, h2, h3, h4, h5⟩

/-- Settles O52: triggers that wait for taps, and taps that take them. -/
theorem triggersReachTaps : Obligations.TriggersReachTaps := by
  refine ⟨fun s => ⟨fun c f h => Dev.edgeTime_untrimmed h c f, fun taps tag => ?_, fun j c f => ⟨fun hd => ?_, fun hd => ?_⟩,
    fun p rising c f => ⟨fun hno => ?_, fun hpicked hfar => ?_, trigInEdge_close⟩⟩, fun t s => ⟨fun ev hnext hruns => ⟨fun hlast => ?_, triggerAccept_misses hnext hruns⟩,
    fun hauto hst hlast hclk => ?_⟩⟩
  · refine .runAs (rfl : _ = execSoftwareTrigger taps tag s) fun e he => ?_
    rw [Dev.toTaps_eq] at he
    generalize hl : s.found.reached taps.toNat 0x10 tag.toNat s.found.now false = l at he
    have hreached : (if s.dev.tapsFor taps.toNat 0x10 tag.toNat [] = 0 then s.dev.trigs else s.dev.trigs ++
        [(⟨0x10, tag.toNat, s.dev.now, false, s.dev.clk, s.dev.tapsFor taps.toNat 0x10 tag.toNat []⟩ : TrigEvent)]) = l := hl
    dsimp only
    rw [hreached]
    exact pulse_waits (d := { s.found with trigs := l }) rfl (fun _ _ _ => rfl) List.not_mem_nil he
  · exact .runIf (rfl : _ = execXtrigEdge j c f s) (beq_iff_eq.mpr hd) fun e he => he
  · refine .runElse (rfl : _ = execXtrigEdge j c f s) (fun h => hd (beq_iff_eq.mp h)) fun e he => ?_
    exact he.trans (Dev.toTaps_eq ..)
  · exact .runElse (rfl : _ = execTrigInEdge p rising c f s) hno fun e he => he
  · refine trigInEdge_waits hpicked hfar fun d e hd hget hlast he => ?_
    have h := pulse_waits hd hget (by decide) he
    refine ⟨?_, h⟩
    rw [he]
    exact ((d.xtrigEvent_pulsed p.val).2.2 _ _ (fun h => h.elim (fun h => absurd h.1 (by decide)) fun h => absurd h.1 (by decide))
      (by decide)).trans hlast
  · refine (triggerAccept_accepts hnext hruns hlast).mono fun e h => ⟨h.time, h.source, h.number, h.posts, fun hst => h.stays ?_⟩
    rcases hst with hst | hst <;> rw [hst] <;> decide
  · exact (autoTrigger_accepts hauto hst hlast hclk).mono fun e h => ⟨(h.posts (.inr hst)).1, h.source, h.time⟩

end Sys2Proof.Machine
end

section
/-! PROOFS. Sequences of the housekeeping converters (R369 to R377, R380, R384, R388). -/

-- One theorem at a time: the whole text is compiled under a memory limit, which the stacks of waiting threads would fill.
set_option Elab.async false

namespace Sys2Proof.Machine

open Sys2Proof

/-! ## What the operations on a converter leave alone -/

section
variable {L M : List F} {d e : Dev}

theorem Dev.Keeps.setLine (h : Dev.Keeps L M d e) (s : Nat) (b : Bool) (hL : ∀ f ∈ L, f ∉ signalFields) : Dev.Keeps L M d (e.setLine s b) :=
  h.trans (Dev.Steady.setLine (L := L) (N := []) (n := 0) (.refl e) s b fun f hf hm =>
    hL f ((List.mem_append.mp hm).resolve_right List.not_mem_nil) hf).toKeeps

theorem Dev.Keeps.setHistory (h : Dev.Keeps L M d e) (i : Nat) (l : List Nat) : Dev.Keeps L M d (e.setHistory i l) :=
  h.trans (.same rfl rfl rfl rfl)

end

section
variable {L M : List F}

/-- What a synchronising reset of a channel writes (R380). -/
def resetFields : List F := [.HK_CH_RAW_LEN_LIVE, .HK_CH_RAW_LEN_PENDING, .HK_CH_RAW_FADE_LEFT, .HK_CH_RES_VALUE, .HK_CH_RES_TRANSITION, .X_HK_OUT,
  .HK_CH_RES_PRIMING]

theorem Dev.syncReset_keeps (i : Nat) (d : Dev) (hL : ∀ f ∈ resetFields, f ∉ L) : Dev.Keeps L M d (Dev.syncReset i d) := by
  unfold Dev.syncReset
  extract_lets b c
  have hb : Dev.Keeps L M d b := (Dev.Keeps.refl d).setHistory i []
  have hc : Dev.Keeps L M d c := by
    unfold c
    split
    · exact (hb.set _ _ (hL _ (by decide))).set _ _ (hL _ (by decide))
    · exact hb
  exact (hc.setAll _ _ fun f hf => hL f ((by decide : ∀ f ∈ [F.HK_CH_RAW_FADE_LEFT, .HK_CH_RES_VALUE, .HK_CH_RES_TRANSITION, .X_HK_OUT],
    f ∈ resetFields) f hf)).set _ _ (hL _ (by decide))

/-- What the start of a sequence writes. -/
def seqFields : List F := [.X_HK_SYNC, .X_HK_ENT_CH, .X_HK_ENT_N, .X_HK_LEN, .X_HK_LOOP, .X_HK_RUN, .X_HK_WAIT, .HK_STATUS_BUSY, .HK_SEQ_TIME_TIME,
  .HK_STATUS_ENTRY, .X_HK_LEFT] ++ resetFields

/-- R374, R380: a sequence before it is marked as running: the resets that wait are done, and the live entries taken. -/
def Dev.entriesTaken (d : Dev) (t : Nat) : Dev :=
  let d := if d.on .X_HK_SYNC t then Dev.each 48 (fun c d => Dev.syncReset (48 * t + c) d) (d.set .X_HK_SYNC t 0) else d
  let d := Dev.each 48 (fun e d =>
    (d.set .X_HK_ENT_CH (48 * t + e) (min 47 (d.lget .HK_SEQ_CHANNEL (48 * t + e)))).set .X_HK_ENT_N (48 * t + e)
      (d.lget .HK_SEQ_REPEAT (48 * t + e) + 1)) d
  (d.set .X_HK_LEN t (clampN 1 48 (d.lget .HK_CTRL_SEQ_LEN t))).set .X_HK_LOOP t (d.lget .HK_CTRL_LOOP t)

theorem Dev.beginSequence_eq (d : Dev) (t : Nat) : d.beginSequence t =
    (((((d.entriesTaken t).set .X_HK_RUN t 1).set .X_HK_WAIT t 0).set .HK_STATUS_BUSY t 1).set .HK_SEQ_TIME_TIME t
      ((((d.entriesTaken t).set .X_HK_RUN t 1).set .X_HK_WAIT t 0).set .HK_STATUS_BUSY t 1).now).beginEntry t 0 := rfl

theorem Dev.entriesTaken_keeps (d : Dev) (t : Nat) (hL : ∀ f ∈ seqFields, f ∉ L) : Dev.Keeps L M d (d.entriesTaken t) := by
  unfold Dev.entriesTaken
  extract_lets b c
  have hb : Dev.Keeps L M d b := by
    unfold b
    split
    · exact ((Dev.Keeps.refl d).set _ _ (hL _ (by decide))).trans
        (.each (fun c a => Dev.syncReset_keeps _ a fun f hf => hL f (List.mem_append_right _ hf)) _)
    · exact .refl d
  have hc : Dev.Keeps L M b c :=
    .each (fun e a => ((Dev.Keeps.refl a).set _ _ (hL _ (by decide))).set _ _ (hL _ (by decide))) b
  exact ((hb.trans hc).set _ _ (hL _ (by decide))).set _ _ (hL _ (by decide))

theorem Dev.beginSequence_keeps (d : Dev) (t : Nat) (hL : ∀ f ∈ seqFields, f ∉ L) : Dev.Keeps L M d (d.beginSequence t) := by
  rw [Dev.beginSequence_eq]
  exact ((((((d.entriesTaken_keeps t hL).set _ _ (hL _ (by decide))).set _ _ (hL _ (by decide))).set _ _ (hL _ (by decide))).set _ _
    (hL _ (by decide))).set _ _ (hL _ (by decide))).set _ _ (hL _ (by decide))

/-- R374, R376: what a sequence that has begun shows. -/
theorem Dev.beginSequence_shows (d : Dev) (t : Nat) {e : Dev} (he : e = d.beginSequence t) :
    e.get .HK_STATUS_BUSY t = 1 ∧ e.get .X_HK_RUN t = 1 ∧ e.get .HK_STATUS_ENTRY t = 0 ∧ e.get .HK_SEQ_TIME_TIME t = d.now := by
  have hnow : ((((d.entriesTaken t).set .X_HK_RUN t 1).set .X_HK_WAIT t 0).set .HK_STATUS_BUSY t 1).now = d.now :=
    (Dev.get_set_field _ _ _ _ (by decide)).trans ((Dev.get_set_field _ _ _ _ (by decide)).trans ((Dev.get_set_field _ _ _ _ (by decide)).trans
      ((d.entriesTaken_keeps (L := [.TIME_NOW_NOW]) (M := []) t (by decide)).get _ (by decide) 0)))
  rw [Dev.beginSequence_eq, hnow] at he
  generalize d.entriesTaken t = b at he
  have hentry : ∀ f i, f ≠ .X_HK_LEFT → f ≠ .HK_STATUS_ENTRY →
      e.get f i = ((((b.set .X_HK_RUN t 1).set .X_HK_WAIT t 0).set .HK_STATUS_BUSY t 1).set .HK_SEQ_TIME_TIME t d.now).get f i := fun f i h1 h2 => by
    rw [he]
    exact (Dev.get_set_field _ _ _ _ h1).trans (Dev.get_set_field _ _ _ _ h2)
  refine ⟨?_, ?_, ?_, ?_⟩
  · exact (hentry _ _ (by decide) (by decide)).trans ((Dev.get_set_field _ _ _ _ (by decide)).trans (Dev.get_set_same ..))
  · exact (hentry _ _ (by decide) (by decide)).trans ((Dev.get_set_field _ _ _ _ (by decide)).trans ((Dev.get_set_field _ _ _ _ (by decide)).trans
      ((Dev.get_set_field _ _ _ _ (by decide)).trans (Dev.get_set_same ..))))
  · rw [he]
    exact (Dev.get_set_field _ _ _ _ (by decide)).trans (Dev.get_set_same ..)
  · exact (hentry _ _ (by decide) (by decide)).trans (Dev.get_set_same ..)

/-- What the start of a conversion writes. -/
def convFields : List F := [.HK_STATUS_STATE, .X_HK_CLK, .X_HK_SEL, .X_HK_DISC, .X_HK_FORCE]

theorem Dev.beginConversion_keeps (d : Dev) (t at_ : Nat) (hL : ∀ f ∈ convFields, f ∉ L) : Dev.Keeps L M d (d.beginConversion t at_) :=
  (((((Dev.Keeps.refl d).set _ _ (hL _ (by decide))).set _ _ (hL _ (by decide))).set _ _ (hL _ (by decide))).set _ _ (hL _ (by decide))).set _ _
    (hL _ (by decide))

theorem Dev.beginConversion_shows (d : Dev) (t at_ : Nat) :
    (d.beginConversion t at_).hk t = hkCONVERTING ∧ (d.beginConversion t at_).get .X_HK_CLK t = at_ :=
  ⟨(Dev.get_set_field _ _ _ _ (by decide)).trans (Dev.get_set_same ..), Dev.get_set_same ..⟩

theorem Dev.hkRequest_keeps (d : Dev) (t : Nat) (hL : ∀ f ∈ convFields, f ∉ L) : Dev.Keeps L M d (d.hkRequest t) := by
  unfold Dev.hkRequest
  split
  · exact ((Dev.Keeps.refl d).set _ _ (hL _ (by decide))).set _ _ (hL _ (by decide))
  · split
    · exact d.beginConversion_keeps t _ hL
    · exact .refl d

theorem Dev.hkRequest_down {d : Dev} {t : Nat} (h : d.hk t = hkDOWN) : (d.hkRequest t).hk t = hkSTARTING := by
  unfold Dev.hkRequest
  rw [if_pos h]
  exact (Dev.get_set_field _ _ _ _ (by decide)).trans (Dev.get_set_same ..)

theorem Dev.hkRequest_ready {d : Dev} {t : Nat} (h : d.hk t = hkREADY) : (d.hkRequest t).hk t = hkCONVERTING := by
  unfold Dev.hkRequest
  rw [if_neg (by rw [h]; decide), if_pos h]
  exact (d.beginConversion_shows t _).1

/-- What a comparison with the window of a channel may change (R385). -/
def limitFields : List F := [.X_HK_OUT, .HK_LIMIT_EV0_CHANNELS, .HK_LIMIT_EV1_CHANNELS, .HK_EVENTS_LIMIT]

theorem Dev.compareLimit_keeps (d : Dev) (i : Nat) (hL : ∀ f ∈ limitFields, f ∉ L) (hs : ∀ f ∈ L, f ∉ signalFields) :
    Dev.Keeps L M d (d.compareLimit i) := by
  unfold Dev.compareLimit
  split
  · extract_lets v out was b t c a
    have hb : Dev.Keeps L M d b := (Dev.Keeps.refl d).set _ _ (hL _ (by decide))
    split
    · have ha : Dev.Keeps L M d a := by
        unfold a
        split
        · exact hb.set _ _ (hL _ (by decide))
        · exact hb.set _ _ (hL _ (by decide))
      exact (ha.set _ _ (hL _ (by decide))).setLine _ _ hs
    · exact hb
  · exact .refl d

theorem Dev.notePower_keeps (d : Dev) (i v : Nat) (hL : ∀ f ∈ [F.X_LG_PD_SUM, .X_LG_PD_N], f ∉ L) : Dev.Keeps L M d (d.notePower i v) := by
  unfold Dev.notePower
  split
  · exact ((Dev.Keeps.refl d).set _ _ (hL _ (by decide))).set _ _ (hL _ (by decide))
  · exact .refl d

end

/-! ## Starts (R374 to R376) -/

/-- What a start of a sequence shows. -/
structure Dev.Begun (d : Dev) (t src : Nat) (e : Dev) : Prop where
  source : e.get .HK_STATUS_LAST_SRC t = src
  busy : e.get .HK_STATUS_BUSY t = 1
  runs : e.get .X_HK_RUN t = 1
  entry : e.get .HK_STATUS_ENTRY t = 0
  time : e.get .HK_SEQ_TIME_TIME t = d.now
  down : d.hk t = hkDOWN → e.hk t = hkSTARTING
  ready : d.hk t = hkREADY → e.hk t = hkCONVERTING

section
variable {d : Dev} {t src : Nat} (hon : d.domOn (domHk t) = true)
include hon

theorem Dev.hkStart_joins (hstart : d.get .X_HK_START t = d.clk + 1) :
    d.hkStart t src = d.set .HK_STATUS_LAST_SRC t (d.get .HK_STATUS_LAST_SRC t ||| src) := by
  unfold Dev.hkStart
  rw [if_neg (by rw [hon]; exact Bool.false_ne_true), if_pos hstart]

variable (hstart : d.get .X_HK_START t ≠ d.clk + 1)
include hstart

theorem Dev.hkStart_running (hrun : d.get .X_HK_RUN t = 1) : d.hkStart t src = if d.on .X_HK_LOOP t then d else d.startMissed t := by
  unfold Dev.hkStart
  rw [if_neg (by rw [hon]; exact Bool.false_ne_true), if_neg hstart]
  exact if_pos (beq_iff_eq.mpr hrun)

variable (hrun : d.get .X_HK_RUN t ≠ 1) (hwait : d.get .X_HK_WAIT t ≠ 1)
include hrun hwait

theorem Dev.hkStart_idle : d.hkStart t src =
    if ((d.set .HK_STATUS_LAST_SRC t src).set .X_HK_START t (d.clk + 1)).hk t = hkCAL then
      (((d.set .HK_STATUS_LAST_SRC t src).set .X_HK_START t (d.clk + 1)).set .X_HK_WAIT t 1).set .HK_STATUS_BUSY t 1
    else (((d.set .HK_STATUS_LAST_SRC t src).set .X_HK_START t (d.clk + 1)).beginSequence t).hkRequest t := by
  have hrun' : ¬ d.on .X_HK_RUN t = true := fun h => hrun (beq_iff_eq.mp h)
  have hwait' : ¬ d.on .X_HK_WAIT t = true := fun h => hwait (beq_iff_eq.mp h)
  unfold Dev.hkStart
  rw [if_neg (by rw [hon]; exact Bool.false_ne_true), if_neg hstart, if_neg hrun', if_neg hwait']

theorem Dev.hkStart_waits (hcal : d.hk t = hkCAL) {e : Dev} (he : e = d.hkStart t src) :
    e.get .X_HK_WAIT t = 1 ∧ e.get .HK_STATUS_BUSY t = 1 ∧ e.hk t = hkCAL := by
  have hhk : ((d.set .HK_STATUS_LAST_SRC t src).set .X_HK_START t (d.clk + 1)).hk t = hkCAL :=
    (Dev.get_set_field _ _ _ _ (by decide)).trans ((Dev.get_set_field _ _ _ _ (by decide)).trans hcal)
  rw [Dev.hkStart_idle hon hstart hrun hwait, if_pos hhk] at he
  rw [he]
  exact ⟨(Dev.get_set_field _ _ _ _ (by decide)).trans (Dev.get_set_same ..), Dev.get_set_same ..,
    (Dev.get_set_field _ _ _ _ (by decide)).trans ((Dev.get_set_field _ _ _ _ (by decide)).trans hhk)⟩

theorem Dev.hkStart_begins (hcal : d.hk t ≠ hkCAL) {e : Dev} (he : e = d.hkStart t src) : d.Begun t src e := by
  have hhk : ((d.set .HK_STATUS_LAST_SRC t src).set .X_HK_START t (d.clk + 1)).hk t = d.hk t :=
    (Dev.get_set_field _ _ _ _ (by decide)).trans (Dev.get_set_field _ _ _ _ (by decide))
  have hsrc : ((d.set .HK_STATUS_LAST_SRC t src).set .X_HK_START t (d.clk + 1)).get .HK_STATUS_LAST_SRC t = src :=
    (Dev.get_set_field _ _ _ _ (by decide)).trans (Dev.get_set_same ..)
  have hnow : ((d.set .HK_STATUS_LAST_SRC t src).set .X_HK_START t (d.clk + 1)).now = d.now :=
    (Dev.get_set_field _ _ _ _ (by decide)).trans (Dev.get_set_field _ _ _ _ (by decide))
  rw [Dev.hkStart_idle hon hstart hrun hwait, if_neg (by rw [hhk]; exact hcal)] at he
  generalize (d.set .HK_STATUS_LAST_SRC t src).set .X_HK_START t (d.clk + 1) = b at he hhk hsrc hnow
  obtain ⟨h1, h2, h3, h4⟩ := b.beginSequence_shows t rfl
  have hk := b.beginSequence_keeps (L := [.HK_STATUS_STATE, .HK_STATUS_LAST_SRC]) (M := []) t (by decide)
  have hst : (b.beginSequence t).hk t = d.hk t := (hk.get .HK_STATUS_STATE (by decide) t).trans hhk
  have hls : (b.beginSequence t).get .HK_STATUS_LAST_SRC t = src := (hk.get _ (by decide) t).trans hsrc
  generalize b.beginSequence t = c at he h1 h2 h3 h4 hst hls
  have hr := c.hkRequest_keeps (L := [.HK_STATUS_LAST_SRC, .HK_STATUS_BUSY, .X_HK_RUN, .HK_STATUS_ENTRY, .HK_SEQ_TIME_TIME]) (M := []) t (by decide)
  rw [← he] at hr
  exact ⟨(hr.get _ (by decide) t).trans hls, (hr.get _ (by decide) t).trans h1, (hr.get _ (by decide) t).trans h2, (hr.get _ (by decide) t).trans h3,
    (hr.get _ (by decide) t).trans (h4.trans hnow), fun h => he ▸ Dev.hkRequest_down (hst.trans h), fun h => he ▸ Dev.hkRequest_ready (hst.trans h)⟩

end

theorem Dev.hkStart_asleep {d : Dev} {t src : Nat} (h : d.domOn (domHk t) = false) (hsrc : bitAt src 2 = false) : d.hkStart t src = d := by
  unfold Dev.hkStart
  rw [if_pos (by rw [h]; rfl), if_neg (by rw [hsrc]; exact Bool.false_ne_true)]

theorem Dev.startMissed_shows (d : Dev) (t : Nat) {e : Dev} (he : e = d.startMissed t) : e.get .HK_EVENTS_START_MISSED t = 1 ∧
    e.get .HK_COUNTS_STARTS_MISSED t = satAdd F.HK_COUNTS_STARTS_MISSED.width (d.get .HK_COUNTS_STARTS_MISSED t) 1 ∧
    Dev.OnlyRaisingAt [.HK_EVENTS_START_MISSED, .HK_COUNTS_STARTS_MISSED] t d e := by
  have hk : ∀ b s v, Dev.Keeps [.HK_EVENTS_START_MISSED, .HK_COUNTS_STARTS_MISSED] [] b (b.setLine s v) := fun b s v =>
    (Dev.Keeps.refl b).setLine s v (by decide)
  unfold Dev.startMissed Dev.syncHk at he
  rw [he]
  refine ⟨((hk _ _ _).get _ (by decide) t).trans (Dev.get_set_same ..), ((hk _ _ _).get _ (by decide) t).trans
    ((Dev.get_set_field _ _ _ _ (by decide)).trans (Dev.get_set_same ..)), ?_⟩
  exact (((Dev.OnlyRaising.refl _ d).put _ ⟨rfl, by decide⟩).put _ ⟨rfl, by decide⟩).setLine _ _

/-! ## Conversions (R369, R371, R377, R379) -/

/-- What a kept result leaves alone. -/
def sequenceKept : List F := [.HK_CH_RAW_CODE, .HK_STATUS_STATE, .X_HK_CAL, .X_HK_RUN, .X_HK_LOOP, .X_HK_LEFT, .HK_STATUS_ENTRY, .X_HK_LEN]

theorem Dev.takeLen_keeps (d : Dev) (i code : Nat) : Dev.Keeps sequenceKept [] d (d.takeLen i code) := by
  unfold Dev.takeLen
  split
  · exact (Dev.Keeps.refl d).set _ _ (by decide)
  · exact (((Dev.Keeps.refl d).set _ _ (by decide)).set _ _ (by decide)).set _ _ (by decide)

theorem Dev.output_shows (d : Dev) (i code : Nat) {e : Dev} (he : e = d.output i code) : Dev.Keeps sequenceKept [] d e ∧
    (d.get .HK_CH_RAW_FADE_LEFT i = 0 →
      e.get .HK_CH_RES_VALUE i = average (d.get .HK_CH_RAW_LEN_LIVE i) ((code :: d.history i).take 512) ∧
      e.get .HK_CH_RES_COUNT i = (d.get .HK_CH_RES_COUNT i + 1) % 2 ^ F.HK_CH_RES_COUNT.width) := by
  unfold Dev.output at he
  extract_lets h b0 len left n v b1 b2 b3 b4 b5 at he
  have h1 : b1.get .HK_CH_RES_VALUE i = v ∧ (∀ j, b1.get .HK_CH_RES_COUNT j = d.get .HK_CH_RES_COUNT j) ∧ Dev.Keeps sequenceKept [] d b1 :=
    ⟨(Dev.get_set_field _ _ _ _ (by decide)).trans ((Dev.get_set_field _ _ _ _ (by decide)).trans (Dev.get_set_same ..)),
      fun j => (Dev.get_set_field _ _ _ _ (by decide)).trans ((Dev.get_set_field _ _ _ _ (by decide)).trans (Dev.get_set_field _ _ _ _ (by decide))),
      ((((Dev.Keeps.refl d).setHistory i h).set _ _ (by decide)).set _ _ (by decide)).set _ _ (by decide)⟩
  obtain ⟨hval1, hcount1, hk1⟩ := h1
  clear_value b1
  have h2 : b2.get .HK_CH_RES_VALUE i = v ∧ b2.get .HK_CH_RES_COUNT i = (d.get .HK_CH_RES_COUNT i + 1) % 2 ^ F.HK_CH_RES_COUNT.width ∧
      Dev.Keeps sequenceKept [] d b2 := by
    refine ⟨(Dev.get_set_field _ _ _ _ (by decide)).trans ((Dev.get_set_field _ _ _ _ (by decide)).trans hval1), (Dev.get_set_same ..).trans ?_,
      (hk1.set _ _ (by decide)).set _ _ (by decide)⟩
    rw [Dev.get_set_field _ _ _ _ (by decide), hcount1]
  obtain ⟨hval2, hcount2, hk2⟩ := h2
  clear_value b2
  have hk4 : Dev.Keeps (sequenceKept ++ [.HK_CH_RES_VALUE, .HK_CH_RES_COUNT]) [] b2 b4 :=
    (b2.notePower_keeps i v (by decide)).set _ _ (by decide)
  clear_value b4
  have hk5 : Dev.Keeps sequenceKept [] b4 b5 := by
    unfold b5
    split
    · exact ((Dev.Keeps.refl b4).set _ _ (by decide)).trans (Dev.takeLen_keeps ..)
    · exact .refl b4
  refine ⟨?_, fun hfade => ?_⟩
  · rw [he]
    exact ((hk2.trans (hk4.mono (fun f hf => List.mem_append_left _ hf) fun _ hf => hf)).trans hk5).trans (b5.compareLimit_keeps i (by decide) (by decide))
  · have hleft : left = 0 := hfade
    have hv : v = average (d.get .HK_CH_RAW_LEN_LIVE i) h := if_pos hleft
    have hb5 : b5 = b4 := if_neg fun hc => absurd (hleft.symm.trans hc.1) (by decide)
    have hk : Dev.Keeps [.HK_CH_RES_VALUE, .HK_CH_RES_COUNT] [] b2 e := by
      rw [he, hb5]
      exact (hk4.mono (fun f hf => List.mem_append_right _ hf) fun _ hf => hf).trans (b4.compareLimit_keeps i (by decide) (by decide))
    exact ⟨(hk.get _ (by decide) i).trans (hval2.trans hv), (hk.get _ (by decide) i).trans hcount2⟩

/-- What the end of a sequence, or the next entry of one, leaves alone. -/
def resultKept : List F := [.HK_CH_RAW_CODE, .HK_CH_RES_VALUE, .HK_CH_RES_COUNT, .X_HK_CAL]

theorem Dev.endSequence_shows {d : Dev} {t : Nat} (hloop : d.get .X_HK_LOOP t ≠ 1) {e : Dev} (he : e = d.endSequence t) :
    e.get .X_HK_RUN t = 0 ∧ e.get .HK_STATUS_BUSY t = 0 ∧ e.get .HK_EVENTS_SEQ_DONE t = 1 ∧ Dev.Keeps resultKept [] d e := by
  unfold Dev.endSequence at he
  extract_lets b c at he
  have hdone : b.get .HK_EVENTS_SEQ_DONE t = 1 := (Dev.get_set_field _ _ _ _ (by decide)).trans (Dev.get_set_same ..)
  have hb : Dev.Keeps (.X_HK_LOOP :: resultKept) [] d b := ((Dev.Keeps.refl d).set _ _ (by decide)).set _ _ (by decide)
  clear_value b
  have hc : Dev.Keeps (.HK_EVENTS_SEQ_DONE :: .X_HK_LOOP :: resultKept) [] b c := by
    unfold c
    split
    · exact (Dev.Keeps.refl b).raise _ (by decide)
    · exact .refl b
  clear_value c
  have hno : ¬ (c.on .X_HK_LOOP t && c.lon .HK_CTRL_LOOP t) = true := fun h =>
    hloop (((hc.get .X_HK_LOOP (by decide) t).trans (hb.get _ (by decide) t)).symm.trans (beq_iff_eq.mp (Bool.and_eq_true_iff.mp h).1))
  rw [he.trans (if_neg hno)]
  refine ⟨Dev.setAll_get_of_mem _ _ _ (by decide), Dev.setAll_get_of_mem _ _ _ (by decide), (Dev.setAll_get_field _ _ _ _ (by decide)).trans
    ((hc.get _ (by decide) t).trans hdone), ?_⟩
  exact ((hb.mono (by decide) (by decide)).trans (hc.mono (by decide) (by decide))).setAll _ _ (by decide)

theorem Dev.result_discarded {d : Dev} {t : Nat} (code : Nat) (hdisc : d.get .X_HK_DISC t = 1) {e : Dev} (he : e = d.result t code) :
    e.get .HK_CH_RAW_CODE (48 * t + d.entryChan t) = code ∧
      e.get .HK_COUNTS_DISCARDS t = satAdd F.HK_COUNTS_DISCARDS.width (d.get .HK_COUNTS_DISCARDS t) 1 ∧
      Dev.Keeps [.X_HK_CAL, .X_HK_RUN] [] d e := by
  unfold Dev.result at he
  extract_lets i disc b at he
  have hb : b.get .HK_CH_RAW_CODE i = code ∧ b.get .HK_COUNTS_DISCARDS t = d.get .HK_COUNTS_DISCARDS t ∧ Dev.Keeps [.X_HK_CAL, .X_HK_RUN] [] d b :=
    ⟨(Dev.get_set_field _ _ _ _ (by decide)).trans (Dev.get_set_same ..), (Dev.get_set_field _ _ _ _ (by decide)).trans (Dev.get_set_field _ _ _ _ (by decide)),
      ((Dev.Keeps.refl d).set _ _ (by decide)).set _ _ (by decide)⟩
  obtain ⟨h1, h2, h3⟩ := hb
  clear_value b
  rw [he.trans (if_pos (show disc = true from beq_iff_eq.mpr hdisc))]
  exact ⟨(Dev.get_set_field _ _ _ _ (by decide)).trans h1, (Dev.get_set_same ..).trans (by rw [h2]), h3.set _ _ (by decide)⟩

/-- R377: what follows a kept result in the sequence. -/
structure Dev.Follows (d : Dev) (t : Nat) (e : Dev) : Prop where
  repeats : 2 ≤ d.get .X_HK_LEFT t → e.get .X_HK_RUN t = 1 ∧ e.get .HK_STATUS_ENTRY t = d.get .HK_STATUS_ENTRY t
  goes_on : d.get .X_HK_LEFT t ≤ 1 → d.get .HK_STATUS_ENTRY t + 1 < d.get .X_HK_LEN t →
    e.get .X_HK_RUN t = 1 ∧ e.get .HK_STATUS_ENTRY t = d.get .HK_STATUS_ENTRY t + 1
  ends : d.get .X_HK_LEFT t ≤ 1 → d.get .X_HK_LEN t ≤ d.get .HK_STATUS_ENTRY t + 1 →
    e.get .X_HK_RUN t = 0 ∧ e.get .HK_STATUS_BUSY t = 0 ∧ e.get .HK_EVENTS_SEQ_DONE t = 1

theorem Dev.Follows.congr {c d e : Dev} {t : Nat} (h : c.Follows t e)
    (hget : ∀ f ∈ [F.X_HK_LEFT, .HK_STATUS_ENTRY, .X_HK_LEN], c.get f t = d.get f t) : d.Follows t e := by
  obtain ⟨h1, h2, h3⟩ := h
  rw [hget _ (by decide), hget _ (by decide)] at h1
  rw [hget _ (by decide), hget _ (by decide), hget _ (by decide)] at h2 h3
  exact ⟨h1, h2, h3⟩

/-- The entry in progress after a result that was kept. -/
def Dev.afterResult (d : Dev) (t : Nat) : Dev :=
  let left := d.get .X_HK_LEFT t - 1
  let d := d.set .X_HK_LEFT t left
  if left ≠ 0 then d
  else if d.get .HK_STATUS_ENTRY t + 1 < d.get .X_HK_LEN t then d.beginEntry t (d.get .HK_STATUS_ENTRY t + 1)
  else d.endSequence t

theorem Dev.afterResult_follows {d : Dev} {t : Nat} (hrun : d.get .X_HK_RUN t = 1) (hloop : d.get .X_HK_LOOP t ≠ 1) {e : Dev}
    (he : e = d.afterResult t) : Dev.Keeps resultKept [] d e ∧ d.Follows t e := by
  unfold Dev.afterResult at he
  extract_lets left b at he
  have hb : ∀ f i, f ≠ .X_HK_LEFT → b.get f i = d.get f i := fun f i hf => Dev.get_set_field _ _ _ _ hf
  have hk : Dev.Keeps resultKept [] d b := (Dev.Keeps.refl d).set _ _ (by decide)
  have hleft : left = d.get .X_HK_LEFT t - 1 := rfl
  clear_value b left
  have hrun' := (hb .X_HK_RUN t (by decide)).trans hrun
  have hentry := hb .HK_STATUS_ENTRY t (by decide)
  have hlen := hb .X_HK_LEN t (by decide)
  by_cases h0 : left = 0
  · replace he := he.trans (if_neg (not_not.mpr h0))
    rw [hentry, hlen] at he
    by_cases hlt : d.get .HK_STATUS_ENTRY t + 1 < d.get .X_HK_LEN t
    · rw [he.trans (if_pos hlt)]
      refine ⟨(hk.set _ _ (by decide)).set _ _ (by decide), fun h2 => by omega, fun _ _ => ⟨?_, ?_⟩, fun _ hle => by omega⟩
      · exact (Dev.get_set_field _ _ _ _ (by decide)).trans ((Dev.get_set_field _ _ _ _ (by decide)).trans hrun')
      · exact (Dev.get_set_field _ _ _ _ (by decide)).trans (Dev.get_set_same ..)
    · obtain ⟨h1, h2, h3, h4⟩ := Dev.endSequence_shows (by rw [hb _ _ (by decide)]; exact hloop) (he.trans (if_neg hlt))
      exact ⟨hk.trans h4, fun h2 => by omega, fun _ hlt' => (hlt hlt').elim, fun _ _ => ⟨h1, h2, h3⟩⟩
  · rw [he.trans (if_pos h0)]
    exact ⟨hk, fun _ => ⟨hrun', hentry⟩, fun h1 => by omega, fun h1 => by omega⟩

/-- R369, R377, R379: a result that is kept. -/
theorem Dev.result_kept {d : Dev} {t : Nat} (code : Nat) (hdisc : d.get .X_HK_DISC t ≠ 1) (hrun : d.get .X_HK_RUN t = 1)
    (hloop : d.get .X_HK_LOOP t ≠ 1) {e : Dev} (he : e = d.result t code) :
    e.get .HK_CH_RAW_CODE (48 * t + d.entryChan t) = code ∧ e.get .X_HK_CAL t = d.get .X_HK_CAL t ∧ d.Follows t e ∧
      (d.slotHeld t (48 * t + d.entryChan t) = false → d.get .HK_CH_RAW_FADE_LEFT (48 * t + d.entryChan t) = 0 →
        e.get .HK_CH_RES_VALUE (48 * t + d.entryChan t) = average (d.get .HK_CH_RAW_LEN_LIVE (48 * t + d.entryChan t))
          ((d.hkTrimmed t code :: d.history (48 * t + d.entryChan t)).take 512) ∧
        e.get .HK_CH_RES_COUNT (48 * t + d.entryChan t) =
          (d.get .HK_CH_RES_COUNT (48 * t + d.entryChan t) + 1) % 2 ^ F.HK_CH_RES_COUNT.width) := by
  unfold Dev.result at he
  generalize 48 * t + d.entryChan t = i at he ⊢
  extract_lets j disc b c at he
  replace he : e = c.afterResult t := he.trans (if_neg (show ¬ disc = true from fun h => hdisc (beq_iff_eq.mp h)))
  have hb : ∀ f j, f ≠ .HK_CH_RAW_DISCARD → f ≠ .HK_CH_RAW_CODE → b.get f j = d.get f j := fun f j h1 h2 =>
    (Dev.get_set_field _ _ _ _ h1).trans (Dev.get_set_field _ _ _ _ h2)
  have hcode : b.get .HK_CH_RAW_CODE i = code := (Dev.get_set_field _ _ _ _ (by decide)).trans (Dev.get_set_same ..)
  have hhist : b.history i = d.history i := rfl
  obtain ⟨hk, hshows⟩ := b.output_shows i (d.hkTrimmed t code) rfl
  have hkc : Dev.Keeps sequenceKept [] b c := by
    unfold c
    split
    · exact .refl b
    · exact hk
  have hc : d.slotHeld t i = false → c = b.output i (d.hkTrimmed t code) := fun hheld => by
    refine if_neg fun h => Bool.false_ne_true (hheld.symm.trans ?_)
    unfold Dev.slotHeld at h ⊢
    rwa [hb _ _ (by decide) (by decide)] at h
  have hget : ∀ f ∈ [F.X_HK_CAL, .X_HK_RUN, .X_HK_LOOP, .X_HK_LEFT, .HK_STATUS_ENTRY, .X_HK_LEN], c.get f t = d.get f t := fun f hf => by
    obtain ⟨k1, k2, k3⟩ := (by decide : ∀ f ∈ [F.X_HK_CAL, .X_HK_RUN, .X_HK_LOOP, .X_HK_LEFT, .HK_STATUS_ENTRY, .X_HK_LEN],
      f ∈ sequenceKept ∧ f ≠ .HK_CH_RAW_DISCARD ∧ f ≠ .HK_CH_RAW_CODE) f hf
    exact (hkc.get f k1 t).trans (hb f t k2 k3)
  have hraw := (hkc.get .HK_CH_RAW_CODE (by decide) i).trans hcode
  clear_value c
  obtain ⟨hka, hfollows⟩ := Dev.afterResult_follows ((hget .X_HK_RUN (by decide)).trans hrun) (by rw [hget _ (by decide)]; exact hloop) he
  refine ⟨(hka.get _ (by decide) i).trans hraw, (hka.get _ (by decide) t).trans (hget _ (by decide)), hfollows.congr fun f hf => hget f
    ((by decide : ∀ f ∈ [F.X_HK_LEFT, .HK_STATUS_ENTRY, .X_HK_LEN], f ∈ [F.X_HK_CAL, .X_HK_RUN, .X_HK_LOOP, .X_HK_LEFT, .HK_STATUS_ENTRY, .X_HK_LEN]) f hf),
    fun hheld hfade => ?_⟩
  obtain ⟨h1, h2⟩ := hshows ((hb _ _ (by decide) (by decide)).trans hfade)
  rw [hhist, hb _ _ (by decide) (by decide)] at h1
  rw [hb _ _ (by decide) (by decide)] at h2
  rw [← hc hheld] at h1 h2
  exact ⟨(hka.get _ (by decide) i).trans h1, (hka.get _ (by decide) i).trans h2⟩

/-- R373, R377: the converter once a result has been processed. -/
def Dev.nextConversion (d : Dev) (t at_ : Nat) : Dev :=
  let d := d.set .X_HK_CLK t at_
  if d.on .X_HK_CAL t then d.hkCalBegin t else if d.on .X_HK_RUN t then d.beginConversion t at_ else d.set .HK_STATUS_STATE t hkREADY

/-- What it leaves alone. -/
def nextKept : List F := [.HK_CH_RAW_CODE, .HK_CH_RES_VALUE, .HK_CH_RES_COUNT, .HK_STATUS_ENTRY, .HK_STATUS_BUSY, .HK_EVENTS_SEQ_DONE, .HK_COUNTS_DISCARDS]

theorem Dev.nextConversion_shows {d : Dev} {t : Nat} (at_ : Nat) (hcal : d.get .X_HK_CAL t ≠ 1) {e : Dev} (he : e = d.nextConversion t at_) :
    Dev.Keeps nextKept [] d e ∧ (d.get .X_HK_RUN t = 1 → e.hk t = hkCONVERTING) ∧ (d.get .X_HK_RUN t = 0 → e.hk t = hkREADY) := by
  unfold Dev.nextConversion at he
  extract_lets b at he
  have hb : ∀ f, f ≠ .X_HK_CLK → b.get f t = d.get f t := fun f hf => Dev.get_set_field _ _ _ _ hf
  have hk : Dev.Keeps nextKept [] d b := (Dev.Keeps.refl d).set _ _ (by decide)
  clear_value b
  have hcal' : ¬ b.on .X_HK_CAL t = true := fun h => hcal ((hb _ (by decide)).symm.trans (beq_iff_eq.mp h))
  replace he := he.trans (if_neg hcal')
  have hrun := hb .X_HK_RUN (by decide)
  by_cases h : b.get .X_HK_RUN t = 1
  · rw [he.trans (if_pos (beq_iff_eq.mpr h))]
    exact ⟨hk.trans (b.beginConversion_keeps t _ (by decide)), fun _ => (b.beginConversion_shows t _).1, fun h0 => absurd (h.symm.trans (hrun.trans h0)) (by decide)⟩
  · rw [he.trans (if_neg fun hr => h (beq_iff_eq.mp hr))]
    exact ⟨hk.set _ _ (by decide), fun h1 => (h (hrun.trans h1)).elim, fun _ => Dev.get_set_same ..⟩

/-! ## Commands -/

theorem conversionDone_goes {t : Fin 4} {s : State} (input : Int) (hhk : s.dev.hk t = hkCONVERTING)
    (hclk : s.dev.get .X_HK_CLK t + 1100 * ns ≤ s.dev.clk) {P : Dev → Prop} (hp : ∀ b e, b = s.found.result t (s.dev.hkCode t input) →
      e = b.nextConversion t (s.dev.get .X_HK_CLK t + us) → P e) : Completes (.conversionDone t input) s P :=
  .runIf (rfl : _ = execConversionDone t input s) hhk fun e he => hp _ e rfl (he.trans (Dev.onTime_of_le hclk))

/-- What the end of a conversion of a sequence shows. -/
theorem conversionDone_ends {t : Fin 4} {s : State} (input : Int) (hhk : s.dev.hk t = hkCONVERTING)
    (hclk : s.dev.get .X_HK_CLK t + 1100 * ns ≤ s.dev.clk) (hcal : s.dev.get .X_HK_CAL t ≠ 1) (hrun : s.dev.get .X_HK_RUN t = 1)
    (hloop : s.dev.get .X_HK_LOOP t ≠ 1) : Completes (.conversionDone t input) s fun e =>
      e.get .HK_CH_RAW_CODE (48 * t.val + s.dev.entryChan t) = s.dev.hkCode t input ∧
      (s.dev.get .X_HK_DISC t = 1 → e.hk t = hkCONVERTING ∧
        e.get .HK_COUNTS_DISCARDS t = satAdd F.HK_COUNTS_DISCARDS.width (s.dev.get .HK_COUNTS_DISCARDS t) 1) ∧
      (s.dev.get .X_HK_DISC t ≠ 1 → s.dev.slotHeld t (48 * t.val + s.dev.entryChan t) = false →
        s.dev.get .HK_CH_RAW_FADE_LEFT (48 * t.val + s.dev.entryChan t) = 0 →
        e.get .HK_CH_RES_VALUE (48 * t.val + s.dev.entryChan t) = average (s.dev.get .HK_CH_RAW_LEN_LIVE (48 * t.val + s.dev.entryChan t))
          ((s.dev.hkTrimmed t (s.dev.hkCode t input) :: s.dev.history (48 * t.val + s.dev.entryChan t)).take 512) ∧
        e.get .HK_CH_RES_COUNT (48 * t.val + s.dev.entryChan t) =
          (s.dev.get .HK_CH_RES_COUNT (48 * t.val + s.dev.entryChan t) + 1) % 2 ^ F.HK_CH_RES_COUNT.width ∧
        (2 ≤ s.dev.get .X_HK_LEFT t → e.hk t = hkCONVERTING ∧ e.get .HK_STATUS_ENTRY t = s.dev.get .HK_STATUS_ENTRY t) ∧
        (s.dev.get .X_HK_LEFT t ≤ 1 → s.dev.get .HK_STATUS_ENTRY t + 1 < s.dev.get .X_HK_LEN t → e.hk t = hkCONVERTING ∧
          e.get .HK_STATUS_ENTRY t = s.dev.get .HK_STATUS_ENTRY t + 1) ∧
        (s.dev.get .X_HK_LEFT t ≤ 1 → s.dev.get .X_HK_LEN t ≤ s.dev.get .HK_STATUS_ENTRY t + 1 → e.hk t = hkREADY ∧
          e.get .HK_STATUS_BUSY t = 0 ∧ e.get .HK_EVENTS_SEQ_DONE t = 1)) := by
  refine .runIf (rfl : _ = execConversionDone t input s) hhk fun e he => ?_
  replace he : e = (s.found.result t (s.dev.hkCode t input)).nextConversion t (s.dev.get .X_HK_CLK t + us) := he.trans (Dev.onTime_of_le hclk)
  generalize hb : s.found.result t (s.dev.hkCode t input) = b at he
  by_cases hdisc : s.dev.get .X_HK_DISC t = 1
  · obtain ⟨h1, h2, h3⟩ := Dev.result_discarded (d := s.found) _ hdisc hb.symm
    obtain ⟨hk, hconv, -⟩ := Dev.nextConversion_shows _ (by rw [h3.get _ (by decide)]; exact hcal) he
    exact ⟨(hk.get _ (by decide) _).trans h1, fun _ => ⟨hconv ((h3.get _ (by decide) _).trans hrun), (hk.get _ (by decide) _).trans h2⟩,
      fun h => (h hdisc).elim⟩
  · obtain ⟨h1, h2, hf, h4⟩ := Dev.result_kept (d := s.found) _ hdisc hrun hloop hb.symm
    obtain ⟨hk, hconv, hready⟩ := Dev.nextConversion_shows _ (by rw [h2]; exact hcal) he
    refine ⟨(hk.get _ (by decide) _).trans h1, fun h => (hdisc h).elim, fun _ hheld hfade => ?_⟩
    obtain ⟨h5, h6⟩ := h4 hheld hfade
    refine ⟨(hk.get _ (by decide) _).trans h5, (hk.get _ (by decide) _).trans h6, fun hl => ?_, fun hl hlen => ?_, fun hl hlen => ?_⟩
    · obtain ⟨k1, k2⟩ := hf.repeats hl
      exact ⟨hconv k1, (hk.get _ (by decide) _).trans k2⟩
    · obtain ⟨k1, k2⟩ := hf.goes_on hl hlen
      exact ⟨hconv k1, (hk.get _ (by decide) _).trans k2⟩
    · obtain ⟨k1, k2, k3⟩ := hf.ends hl hlen
      exact ⟨hready k1, (hk.get _ (by decide) _).trans k2, (hk.get _ (by decide) _).trans k3⟩

/-- What a start from the sources `src` does, in each state of the converter (R374 to R376). -/
structure HkStarted (s : State) (t src : Nat) (c : Instr) : Prop where
  begins : s.dev.domOn (domHk t) = true ∧ s.dev.get .X_HK_START t ≠ s.dev.clk + 1 → s.dev.get .X_HK_RUN t ≠ 1 ∧ s.dev.get .X_HK_WAIT t ≠ 1 →
    s.dev.hk t ≠ hkCAL → Completes c s fun e => e.get .HK_STATUS_LAST_SRC t = src ∧ e.get .HK_STATUS_BUSY t = 1 ∧
      e.get .X_HK_RUN t = 1 ∧ e.get .HK_STATUS_ENTRY t = 0 ∧ e.get .HK_SEQ_TIME_TIME t = s.dev.now ∧
      (s.dev.hk t = hkDOWN → e.hk t = hkSTARTING) ∧ (s.dev.hk t = hkREADY → e.hk t = hkCONVERTING)
  waits : s.dev.domOn (domHk t) = true ∧ s.dev.get .X_HK_START t ≠ s.dev.clk + 1 → s.dev.get .X_HK_RUN t ≠ 1 ∧ s.dev.get .X_HK_WAIT t ≠ 1 →
    s.dev.hk t = hkCAL → Completes c s fun e => e.get .X_HK_WAIT t = 1 ∧ e.get .HK_STATUS_BUSY t = 1 ∧ e.hk t = hkCAL
  missed : s.dev.domOn (domHk t) = true ∧ s.dev.get .X_HK_START t ≠ s.dev.clk + 1 → s.dev.get .X_HK_RUN t = 1 → s.dev.get .X_HK_LOOP t ≠ 1 →
    Completes c s fun e => e.get .HK_EVENTS_START_MISSED t = 1 ∧
      e.get .HK_COUNTS_STARTS_MISSED t = satAdd F.HK_COUNTS_STARTS_MISSED.width (s.dev.get .HK_COUNTS_STARTS_MISSED t) 1 ∧
      Dev.OnlyRaisingAt [.HK_EVENTS_START_MISSED, .HK_COUNTS_STARTS_MISSED] t s.dev e
  loops : s.dev.domOn (domHk t) = true ∧ s.dev.get .X_HK_START t ≠ s.dev.clk + 1 → s.dev.get .X_HK_RUN t = 1 → s.dev.get .X_HK_LOOP t = 1 →
    Completes c s fun e => e = s.found
  joins : s.dev.domOn (domHk t) = true → s.dev.get .X_HK_START t = s.dev.clk + 1 → Completes c s fun e =>
    e.get .HK_STATUS_LAST_SRC t = s.dev.get .HK_STATUS_LAST_SRC t ||| src ∧ Dev.OnlyAt [.HK_STATUS_LAST_SRC] t s.dev e
  asleep : s.dev.domOn (domHk t) = false → Completes c s fun e => e = s.found

theorem hkStart_completes {s : State} {t src : Nat} {c : Instr} (hsrc : bitAt src 2 = false)
    (hc : ∀ {P : Dev → Prop}, (∀ e, e = s.found.hkStart t src → P e) → Completes c s P) : HkStarted s t src c := by
  refine ⟨fun ⟨hon, hstart⟩ ⟨hrun, hwait⟩ hcal => hc fun e he => ?_, fun ⟨hon, hstart⟩ ⟨hrun, hwait⟩ hcal => hc fun e he => ?_,
    fun ⟨hon, hstart⟩ hrun hloop => hc fun e he => ?_, fun ⟨hon, hstart⟩ hrun hloop => hc fun e he => ?_, fun hon hstart => hc fun e he => ?_,
    fun hoff => hc fun e he => ?_⟩
  · obtain ⟨h1, h2, h3, h4, h5, h6, h7⟩ := Dev.hkStart_begins (d := s.found) hon hstart hrun hwait hcal he
    exact ⟨h1, h2, h3, h4, h5, h6, h7⟩
  · exact Dev.hkStart_waits (d := s.found) hon hstart hrun hwait hcal he
  · rw [Dev.hkStart_running (d := s.found) hon hstart hrun] at he
    obtain ⟨h1, h2, h3⟩ := s.found.startMissed_shows t (he.trans (if_neg fun h => hloop (beq_iff_eq.mp h)))
    exact ⟨h1, h2, h3.ofFound⟩
  · rw [Dev.hkStart_running (d := s.found) hon hstart hrun] at he
    exact he.trans (if_pos (beq_iff_eq.mpr hloop))
  · rw [Dev.hkStart_joins (d := s.found) hon hstart] at he
    rw [he]
    exact ⟨Dev.get_set_same .., Dev.Only.ofFound (Dev.OnlyAt.write (.refl _ _) _ _)⟩
  · exact he.trans (Dev.hkStart_asleep hoff hsrc)

theorem hkStartCmd_starts (t : Fin 4) (s : State) : HkStarted s t 1 (.hkStartCmd t) :=
  hkStart_completes (by decide) fun hp => .runAs (rfl : _ = execHkStartCmd t s) hp

theorem hkStartPin_starts {t : Fin 4} {s : State} {rising : Bool} (hen : s.dev.lon .HK_CTRL_PIN_EN t = true)
    (hedge : s.dev.lon .HK_CTRL_PIN_EDGE t = !rising) : HkStarted s t 2 (.hkStartPin t rising) := by
  have hcond : (s.dev.lon .HK_CTRL_PIN_EN t && (s.dev.lon .HK_CTRL_PIN_EDGE t != rising)) = true := by
    rw [hen, hedge]
    cases rising <;> rfl
  exact hkStart_completes (by decide) fun hp => .runIf (rfl : _ = execHkStartPin t rising s) hcond hp

theorem hkStartPin_ignored {t : Fin 4} {s : State} {rising : Bool} (h : s.dev.lon .HK_CTRL_PIN_EN t = false ∨ s.dev.lon .HK_CTRL_PIN_EDGE t = rising) :
    Completes (.hkStartPin t rising) s fun e => e = s.found := by
  have hcond : ¬ (s.dev.lon .HK_CTRL_PIN_EN t && (s.dev.lon .HK_CTRL_PIN_EDGE t != rising)) = true := by
    rcases h with h | h <;> rw [h]
    · exact Bool.false_ne_true
    · rw [bne_self_eq_false, Bool.and_false]
      exact Bool.false_ne_true
  exact .runElse (rfl : _ = execHkStartPin t rising s) hcond fun e he => he

theorem converterStartupDone_converts {t : Fin 4} {s : State} (hhk : s.dev.hk t = hkSTARTING) (hclk : s.dev.get .X_HK_CLK t + 2500 * ns ≤ s.dev.clk)
    (hcal : s.dev.get .X_HK_CAL t ≠ 1) : Completes (.converterStartupDone t) s fun e => e.hk t = hkCONVERTING ∧
      e.get .X_HK_CLK t = s.dev.get .X_HK_CLK t + 2500 * ns := by
  refine .runIf (rfl : _ = execConverterStartupDone t s) hhk fun e he => ?_
  replace he := (he.trans (Dev.onTime_of_le hclk)).trans (if_neg fun h => hcal (beq_iff_eq.mp h))
  rw [he]
  exact s.found.beginConversion_shows t _

/-- Settles O55: sequences that start, convert and end. -/
theorem converterSequences : Obligations.ConverterSequences := by
  intro t s
  obtain ⟨h1, h2, h3, h4, h5, h6⟩ := hkStartCmd_starts t s
  refine ⟨h1, h2, h3, h4, h5, h6, fun rising hen hedge => ?_, fun rising => hkStartPin_ignored, ?_, ?_, converterStartupDone_converts,
    fun input hhk hclk hcal hrun hloop => conversionDone_ends input hhk hclk hcal hrun hloop, fun hhk hclk => ?_⟩
  · obtain ⟨h1, h2, h3, h4, h5, h6⟩ := hkStartPin_starts hen hedge
    exact ⟨h1, h2, h3, h4, h5, h6⟩
  · refine .runAs (rfl : _ = execHkSync t s) fun e he => ?_
    rw [he]
    exact ⟨Dev.get_set_same .., Dev.Only.ofFound (Dev.OnlyAt.write (.refl _ _) _ _)⟩
  · refine .runAs (rfl : _ = execHkClearStats t s) fun e he => ?_
    rw [he]
    exact ⟨Dev.setAll_get_of_mem _ _ _ (by decide), Dev.setAll_get_of_mem _ _ _ (by decide),
      Dev.Only.ofFound ((Dev.Only.refl _ s.found).setAll 0 fun _ hf => ⟨rfl, hf⟩)⟩
  · refine .runIf (rfl : _ = execConverterPowerDown t s) hhk fun e he => ?_
    rw [he.trans (Dev.onTime_of_le hclk)]
    exact ⟨Dev.get_set_same .., Dev.Only.ofFound (Dev.OnlyAt.write (.refl _ _) _ _)⟩

end Sys2Proof.Machine
end

section
/-! PROOFS. Calibration runs asked for, completed and abandoned (R391, R392, R395, R396). -/

-- One theorem at a time: the whole text is compiled under a memory limit, which the stacks of waiting threads would fill.
set_option Elab.async false

namespace Sys2Proof.Machine

open Sys2Proof

/-! ## What the end of a run leaves alone (R383, R395) -/

/-- What the release of a unit may write. -/
def releaseFields : List F := [.X_CAL_BIAS_CH, .HK_CH_RES_STALE, .X_HK_CAL] ++ convFields ++ seqFields

section
variable {L M : List F} (hL : ∀ f ∈ releaseFields, f ∉ L)
include hL

theorem Dev.hkCalEnd_keeps (d : Dev) (t : Nat) : Dev.Keeps L M d (d.hkCalEnd t) := by
  have hseq : ∀ f ∈ seqFields, f ∉ L := fun f hf => hL f (List.mem_append_right _ hf)
  have hconv : ∀ f ∈ convFields, f ∉ L := fun f hf => hL f (List.mem_append_left _ (List.mem_append_right _ hf))
  unfold Dev.hkCalEnd
  split
  · extract_lets b c
    have hb : Dev.Keeps L M d b := (((Dev.Keeps.refl d).set _ _ (hL _ (by decide))).set _ _ (hL _ (by decide))).set _ _ (hL _ (by decide))
    clear_value b
    have hc : Dev.Keeps L M b c := by
      unfold c
      split
      · exact b.beginSequence_keeps t hseq
      · exact .refl b
    clear_value c
    split
    · exact (hb.trans hc).trans (c.hkRequest_keeps t hconv)
    · exact hb.trans hc
  · exact (Dev.Keeps.refl d).set _ _ (hL _ (by decide))

theorem Dev.biasCalStep_keeps (t : Nat) (d : Dev) : Dev.Keeps L M d (Dev.biasCalStep t d) := by
  unfold Dev.biasCalStep
  extract_lets k now was
  split
  · exact .refl d
  · refine ((Dev.Keeps.refl d).set _ _ (hL _ (by decide))).trans (.each (fun j a => ?_) _)
    split
    · exact (Dev.Keeps.refl a).set _ _ (hL _ (by decide))
    · exact .refl a

theorem Dev.calRelease_keeps (d : Dev) (u : Nat) : Dev.Keeps L M d (d.calRelease u) := by
  unfold Dev.calRelease
  split
  · exact d.hkCalEnd_keeps hL _
  · exact Dev.biasCalStep_keeps hL _ d
  · exact .refl d

end

theorem Dev.syncReset_calres (i : Nat) (d : Dev) : (Dev.syncReset i d).calres = d.calres := by
  unfold Dev.syncReset
  dsimp only
  split <;> rfl

theorem Dev.beginSequence_calres (d : Dev) (t : Nat) : (d.beginSequence t).calres = d.calres := by
  have h : (d.entriesTaken t).calres = d.calres := by
    unfold Dev.entriesTaken
    extract_lets b c
    have hb : b.calres = d.calres := by
      unfold b
      split
      · exact Dev.each_keeps Dev.calres (fun i _ e => Dev.syncReset_calres _ e) _
      · rfl
    have hc : c.calres = b.calres := by
      unfold c
      clear_value b
      refine Dev.each_keeps Dev.calres (fun i _ a => ?_) b
      rfl
    clear_value c
    exact hc.trans hb
  rw [Dev.beginSequence_eq]
  generalize d.entriesTaken t = b at h
  generalize Dev.now _ = x
  exact h

theorem Dev.slotsStale_calres (d : Dev) (t : Nat) : (d.slotsStale t).calres = d.calres := by
  unfold Dev.slotsStale
  refine Dev.each_keeps Dev.calres (fun j _ e => ?_) d
  split <;> rfl

theorem Dev.calRelease_calres (d : Dev) (u : Nat) : (d.calRelease u).calres = d.calres := by
  have hrequest : ∀ (d : Dev) t, (d.hkRequest t).calres = d.calres := fun d t => by
    unfold Dev.hkRequest
    split
    · rfl
    · split <;> rfl
  unfold Dev.calRelease
  split
  · unfold Dev.hkCalEnd
    split
    · extract_lets b c
      have hc : c.calres = d.calres := by
        unfold c
        split
        · exact b.beginSequence_calres _
        · rfl
      clear_value c
      split
      · exact (hrequest ..).trans hc
      · exact hc
    · rfl
  · unfold Dev.biasCalStep
    extract_lets k now was
    split
    · rfl
    · exact (Dev.slotsStale_calres ..).trans rfl
  · rfl

/-! ## Reasons (R392, R396) -/

theorem Dev.calReason_shows {d : Dev} {u : Nat} (b : Nat) (hused : d.calUnused u = false) {e : Dev} (he : e = Dev.calReason b u d) :
    e.get .CAL_U_STATUS_REASONS u = d.get .CAL_U_STATUS_REASONS u ||| 2 ^ b ∧ e.cal u = if d.cal u = cuIDLE then cuDUE else d.cal u := by
  unfold Dev.calReason at he
  replace he := he.trans (if_neg (by rw [hused]; exact Bool.false_ne_true))
  extract_lets c at he
  have hcal : c.cal u = d.cal u := Dev.get_set_field _ _ _ _ (by decide)
  have hreasons : c.get .CAL_U_STATUS_REASONS u = d.get .CAL_U_STATUS_REASONS u ||| 2 ^ b := Dev.get_set_same ..
  clear_value c
  rw [hcal] at he
  by_cases hidle : d.cal u = cuIDLE
  · rw [he, if_pos hidle, if_pos hidle]
    exact ⟨(Dev.get_set_field _ _ _ _ (by decide)).trans hreasons, Dev.get_set_same ..⟩
  · rw [he, if_neg hidle, if_neg hidle]
    exact ⟨hreasons, hcal⟩

theorem Dev.calUnused_congr {d e : Dev} (h : ∀ i, e.get .SPR_CFG_MODE i = d.get .SPR_CFG_MODE i) (u : Nat) : e.calUnused u = d.calUnused u := by
  unfold Dev.calUnused Dev.used Dev.mode
  rw [h]

theorem calReason_steady (b u : Nat) (d : Dev) :
    Dev.Steady [.SPR_CFG_MODE] [.CAL_U_STATUS_REASONS, .CAL_U_STATUS_STATE] u [] d (Dev.calReason b u d) :=
  .ofOnly (Dev.calReason_only b u d)
    (fun f hf _ h => absurd h.2 ((by decide : ∀ f ∈ [F.SPR_CFG_MODE], f ∉ [F.CAL_U_STATUS_REASONS, .CAL_U_STATUS_STATE]) f hf))
    (fun _ _ _ hi h => hi h.1) fun _ h => absurd h.2 (by decide)

/-- R396: every unit of a class gets a reason. -/
theorem calReasons_show {d : Dev} {c : Nat} (b : Nat) (hused : ∀ u ∈ calUnits c, d.calUnused u = false) {e : Dev}
    (he : e = Dev.forList (calUnits c) (Dev.calReason b) d) : ∀ u ∈ calUnits c,
      e.get .CAL_U_STATUS_REASONS u = d.get .CAL_U_STATUS_REASONS u ||| 2 ^ b ∧ e.cal u = if d.cal u = cuIDLE then cuDUE else d.cal u := by
  intro u hu
  obtain ⟨a, ha, hb⟩ := Dev.forList_visits (calReason_steady b) (List.nodup_range.filter fun u => calClass u == c) hu d
  rw [show Dev.forList (List.filter (fun u => calClass u == c) (List.range 137)) (Dev.calReason b) d = e from he.symm] at hb
  have hcal : a.cal u = d.cal u := ha.2 _ (by decide)
  have hreasons : a.get .CAL_U_STATUS_REASONS u = d.get .CAL_U_STATUS_REASONS u := ha.2 _ (by decide)
  have hunused : a.calUnused u = false := (Dev.calUnused_congr (fun i => ha.1.get _ (by decide) i) u).trans (hused u hu)
  obtain ⟨h1, h2⟩ := Dev.calReason_shows b hunused rfl
  rw [hreasons] at h1
  rw [hcal] at h2
  exact ⟨(hb.2 _ (by decide)).trans h1, (hb.2 _ (by decide)).trans h2⟩

theorem calReasons_only (c b : Nat) (d : Dev) : Dev.Only (fun f u => u ∈ calUnits c ∧ (f = .CAL_U_STATUS_REASONS ∨ f = .CAL_U_STATUS_STATE)) d
    (Dev.forList (calUnits c) (Dev.calReason b) d) :=
  List.foldlRecOn (calUnits c) (fun e u => Dev.calReason b u e)
    (motive := Dev.Only (fun f u => u ∈ calUnits c ∧ (f = .CAL_U_STATUS_REASONS ∨ f = .CAL_U_STATUS_STATE)) d) (.refl _ d)
    fun e he u hu => he.trans ((Dev.calReason_only b u e).mono fun f i h => by
      refine ⟨h.1 ▸ hu, ?_⟩
      rcases List.mem_cons.mp h.2 with h | h
      · exact .inl h
      · exact .inr (List.mem_singleton.mp h))

theorem calRunClass_asks {s : State} {c : BitVec 3} (hc : c.toNat ≤ 4) (hused : ∀ u ∈ calUnits c.toNat, s.dev.calUnused u = false) :
    Completes (.calRunClass c) s fun e => (∀ u ∈ calUnits c.toNat, e.get .CAL_U_STATUS_REASONS u = s.dev.get .CAL_U_STATUS_REASONS u ||| 4 ∧
      e.cal u = if s.dev.cal u = cuIDLE then cuDUE else s.dev.cal u) ∧
      Dev.Only (fun f u => u ∈ calUnits c.toNat ∧ (f = .CAL_U_STATUS_REASONS ∨ f = .CAL_U_STATUS_STATE)) s.dev e := by
  have hany : (calUnits c.toNat).any s.found.calUnused = false :=
    List.any_eq_false.mpr fun u hu h => Bool.false_ne_true ((hused u hu).symm.trans h)
  refine .runElse (rfl : _ = execCalRunClass c s) (fun h => ?_) fun e he => ?_
  · exact h.elim (fun h => Nat.not_lt_of_le hc h) fun h => Bool.false_ne_true (hany.symm.trans h)
  · refine ⟨calReasons_show (d := s.found) 2 hused he, ?_⟩
    rw [he]
    exact Dev.Only.ofFound (calReasons_only ..)

theorem calPeriodicDue_asks {u : Fin 137} {s : State} (hper : s.dev.get .CAL_CLASS_PERIOD (calClass u) ≠ 0) (hlast : s.dev.get .X_CAL_LASTAPP u ≠ 0)
    (hdone : s.dev.get .X_CAL_PER u ≠ 1) (hused : s.dev.calUnused u = false)
    (hclk : s.dev.get .X_CAL_LASTAPP u - 1 + s.dev.get .CAL_CLASS_PERIOD (calClass u) * sec ≤ s.dev.clk) :
    Completes (.calPeriodicDue u) s fun e => (e.get .CAL_U_STATUS_REASONS u = s.dev.get .CAL_U_STATUS_REASONS u ||| 32 ∧
      e.cal u = if s.dev.cal u = cuIDLE then cuDUE else s.dev.cal u) ∧
      Dev.OnlyAt [.CAL_U_STATUS_REASONS, .CAL_U_STATUS_STATE, .X_CAL_PER] u s.dev e := by
  refine .runElse (rfl : _ = execCalPeriodicDue u s) (fun h => ?_) fun e he => ?_
  · exact h.elim hper fun h => h.elim hlast fun h => hdone (beq_iff_eq.mp h)
  · replace he : e = Dev.calReason 5 u (s.found.set .X_CAL_PER u 1) := he.trans (Dev.onTime_of_le hclk)
    have hmode : ∀ i, (s.found.set .X_CAL_PER u 1).get .SPR_CFG_MODE i = s.dev.get .SPR_CFG_MODE i := fun i => Dev.get_set_field _ _ _ _ (by decide)
    have hcal : (s.found.set .X_CAL_PER u 1).cal u = s.dev.cal u := Dev.get_set_field _ _ _ _ (by decide)
    have hreasons : (s.found.set .X_CAL_PER u 1).get .CAL_U_STATUS_REASONS u = s.dev.get .CAL_U_STATUS_REASONS u :=
      Dev.get_set_field _ _ _ _ (by decide)
    obtain ⟨h1, h2⟩ := Dev.calReason_shows 5 ((Dev.calUnused_congr hmode u).trans hused) he
    rw [hreasons] at h1
    rw [hcal] at h2
    refine ⟨⟨h1, h2⟩, ?_⟩
    rw [he]
    refine Dev.Only.ofFound (Dev.Only.trans (Dev.OnlyAt.write (.refl _ _) _ _) ((Dev.calReason_only ..).mono fun f i h => ⟨h.1, ?_⟩))
    exact (by decide : ∀ f ∈ [F.CAL_U_STATUS_REASONS, .CAL_U_STATUS_STATE], f ∈ [F.CAL_U_STATUS_REASONS, .CAL_U_STATUS_STATE, .X_CAL_PER]) f h.2

/-! ## Runs that end (R391, R395) -/

theorem any_map_range {α : Type} (n : Nat) (f : Nat → α) (p : α → Bool) : ((List.range n).map f).any p = true ↔ ∃ i < n, p (f i) = true := by
  rw [List.any_map, List.any_eq_true]
  exact ⟨fun ⟨i, hi, h⟩ => ⟨i, List.mem_range.mp hi, h⟩, fun ⟨i, hi, h⟩ => ⟨i, List.mem_range.mpr hi, h⟩⟩

theorem Dev.calResult_applies {d : Dev} {u : Nat} {r : List Int}
    (hok : ∀ i < (d.trimSlots u).length, trimFails ((d.trimSlots u).getD i (0, 0, 8)).2.2 (r.getD i 0) = false) {e : Dev} (he : e = d.calResult u r) :
    e.cal u = cuAPPLYING ∧ ∃ x ∈ e.calres, x.unit = u ∧ x.vals.length = (d.trimSlots u).length := by
  unfold Dev.calResult at he
  generalize d.trimSlots u = l at he hok ⊢
  extract_lets l' vs b c res src at he
  have hlen : vs.length = l.length := (List.length_map _).trans List.length_range
  have hno : ¬ (vs.any fun p => trimFails p.1.2.2 p.2) = true := fun h => by
    obtain ⟨i, hi, hf⟩ := (any_map_range _ _ _).mp h
    exact Bool.false_ne_true ((hok i hi).symm.trans hf)
  rw [he.trans (if_neg hno)]
  have hstate : src.cal u = cuAPPLYING := Dev.get_set_same ..
  clear_value b c src
  exact ⟨hstate, res, List.mem_cons_self, rfl, (List.length_map _).trans hlen⟩

theorem Dev.calResult_fails {d : Dev} {u : Nat} {r : List Int}
    (hbad : ∃ i < (d.trimSlots u).length, trimFails ((d.trimSlots u).getD i (0, 0, 8)).2.2 (r.getD i 0) = true) {e : Dev} (he : e = d.calResult u r) :
    e.cal u ≠ cuAPPLYING ∧ 965 ∈ e.pending ∧
      e.get .CAL_U_COUNTS_FAILS u = satAdd F.CAL_U_COUNTS_FAILS.width (d.get .CAL_U_COUNTS_FAILS u) 1 ∧ e.calres = d.calres := by
  unfold Dev.calResult at he
  generalize d.trimSlots u = l at he hbad
  extract_lets l' vs b c res at he
  have hyes : (vs.any fun p => trimFails p.1.2.2 p.2) = true := (any_map_range _ _ _).mpr hbad
  replace he := he.trans (if_pos hyes)
  have hfails : b.get .CAL_U_COUNTS_FAILS u = d.get .CAL_U_COUNTS_FAILS u :=
    (d.calRelease_keeps (L := [.CAL_U_COUNTS_FAILS]) (M := []) (by decide) u).get _ (by decide) u
  have hres : b.calres = d.calres := d.calRelease_calres u
  clear_value b
  have hmem : 965 ∈ ((b.addSat .CAL_U_COUNTS_FAILS u 1).raise 965).pending := by
    rw [(raise_raised _ (by decide)).1]
    exact (mem_insertNat ..).mpr (.inl rfl)
  have hcount : ((b.addSat .CAL_U_COUNTS_FAILS u 1).raise 965).get .CAL_U_COUNTS_FAILS u =
      satAdd F.CAL_U_COUNTS_FAILS.width (d.get .CAL_U_COUNTS_FAILS u) 1 :=
    (raise_get _ _ _ _ (by decide)).trans ((Dev.get_set_same ..).trans (by rw [hfails]))
  have hres' : ((b.addSat .CAL_U_COUNTS_FAILS u 1).raise 965).calres = d.calres := by
    rw [(raise_only (fun _ _ => False) _ 965).1]
    exact hres
  generalize (b.addSat .CAL_U_COUNTS_FAILS u 1).raise 965 = a at he hmem hcount hres'
  rw [he]
  refine ⟨?_, hmem, (Dev.get_set_field _ _ _ _ (by decide)).trans hcount, hres'⟩
  rw [show (a.calRest u).cal u = if a.get .CAL_U_STATUS_REASONS u = 0 then cuIDLE else cuDUE from Dev.get_set_same ..]
  split <;> decide

theorem Dev.calAbort_shows {d : Dev} {u : Nat} (hrun : d.cal u = cuRUNNING) {e : Dev} (he : e = d.calAbort u) :
    e.cal u = cuDUE ∧ 965 ∈ e.pending ∧ e.get .CAL_U_COUNTS_ABORTS u = satAdd F.CAL_U_COUNTS_ABORTS.width (d.get .CAL_U_COUNTS_ABORTS u) 1 := by
  unfold Dev.calAbort at he
  extract_lets d0 b c at he
  replace he := he.trans (if_pos hrun)
  have hstate : c.cal u = cuDUE := Dev.get_set_same ..
  have haborts : c.get .CAL_U_COUNTS_ABORTS u = d.get .CAL_U_COUNTS_ABORTS u :=
    (Dev.get_set_field _ _ _ _ (by decide)).trans ((Dev.get_set_field _ _ _ _ (by decide)).trans (Dev.get_set_field _ _ _ _ (by decide)))
  clear_value c
  have hmem : 965 ∈ ((c.addSat .CAL_U_COUNTS_ABORTS u 1).raise 965).pending := by
    rw [(raise_raised _ (by decide)).1]
    exact (mem_insertNat ..).mpr (.inl rfl)
  have hcal : ((c.addSat .CAL_U_COUNTS_ABORTS u 1).raise 965).cal u = cuDUE :=
    (raise_get _ _ _ _ (by decide)).trans ((Dev.get_set_field _ _ _ _ (by decide)).trans hstate)
  have hcount : ((c.addSat .CAL_U_COUNTS_ABORTS u 1).raise 965).get .CAL_U_COUNTS_ABORTS u =
      satAdd F.CAL_U_COUNTS_ABORTS.width (d.get .CAL_U_COUNTS_ABORTS u) 1 :=
    (raise_get _ _ _ _ (by decide)).trans ((Dev.get_set_same ..).trans (by rw [haborts]))
  generalize (c.addSat .CAL_U_COUNTS_ABORTS u 1).raise 965 = a at he hmem hcal hcount
  have hk := a.calRelease_keeps (L := [.CAL_U_STATUS_STATE, .CAL_U_COUNTS_ABORTS]) (M := []) (by decide) u
  rw [he]
  exact ⟨(hk.get .CAL_U_STATUS_STATE (by decide) u).trans hcal, hk.pending _ hmem, (hk.get _ (by decide) u).trans hcount⟩

section
variable {u : Fin 137} {s : State} (r : List Int) (hrun : s.dev.cal u = cuRUNNING) (hhk : calClass u = 2 → s.dev.hk (u - 128) = hkCAL)
  (hclk : s.dev.get .X_CAL_RUN_CLK u + s.dev.runLength u ≤ s.dev.clk)
include hrun hhk hclk

theorem calRunComplete_ends {P : Dev → Prop}
    (hp : ∀ e, e = (if s.found.calReady u then s.found.calResult u r else s.found.calAbort u) → P e) : Completes (.calRunComplete u r) s P :=
  .runIf (rfl : _ = execCalRunComplete u r s) ⟨hrun, Decidable.not_or_of_imp hhk⟩ fun e he => hp e (he.trans (Dev.onTime_of_le hclk))

theorem calRunComplete_shows :
    (s.dev.calReady u = true → (∀ i < (s.dev.trimSlots u).length, trimFails ((s.dev.trimSlots u).getD i (0, 0, 8)).2.2 (r.getD i 0) = false) →
      Completes (.calRunComplete u r) s fun e => e.cal u = cuAPPLYING ∧ ∃ x ∈ e.calres, x.unit = u ∧ x.vals.length = (s.dev.trimSlots u).length) ∧
    (s.dev.calReady u = true → (∃ i < (s.dev.trimSlots u).length, trimFails ((s.dev.trimSlots u).getD i (0, 0, 8)).2.2 (r.getD i 0) = true) →
      Completes (.calRunComplete u r) s fun e => e.cal u ≠ cuAPPLYING ∧ 965 ∈ e.pending ∧
        e.get .CAL_U_COUNTS_FAILS u = satAdd F.CAL_U_COUNTS_FAILS.width (s.dev.get .CAL_U_COUNTS_FAILS u) 1 ∧ e.calres = s.dev.calres) ∧
    (s.dev.calReady u = false → Completes (.calRunComplete u r) s fun e => e.cal u = cuDUE ∧ 965 ∈ e.pending ∧
      e.get .CAL_U_COUNTS_ABORTS u = satAdd F.CAL_U_COUNTS_ABORTS.width (s.dev.get .CAL_U_COUNTS_ABORTS u) 1) := by
  refine ⟨fun hready hok => calRunComplete_ends r hrun hhk hclk fun e he => ?_, fun hready hbad => calRunComplete_ends r hrun hhk hclk fun e he => ?_,
    fun hready => calRunComplete_ends r hrun hhk hclk fun e he => ?_⟩
  · exact Dev.calResult_applies (d := s.found) hok (he.trans (if_pos hready))
  · exact Dev.calResult_fails (d := s.found) hbad (he.trans (if_pos hready))
  · exact Dev.calAbort_shows (d := s.found) hrun (he.trans (if_neg (by rw [show s.found.calReady u = false from hready]; exact Bool.false_ne_true)))

end

/-- Settles O56: calibration runs that are asked for, completed and abandoned. -/
theorem calibrationRuns : Obligations.CalibrationRuns := by
  refine fun s => ⟨fun u hu hused => ?_, fun u hbad => ?_, fun c => calRunClass_asks, fun c hbad => ?_,
    fun u => ⟨calPeriodicDue_asks, fun r hrun hhk hclk => calRunComplete_shows r hrun hhk hclk⟩⟩
  · refine .runElse (rfl : _ = execCalRun u s) (fun h => ?_) fun e he => ?_
    · exact h.elim (fun h => Nat.not_lt_of_le hu h) fun h => Bool.false_ne_true (hused.symm.trans h)
    · refine ⟨Dev.calReason_shows (d := s.found) 2 hused he, ?_⟩
      rw [he]
      exact Dev.Only.ofFound (Dev.calReason_only ..)
  · refine .runIf (rfl : _ = execCalRun u s) hbad fun e he => ?_
    rw [he]
    exact ⟨Dev.get_set_same .., Dev.Only.ofFound (Dev.OnlyAt.write (.refl _ _) _ _)⟩
  · refine .runIf (rfl : _ = execCalRunClass c s) (hbad.imp id fun ⟨u, hu, h⟩ => List.any_eq_true.mpr ⟨u, hu, h⟩) fun e he => ?_
    rw [he]
    exact ⟨Dev.get_set_same .., Dev.Only.ofFound (Dev.OnlyAt.write (.refl _ _) _ _)⟩

end Sys2Proof.Machine
end

section
/-! PROOFS. Host lanes: their states, training requests and capture-out lanes (R242, R247, R248, R254, R256). -/

-- One theorem at a time: the whole text is compiled under a memory limit, which the stacks of waiting threads would fill.
set_option Elab.async false

namespace Sys2Proof.Machine

open Sys2Proof

theorem Dev.Raised.congr {a b c : Dev} {n : Nat} (h : Dev.Raised n a b) (hpend : c.pending = b.pending)
    (hocc : c.get .PH_SRC_OCCUR n = b.get .PH_SRC_OCCUR n) : Dev.Raised n a c := ⟨hpend.trans h.1, hocc.trans h.2⟩

theorem raiseTile_mem (d : Dev) (t i : Nat) : 640 + 16 * t + i ∈ (d.raiseTile t i).pending := by
  unfold Dev.raiseTile
  rw [(raise_raised _ (by omega)).1]
  exact (mem_insertNat ..).mpr (.inl rfl)

/-! ## The loss of alignment-marker lock (R240, R242) -/

/-- What the loss of a port's lock writes. -/
def amFields : List F := [.HOST_P_STATUS_AM_LOCK, .HOST_P_EVENTS_LOCK_LOST] ++ signalFields ++ followFields

theorem Dev.amLost_idle {d : Dev} {n : Nat} (h : d.get .HOST_P_STATUS_AM_LOCK n ≠ 1) : d.amLost n = d := if_neg fun hc => h (beq_iff_eq.mp hc)

/-- A port whose lock is lost, before its transmit lane follows. -/
def Dev.amCut (d : Dev) (n : Nat) : Dev := ((d.set .HOST_P_STATUS_AM_LOCK n 0).set .HOST_P_EVENTS_LOCK_LOST n 1).raiseTile (tileOf n) 5

theorem Dev.amLost_locked {d : Dev} {n : Nat} (h : d.get .HOST_P_STATUS_AM_LOCK n = 1) : d.amLost n = (d.amCut n).syncTx n :=
  if_pos (beq_iff_eq.mpr h)

theorem Dev.syncTx_raised {a d : Dev} {n src : Nat} (h : Dev.Raised src a d) : Dev.Raised src a (d.syncTx n) :=
  h.congr (by rw [(d.syncTx_only n).1]) ((d.syncTx_only n).2 _ _ fun hc => absurd hc.2 (by decide))

theorem Dev.amLost_shows {d : Dev} {n : Nat} (h : d.get .HOST_P_STATUS_AM_LOCK n = 1) {e : Dev} (he : e = d.amLost n) :
    e.get .HOST_P_STATUS_AM_LOCK n = 0 ∧ e.get .HOST_P_EVENTS_LOCK_LOST n = 1 ∧ Dev.Raised (640 + 16 * tileOf n + 5) d e := by
  rw [Dev.amLost_locked h] at he
  have h1 : (d.amCut n).get .HOST_P_STATUS_AM_LOCK n = 0 :=
    (raise_get _ _ _ _ (by decide)).trans ((Dev.get_set_field _ _ _ _ (by decide)).trans (Dev.get_set_same ..))
  have h2 : (d.amCut n).get .HOST_P_EVENTS_LOCK_LOST n = 1 := (raise_get _ _ _ _ (by decide)).trans (Dev.get_set_same ..)
  have h3 : Dev.Raised (640 + 16 * tileOf n + 5) d (d.amCut n) :=
    .after rfl ((Dev.get_set_field _ _ _ _ (by decide)).trans (Dev.get_set_field _ _ _ _ (by decide))) (by omega)
  generalize d.amCut n = b at he h1 h2 h3
  have hk := b.syncTx_only n
  rw [he]
  exact ⟨(hk.2 _ _ fun hc => absurd hc.2 (by decide)).trans h1, (hk.2 _ _ fun hc => absurd hc.2 (by decide)).trans h2, Dev.syncTx_raised h3⟩

theorem Dev.amLost_unlocked (d : Dev) (n : Nat) : (d.amLost n).get .HOST_P_STATUS_AM_LOCK n ≠ 1 := by
  by_cases h : d.get .HOST_P_STATUS_AM_LOCK n = 1
  · rw [(Dev.amLost_shows h rfl).1]
    exact Nat.zero_ne_one
  · rwa [Dev.amLost_idle h]

section
variable {L M : List F}

theorem Dev.amCut_keeps (d : Dev) (n : Nat) (hL : ∀ f ∈ amFields, f ∉ L) : Dev.Keeps L M d (d.amCut n) := by
  unfold Dev.amCut Dev.raiseTile
  exact (((Dev.Keeps.refl d).set _ _ (hL _ (by decide))).set _ _ (hL _ (by decide))).raise _
    fun f hf hs => hL f (List.mem_append_left _ (List.mem_append_right _ hs)) hf

theorem Dev.amLost_keeps (d : Dev) (n : Nat) (hL : ∀ f ∈ amFields, f ∉ L) : Dev.Keeps L M d (d.amLost n) := by
  by_cases h : d.get .HOST_P_STATUS_AM_LOCK n = 1
  · rw [Dev.amLost_locked h]
    exact (d.amCut_keeps n hL).trans (Dev.syncTx_keeps _ n fun f hf hs => hL f (List.mem_append_right _ hs) hf)
  · rw [Dev.amLost_idle h]
    exact .refl d

/-! ## A host lane that no longer receives (R240, R247) -/

/-- What it writes of its port. -/
def portFields : List F := [.X_HOST_LANES, .HOST_P_STATUS_LANES_LOCKED] ++ amFields

theorem Dev.portLost_keeps (d : Dev) (h : Nat) (hL : ∀ f ∈ portFields, f ∉ L) : Dev.Keeps L M d (d.portLost h) := by
  unfold Dev.portLost
  split
  · exact .refl d
  · exact (((Dev.Keeps.refl d).set _ _ (hL _ (by decide))).trans (Dev.amLost_keeps _ _ fun f hf => hL f (List.mem_append_right _ hf))).set _ _
      (hL _ (by decide))

/-- What a lane that enters WAIT_SIGNAL writes. -/
def hostWaitFields : List F := [.HOST_L_EVENTS_READY_LOST, .HOST_L_STATUS_STATE, .HOST_L_STATUS_CDR_LOCK, .X_HOST_OK] ++ portFields

theorem Dev.leaveReady_keeps (d : Dev) (h : Nat) (hL : F.HOST_L_EVENTS_READY_LOST ∉ L) (hs : ∀ f ∈ L, f ∉ signalFields) :
    Dev.Keeps L M d (d.leaveReady h) := by
  unfold Dev.leaveReady
  split
  · exact ((Dev.Keeps.refl d).set _ _ hL).raise _ hs
  · exact .refl d

theorem Dev.hostWait_keeps (d : Dev) (h : Nat) (hL : ∀ f ∈ hostWaitFields, f ∉ L) : Dev.Keeps L M d (d.hostWait h) :=
  ((((d.portLost_keeps h fun f hf => hL f (List.mem_append_right _ hf)).trans (Dev.leaveReady_keeps _ _ (hL _ (by decide))
    fun f hf hs => hL f (List.mem_append_right _ (List.mem_append_right _ (List.mem_append_left _ (List.mem_append_right _ hs)))) hf)).set _ _
    (hL _ (by decide)))).setAll _ _ fun f hf => hL f ((by decide : ∀ f ∈ [F.HOST_L_STATUS_CDR_LOCK, .X_HOST_OK], f ∈ hostWaitFields) f hf)

end

theorem Dev.portLost_port {d : Dev} {h n : Nat} (hport : d.portOf h = some n) :
    (d.portLost h).get .HOST_P_STATUS_AM_LOCK n ≠ 1 ∧ (d.portLost h).get .X_HOST_LANES h = 0 := by
  unfold Dev.portLost
  rw [hport]
  have hk := Dev.amLost_keeps (L := [.X_HOST_LANES]) (M := []) (d.set .X_HOST_LANES h 0) n (by decide)
  refine ⟨?_, (Dev.get_set_field _ _ _ _ (by decide)).trans ((hk.get _ (by decide) h).trans (Dev.get_set_same ..))⟩
  refine fun hlock => (d.set .X_HOST_LANES h 0).amLost_unlocked n ?_
  exact (Dev.get_set_field _ _ _ _ (by decide)).symm.trans hlock

theorem Dev.leaveReady_ready {d : Dev} {h : Nat} (hr : d.hl h = hlREADY) :
    (d.leaveReady h).get .HOST_L_EVENTS_READY_LOST h = 1 ∧ 640 + 16 * (h / 32) + 4 ∈ (d.leaveReady h).pending := by
  unfold Dev.leaveReady
  rw [if_pos hr]
  exact ⟨(raise_get _ _ _ _ (by decide)).trans (Dev.get_set_same ..), raiseTile_mem ..⟩

/-- R247: a lane that has entered WAIT_SIGNAL. -/
theorem Dev.hostWait_shows (d : Dev) (h : Nat) {e : Dev} (he : e = d.hostWait h) : e.hl h = hlWAIT ∧ e.get .HOST_L_STATUS_CDR_LOCK h = 0 ∧
    (d.hl h = hlREADY → e.get .HOST_L_EVENTS_READY_LOST h = 1 ∧ 640 + 16 * (h / 32) + 4 ∈ e.pending) ∧
    ∀ n, d.portOf h = some n → e.get .HOST_P_STATUS_AM_LOCK n ≠ 1 ∧ e.get .X_HOST_LANES h = 0 := by
  have hp := d.portLost_keeps (L := [.HOST_L_STATUS_STATE]) (M := []) h (by decide)
  have hr := (d.portLost h).leaveReady_keeps (L := [.HOST_P_STATUS_AM_LOCK, .X_HOST_LANES]) (M := []) h (by decide) (by decide)
  have hready : d.hl h = hlREADY → _ := fun hst => Dev.leaveReady_ready (d := d.portLost h) (h := h) ((hp.get _ (by decide) h).trans hst)
  have hport := fun n => Dev.portLost_port (d := d) (h := h) (n := n)
  unfold Dev.hostWait at he
  generalize (d.portLost h).leaveReady h = b at he hr hready
  generalize d.portLost h = c at hr hport
  have hget : ∀ f i, f ∉ [F.HOST_L_STATUS_CDR_LOCK, .X_HOST_OK] → f ≠ .HOST_L_STATUS_STATE → e.get f i = b.get f i := fun f i h1 h2 => by
    rw [he, Dev.setAll_get_field _ _ _ _ h1]
    exact Dev.get_set_field _ _ _ _ h2
  refine ⟨?_, ?_, fun hst => ?_, fun n hn => ?_⟩
  · rw [he]
    exact (Dev.setAll_get_field _ _ _ _ (by decide)).trans (Dev.get_set_same ..)
  · rw [he]
    exact Dev.setAll_get_of_mem _ _ _ (by decide)
  · obtain ⟨h1, h2⟩ := hready hst
    refine ⟨(hget _ _ (by decide) (by decide)).trans h1, ?_⟩
    rw [he, Dev.setAll_pending]
    exact h2
  · obtain ⟨h1, h2⟩ := hport n hn
    rw [hget _ _ (by decide) (by decide), hget _ _ (by decide) (by decide), hr.get _ (by decide), hr.get _ (by decide)]
    exact ⟨h1, h2⟩

/-! ## Commands -/

section
variable {h : Fin 128} {s : State}

theorem hostSignalDetect_starts (hrole : s.dev.get .HOST_L_STATUS_ROLE h = rolePort) (hwait : s.dev.hl h = hlWAIT) :
    Completes (.hostSignalDetect h) s fun e => e.get .HOST_L_STATUS_SIGNAL h = 1 ∧
      (s.dev.lon .HOST_L_CTRL_C2M h = false ∧ s.dev.lon .HOST_L_CTRL_TRAIN h = true → e.hl h = hlTRAINING ∧
        e.get .X_HOST_TRAIN_CLK h = s.dev.clk ∧
        e.get .HOST_L_EVENTS_TRAIN_COUNT h = satAdd F.HOST_L_EVENTS_TRAIN_COUNT.width (s.dev.get .HOST_L_EVENTS_TRAIN_COUNT h) 1) ∧
      (s.dev.lon .HOST_L_CTRL_C2M h = true ∨ s.dev.lon .HOST_L_CTRL_TRAIN h = false → e.hl h = hlADAPT ∧
        e.get .HOST_L_STATUS_PRECODE_TX_LIVE h = s.dev.lget .HOST_L_CTRL_PRECODE_TX h ∧
        e.get .HOST_L_STATUS_PRECODE_RX_LIVE h = s.dev.lget .HOST_L_CTRL_PRECODE_RX h) := by
  refine .runAs (rfl : _ = execHostSignalDetect h s) fun e he => ?_
  have hcond : s.found.get .HOST_L_STATUS_ROLE h = rolePort ∧ s.found.hl h ≠ hlOFF := by
    refine ⟨hrole, fun hoff => ?_⟩
    exact absurd (hwait.symm.trans hoff) (by decide)
  unfold Dev.hostSignal at he
  replace he := he.trans (if_pos hcond)
  extract_lets b c a at he
  have hsig : b.get .HOST_L_STATUS_SIGNAL h = 1 := Dev.get_set_same ..
  have hst : b.hl h = hlWAIT := (Dev.get_set_field _ _ _ _ (by decide)).trans hwait
  have hcount : b.get .HOST_L_EVENTS_TRAIN_COUNT h = s.dev.get .HOST_L_EVENTS_TRAIN_COUNT h := Dev.get_set_field _ _ _ _ (by decide)
  have hc : c.get .HOST_L_STATUS_SIGNAL h = 1 ∧ c.hl h = hlTRAINING ∧
      c.get .HOST_L_EVENTS_TRAIN_COUNT h = satAdd F.HOST_L_EVENTS_TRAIN_COUNT.width (s.dev.get .HOST_L_EVENTS_TRAIN_COUNT h) 1 := by
    refine ⟨(Dev.get_set_field _ _ _ _ (by decide)).trans ((Dev.get_set_field _ _ _ _ (by decide)).trans hsig),
      (Dev.get_set_field _ _ _ _ (by decide)).trans (Dev.get_set_same ..), (Dev.get_set_same ..).trans ?_⟩
    rw [Dev.get_set_field _ _ _ _ (by decide), hcount]
  have hclk : c.clk = s.dev.clk := rfl
  have ha : a.get .HOST_L_STATUS_SIGNAL h = 1 ∧ a.get .HOST_L_STATUS_PRECODE_TX_LIVE h = s.dev.lget .HOST_L_CTRL_PRECODE_TX h :=
    ⟨(Dev.get_set_field _ _ _ _ (by decide)).trans hsig, Dev.get_set_same ..⟩
  have hlive : ∀ f, a.lget f h = s.dev.lget f h := fun f => rfl
  replace he := he.trans (if_neg (not_not.mpr hst))
  have hcond : (!b.lon .HOST_L_CTRL_C2M h && b.lon .HOST_L_CTRL_TRAIN h) = (!s.dev.lon .HOST_L_CTRL_C2M h && s.dev.lon .HOST_L_CTRL_TRAIN h) := rfl
  rw [hcond] at he
  clear_value a c
  by_cases htrain : (!s.dev.lon .HOST_L_CTRL_C2M h && s.dev.lon .HOST_L_CTRL_TRAIN h) = true
  · obtain ⟨hc2m, htr⟩ := Bool.and_eq_true_iff.mp htrain
    rw [he.trans (if_pos htrain)]
    have hget : ∀ f, f ∉ [F.X_HOST_PRE, .X_HOST_TRAIN_CLK, .X_HOST_BEST] → (((c.set .X_HOST_BEST h 0).set .X_HOST_TRAIN_CLK h c.clk).set .X_HOST_PRE h
        (c.get .HOST_L_STATUS_PRECODE_TX_LIVE h)).get f h = c.get f h := fun f hf => by
      have h1 := List.ne_of_not_mem_cons hf
      have h2 := List.ne_of_not_mem_cons (List.not_mem_of_not_mem_cons hf)
      have h3 := List.ne_of_not_mem_cons (List.not_mem_of_not_mem_cons (List.not_mem_of_not_mem_cons hf))
      exact (Dev.get_set_field _ _ _ _ h1).trans ((Dev.get_set_field _ _ _ _ h2).trans (Dev.get_set_field _ _ _ _ h3))
    refine ⟨(hget _ (by decide)).trans hc.1, fun _ => ⟨(hget _ (by decide)).trans hc.2.1, ?_, (hget _ (by decide)).trans hc.2.2⟩, fun hno => ?_⟩
    · exact (Dev.get_set_field _ _ _ _ (by decide)).trans ((Dev.get_set_same ..).trans hclk)
    · rcases hno with hno | hno
      · rw [hno] at hc2m
        exact (Bool.false_ne_true hc2m).elim
      · exact (Bool.false_ne_true (hno.symm.trans htr)).elim
  · rw [he.trans (if_neg htrain)]
    refine ⟨?_, fun hyes => ?_, fun _ => ⟨Dev.get_set_same .., ?_, ?_⟩⟩
    · exact (Dev.get_set_field _ _ _ _ (by decide)).trans ((Dev.get_set_field _ _ _ _ (by decide)).trans ha.1)
    · refine (htrain ?_).elim
      rw [hyes.1, hyes.2]
      rfl
    · exact (Dev.get_set_field _ _ _ _ (by decide)).trans ((Dev.get_set_field _ _ _ _ (by decide)).trans ha.2)
    · exact (Dev.get_set_field _ _ _ _ (by decide)).trans ((Dev.get_set_same ..).trans (hlive _))

theorem hostSignalLost_waits (hst : s.dev.hl h = hlADAPT ∨ s.dev.hl h = hlREADY) : Completes (.hostSignalLost h) s fun e => e.hl h = hlWAIT ∧
    e.get .HOST_L_STATUS_SIGNAL h = 0 ∧ e.get .HOST_L_EVENTS_LOS h = 1 ∧ e.get .HOST_L_STATUS_CDR_LOCK h = 0 ∧
    (s.dev.hl h = hlREADY → e.get .HOST_L_EVENTS_READY_LOST h = 1 ∧ 640 + 16 * (h.val / 32) + 4 ∈ e.pending) ∧
    ∀ n, s.dev.portOf h = some n → e.get .HOST_P_STATUS_AM_LOCK n ≠ 1 ∧ e.get .X_HOST_LANES h = 0 := by
  refine .runAs (rfl : _ = execHostSignalLost h s) fun e he => ?_
  replace he : e = ((s.found.set .HOST_L_STATUS_SIGNAL h 0).set .HOST_L_EVENTS_LOS h 1).hostWait h := he.trans (if_pos hst)
  have hsig : ((s.found.set .HOST_L_STATUS_SIGNAL h 0).set .HOST_L_EVENTS_LOS h 1).get .HOST_L_STATUS_SIGNAL h = 0 :=
    (Dev.get_set_field _ _ _ _ (by decide)).trans (Dev.get_set_same ..)
  have hlos : ((s.found.set .HOST_L_STATUS_SIGNAL h 0).set .HOST_L_EVENTS_LOS h 1).get .HOST_L_EVENTS_LOS h = 1 := Dev.get_set_same ..
  have hget : ∀ f i, f ≠ .HOST_L_EVENTS_LOS → f ≠ .HOST_L_STATUS_SIGNAL →
      ((s.found.set .HOST_L_STATUS_SIGNAL h 0).set .HOST_L_EVENTS_LOS h 1).get f i = s.dev.get f i := fun f i h1 h2 =>
    (Dev.get_set_field _ _ _ _ h1).trans (Dev.get_set_field _ _ _ _ h2)
  generalize (s.found.set .HOST_L_STATUS_SIGNAL h 0).set .HOST_L_EVENTS_LOS h 1 = b at he hsig hlos hget
  obtain ⟨h1, h2, h3, h4⟩ := b.hostWait_shows h he
  have hk : Dev.Keeps [.HOST_L_STATUS_SIGNAL, .HOST_L_EVENTS_LOS] [] b e := he ▸ b.hostWait_keeps h (by decide)
  refine ⟨h1, (hk.get _ (by decide) _).trans hsig, (hk.get _ (by decide) _).trans hlos, h2, fun hr => h3 ((hget _ _ (by decide) (by decide)).trans hr),
    fun n hn => h4 n ?_⟩
  unfold Dev.portOf at hn ⊢
  rwa [hget _ _ (by decide) (by decide)]

theorem trainingComplete_adapts (preRx : Bool) (hst : s.dev.hl h = hlTRAINING) : Completes (.trainingComplete h preRx) s fun e => e.hl h = hlADAPT ∧
    e.get .HOST_L_EVENTS_TRAIN_OK h = 1 ∧ e.lget .HOST_L_CTRL_PRECODE_RX h = b2n preRx ∧
    e.lget .HOST_L_CTRL_PRECODE_TX h = s.dev.get .X_HOST_PRE h ∧ e.get .HOST_L_CTRL_PRECODE_TX h = s.dev.get .X_HOST_PRE h := by
  refine .runAs (rfl : _ = execTrainingComplete h preRx s) fun e he => ?_
  unfold Dev.trainDone at he
  replace he := he.trans (if_pos hst)
  extract_lets t b r c at he
  have hb : b.lget .HOST_L_CTRL_PRECODE_TX h = t ∧ b.get .HOST_L_CTRL_PRECODE_TX h = t :=
    ⟨Dev.lget_lset_same .., (Dev.get_set_field _ _ _ _ (by decide)).trans (Dev.get_set_same ..)⟩
  have ht : t = s.dev.get .X_HOST_PRE h := rfl
  clear_value b t
  have hc : c.lget .HOST_L_CTRL_PRECODE_RX h = b2n preRx ∧ c.lget .HOST_L_CTRL_PRECODE_TX h = b.lget .HOST_L_CTRL_PRECODE_TX h ∧
      c.get .HOST_L_CTRL_PRECODE_TX h = b.get .HOST_L_CTRL_PRECODE_TX h :=
    ⟨Dev.lget_lset_same .., Dev.lget_lset_field _ _ _ _ (by decide), (Dev.get_set_field _ _ _ _ (by decide)).trans (Dev.get_set_field _ _ _ _ (by decide))⟩
  obtain ⟨hrx, htx, hreg⟩ := hc
  clear_value c
  rw [he]
  refine ⟨?_, ?_, hrx, htx.trans (hb.1.trans ht), ?_⟩
  · exact (Dev.get_set_field _ _ _ _ (by decide)).trans ((Dev.get_set_field _ _ _ _ (by decide)).trans (Dev.get_set_same ..))
  · exact (Dev.get_set_field _ _ _ _ (by decide)).trans (Dev.get_set_same ..)
  · exact (Dev.get_set_field _ _ _ _ (by decide)).trans ((Dev.get_set_field _ _ _ _ (by decide)).trans ((Dev.get_set_field _ _ _ _ (by decide)).trans
      (hreg.trans (hb.2.trans ht))))

theorem trainingTimeout_fails (hst : s.dev.hl h = hlTRAINING)
    (hclk : s.dev.get .X_HOST_TRAIN_CLK h + max 1 (s.dev.lget .HOST_L_TRAIN_TIMEOUT h) * ms ≤ s.dev.clk) :
    Completes (.trainingTimeout h) s fun e => e.hl h = hlWAIT ∧ e.get .HOST_L_EVENTS_TRAIN_FAIL h = 1 ∧ 640 + 16 * (h.val / 32) + 4 ∈ e.pending := by
  refine .runIf (rfl : _ = execTrainingTimeout h s) hst fun e he => ?_
  replace he := he.trans (Dev.onTime_of_le hclk)
  have hfail : ((s.found.set .HOST_L_EVENTS_TRAIN_FAIL h 1).raiseTile (h / 32) 4).get .HOST_L_EVENTS_TRAIN_FAIL h = 1 :=
    (raise_get _ _ _ _ (by decide)).trans (Dev.get_set_same ..)
  have hmem := raiseTile_mem (s.found.set .HOST_L_EVENTS_TRAIN_FAIL h 1) (h / 32) 4
  generalize (s.found.set .HOST_L_EVENTS_TRAIN_FAIL h 1).raiseTile (h / 32) 4 = b at he hfail hmem
  have hk : Dev.Keeps [.HOST_L_EVENTS_TRAIN_FAIL] [] b e := he ▸ b.hostWait_keeps h (by decide)
  exact ⟨(b.hostWait_shows h he).1, (hk.get _ (by decide) _).trans hfail, hk.pending _ hmem⟩

theorem retrain_asks (h : Fin 128) (s : State) : Completes (.retrain h) s fun e => e.get .X_HOST_RETRAIN h = 1 ∧ e.get .X_HOST_RETRAIN_LAST h = s.dev.clk ∧
    (s.dev.get .X_HOST_RETRAIN h ≠ 1 → e.get .X_HOST_RETRAIN_CLK h = s.dev.clk) ∧
    (s.dev.get .X_HOST_RETRAIN h = 1 → e.get .X_HOST_RETRAIN_CLK h = s.dev.get .X_HOST_RETRAIN_CLK h) ∧
    Dev.OnlyAt [.X_HOST_RETRAIN, .X_HOST_RETRAIN_CLK, .X_HOST_RETRAIN_LAST] h s.dev e := by
  refine .runAs (rfl : _ = execRetrain h s) fun e he => ?_
  unfold Dev.askWrite at he
  by_cases hasked : s.dev.get .X_HOST_RETRAIN h = 1
  · have hon : s.found.on .X_HOST_RETRAIN h = true := beq_iff_eq.mpr hasked
    dsimp only at he
    rw [if_pos hon] at he
    rw [he]
    exact ⟨(Dev.get_set_field _ _ _ _ (by decide)).trans hasked, Dev.get_set_same .., fun hn => (hn hasked).elim,
      fun _ => Dev.get_set_field _ _ _ _ (by decide), Dev.Only.ofFound (Dev.OnlyAt.write (.refl _ _) _ _)⟩
  · have hoff : ¬ s.found.on .X_HOST_RETRAIN h = true := fun hc => hasked (beq_iff_eq.mp hc)
    dsimp only at he
    rw [if_neg hoff] at he
    rw [he]
    refine ⟨?_, Dev.get_set_same .., fun _ => ?_, fun h1 => (hasked h1).elim, ?_⟩
    · exact (Dev.get_set_field _ _ _ _ (by decide)).trans ((Dev.get_set_field _ _ _ _ (by decide)).trans (Dev.get_set_same ..))
    · exact (Dev.get_set_field _ _ _ _ (by decide)).trans (Dev.get_set_same ..)
    · exact Dev.Only.ofFound (Dev.OnlyAt.write (Dev.OnlyAt.write (Dev.OnlyAt.write (.refl _ _) _ _) _ _) _ _)

theorem captureOutReady_ready (hrole : s.dev.get .HOST_L_STATUS_ROLE h = roleCapture) (hst : s.dev.hl h ≠ hlREADY)
    (hclk : s.dev.get .X_COUT_CLK h + 20 * us ≤ s.dev.clk) : Completes (.captureOutReady h) s fun e => e.hl h = hlREADY ∧
      Dev.Raised (640 + 16 * (h.val / 32) + 4) s.dev e ∧
      Dev.OnlyRaising (fun f i => (f = .HOST_L_STATUS_STATE ∧ i = h) ∨ (f = .X_HOST_AM_CLK ∧ s.dev.portOf h = some i)) s.dev e := by
  refine .runIf (rfl : _ = execCaptureOutReady h s) ⟨hrole, hst⟩ fun e he => ?_
  replace he : e = s.found.hostReady h := he.trans (Dev.onTime_of_le hclk)
  unfold Dev.hostReady at he
  extract_lets b at he
  have h1 : b.hl h = hlREADY := (raise_get _ _ _ _ (by decide)).trans (Dev.get_set_same ..)
  have h2 : Dev.Raised (640 + 16 * (h.val / 32) + 4) s.found b := .after rfl (Dev.get_set_field _ _ _ _ (by decide)) (by omega)
  have h3 : Dev.OnlyRaising (fun f i => (f = .HOST_L_STATUS_STATE ∧ i = h) ∨ (f = .X_HOST_AM_CLK ∧ s.dev.portOf h = some i)) s.found b :=
    ((Dev.OnlyRaising.refl _ s.found).put _ (.inl ⟨rfl, rfl⟩)).raise _
  have hport : b.portOf h = s.dev.portOf h := by
    unfold Dev.portOf
    rw [show b.get .X_HOST_PORT h = s.dev.get .X_HOST_PORT h from (raise_get _ _ _ _ (by decide)).trans (Dev.get_set_field _ _ _ _ (by decide))]
  clear_value b
  rw [hport] at he
  cases hn : s.dev.portOf h with
  | none =>
    rw [hn] at he h3
    rw [he]
    exact ⟨h1, h2.ofFound, h3.ofFound⟩
  | some n =>
    rw [hn] at he h3
    rw [he]
    exact ⟨(Dev.get_set_field _ _ _ _ (by decide)).trans h1, (Dev.Raised.congr (c := b.set .X_HOST_AM_CLK n b.clk) h2 rfl (Dev.get_set_field _ _ _ _ (by decide))).ofFound,
      (h3.put _ (.inr ⟨rfl, rfl⟩)).ofFound⟩

theorem captureOutPowerDown_ends (hend : s.dev.get .X_COUT_END h = 1) (hclk : s.dev.get .X_COUT_CLK h + us ≤ s.dev.clk) :
    Completes (.captureOutPowerDown h) s fun e => e.hl h = hlOFF ∧ e.get .X_COUT_END h = 0 := by
  refine .runIf (rfl : _ = execCaptureOutPowerDown h s) (beq_iff_eq.mpr hend) fun e he => ?_
  rw [he.trans (Dev.onTime_of_le hclk)]
  exact ⟨(Dev.get_set_field _ _ _ _ (by decide)).trans (Dev.get_set_same ..), Dev.get_set_same ..⟩

end

/-! ## Training requests (R248) -/

/-- The lane once its four transmit taps have followed a request. -/
def Dev.tapsFollow (d : Dev) (h : Nat) (cm3 cm2 cm1 cp1 : BitVec 6) : Dev :=
  (((d.set .HOST_L_TXEQ_LIVE_CM3 h (ux 6 (limitTap cm3 (d.lget .HOST_L_TXEQ_LIMIT_CM3_MAX h)))).set
    .HOST_L_TXEQ_LIVE_CM2 h (ux 6 (limitTap cm2 (d.lget .HOST_L_TXEQ_LIMIT_CM2_MAX h)))).set
    .HOST_L_TXEQ_LIVE_CM1 h (ux 6 (limitTap cm1 (d.lget .HOST_L_TXEQ_LIMIT_CM1_MAX h)))).set
    .HOST_L_TXEQ_LIVE_CP1 h (ux 6 (limitTap cp1 (d.lget .HOST_L_TXEQ_LIMIT_CP1_MAX h)))

theorem Dev.tapsFollow_get (d : Dev) (h : Nat) (cm3 cm2 cm1 cp1 : BitVec 6) :
    (d.tapsFollow h cm3 cm2 cm1 cp1).get .HOST_L_TXEQ_LIVE_CM3 h = ux 6 (limitTap cm3 (d.lget .HOST_L_TXEQ_LIMIT_CM3_MAX h)) ∧
    (d.tapsFollow h cm3 cm2 cm1 cp1).get .HOST_L_TXEQ_LIVE_CM2 h = ux 6 (limitTap cm2 (d.lget .HOST_L_TXEQ_LIMIT_CM2_MAX h)) ∧
    (d.tapsFollow h cm3 cm2 cm1 cp1).get .HOST_L_TXEQ_LIVE_CM1 h = ux 6 (limitTap cm1 (d.lget .HOST_L_TXEQ_LIMIT_CM1_MAX h)) ∧
    (d.tapsFollow h cm3 cm2 cm1 cp1).get .HOST_L_TXEQ_LIVE_CP1 h = ux 6 (limitTap cp1 (d.lget .HOST_L_TXEQ_LIMIT_CP1_MAX h)) :=
  ⟨(Dev.get_set_field _ _ _ _ (by decide)).trans ((Dev.get_set_field _ _ _ _ (by decide)).trans ((Dev.get_set_field _ _ _ _ (by decide)).trans
      (Dev.get_set_same ..))),
    (Dev.get_set_field _ _ _ _ (by decide)).trans ((Dev.get_set_field _ _ _ _ (by decide)).trans (Dev.get_set_same ..)),
    (Dev.get_set_field _ _ _ _ (by decide)).trans (Dev.get_set_same ..), Dev.get_set_same ..⟩

/-- A request asks for more than the limits allow. -/
def Dev.tapsCut (d : Dev) (h : Nat) (cm3 cm2 cm1 cp1 : BitVec 6) : Bool :=
  decide (limitTap cm3 (d.lget .HOST_L_TXEQ_LIMIT_CM3_MAX h) ≠ sx 6 cm3.toNat) ||
    decide (limitTap cm2 (d.lget .HOST_L_TXEQ_LIMIT_CM2_MAX h) ≠ sx 6 cm2.toNat) ||
    decide (limitTap cm1 (d.lget .HOST_L_TXEQ_LIMIT_CM1_MAX h) ≠ sx 6 cm1.toNat) ||
    decide (limitTap cp1 (d.lget .HOST_L_TXEQ_LIMIT_CP1_MAX h) ≠ sx 6 cp1.toNat)

theorem Dev.trainRequest_training {d : Dev} {h : Nat} (hst : d.hl h = hlTRAINING) (cm3 cm2 cm1 cp1 : BitVec 6) (pre : Option Bool) :
    d.trainRequest h cm3 cm2 cm1 cp1 pre = match pre with
      | none => (d.tapsFollow h cm3 cm2 cm1 cp1).send (.trainAnswer h (d.tapsCut h cm3 cm2 cm1 cp1))
      | some b => ((d.tapsFollow h cm3 cm2 cm1 cp1).send (.trainAnswer h (d.tapsCut h cm3 cm2 cm1 cp1))).set .X_HOST_PRE h (b2n b) := by
  unfold Dev.trainRequest Dev.tapsCut
  rw [if_pos hst]
  cases pre <;> rfl

theorem Dev.tapsFollow_only (d : Dev) (h : Nat) (cm3 cm2 cm1 cp1 : BitVec 6) :
    Dev.OnlyAt [.HOST_L_TXEQ_LIVE_CM3, .HOST_L_TXEQ_LIVE_CM2, .HOST_L_TXEQ_LIVE_CM1, .HOST_L_TXEQ_LIVE_CP1, .X_HOST_PRE] h d
      (d.tapsFollow h cm3 cm2 cm1 cp1) :=
  Dev.OnlyAt.write (Dev.OnlyAt.write (Dev.OnlyAt.write (Dev.OnlyAt.write (.refl _ d) _ _) _ _) _ _) _ _

theorem trainingRequest_answers {h : Fin 128} (cm3 cm2 cm1 cp1 : BitVec 6) (pre : Option Bool) {s : State} (hst : s.dev.hl h = hlTRAINING) :
    Completes (.trainingRequest h cm3 cm2 cm1 cp1 pre) s fun e =>
      e.get .HOST_L_TXEQ_LIVE_CM3 h = ux 6 (limitTap cm3 (s.dev.lget .HOST_L_TXEQ_LIMIT_CM3_MAX h)) ∧
      e.get .HOST_L_TXEQ_LIVE_CM2 h = ux 6 (limitTap cm2 (s.dev.lget .HOST_L_TXEQ_LIMIT_CM2_MAX h)) ∧
      e.get .HOST_L_TXEQ_LIVE_CM1 h = ux 6 (limitTap cm1 (s.dev.lget .HOST_L_TXEQ_LIMIT_CM1_MAX h)) ∧
      e.get .HOST_L_TXEQ_LIVE_CP1 h = ux 6 (limitTap cp1 (s.dev.lget .HOST_L_TXEQ_LIMIT_CP1_MAX h)) ∧
      e.out = [.trainAnswer h (s.dev.tapsCut h cm3 cm2 cm1 cp1)] ∧
      (∀ b, pre = some b → e.get .X_HOST_PRE h = b2n b) ∧
      Dev.OnlyAt [.HOST_L_TXEQ_LIVE_CM3, .HOST_L_TXEQ_LIVE_CM2, .HOST_L_TXEQ_LIVE_CM1, .HOST_L_TXEQ_LIVE_CP1, .X_HOST_PRE] h s.dev e := by
  refine .runAs (rfl : _ = execTrainingRequest h cm3 cm2 cm1 cp1 pre s) fun e he => ?_
  rw [Dev.trainRequest_training (d := s.found) hst] at he
  have hout : (s.found.tapsFollow h cm3 cm2 cm1 cp1).out = [] := rfl
  have hcut : s.found.tapsCut h cm3 cm2 cm1 cp1 = s.dev.tapsCut h cm3 cm2 cm1 cp1 := rfl
  obtain ⟨h1, h2, h3, h4⟩ := s.found.tapsFollow_get h cm3 cm2 cm1 cp1
  have honly := s.found.tapsFollow_only h cm3 cm2 cm1 cp1
  rw [hcut] at he
  generalize s.found.tapsFollow h cm3 cm2 cm1 cp1 = b at he hout h1 h2 h3 h4 honly
  generalize s.dev.tapsCut h cm3 cm2 cm1 cp1 = cut at he ⊢
  have hsent : (b.send (.trainAnswer h cut)).out = [.trainAnswer h cut] := by
    rw [Dev.out_send, hout]
    rfl
  cases pre with
  | none =>
    replace he : e = b.send (.trainAnswer h cut) := he
    rw [he]
    exact ⟨h1, h2, h3, h4, hsent, fun b hb => (nomatch hb), Dev.Only.ofFound (honly.send _)⟩
  | some v =>
    replace he : e = (b.send (.trainAnswer h cut)).set .X_HOST_PRE h (b2n v) := he
    rw [he]
    refine ⟨(Dev.get_set_field _ _ _ _ (by decide)).trans h1, (Dev.get_set_field _ _ _ _ (by decide)).trans h2,
      (Dev.get_set_field _ _ _ _ (by decide)).trans h3, (Dev.get_set_field _ _ _ _ (by decide)).trans h4, hsent, fun x hx => ?_,
      Dev.Only.ofFound (Dev.OnlyAt.write (honly.send _) _ _)⟩
    rw [Option.some.inj hx]
    exact Dev.get_set_same ..

/-- Settles O44: the states of host lanes, training requests and capture-out lanes. -/
theorem hostLaneStates : Obligations.HostLaneStates := by
  refine ⟨fun h s => ⟨hostSignalDetect_starts, fun hno => ?_, hostSignalLost_waits, trainingComplete_adapts, trainingTimeout_fails, retrain_asks h s, ?_,
    captureOutReady_ready, captureOutPowerDown_ends⟩, fun h cm3 cm2 cm1 cp1 pre s hst => trainingRequest_answers cm3 cm2 cm1 cp1 pre hst⟩
  · refine .runAs (rfl : _ = execHostSignalDetect h s) fun e he => he.trans (if_neg fun hc => ?_)
    exact hno.elim (fun hr => hr hc.1) fun hoff => hc.2 hoff
  · refine .runAs (rfl : _ = execHostLClearStats h s) fun e he => ?_
    rw [he]
    exact ⟨Dev.get_set_same .., Dev.Only.ofFound (Dev.OnlyAt.write (.refl _ _) _ _)⟩

end Sys2Proof.Machine
end

section
/-! PROOFS. Host ports: alignment lock, codewords that go on, and the transmit source (R240 to R246, R250, R256). -/

-- One theorem at a time: the whole text is compiled under a memory limit, which the stacks of waiting threads would fill.
set_option Elab.async false

namespace Sys2Proof.Machine

open Sys2Proof

theorem Dev.Raised.before {a b c : Dev} {n : Nat} (h : Dev.Raised n b c) (hpend : b.pending = a.pending)
    (hocc : b.get .PH_SRC_OCCUR n = a.get .PH_SRC_OCCUR n) : Dev.Raised n a c :=
  ⟨h.1.trans (by rw [hpend]), h.2.trans (by rw [hocc])⟩

/-! ## The lanes of a port (R237, R240) -/

/-- What the lanes of a port follow. -/
def topoFields : List F := [.X_TOPO_A, .X_TOPO_B, .X_HOST_PORT]

theorem Dev.hostLanes_congr {d e : Dev} (h : ∀ f ∈ topoFields, ∀ i, e.get f i = d.get f i) (n : Nat) : e.hostLanes n = d.hostLanes n := by
  unfold Dev.hostLanes
  rw [h _ (by decide), h _ (by decide)]
  refine List.filter_congr fun x _ => ?_
  rw [h _ (by decide)]

/-- What the lanes of a port write as they lock. -/
def laneFields : List F := [.X_HOST_LANES, .HOST_P_STATUS_LANES_LOCKED]

/-- The lanes that lock on some host lanes. -/
def Dev.markLanes (d : Dev) (all : Nat) (l : List (Nat × Nat)) : Dev := Dev.forList l (fun x d => d.orBits .X_HOST_LANES x.1 (x.2 &&& all)) d

theorem Dev.markLanes_only (d : Dev) (all : Nat) (l : List (Nat × Nat)) : Dev.Only (fun f _ => f ∈ laneFields) d (d.markLanes all l) :=
  List.foldlRecOn l (fun (e : Dev) (x : Nat × Nat) => e.orBits .X_HOST_LANES x.1 (x.2 &&& all)) (motive := Dev.Only (fun f _ => f ∈ laneFields) d)
    (.refl _ d) fun _ he _ _ => he.write _ _ _

theorem Dev.lockLanes_eq (d : Dev) (n a b : Nat) :
    d.lockLanes n a b = (d.markLanes (portLanes (d.mode (engineOf n))) ((d.hostLanes n).zip [a, b])).showLanes n := rfl

theorem Dev.lockLanes_only (d : Dev) (n a b : Nat) : Dev.Only (fun f _ => f ∈ laneFields) d (d.lockLanes n a b) := by
  rw [Dev.lockLanes_eq]
  exact Dev.Only.write (d.markLanes_only _ _) _ _ _

/-- R240: LANES_LOCKED is what the lanes of the port carry. -/
theorem Dev.lockLanes_locked (d : Dev) (n a b : Nat) : (d.lockLanes n a b).get .HOST_P_STATUS_LANES_LOCKED n =
    ((d.hostLanes n).map fun h => (d.lockLanes n a b).get .X_HOST_LANES h).foldl (· ||| ·) 0 := by
  rw [Dev.lockLanes_eq]
  have honly := d.markLanes_only (portLanes (d.mode (engineOf n))) ((d.hostLanes n).zip [a, b])
  generalize d.markLanes (portLanes (d.mode (engineOf n))) ((d.hostLanes n).zip [a, b]) = c at honly
  have hlanes : c.hostLanes n = d.hostLanes n := Dev.hostLanes_congr (fun f hf i =>
    honly.2 f i ((by decide : ∀ f ∈ topoFields, f ∉ laneFields) f hf)) n
  have hget : ∀ h, (c.showLanes n).get .X_HOST_LANES h = c.get .X_HOST_LANES h := fun h => Dev.get_set_field _ _ _ _ (by decide)
  rw [← hlanes]
  refine (Dev.get_set_same ..).trans (congrArg (List.foldl (· ||| ·) 0) (List.map_congr_left fun h _ => (hget h).symm))

theorem Dev.lockLanes_two {d : Dev} {n ha hb : Nat} (a b : Nat) (h : d.hostLanes n = [ha, hb]) (hne : ha ≠ hb) :
    (d.lockLanes n a b).get .X_HOST_LANES ha = d.get .X_HOST_LANES ha ||| (a &&& portLanes (d.mode (engineOf n))) ∧
      (d.lockLanes n a b).get .X_HOST_LANES hb = d.get .X_HOST_LANES hb ||| (b &&& portLanes (d.mode (engineOf n))) := by
  rw [Dev.lockLanes_eq, h]
  generalize portLanes (d.mode (engineOf n)) = all
  refine ⟨?_, ?_⟩
  · exact (Dev.get_set_field _ _ _ _ (by decide)).trans ((Dev.get_set_inst _ _ _ hne).trans (Dev.get_set_same ..))
  · refine (Dev.get_set_field _ _ _ _ (by decide)).trans ((Dev.get_set_same ..).trans ?_)
    exact congrArg (· ||| (b &&& all)) (Dev.get_set_inst _ _ _ hne.symm)

theorem Dev.lockLanes_one {d : Dev} {n h : Nat} (a b : Nat) (hl : d.hostLanes n = [h]) :
    (d.lockLanes n a b).get .X_HOST_LANES h = d.get .X_HOST_LANES h ||| (a &&& portLanes (d.mode (engineOf n))) := by
  rw [Dev.lockLanes_eq, hl]
  generalize portLanes (d.mode (engineOf n)) = all
  exact (Dev.get_set_field _ _ _ _ (by decide)).trans (Dev.get_set_same ..)

/-! ## Lock gained and lost (R240 to R242) -/

theorem Dev.deskewError_shows (d : Dev) (n : Nat) {e : Dev} (he : e = d.deskewError n) : e.get .HOST_P_STATUS_AM_LOCK n ≠ 1 ∧
    (d.get .HOST_P_STATUS_AM_LOCK n = 1 → e.get .HOST_P_STATUS_AM_LOCK n = 0) ∧ e.get .HOST_P_STATUS_LANES_LOCKED n = 0 ∧
    e.get .HOST_P_EVENTS_DESKEW_ERR n = 1 ∧ 640 + 16 * tileOf n + 5 ∈ e.pending := by
  have hlock : e.get .HOST_P_STATUS_AM_LOCK n = (d.amLost n).get .HOST_P_STATUS_AM_LOCK n := by
    rw [he]
    exact (raise_get _ _ _ _ (by decide)).trans ((Dev.get_set_field _ _ _ _ (by decide)).trans ((Dev.get_set_field _ _ _ _ (by decide)).trans
      ((Dev.get_set_field _ _ _ _ (by decide)).trans (Dev.setEach_get_field _ _ _ _ (by decide)))))
  refine ⟨?_, fun hl => hlock.trans (Dev.amLost_shows hl rfl).1, ?_, ?_, ?_⟩
  · rw [hlock]
    exact d.amLost_unlocked n
  · rw [he]
    exact (raise_get _ _ _ _ (by decide)).trans ((Dev.get_set_field _ _ _ _ (by decide)).trans ((Dev.get_set_field _ _ _ _ (by decide)).trans
      (Dev.get_set_same ..)))
  · rw [he]
    exact (raise_get _ _ _ _ (by decide)).trans (Dev.get_set_same ..)
  · rw [he]
    exact raiseTile_mem ..

theorem Dev.seekMarkers_shows (d : Dev) (n : Nat) {e : Dev} (he : e = d.seekMarkers n) : e.get .HOST_P_STATUS_LANES_LOCKED n = 0 ∧
    (∀ h ∈ d.hostLanes n, e.get .X_HOST_LANES h = 0) ∧ e.get .X_HOST_AM_CLK n = d.clk ∧
    Dev.Only (fun f i => (i = n ∧ (f = .HOST_P_STATUS_LANES_LOCKED ∨ f = .X_HOST_AM_CLK)) ∨ (f = .X_HOST_LANES ∧ i ∈ d.hostLanes n)) d e := by
  have hset : Dev.Only (fun f i => (i = n ∧ (f = .HOST_P_STATUS_LANES_LOCKED ∨ f = .X_HOST_AM_CLK)) ∨ (f = .X_HOST_LANES ∧ i ∈ d.hostLanes n))
    d (d.setEach .X_HOST_LANES (d.hostLanes n) 0) := (Dev.Only.refl _ d).setEach 0 fun i hi => .inr ⟨rfl, hi⟩
  have hlanes : ∀ h ∈ d.hostLanes n, (d.setEach .X_HOST_LANES (d.hostLanes n) 0).get .X_HOST_LANES h = 0 := fun h hh =>
    Dev.setEach_get_of_mem _ _ hh
  unfold Dev.seekMarkers at he
  generalize d.setEach .X_HOST_LANES (d.hostLanes n) 0 = b at he hset hlanes
  rw [he]
  refine ⟨(Dev.get_set_field _ _ _ _ (by decide)).trans (Dev.get_set_same ..), fun h hh => ?_, Dev.get_set_same ..,
    (hset.set _ (.inl ⟨rfl, .inl rfl⟩)).set _ (.inl ⟨rfl, .inr rfl⟩)⟩
  exact (Dev.get_set_field _ _ _ _ (by decide)).trans ((Dev.get_set_field _ _ _ _ (by decide)).trans (hlanes h hh))

section
variable {n : Fin 64} {s : State} {a b skew : BitVec 16}

/-- R240: LANES_LOCKED and SKEW of the port once lanes have locked. -/
def Dev.skewed (d : Dev) (n a b skew : Nat) : Dev := (d.lockLanes n a b).set .HOST_P_STATUS_SKEW n (min 255 skew)

theorem Dev.skewed_only (d : Dev) (n a b skew : Nat) : Dev.Only (fun f _ => f ∈ .HOST_P_STATUS_SKEW :: laneFields) d (d.skewed n a b skew) :=
  ((d.lockLanes_only n a b).mono fun _ _ hf => List.mem_cons_of_mem _ hf).write _ _ _

variable (hlanes : s.dev.hostLanes n ≠ []) (hready : ∀ h ∈ s.dev.hostLanes n, s.dev.hl h = hlREADY)
  (hclk : s.dev.get .X_HOST_AM_CLK n + markerPeriods (s.dev.mode (engineOf n)) ≤ s.dev.clk)
include hlanes hready hclk

theorem amLockGained_goes {P : Dev → Prop} (hp : ∀ c e, c = s.found.skewed n a.toNat b.toNat skew.toNat →
    e = (if (s.found.lockLanes n a.toNat b.toNat).get .HOST_P_STATUS_LANES_LOCKED n ≠ portLanes (s.dev.mode (engineOf n)) then c
      else if 180 < skew.toNat then c.deskewError n
      else if c.on .HOST_P_STATUS_AM_LOCK n then c
      else (((c.set .HOST_P_STATUS_AM_LOCK n 1).set .HOST_P_EVENTS_LOCK_GAINED n 1).raiseTile (tileOf n) 5).syncTx n) → P e) :
    Completes (.amLockGained n a b skew) s P := by
  refine .runAs (rfl : _ = execAmLockGained n a b skew s) fun e he => ?_
  replace he : e = s.found.amGained n a.toNat b.toNat skew.toNat := he.trans (Dev.onTime_of_le hclk)
  have hno : ¬ ((s.found.hostLanes n).isEmpty || !((s.found.hostLanes n).all fun h => s.found.hl h == hlREADY)) = true := by
    have h1 : (s.found.hostLanes n).isEmpty = false := List.isEmpty_eq_false_iff.mpr hlanes
    have h2 : ((s.found.hostLanes n).all fun h => s.found.hl h == hlREADY) = true := List.all_eq_true.mpr fun h hh => beq_iff_eq.mpr (hready h hh)
    rw [h1, h2]
    exact Bool.false_ne_true
  unfold Dev.amGained at he
  replace he := he.trans (if_neg hno)
  refine hp (s.found.skewed n a.toNat b.toNat skew.toNat) e rfl (he.trans ?_)
  have hlocked : (s.found.skewed n a.toNat b.toNat skew.toNat).get .HOST_P_STATUS_LANES_LOCKED n =
    (s.found.lockLanes n a.toNat b.toNat).get .HOST_P_STATUS_LANES_LOCKED n := Dev.get_set_field _ _ _ _ (by decide)
  have hmode : (s.found.skewed n a.toNat b.toNat skew.toNat).mode (engineOf n) = s.dev.mode (engineOf n) :=
    (s.found.skewed_only n a.toNat b.toNat skew.toNat).keeps _ _
  rw [← hlocked, ← hmode]
  rfl

theorem amLockGained_waits (hno : (s.found.lockLanes n a.toNat b.toNat).get .HOST_P_STATUS_LANES_LOCKED n ≠ portLanes (s.dev.mode (engineOf n))) :
    Completes (.amLockGained n a b skew) s fun e =>
      e.get .HOST_P_STATUS_LANES_LOCKED n = (s.found.lockLanes n a.toNat b.toNat).get .HOST_P_STATUS_LANES_LOCKED n ∧
      e.get .HOST_P_STATUS_AM_LOCK n = s.dev.get .HOST_P_STATUS_AM_LOCK n := by
  refine amLockGained_goes hlanes hready hclk fun c e hc he => ?_
  rw [he.trans (if_pos hno), hc]
  exact ⟨Dev.get_set_field _ _ _ _ (by decide), (s.found.skewed_only n _ _ _).keeps _ _⟩

theorem amLockGained_locks (hall : (s.found.lockLanes n a.toNat b.toNat).get .HOST_P_STATUS_LANES_LOCKED n = portLanes (s.dev.mode (engineOf n)))
    (hskew : skew.toNat ≤ 180) (hunlocked : s.dev.get .HOST_P_STATUS_AM_LOCK n ≠ 1) : Completes (.amLockGained n a b skew) s fun e =>
      e.get .HOST_P_STATUS_AM_LOCK n = 1 ∧ e.get .HOST_P_STATUS_SKEW n = skew.toNat ∧
      e.get .HOST_P_STATUS_LANES_LOCKED n = portLanes (s.dev.mode (engineOf n)) ∧ e.get .HOST_P_EVENTS_LOCK_GAINED n = 1 ∧
      Dev.Raised (640 + 16 * tileOf n + 5) s.dev e := by
  refine amLockGained_goes hlanes hready hclk fun c e hc he => ?_
  have honly := s.found.skewed_only n a.toNat b.toNat skew.toNat
  have hlocked : c.get .HOST_P_STATUS_LANES_LOCKED n = portLanes (s.dev.mode (engineOf n)) := by
    rw [hc]
    exact (Dev.get_set_field _ _ _ _ (by decide)).trans hall
  have hsk : c.get .HOST_P_STATUS_SKEW n = skew.toNat := by
    rw [hc]
    exact (Dev.get_set_same ..).trans (Nat.min_eq_right (Nat.le_trans hskew (by decide)))
  rw [← hc] at honly
  have hlock : ¬ c.on .HOST_P_STATUS_AM_LOCK n = true := fun h => hunlocked ((honly.keeps _ _).symm.trans (beq_iff_eq.mp h))
  have hpend : c.pending = s.dev.pending := by
    rw [honly.1]
    rfl
  have hocc : c.get .PH_SRC_OCCUR (640 + 16 * tileOf n + 5) = s.dev.get .PH_SRC_OCCUR (640 + 16 * tileOf n + 5) := honly.keeps _ _
  replace he := ((he.trans (if_neg (not_not.mpr hall))).trans (if_neg (Nat.not_lt_of_le hskew))).trans (if_neg hlock)
  clear hall hc
  have hraised : Dev.Raised (640 + 16 * tileOf n + 5) s.dev (((c.set .HOST_P_STATUS_AM_LOCK n 1).set .HOST_P_EVENTS_LOCK_GAINED n 1).raiseTile (tileOf n) 5) :=
    .after hpend ((Dev.get_set_field _ _ _ _ (by decide)).trans ((Dev.get_set_field _ _ _ _ (by decide)).trans hocc)) (by omega)
  have hget : ∀ f i, f ∉ signalFields → f ∉ followFields → e.get f i =
      ((c.set .HOST_P_STATUS_AM_LOCK n 1).set .HOST_P_EVENTS_LOCK_GAINED n 1).get f i := fun f i h1 h2 => by
    rw [he]
    exact ((Dev.syncTx_only _ _).2 _ _ fun h => h2 h.2).trans (raise_get _ _ _ _ h1)
  refine ⟨?_, ?_, ?_, ?_, ?_⟩
  · exact (hget _ _ (by decide) (by decide)).trans ((Dev.get_set_field _ _ _ _ (by decide)).trans (Dev.get_set_same ..))
  · exact (hget _ _ (by decide) (by decide)).trans ((Dev.get_set_field _ _ _ _ (by decide)).trans ((Dev.get_set_field _ _ _ _ (by decide)).trans hsk))
  · exact (hget _ _ (by decide) (by decide)).trans ((Dev.get_set_field _ _ _ _ (by decide)).trans ((Dev.get_set_field _ _ _ _ (by decide)).trans hlocked))
  · exact (hget _ _ (by decide) (by decide)).trans (Dev.get_set_same ..)
  · rw [he]
    exact Dev.syncTx_raised hraised

theorem amLockGained_skewed (hall : (s.found.lockLanes n a.toNat b.toNat).get .HOST_P_STATUS_LANES_LOCKED n = portLanes (s.dev.mode (engineOf n)))
    (hskew : 180 < skew.toNat) : Completes (.amLockGained n a b skew) s fun e => e.get .HOST_P_STATUS_AM_LOCK n ≠ 1 ∧
      e.get .HOST_P_STATUS_LANES_LOCKED n = 0 ∧ e.get .HOST_P_EVENTS_DESKEW_ERR n = 1 ∧ 640 + 16 * tileOf n + 5 ∈ e.pending := by
  refine amLockGained_goes hlanes hready hclk fun c e _ he => ?_
  obtain ⟨h1, -, h3, h4, h5⟩ := c.deskewError_shows n ((he.trans (if_neg (not_not.mpr hall))).trans (if_pos hskew))
  exact ⟨h1, h3, h4, h5⟩

end

/-- Some lanes are left of those that the host lanes of a list carry. -/
def Dev.keepLanes (d : Dev) (lanes : Nat) (l : List Nat) : Dev := Dev.forList l (fun h d => d.set .X_HOST_LANES h (d.get .X_HOST_LANES h &&& lanes)) d

theorem Dev.keepLanes_only (d : Dev) (lanes : Nat) (l : List Nat) : Dev.Only (fun f _ => f ∈ [F.X_HOST_LANES]) d (d.keepLanes lanes l) :=
  List.foldlRecOn l (fun (e : Dev) h => e.set .X_HOST_LANES h (e.get .X_HOST_LANES h &&& lanes)) (motive := Dev.Only (fun f _ => f ∈ [F.X_HOST_LANES]) d)
    (.refl _ d) fun _ he _ _ => he.write _ _ _

theorem Dev.keepLanes_get (lanes : Nat) (l : List Nat) (d : Dev) (h : Nat) : (d.keepLanes lanes l).get .X_HOST_LANES h =
    if h ∈ l then d.get .X_HOST_LANES h &&& lanes else d.get .X_HOST_LANES h := by
  induction l generalizing d with
  | nil => rfl
  | cons k l ih =>
    refine (ih (d.set .X_HOST_LANES k (d.get .X_HOST_LANES k &&& lanes))).trans ?_
    by_cases hk : h = k
    · subst hk
      rw [Dev.get_set_same, if_pos List.mem_cons_self, Nat.and_assoc, Nat.and_self, ite_self]
    · rw [Dev.get_set_inst _ _ _ hk]
      simp only [List.mem_cons, hk, false_or]

theorem amLockLost_loses {n : Fin 64} {s : State} (lanes : BitVec 16) {skew : BitVec 16} (hlock : s.dev.get .HOST_P_STATUS_AM_LOCK n = 1)
    (hskew : skew.toNat ≤ 180) : Completes (.amLockLost n lanes skew) s fun e => e.get .HOST_P_STATUS_AM_LOCK n = 0 ∧
      (∀ h ∈ s.dev.hostLanes n, e.get .X_HOST_LANES h = s.dev.get .X_HOST_LANES h &&& lanes.toNat) ∧
      e.get .HOST_P_STATUS_LANES_LOCKED n = ((s.dev.hostLanes n).map fun h => e.get .X_HOST_LANES h).foldl (· ||| ·) 0 ∧
      e.get .HOST_P_EVENTS_LOCK_LOST n = 1 ∧ Dev.Raised (640 + 16 * tileOf n + 5) s.dev e := by
  refine .runIf (rfl : _ = execAmLockLost n lanes skew s) (beq_iff_eq.mpr hlock) fun e he => ?_
  dsimp only at he
  replace he := he.trans (if_neg (Nat.not_lt_of_le hskew))
  have hb : Dev.Only (fun f _ => f ∈ [F.HOST_P_STATUS_SKEW]) s.found (s.found.set .HOST_P_STATUS_SKEW n (min 255 skew.toNat)) :=
    (Dev.Only.refl _ s.found).write _ _ _
  generalize s.found.set .HOST_P_STATUS_SKEW n (min 255 skew.toNat) = b at he hb
  have hlanes : b.hostLanes n = s.dev.hostLanes n := Dev.hostLanes_congr (d := s.found) (fun f hf i =>
    hb.2 f i ((by decide : ∀ f ∈ topoFields, f ∉ [F.HOST_P_STATUS_SKEW]) f hf)) n
  rw [hlanes] at he
  have hc := (hb.mono fun _ _ h => List.mem_append_right [F.X_HOST_LANES] h).trans ((b.keepLanes_only lanes.toNat (s.dev.hostLanes n)).mono
    fun _ _ h => List.mem_append_left [F.HOST_P_STATUS_SKEW] h)
  have hkept : ∀ h ∈ s.dev.hostLanes n, (b.keepLanes lanes.toNat (s.dev.hostLanes n)).get .X_HOST_LANES h = s.dev.get .X_HOST_LANES h &&& lanes.toNat :=
    fun h hh => by
      rw [Dev.keepLanes_get, if_pos hh, hb.keeps _ _]
      rfl
  replace he : e = ((b.keepLanes lanes.toNat (s.dev.hostLanes n)).amLost n).showLanes n := he
  generalize b.keepLanes lanes.toNat (s.dev.hostLanes n) = c at he hc hkept
  obtain ⟨h1, h2, h3⟩ := Dev.amLost_shows ((hc.keeps _ _).trans hlock) rfl
  have hk := c.amLost_keeps (L := .X_HOST_LANES :: topoFields) (M := []) n (by decide)
  have hraised : Dev.Raised (640 + 16 * tileOf n + 5) s.dev (c.amLost n) := h3.before (by rw [hc.1]; rfl) (hc.keeps _ _)
  have hlanes' : (c.amLost n).hostLanes n = s.dev.hostLanes n := Dev.hostLanes_congr (d := s.dev) (fun f hf i =>
    (hk.get f (List.mem_cons_of_mem _ hf) i).trans (hc.2 f i ((by decide : ∀ f ∈ topoFields, f ∉ [F.X_HOST_LANES] ++ [F.HOST_P_STATUS_SKEW]) f hf))) n
  have hkept' : ∀ h ∈ s.dev.hostLanes n, (c.amLost n).get .X_HOST_LANES h = s.dev.get .X_HOST_LANES h &&& lanes.toNat := fun h hh =>
    (hk.get _ (by decide) h).trans (hkept h hh)
  generalize c.amLost n = a at he h1 h2 hraised hlanes' hkept'
  have hget : ∀ f i, f ≠ .HOST_P_STATUS_LANES_LOCKED → e.get f i = a.get f i := fun f i hf => by
    rw [he]
    exact Dev.get_set_field _ _ _ _ hf
  refine ⟨(hget _ _ (by decide)).trans h1, fun h hh => (hget _ _ (by decide)).trans (hkept' h hh), ?_, (hget _ _ (by decide)).trans h2, ?_⟩
  · rw [he]
    refine (Dev.get_set_same ..).trans ?_
    rw [hlanes']
    exact congrArg (List.foldl (· ||| ·) 0) (List.map_congr_left fun h _ => (Dev.get_set_field _ _ _ _ (by decide)).symm)
  · rw [he]
    exact hraised.congr rfl (Dev.get_set_field _ _ _ _ (by decide))

theorem amLockLost_skewed {n : Fin 64} {s : State} (lanes : BitVec 16) {skew : BitVec 16} (hlock : s.dev.get .HOST_P_STATUS_AM_LOCK n = 1)
    (hskew : 180 < skew.toNat) : Completes (.amLockLost n lanes skew) s fun e => e.get .HOST_P_STATUS_AM_LOCK n = 0 ∧
      e.get .HOST_P_STATUS_LANES_LOCKED n = 0 ∧ e.get .HOST_P_EVENTS_DESKEW_ERR n = 1 := by
  refine .runIf (rfl : _ = execAmLockLost n lanes skew s) (beq_iff_eq.mpr hlock) fun e he => ?_
  dsimp only at he
  obtain ⟨-, h2, h3, h4, -⟩ := Dev.deskewError_shows _ _ (he.trans (if_pos hskew))
  exact ⟨h2 ((Dev.get_set_field _ _ _ _ (by decide)).trans hlock), h3, h4⟩

theorem hostRelock_locked {n : Fin 64} {s : State} (hlock : s.dev.get .HOST_P_STATUS_AM_LOCK n = 1) : Completes (.hostRelock n) s fun e =>
    e.get .HOST_P_STATUS_AM_LOCK n = 0 ∧ e.get .HOST_P_STATUS_LANES_LOCKED n = 0 ∧ e.get .HOST_P_EVENTS_LOCK_LOST n = 1 ∧
      e.get .X_HOST_AM_CLK n = s.dev.clk ∧ Dev.Raised (640 + 16 * tileOf n + 5) s.dev e := by
  refine .runAs (rfl : _ = execHostRelock n s) fun e he => ?_
  obtain ⟨h1, h2, h3⟩ := Dev.amLost_shows (d := s.found) hlock rfl
  have hclk : (s.found.amLost n).clk = s.dev.clk := (s.found.amLost_keeps (L := []) (M := []) n (by decide)).clk
  generalize s.found.amLost n = c at he h1 h2 h3 hclk
  obtain ⟨k1, -, k3, honly⟩ := c.seekMarkers_shows n he
  have hget : ∀ f i, f ∉ [F.X_HOST_AM_CLK, .HOST_P_STATUS_LANES_LOCKED, .X_HOST_LANES] → e.get f i = c.get f i := fun f i hf =>
    honly.2 f i fun h => hf (by
      rcases h with ⟨-, h | h⟩ | ⟨h, -⟩ <;> rw [h] <;> decide)
  have hpend : e.pending = c.pending := by rw [honly.1]
  exact ⟨(hget _ _ (by decide)).trans h1, k1, (hget _ _ (by decide)).trans h2, k3.trans hclk, (h3.congr hpend (hget _ _ (by decide))).ofFound⟩

theorem hostRelock_unlocked {n : Fin 64} {s : State} (hlock : s.dev.get .HOST_P_STATUS_AM_LOCK n ≠ 1) : Completes (.hostRelock n) s fun e =>
    e.get .HOST_P_STATUS_LANES_LOCKED n = 0 ∧ (∀ h ∈ s.dev.hostLanes n, e.get .X_HOST_LANES h = 0) ∧ e.get .X_HOST_AM_CLK n = s.dev.clk ∧
      Dev.Only (fun f i => (i = n ∧ (f = .HOST_P_STATUS_LANES_LOCKED ∨ f = .X_HOST_AM_CLK)) ∨ (f = .X_HOST_LANES ∧ i ∈ s.dev.hostLanes n)) s.dev e := by
  refine .runAs (rfl : _ = execHostRelock n s) fun e he => ?_
  rw [Dev.amLost_idle (d := s.found) hlock] at he
  obtain ⟨h1, h2, h3, h4⟩ := s.found.seekMarkers_shows n he
  exact ⟨h1, h2, h3, h4.ofFound⟩

/-! ## Codewords (R243, R250) -/

/-- R199: what the outer decoder answers differs from the word in no more than 15 symbols. -/
theorem rsDecode_distance {w c : List Nat} (h : rsDecode w [] = some c) :
    ((List.range 544).filter fun i => c.getD i 0 != w.getD i 0).length ≤ 15 := by
  unfold rsDecode at h
  extract_lets s f gamma q omega deriv fixed wrong at h
  split at h
  · rw [← Option.some.inj h]
    simp only [bne_self_eq_false, List.filter_false, List.length_nil, Nat.zero_le]
  · split at h
    · next hok =>
      rw [← Option.some.inj h]
      have hle : 2 * wrong + f ≤ 30 := of_decide_eq_true (Bool.and_eq_true_iff.mp hok).1
      have hw : wrong = ((List.range 544).filter fun i => fixed.getD i 0 != w.getD i 0).length :=
        congrArg List.length (List.filter_congr fun i _ => by rw [List.contains_nil, Bool.not_false, Bool.and_true])
      omega
    · exact nomatch h

/-- What a codeword counts in. -/
def hostCounts : List F := [.HOST_P_CW_COUNT, .HOST_P_HIST_COUNT, .HOST_P_CW_CORR_COUNT, .HOST_P_SYM_CORR_COUNT, .HOST_P_CW_UNC_COUNT, .HOST_P_EVENTS_UNC,
  .X_HOST_UNC_TICK]

/-- A codeword that the decoder has corrected in `k` symbols is counted. -/
def Dev.hostDecoded (d : Dev) (n k : Nat) : Dev :=
  if k = 0 then d.addSat .HOST_P_HIST_COUNT (16 * n + k) 1
  else ((d.addSat .HOST_P_HIST_COUNT (16 * n + k) 1).addWrap .HOST_P_CW_CORR_COUNT n 1).addWrap .HOST_P_SYM_CORR_COUNT n k

/-- A codeword that is not correctable is counted, before its source is raised. -/
def Dev.hostUncounted (d : Dev) (n : Nat) : Dev := (d.addWrap .HOST_P_CW_UNC_COUNT n 1).set .HOST_P_EVENTS_UNC n 1
/-- A codeword that is not correctable. -/
def Dev.hostFailed (d : Dev) (n : Nat) : Dev :=
  if (d.hostUncounted n).on .X_HOST_UNC_TICK (tileOf n) then d.hostUncounted n
  else ((d.hostUncounted n).set .X_HOST_UNC_TICK (tileOf n) 1).raiseTile (tileOf n) 6

theorem Dev.countHostWord_some (d : Dev) (n : Nat) {w c : List Nat} (h : rsDecode w [] = some c) : d.countHostWord n w =
    (d.addWrap .HOST_P_CW_COUNT n 1).hostDecoded n ((List.range 544).filter fun i => c.getD i 0 != w.getD i 0).length := by
  unfold Dev.countHostWord
  rw [h]
  rfl

theorem Dev.countHostWord_none (d : Dev) (n : Nat) {w : List Nat} (h : rsDecode w [] = none) :
    d.countHostWord n w = (d.addWrap .HOST_P_CW_COUNT n 1).hostFailed n := by
  unfold Dev.countHostWord
  rw [h]
  rfl

theorem Dev.hostDecoded_shows (d : Dev) (n k : Nat) {e : Dev} (he : e = d.hostDecoded n k) :
    Dev.OnlyRaising (fun f _ => f ∈ hostCounts) d e ∧ e.get .HOST_P_CW_COUNT n = d.get .HOST_P_CW_COUNT n ∧
      e.get .HOST_P_HIST_COUNT (16 * n + k) = satAdd F.HOST_P_HIST_COUNT.width (d.get .HOST_P_HIST_COUNT (16 * n + k)) 1 ∧
      (k ≠ 0 → e.get .HOST_P_SYM_CORR_COUNT n = (d.get .HOST_P_SYM_CORR_COUNT n + k) % 2 ^ F.HOST_P_SYM_CORR_COUNT.width) := by
  unfold Dev.hostDecoded at he
  have h1 : Dev.OnlyRaising (fun f _ => f ∈ hostCounts) d (d.addSat .HOST_P_HIST_COUNT (16 * n + k) 1) := (Dev.OnlyRaising.refl _ d).put _ (by decide)
  have h2 : (d.addSat .HOST_P_HIST_COUNT (16 * n + k) 1).get .HOST_P_HIST_COUNT (16 * n + k) =
    satAdd F.HOST_P_HIST_COUNT.width (d.get .HOST_P_HIST_COUNT (16 * n + k)) 1 := Dev.get_set_same ..
  have h3 : ∀ f, f ≠ .HOST_P_HIST_COUNT → (d.addSat .HOST_P_HIST_COUNT (16 * n + k) 1).get f n = d.get f n := fun f hf => Dev.get_set_field _ _ _ _ hf
  generalize d.addSat .HOST_P_HIST_COUNT (16 * n + k) 1 = b at he h1 h2 h3
  by_cases h0 : k = 0
  · rw [he.trans (if_pos h0)]
    exact ⟨h1, h3 _ (by decide), h2, fun hn => (hn h0).elim⟩
  · rw [he.trans (if_neg h0)]
    refine ⟨(h1.put _ (by decide)).put _ (by decide), ?_, ?_, fun _ => ?_⟩
    · exact (Dev.get_set_field _ _ _ _ (by decide)).trans ((Dev.get_set_field _ _ _ _ (by decide)).trans (h3 _ (by decide)))
    · exact (Dev.get_set_field _ _ _ _ (by decide)).trans ((Dev.get_set_field _ _ _ _ (by decide)).trans h2)
    · refine (Dev.get_set_same ..).trans ?_
      rw [show (b.addWrap .HOST_P_CW_CORR_COUNT n 1).get .HOST_P_SYM_CORR_COUNT n = d.get .HOST_P_SYM_CORR_COUNT n from
        (Dev.get_set_field _ _ _ _ (by decide)).trans (h3 _ (by decide))]

theorem Dev.hostFailed_shows (d : Dev) (n : Nat) {e : Dev} (he : e = d.hostFailed n) :
    Dev.OnlyRaising (fun f _ => f ∈ hostCounts) d e ∧ e.get .HOST_P_CW_COUNT n = d.get .HOST_P_CW_COUNT n ∧ e.get .HOST_P_EVENTS_UNC n = 1 ∧
      e.get .HOST_P_CW_UNC_COUNT n = (d.get .HOST_P_CW_UNC_COUNT n + 1) % 2 ^ F.HOST_P_CW_UNC_COUNT.width ∧
      (d.get .X_HOST_UNC_TICK (tileOf n) ≠ 1 → Dev.Raised (640 + 16 * tileOf n + 6) d e) := by
  unfold Dev.hostFailed at he
  have h1 : Dev.OnlyRaising (fun f _ => f ∈ hostCounts) d (d.hostUncounted n) := ((Dev.OnlyRaising.refl _ d).put _ (by decide)).put _ (by decide)
  have hunc : (d.hostUncounted n).get .HOST_P_EVENTS_UNC n = 1 := Dev.get_set_same ..
  have hcount : (d.hostUncounted n).get .HOST_P_CW_UNC_COUNT n = (d.get .HOST_P_CW_UNC_COUNT n + 1) % 2 ^ F.HOST_P_CW_UNC_COUNT.width :=
    (Dev.get_set_field _ _ _ _ (by decide)).trans (Dev.get_set_same ..)
  have hget : ∀ f i, f ≠ .HOST_P_EVENTS_UNC → f ≠ .HOST_P_CW_UNC_COUNT → (d.hostUncounted n).get f i = d.get f i := fun f i h1 h2 =>
    (Dev.get_set_field _ _ _ _ h1).trans (Dev.get_set_field _ _ _ _ h2)
  have hpend : (d.hostUncounted n).pending = d.pending := rfl
  generalize d.hostUncounted n = a at he h1 hunc hcount hget hpend
  by_cases htick : a.on .X_HOST_UNC_TICK (tileOf n) = true
  · rw [he.trans (if_pos htick)]
    refine ⟨h1, hget _ _ (by decide) (by decide), hunc, hcount, fun hn => (hn ?_).elim⟩
    exact (hget _ _ (by decide) (by decide)).symm.trans (beq_iff_eq.mp htick)
  · rw [he.trans (if_neg htick)]
    have hget' : ∀ f i, f ∉ signalFields → f ≠ .X_HOST_UNC_TICK → ((a.set .X_HOST_UNC_TICK (tileOf n) 1).raiseTile (tileOf n) 6).get f i = a.get f i :=
      fun f i h1 h2 => (raise_get _ _ _ _ h1).trans (Dev.get_set_field _ _ _ _ h2)
    exact ⟨(h1.put _ (by decide)).raise _, (hget' _ _ (by decide) (by decide)).trans (hget _ _ (by decide) (by decide)),
      (hget' _ _ (by decide) (by decide)).trans hunc, (hget' _ _ (by decide) (by decide)).trans hcount,
      fun _ => .after hpend ((Dev.get_set_field _ _ _ _ (by decide)).trans (hget _ _ (by decide) (by decide))) (by omega)⟩

/-- R243: what a codeword of a locked port counts. -/
structure Dev.HostCounted (d : Dev) (n : Nat) (w : List Nat) (e : Dev) : Prop where
  only : Dev.OnlyRaising (fun f _ => f ∈ hostCounts) d e
  count : e.get .HOST_P_CW_COUNT n = (d.get .HOST_P_CW_COUNT n + 1) % 2 ^ F.HOST_P_CW_COUNT.width
  decoded : ∀ c, rsDecode w [] = some c → ∃ k ≤ 15, k = ((List.range 544).filter fun i => c.getD i 0 != w.getD i 0).length ∧
    e.get .HOST_P_HIST_COUNT (16 * n + k) = satAdd F.HOST_P_HIST_COUNT.width (d.get .HOST_P_HIST_COUNT (16 * n + k)) 1 ∧
    (k ≠ 0 → e.get .HOST_P_SYM_CORR_COUNT n = (d.get .HOST_P_SYM_CORR_COUNT n + k) % 2 ^ F.HOST_P_SYM_CORR_COUNT.width)
  failed : rsDecode w [] = none → e.get .HOST_P_EVENTS_UNC n = 1 ∧
    e.get .HOST_P_CW_UNC_COUNT n = (d.get .HOST_P_CW_UNC_COUNT n + 1) % 2 ^ F.HOST_P_CW_UNC_COUNT.width ∧
    (d.get .X_HOST_UNC_TICK (tileOf n) ≠ 1 → Dev.Raised (640 + 16 * tileOf n + 6) d e)

theorem Dev.countHostWord_counts (d : Dev) (n : Nat) (w : List Nat) {e : Dev} (he : e = d.countHostWord n w) : d.HostCounted n w e := by
  have hb : Dev.OnlyRaising (fun f _ => f ∈ hostCounts) d (d.addWrap .HOST_P_CW_COUNT n 1) := (Dev.OnlyRaising.refl _ d).put _ (by decide)
  have hcount : (d.addWrap .HOST_P_CW_COUNT n 1).get .HOST_P_CW_COUNT n = (d.get .HOST_P_CW_COUNT n + 1) % 2 ^ F.HOST_P_CW_COUNT.width :=
    Dev.get_set_same ..
  have hget : ∀ f i, f ≠ .HOST_P_CW_COUNT → (d.addWrap .HOST_P_CW_COUNT n 1).get f i = d.get f i := fun f i hf => Dev.get_set_field _ _ _ _ hf
  have hpend : (d.addWrap .HOST_P_CW_COUNT n 1).pending = d.pending := rfl
  cases h : rsDecode w [] with
  | some c =>
    rw [d.countHostWord_some n h] at he
    generalize d.addWrap .HOST_P_CW_COUNT n 1 = b at he hb hcount hget
    obtain ⟨h1, h2, h3, h4⟩ := b.hostDecoded_shows n _ he
    rw [hget _ _ (by decide)] at h3 h4
    exact ⟨hb.trans h1, h2.trans hcount, fun x hx => ⟨_, rsDecode_distance h, by rw [← Option.some.inj (h.symm.trans hx)], h3, h4⟩,
      fun hx => (nomatch h.symm.trans hx)⟩
  | none =>
    rw [d.countHostWord_none n h] at he
    generalize d.addWrap .HOST_P_CW_COUNT n 1 = b at he hb hcount hget hpend
    obtain ⟨h1, h2, h3, h4, h5⟩ := b.hostFailed_shows n he
    rw [hget _ _ (by decide)] at h4
    rw [hget _ _ (by decide)] at h5
    exact ⟨hb.trans h1, h2.trans hcount, fun x hx => (nomatch h.symm.trans hx),
      fun _ => ⟨h3, h4, fun ht => (h5 ht).before hpend (hget _ _ (by decide))⟩⟩

/-- The loop buffer of a port that has been replaced. -/
theorem nearOf_replaced (near : List RsWord) (n : Nat) {l : List RsWord} (hl : ∀ x ∈ l, x.lane = n) :
    ((near.filter fun x => x.lane != n) ++ l).filter (fun x => x.lane == n) = l := by
  rw [List.filter_append, List.filter_filter]
  have h1 : near.filter (fun x => (x.lane == n) && (x.lane != n)) = [] := List.filter_eq_nil_iff.mpr fun x _ => by
    rw [bne, Bool.and_not_self]
    exact Bool.false_ne_true
  rw [h1, List.nil_append]
  exact List.filter_eq_self.mpr fun x hx => beq_iff_eq.mpr (hl x hx)

theorem Dev.nearOf_lane (d : Dev) (n : Nat) : ∀ x ∈ d.nearOf n, x.lane = n := fun _ hx => beq_iff_eq.mp (List.mem_filter.mp hx).2

theorem Dev.nearPush_shows (d : Dev) {n : Nat} {w : RsWord} (hw : w.lane = n) {e : Dev} (he : e = d.nearPush n w) :
    ((d.nearOf n).length < 2 → e.nearOf n = d.nearOf n ++ [w]) ∧
      (∀ x l, d.nearOf n = x :: l → l.length = 1 → e.nearOf n = l ++ [w] ∧ .rsWord n x.syms ∈ e.out) ∧
      e = { d with near := e.near, out := e.out } := by
  have hlane : ∀ x ∈ d.nearOf n ++ [w], x.lane = n := fun x hx =>
    (List.mem_append.mp hx).elim (d.nearOf_lane n x) fun h => by rw [List.mem_singleton.mp h, hw]
  have hlen : (d.nearOf n ++ [w]).length = (d.nearOf n).length + 1 := by rw [List.length_append, List.length_singleton]
  unfold Dev.nearPush at he
  extract_lets l others at he
  by_cases h2 : l.length ≤ 2
  · replace he := he.trans (if_pos h2)
    refine ⟨fun _ => ?_, fun x l' hx hl' => ?_, ?_⟩
    · rw [he]
      exact nearOf_replaced _ _ hlane
    · have hlong : l.length = 3 := hlen.trans (by rw [hx, List.length_cons, hl'])
      omega
    · rw [he]
  · replace he := he.trans (if_neg h2)
    refine ⟨fun hshort => ?_, fun x l' hx _ => ⟨?_, ?_⟩, ?_⟩
    · have hshort' : l.length = (d.nearOf n).length + 1 := hlen
      omega
    · rw [he]
      refine (nearOf_replaced _ _ fun y hy => hlane y (List.mem_of_mem_drop hy)).trans ?_
      show (d.nearOf n ++ [w]).drop 1 = l' ++ [w]
      rw [hx]
      rfl
    · rw [he]
      have hhead : (l.head?.map fun x => x.syms).getD [] = x.syms := by
        show ((d.nearOf n ++ [w]).head?.map fun x => x.syms).getD [] = x.syms
        rw [hx]
        rfl
      rw [hhead]
      exact List.mem_append_right _ (List.mem_singleton.mpr rfl)
    · rw [he]
      rfl

/-- R250: a codeword goes to the line, and in near-end loopback to the host as well. -/
def Dev.toLine (d : Dev) (n : Nat) (x : RsWord) : Dev := if d.get .LTX_STATUS_SOURCE n = 0 then { d with lineIn := d.lineIn ++ [x] } else d
/-- Both ways of a codeword. -/
def Dev.goesOn (d : Dev) (n : Nat) (x : RsWord) : Dev :=
  if (d.toLine n x).get .HOST_P_STATUS_TX_SRC n = 4 then (d.toLine n x).nearPush n x else d.toLine n x

theorem Dev.toLine_shows (d : Dev) (n : Nat) (x : RsWord) {e : Dev} (he : e = d.toLine n x) :
    e.lineIn = (if d.get .LTX_STATUS_SOURCE n = 0 then d.lineIn ++ [x] else d.lineIn) ∧ e = { d with lineIn := e.lineIn } := by
  unfold Dev.toLine at he
  by_cases h : d.get .LTX_STATUS_SOURCE n = 0
  · rw [he.trans (if_pos h), if_pos h]
    exact ⟨rfl, rfl⟩
  · rw [he.trans (if_neg h), if_neg h]
    exact ⟨rfl, rfl⟩

theorem Dev.goesOn_shows (d : Dev) {n : Nat} {x : RsWord} (hx : x.lane = n) {e : Dev} (he : e = d.goesOn n x) :
    (∀ f i, e.get f i = d.get f i) ∧ e.pending = d.pending ∧
      e.lineIn = (if d.get .LTX_STATUS_SOURCE n = 0 then d.lineIn ++ [x] else d.lineIn) ∧
      (d.get .HOST_P_STATUS_TX_SRC n = 4 → ((d.nearOf n).length < 2 → e.nearOf n = d.nearOf n ++ [x]) ∧
        ∀ y l, d.nearOf n = y :: l → l.length = 1 → e.nearOf n = l ++ [x] ∧ .rsWord n y.syms ∈ e.out) := by
  obtain ⟨hline, hparts⟩ := d.toLine_shows n x rfl
  unfold Dev.goesOn at he
  generalize d.toLine n x = b at he hline hparts
  have hget : ∀ f i, b.get f i = d.get f i := fun f i => by
    rw [hparts]
    rfl
  have hpend : b.pending = d.pending := by rw [hparts]
  have hnear : b.nearOf n = d.nearOf n := by
    rw [hparts]
    rfl
  rw [hget] at he
  by_cases hsrc : d.get .HOST_P_STATUS_TX_SRC n = 4
  · obtain ⟨h1, h2, h3⟩ := b.nearPush_shows hx (he.trans (if_pos hsrc))
    rw [hnear] at h1 h2
    have hreg : e.reg = b.reg := by rw [h3]
    have hpend' : e.pending = b.pending := by rw [h3]
    have hline' : e.lineIn = b.lineIn := by rw [h3]
    exact ⟨fun f i => (congrArg (fun r => Store.get r ⟨f, i⟩) hreg).trans (hget f i), hpend'.trans hpend, hline'.trans hline, fun _ => ⟨h1, h2⟩⟩
  · rw [he.trans (if_neg hsrc)]
    exact ⟨hget, hpend, hline, fun h => (hsrc h).elim⟩

/-- The symbols of a codeword as the port has them. -/
def portWord (word : List (BitVec 10)) : List Nat := (List.range 544).map fun i => ((word[i]?).map fun x => x.toNat).getD 0

theorem Dev.hostWord_eq (d : Dev) (n : Nat) (w : List Nat) : d.hostWord n w = match rsDecode w [] with
    | some c => c
    | none => if d.lget .HOST_P_CTRL_UNC_MARK n = 1 then markWord (d.mode (engineOf n)) w else w := by
  unfold Dev.hostWord
  cases rsDecode w [] with
  | some c => rfl
  | none =>
    refine if_congr ?_ rfl rfl
    exact beq_iff_eq

/-- What becomes of a codeword that a locked port has received (R243, R250). -/
def Dev.receiveWord (n : Fin 64) (w : List Nat) (d : Dev) : Dev := (d.countHostWord n w).goesOn n ⟨n, 0, d.hostWord n w⟩

/-- The clauses of a received codeword. -/
structure Dev.WordGoes (n : Fin 64) (w : List Nat) (d e : Dev) : Prop where
  counted : e.get .HOST_P_CW_COUNT n = (d.get .HOST_P_CW_COUNT n + 1) % 2 ^ F.HOST_P_CW_COUNT.width
  decoded : ∀ c, rsDecode w [] = some c → ∃ k ≤ 15, k = ((List.range 544).filter fun i => c.getD i 0 != w.getD i 0).length ∧
    e.get .HOST_P_HIST_COUNT (16 * n + k) = satAdd F.HOST_P_HIST_COUNT.width (d.get .HOST_P_HIST_COUNT (16 * n + k)) 1 ∧
    (k ≠ 0 → e.get .HOST_P_SYM_CORR_COUNT n = (d.get .HOST_P_SYM_CORR_COUNT n + k) % 2 ^ F.HOST_P_SYM_CORR_COUNT.width)
  failed : rsDecode w [] = none → e.get .HOST_P_EVENTS_UNC n = 1 ∧
    e.get .HOST_P_CW_UNC_COUNT n = (d.get .HOST_P_CW_UNC_COUNT n + 1) % 2 ^ F.HOST_P_CW_UNC_COUNT.width ∧
    (d.get .X_HOST_UNC_TICK (tileOf n) ≠ 1 → Dev.Raised (640 + 16 * tileOf n + 6) d e)
  line : e.lineIn = (if d.get .LTX_STATUS_SOURCE n = 0 then d.lineIn ++ [(⟨n, 0, d.hostWord n w⟩ : RsWord)] else d.lineIn)
  near : d.get .HOST_P_STATUS_TX_SRC n = 4 → ((d.nearOf n).length < 2 → e.nearOf n = d.nearOf n ++ [⟨n, 0, d.hostWord n w⟩]) ∧
    ∀ x l, d.nearOf n = x :: l → l.length = 1 → e.nearOf n = l ++ [⟨n, 0, d.hostWord n w⟩] ∧ .rsWord n x.syms ∈ e.out

theorem Dev.receiveWord_goes (n : Fin 64) (w : List Nat) (d : Dev) : Dev.WordGoes n w d (d.receiveWord n w) := by
  have he : d.receiveWord n w = (d.countHostWord n w).goesOn n ⟨n, 0, d.hostWord n w⟩ := by rw [Dev.receiveWord]
  generalize d.receiveWord n w = e at he ⊢
  obtain ⟨honly, hcount, hsome, hnone⟩ := d.countHostWord_counts n w rfl
  generalize d.countHostWord n w = b at he honly hcount hsome hnone
  obtain ⟨hget, hpend, hline, hnear⟩ := b.goesOn_shows (n := n) (x := ⟨n, 0, d.hostWord n w⟩) rfl he
  have hnear0 : b.nearOf n = d.nearOf n := by
    rw [honly.1]
    rfl
  have hline0 : b.lineIn = d.lineIn := by rw [honly.1]
  rw [hnear0, honly.keeps _ _] at hnear
  rw [hline0, honly.keeps _ _] at hline
  refine ⟨(hget _ _).trans hcount, fun c hc => ?_, fun hc => ?_, hline, hnear⟩
  · obtain ⟨k, hk, hlen, h1, h2⟩ := hsome c hc
    exact ⟨k, hk, hlen, (hget _ _).trans h1, fun hk => (hget _ _).trans (h2 hk)⟩
  · obtain ⟨h1, h2, h3⟩ := hnone hc
    exact ⟨(hget _ _).trans h1, (hget _ _).trans h2, fun ht => (h3 ht).congr hpend (hget _ _)⟩

theorem execHostCodewordReceived_eq (n : Fin 64) (word : List (BitVec 10)) (s : State) :
    execHostCodewordReceived n word s = s.run fun d => if d.on .HOST_P_STATUS_AM_LOCK n then d.receiveWord n (portWord word) else d := by
  unfold execHostCodewordReceived Dev.receiveWord portWord Dev.goesOn Dev.toLine
  rfl

theorem hostCodewordReceived_goes {n : Fin 64} {word : List (BitVec 10)} {s : State} (hlock : s.dev.get .HOST_P_STATUS_AM_LOCK n = 1) :
    Completes (.hostCodewordReceived n word) s fun e => Dev.WordGoes n (portWord word) s.dev e := by
  have hrun : exec (.hostCodewordReceived n word) s = execHostCodewordReceived n word s := rfl
  rw [execHostCodewordReceived_eq] at hrun
  generalize portWord word = w at hrun ⊢
  refine .runIf hrun (beq_iff_eq.mpr hlock) fun e he => ?_
  obtain ⟨h1, h2, h3, h4, h5⟩ := s.found.receiveWord_goes n w
  rw [← he] at h1 h2 h3 h4 h5
  exact ⟨h1, h2, fun hc => ⟨(h3 hc).1, (h3 hc).2.1, fun ht => ((h3 hc).2.2 ht).ofFound⟩, h4, h5⟩

/-! ## The transmit source (R244 to R246) -/

/-- What times a port. -/
def timedPortBy : List F := [.HOST_P_STATUS_TX_SRC, .SPR_CFG_WIDTH, .LRX_STATUS_LOCKED]

theorem Dev.timeSource_congr {d e : Dev} (h : ∀ f ∈ timedPortBy, ∀ i, e.get f i = d.get f i) (n : Nat) : e.timeSource n = d.timeSource n := by
  have hlocked : ∀ m, e.on .LRX_STATUS_LOCKED m = d.on .LRX_STATUS_LOCKED m := fun m => congrArg (· == 1) (h _ (by decide) m)
  unfold Dev.timeSource Dev.groupOf Dev.lanesOfGroup Dev.width
  simp only [h _ (by decide : F.SPR_CFG_WIDTH ∈ timedPortBy), h _ (by decide : F.HOST_P_STATUS_TX_SRC ∈ timedPortBy), hlocked]

/-- What a port's timing writes. -/
def portTimeFields : List F := [.X_HOST_TFROM, .X_HOST_TCLK, .X_HOST_TSRC, .X_HOST_AFREQ]

theorem Dev.followTiming_shows (n : Nat) (d : Dev) {e : Dev} (he : e = Dev.followTiming n d) : e.get .X_HOST_TSRC n = d.timeSource n ∧
    Dev.OnlyAt portTimeFields n { d with free := e.free } e ∧ e.near = d.near := by
  unfold Dev.followTiming at he
  extract_lets src b at he
  have hsrc : src = d.timeSource n := rfl
  have hb : Dev.OnlyAt portTimeFields n d b := Dev.OnlyAt.write (Dev.OnlyAt.write (Dev.OnlyAt.write (.refl _ d) _ _) _ _) _ _
  have hshows : b.get .X_HOST_TSRC n = src := Dev.get_set_same ..
  clear_value b src
  by_cases hsame : src = d.get .X_HOST_TSRC n
  · rw [he.trans (if_pos hsame)]
    exact ⟨hsame.symm.trans hsrc, .refl _ d, rfl⟩
  · replace he := he.trans (if_neg hsame)
    have hbfree : b.free = d.free := by rw [hb.1]
    by_cases h9 : src = 9
    · rw [he.trans (if_pos h9)]
      refine ⟨(Dev.get_set_field _ _ _ _ (by decide)).trans (hshows.trans hsrc), ⟨?_, fun f i hp => ?_⟩, ?_⟩
      · rw [hb.1]
        rfl
      · exact ((Dev.OnlyAt.write hb .X_HOST_AFREQ (b.draw 21 % 2 ^ 16) (by decide)).2 f i hp)
      · rw [hb.1]
        rfl
    · rw [he.trans (if_neg h9)]
      refine ⟨hshows.trans hsrc, ?_, by rw [hb.1]⟩
      rw [hbfree]
      exact hb

theorem hostTxSourceSwitch_follows (n : Fin 64) (s : State) : Completes (.hostTxSourceSwitch n) s fun e =>
    e.get .HOST_P_STATUS_TX_SRC n = s.dev.hostSource n ∧ e.get .X_HOST_TSRC n = e.timeSource n ∧ (s.dev.hostSource n ≠ 4 → e.nearOf n = []) ∧
      Dev.OnlyAt [.HOST_P_STATUS_TX_SRC, .X_HOST_TFROM, .X_HOST_TCLK, .X_HOST_TSRC, .X_HOST_AFREQ] n { s.dev with near := e.near, free := e.free } e := by
  refine .runAs (rfl : _ = execHostTxSourceSwitch n s) fun e he => ?_
  extract_lets b c at he
  have hb : b.get .HOST_P_STATUS_TX_SRC n = s.dev.hostSource n := Dev.get_set_same ..
  have hbonly : Dev.OnlyAt [.HOST_P_STATUS_TX_SRC] n s.found b := Dev.OnlyAt.write (.refl _ _) _ _
  clear_value b
  have hc : (∀ f i, c.get f i = b.get f i) ∧ c = { b with near := c.near } ∧ (s.dev.hostSource n ≠ 4 → c.nearOf n = []) := by
    by_cases h4 : b.get .HOST_P_STATUS_TX_SRC n = 4
    · rw [show c = b from if_pos h4]
      exact ⟨fun _ _ => rfl, rfl, fun hn => (hn (hb.symm.trans h4)).elim⟩
    · rw [show c = { b with near := b.near.filter fun x => x.lane != n.val } from if_neg h4]
      refine ⟨fun _ _ => rfl, rfl, fun _ => ?_⟩
      refine (congrArg (List.filter fun x : RsWord => x.lane == n.val) (List.append_nil _).symm).trans (nearOf_replaced b.near n (l := []) ?_)
      exact fun _ hx => absurd hx List.not_mem_nil
  obtain ⟨hget, hparts, hnear⟩ := hc
  clear_value c
  obtain ⟨h1, honly, hsame⟩ := Dev.followTiming_shows n c he
  have hkeep : ∀ f ∈ timedPortBy, ∀ i, e.get f i = c.get f i := fun f hf i => honly.2 f i fun h =>
    absurd h.2 ((by decide : ∀ f ∈ timedPortBy, f ∉ portTimeFields) f hf)
  refine ⟨(hkeep _ (by decide) _).trans ((hget _ _).trans hb), h1.trans (Dev.timeSource_congr hkeep n).symm, fun hn => ?_, ?_, fun f i hp => ?_⟩
  · unfold Dev.nearOf at hnear ⊢
    rw [hsame]
    exact hnear hn
  · have hnear' : c.near = e.near := hsame.symm
    have hbparts := hbonly.1
    rw [hnear'] at hparts
    have h := honly.1
    rw [hparts, hbparts] at h
    exact h
  · refine (honly.2 f i fun h => hp ⟨h.1, ?_⟩).trans ((hget f i).trans (hbonly.2 f i fun h => hp ⟨h.1, ?_⟩))
    · exact List.mem_cons_of_mem _ h.2
    · rw [List.mem_singleton.mp h.2]
      exact List.mem_cons_self

theorem nearLoopRecentre_recentres {n : Fin 64} {s : State} (hsrc : s.dev.get .HOST_P_STATUS_TX_SRC n = 4) : Completes (.nearLoopRecentre n) s fun e =>
    e.get .HOST_P_EVENTS_LOOP_SLIP n = 1 ∧ (∀ x, s.dev.nearOf n = [x] → e.nearOf n = [x, x]) ∧
      (∀ x l, s.dev.nearOf n = x :: l → l ≠ [] → e.nearOf n = l) ∧ Dev.OnlyAt [.HOST_P_EVENTS_LOOP_SLIP] n { s.dev with near := e.near } e := by
  refine .runIf (rfl : _ = execNearLoopRecentre n s) hsrc fun e he => ?_
  have hlane := s.dev.nearOf_lane n
  replace he : e = { s.found with near := (s.dev.near.filter fun x : RsWord => x.lane != n.val) ++ (if (s.dev.nearOf n).length < 2 then (s.dev.nearOf n).take 1 ++ s.dev.nearOf n else (s.dev.nearOf n).drop 1) }.set .HOST_P_EVENTS_LOOP_SLIP n 1 := he
  have hnear : e.nearOf n = if (s.dev.nearOf n).length < 2 then (s.dev.nearOf n).take 1 ++ s.dev.nearOf n else (s.dev.nearOf n).drop 1 := by
    rw [he]
    refine nearOf_replaced _ _ fun x hx => ?_
    split at hx
    · exact (List.mem_append.mp hx).elim (fun h => hlane x (List.mem_of_mem_take h)) (hlane x)
    · exact hlane x (List.mem_of_mem_drop hx)
  refine ⟨?_, fun x hx => ?_, fun x l hx hl => ?_, ?_⟩
  · rw [he]
    exact Dev.get_set_same ..
  · rw [hnear, hx]
    rfl
  · have hlen : ¬ (x :: l).length < 2 := fun h => hl (List.length_eq_zero_iff.mp (by rw [List.length_cons] at h; omega))
    rw [hnear, hx, if_neg hlen]
    rfl
  · rw [he]
    exact ⟨rfl, fun f i hp => Dev.get_set_other _ _ _ _ _ _ fun hk => hp (by
      obtain ⟨rfl, rfl⟩ := Key.mk.inj hk
      exact ⟨rfl, List.mem_singleton.mpr rfl⟩)⟩

/-- What CLEAR_STATS of a port clears. -/
def hostPortCounts : List F := [.HOST_P_CW_COUNT, .HOST_P_CW_CORR_COUNT, .HOST_P_CW_UNC_COUNT, .HOST_P_SYM_CORR_COUNT]

theorem hostPClearStats_clears (n : Fin 64) (s : State) : Completes (.hostPClearStats n) s fun e =>
    (∀ f ∈ hostPortCounts, e.get f n = 0) ∧ (∀ k < 16, e.get .HOST_P_HIST_COUNT (16 * n + k) = 0) ∧
      Dev.Only (fun f i => (f ∈ hostPortCounts ∧ i = n) ∨ (f = .HOST_P_HIST_COUNT ∧ ∃ k < 16, i = 16 * n + k)) s.dev e := by
  refine .runAs (rfl : _ = execHostPClearStats n s) fun e he => ?_
  have hcounts : ∀ f ∈ hostPortCounts, (s.found.setAll hostPortCounts n 0).get f n = 0 := fun f hf => Dev.setAll_get_of_mem _ _ _ hf
  have honly : Dev.Only (fun f i => (f ∈ hostPortCounts ∧ i = n.val) ∨ (f = .HOST_P_HIST_COUNT ∧ ∃ k < 16, i = 16 * n.val + k)) s.found
    (s.found.setAll hostPortCounts n 0) := (Dev.Only.refl _ s.found).setAll 0 fun f hf => .inl ⟨hf, rfl⟩
  replace he : e = Dev.each 16 (fun k d => d.set .HOST_P_HIST_COUNT (16 * n + k) 0) (s.found.setAll hostPortCounts n 0) := he
  generalize s.found.setAll hostPortCounts n 0 = b at he hcounts honly
  refine ⟨fun f hf => ?_, fun k hk => ?_, ?_⟩
  · rw [he]
    exact (Dev.each_keeps (fun e => e.get f n) (fun _ _ _ => Dev.get_set_field _ _ _ _ ((by decide : ∀ f ∈ hostPortCounts, f ≠ .HOST_P_HIST_COUNT) f hf)) b).trans
      (hcounts f hf)
  · rw [he]
    exact Dev.each_set_shift .HOST_P_HIST_COUNT (16 * n) 16 (fun _ => 0) b hk
  · rw [he]
    exact Dev.Only.ofFound (honly.each fun k hk _ => (Dev.Only.refl _ _).set _ (.inr ⟨rfl, k, hk, rfl⟩))

/-- Settles O45: alignment lock, codewords and the transmit source of host ports. -/
theorem hostPorts : Obligations.HostPorts := by
  refine fun n s => ⟨fun a b skew hlanes hready hclk => ⟨fun ha hb hl hne => ?_, fun h hl => ?_, amLockGained_waits hlanes hready hclk,
    amLockGained_locks hlanes hready hclk, amLockGained_skewed hlanes hready hclk⟩,
    fun lanes skew hlock => ⟨amLockLost_loses lanes hlock, amLockLost_skewed lanes hlock⟩, hostRelock_locked, hostRelock_unlocked, ?_,
    hostTxSourceSwitch_follows n s, nearLoopRecentre_recentres, hostPClearStats_clears n s⟩
  · obtain ⟨h1, h2⟩ := Dev.lockLanes_two (d := s.found) a.toNat b.toNat hl hne
    refine ⟨h1, h2, (s.found.lockLanes_locked n a.toNat b.toNat).trans ?_⟩
    rw [show s.found.hostLanes n = [ha, hb] from hl]
    exact congrArg (· ||| _) (Nat.zero_or _)
  · refine (s.found.lockLanes_locked n a.toNat b.toNat).trans ?_
    rw [show s.found.hostLanes n = [h] from hl]
    exact (Nat.zero_or _).trans (Dev.lockLanes_one (d := s.found) a.toNat b.toNat hl)
  · intro word hlock w onward
    have hw : w = portWord word := Eq.symm (by unfold portWord; exact rfl)
    clear_value w
    have honward : onward = s.dev.hostWord n w := (s.dev.hostWord_eq n w).symm
    have h := hostCodewordReceived_goes (word := word) hlock
    rw [← hw] at h
    clear_value onward
    refine h.mono fun e h => ?_
    rw [honward]
    exact ⟨h.counted, h.decoded, h.failed, h.line, h.near⟩

end Sys2Proof.Machine
end

section
/-! PROOFS. Spread frames sent, stream locks, and RS codewords decoded (R157, R187 to R189, R196, R199 to R203, R212). -/

-- One theorem at a time: the whole text is compiled under a memory limit, which the stacks of waiting threads would fill.
set_option Elab.async false

namespace Sys2Proof.Machine

open Sys2Proof

/-! ## A frame sent (R157, R187, R188) -/

/-- As `Only`, but what lies in the loop buffers and waits for the encoders may change as well, and free values are drawn. -/
def Dev.Feeds (p : F → Nat → Prop) (d e : Dev) : Prop :=
  Dev.Only p { d with loops := e.loops, looped_ := e.looped_, lineIn := e.lineIn, free := e.free } e

section
variable {p : F → Nat → Prop}

theorem Dev.Feeds.refl (d : Dev) : Dev.Feeds p d d := ⟨rfl, fun _ _ _ => rfl⟩

theorem Dev.Feeds.trans {a b c : Dev} (h1 : Dev.Feeds p a b) (h2 : Dev.Feeds p b c) : Dev.Feeds p a c := by
  obtain ⟨e1, g1⟩ := h1
  obtain ⟨e2, g2⟩ := h2
  refine ⟨?_, fun f i hp => (g2 f i hp).trans (g1 f i hp)⟩
  rw [e1] at e2
  exact e2

theorem Dev.Feeds.ofOnly {d e : Dev} (h : Dev.Only p d e) : Dev.Feeds p d e := by
  refine ⟨?_, h.2⟩
  rw [h.1]

theorem Dev.Feeds.parts (d : Dev) (ls : List LoopFrame) (l2 : List LoopFrame) (ws : List RsWord) (k : Nat) :
    Dev.Feeds p d { d with loops := ls, looped_ := l2, lineIn := ws, free := k } := ⟨rfl, fun _ _ _ => rfl⟩

theorem Dev.Feeds.forList {α : Type} {g : α → Dev → Dev} {l : List α} {d e : Dev} (h : Dev.Feeds p d e)
    (hg : ∀ x ∈ l, ∀ a, Dev.Feeds p a (g x a)) : Dev.Feeds p d (Dev.forList l g e) :=
  List.foldlRecOn l _ h fun a ha x hx => ha.trans (hg x hx a)

end

/-- What a lane that gives a frame its share writes. -/
def shareFields : List F := [.LTX_FRAMES_COUNT, .X_LTX_IDLE, .X_LTX_POS]

theorem Dev.frameSent_shows (n : Nat) (d : Dev) {e : Dev} (he : e = Dev.frameSent n d) : Dev.Feeds (fun f i => i = n ∧ f ∈ shareFields) d e ∧
    e.get .LTX_FRAMES_COUNT n = (d.get .LTX_FRAMES_COUNT n + 1) % 2 ^ F.LTX_FRAMES_COUNT.width ∧ e.out = d.out := by
  unfold Dev.frameSent at he
  extract_lets k b at he
  have hb : Dev.OnlyAt shareFields n d b := Dev.OnlyAt.write (.refl _ d) _ _
  have hcount : b.get .LTX_FRAMES_COUNT n = (d.get .LTX_FRAMES_COUNT n + 1) % 2 ^ F.LTX_FRAMES_COUNT.width := Dev.get_set_same ..
  have hout : b.out = d.out := rfl
  clear_value b k
  by_cases hidle : b.sendsIdle n = true
  · rw [he.trans (if_pos hidle)]
    exact ⟨.ofOnly (Dev.OnlyAt.write hb .X_LTX_IDLE _), (Dev.get_set_field _ _ _ _ (by decide)).trans hcount, hout⟩
  · replace he := he.trans (if_neg hidle)
    by_cases hloop : b.get .LTX_STATUS_SOURCE n = 3
    · rw [he.trans (if_pos hloop)]
      exact ⟨.ofOnly hb, hcount, hout⟩
    · rw [he.trans (if_neg hloop)]
      unfold Dev.tookBits Dev.drawn
      extract_lets per size pos gone mine
      refine ⟨(Dev.Feeds.ofOnly hb).trans ⟨rfl, fun f i hf => ?_⟩, ?_, hout⟩
      · refine Dev.get_set_other _ _ _ _ _ _ fun hk => hf ?_
        obtain ⟨rfl, rfl⟩ := Key.mk.inj hk
        exact ⟨rfl, by decide⟩
      · exact (Dev.get_set_field _ _ _ _ (by decide)).trans hcount

theorem Dev.loopPop_feeds (d : Dev) (g : Nat) : Dev.Feeds (fun f m => m ∈ d.lanesOfGroup g ∧ f = .LTX_LOOP_STATUS_FILL_LEVEL) d (d.loopPop g) := by
  unfold Dev.loopPop
  split
  · exact .refl d
  · exact (Dev.Feeds.parts d _ _ d.lineIn d.free).trans (.ofOnly (Dev.showLoop_only _ g))

theorem Dev.loopPop_out (d : Dev) (g : Nat) : (d.loopPop g).out = d.out := by
  unfold Dev.loopPop
  split
  · rfl
  · refine (Dev.forList_keeps Dev.out (fun x _ e => ?_) _).trans rfl
    split <;> rfl

/-- What the transmit chain of a lane writes. -/
def chainWrites (n : Nat) (f : F) (i : Nat) : Prop := (f = .X_LTX_CLIPS ∧ i = n) ∨ (f = .X_LTX_TAIL ∧ ∃ j < 8, i = 8 * n + j)

theorem Dev.chainRun_length (d : Dev) (n : Nat) (ls : List Nat) (q : List Int) : (d.chainRun n ls q).1.length = ls.length := by
  unfold Dev.chainRun
  simp only [List.length_map, List.length_range]

theorem Dev.sendLevels_shows (d : Dev) (n : Nat) (ls : List Nat) (q : List Int) {e : Dev} (he : e = d.sendLevels n ls q) :
    Dev.Only (chainWrites n) d e ∧ (d.tx n = txSQUELCH → e.out = d.out) ∧
      ∃ os, os.length = ls.length ∧ (d.tx n ≠ txSQUELCH → e.out = d.out ++ [.lineFrame n (ls.map fun a => d.sourceLevel n a) os]) := by
  unfold Dev.sendLevels at he
  extract_lets ls' r s b c at he
  have hlen : r.1.length = ls.length := (d.chainRun_length n ls' q).trans (List.length_map ..)
  have hc : Dev.Only (chainWrites n) d c :=
    ((Dev.Only.refl _ d).set (e := d) (f := .X_LTX_CLIPS) _ (.inl ⟨rfl, rfl⟩)).each fun i hi a => (Dev.Only.refl _ a).set _ (.inr ⟨rfl, i, hi, rfl⟩)
  have hout : c.out = d.out := Dev.each_keeps Dev.out (g := fun i e => e.set .X_LTX_TAIL (8 * n + i) (s.getD i 0)) (fun _ _ _ => rfl) b
  clear_value c r
  by_cases h : d.tx n = txSQUELCH
  · rw [he.trans (if_pos h)]
    exact ⟨hc, fun _ => hout, r.1, hlen, fun hn => (hn h).elim⟩
  · rw [he.trans (if_neg h)]
    refine ⟨hc.send _, fun hs => (h hs).elim, r.1.map fun x => d.driverOut n x, (List.length_map ..).trans hlen, fun _ => ?_⟩
    rw [Dev.out_send, hout]

theorem levelsOf_length : ∀ l : List Bool, (levelsOf l).length = l.length / 2
  | [] => rfl
  | [_] => by simp [levelsOf]
  | a :: b :: l => by
    rw [levelsOf, List.length_cons, levelsOf_length l, List.length_cons, List.length_cons]
    omega

theorem width_mem {k : Nat} (h : k ≤ 3) : 2 ^ k ∈ [1, 2, 4, 8] := by
  interval_cases k <;> decide

theorem frameWords_lengths {w : Nat} (hw : w ∈ [1, 2, 4, 8]) (streams : List (List Bool)) :
    (frameWords w streams).length = 320 ∧ ∀ x ∈ frameWords w streams, x.length = 136 := by
  rw [frameWords_eq]
  refine ⟨(List.length_map ..).trans List.length_range, fun x hx => ?_⟩
  obtain ⟨m, -, rfl⟩ := List.mem_map.mp hx
  exact innerEncode_length (frameData_length hw ..)

theorem laneBits_length {w g : Nat} (hw : w ∈ [1, 2, 4, 8]) (hg : g < w) (streams : List (List Bool)) :
    (laneBits w g (frameWords w streams)).length = 43520 / w := by
  obtain ⟨hlen, hall⟩ := frameWords_lengths hw streams
  rw [laneBits_eq_flatten, length_pieces hw hlen hall g (le_refl _), piecesBelow]
  have hbelow : 320 / w * g < 320 := by
    rcases width_cases hw with rfl | rfl | rfl | rfl <;> omega
  rw [if_pos hbelow]
  rcases width_cases hw with rfl | rfl | rfl | rfl <;> rfl

/-- What lane `m` of a group sends for a frame. -/
def Dev.laneLevels (d : Dev) (w : Nat) (words : List (List Bool)) (m : Nat) : List Nat :=
  if d.get .LTX_STATUS_SOURCE m = 2 then d.patternRun m (d.segLen m) else levelsOf (laneBits w (d.local_ m) words)
/-- Lane `m` of a group sends its part of a frame. -/
def Dev.sendLane (w : Nat) (words : List (List Bool)) (courier : List (List Byte)) (m : Nat) (d : Dev) : Dev :=
  d.sendLevels m (d.laneLevels w words m) ((courier.getD (d.local_ m) []).map fun x => x.toInt)

/-- What a lane reads to send its part of a frame. -/
def laneReads : List F := [.LTX_STATUS_OUTPUT, .LTX_STATUS_SOURCE, .SPR_CFG_WIDTH]

theorem Dev.sendLane_keeps (w : Nat) (words : List (List Bool)) (courier : List (List Byte)) (m : Nat) (d : Dev) :
    ∀ f ∈ laneReads, ∀ i, (Dev.sendLane w words courier m d).get f i = d.get f i := fun f hf i => by
  obtain ⟨h, -⟩ := d.sendLevels_shows m (d.laneLevels w words m) _ (e := Dev.sendLane w words courier m d) rfl
  refine h.2 f i fun hp => ?_
  rcases hp with ⟨rfl, -⟩ | ⟨rfl, -⟩ <;> exact absurd hf (by decide)

/-- A line frame of lane `m` as lane `m` of `d` sends it. -/
def Dev.FrameOn (d : Dev) (w : Nat) (words : List (List Bool)) (m : Nat) (e : Dev) : Prop :=
  ∃ ls os, Out.lineFrame m ls os ∈ e.out ∧ ls.length = 21760 / w ∧ os.length = 21760 / w ∧
    (d.get .LTX_STATUS_SOURCE m ≠ 2 → ls = levelsOf (laneBits w (d.local_ m) words))

theorem Dev.laneLevels_length {d : Dev} {m : Nat} (hw : d.get .SPR_CFG_WIDTH (engineOf m) ≤ 3) (streams : List (List Bool)) :
    (d.laneLevels (d.width (engineOf m)) (frameWords (d.width (engineOf m)) streams) m).length = 21760 / d.width (engineOf m) := by
  unfold Dev.laneLevels
  split
  · unfold Dev.patternRun
    exact (List.length_map ..).trans List.length_range
  · have hlocal : d.local_ m < d.width (engineOf m) := Nat.mod_lt _ (Nat.two_pow_pos _)
    rw [levelsOf_length, laneBits_length (w := d.width (engineOf m)) (width_mem hw) hlocal]
    exact Nat.div_right_comm ..

theorem Dev.sendLane_sends {d e : Dev} {m w : Nat} {words : List (List Bool)} {courier : List (List Byte)}
    (hkeep : ∀ f ∈ laneReads, ∀ i, e.get f i = d.get f i) (hlen : (e.laneLevels w words m).length = 21760 / w) (htx : d.tx m ≠ txSQUELCH) :
    d.FrameOn w words m (Dev.sendLane w words courier m e) := by
  obtain ⟨-, -, os, hos, hout⟩ := e.sendLevels_shows m (e.laneLevels w words m) ((courier.getD (e.local_ m) []).map fun x => x.toInt) rfl
  have htx' : e.tx m ≠ txSQUELCH := fun h => htx ((hkeep _ (by decide) _).symm.trans h)
  refine ⟨(e.laneLevels w words m).map fun a => e.sourceLevel m a, os, ?_, (List.length_map ..).trans hlen, hos.trans hlen, fun hsrc => ?_⟩
  · rw [Dev.sendLane, hout htx']
    exact List.mem_append_right _ (List.mem_singleton.mpr rfl)
  · have hsrc' : e.get .LTX_STATUS_SOURCE m ≠ 2 := fun h => hsrc ((hkeep _ (by decide) _).symm.trans h)
    have hid : (fun a => e.sourceLevel m a) = id := funext fun a => if_neg hsrc'
    have hlocal : e.local_ m = d.local_ m := by rw [Dev.local_, Dev.local_, Dev.width, Dev.width, hkeep _ (by decide)]
    rw [hid, List.map_id, Dev.laneLevels, if_neg hsrc', hlocal]

theorem Dev.sendLane_silent {d e : Dev} {m k w : Nat} {words : List (List Bool)} {courier : List (List Byte)}
    (hkeep : ∀ f ∈ laneReads, ∀ i, e.get f i = d.get f i) (htx : d.tx m = txSQUELCH) (h : ∀ ls os, Out.lineFrame m ls os ∉ e.out) :
    ∀ ls os, Out.lineFrame m ls os ∉ (Dev.sendLane w words courier k e).out := by
  obtain ⟨-, hquiet, os, -, hout⟩ := e.sendLevels_shows k (e.laneLevels w words k) ((courier.getD (e.local_ k) []).map fun x => x.toInt) rfl
  by_cases hk : e.tx k = txSQUELCH
  · rw [Dev.sendLane, hquiet hk]
    exact h
  · rw [Dev.sendLane, hout hk]
    refine fun ls os' hm => (List.mem_append.mp hm).elim (h ls os') fun hm => hk ?_
    rw [← (Out.lineFrame.inj (List.mem_singleton.mp hm)).1]
    exact (hkeep _ (by decide) _).trans htx

theorem Dev.sendLane_grows (w : Nat) (words : List (List Bool)) (courier : List (List Byte)) (m : Nat) (d : Dev) :
    Dev.Sends d (Dev.sendLane w words courier m d) := by
  obtain ⟨-, hquiet, os, -, hout⟩ := d.sendLevels_shows m (d.laneLevels w words m) ((courier.getD (d.local_ m) []).map fun x => x.toInt) rfl
  unfold Dev.Sends
  by_cases hk : d.tx m = txSQUELCH
  · rw [Dev.sendLane, hquiet hk]
  · rw [Dev.sendLane, hout hk]
    exact List.prefix_append _ _

/-- What a frame sent may write. -/
def frameWrites (lanes : List Nat) (f : F) (i : Nat) : Prop :=
  (i ∈ lanes ∧ f ∈ [F.LTX_FRAMES_COUNT, .X_LTX_IDLE, .X_LTX_POS, .X_LTX_CLIPS, .LTX_LOOP_STATUS_FILL_LEVEL]) ∨
    (f = .X_LTX_TAIL ∧ ∃ m ∈ lanes, ∃ j < 8, i = 8 * m + j)

theorem frameWrites_reads {lanes : List Nat} : ∀ f ∈ laneReads, ∀ i, ¬ frameWrites lanes f i := fun f hf i hp => by
  rcases hp with ⟨-, h⟩ | ⟨rfl, -⟩
  · exact absurd h ((by decide : ∀ f ∈ laneReads, f ∉ [F.LTX_FRAMES_COUNT, .X_LTX_IDLE, .X_LTX_POS, .X_LTX_CLIPS, .LTX_LOOP_STATUS_FILL_LEVEL]) f hf)
  · exact absurd hf (by decide)

theorem Dev.sendLane_only {lanes : List Nat} {m : Nat} (hm : m ∈ lanes) (w : Nat) (words : List (List Bool)) (courier : List (List Byte)) (d : Dev) :
    Dev.Only (frameWrites lanes) d (Dev.sendLane w words courier m d) := by
  obtain ⟨h, -⟩ := d.sendLevels_shows m (d.laneLevels w words m) _ (e := Dev.sendLane w words courier m d) rfl
  refine h.mono fun f i hp => ?_
  rcases hp with ⟨rfl, rfl⟩ | ⟨rfl, j, hj, rfl⟩
  · exact .inl ⟨hm, by decide⟩
  · exact .inr ⟨rfl, m, hm, j, hj, rfl⟩

theorem Dev.engineOf_groupLanes {d : Dev} {n m : Nat} (hw : d.get .SPR_CFG_WIDTH (engineOf n) ≤ 3) (hm : m ∈ d.groupLanes n) : engineOf m = engineOf n := by
  obtain ⟨j, hj, rfl⟩ := List.mem_map.mp hm
  have hj := List.mem_range.mp hj
  have hcases := width_mem hw
  unfold Dev.groupBase
  unfold Dev.width at hj ⊢
  generalize 2 ^ d.get .SPR_CFG_WIDTH (engineOf n) = w at hj hcases ⊢
  unfold engineOf
  rcases width_cases hcases with rfl | rfl | rfl | rfl <;> omega

/-- The lanes of a frame give their shares. -/
theorem Dev.sharesSent (d : Dev) {lanes : List Nat} (hnd : lanes.Nodup) {e : Dev} (he : e = Dev.forList (lanes.filter fun m => d.get .LTX_STATUS_SOURCE m != 2) Dev.frameSent d) :
    Dev.Feeds (frameWrites lanes) d e ∧ e.out = d.out ∧ ∀ m ∈ lanes, e.get .LTX_FRAMES_COUNT m = if d.get .LTX_STATUS_SOURCE m = 2 then
      d.get .LTX_FRAMES_COUNT m else (d.get .LTX_FRAMES_COUNT m + 1) % 2 ^ F.LTX_FRAMES_COUNT.width := by
  have hsteady : ∀ m a, Dev.Steady [] [.LTX_FRAMES_COUNT] m [] a (Dev.frameSent m a) := fun m a => by
    obtain ⟨h, -, -⟩ := Dev.frameSent_shows m a rfl
    generalize Dev.frameSent m a = b at h
    have h1 : Dev.Steady [] [.LTX_FRAMES_COUNT] m [] a { a with loops := b.loops, looped_ := b.looped_, lineIn := b.lineIn, free := b.free } :=
      .same rfl rfl rfl rfl
    refine h1.trans (.ofOnly h (fun _ hf => absurd hf List.not_mem_nil) (fun _ _ i hi hp => hi hp.1) fun i hp => absurd hp.2 (by decide))
  refine ⟨?_, ?_, fun m hm => ?_⟩
  · rw [he]
    refine (Dev.Feeds.refl d).forList fun m hm a => ?_
    obtain ⟨h, -, -⟩ := Dev.frameSent_shows m a rfl
    refine ⟨h.1, fun f i hp => h.2 f i fun hq => hp (.inl ⟨?_, (by decide : ∀ f ∈ shareFields, f ∈ _) f hq.2⟩)⟩
    rw [hq.1]
    exact (List.mem_filter.mp hm).1
  · rw [he]
    exact Dev.forList_keeps Dev.out (fun m _ a => (Dev.frameSent_shows m a rfl).2.2) d
  · by_cases hsrc : d.get .LTX_STATUS_SOURCE m = 2
    · rw [he, if_pos hsrc]
      refine Dev.forList_keeps (fun a => a.get .LTX_FRAMES_COUNT m) (fun k hk a => ?_) d
      refine (Dev.frameSent_shows k a rfl).1.2 _ _ fun hq => ?_
      have hk2 := (List.mem_filter.mp hk).2
      rw [← hq.1, hsrc] at hk2
      exact absurd hk2 (by decide)
    · have hmem : m ∈ lanes.filter fun m => d.get .LTX_STATUS_SOURCE m != 2 := List.mem_filter.mpr ⟨hm, bne_iff_ne.mpr hsrc⟩
      obtain ⟨b, ⟨-, hbefore⟩, -, hafter⟩ := Dev.forList_visits hsteady (hnd.filter _) hmem d
      rw [he, if_neg hsrc, hafter _ List.mem_cons_self, (Dev.frameSent_shows m b rfl).2.1, hbefore _ List.mem_cons_self]

theorem transmitFrame_sends {n : Fin 64} (courier : List (List Byte)) {s : State} (hframing : s.dev.framing (engineOf n) = true)
    (hw3 : s.dev.get .SPR_CFG_WIDTH (engineOf n) ≤ 3) : Completes (.transmitFrame n courier) s fun e =>
      (∀ m ∈ s.dev.groupLanes n, e.get .LTX_FRAMES_COUNT m = if s.dev.get .LTX_STATUS_SOURCE m = 2 then
        s.dev.get .LTX_FRAMES_COUNT m else (s.dev.get .LTX_FRAMES_COUNT m + 1) % 2 ^ F.LTX_FRAMES_COUNT.width) ∧
      (∀ m ∈ s.dev.groupLanes n, s.dev.tx m ≠ txSQUELCH → s.dev.FrameOn (s.dev.width (engineOf n))
        (frameWords (s.dev.width (engineOf n)) ((s.dev.groupLanes n).map fun k => s.dev.streamShare k)) m e) ∧
      (∀ m ∈ s.dev.groupLanes n, s.dev.tx m = txSQUELCH → ∀ ls os, Out.lineFrame m ls os ∉ e.out) ∧ Dev.Feeds (frameWrites (s.dev.groupLanes n)) s.dev e := by
  refine .runIf (rfl : _ = execTransmitFrame n courier s) hframing fun e he => ?_
  extract_lets g w lanes words looping b c at he
  have hwords : words = frameWords (s.dev.width (engineOf n)) ((s.dev.groupLanes n).map fun k => s.dev.streamShare k) := rfl
  obtain ⟨hb, hbout, hbcount⟩ := s.found.sharesSent (s.found.groupLanes_nodup n) (e := b) rfl
  have hwidth : ∀ {a : Dev}, Dev.Feeds (frameWrites (s.dev.groupLanes n)) s.found a → ∀ f ∈ laneReads, ∀ i, a.get f i = s.dev.get f i :=
    fun h f hf i => h.2 f i (frameWrites_reads f hf i)
  have hlanes : b.lanesOfGroup g = s.dev.groupLanes n := by
    refine Eq.trans ?_ (Dev.lanesOfGroup_groupOf hw3)
    have hread := hwidth hb .SPR_CFG_WIDTH (by decide)
    unfold Dev.lanesOfGroup Dev.width
    rw [hread]
    rfl
  have hc : Dev.Feeds (frameWrites (s.dev.groupLanes n)) s.found c ∧ c.out = b.out ∧ ∀ m, c.get .LTX_FRAMES_COUNT m = b.get .LTX_FRAMES_COUNT m := by
    by_cases hl : looping = true
    · rw [show c = b.loopPop g from if_pos hl]
      have hpop := b.loopPop_feeds g
      refine ⟨hb.trans ⟨hpop.1, fun f i hp => hpop.2 f i fun hq => hp (.inl ?_)⟩, b.loopPop_out g, fun m => hpop.2 _ _ fun hq => absurd hq.2 (by decide)⟩
      rw [hq.2]
      exact ⟨hlanes ▸ hq.1, by decide⟩
    · rw [show c = b from if_neg hl]
      exact ⟨hb, rfl, fun _ => rfl⟩
  obtain ⟨hcf, hcout, hccount⟩ := hc
  have hlanes' : c.groupLanes n = s.dev.groupLanes n := by
    have hread := hwidth hcf .SPR_CFG_WIDTH (by decide)
    unfold Dev.groupLanes Dev.groupBase Dev.width
    rw [hread]
  replace he : e = Dev.forList (c.groupLanes n) (Dev.sendLane w words courier) c := he
  rw [hlanes'] at he
  have hempty : c.out = [] := hcout.trans hbout
  have hread := hwidth hcf
  clear_value words b c
  have hinv : ∀ y e, (∀ f ∈ laneReads, ∀ i, e.get f i = s.dev.get f i) → ∀ f ∈ laneReads, ∀ i, (Dev.sendLane w words courier y e).get f i = s.dev.get f i :=
    fun y e h f hf i => (Dev.sendLane_keeps w words courier y e f hf i).trans (h f hf i)
  refine ⟨fun m hm => ?_, fun m hm htx => ?_, fun m _ htx => ?_, ?_⟩
  · rw [he]
    refine (Dev.forList_keeps (fun a => a.get .LTX_FRAMES_COUNT m) (fun k _ a => ?_) c).trans ((hccount m).trans (hbcount m hm))
    obtain ⟨h, -⟩ := a.sendLevels_shows k (a.laneLevels w words k) _ (e := Dev.sendLane w words courier k a) rfl
    refine h.2 _ _ fun hp => ?_
    rcases hp with ⟨hf, -⟩ | ⟨hf, -⟩ <;> exact absurd hf (by decide)
  · rw [he, ← hwords]
    refine Dev.forList_reaches_of (I := fun e => ∀ f ∈ laneReads, ∀ i, e.get f i = s.dev.get f i) hm hread hinv (fun a ha => ?_) fun k a _ h => ?_
    · refine Dev.sendLane_sends ha ?_ htx
      have heng : engineOf m = engineOf n := Dev.engineOf_groupLanes hw3 hm
      have hwm : a.width (engineOf m) = w := by
        unfold Dev.width
        rw [ha _ (by decide), heng]
        rfl
      have h := a.laneLevels_length (m := m) (by rw [ha _ (by decide), heng]; exact hw3) ((s.dev.groupLanes n).map fun k => s.dev.streamShare k)
      rw [hwm] at h
      rw [hwords]
      exact h
    · obtain ⟨ls, os, hmem, h⟩ := h
      exact ⟨ls, os, (Dev.sendLane_grows w words courier k a).subset hmem, h⟩
  · rw [he]
    refine (List.foldlRecOn (s.dev.groupLanes n) (fun a k => Dev.sendLane w words courier k a) (b := c)
      (motive := fun a => (∀ f ∈ laneReads, ∀ i, a.get f i = s.dev.get f i) ∧ ∀ ls os, Out.lineFrame m ls os ∉ a.out) ⟨hread, ?_⟩ fun a ha k _ => ?_).2
    · rw [hempty]
      exact fun _ _ => List.not_mem_nil
    · exact ⟨hinv k a ha.1, Dev.sendLane_silent ha.1 htx ha.2⟩
  · rw [he]
    have h := hcf.forList fun m hm a => Dev.Feeds.ofOnly (Dev.sendLane_only hm w words courier a)
    exact (Dev.Feeds.ofOnly (Dev.Only.out s.dev [])).trans h

/-! ## Stream locks, relocks and counters (R196, R212) -/

theorem Dev.finishFrames_none {d : Dev} {g : Nat} (h : ∀ x ∈ d.rxFrames, x.group ≠ g) : ∀ k, Dev.finishFrames g k d = d
  | 0 => rfl
  | k + 1 => by
    have hnone : d.frameOf g (d.get .X_SPR_FIN g) = none := List.find?_eq_none.mpr fun x hx hg =>
      h x hx (beq_iff_eq.mp (Bool.and_eq_true_iff.mp hg).1)
    unfold Dev.finishFrames
    dsimp only
    rw [hnone]

theorem streamLock_locks {n : Fin 64} {s : State} (phase : BitVec 16) (hsg : s.dev.sg (s.dev.groupOf n) = sgLOCKED) (hno : s.dev.streamLocked n = false) :
    Completes (.streamLock n phase) s fun e =>
      e.get .SPR_G_STATUS_STREAM_LOCK (s.dev.groupOf n) = s.dev.get .SPR_G_STATUS_STREAM_LOCK (s.dev.groupOf n) ||| 2 ^ s.dev.local_ n ∧
      e.get .X_SPR_PHASE n = s.dev.get .X_SPR_NO (s.dev.groupOf n) * (40960 / s.dev.width (engineOf n)) + phase.toNat ∧
      e.get .X_SPR_CW n = 0 ∧ Dev.Only (fun f i => (f = .SPR_G_STATUS_STREAM_LOCK ∧ i = s.dev.groupOf n) ∨
        ((f = .X_SPR_PHASE ∨ f = .X_SPR_CW) ∧ i = n)) s.dev e := by
  have hcond : s.found.sg (s.found.groupOf n) = sgLOCKED ∧ (!s.found.streamLocked n) = true := ⟨hsg, by rw [show s.found.streamLocked n = false from hno]; rfl⟩
  refine .runIf (rfl : _ = execStreamLock n phase s) hcond fun e he => ?_
  extract_lets b at he
  let g := s.dev.groupOf n
  have hb : b.get .SPR_G_STATUS_STREAM_LOCK g = s.dev.get .SPR_G_STATUS_STREAM_LOCK g ||| 2 ^ s.dev.local_ n := Dev.get_set_same ..
  have hbonly : Dev.Only (fun f i => (f = .SPR_G_STATUS_STREAM_LOCK ∧ i = g) ∨ ((f = .X_SPR_PHASE ∨ f = .X_SPR_CW) ∧ i = n.val)) s.found b :=
    (Dev.Only.refl _ _).set _ (.inl ⟨rfl, rfl⟩)
  have hno : b.get .X_SPR_NO (s.found.groupOf n) = s.dev.get .X_SPR_NO g := Dev.get_set_field _ _ _ _ (by decide)
  have hwidth : b.width (engineOf n) = s.dev.width (engineOf n) := congrArg (2 ^ ·) (Dev.get_set_field _ _ _ _ (by decide))
  clear_value b
  rw [hno, hwidth] at he
  rw [he]
  refine ⟨?_, ?_, Dev.get_set_same .., Dev.Only.ofFound ((hbonly.set _ (.inr ⟨.inl rfl, rfl⟩)).set _ (.inr ⟨.inr rfl, rfl⟩))⟩
  · rw [Dev.get_set_field _ _ _ _ (by decide), Dev.get_set_field _ _ _ _ (by decide)]
    exact hb
  · rw [Dev.get_set_field _ _ _ _ (by decide)]
    exact Dev.get_set_same ..

theorem streamLost_loses {n : Fin 64} {s : State} (hlock : s.dev.streamLocked n = true) (hidle : ∀ x ∈ s.dev.rxFrames, x.group ≠ s.dev.groupOf n) :
    Completes (.streamLost n) s fun e => e.streamLocked n = false ∧ e.get .SPR_G_EVENTS_STREAM_LOST (s.dev.groupOf n) = 1 ∧
      e.rsDone = (s.dev.rsDone.filter fun x => x.lane != n.val) ∧
      Dev.OnlyAt [.SPR_G_STATUS_STREAM_LOCK, .SPR_G_EVENTS_STREAM_LOST] (s.dev.groupOf n) { s.dev with rsDone := e.rsDone } e := by
  refine .runIf (rfl : _ = execStreamLost n s) hlock fun e he => ?_
  extract_lets b c at he
  let g := s.dev.groupOf n
  have hb : b.get .SPR_G_STATUS_STREAM_LOCK g = clearBit (s.dev.get .SPR_G_STATUS_STREAM_LOCK g) (s.dev.local_ n) :=
    (Dev.get_set_field _ _ _ _ (by decide)).trans (Dev.get_set_same ..)
  have hevent : b.get .SPR_G_EVENTS_STREAM_LOST g = 1 := Dev.get_set_same ..
  have hbonly : Dev.OnlyAt [.SPR_G_STATUS_STREAM_LOCK, .SPR_G_EVENTS_STREAM_LOST] g s.found b := Dev.OnlyAt.write (Dev.OnlyAt.write (.refl _ _) _ _) _ _
  have hwidth : c.width (engineOf n) = s.dev.width (engineOf n) := congrArg (2 ^ ·) (hbonly.2 _ _ fun h => absurd h.2 (by decide))
  have hframes : c.rxFrames = s.dev.rxFrames := by
    show b.rxFrames = _
    rw [hbonly.1]
    rfl
  have hdone : b.rsDone = s.dev.rsDone := by
    rw [hbonly.1]
    rfl
  rw [Dev.finishFrames_none (by rw [hframes]; exact hidle)] at he
  rw [he]
  refine ⟨?_, hevent, congrArg (List.filter _) hdone, ?_⟩
  · have hlock' : c.get .SPR_G_STATUS_STREAM_LOCK g = _ := hb
    unfold Dev.streamLocked Dev.groupOf Dev.local_
    rw [hwidth]
    refine (congrArg (fun v => bitAt v _) hb).trans ?_
    rw [bitAt_clearBit_iff]
    exact Bool.and_eq_false_iff.mpr (.inr (decide_eq_false fun h => h rfl))
  · refine ⟨?_, hbonly.2⟩
    show { b with rsDone := _ } = _
    rw [hbonly.1]
    rfl

/-- What one round of a loop does to a part of the device that the other rounds leave alone. -/
theorem Dev.each_visits {β : Type} (π : Dev → β) {k j : Nat} {g : Nat → Dev → Dev} (hj : j < k) (hother : ∀ i ≠ j, ∀ e, π (g i e) = π e) (d : Dev) :
    ∃ b, π b = π d ∧ π (Dev.each k g d) = π (g j b) := by
  obtain ⟨l1, l2, hl⟩ := List.append_of_mem (List.mem_range.mpr hj)
  have hnd : j ∉ l1 ++ l2 := by
    have h := List.nodup_range (n := k)
    rw [hl] at h
    exact (List.nodup_cons.mp (List.perm_middle.nodup_iff.mp h)).1
  rw [List.mem_append, not_or] at hnd
  refine ⟨Dev.forList l1 g d, Dev.forList_keeps π (fun i hi => hother i fun h => hnd.1 (h ▸ hi)) d, ?_⟩
  have hsplit : Dev.each k g d = Dev.forList l2 g (g j (Dev.forList l1 g d)) := by
    unfold Dev.each Dev.forList
    rw [hl, List.foldl_append]
    rfl
  rw [hsplit]
  exact Dev.forList_keeps π (fun i hi => hother i fun h => hnd.2 (h ▸ hi)) _

/-- What a group's relock writes. -/
def relockFields : List F := [.X_SPR_RELOCK, .X_SPR_RELOCK_CLK, .X_SPR_RELOCK_LAST]

/-- A group is asked to relock. -/
def Dev.askRelock (g : Nat) (d : Dev) : Dev := d.askWrite .X_SPR_RELOCK .X_SPR_RELOCK_CLK .X_SPR_RELOCK_LAST g

theorem Dev.askRelock_shows (d : Dev) (g : Nat) {e : Dev} (he : e = Dev.askRelock g d) : e.get .X_SPR_RELOCK g = 1 ∧
    e.get .X_SPR_RELOCK_LAST g = d.clk ∧
    e.get .X_SPR_RELOCK_CLK g = (if d.get .X_SPR_RELOCK g = 1 then d.get .X_SPR_RELOCK_CLK g else d.clk) ∧ Dev.OnlyAt relockFields g d e := by
  unfold Dev.askRelock Dev.askWrite at he
  extract_lets b at he
  have hlast : e.get .X_SPR_RELOCK_LAST g = b.clk := by
    rw [he]
    exact Dev.get_set_same ..
  have hget : ∀ f i, f ≠ .X_SPR_RELOCK_LAST → e.get f i = b.get f i := fun f i hf => by
    rw [he]
    exact Dev.get_set_field _ _ _ _ hf
  have hclk : b.clk = d.clk := by
    rw [show b = if d.on .X_SPR_RELOCK g then d else (d.set .X_SPR_RELOCK g 1).set .X_SPR_RELOCK_CLK g d.clk from rfl]
    split <;> rfl
  rw [hget .X_SPR_RELOCK g (by decide), hget .X_SPR_RELOCK_CLK g (by decide), hlast, hclk]
  by_cases h : d.on .X_SPR_RELOCK g = true
  · have hb : b = d := if_pos h
    have h1 : d.get .X_SPR_RELOCK g = 1 := beq_iff_eq.mp h
    rw [he, hb, if_pos h1]
    exact ⟨h1, rfl, rfl, Dev.OnlyAt.write (.refl _ d) _ _⟩
  · have hb : b = (d.set .X_SPR_RELOCK g 1).set .X_SPR_RELOCK_CLK g d.clk := if_neg h
    have h1 : d.get .X_SPR_RELOCK g ≠ 1 := fun h1 => h (beq_iff_eq.mpr h1)
    rw [he, hb, if_neg h1]
    exact ⟨(Dev.get_set_field _ _ _ _ (by decide)).trans (Dev.get_set_same ..), rfl, Dev.get_set_same ..,
      Dev.OnlyAt.write (Dev.OnlyAt.write (Dev.OnlyAt.write (.refl _ d) _ _) _ _) _ _⟩

theorem spreadRelock_asks (e : Fin 8) (groups : Byte) (s : State) : Completes (.spreadRelock e groups) s fun d =>
    (∀ q < 8, bitAt groups.toNat q = true → s.dev.groupExists (8 * e + q) = true →
      d.get .X_SPR_RELOCK (8 * e + q) = 1 ∧ d.get .X_SPR_RELOCK_LAST (8 * e + q) = s.dev.clk ∧
      d.get .X_SPR_RELOCK_CLK (8 * e + q) = if s.dev.get .X_SPR_RELOCK (8 * e + q) = 1 then s.dev.get .X_SPR_RELOCK_CLK (8 * e + q) else s.dev.clk) ∧
    Dev.Only (fun f g => (f = .X_SPR_RELOCK ∨ f = .X_SPR_RELOCK_CLK ∨ f = .X_SPR_RELOCK_LAST) ∧ ∃ q < 8, g = 8 * e + q ∧
      bitAt groups.toNat q = true ∧ s.dev.groupExists g = true) s.dev d := by
  refine .runAs (rfl : _ = execSpreadRelock e groups s) fun d hd => ?_
  let round : Nat → Dev → Dev := fun q d => if bitAt groups.toNat q && d.groupExists (8 * e + q) then Dev.askRelock (8 * e + q) d else d
  replace hd : d = Dev.each 8 round s.found := hd
  have hround : ∀ q a, Dev.OnlyAt relockFields (8 * e + q) a (round q a) ∧ (round q a).clk = a.clk := fun q a => by
    show Dev.OnlyAt _ _ a (if _ then _ else _) ∧ Dev.clk (if _ then _ else _) = _
    split
    · obtain ⟨-, -, -, h⟩ := a.askRelock_shows (8 * e + q) rfl
      exact ⟨h, by rw [h.1]⟩
    · exact ⟨.refl _ a, rfl⟩
  have hexists : ∀ q a g, (round q a).groupExists g = a.groupExists g := fun q a g => by
    have hkeep : ∀ f i, f ∉ relockFields → (round q a).get f i = a.get f i := fun f i hf => (hround q a).1.2 f i fun h => hf h.2
    unfold Dev.groupExists Dev.used Dev.mode Dev.width
    rw [hkeep _ _ (by decide), hkeep _ _ (by decide)]
  refine ⟨fun q hq hbit hex => ?_, ?_⟩
  · obtain ⟨b, hb, hd'⟩ := Dev.each_visits (fun a : Dev => (a.get .X_SPR_RELOCK (8 * e + q), a.get .X_SPR_RELOCK_CLK (8 * e + q),
      a.get .X_SPR_RELOCK_LAST (8 * e + q), a.clk, a.groupExists (8 * e + q))) hq (g := round) (fun i hi a => by
        have hkeep : ∀ f, (round i a).get f (8 * e + q) = a.get f (8 * e + q) := fun f => (hround i a).1.2 f _ fun h => hi (by omega)
        rw [hkeep, hkeep, hkeep, (hround i a).2, hexists]) s.found
    rw [← hd] at hd'
    simp only [Prod.mk.injEq] at hb hd'
    obtain ⟨b1, b2, -, b4, b5⟩ := hb
    obtain ⟨d1, d2, d3, -, -⟩ := hd'
    have hcond : (bitAt groups.toNat q && b.groupExists (8 * e + q)) = true := Bool.and_eq_true_iff.mpr ⟨hbit, b5.trans hex⟩
    have hq' : round q b = Dev.askRelock (8 * e + q) b := if_pos hcond
    obtain ⟨h1, h2, h3, -⟩ := b.askRelock_shows (8 * e + q) hq'
    rw [b1, b2, b4] at h3
    exact ⟨d1.trans h1, d3.trans (h2.trans b4), d2.trans h3⟩
  · have h := List.foldlRecOn (List.range 8) (fun a q => round q a) (b := s.found)
      (motive := fun a => Dev.Only (fun f g => (f = .X_SPR_RELOCK ∨ f = .X_SPR_RELOCK_CLK ∨ f = .X_SPR_RELOCK_LAST) ∧ ∃ q < 8, g = 8 * e + q ∧
        bitAt groups.toNat q = true ∧ s.dev.groupExists g = true) s.found a ∧ ∀ g, a.groupExists g = s.dev.groupExists g)
      ⟨.refl _ _, fun _ => rfl⟩ fun a ha q hq => ⟨?_, fun g => (hexists q a g).trans (ha.2 g)⟩
    · rw [hd]
      exact Dev.Only.ofFound h.1
    · by_cases hcond : (bitAt groups.toNat q && a.groupExists (8 * e + q)) = true
      · obtain ⟨-, -, -, h⟩ := a.askRelock_shows (8 * e + q) (if_pos hcond : round q a = _)
        obtain ⟨hbit, hex⟩ := Bool.and_eq_true_iff.mp hcond
        refine ha.1.trans (h.mono fun f i hp => ?_)
        obtain ⟨rfl, hf⟩ := hp
        have hf' : f = .X_SPR_RELOCK ∨ f = .X_SPR_RELOCK_CLK ∨ f = .X_SPR_RELOCK_LAST := by simpa [relockFields] using hf
        exact ⟨hf', q, List.mem_range.mp hq, rfl, hbit, (ha.2 _).symm.trans hex⟩
      · rw [show round q a = a from if_neg hcond]
        exact ha.1

/-- CLEAR_STATS of one group. -/
def Dev.clearGroup (g : Nat) (d : Dev) : Dev :=
  Dev.each 6 (fun k d => d.set .SPR_G_PASS_HIST_COUNT (6 * g + k) 0) ((d.setAll groupCounters g 0).setAll laneCounters g 0)

theorem Dev.set_keeps_zero {d : Dev} {f h : F} {i j : Nat} (hz : d.get h j = 0) : (d.set f i 0).get h j = 0 := by
  by_cases hk : (⟨h, j⟩ : Key) = ⟨f, i⟩
  · obtain ⟨rfl, rfl⟩ := Key.mk.inj hk
    exact Dev.get_set_same ..
  · exact (Dev.get_set_other _ _ _ _ _ _ hk).trans hz

theorem Dev.setAll_keeps_zero {d : Dev} {fs : List F} {h : F} {i j : Nat} (hz : d.get h j = 0) : (d.setAll fs i 0).get h j = 0 :=
  List.foldlRecOn fs _ (motive := fun e : Dev => e.get h j = 0) hz fun _ he _ _ => Dev.set_keeps_zero he

theorem Dev.each_keeps_zero {d : Dev} {f h : F} {b k j : Nat} (hz : d.get h j = 0) : (Dev.each k (fun i d => d.set f (b + i) 0) d).get h j = 0 :=
  List.foldlRecOn (List.range k) (fun d i => d.set f (b + i) 0) (motive := fun e : Dev => e.get h j = 0) hz fun _ he _ _ => Dev.set_keeps_zero he

theorem Dev.clearGroup_keeps_zero {d : Dev} {g : Nat} {h : F} {j : Nat} (hz : d.get h j = 0) : (Dev.clearGroup g d).get h j = 0 := by
  have h1 := Dev.setAll_keeps_zero (fs := laneCounters) (i := g) (Dev.setAll_keeps_zero (fs := groupCounters) (i := g) hz)
  unfold Dev.clearGroup
  generalize (d.setAll groupCounters g 0).setAll laneCounters g 0 = b at h1 ⊢
  exact Dev.each_keeps_zero h1

theorem Dev.clearGroup_clears (d : Dev) (g : Nat) : (∀ f ∈ groupCounters ++ laneCounters, (Dev.clearGroup g d).get f g = 0) ∧
    (∀ k < 6, (Dev.clearGroup g d).get .SPR_G_PASS_HIST_COUNT (6 * g + k) = 0) ∧
    Dev.Only (fun f i => (f ∈ groupCounters ++ laneCounters ∧ i = g) ∨ (f = .SPR_G_PASS_HIST_COUNT ∧ ∃ k < 6, i = 6 * g + k)) d (Dev.clearGroup g d) := by
  have hzero : ∀ f ∈ groupCounters ++ laneCounters, ((d.setAll groupCounters g 0).setAll laneCounters g 0).get f g = 0 := fun f hf => by
    rcases List.mem_append.mp hf with h | h
    · exact Dev.setAll_keeps_zero (Dev.setAll_get_of_mem _ _ _ h)
    · exact Dev.setAll_get_of_mem _ _ _ h
  have honly : Dev.Only (fun f i => (f ∈ groupCounters ++ laneCounters ∧ i = g) ∨ (f = .SPR_G_PASS_HIST_COUNT ∧ ∃ k < 6, i = 6 * g + k)) d
      ((d.setAll groupCounters g 0).setAll laneCounters g 0) :=
    ((Dev.Only.refl _ d).setAll 0 fun f hf => .inl ⟨List.mem_append_left _ hf, rfl⟩).setAll 0 fun f hf => .inl ⟨List.mem_append_right _ hf, rfl⟩
  unfold Dev.clearGroup
  generalize (d.setAll groupCounters g 0).setAll laneCounters g 0 = b at hzero honly ⊢
  exact ⟨fun f hf => Dev.each_keeps_zero (hzero f hf), fun k hk => Dev.each_set_shift .SPR_G_PASS_HIST_COUNT (6 * g) 6 (fun _ => 0) b hk,
    honly.each fun k hk a => (Dev.Only.refl _ a).set _ (.inr ⟨rfl, k, hk, rfl⟩)⟩

theorem sprClearStats_clears (e : Fin 8) (s : State) : Completes (.sprClearStats e) s fun d =>
    (∀ q < 8, (∀ f ∈ groupCounters ++ laneCounters, d.get f (8 * e + q) = 0) ∧ ∀ k < 6, d.get .SPR_G_PASS_HIST_COUNT (6 * (8 * e + q) + k) = 0) ∧
    Dev.Only (fun f i => (f ∈ groupCounters ++ laneCounters ∧ ∃ q < 8, i = 8 * e + q) ∨
      (f = .SPR_G_PASS_HIST_COUNT ∧ ∃ q < 8, ∃ k < 6, i = 6 * (8 * e + q) + k)) s.dev d := by
  refine .runAs (rfl : _ = execSprClearStats e s) fun d hd => ?_
  replace hd : d = Dev.each 8 (fun q => Dev.clearGroup (8 * e + q)) s.found := hd
  refine ⟨fun q hq => ⟨fun f hf => ?_, fun k hk => ?_⟩, ?_⟩
  · rw [hd]
    exact Dev.each_reaches (g := fun q => Dev.clearGroup (8 * e + q)) (P := fun a => a.get f (8 * e + q) = 0) hq (fun a => (a.clearGroup_clears _).1 f hf) (fun _ _ => Dev.clearGroup_keeps_zero) _
  · rw [hd]
    exact Dev.each_reaches (g := fun q => Dev.clearGroup (8 * e + q)) (P := fun a => a.get .SPR_G_PASS_HIST_COUNT (6 * (8 * e + q) + k) = 0) hq (fun a => (a.clearGroup_clears _).2.1 k hk)
      (fun _ _ => Dev.clearGroup_keeps_zero) _
  · rw [hd]
    refine Dev.Only.ofFound ((Dev.Only.refl _ _).each (g := fun q => Dev.clearGroup (8 * e + q)) fun q hq a => (a.clearGroup_clears _).2.2.mono fun f i hp => ?_)
    rcases hp with ⟨hf, hi⟩ | ⟨hf, k, hk, hi⟩
    · exact .inl ⟨hf, q, hq, hi⟩
    · exact .inr ⟨hf, q, hq, k, hk, hi⟩

/-! ## Frames that are done (R203, R204, R210) -/

/-- Some fields and live values keep their value, and nothing that pends or was sent out is lost. -/
def Dev.Grows (L M : List F) (d e : Dev) : Prop := Dev.Keeps L M d e ∧ Dev.Sends d e

section
variable {L M : List F} {d e : Dev}

theorem Dev.Grows.refl (d : Dev) : Dev.Grows L M d d := ⟨.refl d, .refl d⟩
theorem Dev.Grows.trans {a b c : Dev} (h1 : Dev.Grows L M a b) (h2 : Dev.Grows L M b c) : Dev.Grows L M a c := ⟨h1.1.trans h2.1, h1.2.trans h2.2⟩
theorem Dev.Grows.put (h : Dev.Grows L M d e) (f : F) (i v : Nat) (hf : f ∉ L) : Dev.Grows L M d (e.set f i v) := ⟨h.1.set i v hf, h.2.set v⟩
theorem Dev.Grows.send (h : Dev.Grows L M d e) (o : Out) : Dev.Grows L M d (e.send o) := ⟨h.1.send o, h.2.send o⟩
theorem Dev.Grows.raise (h : Dev.Grows L M d e) (s : Nat) (hL : ∀ f ∈ L, f ∉ signalFields) : Dev.Grows L M d (e.raise s) :=
  ⟨h.1.raise s hL, h.2.trans (raise_sends e s)⟩
theorem Dev.Grows.setAll (h : Dev.Grows L M d e) (fs : List F) (i v : Nat) (hf : ∀ f ∈ fs, f ∉ L) : Dev.Grows L M d (e.setAll fs i v) :=
  List.foldlRecOn fs _ (motive := fun a => Dev.Grows L M d a) h fun _ ha f hfs => ha.put f i v (hf f hfs)
theorem Dev.Grows.forList {α : Type} {g : α → Dev → Dev} {l : List α} (h : Dev.Grows L M d e) (hg : ∀ x ∈ l, ∀ a, Dev.Grows L M a (g x a)) :
    Dev.Grows L M d (Dev.forList l g e) := List.foldlRecOn l _ h fun a ha x hx => ha.trans (hg x hx a)

theorem Dev.toTaps_out (d : Dev) (mask src info time : Nat) (falling : Bool) (lanes : List Nat) :
    (d.toTaps mask src info time falling lanes).out = d.out := by
  unfold Dev.toTaps
  extract_lets m
  split <;> rfl

theorem Dev.xtrigEvent_sends (d : Dev) (src : Nat) : Dev.Sends d (d.xtrigEvent src) := by
  refine Dev.Sends.foldl (fun a j => ?_) _ d
  dsimp only
  split
  · split
    · exact ((Dev.Sends.refl a).set _).trans (raise_sends _ _)
    · unfold Dev.Sends
      rw [Dev.toTaps_out]
      exact List.prefix_append _ _
  · exact .refl a

theorem Dev.trigger_grows (d : Dev) (src lane info time : Nat) (hL : ∀ f ∈ triggerFields, f ∉ L) : Dev.Grows L M d (d.trigger src lane info time) := by
  refine ⟨Dev.trigger_keeps d src lane info time hL, ?_⟩
  unfold Dev.trigger
  extract_lets lanes
  refine Dev.Sends.trans ?_ (Dev.xtrigEvent_sends _ src)
  unfold Dev.Sends
  rw [Dev.toTaps_out]

/-- What an uncorrectable frame writes. -/
def failedFields : List F := [.SPR_G_UNC_FRAMES_INV_COUNT, .SPR_G_UNC_FRAMES_COUNT, .SPR_G_EVENTS_UNC] ++ triggerFields
/-- What the counters of a frame's end clear. -/
def frameCleared : List F := [.X_SPR_UNC, .X_SPR_UNC_INV, .X_POOL_FRAME, .X_SPR_F_PASS, .X_SPR_F_END, .X_SPR_F_FAIL1, .X_SPR_F_UNC, .X_SPR_F_SKIP]
/-- What the counters of a frame write beside the frames themselves. -/
def countedFields : List F := [.SPR_L_CORR_BITS_COUNT, .X_LG_BITS, .X_LG_CORR] ++ frameCleared ++ failedFields
/-- What a frame that is done writes. -/
def frameDoneFields : List F := [.SPR_G_FRAMES_COUNT, .SPR_G_INNER_DOUBT_COUNT, .SPR_G_FRAMES_INV_COUNT, .LTX_LOOP_STATUS_FILL_LEVEL, .X_SPR_FIN] ++ countedFields

/-- The frames, those with an invalid segment and the doubtful inner codewords are counted. -/
def Dev.tallyFrame (d : Dev) (g valid doubt : Nat) : Dev :=
  let d := (d.addWrap .SPR_G_FRAMES_COUNT g 1).addWrap .SPR_G_INNER_DOUBT_COUNT g doubt
  if d.allValid g valid then d else d.addWrap .SPR_G_FRAMES_INV_COUNT g 1

/-- A frame with an uncorrectable codeword. -/
def Dev.frameFailed (d : Dev) (g time : Nat) : Dev :=
  let d := d.addWrap (if d.on .X_SPR_UNC_INV g then .SPR_G_UNC_FRAMES_INV_COUNT else .SPR_G_UNC_FRAMES_COUNT) g 1
  let info := g / 8 + 256 * (g % 8) + 2 ^ 32 * (d.get .SPR_G_FRAMES_COUNT g % 2 ^ 32)
  ((d.set .SPR_G_EVENTS_UNC g 1).raiseEngine (g / 8) 1).trigger 8 (d.firstLane g) info time

/-- The corrected bits of a frame go to its lanes. -/
def Dev.creditLanes (d : Dev) (g : Nat) (corr : List Nat) : Dev :=
  Dev.forList (d.lanesOfGroup g) (fun n d => d.addWrap .SPR_L_CORR_BITS_COUNT n (corr.getD (d.local_ n) 0)) d

/-- What the ledger takes of a frame. -/
def Dev.ledgerFrame (d : Dev) (g : Nat) (corr : List Nat) : Dev :=
  let good := !d.on .X_SPR_UNC g
  Dev.forList (d.lanesOfGroup g) (fun n d =>
    if d.rxLocked n then
      (d.addSat .X_LG_BITS n (43520 / d.width (g / 8))).addSat .X_LG_CORR n (if good then corr.getD (d.local_ n) 0 else 0)
    else d) d

/-- The outcome of a frame. -/
def Dev.frameOutcome (d : Dev) (g : Nat) (corr : List Nat) (time : Nat) : Dev := if d.on .X_SPR_UNC g then d.frameFailed g time else d.creditLanes g corr

theorem Dev.countFrame_eq (d : Dev) (g valid : Nat) (corr : List Nat) (doubt time : Nat) : d.countFrame g valid corr doubt time =
    ((((d.tallyFrame g valid doubt).frameOutcome g corr time).ledgerFrame g corr).eventRecord g valid doubt corr.sum).setAll frameCleared g 0 := rfl

theorem Dev.frameFailed_shows (d : Dev) (g time : Nat) {e : Dev} (he : e = d.frameFailed g time) : e.get .SPR_G_EVENTS_UNC g = 1 ∧
    576 + 8 * (g / 8) + 1 ∈ e.pending ∧ ∀ {L M : List F}, (∀ f ∈ failedFields, f ∉ L) → Dev.Grows L M d e := by
  unfold Dev.frameFailed Dev.raiseEngine at he
  extract_lets b info at he
  have hb : ∀ {L M : List F}, (∀ f ∈ failedFields, f ∉ L) → Dev.Grows L M d b := fun hL => by
    refine (Dev.Grows.refl d).put _ _ _ (hL _ ?_)
    split <;> decide
  clear_value info b
  have htrigger : ∀ {L M : List F}, (∀ f ∈ triggerFields, f ∉ L) → Dev.Grows L M ((b.set .SPR_G_EVENTS_UNC g 1).raise (576 + 8 * (g / 8) + 1)) e := fun hL => by
    rw [he]
    exact Dev.trigger_grows _ _ _ _ _ hL
  have hmem : 576 + 8 * (g / 8) + 1 ∈ ((b.set .SPR_G_EVENTS_UNC g 1).raise (576 + 8 * (g / 8) + 1)).pending := by
    rw [(raise_raised _ (by omega)).1]
    exact (mem_insertNat ..).mpr (.inl rfl)
  refine ⟨?_, (htrigger (L := []) (M := []) fun _ _ => List.not_mem_nil).1.pending _ hmem, fun {L M} hL => ?_⟩
  · have hL : ∀ f ∈ triggerFields, f ∉ [F.SPR_G_EVENTS_UNC] := by decide
    refine ((htrigger (M := []) hL).1.get _ List.mem_cons_self _).trans ?_
    rw [raise_get _ _ _ _ (by decide)]
    exact Dev.get_set_same ..
  · have hL' : ∀ f ∈ triggerFields, f ∉ L := fun f hf => hL f (List.mem_append_right _ hf)
    exact (((hb hL).put _ _ _ (hL _ (by decide))).raise _ fun f hf h => hL' f (List.mem_append_right _ h) hf).trans (htrigger hL')

theorem Dev.creditLanes_grows (d : Dev) (g : Nat) (corr : List Nat) (hL : F.SPR_L_CORR_BITS_COUNT ∉ L) : Dev.Grows L M d (d.creditLanes g corr) :=
  (Dev.Grows.refl d).forList fun _ _ a => (Dev.Grows.refl a).put _ _ _ hL

theorem Dev.ledgerFrame_grows (d : Dev) (g : Nat) (corr : List Nat) (hL : ∀ f ∈ [F.X_LG_BITS, .X_LG_CORR], f ∉ L) : Dev.Grows L M d (d.ledgerFrame g corr) := by
  unfold Dev.ledgerFrame
  refine (Dev.Grows.refl d).forList fun n _ a => ?_
  split
  · exact ((Dev.Grows.refl a).put _ _ _ (hL _ (by decide))).put _ _ _ (hL _ (by decide))
  · exact .refl a

theorem Dev.eventRecord_grows (d : Dev) (g valid doubt corr : Nat) : Dev.Grows L M d (d.eventRecord g valid doubt corr) :=
  ⟨.same rfl rfl rfl rfl, List.prefix_refl _⟩

theorem Dev.frameOutcome_grows (d : Dev) (g : Nat) (corr : List Nat) (time : Nat) (hL : ∀ f ∈ countedFields, f ∉ L) :
    Dev.Grows L M d (d.frameOutcome g corr time) := by
  unfold Dev.frameOutcome
  split
  · exact (d.frameFailed_shows g time rfl).2.2 fun f hf => hL f (List.mem_append_right _ hf)
  · exact Dev.creditLanes_grows d g corr (hL _ (by decide))

/-- What follows the outcome of a frame. -/
theorem Dev.countFrame_grows_outcome (d : Dev) (g valid : Nat) (corr : List Nat) (doubt time : Nat)
    (hL : ∀ f ∈ [F.X_LG_BITS, .X_LG_CORR] ++ frameCleared, f ∉ L) :
    Dev.Grows L M ((d.tallyFrame g valid doubt).frameOutcome g corr time) (d.countFrame g valid corr doubt time) := by
  rw [Dev.countFrame_eq]
  exact ((Dev.ledgerFrame_grows _ g corr fun f hf => hL f (List.mem_append_left _ hf)).trans (Dev.eventRecord_grows ..)).setAll _ _ _
    fun f hf => hL f (List.mem_append_right _ hf)

theorem Dev.tallyFrame_grows (d : Dev) (g valid doubt : Nat) (hL : ∀ f ∈ [F.SPR_G_FRAMES_COUNT, .SPR_G_INNER_DOUBT_COUNT, .SPR_G_FRAMES_INV_COUNT], f ∉ L) :
    Dev.Grows L M d (d.tallyFrame g valid doubt) := by
  have h := ((Dev.Grows.refl (M := M) d).put .SPR_G_FRAMES_COUNT g ((d.get .SPR_G_FRAMES_COUNT g + 1) % 2 ^ F.SPR_G_FRAMES_COUNT.width) (hL _ (by decide)))
  unfold Dev.tallyFrame
  extract_lets b
  have hb : Dev.Grows L M d b := h.put _ _ _ (hL _ (by decide))
  clear_value b
  split
  · exact hb
  · exact hb.put _ _ _ (hL _ (by decide))

theorem Dev.countFrame_grows (d : Dev) (g valid : Nat) (corr : List Nat) (doubt time : Nat) (hL : ∀ f ∈ frameDoneFields, f ∉ L) :
    Dev.Grows L M d (d.countFrame g valid corr doubt time) :=
  ((Dev.tallyFrame_grows d g valid doubt fun f hf => hL f ((by decide : ∀ f ∈ [F.SPR_G_FRAMES_COUNT, .SPR_G_INNER_DOUBT_COUNT, .SPR_G_FRAMES_INV_COUNT], f ∈ frameDoneFields) f hf)).trans
    (Dev.frameOutcome_grows _ g corr time fun f hf => hL f (List.mem_append_right _ hf))).trans
    (Dev.countFrame_grows_outcome d g valid corr doubt time fun f hf => hL f ((by decide : ∀ f ∈ [F.X_LG_BITS, .X_LG_CORR] ++ frameCleared, f ∈ frameDoneFields) f hf))

/-- An uncorrectable codeword of the group waits to be shown, or is shown. -/
def Dev.UncShown (g : Nat) (d : Dev) : Prop := d.get .X_SPR_UNC g = 1 ∨ d.get .SPR_G_EVENTS_UNC g = 1

theorem Dev.countFrame_unc {d : Dev} {g : Nat} (h : d.UncShown g) (valid : Nat) (corr : List Nat) (doubt time : Nat) :
    (d.countFrame g valid corr doubt time).get .SPR_G_EVENTS_UNC g = 1 := by
  rw [(Dev.countFrame_grows_outcome (L := [.SPR_G_EVENTS_UNC]) (M := []) d g valid corr doubt time (by decide)).1.get _ List.mem_cons_self]
  have htally := Dev.tallyFrame_grows (L := [.SPR_G_EVENTS_UNC, .X_SPR_UNC]) (M := []) d g valid doubt (by decide)
  have hunc := htally.1.get .X_SPR_UNC (by decide) g
  have hevent := htally.1.get .SPR_G_EVENTS_UNC (by decide) g
  generalize d.tallyFrame g valid doubt = b at hunc hevent
  by_cases hb : b.on .X_SPR_UNC g = true
  · exact (b.frameFailed_shows g time (if_pos hb)).1
  · have hn : d.get .X_SPR_UNC g ≠ 1 := fun h1 => hb (beq_iff_eq.mpr (hunc.trans h1))
    rw [show b.frameOutcome g corr time = b.creditLanes g corr from if_neg hb,
      (Dev.creditLanes_grows (L := [.SPR_G_EVENTS_UNC]) (M := []) b g corr (by decide)).1.get _ List.mem_cons_self]
    exact hevent.trans (h.resolve_left hn)

theorem Dev.loopPush_grows (d : Dev) (g : Nat) (streams : List (List Bool)) (hL : F.LTX_LOOP_STATUS_FILL_LEVEL ∉ L) : Dev.Grows L M d (d.loopPush g streams) := by
  have hshow : ∀ a : Dev, Dev.Grows L M a (a.showLoop g) := fun a => by
    refine (Dev.Grows.refl a).forList fun n _ b => ?_
    split
    · exact (Dev.Grows.refl b).put _ _ _ hL
    · exact .refl b
  unfold Dev.loopPush
  split
  · split
    · refine Dev.Grows.trans (b := { d with loops := d.loops ++ [(⟨g, streams⟩ : LoopFrame)] }) ⟨.same rfl rfl rfl rfl, .refl _⟩ (hshow _)
    · exact hshow d
  · exact .refl d

theorem Dev.toHost_grows (d : Dev) (n : Nat) (o : Out) : Dev.Grows L M d (d.toHost n o) := by
  unfold Dev.toHost
  split
  · exact (Dev.Grows.refl d).send o
  · exact .refl d

/-- What follows the counters of a frame that is done. -/
theorem Dev.frameDone_grows_count (d : Dev) (x : RxFrame) (hL : F.LTX_LOOP_STATUS_FILL_LEVEL ∉ L) : ∃ corr doubt,
    corr = (List.range (d.width (x.group / 8))).map (fun l => correctedBits (d.width (x.group / 8)) l x) ∧
      Dev.Grows L M (d.countFrame x.group x.valid corr doubt x.time) (d.frameDone x) := by
  unfold Dev.frameDone
  extract_lets g w words doubt b c
  refine ⟨_, doubt, rfl, ?_⟩
  show Dev.Grows L M b _
  clear_value b doubt
  refine Dev.Grows.trans (Dev.loopPush_grows b g _ hL) ((Dev.Grows.refl c).forList fun n _ a => ?_)
  split
  · exact .refl a
  · exact Dev.toHost_grows ..

theorem Dev.dropFrames_grows (d : Dev) (g : Nat) : Dev.Grows L M d (d.dropFrames g) :=
  ⟨.same rfl rfl rfl rfl, List.prefix_refl _⟩

/-- One frame more is done. -/
def Dev.frameOut (g : Nat) (x : RxFrame) (d : Dev) : Dev := ((d.frameDone x).set .X_SPR_FIN g (d.get .X_SPR_FIN g + 1)).dropFrames g

theorem Dev.frameOut_grows {d : Dev} {g : Nat} {x : RxFrame} (hL : ∀ f ∈ frameDoneFields, f ∉ L) : Dev.Grows L M d (Dev.frameOut g x d) := by
  obtain ⟨corr, doubt, -, h⟩ := d.frameDone_grows_count (L := L) (M := M) x (hL _ (by decide))
  have hdone := (Dev.countFrame_grows d _ _ corr doubt _ hL).trans h
  unfold Dev.frameOut
  generalize d.frameDone x = b at hdone ⊢
  exact (hdone.put _ _ _ (hL _ (by decide))).trans (Dev.dropFrames_grows _ g)

theorem Dev.frameOut_unc {d : Dev} {g : Nat} {x : RxFrame} (hx : x.group = g) (h : d.UncShown g) : (Dev.frameOut g x d).get .SPR_G_EVENTS_UNC g = 1 := by
  obtain ⟨corr, doubt, -, hdone⟩ := d.frameDone_grows_count (L := [.SPR_G_EVENTS_UNC]) (M := []) x (by decide)
  have hcount : (d.countFrame x.group x.valid corr doubt x.time).get .SPR_G_EVENTS_UNC g = 1 := by
    rw [hx]
    exact Dev.countFrame_unc h ..
  have hget := (hdone.1.get _ List.mem_cons_self g).trans hcount
  unfold Dev.frameOut
  generalize d.frameDone x = b at hget ⊢
  refine ((Dev.dropFrames_grows (L := [.SPR_G_EVENTS_UNC]) (M := []) _ g).1.get _ List.mem_cons_self g).trans ?_
  exact (Dev.get_set_field _ _ _ _ (by decide)).trans hget

theorem Dev.finishFrames_shows {g : Nat} (hL : ∀ f ∈ frameDoneFields, f ∉ L) : ∀ (k : Nat) (d : Dev), Dev.Grows L M d (Dev.finishFrames g k d) ∧
    (d.UncShown g → (Dev.finishFrames g k d).UncShown g)
  | 0, d => ⟨.refl d, id⟩
  | k + 1, d => by
    unfold Dev.finishFrames
    dsimp only
    split
    · exact ⟨.refl d, id⟩
    · next x hx =>
      split
      · exact ⟨.refl d, id⟩
      · obtain ⟨h1, h2⟩ := Dev.finishFrames_shows hL k (Dev.frameOut g x d)
        have hgroup : x.group = g := beq_iff_eq.mp (Bool.and_eq_true_iff.mp (List.find?_some (p := fun y : RxFrame => y.group == g && y.no == d.get .X_SPR_FIN g) hx)).1
        exact ⟨(Dev.frameOut_grows hL).trans h1, fun h => h2 (.inr (Dev.frameOut_unc hgroup h))⟩

end

/-! ## RS codewords (R199 to R203) -/

theorem rsDecode_bound {word erased syms : List Nat} (hlen : erased.length ≤ 30) (h : rsDecode word erased = some syms) :
    (∀ x ∈ rsSyndromes syms, x = 0) ∧
      2 * ((List.range 544).filter fun i => syms.getD i 0 != word.getD i 0 && !erased.contains i).length + erased.length ≤ 30 := by
  have hzero : ∀ {c : List Nat}, (rsSyndromes c).all (· == 0) = true → ∀ x ∈ rsSyndromes c, x = 0 := fun hc x hx => beq_iff_eq.mp (List.all_eq_true.mp hc x hx)
  unfold rsDecode at h
  extract_lets s f gamma q omega deriv fixed wrong at h
  split at h
  · next hok =>
    rw [← Option.some.inj h]
    refine ⟨hzero hok, ?_⟩
    simp only [bne_self_eq_false, Bool.false_and, List.filter_false, List.length_nil]
    omega
  · split at h
    · next hok =>
      rw [← Option.some.inj h]
      obtain ⟨hle, hsyn⟩ := Bool.and_eq_true_iff.mp hok
      exact ⟨hzero hsyn, of_decide_eq_true hle⟩
    · exact nomatch h

/-- What a pass from the pool, or one that is skipped, writes. -/
def passFields : List F := [.POOL_SLOTS_COUNT, .X_POOL_USED, .X_POOL_ACCT, .X_POOL_RES, .X_POOL_FRAME, .X_POOL_DRAWN, .X_POOL_RES_DRAWN,
  .SPR_G_SKIPPED_COUNT, .SPR_G_EVENTS_SKIPPED, .X_SPR_F_SKIP, .X_POOL_RES_EMPTY, .POOL_EVENTS_RESERVE_EMPTY]

theorem Dev.slot_only {d e : Dev} {g : Nat} (h : d.slot g = some e) : Dev.Only (fun f _ => f ∈ passFields) d e := by
  unfold Dev.slot at h
  extract_lets t served b at h
  have hserved : ∀ a, Dev.Only (fun f _ => f ∈ passFields) a (served a) := fun a => Dev.Only.write (Dev.Only.write (.refl _ a) _ _ _) _ _ _
  clear_value served
  split at h
  · rw [← Option.some.inj h]
    exact (Dev.Only.write (.refl _ d) _ _ _).trans (hserved _)
  · split at h
    · rw [← Option.some.inj h]
      have hb : Dev.Only (fun f _ => f ∈ passFields) d b := Dev.Only.write (Dev.Only.write (.refl _ d) _ _ _) _ _ _
      clear_value b
      exact (Dev.Only.write (Dev.Only.write hb _ _ _) _ _ _).trans (hserved _)
    · exact nomatch h

theorem Dev.skipPass_only (d : Dev) (g : Nat) : Dev.OnlyRaising (fun f _ => f ∈ passFields) d (d.skipPass g) := by
  unfold Dev.skipPass
  extract_lets t b
  have hb : Dev.OnlyRaising (fun f _ => f ∈ passFields) d b :=
    (((Dev.OnlyRaising.refl _ d).put _ (by decide)).put _ (by decide)).put _ (by decide)
  clear_value b
  split
  · exact ((hb.put _ (by decide)).put _ (by decide)).raise _
  · exact hb

theorem Dev.morePasses_shows (n c : Nat) : ∀ (fuel : Nat) (q : RsTry) (d : Dev), Dev.OnlyRaising (fun f _ => f ∈ passFields) d (Dev.morePasses n c fuel q d).1 ∧
    q.passes ≤ (Dev.morePasses n c fuel q d).2.passes ∧ (Dev.morePasses n c fuel q d).2.passes ≤ q.passes + fuel ∧
    (∀ a, q.answer = some a → (Dev.morePasses n c fuel q d).2 = q)
  | 0, q, d => ⟨.refl _ d, le_refl _, le_refl _, fun _ _ => rfl⟩
  | fuel + 1, q, d => by
    unfold Dev.morePasses
    split
    · exact ⟨.refl _ d, le_refl _, Nat.le_add_right .., fun _ _ => rfl⟩
    · next hnone =>
      have hsome : ∀ a, q.answer ≠ some a := fun a h => hnone (by rw [h]; rfl)
      split
      · exact ⟨d.skipPass_only _, le_refl _, Nat.le_add_right .., fun a h => (hsome a h).elim⟩
      · next e he =>
        extract_lets all er own
        obtain ⟨h1, h2, h3, -⟩ := Dev.morePasses_shows n c fuel ⟨own, q.passes + 1, rsDecode (e.rsSymbols n c own) er, q.capped || decide (er.length < all.length)⟩ e
        have hle : q.passes + 1 ≤ _ := h2
        have hbound : _ ≤ q.passes + 1 + fuel := h3
        exact ⟨(Dev.slot_only he).raising.trans h1, by omega, by omega, fun a h => (hsome a h).elim⟩

/-- What the counters of an RS codeword write beside those of its passes and of its end. -/
def noteFields : List F := [.X_LG_CW, .X_LG_PASSES, .X_POOL_N, .X_POOL_F1, .X_SPR_F_END, .X_SPR_F_FAIL1, .X_SPR_F_PASS, .X_SPR_F_UNC,
  .SPR_G_EVENTS_ERASE_CAPPED, .X_SPR_UNC_INV]

/-- What the ledger, the pool and the event record take of an RS codeword. -/
def Dev.noteWord (d : Dev) (g : Nat) (first inv : Bool) (q : RsTry) : Dev :=
  let k := q.passes
  let failed := b2n (!first)
  let d := (d.addSat .X_LG_CW g 1).addSat .X_LG_PASSES g k
  let d := (d.addSat .X_POOL_N g 1).addSat .X_POOL_F1 g failed
  let d := (d.addSat .X_SPR_F_END g 1).addSat .X_SPR_F_FAIL1 g failed
  let d := (d.set .X_SPR_F_PASS g (max k (d.get .X_SPR_F_PASS g))).addSat .X_SPR_F_UNC g (b2n q.answer.isNone)
  let d := if q.capped then d.set .SPR_G_EVENTS_ERASE_CAPPED g 1 else d
  if inv then d.set .X_SPR_UNC_INV g 1 else d

theorem Dev.noteWord_only (d : Dev) (g : Nat) (first inv : Bool) (q : RsTry) : Dev.Only (fun f _ => f ∈ noteFields) d (d.noteWord g first inv q) := by
  unfold Dev.noteWord
  extract_lets k failed b1 b2 b3 b4 b5
  have h1 : Dev.Only (fun f _ => f ∈ noteFields) d b1 := Dev.Only.write (Dev.Only.write (.refl _ d) _ _ _) _ _ _
  clear_value b1
  have h2 : Dev.Only (fun f _ => f ∈ noteFields) d b2 := Dev.Only.write (Dev.Only.write h1 _ _ _) _ _ _
  clear_value b2
  have h3 : Dev.Only (fun f _ => f ∈ noteFields) d b3 := Dev.Only.write (Dev.Only.write h2 _ _ _) _ _ _
  clear_value b3
  have h4 : Dev.Only (fun f _ => f ∈ noteFields) d b4 := Dev.Only.write (Dev.Only.write h3 _ _ _) _ _ _
  clear_value b4
  have h5 : Dev.Only (fun f _ => f ∈ noteFields) d b5 := by
    show Dev.Only _ d (if _ then _ else _)
    split
    · exact Dev.Only.write h4 _ _ _
    · exact h4
  clear_value b5
  split
  · exact Dev.Only.write h5 _ _ _
  · exact h5

/-- The codewords and passes of a group and of a lane. -/
def Dev.tallyWord (d : Dev) (g n k : Nat) : Dev :=
  let d := (d.addWrap .SPR_G_RS_CW_COUNT g 1).addWrap .SPR_L_RS_CW_COUNT n 1
  (d.addWrap .SPR_G_PASSES_COUNT g k).addWrap .SPR_L_PASSES_COUNT n k

/-- The end of a codeword that has decoded, or of one that has not. -/
def Dev.endWord (d : Dev) (g n corr : Nat) (q : RsTry) : Dev :=
  if q.answer.isSome then (d.addSat .SPR_G_PASS_HIST_COUNT (6 * g + (q.passes - 1)) 1).addWrap .SPR_G_RS_SYM_CORR_COUNT g corr
  else (((d.addWrap .SPR_G_RS_UNC_COUNT g 1).addWrap .SPR_L_RS_UNC_COUNT n 1).set .X_SPR_UNC g 1).set .X_POOL_FAIL g 1

theorem Dev.countWord_eq (d : Dev) (n : Nat) (first inv : Bool) (corr : Nat) (q : RsTry) : d.countWord n first inv corr q =
    ((d.tallyWord (d.groupOf n) n q.passes).noteWord (d.groupOf n) first inv q).endWord (d.groupOf n) n corr q := by
  unfold Dev.countWord Dev.endWord Dev.noteWord Dev.tallyWord
  rfl

/-- What the counters of a codeword show of it. -/
structure Dev.WordCounted (d : Dev) (g : Nat) (q : RsTry) (e : Dev) : Prop where
  words : e.get .SPR_G_RS_CW_COUNT g = (d.get .SPR_G_RS_CW_COUNT g + 1) % 2 ^ F.SPR_G_RS_CW_COUNT.width
  passes : e.get .SPR_G_PASSES_COUNT g = (d.get .SPR_G_PASSES_COUNT g + q.passes) % 2 ^ F.SPR_G_PASSES_COUNT.width
  decoded : q.answer ≠ none → e.get .SPR_G_PASS_HIST_COUNT (6 * g + (q.passes - 1)) =
    satAdd F.SPR_G_PASS_HIST_COUNT.width (d.get .SPR_G_PASS_HIST_COUNT (6 * g + (q.passes - 1))) 1 ∧
    e.get .SPR_G_RS_UNC_COUNT g = d.get .SPR_G_RS_UNC_COUNT g
  failed : q.answer = none → e.get .SPR_G_RS_UNC_COUNT g = (d.get .SPR_G_RS_UNC_COUNT g + 1) % 2 ^ F.SPR_G_RS_UNC_COUNT.width ∧
    e.get .X_POOL_FAIL g = 1 ∧ e.UncShown g

/-- What the counters of a codeword write. -/
def wordFields : List F := [.SPR_G_RS_CW_COUNT, .SPR_L_RS_CW_COUNT, .SPR_G_PASSES_COUNT, .SPR_L_PASSES_COUNT, .SPR_G_PASS_HIST_COUNT,
  .SPR_G_RS_SYM_CORR_COUNT, .SPR_G_RS_UNC_COUNT, .SPR_L_RS_UNC_COUNT, .X_SPR_UNC, .X_POOL_FAIL] ++ noteFields

theorem Dev.tallyWord_shows (d : Dev) (g n k : Nat) {e : Dev} (he : e = d.tallyWord g n k) :
    e.get .SPR_G_RS_CW_COUNT g = (d.get .SPR_G_RS_CW_COUNT g + 1) % 2 ^ F.SPR_G_RS_CW_COUNT.width ∧
    e.get .SPR_G_PASSES_COUNT g = (d.get .SPR_G_PASSES_COUNT g + k) % 2 ^ F.SPR_G_PASSES_COUNT.width ∧
    Dev.Only (fun f _ => f ∈ [F.SPR_G_RS_CW_COUNT, .SPR_L_RS_CW_COUNT, .SPR_G_PASSES_COUNT, .SPR_L_PASSES_COUNT]) d e := by
  unfold Dev.tallyWord at he
  extract_lets b at he
  have hwords : b.get .SPR_G_RS_CW_COUNT g = (d.get .SPR_G_RS_CW_COUNT g + 1) % 2 ^ F.SPR_G_RS_CW_COUNT.width :=
    (Dev.get_set_field _ _ _ _ (by decide)).trans (Dev.get_set_same ..)
  have hpasses : b.get .SPR_G_PASSES_COUNT g = d.get .SPR_G_PASSES_COUNT g :=
    (Dev.get_set_field _ _ _ _ (by decide)).trans (Dev.get_set_field _ _ _ _ (by decide))
  have hb : Dev.Only (fun f _ => f ∈ [F.SPR_G_RS_CW_COUNT, .SPR_L_RS_CW_COUNT, .SPR_G_PASSES_COUNT, .SPR_L_PASSES_COUNT]) d b :=
    Dev.Only.write (Dev.Only.write (.refl _ d) _ _ _) _ _ _
  clear_value b
  rw [he, ← hwords, ← hpasses]
  exact ⟨(Dev.get_set_field _ _ _ _ (by decide)).trans (Dev.get_set_field _ _ _ _ (by decide)),
    (Dev.get_set_field _ _ _ _ (by decide)).trans (Dev.get_set_same ..), Dev.Only.write (Dev.Only.write hb _ _ _) _ _ _⟩

theorem Dev.endWord_shows (d : Dev) (g n corr : Nat) (q : RsTry) {e : Dev} (he : e = d.endWord g n corr q) :
    (q.answer ≠ none → e.get .SPR_G_PASS_HIST_COUNT (6 * g + (q.passes - 1)) =
      satAdd F.SPR_G_PASS_HIST_COUNT.width (d.get .SPR_G_PASS_HIST_COUNT (6 * g + (q.passes - 1))) 1 ∧
      e.get .SPR_G_RS_UNC_COUNT g = d.get .SPR_G_RS_UNC_COUNT g) ∧
    (q.answer = none → e.get .SPR_G_RS_UNC_COUNT g = (d.get .SPR_G_RS_UNC_COUNT g + 1) % 2 ^ F.SPR_G_RS_UNC_COUNT.width ∧
      e.get .X_POOL_FAIL g = 1 ∧ e.UncShown g) ∧
    Dev.Only (fun f _ => f ∈ [F.SPR_G_PASS_HIST_COUNT, .SPR_G_RS_SYM_CORR_COUNT, .SPR_G_RS_UNC_COUNT, .SPR_L_RS_UNC_COUNT, .X_SPR_UNC, .X_POOL_FAIL]) d e := by
  unfold Dev.endWord at he
  cases h : q.answer with
  | some a =>
    rw [he.trans (if_pos (by rw [h]; rfl))]
    exact ⟨fun _ => ⟨(Dev.get_set_field _ _ _ _ (by decide)).trans (Dev.get_set_same ..),
      (Dev.get_set_field _ _ _ _ (by decide)).trans (Dev.get_set_field _ _ _ _ (by decide))⟩, fun hn => (nomatch hn),
      Dev.Only.write (Dev.Only.write (.refl _ d) _ _ _) _ _ _⟩
  | none =>
    rw [he.trans (if_neg (by rw [h]; exact Bool.false_ne_true))]
    refine ⟨fun hn => (hn rfl).elim, fun _ => ⟨?_, Dev.get_set_same .., .inl ?_⟩, ?_⟩
    · rw [Dev.get_set_field _ _ _ _ (by decide), Dev.get_set_field _ _ _ _ (by decide), Dev.addWrap, Dev.get_set_field _ _ _ _ (by decide)]
      exact Dev.get_set_same ..
    · exact (Dev.get_set_field _ _ _ _ (by decide)).trans (Dev.get_set_same ..)
    · exact Dev.Only.write (Dev.Only.write (Dev.Only.write (Dev.Only.write (.refl _ d) _ _ _) _ _ _) _ _ _) _ _ _

theorem Dev.countWord_counts (d : Dev) (n : Nat) (first inv : Bool) (corr : Nat) (q : RsTry) {e : Dev} (he : e = d.countWord n first inv corr q) :
    d.WordCounted (d.groupOf n) q e ∧ Dev.Only (fun f _ => f ∈ wordFields) d e := by
  rw [Dev.countWord_eq] at he
  generalize d.groupOf n = g at he ⊢
  obtain ⟨hwords, hpasses, h1⟩ := d.tallyWord_shows g n q.passes rfl
  generalize d.tallyWord g n q.passes = a at he hwords hpasses h1
  have h2 := a.noteWord_only g first inv q
  generalize a.noteWord g first inv q = b at he h2
  obtain ⟨hsome, hnone, h3⟩ := b.endWord_shows g n corr q he
  have hkeep : ∀ {f : F} {i : Nat}, f ∉ noteFields → b.get f i = a.get f i := fun hf => h2.2 _ _ hf
  refine ⟨⟨(h3.keeps _ _).trans ((hkeep (by decide)).trans hwords), (h3.keeps _ _).trans ((hkeep (by decide)).trans hpasses), fun h => ?_, fun h => ?_⟩, ?_⟩
  · obtain ⟨k1, k2⟩ := hsome h
    rw [hkeep (by decide), h1.keeps _ _] at k1 k2
    exact ⟨k1, k2⟩
  · obtain ⟨k1, k2⟩ := hnone h
    rw [hkeep (by decide), h1.keeps _ _] at k1
    exact ⟨k1, k2⟩
  · exact ((h1.mono fun f _ hf => (by decide : ∀ f ∈ [F.SPR_G_RS_CW_COUNT, .SPR_L_RS_CW_COUNT, .SPR_G_PASSES_COUNT, .SPR_L_PASSES_COUNT], f ∈ wordFields) f hf).trans
      (h2.mono fun f _ hf => List.mem_append_right _ hf)).trans (h3.mono fun f _ hf =>
        (by decide : ∀ f ∈ [F.SPR_G_PASS_HIST_COUNT, .SPR_G_RS_SYM_CORR_COUNT, .SPR_G_RS_UNC_COUNT, .SPR_L_RS_UNC_COUNT, .X_SPR_UNC, .X_POOL_FAIL], f ∈ wordFields) f hf)

/-- The counters of a codeword. -/
def wordCounters : List F := [.SPR_G_RS_CW_COUNT, .SPR_G_PASSES_COUNT, .SPR_G_PASS_HIST_COUNT, .SPR_G_RS_UNC_COUNT, .X_POOL_FAIL]

theorem Dev.WordCounted.moved {b d e e' : Dev} {g : Nat} {q : RsTry} (h : b.WordCounted g q e) (hb : ∀ f ∈ wordCounters, ∀ i, b.get f i = d.get f i)
    (he : ∀ f ∈ wordCounters, ∀ i, e'.get f i = e.get f i) (hunc : e.UncShown g → e'.UncShown g) : d.WordCounted g q e' := by
  obtain ⟨h1, h2, h3, h4⟩ := h
  rw [← he _ (by decide), hb _ (by decide)] at h1 h2
  refine ⟨h1, h2, fun h => ?_, fun h => ?_⟩
  · obtain ⟨k1, k2⟩ := h3 h
    rw [← he _ (by decide), hb _ (by decide)] at k1 k2
    exact ⟨k1, k2⟩
  · obtain ⟨k1, k2, k3⟩ := h4 h
    rw [← he _ (by decide), hb _ (by decide)] at k1
    exact ⟨k1, (he _ (by decide) _).trans k2, hunc k3⟩

/-- A codeword that has been decoded leaves in the frames what its passes have found. -/
theorem Dev.storeWords_same (d : Dev) (n c : Nat) (q : RsTry) : (d.storeWords n c q).reg = d.reg ∧ (d.storeWords n c q).live = d.live := ⟨rfl, rfl⟩

/-- What the host gets of a codeword. -/
def Dev.wordOut (d : Dev) (n : Nat) (last : List Nat) (answer : Option (List Nat)) : List Nat :=
  answer.getD (if d.lget .SPR_CTRL_UNC_MARK (engineOf n) = 1 then markWord (d.mode (engineOf n)) last else last)

/-- What the delivery of a codeword shows. -/
structure Dev.WordGone (d : Dev) (n g : Nat) (syms : List Nat) (e : Dev) (q : RsTry) (last : List Nat) : Prop where
  one : 1 ≤ q.passes
  most : q.passes ≤ max 1 (d.usable g)
  first : ∀ c, rsDecode syms [] = some c → q.passes = 1 ∧ q.answer = some c
  only : d.usable g ≤ 1 → last = syms ∧ q.answer = rsDecode syms []
  counted : d.WordCounted g q e
  next : e.get .X_SPR_CW n = (d.get .X_SPR_CW n + 1) % 2 ^ F.X_SPR_CW.width
  out : d.get .HOST_P_STATUS_TX_SRC n = 0 → Out.rsWord n (d.wordOut n last q.answer) ∈ e.out

theorem Dev.rsCodeword_decodes {d : Dev} {n : Nat} (hsg : d.sg (d.groupOf n) = sgLOCKED) (hfirst : d.rsFirst (d.groupOf n) = some n)
    (hend : d.rsEnd n ≤ d.get .X_SPR_NO (d.groupOf n) * streamBitsPer (d.width (engineOf n))) {e : Dev} (he : e = d.rsCodeword n) :
    ∃ q last, d.WordGone n (d.groupOf n) (d.rsSymbols n (d.rsNow n) []) e q last := by
  unfold Dev.rsCodeword at he
  extract_lets g w c ans p q d1 last corr inv d2 out d3 at he
  replace he := he.trans (if_pos ⟨hsg, hfirst, hend⟩)
  have hans : ans = rsDecode (d.rsSymbols n (d.rsNow n) []) [] := by rfl
  have hc : c = d.rsNow n := by rfl
  clear_value ans c
  have hp : p = Dev.morePasses n c (d.usable g - 1) ⟨[], 1, ans, false⟩ d := by rfl
  obtain ⟨hpass, hone, hmost, hsome⟩ := Dev.morePasses_shows n c (d.usable g - 1) ⟨[], 1, ans, false⟩ d
  rw [← hp] at hpass hone hmost hsome
  have hpass : Dev.OnlyRaising (fun f _ => f ∈ passFields) d d1 := hpass
  have hmost : q.passes ≤ 1 + (d.usable g - 1) := hmost
  have hsome : ∀ a, ans = some a → q = ⟨[], 1, ans, false⟩ := hsome
  have hzero : d.usable g ≤ 1 → p = (d, ⟨[], 1, ans, false⟩) := fun h => by
    rw [hp, Nat.sub_eq_zero_of_le h]
    rfl
  have hlast : d.usable g ≤ 1 → last = d.rsSymbols n c [] ∧ q.answer = ans := fun h => by
    show p.1.rsSymbols n c p.2.own = _ ∧ p.2.answer = ans
    rw [hzero h]
    exact ⟨rfl, rfl⟩
  have hlive : (d1.storeWords n c q).live = d.live := by
    rw [(d1.storeWords_same n c q).2, hpass.1]
  have hread : ∀ {f : F} (i : Nat), f ∉ passFields → f ∉ signalFields → (d1.storeWords n c q).get f i = d.get f i := fun i h1 h2 => by
    refine Eq.trans ?_ (hpass.2 _ i h1 h2)
    unfold Dev.get
    rw [(d1.storeWords_same n c q).1]
  have hgroup : (d1.storeWords n c q).groupOf n = g := by
    show _ = d.groupOf n
    unfold Dev.groupOf Dev.width
    rw [hread _ (by decide) (by decide)]
  obtain ⟨hcount, honly⟩ := (d1.storeWords n c q).countWord_counts n ans.isSome inv corr q (e := d2) rfl
  rw [hgroup] at hcount
  generalize d1.storeWords n c q = b at hlive hread hcount honly
  have hd2 : ∀ {f : F} (i : Nat), f ∉ passFields → f ∉ signalFields → f ∉ wordFields → d2.get f i = d.get f i := fun i h1 h2 h3 =>
    (honly.2 _ i h3).trans (hread i h1 h2)
  have hd2live : d2.live = d.live := by rw [honly.1, ← hlive]
  have hout : out = d.wordOut n last q.answer := by
    have hmark : d2.lon .SPR_CTRL_UNC_MARK (engineOf n) = d.lon .SPR_CTRL_UNC_MARK (engineOf n) := by
      unfold Dev.lon Dev.lget
      rw [hd2live]
    have hmode : d2.mode (engineOf n) = d.mode (engineOf n) := hd2 _ (by decide) (by decide) (by decide)
    show (match q.answer with
      | some s => s
      | none => if d2.lon .SPR_CTRL_UNC_MARK (engineOf n) then markWord (d2.mode (engineOf n)) last else last) = _
    rw [hmark, hmode]
    unfold Dev.wordOut Dev.lon
    cases q.answer with
    | some a => rfl
    | none => exact if_congr beq_iff_eq rfl rfl
  have hd3 : (∀ f i, d3.get f i = d2.get f i) ∧ (d2.get .HOST_P_STATUS_TX_SRC n = 0 → Out.rsWord n out ∈ d3.out) := by
    have hbase : ∀ a : Dev, a.reg = d2.reg → (∀ f i, (a.toHost n (.rsWord n out)).get f i = d2.get f i) ∧
        (d2.get .HOST_P_STATUS_TX_SRC n = 0 → Out.rsWord n out ∈ (a.toHost n (.rsWord n out)).out) := fun a ha => by
      have hget : ∀ f i, a.get f i = d2.get f i := fun f i => congrArg (fun r => Store.get r ⟨f, i⟩) ha
      unfold Dev.toHost
      rw [hget]
      split
      · exact ⟨hget, fun _ => List.mem_append_right _ (List.mem_singleton.mpr rfl)⟩
      · next h => exact ⟨hget, fun h0 => (h h0).elim⟩
    refine hbase _ ?_
    split <;> rfl
  obtain ⟨hget3, hout3⟩ := hd3
  clear_value d3 out
  obtain ⟨hgrows, hunc⟩ := Dev.finishFrames_shows (g := g) (L := .X_SPR_CW :: wordCounters) (M := []) (by decide) d3.rxFrames.length (d3.addWrap .X_SPR_CW n 1)
  rw [← he] at hgrows hunc
  have hset : ∀ {f : F} (i : Nat), f ≠ .X_SPR_CW → (d3.addWrap .X_SPR_CW n 1).get f i = d2.get f i := fun i hf =>
    (Dev.get_set_field _ _ _ _ hf).trans (hget3 _ i)
  rw [hc] at hlast
  refine ⟨q, last, hone, ?_, fun a ha => ?_, fun h => ⟨(hlast h).1, (hlast h).2.trans hans⟩, hcount.moved (fun f hf i => hread i ?_ ?_) (fun f hf i => ?_) fun h => hunc ?_, ?_, fun htx => ?_⟩
  · show q.passes ≤ max 1 (d.usable g)
    omega
  · rw [← hans] at ha
    rw [hsome a ha]
    exact ⟨rfl, ha⟩
  · exact (by decide : ∀ f ∈ wordCounters, f ∉ passFields) f hf
  · exact (by decide : ∀ f ∈ wordCounters, f ∉ signalFields) f hf
  · exact (hgrows.1.get f (List.mem_cons_of_mem _ hf) i).trans (hset i ((by decide : ∀ f ∈ wordCounters, f ≠ .X_SPR_CW) f hf))
  · unfold Dev.UncShown
    rw [hset _ (by decide), hset _ (by decide)]
    exact h
  · refine (hgrows.1.get _ List.mem_cons_self n).trans ((Dev.get_set_same ..).trans ?_)
    rw [hget3, hd2 _ (by decide) (by decide) (by decide)]
  · rw [← hout]
    exact hgrows.2.mem (hout3 ((hd2 _ (by decide) (by decide) (by decide)).trans htx))

theorem rsCodewordDecode_decodes {n : Fin 64} {s : State} (hsg : s.dev.sg (s.dev.groupOf n) = sgLOCKED) (hfirst : s.dev.rsFirst (s.dev.groupOf n) = some n.val)
    (hend : s.dev.rsEnd n ≤ s.dev.get .X_SPR_NO (s.dev.groupOf n) * (40960 / s.dev.width (engineOf n))) :
    Completes (.rsCodewordDecode n) s fun e => ∃ q last, s.dev.WordGone n (s.dev.groupOf n) (s.dev.rsSymbols n (s.dev.rsNow n) []) e q last := by
  refine .runAs (rfl : _ = execRsCodewordDecode n s) fun e he => ?_
  obtain ⟨q, last, h1, h2, h3, h4, h5, h6, h7⟩ := Dev.rsCodeword_decodes (d := s.found) hsg hfirst hend he
  have hsyms : s.found.rsSymbols n (s.found.rsNow n) [] = s.dev.rsSymbols n (s.dev.rsNow n) [] := by
    unfold Dev.rsSymbols
    rfl
  rw [hsyms] at h3 h4
  exact ⟨q, last, h1, h2, h3, h4, ⟨h5.words, h5.passes, h5.decoded, h5.failed⟩, h6, h7⟩

/-- Settles O42: frames sent, stream locks, relocks, and RS codewords decoded. -/
theorem spreadCommands : Obligations.SpreadCommands := by
  refine ⟨fun s => ⟨fun n courier hframing hw => ?_, fun n phase hsg hno => streamLock_locks phase hsg hno, fun n hlock hidle => streamLost_loses hlock hidle,
    fun e groups => spreadRelock_asks e groups s, fun e => sprClearStats_clears e s⟩, fun word erased syms hlen h => rsDecode_bound hlen h, fun n s => ?_⟩
  · exact transmitFrame_sends courier hframing hw
  · intro g syms hsg hfirst hend
    have h := rsCodewordDecode_decodes hsg hfirst hend
    have hsyms : s.dev.rsSymbols n (s.dev.rsNow n) [] = syms := rfl
    rw [hsyms] at h
    clear_value syms
    refine h.mono fun e ⟨q, last, hone, hmost, hfirst, honly, hcount, hnext, hout⟩ => ⟨hcount.words, hnext, q.passes, q.answer, last, hone, hmost, hfirst, honly,
      hcount.passes, hcount.decoded, hcount.failed, hout⟩

end Sys2Proof.Machine
end

section
/-! PROOFS. Anchors of a spread group, its frames received, and the loss of its lock (R190 to R195, R203, R204, R210, R217). -/

-- One theorem at a time: the whole text is compiled under a memory limit, which the stacks of waiting threads would fill.
set_option Elab.async false

namespace Sys2Proof.Machine

open Sys2Proof

/-! ## Anchors (R190 to R192) -/

section
variable {w own h : Nat} {words : List (Bool × List Bool)}

theorem anchorMarker_none (hno : ∀ h, h = own ∨ h < w → anchorPasses words h = false) : anchorMarker w own words = none := by
  refine List.find?_eq_none.mpr fun h hh => ?_
  rw [hno h ((List.mem_cons.mp hh).imp id List.mem_range.mp)]
  exact Bool.false_ne_true

theorem anchorMarker_own (hown : anchorPasses words own = true) : anchorMarker w own words = some own := List.find?_cons_of_pos hown

theorem anchorMarker_other (hh : h < w) (hpass : anchorPasses words h = true) (hown : anchorPasses words own = false)
    (hmin : ∀ k < h, anchorPasses words k = false) : anchorMarker w own words = some h := by
  unfold anchorMarker
  rw [List.find?_cons_of_neg (by rw [hown]; exact Bool.false_ne_true)]
  exact List.find?_range_eq_some.mpr ⟨hpass, List.mem_range.mpr hh, fun k hk => by rw [hmin k hk]; rfl⟩

end

theorem Dev.resolveStart_alone {d : Dev} {n : Nat} (h : d.anchoredLanes (d.groupOf n) = []) (start : Int) : d.resolveStart n start = start := by
  unfold Dev.resolveStart
  rw [h]

theorem Dev.resolveStart_near {d : Dev} {n m : Nat} {l : List Nat} (hw : d.get .SPR_CFG_WIDTH (engineOf n) ≤ 3) (h : d.anchoredLanes (d.groupOf n) = m :: l)
    (start : Int) : (∃ k : Int, d.resolveStart n start = start + d.segLen n * k) ∧ 2 * (d.resolveStart n start - d.frameStart m).natAbs ≤ d.segLen n := by
  have heq : d.resolveStart n start = start + d.segLen n * ((2 * (d.frameStart m - start) + d.segLen n) / (2 * d.segLen n)) := by
    unfold Dev.resolveStart
    rw [h]
  have hpos : 0 < d.segLen n := by
    unfold Dev.segLen
    have hw' : d.width (engineOf n) ≤ 8 := Nat.pow_le_pow_right (by decide) hw
    exact Nat.div_pos (le_trans hw' (by decide)) (Nat.two_pow_pos _)
  rw [heq]
  generalize d.segLen n = f at hpos ⊢
  generalize d.frameStart m = x
  have hdiv := Int.mul_ediv_add_emod (2 * (x - start) + f) (2 * f)
  have hlow := Int.emod_nonneg (2 * (x - start) + f) (b := 2 * f) (by omega)
  have hhigh := Int.emod_lt_of_pos (2 * (x - start) + f) (b := 2 * f) (by omega)
  generalize (2 * (x - start) + f) % (2 * (f : Int)) = r at hdiv hlow hhigh
  generalize (2 * (x - start) + f) / (2 * (f : Int)) = q at hdiv ⊢
  refine ⟨⟨q, rfl⟩, ?_⟩
  rw [Int.mul_assoc] at hdiv
  generalize (f : Int) * q = p at hdiv ⊢
  omega

/-- What says where the lanes of a group are anchored. -/
def anchorReads : List F := [.SPR_G_STATUS_ANCHOR, .X_SPR_START, .SPR_CFG_WIDTH]

section
variable {d e : Dev}

theorem Dev.lanesOfGroup_congr (h : ∀ i, e.get .SPR_CFG_WIDTH i = d.get .SPR_CFG_WIDTH i) (g : Nat) : e.lanesOfGroup g = d.lanesOfGroup g := by
  unfold Dev.lanesOfGroup Dev.width
  rw [h]

theorem Dev.anchored_congr (h : ∀ f ∈ [F.SPR_G_STATUS_ANCHOR, .SPR_CFG_WIDTH], ∀ i, e.get f i = d.get f i) (n : Nat) : e.anchored n = d.anchored n := by
  unfold Dev.anchored Dev.local_ Dev.groupOf Dev.width
  rw [h _ (by decide), h _ (by decide)]

theorem Dev.latestStart_congr (h : ∀ i, e.get .X_SPR_START i = d.get .X_SPR_START i) (l : List Nat) : e.latestStart l = d.latestStart l := by
  have hstart : e.frameStart = d.frameStart := funext fun n => by rw [Dev.frameStart, Dev.frameStart, h]
  unfold Dev.latestStart
  rw [hstart]

theorem Dev.skew_congr (h : ∀ f ∈ anchorReads, ∀ i, e.get f i = d.get f i) (g : Nat) : e.skew g = d.skew g := by
  have hstart : e.frameStart = d.frameStart := funext fun n => by rw [Dev.frameStart, Dev.frameStart, h _ (by decide)]
  have hanchored : e.anchored = d.anchored := funext fun n => Dev.anchored_congr (fun f hf => h f ((by decide : ∀ f ∈ [F.SPR_G_STATUS_ANCHOR, .SPR_CFG_WIDTH], f ∈ anchorReads) f hf)) n
  have hlanes : e.anchoredLanes g = d.anchoredLanes g := by
    unfold Dev.anchoredLanes
    rw [hanchored, Dev.lanesOfGroup_congr (h _ (by decide))]
  unfold Dev.skew
  dsimp only
  rw [hlanes, Dev.latestStart_congr (h _ (by decide)), hstart]

end

/-- What the end of a segment writes. -/
def segFields : List F := [.X_LRX_FLAGS, .LRX_SEG_COUNT, .LRX_INVALID_SEG_COUNT, .X_LRX_SEG_ABS, .X_LRX_BAD_SEG, .LRX_CHK_SKIPPED_COUNT]

theorem Dev.endSegs_shows (d : Dev) (n k bad flags : Nat) {e : Dev} (he : e = d.endSegs n k bad flags) : Dev.OnlyAt segFields n d e ∧
    e.get .LRX_SEG_COUNT n = (d.get .LRX_SEG_COUNT n + k) % 2 ^ F.LRX_SEG_COUNT.width := by
  unfold Dev.endSegs at he
  extract_lets b1 b2 b3 at he
  have h1 : Dev.OnlyAt segFields n d b1 := Dev.OnlyAt.write (.refl _ d) _ _
  have hk1 : b1.get .LRX_SEG_COUNT n = d.get .LRX_SEG_COUNT n := Dev.get_set_field _ _ _ _ (by decide)
  clear_value b1
  have h2 : Dev.OnlyAt segFields n d b2 := Dev.OnlyAt.write (Dev.OnlyAt.write h1 _ _) _ _
  have hk2 : b2.get .LRX_SEG_COUNT n = (b1.get .LRX_SEG_COUNT n + k) % 2 ^ F.LRX_SEG_COUNT.width :=
    (Dev.get_set_field _ _ _ _ (by decide)).trans (Dev.get_set_same ..)
  rw [hk1] at hk2
  clear_value b2
  have h3 : Dev.OnlyAt segFields n d b3 := Dev.OnlyAt.write (Dev.OnlyAt.write h2 _ _) _ _
  have hk3 : b3.get .LRX_SEG_COUNT n = b2.get .LRX_SEG_COUNT n := (Dev.get_set_field _ _ _ _ (by decide)).trans (Dev.get_set_field _ _ _ _ (by decide))
  clear_value b3
  rw [hk2] at hk3
  split at he
  · rw [he]
    exact ⟨Dev.OnlyAt.write h3 _ _, (Dev.get_set_field _ _ _ _ (by decide)).trans hk3⟩
  · rw [he]
    exact ⟨h3, hk3⟩

theorem Dev.takeAnchor_shows (d : Dev) (n : Nat) (start : Int) {e : Dev} (he : e = d.takeAnchor n start) :
    e.get .SPR_G_STATUS_ANCHOR (d.groupOf n) = d.get .SPR_G_STATUS_ANCHOR (d.groupOf n) ||| 2 ^ d.local_ n ∧ e.get .X_SPR_START n = ux 32 start ∧
      Dev.Only (fun f _ => f ∈ [F.SPR_G_STATUS_ANCHOR, .X_SPR_START]) d e := by
  rw [he]
  unfold Dev.takeAnchor
  exact ⟨(Dev.get_set_field _ _ _ _ (by decide)).trans (Dev.get_set_same ..), Dev.get_set_same .., Dev.Only.write (Dev.Only.write (.refl _ d) _ _ _) _ _ _⟩

/-- What an order error writes. -/
def orderFields : List F := [.SPR_G_ALIGN_ORDER_FOUND, .SPR_G_ALIGN_ORDER_LANE, .SPR_G_EVENTS_ORDER_ERR]

theorem Dev.orderError_shows (d : Dev) (g own found : Nat) {e : Dev} (he : e = d.orderError g own found) : e.get .SPR_G_ALIGN_ORDER_FOUND g = found ∧
    e.get .SPR_G_ALIGN_ORDER_LANE g = own ∧ e.get .SPR_G_EVENTS_ORDER_ERR g = 1 ∧ Dev.Raised (576 + 8 * (g / 8) + 2) d e ∧
    Dev.OnlyRaisingAt orderFields g d e := by
  unfold Dev.orderError Dev.raiseEngine at he
  extract_lets b at he
  have hfound : b.get .SPR_G_ALIGN_ORDER_FOUND g = found := (Dev.get_set_field _ _ _ _ (by decide)).trans (Dev.get_set_same ..)
  have hlane : b.get .SPR_G_ALIGN_ORDER_LANE g = own := Dev.get_set_same ..
  have hb : Dev.OnlyAt orderFields g d b := Dev.OnlyAt.write (Dev.OnlyAt.write (.refl _ d) _ _) _ _
  clear_value b
  have hc : Dev.OnlyAt orderFields g d (b.set .SPR_G_EVENTS_ORDER_ERR g 1) := Dev.OnlyAt.write hb _ _
  have hpend : (b.set .SPR_G_EVENTS_ORDER_ERR g 1).pending = d.pending := by rw [hc.1]
  rw [he]
  refine ⟨?_, ?_, ?_, .after hpend (hc.2 _ _ fun h => absurd h.2 (by decide)) (by omega), (Dev.Only.raising hc).raise _⟩
  · exact (raise_get _ _ _ _ (by decide)).trans ((Dev.get_set_field _ _ _ _ (by decide)).trans hfound)
  · exact (raise_get _ _ _ _ (by decide)).trans ((Dev.get_set_field _ _ _ _ (by decide)).trans hlane)
  · exact (raise_get _ _ _ _ (by decide)).trans (Dev.get_set_same ..)

section
variable {d e : Dev} {g : Nat}

theorem Dev.judgeAnchors_skewed (he : e = d.judgeAnchors g) (hskew : 256 < d.skew g) : e.get .SPR_G_STATUS_STATE g = d.get .SPR_G_STATUS_STATE g ∧
    e.get .SPR_G_EVENTS_SKEW_ERR g = 1 ∧ e.get .SPR_G_STATUS_ANCHOR g = 0 ∧ e.get .SPR_G_ALIGN_SKEW g = min 511 (d.skew g) ∧
    Dev.Raised (576 + 8 * (g / 8) + 2) d e := by
  unfold Dev.judgeAnchors at he
  extract_lets b c at he
  have hb : Dev.Only (fun f _ => f ∈ [F.SPR_G_ALIGN_SKEW]) d b := Dev.Only.write (.refl _ d) _ _ _
  have hshown : b.get .SPR_G_ALIGN_SKEW g = min 511 (d.skew g) := Dev.get_set_same ..
  have hbskew : b.skew g = d.skew g := Dev.skew_congr (fun f hf i => hb.2 f i ((by decide : ∀ f ∈ anchorReads, f ∉ [F.SPR_G_ALIGN_SKEW]) f hf)) g
  replace he := he.trans (if_pos (by rw [hbskew]; exact hskew))
  have hc : Dev.Only (fun f _ => f ∈ [F.SPR_G_EVENTS_SKEW_ERR, .SPR_G_STATUS_ANCHOR, .X_SPR_WAIT]) b c :=
    Dev.Only.write (Dev.Only.write (Dev.Only.write (.refl _ b) _ _ _) _ _ _) _ _ _
  have herr : c.get .SPR_G_EVENTS_SKEW_ERR g = 1 :=
    (Dev.get_set_field _ _ _ _ (by decide)).trans ((Dev.get_set_field _ _ _ _ (by decide)).trans (Dev.get_set_same ..))
  have hanchor : c.get .SPR_G_STATUS_ANCHOR g = 0 := (Dev.get_set_field _ _ _ _ (by decide)).trans (Dev.get_set_same ..)
  clear_value b c
  have hpend : c.pending = d.pending := by rw [hc.1, hb.1]
  unfold Dev.raiseEngine at he
  rw [he]
  refine ⟨?_, ?_, ?_, ?_, .after hpend ((hc.keeps _ _).trans (hb.keeps _ _)) (by omega)⟩
  · exact (raise_get _ _ _ _ (by decide)).trans ((hc.keeps _ _).trans (hb.keeps _ _))
  · exact (raise_get _ _ _ _ (by decide)).trans herr
  · exact (raise_get _ _ _ _ (by decide)).trans hanchor
  · exact (raise_get _ _ _ _ (by decide)).trans ((hc.keeps _ _).trans hshown)

theorem Dev.judgeAnchors_waits (he : e = d.judgeAnchors g) (hskew : d.skew g ≤ 256) (hmissing : ∃ m ∈ d.lanesOfGroup g, d.anchored m = false) :
    e.get .SPR_G_ALIGN_SKEW g = d.skew g ∧ Dev.OnlyAt [.SPR_G_ALIGN_SKEW] g d e := by
  unfold Dev.judgeAnchors at he
  extract_lets b c ref each at he
  have hb : Dev.OnlyAt [.SPR_G_ALIGN_SKEW] g d b := Dev.OnlyAt.write (.refl _ d) _ _
  have hread : ∀ f ∈ anchorReads, ∀ i, b.get f i = d.get f i := fun f hf i => hb.2 f i fun h =>
    (by decide : ∀ f ∈ anchorReads, f ∉ [F.SPR_G_ALIGN_SKEW]) f hf h.2
  have hshown : b.get .SPR_G_ALIGN_SKEW g = min 511 (d.skew g) := Dev.get_set_same ..
  obtain ⟨m, hm, hnot⟩ := hmissing
  have hall : ¬ ((b.lanesOfGroup g).all fun n => b.anchored n) = true := fun h => by
    have hm' := List.all_eq_true.mp h m (by rw [Dev.lanesOfGroup_congr (hread _ (by decide))]; exact hm)
    rw [Dev.anchored_congr (fun f hf => hread f ((by decide : ∀ f ∈ [F.SPR_G_STATUS_ANCHOR, .SPR_CFG_WIDTH], f ∈ anchorReads) f hf)), hnot] at hm'
    exact Bool.false_ne_true hm'
  rw [(he.trans (if_neg (by rw [Dev.skew_congr hread]; omega))).trans (if_neg hall), hshown]
  exact ⟨by omega, hb⟩

/-- A lane of a group that has lined up takes its delay. -/
def Dev.alignLane (g n : Nat) (d : Dev) : Dev := (d.setDelay g n).cutSeg n

theorem Dev.alignLane_only (d : Dev) (g n : Nat) : Dev.Only (fun f _ => f ∈ .SPR_L_ALIGN_DELAY :: segFields) d (d.alignLane g n) := by
  have hdelay : Dev.Only (fun f _ => f ∈ .SPR_L_ALIGN_DELAY :: segFields) d (d.setDelay g n) := Dev.Only.write (.refl _ d) _ _ _
  unfold Dev.alignLane Dev.cutSeg
  generalize d.setDelay g n = b at hdelay ⊢
  exact hdelay.trans ((b.endSegs_shows n 1 1 0 rfl).1.mono fun f _ h => List.mem_cons_of_mem _ h.2)

theorem Dev.judgeAnchors_verifies (he : e = d.judgeAnchors g) (hskew : d.skew g ≤ 256) (hall : ∀ m ∈ d.lanesOfGroup g, d.anchored m = true) :
    e.sg g = sgVERIFY ∧ e.get .X_SPR_GOOD g = 0 ∧ e.get .X_SPR_REF g = ux 32 (d.latestStart (d.lanesOfGroup g)) := by
  unfold Dev.judgeAnchors at he
  extract_lets b c ref each at he
  have hb : Dev.OnlyAt [.SPR_G_ALIGN_SKEW] g d b := Dev.OnlyAt.write (.refl _ d) _ _
  have hread : ∀ f ∈ anchorReads, ∀ i, b.get f i = d.get f i := fun f hf i => hb.2 f i fun h =>
    (by decide : ∀ f ∈ anchorReads, f ∉ [F.SPR_G_ALIGN_SKEW]) f hf h.2
  have hlanes : b.lanesOfGroup g = d.lanesOfGroup g := Dev.lanesOfGroup_congr (hread _ (by decide)) g
  have hallb : ((b.lanesOfGroup g).all fun n => b.anchored n) = true := List.all_eq_true.mpr fun m hm => by
    rw [Dev.anchored_congr (fun f hf => hread f ((by decide : ∀ f ∈ [F.SPR_G_STATUS_ANCHOR, .SPR_CFG_WIDTH], f ∈ anchorReads) f hf))]
    exact hall m (hlanes ▸ hm)
  have hlatest : b.latestStart (b.lanesOfGroup g) = d.latestStart (d.lanesOfGroup g) := by rw [hlanes, Dev.latestStart_congr (hread _ (by decide))]
  replace he := (he.trans (if_neg (by rw [Dev.skew_congr hread]; omega))).trans (if_pos hallb)
  have href : ref.get .X_SPR_REF g = ux 32 (d.latestStart (d.lanesOfGroup g)) := by
    rw [← hlatest]
    exact Dev.get_set_same ..
  have heach : each.get .X_SPR_REF g = ref.get .X_SPR_REF g :=
    Dev.forList_keeps (fun a => a.get .X_SPR_REF g) (g := fun n d => Dev.alignLane g n d) (fun n _ a => (a.alignLane_only g n).keeps _ _) ref
  clear_value each ref
  rw [he]
  refine ⟨(Dev.get_set_field _ _ _ _ (by decide)).trans (Dev.get_set_same ..), Dev.get_set_same .., ?_⟩
  exact (Dev.get_set_field _ _ _ _ (by decide)).trans ((Dev.get_set_field _ _ _ _ (by decide)).trans (heach.trans href))

end

section
variable {n h : Nat} {start : Int} {d e : Dev} (hrx : d.rxLocked n = true) (hex : d.groupExists (d.groupOf n) = true) (hno : d.anchored n = false)
include hrx hex hno

theorem Dev.anchorFound_searching : d.anchorFound n h start =
    if d.sg (d.groupOf n) = sgHUNT ∧ (!d.on .X_SPR_WAIT (d.groupOf n)) = true then
      if h ≠ d.local_ n then d.orderError (d.groupOf n) (d.local_ n) h
      else (d.takeAnchor n (d.resolveStart n start)).judgeAnchors (d.groupOf n)
    else if d.sg (d.groupOf n) = sgLOCKED ∧ (d.resolveStart n start - d.frameStart n).natAbs ≤ 128 then
      if h ≠ d.local_ n then d.orderError (d.groupOf n) (d.local_ n) h
      else (((d.takeAnchor n (d.resolveStart n start)).alignLane (d.groupOf n) n).set .X_SPR_REJOIN n 0).set .SPR_G_EVENTS_LANE_REJOIN (d.groupOf n) 1
    else d := by
  unfold Dev.anchorFound
  exact if_pos (by rw [hrx, hex, hno]; rfl)

theorem Dev.anchorFound_rejoins (hsg : d.sg (d.groupOf n) = sgLOCKED) (hnear : (d.resolveStart n start - d.frameStart n).natAbs ≤ 128)
    (he : e = d.anchorFound n (d.local_ n) start) : e.sg (d.groupOf n) = sgLOCKED ∧
      e.get .SPR_G_STATUS_ANCHOR (d.groupOf n) = d.get .SPR_G_STATUS_ANCHOR (d.groupOf n) ||| 2 ^ d.local_ n ∧
      e.get .SPR_G_EVENTS_LANE_REJOIN (d.groupOf n) = 1 ∧ e.get .X_SPR_REJOIN n = 0 := by
  rw [Dev.anchorFound_searching hrx hex hno] at he
  replace he := he.trans (if_neg fun hhunt => absurd (hsg.symm.trans hhunt.1) (by decide))
  replace he := (he.trans (if_pos ⟨hsg, hnear⟩)).trans (if_neg fun hne => hne rfl)
  obtain ⟨hanchor, -, htake⟩ := d.takeAnchor_shows n (d.resolveStart n start) rfl
  generalize d.takeAnchor n (d.resolveStart n start) = a at he hanchor htake
  have halign := a.alignLane_only (d.groupOf n) n
  generalize a.alignLane (d.groupOf n) n = b at he halign
  rw [he]
  refine ⟨?_, ?_, Dev.get_set_same .., ?_⟩
  · exact (Dev.get_set_field _ _ _ _ (by decide)).trans ((Dev.get_set_field _ _ _ _ (by decide)).trans
      ((halign.keeps _ _).trans ((htake.keeps _ _).trans hsg)))
  · exact (Dev.get_set_field _ _ _ _ (by decide)).trans ((Dev.get_set_field _ _ _ _ (by decide)).trans ((halign.keeps _ _).trans hanchor))
  · exact (Dev.get_set_field _ _ _ _ (by decide)).trans (Dev.get_set_same ..)

end

/-- What the words of a lane bring about. -/
theorem anchorFound_runs {n : Fin 64} {words : List (Bool × List Bool)} {start : Word} {s : State} {h : Nat} {P : Dev → Prop}
    (hmark : anchorMarker (s.dev.width (engineOf n)) (s.dev.local_ n) words = some h) (hp : ∀ e, e = s.found.anchorFound n h (sx 32 start.toNat) → P e) :
    Completes (.anchorFound n words start) s P := by
  refine .runAs (rfl : _ = execAnchorFound n words start s) fun e he => hp e (he.trans ?_)
  rw [show anchorMarker (s.found.width (engineOf n)) (s.found.local_ n) words = some h from hmark]

theorem anchorFound_nothing {n : Fin 64} {words : List (Bool × List Bool)} {s : State} (start : Word)
    (hmark : anchorMarker (s.dev.width (engineOf n)) (s.dev.local_ n) words = none) : Completes (.anchorFound n words start) s fun e => e = s.found := by
  refine .runAs (rfl : _ = execAnchorFound n words start s) fun e he => he.trans ?_
  rw [show anchorMarker (s.found.width (engineOf n)) (s.found.local_ n) words = none from hmark]

section
variable {n : Fin 64} {words : List (Bool × List Bool)} {start : Word} {s : State} {e : Dev}
  (hrx : s.dev.rxLocked n = true) (hex : s.dev.groupExists (s.dev.groupOf n) = true) (hno : s.dev.anchored n = false)
  (hsg : s.dev.sg (s.dev.groupOf n) = sgHUNT) (hwait : s.dev.get .X_SPR_WAIT (s.dev.groupOf n) ≠ 1)
include hrx hex hno hsg hwait

theorem anchorFound_hunts (h : Nat) : s.found.anchorFound n h (sx 32 start.toNat) =
    if h ≠ s.dev.local_ n then s.found.orderError (s.dev.groupOf n) (s.dev.local_ n) h
    else (s.found.takeAnchor n (s.dev.resolveStart n (sx 32 start.toNat))).judgeAnchors (s.dev.groupOf n) := by
  have hnowait : (!s.found.on .X_SPR_WAIT (s.found.groupOf n)) = true := by
    rw [Bool.not_eq_true']
    exact beq_eq_false_iff_ne.mpr hwait
  rw [Dev.anchorFound_searching (d := s.found) hrx hex hno]
  exact if_pos ⟨hsg, hnowait⟩

theorem anchorFound_orders {h : Nat} (hne : h ≠ s.dev.local_ n) (he : e = s.found.anchorFound n h (sx 32 start.toNat)) :
    e.get .SPR_G_ALIGN_ORDER_FOUND (s.dev.groupOf n) = h ∧ e.get .SPR_G_ALIGN_ORDER_LANE (s.dev.groupOf n) = s.dev.local_ n ∧
      e.get .SPR_G_EVENTS_ORDER_ERR (s.dev.groupOf n) = 1 ∧ Dev.Raised (576 + 8 * (s.dev.groupOf n / 8) + 2) s.dev e ∧
      Dev.OnlyRaisingAt orderFields (s.dev.groupOf n) s.dev e := by
  rw [anchorFound_hunts hrx hex hno hsg hwait] at he
  obtain ⟨h1, h2, h3, h4, h5⟩ := Dev.orderError_shows _ _ _ _ (he.trans (if_pos hne))
  exact ⟨h1, h2, h3, h4.ofFound, h5.ofFound⟩

theorem anchorFound_judges (he : e = s.found.anchorFound n (s.dev.local_ n) (sx 32 start.toNat)) :
    e = (s.found.takeAnchor n (s.dev.resolveStart n (sx 32 start.toNat))).judgeAnchors (s.dev.groupOf n) := by
  rw [anchorFound_hunts hrx hex hno hsg hwait] at he
  exact he.trans (if_neg fun hne => hne rfl)

theorem anchorFound_waits (he : e = s.found.anchorFound n (s.dev.local_ n) (sx 32 start.toNat))
    (hskew : (s.found.takeAnchor n (s.dev.resolveStart n (sx 32 start.toNat))).skew (s.dev.groupOf n) ≤ 256)
    (hmissing : ∃ m ∈ (s.found.takeAnchor n (s.dev.resolveStart n (sx 32 start.toNat))).lanesOfGroup (s.dev.groupOf n),
      (s.found.takeAnchor n (s.dev.resolveStart n (sx 32 start.toNat))).anchored m = false) : e.sg (s.dev.groupOf n) = sgHUNT ∧
      e.get .SPR_G_STATUS_ANCHOR (s.dev.groupOf n) = s.dev.get .SPR_G_STATUS_ANCHOR (s.dev.groupOf n) ||| 2 ^ s.dev.local_ n ∧
      e.get .X_SPR_START n = ux 32 (s.dev.resolveStart n (sx 32 start.toNat)) ∧
      e.get .SPR_G_ALIGN_SKEW (s.dev.groupOf n) = (s.found.takeAnchor n (s.dev.resolveStart n (sx 32 start.toNat))).skew (s.dev.groupOf n) := by
  obtain ⟨hanchor, hstart, htake⟩ := s.found.takeAnchor_shows n (s.dev.resolveStart n (sx 32 start.toNat)) rfl
  obtain ⟨h1, h2⟩ := Dev.judgeAnchors_waits (anchorFound_judges hrx hex hno hsg hwait he) hskew hmissing
  have hkeep : ∀ {f : F} (i : Nat), f ≠ .SPR_G_ALIGN_SKEW → e.get f i = _ := fun i hf => h2.2 _ i fun h => hf (List.mem_singleton.mp h.2)
  exact ⟨(hkeep _ (by decide)).trans ((htake.keeps _ _).trans hsg), (hkeep _ (by decide)).trans hanchor, (hkeep _ (by decide)).trans hstart, h1⟩

theorem anchorFound_skewed (he : e = s.found.anchorFound n (s.dev.local_ n) (sx 32 start.toNat))
    (hskew : 256 < (s.found.takeAnchor n (s.dev.resolveStart n (sx 32 start.toNat))).skew (s.dev.groupOf n)) : e.sg (s.dev.groupOf n) = sgHUNT ∧
      e.get .SPR_G_EVENTS_SKEW_ERR (s.dev.groupOf n) = 1 ∧ e.get .SPR_G_STATUS_ANCHOR (s.dev.groupOf n) = 0 ∧
      e.get .SPR_G_ALIGN_SKEW (s.dev.groupOf n) = min 511 ((s.found.takeAnchor n (s.dev.resolveStart n (sx 32 start.toNat))).skew (s.dev.groupOf n)) ∧
      Dev.Raised (576 + 8 * (s.dev.groupOf n / 8) + 2) s.dev e := by
  obtain ⟨-, -, htake⟩ := s.found.takeAnchor_shows n (s.dev.resolveStart n (sx 32 start.toNat)) rfl
  obtain ⟨h1, h2, h3, h4, h5⟩ := Dev.judgeAnchors_skewed (anchorFound_judges hrx hex hno hsg hwait he) hskew
  have hpend : (s.found.takeAnchor n (s.dev.resolveStart n (sx 32 start.toNat))).pending = s.found.pending := by rw [htake.1]
  exact ⟨h1.trans ((htake.keeps _ _).trans hsg), h2, h3, h4, (h5.before hpend (htake.keeps _ _)).ofFound⟩

end

/-! ## The first pass on a frame (R183, R198) -/

theorem getD_map_range {α : Type} {f : Nat → α} {m k : Nat} (h : m < k) (x : α) : ((List.range k).map f).getD m x = f m := by
  simp [List.getD_eq_getElem?_getD, h]

theorem column_lt {i : Nat} (h : i < 136) : column i < 2 ^ 8 := by
  by_cases hi : i < 128
  · exact column_data_lt hi
  · rw [column, if_neg hi]
    exact Nat.pow_lt_pow_right (by decide) (by omega)

theorem syndrome_lt (c : List Bool) : syndrome c < 2 ^ 8 := by
  refine List.foldlRecOn (List.range 136) _ (motive := fun s => s < 2 ^ 8) (by decide) fun s hs i hi => ?_
  split
  · exact Nat.xor_lt_two_pow hs (column_lt (List.mem_range.mp hi))
  · exact hs

/-- No word passes for a codeword with a marker above eight bits. -/
theorem innerCandidate_far {marker : Nat} (hfar : 2 ^ 8 ≤ marker) (r : List Bool) (cl : List BitClass) (us : List Nat) (t : Nat) :
    innerCandidate marker r cl us t = none := by
  unfold innerCandidate
  extract_lets y s
  have hs : ¬ s < 2 ^ 8 := fun hs => by
    have hm : marker = syndrome y ^^^ s := by
      show marker = syndrome y ^^^ (syndrome y ^^^ marker)
      rw [← Nat.xor_assoc, Nat.xor_self, Nat.zero_xor]
    have hlt := Nat.xor_lt_two_pow (syndrome_lt y) hs
    rw [← hm] at hlt
    omega
  have hnone : ((List.range 136).find? fun j => column j == s) = none := List.find?_eq_none.mpr fun j hj h => by
    rw [← beq_iff_eq.mp h] at hs
    exact hs (column_lt (List.mem_range.mp hj))
  rw [if_neg fun h0 => hs (by rw [h0]; decide), hnone]

theorem innerPass_far {marker : Nat} (hfar : 2 ^ 8 ≤ marker) (r : List Bool) (cl : List BitClass) (t : Nat) : innerPass marker r cl t = (r, none) := by
  unfold innerPass
  extract_lets us b
  have hb : b = (none, 4095) := by
    refine List.foldlRecOn (List.range (2 ^ us.length)) _ (motive := fun b : Option (List Bool × Nat) × Nat => b = (none, 4095)) rfl fun b hb k _ => ?_
    rw [innerCandidate_far hfar]
    exact hb
  rw [hb]

/-- What the first pass leaves of the codewords of a frame. -/
def firstPass (w valid : Nat) (letters : List (List (Fin 16))) : List (List Bool × Option Nat) :=
  (List.range 320).map fun m => innerPass (codewordMarker w m) (wordBits w m letters) (wordClasses w m valid letters) 4

theorem firstPass_getD {w valid m : Nat} {letters : List (List (Fin 16))} (hm : m < 320) : (firstPass w valid letters).getD m ([], none) =
    innerPass (codewordMarker w m) (wordBits w m letters) (wordClasses w m valid letters) 4 := getD_map_range hm _

/-- An anchor of a lane that its group does not have: there are none but at widths whose markers no codeword carries. -/
theorem anchorOf_beyond {k m g : Nat} (hm : m < 320) (h : anchorOf (2 ^ k) m = some g) (hg : 2 ^ k ≤ g) : 2 ^ 8 ≤ codewordMarker (2 ^ k) m := by
  have hmark : codewordMarker (2 ^ k) m = 0xC0 + g := by
    unfold codewordMarker
    rw [h]
    rfl
  rw [hmark]
  have hgm : g = m / (320 / 2 ^ k) := by
    unfold anchorOf at h
    split at h
    · exact (Option.some.inj h).symm
    · exact nomatch h
  by_cases hk : k ≤ 6
  · exfalso
    interval_cases k <;> omega
  · have h7 : 2 ^ 7 ≤ 2 ^ k := Nat.pow_le_pow_right (by decide) (by omega)
    omega

theorem correctedBits_beyond {k l : Nat} (hl : 2 ^ k ≤ l) {x : RxFrame} (hx : x.words = firstPass (2 ^ k) x.valid x.letters) : correctedBits (2 ^ k) l x = 0 := by
  refine List.sum_eq_zero fun c hc => ?_
  obtain ⟨m, hm, rfl⟩ := List.mem_map.mp hc
  have hm := List.mem_range.mp hm
  dsimp only
  rw [hx, firstPass_getD hm, List.length_eq_zero_iff, List.filter_eq_nil_iff]
  intro i _ hi
  obtain ⟨hlane, hdiff⟩ := Bool.and_eq_true_iff.mp hi
  replace hlane := beq_iff_eq.mp hlane
  unfold lanePlace at hlane
  split at hlane
  · next g hg =>
    have hgl : g = l := hlane
    rw [innerPass_far (anchorOf_beyond hm hg (by rw [hgl]; exact hl)), bne_self_eq_false] at hdiff
    exact Bool.false_ne_true hdiff
  · have hlt : i % 2 ^ k < 2 ^ k := Nat.mod_lt _ (Nat.two_pow_pos k)
    have hlane : i % 2 ^ k = l := hlane
    omega

theorem correctedBits_getD {k : Nat} (l : Nat) {x : RxFrame} (hx : x.words = firstPass (2 ^ k) x.valid x.letters) :
    ((List.range (2 ^ k)).map fun l => correctedBits (2 ^ k) l x).getD l 0 = correctedBits (2 ^ k) l x := by
  by_cases hl : l < 2 ^ k
  · exact getD_map_range hl _
  · rw [correctedBits_beyond (by omega) hx]
    exact List.getD_eq_default _ _ (by rw [List.length_map, List.length_range]; omega)

/-! ## A frame received (R193 to R195, R204) -/

/-- The normal codewords of a frame with syndrome 0. -/
def goodWords (w : Nat) (letters : List (List (Fin 16))) : Nat :=
  ((List.range 320).filter fun m => anchorOf w m == none && syndrome (wordBits w m letters) == 0).length

/-- The lanes whose anchors fail. -/
def missedAnchors (w : Nat) (letters : List (List (Fin 16))) : Nat := bitsWhere w fun l => syndrome (wordBits w (320 * l / w) letters) != 0xC0 + l

/-- The lanes whose segments are VALID. -/
def Dev.validLanes (d : Dev) (g : Nat) : Nat := bitsWhere (d.width (g / 8)) fun l => d.segValid (d.firstLane g + l)

/-- The segments of a frame end. -/
def Dev.segsEnded (d : Dev) (g valid : Nat) : Dev :=
  Dev.forList (d.lanesOfGroup g) (fun n d => d.endSegs n 1 (b2n (!bitAt valid (d.local_ n))) (b2n (bitAt valid (d.local_ n)))) d

/-- The frame of a LOCKED group as it is kept. -/
def Dev.newFrame (d : Dev) (g : Nat) (letters : List (List (Fin 16))) (time : Nat) : RxFrame :=
  ⟨g, d.get .X_SPR_NO g, time, d.validLanes g, letters, firstPass (d.width (g / 8)) (d.validLanes g) letters⟩

/-- A frame of a LOCKED group is kept. -/
def Dev.frameTaken (d : Dev) (g : Nat) (letters : List (List (Fin 16))) (time : Nat) : Dev :=
  { d.segsEnded g (d.validLanes g) with rxFrames := d.rxFrames ++ [d.newFrame g letters time] }.addWrap .X_SPR_NO g 1

theorem bitsWhere_congr {n : Nat} {p q : Nat → Bool} (h : ∀ i < n, p i = q i) : bitsWhere n p = bitsWhere n q :=
  congrArg List.sum (List.map_congr_left fun i hi => by rw [h i (List.mem_range.mp hi)])

theorem Dev.frameReceived_eq (d : Dev) (g : Nat) (letters : List (List (Fin 16))) (time : Nat) : d.frameReceived g letters time =
    if d.sg g = sgVERIFY then
      if goodWords (d.width (g / 8)) letters < 32 then ((d.segsEnded g (d.validLanes g)).toHunt g).clearAnchors g
      else if (d.segsEnded g (d.validLanes g)).get .X_SPR_GOOD g = 0 then (d.segsEnded g (d.validLanes g)).set .X_SPR_GOOD g 1
      else (d.segsEnded g (d.validLanes g)).enterGroupLock g
    else if d.sg g = sgLOCKED then
      Dev.finishFrames g (d.frameTaken g letters time).rxFrames.length ((d.frameTaken g letters time).judgeFrame g (goodWords (d.width (g / 8)) letters)
        (d.validLanes g) (missedAnchors (d.width (g / 8)) letters))
    else d := by
  unfold Dev.frameReceived
  extract_lets w valid bits good miss ended b words x c
  have hbits : ∀ m < 320, bits.getD m [] = wordBits w m letters := fun m hm => getD_map_range hm _
  have hgood : good = goodWords (d.width (g / 8)) letters := by
    refine congrArg List.length (List.filter_congr fun m hm => ?_)
    rw [hbits m (List.mem_range.mp hm), Option.beq_none]
  have hmiss : miss = missedAnchors (d.width (g / 8)) letters := bitsWhere_congr fun l hl => by
    have hl320 : 320 * l / w < 320 := Nat.div_lt_of_lt_mul (by rw [Nat.mul_comm 320 l]; exact Nat.mul_lt_mul_of_pos_right hl (by decide))
    rw [hbits _ hl320]
  have hwords : words = firstPass (d.width (g / 8)) (d.validLanes g) letters := List.map_congr_left fun m hm => by
    rw [hbits m (List.mem_range.mp hm)]
    rfl
  have hx : x = d.newFrame g letters time := by
    show (⟨g, d.get .X_SPR_NO g, time, valid, letters, words⟩ : RxFrame) = _
    rw [hwords]
    rfl
  have hc : c = d.frameTaken g letters time := by
    show ({ ended d with rxFrames := d.rxFrames ++ [x] } : Dev).addWrap .X_SPR_NO g 1 = _
    rw [hx]
    rfl
  have hvalid : valid = d.validLanes g := rfl
  have hended : b = d.segsEnded g (d.validLanes g) := rfl
  clear_value good miss c b valid
  rw [hgood, hmiss, hc, hended, hvalid]

/-- What the segments of a frame leave alone. -/
theorem Dev.segsEnded_only (d : Dev) (g valid : Nat) : Dev.Only (fun f i => i ∈ d.lanesOfGroup g ∧ f ∈ segFields) d (d.segsEnded g valid) :=
  List.foldlRecOn (d.lanesOfGroup g) _ (motive := fun a => Dev.Only (fun f i => i ∈ d.lanesOfGroup g ∧ f ∈ segFields) d a) (.refl _ d) fun a ha n hn =>
    ha.trans ((a.endSegs_shows n 1 _ _ rfl).1.mono fun _ _ h => ⟨h.1 ▸ hn, h.2⟩)

theorem Dev.lanesOfGroup_nodup (d : Dev) (g : Nat) : (d.lanesOfGroup g).Nodup :=
  List.nodup_range.map fun a b h => by
    have h : _ + a = _ + b := h
    exact Nat.add_left_cancel h

theorem Dev.mem_lanesOfGroup {d : Dev} {g n : Nat} : n ∈ d.lanesOfGroup g ↔ ∃ l < d.width (g / 8), n = d.firstLane g + l := by
  unfold Dev.lanesOfGroup Dev.firstLane
  rw [List.mem_map]
  exact exists_congr fun l => and_congr List.mem_range eq_comm

theorem Dev.segsEnded_counts (d : Dev) (g valid : Nat) {n : Nat} (hn : n ∈ d.lanesOfGroup g) :
    (d.segsEnded g valid).get .LRX_SEG_COUNT n = (d.get .LRX_SEG_COUNT n + 1) % 2 ^ F.LRX_SEG_COUNT.width := by
  obtain ⟨b, ⟨-, hbefore⟩, -, hafter⟩ := Dev.forList_visits (L := []) (N := [.LRX_SEG_COUNT]) (M := [])
    (g := fun n d => d.endSegs n 1 (b2n (!bitAt valid (d.local_ n))) (b2n (bitAt valid (d.local_ n)))) (fun y a => .ofOnly (a.endSegs_shows y 1 _ _ rfl).1
      (fun _ hf => absurd hf List.not_mem_nil) (fun _ _ i hi h => hi h.1) fun _ h => absurd h.2 (by decide)) (d.lanesOfGroup_nodup g) hn d
  refine (hafter _ List.mem_cons_self).trans ?_
  rw [(b.endSegs_shows n 1 _ _ rfl).2, hbefore _ List.mem_cons_self]

/-- What the judgement of a frame writes. -/
def judgeFields : List F := [.X_SPR_BAD, .SPR_L_ALIGN_ANCHOR_MISS, .X_SPR_REJOIN]

/-- What the judgement of a frame reads of its lanes. -/
def judgeReads : List F := [.X_SPR_BAD, .SPR_CFG_WIDTH, .SPR_G_STATUS_ANCHOR, .LRX_STATUS_STATE]

/-- What a frame says of one lane. -/
def Dev.judgeLane (valid miss n : Nat) (d : Dev) : Dev :=
  let d := if bitAt valid (d.local_ n) && bitAt miss (d.local_ n) then d.addSat .SPR_L_ALIGN_ANCHOR_MISS n 1 else d
  if d.rxLocked n && !d.anchored n then d.set .X_SPR_REJOIN n (min 256 (d.get .X_SPR_REJOIN n + 1)) else d

theorem Dev.judgeLane_shows (d : Dev) (valid miss n : Nat) {e : Dev} (he : e = d.judgeLane valid miss n) :
    Dev.OnlyAt [.SPR_L_ALIGN_ANCHOR_MISS, .X_SPR_REJOIN] n d e ∧
    (bitAt valid (d.local_ n) = true → bitAt miss (d.local_ n) = true → e.get .SPR_L_ALIGN_ANCHOR_MISS n =
      satAdd F.SPR_L_ALIGN_ANCHOR_MISS.width (d.get .SPR_L_ALIGN_ANCHOR_MISS n) 1) ∧
    (d.rxLocked n = true → d.anchored n = false → e.get .X_SPR_REJOIN n = min 256 (d.get .X_SPR_REJOIN n + 1)) := by
  unfold Dev.judgeLane at he
  extract_lets b at he
  have hb : Dev.OnlyAt [.SPR_L_ALIGN_ANCHOR_MISS, .X_SPR_REJOIN] n d b ∧ b.get .X_SPR_REJOIN n = d.get .X_SPR_REJOIN n ∧
      (bitAt valid (d.local_ n) = true → bitAt miss (d.local_ n) = true → b.get .SPR_L_ALIGN_ANCHOR_MISS n =
        satAdd F.SPR_L_ALIGN_ANCHOR_MISS.width (d.get .SPR_L_ALIGN_ANCHOR_MISS n) 1) := by
    by_cases h : (bitAt valid (d.local_ n) && bitAt miss (d.local_ n)) = true
    · rw [show b = d.addSat .SPR_L_ALIGN_ANCHOR_MISS n 1 from if_pos h]
      exact ⟨Dev.OnlyAt.write (.refl _ d) _ _, Dev.get_set_field _ _ _ _ (by decide), fun _ _ => Dev.get_set_same ..⟩
    · rw [show b = d from if_neg h]
      exact ⟨.refl _ d, rfl, fun h1 h2 => (h (Bool.and_eq_true_iff.mpr ⟨h1, h2⟩)).elim⟩
  obtain ⟨honly, hrejoin, hmiss⟩ := hb
  have hkeep : ∀ {f : F} (i : Nat), f ∉ [F.SPR_L_ALIGN_ANCHOR_MISS, .X_SPR_REJOIN] → b.get f i = d.get f i := fun i hf => honly.2 _ i fun h => hf h.2
  have hlocked : b.rxLocked n = d.rxLocked n := congrArg (· == rxLOCKED) (hkeep n (by decide))
  have hanchored : b.anchored n = d.anchored n := Dev.anchored_congr (fun f hf i =>
    hkeep i ((by decide : ∀ f ∈ [F.SPR_G_STATUS_ANCHOR, .SPR_CFG_WIDTH], f ∉ [F.SPR_L_ALIGN_ANCHOR_MISS, .X_SPR_REJOIN]) f hf)) n
  clear_value b
  rw [hlocked, hanchored] at he
  by_cases h : (d.rxLocked n && !d.anchored n) = true
  · rw [he.trans (if_pos h), hrejoin]
    exact ⟨Dev.OnlyAt.write honly _ _, fun h1 h2 => (Dev.get_set_field _ _ _ _ (by decide)).trans (hmiss h1 h2), fun _ _ => Dev.get_set_same ..⟩
  · rw [he.trans (if_neg h)]
    refine ⟨honly, hmiss, fun h1 h2 => (h ?_).elim⟩
    rw [h1, h2]
    rfl

theorem Dev.judgeLane_steady (d : Dev) (valid miss n : Nat) :
    Dev.Steady judgeReads [.SPR_L_ALIGN_ANCHOR_MISS, .X_SPR_REJOIN] n [] d (d.judgeLane valid miss n) :=
  .ofOnly (d.judgeLane_shows valid miss n rfl).1 (fun f hf _ h => (by decide : ∀ f ∈ judgeReads, f ∉ [F.SPR_L_ALIGN_ANCHOR_MISS, .X_SPR_REJOIN]) f hf h.2)
    (fun _ _ _ hi h => hi h.1) fun _ h => absurd h.2 (by decide)

/-- What a frame says of a LOCKED group. -/
def Dev.judgeGroup (d : Dev) (g good valid : Nat) : Dev :=
  if !d.allValid g valid then d else d.set .X_SPR_BAD g (if good < 32 then min 16 (d.get .X_SPR_BAD g + 1) else 0)

theorem Dev.judgeFrame_eq (d : Dev) (g good valid miss : Nat) : d.judgeFrame g good valid miss =
    Dev.forList ((d.judgeGroup g good valid).lanesOfGroup g) (fun n d => d.judgeLane valid miss n) (d.judgeGroup g good valid) := rfl

theorem Dev.judgeGroup_only (d : Dev) (g good valid : Nat) : Dev.Only (fun f _ => f ∈ [F.X_SPR_BAD]) d (d.judgeGroup g good valid) := by
  unfold Dev.judgeGroup
  split
  · exact .refl _ d
  · exact Dev.Only.write (.refl _ d) _ _ _

theorem Dev.judgeFrame_only (d : Dev) (g good valid miss : Nat) : Dev.Only (fun f _ => f ∈ judgeFields) d (d.judgeFrame g good valid miss) := by
  rw [Dev.judgeFrame_eq]
  refine List.foldlRecOn (List.map _ _) _ (motive := fun a => Dev.Only (fun f _ => f ∈ judgeFields) d a)
    ((d.judgeGroup_only g good valid).mono fun f _ h => (by decide : ∀ f ∈ [F.X_SPR_BAD], f ∈ judgeFields) f h) fun a ha n _ => ?_
  exact ha.trans ((a.judgeLane_shows valid miss n rfl).1.mono fun f _ h =>
    (by decide : ∀ f ∈ [F.SPR_L_ALIGN_ANCHOR_MISS, .X_SPR_REJOIN], f ∈ judgeFields) f h.2)

theorem Dev.judgeFrame_bad {d : Dev} {g valid : Nat} (hall : d.allValid g valid = true) (good miss : Nat) :
    (d.judgeFrame g good valid miss).get .X_SPR_BAD g = if good < 32 then min 16 (d.get .X_SPR_BAD g + 1) else 0 := by
  have hgroup : d.judgeGroup g good valid = d.set .X_SPR_BAD g (if good < 32 then min 16 (d.get .X_SPR_BAD g + 1) else 0) :=
    if_neg (by rw [hall]; exact Bool.false_ne_true)
  rw [Dev.judgeFrame_eq, hgroup]
  refine (Dev.forList_keeps (fun a => a.get .X_SPR_BAD g) (fun n _ a => ?_) _).trans (Dev.get_set_same ..)
  exact (a.judgeLane_steady valid miss n).get _ (by decide) _

theorem Dev.judgeFrame_lane (d : Dev) (g good valid miss : Nat) {n : Nat} (hn : n ∈ d.lanesOfGroup g) :
    (bitAt valid (d.local_ n) = true → bitAt miss (d.local_ n) = true → (d.judgeFrame g good valid miss).get .SPR_L_ALIGN_ANCHOR_MISS n =
      satAdd F.SPR_L_ALIGN_ANCHOR_MISS.width (d.get .SPR_L_ALIGN_ANCHOR_MISS n) 1) ∧
    (d.rxLocked n = true → d.anchored n = false → (d.judgeFrame g good valid miss).get .X_SPR_REJOIN n = min 256 (d.get .X_SPR_REJOIN n + 1)) := by
  have hgroup := d.judgeGroup_only g good valid
  rw [Dev.judgeFrame_eq]
  generalize d.judgeGroup g good valid = c at hgroup ⊢
  have hn' : n ∈ c.lanesOfGroup g := by
    rw [Dev.lanesOfGroup_congr fun i => hgroup.keeps _ _]
    exact hn
  obtain ⟨b, ⟨hb, hbefore⟩, -, hafter⟩ := Dev.forList_visits (g := fun n d => d.judgeLane valid miss n) (fun y a => a.judgeLane_steady valid miss y)
    (c.lanesOfGroup_nodup g) hn' c
  obtain ⟨-, hmiss, hrejoin⟩ := b.judgeLane_shows valid miss n rfl
  have hread : ∀ f ∈ judgeReads, f ≠ .X_SPR_BAD → ∀ i, b.get f i = d.get f i := fun f hf hne i =>
    (hb.get f hf i).trans (hgroup.2 f i fun h => hne (List.mem_singleton.mp h))
  have hlocal : b.local_ n = d.local_ n := by
    unfold Dev.local_ Dev.width
    rw [hread _ (by decide) (by decide)]
  have hanchored : b.anchored n = d.anchored n := Dev.anchored_congr (fun f hf => hread f
    ((by decide : ∀ f ∈ [F.SPR_G_STATUS_ANCHOR, .SPR_CFG_WIDTH], f ∈ judgeReads) f hf)
    ((by decide : ∀ f ∈ [F.SPR_G_STATUS_ANCHOR, .SPR_CFG_WIDTH], f ≠ .X_SPR_BAD) f hf)) n
  have hlocked : b.rxLocked n = d.rxLocked n := congrArg (· == rxLOCKED) (hread _ (by decide) (by decide) n)
  rw [hlocal, hbefore _ (by decide), hgroup.keeps _ _] at hmiss
  rw [hlocked, hanchored, hbefore _ (by decide), hgroup.keeps _ _] at hrejoin
  exact ⟨fun h1 h2 => (hafter _ (by decide)).trans (hmiss h1 h2), fun h1 h2 => (hafter _ (by decide)).trans (hrejoin h1 h2)⟩

/-! ## A frame that is done at once (R203, R204, R210) -/

theorem Dev.tallyFrame_counts (d : Dev) (g valid doubt : Nat) :
    (d.tallyFrame g valid doubt).get .SPR_G_FRAMES_COUNT g = (d.get .SPR_G_FRAMES_COUNT g + 1) % 2 ^ F.SPR_G_FRAMES_COUNT.width := by
  unfold Dev.tallyFrame
  extract_lets b
  have hb : b.get .SPR_G_FRAMES_COUNT g = (d.get .SPR_G_FRAMES_COUNT g + 1) % 2 ^ F.SPR_G_FRAMES_COUNT.width :=
    (Dev.get_set_field _ _ _ _ (by decide)).trans (Dev.get_set_same ..)
  clear_value b
  split
  · exact hb
  · exact (Dev.get_set_field _ _ _ _ (by decide)).trans hb

theorem Dev.creditLanes_credits (d : Dev) (g : Nat) (corr : List Nat) {n : Nat} (hn : n ∈ d.lanesOfGroup g) :
    (d.creditLanes g corr).get .SPR_L_CORR_BITS_COUNT n = (d.get .SPR_L_CORR_BITS_COUNT n + corr.getD (d.local_ n) 0) % 2 ^ F.SPR_L_CORR_BITS_COUNT.width := by
  obtain ⟨b, ⟨hb, hbefore⟩, -, hafter⟩ := Dev.forList_visits (L := [.SPR_CFG_WIDTH]) (N := [.SPR_L_CORR_BITS_COUNT]) (M := [])
    (g := fun n d => d.addWrap .SPR_L_CORR_BITS_COUNT n (corr.getD (d.local_ n) 0)) (fun y a => (Dev.Steady.refl a).own _ _ (by decide))
    (d.lanesOfGroup_nodup g) hn d
  have hlocal : b.local_ n = d.local_ n := by
    unfold Dev.local_ Dev.width
    rw [hb.get _ List.mem_cons_self]
  refine (hafter _ List.mem_cons_self).trans ((Dev.get_set_same ..).trans ?_)
  rw [hbefore _ List.mem_cons_self, hlocal]

theorem Dev.trigger_rxFrames (d : Dev) (src lane info time : Nat) : (d.trigger src lane info time).rxFrames = d.rxFrames := by
  have htaps : ∀ (d : Dev) mask src info time falling lanes, (d.toTaps mask src info time falling lanes).rxFrames = d.rxFrames := by
    intro d mask src info time falling lanes
    unfold Dev.toTaps
    extract_lets m
    split <;> rfl
  have hraise : ∀ (d : Dev) s, (d.raise s).rxFrames = d.rxFrames := fun d s => by rw [(raise_only (fun _ _ => True) d s).1]
  unfold Dev.trigger Dev.xtrigEvent
  refine (Dev.each_keeps Dev.rxFrames (fun j _ e => ?_) _).trans (htaps ..)
  split
  · split
    · exact hraise _ _
    · exact htaps ..
  · rfl

theorem Dev.setAll_rxFrames (d : Dev) (fs : List F) (i v : Nat) : (d.setAll fs i v).rxFrames = d.rxFrames :=
  List.foldlRecOn fs _ (motive := fun a : Dev => a.rxFrames = d.rxFrames) rfl fun _ ha _ _ => ha

theorem Dev.countFrame_rxFrames (d : Dev) (g valid : Nat) (corr : List Nat) (doubt time : Nat) : (d.countFrame g valid corr doubt time).rxFrames = d.rxFrames := by
  have htally : (d.tallyFrame g valid doubt).rxFrames = d.rxFrames := by
    unfold Dev.tallyFrame
    extract_lets b
    split <;> rfl
  have houtcome : ∀ a : Dev, (a.frameOutcome g corr time).rxFrames = a.rxFrames := fun a => by
    unfold Dev.frameOutcome
    split
    · unfold Dev.frameFailed Dev.raiseEngine
      extract_lets b info
      rw [Dev.trigger_rxFrames, (raise_only (fun _ _ => True) _ _).1]
      rfl
    · exact Dev.forList_keeps Dev.rxFrames (g := fun n d => d.addWrap .SPR_L_CORR_BITS_COUNT n (corr.getD (d.local_ n) 0)) (fun _ _ _ => rfl) a
  have hledger : ∀ a : Dev, (a.ledgerFrame g corr).rxFrames = a.rxFrames := fun a => by
    unfold Dev.ledgerFrame
    refine Dev.forList_keeps Dev.rxFrames (fun n _ b => ?_) a
    split <;> rfl
  rw [Dev.countFrame_eq, Dev.setAll_rxFrames]
  exact (hledger _).trans ((houtcome _).trans htally)

theorem Dev.frameDone_rxFrames (d : Dev) (x : RxFrame) : (d.frameDone x).rxFrames = d.rxFrames := by
  have hpush : ∀ (a : Dev) g streams, (a.loopPush g streams).rxFrames = a.rxFrames := fun a g streams => by
    have hshow : ∀ b : Dev, (b.showLoop g).rxFrames = b.rxFrames := fun b => by rw [(b.showLoop_only g).1]
    unfold Dev.loopPush
    split
    · rw [hshow]
      split <;> rfl
    · rfl
  unfold Dev.frameDone
  extract_lets g w words doubt b c
  refine (Dev.forList_keeps Dev.rxFrames (fun n _ a => ?_) c).trans ((hpush b g _).trans (Dev.countFrame_rxFrames ..))
  split
  · rfl
  · unfold Dev.toHost
    split <;> rfl

theorem Dev.frameOut_frames {d : Dev} {g : Nat} {x y : RxFrame} (hy : y ∈ (Dev.frameOut g x d).rxFrames) : y ∈ d.rxFrames := by
  have hsame := d.frameDone_rxFrames x
  unfold Dev.frameOut at hy
  generalize d.frameDone x = b at hy hsame
  rw [← hsame]
  unfold Dev.dropFrames at hy
  exact List.mem_of_mem_filter hy

theorem Dev.frameOut_fin (d : Dev) (g : Nat) (x : RxFrame) : (Dev.frameOut g x d).get .X_SPR_FIN g = d.get .X_SPR_FIN g + 1 := by
  unfold Dev.frameOut
  generalize d.frameDone x = b
  exact ((Dev.dropFrames_grows (L := [.X_SPR_FIN]) (M := []) _ g).1.get _ List.mem_cons_self g).trans (Dev.get_set_same ..)

theorem Dev.finishFrames_stops {d : Dev} {g : Nat} (h : ∀ y ∈ d.rxFrames, y.group = g → y.no ≠ d.get .X_SPR_FIN g) : ∀ k, Dev.finishFrames g k d = d
  | 0 => rfl
  | k + 1 => by
    have hnone : d.frameOf g (d.get .X_SPR_FIN g) = none := List.find?_eq_none.mpr fun y hy hg => by
      obtain ⟨h1, h2⟩ := Bool.and_eq_true_iff.mp hg
      exact h y hy (beq_iff_eq.mp h1) (beq_iff_eq.mp h2)
    unfold Dev.finishFrames
    dsimp only
    rw [hnone]

theorem Dev.finishFrames_one {d : Dev} {g : Nat} {x : RxFrame} (hframe : d.frameOf g (d.get .X_SPR_FIN g) = some x)
    (hothers : ∀ y ∈ d.rxFrames, y.group = g → y.no = d.get .X_SPR_FIN g) (hstreams : d.lockedStreams g = []) (k : Nat) :
    Dev.finishFrames g (k + 1) d = Dev.frameOut g x d := by
  have hstop : Dev.finishFrames g k (Dev.frameOut g x d) = Dev.frameOut g x d := Dev.finishFrames_stops (fun y hy hg => by
    rw [Dev.frameOut_fin, hothers y (Dev.frameOut_frames hy) hg]
    omega) k
  refine Eq.trans ?_ hstop
  conv_lhs => unfold Dev.finishFrames
  dsimp only
  rw [hframe, hstreams]
  rfl

theorem Dev.frameOut_grows_outcome {L M : List F} (d : Dev) (g : Nat) (x : RxFrame)
    (hL : ∀ f ∈ [F.LTX_LOOP_STATUS_FILL_LEVEL, .X_SPR_FIN, .X_LG_BITS, .X_LG_CORR] ++ frameCleared, f ∉ L) : ∃ corr doubt,
    corr = (List.range (d.width (x.group / 8))).map (fun l => correctedBits (d.width (x.group / 8)) l x) ∧
      Dev.Grows L M ((d.tallyFrame x.group x.valid doubt).frameOutcome x.group corr x.time) (Dev.frameOut g x d) := by
  obtain ⟨corr, doubt, hcorr, hdone⟩ := d.frameDone_grows_count (L := L) (M := M) x (hL _ (by decide))
  have hcount := Dev.countFrame_grows_outcome (L := L) (M := M) d x.group x.valid corr doubt x.time fun f hf =>
    hL f ((by decide : ∀ f ∈ [F.X_LG_BITS, .X_LG_CORR] ++ frameCleared, f ∈ [F.LTX_LOOP_STATUS_FILL_LEVEL, .X_SPR_FIN, .X_LG_BITS, .X_LG_CORR] ++ frameCleared) f hf)
  refine ⟨corr, doubt, hcorr, (hcount.trans hdone).trans ?_⟩
  unfold Dev.frameOut
  generalize d.frameDone x = b
  exact ((Dev.Grows.refl b).put _ _ _ (hL _ (by decide))).trans (Dev.dropFrames_grows _ g)

/-- What a frame that is done shows of itself. -/
structure Dev.FrameShown (d : Dev) (g : Nat) (x : RxFrame) (e : Dev) : Prop where
  counted : e.get .SPR_G_FRAMES_COUNT g = (d.get .SPR_G_FRAMES_COUNT g + 1) % 2 ^ F.SPR_G_FRAMES_COUNT.width
  failed : d.get .X_SPR_UNC g = 1 → e.get .SPR_G_EVENTS_UNC g = 1 ∧ 576 + 8 * (g / 8) + 1 ∈ e.pending
  credited : d.get .X_SPR_UNC g ≠ 1 → ∀ n ∈ d.lanesOfGroup g, e.get .SPR_L_CORR_BITS_COUNT n = (d.get .SPR_L_CORR_BITS_COUNT n +
    ((List.range (d.width (g / 8))).map fun l => correctedBits (d.width (g / 8)) l x).getD (d.local_ n) 0) % 2 ^ F.SPR_L_CORR_BITS_COUNT.width

theorem Dev.frameOut_shows {d : Dev} {g : Nat} {x : RxFrame} (hx : x.group = g) : d.FrameShown g x (Dev.frameOut g x d) := by
  obtain ⟨corr, doubt, hcorr, hgrows⟩ := d.frameOut_grows_outcome (L := [.SPR_G_FRAMES_COUNT, .SPR_G_EVENTS_UNC, .SPR_L_CORR_BITS_COUNT]) (M := []) g x (by decide)
  rw [hx] at hcorr hgrows
  have htally := Dev.tallyFrame_grows (L := [.X_SPR_UNC, .SPR_L_CORR_BITS_COUNT, .SPR_CFG_WIDTH]) (M := []) d g x.valid doubt (by decide)
  have hframes := d.tallyFrame_counts g x.valid doubt
  generalize d.tallyFrame g x.valid doubt = b at hgrows htally hframes
  have hunc := htally.1.get .X_SPR_UNC (by decide) g
  refine ⟨(hgrows.1.get _ (by decide) g).trans (Eq.trans ?_ hframes), fun h => ?_, fun h n hn => ?_⟩
  · exact (Dev.frameOutcome_grows (L := [.SPR_G_FRAMES_COUNT]) (M := []) b g corr x.time (by decide)).1.get _ List.mem_cons_self g
  · have hfail : b.frameOutcome g corr x.time = b.frameFailed g x.time := if_pos (beq_iff_eq.mpr (hunc.trans h))
    rw [hfail] at hgrows
    obtain ⟨h1, h2, -⟩ := b.frameFailed_shows g x.time rfl
    exact ⟨(hgrows.1.get _ (by decide) g).trans h1, hgrows.1.pending _ h2⟩
  · have hcredit : b.frameOutcome g corr x.time = b.creditLanes g corr := if_neg fun hon => h (hunc.symm.trans (beq_iff_eq.mp hon))
    rw [hcredit] at hgrows
    have hlocal : b.local_ n = d.local_ n := by
      unfold Dev.local_ Dev.width
      rw [htally.1.get _ (by decide)]
    have hn' : n ∈ b.lanesOfGroup g := by
      rw [Dev.lanesOfGroup_congr (htally.1.get _ (by decide))]
      exact hn
    rw [hgrows.1.get _ (by decide), b.creditLanes_credits g corr hn', htally.1.get _ (by decide), hlocal, hcorr]

/-! ## The lock of a group (R194, R195, R217) -/

theorem Dev.targetFor_congr {d e : Dev} (h : ∀ f ∈ [F.SPR_CFG_WIDTH, .SPR_CFG_MODE], ∀ i, e.get f i = d.get f i) (g a : Nat) : e.targetFor g a = d.targetFor g a := by
  unfold Dev.targetFor Dev.onePassOf Dev.mode Dev.width
  rw [h _ (by decide), h _ (by decide)]

/-- What a group that enters LOCKED writes. -/
def lockFields : List F := [.SPR_G_STATUS_STATE, .SPR_G_EVENTS_LOCK_GAINED, .X_SPR_BAD, .SPR_G_STATUS_ALLOW, .SPR_G_LAT_TARGET, .X_SPR_LAT, .X_SPR_LAT_CLK]

theorem Dev.enterGroupLock_locks (d : Dev) (g : Nat) {e : Dev} (he : e = d.enterGroupLock g) : e.sg g = sgLOCKED ∧ e.get .SPR_G_STATUS_ALLOW g = 1 ∧
    e.get .SPR_G_EVENTS_LOCK_GAINED g = 1 ∧ e.get .SPR_G_LAT_TARGET g = d.targetFor g 1 ∧ Dev.Raised (576 + 8 * (g / 8)) d e := by
  unfold Dev.enterGroupLock Dev.raiseEngine at he
  extract_lets b1 b2 b3 at he
  have hstate : b1.get .SPR_G_STATUS_STATE g = sgLOCKED :=
    (Dev.get_set_field _ _ _ _ (by decide)).trans ((Dev.get_set_field _ _ _ _ (by decide)).trans (Dev.get_set_same ..))
  have hgained : b1.get .SPR_G_EVENTS_LOCK_GAINED g = 1 := (Dev.get_set_field _ _ _ _ (by decide)).trans (Dev.get_set_same ..)
  have h1 : Dev.Only (fun f _ => f ∈ lockFields) d b1 := Dev.Only.write (Dev.Only.write (Dev.Only.write (.refl _ d) _ _ _) _ _ _) _ _ _
  have htarget : ∀ {c : Dev}, Dev.Only (fun f _ => f ∈ lockFields) d c → c.targetFor g 1 = d.targetFor g 1 := fun hc =>
    Dev.targetFor_congr (fun f hf i => hc.2 f i ((by decide : ∀ f ∈ [F.SPR_CFG_WIDTH, .SPR_CFG_MODE], f ∉ lockFields) f hf)) g 1
  clear_value b1
  have hallow : b2.get .SPR_G_STATUS_ALLOW g = 1 := (Dev.get_set_field _ _ _ _ (by decide)).trans (Dev.get_set_same ..)
  have hlat : b2.get .SPR_G_LAT_TARGET g = d.targetFor g 1 := (Dev.get_set_same ..).trans (htarget h1)
  have h12 : Dev.Only (fun f _ => f ∈ [F.SPR_G_STATUS_ALLOW, .SPR_G_LAT_TARGET]) b1 b2 := Dev.Only.write (Dev.Only.write (.refl _ b1) _ _ _) _ _ _
  have h2 : Dev.Only (fun f _ => f ∈ lockFields) d b2 := Dev.Only.write (Dev.Only.write h1 _ _ _) _ _ _
  clear_value b2
  have h23 : Dev.Only (fun f _ => f ∈ [F.X_SPR_LAT, .X_SPR_LAT_CLK]) b2 b3 := Dev.Only.write (Dev.Only.write (.refl _ b2) _ _ _) _ _ _
  have h3 : Dev.Only (fun f _ => f ∈ lockFields) d b3 := Dev.Only.write (Dev.Only.write h2 _ _ _) _ _ _
  clear_value b3
  have hpend : b3.pending = d.pending := by rw [h3.1]
  rw [he]
  refine ⟨?_, ?_, ?_, ?_, .after hpend (h3.keeps _ _) (by omega)⟩
  · exact (raise_get _ _ _ _ (by decide)).trans ((h23.keeps _ _).trans ((h12.keeps _ _).trans hstate))
  · exact (raise_get _ _ _ _ (by decide)).trans ((h23.keeps _ _).trans hallow)
  · exact (raise_get _ _ _ _ (by decide)).trans ((h23.keeps _ _).trans ((h12.keeps _ _).trans hgained))
  · exact (raise_get _ _ _ _ (by decide)).trans ((h23.keeps _ _).trans hlat)

/-- What a group that has lost its lock shows. -/
structure Dev.LockLost (g : Nat) (e : Dev) : Prop where
  state : e.sg g = sgHUNT
  event : e.get .SPR_G_EVENTS_LOCK_LOST g = 1
  allow : e.get .SPR_G_STATUS_ALLOW g = 0
  raised : 576 + 8 * (g / 8) ∈ e.pending
  frames : ∀ x ∈ e.rxFrames, x.group ≠ g

theorem Dev.toHunt_loses {d : Dev} {g : Nat} (hsg : d.sg g = sgLOCKED) {e : Dev} (he : e = d.toHunt g) : e.LockLost g := by
  have hdrop : (d.dropLock g).get .SPR_G_EVENTS_LOCK_LOST g = 1 ∧ (d.dropLock g).get .SPR_G_STATUS_ALLOW g = 0 ∧
      576 + 8 * (g / 8) ∈ (d.dropLock g).pending ∧ ∀ x ∈ (d.dropLock g).rxFrames, x.group ≠ g := by
    unfold Dev.dropLock
    rw [if_pos hsg]
    extract_lets b c
    have hlost : b.get .SPR_G_EVENTS_LOCK_LOST g = 1 := (Dev.setAll_get_field _ _ _ _ (by decide)).trans (Dev.get_set_same ..)
    have hallow : b.get .SPR_G_STATUS_ALLOW g = 0 := Dev.setAll_get_of_mem _ _ _ (by decide)
    clear_value b
    have hcget : ∀ f i, c.get f i = b.get f i := fun _ _ => rfl
    have hcframes : ∀ x ∈ c.rxFrames, x.group ≠ g := fun x hx => bne_iff_ne.mp (List.mem_filter.mp hx).2
    clear_value c
    have hgrows := Dev.trigger_grows (L := [.SPR_G_EVENTS_LOCK_LOST, .SPR_G_STATUS_ALLOW]) (M := []) (c.raiseEngine (g / 8) 0) 9 (c.firstLane g)
      (c.firstLane g + 512) c.now (by decide)
    have hframes := Dev.trigger_rxFrames (c.raiseEngine (g / 8) 0) 9 (c.firstLane g) (c.firstLane g + 512) c.now
    generalize (c.raiseEngine (g / 8) 0).trigger 9 (c.firstLane g) (c.firstLane g + 512) c.now = a at hgrows hframes ⊢
    have hraise : ∀ f ∉ signalFields, (c.raiseEngine (g / 8) 0).get f g = b.get f g := fun f hf => (raise_get _ _ _ _ hf).trans (hcget f g)
    refine ⟨?_, ?_, hgrows.1.pending _ ?_, ?_⟩
    · rw [hgrows.1.get _ (by decide), hraise _ (by decide), hlost]
    · rw [hgrows.1.get _ (by decide), hraise _ (by decide), hallow]
    · unfold Dev.raiseEngine
      rw [(raise_raised c (by omega)).1]
      exact (mem_insertNat ..).mpr (.inl rfl)
    · rw [hframes]
      unfold Dev.raiseEngine
      rw [(raise_only (fun _ _ => True) c _).1]
      exact hcframes
  obtain ⟨h1, h2, h3, h4⟩ := hdrop
  unfold Dev.toHunt at he
  generalize d.dropLock g = b at he h1 h2 h3 h4
  have hkeep : Dev.Only (fun f _ => f ∈ [F.SPR_G_STATUS_STATE, .X_SPR_WAIT, .X_SPR_GOOD]) b e := by
    rw [he]
    exact Dev.Only.write (Dev.Only.write (Dev.Only.write (.refl _ b) _ _ _) _ _ _) _ _ _
  have hpend : e.pending = b.pending := by rw [hkeep.1]
  have hframes : e.rxFrames = b.rxFrames := by rw [hkeep.1]
  refine ⟨?_, (hkeep.keeps _ _).trans h1, (hkeep.keeps _ _).trans h2, hpend ▸ h3, hframes ▸ h4⟩
  rw [he]
  exact (Dev.get_set_field _ _ _ _ (by decide)).trans ((Dev.get_set_field _ _ _ _ (by decide)).trans (Dev.get_set_same ..))

theorem Dev.toHunt_hunts (d : Dev) (g : Nat) : (d.toHunt g).sg g = sgHUNT := by
  unfold Dev.toHunt
  generalize d.dropLock g = b
  exact (Dev.get_set_field _ _ _ _ (by decide)).trans ((Dev.get_set_field _ _ _ _ (by decide)).trans (Dev.get_set_same ..))

theorem groupLockLost_loses {g : Fin 64} {s : State} (hsg : s.dev.sg g = sgLOCKED) (hbad : 16 ≤ s.dev.get .X_SPR_BAD g) :
    Completes (.groupLockLost g) s fun e => e.LockLost g ∧ e.get .SPR_G_STATUS_ANCHOR g = 0 := by
  refine .runIf (rfl : _ = execGroupLockLost g s) ⟨hsg, hbad⟩ fun e he => ?_
  have hlost := Dev.toHunt_loses (d := s.found) (g := g) hsg rfl
  generalize s.found.toHunt g = b at he hlost
  obtain ⟨h1, h2, h3, h4, h5⟩ := hlost
  rw [he]
  exact ⟨⟨(Dev.get_set_field _ _ _ _ (by decide)).trans h1, (Dev.get_set_field _ _ _ _ (by decide)).trans h2,
    (Dev.get_set_field _ _ _ _ (by decide)).trans h3, h4, h5⟩, Dev.get_set_same ..⟩

theorem rejoinLimit_loses {n : Fin 64} {s : State} (hsg : s.dev.sg (s.dev.groupOf n) = sgLOCKED) (hrx : s.dev.rxLocked n = true)
    (hno : s.dev.anchored n = false) (hlimit : 256 ≤ s.dev.get .X_SPR_REJOIN n) : Completes (.rejoinLimit n) s fun e => e.LockLost (s.dev.groupOf n) := by
  have hcond : s.found.sg (s.found.groupOf n) = sgLOCKED ∧ s.found.rxLocked n = true ∧ (!s.found.anchored n) = true ∧ 256 ≤ s.found.get .X_SPR_REJOIN n :=
    ⟨hsg, hrx, by rw [show s.found.anchored n = false from hno]; rfl, hlimit⟩
  refine .runIf (rfl : _ = execRejoinLimit n s) hcond fun e he => ?_
  exact Dev.toHunt_loses (d := s.found) (g := s.dev.groupOf n) hsg he

/-! ## Frames in VERIFY and in LOCKED -/

section
variable {d e : Dev} {g : Nat} {letters : List (List (Fin 16))} {time : Nat}

section
variable (hsg : d.sg g = sgVERIFY) (he : e = d.frameReceived g letters time)
include hsg he

theorem Dev.frameReceived_fails (hgood : goodWords (d.width (g / 8)) letters < 32) : e.sg g = sgHUNT ∧ e.get .SPR_G_STATUS_ANCHOR g = 0 := by
  rw [Dev.frameReceived_eq] at he
  rw [(he.trans (if_pos hsg)).trans (if_pos hgood)]
  have hhunt := (d.segsEnded g (d.validLanes g)).toHunt_hunts g
  generalize (d.segsEnded g (d.validLanes g)).toHunt g = b at hhunt ⊢
  exact ⟨(Dev.get_set_field _ _ _ _ (by decide)).trans hhunt, Dev.get_set_same ..⟩

theorem Dev.frameReceived_first (hgood : 32 ≤ goodWords (d.width (g / 8)) letters) (hzero : d.get .X_SPR_GOOD g = 0) : e.sg g = sgVERIFY ∧
    e.get .X_SPR_GOOD g = 1 ∧ Dev.Only (fun f i => (f = .X_SPR_GOOD ∧ i = g) ∨ (i ∈ d.lanesOfGroup g ∧ f ∈ segFields)) d e := by
  rw [Dev.frameReceived_eq] at he
  replace he := (he.trans (if_pos hsg)).trans (if_neg (by omega))
  have hseg := d.segsEnded_only g (d.validLanes g)
  generalize d.segsEnded g (d.validLanes g) = b at he hseg
  have hget : ∀ {f : F} (i : Nat), f ∉ segFields → b.get f i = d.get f i := fun i hf => hseg.2 _ i fun h => hf h.2
  have hb : Dev.Only (fun f i => (f = .X_SPR_GOOD ∧ i = g) ∨ (i ∈ d.lanesOfGroup g ∧ f ∈ segFields)) d b := hseg.mono fun _ _ h => .inr h
  rw [he.trans (if_pos ((hget g (by decide)).trans hzero))]
  exact ⟨(Dev.get_set_field _ _ _ _ (by decide)).trans ((hget g (by decide)).trans hsg), Dev.get_set_same .., hb.set _ (.inl ⟨rfl, rfl⟩)⟩

theorem Dev.frameReceived_second (hgood : 32 ≤ goodWords (d.width (g / 8)) letters) (hone : d.get .X_SPR_GOOD g ≠ 0) : e.sg g = sgLOCKED ∧
    e.get .SPR_G_STATUS_ALLOW g = 1 ∧ e.get .SPR_G_EVENTS_LOCK_GAINED g = 1 ∧ e.get .SPR_G_LAT_TARGET g = d.targetFor g 1 ∧
    Dev.Raised (576 + 8 * (g / 8)) d e := by
  rw [Dev.frameReceived_eq] at he
  replace he := (he.trans (if_pos hsg)).trans (if_neg (by omega))
  have hseg := d.segsEnded_only g (d.validLanes g)
  generalize d.segsEnded g (d.validLanes g) = b at he hseg
  have hget : ∀ {f : F} (i : Nat), f ∉ segFields → b.get f i = d.get f i := fun i hf => hseg.2 _ i fun h => hf h.2
  obtain ⟨h1, h2, h3, h4, h5⟩ := b.enterGroupLock_locks g (he.trans (if_neg fun h => hone ((hget g (by decide)).symm.trans h)))
  rw [Dev.targetFor_congr fun f hf i => hget i ((by decide : ∀ f ∈ [F.SPR_CFG_WIDTH, .SPR_CFG_MODE], f ∉ segFields) f hf)] at h4
  exact ⟨h1, h2, h3, h4, h5.before (by rw [hseg.1]) (hget _ (by decide))⟩

end

/-- A LOCKED group once a frame has been taken and judged. -/
structure Dev.FrameJudged (d : Dev) (g : Nat) (letters : List (List (Fin 16))) (time : Nat) (j : Dev) : Prop where
  frames : j.rxFrames = d.rxFrames ++ [d.newFrame g letters time]
  other : ∀ f i, f ∉ segFields → f ≠ .X_SPR_NO → f ∉ judgeFields → j.get f i = d.get f i
  number : j.get .X_SPR_NO g = (d.get .X_SPR_NO g + 1) % 2 ^ F.X_SPR_NO.width
  segs : ∀ n ∈ d.lanesOfGroup g, j.get .LRX_SEG_COUNT n = (d.get .LRX_SEG_COUNT n + 1) % 2 ^ F.LRX_SEG_COUNT.width
  bad : d.allValid g (d.validLanes g) = true → j.get .X_SPR_BAD g =
    if goodWords (d.width (g / 8)) letters < 32 then min 16 (d.get .X_SPR_BAD g + 1) else 0
  missed : ∀ n ∈ d.lanesOfGroup g, bitAt (d.validLanes g) (d.local_ n) = true → bitAt (missedAnchors (d.width (g / 8)) letters) (d.local_ n) = true →
    j.get .SPR_L_ALIGN_ANCHOR_MISS n = satAdd F.SPR_L_ALIGN_ANCHOR_MISS.width (d.get .SPR_L_ALIGN_ANCHOR_MISS n) 1
  rejoin : ∀ n ∈ d.lanesOfGroup g, d.rxLocked n = true → d.anchored n = false → j.get .X_SPR_REJOIN n = min 256 (d.get .X_SPR_REJOIN n + 1)

theorem Dev.frameTaken_shows {c : Dev} (hc : c = d.frameTaken g letters time) : c.rxFrames = d.rxFrames ++ [d.newFrame g letters time] ∧
    (∀ f i, f ∉ segFields → f ≠ .X_SPR_NO → c.get f i = d.get f i) ∧ c.get .X_SPR_NO g = (d.get .X_SPR_NO g + 1) % 2 ^ F.X_SPR_NO.width ∧
    ∀ n ∈ d.lanesOfGroup g, c.get .LRX_SEG_COUNT n = (d.get .LRX_SEG_COUNT n + 1) % 2 ^ F.LRX_SEG_COUNT.width := by
  unfold Dev.frameTaken at hc
  have hseg := d.segsEnded_only g (d.validLanes g)
  have hcount : ∀ n ∈ d.lanesOfGroup g, _ := fun n hn => d.segsEnded_counts g (d.validLanes g) hn
  generalize d.segsEnded g (d.validLanes g) = b at hc hseg hcount
  generalize d.newFrame g letters time = x at hc ⊢
  have hother : ∀ f i, f ≠ .X_SPR_NO → c.get f i = b.get f i := fun f i hf => by
    rw [hc]
    exact Dev.get_set_field _ _ _ _ hf
  refine ⟨by rw [hc]; rfl, fun f i h1 h2 => (hother f i h2).trans (hseg.2 f i fun h => h1 h.2), ?_, fun n hn => (hother _ _ (by decide)).trans (hcount n hn)⟩
  rw [hc]
  refine (Dev.get_set_same ..).trans ?_
  rw [← hseg.2 .X_SPR_NO g fun h => absurd h.2 (by decide)]
  rfl

theorem Dev.frameReceived_judges (hsg : d.sg g = sgLOCKED) (he : e = d.frameReceived g letters time) : ∃ j, d.FrameJudged g letters time j ∧
    e = Dev.finishFrames g (d.rxFrames.length + 1) j := by
  rw [Dev.frameReceived_eq] at he
  replace he := (he.trans (if_neg fun h => absurd (hsg.symm.trans h) (by decide))).trans (if_pos hsg)
  obtain ⟨hframes, hget, hno, hsegs⟩ := Dev.frameTaken_shows (d := d) (g := g) (letters := letters) (time := time) rfl
  generalize d.frameTaken g letters time = c at he hframes hget hno hsegs
  have hread : ∀ {f : F} (i : Nat), f ∉ segFields → f ≠ .X_SPR_NO → c.get f i = d.get f i := fun i h1 h2 => hget _ i h1 h2
  have hlanes : c.lanesOfGroup g = d.lanesOfGroup g := Dev.lanesOfGroup_congr (fun i => hread i (by decide) (by decide)) g
  have hlocal : ∀ n, c.local_ n = d.local_ n := fun n => by
    unfold Dev.local_ Dev.width
    rw [hread _ (by decide) (by decide)]
  have hvalid : c.allValid g (d.validLanes g) = d.allValid g (d.validLanes g) := by
    unfold Dev.allValid Dev.width
    rw [hread _ (by decide) (by decide)]
  have honly := c.judgeFrame_only g (goodWords (d.width (g / 8)) letters) (d.validLanes g) (missedAnchors (d.width (g / 8)) letters)
  have hlane := fun n hn => c.judgeFrame_lane g (goodWords (d.width (g / 8)) letters) (d.validLanes g) (missedAnchors (d.width (g / 8)) letters) (n := n) hn
  refine ⟨_, ⟨?_, fun f i h1 h2 h3 => (honly.2 f i h3).trans (hget f i h1 h2), (honly.keeps _ _).trans hno, fun n hn => (honly.keeps _ _).trans (hsegs n hn),
    fun h => ?_, fun n hn h1 h2 => ?_, fun n hn h1 h2 => ?_⟩, he.trans ?_⟩
  · rw [honly.1]
    exact hframes
  · rw [Dev.judgeFrame_bad (hvalid.trans h), hread _ (by decide) (by decide)]
  · have h := (hlane n (hlanes.symm ▸ hn)).1
    rw [hlocal, hread _ (by decide) (by decide)] at h
    exact h h1 h2
  · have hlocked : c.rxLocked n = d.rxLocked n := congrArg (· == rxLOCKED) (hread n (by decide) (by decide))
    have hanchored : c.anchored n = d.anchored n := Dev.anchored_congr (fun f hf i => hread i
      ((by decide : ∀ f ∈ [F.SPR_G_STATUS_ANCHOR, .SPR_CFG_WIDTH], f ∉ segFields) f hf) ((by decide : ∀ f ∈ [F.SPR_G_STATUS_ANCHOR, .SPR_CFG_WIDTH], f ≠ .X_SPR_NO) f hf)) n
    have h := (hlane n (hlanes.symm ▸ hn)).2
    rw [hlocked, hanchored, hread _ (by decide) (by decide)] at h
    exact h h1 h2
  · rw [hframes, List.length_append]
    rfl

/-- With no stream locked and no frame waiting a frame is done at once. -/
theorem Dev.FrameJudged.done {j : Dev} (h : d.FrameJudged g letters time j) (he : e = Dev.finishFrames g (d.rxFrames.length + 1) j)
    (hstreams : d.lockedStreams g = []) (hfin : d.get .X_SPR_FIN g = d.get .X_SPR_NO g) (hidle : ∀ x ∈ d.rxFrames, x.group ≠ g) :
    d.FrameShown g (d.newFrame g letters time) e := by
  have hread : ∀ {f : F} (i : Nat), f ∉ segFields → f ≠ .X_SPR_NO → f ∉ judgeFields → j.get f i = d.get f i := fun i h1 h2 h3 => h.other _ i h1 h2 h3
  have hno : j.get .X_SPR_FIN g = (d.newFrame g letters time).no := (hread g (by decide) (by decide) (by decide)).trans hfin
  have hframe : j.frameOf g (j.get .X_SPR_FIN g) = some (d.newFrame g letters time) := by
    have hold : d.rxFrames.find? (fun x => x.group == g && x.no == j.get .X_SPR_FIN g) = none := List.find?_eq_none.mpr fun x hx hg =>
      hidle x hx (beq_iff_eq.mp (Bool.and_eq_true_iff.mp hg).1)
    unfold Dev.frameOf
    rw [h.frames, List.find?_append, hold]
    have hnew : ((d.newFrame g letters time).group == g && (d.newFrame g letters time).no == j.get .X_SPR_FIN g) = true :=
      Bool.and_eq_true_iff.mpr ⟨beq_self_eq_true g, beq_iff_eq.mpr hno.symm⟩
    exact List.find?_cons_of_pos (p := fun x : RxFrame => x.group == g && x.no == j.get .X_SPR_FIN g) hnew
  have hothers : ∀ y ∈ j.rxFrames, y.group = g → y.no = j.get .X_SPR_FIN g := fun y hy hg => by
    rw [h.frames] at hy
    rcases List.mem_append.mp hy with hy | hy
    · exact absurd hg (hidle y hy)
    · rw [List.mem_singleton.mp hy, hno]
  have hwidth : ∀ k, j.width k = d.width k := fun k => congrArg (2 ^ ·) (hread k (by decide) (by decide) (by decide))
  have hlanes : j.lanesOfGroup g = d.lanesOfGroup g := Dev.lanesOfGroup_congr (fun i => hread i (by decide) (by decide) (by decide)) g
  have hlocal : ∀ n, j.local_ n = d.local_ n := fun n => by rw [Dev.local_, Dev.local_, hwidth]
  have hstreams' : j.lockedStreams g = [] := by
    have hlock : j.streamLocked = d.streamLocked := funext fun n => by
      unfold Dev.streamLocked
      rw [hlocal, hread _ (by decide) (by decide) (by decide), Dev.groupOf, Dev.groupOf, hwidth]
    unfold Dev.lockedStreams at hstreams ⊢
    rw [hlanes, hlock]
    exact hstreams
  rw [Dev.finishFrames_one hframe hothers hstreams'] at he
  obtain ⟨h1, h2, h3⟩ := Dev.frameOut_shows (d := j) (g := g) (x := d.newFrame g letters time) rfl
  rw [← he] at h1 h2 h3
  rw [hread _ (by decide) (by decide) (by decide)] at h1 h2 h3
  refine ⟨h1, h2, fun hunc n hn => ?_⟩
  have hcorr := h3 hunc n (hlanes.symm ▸ hn)
  rw [hread _ (by decide) (by decide) (by decide), hwidth, hlocal] at hcorr
  exact hcorr

end

theorem bitsWhere_all {n : Nat} {p : Nat → Bool} (h : ∀ i < n, p i = true) : bitsWhere n p = 2 ^ n - 1 := by
  induction n with
  | zero => rfl
  | succ n ih =>
    rw [bitsWhere_succ, ih fun i hi => h i (by omega), h n (by omega), if_pos rfl, Nat.pow_succ]
    have hpos := Nat.two_pow_pos n
    omega

theorem Dev.allValid_of {d : Dev} {g : Nat} (h : ∀ n ∈ d.lanesOfGroup g, d.segValid n = true) : d.allValid g (d.validLanes g) = true := by
  have hall : d.validLanes g = 2 ^ d.width (g / 8) - 1 := bitsWhere_all fun l hl => h _ (Dev.mem_lanesOfGroup.mpr ⟨l, hl, rfl⟩)
  unfold Dev.allValid
  rw [hall]
  have hpos := Nat.two_pow_pos (d.width (g / 8))
  exact decide_eq_true (Nat.mod_eq_of_lt (by omega))

theorem Dev.local_of_group {d : Dev} {g l : Nat} (hw : d.get .SPR_CFG_WIDTH (g / 8) ≤ 3) (hfit : (g % 8 + 1) * d.width (g / 8) ≤ 8) (hl : l < d.width (g / 8)) :
    d.local_ (d.firstLane g + l) = l := by
  have hcases := width_mem hw
  unfold Dev.local_ Dev.firstLane
  have heng : engineOf (8 * (g / 8) + g % 8 * d.width (g / 8) + l) = g / 8 := by
    have hsum : g % 8 * d.width (g / 8) + d.width (g / 8) ≤ 8 := by
      rw [← Nat.succ_mul]
      exact hfit
    unfold engineOf
    omega
  rw [heng]
  unfold Dev.width at hl ⊢
  generalize 2 ^ d.get .SPR_CFG_WIDTH (g / 8) = w at hcases hl ⊢
  rcases width_cases hcases with rfl | rfl | rfl | rfl <;> omega

/-- What a frame of a LOCKED group brings about. -/
theorem spreadFrameReceived_locked {g : Fin 64} {letters : List (List (Fin 16))} {time : DWord} {s : State} (hsg : s.dev.sg g = sgLOCKED) :
    Completes (.spreadFrameReceived g letters time) s fun e =>
      e.get .X_SPR_NO g = (s.dev.get .X_SPR_NO g + 1) % 2 ^ F.X_SPR_NO.width ∧
      (∀ n ∈ s.dev.lanesOfGroup g, e.get .LRX_SEG_COUNT n = (s.dev.get .LRX_SEG_COUNT n + 1) % 2 ^ F.LRX_SEG_COUNT.width) ∧
      ((∀ n ∈ s.dev.lanesOfGroup g, s.dev.segValid n = true) →
        e.get .X_SPR_BAD g = if goodWords (s.dev.width (g / 8)) letters < 32 then min 16 (s.dev.get .X_SPR_BAD g + 1) else 0) ∧
      (s.dev.get .SPR_CFG_WIDTH (g / 8) ≤ 3 → (g.val % 8 + 1) * s.dev.width (g / 8) ≤ 8 → ∀ n ∈ s.dev.lanesOfGroup g,
        (s.dev.segValid n = true → syndrome (wordBits (s.dev.width (g / 8)) (320 * s.dev.local_ n / s.dev.width (g / 8)) letters) ≠ 0xC0 + s.dev.local_ n →
          e.get .SPR_L_ALIGN_ANCHOR_MISS n = satAdd F.SPR_L_ALIGN_ANCHOR_MISS.width (s.dev.get .SPR_L_ALIGN_ANCHOR_MISS n) 1) ∧
        (s.dev.rxLocked n = true → s.dev.anchored n = false → e.get .X_SPR_REJOIN n = min 256 (s.dev.get .X_SPR_REJOIN n + 1))) ∧
      (s.dev.lockedStreams g = [] → s.dev.get .X_SPR_FIN g = s.dev.get .X_SPR_NO g → (∀ x ∈ s.dev.rxFrames, x.group ≠ g) →
        s.dev.FrameShown g (s.dev.newFrame g letters time.toNat) e) := by
  refine .runAs (rfl : _ = execSpreadFrameReceived g letters time s) fun e he => ?_
  obtain ⟨j, hj, hfinish⟩ := Dev.frameReceived_judges (d := s.found) hsg he
  have hkeep : ∀ f ∈ [F.X_SPR_NO, .LRX_SEG_COUNT, .X_SPR_BAD, .SPR_L_ALIGN_ANCHOR_MISS, .X_SPR_REJOIN], ∀ i, e.get f i = j.get f i := by
    rw [hfinish]
    exact (Dev.finishFrames_shows (M := []) (by decide) _ j).1.1.get
  refine ⟨(hkeep _ (by decide) _).trans hj.number, fun n hn => (hkeep _ (by decide) _).trans (hj.segs n hn), fun hall => ?_, fun hw hfit n hn => ⟨fun hvalid hmiss => ?_,
    fun h1 h2 => (hkeep _ (by decide) _).trans (hj.rejoin n hn h1 h2)⟩, fun h1 h2 h3 => ?_⟩
  · exact (hkeep _ (by decide) _).trans (hj.bad (Dev.allValid_of (d := s.found) hall))
  · obtain ⟨l, hl, rfl⟩ := Dev.mem_lanesOfGroup.mp hn
    have hlocal := Dev.local_of_group hw hfit hl
    rw [hlocal] at hmiss
    refine (hkeep _ (by decide) _).trans (hj.missed _ hn ?_ ?_)
    · rw [show s.found.local_ _ = l from hlocal]
      exact (bitAt_bitsWhere _ hl).trans hvalid
    · rw [show s.found.local_ _ = l from hlocal]
      exact (bitAt_bitsWhere _ hl).trans (bne_iff_ne.mpr hmiss)
  · obtain ⟨k1, k2, k3⟩ := hj.done hfinish h1 h2 h3
    exact ⟨k1, k2, k3⟩

/-- Settles O41: anchors found, frames received, and the loss of a group's lock. -/
theorem anchorsFound : Obligations.AnchorsFound := by
  refine ⟨fun n words start s => ?_, fun g letters time s => ?_⟩
  · intro g w own passes first at_ d1
    have hyes : ∀ {h : Nat}, passes h → anchorPasses words h = true := fun h => decide_eq_true h
    have hnot : ∀ {h : Nat}, ¬ passes h → anchorPasses words h = false := fun h => decide_eq_false h
    refine ⟨fun h => Dev.resolveStart_alone h first, fun hw m l h => Dev.resolveStart_near hw h first,
      fun hno => anchorFound_nothing start (anchorMarker_none fun h hh => hnot (hno h hh)), fun hrx hex hnoanchor => ⟨fun hsg hwait => ⟨?_, ?_, ?_, ?_⟩, ?_⟩⟩
    · exact fun h hh hpass hown hmin => anchorFound_runs (anchorMarker_other hh (hyes hpass) (hnot hown) fun k hk => hnot (hmin k hk)) fun e he =>
        anchorFound_orders hrx hex hnoanchor hsg hwait (fun heq => hown (by rw [show own = h from heq.symm]; exact hpass)) he
    · exact fun hown hskew hmissing => anchorFound_runs (anchorMarker_own (hyes hown)) fun e he =>
        anchorFound_waits hrx hex hnoanchor hsg hwait he hskew hmissing
    · exact fun hown hskew hall => anchorFound_runs (anchorMarker_own (hyes hown)) fun e he =>
        Dev.judgeAnchors_verifies (anchorFound_judges hrx hex hnoanchor hsg hwait he) hskew hall
    · exact fun hown hskew => anchorFound_runs (anchorMarker_own (hyes hown)) fun e he => anchorFound_skewed hrx hex hnoanchor hsg hwait he hskew
    · exact fun hsg hown hnear => anchorFound_runs (anchorMarker_own (hyes hown)) fun e he =>
        Dev.anchorFound_rejoins (d := s.found) hrx hex hnoanchor hsg hnear he
  · intro w lanes good missed
    refine ⟨fun hsg => ⟨fun hgood => ?_, fun hgood hzero => ?_, fun hgood hone => ?_⟩, fun hsg => ?_, fun hsg hbad => ?_, fun n hsg hrx hno hlimit => ?_⟩
    · exact .runAs (rfl : _ = execSpreadFrameReceived g letters time s) fun e he => Dev.frameReceived_fails (d := s.found) hsg he hgood
    · refine .runAs (rfl : _ = execSpreadFrameReceived g letters time s) fun e he => ?_
      obtain ⟨h1, h2, h3⟩ := Dev.frameReceived_first (d := s.found) hsg he hgood hzero
      exact ⟨h1, h2, h3.ofFound⟩
    · refine .runAs (rfl : _ = execSpreadFrameReceived g letters time s) fun e he => ?_
      obtain ⟨h1, h2, h3, h4, h5⟩ := Dev.frameReceived_second (d := s.found) hsg he hgood hone
      exact ⟨h1, h2, h3, h4, h5.ofFound⟩
    · refine (spreadFrameReceived_locked (letters := letters) (time := time) hsg).mono fun e ⟨h1, h2, h3, h4, h5⟩ => ⟨h1, h2, h3, h4, fun k1 k2 k3 => ?_⟩
      obtain ⟨hcount, hfail, hcredit⟩ := h5 k1 k2 k3
      refine ⟨hcount, hfail, fun hunc => ⟨s.dev.newFrame g letters time.toNat, rfl, ?_, fun l hl => bitAt_bitsWhere _ hl, fun n hn => ?_⟩⟩
      · unfold Dev.newFrame firstPass
        rfl
      · rw [hcredit hunc n hn]
        unfold Dev.width
        rw [correctedBits_getD _ rfl]
        rfl
    · refine (groupLockLost_loses hsg hbad).mono fun e ⟨⟨h1, h2, h3, h4, h5⟩, h6⟩ => ⟨h1, h2, h3, h6, h4, h5⟩
    · exact (rejoinLimit_loses hsg hrx hno hlimit).mono fun e h => ⟨h.state, h.event⟩

end Sys2Proof.Machine
end
